-- ==== Sys2Proof/Word.lean ====
section
/-!
DEFINITION. Sys2Proof/Word.lean: the word types of the device (R32: 32-bit registers; R18: bytes of the DRAM).
-/
namespace Sys2Proof

/-- A 32-bit register word (R32). -/
abbrev Word := BitVec 32

/-- One byte of memory or of a frame. -/
abbrev Byte := BitVec 8

end Sys2Proof
end

