-- ==== Sys2Proof/Machine/Operands.lean ====
section
/-!
DEFINITION. Sys2Proof/Machine/Operands.lean: the operand forms of the commands: who makes a register access, which lane,
ring, port or queue a command names, and the facts about the outside world (a flash bundle, a received frame) that a
command brings with it.
-/
namespace Sys2Proof

/-- The requesters of register accesses (R40, R41 `ERR_CAP.SOURCE`). `hardware` is the device's own operation. -/
inductive Requester where
  | hardware | pcie | spi | selet | jtag
  | pe (n : Fin 16)
  deriving DecidableEq, Repr

/-- The SOURCE code of a requester (R41). -/
def Requester.code : Requester → Nat
  | .hardware => 0x00
  | .pcie => 0x01
  | .spi => 0x02
  | .selet => 0x03
  | .jtag => 0x04
  | .pe n => 0x10 + n.val

/-- A lane 0–3 or a host ring 0–3. -/
abbrev Lane := Fin 4

/-- An Ethernet port: 0 EMA, 1 EMB. -/
abbrev EthPort := Fin 2

/-- Where a command comes from: rings 0–3, 4 the mailbox (R100). -/
abbrev Source := Fin 5

/-- A byte address as an access carries it: 24 bits on the SPI, the 22 bits of BAR0, the 20 bits of the register space (R32, R38). -/
abbrev RegAddr := Fin 0x1000000

/-- A host access to configuration space (R79, R752). -/
inductive CfgAccess where
  /-- Bus Master Enable written, with MSI-X Enable and Interrupt Disable -/
  | control (busMaster : Bool)
  /-- Max Payload Size written, 128 or with `true` 256 bytes, and Max Read Request Size, 128 shifted by so many places -/
  | sizes (payload256 : Bool) (readShift : Fin 3)
  /-- the power state, D0 or with `true` D3hot, and ASPM L1 written -/
  | power (d3hot aspmL1 : Bool)
  /-- BAR word `n` written (R80) -/
  | bar (n : Fin 6) (data : BitVec 32)
  /-- uncorrectable errors of Advanced Error Reporting cleared by a write of 1 -/
  | aerClear (bits : BitVec 32)
  /-- what configuration space shows is read -/
  | read
  deriving DecidableEq, Repr

/-- A host access to BAR2 (R80, R111): the per-vector mask of a vector, or one word at a byte offset. -/
inductive Bar2Access where
  | mask (vector : Fin 32)
  | write (off : Fin 0x4000) (data : BitVec 32)
  | read (off : Fin 0x4000)
  deriving DecidableEq, Repr

/-- A malformed SPI frame by its opcode; of a read frame with how many words it had read, each with its side effects, when it ended
(R86, R87). -/
inductive SpiFault where
  | write
  | writeInc
  | read (done : Bool)
  | readInc (done : Nat)
  | unknown
  deriving DecidableEq, Repr

/-- What comes back from a DMA fetch of descriptors (R82, R100): the descriptors; a failed read; or a fetch that was outstanding when its
ring stopped and that the ring no longer waits for. -/
inductive FetchEnd where
  | data (descriptors : List (List (BitVec 8)))
  | failed
  | stale (failed : Bool)
  deriving DecidableEq, Repr

/-- One command in flight: its source and the sequence number it took (R96). -/
structure CmdId where
  src : Source
  seq : Nat
  deriving DecidableEq, Repr

/-- What the verification of a firmware bundle source shows (R172, R178): the checks that apply to a bundle in their
order, with the bundle's ROLLBACK and version. -/
structure BundleFacts where
  blank : Bool
  formatOk : Bool
  keyOk : Bool
  signatureOk : Bool
  hashesOk : Bool
  rollback : Nat
  major : Nat
  minor : Nat
  deriving DecidableEq, Repr

/-- The result words of a successful cold calibration (R191). -/
structure CalResult where
  vcoBand : BitVec 6
  capTrim : BitVec 8
  cpCurrent : BitVec 8
  loopFilter : BitVec 8
  fracCorr : BitVec 16
  iqPhase : BitVec 8
  iqGain : BitVec 8
  deriving DecidableEq, Repr

/-- What a kind of start-up calibration measured (R197): whether it succeeded, how long it took, and the values of the
kinds that store some: gain and phase of each receive entry and power of each transmit entry (kind 5), the result of each
defined channel in index order (kind 6; none: failed), the loop-back reference (kind 7). -/
structure KindFacts where
  ok : Bool
  micros : Nat
  gains : List (BitVec 16 × BitVec 16)
  powers : List (BitVec 16)
  channels : List (Option CalResult)
  refGain : BitVec 16
  refPhase : BitVec 16
  deriving DecidableEq, Repr

/-- What one window of a detector shows (R247): its strongest bin, and the power of that bin after dechirping and transformation, in
1/16 dBm at the lane input ball. -/
structure Window where
  bin : Nat
  power : Int
  deriving DecidableEq, Repr

/-- A sync symbol as measured (R231): its bin, and the bin it is measured against: that of the preamble as the context tracks it, or
that of the delimiter's down-chirps. -/
structure SyncBin where
  bin : Nat
  ref : Nat
  deriving DecidableEq, Repr

/-- What the end of an OFDM frame measures (R266, R297): MEAN_SNR and RATE_ERR. -/
structure OfdmLevels where
  meanSnr : BitVec 8
  rateErr : BitVec 16
  deriving DecidableEq, Repr

/-- What a frame shows of a data tone (R300): |H_d|² from the training symbols and N_d, the mean noise power of the quiet symbols, in one
unit of the receiver's choosing. -/
structure TonePower where
  signal : Nat
  noise : Nat
  deriving DecidableEq, Repr

/-- The mean power that the sense before each lane's beacon has measured at the lane input ball, in 1/16 dBm (R384). -/
structure BeaconSense where
  lane0 : Int
  lane1 : Int
  lane2 : Int
  lane3 : Int
  deriving DecidableEq, Repr

/-- The power measured on lane `n`. -/
def BeaconSense.power (x : BeaconSense) (n : Nat) : Int :=
  match n with
  | 0 => x.lane0
  | 1 => x.lane1
  | 2 => x.lane2
  | _ => x.lane3

/-- The items of the mirror link (R632). The spec gives their content and not their bytes. -/
inductive MirrorItem where
  | hello (role prio : Nat) (identity : List Byte) (routerId : Nat) (kcv : List Byte) (serial fwMajor fwMinor : Nat)
  | heartbeat
  | parcelDelta (parcel first : Nat) (bytes : List Byte)
  | routeDelta (peer : Nat) (record : List Byte)
  | cntRsv (parcel dlRsv : Nat)
  /-- the key wrapped under the mirror key-encryption key; none: the slot was zeroised -/
  | keyEpoch (slot epoch attr : Nat) (wrapped : Option (List Byte))
  | slotDelta (entry word0 word1 : Nat)
  | datum (sec ns frac inc stepGen servo : Nat) (timeOk : Bool)
  | bcnSched (sfn lanes : Nat)
  /-- region 0 parcels, 1 route records, 2 slot entries: bytes from an offset of the DRAM -/
  | bulk (region offset : Nat) (bytes : List Byte)
  | relinquish (mseq : Nat)
  | take (trigger : Nat)
  | taken (sec ns : Nat)
  deriving DecidableEq, Repr

/-- What the read of a DRAM codeword shows (R594): data, one symbol corrected, an error of several symbols taken for one symbol's, with
the 16 bytes that result, or an uncorrectable error. -/
inductive CodewordRead where
  | clean
  | ce (symbol : Fin 36) (syndrome : Nat)
  | miscorrected (symbol : Fin 36) (syndrome : Nat) (bytes : List Byte)
  | ue (syndrome : Nat)
  deriving DecidableEq, Repr

/-- What an SRAM word holds part of (R603, R605): an engine's memory, a buffer cell by its handle, a descriptor slot of a queue, a
decoder context or the OFDM reception of a lane, a line of the parcel or slot-table cache, a key of the working copy, an interface
buffer, the pointers of a queue. -/
inductive SramUnit where
  | engine (n : Fin 16)
  | cell (handle : Fin 14336)
  | descriptor (q : Fin 4096)
  | context (lane : Lane) (ctx : Fin 64)
  | ofdm (lane : Lane)
  | parcelLine
  | slotLine
  | keyEntry (slot : Fin 512)
  | buffer
  | pointer (q : Fin 4096)
  deriving DecidableEq, Repr

/-- What the read of an SRAM word shows (R603). -/
inductive SramRead where
  | clean
  | ce (bit : Fin 72) (syndrome : BitVec 8)
  | ue (syndrome : BitVec 8)
  deriving DecidableEq, Repr

end Sys2Proof
end

