-- ==== Sys2Proof/Syntax.lean ====
section
/-!
DEFINITION. Sys2Proof/Syntax.lean: the commands of the device, one constructor per row of spec/opcode_table.json. Every
operand of a command is a fact of the world outside the device at that command (who accesses, what arrives, what a check
made outside shows); everything the device itself knows is in its state.
-/
namespace Sys2Proof

/-- The commands of the device: one constructor per row of spec/opcode_table.json (95_what_each_step_holds.md). -/
inductive Instr where
  /-- REG_WRITE (R46). A software write to a register that has no row of its own, applied field by field under
  the field-type and same-cycle rules. `allBytes`: all four byte enables are set (R39). -/
  | regWrite (src : Requester) (addr : RegAddr) (allBytes : Bool) (data : Word)
  /-- UNDECODED_ACCESS (R36). An access to an unimplemented page or offset, or to a page the device state does
  not open, ends in a bus error recorded in HIF. -/
  | undecodedAccess (src : Requester) (addr : RegAddr) (isWrite : Bool)
  /-- ALIAS_ACCESS (R53). A read or write through a bit-alias word acts on one bit of a header register by that
  bit's type. `write`: bit [0] of the data of a write; none for a read. -/
  | aliasAccess (src : Requester) (addr : RegAddr) (write : Option Bool)
  /-- LOCK_WRITE (R55). A write to a page's LOCK register sets the bits written 1 and never clears a bit. -/
  | lockWrite (src : Requester) (page : Fin 256) (data : Word)
  /-- ERR_CAP_CLEAR (R44). Writing 0x8000_0000 to ERR_CAP clears CAPTURED and MORE, with a coincident error then
  held as a first error. `coincident`: requester, code and address of an error recorded in the same cycle (R44). -/
  | errCapClear (src : Requester) (page : Fin 256) (coincident : Option (Requester × Fin 256 × Word))
  /-- IRQ_FORCE_WRITE (R41). Writing 1s to IRQ_FORCE sets the matching IRQ_STAT bits as a hardware set would. -/
  | irqForceWrite (src : Requester) (page : Fin 256) (data : Word)
  /-- WIDE_WORD_WRITE (R62). A write to a word of a wide value is held or, for the highest word, commits all
  held words in one cycle. -/
  | wideWordWrite (src : Requester) (addr : RegAddr) (data : Word)
  /-- WIDE_LOW_WORD_READ (R59). A read of the lowest word of a wide value latches its higher words into the
  requester's read shadow. -/
  | wideLowWordRead (src : Requester) (addr : RegAddr)
  /-- PEEK_READ (R66). A read through a peek alias returns what a pop would return and latches higher words
  without consuming. `addr`: any word of a peek alias. -/
  | peekRead (src : Requester) (addr : RegAddr)
  /-- IND_ADDR_WRITE (R68). A write to IND_ADDR sets domain and word address and, in read mode, starts a
  prefetch. -/
  | indAddrWrite (src : Requester) (data : Word)
  /-- IND_CTRL_WRITE (R71). A write to IND_CTRL sets mode and increment, discarding a prefetched word when MODE
  changes. -/
  | indCtrlWrite (src : Requester) (data : Word)
  /-- IND_DATA_WRITE (R70). A write to IND_DATA in write mode issues an indirect write to the current address
  and sets BUSY. -/
  | indDataWrite (src : Requester) (data : Word)
  /-- IND_DATA_READ (R68). A read of IND_DATA returns and consumes the prefetched word, advances WADDR and
  starts the next prefetch. -/
  | indDataRead (src : Requester)
  /-- IND_PREFETCH_DONE (R68). The prefetched indirect word arrives, clearing BUSY and setting RD_VALID.
  `found`: what the read of a DRAM domain shows; `desc`: the queue whose descriptor lies in the codeword. -/
  | indPrefetchDone (found : CodewordRead) (desc : Option (Fin 4096))
  /-- IND_WRITE_ACK (R70). The domain acknowledges an indirect write, clearing BUSY and advancing WADDR. -/
  | indWriteAck
  /-- POWER_ON_RESET (R157). VDD_AON rises from below its threshold, resetting everything including AON and
  clearing the SECURE_HOLD latch. -/
  | powerOnReset
  /-- PIN_RESET (R157). SYS_RST_N held low for at least 1 µs resets the device. -/
  | pinReset
  /-- RESET_CTRL_WRITE (R159). A write to NVC.RESET_CTRL of 0x5AFE_0001 requests a software reset; any other
  value is a reserved encoding. -/
  | resetCtrlWrite (src : Requester) (data : Word)
  /-- SOFTWARE_RESET (R159). The requested software reset takes effect 10 µs after the write arrived in CORE. -/
  | softwareReset
  /-- JTAG_RESET (R157). A reset request through the debug access resets the device. -/
  | jtagReset
  /-- BROWN_OUT (R157). VDD_CORE, VDD_SRAM or VDD_DRAM below its brown-out level for more than 2 µs resets the
  device. -/
  | brownOut
  /-- SYS_WATCHDOG_EXPIRY (R10). The SYS watchdog expires because PE15 failed to service it, causing a watchdog
  reset. -/
  | sysWatchdogExpiry
  /-- RESET_RELEASE (R25). Rails good and all reset sources released, the device leaves RESET for BOOT or, with
  the latch set, SECURE_HOLD. `perstHigh`: the level of PERST_N at t = 2.0 ms of the boot sequence. -/
  | resetRelease (perstHigh : Bool)
  /-- DATUM_PLL_LOCK (R527). The Datum PLL locks and the Datum counter begins to advance. -/
  | datumPllLock
  /-- SELET_CHECK (R173). The SELET copies are ordered as candidates and checked, and the first valid one is
  chosen for application. -/
  | seletCheck
  /-- SELET_RECORD_APPLY (R171). The loader applies the next SELET record, recording any failure and stopping on
  STOP. -/
  | seletRecordApply
  /-- SELET_POLL_MATCH (R169). A POLL record's read matches its value under mask and application continues. -/
  | seletPollMatch
  /-- SELET_POLL_TIMEOUT (R171). A POLL record's timeout expires; the record fails with POLL_TIMEOUT. -/
  | seletPollTimeout
  /-- SELET_DELAY_EXPIRY (R169). A DELAY record's wait ends and application continues. -/
  | seletDelayExpiry
  /-- DRAM_INIT_DONE (R26). DRAM initialisation or self-refresh exit completes; the event store becomes usable
  and held records are written. -/
  | dramInitDone
  /-- BOOT_DRAM_MARCH_DONE (R164). The boot DRAM march requested by the SELET image ends and its result is
  reported. `misr`: the signature the march obtained. -/
  | bootDramMarchDone (misr : BitVec 64)
  /-- WATCH_DRAM_SCRUB_DONE (R166). After WATCH, the scrub of the kept DRAM regions completes, with responses to
  any UE. `lost`: the codewords in which the scrub met an uncorrectable error. -/
  | watchDramScrubDone (lost : List Nat)
  /-- FW_BUNDLE_CHECK (R178). A firmware bundle source has been read and is verified; the first passing one is
  loaded and the engines start. `secondary`: the QSPI secondary location is the one checked. -/
  | fwBundleCheck (secondary : Bool) (bundle : BundleFacts)
  /-- HOST_BUNDLE_WAIT_EXPIRY (R179). The host bundle wait of HOST_WAIT_S ends without a verified bundle. -/
  | hostBundleWaitExpiry
  /-- KEY_STORE_LOAD (R563). At BOOT, KSU reads and verifies every slot, sets its state and loads the working
  copy. `damaged`: halves (true: B) whose ReRAM does not read back what was written. -/
  | keyStoreLoad (damaged : List (Fin 512 × Bool))
  /-- TRNG_STARTUP_DONE (R589). The TRNG start-up health tests finish, at boot or after RESEED, passing or
  failing. -/
  | trngStartupDone (pass : Bool)
  /-- BOOT_DONE (R160). The boot sequence ends, entering READY or MAINTENANCE. `ms`: boot time in ms. -/
  | bootDone (ms : Nat)
  /-- STAGE_TARGET_WRITE (R179). A write to STAGE_CTRL.TARGET selects the staging target and empties the buffer. -/
  | stageTargetWrite (src : Requester) (data : Word)
  /-- STAGE_CLEAR (R176). Writing STAGE_CTRL.CLEAR empties the staging buffer. -/
  | stageClear (src : Requester)
  /-- STAGE_DATA_WRITE (R176). A write to STAGE_DATA appends one word, or sets OVERFLOW beyond capacity. -/
  | stageDataWrite (src : Requester) (data : Word)
  /-- SELET_IMAGE_WRITE (R176). STAGE_GO with TARGET SELET checks the staged image and writes it into the target
  copy. -/
  | seletImageWrite (src : Requester)
  /-- HOST_BUNDLE_STAGE (R179). STAGE_GO with TARGET firmware bundle verifies a host-staged bundle during the
  host wait. -/
  | hostBundleStage (src : Requester) (bundle : BundleFacts)
  /-- KEY_HASH_PROGRAM (R181). STAGE_GO with TARGET key hash burns the SELET key hash into OTP in MAINTENANCE. -/
  | keyHashProgram (src : Requester)
  /-- STAGE_OP_DONE (R177). A staged image write, bundle check or fuse burn completes and STAGE_RESULT reports
  it. `writeOk`: the ReRAM or fuses read back as written. -/
  | stageOpDone (writeOk : Bool)
  /-- PERST_N_ASSERT (R81). PERST_N falls, resetting only the host attachment and disabling every ring. -/
  | perstNAssert
  /-- PERST_N_RELEASE (R81). PERST_N rises and the PCIe PHY leaves reset. -/
  | perstNRelease
  /-- FUNCTION_LEVEL_RESET (R81). A Function Level Reset resets the host attachment as PERST_N does. -/
  | functionLevelReset
  /-- BUS_MASTER_ENABLE_WRITE (R752). PCIe Bus Master Enable changes, stopping or resuming every device request
  on the link. `access`: the access to configuration space; the other two bits belong to a write of the control bits. -/
  | busMasterEnableWrite (access : CfgAccess) (msixEnable intxDisable : Bool)
  /-- PCIE_LINK_CHANGE (R79). The PCIe link goes up or down or changes speed or width, setting LINK_CHANGE. -/
  | pcieLinkChange (up : Bool) (speed : Fin 8) (width : Fin 4)
  /-- POISONED_WRITE (R82). A poisoned posted write arrives and is discarded with POISONED recorded. -/
  | poisonedWrite (addr : RegAddr)
  /-- SPI_WRITE (R84). An SPI WRITE frame writes one register word and returns a status byte. -/
  | spiWrite (addr : RegAddr) (data : Word)
  /-- SPI_READ (R84). An SPI READ frame returns a status byte and one register word. -/
  | spiRead (addr : RegAddr)
  /-- SPI_WRITE_INC (R85). An SPI WRITE_INC frame writes successive words at advancing addresses. -/
  | spiWriteInc (addr : RegAddr) (data : List Word)
  /-- SPI_READ_INC (R86). An SPI READ_INC frame reads successive words, each on the first gap clock after the
  previous. -/
  | spiReadInc (addr : RegAddr) (count : Nat)
  /-- SPI_MALFORMED_FRAME (R87). An SPI frame with a wrong clock count, unknown opcode or short gap records
  SPI_FRAME and writes no incomplete word. `complete`: the data words of a write frame complete before the
  fault; empty for every other frame. -/
  | spiMalformedFrame (addr : RegAddr) (frame : SpiFault) (complete : List Word)
  /-- RING_ENABLE_WRITE (R104). A write of RINGk_CTRL.ENABLE enables, stops, holds or is refused for a command
  ring. A write of RINGk_CTRL. -/
  | ringEnableWrite (src : Requester) (k : Fin 4) (data : Word)
  /-- RING_RESET (R103). Writing RINGk_CTRL.RESET resets a DISABLED ring at once or is held until the ring's
  commands reach their outcomes. A write of RINGk_CTRL that carries RESET = 1. -/
  | ringReset (src : Requester) (k : Fin 4) (data : Word)
  /-- RING_RESET_EFFECT (R103). A held ring RESET takes effect, discarding unwritten records and applying any
  held enable. -/
  | ringResetEffect (k : Fin 4)
  /-- RING_STOPPING_END (R101). All in-flight commands of a STOPPING ring have their records written and the
  ring becomes DISABLED. -/
  | ringStoppingEnd (k : Fin 4)
  /-- RING_CONFIG_WRITE (R102). A write to a ring base or size register takes effect only while DISABLED, else
  records RING_CONFIG. `addr`: a ring's base, size or coalescing word, or the event ring's base word. -/
  | ringConfigWrite (src : Requester) (addr : RegAddr) (data : Word)
  /-- SQ_TAIL_DOORBELL (R100). A write to RINGk_SQ_TAIL rings the doorbell and starts descriptor fetching. -/
  | sqTailDoorbell (src : Requester) (k : Fin 4) (data : Word)
  /-- CQ_HEAD_WRITE (R98). A write to RINGk_CQ_HEAD frees completion entries. -/
  | cqHeadWrite (src : Requester) (k : Fin 4) (data : Word)
  /-- DESC_FETCH_DONE (R100). A DMA fetch of up to 8 descriptors completes; descriptors are taken or the ring
  faults. `data`: what the read of host memory brought. -/
  | descFetchDone (k : Fin 4) (data : FetchEnd)
  /-- DESCRIPTOR_TAKE (R122). A taken descriptor receives its sequence number and runs the acceptance checks in
  order. -/
  | descriptorTake
  /-- CMD_DATA_READ_DONE (R82). A DMA read of a command's data in host memory completes, or fails and completes
  the command DMA_FAIL. `data`: the bytes read from host memory; none if the read failed. -/
  | cmdDataReadDone (id : CmdId) (data : Option (List Byte))
  /-- COMPLETION_WRITE (R97). A completion record is written in sequence order into a free completion entry. -/
  | completionWrite (src : Source)
  /-- COMMAND_TIMEOUT (R619). A command's timeout expires before its outcome, giving TIMEOUT and cancelling
  later attempts. `id`: the command whose timeout expires. -/
  | commandTimeout (id : CmdId)
  /-- MBX_SUBMIT (R107). Writing MBX_SUBMIT.GO submits the descriptor held in MBX_DESC0-15. -/
  | mbxSubmit (src : Requester) (data : Word)
  /-- MBX_DESC_COPY (R107). The device copies the mailbox descriptor once the mailbox queue has room and no
  command is in flight. -/
  | mbxDescCopy
  /-- MBX_CPL_POP (R108). A read of MBX_CPL word 0 pops the head mailbox completion record. -/
  | mbxCplPop (src : Requester)
  /-- VEC_REARM_WRITE (R111). A write to HIF.VEC_REARM re-arms a vector, which fires again at once if active. -/
  | vecRearmWrite (src : Requester) (data : Word)
  /-- COAL_TIMER_EXPIRY (R113). A ring's coalescing time elapses since its oldest unsignalled record, setting
  the completion cause. `host`: 0–3 a command ring, 4 the mailbox, 5–12 host receive ring 0–7. -/
  | coalTimerExpiry (host : Fin 13)
  /-- EVENT_RECORD_WRITE (R119). An event record is written whole into the event store and LOG_NEXT_SEQ
  advances. -/
  | eventRecordWrite
  /-- EVR_BREAK_WRITE (R118). When event ring space returns, a LOG_BREAK record naming the missed records is
  written. -/
  | evrBreakWrite
  /-- EVR_HEAD_WRITE (R118). A write to EVR_HEAD frees event ring entries. -/
  | evrHeadWrite (src : Requester) (data : Word)
  /-- EVR_ENABLE_WRITE (R117). A write of EVR_CTRL.ENABLE starts or stops copying to the event ring, under the
  ring configuration checks. A write of EVR_CTRL. -/
  | evrEnableWrite (src : Requester) (data : Word)
  /-- BENCHMARK (R152). BENCHMARK takes a snapshot and returns the 11-part summary without changing state. `id`:
  the command performed. -/
  | benchmark (id : CmdId)
  /-- MAINT_ENTER (R132). MAINT_ENTER moves the device to MAINTENANCE, lanes finishing their current superframe.
  `id`: the command performed. -/
  | maintEnter (id : CmdId)
  /-- MAINT_ENTER_DONE (R132). Every lane has finished its superframe in progress and MAINT_ENTER completes OK. -/
  | maintEnterDone
  /-- MAINT_EXIT (R133). MAINT_EXIT returns to READY, or to BOOT after a BIST run. `id`: the command performed. -/
  | maintExit (id : CmdId)
  /-- WATCH_ENTER (R134). WATCH_ENTER quiesces the lanes and commits the device to WATCH. `id`: the command
  performed. -/
  | watchEnter (id : CmdId)
  /-- BIST_RUN (R712). BIST_RUN prepares the device and runs the selected logic and memory tests. `id`: the
  command performed. -/
  | bistRun (id : CmdId)
  /-- ROLE_SWAP (R644). ROLE_SWAP on the stroke offers the stroke role to the bow at each superframe end. `id`:
  the command performed. -/
  | roleSwap (id : CmdId)
  /-- NODE_ADD (R137). NODE_ADD registers a node in the lowest free parcel and initialises it. `id`: the command
  performed. -/
  | nodeAdd (id : CmdId)
  /-- NODE_REMOVE (R391). NODE_REMOVE completes the node's downlinks, empties its entries and zeroes its parcel.
  `id`: the command performed. -/
  | nodeRemove (id : CmdId)
  /-- NODE_READ (R139). NODE_READ returns a consistent copy of a parcel in 13 parts. `id`: the command
  performed. -/
  | nodeRead (id : CmdId)
  /-- DL_SEND (R140). DL_SEND copies a downlink payload into a node's mailbox for transmission. `id`: the
  command performed. -/
  | dlSend (id : CmdId)
  /-- WAKE_SEND (R143). WAKE_SEND sends wake telegrams on a lane until answered or retries end. `id`: the
  command performed. -/
  | wakeSend (id : CmdId)
  /-- LANE_CAL (R144). LANE_CAL cold-calibrates a range of channels of a lane in free gaps. `id`: the command
  performed. -/
  | laneCal (id : CmdId)
  /-- FRAME_INJECT (R145). FRAME_INJECT enqueues a host frame into an Ethernet egress queue. `id`: the command
  performed. -/
  | frameInject (id : CmdId)
  /-- QUEUE_FLUSH (R463). QUEUE_FLUSH discards a queue's items at the flush point. `id`: the command performed. -/
  | queueFlush (id : CmdId)
  /-- QUEUE_BREAK_ACK (R147). QUEUE_BREAK_ACK releases a queue held at its oldest STREAM_BREAK marker. `id`: the
  command performed. -/
  | queueBreakAck (id : CmdId)
  /-- KEY_REPLACE (R572). KEY_REPLACE unwraps a key and commits it into a slot by the A/B protocol. Each
  application performs the next part of the sequence; `readBack`: the target half reads back as written. -/
  | keyReplace (id : CmdId) (readBack : Bool)
  /-- KEY_ZEROISE (R575). KEY_ZEROISE zeroises one or all unlocked key slots. -/
  | keyZeroise (id : CmdId)
  /-- UPD_IMAGE_LOAD (R424). UPD_IMAGE_LOAD copies and verifies a node firmware image into an image slot.
  `agree`: the digest of the stored copy equals that of the bytes read. -/
  | updImageLoad (id : CmdId) (agree : Bool)
  /-- UPD_SESSION_START (R434). UPD_SESSION_START plans MCAST entries and starts a coded multicast session. -/
  | updSessionStart (id : CmdId)
  /-- UPD_SESSION_STOP (R442). UPD_SESSION_STOP ends a session and cancels its pending nodes. -/
  | updSessionStop (id : CmdId)
  /-- UPD_SESSION_REPORT (R150). UPD_SESSION_REPORT returns a session's targeted, completed and pending counts. -/
  | updSessionReport (id : CmdId)
  /-- DATUM_STEP (R151). DATUM_STEP steps Datum by a signed offset, subject to the jump threshold unless forced. -/
  | datumStep (id : CmdId)
  /-- ENGINE_RESTART (R9). PE15 finds an engine not answering or with an uncorrectable local error and restarts
  it. `sramUe`: an uncorrectable error of its local SRAM, else no answer; `taken`: input queues of a forwarding
  engine, the queue that receives the output, and the number of items taken and not retired. -/
  | engineRestart (engine : Fin 15) (sramUe : Bool) (taken : List (Fin 4096 × Fin 4096 × Nat))
  /-- ENGINE_RESTART_DONE (R9). A restarted engine is running again from its verified image. -/
  | engineRestartDone (engine : Fin 15)
  /-- LANE_ENABLE_WRITE (R187). A write of LRFn.CTRL.ENABLE turns a lane off or brings it out of OFF. -/
  | laneEnableWrite (src : Requester) (lane : Lane) (data : Word)
  /-- LANE_STANDBY_READY (R187). A calibrated lane completes the 120 µs from OFF to STANDBY. -/
  | laneStandbyReady (lane : Lane)
  /-- STARTUP_CAL_KIND_DONE (R197). One kind of start-up calibration on a lane ends, succeeding or failing. -/
  | startupCalKindDone (lane : Lane) (result : KindFacts)
  /-- STARTUP_CAL_ABANDON (R223). Blank pauses of a start-up calibration reach 500 ms and it is abandoned.
  `facts`: the time the kind has run, and of kind 6 the results of the channels calibrated before. -/
  | startupCalAbandon (lane : Lane) (facts : KindFacts)
  /-- SYNTH_LOCK_DONE (R187). A lane's synthesiser locks on a channel after a hop. -/
  | synthLockDone (lane : Lane)
  /-- LOCK_FAIL (R194). Lock is not confirmed 36 µs after a hop; the entry is invalidated and a cold calibration
  starts. -/
  | lockFail (lane : Lane)
  /-- COLD_CAL_DONE (R195). A cold calibration of a channel ends and its result is written to the store.
  `result`: none if the calibration fails. -/
  | coldCalDone (lane : Lane) (result : Option CalResult)
  /-- ANCHOR_DUE (R201). An anchor channel's age or temperature change makes it due for a background slice. -/
  | anchorDue (lane anchor : Fin 4)
  /-- ANCHOR_OVERDUE (R204). An anchor has been due for twice BG_INTERVAL_S and becomes overdue. -/
  | anchorOverdue (lane anchor : Fin 4)
  /-- BG_SLICE_START (R202). The lane starts a background slice once its conditions and the Cox budget allow. -/
  | bgSliceStart (lane : Lane)
  /-- BG_SLICE_DONE (R200). A background slice completes, updating the anchor and the loop-back measurement.
  `result`: what the slice found; `gain`, `phase`: the loop-back measurement. -/
  | bgSliceDone (lane : Lane) (result : Option CalResult) (gain phase : BitVec 16)
  /-- LANE_CAL_STEP_START (R205). A LANE_CAL step starts in a gap meeting its conditions. -/
  | laneCalStepStart (lane : Lane)
  /-- LANE_CAL_STEP_DONE (R205). A LANE_CAL step's cold calibration and hop back complete. `result`: none if the
  calibration fails. -/
  | laneCalStepDone (lane : Lane) (result : Option CalResult)
  /-- TX_CHANNEL_CHECK (R207). 2 ms before START the transmit engine checks the channel entry and requests a
  cold calibration if unusable. -/
  | txChannelCheck (lane : Lane) (channel : Fin 256)
  /-- TX_REQUEST (R208). A transmit request from PE(2n+1) reaches the lane, which hops or calibrates as needed. -/
  | txRequest (lane : Lane)
  /-- TX_TURNAROUND_START (R216). The receive-to-transmit turnaround begins, halting the detector bank and
  sequencing the FEM pins. -/
  | txTurnaroundStart (lane : Lane)
  /-- TX_END (R217). The last symbol ends and the lane ramps down and returns to receive, standby or its next
  hop. -/
  | txEnd (lane : Lane)
  /-- TX_LATE (R209). Lock is not confirmed by LATEST minus T_TA and the transmission is abandoned. -/
  | txLate (lane : Lane)
  /-- ADC_CLIP (R211). The ADC peak exceeds -3 dBFS and the gain steps down by 4 entries. -/
  | adcClip (lane : Lane)
  /-- AGC_WINDOW (R211). Each 1 ms mean-power window steps the AUTO gain up or down by one entry. `mean`: the
  mean ADC power over 1 ms in 1/16 dBFS. -/
  | agcWindow (lane : Lane) (mean : Int)
  /-- RF_BLANK_ASSERT (R220). RF_BLANK[n] becomes active and the lane blanks its input within 200 ns. -/
  | rfBlankAssert (lane : Lane)
  /-- RF_BLANK_RELEASE (R220). RF_BLANK[n] becomes inactive and receive becomes valid 5 µs later. -/
  | rfBlankRelease (lane : Lane)
  /-- DETECTION (R247). A detector's run of agreeing windows posts a detection to PE(2n). `windows`: the detector's
  latest windows, each half a symbol after the one before, the last one just ended; `rssi`: DET_RSSI. -/
  | detection (lane : Lane) (subch : Fin 8) (sf : Nat) (windows : List Window) (rssi : Int)
  /-- CONTEXT_ASSIGN (R254). PE(2n) assigns a decoder context to a queued detection, pre-empting a weaker
  ACQUIRE context if none is free. -/
  | contextAssign (lane : Lane)
  /-- SYNC_WORD_FOUND (R252). A context in ACQUIRE finds both sync symbols and aligns to the down-chirps.
  `bin1`, `bin2`: the measured bins of the two sync symbols; `foff`: carrier offset in Hz; `ago`: how many
  nanoseconds ago the sync word began at the ball. -/
  | syncWordFound (lane : Lane) (ctx : Fin 64) (bin1 bin2 : SyncBin) (foff : Int) (rssi : BitVec 16) (ago : Nat)
  /-- SYNC_MISS (R253). The preamble peak is lost or no sync word is found within 64 symbols. -/
  | syncMiss (lane : Lane) (ctx : Fin 64)
  /-- HEADER_DECIDE (R236). PE(2n) decodes and checks the 8 header symbols and decides the frame's course.
  `bins`: the strongest bins of the eight header symbols. -/
  | headerDecide (lane : Lane) (ctx : Fin 64) (bins : List Nat) (snr : BitVec 8)
  /-- CSS_PAYLOAD_END (R258). A CSS payload is decoded and ends in FRAMES_OK or PAY_CRC. `bins`: the strongest
  bins of its N_pay symbols. -/
  | cssPayloadEnd (lane : Lane) (ctx : Fin 64) (bins : List Nat) (rateErr : BitVec 16)
  /-- LBB_RX_EN_WRITE (R256). A write of LBBn.CTRL.RX_EN halts or runs the detector bank. -/
  | lbbRxEnWrite (src : Requester) (lane : Lane) (data : Word)
  /-- OFDM_FC_DECODE (R292). The OFDM frame-control symbol is decoded and the selected tone map loaded. `bits`:
  the 64 coded bits of the FC symbol, its repeats combined. -/
  | ofdmFcDecode (lane : Lane) (bits : List Bool)
  /-- OFDM_RX_END (R294). An OFDM payload reception ends in one of its six outcomes. `bytes`: the payload and
  its CRC-32 as decoded; `converged`: every codeword satisfies its checks within `iter` iterations; `ago`: how many ns ago TS_T lies;
  `tones`: the powers of each data tone in this frame. -/
  | ofdmRxEnd (lane : Lane) (converged : Bool) (bytes : List Byte) (iter : Fin 32) (levels : OfdmLevels) (ago : Nat)
      (tones : List TonePower)
  /-- MEAS_TIMEOUT (R300). A measurement lacks NQ_MIN quiet symbols after MEAS_TIMEOUT_S and is abandoned. -/
  | measTimeout (lane : Lane) (peer : Fin 4096)
  /-- RETIRE_TIMEOUT (R309). RETIRE_S elapses since an issue and the peer's retiring-store entry is released. -/
  | retireTimeout (peer : Fin 4096)
  /-- TONE_MAP_RX (R311). A TONE_MAP message from a peer is checked, stored as the transmit map and
  acknowledged. -/
  | toneMapRx (lane : Lane)
  /-- TONE_MAP_ACK_RX (R309). A TONE_MAP_ACK for the new generation releases the peer's retiring entry. -/
  | toneMapAckRx (lane : Lane)
  /-- SUPERFRAME_START (R318). A superframe boundary reaches CORE and per-superframe work begins. `sense`:
  what the sense before each lane's beacon has measured, under a profile with LBT (R384) -/
  | superframeStart (sense : BeaconSense)
  /-- SLOT_OCCURRENCE_START (R335). An entry occurrence begins on a lane, which tunes to the entry's channel. -/
  | slotOccurrenceStart (lane : Lane) (entry : Fin 1048576)
  /-- SLOT_OCCURRENCE_END (R340). An occurrence ends; an UPLINK or PEER occurrence without a hit counts a miss. -/
  | slotOccurrenceEnd (lane : Lane)
  /-- RENDEZVOUS_HOLD_EXPIRY (R341). Two hyperframes pass in RENDEZVOUS without a hit and the node is released. -/
  | rendezvousHoldExpiry (parcel : Fin 262144)
  /-- ACK_SEND (R345). At T_end plus ACK_GAP the device sends an acknowledgement or piggybacked downlink. -/
  | ackSend (lane : Lane)
  /-- DL_ATTEMPT (R348). A carrier occurrence makes one attempt at a node's head downlink. -/
  | dlAttempt (lane : Lane)
  /-- ACK_RECEIVE (R349). A node's acknowledgement verdict reaches the serving engine and decides the downlink
  OK. the acknowledgement received longest ago on the lane -/
  | ackReceive (lane : Lane)
  /-- RESPONSE_WINDOW_CLOSE (R349). The response window of an attempt closes without acknowledgement, leading to
  a retry or TIMEOUT. -/
  | responseWindowClose (parcel : Fin 262144)
  /-- WAKE_ATTEMPT (R357). A wake telegram attempt starts in free lane time. `parcel`: a wake-on-radio node with
  downlinks; `ahead`: the time until START in ns -/
  | wakeAttempt (lane : Lane) (parcel : Option (Fin 262144)) (ahead : Nat)
  /-- WAKE_ANSWER_RX (R356). A WAKE_ANS from the woken node is attributed to the attempt. -/
  | wakeAnswerRx (lane : Lane)
  /-- WAKE_RETRY_TIMER (R356). 100 ms after an attempt's start without an answer, the next attempt falls due. -/
  | wakeRetryTimer (lane : Lane)
  /-- JOIN_REQ_RX (R361). A JOIN_REQ is checked and entries are assigned for the node. `places`: channel, tick
  and phase that PE13 has chosen for each entry; `inTime`: the assignment is complete by the START of the answer -/
  | joinReqRx (lane : Lane) (places : Option (List (Fin 256 × Fin 8192 × Fin 128))) (inTime : Bool)
  /-- JOIN_ACCEPT_TX (R362). At ACCEPT_GAP after the JOIN_REQ the device sends JOIN_ACCEPT if the assignment is
  complete. -/
  | joinAcceptTx (parcel : Fin 262144)
  /-- JOIN_HOLD_EXPIRY (R362). A completed assignment held for one hyperframe expires. -/
  | joinHoldExpiry (parcel : Fin 262144)
  /-- MGMT_RX (R322). A received MGMT frame is dispatched by MGMT_ID, or discarded if reserved. -/
  | mgmtRx (lane : Lane)
  /-- NBR_EN_WRITE (R365). Writing NBRk_ID.EN creates or empties a neighbour's watch entries. -/
  | nbrEnWrite (src : Requester) (k : Fin 64) (data : Word)
  /-- NBR_BEACON_RX (R366). A neighbour's beacon is received and its state returns to TRACKED. -/
  | nbrBeaconRx (lane : Lane)
  /-- NBR_WATCH_END (R366). A watch occurrence ends without the neighbour's beacon and counts a miss. -/
  | nbrWatchEnd (k : Fin 64)
  /-- NBR_HOLD_EXPIRY (R366). A neighbour's 128-superframe HOLD ends and it is RELEASED. -/
  | nbrHoldExpiry (k : Fin 64)
  /-- GRANT_REQUEST (R378). RGL decides an air-time grant for a transmission against its accounts. -/
  | grantRequest (lane : Lane)
  /-- LBT_SENSE_END (R384). A 5 ms listen-before-talk sense ends, clearing or moving or withholding the
  transmission. `power`: the mean power at the ball in 1/16 dBm -/
  | lbtSenseEnd (lane : Lane) (power : Int)
  /-- RGL_BUCKET_BOUNDARY (R375). A bucket of W/16 ends and the oldest bucket leaves each account's window. -/
  | rglBucketBoundary
  /-- PROFILE_WRITE (R383). A write to RGL.PROFILE or PER_LANE schedules a profile change. the write is of
  `RGL.CTRL` (PER_LANE) or of `RGL.PROFILE` -/
  | profileWrite (src : Requester) (ctrl : Bool) (data : Word)
  /-- PROFILE_PREPARE (R383). 10 ms before the switch boundary RGL builds the new accounts and reserves. -/
  | profilePrepare
  /-- ACCT_SEL_WRITE (R375). A write to RGL.ACCT_SEL takes a snapshot of an account. -/
  | acctSelWrite (src : Requester) (data : Word)
  /-- UPLINK_VERDICT (R398). PE12 runs the uplink checks and frame-counter verdict on a verified frame.
  `places`: channel, tick and phase that PE13 has chosen for each new entry -/
  | uplinkVerdict (lane : Lane) (places : List (Fin 256 × Fin 8192 × Fin 128))
  /-- PENDING_SESSION_EXPIRY (R396). A pending session not promoted within one hyperframe is dropped. -/
  | pendingSessionExpiry (parcel : Fin 262144)
  /-- CHILD_REPORT_RX (R419). A repeater's CHILD_REPORT updates its children's periods or marks them lost. -/
  | childReportRx (lane : Lane)
  /-- TARGET_SELECT (R435). PE14 selects a session's target nodes and invites them. -/
  | targetSelect (sid : Fin 4)
  /-- MCAST_POSITION (R438). A frame position of an MCAST occurrence sends the next symbol or END frame. -/
  | mcastPosition (lane : Lane)
  /-- REPORT_GAP_END (R439). The collection gap after a round ends and the next round is planned from reports. -/
  | reportGapEnd (sid : Fin 4) (lane : Lane)
  /-- UPD_STATUS_RX (R440). A node's UPD_STATUS report is read and its target state updated. -/
  | updStatusRx (lane : Lane)
  /-- SESSION_DEADLINE (R442). SFN reaches END_SFN and the session ends with reason DEADLINE. -/
  | sessionDeadline (sid : Fin 4)
  /-- ITEM_ADMIT (R453). An item's first word arrives at a queue and is admitted or refused. The item's first
  words: where it comes from, its time stamp and AUX, the bytes present so far. -/
  | itemAdmit (q : Fin 4096) (kind inst : Fin 16) (ptp : Bool) (aux : Word) (ts : List Byte) (bytes : List Byte)
  /-- ITEM_COMMIT (R458). An item's last word is written, or cut-through begins, and it takes its QSEQ. The rest
  of the item being written; `good` false: its producer ends it short; `mismatch`: the two pointer copies
  differ. -/
  | itemCommit (q : Fin 4096) (rest : List Byte) (good mismatch : Bool)
  /-- QUEUE_FAULT_RESET_END (R465). A queue's fault reset ends and it goes to HELD or OPEN. -/
  | queueFaultResetEnd (q : Fin 4096)
  /-- CELL_SWEEP_DONE (R465). The background sweep frees the cells discarded by a fault reset. -/
  | cellSweepDone
  /-- EGRESS_SELECT (R475). An egress whose previous item has been begun chooses its next queue by priority and
  DWRR. `egress`: 0 EMA, 1 EMB, 2–9 HRX0–HRX7. -/
  | egressSelect (egress : Fin 10)
  /-- HRX_ITEM_WRITE (R454). An item is written by DMA into a host receive ring once the ring has room. `ok`:
  the DMA write succeeds. -/
  | hrxItemWrite (k : Fin 8) (ok : Bool)
  /-- HRX_ENABLE_WRITE (R457). A write of HRXk_CTRL.ENABLE enables or stops a host receive ring. A write of
  HRXk_CTRL. -/
  | hrxEnableWrite (src : Requester) (k : Fin 8) (data : Word)
  /-- HRX_RESET (R457). Writing HRXk_CTRL.RESET clears a disabled or faulted ring's pointers and phase. -/
  | hrxReset (src : Requester) (k : Fin 8)
  /-- HRX_HEAD_WRITE (R454). A write to HRXk_HEAD frees host receive ring entries. -/
  | hrxHeadWrite (src : Requester) (k : Fin 8) (data : Word)
  /-- QW_SEL_WRITE (R459). A write to QW_SEL selects a queue and discards unread QW_DATA words. -/
  | qwSelWrite (src : Requester) (data : Word)
  /-- QW_QCFG_WRITE (R460). A write to QW_QCFG enables or disables a queue and sets its configuration. -/
  | qwQcfgWrite (src : Requester) (data : Word)
  /-- QW_POP_READ (R459). A read of QW_POP word 0 pops the head item of a HOST_POP queue. -/
  | qwPopRead (src : Requester)
  /-- QW_DATA_READ (R459). A read of QW_DATA consumes the next word of the popped item. -/
  | qwDataRead (src : Requester)
  /-- TSS_REFILL (R477). Every 1.024 µs shapers and policers gain credit. -/
  | tssRefill
  /-- RADIO_SHAPER_TICK (R482). At each Datum tick the radio class shapers gain packet credit. -/
  | radioShaperTick
  /-- SAMPLE_INSTANT (R494). At a sample instant every enabled queue's depth and delay are sampled. -/
  | sampleInstant
  /-- ST_SNAP (R496). Writing ST_CTRL.SNAP starts a copy of a queue's statistics into registers. -/
  | stSnap (src : Requester)
  /-- ST_SNAP_DONE (R496). The statistics snapshot completes and VALID reads 1. -/
  | stSnapDone
  /-- ST_CLEAR (R495). Writing ST_CTRL.CLEAR clears a queue's statistics. -/
  | stClear (src : Requester)
  /-- GCL_SWITCH (R489). Writing Lx_CTRL.SWITCH checks the administrative gate list and schedules a switch or
  refuses it. `list`: 0 EMA, 1 EMB, 2–5 lanes 0–3. -/
  | gclSwitch (src : Requester) (list : Fin 6)
  /-- GCL_SWITCH_INSTANT (R490). At the switch instant the gate list banks exchange roles. -/
  | gclSwitchInstant (list : Fin 6)
  /-- GATE_ENTRY_ADVANCE (R487). A gate entry's interval ends or a cycle starts and the next entry applies. -/
  | gateEntryAdvance (list : Fin 6)
  /-- GCL_WIN_DATA_ACCESS (R487). An access to GCL.WIN_DATA reads or writes a gate entry and advances ENTRY.
  `write`: the data of a write; none for a read. -/
  | gclWinDataAccess (src : Requester) (write : Option Word)
  /-- ETH_LINK_CHANGE (R501). An Ethernet port's line rate changes, including link up or down. `rate`: the code
  of R500; `sending`: a frame is being sent. -/
  | ethLinkChange (port : EthPort) (rate : Fin 5) (sending : Bool)
  /-- ETH_MODE_WRITE (R502). A write to MODE or AN_EN restarts the link in the new mode, or is refused while
  enabled. -/
  | ethModeWrite (src : Requester) (port : EthPort) (data : Word)
  /-- ETH_RX_FRAME (R507). A received Ethernet frame is checked, classified and enqueued. `frame`: FCS included. -/
  | ethRxFrame (port : EthPort) (frame : List Byte)
  /-- PAUSE_EXPIRY (R511). A received pause's time ends and the port may transmit again. -/
  | pauseExpiry (port : EthPort)
  /-- PAUSE_WDOG_FIRE (R512). A port held by PAUSE for WDOG_MS ends the pause and starts ignoring PAUSE. -/
  | pauseWdogFire (port : EthPort)
  /-- PAUSE_HOLD_END (R512). The watchdog's HOLD_MS of ignoring PAUSE ends. -/
  | pauseHoldEnd (port : EthPort)
  /-- PAUSE_TX_REPEAT (R513). While buffers stay low the port repeats its PAUSE each half pause time. -/
  | pauseTxRepeat (port : EthPort)
  /-- ETH_TX_BEGIN (R505). A port begins transmitting an item, applying tags, MACsec, one-step rewrite and
  stamping. -/
  | ethTxBegin (port : EthPort)
  /-- LPI_ENTER (R514). A port idle for LPI_IDLE_US enters transmit low-power idle. -/
  | lpiEnter (port : EthPort)
  /-- LPI_WAKE_DONE (R515). TW_TX_US after leaving LPI the port may begin transmitting. -/
  | lpiWakeDone (port : EthPort)
  /-- SA_CFG_WRITE (R521). A write to the SA window configures or enables a MACsec association, fetching its
  key. `word`: 0 SA_CFG, 1 SA_PN, 2 RX_SCI, 3 its high word. -/
  | saCfgWrite (src : Requester) (port : EthPort) (word : Fin 4) (data : Word)
  /-- TUNNEL_ENCAP (R524). An engine encapsulates an outbound tunnel item and enqueues it to the output queue. -/
  | tunnelEncap (port : EthPort)
  /-- TUNNEL_DECAP (R524). An engine checks a received tunnel frame and enqueues its inner item. -/
  | tunnelDecap (port : EthPort)
  /-- MDIO_GO (R525). Writing MDIO_CMD.GO sends one MDIO frame. A write of MDIO_CMD that carries GO = 1. -/
  | mdioGo (src : Requester) (port : EthPort) (data : Word)
  /-- MDIO_DONE (R525). An MDIO frame completes and read data is valid. -/
  | mdioDone (port : EthPort) (data : BitVec 16)
  /-- TXTS_POP (R519). A read of TXTS word 0 pops the oldest egress time stamp. -/
  | txtsPop (src : Requester) (port : EthPort)
  /-- DTM_TIME_SNAPSHOT (R529). A read of DTM.TIME word 0 captures the Datum counter and latches its words. -/
  | dtmTimeSnapshot (src : Requester)
  /-- INC_WRITE (R534). A write to DTM.INC sets the Datum increment, or is refused when the servo owns it.
  `high`: the word is the high one. -/
  | incWrite (src : Requester) (high : Bool) (data : Word)
  /-- ADJ_PHASE_WRITE (R535). A write to ADJ_PHASE starts a slew, or is refused by ownership or jump threshold. -/
  | adjPhaseWrite (src : Requester) (data : Word)
  /-- SLEW_DONE (R535). A slew's remainder reaches 0. -/
  | slewDone
  /-- SRC_CFG_WRITE (R541). A change of SOURCE puts the servo into its starting state for the new source. -/
  | srcCfgWrite (src : Requester) (data : Word)
  /-- HOST_LOCK_WRITE (R543). A write of DTM.CTRL.HOST_LOCK sets the servo state under SOURCE HOST. -/
  | hostLockWrite (src : Requester) (data : Word)
  /-- PTP_SYNC_RX (R542). A Sync from the chosen master yields an offset that the servo slews, steps or refuses.
  `t1`, `t2`: origin time and ingress stamp in ns with the corrections; `gen`: STEP_GEN of the stamp. -/
  | ptpSyncRx (port : EthPort) (domain : Fin 256) (clockId : Fin (2 ^ 64)) (t1 t2 : Nat) (gen : Fin 4)
  /-- PTP_ANNOUNCE_RX (R546). An Announce is compared and may change the chosen master. `dataset`: the data set
  in the order of comparison. -/
  | ptpAnnounceRx (port : EthPort) (domain : Fin 256) (clockId : Fin (2 ^ 64)) (portNumber : Fin 65536) (dataset : List Nat)
  /-- PTP_DELAY_RESP_RX (R545). A Delay_Resp or Pdelay_Resp completes a path delay measurement. The four times
  of the exchange in ns; `gens`: STEP_GEN of the stamps that the device took of it. -/
  | ptpDelayRespRx (port : EthPort) (t1 t2 t3 t4 : Nat) (gens : List (Fin 4))
  /-- PTP_PDELAY_REQ_RX (R545). A received Pdelay_Req is answered in P2P mode. -/
  | ptpPdelayReqRx (port : EthPort) (seq : Fin 65536) (requester : List Byte)
  /-- PTP_DELAY_REQ_TX (R545). The servo's delay request interval expires and it sends a Delay_Req or
  Pdelay_Req. -/
  | ptpDelayReqTx (port : EthPort)
  /-- PTP_MASTER_LOSS (R547). No Announce or Sync arrives within ANN_TIMEOUT intervals and the master is lost. -/
  | ptpMasterLoss
  /-- HOLDOVER_EXPIRY (R543). HOLDOVER_S passes in HOLDOVER and the servo goes to FREE_RUN. -/
  | holdoverExpiry
  /-- PPS_IN_EDGE (R549). An active PPS_IN edge is stamped and, under SOURCE PPS, measured. -/
  | ppsInEdge
  /-- PPS_SOURCE_LOSS (R550). No PPS_IN edge for 3 s and the PPS source is lost. -/
  | ppsSourceLoss
  /-- PPS_OUT_START (R548). Datum crosses a whole second less ADV_NS and PPS_OUT becomes active. -/
  | ppsOutStart
  /-- PPS_OUT_END (R548). WIDTH_MS after its start PPS_OUT returns inactive. -/
  | ppsOutEnd
  /-- PPS_TS_POP (R549). A read of PPS_TS word 0 pops the PPS_IN stamp. -/
  | ppsTsPop (src : Requester)
  /-- CCM_REQUEST (R570). A lane engine's CCM* request is served with a derived key and returns its result. -/
  | ccmRequest (lane : Lane)
  /-- GCM_REQUEST (R582). A MACsec or tunnel GCM request is served after CCM* requests. `ccmWaits`: CCM*
  requests wait and are served first. -/
  | gcmRequest (ccmWaits : Bool)
  /-- GCM_SATURATED (R583). Once per second while GCM requests wait, GCM_SATURATED sets. -/
  | gcmSaturated
  /-- KEY_SWEEP (R564). Every 10 s KSU re-verifies the halves of the next slot. `damaged`: the slot's ReRAM does
  not read back what was written. -/
  | keySweep (damaged : Bool)
  /-- KEY_WORKING_RELOAD (R564). A working-copy entry hit by an uncorrectable error is reloaded and verified.
  `damaged`: the slot's ReRAM does not read back what was written. -/
  | keyWorkingReload (slot : Fin 512) (damaged : Bool)
  /-- SLOT_SEL_WRITE (R553). A write to KSU.SLOT_SEL takes a snapshot of a key slot's state. -/
  | slotSelWrite (src : Requester) (data : Word)
  /-- JOB_SHA256 (R585). JOB_CTRL with OP SHA256 and GO starts a digest job. A write of JOB_CTRL with OP 0x1 and
  GO 1. -/
  | jobSha256 (src : Requester)
  /-- JOB_ECDSA_VERIFY (R585). JOB_CTRL with OP ECDSA_VERIFY starts a signature verification. A write of
  JOB_CTRL with OP 0x2 and GO 1. -/
  | jobEcdsaVerify (src : Requester)
  /-- JOB_ECDSA_SIGN (R585). JOB_CTRL with OP ECDSA_SIGN starts a signature with a slot key or IDK. A write of
  JOB_CTRL with OP 0x3 and GO 1. -/
  | jobEcdsaSign (src : Requester)
  /-- JOB_ID_PUB (R585). JOB_CTRL with OP ID_PUB returns the identity public key. A write of JOB_CTRL with OP
  0x4 and GO 1. -/
  | jobIdPub (src : Requester)
  /-- JOB_KEY_AGREE (R586). JOB_CTRL with OP KEY_AGREE derives an ECDH key and commits it into a target slot. A
  write of JOB_CTRL with OP 0x5 and GO 1. -/
  | jobKeyAgree (src : Requester)
  /-- JOB_RANDOM (R585). JOB_CTRL with OP RANDOM returns DRBG output. A write of JOB_CTRL with OP 0x6 and GO 1. -/
  | jobRandom (src : Requester)
  /-- JOB_DATA_WRITE (R587). A write to JOB_DATA feeds four message bytes to a running SHA256 job. -/
  | jobDataWrite (src : Requester) (data : Word)
  /-- JOB_DONE (R587). A host crypto job ends and its result is ready at JOB_RES. Each application performs the
  next part of a KEY_AGREE; `readBack`: the target half reads back as written. -/
  | jobDone (readBack : Bool)
  /-- JOB_RES_POP (R587). A read of JOB_RES word 0 pops the job result. -/
  | jobResPop (src : Requester)
  /-- TRNG_SEED_COLLECT (R589). A seed collection completes or fails its health tests, three failures failing
  the TRNG. `result`: 0 the collection passes, 1 it fails the repetition count test, 2 the adaptive proportion
  test. -/
  | trngSeedCollect (result : Fin 3)
  /-- DRBG_RESEED_TIMER (R588). After 65,536 requests or 60 s the DRBG reseeds. -/
  | drbgReseedTimer
  /-- TRNG_RESEED (R589). Writing TRNG.CTRL.RESEED reruns the start-up tests. -/
  | trngReseed (src : Requester)
  /-- TRNG_RAW_POP (R591). A read of TRNG.RAW pops one raw entropy sample in MAINTENANCE. -/
  | trngRawPop (src : Requester)
  /-- TAMPER_DETECT (R705). A tamper input, mesh break or sensor alarm is detected in AON. `source`: 0 TAMPER0,
  1 TAMPER1, 2 shield mesh, 3 to 5 the voltage, temperature and clock sensors. -/
  | tamperDetect (source : Fin 6)
  /-- ZOT_OVERWRITE_DONE (R579). The overwrite of every zeroise-on-tamper half completes. -/
  | zotOverwriteDone
  /-- SCRUB_READ (R598). The scrubber reads the next codeword below its target position. `demand`: a demand read
  or, with `true`, the read of a merge reaches that codeword instead; `desc`: the queue whose descriptor lies in
  the codeword. -/
  | scrubRead (demand : Option (Fin 8388608 × Bool)) (found : CodewordRead) (desc : Option (Fin 4096))
  /-- SCRUB_LATE (R600). A scrub pass has not ended 1.1 times its period after it began. -/
  | scrubLate
  /-- SRAM_SWEEP (R604). The SRAM sweeper reads SRAM words on its 60 s schedule. `addr`: the word read;
  `demand`: a demand read meets it instead of the sweeper. -/
  | sramSweep (addr : Word) (unit : SramUnit) (demand : Bool) (found : SramRead)
  /-- ERR_LOG_POP (R608). A read of MEM.ERR_LOG word 0 pops the oldest memory error record. -/
  | errLogPop (src : Requester)
  /-- ROLE_DECISION_TIMEOUT (R625). No HELLO within 5 s of READY and the role is decided from ILK_IN. No
  operand. -/
  | roleDecisionTimeout
  /-- MIRROR_FRAME_RX (R631). A mirror frame arrives and its items are applied in MSEQ order and acknowledged.
  `crcOk`: the CRC-32C is good; `rtt`: the measured round trip in ns. -/
  | mirrorFrameRx (crcOk : Bool) (mseq ack : BitVec 32) (items : List MirrorItem) (rtt : BitVec 16)
  /-- MIRROR_RETRANSMIT (R631). 200 µs without acknowledgement, unacknowledged mirror frames are resent. No
  operand. -/
  | mirrorRetransmit
  /-- MIRROR_LINK_TIMEOUT (R630). No valid mirror frame for 1 ms and the link goes DOWN. No operand. -/
  | mirrorLinkTimeout
  /-- MIRROR_HEARTBEAT (R630). Each side sends a HEARTBEAT at least every 100 µs. No operand. -/
  | mirrorHeartbeat
  /-- MIRROR_SYNC_DONE (R633). The bulk copy ends and the link becomes PAIRED. No operand. -/
  | mirrorSyncDone
  /-- MIRROR_ACK_DEADLINE (R634). A needed mirror acknowledgement is missing 1 ms before an air
  acknowledgement's START. `parcel`: the node whose acknowledgement would start in 1 ms. -/
  | mirrorAckDeadline (parcel : Fin 262144)
  /-- STROKE_HOLD_END (R635). The stroke's HOLD after leaving PAIRED ends and it runs unmirrored. No operand. -/
  | strokeHoldEnd
  /-- FRESH_EXPIRY (R636). The bow's FRESH hold after leaving PAIRED expires. No operand. -/
  | freshExpiry
  /-- ILK_IN_CHANGE (R627). ILK_IN changes level after its filter, opening or closing the interlock gate.
  `active`: the new level after the filter. -/
  | ilkInChange (active : Bool)
  /-- ILK_CONFLICT_BACKOFF_END (R628). The random backoff after an interlock conflict ends and the chip claims
  again or becomes bow. No operand. -/
  | ilkConflictBackoffEnd
  /-- ILK_LOSS_TIMER (R639). ILK_IN stays inactive for ILK_MS, a takeover trigger. No operand. -/
  | ilkLossTimer
  /-- FORCE_TKO_WRITE (R639). Writing RED.CTRL.FORCE_TKO on a bow triggers a takeover. `src`: who writes;
  `data`: the other bits of the write. -/
  | forceTkoWrite (src : Requester) (data : Word)
  /-- TAKEOVER_START (R640). A fresh bow on a trigger becomes TAKING and applies outstanding items. No operand. -/
  | takeoverStart
  /-- TAKEOVER_COMPLETE (R640). With ILK_IN inactive the bow drives ILK_OUT and becomes stroke. No operand. -/
  | takeoverComplete
  /-- TAKEOVER_ABANDON (R643). ILK_IN is still active 100 ms into a takeover and it is abandoned. No operand. -/
  | takeoverAbandon
  /-- ROLE_SWAP_OFFER (R644). At tick 8,191 the stroke offers the hand-over and sends RELINQUISH. No operand. -/
  | roleSwapOffer
  /-- SWAP_OFFER_TIMEOUT (R644). 900 µs after RELINQUISH without TAKEN the stroke resumes. No operand. -/
  | swapOfferTimeout
  /-- HEAT_START (R652). A heat begins and each Cox account receives its allowance. `charges`: what engines and
  the fabric used since the last boundary, by account. -/
  | heatStart (charges : List (Fin 32 × Nat))
  /-- PATH_READING (R662). The path replicas are read and the worst margin updated. `margins`: each replica read
  and its margin in mV. -/
  | pathReading (margins : List (Fin 32 × BitVec 16))
  /-- TEMP_READING (R661). The temperature sensors are read. `temps`: each sensor read and its temperature. -/
  | tempReading (temps : List (Fin 12 × BitVec 8))
  /-- CANARY_READING (R663). The SRAM canaries are stepped down and read. `margins`: each canary array read and
  its margin in mV. -/
  | canaryReading (margins : List (Fin 8 × BitVec 16))
  /-- RETENTION_PROBE_INTERVAL (R664). A probe row's unrefreshed interval ends and it is read back. `row` held
  its pattern for 64 × 2^`k` ms or not. -/
  | retentionProbeInterval (row : Fin 16) (k : Fin 5) (survived : Bool)
  /-- PLAN_START (R666). A Margin Manager plan falls due and chooses clock, voltage, refresh, scrub and
  calibration. No operand. -/
  | planStart
  /-- PLAN_NOW_WRITE (R666). Writing MGM.CTRL.PLAN_NOW starts a plan. `src`: who writes; `data`: the other bits
  of the write. -/
  | planNowWrite (src : Requester) (data : Word)
  /-- CLK_RAMP_STEP (R672). CLK_CORE moves one 25 MHz step every 10 µs during a plan's ramp. No operand. -/
  | clkRampStep
  /-- PMBUS_TRANSACTION_DONE (R677). A PMBus transaction completes or fails to be acknowledged. `command`,
  whether it was acknowledged, and the word read. -/
  | pmbusTransactionDone (command : BitVec 8) (ack : Bool) (data : BitVec 16)
  /-- AVS_SETTLE_TIMEOUT (R679). A voltage is not confirmed within SETTLE plus 1 ms, an AVS fault. No operand. -/
  | avsSettleTimeout
  /-- PMBUS_POLL (R677). Every 1 s MGM reads READ_IOUT and STATUS_WORD. No operand. -/
  | pmbusPoll
  /-- VID_SETTLE_EXPIRY (R678). SETTLE_US after a VID change, the next reading confirms the voltage. No operand. -/
  | vidSettleExpiry
  /-- AVS_RESET_WRITE (R679). Writing MGM.CTRL.AVS_RESET clears an AVS fault and starts a plan. `src`: who
  writes; `data`: the other bits of the write. -/
  | avsResetWrite (src : Requester) (data : Word)
  /-- AGE_HOUR (R681). An operating hour passes and AGE_H advances in the ageing log. No operand. -/
  | ageHour
  /-- PWR_REQ_WRITE (R685). A write to SYS.CTRL.PWR_REQ requests FULL or REDUCED. -/
  | pwrReqWrite (src : Requester) (data : Word)
  /-- MAINS_OK_FALL (R687). Filtered MAINS_OK falls and the grace interval begins. -/
  | mainsOkFall
  /-- MAINS_GRACE_EXPIRY (R687). MAINS_OK stays low for GRACE_MS, starting HOLD-UP in READY. -/
  | mainsGraceExpiry
  /-- MAINS_OK_RISE (R693). Filtered MAINS_OK rises, ending a glitch or starting the restore interval. -/
  | mainsOkRise
  /-- MAINS_RESTORE_EXPIRY (R693). MAINS_OK stays high for RESTORE_MS in WATCH and the device leaves WATCH.
  `elapsed`: the seconds that have passed in WATCH. -/
  | mainsRestoreExpiry (elapsed : Nat)
  /-- LAST_GASP_TX (R689). A last-gasp frame is sent on a port after the frame in progress. -/
  | lastGaspTx (port : EthPort)
  /-- LG_TIMEOUT_EXPIRY (R689). Last-gasp frames not begun within LG_TIMEOUT_MS are abandoned. -/
  | lgTimeoutExpiry
  /-- WATCH_COMMIT (R690). No transmission in progress and last gasps settled, the device commits to WATCH. -/
  | watchCommit
  /-- WATCH_ENTRY_DONE (R690). Domains are isolated and the device is in WATCH. -/
  | watchEntryDone
  /-- WUR_TELEGRAM_RX (R695). The wake-up receiver receives a telegram and checks it for a match. `preamble`:
  its preamble is exact; `elapsed`: the seconds that have passed in WATCH since the last event. -/
  | wurTelegramRx (preamble crcOk : Bool) (addr : Word) (cmd rssi : Byte) (elapsed : Nat)
  /-- CLOCK_REF_LOSS (R699). A clock reference monitor reports loss. `monitor`: 0 40 MHz, 1 125 MHz, 2 100 MHz,
  3 crystal. -/
  | clockRefLoss (monitor : Fin 4)
  /-- CLOCK_REF_RESTORE (R699). A lost clock reference returns. `monitor`: 0 40 MHz, 1 125 MHz, 2 100 MHz, 3
  crystal. -/
  | clockRefRestore (monitor : Fin 4)
  /-- XTAL_STABLE_EXPIRY (R699). The crystal oscillates stably for 1 s and AON returns to it. -/
  | xtalStableExpiry
  /-- LG_DATA_WRITE (R689). A write to SYS.LG_DATA loads a last-gasp frame word and advances WORD. -/
  | lgDataWrite (src : Requester) (data : Word)
  /-- AON_SHADOW_WRITE (R708). A write to an AON or WUR page updates the shadow and queues the write to AON. -/
  | aonShadowWrite (src : Requester) (addr : RegAddr) (data : Word)
  /-- AON_WRITE_APPLY (R708). A queued write reaches AON and takes effect there. -/
  | aonWriteApply
  /-- BIST_TEST_DONE (R713). A selected BIST test ends and its completion part is written. `misr`: the signature
  obtained; `micros`: the duration of the test. -/
  | bistTestDone (misr : BitVec 64) (micros : Nat)
  /-- AN_DONE (R500). Auto-negotiation or the SGMII control-word exchange completes, setting AN_DONE, or finds a
  half-duplex partner and sets AN_FAIL with the link left down. `pause`: pause resolved toward this port. -/
  | anDone (port : EthPort) (fullDuplex pause : Bool)
  /-- DATUM_ITEM_SEND (R632). Every 1 ms the stroke sends a DATUM mirror item with its counter, INC, STEP_GEN,
  servo state and TIME_OK. No operand. -/
  | datumItemSend
  /-- PER_VECTOR_MASK_WRITE (R111). A host write in BAR2 sets or clears an MSI-X per-vector mask, and clearing
  it sends a deferred message shown in the Pending Bit Array. `access`: the access to BAR2; `masked` belongs to a write of a mask. -/
  | perVectorMaskWrite (access : Bar2Access) (masked : Bool)
  /-- TIME_OK_HOLD_EXPIRY (R544). HOLDOVER_S passes since the last measurement accepted in LOCKED while the
  servo is REFUSED or in an ACQUIRING entered by a master change, and TIME_OK falls to 0. -/
  | timeOkHoldExpiry
  deriving DecidableEq, Repr

end Sys2Proof
end

