-- ==== Sys2Proof/WellFormed.lean ====
section
/-!
DEFINITION. Sys2Proof/WellFormed.lean: the operands a command can have beyond what their types say: lengths and ranges that the
rules give to what arrives from outside.
-/
namespace Sys2Proof

/-- A list of at least `lo` and at most `hi` things. -/
def lengthIn {α : Type} (lo hi : Nat) (l : List α) : Bool := lo ≤ l.length && l.length ≤ hi

/-- A command whose operands lie in the ranges of the rules. Operands that are not named here are bounded by their types. -/
def Instr.wellFormed : Instr → Bool
  | .watchDramScrubDone lost => lost.all (· < 2 ^ 23)
  | .spiWriteInc _ data => lengthIn 1 262144 data
  | .spiReadInc _ count => 0 < count
  | .spiMalformedFrame _ frame complete => match frame with
    | .write => complete.length ≤ 1
    | .writeInc => true
    | .read _ => complete.isEmpty
    | .readInc _ => complete.isEmpty
    | .unknown => complete.isEmpty
  | .descFetchDone _ data => match data with
    | .data ds => lengthIn 1 8 ds && ds.all (fun d => d.length == 64)
    | .failed => true
    | .stale _ => true
  | .detection _ _ sf windows _ => 5 ≤ sf && sf ≤ 12 && windows.all (fun w => w.bin < 2 ^ sf)
  | .syncWordFound _ _ bin1 bin2 _ _ _ => bin1.bin < 4096 && bin1.ref < 4096 && bin2.bin < 4096 && bin2.ref < 4096
  | .headerDecide _ _ bins _ => bins.length == 8 && bins.all (· < 4096)
  | .cssPayloadEnd _ _ bins _ => lengthIn 5 688 bins && bins.all (· < 4096)
  | .ofdmFcDecode _ bits => bits.length == 64
  | .ptpSyncRx _ _ _ t1 t2 _ => t1 < 2 ^ 80 && t2 < 2 ^ 80
  | .ptpPdelayReqRx _ _ requester => requester.length == 10
  | .ethRxFrame _ frame => lengthIn 1 65535 frame
  | .bistTestDone _ micros => micros < 2 ^ 24
  | _ => true

end Sys2Proof
end

