-- ==== Sys2Proof/Decode.lean ====
section
/-!
DEFINITION. Sys2Proof/Decode.lean: commands spelt as words. No row of spec/opcode_table.json gives its command any bits: a command
of this block is an access, an arrival or the end of an interval, not a word.
-/
namespace Sys2Proof

/-- The command that the table's bits spell: none, since no row gives bits. -/
def decodeTableWord (_nbits _w : Nat) : Option Instr := none

end Sys2Proof
end

