-- ==== Sys2Proof/Machine/Table.lean ====
section
/-!
DEFINITION. Sys2Proof/Machine/Table.lean: sparse data by number, in one canonical form: a list of (key, value) pairs with
keys strictly rising and no value equal to what an unlisted key reads as. Memory, the register file, lanes, queues and
slots are all kept so; equal contents are equal data.
-/
namespace Sys2Proof.Machine

/-- A sparse table of values by number. -/
abbrev Tbl (α : Type) := List (Nat × α)

namespace Tbl

variable {α : Type}

/-- The value at key `k`; `d k` where the table lists none. -/
def get (d : Nat → α) : Tbl α → Nat → α
  | [], k => d k
  | (k', v) :: t, k => if k' = k then v else get d t k

/-- The table without key `k`. -/
def erase (k : Nat) : Tbl α → Tbl α
  | [] => []
  | (k', v) :: t => if k' = k then erase k t else (k', v) :: erase k t

/-- The table with `v` placed at key `k` before the first greater key. -/
def ins (k : Nat) (v : α) : Tbl α → Tbl α
  | [] => [(k, v)]
  | (k', v') :: t => if k < k' then (k, v) :: (k', v') :: t else (k', v') :: ins k v t

/-- Writing `v` at key `k`; a value equal to the unlisted one removes the entry. -/
def put [DecidableEq α] (d : Nat → α) (t : Tbl α) (k : Nat) (v : α) : Tbl α :=
  if v = d k then erase k t else ins k v (erase k t)

/-- The table with `f` applied to every listed value; a value that becomes the unlisted one leaves the table. -/
def mapVals [DecidableEq α] (d : Nat → α) (f : Nat → α → α) : Tbl α → Tbl α
  | [] => []
  | (k, v) :: t => if f k v = d k then erase k (mapVals d f t) else (k, f k v) :: mapVals d f t

/-- Whether every key of the table is above `b` and the keys rise strictly. -/
def rising : Nat → Tbl α → Bool
  | _, [] => true
  | b, (k, _) :: t => decide (b < k) && rising k t

/-- The canonical form: keys strictly rising, no listed value equal to the unlisted one. -/
def wf [DecidableEq α] (d : Nat → α) (t : Tbl α) : Bool :=
  (match t with
   | [] => true
   | (k, _) :: t' => rising k t') && t.all (fun e => decide (e.2 ≠ d e.1))

end Tbl

end Sys2Proof.Machine
end

