-- ==== Sys2Proof/Machine/Bits.lean ====
section
/-!
DEFINITION. Sys2Proof/Machine/Bits.lean: bit fields of words, little-endian and big-endian bytes, signed readings of bit
patterns, and saturating counts (R47, R91: multi-byte fields are little-endian).
-/
namespace Sys2Proof.Machine

/-- Bits [lsb+width-1 : lsb] of `n`. -/
def bitsOf (n lsb width : Nat) : Nat := n / 2 ^ lsb % 2 ^ width

/-- `w` with bits [lsb+width-1 : lsb] replaced by the low bits of `v`. -/
def insBits (w : Word) (lsb width v : Nat) : Word :=
  let mask : Word := BitVec.ofNat 32 ((2 ^ width - 1) * 2 ^ lsb)
  (w &&& ~~~mask) ||| (BitVec.ofNat 32 (v % 2 ^ width * 2 ^ lsb) &&& mask)

/-- Bit `b` of a number. -/
def bit (n b : Nat) : Bool := n / 2 ^ b % 2 == 1

/-- 0 or 1. -/
def b01 (b : Bool) : Nat := if b then 1 else 0

/-- The `n` low bytes of `v`, least significant first. -/
def leBytes : Nat → Nat → List Byte
  | 0, _ => []
  | n + 1, v => BitVec.ofNat 8 v :: leBytes n (v / 256)

/-- The number a list of bytes spells, least significant first. -/
def leNat : List Byte → Nat
  | [] => 0
  | b :: t => b.toNat + 256 * leNat t

/-- The `n` low bytes of `v`, most significant first. -/
def beBytes (n v : Nat) : List Byte := (leBytes n v).reverse

/-- The number a list of bytes spells, most significant first. -/
def beNat (bs : List Byte) : Nat := leNat bs.reverse

/-- `n` bytes from position `i`, as a little-endian number; bytes beyond the end count as 0. -/
def fieldAt (bs : List Byte) (i n : Nat) : Nat := leNat ((bs.drop i).take n)

/-- `n` bytes from position `i`, padded with zero bytes. -/
def slice (bs : List Byte) (i n : Nat) : List Byte :=
  ((bs.drop i).take n) ++ List.replicate (n - (bs.drop i).length) 0#8

/-- `bs` with the bytes `v` written from position `i` (inside its length). -/
def splice (bs : List Byte) (i : Nat) (v : List Byte) : List Byte :=
  bs.take i ++ v ++ bs.drop (i + v.length)

/-- The two's complement reading of the `w` low bits of `n`. -/
def signed (w n : Nat) : Int := if n % 2 ^ w < 2 ^ (w - 1) then (n % 2 ^ w : Nat) else ((n % 2 ^ w : Nat) : Int) - 2 ^ w

/-- The two's complement pattern of `i` in `w` bits. -/
def unsigned (w : Nat) (i : Int) : Nat := (i % (2 ^ w : Nat)).toNat

/-- `i` limited to the range of a signed `w`-bit number. -/
def clampSigned (w : Nat) (i : Int) : Int := max (-(2 ^ (w - 1) : Nat)) (min i ((2 ^ (w - 1) : Nat) - 1))

/-- A count of `w` bits that does not wrap (R47). -/
def satAdd (w n k : Nat) : Nat := min (n + k) (2 ^ w - 1)

/-- The quotient rounded up. -/
def ceilDiv (a b : Nat) : Nat := (a + b - 1) / b

/-- A ring index after `i` in a ring of `n` entries. -/
def nextIdx (i n : Nat) : Nat := if i + 1 < n then i + 1 else 0

/-- The little-endian words of a list of bytes, four by four. -/
def leWords (bs : List Byte) : Nat → List Nat
  | 0 => []
  | n + 1 => fieldAt bs 0 4 :: leWords (bs.drop 4) n

/-- The exclusive-or of two byte strings, as long as the shorter. -/
def xorBytes (a b : List Byte) : List Byte := List.zipWith (· ^^^ ·) a b

end Sys2Proof.Machine
end

