-- ==== Sys2Proof/Machine/Fields.lean ====
section
/-!
DEFINITION. Sys2Proof/Machine/Fields.lean: the names of the registers and fields of spec/02 to spec/23 as places in the
register space: `A.X` is the address of register X (page × 0x1000 + offset, 00_scope.md), `F.X_Y` its field Y. Where the
register is one of several, the first argument is the instance of the block (lane, port) and the last the index.
-/
namespace Sys2Proof.Machine

/-- A field's place: the register's address, its lowest bit, its width. -/
structure Fld where
  addr : Nat
  lsb : Nat
  width : Nat
  deriving DecidableEq, Repr

/-- The address of the word at offset `off` of page `page` (00_scope.md, Addresses). -/
abbrev at' (page off : Nat) : Nat := page * 0x1000 + off

namespace A

abbrev IND_IND_ADDR : Nat := 0x06028
abbrev IND_IND_CTRL : Nat := 0x0602C
abbrev IND_IND_DATA : Nat := 0x06030
abbrev IND_IND_STATUS : Nat := 0x06034
abbrev HIF_CTRL : Nat := 0x04008
abbrev HIF_STATUS : Nat := 0x0400C
abbrev HIF_IRQ_SUM (k : Nat) : Nat := 0x04040 + 0x4 * k
abbrev HIF_VEC_MAP (k : Nat) : Nat := 0x04080 + 0x4 * k
abbrev HIF_VEC_REARM : Nat := 0x04180
abbrev HIF_VEC_ARMED : Nat := 0x04184
abbrev HIF_VEC_ACTIVE : Nat := 0x04188
abbrev CMD_CTRL : Nat := 0x05008
abbrev CMD_STATUS : Nat := 0x0500C
abbrev CMD_IRQ_STAT : Nat := 0x05010
abbrev CMD_MBX_SUBMIT : Nat := 0x05028
abbrev CMD_RING_CTRL (k : Nat) : Nat := 0x05040 + 0x40 * k
abbrev CMD_RING_STATUS (k : Nat) : Nat := 0x05044 + 0x40 * k
abbrev CMD_RING_SQ_BASE (k : Nat) : Nat := 0x05048 + 0x40 * k
abbrev CMD_RING_SQ_BASE_HI (k : Nat) : Nat := 0x0504C + 0x40 * k
abbrev CMD_RING_CQ_BASE (k : Nat) : Nat := 0x05050 + 0x40 * k
abbrev CMD_RING_CQ_BASE_HI (k : Nat) : Nat := 0x05054 + 0x40 * k
abbrev CMD_RING_SIZE (k : Nat) : Nat := 0x05058 + 0x40 * k
abbrev CMD_RING_SQ_TAIL (k : Nat) : Nat := 0x0505C + 0x40 * k
abbrev CMD_RING_SQ_HEAD (k : Nat) : Nat := 0x05060 + 0x40 * k
abbrev CMD_RING_CQ_HEAD (k : Nat) : Nat := 0x05064 + 0x40 * k
abbrev CMD_RING_CQ_TAIL (k : Nat) : Nat := 0x05068 + 0x40 * k
abbrev CMD_RING_NEXT_SEQ (k : Nat) : Nat := 0x0506C + 0x40 * k
abbrev CMD_RING_COAL (k : Nat) : Nat := 0x05070 + 0x40 * k
abbrev CMD_EVR_CTRL : Nat := 0x05140
abbrev CMD_EVR_BASE : Nat := 0x05144
abbrev CMD_EVR_BASE_HI : Nat := 0x05148
abbrev CMD_EVR_HEAD : Nat := 0x0514C
abbrev CMD_EVR_TAIL : Nat := 0x05150
abbrev CMD_LOG_NEXT_SEQ : Nat := 0x05154
abbrev CMD_MBX_DESC (k : Nat) : Nat := 0x05200 + 0x4 * k
abbrev CMD_MBX_CPL : Nat := 0x05240
abbrev CMD_MBX_CPL1 : Nat := 0x05244
abbrev CMD_MBX_CPL2 : Nat := 0x05248
abbrev CMD_MBX_CPL3 : Nat := 0x0524C
abbrev CMD_MBX_CPL4 : Nat := 0x05250
abbrev CMD_MBX_CPL5 : Nat := 0x05254
abbrev CMD_MBX_CPL6 : Nat := 0x05258
abbrev CMD_MBX_CPL7 : Nat := 0x0525C
abbrev CMD_MBX_CPL8 : Nat := 0x05260
abbrev NVC_CTRL : Nat := 0x01008
abbrev NVC_STATUS : Nat := 0x0100C
abbrev NVC_IRQ_STAT : Nat := 0x01010
abbrev NVC_LOCK : Nat := 0x01024
abbrev NVC_RESET_CTRL : Nat := 0x01028
abbrev NVC_RESET_SRC : Nat := 0x0102C
abbrev NVC_SELET_INFO : Nat := 0x01040
abbrev NVC_SELET_FLOOR : Nat := 0x01044
abbrev NVC_SELET_SERIAL : Nat := 0x01048
abbrev NVC_FW_FLOOR : Nat := 0x01050
abbrev NVC_FW_STATUS : Nat := 0x0104C
abbrev NVC_STAGE_CTRL : Nat := 0x01054
abbrev NVC_STAGE_DATA : Nat := 0x01058
abbrev NVC_STAGE_COUNT : Nat := 0x0105C
abbrev NVC_STAGE_GO : Nat := 0x01060
abbrev NVC_STAGE_RESULT : Nat := 0x01064
abbrev LRF_CTRL (n : Nat) : Nat := 0x10008 + 0x1000 * n
abbrev LRF_STATUS (n : Nat) : Nat := 0x1000C + 0x1000 * n
abbrev LRF_IRQ_STAT (n : Nat) : Nat := 0x10010 + 0x1000 * n
abbrev LRF_LOCK (n : Nat) : Nat := 0x10024 + 0x1000 * n
abbrev LRF_BLANK_CFG (n : Nat) : Nat := 0x10028 + 0x1000 * n
abbrev LRF_TX_LIMIT (n : Nat) : Nat := 0x1002C + 0x1000 * n
abbrev LRF_CAL_CFG (n : Nat) : Nat := 0x10030 + 0x1000 * n
abbrev LRF_FEM_CFG (n : Nat) : Nat := 0x10034 + 0x1000 * n
abbrev LRF_FEM_TIMING (n : Nat) : Nat := 0x10038 + 0x1000 * n
abbrev LRF_FEM_BIAS (n : Nat) : Nat := 0x1003C + 0x1000 * n
abbrev LRF_ANCHOR (n : Nat) : Nat := 0x10040 + 0x1000 * n
abbrev LRF_ANCHOR_STATUS (n : Nat) : Nat := 0x10044 + 0x1000 * n
abbrev LRF_BLANK_COUNT (n : Nat) : Nat := 0x10048 + 0x1000 * n
abbrev LRF_BLANK_TIME_US (n : Nat) : Nat := 0x1004C + 0x1000 * n
abbrev LRF_BG_SLICES (n : Nat) : Nat := 0x10050 + 0x1000 * n
abbrev LRF_BG_ABORTS (n : Nat) : Nat := 0x10054 + 0x1000 * n
abbrev LRF_TX_LATE (n : Nat) : Nat := 0x10058 + 0x1000 * n
abbrev LRF_LOCK_FAILS (n : Nat) : Nat := 0x1005C + 0x1000 * n
abbrev LRF_CLIP_COUNT (n : Nat) : Nat := 0x10060 + 0x1000 * n
abbrev LRF_CAL_PROGRESS (n : Nat) : Nat := 0x10064 + 0x1000 * n
abbrev LRF_SYNTH (n : Nat) : Nat := 0x10068 + 0x1000 * n
abbrev LBB_CTRL (n : Nat) : Nat := 0x14008 + 0x1000 * n
abbrev LBB_STATUS (n : Nat) : Nat := 0x1400C + 0x1000 * n
abbrev LBB_IRQ_STAT (n : Nat) : Nat := 0x14010 + 0x1000 * n
abbrev LBB_LOCK (n : Nat) : Nat := 0x14024 + 0x1000 * n
abbrev LBB_SYNC_CFG (n : Nat) : Nat := 0x14028 + 0x1000 * n
abbrev LBB_DET_CFG (n : Nat) : Nat := 0x1402C + 0x1000 * n
abbrev LBB_TX_CFG (n : Nat) : Nat := 0x14030 + 0x1000 * n
abbrev LBB_SUBCH (n k : Nat) : Nat := 0x14040 + 0x1000 * n + 0x4 * k
abbrev LBB_DETECTIONS (n : Nat) : Nat := 0x14060 + 0x1000 * n
abbrev LBB_FRAMES_OK (n : Nat) : Nat := 0x14064 + 0x1000 * n
abbrev LBB_OFDM_HANDOFF (n : Nat) : Nat := 0x14068 + 0x1000 * n
abbrev LBB_SYNC_MISS (n : Nat) : Nat := 0x1406C + 0x1000 * n
abbrev LBB_SYNC_OTHER (n : Nat) : Nat := 0x14070 + 0x1000 * n
abbrev LBB_OFFSET_RANGE (n : Nat) : Nat := 0x14074 + 0x1000 * n
abbrev LBB_HDR_FAIL (n : Nat) : Nat := 0x14078 + 0x1000 * n
abbrev LBB_HDR_INVALID (n : Nat) : Nat := 0x1407C + 0x1000 * n
abbrev LBB_OFDM_BUSY (n : Nat) : Nat := 0x14080 + 0x1000 * n
abbrev LBB_PAY_CRC (n : Nat) : Nat := 0x14084 + 0x1000 * n
abbrev LBB_CTX_DROP (n : Nat) : Nat := 0x14088 + 0x1000 * n
abbrev LBB_CTX_PREEMPT (n : Nat) : Nat := 0x1408C + 0x1000 * n
abbrev LBB_BLANK_LOSS (n : Nat) : Nat := 0x14090 + 0x1000 * n
abbrev LBB_NOISE (n k : Nat) : Nat := 0x14094 + 0x1000 * n + 0x4 * k
abbrev LOF_CTRL (n : Nat) : Nat := 0x18008 + 0x1000 * n
abbrev LOF_STATUS (n : Nat) : Nat := 0x1800C + 0x1000 * n
abbrev LOF_IRQ_STAT (n : Nat) : Nat := 0x18010 + 0x1000 * n
abbrev LOF_LOCK (n : Nat) : Nat := 0x18024 + 0x1000 * n
abbrev LOF_MAP_CFG (n : Nat) : Nat := 0x18028 + 0x1000 * n
abbrev LOF_MEAS_CFG (n : Nat) : Nat := 0x1802C + 0x1000 * n
abbrev LOF_TX_CFG (n : Nat) : Nat := 0x18030 + 0x1000 * n
abbrev LOF_LDPC_CFG (n : Nat) : Nat := 0x18034 + 0x1000 * n
abbrev LOF_RX_START (n : Nat) : Nat := 0x18040 + 0x1000 * n
abbrev LOF_RX_OK (n : Nat) : Nat := 0x18044 + 0x1000 * n
abbrev LOF_FC_FAIL (n : Nat) : Nat := 0x18048 + 0x1000 * n
abbrev LOF_MAP_UNKNOWN (n : Nat) : Nat := 0x1804C + 0x1000 * n
abbrev LOF_LDPC_FAIL (n : Nat) : Nat := 0x18050 + 0x1000 * n
abbrev LOF_CRC_FAIL (n : Nat) : Nat := 0x18054 + 0x1000 * n
abbrev LOF_PREEMPT (n : Nat) : Nat := 0x18058 + 0x1000 * n
abbrev LOF_BLANK_LOSS (n : Nat) : Nat := 0x1805C + 0x1000 * n
abbrev LOF_TX_FRAMES (n : Nat) : Nat := 0x18060 + 0x1000 * n
abbrev LOF_MAPS_ISSUED (n : Nat) : Nat := 0x18064 + 0x1000 * n
abbrev LOF_MAPS_RECEIVED (n : Nat) : Nat := 0x18068 + 0x1000 * n
abbrev LOF_MAP_RX_BAD (n : Nat) : Nat := 0x1806C + 0x1000 * n
abbrev LOF_MAP_DEFER (n : Nat) : Nat := 0x18070 + 0x1000 * n
abbrev LOF_MEAS_TIMEOUTS (n : Nat) : Nat := 0x18074 + 0x1000 * n
abbrev MAC_CTRL : Nat := 0x1C008
abbrev MAC_STATUS : Nat := 0x1C00C
abbrev MAC_IRQ_STAT : Nat := 0x1C010
abbrev MAC_LOCK : Nat := 0x1C024
abbrev MAC_ROUTER_ID : Nat := 0x1C028
abbrev MAC_SF_OFFSET : Nat := 0x1C02C
abbrev MAC_GUARD_CFG : Nat := 0x1C030
abbrev MAC_ACK_CFG : Nat := 0x1C034
abbrev MAC_JOIN_CFG : Nat := 0x1C038
abbrev MAC_BCN_KEY : Nat := 0x1C03C
abbrev MAC_BCN_CFG (k : Nat) : Nat := 0x1C040 + 0x4 * k
abbrev MAC_WAKE_CFG (k : Nat) : Nat := 0x1C050 + 0x4 * k
abbrev MAC_NODES_ACTIVE : Nat := 0x1C060
abbrev MAC_NODES_RDV : Nat := 0x1C064
abbrev MAC_BCN_SENT : Nat := 0x1C070
abbrev MAC_BCN_SKIP : Nat := 0x1C074
abbrev MAC_SLOT_HITS : Nat := 0x1C078
abbrev MAC_SLOT_MISSES : Nat := 0x1C07C
abbrev MAC_OUT_OF_WINDOW : Nat := 0x1C080
abbrev MAC_ACK_SENT : Nat := 0x1C084
abbrev MAC_ACK_DENIED : Nat := 0x1C088
abbrev MAC_DL_ATTEMPTS : Nat := 0x1C08C
abbrev MAC_DL_ACKED : Nat := 0x1C090
abbrev MAC_WAKE_SENT : Nat := 0x1C094
abbrev MAC_WAKE_ANSWERED : Nat := 0x1C098
abbrev MAC_JOIN_ACCEPTED : Nat := 0x1C09C
abbrev MAC_JOIN_UNKNOWN : Nat := 0x1C0A0
abbrev MAC_JOIN_BAD : Nat := 0x1C0A4
abbrev MAC_JOIN_DEFER : Nat := 0x1C0A8
abbrev MAC_SLOT_REJECT : Nat := 0x1C0AC
abbrev MAC_NODES_RELEASED : Nat := 0x1C0B0
abbrev MAC_NBR_ID (k : Nat) : Nat := 0x1C100 + 0x8 * k
abbrev MAC_NBR_BCN (k : Nat) : Nat := 0x1C104 + 0x8 * k
abbrev MAC_NBR_STATE (k : Nat) : Nat := 0x1C300 + 0x4 * k
abbrev RGL_CTRL : Nat := 0x1D008
abbrev RGL_STATUS : Nat := 0x1D00C
abbrev RGL_IRQ_STAT : Nat := 0x1D010
abbrev RGL_LOCK : Nat := 0x1D024
abbrev RGL_PROFILE : Nat := 0x1D028
abbrev RGL_RSV_CFG : Nat := 0x1D02C
abbrev RGL_BOOT_CFG : Nat := 0x1D030
abbrev RGL_ACCT_SEL : Nat := 0x1D034
abbrev RGL_EXT_GAIN (k : Nat) : Nat := 0x1D040 + 0x4 * k
abbrev RGL_ACCT_INFO : Nat := 0x1D050
abbrev RGL_ACCT_BUDGET : Nat := 0x1D054
abbrev RGL_ACCT_USED : Nat := 0x1D058
abbrev RGL_ACCT_BCN : Nat := 0x1D05C
abbrev RGL_ACCT_RSV : Nat := 0x1D060
abbrev RGL_GRANTS : Nat := 0x1D070
abbrev RGL_WITHHELD : Nat := 0x1D074
abbrev RGL_REFUNDS : Nat := 0x1D078
abbrev RGL_LBT_BUSY : Nat := 0x1D07C
abbrev RGL_OUT_OF_PROFILE : Nat := 0x1D080
abbrev RGL_NO_PROFILE : Nat := 0x1D084
abbrev CAD_CTRL : Nat := 0x1E008
abbrev CAD_STATUS : Nat := 0x1E00C
abbrev CAD_IRQ_STAT : Nat := 0x1E010
abbrev CAD_LOCK : Nat := 0x1E024
abbrev CAD_ADAPT_CFG : Nat := 0x1E028
abbrev CAD_PWR_CFG : Nat := 0x1E02C
abbrev CAD_OFDM_CFG : Nat := 0x1E030
abbrev CAD_PARCELS_USED : Nat := 0x1E040
abbrev CAD_WOR_USED : Nat := 0x1E044
abbrev CAD_PEERS_USED : Nat := 0x1E048
abbrev CAD_ROUTES_VALID : Nat := 0x1E04C
abbrev CAD_UP_NEW : Nat := 0x1E060
abbrev CAD_DUPLICATES : Nat := 0x1E064
abbrev CAD_LATE : Nat := 0x1E068
abbrev CAD_REPLAYS : Nat := 0x1E06C
abbrev CAD_UP_LOST : Nat := 0x1E070
abbrev CAD_MIC_FAIL : Nat := 0x1E074
abbrev CAD_UNKNOWN : Nat := 0x1E078
abbrev CAD_FOREIGN : Nat := 0x1E07C
abbrev CAD_RELAY_DROPS : Nat := 0x1E080
abbrev CAD_ADAPT_CHANGES : Nat := 0x1E084
abbrev CAD_ADAPT_DEFER : Nat := 0x1E088
abbrev CAD_SESSIONS_NEW : Nat := 0x1E08C
abbrev UPD_STATUS : Nat := 0x1F00C
abbrev UPD_IRQ_STAT : Nat := 0x1F010
abbrev UPD_LOCK : Nat := 0x1F024
abbrev UPD_CFG : Nat := 0x1F028
abbrev UPD_KEY_CFG : Nat := 0x1F02C
abbrev UPD_MC_CFG : Nat := 0x1F030
abbrev UPD_IMG_INFO (k : Nat) : Nat := 0x1F040 + 0x4 * k
abbrev UPD_SESS_ID (k : Nat) : Nat := 0x1F060 + 0x20 * k
abbrev UPD_SESS_STATE (k : Nat) : Nat := 0x1F064 + 0x20 * k
abbrev UPD_SESS_TARGETED (k : Nat) : Nat := 0x1F068 + 0x20 * k
abbrev UPD_SESS_COMPLETED (k : Nat) : Nat := 0x1F06C + 0x20 * k
abbrev UPD_SESS_PENDING (k : Nat) : Nat := 0x1F070 + 0x20 * k
abbrev UPD_SESS_DECLINED (k : Nat) : Nat := 0x1F074 + 0x20 * k
abbrev UPD_SESS_FAILED (k : Nat) : Nat := 0x1F078 + 0x20 * k
abbrev UPD_SESS_LOST (k : Nat) : Nat := 0x1F07C + 0x20 * k
abbrev UPD_MC_FRAMES : Nat := 0x1F0E0
abbrev UPD_MC_WITHHELD : Nat := 0x1F0E4
abbrev UPD_REPAIR_FRAMES : Nat := 0x1F0E8
abbrev UPD_REPORTS : Nat := 0x1F0EC
abbrev UPD_REPORTS_BAD : Nat := 0x1F0F0
abbrev FAB_CTRL : Nat := 0x20008
abbrev FAB_STATUS : Nat := 0x2000C
abbrev FAB_IRQ_STAT : Nat := 0x20010
abbrev FAB_LOCK : Nat := 0x20024
abbrev FAB_BUF_CFG : Nat := 0x20028
abbrev FAB_UPLINK_CFG : Nat := 0x2002C
abbrev FAB_HELD_COUNT : Nat := 0x20030
abbrev FAB_HRX_CTRL (k : Nat) : Nat := 0x20040 + 0x20 * k
abbrev FAB_HRX_BASE (k : Nat) : Nat := 0x20044 + 0x20 * k
abbrev FAB_HRX_BASE_HI (k : Nat) : Nat := 0x20048 + 0x20 * k
abbrev FAB_HRX_SIZE (k : Nat) : Nat := 0x2004C + 0x20 * k
abbrev FAB_HRX_HEAD (k : Nat) : Nat := 0x20050 + 0x20 * k
abbrev FAB_HRX_TAIL (k : Nat) : Nat := 0x20054 + 0x20 * k
abbrev FAB_HRX_COAL (k : Nat) : Nat := 0x20058 + 0x20 * k
abbrev FAB_HRX_STATUS (k : Nat) : Nat := 0x2005C + 0x20 * k
abbrev FAB_SRAM_CELLS_USED : Nat := 0x20140
abbrev FAB_DRAM_CELLS_USED : Nat := 0x20144
abbrev FAB_DESC_USED : Nat := 0x20148
abbrev FAB_NONEMPTY : Nat := 0x2014C
abbrev FAB_DEEPEST_Q : Nat := 0x20150
abbrev FAB_DEEPEST_DEPTH : Nat := 0x20154
abbrev FAB_ENQUEUED : Nat := 0x20160
abbrev FAB_DEQUEUED : Nat := 0x20164
abbrev FAB_DROPS : Nat := 0x20168
abbrev FAB_FLUSHED : Nat := 0x2016C
abbrev FAB_UNDERRUNS : Nat := 0x20170
abbrev FAB_QUEUE_FAULTS : Nat := 0x20174
abbrev FAB_MARKERS : Nat := 0x20178
abbrev QW_SEL : Nat := 0x21028
abbrev QW_QCFG : Nat := 0x2102C
abbrev QW_QLIMIT : Nat := 0x21030
abbrev QW_STATE : Nat := 0x21034
abbrev QW_DEPTH : Nat := 0x21038
abbrev QW_BYTES : Nat := 0x2103C
abbrev QW_SEQ_NEXT : Nat := 0x21068
abbrev QW_SEQ_HEAD : Nat := 0x2106C
abbrev QW_BREAK_FIRST : Nat := 0x21070
abbrev QW_BREAK_LAST : Nat := 0x21074
abbrev QW_POP : Nat := 0x21040
abbrev QW_POP1 : Nat := 0x21044
abbrev QW_POP2 : Nat := 0x21048
abbrev QW_POP3 : Nat := 0x2104C
abbrev QW_POP4 : Nat := 0x21050
abbrev QW_POP5 : Nat := 0x21054
abbrev QW_POP6 : Nat := 0x21058
abbrev QW_POP7 : Nat := 0x2105C
abbrev QW_POP8 : Nat := 0x21060
abbrev QW_DATA : Nat := 0x21064
abbrev QW_Q_ENQ : Nat := 0x21078
abbrev QW_Q_DROPS : Nat := 0x2107C
abbrev QW_Q_FLUSHED : Nat := 0x21080
abbrev QW_Q_UNDERRUNS : Nat := 0x21084
abbrev QW_HELD_MAP (k : Nat) : Nat := 0x21100 + 0x4 * k
abbrev TSS_CTRL : Nat := 0x22008
abbrev TSS_STATUS : Nat := 0x2200C
abbrev TSS_IRQ_STAT : Nat := 0x22010
abbrev TSS_LOCK : Nat := 0x22024
abbrev TSS_SEL : Nat := 0x22028
abbrev TSS_CLS_SEL : Nat := 0x2202C
abbrev TSS_POL_SEL : Nat := 0x22030
abbrev TSS_SAMPLE_CFG : Nat := 0x22034
abbrev TSS_OVH_CFG : Nat := 0x22038
abbrev TSS_Q_SHAPE : Nat := 0x22040
abbrev TSS_Q_BURST : Nat := 0x22044
abbrev TSS_Q_SCHED : Nat := 0x22048
abbrev TSS_Q_CREDIT : Nat := 0x2204C
abbrev TSS_ST_CTRL : Nat := 0x22050
abbrev TSS_ST_SAMPLES : Nat := 0x22054
abbrev TSS_ST_DEPTH_MIN : Nat := 0x22058
abbrev TSS_ST_DEPTH_MAX : Nat := 0x2205C
abbrev TSS_ST_DEPTH_LAST : Nat := 0x22060
abbrev TSS_ST_DELAY_MIN : Nat := 0x22064
abbrev TSS_ST_DELAY_MAX : Nat := 0x22068
abbrev TSS_ST_DELAY_LAST : Nat := 0x2206C
abbrev TSS_ST_DEPTH_HIST (k : Nat) : Nat := 0x22070 + 0x4 * k
abbrev TSS_ST_DELAY_HIST (k : Nat) : Nat := 0x220B0 + 0x4 * k
abbrev TSS_CLS_CFG : Nat := 0x22100
abbrev TSS_CLS_RATE : Nat := 0x22104
abbrev TSS_CLS_BURST : Nat := 0x22108
abbrev TSS_POL_CIR : Nat := 0x22110
abbrev TSS_POL_CBS : Nat := 0x22114
abbrev TSS_POL_PIR : Nat := 0x22118
abbrev TSS_POL_PBS : Nat := 0x2211C
abbrev TSS_POL_GREEN : Nat := 0x22120
abbrev TSS_POL_YELLOW : Nat := 0x22124
abbrev TSS_POL_RED : Nat := 0x22128
abbrev TSS_RSHAPE_c (k : Nat) : Nat := 0x22140 + 0x4 * k
abbrev TSS_RADIO_SHAPED : Nat := 0x22180
abbrev TSS_RADIO_GATED : Nat := 0x22184
abbrev TSS_POL_RED_TOTAL : Nat := 0x22188
abbrev GCL_IRQ_STAT : Nat := 0x23010
abbrev GCL_LOCK : Nat := 0x23024
abbrev GCL_WIN_SEL : Nat := 0x23028
abbrev GCL_WIN_CTRL : Nat := 0x2302C
abbrev GCL_WIN_DATA : Nat := 0x23030
abbrev GCL_L_CTRL (k : Nat) : Nat := 0x23040 + 0x20 * k
abbrev GCL_L_ADMIN_LEN (k : Nat) : Nat := 0x23044 + 0x20 * k
abbrev GCL_L_ADMIN_CYCLE (k : Nat) : Nat := 0x23048 + 0x20 * k
abbrev GCL_L_ADMIN_BASE (k : Nat) : Nat := 0x2304C + 0x20 * k
abbrev GCL_L_ADMIN_BASE_MID (k : Nat) : Nat := 0x23050 + 0x20 * k
abbrev GCL_L_ADMIN_BASE_HI (k : Nat) : Nat := 0x23054 + 0x20 * k
abbrev GCL_L_OPER_STATE (k : Nat) : Nat := 0x23058 + 0x20 * k
abbrev GCL_L_OPER_CYCLE (k : Nat) : Nat := 0x2305C + 0x20 * k
abbrev GCL_SWITCHES : Nat := 0x23100
abbrev GCL_REJECTS : Nat := 0x23104
abbrev GCL_GUARD_HOLD_A : Nat := 0x23108
abbrev GCL_GUARD_HOLD_B : Nat := 0x2310C
abbrev EM_CTRL (n : Nat) : Nat := 0x24008 + 0x1000 * n
abbrev EM_STATUS (n : Nat) : Nat := 0x2400C + 0x1000 * n
abbrev EM_IRQ_STAT (n : Nat) : Nat := 0x24010 + 0x1000 * n
abbrev EM_LOCK (n : Nat) : Nat := 0x24024 + 0x1000 * n
abbrev EM_MODE_CFG (n : Nat) : Nat := 0x24028 + 0x1000 * n
abbrev EM_FRAME_CFG (n : Nat) : Nat := 0x2402C + 0x1000 * n
abbrev EM_VLAN_CFG (n : Nat) : Nat := 0x24030 + 0x1000 * n
abbrev EM_RX_QMAP (n : Nat) : Nat := 0x24034 + 0x1000 * n
abbrev EM_RX_QCFG (n : Nat) : Nat := 0x24038 + 0x1000 * n
abbrev EM_PAUSE_CFG (n : Nat) : Nat := 0x2403C + 0x1000 * n
abbrev EM_PAUSE_WDOG (n : Nat) : Nat := 0x24040 + 0x1000 * n
abbrev EM_EEE_CFG (n : Nat) : Nat := 0x24044 + 0x1000 * n
abbrev EM_PTP_Q (n : Nat) : Nat := 0x24064 + 0x1000 * n
abbrev EM_MACSEC_CFG (n : Nat) : Nat := 0x24048 + 0x1000 * n
abbrev EM_SA_SEL (n : Nat) : Nat := 0x2404C + 0x1000 * n
abbrev EM_SA_CFG (n : Nat) : Nat := 0x24050 + 0x1000 * n
abbrev EM_SA_PN (n : Nat) : Nat := 0x24054 + 0x1000 * n
abbrev EM_RX_SCI (n : Nat) : Nat := 0x24058 + 0x1000 * n
abbrev EM_RX_SCI_HI (n : Nat) : Nat := 0x2405C + 0x1000 * n
abbrev EM_MDIO_CFG (n : Nat) : Nat := 0x24060 + 0x1000 * n
abbrev EM_MDIO_CMD (n : Nat) : Nat := 0x24068 + 0x1000 * n
abbrev EM_MDIO_DATA (n : Nat) : Nat := 0x2406C + 0x1000 * n
abbrev EM_TXTS (n : Nat) : Nat := 0x24070 + 0x1000 * n
abbrev EM_TXTS1 (n : Nat) : Nat := 0x24074 + 0x1000 * n
abbrev EM_TXTS2 (n : Nat) : Nat := 0x24078 + 0x1000 * n
abbrev EM_TXTS3 (n : Nat) : Nat := 0x2407C + 0x1000 * n
abbrev EM_TXTS4 (n : Nat) : Nat := 0x24080 + 0x1000 * n
abbrev EM_TUN_CFG (n : Nat) : Nat := 0x240E0 + 0x1000 * n
abbrev EM_TUN_QS (n : Nat) : Nat := 0x240E4 + 0x1000 * n
abbrev EM_TUN_HDR (n k : Nat) : Nat := 0x240E8 + 0x1000 * n + 0x4 * k
abbrev EM_TUN_OUTQ (n : Nat) : Nat := 0x24114 + 0x1000 * n
abbrev EM_RX_FRAMES (n : Nat) : Nat := 0x24090 + 0x1000 * n
abbrev EM_RX_FCS_ERR (n : Nat) : Nat := 0x24094 + 0x1000 * n
abbrev EM_RX_RUNT (n : Nat) : Nat := 0x24098 + 0x1000 * n
abbrev EM_RX_OVERSIZE (n : Nat) : Nat := 0x2409C + 0x1000 * n
abbrev EM_RX_PAUSE (n : Nat) : Nat := 0x240A0 + 0x1000 * n
abbrev EM_RX_PAUSE_IGNORED (n : Nat) : Nat := 0x240A4 + 0x1000 * n
abbrev EM_RX_CTRL_UNK (n : Nat) : Nat := 0x240A8 + 0x1000 * n
abbrev EM_TX_FRAMES (n : Nat) : Nat := 0x240AC + 0x1000 * n
abbrev EM_TX_TRUNC (n : Nat) : Nat := 0x240B0 + 0x1000 * n
abbrev EM_TX_OVERSIZE (n : Nat) : Nat := 0x240B4 + 0x1000 * n
abbrev EM_TX_PAUSE (n : Nat) : Nat := 0x240B8 + 0x1000 * n
abbrev EM_PAUSE_WDOG_TRIPS (n : Nat) : Nat := 0x240BC + 0x1000 * n
abbrev EM_LPI_ENTRIES (n : Nat) : Nat := 0x240C0 + 0x1000 * n
abbrev EM_PTP_NO_1STEP (n : Nat) : Nat := 0x240C4 + 0x1000 * n
abbrev EM_TXTS_LOST (n : Nat) : Nat := 0x240C8 + 0x1000 * n
abbrev EM_MACSEC_RX_NOSA (n : Nat) : Nat := 0x240CC + 0x1000 * n
abbrev EM_MACSEC_RX_BAD (n : Nat) : Nat := 0x240D0 + 0x1000 * n
abbrev EM_MACSEC_RX_REPLAY (n : Nat) : Nat := 0x240D4 + 0x1000 * n
abbrev EM_TUN_DROPS (n : Nat) : Nat := 0x240D8 + 0x1000 * n
abbrev DTM_CTRL : Nat := 0x26008
abbrev DTM_STATUS : Nat := 0x2600C
abbrev DTM_IRQ_STAT : Nat := 0x26010
abbrev DTM_LOCK : Nat := 0x26024
abbrev DTM_SRC_CFG : Nat := 0x26028
abbrev DTM_JUMP_THRESH : Nat := 0x2602C
abbrev DTM_SERVO_CFG : Nat := 0x26030
abbrev DTM_HOLD_CFG : Nat := 0x26034
abbrev DTM_PTP_CFG : Nat := 0x26038
abbrev DTM_PTP_TXQ : Nat := 0x2603C
abbrev DTM_CLOCK_ID : Nat := 0x26040
abbrev DTM_CLOCK_ID_HI : Nat := 0x26044
abbrev DTM_PORT_DELAY (k : Nat) : Nat := 0x26048 + 0x4 * k
abbrev DTM_INC : Nat := 0x26050
abbrev DTM_INC_HI : Nat := 0x26054
abbrev DTM_ADJ_PHASE : Nat := 0x26058
abbrev DTM_TIME : Nat := 0x26060
abbrev DTM_TIME1 : Nat := 0x26064
abbrev DTM_TIME2 : Nat := 0x26068
abbrev DTM_TIME3 : Nat := 0x2606C
abbrev DTM_LAST_OFFSET : Nat := 0x26070
abbrev DTM_MASTER_ID : Nat := 0x26074
abbrev DTM_MASTER_ID_HI : Nat := 0x26078
abbrev DTM_MASTER_PORT : Nat := 0x2607C
abbrev DTM_PPS_OUT_CFG : Nat := 0x26080
abbrev DTM_PPS_IN_CFG : Nat := 0x26084
abbrev DTM_PPS_TS : Nat := 0x26088
abbrev DTM_PPS_TS1 : Nat := 0x2608C
abbrev DTM_PPS_TS2 : Nat := 0x26090
abbrev DTM_PPS_TS3 : Nat := 0x26094
abbrev DTM_REFUSED_JUMPS : Nat := 0x260A0
abbrev DTM_STEPS : Nat := 0x260A4
abbrev DTM_FORCED_STEPS : Nat := 0x260A8
abbrev DTM_PPS_IN_EDGES : Nat := 0x260AC
abbrev DTM_PPS_OUTLIERS : Nat := 0x260B0
abbrev DTM_PPS_TS_OVERRUN : Nat := 0x260B4
abbrev DTM_SYNC_RX : Nat := 0x260B8
abbrev DTM_ANN_TIMEOUTS : Nat := 0x260BC
abbrev DTM_MASTER_CHANGES : Nat := 0x260C0
abbrev KSU_CTRL : Nat := 0x28008
abbrev KSU_STATUS : Nat := 0x2800C
abbrev KSU_IRQ_STAT : Nat := 0x28010
abbrev KSU_LOCK : Nat := 0x28024
abbrev KSU_SLOT_SEL : Nat := 0x28028
abbrev KSU_SLOT_INFO : Nat := 0x2802C
abbrev KSU_SLOT_EPOCH : Nat := 0x28030
abbrev KSU_SLOT_KCV : Nat := 0x28034
abbrev KSU_SLOT_KCV_HI : Nat := 0x28038
abbrev KSU_CNT_A : Nat := 0x2803C
abbrev KSU_CNT_B : Nat := 0x28040
abbrev KSU_FIRST_BAD : Nat := 0x28044
abbrev KSU_MAX_EPOCH : Nat := 0x28048
abbrev KSU_TAG_FAILS : Nat := 0x2804C
abbrev KSU_DENIED : Nat := 0x28050
abbrev KSU_COMMITS : Nat := 0x28054
abbrev KSU_ZEROISATIONS : Nat := 0x28058
abbrev CRY_CTRL : Nat := 0x29008
abbrev CRY_STATUS : Nat := 0x2900C
abbrev CRY_IRQ_STAT : Nat := 0x29010
abbrev CRY_LOCK : Nat := 0x29024
abbrev CRY_JOB_CTRL : Nat := 0x29028
abbrev CRY_JOB_KEY : Nat := 0x2902C
abbrev CRY_JOB_ATTR : Nat := 0x29030
abbrev CRY_JOB_EPOCH : Nat := 0x29034
abbrev CRY_JOB_LEN : Nat := 0x29038
abbrev CRY_JOB_DATA : Nat := 0x2903C
abbrev CRY_JOB_IN (k : Nat) : Nat := 0x29040 + 0x4 * k
abbrev CRY_JOB_RES : Nat := 0x29100
abbrev CRY_JOB_RES1 : Nat := 0x29104
abbrev CRY_JOB_RES2 : Nat := 0x29108
abbrev CRY_JOB_RES3 : Nat := 0x2910C
abbrev CRY_JOB_RES4 : Nat := 0x29110
abbrev CRY_JOB_RES5 : Nat := 0x29114
abbrev CRY_JOB_RES6 : Nat := 0x29118
abbrev CRY_JOB_RES7 : Nat := 0x2911C
abbrev CRY_JOB_RES8 : Nat := 0x29120
abbrev CRY_JOB_RES9 : Nat := 0x29124
abbrev CRY_JOB_RES10 : Nat := 0x29128
abbrev CRY_JOB_RES11 : Nat := 0x2912C
abbrev CRY_JOB_RES12 : Nat := 0x29130
abbrev CRY_JOB_RES13 : Nat := 0x29134
abbrev CRY_JOB_RES14 : Nat := 0x29138
abbrev CRY_JOB_RES15 : Nat := 0x2913C
abbrev CRY_JOB_RES16 : Nat := 0x29140
abbrev CRY_CCM_OPS : Nat := 0x29150
abbrev CRY_CCM_FAIL : Nat := 0x29154
abbrev CRY_GCM_OPS : Nat := 0x29158
abbrev CRY_GCM_FAIL : Nat := 0x2915C
abbrev CRY_PKE_OPS : Nat := 0x29160
abbrev CRY_JOBS_REFUSED : Nat := 0x29164
abbrev TRNG_CTRL : Nat := 0x2A008
abbrev TRNG_STATUS : Nat := 0x2A00C
abbrev TRNG_IRQ_STAT : Nat := 0x2A010
abbrev TRNG_LOCK : Nat := 0x2A024
abbrev TRNG_HEALTH_CFG : Nat := 0x2A028
abbrev TRNG_RAW : Nat := 0x2A040
abbrev TRNG_RCT_FAILS : Nat := 0x2A050
abbrev TRNG_APT_FAILS : Nat := 0x2A054
abbrev TRNG_RESEEDS : Nat := 0x2A058
abbrev TRNG_GENERATES : Nat := 0x2A05C
abbrev MEM_CTRL : Nat := 0x30008
abbrev MEM_STATUS : Nat := 0x3000C
abbrev MEM_IRQ_STAT : Nat := 0x30010
abbrev MEM_LOCK : Nat := 0x30024
abbrev MEM_SCRUB_CFG : Nat := 0x30028
abbrev MEM_CE_CFG : Nat := 0x3002C
abbrev MEM_SCRUB_POS : Nat := 0x30030
abbrev MEM_SCRUB_PASSES : Nat := 0x30034
abbrev MEM_SCRUB_LAST_S : Nat := 0x30038
abbrev MEM_ERR_LOG : Nat := 0x30040
abbrev MEM_ERR_LOG1 : Nat := 0x30044
abbrev MEM_ERR_LOG2 : Nat := 0x30048
abbrev MEM_ERR_LOG3 : Nat := 0x3004C
abbrev MEM_ERR_LOG4 : Nat := 0x30050
abbrev MEM_DRAM_CE : Nat := 0x30060
abbrev MEM_DRAM_UE : Nat := 0x30064
abbrev MEM_SRAM_CE : Nat := 0x30068
abbrev MEM_SRAM_UE : Nat := 0x3006C
abbrev MEM_LOG_LOST : Nat := 0x30070
abbrev MEM_LATE_SUCCESS : Nat := 0x30074
abbrev MEM_PARCEL_RESETS : Nat := 0x30078
abbrev MEM_REGION_CE (k : Nat) : Nat := 0x30080 + 0x4 * k
abbrev RED_CTRL : Nat := 0x31008
abbrev RED_STATUS : Nat := 0x3100C
abbrev RED_IRQ_STAT : Nat := 0x31010
abbrev RED_LOCK : Nat := 0x31024
abbrev RED_CFG : Nat := 0x31028
abbrev RED_TKO_CFG : Nat := 0x3102C
abbrev RED_OWN_ID : Nat := 0x31040
abbrev RED_OWN_ID_HI : Nat := 0x31044
abbrev RED_PARTNER_ID : Nat := 0x31048
abbrev RED_PARTNER_ID_HI : Nat := 0x3104C
abbrev RED_LINK_RTT_NS : Nat := 0x31050
abbrev RED_DATUM_ERR : Nat := 0x31054
abbrev RED_SYNC_PROGRESS : Nat := 0x31058
abbrev RED_LAST_TKO : Nat := 0x3105C
abbrev RED_ITEMS_TX : Nat := 0x31060
abbrev RED_ITEMS_RX : Nat := 0x31064
abbrev RED_RETRANS : Nat := 0x31068
abbrev RED_LINK_DOWNS : Nat := 0x3106C
abbrev RED_TAKEOVERS : Nat := 0x31070
abbrev RED_TKO_FAILS : Nat := 0x31074
abbrev RED_ILK_ABORTS : Nat := 0x31078
abbrev RED_MIRROR_LATE : Nat := 0x3107C
abbrev RED_BCN_MISSES : Nat := 0x31080
abbrev RED_ILK_CONFLICTS : Nat := 0x31084
abbrev COX_CTRL : Nat := 0x32008
abbrev COX_STATUS : Nat := 0x3200C
abbrev COX_IRQ_STAT : Nat := 0x32010
abbrev COX_LOCK : Nat := 0x32024
abbrev COX_HEAT_CFG : Nat := 0x32028
abbrev COX_FAB_CFG : Nat := 0x3202C
abbrev COX_OVR_IRQ_EN : Nat := 0x32030
abbrev COX_THROTTLED : Nat := 0x32034
abbrev COX_OVR_NONZERO : Nat := 0x32038
abbrev COX_ACCT_CFG (k : Nat) : Nat := 0x32040 + 0x4 * k
abbrev COX_ACCT_STAT (k : Nat) : Nat := 0x320C0 + 0x4 * k
abbrev COX_ACCT_OVR (k : Nat) : Nat := 0x32140 + 0x4 * k
abbrev MGM_CTRL : Nat := 0x33008
abbrev MGM_STATUS : Nat := 0x3300C
abbrev MGM_IRQ_STAT : Nat := 0x33010
abbrev MGM_LOCK : Nat := 0x33024
abbrev MGM_VBOUND : Nat := 0x33028
abbrev MGM_CBOUND : Nat := 0x3302C
abbrev MGM_MARGIN_CFG : Nat := 0x33030
abbrev MGM_PLAN_CFG : Nat := 0x33034
abbrev MGM_MAINT_BOUNDS : Nat := 0x33038
abbrev MGM_BG_BOUNDS : Nat := 0x3303C
abbrev MGM_PMBUS_CFG : Nat := 0x33040
abbrev MGM_VID_CFG : Nat := 0x33044
abbrev MGM_PLAN_V : Nat := 0x33048
abbrev MGM_MEAS : Nat := 0x3304C
abbrev MGM_PMB_STATUS : Nat := 0x33050
abbrev MGM_MARGINS : Nat := 0x33054
abbrev MGM_LIFE : Nat := 0x33058
abbrev MGM_AGE_H : Nat := 0x3305C
abbrev MGM_LAST_PLAN_S : Nat := 0x33060
abbrev MGM_KF : Nat := 0x33064
abbrev MGM_PLANS : Nat := 0x33068
abbrev MGM_EMERGENCIES : Nat := 0x3306C
abbrev MGM_AVS_ERRORS : Nat := 0x33070
abbrev MGM_RECORDS : Nat := 0x33074
abbrev MGM_TEMP (k : Nat) : Nat := 0x33080 + 0x4 * k
abbrev MGM_PATH (k : Nat) : Nat := 0x33100 + 0x4 * k
abbrev MGM_CANARY (k : Nat) : Nat := 0x33180 + 0x4 * k
abbrev MGM_RETENTION : Nat := 0x331A0
abbrev MGM_LOOPBACK (k : Nat) : Nat := 0x331B0 + 0x4 * k
abbrev SYS_CTRL : Nat := 0x00008
abbrev SYS_STATUS : Nat := 0x0000C
abbrev SYS_IRQ_STAT : Nat := 0x00010
abbrev SYS_LOCK : Nat := 0x00024
abbrev SYS_CLK_CFG : Nat := 0x00028
abbrev SYS_CLK_STATUS : Nat := 0x0002C
abbrev SYS_HOLDUP_CFG : Nat := 0x00030
abbrev SYS_LG_CFG (k : Nat) : Nat := 0x00040 + 0x4 * k
abbrev SYS_LG_SEL : Nat := 0x00050
abbrev SYS_LG_DATA : Nat := 0x00054
abbrev SYS_PAD_CFG (k : Nat) : Nat := 0x00058 + 0x4 * k
abbrev AON_STATUS : Nat := 0x0200C
abbrev AON_IRQ_STAT : Nat := 0x02010
abbrev AON_LOCK : Nat := 0x02024
abbrev AON_TAMPER_CFG : Nat := 0x02028
abbrev AON_MAINS_CFG : Nat := 0x0202C
abbrev AON_WATCH_CFG : Nat := 0x02030
abbrev AON_WATCH_INFO : Nat := 0x02034
abbrev AON_WATCH_S : Nat := 0x02038
abbrev AON_TIME : Nat := 0x0203C
abbrev AON_HOLDUPS : Nat := 0x02040
abbrev AON_MAINS_GLITCHES : Nat := 0x02044
abbrev AON_WATCH_ENTRIES : Nat := 0x02048
abbrev AON_WAKES_IGNORED : Nat := 0x0204C
abbrev AON_TAMPERS : Nat := 0x02050
abbrev WUR_CTRL : Nat := 0x03008
abbrev WUR_STATUS : Nat := 0x0300C
abbrev WUR_IRQ_STAT : Nat := 0x03010
abbrev WUR_LOCK : Nat := 0x03024
abbrev WUR_FREQ : Nat := 0x03028
abbrev WUR_ADDR : Nat := 0x0302C
abbrev WUR_GROUP : Nat := 0x03030
abbrev WUR_MATCH : Nat := 0x03034
abbrev WUR_LAST : Nat := 0x03038
abbrev WUR_LAST_ADDR : Nat := 0x0303C
abbrev WUR_TELEGRAMS : Nat := 0x03040
abbrev WUR_MATCHES : Nat := 0x03044
abbrev WUR_CRC_ERRORS : Nat := 0x03048
abbrev BST_STATUS : Nat := 0x0700C
abbrev BST_IRQ_STAT : Nat := 0x07010
abbrev BST_RES_SEL : Nat := 0x07028
abbrev BST_RES_INFO : Nat := 0x0702C
abbrev BST_RES_MISR : Nat := 0x07030
abbrev BST_RES_MISR_HI : Nat := 0x07034
abbrev BST_RES_EXP : Nat := 0x07038
abbrev BST_RES_EXP_HI : Nat := 0x0703C
abbrev BST_RUNS : Nat := 0x07040
abbrev BST_FAILS : Nat := 0x07044
abbrev HIF_IRQ_STAT : Nat := 0x04010

end A

namespace F

abbrev IND_IND_ADDR_WADDR : Fld := ⟨A.IND_IND_ADDR, 0, 28⟩
abbrev IND_IND_ADDR_DOMAIN : Fld := ⟨A.IND_IND_ADDR, 28, 4⟩
abbrev IND_IND_CTRL_INC : Fld := ⟨A.IND_IND_CTRL, 0, 2⟩
abbrev IND_IND_CTRL_MODE : Fld := ⟨A.IND_IND_CTRL, 4, 1⟩
abbrev IND_IND_DATA_DATA : Fld := ⟨A.IND_IND_DATA, 0, 32⟩
abbrev IND_IND_STATUS_BUSY : Fld := ⟨A.IND_IND_STATUS, 0, 1⟩
abbrev IND_IND_STATUS_RD_VALID : Fld := ⟨A.IND_IND_STATUS, 1, 1⟩
abbrev IND_IND_STATUS_EARLY : Fld := ⟨A.IND_IND_STATUS, 8, 1⟩
abbrev IND_IND_STATUS_OVERRUN : Fld := ⟨A.IND_IND_STATUS, 9, 1⟩
abbrev IND_IND_STATUS_RANGE : Fld := ⟨A.IND_IND_STATUS, 10, 1⟩
abbrev IND_IND_STATUS_DENIED : Fld := ⟨A.IND_IND_STATUS, 11, 1⟩
abbrev IND_IND_STATUS_UE : Fld := ⟨A.IND_IND_STATUS, 12, 1⟩
abbrev HIF_CTRL_HOST_IF : Fld := ⟨A.HIF_CTRL, 0, 2⟩
abbrev HIF_CTRL_SPI_IRQ_EN : Fld := ⟨A.HIF_CTRL, 8, 1⟩
abbrev HIF_CTRL_IRQ_GPIO : Fld := ⟨A.HIF_CTRL, 9, 5⟩
abbrev HIF_CTRL_IRQ_OD : Fld := ⟨A.HIF_CTRL, 14, 1⟩
abbrev HIF_STATUS_LINK_UP : Fld := ⟨A.HIF_STATUS, 0, 1⟩
abbrev HIF_STATUS_SPEED : Fld := ⟨A.HIF_STATUS, 1, 3⟩
abbrev HIF_STATUS_WIDTH : Fld := ⟨A.HIF_STATUS, 4, 2⟩
abbrev HIF_STATUS_MSIX : Fld := ⟨A.HIF_STATUS, 6, 1⟩
abbrev HIF_STATUS_INTX : Fld := ⟨A.HIF_STATUS, 7, 1⟩
abbrev HIF_IRQ_SUM_PAGE (k : Nat) : Fld := ⟨A.HIF_IRQ_SUM k, 0, 32⟩
abbrev HIF_VEC_MAP_VEC0 (k : Nat) : Fld := ⟨A.HIF_VEC_MAP k, 0, 5⟩
abbrev HIF_VEC_MAP_DIS0 (k : Nat) : Fld := ⟨A.HIF_VEC_MAP k, 7, 1⟩
abbrev HIF_VEC_MAP_VEC1 (k : Nat) : Fld := ⟨A.HIF_VEC_MAP k, 8, 5⟩
abbrev HIF_VEC_MAP_DIS1 (k : Nat) : Fld := ⟨A.HIF_VEC_MAP k, 15, 1⟩
abbrev HIF_VEC_MAP_VEC2 (k : Nat) : Fld := ⟨A.HIF_VEC_MAP k, 16, 5⟩
abbrev HIF_VEC_MAP_DIS2 (k : Nat) : Fld := ⟨A.HIF_VEC_MAP k, 23, 1⟩
abbrev HIF_VEC_MAP_VEC3 (k : Nat) : Fld := ⟨A.HIF_VEC_MAP k, 24, 5⟩
abbrev HIF_VEC_MAP_DIS3 (k : Nat) : Fld := ⟨A.HIF_VEC_MAP k, 31, 1⟩
abbrev HIF_VEC_REARM_VEC : Fld := ⟨A.HIF_VEC_REARM, 0, 5⟩
abbrev HIF_VEC_ARMED_ARMED : Fld := ⟨A.HIF_VEC_ARMED, 0, 32⟩
abbrev HIF_VEC_ACTIVE_ACTIVE : Fld := ⟨A.HIF_VEC_ACTIVE, 0, 32⟩
abbrev CMD_CTRL_MBX_VEC : Fld := ⟨A.CMD_CTRL, 0, 5⟩
abbrev CMD_STATUS_FAULT : Fld := ⟨A.CMD_STATUS, 0, 4⟩
abbrev CMD_STATUS_MBX_INFLIGHT : Fld := ⟨A.CMD_STATUS, 8, 1⟩
abbrev CMD_IRQ_STAT_CPL : Fld := ⟨A.CMD_IRQ_STAT, 0, 4⟩
abbrev CMD_IRQ_STAT_MBX_CPL : Fld := ⟨A.CMD_IRQ_STAT, 4, 1⟩
abbrev CMD_IRQ_STAT_EVR : Fld := ⟨A.CMD_IRQ_STAT, 5, 1⟩
abbrev CMD_IRQ_STAT_EVR_BREAK : Fld := ⟨A.CMD_IRQ_STAT, 6, 1⟩
abbrev CMD_IRQ_STAT_RING_FAULT : Fld := ⟨A.CMD_IRQ_STAT, 8, 4⟩
abbrev CMD_IRQ_STAT_ERR : Fld := ⟨A.CMD_IRQ_STAT, 31, 1⟩
abbrev CMD_MBX_SUBMIT_GO : Fld := ⟨A.CMD_MBX_SUBMIT, 0, 1⟩
abbrev CMD_RING_CTRL_ENABLE (k : Nat) : Fld := ⟨A.CMD_RING_CTRL k, 0, 1⟩
abbrev CMD_RING_CTRL_RESET (k : Nat) : Fld := ⟨A.CMD_RING_CTRL k, 1, 1⟩
abbrev CMD_RING_CTRL_MAXOUT (k : Nat) : Fld := ⟨A.CMD_RING_CTRL k, 16, 8⟩
abbrev CMD_RING_CTRL_VEC (k : Nat) : Fld := ⟨A.CMD_RING_CTRL k, 24, 5⟩
abbrev CMD_RING_STATUS_STATE (k : Nat) : Fld := ⟨A.CMD_RING_STATUS k, 0, 2⟩
abbrev CMD_RING_STATUS_INFLIGHT (k : Nat) : Fld := ⟨A.CMD_RING_STATUS k, 8, 8⟩
abbrev CMD_RING_SQ_BASE_BASE (k : Nat) : Fld := ⟨A.CMD_RING_SQ_BASE k, 0, 32⟩
abbrev CMD_RING_SQ_BASE_HI_BASE (k : Nat) : Fld := ⟨A.CMD_RING_SQ_BASE_HI k, 0, 32⟩
abbrev CMD_RING_CQ_BASE_BASE (k : Nat) : Fld := ⟨A.CMD_RING_CQ_BASE k, 0, 32⟩
abbrev CMD_RING_CQ_BASE_HI_BASE (k : Nat) : Fld := ⟨A.CMD_RING_CQ_BASE_HI k, 0, 32⟩
abbrev CMD_RING_SIZE_SQ_LOG2 (k : Nat) : Fld := ⟨A.CMD_RING_SIZE k, 0, 4⟩
abbrev CMD_RING_SIZE_CQ_LOG2 (k : Nat) : Fld := ⟨A.CMD_RING_SIZE k, 16, 4⟩
abbrev CMD_RING_SQ_TAIL_TAIL (k : Nat) : Fld := ⟨A.CMD_RING_SQ_TAIL k, 0, 12⟩
abbrev CMD_RING_SQ_HEAD_HEAD (k : Nat) : Fld := ⟨A.CMD_RING_SQ_HEAD k, 0, 12⟩
abbrev CMD_RING_CQ_HEAD_HEAD (k : Nat) : Fld := ⟨A.CMD_RING_CQ_HEAD k, 0, 12⟩
abbrev CMD_RING_CQ_TAIL_TAIL (k : Nat) : Fld := ⟨A.CMD_RING_CQ_TAIL k, 0, 12⟩
abbrev CMD_RING_NEXT_SEQ_SEQ (k : Nat) : Fld := ⟨A.CMD_RING_NEXT_SEQ k, 0, 32⟩
abbrev CMD_RING_COAL_TIME_US (k : Nat) : Fld := ⟨A.CMD_RING_COAL k, 0, 16⟩
abbrev CMD_RING_COAL_COUNT (k : Nat) : Fld := ⟨A.CMD_RING_COAL k, 16, 8⟩
abbrev CMD_EVR_CTRL_ENABLE : Fld := ⟨A.CMD_EVR_CTRL, 0, 1⟩
abbrev CMD_EVR_CTRL_VEC : Fld := ⟨A.CMD_EVR_CTRL, 9, 5⟩
abbrev CMD_EVR_CTRL_MIN_SEV : Fld := ⟨A.CMD_EVR_CTRL, 14, 3⟩
abbrev CMD_EVR_CTRL_LOG2 : Fld := ⟨A.CMD_EVR_CTRL, 20, 4⟩
abbrev CMD_EVR_BASE_BASE : Fld := ⟨A.CMD_EVR_BASE, 0, 32⟩
abbrev CMD_EVR_BASE_HI_BASE : Fld := ⟨A.CMD_EVR_BASE_HI, 0, 32⟩
abbrev CMD_EVR_HEAD_HEAD : Fld := ⟨A.CMD_EVR_HEAD, 0, 15⟩
abbrev CMD_EVR_TAIL_TAIL : Fld := ⟨A.CMD_EVR_TAIL, 0, 15⟩
abbrev CMD_LOG_NEXT_SEQ_SEQ : Fld := ⟨A.CMD_LOG_NEXT_SEQ, 0, 32⟩
abbrev CMD_MBX_DESC_DATA (k : Nat) : Fld := ⟨A.CMD_MBX_DESC k, 0, 32⟩
abbrev CMD_MBX_CPL_QUEUED : Fld := ⟨A.CMD_MBX_CPL, 0, 7⟩
abbrev CMD_MBX_CPL_VALID : Fld := ⟨A.CMD_MBX_CPL, 31, 1⟩
abbrev CMD_MBX_CPL1_RECORD : Fld := ⟨A.CMD_MBX_CPL1, 0, 32⟩
abbrev CMD_MBX_CPL2_RECORD : Fld := ⟨A.CMD_MBX_CPL2, 0, 32⟩
abbrev CMD_MBX_CPL3_RECORD : Fld := ⟨A.CMD_MBX_CPL3, 0, 32⟩
abbrev CMD_MBX_CPL4_RECORD : Fld := ⟨A.CMD_MBX_CPL4, 0, 32⟩
abbrev CMD_MBX_CPL5_RECORD : Fld := ⟨A.CMD_MBX_CPL5, 0, 32⟩
abbrev CMD_MBX_CPL6_RECORD : Fld := ⟨A.CMD_MBX_CPL6, 0, 32⟩
abbrev CMD_MBX_CPL7_RECORD : Fld := ⟨A.CMD_MBX_CPL7, 0, 32⟩
abbrev CMD_MBX_CPL8_RECORD : Fld := ⟨A.CMD_MBX_CPL8, 0, 32⟩
abbrev NVC_CTRL_FW_SRC : Fld := ⟨A.NVC_CTRL, 0, 2⟩
abbrev NVC_CTRL_HOST_WAIT_S : Fld := ⟨A.NVC_CTRL, 8, 8⟩
abbrev NVC_STATUS_SELET_APPLIED : Fld := ⟨A.NVC_STATUS, 0, 2⟩
abbrev NVC_STATUS_STRICT_FAIL : Fld := ⟨A.NVC_STATUS, 3, 1⟩
abbrev NVC_STATUS_FW_SOURCE : Fld := ⟨A.NVC_STATUS, 4, 3⟩
abbrev NVC_STATUS_FW_WAIT : Fld := ⟨A.NVC_STATUS, 7, 1⟩
abbrev NVC_STATUS_FAIL_A : Fld := ⟨A.NVC_STATUS, 8, 4⟩
abbrev NVC_STATUS_FAIL_B : Fld := ⟨A.NVC_STATUS, 12, 4⟩
abbrev NVC_STATUS_REC_FAILS : Fld := ⟨A.NVC_STATUS, 16, 16⟩
abbrev NVC_IRQ_STAT_STAGE_DONE : Fld := ⟨A.NVC_IRQ_STAT, 0, 1⟩
abbrev NVC_IRQ_STAT_STAGE_ERR : Fld := ⟨A.NVC_IRQ_STAT, 1, 1⟩
abbrev NVC_IRQ_STAT_FW_WAIT : Fld := ⟨A.NVC_IRQ_STAT, 2, 1⟩
abbrev NVC_IRQ_STAT_ERR : Fld := ⟨A.NVC_IRQ_STAT, 31, 1⟩
abbrev NVC_LOCK_LOCK0 : Fld := ⟨A.NVC_LOCK, 0, 1⟩
abbrev NVC_LOCK_LOCK1 : Fld := ⟨A.NVC_LOCK, 1, 1⟩
abbrev NVC_RESET_CTRL_CMD : Fld := ⟨A.NVC_RESET_CTRL, 0, 32⟩
abbrev NVC_RESET_SRC_LAST : Fld := ⟨A.NVC_RESET_SRC, 0, 8⟩
abbrev NVC_RESET_SRC_SEEN : Fld := ⟨A.NVC_RESET_SRC, 16, 8⟩
abbrev NVC_SELET_INFO_FIRST_INDEX : Fld := ⟨A.NVC_SELET_INFO, 0, 13⟩
abbrev NVC_SELET_INFO_FIRST_CODE : Fld := ⟨A.NVC_SELET_INFO, 24, 8⟩
abbrev NVC_SELET_FLOOR_FLOOR : Fld := ⟨A.NVC_SELET_FLOOR, 0, 32⟩
abbrev NVC_SELET_SERIAL_SERIAL : Fld := ⟨A.NVC_SELET_SERIAL, 0, 32⟩
abbrev NVC_FW_FLOOR_FLOOR : Fld := ⟨A.NVC_FW_FLOOR, 0, 32⟩
abbrev NVC_FW_STATUS_PRIMARY : Fld := ⟨A.NVC_FW_STATUS, 0, 4⟩
abbrev NVC_FW_STATUS_SECONDARY : Fld := ⟨A.NVC_FW_STATUS, 4, 4⟩
abbrev NVC_FW_STATUS_HOST : Fld := ⟨A.NVC_FW_STATUS, 8, 4⟩
abbrev NVC_FW_STATUS_VERSION : Fld := ⟨A.NVC_FW_STATUS, 16, 16⟩
abbrev NVC_STAGE_CTRL_TARGET : Fld := ⟨A.NVC_STAGE_CTRL, 0, 2⟩
abbrev NVC_STAGE_CTRL_CLEAR : Fld := ⟨A.NVC_STAGE_CTRL, 8, 1⟩
abbrev NVC_STAGE_DATA_DATA : Fld := ⟨A.NVC_STAGE_DATA, 0, 32⟩
abbrev NVC_STAGE_COUNT_WORDS : Fld := ⟨A.NVC_STAGE_COUNT, 0, 21⟩
abbrev NVC_STAGE_COUNT_OVERFLOW : Fld := ⟨A.NVC_STAGE_COUNT, 31, 1⟩
abbrev NVC_STAGE_GO_GO : Fld := ⟨A.NVC_STAGE_GO, 0, 1⟩
abbrev NVC_STAGE_RESULT_COPY : Fld := ⟨A.NVC_STAGE_RESULT, 0, 2⟩
abbrev NVC_STAGE_RESULT_REASON : Fld := ⟨A.NVC_STAGE_RESULT, 8, 4⟩
abbrev NVC_STAGE_RESULT_VALID : Fld := ⟨A.NVC_STAGE_RESULT, 31, 1⟩
abbrev LRF_CTRL_ENABLE (n : Nat) : Fld := ⟨A.LRF_CTRL n, 0, 1⟩
abbrev LRF_CTRL_AGC_MODE (n : Nat) : Fld := ⟨A.LRF_CTRL n, 4, 2⟩
abbrev LRF_CTRL_GAIN_FIX (n : Nat) : Fld := ⟨A.LRF_CTRL n, 8, 6⟩
abbrev LRF_STATUS_STATE (n : Nat) : Fld := ⟨A.LRF_STATUS n, 0, 3⟩
abbrev LRF_STATUS_LOCKED (n : Nat) : Fld := ⟨A.LRF_STATUS n, 3, 1⟩
abbrev LRF_STATUS_BLANK_IN (n : Nat) : Fld := ⟨A.LRF_STATUS n, 4, 1⟩
abbrev LRF_STATUS_STARTUP_DONE (n : Nat) : Fld := ⟨A.LRF_STATUS n, 5, 1⟩
abbrev LRF_STATUS_GAIN (n : Nat) : Fld := ⟨A.LRF_STATUS n, 8, 6⟩
abbrev LRF_STATUS_CHANNEL (n : Nat) : Fld := ⟨A.LRF_STATUS n, 16, 8⟩
abbrev LRF_STATUS_TEMP (n : Nat) : Fld := ⟨A.LRF_STATUS n, 24, 8⟩
abbrev LRF_IRQ_STAT_STARTUP_DONE (n : Nat) : Fld := ⟨A.LRF_IRQ_STAT n, 0, 1⟩
abbrev LRF_IRQ_STAT_CAL_FAIL (n : Nat) : Fld := ⟨A.LRF_IRQ_STAT n, 1, 1⟩
abbrev LRF_IRQ_STAT_LOCK_FAIL (n : Nat) : Fld := ⟨A.LRF_IRQ_STAT n, 2, 1⟩
abbrev LRF_IRQ_STAT_BG_OVERDUE (n : Nat) : Fld := ⟨A.LRF_IRQ_STAT n, 3, 1⟩
abbrev LRF_IRQ_STAT_TX_LATE (n : Nat) : Fld := ⟨A.LRF_IRQ_STAT n, 4, 1⟩
abbrev LRF_IRQ_STAT_BLANK (n : Nat) : Fld := ⟨A.LRF_IRQ_STAT n, 5, 1⟩
abbrev LRF_IRQ_STAT_CLIP (n : Nat) : Fld := ⟨A.LRF_IRQ_STAT n, 6, 1⟩
abbrev LRF_IRQ_STAT_ILK_BLOCK (n : Nat) : Fld := ⟨A.LRF_IRQ_STAT n, 7, 1⟩
abbrev LRF_IRQ_STAT_ERR (n : Nat) : Fld := ⟨A.LRF_IRQ_STAT n, 31, 1⟩
abbrev LRF_LOCK_LOCK0 (n : Nat) : Fld := ⟨A.LRF_LOCK n, 0, 1⟩
abbrev LRF_LOCK_LOCK1 (n : Nat) : Fld := ⟨A.LRF_LOCK n, 1, 1⟩
abbrev LRF_BLANK_CFG_TX_HOLD (n : Nat) : Fld := ⟨A.LRF_BLANK_CFG n, 0, 1⟩
abbrev LRF_BLANK_CFG_POL (n : Nat) : Fld := ⟨A.LRF_BLANK_CFG n, 1, 1⟩
abbrev LRF_TX_LIMIT_MAX_PIN (n : Nat) : Fld := ⟨A.LRF_TX_LIMIT n, 0, 8⟩
abbrev LRF_CAL_CFG_T_WINDOW (n : Nat) : Fld := ⟨A.LRF_CAL_CFG n, 0, 8⟩
abbrev LRF_CAL_CFG_BG_INTERVAL_S (n : Nat) : Fld := ⟨A.LRF_CAL_CFG n, 16, 16⟩
abbrev LRF_FEM_CFG_PAEN_POL (n : Nat) : Fld := ⟨A.LRF_FEM_CFG n, 0, 1⟩
abbrev LRF_FEM_CFG_TRSW_POL (n : Nat) : Fld := ⟨A.LRF_FEM_CFG n, 1, 1⟩
abbrev LRF_FEM_CFG_LNAEN_POL (n : Nat) : Fld := ⟨A.LRF_FEM_CFG n, 2, 1⟩
abbrev LRF_FEM_CFG_BYP_POL (n : Nat) : Fld := ⟨A.LRF_FEM_CFG n, 3, 1⟩
abbrev LRF_FEM_CFG_TXACT_POL (n : Nat) : Fld := ⟨A.LRF_FEM_CFG n, 4, 1⟩
abbrev LRF_FEM_CFG_BYP_USE (n : Nat) : Fld := ⟨A.LRF_FEM_CFG n, 8, 1⟩
abbrev LRF_FEM_TIMING_TR_SETTLE (n : Nat) : Fld := ⟨A.LRF_FEM_TIMING n, 0, 5⟩
abbrev LRF_FEM_TIMING_BIAS_RAMP (n : Nat) : Fld := ⟨A.LRF_FEM_TIMING n, 8, 5⟩
abbrev LRF_FEM_TIMING_PA_SETTLE (n : Nat) : Fld := ⟨A.LRF_FEM_TIMING n, 16, 5⟩
abbrev LRF_FEM_BIAS_IDLE_CODE (n : Nat) : Fld := ⟨A.LRF_FEM_BIAS n, 0, 8⟩
abbrev LRF_FEM_BIAS_RX_CODE (n : Nat) : Fld := ⟨A.LRF_FEM_BIAS n, 8, 8⟩
abbrev LRF_ANCHOR_ANCHOR0 (n : Nat) : Fld := ⟨A.LRF_ANCHOR n, 0, 8⟩
abbrev LRF_ANCHOR_ANCHOR1 (n : Nat) : Fld := ⟨A.LRF_ANCHOR n, 8, 8⟩
abbrev LRF_ANCHOR_ANCHOR2 (n : Nat) : Fld := ⟨A.LRF_ANCHOR n, 16, 8⟩
abbrev LRF_ANCHOR_ANCHOR3 (n : Nat) : Fld := ⟨A.LRF_ANCHOR n, 24, 8⟩
abbrev LRF_ANCHOR_STATUS_DUE0 (n : Nat) : Fld := ⟨A.LRF_ANCHOR_STATUS n, 4, 1⟩
abbrev LRF_ANCHOR_STATUS_FAILED0 (n : Nat) : Fld := ⟨A.LRF_ANCHOR_STATUS n, 5, 1⟩
abbrev LRF_ANCHOR_STATUS_OVERDUE0 (n : Nat) : Fld := ⟨A.LRF_ANCHOR_STATUS n, 6, 1⟩
abbrev LRF_ANCHOR_STATUS_VALID0 (n : Nat) : Fld := ⟨A.LRF_ANCHOR_STATUS n, 7, 1⟩
abbrev LRF_ANCHOR_STATUS_DUE1 (n : Nat) : Fld := ⟨A.LRF_ANCHOR_STATUS n, 12, 1⟩
abbrev LRF_ANCHOR_STATUS_FAILED1 (n : Nat) : Fld := ⟨A.LRF_ANCHOR_STATUS n, 13, 1⟩
abbrev LRF_ANCHOR_STATUS_OVERDUE1 (n : Nat) : Fld := ⟨A.LRF_ANCHOR_STATUS n, 14, 1⟩
abbrev LRF_ANCHOR_STATUS_VALID1 (n : Nat) : Fld := ⟨A.LRF_ANCHOR_STATUS n, 15, 1⟩
abbrev LRF_ANCHOR_STATUS_DUE2 (n : Nat) : Fld := ⟨A.LRF_ANCHOR_STATUS n, 20, 1⟩
abbrev LRF_ANCHOR_STATUS_FAILED2 (n : Nat) : Fld := ⟨A.LRF_ANCHOR_STATUS n, 21, 1⟩
abbrev LRF_ANCHOR_STATUS_OVERDUE2 (n : Nat) : Fld := ⟨A.LRF_ANCHOR_STATUS n, 22, 1⟩
abbrev LRF_ANCHOR_STATUS_VALID2 (n : Nat) : Fld := ⟨A.LRF_ANCHOR_STATUS n, 23, 1⟩
abbrev LRF_ANCHOR_STATUS_DUE3 (n : Nat) : Fld := ⟨A.LRF_ANCHOR_STATUS n, 28, 1⟩
abbrev LRF_ANCHOR_STATUS_FAILED3 (n : Nat) : Fld := ⟨A.LRF_ANCHOR_STATUS n, 29, 1⟩
abbrev LRF_ANCHOR_STATUS_OVERDUE3 (n : Nat) : Fld := ⟨A.LRF_ANCHOR_STATUS n, 30, 1⟩
abbrev LRF_ANCHOR_STATUS_VALID3 (n : Nat) : Fld := ⟨A.LRF_ANCHOR_STATUS n, 31, 1⟩
abbrev LRF_BLANK_COUNT_COUNT (n : Nat) : Fld := ⟨A.LRF_BLANK_COUNT n, 0, 32⟩
abbrev LRF_BLANK_TIME_US_COUNT (n : Nat) : Fld := ⟨A.LRF_BLANK_TIME_US n, 0, 32⟩
abbrev LRF_BG_SLICES_COUNT (n : Nat) : Fld := ⟨A.LRF_BG_SLICES n, 0, 32⟩
abbrev LRF_BG_ABORTS_COUNT (n : Nat) : Fld := ⟨A.LRF_BG_ABORTS n, 0, 32⟩
abbrev LRF_TX_LATE_COUNT (n : Nat) : Fld := ⟨A.LRF_TX_LATE n, 0, 32⟩
abbrev LRF_LOCK_FAILS_COUNT (n : Nat) : Fld := ⟨A.LRF_LOCK_FAILS n, 0, 32⟩
abbrev LRF_CLIP_COUNT_COUNT (n : Nat) : Fld := ⟨A.LRF_CLIP_COUNT n, 0, 32⟩
abbrev LRF_CAL_PROGRESS_REMAINING (n : Nat) : Fld := ⟨A.LRF_CAL_PROGRESS n, 0, 9⟩
abbrev LRF_CAL_PROGRESS_CURRENT (n : Nat) : Fld := ⟨A.LRF_CAL_PROGRESS n, 16, 8⟩
abbrev LRF_CAL_PROGRESS_RUNNING (n : Nat) : Fld := ⟨A.LRF_CAL_PROGRESS n, 31, 1⟩
abbrev LRF_SYNTH_FREQ (n : Nat) : Fld := ⟨A.LRF_SYNTH n, 0, 24⟩
abbrev LRF_SYNTH_BW (n : Nat) : Fld := ⟨A.LRF_SYNTH n, 24, 3⟩
abbrev LBB_CTRL_RX_EN (n : Nat) : Fld := ⟨A.LBB_CTRL n, 0, 1⟩
abbrev LBB_CTRL_OFDM_ACCEPT (n : Nat) : Fld := ⟨A.LBB_CTRL n, 1, 1⟩
abbrev LBB_STATUS_CTX_USED (n : Nat) : Fld := ⟨A.LBB_STATUS n, 0, 7⟩
abbrev LBB_STATUS_SUBCH_ACTIVE (n : Nat) : Fld := ⟨A.LBB_STATUS n, 8, 8⟩
abbrev LBB_STATUS_BANK_RUN (n : Nat) : Fld := ⟨A.LBB_STATUS n, 16, 1⟩
abbrev LBB_IRQ_STAT_CTX_DROP (n : Nat) : Fld := ⟨A.LBB_IRQ_STAT n, 0, 1⟩
abbrev LBB_IRQ_STAT_OFDM_BUSY (n : Nat) : Fld := ⟨A.LBB_IRQ_STAT n, 1, 1⟩
abbrev LBB_IRQ_STAT_DETECT (n : Nat) : Fld := ⟨A.LBB_IRQ_STAT n, 2, 1⟩
abbrev LBB_IRQ_STAT_CTX_PREEMPT (n : Nat) : Fld := ⟨A.LBB_IRQ_STAT n, 3, 1⟩
abbrev LBB_IRQ_STAT_BLANK_LOSS (n : Nat) : Fld := ⟨A.LBB_IRQ_STAT n, 4, 1⟩
abbrev LBB_IRQ_STAT_ERR (n : Nat) : Fld := ⟨A.LBB_IRQ_STAT n, 31, 1⟩
abbrev LBB_LOCK_LOCK0 (n : Nat) : Fld := ⟨A.LBB_LOCK n, 0, 1⟩
abbrev LBB_LOCK_LOCK1 (n : Nat) : Fld := ⟨A.LBB_LOCK n, 1, 1⟩
abbrev LBB_SYNC_CFG_NET_CODE (n : Nat) : Fld := ⟨A.LBB_SYNC_CFG n, 0, 8⟩
abbrev LBB_SYNC_CFG_ALT_CODE (n : Nat) : Fld := ⟨A.LBB_SYNC_CFG n, 8, 8⟩
abbrev LBB_SYNC_CFG_ALT_EN (n : Nat) : Fld := ⟨A.LBB_SYNC_CFG n, 16, 1⟩
abbrev LBB_DET_CFG_DET_RUN (n : Nat) : Fld := ⟨A.LBB_DET_CFG n, 0, 3⟩
abbrev LBB_DET_CFG_THRESH (n : Nat) : Fld := ⟨A.LBB_DET_CFG n, 8, 8⟩
abbrev LBB_DET_CFG_BRIDGE (n : Nat) : Fld := ⟨A.LBB_DET_CFG n, 16, 1⟩
abbrev LBB_TX_CFG_PREAMBLE (n : Nat) : Fld := ⟨A.LBB_TX_CFG n, 0, 7⟩
abbrev LBB_SUBCH_OFFSET (n k : Nat) : Fld := ⟨A.LBB_SUBCH n k, 0, 17⟩
abbrev LBB_SUBCH_SF_MASK (n k : Nat) : Fld := ⟨A.LBB_SUBCH n k, 22, 7⟩
abbrev LBB_SUBCH_BW (n k : Nat) : Fld := ⟨A.LBB_SUBCH n k, 29, 2⟩
abbrev LBB_SUBCH_EN (n k : Nat) : Fld := ⟨A.LBB_SUBCH n k, 31, 1⟩
abbrev LBB_DETECTIONS_COUNT (n : Nat) : Fld := ⟨A.LBB_DETECTIONS n, 0, 32⟩
abbrev LBB_FRAMES_OK_COUNT (n : Nat) : Fld := ⟨A.LBB_FRAMES_OK n, 0, 32⟩
abbrev LBB_OFDM_HANDOFF_COUNT (n : Nat) : Fld := ⟨A.LBB_OFDM_HANDOFF n, 0, 32⟩
abbrev LBB_SYNC_MISS_COUNT (n : Nat) : Fld := ⟨A.LBB_SYNC_MISS n, 0, 32⟩
abbrev LBB_SYNC_OTHER_COUNT (n : Nat) : Fld := ⟨A.LBB_SYNC_OTHER n, 0, 32⟩
abbrev LBB_OFFSET_RANGE_COUNT (n : Nat) : Fld := ⟨A.LBB_OFFSET_RANGE n, 0, 32⟩
abbrev LBB_HDR_FAIL_COUNT (n : Nat) : Fld := ⟨A.LBB_HDR_FAIL n, 0, 32⟩
abbrev LBB_HDR_INVALID_COUNT (n : Nat) : Fld := ⟨A.LBB_HDR_INVALID n, 0, 32⟩
abbrev LBB_OFDM_BUSY_COUNT (n : Nat) : Fld := ⟨A.LBB_OFDM_BUSY n, 0, 32⟩
abbrev LBB_PAY_CRC_COUNT (n : Nat) : Fld := ⟨A.LBB_PAY_CRC n, 0, 32⟩
abbrev LBB_CTX_DROP_COUNT (n : Nat) : Fld := ⟨A.LBB_CTX_DROP n, 0, 32⟩
abbrev LBB_CTX_PREEMPT_COUNT (n : Nat) : Fld := ⟨A.LBB_CTX_PREEMPT n, 0, 32⟩
abbrev LBB_BLANK_LOSS_COUNT (n : Nat) : Fld := ⟨A.LBB_BLANK_LOSS n, 0, 32⟩
abbrev LBB_NOISE_LEVEL (n k : Nat) : Fld := ⟨A.LBB_NOISE n k, 0, 16⟩
abbrev LBB_NOISE_VALID (n k : Nat) : Fld := ⟨A.LBB_NOISE n k, 31, 1⟩
abbrev LOF_CTRL_MAP_AUTO (n : Nat) : Fld := ⟨A.LOF_CTRL n, 0, 1⟩
abbrev LOF_STATUS_RX_BUSY (n : Nat) : Fld := ⟨A.LOF_STATUS n, 0, 1⟩
abbrev LOF_STATUS_TX_BUSY (n : Nat) : Fld := ⟨A.LOF_STATUS n, 1, 1⟩
abbrev LOF_STATUS_MEAS_USED (n : Nat) : Fld := ⟨A.LOF_STATUS n, 4, 5⟩
abbrev LOF_STATUS_RETIRING (n : Nat) : Fld := ⟨A.LOF_STATUS n, 16, 7⟩
abbrev LOF_IRQ_STAT_RX_FAIL (n : Nat) : Fld := ⟨A.LOF_IRQ_STAT n, 0, 1⟩
abbrev LOF_IRQ_STAT_MAP_ISSUED (n : Nat) : Fld := ⟨A.LOF_IRQ_STAT n, 1, 1⟩
abbrev LOF_IRQ_STAT_MAP_RECEIVED (n : Nat) : Fld := ⟨A.LOF_IRQ_STAT n, 2, 1⟩
abbrev LOF_IRQ_STAT_MAP_UNKNOWN (n : Nat) : Fld := ⟨A.LOF_IRQ_STAT n, 3, 1⟩
abbrev LOF_IRQ_STAT_MEAS_TIMEOUT (n : Nat) : Fld := ⟨A.LOF_IRQ_STAT n, 4, 1⟩
abbrev LOF_IRQ_STAT_MAP_DEFER (n : Nat) : Fld := ⟨A.LOF_IRQ_STAT n, 5, 1⟩
abbrev LOF_IRQ_STAT_BLANK_LOSS (n : Nat) : Fld := ⟨A.LOF_IRQ_STAT n, 6, 1⟩
abbrev LOF_IRQ_STAT_MAP_DEAD (n : Nat) : Fld := ⟨A.LOF_IRQ_STAT n, 7, 1⟩
abbrev LOF_IRQ_STAT_ERR (n : Nat) : Fld := ⟨A.LOF_IRQ_STAT n, 31, 1⟩
abbrev LOF_LOCK_LOCK0 (n : Nat) : Fld := ⟨A.LOF_LOCK n, 0, 1⟩
abbrev LOF_LOCK_LOCK1 (n : Nat) : Fld := ⟨A.LOF_LOCK n, 1, 1⟩
abbrev LOF_MAP_CFG_MARGIN (n : Nat) : Fld := ⟨A.LOF_MAP_CFG n, 0, 7⟩
abbrev LOF_MAP_CFG_MAX_BITS (n : Nat) : Fld := ⟨A.LOF_MAP_CFG n, 7, 4⟩
abbrev LOF_MAP_CFG_NQ_MIN (n : Nat) : Fld := ⟨A.LOF_MAP_CFG n, 11, 5⟩
abbrev LOF_MAP_CFG_PERIOD_S (n : Nat) : Fld := ⟨A.LOF_MAP_CFG n, 16, 16⟩
abbrev LOF_MEAS_CFG_MEAS_TIMEOUT_S (n : Nat) : Fld := ⟨A.LOF_MEAS_CFG n, 0, 16⟩
abbrev LOF_MEAS_CFG_QUIET_CODE (n : Nat) : Fld := ⟨A.LOF_MEAS_CFG n, 16, 2⟩
abbrev LOF_MEAS_CFG_RETIRE_S (n : Nat) : Fld := ⟨A.LOF_MEAS_CFG n, 24, 8⟩
abbrev LOF_TX_CFG_UNI_BITS (n : Nat) : Fld := ⟨A.LOF_TX_CFG n, 0, 4⟩
abbrev LOF_TX_CFG_UNI_RATE (n : Nat) : Fld := ⟨A.LOF_TX_CFG n, 4, 2⟩
abbrev LOF_TX_CFG_BACKOFF (n : Nat) : Fld := ⟨A.LOF_TX_CFG n, 8, 8⟩
abbrev LOF_TX_CFG_CLIP_DB (n : Nat) : Fld := ⟨A.LOF_TX_CFG n, 16, 4⟩
abbrev LOF_LDPC_CFG_MAX_ITER (n : Nat) : Fld := ⟨A.LOF_LDPC_CFG n, 0, 5⟩
abbrev LOF_RX_START_COUNT (n : Nat) : Fld := ⟨A.LOF_RX_START n, 0, 32⟩
abbrev LOF_RX_OK_COUNT (n : Nat) : Fld := ⟨A.LOF_RX_OK n, 0, 32⟩
abbrev LOF_FC_FAIL_COUNT (n : Nat) : Fld := ⟨A.LOF_FC_FAIL n, 0, 32⟩
abbrev LOF_MAP_UNKNOWN_COUNT (n : Nat) : Fld := ⟨A.LOF_MAP_UNKNOWN n, 0, 32⟩
abbrev LOF_LDPC_FAIL_COUNT (n : Nat) : Fld := ⟨A.LOF_LDPC_FAIL n, 0, 32⟩
abbrev LOF_CRC_FAIL_COUNT (n : Nat) : Fld := ⟨A.LOF_CRC_FAIL n, 0, 32⟩
abbrev LOF_PREEMPT_COUNT (n : Nat) : Fld := ⟨A.LOF_PREEMPT n, 0, 32⟩
abbrev LOF_BLANK_LOSS_COUNT (n : Nat) : Fld := ⟨A.LOF_BLANK_LOSS n, 0, 32⟩
abbrev LOF_TX_FRAMES_COUNT (n : Nat) : Fld := ⟨A.LOF_TX_FRAMES n, 0, 32⟩
abbrev LOF_MAPS_ISSUED_COUNT (n : Nat) : Fld := ⟨A.LOF_MAPS_ISSUED n, 0, 32⟩
abbrev LOF_MAPS_RECEIVED_COUNT (n : Nat) : Fld := ⟨A.LOF_MAPS_RECEIVED n, 0, 32⟩
abbrev LOF_MAP_RX_BAD_COUNT (n : Nat) : Fld := ⟨A.LOF_MAP_RX_BAD n, 0, 32⟩
abbrev LOF_MAP_DEFER_COUNT (n : Nat) : Fld := ⟨A.LOF_MAP_DEFER n, 0, 32⟩
abbrev LOF_MEAS_TIMEOUTS_COUNT (n : Nat) : Fld := ⟨A.LOF_MEAS_TIMEOUTS n, 0, 32⟩
abbrev MAC_CTRL_JOIN_EN : Fld := ⟨A.MAC_CTRL, 0, 1⟩
abbrev MAC_CTRL_PIGGYBACK : Fld := ⟨A.MAC_CTRL, 1, 1⟩
abbrev MAC_STATUS_BCN_ON : Fld := ⟨A.MAC_STATUS, 0, 4⟩
abbrev MAC_STATUS_PHASE : Fld := ⟨A.MAC_STATUS, 8, 7⟩
abbrev MAC_STATUS_TICK : Fld := ⟨A.MAC_STATUS, 16, 13⟩
abbrev MAC_STATUS_TIME_OK : Fld := ⟨A.MAC_STATUS, 31, 1⟩
abbrev MAC_IRQ_STAT_SUPERFRAME : Fld := ⟨A.MAC_IRQ_STAT, 0, 1⟩
abbrev MAC_IRQ_STAT_HYPERFRAME : Fld := ⟨A.MAC_IRQ_STAT, 1, 1⟩
abbrev MAC_IRQ_STAT_BCN_SKIP : Fld := ⟨A.MAC_IRQ_STAT, 2, 1⟩
abbrev MAC_IRQ_STAT_RENDEZVOUS : Fld := ⟨A.MAC_IRQ_STAT, 3, 1⟩
abbrev MAC_IRQ_STAT_RELEASED : Fld := ⟨A.MAC_IRQ_STAT, 4, 1⟩
abbrev MAC_IRQ_STAT_NBR_LOST : Fld := ⟨A.MAC_IRQ_STAT, 5, 1⟩
abbrev MAC_IRQ_STAT_NBR_RELEASED : Fld := ⟨A.MAC_IRQ_STAT, 6, 1⟩
abbrev MAC_IRQ_STAT_JOIN : Fld := ⟨A.MAC_IRQ_STAT, 7, 1⟩
abbrev MAC_IRQ_STAT_SLOT_REJECT : Fld := ⟨A.MAC_IRQ_STAT, 8, 1⟩
abbrev MAC_IRQ_STAT_ERR : Fld := ⟨A.MAC_IRQ_STAT, 31, 1⟩
abbrev MAC_LOCK_LOCK0 : Fld := ⟨A.MAC_LOCK, 0, 1⟩
abbrev MAC_LOCK_LOCK1 : Fld := ⟨A.MAC_LOCK, 1, 1⟩
abbrev MAC_LOCK_LOCK2 : Fld := ⟨A.MAC_LOCK, 2, 1⟩
abbrev MAC_LOCK_LOCK3 : Fld := ⟨A.MAC_LOCK, 3, 1⟩
abbrev MAC_ROUTER_ID_ID : Fld := ⟨A.MAC_ROUTER_ID, 0, 14⟩
abbrev MAC_SF_OFFSET_OFFSET : Fld := ⟨A.MAC_SF_OFFSET, 0, 13⟩
abbrev MAC_GUARD_CFG_PPM_DEF : Fld := ⟨A.MAC_GUARD_CFG, 8, 8⟩
abbrev MAC_GUARD_CFG_BASE_GUARD_US : Fld := ⟨A.MAC_GUARD_CFG, 16, 16⟩
abbrev MAC_ACK_CFG_LATE_MAX_US : Fld := ⟨A.MAC_ACK_CFG, 0, 16⟩
abbrev MAC_ACK_CFG_ACK_GAP_MS : Fld := ⟨A.MAC_ACK_CFG, 16, 8⟩
abbrev MAC_JOIN_CFG_MICLEN : Fld := ⟨A.MAC_JOIN_CFG, 0, 2⟩
abbrev MAC_JOIN_CFG_PERIOD_MIN : Fld := ⟨A.MAC_JOIN_CFG, 4, 3⟩
abbrev MAC_JOIN_CFG_PERIOD_MAX : Fld := ⟨A.MAC_JOIN_CFG, 8, 3⟩
abbrev MAC_JOIN_CFG_RESP_BYTES : Fld := ⟨A.MAC_JOIN_CFG, 16, 8⟩
abbrev MAC_JOIN_CFG_ACCEPT_GAP_MS : Fld := ⟨A.MAC_JOIN_CFG, 24, 8⟩
abbrev MAC_BCN_KEY_SLOT : Fld := ⟨A.MAC_BCN_KEY, 0, 9⟩
abbrev MAC_BCN_KEY_AUTH : Fld := ⟨A.MAC_BCN_KEY, 31, 1⟩
abbrev MAC_BCN_CFG_PWR (k : Nat) : Fld := ⟨A.MAC_BCN_CFG k, 0, 8⟩
abbrev MAC_BCN_CFG_CHANNEL (k : Nat) : Fld := ⟨A.MAC_BCN_CFG k, 8, 8⟩
abbrev MAC_BCN_CFG_PREAMBLE (k : Nat) : Fld := ⟨A.MAC_BCN_CFG k, 18, 7⟩
abbrev MAC_BCN_CFG_SFC (k : Nat) : Fld := ⟨A.MAC_BCN_CFG k, 25, 3⟩
abbrev MAC_BCN_CFG_SUBCH (k : Nat) : Fld := ⟨A.MAC_BCN_CFG k, 28, 3⟩
abbrev MAC_BCN_CFG_EN (k : Nat) : Fld := ⟨A.MAC_BCN_CFG k, 31, 1⟩
abbrev MAC_WAKE_CFG_PWR (k : Nat) : Fld := ⟨A.MAC_WAKE_CFG k, 0, 8⟩
abbrev MAC_WAKE_CFG_ANS_CH (k : Nat) : Fld := ⟨A.MAC_WAKE_CFG k, 8, 8⟩
abbrev MAC_WAKE_CFG_WAKE_CH (k : Nat) : Fld := ⟨A.MAC_WAKE_CFG k, 16, 8⟩
abbrev MAC_WAKE_CFG_ANS_SUBCH (k : Nat) : Fld := ⟨A.MAC_WAKE_CFG k, 24, 3⟩
abbrev MAC_WAKE_CFG_EN (k : Nat) : Fld := ⟨A.MAC_WAKE_CFG k, 31, 1⟩
abbrev MAC_NODES_ACTIVE_COUNT : Fld := ⟨A.MAC_NODES_ACTIVE, 0, 19⟩
abbrev MAC_NODES_RDV_COUNT : Fld := ⟨A.MAC_NODES_RDV, 0, 19⟩
abbrev MAC_BCN_SENT_COUNT : Fld := ⟨A.MAC_BCN_SENT, 0, 32⟩
abbrev MAC_BCN_SKIP_COUNT : Fld := ⟨A.MAC_BCN_SKIP, 0, 32⟩
abbrev MAC_SLOT_HITS_COUNT : Fld := ⟨A.MAC_SLOT_HITS, 0, 32⟩
abbrev MAC_SLOT_MISSES_COUNT : Fld := ⟨A.MAC_SLOT_MISSES, 0, 32⟩
abbrev MAC_OUT_OF_WINDOW_COUNT : Fld := ⟨A.MAC_OUT_OF_WINDOW, 0, 32⟩
abbrev MAC_ACK_SENT_COUNT : Fld := ⟨A.MAC_ACK_SENT, 0, 32⟩
abbrev MAC_ACK_DENIED_COUNT : Fld := ⟨A.MAC_ACK_DENIED, 0, 32⟩
abbrev MAC_DL_ATTEMPTS_COUNT : Fld := ⟨A.MAC_DL_ATTEMPTS, 0, 32⟩
abbrev MAC_DL_ACKED_COUNT : Fld := ⟨A.MAC_DL_ACKED, 0, 32⟩
abbrev MAC_WAKE_SENT_COUNT : Fld := ⟨A.MAC_WAKE_SENT, 0, 32⟩
abbrev MAC_WAKE_ANSWERED_COUNT : Fld := ⟨A.MAC_WAKE_ANSWERED, 0, 32⟩
abbrev MAC_JOIN_ACCEPTED_COUNT : Fld := ⟨A.MAC_JOIN_ACCEPTED, 0, 32⟩
abbrev MAC_JOIN_UNKNOWN_COUNT : Fld := ⟨A.MAC_JOIN_UNKNOWN, 0, 32⟩
abbrev MAC_JOIN_BAD_COUNT : Fld := ⟨A.MAC_JOIN_BAD, 0, 32⟩
abbrev MAC_JOIN_DEFER_COUNT : Fld := ⟨A.MAC_JOIN_DEFER, 0, 32⟩
abbrev MAC_SLOT_REJECT_COUNT : Fld := ⟨A.MAC_SLOT_REJECT, 0, 32⟩
abbrev MAC_NODES_RELEASED_COUNT : Fld := ⟨A.MAC_NODES_RELEASED, 0, 32⟩
abbrev MAC_NBR_ID_ROUTER_ID (k : Nat) : Fld := ⟨A.MAC_NBR_ID k, 0, 14⟩
abbrev MAC_NBR_ID_PREAMBLE (k : Nat) : Fld := ⟨A.MAC_NBR_ID k, 24, 7⟩
abbrev MAC_NBR_ID_EN (k : Nat) : Fld := ⟨A.MAC_NBR_ID k, 31, 1⟩
abbrev MAC_NBR_BCN_CHANNEL (k : Nat) : Fld := ⟨A.MAC_NBR_BCN k, 0, 8⟩
abbrev MAC_NBR_BCN_OFFSET (k : Nat) : Fld := ⟨A.MAC_NBR_BCN k, 8, 13⟩
abbrev MAC_NBR_BCN_ALT (k : Nat) : Fld := ⟨A.MAC_NBR_BCN k, 24, 1⟩
abbrev MAC_NBR_BCN_BW (k : Nat) : Fld := ⟨A.MAC_NBR_BCN k, 25, 2⟩
abbrev MAC_NBR_BCN_SFC (k : Nat) : Fld := ⟨A.MAC_NBR_BCN k, 27, 3⟩
abbrev MAC_NBR_BCN_LANE (k : Nat) : Fld := ⟨A.MAC_NBR_BCN k, 30, 2⟩
abbrev MAC_NBR_STATE_STATE0 (k : Nat) : Fld := ⟨A.MAC_NBR_STATE k, 0, 2⟩
abbrev MAC_NBR_STATE_STATE1 (k : Nat) : Fld := ⟨A.MAC_NBR_STATE k, 2, 2⟩
abbrev MAC_NBR_STATE_STATE2 (k : Nat) : Fld := ⟨A.MAC_NBR_STATE k, 4, 2⟩
abbrev MAC_NBR_STATE_STATE3 (k : Nat) : Fld := ⟨A.MAC_NBR_STATE k, 6, 2⟩
abbrev MAC_NBR_STATE_STATE4 (k : Nat) : Fld := ⟨A.MAC_NBR_STATE k, 8, 2⟩
abbrev MAC_NBR_STATE_STATE5 (k : Nat) : Fld := ⟨A.MAC_NBR_STATE k, 10, 2⟩
abbrev MAC_NBR_STATE_STATE6 (k : Nat) : Fld := ⟨A.MAC_NBR_STATE k, 12, 2⟩
abbrev MAC_NBR_STATE_STATE7 (k : Nat) : Fld := ⟨A.MAC_NBR_STATE k, 14, 2⟩
abbrev MAC_NBR_STATE_STATE8 (k : Nat) : Fld := ⟨A.MAC_NBR_STATE k, 16, 2⟩
abbrev MAC_NBR_STATE_STATE9 (k : Nat) : Fld := ⟨A.MAC_NBR_STATE k, 18, 2⟩
abbrev MAC_NBR_STATE_STATE10 (k : Nat) : Fld := ⟨A.MAC_NBR_STATE k, 20, 2⟩
abbrev MAC_NBR_STATE_STATE11 (k : Nat) : Fld := ⟨A.MAC_NBR_STATE k, 22, 2⟩
abbrev MAC_NBR_STATE_STATE12 (k : Nat) : Fld := ⟨A.MAC_NBR_STATE k, 24, 2⟩
abbrev MAC_NBR_STATE_STATE13 (k : Nat) : Fld := ⟨A.MAC_NBR_STATE k, 26, 2⟩
abbrev MAC_NBR_STATE_STATE14 (k : Nat) : Fld := ⟨A.MAC_NBR_STATE k, 28, 2⟩
abbrev MAC_NBR_STATE_STATE15 (k : Nat) : Fld := ⟨A.MAC_NBR_STATE k, 30, 2⟩
abbrev RGL_CTRL_PER_LANE : Fld := ⟨A.RGL_CTRL, 0, 1⟩
abbrev RGL_STATUS_BCN_FIT : Fld := ⟨A.RGL_STATUS, 0, 4⟩
abbrev RGL_STATUS_PENDING : Fld := ⟨A.RGL_STATUS, 16, 8⟩
abbrev RGL_STATUS_ACTIVE : Fld := ⟨A.RGL_STATUS, 24, 8⟩
abbrev RGL_IRQ_STAT_EXHAUST : Fld := ⟨A.RGL_IRQ_STAT, 0, 1⟩
abbrev RGL_IRQ_STAT_BCN_UNFIT : Fld := ⟨A.RGL_IRQ_STAT, 1, 1⟩
abbrev RGL_IRQ_STAT_PROFILE_CHANGED : Fld := ⟨A.RGL_IRQ_STAT, 2, 1⟩
abbrev RGL_IRQ_STAT_LBT_BUSY : Fld := ⟨A.RGL_IRQ_STAT, 3, 1⟩
abbrev RGL_IRQ_STAT_OUT_OF_PROFILE : Fld := ⟨A.RGL_IRQ_STAT, 4, 1⟩
abbrev RGL_IRQ_STAT_ERR : Fld := ⟨A.RGL_IRQ_STAT, 31, 1⟩
abbrev RGL_LOCK_LOCK0 : Fld := ⟨A.RGL_LOCK, 0, 1⟩
abbrev RGL_LOCK_LOCK1 : Fld := ⟨A.RGL_LOCK, 1, 1⟩
abbrev RGL_PROFILE_CODE : Fld := ⟨A.RGL_PROFILE, 0, 8⟩
abbrev RGL_RSV_CFG_ACK_RSV : Fld := ⟨A.RGL_RSV_CFG, 0, 8⟩
abbrev RGL_RSV_CFG_BCN_MAX : Fld := ⟨A.RGL_RSV_CFG, 8, 8⟩
abbrev RGL_BOOT_CFG_BOOT_CHARGE : Fld := ⟨A.RGL_BOOT_CFG, 0, 7⟩
abbrev RGL_ACCT_SEL_ACCOUNT : Fld := ⟨A.RGL_ACCT_SEL, 0, 8⟩
abbrev RGL_ACCT_SEL_LANE : Fld := ⟨A.RGL_ACCT_SEL, 8, 2⟩
abbrev RGL_EXT_GAIN_TX_GAIN (k : Nat) : Fld := ⟨A.RGL_EXT_GAIN k, 0, 8⟩
abbrev RGL_EXT_GAIN_RX_GAIN (k : Nat) : Fld := ⟨A.RGL_EXT_GAIN k, 8, 8⟩
abbrev RGL_ACCT_INFO_WINDOW_MS : Fld := ⟨A.RGL_ACCT_INFO, 0, 24⟩
abbrev RGL_ACCT_INFO_KIND : Fld := ⟨A.RGL_ACCT_INFO, 24, 2⟩
abbrev RGL_ACCT_INFO_VALID : Fld := ⟨A.RGL_ACCT_INFO, 31, 1⟩
abbrev RGL_ACCT_BUDGET_US : Fld := ⟨A.RGL_ACCT_BUDGET, 0, 32⟩
abbrev RGL_ACCT_USED_US : Fld := ⟨A.RGL_ACCT_USED, 0, 32⟩
abbrev RGL_ACCT_BCN_US : Fld := ⟨A.RGL_ACCT_BCN, 0, 32⟩
abbrev RGL_ACCT_RSV_US : Fld := ⟨A.RGL_ACCT_RSV, 0, 32⟩
abbrev RGL_GRANTS_COUNT : Fld := ⟨A.RGL_GRANTS, 0, 32⟩
abbrev RGL_WITHHELD_COUNT : Fld := ⟨A.RGL_WITHHELD, 0, 32⟩
abbrev RGL_REFUNDS_COUNT : Fld := ⟨A.RGL_REFUNDS, 0, 32⟩
abbrev RGL_LBT_BUSY_COUNT : Fld := ⟨A.RGL_LBT_BUSY, 0, 32⟩
abbrev RGL_OUT_OF_PROFILE_COUNT : Fld := ⟨A.RGL_OUT_OF_PROFILE, 0, 32⟩
abbrev RGL_NO_PROFILE_COUNT : Fld := ⟨A.RGL_NO_PROFILE, 0, 32⟩
abbrev CAD_CTRL_ADAPT_EN : Fld := ⟨A.CAD_CTRL, 0, 1⟩
abbrev CAD_CTRL_ROUTE_EN : Fld := ⟨A.CAD_CTRL, 1, 1⟩
abbrev CAD_CTRL_PEER_OFDM : Fld := ⟨A.CAD_CTRL, 2, 1⟩
abbrev CAD_STATUS_READY : Fld := ⟨A.CAD_STATUS, 0, 1⟩
abbrev CAD_IRQ_STAT_UNKNOWN : Fld := ⟨A.CAD_IRQ_STAT, 0, 1⟩
abbrev CAD_IRQ_STAT_MIC_FAIL : Fld := ⟨A.CAD_IRQ_STAT, 1, 1⟩
abbrev CAD_IRQ_STAT_REPLAY : Fld := ⟨A.CAD_IRQ_STAT, 2, 1⟩
abbrev CAD_IRQ_STAT_SESSION_NEW : Fld := ⟨A.CAD_IRQ_STAT, 3, 1⟩
abbrev CAD_IRQ_STAT_ADAPT_DEFER : Fld := ⟨A.CAD_IRQ_STAT, 4, 1⟩
abbrev CAD_IRQ_STAT_ROUTE_CHANGE : Fld := ⟨A.CAD_IRQ_STAT, 5, 1⟩
abbrev CAD_IRQ_STAT_CHILD_LOST : Fld := ⟨A.CAD_IRQ_STAT, 6, 1⟩
abbrev CAD_IRQ_STAT_ERR : Fld := ⟨A.CAD_IRQ_STAT, 31, 1⟩
abbrev CAD_LOCK_LOCK0 : Fld := ⟨A.CAD_LOCK, 0, 1⟩
abbrev CAD_LOCK_LOCK1 : Fld := ⟨A.CAD_LOCK, 1, 1⟩
abbrev CAD_ADAPT_CFG_TARGET : Fld := ⟨A.CAD_ADAPT_CFG, 0, 8⟩
abbrev CAD_ADAPT_CFG_HYST : Fld := ⟨A.CAD_ADAPT_CFG, 8, 8⟩
abbrev CAD_ADAPT_CFG_HOLD_S : Fld := ⟨A.CAD_ADAPT_CFG, 16, 16⟩
abbrev CAD_PWR_CFG_PWR_MIN : Fld := ⟨A.CAD_PWR_CFG, 0, 8⟩
abbrev CAD_PWR_CFG_DL_PWR_MIN : Fld := ⟨A.CAD_PWR_CFG, 8, 8⟩
abbrev CAD_PWR_CFG_DL_PWR_MAX : Fld := ⟨A.CAD_PWR_CFG, 16, 8⟩
abbrev CAD_PWR_CFG_NODE_NF : Fld := ⟨A.CAD_PWR_CFG, 24, 8⟩
abbrev CAD_OFDM_CFG_OFDM_MIN : Fld := ⟨A.CAD_OFDM_CFG, 0, 11⟩
abbrev CAD_PARCELS_USED_COUNT : Fld := ⟨A.CAD_PARCELS_USED, 0, 19⟩
abbrev CAD_WOR_USED_COUNT : Fld := ⟨A.CAD_WOR_USED, 0, 17⟩
abbrev CAD_PEERS_USED_COUNT : Fld := ⟨A.CAD_PEERS_USED, 0, 13⟩
abbrev CAD_ROUTES_VALID_COUNT : Fld := ⟨A.CAD_ROUTES_VALID, 0, 13⟩
abbrev CAD_UP_NEW_COUNT : Fld := ⟨A.CAD_UP_NEW, 0, 32⟩
abbrev CAD_DUPLICATES_COUNT : Fld := ⟨A.CAD_DUPLICATES, 0, 32⟩
abbrev CAD_LATE_COUNT : Fld := ⟨A.CAD_LATE, 0, 32⟩
abbrev CAD_REPLAYS_COUNT : Fld := ⟨A.CAD_REPLAYS, 0, 32⟩
abbrev CAD_UP_LOST_COUNT : Fld := ⟨A.CAD_UP_LOST, 0, 32⟩
abbrev CAD_MIC_FAIL_COUNT : Fld := ⟨A.CAD_MIC_FAIL, 0, 32⟩
abbrev CAD_UNKNOWN_COUNT : Fld := ⟨A.CAD_UNKNOWN, 0, 32⟩
abbrev CAD_FOREIGN_COUNT : Fld := ⟨A.CAD_FOREIGN, 0, 32⟩
abbrev CAD_RELAY_DROPS_COUNT : Fld := ⟨A.CAD_RELAY_DROPS, 0, 32⟩
abbrev CAD_ADAPT_CHANGES_COUNT : Fld := ⟨A.CAD_ADAPT_CHANGES, 0, 32⟩
abbrev CAD_ADAPT_DEFER_COUNT : Fld := ⟨A.CAD_ADAPT_DEFER, 0, 32⟩
abbrev CAD_SESSIONS_NEW_COUNT : Fld := ⟨A.CAD_SESSIONS_NEW, 0, 32⟩
abbrev UPD_STATUS_SESS_RUN : Fld := ⟨A.UPD_STATUS, 0, 4⟩
abbrev UPD_STATUS_IMG_VALID : Fld := ⟨A.UPD_STATUS, 8, 8⟩
abbrev UPD_IRQ_STAT_SESSION_START : Fld := ⟨A.UPD_IRQ_STAT, 0, 1⟩
abbrev UPD_IRQ_STAT_IMAGE_LOADED : Fld := ⟨A.UPD_IRQ_STAT, 1, 1⟩
abbrev UPD_IRQ_STAT_ROUND_END : Fld := ⟨A.UPD_IRQ_STAT, 2, 1⟩
abbrev UPD_IRQ_STAT_SESSION_END : Fld := ⟨A.UPD_IRQ_STAT, 3, 1⟩
abbrev UPD_IRQ_STAT_NODE_FAIL : Fld := ⟨A.UPD_IRQ_STAT, 4, 1⟩
abbrev UPD_IRQ_STAT_ERR : Fld := ⟨A.UPD_IRQ_STAT, 31, 1⟩
abbrev UPD_LOCK_LOCK0 : Fld := ⟨A.UPD_LOCK, 0, 1⟩
abbrev UPD_CFG_SYM_CODE : Fld := ⟨A.UPD_CFG, 0, 3⟩
abbrev UPD_CFG_EXTRA : Fld := ⟨A.UPD_CFG, 8, 4⟩
abbrev UPD_CFG_BUDGET_PCT : Fld := ⟨A.UPD_CFG, 16, 8⟩
abbrev UPD_CFG_INVITE_SF : Fld := ⟨A.UPD_CFG, 24, 8⟩
abbrev UPD_KEY_CFG_SLOT : Fld := ⟨A.UPD_KEY_CFG, 0, 9⟩
abbrev UPD_MC_CFG_SFC0 : Fld := ⟨A.UPD_MC_CFG, 0, 3⟩
abbrev UPD_MC_CFG_SFC1 : Fld := ⟨A.UPD_MC_CFG, 4, 3⟩
abbrev UPD_MC_CFG_SFC2 : Fld := ⟨A.UPD_MC_CFG, 8, 3⟩
abbrev UPD_MC_CFG_SFC3 : Fld := ⟨A.UPD_MC_CFG, 12, 3⟩
abbrev UPD_IMG_INFO_LEN (k : Nat) : Fld := ⟨A.UPD_IMG_INFO k, 0, 22⟩
abbrev UPD_IMG_INFO_SYM_CODE (k : Nat) : Fld := ⟨A.UPD_IMG_INFO k, 24, 3⟩
abbrev UPD_IMG_INFO_IN_SESSION (k : Nat) : Fld := ⟨A.UPD_IMG_INFO k, 30, 1⟩
abbrev UPD_IMG_INFO_VALID (k : Nat) : Fld := ⟨A.UPD_IMG_INFO k, 31, 1⟩
abbrev UPD_SESS_ID_SESSION (k : Nat) : Fld := ⟨A.UPD_SESS_ID k, 0, 32⟩
abbrev UPD_SESS_STATE_STATE (k : Nat) : Fld := ⟨A.UPD_SESS_STATE k, 0, 3⟩
abbrev UPD_SESS_STATE_END_REASON (k : Nat) : Fld := ⟨A.UPD_SESS_STATE k, 4, 3⟩
abbrev UPD_SESS_STATE_IMAGE (k : Nat) : Fld := ⟨A.UPD_SESS_STATE k, 8, 3⟩
abbrev UPD_SESS_STATE_LANE_MASK (k : Nat) : Fld := ⟨A.UPD_SESS_STATE k, 12, 4⟩
abbrev UPD_SESS_TARGETED_COUNT (k : Nat) : Fld := ⟨A.UPD_SESS_TARGETED k, 0, 19⟩
abbrev UPD_SESS_COMPLETED_COUNT (k : Nat) : Fld := ⟨A.UPD_SESS_COMPLETED k, 0, 19⟩
abbrev UPD_SESS_PENDING_COUNT (k : Nat) : Fld := ⟨A.UPD_SESS_PENDING k, 0, 19⟩
abbrev UPD_SESS_DECLINED_COUNT (k : Nat) : Fld := ⟨A.UPD_SESS_DECLINED k, 0, 19⟩
abbrev UPD_SESS_FAILED_COUNT (k : Nat) : Fld := ⟨A.UPD_SESS_FAILED k, 0, 19⟩
abbrev UPD_SESS_LOST_COUNT (k : Nat) : Fld := ⟨A.UPD_SESS_LOST k, 0, 19⟩
abbrev UPD_MC_FRAMES_COUNT : Fld := ⟨A.UPD_MC_FRAMES, 0, 32⟩
abbrev UPD_MC_WITHHELD_COUNT : Fld := ⟨A.UPD_MC_WITHHELD, 0, 32⟩
abbrev UPD_REPAIR_FRAMES_COUNT : Fld := ⟨A.UPD_REPAIR_FRAMES, 0, 32⟩
abbrev UPD_REPORTS_COUNT : Fld := ⟨A.UPD_REPORTS, 0, 32⟩
abbrev UPD_REPORTS_BAD_COUNT : Fld := ⟨A.UPD_REPORTS_BAD, 0, 32⟩
abbrev FAB_CTRL_CT_EN : Fld := ⟨A.FAB_CTRL, 0, 1⟩
abbrev FAB_CTRL_DRAM_OVF : Fld := ⟨A.FAB_CTRL, 1, 1⟩
abbrev FAB_STATUS_HRX_RUN : Fld := ⟨A.FAB_STATUS, 0, 8⟩
abbrev FAB_IRQ_STAT_QUEUE_FAULT : Fld := ⟨A.FAB_IRQ_STAT, 0, 1⟩
abbrev FAB_IRQ_STAT_BREAK : Fld := ⟨A.FAB_IRQ_STAT, 1, 1⟩
abbrev FAB_IRQ_STAT_UNDERRUN : Fld := ⟨A.FAB_IRQ_STAT, 2, 1⟩
abbrev FAB_IRQ_STAT_DROP : Fld := ⟨A.FAB_IRQ_STAT, 3, 1⟩
abbrev FAB_IRQ_STAT_BUF_LOW : Fld := ⟨A.FAB_IRQ_STAT, 4, 1⟩
abbrev FAB_IRQ_STAT_HRX : Fld := ⟨A.FAB_IRQ_STAT, 8, 8⟩
abbrev FAB_IRQ_STAT_ERR : Fld := ⟨A.FAB_IRQ_STAT, 31, 1⟩
abbrev FAB_LOCK_LOCK0 : Fld := ⟨A.FAB_LOCK, 0, 1⟩
abbrev FAB_LOCK_LOCK1 : Fld := ⟨A.FAB_LOCK, 1, 1⟩
abbrev FAB_BUF_CFG_LOW_CELLS : Fld := ⟨A.FAB_BUF_CFG, 0, 16⟩
abbrev FAB_BUF_CFG_SRAM_RSV : Fld := ⟨A.FAB_BUF_CFG, 16, 16⟩
abbrev FAB_UPLINK_CFG_HASH_LOG2 : Fld := ⟨A.FAB_UPLINK_CFG, 0, 3⟩
abbrev FAB_UPLINK_CFG_UPQ_BASE : Fld := ⟨A.FAB_UPLINK_CFG, 16, 12⟩
abbrev FAB_HELD_COUNT_COUNT : Fld := ⟨A.FAB_HELD_COUNT, 0, 13⟩
abbrev FAB_HRX_CTRL_ENABLE (k : Nat) : Fld := ⟨A.FAB_HRX_CTRL k, 0, 1⟩
abbrev FAB_HRX_CTRL_RESET (k : Nat) : Fld := ⟨A.FAB_HRX_CTRL k, 1, 1⟩
abbrev FAB_HRX_CTRL_ENT_LOG2 (k : Nat) : Fld := ⟨A.FAB_HRX_CTRL k, 8, 4⟩
abbrev FAB_HRX_BASE_BASE (k : Nat) : Fld := ⟨A.FAB_HRX_BASE k, 0, 32⟩
abbrev FAB_HRX_BASE_HI_BASE (k : Nat) : Fld := ⟨A.FAB_HRX_BASE_HI k, 0, 32⟩
abbrev FAB_HRX_SIZE_SIZE_LOG2 (k : Nat) : Fld := ⟨A.FAB_HRX_SIZE k, 0, 4⟩
abbrev FAB_HRX_HEAD_HEAD (k : Nat) : Fld := ⟨A.FAB_HRX_HEAD k, 0, 14⟩
abbrev FAB_HRX_TAIL_TAIL (k : Nat) : Fld := ⟨A.FAB_HRX_TAIL k, 0, 14⟩
abbrev FAB_HRX_COAL_TIME_US (k : Nat) : Fld := ⟨A.FAB_HRX_COAL k, 0, 16⟩
abbrev FAB_HRX_COAL_COUNT (k : Nat) : Fld := ⟨A.FAB_HRX_COAL k, 16, 8⟩
abbrev FAB_HRX_STATUS_STATE (k : Nat) : Fld := ⟨A.FAB_HRX_STATUS k, 0, 2⟩
abbrev FAB_SRAM_CELLS_USED_COUNT : Fld := ⟨A.FAB_SRAM_CELLS_USED, 0, 14⟩
abbrev FAB_DRAM_CELLS_USED_COUNT : Fld := ⟨A.FAB_DRAM_CELLS_USED, 0, 17⟩
abbrev FAB_DESC_USED_COUNT : Fld := ⟨A.FAB_DESC_USED, 0, 19⟩
abbrev FAB_NONEMPTY_COUNT : Fld := ⟨A.FAB_NONEMPTY, 0, 13⟩
abbrev FAB_DEEPEST_Q_QUEUE : Fld := ⟨A.FAB_DEEPEST_Q, 0, 12⟩
abbrev FAB_DEEPEST_DEPTH_COUNT : Fld := ⟨A.FAB_DEEPEST_DEPTH, 0, 19⟩
abbrev FAB_ENQUEUED_COUNT : Fld := ⟨A.FAB_ENQUEUED, 0, 32⟩
abbrev FAB_DEQUEUED_COUNT : Fld := ⟨A.FAB_DEQUEUED, 0, 32⟩
abbrev FAB_DROPS_COUNT : Fld := ⟨A.FAB_DROPS, 0, 32⟩
abbrev FAB_FLUSHED_COUNT : Fld := ⟨A.FAB_FLUSHED, 0, 32⟩
abbrev FAB_UNDERRUNS_COUNT : Fld := ⟨A.FAB_UNDERRUNS, 0, 32⟩
abbrev FAB_QUEUE_FAULTS_COUNT : Fld := ⟨A.FAB_QUEUE_FAULTS, 0, 32⟩
abbrev FAB_MARKERS_COUNT : Fld := ⟨A.FAB_MARKERS, 0, 32⟩
abbrev QW_SEL_QUEUE : Fld := ⟨A.QW_SEL, 0, 12⟩
abbrev QW_QCFG_CT_THRESH : Fld := ⟨A.QW_QCFG, 0, 8⟩
abbrev QW_QCFG_CLASS : Fld := ⟨A.QW_QCFG, 16, 3⟩
abbrev QW_QCFG_HRX : Fld := ⟨A.QW_QCFG, 20, 3⟩
abbrev QW_QCFG_DEST : Fld := ⟨A.QW_QCFG, 24, 4⟩
abbrev QW_QCFG_DROP_BREAK : Fld := ⟨A.QW_QCFG, 29, 1⟩
abbrev QW_QCFG_AUTO_RESUME : Fld := ⟨A.QW_QCFG, 30, 1⟩
abbrev QW_QCFG_ENABLE : Fld := ⟨A.QW_QCFG, 31, 1⟩
abbrev QW_QLIMIT_MAX_KIB : Fld := ⟨A.QW_QLIMIT, 0, 16⟩
abbrev QW_QLIMIT_MAX_ITEMS : Fld := ⟨A.QW_QLIMIT, 16, 16⟩
abbrev QW_STATE_STATE : Fld := ⟨A.QW_STATE, 0, 2⟩
abbrev QW_STATE_EMPTY : Fld := ⟨A.QW_STATE, 2, 1⟩
abbrev QW_STATE_CT_ACTIVE : Fld := ⟨A.QW_STATE, 3, 1⟩
abbrev QW_STATE_PRODUCING : Fld := ⟨A.QW_STATE, 4, 1⟩
abbrev QW_STATE_UNDERRUN : Fld := ⟨A.QW_STATE, 8, 1⟩
abbrev QW_STATE_BREAK_PENDING : Fld := ⟨A.QW_STATE, 9, 1⟩
abbrev QW_DEPTH_COUNT : Fld := ⟨A.QW_DEPTH, 0, 19⟩
abbrev QW_BYTES_COUNT : Fld := ⟨A.QW_BYTES, 0, 26⟩
abbrev QW_SEQ_NEXT_QSEQ : Fld := ⟨A.QW_SEQ_NEXT, 0, 32⟩
abbrev QW_SEQ_HEAD_QSEQ : Fld := ⟨A.QW_SEQ_HEAD, 0, 32⟩
abbrev QW_BREAK_FIRST_FIRST : Fld := ⟨A.QW_BREAK_FIRST, 0, 32⟩
abbrev QW_BREAK_LAST_LAST : Fld := ⟨A.QW_BREAK_LAST, 0, 32⟩
abbrev QW_POP_VALID : Fld := ⟨A.QW_POP, 31, 1⟩
abbrev QW_POP1_DESC : Fld := ⟨A.QW_POP1, 0, 32⟩
abbrev QW_POP2_DESC : Fld := ⟨A.QW_POP2, 0, 32⟩
abbrev QW_POP3_DESC : Fld := ⟨A.QW_POP3, 0, 32⟩
abbrev QW_POP4_DESC : Fld := ⟨A.QW_POP4, 0, 32⟩
abbrev QW_POP5_DESC : Fld := ⟨A.QW_POP5, 0, 32⟩
abbrev QW_POP6_DESC : Fld := ⟨A.QW_POP6, 0, 32⟩
abbrev QW_POP7_DESC : Fld := ⟨A.QW_POP7, 0, 32⟩
abbrev QW_POP8_DESC : Fld := ⟨A.QW_POP8, 0, 32⟩
abbrev QW_DATA_DATA : Fld := ⟨A.QW_DATA, 0, 32⟩
abbrev QW_Q_ENQ_COUNT : Fld := ⟨A.QW_Q_ENQ, 0, 32⟩
abbrev QW_Q_DROPS_COUNT : Fld := ⟨A.QW_Q_DROPS, 0, 32⟩
abbrev QW_Q_FLUSHED_COUNT : Fld := ⟨A.QW_Q_FLUSHED, 0, 32⟩
abbrev QW_Q_UNDERRUNS_COUNT : Fld := ⟨A.QW_Q_UNDERRUNS, 0, 32⟩
abbrev QW_HELD_MAP_HELD (k : Nat) : Fld := ⟨A.QW_HELD_MAP k, 0, 32⟩
abbrev TSS_CTRL_SHAPE_EN : Fld := ⟨A.TSS_CTRL, 0, 1⟩
abbrev TSS_CTRL_POLICE_EN : Fld := ⟨A.TSS_CTRL, 1, 1⟩
abbrev TSS_STATUS_SAMPLE_CODE : Fld := ⟨A.TSS_STATUS, 0, 4⟩
abbrev TSS_IRQ_STAT_SAMPLE_DONE : Fld := ⟨A.TSS_IRQ_STAT, 0, 1⟩
abbrev TSS_IRQ_STAT_STAT_SAT : Fld := ⟨A.TSS_IRQ_STAT, 1, 1⟩
abbrev TSS_IRQ_STAT_ERR : Fld := ⟨A.TSS_IRQ_STAT, 31, 1⟩
abbrev TSS_LOCK_LOCK0 : Fld := ⟨A.TSS_LOCK, 0, 1⟩
abbrev TSS_LOCK_LOCK1 : Fld := ⟨A.TSS_LOCK, 1, 1⟩
abbrev TSS_SEL_QUEUE : Fld := ⟨A.TSS_SEL, 0, 12⟩
abbrev TSS_CLS_SEL_CLASS : Fld := ⟨A.TSS_CLS_SEL, 0, 3⟩
abbrev TSS_CLS_SEL_EGRESS : Fld := ⟨A.TSS_CLS_SEL, 8, 4⟩
abbrev TSS_POL_SEL_POLICER : Fld := ⟨A.TSS_POL_SEL, 0, 8⟩
abbrev TSS_SAMPLE_CFG_CODE : Fld := ⟨A.TSS_SAMPLE_CFG, 0, 4⟩
abbrev TSS_OVH_CFG_EMA : Fld := ⟨A.TSS_OVH_CFG, 0, 8⟩
abbrev TSS_OVH_CFG_EMB : Fld := ⟨A.TSS_OVH_CFG, 8, 8⟩
abbrev TSS_OVH_CFG_HOST : Fld := ⟨A.TSS_OVH_CFG, 16, 8⟩
abbrev TSS_Q_SHAPE_RATE : Fld := ⟨A.TSS_Q_SHAPE, 0, 22⟩
abbrev TSS_Q_SHAPE_EN : Fld := ⟨A.TSS_Q_SHAPE, 31, 1⟩
abbrev TSS_Q_BURST_BURST : Fld := ⟨A.TSS_Q_BURST, 0, 24⟩
abbrev TSS_Q_SCHED_QUANTUM : Fld := ⟨A.TSS_Q_SCHED, 0, 16⟩
abbrev TSS_Q_SCHED_POLICER : Fld := ⟨A.TSS_Q_SCHED, 16, 8⟩
abbrev TSS_Q_SCHED_POL_EN : Fld := ⟨A.TSS_Q_SCHED, 31, 1⟩
abbrev TSS_Q_CREDIT_CREDIT : Fld := ⟨A.TSS_Q_CREDIT, 0, 32⟩
abbrev TSS_ST_CTRL_SNAP : Fld := ⟨A.TSS_ST_CTRL, 0, 1⟩
abbrev TSS_ST_CTRL_CLEAR : Fld := ⟨A.TSS_ST_CTRL, 1, 1⟩
abbrev TSS_ST_SAMPLES_COUNT : Fld := ⟨A.TSS_ST_SAMPLES, 0, 31⟩
abbrev TSS_ST_SAMPLES_VALID : Fld := ⟨A.TSS_ST_SAMPLES, 31, 1⟩
abbrev TSS_ST_DEPTH_MIN_VALUE : Fld := ⟨A.TSS_ST_DEPTH_MIN, 0, 32⟩
abbrev TSS_ST_DEPTH_MAX_VALUE : Fld := ⟨A.TSS_ST_DEPTH_MAX, 0, 32⟩
abbrev TSS_ST_DEPTH_LAST_VALUE : Fld := ⟨A.TSS_ST_DEPTH_LAST, 0, 32⟩
abbrev TSS_ST_DELAY_MIN_US : Fld := ⟨A.TSS_ST_DELAY_MIN, 0, 32⟩
abbrev TSS_ST_DELAY_MAX_US : Fld := ⟨A.TSS_ST_DELAY_MAX, 0, 32⟩
abbrev TSS_ST_DELAY_LAST_US : Fld := ⟨A.TSS_ST_DELAY_LAST, 0, 32⟩
abbrev TSS_ST_DEPTH_HIST_COUNT (k : Nat) : Fld := ⟨A.TSS_ST_DEPTH_HIST k, 0, 32⟩
abbrev TSS_ST_DELAY_HIST_COUNT (k : Nat) : Fld := ⟨A.TSS_ST_DELAY_HIST k, 0, 32⟩
abbrev TSS_CLS_CFG_WEIGHT : Fld := ⟨A.TSS_CLS_CFG, 0, 8⟩
abbrev TSS_CLS_CFG_SHAPE_EN : Fld := ⟨A.TSS_CLS_CFG, 30, 1⟩
abbrev TSS_CLS_CFG_STRICT : Fld := ⟨A.TSS_CLS_CFG, 31, 1⟩
abbrev TSS_CLS_RATE_RATE : Fld := ⟨A.TSS_CLS_RATE, 0, 22⟩
abbrev TSS_CLS_BURST_BURST : Fld := ⟨A.TSS_CLS_BURST, 0, 24⟩
abbrev TSS_POL_CIR_RATE : Fld := ⟨A.TSS_POL_CIR, 0, 22⟩
abbrev TSS_POL_CBS_BYTES : Fld := ⟨A.TSS_POL_CBS, 0, 24⟩
abbrev TSS_POL_PIR_RATE : Fld := ⟨A.TSS_POL_PIR, 0, 22⟩
abbrev TSS_POL_PBS_BYTES : Fld := ⟨A.TSS_POL_PBS, 0, 24⟩
abbrev TSS_POL_GREEN_COUNT : Fld := ⟨A.TSS_POL_GREEN, 0, 32⟩
abbrev TSS_POL_YELLOW_COUNT : Fld := ⟨A.TSS_POL_YELLOW, 0, 32⟩
abbrev TSS_POL_RED_COUNT : Fld := ⟨A.TSS_POL_RED, 0, 32⟩
abbrev TSS_RSHAPE_c_RATE (k : Nat) : Fld := ⟨A.TSS_RSHAPE_c k, 0, 24⟩
abbrev TSS_RSHAPE_c_BURST (k : Nat) : Fld := ⟨A.TSS_RSHAPE_c k, 24, 7⟩
abbrev TSS_RSHAPE_c_EN (k : Nat) : Fld := ⟨A.TSS_RSHAPE_c k, 31, 1⟩
abbrev TSS_RADIO_SHAPED_COUNT : Fld := ⟨A.TSS_RADIO_SHAPED, 0, 32⟩
abbrev TSS_RADIO_GATED_COUNT : Fld := ⟨A.TSS_RADIO_GATED, 0, 32⟩
abbrev TSS_POL_RED_TOTAL_COUNT : Fld := ⟨A.TSS_POL_RED_TOTAL, 0, 32⟩
abbrev GCL_IRQ_STAT_SWITCHED : Fld := ⟨A.GCL_IRQ_STAT, 0, 1⟩
abbrev GCL_IRQ_STAT_REJECTED : Fld := ⟨A.GCL_IRQ_STAT, 1, 1⟩
abbrev GCL_IRQ_STAT_UNFIT : Fld := ⟨A.GCL_IRQ_STAT, 2, 1⟩
abbrev GCL_IRQ_STAT_ERR : Fld := ⟨A.GCL_IRQ_STAT, 31, 1⟩
abbrev GCL_LOCK_LOCK0 : Fld := ⟨A.GCL_LOCK, 0, 1⟩
abbrev GCL_LOCK_LOCK1 : Fld := ⟨A.GCL_LOCK, 1, 1⟩
abbrev GCL_WIN_SEL_ENTRY : Fld := ⟨A.GCL_WIN_SEL, 0, 8⟩
abbrev GCL_WIN_SEL_BANK : Fld := ⟨A.GCL_WIN_SEL, 12, 1⟩
abbrev GCL_WIN_SEL_LIST : Fld := ⟨A.GCL_WIN_SEL, 16, 3⟩
abbrev GCL_WIN_CTRL_INC : Fld := ⟨A.GCL_WIN_CTRL, 0, 1⟩
abbrev GCL_WIN_DATA_ENTRY : Fld := ⟨A.GCL_WIN_DATA, 0, 32⟩
abbrev GCL_L_CTRL_LOADED (k : Nat) : Fld := ⟨A.GCL_L_CTRL k, 0, 1⟩
abbrev GCL_L_CTRL_OPER_BANK (k : Nat) : Fld := ⟨A.GCL_L_CTRL k, 4, 1⟩
abbrev GCL_L_CTRL_SWITCH (k : Nat) : Fld := ⟨A.GCL_L_CTRL k, 8, 1⟩
abbrev GCL_L_CTRL_ENABLE (k : Nat) : Fld := ⟨A.GCL_L_CTRL k, 31, 1⟩
abbrev GCL_L_ADMIN_LEN_LEN (k : Nat) : Fld := ⟨A.GCL_L_ADMIN_LEN k, 0, 9⟩
abbrev GCL_L_ADMIN_CYCLE_CYCLE (k : Nat) : Fld := ⟨A.GCL_L_ADMIN_CYCLE k, 0, 32⟩
abbrev GCL_L_ADMIN_BASE_NS (k : Nat) : Fld := ⟨A.GCL_L_ADMIN_BASE k, 0, 30⟩
abbrev GCL_L_ADMIN_BASE_MID_S_LO (k : Nat) : Fld := ⟨A.GCL_L_ADMIN_BASE_MID k, 0, 32⟩
abbrev GCL_L_ADMIN_BASE_HI_S_HI (k : Nat) : Fld := ⟨A.GCL_L_ADMIN_BASE_HI k, 0, 32⟩
abbrev GCL_L_OPER_STATE_ENTRY (k : Nat) : Fld := ⟨A.GCL_L_OPER_STATE k, 0, 8⟩
abbrev GCL_L_OPER_STATE_GATES (k : Nat) : Fld := ⟨A.GCL_L_OPER_STATE k, 24, 8⟩
abbrev GCL_L_OPER_CYCLE_CYCLE (k : Nat) : Fld := ⟨A.GCL_L_OPER_CYCLE k, 0, 32⟩
abbrev GCL_SWITCHES_COUNT : Fld := ⟨A.GCL_SWITCHES, 0, 32⟩
abbrev GCL_REJECTS_COUNT : Fld := ⟨A.GCL_REJECTS, 0, 32⟩
abbrev GCL_GUARD_HOLD_A_COUNT : Fld := ⟨A.GCL_GUARD_HOLD_A, 0, 32⟩
abbrev GCL_GUARD_HOLD_B_COUNT : Fld := ⟨A.GCL_GUARD_HOLD_B, 0, 32⟩
abbrev EM_CTRL_TX_EN (n : Nat) : Fld := ⟨A.EM_CTRL n, 0, 1⟩
abbrev EM_CTRL_RX_EN (n : Nat) : Fld := ⟨A.EM_CTRL n, 1, 1⟩
abbrev EM_STATUS_RATE (n : Nat) : Fld := ⟨A.EM_STATUS n, 0, 4⟩
abbrev EM_STATUS_LINK (n : Nat) : Fld := ⟨A.EM_STATUS n, 4, 1⟩
abbrev EM_STATUS_AN_DONE (n : Nat) : Fld := ⟨A.EM_STATUS n, 5, 1⟩
abbrev EM_STATUS_PAUSED (n : Nat) : Fld := ⟨A.EM_STATUS n, 6, 1⟩
abbrev EM_STATUS_HOLD (n : Nat) : Fld := ⟨A.EM_STATUS n, 7, 1⟩
abbrev EM_STATUS_LPI_TX (n : Nat) : Fld := ⟨A.EM_STATUS n, 8, 1⟩
abbrev EM_STATUS_LPI_RX (n : Nat) : Fld := ⟨A.EM_STATUS n, 9, 1⟩
abbrev EM_STATUS_MACSEC_HALT (n : Nat) : Fld := ⟨A.EM_STATUS n, 10, 1⟩
abbrev EM_IRQ_STAT_LINK_CHANGE (n : Nat) : Fld := ⟨A.EM_IRQ_STAT n, 0, 1⟩
abbrev EM_IRQ_STAT_AN_FAIL (n : Nat) : Fld := ⟨A.EM_IRQ_STAT n, 1, 1⟩
abbrev EM_IRQ_STAT_PAUSE_WDOG (n : Nat) : Fld := ⟨A.EM_IRQ_STAT n, 2, 1⟩
abbrev EM_IRQ_STAT_TXTS (n : Nat) : Fld := ⟨A.EM_IRQ_STAT n, 3, 1⟩
abbrev EM_IRQ_STAT_TXTS_LOST (n : Nat) : Fld := ⟨A.EM_IRQ_STAT n, 4, 1⟩
abbrev EM_IRQ_STAT_PN_LOW (n : Nat) : Fld := ⟨A.EM_IRQ_STAT n, 5, 1⟩
abbrev EM_IRQ_STAT_MACSEC_HALT (n : Nat) : Fld := ⟨A.EM_IRQ_STAT n, 6, 1⟩
abbrev EM_IRQ_STAT_MDIO_DONE (n : Nat) : Fld := ⟨A.EM_IRQ_STAT n, 7, 1⟩
abbrev EM_IRQ_STAT_ERR (n : Nat) : Fld := ⟨A.EM_IRQ_STAT n, 31, 1⟩
abbrev EM_LOCK_LOCK0 (n : Nat) : Fld := ⟨A.EM_LOCK n, 0, 1⟩
abbrev EM_LOCK_LOCK1 (n : Nat) : Fld := ⟨A.EM_LOCK n, 1, 1⟩
abbrev EM_LOCK_LOCK2 (n : Nat) : Fld := ⟨A.EM_LOCK n, 2, 1⟩
abbrev EM_MODE_CFG_MODE (n : Nat) : Fld := ⟨A.EM_MODE_CFG n, 0, 2⟩
abbrev EM_MODE_CFG_AN_EN (n : Nat) : Fld := ⟨A.EM_MODE_CFG n, 4, 1⟩
abbrev EM_FRAME_CFG_MAX_FRAME (n : Nat) : Fld := ⟨A.EM_FRAME_CFG n, 0, 14⟩
abbrev EM_FRAME_CFG_TC_EN (n : Nat) : Fld := ⟨A.EM_FRAME_CFG n, 16, 1⟩
abbrev EM_FRAME_CFG_TXTS_EN (n : Nat) : Fld := ⟨A.EM_FRAME_CFG n, 17, 1⟩
abbrev EM_VLAN_CFG_DEF_VID (n : Nat) : Fld := ⟨A.EM_VLAN_CFG n, 0, 12⟩
abbrev EM_VLAN_CFG_INSERT_S (n : Nat) : Fld := ⟨A.EM_VLAN_CFG n, 12, 1⟩
abbrev EM_VLAN_CFG_TX_INSERT (n : Nat) : Fld := ⟨A.EM_VLAN_CFG n, 13, 1⟩
abbrev EM_VLAN_CFG_TX_RESTORE (n : Nat) : Fld := ⟨A.EM_VLAN_CFG n, 14, 1⟩
abbrev EM_VLAN_CFG_RX_STRIP (n : Nat) : Fld := ⟨A.EM_VLAN_CFG n, 15, 1⟩
abbrev EM_VLAN_CFG_S_TPID (n : Nat) : Fld := ⟨A.EM_VLAN_CFG n, 16, 16⟩
abbrev EM_RX_QMAP_OFFSET0 (n : Nat) : Fld := ⟨A.EM_RX_QMAP n, 0, 4⟩
abbrev EM_RX_QMAP_OFFSET1 (n : Nat) : Fld := ⟨A.EM_RX_QMAP n, 4, 4⟩
abbrev EM_RX_QMAP_OFFSET2 (n : Nat) : Fld := ⟨A.EM_RX_QMAP n, 8, 4⟩
abbrev EM_RX_QMAP_OFFSET3 (n : Nat) : Fld := ⟨A.EM_RX_QMAP n, 12, 4⟩
abbrev EM_RX_QMAP_OFFSET4 (n : Nat) : Fld := ⟨A.EM_RX_QMAP n, 16, 4⟩
abbrev EM_RX_QMAP_OFFSET5 (n : Nat) : Fld := ⟨A.EM_RX_QMAP n, 20, 4⟩
abbrev EM_RX_QMAP_OFFSET6 (n : Nat) : Fld := ⟨A.EM_RX_QMAP n, 24, 4⟩
abbrev EM_RX_QMAP_OFFSET7 (n : Nat) : Fld := ⟨A.EM_RX_QMAP n, 28, 4⟩
abbrev EM_RX_QCFG_RX_QBASE (n : Nat) : Fld := ⟨A.EM_RX_QCFG n, 0, 12⟩
abbrev EM_RX_QCFG_CTL_Q (n : Nat) : Fld := ⟨A.EM_RX_QCFG n, 16, 12⟩
abbrev EM_RX_QCFG_DEF_PCP (n : Nat) : Fld := ⟨A.EM_RX_QCFG n, 28, 4⟩
abbrev EM_PAUSE_CFG_RX_PAUSE (n : Nat) : Fld := ⟨A.EM_PAUSE_CFG n, 0, 1⟩
abbrev EM_PAUSE_CFG_TX_PAUSE (n : Nat) : Fld := ⟨A.EM_PAUSE_CFG n, 1, 1⟩
abbrev EM_PAUSE_CFG_TX_QUANTA (n : Nat) : Fld := ⟨A.EM_PAUSE_CFG n, 16, 16⟩
abbrev EM_PAUSE_WDOG_WDOG_MS (n : Nat) : Fld := ⟨A.EM_PAUSE_WDOG n, 0, 16⟩
abbrev EM_PAUSE_WDOG_HOLD_MS (n : Nat) : Fld := ⟨A.EM_PAUSE_WDOG n, 16, 16⟩
abbrev EM_EEE_CFG_TW_TX_US (n : Nat) : Fld := ⟨A.EM_EEE_CFG n, 0, 10⟩
abbrev EM_EEE_CFG_LPI_IDLE_US (n : Nat) : Fld := ⟨A.EM_EEE_CFG n, 16, 10⟩
abbrev EM_EEE_CFG_EN (n : Nat) : Fld := ⟨A.EM_EEE_CFG n, 31, 1⟩
abbrev EM_PTP_Q_QUEUE (n : Nat) : Fld := ⟨A.EM_PTP_Q n, 0, 12⟩
abbrev EM_MACSEC_CFG_REPLAY_WIN (n : Nat) : Fld := ⟨A.EM_MACSEC_CFG n, 0, 8⟩
abbrev EM_MACSEC_CFG_TX_AN (n : Nat) : Fld := ⟨A.EM_MACSEC_CFG n, 8, 2⟩
abbrev EM_MACSEC_CFG_NEXT_AN (n : Nat) : Fld := ⟨A.EM_MACSEC_CFG n, 10, 2⟩
abbrev EM_MACSEC_CFG_NEXT_EN (n : Nat) : Fld := ⟨A.EM_MACSEC_CFG n, 12, 1⟩
abbrev EM_MACSEC_CFG_ENCRYPT (n : Nat) : Fld := ⟨A.EM_MACSEC_CFG n, 25, 1⟩
abbrev EM_MACSEC_CFG_CONF_OFFSET (n : Nat) : Fld := ⟨A.EM_MACSEC_CFG n, 26, 2⟩
abbrev EM_MACSEC_CFG_VALIDATE (n : Nat) : Fld := ⟨A.EM_MACSEC_CFG n, 28, 2⟩
abbrev EM_MACSEC_CFG_RX_EN (n : Nat) : Fld := ⟨A.EM_MACSEC_CFG n, 30, 1⟩
abbrev EM_MACSEC_CFG_TX_PROTECT (n : Nat) : Fld := ⟨A.EM_MACSEC_CFG n, 31, 1⟩
abbrev EM_SA_SEL_AN (n : Nat) : Fld := ⟨A.EM_SA_SEL n, 0, 2⟩
abbrev EM_SA_SEL_SC (n : Nat) : Fld := ⟨A.EM_SA_SEL n, 4, 2⟩
abbrev EM_SA_SEL_DIR (n : Nat) : Fld := ⟨A.EM_SA_SEL n, 8, 1⟩
abbrev EM_SA_CFG_KEY_SLOT (n : Nat) : Fld := ⟨A.EM_SA_CFG n, 0, 9⟩
abbrev EM_SA_CFG_EN (n : Nat) : Fld := ⟨A.EM_SA_CFG n, 31, 1⟩
abbrev EM_SA_PN_PN (n : Nat) : Fld := ⟨A.EM_SA_PN n, 0, 32⟩
abbrev EM_RX_SCI_SCI (n : Nat) : Fld := ⟨A.EM_RX_SCI n, 0, 32⟩
abbrev EM_RX_SCI_HI_SCI (n : Nat) : Fld := ⟨A.EM_RX_SCI_HI n, 0, 32⟩
abbrev EM_MDIO_CFG_DIV (n : Nat) : Fld := ⟨A.EM_MDIO_CFG n, 0, 8⟩
abbrev EM_MDIO_CMD_DATA (n : Nat) : Fld := ⟨A.EM_MDIO_CMD n, 0, 16⟩
abbrev EM_MDIO_CMD_REG (n : Nat) : Fld := ⟨A.EM_MDIO_CMD n, 16, 5⟩
abbrev EM_MDIO_CMD_PHYAD (n : Nat) : Fld := ⟨A.EM_MDIO_CMD n, 21, 5⟩
abbrev EM_MDIO_CMD_OP (n : Nat) : Fld := ⟨A.EM_MDIO_CMD n, 28, 2⟩
abbrev EM_MDIO_CMD_CL45 (n : Nat) : Fld := ⟨A.EM_MDIO_CMD n, 30, 1⟩
abbrev EM_MDIO_CMD_GO (n : Nat) : Fld := ⟨A.EM_MDIO_CMD n, 31, 1⟩
abbrev EM_MDIO_DATA_DATA (n : Nat) : Fld := ⟨A.EM_MDIO_DATA n, 0, 16⟩
abbrev EM_MDIO_DATA_VALID (n : Nat) : Fld := ⟨A.EM_MDIO_DATA n, 31, 1⟩
abbrev EM_TXTS_SEQ_ID (n : Nat) : Fld := ⟨A.EM_TXTS n, 0, 16⟩
abbrev EM_TXTS_MSG_TYPE (n : Nat) : Fld := ⟨A.EM_TXTS n, 20, 4⟩
abbrev EM_TXTS_VALID (n : Nat) : Fld := ⟨A.EM_TXTS n, 31, 1⟩
abbrev EM_TXTS1_TS (n : Nat) : Fld := ⟨A.EM_TXTS1 n, 0, 32⟩
abbrev EM_TXTS2_TS (n : Nat) : Fld := ⟨A.EM_TXTS2 n, 0, 32⟩
abbrev EM_TXTS3_TS (n : Nat) : Fld := ⟨A.EM_TXTS3 n, 0, 32⟩
abbrev EM_TXTS4_QSEQ (n : Nat) : Fld := ⟨A.EM_TXTS4 n, 0, 32⟩
abbrev EM_TUN_CFG_UDP_PORT (n : Nat) : Fld := ⟨A.EM_TUN_CFG n, 0, 16⟩
abbrev EM_TUN_CFG_KEY_SLOT (n : Nat) : Fld := ⟨A.EM_TUN_CFG n, 16, 9⟩
abbrev EM_TUN_CFG_EN (n : Nat) : Fld := ⟨A.EM_TUN_CFG n, 31, 1⟩
abbrev EM_TUN_QS_ID (n : Nat) : Fld := ⟨A.EM_TUN_QS n, 0, 8⟩
abbrev EM_TUN_QS_TX_Q (n : Nat) : Fld := ⟨A.EM_TUN_QS n, 8, 12⟩
abbrev EM_TUN_QS_RX_Q (n : Nat) : Fld := ⟨A.EM_TUN_QS n, 20, 12⟩
abbrev EM_TUN_HDR_BYTES (n k : Nat) : Fld := ⟨A.EM_TUN_HDR n k, 0, 32⟩
abbrev EM_TUN_OUTQ_OUT_Q (n : Nat) : Fld := ⟨A.EM_TUN_OUTQ n, 0, 12⟩
abbrev EM_RX_FRAMES_COUNT (n : Nat) : Fld := ⟨A.EM_RX_FRAMES n, 0, 32⟩
abbrev EM_RX_FCS_ERR_COUNT (n : Nat) : Fld := ⟨A.EM_RX_FCS_ERR n, 0, 32⟩
abbrev EM_RX_RUNT_COUNT (n : Nat) : Fld := ⟨A.EM_RX_RUNT n, 0, 32⟩
abbrev EM_RX_OVERSIZE_COUNT (n : Nat) : Fld := ⟨A.EM_RX_OVERSIZE n, 0, 32⟩
abbrev EM_RX_PAUSE_COUNT (n : Nat) : Fld := ⟨A.EM_RX_PAUSE n, 0, 32⟩
abbrev EM_RX_PAUSE_IGNORED_COUNT (n : Nat) : Fld := ⟨A.EM_RX_PAUSE_IGNORED n, 0, 32⟩
abbrev EM_RX_CTRL_UNK_COUNT (n : Nat) : Fld := ⟨A.EM_RX_CTRL_UNK n, 0, 32⟩
abbrev EM_TX_FRAMES_COUNT (n : Nat) : Fld := ⟨A.EM_TX_FRAMES n, 0, 32⟩
abbrev EM_TX_TRUNC_COUNT (n : Nat) : Fld := ⟨A.EM_TX_TRUNC n, 0, 32⟩
abbrev EM_TX_OVERSIZE_COUNT (n : Nat) : Fld := ⟨A.EM_TX_OVERSIZE n, 0, 32⟩
abbrev EM_TX_PAUSE_COUNT (n : Nat) : Fld := ⟨A.EM_TX_PAUSE n, 0, 32⟩
abbrev EM_PAUSE_WDOG_TRIPS_COUNT (n : Nat) : Fld := ⟨A.EM_PAUSE_WDOG_TRIPS n, 0, 32⟩
abbrev EM_LPI_ENTRIES_COUNT (n : Nat) : Fld := ⟨A.EM_LPI_ENTRIES n, 0, 32⟩
abbrev EM_PTP_NO_1STEP_COUNT (n : Nat) : Fld := ⟨A.EM_PTP_NO_1STEP n, 0, 32⟩
abbrev EM_TXTS_LOST_COUNT (n : Nat) : Fld := ⟨A.EM_TXTS_LOST n, 0, 32⟩
abbrev EM_MACSEC_RX_NOSA_COUNT (n : Nat) : Fld := ⟨A.EM_MACSEC_RX_NOSA n, 0, 32⟩
abbrev EM_MACSEC_RX_BAD_COUNT (n : Nat) : Fld := ⟨A.EM_MACSEC_RX_BAD n, 0, 32⟩
abbrev EM_MACSEC_RX_REPLAY_COUNT (n : Nat) : Fld := ⟨A.EM_MACSEC_RX_REPLAY n, 0, 32⟩
abbrev EM_TUN_DROPS_COUNT (n : Nat) : Fld := ⟨A.EM_TUN_DROPS n, 0, 32⟩
abbrev DTM_CTRL_HOST_LOCK : Fld := ⟨A.DTM_CTRL, 0, 1⟩
abbrev DTM_STATUS_SERVO : Fld := ⟨A.DTM_STATUS, 0, 3⟩
abbrev DTM_STATUS_SOURCE : Fld := ⟨A.DTM_STATUS, 4, 3⟩
abbrev DTM_STATUS_TIME_OK : Fld := ⟨A.DTM_STATUS, 8, 1⟩
abbrev DTM_STATUS_SLEWING : Fld := ⟨A.DTM_STATUS, 9, 1⟩
abbrev DTM_STATUS_STEP_GEN : Fld := ⟨A.DTM_STATUS, 10, 2⟩
abbrev DTM_STATUS_TIME_SET : Fld := ⟨A.DTM_STATUS, 12, 1⟩
abbrev DTM_IRQ_STAT_JUMP_REFUSED : Fld := ⟨A.DTM_IRQ_STAT, 0, 1⟩
abbrev DTM_IRQ_STAT_STEPPED : Fld := ⟨A.DTM_IRQ_STAT, 1, 1⟩
abbrev DTM_IRQ_STAT_STATE_CHANGE : Fld := ⟨A.DTM_IRQ_STAT, 2, 1⟩
abbrev DTM_IRQ_STAT_MASTER_CHANGE : Fld := ⟨A.DTM_IRQ_STAT, 3, 1⟩
abbrev DTM_IRQ_STAT_PPS_IN : Fld := ⟨A.DTM_IRQ_STAT, 4, 1⟩
abbrev DTM_IRQ_STAT_PPS_OUTLIER : Fld := ⟨A.DTM_IRQ_STAT, 5, 1⟩
abbrev DTM_IRQ_STAT_SLEW_DONE : Fld := ⟨A.DTM_IRQ_STAT, 6, 1⟩
abbrev DTM_IRQ_STAT_ERR : Fld := ⟨A.DTM_IRQ_STAT, 31, 1⟩
abbrev DTM_LOCK_LOCK0 : Fld := ⟨A.DTM_LOCK, 0, 1⟩
abbrev DTM_LOCK_LOCK1 : Fld := ⟨A.DTM_LOCK, 1, 1⟩
abbrev DTM_SRC_CFG_SOURCE : Fld := ⟨A.DTM_SRC_CFG, 0, 3⟩
abbrev DTM_JUMP_THRESH_NS : Fld := ⟨A.DTM_JUMP_THRESH, 0, 30⟩
abbrev DTM_SERVO_CFG_SLEW_PPM : Fld := ⟨A.DTM_SERVO_CFG, 0, 8⟩
abbrev DTM_SERVO_CFG_LOCK_NS : Fld := ⟨A.DTM_SERVO_CFG, 8, 8⟩
abbrev DTM_SERVO_CFG_SLEW_LIMIT_US : Fld := ⟨A.DTM_SERVO_CFG, 16, 16⟩
abbrev DTM_HOLD_CFG_HOLDOVER_S : Fld := ⟨A.DTM_HOLD_CFG, 0, 16⟩
abbrev DTM_PTP_CFG_DREQ_LOG2 : Fld := ⟨A.DTM_PTP_CFG, 8, 8⟩
abbrev DTM_PTP_CFG_ANN_TIMEOUT : Fld := ⟨A.DTM_PTP_CFG, 16, 4⟩
abbrev DTM_PTP_CFG_PD_ONE_STEP : Fld := ⟨A.DTM_PTP_CFG, 21, 1⟩
abbrev DTM_PTP_CFG_TRANSPORT : Fld := ⟨A.DTM_PTP_CFG, 22, 1⟩
abbrev DTM_PTP_CFG_DELAY_MECH : Fld := ⟨A.DTM_PTP_CFG, 23, 1⟩
abbrev DTM_PTP_CFG_DOMAIN : Fld := ⟨A.DTM_PTP_CFG, 24, 8⟩
abbrev DTM_PTP_TXQ_TXQ_A : Fld := ⟨A.DTM_PTP_TXQ, 0, 12⟩
abbrev DTM_PTP_TXQ_TXQ_B : Fld := ⟨A.DTM_PTP_TXQ, 16, 12⟩
abbrev DTM_CLOCK_ID_ID : Fld := ⟨A.DTM_CLOCK_ID, 0, 32⟩
abbrev DTM_CLOCK_ID_HI_ID : Fld := ⟨A.DTM_CLOCK_ID_HI, 0, 32⟩
abbrev DTM_PORT_DELAY_TX_NS (k : Nat) : Fld := ⟨A.DTM_PORT_DELAY k, 0, 16⟩
abbrev DTM_PORT_DELAY_RX_NS (k : Nat) : Fld := ⟨A.DTM_PORT_DELAY k, 16, 16⟩
abbrev DTM_INC_FRAC : Fld := ⟨A.DTM_INC, 0, 32⟩
abbrev DTM_INC_HI_INT : Fld := ⟨A.DTM_INC_HI, 0, 32⟩
abbrev DTM_ADJ_PHASE_NS : Fld := ⟨A.DTM_ADJ_PHASE, 0, 32⟩
abbrev DTM_TIME_FRAC : Fld := ⟨A.DTM_TIME, 0, 32⟩
abbrev DTM_TIME1_NS : Fld := ⟨A.DTM_TIME1, 0, 30⟩
abbrev DTM_TIME2_SEC_LO : Fld := ⟨A.DTM_TIME2, 0, 32⟩
abbrev DTM_TIME3_SEC_HI : Fld := ⟨A.DTM_TIME3, 0, 32⟩
abbrev DTM_LAST_OFFSET_NS : Fld := ⟨A.DTM_LAST_OFFSET, 0, 32⟩
abbrev DTM_MASTER_ID_ID : Fld := ⟨A.DTM_MASTER_ID, 0, 32⟩
abbrev DTM_MASTER_ID_HI_ID : Fld := ⟨A.DTM_MASTER_ID_HI, 0, 32⟩
abbrev DTM_MASTER_PORT_PORT : Fld := ⟨A.DTM_MASTER_PORT, 0, 16⟩
abbrev DTM_MASTER_PORT_VALID : Fld := ⟨A.DTM_MASTER_PORT, 16, 1⟩
abbrev DTM_PPS_OUT_CFG_ADV_NS : Fld := ⟨A.DTM_PPS_OUT_CFG, 0, 16⟩
abbrev DTM_PPS_OUT_CFG_WIDTH_MS : Fld := ⟨A.DTM_PPS_OUT_CFG, 16, 8⟩
abbrev DTM_PPS_OUT_CFG_QUAL : Fld := ⟨A.DTM_PPS_OUT_CFG, 29, 1⟩
abbrev DTM_PPS_OUT_CFG_POL : Fld := ⟨A.DTM_PPS_OUT_CFG, 30, 1⟩
abbrev DTM_PPS_OUT_CFG_EN : Fld := ⟨A.DTM_PPS_OUT_CFG, 31, 1⟩
abbrev DTM_PPS_IN_CFG_WINDOW_US : Fld := ⟨A.DTM_PPS_IN_CFG, 0, 16⟩
abbrev DTM_PPS_IN_CFG_FILT_BYP : Fld := ⟨A.DTM_PPS_IN_CFG, 29, 1⟩
abbrev DTM_PPS_IN_CFG_POL : Fld := ⟨A.DTM_PPS_IN_CFG, 30, 1⟩
abbrev DTM_PPS_IN_CFG_EN : Fld := ⟨A.DTM_PPS_IN_CFG, 31, 1⟩
abbrev DTM_PPS_TS_VALID : Fld := ⟨A.DTM_PPS_TS, 31, 1⟩
abbrev DTM_PPS_TS1_TS : Fld := ⟨A.DTM_PPS_TS1, 0, 32⟩
abbrev DTM_PPS_TS2_TS : Fld := ⟨A.DTM_PPS_TS2, 0, 32⟩
abbrev DTM_PPS_TS3_TS : Fld := ⟨A.DTM_PPS_TS3, 0, 32⟩
abbrev DTM_REFUSED_JUMPS_COUNT : Fld := ⟨A.DTM_REFUSED_JUMPS, 0, 32⟩
abbrev DTM_STEPS_COUNT : Fld := ⟨A.DTM_STEPS, 0, 32⟩
abbrev DTM_FORCED_STEPS_COUNT : Fld := ⟨A.DTM_FORCED_STEPS, 0, 32⟩
abbrev DTM_PPS_IN_EDGES_COUNT : Fld := ⟨A.DTM_PPS_IN_EDGES, 0, 32⟩
abbrev DTM_PPS_OUTLIERS_COUNT : Fld := ⟨A.DTM_PPS_OUTLIERS, 0, 32⟩
abbrev DTM_PPS_TS_OVERRUN_COUNT : Fld := ⟨A.DTM_PPS_TS_OVERRUN, 0, 32⟩
abbrev DTM_SYNC_RX_COUNT : Fld := ⟨A.DTM_SYNC_RX, 0, 32⟩
abbrev DTM_ANN_TIMEOUTS_COUNT : Fld := ⟨A.DTM_ANN_TIMEOUTS, 0, 32⟩
abbrev DTM_MASTER_CHANGES_COUNT : Fld := ⟨A.DTM_MASTER_CHANGES, 0, 32⟩
abbrev KSU_CTRL_SWEEP_EN : Fld := ⟨A.KSU_CTRL, 0, 1⟩
abbrev KSU_STATUS_READY : Fld := ⟨A.KSU_STATUS, 0, 1⟩
abbrev KSU_STATUS_ROOTS : Fld := ⟨A.KSU_STATUS, 1, 1⟩
abbrev KSU_STATUS_MASK_OK : Fld := ⟨A.KSU_STATUS, 2, 1⟩
abbrev KSU_STATUS_TAMPER_LOGGED : Fld := ⟨A.KSU_STATUS, 3, 1⟩
abbrev KSU_IRQ_STAT_COMMITTED : Fld := ⟨A.KSU_IRQ_STAT, 0, 1⟩
abbrev KSU_IRQ_STAT_SLOT_BAD : Fld := ⟨A.KSU_IRQ_STAT, 1, 1⟩
abbrev KSU_IRQ_STAT_ZEROISED : Fld := ⟨A.KSU_IRQ_STAT, 2, 1⟩
abbrev KSU_IRQ_STAT_DENIED : Fld := ⟨A.KSU_IRQ_STAT, 3, 1⟩
abbrev KSU_IRQ_STAT_TAMPER : Fld := ⟨A.KSU_IRQ_STAT, 4, 1⟩
abbrev KSU_IRQ_STAT_ERR : Fld := ⟨A.KSU_IRQ_STAT, 31, 1⟩
abbrev KSU_LOCK_LOCKk : Fld := ⟨A.KSU_LOCK, 0, 32⟩
abbrev KSU_SLOT_SEL_SLOT : Fld := ⟨A.KSU_SLOT_SEL, 0, 9⟩
abbrev KSU_SLOT_INFO_ATTR : Fld := ⟨A.KSU_SLOT_INFO, 0, 16⟩
abbrev KSU_SLOT_INFO_HALF : Fld := ⟨A.KSU_SLOT_INFO, 24, 1⟩
abbrev KSU_SLOT_INFO_STATE : Fld := ⟨A.KSU_SLOT_INFO, 28, 2⟩
abbrev KSU_SLOT_INFO_VALID : Fld := ⟨A.KSU_SLOT_INFO, 31, 1⟩
abbrev KSU_SLOT_EPOCH_EPOCH : Fld := ⟨A.KSU_SLOT_EPOCH, 0, 32⟩
abbrev KSU_SLOT_KCV_KCV : Fld := ⟨A.KSU_SLOT_KCV, 0, 32⟩
abbrev KSU_SLOT_KCV_HI_KCV : Fld := ⟨A.KSU_SLOT_KCV_HI, 0, 32⟩
abbrev KSU_CNT_A_EMPTY : Fld := ⟨A.KSU_CNT_A, 0, 10⟩
abbrev KSU_CNT_A_VALID : Fld := ⟨A.KSU_CNT_A, 16, 10⟩
abbrev KSU_CNT_B_BAD : Fld := ⟨A.KSU_CNT_B, 0, 10⟩
abbrev KSU_CNT_B_REPLACING : Fld := ⟨A.KSU_CNT_B, 16, 10⟩
abbrev KSU_FIRST_BAD_SLOT : Fld := ⟨A.KSU_FIRST_BAD, 0, 16⟩
abbrev KSU_MAX_EPOCH_EPOCH : Fld := ⟨A.KSU_MAX_EPOCH, 0, 32⟩
abbrev KSU_TAG_FAILS_COUNT : Fld := ⟨A.KSU_TAG_FAILS, 0, 32⟩
abbrev KSU_DENIED_COUNT : Fld := ⟨A.KSU_DENIED, 0, 32⟩
abbrev KSU_COMMITS_COUNT : Fld := ⟨A.KSU_COMMITS, 0, 32⟩
abbrev KSU_ZEROISATIONS_COUNT : Fld := ⟨A.KSU_ZEROISATIONS, 0, 32⟩
abbrev CRY_CTRL_JOB_EN : Fld := ⟨A.CRY_CTRL, 0, 1⟩
abbrev CRY_STATUS_JOB_BUSY : Fld := ⟨A.CRY_STATUS, 0, 1⟩
abbrev CRY_STATUS_GCM_BACKLOG : Fld := ⟨A.CRY_STATUS, 4, 1⟩
abbrev CRY_IRQ_STAT_JOB_DONE : Fld := ⟨A.CRY_IRQ_STAT, 0, 1⟩
abbrev CRY_IRQ_STAT_GCM_SATURATED : Fld := ⟨A.CRY_IRQ_STAT, 1, 1⟩
abbrev CRY_IRQ_STAT_ERR : Fld := ⟨A.CRY_IRQ_STAT, 31, 1⟩
abbrev CRY_LOCK_LOCK0 : Fld := ⟨A.CRY_LOCK, 0, 1⟩
abbrev CRY_JOB_CTRL_GO : Fld := ⟨A.CRY_JOB_CTRL, 0, 1⟩
abbrev CRY_JOB_CTRL_OP : Fld := ⟨A.CRY_JOB_CTRL, 8, 4⟩
abbrev CRY_JOB_KEY_SLOT : Fld := ⟨A.CRY_JOB_KEY, 0, 10⟩
abbrev CRY_JOB_KEY_TARGET : Fld := ⟨A.CRY_JOB_KEY, 16, 10⟩
abbrev CRY_JOB_ATTR_ATTR : Fld := ⟨A.CRY_JOB_ATTR, 0, 32⟩
abbrev CRY_JOB_EPOCH_EPOCH : Fld := ⟨A.CRY_JOB_EPOCH, 0, 32⟩
abbrev CRY_JOB_LEN_BYTES : Fld := ⟨A.CRY_JOB_LEN, 0, 24⟩
abbrev CRY_JOB_DATA_DATA : Fld := ⟨A.CRY_JOB_DATA, 0, 32⟩
abbrev CRY_JOB_IN_DATA (k : Nat) : Fld := ⟨A.CRY_JOB_IN k, 0, 32⟩
abbrev CRY_JOB_RES_STATUS : Fld := ⟨A.CRY_JOB_RES, 0, 8⟩
abbrev CRY_JOB_RES_OP : Fld := ⟨A.CRY_JOB_RES, 8, 8⟩
abbrev CRY_JOB_RES_VALID : Fld := ⟨A.CRY_JOB_RES, 31, 1⟩
abbrev CRY_JOB_RES1_DATA : Fld := ⟨A.CRY_JOB_RES1, 0, 32⟩
abbrev CRY_JOB_RES2_DATA : Fld := ⟨A.CRY_JOB_RES2, 0, 32⟩
abbrev CRY_JOB_RES3_DATA : Fld := ⟨A.CRY_JOB_RES3, 0, 32⟩
abbrev CRY_JOB_RES4_DATA : Fld := ⟨A.CRY_JOB_RES4, 0, 32⟩
abbrev CRY_JOB_RES5_DATA : Fld := ⟨A.CRY_JOB_RES5, 0, 32⟩
abbrev CRY_JOB_RES6_DATA : Fld := ⟨A.CRY_JOB_RES6, 0, 32⟩
abbrev CRY_JOB_RES7_DATA : Fld := ⟨A.CRY_JOB_RES7, 0, 32⟩
abbrev CRY_JOB_RES8_DATA : Fld := ⟨A.CRY_JOB_RES8, 0, 32⟩
abbrev CRY_JOB_RES9_DATA : Fld := ⟨A.CRY_JOB_RES9, 0, 32⟩
abbrev CRY_JOB_RES10_DATA : Fld := ⟨A.CRY_JOB_RES10, 0, 32⟩
abbrev CRY_JOB_RES11_DATA : Fld := ⟨A.CRY_JOB_RES11, 0, 32⟩
abbrev CRY_JOB_RES12_DATA : Fld := ⟨A.CRY_JOB_RES12, 0, 32⟩
abbrev CRY_JOB_RES13_DATA : Fld := ⟨A.CRY_JOB_RES13, 0, 32⟩
abbrev CRY_JOB_RES14_DATA : Fld := ⟨A.CRY_JOB_RES14, 0, 32⟩
abbrev CRY_JOB_RES15_DATA : Fld := ⟨A.CRY_JOB_RES15, 0, 32⟩
abbrev CRY_JOB_RES16_DATA : Fld := ⟨A.CRY_JOB_RES16, 0, 32⟩
abbrev CRY_CCM_OPS_COUNT : Fld := ⟨A.CRY_CCM_OPS, 0, 32⟩
abbrev CRY_CCM_FAIL_COUNT : Fld := ⟨A.CRY_CCM_FAIL, 0, 32⟩
abbrev CRY_GCM_OPS_COUNT : Fld := ⟨A.CRY_GCM_OPS, 0, 32⟩
abbrev CRY_GCM_FAIL_COUNT : Fld := ⟨A.CRY_GCM_FAIL, 0, 32⟩
abbrev CRY_PKE_OPS_COUNT : Fld := ⟨A.CRY_PKE_OPS, 0, 32⟩
abbrev CRY_JOBS_REFUSED_COUNT : Fld := ⟨A.CRY_JOBS_REFUSED, 0, 32⟩
abbrev TRNG_CTRL_RESEED : Fld := ⟨A.TRNG_CTRL, 0, 1⟩
abbrev TRNG_STATUS_STARTUP_DONE : Fld := ⟨A.TRNG_STATUS, 0, 1⟩
abbrev TRNG_STATUS_SEEDED : Fld := ⟨A.TRNG_STATUS, 1, 1⟩
abbrev TRNG_STATUS_FAILED : Fld := ⟨A.TRNG_STATUS, 2, 1⟩
abbrev TRNG_IRQ_STAT_FAIL : Fld := ⟨A.TRNG_IRQ_STAT, 0, 1⟩
abbrev TRNG_IRQ_STAT_RECOVERED : Fld := ⟨A.TRNG_IRQ_STAT, 1, 1⟩
abbrev TRNG_IRQ_STAT_ERR : Fld := ⟨A.TRNG_IRQ_STAT, 31, 1⟩
abbrev TRNG_LOCK_LOCK0 : Fld := ⟨A.TRNG_LOCK, 0, 1⟩
abbrev TRNG_HEALTH_CFG_RCT_CUTOFF : Fld := ⟨A.TRNG_HEALTH_CFG, 0, 16⟩
abbrev TRNG_HEALTH_CFG_APT_CUTOFF : Fld := ⟨A.TRNG_HEALTH_CFG, 16, 16⟩
abbrev TRNG_RAW_SAMPLE : Fld := ⟨A.TRNG_RAW, 0, 8⟩
abbrev TRNG_RAW_VALID : Fld := ⟨A.TRNG_RAW, 31, 1⟩
abbrev TRNG_RCT_FAILS_COUNT : Fld := ⟨A.TRNG_RCT_FAILS, 0, 32⟩
abbrev TRNG_APT_FAILS_COUNT : Fld := ⟨A.TRNG_APT_FAILS, 0, 32⟩
abbrev TRNG_RESEEDS_COUNT : Fld := ⟨A.TRNG_RESEEDS, 0, 32⟩
abbrev TRNG_GENERATES_COUNT : Fld := ⟨A.TRNG_GENERATES, 0, 32⟩
abbrev MEM_CTRL_SCRUB_EN : Fld := ⟨A.MEM_CTRL, 0, 1⟩
abbrev MEM_CTRL_SWEEP_EN : Fld := ⟨A.MEM_CTRL, 1, 1⟩
abbrev MEM_STATUS_DRAM_READY : Fld := ⟨A.MEM_STATUS, 0, 1⟩
abbrev MEM_STATUS_SCRUB_RUN : Fld := ⟨A.MEM_STATUS, 1, 1⟩
abbrev MEM_STATUS_SCRUB_LATE : Fld := ⟨A.MEM_STATUS, 2, 1⟩
abbrev MEM_IRQ_STAT_DRAM_CE : Fld := ⟨A.MEM_IRQ_STAT, 0, 1⟩
abbrev MEM_IRQ_STAT_DRAM_UE : Fld := ⟨A.MEM_IRQ_STAT, 1, 1⟩
abbrev MEM_IRQ_STAT_SRAM_CE : Fld := ⟨A.MEM_IRQ_STAT, 2, 1⟩
abbrev MEM_IRQ_STAT_SRAM_UE : Fld := ⟨A.MEM_IRQ_STAT, 3, 1⟩
abbrev MEM_IRQ_STAT_SCRUB_DONE : Fld := ⟨A.MEM_IRQ_STAT, 4, 1⟩
abbrev MEM_IRQ_STAT_SCRUB_LATE : Fld := ⟨A.MEM_IRQ_STAT, 5, 1⟩
abbrev MEM_IRQ_STAT_LOG_OVF : Fld := ⟨A.MEM_IRQ_STAT, 6, 1⟩
abbrev MEM_IRQ_STAT_LATE_SUCCESS : Fld := ⟨A.MEM_IRQ_STAT, 7, 1⟩
abbrev MEM_IRQ_STAT_ERR : Fld := ⟨A.MEM_IRQ_STAT, 31, 1⟩
abbrev MEM_LOCK_LOCK0 : Fld := ⟨A.MEM_LOCK, 0, 1⟩
abbrev MEM_SCRUB_CFG_PERIOD_H : Fld := ⟨A.MEM_SCRUB_CFG, 0, 5⟩
abbrev MEM_CE_CFG_EVT_S : Fld := ⟨A.MEM_CE_CFG, 0, 16⟩
abbrev MEM_SCRUB_POS_CODEWORD : Fld := ⟨A.MEM_SCRUB_POS, 0, 23⟩
abbrev MEM_SCRUB_PASSES_COUNT : Fld := ⟨A.MEM_SCRUB_PASSES, 0, 32⟩
abbrev MEM_SCRUB_LAST_S_SECONDS : Fld := ⟨A.MEM_SCRUB_LAST_S, 0, 32⟩
abbrev MEM_ERR_LOG_QUEUED : Fld := ⟨A.MEM_ERR_LOG, 0, 7⟩
abbrev MEM_ERR_LOG_POSITION : Fld := ⟨A.MEM_ERR_LOG, 12, 8⟩
abbrev MEM_ERR_LOG_ORIGIN : Fld := ⟨A.MEM_ERR_LOG, 20, 4⟩
abbrev MEM_ERR_LOG_REGION : Fld := ⟨A.MEM_ERR_LOG, 24, 4⟩
abbrev MEM_ERR_LOG_SRAM : Fld := ⟨A.MEM_ERR_LOG, 29, 1⟩
abbrev MEM_ERR_LOG_UE : Fld := ⟨A.MEM_ERR_LOG, 30, 1⟩
abbrev MEM_ERR_LOG_VALID : Fld := ⟨A.MEM_ERR_LOG, 31, 1⟩
abbrev MEM_ERR_LOG1_ADDR : Fld := ⟨A.MEM_ERR_LOG1, 0, 32⟩
abbrev MEM_ERR_LOG2_SYNDROME : Fld := ⟨A.MEM_ERR_LOG2, 0, 16⟩
abbrev MEM_ERR_LOG3_TIME_S : Fld := ⟨A.MEM_ERR_LOG3, 0, 32⟩
abbrev MEM_ERR_LOG4_TIME_NS : Fld := ⟨A.MEM_ERR_LOG4, 0, 30⟩
abbrev MEM_DRAM_CE_COUNT : Fld := ⟨A.MEM_DRAM_CE, 0, 32⟩
abbrev MEM_DRAM_UE_COUNT : Fld := ⟨A.MEM_DRAM_UE, 0, 32⟩
abbrev MEM_SRAM_CE_COUNT : Fld := ⟨A.MEM_SRAM_CE, 0, 32⟩
abbrev MEM_SRAM_UE_COUNT : Fld := ⟨A.MEM_SRAM_UE, 0, 32⟩
abbrev MEM_LOG_LOST_COUNT : Fld := ⟨A.MEM_LOG_LOST, 0, 32⟩
abbrev MEM_LATE_SUCCESS_COUNT : Fld := ⟨A.MEM_LATE_SUCCESS, 0, 32⟩
abbrev MEM_PARCEL_RESETS_COUNT : Fld := ⟨A.MEM_PARCEL_RESETS, 0, 32⟩
abbrev MEM_REGION_CE_COUNT (k : Nat) : Fld := ⟨A.MEM_REGION_CE k, 0, 32⟩
abbrev RED_CTRL_EN : Fld := ⟨A.RED_CTRL, 0, 1⟩
abbrev RED_CTRL_FORCE_TKO : Fld := ⟨A.RED_CTRL, 8, 1⟩
abbrev RED_STATUS_ROLE : Fld := ⟨A.RED_STATUS, 0, 2⟩
abbrev RED_STATUS_LINK : Fld := ⟨A.RED_STATUS, 4, 3⟩
abbrev RED_STATUS_FRESH : Fld := ⟨A.RED_STATUS, 9, 1⟩
abbrev RED_STATUS_HOLD : Fld := ⟨A.RED_STATUS, 10, 1⟩
abbrev RED_STATUS_ILK_OUT : Fld := ⟨A.RED_STATUS, 11, 1⟩
abbrev RED_STATUS_ILK_IN : Fld := ⟨A.RED_STATUS, 12, 1⟩
abbrev RED_STATUS_TX_GATE : Fld := ⟨A.RED_STATUS, 13, 1⟩
abbrev RED_IRQ_STAT_ROLE_CHANGE : Fld := ⟨A.RED_IRQ_STAT, 0, 1⟩
abbrev RED_IRQ_STAT_LINK_CHANGE : Fld := ⟨A.RED_IRQ_STAT, 1, 1⟩
abbrev RED_IRQ_STAT_TAKEOVER : Fld := ⟨A.RED_IRQ_STAT, 2, 1⟩
abbrev RED_IRQ_STAT_TKO_FAILED : Fld := ⟨A.RED_IRQ_STAT, 3, 1⟩
abbrev RED_IRQ_STAT_ILK_CONFLICT : Fld := ⟨A.RED_IRQ_STAT, 4, 1⟩
abbrev RED_IRQ_STAT_PAIR_MISMATCH : Fld := ⟨A.RED_IRQ_STAT, 5, 1⟩
abbrev RED_IRQ_STAT_MIRROR_LATE : Fld := ⟨A.RED_IRQ_STAT, 6, 1⟩
abbrev RED_IRQ_STAT_ERR : Fld := ⟨A.RED_IRQ_STAT, 31, 1⟩
abbrev RED_LOCK_LOCK0 : Fld := ⟨A.RED_LOCK, 0, 1⟩
abbrev RED_CFG_KEK_SLOT : Fld := ⟨A.RED_CFG, 0, 9⟩
abbrev RED_CFG_ILK_EN : Fld := ⟨A.RED_CFG, 20, 1⟩
abbrev RED_CFG_PRIO : Fld := ⟨A.RED_CFG, 24, 8⟩
abbrev RED_TKO_CFG_HOLD_MS : Fld := ⟨A.RED_TKO_CFG, 0, 15⟩
abbrev RED_TKO_CFG_BCN_TRIG : Fld := ⟨A.RED_TKO_CFG, 15, 1⟩
abbrev RED_TKO_CFG_FRESH : Fld := ⟨A.RED_TKO_CFG, 16, 8⟩
abbrev RED_TKO_CFG_ILK_MS : Fld := ⟨A.RED_TKO_CFG, 24, 8⟩
abbrev RED_OWN_ID_ID : Fld := ⟨A.RED_OWN_ID, 0, 32⟩
abbrev RED_OWN_ID_HI_ID : Fld := ⟨A.RED_OWN_ID_HI, 0, 32⟩
abbrev RED_PARTNER_ID_ID : Fld := ⟨A.RED_PARTNER_ID, 0, 32⟩
abbrev RED_PARTNER_ID_HI_ID : Fld := ⟨A.RED_PARTNER_ID_HI, 0, 32⟩
abbrev RED_LINK_RTT_NS_NS : Fld := ⟨A.RED_LINK_RTT_NS, 0, 16⟩
abbrev RED_DATUM_ERR_NS : Fld := ⟨A.RED_DATUM_ERR, 0, 32⟩
abbrev RED_SYNC_PROGRESS_PCT : Fld := ⟨A.RED_SYNC_PROGRESS, 0, 7⟩
abbrev RED_LAST_TKO_MS : Fld := ⟨A.RED_LAST_TKO, 0, 16⟩
abbrev RED_LAST_TKO_RESULT : Fld := ⟨A.RED_LAST_TKO, 16, 8⟩
abbrev RED_LAST_TKO_TRIGGER : Fld := ⟨A.RED_LAST_TKO, 24, 8⟩
abbrev RED_ITEMS_TX_COUNT : Fld := ⟨A.RED_ITEMS_TX, 0, 32⟩
abbrev RED_ITEMS_RX_COUNT : Fld := ⟨A.RED_ITEMS_RX, 0, 32⟩
abbrev RED_RETRANS_COUNT : Fld := ⟨A.RED_RETRANS, 0, 32⟩
abbrev RED_LINK_DOWNS_COUNT : Fld := ⟨A.RED_LINK_DOWNS, 0, 32⟩
abbrev RED_TAKEOVERS_COUNT : Fld := ⟨A.RED_TAKEOVERS, 0, 32⟩
abbrev RED_TKO_FAILS_COUNT : Fld := ⟨A.RED_TKO_FAILS, 0, 32⟩
abbrev RED_ILK_ABORTS_COUNT : Fld := ⟨A.RED_ILK_ABORTS, 0, 32⟩
abbrev RED_MIRROR_LATE_COUNT : Fld := ⟨A.RED_MIRROR_LATE, 0, 32⟩
abbrev RED_BCN_MISSES_COUNT : Fld := ⟨A.RED_BCN_MISSES, 0, 32⟩
abbrev RED_ILK_CONFLICTS_COUNT : Fld := ⟨A.RED_ILK_CONFLICTS, 0, 32⟩
abbrev COX_CTRL_ENFORCE : Fld := ⟨A.COX_CTRL, 0, 1⟩
abbrev COX_STATUS_HEAT_US : Fld := ⟨A.COX_STATUS, 0, 14⟩
abbrev COX_STATUS_ENFORCING : Fld := ⟨A.COX_STATUS, 16, 1⟩
abbrev COX_IRQ_STAT_OVERRUN : Fld := ⟨A.COX_IRQ_STAT, 0, 1⟩
abbrev COX_IRQ_STAT_RESERVED_OVERRUN : Fld := ⟨A.COX_IRQ_STAT, 1, 1⟩
abbrev COX_IRQ_STAT_FLOORS : Fld := ⟨A.COX_IRQ_STAT, 2, 1⟩
abbrev COX_IRQ_STAT_ERR : Fld := ⟨A.COX_IRQ_STAT, 31, 1⟩
abbrev COX_LOCK_LOCK0 : Fld := ⟨A.COX_LOCK, 0, 1⟩
abbrev COX_LOCK_LOCK1 : Fld := ⟨A.COX_LOCK, 1, 1⟩
abbrev COX_HEAT_CFG_HEAT_US : Fld := ⟨A.COX_HEAT_CFG, 0, 14⟩
abbrev COX_FAB_CFG_FAB_MAX : Fld := ⟨A.COX_FAB_CFG, 0, 11⟩
abbrev COX_OVR_IRQ_EN_EN : Fld := ⟨A.COX_OVR_IRQ_EN, 0, 32⟩
abbrev COX_THROTTLED_ACCT : Fld := ⟨A.COX_THROTTLED, 0, 32⟩
abbrev COX_OVR_NONZERO_ACCT : Fld := ⟨A.COX_OVR_NONZERO, 0, 32⟩
abbrev COX_ACCT_CFG_BUDGET (k : Nat) : Fld := ⟨A.COX_ACCT_CFG k, 0, 11⟩
abbrev COX_ACCT_CFG_EFFECTIVE (k : Nat) : Fld := ⟨A.COX_ACCT_CFG k, 16, 11⟩
abbrev COX_ACCT_STAT_LAST_USE (k : Nat) : Fld := ⟨A.COX_ACCT_STAT k, 0, 16⟩
abbrev COX_ACCT_STAT_FLOOR (k : Nat) : Fld := ⟨A.COX_ACCT_STAT k, 16, 11⟩
abbrev COX_ACCT_STAT_DEFICIT (k : Nat) : Fld := ⟨A.COX_ACCT_STAT k, 30, 1⟩
abbrev COX_ACCT_STAT_THROTTLED (k : Nat) : Fld := ⟨A.COX_ACCT_STAT k, 31, 1⟩
abbrev COX_ACCT_OVR_COUNT (k : Nat) : Fld := ⟨A.COX_ACCT_OVR k, 0, 32⟩
abbrev MGM_CTRL_ACT : Fld := ⟨A.MGM_CTRL, 2, 2⟩
abbrev MGM_CTRL_POLICY : Fld := ⟨A.MGM_CTRL, 4, 1⟩
abbrev MGM_CTRL_PLAN_NOW : Fld := ⟨A.MGM_CTRL, 8, 1⟩
abbrev MGM_CTRL_AVS_RESET : Fld := ⟨A.MGM_CTRL, 9, 1⟩
abbrev MGM_STATUS_LIFE_VALID : Fld := ⟨A.MGM_STATUS, 0, 1⟩
abbrev MGM_STATUS_MARGIN_LOW : Fld := ⟨A.MGM_STATUS, 1, 1⟩
abbrev MGM_STATUS_AVS_FAULT : Fld := ⟨A.MGM_STATUS, 2, 1⟩
abbrev MGM_STATUS_RAMPING : Fld := ⟨A.MGM_STATUS, 3, 1⟩
abbrev MGM_STATUS_PLANNING : Fld := ⟨A.MGM_STATUS, 4, 1⟩
abbrev MGM_STATUS_REFRESH : Fld := ⟨A.MGM_STATUS, 16, 2⟩
abbrev MGM_STATUS_TJ_MAX : Fld := ⟨A.MGM_STATUS, 24, 8⟩
abbrev MGM_IRQ_STAT_PLANNED : Fld := ⟨A.MGM_IRQ_STAT, 0, 1⟩
abbrev MGM_IRQ_STAT_EMERGENCY : Fld := ⟨A.MGM_IRQ_STAT, 1, 1⟩
abbrev MGM_IRQ_STAT_MARGIN_LOW : Fld := ⟨A.MGM_IRQ_STAT, 2, 1⟩
abbrev MGM_IRQ_STAT_AVS_FAULT : Fld := ⟨A.MGM_IRQ_STAT, 3, 1⟩
abbrev MGM_IRQ_STAT_LIFE_LOW : Fld := ⟨A.MGM_IRQ_STAT, 4, 1⟩
abbrev MGM_IRQ_STAT_TJ_ALARM : Fld := ⟨A.MGM_IRQ_STAT, 5, 1⟩
abbrev MGM_IRQ_STAT_RETENTION_LOW : Fld := ⟨A.MGM_IRQ_STAT, 6, 1⟩
abbrev MGM_IRQ_STAT_ERR : Fld := ⟨A.MGM_IRQ_STAT, 31, 1⟩
abbrev MGM_LOCK_LOCK0 : Fld := ⟨A.MGM_LOCK, 0, 1⟩
abbrev MGM_LOCK_LOCK1 : Fld := ⟨A.MGM_LOCK, 1, 1⟩
abbrev MGM_VBOUND_V_MIN_MV : Fld := ⟨A.MGM_VBOUND, 0, 16⟩
abbrev MGM_VBOUND_V_MAX_MV : Fld := ⟨A.MGM_VBOUND, 16, 16⟩
abbrev MGM_CBOUND_CLK_MIN_MHZ : Fld := ⟨A.MGM_CBOUND, 0, 16⟩
abbrev MGM_CBOUND_CLK_MAX_MHZ : Fld := ⟨A.MGM_CBOUND, 16, 16⟩
abbrev MGM_MARGIN_CFG_TJ_ALARM : Fld := ⟨A.MGM_MARGIN_CFG, 0, 8⟩
abbrev MGM_MARGIN_CFG_FLOOR_MV : Fld := ⟨A.MGM_MARGIN_CFG, 8, 8⟩
abbrev MGM_MARGIN_CFG_EMERG_MV : Fld := ⟨A.MGM_MARGIN_CFG, 16, 8⟩
abbrev MGM_MARGIN_CFG_TARGET_MV : Fld := ⟨A.MGM_MARGIN_CFG, 24, 8⟩
abbrev MGM_PLAN_CFG_T_TRIG : Fld := ⟨A.MGM_PLAN_CFG, 0, 8⟩
abbrev MGM_PLAN_CFG_PERIOD_S : Fld := ⟨A.MGM_PLAN_CFG, 16, 16⟩
abbrev MGM_MAINT_BOUNDS_T_WIN_MIN : Fld := ⟨A.MGM_MAINT_BOUNDS, 0, 8⟩
abbrev MGM_MAINT_BOUNDS_T_WIN_MAX : Fld := ⟨A.MGM_MAINT_BOUNDS, 8, 8⟩
abbrev MGM_MAINT_BOUNDS_SCRUB_MIN_H : Fld := ⟨A.MGM_MAINT_BOUNDS, 16, 8⟩
abbrev MGM_MAINT_BOUNDS_SCRUB_MAX_H : Fld := ⟨A.MGM_MAINT_BOUNDS, 24, 8⟩
abbrev MGM_BG_BOUNDS_BG_MIN_S : Fld := ⟨A.MGM_BG_BOUNDS, 0, 16⟩
abbrev MGM_BG_BOUNDS_BG_MAX_S : Fld := ⟨A.MGM_BG_BOUNDS, 16, 16⟩
abbrev MGM_PMBUS_CFG_TOL_MV : Fld := ⟨A.MGM_PMBUS_CFG, 0, 8⟩
abbrev MGM_PMBUS_CFG_EXP : Fld := ⟨A.MGM_PMBUS_CFG, 8, 5⟩
abbrev MGM_PMBUS_CFG_SETTLE : Fld := ⟨A.MGM_PMBUS_CFG, 16, 8⟩
abbrev MGM_PMBUS_CFG_ADDR : Fld := ⟨A.MGM_PMBUS_CFG, 24, 7⟩
abbrev MGM_PMBUS_CFG_PEC : Fld := ⟨A.MGM_PMBUS_CFG, 31, 1⟩
abbrev MGM_VID_CFG_SETTLE_US : Fld := ⟨A.MGM_VID_CFG, 0, 16⟩
abbrev MGM_PLAN_V_VDD_CORE_MV : Fld := ⟨A.MGM_PLAN_V, 0, 16⟩
abbrev MGM_PLAN_V_CLK_MHZ : Fld := ⟨A.MGM_PLAN_V, 16, 16⟩
abbrev MGM_MEAS_VOUT_MV : Fld := ⟨A.MGM_MEAS, 0, 16⟩
abbrev MGM_MEAS_IOUT_MA : Fld := ⟨A.MGM_MEAS, 16, 16⟩
abbrev MGM_PMB_STATUS_WORD : Fld := ⟨A.MGM_PMB_STATUS, 0, 16⟩
abbrev MGM_MARGINS_SRAM_MV : Fld := ⟨A.MGM_MARGINS, 0, 16⟩
abbrev MGM_MARGINS_PATH_MV : Fld := ⟨A.MGM_MARGINS, 16, 16⟩
abbrev MGM_LIFE_YEARS_X10 : Fld := ⟨A.MGM_LIFE, 0, 16⟩
abbrev MGM_AGE_H_HOURS : Fld := ⟨A.MGM_AGE_H, 0, 32⟩
abbrev MGM_LAST_PLAN_S_SECONDS : Fld := ⟨A.MGM_LAST_PLAN_S, 0, 32⟩
abbrev MGM_KF_UV_PER_MHZ : Fld := ⟨A.MGM_KF, 0, 16⟩
abbrev MGM_PLANS_COUNT : Fld := ⟨A.MGM_PLANS, 0, 32⟩
abbrev MGM_EMERGENCIES_COUNT : Fld := ⟨A.MGM_EMERGENCIES, 0, 32⟩
abbrev MGM_AVS_ERRORS_COUNT : Fld := ⟨A.MGM_AVS_ERRORS, 0, 32⟩
abbrev MGM_RECORDS_COUNT : Fld := ⟨A.MGM_RECORDS, 0, 10⟩
abbrev MGM_TEMP_DEG_C (k : Nat) : Fld := ⟨A.MGM_TEMP k, 0, 8⟩
abbrev MGM_TEMP_VALID (k : Nat) : Fld := ⟨A.MGM_TEMP k, 31, 1⟩
abbrev MGM_PATH_MV (k : Nat) : Fld := ⟨A.MGM_PATH k, 0, 16⟩
abbrev MGM_PATH_VALID (k : Nat) : Fld := ⟨A.MGM_PATH k, 31, 1⟩
abbrev MGM_CANARY_MV (k : Nat) : Fld := ⟨A.MGM_CANARY k, 0, 16⟩
abbrev MGM_CANARY_VALID (k : Nat) : Fld := ⟨A.MGM_CANARY k, 31, 1⟩
abbrev MGM_RETENTION_MS : Fld := ⟨A.MGM_RETENTION, 0, 16⟩
abbrev MGM_RETENTION_DEG_C : Fld := ⟨A.MGM_RETENTION, 16, 8⟩
abbrev MGM_RETENTION_VALID : Fld := ⟨A.MGM_RETENTION, 31, 1⟩
abbrev MGM_LOOPBACK_GAIN (k : Nat) : Fld := ⟨A.MGM_LOOPBACK k, 0, 16⟩
abbrev MGM_LOOPBACK_PHASE (k : Nat) : Fld := ⟨A.MGM_LOOPBACK k, 16, 15⟩
abbrev MGM_LOOPBACK_VALID (k : Nat) : Fld := ⟨A.MGM_LOOPBACK k, 31, 1⟩
abbrev SYS_CTRL_PWR_REQ : Fld := ⟨A.SYS_CTRL, 0, 1⟩
abbrev SYS_STATUS_DEV_STATE : Fld := ⟨A.SYS_STATUS, 0, 4⟩
abbrev SYS_STATUS_PWR_MODE : Fld := ⟨A.SYS_STATUS, 8, 2⟩
abbrev SYS_STATUS_MAINS_OK : Fld := ⟨A.SYS_STATUS, 16, 1⟩
abbrev SYS_IRQ_STAT_PWR_MODE : Fld := ⟨A.SYS_IRQ_STAT, 0, 1⟩
abbrev SYS_IRQ_STAT_MAINS_LOST : Fld := ⟨A.SYS_IRQ_STAT, 1, 1⟩
abbrev SYS_IRQ_STAT_HOLDUP : Fld := ⟨A.SYS_IRQ_STAT, 2, 1⟩
abbrev SYS_IRQ_STAT_CLK_FAIL : Fld := ⟨A.SYS_IRQ_STAT, 3, 1⟩
abbrev SYS_IRQ_STAT_LG_DONE : Fld := ⟨A.SYS_IRQ_STAT, 4, 1⟩
abbrev SYS_IRQ_STAT_ERR : Fld := ⟨A.SYS_IRQ_STAT, 31, 1⟩
abbrev SYS_LOCK_LOCK0 : Fld := ⟨A.SYS_LOCK, 0, 1⟩
abbrev SYS_LOCK_LOCK1 : Fld := ⟨A.SYS_LOCK, 1, 1⟩
abbrev SYS_CLK_CFG_SSC_EN : Fld := ⟨A.SYS_CLK_CFG, 0, 1⟩
abbrev SYS_CLK_STATUS_CORE_PLL : Fld := ⟨A.SYS_CLK_STATUS, 0, 1⟩
abbrev SYS_CLK_STATUS_MEM_PLL : Fld := ⟨A.SYS_CLK_STATUS, 1, 1⟩
abbrev SYS_CLK_STATUS_DATUM_PLL : Fld := ⟨A.SYS_CLK_STATUS, 2, 1⟩
abbrev SYS_CLK_STATUS_SERDES_PLL : Fld := ⟨A.SYS_CLK_STATUS, 3, 1⟩
abbrev SYS_CLK_STATUS_PCIE_PLL : Fld := ⟨A.SYS_CLK_STATUS, 4, 1⟩
abbrev SYS_CLK_STATUS_REF40_OK : Fld := ⟨A.SYS_CLK_STATUS, 8, 1⟩
abbrev SYS_CLK_STATUS_REF125_OK : Fld := ⟨A.SYS_CLK_STATUS, 9, 1⟩
abbrev SYS_CLK_STATUS_REF100_OK : Fld := ⟨A.SYS_CLK_STATUS, 10, 1⟩
abbrev SYS_CLK_STATUS_XTAL_OK : Fld := ⟨A.SYS_CLK_STATUS, 11, 1⟩
abbrev SYS_CLK_STATUS_SSC_ACTIVE : Fld := ⟨A.SYS_CLK_STATUS, 12, 1⟩
abbrev SYS_HOLDUP_CFG_LG_TIMEOUT_MS : Fld := ⟨A.SYS_HOLDUP_CFG, 0, 16⟩
abbrev SYS_LG_CFG_LEN (k : Nat) : Fld := ⟨A.SYS_LG_CFG k, 0, 9⟩
abbrev SYS_LG_CFG_TS_OFF (k : Nat) : Fld := ⟨A.SYS_LG_CFG k, 16, 8⟩
abbrev SYS_LG_CFG_PORTS (k : Nat) : Fld := ⟨A.SYS_LG_CFG k, 28, 2⟩
abbrev SYS_LG_CFG_EN (k : Nat) : Fld := ⟨A.SYS_LG_CFG k, 31, 1⟩
abbrev SYS_LG_SEL_WORD : Fld := ⟨A.SYS_LG_SEL, 0, 6⟩
abbrev SYS_LG_SEL_FRAME : Fld := ⟨A.SYS_LG_SEL, 16, 2⟩
abbrev SYS_LG_DATA_DATA : Fld := ⟨A.SYS_LG_DATA, 0, 32⟩
abbrev SYS_PAD_CFG_SLEW0 (k : Nat) : Fld := ⟨A.SYS_PAD_CFG k, 0, 2⟩
abbrev SYS_PAD_CFG_DRIVE0 (k : Nat) : Fld := ⟨A.SYS_PAD_CFG k, 2, 2⟩
abbrev SYS_PAD_CFG_SLEW1 (k : Nat) : Fld := ⟨A.SYS_PAD_CFG k, 4, 2⟩
abbrev SYS_PAD_CFG_DRIVE1 (k : Nat) : Fld := ⟨A.SYS_PAD_CFG k, 6, 2⟩
abbrev SYS_PAD_CFG_SLEW2 (k : Nat) : Fld := ⟨A.SYS_PAD_CFG k, 8, 2⟩
abbrev SYS_PAD_CFG_DRIVE2 (k : Nat) : Fld := ⟨A.SYS_PAD_CFG k, 10, 2⟩
abbrev SYS_PAD_CFG_SLEW3 (k : Nat) : Fld := ⟨A.SYS_PAD_CFG k, 12, 2⟩
abbrev SYS_PAD_CFG_DRIVE3 (k : Nat) : Fld := ⟨A.SYS_PAD_CFG k, 14, 2⟩
abbrev SYS_PAD_CFG_SLEW4 (k : Nat) : Fld := ⟨A.SYS_PAD_CFG k, 16, 2⟩
abbrev SYS_PAD_CFG_DRIVE4 (k : Nat) : Fld := ⟨A.SYS_PAD_CFG k, 18, 2⟩
abbrev SYS_PAD_CFG_SLEW5 (k : Nat) : Fld := ⟨A.SYS_PAD_CFG k, 20, 2⟩
abbrev SYS_PAD_CFG_DRIVE5 (k : Nat) : Fld := ⟨A.SYS_PAD_CFG k, 22, 2⟩
abbrev SYS_PAD_CFG_SLEW6 (k : Nat) : Fld := ⟨A.SYS_PAD_CFG k, 24, 2⟩
abbrev SYS_PAD_CFG_DRIVE6 (k : Nat) : Fld := ⟨A.SYS_PAD_CFG k, 26, 2⟩
abbrev SYS_PAD_CFG_SLEW7 (k : Nat) : Fld := ⟨A.SYS_PAD_CFG k, 28, 2⟩
abbrev SYS_PAD_CFG_DRIVE7 (k : Nat) : Fld := ⟨A.SYS_PAD_CFG k, 30, 2⟩
abbrev AON_STATUS_MAINS_OK : Fld := ⟨A.AON_STATUS, 0, 1⟩
abbrev AON_STATUS_GRACE : Fld := ⟨A.AON_STATUS, 1, 1⟩
abbrev AON_STATUS_TAMPER_IN : Fld := ⟨A.AON_STATUS, 2, 2⟩
abbrev AON_STATUS_SENSOR_ALARM : Fld := ⟨A.AON_STATUS, 4, 1⟩
abbrev AON_STATUS_SHLD_BREAK : Fld := ⟨A.AON_STATUS, 5, 1⟩
abbrev AON_STATUS_RC_CLK : Fld := ⟨A.AON_STATUS, 8, 1⟩
abbrev AON_STATUS_REF40_OK : Fld := ⟨A.AON_STATUS, 9, 1⟩
abbrev AON_STATUS_WR_PEND : Fld := ⟨A.AON_STATUS, 31, 1⟩
abbrev AON_IRQ_STAT_TAMPER : Fld := ⟨A.AON_IRQ_STAT, 0, 1⟩
abbrev AON_IRQ_STAT_XTAL_FAIL : Fld := ⟨A.AON_IRQ_STAT, 1, 1⟩
abbrev AON_IRQ_STAT_WATCH_EXIT : Fld := ⟨A.AON_IRQ_STAT, 2, 1⟩
abbrev AON_IRQ_STAT_ERR : Fld := ⟨A.AON_IRQ_STAT, 31, 1⟩
abbrev AON_LOCK_LOCK0 : Fld := ⟨A.AON_LOCK, 0, 1⟩
abbrev AON_LOCK_LOCK1 : Fld := ⟨A.AON_LOCK, 1, 1⟩
abbrev AON_TAMPER_CFG_T0_EN : Fld := ⟨A.AON_TAMPER_CFG, 0, 1⟩
abbrev AON_TAMPER_CFG_T1_EN : Fld := ⟨A.AON_TAMPER_CFG, 1, 1⟩
abbrev AON_TAMPER_CFG_T0_POL : Fld := ⟨A.AON_TAMPER_CFG, 2, 1⟩
abbrev AON_TAMPER_CFG_T1_POL : Fld := ⟨A.AON_TAMPER_CFG, 3, 1⟩
abbrev AON_TAMPER_CFG_SHLD_EN : Fld := ⟨A.AON_TAMPER_CFG, 4, 1⟩
abbrev AON_TAMPER_CFG_VSENS_EN : Fld := ⟨A.AON_TAMPER_CFG, 5, 1⟩
abbrev AON_TAMPER_CFG_TSENS_EN : Fld := ⟨A.AON_TAMPER_CFG, 6, 1⟩
abbrev AON_TAMPER_CFG_FSENS_EN : Fld := ⟨A.AON_TAMPER_CFG, 7, 1⟩
abbrev AON_MAINS_CFG_GRACE_MS : Fld := ⟨A.AON_MAINS_CFG, 0, 8⟩
abbrev AON_MAINS_CFG_RESTORE_MS : Fld := ⟨A.AON_MAINS_CFG, 16, 16⟩
abbrev AON_WATCH_CFG_WUR_HOLDUP : Fld := ⟨A.AON_WATCH_CFG, 0, 1⟩
abbrev AON_WATCH_CFG_BATT_WAKE : Fld := ⟨A.AON_WATCH_CFG, 1, 1⟩
abbrev AON_WATCH_CFG_MIN_SLEEP_S : Fld := ⟨A.AON_WATCH_CFG, 16, 16⟩
abbrev AON_WATCH_INFO_ENTRY : Fld := ⟨A.AON_WATCH_INFO, 0, 8⟩
abbrev AON_WATCH_INFO_EXIT : Fld := ⟨A.AON_WATCH_INFO, 8, 8⟩
abbrev AON_WATCH_S_SECONDS : Fld := ⟨A.AON_WATCH_S, 0, 32⟩
abbrev AON_TIME_SECONDS : Fld := ⟨A.AON_TIME, 0, 32⟩
abbrev AON_HOLDUPS_COUNT : Fld := ⟨A.AON_HOLDUPS, 0, 32⟩
abbrev AON_MAINS_GLITCHES_COUNT : Fld := ⟨A.AON_MAINS_GLITCHES, 0, 32⟩
abbrev AON_WATCH_ENTRIES_COUNT : Fld := ⟨A.AON_WATCH_ENTRIES, 0, 32⟩
abbrev AON_WAKES_IGNORED_COUNT : Fld := ⟨A.AON_WAKES_IGNORED, 0, 32⟩
abbrev AON_TAMPERS_COUNT : Fld := ⟨A.AON_TAMPERS, 0, 32⟩
abbrev WUR_CTRL_TEST : Fld := ⟨A.WUR_CTRL, 0, 1⟩
abbrev WUR_STATUS_LISTENING : Fld := ⟨A.WUR_STATUS, 0, 1⟩
abbrev WUR_IRQ_STAT_TEST_RX : Fld := ⟨A.WUR_IRQ_STAT, 0, 1⟩
abbrev WUR_IRQ_STAT_WOKE : Fld := ⟨A.WUR_IRQ_STAT, 1, 1⟩
abbrev WUR_IRQ_STAT_ERR : Fld := ⟨A.WUR_IRQ_STAT, 31, 1⟩
abbrev WUR_LOCK_LOCK0 : Fld := ⟨A.WUR_LOCK, 0, 1⟩
abbrev WUR_FREQ_FREQ : Fld := ⟨A.WUR_FREQ, 0, 24⟩
abbrev WUR_ADDR_ADDR : Fld := ⟨A.WUR_ADDR, 0, 32⟩
abbrev WUR_GROUP_ADDR : Fld := ⟨A.WUR_GROUP, 0, 32⟩
abbrev WUR_MATCH_CMD : Fld := ⟨A.WUR_MATCH, 0, 8⟩
abbrev WUR_MATCH_MASK : Fld := ⟨A.WUR_MATCH, 8, 8⟩
abbrev WUR_LAST_CMD : Fld := ⟨A.WUR_LAST, 0, 8⟩
abbrev WUR_LAST_RSSI : Fld := ⟨A.WUR_LAST, 8, 8⟩
abbrev WUR_LAST_ADDR_ADDR : Fld := ⟨A.WUR_LAST_ADDR, 0, 32⟩
abbrev WUR_TELEGRAMS_COUNT : Fld := ⟨A.WUR_TELEGRAMS, 0, 32⟩
abbrev WUR_MATCHES_COUNT : Fld := ⟨A.WUR_MATCHES, 0, 32⟩
abbrev WUR_CRC_ERRORS_COUNT : Fld := ⟨A.WUR_CRC_ERRORS, 0, 32⟩
abbrev BST_STATUS_RUNNING : Fld := ⟨A.BST_STATUS, 0, 1⟩
abbrev BST_STATUS_RAN : Fld := ⟨A.BST_STATUS, 1, 1⟩
abbrev BST_STATUS_CURRENT : Fld := ⟨A.BST_STATUS, 8, 8⟩
abbrev BST_STATUS_MARCH_BOOT_RUN : Fld := ⟨A.BST_STATUS, 16, 1⟩
abbrev BST_STATUS_MARCH_BOOT_FAIL : Fld := ⟨A.BST_STATUS, 17, 1⟩
abbrev BST_IRQ_STAT_DONE : Fld := ⟨A.BST_IRQ_STAT, 0, 1⟩
abbrev BST_IRQ_STAT_FAIL : Fld := ⟨A.BST_IRQ_STAT, 1, 1⟩
abbrev BST_IRQ_STAT_ERR : Fld := ⟨A.BST_IRQ_STAT, 31, 1⟩
abbrev BST_RES_SEL_TEST : Fld := ⟨A.BST_RES_SEL, 0, 8⟩
abbrev BST_RES_INFO_DURATION_US : Fld := ⟨A.BST_RES_INFO, 0, 24⟩
abbrev BST_RES_INFO_ABANDONED : Fld := ⟨A.BST_RES_INFO, 29, 1⟩
abbrev BST_RES_INFO_PASS : Fld := ⟨A.BST_RES_INFO, 30, 1⟩
abbrev BST_RES_INFO_VALID : Fld := ⟨A.BST_RES_INFO, 31, 1⟩
abbrev BST_RES_MISR_MISR : Fld := ⟨A.BST_RES_MISR, 0, 32⟩
abbrev BST_RES_MISR_HI_MISR : Fld := ⟨A.BST_RES_MISR_HI, 0, 32⟩
abbrev BST_RES_EXP_EXPECTED : Fld := ⟨A.BST_RES_EXP, 0, 32⟩
abbrev BST_RES_EXP_HI_EXPECTED : Fld := ⟨A.BST_RES_EXP_HI, 0, 32⟩
abbrev BST_RUNS_COUNT : Fld := ⟨A.BST_RUNS, 0, 32⟩
abbrev BST_FAILS_COUNT : Fld := ⟨A.BST_FAILS, 0, 32⟩
abbrev HIF_IRQ_STAT_LINK_CHANGE : Fld := ⟨A.HIF_IRQ_STAT, 0, 1⟩
abbrev HIF_IRQ_STAT_PERST : Fld := ⟨A.HIF_IRQ_STAT, 1, 1⟩
abbrev HIF_IRQ_STAT_ERR : Fld := ⟨A.HIF_IRQ_STAT, 31, 1⟩

end F

end Sys2Proof.Machine
end

