-- ==== Sys2Proof/Config.lean ====
section
/-!
DEFINITION. Sys2Proof/Config.lean: what the implementation fixes (fused values, cryptographic functions of published
standards, real-valued functions) and the free values the spec leaves open. Every one is a constant without a body: no
proof can see a value of it.
-/
namespace Sys2Proof.Config

/-- Block version in `PAGE_ID` of a page (R41); `SYS` reads 0x0B01 and does not use it. -/
opaque pageVersion : Nat → BitVec 16

/-- BLOCK_CAP in `PAGE_CAP` of a page (R41). -/
opaque blockCap : Nat → BitVec 16

/-- SHA-256 of a byte string: 32 bytes (FIPS 180-4). -/
opaque sha256 : List Byte → List Byte

/-- Whether an ECDSA P-256 signature (64 bytes r ‖ s) verifies over a digest under a public key (64 bytes X ‖ Y). -/
opaque ecdsaVerify : (key digest signature : List Byte) → Bool

/-- AES-CMAC of a message under an AES key: 16 bytes (R560, R565). -/
opaque cmac : (key message : List Byte) → List Byte

/-- The AES-CTR keystream under a key from a counter block, so many bytes long (R560). -/
opaque keystream : (key counter : List Byte) → Nat → List Byte

/-- AES Key Wrap, unwrapping: the key, or none when its integrity check fails (R572). -/
opaque unwrapKey : (kek wrapped : List Byte) → Option (List Byte)

/-- AES Key Wrap, wrapping (R632). -/
opaque wrapKey : (kek key : List Byte) → List Byte

/-- The key check value of a key that HELLO carries (R626, R632). -/
opaque keyCheck : (key : List Byte) → List Byte

/-- ACK_REQ of TONE_MAP and TONE_MAP_ACK (R308, R322). -/
opaque toneMapAckReq : Bool

/-- CCM (R568): the ciphertext and the tag of a message. -/
opaque ccmSeal : (key nonce aad message : List Byte) → Nat → List Byte

/-- CCM (R568): the message, or none when the tag of the given length does not verify. -/
opaque ccmOpen : (key nonce aad sealed : List Byte) → Nat → Option (List Byte)

/-- GCM (R520, R523): the ciphertext and the 16-byte tag of a message. -/
opaque gcmSeal : (key iv aad message : List Byte) → List Byte

/-- GCM (R520, R523): the message, or none when the tag does not verify. -/
opaque gcmOpen : (key iv aad sealed : List Byte) → Option (List Byte)

/-- An ECDSA P-256 signature of a digest with a private scalar and a nonce (R585). -/
opaque ecdsaSign : (key digest nonce : List Byte) → List Byte

/-- The P-256 public key X ‖ Y of a private scalar (R585). -/
opaque publicKey : (key : List Byte) → List Byte

/-- The shared x-coordinate of a private scalar and a public point; none for a point off the curve (R586). -/
opaque ecdh : (key point : List Byte) → Option (List Byte)

/-- The MAC address of an Ethernet port: 6 bytes (R520). -/
opaque portMac : Nat → List Byte

/-- The storage root in OTP (R552). -/
opaque storageRoot : List Byte

/-- The identity key in OTP (R552). -/
opaque identityKey : List Byte

/-- LNA, mixer and VGA codes of a receive gain entry as delivered: bits [30:16] of its word 0 (R210). -/
opaque factoryGain : Nat → BitVec 15

/-- DAC scale, driver code and bias code of a transmit gain entry as delivered: bits [31:8] of its word 0 (R213). -/
opaque factoryDrive : Nat → BitVec 24

/-- The fused coefficient KF in µV/MHz (R662). -/
opaque fusedKf : BitVec 16

/-- The least-squares fit of R682 over (AGE_H, mean M_ref): whether c1 > 0, and then the projected years × 10, rounded down, for
FLOOR_MV and AGE_H. -/
opaque ageingFalls : List (Nat × Int) → Bool
opaque ageingLife : List (Nat × Int) → (floorMv ageHours : Nat) → Nat

/-- The fused MISR signature of a test (R718). -/
opaque fusedMisr : Nat → BitVec 64

/-- A byte the spec leaves open, one for each draw. -/
opaque freeByte : Nat → BitVec 8

/-- A number the spec leaves open, one for each draw. -/
opaque freeNat : Nat → Nat

/-- How many entries kind 6 of a lane's start-up calibration has taken at a CLK_DATUM cycle, from the first it has still to take (R196, R197). -/
opaque startupProgress : (lane cycle : Nat) → Nat

/-- The code on FEMn_BIAS on its ramp from one code to another, a number of CLK_DATUM cycles after the ramp began (R216). -/
opaque biasRamp : (fromCode toCode cycles : Nat) → BitVec 8

/-- The noise floor of a sub-channel of a lane in 1/16 dBm (R267): the average over the block numbered `block` of the 100 ms blocks for which
it has been searched since the tune or the write told by `since`; of block 0 before the first is full. -/
opaque noiseFloor : (lane subch since block : Nat) → BitVec 16

/-- An Ethernet port receives low-power idle from its partner at a CLK_DATUM cycle (R514). -/
opaque lpiRx : (port cycle : Nat) → Bool

end Sys2Proof.Config
end

