-- ==== Sys2Proof/Machine/RegMap.lean ====
section
/-!
DEFINITION. Sys2Proof/Machine/RegMap.lean: the register map, page by page: every register of the register tables of
spec/02 to spec/23, with its offset, its repetition, its reset value and its fields (R32–R35, R41, R46).
-/
namespace Sys2Proof.Machine

/-- The field types of R46 (02_register_model.md). -/
inductive FieldType where
  | rw | ro | w1c | rc | cnt | go | wo | lk
  deriving DecidableEq, Repr

/-- One field of a register: its lowest bit, its width, its type, and the bit of the page's `LOCK` that governs it
(R54); 32 where none does. -/
structure FieldSpec where
  lsb : Nat
  width : Nat
  ty : FieldType
  lock : Nat
  deriving DecidableEq, Repr

/-- One register or one array of registers of a page: the page offset of its first word, how many there are and at what
stride, the reset value, its fields (bits in no field are reserved: they read 0 and ignore writes, R5, R46 RO). -/
structure RegSpec where
  off : Nat
  count : Nat
  stride : Nat
  reset : Nat
  fields : List FieldSpec
  deriving DecidableEq, Repr

open FieldType

/-- SYS, page 0x00: CTRL, STATUS, IRQ_STAT, LOCK, CLK_CFG, CLK_STATUS, HOLDUP_CFG, LGk_CFG, LG_SEL, LG_DATA, PAD_CFGj. -/
def regsSys : List RegSpec := [
  ⟨0x008, 1, 0x4, 0x00000000, [⟨0, 1, rw, 32⟩]⟩,
  ⟨0x00C, 1, 0x4, 0x00000001, [⟨0, 4, ro, 32⟩, ⟨8, 2, ro, 32⟩, ⟨16, 1, ro, 32⟩]⟩,
  ⟨0x010, 1, 0x4, 0x00000000, [⟨0, 1, w1c, 32⟩, ⟨1, 1, w1c, 32⟩, ⟨2, 1, w1c, 32⟩, ⟨3, 1, w1c, 32⟩, ⟨4, 1, w1c, 32⟩, ⟨31, 1, w1c, 32⟩]⟩,
  ⟨0x024, 1, 0x4, 0x00000000, [⟨0, 1, lk, 32⟩, ⟨1, 1, lk, 32⟩]⟩,
  ⟨0x028, 1, 0x4, 0x00000001, [⟨0, 1, lk, 0⟩]⟩,
  ⟨0x02C, 1, 0x4, 0x00000000, [⟨0, 1, ro, 32⟩, ⟨1, 1, ro, 32⟩, ⟨2, 1, ro, 32⟩, ⟨3, 1, ro, 32⟩, ⟨4, 1, ro, 32⟩, ⟨8, 1, ro, 32⟩, ⟨9, 1, ro, 32⟩, ⟨10, 1, ro, 32⟩, ⟨11, 1, ro, 32⟩, ⟨12, 1, ro, 32⟩]⟩,
  ⟨0x030, 1, 0x4, 0x00000005, [⟨0, 16, lk, 1⟩]⟩,
  ⟨0x040, 4, 0x4, 0x0000003C, [⟨0, 9, lk, 1⟩, ⟨16, 8, lk, 1⟩, ⟨28, 2, lk, 1⟩, ⟨31, 1, lk, 1⟩]⟩,
  ⟨0x050, 1, 0x4, 0x00000000, [⟨0, 6, rw, 32⟩, ⟨16, 2, rw, 32⟩]⟩,
  ⟨0x054, 1, 0x4, 0x00000000, [⟨0, 32, wo, 32⟩]⟩,
  ⟨0x058, 2, 0x4, 0x55555555, [⟨0, 2, lk, 0⟩, ⟨2, 2, lk, 0⟩, ⟨4, 2, lk, 0⟩, ⟨6, 2, lk, 0⟩, ⟨8, 2, lk, 0⟩, ⟨10, 2, lk, 0⟩, ⟨12, 2, lk, 0⟩, ⟨14, 2, lk, 0⟩, ⟨16, 2, lk, 0⟩, ⟨18, 2, lk, 0⟩, ⟨20, 2, lk, 0⟩, ⟨22, 2, lk, 0⟩, ⟨24, 2, lk, 0⟩, ⟨26, 2, lk, 0⟩, ⟨28, 2, lk, 0⟩, ⟨30, 2, lk, 0⟩]⟩]

/-- NVC, page 0x01: CTRL, STATUS, IRQ_STAT, LOCK, RESET_CTRL, RESET_SRC, SELET_INFO, SELET_FLOOR, SELET_SERIAL, FW_STATUS, FW_FLOOR, STAGE_CTRL, STAGE_DATA, STAGE_COUNT, STAGE_GO, STAGE_RESULT. -/
def regsNvc : List RegSpec := [
  ⟨0x008, 1, 0x4, 0x00000A00, [⟨0, 2, lk, 0⟩, ⟨8, 8, lk, 0⟩]⟩,
  ⟨0x00C, 1, 0x4, 0x00000000, [⟨0, 2, ro, 32⟩, ⟨3, 1, ro, 32⟩, ⟨4, 3, ro, 32⟩, ⟨7, 1, ro, 32⟩, ⟨8, 4, ro, 32⟩, ⟨12, 4, ro, 32⟩, ⟨16, 16, ro, 32⟩]⟩,
  ⟨0x010, 1, 0x4, 0x00000000, [⟨0, 1, w1c, 32⟩, ⟨1, 1, w1c, 32⟩, ⟨2, 1, w1c, 32⟩, ⟨31, 1, w1c, 32⟩]⟩,
  ⟨0x024, 1, 0x4, 0x00000000, [⟨0, 1, lk, 32⟩, ⟨1, 1, lk, 32⟩]⟩,
  ⟨0x028, 1, 0x4, 0x00000000, [⟨0, 32, wo, 32⟩]⟩,
  ⟨0x02C, 1, 0x4, 0x00000000, [⟨0, 8, ro, 32⟩, ⟨16, 8, w1c, 32⟩]⟩,
  ⟨0x040, 1, 0x4, 0x00000000, [⟨0, 13, ro, 32⟩, ⟨24, 8, ro, 32⟩]⟩,
  ⟨0x044, 1, 0x4, 0x00000000, [⟨0, 32, ro, 32⟩]⟩,
  ⟨0x048, 1, 0x4, 0x00000000, [⟨0, 32, ro, 32⟩]⟩,
  ⟨0x04C, 1, 0x4, 0x00000888, [⟨0, 4, ro, 32⟩, ⟨4, 4, ro, 32⟩, ⟨8, 4, ro, 32⟩, ⟨16, 16, ro, 32⟩]⟩,
  ⟨0x050, 1, 0x4, 0x00000000, [⟨0, 32, ro, 32⟩]⟩,
  ⟨0x054, 1, 0x4, 0x00000000, [⟨0, 2, lk, 1⟩, ⟨8, 1, wo, 32⟩]⟩,
  ⟨0x058, 1, 0x4, 0x00000000, [⟨0, 32, wo, 32⟩]⟩,
  ⟨0x05C, 1, 0x4, 0x00000000, [⟨0, 21, ro, 32⟩, ⟨31, 1, ro, 32⟩]⟩,
  ⟨0x060, 1, 0x4, 0x00000000, [⟨0, 1, go, 32⟩]⟩,
  ⟨0x064, 1, 0x4, 0x00000000, [⟨0, 2, ro, 32⟩, ⟨8, 4, ro, 32⟩, ⟨31, 1, ro, 32⟩]⟩]

/-- AON, page 0x02: STATUS, IRQ_STAT, LOCK, TAMPER_CFG, MAINS_CFG, WATCH_CFG, WATCH_INFO, WATCH_S, TIME, HOLDUPS, MAINS_GLITCHES, WATCH_ENTRIES, WAKES_IGNORED, TAMPERS. -/
def regsAon : List RegSpec := [
  ⟨0x00C, 1, 0x4, 0x00000000, [⟨0, 1, ro, 32⟩, ⟨1, 1, ro, 32⟩, ⟨2, 2, ro, 32⟩, ⟨4, 1, ro, 32⟩, ⟨5, 1, ro, 32⟩, ⟨8, 1, ro, 32⟩, ⟨9, 1, ro, 32⟩, ⟨31, 1, ro, 32⟩]⟩,
  ⟨0x010, 1, 0x4, 0x00000000, [⟨0, 1, w1c, 32⟩, ⟨1, 1, w1c, 32⟩, ⟨2, 1, w1c, 32⟩, ⟨31, 1, w1c, 32⟩]⟩,
  ⟨0x024, 1, 0x4, 0x00000000, [⟨0, 1, lk, 32⟩, ⟨1, 1, lk, 32⟩]⟩,
  ⟨0x028, 1, 0x4, 0x0000000C, [⟨0, 1, lk, 0⟩, ⟨1, 1, lk, 0⟩, ⟨2, 1, lk, 0⟩, ⟨3, 1, lk, 0⟩, ⟨4, 1, lk, 0⟩, ⟨5, 1, lk, 0⟩, ⟨6, 1, lk, 0⟩, ⟨7, 1, lk, 0⟩]⟩,
  ⟨0x02C, 1, 0x4, 0x0064000A, [⟨0, 8, lk, 1⟩, ⟨16, 16, lk, 1⟩]⟩,
  ⟨0x030, 1, 0x4, 0x003C0000, [⟨0, 1, lk, 1⟩, ⟨1, 1, lk, 1⟩, ⟨16, 16, lk, 1⟩]⟩,
  ⟨0x034, 1, 0x4, 0x00000000, [⟨0, 8, ro, 32⟩, ⟨8, 8, ro, 32⟩]⟩,
  ⟨0x038, 1, 0x4, 0x00000000, [⟨0, 32, ro, 32⟩]⟩,
  ⟨0x03C, 1, 0x4, 0x00000000, [⟨0, 32, ro, 32⟩]⟩,
  ⟨0x040, 1, 0x4, 0x00000000, [⟨0, 32, cnt, 32⟩]⟩,
  ⟨0x044, 1, 0x4, 0x00000000, [⟨0, 32, cnt, 32⟩]⟩,
  ⟨0x048, 1, 0x4, 0x00000000, [⟨0, 32, cnt, 32⟩]⟩,
  ⟨0x04C, 1, 0x4, 0x00000000, [⟨0, 32, cnt, 32⟩]⟩,
  ⟨0x050, 1, 0x4, 0x00000000, [⟨0, 32, cnt, 32⟩]⟩]

/-- WUR, page 0x03: CTRL, STATUS, IRQ_STAT, LOCK, FREQ, ADDR, GROUP, MATCH, LAST, LAST_ADDR, TELEGRAMS, MATCHES, CRC_ERRORS. -/
def regsWur : List RegSpec := [
  ⟨0x008, 1, 0x4, 0x00000000, [⟨0, 1, rw, 32⟩]⟩,
  ⟨0x00C, 1, 0x4, 0x00000000, [⟨0, 1, ro, 32⟩]⟩,
  ⟨0x010, 1, 0x4, 0x00000000, [⟨0, 1, w1c, 32⟩, ⟨1, 1, w1c, 32⟩, ⟨31, 1, w1c, 32⟩]⟩,
  ⟨0x024, 1, 0x4, 0x00000000, [⟨0, 1, lk, 32⟩]⟩,
  ⟨0x028, 1, 0x4, 0x00000000, [⟨0, 24, lk, 0⟩]⟩,
  ⟨0x02C, 1, 0x4, 0x00000000, [⟨0, 32, lk, 0⟩]⟩,
  ⟨0x030, 1, 0x4, 0x00000000, [⟨0, 32, lk, 0⟩]⟩,
  ⟨0x034, 1, 0x4, 0x0000FF80, [⟨0, 8, lk, 0⟩, ⟨8, 8, lk, 0⟩]⟩,
  ⟨0x038, 1, 0x4, 0x00000000, [⟨0, 8, ro, 32⟩, ⟨8, 8, ro, 32⟩]⟩,
  ⟨0x03C, 1, 0x4, 0x00000000, [⟨0, 32, ro, 32⟩]⟩,
  ⟨0x040, 1, 0x4, 0x00000000, [⟨0, 32, cnt, 32⟩]⟩,
  ⟨0x044, 1, 0x4, 0x00000000, [⟨0, 32, cnt, 32⟩]⟩,
  ⟨0x048, 1, 0x4, 0x00000000, [⟨0, 32, cnt, 32⟩]⟩]

/-- HIF, page 0x04: CTRL, STATUS, IRQ_STAT, IRQ_SUMn, VEC_MAPk, VEC_REARM, VEC_ARMED, VEC_ACTIVE. -/
def regsHif : List RegSpec := [
  ⟨0x008, 1, 0x4, 0x00000002, [⟨0, 2, rw, 32⟩, ⟨8, 1, rw, 32⟩, ⟨9, 5, rw, 32⟩, ⟨14, 1, rw, 32⟩]⟩,
  ⟨0x00C, 1, 0x4, 0x00000000, [⟨0, 1, ro, 32⟩, ⟨1, 3, ro, 32⟩, ⟨4, 2, ro, 32⟩, ⟨6, 1, ro, 32⟩, ⟨7, 1, ro, 32⟩]⟩,
  ⟨0x010, 1, 0x4, 0x00000000, [⟨0, 1, w1c, 32⟩, ⟨1, 1, w1c, 32⟩, ⟨31, 1, w1c, 32⟩]⟩,
  ⟨0x040, 8, 0x4, 0x00000000, [⟨0, 32, ro, 32⟩]⟩,
  ⟨0x080, 64, 0x4, 0x00000000, [⟨0, 5, rw, 32⟩, ⟨7, 1, rw, 32⟩, ⟨8, 5, rw, 32⟩, ⟨15, 1, rw, 32⟩, ⟨16, 5, rw, 32⟩, ⟨23, 1, rw, 32⟩, ⟨24, 5, rw, 32⟩, ⟨31, 1, rw, 32⟩]⟩,
  ⟨0x180, 1, 0x4, 0x00000000, [⟨0, 5, wo, 32⟩]⟩,
  ⟨0x184, 1, 0x4, 0xFFFFFFFF, [⟨0, 32, ro, 32⟩]⟩,
  ⟨0x188, 1, 0x4, 0x00000000, [⟨0, 32, ro, 32⟩]⟩]

/-- CMD, page 0x05: CTRL, STATUS, IRQ_STAT, MBX_SUBMIT, RINGk_CTRL, RINGk_STATUS, RINGk_SQ_BASE, RINGk_SQ_BASE_HI, RINGk_CQ_BASE, RINGk_CQ_BASE_HI, RINGk_SIZE, RINGk_SQ_TAIL, RINGk_SQ_HEAD, RINGk_CQ_HEAD, RINGk_CQ_TAIL, RINGk_NEXT_SEQ, RINGk_COAL, EVR_CTRL, EVR_BASE, EVR_BASE_HI, EVR_HEAD, EVR_TAIL, LOG_NEXT_SEQ, MBX_DESCn, MBX_CPL, MBX_CPL1, MBX_CPL2, MBX_CPL3, MBX_CPL4, MBX_CPL5, MBX_CPL6, MBX_CPL7, MBX_CPL8. -/
def regsCmd : List RegSpec := [
  ⟨0x008, 1, 0x4, 0x00000000, [⟨0, 5, rw, 32⟩]⟩,
  ⟨0x00C, 1, 0x4, 0x00000000, [⟨0, 4, ro, 32⟩, ⟨8, 1, ro, 32⟩]⟩,
  ⟨0x010, 1, 0x4, 0x00000000, [⟨0, 4, w1c, 32⟩, ⟨4, 1, w1c, 32⟩, ⟨5, 1, w1c, 32⟩, ⟨6, 1, w1c, 32⟩, ⟨8, 4, w1c, 32⟩, ⟨31, 1, w1c, 32⟩]⟩,
  ⟨0x028, 1, 0x4, 0x00000000, [⟨0, 1, go, 32⟩]⟩,
  ⟨0x040, 4, 0x40, 0x00100000, [⟨0, 1, rw, 32⟩, ⟨1, 1, go, 32⟩, ⟨16, 8, rw, 32⟩, ⟨24, 5, rw, 32⟩]⟩,
  ⟨0x044, 4, 0x40, 0x00000000, [⟨0, 2, ro, 32⟩, ⟨8, 8, ro, 32⟩]⟩,
  ⟨0x048, 4, 0x40, 0x00000000, [⟨0, 32, rw, 32⟩]⟩,
  ⟨0x04C, 4, 0x40, 0x00000000, [⟨0, 32, rw, 32⟩]⟩,
  ⟨0x050, 4, 0x40, 0x00000000, [⟨0, 32, rw, 32⟩]⟩,
  ⟨0x054, 4, 0x40, 0x00000000, [⟨0, 32, rw, 32⟩]⟩,
  ⟨0x058, 4, 0x40, 0x00000000, [⟨0, 4, rw, 32⟩, ⟨16, 4, rw, 32⟩]⟩,
  ⟨0x05C, 4, 0x40, 0x00000000, [⟨0, 12, rw, 32⟩]⟩,
  ⟨0x060, 4, 0x40, 0x00000000, [⟨0, 12, ro, 32⟩]⟩,
  ⟨0x064, 4, 0x40, 0x00000000, [⟨0, 12, rw, 32⟩]⟩,
  ⟨0x068, 4, 0x40, 0x00000000, [⟨0, 12, ro, 32⟩]⟩,
  ⟨0x06C, 4, 0x40, 0x00000000, [⟨0, 32, ro, 32⟩]⟩,
  ⟨0x070, 4, 0x40, 0x00000000, [⟨0, 16, rw, 32⟩, ⟨16, 8, rw, 32⟩]⟩,
  ⟨0x140, 1, 0x4, 0x00000000, [⟨0, 1, rw, 32⟩, ⟨9, 5, rw, 32⟩, ⟨14, 3, rw, 32⟩, ⟨20, 4, rw, 32⟩]⟩,
  ⟨0x144, 1, 0x4, 0x00000000, [⟨0, 32, rw, 32⟩]⟩,
  ⟨0x148, 1, 0x4, 0x00000000, [⟨0, 32, rw, 32⟩]⟩,
  ⟨0x14C, 1, 0x4, 0x00000000, [⟨0, 15, rw, 32⟩]⟩,
  ⟨0x150, 1, 0x4, 0x00000000, [⟨0, 15, ro, 32⟩]⟩,
  ⟨0x154, 1, 0x4, 0x00000000, [⟨0, 32, ro, 32⟩]⟩,
  ⟨0x200, 16, 0x4, 0x00000000, [⟨0, 32, rw, 32⟩]⟩,
  ⟨0x240, 1, 0x4, 0x00000000, [⟨0, 7, ro, 32⟩, ⟨31, 1, ro, 32⟩]⟩,
  ⟨0x244, 1, 0x4, 0x00000000, [⟨0, 32, ro, 32⟩]⟩,
  ⟨0x248, 1, 0x4, 0x00000000, [⟨0, 32, ro, 32⟩]⟩,
  ⟨0x24C, 1, 0x4, 0x00000000, [⟨0, 32, ro, 32⟩]⟩,
  ⟨0x250, 1, 0x4, 0x00000000, [⟨0, 32, ro, 32⟩]⟩,
  ⟨0x254, 1, 0x4, 0x00000000, [⟨0, 32, ro, 32⟩]⟩,
  ⟨0x258, 1, 0x4, 0x00000000, [⟨0, 32, ro, 32⟩]⟩,
  ⟨0x25C, 1, 0x4, 0x00000000, [⟨0, 32, ro, 32⟩]⟩,
  ⟨0x260, 1, 0x4, 0x00000000, [⟨0, 32, ro, 32⟩]⟩]

/-- IND, page 0x06: IND_ADDR, IND_CTRL, IND_DATA, IND_STATUS. -/
def regsInd : List RegSpec := [
  ⟨0x028, 1, 0x4, 0x00000000, [⟨0, 28, rw, 32⟩, ⟨28, 4, rw, 32⟩]⟩,
  ⟨0x02C, 1, 0x4, 0x00000000, [⟨0, 2, rw, 32⟩, ⟨4, 1, rw, 32⟩]⟩,
  ⟨0x030, 1, 0x4, 0x00000000, [⟨0, 32, rw, 32⟩]⟩,
  ⟨0x034, 1, 0x4, 0x00000000, [⟨0, 1, ro, 32⟩, ⟨1, 1, ro, 32⟩, ⟨8, 1, w1c, 32⟩, ⟨9, 1, w1c, 32⟩, ⟨10, 1, w1c, 32⟩, ⟨11, 1, w1c, 32⟩, ⟨12, 1, w1c, 32⟩]⟩]

/-- BST, page 0x07: STATUS, IRQ_STAT, RES_SEL, RES_INFO, RES_MISR, RES_MISR_HI, RES_EXP, RES_EXP_HI, RUNS, FAILS. -/
def regsBst : List RegSpec := [
  ⟨0x00C, 1, 0x4, 0x00000000, [⟨0, 1, ro, 32⟩, ⟨1, 1, ro, 32⟩, ⟨8, 8, ro, 32⟩, ⟨16, 1, ro, 32⟩, ⟨17, 1, ro, 32⟩]⟩,
  ⟨0x010, 1, 0x4, 0x00000000, [⟨0, 1, w1c, 32⟩, ⟨1, 1, w1c, 32⟩, ⟨31, 1, w1c, 32⟩]⟩,
  ⟨0x028, 1, 0x4, 0x00000000, [⟨0, 8, rw, 32⟩]⟩,
  ⟨0x02C, 1, 0x4, 0x00000000, [⟨0, 24, ro, 32⟩, ⟨29, 1, ro, 32⟩, ⟨30, 1, ro, 32⟩, ⟨31, 1, ro, 32⟩]⟩,
  ⟨0x030, 1, 0x4, 0x00000000, [⟨0, 32, ro, 32⟩]⟩,
  ⟨0x034, 1, 0x4, 0x00000000, [⟨0, 32, ro, 32⟩]⟩,
  ⟨0x038, 1, 0x4, 0x00000000, [⟨0, 32, ro, 32⟩]⟩,
  ⟨0x03C, 1, 0x4, 0x00000000, [⟨0, 32, ro, 32⟩]⟩,
  ⟨0x040, 1, 0x4, 0x00000000, [⟨0, 32, cnt, 32⟩]⟩,
  ⟨0x044, 1, 0x4, 0x00000000, [⟨0, 32, cnt, 32⟩]⟩]

/-- LRF, page 0x10–0x13: CTRL, STATUS, IRQ_STAT, LOCK, BLANK_CFG, TX_LIMIT, CAL_CFG, FEM_CFG, FEM_TIMING, FEM_BIAS, ANCHOR, ANCHOR_STATUS, BLANK_COUNT, BLANK_TIME_US, BG_SLICES, BG_ABORTS, TX_LATE, LOCK_FAILS, CLIP_COUNT, CAL_PROGRESS, SYNTH. -/
def regsLrf : List RegSpec := [
  ⟨0x008, 1, 0x4, 0x00000001, [⟨0, 1, rw, 32⟩, ⟨4, 2, rw, 32⟩, ⟨8, 6, rw, 32⟩]⟩,
  ⟨0x00C, 1, 0x4, 0x00000000, [⟨0, 3, ro, 32⟩, ⟨3, 1, ro, 32⟩, ⟨4, 1, ro, 32⟩, ⟨5, 1, ro, 32⟩, ⟨8, 6, ro, 32⟩, ⟨16, 8, ro, 32⟩, ⟨24, 8, ro, 32⟩]⟩,
  ⟨0x010, 1, 0x4, 0x00000000, [⟨0, 1, w1c, 32⟩, ⟨1, 1, w1c, 32⟩, ⟨2, 1, w1c, 32⟩, ⟨3, 1, w1c, 32⟩, ⟨4, 1, w1c, 32⟩, ⟨5, 1, w1c, 32⟩, ⟨6, 1, w1c, 32⟩, ⟨7, 1, w1c, 32⟩, ⟨31, 1, w1c, 32⟩]⟩,
  ⟨0x024, 1, 0x4, 0x00000000, [⟨0, 1, lk, 32⟩, ⟨1, 1, lk, 32⟩]⟩,
  ⟨0x028, 1, 0x4, 0x00000003, [⟨0, 1, rw, 32⟩, ⟨1, 1, rw, 32⟩]⟩,
  ⟨0x02C, 1, 0x4, 0x00000010, [⟨0, 8, lk, 0⟩]⟩,
  ⟨0x030, 1, 0x4, 0x0258000F, [⟨0, 8, ro, 32⟩, ⟨16, 16, ro, 32⟩]⟩,
  ⟨0x034, 1, 0x4, 0x0000001F, [⟨0, 1, lk, 0⟩, ⟨1, 1, lk, 0⟩, ⟨2, 1, lk, 0⟩, ⟨3, 1, lk, 0⟩, ⟨4, 1, lk, 0⟩, ⟨8, 1, lk, 0⟩]⟩,
  ⟨0x038, 1, 0x4, 0x000C1008, [⟨0, 5, lk, 0⟩, ⟨8, 5, lk, 0⟩, ⟨16, 5, lk, 0⟩]⟩,
  ⟨0x03C, 1, 0x4, 0x00000000, [⟨0, 8, lk, 0⟩, ⟨8, 8, lk, 0⟩]⟩,
  ⟨0x040, 1, 0x4, 0x03020100, [⟨0, 8, lk, 1⟩, ⟨8, 8, lk, 1⟩, ⟨16, 8, lk, 1⟩, ⟨24, 8, lk, 1⟩]⟩,
  ⟨0x044, 1, 0x4, 0x00000000, [⟨4, 1, ro, 32⟩, ⟨5, 1, ro, 32⟩, ⟨6, 1, ro, 32⟩, ⟨7, 1, ro, 32⟩, ⟨12, 1, ro, 32⟩, ⟨13, 1, ro, 32⟩, ⟨14, 1, ro, 32⟩, ⟨15, 1, ro, 32⟩, ⟨20, 1, ro, 32⟩, ⟨21, 1, ro, 32⟩, ⟨22, 1, ro, 32⟩, ⟨23, 1, ro, 32⟩, ⟨28, 1, ro, 32⟩, ⟨29, 1, ro, 32⟩, ⟨30, 1, ro, 32⟩, ⟨31, 1, ro, 32⟩]⟩,
  ⟨0x048, 1, 0x4, 0x00000000, [⟨0, 32, cnt, 32⟩]⟩,
  ⟨0x04C, 1, 0x4, 0x00000000, [⟨0, 32, cnt, 32⟩]⟩,
  ⟨0x050, 1, 0x4, 0x00000000, [⟨0, 32, cnt, 32⟩]⟩,
  ⟨0x054, 1, 0x4, 0x00000000, [⟨0, 32, cnt, 32⟩]⟩,
  ⟨0x058, 1, 0x4, 0x00000000, [⟨0, 32, cnt, 32⟩]⟩,
  ⟨0x05C, 1, 0x4, 0x00000000, [⟨0, 32, cnt, 32⟩]⟩,
  ⟨0x060, 1, 0x4, 0x00000000, [⟨0, 32, cnt, 32⟩]⟩,
  ⟨0x064, 1, 0x4, 0x00000000, [⟨0, 9, ro, 32⟩, ⟨16, 8, ro, 32⟩, ⟨31, 1, ro, 32⟩]⟩,
  ⟨0x068, 1, 0x4, 0x00000000, [⟨0, 24, ro, 32⟩, ⟨24, 3, ro, 32⟩]⟩]

/-- LBB, page 0x14–0x17: CTRL, STATUS, IRQ_STAT, LOCK, SYNC_CFG, DET_CFG, TX_CFG, SUBCHk, SUBCHk, DETECTIONS, FRAMES_OK, OFDM_HANDOFF, SYNC_MISS, SYNC_OTHER, OFFSET_RANGE, HDR_FAIL, HDR_INVALID, OFDM_BUSY, PAY_CRC, CTX_DROP, CTX_PREEMPT, BLANK_LOSS, NOISEk. -/
def regsLbb : List RegSpec := [
  ⟨0x008, 1, 0x4, 0x00000003, [⟨0, 1, rw, 32⟩, ⟨1, 1, rw, 32⟩]⟩,
  ⟨0x00C, 1, 0x4, 0x00000000, [⟨0, 7, ro, 32⟩, ⟨8, 8, ro, 32⟩, ⟨16, 1, ro, 32⟩]⟩,
  ⟨0x010, 1, 0x4, 0x00000000, [⟨0, 1, w1c, 32⟩, ⟨1, 1, w1c, 32⟩, ⟨2, 1, w1c, 32⟩, ⟨3, 1, w1c, 32⟩, ⟨4, 1, w1c, 32⟩, ⟨31, 1, w1c, 32⟩]⟩,
  ⟨0x024, 1, 0x4, 0x00000000, [⟨0, 1, lk, 32⟩, ⟨1, 1, lk, 32⟩]⟩,
  ⟨0x028, 1, 0x4, 0x00000034, [⟨0, 8, lk, 0⟩, ⟨8, 8, lk, 0⟩, ⟨16, 1, lk, 0⟩]⟩,
  ⟨0x02C, 1, 0x4, 0x00012804, [⟨0, 3, lk, 1⟩, ⟨8, 8, lk, 1⟩, ⟨16, 1, lk, 1⟩]⟩,
  ⟨0x030, 1, 0x4, 0x0000000C, [⟨0, 7, lk, 1⟩]⟩,
  ⟨0x040, 1, 0x4, 0x9FC00000, [⟨0, 17, lk, 0⟩, ⟨22, 7, lk, 0⟩, ⟨29, 2, lk, 0⟩, ⟨31, 1, lk, 0⟩]⟩,
  ⟨0x044, 7, 0x4, 0x1FC00000, [⟨0, 17, lk, 0⟩, ⟨22, 7, lk, 0⟩, ⟨29, 2, lk, 0⟩, ⟨31, 1, lk, 0⟩]⟩,
  ⟨0x060, 1, 0x4, 0x00000000, [⟨0, 32, cnt, 32⟩]⟩,
  ⟨0x064, 1, 0x4, 0x00000000, [⟨0, 32, cnt, 32⟩]⟩,
  ⟨0x068, 1, 0x4, 0x00000000, [⟨0, 32, cnt, 32⟩]⟩,
  ⟨0x06C, 1, 0x4, 0x00000000, [⟨0, 32, cnt, 32⟩]⟩,
  ⟨0x070, 1, 0x4, 0x00000000, [⟨0, 32, cnt, 32⟩]⟩,
  ⟨0x074, 1, 0x4, 0x00000000, [⟨0, 32, cnt, 32⟩]⟩,
  ⟨0x078, 1, 0x4, 0x00000000, [⟨0, 32, cnt, 32⟩]⟩,
  ⟨0x07C, 1, 0x4, 0x00000000, [⟨0, 32, cnt, 32⟩]⟩,
  ⟨0x080, 1, 0x4, 0x00000000, [⟨0, 32, cnt, 32⟩]⟩,
  ⟨0x084, 1, 0x4, 0x00000000, [⟨0, 32, cnt, 32⟩]⟩,
  ⟨0x088, 1, 0x4, 0x00000000, [⟨0, 32, cnt, 32⟩]⟩,
  ⟨0x08C, 1, 0x4, 0x00000000, [⟨0, 32, cnt, 32⟩]⟩,
  ⟨0x090, 1, 0x4, 0x00000000, [⟨0, 32, cnt, 32⟩]⟩,
  ⟨0x094, 8, 0x4, 0x00000000, [⟨0, 16, ro, 32⟩, ⟨31, 1, ro, 32⟩]⟩]

/-- LOF, page 0x18–0x1B: CTRL, STATUS, IRQ_STAT, LOCK, MAP_CFG, MEAS_CFG, TX_CFG, LDPC_CFG, RX_START, RX_OK, FC_FAIL, MAP_UNKNOWN, LDPC_FAIL, CRC_FAIL, PREEMPT, BLANK_LOSS, TX_FRAMES, MAPS_ISSUED, MAPS_RECEIVED, MAP_RX_BAD, MAP_DEFER, MEAS_TIMEOUTS. -/
def regsLof : List RegSpec := [
  ⟨0x008, 1, 0x4, 0x00000001, [⟨0, 1, rw, 32⟩]⟩,
  ⟨0x00C, 1, 0x4, 0x00000000, [⟨0, 1, ro, 32⟩, ⟨1, 1, ro, 32⟩, ⟨4, 5, ro, 32⟩, ⟨16, 7, ro, 32⟩]⟩,
  ⟨0x010, 1, 0x4, 0x00000000, [⟨0, 1, w1c, 32⟩, ⟨1, 1, w1c, 32⟩, ⟨2, 1, w1c, 32⟩, ⟨3, 1, w1c, 32⟩, ⟨4, 1, w1c, 32⟩, ⟨5, 1, w1c, 32⟩, ⟨6, 1, w1c, 32⟩, ⟨7, 1, w1c, 32⟩, ⟨31, 1, w1c, 32⟩]⟩,
  ⟨0x024, 1, 0x4, 0x00000000, [⟨0, 1, lk, 32⟩, ⟨1, 1, lk, 32⟩]⟩,
  ⟨0x028, 1, 0x4, 0x0418460C, [⟨0, 7, lk, 0⟩, ⟨7, 4, lk, 0⟩, ⟨11, 5, lk, 0⟩, ⟨16, 16, lk, 0⟩]⟩,
  ⟨0x02C, 1, 0x4, 0x1E02003C, [⟨0, 16, lk, 0⟩, ⟨16, 2, lk, 0⟩, ⟨24, 8, lk, 0⟩]⟩,
  ⟨0x030, 1, 0x4, 0x00090C02, [⟨0, 4, lk, 1⟩, ⟨4, 2, lk, 1⟩, ⟨8, 8, lk, 1⟩, ⟨16, 4, lk, 1⟩]⟩,
  ⟨0x034, 1, 0x4, 0x0000000C, [⟨0, 5, lk, 1⟩]⟩,
  ⟨0x040, 1, 0x4, 0x00000000, [⟨0, 32, cnt, 32⟩]⟩,
  ⟨0x044, 1, 0x4, 0x00000000, [⟨0, 32, cnt, 32⟩]⟩,
  ⟨0x048, 1, 0x4, 0x00000000, [⟨0, 32, cnt, 32⟩]⟩,
  ⟨0x04C, 1, 0x4, 0x00000000, [⟨0, 32, cnt, 32⟩]⟩,
  ⟨0x050, 1, 0x4, 0x00000000, [⟨0, 32, cnt, 32⟩]⟩,
  ⟨0x054, 1, 0x4, 0x00000000, [⟨0, 32, cnt, 32⟩]⟩,
  ⟨0x058, 1, 0x4, 0x00000000, [⟨0, 32, cnt, 32⟩]⟩,
  ⟨0x05C, 1, 0x4, 0x00000000, [⟨0, 32, cnt, 32⟩]⟩,
  ⟨0x060, 1, 0x4, 0x00000000, [⟨0, 32, cnt, 32⟩]⟩,
  ⟨0x064, 1, 0x4, 0x00000000, [⟨0, 32, cnt, 32⟩]⟩,
  ⟨0x068, 1, 0x4, 0x00000000, [⟨0, 32, cnt, 32⟩]⟩,
  ⟨0x06C, 1, 0x4, 0x00000000, [⟨0, 32, cnt, 32⟩]⟩,
  ⟨0x070, 1, 0x4, 0x00000000, [⟨0, 32, cnt, 32⟩]⟩,
  ⟨0x074, 1, 0x4, 0x00000000, [⟨0, 32, cnt, 32⟩]⟩]

/-- MAC, page 0x1C: CTRL, STATUS, IRQ_STAT, LOCK, ROUTER_ID, SF_OFFSET, GUARD_CFG, ACK_CFG, JOIN_CFG, BCN_KEY, BCN_CFGn, WAKE_CFGn, NODES_ACTIVE, NODES_RDV, BCN_SENT, BCN_SKIP, SLOT_HITS, SLOT_MISSES, OUT_OF_WINDOW, ACK_SENT, ACK_DENIED, DL_ATTEMPTS, DL_ACKED, WAKE_SENT, WAKE_ANSWERED, JOIN_ACCEPTED, JOIN_UNKNOWN, JOIN_BAD, JOIN_DEFER, SLOT_REJECT, NODES_RELEASED, NBRk_ID, NBRk_BCN, NBR_STATEj. -/
def regsMac : List RegSpec := [
  ⟨0x008, 1, 0x4, 0x00000003, [⟨0, 1, rw, 32⟩, ⟨1, 1, rw, 32⟩]⟩,
  ⟨0x00C, 1, 0x4, 0x00000000, [⟨0, 4, ro, 32⟩, ⟨8, 7, ro, 32⟩, ⟨16, 13, ro, 32⟩, ⟨31, 1, ro, 32⟩]⟩,
  ⟨0x010, 1, 0x4, 0x00000000, [⟨0, 1, w1c, 32⟩, ⟨1, 1, w1c, 32⟩, ⟨2, 1, w1c, 32⟩, ⟨3, 1, w1c, 32⟩, ⟨4, 1, w1c, 32⟩, ⟨5, 1, w1c, 32⟩, ⟨6, 1, w1c, 32⟩, ⟨7, 1, w1c, 32⟩, ⟨8, 1, w1c, 32⟩, ⟨31, 1, w1c, 32⟩]⟩,
  ⟨0x024, 1, 0x4, 0x00000000, [⟨0, 1, lk, 32⟩, ⟨1, 1, lk, 32⟩, ⟨2, 1, lk, 32⟩, ⟨3, 1, lk, 32⟩]⟩,
  ⟨0x028, 1, 0x4, 0x00000000, [⟨0, 14, lk, 0⟩]⟩,
  ⟨0x02C, 1, 0x4, 0x00000000, [⟨0, 13, lk, 0⟩]⟩,
  ⟨0x030, 1, 0x4, 0x07D01400, [⟨8, 8, lk, 0⟩, ⟨16, 16, lk, 0⟩]⟩,
  ⟨0x034, 1, 0x4, 0x001403E8, [⟨0, 16, lk, 0⟩, ⟨16, 8, lk, 0⟩]⟩,
  ⟨0x038, 1, 0x4, 0x32080701, [⟨0, 2, lk, 2⟩, ⟨4, 3, lk, 2⟩, ⟨8, 3, lk, 2⟩, ⟨16, 8, lk, 2⟩, ⟨24, 8, lk, 2⟩]⟩,
  ⟨0x03C, 1, 0x4, 0x00000000, [⟨0, 9, lk, 1⟩, ⟨31, 1, lk, 1⟩]⟩,
  ⟨0x040, 4, 0x4, 0x86000010, [⟨0, 8, lk, 1⟩, ⟨8, 8, lk, 1⟩, ⟨18, 7, lk, 1⟩, ⟨25, 3, lk, 1⟩, ⟨28, 3, lk, 1⟩, ⟨31, 1, lk, 1⟩]⟩,
  ⟨0x050, 4, 0x4, 0x00000010, [⟨0, 8, lk, 1⟩, ⟨8, 8, lk, 1⟩, ⟨16, 8, lk, 1⟩, ⟨24, 3, lk, 1⟩, ⟨31, 1, lk, 1⟩]⟩,
  ⟨0x060, 1, 0x4, 0x00000000, [⟨0, 19, ro, 32⟩]⟩,
  ⟨0x064, 1, 0x4, 0x00000000, [⟨0, 19, ro, 32⟩]⟩,
  ⟨0x070, 1, 0x4, 0x00000000, [⟨0, 32, cnt, 32⟩]⟩,
  ⟨0x074, 1, 0x4, 0x00000000, [⟨0, 32, cnt, 32⟩]⟩,
  ⟨0x078, 1, 0x4, 0x00000000, [⟨0, 32, cnt, 32⟩]⟩,
  ⟨0x07C, 1, 0x4, 0x00000000, [⟨0, 32, cnt, 32⟩]⟩,
  ⟨0x080, 1, 0x4, 0x00000000, [⟨0, 32, cnt, 32⟩]⟩,
  ⟨0x084, 1, 0x4, 0x00000000, [⟨0, 32, cnt, 32⟩]⟩,
  ⟨0x088, 1, 0x4, 0x00000000, [⟨0, 32, cnt, 32⟩]⟩,
  ⟨0x08C, 1, 0x4, 0x00000000, [⟨0, 32, cnt, 32⟩]⟩,
  ⟨0x090, 1, 0x4, 0x00000000, [⟨0, 32, cnt, 32⟩]⟩,
  ⟨0x094, 1, 0x4, 0x00000000, [⟨0, 32, cnt, 32⟩]⟩,
  ⟨0x098, 1, 0x4, 0x00000000, [⟨0, 32, cnt, 32⟩]⟩,
  ⟨0x09C, 1, 0x4, 0x00000000, [⟨0, 32, cnt, 32⟩]⟩,
  ⟨0x0A0, 1, 0x4, 0x00000000, [⟨0, 32, cnt, 32⟩]⟩,
  ⟨0x0A4, 1, 0x4, 0x00000000, [⟨0, 32, cnt, 32⟩]⟩,
  ⟨0x0A8, 1, 0x4, 0x00000000, [⟨0, 32, cnt, 32⟩]⟩,
  ⟨0x0AC, 1, 0x4, 0x00000000, [⟨0, 32, cnt, 32⟩]⟩,
  ⟨0x0B0, 1, 0x4, 0x00000000, [⟨0, 32, cnt, 32⟩]⟩,
  ⟨0x100, 64, 0x8, 0x0C000000, [⟨0, 14, lk, 3⟩, ⟨24, 7, lk, 3⟩, ⟨31, 1, lk, 3⟩]⟩,
  ⟨0x104, 64, 0x8, 0x00000000, [⟨0, 8, lk, 3⟩, ⟨8, 13, lk, 3⟩, ⟨24, 1, lk, 3⟩, ⟨25, 2, lk, 3⟩, ⟨27, 3, lk, 3⟩, ⟨30, 2, lk, 3⟩]⟩,
  ⟨0x300, 4, 0x4, 0x00000000, [⟨0, 2, ro, 32⟩, ⟨2, 2, ro, 32⟩, ⟨4, 2, ro, 32⟩, ⟨6, 2, ro, 32⟩, ⟨8, 2, ro, 32⟩, ⟨10, 2, ro, 32⟩, ⟨12, 2, ro, 32⟩, ⟨14, 2, ro, 32⟩, ⟨16, 2, ro, 32⟩, ⟨18, 2, ro, 32⟩, ⟨20, 2, ro, 32⟩, ⟨22, 2, ro, 32⟩, ⟨24, 2, ro, 32⟩, ⟨26, 2, ro, 32⟩, ⟨28, 2, ro, 32⟩, ⟨30, 2, ro, 32⟩]⟩]

/-- RGL, page 0x1D: CTRL, STATUS, IRQ_STAT, LOCK, PROFILE, RSV_CFG, BOOT_CFG, ACCT_SEL, EXT_GAINn, ACCT_INFO, ACCT_BUDGET, ACCT_USED, ACCT_BCN, ACCT_RSV, GRANTS, WITHHELD, REFUNDS, LBT_BUSY, OUT_OF_PROFILE, NO_PROFILE. -/
def regsRgl : List RegSpec := [
  ⟨0x008, 1, 0x4, 0x00000000, [⟨0, 1, lk, 0⟩]⟩,
  ⟨0x00C, 1, 0x4, 0x00000000, [⟨0, 4, ro, 32⟩, ⟨16, 8, ro, 32⟩, ⟨24, 8, ro, 32⟩]⟩,
  ⟨0x010, 1, 0x4, 0x00000000, [⟨0, 1, w1c, 32⟩, ⟨1, 1, w1c, 32⟩, ⟨2, 1, w1c, 32⟩, ⟨3, 1, w1c, 32⟩, ⟨4, 1, w1c, 32⟩, ⟨31, 1, w1c, 32⟩]⟩,
  ⟨0x024, 1, 0x4, 0x00000000, [⟨0, 1, lk, 32⟩, ⟨1, 1, lk, 32⟩]⟩,
  ⟨0x028, 1, 0x4, 0x00000000, [⟨0, 8, lk, 0⟩]⟩,
  ⟨0x02C, 1, 0x4, 0x0000320A, [⟨0, 8, lk, 1⟩, ⟨8, 8, lk, 1⟩]⟩,
  ⟨0x030, 1, 0x4, 0x00000064, [⟨0, 7, lk, 1⟩]⟩,
  ⟨0x034, 1, 0x4, 0x00000000, [⟨0, 8, rw, 32⟩, ⟨8, 2, rw, 32⟩]⟩,
  ⟨0x040, 4, 0x4, 0x00000000, [⟨0, 8, lk, 0⟩, ⟨8, 8, lk, 0⟩]⟩,
  ⟨0x050, 1, 0x4, 0x00000000, [⟨0, 24, ro, 32⟩, ⟨24, 2, ro, 32⟩, ⟨31, 1, ro, 32⟩]⟩,
  ⟨0x054, 1, 0x4, 0x00000000, [⟨0, 32, ro, 32⟩]⟩,
  ⟨0x058, 1, 0x4, 0x00000000, [⟨0, 32, ro, 32⟩]⟩,
  ⟨0x05C, 1, 0x4, 0x00000000, [⟨0, 32, ro, 32⟩]⟩,
  ⟨0x060, 1, 0x4, 0x00000000, [⟨0, 32, ro, 32⟩]⟩,
  ⟨0x070, 1, 0x4, 0x00000000, [⟨0, 32, cnt, 32⟩]⟩,
  ⟨0x074, 1, 0x4, 0x00000000, [⟨0, 32, cnt, 32⟩]⟩,
  ⟨0x078, 1, 0x4, 0x00000000, [⟨0, 32, cnt, 32⟩]⟩,
  ⟨0x07C, 1, 0x4, 0x00000000, [⟨0, 32, cnt, 32⟩]⟩,
  ⟨0x080, 1, 0x4, 0x00000000, [⟨0, 32, cnt, 32⟩]⟩,
  ⟨0x084, 1, 0x4, 0x00000000, [⟨0, 32, cnt, 32⟩]⟩]

/-- CAD, page 0x1E: CTRL, STATUS, IRQ_STAT, LOCK, ADAPT_CFG, PWR_CFG, OFDM_CFG, PARCELS_USED, WOR_USED, PEERS_USED, ROUTES_VALID, UP_NEW, DUPLICATES, LATE, REPLAYS, UP_LOST, MIC_FAIL, UNKNOWN, FOREIGN, RELAY_DROPS, ADAPT_CHANGES, ADAPT_DEFER, SESSIONS_NEW. -/
def regsCad : List RegSpec := [
  ⟨0x008, 1, 0x4, 0x00000007, [⟨0, 1, lk, 1⟩, ⟨1, 1, lk, 1⟩, ⟨2, 1, lk, 1⟩]⟩,
  ⟨0x00C, 1, 0x4, 0x00000000, [⟨0, 1, ro, 32⟩]⟩,
  ⟨0x010, 1, 0x4, 0x00000000, [⟨0, 1, w1c, 32⟩, ⟨1, 1, w1c, 32⟩, ⟨2, 1, w1c, 32⟩, ⟨3, 1, w1c, 32⟩, ⟨4, 1, w1c, 32⟩, ⟨5, 1, w1c, 32⟩, ⟨6, 1, w1c, 32⟩, ⟨31, 1, w1c, 32⟩]⟩,
  ⟨0x024, 1, 0x4, 0x00000000, [⟨0, 1, lk, 32⟩, ⟨1, 1, lk, 32⟩]⟩,
  ⟨0x028, 1, 0x4, 0x02580C14, [⟨0, 8, lk, 0⟩, ⟨8, 8, lk, 0⟩, ⟨16, 16, lk, 0⟩]⟩,
  ⟨0x02C, 1, 0x4, 0x1810D100, [⟨0, 8, lk, 0⟩, ⟨8, 8, lk, 0⟩, ⟨16, 8, lk, 0⟩, ⟨24, 8, lk, 0⟩]⟩,
  ⟨0x030, 1, 0x4, 0x00000040, [⟨0, 11, lk, 0⟩]⟩,
  ⟨0x040, 1, 0x4, 0x00000000, [⟨0, 19, ro, 32⟩]⟩,
  ⟨0x044, 1, 0x4, 0x00000000, [⟨0, 17, ro, 32⟩]⟩,
  ⟨0x048, 1, 0x4, 0x00000000, [⟨0, 13, ro, 32⟩]⟩,
  ⟨0x04C, 1, 0x4, 0x00000000, [⟨0, 13, ro, 32⟩]⟩,
  ⟨0x060, 1, 0x4, 0x00000000, [⟨0, 32, cnt, 32⟩]⟩,
  ⟨0x064, 1, 0x4, 0x00000000, [⟨0, 32, cnt, 32⟩]⟩,
  ⟨0x068, 1, 0x4, 0x00000000, [⟨0, 32, cnt, 32⟩]⟩,
  ⟨0x06C, 1, 0x4, 0x00000000, [⟨0, 32, cnt, 32⟩]⟩,
  ⟨0x070, 1, 0x4, 0x00000000, [⟨0, 32, cnt, 32⟩]⟩,
  ⟨0x074, 1, 0x4, 0x00000000, [⟨0, 32, cnt, 32⟩]⟩,
  ⟨0x078, 1, 0x4, 0x00000000, [⟨0, 32, cnt, 32⟩]⟩,
  ⟨0x07C, 1, 0x4, 0x00000000, [⟨0, 32, cnt, 32⟩]⟩,
  ⟨0x080, 1, 0x4, 0x00000000, [⟨0, 32, cnt, 32⟩]⟩,
  ⟨0x084, 1, 0x4, 0x00000000, [⟨0, 32, cnt, 32⟩]⟩,
  ⟨0x088, 1, 0x4, 0x00000000, [⟨0, 32, cnt, 32⟩]⟩,
  ⟨0x08C, 1, 0x4, 0x00000000, [⟨0, 32, cnt, 32⟩]⟩]

/-- UPD, page 0x1F: STATUS, IRQ_STAT, LOCK, CFG, KEY_CFG, MC_CFG, IMGk_INFO, SESSk_ID, SESSk_STATE, SESSk_TARGETED, SESSk_COMPLETED, SESSk_PENDING, SESSk_DECLINED, SESSk_FAILED, SESSk_LOST, MC_FRAMES, MC_WITHHELD, REPAIR_FRAMES, REPORTS, REPORTS_BAD. -/
def regsUpd : List RegSpec := [
  ⟨0x00C, 1, 0x4, 0x00000000, [⟨0, 4, ro, 32⟩, ⟨8, 8, ro, 32⟩]⟩,
  ⟨0x010, 1, 0x4, 0x00000000, [⟨0, 1, w1c, 32⟩, ⟨1, 1, w1c, 32⟩, ⟨2, 1, w1c, 32⟩, ⟨3, 1, w1c, 32⟩, ⟨4, 1, w1c, 32⟩, ⟨31, 1, w1c, 32⟩]⟩,
  ⟨0x024, 1, 0x4, 0x00000000, [⟨0, 1, lk, 32⟩]⟩,
  ⟨0x028, 1, 0x4, 0x80190102, [⟨0, 3, lk, 0⟩, ⟨8, 4, lk, 0⟩, ⟨16, 8, lk, 0⟩, ⟨24, 8, lk, 0⟩]⟩,
  ⟨0x02C, 1, 0x4, 0x00000000, [⟨0, 9, lk, 0⟩]⟩,
  ⟨0x030, 1, 0x4, 0x00003333, [⟨0, 3, lk, 0⟩, ⟨4, 3, lk, 0⟩, ⟨8, 3, lk, 0⟩, ⟨12, 3, lk, 0⟩]⟩,
  ⟨0x040, 8, 0x4, 0x00000000, [⟨0, 22, ro, 32⟩, ⟨24, 3, ro, 32⟩, ⟨30, 1, ro, 32⟩, ⟨31, 1, ro, 32⟩]⟩,
  ⟨0x060, 4, 0x20, 0x00000000, [⟨0, 32, ro, 32⟩]⟩,
  ⟨0x064, 4, 0x20, 0x00000000, [⟨0, 3, ro, 32⟩, ⟨4, 3, ro, 32⟩, ⟨8, 3, ro, 32⟩, ⟨12, 4, ro, 32⟩]⟩,
  ⟨0x068, 4, 0x20, 0x00000000, [⟨0, 19, ro, 32⟩]⟩,
  ⟨0x06C, 4, 0x20, 0x00000000, [⟨0, 19, ro, 32⟩]⟩,
  ⟨0x070, 4, 0x20, 0x00000000, [⟨0, 19, ro, 32⟩]⟩,
  ⟨0x074, 4, 0x20, 0x00000000, [⟨0, 19, ro, 32⟩]⟩,
  ⟨0x078, 4, 0x20, 0x00000000, [⟨0, 19, ro, 32⟩]⟩,
  ⟨0x07C, 4, 0x20, 0x00000000, [⟨0, 19, ro, 32⟩]⟩,
  ⟨0x0E0, 1, 0x4, 0x00000000, [⟨0, 32, cnt, 32⟩]⟩,
  ⟨0x0E4, 1, 0x4, 0x00000000, [⟨0, 32, cnt, 32⟩]⟩,
  ⟨0x0E8, 1, 0x4, 0x00000000, [⟨0, 32, cnt, 32⟩]⟩,
  ⟨0x0EC, 1, 0x4, 0x00000000, [⟨0, 32, cnt, 32⟩]⟩,
  ⟨0x0F0, 1, 0x4, 0x00000000, [⟨0, 32, cnt, 32⟩]⟩]

/-- FAB, page 0x20: CTRL, STATUS, IRQ_STAT, LOCK, BUF_CFG, UPLINK_CFG, HELD_COUNT, HRXk_CTRL, HRXk_BASE, HRXk_BASE_HI, HRXk_SIZE, HRXk_HEAD, HRXk_TAIL, HRXk_COAL, HRXk_STATUS, SRAM_CELLS_USED, DRAM_CELLS_USED, DESC_USED, NONEMPTY, DEEPEST_Q, DEEPEST_DEPTH, ENQUEUED, DEQUEUED, DROPS, FLUSHED, UNDERRUNS, QUEUE_FAULTS, MARKERS. -/
def regsFab : List RegSpec := [
  ⟨0x008, 1, 0x4, 0x00000003, [⟨0, 1, rw, 32⟩, ⟨1, 1, rw, 32⟩]⟩,
  ⟨0x00C, 1, 0x4, 0x00000000, [⟨0, 8, ro, 32⟩]⟩,
  ⟨0x010, 1, 0x4, 0x00000000, [⟨0, 1, w1c, 32⟩, ⟨1, 1, w1c, 32⟩, ⟨2, 1, w1c, 32⟩, ⟨3, 1, w1c, 32⟩, ⟨4, 1, w1c, 32⟩, ⟨8, 8, w1c, 32⟩, ⟨31, 1, w1c, 32⟩]⟩,
  ⟨0x024, 1, 0x4, 0x00000000, [⟨0, 1, lk, 32⟩, ⟨1, 1, lk, 32⟩]⟩,
  ⟨0x028, 1, 0x4, 0x04000800, [⟨0, 16, lk, 0⟩, ⟨16, 16, lk, 0⟩]⟩,
  ⟨0x02C, 1, 0x4, 0x00000000, [⟨0, 3, lk, 1⟩, ⟨16, 12, lk, 1⟩]⟩,
  ⟨0x030, 1, 0x4, 0x00000000, [⟨0, 13, ro, 32⟩]⟩,
  ⟨0x040, 8, 0x20, 0x00000B00, [⟨0, 1, rw, 32⟩, ⟨1, 1, go, 32⟩, ⟨8, 4, rw, 32⟩]⟩,
  ⟨0x044, 8, 0x20, 0x00000000, [⟨0, 32, rw, 32⟩]⟩,
  ⟨0x048, 8, 0x20, 0x00000000, [⟨0, 32, rw, 32⟩]⟩,
  ⟨0x04C, 8, 0x20, 0x00000000, [⟨0, 4, rw, 32⟩]⟩,
  ⟨0x050, 8, 0x20, 0x00000000, [⟨0, 14, rw, 32⟩]⟩,
  ⟨0x054, 8, 0x20, 0x00000000, [⟨0, 14, ro, 32⟩]⟩,
  ⟨0x058, 8, 0x20, 0x00000000, [⟨0, 16, rw, 32⟩, ⟨16, 8, rw, 32⟩]⟩,
  ⟨0x05C, 8, 0x20, 0x00000000, [⟨0, 2, ro, 32⟩]⟩,
  ⟨0x140, 1, 0x4, 0x00000000, [⟨0, 14, ro, 32⟩]⟩,
  ⟨0x144, 1, 0x4, 0x00000000, [⟨0, 17, ro, 32⟩]⟩,
  ⟨0x148, 1, 0x4, 0x00000000, [⟨0, 19, ro, 32⟩]⟩,
  ⟨0x14C, 1, 0x4, 0x00000000, [⟨0, 13, ro, 32⟩]⟩,
  ⟨0x150, 1, 0x4, 0x00000000, [⟨0, 12, ro, 32⟩]⟩,
  ⟨0x154, 1, 0x4, 0x00000000, [⟨0, 19, ro, 32⟩]⟩,
  ⟨0x160, 1, 0x4, 0x00000000, [⟨0, 32, cnt, 32⟩]⟩,
  ⟨0x164, 1, 0x4, 0x00000000, [⟨0, 32, cnt, 32⟩]⟩,
  ⟨0x168, 1, 0x4, 0x00000000, [⟨0, 32, cnt, 32⟩]⟩,
  ⟨0x16C, 1, 0x4, 0x00000000, [⟨0, 32, cnt, 32⟩]⟩,
  ⟨0x170, 1, 0x4, 0x00000000, [⟨0, 32, cnt, 32⟩]⟩,
  ⟨0x174, 1, 0x4, 0x00000000, [⟨0, 32, cnt, 32⟩]⟩,
  ⟨0x178, 1, 0x4, 0x00000000, [⟨0, 32, cnt, 32⟩]⟩]

/-- QW, page 0x21: IRQ_EN, QW_SEL, QW_QCFG, QW_QLIMIT, QW_STATE, QW_DEPTH, QW_BYTES, QW_POP, QW_POP1, QW_POP2, QW_POP3, QW_POP4, QW_POP5, QW_POP6, QW_POP7, QW_POP8, QW_DATA, QW_SEQ_NEXT, QW_SEQ_HEAD, QW_BREAK_FIRST, QW_BREAK_LAST, Q_ENQ, Q_DROPS, Q_FLUSHED, Q_UNDERRUNS, QW_HELD_MAPj. -/
def regsQw : List RegSpec := [
  ⟨0x014, 1, 0x4, 0x00000000, [⟨31, 1, rw, 32⟩]⟩,
  ⟨0x028, 1, 0x4, 0x00000000, [⟨0, 12, rw, 32⟩]⟩,
  ⟨0x02C, 1, 0x4, 0x00000000, [⟨0, 8, rw, 32⟩, ⟨16, 3, rw, 32⟩, ⟨20, 3, rw, 32⟩, ⟨24, 4, rw, 32⟩, ⟨29, 1, rw, 32⟩, ⟨30, 1, rw, 32⟩, ⟨31, 1, rw, 32⟩]⟩,
  ⟨0x030, 1, 0x4, 0x01000100, [⟨0, 16, rw, 32⟩, ⟨16, 16, rw, 32⟩]⟩,
  ⟨0x034, 1, 0x4, 0x00000004, [⟨0, 2, ro, 32⟩, ⟨2, 1, ro, 32⟩, ⟨3, 1, ro, 32⟩, ⟨4, 1, ro, 32⟩, ⟨8, 1, w1c, 32⟩, ⟨9, 1, ro, 32⟩]⟩,
  ⟨0x038, 1, 0x4, 0x00000000, [⟨0, 19, ro, 32⟩]⟩,
  ⟨0x03C, 1, 0x4, 0x00000000, [⟨0, 26, ro, 32⟩]⟩,
  ⟨0x040, 1, 0x4, 0x00000000, [⟨31, 1, ro, 32⟩]⟩,
  ⟨0x044, 1, 0x4, 0x00000000, [⟨0, 32, ro, 32⟩]⟩,
  ⟨0x048, 1, 0x4, 0x00000000, [⟨0, 32, ro, 32⟩]⟩,
  ⟨0x04C, 1, 0x4, 0x00000000, [⟨0, 32, ro, 32⟩]⟩,
  ⟨0x050, 1, 0x4, 0x00000000, [⟨0, 32, ro, 32⟩]⟩,
  ⟨0x054, 1, 0x4, 0x00000000, [⟨0, 32, ro, 32⟩]⟩,
  ⟨0x058, 1, 0x4, 0x00000000, [⟨0, 32, ro, 32⟩]⟩,
  ⟨0x05C, 1, 0x4, 0x00000000, [⟨0, 32, ro, 32⟩]⟩,
  ⟨0x060, 1, 0x4, 0x00000000, [⟨0, 32, ro, 32⟩]⟩,
  ⟨0x064, 1, 0x4, 0x00000000, [⟨0, 32, ro, 32⟩]⟩,
  ⟨0x068, 1, 0x4, 0x00000000, [⟨0, 32, ro, 32⟩]⟩,
  ⟨0x06C, 1, 0x4, 0x00000000, [⟨0, 32, ro, 32⟩]⟩,
  ⟨0x070, 1, 0x4, 0x00000000, [⟨0, 32, ro, 32⟩]⟩,
  ⟨0x074, 1, 0x4, 0x00000000, [⟨0, 32, ro, 32⟩]⟩,
  ⟨0x078, 1, 0x4, 0x00000000, [⟨0, 32, cnt, 32⟩]⟩,
  ⟨0x07C, 1, 0x4, 0x00000000, [⟨0, 32, cnt, 32⟩]⟩,
  ⟨0x080, 1, 0x4, 0x00000000, [⟨0, 32, cnt, 32⟩]⟩,
  ⟨0x084, 1, 0x4, 0x00000000, [⟨0, 32, cnt, 32⟩]⟩,
  ⟨0x100, 128, 0x4, 0x00000000, [⟨0, 32, ro, 32⟩]⟩]

/-- TSS, page 0x22: CTRL, STATUS, IRQ_STAT, LOCK, SEL, CLS_SEL, POL_SEL, SAMPLE_CFG, OVH_CFG, Q_SHAPE, Q_BURST, Q_SCHED, Q_CREDIT, ST_CTRL, ST_SAMPLES, ST_DEPTH_MIN, ST_DEPTH_MAX, ST_DEPTH_LAST, ST_DELAY_MIN, ST_DELAY_MAX, ST_DELAY_LAST, ST_DEPTH_HISTi, ST_DELAY_HISTi, CLS_CFG, CLS_RATE, CLS_BURST, POL_CIR, POL_CBS, POL_PIR, POL_PBS, POL_GREEN, POL_YELLOW, POL_RED, RSHAPEn_c, RADIO_SHAPED, RADIO_GATED, POL_RED_TOTAL. -/
def regsTss : List RegSpec := [
  ⟨0x008, 1, 0x4, 0x00000003, [⟨0, 1, rw, 32⟩, ⟨1, 1, rw, 32⟩]⟩,
  ⟨0x00C, 1, 0x4, 0x00000000, [⟨0, 4, ro, 32⟩]⟩,
  ⟨0x010, 1, 0x4, 0x00000000, [⟨0, 1, w1c, 32⟩, ⟨1, 1, w1c, 32⟩, ⟨31, 1, w1c, 32⟩]⟩,
  ⟨0x024, 1, 0x4, 0x00000000, [⟨0, 1, lk, 32⟩, ⟨1, 1, lk, 32⟩]⟩,
  ⟨0x028, 1, 0x4, 0x00000000, [⟨0, 12, rw, 32⟩]⟩,
  ⟨0x02C, 1, 0x4, 0x00000000, [⟨0, 3, rw, 32⟩, ⟨8, 4, rw, 32⟩]⟩,
  ⟨0x030, 1, 0x4, 0x00000000, [⟨0, 8, rw, 32⟩]⟩,
  ⟨0x034, 1, 0x4, 0x00000003, [⟨0, 4, lk, 0⟩]⟩,
  ⟨0x038, 1, 0x4, 0x00001414, [⟨0, 8, lk, 0⟩, ⟨8, 8, lk, 0⟩, ⟨16, 8, lk, 0⟩]⟩,
  ⟨0x040, 1, 0x4, 0x00000000, [⟨0, 22, rw, 32⟩, ⟨31, 1, rw, 32⟩]⟩,
  ⟨0x044, 1, 0x4, 0x00002000, [⟨0, 24, rw, 32⟩]⟩,
  ⟨0x048, 1, 0x4, 0x00000800, [⟨0, 16, rw, 32⟩, ⟨16, 8, rw, 32⟩, ⟨31, 1, rw, 32⟩]⟩,
  ⟨0x04C, 1, 0x4, 0x00000000, [⟨0, 32, ro, 32⟩]⟩,
  ⟨0x050, 1, 0x4, 0x00000000, [⟨0, 1, go, 32⟩, ⟨1, 1, wo, 32⟩]⟩,
  ⟨0x054, 1, 0x4, 0x00000000, [⟨0, 31, ro, 32⟩, ⟨31, 1, ro, 32⟩]⟩,
  ⟨0x058, 1, 0x4, 0x00000000, [⟨0, 32, ro, 32⟩]⟩,
  ⟨0x05C, 1, 0x4, 0x00000000, [⟨0, 32, ro, 32⟩]⟩,
  ⟨0x060, 1, 0x4, 0x00000000, [⟨0, 32, ro, 32⟩]⟩,
  ⟨0x064, 1, 0x4, 0x00000000, [⟨0, 32, ro, 32⟩]⟩,
  ⟨0x068, 1, 0x4, 0x00000000, [⟨0, 32, ro, 32⟩]⟩,
  ⟨0x06C, 1, 0x4, 0x00000000, [⟨0, 32, ro, 32⟩]⟩,
  ⟨0x070, 16, 0x4, 0x00000000, [⟨0, 32, ro, 32⟩]⟩,
  ⟨0x0B0, 16, 0x4, 0x00000000, [⟨0, 32, ro, 32⟩]⟩,
  ⟨0x100, 1, 0x4, 0x00000001, [⟨0, 8, rw, 32⟩, ⟨30, 1, rw, 32⟩, ⟨31, 1, rw, 32⟩]⟩,
  ⟨0x104, 1, 0x4, 0x00000000, [⟨0, 22, rw, 32⟩]⟩,
  ⟨0x108, 1, 0x4, 0x00002000, [⟨0, 24, rw, 32⟩]⟩,
  ⟨0x110, 1, 0x4, 0x00000000, [⟨0, 22, lk, 1⟩]⟩,
  ⟨0x114, 1, 0x4, 0x00004000, [⟨0, 24, lk, 1⟩]⟩,
  ⟨0x118, 1, 0x4, 0x00000000, [⟨0, 22, lk, 1⟩]⟩,
  ⟨0x11C, 1, 0x4, 0x00004000, [⟨0, 24, lk, 1⟩]⟩,
  ⟨0x120, 1, 0x4, 0x00000000, [⟨0, 32, cnt, 32⟩]⟩,
  ⟨0x124, 1, 0x4, 0x00000000, [⟨0, 32, cnt, 32⟩]⟩,
  ⟨0x128, 1, 0x4, 0x00000000, [⟨0, 32, cnt, 32⟩]⟩,
  ⟨0x140, 16, 0x4, 0x01000000, [⟨0, 24, rw, 32⟩, ⟨24, 7, rw, 32⟩, ⟨31, 1, rw, 32⟩]⟩,
  ⟨0x180, 1, 0x4, 0x00000000, [⟨0, 32, cnt, 32⟩]⟩,
  ⟨0x184, 1, 0x4, 0x00000000, [⟨0, 32, cnt, 32⟩]⟩,
  ⟨0x188, 1, 0x4, 0x00000000, [⟨0, 32, cnt, 32⟩]⟩]

/-- GCL, page 0x23: IRQ_STAT, LOCK, WIN_SEL, WIN_CTRL, WIN_DATA, Lx_CTRL, Lx_ADMIN_LEN, Lx_ADMIN_CYCLE, Lx_ADMIN_BASE, Lx_ADMIN_BASE_MID, Lx_ADMIN_BASE_HI, Lx_OPER_STATE, Lx_OPER_CYCLE, Lx_OPER_STATE, SWITCHES, REJECTS, GUARD_HOLD_A, GUARD_HOLD_B. -/
def regsGcl : List RegSpec := [
  ⟨0x010, 1, 0x4, 0x00000000, [⟨0, 1, w1c, 32⟩, ⟨1, 1, w1c, 32⟩, ⟨2, 1, w1c, 32⟩, ⟨31, 1, w1c, 32⟩]⟩,
  ⟨0x024, 1, 0x4, 0x00000000, [⟨0, 1, lk, 32⟩, ⟨1, 1, lk, 32⟩]⟩,
  ⟨0x028, 1, 0x4, 0x00000000, [⟨0, 8, rw, 32⟩, ⟨12, 1, rw, 32⟩, ⟨16, 3, rw, 32⟩]⟩,
  ⟨0x02C, 1, 0x4, 0x00000000, [⟨0, 1, rw, 32⟩]⟩,
  ⟨0x030, 1, 0x4, 0x00000000, [⟨0, 32, rw, 32⟩]⟩,
  ⟨0x040, 2, 0x20, 0x00000000, [⟨0, 1, ro, 32⟩, ⟨4, 1, ro, 32⟩, ⟨8, 1, lk, 31⟩, ⟨31, 1, lk, 0⟩]⟩,
  ⟨0x044, 6, 0x20, 0x00000000, [⟨0, 9, lk, 31⟩]⟩,
  ⟨0x048, 6, 0x20, 0x00000000, [⟨0, 32, lk, 31⟩]⟩,
  ⟨0x04C, 6, 0x20, 0x00000000, [⟨0, 30, lk, 31⟩]⟩,
  ⟨0x050, 6, 0x20, 0x00000000, [⟨0, 32, lk, 31⟩]⟩,
  ⟨0x054, 6, 0x20, 0x00000000, [⟨0, 32, lk, 31⟩]⟩,
  ⟨0x058, 2, 0x20, 0xFF000000, [⟨0, 8, ro, 32⟩, ⟨24, 8, ro, 32⟩]⟩,
  ⟨0x05C, 6, 0x20, 0x00000000, [⟨0, 32, ro, 32⟩]⟩,
  ⟨0x080, 4, 0x20, 0x00000000, [⟨0, 1, ro, 32⟩, ⟨4, 1, ro, 32⟩, ⟨8, 1, lk, 31⟩, ⟨31, 1, lk, 1⟩]⟩,
  ⟨0x098, 4, 0x20, 0x0F000000, [⟨0, 8, ro, 32⟩, ⟨24, 8, ro, 32⟩]⟩,
  ⟨0x100, 1, 0x4, 0x00000000, [⟨0, 32, cnt, 32⟩]⟩,
  ⟨0x104, 1, 0x4, 0x00000000, [⟨0, 32, cnt, 32⟩]⟩,
  ⟨0x108, 1, 0x4, 0x00000000, [⟨0, 32, cnt, 32⟩]⟩,
  ⟨0x10C, 1, 0x4, 0x00000000, [⟨0, 32, cnt, 32⟩]⟩]

/-- EMx, page 0x24–0x25: CTRL, STATUS, IRQ_STAT, LOCK, MODE_CFG, FRAME_CFG, VLAN_CFG, RX_QMAP, RX_QCFG, PAUSE_CFG, PAUSE_WDOG, EEE_CFG, MACSEC_CFG, SA_SEL, SA_CFG, SA_PN, RX_SCI, RX_SCI_HI, MDIO_CFG, PTP_Q, MDIO_CMD, MDIO_DATA, TXTS, TXTS1, TXTS2, TXTS3, TXTS4, RX_FRAMES, RX_FCS_ERR, RX_RUNT, RX_OVERSIZE, RX_PAUSE, RX_PAUSE_IGNORED, RX_CTRL_UNK, TX_FRAMES, TX_TRUNC, TX_OVERSIZE, TX_PAUSE, PAUSE_WDOG_TRIPS, LPI_ENTRIES. -/
def regsEm1 : List RegSpec := [
  ⟨0x008, 1, 0x4, 0x00000000, [⟨0, 1, rw, 32⟩, ⟨1, 1, rw, 32⟩]⟩,
  ⟨0x00C, 1, 0x4, 0x00000000, [⟨0, 4, ro, 32⟩, ⟨4, 1, ro, 32⟩, ⟨5, 1, ro, 32⟩, ⟨6, 1, ro, 32⟩, ⟨7, 1, ro, 32⟩, ⟨8, 1, ro, 32⟩, ⟨9, 1, ro, 32⟩, ⟨10, 1, ro, 32⟩]⟩,
  ⟨0x010, 1, 0x4, 0x00000000, [⟨0, 1, w1c, 32⟩, ⟨1, 1, w1c, 32⟩, ⟨2, 1, w1c, 32⟩, ⟨3, 1, w1c, 32⟩, ⟨4, 1, w1c, 32⟩, ⟨5, 1, w1c, 32⟩, ⟨6, 1, w1c, 32⟩, ⟨7, 1, w1c, 32⟩, ⟨31, 1, w1c, 32⟩]⟩,
  ⟨0x024, 1, 0x4, 0x00000000, [⟨0, 1, lk, 32⟩, ⟨1, 1, lk, 32⟩, ⟨2, 1, lk, 32⟩]⟩,
  ⟨0x028, 1, 0x4, 0x00000010, [⟨0, 2, lk, 0⟩, ⟨4, 1, lk, 0⟩]⟩,
  ⟨0x02C, 1, 0x4, 0x000005F2, [⟨0, 14, lk, 0⟩, ⟨16, 1, lk, 0⟩, ⟨17, 1, lk, 0⟩]⟩,
  ⟨0x030, 1, 0x4, 0x88A80001, [⟨0, 12, lk, 0⟩, ⟨12, 1, lk, 0⟩, ⟨13, 1, lk, 0⟩, ⟨14, 1, lk, 0⟩, ⟨15, 1, lk, 0⟩, ⟨16, 16, lk, 0⟩]⟩,
  ⟨0x034, 1, 0x4, 0x76543210, [⟨0, 4, lk, 0⟩, ⟨4, 4, lk, 0⟩, ⟨8, 4, lk, 0⟩, ⟨12, 4, lk, 0⟩, ⟨16, 4, lk, 0⟩, ⟨20, 4, lk, 0⟩, ⟨24, 4, lk, 0⟩, ⟨28, 4, lk, 0⟩]⟩,
  ⟨0x038, 1, 0x4, 0x00000000, [⟨0, 12, lk, 0⟩, ⟨16, 12, lk, 0⟩, ⟨28, 4, lk, 0⟩]⟩,
  ⟨0x03C, 1, 0x4, 0xFFFF0001, [⟨0, 1, lk, 0⟩, ⟨1, 1, lk, 0⟩, ⟨16, 16, lk, 0⟩]⟩,
  ⟨0x040, 1, 0x4, 0x01F40032, [⟨0, 16, lk, 0⟩, ⟨16, 16, lk, 0⟩]⟩,
  ⟨0x044, 1, 0x4, 0x00640011, [⟨0, 10, rw, 32⟩, ⟨16, 10, rw, 32⟩, ⟨31, 1, rw, 32⟩]⟩,
  ⟨0x048, 1, 0x4, 0x22000000, [⟨0, 8, lk, 1⟩, ⟨8, 2, lk, 1⟩, ⟨10, 2, lk, 1⟩, ⟨12, 1, lk, 1⟩, ⟨25, 1, lk, 1⟩, ⟨26, 2, lk, 1⟩, ⟨28, 2, lk, 1⟩, ⟨30, 1, lk, 1⟩, ⟨31, 1, lk, 1⟩]⟩,
  ⟨0x04C, 1, 0x4, 0x00000000, [⟨0, 2, rw, 32⟩, ⟨4, 2, rw, 32⟩, ⟨8, 1, rw, 32⟩]⟩,
  ⟨0x050, 1, 0x4, 0x00000000, [⟨0, 9, rw, 32⟩, ⟨31, 1, rw, 32⟩]⟩,
  ⟨0x054, 1, 0x4, 0x00000001, [⟨0, 32, rw, 32⟩]⟩,
  ⟨0x058, 1, 0x4, 0x00000000, [⟨0, 32, rw, 32⟩]⟩,
  ⟨0x05C, 1, 0x4, 0x00000000, [⟨0, 32, rw, 32⟩]⟩,
  ⟨0x060, 1, 0x4, 0x00000031, [⟨0, 8, rw, 32⟩]⟩,
  ⟨0x064, 1, 0x4, 0x00000000, [⟨0, 12, lk, 0⟩]⟩,
  ⟨0x068, 1, 0x4, 0x00000000, [⟨0, 16, rw, 32⟩, ⟨16, 5, rw, 32⟩, ⟨21, 5, rw, 32⟩, ⟨28, 2, rw, 32⟩, ⟨30, 1, rw, 32⟩, ⟨31, 1, go, 32⟩]⟩,
  ⟨0x06C, 1, 0x4, 0x00000000, [⟨0, 16, ro, 32⟩, ⟨31, 1, ro, 32⟩]⟩,
  ⟨0x070, 1, 0x4, 0x00000000, [⟨0, 16, ro, 32⟩, ⟨20, 4, ro, 32⟩, ⟨31, 1, ro, 32⟩]⟩,
  ⟨0x074, 1, 0x4, 0x00000000, [⟨0, 32, ro, 32⟩]⟩,
  ⟨0x078, 1, 0x4, 0x00000000, [⟨0, 32, ro, 32⟩]⟩,
  ⟨0x07C, 1, 0x4, 0x00000000, [⟨0, 32, ro, 32⟩]⟩,
  ⟨0x080, 1, 0x4, 0x00000000, [⟨0, 32, ro, 32⟩]⟩,
  ⟨0x090, 1, 0x4, 0x00000000, [⟨0, 32, cnt, 32⟩]⟩,
  ⟨0x094, 1, 0x4, 0x00000000, [⟨0, 32, cnt, 32⟩]⟩,
  ⟨0x098, 1, 0x4, 0x00000000, [⟨0, 32, cnt, 32⟩]⟩,
  ⟨0x09C, 1, 0x4, 0x00000000, [⟨0, 32, cnt, 32⟩]⟩,
  ⟨0x0A0, 1, 0x4, 0x00000000, [⟨0, 32, cnt, 32⟩]⟩,
  ⟨0x0A4, 1, 0x4, 0x00000000, [⟨0, 32, cnt, 32⟩]⟩,
  ⟨0x0A8, 1, 0x4, 0x00000000, [⟨0, 32, cnt, 32⟩]⟩,
  ⟨0x0AC, 1, 0x4, 0x00000000, [⟨0, 32, cnt, 32⟩]⟩,
  ⟨0x0B0, 1, 0x4, 0x00000000, [⟨0, 32, cnt, 32⟩]⟩,
  ⟨0x0B4, 1, 0x4, 0x00000000, [⟨0, 32, cnt, 32⟩]⟩,
  ⟨0x0B8, 1, 0x4, 0x00000000, [⟨0, 32, cnt, 32⟩]⟩,
  ⟨0x0BC, 1, 0x4, 0x00000000, [⟨0, 32, cnt, 32⟩]⟩,
  ⟨0x0C0, 1, 0x4, 0x00000000, [⟨0, 32, cnt, 32⟩]⟩]

/-- EMx, page 0x24–0x25: PTP_NO_1STEP, TXTS_LOST, MACSEC_RX_NOSA, MACSEC_RX_BAD, MACSEC_RX_REPLAY, TUN_DROPS, TUN_CFG, TUN_QS, TUN_HDRi, TUN_OUTQ. -/
def regsEm2 : List RegSpec := [
  ⟨0x0C4, 1, 0x4, 0x00000000, [⟨0, 32, cnt, 32⟩]⟩,
  ⟨0x0C8, 1, 0x4, 0x00000000, [⟨0, 32, cnt, 32⟩]⟩,
  ⟨0x0CC, 1, 0x4, 0x00000000, [⟨0, 32, cnt, 32⟩]⟩,
  ⟨0x0D0, 1, 0x4, 0x00000000, [⟨0, 32, cnt, 32⟩]⟩,
  ⟨0x0D4, 1, 0x4, 0x00000000, [⟨0, 32, cnt, 32⟩]⟩,
  ⟨0x0D8, 1, 0x4, 0x00000000, [⟨0, 32, cnt, 32⟩]⟩,
  ⟨0x0E0, 1, 0x4, 0x00000000, [⟨0, 16, lk, 2⟩, ⟨16, 9, lk, 2⟩, ⟨31, 1, lk, 2⟩]⟩,
  ⟨0x0E4, 1, 0x4, 0x00000000, [⟨0, 8, lk, 2⟩, ⟨8, 12, lk, 2⟩, ⟨20, 12, lk, 2⟩]⟩,
  ⟨0x0E8, 11, 0x4, 0x00000000, [⟨0, 32, lk, 2⟩]⟩,
  ⟨0x114, 1, 0x4, 0x00000000, [⟨0, 12, lk, 2⟩]⟩]

/-- DTM, page 0x26: CTRL, STATUS, IRQ_STAT, LOCK, SRC_CFG, JUMP_THRESH, SERVO_CFG, HOLD_CFG, PTP_CFG, PTP_TXQ, CLOCK_ID, CLOCK_ID_HI, PORT_DELAYx, INC, INC_HI, ADJ_PHASE, TIME, TIME1, TIME2, TIME3, LAST_OFFSET, MASTER_ID, MASTER_ID_HI, MASTER_PORT, PPS_OUT_CFG, PPS_IN_CFG, PPS_TS, PPS_TS1, PPS_TS2, PPS_TS3, REFUSED_JUMPS, STEPS, FORCED_STEPS, PPS_IN_EDGES, PPS_OUTLIERS, PPS_TS_OVERRUN, SYNC_RX, ANN_TIMEOUTS, MASTER_CHANGES. -/
def regsDtm : List RegSpec := [
  ⟨0x008, 1, 0x4, 0x00000000, [⟨0, 1, rw, 32⟩]⟩,
  ⟨0x00C, 1, 0x4, 0x00000000, [⟨0, 3, ro, 32⟩, ⟨4, 3, ro, 32⟩, ⟨8, 1, ro, 32⟩, ⟨9, 1, ro, 32⟩, ⟨10, 2, ro, 32⟩, ⟨12, 1, ro, 32⟩]⟩,
  ⟨0x010, 1, 0x4, 0x00000000, [⟨0, 1, w1c, 32⟩, ⟨1, 1, w1c, 32⟩, ⟨2, 1, w1c, 32⟩, ⟨3, 1, w1c, 32⟩, ⟨4, 1, w1c, 32⟩, ⟨5, 1, w1c, 32⟩, ⟨6, 1, w1c, 32⟩, ⟨31, 1, w1c, 32⟩]⟩,
  ⟨0x024, 1, 0x4, 0x00000000, [⟨0, 1, lk, 32⟩, ⟨1, 1, lk, 32⟩]⟩,
  ⟨0x028, 1, 0x4, 0x00000000, [⟨0, 3, lk, 0⟩]⟩,
  ⟨0x02C, 1, 0x4, 0x000F4240, [⟨0, 30, lk, 0⟩]⟩,
  ⟨0x030, 1, 0x4, 0x006464C8, [⟨0, 8, lk, 0⟩, ⟨8, 8, lk, 0⟩, ⟨16, 16, lk, 0⟩]⟩,
  ⟨0x034, 1, 0x4, 0x00000258, [⟨0, 16, lk, 0⟩]⟩,
  ⟨0x038, 1, 0x4, 0x00230000, [⟨8, 8, lk, 0⟩, ⟨16, 4, lk, 0⟩, ⟨21, 1, lk, 0⟩, ⟨22, 1, lk, 0⟩, ⟨23, 1, lk, 0⟩, ⟨24, 8, lk, 0⟩]⟩,
  ⟨0x03C, 1, 0x4, 0x00000000, [⟨0, 12, lk, 0⟩, ⟨16, 12, lk, 0⟩]⟩,
  ⟨0x040, 1, 0x4, 0x00000000, [⟨0, 32, lk, 0⟩]⟩,
  ⟨0x044, 1, 0x4, 0x00000000, [⟨0, 32, lk, 0⟩]⟩,
  ⟨0x048, 2, 0x4, 0x00000000, [⟨0, 16, lk, 0⟩, ⟨16, 16, lk, 0⟩]⟩,
  ⟨0x050, 1, 0x4, 0x00000000, [⟨0, 32, rw, 32⟩]⟩,
  ⟨0x054, 1, 0x4, 0x00000004, [⟨0, 32, rw, 32⟩]⟩,
  ⟨0x058, 1, 0x4, 0x00000000, [⟨0, 32, rw, 32⟩]⟩,
  ⟨0x060, 1, 0x4, 0x00000000, [⟨0, 32, ro, 32⟩]⟩,
  ⟨0x064, 1, 0x4, 0x00000000, [⟨0, 30, ro, 32⟩]⟩,
  ⟨0x068, 1, 0x4, 0x00000000, [⟨0, 32, ro, 32⟩]⟩,
  ⟨0x06C, 1, 0x4, 0x00000000, [⟨0, 32, ro, 32⟩]⟩,
  ⟨0x070, 1, 0x4, 0x00000000, [⟨0, 32, ro, 32⟩]⟩,
  ⟨0x074, 1, 0x4, 0x00000000, [⟨0, 32, ro, 32⟩]⟩,
  ⟨0x078, 1, 0x4, 0x00000000, [⟨0, 32, ro, 32⟩]⟩,
  ⟨0x07C, 1, 0x4, 0x00000000, [⟨0, 16, ro, 32⟩, ⟨16, 1, ro, 32⟩]⟩,
  ⟨0x080, 1, 0x4, 0x60640000, [⟨0, 16, lk, 1⟩, ⟨16, 8, lk, 1⟩, ⟨29, 1, lk, 1⟩, ⟨30, 1, lk, 1⟩, ⟨31, 1, lk, 1⟩]⟩,
  ⟨0x084, 1, 0x4, 0xC00003E8, [⟨0, 16, lk, 1⟩, ⟨29, 1, lk, 1⟩, ⟨30, 1, lk, 1⟩, ⟨31, 1, lk, 1⟩]⟩,
  ⟨0x088, 1, 0x4, 0x00000000, [⟨31, 1, ro, 32⟩]⟩,
  ⟨0x08C, 1, 0x4, 0x00000000, [⟨0, 32, ro, 32⟩]⟩,
  ⟨0x090, 1, 0x4, 0x00000000, [⟨0, 32, ro, 32⟩]⟩,
  ⟨0x094, 1, 0x4, 0x00000000, [⟨0, 32, ro, 32⟩]⟩,
  ⟨0x0A0, 1, 0x4, 0x00000000, [⟨0, 32, cnt, 32⟩]⟩,
  ⟨0x0A4, 1, 0x4, 0x00000000, [⟨0, 32, cnt, 32⟩]⟩,
  ⟨0x0A8, 1, 0x4, 0x00000000, [⟨0, 32, cnt, 32⟩]⟩,
  ⟨0x0AC, 1, 0x4, 0x00000000, [⟨0, 32, cnt, 32⟩]⟩,
  ⟨0x0B0, 1, 0x4, 0x00000000, [⟨0, 32, cnt, 32⟩]⟩,
  ⟨0x0B4, 1, 0x4, 0x00000000, [⟨0, 32, cnt, 32⟩]⟩,
  ⟨0x0B8, 1, 0x4, 0x00000000, [⟨0, 32, cnt, 32⟩]⟩,
  ⟨0x0BC, 1, 0x4, 0x00000000, [⟨0, 32, cnt, 32⟩]⟩,
  ⟨0x0C0, 1, 0x4, 0x00000000, [⟨0, 32, cnt, 32⟩]⟩]

/-- KSU, page 0x28: CTRL, STATUS, IRQ_STAT, LOCK, SLOT_SEL, SLOT_INFO, SLOT_EPOCH, SLOT_KCV, SLOT_KCV_HI, CNT_A, CNT_B, FIRST_BAD, MAX_EPOCH, TAG_FAILS, DENIED, COMMITS, ZEROISATIONS. -/
def regsKsu : List RegSpec := [
  ⟨0x008, 1, 0x4, 0x00000001, [⟨0, 1, rw, 32⟩]⟩,
  ⟨0x00C, 1, 0x4, 0x00000000, [⟨0, 1, ro, 32⟩, ⟨1, 1, ro, 32⟩, ⟨2, 1, ro, 32⟩, ⟨3, 1, ro, 32⟩]⟩,
  ⟨0x010, 1, 0x4, 0x00000000, [⟨0, 1, w1c, 32⟩, ⟨1, 1, w1c, 32⟩, ⟨2, 1, w1c, 32⟩, ⟨3, 1, w1c, 32⟩, ⟨4, 1, w1c, 32⟩, ⟨31, 1, w1c, 32⟩]⟩,
  ⟨0x024, 1, 0x4, 0x00000000, [⟨0, 32, lk, 32⟩]⟩,
  ⟨0x028, 1, 0x4, 0x00000000, [⟨0, 9, rw, 32⟩]⟩,
  ⟨0x02C, 1, 0x4, 0x00000000, [⟨0, 16, ro, 32⟩, ⟨24, 1, ro, 32⟩, ⟨28, 2, ro, 32⟩, ⟨31, 1, ro, 32⟩]⟩,
  ⟨0x030, 1, 0x4, 0x00000000, [⟨0, 32, ro, 32⟩]⟩,
  ⟨0x034, 1, 0x4, 0x00000000, [⟨0, 32, ro, 32⟩]⟩,
  ⟨0x038, 1, 0x4, 0x00000000, [⟨0, 32, ro, 32⟩]⟩,
  ⟨0x03C, 1, 0x4, 0x00000000, [⟨0, 10, ro, 32⟩, ⟨16, 10, ro, 32⟩]⟩,
  ⟨0x040, 1, 0x4, 0x00000000, [⟨0, 10, ro, 32⟩, ⟨16, 10, ro, 32⟩]⟩,
  ⟨0x044, 1, 0x4, 0x0000FFFF, [⟨0, 16, ro, 32⟩]⟩,
  ⟨0x048, 1, 0x4, 0x00000000, [⟨0, 32, ro, 32⟩]⟩,
  ⟨0x04C, 1, 0x4, 0x00000000, [⟨0, 32, cnt, 32⟩]⟩,
  ⟨0x050, 1, 0x4, 0x00000000, [⟨0, 32, cnt, 32⟩]⟩,
  ⟨0x054, 1, 0x4, 0x00000000, [⟨0, 32, cnt, 32⟩]⟩,
  ⟨0x058, 1, 0x4, 0x00000000, [⟨0, 32, cnt, 32⟩]⟩]

/-- CRY, page 0x29: CTRL, STATUS, IRQ_STAT, LOCK, JOB_CTRL, JOB_KEY, JOB_ATTR, JOB_EPOCH, JOB_LEN, JOB_DATA, JOB_INi, JOB_RES, JOB_RES1, JOB_RES2, JOB_RES3, JOB_RES4, JOB_RES5, JOB_RES6, JOB_RES7, JOB_RES8, JOB_RES9, JOB_RES10, JOB_RES11, JOB_RES12, JOB_RES13, JOB_RES14, JOB_RES15, JOB_RES16, CCM_OPS, CCM_FAIL, GCM_OPS, GCM_FAIL, PKE_OPS, JOBS_REFUSED. -/
def regsCry : List RegSpec := [
  ⟨0x008, 1, 0x4, 0x00000001, [⟨0, 1, lk, 0⟩]⟩,
  ⟨0x00C, 1, 0x4, 0x00000000, [⟨0, 1, ro, 32⟩, ⟨4, 1, ro, 32⟩]⟩,
  ⟨0x010, 1, 0x4, 0x00000000, [⟨0, 1, w1c, 32⟩, ⟨1, 1, w1c, 32⟩, ⟨31, 1, w1c, 32⟩]⟩,
  ⟨0x024, 1, 0x4, 0x00000000, [⟨0, 1, lk, 32⟩]⟩,
  ⟨0x028, 1, 0x4, 0x00000000, [⟨0, 1, go, 32⟩, ⟨8, 4, rw, 32⟩]⟩,
  ⟨0x02C, 1, 0x4, 0x00000000, [⟨0, 10, rw, 32⟩, ⟨16, 10, rw, 32⟩]⟩,
  ⟨0x030, 1, 0x4, 0x00000000, [⟨0, 32, rw, 32⟩]⟩,
  ⟨0x034, 1, 0x4, 0x00000000, [⟨0, 32, rw, 32⟩]⟩,
  ⟨0x038, 1, 0x4, 0x00000000, [⟨0, 24, rw, 32⟩]⟩,
  ⟨0x03C, 1, 0x4, 0x00000000, [⟨0, 32, wo, 32⟩]⟩,
  ⟨0x040, 40, 0x4, 0x00000000, [⟨0, 32, rw, 32⟩]⟩,
  ⟨0x100, 1, 0x4, 0x00000000, [⟨0, 8, ro, 32⟩, ⟨8, 8, ro, 32⟩, ⟨31, 1, ro, 32⟩]⟩,
  ⟨0x104, 1, 0x4, 0x00000000, [⟨0, 32, ro, 32⟩]⟩,
  ⟨0x108, 1, 0x4, 0x00000000, [⟨0, 32, ro, 32⟩]⟩,
  ⟨0x10C, 1, 0x4, 0x00000000, [⟨0, 32, ro, 32⟩]⟩,
  ⟨0x110, 1, 0x4, 0x00000000, [⟨0, 32, ro, 32⟩]⟩,
  ⟨0x114, 1, 0x4, 0x00000000, [⟨0, 32, ro, 32⟩]⟩,
  ⟨0x118, 1, 0x4, 0x00000000, [⟨0, 32, ro, 32⟩]⟩,
  ⟨0x11C, 1, 0x4, 0x00000000, [⟨0, 32, ro, 32⟩]⟩,
  ⟨0x120, 1, 0x4, 0x00000000, [⟨0, 32, ro, 32⟩]⟩,
  ⟨0x124, 1, 0x4, 0x00000000, [⟨0, 32, ro, 32⟩]⟩,
  ⟨0x128, 1, 0x4, 0x00000000, [⟨0, 32, ro, 32⟩]⟩,
  ⟨0x12C, 1, 0x4, 0x00000000, [⟨0, 32, ro, 32⟩]⟩,
  ⟨0x130, 1, 0x4, 0x00000000, [⟨0, 32, ro, 32⟩]⟩,
  ⟨0x134, 1, 0x4, 0x00000000, [⟨0, 32, ro, 32⟩]⟩,
  ⟨0x138, 1, 0x4, 0x00000000, [⟨0, 32, ro, 32⟩]⟩,
  ⟨0x13C, 1, 0x4, 0x00000000, [⟨0, 32, ro, 32⟩]⟩,
  ⟨0x140, 1, 0x4, 0x00000000, [⟨0, 32, ro, 32⟩]⟩,
  ⟨0x150, 1, 0x4, 0x00000000, [⟨0, 32, cnt, 32⟩]⟩,
  ⟨0x154, 1, 0x4, 0x00000000, [⟨0, 32, cnt, 32⟩]⟩,
  ⟨0x158, 1, 0x4, 0x00000000, [⟨0, 32, cnt, 32⟩]⟩,
  ⟨0x15C, 1, 0x4, 0x00000000, [⟨0, 32, cnt, 32⟩]⟩,
  ⟨0x160, 1, 0x4, 0x00000000, [⟨0, 32, cnt, 32⟩]⟩,
  ⟨0x164, 1, 0x4, 0x00000000, [⟨0, 32, cnt, 32⟩]⟩]

/-- TRNG, page 0x2A: CTRL, STATUS, IRQ_STAT, LOCK, HEALTH_CFG, RAW, RCT_FAILS, APT_FAILS, RESEEDS, GENERATES. -/
def regsTrng : List RegSpec := [
  ⟨0x008, 1, 0x4, 0x00000000, [⟨0, 1, go, 32⟩]⟩,
  ⟨0x00C, 1, 0x4, 0x00000000, [⟨0, 1, ro, 32⟩, ⟨1, 1, ro, 32⟩, ⟨2, 1, ro, 32⟩]⟩,
  ⟨0x010, 1, 0x4, 0x00000000, [⟨0, 1, w1c, 32⟩, ⟨1, 1, w1c, 32⟩, ⟨31, 1, w1c, 32⟩]⟩,
  ⟨0x024, 1, 0x4, 0x00000000, [⟨0, 1, lk, 32⟩]⟩,
  ⟨0x028, 1, 0x4, 0x019A0029, [⟨0, 16, lk, 0⟩, ⟨16, 16, lk, 0⟩]⟩,
  ⟨0x040, 1, 0x4, 0x00000000, [⟨0, 8, ro, 32⟩, ⟨31, 1, ro, 32⟩]⟩,
  ⟨0x050, 1, 0x4, 0x00000000, [⟨0, 32, cnt, 32⟩]⟩,
  ⟨0x054, 1, 0x4, 0x00000000, [⟨0, 32, cnt, 32⟩]⟩,
  ⟨0x058, 1, 0x4, 0x00000000, [⟨0, 32, cnt, 32⟩]⟩,
  ⟨0x05C, 1, 0x4, 0x00000000, [⟨0, 32, cnt, 32⟩]⟩]

/-- MEM, page 0x30: CTRL, STATUS, IRQ_STAT, LOCK, SCRUB_CFG, CE_CFG, SCRUB_POS, SCRUB_PASSES, SCRUB_LAST_S, ERR_LOG, ERR_LOG1, ERR_LOG2, ERR_LOG3, ERR_LOG4, DRAM_CE, DRAM_UE, SRAM_CE, SRAM_UE, LOG_LOST, LATE_SUCCESS, PARCEL_RESETS, REGION_CEr. -/
def regsMem : List RegSpec := [
  ⟨0x008, 1, 0x4, 0x00000003, [⟨0, 1, rw, 32⟩, ⟨1, 1, rw, 32⟩]⟩,
  ⟨0x00C, 1, 0x4, 0x00000000, [⟨0, 1, ro, 32⟩, ⟨1, 1, ro, 32⟩, ⟨2, 1, ro, 32⟩]⟩,
  ⟨0x010, 1, 0x4, 0x00000000, [⟨0, 1, w1c, 32⟩, ⟨1, 1, w1c, 32⟩, ⟨2, 1, w1c, 32⟩, ⟨3, 1, w1c, 32⟩, ⟨4, 1, w1c, 32⟩, ⟨5, 1, w1c, 32⟩, ⟨6, 1, w1c, 32⟩, ⟨7, 1, w1c, 32⟩, ⟨31, 1, w1c, 32⟩]⟩,
  ⟨0x024, 1, 0x4, 0x00000000, [⟨0, 1, lk, 32⟩]⟩,
  ⟨0x028, 1, 0x4, 0x00000018, [⟨0, 5, ro, 32⟩]⟩,
  ⟨0x02C, 1, 0x4, 0x0000003C, [⟨0, 16, lk, 0⟩]⟩,
  ⟨0x030, 1, 0x4, 0x00000000, [⟨0, 23, ro, 32⟩]⟩,
  ⟨0x034, 1, 0x4, 0x00000000, [⟨0, 32, cnt, 32⟩]⟩,
  ⟨0x038, 1, 0x4, 0x00000000, [⟨0, 32, ro, 32⟩]⟩,
  ⟨0x040, 1, 0x4, 0x00000000, [⟨0, 7, ro, 32⟩, ⟨12, 8, ro, 32⟩, ⟨20, 4, ro, 32⟩, ⟨24, 4, ro, 32⟩, ⟨29, 1, ro, 32⟩, ⟨30, 1, ro, 32⟩, ⟨31, 1, ro, 32⟩]⟩,
  ⟨0x044, 1, 0x4, 0x00000000, [⟨0, 32, ro, 32⟩]⟩,
  ⟨0x048, 1, 0x4, 0x00000000, [⟨0, 16, ro, 32⟩]⟩,
  ⟨0x04C, 1, 0x4, 0x00000000, [⟨0, 32, ro, 32⟩]⟩,
  ⟨0x050, 1, 0x4, 0x00000000, [⟨0, 30, ro, 32⟩]⟩,
  ⟨0x060, 1, 0x4, 0x00000000, [⟨0, 32, cnt, 32⟩]⟩,
  ⟨0x064, 1, 0x4, 0x00000000, [⟨0, 32, cnt, 32⟩]⟩,
  ⟨0x068, 1, 0x4, 0x00000000, [⟨0, 32, cnt, 32⟩]⟩,
  ⟨0x06C, 1, 0x4, 0x00000000, [⟨0, 32, cnt, 32⟩]⟩,
  ⟨0x070, 1, 0x4, 0x00000000, [⟨0, 32, cnt, 32⟩]⟩,
  ⟨0x074, 1, 0x4, 0x00000000, [⟨0, 32, cnt, 32⟩]⟩,
  ⟨0x078, 1, 0x4, 0x00000000, [⟨0, 32, cnt, 32⟩]⟩,
  ⟨0x080, 7, 0x4, 0x00000000, [⟨0, 32, cnt, 32⟩]⟩]

/-- RED, page 0x31: CTRL, STATUS, IRQ_STAT, LOCK, CFG, TKO_CFG, OWN_ID, OWN_ID_HI, PARTNER_ID, PARTNER_ID_HI, LINK_RTT_NS, DATUM_ERR, SYNC_PROGRESS, LAST_TKO, ITEMS_TX, ITEMS_RX, RETRANS, LINK_DOWNS, TAKEOVERS, TKO_FAILS, ILK_ABORTS, MIRROR_LATE, BCN_MISSES, ILK_CONFLICTS. -/
def regsRed : List RegSpec := [
  ⟨0x008, 1, 0x4, 0x00000000, [⟨0, 1, lk, 0⟩, ⟨8, 1, go, 32⟩]⟩,
  ⟨0x00C, 1, 0x4, 0x00000000, [⟨0, 2, ro, 32⟩, ⟨4, 3, ro, 32⟩, ⟨9, 1, ro, 32⟩, ⟨10, 1, ro, 32⟩, ⟨11, 1, ro, 32⟩, ⟨12, 1, ro, 32⟩, ⟨13, 1, ro, 32⟩]⟩,
  ⟨0x010, 1, 0x4, 0x00000000, [⟨0, 1, w1c, 32⟩, ⟨1, 1, w1c, 32⟩, ⟨2, 1, w1c, 32⟩, ⟨3, 1, w1c, 32⟩, ⟨4, 1, w1c, 32⟩, ⟨5, 1, w1c, 32⟩, ⟨6, 1, w1c, 32⟩, ⟨31, 1, w1c, 32⟩]⟩,
  ⟨0x024, 1, 0x4, 0x00000000, [⟨0, 1, lk, 32⟩]⟩,
  ⟨0x028, 1, 0x4, 0x80100000, [⟨0, 9, lk, 0⟩, ⟨20, 1, lk, 0⟩, ⟨24, 8, lk, 0⟩]⟩,
  ⟨0x02C, 1, 0x4, 0x140A80FA, [⟨0, 15, lk, 0⟩, ⟨15, 1, lk, 0⟩, ⟨16, 8, lk, 0⟩, ⟨24, 8, lk, 0⟩]⟩,
  ⟨0x040, 1, 0x4, 0x00000000, [⟨0, 32, ro, 32⟩]⟩,
  ⟨0x044, 1, 0x4, 0x00000000, [⟨0, 32, ro, 32⟩]⟩,
  ⟨0x048, 1, 0x4, 0x00000000, [⟨0, 32, ro, 32⟩]⟩,
  ⟨0x04C, 1, 0x4, 0x00000000, [⟨0, 32, ro, 32⟩]⟩,
  ⟨0x050, 1, 0x4, 0x00000000, [⟨0, 16, ro, 32⟩]⟩,
  ⟨0x054, 1, 0x4, 0x00000000, [⟨0, 32, ro, 32⟩]⟩,
  ⟨0x058, 1, 0x4, 0x00000000, [⟨0, 7, ro, 32⟩]⟩,
  ⟨0x05C, 1, 0x4, 0x00000000, [⟨0, 16, ro, 32⟩, ⟨16, 8, ro, 32⟩, ⟨24, 8, ro, 32⟩]⟩,
  ⟨0x060, 1, 0x4, 0x00000000, [⟨0, 32, cnt, 32⟩]⟩,
  ⟨0x064, 1, 0x4, 0x00000000, [⟨0, 32, cnt, 32⟩]⟩,
  ⟨0x068, 1, 0x4, 0x00000000, [⟨0, 32, cnt, 32⟩]⟩,
  ⟨0x06C, 1, 0x4, 0x00000000, [⟨0, 32, cnt, 32⟩]⟩,
  ⟨0x070, 1, 0x4, 0x00000000, [⟨0, 32, cnt, 32⟩]⟩,
  ⟨0x074, 1, 0x4, 0x00000000, [⟨0, 32, cnt, 32⟩]⟩,
  ⟨0x078, 1, 0x4, 0x00000000, [⟨0, 32, cnt, 32⟩]⟩,
  ⟨0x07C, 1, 0x4, 0x00000000, [⟨0, 32, cnt, 32⟩]⟩,
  ⟨0x080, 1, 0x4, 0x00000000, [⟨0, 32, cnt, 32⟩]⟩,
  ⟨0x084, 1, 0x4, 0x00000000, [⟨0, 32, cnt, 32⟩]⟩]

/-- COX, page 0x32: CTRL, STATUS, IRQ_STAT, LOCK, HEAT_CFG, FAB_CFG, OVR_IRQ_EN, THROTTLED, OVR_NONZERO, ACCTa_CFG, ACCTa_CFG, ACCTa_CFG, ACCTa_CFG, ACCTa_CFG, ACCTa_CFG, ACCTa_CFG, ACCTa_CFG, ACCTa_CFG, ACCTa_STAT, ACCTa_OVR. -/
def regsCox : List RegSpec := [
  ⟨0x008, 1, 0x4, 0x00000001, [⟨0, 1, lk, 0⟩]⟩,
  ⟨0x00C, 1, 0x4, 0x000001F4, [⟨0, 14, ro, 32⟩, ⟨16, 1, ro, 32⟩]⟩,
  ⟨0x010, 1, 0x4, 0x00000000, [⟨0, 1, w1c, 32⟩, ⟨1, 1, w1c, 32⟩, ⟨2, 1, w1c, 32⟩, ⟨31, 1, w1c, 32⟩]⟩,
  ⟨0x024, 1, 0x4, 0x00000000, [⟨0, 1, lk, 32⟩, ⟨1, 1, lk, 32⟩]⟩,
  ⟨0x028, 1, 0x4, 0x000001F4, [⟨0, 14, lk, 0⟩]⟩,
  ⟨0x02C, 1, 0x4, 0x00000300, [⟨0, 11, lk, 0⟩]⟩,
  ⟨0x030, 1, 0x4, 0x00000000, [⟨0, 32, rw, 32⟩]⟩,
  ⟨0x034, 1, 0x4, 0x00000000, [⟨0, 32, ro, 32⟩]⟩,
  ⟨0x038, 1, 0x4, 0x00000000, [⟨0, 32, ro, 32⟩]⟩,
  ⟨0x040, 16, 0x4, 0x04000400, [⟨0, 11, lk, 1⟩, ⟨16, 11, ro, 32⟩]⟩,
  ⟨0x080, 1, 0x4, 0x00400040, [⟨0, 11, lk, 1⟩, ⟨16, 11, ro, 32⟩]⟩,
  ⟨0x084, 1, 0x4, 0x00200020, [⟨0, 11, lk, 1⟩, ⟨16, 11, ro, 32⟩]⟩,
  ⟨0x088, 2, 0x4, 0x01000100, [⟨0, 11, lk, 1⟩, ⟨16, 11, ro, 32⟩]⟩,
  ⟨0x090, 1, 0x4, 0x00100010, [⟨0, 11, lk, 1⟩, ⟨16, 11, ro, 32⟩]⟩,
  ⟨0x094, 1, 0x4, 0x00200020, [⟨0, 11, lk, 1⟩, ⟨16, 11, ro, 32⟩]⟩,
  ⟨0x098, 1, 0x4, 0x00400040, [⟨0, 11, lk, 1⟩, ⟨16, 11, ro, 32⟩]⟩,
  ⟨0x09C, 1, 0x4, 0x00200020, [⟨0, 11, lk, 1⟩, ⟨16, 11, ro, 32⟩]⟩,
  ⟨0x0A0, 8, 0x4, 0x00000000, [⟨0, 11, lk, 1⟩, ⟨16, 11, ro, 32⟩]⟩,
  ⟨0x0C0, 32, 0x4, 0x00000000, [⟨0, 16, ro, 32⟩, ⟨16, 11, ro, 32⟩, ⟨30, 1, ro, 32⟩, ⟨31, 1, ro, 32⟩]⟩,
  ⟨0x140, 32, 0x4, 0x00000000, [⟨0, 32, cnt, 32⟩]⟩]

/-- MGM, page 0x33: CTRL, STATUS, IRQ_STAT, LOCK, VBOUND, CBOUND, MARGIN_CFG, PLAN_CFG, MAINT_BOUNDS, BG_BOUNDS, PMBUS_CFG, VID_CFG, PLAN_V, MEAS, PMB_STATUS, MARGINS, LIFE, AGE_H, LAST_PLAN_S, KF, PLANS, EMERGENCIES, AVS_ERRORS, RECORDS, TEMPi, PATHi, CANARYi, RETENTION, LOOPBACKn. -/
def regsMgm : List RegSpec := [
  ⟨0x008, 1, 0x4, 0x00000008, [⟨2, 2, lk, 0⟩, ⟨4, 1, lk, 0⟩, ⟨8, 1, go, 32⟩, ⟨9, 1, go, 32⟩]⟩,
  ⟨0x00C, 1, 0x4, 0x00010000, [⟨0, 1, ro, 32⟩, ⟨1, 1, ro, 32⟩, ⟨2, 1, ro, 32⟩, ⟨3, 1, ro, 32⟩, ⟨4, 1, ro, 32⟩, ⟨16, 2, ro, 32⟩, ⟨24, 8, ro, 32⟩]⟩,
  ⟨0x010, 1, 0x4, 0x00000000, [⟨0, 1, w1c, 32⟩, ⟨1, 1, w1c, 32⟩, ⟨2, 1, w1c, 32⟩, ⟨3, 1, w1c, 32⟩, ⟨4, 1, w1c, 32⟩, ⟨5, 1, w1c, 32⟩, ⟨6, 1, w1c, 32⟩, ⟨31, 1, w1c, 32⟩]⟩,
  ⟨0x024, 1, 0x4, 0x00000000, [⟨0, 1, lk, 32⟩, ⟨1, 1, lk, 32⟩]⟩,
  ⟨0x028, 1, 0x4, 0x037002A8, [⟨0, 16, lk, 0⟩, ⟨16, 16, lk, 0⟩]⟩,
  ⟨0x02C, 1, 0x4, 0x03E80320, [⟨0, 16, lk, 0⟩, ⟨16, 16, lk, 0⟩]⟩,
  ⟨0x030, 1, 0x4, 0x280A0F78, [⟨0, 8, lk, 1⟩, ⟨8, 8, lk, 1⟩, ⟨16, 8, lk, 1⟩, ⟨24, 8, lk, 1⟩]⟩,
  ⟨0x034, 1, 0x4, 0x0E10000A, [⟨0, 8, lk, 1⟩, ⟨16, 16, lk, 1⟩]⟩,
  ⟨0x038, 1, 0x4, 0x18011E05, [⟨0, 8, lk, 1⟩, ⟨8, 8, lk, 1⟩, ⟨16, 8, lk, 1⟩, ⟨24, 8, lk, 1⟩]⟩,
  ⟨0x03C, 1, 0x4, 0x0E10003C, [⟨0, 16, lk, 1⟩, ⟨16, 16, lk, 1⟩]⟩,
  ⟨0x040, 1, 0x4, 0x400A140A, [⟨0, 8, lk, 0⟩, ⟨8, 5, lk, 0⟩, ⟨16, 8, lk, 0⟩, ⟨24, 7, lk, 0⟩, ⟨31, 1, lk, 0⟩]⟩,
  ⟨0x044, 1, 0x4, 0x000001F4, [⟨0, 16, lk, 0⟩]⟩,
  ⟨0x048, 1, 0x4, 0x03200000, [⟨0, 16, ro, 32⟩, ⟨16, 16, ro, 32⟩]⟩,
  ⟨0x04C, 1, 0x4, 0x00000000, [⟨0, 16, ro, 32⟩, ⟨16, 16, ro, 32⟩]⟩,
  ⟨0x050, 1, 0x4, 0x00000000, [⟨0, 16, ro, 32⟩]⟩,
  ⟨0x054, 1, 0x4, 0x00000000, [⟨0, 16, ro, 32⟩, ⟨16, 16, ro, 32⟩]⟩,
  ⟨0x058, 1, 0x4, 0x0000FFFF, [⟨0, 16, ro, 32⟩]⟩,
  ⟨0x05C, 1, 0x4, 0x00000000, [⟨0, 32, ro, 32⟩]⟩,
  ⟨0x060, 1, 0x4, 0x00000000, [⟨0, 32, ro, 32⟩]⟩,
  ⟨0x064, 1, 0x4, 0x00000000, [⟨0, 16, ro, 32⟩]⟩,
  ⟨0x068, 1, 0x4, 0x00000000, [⟨0, 32, cnt, 32⟩]⟩,
  ⟨0x06C, 1, 0x4, 0x00000000, [⟨0, 32, cnt, 32⟩]⟩,
  ⟨0x070, 1, 0x4, 0x00000000, [⟨0, 32, cnt, 32⟩]⟩,
  ⟨0x074, 1, 0x4, 0x00000000, [⟨0, 10, ro, 32⟩]⟩,
  ⟨0x080, 12, 0x4, 0x00000000, [⟨0, 8, ro, 32⟩, ⟨31, 1, ro, 32⟩]⟩,
  ⟨0x100, 32, 0x4, 0x00000000, [⟨0, 16, ro, 32⟩, ⟨31, 1, ro, 32⟩]⟩,
  ⟨0x180, 8, 0x4, 0x00000000, [⟨0, 16, ro, 32⟩, ⟨31, 1, ro, 32⟩]⟩,
  ⟨0x1A0, 1, 0x4, 0x00000000, [⟨0, 16, ro, 32⟩, ⟨16, 8, ro, 32⟩, ⟨31, 1, ro, 32⟩]⟩,
  ⟨0x1B0, 4, 0x4, 0x00000000, [⟨0, 16, ro, 32⟩, ⟨16, 15, ro, 32⟩, ⟨31, 1, ro, 32⟩]⟩]

/-- One block of pages: the page of its instance 0, how many instances, `PAGE_CAP.TOP_INDEX`, `PAGE_CAP.IND_DOMAIN`,
`PAGE_CAP.RESULT` (R33, R41 and each chapter's own statement). -/
structure BlockSpec where
  page : Nat
  instances : Nat
  topIndex : Nat
  indDomain : Bool
  result : Bool
  regs : List RegSpec
  deriving DecidableEq, Repr

/-- The implemented pages of R33, part 1. -/
def blocks1 : List BlockSpec := [
  ⟨0x00, 1, 0x17, false, false, regsSys⟩,
  ⟨0x01, 1, 0x19, false, false, regsNvc⟩,
  ⟨0x02, 1, 0x14, true, false, regsAon⟩,
  ⟨0x03, 1, 0x12, false, false, regsWur⟩,
  ⟨0x04, 1, 0x62, false, false, regsHif⟩,
  ⟨0x05, 1, 0x198, true, true, regsCmd⟩,
  ⟨0x06, 1, 0xF, false, false, regsInd⟩,
  ⟨0x07, 1, 0x11, false, false, regsBst⟩,
  ⟨0x10, 4, 0x1A, true, false, regsLrf⟩,
  ⟨0x14, 4, 0x2C, false, false, regsLbb⟩,
  ⟨0x18, 4, 0x1D, true, false, regsLof⟩,
  ⟨0x1C, 1, 0xC3, true, false, regsMac⟩,
  ⟨0x1D, 1, 0x21, false, false, regsRgl⟩,
  ⟨0x1E, 1, 0x23, true, false, regsCad⟩]

/-- The implemented pages of R33, part 2. -/
def blocks2 : List BlockSpec := [
  ⟨0x1F, 1, 0x3C, false, false, regsUpd⟩,
  ⟨0x20, 1, 0x5E, false, false, regsFab⟩,
  ⟨0x21, 1, 0x119, false, true, regsQw⟩,
  ⟨0x22, 1, 0x62, false, false, regsTss⟩,
  ⟨0x23, 1, 0x43, false, false, regsGcl⟩,
  ⟨0x24, 2, 0x120, false, true, regsEm1 ++ regsEm2⟩,
  ⟨0x26, 1, 0x125, false, true, regsDtm⟩,
  ⟨0x28, 1, 0x16, false, false, regsKsu⟩,
  ⟨0x29, 1, 0x150, false, true, regsCry⟩,
  ⟨0x2A, 1, 0x110, false, true, regsTrng⟩,
  ⟨0x30, 1, 0x114, false, true, regsMem⟩,
  ⟨0x31, 1, 0x21, false, false, regsRed⟩,
  ⟨0x32, 1, 0x6F, false, false, regsCox⟩,
  ⟨0x33, 1, 0x6F, false, false, regsMgm⟩,
  ⟨0x40, 16, 0xF, false, false, []⟩]

/-- The implemented pages of R33. -/
def blocks : List BlockSpec := blocks1 ++ blocks2

/-- The block a page belongs to; none for an unimplemented page (R33). -/
def blockOf (page : Nat) : Option BlockSpec :=
  blocks.find? (fun b => b.page ≤ page && page < b.page + b.instances)

/-- Whether page offset `o` is a word of `r`. -/
def RegSpec.covers (r : RegSpec) (o : Nat) : Bool :=
  r.off ≤ o && (o - r.off) % r.stride == 0 && (o - r.off) / r.stride < r.count

/-- The common header (R41) without the registers a block defines itself: `IRQ_STAT.ERR`, `IRQ_EN`, `IRQ_FORCE`,
`ERR_CAP`, `ERR_ADDR`. `PAGE_ID` and `PAGE_CAP` are read-only and computed when they are read. -/
def regsHeader : List RegSpec := [
  ⟨0x000, 1, 4, 0, [⟨0, 32, ro, 32⟩]⟩,
  ⟨0x004, 1, 4, 0, [⟨0, 32, ro, 32⟩]⟩,
  ⟨0x010, 1, 4, 0, [⟨31, 1, w1c, 32⟩]⟩,
  ⟨0x014, 1, 4, 0, [⟨0, 32, rw, 32⟩]⟩,
  ⟨0x018, 1, 4, 0, [⟨0, 32, wo, 32⟩]⟩,
  ⟨0x01C, 1, 4, 0, [⟨0, 8, ro, 32⟩, ⟨8, 8, ro, 32⟩, ⟨24, 7, cnt, 32⟩, ⟨31, 1, w1c, 32⟩]⟩,
  ⟨0x020, 1, 4, 0, [⟨0, 32, ro, 32⟩]⟩]

/-- The specification of the word at register address `a` (page × 0x1000 + offset), none where no table lists one. The
engine pages use no header register (R751). -/
def specOf (a : Nat) : Option RegSpec :=
  match blockOf (a / 0x1000) with
  | none => none
  | some b =>
    match b.regs.find? (fun r => r.covers (a % 0x1000)) with
    | some r => some r
    | none => if b.page = 0x40 then none else regsHeader.find? (fun r => r.covers (a % 0x1000))

/-- The value a register holds at reset. -/
def resetWord (a : Nat) : Word :=
  match specOf a with
  | some r => BitVec.ofNat 32 r.reset
  | none => 0#32

end Sys2Proof.Machine
end

