-- ==== Sys2Proof/Machine/StFabric.lean ====
section
/-!
DEFINITION. Sys2Proof/Machine/StFabric.lean: the hidden state of chapters 13 and 14: queues with their items, cells,
shapers, policers, scheduling rounds, statistics and gate lists.
-/
namespace Sys2Proof.Machine

/-- An item of a queue: a frame or a STREAM_BREAK marker (R450). -/
structure Item where
  isBreak : Bool
  /-- buffer handle of the first cell (R446) -/
  buf : Nat
  hasMeta : Bool
  appendFcs : Bool
  ptpOneStep : Bool
  trunc : Bool
  cause : Nat
  qseq : Nat
  /-- the 12-byte time stamp -/
  ts : List Byte
  /-- byte 24: kind × 16 + instance -/
  src : Nat
  first : Nat
  last : Nat
  /-- AUX, bytes 28–31 of a frame -/
  aux : Nat
  /-- the reception block, if any, and the frame bytes present -/
  bytes : List Byte
  /-- its last word is written -/
  committed : Bool
  /-- a consumer has begun it -/
  begun : Bool
  /-- handles of the cells it holds -/
  cells : List Nat
  /-- its descriptor is in a DRAM slot -/
  dramDesc : Bool
  /-- the FRAME_INJECT it came from -/
  inject : Option CmdId
  deriving DecidableEq, Repr

/-- A shaper of R477–R481: the values in effect and the credit in millionths of a bit. -/
structure Shaper where
  en : Bool
  rate : Nat
  burst : Nat
  credit : Int
  deriving DecidableEq, Repr

/-- A shaper as it is after reset. -/
def Shaper.init : Shaper := { en := false, rate := 0, burst := 8192, credit := 0 }

/-- Statistics of one sampled value (R495). -/
structure Stat where
  min : Nat
  max : Nat
  last : Nat
  bins : Tbl Nat
  deriving DecidableEq, Repr

/-- A cleared statistic (R495). -/
def Stat.init : Stat := { min := 0xFFFFFFFF, max := 0, last := 0, bins := [] }

/-- A loss to be marked (R450, R466): its cause, the oldest and the newest QSEQ lost, when it was detected, and for CAUSE 6 the input
queue whose items were lost (R616). -/
structure Loss where
  cause : Nat
  first : Nat
  last : Nat
  ts : List Byte
  input : Option Nat
  deriving DecidableEq, Repr

/-- A hardware queue (R450–R469) with its shaper and its place in the scheduling rounds (R474–R481). -/
structure Queue where
  cfg : Word
  limit : Word
  /-- `QCFG` as it was when the present head item reached the head (R460) -/
  headCfg : Word
  /-- 0 OFF, 1 OPEN, 2 HELD, 3 FAULT_RESET -/
  state : Nat
  underrun : Bool
  /-- head first; markers and committed or begun frames -/
  items : List Item
  /-- the items being written, not begun by a consumer, the one admitted first in front -/
  producing : List Item
  /-- the words still to come of a discarded item are dropped -/
  dropping : Bool
  seqNext : Nat
  /-- a loss that waits for the marker slot (R466) -/
  waiting : Option Loss
  /-- the open DROP_BREAK range (R469) -/
  breakPending : Option Loss
  /-- the two copies of the head and tail pointers (R464): items that have left the head, items put at the tail -/
  ptrA : Nat × Nat
  ptrB : Nat × Nat
  /-- ENABLE was written 0 while items were left (R460) -/
  stopping : Bool
  enq : Nat
  drops : Nat
  flushed : Nat
  underruns : Nat
  /-- `Q_SHAPE`, `Q_BURST`, `Q_SCHED` as written -/
  shape : Word
  burst : Word
  sched : Word
  shaper : Shaper
  deficit : Int
  samples : Nat
  depth : Stat
  delay : Stat
  /-- CLK_DATUM cycle at which the present head item reached the head -/
  headSince : Nat
  deriving DecidableEq, Repr

/-- A queue as it is after reset. -/
def Queue.init : Queue :=
  { cfg := 0#32, limit := 0x01000100#32, headCfg := 0#32, state := 0, underrun := false, items := [], producing := [], dropping := false,
    seqNext := 0, waiting := none, breakPending := none, ptrA := (0, 0), ptrB := (0, 0), stopping := false, enq := 0, drops := 0,
    flushed := 0, underruns := 0, shape := 0#32, burst := 8192#32, sched := 2048#32, shaper := Shaper.init, deficit := 0,
    samples := 0, depth := Stat.init, delay := Stat.init, headSince := 0 }

/-- The buffer pools and the item popped by the host (R446–R449, R459). -/
structure Fabric where
  queues : Tbl Queue
  /-- SRAM and DRAM cell handles in use, rising -/
  sramUsed : List Nat
  dramUsed : List Nat
  /-- cells of fault resets not yet swept (R465) -/
  sweep : List Nat
  /-- unreserved SRAM descriptor slots and DRAM descriptor slots in use -/
  descSram : Nat
  descDram : Nat
  /-- BUF_LOW may be raised (R449) -/
  lowArmed : Bool
  /-- descriptor bytes of the item last popped -/
  popDesc : List Byte
  /-- bytes of the popped item not yet read -/
  popBytes : List Byte
  /-- the last word read at `QW_DATA` -/
  popLast : Word
  /-- host receive rings: PHASE of the next entry, items counted since the cause was set -/
  hrxPhase : Tbl Bool
  hrxCount : Tbl Nat
  /-- when the fabric accepts the next frame of a host ring, in 1/76 CLK_DATUM cycles since the entry to BOOT (R21) -/
  injectAt : Nat
  deriving DecidableEq, Repr

/-- The fabric as it is after reset. -/
def Fabric.init : Fabric :=
  { queues := [], sramUsed := [], dramUsed := [], sweep := [], descSram := 0, descDram := 0, lowArmed := true,
    popDesc := [], popBytes := [], popLast := 0#32, hrxPhase := [], hrxCount := [], injectAt := 0 }

/-- A class of an egress: its registers as written, its shaper, and its place in the rounds (R475, R477). -/
structure EgressClass where
  cfg : Word
  rate : Word
  burst : Word
  shaper : Shaper
  deficit : Int
  /-- queue being visited by the round of the class -/
  visiting : Option Nat
  deriving DecidableEq, Repr

/-- An egress class as it is after reset. -/
def EgressClass.init : EgressClass :=
  { cfg := 1#32, rate := 0#32, burst := 8192#32, shaper := Shaper.init, deficit := 0, visiting := none }

/-- An egress: the queue whose head item it has begun, and the class its round visits (R475). -/
structure Egress where
  serving : Option Nat
  visiting : Option Nat
  deriving DecidableEq, Repr

/-- A policer (R484, R485): its registers as written, the values in effect, and its buckets in millionths of a byte. -/
structure Policer where
  cir : Word
  cbs : Word
  pir : Word
  pbs : Word
  cirNow : Nat
  cbsNow : Nat
  pirNow : Nat
  pbsNow : Nat
  tc : Nat
  tp : Nat
  green : Nat
  yellow : Nat
  red : Nat
  deriving DecidableEq, Repr

/-- A policer as it is after reset: both buckets full, as RFC 2698 starts them. -/
def Policer.init : Policer :=
  { cir := 0#32, cbs := 16384#32, pir := 0#32, pbs := 16384#32, cirNow := 0, cbsNow := 16384, pirNow := 0, pbsNow := 16384,
    tc := 16384000000, tp := 16384000000, green := 0, yellow := 0, red := 0 }

/-- The schedulers of TSS. -/
structure Sched where
  egresses : Tbl Egress
  classes : Tbl EgressClass
  policers : Tbl Policer
  /-- radio class shapers by 4 × lane + class: credit in millionths of a packet (R482) -/
  radio : Tbl Shaper
  /-- the queue whose snapshot is being taken (R496) -/
  snapping : Option Nat
  deriving DecidableEq, Repr

/-- A switch accepted and not yet in effect (R490): its parameters and its instant in Datum ns. -/
structure GateSwitch where
  len : Nat
  cycle : Nat
  base : Nat
  at_ : Nat
  deriving DecidableEq, Repr

/-- A gate list (R487–R493): two banks of entries, the operational parameters, the pending switch. CYCLE and BASE are in
ns. -/
structure GateList where
  bank0 : Tbl Word
  bank1 : Tbl Word
  len : Nat
  cycle : Nat
  base : Nat
  switch : Option GateSwitch
  /-- the list failed at a new line rate and every class is open (R491) -/
  unfit : Bool
  /-- items whose hold by the guard band in the present opening of their class has been counted: class, queue, buffer handle (R488) -/
  held : List (Nat × Nat × Nat)
  deriving DecidableEq, Repr

/-- A gate list as it is after reset. -/
def GateList.init : GateList :=
  { bank0 := [], bank1 := [], len := 0, cycle := 0, base := 0, switch := none, unfit := false, held := [] }

end Sys2Proof.Machine
end

