-- ==== Sys2Proof/Machine/StHost.lean ====
section
/-!
DEFINITION. Sys2Proof/Machine/StHost.lean: the hidden state of chapters 01 to 05: the device, its start-up, the staging
buffer, the register-access shadows, the indirect window, the host attachment, the rings and the event log.
-/
namespace Sys2Proof.Machine

/-- An instant of Datum: seconds, nanoseconds, and 2⁻³² nanoseconds (R528). -/
structure Time where
  sec : Nat
  ns : Nat
  frac : Nat
  deriving DecidableEq, Repr

/-- The state of a protocol engine (R6, R9, R605, R712): `failed` after an error of its local SRAM that it cannot correct, until PE15
restarts it. -/
inductive EngineState where
  | stopped | running | failed | restarting
  deriving DecidableEq, Repr

/-- The device as a whole (R24–R28, R157–R162). -/
structure Device where
  /-- in RESET, where no register answers (R24) -/
  inReset : Bool
  /-- code of the last reset (R157) -/
  resetCode : Nat
  /-- cause of the last transition (R155 part 0) -/
  lastTrans : Nat
  /-- the SECURE_HOLD latch in AON (R162) -/
  secureLatch : Bool
  /-- a software reset written and not yet effective (R159) -/
  softResetDue : Bool
  /-- engines PE0–PE15 -/
  engines : Tbl EngineState
  /-- version of the bundle loaded since the last reset (R155 part 0) -/
  fwVersion : Option (Nat × Nat)
  /-- ROLLBACK of that bundle (R175) -/
  fwRollback : Nat
  /-- CLK_DATUM cycles since the last entry to BOOT -/
  upCycles : Nat
  /-- lanes that still complete the superframe in progress at MAINTENANCE entry (R28) -/
  maintLanes : List Nat
  /-- a BIST has run since MAINTENANCE entry (R25) -/
  bistRan : Bool
  deriving DecidableEq, Repr

/-- What a SELET record being applied waits for (R169). -/
inductive SeletWait where
  | none | poll | delay
  deriving DecidableEq, Repr

/-- The boot sequence (R160–R182): which of its steps have been done since the entry to BOOT. -/
structure Boot where
  /-- this BOOT left WATCH (R166) -/
  fromWatch : Bool
  /-- the Datum PLL has locked (R527) -/
  pllLocked : Bool
  /-- the SELET copies have been examined (R173) -/
  seletChecked : Bool
  /-- the copy being applied or applied: 0 none, 1 A, 2 B -/
  seletCopy : Nat
  /-- index of the next record -/
  seletIndex : Nat
  /-- what the record at that index waits for -/
  seletWait : SeletWait
  /-- application has ended (END, or a failed record with STOP) -/
  seletDone : Bool
  /-- DRAM usable (R26, R182) -/
  dramReady : Bool
  /-- result of the boot march: 0 not run, 1 pass, 2 fail (R164) -/
  marchResult : Nat
  /-- the scrub after WATCH has ended (R166) -/
  watchScrubbed : Bool
  /-- `NVC.CTRL.FW_SRC` as the bundle search found it when it began (R178) -/
  fwOrder : Option Nat
  /-- QSPI sources examined: bit 0 primary, bit 1 secondary -/
  fwTried : Nat
  /-- the bundle search has ended (R178) -/
  fwDone : Bool
  /-- the key store has been loaded (R563) -/
  keysLoaded : Bool
  /-- the TRNG start-up tests have ended (R589) -/
  trngDone : Bool
  deriving DecidableEq, Repr

/-- The OTP SELET key hash (R181). -/
inductive KeyHash where
  | blank
  | programmed (hash : List Byte)
  | unusable
  deriving DecidableEq, Repr

/-- Non-volatile stores of start-up: the SELET copies and the anti-rollback floors (R175–R177, R181). -/
structure NonVol where
  copyA : List Byte
  copyB : List Byte
  seletFloor : Nat
  fwFloor : Nat
  keyHash : KeyHash
  /-- entries to BOOT counted in ReRAM (R523) -/
  bootCount : Nat
  deriving DecidableEq, Repr

/-- A staged operation in progress, with what it will report (R176, R179, R181). -/
structure StageOp where
  target : Nat
  reason : Nat
  copy : Nat
  words : List Word
  /-- the facts of a staged bundle -/
  bundle : Option BundleFacts
  /-- SOURCE code of the requester that wrote GO -/
  src : Nat
  deriving DecidableEq, Repr

/-- The staging buffer (R176). -/
structure Stage where
  words : List Word
  op : Option StageOp
  deriving DecidableEq, Repr

/-- The wide value whose words a requester holds for a write (R62): the address of its lowest word and the words held. -/
structure WriteHold where
  base : Nat
  words : Tbl Word
  deriving DecidableEq, Repr

/-- The read shadow of a requester (R59, R60): the higher words last latched, by their place in the value. -/
structure ReadShadow where
  base : Nat
  words : List Word
  deriving DecidableEq, Repr

/-- The register-access state of R48, R59–R62: shadows and holdings by requester code, and the GO bits with one pending
start (address × 32 + bit). -/
structure Bus where
  shadow : Tbl ReadShadow
  hold : Tbl WriteHold
  goPending : List Nat
  deriving DecidableEq, Repr

/-- An indirect access in progress (R68–R75). `made` is false where a rule refuses it. -/
structure IndAccess where
  write : Bool
  made : Bool
  addr : Word
  data : Word
  /-- served from the group already read (R77) -/
  fromGroup : Bool
  /-- the requester of the access -/
  src : Requester
  deriving DecidableEq, Repr

/-- The indirect window (R67–R78). -/
structure Ind where
  busy : Option IndAccess
  word : Word
  last : Word
  /-- the group of four words already read: its DRAM domain address and its words (R77) -/
  group : Option (Nat × List Word)
  deriving DecidableEq, Repr

/-- Configuration space beside the bits that `HostIf` holds (R79, R80): Max Payload Size and Max Read Request Size in bytes, the power
state, ASPM L1, the address bits of the BAR words, the uncorrectable errors of Advanced Error Reporting. -/
structure PcieCfg where
  maxPayload : Nat
  maxRead : Nat
  d3hot : Bool
  aspmL1 : Bool
  bars : Tbl (BitVec 32)
  aer : BitVec 32
  deriving DecidableEq, Repr

/-- The PCIe attachment (R79–R82, R110–R112, R752). -/
structure HostIf where
  perstLow : Bool
  busMaster : Bool
  msixEnable : Bool
  intxDisable : Bool
  cfg : PcieCfg
  /-- MSI-X per-vector masks -/
  vecMask : Nat
  /-- the other words of the MSI-X table: address, upper address and data of vector v at 3v, 3v + 1 and 3v + 2 (R80) -/
  vecTable : Tbl (BitVec 32)
  /-- vectors with a message due and not yet sent (masked, or Bus Master Enable 0) -/
  vecDue : Nat
  /-- vectors disarmed (`HIF.VEC_ARMED` is the complement) -/
  disarmed : Nat
  /-- the previous SPI frame was malformed (R87) -/
  spiPrevBad : Bool
  deriving DecidableEq, Repr

/-- One part of a completion (R94): its status, RESULT0 and the 16 RESULT bytes. -/
structure Part where
  status : Nat
  result0 : Nat
  result : List Byte
  deriving DecidableEq, Repr

/-- A command taken from a ring or the mailbox (R96–R99). -/
structure Cmd where
  seq : Nat
  desc : List Byte
  /-- place in the order in which commands were taken, over all rings and the mailbox (R138) -/
  order : Nat
  /-- the timeout that applies, in µs (R125) -/
  timeout : Nat
  /-- its work has begun -/
  began : Bool
  /-- its commit has begun (R128) -/
  committed : Bool
  /-- its outcome is decided (R619) -/
  done : Bool
  /-- the read of its data in host memory has been requested (R752) -/
  asked : Bool
  /-- the data read for it from host memory (R82) -/
  data : Option (List Byte)
  /-- the parts of its completion -/
  parts : List Part
  /-- parts already written -/
  written : Nat
  /-- its records were discarded (R105) -/
  lost : Bool
  deriving DecidableEq, Repr

/-- A descriptor fetch outstanding: first entry and number of entries (R100). -/
structure Fetch where
  first : Nat
  count : Nat
  deriving DecidableEq, Repr

/-- The hidden state of a ring, or of the mailbox at number 4 (R95–R108, R113). -/
structure Ring where
  /-- PHASE expected in the next descriptor; true on the first pass (R92) -/
  sqPhase : Bool
  /-- PHASE of the next record written (R95) -/
  cqPhase : Bool
  /-- an ENABLE held for the entry to DISABLED (R104) -/
  heldEnable : Bool
  /-- a RESET written in FAULT or STOPPING, which takes effect once every command has its outcome (R103) -/
  resetArmed : Bool
  /-- first and last sequence number of discarded records (R105) -/
  lost : Option (Nat × Nat)
  fetch : Option Fetch
  /-- fetches outstanding that the ring no longer waits for: what they return is not taken (R82, R101) -/
  staleFetches : Nat
  /-- sequence numbers of commands that ended while the read of their data was outstanding (R82) -/
  lateReads : List Nat
  /-- the ring has entered RUNNING since its records were discarded: the break record comes next (R105) -/
  breakDue : Bool
  /-- descriptors fetched and not yet taken -/
  fetched : List (List Byte)
  cmds : List Cmd
  /-- records counted since the completion cause was last set (R113) -/
  coalCount : Nat
  /-- SEQ of the last record written whose MORE was 0 (R156) -/
  lastSeq : Option Nat
  /-- for the mailbox: its sequence number (R96) -/
  mbxSeq : Nat
  /-- for the mailbox: its completion queue of up to 64 records (R107) -/
  queue : List (List Byte)
  deriving DecidableEq, Repr

/-- A ring as it is after a reset of the host rings. -/
def Ring.init : Ring :=
  { sqPhase := true, cqPhase := true, heldEnable := false, resetArmed := false, lost := none, fetch := none,
    staleFetches := 0, lateReads := [], breakDue := false, fetched := [], cmds := [], coalCount := 0, lastSeq := none, mbxSeq := 0, queue := [] }

/-- An event that has occurred and whose record is not yet in the store (R115, R116, R182). -/
structure Event where
  sec : Nat
  ns : Nat
  page : Nat
  sub : Nat
  code : Nat
  severity : Nat
  /-- DATA bytes 22–31, zero-padded to ten bytes when it is written -/
  data : List Byte
  deriving DecidableEq, Repr

/-- The event log and the event ring (R114–R119). -/
structure EventLog where
  /-- events not yet written, oldest first -/
  queue : List Event
  /-- next SRC_SEQ by source, SRC_PAGE × 256 + SRC_SUB -/
  srcSeq : Tbl Nat
  /-- the event ring is copying (R117) -/
  evrOn : Bool
  evrPhase : Bool
  /-- first and last LOG_SEQ missed while the event ring is full -/
  missed : Option (Nat × Nat)
  /-- the same of the last LOG_BREAK written (R155 part 10) -/
  lastBreak : Option (Nat × Nat)
  /-- severities of the event ring entries not yet consumed, oldest first (R155 part 10 MAX_SEV) -/
  inRing : List Nat
  deriving DecidableEq, Repr

end Sys2Proof.Machine
end

