-- ==== Sys2Proof/Machine/StLink.lean ====
section
/-!
DEFINITION. Sys2Proof/Machine/StLink.lean: the hidden state of chapters 15 and 16: the Ethernet ports and the Datum servo.
-/
namespace Sys2Proof.Machine

/-- A MACsec association (R520–R522): `pn` is the next PN of a transmit association, the lowest PN accepted of a receive
association, whose next expected PN is `next`. -/
structure Assoc where
  en : Bool
  slot : Nat
  /-- the key fetched when it was enabled -/
  key : List Byte
  pn : Nat
  next : Nat
  deriving DecidableEq, Repr

/-- An association as it is after reset. -/
def Assoc.init : Assoc := { en := false, slot := 0, key := [], pn := 1, next := 1 }

/-- An egress stamp (R519). -/
structure TxStamp where
  msgType : Nat
  seqId : Nat
  ts : List Byte
  qseq : Nat
  deriving DecidableEq, Repr

/-- An Ethernet port (R499–R525). -/
structure Port where
  /-- pause resolved toward this port by auto-negotiation (R511) -/
  pauseResolved : Bool
  /-- left LPI and not yet awake (R515) -/
  waking : Bool
  /-- the quanta of PAUSE frames that wait for the wake or for the frame in progress, oldest first (R513, R515) -/
  pauseDue : List Nat
  txts : List TxStamp
  /-- transmit associations by AN, receive associations by 4 × channel + AN, SCI by receive channel -/
  txSa : Tbl Assoc
  rxSa : Tbl Assoc
  sci : Tbl Nat
  /-- tunnel: low word of the next SEQ, its exhaustion, the last SEQ accepted (R523, R524) -/
  tunNext : Nat
  tunDone : Bool
  tunLast : Nat
  /-- the MDIO frame on its way is a read -/
  mdioRead : Bool
  deriving DecidableEq, Repr

/-- A port as it is after reset. -/
def Port.init : Port :=
  { pauseResolved := false, waking := false, pauseDue := [], txts := [], txSa := [], rxSa := [], sci := [],
    tunNext := 1, tunDone := false, tunLast := 0, mdioRead := false }

/-- A master heard by Announce (R546): its port, clockIdentity, portNumber, and its data set in the order in which it is
compared. -/
structure Master where
  port : Nat
  clockId : Nat
  portNumber : Nat
  dataset : List Nat
  /-- CLK_DATUM cycle of its last Announce, and log2 of its announce interval in s (R547) -/
  heard : Nat
  interval : Int
  deriving DecidableEq, Repr

/-- A stretch of CLK_DATUM cycles in which the counter advanced at one rate: its first cycle, the counter then and what each cycle added,
both in units of 2⁻³² ns (R528, R531). -/
structure Stretch where
  cycle : Nat
  units : Nat
  rate : Nat
  deriving DecidableEq, Repr

/-- A Pdelay_Req answered in two steps whose Pdelay_Resp_Follow_Up is to be sent (R545): its port, sequenceId and correctionField. -/
structure PdelayOwed where
  port : Nat
  seq : Nat
  correction : List Byte
  deriving DecidableEq, Repr

/-- The servo and the pulses (R535–R550). -/
structure Datum where
  /-- what is left of the slew, in units of 2⁻³² ns (R535) -/
  slew : Int
  /-- consecutive measurements within LOCK_NS, and beyond 4 × LOCK_NS (R543) -/
  within : Nat
  outside : Nat
  /-- fewer than HOLDOVER_S have passed since a measurement accepted in LOCKED (R544) -/
  goodHold : Bool
  /-- the present ACQUIRING was entered by a master change (R544) -/
  byMaster : Bool
  /-- INC at the last measurements, newest first, up to 64 (R543) -/
  incs : List Nat
  /-- path delay to the master in ns (R545) -/
  pathDelay : Option Int
  masters : List Master
  chosen : Option Master
  /-- sequenceId of the next Delay_Req or Pdelay_Req -/
  dreqSeq : Nat
  pdelay : List PdelayOwed
  /-- PPS_OUT is active (R548), since a CLK_DATUM cycle -/
  ppsOut : Bool
  ppsAt : Nat
  /-- CLK_DATUM cycle of the last sample instant taken (R494) -/
  sampledAt : Option Nat
  /-- the course of the counter over the last second, the latest stretch first (R531) -/
  track : List Stretch
  /-- steps applied in the last second: CLK_DATUM cycle, size in ns, STEP_GEN before it (R531, R533) -/
  steps : List (Nat × Int × Nat)
  deriving DecidableEq, Repr

/-- The servo at the entry to BOOT. -/
def Datum.init : Datum :=
  { slew := 0, within := 0, outside := 0, goodHold := false, byMaster := false, incs := [], pathDelay := none, masters := [],
    chosen := none, dreqSeq := 0, pdelay := [], ppsOut := false, ppsAt := 0, sampledAt := none, track := [], steps := [] }

end Sys2Proof.Machine
end

