-- ==== Sys2Proof/Machine/StMem.lean ====
section
/-!
DEFINITION. Sys2Proof/Machine/StMem.lean: the hidden state of chapters 18, 21, 22 and 23: the scrubber and the error log, the
Margin Manager with its ageing log, power modes and the always-on domain, and the self-test controller.
-/
namespace Sys2Proof.Machine

/-- A record of `MEM.ERR_LOG` (R608). -/
structure ErrRecord where
  ue : Bool
  sram : Bool
  region : Nat
  origin : Nat
  position : Nat
  addr : Nat
  syndrome : Nat
  sec : Nat
  ns : Nat
  deriving DecidableEq, Repr

/-- Memory protection (R598–R610). -/
structure MemSt where
  /-- the target position T, in 1/65,536 of a codeword -/
  target : Nat
  /-- CLK_DATUM cycle at which the pass began -/
  passAt : Nat
  /-- CEs and UEs of the pass, and whether a CE of it was persistent -/
  ces : Nat
  ues : Nat
  persistent : Bool
  /-- the same of the last complete pass (R670) -/
  lastCes : Nat
  lastPersistent : Bool
  /-- codewords last corrected by the scrubber, oldest first, at most 64 (R602) -/
  recent : List Nat
  /-- Datum second of the last CE reported for a region, plus one (R609) -/
  ceTold : Tbl Nat
  errLog : List ErrRecord
  /-- the words shown at `ERR_LOG` while the queue is empty -/
  errLast : List Word
  /-- places of the event store whose record is lost (R605) -/
  lostLog : List Nat
  deriving DecidableEq, Repr

/-- One background slice's loop-back measurement (R665, R671): gain change in 1/256 dB, phase change in 0.01°, loop-back gain in
1/256 dB, lane temperature. -/
structure LoopSlice where
  gain : Int
  phase : Int
  level : Int
  temp : Int
  deriving DecidableEq, Repr

/-- What the voltage control is doing (R672, R673, R677, R678). -/
inductive VoltWork where
  | none
  /-- a voltage commanded, in mV, and not yet confirmed; settled: its SETTLE has passed -/
  | confirming (mv : Nat) (settled : Bool)
  deriving DecidableEq, Repr

/-- A plan or an emergency step being applied (R672, R673): its voltage and clock; `stage` 0 raising the voltage, 1 ramping the
clock, 2 lowering the voltage or, in an emergency step, raising it. -/
structure PlanWork where
  emergency : Bool
  mv : Nat
  mhz : Nat
  stage : Nat
  margin : Int
  /-- the GO bits of `CTRL` that this plan answers -/
  go : List Nat
  deriving DecidableEq, Repr

/-- A copy of the ageing log's header (R681). -/
structure AgeHeader where
  seq : Nat
  hours : Nat
  next : Nat
  deriving DecidableEq, Repr

/-- A record of the ageing log (R681). -/
structure AgeRecord where
  hours : Nat
  mean : Int
  worst : Int
  sram : Int
  tj : Int
  refresh : Nat
  retention : Nat
  deriving DecidableEq, Repr

/-- The ageing log in ReRAM: its two header copies and its valid records by index (R681). -/
structure AgeLog where
  a : AgeHeader
  b : AgeHeader
  records : Tbl (Option AgeRecord)
  deriving DecidableEq, Repr

/-- What the present ageing period has shown (R681). -/
structure AgePeriod where
  refs : List Int
  sram : Option Int
  tj : Option Int
  refresh : Nat
  retention : Option Nat
  deriving DecidableEq, Repr

/-- The Margin Manager (R660–R682). -/
structure Margin where
  /-- the PLAN event of a plan in force, written at the next replica reading -/
  planEvent : Option (List Byte)
  /-- V_now, the last confirmed voltage in mV, and f_now in MHz -/
  vNow : Nat
  fNow : Nat
  work : Option PlanWork
  volt : VoltWork
  /-- a plan waits for an emergency step, a BIST or HOLD-UP to end -/
  planDue : Bool
  /-- a plan has been made since BOOT -/
  planned : Bool
  /-- readings of the sensors at the last plan, plus 256 (0: none) -/
  planTemps : Tbl Nat
  /-- sensors above TJ_ALARM -/
  hot : List Nat
  /-- MARGIN_LOW kind 2 has been told in the present plan period (R675) -/
  lowTold : Bool
  /-- consecutive transactions not acknowledged; consecutive STATUS_WORDs with a fault bit (R679) -/
  nacks : Nat
  badWords : Nat
  /-- slices of each lane since the last plan, oldest first -/
  slices : Tbl (List LoopSlice)
  /-- loop-back gain and phase of the last completed slice of an anchor: lane × 256 + channel -/
  anchors : Tbl (Option (Int × Int))
  /-- longest interval survived by each probe row in the present cycle, in ms -/
  probes : Tbl Nat
  /-- seconds of the present operating hour are outside the model; `age` is the ReRAM log -/
  age : AgeLog
  period : AgePeriod
  /-- code driven on VID[2:0]; none: high impedance (R678) -/
  vid : Option Nat
  deriving DecidableEq, Repr

/-- An entry to WATCH being made (R690, R691): 1 by hold-up, 2 by command. -/
structure WatchEntry where
  cause : Nat
  wurWake : Bool
  committed : Bool
  /-- WATCH_ENTER has been taken (R691) -/
  commanded : Bool
  deriving DecidableEq, Repr

/-- One entry of the WATCH log (R707). -/
structure WatchNote where
  kind : Nat
  time : Nat
  addr : Nat
  cmd : Nat
  rssi : Nat
  seq : Nat
  deriving DecidableEq, Repr

/-- A write on its way to AON (R708). -/
structure AonWrite where
  src : Requester
  /-- the register the write goes to -/
  addr : Nat
  /-- the address of the access: the register's own word or the word of its alias -/
  via : Nat
  data : Word
  mask : Word
  deriving DecidableEq, Repr

/-- Power modes, clocks and AON (R684–R708). -/
structure Power where
  /-- words of the last-gasp frames: frame × 64 + word -/
  lgWords : Tbl Word
  /-- frame and port pairs not yet begun, in the order in which each port sends them: port, frame -/
  lgDue : List (Nat × Nat)
  lgSent : Nat
  lgDropped : Nat
  /-- last-gasp frames are being sent -/
  lgOpen : Bool
  /-- Datum time of the filtered edge of MAINS_OK; `aonCycles` of it -/
  edge : Time
  /-- STEP_GEN at it (R530) -/
  edgeGen : Nat
  lowAt : Nat
  /-- 4 ns periods since the power-on (`AON.TIME`, R692) -/
  aonCycles : Nat
  /-- `aonCycles` at the last entry to BOOT (R155 UPTIME_S) -/
  bootAt : Nat
  /-- the crystal oscillates again and is not yet used (R699) -/
  xtalBack : Bool
  entry : Option WatchEntry
  /-- in WATCH: the entry's cause, WUR_WAKE, `AON.TIME` at the entry, wakes ignored so far -/
  watchCause : Nat
  wurWake : Bool
  watchAt : Nat
  ignored : Nat
  /-- MAINS_OK has been low at some moment in this WATCH (R693) -/
  wasLow : Bool
  /-- a WATCH has ended and WATCH_RESUME is still to be written -/
  resume : Bool
  watchLog : List WatchNote
  noteSeq : Nat
  aonQueue : List AonWrite
  /-- words of the shadows that differ from AON's while writes are on their way -/
  shadow : Tbl Word
  /-- CORE stands still for want of the 40 MHz reference (R699) -/
  stopped : Bool
  /-- the monitors 1 (125 MHz) and 2 (100 MHz) whose reference is lost -/
  refLost : List Nat
  /-- changes of monitors to be reported at the next boot: monitor, 1 lost or 2 restored -/
  clockDue : List (Nat × Nat)
  deriving DecidableEq, Repr

/-- The result of a self-test (R718). -/
structure BistResult where
  ran : Bool
  pass : Bool
  abandoned : Bool
  micros : Nat
  misr : BitVec 64
  deriving DecidableEq, Repr

/-- A BIST_RUN in progress (R713): tests still to run, the first one running; parts and durations so far; the first failing TEST
code, 0xFF if none. -/
structure BistRun where
  id : CmdId
  tests : List Nat
  parts : List Part
  failed : Nat
  firstFailed : Nat
  micros : Nat
  deriving DecidableEq, Repr

/-- The self-test controller. -/
structure Bist where
  results : Tbl BistResult
  run : Option BistRun
  deriving DecidableEq, Repr

def BistResult.none : BistResult := { ran := false, pass := false, abandoned := false, micros := 0, misr := 0#64 }

/-- The units as they are at the entry to BOOT. -/
def MemSt.init : MemSt :=
  { target := 0, passAt := 0, ces := 0, ues := 0, persistent := false, lastCes := 0, lastPersistent := false, recent := [],
    ceTold := [], errLog := [], errLast := [], lostLog := [] }
def AgePeriod.init : AgePeriod := { refs := [], sram := none, tj := none, refresh := 0, retention := none }
def AgeLog.init : AgeLog := { a := { seq := 0, hours := 0, next := 0 }, b := { seq := 0, hours := 0, next := 0 }, records := [] }
def Margin.init (age : AgeLog) : Margin :=
  { planEvent := none, vNow := 750, fNow := 800, work := none, volt := .none, planDue := false, planned := false, planTemps := [], hot := [],
    lowTold := false, nacks := 0, badWords := 0, slices := [], anchors := [], probes := [], age := age, period := AgePeriod.init,
    vid := none }
def Bist.init : Bist := { results := [], run := none }

/-- Power and AON after a power-on reset. -/
def Power.init : Power :=
  { lgWords := [], lgDue := [], lgSent := 0, lgDropped := 0, lgOpen := false, edge := ⟨0, 0, 0⟩, edgeGen := 0, lowAt := 0, aonCycles := 0, bootAt := 0,
    xtalBack := false, entry := none,
    watchCause := 0, wurWake := false, watchAt := 0, ignored := 0, wasLow := false, resume := false, watchLog := [], noteSeq := 0,
    aonQueue := [], shadow := [], stopped := false, refLost := [], clockDue := [] }

end Sys2Proof.Machine
end

