-- ==== Sys2Proof/Machine/StRadio.lean ====
section
/-!
DEFINITION. Sys2Proof/Machine/StRadio.lean: the hidden state of a radio lane (chapters 6 to 8) and of the transmissions
and receptions it carries.
-/
namespace Sys2Proof.Machine

/-- Levels of the front-end pins of a lane at its balls (R215); `bias` is the code of FEMn_BIAS. -/
structure FemPins where
  paen : Bool
  trsw : Bool
  lnaen : Bool
  byp : Bool
  bias : Nat
  txAct : Bool
  deriving DecidableEq, Repr

/-- What a lane in SYNTH_LOCK or CAL is doing (R187). -/
inductive Work where
  | none
  /-- start-up calibration, at this kind (R197) -/
  | startup (kind : Nat)
  /-- hopping to a channel from its stored entry (R193) -/
  | hop (ch : Nat)
  /-- cold calibration for a tune; after a lock failure or not (R193, R194) -/
  | cold (ch : Nat) (lockFail : Bool)
  /-- cold calibration that a scheduled transmission needs, in a gap (R207) -/
  | gap (ch : Nat)
  /-- background slice of an anchor channel (R200) -/
  | slice (ch : Nat)
  /-- step of a LANE_CAL (R205) -/
  | step (ch : Nat)
  deriving DecidableEq, Repr

/-- A LANE_CAL that is running (R144, R205, R206). -/
structure CalJob where
  id : CmdId
  next : Nat
  remaining : Nat
  done : Nat
  failed : Nat
  firstFailed : Option Nat
  /-- the lane has been BLANKED since the command was taken -/
  blanked : Bool
  deriving DecidableEq, Repr

/-- A detection (R247). `rssi` is DET_RSSI. -/
structure Detection where
  subch : Nat
  /-- OFFSET of the sub-channel then, in steps of 61.035 Hz -/
  off : Int
  sf : Nat
  /-- bandwidth code of the sub-channel when the detection was made (R252) -/
  bw : Nat
  bin : Nat
  rssi : Int
  /-- when it was posted -/
  time : Time
  /-- a blank fell on its windows or on the wait in the queue (R260) -/
  blanked : Bool
  deriving DecidableEq, Repr

/-- A receive gap (R248) from a CLK_DATUM cycle up to another: a blank, or a calibration in a gap. -/
structure RxGap where
  since : Nat
  until_ : Nat
  blank : Bool
  deriving DecidableEq, Repr

/-- A decoder context that is not FREE (R252): stage 1 ACQUIRE, 2 HEADER, 3 PAYLOAD. -/
structure Ctx where
  stage : Nat
  det : Detection
  /-- place in the order of assignment (R254) -/
  order : Nat
  alt : Bool
  blanked : Bool
  hdr : Nat
  rssi : Nat
  snr : Nat
  foff : Nat
  ts : Time
  stepGen : Nat
  deriving DecidableEq, Repr

/-- The reception record (R270) with what OFDM and the Cadastre add to it (R297, R400). -/
structure RxRecord where
  lane : Nat
  /-- OFFSET of the sub-channel on which it came -/
  off : Int
  subch : Nat
  sf : Nat
  bw : Nat
  mode : Nat
  rate : Nat
  length : Nat
  ctx : Nat
  alt : Bool
  blanked : Bool
  rssi : Nat
  snr : Nat
  foff : Nat
  rateErr : Nat
  /-- the sync-word time stamp and its STEP_GEN (R268, R530) -/
  ts : Time
  stepGen : Nat
  mapType : Nat
  sel : Nat
  gen : Nat
  quiet : Nat
  nsym : Nat
  meanSnr : Nat
  iter : Nat
  tsT : Option (Time × Nat)
  deriving DecidableEq, Repr

/-- What a CCM* request found of a received frame (R570). -/
inductive Checked where
  | waiting
  | current | pending
  | fail | keyDenied
  deriving DecidableEq, Repr

/-- A received frame between the physical layer and its consumer. -/
structure RxFrame where
  info : RxRecord
  bytes : List Byte
  check : Checked
  /-- EPOCH of the session under whose key it verified (R395, R396) -/
  epoch : Nat
  /-- the body in plain form, once verified -/
  body : List Byte
  /-- 0 before the verdict of R398, 1 passed to the owner of its TYPE, 2 dispatched by MGMT_ID -/
  stage : Nat
  /-- channel of the reception -/
  channel : Nat
  /-- the relay unit that carried it: path, SNR and −RSSI at the parent, the carrying frame's parcel (R413) -/
  relay : Option (List Nat × Nat × Nat)
  deriving DecidableEq, Repr

/-- An OFDM payload being received (R292). -/
structure OfdmRx where
  info : RxRecord
  channel : Nat
  /-- the FC word, once decoded -/
  fc : Option Nat
  /-- B_sym of the loading in use -/
  bSym : Nat
  /-- a blank fell on samples of the payload (R296) -/
  blanked : Bool
  deriving DecidableEq, Repr

/-- A tone-map measurement (R298–R300). -/
structure Meas where
  peer : Nat
  channel : Nat
  /-- quiet symbols counted -/
  count : Nat
  /-- the sums over the counted frames of |H_d|² and of N_d, for each data tone (R300) -/
  sums : List TonePower
  /-- the map of a measurement whose issue waits for the retiring store: rate, REF_SNR, loading (R308) -/
  ready : Option (Nat × Nat × List Nat)
  deriving DecidableEq, Repr

/-- What a transmission sends. -/
inductive Content where
  /-- a frame built -/
  | frame (bytes : List Byte)
  /-- the acknowledgement of parcel's frame: TCORR and FCNT_LO (R344), and ACK_REQ -/
  | ack (tcorr fcntLo : Nat) (ackReq : Bool)
  /-- the node's head downlink, with an acknowledgement field or without (R345) -/
  | head (ack : Option (Nat × Nat))
  /-- a wake telegram: address and command (R354) -/
  | wake (addr cmd : Nat)
  deriving DecidableEq, Repr

/-- A transmission (R206–R209, R378–R382). Times are Datum nanoseconds. -/
structure Tx where
  /-- order of R381: 0 beacon, 1 acknowledgement, 2 downlink or peer exchange, 3 JOIN_ACCEPT, 4 wake telegram, 5 multicast -/
  kind : Nat
  /-- the parcel addressed; the session slot of a multicast frame -/
  parcel : Nat
  content : Content
  /-- the frame on the air, once built -/
  bytes : List Byte
  channel : Nat
  offset : Int
  /-- 0 CSS, 1 OFDM, 2 OOK -/
  mode : Nat
  sf : Nat
  bw : Nat
  rate : Nat
  npre : Nat
  /-- bytes of the frame -/
  length : Nat
  /-- OFDM: the FC word and the loading of the data tones -/
  fc : Nat
  load : List Nat
  /-- requested pin power in 0.5 dBm, and the transmit gain entry chosen (R214) -/
  power : Int
  gain : Nat
  start : Nat
  latest : Nat
  /-- 0 wanted, 1 granted, 2 with the lane, 3 cleared to go on air, 4 on air, 5 abandoned until R209 reports it -/
  stage : Nat
  /-- the radio class whose shaper the grant charged (R483) -/
  taken : Option Nat
  /-- the charge in ns, the accounts it stands in and its bucket (R373, R376) -/
  charge : Nat
  accts : List Nat
  bucket : Nat
  /-- network code of the sync word, BACKOFF and CLIP_DB of the OFDM part, as the modulator took them (R273, R314) -/
  code : Nat
  backoff : Nat
  clip : Nat
  /-- `stepped` of the MAC as it goes on air (R320) -/
  stepped : Nat
  deriving DecidableEq, Repr

/-- An occurrence of a slot entry that occupies a lane (R328, R335). -/
structure Occ where
  entry : Nat
  w0 : Nat
  w1 : Nat
  /-- start of its first tick, in Datum ns -/
  start : Nat
  hit : Bool
  /-- a downlink attempt was made in it (R348) -/
  tried : Bool
  /-- multicast: frame positions passed (R437) -/
  pos : Nat
  /-- PEER: earliest START of the exchange's next frame, in Datum ns; 0 while none may follow (R351) -/
  next : Nat
  /-- PEER: START and end of the device's last frame of the exchange, in Datum ns; 0 before the first -/
  sentStart : Nat
  sentEnd : Nat
  /-- PEER: FPEND of that frame, and `stepped` of the MAC when it was sent (R320) -/
  fpend : Bool
  stepped : Nat
  deriving DecidableEq, Repr

/-- An acknowledgement the device owes (R344, R345). `carried`: the frame came in the UPLINK occurrence that carries the node's
downlinks. -/
structure Owed where
  info : RxRecord
  channel : Nat
  parcel : Nat
  tcorr : Nat
  fcntLo : Nat
  carried : Bool
  deriving DecidableEq, Repr

/-- A word of `SUBCHk` that was replaced, and the CLK_DATUM cycle of the write. -/
structure SubWord where
  k : Nat
  word : Word
  until_ : Nat
  deriving DecidableEq, Repr

/-- A radio lane. -/
structure LaneSt where
  /-- the words of the analog set that differ from their factory content (R224, R225) -/
  store : Tbl Word
  work : Work
  /-- start-up calibration: channels that failed, and the time used so far in µs -/
  calFailed : Nat
  calUs : Nat
  /-- transmit gain entries whose power has been measured since their word 0 was last written (R213, R224) -/
  txMeas : List Nat
  /-- the loop-back reference exists (R198) -/
  refOk : Bool
  /-- the channel on which the MAC requests receive -/
  rxWant : Option Nat
  /-- the next channel that kind 6 of start-up calibration takes (R197, R198) -/
  calNext : Nat
  /-- a channel whose cold calibration for a tune waits for the end of a blank, and whether a lock failure called for it (R194,
  R223) -/
  waitCal : Option (Nat × Bool)
  /-- the calibration in a gap began in RX: the lane goes back to the channel it was locked on (R187) -/
  back : Bool
  /-- a kind of 1 to 5 has failed: the device goes on without the lane until it is enabled anew (R198, R199) -/
  calDead : Bool
  /-- channels whose calibration a transmission needs in the next gap, the first one first (R207) -/
  gapCal : List Nat
  job : Option CalJob
  /-- the lane goes to OFF at the end of the transmission in progress (R187) -/
  offDue : Bool
  /-- CLK_DATUM cycle at which the present blank began -/
  blankAt : Nat
  /-- the levels at which the present state settles; those at the balls are `femPins` -/
  pins : FemPins
  /-- CLK_DATUM cycle at which the last turnaround began (R216) -/
  taAt : Nat
  /-- CLK_DATUM cycle at which the last symbol of the last transmission ended, and its transmit bias code (R217) -/
  tail : Option (Nat × Nat)
  /-- FEM_TIMING, FEM_CFG and FEM_BIAS as sampled at the last turnaround (R218) -/
  femTiming : Word
  femCfg : Word
  femBias : Word
  /-- CLK_DATUM cycle at which FEMn_PAEN becomes active in the present transmission (R216) -/
  paAt : Nat
  txs : List Tx
  /-- CLK_DATUM cycle at which the detector bank last began to run (R246), the receive gaps of the last 200 ms, and the cycle at which a
  calibration in a gap began (R248) -/
  bankAt : Nat
  gaps : List RxGap
  gapAt : Option Nat
  /-- CLK_DATUM cycle of the last tune; cycles for which the bank has run since, up to its last halt, and the cycle at which it began to
  run again; and how many those were at the last write of each sub-channel's register (R267) -/
  tunedAt : Nat
  heard : Nat
  bankOn : Nat
  subSince : Tbl Nat
  /-- words of `SUBCHk` replaced in the last second: the runs begun under them go on (R247) -/
  subOld : List SubWord
  queue : List Detection
  ctxs : Tbl Ctx
  nextOrder : Nat
  /-- Datum second of the last drop, drops in it, and drops in the second before (R254) -/
  dropSec : Nat
  drops : Nat
  /-- sub-channels active at the last tune, and those not tuned since they were written (R245) -/
  subWas : Nat
  subSeen : Nat
  rx : List RxFrame
  ofdm : Option OfdmRx
  meas : List Meas
  occ : Option Occ
  /-- entries whose occurrence in the present superframe has started (R320) -/
  ran : List Nat
  /-- acknowledgements owed, and acknowledgements received and not yet served: parcel, FCNT_LO, end of the frame in Datum ns (R345,
  R349) -/
  owed : List Owed
  acked : List (Nat × Nat × Nat)
  deriving DecidableEq, Repr

/-- Pins of a lane in OFF at the reset polarities: all inactive, receive, IDLE code (R215). -/
def FemPins.off : FemPins := { paen := false, trsw := false, lnaen := false, byp := false, bias := 0, txAct := false }

/-- A lane as it is at the entry to BOOT. -/
def LaneSt.init : LaneSt :=
  { store := [], work := .none, calFailed := 0, calUs := 0, txMeas := [], refOk := false, rxWant := none, calNext := 0, waitCal := none,
    back := false, calDead := false, gapCal := [], job := none, offDue := false, blankAt := 0, pins := FemPins.off, taAt := 0, tail := none, femTiming := 0x000C1008#32, femCfg := 0x1F#32,
    femBias := 0#32, paAt := 0, txs := [], bankAt := 0, gaps := [], gapAt := none, tunedAt := 0,
    heard := 0, bankOn := 0, subSince := [], subOld := [], queue := [], ctxs := [], nextOrder := 0, dropSec := 0, drops := 0, subWas := 0,
    subSeen := 0, rx := [], ofdm := none, meas := [], occ := none, ran := [], owed := [], acked := [] }

end Sys2Proof.Machine
end

