-- ==== Sys2Proof/Machine/StMesh.lean ====
section
/-!
DEFINITION. Sys2Proof/Machine/StMesh.lean: the hidden state of the MAC, the regulatory unit, the Cadastre and the update
distribution (chapters 9 to 12), and of the Cox unit (chapter 20).
-/
namespace Sys2Proof.Machine

/-- The sums of one bucket of an account in ns: beacons, acknowledgements, every other charge (R375). -/
structure Bucket where
  bcn : Nat
  ack : Nat
  gen : Nat
  deriving DecidableEq, Repr

/-- An account (R374, R375): buckets by number, its beacon reserve in ns, and whether the present bucket has reported a
BUDGET_EXHAUST (R387). -/
structure Acct where
  buckets : Tbl Bucket
  reserve : Nat
  told : Bool
  deriving DecidableEq, Repr

/-- The accounts of a profile. Their keys are lane × 256 + account, lane 0 where the lanes share them (R374). -/
structure AcctSet where
  code : Nat
  perLane : Bool
  accts : Tbl Acct
  /-- number of the current bucket, and the CLK_DATUM cycle at which the first one began (R376) -/
  bucket : Nat
  since : Nat
  fit : Nat
  deriving DecidableEq, Repr

/-- The regulatory unit (R369–R388). -/
structure Rgl where
  cur : AcctSet
  /-- the accounts of the next profile, built 10 ms before its boundary (R383) -/
  next : Option AcctSet
  /-- a write of PROFILE or PER_LANE has not yet taken effect -/
  due : Bool
  /-- `RSV_CFG` in force: a write takes effect at the next superframe boundary -/
  rsv : Word
  deriving DecidableEq, Repr

/-- No accounts: profile NONE. -/
def AcctSet.none : AcctSet := { code := 0, perLane := false, accts := [], bucket := 0, since := 0, fit := 0 }

/-- A neighbour's tracking (R366). -/
structure Nbr where
  misses : Nat
  /-- its NBR_WATCH entry -/
  watch : Option Nat
  /-- its beacon was received in the present watch occurrence -/
  seen : Bool
  /-- `NBRk_ID` and `NBRk_BCN` as they were when EN was last written 1 -/
  id : Word
  bcn : Word
  deriving DecidableEq, Repr

/-- A neighbour not tracked. -/
def Nbr.init : Nbr := { misses := 0, watch := none, seen := false, id := 0#32, bcn := 0#32 }

/-- A wake exchange of a lane (R354–R358): for a WAKE_SEND, or for the downlinks of a parcel. -/
structure Wake where
  cmd : Option CmdId
  parcel : Option Nat
  addr : Nat
  code : Nat
  expect : Bool
  retries : Nat
  /-- attempts started -/
  attempt : Nat
  /-- 0 waiting for lane time, 1 telegram requested, 2 telegram sent and answer awaited, 3 answered, 4 its outcome given before an
  answer -/
  stage : Nat
  /-- START of the present attempt, in Datum ns; once answered, the earliest START of the next frame -/
  start : Nat
  /-- FPEND of the last frame sent in the exchange -/
  fpend : Bool
  deriving DecidableEq, Repr

/-- An assignment for a node's join (R361, R362). -/
structure Join where
  parcel : Nat
  info : RxRecord
  channel : Nat
  nonce : Nat
  ppm : Nat
  /-- UP_BYTES and DL_BYTES of the request (R360) -/
  up : Nat
  dl : Nat
  /-- the entries placed, with their indices: UPLINK or PEER, then DOWNLINK -/
  entries : List (Nat × Nat × Nat)
  complete : Bool
  /-- carried in a relay unit: the path of the request (R415) -/
  path : List Nat
  /-- STATUS and BACKOFF to be sent (R362); CHIP_NONCE and EPOCH, once drawn (R395) -/
  status : Nat
  backoff : Nat
  chip : Nat
  epoch : Nat
  /-- MICLEN, BASE, N_PRE and ACK_GAP as its JOIN_ACCEPT gives them (R362) -/
  micLen : Nat
  base : Nat
  pre : Nat
  gap : Nat
  /-- it waits for its JOIN_ACCEPT; else it is held for the next JOIN_REQ (R362) -/
  due : Bool
  deriving DecidableEq, Repr

/-- A downlink in a mailbox: what its fabric buffer holds (R406). -/
structure Dl where
  buf : Nat
  parcel : Nat
  /-- the DL_SEND it came from; none for messages the device generates -/
  cmd : Option CmdId
  /-- mode 1: the command and its TAG, once it has completed QUEUED (R142) -/
  tag : Option (CmdId × List Byte)
  payload : List Byte
  /-- the frame and its counter, once built (R402) -/
  frame : List Byte
  fcnt : Nat
  sent : Bool
  /-- START of the last transmission, its lane and spreading order (R141) -/
  sec : Nat
  ns : Nat
  lane : Nat
  sf : Nat
  /-- end of the last transmission, in Datum ns (R347) -/
  endAt : Nat
  /-- `stepped` of the MAC at the last transmission (R320) -/
  stepped : Nat
  /-- an attempt's response window is open (R349) -/
  window : Bool
  /-- the node whose head downlink this relay unit carries (R420) -/
  carries : Option Nat
  cells : List Nat
  deriving DecidableEq, Repr

/-- The MAC (R318–R367). -/
structure Mac where
  /-- the superframe offset in force, in ms (R319) -/
  offset : Nat
  /-- `BCN_CFGn` in force by lane: a write takes effect at the next superframe -/
  bcn : Tbl Word
  /-- the superframe last started -/
  sfn : Option Nat
  /-- sum of the magnitudes of the Datum steps so far in ns, and its value at each node's last synchronisation (R320) -/
  stepped : Nat
  synced : Tbl Nat
  nbrs : Tbl Nbr
  wakes : Tbl Wake
  joins : List Join
  /-- parcels whose completed join awaits its first hit (R362) -/
  joining : List Nat
  /-- entries sent in a SLOT_ASSIGN and not yet acknowledged: parcel, entries with their indices (R364) -/
  assigns : List (Nat × List (Nat × Nat × Nat))
  /-- sub-channel offset and bandwidth of a joined node, those of its JOIN_REQ (R361): bandwidth code + 4 × the 17-bit
  offset -/
  bands : Tbl Nat
  /-- UP_BYTES + 256 × DL_BYTES of a joined node's JOIN_REQ, plus one (R339, R360) -/
  sizes : Tbl Nat
  /-- superframe of the last wake exchange for a node's downlinks, plus one (R358) -/
  woken : Tbl Nat
  /-- beacons sent lately: lane, SFN, and `stepped` as it was when they were sent, newest first (R320, R405) -/
  beacons : List (Nat × Nat × Nat)
  /-- RESP_BYTES in force when PE13 sized an UPLINK entry (R352), plus one -/
  sized : Tbl Nat
  /-- superframe that began under another offset: its number, its start in Datum ns, and the offset before it, in ms (R319) -/
  trans : Option (Nat × Nat × Nat)
  /-- the entries wait to be examined again, or neighbours to be treated with the words of `NBRk_ID` and `NBRk_BCN` as EN was written,
  until the slot table may be written (R333, R365, R635) -/
  recheck : Bool
  nbrDue : List (Nat × Word × Word)
  /-- wake telegrams with CMD 0x81 still to be sent for reset parcels: lane, address (R606) -/
  rejoin : List (Nat × Nat)
  deriving DecidableEq, Repr

/-- The Cadastre (R390–R423). -/
structure Cad where
  /-- mailbox entries' contents by buffer -/
  dls : List Dl
  /-- messages held outside a full mailbox: parcel, body (R406) -/
  held : List (Nat × List Byte)
  /-- power to be set after a SLOT_ASSIGN, by parcel (R409) -/
  after : Tbl Nat
  /-- parcel, counter and command of downlinks that ended other than OK, one per parcel (R621) -/
  ended : List (Nat × Nat × CmdId)
  /-- Datum second of the last REPLAY event, plus one (R423) -/
  replayAt : Nat
  /-- outcomes of a peer's last OFDM frames, newest first: failed or not; its last values of MEAN_SNR; lane and channel of
  its last frame; Datum second of the last MAP_UNKNOWN answer (R298, R310) -/
  bads : Tbl (List Bool)
  snrs : Tbl (List Nat)
  heard : Tbl (Nat × Nat)
  unknownAt : Tbl Nat
  /-- Datum second at which a peer's receive map was issued (R298) -/
  issuedAt : Tbl Nat
  /-- the retiring store: peer, generation, map bytes, Datum second of the issue, generation issued (R309) -/
  retiring : List (Nat × Nat × List Byte × Nat)
  deriving DecidableEq, Repr

/-- A lane's share of an update session (R437–R442). -/
structure UpdLane where
  lane : Nat
  entry : Nat
  sf : Nat
  /-- frame positions per occurrence -/
  frames : Nat
  /-- rounds begun before this one; a frame carries the low eight bits (R431) -/
  round : Nat
  /-- frames sent so far: FCNT's low bits -/
  sent : Nat
  /-- ESIs still to send in this round; round 0 instead counts `nextEsi` up to K -/
  due : List Nat
  nextEsi : Nat
  /-- 0 sending, 1 collecting, 2 finished -/
  stage : Nat
  /-- superframe of the last END frame, and REPORT_SF -/
  endSfn : Nat
  gap : Nat
  /-- largest need reported in the gap, by generation; reports received in it, and the parcels that sent them -/
  need : Tbl Nat
  reports : List Nat
  /-- repair symbols planned for the round -/
  planned : Nat
  deriving DecidableEq, Repr

/-- An update session (R434–R443). Its counts and state stand in `UPD.SESSk`. -/
structure Sess where
  sid : Nat
  session : Nat
  image : Nat
  group : Nat
  micLen : Nat
  startSfn : Nat
  endSfn : Nat
  lanes : List UpdLane
  /-- next unused repair index by generation, for all lanes (R427) -/
  nextR : Tbl Nat
  /-- STATE before a suspension (R443) -/
  suspended : Option Nat
  deriving DecidableEq, Repr

/-- Update distribution (R424–R445). -/
structure Upd where
  sessions : List Sess
  nextSession : Nat
  /-- targets whose last invite ended other than OK (R435) -/
  retry : List Nat
  /-- digests of the valid images -/
  digests : Tbl (List Byte)
  /-- GROUP by session number: it goes into the K_MC of the invites, which may be sent after their session has ended (R432, R434) -/
  groups : Tbl Nat
  deriving DecidableEq, Repr

/-- The Cox unit (R646–R657). -/
structure Cox where
  /-- the unit charges; the floors have been computed (R647) -/
  running : Bool
  floored : Bool
  balance : Tbl Int
  /-- use in the present heat -/
  used : Tbl Nat
  /-- accounts whose overrun of this heat is counted -/
  counted : List Nat
  /-- Datum second of the last OVERRUN event of an account -/
  toldAt : Tbl Nat
  /-- capacity of the fabric and of an engine in the present heat; that of lane time -/
  capacity : Nat
  laneTime : Nat
  deriving DecidableEq, Repr

/-- A NEW uplink whose visible effects wait for the bow's acknowledgement of its delta (R634). -/
structure HeldUp where
  mseq : Nat
  frame : RxFrame
  gap : Nat
  newSession : Bool
  /-- it goes toward the host -/
  deliver : Bool
  /-- the acknowledgement on the air that is still to be sent -/
  owed : Option Owed
  deriving DecidableEq, Repr

/-- A takeover in progress or offered (R640, R643): its trigger, whether the bow was FRESH, the CLK_DATUM cycle of the
trigger, and whether its items have been applied. -/
structure Takeover where
  trigger : Nat
  since : Nat
  /-- MSEQ that RELINQUISH names, for trigger 3 -/
  upTo : Nat
  started : Bool
  deriving DecidableEq, Repr

/-- Stroke and bow (R624–R644). -/
structure Red where
  /-- RED.CTRL.EN as it was at the last entry to READY (R625) -/
  en : Bool
  /-- a HELLO has arrived since, and the role has been decided -/
  decided : Bool
  /-- the partner's last HELLO -/
  partner : Option MirrorItem
  /-- next MSEQ to send, last MSEQ applied -/
  txNext : Nat
  rxLast : Nat
  /-- frames sent and not acknowledged, oldest first -/
  unacked : List (Nat × List MirrorItem)
  /-- the mirrored DRAM and the epochs of the key slots as they have been sent -/
  image : List Host.Cell
  epochs : Tbl Nat
  held : List HeldUp
  /-- the latest BCN_SCHED: SFN and lanes; consecutive misses; bit n: the stroke's beacon of lane n was received in this superframe -/
  sched : Option (Nat × Nat)
  missRow : Nat
  heard : Nat
  /-- the last DATUM item showed LOCKED; the bow's Datum has been stepped to the stroke's since the pairing -/
  datumLocked : Bool
  aligned : Bool
  takeover : Option Takeover
  /-- the link has been PAIRED since BOOT -/
  wasPaired : Bool
  /-- ROLE_SWAP in progress, and RELINQUISH sent in the present superframe (R644) -/
  swap : Option CmdId
  offered : Bool
  /-- the ROLE_SWAP that timed out after its offer: the bow's report is then late (R621) -/
  swapLate : Option CmdId
  /-- the claim was dropped after a conflict and waits (R628) -/
  backoff : Bool
  /-- cycle at which ILK_IN last became inactive -/
  ilkSince : Nat
  deriving DecidableEq, Repr

/-- The mesh units as they are at the entry to BOOT. -/
def Mac.init : Mac :=
  { offset := 0, bcn := [], sfn := none, stepped := 0, synced := [], nbrs := [], wakes := [], joins := [], joining := [], assigns := [],
    bands := [], sizes := [], woken := [], beacons := [], sized := [], trans := none, recheck := false, nbrDue := [], rejoin := [] }
def Rgl.init : Rgl := { cur := AcctSet.none, next := none, due := false, rsv := 0x0000320A#32 }
def Cad.init : Cad :=
  { dls := [], held := [], after := [], ended := [], replayAt := 0, bads := [], snrs := [], heard := [], unknownAt := [],
    issuedAt := [], retiring := [] }
def Upd.init : Upd := { sessions := [], nextSession := 1, retry := [], digests := [], groups := [] }
def Red.init : Red :=
  { en := false, decided := false, partner := none, txNext := 1, rxLast := 0, unacked := [], image := [], epochs := [], held := [],
    sched := none, missRow := 0, heard := 0, datumLocked := false, aligned := false, takeover := none, wasPaired := false, swap := none,
    offered := false, swapLate := none, backoff := false, ilkSince := 0 }
def Cox.init : Cox :=
  { running := false, floored := false, balance := [], used := [], counted := [], toldAt := [], capacity := 0,
    laneTime := 0 }

end Sys2Proof.Machine
end

