-- ==== Sys2Proof/Machine/StSecure.lean ====
section
/-!
DEFINITION. Sys2Proof/Machine/StSecure.lean: the hidden state of chapter 17: key slots in ReRAM and their working copies,
the key-store mask, replacements in progress, the host crypto job, the GCM queue, the TRNG and the tamper record.
-/
namespace Sys2Proof.Machine

/-- One half of a key slot in ReRAM (R559). -/
structure KeyHalf where
  ct : List Byte
  epoch : Nat
  tag : List Byte
  attr : Nat
  commit : Nat
  deriving DecidableEq, Repr

/-- A half as delivered: erased, hence UNCOMMITTED. -/
def KeyHalf.erased : KeyHalf := { ct := [], epoch := 0, tag := [], attr := 0, commit := 0xFFFF }

/-- A key slot (R553): its two halves, its state, the state a replacement began from, and its working copy. -/
structure Slot where
  a : KeyHalf
  b : KeyHalf
  /-- 0 EMPTY, 1 VALID, 2 BAD, 3 REPLACING -/
  state : Nat
  /-- the state it serves in while REPLACING -/
  prev : Nat
  /-- the live half is B -/
  liveB : Bool
  /-- the working copy of the live key, and its attributes -/
  key : List Byte
  attr : Nat
  deriving DecidableEq, Repr

/-- An erased slot. -/
def Slot.empty : Slot :=
  { a := KeyHalf.erased, b := KeyHalf.erased, state := 0, prev := 0, liveB := false, key := [], attr := 0 }

/-- A replacement of a slot's key in progress (R572): `phase` 0 the key is being computed, 1 the target half is written,
2 the commit is made. -/
structure Replace where
  slot : Nat
  /-- the KEY_REPLACE command; none for a KEY_AGREE job -/
  cmd : Option CmdId
  key : List Byte
  attr : Nat
  epoch : Nat
  targetB : Bool
  phase : Nat
  deriving DecidableEq, Repr

/-- A host crypto job (R585–R587): its OP, the status already decided, and the message bytes of a SHA256 job. -/
structure Job where
  op : Nat
  status : Option Nat
  data : List Byte
  deriving DecidableEq, Repr

/-- A job result (R587). -/
structure JobResult where
  op : Nat
  status : Nat
  bytes : List Byte
  deriving DecidableEq, Repr

/-- The TRNG (R588, R589): consecutive failed collections, a collection in progress, the start-up tests running, generate
requests since the last seed. -/
structure Trng where
  fails : Nat
  collecting : Bool
  testing : Bool
  requests : Nat
  /-- the raw sample last consumed (R63) -/
  rawLast : Nat
  deriving DecidableEq, Repr

/-- The tamper record (R581, R706, R707). -/
structure TamperRecord where
  source : Nat
  sensor : Nat
  devState : Nat
  aonTime : Nat
  datumSec : Nat
  reported : Bool
  deriving DecidableEq, Repr

/-- The security group. -/
structure Secure where
  slots : Tbl Slot
  repl : List Replace
  /-- the two copies of the key-store mask and its shadow in AON (R577) -/
  maskA : Option (List Byte)
  maskB : Option (List Byte)
  maskShadow : Option (List Byte)
  job : Option Job
  result : Option JobResult
  /-- the words of the result last consumed, VALID cleared (R63) -/
  resultLast : List (BitVec 32)
  /-- GCM requests that wait, oldest first: whether the tag of each verifies (R582) -/
  gcm : List Bool
  /-- next slot of the sweep (R564) -/
  sweepNext : Nat
  trng : Trng
  tamper : Option TamperRecord
  /-- ZOT halves still to be overwritten (R579) -/
  zotDue : Bool
  /-- both device keys are programmed (R552) -/
  roots : Bool
  deriving DecidableEq, Repr

/-- The security group as delivered: every slot erased, no mask, the device keys programmed. -/
def Secure.init : Secure :=
  { slots := [], repl := [], maskA := none, maskB := none, maskShadow := none, job := none, result := none, resultLast := [], gcm := [],
    sweepNext := 0, trng := { fails := 0, collecting := false, testing := true, requests := 0, rawLast := 0 }, tamper := none,
    zotDue := false, roots := true }

end Sys2Proof.Machine
end

