-- ==== Sys2Proof/Machine/Phy.lean ====
section
/-!
DEFINITION. Sys2Proof/Machine/Phy.lean: the chirp physical layer as functions (R227–R243): symbols and airtimes, the sync
word, the PHY header with its CRC-8 and Golay code, whitening, the nibble code, interleaving, the CRC-16, and the bins of a
whole chirp frame; and the wake telegram (R354).
-/
namespace Sys2Proof.Machine

/-- One bit of a reflected CRC-32 with polynomial `poly`. -/
def crcBit (poly c : Nat) : Nat := if c % 2 = 1 then c / 2 ^^^ poly else c / 2

/-- One byte of a reflected CRC-32. -/
def crcByte (poly c : Nat) (b : Byte) : Nat :=
  crcBit poly (crcBit poly (crcBit poly (crcBit poly (crcBit poly (crcBit poly (crcBit poly (crcBit poly (c ^^^ b.toNat))))))))

/-- A reflected CRC-32 with all-ones start and final complement. -/
def crc32With (poly : Nat) (bs : List Byte) : Nat := bs.foldl (crcByte poly) 0xFFFFFFFF ^^^ 0xFFFFFFFF

/-- The CRC-32 of IEEE 802.3 (R287, R505). -/
def crc32 (bs : List Byte) : Nat := crc32With 0xEDB88320 bs

/-- CRC-32C (R172). -/
def crc32c (bs : List Byte) : Nat := crc32With 0x82F63B78 bs

/-- Chirp bandwidth of a code of R270 in kHz. -/
def chirpKhz (bw : Nat) : Nat := 125 * 2 ^ bw

/-- Duration of a chirp symbol in µs (R227): 2^SF chips of 8, 4, 2 or 1 µs. -/
def symUs (sf bw : Nat) : Nat := 2 ^ sf * 2 ^ (3 - bw)

/-- The binary-reflected Gray code (R229). -/
def gray (x : Nat) : Nat := x ^^^ (x / 2)

/-- The exclusive-or of `x` shifted right by 1, 2, …, `n` places: with `x`, the inverse of the Gray code. -/
def xorShifts (x : Nat) : Nat → Nat
  | 0 => x
  | n + 1 => xorShifts x n ^^^ (x / 2 ^ (n + 1))

/-- The number whose Gray code is `v`, for `v` below 2^`n`. -/
def ungray (n v : Nat) : Nat := xorShifts v n

/-- The high nibble and the sum of the nibbles of a network code (R231). -/
def codeU (c : Nat) : Nat := c / 16
def codeW (c : Nat) : Nat := (c / 16 + c % 16) % 16

/-- A reserved network code (R232). -/
def codeReserved (c : Nat) : Bool := codeU c == 0 || codeU c == 15 || codeW c == 0 || codeW c == 15

/-- Two bins within ±1 of each other, modulo 2^SF (R231). -/
def nearBin (sf a b : Nat) : Bool :=
  let d := (a + 2 ^ sf - b % 2 ^ sf) % 2 ^ sf
  d ≤ 1 || d + 1 == 2 ^ sf

/-- The sync symbols match a network code (R231): each lies within ±1 bin of its place, measured from its reference. `bin1` and `bin2`
are the bins less their references. -/
def codeMatches (sf c bin1 bin2 : Nat) : Bool :=
  nearBin sf bin1 (codeU c * 2 ^ (sf - 4)) && nearBin sf bin2 (codeW c * 2 ^ (sf - 4))

/-- A bin less its reference, modulo 2^SF. -/
def relBin (sf bin ref : Nat) : Nat := (bin + 2 ^ sf - ref % 2 ^ sf) % 2 ^ sf

/-- One bit into a left-shifting CRC register of `w` bits. -/
def crcShift (w poly crc : Nat) (b : Bool) : Nat :=
  let top := bit crc (w - 1)
  let c := crc * 2 % 2 ^ w
  if top != b then c ^^^ poly else c

/-- A byte, most significant bit first, into a left-shifting CRC register. -/
def crcOctet (w poly crc : Nat) (b : Byte) : Nat :=
  [7, 6, 5, 4, 3, 2, 1, 0].foldl (fun c i => crcShift w poly c (bit b.toNat i)) crc

/-- The CRC-8 of the PHY header, the frame-control word and the wake telegram (R234). -/
def crc8 (bs : List Byte) : Nat := bs.foldl (crcOctet 8 0x2F) 0xFF ^^^ 0xFF

/-- The CRC-16 of a CSS payload (R237). -/
def crc16 (bs : List Byte) : Nat := bs.foldl (crcOctet 16 0x1021) 0xFFFF

/-- The sum modulo 2 of the `n` low bits. -/
def parity (x : Nat) : Nat → Bool
  | 0 => false
  | n + 1 => bit x n != parity x n

/-- One step of the division by the Golay generator: bit `k` of the remainder is cleared (R235). -/
def golayStep (r k : Nat) : Nat := if bit r k then r ^^^ (0xC75 * 2 ^ (k - 11)) else r

/-- The (24,12) codeword of a 12-bit half (R235). -/
def golay24 (h : Nat) : Nat :=
  let r := [22, 21, 20, 19, 18, 17, 16, 15, 14, 13, 12, 11].foldl golayStep (h * 2048)
  let x := h * 2048 + r % 2048
  x + 2 ^ 23 * b01 (parity x 23)

/-- How many of the `n` low bits are 1. -/
def popcount (x : Nat) : Nat → Nat
  | 0 => 0
  | n + 1 => b01 (bit x n) + popcount x n

/-- The half whose codeword lies within three bits of `x` (R236). -/
def golayDecode (x : Nat) : Option Nat := (List.range 4096).find? (fun h => popcount (golay24 h ^^^ x) 24 ≤ 3)

/-- The low 16 bits of the header word with its fields (R233). -/
def headerLow (mode length rate : Nat) : Nat := mode % 4 + 4 * (length % 2048) + 0x2000 * (rate % 4)

/-- The header word H (R233, R234). -/
def headerWord (mode length rate : Nat) : Nat :=
  let low := headerLow mode length rate
  low + 0x10000 * crc8 (leBytes 2 low)

/-- MODE, LENGTH and RATE of a header word (R233). -/
def hdrMode (h : Nat) : Nat := bitsOf h 0 2
def hdrLength (h : Nat) : Nat := bitsOf h 2 11
def hdrRate (h : Nat) : Nat := bitsOf h 13 2

/-- The 48 coded header bits c with c[2t] = a[t] and c[2t+1] = b[t] (R235). -/
def headerBits (h : Nat) : List Bool :=
  let a := golay24 (bitsOf h 0 12)
  let b := golay24 (bitsOf h 12 12)
  (List.range 24).flatMap (fun t => [bit a t, bit b t])

/-- The number whose bits are listed, least significant first. -/
def bitsNat : List Bool → Nat
  | [] => 0
  | b :: t => b01 b + 2 * bitsNat t

/-- Groups of `n` of a list; `k` groups. -/
def groups {α : Type} (l : List α) (n : Nat) : Nat → List (List α)
  | 0 => []
  | k + 1 => l.take n :: groups (l.drop n) n k

/-- The eight 6-bit values of the header symbols (R235). -/
def headerSymbols (h : Nat) : List Nat := (groups (headerBits h) 6 8).map bitsNat

/-- The two 24-bit words received from eight header values (R235). -/
def headerCodewords (vals : List Nat) : Nat × Nat :=
  let c := vals.flatMap (fun v => (List.range 6).map (fun q => bit v q))
  (bitsNat ((List.range 24).map (fun t => (c.drop (2 * t)).headD false)),
   bitsNat ((List.range 24).map (fun t => (c.drop (2 * t + 1)).headD false)))

/-- What the check of a header shows (R236). -/
inductive HeaderCheck where
  | fail | invalid
  | valid (h : Nat)
  deriving DecidableEq, Repr

/-- The check of a header from its eight 6-bit values (R236). -/
def headerCheck (vals : List Nat) : HeaderCheck :=
  match golayDecode (headerCodewords vals).1, golayDecode (headerCodewords vals).2 with
  | some a, some b =>
    let h := a + 4096 * b
    if crc8 (leBytes 2 (h % 2 ^ 16)) != h / 2 ^ 16 then .fail
    else if hdrMode h ≥ 2 then .invalid
    else if hdrLength h = 0 || (hdrMode h = 0 && 255 < hdrLength h) then .invalid
    else .valid h
  | _, _ => .fail

/-- The next state of the PN11 generator (R238). -/
def pn11Next (s : Nat) : Nat := s / 2 + 1024 * ((s ^^^ (s / 4)) % 2)

/-- The output bits of the PN11 generator from a state (R238, R282). -/
def pn11 (s : Nat) : Nat → List Bool
  | 0 => []
  | n + 1 => bit s 0 :: pn11 (pn11Next s) n

/-- The bits of bytes, each byte least significant bit first (R238). -/
def bitStream (bs : List Byte) : List Bool := bs.flatMap (fun b => (List.range 8).map (fun i => bit b.toNat i))

/-- Whitening of a bit stream (R238). -/
def whiten (bits : List Bool) : List Bool := List.zipWith (fun a b => a != b) bits (pn11 0x7FF bits.length)

/-- The codeword of a nibble at CR 4/(4+k), as 4 + k bits (R239). -/
def nibbleCode (k v : Nat) : List Bool :=
  let d (i : Nat) := bit v i
  let p0 := (d 0 != d 1) != d 3
  let p1 := (d 0 != d 2) != d 3
  let p2 := (d 1 != d 2) != d 3
  let p3 := (d 0 != d 1) != d 2
  [d 0, d 1, d 2, d 3]
    ++ (match k with
        | 1 => [p3 != d 3]
        | 2 => [p0, p1]
        | 3 => [p0, p1, p2]
        | _ => [p0, p1, p2, p3])

/-- A nibble whose 4/8 codeword lies within one bit of 8 received bits (R286). -/
def nibbleDecode (bits : List Bool) : Option Nat :=
  (List.range 16).find? (fun v => ((List.zipWith (fun a b => b01 (a != b)) bits (nibbleCode 4 v)).foldl (· + ·) 0) ≤ 1)

/-- Blocks of a CSS payload (R240, R241). -/
def cssBlocks (sf length : Nat) : Nat := ceilDiv (2 * (length + 2)) sf

/-- N_pay of a CSS payload (R241); `rate` is the code of R233. -/
def cssPaySymbols (sf length rate : Nat) : Nat := cssBlocks sf length * (5 + rate)

/-- Airtime of a CSS frame in µs (R243). -/
def cssAirUs (sf bw npre length rate : Nat) : Nat := (4 * (npre + cssPaySymbols sf length rate) + 49) * symUs sf bw / 4

/-- The chirp part of an OFDM frame in µs (R243). -/
def chirpPartUs (sf bw npre : Nat) : Nat := (4 * npre + 49) * symUs sf bw / 4

/-- The coded bits of one block: codeword i bit j stands in bit (13i + 5j) mod SF of symbol j (R240). -/
def blockSymbols (sf width : Nat) (cws : List (List Bool)) : List Nat :=
  (List.range width).map (fun j =>
    (List.range sf).foldl (fun v i =>
      if ((cws.drop i).headD []).drop j |>.headD false then v + 2 ^ ((13 * i + 5 * j) % sf) else v) 0)

/-- The SF-bit values of the payload symbols of a CSS frame (R237–R240). -/
def cssPayValues (sf rate : Nat) (payload : List Byte) : List Nat :=
  let data := payload ++ leBytes 2 (crc16 payload)
  let blocks := cssBlocks sf payload.length
  let bits := whiten (bitStream data ++ List.replicate (4 * (blocks * sf - 2 * data.length)) false)
  let cws := (groups bits 4 (blocks * sf)).map (fun b => nibbleCode (rate + 1) (bitsNat b))
  (groups cws sf blocks).flatMap (blockSymbols sf (5 + rate))

/-- The codewords of one block from the values of its symbols (R240): the inverse of `blockSymbols`. -/
def blockCodewords (sf width : Nat) (vals : List Nat) : List (List Bool) :=
  (List.range sf).map (fun i => (List.range width).map (fun j => bit ((vals.drop j).headD 0) ((13 * i + 5 * j) % sf)))

/-- The received codewords of a CSS payload from the bins decided for its symbols: the Gray map back, then block by block the
deinterleaving (R229, R240). -/
def cssCodewords (sf length rate : Nat) (bins : List Nat) : List (List Bool) :=
  let vals := bins.map (fun b => gray (b % 2 ^ sf))
  (groups vals (5 + rate) (cssBlocks sf length)).flatMap (blockCodewords sf (5 + rate))

/-- In how many places two words differ. -/
def distance (a b : List Bool) : Nat := (List.zipWith (fun x y => b01 (x != y)) a b).foldl (· + ·) 0

/-- The nibbles whose codewords at CR 4/(4+k) lie nearest to a received word. -/
def nearestNibbles (k : Nat) (bits : List Bool) : List Nat :=
  let best := (List.range 16).foldl (fun m v => min m (distance bits (nibbleCode k v))) 16
  (List.range 16).filter (fun v => distance bits (nibbleCode k v) == best)

/-- The bytes of a stream of bits, each byte least significant bit first. -/
def streamBytes (bits : List Bool) : List Byte := (groups bits 8 (bits.length / 8)).map (fun b => BitVec.ofNat 8 (bitsNat b))

/-- The LENGTH + 2 bytes of a CSS payload from its decoded nibbles: de-whitened, the nibbles that only complete the last block
discarded (R237, R238, R240). -/
def cssBytes (length : Nat) (nibbles : List Nat) : List Byte :=
  let bits := nibbles.flatMap (fun v => [bit v 0, bit v 1, bit v 2, bit v 3])
  streamBytes ((whiten bits).take (8 * (length + 2)))

/-- One chirp element of a frame (R228, R230). -/
inductive Chirp where
  | up (bin : Nat)
  | down (bin : Nat)
  | quarter
  deriving DecidableEq, Repr

/-- The chirps of a frame up to the end of its header (R230, R231, R235). -/
def chirpHead (sf npre code h : Nat) : List Chirp :=
  List.replicate npre (.up 0)
    ++ [.up (codeU code * 2 ^ (sf - 4)), .down (codeW code * 2 ^ (sf - 4)), .quarter, .down 0, .down 0]
    ++ (headerSymbols h).map (fun v => .up (2 ^ (sf - 6) * ungray 6 v))

/-- The chirps of a CSS payload (R229, R237–R241). -/
def chirpPayload (sf rate : Nat) (payload : List Byte) : List Chirp :=
  (cssPayValues sf rate payload).map (fun v => .up (ungray sf v))

/-- The 72 chips of a wake telegram, first chip first (R354). -/
def wakeChips (addr cmd : Nat) : List Bool :=
  let bytes := beBytes 3 0xAAAAD3 ++ beBytes 4 addr ++ beBytes 1 cmd ++ beBytes 1 (crc8 (beBytes 4 addr ++ beBytes 1 cmd))
  bytes.flatMap (fun b => [7, 6, 5, 4, 3, 2, 1, 0].map (fun i => bit b.toNat i))

end Sys2Proof.Machine
end

