-- ==== Sys2Proof/Machine/Tones.lean ====
section
/-!
DEFINITION. Sys2Proof/Machine/Tones.lean: the OFDM payload as functions (R277–R291, R301–R305): numerology, the
frame-control word, the LDPC code, loading and mapping of tones, and tone maps.
-/
namespace Sys2Proof.Machine

/-- m of a channel bandwidth code of R184; 0 where the channel carries no OFDM payload (R277, R279). -/
def ofdmM (bwCode : Nat) : Nat := if bwCode = 0 || 4 < bwCode then 0 else 2 ^ (bwCode - 1)

/-- Occupied bandwidth of an OFDM signal in Hz (R277): 2 × 29m + 1 tones of 15.625 kHz. -/
def ofdmHz (m : Nat) : Nat := (58 * m + 1) * 15625

/-- Whether |k| is a pilot place (R278). -/
def isPilot (m a : Nat) : Bool := 7 ≤ a && (a - 7) % 14 == 0 && (a - 7) / 14 < 2 * m

/-- The used tones in increasing k: −29m … −1, 1 … 29m (R278). -/
def usedTones (m : Nat) : List Int :=
  ((List.range (29 * m)).map (fun (i : Nat) => (i : Int) - (29 * m : Nat))) ++ ((List.range (29 * m)).map (fun (i : Nat) => (i : Int) + 1))

/-- The data tones in increasing k (R278). -/
def dataTones (m : Nat) : List Int := (usedTones m).filter (fun k => !isPilot m k.natAbs)

/-- The pilot tones in increasing k (R278). -/
def pilotTones (m : Nat) : List Int := (usedTones m).filter (fun k => isPilot m k.natAbs)

/-- The order in which the data tones of a symbol are visited: positions (17 j) mod D (R291). -/
def visitOrder (m : Nat) : List Nat := (List.range (54 * m)).map (fun j => 17 * j % (54 * m))

/-- Number of quiet symbols of a QUIET code (R284). -/
def quietCount (code : Nat) : Nat := match code with | 0 => 0 | 1 => 1 | 2 => 2 | _ => 4

/-- The square of the scale of a tone loaded with `b` bits (R290): the sum of the mean squares of its axes, so that the point has unit mean
power. -/
def toneNorm (b : Nat) : Nat := ((4 ^ ceilDiv b 2 - 1) + (4 ^ (b / 2) - 1)) / 3

/-- A tone: the point (`i` + j `q`) / √`norm` (R290). -/
structure ToneLevel where
  tone : Int
  i : Int
  q : Int
  norm : Nat
  deriving DecidableEq, Repr

/-- A BPSK value on a tone: 2x − 1 (R282, R283). -/
def bpsk (k : Int) (x : Bool) : ToneLevel := { tone := k, i := if x then 1 else -1, q := 0, norm := 1 }

/-- A training symbol (R282). -/
def trainingSymbol (m : Nat) : List ToneLevel := List.zipWith bpsk (usedTones m) (pn11 0x7FF (58 * m))

/-- Output bit `i` of the PN11 generator from 0x7FF (R283). -/
def pnBit (i : Nat) : Bool := (pn11 0x7FF (i + 1)).getLastD false

/-- The pilots of symbol `sym` (R283). -/
def pilotSymbol (m sym : Nat) : List ToneLevel :=
  (pilotTones m).map (fun k => bpsk k (if 0 < k then pnBit (sym % 2047) else !pnBit (sym % 2047)))

/-- The FC word (R284). -/
def fcWord (mapType sel gen quiet : Nat) : Nat :=
  let low := mapType % 2 + 2 * (sel % 4096) + 0x2000 * (gen % 8) + 0x10000 * (quiet % 4)
  low + 2 ^ 24 * crc8 (leBytes 3 low)

/-- Fields of the FC word (R284). -/
def fcMapType (f : Nat) : Nat := bitsOf f 0 1
def fcSel (f : Nat) : Nat := bitsOf f 1 12
def fcGen (f : Nat) : Nat := bitsOf f 13 3
def fcQuiet (f : Nat) : Nat := bitsOf f 16 2

/-- The 64 coded bits of the FC word (R285). -/
def fcBits (f : Nat) : List Bool := (List.range 8).flatMap (fun i => nibbleCode 4 (bitsOf f (4 * i) 4))

/-- The level l with gray(l) = g, as the amplitude 2l − (2^b − 1); 0 on an axis without bits (R290). -/
def axisLevel (bits : List Bool) : Int :=
  let b := bits.length
  let g := bitsNat bits.reverse
  if b = 0 then 0 else 2 * (ungray b g : Int) - ((2 ^ b - 1 : Nat) : Int)

/-- A data tone loaded with the bits listed (R290). -/
def loadTone (k : Int) (bits : List Bool) : ToneLevel :=
  let bi := ceilDiv bits.length 2
  { tone := k, i := axisLevel (bits.take bi), q := axisLevel (bits.drop bi), norm := toneNorm bits.length }

/-- The FC symbol: QPSK on every data tone, the coded bits repeating (R285). -/
def fcSymbol (m f : Nat) : List ToneLevel :=
  let c := fcBits f
  let ts := dataTones m
  ((List.range (54 * m)).map (fun j =>
      loadTone ((ts.drop (17 * j % (54 * m))).headD 0)
        [(c.drop (2 * j % 64)).headD false, (c.drop ((2 * j + 1) % 64)).headD false]))
    ++ pilotSymbol m 0

/-- A valid FC symbol's word from its 64 coded bits (R286). -/
def fcDecode (bits : List Bool) : Option Nat :=
  let vs := (groups bits 8 8).map nibbleDecode
  if vs.any (fun v => v.isNone) then none
  else
    let f := (vs.map (fun v => v.getD 0)).foldr (fun v acc => v + 16 * acc) 0
    if crc8 (leBytes 3 (f % 2 ^ 24)) != f / 2 ^ 24 then none
    else if fcMapType f = 0 && (fcSel f = 0 || 12 < fcSel f) then none
    else some f

/-- K_b and M of an LDPC rate code (R288). -/
def ldpcKb (rate : Nat) : Nat := match rate with | 0 => 12 | 1 => 16 | 2 => 18 | _ => 20
def ldpcM (rate : Nat) : Nat := 24 - ldpcKb rate

/-- Information bits of a codeword (R288). -/
def ldpcK (rate : Nat) : Nat := 54 * ldpcKb rate

/-- P^s applied to a block of 54 bits: bit i of the result is bit (i + s) mod 54 (R288). -/
def rotBlock (s : Nat) (x : List Bool) : List Bool := x.drop (s % 54) ++ x.take (s % 54)

/-- The sum of two blocks modulo 2. -/
def addBlock (a b : List Bool) : List Bool := List.zipWith (fun x y => x != y) a b

/-- A block of zeros. -/
def zeroBlock : List Bool := List.replicate 54 false

/-- The information part of check row `r` (R288). -/
def ldpcLambda (rate : Nat) (u : List (List Bool)) (r : Nat) : List Bool :=
  (List.range (ldpcKb rate)).foldl (fun acc c =>
    if (c + ldpcM rate - r) % ldpcM rate < 3 then
      addBlock acc (rotBlock (11 * (r + 1) * (2 * c + 1) % 54) ((u.drop c).headD zeroBlock))
    else acc) zeroBlock

/-- The parity blocks K_b + 1 … of a codeword, in order, from row `j` on; `p` is the block before, `p0` block K_b. -/
def ldpcParity (rate : Nat) (u : List (List Bool)) (p0 : List Bool) : Nat → Nat → List Bool → List (List Bool)
  | 0, _, _ => []
  | n + 1, j, p =>
    let q := if j = 0 then addBlock (ldpcLambda rate u 0) (rotBlock 1 p0)
      else addBlock (addBlock (ldpcLambda rate u j) p) (if j = ldpcM rate / 2 then p0 else zeroBlock)
    q :: ldpcParity rate u p0 n (j + 1) q

/-- The codeword of k information bits: they stand first, and H × codeword = 0 (R288). Adding the M block rows gives the
block K_b as the sum of the information parts; every further block follows from the row before it. -/
def ldpcEncode (rate : Nat) (info : List Bool) : List Bool :=
  let u := groups info 54 (ldpcKb rate)
  let p0 := (List.range (ldpcM rate)).foldl (fun acc r => addBlock acc (ldpcLambda rate u r)) zeroBlock
  info ++ p0 ++ (ldpcParity rate u p0 (ldpcM rate - 1) 0 zeroBlock).flatten

/-- Codewords of a payload (R289). -/
def ofdmCodewords (length rate : Nat) : Nat := ceilDiv (8 * (length + 4)) (ldpcK rate)

/-- Data symbols of a payload (R289). -/
def ofdmSymbols (length rate bSym : Nat) : Nat := ceilDiv (1296 * ofdmCodewords length rate) bSym

/-- Duration of the OFDM part in µs (R280). -/
def ofdmPartUs (length rate bSym quiet : Nat) : Nat := (3 + ofdmSymbols length rate bSym + quiet) * 72

/-- The coded bit stream of a payload (R287, R288). -/
def ofdmStream (payload : List Byte) (rate : Nat) : List Bool :=
  let data := payload ++ leBytes 4 (crc32 payload)
  let bits := whiten (bitStream data)
  let n := ofdmCodewords payload.length rate
  let info := bits ++ List.replicate (n * ldpcK rate - bits.length) false
  (groups info (ldpcK rate) n).flatMap (ldpcEncode rate)

/-- The tones of one data symbol: positions visited in order, each taking its bits from the stream (R290, R291). -/
def fillTones (ts : List Int) (load : List Nat) : List Nat → List Bool → List ToneLevel
  | [], _ => []
  | d :: ds, bits =>
    let b := (load.drop d).headD 0
    if b = 0 then fillTones ts load ds bits
    else loadTone ((ts.drop d).headD 0) (bits.take b ++ List.replicate (b - bits.length) false)
           :: fillTones ts load ds (bits.drop b)

/-- The data symbols from number `sym` on, with their pilots (R283, R291). -/
def dataSymbols (m : Nat) (load : List Nat) (bSym : Nat) : Nat → Nat → List Bool → List (List ToneLevel)
  | 0, _, _ => []
  | n + 1, sym, bits =>
    (fillTones (dataTones m) load (visitOrder m) bits ++ pilotSymbol m sym)
      :: dataSymbols m load bSym n (sym + 1) (bits.drop bSym)

/-- The OFDM part of a frame: training, FC, data and quiet symbols (R280). -/
def ofdmPart (m f rate : Nat) (load : List Nat) (payload : List Byte) : List (List ToneLevel) :=
  let bSym := load.foldl (· + ·) 0
  let n := ofdmSymbols payload.length rate bSym
  [trainingSymbol m, trainingSymbol m, fcSymbol m f]
    ++ dataSymbols m load bSym n 1 (ofdmStream payload rate)
    ++ (List.range (quietCount (fcQuiet f))).map (fun i => pilotSymbol m (n + 1 + i))

/-! ### Levels in dB -/

/-- 10 log10(a / b) reaches x / k dB: a^(10 k) is at least b^(10 k) × 10^x. -/
def dbReaches (k a b : Nat) (x : Int) : Bool :=
  if 0 ≤ x then b ^ (10 * k) * 10 ^ x.toNat ≤ a ^ (10 * k) else b ^ (10 * k) ≤ a ^ (10 * k) * 10 ^ (-x).toNat

/-- 10 log10(a / b) in 1/k dB, rounded down, saturating at −16,384 and +16,383. -/
def levelDb (k a b : Nat) : Int :=
  [16384, 8192, 4096, 2048, 1024, 512, 256, 128, 64, 32, 16, 8, 4, 2, 1].foldl
    (fun (x : Int) (d : Nat) => if dbReaches k a b (x + d) then x + d else x) (-16384)

/-- 10 log10(a / b) in 0.01 dB. -/
def centiDb (a b : Nat) : Int := levelDb 100 a b

/-- The `k`-th root of `n`, rounded down, of at most 80 bits. -/
def rootFloor (k n : Nat) : Nat := (List.range 80).reverse.foldl (fun r i => if (r + 2 ^ i) ^ k ≤ n then r + 2 ^ i else r) 0

/-- The power ratio of `q` in 0.25 dB, times 2⁶⁴ and rounded down. -/
def ratio64 (q : Int) : Nat :=
  if 0 ≤ q then rootFloor 40 (2 ^ 2560 * 10 ^ q.toNat) else rootFloor 40 (2 ^ 2560 / 10 ^ (-q).toNat)

/-! ### Tone maps (R301–R305) -/

/-- A(b) in 0.01 dB (R301). -/
def loadNeed (b : Nat) : Int :=
  match b with
  | 1 => 0 | 2 => 477 | 3 => 845 | 4 => 1176 | 5 => 1491 | 6 => 1799 | 7 => 2104 | 8 => 2407 | 9 => 2708 | 10 => 3010
  | 11 => 3311 | _ => 3612

/-- G(R) in 0.01 dB (R301). -/
def rateNeed (rate : Nat) : Int := match rate with | 0 => 150 | 1 => 300 | 2 => 400 | _ => 500

/-- b_d(R): the largest b up to `maxBits` whose threshold an SNR meets; 0 if none (R301). Values in 0.01 dB. -/
def loadBits (snr margin : Int) (rate : Nat) : Nat → Nat
  | 0 => 0
  | b + 1 => if loadNeed (b + 1) + rateNeed rate + margin ≤ snr then b + 1 else loadBits snr margin rate b

/-- The loading of every data tone at a rate (R301). -/
def loading (snrs : List Int) (margin : Int) (maxBits rate : Nat) : List Nat :=
  snrs.map (fun x => loadBits x margin rate maxBits)

/-- R as a fraction of 12 (R288). -/
def rate12 (rate : Nat) : Nat := match rate with | 0 => 6 | 1 => 8 | 2 => 9 | _ => 10

/-- The rate with the largest B(R) × R, the lower rate on a tie (R302). -/
def bestRate (snrs : List Int) (margin : Int) (maxBits : Nat) : Nat :=
  let score (r : Nat) := (loading snrs margin maxBits r).foldl (· + ·) 0 * rate12 r
  [1, 2, 3].foldl (fun best r => if score best < score r then r else best) 0

/-- The bytes of a map: two tones a byte, the low nibble first (R303). -/
def mapBytes : List Nat → List Byte
  | [] => []
  | [a] => [BitVec.ofNat 8 a]
  | a :: b :: t => BitVec.ofNat 8 (a + 16 * b) :: mapBytes t

/-- The loading a map of `n` tones gives, a nibble above 12 taken as 0 (R305). -/
def mapLoad (bs : List Byte) (n : Nat) : List Nat :=
  let ns := bs.flatMap (fun b => [b.toNat % 16, b.toNat / 16])
  (ns.take n).map (fun v => if 12 < v then 0 else v)

end Sys2Proof.Machine
end

