-- ==== Sys2Proof/Machine/State.lean ====
section
/-!
DEFINITION. Sys2Proof/Machine/State.lean: the state of the device, the reasons a step can stop, and the state after reset.
-/
namespace Sys2Proof.Machine

/-- The reasons for a fault. No meaning of this model faults: the spec gives every event an effect on every state. -/
inductive Fault where
  /-- Raised by nobody. Safe. -/
  | none
  deriving DecidableEq, Repr

/-- The reasons for a refusal. -/
inductive Refusal where
  /-- The command has no meaning yet; raised by the arm of `exec` that names it. Safe. -/
  | notModelled (mnemonic : String)
  deriving DecidableEq, Repr

/-- What the device sends outward, in the order in which it sends it. -/
inductive Out where
  /-- the data of a register read -/
  | readData (src : Requester) (addr : Nat) (data : Word)
  /-- a read that ended in a bus error (R37) -/
  | readAbort (src : Requester) (addr : Nat)
  /-- the bytes an SPI frame returned (R84) -/
  | spi (bytes : List Byte)
  /-- a DMA write to host memory -/
  | dmaWrite (addr : Nat) (bytes : List Byte)
  /-- a DMA read of host memory asked for -/
  | dmaRead (addr len : Nat)
  /-- a frame sent by an Ethernet port, FCS included -/
  | eth (port : Nat) (bytes : List Byte)
  /-- an MDIO frame: Clause 45, OP, PHYAD, REG, DATA -/
  | mdio (port : Nat) (cl45 : Bool) (op phyad reg data : Nat)
  /-- an MSI-X message: the write that the vector's table entry names -/
  | msix (vector : Nat)
  /-- what a read of configuration space shows: vendor, device, revision, class code, the words the host writes and the errors shown (R79),
  the six BAR words (R80) -/
  | config (vendor device revision classCode : Nat) (busMaster msixEnable intxDisable : Bool) (cfg : PcieCfg) (bars : List Word)
  /-- a word read in BAR2 (R80) -/
  | bar2 (off : Nat) (data : Word)
  /-- a chirp part sent by a lane: channel, digital offset, transmit gain entry, SF, bandwidth code, START, its chirps -/
  | chirp (lane channel : Nat) (offset : Int) (gain sf bw start : Nat) (chirps : List Chirp)
  /-- the OFDM part that follows it (R314): transmit gain entry, mean power below the chirp part's in the units of BACKOFF, limit of the
  peaks above the mean in dB, the tones of each symbol -/
  | ofdm (lane gain backoff clip : Nat) (symbols : List (List ToneLevel))
  /-- a wake telegram: lane, channel, gain entry, START, chips -/
  | ook (lane channel gain start : Nat) (chips : List Bool)
  /-- a mirror frame: MSEQ, the cumulative acknowledgement, its items (R631) -/
  | mirror (mseq ack : Nat) (items : List MirrorItem)
  /-- a PMBus transaction asked for: address, PEC, command, data (0 for a read) (R677) -/
  | pmbus (addr : Nat) (pec : Bool) (command data : Nat)
  /-- a transmission cut at the interlock gate after FEMn_PAEN had been active (R219) -/
  | cut (lane channel : Nat)
  deriving DecidableEq, Repr

/-- The whole state of the device. -/
structure State where
  /-- commands waiting, first in, first out -/
  pending : List Instr
  /-- the register file: the words that differ from their reset value -/
  regs : Tbl Word
  /-- the in-package DRAM: the bytes that are not zero (R18) -/
  dram : List Host.Cell
  /-- what the device has sent outward, oldest first -/
  out : List Out
  /-- the model's own: how many free values have been drawn -/
  fresh : Nat
  /-- the Datum counter (R528) -/
  now : Time
  dev : Device
  boot : Boot
  nv : NonVol
  stage : Stage
  bus : Bus
  ind : Ind
  host : HostIf
  rings : Tbl Ring
  log : EventLog
  fab : Fabric
  tss : Sched
  gates : Tbl GateList
  sec : Secure
  ports : Tbl Port
  dtm : Datum
  lanes : Tbl LaneSt
  mac : Mac
  rgl : Rgl
  cad : Cad
  upd : Upd
  cox : Cox
  red : Red
  mem : MemSt
  mgm : Margin
  pow : Power
  bst : Bist
  deriving DecidableEq, Repr

/-- Boot progress at the entry to BOOT. -/
def Boot.init : Boot :=
  { fromWatch := false, pllLocked := false, seletChecked := false, seletCopy := 0, seletIndex := 0, seletWait := .none,
    seletDone := false, dramReady := false, marchResult := 0, watchScrubbed := false, fwOrder := none, fwTried := 0, fwDone := false,
    keysLoaded := false, trngDone := false }

/-- The event log at the entry to BOOT: empty (R114). -/
def EventLog.init : EventLog :=
  { queue := [], srcSeq := [], evrOn := false, evrPhase := true, missed := none, lastBreak := none, inRing := [] }

/-- Configuration space when it is cleared: 128 and 512 bytes, D0, ASPM off. -/
def PcieCfg.init : PcieCfg := { maxPayload := 128, maxRead := 512, d3hot := false, aspmL1 := false, bars := [], aer := 0#32 }

/-- The host attachment when its registers are reset. -/
def HostIf.init (perstLow : Bool) : HostIf :=
  { perstLow := perstLow, busMaster := false, msixEnable := false, intxDisable := false, cfg := PcieCfg.init,
    vecMask := 2 ^ 32 - 1, vecTable := [], vecDue := 0,
    disarmed := 0, spiPrevBad := false }

/-- The device just after a power-on reset has been released: the state is BOOT (R25, R157), every register holds its
factory default, `NVC.RESET_SRC` shows POWER_ON (R158), BOOT_START has occurred (R182), and nothing else of the boot sequence has
been done. -/
def State.reset : State :=
  { pending := [], regs := [(0x0102C, 0x00010000#32)], dram := [], out := [], fresh := 0, now := ⟨0, 0, 0⟩,
    dev := { inReset := false, resetCode := 0, lastTrans := 0, secureLatch := false, softResetDue := false, engines := [],
             fwVersion := none, fwRollback := 0, upCycles := 0, maintLanes := [], bistRan := false },
    boot := Boot.init,
    nv := { copyA := [], copyB := [], seletFloor := 0, fwFloor := 0, keyHash := .blank, bootCount := 1 },
    stage := { words := [], op := none },
    bus := { shadow := [], hold := [], goPending := [] },
    ind := { busy := none, word := 0#32, last := 0#32, group := none },
    host := HostIf.init true,
    rings := [],
    log := { EventLog.init with
      queue := [{ sec := 0, ns := 0, page := 0x01, sub := 0, code := 0x0500, severity := 0, data := [0#8, 0#8] }] },
    fab := Fabric.init,
    tss := { egresses := [], classes := [], policers := [], radio := [], snapping := none },
    gates := [],
    sec := Secure.init,
    ports := [],
    dtm := Datum.init, lanes := [], mac := Mac.init, rgl := Rgl.init, cad := Cad.init, upd := Upd.init, cox := Cox.init,
    red := Red.init, mem := MemSt.init, mgm := Margin.init AgeLog.init, pow := Power.init, bst := Bist.init }

end Sys2Proof.Machine
end

