-- ==== Sys2Proof/Machine/Ops.lean ====
section
/-!
DEFINITION. Sys2Proof/Machine/Ops.lean: the named operations over the register file, the DRAM, the output, the free values
and the event queue, and the decoding of register addresses (R33–R36, R30).
-/
namespace Sys2Proof.Machine

/-- What exec answers: the next state. -/
abbrev Result := Host.Outcome State Fault Refusal

/-- The word stored at register address `a`; its reset value where nothing else is stored. -/
def State.reg (s : State) (a : Nat) : Word := Tbl.get resetWord s.regs a

/-- Storing a word at register address `a`. -/
def State.setReg (s : State) (a : Nat) (w : Word) : State := { s with regs := Tbl.put resetWord s.regs a w }

/-- The value of a field. -/
def State.fld (s : State) (f : Fld) : Nat := bitsOf (s.reg f.addr).toNat f.lsb f.width

/-- A one-bit field as a truth value. -/
def State.flag (s : State) (f : Fld) : Bool := s.fld f == 1

/-- Storing the low bits of `v` in a field. -/
def State.setFld (s : State) (f : Fld) (v : Nat) : State := s.setReg f.addr (insBits (s.reg f.addr) f.lsb f.width v)

/-- Counting `k` events in a CNT field, which saturates at its all-ones value (R47). -/
def State.count (s : State) (f : Fld) (k : Nat) : State := s.setFld f (satAdd f.width (s.fld f) k)

/-- Storing a 64-bit value in two words, the low word first (R59). -/
def State.setWide (s : State) (a : Nat) (v : Nat) : State :=
  (s.setReg a (BitVec.ofNat 32 v)).setReg (a + 4) (BitVec.ofNat 32 (v / 2 ^ 32))

/-- The 64-bit value of two words, the low word first (R59). -/
def State.wide (s : State) (a : Nat) : Nat := (s.reg a).toNat + 2 ^ 32 * (s.reg (a + 4)).toNat

/-- Sending something outward. -/
def State.send (s : State) (o : Out) : State := { s with out := s.out ++ [o] }

/-- One free value of the model drawn: its number, and the state in which the next one is another. -/
def State.draw (s : State) : Nat × State := (s.fresh, { s with fresh := s.fresh + 1 })

/-- What an unlisted byte of DRAM reads as. -/
def dramByte : Nat → Byte := fun _ => 0#8

/-- The canonical form of the memory: addresses strictly rising, no entry equal to what an unlisted address reads as. -/
def Memory.wf (m : List Host.Cell) : Bool := Tbl.wf dramByte m

/-- One byte of DRAM. -/
def State.ram (s : State) (a : Nat) : Byte := Tbl.get dramByte s.dram a

/-- `n` bytes of DRAM from address `a`. -/
def State.ramBytes (s : State) (a n : Nat) : List Byte := (List.range n).map (fun i => s.ram (a + i))

/-- The little-endian number in `n` bytes of DRAM from address `a`. -/
def State.ramNat (s : State) (a n : Nat) : Nat := leNat (s.ramBytes a n)

/-- Bytes stored from address `a` on in the cells of a memory. -/
def storeBytes : List Host.Cell → Nat → List Byte → List Host.Cell
  | m, _, [] => m
  | m, a, b :: t => storeBytes (Tbl.put dramByte m a b) (a + 1) t

/-- Storing bytes in the DRAM from address `a` on. -/
def State.ramStore (s : State) (a : Nat) (bs : List Byte) : State := { s with dram := storeBytes s.dram a bs }

/-- Emptying the DRAM from `lo` up to but not including `hi` (R26, R114). -/
def State.ramClear (s : State) (lo hi : Nat) : State :=
  { s with dram := s.dram.filter (fun c => c.1 < lo || hi ≤ c.1) }

/-- The occurrence of an event, at the present Datum time (R115). Its record is written by EVENT_RECORD_WRITE. -/
def State.event (s : State) (page sub code severity : Nat) (data : List Byte) : State :=
  { s with log := { s.log with queue := s.log.queue ++
      [{ sec := s.now.sec, ns := s.now.ns, page := page, sub := sub, code := code, severity := severity, data := data }] } }

/-- `DEV_STATE` (R24): 1 BOOT, 2 READY, 3 MAINTENANCE, 4 SECURE_HOLD, 5 WATCH. -/
def State.devState (s : State) : Nat := s.fld F.SYS_STATUS_DEV_STATE

/-- In BOOT, READY, MAINTENANCE or SECURE_HOLD, where registers answer (R24, R30). -/
def State.answers (s : State) : Bool := !s.dev.inReset && s.devState != 5 && !s.pow.stopped

/-- In READY or MAINTENANCE (R30). -/
def State.inOperation (s : State) : Bool := s.answers && (s.devState == 2 || s.devState == 3)

/-- In READY or MAINTENANCE, with no BIST run since: the ports, the lanes and the engines work (R712). -/
def State.operating (s : State) : Bool := s.inOperation && !s.dev.bistRan

/-- The engines other than PE15 run: a verified bundle has been loaded (R178, R180, R712). -/
def State.engaged (s : State) : Bool := s.operating && s.dev.fwVersion.isSome

/-- State of engine PE`n` (R6, R9). -/
def State.engine (s : State) (n : Nat) : EngineState := Tbl.get (fun _ => EngineState.stopped) s.dev.engines n

/-- Storing the state of engine PE`n`. -/
def State.setEngine (s : State) (n : Nat) (e : EngineState) : State :=
  { s with dev := { s.dev with engines := Tbl.put (fun _ => EngineState.stopped) s.dev.engines n e } }

/-- An engine that does no work until PE15 has restarted it (R9). -/
def engineOut (s : State) (n : Nat) : Bool := s.engine n == .restarting || s.engine n == .failed

/-- Neither engine of lane `n` is being restarted or waits for it: the lane receives and transmits (R9, R10). -/
def laneServed (s : State) (n : Nat) : Bool := !engineOut s (2 * n) && !engineOut s (2 * n + 1)

/-- In READY. -/
def State.ready (s : State) : Bool := s.answers && s.devState == 2

/-- In BOOT. -/
def State.booting (s : State) : Bool := s.answers && s.devState == 1

/-- Whether the device state opens a page (R30). -/
def State.pageOpen (s : State) (page : Nat) : Bool :=
  match s.devState with
  | 1 => page == 0 || page == 1 || page == 2 || page == 4 || page == 5 || page == 6
  | 2 => true
  | 3 => true
  | 4 => page == 0 || page == 2 || page == 4 || page == 5
  | _ => false

/-- The pop addresses of R66: page, offset of the lowest word, number of words. -/
def popTable : List (Nat × Nat × Nat) :=
  [(0x05, 0x240, 9), (0x21, 0x040, 9), (0x21, 0x064, 1), (0x24, 0x070, 5), (0x25, 0x070, 5), (0x26, 0x088, 4),
   (0x29, 0x100, 17), (0x2A, 0x040, 1), (0x30, 0x040, 5)]

/-- The pop address whose words hold page offset `off` (R66). -/
def popOf (page off : Nat) : Option (Nat × Nat × Nat) :=
  popTable.find? (fun e => e.1 == page && e.2.1 ≤ off && off < e.2.1 + 4 * e.2.2)

/-- The pop address whose peek alias holds page offset `off` (R66). -/
def peekOf (page off : Nat) : Option (Nat × Nat × Nat) := if off < 0x400 then none else popOf page (off - 0x400)

/-- The word a byte address lies in: the images of R38 are one register, and bits [1:0] are no part of it (R38, R39, R85). -/
def wordAddr (a : RegAddr) : Nat := a.val % 0x100000 / 4 * 4

/-- Whether register address `a` is implemented (R34–R36, R66). R751 ends every access to a PE page from 0x040 upward in a bus
error, while R34 has the alias area of every implemented page implemented: the alias area of the PE pages answers here, the model's
choice (log entry 105). -/
def implemented (a : Nat) : Bool :=
  match blockOf (a / 0x1000) with
  | none => false
  | some _ =>
    a % 0x1000 < 0x040 || 0x800 ≤ a % 0x1000 || (specOf a).isSome || (peekOf (a / 0x1000) (a % 0x1000)).isSome

/-- An accessor for numbered records kept sparsely. -/
def State.ring (s : State) (k : Nat) : Ring := Tbl.get (fun _ => Ring.init) s.rings k

/-- Storing ring `k`. -/
def State.setRing (s : State) (k : Nat) (r : Ring) : State := { s with rings := Tbl.put (fun _ => Ring.init) s.rings k r }

/-- A count of nanoseconds and seconds as one number of nanoseconds. -/
def Time.toNs (t : Time) : Nat := t.sec * 1000000000 + t.ns

/-- The present Datum time in nanoseconds. -/
def State.nowNs (s : State) : Nat := s.now.toNs

/-- The stroke's HOLD: no commit that would produce a mirror item (R635); nor during the offer of a swap (R644). -/
def holding (s : State) : Bool := s.flag F.RED_STATUS_HOLD || s.red.offered

/-! ### The course of Datum (R528, R531, R540) -/

/-- A time in units of 2⁻³² ns. -/
def Time.units (t : Time) : Nat := t.toNs * 2 ^ 32 + t.frac

/-- The time of so many units of 2⁻³² ns, with NS normalised. -/
def Time.ofUnits (u : Nat) : Time := { sec := u / 2 ^ 32 / 1000000000, ns := u / 2 ^ 32 % 1000000000, frac := u % 2 ^ 32 }

/-- The counter lies where its latest stretch of constant rate has brought it: it has been neither stepped nor set since its last cycle. -/
def onTrack (s : State) (e : Stretch) : Bool := e.cycle ≤ s.dev.upCycles && e.units + (s.dev.upCycles - e.cycle) * e.rate == s.now.units

/-- In the last CLK_DATUM cycle the counter came to or passed an instant that lies `adv` ns before a multiple of `interval` ns. An instant
passed over by a step is not passed so (R494, R548). -/
def crossed (s : State) (adv interval : Nat) : Bool :=
  let number (u : Nat) : Nat := (u + adv * 2 ^ 32) / (interval * 2 ^ 32)
  match s.dtm.track with
  | e :: _ => e.cycle < s.dev.upCycles && onTrack s e && number (s.now.units - e.rate) != number s.now.units
  | [] => false

end Sys2Proof.Machine
end

