-- ==== Sys2Proof/Machine/Flags.lean ====
section
/-!
DEFINITION. Sys2Proof/Machine/Flags.lean: the interrupt causes, the vectors and the error capture: every computation of a
status flag (R41–R45, R110–R113).
-/
namespace Sys2Proof.Machine

/-- The page interrupt of a page is active (R42); that of CMD covers bits [31:8] alone (R110). -/
def pageActive (s : State) (page : Nat) : Bool :=
  s.reg (page * 0x1000 + 0x010) &&& s.reg (page * 0x1000 + 0x014) &&& (if page = 0x05 then 0xFFFFFF00#32 else 0xFFFFFFFF#32) != 0#32

/-- The vectors of the page interrupts now active (R42, R110). -/
def pageVectors (s : State) : List Nat :=
  s.regs.filterMap (fun e =>
    if e.1 % 0x1000 = 0x014 then
      let page := e.1 / 0x1000
      if !pageActive s page then none
      else
        let m := bitsOf (s.reg (A.HIF_VEC_MAP (page / 4))).toNat (8 * (page % 4)) 8
        if bit m 7 then none else some (m % 32)
    else none)

/-- The vectors of the CMD causes that have vectors of their own (R110). -/
def cmdVectors (s : State) : List Nat :=
  let st := (s.reg A.CMD_IRQ_STAT).toNat
  if st = 0 then [] else
  ((List.range 4).filterMap (fun k => if bit st k then some (s.fld (F.CMD_RING_CTRL_VEC k)) else none))
    ++ (if bit st 4 then [s.fld F.CMD_CTRL_MBX_VEC] else [])
    ++ (if bit st 5 || bit st 6 then [s.fld F.CMD_EVR_CTRL_VEC] else [])

/-- The vectors now active (R110). -/
def activeVectors (s : State) : List Nat := pageVectors s ++ cmdVectors s

/-- The message of vector `v` falls due: sent and disarmed, or kept due while Bus Master Enable is 0 or the vector is
masked (R111, R752). -/
def fireVector (s : State) (v : Nat) : State :=
  if bit s.host.disarmed v then s
  else if s.host.busMaster && !bit s.host.vecMask v then
    { s with out := s.out ++ [.msix v],
             host := { s.host with disarmed := s.host.disarmed ||| 2 ^ v,
                                   vecDue := s.host.vecDue &&& ((2 ^ 32 - 1) ^^^ 2 ^ v) } }
  else { s with host := { s.host with vecDue := s.host.vecDue ||| 2 ^ v } }

/-- With MSI-X enabled, every armed and active vector sends its message (R111). -/
def fire (s : State) : State :=
  if s.host.msixEnable then (activeVectors s).foldl fireVector s else s

/-- The messages that are due and no longer deferred are sent (R111, R752). -/
def releaseDue (s : State) : State :=
  if s.host.msixEnable then
    (List.range 32).foldl (fun s v => if bit s.host.vecDue v then fireVector s v else s) s
  else s

/-- A hardware set of `IRQ_STAT` bit `b` of a page (R41, R46). -/
def setCause (s : State) (page b : Nat) : State :=
  let a := page * 0x1000 + 0x010
  fire (s.setReg a (s.reg a ||| BitVec.ofNat 32 (2 ^ b)))

/-- Recording an error in a page's `ERR_CAP` and `ERR_ADDR` and setting `IRQ_STAT.ERR` (R41, R43). A first error leaves MORE as it
stands (R43, R47). -/
def recordErr (s : State) (page code src addr : Nat) : State :=
  let a := page * 0x1000 + 0x01C
  let cap := s.reg a
  setCause
    (if bit cap.toNat 31 then s.setReg a (insBits cap 24 7 (satAdd 7 (bitsOf cap.toNat 24 7) 1))
     else (s.setReg a (insBits (insBits cap 0 16 (src * 256 + code)) 31 1 1)).setReg (page * 0x1000 + 0x020) (BitVec.ofNat 32 addr))
    page 31

/-- A bus error: recorded in HIF, with the requester and the address of the access (R36, R37). -/
def busError (s : State) (src : Requester) (a : Nat) : State := recordErr s 0x04 0x02 src.code a

/-- What a read that ends in a bus error returns (R37): JTAG debug access reads 0. -/
def abortRead (s : State) (src : Requester) (a : Nat) : State :=
  (busError s src a).send (if src = .jtag then .readData src a 0#32 else .readAbort src a)

/-- A register write is let through, ends in a bus error, or completes without effect in SECURE_HOLD (R30, R36). The
SELET loader and the engines reach every implemented page (R170). -/
def gateWrite (s : State) (src : Requester) (a : Nat) (k : State → State) : State :=
  if !s.answers then s
  else if !implemented a then busError s src a
  else match src with
    | .pcie | .spi | .jtag =>
      if !s.pageOpen (a / 0x1000) then busError s src a
      else if s.devState == 4 && a / 0x1000 != 5 then recordErr s (a / 0x1000) 0x01 src.code a
      else k s
    | _ => k s

/-- A register read is let through or ends in a bus error (R30, R36). -/
def gateRead (s : State) (src : Requester) (a : Nat) (k : State → State) : State :=
  if !s.answers then s
  else if !implemented a then abortRead s src a
  else match src with
    | .pcie | .spi | .jtag => if s.pageOpen (a / 0x1000) then k s else abortRead s src a
    | _ => k s

end Sys2Proof.Machine
end

