-- ==== Sys2Proof/Machine/Reserved.lean ====
section
/-!
DEFINITION. Sys2Proof/Machine/Reserved.lean: which values of which fields are reserved encodings (R50), page by page, from
the register tables of spec/02 to spec/23.
-/
namespace Sys2Proof.Machine

/-- A network code is reserved when its u or its w is 0x0 or 0xF (R232). -/
def reservedCode (c : Nat) : Bool :=
  let u := c / 16 % 16
  let w := (c / 16 % 16 + c % 16) % 16
  u == 0 || u == 15 || w == 0 || w == 15

/-- Outside the range `lo`–`hi`. -/
def outside (v lo hi : Nat) : Bool := v < lo || hi < v

/-- Reserved encodings of the control pages 0x00 to 0x07. -/
def reservedPlatform (off lsb v w page : Nat) : Bool :=
  match page, off, lsb with
  | 0x00, 0x030, 0 => outside v 1 1000
  | 0x00, 0x040, 0 => outside v 60 256
  | 0x00, 0x040, 16 => (v != 0 && outside v 14 244) || (v != 0 && bitsOf w 0 9 < v + 12)
  | 0x01, 0x008, 0 => v == 3
  | 0x02, 0x02C, 16 => v == 0
  | 0x03, 0x02C, 0 => bit v 31
  | 0x03, 0x030, 0 => v != 0 && !bit v 31
  | 0x04, 0x008, 0 => v == 3
  | 0x04, 0x008, 9 => 23 < v
  | 0x05, 0x040, 16 => outside v 1 64
  | 0x05, 0x140, 14 => 4 < v
  | 0x06, 0x02C, 0 => v == 3
  | 0x07, 0x028, 0 => !(v ≤ 0x1B || v == 0xF0 || v == 0xF1)
  | _, _, _ => false

/-- Reserved encodings of the radio pages 0x10 to 0x1B. -/
def reservedRadio (off lsb v w page : Nat) : Bool :=
  match page, off, lsb with
  | 0x10, 0x008, 4 => v == 3
  | 0x10, 0x02C, 0 => signed 8 v < -47 || 16 < signed 8 v
  | 0x14, 0x028, 0 => reservedCode v
  | 0x14, 0x028, 8 => reservedCode v && bit w 16
  | 0x14, 0x028, 16 => v == 1 && reservedCode (bitsOf w 8 8)
  | 0x14, 0x02C, 0 => outside v 3 6
  | 0x14, 0x030, 0 => outside v 8 64
  | 0x18, 0x028, 7 => outside v 1 12
  | 0x18, 0x028, 11 => v == 0
  | 0x18, 0x02C, 0 => v == 0
  | 0x18, 0x02C, 16 => v == 0
  | 0x18, 0x02C, 24 => v == 0
  | 0x18, 0x030, 0 => outside v 1 12
  | 0x18, 0x030, 16 => outside v 6 12
  | 0x18, 0x034, 0 => v == 0
  | _, _, _ => false

/-- Reserved encodings of the mesh pages 0x1C to 0x1F. -/
def reservedMesh (off lsb v w page : Nat) : Bool :=
  match page, off, lsb with
  | 0x1C, 0x030, 8 => v == 0
  | 0x1C, 0x030, 16 => outside v 500 20000
  | 0x1C, 0x034, 0 => outside v 100 5000
  | 0x1C, 0x034, 16 => outside v 5 60
  | 0x1C, 0x038, 4 => bitsOf w 8 3 < v
  | 0x1C, 0x038, 8 => v < bitsOf w 4 3
  | 0x1C, 0x038, 16 => 200 < v
  | 0x1C, 0x038, 24 => outside v 20 255
  | 0x1C, 0x040, 18 => v != 0 && outside v 8 64
  | 0x1C, 0x040, 25 => v == 7
  | 0x1C, 0x100, 24 => outside v 8 64
  | 0x1D, 0x028, 0 => 6 < v
  | 0x1D, 0x02C, 0 => 50 < v
  | 0x1D, 0x02C, 8 => outside v 1 90
  | 0x1D, 0x030, 0 => 100 < v
  | 0x1E, 0x028, 16 => v == 0
  | 0x1E, 0x02C, 8 => signed 8 (bitsOf w 16 8) < signed 8 v
  | 0x1E, 0x02C, 16 => signed 8 v < signed 8 (bitsOf w 8 8)
  | 0x1E, 0x030, 0 => v == 0
  | 0x1F, 0x028, 0 => 4 < v
  | 0x1F, 0x028, 16 => outside v 1 90
  | 0x1F, 0x028, 24 => v == 0
  | 0x1F, 0x030, _ => v == 7
  | _, _, _ => false

/-- Reserved encodings of the forwarding pages 0x20 to 0x26. `x`: the instance of the block. -/
def reservedForward (s : State) (x off lsb v w page : Nat) : Bool :=
  match page, off, lsb with
  | 0x20, 0x028, 0 => 14336 < v
  | 0x20, 0x028, 16 => 8192 < v
  | 0x20, 0x02C, 0 => v == 7 || 4096 < bitsOf w 16 12 + 2 ^ v
  | 0x20, 0x02C, 16 => 4096 < v + 2 ^ bitsOf w 0 3
  | 0x21, 0x02C, 24 => 4 < v
  | 0x21, 0x030, 0 => v == 0
  | 0x21, 0x030, 16 => v == 0
  | 0x22, 0x02C, 8 => 9 < v
  | 0x22, 0x034, 0 => 12 < v
  | 0x22, 0x040, 0 => bit w 31 && outside v 1 2500000
  | 0x22, 0x044, 0 => v < 64
  | 0x22, 0x048, 0 => v < 64
  | 0x22, 0x100, 0 => v == 0
  | 0x22, 0x104, 0 => s.flag F.TSS_CLS_CFG_SHAPE_EN && outside v 1 2500000
  | 0x22, 0x108, 0 => v < 64
  | 0x22, 0x110, 0 => s.fld F.TSS_POL_PIR_RATE < v
  | 0x22, 0x114, 0 => v < 64
  | 0x22, 0x118, 0 => v < s.fld F.TSS_POL_CIR_RATE
  | 0x22, 0x11C, 0 => v < 64
  | 0x22, 0x140, 24 => v == 0
  | 0x23, 0x028, 16 => 5 < v
  | 0x24, 0x02C, 0 => outside v 1518 9600
  | 0x24, 0x034, _ => 4095 < s.fld (F.EM_RX_QCFG_RX_QBASE x) + v
  | 0x24, 0x038, 0 => (List.range 8).any (fun p => 4095 < v + bitsOf (s.reg (A.EM_RX_QMAP x)).toNat (4 * p) 4)
  | 0x24, 0x038, 28 => 7 < v
  | 0x24, 0x040, 0 => outside v 1 1000
  | 0x24, 0x040, 16 => v == 0
  | 0x24, 0x044, 16 => v == 0
  | 0x24, 0x048, 26 => v == 3
  | 0x24, 0x048, 28 => v == 3
  | 0x24, 0x068, 28 => !bit w 30 && (v == 0 || v == 3)
  | 0x24, 0x0E0, 0 => v == 0 && bit w 31
  | 0x26, 0x028, 0 => 5 < v
  | 0x26, 0x02C, 0 => outside v 1000 999999999
  | 0x26, 0x030, 0 => v == 0
  | 0x26, 0x030, 8 => v == 0
  | 0x26, 0x030, 16 => s.fld F.DTM_JUMP_THRESH_NS ≤ v * 1000
  | 0x26, 0x038, 8 => signed 8 v < -7 || 6 < signed 8 v
  | 0x26, 0x038, 16 => outside v 2 10
  | 0x26, 0x080, 16 => v == 0
  | 0x26, 0x084, 0 => v == 0
  | _, _, _ => false

/-- Reserved encodings of the security and supervision pages 0x28 to 0x33. -/
def reservedSecure (off lsb v w page : Nat) : Bool :=
  match page, off, lsb with
  | 0x29, 0x028, 8 => v == 0 || 6 < v
  | 0x29, 0x02C, 0 => 0x1FF < v && v != 0x3FF
  | 0x2A, 0x028, 0 => outside v 2 255
  | 0x2A, 0x028, 16 => outside v 257 512
  | 0x31, 0x02C, 0 => v ≤ 10 * bitsOf w 16 8 + bitsOf w 24 8
  | 0x31, 0x02C, 16 => v == 0
  | 0x31, 0x02C, 24 => v == 0
  | 0x32, 0x028, 0 => outside v 100 10000
  | 0x32, 0x02C, 0 => outside v 64 1024
  | 0x33, 0x008, 2 => v == 3
  | 0x33, 0x028, 0 => outside v 680 880
  | 0x33, 0x028, 16 => outside v 680 880 || v < bitsOf w 0 16
  | 0x33, 0x02C, 0 => outside v 800 1000 || v % 25 != 0
  | 0x33, 0x02C, 16 => outside v 800 1000 || v % 25 != 0 || v < bitsOf w 0 16
  | 0x33, 0x030, 16 => bitsOf w 24 8 ≤ v
  | 0x33, 0x034, 0 => v == 0
  | 0x33, 0x034, 16 => v < 60
  | 0x33, 0x038, 0 => outside v 1 (bitsOf w 8 8)
  | 0x33, 0x038, 24 => outside v 1 24 || v < bitsOf w 16 8
  | 0x33, 0x03C, 0 => outside v 1 (bitsOf w 16 16)
  | _, _, _ => false

/-- Whether value `v` of the field at bit `lsb` of the register at table offset `off` of instance `x` of block `page` is reserved, where
`w` is the whole word as it would stand after the write. -/
def reservedEnc (s : State) (x page off lsb v w : Nat) : Bool :=
  if page < 0x10 then reservedPlatform off lsb v w page
  else if page < 0x1C then reservedRadio off lsb v w page
  else if page < 0x20 then reservedMesh off lsb v w page
  else if page < 0x28 then reservedForward s x off lsb v w page
  else reservedSecure off lsb v w page

end Sys2Proof.Machine
end

