-- ==== Sys2Proof/Machine/RegWrite.lean ====
section
/-!
DEFINITION. Sys2Proof/Machine/RegWrite.lean: a software write field by field (R46, R50, R54–R57), the header registers
(R41, R44, R55), the read shadows and the write holdings of wide values (R59–R62).
-/
namespace Sys2Proof.Machine

/-- Whether the `LOCK` bit that governs a field is set (R54). The fields of a gate list are governed by LOCK0 for lists 0
and 1 and by LOCK1 for lists 2 to 5 (marked 31 in the register map). -/
def fieldLocked (s : State) (a : Nat) (f : FieldSpec) : Bool :=
  let lock := (s.reg (a / 0x1000 * 0x1000 + 0x024)).toNat
  if f.ty != .lk || f.lock == 32 then false
  else if f.lock == 31 then bit lock (if (a % 0x1000 - 0x040) / 0x20 < 2 then 0 else 1)
  else bit lock f.lock

/-- What a write has come to so far: the word, whether a locked field was reached, whether a reserved encoding was
written, and the GO bits written 1. -/
structure WriteAcc where
  word : Word
  locked : Bool
  reserved : Bool
  badAlias : Bool
  go : List Nat
  deriving DecidableEq, Repr

/-- One field of a software write (R46, R50, R53, R54). `mask` holds the bits written; a full-word write has them all. -/
def applyField (s : State) (a page off : Nat) (data mask : Word) (acc : WriteAcc) (f : FieldSpec) : WriteAcc :=
  let m := bitsOf mask.toNat f.lsb f.width
  let merged := (s.reg a &&& ~~~mask) ||| (data &&& mask)
  let v := bitsOf merged.toNat f.lsb f.width
  let d := bitsOf data.toNat f.lsb f.width
  let old := bitsOf (s.reg a).toNat f.lsb f.width
  if m = 0 then acc
  else match f.ty with
    | .rw | .lk =>
      if fieldLocked s a f then { acc with locked := true }
      else if reservedEnc s (a / 0x1000 - page) page off f.lsb v merged.toNat then { acc with reserved := true }
      else { acc with word := insBits acc.word f.lsb f.width v }
    | .w1c => { acc with word := insBits acc.word f.lsb f.width (old &&& ((2 ^ f.width - 1) ^^^ (d &&& m))) }
    | .cnt =>
      if m = 2 ^ f.width - 1 then { acc with word := insBits acc.word f.lsb f.width v } else { acc with badAlias := true }
    | .go =>
      if d % 2 = 1 then { acc with word := insBits acc.word f.lsb f.width 1, go := acc.go ++ [f.lsb] } else acc
    | .ro | .rc | .wo => acc

/-- The page a block's tables are kept under: its instance 0. -/
def basePage (page : Nat) : Nat :=
  match blockOf page with
  | some b => b.page
  | none => page

/-- A GO bit written 1: it reads 1 while the operation runs, and one further start is kept pending (R48). -/
def startGo (s : State) (a b : Nat) : State :=
  if bit (s.reg a).toNat b && !s.bus.goPending.contains (a * 32 + b) then
    { s with bus := { s.bus with goPending := s.bus.goPending ++ [a * 32 + b] } }
  else s.setReg a (s.reg a ||| BitVec.ofNat 32 (2 ^ b))

/-- The operation of a GO bit completes: a pending start begins at once and the bit stays 1, else the bit clears (R48).
The second component says whether a pending operation starts. -/
def endGo (s : State) (a b : Nat) : State × Bool :=
  if s.bus.goPending.contains (a * 32 + b) then
    ({ s with bus := { s.bus with goPending := s.bus.goPending.filter (· != a * 32 + b) } }, true)
  else (s.setReg a (s.reg a &&& ~~~(BitVec.ofNat 32 (2 ^ b))), false)

/-- A software write of the bits `mask` of the word at `a`, field by field (R46). One error of each kind is recorded for
one write (R50, R53, R57). -/
def writeFields (s : State) (src : Requester) (a : Nat) (data mask : Word) : State :=
  match specOf a with
  | none => s
  | some r =>
    let old := s.reg a
    let acc := r.fields.foldl (applyField s a (basePage (a / 0x1000)) r.off data mask)
      { word := old, locked := false, reserved := false, badAlias := false, go := [] }
    let goMask : Word := acc.go.foldl (fun w b => w ||| BitVec.ofNat 32 (2 ^ b)) 0#32
    let s := s.setReg a ((acc.word &&& ~~~goMask) ||| (old &&& goMask))
    let s := acc.go.foldl (fun s b => startGo s a b) s
    let s := if acc.locked then recordErr s (a / 0x1000) 0x01 src.code a else s
    let s := if acc.reserved then recordErr s (a / 0x1000) 0x05 src.code a else s
    if acc.badAlias then recordErr s (a / 0x1000) 0x04 src.code a else s

/-- An error that an alias write has just captured names the alias word (R43, R54). -/
def aliasError (s t : State) (src : Requester) (reg a : Nat) : State :=
  let cap := reg / 0x1000 * 0x1000 + 0x01C
  let new := !bit (s.reg cap).toNat 31 && bit (t.reg cap).toNat 31
  if new && t.reg (cap + 4) = BitVec.ofNat 32 reg && bitsOf (t.reg cap).toNat 8 8 = src.code then t.setReg (cap + 4) (BitVec.ofNat 32 a)
  else t

/-- The mask of a full-word write. -/
def allBits : Word := 0xFFFFFFFF#32

/-- The causes of a page that exist: the W1C bits of its `IRQ_STAT` (R41). -/
def causeMask (page : Nat) : Word :=
  match specOf (page * 0x1000 + 0x010) with
  | none => 0#32
  | some r => r.fields.foldl (fun w f => if f.ty = .w1c then w ||| insBits 0#32 f.lsb f.width (2 ^ f.width - 1) else w)
      (0x80000000#32)

/-- Writing 1s to `IRQ_FORCE` sets the matching causes as a hardware set would (R41). -/
def forceCauses (s : State) (page : Nat) (data : Word) : State :=
  let a := page * 0x1000 + 0x010
  fire (s.setReg a (s.reg a ||| (data &&& causeMask page)))

/-- The `LOCK` bits a page has (R41, R55). -/
def lockBits (page : Nat) : Word :=
  match specOf (page * 0x1000 + 0x024) with
  | none => 0#32
  | some r => r.fields.foldl (fun w f => if f.ty = .lk then insBits w f.lsb f.width (2 ^ f.width - 1) else w) 0#32

/-- A write of the bits `mask` of a page's `LOCK`: a 1 sets, a 0 leaves (R55). -/
def lockWrite (s : State) (page : Nat) (data mask : Word) : State :=
  let a := page * 0x1000 + 0x024
  s.setReg a (s.reg a ||| (data &&& mask &&& lockBits page))

/-- A software write of the bits `mask` of a register that has no effect but on itself; the header registers that are written
otherwise than field by field (R41, R42, R55). -/
def plainWrite (s : State) (src : Requester) (a : Nat) (data mask : Word) : State :=
  match a % 0x1000 with
  | 0x014 => fire (writeFields s src a data mask)
  | 0x018 => if (causeMask (a / 0x1000)) = 0#32 then s else forceCauses s (a / 0x1000) (data &&& mask)
  | 0x024 => lockWrite s (a / 0x1000) data mask
  | _ => writeFields s src a data mask

/-- The wide values (R59): address of the lowest word of each, and how many words it has. -/
def wideOf (a : Nat) : Option (Nat × Nat) :=
  let page := a / 0x1000
  let off := a % 0x1000
  let two (o : Nat) : Option (Nat × Nat) := if off = o || off = o + 4 then some (page * 0x1000 + o, 2) else none
  match page with
  | 0x05 =>
    if 0x040 ≤ off && off < 0x140 then
      let o := (off - 0x040) % 0x40
      if o = 0x08 || o = 0x0C then some (a - (o - 0x08), 2)
      else if o = 0x10 || o = 0x14 then some (a - (o - 0x10), 2) else none
    else two 0x144
  | 0x07 => if off < 0x038 then two 0x030 else two 0x038
  | 0x20 =>
    if 0x040 ≤ off && off < 0x140 then
      let o := (off - 0x040) % 0x20
      if o = 0x04 || o = 0x08 then some (a - (o - 0x04), 2) else none
    else none
  | 0x23 =>
    if 0x040 ≤ off && off < 0x100 then
      let o := (off - 0x040) % 0x20
      if o = 0x0C || o = 0x10 || o = 0x14 then some (a - (o - 0x0C), 3) else none
    else none
  | 0x24 => two 0x058
  | 0x25 => two 0x058
  | 0x26 =>
    if off = 0x060 || off = 0x064 || off = 0x068 || off = 0x06C then some (0x26060, 4)
    else if off < 0x050 then two 0x040 else if off < 0x060 then two 0x050 else two 0x074
  | 0x28 => two 0x034
  | 0x31 => if off < 0x048 then two 0x040 else two 0x048
  | _ => none

/-- The default of a requester's holding: no words of no value. -/
def noHold : Nat → WriteHold := fun _ => { base := 0, words := [] }

/-- The default of a requester's shadow. -/
def noShadow : Nat → ReadShadow := fun _ => { base := 0, words := [] }

/-- Storing the holding of a requester. -/
def setHold (s : State) (src : Requester) (h : WriteHold) : State :=
  { s with bus := { s.bus with hold := Tbl.put noHold s.bus.hold src.code h } }

/-- Every field of the word at `a` is locked (R54). -/
def wordLocked (s : State) (a : Nat) : Bool :=
  (specOf a).any (fun r => !r.fields.isEmpty && r.fields.all (fun f => fieldLocked s a f))

/-- A software write to a word of a wide value (R62): held, or, for the highest word, committed with the words held; a locked word is
neither held nor committed, and the write is a LOCK_VIOLATION (R54). `commit` writes one word of the value. -/
def wideWrite (s : State) (src : Requester) (a : Nat) (data : Word) (commit : State → Nat → Word → State) : State :=
  match wideOf a with
  | none => commit s a data
  | some (base, n) =>
    if wordLocked s a then recordErr s (a / 0x1000) 0x01 src.code a
    else
    let h := Tbl.get noHold s.bus.hold src.code
    let words := if h.base = base then h.words else []
    if a = base + 4 * (n - 1) then
      let s := setHold s src { base := 0, words := [] }
      commit (words.foldl (fun s w => commit s w.1 w.2) s) a data
    else
      setHold s src { base := base, words := Tbl.ins a data (Tbl.erase a words) }

/-- Latching the higher words of a value into the requester's read shadow (R59). -/
def latchShadow (s : State) (src : Requester) (base : Nat) (words : List Word) : State :=
  { s with bus := { s.bus with shadow := Tbl.put noShadow s.bus.shadow src.code { base := base, words := words } } }

/-- The word of the read shadow at place `i` (1 the second word of the value), without side effects (R61). A place beyond the words the
requester last latched, or before any latch, shows 0: the spec does not say what the shadow holds there (log entry 105). -/
def shadowWord (s : State) (src : Requester) (i : Nat) : Word :=
  ((Tbl.get noShadow s.bus.shadow src.code).words.drop (i - 1)).headD 0#32

end Sys2Proof.Machine
end

