-- ==== Sys2Proof/Machine/Rings.lean ====
section
/-!
DEFINITION. Sys2Proof/Machine/Rings.lean: the shared operations of the command rings and the mailbox: descriptors fetched
and taken, outcomes, completion records, the ring states (R91–R108, R113).
-/
namespace Sys2Proof.Machine

/-- `n` bytes the spec leaves open. -/
def drawBytes (s : State) : Nat → List Byte × State
  | 0 => ([], s)
  | n + 1 =>
    let d := s.draw
    let r := drawBytes d.2 n
    (Config.freeByte d.1 :: r.1, r.2)

/-- A number below `bound` the spec leaves open (0 for a bound of 0). -/
def drawNat (s : State) (bound : Nat) : Nat × State :=
  let d := s.draw
  (Config.freeNat d.1 % bound, d.2)

/-- State of ring `k`: 0 DISABLED, 1 RUNNING, 2 STOPPING, 3 FAULT (R101). -/
def ringState (s : State) (k : Nat) : Nat := s.fld (F.CMD_RING_STATUS_STATE k)

/-- Entries of the submission ring of ring `k`. -/
def sqSize (s : State) (k : Nat) : Nat := 2 ^ s.fld (F.CMD_RING_SIZE_SQ_LOG2 k)

/-- Entries of the completion ring of ring `k`. -/
def cqSize (s : State) (k : Nat) : Nat := 2 ^ s.fld (F.CMD_RING_SIZE_CQ_LOG2 k)

/-- The configuration checks of R102 made when a ring is enabled. -/
def ringConfigOk (s : State) (k : Nat) : Bool :=
  s.host.busMaster && !outside (s.fld (F.CMD_RING_SIZE_SQ_LOG2 k)) 4 12 && !outside (s.fld (F.CMD_RING_SIZE_CQ_LOG2 k)) 6 12
    && s.wide (A.CMD_RING_SQ_BASE k) % 64 == 0 && s.wide (A.CMD_RING_CQ_BASE k) % 32 == 0

/-- RING_CONFIG recorded in CMD (R102) for the access of requester `src` to `a`. -/
def ringConfigErr (s : State) (src : Requester) (a : Nat) : State := recordErr s 0x05 0x80 src.code a

/-- Domain 15 is under test: PE15 is halted, and no descriptor is fetched (R713). -/
def testingSupervisor (s : State) : Bool := s.bst.run.any (fun r => r.tests.head? == some 15)

/-- Reads of host memory that a ring or the mailbox has outstanding: fetches, and reads of the data of its commands. -/
def Ring.reads (r : Ring) : Nat :=
  b01 r.fetch.isSome + r.staleFetches + r.lateReads.length + (r.cmds.filter (fun c => c.asked && !c.done && c.data.isNone)).length

/-- A tag is free for one more non-posted request: there are 32 (R79, log entry 134). -/
def tagFree (s : State) : Bool := (List.range 5).foldl (fun n k => n + (s.ring k).reads) 0 < 32

/-- A running ring with room in its fetch buffer asks for up to 8 descriptors in one read (R79, R100, R752). -/
def startFetch (s : State) (k : Nat) : State :=
  let r := s.ring k
  if ringState s k = 1 ∧ s.host.busMaster = true ∧ tagFree s = true ∧ r.fetch = none ∧ r.fetched = [] ∧ testingSupervisor s = false then
    let head := s.fld (F.CMD_RING_SQ_HEAD_HEAD k)
    let n := min 8 (min ((s.fld (F.CMD_RING_SQ_TAIL_TAIL k) + sqSize s k - head) % sqSize s k) (sqSize s k - head))
    if n = 0 then s
    else (s.setRing k { r with fetch := some { first := head, count := n } }).send
      (.dmaRead (s.wide (A.CMD_RING_SQ_BASE k) + 64 * head) (64 * n))
  else s

/-- A ring enters RUNNING if its configuration is valid; else RING_CONFIG is recorded (R102, R104). The break record of records
discarded before falls due (R105). -/
def enableRing (s : State) (src : Requester) (k : Nat) : State :=
  if ringConfigOk s k then
    startFetch ((s.setFld (F.CMD_RING_STATUS_STATE k) 1).setRing k { s.ring k with breakDue := true }) k
  else ringConfigErr s src (A.CMD_RING_CTRL k)

/-- A ring that waits for no descriptors any more: a fetch that is outstanding returns to nobody, and those fetched and not yet taken
are dropped with SQ_HEAD unchanged (log entry 108). -/
def Ring.quiet (r : Ring) : Ring :=
  { r with fetch := none, fetched := [], staleFetches := r.staleFetches + b01 r.fetch.isSome }

/-- The four pointers and the passes of a ring as they are on the first pass (R103). -/
def clearPointers (s : State) (k : Nat) : State :=
  let s := s.setReg (A.CMD_RING_SQ_TAIL k) 0#32
  let s := s.setReg (A.CMD_RING_SQ_HEAD k) 0#32
  let s := s.setReg (A.CMD_RING_CQ_HEAD k) 0#32
  let s := s.setReg (A.CMD_RING_CQ_TAIL k) 0#32
  s.setRing k { (s.ring k).quiet with sqPhase := true, cqPhase := true }

/-- A ring enters DISABLED; a RESET that stayed pending is done, and a held enable is applied (R103, R104). -/
def enterDisabled (s : State) (k : Nat) : State :=
  let s := s.setFld (F.CMD_RING_STATUS_STATE k) 0
  let s := if s.flag (F.CMD_RING_CTRL_RESET k) then clearPointers s k else s
  let s := s.setFld (F.CMD_RING_CTRL_RESET k) 0
  let held := (s.ring k).heldEnable
  let s := s.setRing k { (s.ring k).quiet with heldEnable := false, resetArmed := false }
  if held then enableRing s .hardware k else s

/-- Two ranges of lost sequence numbers merged into one (R105). -/
def mergeLost (a : Option (Nat × Nat)) (b : Option (Nat × Nat)) : Option (Nat × Nat) :=
  match a, b with
  | none, b => b
  | a, none => a
  | some (f, _), some (_, l) => some (f, l)

/-- The range of the sequence numbers of commands whose records are not yet all written. -/
def cmdRange (cs : List Cmd) : Option (Nat × Nat) :=
  match cs.filter (fun c => !c.lost) with
  | [] => none
  | c :: t => some (c.seq, ((c :: t).getLastD c).seq)

/-- The records of a ring not yet written are discarded: their range is held, commands without an outcome run on (R105). -/
def discardRecords (s : State) (k : Nat) : State :=
  let r := s.ring k
  s.setRing k { r with lost := mergeLost r.lost (cmdRange r.cmds), breakDue := false,
                       cmds := (r.cmds.filter (fun c => !c.done)).map (fun c => { c with lost := true }) }

/-- Every command taken on the ring has its outcome. -/
def allDone (r : Ring) : Bool := r.cmds.all (fun c => c.done)

/-- A held RESET of a ring in FAULT or STOPPING takes effect: unwritten records are discarded, and the ring enters
DISABLED (R103, R104). -/
def resetEffect (s : State) (k : Nat) : State :=
  let s := discardRecords s k
  let s := clearPointers s k
  let s := if ringState s k = 3 && !(s.ring k).heldEnable then s.setFld (F.CMD_RING_CTRL_ENABLE k) 0 else s
  enterDisabled (s.setFld (F.CMD_RING_CTRL_RESET k) 0) k

/-- RESET written 1 (R103). -/
def writeReset (s : State) (k : Nat) : State :=
  match ringState s k with
  | 0 => clearPointers s k
  | 1 => s.setFld (F.CMD_RING_CTRL_RESET k) 1
  | _ => (s.setFld (F.CMD_RING_CTRL_RESET k) 1).setRing k { s.ring k with resetArmed := true }

/-- ENABLE written with value `v` (R101, R102, R104). -/
def writeEnable (s : State) (src : Requester) (k : Nat) (v : Bool) : State :=
  let r := s.ring k
  let stop := (s.setFld (F.CMD_RING_STATUS_STATE k) 2).setRing k { r.quiet with heldEnable := false }
  match ringState s k, v with
  | 0, true => enableRing s src k
  | 0, false => s
  | 1, true => s
  | 1, false => stop
  | 2, v => s.setRing k { r with heldEnable := v }
  | _, true => if r.resetArmed then s.setRing k { r with heldEnable := true } else ringConfigErr s src (A.CMD_RING_CTRL k)
  | _, false => stop

/-- A write of the bits `mask` of `RINGk_CTRL`: the fields, then RESET, then ENABLE (R104). -/
def ringCtrlWrite (s : State) (src : Requester) (k : Nat) (data mask : Word) : State :=
  let s := writeFields s src (A.CMD_RING_CTRL k) data (mask &&& 0xFFFFFFFD#32)
  let s := if bit data.toNat 1 && bit mask.toNat 1 then writeReset s k else s
  if bit mask.toNat 0 then writeEnable s src k (bit data.toNat 0) else s

/-- A ring enters FAULT (R82, R92). A fetch that is outstanding returns to nobody. -/
def ringFault (s : State) (k : Nat) : State :=
  let r := s.ring k
  setCause ((s.setFld (F.CMD_RING_STATUS_STATE k) 3).setRing k
    { r with fetch := none, staleFetches := r.staleFetches + b01 r.fetch.isSome }) 0x05 (8 + k)

/-- A write of a ring's base, size or coalescing word (R102): base and size only while the ring is DISABLED. -/
def ringConfigWrite (s : State) (src : Requester) (k a : Nat) (data mask : Word) : State :=
  if a = A.CMD_RING_COAL k || ringState s k = 0 then
    if a = A.CMD_RING_COAL k || a = A.CMD_RING_SIZE k then writeFields s src a data mask
    else wideWrite s src a data (fun s a d => writeFields s src a d allBits)
  else ringConfigErr s src a

/-- The bytes of a completion record (R94). -/
def recordBytes (seq : Nat) (tag : List Byte) (status flags part result0 : Nat) (result : List Byte) : List Byte :=
  leBytes 4 seq ++ slice tag 0 4 ++ leBytes 1 status ++ leBytes 1 flags ++ leBytes 2 part ++ leBytes 4 result0
    ++ slice result 0 16

/-- FLAGS of a record (R94). -/
def recordFlags (phase more brk : Bool) : Nat := b01 phase + 2 * b01 more + 4 * b01 brk

/-- TAG of a descriptor (R91). -/
def descTag (desc : List Byte) : List Byte := slice desc 4 4

/-- IRQ of a descriptor (R91). -/
def descIrq (desc : List Byte) : Bool := bit (fieldAt desc 2 1) 1

/-- FENCE of a descriptor (R91). -/
def descFence (desc : List Byte) : Bool := bit (fieldAt desc 2 1) 2

/-- A record is counted toward the completion cause of its source, and the cause sets when it is due (R113). The mailbox has no COAL
register: its COUNT is taken as 0, so every record of it signals (log entry 106). -/
def countCompletion (s : State) (src : Nat) (irq : Bool) : State :=
  let r := s.ring src
  let limit := if src < 4 then s.fld (F.CMD_RING_COAL_COUNT src) else 0
  if irq || limit ≤ r.coalCount + 1 then setCause (s.setRing src { r with coalCount := 0 }) 0x05 src
  else s.setRing src { r with coalCount := r.coalCount + 1 }

/-- Room for one record: in the completion ring of a ring (R98), in the queue of the mailbox (R107). -/
def recordRoom (s : State) (src : Nat) : Bool :=
  if src < 4 then
    s.host.busMaster && (s.fld (F.CMD_RING_CQ_TAIL_TAIL src) + 1) % cqSize s src != s.fld (F.CMD_RING_CQ_HEAD_HEAD src)
  else (s.ring 4).queue.length < 64

/-- One record put into the completion ring or the mailbox queue (R95, R98, R107). `bytes` gives the record for a PHASE. -/
def putRecord (s : State) (src : Nat) (bytes : Bool → List Byte) : State :=
  if src < 4 then
    let r := s.ring src
    let tail := s.fld (F.CMD_RING_CQ_TAIL_TAIL src)
    let s := s.send (.dmaWrite (s.wide (A.CMD_RING_CQ_BASE src) + 32 * tail) (bytes r.cqPhase))
    let s := s.setFld (F.CMD_RING_CQ_TAIL_TAIL src) (nextIdx tail (cqSize s src))
    s.setRing src { r with cqPhase := if tail + 1 < cqSize s src then r.cqPhase else !r.cqPhase }
  else
    let d := drawNat s 2
    d.2.setRing 4 { d.2.ring 4 with queue := (d.2.ring 4).queue ++ [bytes (d.1 == 1)] }

/-- The break record that names the lost range (R105), its bytes 24 to 31 free (log entry 13). It counts as one completion toward the
cause (log entry 106). -/
def writeBreak (s : State) (src : Nat) (first last : Nat) : State :=
  let d := drawBytes s 8
  let s := putRecord d.2 src (fun ph =>
    recordBytes last [] 0x41 (recordFlags ph false true) 0 0 (leBytes 4 first ++ leBytes 4 last ++ d.1))
  countCompletion (s.setRing src { s.ring src with lost := none, lastSeq := some last }) src false

/-- One part of the completion of command `c` written; after its last part the command leaves the ring (R97, R98). -/
def writePart (s : State) (src : Nat) (c : Cmd) (p : Part) : State :=
  let last := c.written + 1 == c.parts.length
  let s := putRecord s src (fun ph =>
    recordBytes c.seq (descTag c.desc) p.status (recordFlags ph (!last) false) c.written p.result0 p.result)
  let r := s.ring src
  if last then
    countCompletion
      (s.setRing src { r with cmds := r.cmds.filter (fun x => x.seq != c.seq || x.lost), lastSeq := some c.seq })
      src (descIrq c.desc)
  else
    let cmds := r.cmds.map (fun x => if x.seq == c.seq && !x.lost then { x with written := x.written + 1 } else x)
    s.setRing src { r with cmds := cmds }

/-- The next completion record of a source (R97): the break record, or the next part of the oldest command. -/
def completionWrite (s : State) (src : Nat) : State :=
  if !s.answers || !recordRoom s src then s
  else if src < 4 && ringState s src = 0 then s
  else
    let r := s.ring src
    match (if r.breakDue || src = 4 then r.lost else none), r.cmds.find? (fun c => !c.lost) with
    | some (f, l), _ => writeBreak s src f l
    | none, some c =>
      match c.done, c.parts.drop c.written with
      | true, p :: _ => writePart s src c p
      | _, _ => s
    | none, none => s

/-- The command in flight that `id` names. -/
def findCmd (s : State) (id : CmdId) : Option Cmd := (s.ring id.src.val).cmds.find? (fun c => c.seq == id.seq)

/-- Storing a command in flight. -/
def putCmd (s : State) (id : CmdId) (c : Cmd) : State :=
  let r := s.ring id.src.val
  s.setRing id.src.val { r with cmds := r.cmds.map (fun x => if x.seq == id.seq then c else x) }

/-- A read of data is outstanding: a failure is still recorded once its command has ended (R82). -/
def leaveRead (s : State) (id : CmdId) (c : Cmd) : State :=
  if c.asked && c.data.isNone then
    s.setRing id.src.val { s.ring id.src.val with lateReads := (s.ring id.src.val).lateReads ++ [c.seq] }
  else s

/-- The outcome of a command, the only one it gets (R619): the parts of its completion. A command whose records were
discarded leaves the ring. -/
def finishCmd (s : State) (id : CmdId) (parts : List Part) : State :=
  match findCmd s id with
  | none => s
  | some c =>
    if c.done then s
    else
    let s := leaveRead s id c
    if c.lost then
      let r := s.ring id.src.val
      s.setRing id.src.val { r with cmds := r.cmds.filter (fun x => x.seq != id.seq) }
    else putCmd s id { c with done := true, parts := parts }

/-- A completion in one part. -/
def onePart (status result0 : Nat) (result : List Byte) : List Part :=
  [{ status := status, result0 := result0, result := result }]

/-- A one-part outcome with RESULT bytes from byte 16 on. -/
def finish (s : State) (id : CmdId) (status : Nat) (result : List Byte) : State :=
  finishCmd s id (onePart status 0 result)

/-- Every command in flight. -/
def allCmds (s : State) : List Cmd := (List.range 5).flatMap (fun k => (s.ring k).cmds)

/-- Every command in flight, in ring order, treated by `f`. -/
def eachCmd (s : State) (f : State → CmdId → Cmd → State) : State :=
  (List.range 5).foldl (fun (t : State) k =>
    if h : k < 5 then
      (t.ring k).cmds.foldl (fun (u : State) c => if c.done then u else f u { src := ⟨k, h⟩, seq := c.seq } c) t
    else t) s

/-- Whether a command may start: it has no outcome, and the fences of R93 allow it. -/
def startable (s : State) (id : CmdId) : Bool :=
  match findCmd s id with
  | none => false
  | some c =>
    let before := (s.ring id.src.val).cmds.takeWhile (fun x => x.seq != id.seq)
    !c.done && (!descFence c.desc || before.all (fun x => x.done)) && before.all (fun x => x.done || !descFence x.desc)

/-- OPCODE of a descriptor (R91). -/
def descOpcode (desc : List Byte) : Nat := fieldAt desc 0 2

/-- The command `id` if it is in flight with opcode `op`, may start and has not begun: its descriptor. -/
def starting (s : State) (id : CmdId) (op : Nat) : Option Cmd :=
  match findCmd s id with
  | none => none
  | some c => if descOpcode c.desc = op && startable s id && !c.began then some c else none

/-- The command `id` marked as begun. -/
def beginCmd (s : State) (id : CmdId) : State :=
  match findCmd s id with
  | none => s
  | some c => putCmd s id { c with began := true }

/-- The command `id` marked as having begun its commit (R128). -/
def commitCmd (s : State) (id : CmdId) : State :=
  match findCmd s id with
  | none => s
  | some c => putCmd s id { c with began := true, committed := true }

/-- The data that a command of an opcode reads in host memory: offsets of ADDR and LEN in its descriptor, and the width of LEN. -/
def dataPlace : Nat → Option (Nat × Nat × Nat)
  | 0x0104 => some (28, 24, 2)
  | 0x0201 => some (24, 18, 2)
  | 0x0301 => some (32, 28, 2)
  | 0x0401 => some (24, 20, 4)
  | _ => none

/-- Address and length of the data of a command. -/
def cmdData (desc : List Byte) : Option (Nat × Nat) :=
  (dataPlace (descOpcode desc)).map (fun d => (fieldAt desc d.1 8, fieldAt desc d.2.1 d.2.2))

/-- The read of a command's data goes out once Bus Master Enable is 1 and a tag is free (R79, R752). -/
def askData (s : State) (src : Nat) (c : Cmd) : State :=
  match cmdData c.desc with
  | none => s
  | some (addr, len) =>
    if c.asked || c.done || !s.host.busMaster || !tagFree s then s
    else
      let r := s.ring src
      (s.setRing src { r with cmds := r.cmds.map (fun x => if x.seq == c.seq then { x with asked := true } else x) }).send (.dmaRead addr len)

/-- The reads of a source that waited for Bus Master Enable or for a tag. -/
def askAll (s : State) (src : Nat) : State := (s.ring src).cmds.foldl (fun (t : State) c => askData t src c) s

/-- Every read that waited goes out, as far as the tags go (R79, R752). -/
def readsGo (s : State) : State :=
  if s.host.busMaster then [0, 1, 2, 3, 4].foldl (fun (t : State) k => askAll (if k < 4 then startFetch t k else t) k) s else s

end Sys2Proof.Machine
end

