-- ==== Sys2Proof/Machine/EventLog.lean ====
section
/-!
DEFINITION. Sys2Proof/Machine/EventLog.lean: the event store in DRAM and the event ring in host memory (R114–R119).
-/
namespace Sys2Proof.Machine

/-- Start of the event store in DRAM (R18, R114). -/
def logBase : Nat := 0x07200000

/-- Records the store holds (R114). -/
def logSize : Nat := 262144

/-- Entries of the event ring. -/
def evrSize (s : State) : Nat := 2 ^ s.fld F.CMD_EVR_CTRL_LOG2

/-- The 32 bytes of an event record (R115): `stamp` adds bits 30 and 31 of TIME_NS. -/
def eventBytes (e : Event) (logSeq srcSeq stamp : Nat) : List Byte :=
  leBytes 4 logSeq ++ leBytes 4 e.sec ++ leBytes 4 (e.ns % 2 ^ 30 + stamp * 2 ^ 30) ++ leBytes 1 e.page ++ leBytes 1 e.sub
    ++ leBytes 2 e.code ++ leBytes 4 srcSeq ++ leBytes 1 e.severity ++ leBytes 1 0 ++ slice e.data 0 10

/-- A free entry in the event ring, with Bus Master Enable 1 (R118, R752). -/
def evrRoom (s : State) : Bool :=
  s.host.busMaster && (s.fld F.CMD_EVR_TAIL_TAIL + 1) % evrSize s != s.fld F.CMD_EVR_HEAD_HEAD

/-- One entry written to the event ring; `bytes` gives it for a PHASE (R95, R117). -/
def evrPut (s : State) (severity : Nat) (bytes : Bool → List Byte) : State :=
  let tail := s.fld F.CMD_EVR_TAIL_TAIL
  let s := s.send (.dmaWrite (s.wide A.CMD_EVR_BASE + 32 * tail) (bytes s.log.evrPhase))
  let s := s.setFld F.CMD_EVR_TAIL_TAIL (nextIdx tail (evrSize s))
  { s with log := { s.log with evrPhase := (if tail + 1 < evrSize s then s.log.evrPhase else !s.log.evrPhase),
                               inRing := s.log.inRing ++ [severity] } }

/-- A record of the store copied to the event ring, or counted as missed while the ring is full or a break is due
(R117, R118). -/
def evrCopy (s : State) (e : Event) (logSeq srcSeq : Nat) : State :=
  if !s.log.evrOn || e.severity < s.fld F.CMD_EVR_CTRL_MIN_SEV then s
  else if s.log.missed.isSome || !evrRoom s then
    { s with log := { s.log with missed := mergeLost s.log.missed (some (logSeq, logSeq)) } }
  else setCause (evrPut s e.severity (fun ph => eventBytes e logSeq srcSeq (2 * b01 ph))) 0x05 5

/-- The source of an event as one number (R115). -/
def Event.source (e : Event) : Nat := e.page * 256 + e.sub

/-- The DRAM march that the applied SELET image asks for is still to come (R164): bit 2 of the image's FLAGS (R168). A boot that
leaves WATCH initialises no DRAM and so marches none. -/
def marchDue (s : State) : Bool :=
  let image := if s.boot.seletCopy = 1 then s.nv.copyA else if s.boot.seletCopy = 2 then s.nv.copyB else []
  s.booting && !s.boot.fromWatch && s.boot.marchResult == 0 && bit (fieldAt image 6 2) 2

/-- Whether the event store exists and is usable (R116, R182): not before or during a DRAM march (R164, R715). -/
def storeUsable (s : State) : Bool :=
  s.answers && s.boot.dramReady && !marchDue s && !s.bst.run.any (fun r => r.tests.head? == some 0xF1)

/-- The oldest event not yet recorded is written whole into the store, then `LOG_NEXT_SEQ` advances, then the copy to the
event ring is made (R114–R119). -/
def eventWrite (s : State) : State :=
  match s.log.queue with
  | [] => s
  | e :: t =>
    if !storeUsable s then s
    else
      let n := (s.reg A.CMD_LOG_NEXT_SEQ).toNat
      let q := Tbl.get (fun _ => 0) s.log.srcSeq e.source
      let s := s.ramStore (logBase + 32 * (n % logSize)) (eventBytes e n q 0)
      let s := { s with
        log := { s.log with queue := t, srcSeq := Tbl.put (fun _ => 0) s.log.srcSeq e.source (q + 1) },
        mem := { s.mem with lostLog := s.mem.lostLog.filter (· != n % logSize) } }
      let s := s.setReg A.CMD_LOG_NEXT_SEQ (BitVec.ofNat 32 (n + 1))
      evrCopy s e n q

/-- Every event that waits is recorded, as when the store becomes usable or the host interface is powered down
(R116, R134). -/
def flushEvents : Nat → State → State
  | 0, s => s
  | n + 1, s => flushEvents n (eventWrite s)

/-- The break record of the event ring, EVENT 0x0001 LOG_BREAK (R118). The spec names its event code, BREAK and its data;
the other bytes of the header are open. -/
def evrBreak (s : State) : State :=
  match s.log.missed with
  | none => s
  | some (f, l) =>
    if !s.answers || !s.log.evrOn || !evrRoom s then s
    else
      let d := drawBytes s 11
      let b := d.1
      let s := d.2
      let sev := fieldAt b 10 1
      let s := evrPut s sev (fun ph =>
        slice b 0 4 ++ leBytes 4 s.now.sec ++ leBytes 4 (s.now.ns % 2 ^ 30 + (1 + 2 * b01 ph) * 2 ^ 30) ++ slice b 4 2
          ++ leBytes 2 0x0001 ++ slice b 6 4 ++ slice b 10 1 ++ leBytes 1 0 ++ leBytes 4 f ++ leBytes 4 l ++ leBytes 2 0)
      setCause { s with log := { s.log with missed := none, lastBreak := some (f, l) } } 0x05 6

/-- EVENT_RECORD_WRITE (R119). -/
def execEventRecordWrite (s : State) : Result := .next (eventWrite s)

/-- EVR_BREAK_WRITE (R118). -/
def execEvrBreakWrite (s : State) : Result := .next (evrBreak s)

/-- EVR_HEAD_WRITE (R118): entries are freed; a value at or above the ring size is ignored (R102). -/
def evrHeadWrite (s : State) (src : Requester) (data mask : Word) : State :=
  let v := bitsOf ((s.reg A.CMD_EVR_HEAD &&& ~~~mask) ||| (data &&& mask)).toNat 0 15
  if evrSize s ≤ v then ringConfigErr s src A.CMD_EVR_HEAD
  else
    let freed := (v + evrSize s - s.fld F.CMD_EVR_HEAD_HEAD) % evrSize s
    let s := s.setFld F.CMD_EVR_HEAD_HEAD v
    { s with log := { s.log with inRing := s.log.inRing.drop freed } }

/-- EVR_HEAD_WRITE. -/
def execEvrHeadWrite (src : Requester) (data : Word) (s : State) : Result :=
  .next (gateWrite s src A.CMD_EVR_HEAD (fun s => evrHeadWrite s src data allBits))

/-- A write of the bits `mask` of `EVR_CTRL` (R102, R117): LOG2 takes a new value only while the event ring is DISABLED before the write,
as it is after a refused ENABLE; ENABLE written 1 in DISABLED is checked. ENABLE written 0 keeps a range not yet named by a LOG_BREAK
(log entry 109). -/
def evrCtrlWrite (s : State) (src : Requester) (data mask : Word) : State :=
  let merged := (s.reg A.CMD_EVR_CTRL &&& ~~~mask) ||| (data &&& mask)
  let busy := s.log.evrOn && bitsOf merged.toNat 20 4 != s.fld F.CMD_EVR_CTRL_LOG2
  let s := writeFields s src A.CMD_EVR_CTRL data (if s.log.evrOn then mask &&& 0xFF0FFFFF#32 else mask)
  let s := if busy then ringConfigErr s src A.CMD_EVR_CTRL else s
  if !bit mask.toNat 0 then s
  else if !bit data.toNat 0 then { s with log := { s.log with evrOn := false } }
  else if s.log.evrOn then s
  else if s.host.busMaster && !outside (s.fld F.CMD_EVR_CTRL_LOG2) 6 15 && s.wide A.CMD_EVR_BASE % 32 == 0 then
    { s with log := { s.log with evrOn := true } }
  else ringConfigErr s src A.CMD_EVR_CTRL

/-- EVR_ENABLE_WRITE (R117); a vector that the new VEC makes active sends its message (R111). -/
def execEvrEnableWrite (src : Requester) (data : Word) (s : State) : Result :=
  .next (gateWrite s src A.CMD_EVR_CTRL (fun s => fire (evrCtrlWrite s src data allBits)))

/-- The event ring's base: takes a new value only while ENABLE is 0 (R102). -/
def evrBaseWrite (s : State) (src : Requester) (a : Nat) (data : Word) : State :=
  if s.log.evrOn then ringConfigErr s src a
  else wideWrite s src a data (fun s a d => writeFields s src a d allBits)

end Sys2Proof.Machine
end

