-- ==== Sys2Proof/Machine/HostOps.lean ====
section
/-!
DEFINITION. Sys2Proof/Machine/HostOps.lean: the commands of the rings, the mailbox and the vectors that touch nothing else
(R98–R113).
-/
namespace Sys2Proof.Machine

/-- RING_ENABLE_WRITE (R104). -/
def execRingEnableWrite (src : Requester) (k : Fin 4) (data : Word) (s : State) : Result :=
  .next (gateWrite s src (A.CMD_RING_CTRL k) (fun s => fire (ringCtrlWrite s src k data allBits)))

/-- RING_RESET (R103): a write of `RINGk_CTRL` that carries RESET = 1. -/
def execRingReset (src : Requester) (k : Fin 4) (data : Word) (s : State) : Result :=
  .next (gateWrite s src (A.CMD_RING_CTRL k) (fun s => fire (ringCtrlWrite s src k (data ||| 2#32) allBits)))

/-- RING_RESET_EFFECT (R103): once every command taken on the ring has its outcome. -/
def execRingResetEffect (k : Fin 4) (s : State) : Result :=
  .next (if s.answers && (s.ring k).resetArmed && (ringState s k == 2 || ringState s k == 3) && allDone (s.ring k) then
    resetEffect s k else s)

/-- RING_STOPPING_END (R101): every record of a STOPPING ring is written. -/
def execRingStoppingEnd (k : Fin 4) (s : State) : Result :=
  .next (if s.answers && ringState s k == 2 && (s.ring k).cmds.isEmpty then enterDisabled s k else s)

/-- RING_CONFIG_WRITE (R102). -/
def execRingConfigWrite (src : Requester) (addr : RegAddr) (data : Word) (s : State) : Result :=
  let a := wordAddr addr
  .next (gateWrite s src a (fun s =>
    if a = A.CMD_EVR_BASE || a = A.CMD_EVR_BASE_HI then evrBaseWrite s src a data
    else if 0x05040 ≤ a && a < 0x05140 && (a - 0x05040) % 0x40 ∈ [0x08, 0x0C, 0x10, 0x14, 0x18, 0x30] then
      ringConfigWrite s src ((a - 0x05040) / 0x40) a data allBits
    else s))

/-- The doorbell of ring `k`: a value in range is stored in every state, and a running ring fetches (R100, R102). -/
def tailWrite (s : State) (src : Requester) (k : Nat) (data mask : Word) : State :=
  let v := bitsOf ((s.reg (A.CMD_RING_SQ_TAIL k) &&& ~~~mask) ||| (data &&& mask)).toNat 0 12
  if sqSize s k ≤ v then ringConfigErr s src (A.CMD_RING_SQ_TAIL k)
  else startFetch (s.setFld (F.CMD_RING_SQ_TAIL_TAIL k) v) k

/-- SQ_TAIL_DOORBELL (R100). -/
def execSqTailDoorbell (src : Requester) (k : Fin 4) (data : Word) (s : State) : Result :=
  .next (gateWrite s src (A.CMD_RING_SQ_TAIL k) (fun s => tailWrite s src k data allBits))

/-- Completion entries of ring `k` freed (R98, R102). -/
def cqHeadWrite (s : State) (src : Requester) (k : Nat) (data mask : Word) : State :=
  let v := bitsOf ((s.reg (A.CMD_RING_CQ_HEAD k) &&& ~~~mask) ||| (data &&& mask)).toNat 0 12
  if cqSize s k ≤ v then ringConfigErr s src (A.CMD_RING_CQ_HEAD k)
  else s.setFld (F.CMD_RING_CQ_HEAD_HEAD k) v

/-- CQ_HEAD_WRITE (R98). -/
def execCqHeadWrite (src : Requester) (k : Fin 4) (data : Word) (s : State) : Result :=
  .next (gateWrite s src (A.CMD_RING_CQ_HEAD k) (fun s => cqHeadWrite s src k data allBits))

/-- DMA_FAIL recorded for a source: a ring's `RINGk_CTRL`, or `CMD.CTRL` for the mailbox (R82). -/
def dmaFail (s : State) (src : Nat) : State :=
  recordErr s 0x05 0x81 0 (if src < 4 then A.CMD_RING_CTRL src else A.CMD_CTRL)

/-- DESC_FETCH_DONE (R82, R92, R100): the descriptors before a PHASE mismatch wait to be taken; a mismatch or a failed read
faults the ring. -/
def fetchDone (s : State) (k : Nat) (data : Option (List (List Byte))) : State :=
  let r := s.ring k
  match r.fetch, data with
  | none, _ => s
  | some _, none => ringFault (dmaFail (s.setRing k { r with fetch := none }) k) k
  | some f, some ds =>
    let ds := ds.take f.count
    let good := ds.takeWhile (fun d => bit (fieldAt d 2 1) 0 == r.sqPhase)
    let s := s.setRing k { r with fetch := none, fetched := good }
    if good.length < ds.length then ringFault (recordErr s 0x05 0x82 0 (A.CMD_RING_CTRL k)) k else s

/-- A fetch that the ring no longer waits for returns: nothing of it is taken. Where it failed, that is recorded, and a ring that has
not yet come to rest enters FAULT (R82, R101). -/
def staleFetchDone (s : State) (k : Nat) (failed : Bool) : State :=
  let r := s.ring k
  if r.staleFetches = 0 then s
  else
    let s := s.setRing k { r with staleFetches := r.staleFetches - 1 }
    if !failed then s
    else if ringState s k = 0 then dmaFail s k else ringFault (dmaFail s k) k

/-- DESC_FETCH_DONE. The tag of the read is free again (R79). -/
def execDescFetchDone (k : Fin 4) (data : FetchEnd) (s : State) : Result :=
  .next (if !s.answers then s
    else match data with
    | .stale failed => readsGo (staleFetchDone s k failed)
    | .failed => if ringState s k == 1 then readsGo (fetchDone s k none) else s
    | .data ds => if ringState s k == 1 then readsGo (fetchDone s k (some ds)) else s)

/-- COMPLETION_WRITE (R97). -/
def execCompletionWrite (src : Source) (s : State) : Result := .next (completionWrite s src)

/-- A write of the bits `mask` of `MBX_SUBMIT` (R107). -/
def mbxSubmit (s : State) (data mask : Word) : State :=
  if bit data.toNat 0 && bit mask.toNat 0 then startGo s A.CMD_MBX_SUBMIT 0 else s

/-- MBX_SUBMIT (R107). -/
def execMbxSubmit (src : Requester) (data : Word) (s : State) : Result :=
  .next (gateWrite s src A.CMD_MBX_SUBMIT (fun s => mbxSubmit s data allBits))

/-- The descriptor in `MBX_DESC0`–`MBX_DESC15` (R107). -/
def mbxDescriptor (s : State) : List Byte :=
  (List.range 16).foldl (fun bs n => bs ++ leBytes 4 (s.reg (A.CMD_MBX_DESC n)).toNat) []

/-- MBX_DESC_COPY (R107): once the queue has room and no mailbox command is in flight, the descriptor is copied and GO
clears. -/
def mbxCopy (s : State) : State :=
  let r := s.ring 4
  if s.answers && s.flag F.CMD_MBX_SUBMIT_GO && r.queue.length < 64 && r.cmds.isEmpty && r.fetched.isEmpty then
    (endGo (s.setRing 4 { r with fetched := [mbxDescriptor s] }) A.CMD_MBX_SUBMIT 0).1
  else s

/-- MBX_DESC_COPY. -/
def execMbxDescCopy (s : State) : Result := .next (mbxCopy s)

/-- The nine words at `MBX_CPL` (R108). -/
def mbxCplWords (s : State) : List Word :=
  match (s.ring 4).queue with
  | [] => s.reg A.CMD_MBX_CPL :: (List.range 8).map (fun i => s.reg (A.CMD_MBX_CPL1 + 4 * i))
  | rec :: t => BitVec.ofNat 32 (2 ^ 31 + t.length) :: (leWords rec 8).map (BitVec.ofNat 32)

/-- A read of word 0 of a pop or peek address whose words are `ws`: the data is returned and the higher words are latched
(R59, R65, R66). -/
def readWide (s : State) (src : Requester) (a : Nat) (ws : List Word) : State :=
  (latchShadow s src a (ws.drop 1)).send (.readData src a (ws.headD 0#32))

/-- MBX_CPL_POP (R108): the head record is returned and consumed; JTAG debug reads consume nothing (R49). -/
def mbxPop (s : State) (src : Requester) : State :=
  let ws := mbxCplWords s
  let s := readWide s src A.CMD_MBX_CPL ws
  if src = .jtag || (s.ring 4).queue.isEmpty then s
  else
    let s := (s.setReg A.CMD_MBX_CPL 0#32).setRing 4 { s.ring 4 with queue := (s.ring 4).queue.drop 1 }
    (ws.drop 1).zipIdx.foldl (fun s e => s.setReg (A.CMD_MBX_CPL1 + 4 * e.2) e.1) s

/-- MBX_CPL_POP. -/
def execMbxCplPop (src : Requester) (s : State) : Result :=
  .next (gateRead s src A.CMD_MBX_CPL (fun s => mbxPop s src))

/-- Arming vector `v` again: if it is active it sends its message at once (R111); ignored with MSI-X disabled, with INTx enabled as R112
says and without it alike (log entry 135). -/
def rearm (s : State) (v : Nat) : State :=
  if s.host.msixEnable then
    let s := { s with host := { s.host with disarmed := s.host.disarmed &&& ((2 ^ 32 - 1) ^^^ 2 ^ v) } }
    if (activeVectors s).contains v then fireVector s v else s
  else s

/-- VEC_REARM_WRITE (R111). -/
def execVecRearmWrite (src : Requester) (data : Word) (s : State) : Result :=
  .next (gateWrite s src A.HIF_VEC_REARM (fun s => rearm s (bitsOf data.toNat 0 5)))

/-- The mask of vector `v` written: clearing it sends a deferred message (R111). -/
def maskWrite (s : State) (v : Nat) (masked : Bool) : State :=
  if masked then { s with host := { s.host with vecMask := s.host.vecMask ||| 2 ^ v } }
  else releaseDue { s with host := { s.host with vecMask := s.host.vecMask &&& ((2 ^ 32 - 1) ^^^ 2 ^ v) } }

/-- What a word of BAR2 shows (R80): the MSI-X table, whose fourth word holds the mask in bit 0, the Pending Bit Array, and 0 elsewhere. -/
def bar2Word (s : State) (off : Nat) : Word :=
  if off < 0x200 then
    if off / 4 % 4 = 3 then BitVec.ofNat 32 (b01 (bit s.host.vecMask (off / 16)))
    else Tbl.get (fun _ => 0#32) s.host.vecTable (3 * (off / 16) + off / 4 % 4)
  else if off / 4 = 0x800 then BitVec.ofNat 32 s.host.vecDue
  else 0#32

/-- A word written in BAR2 (R80): outside the table it is discarded. -/
def bar2Write (s : State) (off : Nat) (data : Word) : State :=
  if 0x200 ≤ off then s
  else if off / 4 % 4 = 3 then maskWrite s (off / 16) (bit data.toNat 0)
  else { s with host := { s.host with
    vecTable := Tbl.put (fun _ => 0#32) s.host.vecTable (3 * (off / 16) + off / 4 % 4) data } }

/-- PER_VECTOR_MASK_WRITE (R80, R111): an access to BAR2. -/
def execPerVectorMaskWrite (access : Bar2Access) (masked : Bool) (s : State) : Result :=
  .next (if !s.answers then s
    else match access with
    | .mask v => maskWrite s v masked
    | .write off data => bar2Write s off data
    | .read off => s.send (.bar2 off.val (bar2Word s off)))

/-- Bus Master Enable, MSI-X Enable and Interrupt Disable written: the requests that waited go out when Bus Master Enable returns to 1
(R752). -/
def busControl (s : State) (busMaster msixEnable intxDisable : Bool) : State :=
  let s := { s with host := { s.host with busMaster := busMaster, msixEnable := msixEnable, intxDisable := intxDisable } }
  fire (releaseDue (readsGo s))

/-- The address bits of BAR word `n` (R80): those above the size of BAR0, 4 MiB, and of BAR2, 16 KiB, each of two words; the other
words are unimplemented. -/
def barMask (n : Nat) : Word :=
  match n with
  | 0 => 0xFFC00000#32
  | 2 => 0xFFFFC000#32
  | 1 | 3 => 0xFFFFFFFF#32
  | _ => 0#32

/-- What BAR word `n` shows (R80): the address, and in the first word of a BAR the type, 64-bit memory and not prefetchable (log entry
136). -/
def barWord (s : State) (n : Nat) : Word :=
  Tbl.get (fun _ => 0#32) s.host.cfg.bars n ||| (if n = 0 || n = 2 then 4#32 else 0#32)

/-- What a read of configuration space shows (R79, R80). -/
def configShown (s : State) : Out :=
  .config 0x1FB4 0x8840 0xB1 0x028000 s.host.busMaster s.host.msixEnable s.host.intxDisable s.host.cfg ((List.range 6).map (barWord s))

/-- BUS_MASTER_ENABLE_WRITE (R79, R752): an access to configuration space. -/
def execBusMasterEnableWrite (access : CfgAccess) (msixEnable intxDisable : Bool) (s : State) : Result :=
  .next (if !s.answers then s
    else match access with
    | .control busMaster => busControl s busMaster msixEnable intxDisable
    | .sizes big shift => { s with host := { s.host with cfg := { s.host.cfg with
        maxPayload := (if big then 256 else 128), maxRead := 128 * 2 ^ shift.val } } }
    | .power d3hot aspmL1 => { s with host := { s.host with cfg := { s.host.cfg with d3hot := d3hot, aspmL1 := aspmL1 } } }
    | .bar n data => { s with host := { s.host with cfg := { s.host.cfg with
        bars := Tbl.put (fun _ => 0#32) s.host.cfg.bars n (data &&& barMask n) } } }
    | .aerClear bits => { s with host := { s.host with cfg := { s.host.cfg with aer := s.host.cfg.aer &&& ~~~bits } } }
    | .read => s.send (configShown s))

/-- PCIE_LINK_CHANGE (R79): LINK_CHANGE sets at every change of LINK_UP, SPEED or WIDTH; with the link down both read 0. -/
def linkChange (s : State) (up : Bool) (speed width : Nat) : State :=
  let w := insBits (insBits (insBits (s.reg A.HIF_STATUS) 0 1 (b01 up)) 1 3 (if up then speed else 0)) 4 2 (if up then width else 0)
  if w = s.reg A.HIF_STATUS then s else setCause (s.setReg A.HIF_STATUS w) 0x04 0

/-- PCIE_LINK_CHANGE. -/
def execPcieLinkChange (up : Bool) (speed : Fin 8) (width : Fin 4) (s : State) : Result :=
  .next (if s.answers && !(s.host.perstLow && up) then linkChange s up speed width else s)

/-- A posted write that arrives poisoned (R82): discarded, POISONED recorded, and Advanced Error Reporting shows a Poisoned TLP in bit 12
of its uncorrectable errors (R79, log entry 136). -/
def poisonedWrite (s : State) (a : Nat) : State :=
  recordErr { s with host := { s.host with cfg := { s.host.cfg with aer := s.host.cfg.aer ||| 0x1000#32 } } } 0x04 0x80 0x01 a

/-- POISONED_WRITE (R82). -/
def execPoisonedWrite (addr : RegAddr) (s : State) : Result := .next (if s.answers then poisonedWrite s (wordAddr addr) else s)

end Sys2Proof.Machine
end

