-- ==== Sys2Proof/Machine/Keys.lean ====
section
/-!
DEFINITION. Sys2Proof/Machine/Keys.lean: the key store: derivation, slot storage, the load and the sweep, replacement and
zeroisation (R552–R581).
-/
namespace Sys2Proof.Machine

/-! ### Derivation (R565, R566) -/

/-- `n` blocks of the counter-mode KDF from block `i` on (R565). -/
def kdfBlocks (key label context : List Byte) (bits : Nat) : Nat → Nat → List Byte
  | 0, _ => []
  | n + 1, i =>
    Config.cmac key (leBytes 1 i ++ label ++ [0#8] ++ context ++ beBytes 2 bits) ++ kdfBlocks key label context bits n (i + 1)

/-- The KDF of R565: `bits` a multiple of 128. -/
def kdf (key label context : List Byte) (bits : Nat) : List Byte := kdfBlocks key label context bits (bits / 128) 1

/-- LABELs of R566. -/
def labelNode : List Byte := [0x4E#8, 0x4F#8, 0x44#8, 0x45#8]
def labelSess : List Byte := [0x53#8, 0x45#8, 0x53#8, 0x53#8]
def labelUpdm : List Byte := [0x55#8, 0x50#8, 0x44#8, 0x4D#8]
def labelKagr : List Byte := [0x4B#8, 0x41#8, 0x47#8, 0x52#8]
def labelSenc : List Byte := [0x53#8, 0x45#8, 0x4E#8, 0x43#8]
def labelStag : List Byte := [0x53#8, 0x54#8, 0x41#8, 0x47#8]

/-! ### Halves of a slot (R559–R562) -/

/-- COMMIT words (R559). -/
def committed : Nat := 0xC3A5
def zeroised : Nat := 0x3C5A
def uncommitted : Nat := 0xFFFF

/-- ATTR carries ZOT (R554). -/
def isZot (attr : Nat) : Bool := bit attr 15

/-- A half that counts toward the current epoch (R562). -/
def KeyHalf.counts (h : KeyHalf) : Bool := h.commit == committed || h.commit == zeroised

/-- Half A or B. -/
def Slot.half (x : Slot) (b : Bool) : KeyHalf := if b then x.b else x.a

/-- Storing half A or B. -/
def Slot.setHalf (x : Slot) (b : Bool) (h : KeyHalf) : Slot := if b then { x with b := h } else { x with a := h }

/-- The current epoch of a slot (R562). -/
def Slot.epoch (x : Slot) : Nat := max (if x.a.counts then x.a.epoch else 0) (if x.b.counts then x.b.epoch else 0)

/-- The half a slot's committed words make live: the COMMITTED half with the higher epoch (R563). -/
def Slot.committedHalf (x : Slot) : Option Bool :=
  match x.a.commit == committed, x.b.commit == committed with
  | true, true => some (x.a.epoch < x.b.epoch)
  | true, false => some false
  | false, true => some true
  | false, false => none

/-- The key-store mask, valid while both copies agree (R577). -/
def State.mask (s : State) : Option (List Byte) :=
  match s.sec.maskA, s.sec.maskB with
  | some a, some b => if a = b then some a else none
  | _, _ => none

/-- The masking string C of a half (R560). -/
def maskFor (s : State) (attr : Nat) : List Byte :=
  if isZot attr then slice (s.mask.getD []) 0 32 else List.replicate 32 0#8

/-- TAG of a key (R560). -/
def halfTag (s : State) (slot : Nat) (b : Bool) (epoch attr : Nat) (padded : List Byte) : List Byte :=
  slice (Config.cmac (kdf Config.storageRoot labelStag (maskFor s attr) 256)
    (leBytes 2 slot ++ leBytes 1 (b01 b) ++ leBytes 4 epoch ++ leBytes 2 attr ++ padded)) 0 8

/-- The keystream of a half under its TAG (R560): 32 bytes. -/
def halfStream (s : State) (attr : Nat) (tag : List Byte) : List Byte :=
  slice (Config.keystream (kdf Config.storageRoot labelSenc (maskFor s attr) 256) (tag ++ List.replicate 8 0#8) 32) 0 32

/-- A half as steps 3 and 5 of R572 leave it, with the COMMIT word given. -/
def sealHalf (s : State) (slot : Nat) (b : Bool) (epoch attr commit : Nat) (key : List Byte) : KeyHalf :=
  let padded := slice key 0 32
  let tag := halfTag s slot b epoch attr padded
  { ct := xorBytes padded (halfStream s attr tag), epoch := epoch, tag := tag, attr := attr, commit := commit }

/-- The padded key a half decrypts to. -/
def openHalf (s : State) (h : KeyHalf) : List Byte := xorBytes h.ct (halfStream s h.attr h.tag)

/-- A half verifies (R560). -/
def verifies (s : State) (slot : Nat) (b : Bool) (h : KeyHalf) : Bool :=
  h.tag == halfTag s slot b h.epoch h.attr (openHalf s h)

/-- Bytes of a key by KTYPE (R554). -/
def keyBytes (attr : Nat) : Nat := if attr % 4 = 0 then 16 else 32

/-! ### Slots and their counts (R553) -/

/-- Slot `n`. -/
def State.slot (s : State) (n : Nat) : Slot := Tbl.get (fun _ => Slot.empty) s.sec.slots n

/-- Storing slot `n`. -/
def State.putSlot (s : State) (n : Nat) (x : Slot) : State :=
  { s with sec := { s.sec with slots := Tbl.put (fun _ => Slot.empty) s.sec.slots n x } }

/-- Slots in a state other than EMPTY. -/
def slotsIn (s : State) (st : Nat) : Nat := (s.sec.slots.filter (fun e => e.2.state == st)).length

/-- Slots in state EMPTY: all others of the 512. -/
def slotsEmpty (s : State) : Nat := 512 - (slotsIn s 1 + slotsIn s 2 + slotsIn s 3)

/-- `CNT_A`, `CNT_B`, `FIRST_BAD` and `MAX_EPOCH` brought up to date (R553). -/
def refreshCounts (s : State) : State :=
  let s := s.setReg A.KSU_CNT_A (BitVec.ofNat 32 (slotsEmpty s + 2 ^ 16 * slotsIn s 1))
  let s := s.setReg A.KSU_CNT_B (BitVec.ofNat 32 (slotsIn s 2 + 2 ^ 16 * slotsIn s 3))
  let s := s.setReg A.KSU_FIRST_BAD (BitVec.ofNat 32 (((s.sec.slots.find? (fun e => e.2.state == 2)).map (fun e => e.1)).getD 0xFFFF))
  s.setReg A.KSU_MAX_EPOCH (BitVec.ofNat 32 (s.sec.slots.foldl (fun m e => max m e.2.epoch) 0))

/-- Storing slot `n` and bringing the counts up to date. -/
def State.setSlot (s : State) (n : Nat) (x : Slot) : State := refreshCounts (s.putSlot n x)

/-- A slot serves a key: VALID, or REPLACING from VALID (R553). -/
def Slot.usable (x : Slot) : Bool := x.state == 1 || (x.state == 3 && x.prev == 1)

/-- A slot is BAD, or REPLACING from BAD. -/
def Slot.isBad (x : Slot) : Bool := x.state == 2 || (x.state == 3 && x.prev == 2)

/-- Destinations and usages of R554 by their bit. -/
def destCcm : Nat := 4
def destGcm : Nat := 5
def destKdf : Nat := 6
def destPke : Nat := 7

/-- The key of a slot for a destination (R556). -/
def slotKey (s : State) (n dest : Nat) : Option (List Byte) :=
  let x := s.slot n
  if x.usable && bit x.attr dest && (!bit x.attr 14 || dest == destKdf) then some x.key else none

/-- The key of a slot for a usage that needs no destination, or needs `dest` (R556). -/
def slotKeyUse (s : State) (n : Nat) (dest : Option Nat) (usage : Nat) : Option (List Byte) :=
  let x := s.slot n
  if x.usable && bit x.attr usage && !bit x.attr 14 && (match dest with
    | none => true
    | some d => bit x.attr d) then some x.key else none

/-- A use the rules forbid is counted (R557). -/
def denied (s : State) : State := setCause (s.count F.KSU_DENIED_COUNT 1) 0x28 3

/-- The ATTR words the device refuses (R555). -/
def badAttr (attr : Nat) : Bool :=
  let ktype := attr % 4
  ktype == 3 || (ktype == 2 && [4, 5, 6, 8, 9, 10, 13].any (fun b => bit attr b))
    || (ktype < 2 && [7, 11, 12].any (fun b => bit attr b)) || (bit attr 14 && !bit attr 6) || bitsOf attr 2 2 != 0
    || attr / 2 ^ 16 != 0

/-! ### Load and sweep (R563, R564, R578) -/

/-- A SLOT_BAD event (R592). -/
def slotBadEvent (s : State) (n cause : Nat) : State := s.event 0x28 0 0x1101 3 (leBytes 2 n ++ leBytes 1 cause)

/-- A slot becomes BAD: its cause and event. -/
def markBad (s : State) (n cause : Nat) : State :=
  setCause (slotBadEvent (s.setSlot n { s.slot n with state := 2, key := [] }) n cause) 0x28 1

/-- One slot examined (R563, R578). `damaged` names halves whose ReRAM does not read back what was written. -/
def loadSlot (s : State) (damaged : List (Nat × Bool)) (n : Nat) : State :=
  let x := s.slot n
  let comm (b : Bool) : Bool := (x.half b).commit == committed
  let lost (b : Bool) : Bool := comm b && isZot (x.half b).attr && s.mask.isNone
  let bad (b : Bool) : Bool := comm b && (damaged.contains (n, b) || !verifies s n b (x.half b))
  match x.committedHalf with
  | none => s.setSlot n { x with state := 0, key := [], attr := 0 }
  | some live =>
    if lost false || lost true then markBad s n 2
    else if bad false || bad true then
      let fails := b01 (bad false) + b01 (bad true)
      let s := s.count F.KSU_TAG_FAILS_COUNT fails
      let s := markBad s n 1
      if fails = 2 then slotBadEvent s n 1 else s
    else if comm false && comm true && x.a.epoch == x.b.epoch then markBad s n 4
    else
      let h := x.half live
      s.setSlot n { x with state := 1, liveB := live, key := (openHalf s h).take (keyBytes h.attr), attr := h.attr }

/-- KEY_SWEEP (R564): the halves of the next slot are verified. A slot being replaced keeps its turn. -/
def keySweep (s : State) (damaged : Bool) : State :=
  let n := s.sec.sweepNext
  let s := { s with sec := { s.sec with sweepNext := (n + 1) % 512 } }
  if (s.slot n).state = 1 then loadSlot s (if damaged then [(n, false), (n, true)] else []) n else s

/-- KEY_SWEEP. -/
def execKeySweep (damaged : Bool) (s : State) : Result :=
  .next (if s.operating && s.flag F.KSU_CTRL_SWEEP_EN && s.flag F.KSU_STATUS_READY then keySweep s damaged else s)

/-- KEY_WORKING_RELOAD (R564). -/
def execKeyWorkingReload (slot : Fin 512) (damaged : Bool) (s : State) : Result :=
  .next (if s.operating && (s.slot slot).state == 1 then
    loadSlot s (if damaged then [(slot.val, false), (slot.val, true)] else []) slot else s)

/-! ### Replacement (R572–R574) -/

/-- The half a replacement writes (R572). -/
def targetHalf (x : Slot) : Bool :=
  if x.state == 1 then !x.liveB
  else if x.state == 2 then false
  else x.a.commit == zeroised && x.b.commit != zeroised

/-- The replacement in progress of a slot. -/
def replaceOf (s : State) (n : Nat) : Option Replace := s.sec.repl.find? (fun r => r.slot == n)

/-- A replacement taken out of the list. -/
def dropReplace (s : State) (n : Nat) : State :=
  { s with sec := { s.sec with repl := s.sec.repl.filter (fun r => r.slot != n) } }

/-- A replacement stored. -/
def putReplace (s : State) (r : Replace) : State :=
  { s with sec := { s.sec with repl := s.sec.repl.filter (fun x => x.slot != r.slot) ++ [r] } }

/-- Step 1: the slot is REPLACING (R572). -/
def beginReplace (s : State) (r : Replace) : State :=
  let x := s.slot r.slot
  (putReplace s r).setSlot r.slot { x with state := 3, prev := x.state }

/-- Steps 2 and 3, and 4 when the half reads back: the COMMIT words UNCOMMITTED, the target half written (R572). -/
def writeTarget (s : State) (r : Replace) : State :=
  let x := s.slot r.slot
  let x := if x.prev = 2 then
      (x.setHalf false { x.a with commit := uncommitted }).setHalf true { x.b with commit := uncommitted }
    else x
  let h := sealHalf s r.slot r.targetB r.epoch r.attr uncommitted r.key
  (putReplace s { r with phase := 1 }).setSlot r.slot (x.setHalf r.targetB { h with attr := (x.half r.targetB).attr })

/-- A second mismatch of step 4: the slot returns to its previous state (R572). -/
def failReplace (s : State) (r : Replace) : State :=
  let x := (dropReplace s r.slot).slot r.slot
  slotBadEvent ((dropReplace s r.slot).setSlot r.slot { x with state := x.prev }) r.slot 3

/-- Steps 5 to 7: the commit (R572). The working copy switches to the new key. -/
def commitReplace (s : State) (r : Replace) : State :=
  let x := s.slot r.slot
  let h := { x.half r.targetB with attr := r.attr, commit := committed }
  let x := { x.setHalf r.targetB h with prev := 1, liveB := r.targetB, key := r.key, attr := r.attr }
  (putReplace (s.setSlot r.slot x) { r with phase := 2 }).count F.KSU_COMMITS_COUNT 1

/-- Step 8 but for its event: the former live half is UNCOMMITTED, the slot VALID (R572). -/
def settleReplace (s : State) (r : Replace) : State :=
  let x := s.slot r.slot
  let old := x.half (!r.targetB)
  let x := if old.commit = committed then x.setHalf (!r.targetB) { old with commit := uncommitted } else x
  (dropReplace s r.slot).setSlot r.slot { x with state := 1 }

/-- Step 8: the former live half is UNCOMMITTED, the slot VALID, the event written and the cause set (R572). -/
def endReplace (s : State) (r : Replace) : State :=
  let s := settleReplace s r
  let s := s.event 0x28 0 0x1100 0
    (leBytes 2 r.slot ++ leBytes 1 (b01 r.targetB) ++ leBytes 1 (if r.cmd.isSome then 1 else 2) ++ leBytes 4 r.epoch)
  setCause s 0x28 0

/-- A replacement after its commit ends, and its command reports the half and the epoch (R148). -/
def replaceDone (s : State) (r : Replace) : State :=
  let s := endReplace s r
  match r.cmd with
  | some id => finish s id 0x00 (leBytes 1 (b01 r.targetB) ++ leBytes 3 0 ++ leBytes 4 r.epoch)
  | none => s

/-- A replacement whose commit has begun runs to its end, whatever happens to its command meanwhile (R128, R574). -/
def completeReplace (s : State) (r : Replace) : State :=
  if r.phase = 1 then replaceDone (commitReplace s r) { r with phase := 2 } else replaceDone s r

/-- A replacement whose commit has begun: that of a command once its target half is written, any other once it is committed. -/
def Replace.begun (r : Replace) : Bool := r.phase == 2 || (r.phase == 1 && r.cmd.isSome)

/-! ### KEY_REPLACE (R148, R572, R573) -/

/-- The parameters of KEY_REPLACE (R148). -/
def krSlot (d : List Byte) : Nat := fieldAt d 16 2
def krKek (d : List Byte) : Nat := fieldAt d 18 2
def krAttr (d : List Byte) : Nat := fieldAt d 20 4
def krEpoch (d : List Byte) : Nat := fieldAt d 24 4
def krWlen (d : List Byte) : Nat := fieldAt d 28 2

/-- TRNG has failed (R589). -/
def trngFailed (s : State) : Bool := s.flag F.TRNG_STATUS_FAILED

/-- Step 1 of KEY_REPLACE: the unwrap, and the checks KSU makes when it performs the command (R148, R572, R590). -/
def keyReplaceBegin (s : State) (id : CmdId) (c : Cmd) (readBack : Bool) : State :=
  let n := krSlot c.desc
  let x := s.slot n
  match c.data with
  | none => s
  | some wrapped =>
    if krEpoch c.desc ≤ x.epoch then finish s id 0x11 (leBytes 2 24)
    else if isZot (krAttr c.desc) && (trngFailed s || s.mask.isNone) then finish s id 0x12 (leBytes 1 4)
    else
      match slotKeyUse s (krKek c.desc) none 10 with
      | none => finish (denied s) id 0x30 []
      | some kek =>
      match Config.unwrapKey kek (wrapped.take (krWlen c.desc)) with
      | none => finish s id 0x30 (leBytes 1 2)
      | some key =>
        let r : Replace := { slot := n, cmd := some id, key := key.take (keyBytes (krAttr c.desc)), attr := krAttr c.desc,
                             epoch := krEpoch c.desc, targetB := targetHalf x, phase := 0 }
        let s := beginReplace (commitCmd s id) r
        let s := writeTarget s r
        if readBack then s else finish (failReplace s { r with phase := 1 }) id 0x12 (leBytes 1 3)

/-- No earlier replacement of the same slot waits: replacements of one slot run in the order in which they were taken (R148). -/
def slotTurn (s : State) (c : Cmd) : Bool :=
  (allCmds s).all (fun x => x.done || descOpcode x.desc != 0x0301 || krSlot x.desc != krSlot c.desc || c.order ≤ x.order)

/-- KEY_REPLACE (R572). The first application makes steps 1 to 4, the second steps 5 to 7, the third step 8; a tamper or a
loss of power falls between two of them (R574, R579). -/
def keyReplace (s : State) (id : CmdId) (readBack : Bool) : State :=
  match findCmd s id with
  | none => s
  | some c =>
    if descOpcode c.desc != 0x0301 || c.done then s
    else
      match replaceOf s (krSlot c.desc) with
      | none => if startable s id && slotTurn s c then keyReplaceBegin s id c readBack else s
      | some r =>
        if r.cmd != some id then s
        else if r.phase = 1 then commitReplace s r
        else replaceDone s r

/-- KEY_REPLACE; it waits during the stroke's HOLD (R635). -/
def execKeyReplace (id : CmdId) (readBack : Bool) (s : State) : Result :=
  .next (if s.operating && !holding s then keyReplace s id readBack else s)

/-! ### Zeroisation (R575, R576) -/

/-- A half overwritten: KEY_CT and TAG 0, EPOCH kept, with the COMMIT word given (R575). -/
def wipeHalf (h : KeyHalf) (commit : Nat) : KeyHalf :=
  { h with ct := List.replicate 32 0#8, tag := List.replicate 8 0#8, commit := commit }

/-- A VALID or BAD slot zeroised (R575). -/
def zeroiseSlot (s : State) (n : Nat) : State :=
  let x := s.slot n
  let commit (b : Bool) : Nat := if x.state == 1 && x.liveB == b then zeroised else uncommitted
  (s.setSlot n { x with a := wipeHalf x.a (commit false), b := wipeHalf x.b (commit true), state := 0, key := [], attr := 0 }).count
    F.KSU_ZEROISATIONS_COUNT 1

/-- A slot governed by a set `KSU.LOCK` bit (R576). -/
def slotLocked (s : State) (n : Nat) : Bool := bit (s.reg A.KSU_LOCK).toNat (n / 16)

/-- KEY_ZEROISE of the slots `ns`, all VALID or BAD (R575). -/
def zeroiseAll (s : State) (ns : List Nat) : State :=
  if ns.isEmpty then s
  else setCause ((ns.foldl zeroiseSlot s).event 0x28 0 0x1102 1 (leBytes 2 ns.length ++ leBytes 1 1)) 0x28 2

/-- KEY_ZEROISE: it waits for the replacements of the slots it names (R573, R575). -/
def keyZeroise (s : State) (id : CmdId) : State :=
  match starting s id 0x0302 with
  | none => s
  | some c =>
    let all := bit (fieldAt c.desc 18 1) 0
    let n := fieldAt c.desc 16 2
    if s.sec.repl.any (fun r => all || r.slot == n) then s
    else
      let full (x : Nat × Slot) : Bool := x.2.state == 1 || x.2.state == 2
      let ns := ((s.sec.slots.filter full).map (fun e => e.1)).filter (fun k => if all then !slotLocked s k else k == n)
      finish (zeroiseAll (commitCmd s id) ns) id 0x00 (leBytes 2 ns.length)

/-- KEY_ZEROISE; it waits during the stroke's HOLD (R635). -/
def execKeyZeroise (id : CmdId) (s : State) : Result :=
  .next (if s.operating && !holding s then keyZeroise s id else s)

/-! ### The slot view (R553) -/

/-- The key check value of a key (R586, `SLOT_KCV`). -/
def kcv (attr : Nat) (key : List Byte) : List Byte :=
  if attr % 4 = 2 then slice (Config.sha256 (Config.publicKey key)) 0 8
  else slice (Config.cmac key (List.replicate 16 0#8)) 0 8

/-- A write of the bits `mask` of `SLOT_SEL` takes a snapshot of the slot. -/
def slotSelWrite (s : State) (src : Requester) (data mask : Word) : State :=
  let s := writeFields s src A.KSU_SLOT_SEL data mask
  let x := s.slot (s.fld F.KSU_SLOT_SEL_SLOT)
  let live := x.usable
  let s := s.setReg A.KSU_SLOT_INFO (BitVec.ofNat 32
    (2 ^ 31 + 2 ^ 28 * x.state + (if live then 2 ^ 24 * b01 x.liveB + x.attr % 2 ^ 16 else 0)))
  let s := s.setReg A.KSU_SLOT_EPOCH (BitVec.ofNat 32 x.epoch)
  s.setWide A.KSU_SLOT_KCV (if x.state == 1 then beNat (kcv x.attr x.key) else 0)

/-- SLOT_SEL_WRITE (R553). -/
def execSlotSelWrite (src : Requester) (data : Word) (s : State) : Result :=
  .next (gateWrite s src A.KSU_SLOT_SEL (fun s => slotSelWrite s src data allBits))

/-! ### Tamper (R577–R581) -/

/-- The mask destroyed (R577). -/
def destroyMask (s : State) : State :=
  { s.setFld F.KSU_STATUS_MASK_OK 0 with sec := { s.sec with maskA := none, maskB := none, maskShadow := none } }

/-- One slot with its ZOT halves overwritten, and whether its live half was one of them (R579). -/
def zotWipe (x : Slot) : Bool × Slot :=
  let liveZot := match x.committedHalf with
    | some b => isZot (x.half b).attr
    | none => false
  let wipe (b : Bool) : KeyHalf :=
    let h := x.half b
    if isZot h.attr && h.commit != zeroised then wipeHalf h (if x.committedHalf == some b then zeroised else uncommitted)
    else if liveZot && h.commit == committed then { h with commit := uncommitted }
    else h
  let x' := { x with a := wipe false, b := wipe true }
  (liveZot, if liveZot then { x' with state := 0, key := [], attr := 0 } else x')

/-- The overwrite of every ZOT half completes (R579): how many slots were zeroised. -/
def zotOverwrite (s : State) : State :=
  let hit := (s.sec.slots.filter (fun e => (zotWipe e.2).1)).map (fun e => e.1)
  let slots := Tbl.mapVals (fun _ => Slot.empty) (fun _ x => (zotWipe x).2) s.sec.slots
  let s := refreshCounts { s with sec := { s.sec with slots := slots, zotDue := false } }
  let s := s.count F.KSU_ZEROISATIONS_COUNT hit.length
  let s := if hit.isEmpty then s else s.event 0x28 0 0x1102 4 (leBytes 2 hit.length ++ leBytes 1 2)
  setCause s 0x28 4

/-- ZOT_OVERWRITE_DONE (R579). -/
def execZotOverwriteDone (s : State) : Result := .next (if s.answers && s.sec.zotDue then zotOverwrite s else s)

/-- ZOT slots of the store. -/
def zotSlots (s : State) : Nat :=
  (s.sec.slots.filter (fun e => (e.2.a.commit == committed && isZot e.2.a.attr) || (e.2.b.commit == committed && isZot e.2.b.attr))).length

/-- A tamper record not yet reported is reported (R581). `zot` counts the ZOT slots it concerned. -/
def reportTamper (s : State) (zot : Nat) : State :=
  match s.sec.tamper with
  | none => s
  | some t =>
    if t.reported then s
    else
      let s := { s with sec := { s.sec with tamper := some { t with reported := true } } }
      let s := s.setFld F.KSU_STATUS_TAMPER_LOGGED 1
      s.event 0x28 0 0x1103 4 (leBytes 1 t.source ++ leBytes 1 t.devState ++ leBytes 2 zot ++ leBytes 4 t.datumSec)

/-- Bytes of DRBG output, unless TRNG has failed (R588–R590). -/
def generate (s : State) (n : Nat) : Option (List Byte) × State :=
  if trngFailed s then (none, s)
  else
    let s := s.count F.TRNG_GENERATES_COUNT 1
    let t := s.sec.trng
    let full := 65536 ≤ t.requests + 1
    let s := { s with sec := { s.sec with trng := { t with requests := t.requests + 1, collecting := t.collecting || full } } }
    let r := drawBytes s n
    (some r.1, r.2)

/-- A new mask when none is valid and TRNG gives one (R577, R590). -/
def createMask (s : State) : State :=
  if s.mask.isSome then s
  else
    let g := generate s 32
    match g.1 with
    | none => g.2
    | some m => { g.2 with sec := { g.2.sec with maskA := some m, maskB := some m, maskShadow := some m } }

/-- KEY_STORE_LOAD (R563, R577–R581). -/
def keyStoreLoad (s : State) (damaged : List (Nat × Bool)) : State :=
  let zot := zotSlots s
  let unreported := match s.sec.tamper with
    | some t => !t.reported
    | none => false
  let s := if unreported || s.sec.zotDue then zotOverwrite s else s
  let s := reportTamper s zot
  let s := (s.sec.slots.map (fun e => e.1)).foldl (fun s n => loadSlot s damaged n) s
  let s := createMask s
  let s := s.setFld F.KSU_STATUS_MASK_OK (b01 s.mask.isSome)
  let s := s.setFld F.KSU_STATUS_ROOTS (b01 s.sec.roots)
  let s := refreshCounts (s.setFld F.KSU_STATUS_READY 1)
  { s with boot := { s.boot with keysLoaded := true } }

end Sys2Proof.Machine
end

