-- ==== Sys2Proof/Machine/Crypto.lean ====
section
/-!
DEFINITION. Sys2Proof/Machine/Crypto.lean: the host crypto jobs, the GCM queue and the TRNG (R582–R592).
-/
namespace Sys2Proof.Machine

/-! ### Jobs (R585–R587) -/

/-- The bytes of `JOB_IN` registers `i` to `i + n - 1`, first byte in [31:24]. -/
def jobIn (s : State) (i n : Nat) : List Byte := ((List.range n).map (fun k => beBytes 4 (s.reg (A.CRY_JOB_IN (i + k))).toNat)).flatten

/-- The private key `JOB_KEY.SLOT` names for a usage (R556, R585): IDK, or a slot with DEST_PKE. -/
def jobKey (s : State) (usage : Nat) : Option (List Byte) :=
  let n := s.fld F.CRY_JOB_KEY_SLOT
  if n = 0x3FF then (if s.sec.roots then some Config.identityKey else none) else slotKeyUse s n (some destPke) usage

/-- A job ends: its result, GO and JOB_BUSY clear, the cause sets (R587). -/
def endJob (s : State) (op status : Nat) (bytes : List Byte) : State :=
  let s := { s with sec := { s.sec with job := none, result := some { op := op, status := status, bytes := bytes } } }
  setCause ((s.setFld F.CRY_JOB_CTRL_GO 0).setFld F.CRY_STATUS_JOB_BUSY 0) 0x29 0

/-- A KEY_AGREE job: its checks, and step 1 of R572 (R586, R576, R590). The status of a check that fails. -/
def agreeCheck (s : State) : Option Nat :=
  let target := s.fld F.CRY_JOB_KEY_TARGET
  let attr := s.fld F.CRY_JOB_ATTR_ATTR
  if 511 < target || badAttr attr || attr % 4 == 2 || s.fld F.CRY_JOB_EPOCH_EPOCH ≤ (s.slot target).epoch then some 0x08
  else if slotLocked s target then some 0x04
  else if (jobKey s 12).isNone then some 0x03
  else if trngFailed s || (isZot attr && s.mask.isNone) then some 0x05
  else none

/-- The status a job is refused with when it starts (R585, R590). -/
def jobCheck (s : State) (op : Nat) : Option Nat :=
  match op with
  | 3 => if (jobKey s 11).isNone then some 0x03 else if trngFailed s then some 0x05 else none
  | 5 => agreeCheck s
  | 6 => if trngFailed s then some 0x05 else none
  | _ => none

/-- A job starts with the OP in `JOB_CTRL` (R585, R587). Without permission it ends NOT_ACTIVE. -/
def startJob (s : State) : State :=
  let op := s.fld F.CRY_JOB_CTRL_OP
  if !s.operating || !s.flag F.CRY_CTRL_JOB_EN then endJob (s.count F.CRY_JOBS_REFUSED_COUNT 1) op 0x07 []
  else if op = 0 then endJob s op 0x08 []
  else
    let st := jobCheck s op
    let s := if st = some 0x03 then denied s else s
    let s := { s with sec := { s.sec with job := some { op := op, status := st, data := [] } } }
    let s := (s.setFld F.CRY_JOB_CTRL_GO 1).setFld F.CRY_STATUS_JOB_BUSY 1
    if op = 5 && st.isNone then
      let n := s.fld F.CRY_JOB_KEY_TARGET
      if (replaceOf s n).isSome then s
      else beginReplace s { slot := n, cmd := none, key := [], attr := s.fld F.CRY_JOB_ATTR_ATTR, epoch := s.fld F.CRY_JOB_EPOCH_EPOCH,
                            targetB := targetHalf (s.slot n), phase := 0 }
    else s

/-- Writes to a job register other than `JOB_DATA` while a job runs are discarded (R587). -/
def jobBusy (s : State) : Bool := s.flag F.CRY_JOB_CTRL_GO

/-- JOB_BUSY recorded. -/
def jobBusyErr (s : State) (src : Requester) (a : Nat) : State := recordErr s 0x29 0x80 src.code a

/-- A write of the bits `mask` of a job register (R587). -/
def jobRegWrite (s : State) (src : Requester) (a : Nat) (data mask : Word) : State :=
  if jobBusy s then jobBusyErr s src a
  else if a = A.CRY_JOB_CTRL then
    let s := writeFields s src a data (mask &&& 0xFFFFFFFE#32)
    if bit data.toNat 0 && bit mask.toNat 0 then startJob s else s
  else writeFields s src a data mask

/-- A write of `JOB_CTRL` that starts job `op`. -/
def jobWrite (s : State) (src : Requester) (op : Nat) : State :=
  gateWrite s src A.CRY_JOB_CTRL (fun s => jobRegWrite s src A.CRY_JOB_CTRL (BitVec.ofNat 32 (256 * op + 1)) allBits)

/-- JOB_SHA256 (R585). -/
def execJobSha256 (src : Requester) (s : State) : Result := .next (jobWrite s src 1)

/-- JOB_ECDSA_VERIFY (R585). -/
def execJobEcdsaVerify (src : Requester) (s : State) : Result := .next (jobWrite s src 2)

/-- JOB_ECDSA_SIGN (R585). -/
def execJobEcdsaSign (src : Requester) (s : State) : Result := .next (jobWrite s src 3)

/-- JOB_ID_PUB (R585). -/
def execJobIdPub (src : Requester) (s : State) : Result := .next (jobWrite s src 4)

/-- JOB_KEY_AGREE (R586). -/
def execJobKeyAgree (src : Requester) (s : State) : Result := .next (jobWrite s src 5)

/-- JOB_RANDOM (R585). -/
def execJobRandom (src : Requester) (s : State) : Result := .next (jobWrite s src 6)

/-- A write to `JOB_DATA`: the next four bytes of a running SHA256 job, up to `JOB_LEN` (R587). -/
def jobData (s : State) (data : Word) : State :=
  match s.sec.job with
  | none => s
  | some j =>
    if j.op != 1 then s
    else
      let bytes := (j.data ++ leBytes 4 data.toNat).take (s.fld F.CRY_JOB_LEN_BYTES)
      { s with sec := { s.sec with job := some { j with data := bytes } } }

/-- JOB_DATA_WRITE (R587). -/
def execJobDataWrite (src : Requester) (data : Word) (s : State) : Result :=
  .next (gateWrite s src A.CRY_JOB_DATA (fun s => jobData s data))

/-- A signature job: its nonce from the DRBG (R584). -/
def signJob (s : State) (op : Nat) : State :=
  let s := s.count F.CRY_PKE_OPS_COUNT 1
  let g := generate s 32
  match g.1, jobKey s 11 with
  | none, _ => endJob g.2 op 0x05 []
  | _, none => endJob (denied g.2) op 0x03 []
  | some k, some key => endJob g.2 op 0x00 (Config.ecdsaSign key (jobIn s 0 8) k)

/-- The next part of a KEY_AGREE job (R586, R572): the agreement and the write, the commit, the end. -/
def agreeJob (s : State) (readBack : Bool) : State :=
  let n := s.fld F.CRY_JOB_KEY_TARGET
  match replaceOf s n with
  | none => startJob s
  | some r =>
    if r.cmd.isSome then s
    else if r.phase = 0 then
      let key := jobKey s 12
      let peer := jobIn s 0 16
      let cancel (s : State) : State :=
        let x := s.slot n
        (dropReplace s n).setSlot n { x with state := x.prev }
      match key with
      | none => endJob (denied (cancel s)) 5 0x03 []
      | some k =>
        let s := s.count F.CRY_PKE_OPS_COUNT 1
        match Config.ecdh k peer with
        | none => endJob (cancel s) 5 0x02 []
        | some z =>
          let bits := 8 * keyBytes r.attr
          let own := slice (Config.publicKey k) 0 32
          let r := { r with key := (kdf z labelKagr (own ++ slice peer 0 32) bits).take (keyBytes r.attr) }
          let s := writeTarget s r
          if readBack then s else endJob (failReplace s { r with phase := 1 }) 5 0x09 []
    else if r.phase = 1 then commitReplace s r
    else endJob (endReplace s r) 5 0x00 (kcv r.attr r.key ++ leBytes 1 (b01 r.targetB))

/-- JOB_DONE (R585–R587): the job in progress ends; a SHA256 job once its message is complete. -/
def jobDone (s : State) (readBack : Bool) : State :=
  match s.sec.job with
  | none => s
  | some j =>
    match j.status with
    | some st => endJob s j.op st []
    | none =>
      match j.op with
      | 1 => if j.data.length = s.fld F.CRY_JOB_LEN_BYTES then endJob s 1 0x00 (slice (Config.sha256 j.data) 0 32) else s
      | 2 =>
        let good := Config.ecdsaVerify (jobIn s 8 16) (jobIn s 0 8) (jobIn s 24 16)
        endJob (s.count F.CRY_PKE_OPS_COUNT 1) 2 (if good then 0x00 else 0x01) []
      | 3 => signJob s 3
      | 4 => endJob s 4 0x00 (slice (Config.publicKey Config.identityKey) 0 64)
      | 5 => if holding s then s else agreeJob s readBack
      | _ =>
        let g := generate s 32
        match g.1 with
        | none => endJob g.2 j.op 0x05 []
        | some bytes => endJob g.2 j.op 0x00 bytes

/-- JOB_DONE. -/
def execJobDone (readBack : Bool) (s : State) : Result := .next (if s.operating then jobDone s readBack else s)

/-- The words a pop of `JOB_RES` returns (R587); with VALID 0 those of the result last consumed (R63). -/
def jobResWords (s : State) : List Word :=
  match s.sec.result with
  | none => if s.sec.resultLast.isEmpty then List.replicate 17 0#32 else s.sec.resultLast
  | some r =>
    BitVec.ofNat 32 (2 ^ 31 + 256 * r.op + r.status)
      :: (List.range 16).map (fun i => BitVec.ofNat 32 (beNat (slice r.bytes (4 * i) 4)))

/-- A read of `JOB_RES` word 0 (R65, R587). -/
def jobResPop (s : State) (src : Requester) : State :=
  let ws := jobResWords s
  let s := readWide s src A.CRY_JOB_RES ws
  if src = .jtag || s.sec.result.isNone then s
  else { s with sec := { s.sec with result := none, resultLast := ((ws.headD 0#32) &&& 0x7FFFFFFF#32) :: ws.drop 1 } }

/-- JOB_RES_POP (R587). -/
def execJobResPop (src : Requester) (s : State) : Result := .next (gateRead s src A.CRY_JOB_RES (fun s => jobResPop s src))

/-! ### GCM requests (R582, R583) -/

/-- A GCM request reaches CRY. -/
def gcmRequest (s : State) (ok : Bool) : State := { s with sec := { s.sec with gcm := s.sec.gcm ++ [ok] } }

/-- GCM_REQUEST (R582, R583): the oldest request is served, or waits for CCM* requests. -/
def execGcmRequest (ccmWaits : Bool) (s : State) : Result :=
  .next (if !s.operating then s
    else match s.sec.gcm with
    | [] => if ccmWaits then s else s.setFld F.CRY_STATUS_GCM_BACKLOG 0
    | ok :: t =>
      if ccmWaits then s.setFld F.CRY_STATUS_GCM_BACKLOG 1
      else
        let s := ({ s with sec := { s.sec with gcm := t } }.setFld F.CRY_STATUS_GCM_BACKLOG 0).count F.CRY_GCM_OPS_COUNT 1
        if ok then s else s.count F.CRY_GCM_FAIL_COUNT 1)

/-- GCM_SATURATED (R583). -/
def execGcmSaturated (s : State) : Result :=
  .next (if s.operating && s.flag F.CRY_STATUS_GCM_BACKLOG then setCause s 0x29 1 else s)

/-! ### TRNG (R588–R591) -/

/-- Storing the TRNG's hidden state. -/
def State.setTrng (s : State) (t : Trng) : State := { s with sec := { s.sec with trng := t } }

/-- TRNG fails (R589): test 1 RCT, 2 APT, 3 start-up. -/
def trngFail (s : State) (test : Nat) : State :=
  setCause ((s.setFld F.TRNG_STATUS_FAILED 1).event 0x2A 0 0x1120 4 (leBytes 1 test)) 0x2A 0

/-- The start-up tests end (R588, R589): passed, a seed is collected and a failed TRNG recovers. -/
def trngStartupDone (s : State) (pass : Bool) : State :=
  let r := if s.flag F.TRNG_CTRL_RESEED then endGo s A.TRNG_CTRL 0 else (s, false)
  let s := r.1.setTrng { s.sec.trng with testing := r.2 }
  let s := { s with boot := { s.boot with trngDone := true } }
  if pass then
    let was := trngFailed s
    let s := (s.setFld F.TRNG_STATUS_STARTUP_DONE 1).setFld F.TRNG_STATUS_FAILED 0
    let s := s.setTrng { s.sec.trng with fails := 0, collecting := true }
    if was then setCause (s.event 0x2A 0 0x1121 1 []) 0x2A 1 else s
  else trngFail (s.setTrng { s.sec.trng with collecting := false }) 3

/-- TRNG_STARTUP_DONE (R589). -/
def execTrngStartupDone (pass : Bool) (s : State) : Result :=
  .next (if s.answers && s.sec.trng.testing then trngStartupDone s pass else s)

/-- A seed collection completes or fails its tests (R589). -/
def seedCollect (s : State) (result : Nat) : State :=
  let t := s.sec.trng
  if result = 0 then
    ((s.setTrng { t with fails := 0, collecting := false, requests := 0 }).setFld F.TRNG_STATUS_SEEDED 1).count F.TRNG_RESEEDS_COUNT
      (b01 (s.flag F.TRNG_STATUS_SEEDED))
  else
    let s := s.count (if result = 1 then F.TRNG_RCT_FAILS_COUNT else F.TRNG_APT_FAILS_COUNT) 1
    if 3 ≤ t.fails + 1 then trngFail (s.setTrng { t with fails := t.fails + 1, collecting := false }) result
    else s.setTrng { t with fails := t.fails + 1 }

/-- TRNG_SEED_COLLECT (R589). -/
def execTrngSeedCollect (result : Fin 3) (s : State) : Result :=
  .next (if s.answers && s.sec.trng.collecting then seedCollect s result else s)

/-- DRBG_RESEED_TIMER (R588): 65,536 requests or 60 s have passed. -/
def execDrbgReseedTimer (s : State) : Result :=
  .next (if s.answers && !trngFailed s && s.flag F.TRNG_STATUS_SEEDED then s.setTrng { s.sec.trng with collecting := true } else s)

/-- RESEED written 1 (R48, R589): the start-up tests run again. -/
def trngReseed (s : State) : State := (startGo s A.TRNG_CTRL 0).setTrng { s.sec.trng with testing := true }

/-- A write of the bits `mask` of `TRNG.CTRL`. -/
def trngCtrlWrite (s : State) (data mask : Word) : State :=
  if bit data.toNat 0 && bit mask.toNat 0 then trngReseed s else s

/-- TRNG_RESEED (R589). -/
def execTrngReseed (src : Requester) (s : State) : Result := .next (gateWrite s src A.TRNG_CTRL (fun s => trngReseed s))

/-- The word a read of `TRNG.RAW` returns now (R591): in MAINTENANCE a sample, if one is available; both are open. With VALID 0 it shows
the sample last consumed (R63). -/
def rawWord (s : State) : Word :=
  if s.devState = 3 && Config.freeNat s.fresh % 2 = 1 then
    BitVec.ofNat 32 (2 ^ 31 + (Config.freeByte (s.fresh + 1)).toNat)
  else BitVec.ofNat 32 s.sec.trng.rawLast

/-- A read of `TRNG.RAW` (R591). -/
def rawPop (s : State) (src : Requester) : State :=
  let w := rawWord s
  let s := s.send (.readData src A.TRNG_RAW w)
  if src = .jtag then s
  else
    { s with fresh := s.fresh + 2, sec := { s.sec with trng := { s.sec.trng with
        rawLast := if bit w.toNat 31 then w.toNat % 256 else s.sec.trng.rawLast } } }

/-- TRNG_RAW_POP (R591). -/
def execTrngRawPop (src : Requester) (s : State) : Result := .next (gateRead s src A.TRNG_RAW (fun s => rawPop s src))

end Sys2Proof.Machine
end

