-- ==== Sys2Proof/Machine/Tss.lean ====
section
/-!
DEFINITION. Sys2Proof/Machine/Tss.lean: shapers, policers, radio class shapers, gate lists and queue statistics
(14_traffic_scheduling_and_shaping.md).
-/
namespace Sys2Proof.Machine

/-- Queue `q`. -/
def State.queue (s : State) (q : Nat) : Queue := Tbl.get (fun _ => Queue.init) s.fab.queues q

/-- Storing queue `q`. -/
def State.setQueue (s : State) (q : Nat) (v : Queue) : State :=
  { s with fab := { s.fab with queues := Tbl.put (fun _ => Queue.init) s.fab.queues q v } }

/-- Egress `e`. -/
def State.egress (s : State) (e : Nat) : Egress := Tbl.get (fun _ => { serving := none, visiting := none }) s.tss.egresses e

/-- Storing egress `e`. -/
def State.setEgress (s : State) (e : Nat) (v : Egress) : State :=
  { s with tss := { s.tss with egresses := Tbl.put (fun _ => { serving := none, visiting := none }) s.tss.egresses e v } }

/-- Items a queue holds, those being written included: the first one is at the head. -/
def Queue.all (q : Queue) : List Item := q.items ++ q.producing

/-- The depth of a queue in items, markers and the items being written included (R495). -/
def Queue.depthNow (q : Queue) : Nat := q.all.length

/-- Class `c` of egress `e`. -/
def State.cls (s : State) (e c : Nat) : EgressClass := Tbl.get (fun _ => EgressClass.init) s.tss.classes (8 * e + c)

/-- Storing class `c` of egress `e`. -/
def State.setCls (s : State) (e c : Nat) (v : EgressClass) : State :=
  { s with tss := { s.tss with classes := Tbl.put (fun _ => EgressClass.init) s.tss.classes (8 * e + c) v } }

/-- Policer `p`. -/
def State.policer (s : State) (p : Nat) : Policer := Tbl.get (fun _ => Policer.init) s.tss.policers p

/-- Storing policer `p`. -/
def State.setPolicer (s : State) (p : Nat) (v : Policer) : State :=
  { s with tss := { s.tss with policers := Tbl.put (fun _ => Policer.init) s.tss.policers p v } }

/-- Gate list `x`. -/
def State.gate (s : State) (x : Nat) : GateList := Tbl.get (fun _ => GateList.init) s.gates x

/-- Storing gate list `x`. -/
def State.setGate (s : State) (x : Nat) (v : GateList) : State :=
  { s with gates := Tbl.put (fun _ => GateList.init) s.gates x v }

/-! ### Shapers (R477–R481) and policers (R484, R485) -/

/-- One refill of a shaper whose registers hold `en`, `rate` and `burst` (R477, R478, R481). -/
def Shaper.refill (sh : Shaper) (en : Bool) (rate burst : Nat) : Shaper :=
  let cap : Int := burst * 8 * 1000000
  { en := en, rate := rate, burst := burst,
    credit := if !en then sh.credit else if !sh.en then cap else min (sh.credit + rate * 1024) cap }

/-- One refill of a queue's shaper. -/
def Queue.refill (q : Queue) : Queue :=
  { q with shaper := q.shaper.refill (bit q.shape.toNat 31) (bitsOf q.shape.toNat 0 22) (bitsOf q.burst.toNat 0 24) }

/-- One refill of a class shaper. -/
def EgressClass.refill (c : EgressClass) : EgressClass :=
  { c with shaper := c.shaper.refill (bit c.cfg.toNat 30) (bitsOf c.rate.toNat 0 22) (bitsOf c.burst.toNat 0 24) }

/-- One refill of a policer's buckets (R484): CIR × 128 and PIR × 128 millionths of a byte. -/
def Policer.refill (p : Policer) : Policer :=
  let cbs := bitsOf p.cbs.toNat 0 24
  let pbs := bitsOf p.pbs.toNat 0 24
  let cir := bitsOf p.cir.toNat 0 22
  let pir := bitsOf p.pir.toNat 0 22
  { p with cirNow := cir, cbsNow := cbs, pirNow := pir, pbsNow := pbs,
           tc := min (p.tc + cir * 128) (cbs * 1000000), tp := min (p.tp + pir * 128) (pbs * 1000000) }

/-- The refill of every shaper and policer (R477, R484). -/
def tssRefill (s : State) : State :=
  { s with
    fab := { s.fab with queues := Tbl.mapVals (fun _ => Queue.init) (fun _ q => q.refill) s.fab.queues },
    tss := { s.tss with
      classes := Tbl.mapVals (fun _ => EgressClass.init) (fun _ c => c.refill) s.tss.classes,
      policers := Tbl.mapVals (fun _ => Policer.init) (fun _ p => p.refill) s.tss.policers } }

/-- TSS_REFILL (R477). -/
def execTssRefill (s : State) : Result := .next (if s.answers then tssRefill s else s)

/-- The colours of R485. -/
inductive Colour where
  | green | yellow | red
  deriving DecidableEq, Repr

/-- Colouring a frame of `b` bytes, overhead included (R485). -/
def Policer.colour (p : Policer) (b : Nat) : Colour × Policer :=
  let u := b * 1000000
  if p.tp < u then (.red, { p with red := satAdd 32 p.red 1 })
  else if p.tc < u then (.yellow, { p with tp := p.tp - u, yellow := satAdd 32 p.yellow 1 })
  else (.green, { p with tp := p.tp - u, tc := p.tc - u, green := satAdd 32 p.green 1 })

/-- OVERHEAD of egress `e` (R479). -/
def overhead (s : State) (e : Nat) : Nat :=
  match e with
  | 0 => s.fld F.TSS_OVH_CFG_EMA
  | 1 => s.fld F.TSS_OVH_CFG_EMB
  | _ => s.fld F.TSS_OVH_CFG_HOST

/-- Shapers are in force: a shaper with `sh` lets an item go (R474, `TSS.CTRL.SHAPE_EN`). -/
def shaperOk (s : State) (sh : Shaper) : Bool := !s.flag F.TSS_CTRL_SHAPE_EN || !sh.en || 0 ≤ sh.credit

/-- A charge in bytes taken from a shaper's credit (R479); a negative charge gives credit back (R480). -/
def Shaper.charge (sh : Shaper) (bytes : Int) : Shaper :=
  if sh.en then { sh with credit := sh.credit - bytes * 8000000 } else sh

/-! ### Radio class shapers (R482, R483) -/

/-- The shaper of class `c` on lane `n`. -/
def radioShaper (s : State) (n c : Nat) : Shaper :=
  Tbl.get (fun _ => { Shaper.init with burst := 1 }) s.tss.radio (4 * n + c)

/-- Storing the shaper of class `c` on lane `n`. -/
def setRadioShaper (s : State) (n c : Nat) (v : Shaper) : State :=
  { s with tss := { s.tss with radio := Tbl.put (fun _ => { Shaper.init with burst := 1 }) s.tss.radio (4 * n + c) v } }

/-- One tick of a radio shaper (R482); credit in millionths of a packet. -/
def Shaper.tick (sh : Shaper) (en : Bool) (rate burst : Nat) : Shaper :=
  let cap : Int := burst * 1000000
  { en := en, rate := rate, burst := burst,
    credit := if !en then sh.credit else if !sh.en then cap else min (sh.credit + rate) cap }

/-- One tick of the shaper of class `c` on lane `n`. -/
def radioTick (s : State) (k : Nat) : State :=
  setRadioShaper s (k / 4) (k % 4)
    ((radioShaper s (k / 4) (k % 4)).tick (s.flag (F.TSS_RSHAPE_c_EN k)) (s.fld (F.TSS_RSHAPE_c_RATE k))
      (s.fld (F.TSS_RSHAPE_c_BURST k)))

/-- RADIO_SHAPER_TICK (R482). -/
def execRadioShaperTick (s : State) : Result :=
  .next (if s.answers then (List.range 16).foldl radioTick s else s)

/-- A packet taken from (`take`) or returned to the credit of class `c` on lane `n` (R483). -/
def radioCharge (s : State) (n c : Nat) (take : Bool) : State :=
  let sh := radioShaper s n c
  if sh.en then setRadioShaper s n c { sh with credit := if take then sh.credit - 1000000 else sh.credit + 1000000 } else s

/-! ### Gate lists (R487–R493) -/

/-- Whether list `x` is a port's. -/
def isPortList (x : Nat) : Bool := x < 2

/-- Entry `i` of a bank. -/
def GateList.entry (g : GateList) (bank i : Nat) : Word :=
  Tbl.get (fun _ => 0#32) (if bank = 0 then g.bank0 else g.bank1) i

/-- Storing entry `i` of a bank. -/
def GateList.setEntry (g : GateList) (bank i : Nat) (w : Word) : GateList :=
  if bank = 0 then { g with bank0 := Tbl.put (fun _ => 0#32) g.bank0 i w }
  else { g with bank1 := Tbl.put (fun _ => 0#32) g.bank1 i w }

/-- What an entry of list `x` holds of a word written: bits [31:28] of a lane's entry are 0 (R487). -/
def entryWord (x : Nat) (w : Word) : Word := if isPortList x then w else w &&& 0x0FFFFFFF#32

/-- Gates and interval in ns of an entry of list `x` (R487). -/
def gateEntry (x : Nat) (w : Word) : Nat × Nat :=
  if isPortList x then (bitsOf w.toNat 24 8, bitsOf w.toNat 0 24 * 4) else (bitsOf w.toNat 24 4, bitsOf w.toNat 0 24 * 1000)

/-- The entries of a bank as (gates, ns). -/
def gateEntries (s : State) (x bank len : Nat) : List (Nat × Nat) :=
  (List.range len).map (fun i => gateEntry x ((s.gate x).entry bank i))

/-- The entry at `pos` ns into a cycle: its number, its gates, the ns it still holds (R487). -/
def entryAt : List (Nat × Nat) → Nat → Nat → Nat → Nat × Nat × Nat
  | [], i, _, left => (i - 1, 0, left)
  | [(g, _)], i, _, left => (i, g, left)
  | (g, d) :: t, i, pos, left => if pos < d then (i, g, min (d - pos) left) else entryAt t (i + 1) (pos - d) left

/-- The entry that Datum time `t` (ns) selects in a list with cycle `cycle` and base `base`. -/
def gatesAt (es : List (Nat × Nat)) (cycle base t : Nat) : Nat × Nat × Nat :=
  let pos := (((t : Int) - base) % cycle).toNat
  entryAt es 0 pos (cycle - pos)

/-- The entries, one cycle long: cut where the cycle ends, the last entry held to its end (R487). -/
def cycleRuns : List (Nat × Nat) → Nat → List (Nat × Nat)
  | [], _ => []
  | [(g, _)], left => [(g, left)]
  | (g, d) :: t, left => if left ≤ d then [(g, left)] else (g, d) :: cycleRuns t (left - d)

/-- The longest run of consecutive open time of class `c` within one cycle, in ns. -/
def longestRun (c : Nat) : List (Nat × Nat) → Nat → Nat → Nat
  | [], run, best => max run best
  | (g, d) :: t, run, best => if bit g c then longestRun c t (run + d) best else longestRun c t 0 (max run best)

/-- Mbit/s of a line rate code (R500); 0 for link down. -/
def rateMbps (code : Nat) : Nat :=
  match code with
  | 1 => 10
  | 2 => 100
  | 3 => 1000
  | 4 => 2500
  | _ => 0

/-- Line rate of port `x` in Mbit/s. -/
def portMbps (s : State) (x : Nat) : Nat := rateMbps (s.fld (F.EM_STATUS_RATE x))

/-- Bits of the port's largest frame with OVERHEAD (R489). -/
def largestBits (s : State) (x : Nat) : Nat := (s.fld (F.EM_FRAME_CFG_MAX_FRAME x) + overhead s x) * 8

/-- The lowest class of port `x` that is open somewhere in the list and never long enough for the largest frame at
`mbps` (check 4 of R489). A port without a line rate has no such time. -/
def unfitClass (s : State) (x mbps : Nat) (es : List (Nat × Nat)) (cycle : Nat) : Option Nat :=
  if mbps = 0 then none
  else (List.range 8).find? (fun c =>
    es.any (fun e => bit e.1 c) && longestRun c (cycleRuns es cycle) 0 0 * mbps < largestBits s x * 1000)

/-- The operational bank of list `x`. -/
def operBank (s : State) (x : Nat) : Nat := s.fld (F.GCL_L_CTRL_OPER_BANK x)

/-- Whether the gates of list `x` apply (R488, R491, R493). -/
def gatesApply (s : State) (x : Nat) : Bool :=
  s.flag (F.GCL_L_CTRL_ENABLE x) && s.flag (F.GCL_L_CTRL_LOADED x) && !(s.gate x).unfit

/-- Every class open. -/
def allGates (x : Nat) : Nat := if isPortList x then 0xFF else 0x0F

/-- The entry and the gates that apply now on list `x`. -/
def gatesNow (s : State) (x : Nat) : Nat × Nat :=
  let g := s.gate x
  if gatesApply s x then
    let r := gatesAt (gateEntries s x (operBank s x) g.len) g.cycle g.base s.nowNs
    (r.1, r.2.1)
  else (0, allGates x)

/-- The gates of port list `x` at Datum time `t`, and for how many ns they hold from there; none: for good. With ENABLE 1 a pending
switch ends at its instant what applies before it, be it an old list or every class open (R488, R490). -/
def gatesHold (s : State) (x t : Nat) : Nat × Option Nat :=
  let g := s.gate x
  let oper := operBank s x
  let run (bank len cycle base : Nat) : Nat × Option Nat :=
    let r := gatesAt (gateEntries s x bank len) cycle base t
    (r.2.1, some r.2.2)
  let old := if gatesApply s x then run oper g.len g.cycle g.base else (allGates x, none)
  if !s.flag (F.GCL_L_CTRL_ENABLE x) then (allGates x, none)
  else
    match g.switch with
    | none => old
    | some w =>
      if w.at_ ≤ t then run (1 - oper) w.len w.cycle w.base
      else (old.1, some (min (old.2.getD (w.at_ - t)) (w.at_ - t)))

/-- Whether class `c` of port list `x` stays open from `t` for `need` ns, through the following entries, the following
cycles and a pending switch (R488). -/
def staysOpen (s : State) (x c : Nat) : Nat → Nat → Nat → Bool
  | 0, _, _ => true
  | fuel + 1, t, need =>
    match gatesHold s x t with
    | (g, none) => bit g c
    | (g, some d) =>
      if !bit g c then false
      else if need ≤ d then true
      else staysOpen s x c fuel (t + d) (need - d)

/-- The Datum time from `t` on at which class `c` of port list `x` is open (R515). -/
def nextOpen (s : State) (x c : Nat) : Nat → Nat → Option Nat
  | 0, _ => none
  | fuel + 1, t =>
    match gatesHold s x t with
    | (g, none) => if bit g c then some t else none
    | (g, some d) => if bit g c then some t else nextOpen s x c fuel (t + d)

/-- Whether a frame of `bits` bits of class `c` may begin on port `x` (R488). -/
def gateAllows (s : State) (x c bits : Nat) : Bool :=
  staysOpen s x c 2048 s.nowNs (ceilDiv (bits * 1000) (max 1 (portMbps s x)))

/-- The register view of the gates now applied; a class that opens may be counted as held again (R488). -/
def gatesRefresh (s : State) (x : Nat) : State :=
  let n := gatesNow s x
  let old := s.fld (F.GCL_L_OPER_STATE_GATES x)
  let g := s.gate x
  let s := s.setGate x { g with held := g.held.filter (fun h => !(bit n.2 h.1 && !bit old h.1)) }
  (s.setFld (F.GCL_L_OPER_STATE_GATES x) n.2).setFld (F.GCL_L_OPER_STATE_ENTRY x) n.1

/-- GATE_ENTRY_ADVANCE (R487). -/
def execGateEntryAdvance (list : Fin 6) (s : State) : Result :=
  .next (if s.answers then gatesRefresh s list else s)

/-- The administrative parameters of list `x` now in the registers, cycle and base in ns. -/
def adminParams (s : State) (x : Nat) : Nat × Nat × Nat :=
  let u := if isPortList x then 1 else 1000
  (s.fld (F.GCL_L_ADMIN_LEN_LEN x), s.fld (F.GCL_L_ADMIN_CYCLE_CYCLE x) * u,
    (s.fld (F.GCL_L_ADMIN_BASE_MID_S_LO x) + 2 ^ 32 * s.fld (F.GCL_L_ADMIN_BASE_HI_S_HI x)) * 1000000000
      + s.fld (F.GCL_L_ADMIN_BASE_NS x))

/-- The reason for which R489 refuses a list, with the failing entry or class. -/
def gateReject (s : State) (x len cycle bank : Nat) : Option (Nat × Nat) :=
  if outside len 1 (if isPortList x then 256 else 64) then some (1, 0)
  else if cycle = 0 then some (2, 0)
  else
    let es := gateEntries s x bank len
    match es.zipIdx.find? (fun e => e.1.2 == 0) with
    | some (_, i) => some (3, i)
    | none =>
      match (if isPortList x then unfitClass s x (portMbps s x) es cycle else none) with
      | some c => some (4, c)
      | none => none

/-- The earliest cycle start of a new list at least 10 µs after `t` (R490). -/
def switchInstant (cycle base t : Nat) : Nat :=
  if t + 10000 ≤ base then base else base + ceilDiv (t + 10000 - base) cycle * cycle

/-- A switch is started: the administrative bank is checked, and it is refused or its instant is set (R489, R490). -/
def startSwitch (s : State) (x : Nat) : State :=
  let p := adminParams s x
  match gateReject s x p.1 p.2.1 (1 - operBank s x) with
  | some (reason, at') =>
    let s := s.setFld (F.GCL_L_CTRL_SWITCH x) 0
    let s := setCause (s.count F.GCL_REJECTS_COUNT 1) 0x23 1
    s.event 0x23 x 0x0E01 2 (leBytes 1 reason ++ leBytes 1 at' ++
      leBytes 4 (if reason = 4 then ceilDiv (largestBits s x * 1000) (max 1 (portMbps s x)) else 0))
  | none =>
    s.setGate x { s.gate x with
      switch := some { len := p.1, cycle := p.2.1, base := p.2.2, at_ := switchInstant p.2.1 p.2.2 s.nowNs } }

/-- The bit number of `Lx_CTRL.SWITCH`. -/
def switchBit : Nat := 8

/-- SWITCH written 1 to list `x` (R48, R489). -/
def writeSwitch (s : State) (x : Nat) : State :=
  let running := s.flag (F.GCL_L_CTRL_SWITCH x)
  let s := startGo s (A.GCL_L_CTRL x) switchBit
  if running then s else startSwitch s x

/-- A list's registers may be written: its `LOCK` bit is 0 (R54). -/
def gateLocked (s : State) (x : Nat) : Bool :=
  if x < 2 then s.flag F.GCL_LOCK_LOCK0 else s.flag F.GCL_LOCK_LOCK1

/-- GCL_SWITCH (R489): a write of 1 to `Lx_CTRL.SWITCH`. -/
def execGclSwitch (src : Requester) (list : Fin 6) (s : State) : Result :=
  .next (gateWrite s src (A.GCL_L_CTRL list) (fun s =>
    if gateLocked s list then recordErr s 0x23 0x01 src.code (A.GCL_L_CTRL list) else writeSwitch s list))

/-- The switch instant of list `x`: the banks exchange roles (R490). -/
def takeSwitch (s : State) (x : Nat) : State :=
  match (s.gate x).switch with
  | none => s
  | some w =>
    let bank := 1 - operBank s x
    let s := s.setGate x { s.gate x with len := w.len, cycle := w.cycle, base := w.base, switch := none, unfit := false }
    let s := s.setFld (F.GCL_L_CTRL_OPER_BANK x) bank
    let s := s.setFld (F.GCL_L_CTRL_LOADED x) 1
    let s := s.setFld (F.GCL_L_OPER_CYCLE_CYCLE x) (if isPortList x then w.cycle else w.cycle / 1000)
    let s := setCause (s.count F.GCL_SWITCHES_COUNT 1) 0x23 0
    let s := s.event 0x23 x 0x0E00 0
      (leBytes 4 (w.at_ / 1000000000) ++ leBytes 4 (w.at_ % 1000000000) ++ leBytes 1 bank)
    let s := gatesRefresh s x
    let g := endGo s (A.GCL_L_CTRL x) switchBit
    if g.2 then startSwitch g.1 x else g.1

/-- GCL_SWITCH_INSTANT (R490). -/
def execGclSwitchInstant (list : Fin 6) (s : State) : Result :=
  .next (match (s.gate list).switch with
    | some w => if s.answers && w.at_ ≤ s.nowNs then takeSwitch s list else s
    | none => s)

/-- What a Datum step does to the gate lists: instants passed over take effect at once, positions move (R492). -/
def gatesAfterStep (s : State) : State :=
  (List.range 6).foldl (fun s x =>
    match (s.gate x).switch with
    | some w => if w.at_ ≤ s.nowNs then takeSwitch s x else gatesRefresh s x
    | none => gatesRefresh s x) s

/-- Check 4 on the operational list at each new line rate of port `x`: where it fails, every class opens (R491). -/
def gatesAfterRate (s : State) (x rate : Nat) : State :=
  let g := s.gate x
  if !s.flag (F.GCL_L_CTRL_LOADED x) then s
  else
    match unfitClass s x (rateMbps rate) (gateEntries s x (operBank s x) g.len) g.cycle with
    | none => s
    | some c =>
      let s := setCause (s.setGate x { g with unfit := true }) 0x23 2
      gatesRefresh (s.event 0x23 x 0x0E02 2 (leBytes 1 c ++ leBytes 1 rate)) x

/-- A write or read of `GCL.WIN_DATA` (R487): the entry it acts on, and the advance of ENTRY. -/
def winData (s : State) (src : Requester) (write : Option Word) : State :=
  let x := s.fld F.GCL_WIN_SEL_LIST
  let bank := s.fld F.GCL_WIN_SEL_BANK
  let i := s.fld F.GCL_WIN_SEL_ENTRY
  let beyond := !isPortList x && 64 ≤ i
  let value := if beyond then 0#32 else (s.gate x).entry bank i
  let s := if beyond then recordErr s 0x23 0x81 src.code A.GCL_WIN_DATA else s
  let s := match write with
    | none => s.send (.readData src A.GCL_WIN_DATA value)
    | some w =>
      if beyond then s
      else if gateLocked s x then recordErr s 0x23 0x01 src.code A.GCL_WIN_DATA
      else if bank = operBank s x || s.flag (F.GCL_L_CTRL_SWITCH x) then recordErr s 0x23 0x80 src.code A.GCL_WIN_DATA
      else s.setGate x ((s.gate x).setEntry bank i (entryWord x w))
  if s.flag F.GCL_WIN_CTRL_INC && !(src = .jtag && write.isNone) then s.setFld F.GCL_WIN_SEL_ENTRY (i + 1) else s

/-- GCL_WIN_DATA_ACCESS (R487). -/
def execGclWinDataAccess (src : Requester) (write : Option Word) (s : State) : Result :=
  .next (match write with
    | some _ => gateWrite s src A.GCL_WIN_DATA (fun s => winData s src write)
    | none => gateRead s src A.GCL_WIN_DATA (fun s => winData s src write))

/-! ### Depth and delay sampling (R494–R496) -/

/-- The histogram bin of a value (R495). -/
def histBin (v : Nat) : Nat := if v = 0 then 0 else min 15 (Nat.log2 v + 1)

/-- One value recorded in a statistic; whether a bin became saturated by it (R495). -/
def Stat.add (t : Stat) (v : Nat) : Stat × Bool :=
  let b := histBin v
  let n := Tbl.get (fun _ => 0) t.bins b
  let v' := Nat.min v 0xFFFFFFFF
  ({ min := Nat.min t.min v', max := Nat.max t.max v', last := v', bins := Tbl.put (fun _ => 0) t.bins b (satAdd 32 n 1) },
    n + 1 == 0xFFFFFFFF || (0xFFFFFFFF ≤ v && t.max < 0xFFFFFFFF))

/-- Head-of-line delay of a queue in µs (R495). -/
def headDelay (s : State) (q : Queue) : Nat := if q.all.isEmpty then 0 else (s.dev.upCycles - q.headSince) * 4 / 1000

/-- The sample of one queue; whether a statistic became saturated. -/
def sampleQueue (s : State) (q : Queue) : Queue × Bool :=
  let d := q.depth.add q.depthNow
  let t := q.delay.add (headDelay s q)
  ({ q with samples := satAdd 31 q.samples 1, depth := d.1, delay := t.1 },
    d.2 || t.2 || (q.samples + 1 == 2 ^ 31 - 1))

/-- Every enabled queue is sampled at one instant (R494). -/
def sampleAll (s : State) : State :=
  let enabled (q : Queue) : Bool := bit q.cfg.toNat 31
  let sat := s.fab.queues.any (fun e => enabled e.2 && (sampleQueue s e.2).2)
  let qs := Tbl.mapVals (fun _ => Queue.init) (fun _ q => if enabled q then (sampleQueue s q).1 else q) s.fab.queues
  let s := { s with fab := { s.fab with queues := qs } }
  let s := s.setFld F.TSS_STATUS_SAMPLE_CODE (s.fld F.TSS_SAMPLE_CFG_CODE)
  let s := if sat then setCause s 0x22 1 else s
  setCause s 0x22 0

/-- The sample interval in ns that a CODE selects (R494). -/
def sampleNs (code : Nat) : Nat := [1, 2, 5].getD (code % 3) 1 * 10 ^ (5 + code / 3)

/-- SAMPLE_INSTANT (R494, R540): the counter has come to a multiple of the interval, which is sampled once. -/
def execSampleInstant (s : State) : Result :=
  .next (if s.operating && crossed s 0 (sampleNs (s.fld F.TSS_SAMPLE_CFG_CODE)) && s.dtm.sampledAt != some s.dev.upCycles then
      sampleAll { s with dtm := { s.dtm with sampledAt := some s.dev.upCycles } }
    else s)

/-- A snapshot of the selected queue is asked for; VALID clears (R496). -/
def snapStart (s : State) : State :=
  let running := s.flag F.TSS_ST_CTRL_SNAP
  let s := (startGo s A.TSS_ST_CTRL 0).setFld F.TSS_ST_SAMPLES_VALID 0
  if running then s else { s with tss := { s.tss with snapping := some (s.fld F.TSS_SEL_QUEUE) } }

/-- ST_SNAP (R496). -/
def execStSnap (src : Requester) (s : State) : Result := .next (gateWrite s src A.TSS_ST_CTRL snapStart)

/-- The statistics of a queue copied into the registers (R496). -/
def snapCopy (s : State) (q : Queue) : State :=
  let w (s : State) (a v : Nat) : State := s.setReg a (BitVec.ofNat 32 v)
  let s := w s A.TSS_ST_SAMPLES (2 ^ 31 + q.samples)
  let s := w (w (w s A.TSS_ST_DEPTH_MIN q.depth.min) A.TSS_ST_DEPTH_MAX q.depth.max) A.TSS_ST_DEPTH_LAST q.depth.last
  let s := w (w (w s A.TSS_ST_DELAY_MIN q.delay.min) A.TSS_ST_DELAY_MAX q.delay.max) A.TSS_ST_DELAY_LAST q.delay.last
  (List.range 16).foldl (fun s i =>
    w (w s (A.TSS_ST_DEPTH_HIST i) (Tbl.get (fun _ => 0) q.depth.bins i))
      (A.TSS_ST_DELAY_HIST i) (Tbl.get (fun _ => 0) q.delay.bins i)) s

/-- ST_SNAP_DONE (R496). -/
def execStSnapDone (s : State) : Result :=
  .next (match s.tss.snapping with
    | none => s
    | some q =>
      let s := snapCopy s (s.queue q)
      let g := endGo s A.TSS_ST_CTRL 0
      let s := { g.1 with tss := { g.1.tss with snapping := if g.2 then some (g.1.fld F.TSS_SEL_QUEUE) else none } }
      if g.2 then s.setFld F.TSS_ST_SAMPLES_VALID 0 else s)

/-- The statistics of the selected queue cleared (R495). -/
def clearStats (s : State) : State :=
  let q := s.fld F.TSS_SEL_QUEUE
  s.setQueue q { s.queue q with samples := 0, depth := Stat.init, delay := Stat.init }

/-- ST_CLEAR (R495). -/
def execStClear (src : Requester) (s : State) : Result := .next (gateWrite s src A.TSS_ST_CTRL clearStats)

end Sys2Proof.Machine
end

