-- ==== Sys2Proof/Machine/EthBase.lean ====
section
/-!
DEFINITION. Sys2Proof/Machine/EthBase.lean: Ethernet frames, the PTP messages in them (R507, R517), and the PAUSE
frames a port sends (R505, R513, R515).
-/
namespace Sys2Proof.Machine

/-! ### Ports -/

/-- Port `x`. -/
def State.port (s : State) (x : Nat) : Port := Tbl.get (fun _ => Port.init) s.ports x

/-- Storing port `x`. -/
def State.setPort (s : State) (x : Nat) (p : Port) : State := { s with ports := Tbl.put (fun _ => Port.init) s.ports x p }

/-- A frame padded to 60 bytes (R505). -/
def padFrame (bs : List Byte) : List Byte := bs ++ List.replicate (60 - bs.length) 0#8

/-- A frame with its FCS. -/
def withFcs (bs : List Byte) : List Byte := bs ++ leBytes 4 (crc32 bs)

/-- A frame ended with the inverse of its FCS (R506). -/
def withBadFcs (bs : List Byte) : List Byte := bs ++ leBytes 4 (crc32 bs ^^^ 0xFFFFFFFF)

/-- MAC address of port `x`. -/
def mac (x : Nat) : List Byte := slice (Config.portMac x) 0 6

/-- A PAUSE frame (R513). -/
def pauseFrame (x quanta : Nat) : List Byte :=
  withFcs (padFrame ([0x01#8, 0x80#8, 0xC2#8, 0#8, 0#8, 0x01#8] ++ mac x ++ [0x88#8, 0x08#8, 0x00#8, 0x01#8] ++ beBytes 2 quanta))

/-- A port can send: its line is up and transmit is enabled. -/
def portUp (s : State) (x : Nat) : Bool := portMbps s x != 0 && s.flag (F.EM_CTRL_TX_EN x)

/-- The port leaves LPI (R515). -/
def leaveLpi (s : State) (x : Nat) : State :=
  if s.flag (F.EM_STATUS_LPI_TX x) then
    (s.setFld (F.EM_STATUS_LPI_TX x) 0).setPort x { s.port x with waking := true }
  else s

/-- A frame is in progress on port `x`: an item its consumer has begun. -/
def frameInProgress (s : State) (x : Nat) : Bool :=
  match (s.egress x).serving with
  | none => false
  | some q => (s.queue q).items.head?.any (fun i => i.begun && !i.isBreak)

/-- The PAUSE frames due are sent, unless the port wakes or a frame is in progress (R513, R515). -/
def flushPause (s : State) (x : Nat) : State :=
  if (s.port x).waking || frameInProgress s x then s
  else
    (s.port x).pauseDue.foldl (fun (t : State) quanta => (t.send (.eth x (pauseFrame x quanta))).count (F.EM_TX_PAUSE_COUNT x) 1)
      (s.setPort x { s.port x with pauseDue := [] })

/-- A PAUSE becomes due: sent after the frame in progress and after the wake, ahead of every queued item (R513, R515). -/
def sendPause (s : State) (x quanta : Nat) : State :=
  if !portUp s x then s
  else
    let s := leaveLpi s x
    flushPause (s.setPort x { s.port x with pauseDue := (s.port x).pauseDue ++ [quanta] }) x

/-- The PAUSE of every port with TX_PAUSE when the free cells cross their limits (R513): TX_QUANTA as they fall, 0 as they
rise again. -/
def pauseAll (s : State) (low : Bool) : State :=
  [0, 1].foldl (fun s x =>
    if s.flag (F.EM_PAUSE_CFG_TX_PAUSE x) then sendPause s x (if low then s.fld (F.EM_PAUSE_CFG_TX_QUANTA x) else 0) else s) s

/-! ### Frames (R507, R517) -/

/-- The 16-bit field at byte `i` of a frame, most significant byte first. -/
def be16 (bs : List Byte) (i : Nat) : Nat := beNat (slice bs i 2)

/-- The outer tag of a frame: whether it is an S-tag, and its TCI (R507). -/
def outerTag (s : State) (x : Nat) (bs : List Byte) : Option (Bool × Nat) :=
  if bs.length < 16 then none
  else if be16 bs 12 = 0x8100 then some (false, be16 bs 14)
  else if be16 bs 12 = s.fld (F.EM_VLAN_CFG_S_TPID x) then some (true, be16 bs 14)
  else none

/-- Where the payload of a frame begins after at most one tag: the place of its EtherType. -/
def typeAt (s : State) (x : Nat) (bs : List Byte) : Nat := if (outerTag s x bs).isSome then 16 else 12

/-- The PTP message of a frame: its offset H, and its transport: 0 Ethernet, 1 IPv4, 2 IPv6 (R507 row 4). -/
def ptpAt (s : State) (x : Nat) (bs : List Byte) : Option (Nat × Nat) :=
  let t := typeAt s x bs
  let ip := t + 2
  match be16 bs t with
  | 0x88F7 => some (ip, 0)
  | 0x0800 =>
    let udp := ip + 4 * bitsOf (fieldAt bs ip 1) 0 4
    if fieldAt bs (ip + 9) 1 = 17 && (be16 bs (udp + 2) == 319 || be16 bs (udp + 2) == 320) then some (udp + 8, 1) else none
  | 0x86DD =>
    let udp := ip + 40
    if fieldAt bs (ip + 6) 1 = 17 && (be16 bs (udp + 2) == 319 || be16 bs (udp + 2) == 320) then some (udp + 8, 2) else none
  | _ => none

/-- A PTP event message (R517): its offset, transport and messageType. -/
def ptpEvent (s : State) (x : Nat) (bs : List Byte) : Option (Nat × Nat × Nat) :=
  match ptpAt s x bs with
  | none => none
  | some (h, tr) =>
    let mt := fieldAt bs h 1 % 16
    if fieldAt bs (h + 1) 1 % 16 = 2 && mt ≤ 3 then some (h, tr, mt) else none

end Sys2Proof.Machine
end

