-- ==== Sys2Proof/Machine/Fab.lean ====
section
/-!
DEFINITION. Sys2Proof/Machine/Fab.lean: the frame fabric: cells, admission, commit, markers, flush, fault reset, the host
receive rings, the queue window and the choice of the next item of an egress (13_frame_fabric_and_queues.md, R472–R480).
-/
namespace Sys2Proof.Machine

/-! ### Cells and descriptor slots (R446–R449) -/

/-- The `n`-th free number, counted from 0, outside the rising list `used`. -/
def nthFree : List Nat → Nat → Nat
  | [], n => n
  | u :: t, n => if u ≤ n then nthFree t (n + 1) else n

/-- A number put into a rising list. -/
def insertNat (n : Nat) : List Nat → List Nat
  | [] => [n]
  | u :: t => if n < u then n :: u :: t else u :: insertNat n t

/-- Free SRAM cells. -/
def sramFree (s : State) : Nat := 14336 - s.fab.sramUsed.length

/-- Free DRAM cells. -/
def dramFree (s : State) : Nat := 65536 - s.fab.dramUsed.length

/-- BUF_LOW raised, and PAUSE sent, when the free SRAM cells fall below LOW_CELLS; armed again, and the pause ended, above
LOW_CELLS + 256 (R449, R513). -/
def bufLowCheck (s : State) : State :=
  let low := s.fld F.FAB_BUF_CFG_LOW_CELLS
  if s.fab.lowArmed && sramFree s < low then
    let s := setCause { s with fab := { s.fab with lowArmed := false } } 0x20 4
    pauseAll (s.event 0x20 0 0x0D03 2 (leBytes 2 (sramFree s) ++ leBytes 4 (dramFree s))) true
  else if !s.fab.lowArmed && low + 256 < sramFree s then pauseAll { s with fab := { s.fab with lowArmed := true } } false
  else s

/-- One cell taken for an item; `engine`: it may use the reserve (R447). Which free cell is open. -/
def takeCell (s : State) (engine : Bool) : Option (Nat × State) :=
  if 0 < sramFree s && (engine || s.fld F.FAB_BUF_CFG_SRAM_RSV < sramFree s) then
    let d := drawNat s (sramFree s)
    let h := nthFree s.fab.sramUsed d.1
    some (h, bufLowCheck { d.2 with fab := { d.2.fab with sramUsed := insertNat h d.2.fab.sramUsed } })
  else if s.flag F.FAB_CTRL_DRAM_OVF && 0 < dramFree s then
    let d := drawNat s (dramFree s)
    let h := nthFree s.fab.dramUsed d.1
    some (0x10000 + h, { d.2 with fab := { d.2.fab with dramUsed := insertNat h d.2.fab.dramUsed } })
  else none

/-- Cells taken in order, `n` of them or as many as there are. -/
def takeCells (s : State) (engine : Bool) : Nat → List Nat × State
  | 0 => ([], s)
  | n + 1 =>
    match takeCell s engine with
    | none => ([], s)
    | some (h, s) =>
      let r := takeCells s engine n
      (h :: r.1, r.2)

/-- Cells freed (R449). -/
def freeCells (s : State) (hs : List Nat) : State :=
  bufLowCheck { s with fab := { s.fab with
      sramUsed := s.fab.sramUsed.filter (fun h => !hs.contains h),
      dramUsed := s.fab.dramUsed.filter (fun h => !hs.contains (0x10000 + h)) } }

/-- A descriptor slot for an item: from SRAM while an unreserved slot is free, else from DRAM (R446, R447). -/
def takeDesc (s : State) : Option (Bool × State) :=
  if s.fab.descSram < 12288 then some (false, { s with fab := { s.fab with descSram := s.fab.descSram + 1 } })
  else if s.fab.descDram < 262144 then some (true, { s with fab := { s.fab with descDram := s.fab.descDram + 1 } })
  else none

/-- The descriptor slot of an item freed; a marker stands in the reserved slot of its queue (R466). -/
def freeDesc (s : State) (i : Item) : State :=
  if i.isBreak then s
  else if i.dramDesc then { s with fab := { s.fab with descDram := s.fab.descDram - 1 } }
  else { s with fab := { s.fab with descSram := s.fab.descSram - 1 } }

/-- The cells and the descriptor slot of an item freed. -/
def freeItem (s : State) (i : Item) : State := freeDesc (freeCells s i.cells) i

/-! ### Items and queues -/

/-- An item without bytes. -/
def Item.blank : Item :=
  { isBreak := false, buf := 0, hasMeta := false, appendFcs := false, ptpOneStep := false, trunc := false, cause := 0, qseq := 0,
    ts := [], src := 0, first := 0, last := 0, aux := 0, bytes := [], committed := true, begun := false, cells := [],
    dramDesc := false, inject := none }

/-- LEN: the frame bytes, the reception block excluded (R450). -/
def Item.len (i : Item) : Nat := i.bytes.length - (if i.hasMeta then 64 else 0)

/-- `QCFG` in force for the head item in CLASS, CT_THRESH, AUTO_RESUME and DROP_BREAK: as it was when the item reached the head, or as it
is where there is none (R460). -/
def Queue.inForce (q : Queue) : Nat := if q.all.isEmpty then q.cfg.toNat else q.headCfg.toNat

/-- Class of a queue (R473). -/
def Queue.cls (q : Queue) : Nat := bitsOf q.inForce 16 3

/-- AUTO_RESUME of a queue (R466). -/
def Queue.autoResume (q : Queue) : Bool := bit q.inForce 30

/-- DROP_BREAK of a queue (R469). -/
def Queue.dropBreak (q : Queue) : Bool := bit q.inForce 29

/-- CT_THRESH of a queue in bytes (R461). -/
def Queue.ctBytes (q : Queue) : Nat := bitsOf q.inForce 0 8 * 32

/-- DEST of a queue (R452). -/
def Queue.dest (q : Queue) : Nat := bitsOf q.cfg.toNat 24 4

/-- The egress a queue belongs to (R472). -/
def Queue.egress (q : Queue) : Option Nat :=
  match q.dest with
  | 0 => some (2 + bitsOf q.cfg.toNat 20 3)
  | 2 => some 0
  | 3 => some 1
  | _ => none

/-- The 32 bytes of a descriptor (R450). -/
def descBytes (q : Nat) (qu : Queue) (i : Item) : List Byte :=
  let b3 := b01 i.isBreak + 4 * b01 i.hasMeta + 8 * b01 i.appendFcs + 16 * b01 i.ptpOneStep + 32 * b01 i.trunc
  leBytes 3 i.buf ++ leBytes 1 b3 ++ leBytes 2 (if i.isBreak then i.cause else i.len) ++ leBytes 2 (q + 4096 * qu.cls)
    ++ leBytes 4 (if i.isBreak then i.last else i.qseq) ++ slice i.ts 0 12
    ++ (if i.isBreak then leBytes 4 i.first ++ leBytes 4 i.last else leBytes 1 i.src ++ leBytes 3 0 ++ leBytes 4 i.aux)

/-- The 12-byte form of a Datum time (R530). -/
def stampOf (t : Time) (stepGen : Nat) : List Byte :=
  leBytes 6 t.sec ++ leBytes 4 (t.ns % 2 ^ 30 + stepGen % 4 * 2 ^ 30) ++ leBytes 2 (t.frac / 2 ^ 16)

/-- The present Datum time in the 12-byte form. -/
def stampNow (s : State) : List Byte := stampOf s.now (s.fld F.DTM_STATUS_STEP_GEN)

/-- Frames of a queue, the items being written included; markers are not counted (R453). -/
def Queue.frames (q : Queue) : List Item := q.items.filter (fun i => !i.isBreak) ++ q.producing

/-- Bytes held by a queue. -/
def Queue.bytes (q : Queue) : Nat := q.frames.foldl (fun n i => n + i.bytes.length) 0

/-- Whether a queue admits an item (R453, R460). -/
def Queue.admits (q : Queue) : Bool :=
  (q.state == 1 || q.state == 2) && !q.stopping && q.frames.length < bitsOf q.limit.toNat 16 16
    && q.bytes < bitsOf q.limit.toNat 0 16 * 1024

/-- What stands at the head of a queue, by its buffer handle, a marker by the end of its range. -/
def Queue.headKey (q : Queue) : Option (Bool × Nat × Nat) := q.all.head?.map (fun i => (i.isBreak, i.buf, i.last))

/-- A queue with other items: both copies of its pointers move (R464); a queue that is left empty has no deficit (R476); where another
item reaches the head, `QCFG` is taken for it and its time at the head begins (R460, R495). -/
def Queue.put (q : Queue) (now : Nat) (items producing : List Item) : Queue :=
  let move (p : Nat × Nat) : Nat × Nat :=
    if q.items.length ≤ items.length then (p.1, p.2 + (items.length - q.items.length)) else (p.1 + (q.items.length - items.length), p.2)
  let n : Queue := { q with
    items := items, producing := producing, ptrA := move q.ptrA, ptrB := move q.ptrB,
    deficit := if (items ++ producing).isEmpty then 0 else q.deficit }
  if n.headKey = q.headKey then n else { n with headSince := now, headCfg := q.cfg }

/-- The queues that feed egress `e`, in increasing number. -/
def egressQueues (s : State) (e : Nat) : List Nat :=
  s.fab.queues.filterMap (fun x => if x.2.egress = some e then some x.1 else none)

/-- A class that holds no item has no deficit (R476). -/
def classSettle (s : State) (e c : Nat) : State :=
  if (egressQueues s e).any (fun q => (s.queue q).cls == c && !(s.queue q).all.isEmpty) then s
  else s.setCls e c { s.cls e c with deficit := 0 }

/-- Queue `q` is given other items. -/
def State.putItems (s : State) (q : Nat) (items producing : List Item) : State :=
  let old := s.queue q
  let s := s.setQueue q (old.put s.dev.upCycles items producing)
  match old.egress with
  | some e => if items.length < old.items.length then classSettle s e old.cls else s
  | none => s

/-! ### Charges (R479, R480) -/

/-- Bytes an item is charged on egress `e`; an item not yet committed is charged the largest frame of the port that sends it, or, toward a
host ring, of the port that receives it (R480). -/
def itemCharge (s : State) (e : Nat) (i : Item) : Nat :=
  if i.isBreak then 0
  else if !i.committed then s.fld (F.EM_FRAME_CFG_MAX_FRAME (if e < 2 then e else i.src % 2)) + overhead s e
  else i.len + (if i.hasMeta then 64 else 0) + overhead s e

/-- A charge (or, negative, a credit) to the queue shaper, the class shaper and both deficits; a strict class stands in no round and holds
no deficit (R475). -/
def chargeItem (s : State) (e q : Nat) (bytes : Int) : State :=
  let qu := s.queue q
  let s := s.setQueue q { qu with shaper := qu.shaper.charge bytes, deficit := qu.deficit - bytes }
  let c := s.cls e qu.cls
  s.setCls e qu.cls { c with
    shaper := c.shaper.charge bytes, deficit := if bit c.cfg.toNat 31 then c.deficit else c.deficit - bytes }

/-- The item that a consumer has begun before its last word was written ends as `i` (R462): it counts as committed, and the charge is
corrected (R480). -/
def endBegun (s : State) (q : Nat) (i : Item) : State :=
  let qu := s.queue q
  match qu.items with
  | old :: t =>
    let i := { i with committed := true }
    let s := (s.setQueue q { qu with items := i :: t, enq := satAdd 32 qu.enq 1 }).count F.FAB_ENQUEUED_COUNT 1
    match qu.egress with
    | some e => chargeItem s e q ((itemCharge s e i : Int) - itemCharge s e old)
    | none => s
  | [] => s

/-! ### Markers (R466–R469) -/

/-- A loss detected now. -/
def lossNow (s : State) (cause first last : Nat) : Loss :=
  { cause := cause, first := first, last := last, ts := stampNow s, input := none }

/-- A loss merged into one that awaits its marker: the range grows, cause and time stay those of the first (R466). -/
def mergeLoss (old : Option Loss) (l : Loss) : Loss :=
  match old with
  | none => l
  | some o => { o with last := l.last }

/-- A marker put at the tail of a queue and announced (R466, R468). The event gives the number of items, or for CAUSE 6 the input queue of
the restarted engine (R616). -/
def putMarker (s : State) (q : Nat) (l : Loss) : State :=
  let m : Item := { Item.blank with isBreak := true, cause := l.cause, qseq := l.last, ts := l.ts, first := l.first, last := l.last }
  let s := s.putItems q ((s.queue q).items ++ [m]) (s.queue q).producing
  let s := setCause (s.count F.FAB_MARKERS_COUNT 1) 0x20 1
  s.event 0x20 0 0x0D01 2
    (leBytes 2 q ++ leBytes 1 l.cause ++ leBytes 1 0 ++ leBytes 4 (l.input.getD ((l.last + 2 ^ 32 - l.first) % 2 ^ 32 + 1)))

/-- A delivered item leaves the head of its queue (R458). -/
def dropHead (s : State) (q : Nat) : State :=
  match (s.queue q).items with
  | [] => s
  | i :: t => freeItem (s.putItems q t (s.queue q).producing) i

/-- A queue that was stopped and is empty enters OFF (R460). -/
def closeIfEmpty (s : State) (q : Nat) : State :=
  let qu := s.queue q
  if qu.stopping && qu.all.isEmpty && qu.state != 3 then s.setQueue q { qu with state := 0, stopping := false } else s

/-- A loss that waited for the marker slot is marked (R466). -/
def placeWaiting (s : State) (q : Nat) : State :=
  match (s.queue q).waiting with
  | none => s
  | some l =>
    if (s.queue q).items.any (fun i => i.isBreak) then s
    else putMarker (s.setQueue q { s.queue q with waiting := none }) q l

/-- A marker at the head is delivered (R466): with AUTO_RESUME it is removed, else the queue is HELD. -/
def deliverMarker (s : State) (q : Nat) : State :=
  let qu := s.queue q
  match qu.items with
  | i :: t =>
    if !i.isBreak || i.begun then s
    else
      let s := s.count F.FAB_DEQUEUED_COUNT 1
      if qu.autoResume then placeWaiting (closeIfEmpty (dropHead s q) q) q
      else s.setQueue q { qu with items := { i with begun := true } :: t, state := 2 }
  | [] => s

/-- A marker that has reached the head of a queue whose consumer is sent nothing is delivered at once (R466); one of a
host ring or of the window waits for its entry or its pop. -/
def settleHead (s : State) (q : Nat) : State :=
  let qu := s.queue q
  if qu.state = 1 && (qu.dest == 2 || qu.dest == 3 || qu.dest == 4) then
    match qu.items with
    | i :: _ => if i.isBreak && !i.begun then deliverMarker s q else s
    | [] => s
  else s

/-- A loss is marked: merged with an open DROP_BREAK range, whose marker it closes; a marker at the tail, or merged with the loss that
waits for the slot (R466). A queue that is OFF holds no sequence to break. -/
def markLoss (s : State) (q : Nat) (l : Loss) : State :=
  let qu := s.queue q
  if qu.state = 0 then s
  else
    let l := mergeLoss qu.breakPending l
    let s := s.setQueue q { qu with breakPending := none }
    if qu.items.any (fun i => i.isBreak) then
      s.setQueue q { s.queue q with waiting := some (mergeLoss qu.waiting l) }
    else settleHead (putMarker s q l) q

/-- A loss detected now is marked. -/
def placeMarker (s : State) (q cause first last : Nat) : State := markLoss s q (lossNow s cause first last)

/-! ### Fault reset (R464, R465) -/

/-- The QSEQs a fault reset loses: committed items no consumer has begun, and the ranges of lost markers. -/
def faultRange (q : Queue) : Option (Nat × Nat) :=
  let lost := q.items.filter (fun i => !i.begun || i.isBreak)
  let r := lost.foldl (fun r i => mergeLost r (some (if i.isBreak then (i.first, i.last) else (i.qseq, i.qseq)))) none
  match q.waiting with
  | none => r
  | some l => mergeLost r (some (l.first, l.last))

/-- What consumers have begun of a queue in fault reset is sent to its end, as truncated (R462, R465). -/
def faultKept (s : State) (q : Nat) (kept : List Item) : State :=
  match kept with
  | i :: _ =>
    if i.committed then s.setQueue q { s.queue q with items := kept.map (fun (i : Item) => { i with trunc := true }) }
    else endBegun s q { i with trunc := true }
  | [] => s

/-- The marker of a fault reset: for the range lost, with an open DROP_BREAK range merged into it (R465, R466). -/
def faultMark (s : State) (q cause : Nat) (open_ : Option Loss) (range : Option (Nat × Nat)) : State :=
  match range with
  | none => s
  | some r =>
    let r := (mergeLost (open_.map (fun (l : Loss) => (l.first, l.last))) (some r)).getD r
    putMarker (s.setQueue q { s.queue q with breakPending := none }) q (lossNow s cause r.1 r.2)

/-- A queue in use enters FAULT_RESET (R465), in the order of the rule's steps: for a pointer mismatch, CAUSE 2, or for a lost descriptor,
CAUSE 3 (R605). An open DROP_BREAK range is merged into the range marked (R466). -/
def queueFaultBy (s : State) (q cause : Nat) : State :=
  let qu := s.queue q
  if qu.state = 0 then s
  else
    let range := faultRange qu
    let lost := qu.items.filter (fun i => !i.begun || i.isBreak) ++ qu.producing
    let kept := qu.items.filter (fun i => i.begun && !i.isBreak)
    let s := recordErr s 0x20 0x82 0 0
    let s := setCause (s.count F.FAB_QUEUE_FAULTS_COUNT 1) 0x20 0
    let s := lost.foldl freeDesc s
    let s := { s with fab := { s.fab with sweep := s.fab.sweep ++ lost.foldl (fun (l : List Nat) (i : Item) => l ++ i.cells) [] } }
    let s := s.putItems q kept []
    let s := s.setQueue q { s.queue q with
      state := 3, dropping := qu.dropping || !qu.producing.isEmpty, waiting := none, ptrA := (0, 0), ptrB := (0, 0) }
    let s := faultMark (faultKept s q kept) q cause qu.breakPending range
    let fl := range.getD (0xFFFFFFFF, 0xFFFFFFFF)
    s.event 0x20 0 0x0D00 3 (leBytes 2 q ++ leBytes 4 fl.1 ++ leBytes 4 fl.2)

/-- The two copies of a queue's pointers compared after an update (R464): a mismatch resets the queue (R465). -/
def comparePtrs (s : State) (q : Nat) : State :=
  if (s.queue q).ptrA = (s.queue q).ptrB then s else queueFaultBy s q 2

/-- One copy of a queue's pointers written wrong, and found so by the comparison (R464). -/
def queueFault (s : State) (q : Nat) : State :=
  let qu := s.queue q
  comparePtrs (s.setQueue q { qu with ptrB := (qu.ptrA.1, qu.ptrA.2 + 1) }) q

/-- The head item has been delivered to its consumer (R458). -/
def delivered (s : State) (q : Nat) : State :=
  comparePtrs (settleHead (closeIfEmpty ((dropHead s q).count F.FAB_DEQUEUED_COUNT 1) q) q) q

/-- The end of a fault reset: to OPEN, or through the marker to HELD (R465). -/
def faultResetEnd (s : State) (q : Nat) : State :=
  let qu := s.queue q
  if qu.state != 3 then s else closeIfEmpty (settleHead (s.setQueue q { qu with state := 1 }) q) q

/-- QUEUE_FAULT_RESET_END (R465). -/
def execQueueFaultResetEnd (q : Fin 4096) (s : State) : Result := .next (if s.answers then faultResetEnd s q else s)

/-- CELL_SWEEP_DONE (R465): the cells of fault resets are freed. -/
def execCellSweepDone (s : State) : Result :=
  .next (if s.answers then freeCells { s with fab := { s.fab with sweep := [] } } s.fab.sweep else s)

/-! ### Admission and commit (R453, R458, R469, R485) -/

/-- An item is refused (R453); with DROP_BREAK it takes a QSEQ and opens or extends the pending range (R469). `inject`: it comes from
FRAME_INJECT. -/
def refuse (s : State) (q : Nat) (inject : Bool) : State :=
  let qu := s.queue q
  let qu := { qu with drops := satAdd 32 qu.drops 1 }
  let qu := if qu.dropBreak && !inject then
      { qu with breakPending := some (mergeLoss qu.breakPending (lossNow s 1 qu.seqNext qu.seqNext)), seqNext := (qu.seqNext + 1) % 2 ^ 32 }
    else qu
  setCause ((s.setQueue q qu).count F.FAB_DROPS_COUNT 1) 0x20 3

/-- An item is refused whose further words are still to come: they are accepted and dropped (R448, R453). -/
def refuseRest (s : State) (q : Nat) : State :=
  let s := refuse s q false
  s.setQueue q { s.queue q with dropping := true }

/-- The open DROP_BREAK range is marked immediately before the next item that is admitted (R469). -/
def closePending (s : State) (q : Nat) : State :=
  match (s.queue q).breakPending with
  | none => s
  | some l => markLoss (s.setQueue q { s.queue q with breakPending := none }) q l

/-- A frame that arrives protected by MACsec on its port (R520). -/
def arrivesProtected (s : State) (i : Item) : Bool :=
  s.flag (F.EM_MACSEC_CFG_RX_EN (i.src % 16)) && (i.bytes.drop 12).take 2 == [0x88#8, 0xE5#8]

/-- Whether the item being written may be begun by cut-through toward egress `e` (R461, R486, R520): the condition on the line rates is
that of the ports alone. -/
def cutThrough (s : State) (e : Nat) (qu : Queue) (i : Item) : Bool :=
  qu.ctBytes != 0 && s.flag F.FAB_CTRL_CT_EN && !bit qu.sched.toNat 31 && qu.ctBytes ≤ i.bytes.length && i.src / 16 == 1
    && !arrivesProtected s i
    && (2 ≤ e || (!s.flag (F.EM_MACSEC_CFG_TX_PROTECT e) && portMbps s e ≤ portMbps s (i.src % 16)))

/-- The item at the head that egress `e` may take: the first of the queue, or the item being written by cut-through. -/
def headFor (s : State) (e : Nat) (qu : Queue) : Option Item :=
  match qu.items with
  | i :: _ => if i.begun then none else some i
  | [] =>
    match qu.producing with
    | i :: _ => if cutThrough s e qu i then some i else none
    | [] => none

/-- Port `x`, in LPI, has begun to leave it for an item (R515): some item's class is open, or opens within TW_TX_US. -/
def lpiLeaving (s : State) (x : Nat) : Bool :=
  (egressQueues s x).any (fun q =>
    (s.queue q).state == 1 && (headFor s x (s.queue q)).any (fun i => !i.isBreak)
      && (nextOpen s x (s.queue q).cls 2048 s.nowNs).any (fun t => t ≤ s.nowNs + s.fld (F.EM_EEE_CFG_TW_TX_US x) * 1000))

/-- An item of queue `q` may have become due: its port leaves LPI at once, unless its class is still closed (R515). -/
def wakePort (s : State) (q : Nat) : State :=
  match (s.queue q).egress with
  | some e => if e < 2 && s.flag (F.EM_STATUS_LPI_TX e) && lpiLeaving s e then leaveLpi s e else s
  | none => s

/-- The items being written to a queue but `i`. -/
def Queue.others (q : Queue) (i : Item) : List Item := q.producing.filter (fun p => p.buf != i.buf || i.cells.isEmpty)

/-- An item is discarded before it takes a QSEQ (R458). -/
def discardItem (s : State) (q : Nat) (i : Item) : State :=
  freeItem (s.putItems q (s.queue q).items ((s.queue q).others i)) i

/-- An item whose words are all written takes the next QSEQ and stands in its queue (R458). -/
def commitItem (s : State) (q : Nat) (i : Item) : State :=
  let qu := s.queue q
  let s := s.putItems q (qu.items ++ [{ i with qseq := qu.seqNext, committed := true }]) (qu.others i)
  let s := s.setQueue q { s.queue q with seqNext := (qu.seqNext + 1) % 2 ^ 32, enq := satAdd 32 qu.enq 1 }
  (wakePort s q).count F.FAB_ENQUEUED_COUNT 1

/-- Whether a frame offered by an Ethernet port to queue `q` is policed (R484). -/
def policed (s : State) (q : Nat) (i : Item) : Bool :=
  s.flag F.TSS_CTRL_POLICE_EN && bit (s.queue q).sched.toNat 31 && i.src / 16 == 1

/-- A queue below half of its limits, for a yellow frame (R485). -/
def Queue.halfEmpty (q : Queue) (frames bytes : Nat) : Bool :=
  2 * frames < bitsOf q.limit.toNat 16 16 && 2 * bytes < bitsOf q.limit.toNat 0 16 * 1024

/-- The commit of an item with its policing (R458, R485): a policed frame is admitted by its colour, and only then is the open DROP_BREAK
range marked before it. The answer says whether it stands in the queue. -/
def policeCommit (s : State) (q : Nat) (i : Item) : Bool × State :=
  if policed s q i then
    let p := bitsOf (s.queue q).sched.toNat 16 8
    let r := (s.policer p).colour (i.len + overhead s (i.src % 16))
    let s := s.setPolicer p r.2
    match r.1 with
    | .green => (true, commitItem (closePending s q) q i)
    | .yellow =>
      if (s.queue q).halfEmpty (s.queue q).frames.length (s.queue q).bytes then (true, commitItem (closePending s q) q i)
      else (false, refuse (discardItem s q i) q false)
    | .red => (false, (discardItem s q i).count F.TSS_POL_RED_TOTAL_COUNT 1)
  else (true, commitItem s q i)

/-- The open DROP_BREAK range is marked before an item that is admitted at its first word, which a policed one is not yet (R469, R485). -/
def admitMark (s : State) (q : Nat) (i : Item) : State := if policed s q i then s else closePending s q

/-- An item offered whole by a lane, an engine, the host or a port (R453, R458): admitted, given its cells, and committed.
The answer says whether it stands in the queue. -/
def enqueue (s : State) (q : Nat) (i : Item) (engine : Bool) : Bool × State :=
  let inject := i.inject.isSome
  if !(s.queue q).admits then (false, refuse s q inject)
  else
    match takeDesc s with
    | none => (false, refuse s q inject)
    | some (dram, s) =>
      let need := ceilDiv i.bytes.length 256
      let r := takeCells s engine need
      let i := { i with cells := r.1, buf := r.1.headD 0, dramDesc := dram }
      if r.1.length < need then (false, refuse (freeItem r.2 i) q inject)
      else policeCommit (admitMark r.2 q i) q i

/-- An item of an engine may use the reserve of SRAM cells (R447). -/
def Item.ofEngine (i : Item) : Bool := i.src / 16 == 3

/-- ITEM_ADMIT (R453): an item's first word arrives at a queue. -/
def itemAdmit (s : State) (q : Nat) (i : Item) : State :=
  if !(s.queue q).admits then refuseRest s q
  else
    match takeDesc s with
    | none => refuseRest s q
    | some (dram, s) =>
      let need := max 1 (ceilDiv i.bytes.length 256)
      let r := takeCells s i.ofEngine need
      let i := { i with cells := r.1, buf := r.1.headD 0, dramDesc := dram, committed := false }
      if r.1.length < need then refuseRest (freeItem r.2 i) q
      else
        let s := admitMark r.2 q i
        let s := s.putItems q (s.queue q).items ((s.queue q).producing ++ [i])
        wakePort (s.setQueue q { s.queue q with dropping := false }) q

/-- ITEM_ADMIT. -/
def execItemAdmit (q : Fin 4096) (kind inst : Fin 16) (ptp : Bool) (aux : Word) (ts bytes : List Byte) (s : State) : Result :=
  .next (if s.operating then
    itemAdmit s q { Item.blank with ptpOneStep := ptp, aux := aux.toNat, ts := ts, bytes := bytes, src := kind.val * 16 + inst.val }
    else s)

/-- What an Ethernet port counts when an item of its own ends (R504): a good frame, or the check that failed, by the frame's length with its
FCS and with a stripped tag. -/
def countRx (s : State) (i : Item) (good : Bool) : State :=
  let x := i.src % 16
  let len := i.bytes.length + 4 + (if bit i.aux 16 then 4 else 0)
  if i.src / 16 != 1 || 1 < x then s
  else if good then s.count (F.EM_RX_FRAMES_COUNT x) 1
  else if s.fld (F.EM_FRAME_CFG_MAX_FRAME x) < len then s.count (F.EM_RX_OVERSIZE_COUNT x) 1
  else if len < 64 then s.count (F.EM_RX_RUNT_COUNT x) 1
  else s.count (F.EM_RX_FCS_ERR_COUNT x) 1

/-- The last words of the item that a consumer has begun: it ends short where its producer fails or a cell is lacking (R448, R462). -/
def commitBegun (s : State) (q : Nat) (i : Item) (rest : List Byte) (good : Bool) : State :=
  let bytes := i.bytes ++ rest
  let need := ceilDiv bytes.length 256 - i.cells.length
  let r := takeCells s i.ofEngine need
  let cells := i.cells ++ r.1
  let s := countRx r.2 { i with bytes := bytes } good
  endBegun s q { i with bytes := bytes.take (256 * cells.length), cells := cells, trunc := i.trunc || !good || decide (r.1.length < need) }

/-- The last words of an item that no consumer has begun: discarded where its producer fails or a cell is lacking (R448, R458), else
committed. -/
def commitWritten (s : State) (q : Nat) (i : Item) (rest : List Byte) (good : Bool) : State :=
  let i := { i with bytes := i.bytes ++ rest }
  let s := countRx s i good
  if !good || i.trunc then closeIfEmpty (discardItem s q i) q
  else
    let need := ceilDiv i.bytes.length 256 - i.cells.length
    let r := takeCells s i.ofEngine need
    let i := { i with cells := i.cells ++ r.1 }
    if r.1.length < need then closeIfEmpty (refuse (discardItem r.2 q i) q false) q
    else closeIfEmpty (settleHead (policeCommit r.2 q i).2 q) q

/-- The item being received for a queue ends: one begun by cut-through first (R461), or the oldest one written; with neither, the rest of
one refused (R453). -/
def commitEnds (s : State) (q : Nat) (rest : List Byte) (good : Bool) : State :=
  let qu := s.queue q
  match qu.items.head?.filter (fun i => i.begun && !i.committed), qu.producing with
  | some i, _ => commitBegun s q i rest good
  | none, i :: _ => commitWritten s q i rest good
  | none, [] => s.setQueue q { qu with dropping := false }

/-- The item admitted first of those being written ends: whole, or short because its producer fails (R458, R462, R464, R480). -/
def itemCommit (s : State) (q : Nat) (rest : List Byte) (good mismatch : Bool) : State :=
  let s := commitEnds s q rest good
  if mismatch then queueFault s q else comparePtrs s q

/-- ITEM_COMMIT (R458). -/
def execItemCommit (q : Fin 4096) (rest : List Byte) (good mismatch : Bool) (s : State) : Result :=
  .next (if s.operating then itemCommit s q rest good mismatch else s)

/-! ### Choosing the next item (R474–R476) -/

/-- EAPOL and MAC Control, by EtherType: the frames that MACsec leaves alone (R520). -/
def unprotected (i : Item) : Bool :=
  let ty := (i.bytes.drop (if i.hasMeta then 76 else 12)).take 2
  ty == [0x88#8, 0x8E#8] || ty == [0x88#8, 0x08#8]

/-- A port sends an item protected by MACsec (R520). -/
def isProtected (s : State) (e : Nat) (i : Item) : Bool := e < 2 && s.flag (F.EM_MACSEC_CFG_TX_PROTECT e) && !unprotected i

/-- CCM* requests of the lanes wait (R22). -/
def ccmWaiting (s : State) : Bool := s.lanes.any (fun e => e.2.rx.any (fun f => f.check == .waiting))

/-- A frame that needs GCM may leave its queue: no CCM* request and no GCM request waits (R22). -/
def gcmFree (s : State) : Bool := s.sec.gcm.isEmpty && !ccmWaiting s

/-- A frame that needs GCM stays in its queue: GCM_BACKLOG reads 1 where CCM* takes precedence (R22, R583). -/
def gcmHeld (s : State) : State := if ccmWaiting s then s.setFld F.CRY_STATUS_GCM_BACKLOG 1 else s

/-- The port may protect an item, or need not (R520, R522): a protected frame needs an enabled association with a PN left, and while AES
requests wait it stays in its queue (R22). -/
def protectReady (s : State) (e : Nat) (i : Item) : Bool :=
  let a := Tbl.get (fun _ => Assoc.init) (s.port e).txSa (s.fld (F.EM_MACSEC_CFG_TX_AN e))
  !isProtected s e i || (gcmFree s && !s.flag (F.EM_STATUS_MACSEC_HALT e) && a.en && decide (a.pn < 2 ^ 32))

/-- Eligible by everything but the gate (R474). -/
def eligibleUngated (s : State) (e q : Nat) : Bool :=
  let qu := s.queue q
  qu.state == 1 && match headFor s e qu with
    | none => false
    | some i => protectReady s e i && (i.isBreak || (shaperOk s qu.shaper && shaperOk s (s.cls e qu.cls).shaper))

/-- The gate lets the head item of a queue begin on egress `e` (R488). -/
def gateOk (s : State) (e q : Nat) : Bool :=
  if 2 ≤ e then true
  else
    match headFor s e (s.queue q) with
    | none => false
    | some i => i.isBreak || gateAllows s e (s.queue q).cls (itemCharge s e i * 8)

/-- A queue is eligible at a decision of egress `e` (R474). -/
def eligible (s : State) (e q : Nat) : Bool := eligibleUngated s e q && gateOk s e q

/-- The next member of a round after `cur`, wrapping. -/
def roundNext (cur : Option Nat) (qs : List Nat) : Nat :=
  match cur with
  | none => qs.headD 0
  | some c => (qs.find? (fun q => c < q)).getD (qs.headD 0)

/-- QUANTUM of a queue in bytes. -/
def Queue.quantum (q : Queue) : Nat := bitsOf q.sched.toNat 0 16

/-- Deficit round robin among the eligible queues `qs` of class `c` of egress `e` (R475). -/
def dwrrQueue (s : State) (e c : Nat) (qs : List Nat) : Nat → Option (State × Nat)
  | 0 => none
  | fuel + 1 =>
    let cl := s.cls e c
    let enough (q : Nat) : Bool :=
      match headFor s e (s.queue q) with
      | none => false
      | some i => i.isBreak || (itemCharge s e i : Int) ≤ (s.queue q).deficit
    match cl.visiting with
    | some q =>
      if qs.contains q && enough q then some (s, q)
      else
        let n := roundNext (some q) qs
        let s := s.setCls e c { cl with visiting := some n }
        dwrrQueue (s.setQueue n { s.queue n with deficit := (s.queue n).deficit + (s.queue n).quantum }) e c qs fuel
    | none =>
      let n := roundNext none qs
      let s := s.setCls e c { cl with visiting := some n }
      dwrrQueue (s.setQueue n { s.queue n with deficit := (s.queue n).deficit + (s.queue n).quantum }) e c qs fuel

/-- Rounds enough for any head item: a quantum is at least 64 bytes. -/
def roundFuel (qs : List Nat) : Nat := 300 * (qs.length + 1)

/-- The same procedure over the non-strict classes `cs` of egress `e`, then within the class it selects (R475). -/
def dwrrClass (s : State) (e : Nat) (cs : List (Nat × List Nat)) : Nat → Option (State × Nat)
  | 0 => none
  | fuel + 1 =>
    let eg := s.egress e
    let names := cs.map (fun x => x.1)
    let next (cur : Option Nat) (s : State) : State :=
      let n := roundNext cur names
      let cl := s.cls e n
      (s.setEgress e { eg with visiting := some n }).setCls e n
        { cl with deficit := cl.deficit + (bitsOf cl.cfg.toNat 0 8 * 256 : Nat) }
    match eg.visiting with
    | none => dwrrClass (next none s) e cs fuel
    | some c =>
      match cs.find? (fun x => x.1 == c) with
      | none => dwrrClass (next (some c) s) e cs fuel
      | some (_, qs) =>
        match dwrrQueue s e c qs (roundFuel qs) with
        | none => none
        | some (s', q) =>
          match headFor s' e (s'.queue q) with
          | none => none
          | some i =>
            if i.isBreak || (itemCharge s' e i : Int) ≤ (s'.cls e c).deficit then some (s', q)
            else dwrrClass (next (some c) s) e cs fuel

/-- The queue egress `e` picks (R475). -/
def queuePick (s : State) (e : Nat) : Option (State × Nat) :=
  let qs := (egressQueues s e).filter (eligible s e)
  let byClass (c : Nat) : List Nat := qs.filter (fun q => (s.queue q).cls == c)
  let classes := ([7, 6, 5, 4, 3, 2, 1, 0].map (fun c => (c, byClass c))).filter (fun x => !x.2.isEmpty)
  let strict (c : Nat) : Bool := bit (s.cls e c).cfg.toNat 31
  match classes.find? (fun x => strict x.1) with
  | some (c, qs) => dwrrQueue s e c qs (roundFuel qs)
  | none => if classes.isEmpty then none else dwrrClass s e classes.reverse (roundFuel [0, 1, 2, 3, 4, 5, 6, 7])

/-- The items held by the guard band, each counted once for each opening of its class in which it is held (R488). -/
def countGuard (s : State) (e : Nat) : State :=
  let held := (egressQueues s e).filter (fun q => eligibleUngated s e q && !gateOk s e q && bit (gatesNow s e).2 (s.queue q).cls)
  let items := held.filterMap (fun q => (headFor s e (s.queue q)).map (fun i => ((s.queue q).cls, q, i.buf)))
  items.foldl (fun s h =>
    if (s.gate e).held.contains h then s
    else (s.setGate e { s.gate e with held := h :: (s.gate e).held }).count
      (if e = 0 then F.GCL_GUARD_HOLD_A_COUNT else F.GCL_GUARD_HOLD_B_COUNT) 1) s

/-- Entry size of host receive ring `k` (R454). -/
def hrxEntry (s : State) (k : Nat) : Nat := 2 ^ s.fld (F.FAB_HRX_CTRL_ENT_LOG2 k)

/-- Entries of host receive ring `k`. -/
def hrxSize (s : State) (k : Nat) : Nat := 2 ^ s.fld (F.FAB_HRX_SIZE_SIZE_LOG2 k)

/-- Entries an item occupies in host receive ring `k` (R454). -/
def hrxNeeds (s : State) (k : Nat) (i : Item) : Nat :=
  if i.isBreak then 1 else ceilDiv i.bytes.length (hrxEntry s k - 32)

/-- Free entries of host receive ring `k`. -/
def hrxFree (s : State) (k : Nat) : Nat :=
  (s.fld (F.FAB_HRX_HEAD_HEAD k) + hrxSize s k - s.fld (F.FAB_HRX_TAIL_TAIL k) - 1) % hrxSize s k

/-- The consumer of egress `e` can take an item: its line is up and may transmit, or its ring runs (R501, R454). -/
def egressReady (s : State) (e : Nat) : Bool :=
  if e < 2 then
    portMbps s e != 0 && s.flag (F.EM_CTRL_TX_EN e) && !s.flag (F.EM_STATUS_PAUSED e) && !s.flag (F.EM_STATUS_LPI_TX e)
      && !(s.port e).waking
  else s.fld (F.FAB_HRX_STATUS_STATE (e - 2)) == 1 && s.host.busMaster

/-- An item is begun: charged, and, by cut-through, given its QSEQ (R458, R479). -/
def beginItem (s : State) (e q : Nat) : State :=
  let qu := s.queue q
  match qu.items, qu.producing with
  | i :: t, _ =>
    (chargeItem (s.setQueue q { qu with items := { i with begun := !i.isBreak } :: t }) e q (itemCharge s e i)).setEgress e
      { (s.egress e) with serving := some q }
  | [], i :: more =>
    let i := { i with begun := true, qseq := qu.seqNext }
    let s := s.putItems q [i] more
    let s := s.setQueue q { s.queue q with seqNext := (qu.seqNext + 1) % 2 ^ 32 }
    (chargeItem s e q (itemCharge s e i)).setEgress e { (s.egress e) with serving := some q }
  | [], [] => s

/-- Egress `e` works in the device's state: in SECURE_HOLD the host receive rings still take the markers left (R580). -/
def egressWorks (s : State) (e : Nat) : Bool := s.operating || (s.answers && s.devState == 4 && 2 ≤ e)

/-- What egress `e` notes before it chooses: the items the guard band holds (R488), and that a protected frame waits for CCM* (R22). -/
def egressPrep (s : State) (e : Nat) : State :=
  let s := if e < 2 then countGuard s e else s
  if (egressQueues s e).any (fun q => (headFor s e (s.queue q)).any (isProtected s e)) then gcmHeld s else s

/-- EGRESS_SELECT (R475): an egress whose previous item has been begun in full chooses its next queue. A host ring takes
an item once its entries are free (R454). -/
def egressSelect (s : State) (e : Nat) : State :=
  if !egressWorks s e || (s.egress e).serving.isSome || !egressReady s e then s
  else
    let s := egressPrep s e
    match queuePick s e with
    | none => s
    | some (s', q) =>
      match headFor s' e (s'.queue q) with
      | none => s
      | some i =>
        if 2 ≤ e && hrxFree s (e - 2) < hrxNeeds s (e - 2) i then s
        else beginItem (s'.setEgress e { (s'.egress e) with serving := none }) e q

/-- EGRESS_SELECT. -/
def execEgressSelect (egress : Fin 10) (s : State) : Result := .next (egressSelect s egress)

/-! ### Host receive rings (R454–R457) -/

/-- PHASE of the next entry of ring `k`. -/
def hrxPhase (s : State) (k : Nat) : Bool := Tbl.get (fun _ => true) s.fab.hrxPhase k

/-- Completed items of ring `k` counted since its cause was set. -/
def hrxCount (s : State) (k : Nat) : Nat := Tbl.get (fun _ => 0) s.fab.hrxCount k

/-- Storing the count of completed items. -/
def setHrxCount (s : State) (k n : Nat) : State :=
  { s with fab := { s.fab with hrxCount := Tbl.put (fun _ => 0) s.fab.hrxCount k n } }

/-- The entries of an item, each with its header (R455), written in ring order: data before header (R83). -/
def hrxEntries (s : State) (k : Nat) (desc : List Byte) : Nat → List Byte → State
  | 0, _ => s
  | n + 1, bytes =>
    let room := hrxEntry s k - 32
    let frag := bytes.take room
    let more := n != 0
    let tail := s.fld (F.FAB_HRX_TAIL_TAIL k)
    let a := s.wide (A.FAB_HRX_BASE k) + hrxEntry s k * tail
    let b3 := (fieldAt desc 3 1) % 64 + 64 * b01 more + 128 * b01 (hrxPhase s k)
    let header := splice desc 0 (leBytes 3 frag.length ++ leBytes 1 b3)
    let s := if frag.isEmpty then s else s.send (.dmaWrite (a + 32) frag)
    let s := s.send (.dmaWrite a header)
    let wrap := !(tail + 1 < hrxSize s k)
    let s := s.setFld (F.FAB_HRX_TAIL_TAIL k) (nextIdx tail (hrxSize s k))
    let s := if wrap then { s with fab := { s.fab with hrxPhase := Tbl.put (fun _ => true) s.fab.hrxPhase k (!hrxPhase s k) } } else s
    hrxEntries s k desc n (bytes.drop room)

/-- An item counts toward the cause of its ring (R456). -/
def hrxCountItem (s : State) (k : Nat) : State :=
  if s.fld (F.FAB_HRX_COAL_COUNT k) ≤ hrxCount s k + 1 then setCause (setHrxCount s k 0) 0x20 (8 + k)
  else setHrxCount s k (hrxCount s k + 1)

/-- A ring enters FAULT after a failed DMA write (R457). -/
def hrxFault (s : State) (k : Nat) : State :=
  recordErr (s.setFld (F.FAB_HRX_STATUS_STATE k) 3) 0x20 0x81 0 0

/-- The item that egress 2 + k has begun is written into host receive ring k once its last word is there (R454, R457, R462). -/
def hrxItemWrite (s : State) (k : Nat) (ok : Bool) : State :=
  let st := s.fld (F.FAB_HRX_STATUS_STATE k)
  match (s.egress (2 + k)).serving with
  | none => s
  | some q =>
    if !egressWorks s (2 + k) || !(st == 1 || st == 2) || !s.host.busMaster then s
    else
      match (s.queue q).items with
      | [] => s.setEgress (2 + k) { (s.egress (2 + k)) with serving := none }
      | i :: _ =>
        if !i.committed || hrxFree s k < hrxNeeds s k i then s
        else if !ok then hrxFault s k
        else
          let s := hrxEntries s k (descBytes q (s.queue q) i) (hrxNeeds s k i) i.bytes
          let s := s.setEgress (2 + k) { (s.egress (2 + k)) with serving := none }
          let s := hrxCountItem (if i.isBreak then deliverMarker s q else delivered s q) k
          if st == 2 then s.setFld (F.FAB_HRX_STATUS_STATE k) 0 else s

/-- HRX_ITEM_WRITE (R454). -/
def execHrxItemWrite (k : Fin 8) (ok : Bool) (s : State) : Result := .next (hrxItemWrite s k ok)

/-- HRX_CONFIG recorded in FAB (R457). -/
def hrxConfigErr (s : State) (src : Requester) (a : Nat) : State := recordErr s 0x20 0x80 src.code a

/-- The checks of R457 made when a host receive ring is enabled. -/
def hrxConfigOk (s : State) (k : Nat) : Bool :=
  s.host.busMaster && s.wide (A.FAB_HRX_BASE k) % 64 == 0 && !outside (s.fld (F.FAB_HRX_SIZE_SIZE_LOG2 k)) 4 14
    && !outside (s.fld (F.FAB_HRX_CTRL_ENT_LOG2 k)) 7 14 && 16448 ≤ hrxSize s k * (hrxEntry s k - 32)

/-- RESET of a host receive ring: in DISABLED or FAULT, HEAD and TAIL cleared and first-pass phase (R457). -/
def hrxReset (s : State) (k : Nat) : State :=
  let st := s.fld (F.FAB_HRX_STATUS_STATE k)
  if st == 0 || st == 3 then
    let s := (s.setReg (A.FAB_HRX_HEAD k) 0#32).setReg (A.FAB_HRX_TAIL k) 0#32
    let s := { s with fab := { s.fab with hrxPhase := Tbl.put (fun _ => true) s.fab.hrxPhase k true } }
    if st == 3 then (s.setFld (F.FAB_HRX_STATUS_STATE k) 0).setFld (F.FAB_HRX_CTRL_ENABLE k) 0 else s
  else s

/-- ENABLE of a host receive ring written (R457). -/
def hrxEnable (s : State) (src : Requester) (k : Nat) (v : Bool) : State :=
  match s.fld (F.FAB_HRX_STATUS_STATE k), v with
  | 0, true => if hrxConfigOk s k then s.setFld (F.FAB_HRX_STATUS_STATE k) 1 else hrxConfigErr s src (A.FAB_HRX_CTRL k)
  | 1, false => s.setFld (F.FAB_HRX_STATUS_STATE k) (if (s.egress (2 + k)).serving.isSome then 2 else 0)
  | 3, true => hrxConfigErr s src (A.FAB_HRX_CTRL k)
  | _, _ => s

/-- A write of the bits `mask` of `HRXk_CTRL` (R457): ENT_LOG2 only while the ring is DISABLED, then RESET, then ENABLE. -/
def hrxCtrlWrite (s : State) (src : Requester) (k : Nat) (data mask : Word) : State :=
  let merged := (s.reg (A.FAB_HRX_CTRL k) &&& ~~~mask) ||| (data &&& mask)
  let busy := s.fld (F.FAB_HRX_STATUS_STATE k) != 0
  let bad := busy && bitsOf merged.toNat 8 4 != s.fld (F.FAB_HRX_CTRL_ENT_LOG2 k)
  let s := writeFields s src (A.FAB_HRX_CTRL k) data (mask &&& (if busy then 0xFFFFF0FD#32 else 0xFFFFFFFD#32))
  let s := if bad then hrxConfigErr s src (A.FAB_HRX_CTRL k) else s
  let s := if bit data.toNat 1 && bit mask.toNat 1 then hrxReset s k else s
  if bit mask.toNat 0 then hrxEnable s src k (bit data.toNat 0) else s

/-- HRX_ENABLE_WRITE (R457). -/
def execHrxEnableWrite (src : Requester) (k : Fin 8) (data : Word) (s : State) : Result :=
  .next (gateWrite s src (A.FAB_HRX_CTRL k) (fun s => hrxCtrlWrite s src k data allBits))

/-- HRX_RESET (R457). -/
def execHrxReset (src : Requester) (k : Fin 8) (s : State) : Result :=
  .next (gateWrite s src (A.FAB_HRX_CTRL k) (fun s => hrxReset s k))

/-- HRX_HEAD_WRITE (R454). -/
def execHrxHeadWrite (src : Requester) (k : Fin 8) (data : Word) (s : State) : Result :=
  .next (gateWrite s src (A.FAB_HRX_HEAD k) (fun s => writeFields s src (A.FAB_HRX_HEAD k) data allBits))

/-- A write of a host receive ring's base or size: ignored while the ring is not DISABLED, HRX_CONFIG recorded. -/
def hrxConfigWrite (s : State) (src : Requester) (k a : Nat) (data mask : Word) : State :=
  if s.fld (F.FAB_HRX_STATUS_STATE k) != 0 then hrxConfigErr s src a
  else if a = A.FAB_HRX_SIZE k then writeFields s src a data mask
  else wideWrite s src a data (fun s a d => writeFields s src a d allBits)

/-- What PERST_N or a Function Level Reset does to the host receive rings (R81, R457). -/
def hrxHostReset (s : State) (k : Nat) : State :=
  let s := ((s.setFld (F.FAB_HRX_STATUS_STATE k) 0).setFld (F.FAB_HRX_CTRL_ENABLE k) 0).setFld (F.FAB_HRX_CTRL_RESET k) 0
  let s := (s.setReg (A.FAB_HRX_HEAD k) 0#32).setReg (A.FAB_HRX_TAIL k) 0#32
  { s with fab := { s.fab with hrxPhase := Tbl.put (fun _ => true) s.fab.hrxPhase k true } }

/-- COAL_TIMER_EXPIRY (R113, R456): the coalescing time has elapsed since the oldest unsignalled record or item. -/
def coalExpiry (s : State) (h : Nat) : State :=
  if h < 4 then
    if (s.ring h).coalCount = 0 || s.fld (F.CMD_RING_COAL_TIME_US h) = 0 then s
    else setCause (s.setRing h { s.ring h with coalCount := 0 }) 0x05 h
  else if h = 4 then s
  else
    if hrxCount s (h - 5) = 0 || s.fld (F.FAB_HRX_COAL_TIME_US (h - 5)) = 0 then s
    else setCause (setHrxCount s (h - 5) 0) 0x20 (8 + (h - 5))

/-- COAL_TIMER_EXPIRY. -/
def execCoalTimerExpiry (host : Fin 13) (s : State) : Result := .next (if s.answers then coalExpiry s host else s)

/-! ### Flush and acknowledgement (R463, R147) -/

/-- FLUSHED set in the completion of the FRAME_INJECT an item came from, if its record is not yet written (R146). -/
def markFlushed (s : State) (i : Item) : State :=
  match i.inject with
  | none => s
  | some id =>
    match findCmd s id with
    | none => s
    | some c => putCmd s id { c with parts := c.parts.map (fun p => { p with result := splice (slice p.result 0 16) 4 [1#8] }) }

/-- The flush point of a queue (R463): the items discarded. -/
def flushQueue (s : State) (q : Nat) : Nat × State :=
  let qu := s.queue q
  let gone := qu.items.filter (fun i => !i.isBreak && !i.begun)
  let kept := qu.items.filter (fun i => i.isBreak || i.begun)
  let n := gone.length + qu.producing.length
  let s := s.putItems q kept []
  let s := s.setQueue q { s.queue q with dropping := qu.dropping || !qu.producing.isEmpty, flushed := satAdd 32 qu.flushed n }
  let s := (gone ++ qu.producing).foldl freeItem s
  let s := gone.foldl markFlushed s
  let s := s.count F.FAB_FLUSHED_COUNT n
  let first := match gone with
    | [] => 0xFFFFFFFF
    | i :: _ => i.qseq
  let s := if n = 0 then s
    else s.event 0x20 0 0x0D02 1 (leBytes 2 q ++ leBytes 4 first ++ leBytes 4 ((gone.getLast?.map (fun i => i.qseq)).getD 0xFFFFFFFF))
  (n, comparePtrs (closeIfEmpty (settleHead s q) q) q)

/-- The queue held at its oldest marker is released (R147, R460): the marker's range, if one was held. -/
def ackBreak (s : State) (q : Nat) : Option (Nat × Nat) × State :=
  let qu := s.queue q
  match qu.state, qu.items with
  | 2, m :: _ =>
    let s := dropHead (s.setQueue q { qu with state := 1 }) q
    (some (m.first, m.last), closeIfEmpty (settleHead (placeWaiting s q) q) q)
  | _, _ => (none, s)

/-! ### The queue window (R459, R460, R471) -/

/-- The queue named in `QW_SEL`. -/
def qwQueue (s : State) : Nat := s.fld F.QW_SEL_QUEUE

/-- An underrun read of the selected queue (R459). -/
def underrun (s : State) : State :=
  let q := qwQueue s
  let s := s.setQueue q { s.queue q with underrun := true, underruns := satAdd 32 (s.queue q).underruns 1 }
  setCause (s.count F.FAB_UNDERRUNS_COUNT 1) 0x20 2

/-- A write of the bits `mask` of `QW_SEL`: unread words of the popped item are discarded (R459). -/
def qwSelWrite (s : State) (src : Requester) (data mask : Word) : State :=
  let s := writeFields s src A.QW_SEL data mask
  { s with fab := { s.fab with popBytes := [] } }

/-- QW_SEL_WRITE (R459). -/
def execQwSelWrite (src : Requester) (data : Word) (s : State) : Result :=
  .next (gateWrite s src A.QW_SEL (fun s => qwSelWrite s src data allBits))

/-- DEST, HRX and the limits may be written: ENABLE is 0 and the queue is empty (R460). -/
def Queue.idle (q : Queue) : Bool := !bit q.cfg.toNat 31 && q.all.isEmpty

/-- QCFG_BUSY recorded in the window page (R460). -/
def qcfgBusy (s : State) (src : Requester) (a : Nat) : State := recordErr s 0x21 0x80 src.code a

/-- ENABLE of queue `q` written (R460). -/
def queueEnable (s : State) (q : Nat) (v : Bool) : State :=
  let qu := s.queue q
  if v then
    if qu.state = 0 then s.setQueue q { qu with state := 1, seqNext := 0, stopping := false }
    else s.setQueue q { qu with stopping := false }
  else if qu.state = 0 then s
  else closeIfEmpty (s.setQueue q { qu with stopping := true }) q

/-- A write of the bits `mask` of `QW_QCFG` (R460). -/
def qwQcfgWrite (s : State) (src : Requester) (data mask : Word) : State :=
  let q := qwQueue s
  let qu := s.queue q
  let s := s.setReg A.QW_QCFG qu.cfg
  let merged := (qu.cfg &&& ~~~mask) ||| (data &&& mask)
  let fixed : Word := 0x0F700000#32
  let bad := !qu.idle && (merged &&& fixed) != (qu.cfg &&& fixed)
  let s := writeFields s src A.QW_QCFG data (if qu.idle then mask else mask &&& ~~~fixed)
  let cfg := s.reg A.QW_QCFG
  let s := s.setReg A.QW_QCFG 0#32
  let s := if bad then qcfgBusy s src A.QW_QCFG else s
  let s := s.setQueue q { s.queue q with cfg := cfg }
  if bit mask.toNat 31 then queueEnable s q (bit cfg.toNat 31) else s

/-- QW_QCFG_WRITE (R460). -/
def execQwQcfgWrite (src : Requester) (data : Word) (s : State) : Result :=
  .next (gateWrite s src A.QW_QCFG (fun s => qwQcfgWrite s src data allBits))

/-- A write of the bits `mask` of `QW_QLIMIT` (R460). -/
def qwQlimitWrite (s : State) (src : Requester) (data mask : Word) : State :=
  let q := qwQueue s
  let qu := s.queue q
  if !qu.idle then qcfgBusy s src A.QW_QLIMIT
  else
    let s := writeFields (s.setReg A.QW_QLIMIT qu.limit) src A.QW_QLIMIT data mask
    let limit := s.reg A.QW_QLIMIT
    (s.setReg A.QW_QLIMIT (resetWord A.QW_QLIMIT)).setQueue q { qu with limit := limit }

/-- What a pop of the selected queue finds (R459): an item, an empty queue, a held queue or another destination. -/
def popHead (s : State) : Option Item :=
  let qu := s.queue (qwQueue s)
  if qu.dest = 1 && qu.state = 1 then qu.items.head? else none

/-- The nine words of `QW_POP` for a descriptor. -/
def popWords (valid : Bool) (desc : List Byte) : List Word :=
  BitVec.ofNat 32 (2 ^ 31 * b01 valid) :: (leWords desc 8).map (BitVec.ofNat 32)

/-- The words a pop of the selected queue would return now. -/
def qwPopWords (s : State) : List Word :=
  match popHead s with
  | some i => popWords true (descBytes (qwQueue s) (s.queue (qwQueue s)) i)
  | none => popWords false s.fab.popDesc

/-- A read of word 0 of `QW_POP` (R459, R466). -/
def qwPop (s : State) (src : Requester) : State :=
  let q := qwQueue s
  let qu := s.queue q
  let head := popHead s
  let s := readWide s src A.QW_POP (qwPopWords s)
  if src = .jtag then s
  else if qu.dest != 1 then recordErr s 0x21 0x81 src.code A.QW_POP
  else
    match head with
    | none => if qu.state = 2 then s else underrun s
    | some i =>
      let s := { s with fab := { s.fab with popDesc := descBytes q qu i, popBytes := if i.isBreak then [] else i.bytes } }
      if i.isBreak then deliverMarker s q else delivered s q

/-- QW_POP_READ (R459). -/
def execQwPopRead (src : Requester) (s : State) : Result := .next (gateRead s src A.QW_POP (fun s => qwPop s src))

/-- The next word of the popped item, or the last one read (R459). -/
def qwDataWord (s : State) : Word :=
  if s.fab.popBytes.isEmpty then s.fab.popLast else BitVec.ofNat 32 (fieldAt s.fab.popBytes 0 4)

/-- A read of `QW_DATA` (R459). -/
def qwData (s : State) (src : Requester) : State :=
  let w := qwDataWord s
  let s := s.send (.readData src A.QW_DATA w)
  if src = .jtag then s
  else if s.fab.popBytes.isEmpty then underrun s
  else { s with fab := { s.fab with popBytes := s.fab.popBytes.drop 4, popLast := w } }

/-- QW_DATA_READ (R459). -/
def execQwDataRead (src : Requester) (s : State) : Result := .next (gateRead s src A.QW_DATA (fun s => qwData s src))

end Sys2Proof.Machine
end

