-- ==== Sys2Proof/Machine/Datum.lean ====
section
/-!
DEFINITION. Sys2Proof/Machine/Datum.lean: the Datum counter, its slews and steps, the servo with its PTP and PPS sources, and
the pulses (16_datum_network_time.md).
-/
namespace Sys2Proof.Machine

/-- Storing the servo's hidden state. -/
def State.setDtm (s : State) (d : Datum) : State := { s with dtm := d }

/-! ### The counter (R527–R530) -/

/-- SOURCE (R541): 0 NONE, 1 PTP_A, 2 PTP_B, 3 PPS, 4 HOST, 5 PTP_AB. -/
def source (s : State) : Nat := s.fld F.DTM_SRC_CFG_SOURCE

/-- A source that the servo follows. -/
def servoSource (s : State) : Bool := source s == 1 || source s == 2 || source s == 3 || source s == 5

/-- `INC` as a 32.32 number of ns. -/
def inc (s : State) : Nat := s.wide A.DTM_INC

/-- The least and the greatest INC (R528). -/
def incMin : Nat := ceilDiv (3996 * 2 ^ 32) 1000
def incMax : Nat := 4004 * 2 ^ 32 / 1000

/-- The remainder of a slew shown in `ADJ_PHASE`. -/
def showSlew (s : State) : State := s.setReg A.DTM_ADJ_PHASE (BitVec.ofNat 32 (unsigned 32 (Int.tdiv s.dtm.slew (2 ^ 32))))

/-- The remainder of the slew reaches 0 (R535). -/
def slewEnd (s : State) : State :=
  setCause (showSlew ((s.setDtm { s.dtm with slew := 0 }).setFld F.DTM_STATUS_SLEWING 0)) 0x26 6

/-- What a slew adds in one cycle (R535). -/
def slewPart (s : State) : Int :=
  let m : Int := (inc s * s.fld F.DTM_SERVO_CFG_SLEW_PPM / 1000000 : Nat)
  if s.dtm.slew.natAbs ≤ m.toNat then s.dtm.slew else if s.dtm.slew < 0 then -m else m

/-- The course of the counter, as it goes on at `rate` from the present cycle: a new stretch where the rate or the counter has changed. The
stretches that ended more than a second ago are forgotten. -/
def trackOn (s : State) (rate : Nat) : List Stretch :=
  let next : Stretch := { cycle := s.dev.upCycles, units := s.now.units, rate := rate }
  match s.dtm.track with
  | [] => [next]
  | e :: es =>
    if onTrack s e && e.rate == rate then e :: es
    else
      let cut := s.dev.upCycles - 250000000
      next :: (e :: es).takeWhile (fun x => cut < x.cycle) ++ ((e :: es).dropWhile (fun x => cut < x.cycle)).take 1

/-- One CLK_DATUM cycle (R528, R535). -/
def datumTick (s : State) : State :=
  if !s.boot.pllLocked || s.pow.stopped then s
  else
    let part := if s.flag F.DTM_STATUS_SLEWING then slewPart s else 0
    let s := s.setDtm { s.dtm with track := trackOn s ((inc s : Int) + part).toNat }
    let s' := { s with now := Time.ofUnits ((s.now.units : Int) + inc s + part).toNat, dev := { s.dev with upCycles := s.dev.upCycles + 1 } }
    if part = 0 then s'
    else
      let s' := showSlew (s'.setDtm { s.dtm with slew := s.dtm.slew - part })
      if s'.dtm.slew = 0 then slewEnd s' else s'

/-- The four words of `DTM.TIME` (R529). -/
def timeWords (s : State) : List Word :=
  [BitVec.ofNat 32 s.now.frac, BitVec.ofNat 32 (s.now.ns % 2 ^ 30 + s.fld F.DTM_STATUS_STEP_GEN * 2 ^ 30),
   BitVec.ofNat 32 s.now.sec, BitVec.ofNat 32 (s.now.sec / 2 ^ 32)]

/-- DTM_TIME_SNAPSHOT (R529). -/
def execDtmTimeSnapshot (src : Requester) (s : State) : Result :=
  .next (gateRead s src A.DTM_TIME (fun s => readWide s src A.DTM_TIME (timeWords s)))

/-! ### TIME_OK and the servo's states (R543, R544) -/

/-- `TIME_OK` (R544). -/
def timeOk (s : State) : Bool :=
  if source s = 4 then s.flag F.DTM_CTRL_HOST_LOCK
  else
    match s.fld F.DTM_STATUS_SERVO with
    | 2 => true
    | 3 => s.dtm.goodHold
    | 4 => s.dtm.goodHold
    | 1 => s.dtm.byMaster && s.dtm.goodHold
    | _ => false

/-- `STATUS.TIME_OK`, and the TIME_OK flag of `MAC.STATUS`, brought up to date. -/
def refreshTimeOk (s : State) : State :=
  let ok := b01 (timeOk s)
  (s.setFld F.DTM_STATUS_TIME_OK ok).setFld F.MAC_STATUS_TIME_OK ok

/-- A SERVO_STATE event (R551). -/
def servoEvent (s : State) (old : Nat) (lost : Bool) : State :=
  s.event 0x26 0 0x1002 (if lost then 2 else 1)
    (leBytes 1 old ++ leBytes 1 (s.fld F.DTM_STATUS_SERVO) ++ leBytes 1 (s.fld F.DTM_STATUS_SOURCE)
      ++ leBytes 4 (s.reg A.DTM_LAST_OFFSET).toNat)

/-- INC held at its mean over the last 64 measurements (R543). -/
def holdInc (s : State) : State :=
  if s.dtm.incs.isEmpty then s
  else s.setWide A.DTM_INC ((s.dtm.incs.foldl (fun a b => a + b) 0) / s.dtm.incs.length)

/-- The servo enters a state (R543). `byMaster`: an ACQUIRING entered by a master change. -/
def setServo (s : State) (st : Nat) (byMaster : Bool) : State :=
  let old := s.fld F.DTM_STATUS_SERVO
  if old = st then s
  else
    let was := s.flag F.DTM_STATUS_TIME_OK
    let s := if st = 3 || st = 4 then holdInc s else s
    let s := s.setDtm { s.dtm with within := 0, outside := 0, byMaster := byMaster }
    let s := refreshTimeOk (s.setFld F.DTM_STATUS_SERVO st)
    setCause (servoEvent s old (was && !s.flag F.DTM_STATUS_TIME_OK)) 0x26 2

/-! ### Steps and refusals (R536–R540) -/

/-- What moves with Datum at a step: the gate cycles (R492, R540). -/
def afterStep (s : State) (ns : Int) : State :=
  gatesAfterStep { s with mac := { s.mac with stepped := s.mac.stepped + ns.natAbs } }

/-- A step of `ns` (R536). `kind` of R551: 2 servo, 3 and 4 command. None where SEC would leave its range. -/
def stepDatum (s : State) (ns : Int) (kind : Nat) : Option State :=
  let total := (s.nowNs : Int) + ns
  if total < 0 || (2 ^ 48 * 1000000000 : Nat) ≤ total then none
  else
    let kind := if s.flag F.DTM_STATUS_TIME_SET then kind else 1
    let t := total.toNat
    let s := { s with now := { sec := t / 1000000000, ns := t % 1000000000, frac := s.now.frac } }
    let s := showSlew ((s.setDtm { s.dtm with slew := 0 }).setFld F.DTM_STATUS_SLEWING 0)
    let old := s.fld F.DTM_STATUS_STEP_GEN
    let gen := (old + 1) % 4
    let s := s.setDtm { s.dtm with steps := s.dtm.steps.filter (fun x => s.dev.upCycles < x.1 + 250000000) ++ [(s.dev.upCycles, ns, old)] }
    let s := (s.setFld F.DTM_STATUS_STEP_GEN gen).setFld F.DTM_STATUS_TIME_SET 1
    let s := s.count F.DTM_STEPS_COUNT 1
    let s := setCause s 0x26 1
    let s := s.event 0x26 0 0x1000 (if kind = 4 then 2 else 1) (leBytes 1 kind ++ leBytes 1 gen ++ leBytes 8 (unsigned 64 ns))
    let s := afterStep s ns
    some (if servoSource s then
        let s := setServo s 1 false
        refreshTimeOk (s.setDtm { s.dtm with within := 0, byMaster := false })
      else s)

/-- A refusal announced (R537): origin 1 measurement, 2 command, 3 `ADJ_PHASE`. -/
def jumpRefused (s : State) (origin : Nat) (change : Int) : State :=
  setCause (s.event 0x26 0 0x1001 2
    (leBytes 1 (s.fld F.DTM_STATUS_SOURCE) ++ leBytes 1 origin ++ leBytes 8 (unsigned 64 change))) 0x26 0

/-- A slew of `v` ns starts and replaces any other (R535). -/
def startSlew (s : State) (v : Int) : State :=
  let s := s.setDtm { s.dtm with slew := v * 2 ^ 32 }
  if v = 0 then slewEnd s else showSlew (s.setFld F.DTM_STATUS_SLEWING 1)

/-- DATUM_STEP (R151, R536–R538). The jump threshold has been checked when the descriptor was taken (R124). -/
def datumStep (s : State) (id : CmdId) : State :=
  match starting s id 0x0501 with
  | none => s
  | some c =>
    let off := signed 64 (fieldAt c.desc 16 8)
    let force := bit (fieldAt c.desc 24 1) 0
    match stepDatum (commitCmd s id) off (if force then 4 else 3) with
    | none => finish s id 0x11 (leBytes 2 16)
    | some s =>
      let s := if force then s.count F.DTM_FORCED_STEPS_COUNT 1 else s
      finish s id 0x00 (leBytes 4 s.now.sec ++ leBytes 4 s.now.ns)

/-- DATUM_STEP. -/
def execDatumStep (id : CmdId) (s : State) : Result := .next (if s.operating then datumStep s id else s)

/-- SLEW_DONE (R535): what is left of the slew has been added. -/
def execSlewDone (s : State) : Result :=
  .next (if s.boot.pllLocked && s.flag F.DTM_STATUS_SLEWING then
    slewEnd { s with now := Time.ofUnits ((s.now.units : Int) + s.dtm.slew).toNat } else s)

/-! ### Software hooks (R534, R541, R543) -/

/-- SERVO_OWNED recorded (R534). -/
def servoOwned (s : State) (src : Requester) (a : Nat) : State := recordErr s 0x26 0x80 src.code a

/-- The servo owns INC and ADJ_PHASE (R534). -/
def owned (s : State) : Bool := source s != 0 && source s != 4

/-- A write of a word of `INC` (R528, R534, R62). -/
def incWrite (s : State) (src : Requester) (a : Nat) (data : Word) : State :=
  if owned s then servoOwned s src a
  else
    let old := inc s
    let s := wideWrite s src a data (fun s a d => writeFields s src a d allBits)
    if inc s < incMin || incMax < inc s then recordErr (s.setWide A.DTM_INC old) 0x26 0x05 src.code a else s

/-- INC_WRITE (R534). -/
def execIncWrite (src : Requester) (high : Bool) (data : Word) (s : State) : Result :=
  .next (gateWrite s src (if high then A.DTM_INC_HI else A.DTM_INC) (fun s =>
    incWrite s src (if high then A.DTM_INC_HI else A.DTM_INC) data))

/-- A write of `ADJ_PHASE` (R534, R535, R537). -/
def adjPhaseWrite (s : State) (src : Requester) (data : Word) : State :=
  if owned s then servoOwned s src A.DTM_ADJ_PHASE
  else
    let v := data.toInt
    if s.fld F.DTM_JUMP_THRESH_NS < v.natAbs then (jumpRefused s 3 v).count F.DTM_REFUSED_JUMPS_COUNT 1
    else
      let s := startSlew s v
      if source s = 4 then s.setReg A.DTM_LAST_OFFSET (BitVec.ofNat 32 (unsigned 32 (clampSigned 32 (-v)))) else s

/-- ADJ_PHASE_WRITE (R535). -/
def execAdjPhaseWrite (src : Requester) (data : Word) (s : State) : Result :=
  .next (gateWrite s src A.DTM_ADJ_PHASE (fun s => adjPhaseWrite s src data))

/-- The source in use for a SOURCE (R541); for PTP_AB the port of the chosen master, PTP_A before one is chosen. -/
def sourceInUse (s : State) : Nat :=
  if source s = 5 then (match s.dtm.chosen with
    | some m => m.port + 1
    | none => 1)
  else source s

/-- A write of the bits `mask` of `SRC_CFG` (R541, R543). -/
def srcCfgWrite (s : State) (src : Requester) (data mask : Word) : State :=
  let old := source s
  let s := writeFields s src A.DTM_SRC_CFG data mask
  if source s = old then s
  else
    let was := s.flag F.DTM_STATUS_TIME_OK
    let servo := s.fld F.DTM_STATUS_SERVO
    let s := s.setDtm { s.dtm with
      within := 0, outside := 0, byMaster := false, incs := [], pathDelay := none, masters := [], chosen := none }
    let s := (s.setFld F.DTM_STATUS_SOURCE (sourceInUse s)).setFld F.DTM_MASTER_PORT_VALID 0
    let st := match source s with
      | 0 => 0
      | 4 => if s.flag F.DTM_CTRL_HOST_LOCK then 2 else 1
      | _ => 1
    let s := refreshTimeOk (s.setFld F.DTM_STATUS_SERVO st)
    let s := servoEvent s servo (was && !s.flag F.DTM_STATUS_TIME_OK)
    if servo = st then s else setCause s 0x26 2

/-- SRC_CFG_WRITE (R541). -/
def execSrcCfgWrite (src : Requester) (data : Word) (s : State) : Result :=
  .next (gateWrite s src A.DTM_SRC_CFG (fun s => srcCfgWrite s src data allBits))

/-- A write of the bits `mask` of `DTM.CTRL` (R543): under SOURCE HOST the state follows HOST_LOCK. -/
def hostLockWrite (s : State) (src : Requester) (data mask : Word) : State :=
  let s := writeFields s src A.DTM_CTRL data mask
  if source s = 4 then setServo s (if s.flag F.DTM_CTRL_HOST_LOCK then 2 else 1) false else s

/-- HOST_LOCK_WRITE (R543). -/
def execHostLockWrite (src : Requester) (data : Word) (s : State) : Result :=
  .next (gateWrite s src A.DTM_CTRL (fun s => hostLockWrite s src data allBits))

/-! ### Measurements (R539, R542, R543) -/

/-- A measurement refused (R537): the servo enters REFUSED, counted once on entry. -/
def refuseMeasure (s : State) (o : Int) : State :=
  let s := if s.fld F.DTM_STATUS_SERVO = 4 then s else s.count F.DTM_REFUSED_JUMPS_COUNT 1
  setServo (jumpRefused s 1 (-o)) 4 false

/-- INC adjusted from the offsets, within R528; how is open (R542). -/
def adjustInc (s : State) : State :=
  let d := drawNat s (incMax - incMin + 1)
  let v := incMin + d.1
  (d.2.setWide A.DTM_INC v).setDtm { d.2.dtm with incs := (v :: d.2.dtm.incs).take 64 }

/-- The state after an accepted measurement of offset `o` (R543, R544). -/
def countMeasure (s : State) (o : Int) : State :=
  let lock := s.fld F.DTM_SERVO_CFG_LOCK_NS * 10
  let s := match s.fld F.DTM_STATUS_SERVO with
    | 1 => s
    | 2 => s.setDtm { s.dtm with goodHold := true }
    | _ => setServo s 1 false
  if s.fld F.DTM_STATUS_SERVO = 2 then
    let n := if 4 * lock < o.natAbs then s.dtm.outside + 1 else 0
    if 4 ≤ n then setServo s 1 false else s.setDtm { s.dtm with outside := n }
  else
    let n := if o.natAbs ≤ lock then s.dtm.within + 1 else 0
    if 16 ≤ n then setServo s 2 false else s.setDtm { s.dtm with within := n }

/-- The chip is a bow, whose Datum follows the mirror link and not its servo (R637). -/
def datumFollows (s : State) : Bool := s.ready && 2 ≤ s.fld F.RED_STATUS_ROLE

/-- The servo acts on an offset `o` in ns, measured with stamps of generation `gen` (R539, R542). -/
def measure (s : State) (o : Int) (gen : Nat) : State :=
  if gen != s.fld F.DTM_STATUS_STEP_GEN || datumFollows s then s
  else
    let s := s.setReg A.DTM_LAST_OFFSET (BitVec.ofNat 32 (unsigned 32 (clampSigned 32 o)))
    if s.fld F.DTM_JUMP_THRESH_NS < o.natAbs && s.flag F.DTM_STATUS_TIME_SET then refuseMeasure s o
    else if o.natAbs ≤ s.fld F.DTM_SERVO_CFG_SLEW_LIMIT_US * 1000 then countMeasure (adjustInc (startSlew s (-o))) o
    else
      match stepDatum s (-o) 2 with
      | none => refuseMeasure s o
      | some s => s

/-! ### PTP (R545–R547) -/

/-- The servo runs PTP on port `x`: by SOURCE, and with the port's PTP queue at an engine (R545). -/
def ptpOn (s : State) (x : Nat) : Bool :=
  (source s == 5 || source s == x + 1) && (s.queue (s.fld (F.EM_PTP_Q_QUEUE x))).dest == 4

/-- The item at the head of a port's PTP queue, and the PTP message it carries: none of it where its transport is not that of `PTP_CFG`
(R507, R545). -/
def ptpHead (s : State) (x : Nat) : Option (Item × List Byte) :=
  match (s.queue (s.fld (F.EM_PTP_Q_QUEUE x))).items with
  | i :: _ =>
    if i.isBreak || !i.committed then none
    else some (i, match ptpAt s x i.bytes with
      | some (h, tr) => if tr = b01 (s.flag F.DTM_PTP_CFG_TRANSPORT) then i.bytes.drop h else []
      | none => [])
  | [] => none

/-- messageType, domainNumber and sequenceId of a message (IEEE 1588-2019 header). -/
def ptpType (m : List Byte) : Nat := fieldAt m 0 1 % 16
def ptpDomain (m : List Byte) : Nat := fieldAt m 4 1

/-- A message that PE15 uses (R545): of its domain, and Sync, Pdelay_Req, Pdelay_Resp, Delay_Resp or Announce. A Follow_Up completes the
message it follows; management and signalling messages are not supported. -/
def ptpUsed (s : State) (m : List Byte) : Bool :=
  m.length != 0 && ptpDomain m == s.fld F.DTM_PTP_CFG_DOMAIN && [0, 2, 3, 9, 11].contains (ptpType m)

/-- The messages at the head of a port's PTP queue that PE15 does not use are taken and discarded (R545). -/
def ptpDiscard (s : State) (x : Nat) : State :=
  let q := s.fld (F.EM_PTP_Q_QUEUE x)
  (s.queue q).items.foldl (fun (t : State) _ =>
    match ptpHead t x with
    | some (_, m) => if ptpUsed t m then t else delivered t q
    | none => t) s

/-- PE15 takes the message of a type that heads a port's PTP queue. -/
def takePtp (s : State) (x type : Nat) : Option (Item × List Byte) × State :=
  let s := ptpDiscard s x
  match ptpHead s x with
  | some (i, m) =>
    if ptpUsed s m && ptpType m == type then (some (i, m), ptpDiscard (delivered s (s.fld (F.EM_PTP_Q_QUEUE x))) x) else (none, s)
  | none => (none, s)

/-- STEP_GEN of the stamp of an item (R530). -/
def stampGen (i : Item) : Nat := fieldAt i.ts 6 4 / 2 ^ 30

/-- Stamps of these generations make a measurement (R539). -/
def gensAgree (s : State) (gens : List Nat) : Bool := gens.all (· == s.fld F.DTM_STATUS_STEP_GEN)

/-- PTP_SYNC_RX (R542, R545): `t1` origin time and `t2` ingress stamp in ns, corrections applied. -/
def ptpSync (s : State) (x domain clockId t1 t2 gen : Nat) : State :=
  if !ptpOn s x then s
  else match takePtp s x 0 with
    | (none, s) => s
    | (some (i, _), s) =>
      match s.dtm.chosen, s.dtm.pathDelay with
      | some m, some d =>
        if m.port = x && m.clockId = clockId && domain = s.fld F.DTM_PTP_CFG_DOMAIN && gensAgree s [gen, stampGen i] && !datumFollows s then
          measure (s.count F.DTM_SYNC_RX_COUNT 1) ((t2 : Int) - t1 - d) gen
        else s
      | _, _ => s

/-- PTP_SYNC_RX. -/
def execPtpSyncRx (port : EthPort) (domain : Fin 256) (clockId : Fin (2 ^ 64)) (t1 t2 : Nat) (gen : Fin 4) (s : State) : Result :=
  .next (if s.operating then ptpSync s port domain clockId t1 t2 gen else s)

/-- Data sets compared (R546): the lesser in the order of comparison wins. -/
def lessData : List Nat → List Nat → Bool
  | [], [] => false
  | [], _ => true
  | _, [] => false
  | a :: s, b :: t => a < b || (a == b && lessData s t)

/-- The best of the masters heard. -/
def bestMaster : List Master → Option Master
  | [] => none
  | m :: t =>
    match bestMaster t with
    | none => some m
    | some b => if lessData b.dataset m.dataset then some b else some m

/-- The same master. -/
def Master.same (a b : Master) : Bool := a.port == b.port && a.clockId == b.clockId && a.portNumber == b.portNumber

/-- Another master is chosen (R546). -/
def masterChange (s : State) (m : Master) : State :=
  let s := s.setDtm { s.dtm with chosen := some m, pathDelay := none }
  let s := s.setWide A.DTM_MASTER_ID m.clockId
  let s := s.setReg A.DTM_MASTER_PORT (BitVec.ofNat 32 (2 ^ 16 + m.portNumber % 2 ^ 16))
  let s := s.setFld F.DTM_STATUS_SOURCE (sourceInUse s)
  let s := s.count F.DTM_MASTER_CHANGES_COUNT 1
  let s := setCause (s.event 0x26 0 0x1003 1 (leBytes 1 m.port ++ leBytes 1 0 ++ leBytes 8 m.clockId)) 0x26 3
  setServo s 1 true

/-- The choice among the masters heard (R546). -/
def chooseMaster (s : State) : State :=
  match bestMaster s.dtm.masters, s.dtm.chosen with
  | none, _ => s
  | some b, some c => if b.same c then s.setDtm { s.dtm with chosen := some b } else masterChange s b
  | some b, none => masterChange s b

/-- CLK_DATUM cycles of ANN_TIMEOUT intervals of 2^k s. -/
def annCycles (s : State) (k : Int) : Nat :=
  let n := 250000000 * s.fld F.DTM_PTP_CFG_ANN_TIMEOUT
  if 0 ≤ k then n * 2 ^ k.toNat else n / 2 ^ (-k).toNat

/-- A master other than the chosen one qualifies while its Announce messages arrive (R547). -/
def qualifies (s : State) (m : Master) : Bool :=
  s.dtm.chosen.any (fun c => c.same m) || s.dev.upCycles ≤ m.heard + annCycles s m.interval

/-- The masters that have fallen silent are forgotten; the chosen one is by its loss. -/
def ageMasters (s : State) : State := s.setDtm { s.dtm with masters := s.dtm.masters.filter (qualifies s) }

/-- An Announce `i`, the message of which is `msg` (R546). -/
def announceHeard (s : State) (m : Master) : State :=
  let s := ageMasters s
  chooseMaster (s.setDtm { s.dtm with masters := s.dtm.masters.filter (fun x => !x.same m) ++ [m] })

/-- PTP_ANNOUNCE_RX (R546). -/
def execPtpAnnounceRx (port : EthPort) (domain : Fin 256) (clockId : Fin (2 ^ 64)) (portNumber : Fin 65536) (dataset : List Nat)
    (s : State) : Result :=
  .next (if !s.operating || !ptpOn s port then s
    else match takePtp s port 11 with
      | (none, s) => s
      | (some (_, msg), s) =>
        if domain.val != s.fld F.DTM_PTP_CFG_DOMAIN then s
        else announceHeard s { port := port, clockId := clockId, portNumber := portNumber, dataset := dataset, heard := s.dev.upCycles,
                               interval := signed 8 (fieldAt msg 33 1) })

/-- The source is lost (R547, R550): LOCKED goes to HOLDOVER, any other state is kept. -/
def sourceLost (s : State) : State := if s.fld F.DTM_STATUS_SERVO = 2 then setServo s 3 false else s

/-- PTP_MASTER_LOSS (R547). -/
def ptpMasterLoss (s : State) : State :=
  match s.dtm.chosen with
  | none => s
  | some c =>
    let s := s.count F.DTM_ANN_TIMEOUTS_COUNT 1
    let s := ageMasters (s.setDtm { s.dtm with masters := s.dtm.masters.filter (fun x => !x.same c), chosen := none, pathDelay := none })
    match bestMaster s.dtm.masters with
    | some b => masterChange s b
    | none => sourceLost (s.setFld F.DTM_MASTER_PORT_VALID 0)

/-- PTP_MASTER_LOSS. -/
def execPtpMasterLoss (s : State) : Result := .next (if s.operating then ptpMasterLoss s else s)

/-- PTP_DELAY_RESP_RX (R545): the path delay from the four times of an exchange, in ns: request-response from Sync sent and
received, Delay_Req sent and received; peer delay from Pdelay_Req sent and received, Pdelay_Resp sent and received. -/
def ptpDelay (s : State) (x t1 t2 t3 t4 : Nat) (gens : List Nat) : State :=
  let peer := s.flag F.DTM_PTP_CFG_DELAY_MECH
  if !ptpOn s x then s
  else match takePtp s x (if peer then 3 else 9) with
    | (none, s) => s
    | (some (i, _), s) =>
      let d : Int := if peer then (((t4 : Int) - t1) - ((t3 : Int) - t2)) / 2 else (((t2 : Int) - t1) + ((t4 : Int) - t3)) / 2
      if gensAgree s (if peer then stampGen i :: gens else gens) then s.setDtm { s.dtm with pathDelay := some d } else s

/-- PTP_DELAY_RESP_RX. -/
def execPtpDelayRespRx (port : EthPort) (t1 t2 t3 t4 : Nat) (gens : List (Fin 4)) (s : State) : Result :=
  .next (if s.operating then ptpDelay s port t1 t2 t3 t4 (gens.map (·.val)) else s)

/-- A PTP message of the servo (IEEE 1588-2019 header, R545), with its correctionField. -/
def ptpMessage (s : State) (x msgType seq flags control : Nat) (correction body : List Byte) : List Byte :=
  leBytes 1 msgType ++ [0x02#8] ++ beBytes 2 (34 + body.length) ++ leBytes 1 (s.fld F.DTM_PTP_CFG_DOMAIN) ++ [0#8]
    ++ beBytes 2 flags ++ correction ++ List.replicate 4 0#8 ++ beBytes 8 (s.wide A.DTM_CLOCK_ID) ++ beBytes 2 (x + 1) ++ beBytes 2 seq
    ++ leBytes 1 control ++ [0x7F#8] ++ body

/-- The frame that carries it: over Ethernet, or over UDP and IPv4, whose addresses are open. `peer`: a peer delay message. -/
def ptpFrame (s : State) (x : Nat) (peer : Bool) (msg : List Byte) : List Byte × State :=
  if s.flag F.DTM_PTP_CFG_TRANSPORT then
    let r := drawBytes s 34
    let port := if bitsOf (fieldAt msg 0 1) 0 4 < 8 then 319 else 320
    (slice r.1 0 6 ++ mac x ++ [0x08#8, 0x00#8] ++ slice r.1 6 20 ++ beBytes 2 port ++ beBytes 2 port ++ beBytes 2 (8 + msg.length)
      ++ [0#8, 0#8] ++ msg, r.2)
  else
    ((if peer then [0x01#8, 0x80#8, 0xC2#8, 0#8, 0#8, 0x0E#8] else [0x01#8, 0x1B#8, 0x19#8, 0#8, 0#8, 0#8]) ++ mac x
      ++ [0x88#8, 0xF7#8] ++ msg, s)

/-- A stamp of 12 bytes as a PTP timestamp: 6 bytes of seconds and 4 of nanoseconds, most significant first. -/
def ptpTime (ts : List Byte) : List Byte := beBytes 6 (fieldAt ts 0 6) ++ beBytes 4 (fieldAt ts 6 4 % 2 ^ 30)

/-- A PTP message of PE15 put into the queue `PTP_TXQ` names for the port, whose DEST must be that port (R545). `ts`: the item's TS. -/
def sendPtp (s : State) (x : Nat) (peer oneStep : Bool) (ts msg : List Byte) : State :=
  let q := if x = 0 then s.fld F.DTM_PTP_TXQ_TXQ_A else s.fld F.DTM_PTP_TXQ_TXQ_B
  if (s.queue q).dest != 2 + x then s
  else
    let f := ptpFrame s x peer msg
    (enqueue f.2 q { Item.blank with bytes := f.1, ts := ts, src := 0x3F, ptpOneStep := oneStep, appendFcs := true } true).2

/-- PTP_DELAY_REQ_TX (R545). -/
def execPtpDelayReqTx (port : EthPort) (s : State) : Result :=
  .next (if !s.operating || !ptpOn s port then s
    else
      let seq := s.dtm.dreqSeq
      let s := s.setDtm { s.dtm with dreqSeq := (seq + 1) % 65536 }
      if s.flag F.DTM_PTP_CFG_DELAY_MECH then
        sendPtp s port true false (stampNow s) (ptpMessage s port 2 seq 0 5 (List.replicate 8 0#8) (List.replicate 20 0#8))
      else sendPtp s port false false (stampNow s) (ptpMessage s port 1 seq 0 1 (List.replicate 8 0#8) (List.replicate 10 0#8)))

/-- The answer to a Pdelay_Req that came with item `i` as message `m` (R545). One-step: a Pdelay_Resp without a receipt time, to whose
correctionField the port adds the time from the receipt, the item's TS, to its own egress. Two-step: a Pdelay_Resp with the
time of receipt; a Pdelay_Resp_Follow_Up with the time of its egress is owed. -/
def pdelayAnswer (s : State) (x seq : Nat) (requester : List Byte) (i : Item) (m : List Byte) : State :=
  if s.flag F.DTM_PTP_CFG_PD_ONE_STEP then
    sendPtp s x true true i.ts (ptpMessage s x 3 seq 0 5 (slice m 8 8) (List.replicate 10 0#8 ++ slice requester 0 10))
  else
    let s := s.setDtm { s.dtm with
      pdelay := s.dtm.pdelay.filter (fun e => !(e.port == x && e.seq == seq)) ++ [{ port := x, seq := seq, correction := slice m 8 8 }] }
    sendPtp s x true false (stampNow s) (ptpMessage s x 3 seq 0x0200 5 (List.replicate 8 0#8) (ptpTime i.ts ++ slice requester 0 10))

/-- PTP_PDELAY_REQ_RX (R545): answered in P2P mode. `requester`: the 10 bytes of the requesting port identity. -/
def execPtpPdelayReqRx (port : EthPort) (seq : Fin 65536) (requester : List Byte) (s : State) : Result :=
  .next (if !s.operating || !ptpOn s port then s
    else match takePtp s port 2 with
      | (none, s) => s
      | (some (i, m), s) => if s.flag F.DTM_PTP_CFG_DELAY_MECH then pdelayAnswer s port seq requester i m else s)

/-- A two-step Pdelay_Resp of PE15 has left port `x` at the stamp `ts`: its Pdelay_Resp_Follow_Up is sent (R545). -/
def pdelayFollowUp (s : State) (x : Nat) (resp ts : List Byte) : State :=
  let seq := beNat (slice resp 30 2)
  match s.dtm.pdelay.find? (fun e => e.port == x && e.seq == seq) with
  | none => s
  | some e =>
    let s := s.setDtm { s.dtm with pdelay := s.dtm.pdelay.filter (fun y => y != e) }
    sendPtp s x true false (stampNow s) (ptpMessage s x 0xA seq 0 5 e.correction (ptpTime ts ++ slice resp 44 10))

/-- HOLDOVER_EXPIRY (R543). -/
def execHoldoverExpiry (s : State) : Result :=
  .next (if s.operating && s.fld F.DTM_STATUS_SERVO == 3 then setServo (s.setDtm { s.dtm with goodHold := false }) 0 false else s)

/-- TIME_OK_HOLD_EXPIRY (R544): HOLDOVER_S have passed since the last measurement accepted in LOCKED, whatever the state now. -/
def execTimeOkHoldExpiry (s : State) : Result :=
  .next (if s.operating then refreshTimeOk (s.setDtm { s.dtm with goodHold := false }) else s)

/-! ### Pulses (R548–R550) -/

/-- PPS_OUT_START (R548): in its last cycle the counter has come to a whole second less ADV_NS. -/
def execPpsOutStart (s : State) : Result :=
  .next (if s.boot.pllLocked && s.answers && s.flag F.DTM_PPS_OUT_CFG_EN
      && (!s.flag F.DTM_PPS_OUT_CFG_QUAL || s.flag F.DTM_STATUS_TIME_OK) && crossed s (s.fld F.DTM_PPS_OUT_CFG_ADV_NS) 1000000000 then
    s.setDtm { s.dtm with ppsOut := true, ppsAt := s.dev.upCycles } else s)

/-- PPS_OUT_END (R548): WIDTH_MS after its start. -/
def execPpsOutEnd (s : State) : Result :=
  .next (if s.dtm.ppsAt + s.fld F.DTM_PPS_OUT_CFG_WIDTH_MS * 250000 ≤ s.dev.upCycles then s.setDtm { s.dtm with ppsOut := false } else s)

/-- The level of the PPS_OUT ball: high while active under POL 1 (R548). -/
def ppsOutPin (s : State) : Bool := s.dtm.ppsOut == s.flag F.DTM_PPS_OUT_CFG_POL

/-- The offset of a time from the nearest whole second (R550). -/
def nearestSecond (ns : Nat) : Int := if ns < 500000000 then ns else (ns : Int) - 1000000000

/-- An active edge of PPS_IN (R549, R550). -/
def ppsEdge (s : State) : State :=
  let s := s.count F.DTM_PPS_IN_EDGES_COUNT 1
  let s := if s.flag F.DTM_PPS_TS_VALID then s.count F.DTM_PPS_TS_OVERRUN_COUNT 1 else s
  let ts := stampNow s
  let s := s.setReg A.DTM_PPS_TS 0x80000000#32
  let s := s.setReg A.DTM_PPS_TS1 (BitVec.ofNat 32 (fieldAt ts 0 4))
  let s := s.setReg A.DTM_PPS_TS2 (BitVec.ofNat 32 (fieldAt ts 4 4))
  let s := s.setReg A.DTM_PPS_TS3 (BitVec.ofNat 32 (fieldAt ts 8 4))
  let s := setCause s 0x26 4
  if source s != 3 || !s.operating then s
  else
    let o := nearestSecond s.now.ns
    if s.fld F.DTM_STATUS_SERVO = 2 && s.fld F.DTM_PPS_IN_CFG_WINDOW_US * 1000 < o.natAbs then
      setCause (s.count F.DTM_PPS_OUTLIERS_COUNT 1) 0x26 5
    else measure s o (s.fld F.DTM_STATUS_STEP_GEN)

/-- PPS_IN_EDGE (R549): stamped wherever Datum runs. -/
def execPpsInEdge (s : State) : Result := .next (if s.boot.pllLocked && s.answers && s.flag F.DTM_PPS_IN_CFG_EN then ppsEdge s else s)

/-- PPS_SOURCE_LOSS (R550). -/
def execPpsSourceLoss (s : State) : Result :=
  .next (if s.operating && source s == 3 then sourceLost (s.count F.DTM_ANN_TIMEOUTS_COUNT 1) else s)

/-- The words of `PPS_TS`. -/
def ppsTsWords (s : State) : List Word := [s.reg A.DTM_PPS_TS, s.reg A.DTM_PPS_TS1, s.reg A.DTM_PPS_TS2, s.reg A.DTM_PPS_TS3]

/-- A read of `PPS_TS` word 0 (R549, R65). -/
def ppsTsPop (s : State) (src : Requester) : State :=
  let s := readWide s src A.DTM_PPS_TS (ppsTsWords s)
  if src = .jtag then s else s.setReg A.DTM_PPS_TS 0#32

/-- PPS_TS_POP. -/
def execPpsTsPop (src : Requester) (s : State) : Result := .next (gateRead s src A.DTM_PPS_TS (fun s => ppsTsPop s src))

end Sys2Proof.Machine
end

