-- ==== Sys2Proof/Machine/Ethernet.lean ====
section
/-!
DEFINITION. Sys2Proof/Machine/Ethernet.lean: the Ethernet ports: link, reception, transmission, PAUSE, LPI, MACsec, tunnels
and MDIO (15_ethernet_ports.md).
-/
namespace Sys2Proof.Machine

/-- Page of port `x`. -/
def emPage (x : Nat) : Nat := 0x24 + x

/-! ### Link (R499–R502) -/

/-- The line rates of a mode (R499). -/
def modeRate (mode : Nat) (an : Bool) (rate : Nat) : Bool :=
  match mode with
  | 1 => rate == 3
  | 2 => rate == 3 || (an && (rate == 1 || rate == 2))
  | 3 => rate == 4
  | _ => false

/-- The item port `x` sends when its link goes down is lost (R501): it leaves its queue, one begun by cut-through with the words still
to come. -/
def loseSending (s : State) (x : Nat) (sending : Bool) : State :=
  match (s.egress x).serving with
  | none => if sending then s.count (F.EM_TX_TRUNC_COUNT x) 1 else s
  | some q =>
    let s := s.setEgress x { (s.egress x) with serving := none }
    match (s.queue q).items with
    | i :: _ =>
      if i.isBreak || !i.begun then s
      else
        let s := if i.committed then s
          else
            let s := endBegun s q { i with trunc := true }
            s.setQueue q { s.queue q with dropping := true }
        delivered (s.count (F.EM_TX_TRUNC_COUNT x) 1) q
    | [] => s

/-- The frames that queue `q` is receiving from port `x` when its link goes down (R501): discarded, or ended with TRUNC where a consumer
has begun one. -/
def loseReceiving (s : State) (x q : Nat) : State :=
  let mine (i : Item) : Bool := i.src == 16 + x
  let s := match (s.queue q).items with
    | i :: _ => if mine i && i.begun && !i.committed then endBegun s q { i with trunc := true } else s
    | [] => s
  let gone := (s.queue q).producing.filter mine
  let s := s.putItems q (s.queue q).items ((s.queue q).producing.filter (fun i => !mine i))
  comparePtrs (closeIfEmpty (gone.foldl freeItem s) q) q

/-- What a port's link takes with it (R501): the frame being sent, the frames being received, pauses due, LPI, the negotiation's end. -/
def linkLost (s : State) (x : Nat) (sending : Bool) : State :=
  let s := (s.setFld (F.EM_STATUS_AN_DONE x) 0).setFld (F.EM_STATUS_LPI_TX x) 0
  let s := loseSending (s.setPort x { s.port x with waking := false, pauseDue := [] }) x sending
  (s.fab.queues.map (fun e => e.1)).foldl (fun t q => loseReceiving t x q) s

/-- RATE changes (R501): with the link down the frames in progress are lost; the gate list is checked against the new rate. -/
def setRate (s : State) (x rate : Nat) (sending : Bool) : State :=
  let old := s.fld (F.EM_STATUS_RATE x)
  if old = rate then s
  else
    let s := (s.setFld (F.EM_STATUS_RATE x) rate).setFld (F.EM_STATUS_LINK x) (b01 (rate != 0))
    let s := if rate = 0 then linkLost s x sending else s
    let s := gatesAfterRate s x rate
    setCause (s.event (emPage x) 0 0x0F00 (if rate = 0 then 2 else 1)
      (leBytes 1 old ++ leBytes 1 rate ++ leBytes 1 (s.fld (F.EM_MODE_CFG_MODE x)))) (emPage x) 0

/-- ETH_LINK_CHANGE (R500, R501). -/
def execEthLinkChange (port : EthPort) (rate : Fin 5) (sending : Bool) (s : State) : Result :=
  .next (if s.operating && (rate.val == 0 || modeRate (s.fld (F.EM_MODE_CFG_MODE port)) (s.flag (F.EM_MODE_CFG_AN_EN port)) rate) then setRate s port rate sending else s)

/-- AN_DONE (R499, R500): a half-duplex partner leaves the link down. -/
def execAnDone (port : EthPort) (fullDuplex pause : Bool) (s : State) : Result :=
  .next (if !s.operating || !s.flag (F.EM_MODE_CFG_AN_EN port) || !(s.fld (F.EM_MODE_CFG_MODE port) == 1 || s.fld (F.EM_MODE_CFG_MODE port) == 2)
    then s
    else if fullDuplex then
      (s.setFld (F.EM_STATUS_AN_DONE port) 1).setPort port { s.port port with pauseResolved := pause }
    else setCause (setRate s port 0 false) (emPage port) 1)

/-- A write of the bits `mask` of `MODE_CFG` (R502). -/
def modeWrite (s : State) (src : Requester) (x : Nat) (data mask : Word) : State :=
  if s.flag (F.EM_CTRL_TX_EN x) || s.flag (F.EM_CTRL_RX_EN x) then recordErr s (emPage x) 0x80 src.code (A.EM_MODE_CFG x)
  else
    let locked := s.flag (F.EM_LOCK_LOCK0 x)
    let s := writeFields s src (A.EM_MODE_CFG x) data mask
    if locked then s
    else
      let s := (s.setFld (F.EM_STATUS_AN_DONE x) 0).setPort x { s.port x with pauseResolved := false }
      setRate s x 0 false

/-- ETH_MODE_WRITE (R502). -/
def execEthModeWrite (src : Requester) (port : EthPort) (data : Word) (s : State) : Result :=
  .next (gateWrite s src (A.EM_MODE_CFG port) (fun s => modeWrite s src port data allBits))

/-- `STATUS` of port `x` as it reads: with the low-power idle received, which the partner decides on, and that transmitted, which ends as
the port leaves it (R514, R515). -/
def emStatusWord (s : State) (x : Nat) : Word :=
  let rx := portMbps s x != 0 && Config.lpiRx x s.dev.upCycles
  let tx := s.flag (F.EM_STATUS_LPI_TX x) && !lpiLeaving s x
  insBits (insBits (s.reg (A.EM_STATUS x)) 8 1 (b01 tx)) 9 1 (b01 rx)

/-! ### Frames (R507–R510, R517) -/

/-- The present time shifted by a port delay in ns (R532). -/
def stampShift (s : State) (ns : Int) : List Byte :=
  stampOf (Time.ofUnits ((s.now.units : Int) + ns * 2 ^ 32).toNat) (s.fld F.DTM_STATUS_STEP_GEN)

/-- Ingress and egress stamps of port `x` (R516, R532). -/
def rxStamp (s : State) (x : Nat) : List Byte := stampShift s (-(signed 16 (s.fld (F.DTM_PORT_DELAY_RX_NS x))))
def txStamp (s : State) (x : Nat) : List Byte := stampShift s (signed 16 (s.fld (F.DTM_PORT_DELAY_TX_NS x)))

/-! ### PAUSE (R511, R512) -/

/-- A received PAUSE obeyed holds the port; 0 quanta end the pause (R511). -/
def obeyPause (s : State) (x quanta : Nat) : State := s.setFld (F.EM_STATUS_PAUSED x) (b01 (quanta != 0))

/-- A MAC Control frame (R511, R512). -/
def macControl (s : State) (x : Nat) (bs : List Byte) : State :=
  if be16 bs 14 != 1 then s.count (F.EM_RX_CTRL_UNK_COUNT x) 1
  else
    let s := s.count (F.EM_RX_PAUSE_COUNT x) 1
    if s.flag (F.EM_STATUS_HOLD x) then s.count (F.EM_RX_PAUSE_IGNORED_COUNT x) 1
    else
      let resolved := s.fld (F.EM_MODE_CFG_MODE x) != 1 || !s.flag (F.EM_MODE_CFG_AN_EN x) || (s.port x).pauseResolved
      if s.flag (F.EM_PAUSE_CFG_RX_PAUSE x) && resolved then obeyPause s x (be16 bs 16) else s

/-- PAUSE_EXPIRY (R511). -/
def execPauseExpiry (port : EthPort) (s : State) : Result := .next (if s.operating then s.setFld (F.EM_STATUS_PAUSED port) 0 else s)

/-- PAUSE_WDOG_FIRE (R512). -/
def execPauseWdogFire (port : EthPort) (s : State) : Result :=
  .next (if s.operating && s.flag (F.EM_STATUS_PAUSED port) then
    let s := (s.setFld (F.EM_STATUS_PAUSED port) 0).setFld (F.EM_STATUS_HOLD port) 1
    let s := s.count (F.EM_PAUSE_WDOG_TRIPS_COUNT port) 1
    setCause (s.event (emPage port) 0 0x0F01 2
      (leBytes 4 (s.fld (F.EM_RX_PAUSE_IGNORED_COUNT port)) ++ leBytes 4 (s.fld (F.EM_PAUSE_WDOG_TRIPS_COUNT port)))) (emPage port) 2
  else s)

/-- PAUSE_HOLD_END (R512). -/
def execPauseHoldEnd (port : EthPort) (s : State) : Result := .next (if s.operating then s.setFld (F.EM_STATUS_HOLD port) 0 else s)

/-- PAUSE_TX_REPEAT (R513): while the free cells stay below LOW_CELLS. -/
def execPauseTxRepeat (port : EthPort) (s : State) : Result :=
  .next (if s.operating && s.flag (F.EM_PAUSE_CFG_TX_PAUSE port) && sramFree s < s.fld F.FAB_BUF_CFG_LOW_CELLS then
    sendPause s port (s.fld (F.EM_PAUSE_CFG_TX_QUANTA port)) else s)

/-! ### LPI (R514, R515) -/

/-- A frame item stands in a queue that feeds port `x`. -/
def portHasItem (s : State) (x : Nat) : Bool := (egressQueues s x).any (fun q => !(s.queue q).frames.isEmpty)

/-- LPI_ENTER (R514). -/
def execLpiEnter (port : EthPort) (s : State) : Result :=
  .next (if s.operating && s.flag (F.EM_EEE_CFG_EN port) && 3 ≤ s.fld (F.EM_STATUS_RATE port) && !portHasItem s port && !s.pow.lgDue.any (fun d => d.1 == port)
      && (s.port port).pauseDue.isEmpty && !(s.port port).waking && !s.flag (F.EM_STATUS_LPI_TX port) then
    (s.setFld (F.EM_STATUS_LPI_TX port) 1).count (F.EM_LPI_ENTRIES_COUNT port) 1
  else s)

/-- LPI_WAKE_DONE (R515): after TW_TX_US; of a wake that began for an item, of which LPI_TX tells, or for a PAUSE. -/
def execLpiWakeDone (port : EthPort) (s : State) : Result :=
  .next (if s.operating && ((s.port port).waking || (s.flag (F.EM_STATUS_LPI_TX port) && lpiLeaving s port)) then
    let s := s.setFld (F.EM_STATUS_LPI_TX port) 0
    flushPause (s.setPort port { s.port port with waking := false }) port
  else s)

/-! ### MACsec (R520–R522) -/

/-- Transmit association `an` of port `x`. -/
def txAssoc (s : State) (x an : Nat) : Assoc := Tbl.get (fun _ => Assoc.init) (s.port x).txSa an

/-- Receive association `an` of channel `sc` of port `x`. -/
def rxAssoc (s : State) (x sc an : Nat) : Assoc := Tbl.get (fun _ => Assoc.init) (s.port x).rxSa (4 * sc + an)

/-- Storing a transmit or receive association by its number. -/
def setTxAssoc (s : State) (x n : Nat) (a : Assoc) : State :=
  s.setPort x { s.port x with txSa := Tbl.put (fun _ => Assoc.init) (s.port x).txSa n a }
def setRxAssoc (s : State) (x n : Nat) (a : Assoc) : State :=
  s.setPort x { s.port x with rxSa := Tbl.put (fun _ => Assoc.init) (s.port x).rxSa n a }

/-- CONF_OFFSET in bytes (R520). -/
def confOffset (s : State) (x : Nat) : Nat :=
  match s.fld (F.EM_MACSEC_CFG_CONF_OFFSET x) with
  | 1 => 30
  | 2 => 50
  | _ => 0

/-- The PN of a protected transmission advances (R522). -/
def advancePn (s : State) (x an pn : Nat) : State :=
  let s := setTxAssoc s x an { txAssoc s x an with pn := pn + 1 }
  let ev (s : State) (k sev : Nat) : State := s.event (emPage x) 0 0x0F02 sev (leBytes 1 an ++ leBytes 1 k)
  let s := if pn + 1 = 0xF0000000 then setCause (ev s 1 1) (emPage x) 5 else s
  if pn + 1 < 2 ^ 32 then s
  else if s.flag (F.EM_MACSEC_CFG_NEXT_EN x) then
    ev ((s.setFld (F.EM_MACSEC_CFG_TX_AN x) (s.fld (F.EM_MACSEC_CFG_NEXT_AN x))).setFld (F.EM_MACSEC_CFG_NEXT_EN x) 0) 2 1
  else setCause (ev (s.setFld (F.EM_STATUS_MACSEC_HALT x) 1) 3 3) (emPage x) 6

/-- A frame protected under association TX_AN (R520). -/
def protect (s : State) (x : Nat) (bs : List Byte) : List Byte × State :=
  let an := s.fld (F.EM_MACSEC_CFG_TX_AN x)
  let a := txAssoc s x an
  let enc := s.flag (F.EM_MACSEC_CFG_ENCRYPT x)
  let data := bs.drop 12
  let sci := mac x ++ [0x00#8, 0x01#8]
  let tci := 0x20 + (if enc then 0x0C else 0) + an
  let sl := if data.length < 48 then data.length else 0
  let tag := [0x88#8, 0xE5#8] ++ leBytes 1 tci ++ leBytes 1 sl ++ beBytes 4 a.pn ++ sci
  let clear := if enc then data.take (confOffset s x) else data
  let iv := sci ++ beBytes 4 a.pn
  let sealed := Config.gcmSeal a.key iv (bs.take 12 ++ tag ++ clear) (data.drop clear.length)
  (bs.take 12 ++ tag ++ clear ++ sealed, advancePn (gcmRequest s true) x an a.pn)

/-- What MACsec reception makes of a frame: discarded, passed on as protected, or passed on unverified (R520). -/
inductive MacsecRx where
  | discard
  | pass (bytes : List Byte) (verified : Bool)
  deriving DecidableEq, Repr

/-- A frame whose verification failed (R520): discarded in Strict mode, and where its data cannot be read; else passed on
with SecTAG and ICV removed. -/
def macsecFailed (s : State) (x : Nat) (bs : List Byte) (data : List Byte) (encrypted : Bool) : MacsecRx :=
  if s.fld (F.EM_MACSEC_CFG_VALIDATE x) = 2 || encrypted then .discard
  else .pass (bs.take 12 ++ data.take (data.length - 16)) false

/-- A received MACsec frame (R520). A short one carries its length, and padding follows its ICV. One outside the replay window is still
read where the mode passes it on. -/
def macsecRx (s : State) (x : Nat) (bs : List Byte) : MacsecRx × State :=
  let tci := fieldAt bs 14 1
  let an := tci % 4
  let sl := fieldAt bs 15 1 % 64
  let pn := beNat (slice bs 16 4)
  let hasSci := bit tci 5
  let enc := bit tci 2 || bit tci 3
  let header := bs.take (if hasSci then 28 else 20)
  let rest := bs.drop (if hasSci then 28 else 20)
  let data := if sl = 0 then rest else rest.take (sl + 16)
  let sci := beNat (slice bs 20 8)
  let sc := if hasSci then (List.range 4).find? (fun k => Tbl.get (fun _ => 0) (s.port x).sci k == sci && (rxAssoc s x k an).en) else none
  let failed := macsecFailed s x bs data enc
  if s.fld (F.EM_MACSEC_CFG_VALIDATE x) = 0 then (failed, s)
  else
    match sc with
    | none => (failed, s.count (F.EM_MACSEC_RX_NOSA_COUNT x) 1)
    | some k =>
      let a := rxAssoc s x k an
      let late := decide (pn < a.pn)
      let s := if late then s.count (F.EM_MACSEC_RX_REPLAY_COUNT x) 1 else s
      if late && s.fld (F.EM_MACSEC_CFG_VALIDATE x) == 2 then (.discard, s)
      else
        let off := if enc then min (confOffset s x) (data.length - 16) else data.length - 16
        let clear := data.take off
        match Config.gcmOpen a.key (beBytes 8 sci ++ beBytes 4 pn) (header ++ clear) (data.drop off) with
        | none => (failed, (gcmRequest s false).count (F.EM_MACSEC_RX_BAD_COUNT x) 1)
        | some plain =>
          let s := gcmRequest s true
          if late then (.pass (bs.take 12 ++ clear ++ plain) false, s)
          else
            let next := max a.next (pn + 1)
            let a := { a with next := next, pn := max a.pn (next - s.fld (F.EM_MACSEC_CFG_REPLAY_WIN x)) }
            (.pass (bs.take 12 ++ clear ++ plain) true, setRxAssoc s x (4 * k + an) a)

/-- The association the SA window names: whether it is a receive one, and its number. -/
def saSel (s : State) (x : Nat) : Bool × Nat :=
  if s.flag (F.EM_SA_SEL_DIR x) then (true, 4 * s.fld (F.EM_SA_SEL_SC x) + s.fld (F.EM_SA_SEL_AN x))
  else (false, s.fld (F.EM_SA_SEL_AN x))

/-- The association in the window. -/
def saGet (s : State) (x : Nat) : Assoc :=
  let k := saSel s x
  if k.1 then Tbl.get (fun _ => Assoc.init) (s.port x).rxSa k.2 else txAssoc s x k.2

/-- Storing the association in the window. -/
def saPut (s : State) (x : Nat) (a : Assoc) : State :=
  let k := saSel s x
  if k.1 then setRxAssoc s x k.2 a else setTxAssoc s x k.2 a

/-- The words of the SA window as they read (R521): `SA_CFG`, `SA_PN`, `RX_SCI` and its high word. -/
def saWord (s : State) (x off : Nat) : Word :=
  let a := saGet s x
  let sci := Tbl.get (fun _ => 0) (s.port x).sci (s.fld (F.EM_SA_SEL_SC x))
  match off with
  | 0x050 => BitVec.ofNat 32 (2 ^ 31 * b01 a.en + a.slot)
  | 0x054 => BitVec.ofNat 32 a.pn
  | 0x058 => BitVec.ofNat 32 sci
  | _ => BitVec.ofNat 32 (sci / 2 ^ 32)

/-- Protected transmission resumes once association TX_AN is enabled with a PN left (R522). -/
def refreshHalt (s : State) (x : Nat) : State :=
  let a := txAssoc s x (s.fld (F.EM_MACSEC_CFG_TX_AN x))
  if s.flag (F.EM_STATUS_MACSEC_HALT x) && a.en && a.pn < 2 ^ 32 then s.setFld (F.EM_STATUS_MACSEC_HALT x) 0 else s

/-- A write of `SA_CFG` (R521): EN alone of an enabled association; enabling fetches the key. -/
def saCfgWrite (s : State) (src : Requester) (x : Nat) (data : Word) : State :=
  let a := saGet s x
  let en := bit data.toNat 31
  let slot := bitsOf data.toNat 0 9
  let at_ := A.EM_SA_CFG x
  if a.en then
    let s := if slot != a.slot then recordErr s (emPage x) 0x81 src.code at_ else s
    if en then s else saPut s x { a with en := false, key := [] }
  else if !en then saPut s x { a with slot := slot }
  else
    let usage := if (saSel s x).1 then 9 else 8
    match slotKeyUse s slot (some destGcm) usage with
    | none => recordErr (denied (saPut s x { a with slot := slot })) (emPage x) 0x82 src.code at_
    | some key => refreshHalt (saPut s x { a with en := true, slot := slot, key := key }) x

/-- A write of a word of the SA window (R521). -/
def saWrite (s : State) (src : Requester) (x off : Nat) (data : Word) : State :=
  let at_ := emPage x * 0x1000 + off
  if s.flag (F.EM_LOCK_LOCK1 x) then recordErr s (emPage x) 0x01 src.code at_
  else if off = 0x050 then saCfgWrite s src x data
  else if (saGet s x).en then recordErr s (emPage x) 0x81 src.code at_
  else if off = 0x054 then
    let a := saGet s x
    saPut s x { a with pn := data.toNat, next := data.toNat }
  else
    wideWrite s src at_ data (fun s a d =>
      let sc := s.fld (F.EM_SA_SEL_SC x)
      let old := Tbl.get (fun _ => 0) (s.port x).sci sc
      let v := if a % 0x1000 = 0x058 then old / 2 ^ 32 * 2 ^ 32 + d.toNat else old % 2 ^ 32 + d.toNat * 2 ^ 32
      s.setPort x { s.port x with sci := Tbl.put (fun _ => 0) (s.port x).sci sc v })

/-- SA_CFG_WRITE (R521): `word` 0 SA_CFG, 1 SA_PN, 2 RX_SCI, 3 its high word. -/
def execSaCfgWrite (src : Requester) (port : EthPort) (word : Fin 4) (data : Word) (s : State) : Result :=
  .next (gateWrite s src (A.EM_SA_CFG port + 4 * word.val) (fun s => saWrite s src port (0x050 + 4 * word.val) data))

/-- A write of the bits `mask` of `MACSEC_CFG`. -/
def macsecCfgWrite (s : State) (src : Requester) (x : Nat) (data mask : Word) : State :=
  refreshHalt (writeFields s src (A.EM_MACSEC_CFG x) data mask) x

/-! ### Reception (R504–R509) -/

/-- A tunnel frame of R523: UDP over IPv4 to UDP_PORT. -/
def isTunnel (s : State) (x : Nat) (bs : List Byte) : Bool :=
  s.flag (F.EM_TUN_CFG_EN x) && be16 bs 12 == 0x0800 && fieldAt bs 23 1 == 17 && be16 bs 36 == s.fld (F.EM_TUN_CFG_UDP_PORT x)

/-- Whether a frame is a control frame of row 5 of R507. -/
def isControl (bs : List Byte) : Bool :=
  (bs.take 5 == [0x01#8, 0x80#8, 0xC2#8, 0#8, 0#8] && fieldAt bs 5 1 < 16) || be16 bs 12 == 0x888E || be16 bs 12 == 0x88CC

/-- RX_QMAP of a PCP. -/
def qmap (s : State) (x pcp : Nat) : Nat := bitsOf (s.reg (A.EM_RX_QMAP x)).toNat (4 * pcp) 4

/-- The queue of a frame that passed rows 1 and 2 of R507. -/
def rxQueue (s : State) (x : Nat) (bs : List Byte) : Nat :=
  if isTunnel s x bs then s.fld (F.EM_TUN_QS_RX_Q x)
  else if (ptpAt s x bs).isSome then s.fld (F.EM_PTP_Q_QUEUE x)
  else if isControl bs then s.fld (F.EM_RX_QCFG_CTL_Q x)
  else
    let pcp := match outerTag s x bs with
      | some (_, tci) => tci / 2 ^ 13
      | none => s.fld (F.EM_RX_QCFG_DEF_PCP x)
    s.fld (F.EM_RX_QCFG_RX_QBASE x) + qmap s x pcp

/-- A frame enqueued with its AUX (R508, R509). A queue number above 4,095 names no queue. -/
def rxEnqueue (s : State) (x : Nat) (bs : List Byte) (verified : Bool) : State :=
  let q := rxQueue s x bs
  let tag := outerTag s x bs
  let strip := s.flag (F.EM_VLAN_CFG_RX_STRIP x)
  let ev := (ptpEvent s x bs).isSome
  let aux := match tag with
    | some (st, tci) => if strip then tci + 2 ^ 16 + 2 ^ 17 * b01 st else 0
    | none => 0
  let bytes := if strip && tag.isSome then bs.take 12 ++ bs.drop 16 else bs
  if 4095 < q then s
  else
    (enqueue s q { Item.blank with
      bytes := bytes, aux := aux + 2 ^ 18 * b01 verified + 2 ^ 19 * b01 ev, ts := rxStamp s x, src := 16 + x,
      ptpOneStep := ev && s.flag (F.EM_FRAME_CFG_TC_EN x) } false).2

/-- A received frame, FCS included (R504, R507). -/
def ethRx (s : State) (x : Nat) (frame : List Byte) : State :=
  let bs := frame.take (frame.length - 4)
  if s.fld (F.EM_FRAME_CFG_MAX_FRAME x) < frame.length then s.count (F.EM_RX_OVERSIZE_COUNT x) 1
  else if leNat (frame.drop (frame.length - 4)) != crc32 bs then s.count (F.EM_RX_FCS_ERR_COUNT x) 1
  else if frame.length < 64 then s.count (F.EM_RX_RUNT_COUNT x) 1
  else
    let s := s.count (F.EM_RX_FRAMES_COUNT x) 1
    if be16 bs 12 = 0x8808 then macControl s x bs
    else if !s.flag (F.EM_MACSEC_CFG_RX_EN x) then rxEnqueue s x bs false
    else if be16 bs 12 = 0x88E5 then
      match macsecRx s x bs with
      | (.discard, s) => s
      | (.pass bs ok, s) => rxEnqueue s x bs ok
    else if s.fld (F.EM_MACSEC_CFG_VALIDATE x) = 2 && be16 bs 12 != 0x888E then s
    else rxEnqueue s x bs false

/-- ETH_RX_FRAME (R507). -/
def execEthRxFrame (port : EthPort) (frame : List Byte) (s : State) : Result :=
  .next (if s.operating && s.flag (F.EM_CTRL_RX_EN port) && portMbps s port != 0 then ethRx s port frame else s)

/-! ### Transmission (R505, R506, R510, R518, R519) -/

/-- A tag inserted after the addresses. -/
def addTag (s : State) (x : Nat) (stag : Bool) (tci : Nat) (bs : List Byte) : List Byte :=
  bs.take 12 ++ beBytes 2 (if stag then s.fld (F.EM_VLAN_CFG_S_TPID x) else 0x8100) ++ beBytes 2 tci ++ bs.drop 12

/-- Tags restored and inserted (R510). -/
def txTags (s : State) (x cls : Nat) (i : Item) (bs : List Byte) : List Byte :=
  let bs := if s.flag (F.EM_VLAN_CFG_TX_RESTORE x) && i.src / 16 == 1 && bit i.aux 16 then addTag s x (bit i.aux 17) (i.aux % 2 ^ 16) bs
    else bs
  if s.flag (F.EM_VLAN_CFG_TX_INSERT x) && (outerTag s x bs).isNone then
    addTag s x (s.flag (F.EM_VLAN_CFG_INSERT_S x)) (cls * 2 ^ 13 + s.fld (F.EM_VLAN_CFG_DEF_VID x)) bs
  else bs

/-- A stamp of 12 bytes in units of 2⁻¹⁶ ns. -/
def stampUnits (ts : List Byte) : Nat :=
  (fieldAt ts 0 6 * 1000000000 + fieldAt ts 6 4 % 2 ^ 30) * 2 ^ 16 + fieldAt ts 10 2

/-- The correctionField at H + 8 with `d` added. -/
def addCorrection (bs : List Byte) (h : Nat) (d : Int) : List Byte :=
  splice bs (h + 8) (beBytes 8 (unsigned 64 (signed 64 (beNat (slice bs (h + 8) 8)) + d)))

/-- The one-step rewrite of a frame, or none where R518 sends it unchanged. -/
def oneStep (s : State) (x : Nat) (i : Item) (bs : List Byte) : Option (List Byte) :=
  match ptpEvent s x bs with
  | none => none
  | some (h, tr, mt) =>
    let kind := i.src / 16
    let now := txStamp s x
    let prot := s.flag (F.EM_MACSEC_CFG_TX_PROTECT x)
    if tr = 2 || prot then none
    else
      let body :=
        if mt = 0 && (kind == 2 || kind == 3) then
          some (addCorrection (splice bs (h + 34) (beBytes 6 (fieldAt now 0 6) ++ beBytes 4 (fieldAt now 6 4 % 2 ^ 30))) h (fieldAt now 10 2))
        else if mt != 0 then
          if kind == 1 || (kind == 3 && mt == 3) then some (addCorrection bs h ((stampUnits now : Int) - stampUnits i.ts)) else some bs
        else none
      body.map (fun b => if tr = 1 then splice b (h - 2) [0#8, 0#8] else b)

/-- An egress stamp queued (R519). -/
def putTxts (s : State) (x : Nat) (t : TxStamp) : State :=
  let p := s.port x
  if 64 ≤ p.txts.length then setCause (s.count (F.EM_TXTS_LOST_COUNT x) 1) (emPage x) 4
  else setCause (s.setPort x { p with txts := p.txts ++ [t] }) (emPage x) 3

/-- The stamp of a PTP event message sent (R519); those of PE15 go to it (R545). -/
def stampTx (s : State) (x : Nat) (i : Item) (bs : List Byte) : State :=
  match ptpEvent s x bs with
  | some (h, _, mt) =>
    if i.src = 0x3F then (if mt = 3 && !i.ptpOneStep then pdelayFollowUp s x (bs.drop h) (txStamp s x) else s)
    else if s.flag (F.EM_FRAME_CFG_TXTS_EN x) then
      putTxts s x { msgType := mt, seqId := be16 bs (h + 30), ts := txStamp s x, qseq := i.qseq }
    else s
  | none => s

/-- A frame completed for the line: one that carries its own FCS is sent as it is, unless it has been rewritten (R505, R518). -/
def lineFrame (own : Bool) (raw before after : List Byte) : List Byte :=
  if !own then withFcs (padFrame after) else if after = before then raw else withFcs after

/-- One frame of an item put on the line. The FCS that an item carries is that of its bytes without their last four. -/
def transmit (s : State) (x cls : Nat) (i : Item) : State :=
  let raw := i.bytes.drop (if i.hasMeta then 64 else 0)
  let own := i.src / 16 == 2 && !i.appendFcs
  let tagged := if own then raw.take (raw.length - 4) else txTags s x cls i raw
  if s.fld (F.EM_FRAME_CFG_MAX_FRAME x) < tagged.length + 4 then s.count (F.EM_TX_OVERSIZE_COUNT x) 1
  else if i.trunc then (s.send (.eth x (withBadFcs (padFrame (if own then raw else tagged))))).count (F.EM_TX_TRUNC_COUNT x) 1
  else
    let r := if i.ptpOneStep then
        match oneStep s x i tagged with
        | some b => (b, s)
        | none => (tagged, s.count (F.EM_PTP_NO_1STEP_COUNT x) 1)
      else (tagged, s)
    let s := stampTx r.2 x i r.1
    if isProtected s x i then
      let p := protect s x r.1
      (p.2.send (.eth x (withFcs (padFrame p.1)))).count (F.EM_TX_FRAMES_COUNT x) 1
    else (s.send (.eth x (lineFrame own raw tagged r.1))).count (F.EM_TX_FRAMES_COUNT x) 1

/-- ETH_TX_BEGIN (R505): the item the port has chosen is sent and leaves its queue; last-gasp frames go
before it (R689). An item begun by cut-through is sent once
its last word is written. -/
def ethTxBegin (s : State) (x : Nat) : State :=
  match (s.egress x).serving with
  | none => s
  | some q =>
    match (s.queue q).items with
    | [] => s.setEgress x { (s.egress x) with serving := none }
    | i :: _ =>
      if !i.begun && s.pow.lgDue.any (fun d => d.1 == x) then s
      else if i.isBreak then settleHead (s.setEgress x { (s.egress x) with serving := none }) q
      else if !i.committed || !portUp s x then s
      else
        let s := transmit s x (s.queue q).cls i
        let s := s.setEgress x { (s.egress x) with serving := none }
        flushPause (delivered s q) x

/-- ETH_TX_BEGIN. -/
def execEthTxBegin (port : EthPort) (s : State) : Result := .next (if s.operating then ethTxBegin s port else s)

/-- The words of `TXTS` (R519); with VALID 0 the words last popped (R63). -/
def txtsWords (s : State) (x : Nat) : List Word :=
  match (s.port x).txts with
  | [] => [s.reg (A.EM_TXTS x), s.reg (A.EM_TXTS1 x), s.reg (A.EM_TXTS2 x), s.reg (A.EM_TXTS3 x), s.reg (A.EM_TXTS4 x)]
  | t :: _ =>
    [BitVec.ofNat 32 (2 ^ 31 + t.msgType * 2 ^ 20 + t.seqId), BitVec.ofNat 32 (fieldAt t.ts 0 4), BitVec.ofNat 32 (fieldAt t.ts 4 4),
     BitVec.ofNat 32 (fieldAt t.ts 8 4), BitVec.ofNat 32 t.qseq]

/-- A read of `TXTS` word 0 (R65, R519). -/
def txtsPop (s : State) (src : Requester) (x : Nat) : State :=
  let ws := txtsWords s x
  let s := readWide s src (A.EM_TXTS x) ws
  if src = .jtag || (s.port x).txts.isEmpty then s
  else
    let s := (s.setPort x { s.port x with txts := (s.port x).txts.drop 1 }).setReg (A.EM_TXTS x) ((ws.headD 0#32) &&& 0x7FFFFFFF#32)
    (ws.drop 1).zipIdx.foldl (fun s e => s.setReg (A.EM_TXTS1 x + 4 * e.2) e.1) s

/-- TXTS_POP (R519). -/
def execTxtsPop (src : Requester) (port : EthPort) (s : State) : Result :=
  .next (gateRead s src (A.EM_TXTS port) (fun s => txtsPop s src port))

/-! ### Tunnels (R523, R524) -/

/-- The 42 header bytes of the tunnel of port `x`. -/
def tunHeader (s : State) (x : Nat) : List Byte :=
  slice ((List.range 11).map (fun i => beBytes 4 (s.reg (A.EM_TUN_HDR x i)).toNat)).flatten 0 42

/-- Ones' complement sum of 16-bit words. -/
def ipSum : Nat → List Byte → Nat
  | 0, _ => 0
  | n + 1, bs =>
    let t := be16 bs 0 + ipSum n (bs.drop 2)
    t % 2 ^ 16 + t / 2 ^ 16

/-- The header with the UDP destination port, the lengths and the header checksum filled in and UDP checksum 0 (R523). -/
def fillHeader (hdr : List Byte) (port len : Nat) : List Byte :=
  let h := splice (splice hdr 16 (beBytes 2 (28 + len))) 24 [0#8, 0#8]
  let h := splice h 24 (beBytes 2 (0xFFFF - ipSum 10 (slice h 14 20)))
  splice (splice (splice h 36 (beBytes 2 port)) 38 (beBytes 2 (8 + len))) 40 [0#8, 0#8]

/-- TUNNEL_ENCAP (R523, R524). While GCM requests wait the item stays in its queue (R22). -/
def tunnelEncap (s : State) (x : Nat) : State :=
  let q := s.fld (F.EM_TUN_QS_TX_Q x)
  let out := s.fld (F.EM_TUN_OUTQ_OUT_Q x)
  let p := s.port x
  let slot := s.fld (F.EM_TUN_CFG_KEY_SLOT x)
  if !s.flag (F.EM_TUN_CFG_EN x) || (s.queue q).dest != 4 || !((s.queue out).dest == 2 || (s.queue out).dest == 3) || p.tunDone then s
  else
    match (s.queue q).items with
    | [] => s
    | i :: _ =>
      if i.isBreak || !i.committed || (s.queue q).state != 1 then s
      else if !gcmFree s then gcmHeld s
      else
        match slotKeyUse s slot (some destGcm) 8 with
        | none => denied s
        | some key =>
          let id := s.fld (F.EM_TUN_QS_ID x)
          let seq := s.nv.bootCount * 2 ^ 32 + p.tunNext
          let aad := leBytes 4 id ++ leBytes 8 seq ++ leBytes 2 q ++ leBytes 2 i.bytes.length
          let payload := aad ++ Config.gcmSeal key (aad.take 12) aad i.bytes
          let frame := fillHeader (tunHeader s x) (s.fld (F.EM_TUN_CFG_UDP_PORT x)) payload.length ++ payload
          let s := gcmRequest (delivered s q) true
          let s := (enqueue s out { Item.blank with bytes := frame, ts := stampNow s, src := 0x30 + (8 + q % 4), appendFcs := true } true).2
          if p.tunNext + 1 < 2 ^ 32 then s.setPort x { s.port x with tunNext := p.tunNext + 1 }
          else (s.setPort x { s.port x with tunDone := true }).event (emPage x) 0 0x0F03 3 (leBytes 2 id)

/-- TUNNEL_ENCAP. -/
def execTunnelEncap (port : EthPort) (s : State) : Result :=
  .next (if s.engaged && !engineOut s (8 + s.fld (F.EM_TUN_QS_TX_Q port) % 4) then tunnelEncap s port else s)

/-- A tunnel frame meant for port `x`: its ID matches, and it holds what its LEN says (R524). -/
def tunnelMine (s : State) (x : Nat) (payload : List Byte) : Bool :=
  fieldAt payload 0 4 == s.fld (F.EM_TUN_QS_ID x) && 32 + fieldAt payload 14 2 ≤ payload.length

/-- What the checks of R524 make of a tunnel frame: whether GCM verified its tag (none: it was not asked), and the inner
item with its queue and SEQ where every check holds. -/
def tunnelOpen (s : State) (x : Nat) (payload : List Byte) : Option Bool × Option (Nat × List Byte × Nat) :=
  let len := fieldAt payload 14 2
  let seq := fieldAt payload 4 8
  let q := fieldAt payload 12 2
  if !tunnelMine s x payload then (none, none)
  else
    match slotKeyUse s (s.fld (F.EM_TUN_CFG_KEY_SLOT x)) (some destGcm) 9 with
    | none => (none, none)
    | some key =>
      match Config.gcmOpen key (payload.take 12) (payload.take 16) ((payload.drop 16).take (len + 16)) with
      | none => (some false, none)
      | some plain =>
        if seq ≤ (s.port x).tunLast || 4095 < q || !((s.queue q).dest == 0 || (s.queue q).dest == 1) then (some true, none)
        else (some true, some (q, plain, seq))

/-- TUNNEL_DECAP (R524): the frame at the head of RX_Q, which stays there while GCM requests wait (R22). -/
def tunnelDecap (s : State) (x : Nat) : State :=
  let rq := s.fld (F.EM_TUN_QS_RX_Q x)
  if !s.flag (F.EM_TUN_CFG_EN x) || (s.queue rq).dest != 4 then s
  else
    match (s.queue rq).items with
    | [] => s
    | i :: _ =>
      if i.isBreak || !i.committed || (s.queue rq).state != 1 then s
      else if !gcmFree s then gcmHeld s
      else
        let s := delivered s rq
        let r := tunnelOpen s x (i.bytes.drop 42)
        let keyed := (slotKeyUse s (s.fld (F.EM_TUN_CFG_KEY_SLOT x)) (some destGcm) 9).isSome
        let s := if tunnelMine s x (i.bytes.drop 42) && !keyed then denied s else s
        let s := match r.1 with
          | some ok => gcmRequest s ok
          | none => s
        match r.2 with
        | none => s.count (F.EM_TUN_DROPS_COUNT x) 1
        | some (q, plain, seq) =>
          let s := s.setPort x { s.port x with tunLast := seq }
          (enqueue s q { Item.blank with bytes := plain, ts := stampNow s, src := 0x30 + (8 + rq % 4) } true).2

/-- TUNNEL_DECAP. -/
def execTunnelDecap (port : EthPort) (s : State) : Result :=
  .next (if s.engaged && !engineOut s (8 + s.fld (F.EM_TUN_QS_RX_Q port) % 4) then tunnelDecap s port else s)

/-! ### MDIO (R525) -/

/-- One MDIO frame is sent; VALID clears, and whether the frame reads is sampled (R48). -/
def mdioStart (s : State) (x : Nat) : State :=
  let s := s.setFld (F.EM_MDIO_DATA_VALID x) 0
  let op := s.fld (F.EM_MDIO_CMD_OP x)
  let s := s.setPort x { s.port x with mdioRead := if s.flag (F.EM_MDIO_CMD_CL45 x) then 2 ≤ op else op == 2 }
  s.send (.mdio x (s.flag (F.EM_MDIO_CMD_CL45 x)) (s.fld (F.EM_MDIO_CMD_OP x)) (s.fld (F.EM_MDIO_CMD_PHYAD x))
    (s.fld (F.EM_MDIO_CMD_REG x)) (s.fld (F.EM_MDIO_CMD_DATA x)))

/-- A write of the bits of `MDIO_CMD` (R48, R525). -/
def mdioWrite (s : State) (src : Requester) (x : Nat) (data mask : Word) : State :=
  let s := writeFields s src (A.EM_MDIO_CMD x) data (mask &&& 0x7FFFFFFF#32)
  if bit data.toNat 31 && bit mask.toNat 31 then
    if s.flag (F.EM_MDIO_CMD_GO x) then (startGo s (A.EM_MDIO_CMD x) 31).setFld (F.EM_MDIO_DATA_VALID x) 0
    else mdioStart (startGo s (A.EM_MDIO_CMD x) 31) x
  else s

/-- MDIO_GO (R525). -/
def execMdioGo (src : Requester) (port : EthPort) (data : Word) (s : State) : Result :=
  .next (gateWrite s src (A.EM_MDIO_CMD port) (fun s => mdioWrite s src port (data ||| 0x80000000#32) allBits))

/-- MDIO_DONE (R525): read data is shown after a read; a pending frame starts. -/
def execMdioDone (port : EthPort) (data : BitVec 16) (s : State) : Result :=
  .next (if s.operating && s.flag (F.EM_MDIO_CMD_GO port) then
    let s := if (s.port port).mdioRead then (s.setFld (F.EM_MDIO_DATA_DATA port) data.toNat).setFld (F.EM_MDIO_DATA_VALID port) 1 else s
    let s := setCause s (emPage port) 7
    let r := endGo s (A.EM_MDIO_CMD port) 31
    if r.2 then mdioStart r.1 port else r.1
  else s)

end Sys2Proof.Machine
end

