-- ==== Sys2Proof/Machine/Cox.lean ====
section
/-!
DEFINITION. Sys2Proof/Machine/Cox.lean: the accounts of the Cox unit: allowances, charges, throttling, overruns, floors
(20_cox_temporal_budgets.md).
-/
namespace Sys2Proof.Machine

/-- The balance of an account (R652). -/
def coxBalance (s : State) (a : Nat) : Int := Tbl.get (fun _ => 0) s.cox.balance a

/-- Use of an account in the present heat. -/
def coxUsed (s : State) (a : Nat) : Nat := Tbl.get (fun _ => 0) s.cox.used a

/-- A reserved account: BCNn or SLOTn (R655). -/
def coxReserved (a : Nat) : Bool := 24 ≤ a

/-- `BCN_CFGn` in force. -/
def bcnCfg (s : State) (n : Nat) : Word := Tbl.get (fun _ => 0x86000010#32) s.mac.bcn n

/-- Whether a new activity of an account may start (R653). -/
def coxMayStart (s : State) (a : Nat) : Bool := !s.flag F.COX_STATUS_ENFORCING || coxReserved a || 0 < coxBalance s a

/-- An overrun of an account, counted once in a heat (R654, R655). -/
def coxOverrun (s : State) (a : Nat) : State :=
  if s.cox.counted.contains a then s
  else
    let s := { s with cox := { s.cox with counted := s.cox.counted ++ [a] } }
    let s := s.count (F.COX_ACCT_OVR_COUNT a) 1
    let s := if !coxReserved a && s.flag F.COX_STATUS_ENFORCING
      then s.setReg A.COX_THROTTLED (s.reg A.COX_THROTTLED ||| BitVec.ofNat 32 (2 ^ a)) else s
    let s := if bit (s.reg A.COX_OVR_IRQ_EN).toNat a then setCause s 0x32 0 else s
    let s := if coxReserved a then setCause s 0x32 1 else s
    if Tbl.get (fun _ => 0) s.cox.toldAt a = s.now.sec + 1 then s
    else
      ({ s with cox := { s.cox with toldAt := Tbl.put (fun _ => 0) s.cox.toldAt a (s.now.sec + 1) } }).event 0x32 0 0x1400
        (if coxReserved a then 2 else 1)
        (leBytes 1 a ++ leBytes 1 0 ++ leBytes 4 (s.fld (F.COX_ACCT_OVR_COUNT a)) ++ leBytes 2 (s.fld (F.COX_ACCT_STAT_LAST_USE a)))

/-- `n` units charged to one account (R652, R653). -/
def coxDebit (s : State) (a n : Nat) : State :=
  { s with cox := { s.cox with balance := Tbl.put (fun _ => 0) s.cox.balance a (coxBalance s a - n),
                               used := Tbl.put (fun _ => 0) s.cox.used a (coxUsed s a + n) } }

/-- A charge (R652): an account without balance has an overrun; what a reserved account uses beyond its allowance is
charged to PE(2n+1) as well (R655). -/
def coxCharge (s : State) (a n : Nat) : State :=
  if !s.cox.running || n = 0 then s
  else
    let before := coxBalance s a
    let s := coxDebit s a n
    if coxReserved a then
      if coxBalance s a < 0 then
        let pe := 2 * ((a - 24) % 4) + 1
        let s := coxOverrun (coxDebit s pe (min (n : Int) (-(coxBalance s a))).toNat) a
        if coxBalance s pe ≤ 0 then coxOverrun s pe else s
      else s
    else if coxBalance s a ≤ 0 && (0 < before || !s.cox.counted.contains a) then coxOverrun s a else s

/-- The floor of a reserved account at a heat length (R656). -/
def coxFloor (s : State) (h a : Nat) : Nat :=
  let n := (a - 24) % 4
  let need :=
    if a < 28 then (if bit (bcnCfg s n).toNat 31 then 12000 else 0)
    else if s.flag (F.LRF_CTRL_ENABLE n) then (ceilDiv h 4000 + 1) * 8000 else 0
  ceilDiv (need * 1024) (800 * h)

/-- The floors computed, with the FLOORS event where one changes (R656, R657). -/
def coxFloors (s : State) (h : Nat) : State :=
  let as := (List.range 8).map (· + 24)
  let changed := as.any (fun a => s.fld (F.COX_ACCT_STAT_FLOOR a) != coxFloor s h a)
  let s := as.foldl (fun (t : State) a => t.setFld (F.COX_ACCT_STAT_FLOOR a) (coxFloor t h a)) s
  if changed then
    setCause (s.event 0x32 0 0x1401 0 (leBytes 2 h ++ as.flatMap (fun a => leBytes 1 (s.fld (F.COX_ACCT_STAT_FLOOR a))))) 0x32 2
  else s

/-- EFFECTIVE of an account (R649). -/
def coxEffective (s : State) (a : Nat) : Nat :=
  let budget := s.fld (F.COX_ACCT_CFG_BUDGET a)
  let reserved (a : Nat) := max (s.fld (F.COX_ACCT_CFG_BUDGET a)) (s.fld (F.COX_ACCT_STAT_FLOOR a))
  if coxReserved a then reserved a
  else if a < 8 && a % 2 = 1 then min budget (1024 - reserved (24 + a / 2) - reserved (28 + a / 2))
  else budget

/-- The capacity of an account's resource in the present heat (R650). -/
def coxCapacity (s : State) (a : Nat) : Nat := if a = 19 then s.cox.laneTime else s.cox.capacity

/-- One account at a heat start: its use of the last heat, its new balance, its throttling (R649–R654). -/
def coxRenew (s : State) (a cap : Nat) : State :=
  let old := coxCapacity s a
  let lastUse := if old = 0 then 0 else min 65535 (coxUsed s a * 1024 / old)
  let s := s.setFld (F.COX_ACCT_STAT_LAST_USE a) lastUse
  let s := s.setFld (F.COX_ACCT_CFG_EFFECTIVE a) (coxEffective s a)
  let bal := min (coxBalance s a) 0 + ((s.fld (F.COX_ACCT_CFG_EFFECTIVE a) * cap / 1024 : Nat) : Int)
  let s := { s with cox := { s.cox with balance := Tbl.put (fun _ => 0) s.cox.balance a bal,
                                        used := Tbl.put (fun _ => 0) s.cox.used a 0 } }
  if 0 < bal then s.setReg A.COX_THROTTLED (s.reg A.COX_THROTTLED &&& ~~~(BitVec.ofNat 32 (2 ^ a)))
  else if coxReserved a then s else coxOverrun s a

/-- The scrubber's target position at a heat start (R598): R / H more, R the codewords left in the pass and H the heats left in the
period, this one included. The first heat with SCRUB_EN = 1 begins the first pass. -/
def scrubTarget (s : State) : State :=
  if !s.flag F.MEM_CTRL_SCRUB_EN || !s.boot.dramReady then s
  else
    let s := if s.flag F.MEM_STATUS_SCRUB_RUN then s
      else { s.setFld F.MEM_STATUS_SCRUB_RUN 1 with mem := { s.mem with passAt := s.dev.upCycles } }
    let ends := s.mem.passAt + s.fld F.MEM_SCRUB_CFG_PERIOD_H * 3600 * 250000000
    let heats := max 1 (ceilDiv (ends - s.dev.upCycles) (max 1 (s.fld F.COX_HEAT_CFG_HEAT_US) * 250))
    { s with mem := { s.mem with
      target := min (8388608 * 65536) (s.mem.target + (8388608 - s.fld F.MEM_SCRUB_POS_CODEWORD) * 65536 / heats) } }

/-- A heat boundary (R646, R647, R652). `clk` is the CLK_CORE plan in force in MHz, before spreading: allowances are counts of cycles, which
spreading leaves as they are (R701). -/
def heatStart (s : State) : State :=
  let s := if s.boot.fwDone then { s with cox := { s.cox with running := true } } else s
  if !s.cox.running then s
  else
    let h := s.fld F.COX_HEAT_CFG_HEAT_US
    let s := s.setFld F.COX_STATUS_HEAT_US h
    let ready := s.inOperation || (s.booting && s.boot.keysLoaded && (List.range 4).all (fun n => s.fld (F.LRF_STATUS_STATE n) != 5))
    let s := { s with cox := { s.cox with floored := s.cox.floored || ready, counted := [] } }
    let s := s.setFld F.COX_STATUS_ENFORCING (b01 (s.cox.floored && s.flag F.COX_CTRL_ENFORCE))
    let s := if s.cox.floored then coxFloors s h else s
    let s := if s.flag F.COX_STATUS_ENFORCING then s else s.setReg A.COX_THROTTLED 0#32
    let cap := s.fld F.MGM_PLAN_V_CLK_MHZ * h
    let s := (List.range 32).foldl (fun (t : State) a => coxRenew t a (if a = 19 then 4 * h else cap)) s
    scrubTarget { s with cox := { s.cox with capacity := cap, laneTime := 4 * h } }

/-- HEAT_START (R652). The charges are the use that engines and the fabric have made since the last boundary. -/
def execHeatStart (charges : List (Fin 32 × Nat)) (s : State) : Result :=
  .next (if s.booting || s.inOperation
    then heatStart (charges.foldl (fun (t : State) c => coxCharge t c.1 c.2) s) else s)

/-- A write of `ACCTa_CFG` is refused where R651 says so. -/
def budgetRefused (s : State) (a v : Nat) : Bool :=
  let fabric := [16, 17, 18, 20, 21, 22, 23]
  1024 < v || (a < 16 && v < 128) || (coxReserved a && v < s.fld (F.COX_ACCT_STAT_FLOOR a))
    || (fabric.contains a
        && s.fld F.COX_FAB_CFG_FAB_MAX < (fabric.map (fun x => if x = a then v else s.fld (F.COX_ACCT_CFG_BUDGET x))).foldl (· + ·) 0)

/-- A write of the bits `mask` of `ACCTa_CFG` (R651). -/
def budgetWrite (s : State) (src : Requester) (a : Nat) (data mask : Word) : State :=
  let addr := A.COX_ACCT_CFG a
  let v := bitsOf ((s.reg addr &&& ~~~mask) ||| (data &&& mask)).toNat 0 11
  if mask &&& 0x7FF#32 = 0#32 then s
  else if s.flag F.COX_LOCK_LOCK1 then recordErr s 0x32 0x01 src.code addr
  else if budgetRefused s a v then recordErr s 0x32 0x05 src.code addr
  else s.setFld (F.COX_ACCT_CFG_BUDGET a) v

/-- A write of the bits `mask` of `FAB_CFG` (R651). -/
def fabMaxWrite (s : State) (src : Requester) (data mask : Word) : State :=
  let v := bitsOf ((s.reg A.COX_FAB_CFG &&& ~~~mask) ||| (data &&& mask)).toNat 0 11
  let sum := ([16, 17, 18, 20, 21, 22, 23].map (fun x => s.fld (F.COX_ACCT_CFG_BUDGET x))).foldl (· + ·) 0
  if !s.flag F.COX_LOCK_LOCK0 && mask &&& 0x7FF#32 != 0#32 && v < sum then recordErr s 0x32 0x05 src.code A.COX_FAB_CFG
  else writeFields s src A.COX_FAB_CFG data mask

/-- The computed bits of `ACCTa_STAT`: THROTTLED and DEFICIT. -/
def acctStatWord (s : State) (a : Nat) : Word :=
  insBits (insBits (s.reg (A.COX_ACCT_STAT a)) 31 1 (b01 (bit (s.reg A.COX_THROTTLED).toNat a)))
    30 1 (b01 (coxBalance s a < 0))

/-- `OVR_NONZERO`. -/
def ovrNonzeroWord (s : State) : Word :=
  (List.range 32).foldl (fun w a => if s.fld (F.COX_ACCT_OVR_COUNT a) = 0 then w else w ||| BitVec.ofNat 32 (2 ^ a)) 0#32

end Sys2Proof.Machine
end

