-- ==== Sys2Proof/Machine/LaneOps.lean ====
section
/-!
DEFINITION. Sys2Proof/Machine/LaneOps.lean: the shared operations of a radio lane: the calibration store, tuning, the states
of R187, the front-end pins, and the release of receptions (06_radio_lanes.md).
-/
namespace Sys2Proof.Machine

/-- Lane `n`. -/
def State.lane (s : State) (n : Nat) : LaneSt := Tbl.get (fun _ => LaneSt.init) s.lanes n

/-- Storing lane `n`. -/
def State.setLane (s : State) (n : Nat) (l : LaneSt) : State := { s with lanes := Tbl.put (fun _ => LaneSt.init) s.lanes n l }

/-- Lane state of R186: 0 OFF, 1 STANDBY, 2 SYNTH_LOCK, 3 RX, 4 TX, 5 CAL, 6 BLANKED. -/
def laneState (s : State) (n : Nat) : Nat := s.fld (F.LRF_STATUS_STATE n)

/-- RF_BLANK[n] is active. -/
def blankIn (s : State) (n : Nat) : Bool := s.flag (F.LRF_STATUS_BLANK_IN n)

/-- The synthesiser is locked on the lane's channel. -/
def laneLocked (s : State) (n : Nat) : Bool := s.flag (F.LRF_STATUS_LOCKED n)

/-- The lane's current or last channel. -/
def laneChannel (s : State) (n : Nat) : Nat := s.fld (F.LRF_STATUS_CHANNEL n)

/-- Lanes 1–3 have no power in REDUCED and HOLD-UP, no lane has once WATCH_ENTER has been taken (R187, R688, R691). -/
def lanePowered (s : State) (n : Nat) : Bool :=
  (n = 0 || s.fld F.SYS_STATUS_PWR_MODE = 0) && !s.pow.entry.any (fun e => e.commanded)

/-! ### The analog set (R191, R210, R213, R224) -/

/-- The factory content of the analog set (R210, R213, R225). -/
def analogDefault (w : Nat) : Word :=
  if 0x400 ≤ w && w < 0x480 && w % 2 = 0 then
    let i := (w - 0x400) / 2
    BitVec.ofNat 32 ((if 40 ≤ i then 2 ^ 31 else 0) + (Config.factoryGain i).toNat * 2 ^ 16)
  else if 0x480 ≤ w && w < 0x500 && w % 2 = 0 then BitVec.ofNat 32 ((Config.factoryDrive ((w - 0x480) / 2)).toNat * 2 ^ 8)
  else 0#32

/-- A word of a lane's analog set. -/
def analog (s : State) (n w : Nat) : Word := Tbl.get analogDefault (s.lane n).store w

/-- Storing a word of a lane's analog set. -/
def setAnalog (s : State) (n w : Nat) (v : Word) : State :=
  s.setLane n { s.lane n with store := Tbl.put analogDefault (s.lane n).store w v }

/-- Fields of a store entry (R191). -/
def chDefined (s : State) (n c : Nat) : Bool := bit (analog s n (4 * c)).toNat 31
def chBw (s : State) (n c : Nat) : Nat := bitsOf (analog s n (4 * c)).toNat 28 3
def chFreq (s : State) (n c : Nat) : Nat := bitsOf (analog s n (4 * c)).toNat 0 24
def chValid (s : State) (n c : Nat) : Bool := bit (analog s n (4 * c + 1)).toNat 31
def chFail (s : State) (n c : Nat) : Bool := bit (analog s n (4 * c + 1)).toNat 30
def chTCal (s : State) (n c : Nat) : Int := signed 8 (bitsOf (analog s n (4 * c + 3)).toNat 24 8)
def chCalTime (s : State) (n c : Nat) : Nat := bitsOf (analog s n (4 * c + 3)).toNat 0 24

/-- The lane temperature. -/
def laneTemp (s : State) (n : Nat) : Int := signed 8 (s.fld (F.LRF_STATUS_TEMP n))

/-- Bandwidth of a code of R184 in Hz. -/
def bwHz (code : Nat) : Nat := 500000 * 2 ^ code

/-- A channel definition with its frequency and its edges in range and a valid bandwidth code (R183, R184). -/
def definitionOk (freq code : Nat) : Bool :=
  code ≤ 4 && 0x640000 ≤ freq && freq ≤ 0xFF0000
    && 400000000 * 16384 + bwHz code * 8192 ≤ freq * 1000000
    && freq * 1000000 + bwHz code * 8192 ≤ 1020000000 * 16384

/-- A usable entry (R193). -/
def usable (s : State) (n c : Nat) : Bool :=
  chDefined s n c && chValid s n c && !chFail s n c
    && (laneTemp s n - chTCal s n c).natAbs ≤ s.fld (F.LRF_CAL_CFG_T_WINDOW n)

/-- Words 1 to 3 of an entry written together after a successful calibration (R192). -/
def storeResult (s : State) (n c : Nat) (r : CalResult) : State :=
  let s := setAnalog s n (4 * c + 1)
    (BitVec.ofNat 32 (2 ^ 31 + r.vcoBand.toNat * 2 ^ 24 + r.capTrim.toNat * 2 ^ 16 + r.cpCurrent.toNat * 2 ^ 8 + r.loopFilter.toNat))
  let s := setAnalog s n (4 * c + 2)
    (BitVec.ofNat 32 (r.fracCorr.toNat * 2 ^ 16 + r.iqPhase.toNat * 2 ^ 8 + r.iqGain.toNat))
  setAnalog s n (4 * c + 3) (BitVec.ofNat 32 (s.fld (F.LRF_STATUS_TEMP n) * 2 ^ 24 + s.now.sec % 2 ^ 24))

/-- A failed calibration of an entry: FAIL set, the CAL_FAIL cause and the CHAN_CAL_FAIL event (R192, R195, R226). -/
def calFails (s : State) (n c cause : Nat) : State :=
  let s := setAnalog s n (4 * c + 1) (analog s n (4 * c + 1) ||| 0x40000000#32)
  setCause (s.event (0x10 + n) 0 0x0601 2
    (leBytes 1 c ++ leBytes 1 cause ++ leBytes 1 (s.fld (F.LRF_STATUS_TEMP n)))) (0x10 + n) 1

/-! ### The device's role and its superframes (R318, R319, R627) -/

/-- The role: 0 NONE, 1 STROKE, 2 BOW, 3 TAKING (R624). -/
def role (s : State) : Nat := s.fld F.RED_STATUS_ROLE

/-- The chip may transmit as far as its role goes (R624): stroke, or alone. -/
def roleTransmits (s : State) : Bool := role s == 1 || (role s == 0 && !s.red.en)

/-- The start of a superframe in Datum ns (R318). A change of offset lengthens or shortens the superframe that begins with it (R319). -/
def superStart (s : State) (sfn : Nat) : Nat :=
  match s.mac.trans with
  | some (k, start, old) =>
    if sfn = k then start else sfn * 8192000000 + (if sfn < k then old else s.mac.offset) * 1000000
  | none => sfn * 8192000000 + s.mac.offset * 1000000

/-- The superframe that contains an instant (R318, R319). -/
def sfnAt (s : State) (ns : Nat) : Nat :=
  let at_ (offset : Nat) : Nat := (ns - offset * 1000000) / 8192000000
  match s.mac.trans with
  | some (k, start, old) => if ns < start then at_ old else max k (at_ s.mac.offset)
  | none => at_ s.mac.offset

/-- An instant lies before superframe 0, in superframe −1, whose tick 0 lies before Datum time 0: that superframe never starts (R318). -/
def beforeZero (s : State) (ns : Nat) : Bool := ns < superStart s 0

/-- The present superframe number, 0 in superframe −1. -/
def sfnNow (s : State) : Nat := sfnAt s s.nowNs

/-- The tick of the present superframe; it stays at 8,191 in the rest of a lengthened one (R318, R319). -/
def tickNow (s : State) : Nat :=
  if beforeZero s s.nowNs then (s.nowNs + 8192000000 - superStart s 0) / 1000000
  else min 8191 ((s.nowNs - superStart s (sfnNow s)) / 1000000)

/-- The start of the next superframe in Datum ns. -/
def nextStart (s : State) : Nat := superStart s (if beforeZero s s.nowNs then 0 else sfnNow s + 1)

/-! ### Transmissions a lane knows -/

/-- T_TA in ns for a FEM_TIMING word (R216). -/
def turnaroundNs (timing : Word) : Nat :=
  3000 + 250 * (bitsOf timing.toNat 0 5 + bitsOf timing.toNat 8 5 + bitsOf timing.toNat 16 5)

/-- T_TA of lane `n` with the timing now in its registers. -/
def laneTa (s : State) (n : Nat) : Nat := turnaroundNs (s.reg (A.LRF_FEM_TIMING n))

/-- The transmission the lane holds and has not begun (R208). -/
def heldTx (s : State) (n : Nat) : Option Tx := (s.lane n).txs.find? (fun t => t.stage == 2 || t.stage == 3)

/-- The transmission on air. -/
def onAir (s : State) (n : Nat) : Option Tx := (s.lane n).txs.find? (fun t => t.stage == 4)

/-- The first transmission of stage `k` changed by `f`. -/
def editTx (k : Nat → Bool) (f : Tx → Tx) : List Tx → List Tx
  | [] => []
  | t :: ts => if k t.stage then f t :: ts else t :: editTx k f ts

/-- The list without its first transmission of a stage. -/
def dropTx (k : Nat → Bool) : List Tx → List Tx
  | [] => []
  | t :: ts => if k t.stage then ts else t :: dropTx k ts

/-- Storing the transmissions of lane `n`. -/
def setTxs (s : State) (n : Nat) (ts : List Tx) : State := s.setLane n { s.lane n with txs := ts }

/-- A profile with listen-before-talk is in force (R384). -/
def lbtOn (s : State) : Bool := s.rgl.cur.code == 6

/-! ### Front-end pins (R215) -/

/-- The pins of a lane in a state, for a FEM_CFG and a FEM_BIAS word; `drive` is the transmit entry's bias code. -/
def pinsFor (live : Bool) (state : Nat) (byp : Bool) (drive : Nat) (cfg bias : Word) : FemPins :=
  let c := cfg.toNat
  let rx := live && (state == 3 || state == 6)
  let tx := live && state == 4
  { paen := tx == bit c 0, trsw := tx == bit c 1, lnaen := (live && state == 3) == bit c 2,
    byp := (rx && byp && bit c 8) == bit c 3,
    bias := if tx then drive else if rx then bitsOf bias.toNat 8 8 else bitsOf bias.toNat 0 8,
    txAct := tx == bit c 4 }

/-- The pins of lane `n` set for its present state (R215). In TX the words sampled at the turnaround apply (R218). -/
def setPins (s : State) (n : Nat) : State :=
  let l := s.lane n
  let st := laneState s n
  let live := s.operating
  let byp := bit (analog s n (0x400 + 2 * s.fld (F.LRF_STATUS_GAIN n))).toNat 31
  let drive := match l.txs.find? (fun t => t.stage == 4) with
    | some t => bitsOf (analog s n (0x480 + 2 * t.gain)).toNat 8 8
    | none => 0
  let cfg := if st = 4 then l.femCfg else s.reg (A.LRF_FEM_CFG n)
  let bias := if st = 4 then l.femBias else s.reg (A.LRF_FEM_BIAS n)
  s.setLane n { l with pins := pinsFor live st byp drive cfg bias }

/-- A LANE_CAL whose lane is not BLANKED has not been BLANKED without interruption (R206). -/
def unblankJob (s : State) (n : Nat) : State :=
  s.setLane n { s.lane n with job := (s.lane n).job.map (fun j => { j with blanked := false }) }

/-- A receive gap noted: those of the last 200 ms are kept (R248). -/
def noteGap (s : State) (n since : Nat) (blank : Bool) : State :=
  let l := s.lane n
  s.setLane n { l with
    gaps := l.gaps.filter (fun g => s.dev.upCycles < g.until_ + 50000000) ++ [{ since := since, until_ := s.dev.upCycles, blank := blank }] }

/-- In RX and BLANKED the detector bank runs, if it is enabled (R246). -/
def bankState (st : Nat) : Bool := st == 3 || st == 6

/-- The bank of lane `n` halts: the cycles it has run are kept (R267). -/
def bankHalts (s : State) (n : Nat) : State :=
  let l := s.lane n
  s.setLane n { l with heard := l.heard + (s.dev.upCycles - l.bankOn), bankOn := s.dev.upCycles }

/-- The detector bank on entering a state (R246, R248): its runs go on across a slice or a step and begin anew after any other state in which
it is halted. -/
def bankEnters (s : State) (n st : Nat) : State :=
  let was := bankState (laneState s n)
  let s := if was && !bankState st && s.flag (F.LBB_CTRL_RX_EN n) then bankHalts s n else s
  let l := s.lane n
  if !bankState st then s.setLane n { l with gapAt := none }
  else if was then s
  else
    let l := { l with bankOn := s.dev.upCycles }
    match l.gapAt with
    | some since => noteGap (s.setLane n { l with gapAt := none }) n since false
    | none => s.setLane n { l with bankAt := s.dev.upCycles }

/-- The lane enters a state, with the synthesiser locked on its channel or not. -/
def enterState (s : State) (n st : Nat) (locked : Bool) : State :=
  let s := bankEnters (if st = 6 then s else unblankJob s n) n st
  setPins ((s.setFld (F.LRF_STATUS_STATE n) st).setFld (F.LRF_STATUS_LOCKED n) (b01 locked)) n

/-- What the lane's synthesiser work is. -/
def setWork (s : State) (n : Nat) (w : Work) : State := s.setLane n { s.lane n with work := w }

/-! ### Receptions released -/

/-- An OFDM reception ends in PREEMPT (R294). -/
def ofdmPreempt (s : State) (n : Nat) : State :=
  match (s.lane n).ofdm with
  | none => s
  | some _ => setCause ((s.setLane n { s.lane n with ofdm := none }).count (F.LOF_PREEMPT_COUNT n) 1) (0x18 + n) 0

/-- Every assigned context and every queued detection of the lane is released with CTX_PREEMPT (R255). -/
def ctxPreempt (s : State) (n : Nat) : State :=
  let l := s.lane n
  let k := l.ctxs.length + l.queue.length
  let s := ofdmPreempt s n
  if k = 0 then s
  else setCause ((s.setLane n { s.lane n with ctxs := [], queue := [] }).count (F.LBB_CTX_PREEMPT_COUNT n) k) (0x14 + n) 3

/-! ### LANE_CAL (R144, R205, R206) -/

/-- `CAL_PROGRESS` follows the job. -/
def showJob (s : State) (n : Nat) : State :=
  match (s.lane n).job with
  | none => s.setReg (A.LRF_CAL_PROGRESS n) 0#32
  | some j => s.setReg (A.LRF_CAL_PROGRESS n) (BitVec.ofNat 32 (2 ^ 31 + j.next % 256 * 2 ^ 16 + j.remaining))

/-- RESULT of a LANE_CAL (R144). -/
def jobResult (j : CalJob) : List Byte :=
  leBytes 2 j.done ++ leBytes 2 j.failed ++ leBytes 2 (j.firstFailed.getD 0xFFFF)

/-- A LANE_CAL ends with a status. -/
def endJob' (s : State) (n status : Nat) : State :=
  match (s.lane n).job with
  | none => s
  | some j => showJob (finish (s.setLane n { s.lane n with job := none }) j.id status (jobResult j)) n

/-- One channel of a LANE_CAL is done; after the last one the command completes OK. -/
def jobStep (s : State) (n : Nat) (ok : Bool) : State :=
  match (s.lane n).job with
  | none => s
  | some j =>
    let j := { j with
      next := j.next + 1, remaining := j.remaining - 1, done := j.done + b01 ok, failed := j.failed + b01 (!ok),
      firstFailed := if ok || j.firstFailed.isSome then j.firstFailed else some j.next }
    let s := s.setLane n { s.lane n with job := some j }
    if j.remaining = 0 then endJob' s n 0x00 else showJob s n

/-! ### Tuning and the lane's next state (R187, R190, R193, R208) -/

/-- The synthesiser is set to a channel. -/
def setChannel (s : State) (n c : Nat) : State :=
  let s := s.setFld (F.LRF_STATUS_CHANNEL n) c
  let s := s.setFld (F.LRF_SYNTH_FREQ n) (chFreq s n c)
  s.setFld (F.LRF_SYNTH_BW n) (chBw s n c)

/-- The lane has nothing in progress, and no calibration waits for the end of a blank. -/
def atRest (s : State) (n : Nat) : State := s.setLane n { s.lane n with work := .none, waitCal := none }

/-- The lane goes to RX, or to BLANKED while RF_BLANK[n] is active. -/
def enterRx (s : State) (n : Nat) : State := enterState (atRest s n) n (if blankIn s n then 6 else 3) true

/-- A tune to a channel (R193): a hop from a usable entry, else a cold calibration, which waits for the end of a blank
(R223). A cold calibration that waits because of a lock failure stays one (R194, R226). -/
def hopTo (s : State) (n c : Nat) (failed : Bool) : State :=
  let afterFail := failed || (s.lane n).waitCal == some (c, true)
  if usable s n c && !afterFail then
    let s := ctxPreempt (s.setLane n { s.lane n with waitCal := none }) n
    enterState (setChannel (setWork s n (.hop c)) n c) n 2 false
  else if blankIn s n then
    let s := setWork (s.setLane n { s.lane n with waitCal := some (c, afterFail) }) n .none
    if laneLocked s n && (s.lane n).rxWant.isSome then enterState s n 6 true else enterState s n 1 false
  else
    let s := ctxPreempt (s.setLane n { s.lane n with waitCal := none }) n
    enterState (setChannel (setWork s n (.cold c afterFail)) n c) n 5 false

/-- The lane goes to OFF (R187, R206, R255). -/
def toOff (s : State) (n : Nat) : State :=
  let s := ctxPreempt s n
  let s := endJob' s n 0x50
  let l := s.lane n
  let s := s.setLane n { l with work := .none, offDue := false, waitCal := none, back := false, gapCal := [], rxWant := none }
  enterState (s.setReg (A.LRF_SYNTH n) 0#32) n 0 false

/-- Receive is requested on the lane's present channel, by the MAC or for a listen-before-talk sense. -/
def rxHere (s : State) (n : Nat) : Bool :=
  (s.lane n).rxWant == some (laneChannel s n)
    || (lbtOn s && (match heldTx s n with
                    | some t => t.channel == laneChannel s n
                    | none => false))

/-- Where a lane goes that has nothing in progress: to the channel of the transmission it holds, where it waits for the turnaround
in the state in which it locked, to the channel on which receive is requested, or to STANDBY. -/
def laneNext (s : State) (n : Nat) : State :=
  let l := s.lane n
  let here := laneLocked s n
  if l.offDue then toOff s n
  else match heldTx s n, l.rxWant with
    | some t, _ =>
      if here && t.channel = laneChannel s n then
        if rxHere s n then enterRx s n else enterState (atRest s n) n (if laneState s n = 5 then 5 else 2) true
      else hopTo s n t.channel false
    | none, some c =>
      if here && c = laneChannel s n then enterRx s n
      else if chDefined s n c then hopTo s n c false
      else enterState (atRest s n) n 1 false
    | none, none => enterState (atRest s n) n 1 false

/-- What the lane needs before START − T_TA to be on channel `c`, in ns: nothing where it is locked there, else a hop (R187). -/
def hopLead (s : State) (n c : Nat) : Nat := if laneLocked s n && laneChannel s n = c then 0 else 18000

/-- The next beacon of the lane (R324) has its turnaround, or its hop in tick 8,191 (R326), due within `ns` nanoseconds. -/
def beaconDue (s : State) (n ns : Nat) : Bool :=
  let c := bitsOf (bcnCfg s n).toNat 8 8
  let lead := if hopLead s n c = 0 then laneTa s n else 1000000
  bit (bcnCfg s n).toNat 31 && s.ready && roleTransmits s && s.rgl.cur.code != 0
    && nextStart s < s.nowNs + ns + lead

/-- The conditions of R202 for a gap of `ns` nanoseconds: receive or standby, nothing being received, no turnaround and no hop for
a transmission due, no blank. -/
def gapOpen (s : State) (n ns : Nat) : Bool :=
  let l := s.lane n
  let due := l.txs.any (fun t => 1 ≤ t.stage && t.stage ≤ 4 && t.start < s.nowNs + ns + laneTa s n + hopLead s n t.channel)
  (laneState s n == 3 || laneState s n == 1) && l.work == .none && l.ctxs.isEmpty && l.ofdm.isNone && !due && !beaconDue s n ns
    && !blankIn s n

/-- The detector's runs go on across it (R248): a slice or a step, not the calibration that a transmission needs. -/
def Work.bridged : Work → Bool
  | .slice _ => true
  | .step _ => true
  | _ => false

/-- A calibration in a gap begins: what the lane receives is released (R255). -/
def beginGap (s : State) (n : Nat) (w : Work) : State :=
  let rx := laneState s n == 3
  let s := enterState (setWork (ctxPreempt s n) n w) n 5 false
  s.setLane n { s.lane n with back := rx, gapAt := if rx && w.bridged then some s.dev.upCycles else none }

/-- The channels that still need the calibration a scheduled transmission asked for. -/
def gapNeeds (s : State) (n : Nat) : List Nat := (s.lane n).gapCal.filter (fun c => chDefined s n c && !usable s n c)

/-- A calibration that a scheduled transmission needs begins in the first gap (R207). -/
def tryGap (s : State) (n : Nat) : State :=
  match gapNeeds s n with
  | [] => if (s.lane n).gapCal.isEmpty then s else s.setLane n { s.lane n with gapCal := [] }
  | c :: cs =>
    if gapOpen s n 176000 then beginGap (s.setLane n { s.lane n with gapCal := cs }) n (.gap c)
    else s.setLane n { s.lane n with gapCal := c :: cs }

/-- The lane settles: its next state, and a calibration that waits for a gap. -/
def settle (s : State) (n : Nat) : State := tryGap (laneNext s n) n

/-- A slice, a step or a calibration in a gap has ended or been aborted: the lane is back on its previous channel, in STANDBY where it was
on none (R187, R190). -/
def backFromGap (s : State) (n : Nat) : State :=
  let s := setWork s n .none
  settle (s.setFld (F.LRF_STATUS_LOCKED n) (b01 (s.lane n).back)) n

/-- A calibration in progress is aborted; what it calibrates stays unchanged (R192, R203, R223). -/
def abortCal (s : State) (n : Nat) : State :=
  match (s.lane n).work with
  | .slice _ => (setWork s n .none).count (F.LRF_BG_ABORTS_COUNT n) 1
  | .step _ => (setWork s n .none).count (F.LRF_BG_ABORTS_COUNT n) 1
  | .gap c => s.setLane n { s.lane n with work := .none, gapCal := c :: (s.lane n).gapCal }
  | .cold c f => s.setLane n { s.lane n with work := .none, waitCal := some (c, f) }
  | _ => s

/-- Receive requested on a channel (R193, R335): an undefined channel is refused; during a transmission, a calibration or
a hop the lane tunes when that has ended (R190). -/
def receiveOn (s : State) (n c : Nat) : State :=
  if !chDefined s n c then s
  else
    let s := s.setLane n { s.lane n with rxWant := some c }
    let st := laneState s n
    if (heldTx s n).isSome then s
    else if st = 1 then settle s n
    else if (st = 3 || st = 6) && (c != laneChannel s n || (s.lane n).waitCal.isSome) then settle s n
    else s

/-- The channel the MAC receives on: that of the occurrence in progress, else the beacon channel (R335). -/
def macChannel (s : State) (n : Nat) : Nat :=
  match (s.lane n).occ with
  | some o => bitsOf o.w0 12 8
  | none => bitsOf (bcnCfg s n).toNat 8 8

/-- The lane listens where the MAC wants it, in READY and MAINTENANCE (R28, R335). -/
def listen (s : State) (n : Nat) : State := if s.operating then receiveOn s n (macChannel s n) else s

/-! ### Bringing lanes up and down (R187, R197–R199) -/

/-- Start-up calibration begins (R187, R197). -/
def beginStartup (s : State) (n : Nat) : State :=
  let l := s.lane n
  enterState (s.setLane n { l with work := .startup 1, calFailed := 0, calUs := 0, calNext := 0, offDue := false }) n 5 false

/-- A lane that may leave OFF: enabled and powered, in BOOT from the calibration step on, after the SELET image (R225), in READY
or MAINTENANCE. -/
def mayRun (s : State) (n : Nat) : Bool :=
  s.flag (F.LRF_CTRL_ENABLE n) && lanePowered s n && (s.operating || (s.booting && s.boot.keysLoaded && s.boot.seletDone))

/-- A lane in OFF that may run and has neither completed start-up calibration nor failed it begins it, but not during a blank (R198,
R223). -/
def laneOn (s : State) (n : Nat) : State :=
  if laneState s n = 0 && mayRun s n && !s.flag (F.LRF_STATUS_STARTUP_DONE n) && !(s.lane n).calDead && !blankIn s n then beginStartup s n
  else s

/-- The lane is turned off: after a transmission in progress, else at once (R187, R188, R199, R203). -/
def laneOff (s : State) (n : Nat) : State :=
  if laneState s n = 0 then s
  else if laneState s n = 4 then s.setLane n { s.lane n with offDue := true }
  else toOff (abortCal s n) n

/-- The receive gain entry under AGC_MODE (R211): FIXED takes GAIN_FIX, the other modes keep the present one. -/
def setGain (s : State) (n g : Nat) : State := setPins (s.setFld (F.LRF_STATUS_GAIN n) g) n

/-- A write of the bits `mask` of `LRFn.CTRL`. -/
def laneCtrlWrite (s : State) (src : Requester) (n : Nat) (data mask : Word) : State :=
  let was := s.flag (F.LRF_CTRL_ENABLE n)
  let s := writeFields s src (A.LRF_CTRL n) data mask
  let s := if s.fld (F.LRF_CTRL_AGC_MODE n) = 1 then setGain s n (s.fld (F.LRF_CTRL_GAIN_FIX n)) else s
  match was, s.flag (F.LRF_CTRL_ENABLE n) with
  | true, false => laneOff s n
  | false, true => laneOn (s.setLane n { s.lane n with calDead := false }) n
  | _, _ => s

/-! ### Blanking (R220–R223) -/

/-- RF_BLANK[n] becomes active. -/
def blankAssert (s : State) (n : Nat) : State :=
  if blankIn s n then s
  else
    let s := s.setFld (F.LRF_STATUS_BLANK_IN n) 1
    let s := s.count (F.LRF_BLANK_COUNT_COUNT n) 1
    let l := s.lane n
    let s := s.setLane n { l with
      blankAt := s.dev.upCycles,
      queue := l.queue.map (fun d => { d with blanked := true }),
      ctxs := l.ctxs.map (fun e => (e.1, { e.2 with blanked := true })),
      ofdm := l.ofdm.map (fun o => { o with info := { o.info with blanked := true }, blanked := true }) }
    let s := match laneState s n, l.work with
      | 3, _ => enterState s n 6 true
      | 5, .startup _ => s
      | 5, .none => s
      | 5, .cold _ _ => enterState (abortCal s n) n 1 false
      | 5, _ => backFromGap (abortCal s n) n
      | _, _ => s
    setCause s (0x10 + n) 5

/-- RF_BLANK[n] becomes inactive. -/
def blankRelease (s : State) (n : Nat) : State :=
  if !blankIn s n then s
  else
    let l := s.lane n
    let s := s.setFld (F.LRF_STATUS_BLANK_IN n) 0
    let s := s.count (F.LRF_BLANK_TIME_US_COUNT n) ((s.dev.upCycles - l.blankAt) * 4 / 1000)
    let s := if laneState s n = 6 then enterState (noteGap s n l.blankAt true) n 3 true else laneOn s n
    match l.waitCal with
    | some (c, f) =>
      let wanted := match heldTx s n with
        | some t => t.channel == c
        | none => l.rxWant == some c
      if !(laneState s n = 1 || laneState s n = 3) then s
      else if wanted then hopTo s n c f
      else settle s n
    | none => tryGap s n

/-- A write of the bits `mask` of `BLANK_CFG`: a change of POL changes whether the input is active. -/
def blankCfgWrite (s : State) (src : Requester) (n : Nat) (data mask : Word) : State :=
  let was := s.flag (F.LRF_BLANK_CFG_POL n)
  let s := writeFields s src (A.LRF_BLANK_CFG n) data mask
  if s.flag (F.LRF_BLANK_CFG_POL n) == was then s
  else if blankIn s n then blankRelease s n else blankAssert s n

/-- `BLANK_TIME_US` as it reads: the present blank included. -/
def blankTimeWord (s : State) (n : Nat) : Word :=
  BitVec.ofNat 32 (satAdd 32 (s.fld (F.LRF_BLANK_TIME_US_COUNT n))
    (if blankIn s n then (s.dev.upCycles - (s.lane n).blankAt) * 4 / 1000 else 0))

/-! ### Anchors (R200–R204) -/

/-- Channel of anchor `k`. -/
def anchorCh (s : State) (n k : Nat) : Nat := bitsOf (s.reg (A.LRF_ANCHOR n)).toNat (8 * k) 8

/-- Age of an entry (R201). -/
def chAge (s : State) (n c : Nat) : Nat := (s.now.sec % 2 ^ 24 + 2 ^ 24 - chCalTime s n c) % 2 ^ 24

/-- An anchor's channel is due (R201). -/
def anchorDue (s : State) (n c : Nat) : Bool :=
  chDefined s n c
    && (s.fld (F.LRF_CAL_CFG_BG_INTERVAL_S n) ≤ chAge s n c
        || s.fld (F.LRF_CAL_CFG_T_WINDOW n) < 2 * (laneTemp s n - chTCal s n c).natAbs)

/-- Bits of `ANCHOR_STATUS` as kept: bit 8k + 4 DUE, bit 8k + 6 OVERDUE. -/
def anchorBit (s : State) (n k b : Nat) : Bool := bit (s.reg (A.LRF_ANCHOR_STATUS n)).toNat (8 * k + b)

/-- Storing one kept bit of `ANCHOR_STATUS`. -/
def setAnchorBit (s : State) (n k b : Nat) (v : Bool) : State :=
  s.setReg (A.LRF_ANCHOR_STATUS n) (insBits (s.reg (A.LRF_ANCHOR_STATUS n)) (8 * k + b) 1 (b01 v))

/-- The anchors that name a channel (R201: two that name the same channel are one). -/
def anchorsOf (s : State) (n c : Nat) : List Nat := (List.range 4).filter (fun k => anchorCh s n k == c)

/-- The anchors that name a channel are no longer due. -/
def clearAnchors (s : State) (n c : Nat) : State :=
  (anchorsOf s n c).foldl (fun (t : State) k => setAnchorBit (setAnchorBit t n k 4 false) n k 6 false) s

/-- `ANCHOR_STATUS` as it reads: with VALID and FAILED of each anchor's entry. -/
def anchorStatusWord (s : State) (n : Nat) : Word :=
  (List.range 4).foldl (fun w k =>
    insBits (insBits w (8 * k + 7) 1 (b01 (usable s n (anchorCh s n k)))) (8 * k + 5) 1 (b01 (chFail s n (anchorCh s n k))))
    (s.reg (A.LRF_ANCHOR_STATUS n))

/-- A write of the bits `mask` of `ANCHOR`: an anchor that names another channel is judged afresh. -/
def anchorWrite (s : State) (src : Requester) (n : Nat) (data mask : Word) : State :=
  let old := (List.range 4).map (anchorCh s n)
  let s := writeFields s src (A.LRF_ANCHOR n) data mask
  (List.range 4).foldl (fun (t : State) k =>
    if (old.drop k).headD 0 = anchorCh t n k then t else setAnchorBit (setAnchorBit t n k 4 false) n k 6 false) s

/-- The due anchor channel with the greatest age; the lowest anchor on a tie (R201). -/
def dueChannel (s : State) (n : Nat) : Option Nat :=
  let due := (List.range 4).filter (fun k => anchorBit s n k 4 && chDefined s n (anchorCh s n k))
  due.foldl (fun best k =>
    match best with
    | none => some (anchorCh s n k)
    | some c => if chAge s n c < chAge s n (anchorCh s n k) then some (anchorCh s n k) else some c) none

/-! ### Host writes to the analog set (R196, R224) -/

/-- In CAL the lane has a channel: the one it goes back to, or on which it waits for the turnaround. -/
def calChannel (s : State) (n : Nat) : Bool :=
  match (s.lane n).work with
  | .slice _ | .step _ | .gap _ => (s.lane n).back
  | _ => laneLocked s n

/-- Entry `c` is the lane's current channel: the one it is set to, or to which it goes back after a calibration in a gap. In OFF, in
STANDBY and in start-up calibration a lane has none. -/
def currentChannel (s : State) (n c : Nat) : Bool :=
  let st := laneState s n
  laneChannel s n == c && (st == 2 || st == 3 || st == 4 || st == 6 || (st == 5 && calChannel s n))

/-- The channels that kind 6 of start-up calibration has still to take, in index order (R197). -/
def startupChannels (s : State) (n : Nat) : List Nat :=
  (List.range 256).filter (fun c => (s.lane n).calNext ≤ c && chDefined s n c)

/-- The entry that kind 6 is calibrating: how far it has come is open. -/
def startupEntry (s : State) (n : Nat) : Option Nat := (startupChannels s n)[Config.startupProgress n s.dev.upCycles]?

/-- Whether a host write of word `w` of a lane's analog set is refused. -/
def analogRefused (s : State) (n w : Nat) (data : Word) : Bool :=
  let l := s.lane n
  if w < 0x400 then
    let c := w / 4
    let calibrating := match l.work with
      | .cold x _ => x == c
      | .gap x => x == c
      | .slice x => x == c
      | .step x => x == c
      | .startup k => k == 6 && startupEntry s n == some c
      | _ => false
    w % 4 != 0 || currentChannel s n c || calibrating
      || l.txs.any (fun t => 2 ≤ t.stage && t.stage ≤ 4 && t.channel == c)
      || (bit data.toNat 31 && !definitionOk (bitsOf data.toNat 0 24) (bitsOf data.toNat 28 3))
  else if w < 0x500 then w % 2 != 0 || laneState s n != 0
  else w ≤ 0x506 || w == 0x510 || w == 0x511

/-- A host write of word `w` that is made (R196, R224): reserved words ignore it. An anchor whose entry is undefined is not due
(R201). -/
def analogWrite (s : State) (n w : Nat) (data : Word) : State :=
  if w < 0x400 then
    let s := setAnalog s n w (data &&& 0xF0FFFFFF#32)
    let s := setAnalog s n (w + 1) (analog s n (w + 1) &&& 0x3FFFFFFF#32)
    if bit data.toNat 31 then s else clearAnchors s n (w / 4)
  else if w < 0x480 then setAnalog s n w (data &&& 0xFFFF0000#32)
  else if w < 0x500 then
    let s := setAnalog (setAnalog s n w (data &&& 0xFFFFFF00#32)) n (w + 1) 0#32
    s.setLane n { s.lane n with txMeas := (s.lane n).txMeas.filter (· != (w - 0x480) / 2) }
  else s

/-! ### Transmit drive (R214) -/

/-- The output power of a transmit entry in 1/256 dBm: as measured, else the nominal factory value (R213, R224). -/
def entryPower (s : State) (n j : Nat) : Int :=
  if (s.lane n).txMeas.contains j then signed 16 (bitsOf (analog s n (0x481 + 2 * j)).toNat 0 16)
  else 2048 - 128 * (j : Int)

/-- The transmit entry for a requested pin power in 0.5 dBm (R214). -/
def txEntry (s : State) (n : Nat) (power : Int) : Nat :=
  let limit := 128 * min power (signed 8 (s.fld (F.LRF_TX_LIMIT_MAX_PIN n)))
  let fits := (List.range 64).filter (fun j => entryPower s n j ≤ limit)
  match fits with
  | [] => 63
  | j :: t => t.foldl (fun best k => if entryPower s n best < entryPower s n k then k else best) j

end Sys2Proof.Machine
end

