-- ==== Sys2Proof/Machine/Lanes.lean ====
section
/-!
DEFINITION. Sys2Proof/Machine/Lanes.lean: the commands of a radio lane: start-up calibration, tuning, background and
on-request calibration, receive gain and blanking (06_radio_lanes.md). The transmissions of a lane are in Transmit.lean.
-/
namespace Sys2Proof.Machine

/-! ### Sub-channels at a tune (R245) -/

/-- Fields of a word of `SUBCHk`. -/
def subBw (w : Word) : Nat := bitsOf w.toNat 29 2
def subMask (w : Word) : Nat := bitsOf w.toNat 22 7
def subOff (w : Word) : Int := signed 17 (bitsOf w.toNat 0 17)

/-- A sub-channel with this word is enabled with at least one spreading order. -/
def wordEnabled (w : Word) : Bool := bit w.toNat 31 && subMask w != 0

/-- Why a sub-channel with this word does not fit the channel the synthesiser is set to: 0 it fits, 1 bandwidth, 2 offset. -/
def wordMisfit (s : State) (n : Nat) (w : Word) : Nat :=
  let ch := bwHz (s.fld (F.LRF_SYNTH_BW n))
  let chirp := 1000 * chirpKhz (subBw w)
  if ch < chirp then 1 else if (ch - chirp) * 8192 < (subOff w).natAbs * 1000000 then 2 else 0

/-- Sub-channel `k` is enabled, and why it does not fit. -/
def subEnabled (s : State) (n k : Nat) : Bool := wordEnabled (s.reg (A.LBB_SUBCH n k))
def subMisfit (s : State) (n k : Nat) : Nat := wordMisfit s n (s.reg (A.LBB_SUBCH n k))

/-- A sub-channel with this word is active on the lane's channel. -/
def wordFits (s : State) (n : Nat) (w : Word) : Bool := wordEnabled w && wordMisfit s n w == 0

/-- Sub-channel `k` is active on the lane's channel. -/
def subFits (s : State) (n k : Nat) : Bool := wordFits s n (s.reg (A.LBB_SUBCH n k))

/-- The sub-channels at a tune: SUBCH_INACTIVE for one that the tune leaves inactive and that was active before, or that
sees its first tune since BOOT or since it was written. -/
def tuneSub (s : State) (n : Nat) : State :=
  let l := s.lane n
  let s := (List.range 8).foldl (fun (t : State) k =>
    if subEnabled t n k && subMisfit t n k != 0 && (bit l.subWas k || !bit l.subSeen k) then
      t.event (0x14 + n) 0 0x0701 1 (leBytes 1 k ++ leBytes 1 (laneChannel t n) ++ leBytes 1 (subMisfit t n k))
    else t) s
  let now := bitsNat ((List.range 8).map (subFits s n))
  s.setLane n { s.lane n with subWas := now, subSeen := 255, tunedAt := s.dev.upCycles, heard := 0, subSince := [] }

/-- The synthesiser has locked on the lane's channel after a hop or a cold calibration (R187). -/
def lockedOn (s : State) (n : Nat) : State := settle (tuneSub ((setWork s n .none).setFld (F.LRF_STATUS_LOCKED n) 1) n) n

/-- A successful calibration stored (R192); the anchors on that channel are no longer due once R201 does not hold. -/
def stored (s : State) (n c : Nat) (r : CalResult) : State :=
  let s := storeResult s n c r
  if anchorDue s n c then s else clearAnchors s n c

/-! ### Start-up calibration (R197–R199) -/

/-- The STARTUP_CAL event (R226). -/
def startupEvent (s : State) (n result kind : Nat) : State :=
  let l := s.lane n
  s.event (0x10 + n) 0 0x0600 (if result = 0 then 0 else 3)
    (leBytes 1 result ++ leBytes 1 kind ++ leBytes 2 l.calFailed ++ leBytes 4 l.calUs)

/-- Start-up calibration is complete: STARTUP_DONE, then STANDBY (R187, R199). -/
def startupDone (s : State) (n : Nat) : State :=
  let s := startupEvent (s.setFld (F.LRF_STATUS_STARTUP_DONE n) 1) n 0 0
  let s := setCause s (0x10 + n) 0
  listen (enterState (setWork s n .none) n 1 false) n

/-- MEAS_GAIN, MEAS_PHASE and MEAS_POWER of the gain tables (R210, R213). -/
def storeGains (s : State) (n : Nat) (r : KindFacts) : State :=
  let s := (r.gains.take 64).zipIdx.foldl (fun (t : State) e =>
    let t := setAnalog t n (0x400 + 2 * e.2) (insBits (analog t n (0x400 + 2 * e.2)) 0 16 e.1.1.toNat)
    setAnalog t n (0x401 + 2 * e.2) (BitVec.ofNat 32 (e.1.2.toNat * 65536))) s
  let s := (r.powers.take 64).zipIdx.foldl (fun (t : State) e =>
    setAnalog t n (0x481 + 2 * e.2) (BitVec.ofNat 32 e.1.toNat)) s
  s.setLane n { s.lane n with txMeas := List.range (min 64 r.powers.length) }

/-- A channel has failed in start-up calibration (R195, R198). -/
def startupFails (s : State) (n c : Nat) : State :=
  let s := calFails s n c 1
  s.setLane n { s.lane n with calFailed := (s.lane n).calFailed + 1 }

/-- Cold calibrations of channels in index order (kind 6); a channel without a result failed. -/
def storeChannels (s : State) (n : Nat) (cs : List Nat) (rs : List (Option CalResult)) : State :=
  (cs.zipIdx).foldl (fun (t : State) e =>
    match (rs.drop e.2).head? with
    | some (some r) => stored t n e.1 r
    | _ => startupFails t n e.1) s

/-- The result word of kind `k` (R224). -/
def kindWord (s : State) (n k : Nat) (fail : Bool) (micros : Nat) : State :=
  let s := setAnalog s n (0x4FF + k) (BitVec.ofNat 32 (2 ^ 31 + b01 fail * 2 ^ 30 + min micros 65535))
  s.setLane n { s.lane n with calUs := (s.lane n).calUs + micros }

/-- Kind `k` of start-up calibration has ended (R197, R198). -/
def kindDone (s : State) (n k : Nat) (r : KindFacts) : State :=
  let next (s : State) := setWork s n (.startup (k + 1))
  let fails (s : State) := setCause (startupEvent s n 1 k) (0x10 + n) 1
  if k = 6 then
    let cs := startupChannels s n
    let bad := (s.lane n).calFailed != 0 || cs.length != (r.channels.filter Option.isSome).length
    next (storeChannels (kindWord s n 6 bad r.micros) n cs r.channels)
  else
    let s := kindWord s n k (!r.ok) r.micros
    match k, r.ok with
    | 7, true =>
      let s := setAnalog s n 0x510 (BitVec.ofNat 32 r.refGain.toNat)
      let s := setAnalog s n 0x511 (BitVec.ofNat 32 r.refPhase.toNat)
      startupDone (s.setLane n { s.lane n with refOk := true }) n
    | 7, false => startupDone (fails s) n
    | _, false =>
      let s := toOff (fails s) n
      s.setLane n { s.lane n with calDead := true }
    | 5, true => next (storeGains s n r)
    | _, true => next s

/-- STARTUP_CAL_KIND_DONE. A blank pauses start-up calibration (R223). -/
def execStartupCalKindDone (lane : Lane) (result : KindFacts) (s : State) : Result :=
  .next (match (s.lane lane).work with
    | .startup k => if s.answers && laneState s lane = 5 && !blankIn s lane then kindDone s lane k result else s
    | _ => s)

/-- The kind that was running is abandoned (R198, R223): it has failed. Of kind 6 only the channel that was being calibrated fails, the
results before it are kept, and the channels after it follow when the blank ends. -/
def kindAbandoned (s : State) (n k : Nat) (r : KindFacts) : State :=
  if k = 6 then
    let cs := startupChannels s n
    let s := storeChannels s n (cs.take r.channels.length) r.channels
    let s := s.setLane n { s.lane n with calUs := (s.lane n).calUs + r.micros }
    match cs.drop r.channels.length with
    | [] => s
    | c :: _ => startupFails (s.setLane n { s.lane n with calNext := c + 1 }) n c
  else kindDone s n k { r with ok := false }

/-- STARTUP_CAL_ABANDON (R223). `facts`: what the kind had come to. -/
def execStartupCalAbandon (lane : Lane) (facts : KindFacts) (s : State) : Result :=
  .next (match (s.lane lane).work with
    | .startup k => if s.answers && laneState s lane = 5 && blankIn s lane then kindAbandoned s lane k facts else s
    | _ => s)

/-- LANE_ENABLE_WRITE (R187, R199). -/
def execLaneEnableWrite (src : Requester) (lane : Lane) (data : Word) (s : State) : Result :=
  .next (gateWrite s src (A.LRF_CTRL lane) (fun s => laneCtrlWrite s src lane data allBits))

/-- LANE_STANDBY_READY (R187): from OFF to STANDBY, then to the channel on which the MAC receives. -/
def execLaneStandbyReady (lane : Lane) (s : State) : Result :=
  .next (if s.answers && laneState s lane = 0 && mayRun s lane && s.flag (F.LRF_STATUS_STARTUP_DONE lane) then
      listen (enterState s lane 1 false) lane
    else s)

/-- KEY_STORE_LOAD (R563), after which the lanes' start-up calibration begins (R160). -/
def execKeyStoreLoad (damaged : List (Fin 512 × Bool)) (s : State) : Result :=
  .next (if s.booting && !s.boot.keysLoaded then
      let s := keyStoreLoad s (damaged.map (fun d => (d.1.val, d.2)))
      (List.range 4).foldl laneOn s
    else s)

/-! ### Tuning (R187, R193–R195) -/

/-- SYNTH_LOCK_DONE. -/
def execSynthLockDone (lane : Lane) (s : State) : Result :=
  .next (match (s.lane lane).work with
    | .hop _ => if s.answers && laneState s lane = 2 then lockedOn s lane else s
    | _ => s)

/-- LOCK_FAIL (R194). -/
def lockFail (s : State) (n c : Nat) : State :=
  let s := setAnalog s n (4 * c + 1) (analog s n (4 * c + 1) &&& 0x7FFFFFFF#32)
  let s := setCause (s.count (F.LRF_LOCK_FAILS_COUNT n) 1) (0x10 + n) 2
  hopTo s n c true

/-- LOCK_FAIL. -/
def execLockFail (lane : Lane) (s : State) : Result :=
  .next (match (s.lane lane).work with
    | .hop c => if s.answers && laneState s lane = 2 then lockFail s lane c else s
    | _ => s)

/-- A cold calibration for a tune has failed (R195): the lane is in STANDBY, and a transmission that waited for the channel
is abandoned under R209. -/
def coldFailed (s : State) (n c : Nat) (lockFail : Bool) : State :=
  let s := calFails s n c (if lockFail then 2 else 1)
  let l := s.lane n
  let txs := l.txs.map (fun t => if (t.stage == 2 || t.stage == 3) && t.channel == c then { t with stage := 5 } else t)
  tryGap (enterState (s.setLane n { l with work := .none, rxWant := none, txs := txs }) n 1 false) n

/-- COLD_CAL_DONE (R192, R195, R207). -/
def execColdCalDone (lane : Lane) (result : Option CalResult) (s : State) : Result :=
  .next (if s.answers && laneState s lane = 5 then
      match (s.lane lane).work, result with
      | .cold c _, some r => lockedOn (stored s lane c r) lane
      | .cold c f, none => coldFailed s lane c f
      | .gap c, some r => backFromGap (stored s lane c r) lane
      | .gap c, none => backFromGap (calFails s lane c 1) lane
      | _, _ => s
    else s)

/-! ### Background and on-request calibration (R200–R207) -/

/-- ANCHOR_DUE (R201). -/
def execAnchorDue (lane anchor : Fin 4) (s : State) : Result :=
  let c := anchorCh s lane anchor
  .next (if s.answers && anchorDue s lane c then
      (anchorsOf s lane c).foldl (fun (t : State) k => setAnchorBit t lane k 4 true) s
    else s)

/-- ANCHOR_OVERDUE (R204). -/
def execAnchorOverdue (lane anchor : Fin 4) (s : State) : Result :=
  let c := anchorCh s lane anchor
  .next (if s.answers && chDefined s lane c && anchorBit s lane anchor 4 && !anchorBit s lane anchor 6 then
      let s := (anchorsOf s lane c).foldl (fun (t : State) k => setAnchorBit t lane k 6 true) s
      let s := setCause s (0x10 + lane) 3
      s.event (0x10 + lane) 0 0x0602 2 (leBytes 1 anchor ++ leBytes 1 c ++ leBytes 4 (chAge s lane c))
    else s)

/-- BG_SLICE_START (R202): a calibration that a transmission needs and the steps of a LANE_CAL come first (R205, R207). -/
def bgSliceStart (s : State) (n : Nat) : State :=
  let l := s.lane n
  match dueChannel s n with
  | some c =>
    if s.operating && (gapNeeds s n).isEmpty && l.job.isNone && gapOpen s n 218000 && coxMayStart s 19 then
      beginGap (coxCharge s 19 200) n (.slice c)
    else s
  | none => s

/-- BG_SLICE_START. -/
def execBgSliceStart (lane : Lane) (s : State) : Result := .next (bgSliceStart s lane)

/-- A background slice ends (R192, R200): its channel is stored, or its failure reported, and the lane is back on its
previous channel. -/
def sliceDone (s : State) (n c : Nat) (result : Option CalResult) : State :=
  match result with
  | some r => backFromGap ((stored s n c r).count (F.LRF_BG_SLICES_COUNT n) 1) n
  | none => backFromGap (calFails s n c 1) n

/-- LANE_CAL_STEP_START (R205). An undefined channel has nothing to calibrate and counts as failed. -/
def calStepStart (s : State) (n : Nat) : State :=
  let l := s.lane n
  match l.job with
  | some j =>
    if !s.operating || !(gapNeeds s n).isEmpty || j.remaining = 0 || l.work != .none then s
    else if !chDefined s n j.next then jobStep s n false
    else if gapOpen s n 176000 then beginGap (coxCharge s 19 158) n (.step j.next)
    else s
  | none => s

/-- LANE_CAL_STEP_START. -/
def execLaneCalStepStart (lane : Lane) (s : State) : Result := .next (calStepStart s lane)

/-- LANE_CAL_STEP_DONE (R144, R192, R205). -/
def execLaneCalStepDone (lane : Lane) (result : Option CalResult) (s : State) : Result :=
  .next (if s.answers && laneState s lane = 5 then
      match (s.lane lane).work, result with
      | .step c, some r => backFromGap (jobStep (stored s lane c r) lane true) lane
      | .step c, none => backFromGap (jobStep (calFails s lane c 1) lane false) lane
      | _, _ => s
    else s)

/-- TX_CHANNEL_CHECK (R207). -/
def execTxChannelCheck (lane : Lane) (channel : Fin 256) (s : State) : Result :=
  .next (if s.operating && chDefined s lane channel && !usable s lane channel then
      let l := s.lane lane
      tryGap (if l.gapCal.contains channel.val then s else s.setLane lane { l with gapCal := l.gapCal ++ [channel.val] }) lane
    else s)

/-! ### Receive gain (R211) -/

/-- AUTO gain control in RX. -/
def agcRuns (s : State) (n : Nat) : Bool := s.answers && laneState s n == 3 && s.fld (F.LRF_CTRL_AGC_MODE n) == 0

/-- ADC_CLIP. -/
def execAdcClip (lane : Lane) (s : State) : Result :=
  .next (if agcRuns s lane then
      let s := setGain s lane (min 63 (s.fld (F.LRF_STATUS_GAIN lane) + 4))
      setCause (s.count (F.LRF_CLIP_COUNT_COUNT lane) 1) (0x10 + lane) 6
    else s)

/-- AGC_WINDOW. `mean` is the mean power over 1 ms in 1/16 dBFS. -/
def execAgcWindow (lane : Lane) (mean : Int) (s : State) : Result :=
  .next (if agcRuns s lane then
      let g := s.fld (F.LRF_STATUS_GAIN lane)
      if -288 < mean then setGain s lane (min 63 (g + 1))
      else if mean < -480 then setGain s lane (g - 1)
      else s
    else s)

/-! ### Blanking (R220–R223) -/

/-- RF_BLANK_ASSERT. -/
def execRfBlankAssert (lane : Lane) (s : State) : Result := .next (if s.answers then blankAssert s lane else s)

/-- RF_BLANK_RELEASE. -/
def execRfBlankRelease (lane : Lane) (s : State) : Result := .next (if s.answers then blankRelease s lane else s)

end Sys2Proof.Machine
end

