-- ==== Sys2Proof/Machine/Chirp.lean ====
section
/-!
DEFINITION. Sys2Proof/Machine/Chirp.lean: the chirp baseband of a lane: the detector bank, the decoder contexts, the headers
and CSS payloads received (07_chirp_phy.md).
-/
namespace Sys2Proof.Machine

/-- Contexts of a lane (R252). -/
def ctxCount : Nat := 64

/-- The detector bank runs (R246). -/
def bankRuns (s : State) (n : Nat) : Bool :=
  s.answers && (laneState s n == 3 || laneState s n == 6) && s.flag (F.LBB_CTRL_RX_EN n) && laneServed s n

/-- Sub-channel `k` is active: the lane is tuned to a channel that it fits (R245). -/
def subActive (s : State) (n k : Nat) : Bool := laneLocked s n && subFits s n k

/-- CLK_DATUM cycles for which the bank of lane `n` has run since the last tune. -/
def heardNow (s : State) (n : Nat) : Nat := (s.lane n).heard + if bankRuns s n then s.dev.upCycles - (s.lane n).bankOn else 0

/-- CLK_DATUM cycles for which sub-channel `k` has been searched since the tune or the write of its register (R267). -/
def subHeard (s : State) (n k : Nat) : Nat := heardNow s n - Tbl.get (fun _ => 0) (s.lane n).subSince k

/-- Context `c` of lane `n`. -/
def ctxOf (s : State) (n c : Nat) : Option Ctx := ((s.lane n).ctxs.find? (fun e => e.1 == c)).map (fun e => e.2)

/-- Storing context `c`. -/
def setCtx (s : State) (n c : Nat) (x : Ctx) : State :=
  s.setLane n { s.lane n with ctxs := Tbl.ins c x (Tbl.erase c (s.lane n).ctxs) }

/-- Context `c` is released: it is FREE. -/
def freeCtx (s : State) (n c : Nat) : State := s.setLane n { s.lane n with ctxs := Tbl.erase c (s.lane n).ctxs }

/-- The release of context `c` with the outcome that a counter counts (R258, R259). The last one released may open the gap that a
calibration waits for (R207). -/
def endCtx (s : State) (n c : Nat) (f : Fld) : State := tryGap ((freeCtx s n c).count f 1) n

/-- A detection is dropped: CTX_DROP counted, its cause set, and CTX_EXHAUST for the first drop in a second (R250, R254). -/
def dropDetection (s : State) (n : Nat) (d : Detection) : State :=
  let s := setCause (s.count (F.LBB_CTX_DROP_COUNT n) 1) (0x14 + n) 0
  let l := s.lane n
  if l.dropSec = s.now.sec + 1 then s.setLane n { l with drops := l.drops + 1 }
  else
    let before := if l.dropSec = s.now.sec then l.drops else 0
    (s.setLane n { l with dropSec := s.now.sec + 1, drops := 1 }).event (0x14 + n) 0 0x0700 2
      (leBytes 1 d.subch ++ leBytes 1 d.sf ++ leBytes 4 before)

/-- A detector holds back while a context assigned to its detection near the same bin is in ACQUIRE (R249). -/
def heldBack (s : State) (n : Nat) (d : Detection) : Bool :=
  (s.lane n).ctxs.any (fun e =>
    e.2.stage == 1 && e.2.det.subch == d.subch && e.2.det.sf == d.sf && nearBin d.sf e.2.det.bin d.bin)

/-- CLK_DATUM cycles from one window of a detector to the next: half a symbol (R247). -/
def windowStep (sf bw : Nat) : Nat := symUs sf bw * 125

/-- The noise floor of a sub-channel in 1/16 dBm (R267): what the air gave in the last whole 100 ms of those for which it has been searched
since the tune or the write of its register. -/
def noiseFloor (s : State) (n k : Nat) : Int :=
  let l := s.lane n
  signed 16 (Config.noiseFloor n k (l.tunedAt + Tbl.get (fun _ => 0) l.subSince k) (subHeard s n k / 25000000)).toNat

/-- A bin of `power` lies at least THRESH above the floor scaled to one bin (R247): a chirp gains 10 log10(2^SF) dB over the noise in a bin,
and x / 16 dB stay below that gain where 10^x ≤ 2^(160 SF). -/
def aboveThresh (s : State) (n k sf : Nat) (power : Int) : Bool :=
  let short := noiseFloor s n k + 4 * (s.fld (F.LBB_DET_CFG_THRESH n) : Nat) - power
  short ≤ 0 || 10 ^ short.toNat ≤ 2 ^ (160 * sf)

/-- The receive gaps that overlap the cycles from `since` up to `until`, the present blank among them (R248). -/
def gapsIn (s : State) (n since until_ : Nat) : List RxGap :=
  let l := s.lane n
  let now : List RxGap := if laneState s n = 6 then [{ since := l.blankAt, until_ := s.dev.upCycles + 1, blank := true }] else []
  (l.gaps ++ now).filter (fun g => g.since < until_ && since < g.until_)

/-- The run after the windows listed, the first of which begins at a cycle (R246–R248): the cycle and the strongest bin of each window
counted. A window from before cycle `from_`, one below the threshold, and one in a receive gap that is not bridged restart the
run; one in a gap of at most 200 µs is skipped where BRIDGE is 1, and the run goes on behind it if the windows before and after agree
(`gapped`: the last window was skipped). -/
def runOf (s : State) (n k sf bw from_ : Nat) : Nat → List Window → Bool → List (Nat × Nat) → List (Nat × Nat)
  | _, [], _, run => run
  | since, w :: ws, gapped, run =>
    let next := since + windowStep sf bw
    let gaps := gapsIn s n since (since + 2 * windowStep sf bw)
    let bridged := s.flag (F.LBB_DET_CFG_BRIDGE n) && gaps.all (fun g => g.until_ - g.since ≤ 50000)
    if since < from_ then runOf s n k sf bw from_ next ws false []
    else if !gaps.isEmpty then runOf s n k sf bw from_ next ws true (if bridged then run else [])
    else if !aboveThresh s n k sf w.power then runOf s n k sf bw from_ next ws false []
    else if gapped && run.getLast?.any (fun e => !nearBin sf e.2 w.bin) then runOf s n k sf bw from_ next ws false [(since, w.bin)]
    else runOf s n k sf bw from_ next ws false (run ++ [(since, w.bin)])

/-- The value within ±1 bin of which all bins lie, the last one first. -/
def agreedBin (sf : Nat) (bins : List Nat) : Option Nat :=
  match bins.getLast? with
  | none => none
  | some b => [b, (b + 1) % 2 ^ sf, (b + 2 ^ sf - 1) % 2 ^ sf].find? (fun v => bins.all (nearBin sf v))

/-- The cycle at which the first of the windows listed began, the last one ending now. -/
def windowsBegan (s : State) (sf bw : Nat) (windows : List Window) : Nat := s.dev.upCycles - (windows.length + 1) * windowStep sf bw

/-- The words of `SUBCHk` under which a run may have begun, with the cycles from which and up to which each stood, the oldest first. -/
def subWords (s : State) (n k : Nat) : List (Word × Nat × Nat) :=
  let old := (s.lane n).subOld.filter (fun o => o.k == k)
  let ends := old.map (fun o => o.until_)
  (old.map (fun o => o.word) ++ [s.reg (A.LBB_SUBCH n k)]).zip ((0 :: ends).zip (ends ++ [s.dev.upCycles + 1]))

/-- The bin of the detection that the windows of a detector make under a word of `SUBCHk` that stood in the cycles given, if DET_RUN windows
counted agree and the first of them began under it (R247). -/
def wordBin (s : State) (n k sf : Nat) (windows : List Window) (v : Word × Nat × Nat) : Option Nat :=
  let bw := subBw v.1
  let need := s.fld (F.LBB_DET_CFG_DET_RUN n)
  let run := runOf s n k sf bw (max (s.lane n).bankAt v.2.1) (windowsBegan s sf bw windows) windows false []
  let run := run.drop (run.length - need)
  if !(bit (subMask v.1) (sf - 6) && wordFits s n v.1) || run.length < need || !run.head?.all (fun e => e.1 < v.2.2) then none
  else agreedBin sf (run.map (fun e => e.2))

/-- The bin of the detection that a detector's windows make, and the word of `SUBCHk` under which they were searched: a write of the
register does not affect the runs begun before it (R247). -/
def detectedBin (s : State) (n k sf : Nat) (windows : List Window) : Option (Nat × Word) :=
  (subWords s n k).findSome? (fun v => (wordBin s n k sf windows v).map (fun b => (b, v.1)))

/-- The detection of a bin by the windows listed, searched under `word`: a blank may have fallen on them (R260). -/
def newDetection (s : State) (n k sf bin : Nat) (word : Word) (windows : List Window) (rssi : Int) : Detection :=
  let bw := subBw word
  { subch := k, off := subOff word, sf := sf, bw := bw, bin := bin, rssi := rssi, time := s.now,
    blanked := blankIn s n || (gapsIn s n (windowsBegan s sf bw windows) s.dev.upCycles).any (fun g => g.blank) }

/-- `x` is queued behind `d`, made in the same lane cycle: by sub-channel, then by SF (R250). -/
def queuedBehind (d x : Detection) : Bool := x.time == d.time && (d.subch < x.subch || (d.subch == x.subch && d.sf < x.sf))

/-- The queue with a detection in its place (R250). -/
def queueIn (q : List Detection) (d : Detection) : List Detection :=
  q.filter (fun x => !queuedBehind d x) ++ d :: q.filter (queuedBehind d)

/-- A detection posted to PE(2n) (R247, R250, R251). -/
def post (s : State) (n : Nat) (d : Detection) : State :=
  let s := setCause (s.count (F.LBB_DETECTIONS_COUNT n) 1) (0x14 + n) 2
  let q := queueIn (s.lane n).queue d
  let s := s.setLane n { s.lane n with queue := q.take 8 }
  match q.drop 8 with
  | x :: _ => dropDetection s n x
  | [] => s

/-- The bank searches on the lane's channel for a spreading order (R245, R246). -/
def searches (s : State) (n sf : Nat) : Bool := bankRuns s n && laneLocked s n && 6 ≤ sf && sf ≤ 12

/-- A detector makes a detection of its windows, unless it holds back (R247–R251). -/
def detect (s : State) (n k sf : Nat) (windows : List Window) (rssi : Int) : State :=
  match detectedBin s n k sf windows with
  | none => s
  | some (bin, word) =>
    let d := newDetection s n k sf bin word windows rssi
    if !searches s n sf || heldBack s n d then s else post s n d

/-- DETECTION. -/
def execDetection (lane : Lane) (subch : Fin 8) (sf : Nat) (windows : List Window) (rssi : Int) (s : State) : Result :=
  .next (detect s lane subch sf windows rssi)

/-- A context as it is when assigned (R252). -/
def newCtx (d : Detection) (order : Nat) : Ctx :=
  { stage := 1, det := d, order := order, alt := false, blanked := false, hdr := 0, rssi := 0, snr := 0, foff := 0,
    ts := ⟨0, 0, 0⟩, stepGen := 0 }

/-- Context `c` assigned to detection `d`; a blank on its windows, on its wait or in progress falls on it (R260). -/
def assign (s : State) (n c : Nat) (d : Detection) : State :=
  let l := s.lane n
  let s := s.setLane n { l with nextOrder := l.nextOrder + 1 }
  setCtx s n c { newCtx d l.nextOrder with blanked := d.blanked || blankIn s n }

/-- The context in ACQUIRE with the lowest DET_RSSI; of several the one assigned most recently (R254). -/
def weakest (l : List (Nat × Ctx)) : Option (Nat × Ctx) :=
  (l.filter (fun e => e.2.stage == 1)).foldl (fun best e =>
    match best with
    | none => some e
    | some b => if e.2.det.rssi < b.2.det.rssi || (e.2.det.rssi == b.2.det.rssi && b.2.order < e.2.order) then some e else some b)
    none

/-- PE(2n) takes the first queued detection: a free context, which one is open, else one released from a weaker detection,
else the detection is dropped (R250, R254). -/
def assignNext (s : State) (n : Nat) : State :=
  let l := s.lane n
  match l.queue with
  | [] => s
  | d :: t =>
    let s := s.setLane n { l with queue := t }
    let free := (List.range ctxCount).filter (fun c => !l.ctxs.any (fun e => e.1 == c))
    if free.isEmpty then
      match weakest l.ctxs with
      | some (c, x) =>
        if x.det.rssi < d.rssi then assign (dropDetection (freeCtx s n c) n x.det) n c d else dropDetection s n d
      | none => dropDetection s n d
    else
      let pick := drawNat s free.length
      assign pick.2 n ((free.drop pick.1).headD 0) d

/-- CONTEXT_ASSIGN. -/
def execContextAssign (lane : Lane) (s : State) : Result := .next (if s.answers && laneServed s lane then assignNext s lane else s)

/-- The steps of Datum applied after the instant `ago` nanoseconds before the present one. -/
def stepsAfter (s : State) (ago : Nat) : List (Nat × Int × Nat) := s.dtm.steps.filter (fun x => s.dev.upCycles < x.1 + ago / 4)

/-- The counter in units of 2⁻³² ns at a CLK_DATUM cycle that is past: from the last stretch of constant rate that began by then. -/
def unitsAt (s : State) (cycle : Nat) : Option Nat :=
  (s.dtm.track.find? (fun e => e.cycle ≤ cycle)).map (fun e => e.units + (cycle - e.cycle) * e.rate)

/-- The instant `ago` nanoseconds before the present one, as Datum showed it then, its steps and slews undone (R531, R533). -/
def timeAgo (s : State) (ago : Nat) : Time :=
  if ago / 4 = 0 then Time.ofUnits (s.now.units - ago * 2 ^ 32)
  else match unitsAt s (s.dev.upCycles - ago / 4) with
    | some u => Time.ofUnits (u - ago % 4 * 2 ^ 32)
    | none => Time.ofUnits (s.now.units - ago * 2 ^ 32)

/-- STEP_GEN as it was then (R530, R533). -/
def genAgo (s : State) (ago : Nat) : Nat :=
  match stepsAfter s ago with
  | x :: _ => x.2.2
  | [] => s.fld F.DTM_STATUS_STEP_GEN

/-- Both sync symbols found by context `c` (R231, R253, R266, R268). -/
def syncFound (s : State) (n c : Nat) (bin1 bin2 : SyncBin) (foff : Int) (rssi ago : Nat) : State :=
  match ctxOf s n c with
  | some x =>
    let matches_ (code : Nat) : Bool :=
      codeMatches x.det.sf code (relBin x.det.sf bin1.bin bin1.ref) (relBin x.det.sf bin2.bin bin2.ref)
    let own := matches_ (s.fld (F.LBB_SYNC_CFG_NET_CODE n))
    let alt := s.flag (F.LBB_SYNC_CFG_ALT_EN n) && matches_ (s.fld (F.LBB_SYNC_CFG_ALT_CODE n))
    if x.stage != 1 then s
    else if !own && !alt then endCtx s n c (F.LBB_SYNC_OTHER_COUNT n)
    else if 250 * chirpKhz x.det.bw < foff.natAbs then endCtx s n c (F.LBB_OFFSET_RANGE_COUNT n)
    else setCtx s n c { x with
      stage := 2, alt := !own, rssi := rssi, foff := unsigned 24 foff, ts := timeAgo s ago, stepGen := genAgo s ago }
  | none => s

/-- SYNC_WORD_FOUND. -/
def execSyncWordFound (lane : Lane) (ctx : Fin 64) (bin1 bin2 : SyncBin) (foff : Int) (rssi : BitVec 16) (ago : Nat) (s : State) :
    Result :=
  .next (if s.answers then syncFound s lane ctx bin1 bin2 foff rssi.toNat ago else s)

/-- SYNC_MISS (R253). -/
def execSyncMiss (lane : Lane) (ctx : Fin 64) (s : State) : Result :=
  .next (match ctxOf s lane ctx with
    | some x => if s.answers && x.stage = 1 then endCtx s lane ctx (F.LBB_SYNC_MISS_COUNT lane) else s
    | none => s)

/-- The reception record of context `c` (R270). -/
def rxRecord (n c : Nat) (x : Ctx) (rateErr : Nat) : RxRecord :=
  { lane := n, off := x.det.off, subch := x.det.subch, sf := x.det.sf, bw := x.det.bw, mode := hdrMode x.hdr,
    rate := hdrRate x.hdr, length := hdrLength x.hdr, ctx := c, alt := x.alt, blanked := x.blanked, rssi := x.rssi, snr := x.snr,
    foff := x.foff, rateErr := rateErr, ts := x.ts, stepGen := x.stepGen, mapType := 0, sel := 0, gen := 0, quiet := 0, nsym := 0, meanSnr := 0,
    iter := 0, tsT := none }

/-- A frame lost to a blank: BLANK_LOSS beside its outcome (R260). -/
def blankLoss (s : State) (n : Nat) (x : Ctx) : State :=
  if x.blanked then setCause (s.count (F.LBB_BLANK_LOSS_COUNT n) 1) (0x14 + n) 4 else s

/-- The hand-off of an OFDM frame to LOFn (R257, R279, R295). -/
def handOff (s : State) (n c : Nat) (x : Ctx) : State :=
  if ofdmM (s.fld (F.LRF_SYNTH_BW n)) = 0 then endCtx s n c (F.LBB_HDR_INVALID_COUNT n)
  else if (s.lane n).ofdm.isSome then setCause (endCtx s n c (F.LBB_OFDM_BUSY_COUNT n)) (0x14 + n) 1
  else if !s.flag (F.LBB_CTRL_OFDM_ACCEPT n) then endCtx s n c (F.LBB_HDR_INVALID_COUNT n)
  else
    let info := rxRecord n c x 0
    let s := (endCtx s n c (F.LBB_OFDM_HANDOFF_COUNT n)).count (F.LOF_RX_START_COUNT n) 1
    s.setLane n { s.lane n with ofdm := some { info := info, channel := laneChannel s n, fc := none, bSym := 0, blanked := blankIn s n } }

/-- The values of header symbols from their strongest bins (R229): of each the nearest multiple of 2^(SF−6), mapped back. Which of two
multiples at the same distance is taken is open. -/
def headerValues (s : State) (sf : Nat) : List Nat → List Nat × State
  | [] => ([], s)
  | b :: bs =>
    let step := 2 ^ (sf - 6)
    let q := b % 2 ^ sf / step
    let r := b % 2 ^ sf % step
    let tie := drawNat s 2
    let g := if 2 * r < step then (q, s) else if step < 2 * r then (q + 1, s) else (q + tie.1, tie.2)
    let rest := headerValues g.2 sf bs
    (gray (g.1 % 64) :: rest.1, rest.2)

/-- PE(2n) decides on a header (R236, R257, R266). -/
def headerDecide (s : State) (n c : Nat) (bins : List Nat) (snr : Nat) : State :=
  match ctxOf s n c with
  | some x =>
    if x.stage != 2 then s
    else
      let v := headerValues s x.det.sf bins
      let s := v.2
      match headerCheck v.1 with
      | .fail => blankLoss (endCtx s n c (F.LBB_HDR_FAIL_COUNT n)) n x
      | .invalid => endCtx s n c (F.LBB_HDR_INVALID_COUNT n)
      | .valid h =>
        let x := { x with hdr := h, snr := snr }
        if hdrMode h = 0 then setCtx s n c { x with stage := 3 } else handOff s n c x
  | none => s

/-- HEADER_DECIDE. -/
def execHeaderDecide (lane : Lane) (ctx : Fin 64) (bins : List Nat) (snr : BitVec 8) (s : State) : Result :=
  .next (if s.answers then headerDecide s lane ctx bins snr.toNat else s)

/-- A received frame passed on by the physical layer (R270). -/
def deliver (s : State) (info : RxRecord) (bytes : List Byte) (channel : Nat) : State :=
  let n := info.lane
  s.setLane n { s.lane n with rx := (s.lane n).rx ++
    [{ info := info, bytes := bytes, check := .waiting, epoch := 0, body := [], stage := 0, channel := channel, relay := none }] }

/-- The nibbles of received codewords (R239): of each that whose codeword lies nearest; which of several is open. -/
def decodeNibbles (s : State) (k : Nat) : List (List Bool) → List Nat × State
  | [] => ([], s)
  | w :: ws =>
    let near := nearestNibbles k w
    let pick := if near.length = 1 then (0, s) else drawNat s near.length
    let rest := decodeNibbles pick.2 k ws
    ((near.drop pick.1).headD 0 :: rest.1, rest.2)

/-- The payload bytes and their CRC-16 from the strongest bins of the payload's symbols (R229, R237–R240, R252). -/
def cssReceived (s : State) (sf length rate : Nat) (bins : List Nat) : List Byte × State :=
  let v := decodeNibbles s (rate + 1) (cssCodewords sf length rate bins)
  (cssBytes length v.1, v.2)

/-- A write of the bits `mask` of `LBBn.CTRL` (R246, R256): the bank halts or runs anew; contexts already assigned run on. -/
def lbbCtrlWrite (s : State) (src : Requester) (n : Nat) (data mask : Word) : State :=
  let ran := s.flag (F.LBB_CTRL_RX_EN n)
  let s := writeFields s src (A.LBB_CTRL n) data mask
  match ran, s.flag (F.LBB_CTRL_RX_EN n) with
  | false, true => s.setLane n { s.lane n with bankAt := s.dev.upCycles, bankOn := s.dev.upCycles }
  | true, false => if bankState (laneState s n) then bankHalts s n else s
  | _, _ => s

/-- LBB_RX_EN_WRITE. -/
def execLbbRxEnWrite (src : Requester) (lane : Lane) (data : Word) (s : State) : Result :=
  .next (gateWrite s src (A.LBB_CTRL lane) (fun s => lbbCtrlWrite s src lane data allBits))

/-- `LBBn.STATUS` as it reads. -/
def lbbStatusWord (s : State) (n : Nat) : Word :=
  BitVec.ofNat 32 ((s.lane n).ctxs.length + 256 * bitsNat ((List.range 8).map (subActive s n)) + 65536 * b01 (bankRuns s n))

/-- `LBBn.NOISEk` as it reads (R267): the floor, once the sub-channel has been searched for 100 ms. -/
def noiseWord (s : State) (n k : Nat) : Word :=
  if subActive s n k && 25000000 ≤ subHeard s n k then
    BitVec.ofNat 32 (2 ^ 31 + unsigned 16 (noiseFloor s n k))
  else 0#32

/-- A write of the bits `mask` of `SUBCHk`: its next tune is the first since it was written (R245). -/
def subchWrite (s : State) (src : Requester) (n k : Nat) (data mask : Word) : State :=
  let old := s.reg (A.LBB_SUBCH n k)
  let s := writeFields s src (A.LBB_SUBCH n k) data mask
  if s.flag (F.LBB_LOCK_LOCK0 n) then s
  else
    let l := s.lane n
    s.setLane n { l with
      subSeen := l.subSeen - (if bit l.subSeen k then 2 ^ k else 0),
      subSince := Tbl.put (fun _ => 0) l.subSince k (heardNow s n),
      subOld := l.subOld.filter (fun o => s.dev.upCycles < o.until_ + 250000000) ++ [{ k := k, word := old, until_ := s.dev.upCycles }] }

end Sys2Proof.Machine
end

