-- ==== Sys2Proof/Machine/Regl.lean ====
section
/-!
DEFINITION. Sys2Proof/Machine/Regl.lean: the regulatory unit: profiles, the accounts a transmission is charged to, charges,
reserves, grants and refunds (10_regulatory_enforcement.md).
-/
namespace Sys2Proof.Machine

/-! ### Profiles (R369, R370) -/

/-- A region profile: band in kHz, cell width in kHz (0: band duty), longest frame in ms, window and budget of one account in
ms, and the EIRP limit in 0.5 dBm. The sub-bands of B868 replace its budget and EIRP limit. -/
structure Profile where
  lo : Nat
  hi : Nat
  cell : Nat
  frame : Nat
  window : Nat
  budget : Nat
  eirp : Int
  deriving DecidableEq, Repr

/-- The profile of a code; none for NONE. -/
def profileOf : Nat → Option Profile
  | 1 => some { lo := 433050, hi := 434790, cell := 0, frame := 1000, window := 3600000, budget := 360000, eirp := 20 }
  | 2 => some { lo := 470000, hi := 510000, cell := 200, frame := 1000, window := 60000, budget := 6000, eirp := 34 }
  | 3 => some { lo := 863000, hi := 876000, cell := 0, frame := 4000, window := 3600000, budget := 0, eirp := 0 }
  | 4 => some { lo := 902000, hi := 928000, cell := 200, frame := 400, window := 20000, budget := 400, eirp := 60 }
  | 5 => some { lo := 915000, hi := 928000, cell := 200, frame := 400, window := 20000, budget := 400, eirp := 54 }
  | 6 => some { lo := 920000, hi := 925000, cell := 0, frame := 4000, window := 3600000, budget := 360000, eirp := 32 }
  | _ => none

/-- The sub-bands of B868: edges in kHz, budget in ms, EIRP limit in 0.5 dBm (R370). -/
def subBands : List (Nat × Nat × Nat × Int) :=
  [(863000, 868000, 36000, 28), (868000, 868600, 36000, 28), (868700, 869200, 3600, 28), (869400, 869650, 360000, 54),
   (869700, 870000, 36000, 28), (870000, 876000, 36000, 28)]

/-- Longest frame of a profile in ns (R369). -/
def frameLimit (code : Nat) : Nat := match profileOf code with | some p => p.frame * 1000000 | none => 0

/-- W of a profile's accounts in ns (R375). -/
def windowNs (code : Nat) : Nat := match profileOf code with | some p => p.window * 1000000 | none => 0

/-- B of an account in ns (R375). -/
def budgetNs (code acct : Nat) : Nat :=
  if code = 3 then ((subBands.drop acct).headD (0, 0, 0, 0)).2.2.1 * 1000000
  else match profileOf code with | some p => p.budget * 1000000 | none => 0

/-- The EIRP limit of an account in 0.5 dBm. -/
def eirpOf (code acct : Nat) : Int :=
  if code = 3 then ((subBands.drop acct).headD (0, 0, 0, 0)).2.2.2
  else match profileOf code with | some p => p.eirp | none => 0

/-- Number of accounts of a profile (R374). -/
def acctCount (code : Nat) : Nat :=
  match profileOf code with
  | none => 0
  | some p => if code = 3 then 6 else if p.cell = 0 then 1 else ceilDiv (p.hi - p.lo) p.cell

/-- The accounts whose range an occupied band overlaps; none if the band is not in profile (R371, R374). The edges are in
1/16,384 Hz. -/
def accountsOf (code : Nat) (l u : Int) : Option (List Nat) :=
  let khz (f : Nat) : Int := (f * 16384000 : Nat)
  match profileOf code with
  | none => none
  | some p =>
    if code = 3 then
      ((List.range 6).find? (fun i =>
        let b := (subBands.drop i).headD (0, 0, 0, 0)
        khz b.1 ≤ l && u ≤ khz b.2.1)).map (fun i => [i])
    else if khz p.lo ≤ l && u ≤ khz p.hi then
      if p.cell = 0 then some [0]
      else
        let w := p.cell * 16384000
        let first := (l - khz p.lo).toNat / w
        let last := ceilDiv (u - khz p.lo).toNat w
        some ((List.range (last - first)).map (· + first))
    else none

/-! ### A transmission as RGL sees it (R371, R373) -/

/-- A transmission without content. -/
def Tx.blank : Tx :=
  { kind := 0, parcel := 0, content := .frame [], bytes := [], channel := 0, offset := 0, mode := 0, sf := 0, bw := 0, rate := 0, npre := 0,
    length := 0, fc := 0, load := [], power := 0, gain := 0, start := 0, latest := 0, stage := 0, taken := none, charge := 0, accts := [],
    bucket := 0, code := 0, backoff := 0, clip := 0, stepped := 0 }

/-- Airtime in µs (R243, R280, R354). -/
def Tx.airUs (t : Tx) : Nat :=
  match t.mode with
  | 0 => cssAirUs t.sf t.bw t.npre t.length t.rate
  | 1 => chirpPartUs t.sf t.bw t.npre + ofdmPartUs t.length t.rate (t.load.foldl (· + ·) 0) (quietCount (fcQuiet t.fc))
  | _ => 9000

/-- Occupied bandwidth in Hz (R371). -/
def txHz (s : State) (n : Nat) (t : Tx) : Nat :=
  match t.mode with
  | 0 => 1000 * chirpKhz t.bw
  | 1 => ofdmHz (ofdmM (chBw s n t.channel))
  | _ => 50000

/-- The edges of the occupied band in 1/16,384 Hz. -/
def txEdges (s : State) (n : Nat) (t : Tx) : Int × Int :=
  let centre : Int := ((chFreq s n t.channel : Nat) + t.offset) * 1000000
  (centre - (txHz s n t * 8192 : Nat), centre + (txHz s n t * 8192 : Nat))

/-- The charge in ns: airtime + PA_SETTLE + 4 µs (R373). -/
def txCharge (s : State) (n : Nat) (t : Tx) : Nat := t.airUs * 1000 + s.fld (F.LRF_FEM_TIMING_PA_SETTLE n) * 250 + 4000

/-- The beacon of lane `n` under a `BCN_CFGn` word, with a frame of `length` bytes (R324, R325). -/
def beaconTx (s : State) (n : Nat) (cfg : Word) (length : Nat) : Tx :=
  let w := cfg.toNat
  let sub := bitsOf w 28 3
  let pre := bitsOf w 18 7
  { Tx.blank with
    channel := bitsOf w 8 8, offset := signed 17 (s.fld (F.LBB_SUBCH_OFFSET n sub)), sf := 6 + bitsOf w 25 3,
    bw := s.fld (F.LBB_SUBCH_BW n sub), npre := if pre = 0 then s.fld (F.LBB_TX_CFG_PREAMBLE n) else pre, length := length,
    power := signed 8 (bitsOf w 0 8) }

/-! ### Accounts (R374–R377) -/

/-- An account without charges. -/
def Acct.init : Acct := { buckets := [], reserve := 0, told := false }

/-- A bucket without charges. -/
def Bucket.init : Bucket := { bcn := 0, ack := 0, gen := 0 }

/-- Key of an account for lane `n`. -/
def AcctSet.key (x : AcctSet) (n acct : Nat) : Nat := (if x.perLane then 256 * n else 0) + acct

/-- The account of a key. -/
def AcctSet.acct (x : AcctSet) (k : Nat) : Acct := Tbl.get (fun _ => Acct.init) x.accts k

/-- Storing an account. -/
def AcctSet.put (x : AcctSet) (k : Nat) (a : Acct) : AcctSet := { x with accts := Tbl.put (fun _ => Acct.init) x.accts k a }

/-- The sums of an account over the current bucket and the 16 before it; a charge whose START lies in the bucket that
follows is counted too (R375, R376). -/
def Acct.sums (a : Acct) : Bucket :=
  a.buckets.foldl (fun t e => { bcn := t.bcn + e.2.bcn, ack := t.ack + e.2.ack, gen := t.gen + e.2.gen }) Bucket.init

/-- A charge (or, below zero, its removal) in one bucket of an account. Class 0 beacon, 1 acknowledgement, 2 other. -/
def Acct.add (a : Acct) (b cls : Nat) (c : Int) : Acct :=
  let x := Tbl.get (fun _ => Bucket.init) a.buckets b
  let up (v : Nat) : Nat := ((v : Int) + c).toNat
  let x := match cls with
    | 0 => { x with bcn := up x.bcn }
    | 1 => { x with ack := up x.ack }
    | _ => { x with gen := up x.gen }
  { a with buckets := Tbl.put (fun _ => Bucket.init) a.buckets b x }

/-- N_b: the largest number of beacons in one window (R379). -/
def beaconsPerWindow (code : Nat) : Nat := ceilDiv (windowNs code) 8192000000 + 1

/-- What admitting lane `n` for beaconing comes to (R379, R380): the keys and what its beacons reserve in each, or the reason
why the lane is unfit with the account and the reserve it would need. -/
def fitLane (s : State) (x : AcctSet) (bcnMax n : Nat) (cfg : Word) : Except (Nat × Nat × Nat) (List Nat × Nat) :=
  let t := beaconTx s n cfg 30
  let c := txCharge s n t
  let e := txEdges s n t
  if !chDefined s n t.channel then .error (2, 0, 0)
  else match accountsOf x.code e.1 e.2 with
    | none => .error (2, 0, 0)
    | some as =>
      if frameLimit x.code < c then .error (3, as.headD 0, 0)
      else
        let need := beaconsPerWindow x.code * c
        match as.find? (fun a => budgetNs x.code a * bcnMax < 100 * ((x.acct (x.key n a)).reserve + need)) with
        | some a => .error (1, a, (x.acct (x.key n a)).reserve + need)
        | none => .ok (as.map (x.key n), need)

/-- The reserves and the fitness of every lane (R379, R380). -/
def fitAll (s : State) (x : AcctSet) (bcnMax : Nat) (cfg : Nat → Word) : State × AcctSet :=
  let x := { x with accts := x.accts.map (fun e => (e.1, { e.2 with reserve := 0 })), fit := 0 }
  [0, 1, 2, 3].foldl (fun acc n =>
    if x.code = 0 || !bit (cfg n).toNat 31 then acc
    else match fitLane acc.1 acc.2 bcnMax n (cfg n) with
      | .ok (ks, need) =>
        (acc.1, { ks.foldl (fun y k => y.put k { y.acct k with reserve := (y.acct k).reserve + need }) acc.2 with
                  fit := acc.2.fit ||| 2 ^ n })
      | .error (why, a, need) =>
        (setCause (acc.1.event 0x1D 0 0x0A01 2
          (leBytes 1 n ++ leBytes 1 a ++ leBytes 4 (need / 1000000) ++ leBytes 1 why)) 0x1D 1, acc.2)) (s, x)

/-- The 16 buckets before the current one as though all but the beacon reserve had been used (R377). -/
def presetAcct (boot code : Nat) (k : Nat) (a : Acct) : Acct :=
  let g := boot * (budgetNs code (k % 256) - a.reserve) / 1600
  if g = 0 then a else { a with buckets := (List.range 16).map (fun b => (b, { Bucket.init with gen := g })) }

/-- The accounts of a profile as they are built (R374, R377, R383): reserves first, then the preset. -/
def buildAccounts (s : State) (code : Nat) (perLane : Bool) (cfg : Nat → Word) : State × AcctSet :=
  let x : AcctSet := { code := code, perLane := perLane, accts := [], bucket := 16, since := s.dev.upCycles, fit := 0 }
  let r := fitAll s x (bitsOf s.rgl.rsv.toNat 8 8) cfg
  let keys := (if perLane then [0, 1, 2, 3] else [0]).flatMap (fun n => (List.range (acctCount code)).map (fun a => 256 * n + a))
  (r.1, keys.foldl (fun y k => y.put k (presetAcct (s.fld F.RGL_BOOT_CFG_BOOT_CHARGE) code k (y.acct k))) r.2)

/-- The bucket that contains an instant of the device's own time base, which runs in cycles of 4 ns (R376). -/
def AcctSet.bucketAt (x : AcctSet) (cycles : Nat) : Nat :=
  let len := windowNs x.code / 16
  if len = 0 then x.bucket else max x.bucket (16 + (cycles - x.since) * 4 / len)

/-! ### Grants (R378–R382, R386, R387) -/

/-- The class of a transmission for the admission test: beacon, acknowledgement (also a downlink sent in place of one), other
(R378). -/
def Tx.cls (t : Tx) : Nat := if t.kind = 0 then 0 else if t.kind = 1 then 1 else 2

/-- The admission test of one account (R378). -/
def admits (s : State) (x : AcctSet) (k cls c : Nat) : Bool :=
  let a := x.acct k
  let u := a.sums
  let b := budgetNs x.code (k % 256)
  match cls with
  | 0 => u.bcn + u.ack + u.gen + c ≤ b
  | 1 => u.ack + u.gen + c + a.reserve ≤ b
  | _ => u.gen + c + a.reserve + b * bitsOf s.rgl.rsv.toNat 0 8 / 100 ≤ b

/-- The pin power ceiling in 0.5 dBm (R386). -/
def ceilingOf (s : State) (n code : Nat) (as : List Nat) : Int :=
  eirpOf code (as.headD 0) - signed 8 (s.fld (F.RGL_EXT_GAIN_TX_GAIN n))

/-- What RGL answers for a transmission under an account set: its keys and its charge, or the reason for withholding it and
the account that failed. -/
def judge (s : State) (x : AcctSet) (n : Nat) (t : Tx) : Except (Nat × Nat) (List Nat × Nat) :=
  let e := txEdges s n t
  let c := txCharge s n t
  if x.code = 0 then .error (5, 0)
  else match accountsOf x.code e.1 e.2 with
    | none => .error (3, 0)
    | some as =>
      let ks := as.map (x.key n)
      if frameLimit x.code < c then .error (2, 0)
      else if ceilingOf s n x.code as < -47 then .error (6, 0)
      else if t.kind = 0 && !bit x.fit n then .error (1, ks.headD 0)
      else match ks.find? (fun k => !admits s x k t.cls c) with
        | some k => .error (1, k)
        | none => .ok (ks, c)

/-- Whether a START is decided under the next profile (R383). -/
def underNext (s : State) (start : Nat) : Bool := s.rgl.next.isSome && nextStart s ≤ start

/-- The account set a START is decided under (R383). -/
def setFor (s : State) (start : Nat) : AcctSet :=
  if underNext s start then s.rgl.next.getD s.rgl.cur else s.rgl.cur

/-- Storing the account set that a START is decided under. -/
def putSet (s : State) (start : Nat) (x : AcctSet) : State :=
  if underNext s start then { s with rgl := { s.rgl with next := some x } } else { s with rgl := { s.rgl with cur := x } }

/-- A withholding with its counts, causes and the BUDGET_EXHAUST event (R387). -/
def withheld (s : State) (n : Nat) (t : Tx) (why k : Nat) : State :=
  let s := s.count F.RGL_WITHHELD_COUNT 1
  match why with
  | 1 =>
    let x := setFor s t.start
    let a := x.acct k
    let s := setCause s 0x1D 0
    if a.told then s
    else
      let u := a.sums
      let use := match t.cls with
        | 0 => u.bcn
        | 1 => u.ack
        | _ => u.gen
      (putSet s t.start (x.put k { a with told := true })).event 0x1D 0 0x0A00 1
        (leBytes 1 (k % 256) ++ leBytes 1 (if x.perLane then n else 0xFF) ++ leBytes 1 t.cls ++ leBytes 4 (use / 1000000))
  | 4 => s
  | 5 => s.count F.RGL_NO_PROFILE_COUNT 1
  | _ => setCause (s.count F.RGL_OUT_OF_PROFILE_COUNT 1) 0x1D 4

/-- A request for a grant (R378, R381): the transmission with its charge standing in its accounts, or withheld. -/
def grant (s : State) (n : Nat) (t : Tx) : Option Tx × State :=
  let x := setFor s t.start
  match judge s x n t with
  | .error (why, k) => (none, withheld s n t why k)
  | .ok (ks, c) =>
    let b := x.bucketAt (s.dev.upCycles + (t.start - s.nowNs) / 4)
    let x := ks.foldl (fun y k => y.put k ((y.acct k).add b t.cls c)) x
    (some { t with stage := 1, charge := c, accts := ks, bucket := b },
     (putSet s t.start x).count F.RGL_GRANTS_COUNT 1)

/-- A charge changed in every bucket it was added to. -/
def recharge (s : State) (t : Tx) (diff : Int) : State :=
  putSet s t.start (t.accts.foldl (fun y k => y.put k ((y.acct k).add t.bucket t.cls diff)) (setFor s t.start))

/-- A granted transmission that never radiated: its charge is removed and counted (R382). -/
def refund (s : State) (t : Tx) : State := (recharge s t (-(t.charge : Int))).count F.RGL_REFUNDS_COUNT 1

/-- The charge corrected at the turnaround for the PA_SETTLE sampled there (R373). -/
def correctCharge (s : State) (n : Nat) (t : Tx) : Tx × State :=
  let c := txCharge s n t
  ({ t with charge := c }, if c = t.charge then s else recharge s t ((c : Int) - t.charge))

/-! ### Buckets and profile changes (R375, R376, R383) -/

/-- A bucket of W/16 ends: the oldest leaves the window of every account. -/
def bucketBoundary (s : State) : State :=
  let x := s.rgl.cur
  let b := x.bucket + 1
  let step (a : Acct) : Acct := { a with buckets := a.buckets.filter (fun e => b ≤ e.1 + 16), told := false }
  let accts := Tbl.mapVals (fun _ => Acct.init) (fun _ a => step a) x.accts
  { s with rgl := { s.rgl with cur := { x with bucket := b, accts := accts } } }

/-- RGL_BUCKET_BOUNDARY. -/
def execRglBucketBoundary (s : State) : Result := .next (if s.answers && s.rgl.cur.code != 0 then bucketBoundary s else s)

/-- A write of the bits `mask` of `PROFILE` or `RGL.CTRL`: a change is scheduled (R374, R383). -/
def profileWrite (s : State) (src : Requester) (a : Nat) (data mask : Word) : State :=
  let old := s.reg a
  let s := writeFields s src a data mask
  if s.reg a = old then s
  else ({ s with rgl := { s.rgl with due := true } }).setFld F.RGL_STATUS_PENDING (s.fld F.RGL_PROFILE_CODE)

/-- PROFILE_WRITE. `ctrl`: the write is of `RGL.CTRL`, which holds PER_LANE. -/
def execProfileWrite (src : Requester) (ctrl : Bool) (data : Word) (s : State) : Result :=
  let a := if ctrl then A.RGL_CTRL else A.RGL_PROFILE
  .next (gateWrite s src a (fun s => profileWrite s src a data allBits))

/-- The new accounts built 10 ms before the boundary at which the profile changes (R383). -/
def profilePrepare (s : State) : State :=
  let r := buildAccounts s (s.fld F.RGL_PROFILE_CODE) (s.flag F.RGL_CTRL_PER_LANE) (fun n => s.reg (A.MAC_BCN_CFG n))
  { r.1 with rgl := { r.1.rgl with next := some r.2, due := false } }

/-- PROFILE_PREPARE. -/
def execProfilePrepare (s : State) : Result := .next (if s.answers && s.rgl.due then profilePrepare s else s)

/-- Transmissions keep no charge in accounts that are discarded. -/
def forgetCharges (s : State) : State :=
  [0, 1, 2, 3].foldl (fun (t : State) n =>
    if (t.lane n).txs.all (fun x => x.accts.isEmpty || superStart s (sfnNow s) ≤ x.start) then t
    else setTxs t n ((t.lane n).txs.map (fun x => if superStart s (sfnNow s) ≤ x.start then x else { x with accts := [] }))) s

/-- The superframe boundary as RGL sees it (R379, R380, R383): a prepared profile takes effect, and the reserves and the fitness follow a
change of `RSV_CFG` or, with `changed`, of a beacon configuration. -/
def reglBoundary (s : State) (changed : Bool) : State :=
  let rsv := s.reg A.RGL_RSV_CFG
  let changed := changed || rsv != s.rgl.rsv
  let s := { s with rgl := { s.rgl with rsv := rsv } }
  let refit (s : State) (x : AcctSet) : State × AcctSet := if changed then fitAll s x (bitsOf rsv.toNat 8 8) (bcnCfg s) else (s, x)
  match s.rgl.next with
  | some y =>
    let r := refit s y
    let s := r.1
    let x := r.2
    let old := s.fld F.RGL_STATUS_ACTIVE
    let s := forgetCharges s
    let s := { s with rgl := { s.rgl with cur := x, next := none } }
    let s := s.setFld F.RGL_STATUS_ACTIVE x.code
    let s := s.setFld F.RGL_STATUS_PENDING (if s.rgl.due then s.fld F.RGL_PROFILE_CODE else x.code)
    let s := setCause (s.setFld F.RGL_STATUS_BCN_FIT x.fit) 0x1D 2
    s.event 0x1D 0 0x0A02 1 (leBytes 1 old ++ leBytes 1 x.code ++ leBytes 1 x.fit)
  | none =>
    let r := refit s s.rgl.cur
    if changed then ({ r.1 with rgl := { r.1.rgl with cur := r.2 } }).setFld F.RGL_STATUS_BCN_FIT r.2.fit else s

/-- The accounts built anew for the profile in effect, as on the bow's takeover of the stroke role (R377). -/
def rebuildAccounts (s : State) : State :=
  let r := buildAccounts s s.rgl.cur.code s.rgl.cur.perLane (bcnCfg s)
  ({ r.1 with rgl := { r.1.rgl with cur := r.2 } }).setFld F.RGL_STATUS_BCN_FIT r.2.fit

/-- A write of the bits `mask` of `ACCT_SEL`: a snapshot of the account (R375). -/
def acctSelWrite (s : State) (src : Requester) (data mask : Word) : State :=
  let s := writeFields s src A.RGL_ACCT_SEL data mask
  let x := s.rgl.cur
  let acct := s.fld F.RGL_ACCT_SEL_ACCOUNT
  let us (ns : Nat) : Word := BitVec.ofNat 32 (ceilDiv ns 1000)
  if acct < acctCount x.code then
    let a := x.acct (x.key (s.fld F.RGL_ACCT_SEL_LANE) acct)
    let u := a.sums
    let cell := match profileOf x.code with
      | some p => p.cell != 0
      | none => false
    let s := s.setReg A.RGL_ACCT_INFO (BitVec.ofNat 32 (2 ^ 31 + (if cell then 1 else 2) * 2 ^ 24 + windowNs x.code / 1000000))
    let s := s.setReg A.RGL_ACCT_BUDGET (us (budgetNs x.code acct))
    let s := s.setReg A.RGL_ACCT_USED (us (u.bcn + u.ack + u.gen))
    (s.setReg A.RGL_ACCT_BCN (us u.bcn)).setReg A.RGL_ACCT_RSV (us a.reserve)
  else
    let s := (s.setReg A.RGL_ACCT_INFO 0#32).setReg A.RGL_ACCT_BUDGET 0#32
    ((s.setReg A.RGL_ACCT_USED 0#32).setReg A.RGL_ACCT_BCN 0#32).setReg A.RGL_ACCT_RSV 0#32

/-- ACCT_SEL_WRITE. -/
def execAcctSelWrite (src : Requester) (data : Word) (s : State) : Result :=
  .next (gateWrite s src A.RGL_ACCT_SEL (fun s => acctSelWrite s src data allBits))

end Sys2Proof.Machine
end

