-- ==== Sys2Proof/Machine/Frames.lean ====
section
/-!
DEFINITION. Sys2Proof/Machine/Frames.lean: mesh frames: their layout (R321), the CCM* nonce and ranges (R568, R569), the
parcels of the Cadastre region (R392), the keys derived from them (R393), and the slot table (R329–R331).
-/
namespace Sys2Proof.Machine

/-! ### Frame control (R321) -/

/-- The fields of FCTL that the device sets. -/
structure Fctl where
  type : Nat
  secured : Bool
  ackReq : Bool
  fpend : Bool
  dir : Bool
  relay : Bool
  cls : Nat
  micLen : Nat
  ackf : Bool
  deriving DecidableEq, Repr

/-- FCTL as a number. -/
def Fctl.word (f : Fctl) : Nat :=
  f.type % 8 + 8 * b01 f.secured + 16 * b01 f.ackReq + 32 * b01 f.fpend + 64 * b01 f.dir + 128 * b01 f.relay
    + 256 * (f.cls % 4) + 1024 * (f.micLen % 4) + 4096 * b01 f.ackf

/-- Fields of a frame's FCTL. -/
def fctlOf (bs : List Byte) : Nat := fieldAt bs 0 2
def fType (bs : List Byte) : Nat := bitsOf (fctlOf bs) 0 3
def fSecured (bs : List Byte) : Bool := bit (fctlOf bs) 3
def fAckReq (bs : List Byte) : Bool := bit (fctlOf bs) 4
def fFpend (bs : List Byte) : Bool := bit (fctlOf bs) 5
def fDir (bs : List Byte) : Bool := bit (fctlOf bs) 6
def fRelay (bs : List Byte) : Bool := bit (fctlOf bs) 7
def fClass (bs : List Byte) : Nat := bitsOf (fctlOf bs) 8 2
def fMicLen (bs : List Byte) : Nat := bitsOf (fctlOf bs) 10 2
def fAckf (bs : List Byte) : Bool := bit (fctlOf bs) 12
def fVersion (bs : List Byte) : Nat := bitsOf (fctlOf bs) 13 3

/-- ROUTER_ID, parcel index and counter of a frame. -/
def fRouter (bs : List Byte) : Nat := fieldAt bs 2 4 / 2 ^ 18
def fParcel (bs : List Byte) : Nat := fieldAt bs 2 4 % 2 ^ 18
def fFcnt (bs : List Byte) : Nat := fieldAt bs 6 4

/-- M of a MICLEN code. -/
def macBytes (micLen : Nat) : Nat := 4 * (micLen % 4 + 1)

/-- Length of a frame's MIC. -/
def fMac (bs : List Byte) : Nat := if fSecured bs then macBytes (fMicLen bs) else 0

/-- The bytes between the header and the MIC, as they stand in the frame. -/
def fRaw (bs : List Byte) : List Byte := (bs.take (bs.length - fMac bs)).drop 10

/-- Header bytes: FCTL, ADDR, FCNT. -/
def headerBytes (f : Fctl) (router parcel fcnt : Nat) : List Byte :=
  leBytes 2 f.word ++ leBytes 4 (router * 2 ^ 18 + parcel % 2 ^ 18) ++ leBytes 4 fcnt

/-- The CCM* nonce of a frame (R569); `lane` counts for a beacon only. -/
def frameNonce (bs : List Byte) (lane : Nat) : List Byte :=
  let t := fType bs
  [BitVec.ofNat 8 (t + 8 * b01 (fDir bs) + 16 * fMicLen bs)] ++ slice bs 2 8
    ++ [BitVec.ofNat 8 (if t = 0 then lane % 4 else 0)] ++ List.replicate 3 0#8

/-- Types whose body is only authenticated: BEACON, ACK, JOIN_REQ (R568). -/
def plainType (t : Nat) : Bool := t == 0 || t == 2 || t == 4

/-- A frame protected by CCM*: header and body in, the frame on the air out (R568). -/
def sealFrame (key bs : List Byte) (lane : Nat) : List Byte :=
  let m := macBytes (fMicLen bs)
  if plainType (fType bs) then bs ++ Config.ccmSeal key (frameNonce bs lane) bs [] m
  else bs.take 10 ++ Config.ccmSeal key (frameNonce bs lane) (bs.take 10) (bs.drop 10) m

/-- A frame verified: its body in plain form (R568). -/
def openFrame (key bs : List Byte) (lane : Nat) : Option (List Byte) :=
  let m := macBytes (fMicLen bs)
  if plainType (fType bs) then
    (Config.ccmOpen key (frameNonce bs lane) (bs.take (bs.length - m)) (bs.drop (bs.length - m)) m).map (fun _ => fRaw bs)
  else Config.ccmOpen key (frameNonce bs lane) (bs.take 10) (bs.drop 10) m

/-! ### Parcels (R392) -/

/-- Parcels of the Cadastre. -/
def parcelCount : Nat := 262144

/-- `n` bytes of parcel `p` from byte `o`, as a number. -/
def pGet (s : State) (p o n : Nat) : Nat := s.ramNat (256 * p + o) n

/-- Storing `n` bytes of parcel `p` from byte `o`. -/
def pSet (s : State) (p o n v : Nat) : State := s.ramStore (256 * p + o) (leBytes n v)

/-- A bit field of byte `o` of parcel `p`. -/
def pBits (s : State) (p o lsb w : Nat) : Nat := bitsOf (s.ram (256 * p + o)).toNat lsb w

/-- Storing a bit field of byte `o`. -/
def pSetBits (s : State) (p o lsb w v : Nat) : State :=
  let b := (s.ram (256 * p + o)).toNat
  pSet s p o 1 (b - bitsOf b lsb w * 2 ^ lsb + v % 2 ^ w * 2 ^ lsb)

/-- A saturating count in `n` bytes. -/
def pCount (s : State) (p o n k : Nat) : State := pSet s p o n (satAdd (8 * n) (pGet s p o n) k)

def pInUse (s : State) (p : Nat) : Bool := p < parcelCount && pBits s p 8 2 1 == 1
def pClass (s : State) (p : Nat) : Nat := pBits s p 8 0 2
def pRelayed (s : State) (p : Nat) : Bool := pBits s p 8 3 1 == 1
def pLink (s : State) (p : Nat) : Nat := pBits s p 9 0 2
def pSess (s : State) (p : Nat) : Bool := pBits s p 9 2 1 == 1
def pPend (s : State) (p : Nat) : Bool := pBits s p 9 3 1 == 1
def pMicLen (s : State) (p : Nat) : Nat := pBits s p 9 4 2
def pRoot (s : State) (p : Nat) : Nat := pGet s p 10 2 % 512
def pParent (s : State) (p : Nat) : Nat := pGet s p 20 4 % 2 ^ 18
def pPeer (s : State) (p : Nat) : Nat := pGet s p 24 2 % 4096
def pPeerValid (s : State) (p : Nat) : Bool := bit (pGet s p 24 2) 15
def pSf (s : State) (p : Nat) : Nat := pGet s p 121 1
def pSigned (s : State) (p o : Nat) : Int := signed 8 (pGet s p o 1)

/-- The parcels in use, in increasing index. -/
def usedParcels (s : State) : List Nat :=
  s.dram.filterMap (fun c => if c.1 < 0x4000000 && c.1 % 256 = 8 && bit c.2.toNat 2 then some (c.1 / 256) else none)

/-- The parcel of an EUI64. -/
def findEui (s : State) (eui : List Byte) : Option Nat := (usedParcels s).find? (fun p => s.ramBytes (256 * p) 8 == eui)

/-- The parcel that holds peer index `i`. -/
def findPeer (s : State) (i : Nat) : Option Nat := (usedParcels s).find? (fun p => pPeerValid s p && pPeer s p == i)

/-! ### Keys of a node (R393, R556, R557, R566) -/

/-- A slot's key as KDF input, for keys that the CCM* engines may use with a usage bit. -/
def kdfRoot (s : State) (slot usage : Nat) : Option (List Byte) :=
  if bit (s.slot slot).attr destCcm && bit (s.slot slot).attr usage then slotKey s slot destKdf else none

/-- Usage bits of R554. -/
def useEnc : Nat := 8
def useDec : Nat := 9

/-- The node key of a parcel. -/
def nodeKey (s : State) (p usage : Nat) : Option (List Byte) :=
  (kdfRoot s (pRoot s p) usage).map (fun k => kdf k labelNode (s.ramBytes (256 * p) 8) 128)

/-- The current session key. -/
def sessKey (s : State) (p usage : Nat) : Option (List Byte) :=
  (nodeKey s p usage).map (fun k =>
    kdf k labelSess (s.ramBytes (256 * p + 36) 4 ++ s.ramBytes (256 * p + 40) 4 ++ s.ramBytes (256 * p + 32) 4) 128)

/-- EPOCH of the current and of the pending session. -/
def sessEpoch (s : State) (p : Nat) : Nat := pGet s p 32 4
def pendEpoch (s : State) (p : Nat) : Nat := pGet s p 44 4

/-- The pending session key. -/
def pendKey (s : State) (p usage : Nat) : Option (List Byte) :=
  (nodeKey s p usage).map (fun k =>
    kdf k labelSess (s.ramBytes (256 * p + 48) 4 ++ s.ramBytes (256 * p + 52) 4 ++ s.ramBytes (256 * p + 44) 4) 128)

/-- The key of `UPD.KEY_CFG.SLOT`, which feeds the KDF and whose derived keys may be sent to nodes (R434, R556, R571). -/
def deliverRoot (s : State) : Option (List Byte) :=
  let n := s.fld F.UPD_KEY_CFG_SLOT
  if bit (s.slot n).attr 13 then slotKey s n destKdf else none

/-- The multicast key of a session (R434). -/
def mcKey (s : State) (session group : Nat) : Option (List Byte) :=
  (kdfRoot s (s.fld F.UPD_KEY_CFG_SLOT) useEnc).map (fun k => kdf k labelUpdm (leBytes 4 session ++ leBytes 4 group) 128)

/-- A CCM* request to protect a frame: the frame, or none where the key may not be used (R557, R570). -/
def ccmProtect (s : State) (key : Option (List Byte)) (bs : List Byte) (lane : Nat) : Option (List Byte) × State :=
  let s := s.count F.CRY_CCM_OPS_COUNT 1
  match key with
  | some k => (some (sealFrame k bs lane), s)
  | none => (none, denied s)

/-! ### The slot table (R329–R332) -/

/-- Start of the slot table in DRAM (R18, R329). -/
def slotBase : Nat := 0x06A00000

/-- Words of entry `e`. -/
def entryW0 (s : State) (e : Nat) : Nat := s.ramNat (slotBase + 8 * e) 4
def entryW1 (s : State) (e : Nat) : Nat := s.ramNat (slotBase + 8 * e + 4) 4

/-- Storing entry `e`. -/
def putEntry (s : State) (e w0 w1 : Nat) : State := s.ramStore (slotBase + 8 * e) (leBytes 4 w0 ++ leBytes 4 w1)

/-- Emptying entry `e`: PP = 0 (R330). -/
def emptyEntry (s : State) (e : Nat) : State :=
  let s := s.ramStore (slotBase + 8 * e + 3) [0#8]
  { s with mac := { s.mac with sized := Tbl.put (fun _ => 0) s.mac.sized e 0 } }

/-- Fields of an entry. -/
def ePp (w0 : Nat) : Nat := bitsOf w0 24 8
def eType (w0 : Nat) : Nat := bitsOf w0 22 2
def eLane (w0 : Nat) : Nat := bitsOf w0 20 2
def eChannel (w0 : Nat) : Nat := bitsOf w0 12 8
def eSfc (w0 : Nat) : Nat := bitsOf w0 9 3
def eLen (w0 : Nat) : Nat := bitsOf w0 0 9
def eTick (w1 : Nat) : Nat := bitsOf w1 18 13
def eOwner (w1 : Nat) : Nat := bitsOf w1 0 18
def eKind (w1 : Nat) : Nat := bitsOf w1 14 4
def eIndex (w1 : Nat) : Nat := bitsOf w1 0 14

/-- Period and phase of a PP value (R330). -/
def ppPeriod (pp : Nat) : Nat := 2 ^ Nat.log2 pp
def ppPhase (pp : Nat) : Nat := pp - ppPeriod pp

/-- The entries that are not empty, in increasing index. -/
def usedEntries (s : State) : List Nat :=
  s.dram.filterMap (fun c =>
    if slotBase ≤ c.1 && c.1 < slotBase + 0x800000 && (c.1 - slotBase) % 8 = 3 && c.2 != 0#8 then some ((c.1 - slotBase) / 8)
    else none)

/-- The lowest empty entry. -/
def freeEntry (s : State) : Nat :=
  (usedEntries s).foldl (fun n e => if e = n then n + 1 else n) 0

/-- A SPECIAL entry of a kind and an index. -/
def isSpecial (w0 w1 kind index : Nat) : Bool := eType w0 == 3 && eKind w1 == kind && eIndex w1 == index

/-- The entries of a node: UPLINK, DOWNLINK, PEER. -/
def nodeEntries (s : State) (p : Nat) : List Nat :=
  (usedEntries s).filter (fun e => eType (entryW0 s e) != 3 && eOwner (entryW1 s e) == p)

/-- A node's entry of a type. -/
def nodeEntry (s : State) (p type : Nat) : Option Nat := (nodeEntries s p).find? (fun e => eType (entryW0 s e) == type)

/-- Two entries of one lane that occupy a common tick in some superframe (R332). -/
def entriesOverlap (a0 a1 b0 b1 : Nat) : Bool :=
  let p := min (ppPeriod (ePp a0)) (ppPeriod (ePp b0))
  eLane a0 == eLane b0 && ppPhase (ePp a0) % p == ppPhase (ePp b0) % p
    && eTick a1 < eTick b1 + 4 * eLen b0 && eTick b1 < eTick a1 + 4 * eLen a0

/-- BCN_RES of a lane in ticks (R326). -/
def bcnRes (s : State) (n : Nat) : Nat := ceilDiv (beaconTx s n (bcnCfg s n) 30).airUs 1000 + 1

/-- The last tick, exclusive, that an entry may reach: 8,191, or 8,185 under a profile with LBT (R332, R385). -/
def lastTick (s : State) : Nat := if lbtOn s then 8185 else 8191

/-- Reserved field values of an entry (R329, R331). -/
def entryReserved (w0 w1 : Nat) : Bool :=
  eSfc w0 == 7 || eLen w0 == 0 || bit w1 31
    || (eType w0 == 3 && (4 < eKind w1 || (eKind w1 < 2 && 63 < eIndex w1) || ((eKind w1 == 2 || eKind w1 == 4) && eIndex w1 != 0)))

/-- Why an entry is not valid against the entries `others` (R332, R368): the reason and the entry overlapped. -/
def entryFault (s : State) (w0 w1 : Nat) (others : List Nat) : Option (Nat × Nat) :=
  if entryReserved w0 w1 then some (1, 0)
  else if eTick w1 < bcnRes s (eLane w0) then some (2, 0)
  else if lastTick s < eTick w1 + 4 * eLen w0 then some (3, 0)
  else if !chDefined s (eLane w0) (eChannel w0) then some (5, 0)
  else (others.find? (fun e => entriesOverlap w0 w1 (entryW0 s e) (entryW1 s e))).map (fun e => (4, e))

/-- PE13 examines every entry in increasing index (R333): one that is not valid, or overlaps one of lower index, is
emptied. -/
def recheckEntries (s : State) : State :=
  (usedEntries s).foldl (fun (t : State) e =>
    let w0 := entryW0 t e
    let w1 := entryW1 t e
    match entryFault t w0 w1 ((usedEntries t).filter (· < e)) with
    | none => t
    | some (why, o) =>
      let t := setCause ((emptyEntry t e).count F.MAC_SLOT_REJECT_COUNT 1) 0x1C 8
      t.event 0x1C 0 0x0909 2 (leBytes 4 e ++ leBytes 1 why ++ leBytes 4 o)) s

/-! ### Timing of a node's entries (R336–R338) -/

/-- G in µs for a time in ns: BASE + ceil(PPM × Δt) (R336). -/
def guardUs (base ppm ns : Nat) : Nat := base + ceilDiv (ppm * ns) 1000000000

/-- LEAD of a node's entry in ms (R337). -/
def leadMs (s : State) (p period : Nat) : Nat := ceilDiv (4 * guardUs (pGet s p 62 2) (pGet s p 60 1) (period * 8192000000)) 1000

end Sys2Proof.Machine
end

