-- ==== Sys2Proof/Machine/Mirror.lean ====
section
/-!
DEFINITION. Sys2Proof/Machine/Mirror.lean: what the rest of the device needs of the stroke and the bow: roles, and the items
sent on the mirror link (R624, R631–R635).
-/
namespace Sys2Proof.Machine

/-- State of the mirror link: 0 DOWN, 1 TRAINING, 2 SYNCING, 3 PAIRED (R630). -/
def link (s : State) : Nat := s.fld F.RED_STATUS_LINK

/-- The chip acts as a bow: in READY with the role BOW or TAKING; outside READY the role confers nothing (R624). -/
def asBow (s : State) : Bool := s.ready && 2 ≤ role s

/-- In READY, or in the superframe in progress at the entry to MAINTENANCE (R31). -/
def onDuty (s : State) : Bool := s.ready || (s.answers && s.devState == 3 && !s.dev.maintLanes.isEmpty)

/-- Lane `n` is in READY, or completes the superframe in progress at the entry to MAINTENANCE (R28). -/
def laneOnDuty (s : State) (n : Nat) : Bool := s.ready || (s.answers && s.devState == 3 && s.dev.maintLanes.contains n)

/-- HOLD-UP, in which no new transmission starts (R688). -/
def holdUp (s : State) : Bool := s.fld F.SYS_STATUS_PWR_MODE == 2

/-- No new transmission starts: in HOLD-UP, or once WATCH_ENTER has been taken (R688, R691). -/
def winding (s : State) : Bool := holdUp s || s.pow.entry.isSome

/-- The MAC may make new transmissions on lane `n` (R28, R624, R685, R688). -/
def mayTransmit (s : State) (n : Nat) : Bool :=
  laneOnDuty s n && laneServed s n && roleTransmits s && !winding s && !(s.fld F.SYS_STATUS_PWR_MODE == 1 && n != 0)

/-- ILK_OUT is active (R625, R627, R628, R644). -/
def ilkOut (s : State) : Bool := onDuty s && (!s.red.en || (role s == 1 && !s.red.backoff && !s.red.offered))

/-- The interlock gate is open (R627); alone, the chip ignores ILK_IN (R625). -/
def gateOpen (s : State) : Bool := ilkOut s && (!s.red.en || !s.flag F.RED_STATUS_ILK_IN || !s.flag F.RED_CFG_ILK_EN)

/-- Storing the state of RED. -/
def State.setRed (s : State) (r : Red) : State := { s with red := r }

/-- A change of role with its cause: 1 decision at READY, 2 takeover, 3 relinquished, 4 conflict (R645). -/
def setRole (s : State) (new cause : Nat) : State :=
  if role s = new then s
  else
    let s := s.event 0x31 0 0x1300 1 (leBytes 1 (role s) ++ leBytes 1 new ++ leBytes 1 cause)
    setCause (s.setFld F.RED_STATUS_ROLE new) 0x31 0

/-- A takeover refused or abandoned (R643): reason 1 not FRESH, 2 interlock held. The chip is BOW. -/
def tkoFails (s : State) (trigger reason : Nat) : State :=
  let s := setRole (s.setRed { s.red with takeover := none }) 2 2
  let s := (s.setFld F.RED_LAST_TKO_TRIGGER trigger).setFld F.RED_LAST_TKO_RESULT reason
  setCause ((s.count F.RED_TKO_FAILS_COUNT 1).event 0x31 0 0x1303 4 (leBytes 1 trigger ++ leBytes 1 reason)) 0x31 3

/-- A trigger reaches the bow (R639, R640, R643): a takeover falls due, or is refused where the bow is not FRESH. -/
def tkoTrigger (s : State) (trigger upTo : Nat) : State :=
  if !(s.ready && role s == 2) || s.red.takeover.isSome then s
  else if !s.flag F.RED_STATUS_FRESH || !s.red.wasPaired then tkoFails s trigger 1
  else s.setRed { s.red with takeover := some { trigger := trigger, since := s.dev.upCycles, upTo := upTo, started := false } }

/-- The operation of FORCE_TKO ends: one that is pending starts at once, on a bow as a trigger and elsewhere without effect (R48, R639). -/
def forceEnds (s : State) : State :=
  if s.flag F.RED_CTRL_FORCE_TKO then
    let g := endGo s A.RED_CTRL 8
    if !g.2 then g.1
    else
      let t := tkoTrigger g.1 4 0
      if t.red.takeover.isSome then t else (endGo t A.RED_CTRL 8).1
  else s

/-- One item sent in a frame of its own, kept until it is acknowledged (R631). -/
def sendItem (s : State) (i : MirrorItem) : State :=
  let m := s.red.txNext
  let s := s.setRed { s.red with txNext := (m + 1) % 2 ^ 32, unacked := s.red.unacked ++ [(m, [i])] }
  (s.count F.RED_ITEMS_TX_COUNT 1).send (.mirror m s.red.rxLast [i])

/-- Start of the route records in DRAM (R18, R416). -/
def routeBase : Nat := 0x4000000 + 4 * 442368

/-- The mirrored parts of the DRAM: parcels, route records, slot entries (R632). -/
def mirrored (a : Nat) : Bool :=
  a < 0x4000000 || (routeBase ≤ a && a < 0x4200000) || (slotBase ≤ a && a < slotBase + 0x800000)

/-- The addresses at which two memories differ, those of the first and then those that only the second lists. -/
def differs (a b : List Host.Cell) : List Nat :=
  (a.filter (fun c => Tbl.get dramByte b c.1 != c.2)).map (fun c => c.1)
    ++ (b.filter (fun c => Tbl.get dramByte a c.1 == 0#8)).map (fun c => c.1)

/-- The record an address lies in: a parcel, a route record, or a slot entry, by its first address. -/
def recordBase (a : Nat) : Nat :=
  if a < 0x4000000 then a - a % 256
  else if a < 0x4200000 then a - (a - routeBase) % 80
  else a - a % 8

/-- The items that tell the change of one record (R632). -/
def recordItems (s : State) (changed : List Nat) (b : Nat) : List MirrorItem :=
  let here := changed.filter (fun a => recordBase a == b)
  if b < 0x4000000 then
    let rsv := here.filter (fun a => 76 ≤ a - b && a - b < 80)
    let rest := here.filter (fun a => a - b < 76 || 80 ≤ a - b)
    (match rest with
      | [] => []
      | f :: t =>
        let lo := t.foldl min f
        let hi := t.foldl max f
        [.parcelDelta (b / 256) (lo - b) (s.ramBytes lo (hi + 1 - lo))])
      ++ (if rsv.isEmpty then [] else [.cntRsv (b / 256) (s.ramNat (b + 76) 4)])
  else if b < 0x4200000 then [.routeDelta ((b - routeBase) / 80) (s.ramBytes b 80)]
  else [.slotDelta ((b - slotBase) / 8) (s.ramNat b 4) (s.ramNat (b + 4) 4)]

/-- What the partner is told of a key slot: twice its epoch, plus one for a slot that serves a key; 0 for one never used. -/
def keyMark (x : Slot) : Nat := 2 * x.epoch + b01 x.usable

/-- The item for a key slot that has changed (R632); none while the key-encryption slot cannot wrap. -/
def keyItem (s : State) (n : Nat) : Option MirrorItem :=
  let x := s.slot n
  let kek := s.fld F.RED_CFG_KEK_SLOT
  if n = kek then none
  else if x.usable then
    (slotKeyUse s kek none 10).map (fun k => .keyEpoch n x.epoch x.attr (some (Config.wrapKey k x.key)))
  else some (.keyEpoch n x.epoch 0 none)

/-- The key slots whose epoch or use has changed since it was sent. -/
def changedKeys (s : State) : List Nat :=
  (s.sec.slots.filter (fun e => (e.2.state == 0 || e.2.state == 1)
    && keyMark e.2 != Tbl.get (fun _ => 0) s.red.epochs e.1)).map (fun e => e.1)

/-- The commits made since the last items are sent: keys, then records in increasing address (R631, R632). The items are built
from the differences, so that several updates of one record between two frames go as one. -/
def mirrorFlush (s : State) : State :=
  if !(s.ready && role s == 1 && link s == 3) then s
  else
    let keys := (changedKeys s).filterMap (fun n => (keyItem s n).map (fun i => (n, i)))
    let epochs := keys.foldl (fun t e => Tbl.put (fun _ => 0) t e.1 (keyMark (s.slot e.1))) s.red.epochs
    let now := s.dram.filter (fun c => mirrored c.1)
    let changed := differs now s.red.image
    let bases := ((changed.map recordBase).foldl (fun bs b => insertNat b (bs.filter (· != b))) [])
    let items := keys.map (fun e => e.2) ++ bases.flatMap (recordItems s changed)
    items.foldl sendItem (s.setRed { s.red with image := now, epochs := epochs })

/-- Reservations of a parcel that the bow has not acknowledged (R634). -/
def openReservations (s : State) (p : Nat) : Nat :=
  (s.red.unacked.filter (fun f => f.2.any (fun i => match i with
    | .cntRsv q _ => q == p
    | _ => false))).length

end Sys2Proof.Machine
end

