-- ==== Sys2Proof/Machine/Mailbox.lean ====
section
/-!
DEFINITION. Sys2Proof/Machine/Mailbox.lean: the mailbox of a node, the frames built from it, and how long a downlink may be
(R348–R353, R402, R403, R406, R411, R420).
-/
namespace Sys2Proof.Machine

/-! ### Entries (R406) -/

/-- A mailbox entry. -/
structure Mbx where
  buf : Nat
  /-- 0 DL_SEND, 1 generated message, 2 relay unit -/
  kind : Nat
  ackReq : Bool
  mode1 : Bool
  cls : Nat
  enc : Bool
  len : Nat
  retries : Nat
  attempts : Nat
  late : Bool
  deriving DecidableEq, Repr

/-- The eight bytes of an entry, VALID set. -/
def Mbx.word (m : Mbx) : Nat :=
  m.buf % 2 ^ 24 + 2 ^ 24 * (m.kind % 4) + 2 ^ 26 * b01 m.ackReq + 2 ^ 27 * b01 m.mode1 + 2 ^ 28 * (m.cls % 4)
    + 2 ^ 30 * b01 m.enc + 2 ^ 31 + 2 ^ 32 * (m.len % 2048) + 2 ^ 48 * (m.retries % 8) + 2 ^ 51 * (m.attempts % 16)
    + 2 ^ 55 * b01 m.late

/-- The entry that eight bytes hold. -/
def Mbx.ofNat (w : Nat) : Mbx :=
  { buf := bitsOf w 0 24, kind := bitsOf w 24 2, ackReq := bit w 26, mode1 := bit w 27, cls := bitsOf w 28 2, enc := bit w 30,
    len := bitsOf w 32 11, retries := bitsOf w 48 3, attempts := bitsOf w 51 4, late := bit w 55 }

/-- MBX_HEAD and MBX_COUNT. -/
def mbxHead (s : State) (p : Nat) : Nat := pBits s p 224 0 3
def mbxCount (s : State) (p : Nat) : Nat := pBits s p 224 3 4

/-- Offset of the `i`-th pending entry in its parcel. -/
def mbxOff (s : State) (p i : Nat) : Nat := 160 + 8 * ((mbxHead s p + i) % 8)

/-- The `i`-th pending entry. -/
def mbxAt (s : State) (p i : Nat) : Mbx := Mbx.ofNat (pGet s p (mbxOff s p i) 8)

/-- Storing the `i`-th pending entry. -/
def putMbx (s : State) (p i : Nat) (m : Mbx) : State := pSet s p (mbxOff s p i) 8 m.word

/-- What buffer `b` holds. -/
def dlOf (s : State) (b : Nat) : Option Dl := s.cad.dls.find? (fun d => d.buf == b)

/-- Storing what a buffer holds. -/
def putDl (s : State) (d : Dl) : State :=
  { s with cad := { s.cad with dls := s.cad.dls.map (fun x => if x.buf == d.buf then d else x) } }

/-- The head downlink of a node. -/
def headDl (s : State) (p : Nat) : Option (Mbx × Dl) :=
  if mbxCount s p = 0 then none else (dlOf s (mbxAt s p 0).buf).map (fun d => (mbxAt s p 0, d))

/-- A downlink without content. -/
def Dl.blank : Dl :=
  { buf := 0, parcel := 0, cmd := none, tag := none, payload := [], frame := [], fcnt := 0, sent := false, sec := 0, ns := 0, lane := 0,
    sf := 0, endAt := 0, stepped := 0, window := false, carries := none, cells := [] }

/-- An entry put behind the pending ones of node `p`: its position, or none where the mailbox is full or no cell is free. -/
def enterMailbox (s : State) (p : Nat) (m : Mbx) (d : Dl) : Option (Nat × State) :=
  let n := mbxCount s p
  if 8 ≤ n then none
  else
    let need := max 1 (ceilDiv d.payload.length 256)
    let (hs, s) := takeCells s true need
    if hs.length < need then none
    else
      let buf := hs.headD 0
      let s := { s with cad := { s.cad with dls := s.cad.dls ++ [{ d with buf := buf, parcel := p, cells := hs }] } }
      let s := putMbx s p n { m with buf := buf, len := d.payload.length }
      some (n, pSetBits s p 224 3 4 (n + 1))

/-- ACK_REQ of a generated message (R364, R409, R419, R432); the spec gives none for the tone map messages. -/
def messageAckReq (id : Nat) : Bool := if id = 1 || id = 2 then Config.toneMapAckReq else true

/-- The entry of a generated message: KIND 1, three retries, class 3 (R406, R473). -/
def messageEntry (body : List Byte) : Mbx :=
  { buf := 0, kind := 1, ackReq := messageAckReq (fieldAt body 0 1), mode1 := false, cls := 3, enc := false,
    len := 0, retries := 3, attempts := 0, late := false }

/-- A message the device generates: into the mailbox, or held outside it, one per MGMT_ID and node (R406). -/
def putMessage (s : State) (p : Nat) (body : List Byte) : State :=
  match enterMailbox s p (messageEntry body) { Dl.blank with payload := body } with
  | some (_, s) => s
  | none =>
    { s with cad := { s.cad with
        held := s.cad.held.filter (fun h => !(h.1 == p && h.2.take 1 == body.take 1)) ++ [(p, body)] } }

/-- The first held message of a node enters a mailbox that has a free place. -/
def enterHeld (s : State) (p : Nat) : State :=
  match s.cad.held.find? (fun h => h.1 == p) with
  | none => s
  | some h =>
    match enterMailbox s p (messageEntry h.2) { Dl.blank with payload := h.2 } with
    | none => s
    | some (_, s) => { s with cad := { s.cad with held := s.cad.held.filter (fun x => x != h) } }

/-- The entries behind position `i` move up by one. -/
def shiftMailbox (s : State) (p i : Nat) : Nat → State
  | 0 => s
  | k + 1 => shiftMailbox (putMbx s p i (mbxAt s p (i + 1))) p (i + 1) k

/-- The `i`-th pending entry leaves the mailbox; at the head, MBX_HEAD advances (R406). -/
def leaveMailbox (s : State) (p i : Nat) : State :=
  let n := mbxCount s p
  let m := mbxAt s p i
  let s := match dlOf s m.buf with
    | some d => freeCells { s with cad := { s.cad with dls := s.cad.dls.filter (fun x => x.buf != m.buf) } } d.cells
    | none => s
  let s :=
    if i = 0 then pSetBits (pSet s p (mbxOff s p 0) 8 0) p 224 0 3 (mbxHead s p + 1)
    else
      let s := shiftMailbox s p i (n - 1 - i)
      pSet s p (mbxOff s p (n - 1)) 8 0
  enterHeld (pSetBits s p 224 3 4 (n - 1)) p

/-- The position of a buffer's entry among the pending ones of node `p`. -/
def positionOf (s : State) (p buf : Nat) : Option Nat := (List.range (mbxCount s p)).find? (fun i => (mbxAt s p i).buf == buf)

/-! ### Where and how a node is reached -/

/-- Sub-channel offset in Hz and bandwidth code of a node: those of its JOIN_REQ (R361). -/
def nodeBand (s : State) (p : Nat) : Int × Nat :=
  let w := Tbl.get (fun _ => 0) s.mac.bands p
  (signed 17 (w / 4), w % 4)

/-- Storing the sub-channel offset and bandwidth of a node. -/
def setBand (s : State) (p : Nat) (off : Int) (bw : Nat) : State :=
  { s with mac := { s.mac with bands := Tbl.put (fun _ => 0) s.mac.bands p (bw % 4 + 4 * unsigned 17 off) } }

/-- A lane's downlink preamble. -/
def lanePre (s : State) (n : Nat) : Nat := s.fld (F.LBB_TX_CFG_PREAMBLE n)

/-- The peer's transmit map descriptor selects a usable stored map for channels of numerology `m`: its loading (R304, R313). -/
def storedMap (s : State) (p m : Nat) : Option (List Nat) :=
  let d := pGet s p 152 8
  let load := mapLoad (s.ramBytes (0x4000000 + 432 * pPeer s p + 216) (27 * m)) (54 * m)
  if bit d 0 && 2 ^ bitsOf d 6 2 = m && 54 * m ≤ load.foldl (· + ·) 0 then some load else none

/-- The FC word, the rate and the loading of an OFDM frame to peer `p` on lane `n` and a channel (R312, R313). -/
def ofdmChoice (s : State) (n p channel : Nat) : Nat × Nat × List Nat :=
  let d := pGet s p 152 8
  let m := ofdmM (chBw s n channel)
  let quiet := bitsOf d 12 2
  match storedMap s p m with
  | some load => (fcWord 1 (bitsOf d 48 12) (bitsOf d 1 3) quiet, bitsOf d 4 2, load)
  | none =>
    let b := s.fld (F.LOF_TX_CFG_UNI_BITS n)
    (fcWord 0 b 0 quiet, s.fld (F.LOF_TX_CFG_UNI_RATE n), List.replicate (54 * m) b)

/-- A peer with OFDM_MODE = 1 (R411). -/
def pOfdm (s : State) (p : Nat) : Bool := pClass s p == 2 && pBits s p 126 2 1 == 1

/-- A frame of `length` bytes to node `p` on lane `n` and a channel, carrying `payload` bytes of a downlink or message: CSS at CR
4/5, or OFDM (R411). -/
def nodeTx (s : State) (n p channel sf length payload : Nat) : Tx :=
  let band := nodeBand s p
  let css := { Tx.blank with
    kind := 2, parcel := p, channel := channel, offset := band.1, bw := band.2, sf := sf, npre := lanePre s n, length := length,
    power := pSigned s p 123 }
  if pOfdm s p && s.fld F.CAD_OFDM_CFG_OFDM_MIN ≤ payload && 0 < ofdmM (chBw s n channel) then
    let c := ofdmChoice s n p channel
    { css with mode := 1, fc := c.1, rate := c.2.1, load := c.2.2 }
  else css

/-- LATEST of a transmission (R347): within LATE_MAX_US of START and, less its airtime, before the end of its occurrence, if any. -/
def latestBy (s : State) (fin : Option Nat) (t : Tx) : Nat :=
  let late := t.start + s.fld F.MAC_ACK_CFG_LATE_MAX_US * 1000
  match fin with
  | some e => min late (e - t.airUs * 1000)
  | none => late

/-! ### LEN_MAX (R352, R372) -/

/-- A downlink of `l` bytes to node `p` fits an entry with `us` microseconds for it, the PHY and the profile's longest frame. `field`:
bytes of the acknowledgement field before it. -/
def lenFits (s : State) (n p channel sf us field l : Nat) : Bool :=
  let len := 10 + field + l + macBytes (pMicLen s p)
  let t := nodeTx s n p channel sf len l
  let limit := frameLimit s.rgl.cur.code
  t.airUs ≤ us && len ≤ (if t.mode = 1 then 2047 else 255) && (limit = 0 || txCharge s n t ≤ limit)

/-- The entry that carries a node's downlinks: its DOWNLINK entry, its UPLINK entry, or the PEER entry of a peer (R348). -/
def carrierOf (s : State) (p : Nat) : Option Nat :=
  match pClass s p with
  | 0 => (nodeEntry s p 1).orElse (fun _ => nodeEntry s p 0)
  | 2 => nodeEntry s p 2
  | _ => none

/-- RESP_BYTES in force when PE13 sized an entry. -/
def respBytes (s : State) (e : Nat) : Nat :=
  match Tbl.get (fun _ => 0) s.mac.sized e with
  | 0 => s.fld F.MAC_JOIN_CFG_RESP_BYTES
  | r + 1 => r

/-- Largest payload that fits the time of an entry word for node `p`. -/
def entryLenMax (s : State) (p w0 : Nat) (ackReq : Bool) : Nat :=
  let n := eLane w0
  let sf := 6 + eSfc w0
  let band := nodeBand s p
  let ack := cssAirUs sf band.2 (pGet s p 93 1) (13 + macBytes (pMicLen s p)) 0
  let us := (4 * eLen w0 - 2 * leadMs s p (ppPeriod (ePp w0))) * 1000
    - (if ackReq then pGet s p 61 1 * 1000 + ack else 0)
  ((List.range 2048).reverse.find? (fun l => lenFits s n p (eChannel w0) sf us 0 l)).getD 0

/-- LEN_MAX of node `p` in the entry word `w0` that carries its downlinks; an UPLINK entry was sized with `resp` RESP_BYTES, and carries them
only in acknowledgements, with ACKF = 1 (R348, R372). -/
def carrierLenMax (s : State) (p w0 resp : Nat) (ackReq : Bool) : Nat :=
  if eType w0 = 0 then
    min resp (((List.range 256).reverse.find? (fun l => lenFits s (eLane w0) p (eChannel w0) (6 + eSfc w0) (2 ^ 40) 3 l)).getD 0)
  else entryLenMax s p w0 ackReq

/-- LEN_MAX of node `p` without a carrier at spreading order `sf`: that of a wake exchange on its lane, within the profile's longest
frame (R352, R372). A relayed node is served likewise. -/
def exchangeLenMax (s : State) (p sf : Nat) : Nat :=
  let n := pBits s p 92 0 2
  ((List.range (256 - 10 - macBytes (pMicLen s p))).reverse.find? (fun l =>
    lenFits s n p (s.fld (F.MAC_WAKE_CFG_ANS_CH n)) sf (2 ^ 40) 0 l)).getD 0

/-- LEN_MAX of node `p` at its current mode. -/
def lenMax (s : State) (p : Nat) (ackReq : Bool) : Nat :=
  match carrierOf s p with
  | some e => carrierLenMax s p (entryW0 s e) (respBytes s e) ackReq
  | none => exchangeLenMax s p (pSf s p)

/-- A downlink of node `p` is pending, behind the first `skip` entries, that is longer than `most`, given its ACK_REQ. -/
def pendingOver (s : State) (p skip : Nat) (most : Bool → Nat) : Bool :=
  ((List.range (mbxCount s p)).drop skip).any (fun i =>
    let m := mbxAt s p i
    m.kind != 2 && most m.ackReq < m.len)

/-- A downlink of node `p` is pending that an entry word, sized now, could not carry (R353). -/
def pendingExceeds (s : State) (p skip w0 : Nat) : Bool := pendingOver s p skip (carrierLenMax s p w0 (s.fld F.MAC_JOIN_CFG_RESP_BYTES))

/-- Of the entries that a node of CLASS 0 or 2 is to have, the word of the one that carries its downlinks (R348). -/
def carrierWord (ws : List (Nat × Nat)) : Option Nat :=
  ((ws.find? (fun w => eType w.1 == 1)).orElse (fun _ => ws.head?)).map (fun w => w.1)

/-! ### Counters and frames (R402, R403, R406) -/

/-- What taking a downlink counter comes to. -/
inductive Counter where
  | taken (c : Nat) (s : State)
  /-- the counters of the session are used up: the node is released -/
  | exhausted
  /-- a new block may not be reserved now -/
  | waits
  deriving DecidableEq, Repr

/-- DL_FCNT taken, with a block of 256 reserved first where it is needed (R402, R403, R634, R635). -/
def takeFcnt (s : State) (p : Nat) : Counter :=
  let c := pGet s p 72 4
  if 0xFFFFFF00 ≤ c then .exhausted
  else if pGet s p 76 4 ≤ c then
    if holding s || 15 ≤ openReservations s p then .waits
    else .taken c (pSet (mirrorFlush (pSet s p 76 4 (c - c % 256 + 256))) p 72 4 (c + 1))
  else .taken c (pSet s p 72 4 (c + 1))

/-- The chain of parcels on the way to a relayed node, the repeater adjacent to the device first (R413, R416). -/
def pathTo (s : State) (p : Nat) : List Nat :=
  let q := pParent s p
  let r := routeBase + 80 * pPeer s q
  (List.range (bitsOf (s.ram r).toNat 0 3)).map (fun i => s.ramNat (r + 2 + 3 * i) 3) ++ [q]

/-- A relay unit that carries `frame` down `path` (R413). -/
def downUnit (path : List Nat) (frame : List Byte) : List Byte :=
  leBytes 2 (frame.length + 2048 * path.length + 16384) ++ [0#8, 0#8] ++ path.flatMap (leBytes 3) ++ frame

/-- A message body is an UPD_INVITE (R432). -/
def isInvite (payload : List Byte) : Bool := fieldAt payload 0 1 = 0x40 && payload.length = 73

/-- The K_MC that an UPD_INVITE delivers: that of the session it names; none where the slot may not be used or does not deliver (R557,
R558, R571). -/
def inviteKey (s : State) (payload : List Byte) : Option (List Byte) :=
  let session := fieldAt payload 2 4
  if (deliverRoot s).isSome then mcKey s session (Tbl.get (fun _ => 0) s.upd.groups session) else none

/-- The bytes a message is sent with: K_MC stands in an UPD_INVITE only here (R571). -/
def messageBytes (s : State) (payload : List Byte) : List Byte :=
  if isInvite payload then splice payload 57 ((inviteKey s payload).getD []) else payload

/-- An entry is an UPD_INVITE whose K_MC may not be delivered: it is not sent (R571). -/
def withheldInvite (s : State) (m : Mbx) (d : Dl) : Bool := m.kind == 1 && isInvite d.payload && (inviteKey s d.payload).isNone

/-- The body of a mailbox entry: the host's payload as it is, or a message of the MAC (R140, R322). -/
def entryBody (s : State) (m : Mbx) (d : Dl) : List Byte := if m.kind = 1 then messageBytes s d.payload else d.payload

/-- The frame of an entry with its body, counter and protection; none where no counter or key is available. A peer's exchange asks for
a reply with every frame (R351). -/
def protectFrame (s : State) (p : Nat) (m : Mbx) (relay more : Bool) (ack : Option (Nat × Nat)) (body : List Byte) :
    Option (List Byte × Nat) × Bool × State :=
  match takeFcnt s p with
  | .exhausted => (none, true, s)
  | .waits => (none, false, s)
  | .taken c s =>
    let f : Fctl :=
      { type := if m.kind = 1 then 3 else 1, secured := true, ackReq := m.ackReq || pClass s p == 2, fpend := more, dir := true, relay := relay,
        cls := m.cls, micLen := pMicLen s p, ackf := ack.isSome }
    let a := match ack with
      | some (t, l) => leBytes 2 t ++ leBytes 1 l
      | none => []
    let plain := headerBytes f (s.fld F.MAC_ROUTER_ID_ID) p c ++ a ++ body
    match ccmProtect s (sessKey s p useEnc) plain 0 with
    | (some bs, s) => (some (bs, c), false, s)
    | (none, s) => (none, false, s)

/-- The node's head frame, built at its first attempt and reused by its retransmissions (R349, R402). The answer: the frame,
whether the node's counters are used up, and the state. -/
def ownFrame (s : State) (p : Nat) (relay : Bool) (ack : Option (Nat × Nat)) (body : Mbx → Dl → List Byte) :
    Option (List Byte) × Bool × State :=
  match headDl s p with
  | none => (none, false, s)
  | some (m, d) =>
    if m.enc then (some d.frame, false, s)
    else if withheldInvite s m d then (none, false, denied s)
    else
      let more := 1 < mbxCount s p || s.cad.held.any (fun h => h.1 == p)
      match protectFrame s p m relay more ack (body m d) with
      | (some (bs, c), ex, s) => (some bs, ex, putMbx (putDl s { d with frame := bs, fcnt := c }) p 0 { m with enc := true })
      | (none, ex, s) => (none, ex, s)

/-- The head frame of a node reached through repeaters, as its unit carries it (R413, R420). -/
def carriedFrame (s : State) (p : Nat) : Option (List Byte) × Bool × State :=
  ownFrame s p true none (entryBody s)

/-- What building a frame of node `p` comes to, with the node whose counters are used up in place of the flag (R403). -/
def usedUp (p : Nat) (r : Option (List Byte) × Bool × State) : Option (List Byte) × Option Nat × State :=
  (r.1, if r.2.1 then some p else none, r.2.2)

/-- The frame that carries the head downlink of node `p`: a downlink, a message, or a unit for another node (R322, R345, R420); and the
node, `p` or the one whose frame the unit carries, whose counters are used up. -/
def buildHead (s : State) (p : Nat) (ack : Option (Nat × Nat)) : Option (List Byte) × Option Nat × State :=
  match headDl s p with
  | none => (none, none, s)
  | some (m, d) =>
    match m.kind, d.carries with
    | 2, some q =>
      let r := usedUp q (carriedFrame s q)
      match r.1 with
      | some bs => usedUp p (ownFrame r.2.2 p true ack (fun _ _ => downUnit (pathTo s q) bs))
      | none => r
    | 2, none => usedUp p (ownFrame s p true ack (fun _ d => d.payload))
    | _, _ => usedUp p (ownFrame s p false ack (entryBody s))

/-- Bytes of the frame that carries the head downlink. -/
def headLength (s : State) (p : Nat) (ackf : Bool) : Nat :=
  match headDl s p with
  | none => 0
  | some (m, d) =>
    if m.enc then d.frame.length
    else
      let own := match m.kind, d.carries with
        | 2, some q =>
          let inner := match headDl s q with
            | some (_, x) => 10 + x.payload.length + macBytes (pMicLen s q)
            | none => 0
          4 + 3 * (pathTo s q).length + inner
        | _, _ => d.payload.length
      10 + (if ackf then 3 else 0) + own + macBytes (pMicLen s p)

/-- The repeater adjacent to the device on the way to a relayed node. -/
def adjacentTo (s : State) (p : Nat) : Nat := (pathTo s p).headD 0

/-- The head downlink of a relayed node is placed as a unit behind the adjacent repeater's own entries (R420), unless the response window of
its last carriage is open. -/
def placeRelay (s : State) (p : Nat) : State :=
  if !pRelayed s p || mbxCount s p = 0 || s.cad.dls.any (fun d => d.carries == some p) || (headDl s p).any (fun h => h.2.window) then s
  else
    let q := adjacentTo s p
    let m : Mbx := { buf := 0, kind := 2, ackReq := true, mode1 := false, cls := (mbxAt s p 0).cls, enc := false, len := 0, retries := 0,
                     attempts := 0, late := false }
    let inner := match headDl s p with
      | some (_, x) => 10 + x.payload.length + macBytes (pMicLen s p)
      | none => 0
    let unit := downUnit (pathTo s p) (List.replicate inner 0#8)
    match enterMailbox s q m { Dl.blank with payload := unit, carries := some p } with
    | some (_, s) => s
    | none => s

/-- A message the device generates for a node, on its way at once where the node is relayed (R406, R420). -/
def genMessage (s : State) (p : Nat) (body : List Byte) : State := placeRelay (putMessage s p body) p

/-- The relayed nodes behind repeater `q` whose head downlink has no place yet are given one. -/
def placeBehind (s : State) (q : Nat) : State :=
  if pClass s q = 2 && mbxCount s q < 8 then
    ((usedParcels s).filter (fun p => pRelayed s p && adjacentTo s p == q)).foldl placeRelay s
  else s

end Sys2Proof.Machine
end

