-- ==== Sys2Proof/Machine/Parcel.lean ====
section
/-!
DEFINITION. Sys2Proof/Machine/Parcel.lean: outcomes of downlinks and messages, nodes released, relayed nodes lost, and the
update state of a node (R341, R349, R364, R409, R418, R435, R441, R442, R444).
-/
namespace Sys2Proof.Machine

/-! ### Update state of a node (R441, R444) -/

/-- USTATE, SID and SESSION of a parcel. -/
def uState (s : State) (p : Nat) : Nat := pBits s p 250 0 3
def uSid (s : State) (p : Nat) : Nat := pBits s p 250 3 2
def uSession (s : State) (p : Nat) : Nat := pGet s p 248 2

/-- The session slot `sid`, not ENDED. -/
def sessOf (s : State) (sid : Nat) : Option Sess := s.upd.sessions.find? (fun x => x.sid == sid)

/-- A parcel that is INVITED or ACCEPTED in a running session: that session. -/
def pendingIn (s : State) (p : Nat) : Option Sess :=
  if uState s p = 1 || uState s p = 2 then
    match sessOf s (uSid s p) with
    | some x => if x.session % 65536 = uSession s p then some x else none
    | none => none
  else none

/-- The counter of a session that a USTATE counts in. -/
def sessCount (sid u : Nat) : Fld :=
  match u with
  | 1 => F.UPD_SESS_PENDING_COUNT sid
  | 2 => F.UPD_SESS_PENDING_COUNT sid
  | 3 => F.UPD_SESS_COMPLETED_COUNT sid
  | 4 => F.UPD_SESS_DECLINED_COUNT sid
  | 5 => F.UPD_SESS_FAILED_COUNT sid
  | _ => F.UPD_SESS_LOST_COUNT sid

/-- The targets of a session still PENDING. -/
def pendingOf (s : State) (x : Sess) : List Nat :=
  (usedParcels s).filter (fun p => match pendingIn s p with
    | some y => y.sid == x.sid
    | none => false)

/-- An UPD_CANCEL body (R432). -/
def cancelBody (x : Sess) (reason : Nat) : List Byte :=
  leBytes 1 0x42 ++ leBytes 1 x.sid ++ leBytes 2 x.session ++ leBytes 1 reason

/-- The MCAST entries of a session, or its entry on one lane, are emptied. -/
def emptyMcast (s : State) (sid : Nat) (lane : Option Nat) : State :=
  (usedEntries s).foldl (fun (t : State) e =>
    let w0 := entryW0 t e
    if isSpecial w0 (entryW1 t e) 3 sid && (lane.isNone || lane == some (eLane w0)) then emptyEntry t e else t) s

/-- `IMGk_INFO.IN_SESSION` and `STATUS.SESS_RUN` follow the running sessions. -/
def refreshSessions (s : State) : State :=
  let s := (List.range 8).foldl (fun (t : State) k =>
    t.setFld (F.UPD_IMG_INFO_IN_SESSION k) (b01 (t.upd.sessions.any (fun x => x.image == k)))) s
  s.setFld F.UPD_STATUS_SESS_RUN ((s.upd.sessions.map (fun x => 2 ^ x.sid)).foldl (· ||| ·) 0)

/-- A session ends (R442): the reason, and the REASON of UPD_CANCEL to its pending nodes. -/
def endSession (s : State) (x : Sess) (reason cancel : Nat) : State :=
  let left := pendingOf s x
  let s := emptyMcast s x.sid none
  let s := left.foldl (fun (t : State) p => genMessage t p (cancelBody x cancel)) s
  let s := refreshSessions { s with upd := { s.upd with sessions := s.upd.sessions.filter (fun y => y.sid != x.sid),
                                                        retry := s.upd.retry.filter (fun p => !left.contains p) } }
  let s := (s.setFld (F.UPD_SESS_STATE_STATE x.sid) 6).setFld (F.UPD_SESS_STATE_END_REASON x.sid) reason
  let done := s.fld (F.UPD_SESS_COMPLETED_COUNT x.sid)
  setCause (s.event 0x1F 0 0x0C04 (if done = s.fld (F.UPD_SESS_TARGETED_COUNT x.sid) then 0 else 1)
    (leBytes 4 x.session ++ leBytes 1 reason ++ leBytes 3 done)) 0x1F 3

/-- The share of lane `n` in session slot `sid` changed by `f`. -/
def editUpdLane (s : State) (sid n : Nat) (f : UpdLane → UpdLane) : State :=
  { s with upd := { s.upd with sessions := s.upd.sessions.map (fun x =>
      if x.sid == sid then { x with lanes := x.lanes.map (fun l => if l.lane == n then f l else l) } else x) } }

/-- A lane whose targets are all final empties its entry and has finished (R442). -/
def laneFinal (s : State) (sid n : Nat) : State :=
  editUpdLane (emptyMcast s sid (some n)) sid n (fun l => { l with stage := 2 })

/-- After a target of lane `n` became final: the lane empties its entry once all its targets are final, and the session ends
once every target is (R442). -/
def afterFinal (s : State) (x : Sess) (n : Nat) : State :=
  let left := pendingOf s x
  let s := if left.any (fun p => pBits s p 92 0 2 == n) then s else laneFinal s x.sid n
  if left.isEmpty && 1 < s.fld (F.UPD_SESS_STATE_STATE x.sid) then endSession s x 1 0 else s

/-- A target takes a new USTATE: its session's counts, the NODE_UPDATE event and the NODE_FAIL cause (R441, R445). -/
def setUstate (s : State) (p u : Nat) : State :=
  match pendingIn s p with
  | none => s
  | some x =>
    let old := sessCount x.sid (uState s p)
    let s := s.setFld old (s.fld old - 1)
    let new := sessCount x.sid u
    let s := pSetBits (s.setFld new (s.fld new + 1)) p 250 0 3 u
    if u < 3 then s
    else
      let s := s.event 0x1F 0 0x0C03 (if u = 3 then 0 else if u = 4 then 1 else 2)
        (leBytes 4 p ++ leBytes 4 x.session ++ leBytes 1 u)
      let s := if 5 ≤ u then setCause s 0x1F 4 else s
      afterFinal s x (pBits s p 92 0 2)

/-! ### Adaptation state of a node (R407, R409) -/

/-- The history is cleared (R407). -/
def clearHistory (s : State) (p : Nat) : State := pSet s p 120 1 0

/-- ADAPT_S takes the present second and the history is cleared: a value of SF or PWR_NODE has changed. -/
def adapted (s : State) (p : Nat) : State := clearHistory (pSet s p 128 4 s.now.sec) p

/-- ADAPT_STATE. -/
def adaptState (s : State) (p : Nat) : Nat := pBits s p 126 0 2
def setAdaptState (s : State) (p v : Nat) : State := pSetBits s p 126 0 2 v

/-- A RATE_SET (R409): PWR, and SF for nodes without slot entries, else 0. -/
def rateSet (s : State) (p : Nat) (pwr : Int) (sf : Nat) : State :=
  setAdaptState (genMessage s p ([0x20#8] ++ leBytes 1 (unsigned 8 pwr) ++ leBytes 1 sf)) p 2

/-! ### Slot entries that wait for an acknowledgement (R364) -/

/-- The entries sent to node `p` in a SLOT_ASSIGN. -/
def assignOf (s : State) (p : Nat) : Option (List (Nat × Nat × Nat)) := (s.mac.assigns.find? (fun a => a.1 == p)).map (fun a => a.2)

/-- They are forgotten. -/
def dropAssign (s : State) (p : Nat) : State := { s with mac := { s.mac with assigns := s.mac.assigns.filter (fun a => a.1 != p) } }

/-- A SLOT_ASSIGN that waits for node `p` is withdrawn, or cut loose where it is on its way: the device executes none of its entries (R363,
R364). -/
def dropAssignMessages (s : State) (p : Nat) : State :=
  let mine (m : Mbx) (d : Dl) : Bool := m.kind == 1 && fieldAt d.payload 0 1 == 0x10
  let s := { s with cad := { s.cad with held := s.cad.held.filter (fun h => !(h.1 == p && fieldAt h.2 0 1 == 0x10)) } }
  (List.range (mbxCount s p)).reverse.foldl (fun (t : State) i =>
    match dlOf t (mbxAt t p i).buf with
    | some d => if mine (mbxAt t p i) d then leaveMailbox t p i else t
    | none => t) s

/-- Entries of a node written (R334). -/
def writeEntries (s : State) (es : List (Nat × Nat × Nat)) : State := es.foldl (fun (t : State) e => putEntry t e.1 e.2.1 e.2.2) s

/-- A node's entries are emptied. -/
def emptyNode (s : State) (p : Nat) : State := (nodeEntries s p).foldl emptyEntry s

/-- A decision that waits: no placement (1) or a downlink that would not fit (2) (R409). -/
def adaptDefer (s : State) (p sf why : Nat) : State :=
  setCause ((s.count F.CAD_ADAPT_DEFER_COUNT 1).event 0x1E 0 0x0B03 1 (leBytes 4 p ++ leBytes 1 sf ++ leBytes 1 why)) 0x1E 4

/-- The change of mode that a message of the Cadastre at the head of node `p`'s mailbox tells it would leave a pending downlink, one behind that
message, too long for its carrier (R353). -/
def changeExceeds (s : State) (p : Nat) (body : List Byte) : Bool :=
  match fieldAt body 0 1 with
  | 0x10 => ((assignOf s p).bind (fun es => carrierWord (es.map (fun e => e.2)))).any (pendingExceeds s p 1)
  | 0x20 => fieldAt body 2 1 != 0 && carrierOf s p == none && pendingOver s p 1 (fun _ => exchangeLenMax s p (fieldAt body 2 1))
  | _ => false

/-- Before its first attempt, a change of mode at the head of a mailbox that a downlink accepted meanwhile forbids is withdrawn, and
waits (R353, R409). -/
def withdrawChange (s : State) (p : Nat) : State :=
  match headDl s p with
  | none => s
  | some (m, d) =>
    if m.kind != 1 || m.attempts != 0 || m.enc || adaptState s p = 0 || !changeExceeds s p d.payload then s
    else
      let sf := if fieldAt d.payload 0 1 = 0x10 then pGet s p 127 1 else fieldAt d.payload 2 1
      let s := setAdaptState { dropAssign s p with cad := { s.cad with after := Tbl.erase p s.cad.after } } p 0
      adaptDefer (leaveMailbox s p 0) p sf 2

/-! ### Outcomes (R141, R142, R349) -/

/-- RESULT bytes of a mode 0 downlink (R141). -/
def dlResult (m : Mbx) (d : Dl) (acked : Bool) : List Byte :=
  if d.sent then
    leBytes 4 d.fcnt ++ leBytes 4 d.sec ++ leBytes 4 d.ns ++ leBytes 1 d.lane ++ leBytes 1 m.attempts ++ leBytes 1 d.sf
      ++ leBytes 1 (b01 acked)
  else List.replicate 13 0#8 ++ leBytes 1 m.attempts ++ leBytes 1 d.sf ++ [0#8]

/-- The downlink of a DL_SEND in mode 0: the buffer that holds it. -/
def dlOfCmd (s : State) (id : CmdId) : Option Dl := s.cad.dls.find? (fun d => d.cmd == some id)

/-- A command completes NOT_ACTIVE, a DL_SEND in mode 0 with what its attempts came to (R141). -/
def stopCmd (s : State) (id : CmdId) : State :=
  match dlOfCmd s id with
  | none => finish s id 0x50 []
  | some d =>
    match positionOf s d.parcel d.buf with
    | none => finish s id 0x50 []
    | some i => finish s id 0x50 (dlResult (mbxAt s d.parcel i) d false)

/-- The final outcome of a DL_SEND reported: the completion in mode 0, the DL_OUTCOME event in mode 1. -/
def reportDl (s : State) (m : Mbx) (d : Dl) (status : Nat) (acked : Bool) : State :=
  match d.cmd, d.tag with
  | some id, _ => finish s id status (dlResult m d acked)
  | none, some (id, tag) =>
    s.event 0x05 id.src.val 0x0104 (if status = 0 then 0 else 2)
      (tag ++ leBytes 1 status ++ leBytes 1 m.attempts ++ leBytes 4 (if d.sent then d.fcnt else 0))
  | none, none => s

/-- A downlink of a node that ended other than OK is remembered: a success that still arrives is late (R621). -/
def rememberEnded (s : State) (p : Nat) (d : Dl) (status : Nat) : State :=
  match d.cmd.orElse (fun _ => d.tag.map (fun t => t.1)) with
  | some id =>
    if status = 0 || !d.sent then s
    else { s with cad := { s.cad with ended := s.cad.ended.filter (fun e => e.1 != p) ++ [(p, d.fcnt, id)] } }
  | none => s

/-- A success that arrives after its command has ended is discarded and counted (R621). -/
def lateSuccess (s : State) (id : CmdId) (opcode : Nat) : State :=
  setCause ((s.count F.MEM_LATE_SUCCESS_COUNT 1).event 0x30 0 0x1209 1
    (leBytes 1 id.src.val ++ leBytes 1 0 ++ leBytes 2 opcode ++ leBytes 4 id.seq)) 0x30 7

/-- What the outcome of a generated message changes in the node's own state: RATE_SET, SLOT_ASSIGN, SLOT_RELEASE (R364, R409). -/
def messageEnds (s : State) (p : Nat) (body : List Byte) (ok : Bool) : State :=
  let pwr := signed 8 (Tbl.get (fun _ => 0) s.cad.after p)
  let forget (s : State) : State := { s with cad := { s.cad with after := Tbl.erase p s.cad.after } }
  match fieldAt body 0 1, ok with
  | 0x20, true =>
    let sf := fieldAt body 2 1
    let s := pSet s p 122 1 (fieldAt body 1 1)
    let s := if sf = 0 then s else pSet s p 121 1 sf
    setAdaptState (adapted s p) p 0
  | 0x20, false => setAdaptState s p 0
  | 0x10, true =>
    let es := (assignOf s p).getD []
    let s := dropAssign (writeEntries (if es.isEmpty then s else emptyNode s p) es) p
    if adaptState s p = 1 then
      let waits := s.cad.after.any (fun e => e.1 == p)
      let s := adapted (pSet s p 121 1 (pGet s p 127 1)) p
      if waits && pwr != pSigned s p 122 then rateSet (forget s) p pwr 0 else setAdaptState (forget s) p 0
    else s
  | 0x10, false =>
    let s := dropAssign s p
    if adaptState s p = 1 then setAdaptState (forget s) p 0 else s
  | 0x11, true => pSetBits (emptyNode s p) p 9 0 2 0
  | 0x40, false =>
    if !(pendingIn s p).any (fun x => x.sid == fieldAt body 1 1 % 4 && x.session == fieldAt body 2 4) then s
    else if 3 ≤ pBits s p 255 0 4 then setUstate s p 6
    else { s with upd := { s.upd with retry := s.upd.retry.filter (· != p) ++ [p] } }
  | _, _ => s

/-- Entry `i` of node `p` has its outcome: reported, counted, and out of the mailbox; a message has its effect (R349, R406). -/
def dlClose (s : State) (p i status : Nat) (acked : Bool) : State :=
  let m := mbxAt s p i
  match dlOf s m.buf with
  | none => leaveMailbox s p i
  | some d =>
    let s := rememberEnded (reportDl s m d status acked) p d status
    let s :=
      if m.kind = 2 then s
      else
        let s := pSet s p 100 4 s.now.sec
        if status = 0 then pCount s p 240 4 1 else pCount s p 244 2 1
    let s := if acked then s.count F.MAC_DL_ACKED_COUNT 1 else s
    let s := leaveMailbox s p i
    if m.kind = 1 then messageEnds s p d.payload (status = 0) else s

/-- Every pending entry of a node ends with a status, in mailbox order, and nothing takes its place. The number of downlinks and messages
so ended. -/
def endAll (s : State) (p status : Nat) : Nat → Nat × State
  | 0 => (0, s)
  | n + 1 =>
    if mbxCount s p = 0 then (0, s)
    else
      let own := b01 ((mbxAt s p 0).kind != 2)
      let r := endAll (dlClose s p 0 status false) p status n
      (r.1 + own, r.2)

/-- The relay unit that carries the head downlink of node `p` leaves its repeater's mailbox, or carries nothing more once it is built. -/
def dropUnit (s : State) (p : Nat) : State :=
  match s.cad.dls.find? (fun d => d.carries == some p) with
  | none => s
  | some u =>
    match positionOf s u.parcel u.buf with
    | none => s
    | some i => if (mbxAt s u.parcel i).enc then putDl s { u with carries := none } else leaveMailbox s u.parcel i

/-- A node's held messages are dropped and its downlinks complete NOT_ACTIVE (R138, R341, R418). -/
def dropAll (s : State) (p : Nat) : Nat × State :=
  let s := dropUnit s p
  let s := { s with cad := { s.cad with held := s.cad.held.filter (fun h => h.1 != p), after := Tbl.erase p s.cad.after } }
  endAll s p 0x50 16

/-! ### Route records (R415–R418) -/

/-- Route record of peer index `i`. -/
def routeAt (i : Nat) : Nat := routeBase + 80 * i

/-- A record is rewritten: GEN advanced, UPDATED_S set, UPDATING 0 at the end (R417). -/
def routeCommit (s : State) (i : Nat) : State :=
  let a := routeAt i
  (s.ramStore (a + 1) (leBytes 1 (s.ramNat (a + 1) 1 + 1))).ramStore (a + 28) (leBytes 4 s.now.sec)

/-- A count of the route record of peer `q` goes up, saturating (R416). -/
def routeCount (s : State) (q o : Nat) : State :=
  let a := routeAt (pPeer s q) + o
  let n := satAdd 32 (s.ramNat a 4) 1
  if !pPeerValid s q || s.ramNat a 4 = n then s else routeCommit (s.ramStore a (leBytes 4 n)) (pPeer s q)

/-- CHILDREN of peer index `i` counted anew. -/
def countChildren (s : State) (q : Nat) : State :=
  if !pPeerValid s q then s
  else
    let n := ((usedParcels s).filter (fun p => pRelayed s p && pParent s p == q)).length
    let a := routeAt (pPeer s q)
    if s.ramNat (a + 24) 2 = n then s else routeCommit (s.ramStore (a + 24) (leBytes 2 n)) (pPeer s q)

/-- Relayed nodes whose parent is lost (R418); a lost peer loses its own children in turn, five repeaters deep at most. -/
def childrenLost (s : State) (q : Nat) : Nat → State
  | 0 => s
  | fuel + 1 =>
    ((usedParcels s).filter (fun p => pRelayed s p && pParent s p == q)).foldl (fun (t : State) p =>
      let t := pSetBits (pSetBits t p 8 3 1 0) p 9 0 2 0
      let r := dropAll t p
      let t := setCause (r.2.event 0x1E 0 0x0B05 2 (leBytes 4 p ++ leBytes 4 q ++ leBytes 1 r.1)) 0x1E 6
      childrenLost (countChildren t q) p fuel) s

/-- One child treated as in R418. -/
def childLost (s : State) (q p : Nat) : State :=
  let t := pSetBits (pSetBits s p 8 3 1 0) p 9 0 2 0
  let r := dropAll t p
  let t := setCause (r.2.event 0x1E 0 0x0B05 2 (leBytes 4 p ++ leBytes 4 q ++ leBytes 1 r.1)) 0x1E 6
  childrenLost (countChildren t q) p 5

/-! ### The next head (R349, R350, R420) -/

/-- Entry `i` of node `p` has its outcome, and nothing takes its place yet: the unit of a relayed node's head is withdrawn with it. A repeater
released by a SLOT_RELEASE that it has acknowledged is UNJOINED (R364, R418). -/
def dlShut (s : State) (p i status : Nat) (acked : Bool) : State :=
  let m := mbxAt s p i
  let released := m.kind = 1 && status = 0 && (dlOf s m.buf).any (fun d => fieldAt d.payload 0 1 == 0x11)
  let s := dlClose (if i = 0 && pRelayed s p then dropUnit s p else s) p i status acked
  if released && pClass s p = 2 then childrenLost s p 5 else s

/-- The next head of node `p`, and the heads of the nodes behind it, are given their places (R420). -/
def placeNext (s : State) (p : Nat) : State :=
  let s := placeBehind (placeRelay s p) p
  if pRelayed s p then placeBehind s (adjacentTo s p) else s

/-- Entry `i` of node `p` has its outcome, and the next head is given its place. -/
def dlEnds (s : State) (p i status : Nat) (acked : Bool) : State := placeNext (dlShut s p i status acked) p

/-- The carriage of a relayed node's downlink without acknowledgement has its outcome (R420): the repeater's acknowledgement gives
OK, and the last permitted carriage without one ends in TIMEOUT. -/
def carriageEnds (s : State) (q status : Nat) (acked : Bool) : State :=
  match headDl s q with
  | none => s
  | some (m, _) =>
    if m.late then (if m.retries < m.attempts then dlEnds s q 0 status false else placeRelay s q)
    else if m.ackReq then s
    else if acked then dlEnds s q 0 0x00 false
    else if m.retries < m.attempts then dlEnds s q 0 0x40 false
    else placeRelay s q

/-- The outcome of an entry, and of the downlink its unit carries. -/
def dlOutcome (s : State) (p i status : Nat) (acked : Bool) : State :=
  let carried := (dlOf s (mbxAt s p i).buf).bind (fun d => d.carries)
  let s := dlShut s p i status acked
  placeNext (match carried with
    | some q => carriageEnds s q (if status = 0x21 then 0x21 else 0x20) acked
    | none => s) p

/-! ### Release (R341) -/

/-- A node is released: its entries emptied, its link UNJOINED, its downlinks completed, its children lost. -/
def releaseNode (s : State) (p : Nat) : State :=
  let s := dropAssign (emptyNode s p) p
  let s := pSetBits s p 9 0 2 0
  let s := { s with mac := { s.mac with joining := s.mac.joining.filter (· != p) } }
  let r := dropAll s p
  let s := setAdaptState (setUstate r.2 p 6) p 0
  let s := if pClass s p = 2 then childrenLost s p 5 else s
  setCause ((s.count F.MAC_NODES_RELEASED_COUNT 1).event 0x1C 0 0x0903 2 (leBytes 4 p ++ leBytes 1 r.1)) 0x1C 4

/-! ### Attempts (R348, R349) -/

/-- The head downlink changed by `f`. -/
def editHead (s : State) (p : Nat) (f : Mbx → Mbx) (g : Dl → Dl) : State :=
  match headDl s p with
  | none => s
  | some (m, d) => putMbx (putDl s (g d)) p 0 (f m)

/-- The path of a relay unit: the repeaters it goes through (R413). -/
def unitPath (unit : List Byte) : List Nat :=
  (List.range (bitsOf (fieldAt unit 0 2) 11 3)).map (fun i => fieldAt unit (4 + 3 * i) 3 % 2 ^ 18)

/-- One attempt at the head downlink of node `p` has been made, LATE or sent from START on a lane: an attempt at the downlink its unit carries
as well, and FRAMES_DN of the repeaters on its path (R416, R420). -/
def attemptMade (s : State) (p : Nat) (late : Bool) (start endAt n sf stepped : Nat) : State :=
  let one (s : State) (p : Nat) : State :=
    editHead s p (fun m => { m with attempts := m.attempts + 1, late := late })
      (fun d => if late then { d with sf := sf } else
        { d with sent := true, sec := start / 1000000000, ns := start % 1000000000, lane := n, sf := sf, endAt := endAt, stepped := stepped,
                 window := (mbxAt s p 0).ackReq })
  match headDl s p with
  | none => s
  | some (m, d) =>
    let s := one (if m.kind = 2 then s else s.count F.MAC_DL_ATTEMPTS_COUNT 1) p
    let s := match d.carries with
      | none => s
      | some q => one (s.count F.MAC_DL_ATTEMPTS_COUNT 1) q
    if late || m.kind != 2 then s else (unitPath d.payload).foldl (fun (t : State) r => routeCount t r 36) s

/-- After an attempt: the outcomes that need no answer (R349). `late`: LATE, or RF_BUSY after a blank (R222). -/
def attemptEnds (s : State) (p late : Nat) : State :=
  match headDl s p with
  | none => s
  | some (m, _) =>
    if m.late then
      if m.retries < m.attempts then
        dlOutcome s p 0 late false
      else s
    else if !m.ackReq && !pRelayed s p then dlOutcome s p 0 0x00 false
    else s

/-- The response window of the head downlink closes without an acknowledgement (R349, R420). -/
def windowCloses (s : State) (p : Nat) : State :=
  match headDl s p with
  | none => s
  | some (m, d) =>
    if !d.window then s
    else
      let s := putDl s { d with window := false }
      if m.retries < m.attempts then dlOutcome s p 0 0x40 false else placeRelay s p

/-- An acknowledgement of node `p` with FCNT_LO: it decides its head downlink OK, or comes too late (R349, R620, R621). -/
def dlAcked (s : State) (p fcntLo : Nat) : State :=
  match headDl s p with
  | some (m, d) =>
    if m.ackReq && d.sent && d.fcnt % 256 = fcntLo then dlOutcome s p 0 0x00 true
    else
      match s.cad.ended.find? (fun e => e.1 == p && e.2.1 % 256 == fcntLo) with
      | some e => lateSuccess { s with cad := { s.cad with ended := s.cad.ended.filter (fun x => x != e) } } e.2.2 0x0104
      | none => s
  | none =>
    match s.cad.ended.find? (fun e => e.1 == p && e.2.1 % 256 == fcntLo) with
    | some e => lateSuccess { s with cad := { s.cad with ended := s.cad.ended.filter (fun x => x != e) } } e.2.2 0x0104
    | none => s

end Sys2Proof.Machine
end

