-- ==== Sys2Proof/Machine/Ofdm.lean ====
section
/-!
DEFINITION. Sys2Proof/Machine/Ofdm.lean: OFDM payloads received, noise measurements, and the exchange of tone maps
(08_ofdm_payload.md).
-/
namespace Sys2Proof.Machine

/-! ### Descriptors and maps (R303, R304) -/

/-- The receive descriptor of parcel `p` and its fields. -/
def rxDesc (s : State) (p : Nat) : Nat := pGet s p 144 8
def rxValid (s : State) (p : Nat) : Bool := bit (rxDesc s p) 0
def rxGen (s : State) (p : Nat) : Nat := bitsOf (rxDesc s p) 1 3

/-- DRAM address of the receive map of peer index `i`; the transmit map follows. -/
def mapBase (i : Nat) : Nat := 0x4000000 + 432 * i

/-- The numerology of a lane's channel. -/
def chM (s : State) (n c : Nat) : Nat := ofdmM (chBw s n c)

/-- BWCODE of a numerology (R304). -/
def bwCodeOf (m : Nat) : Nat := Nat.log2 m

/-- A message to peer index `i`. -/
def peerMessage (s : State) (i : Nat) (body : List Byte) : State :=
  match findPeer s i with
  | some p => genMessage s p body
  | none => s

/-- A QUIET_ONLY TONE_MAP (R307). -/
def quietOnly (req : Nat) : List Byte := [0x01#8, 0#8, 0#8] ++ leBytes 1 (16 * req) ++ [1#8, 0#8, 0#8]

/-- A full TONE_MAP of a descriptor and its map (R307). -/
def toneMap (handle gen rate bw bSym : Nat) (map : List Byte) : List Byte :=
  [0x01#8] ++ leBytes 2 (handle + 4096 * gen) ++ leBytes 1 (rate + 4 * bw) ++ [0#8] ++ leBytes 2 bSym ++ map

/-! ### The retiring store (R309) -/

/-- The entry of a peer in the retiring store is released. -/
def retire (s : State) (i : Nat) : State :=
  if s.cad.retiring.any (fun r => r.1 == i) then
    let s := { s with cad := { s.cad with retiring := s.cad.retiring.filter (fun r => r.1 != i) } }
    match findPeer s i with
    | some p => pSetBits s p 145 2 1 0
    | none => s
  else s

/-- RETIRE_TIMEOUT (R309). -/
def execRetireTimeout (peer : Fin 4096) (s : State) : Result := .next (if s.answers then retire s peer else s)

/-! ### Measurements (R298–R302, R308) -/

/-- The slot of a peer's measurement: its lane. -/
def measLane (s : State) (i : Nat) : Option Nat := (List.range 4).find? (fun n => (s.lane n).meas.any (fun m => m.peer == i))

/-- The measurement slot of a peer on a lane is freed; MEASURING clears. -/
def freeMeas (s : State) (n i : Nat) : State :=
  let s := s.setLane n { s.lane n with meas := (s.lane n).meas.filter (fun m => m.peer != i) }
  match findPeer s i with
  | some p => pSetBits s p 145 3 1 0
  | none => s

/-- MAP_DEFER counted. -/
def mapDefer (s : State) (n : Nat) : State := setCause (s.count (F.LOF_MAP_DEFER_COUNT n) 1) (0x18 + n) 5

/-- A receive map is issued (R308); it waits while the retiring store is full. -/
def issueMap (s : State) (n i channel rate ref : Nat) (load : List Nat) : State :=
  match findPeer s i with
  | none => freeMeas s n i
  | some p =>
    let keep := rxValid s p
    let l := s.lane n
    if keep && 64 ≤ s.cad.retiring.length then
      mapDefer (s.setLane n { l with
        meas := l.meas.map (fun m => if m.peer == i then { m with ready := some (rate, ref, load) } else m) }) n
    else
      let m := chM s n channel
      let old := s.ramBytes (mapBase i) 216
      let s := if keep then
          { s with cad := { s.cad with retiring := s.cad.retiring ++ [(i, rxGen s p, old, s.now.sec)] } }
        else s
      let map := mapBytes load
      let s := s.ramStore (mapBase i) (map ++ List.replicate (4 * ceilDiv (27 * m) 4 - map.length) 0#8)
      let gen := (rxGen s p + 1) % 8
      let bSym := load.foldl (· + ·) 0
      let s := pSet s p 144 8 (1 + 2 * gen + 16 * rate + 64 * bwCodeOf m + 256 * n + 1024 * b01 keep + 2 ^ 16 * channel
        + 2 ^ 24 * ref + 2 ^ 32 * bSym + 2 ^ 48 * i)
      let s := s.setLane n { s.lane n with meas := (s.lane n).meas.filter (fun x => x.peer != i) }
      let s := { s with cad := { s.cad with issuedAt := Tbl.put (fun _ => 0) s.cad.issuedAt i s.now.sec } }
      let s := genMessage s p (toneMap i gen rate (bwCodeOf m) bSym map)
      let s := s.event (0x18 + n) 0 0x0800 0 (leBytes 2 i ++ leBytes 1 gen ++ leBytes 1 rate ++ leBytes 2 bSym ++ leBytes 1 ref)
      setCause (s.count (F.LOF_MAPS_ISSUED_COUNT n) 1) (0x18 + n) 1

/-- A measurement is complete: the rate and the loading that its SNRs give, or a dead map (R301, R302). SNRs in 0.01 dB. -/
def measDone (s : State) (n i channel : Nat) (snrs : List Int) : State :=
  let margin : Int := 25 * (s.fld (F.LOF_MAP_CFG_MARGIN n) : Nat)
  let maxBits := s.fld (F.LOF_MAP_CFG_MAX_BITS n)
  let rate := bestRate snrs margin maxBits
  let load := loading snrs margin maxBits rate
  let ref := unsigned 8 (clampSigned 8 (Int.fdiv (snrs.foldl (· + ·) 0) (50 * (max 1 snrs.length : Nat))))
  if 54 * chM s n channel ≤ load.foldl (· + ·) 0 then issueMap s n i channel rate ref load
  else
    let s := peerMessage (freeMeas s n i) i (quietOnly 0)
    setCause (s.event (0x18 + n) 0 0x0802 2 (leBytes 2 i ++ leBytes 1 ref ++ leBytes 1 channel)) (0x18 + n) 7

/-- A peer's receive map needs a measurement (R298). -/
def mapStale (s : State) (n p i : Nat) : Bool :=
  let bads := Tbl.get (fun _ => []) s.cad.bads i
  let snrs := Tbl.get (fun _ => []) s.cad.snrs i
  let sum : Int := snrs.foldl (fun t x => t + signed 8 x) 0
  let ref := signed 8 (bitsOf (rxDesc s p) 24 8)
  !rxValid s p || s.fld (F.LOF_MAP_CFG_PERIOD_S n) < s.now.sec - Tbl.get (fun _ => 0) s.cad.issuedAt i
    || 4 ≤ (bads.filter id).length || (snrs.length == 8 && 96 < (sum - 16 * ref).natAbs)

/-- The conditions of R298 for peer index `i`: an issue that waits is retried, or a measurement starts on the lane and channel of
its last delivered frame. -/
def measEval (s : State) (i : Nat) : State :=
  match findPeer s i, measLane s i with
  | none, _ => s
  | some _, some n =>
    match (s.lane n).meas.find? (fun m => m.peer == i) with
    | some m =>
      match m.ready with
      | some (rate, ref, load) => issueMap s n i m.channel rate ref load
      | none => s
    | none => s
  | some p, none =>
    match s.cad.heard.find? (fun e => e.1 == i) with
    | none => s
    | some (_, n, c) =>
      if !s.flag (F.LOF_CTRL_MAP_AUTO n) || s.cad.retiring.any (fun r => r.1 == i) || !mapStale s n p i then s
      else if 16 ≤ (s.lane n).meas.length then mapDefer s n
      else
        let s := s.setLane n { s.lane n with meas := (s.lane n).meas ++ [{ peer := i, channel := c, count := 0, sums := [], ready := none }] }
        genMessage (pSetBits s p 145 3 1 1) p (quietOnly (s.fld (F.LOF_MEAS_CFG_QUIET_CODE n)))

/-- MEAS_TIMEOUT (R300). -/
def measTimeout (s : State) (n i : Nat) : State :=
  match (s.lane n).meas.find? (fun m => m.peer == i) with
  | none => s
  | some m =>
    if m.ready.isSome then s
    else
      let s := (freeMeas s n i).count (F.LOF_MEAS_TIMEOUTS_COUNT n) 1
      let s := s.event (0x18 + n) 0 0x0803 1 (leBytes 2 i ++ leBytes 1 m.count ++ leBytes 1 m.channel)
      setCause (peerMessage s i (quietOnly 0)) (0x18 + n) 4

/-- MEAS_TIMEOUT. -/
def execMeasTimeout (lane : Lane) (peer : Fin 4096) (s : State) : Result :=
  .next (if s.answers then measTimeout s lane peer else s)

/-! ### Receiving (R286, R292–R297, R310) -/

/-- A hand-off ends with the outcome that a counter counts; RX_FAIL unless it is OK (R294). -/
def ofdmEnd (s : State) (n : Nat) (f : Fld) (ok : Bool) : State :=
  let s := tryGap ((s.setLane n { s.lane n with ofdm := none }).count f 1) n
  if ok then s else setCause s (0x18 + n) 0

/-- A frame ends in MAP_UNKNOWN; a registered peer is told, at most once in 10 s (R294, R310). -/
def mapUnknown (s : State) (n fc : Nat) : State :=
  let s := setCause (ofdmEnd s n (F.LOF_MAP_UNKNOWN_COUNT n) false) (0x18 + n) 3
  let i := fcSel fc
  match findPeer s i with
  | none => s
  | some p =>
    let last := Tbl.get (fun _ => 0) s.cad.unknownAt i
    if last != 0 && s.now.sec + 1 < last + 10 then s
    else
      let s := { s with cad := { s.cad with unknownAt := Tbl.put (fun _ => 0) s.cad.unknownAt i (s.now.sec + 1) } }
      let s := s.event (0x18 + n) 0 0x0804 1 (leBytes 2 i ++ leBytes 1 (fcGen fc) ++ leBytes 1 (rxGen s p))
      if rxValid s p then
        let d := rxDesc s p
        let bw := bitsOf d 6 2
        let map := s.ramBytes (mapBase i) (27 * 2 ^ bw)
        let sum := map.foldl (fun t b => t + b.toNat % 16 + b.toNat / 16) 0
        genMessage s p (toneMap i (rxGen s p) (bitsOf d 4 2) bw sum map)
      else genMessage s p (quietOnly 0)

/-- The map that an FC word selects, as bytes: the peer's current one, or the one held in the retiring store. -/
def selectedMap (s : State) (fc : Nat) : Option (List Byte) :=
  let i := fcSel fc
  match findPeer s i with
  | none => none
  | some p =>
    if rxValid s p && rxGen s p = fcGen fc then some (s.ramBytes (mapBase i) 216)
    else (s.cad.retiring.find? (fun r => r.1 == i && r.2.1 == fcGen fc)).map (fun r => r.2.2.1)

/-- The FC symbol of the reception in progress is decoded from its 64 coded bits (R286, R292). -/
def fcDecoded (s : State) (n : Nat) (bits : List Bool) : State :=
  match (s.lane n).ofdm with
  | none => s
  | some o =>
    if o.fc.isSome then s
    else
      let m := chM s n o.channel
      match fcDecode bits with
      | none => ofdmEnd s n (F.LOF_FC_FAIL_COUNT n) false
      | some fc =>
        let load (b : Nat) : State := s.setLane n { s.lane n with ofdm := some { o with fc := some fc, bSym := b } }
        if fcMapType fc = 0 then load (54 * m * fcSel fc)
        else
          match selectedMap s fc with
          | none => mapUnknown s n fc
          | some bs =>
            let b := (mapLoad bs (54 * m)).foldl (· + ·) 0
            if b < 54 * m then mapUnknown s n fc else load b

/-- OFDM_FC_DECODE. -/
def execOfdmFcDecode (lane : Lane) (bits : List Bool) (s : State) : Result :=
  .next (if s.answers then fcDecoded s lane bits else s)

/-- The peer index of the parcel that a frame's ADDR names. -/
def sourcePeer (s : State) (bs : List Byte) : Option Nat :=
  let p := fParcel bs
  if fRouter bs = s.fld F.MAC_ROUTER_ID_ID && pInUse s p && pPeerValid s p then some (pPeer s p) else none

/-- The outcome of a peer's OFDM frame is remembered, with its MEAN_SNR where it ended OK (R298). -/
def noteFrame (s : State) (i : Nat) (bad : Bool) (snr : Option Nat) : State :=
  let bads := (bad :: Tbl.get (fun _ => []) s.cad.bads i).take 16
  let s := { s with cad := { s.cad with bads := Tbl.put (fun _ => []) s.cad.bads i bads } }
  match snr with
  | none => s
  | some v => { s with cad := { s.cad with
      snrs := Tbl.put (fun _ => []) s.cad.snrs i ((v :: Tbl.get (fun _ => []) s.cad.snrs i).take 8) } }

/-- The lane and channel of a peer's last delivered frame (R298). -/
def peerHeard (s : State) (n i channel : Nat) : State :=
  { s with cad := { s.cad with heard := Tbl.ins i (n, channel) (Tbl.erase i s.cad.heard) } }

/-- The powers of a frame added to those of the frames before (R300). The ratio of the sums is the ratio of the means. -/
def addPowers (sums tones : List TonePower) : List TonePower :=
  if sums.isEmpty then tones
  else List.zipWith (fun a b => { signal := a.signal + b.signal, noise := a.noise + b.noise }) sums tones

/-- A frame from a peer has been delivered: it may end the retiring entry, counts its quiet symbols, and the conditions of R298
are evaluated (R298, R300, R309). `tones`: the powers of each data tone in this frame. -/
def peerFrame (s : State) (n i channel fc meanSnr : Nat) (tones : List TonePower) : State :=
  let s := peerHeard (noteFrame s i false (some meanSnr)) n i channel
  let s := match findPeer s i with
    | some p => if fcMapType fc = 1 && fcSel fc = i && fcGen fc = rxGen s p then retire s i else s
    | none => s
  let s := match (s.lane n).meas.find? (fun m => m.peer == i && m.channel == channel && m.ready.isNone) with
    | none => s
    | some m =>
      let quiet := quietCount (fcQuiet fc)
      let k := m.count + quiet
      let sums := if quiet = 0 then m.sums else addPowers m.sums tones
      let s := s.setLane n { s.lane n with
        meas := (s.lane n).meas.map (fun x => if x.peer == i then { x with count := k, sums := sums } else x) }
      if s.fld (F.LOF_MAP_CFG_NQ_MIN n) ≤ k then measDone s n i channel (sums.map (fun x => centiDb x.signal x.noise)) else s
  measEval s i

/-- A payload lost to a blank (R296). -/
def payloadLoss (s : State) (n : Nat) (o : OfdmRx) : State :=
  if o.blanked then setCause (s.count (F.LOF_BLANK_LOSS_COUNT n) 1) (0x18 + n) 6 else s

/-- The end of an OFDM payload (R294–R297). `bytes` are LENGTH payload bytes and their CRC-32 as decoded. A codeword that needs more than
MAX_ITER iterations fails. -/
def ofdmRxEnd (s : State) (n : Nat) (converged : Bool) (bytes : List Byte) (iter : Nat) (levels : OfdmLevels) (ago : Nat)
    (tones : List TonePower) : State :=
  match (s.lane n).ofdm with
  | none => s
  | some o =>
    match o.fc with
    | none => s
    | some fc =>
      let len := o.info.length
      let fails (s : State) : State :=
        let s := if fcMapType fc = 1 then noteFrame s (fcSel fc) true none else s
        payloadLoss s n o
      if !converged || s.fld (F.LOF_LDPC_CFG_MAX_ITER n) < iter then fails (ofdmEnd s n (F.LOF_LDPC_FAIL_COUNT n) false)
      else if !(bytes.length == len + 4 && crc32 (bytes.take len) == fieldAt bytes len 4) then
        fails (ofdmEnd s n (F.LOF_CRC_FAIL_COUNT n) false)
      else
        let info := { o.info with
          mapType := fcMapType fc, sel := fcSel fc, gen := fcGen fc, quiet := fcQuiet fc,
          nsym := ofdmSymbols len o.info.rate o.bSym, meanSnr := levels.meanSnr.toNat, iter := iter,
          rateErr := levels.rateErr.toNat, tsT := some (timeAgo s ago, genAgo s ago) }
        let s := deliver (ofdmEnd s n (F.LOF_RX_OK_COUNT n) true) info (bytes.take len) o.channel
        match sourcePeer s bytes with
        | some i => peerFrame s n i o.channel fc levels.meanSnr.toNat tones
        | none => s

/-- OFDM_RX_END. -/
def execOfdmRxEnd (lane : Lane) (converged : Bool) (bytes : List Byte) (iter : Fin 32) (levels : OfdmLevels) (ago : Nat)
    (tones : List TonePower) (s : State) : Result :=
  .next (if s.answers then ofdmRxEnd s lane converged bytes iter levels ago tones else s)

/-- The end of a CSS payload (R237, R252, R260): one from a registered peer is a frame delivered for R298. -/
def cssEnd (s : State) (n c : Nat) (bins : List Nat) (rateErr : Nat) : State :=
  match ctxOf s n c with
  | some x =>
    let len := hdrLength x.hdr
    if x.stage != 3 then s
    else
      let v := cssReceived s x.det.sf len (hdrRate x.hdr) bins
      let bytes := v.1
      let s := v.2
      if bytes.length = len + 2 && crc16 (bytes.take len) = fieldAt bytes len 2 then
        let s := deliver (endCtx s n c (F.LBB_FRAMES_OK_COUNT n)) (rxRecord n c x rateErr) (bytes.take len) (laneChannel s n)
        match sourcePeer s bytes with
        | some i => measEval (peerHeard s n i (laneChannel s n)) i
        | none => s
      else blankLoss (endCtx s n c (F.LBB_PAY_CRC_COUNT n)) n x
  | none => s

/-- CSS_PAYLOAD_END. -/
def execCssPayloadEnd (lane : Lane) (ctx : Fin 64) (bins : List Nat) (rateErr : BitVec 16) (s : State) : Result :=
  .next (if s.answers then cssEnd s lane ctx bins rateErr.toNat else s)

/-! ### Messages received (R309, R311) -/

/-- No message of the same parcel with an earlier sync-word time stamp waits on any lane (R8). -/
def messageTurn (s : State) (f : RxFrame) : Bool :=
  (List.range 4).all (fun n => (s.lane n).rx.all (fun x =>
    x.stage == 0 || fType x.bytes != 3 || fParcel x.bytes != fParcel f.bytes || f.info.ts.toNs ≤ x.info.ts.toNs))

/-- The first frame of a lane at stage 2 whose message has an MGMT_ID, in its turn, and the lane without it. -/
def takeMessage (s : State) (n id : Nat) : Option (RxFrame × State) :=
  let rx := (s.lane n).rx
  (rx.find? (fun f => f.stage == 2 && fieldAt f.body 0 1 == id && messageTurn s f)).map (fun f =>
    (f, s.setLane n { s.lane n with rx := rx.erase f }))

/-- The checks of R311 on a full TONE_MAP that arrived on a channel of numerology `m`. -/
def toneMapOk (b : List Byte) (m : Nat) : Bool :=
  let map := b.drop 7
  let ns := map.flatMap (fun x => [x.toNat % 16, x.toNat / 16])
  let sum := ns.foldl (· + ·) 0
  0 < m && 2 ^ bitsOf (fieldAt b 3 1) 2 2 == m && map.length == 27 * m && fieldAt b 5 2 == sum && 54 * m ≤ sum && ns.all (· ≤ 12)

/-- A TONE_MAP from a peer (R311). -/
def toneMapRx (s : State) (n : Nat) (f : RxFrame) : State :=
  let p := fParcel f.bytes
  let b := f.body
  let d := pGet s p 152 8
  if !(pInUse s p && pPeerValid s p) then s
  else if bit (fieldAt b 4 1) 0 then
    if b.length = 7 then pSetBits s p 153 4 2 (bitsOf (fieldAt b 3 1) 4 2) else s.count (F.LOF_MAP_RX_BAD_COUNT n) 1
  else
    let m := chM s n f.channel
    if !toneMapOk b m then s.count (F.LOF_MAP_RX_BAD_COUNT n) 1
    else
      let i := pPeer s p
      let hg := fieldAt b 1 2
      let c := fieldAt b 3 1
      let sum := fieldAt b 5 2
      let map := b.drop 7
      let s := s.ramStore (mapBase i + 216) (map ++ List.replicate (4 * ceilDiv (27 * m) 4 - map.length) 0#8)
      let s := pSet s p 152 8 (1 + 2 * bitsOf hg 12 3 + 16 * bitsOf c 0 2 + 64 * bitsOf c 2 2 + 256 * bitsOf d 8 2
        + 4096 * bitsOf c 4 2 + 2 ^ 16 * bitsOf d 16 8 + 2 ^ 32 * sum + 2 ^ 48 * bitsOf hg 0 12)
      let s := genMessage s p ([0x02#8] ++ leBytes 2 hg)
      let s := s.event (0x18 + n) 0 0x0801 0 (leBytes 2 i ++ leBytes 1 (bitsOf hg 12 3) ++ leBytes 1 (bitsOf c 0 2) ++ leBytes 2 sum)
      setCause (s.count (F.LOF_MAPS_RECEIVED_COUNT n) 1) (0x18 + n) 2

/-- TONE_MAP_RX. -/
def execToneMapRx (lane : Lane) (s : State) : Result :=
  .next (if s.answers then
      match takeMessage s lane 0x01 with
      | some (f, s) => toneMapRx s lane f
      | none => s
    else s)

/-- A TONE_MAP_ACK: one for the new generation releases the peer's retiring entry (R309). -/
def toneMapAckRx (s : State) (f : RxFrame) : State :=
  let p := fParcel f.bytes
  let hg := fieldAt f.body 1 2
  if pInUse s p && pPeerValid s p && bitsOf hg 0 12 = pPeer s p && bitsOf hg 12 3 = rxGen s p then retire s (pPeer s p) else s

/-- TONE_MAP_ACK_RX. -/
def execToneMapAckRx (lane : Lane) (s : State) : Result :=
  .next (if s.answers then
      match takeMessage s lane 0x02 with
      | some (f, s) => toneMapAckRx s f
      | none => s
    else s)

end Sys2Proof.Machine
end

