-- ==== Sys2Proof/Machine/Upd.lean ====
section
/-!
DEFINITION. Sys2Proof/Machine/Upd.lean: the distribution of node firmware: images, the erasure code, sessions, rounds and reports
(12_node_update_distribution.md).
-/
namespace Sys2Proof.Machine

/-! ### Images (R424–R426) -/

/-- First byte of image slot `k` in DRAM (R18, R424). -/
def imgBase (k : Nat) : Nat := 0x4200000 + 0x200000 * k

/-- Length of the image in slot `k`. -/
def imgLen (s : State) (k : Nat) : Nat := s.fld (F.UPD_IMG_INFO_LEN k)

/-- Symbol size of a code (R425). -/
def symBytes : Nat → Nat
  | 0 => 16
  | 1 => 32
  | 2 => 64
  | 3 => 128
  | _ => 192

/-- T of the image in slot `k`. -/
def imgSym (s : State) (k : Nat) : Nat := symBytes (s.fld (F.UPD_IMG_INFO_SYM_CODE k))

/-- K, the number of source blocks (R425). -/
def imgBlocks (s : State) (k : Nat) : Nat := ceilDiv (imgLen s k) (imgSym s k)

/-- Source block `i`, completed with zero bytes (R425). -/
def sourceBlock (s : State) (k i : Nat) : List Byte :=
  let t := imgSym s k
  slice (s.ramBytes (imgBase k + i * t) (min t (imgLen s k - i * t))) 0 t

/-- gsize(g) (R427). -/
def genSize (blocks g : Nat) : Nat := min 32 (blocks - 32 * g)

/-- Image slot `k` holds no valid image (R424). -/
def emptyImage (s : State) (k : Nat) : State :=
  let v := s.fld F.UPD_STATUS_IMG_VALID
  let s := (s.setReg (A.UPD_IMG_INFO k) 0#32).setFld F.UPD_STATUS_IMG_VALID (v - (if bit v k then 2 ^ k else 0))
  refreshSessions { s with upd := { s.upd with digests := Tbl.put (fun _ => []) s.upd.digests k [] } }

/-- UPD_IMAGE_LOAD: `agree` tells whether the two digests agree (R424). That no session uses the slot was checked when the descriptor was
taken (R124). -/
def imageLoad (s : State) (id : CmdId) (agree : Bool) : State :=
  match starting s id 0x0401 with
  | none => s
  | some c =>
    match c.data with
    | none => s
    | some bs =>
      let k := fieldAt c.desc 16 1 % 8
      let s := emptyImage ((commitCmd s id).ramStore (imgBase k) bs) k
      if agree then
        let d := Config.sha256 bs
        let code := s.fld F.UPD_CFG_SYM_CODE
        let s := s.setReg (A.UPD_IMG_INFO k) (BitVec.ofNat 32 (2 ^ 31 + code * 2 ^ 24 + bs.length))
        let s := s.setFld F.UPD_STATUS_IMG_VALID (s.fld F.UPD_STATUS_IMG_VALID + 2 ^ k)
        let s := refreshSessions { s with upd := { s.upd with digests := Tbl.put (fun _ => []) s.upd.digests k d } }
        let s := setCause (s.event 0x1F 0 0x0C00 0 (leBytes 1 k ++ leBytes 1 code ++ leBytes 4 bs.length ++ slice d 0 4)) 0x1F 1
        finish s id 0x00 (leBytes 4 (imgBlocks s k) ++ slice d 0 12)
      else finish s id 0x12 [0x02#8]

/-- UPD_IMAGE_LOAD. -/
def execUpdImageLoad (id : CmdId) (agree : Bool) (s : State) : Result := .next (if s.engaged then imageLoad s id agree else s)

/-! ### The erasure code (R427, R428) -/

/-- Multiplication in GF(2⁸) with the polynomial 0x11D (R428). -/
def gmul (a b : Nat) : Nat :=
  ((List.range 8).foldl (fun (t : Nat × Nat) i =>
    (if bit b i then t.1 ^^^ t.2 else t.1, if bit t.2 7 then (2 * t.2 % 256) ^^^ 0x1D else 2 * t.2)) (0, a)).1

/-- One step of the 32-bit xorshift (R428). -/
def xorshift (x : Nat) : Nat :=
  let x := x ^^^ (x * 2 ^ 13 % 2 ^ 32)
  let x := x ^^^ (x / 2 ^ 17)
  x ^^^ (x * 2 ^ 5 % 2 ^ 32)

/-- The next `n` coefficients from a state of the generator. -/
def coefficients (x : Nat) : Nat → List Nat
  | 0 => []
  | n + 1 => (1 + xorshift x % 255) :: coefficients (xorshift x) n

/-- The coefficients of repair symbol `r` of generation `g` (R428). -/
def repairCoeffs (g r size : Nat) : List Nat := coefficients (0x9E3779B9 ^^^ (g * 2048 % 2 ^ 32) ^^^ r) size

/-- A repair symbol from the blocks of its generation (R428). -/
def repairSymbol (g r t : Nat) (src : List (List Byte)) : List Byte :=
  (List.zip (repairCoeffs g r src.length) src).foldl (fun acc e =>
    xorBytes acc (e.2.map (fun b => BitVec.ofNat 8 (gmul e.1 b.toNat)))) (List.replicate t 0#8)

/-- The symbol of an ESI of the image in slot `k` (R427). -/
def symbolOf (s : State) (k esi : Nat) : List Byte :=
  if bit esi 23 then
    let g := bitsOf esi 11 12
    repairSymbol g (esi % 2048) (imgSym s k) ((List.range (genSize (imgBlocks s k) g)).map (fun i => sourceBlock s k (32 * g + i)))
  else sourceBlock s k esi

/-! ### Planning (R436, R437) -/

/-- A list put in order by a relation. -/
def insertBy {α : Type} (le : α → α → Bool) (x : α) : List α → List α
  | [] => [x]
  | y :: t => if le x y then x :: y :: t else y :: insertBy le x t
def sortBy {α : Type} (le : α → α → Bool) (l : List α) : List α := l.foldr (insertBy le) []

/-- The words of entries that are promised and not yet in the table: those of SLOT_ASSIGN messages and of held joins. -/
def promisedWords (s : State) : List (Nat × Nat) :=
  s.mac.assigns.flatMap (fun a => a.2.map (fun e => e.2)) ++ s.mac.joins.flatMap (fun j => j.entries.map (fun e => e.2))

/-- The words of every entry that is not empty. -/
def tableWords (s : State) : List (Nat × Nat) := (usedEntries s).map (fun e => (entryW0 s e, entryW1 s e))

/-- An entry could be written beside the entries `others` (R332). -/
def placeable (s : State) (others : List (Nat × Nat)) (w0 w1 : Nat) : Bool :=
  (entryFault s w0 w1 []).isNone && !others.any (fun o => entriesOverlap w0 w1 o.1 o.2)

/-- The entries that are not empty, and the empty ones promised to a node (R362, R364), in increasing index. -/
def takenEntries (s : State) : List Nat :=
  (s.mac.assigns.flatMap (fun a => a.2) ++ s.mac.joins.flatMap (fun j => j.entries)).foldl
    (fun l e => insertNat e.1 (l.filter (· != e.1))) (usedEntries s)

/-- An entry outside `used`, a rising list; which one is open. -/
def pickOutside (s : State) (used : List Nat) : Nat × State :=
  let d := drawNat s (0x100000 - used.length)
  (used.foldl (fun n e => if e ≤ n then n + 1 else n) d.1, d.2)

/-- An entry that is empty and promised to no node. -/
def pickEntry (s : State) : Nat × State := pickOutside s (takenEntries s)

/-- A multicast frame of `length` bytes on lane `n` (R436). -/
def mcastTx (s : State) (n sf length : Nat) : Tx :=
  { beaconTx s n (bcnCfg s n) length with kind := 5, sf := sf, npre := lanePre s n }

/-- L0 in µs (R437). -/
def mcastLead (s : State) : Nat := ceilDiv (2 * s.fld F.MAC_GUARD_CFG_BASE_GUARD_US) 1000 * 1000

/-- LEN of an MCAST entry with `f` positions of frames of `a` µs (R437). -/
def mcastLen (s : State) (a f : Nat) : Nat := ceilDiv (mcastLead s + f * a + (f - 1) * 2000) 4000

/-- The choices of period and positions that the budgets admit, the best first (R437). -/
def mcastChoices (s : State) (n : Nat) (t : Tx) : List (Nat × Nat) :=
  let x := s.rgl.cur
  let c := txCharge s n t
  let e := txEdges s n t
  match accountsOf x.code e.1 e.2 with
  | none => []
  | some as =>
    if frameLimit x.code < c || !chDefined s n t.channel then []
    else
      let fits (p f : Nat) : Bool :=
        as.all (fun a => (ceilDiv (windowNs x.code) (p * 8192000000) + 1) * f * c * 100 ≤ budgetNs x.code a * s.fld F.UPD_CFG_BUDGET_PCT)
      let all := [1, 2, 4, 8, 16, 32, 64, 128].flatMap (fun p =>
        ((List.range 512).filter (fun f => 0 < f && mcastLen s t.airUs f ≤ 511 && fits p f)).map (fun f => (p, f)))
      sortBy (fun a b => a.2 * b.1 > b.2 * a.1 || (a.2 * b.1 == b.2 * a.1 && a.1 ≤ b.1)) all

/-- The lowest tick, and for that the lowest phase, at which an entry of period `p` can stand. -/
def placeMcast (s : State) (others : List (Nat × Nat)) (n sid sf channel p len : Nat) : Option (Nat × Nat) :=
  (List.range 8192).findSome? (fun tick =>
    (List.range p).findSome? (fun ph =>
      let w0 := (p + ph) * 2 ^ 24 + 3 * 2 ^ 22 + n * 2 ^ 20 + channel * 2 ^ 12 + (sf - 6) * 2 ^ 9 + len
      let w1 := tick * 2 ^ 18 + 3 * 2 ^ 14 + sid
      if placeable s others w0 w1 then some (w0, w1) else none))

/-- The plan of one lane: positions, and the words of its entry (R437). -/
def planLane (s : State) (others : List (Nat × Nat)) (n sid sf sym micLen : Nat) : Option (Nat × Nat × Nat) :=
  let t := mcastTx s n sf (15 + sym + macBytes micLen)
  (mcastChoices s n t).findSome? (fun c =>
    (placeMcast s others n sid sf t.channel c.1 (mcastLen s t.airUs c.2)).map (fun w => (c.2, w)))

/-- The plans of the lanes of a mask, lane by lane; none where a lane has no place. -/
def planLanes (s : State) (sid sym micLen : Nat) : List Nat → List (Nat × Nat) → Option (List (Nat × Nat × Nat × Nat))
  | [], _ => some []
  | n :: t, others =>
    match planLane s others n sid (6 + s.fld ⟨A.UPD_MC_CFG, 4 * n, 3⟩) sym micLen with
    | none => none
    | some (f, w0, w1) => (planLanes s sid sym micLen t ((w0, w1) :: others)).map (fun r => (n, f, w0, w1) :: r)

/-! ### Sessions (R434, R441–R443) -/

/-- Lanes of a mask. -/
def maskLanes (mask : Nat) : List Nat := (List.range 4).filter (bit mask)

/-- The lowest session slot without a running session. -/
def freeSid (s : State) : Option Nat := (List.range 4).find? (fun k => (sessOf s k).isNone)

/-- The slot whose record names a session (R442). -/
def recordOf (s : State) (session : Nat) : Option Nat :=
  if session = 0 then none else (List.range 4).find? (fun k => s.fld (F.UPD_SESS_ID_SESSION k) == session)

/-- `SESSk_STATE.STATE` follows the lanes: SENDING or COLLECTING, the more advanced (R441). -/
def showSession (s : State) (sid : Nat) : State :=
  match sessOf s sid with
  | none => s
  | some x =>
    if x.suspended.isSome || s.fld (F.UPD_SESS_STATE_STATE sid) < 2 || sfnNow s < x.startSfn then s
    else s.setFld (F.UPD_SESS_STATE_STATE sid) (if x.lanes.any (fun l => l.stage == 1) then 4 else 3)

/-- The session as it starts (R434). Update bytes of a parcel that name its number without being of it mean IDLE (R443). -/
def openSession (s : State) (sid image group deadline mask : Nat) (plan : List (Nat × Nat × Nat × Nat)) : State :=
  let session := s.upd.nextSession
  let now := sfnNow s
  let r := plan.foldl (fun (acc : List UpdLane × State) l =>
    let e := pickEntry acc.2
    (acc.1 ++ [{ lane := l.1, entry := e.1, sf := 6 + eSfc l.2.2.1, frames := l.2.1, round := 0, sent := 0, due := [], nextEsi := 0,
                 stage := 0, endSfn := 0, gap := 0, need := [], reports := [], planned := 0 }],
     putEntry e.2 e.1 l.2.2.1 l.2.2.2)) ([], s)
  let x : Sess :=
    { sid := sid, session := session, image := image, group := group, micLen := s.fld F.MAC_JOIN_CFG_MICLEN,
      startSfn := now + s.fld F.UPD_CFG_INVITE_SF, endSfn := now + deadline, lanes := r.1, nextR := [], suspended := none }
  let s := (usedParcels r.2).foldl (fun (t : State) p =>
    if uSid t p = sid && uSession t p = session % 65536 then t.ramStore (256 * p + 248) (List.replicate 8 0#8) else t) r.2
  let s := { s with upd := { s.upd with sessions := s.upd.sessions ++ [x], nextSession := session + 1,
                                        groups := Tbl.put (fun _ => 0) s.upd.groups session group } }
  let s := s.setReg (A.UPD_SESS_ID sid) (BitVec.ofNat 32 session)
  let s := s.setReg (A.UPD_SESS_STATE sid) (BitVec.ofNat 32 (mask * 4096 + image * 256 + 1))
  let s := [A.UPD_SESS_TARGETED sid, A.UPD_SESS_COMPLETED sid, A.UPD_SESS_PENDING sid, A.UPD_SESS_DECLINED sid, A.UPD_SESS_FAILED sid,
    A.UPD_SESS_LOST sid].foldl (fun (t : State) a => t.setReg a 0#32) s
  refreshSessions s

/-- UPD_SESSION_START (R434). Its checks are made when the descriptor is taken (R124); where no session slot or no place for an entry is
left when the session is to start, it cannot start (log entry 137). -/
def sessionStart (s : State) (id : CmdId) : State :=
  match starting s id 0x0402 with
  | none => s
  | some c =>
    let image := fieldAt c.desc 16 1 % 8
    let mask := fieldAt c.desc 17 1 % 16
    match freeSid s with
    | none => finish s id 0x12 [0x01#8]
    | some sid =>
      match planLanes s sid (imgSym s image) (s.fld F.MAC_JOIN_CFG_MICLEN) (maskLanes mask) (tableWords s ++ promisedWords s) with
      | none => finish s id 0x12 [0x02#8]
      | some plan =>
        let session := s.upd.nextSession
        finish (openSession s sid image (fieldAt c.desc 20 4) (fieldAt c.desc 24 4) mask plan) id 0x00 (leBytes 4 session)

/-- UPD_SESSION_START. -/
def execUpdSessionStart (id : CmdId) (s : State) : Result := .next (if s.ready && !holding s then sessionStart s id else s)

/-- UPD_SESSION_STOP (R442): an ENDED session stays as it is. -/
def sessionStop (s : State) (id : CmdId) : State :=
  match starting s id 0x0403 with
  | none => s
  | some c =>
    let session := fieldAt c.desc 16 4
    match s.upd.sessions.find? (fun x => x.session == session) with
    | some x => finish (endSession s x 3 1) id 0x00 []
    | none => finish s id 0x00 []

/-- UPD_SESSION_STOP. -/
def execUpdSessionStop (id : CmdId) (s : State) : Result := .next (if s.engaged && !holding s then sessionStop s id else s)

/-- UPD_SESSION_REPORT (R150, R441). -/
def sessionReport (s : State) (id : CmdId) : State :=
  match starting s id 0x0404 with
  | none => s
  | some c =>
    match recordOf s (fieldAt c.desc 16 4) with
    | none => finish s id 0x11 (leBytes 2 16)
    | some k =>
      finish s id 0x00 (leBytes 4 (s.fld (F.UPD_SESS_TARGETED_COUNT k)) ++ leBytes 4 (s.fld (F.UPD_SESS_COMPLETED_COUNT k))
        ++ leBytes 4 (s.fld (F.UPD_SESS_PENDING_COUNT k)))

/-- UPD_SESSION_REPORT. -/
def execUpdSessionReport (id : CmdId) (s : State) : Result := .next (if s.engaged then sessionReport s id else s)

/-- Session slot `sid` changed by `f`. -/
def editSess (s : State) (sid : Nat) (f : Sess → Sess) : State :=
  { s with upd := { s.upd with sessions := s.upd.sessions.map (fun y => if y.sid == sid then f y else y) } }

/-- Running sessions are suspended for MAINTENANCE, and resume on the return to READY (R443). -/
def suspendSessions (s : State) : State :=
  s.upd.sessions.foldl (fun (t : State) x =>
    let old := t.fld (F.UPD_SESS_STATE_STATE x.sid)
    let t := editSess t x.sid (fun y => { y with suspended := some old })
    t.setFld (F.UPD_SESS_STATE_STATE x.sid) 5) s
def resumeSessions (s : State) : State :=
  s.upd.sessions.foldl (fun (t : State) x =>
    match x.suspended with
    | none => t
    | some old =>
      let t := editSess t x.sid (fun y => { y with suspended := none })
      showSession (t.setFld (F.UPD_SESS_STATE_STATE x.sid) old) x.sid) s

/-- SESSION_DEADLINE (R442). -/
def execSessionDeadline (sid : Fin 4) (s : State) : Result :=
  .next (match sessOf s sid with
    | some x => if s.engaged && x.endSfn ≤ sfnNow s then endSession s x 2 2 else s
    | none => s)

/-! ### Targets (R435) -/

/-- An UPD_INVITE body; K_MC is put in only as it is sent (R432, R571). -/
def inviteBody (s : State) (x : Sess) (l : UpdLane) : List Byte :=
  let w0 := entryW0 s l.entry
  let w1 := entryW1 s l.entry
  [0x40#8] ++ leBytes 1 x.sid ++ leBytes 4 x.session ++ leBytes 4 (imgLen s x.image)
    ++ leBytes 1 (s.fld (F.UPD_IMG_INFO_SYM_CODE x.image)) ++ leBytes 1 (l.sf - 6) ++ leBytes 2 (eTick w1) ++ leBytes 2 (eLen w0)
    ++ leBytes 1 (ePp w0) ++ leBytes 4 x.startSfn ++ leBytes 4 x.endSfn
    ++ slice (Tbl.get (fun _ => []) s.upd.digests x.image) 0 32 ++ List.replicate 16 0#8

/-- LAST_LANE of a parcel. -/
def lastLane (s : State) (p : Nat) : Nat := pBits s p 92 0 2

/-- A lane's share of a session. -/
def updLane (x : Sess) (n : Nat) : Option UpdLane := x.lanes.find? (fun l => l.lane == n)

/-- A parcel is selected (R435). -/
def selected (s : State) (x : Sess) (p : Nat) : Bool :=
  pSess s p && (pClass s p == 1 || pLink s p == 1) && (x.group == 0xFFFFFFFF || pGet s p 4 4 == x.group)

/-- Why a selected parcel is excluded, or its lane (R435). -/
def excluded (s : State) (x : Sess) (p : Nat) : Option UpdLane :=
  if pRelayed s p then none
  else match updLane x (lastLane s p) with
    | none => none
    | some l => if l.sf < pSf s p || lenMax s p true < 73 || (pendingIn s p).any (fun y => y.sid != x.sid) then none else some l

/-- An invite sent to a target. -/
def invite (s : State) (x : Sess) (l : UpdLane) (p : Nat) : State :=
  genMessage (pSetBits s p 255 0 4 (pBits s p 255 0 4 + 1)) p (inviteBody s x l)

/-- One target taken into a session (R441, R444). -/
def target (s : State) (x : Sess) (l : UpdLane) (p : Nat) : State :=
  let s := s.ramStore (256 * p + 248) (leBytes 2 x.session ++ leBytes 1 (1 + 8 * x.sid) ++ List.replicate 5 0#8)
  let s := { s with upd := { s.upd with retry := s.upd.retry.filter (· != p) } }
  invite ((s.count (F.UPD_SESS_TARGETED_COUNT x.sid) 1).count (F.UPD_SESS_PENDING_COUNT x.sid) 1) x l p

/-- PE14 selects the targets of a session (R435, R442). -/
def targetSelect (s : State) (x : Sess) : State :=
  let ps := (usedParcels s).filter (selected s x)
  let r := ps.foldl (fun (acc : Nat × State) p =>
    match excluded acc.2 x p with
    | some l => (acc.1, target acc.2 x l p)
    | none => (acc.1 + 1, acc.2)) (0, s)
  let s := r.2
  let n := s.fld (F.UPD_SESS_TARGETED_COUNT x.sid)
  let s := setCause (s.event 0x1F 0 0x0C01 0 (leBytes 4 x.session ++ leBytes 3 n ++ leBytes 3 r.1)) 0x1F 0
  if n = 0 then endSession s x 4 0
  else
    let s := s.setFld (F.UPD_SESS_STATE_STATE x.sid) 2
    x.lanes.foldl (fun (t : State) l =>
      if (pendingOf t x).any (fun p => lastLane t p == l.lane) then t else laneFinal t x.sid l.lane) s

/-- TARGET_SELECT. -/
def execTargetSelect (sid : Fin 4) (s : State) : Result :=
  .next (match sessOf s sid with
    | some x => if s.ready && !holding s && s.fld (F.UPD_SESS_STATE_STATE sid) = 1 then targetSelect s x else s
    | none => s)

/-! ### Rounds (R431, R438, R439) -/

/-- The symbol due on a lane: an ESI, or none for the END frame. -/
def symbolDue (s : State) (x : Sess) (l : UpdLane) : Option Nat :=
  if l.round = 0 then (if l.nextEsi < imgBlocks s x.image then some l.nextEsi else none) else l.due.head?

/-- REPORT_SF (R439). -/
def reportSf (s : State) (x : Sess) (n : Nat) : Nat :=
  let periods := ((pendingOf s x).filter (fun p => lastLane s p == n)).map (fun p =>
    match pClass s p with
    | 0 => ((nodeEntry s p 0).map (fun e => ppPeriod (ePp (entryW0 s e)))).getD 1
    | 2 => ((nodeEntry s p 2).map (fun e => ppPeriod (ePp (entryW0 s e)))).getD 1
    | _ => 1)
  min 256 (max (2 * periods.foldl max 0) 2)

/-- The multicast frame due on a lane, unprotected (R431). -/
def mcastFrame (s : State) (x : Sess) (l : UpdLane) : List Byte :=
  let f : Fctl := { type := 6, secured := true, ackReq := false, fpend := false, dir := true, relay := false, cls := 0,
                    micLen := x.micLen, ackf := false }
  let head := headerBytes f (s.fld F.MAC_ROUTER_ID_ID) 0 (l.lane * 2 ^ 30 + l.sent % 2 ^ 30)
  match symbolDue s x l with
  | some esi => head ++ leBytes 1 x.sid ++ leBytes 1 l.round ++ leBytes 3 esi ++ symbolOf s x.image esi
  | none => head ++ leBytes 1 (x.sid + 4) ++ leBytes 1 l.round ++ leBytes 2 (reportSf s x l.lane) ++ [0#8]

/-- The session and lane share of the MCAST occurrence in progress on lane `n`. -/
def mcastOcc (s : State) (n : Nat) : Option (Occ × Sess × UpdLane) :=
  match (s.lane n).occ with
  | none => none
  | some o =>
    if eType o.w0 = 3 && eKind o.w1 = 3 then
      match sessOf s (eIndex o.w1) with
      | some x => (updLane x n).map (fun l => (o, x, l))
      | none => none
    else none

/-- Pin power of multicast frames: the largest PWR_DL among the lane's targets (R436). -/
def mcastPower (s : State) (x : Sess) (n : Nat) : Int :=
  let ps := (usedParcels s).filter (fun p =>
    uState s p != 0 && uSid s p == x.sid && uSession s p == x.session % 65536 && lastLane s p == n)
  match ps with
  | [] => signed 8 (s.fld F.CAD_PWR_CFG_DL_PWR_MIN)
  | p :: t => t.foldl (fun m q => max m (pSigned s q 123)) (pSigned s p 123)

/-- A frame position passes on lane `n` (R437, R438): a frame is requested where one is due; a position in which the session is
suspended is not consumed. -/
def mcastPosition (s : State) (n : Nat) : State :=
  match mcastOcc s n with
  | none => s
  | some (o, x, l) =>
    if l.frames ≤ o.pos then s
    else
      let a := (mcastTx s n l.sf (15 + imgSym s x.image + macBytes x.micLen)).airUs
      let start := o.start + (mcastLead s + o.pos * (a + 2000)) * 1000
      let s := s.setLane n { s.lane n with occ := some { o with pos := o.pos + 1 } }
      let sfn := sfnAt s o.start
      if l.stage != 0 || sfn < x.startSfn || (0 < l.round && sfn ≤ l.endSfn + l.gap) then s
      else if x.suspended.isSome || !s.ready || !mayTransmit s n then s.count F.UPD_MC_WITHHELD_COUNT 1
      else
        let plain := mcastFrame s x l
        match ccmProtect s (mcKey s x.session x.group) plain 0 with
        | (none, s) => s.count F.UPD_MC_WITHHELD_COUNT 1
        | (some bs, s) =>
          let t := mcastTx s n l.sf bs.length
          let t := { t with parcel := x.sid, content := .frame bs, power := mcastPower s x n, start := start }
          s.setLane n { s.lane n with txs := (s.lane n).txs ++ [{ t with latest := latestBy s (some (o.start + eLen o.w0 * 4000000)) t }] }

/-- MCAST_POSITION. -/
def execMcastPosition (lane : Lane) (s : State) : Result := .next (if s.engaged then mcastPosition s lane else s)

/-- A multicast frame has not gone on air: its position is not consumed (R438). -/
def mcastMissed (s : State) : State := s.count F.UPD_MC_WITHHELD_COUNT 1

/-- An END frame has been sent from START on lane `n`: the collection gap begins (R435, R439, R445). -/
def roundEnds (s : State) (x : Sess) (l : UpdLane) (sfn gap : Nat) : State :=
  let s := s.event 0x1F 0 0x0C02 0
    (leBytes 4 x.session ++ leBytes 1 l.lane ++ leBytes 1 l.round ++ leBytes 2 l.planned ++ leBytes 2 l.reports.length)
  let s := editUpdLane (setCause s 0x1F 2) x.sid l.lane (fun l =>
    { l with sent := l.sent + 1, stage := 1, endSfn := sfn, gap := gap, need := [], reports := [] })
  let again := s.upd.retry.filter (fun p =>
    uState s p == 1 && (match pendingIn s p with
      | some y => y.sid == x.sid && lastLane s p == l.lane
      | none => false))
  let s := { s with upd := { s.upd with retry := s.upd.retry.filter (fun p => !again.contains p) } }
  showSession (again.foldl (fun (t : State) p => invite t x l p) s) x.sid

/-- A multicast frame has been sent on lane `n` from START: its symbol is consumed (R438). -/
def mcastSent (s : State) (n : Nat) (t : Tx) : State :=
  match sessOf s t.parcel with
  | none => s
  | some x =>
    match updLane x n with
    | none => s
    | some l =>
      let s := s.count F.UPD_MC_FRAMES_COUNT 1
      match symbolDue s x l with
      | none => roundEnds s x l (sfnAt s t.start) (reportSf s x n)
      | some esi =>
        let s := if bit esi 23 then s.count F.UPD_REPAIR_FRAMES_COUNT 1 else s
        showSession (editUpdLane s x.sid n (fun l =>
          if l.round = 0 then { l with sent := l.sent + 1, nextEsi := l.nextEsi + 1 }
          else { l with sent := l.sent + 1, due := l.due.tail })) x.sid

/-- The repair symbols of a round: per generation its count and next unused index, one symbol per generation and pass (R438). -/
def roundRobin (plan : List (Nat × Nat × Nat)) : List Nat :=
  let passes := plan.foldl (fun m e => max m e.2.1) 0
  (List.range passes).flatMap (fun j =>
    plan.filterMap (fun e =>
      if j < e.2.1 && e.2.2 + j < 2048 then some (2 ^ 23 + e.1 * 2048 + e.2.2 + j) else none))

/-- The collection gap of a lane ends: nodes that stayed silent are counted, and the next round is planned (R438–R441). -/
def gapEnds (s : State) (x : Sess) (l : UpdLane) : State :=
  let extra := s.fld F.UPD_CFG_EXTRA
  let plan := (l.need.filter (fun e => 0 < e.2)).map (fun e => (e.1, e.2 + extra, Tbl.get (fun _ => 0) x.nextR e.1))
  let due := roundRobin plan
  let s := editSess s x.sid (fun y => { y with
    nextR := plan.foldl (fun t e => Tbl.put (fun _ => 0) t e.1 (min 2048 (e.2.2 + e.2.1))) y.nextR })
  let s := editUpdLane s x.sid l.lane (fun l => { l with round := l.round + 1, stage := 0, due := due, planned := due.length })
  let silent := (pendingOf s x).filter (fun p => uState s p == 2 && lastLane s p == l.lane && !l.reports.contains p)
  let s := silent.foldl (fun (t : State) p =>
    let k := pBits t p 250 5 2 + 1
    let t := pSetBits t p 250 5 2 k
    if 3 ≤ k then setUstate t p 6 else t) s
  showSession s x.sid

/-- REPORT_GAP_END. -/
def execReportGapEnd (sid : Fin 4) (lane : Lane) (s : State) : Result :=
  .next (match sessOf s sid with
    | some x =>
      match updLane x lane with
      | some l => if s.engaged && !holding s && l.stage = 1 then gapEnds s x l else s
      | none => s
    | none => s)

/-! ### Reports (R432, R440) -/

/-- The listed entries of a report: generation and need taken. -/
def listed (blocks : Nat) (body : List Byte) : List (Nat × Nat) :=
  (List.range ((body.length - 9) / 2)).map (fun i =>
    let w := fieldAt body (9 + 2 * i) 2
    let g := bitsOf w 0 12
    let c := bitsOf w 12 4
    (g, if c = 15 then genSize blocks g else c))

/-- The needs that a report gives (R440). -/
def reportNeeds (blocks : Nat) (body : List Byte) : List (Nat × Nat) :=
  let ls := listed blocks body
  let total := fieldAt body 6 3
  let sum := ls.foldl (fun t e => t + e.2) 0
  let top := ls.foldl (fun t e => max t (e.1 + 1)) 0
  let ng := ceilDiv blocks 32
  ls ++ (if sum < total then
      ((List.range ng).filter (fun g => top ≤ g)).map (fun g => (g, min (genSize blocks g) (total - sum)))
    else [])

/-- An UPD_STATUS of parcel `p` (R440, R441). -/
def statusRx (s : State) (p : Nat) (body : List Byte) : State :=
  let state := fieldAt body 4 1
  let bad := s.count F.UPD_REPORTS_BAD_COUNT 1
  match sessOf s (fieldAt body 1 1 % 4) with
  | none => bad
  | some x =>
    if body.length < 9 || body.length % 2 = 0 || 3 < state || uState s p = 0 || uSid s p != x.sid
        || uSession s p != x.session % 65536 || fieldAt body 2 2 != x.session % 65536 then bad
    else
      match updLane x (lastLane s p) with
      | none => s
      | some l =>
        let s := s.count F.UPD_REPORTS_COUNT 1
        let s := pSet (pSetBits (pSet s p 251 1 (fieldAt body 5 1)) p 250 5 2 0) p 252 3 (fieldAt body 6 3)
        let s := if l.stage = 1 then
            editUpdLane s x.sid l.lane (fun l => { l with reports := l.reports.filter (· != p) ++ [p] })
          else s
        match state with
        | 0 => setUstate s p 4
        | 1 =>
          let s := setUstate s p 2
          if l.stage = 1 && (pendingIn s p).isSome then
            (reportNeeds (imgBlocks s x.image) body).foldl (fun (t : State) e =>
              editUpdLane t x.sid l.lane (fun l =>
                { l with need := Tbl.put (fun _ => 0) l.need e.1 (max e.2 (Tbl.get (fun _ => 0) l.need e.1)) })) s
          else s
        | 2 => setUstate s p 3
        | _ => setUstate (if (pendingIn s p).isSome then genMessage s p (cancelBody x 3) else s) p 5

/-- UPD_STATUS_RX. -/
def execUpdStatusRx (lane : Lane) (s : State) : Result :=
  .next (if s.answers then
      match takeMessage s lane 0x41 with
      | some (f, s) => statusRx s (fParcel f.bytes) f.body
      | none => s
    else s)

end Sys2Proof.Machine
end

