-- ==== Sys2Proof/Machine/Join.lean ====
section
/-!
DEFINITION. Sys2Proof/Machine/Join.lean: the routes that relayed frames show, and the joining of nodes
(R359–R363, R395, R413–R417).
-/
namespace Sys2Proof.Machine

/-! ### Received frames -/

/-- The end of a received frame in Datum ns (R345). -/
def endNs (r : RxRecord) : Nat :=
  r.ts.toNs + 1000 *
    (if r.mode = 1 then chirpPartUs r.sf r.bw 0 + (3 + r.nsym + quietCount r.quiet) * 72 else cssAirUs r.sf r.bw 0 r.length r.rate)

/-- The sub-channel offset of a reception. -/
def rxOffset (_ : State) (r : RxRecord) : Int := r.off

/-- SNR and −RSSI of a frame as a route record holds them: a relayed frame's are those its unit reports (R266, R416). RSSI of a
reception is in 1/16 dBm. -/
def linkQuality (f : RxFrame) : Nat × Nat :=
  match f.relay with
  | some (_, snr, rssi) => (snr, rssi)
  | none => (f.info.snr, (min 255 (-(signed 16 f.info.rssi) / 16)).toNat)

/-! ### Routes (R413–R417) -/

/-- The chain of route record `i`. -/
def routeChain (s : State) (i : Nat) : List Nat :=
  let r := routeAt i
  (List.range (bitsOf (s.ram r).toNat 0 3)).map (fun j => s.ramNat (r + 2 + 3 * j) 3)

/-- Route record `i` is VALID. -/
def routeValid (s : State) (i : Nat) : Bool := bit (s.ram (routeAt i)).toNat 7

/-- The chain of peer `q`'s record is `chain`: rewritten where it was another (R415, R417). -/
def setChain (s : State) (q : Nat) (chain : List Nat) : State :=
  let i := pPeer s q
  if routeValid s i && routeChain s i == chain then s
  else
    let a := routeAt i
    let reps := (chain ++ List.replicate 4 0).take 4
    routeCommit ((s.ramStore a (leBytes 1 (chain.length % 8 + 128))).ramStore (a + 2) (reps.flatMap (leBytes 3))) i

/-- A CHILD_CLEAR for node `p` to repeater `q` (R419). -/
def childClear (s : State) (q p : Nat) : State := genMessage s q ([0x31#8, 1#8] ++ leBytes 3 p)

/-- The records follow a path, the parent first, that a NEW frame or a join of node `p` has shown (R415). -/
def routeUpdate (s : State) (p : Nat) (path : List Nat) : State :=
  let parent := path.headD 0
  if path = [] || (pRelayed s p && pathTo s p == path.reverse) then s
  else
    let old := if pRelayed s p then some (pParent s p) else none
    let s := pSetBits (pSet s p 20 3 (parent + 2 ^ 18 * bitsOf (pGet s p 20 4) 18 3)) p 8 3 1 1
    let s := (List.range path.length).foldl (fun (t : State) i => setChain t ((path.drop i).headD 0) (path.drop (i + 1)).reverse) s
    let s := match old with
      | some q => if q = parent then s else countChildren (childClear s q p) q
      | none => s
    setCause ((countChildren s parent).event 0x1E 0 0x0B04 1 (leBytes 4 p ++ leBytes 4 parent)) 0x1E 5

/-- A frame received directly from a relayed node that holds entries of its own: it is relayed no more (R415). -/
def routeDirect (s : State) (p : Nat) : State :=
  if pRelayed s p && !(nodeEntries s p).isEmpty then
    let q := pParent s p
    let s := pSetBits (pSet s p 20 3 (2 ^ 18 * bitsOf (pGet s p 20 4) 18 3)) p 8 3 1 0
    setCause ((countChildren s q).event 0x1E 0 0x0B04 1 (leBytes 4 p ++ leBytes 4 0x3FFFF)) 0x1E 5
  else s

/-- The valid route records, by peer index. -/
def validRoutes (s : State) : List Nat :=
  s.dram.filterMap (fun c =>
    if routeBase ≤ c.1 && c.1 < 0x4200000 && (c.1 - routeBase) % 80 = 0 && bit c.2.toNat 7 then some ((c.1 - routeBase) / 80) else none)

/-- A NEW frame has crossed the last hop to peer `p`, `k` repeaters from the device: LINKk of its own record and of every record
whose chain has it there (R416). -/
def linkSeen (s : State) (p k snr rssi : Nat) : State :=
  if !pPeerValid s p || 4 < k then s
  else
    (validRoutes s).foldl (fun (t : State) i =>
      let own := i == pPeer t p && (routeChain t i).length == k
      let through := ((routeChain t i).drop k).head? == some p
      let a := routeAt i + 14 + 2 * k
      let new := leBytes 1 snr ++ leBytes 1 rssi
      if (own || through) && t.ramBytes a 2 != new then routeCommit (t.ramStore a new) i else t) s

/-- A relay unit: its path, SNR, −RSSI and carried frame. -/
structure RelayUnit where
  path : List Nat
  snr : Nat
  rssi : Nat
  frame : List Byte
  deriving DecidableEq, Repr

/-- The units of a body, one by one: none for one that fails a check of R414. `q` sent the frame that carries them. -/
def relayUnits (s : State) (q : Nat) : Nat → List Byte → List (Option RelayUnit)
  | 0, _ => []
  | fuel + 1, bs =>
    if bs = [] then []
    else
      let w := fieldAt bs 0 2
      let len := bitsOf w 0 11
      let hops := bitsOf w 11 3
      let size := 4 + 3 * hops + len
      if bs.length < max 4 size then [none]
      else
        let path := (List.range hops).map (fun i => fieldAt bs (4 + 3 * i) 3 % 2 ^ 18)
        let ok := 1 ≤ hops && hops ≤ 4 && !bit w 14 && path.getLast? == some q && path.all (fun r => pInUse s r && pClass s r == 2)
        (if ok then some { path := path, snr := fieldAt bs 2 1, rssi := fieldAt bs 3 1, frame := (bs.drop (4 + 3 * hops)).take len } else none)
          :: relayUnits s q fuel (bs.drop size)

/-- The units of a frame from repeater `q` become frames of their own, which wait for their verification (R414). -/
def unpack (s : State) (n q : Nat) (f : RxFrame) (body : List Byte) : State :=
  let us := relayUnits s q (body.length + 1) body
  if !s.flag F.CAD_CTRL_ROUTE_EN then s.count F.CAD_RELAY_DROPS_COUNT us.length
  else
    let r := us.foldl (fun (acc : List RxFrame × State) u =>
      match u with
      | none => (acc.1, (routeCount acc.2 q 40).count F.CAD_RELAY_DROPS_COUNT 1)
      | some u =>
        let t := u.path.foldl (fun (t : State) r => routeCount t r 32) acc.2
        (acc.1 ++ [{ info := f.info, bytes := u.frame, check := .waiting, epoch := 0, body := [], stage := 0, channel := f.channel,
                     relay := some (u.path, u.snr, u.rssi) }], t)) ([], s)
    let s := r.2
    s.setLane n { s.lane n with rx := r.1 ++ (s.lane n).rx }

/-! ### Placement of a joining node (R339, R361, R364) -/

/-- What the entries of a node are made for (R339, R361, R362, R409). -/
structure Fit where
  sf : Nat
  bw : Nat
  /-- sub-channel offset in Hz -/
  offset : Int
  pre : Nat
  base : Nat
  ppm : Nat
  micLen : Nat
  /-- ACK_GAP in ms -/
  gap : Nat
  period : Nat
  up : Nat
  dl : Nat

/-- The device's frame in every occurrence of an entry of period `period` stays within the budgets beside the beacon reserves (R361,
R375). Without a profile there is no budget. -/
def withinBudget (s : State) (n : Nat) (t : Tx) (period : Nat) : Bool :=
  let x := s.rgl.cur
  let c := txCharge s n t
  let e := txEdges s n t
  x.code = 0 || (c ≤ frameLimit x.code
    && (match accountsOf x.code e.1 e.2 with
      | none => false
      | some as => as.all (fun a =>
          (ceilDiv (windowNs x.code) (period * 8192000000) + 1) * c + (x.acct (x.key n a)).reserve ≤ budgetNs x.code a)))

/-- LEN that a node's entry needs for a frame of `up` body bytes and a response of `down` (R339). -/
def slotTicks (x : Fit) (up down : Nat) : Nat :=
  let m := macBytes x.micLen
  let lead := ceilDiv (4 * guardUs x.base x.ppm (x.period * 8192000000)) 1000
  ceilDiv (2 * lead * 1000 + cssAirUs x.sf x.bw x.pre (10 + up + m) 0 + x.gap * 1000 + cssAirUs x.sf x.bw x.pre (13 + down + m) 0) 4000

/-- LEN of a node's entry for a frame of `up` body bytes and a response of `down` (R339); none where it does not fit, or where the
device's frame exceeds the profile's longest (R372) or the budgets of its channel (R361). -/
def slotLen (s : State) (n channel : Nat) (x : Fit) (up down : Nat) (deviceFirst : Bool) : Option Nat :=
  let m := macBytes x.micLen
  let own := { Tx.blank with
    channel := channel, sf := x.sf, bw := x.bw, npre := x.pre, length := if deviceFirst then 10 + up + m else 13 + down + m }
  let len := slotTicks x up down
  if 511 < len || !withinBudget s n { own with offset := x.offset } x.period then none else some len

/-- An entry of a node from its parts. -/
def entryWords (pp type n channel sf len tick p : Nat) : Nat × Nat :=
  (pp * 2 ^ 24 + type * 2 ^ 22 + n * 2 ^ 20 + channel * 2 ^ 12 + (sf - 6) * 2 ^ 9 + len, tick * 2 ^ 18 + p)

/-- The entries a node's class needs, at the places PE13 has chosen (channel, tick, phase): none where one cannot stand. -/
def placeNode (s : State) (n p : Nat) (x : Fit) (places : List (Nat × Nat × Nat)) : Option (List (Nat × Nat)) :=
  let resp := s.fld F.MAC_JOIN_CFG_RESP_BYTES
  let wanted : List (Nat × Nat × Nat × Bool) :=
    match pClass s p with
    | 0 => (0, x.up, resp, false) :: (if x.dl = 0 then [] else [(1, x.dl, 0, true)])
    | 2 => [(2, x.up, resp, false)]
    | _ => []
  let own := nodeEntries s p
  let others := ((usedEntries s).filter (fun e => !own.contains e)).map (fun e => (entryW0 s e, entryW1 s e))
    ++ (promisedWords s).filter (fun w => eOwner w.2 != p || eType w.1 == 3)
  let rec go : List (Nat × Nat × Nat × Bool) → List (Nat × Nat × Nat) → List (Nat × Nat) → Option (List (Nat × Nat))
    | [], _, _ => some []
    | _ :: _, [], _ => none
    | (type, u, d, first) :: ws, (channel, tick, phase) :: ps, taken =>
      match slotLen s n channel x u d first with
      | none => none
      | some len =>
        let w := entryWords (x.period + phase % x.period) type n channel x.sf len tick p
        if placeable s taken w.1 w.2 then (go ws ps (w :: taken)).map (fun r => w :: r) else none
  go wanted places others

/-- Different indices for entries, outside the rising list `used`. Each entry is sized with RESP_BYTES as it now is (R352). -/
def pickIndices (s : State) (used : List Nat) : List (Nat × Nat) → List (Nat × Nat × Nat) × State
  | [] => ([], s)
  | w :: t =>
    let e := pickOutside s used
    let s := e.2
    let s := { s with mac := { s.mac with sized := Tbl.put (fun _ => 0) s.mac.sized e.1 (s.fld F.MAC_JOIN_CFG_RESP_BYTES + 1) } }
    let r := pickIndices s (insertNat e.1 used) t
    ((e.1, w.1, w.2) :: r.1, r.2)

/-! ### JOIN_REQ and JOIN_ACCEPT (R359–R363, R394, R395) -/

/-- NODE_NONCE of the last request accepted (R395). -/
def lastNonce (s : State) (p : Nat) : Nat := if pPend s p then pGet s p 52 4 else pGet s p 40 4

/-- The assignment kept for parcel `p`. -/
def joinOf (s : State) (p : Nat) : Option Join := s.mac.joins.find? (fun j => j.parcel == p)

/-- Keeping an assignment, one per parcel. -/
def putJoin (s : State) (j : Join) : State :=
  { s with mac := { s.mac with joins := s.mac.joins.filter (fun x => x.parcel != j.parcel) ++ [j] } }

/-- Dropping the assignment of parcel `p`. -/
def dropJoin (s : State) (p : Nat) : State := { s with mac := { s.mac with joins := s.mac.joins.filter (fun x => x.parcel != p) } }

/-- Entries are placed and assigned for the join `j`, or it is put off (R361, R362). -/
def joinPlace (s : State) (n p : Nat) (f : RxFrame) (j : Join) (period : Nat) (places : Option (List (Nat × Nat × Nat))) : State :=
  let placed := if pClass s p = 1 then some [] else
    places.bind (fun ps => placeNode s n p
      { sf := pSf s p, bw := f.info.bw, offset := rxOffset s f.info, pre := lanePre s n, base := s.fld F.MAC_GUARD_CFG_BASE_GUARD_US,
        ppm := j.ppm, micLen := s.fld F.MAC_JOIN_CFG_MICLEN, gap := s.fld F.MAC_ACK_CFG_ACK_GAP_MS, period := period, up := j.up,
        dl := j.dl } ps)
  match placed with
  | some ws =>
    let r := pickIndices s (takenEntries s) ws
    putJoin r.2 { j with entries := r.1 }
  | none =>
    let d := drawNat s 8
    putJoin d.2 { j with status := 1, backoff := d.1 }

/-- A JOIN_REQ that has been accepted from parcel `p`: its entries are assigned, or it is put off (R361, R362). -/
def joinAssign (s : State) (n p : Nat) (f : RxFrame) (places : Option (List (Nat × Nat × Nat))) (inTime : Bool) : State :=
  let b := f.body
  let ppm := if fieldAt b 14 1 = 0 then s.fld F.MAC_GUARD_CFG_PPM_DEF else fieldAt b 14 1
  let want := bitsOf (fieldAt b 12 1) 0 3
  let period := 2 ^ max (s.fld F.MAC_JOIN_CFG_PERIOD_MIN) (min want (s.fld F.MAC_JOIN_CFG_PERIOD_MAX))
  let path := match f.relay with
    | some r => r.1
    | none => []
  let j : Join :=
    { parcel := p, info := f.info, channel := f.channel, nonce := fieldAt b 8 4, ppm := ppm, up := fieldAt b 15 1, dl := fieldAt b 16 1, entries := [], complete := inTime,
      path := path, status := 0, backoff := 0, chip := 0, epoch := 0, micLen := 0, base := 0, pre := 0,
      gap := 0, due := true }
  match f.relay, joinOf s p with
  | some _, _ => putJoin s j
  | none, some held =>
    if held.path = [] && held.status = 0 then
      if held.complete then putJoin s { held with info := f.info, channel := f.channel, nonce := j.nonce, due := true }
      else putJoin s { j with entries := held.entries }
    else joinPlace s n p f j period places
  | none, none => joinPlace s n p f j period places

/-- The first frame of a lane that satisfies a condition, and the lane without it. -/
def takeFrame (s : State) (n : Nat) (c : RxFrame → Bool) : Option (RxFrame × State) :=
  let rx := (s.lane n).rx
  (rx.find? c).map (fun f => (f, s.setLane n { s.lane n with rx := rx.erase f }))

/-- A JOIN_REQ is checked (R359–R361, R393, R397). Outside READY nothing is assigned and no JOIN_ACCEPT can be sent. -/
def joinReqRx (s : State) (n : Nat) (places : Option (List (Nat × Nat × Nat))) (inTime : Bool) : State :=
  match takeFrame s n (fun f => f.stage == 0 && fType f.bytes == 4 && f.check != .waiting) with
  | none => s
  | some (f, t) =>
    if asBow s then t
    else if fRouter f.bytes != s.fld F.MAC_ROUTER_ID_ID then t.count F.CAD_FOREIGN_COUNT 1
    else if !s.flag F.MAC_CTRL_JOIN_EN then t.count F.MAC_JOIN_DEFER_COUNT 1
    else
      match findEui t ((fRaw f.bytes).take 8) with
      | none => t.count F.MAC_JOIN_UNKNOWN_COUNT 1
      | some p =>
        let t := if f.check == .keyDenied then setCause (t.count F.CAD_MIC_FAIL_COUNT 1) 0x1E 1 else t
        if f.check != .current || fMac f.bytes != 8 || f.body.length != 24 || fieldAt f.body 8 4 = lastNonce t p then
          t.count F.MAC_JOIN_BAD_COUNT 1
        else if !s.ready then t.count F.MAC_JOIN_DEFER_COUNT 1
        else
          let t := if f.relay.isNone then setBand t p (rxOffset t f.info) f.info.bw else t
          joinAssign t n p f places inTime

/-- JOIN_REQ_RX. During HOLD nothing is committed (R635). -/
def execJoinReqRx (lane : Lane) (places : Option (List (Fin 256 × Fin 8192 × Fin 128))) (inTime : Bool) (s : State) : Result :=
  .next (if s.engaged && !holding s then
      joinReqRx s lane (places.map (fun l => l.map (fun e => (e.1.val, e.2.1.val, e.2.2.val)))) inTime
    else s)

/-- JOIN_HOLD_EXPIRY (R362). -/
def execJoinHoldExpiry (parcel : Fin 262144) (s : State) : Result :=
  .next (match joinOf s parcel with
    | some j => if s.answers && !j.due then dropJoin s parcel else s
    | none => s)

/-- The body of a JOIN_ACCEPT (R362). -/
def joinBody (j : Join) : List Byte :=
  let word (k : Nat) : List Byte :=
    match (j.entries.drop k).head? with
    | some (_, w0, w1) => leBytes 4 w0 ++ leBytes 4 w1
    | none => List.replicate 8 0#8
  (if j.status = 0 then [0#8, 0#8] ++ leBytes 4 j.chip ++ leBytes 4 j.epoch else [1#8] ++ leBytes 1 j.backoff ++ List.replicate 8 0#8)
    ++ leBytes 1 j.micLen ++ leBytes 1 j.ppm ++ leBytes 2 j.base ++ leBytes 1 j.pre ++ leBytes 1 j.gap
    ++ (if j.status = 0 then word 0 ++ word 1 else List.replicate 16 0#8)

/-- What a JOIN_ACCEPT sent gives the node's parcel: the fields of the new session as sent (R362). -/
def joinStored (s : State) (j : Join) : State :=
  let p := j.parcel
  let s := s.ramStore (256 * p + 44) (leBytes 4 j.epoch ++ leBytes 4 j.chip ++ leBytes 4 j.nonce ++ leBytes 4 s.now.sec)
  let s := pSetBits (pSetBits s p 9 4 2 j.micLen) p 9 3 1 1
  let s := pSet (pSet s p 60 1 j.ppm) p 61 1 j.gap
  pSet (pSet s p 62 2 j.base) p 93 1 j.pre

/-- A change of SF that is pending ends with the join that sets the node's SF (R353, R364). -/
def joinSettles (s : State) (p : Nat) : State :=
  if (assignOf s p).isSome && adaptState s p = 1 then
    setAdaptState { s with cad := { s.cad with after := Tbl.erase p s.cad.after } } p 0
  else s

/-- A new session begins with a JOIN_ACCEPT of status 0: its fields, an empty mailbox, and the node's entries or route (R362, R364, R415). -/
def joinTaken (s : State) (j : Join) : State :=
  let p := j.parcel
  let s := joinStored s j
  let s := { s with mac := { s.mac with
      joining := s.mac.joining.filter (· != p) ++ [p], sizes := Tbl.put (fun _ => 0) s.mac.sizes p (j.up % 256 + 256 * (j.dl % 256) + 1) } }
  let s := emptyNode (dropAssignMessages (dropAssign (joinSettles s p) p) p) p
  if j.path = [] then writeEntries s j.entries else routeUpdate s p j.path

/-- A JOIN_ACCEPT has been sent, or is on its way in a unit (R362, R363, R395, R415). -/
def joinSent (s : State) (j : Join) : State :=
  let p := j.parcel
  let s := if j.status != 0 then dropJoin s p else joinTaken (dropJoin s p) j
  setCause (s.event 0x1C 0 0x0904 0 (leBytes 4 p ++ leBytes 1 j.status ++ leBytes 1 j.info.lane)) 0x1C 7

/-- A JOIN_ACCEPT that is not sent: a completed assignment is held (R362). -/
def joinDefer (s : State) (j : Join) : State :=
  (if j.status = 0 then putJoin s { j with complete := true, due := false } else dropJoin s j.parcel).count F.MAC_JOIN_DEFER_COUNT 1

/-- The frame of a JOIN_ACCEPT, under the node key (R362, R394). -/
def joinFrame (s : State) (j : Join) : Option (List Byte) × State :=
  let f : Fctl := { type := 5, secured := true, ackReq := false, fpend := false, dir := true, relay := j.path != [], cls := 0,
                    micLen := 1, ackf := false }
  ccmProtect s (nodeKey s j.parcel useEnc) (headerBytes f (s.fld F.MAC_ROUTER_ID_ID) j.parcel j.nonce ++ joinBody j) 0

/-- Two spans of time meet. -/
def spansMeet (a0 a1 b0 b1 : Nat) : Bool := decide (a0 < b1) && decide (b0 < a1)

/-- An occurrence of an entry: its words, its first instant and its end, in Datum ns (R328). -/
structure Occurs where
  w0 : Nat
  w1 : Nat
  first : Nat
  fin : Nat

/-- The occurrences of lane `n`'s entries that lie in the span from `a` to `b`, in Datum ns. -/
def occsIn (s : State) (n a b : Nat) : List Occurs :=
  let k := sfnAt s a
  (List.range (sfnAt s b + 1 - k)).flatMap (fun i => (usedEntries s).filterMap (fun e =>
    let w0 := entryW0 s e
    let w1 := entryW1 s e
    let first := superStart s (k + i) + eTick w1 * 1000000
    let fin := first + eLen w0 * 4000000
    if eLane w0 = n && (k + i) % ppPeriod (ePp w0) = ppPhase (ePp w0) && spansMeet a b first fin then some ⟨w0, w1, first, fin⟩ else none))

/-- Whether a transmission of `air` ns from `start` on may be made (R335): it meets no occurrence but its own. Then the instant by which it is to
have ended, if any (R347): the end of the occurrence it starts in, or the start of another's. -/
def sendBound (s : State) (n : Nat) (own : Occurs → Bool) (start air : Nat) : Option (Option Nat) :=
  let os := occsIn s n start (start + air + s.fld F.MAC_ACK_CFG_LATE_MAX_US * 1000)
  if os.any (fun o => !own o && o.first < start + air) then none
  else
    let ends := (os.filter (fun o => own o && o.first ≤ start)).map (fun o => o.fin) ++ (os.filter (fun o => !own o)).map (fun o => o.first)
    some (ends.foldl (fun m e => some (match m with
      | some x => min x e
      | none => e)) none)

/-- Lane time for updates or for wakes: occurrences that R335 does not keep for an exchange of their own. -/
def Occurs.open_ (o : Occurs) : Bool := eType o.w0 == 3 && (eKind o.w1 == 3 || eKind o.w1 == 4)

/-- A JOIN_ACCEPT may be sent in an occurrence: in the CONTENTION occurrence of its request (R335). -/
def Occurs.answers (o : Occurs) (asked : Nat) : Bool :=
  o.open_ || (eType o.w0 == 3 && eKind o.w1 == 2 && o.first ≤ asked && asked < o.fin)

/-- The JOIN_ACCEPT of a join as it goes on the air: in the request's channel and mode (R362). It has 50 bytes. -/
def acceptTx (s : State) (j : Join) (bs : List Byte) : Tx :=
  let n := j.info.lane
  let css := { Tx.blank with
    kind := 3, parcel := j.parcel, content := .frame bs, channel := j.channel, offset := rxOffset s j.info, sf := j.info.sf, bw := j.info.bw,
    rate := j.info.rate, npre := lanePre s n, length := 50, power := pSigned s j.parcel 123,
    start := endNs j.info + s.fld F.MAC_JOIN_CFG_ACCEPT_GAP_MS * 1000000 }
  if j.info.mode = 1 then
    let c := ofdmChoice s n j.parcel j.channel
    { css with mode := 1, fc := c.1, rate := c.2.1, load := c.2.2 }
  else css

/-- A JOIN_ACCEPT ready to go: among its lane's transmissions, or down the node's route as a unit (R335, R362, R415). -/
def joinPlaced (s : State) (j : Join) (t : Tx) (place : Option (Option Nat)) (bs : List Byte) : State :=
  let n := j.info.lane
  if j.path = [] then
    let s := putJoin s j
    s.setLane n { s.lane n with txs := (s.lane n).txs ++ [{ t with content := .frame bs, latest := latestBy s place.join t }] }
  else
    let m : Mbx := { buf := 0, kind := 2, ackReq := true, mode1 := false, cls := 0, enc := false, len := 0, retries := 0,
                     attempts := 0, late := false }
    match enterMailbox s (j.path.getLast?.getD 0) m { Dl.blank with payload := downUnit j.path.reverse bs } with
    | some (_, s) => joinSent s j
    | none => joinDefer s j

/-- A JOIN_ACCEPT falls due: requested for the air, or placed as a unit in the adjacent repeater's mailbox (R362, R395, R415). -/
def joinAccept (s : State) (j : Join) : State :=
  let n := j.info.lane
  let t := acceptTx s j []
  let place := sendBound s n (fun o => o.answers j.info.ts.toNs) t.start (t.airUs * 1000)
  if !j.complete || (j.path = [] && place.isNone) then joinDefer s j
  else
    let g := if j.status = 0 then generate s 4 else (some [], s)
    match g.1 with
    | none => joinDefer g.2 j
    | some nonce =>
      let s := g.2
      let j := { j with chip := leNat nonce, epoch := (max (pGet s j.parcel 32 4) (pGet s j.parcel 44 4) + 1) % 2 ^ 32,
                        micLen := s.fld F.MAC_JOIN_CFG_MICLEN, base := s.fld F.MAC_GUARD_CFG_BASE_GUARD_US, pre := lanePre s n,
                        gap := s.fld F.MAC_ACK_CFG_ACK_GAP_MS }
      let r := joinFrame s j
      match r.1 with
      | none => joinDefer r.2 j
      | some bs => joinPlaced r.2 j t place bs

/-- JOIN_ACCEPT_TX. -/
def execJoinAcceptTx (parcel : Fin 262144) (s : State) : Result :=
  .next (match joinOf s parcel with
    | some j =>
      if s.ready && mayTransmit s j.info.lane && !holding s && j.due && !(s.lane j.info.lane).txs.any (fun t => t.kind == 3 && t.parcel == parcel.val) then joinAccept s j
      else s
    | none => s)

end Sys2Proof.Machine
end

