-- ==== Sys2Proof/Machine/Transmit.lean ====
section
/-!
DEFINITION. Sys2Proof/Machine/Transmit.lean: a transmission from the request of its grant to its end or its abandonment, and what
each outcome comes to for a beacon, an acknowledgement, a downlink, a JOIN_ACCEPT, a wake telegram and a multicast frame
(R206–R219, R344–R351, R378–R387, R482, R483, R629, R753).
-/
namespace Sys2Proof.Machine

/-! ### Wake exchanges (R354–R358) -/

/-- The wake exchange of lane `n`. -/
def wakeOf (s : State) (n : Nat) : Option Wake := (s.mac.wakes.find? (fun e => e.1 == n)).map (fun e => e.2)

/-- Storing or ending the wake exchange of lane `n`. -/
def putWake (s : State) (n : Nat) (w : Wake) : State :=
  { s with mac := { s.mac with wakes := Tbl.ins n w (Tbl.erase n s.mac.wakes) } }
def dropWake (s : State) (n : Nat) : State := listen { s with mac := { s.mac with wakes := Tbl.erase n s.mac.wakes } } n

/-- A WAKE_SEND has its outcome: it stays known, so that a late answer is recognised (R621). -/
def wakeFinish (s : State) (n : Nat) (w : Wake) (status : Nat) (result : List Byte) : State :=
  let s := match w.cmd with
    | some id => finish s id status result
    | none => s
  if status = 0 then dropWake s n else listen (putWake s n { w with stage := 4 }) n

/-! ### What an end comes to -/

/-- How a transmission ends: withheld (R387), refused before the lane (R753), abandoned LATE (R209) or held by a blank (R222), cut
at the interlock gate before or after FEMn_PAEN became active (R629), or sent. -/
inductive TxEnd where
  | withheld | refused | late | blanked | cutEarly | cutLate | sent
  deriving DecidableEq, Repr

/-- A beacon that is not sent (R324, R368). -/
def bcnSkip (s : State) (n why sfn : Nat) : State :=
  setCause ((s.count F.MAC_BCN_SKIP_COUNT 1).event 0x1C 0 0x0900 1 (leBytes 1 n ++ leBytes 1 why ++ leBytes 4 sfn)) 0x1C 2

/-- The end of a beacon (R324, R387, R629). -/
def beaconEnds (s : State) (n : Nat) (t : Tx) (how : TxEnd) : State :=
  let sfn := s.mac.sfn.getD (sfnAt s t.start)
  match how with
  | .withheld => bcnSkip s n 1 sfn
  | .refused => bcnSkip s n 5 sfn
  | .late | .blanked => bcnSkip s n 2 sfn
  | .cutEarly | .cutLate => s
  | .sent =>
    let on := s.fld F.MAC_STATUS_BCN_ON
    let s := (s.count F.MAC_BCN_SENT_COUNT 1).setFld F.MAC_STATUS_BCN_ON (if bit on n then on else on + 2 ^ n)
    { s with mac := { s.mac with beacons := ((n, sfn, t.stepped) :: s.mac.beacons).take 256 } }

/-- End of a transmission on the air, in Datum ns. -/
def txEndNs (t : Tx) : Nat := t.start + t.airUs * 1000

/-- T_REF of a node (R336): it has synchronised anew, to a frame sent when the Datum steps had come to `stepped` (R320). -/
def setTref (s : State) (p ns stepped : Nat) : State :=
  let s := { s with mac := { s.mac with synced := Tbl.put (fun _ => 0) s.mac.synced p stepped } }
  pSet (pSet s p 80 4 (ns / 1000000000)) p 84 4 (ns % 1000000000)

/-- An attempt cut at the gate after FEMn_PAEN had been active counts as made without an acknowledgement (R629). -/
def attemptCut (s : State) (p : Nat) : State :=
  match headDl s p with
  | none => s
  | some (m, d) =>
    let s := putDl s { d with window := false }
    if m.retries < m.attempts then dlOutcome s p 0 0x40 false else placeRelay s p

/-- The end of a transmission that carried a node's head downlink (R349, R387, R629, R753). -/
def attemptTxEnds (s : State) (n : Nat) (t : Tx) (how : TxEnd) : State :=
  let p := t.parcel
  let made (s : State) (late : Bool) : State := attemptMade s p late t.start (txEndNs t) n t.sf t.stepped
  match how with
  | .withheld | .cutEarly => s
  | .refused => dlOutcome s p 0 0x50 false
  | .late => attemptEnds (made s true) p 0x20
  | .blanked => attemptEnds (made s true) p 0x21
  | .cutLate => attemptCut (made s false) p
  | .sent => attemptEnds (made s false) p 0x20

/-- A wake exchange goes on after a downlink of node `p` has been sent or decided: the next frame follows ACK_GAP after `at`, or the
exchange is over (R358). -/
def wakeFollows (s : State) (n p ns : Nat) : State :=
  match wakeOf s n with
  | none => s
  | some w =>
    if w.parcel != some p || w.stage != 3 then s
    else
      match headDl s p with
      | none => dropWake s n
      | some (m, d) =>
        if m.attempts = 0 && w.fpend then putWake s n { w with start := ns + pGet s p 61 1 * 1000000 }
        else if d.window then s
        else dropWake s n

/-- A frame sent in the exchange of a PEER occurrence: the peer's next frame answers it (R351). -/
def peerSent (s : State) (n : Nat) (t : Tx) : State :=
  match (s.lane n).occ with
  | some o =>
    if eType o.w0 = 2 && eOwner o.w1 = t.parcel then
      s.setLane n { s.lane n with occ := some { o with sentStart := t.start, sentEnd := txEndNs t, fpend := fFpend t.bytes, stepped := t.stepped } }
    else s
  | none => s

/-- The end of a downlink attempt or peer exchange: of the PEER occurrence's or of the wake exchange's frame (R351, R358). -/
def downlinkEnds (s : State) (n : Nat) (t : Tx) (how : TxEnd) : State :=
  let head := match t.content with
    | .head _ => true
    | _ => false
  let s := if head then attemptTxEnds s n t how else s
  let s := if how = .sent then peerSent s n t else s
  let s := match wakeOf s n with
    | some w => if w.parcel == some t.parcel && w.stage = 3 then putWake s n { w with fpend := fFpend t.bytes } else s
    | none => s
  wakeFollows s n t.parcel (txEndNs t)

/-- The end of an acknowledgement, or of the downlink sent in its place (R336, R345, R347, R387, R753). -/
def ackEnds (s : State) (n : Nat) (t : Tx) (how : TxEnd) : State :=
  let head := match t.content with
    | .head _ => true
    | _ => false
  let s := if head then attemptTxEnds s n t how else s
  match how with
  | .withheld | .refused => s.count F.MAC_ACK_DENIED_COUNT 1
  | .sent =>
    let s := peerSent (s.count F.MAC_ACK_SENT_COUNT 1) n t
    match (s.lane n).occ with
    | some o => if (eType o.w0 = 0 || eType o.w0 = 2) && eOwner o.w1 = t.parcel then setTref s t.parcel t.start t.stepped else s
    | none => s
  | _ => s

/-- The end of a JOIN_ACCEPT (R362, R387, R753). -/
def joinEnds (s : State) (t : Tx) (how : TxEnd) : State :=
  match joinOf s t.parcel with
  | none => s
  | some j => if how = .sent then joinSent s j else joinDefer s j

/-- The end of a wake telegram (R143, R209, R356–R358, R387, R753). After CMD 0x80 an answer is awaited also where the command asked
for none: the command has completed then, and the answer is attributed to the exchange. -/
def wakeEnds (s : State) (n : Nat) (how : TxEnd) : State :=
  match wakeOf s n with
  | none => s
  | some w =>
    if w.stage = 4 then (if how = .sent then s.count F.MAC_WAKE_SENT_COUNT 1 else s)
    else
    let failed (s : State) (status : Nat) : State :=
      match w.parcel with
      | some p =>
        if status = 0x50 then dlOutcome (dropWake s n) p 0 0x50 false
        else attemptEnds (attemptMade (dropWake s n) p true 0 0 n 0 0) p status
      | none => if status = 0x50 || w.retries < w.attempt then wakeFinish s n w status [] else putWake s n { w with stage := 0 }
    match how with
    | .withheld | .cutEarly => putWake s n { w with stage := 0, attempt := w.attempt - 1 }
    | .refused => failed s 0x50
    | .late => failed s 0x20
    | .blanked => failed s 0x21
    | .cutLate => if w.expect then putWake s n { w with stage := 2 } else failed s 0x40
    | .sent =>
      let s := s.count F.MAC_WAKE_SENT_COUNT 1
      let listenFor (s : State) (w : Wake) : State := receiveOn (putWake s n { w with stage := 2 }) n (s.fld (F.MAC_WAKE_CFG_ANS_CH n))
      match w.expect, w.cmd with
      | true, _ => listenFor s w
      | false, some id => if w.code = 0x80 then listenFor (finish s id 0x00 []) { w with cmd := none } else wakeFinish s n w 0x00 []
      | false, none => wakeFinish s n w 0x00 []

/-- The end of a transmission, by its kind. -/
def txEnds (s : State) (n : Nat) (t : Tx) (how : TxEnd) : State :=
  match t.kind with
  | 0 => beaconEnds s n t how
  | 1 => ackEnds s n t how
  | 2 => downlinkEnds s n t how
  | 3 => joinEnds s t how
  | 4 => wakeEnds s n how
  | _ => if how = .sent then mcastSent s n t else mcastMissed s

/-! ### Grants (R378–R383, R482, R483) -/

/-- The radio class of a transmission that makes a downlink attempt. -/
def attemptClass (s : State) (t : Tx) : Option Nat :=
  match t.content with
  | .head _ => if mbxCount s t.parcel = 0 then none else some (mbxAt s t.parcel 0).cls
  | _ => none

/-- A granted transmission that never radiated gives back its charge, and its packet (R382, R483). -/
def giveBack (s : State) (n : Nat) (t : Tx) : State :=
  match t.taken with
  | some c => radioCharge (refund s t) n c false
  | none => refund s t

/-- The lane's gate for a class at an instant (R493). -/
def laneGateAt (s : State) (n c ns : Nat) : Bool := !gatesApply s (2 + n) || staysOpen s (2 + n) c 1 ns 0

/-- What is sent where the head downlink may not be attempted: an acknowledgement owed goes as an ACK, a PEER exchange opens with a
frame of type ACK, anything else is not sent. -/
def withoutHead (s : State) (n : Nat) (t : Tx) : Option Tx :=
  let bytes := 13 + macBytes (pMicLen s t.parcel)
  let css := { t with mode := 0, rate := 0, length := bytes }
  match t.content with
  | .head (some (tcorr, lo)) => some { css with content := .ack tcorr lo false }
  | .head none =>
    match (s.lane n).occ with
    | some o => if eType o.w0 = 2 && o.sentStart = 0 then some { css with content := .ack 0 0 true } else none
    | none => none
  | _ => some t

/-- The radio shaper and the lane gate are asked before RGL (R482, R483). -/
def shaped (s : State) (n : Nat) (t : Tx) : Option Tx × State :=
  match t.content with
  | .head _ =>
    match attemptClass s t with
    | none => (withoutHead s n t, s)
    | some c =>
      if !shaperOk s (radioShaper s n c) then (withoutHead s n t, s.count F.TSS_RADIO_SHAPED_COUNT 1)
      else if !laneGateAt s n c t.start then (withoutHead s n t, s.count F.TSS_RADIO_GATED_COUNT 1)
      else (some { t with taken := some c }, s)
  | _ => (some t, s)

/-- The first request of a lane in the order of R381. -/
def firstRequest (ts : List Tx) : Option Tx :=
  (ts.filter (fun t => t.stage == 0)).foldl (fun best t =>
    match best with
    | none => some t
    | some b => if t.kind < b.kind then some t else some b) none

/-- The transmissions of lane `n` with `t` in place of `old`, or without it. -/
def swapTx (s : State) (n : Nat) (old : Tx) (t : Option Tx) : State :=
  let ts := (s.lane n).txs
  match t with
  | some t => setTxs s n (ts.map (fun x => if x == old then t else x))
  | none => setTxs s n (ts.erase old)

/-- The request that lane `n` makes now: a grant is asked for no earlier than 10 ms before START (R381). -/
def requestOf (s : State) (n : Nat) : Option Tx := firstRequest ((s.lane n).txs.filter (fun t => t.start ≤ s.nowNs + 10000000))

/-- No request of another lane is decided before the request `t` of lane `n`: requests present together are decided by their class, and
within a class by lane (R381). -/
def grantTurn (s : State) (n : Nat) (t : Tx) : Bool :=
  (List.range 4).all (fun m => m == n || !laneServed s m || (requestOf s m).all (fun x => t.kind < x.kind || (t.kind == x.kind && n < m)))

/-- RGL decides the request of a lane in its turn (R378–R381, R387). -/
def grantRequest (s : State) (n : Nat) : State :=
  match (requestOf s n).filter (grantTurn s n) with
  | none => s
  | some old =>
    match shaped s n old with
    | (none, s) => downlinkEnds (swapTx s n old none) n old .withheld
    | (some t, s) =>
      match grant s n t with
      | (none, s) => txEnds (swapTx s n old none) n t .withheld
      | (some g, s) =>
        let s := swapTx s n old (some g)
        match g.taken with
        | some c => radioCharge s n c true
        | none => s

/-- GRANT_REQUEST. -/
def execGrantRequest (lane : Lane) (s : State) : Result := .next (if s.engaged && laneServed s lane then grantRequest s lane else s)

/-! ### Requests to the lane (R206–R208, R214, R386, R753) -/

/-- PE(2n+1) refuses the transmission (R753). -/
def txRefused (s : State) (n : Nat) (t : Tx) : Bool :=
  let ch := bwHz (chBw s n t.channel)
  let chirpOk := 6 ≤ t.sf && t.sf ≤ 12 && t.bw ≤ 3 && t.rate ≤ 3 && 8 ≤ t.npre && t.npre ≤ 64
  !chDefined s n t.channel || ch < txHz s n t || (ch - txHz s n t) * 8192 < t.offset.natAbs * 1000000
    || (match t.mode with
        | 0 => !chirpOk || t.length = 0 || 255 < t.length
        | 1 => !chirpOk || ofdmM (chBw s n t.channel) = 0 || t.length = 0 || 2047 < t.length
        | _ => false)

/-- An ACK, or the frame of type ACK that opens a PEER exchange (R344, R351, R402): none where no counter or key is available; then
whether the counters are used up. -/
def buildAck (s : State) (p tcorr fcntLo : Nat) (ackReq relay : Bool) : Option (List Byte) × Bool × State :=
  match takeFcnt s p with
  | .exhausted => (none, true, s)
  | .waits => (none, false, s)
  | .taken c s =>
    let f : Fctl := { type := 2, secured := true, ackReq := ackReq, fpend := mbxCount s p != 0, dir := true, relay := relay, cls := 0,
                      micLen := pMicLen s p, ackf := true }
    let r := ccmProtect s (sessKey s p useEnc)
      (headerBytes f (s.fld F.MAC_ROUTER_ID_ID) p c ++ leBytes 2 tcorr ++ leBytes 1 fcntLo) 0
    (r.1, false, r.2)

/-- The bytes of a transmission, built as it is requested, and the node whose counters are used up (R403). -/
def buildTx (s : State) (t : Tx) : Option (List Byte) × Option Nat × State :=
  match t.content with
  | .frame bs => (some bs, none, s)
  | .wake _ _ => (some [], none, s)
  | .ack tcorr lo req => usedUp t.parcel (buildAck s t.parcel tcorr lo req false)
  | .head ack => buildHead s t.parcel ack

/-- A slice or step aborted for a transmission: the lane tunes directly to its channel (R203). -/
def abortGap (s : State) (n : Nat) : State :=
  match (s.lane n).work with
  | .slice _ => settle (abortCal s n) n
  | .step _ => settle (abortCal s n) n
  | _ => s

/-- The first granted transmission of a lane reaches it, with its gain entry; a slice or step is aborted, and the lane hops or
calibrates (R203, R207, R208, R214, R386). -/
def txRequest (s : State) (n : Nat) : State :=
  match (s.lane n).txs.find? (fun t => t.stage == 1) with
  | none => s
  | some t =>
    if (heldTx s n).isSome then s
    else if txRefused s n t then tryGap (txEnds (swapTx (giveBack s n t) n t none) n t .refused) n
    else
      match buildTx s t with
      | (none, used, s) =>
        let s := tryGap (txEnds (swapTx (giveBack s n t) n t none) n t .withheld) n
        match used with
        | some q => releaseNode s q
        | none => s
      | (some bs, _, s) =>
        let code := (setFor s t.start).code
        let power := min t.power (ceilingOf s n code (t.accts.map (· % 256)))
        let s := swapTx s n t (some { t with stage := 2, bytes := bs, power := power, gain := txEntry s n power })
        let s := abortGap s n
        let st := laneState s n
        if (st = 1 || st = 3 || st = 6) && (s.lane n).work == .none then settle s n else s

/-- TX_REQUEST. -/
def execTxRequest (lane : Lane) (s : State) : Result := .next (if s.engaged && laneServed s lane then txRequest s lane else s)

/-! ### Listen before talk (R384) -/

/-- The transmission `t` moved to a later START, its charge with it (R376). -/
def moveStart (s : State) (n : Nat) (t : Tx) (start : Nat) : State :=
  let x := setFor s start
  let t' := { t with start := start, bucket := x.bucketAt (s.dev.upCycles + (start - s.nowNs) / 4) }
  swapTx (recharge (recharge s t (-(t.charge : Int))) t' t.charge) n t (some t')

/-- The medium of lane `n` is busy: the mean power at the lane input ball, in 1/16 dBm, less RX_GAIN reaches −80 dBm. -/
def mediumBusy (s : State) (n : Nat) (power : Int) : Bool := -1280 ≤ power - 8 * signed 8 (s.fld (F.RGL_EXT_GAIN_RX_GAIN n))

/-- A sense ends. `power` is the mean power at the lane input ball in 1/16 dBm. -/
def lbtSenseEnd (s : State) (n : Nat) (power : Int) : State :=
  match (s.lane n).txs.find? (fun t => t.stage == 2) with
  | none => s
  | some t =>
    if (setFor s t.start).code != 6 || !laneLocked s n || laneChannel s n != t.channel then s
    else if !mediumBusy s n power then swapTx s n t (some { t with stage := 3 })
    else
      let s := setCause (s.count F.RGL_LBT_BUSY_COUNT 1) 0x1D 3
      let stop (s : State) : State := settle (txEnds (swapTx (withheld (giveBack s n t) n t 4 0) n t none) n t .withheld) n
      if t.latest < t.start + 6000000 then stop s
      else
        let g := generate s 1
        let ms := match g.1 with
          | some bs => 1 + leNat bs % 8
          | none => 8
        let start := t.start + ms * 1000000
        if t.latest < start || underNext s start != underNext s t.start then stop g.2
        else if t.taken.any (fun c => !laneGateAt s n c start) then
          settle (txEnds (swapTx ((giveBack g.2 n t).count F.TSS_RADIO_GATED_COUNT 1) n t none) n t .withheld) n
        else moveStart g.2 n t start

/-- LBT_SENSE_END. -/
def execLbtSenseEnd (lane : Lane) (power : Int) (s : State) : Result := .next (if s.engaged then lbtSenseEnd s lane power else s)

/-! ### The turnaround and the end (R208, R209, R216–R219, R222) -/

/-- A transmission stopped at the interlock gate (R219, R629). `radiated`: FEMn_PAEN had been active. -/
def gateAbort (s : State) (n : Nat) (t : Tx) (radiated : Bool) : State :=
  let s := setCause (s.count F.RED_ILK_ABORTS_COUNT 1) (0x10 + n) 7
  let s := if radiated then s.send (.cut n t.channel) else giveBack s n t
  settle (txEnds (swapTx s n t none) n t (if radiated then .cutLate else .cutEarly)) n

/-- The gate acts on the transmissions in progress after a change of role, state or ILK_IN (R219, R627). -/
def gateCheck (s : State) : State :=
  if gateOpen s then s
  else (List.range 4).foldl (fun (t : State) n =>
    match onAir t n with
    | some x => gateAbort t n x ((t.lane n).paAt ≤ t.dev.upCycles)
    | none => t) s

/-! ### The pins in a turnaround and after a transmission (R215–R217, R219) -/

/-- CLK_DATUM cycles of a FEM_TIMING field in steps of 0.25 µs. -/
def quarterCycles (k : Nat) : Nat := k * 125 / 2

/-- The levels at the balls of lane `n` now. In a turnaround, `t` cycles after its start: the T/R switch goes to transmit at 1 µs, the
bias then ramps after TR_SETTLE, and FEMn_PAEN and TX_ACT become active after BIAS_RAMP. After the last symbol they stay active
for 2 µs, the switch goes to receive at 3 µs, and FEMn_LNAEN waits TR_SETTLE more. The interlock gate holds FEMn_PAEN inactive and the
switch in receive. -/
def femPins (s : State) (n : Nat) : FemPins :=
  let l := s.lane n
  let p := l.pins
  let c := l.femCfg.toNat
  let timing := l.femTiming.toNat
  let settle := quarterCycles (bitsOf timing 0 5)
  let gate := gateOpen s
  if !s.operating then p
  else if laneState s n = 4 then
    let t := s.dev.upCycles - l.taAt
    let pa := l.paAt ≤ s.dev.upCycles
    let rx := bitsOf l.femBias.toNat 8 8
    { p with
      paen := (pa && gate) == bit c 0, trsw := (250 ≤ t && gate) == bit c 1, txAct := (pa && gate) == bit c 4,
      bias := if pa then p.bias else if t < 250 + settle then rx else (Config.biasRamp rx p.bias (t - 250 - settle)).toNat }
  else match l.tail with
    | none => p
    | some (ended, drive) =>
      let t := s.dev.upCycles - ended
      if t < 500 then
        { p with paen := gate == bit c 0, trsw := gate == bit c 1, lnaen := !bit c 2, byp := !bit c 3, txAct := gate == bit c 4, bias := drive }
      else if t < 750 then { p with trsw := gate == bit c 1, lnaen := !bit c 2 }
      else if t < 750 + settle then { p with lnaen := !bit c 2 }
      else p

/-- What the modulator takes from its registers as it builds the frame for the air (R273, R314), the gain entry under MAX_PIN as it then
stands (R214), and the Datum steps so far. -/
def modulated (s : State) (n : Nat) (t : Tx) : Tx :=
  { t with gain := txEntry s n t.power, code := s.fld (F.LBB_SYNC_CFG_NET_CODE n), backoff := s.fld (F.LOF_TX_CFG_BACKOFF n), clip := s.fld (F.LOF_TX_CFG_CLIP_DB n),
           stepped := s.mac.stepped }

/-- The turnaround of the transmission the lane holds begins. -/
def turnaround (s : State) (n : Nat) : State :=
  match heldTx s n with
  | none => s
  | some t =>
    let st := laneState s n
    let ready := t.stage == 3 || (setFor s t.start).code != 6
    let held := blankIn s n && s.flag (F.LRF_BLANK_CFG_TX_HOLD n)
    let begin := s.nowNs
    if !ready || held || !laneLocked s n || laneChannel s n != t.channel || !(st = 2 || st = 3 || st = 5 || st = 6) || (s.lane n).work != .none
        || t.latest < begin + laneTa s n
    then s
    else if !gateOpen s then gateAbort s n t false
    else
      let s := ctxPreempt s n
      let timing := s.reg (A.LRF_FEM_TIMING n)
      let r := correctCharge s n t
      let s := r.2
      let t' := { modulated s n r.1 with stage := 4, start := max t.start (begin + turnaroundNs timing) }
      let pa := 250 + (bitsOf timing.toNat 0 5 + bitsOf timing.toNat 8 5) * 125 / 2
      let s := swapTx s n t (some t')
      let s := s.setLane n { s.lane n with
        femTiming := timing, femCfg := s.reg (A.LRF_FEM_CFG n), femBias := s.reg (A.LRF_FEM_BIAS n), taAt := s.dev.upCycles,
        paAt := s.dev.upCycles + pa, tail := none, work := .none }
      enterState s n 4 true

/-- TX_TURNAROUND_START. -/
def execTxTurnaroundStart (lane : Lane) (s : State) : Result := .next (if s.engaged && laneServed s lane then turnaround s lane else s)

/-- The stored map that an OFDM frame used has been used on this lane and channel (R304). -/
def noteMapUse (s : State) (n : Nat) (t : Tx) : State :=
  if fcMapType t.fc = 1 && pInUse s t.parcel then pSet (pSetBits s t.parcel 153 0 2 n) t.parcel 154 1 t.channel else s

/-- What the lane has radiated. -/
def radiate (s : State) (n : Nat) (t : Tx) : State :=
  let code := t.code
  match t.mode, t.content with
  | _, .wake addr cmd => s.send (.ook n t.channel t.gain t.start (wakeChips addr cmd))
  | 1, _ =>
    let m := ofdmM (chBw s n t.channel)
    let s := s.send (.chirp n t.channel t.offset t.gain t.sf t.bw t.start (chirpHead t.sf t.npre code (headerWord 1 t.bytes.length t.rate)))
    noteMapUse ((s.count (F.LOF_TX_FRAMES_COUNT n) 1).send (.ofdm n t.gain t.backoff t.clip (ofdmPart m t.fc t.rate t.load t.bytes))) n t
  | _, _ =>
    s.send (.chirp n t.channel t.offset t.gain t.sf t.bw t.start
      (chirpHead t.sf t.npre code (headerWord 0 t.bytes.length t.rate) ++ chirpPayload t.sf t.rate t.bytes))

/-- The transmission on air ends: the lane returns to receive, standby or its next hop (R187, R217). -/
def txEnd (s : State) (n : Nat) : State :=
  match onAir s n with
  | none => s
  | some t =>
    let s := s.setLane n { s.lane n with tail := some (s.dev.upCycles, (s.lane n).pins.bias) }
    settle (txEnds (swapTx (radiate s n t) n t none) n t .sent) n

/-- TX_END. -/
def execTxEnd (lane : Lane) (s : State) : Result := .next (if s.answers && laneState s lane = 4 then txEnd s lane else s)

/-- A transmission abandoned LATE, with its event (R209, R226): 1 not locked, 2 held by a blank. -/
def lateNoted (s : State) (n : Nat) (t : Tx) (why : Nat) : State :=
  let us := unsigned 32 (Int.fdiv ((t.latest : Int) - laneTa s n - t.start) 1000)
  let s := s.event (0x10 + n) 0 0x0603 1 (leBytes 1 t.channel ++ leBytes 1 why ++ leBytes 4 us)
  setCause (s.count (F.LRF_TX_LATE_COUNT n) 1) (0x10 + n) 4

/-- Lock is not confirmed, or a blank holds the transmission, at LATEST − T_TA (R209, R222). -/
def txLate (s : State) (n : Nat) : State :=
  match (s.lane n).txs.find? (fun t => t.stage == 2 || t.stage == 3 || t.stage == 5) with
  | none => s
  | some t =>
    let ta := laneTa s n
    if s.nowNs + ta < t.latest then s
    else
      let since := s.nowNs - (s.dev.upCycles - (s.lane n).blankAt) * 4
      let held := blankIn s n && s.flag (F.LRF_BLANK_CFG_TX_HOLD n) && since + ta ≤ t.start
      let s := lateNoted s n t (if held then 2 else 1)
      let s := txEnds (swapTx (giveBack s n t) n t none) n t (if held then .blanked else .late)
      let st := laneState s n
      if (st = 1 || st = 2 || st = 3 || st = 5 || st = 6) && (s.lane n).work == .none then settle s n else s

/-- TX_LATE. -/
def execTxLate (lane : Lane) (s : State) : Result := .next (if s.engaged then txLate s lane else s)

/-! ### What is sent to nodes (R345–R351, R358, R411) -/

/-- A transmission put behind those of lane `n`. -/
def addTx (s : State) (n : Nat) (t : Tx) : State := setTxs s n ((s.lane n).txs ++ [t])

/-- The end of an occurrence in Datum ns. -/
def Occ.fin (o : Occ) : Nat := o.start + eLen o.w0 * 4000000

/-- LATEST of a transmission in the occurrence in progress, if any (R347). -/
def latestOf (s : State) (n : Nat) (t : Tx) : Nat := latestBy s ((s.lane n).occ.map Occ.fin) t

/-- OFDM_MODE follows `CAD.CTRL.PEER_OFDM` at the peer's next downlink, unless a pending downlink would not fit the entry with word `w0`, or the
exchanges of a relayed peer (R353, R411). -/
def followOfdm (s : State) (p : Nat) (w0 : Option Nat) : State :=
  let want := s.fld F.CAD_CTRL_PEER_OFDM
  if pClass s p != 2 || pBits s p 126 2 1 = want then s
  else
    let t := pSetBits s p 126 2 1 want
    let tooLong := match w0 with
      | some w => pendingExceeds t p 0 w
      | none => pendingOver t p 0 (fun _ => exchangeLenMax t p (pSf t p))
    if tooLong then s else t

/-- Before a frame to node `p`: its own mode, and that of the peer whose downlink its head unit carries (R411, R420). -/
def followModes (s : State) (p : Nat) (w0 : Option Nat) : State :=
  let s := followOfdm s p w0
  match (headDl s p).bind (fun h => h.2.carries) with
  | some q => followOfdm s q none
  | none => s

/-- A head downlink that may be attempted now: the node is not in RENDEZVOUS and holds a session (R350). -/
def attemptable (s : State) (p : Nat) : Bool := pSess s p && pLink s p != 2 && (headDl s p).isSome

/-- An acknowledgement `t` that is the head downlink of node `p` (R345, R411). -/
def withHead (s : State) (n p : Nat) (t : Tx) : Tx :=
  let payload := match headDl s p with
    | some (_, d) => d.payload.length
    | none => 0
  let x := nodeTx s n p t.channel t.sf (headLength s p true) payload
  { t with mode := x.mode, rate := x.rate, fc := x.fc, load := x.load, length := x.length }

/-- The attempt of the occurrence in progress has been made. -/
def markTried (s : State) (n : Nat) : State :=
  match (s.lane n).occ with
  | some o => s.setLane n { s.lane n with occ := some { o with tried := true } }
  | none => s

/-- The occurrence in progress has room for a downlink `t` of node `p` in place of an acknowledgement (R345, R348, R351). -/
def piggyRoom (s : State) (n p : Nat) (t : Tx) : Bool :=
  match (s.lane n).occ with
  | some o =>
    if eType o.w0 = 2 then
      (mbxAt s p 0).attempts = 0 && txEndNs t + leadMs s p (ppPeriod (ePp o.w0)) * 1000000 ≤ o.start + eLen o.w0 * 4000000
    else !o.tried
  | none => false

/-- The frame of an acknowledgement owed, not yet an ACK or a downlink. -/
def ackBase (s : State) (n : Nat) (a : Owed) : Tx :=
  let gap := if pGet s a.parcel 61 1 = 0 then s.fld F.MAC_ACK_CFG_ACK_GAP_MS else pGet s a.parcel 61 1
  { Tx.blank with
    kind := 1, parcel := a.parcel, channel := a.channel, offset := rxOffset s a.info, sf := a.info.sf, bw := a.info.bw, npre := lanePre s n,
    power := pSigned s a.parcel 123, start := endNs a.info + gap * 1000000 }

/-- An acknowledgement may be sent in an occurrence (R335): of its node's own entry, or in the contention window its frame came in. -/
def Occurs.ofFrame (o : Occurs) (a : Owed) : Bool :=
  if eType o.w0 = 3 then o.open_ || (eKind o.w1 == 2 && o.first ≤ a.info.ts.toNs) else eOwner o.w1 == a.parcel

/-- An answer `t` put behind the transmissions of lane `n`, unless it would meet an occurrence that is not its own (R335, R347). -/
def addAnswer (s : State) (n : Nat) (own : Occurs → Bool) (t : Tx) (refused : State) : State :=
  match sendBound s n own t.start (t.airUs * 1000) with
  | none => refused
  | some fin => addTx s n { t with latest := min (latestOf s n t) (latestBy s fin t) }

/-- The acknowledgement `a` as an ACK, or as the head downlink in its place (R345, R347). -/
def ackAnswer (s : State) (n : Nat) (a : Owed) : State :=
  let p := a.parcel
  let s := if a.carried then followModes s p ((s.lane n).occ.map (fun o => o.w0)) else s
  let head := withHead s n p (ackBase s n a)
  if s.flag F.MAC_CTRL_PIGGYBACK && a.carried && piggyRoom s n p head && attemptable s p then
    addAnswer (markTried s n) n (fun o => o.ofFrame a) { head with content := .head (some (a.tcorr, a.fcntLo)) } s
  else
    addAnswer s n (fun o => o.ofFrame a)
      { ackBase s n a with content := .ack a.tcorr a.fcntLo false, length := 13 + macBytes (pMicLen s p) } s

/-- An acknowledgement that the device owes to a relayed node, whose frame it has received directly, travels down as a unit (R414). -/
def ackRelayed (s : State) (a : Owed) : State :=
  let p := a.parcel
  match buildAck s p a.tcorr a.fcntLo false true with
  | (some bs, _, s) =>
    let m : Mbx := { buf := 0, kind := 2, ackReq := true, mode1 := false, cls := 0, enc := false, len := 0, retries := 0, attempts := 0,
                     late := false }
    match enterMailbox s (adjacentTo s p) m { Dl.blank with payload := downUnit (pathTo s p) bs } with
    | some (_, s) => s
    | none => s
  | (none, used, s) => if used then releaseNode s p else s

/-- ACK_SEND (R345): the acknowledgement owed longest. -/
def ackSend (s : State) (n : Nat) : State :=
  match (s.lane n).owed with
  | [] => s
  | a :: rest =>
    let s := s.setLane n { s.lane n with owed := rest }
    if pRelayed s a.parcel then ackRelayed s a else ackAnswer (withdrawChange s a.parcel) n a

/-- ACK_SEND. -/
def execAckSend (lane : Lane) (s : State) : Result := .next (if mayTransmit s lane then ackSend s lane else s)

/-- A transmission of node `p`'s head downlink, or of the frame of type ACK that opens an exchange, from `start` on. -/
def nodeAttempt (s : State) (n p channel sf start : Nat) (head : Bool) : Tx :=
  let payload := match headDl s p with
    | some (_, d) => if head then d.payload.length else 0
    | none => 0
  let t := nodeTx s n p channel sf (if head then headLength s p false else 13 + macBytes (pMicLen s p)) payload
  let t := { t with content := if head then .head none else .ack 0 0 true, start := start }
  { t with latest := latestOf s n t }

/-- The attempt of a DOWNLINK occurrence, or a frame of a PEER exchange (R348, R351). -/
def occurrenceSend (s : State) (n : Nat) (o : Occ) : State :=
  let p := eOwner o.w1
  let lead := leadMs s p (ppPeriod (ePp o.w0)) * 1000000
  let attempt (head : Bool) (start : Nat) : Tx := nodeAttempt s n p (eChannel o.w0) (6 + eSfc o.w0) start head
  let mark : State := s.setLane n { s.lane n with occ := some { o with tried := true, next := 0 } }
  match eType o.w0 with
  | 1 => if o.tried || !attemptable s p then s else addTx mark n (attempt true (o.start + lead))
  | 2 =>
    if !pSess s p then s
    else if !o.tried then addTx mark n (attempt (attemptable s p) (o.start + lead))
    else if o.next = 0 || !attemptable s p || 0 < (mbxAt s p 0).attempts
        || o.start + eLen o.w0 * 4000000 < txEndNs (attempt true o.next) + lead then s
    else addTx mark n (attempt true o.next)
  | _ => s

/-- The same, once the node's mode has been settled (R353, R411). -/
def occurrenceAttempt (s : State) (n : Nat) (o : Occ) : State :=
  occurrenceSend (followModes (withdrawChange s (eOwner o.w1)) (eOwner o.w1) (some o.w0)) n o

/-- The next frame of the answered wake exchange `w` for the downlinks of node `p` (R358). An exchange that has come to the occurrence of an
entry other than a WAKE entry is over (R335, R357). -/
def wakeNext (s : State) (n : Nat) (w : Wake) (p : Nat) : State :=
  if (headDl s p).isNone then dropWake s n
  else if w.start = 0 || !attemptable s p then s
  else
    addAnswer (putWake s n { w with start := 0 }) n (fun o => isSpecial o.w0 o.w1 4 (eIndex o.w1))
      (nodeAttempt s n p (s.fld (F.MAC_WAKE_CFG_ANS_CH n)) (pSf s p) w.start true) (dropWake s n)

/-- The next frame of a wake exchange, where one has been answered. -/
def wakeAttempt (s : State) (n : Nat) : State :=
  match (wakeOf s n).bind (fun w => if w.stage = 3 then w.parcel.map (fun p => (w, p)) else none) with
  | some (w, p) => wakeNext (withdrawChange s p) n w p
  | none => s

/-- DL_ATTEMPT (R348, R351, R358): in an occurrence of a node's entry that entry's, else the next frame of a wake exchange. -/
def dlAttempt (s : State) (n : Nat) : State :=
  match (s.lane n).occ with
  | some o => if eType o.w0 = 3 then wakeAttempt s n else occurrenceAttempt s n o
  | none => wakeAttempt s n

/-- DL_ATTEMPT. -/
def execDlAttempt (lane : Lane) (s : State) : Result := .next (if mayTransmit s lane then dlAttempt s lane else s)

end Sys2Proof.Machine
end

