-- ==== Sys2Proof/Machine/Mac.lean ====
section
/-!
DEFINITION. Sys2Proof/Machine/Mac.lean: superframes and their beacons, slot occurrences, wake exchanges, acknowledgements received,
management messages, and neighbouring routers (R318–R328, R335–R341, R349, R354–R358, R364–R368, R638, R685).
-/
namespace Sys2Proof.Machine

/-! ### Beacons (R324–R327) -/

/-- The lowest-indexed CONTENTION entry of a lane that occurs in superframe `sfn` (R325). -/
def contention (s : State) (n sfn : Nat) : Option Nat :=
  (usedEntries s).find? (fun e =>
    let w0 := entryW0 s e
    isSpecial w0 (entryW1 s e) 2 0 && eLane w0 == n && sfn % ppPeriod (ePp w0) == ppPhase (ePp w0))

/-- Bytes 21 to 25 of a beacon. CONT_LEN has eight bits: what it holds for a longer window is open. -/
def contBytes (s : State) (bw : Nat) : Option Nat → List Byte × State
  | none => (List.replicate 5 0#8, s)
  | some e =>
    let w0 := entryW0 s e
    let head := leBytes 1 (eChannel w0) ++ leBytes 1 (eSfc w0 + 8 * bw) ++ leBytes 2 (eTick (entryW1 s e))
    if eLen w0 < 256 then (head ++ leBytes 1 (eLen w0), s)
    else
      let d := drawBytes s 1
      (head ++ d.1, d.2)

/-- The beacon of lane `n` for superframe `sfn` (R325): none where its key may not be used. -/
def beaconFrame (s : State) (n sfn : Nat) (t : Tx) : Option (List Byte) × State :=
  let auth := s.flag F.MAC_BCN_KEY_AUTH
  let sync := t.start + t.npre * symUs t.sf t.bw * 1000
  let e := contention s n sfn
  let update := s.upd.sessions.any (fun x => x.lanes.any (fun l => l.lane == n && l.stage != 2))
  let f : Fctl := { type := 0, secured := auth, ackReq := false, fpend := false, dir := true, relay := false, cls := 0,
                    micLen := 0, ackf := false }
  let flags := n + 4 * b01 e.isSome + 8 * b01 (timeOk s) + 16 * b01 update
  let c := contBytes s t.bw e
  let plain := headerBytes f (s.fld F.MAC_ROUTER_ID_ID) 0 sfn ++ leBytes 5 (sync / 1000000000) ++ leBytes 4 (sync % 1000000000)
    ++ leBytes 1 flags ++ leBytes 1 s.rgl.cur.code ++ c.1
  if auth then ccmProtect c.2 (slotKeyUse c.2 (s.fld F.MAC_BCN_KEY_SLOT) (some destCcm) useEnc) plain n
  else (some plain, c.2)

/-- A beacon granted and built reaches its lane, which has hopped to the beacon channel in tick 8,191 (R326): it starts exactly at START
or not at all (R209, R222, R324, R629). A lane not locked on that channel by then tunes to it, and the beacon is late. A lane that is OFF,
as in REDUCED, is in none of the states a beacon needs. `late`: START has passed. -/
def beaconStart (s : State) (n sfn : Nat) (t : Tx) (late : Bool) : State :=
  let st := laneState s n
  let inGap := match (s.lane n).work with
    | .slice _ => true
    | .step _ => true
    | _ => false
  let tuned := (st = 3 || st = 6) && laneLocked s n && laneChannel s n = t.channel
  let held := blankIn s n && s.flag (F.LRF_BLANK_CFG_TX_HOLD n)
  if !(st = 1 || st = 3 || st = 6 || inGap) then bcnSkip (refund s t) n 4 sfn
  else if !laneServed s n then bcnSkip (refund s t) n 2 sfn
  else if late || held || !tuned then
    let s := bcnSkip (lateNoted (refund s t) n t (if held then 2 else 1)) n 2 sfn
    listen (abortGap s n) n
  else if !gateOpen s then setCause ((refund s t).count F.RED_ILK_ABORTS_COUNT 1) (0x10 + n) 7
  else
    let s := ctxPreempt s n
    let gain := txEntry s n (min t.power (ceilingOf s n s.rgl.cur.code (t.accts.map (· % 256))))
    let timing := s.reg (A.LRF_FEM_TIMING n)
    let s := s.setLane n { s.lane n with
      txs := { modulated s n t with stage := 4, gain := gain } :: (s.lane n).txs,
      femTiming := timing, femCfg := s.reg (A.LRF_FEM_CFG n), femBias := s.reg (A.LRF_FEM_BIAS n),
      taAt := s.dev.upCycles - turnaroundNs timing / 4, paAt := s.dev.upCycles - (500 + quarterCycles (bitsOf timing.toNat 16 5)),
      tail := none, work := .none }
    enterState s n 4 true

/-- The beacon of lane `n` at the start of a superframe (R324). `power`: what the sense before it has measured, in 1/16 dBm, under a profile
with LBT (R384). -/
def beacon (s : State) (n sfn start : Nat) (power : Int) (late : Bool) : State :=
  let cfg := bcnCfg s n
  if !bit cfg.toNat 31 || !s.ready || !roleTransmits s || winding s || s.rgl.cur.code = 0 then s
  else
    let t0 := { beaconTx s n cfg (if s.flag F.MAC_BCN_KEY_AUTH then 30 else 26) with start := start, latest := start }
    match grant s n t0 with
    | (none, s) => bcnSkip s n 1 sfn
    | (some t, s) =>
      if lbtOn s && mediumBusy s n power then
        bcnSkip (withheld (refund (setCause (s.count F.RGL_LBT_BUSY_COUNT 1) 0x1D 3) t) n t 4 0) n 1 sfn
      else if txRefused s n t then bcnSkip (refund s t) n 5 sfn
      else
        match beaconFrame s n sfn t with
        | (none, s) => bcnSkip (refund s t) n 3 sfn
        | (some bs, s) => beaconStart s n sfn { t with content := .frame bs, bytes := bs } late

/-- The lanes whose beacon of the present superframe is on air. -/
def beaconing (s : State) : Nat :=
  (List.range 4).foldl (fun m n => match onAir s n with
    | some t => if t.kind = 0 then m + 2 ^ n else m
    | none => m) 0

/-! ### Neighbouring routers (R365, R366) -/

/-- State of neighbour `k`: 0 DISABLED, 1 TRACKED, 2 HOLD, 3 RELEASED. -/
def nbrField (k : Nat) : Fld := ⟨A.MAC_NBR_STATE (k / 16), 2 * (k % 16), 2⟩
def nbrState (s : State) (k : Nat) : Nat := s.fld (nbrField k)

/-- The tracking of neighbour `k`. -/
def nbrOf (s : State) (k : Nat) : Nbr := Tbl.get (fun _ => Nbr.init) s.mac.nbrs k
def putNbr (s : State) (k : Nat) (x : Nbr) : State :=
  { s with mac := { s.mac with nbrs := Tbl.put (fun _ => Nbr.init) s.mac.nbrs k x } }

/-- ROUTER_ID, EN and PREAMBLE of an `NBRk_ID` word. -/
def nbrRouter (id : Word) : Nat := bitsOf id.toNat 0 14
def nbrEn (id : Word) : Bool := bit id.toNat 31
def nbrPre (id : Word) : Nat := bitsOf id.toNat 24 7

/-- LANE, spreading order, bandwidth code, OFFSET and CHANNEL of an `NBRk_BCN` word. -/
def nbrLane (bcn : Word) : Nat := bitsOf bcn.toNat 30 2
def nbrSf (bcn : Word) : Nat := 6 + bitsOf bcn.toNat 27 3
def nbrBw (bcn : Word) : Nat := bitsOf bcn.toNat 25 2
def nbrOffset (bcn : Word) : Nat := bitsOf bcn.toNat 8 13
def nbrChannel (bcn : Word) : Nat := bitsOf bcn.toNat 0 8

/-- d: where a neighbour's superframe begins, in ms after the device's own (R365). -/
def nbrShift (s : State) (bcn : Word) : Nat := (nbrOffset bcn + 8192 - s.mac.offset % 8192) % 8192

/-- The entries of a kind that neighbour `k` has. -/
def nbrEntries (s : State) (kind k : Nat) : List Nat :=
  (usedEntries s).filter (fun e => isSpecial (entryW0 s e) (entryW1 s e) kind k)

/-- The words of neighbour `k`'s NBR_WATCH entry, from the words of its registers (R365): none where no entry can hold them. -/
def watchWords (s : State) (k : Nat) (id bcn : Word) : Option (Nat × Nat) :=
  let base := s.fld F.MAC_GUARD_CFG_BASE_GUARD_US
  let air := cssAirUs (nbrSf bcn) (nbrBw bcn) (nbrPre id) 30 0
  let len := ceilDiv (air + 2 * base) 4000
  let back := ceilDiv base 1000
  if nbrShift s bcn < back || 511 < len then none
  else some (entryWords 1 3 (nbrLane bcn) (nbrChannel bcn) (nbrSf bcn) len (nbrShift s bcn - back) k)

/-- The entry that keeps new words from being valid, or 0 where the reason is another (R332, R368). -/
def wordsConflict (s : State) (w0 w1 : Nat) : Option Nat :=
  let promised := s.mac.assigns.flatMap (fun a => a.2) ++ s.mac.joins.flatMap (fun j => j.entries)
  match entryFault s w0 w1 (usedEntries s) with
  | some f => some f.2
  | none => (promised.find? (fun e => entriesOverlap w0 w1 e.2.1 e.2.2)).map (fun e => e.1)

/-- EN of neighbour `k` has been written, with its registers then at `id` and `bcn` (R365). -/
def nbrApply (s : State) (k : Nat) (id bcn : Word) : State :=
  let s := (nbrEntries s 0 k).foldl emptyEntry s
  if nbrEn id then
    let conflict (s : State) (e : Nat) : State :=
      ((putNbr s k Nbr.init).setFld (nbrField k) 0).event 0x1C 0 0x0908 2 (leBytes 1 k ++ leBytes 4 e)
    match watchWords s k id bcn with
    | none => conflict s 0
    | some (w0, w1) =>
      match wordsConflict s w0 w1 with
      | some e => conflict s e
      | none =>
        let e := pickEntry s
        (putNbr (putEntry e.2 e.1 w0 w1) k
          { misses := 0, watch := some e.1, seen := true, id := id, bcn := bcn }).setFld (nbrField k) 1
  else (putNbr ((nbrEntries s 1 k).foldl emptyEntry s) k Nbr.init).setFld (nbrField k) 0

/-- The watch period of a tracked neighbour is 1 again, where the entry can have it (R366). -/
def nbrRestore (s : State) (k : Nat) : State :=
  match nbrEntries s 0 k with
  | e :: _ =>
    let w0 := entryW0 s e % 2 ^ 24 + 2 ^ 24
    if (entryFault s w0 (entryW1 s e) ((usedEntries s).filter (· != e))).isNone then putEntry s e w0 (entryW1 s e) else s
  | [] => s

/-- PE13 may write the slot table: not in BOOT, when DRAM is being initialised and the superframe offset is not in force, nor during HOLD,
nor as a bow (R318, R635, R637). -/
def tableOpen (s : State) : Bool := s.engaged && !holding s && !asBow s

/-- A neighbour's treatment, at once or when the table may be written. -/
def nbrTreat (s : State) (k : Nat) : State :=
  let id := s.reg (A.MAC_NBR_ID k)
  let bcn := s.reg (A.MAC_NBR_BCN k)
  if tableOpen s then nbrApply s k id bcn
  else { s with mac := { s.mac with nbrDue := s.mac.nbrDue.filter (fun e => e.1 != k) ++ [(k, id, bcn)] } }

/-- A write of the bits `mask` of `NBRk_ID` or `NBRk_BCN`. -/
def nbrWrite (s : State) (src : Requester) (a : Nat) (data mask : Word) : State :=
  let s := writeFields s src a data mask
  if (a - 0x1C100) % 8 != 0 || !bit mask.toNat 31 || bit (s.reg A.MAC_LOCK).toNat 3 then s else nbrTreat s ((a - 0x1C100) / 8)

/-- NBR_EN_WRITE. -/
def execNbrEnWrite (src : Requester) (k : Fin 64) (data : Word) (s : State) : Result :=
  .next (gateWrite s src (A.MAC_NBR_ID k) (fun s => nbrWrite s src (A.MAC_NBR_ID k) data allBits))

/-- ROUTER_ID of neighbour `k` as events give it. -/
def nbrId (s : State) (k : Nat) : List Byte := leBytes 2 (nbrRouter (nbrOf s k).id)

/-- A frame's sync-word time stamp lies within ±`us` microseconds of an instant in Datum ns. -/
def within (f : RxFrame) (at_ us : Nat) : Bool := ((f.info.ts.toNs : Int) - at_).natAbs ≤ us * 1000

/-- The neighbour whose beacon a frame of lane `n` is (R366). -/
def beaconOf (s : State) (n : Nat) (f : RxFrame) : Option Nat :=
  (List.range 64).find? (fun k =>
    let x := nbrOf s k
    nbrState s k != 0 && nbrLane x.bcn == n && nbrRouter x.id == fRouter f.bytes
      && within f (superStart s (s.mac.sfn.getD 0) + nbrShift s x.bcn * 1000000
          + nbrPre x.id * symUs (nbrSf x.bcn) (nbrBw x.bcn) * 1000) (s.fld F.MAC_GUARD_CFG_BASE_GUARD_US))

/-- A neighbour's beacon has been received (R366). -/
def nbrBeacon (s : State) (k : Nat) : State :=
  let old := nbrState s k
  let s := (putNbr s k { nbrOf s k with misses := 0, seen := true }).setFld (nbrField k) 1
  if old = 1 then s
  else
    let s := s.event 0x1C 0 0x0906 0 (leBytes 1 k ++ nbrId s k)
    if old = 3 then nbrRestore s k else s

/-- NBR_BEACON_RX: the first beacon of another router that a lane has received and checked. -/
def execNbrBeaconRx (lane : Lane) (s : State) : Result :=
  .next (if !s.engaged || asBow s then s
    else
      match takeFrame s lane (fun f => f.stage == 0 && fType f.bytes == 0 && f.check != .waiting
          && fRouter f.bytes != s.fld F.MAC_ROUTER_ID_ID) with
      | none => s
      | some (f, t) =>
        match beaconOf t lane f with
        | some k => if f.check == .current then nbrBeacon t k else t
        | none => t)

/-- NBR_WATCH_END: a watch occurrence without the neighbour's beacon is a miss (R366). -/
def execNbrWatchEnd (k : Fin 64) (s : State) : Result :=
  .next (
    let x := nbrOf s k
    if !s.engaged || nbrState s k = 0 || x.seen then s
    else
      let s := putNbr s k { x with seen := true, misses := x.misses + 1 }
      if nbrState s k = 1 && 3 ≤ x.misses + 1 then
        setCause ((s.setFld (nbrField k) 2).event 0x1C 0 0x0905 2 (leBytes 1 k ++ nbrId s k)) 0x1C 5
      else s)

/-- NBR_HOLD_EXPIRY (R366). -/
def execNbrHoldExpiry (k : Fin 64) (s : State) : Result :=
  .next (if !s.engaged || nbrState s k != 2 || !tableOpen s then s
    else
      let clear := nbrEntries s 1 k
      let s := clear.foldl emptyEntry s
      let s := match nbrEntries s 0 k with
        | e :: _ => putEntry s e (entryW0 s e % 2 ^ 24 + (128 + s.mac.sfn.getD 0 % 128) * 2 ^ 24) (entryW1 s e)
        | [] => s
      setCause ((s.setFld (nbrField k) 3).event 0x1C 0 0x0907 2 (leBytes 1 k ++ nbrId s k ++ leBytes 2 clear.length)) 0x1C 6)

/-! ### Superframes (R318–R320, R324, R638, R685) -/

/-- The requested power mode takes effect (R685). -/
def powerChange (s : State) : State :=
  let old := s.fld F.SYS_STATUS_PWR_MODE
  let new := s.fld F.SYS_CTRL_PWR_REQ
  if !s.ready || 2 ≤ old || old = new || s.pow.entry.isSome then s
  else
    let s := s.setFld F.SYS_STATUS_PWR_MODE new
    let s := [1, 2, 3].foldl (fun (t : State) n => if new = 1 then laneOff t n else laneOn t n) s
    setCause (s.event 0x00 0 0x1600 1 (leBytes 1 old ++ leBytes 1 new)) 0x00 0

/-- The lanes whose beacons the bow expects: those that the latest BCN_SCHED named, or with the link DOWN every lane that would
beacon (R638). -/
def expectedLanes (s : State) : Nat :=
  if link s = 0 then (List.range 4).foldl (fun m n => m + 2 ^ n * b01 (bit (bcnCfg s n).toNat 31)) 0
  else match s.red.sched with
    | some (_, lanes) => lanes
    | none => 0

/-- The bow judges the superframe that has ended (R367, R638, R639). -/
def bowJudge (s : State) : State :=
  let expected := expectedLanes s
  let heard := s.red.heard &&& expected
  let s := s.setRed { s.red with heard := 0 }
  if !(s.ready && role s == 2) || expected = 0 then s
  else if heard != 0 then s.setRed { s.red with missRow := 0 }
  else
    let s := (s.count F.RED_BCN_MISSES_COUNT 1).setRed { s.red with missRow := s.red.missRow + 1 }
    if s.red.missRow < 3 then s
    else
      let s := s.setRed { s.red with missRow := 0 }
      if s.flag F.RED_TKO_CFG_BCN_TRIG then tkoTrigger s 1 0 else s

/-- The hyperframe boundary under the old offset: the offset written takes effect, and nodes see a step by the difference (R319). -/
def offsetChange (s : State) (sfn : Nat) : State :=
  let new := s.fld F.MAC_SF_OFFSET_OFFSET
  let old := s.mac.offset
  if new = old then s
  else
    let diff := ((new : Int) - old).natAbs * 1000000
    { s with mac := { s.mac with
        trans := some (sfn, superStart s sfn, old), offset := new, stepped := s.mac.stepped + diff } }

/-- PE13 examines the entries again, or as soon as it may write the table (R333). -/
def recheckDue (s : State) : State :=
  if !s.mac.recheck || !tableOpen s then s
  else recheckEntries { s with mac := { s.mac with recheck := false } }

/-- Neighbours whose entries wait are treated. -/
def nbrsDue (s : State) : State :=
  if !tableOpen s then s
  else s.mac.nbrDue.foldl (fun (t : State) e => nbrApply t e.1 e.2.1 e.2.2) { s with mac := { s.mac with nbrDue := [] } }

/-- `BCN_CFGn` as written takes effect (R326, R333, R335). -/
def latchBeacons (s : State) : State :=
  let now := (List.range 4).foldl (fun t n => Tbl.put (fun _ => 0x86000010#32) t n (s.reg (A.MAC_BCN_CFG n))) ([] : Tbl Word)
  let changed := now != s.mac.bcn
  let takes := s.rgl.next.isSome
  let s := reglBoundary { s with mac := { s.mac with bcn := now } } changed
  let s := if changed || takes then { s with mac := { s.mac with recheck := true } } else s
  if changed then [0, 1, 2, 3].foldl listen s else s

/-- The MAC begins to run, at the entry to READY or MAINTENANCE (R318, R335); neighbours enabled before are treated now (R365). -/
def macStart (s : State) : State :=
  let s := { s with mac := { s.mac with offset := s.fld F.MAC_SF_OFFSET_OFFSET, trans := none } }
  let s := latchBeacons s
  let s := nbrsDue (recheckDue { s with mac := { s.mac with sfn := if beforeZero s s.nowNs then none else some (sfnNow s) } })
  [0, 1, 2, 3].foldl listen s

/-- A superframe begins. -/
def superframe (s : State) (sense : BeaconSense) : State :=
  let last := s.mac.sfn
  let sfn := sfnNow s
  let start := superStart s sfn
  let late := 1000000 ≤ s.nowNs - start
  let hyper := match last with
    | some l => l / 128 != sfn / 128
    | none => sfn % 128 == 0
  let s := setCause s 0x1C 0
  let s := if hyper then offsetChange (setCause s 0x1C 1) sfn else s
  let s := bowJudge { s with mac := { s.mac with sfn := some sfn } }
  let s := (s.setFld F.MAC_STATUS_BCN_ON 0)
  let s := [0, 1, 2, 3].foldl (fun (t : State) n => t.setLane n { t.lane n with ran := [] }) s
  let s := powerChange (gateCheck { s with dev := { s.dev with maintLanes := [] } })
  let s := nbrsDue (recheckDue (latchBeacons s))
  let s := s.upd.sessions.foldl (fun (t : State) x => showSession t x.sid) s
  let s := if s.ready && roleTransmits s && !holding s then s.cad.heard.foldl (fun (t : State) e => measEval t e.1) s else s
  let s := [0, 1, 2, 3].foldl (fun (t : State) n => beacon t n sfn start (sense.power n) late) s
  if s.ready && role s == 1 && 2 ≤ link s then sendItem s (.bcnSched sfn (beaconing s)) else s

/-- SUPERFRAME_START. Ticks that recur after a backward step start no superframe again (R320). -/
def execSuperframeStart (sense : BeaconSense) (s : State) : Result :=
  .next (if s.engaged && !beforeZero s s.nowNs && (match s.mac.sfn with
      | some l => l < sfnNow s
      | none => true) then superframe s sense else s)

/-! ### Occurrences (R328, R335, R340) -/

/-- A miss of a node's UPLINK or PEER occurrence; the third one puts it into RENDEZVOUS (R340). -/
def slotMiss (s : State) (n p : Nat) : State :=
  let s := pCount (s.count F.MAC_SLOT_MISSES_COUNT 1) p 246 2 1
  let s := pCount s p 88 1 1
  if pGet s p 88 1 < 3 || pLink s p = 2 then s
  else
    let s := pSet (pSetBits s p 9 0 2 2) p 90 2 (s.mac.sfn.getD 0)
    setCause (s.event 0x1C 0 0x0901 2 (leBytes 4 p ++ leBytes 1 n)) 0x1C 3

/-- The occurrence in progress on a lane ends. -/
def occurrenceEnd (s : State) (n : Nat) : State :=
  match (s.lane n).occ with
  | none => s
  | some o =>
    let s := listen (s.setLane n { s.lane n with occ := none }) n
    let p := eOwner o.w1
    if (eType o.w0 = 0 || eType o.w0 = 2) && !o.hit && pInUse s p && !holding s then slotMiss s n p else s

/-- SLOT_OCCURRENCE_END. -/
def execSlotOccurrenceEnd (lane : Lane) (s : State) : Result := .next (if s.engaged then occurrenceEnd s lane else s)

/-- An occurrence of entry `e` begins on lane `n` at the present tick; one that would reach into tick 8,191 of a shortened superframe
does not. A lane that is off in REDUCED executes none (R686). -/
def occurrenceStart (s : State) (n e : Nat) : State :=
  let w0 := entryW0 s e
  let w1 := entryW1 s e
  let sfn := sfnNow s
  let start := superStart s sfn + eTick w1 * 1000000
  if ePp w0 = 0 || eLane w0 != n || sfn % ppPeriod (ePp w0) != ppPhase (ePp w0) || s.mac.sfn != some sfn || tickNow s != eTick w1
      || (s.lane n).ran.contains e || superStart s (sfn + 1) < start + eLen w0 * 4000000 + 1000000 then s
  else
    let s := occurrenceEnd s n
    let s := s.setLane n { s.lane n with
      ran := e :: (s.lane n).ran,
      occ := some { entry := e, w0 := w0, w1 := w1, start := start, hit := false, tried := false, pos := 0, next := 0,
                    sentStart := 0, sentEnd := 0, fpend := false, stepped := 0 } }
    let s := if isSpecial w0 w1 0 (eIndex w1) then putNbr s (eIndex w1) { nbrOf s (eIndex w1) with seen := false } else s
    receiveOn s n (eChannel w0)

/-- SLOT_OCCURRENCE_START. -/
def execSlotOccurrenceStart (lane : Lane) (entry : Fin 1048576) (s : State) : Result :=
  .next (if laneOnDuty s lane && roleTransmits s then occurrenceStart s lane entry else s)

/-- RENDEZVOUS_HOLD_EXPIRY (R341). -/
def execRendezvousHoldExpiry (parcel : Fin 262144) (s : State) : Result :=
  .next (if s.engaged && roleTransmits s && !holding s && pInUse s parcel && pLink s parcel = 2
      && 256 ≤ (s.mac.sfn.getD 0 + 65536 - pGet s parcel 90 2) % 65536 then releaseNode s parcel
    else s)

/-! ### Answers to downlinks (R336, R349, R358) -/

/-- The acknowledgement received longest ago is served. -/
def ackReceive (s : State) (n : Nat) : State :=
  match (s.lane n).acked with
  | [] => s
  | (p, lo, ns) :: rest =>
    let s := s.setLane n { s.lane n with acked := rest }
    let s := match headDl s p with
      | some (m, d) =>
        if m.ackReq && d.sent && d.fcnt % 256 = lo && !pRelayed s p then setTref s p (d.sec * 1000000000 + d.ns) d.stepped else s
      | none => s
    wakeFollows (dlAcked s p lo) n p ns

/-- ACK_RECEIVE. -/
def execAckReceive (lane : Lane) (s : State) : Result := .next (if s.engaged then ackReceive s lane else s)

/-- RESPONSE_WINDOW_CLOSE (R349, R420). -/
def execResponseWindowClose (parcel : Fin 262144) (s : State) : Result :=
  .next (if s.engaged && !holding s then
      let open_ := (headDl s parcel).any (fun h => h.2.window)
      let s := windowCloses s parcel
      (List.range 4).foldl (fun (t : State) n =>
        match wakeOf t n with
        | some w => if open_ && w.parcel == some parcel.val && w.stage == 3 then dropWake t n else t
        | none => t) s
    else s)

/-! ### Wake exchanges (R143, R354–R358) -/

/-- The exchange that a lane begins at START for a wake-on-radio node's downlinks, once per superframe (R358). -/
def downlinkWake (s : State) (n p start : Nat) : Option Wake :=
  if pInUse s p && pClass s p = 1 && !pRelayed s p && attemptable s p && Tbl.get (fun _ => 0) s.mac.woken p != sfnAt s start + 1
      && !(List.range 4).any (fun k => k != n && (wakeOf s k).any (fun w => w.parcel == some p && w.stage != 4)) then
    some { cmd := none, parcel := some p, addr := pGet s p 12 4, code := 0x80, expect := true, retries := 0, attempt := 0,
           stage := 0, start := 0, fpend := false }
  else none

/-- An attempt of an exchange starts: its telegram is requested (R354, R356, R357). -/
def wakeStart (s : State) (n : Nat) (w : Wake) (ahead : Nat) : State :=
  let start := s.nowNs + ahead
  let s := match w.parcel with
    | some p => { s with mac := { s.mac with woken := Tbl.put (fun _ => 0) s.mac.woken p (sfnAt s start + 1) } }
    | none => s
  let t := { Tx.blank with
    kind := 4, parcel := w.parcel.getD 0, content := .wake w.addr w.code, channel := s.fld (F.MAC_WAKE_CFG_WAKE_CH n), mode := 2,
    power := signed 8 (s.fld (F.MAC_WAKE_CFG_PWR n)), start := start }
  let fin := (occsIn s n start (start + 1)).head?.map (fun o => o.fin)
  addTx (putWake s n { w with stage := 1, attempt := w.attempt + 1, start := start }) n { t with latest := latestBy s fin t }

/-- The woken node is the frame's source: the node with the address, or any node of a group. -/
def wokenBy (s : State) (w : Wake) (p : Nat) : Bool :=
  match w.parcel with
  | some q => p == q
  | none => bit w.addr 31 || pGet s p 12 4 == w.addr

/-- What the end of a superframe keeps of a lane's time, in ns: tick 8,191 (R326), and ticks 8,185 to 8,190 as well under a profile with
listen-before-talk (R385). -/
def endReserve (s : State) (start : Nat) : Nat := if (setFor s start).code = 6 then 7000000 else 1000000

/-- Lane `n` is free from `a` to `b`, in Datum ns: no beacon reservation and no occurrence but of WAKE entries lies in the span
(R326, R357, R385). -/
def laneFree (s : State) (n a b : Nat) : Bool :=
  let k := sfnAt s a
  let reserved (y : Nat) : Bool := spansMeet a b (y - endReserve s (y - 1)) y
  (occsIn s n a b).all (fun o => isSpecial o.w0 o.w1 4 0) && !reserved (superStart s k)
    && (List.range (sfnAt s b + 1 - k)).all (fun i =>
      let x := superStart s (k + i)
      !spansMeet a b x (x + bcnRes s n * 1000000) && !reserved (superStart s (k + i + 1)))

/-- Airtime in µs of the WAKE_ANS of node `p` (R356). -/
def answerUs (s : State) (n p : Nat) : Nat :=
  cssAirUs (pSf s p) (s.fld (F.LBB_SUBCH_BW n (s.fld (F.MAC_WAKE_CFG_ANS_SUBCH n)))) (if pGet s p 93 1 = 0 then lanePre s n else pGet s p 93 1)
    (11 + macBytes (pMicLen s p)) 0

/-- Airtime in µs of the exchange of a node's head downlink after the answer: ACK_GAP and the downlink, ACK_GAP and its
acknowledgement (R358). -/
def exchangeUs (s : State) (n p : Nat) : Nat :=
  let gap := pGet s p 61 1 * 1000
  let t := nodeAttempt s n p (s.fld (F.MAC_WAKE_CFG_ANS_CH n)) (pSf s p) 0 true
  gap + t.airUs + (match headDl s p with
    | some (m, _) => if m.ackReq then gap + cssAirUs t.sf t.bw t.npre (13 + macBytes (pMicLen s p)) 0 else 0
    | none => 0)

/-- The lane time that an attempt of an exchange needs from `start` on is free (R357): 100 ms, the longest WAKE_ANS of the nodes it wakes
where one is to answer, and the exchange of a downlink. -/
def wakeTime (s : State) (n start : Nat) (w : Wake) : Bool :=
  let answer := if w.expect || w.code = 0x80 then
      ((usedParcels s).filter (fun p => pClass s p == 1 && wokenBy s w p)).foldl (fun us p => max us (answerUs s n p)) 0
    else 0
  let more := match w.parcel with
    | some p => exchangeUs s n p
    | none => 0
  laneFree s n start (start + 100000000 + (answer + more) * 1000)

/-- The telegram with CMD 0x81 to a reset node's address (R606). -/
def rejoinWake (addr : Nat) : Wake :=
  { cmd := none, parcel := none, addr := addr, code := 0x81, expect := false, retries := 0, attempt := 0, stage := 0, start := 0, fpend := false }

/-- WAKE_ATTEMPT. `parcel`: a wake-on-radio node with downlinks, taken where the lane has no exchange; `ahead`: time until START in
ns. -/
def execWakeAttempt (lane : Lane) (parcel : Option (Fin 262144)) (ahead : Nat) (s : State) : Result :=
  .next (if !s.ready || !mayTransmit s lane || !s.flag (F.MAC_WAKE_CFG_EN lane) then s
    else
      let try_ (s : State) (w : Wake) : State := if wakeTime s lane (s.nowNs + ahead) w then wakeStart s lane w ahead else s
      let fresh := (parcel.bind (fun p => downlinkWake s lane p (s.nowNs + ahead)))
      let again (s : State) : State :=
        match fresh, s.mac.rejoin.find? (fun e => e.1 == lane.val) with
        | some x, _ => try_ s x
        | none, some e =>
          let x := rejoinWake e.2
          if wakeTime s lane (s.nowNs + ahead) x then
            wakeStart { s with mac := { s.mac with rejoin := s.mac.rejoin.erase e } } lane x ahead
          else s
        | none, none => s
      match wakeOf s lane with
      | some w =>
        if w.stage = 0 then try_ s w
        else if w.stage = 4 then again s
        else s
      | none => again s)

/-- An answer begins within 50 ms of the end of the telegram (R356). -/
def answersWake (w : Wake) (f : RxFrame) (npre : Nat) : Bool :=
  let begun : Int := (f.info.ts.toNs : Int) - npre * symUs f.info.sf f.info.bw * 1000
  let fin : Int := w.start + 9000000
  fin ≤ begun && begun ≤ fin + 50000000

/-- A WAKE_ANS that has passed its checks (R143, R356, R358, R621). -/
def wakeAnswer (s : State) (n : Nat) : State :=
  match takeFrame s n (fun f => f.stage == 1 && fType f.bytes == 7) with
  | none => s
  | some (f, s) =>
    let p := fParcel f.bytes
    match wakeOf s n with
    | none => s
    | some w =>
      let npre := if pGet s p 93 1 = 0 then lanePre s n else pGet s p 93 1
      if !wokenBy s w p || !answersWake w f npre then s
      else if w.stage = 4 then
        match w.cmd with
        | some id => if w.expect then dropWake (lateSuccess s id 0x0105) n else s
        | none => s
      else if w.stage != 2 then s
      else
        let s := s.count F.MAC_WAKE_ANSWERED_COUNT 1
        match w.parcel with
        | some _ => putWake (setBand s p (rxOffset s f.info) f.info.bw) n
            { w with stage := 3, start := endNs f.info + pGet s p 61 1 * 1000000 }
        | none => if w.cmd.isNone then dropWake s n else wakeFinish s n w 0x00 (leBytes 4 p ++ leBytes 1 (unsigned 8 (Int.fdiv (signed 16 f.info.rssi) 16)) ++ leBytes 1 w.attempt)

/-- WAKE_ANSWER_RX. -/
def execWakeAnswerRx (lane : Lane) (s : State) : Result := .next (if s.engaged then wakeAnswer s lane else s)

/-- A wake attempt without an answer counts as an attempt at the downlink (R358). -/
def wakeMissed (s : State) (p : Nat) : State :=
  match headDl s p with
  | none => s
  | some (m, _) =>
    let s := editHead (s.count F.MAC_DL_ATTEMPTS_COUNT 1) p (fun m => { m with attempts := m.attempts + 1, late := false }) id
    if m.retries < m.attempts + 1 then dlOutcome s p 0 0x40 false else s

/-- A detection posted on lane `n`'s ANS_SUBCH since the end of the exchange's telegram has no outcome yet: it waits in the queue, holds a
context, or its frame has not met its verdict (R356). -/
def answerPending (s : State) (n : Nat) (w : Wake) : Bool :=
  let fin := w.start + 9000000
  let sub := s.fld (F.MAC_WAKE_CFG_ANS_SUBCH n)
  let l := s.lane n
  l.queue.any (fun d => d.subch == sub && fin ≤ d.time.toNs)
    || l.ctxs.any (fun e => e.2.stage != 0 && e.2.det.subch == sub && fin ≤ e.2.det.time.toNs)
    || l.ofdm.any (fun r => r.info.subch == sub && fin ≤ r.info.ts.toNs)
    || l.rx.any (fun f => f.info.subch == sub && f.relay.isNone && fin ≤ f.info.ts.toNs && (f.stage == 0 || (f.stage == 1 && fType f.bytes == 7)))

/-- WAKE_RETRY_TIMER: 100 ms after an attempt's START, without an answer (R143, R356); with a detection still open on ANS_SUBCH, the next
attempt waits for its outcome. -/
def execWakeRetryTimer (lane : Lane) (s : State) : Result :=
  .next (match wakeOf s lane with
    | none => s
    | some w =>
      if !s.engaged || w.stage != 2 || answerPending s lane w then s
      else
        match w.parcel with
        | some p => wakeMissed (dropWake s lane) p
        | none => if w.cmd.isNone then dropWake s lane else if w.retries < w.attempt then wakeFinish s lane w 0x40 [] else listen (putWake s lane { w with stage := 0 }) lane)

/-! ### Management messages (R322) -/

/-- MGMT_RX: the first MGMT frame of a lane goes to the owner of its message; a reserved or misdirected MGMT_ID is discarded. -/
def execMgmtRx (lane : Lane) (s : State) : Result :=
  .next (if !s.engaged then s
    else
      let mgmt (f : RxFrame) : Bool := f.stage == 1 && fType f.bytes == 3
      match (s.lane lane).rx.find? mgmt with
      | none => s
      | some f =>
        let id := fieldAt f.body 0 1
        let rx := (s.lane lane).rx
        let rest := if f.body != [] && (id == 0x01 || id == 0x02 || id == 0x30 || id == 0x41) then
            rx.map (fun x => if x == f then { x with stage := 2 } else x)
          else rx.erase f
        s.setLane lane { s.lane lane with rx := rest })

end Sys2Proof.Machine
end

