-- ==== Sys2Proof/Machine/Uplink.lean ====
section
/-!
DEFINITION. Sys2Proof/Machine/Uplink.lean: the verification of received frames, the frame-counter verdict, hits, delivery toward the host,
and the adaptation of a node (R321, R336–R351, R366, R394–R420, R570, R634, R637, R638).
-/
namespace Sys2Proof.Machine

/-! ### CCM* requests on received frames (R366, R393, R568, R570) -/

/-- What one CCM* request comes to under a key: none where the key may not be used. -/
def tryOpen (key : Option (List Byte)) (bs : List Byte) (lane : Nat) : Checked × List Byte :=
  match key with
  | none => (.keyDenied, [])
  | some k =>
    match openFrame k bs lane with
    | some body => (.current, body)
    | none => (.fail, [])

/-- The counts of a request's final result (R557, R570). -/
def ccmResult (s : State) (c : Checked) : State :=
  let s := s.count F.CRY_CCM_OPS_COUNT 1
  match c with
  | .fail => s.count F.CRY_CCM_FAIL_COUNT 1
  | .keyDenied => denied s
  | _ => s

/-- A frame of a node under its current session key, then under its pending one. -/
def openUplink (s : State) (p : Nat) (bs : List Byte) : Checked × List Byte :=
  let cur := if pSess s p then tryOpen (sessKey s p useDec) bs 0 else (.fail, [])
  if cur.1 == .fail && pPend s p then
    match tryOpen (pendKey s p useDec) bs 0 with
    | (.current, body) => (.pending, body)
    | r => r
  else cur

/-- The verification of a received frame: the result and whether a request was made. -/
def verify (s : State) (bs : List Byte) : (Checked × List Byte) × Bool :=
  let p := fParcel bs
  if fType bs = 0 && !fSecured bs then ((.current, fRaw bs), false)
  else if !fSecured bs || bs.length < 10 + fMac bs then ((.fail, []), false)
  else
    match fType bs with
    | 0 => (tryOpen (slotKeyUse s (s.fld F.MAC_BCN_KEY_SLOT) (some destCcm) useDec) bs (fieldAt bs 19 1), true)
    | 4 =>
      match findEui s ((fRaw bs).take 8) with
      | some q => (tryOpen (nodeKey s q useDec) bs 0, true)
      | none => ((.fail, []), false)
    | _ => if pSess s p || pPend s p then (openUplink s p bs, true) else ((.fail, []), false)

/-- A beacon of the device's own router, heard by the bow within its window (R638). -/
def strokeBeacon (s : State) (n : Nat) (f : RxFrame) : Bool :=
  let t := beaconTx s n (bcnCfg s n) 30
  fType f.bytes == 0 && fRouter f.bytes == s.fld F.MAC_ROUTER_ID_ID && f.check == .current
    && within f (superStart s (s.mac.sfn.getD 0) + t.npre * symUs t.sf t.bw * 1000) (s.fld F.MAC_GUARD_CFG_BASE_GUARD_US)

/-- The first frame of lane `n` that waits for its verification is verified; one too short for a header, or of another VERSION, is
discarded (R321). -/
def ccmRequest (s : State) (n : Nat) : State :=
  let rx := (s.lane n).rx
  match rx.find? (fun f => f.check == .waiting) with
  | none => s
  | some f =>
    let without := s.setLane n { s.lane n with rx := rx.erase f }
    if f.bytes.length < 10 then without
    else if fVersion f.bytes != 0 then without.count F.MAC_OUT_OF_WINDOW_COUNT 1
    else
      let r := verify s f.bytes
      let g := { f with check := r.1.1, body := r.1.2, epoch := if r.1.1 == .pending then pendEpoch s (fParcel f.bytes) else sessEpoch s (fParcel f.bytes) }
      let t := if r.2 then ccmResult s r.1.1 else s
      if fType f.bytes = 0 && (asBow s || fRouter f.bytes = s.fld F.MAC_ROUTER_ID_ID) then
        let t := t.setLane n { t.lane n with rx := rx.erase f }
        if asBow s && strokeBeacon s n g then t.setRed { t.red with heard := t.red.heard ||| 2 ^ n } else t
      else t.setLane n { t.lane n with rx := rx.map (fun x => if x == f then g else x) }

/-- CCM_REQUEST. -/
def execCcmRequest (lane : Lane) (s : State) : Result := .next (if s.engaged then ccmRequest s lane else s)

/-! ### Promotion (R396) -/

/-- Every pending mailbox entry is to be built again. -/
def clearEnc (s : State) (p : Nat) : State :=
  (List.range (mbxCount s p)).foldl (fun (t : State) i => putMbx t p i { mbxAt t p i with enc := false }) s

/-- The pending session becomes the current one. -/
def promote (s : State) (p : Nat) : State :=
  let epoch := pGet s p 44 4
  let s := s.ramStore (256 * p + 32) (s.ramBytes (256 * p + 44) 12)
  let s := s.ramStore (256 * p + 44) (List.replicate 12 0#8)
  let s := pSetBits (pSetBits (pSetBits s p 9 2 1 1) p 9 3 1 0) p 9 0 2 1
  let s := pSet (pSet (pSet s p 64 8 0) p 72 8 0) p 88 1 0
  let s := clearHistory (clearEnc s p) p
  setCause ((s.count F.CAD_SESSIONS_NEW_COUNT 1).event 0x1E 0 0x0B00 0 (leBytes 4 p ++ leBytes 4 epoch)) 0x1E 3

/-- PENDING_SESSION_EXPIRY: a pending session not promoted one hyperframe after PEND_S is dropped (R396). -/
def execPendingSessionExpiry (parcel : Fin 262144) (s : State) : Result :=
  .next (if s.engaged && !asBow s && !holding s && pPend s parcel then
      pSetBits { s with mac := { s.mac with joining := s.mac.joining.filter (· != parcel.val) } } parcel 9 3 1 0
    else s)

/-! ### The frame-counter verdict (R398) -/

/-- A verdict: NEW with its gap, UP_TOP and UP_MAP; or one of the others. -/
inductive Verdict where
  | new (gap top map : Nat)
  | duplicate | late | replay
  deriving DecidableEq, Repr

/-- The verdict on a counter for a window. -/
def judgeCounter (top map fcnt : Nat) : Verdict :=
  if map = 0 then .new fcnt fcnt 1
  else if top < fcnt then
    let d := fcnt - top
    .new (d - 1) fcnt (if 32 ≤ d then 1 else (map * 2 ^ d + 1) % 2 ^ 32)
  else if top - fcnt ≤ 31 then (if bit map (top - fcnt) then .duplicate else .late)
  else .replay

/-- A counter refused as LATE (1) or REPLAY (2) (R398, R423). -/
def counterRefused (s : State) (p fcnt why : Nat) : State :=
  let s := pCount (s.count (if why = 1 then F.CAD_LATE_COUNT else F.CAD_REPLAYS_COUNT) 1) p 238 2 1
  let s := setCause s 0x1E 2
  if s.cad.replayAt = s.now.sec + 1 then s
  else
    ({ s with cad := { s.cad with replayAt := s.now.sec + 1 } }).event 0x1E 0 0x0B01 2 (leBytes 4 p ++ leBytes 4 fcnt ++ leBytes 1 why)

/-! ### Hits (R336–R344, R404, R405) -/

/-- Where a frame stands in its node's occurrence on lane `n`: whether it is a hit, and the deviation from the nominal sync instant in
ns, 0 in a PEER occurrence in which the device has sent nothing to measure from; none outside every occurrence of the node. -/
def slotPlace (s : State) (n p : Nat) (f : RxFrame) : Option (Bool × Int) :=
  match (s.lane n).occ with
  | none => none
  | some o =>
    let ts := f.info.ts.toNs
    let mine := (eType o.w0 = 0 || eType o.w0 = 2) && eOwner o.w1 = p && f.relay.isNone
    if !mine || ts < o.start || o.start + eLen o.w0 * 4000000 ≤ ts then none
    else
      let period := ppPeriod (ePp o.w0)
      let lead := leadMs s p period * 1000000
      let pre := pGet s p 93 1 * symUs f.info.sf f.info.bw * 1000
      let nominal := if eType o.w0 = 2 then o.sentEnd + pGet s p 61 1 * 1000000 else o.start + lead
      let tref := pGet s p 80 4 * 1000000000 + pGet s p 84 4
      let dt := ((nominal : Int) - tref).emod (2 ^ 32 * 1000000000)
      let g := guardUs (pGet s p 62 2) (pGet s p 60 1) dt.toNat * 1000
      let wide := if pGet s p 88 1 = 0 && pLink s p != 2 then g else 4 * g
      let w := min (wide + (s.mac.stepped - Tbl.get (fun _ => 0) s.mac.synced p)) lead
      let off : Int := (ts : Int) - nominal - pre
      if eType o.w0 = 2 && o.sentEnd = 0 then some (false, 0) else some (off.natAbs ≤ w, off)

/-- TCORR for a deviation in ns (R344). -/
def tcorrOf (off : Int) : Int := max (-32768) (min 32767 (Int.fdiv (off + 4000) 8000))

/-- BCN_AGE of a frame's body; none where it has no UL_INFO (R404). -/
def bcnAge (f : RxFrame) : Option Nat :=
  let at_ := if fAckf f.bytes then 3 else 0
  if fType f.bytes = 1 && !fDir f.bytes && at_ < f.body.length then some (fieldAt f.body at_ 1 % 64) else none

/-- T_REF follows the beacon a hit reports, where the lane sent it and it is the later (R336, R405). -/
def beaconTref (s : State) (n p : Nat) (f : RxFrame) : State :=
  match bcnAge f with
  | none => s
  | some a =>
    let sfn := sfnAt s f.info.ts.toNs - a
    let start := superStart s sfn
    let old := pGet s p 80 4 * 1000000000 + pGet s p 84 4
    match s.mac.beacons.find? (fun b => b.1 == n && b.2.1 == sfn) with
    | some b => if a < 63 && old < start % (2 ^ 32 * 1000000000) then setTref s p start b.2.2 else s
    | none => s

/-- A hit (R338–R341, R351, R362). -/
def slotHit (s : State) (n p : Nat) (f : RxFrame) (off : Int) : State :=
  let s := pSetBits (pSet (s.count F.MAC_SLOT_HITS_COUNT 1) p 88 1 0) p 92 0 2 n
  let s := if pLink s p = 2 then
      (clearHistory (pSetBits s p 9 0 2 1) p).event 0x1C 0 0x0902 0 (leBytes 4 p ++ leBytes 2 (unsigned 16 (tcorrOf off)))
    else s
  let s := if s.mac.joining.contains p && !pPend s p then
      ({ s with mac := { s.mac with joining := s.mac.joining.filter (· != p) } }).count F.MAC_JOIN_ACCEPTED_COUNT 1
    else s
  let s := setBand s p (rxOffset s f.info) f.info.bw
  match (s.lane n).occ with
  | none => s
  | some o =>
    let s := s.setLane n { s.lane n with occ := some { o with hit := true } }
    let s := if eType o.w0 = 2 then setTref s p o.sentStart o.stepped else s
    beaconTref s n p f

/-! ### Power for downlinks (R410) -/

/-- 1 + 10^(−SNR/10), times 2⁶⁴, for an SNR in 0.25 dB. -/
def signalShare (snr : Int) : Nat := 2 ^ 64 + ratio64 (-snr)

/-- PATHLOSS less the term of the SNR, in 1/16 dB. -/
def plainLoss (s : State) (n p : Nat) (rssi : Int) : Int :=
  16 * pSigned s p 122 - rssi + 8 * signed 8 (s.fld (F.RGL_EXT_GAIN_RX_GAIN n))

/-- PATHLOSS in 1/16 dB, rounded to nearest, from a frame on lane `n`: its RSSI in 1/16 dBm and its SNR in 0.25 dB. -/
def pathLoss (s : State) (n p : Nat) (rssi snr : Int) : Int :=
  Int.fdiv (2 * plainLoss s n p rssi + levelDb 32 (signalShare snr) (2 ^ 64) + 1) 2

/-- PWR_DL in 0.5 dBm, rounded up, before its limits; `bw` is the bandwidth code of the frame. -/
def wantedPower (s : State) (n p : Nat) (rssi snr : Int) (bw : Nat) : Int :=
  let q : Int := -72 - 40 * ((pSf s p : Int) - 6)
  let known := -2784 + 4 * s.fld F.CAD_PWR_CFG_NODE_NF + q + plainLoss s n p rssi + 4 * s.fld F.CAD_ADAPT_CFG_TARGET
    - 8 * signed 8 (s.fld (F.RGL_EXT_GAIN_TX_GAIN n))
  Int.fdiv (known - levelDb 16 (2 ^ 64) (signalShare snr * (1000 * chirpKhz bw)) + 7) 8

/-- PATHLOSS and PWR_DL from a frame on lane `n`. -/
def downPower (s : State) (n p : Nat) (rssi snr : Int) (bw : Nat) : State :=
  let pwr := max (signed 8 (s.fld F.CAD_PWR_CFG_DL_PWR_MIN)) (min (signed 8 (s.fld F.CAD_PWR_CFG_DL_PWR_MAX)) (wantedPower s n p rssi snr bw))
  pSet (pSet s p 124 2 (unsigned 16 (pathLoss s n p rssi snr))) p 123 1 (unsigned 8 pwr)

/-! ### Adaptation (R407–R409) -/

/-- An SNR written into the history (R407). -/
def noteSnr (s : State) (p snr : Nat) : State :=
  let next := pBits s p 120 4 3
  pSet (pSet s p (112 + next) 1 snr) p 120 1 (min 8 (pBits s p 120 0 4 + 1) + 16 * ((next + 1) % 8))

/-- S_ref in 0.25 dB: the second-lowest of the eight values. -/
def snrRef (s : State) (p : Nat) : Int :=
  let vs := sortBy (fun (a b : Int) => a ≤ b) ((List.range 8).map (fun i => pSigned s p (112 + i)))
  (vs.drop 1).headD 0

/-- The decision of R408: spreading order and power. Margins are in 0.25 dB. -/
def adaptChoice (s : State) (p : Nat) : Nat × Int :=
  let soMin := pGet s p 16 1
  let soMax := pGet s p 17 1
  let pwrMax := pSigned s p 18
  let s0 := pSf s p
  let p0 := pSigned s p 122
  let t : Int := s.fld F.CAD_ADAPT_CFG_TARGET
  let h : Int := s.fld F.CAD_ADAPT_CFG_HYST
  let ref := snrRef s p
  let margin (sf : Nat) (pw : Int) : Int := ref + 4 * (pw - p0) + 18 + 10 * ((sf : Int) - 6)
  let s1 := ((List.range (soMax + 1 - soMin)).map (· + soMin)).find? (fun sf =>
    (if sf < s0 then t + h else t) ≤ margin sf pwrMax)
  let s1 := s1.getD soMax
  let lo := min pwrMax (max (signed 8 (s.fld F.CAD_PWR_CFG_PWR_MIN)) (pwrMax - 30))
  let p1 := (((List.range (pwrMax - lo + 1).toNat).map (fun (i : Nat) => lo + (i : Int))).find? (fun pw => t ≤ margin s1 pw)).getD pwrMax
  (s1, if s1 = s0 && p1 < p0 && 4 * (p0 - p1) < h && p0 ≤ pwrMax then p0 else p1)

/-- Whether PE12 decides after a NEW frame (R408). -/
def adaptDue (s : State) (p : Nat) : Bool :=
  let kind := if pRelayed s p || pClass s p = 1 then pSess s p else pLink s p = 1
  s.flag F.CAD_CTRL_ADAPT_EN && pBits s p 120 0 4 == 8 && adaptState s p == 0 && kind
    && s.fld F.CAD_ADAPT_CFG_HOLD_S ≤ (s.now.sec + 2 ^ 32 - pGet s p 128 4) % 2 ^ 32

/-- A decision carried out, with its count and event. -/
def adaptNote (s : State) (p sf : Nat) (pwr : Int) : State :=
  (s.count F.CAD_ADAPT_CHANGES_COUNT 1).event 0x1E 0 0x0B02 0
    (leBytes 4 p ++ leBytes 1 (pSf s p) ++ leBytes 1 sf ++ leBytes 1 (pGet s p 122 1) ++ leBytes 1 (unsigned 8 pwr))

/-- UP_BYTES and DL_BYTES that a node's entries are sized for (R339): those of its JOIN_REQ, or, for one that joined before BOOT, the
largest that its entries hold. `x` is the mode of its entries. -/
def nodeSizes (s : State) (p : Nat) (x : Fit) : Nat × Nat :=
  match Tbl.get (fun _ => 0) s.mac.sizes p with
  | k + 1 => (k % 256, k / 256)
  | 0 =>
    let most (type : Nat) (need : Nat → Nat) : Nat :=
      match nodeEntry s p type with
      | some e => ((List.range (246 - macBytes x.micLen)).reverse.find? (fun l => need l ≤ eLen (entryW0 s e))).getD 0
      | none => 0
    (most (if pClass s p = 2 then 2 else 0) (fun l => slotTicks x l (s.fld F.MAC_JOIN_CFG_RESP_BYTES)), most 1 (fun l => slotTicks x l 0))

/-- New entries of a node at a spreading order, at the places PE13 has chosen (R339, R409): none where they cannot stand. -/
def newEntries (s : State) (p sf : Nat) (places : List (Nat × Nat × Nat)) : Option (List (Nat × Nat)) :=
  match carrierOf s p with
  | some e =>
    let w0 := entryW0 s ((nodeEntry s p 0).getD e)
    let x : Fit :=
      { sf := sf, bw := (nodeBand s p).2, offset := (nodeBand s p).1, pre := pGet s p 93 1, base := pGet s p 62 2, ppm := pGet s p 60 1, micLen := pMicLen s p,
        gap := pGet s p 61 1, period := ppPeriod (ePp w0), up := 0, dl := 0 }
    let k := nodeSizes s p { x with sf := 6 + eSfc w0 }
    placeNode s (eLane w0) p { x with up := k.1, dl := k.2 } places
  | none => none

/-- A change of spreading order to `sf` goes to node `p` as a SLOT_ASSIGN of the entries `ws`, and the power `pwr` after it (R364, R409). -/
def adaptAssign (s : State) (p sf : Nat) (pwr : Int) (ws : List (Nat × Nat)) : State :=
  let s := adaptNote s p sf pwr
  let r := pickIndices s (takenEntries s) ws
  let after := if pwr = pSigned s p 122 then s.cad.after else Tbl.ins p (unsigned 8 pwr) (Tbl.erase p s.cad.after)
  let s := { r.2 with
    mac := { r.2.mac with assigns := r.2.mac.assigns.filter (fun a => a.1 != p) ++ [(p, r.1)] }, cad := { r.2.cad with after := after } }
  genMessage (setAdaptState (pSet s p 127 1 sf) p 1) p ([0x10#8] ++ leBytes 1 ws.length ++ ws.flatMap (fun w => leBytes 4 w.1 ++ leBytes 4 w.2))

/-- The adaptation of a node after a NEW frame (R408, R409). -/
def adapt (s : State) (p : Nat) (places : List (Nat × Nat × Nat)) : State :=
  if !adaptDue s p then s
  else
    let c := adaptChoice s p
    let s0 := pSf s p
    let p0 := pSigned s p 122
    if c.1 = s0 && c.2 = p0 then s
    else if (nodeEntries s p).isEmpty then
      if c.1 != s0 && pendingOver s p 0 (fun _ => exchangeLenMax s p c.1) then adaptDefer s p c.1 2
      else rateSet (adaptNote s p c.1 c.2) p c.2 c.1
    else if c.1 = s0 then rateSet (adaptNote s p c.1 c.2) p c.2 (if pRelayed s p then c.1 else 0)
    else
      match newEntries s p c.1 places with
      | none => adaptDefer s p c.1 1
      | some ws =>
        if (carrierWord ws).any (pendingExceeds s p 0) then adaptDefer s p c.1 2 else adaptAssign s p c.1 c.2 ws

/-! ### Delivery (R400, R451, R453) -/

/-- The reception block of a delivered frame (R451). -/
def receptionBlock (f : RxFrame) (gap : Nat) (newSession : Bool) : List Byte :=
  let r := f.info
  let ofdm := r.mode != 0
  let hops := match f.relay with
    | some (path, _, _) => path.length
    | none => 0
  leBytes 1 (r.lane + 4 * (r.subch % 8) + 32 * b01 r.alt + 64 * b01 r.blanked + 128 * b01 newSession)
    ++ leBytes 1 (r.sf % 16 + 16 * (r.bw % 4) + 64 * (r.mode % 4))
    ++ leBytes 2 (r.length % 2048 + 2048 * (r.rate % 4) + 8192 * (hops % 8))
    ++ leBytes 1 (r.ctx % 64) ++ leBytes 1 r.snr ++ leBytes 2 r.rssi ++ leBytes 3 r.foff ++ leBytes 1 0 ++ leBytes 2 r.rateErr
    ++ leBytes 2 (min gap 0xFFFF) ++ leBytes 4 (fParcel f.bytes) ++ leBytes 4 (fFcnt f.bytes) ++ stampOf r.ts r.stepGen
    ++ (if ofdm then (match r.tsT with
          | some (t, g) => stampOf t g
          | none => List.replicate 12 0#8) ++ leBytes 2 (r.mapType % 2 + 2 * (r.sel % 4096) + 8192 * (r.gen % 8)) ++ leBytes 1 (r.quiet % 4)
          ++ leBytes 1 r.meanSnr ++ leBytes 2 (r.nsym % 1024 + 1024 * (r.iter % 32))
        else List.replicate 18 0#8)
    ++ List.replicate 10 0#8

/-- A NEW frame of TYPE DATA goes to its uplink queue: the header and the body in plain form (R400, R453). -/
def deliverUp (s : State) (f : RxFrame) (gap : Nat) (newSession : Bool) : State :=
  let q := (s.fld F.FAB_UPLINK_CFG_UPQ_BASE + fParcel f.bytes % 2 ^ s.fld F.FAB_UPLINK_CFG_HASH_LOG2) % 4096
  (enqueue s q { Item.blank with
    hasMeta := true, ts := stampOf f.info.ts f.info.stepGen, src := f.info.lane,
    bytes := receptionBlock f gap newSession ++ f.bytes.take 10 ++ f.body } true).2

/-- The acknowledgement that a frame asks for is owed (R345). -/
def oweAck (s : State) (a : Owed) : State :=
  let n := a.info.lane
  s.setLane n { s.lane n with owed := (s.lane n).owed ++ [a] }

/-- The visible effects of an uplink that the bow has acknowledged (R634). -/
def releaseUp (s : State) (h : HeldUp) : State :=
  let s := if fType h.frame.bytes = 1 && h.deliver then deliverUp s h.frame h.gap h.newSession else s
  match h.owed with
  | some a => oweAck s a
  | none => s

/-! ### The verdict (R397–R401) -/

/-- A frame that carries relay units between the device and repeater `p` (R413). -/
def carrier (s : State) (p : Nat) (f : RxFrame) : Bool := f.relay.isNone && fRelay f.bytes && pClass s p == 2

/-- The device answers frames of node `p` on lane `n` now: not inside the occurrence of another (R335, R345). -/
def ackable (s : State) (n p : Nat) : Bool :=
  match (s.lane n).occ with
  | none => true
  | some o =>
    if eType o.w0 = 3 then eKind o.w1 == 2 || eKind o.w1 == 3 || eKind o.w1 == 4 else eOwner o.w1 == p

/-- The acknowledgement owed for a frame (R344, R345, R351). -/
def ackFor (s : State) (n p : Nat) (f : RxFrame) (place : Option (Bool × Int)) : Option Owed :=
  if !fAckReq f.bytes || f.relay.isSome || !ackable s n p then none
  else
    let hit := match place with
      | some (h, _) => h
      | none => false
    let tcorr := match place with
      | some (_, off) => unsigned 16 (tcorrOf off)
      | none => 0
    let carried := match (s.lane n).occ with
      | some o => hit && (if eType o.w0 = 2 then o.fpend else carrierOf s p == some o.entry)
      | none => false
    some { info := f.info, channel := f.channel, parcel := p, tcorr := tcorr, fcntLo := fFcnt f.bytes % 256, carried := carried }

/-- An acknowledgement in a frame is in time (R347): within ±LATE_MAX_US of its nominal sync instant, or a hit in a PEER exchange. -/
def ackInTime (s : State) (p : Nat) (f : RxFrame) (hit : Bool) : Bool :=
  match headDl s p with
  | some (_, d) =>
    if f.relay.isSome || d.endAt = 0 || fieldAt f.body 2 1 != d.fcnt % 256 || (pClass s p = 2 && hit) then true
    else within f (d.endAt + pGet s p 61 1 * 1000000 + pGet s p 93 1 * symUs f.info.sf f.info.bw * 1000) (s.fld F.MAC_ACK_CFG_LATE_MAX_US)
  | none => true

/-- What a NEW or DUPLICATE frame shows of its slot and link: history, hit or not, and the next frame of a PEER exchange. -/
def slotShown (s : State) (n p : Nat) (f : RxFrame) (place : Option (Bool × Int)) (owed : Bool) : State :=
  let s := noteSnr s p (linkQuality f).1
  match place with
  | none => s
  | some (false, _) => s.count F.MAC_OUT_OF_WINDOW_COUNT 1
  | some (true, off) =>
    let s := slotHit s n p f off
    let s := downPower s n p (signed 16 f.info.rssi) (signed 8 f.info.snr) f.info.bw
    match (s.lane n).occ with
    | some o =>
      let next := if eType o.w0 = 2 && o.fpend && !owed then endNs f.info + pGet s p 61 1 * 1000000 else 0
      s.setLane n { s.lane n with occ := some { o with next := next } }
    | none => s

/-- Routes and links as a NEW frame shows them (R410, R415, R416). -/
def routeShown (s : State) (n p : Nat) (f : RxFrame) : State :=
  let q := linkQuality f
  match f.relay with
  | some (path, snr, rssi) =>
    linkSeen (routeUpdate (downPower s n p (-16 * (rssi : Int)) (signed 8 snr) f.info.bw) p path) p path.length q.1 q.2
  | none => linkSeen (routeDirect s p) p 0 q.1 q.2

/-- A NEW frame (R398–R401): its parcel, its acknowledgement field, its consumer. -/
def newFrame (s : State) (n p : Nat) (f : RxFrame) (gap top map : Nat) (places : List (Nat × Nat × Nat)) : State :=
  let s := (s.count F.CAD_UP_NEW_COUNT 1).count F.CAD_UP_LOST_COUNT gap
  let s := pCount (pSet (pSet s p 64 4 top) p 68 4 map) p 232 4 gap
  let place := slotPlace s n p f
  let hit := match place with
    | some (h, _) => h
    | none => false
  let owed := ackFor s n p f place
  let s := routeShown (slotShown s n p f place owed.isSome) n p f
  let s := match bcnAge f with
    | some a => if f.relay.isNone && !carrier s p f then pSet s p 89 1 a else s
    | none => s
  let s := if (fType f.bytes = 2 || fAckf f.bytes) && 3 ≤ f.body.length && ackInTime s p f hit then
      s.setLane n { s.lane n with acked := (s.lane n).acked ++ [(p, fieldAt f.body 2 1, endNs f.info)] }
    else s
  let units := carrier s p f
  let data := fType f.bytes = 1 && !units
  let s := if data then pCount (pSet s p 96 4 s.now.sec) p 228 4 1 else s
  let s := adapt s p places
  let newSession := f.check == .pending
  let h : HeldUp := { mseq := 0, frame := f, gap := gap, newSession := newSession, deliver := data, owed := owed }
  let s := if s.ready && role s == 1 && link s == 3 then
      let t := mirrorFlush s
      t.setRed { t.red with held := t.red.held ++ [{ h with mseq := (t.red.txNext + 2 ^ 32 - 1) % 2 ^ 32 }] }
    else releaseUp s h
  let s := if fType f.bytes = 3 || fType f.bytes = 7 then
      s.setLane n { s.lane n with rx := (s.lane n).rx ++ [{ f with stage := 1, body := if fAckf f.bytes then f.body.drop 3 else f.body }] }
    else s
  if units then unpack s n p f (f.body.drop (if fAckf f.bytes then 3 else 0)) else s

/-- The frame verified under the key of the session that is pending now, or current now. -/
def ofPending (s : State) (p : Nat) (f : RxFrame) : Bool := f.check == .pending && pPend s p && f.epoch == pendEpoch s p
def ofCurrent (s : State) (p : Nat) (f : RxFrame) : Bool :=
  (f.check == .current || f.check == .pending) && pSess s p && f.epoch == sessEpoch s p

/-- A frame that is to have a verdict of R397. -/
def awaitsVerdict (f : RxFrame) : Bool := f.stage == 0 && 10 ≤ f.bytes.length && fType f.bytes != 0 && fType f.bytes != 4

/-- No frame of the same parcel with an earlier sync-word time stamp still awaits its verdict, on any lane (R8, R397). -/
def verdictTurn (s : State) (f : RxFrame) : Bool :=
  (List.range 4).all (fun n => (s.lane n).rx.all (fun x =>
    !awaitsVerdict x || fParcel x.bytes != fParcel f.bytes || fRouter x.bytes != fRouter f.bytes || f.info.ts.toNs ≤ x.info.ts.toNs))

/-- A verified frame meets its checks in their order (R397). A frame counts as verified only while the session whose key verified it is
the current one, or the pending one, which it then promotes (R396). -/
def uplinkVerdict (s : State) (n : Nat) (places : List (Nat × Nat × Nat)) : State :=
  match takeFrame s n (fun f => awaitsVerdict f && f.check != .waiting && verdictTurn s f) with
  | none => s
  | some (f, s) =>
    let p := fParcel f.bytes
    let f := if ofPending s p f || f.check != .pending then f else { f with check := .current }
    if asBow s then s
    else if fRouter f.bytes != s.fld F.MAC_ROUTER_ID_ID then s.count F.CAD_FOREIGN_COUNT 1
    else if !pInUse s p then setCause (s.count F.CAD_UNKNOWN_COUNT 1) 0x1E 0
    else if !ofCurrent s p f && !ofPending s p f then setCause (s.count F.CAD_MIC_FAIL_COUNT 1) 0x1E 1
    else
      let s := if ofPending s p f then promote s p else s
      match judgeCounter (pGet s p 64 4) (pGet s p 68 4) (fFcnt f.bytes) with
      | .new gap top map => newFrame s n p f gap top map places
      | .duplicate =>
        let s := pCount (s.count F.CAD_DUPLICATES_COUNT 1) p 236 2 1
        let place := slotPlace s n p f
        let owed := ackFor s n p f place
        let s := slotShown s n p f place owed.isSome
        match owed with
        | some a => oweAck s a
        | none => s
      | .late => counterRefused s p (fFcnt f.bytes) 1
      | .replay => counterRefused s p (fFcnt f.bytes) 2

/-- UPLINK_VERDICT. Uplinks wait without a verdict during HOLD (R635). -/
def execUplinkVerdict (lane : Lane) (places : List (Fin 256 × Fin 8192 × Fin 128)) (s : State) : Result :=
  .next (if s.engaged && !holding s then
      uplinkVerdict s lane (places.map (fun e => (e.1.val, e.2.1.val, e.2.2.val)))
    else s)

/-! ### Child reports (R419) -/

/-- A CHILD_REPORT of repeater `q`. -/
def childReport (s : State) (q : Nat) (body : List Byte) : State :=
  (List.range (fieldAt body 1 1)).foldl (fun (t : State) i =>
    let w := fieldAt body (2 + 4 * i) 4
    let p := bitsOf w 0 18
    if !pInUse t p || !pRelayed t p || pParent t p != q then t
    else
      let old := pGet t p 20 4
      let t := pSet t p 20 4 (old - 2 ^ 18 * bitsOf old 18 3 + 2 ^ 18 * bitsOf w 18 3)
      if bit w 21 then childLost t q p else t) s

/-- CHILD_REPORT_RX: one whose sender is not of CLASS 2, or whose count does not fit its body, is discarded. -/
def execChildReportRx (lane : Lane) (s : State) : Result :=
  .next (if !s.engaged || holding s then s
    else
      match takeMessage s lane 0x30 with
      | none => s
      | some (f, s) =>
        let p := fParcel f.bytes
        let k := fieldAt f.body 1 1
        if pInUse s p && pClass s p = 2 && 1 ≤ k && k ≤ 32 && f.body.length = 2 + 4 * k then childReport s p f.body else s)

end Sys2Proof.Machine
end

