-- ==== Sys2Proof/Machine/Nodes.lean ====
section
/-!
DEFINITION. Sys2Proof/Machine/Nodes.lean: the commands that add, remove and read nodes, enqueue downlinks, send wake telegrams,
calibrate channels, and work on queues (R137–R147, R390, R391).
-/
namespace Sys2Proof.Machine

/-- A node command: NODE_ADD, NODE_REMOVE, NODE_READ, DL_SEND. -/
def nodeOp (op : Nat) : Bool := op == 0x0101 || op == 0x0102 || op == 0x0103 || op == 0x0104

/-- PE12 performs node commands in the order in which they were taken over all sources (R138). -/
def nodeTurn (s : State) (c : Cmd) : Bool :=
  (allCmds s).all (fun x => x.done || x.began || !nodeOp (descOpcode x.desc) || c.order ≤ x.order)

/-- PARCEL of a node command. -/
def cmdParcel (c : Cmd) : Nat := fieldAt c.desc 16 4

/-- The lowest number that a list leaves out. -/
def lowestFree (l : List Nat) : Nat → Nat → Nat
  | 0, n => n
  | fuel + 1, n => if l.contains n then lowestFree l fuel (n + 1) else n

/-- The first number from `n` on that a rising list leaves out. -/
def firstGap : List Nat → Nat → Nat
  | [], n => n
  | p :: t, n => if p = n then firstGap t (n + 1) else n

/-- The lowest-numbered parcel not in use (R390). -/
def freeParcelIndex (s : State) : Nat := firstGap (usedParcels s) 0

/-- The peer indices in use. -/
def peersInUse (s : State) : List Nat := ((usedParcels s).filter (pPeerValid s)).map (pPeer s)

/-- The cause of a NO_RESOURCE of NODE_ADD for a class, 0 if there is none (R137). -/
def addFull (s : State) (cls : Nat) : Nat :=
  if parcelCount ≤ freeParcelIndex s then 1
  else if cls = 1 && 65536 ≤ ((usedParcels s).filter (fun p => pClass s p == 1)).length then 2
  else if cls = 2 && 4096 ≤ (peersInUse s).length then 3
  else 0

/-- The bytes of a new parcel (R390). -/
def newParcel (s : State) (d : List Byte) : List Byte :=
  let cls := fieldAt d 24 1
  let peer := if cls = 2 then lowestFree (peersInUse s) 4096 0 + 2 ^ 15 else 0
  slice d 16 8 ++ leBytes 1 (cls + 4) ++ [0#8] ++ slice d 26 2 ++ slice d 28 4 ++ slice d 32 3 ++ [0#8] ++ leBytes 4 0 ++ leBytes 2 peer
    ++ leBytes 2 0 ++ leBytes 4 s.now.sec ++ List.replicate 89 0#8 ++ slice d 33 1 ++ slice d 34 1
    ++ leBytes 1 (s.fld F.CAD_PWR_CFG_DL_PWR_MAX) ++ [0#8, 0#8]
    ++ leBytes 1 (if cls = 2 && s.flag F.CAD_CTRL_PEER_OFDM then 4 else 0) ++ List.replicate 129 0#8

/-- NODE_ADD (R137, R390). Its checks were made when the descriptor was taken and are not made again (R124); a parcel or a peer index that
is no longer there cannot be given, and then the cause is that of R137 (log entry 137). -/
def nodeAdd (s : State) (id : CmdId) : State :=
  match starting s id 0x0101 with
  | none => s
  | some c =>
    if !nodeTurn s c || holding s then s
    else
      match addFull s (fieldAt c.desc 24 1) with
      | 0 | 2 =>
        let p := freeParcelIndex s
        finish ((commitCmd s id).ramStore (256 * p) (newParcel s c.desc)) id 0x00 (leBytes 4 p)
      | why => finish s id 0x12 (leBytes 1 why)

/-- NODE_ADD. -/
def execNodeAdd (id : CmdId) (s : State) : Result := .next (if s.engaged then nodeAdd s id else s)

/-- What the device keeps of a node beside its parcel is forgotten. -/
def forgetNode (s : State) (p : Nat) : State :=
  { s with
    mac := { s.mac with
      joins := s.mac.joins.filter (fun j => j.parcel != p), joining := s.mac.joining.filter (· != p),
      bands := Tbl.erase p s.mac.bands, sizes := Tbl.erase p s.mac.sizes, synced := Tbl.erase p s.mac.synced,
      woken := Tbl.erase p s.mac.woken },
    cad := { s.cad with ended := s.cad.ended.filter (fun e => e.1 != p) },
    upd := { s.upd with retry := s.upd.retry.filter (· != p) } }

/-- A peer index is freed: its route record cleared, its retiring map and its measurement dropped (R391). -/
def freePeer (s : State) (i : Nat) : State :=
  let s := (retire s i).ramStore (routeAt i) (List.replicate 80 0#8)
  let s := match measLane s i with
    | some n => freeMeas s n i
    | none => s
  { s with cad := { s.cad with bads := Tbl.erase i s.cad.bads, snrs := Tbl.erase i s.cad.snrs, heard := Tbl.erase i s.cad.heard,
                               unknownAt := Tbl.erase i s.cad.unknownAt, issuedAt := Tbl.erase i s.cad.issuedAt } }

/-- Steps 1 to 5 of R391: a node leaves, and its parcel is written 0. -/
def freeParcel (s : State) (p : Nat) : State :=
  let s := (dropAll s p).2
  let s := dropAssign (emptyNode s p) p
  let s := setUstate s p 6
  let s := if pClass s p = 2 then
      let s := childrenLost s p 5
      if pPeerValid s p then freePeer s (pPeer s p) else s
    else s
  let parent := if pRelayed s p then some (pParent s p) else none
  let s := match parent with
    | some q => childClear s q p
    | none => s
  let s := (forgetNode s p).ramStore (256 * p) (List.replicate 256 0#8)
  match parent with
  | some q => countChildren s q
  | none => s

/-- NODE_REMOVE (R138, R391). -/
def nodeRemove (s : State) (id : CmdId) : State :=
  match starting s id 0x0102 with
  | none => s
  | some c =>
    if !nodeTurn s c || holding s then s
    else if !pInUse s (cmdParcel c) then finish s id 0x11 (leBytes 2 16)
    else finish (freeParcel (commitCmd s id) (cmdParcel c)) id 0x00 []

/-- NODE_REMOVE. -/
def execNodeRemove (id : CmdId) (s : State) : Result := .next (if s.engaged then nodeRemove s id else s)

/-- The 13 parts of a NODE_READ (R139): parcel bytes 20k to 20k + 19 from record byte 12 on. -/
def nodeParts (bs : List Byte) : List Part :=
  (List.range 13).map (fun k =>
    { status := 0, result0 := fieldAt bs (20 * k) 4, result := slice bs (20 * k + 4) 16 })

/-- NODE_READ (R139). -/
def nodeRead (s : State) (id : CmdId) : State :=
  match starting s id 0x0103 with
  | none => s
  | some c =>
    if !nodeTurn s c then s
    else if !pInUse s (cmdParcel c) then finish s id 0x11 (leBytes 2 16)
    else finishCmd s id (nodeParts (s.ramBytes (256 * cmdParcel c) 256))

/-- NODE_READ. -/
def execNodeRead (id : CmdId) (s : State) : Result := .next (if s.engaged then nodeRead s id else s)

/-- The mailbox entry of a DL_SEND (R140, R406). -/
def dlEntry (d : List Byte) : Mbx :=
  { buf := 0, kind := 0, ackReq := bit (fieldAt d 20 1) 1, mode1 := bit (fieldAt d 20 1) 0, cls := fieldAt d 22 1 % 4, enc := false,
    len := 0, retries := fieldAt d 21 1 % 8, attempts := 0, late := false }

/-- DL_SEND (R138, R140–R142, R448). -/
def dlSend (s : State) (id : CmdId) : State :=
  match starting s id 0x0104 with
  | none => s
  | some c =>
    let p := cmdParcel c
    let m := dlEntry c.desc
    if !nodeTurn s c || holding s then s
    else if !pInUse s p then finish s id 0x11 (leBytes 2 16)
    else
      match c.data with
      | none => s
      | some payload =>
        if 8 ≤ mbxCount s p then finish s id 0x12 []
        else
          let d := { Dl.blank with
            cmd := if m.mode1 then none else some id, tag := if m.mode1 then some (id, descTag c.desc) else none, payload := payload }
          match enterMailbox s p m d with
          | none => finish s id 0x12 (leBytes 1 4)
          | some (place, s) =>
            let s := if m.mode1 then finish s id 0x01 (leBytes 1 place) else beginCmd s id
            placeRelay s p

/-- DL_SEND. -/
def execDlSend (id : CmdId) (s : State) : Result := .next (if s.ready then dlSend s id else s)

/-- WAKE_SEND (R143): the exchange waits for lane time; a lane carries one exchange at a time. -/
def wakeSend (s : State) (id : CmdId) : State :=
  match starting s id 0x0105 with
  | none => s
  | some c =>
    let n := fieldAt c.desc 21 1 % 4
    if (wakeOf s n).any (fun w => w.stage != 4) then s
    else
      putWake (beginCmd s id) n
        { cmd := some id, parcel := none, addr := fieldAt c.desc 16 4, code := fieldAt c.desc 20 1, expect := bit (fieldAt c.desc 22 1) 1,
          retries := fieldAt c.desc 23 1 % 8, attempt := 0, stage := 0, start := 0, fpend := false }

/-- WAKE_SEND. -/
def execWakeSend (id : CmdId) (s : State) : Result := .next (if s.ready then wakeSend s id else s)

/-- LANE_CAL (R144, R205, R206). -/
def laneCal (s : State) (id : CmdId) : State :=
  match starting s id 0x0106 with
  | none => s
  | some c =>
    let n := fieldAt c.desc 16 1 % 4
    if (s.lane n).job.isSome then finish s id 0x21 []
    else if laneState s n = 0 then finish s id 0x50 (leBytes 2 0 ++ leBytes 2 0 ++ leBytes 2 0xFFFF)
    else
      let s := beginCmd s id
      showJob (s.setLane n { s.lane n with
        job := some { id := id, next := fieldAt c.desc 18 2, remaining := fieldAt c.desc 20 2, done := 0, failed := 0, firstFailed := none,
                      blanked := laneState s n == 6 } }) n

/-- LANE_CAL. -/
def execLaneCal (id : CmdId) (s : State) : Result := .next (if s.engaged then laneCal s id else s)

/-- FRAME_INJECT (R145, R450, R453). -/
def frameInject (s : State) (id : CmdId) : State :=
  match starting s id 0x0201 with
  | none => s
  | some c =>
    match c.data with
    | none => s
    | some bytes =>
      let q := fieldAt c.desc 16 2 % 4096
      let r := enqueue s q { Item.blank with
        appendFcs := bit (fieldAt c.desc 20 1) 0, ptpOneStep := bit (fieldAt c.desc 20 1) 1, ts := stampNow s, src := 0x20 + id.src.val,
        aux := fieldAt c.desc 4 4, bytes := bytes, inject := some id } false
      if r.1 then finish r.2 id 0x00 (leBytes 4 (r.2.queue q).depthNow) else finish r.2 id 0x12 []

/-- FRAME_INJECT. -/
def execFrameInject (id : CmdId) (s : State) : Result := .next (if s.engaged then frameInject s id else s)

/-- QUEUE_FLUSH (R463). -/
def queueFlush (s : State) (id : CmdId) : State :=
  match starting s id 0x0202 with
  | none => s
  | some c =>
    let r := flushQueue s (fieldAt c.desc 16 2 % 4096)
    finish r.2 id 0x00 (leBytes 4 r.1)

/-- QUEUE_FLUSH. -/
def execQueueFlush (id : CmdId) (s : State) : Result := .next (if s.engaged then queueFlush s id else s)

/-- QUEUE_BREAK_ACK (R147). -/
def queueBreakAck (s : State) (id : CmdId) : State :=
  match starting s id 0x0203 with
  | none => s
  | some c =>
    let q := fieldAt c.desc 16 2 % 4096
    let s := if bit (fieldAt c.desc 18 1) 0 then s.setQueue q { s.queue q with cfg := (s.queue q).cfg ||| 0x40000000#32 } else s
    let r := ackBreak s q
    match r.1 with
    | some (f, l) => finish r.2 id 0x00 (leBytes 4 1 ++ leBytes 4 f ++ leBytes 4 l)
    | none => finish r.2 id 0x00 []

/-- QUEUE_BREAK_ACK. -/
def execQueueBreakAck (id : CmdId) (s : State) : Result := .next (if s.engaged then queueBreakAck s id else s)

end Sys2Proof.Machine
end

