-- ==== Sys2Proof/Machine/Margin.lean ====
section
/-!
DEFINITION. Sys2Proof/Machine/Margin.lean: the Margin Manager: monitors, plans, emergency steps, regulator control, the ageing
record (21_margin_manager.md).
-/
namespace Sys2Proof.Machine

def State.setMgm (s : State) (m : Margin) : State := { s with mgm := m }

/-- A signed field. -/
def State.sfld (s : State) (f : Fld) : Int := signed f.width (s.fld f)

/-- The Margin Manager runs: not in WATCH, nor while no register answers (R666). -/
def mgmRuns (s : State) : Bool := s.booting || s.inOperation

/-- `CTRL.ACT` as it acts: 0 PMBUS, 1 VID, 2 NONE; NONE during an AVS fault (R679). -/
def mgmAct (s : State) : Nat := if s.flag F.MGM_STATUS_AVS_FAULT then 2 else s.fld F.MGM_CTRL_ACT

/-! ### Margins (R662) -/

/-- M_w in mV. -/
def pathMargin (s : State) : Int := s.sfld F.MGM_MARGINS_PATH_MV

/-- A replica has been read since the entry to BOOT. -/
def pathsValid (s : State) : Bool := (List.range 32).any (fun i => s.flag (F.MGM_PATH_VALID i))

/-- m(V, f) in µV, with f before spreading: SSC_EN is not looked at (R701). -/
def marginAt (s : State) (mv mhz : Nat) : Int :=
  pathMargin s * 1000 + ((mv : Int) - s.mgm.vNow) * 1000 - (Config.fusedKf.toNat : Int) * ((mhz : Int) - s.mgm.fNow)

/-- The VID levels in mV, code 0 first (R678). -/
def vidLevels : List Nat := [880, 840, 800, 780, 750, 730, 700, 680]

/-- The lowest voltage of the regulator's grid at or above `uv` µV: 5 mV steps, or the VID table (R668). -/
def roundUp (act : Nat) (uv : Int) : Nat :=
  let found : Option Nat := vidLevels.reverse.find? (fun (l : Nat) => decide (uv ≤ Int.ofNat l * 1000))
  if act = 1 then found.getD 100000
  else 5 * ceilDiv uv.toNat 5000

/-- The voltage a clock needs (R668). -/
def planVolt (s : State) (mhz : Nat) : Nat :=
  if mgmAct s = 2 then s.mgm.vNow
  else
    max (roundUp (mgmAct s) (((s.mgm.vNow : Int) + s.fld F.MGM_MARGIN_CFG_TARGET_MV) * 1000 - marginAt s s.mgm.vNow mhz))
      (s.fld F.MGM_VBOUND_V_MIN_MV)

/-- The loop of R668 from clock `mhz` downward, in steps of 25 MHz: clock, voltage, and whether the target is met. -/
def planLoop (s : State) : Nat → Nat → Nat × Nat × Bool
  | 0, _ => (s.fld F.MGM_CBOUND_CLK_MIN_MHZ, if mgmAct s = 2 then s.mgm.vNow else s.fld F.MGM_VBOUND_V_MAX_MV, false)
  | fuel + 1, mhz =>
    if mhz < s.fld F.MGM_CBOUND_CLK_MIN_MHZ then planLoop s 0 mhz
    else
      let v := planVolt s mhz
      if v ≤ s.fld F.MGM_VBOUND_V_MAX_MV && (s.fld F.MGM_MARGIN_CFG_TARGET_MV : Int) * 1000 ≤ marginAt s v mhz then (mhz, v, true)
      else planLoop s fuel (mhz - 25)

/-- The pair that a plan chooses (R668), its f before spreading (R701). -/
def planPair (s : State) : Nat × Nat × Bool :=
  planLoop s 9 (if s.flag F.MGM_CTRL_POLICY then s.fld F.MGM_CBOUND_CLK_MIN_MHZ else s.fld F.MGM_CBOUND_CLK_MAX_MHZ)

/-- The MARGIN_LOW event (R668, R675). -/
def marginLow (s : State) (kind : Nat) : State :=
  s.event 0x33 0 0x1502 (if kind = 2 then 4 else 3) (leBytes 1 kind ++ leBytes 2 (unsigned 16 (pathMargin s)))

/-! ### Voltage (R677, R678) -/

/-- LINEAR16 mantissa of a voltage, rounded up (R677). -/
def linear16 (s : State) (mv : Nat) : Nat :=
  let e := s.sfld F.MGM_PMBUS_CFG_EXP
  if e < 0 then ceilDiv (mv * 2 ^ e.natAbs) 1000 else ceilDiv mv (1000 * 2 ^ e.natAbs)

/-- Millivolts of a LINEAR16 mantissa times 2^16, exactly for the exponents −16 to 15. -/
def linear16Mv (s : State) (w : Nat) : Nat :=
  let e := s.sfld F.MGM_PMBUS_CFG_EXP
  if e < 0 then w * 1000 * 2 ^ (16 - e.natAbs) else w * 1000 * 2 ^ (16 + e.natAbs)

/-- One PMBus transaction asked for. -/
def pmbus (s : State) (command data : Nat) : State :=
  s.send (.pmbus (s.fld F.MGM_PMBUS_CFG_ADDR) (s.flag F.MGM_PMBUS_CFG_PEC) command data)

/-- A voltage is set (R677, R678): it waits to be confirmed. -/
def commandVolt (s : State) (mv : Nat) : State :=
  let s := s.setMgm { s.mgm with volt := .confirming mv false, nacks := 0 }
  if mgmAct s = 1 then s.setMgm { s.mgm with vid := some ((vidLevels.findIdx? (fun l => l == mv)).getD 0) }
  else pmbus s 0x21 (linear16 s mv)

/-! ### The rest of a plan (R669–R671) -/

/-- Temperature of the DRAM die, once read. -/
def dramTemp (s : State) : Option Int := if s.flag (F.MGM_TEMP_VALID 8) then some (s.sfld (F.MGM_TEMP_DEG_C 8)) else none

/-- The refresh code (R669). -/
def refreshCode (s : State) : Nat :=
  let byTemp := match dramTemp s with
    | none => s.fld F.MGM_STATUS_REFRESH
    | some t => if t < 85 then 0 else if t < 105 then 1 else 2
  let r := s.fld F.MGM_RETENTION_MS
  let byProbe := if !s.flag F.MGM_RETENTION_VALID || 256 ≤ r then 0 else if 128 ≤ r then 1 else 2
  max byTemp byProbe

/-- The scrub period in hours (R670). -/
def scrubHours (s : State) : Nat :=
  let k := b01 ((dramTemp s).any (fun t => 85 ≤ t)) + b01 (1 ≤ refreshCode s) + b01 (64 < s.mem.lastCes || s.mem.lastPersistent)
  max (s.fld F.MGM_MAINT_BOUNDS_SCRUB_MIN_H) (min (s.fld F.MGM_MAINT_BOUNDS_SCRUB_MAX_H) (24 / 2 ^ k))

/-- A value held within bounds. -/
def clampTo (lo hi v : Nat) : Nat := max lo (min hi v)

/-- BG_INTERVAL_S and T_WINDOW of a lane (R671). -/
def lanePlan (s : State) (n : Nat) : Nat × Nat :=
  let xs := Tbl.get (fun _ => []) s.mgm.slices n
  let bg (v : Nat) := clampTo (s.fld F.MGM_BG_BOUNDS_BG_MIN_S) (s.fld F.MGM_BG_BOUNDS_BG_MAX_S) v
  let win (v : Nat) := clampTo (s.fld F.MGM_MAINT_BOUNDS_T_WIN_MIN) (s.fld F.MGM_MAINT_BOUNDS_T_WIN_MAX) v
  if !(s.lane n).refOk then (bg 600, win 15)
  else
    let now := s.fld (F.LRF_CAL_CFG_BG_INTERVAL_S n)
    let interval :=
      if xs.any (fun x => 128 < x.gain.natAbs || 500 < x.phase.natAbs) then now / 2
      else if 4 ≤ xs.length && xs.all (fun x => x.gain.natAbs < 32 && x.phase.natAbs < 125) then now * 2
      else now
    let within (k : Nat) : Bool :=
      xs.all (fun x => xs.all (fun y =>
        let dt := (x.temp - y.temp).natAbs
        dt < 5 || (x.level - y.level).natAbs * k ≤ 256 * dt))
    (bg interval, win (if within 20 then 15 else if within 10 then 10 else 5))

/-- M_ref in mV (R681). -/
def marginRef (s : State) : Int :=
  Int.fdiv (marginAt s (if mgmAct s = 2 then s.mgm.vNow else s.fld F.MGM_VBOUND_V_MAX_MV) (s.fld F.MGM_CBOUND_CLK_MIN_MHZ)) 1000

/-- A plan has been applied: refresh, scrub and calibration (R672 step 4), and what each plan writes (R667). -/
def planApplied (s : State) (w : PlanWork) : State :=
  let code := refreshCode s
  let s := s.setFld F.MGM_STATUS_REFRESH code
  let s := s.setFld F.MEM_SCRUB_CFG_PERIOD_H (scrubHours s)
  let s := (List.range 4).foldl (fun (t : State) n =>
    let c := lanePlan t n
    (t.setFld (F.LRF_CAL_CFG_BG_INTERVAL_S n) c.1).setFld (F.LRF_CAL_CFG_T_WINDOW n) c.2) s
  let s := s.setFld F.MGM_LAST_PLAN_S_SECONDS s.now.sec
  let s := setCause (s.count F.MGM_PLANS_COUNT 1) 0x33 0
  let shortest := (List.range 4).foldl (fun m n => min m (s.fld (F.LRF_CAL_CFG_BG_INTERVAL_S n))) 65535
  let p := s.mgm.period
  let temps := (List.range 12).filterMap (fun i =>
    if s.flag (F.MGM_TEMP_VALID i) then some (i, (s.sfld (F.MGM_TEMP_DEG_C i) + 256).toNat) else none)
  s.setMgm { s.mgm with
    work := none, planned := true, lowTold := false, slices := [], planTemps := temps,
    planEvent := some (leBytes 2 (s.fld F.MGM_PLAN_V_VDD_CORE_MV) ++ leBytes 2 w.mhz ++ leBytes 2 (unsigned 16 w.margin) ++ leBytes 1 code
      ++ leBytes 1 (s.fld F.MEM_SCRUB_CFG_PERIOD_H) ++ leBytes 2 shortest),
    period := { p with refs := p.refs ++ [marginRef s], refresh := max p.refresh code } }

/-- The GO bits that a plan answers complete (R48). -/
def planGoEnds (s : State) (w : PlanWork) : State := w.go.foldl (fun (t : State) b => (endGo t A.MGM_CTRL b).1) s

/-- The GO bits of `CTRL` that ask for a plan and are set. -/
def planGo (s : State) : List Nat := [8, 9].filter (fun b => bit (s.reg A.MGM_CTRL).toNat b)

/-- A plan is made (R666–R668, R674): it waits while a BIST runs, in HOLD-UP, and behind an emergency step or a plan in progress. -/
def planBegin (s : State) : State :=
  if holdUp s || s.bst.run.isSome || s.mgm.work.isSome || !pathsValid s then s.setMgm { s.mgm with planDue := true }
  else
    let c := planPair s
    let s := s.setFld F.MGM_STATUS_MARGIN_LOW (b01 (!c.2.2))
    let s := if c.2.2 then s else setCause (marginLow s 1) 0x33 2
    let w : PlanWork :=
      { emergency := false, mv := c.2.1, mhz := c.1, stage := 0, margin := Int.fdiv (marginAt s c.2.1 c.1) 1000, go := planGo s }
    (s.setFld F.MGM_STATUS_PLANNING 1).setMgm { s.mgm with work := some w, planDue := false }

/-- The clock reaches its value: the plan is in force (R672). -/
def planInForce (s : State) (w : PlanWork) : State :=
  let s := (s.setFld F.MGM_STATUS_RAMPING 0).setFld F.MGM_PLAN_V_CLK_MHZ w.mhz
  (s.setFld F.MGM_PLAN_V_VDD_CORE_MV (if mgmAct s = 2 then 0 else w.mv)).setMgm { s.mgm with work := some { w with stage := 2 } }

/-- A plan or an emergency step goes on to the next thing it must wait for (R672, R673). Where a GO bit is still set at the end of a
plan, the plan it asks for starts at once (R48). -/
def planGoesOn : Nat → State → State
  | 0, s => s
  | fuel + 1, s =>
    match s.mgm.work, s.mgm.volt with
    | some w, .none =>
      let steers := mgmAct s != 2
      match w.stage with
      | 0 =>
        if steers && s.mgm.vNow < w.mv then commandVolt s w.mv
        else planGoesOn fuel (s.setMgm { s.mgm with work := some { w with stage := 1 } })
      | 1 =>
        if s.mgm.fNow = w.mhz then planGoesOn fuel (planInForce s w) else s.setFld F.MGM_STATUS_RAMPING 1
      | _ =>
        if steers && (if w.emergency then s.mgm.vNow < w.mv else w.mv < s.mgm.vNow) then commandVolt s w.mv
        else if w.emergency then (s.setMgm { s.mgm with work := none, planDue := true }).setFld F.MGM_STATUS_PLANNING 0
        else
          let s := (planGoEnds (planApplied s w) w).setFld F.MGM_STATUS_PLANNING 0
          if (planGo s).isEmpty then s else planGoesOn fuel (planBegin s)
    | _, _ => s

/-- A plan starts and goes as far as it can at once. -/
def planStart (s : State) : State := if s.mgm.work.isSome then planBegin s else planGoesOn 8 (planBegin s)

/-- PLAN_START (R666). -/
def execPlanStart (s : State) : Result := .next (if mgmRuns s then planStart s else s)

/-- AVS_RESET written 1 (R679). -/
def avsReset (s : State) : State :=
  planStart ((s.setFld F.MGM_STATUS_AVS_FAULT 0).setMgm { s.mgm with nacks := 0, badWords := 0 })

/-- A write of the bits `mask` of `MGM.CTRL` (R48, R666, R679). -/
def mgmCtrlWrite (s : State) (src : Requester) (data mask : Word) : State :=
  let s := writeFields s src A.MGM_CTRL data mask
  let on (b : Nat) : Bool := bit data.toNat b && bit mask.toNat b
  let s := if on 9 then avsReset s else s
  if on 8 then planStart s else s

/-- PLAN_NOW_WRITE (R666): a write of `CTRL` with PLAN_NOW 1. -/
def execPlanNowWrite (src : Requester) (data : Word) (s : State) : Result :=
  .next (gateWrite s src A.MGM_CTRL (fun s => mgmCtrlWrite s src (data ||| 0x100#32) allBits))

/-- AVS_RESET_WRITE (R679): a write of `CTRL` with AVS_RESET 1. -/
def execAvsResetWrite (src : Requester) (data : Word) (s : State) : Result :=
  .next (gateWrite s src A.MGM_CTRL (fun s => mgmCtrlWrite s src (data ||| 0x200#32) allBits))

/-- CLK_RAMP_STEP (R672): one step of 25 MHz. -/
def execClkRampStep (s : State) : Result :=
  .next (match s.mgm.work with
    | some w =>
      if mgmRuns s && s.flag F.MGM_STATUS_RAMPING && w.stage = 1 then
        let f := s.mgm.fNow
        planGoesOn 8 (s.setMgm { s.mgm with fNow := if f < w.mhz then min w.mhz (f + 25) else max w.mhz (f - 25) })
      else s
    | none => s)

/-- An AVS fault (R679). -/
def avsFault (s : State) (cause : Nat) : State :=
  if s.flag F.MGM_STATUS_AVS_FAULT then s
  else
    let s := s.setFld F.MGM_STATUS_AVS_FAULT 1
    let s := recordErr s 0x33 0x80 0 0
    let s := (s.count F.MGM_AVS_ERRORS_COUNT 1).event 0x33 0 0x1503 3 (leBytes 1 cause ++ leBytes 2 (s.fld F.MGM_PMB_STATUS_WORD))
    let w : PlanWork := { emergency := true, mv := s.mgm.vNow, mhz := 800, stage := 1, margin := 0, go := [] }
    planGoesOn 8 (setCause (s.setMgm { s.mgm with work := some w, volt := .none }) 0x33 3)

/-- A voltage is confirmed: V_now (R672). -/
def voltConfirmed (s : State) (mv : Nat) : State := planGoesOn 8 (s.setMgm { s.mgm with vNow := mv, volt := .none })

/-! ### Readings (R660–R665, R673–R676) -/

/-- An emergency step (R673); it preempts a plan in progress, which is made again (R674). -/
def emergencyStep (s : State) (replica : Nat) : State :=
  let mhz := max (s.fld F.MGM_CBOUND_CLK_MIN_MHZ) (s.mgm.fNow - 50)
  let mv := if mgmAct s = 2 then s.mgm.vNow else min (s.fld F.MGM_VBOUND_V_MAX_MV) (s.mgm.vNow + 20)
  let s := s.count F.MGM_EMERGENCIES_COUNT 1
  let s := setCause (s.event 0x33 0 0x1501 3
    (leBytes 1 replica ++ leBytes 2 (unsigned 16 (pathMargin s)) ++ leBytes 2 mv ++ leBytes 2 mhz)) 0x33 1
  let w : PlanWork := { emergency := true, mv := mv, mhz := mhz, stage := 1, margin := 0, go := [] }
  planGoesOn 8 (s.setMgm { s.mgm with work := some w, volt := .none, planDue := s.mgm.planDue || s.mgm.work.isSome })

/-- What M_w calls for (R673, R675). -/
def emergencyCheck (s : State) (replica : Nat) : State :=
  if (s.fld F.MGM_MARGIN_CFG_EMERG_MV : Int) ≤ pathMargin s then s
  else if s.mgm.fNow ≤ s.fld F.MGM_CBOUND_CLK_MIN_MHZ && (mgmAct s = 2 || s.fld F.MGM_VBOUND_V_MAX_MV ≤ s.mgm.vNow) then
    if s.mgm.lowTold then s else setCause (marginLow (s.setMgm { s.mgm with lowTold := true }) 2) 0x33 2
  else if (s.mgm.work.any (fun w => w.emergency)) then s
  else emergencyStep s replica

/-- PATH_READING (R662, R673, R678). `margins`: each replica's margin in mV. -/
def pathReading (s : State) (margins : List (Nat × Int)) : State :=
  let before := pathMargin s
  let s := margins.foldl (fun (t : State) e => (t.setFld (F.MGM_PATH_MV e.1) (unsigned 16 e.2)).setFld (F.MGM_PATH_VALID e.1) 1) s
  let valid := (List.range 32).filter (fun i => s.flag (F.MGM_PATH_VALID i))
  let mv (i : Nat) : Int := s.sfld (F.MGM_PATH_MV i)
  match valid with
  | [] => s
  | i :: t =>
    let worst := t.foldl (fun w j => if mv j < mv w then j else w) i
    let s := s.setFld F.MGM_MARGINS_PATH_MV (unsigned 16 (mv worst))
    let s := match s.mgm.planEvent with
      | some bs => (s.event 0x33 0 0x1500 0 bs).setMgm { s.mgm with planEvent := none }
      | none => s
    let s := match s.mgm.volt with
      | .confirming v true =>
        if mgmAct s != 1 then s
        else if (mv worst - (before + ((v : Int) - s.mgm.vNow))).natAbs ≤ 15 then voltConfirmed s v else avsFault s 2
      | _ => s
    emergencyCheck s worst

/-- PATH_READING. -/
def execPathReading (margins : List (Fin 32 × BitVec 16)) (s : State) : Result :=
  .next (if mgmRuns s then pathReading s (margins.map (fun e => (e.1.val, e.2.toInt))) else s)

/-- TJ_MAX from the valid readings (R661). -/
def tjMax (s : State) : Option Int :=
  match (List.range 12).filter (fun i => s.flag (F.MGM_TEMP_VALID i)) with
  | [] => none
  | i :: t => some (t.foldl (fun m j => max m (s.sfld (F.MGM_TEMP_DEG_C j))) (s.sfld (F.MGM_TEMP_DEG_C i)))

/-- One temperature reading (R661, R666, R676). -/
def tempRead (s : State) (i : Nat) (deg : Int) : State :=
  let s := (s.setFld (F.MGM_TEMP_DEG_C i) (unsigned 8 deg)).setFld (F.MGM_TEMP_VALID i) 1
  let s := if 4 ≤ i && i < 8 then s.setFld (F.LRF_STATUS_TEMP (i - 4)) (unsigned 8 deg) else s
  let old := Tbl.get (fun _ => 0) s.mgm.planTemps i
  let s := if old != 0 && s.fld F.MGM_PLAN_CFG_T_TRIG < (deg - ((old : Int) - 256)).natAbs then
      s.setMgm { s.mgm with planDue := true } else s
  if (s.fld F.MGM_MARGIN_CFG_TJ_ALARM : Int) < deg then
    if s.mgm.hot.contains i then s
    else
      setCause ((s.setMgm { s.mgm with hot := s.mgm.hot ++ [i] }).event 0x33 0 0x1504 3 (leBytes 1 i ++ leBytes 1 (unsigned 8 deg))) 0x33 5
  else s.setMgm { s.mgm with hot := s.mgm.hot.filter (· != i) }

/-- TEMP_READING (R661). -/
def tempReading (s : State) (temps : List (Nat × Int)) : State :=
  let s := temps.foldl (fun (t : State) e => tempRead t e.1 e.2) s
  match tjMax s with
  | none => s
  | some t =>
    let s := s.setFld F.MGM_STATUS_TJ_MAX (unsigned 8 t)
    s.setMgm { s.mgm with period := { s.mgm.period with tj := some (match s.mgm.period.tj with
      | none => t
      | some u => max t u) } }

/-- TEMP_READING. -/
def execTempReading (temps : List (Fin 12 × BitVec 8)) (s : State) : Result :=
  .next (if mgmRuns s then tempReading s (temps.map (fun e => (e.1.val, e.2.toInt))) else s)

/-- CANARY_READING (R663). -/
def canaryReading (s : State) (margins : List (Nat × Int)) : State :=
  let s := margins.foldl (fun (t : State) e => (t.setFld (F.MGM_CANARY_MV e.1) (unsigned 16 e.2)).setFld (F.MGM_CANARY_VALID e.1) 1) s
  match (List.range 8).filter (fun i => s.flag (F.MGM_CANARY_VALID i)) with
  | [] => s
  | i :: t =>
    let worst := t.foldl (fun m j => min m (s.sfld (F.MGM_CANARY_MV j))) (s.sfld (F.MGM_CANARY_MV i))
    let s := s.setFld F.MGM_MARGINS_SRAM_MV (unsigned 16 worst)
    s.setMgm { s.mgm with period := { s.mgm.period with sram := some (match s.mgm.period.sram with
      | none => worst
      | some u => min worst u) } }

/-- CANARY_READING. -/
def execCanaryReading (margins : List (Fin 8 × BitVec 16)) (s : State) : Result :=
  .next (if mgmRuns s then canaryReading s (margins.map (fun e => (e.1.val, e.2.toInt))) else s)

/-- The end of a probe cycle: the shortest retention (R664, R669). -/
def probeCycle (s : State) : State :=
  let r (i : Nat) : Nat := Tbl.get (fun _ => 0) s.mgm.probes i
  let row := (List.range 16).foldl (fun w i => if r i < r w then i else w) 0
  let deg := s.fld (F.MGM_TEMP_DEG_C 8)
  let s := s.setReg A.MGM_RETENTION (BitVec.ofNat 32 (2 ^ 31 + deg * 2 ^ 16 + r row))
  let s := s.setMgm { s.mgm with probes := [], period := { s.mgm.period with retention := some (match s.mgm.period.retention with
    | none => r row
    | some u => min u (r row)) } }
  if r row < 64 then setCause (s.event 0x33 0 0x1506 3 (leBytes 1 row ++ leBytes 2 (r row) ++ leBytes 1 deg)) 0x33 6 else s

/-- RETENTION_PROBE_INTERVAL (R664): interval `k` is 64 × 2^k ms. The last interval of row 15 ends the cycle. -/
def execRetentionProbeInterval (row : Fin 16) (k : Fin 5) (survived : Bool) (s : State) : Result :=
  .next (if mgmRuns s then
      let old := Tbl.get (fun _ => 0) s.mgm.probes row
      let s := if survived then s.setMgm { s.mgm with probes := Tbl.put (fun _ => 0) s.mgm.probes row (max old (64 * 2 ^ k.val)) } else s
      if row.val = 15 && k.val = 4 then probeCycle s else s
    else s)

/-- The loop-back measurement of a slice (R665): its change from the last slice of the same anchor, or from the lane's reference. -/
def loopSlice (s : State) (n c : Nat) (gain phase : Int) : State :=
  if !(s.lane n).refOk then s
  else
    let key := 256 * n + c
    let ref (a : Nat) : Int := signed 16 (bitsOf (analog s n a).toNat 0 16)
    let old := match Tbl.get (fun _ => none) s.mgm.anchors key with
      | some v => v
      | none => (ref 0x510, ref 0x511)
    let dg := gain - old.1
    let dp := phase - old.2
    let s := s.setReg (A.MGM_LOOPBACK n) (BitVec.ofNat 32 (2 ^ 31 + unsigned 15 dp * 2 ^ 16 + unsigned 16 dg))
    let x : LoopSlice := { gain := dg, phase := dp, level := gain, temp := laneTemp s n }
    s.setMgm { s.mgm with anchors := Tbl.put (fun _ => none) s.mgm.anchors key (some (gain, phase)),
                          slices := Tbl.put (fun _ => []) s.mgm.slices n (Tbl.get (fun _ => []) s.mgm.slices n ++ [x]) }

/-- BG_SLICE_DONE (R200, R665). -/
def execBgSliceDone (lane : Lane) (result : Option CalResult) (gain phase : BitVec 16) (s : State) : Result :=
  .next (if s.answers && laneState s lane = 5 then
      match (s.lane lane).work with
      | .slice c => loopSlice (sliceDone s lane c result) lane c gain.toInt phase.toInt
      | _ => s
    else s)

/-! ### PMBus (R677, R679) -/

/-- READ_VOUT: the reading, and the confirmation (R677). -/
def readVout (s : State) (w : Nat) : State :=
  let x := linear16Mv s w
  let s := s.setFld F.MGM_MEAS_VOUT_MV (min 65535 (x / 65536))
  match s.mgm.volt with
  | .confirming mv true =>
    if mgmAct s = 0 && ((x : Int) - mv * 65536).natAbs ≤ s.fld F.MGM_PMBUS_CFG_TOL_MV * 65536 then voltConfirmed s mv else s
  | _ => s

/-- Milliamperes of a LINEAR11 word. -/
def linear11Ma (w : Nat) : Nat :=
  let y := signed 11 (bitsOf w 0 11)
  let e := signed 5 (bitsOf w 11 5)
  let m := (y * 1000).toNat
  min 65535 (if e < 0 then m / 2 ^ e.natAbs else m * 2 ^ e.natAbs)

/-- STATUS_WORD: a fault bit on two consecutive reads is an AVS fault (R679). -/
def statusWord (s : State) (w : Nat) : State :=
  let s := s.setFld F.MGM_PMB_STATUS_WORD w
  if bitsOf w 13 3 != 0 || bitsOf w 1 5 != 0 then
    let s := s.setMgm { s.mgm with badWords := s.mgm.badWords + 1 }
    if 2 ≤ s.mgm.badWords then avsFault s 3 else s
  else s.setMgm { s.mgm with badWords := 0 }

/-- PMBUS_TRANSACTION_DONE (R677): VOUT_COMMAND, READ_VOUT, READ_IOUT or STATUS_WORD. -/
def pmbusDone (s : State) (command : Nat) (ack : Bool) (data : Nat) : State :=
  if !ack then
    let s := s.setMgm { s.mgm with nacks := s.mgm.nacks + 1 }
    if 3 ≤ s.mgm.nacks then avsFault (s.setMgm { s.mgm with nacks := 0 }) 1
    else
      match s.mgm.volt, command with
      | .confirming mv false, 0x21 => pmbus s 0x21 (linear16 s mv)
      | _, 0x21 => s
      | _, _ => pmbus s command 0
  else
    let s := s.setMgm { s.mgm with nacks := 0 }
    match command, s.mgm.volt with
    | 0x21, .confirming mv _ => pmbus (s.setMgm { s.mgm with volt := .confirming mv true }) 0x8B 0
    | 0x8B, .confirming mv true =>
      let s := readVout s data
      if s.mgm.volt = .confirming mv true then pmbus s 0x8B 0 else s
    | 0x8B, _ => readVout s data
    | 0x8C, _ => s.setFld F.MGM_MEAS_IOUT_MA (linear11Ma data)
    | 0x79, _ => statusWord s data
    | _, _ => s

/-- PMBUS_TRANSACTION_DONE. -/
def execPmbusTransactionDone (command : BitVec 8) (ack : Bool) (data : BitVec 16) (s : State) : Result :=
  .next (if mgmRuns s && s.fld F.MGM_CTRL_ACT = 0 then pmbusDone s command.toNat ack data.toNat else s)

/-- PMBUS_POLL (R677). -/
def execPmbusPoll (s : State) : Result :=
  .next (if mgmRuns s && s.fld F.MGM_CTRL_ACT = 0 then pmbus (pmbus s 0x8C 0) 0x79 0 else s)

/-- AVS_SETTLE_TIMEOUT (R679). -/
def execAvsSettleTimeout (s : State) : Result :=
  .next (if mgmRuns s && s.mgm.volt != .none then avsFault s 2 else s)

/-- VID_SETTLE_EXPIRY (R678). -/
def execVidSettleExpiry (s : State) : Result :=
  .next (match s.mgm.volt with
    | .confirming mv false => if mgmRuns s && mgmAct s = 1 then s.setMgm { s.mgm with volt := .confirming mv true } else s
    | _ => s)

/-! ### Ageing (R681, R682) -/

/-- The header in use: the copy with the higher sequence number (R681). -/
def AgeLog.live (l : AgeLog) : AgeHeader := if l.a.seq < l.b.seq then l.b else l.a

/-- A header written to the other copy. -/
def AgeLog.write (l : AgeLog) (hours next : Nat) : AgeLog :=
  let h : AgeHeader := { seq := l.live.seq + 1, hours := hours, next := next }
  if l.a.seq < l.b.seq then { l with a := h } else { l with b := h }

/-- LIFE from the valid records (R682). -/
def projectedLife (s : State) (l : AgeLog) (hours : Nat) : Nat :=
  let points := l.records.filterMap (fun e => e.2.map (fun r => (r.hours, r.mean)))
  if points.length < 8 then 0xFFFF
  else if !Config.ageingFalls points then 999
  else min 999 (Config.ageingLife points (s.fld F.MGM_MARGIN_CFG_FLOOR_MV) hours)

/-- A value the period has not shown is open. -/
def orOpen (s : State) (v : Option Int) (width : Nat) : Int × State :=
  match v with
  | some x => (x, s)
  | none =>
    let d := drawNat s (2 ^ width)
    (signed width d.1, d.2)

/-- An ageing record (R681, R682). -/
def ageRecord (s : State) (hours : Nat) : State :=
  let l := s.mgm.age
  let p := s.mgm.period
  let mean := orOpen s (if p.refs.isEmpty then none else some (Int.fdiv (p.refs.foldl (· + ·) 0) p.refs.length)) 16
  let worst := orOpen mean.2 (match p.refs with
    | [] => none
    | r :: t => some (t.foldl min r)) 16
  let sram := orOpen worst.2 p.sram 16
  let tj := orOpen sram.2 p.tj 8
  let ret := orOpen tj.2 (p.retention.map (fun (r : Nat) => (r : Int))) 16
  let s := ret.2
  let i := l.live.next
  let r : AgeRecord := { hours := hours, mean := mean.1, worst := worst.1, sram := sram.1, tj := tj.1, refresh := p.refresh,
                         retention := unsigned 16 ret.1 }
  let l := { l with records := Tbl.put (fun _ => none) l.records i (some r) }
  let l := l.write hours ((i + 1) % 752)
  let life := projectedLife s l hours
  let s := s.setMgm { s.mgm with age := l, period := AgePeriod.init }
  let s := (s.setFld F.MGM_LIFE_YEARS_X10 life).setFld F.MGM_STATUS_LIFE_VALID (b01 (life != 0xFFFF))
  let s := s.setFld F.MGM_RECORDS_COUNT l.records.length
  let s := s.event 0x33 0 0x1505 (if life < 30 then 2 else 0) (leBytes 2 i ++ leBytes 2 (unsigned 16 mean.1) ++ leBytes 2 life)
  if life < 30 then setCause s 0x33 4 else s

/-- AGE_HOUR (R681): the hourly update, and a record every 240 hours. -/
def ageHour (s : State) : State :=
  let hours := s.mgm.age.live.hours + 1
  let s := s.setReg A.MGM_AGE_H (BitVec.ofNat 32 hours)
  if hours % 240 = 0 then ageRecord s hours
  else s.setMgm { s.mgm with age := s.mgm.age.write hours s.mgm.age.live.next }

/-- AGE_HOUR. -/
def execAgeHour (s : State) : Result := .next (if mgmRuns s then ageHour s else s)

/-- What the ageing log shows at an entry to BOOT (R681). -/
def ageShown (s : State) : State :=
  (s.setReg A.MGM_AGE_H (BitVec.ofNat 32 s.mgm.age.live.hours)).setFld F.MGM_RECORDS_COUNT s.mgm.age.records.length

end Sys2Proof.Machine
end

