-- ==== Sys2Proof/Machine/Pair.lean ====
section
/-!
DEFINITION. Sys2Proof/Machine/Pair.lean: the stroke and the bow: roles, the mirror link and its items, the interlock, takeover and
swap (19_stroke_and_bow_redundancy.md).
-/
namespace Sys2Proof.Machine

/-! ### Identity and HELLO (R625, R626, R632) -/

/-- The chip's identity (R625). -/
def ownIdentity : List Byte := slice (Config.sha256 (Config.publicKey Config.identityKey)) 0 8

/-- The key check value of the key-encryption slot. -/
def kekCheck (s : State) : List Byte :=
  let x := s.slot (s.fld F.RED_CFG_KEK_SLOT)
  if x.usable then kcv x.attr x.key else []

/-- The HELLO of this chip. -/
def helloItem (s : State) : MirrorItem :=
  .hello (role s) (s.fld F.RED_CFG_PRIO) ownIdentity (s.fld F.MAC_ROUTER_ID_ID) (kekCheck s) (s.reg A.NVC_SELET_SERIAL).toNat
    (s.fld F.NVC_FW_STATUS_VERSION / 256) (s.fld F.NVC_FW_STATUS_VERSION % 256)

/-- The chip takes part in a pair now. -/
def pairs (s : State) : Bool := s.ready && s.red.en

/-! ### The interlock and the link (R627–R630, R635, R636) -/

/-- A chip that claims while its link is not PAIRED and finds ILK_IN active gives the claim up for a random time (R628). -/
def conflictCheck (s : State) : State :=
  if pairs s && role s == 1 && link s != 3 && s.flag F.RED_STATUS_ILK_IN && ilkOut s then
    let d := drawNat s 91
    let s := (d.2.setRed { d.2.red with backoff := true }).count F.RED_ILK_CONFLICTS_COUNT 1
    gateCheck (setCause (s.event 0x31 0 0x1305 2 (leBytes 1 (10 + d.1))) 0x31 4)
  else s

/-- A change of the link's state (R630, R645): reason 1 no frames, 2 mismatch, 3 paired, 4 training. -/
def setLink (s : State) (new reason : Nat) : State :=
  let old := link s
  if old = new then s
  else
    let s := s.event 0x31 0 0x1301 (if old = 3 then 2 else 1) (leBytes 1 old ++ leBytes 1 new ++ leBytes 1 reason)
    let s := setCause (s.setFld F.RED_STATUS_LINK new) 0x31 1
    let s := if new = 0 then s.count F.RED_LINK_DOWNS_COUNT 1 else s
    if new = 3 then
      let s := s.setRed { s.red with wasPaired := true, aligned := false }
      if role s = 2 then s.setFld F.RED_STATUS_FRESH 1 else s
    else if old = 3 then
      let s := s.setReg A.RED_DATUM_ERR 0#32
      if role s = 1 then conflictCheck (s.setFld F.RED_STATUS_HOLD 1) else s
    else s

/-- The link trains: what was sent is superseded by the copy to come, and a HELLO goes out (R625, R631, R633). -/
def train (s : State) : State :=
  let s := setLink s 1 4
  sendItem (s.setRed { s.red with unacked := [] }) (helloItem s)

/-- Entry to READY (R625): the role NONE, then the training of the link, with `CTRL.EN` = 1. -/
def redStart (s : State) : State :=
  let en := s.flag F.RED_CTRL_EN
  let s := setRole (s.setRed { s.red with
    en := en, decided := !en, partner := none, held := [], takeover := none, swap := none, swapLate := none, offered := false,
    backoff := false }) 0 1
  let s := forceEnds ((s.setFld F.RED_STATUS_FRESH 0).setFld F.RED_STATUS_HOLD 0)
  if en then train (setLink s 0 1) else setLink s 0 1

/-- The mirrored regions emptied before a copy fills them (R633). -/
def clearMirrored (s : State) : State :=
  ((s.ramClear 0 0x4000000).ramClear routeBase 0x4200000).ramClear slotBase (slotBase + 0x800000)

/-- The copy from stroke to bow begins (R633): between a stroke and a bow whose HELLOs agree. -/
def syncing (s : State) (partnerRole : Nat) : State :=
  let other := if partnerRole = 0 then 3 - role s else partnerRole
  if link s = 1 && role s = 1 && other = 2 then (setLink s 2 4).setReg A.RED_SYNC_PROGRESS 0#32
  else if link s = 1 && role s = 2 && other = 1 then clearMirrored ((setLink s 2 4).setReg A.RED_SYNC_PROGRESS 0#32)
  else s

/-- The role by the partner's HELLO (R625); none where the partner is taking over. -/
def roleBy (s : State) (partnerRole prio : Nat) (identity : List Byte) : Option Nat :=
  match partnerRole with
  | 0 =>
    let own := s.fld F.RED_CFG_PRIO
    some (if own = prio then (if leNat ownIdentity < leNat identity then 1 else 2) else if prio < own then 1 else 2)
  | 1 => some 2
  | 2 => some 1
  | _ => none

/-- The role decided at READY (R625). -/
def decide' (s : State) (new : Nat) : State :=
  conflictCheck (gateCheck (setRole (s.setRed { s.red with decided := true }) new 1))

/-- A PAIR_MISMATCH event (R626, R645). -/
def mismatch (s : State) (item : Nat) : State := s.event 0x31 0 0x1304 (if item ≤ 2 then 3 else 1) (leBytes 1 item)

/-- A HELLO from the partner (R625, R626). -/
def helloRx (s : State) (i : MirrorItem) : State :=
  match i with
  | .hello r prio identity router check serial major minor =>
    let s := (s.setRed { s.red with partner := some i }).setWide A.RED_PARTNER_ID (leNat (slice identity 0 8))
    let version := s.fld F.NVC_FW_STATUS_VERSION
    let s := if serial = (s.reg A.NVC_SELET_SERIAL).toNat then s else mismatch s 3
    let s := if version / 256 = major && version % 256 = minor then s else mismatch s 4
    let wrongRouter := router != s.fld F.MAC_ROUTER_ID_ID
    let wrongKek := check != kekCheck s || check.isEmpty
    if wrongRouter || wrongKek then
      let s := if wrongRouter then mismatch s 1 else s
      let s := setCause (if wrongKek then mismatch s 2 else s) 0x31 5
      if 2 ≤ link s then setLink s 1 2 else s
    else
      let s := if s.red.decided then s
        else match roleBy s r prio identity with
          | some new => decide' s new
          | none => s
      if s.red.decided then syncing s r else s
  | _ => s

/-- ROLE_DECISION_TIMEOUT (R625): no HELLO that counts has come. -/
def execRoleDecisionTimeout (s : State) : Result :=
  .next (if pairs s && !s.red.decided then decide' s (if s.flag F.RED_STATUS_ILK_IN then 2 else 1) else s)

/-! ### Items (R631–R637) -/

/-- A KEY_EPOCH at the bow (R632): steps 2 to 8 of R572 without their event, or the zeroisation. -/
def keyEpochRx (s : State) (n epoch attr : Nat) (wrapped : Option (List Byte)) : State :=
  let x := s.slot n
  match wrapped with
  | none =>
    let s := if x.state = 1 || x.state = 2 then zeroiseAll s [n] else s
    let x := s.slot n
    if x.epoch < epoch then s.setSlot n { x with a := { x.a with epoch := epoch, commit := zeroised } } else s
  | some w =>
    if epoch ≤ x.epoch || (isZot attr && s.mask.isNone) then s
    else
      match slotKeyUse s (s.fld F.RED_CFG_KEK_SLOT) none 10 with
      | none => denied s
      | some kek =>
        match Config.unwrapKey kek w with
        | none => s
        | some key =>
          let r : Replace := { slot := n, cmd := none, key := key.take (keyBytes attr), attr := attr, epoch := epoch,
                               targetB := targetHalf x, phase := 0 }
          let s := writeTarget (beginReplace s r) r
          setCause (settleReplace (commitReplace s { r with phase := 1 }) { r with phase := 2 }) 0x28 0

/-- What the bow's Datum is ahead of the stroke's, in ns, from a DATUM item and half the round trip (R637). -/
def datumErr (s : State) (sec ns frac : Nat) : Int :=
  let there := (Time.units { sec := sec, ns := ns, frac := frac } : Int) + s.fld F.RED_LINK_RTT_NS_NS * 2 ^ 31
  Int.fdiv ((s.now.units : Int) - there) (2 ^ 32)

/-- The bow's Datum is brought back by `err` ns (R637): stepped at the pairing and at each step of the stroke, slewed otherwise. -/
def datumSteer (s : State) (err : Int) (gen : Nat) : State :=
  if s.red.aligned && gen = s.fld F.DTM_STATUS_STEP_GEN then if err = 0 then s else startSlew s (-err)
  else
    match stepDatum s (-err) 2 with
    | none => s
    | some s => (s.setFld F.DTM_STATUS_STEP_GEN gen).setRed { s.red with aligned := true }

/-- A DATUM item at the bow (R637): INC follows, and the time is brought back. -/
def datumRx (s : State) (sec ns frac incr gen servo : Nat) : State :=
  if link s != 3 then s
  else
    let s := (s.setWide A.DTM_INC incr).setRed { s.red with datumLocked := servo == 2 }
    let err := datumErr s sec ns frac
    datumSteer (s.setReg A.RED_DATUM_ERR (BitVec.ofNat 32 (unsigned 32 (clampSigned 32 err)))) err gen

/-- The opcodes that the bow's role forbids (R120). -/
def bowForbids (op : Nat) : Bool :=
  [0x0006, 0x0101, 0x0102, 0x0104, 0x0105, 0x0301, 0x0401, 0x0402, 0x0403, 0x0501].contains op

/-- Every mailbox is empty (R641). -/
def emptyMailboxes (s : State) : State :=
  let s := s.cad.dls.foldl (fun (t : State) d => freeCells t d.cells) s
  let s := { s with cad := { s.cad with dls := [], held := [] } }
  (usedParcels s).foldl (fun (t : State) p => pSet (t.ramStore (256 * p + 160) (List.replicate 64 0#8)) p 224 1 0) s

/-- All update sessions are discarded without UPD_CANCEL (R443). -/
def discardSessions (s : State) : State :=
  let s := s.upd.sessions.foldl (fun (t : State) x => (emptyMcast t x.sid none).setFld (F.UPD_SESS_STATE_STATE x.sid) 0) s
  refreshSessions { s with upd := { s.upd with sessions := [], retry := [] } }

/-- The stroke becomes a bow, FRESH and PAIRED, after TAKE or TAKEN (R640, R644). A downlink that is pending ends NOT_ACTIVE, each with its
one outcome (R141, R142). -/
def yieldRole (s : State) : State :=
  let s := setRole (s.setRed { s.red with offered := false, backoff := false, aligned := true }) 2 3
  let s := gateCheck (s.setFld F.RED_STATUS_FRESH 1)
  discardSessions (emptyMailboxes ((usedParcels s).foldl (fun (t : State) p => (dropAll t p).2) s))

/-- The ROLE_SWAP that asked for the change of roles completes, or has completed late (R136). -/
def swapDone (s : State) (swap : Option CmdId) (sec ns : Nat) : State :=
  match swap, s.red.swapLate with
  | some id, _ => finish s id 0x00 (leBytes 4 sec ++ leBytes 4 ns)
  | none, some id => lateSuccess (s.setRed { s.red with swapLate := none }) id 0x0006
  | none, none => s

/-- TAKEN at the old stroke (R644, R136): it becomes bow, a key replacement whose commit has begun reports its outcome (R128), the other
commands in flight that the role forbids complete NOT_ACTIVE in ring order, and ROLE_SWAP completes OK. -/
def takenRx (s : State) (sec ns : Nat) : State :=
  if role s != 1 then s
  else
    let swap := s.red.swap
    let s := (s.sec.repl.filter (fun r => r.cmd.isSome && r.begun)).foldl completeReplace (s.setRed { s.red with swap := none })
    let s := eachCmd s (fun t id c => if bowForbids (descOpcode c.desc) && some id != swap then stopCmd t id else t)
    let s := yieldRole { s with mac := { s.mac with wakes := [] } }
    swapDone s swap sec ns

/-- One item applied (R632, R639). Those of a stroke act on a bow, and those of a bow on a stroke. -/
def applyItem (s : State) (i : MirrorItem) : State :=
  let bow := asBow s && 2 ≤ link s
  match i with
  | .hello .. => helloRx s i
  | .heartbeat => s
  | .parcelDelta p first bytes => if bow && p < parcelCount then s.ramStore (256 * p + first) (bytes.take (256 - first)) else s
  | .routeDelta q record => if bow && q < 4096 then s.ramStore (routeBase + 80 * q) (slice record 0 80) else s
  | .cntRsv p rsv => if bow && p < parcelCount then pSet s p 76 4 rsv else s
  | .keyEpoch n epoch attr wrapped => if bow && n < 512 && n != s.fld F.RED_CFG_KEK_SLOT then keyEpochRx s n epoch attr wrapped else s
  | .slotDelta e w0 w1 => if bow && e < 1048576 then putEntry s e w0 w1 else s
  | .datum sec ns frac incr gen servo _ => if bow then datumRx s sec ns frac incr gen servo else s
  | .bcnSched sfn lanes => if bow then s.setRed { s.red with sched := some (sfn, lanes) } else s
  | .bulk region offset bytes =>
    let base := if region = 0 then 0 else if region = 1 then routeBase else slotBase
    if bow && mirrored (base + offset) && mirrored (base + offset + bytes.length) then s.ramStore (base + offset) bytes else s
  | .relinquish m => if s.ready && role s = 2 then tkoTrigger s 3 m else s
  | .take _ => if s.ready && role s = 1 && link s = 3 then yieldRole s else s
  | .taken sec ns => if s.ready then takenRx s sec ns else s

/-- MSEQ `a` is not after `b`. -/
def notAfter (a b : Nat) : Bool := (b + 2 ^ 32 - a) % 2 ^ 32 < 2 ^ 31

/-- The partner has acknowledged up to `ack` (R631): uplinks whose deltas it holds take visible effect (R634). -/
def ackRx (s : State) (ack : Nat) : State :=
  let s := s.setRed { s.red with unacked := s.red.unacked.filter (fun f => !notAfter f.1 ack) }
  let free := s.red.held.filter (fun h => notAfter h.mseq ack)
  free.foldl releaseUp (s.setRed { s.red with held := s.red.held.filter (fun h => !notAfter h.mseq ack) })

/-- A HEARTBEAT: an acknowledgement alone, without an MSEQ of its own (R630–R632). -/
def heartbeat (s : State) : State := s.send (.mirror s.red.txNext s.red.rxLast [.heartbeat])

/-- MIRROR_FRAME_RX (R631): a frame whose CRC is good. `rtt`: the round trip as measured, in ns. -/
def mirrorRx (s : State) (mseq ack : Nat) (items : List MirrorItem) (rtt : Nat) : State :=
  let s := s.setFld F.RED_LINK_RTT_NS_NS rtt
  let s := if link s = 0 then train s else s
  let s := ackRx s ack
  if items.all (fun i => i == .heartbeat) then s
  else
    let fresh := items.any (fun i => match i with
      | .hello .. => true
      | _ => false)
    if link s = 1 && fresh || mseq = (s.red.rxLast + 1) % 2 ^ 32 then
      let s := items.foldl applyItem (s.setRed { s.red with rxLast := mseq })
      heartbeat (s.count F.RED_ITEMS_RX_COUNT items.length)
    else heartbeat s

/-- MIRROR_FRAME_RX. -/
def execMirrorFrameRx (crcOk : Bool) (mseq ack : BitVec 32) (items : List MirrorItem) (rtt : BitVec 16) (s : State) : Result :=
  .next (if pairs s && crcOk then mirrorRx s mseq.toNat ack.toNat items rtt.toNat else s)

/-- MIRROR_RETRANSMIT (R631): every unacknowledged frame again, from the oldest. -/
def execMirrorRetransmit (s : State) : Result :=
  .next (if pairs s && link s != 0 then
      s.red.unacked.foldl (fun (t : State) f => (t.count F.RED_RETRANS_COUNT 1).send (.mirror f.1 t.red.rxLast f.2)) s
    else s)

/-- MIRROR_LINK_TIMEOUT (R630, R635, R636). -/
def execMirrorLinkTimeout (s : State) : Result := .next (if s.operating && s.red.en then setLink s 0 1 else s)

/-- MIRROR_HEARTBEAT (R630): what has been committed goes out, then the acknowledgement. -/
def execMirrorHeartbeat (s : State) : Result := .next (if pairs s && link s != 0 then heartbeat (mirrorFlush s) else s)

/-! ### The copy (R633) -/

/-- The records of the copy: parcels, route records, slot entries, each in index order; an empty record is not sent. -/
def bulkItems (s : State) : List MirrorItem :=
  let now := s.dram.filter (fun c => mirrored c.1)
  let bases := (now.map (fun c => recordBase c.1)).foldl (fun bs b => if bs.head? == some b then bs else b :: bs) []
  bases.reverse.map (fun b =>
    if b < 0x4000000 then .bulk 0 b (s.ramBytes b 256)
    else if b < 0x4200000 then .bulk 1 (b - routeBase) (s.ramBytes b 80)
    else .bulk 2 (b - slotBase) (s.ramBytes b 8))

/-- The stroke's copy, and the keys after it; from then on changes go as deltas. -/
def bulkSend (s : State) : State :=
  let keys := (s.sec.slots.filter (fun e => e.2.usable)).filterMap (fun e => keyItem s e.1)
  let epochs := s.sec.slots.foldl (fun (t : Tbl Nat) e => Tbl.put (fun _ => 0) t e.1 (keyMark e.2)) []
  let s := (bulkItems s ++ keys).foldl sendItem s
  s.setRed { s.red with image := s.dram.filter (fun c => mirrored c.1), epochs := epochs }

/-- MIRROR_SYNC_DONE (R633). -/
def syncDone (s : State) : State :=
  if link s != 2 then s
  else
    let s := if role s = 1 then bulkSend s else s
    setLink (s.setReg A.RED_SYNC_PROGRESS 100#32) 3 3

/-- MIRROR_SYNC_DONE. -/
def execMirrorSyncDone (s : State) : Result := .next (if pairs s then syncDone s else s)

/-- MIRROR_ACK_DEADLINE (R634): the acknowledgement on the air for a frame of node `parcel` is not sent. -/
def ackDeadline (s : State) (parcel : Nat) : State :=
  let due (h : HeldUp) : Bool := h.owed.any (fun o => o.parcel == parcel)
  if !s.red.held.any due then s
  else
    let s := s.setRed { s.red with held := s.red.held.map (fun h => if due h then { h with owed := none } else h) }
    setCause (s.count F.RED_MIRROR_LATE_COUNT 1) 0x31 6

/-- MIRROR_ACK_DEADLINE. -/
def execMirrorAckDeadline (parcel : Fin 262144) (s : State) : Result := .next (if pairs s then ackDeadline s parcel else s)

/-- STROKE_HOLD_END (R635): the stroke runs unmirrored; what waited for the bow takes effect. -/
def execStrokeHoldEnd (s : State) : Result :=
  .next (if s.operating && s.flag F.RED_STATUS_HOLD then
      let s := s.setFld F.RED_STATUS_HOLD 0
      if link s = 3 then s else s.red.held.foldl releaseUp (s.setRed { s.red with held := [] })
    else s)

/-- FRESH_EXPIRY (R636). -/
def execFreshExpiry (s : State) : Result := .next (if s.operating && link s != 3 then s.setFld F.RED_STATUS_FRESH 0 else s)

/-- DATUM_ITEM_SEND (R632). -/
def execDatumItemSend (s : State) : Result :=
  .next (if pairs s && role s == 1 && 2 ≤ link s then
      sendItem (mirrorFlush s) (.datum s.now.sec s.now.ns s.now.frac (inc s) (s.fld F.DTM_STATUS_STEP_GEN) (s.fld F.DTM_STATUS_SERVO)
        (s.flag F.DTM_STATUS_TIME_OK))
    else s)

/-! ### The interlock's inputs (R627, R628, R639) -/

/-- ILK_IN_CHANGE (R627, R628). -/
def ilkInChange (s : State) (active : Bool) : State :=
  let s := s.setFld F.RED_STATUS_ILK_IN (b01 active)
  conflictCheck (gateCheck (s.setRed { s.red with ilkSince := s.dev.upCycles }))

/-- ILK_IN_CHANGE. -/
def execIlkInChange (active : Bool) (s : State) : Result :=
  .next (if s.answers && active != s.flag F.RED_STATUS_ILK_IN then ilkInChange s active else s)

/-- ILK_CONFLICT_BACKOFF_END (R628). -/
def execIlkConflictBackoffEnd (s : State) : Result :=
  .next (if pairs s && s.red.backoff then
      let s := s.setRed { s.red with backoff := false }
      if s.flag F.RED_STATUS_ILK_IN then gateCheck (setRole s 2 4) else s
    else s)

/-- ILK_LOSS_TIMER (R639). -/
def execIlkLossTimer (s : State) : Result :=
  .next (if pairs s && !s.flag F.RED_STATUS_ILK_IN then tkoTrigger s 2 0 else s)

/-- A write of the bits `mask` of `RED.CTRL` (R639): FORCE_TKO acts on a bow alone. -/
def redCtrlWrite (s : State) (src : Requester) (data mask : Word) : State :=
  if bit data.toNat 8 && bit mask.toNat 8 then
    if s.ready && role s = 2 then
      let s := tkoTrigger (writeFields s src A.RED_CTRL data mask) 4 0
      if s.red.takeover.isSome then s else forceEnds s
    else
      let s := writeFields s src A.RED_CTRL data (mask &&& ~~~0x100#32)
      recordErr s 0x31 0x80 src.code A.RED_CTRL
  else writeFields s src A.RED_CTRL data mask

/-- FORCE_TKO_WRITE (R639): a write of `RED.CTRL` with FORCE_TKO 1. -/
def execForceTkoWrite (src : Requester) (data : Word) (s : State) : Result :=
  .next (gateWrite s src A.RED_CTRL (fun s => redCtrlWrite s src (data ||| 0x100#32) allBits))

/-! ### Takeover (R640, R641, R643) -/

/-- TAKEOVER_START (R640 steps 1 and 2): every item received has been applied as it came; for trigger 3 the item that RELINQUISH
names must be among them. -/
def takeoverStart (s : State) : State :=
  match s.red.takeover with
  | none => s
  | some t =>
    if t.started || role s != 2 || (t.trigger = 3 && !notAfter t.upTo s.red.rxLast) then s
    else
      let s := setRole (s.setRed { s.red with takeover := some { t with started := true } }) 3 2
      if (t.trigger = 1 || t.trigger = 4) && link s = 3 then sendItem s (.take t.trigger) else s

/-- TAKEOVER_START. -/
def execTakeoverStart (s : State) : Result := .next (if pairs s then takeoverStart s else s)

/-- What the new stroke does with a parcel (R641). A counter beyond the last one ends at it, and the node is then released (R403). -/
def takeParcel (s : State) (p : Nat) : State :=
  let s := pSetBits (pSetBits s p 144 0 1 0) p 152 0 1 0
  if pSess s p then
    let c := min 0xFFFFFFFF (pGet s p 76 4 + 4096)
    pSet (pSet s p 72 4 c) p 76 4 c
  else s

/-- The queues that get a marker (R640 step 7). -/
def markedQueues (s : State) : List Nat :=
  (s.fab.queues.filter (fun e => bit e.2.cfg.toNat 31 && e.2.dest ≤ 1)).map (fun e => e.1)

/-- The CLK_DATUM cycles since the trigger in µs. -/
def takeoverUs (s : State) (t : Takeover) : Nat := (s.dev.upCycles - t.since) / 250

/-- TAKEOVER_COMPLETE (R640 steps 4 to 7, R641). -/
def takeoverComplete (s : State) : State :=
  match s.red.takeover with
  | none => s
  | some t =>
    if !t.started || s.flag F.RED_STATUS_ILK_IN then s
    else
      let us := takeoverUs s t
      let queues := if t.trigger = 3 then [] else markedQueues s
      let s := forceEnds (s.setRed { s.red with takeover := none, backoff := false })
      let s := (setRole s 1 2).setFld F.RED_STATUS_FRESH 0
      let s := s.event 0x31 0 0x1302 (if t.trigger = 3 then 1 else 2)
        (leBytes 1 t.trigger ++ leBytes 1 1 ++ leBytes 4 us ++ leBytes 2 queues.length)
      let s := setCause (s.count F.RED_TAKEOVERS_COUNT 1) 0x31 2
      let s := s.setReg A.RED_LAST_TKO (BitVec.ofNat 32 (t.trigger * 2 ^ 24 + min 65535 (us / 1000)))
      let s := s.setReg A.RED_DATUM_ERR 0#32
      let s := s.setRed { s.red with image := s.dram.filter (fun c => mirrored c.1),
                                     epochs := s.sec.slots.foldl (fun (m : Tbl Nat) e => Tbl.put (fun _ => 0) m e.1 (keyMark e.2)) [] }
      let s := if 2 ≤ link s then sendItem s (.taken s.now.sec s.now.ns) else s
      let s := if servoSource s then
          (setServo s (if s.red.datumLocked then 3 else 1) false).setFld F.DTM_STATUS_TIME_SET 1 else s
      let s := discardSessions (rebuildAccounts s)
      let s := (List.range 8).foldl (fun (u : State) k => u.setReg (A.UPD_IMG_INFO k) 0#32) s
      let s := { s.setFld F.UPD_STATUS_IMG_VALID 0 with upd := { s.upd with digests := [] } }
      let s := queues.foldl (fun (u : State) q => placeMarker u q 4 0xFFFFFFFF 0xFFFFFFFF) s
      let s := emptyMailboxes s
      (usedParcels s).foldl takeParcel s

/-- TAKEOVER_COMPLETE. -/
def execTakeoverComplete (s : State) : Result := .next (if pairs s then takeoverComplete s else s)

/-- TAKEOVER_ABANDON (R643): ILK_IN is still active 100 ms after step 3. -/
def execTakeoverAbandon (s : State) : Result :=
  .next (match s.red.takeover with
    | none => s
    | some t => if pairs s && t.started && s.flag F.RED_STATUS_ILK_IN then forceEnds (tkoFails s t.trigger 2) else s)

/-! ### Swap (R136, R644) -/

/-- ROLE_SWAP (R644): the offers follow. That the link is PAIRED was checked when the descriptor was taken (R124); no offer is made while
it is not. -/
def roleSwap (s : State) (id : CmdId) : State :=
  match starting s id 0x0006 with
  | none => s
  | some _ =>
    if s.red.swap.isSome then s
    else (beginCmd s id).setRed { (beginCmd s id).red with swap := some id }

/-- ROLE_SWAP. -/
def execRoleSwap (id : CmdId) (s : State) : Result := .next (if s.ready then roleSwap s id else s)

/-- ROLE_SWAP_OFFER (R644 steps 1 and 2). -/
def swapOffer (s : State) : State :=
  if s.red.swap.isNone || s.red.offered || role s != 1 || link s != 3 then s
  else
    let s := mirrorFlush s
    let last := (s.red.txNext + 2 ^ 32 - 1) % 2 ^ 32
    sendItem (gateCheck (s.setRed { s.red with offered := true })) (.relinquish last)

/-- ROLE_SWAP_OFFER. -/
def execRoleSwapOffer (s : State) : Result := .next (if pairs s && tickNow s = 8191 then swapOffer s else s)

/-- SWAP_OFFER_TIMEOUT (R644 step 5). -/
def execSwapOfferTimeout (s : State) : Result :=
  .next (if pairs s && s.red.offered && !s.flag F.RED_STATUS_ILK_IN then s.setRed { s.red with offered := false } else s)

end Sys2Proof.Machine
end

