-- ==== Sys2Proof/Machine/Reset.lean ====
section
/-!
DEFINITION. Sys2Proof/Machine/Reset.lean: resets of the device and of the host attachment, the entry to BOOT and to SECURE_HOLD
(R25–R27, R81, R157–R162, R579, R580).
-/
namespace Sys2Proof.Machine

/-! ### The host attachment (R81) -/

/-- A ring as R81 leaves it: DISABLED, pointers 0, records not yet written discarded, no record counted toward its cause. A read that is
outstanding is still counted, and its failure is recorded (R82, log entry 108). -/
def ringHostReset (s : State) (k : Nat) : State :=
  let s := clearPointers (discardRecords s k) k
  let s := (s.setFld (F.CMD_RING_CTRL_ENABLE k) 0).setFld (F.CMD_RING_CTRL_RESET k) 0
  let s := s.setFld (F.CMD_RING_STATUS_STATE k) 0
  s.setRing k { s.ring k with heldEnable := false, resetArmed := false, coalCount := 0 }

/-- The event ring as R81 leaves it. A range missed and not yet named by a LOG_BREAK is dropped (log entry 109). -/
def evrHostReset (s : State) : State :=
  let s := ((s.setFld F.CMD_EVR_CTRL_ENABLE 0).setReg A.CMD_EVR_HEAD 0#32).setReg A.CMD_EVR_TAIL 0#32
  { s with log := { s.log with evrOn := false, evrPhase := true, missed := none, inRing := [] } }

/-- PERST_N low and a Function Level Reset reset the host attachment alone (R81, R165). -/
def hostReset (s : State) : State :=
  let s := evrHostReset ((List.range 4).foldl ringHostReset s)
  let s := (List.range 8).foldl (fun (t : State) k => setHrxCount (hrxHostReset t k) k 0) s
  setCause { s with host := { HostIf.init s.host.perstLow with spiPrevBad := s.host.spiPrevBad } } 0x04 1

/-- PERST_N_ASSERT (R81): the link is down and its PLL stands while PERST_N is low. -/
def execPerstNAssert (s : State) : Result :=
  .next (
    let s := { s with host := { s.host with perstLow := true } }
    if s.answers then (hostReset (linkChange s false 0 0)).setFld F.SYS_CLK_STATUS_PCIE_PLL 0 else s)

/-- PERST_N_RELEASE: the PHY leaves reset. -/
def execPerstNRelease (s : State) : Result :=
  .next (
    let s := { s with host := { s.host with perstLow := false } }
    if s.answers && !s.pow.refLost.contains 2 then s.setFld F.SYS_CLK_STATUS_PCIE_PLL 1 else s)

/-- FUNCTION_LEVEL_RESET (R81). -/
def execFunctionLevelReset (s : State) : Result := .next (if s.answers then hostReset s else s)

/-! ### What a reset leaves (R158) -/

/-- What the next load of the key store finds of a slot: its halves (R563, R574). -/
def storedSlot (x : Slot) : Slot := { Slot.empty with a := x.a, b := x.b }

/-- The security group after a reset: ReRAM, the mask and the tamper record stay; AON's shadow of the mask is lost with AON. -/
def secureAfter (power : Bool) (x : Secure) : Secure :=
  { Secure.init with
    slots := Tbl.mapVals (fun _ => Slot.empty) (fun _ y => storedSlot y) x.slots,
    maskA := x.maskA, maskB := x.maskB, maskShadow := if power then none else x.maskShadow,
    tamper := x.tamper, zotDue := x.zotDue, roots := x.roots }

/-- AON after a reset: kept, but for what CORE held of the power modes; new after a power-on. -/
def powerAfter (power : Bool) (p : Power) : Power :=
  if power then { Power.init with stopped := p.stopped, refLost := p.refLost }
  else { p with lgWords := [], lgDue := [], lgSent := 0, lgDropped := 0, lgOpen := false, entry := none, aonQueue := [], shadow := [] }

/-- The DRAM that the exit from WATCH keeps: the Cadastre, tone maps and routes, update images, slot tables (R26, R158). -/
def keptDram (s : State) : State := (s.ramClear 0x05200000 0x06A00000).ramClear 0x07200000 0x08000000

/-- The levels of input pins show again after a reset: RF_BLANK, ILK_IN, MAINS_OK. -/
def showPins (old s : State) : State :=
  let s := s.setFld F.SYS_STATUS_MAINS_OK (s.fld F.AON_STATUS_MAINS_OK)
  let s := s.setFld F.RED_STATUS_ILK_IN (old.fld F.RED_STATUS_ILK_IN)
  (List.range 4).foldl (fun (t : State) n =>
    let active := blankIn old n == (old.fld (F.LRF_BLANK_CFG_POL n) == t.fld (F.LRF_BLANK_CFG_POL n))
    t.setFld (F.LRF_STATUS_BLANK_IN n) (b01 active)) s

/-- The update images that the exit from WATCH keeps: what the device knows of each, and no session that uses one (R26, R426). -/
def keepImages (old s : State) : State :=
  let s := (List.range 8).foldl (fun (t : State) k => t.setReg (A.UPD_IMG_INFO k) (old.reg (A.UPD_IMG_INFO k))) s
  refreshSessions { s.setFld F.UPD_STATUS_IMG_VALID (old.fld F.UPD_STATUS_IMG_VALID) with
    upd := { s.upd with digests := old.upd.digests } }

/-- A reset of code `code`: everything of R158, `NVC.RESET_SRC` and the cause of the transition. The pages of AON and WUR keep
their registers unless the power was lost. -/
def resetEffects (s : State) (code lastTrans : Nat) : State :=
  let power := code == 0
  let watch := code == 6
  let seen := if power then 1 else s.fld F.NVC_RESET_SRC_SEEN ||| 2 ^ code
  let aon := s.regs.filter (fun e => !power && (e.1 / 0x1000 == 2 || e.1 / 0x1000 == 3))
  let t : State := { State.reset with
    pending := s.pending, regs := aon, dram := (if watch then (keptDram s).dram else []), out := s.out, fresh := s.fresh,
    dev := { State.reset.dev with inReset := !watch, resetCode := code, lastTrans := lastTrans,
                                  secureLatch := !power && s.dev.secureLatch },
    boot := { Boot.init with fromWatch := watch },
    nv := s.nv, host := HostIf.init s.host.perstLow, log := EventLog.init, sec := secureAfter power s.sec,
    mgm := Margin.init s.mgm.age, pow := powerAfter power s.pow }
  let t := (t.setFld F.NVC_RESET_SRC_SEEN seen).setFld F.NVC_RESET_SRC_LAST code
  let t := (t.setReg A.NVC_SELET_FLOOR (BitVec.ofNat 32 s.nv.seletFloor)).setReg A.NVC_FW_FLOOR (BitVec.ofNat 32 s.nv.fwFloor)
  let t := if watch then keepImages s t else t
  showPins s (ageShown t)

/-- The device enters RESET (R157, R158). -/
def enterReset (s : State) (code : Nat) : State := resetEffects s code (if code = 0 then 0x00 else 0x01)

/-- The events of AON that BOOT reports: a WATCH that has ended, monitors that changed while CORE was stopped (R693, R699, R709). -/
def aonReports (s : State) : State :=
  let s := s.pow.clockDue.foldl (fun (t : State) e =>
    setCause (t.event 0x00 0 0x1603 (if e.2 = 1 then 3 else 1) (leBytes 1 e.1 ++ leBytes 1 e.2)) 0x00 3) s
  let s := { s with pow := { s.pow with clockDue := [] } }
  if s.pow.resume then
    let s := { s with pow := { s.pow with resume := false } }
    setCause (s.event 0x02 0 0x1602 1
      (leBytes 1 (s.fld F.AON_WATCH_INFO_ENTRY) ++ leBytes 1 (s.fld F.AON_WATCH_INFO_EXIT) ++ leBytes 4 (s.fld F.AON_WATCH_S_SECONDS)
        ++ leBytes 2 s.pow.ignored)) 0x02 2
  else s

/-- The entry to BOOT (R25, R182): counted in ReRAM, and BOOT_START. -/
def enterBoot (s : State) : State :=
  let s := { s with dev := { s.dev with inReset := false }, nv := { s.nv with bootCount := (s.nv.bootCount + 1) % 2 ^ 32 },
                    pow := { s.pow with bootAt := s.pow.aonCycles } }
  aonReports (s.event 0x01 0 0x0500 0 (leBytes 1 s.dev.resetCode ++ leBytes 1 s.dev.lastTrans))

/-- RESET_RELEASE (R25, R162): to BOOT, or with the latch set to SECURE_HOLD. -/
def resetRelease (s : State) : State :=
  if !s.dev.inReset then s
  else if s.dev.secureLatch then
    ({ s with dev := { s.dev with inReset := false, lastTrans := 0x05 } }).setFld F.SYS_STATUS_DEV_STATE 4
  else enterBoot s

/-- RESET_RELEASE. The PCIe PHY leaves reset with PERST_N high. -/
def execResetRelease (perstHigh : Bool) (s : State) : Result :=
  .next (if s.dev.inReset then
      let s := resetRelease { s with host := { s.host with perstLow := !perstHigh } }
      if s.answers && perstHigh && !s.pow.refLost.contains 2 then s.setFld F.SYS_CLK_STATUS_PCIE_PLL 1 else s
    else s)

/-! ### The sources (R157, R159) -/

/-- CORE has power: any state but WATCH. -/
def coreOn (s : State) : Bool := s.dev.inReset || s.devState != 5

/-- POWER_ON_RESET. -/
def execPowerOnReset (s : State) : Result := .next (enterReset s 0)

/-- PIN_RESET. -/
def execPinReset (s : State) : Result := .next (enterReset s 1)

/-- SYS_WATCHDOG_EXPIRY (R9, R10): the watchdog runs while CORE does, and on CLK_AON while CORE stands (R699); a BIST suspends it
(R712). -/
def execSysWatchdogExpiry (s : State) : Result :=
  .next (if !s.dev.inReset && s.devState != 5 && !s.dev.bistRan then enterReset s 2 else s)

/-- JTAG_RESET. -/
def execJtagReset (s : State) : Result := .next (enterReset s 4)

/-- BROWN_OUT: a limit of CORE's rails, which WATCH isolates. -/
def execBrownOut (s : State) : Result := .next (if coreOn s then enterReset s 5 else s)

/-- A write of `NVC.RESET_CTRL` (R159): any value but the request is a reserved encoding (R50). -/
def resetCtrlWrite (s : State) (src : Requester) (data : Word) : State :=
  if data = 0x5AFE0001#32 then { s with dev := { s.dev with softResetDue := true } }
  else recordErr s 0x01 0x05 src.code A.NVC_RESET_CTRL

/-- RESET_CTRL_WRITE. -/
def execResetCtrlWrite (src : Requester) (data : Word) (s : State) : Result :=
  .next (gateWrite s src A.NVC_RESET_CTRL (fun s => resetCtrlWrite s src data))

/-- SOFTWARE_RESET (R159). -/
def execSoftwareReset (s : State) : Result := .next (if s.answers && s.dev.softResetDue then enterReset s 3 else s)

/-! ### SECURE_HOLD (R161, R162, R579, R580) -/

/-- A replacement at a tamper (R579): one whose commit has been made completes its step 8, any other is undone. -/
def tamperReplace (s : State) (r : Replace) : State :=
  if r.phase = 2 then endReplace s r
  else
    let x := s.slot r.slot
    (dropReplace s r.slot).setSlot r.slot { x with state := x.prev }

/-- Every command in flight but BENCHMARK completes TAMPERED, in ring order (R580). -/
def tamperCommands (s : State) : State :=
  (List.range 5).foldl (fun (t : State) k =>
    if h : k < 5 then
      (t.ring k).cmds.foldl (fun (u : State) c =>
        if c.done || descOpcode c.desc = 0x0001 then u else finish u { src := ⟨k, h⟩, seq := c.seq } 0x31 []) t
    else t) s

/-- The engine key registers and the ZOT working copies are cleared (R579). -/
def clearKeys (s : State) : State :=
  let wipe (x : Slot) : Slot :=
    match x.committedHalf with
    | some b => if isZot (x.half b).attr then { x with key := [] } else x
    | none => x
  let noKey (t : Tbl Assoc) : Tbl Assoc := Tbl.mapVals (fun _ => Assoc.init) (fun _ a => { a with key := [] }) t
  { s with
    sec := { s.sec with slots := Tbl.mapVals (fun _ => Slot.empty) (fun _ x => wipe x) s.sec.slots, gcm := [], zotDue := true },
    ports := Tbl.mapVals (fun _ => Port.init) (fun _ p => { p with txSa := noKey p.txSa, rxSa := noKey p.rxSa }) s.ports }

/-- A queue that holds items discards them, with a marker of CAUSE 5 over every committed QSEQ discarded (R580). -/
def tamperQueue (s : State) (q : Nat) : State :=
  let qu := s.queue q
  let frames := qu.items.filter (fun i => !i.isBreak)
  let s := s.putItems q (qu.items.filter (fun i => i.isBreak)) []
  let s := (frames ++ qu.producing).foldl freeItem s
  match frames with
  | [] => s
  | i :: _ => placeMarker s q 5 i.qseq ((frames.getLast?.map (fun j => j.qseq)).getD i.qseq)

/-- A lane stops at once, whatever it does (R187, R188): a transmission in progress ends. -/
def tamperLane (s : State) (n : Nat) : State :=
  let s := match onAir s n with
    | some t => s.send (.cut n t.channel)
    | none => s
  toOff (s.setLane n { s.lane n with txs := [], work := .none, occ := none, owed := [], rx := [], offDue := false }) n

/-- The end of a BIST_RUN: the DONE cause and the BIST_DONE event (R719); the rings fetch again (R713). -/
def bistEnds (s : State) (r : BistRun) : State :=
  let s := { s.setFld F.BST_STATUS_RUNNING 0 with bst := { s.bst with run := none } }
  let s := setCause (s.event 0x07 0 0x1700 (if r.failed = 0 then 0 else 3)
    (leBytes 1 r.parts.length ++ leBytes 1 r.failed ++ leBytes 1 r.firstFailed ++ leBytes 1 1 ++ leBytes 4 (r.micros / 1000))) 0x07 0
  [0, 1, 2, 3].foldl startFetch s

/-- The self-test in progress is abandoned (R717). -/
def bistAbandon (s : State) : State :=
  match s.bst.run with
  | none => s
  | some r =>
    let n := r.tests.headD 0
    let old := Tbl.get (fun _ => BistResult.none) s.bst.results n
    let x : BistResult := { old with ran := true, pass := false, abandoned := true }
    bistEnds { s with bst := { s.bst with results := Tbl.put (fun _ => BistResult.none) s.bst.results n x } } r

/-- The entry to SECURE_HOLD (R161, R162, R579, R580). -/
def enterSecureHold (s : State) : State :=
  let s := s.sec.repl.foldl tamperReplace s
  let s := match s.sec.job with
    | some j => endJob s j.op 6 []
    | none => s
  let s := tamperCommands s
  let s := destroyMask (clearKeys (bistAbandon s))
  let s := { s.setFld F.SYS_STATUS_DEV_STATE 4 with
    dev := { s.dev with lastTrans := 0x05, secureLatch := true, maintLanes := [],
                        engines := (List.range 15).foldl (fun t n => Tbl.put (fun _ => .stopped) t n EngineState.stopped) s.dev.engines },
    red := { s.red with swap := none, offered := false, takeover := none },
    pow := { s.pow with entry := none, lgDue := [], lgOpen := false },
    tss := { s.tss with egresses := [] } }
  let s := (List.range 4).foldl tamperLane (forceEnds s)
  let s := (s.fab.queues.map (fun e => e.1)).foldl tamperQueue s
  s.setFld F.KSU_STATUS_TAMPER_LOGGED 1

/-- The first tamper not yet reported is recorded (R706). -/
def tamperRecord (s : State) (source sensor : Nat) : State :=
  let dark := s.dev.inReset || s.devState == 5
  let due := match s.sec.tamper with
    | none => true
    | some t => t.reported
  if due then
    { s with sec := { s.sec with tamper := some {
        source := source, sensor := sensor, devState := if s.dev.inReset then 0 else s.devState,
        aonTime := s.fld F.AON_TIME_SECONDS, datumSec := if dark then 0 else s.now.sec % 2 ^ 32, reported := false } } }
  else s

/-- The enable of a tamper source: 1 TAMPER0, 2 TAMPER1, 3 shield mesh, 4 sensor (1 voltage, 2 temperature, 3 clock). -/
def tamperEnabled (s : State) (source sensor : Nat) : Bool :=
  match source with
  | 1 => s.flag F.AON_TAMPER_CFG_T0_EN
  | 2 => s.flag F.AON_TAMPER_CFG_T1_EN
  | 3 => s.flag F.AON_TAMPER_CFG_SHLD_EN
  | _ => if sensor = 1 then s.flag F.AON_TAMPER_CFG_VSENS_EN
    else if sensor = 2 then s.flag F.AON_TAMPER_CFG_TSENS_EN else s.flag F.AON_TAMPER_CFG_FSENS_EN

/-- TAMPER_DETECT (R27, R579, R705, R706). -/
def tamper (s : State) (source sensor : Nat) : State :=
  let s := match source with
    | 1 => s.setFld F.AON_STATUS_TAMPER_IN (s.fld F.AON_STATUS_TAMPER_IN ||| 1)
    | 2 => s.setFld F.AON_STATUS_TAMPER_IN (s.fld F.AON_STATUS_TAMPER_IN ||| 2)
    | 3 => s.setFld F.AON_STATUS_SHLD_BREAK 1
    | _ => s.setFld F.AON_STATUS_SENSOR_ALARM 1
  if !tamperEnabled s source sensor then s
  else
    let s := setCause (tamperRecord (s.count F.AON_TAMPERS_COUNT 1) source sensor) 0x02 0
    if s.dev.inReset || s.devState = 5 then { destroyMask s with sec := { (destroyMask s).sec with zotDue := true } }
    else if s.devState = 4 then s
    else enterSecureHold s

/-- TAMPER_DETECT. `source`: 0 TAMPER0, 1 TAMPER1, 2 shield mesh, 3 to 5 the voltage, temperature and clock sensors. -/
def execTamperDetect (source : Fin 6) (s : State) : Result :=
  .next (if source.val < 3 then tamper s (source.val + 1) 0 else tamper s 4 (source.val - 2))

end Sys2Proof.Machine
end

