-- ==== Sys2Proof/Machine/Power.lean ====
section
/-!
DEFINITION. Sys2Proof/Machine/Power.lean: power modes, mains loss and hold-up, WATCH and the wake-up receiver, the clock monitors, and
the always-on domain behind its shadows (22_power_clocks_and_emc.md).
-/
namespace Sys2Proof.Machine

/-- Storing the state of power and AON. -/
def State.setPow (s : State) (p : Power) : State := { s with pow := p }

/-- One idle period of the model, 4 ns, in AON (R692). -/
def aonTick (s : State) (periods : Nat) : State :=
  let n := s.pow.aonCycles + periods
  (s.setPow { s.pow with aonCycles := n }).setFld F.AON_TIME_SECONDS (n / 250000000)

/-- An entry of the WATCH log (R707): a ring of 32. -/
def watchNote (s : State) (kind addr cmd rssi : Nat) : State :=
  let e : WatchNote := { kind := kind, time := s.fld F.AON_TIME_SECONDS, addr := addr, cmd := cmd, rssi := rssi, seq := s.pow.noteSeq }
  let log := s.pow.watchLog ++ [e]
  s.setPow { s.pow with watchLog := log.drop (log.length - 32), noteSeq := s.pow.noteSeq + 1 }

/-- A MAINS_LOST event (R709). -/
def mainsLost (s : State) (kind lowMs : Nat) : State :=
  s.event 0x00 0 0x1601 (if kind = 2 then 1 else 3) (leBytes 1 kind ++ leBytes 1 s.devState ++ leBytes 4 lowMs)

/-! ### Power mode (R684, R685) -/

/-- A write of the bits `mask` of `SYS.CTRL`: ignored during HOLD-UP (R685). The mode changes at the next superframe boundary. -/
def sysCtrlWrite (s : State) (src : Requester) (data mask : Word) : State :=
  if holdUp s then s else writeFields s src A.SYS_CTRL data mask

/-- PWR_REQ_WRITE. -/
def execPwrReqWrite (src : Requester) (data : Word) (s : State) : Result :=
  .next (gateWrite s src A.SYS_CTRL (fun s => sysCtrlWrite s src data allBits))

/-! ### Hold-up (R687–R691) -/

/-- Every last-gasp frame has been sent or abandoned (R689). -/
def lgSettle (s : State) : State :=
  if s.pow.lgOpen && s.pow.lgDue.isEmpty then
    let s := s.event 0x00 0 0x1604 2 (leBytes 1 s.pow.lgSent ++ leBytes 1 s.pow.lgDropped)
    setCause (s.setPow { s.pow with lgOpen := false }) 0x00 4
  else s

/-- The last-gasp frames that fall due, in increasing frame on each port whose link is up (R689). -/
def lgPairs (s : State) : List (Nat × Nat) :=
  [0, 1].flatMap (fun x =>
    if s.flag (F.EM_STATUS_LINK x) then
      ((List.range 4).filter (fun k => s.flag (F.SYS_LG_CFG_EN k) && bit (s.fld (F.SYS_LG_CFG_PORTS k)) x)).map (fun k => (x, k))
    else [])

/-- The last-gasp frames begin; a port in LPI leaves it first (R689). -/
def lgBegin (s : State) : State :=
  let due := lgPairs s
  let s := due.foldl (fun (t : State) d => leaveLpi t d.1) s
  lgSettle (s.setPow { s.pow with lgDue := due, lgSent := 0, lgDropped := 0, lgOpen := true })

/-- A lane starts no new transmission: those not yet on air are dropped, and what they were charged is given back (R688). -/
def laneQuiet (s : State) (n : Nat) : State :=
  (s.lane n).txs.foldl (fun (t : State) x =>
    if x.stage = 4 then t
    else
      let t := if x.stage = 0 then t else giveBack t n x
      setTxs t n (dropTx (fun k => k == x.stage) (t.lane n).txs)) s

/-- HOLD-UP begins (R688). -/
def startHoldUp (s : State) : State :=
  let old := s.fld F.SYS_STATUS_PWR_MODE
  let taken := s.pow.entry
  let s := s.setFld F.SYS_STATUS_PWR_MODE 2
  let s := setCause (s.event 0x00 0 0x1600 1 (leBytes 1 old ++ leBytes 1 2)) 0x00 0
  let s := setCause (mainsLost (s.count F.AON_HOLDUPS_COUNT 1) 1 0) 0x00 2
  let s := s.setPow { s.pow with entry := some {
    cause := 1, wurWake := false, committed := false, commanded := taken.any (fun e => e.commanded) } }
  let s := (List.range 4).foldl laneQuiet s
  let s := [1, 2, 3].foldl laneOff s
  lgBegin s

/-- A low level of MAINS_OK has lasted the grace (R687). In BOOT nothing follows before its end (R163). -/
def mainsGone (s : State) : State :=
  if s.ready then (if holdUp s then s else startHoldUp s)
  else if s.answers && (s.devState == 3 || s.devState == 4) then mainsLost s 3 0
  else s

/-- The entry to READY, or to MAINTENANCE, finds mains power lost for the grace (R163, R687). -/
def mainsCheck (s : State) : State :=
  if s.flag F.AON_STATUS_MAINS_OK || s.flag F.AON_STATUS_GRACE then s else mainsGone s

/-- A commit to WATCH has been made (R690). -/
def watchCommitted (s : State) : Bool := s.pow.entry.any (fun e => e.committed)

/-- MAINS_OK_FALL: the filtered edge (R687). After the commit to WATCH it changes nothing but the level (R691). -/
def mainsFall (s : State) : State :=
  let s := s.setFld F.AON_STATUS_MAINS_OK 0
  if !s.dev.inReset && s.devState = 5 then s.setPow { s.pow with wasLow := true }
  else if watchCommitted s then s
  else
    let s := s.setPow { s.pow with edge := s.now, edgeGen := s.fld F.DTM_STATUS_STEP_GEN, lowAt := s.pow.aonCycles }
    let s := if s.answers then setCause (s.setFld F.SYS_STATUS_MAINS_OK 0) 0x00 1 else s.setFld F.SYS_STATUS_MAINS_OK 0
    if holdUp s then s
    else if s.fld F.AON_MAINS_CFG_GRACE_MS = 0 then mainsGone s
    else s.setFld F.AON_STATUS_GRACE 1

/-- MAINS_OK_FALL. -/
def execMainsOkFall (s : State) : Result := .next (if s.flag F.AON_STATUS_MAINS_OK then mainsFall s else s)

/-- MAINS_GRACE_EXPIRY. -/
def execMainsGraceExpiry (s : State) : Result :=
  .next (if s.flag F.AON_STATUS_GRACE then mainsGone (s.setFld F.AON_STATUS_GRACE 0) else s)

/-- MAINS_OK returns: within the grace the low level was a glitch (R687). HOLD-UP goes on (R688); in WATCH the restore interval begins. -/
def mainsRise (s : State) : State :=
  let s := s.setFld F.AON_STATUS_MAINS_OK 1
  let s := if !s.dev.inReset && s.devState = 5 then s else s.setFld F.SYS_STATUS_MAINS_OK 1
  if s.flag F.AON_STATUS_GRACE then
    let s := (s.setFld F.AON_STATUS_GRACE 0).count F.AON_MAINS_GLITCHES_COUNT 1
    let s := watchNote s 6 0 0 0
    if s.answers then mainsLost s 2 ((s.pow.aonCycles - s.pow.lowAt) / 250000) else s
  else s

/-- MAINS_OK_RISE. -/
def execMainsOkRise (s : State) : Result := .next (if s.flag F.AON_STATUS_MAINS_OK then s else mainsRise s)

/-- The bytes of last-gasp frame `k`, with the time of the filtered edge where TS_OFF names a place (R689). -/
def lgFrame (s : State) (k : Nat) : List Byte :=
  let words := (List.range 64).map (fun w => leBytes 4 (Tbl.get (fun _ => 0#32) s.pow.lgWords (64 * k + w)).toNat)
  let bs := words.flatten.take (s.fld (F.SYS_LG_CFG_LEN k))
  let ts := s.fld (F.SYS_LG_CFG_TS_OFF k)
  if ts = 0 then bs else splice bs ts (stampOf s.pow.edge s.pow.edgeGen)

/-- The port is in the middle of a frame (R506). -/
def midFrame (s : State) (x : Nat) : Bool :=
  match (s.egress x).serving with
  | none => false
  | some q => match (s.queue q).items with
    | i :: _ => i.begun
    | [] => false

/-- The next last-gasp frame of port `x` is sent (R689). -/
def lastGaspTx (s : State) (x : Nat) : State :=
  match s.pow.lgDue.find? (fun d => d.1 == x) with
  | none => s
  | some d =>
    let prot := s.flag (F.EM_MACSEC_CFG_TX_PROTECT x)
    let able := gcmFree s && !s.flag (F.EM_STATUS_MACSEC_HALT x) && (txAssoc s x (s.fld (F.EM_MACSEC_CFG_TX_AN x))).en
    if !portUp s x || midFrame s x then s
    else if prot && !able then gcmHeld s
    else if s.flag (F.EM_STATUS_LPI_TX x) || (s.port x).waking then leaveLpi s x
    else
      let bs := lgFrame s d.2
      let p := if prot then protect s x bs else (bs, s)
      let s := (p.2.send (.eth x (withFcs (padFrame p.1)))).count (F.EM_TX_FRAMES_COUNT x) 1
      lgSettle (s.setPow { s.pow with lgDue := s.pow.lgDue.filter (fun e => e != d), lgSent := s.pow.lgSent + 1 })

/-- LAST_GASP_TX. -/
def execLastGaspTx (port : EthPort) (s : State) : Result := .next (if s.ready then lastGaspTx s port else s)

/-- LG_TIMEOUT_EXPIRY: frames not begun are not sent (R689). -/
def execLgTimeoutExpiry (s : State) : Result :=
  .next (if s.ready && s.pow.lgOpen then
      lgSettle (s.setPow { s.pow with lgDue := [], lgDropped := s.pow.lgDropped + s.pow.lgDue.length })
    else s)

/-- The commands in flight at the commit, in ring order: one whose commit has begun reports its outcome, WATCH_ENTER completes OK, the
others NOT_ACTIVE (R128, R134, R690). -/
def watchCommands (s : State) : State :=
  let s := (s.sec.repl.filter Replace.begun).foldl completeReplace s
  eachCmd s (fun t id c => if descOpcode c.desc = 0x0004 then finish t id 0x00 [] else stopCmd t id)

/-- Every record of a source that is written while its completion ring has room. -/
def writeRecords : Nat → State → Nat → State
  | 0, s, _ => s
  | n + 1, s, k => writeRecords n (completionWrite s k) k

/-- The parts of a source's commands not yet written. -/
def recordsLeft (s : State) (k : Nat) : Nat := (s.ring k).cmds.foldl (fun n c => n + c.parts.length + 1) 1

/-- The commit to WATCH (R690). -/
def watchCommit (s : State) (e : WatchEntry) : State :=
  let s := watchCommands s
  let s := (usedParcels s).foldl (fun (t : State) p => (dropAll t p).2) s
  let s := (List.range 5).foldl (fun (t : State) k => writeRecords (recordsLeft t k) t k) s
  let s := flushEvents s.log.queue.length s
  s.setPow { s.pow with entry := some { e with committed := true } }

/-- WATCH_COMMIT: no lane transmission is in progress, and every last-gasp frame has been sent or abandoned. -/
def execWatchCommit (s : State) : Result :=
  .next (match s.pow.entry with
    | none => s
    | some e =>
      if s.ready && !e.committed && !s.pow.lgOpen && (List.range 4).all (fun n => laneState s n != 4) then watchCommit s e else s)

/-! ### WATCH (R690–R693) -/

/-- WATCH is reached: every domain but AON and WUR is isolated (R690, R692). -/
def enterWatch (s : State) (e : WatchEntry) : State :=
  let s := (List.range 4).foldl toOff s
  let s := (s.setFld F.SYS_STATUS_DEV_STATE 5).count F.AON_WATCH_ENTRIES_COUNT 1
  let s := s.setFld F.AON_WATCH_INFO_ENTRY e.cause
  let s := watchNote s e.cause 0 0 0
  { s with
    dev := { s.dev with lastTrans := if e.cause = 1 then 0x08 else 0x09, engines := [] },
    boot := { s.boot with pllLocked := false },
    host := HostIf.init s.host.perstLow,
    mgm := { s.mgm with vid := none },
    pow := { s.pow with entry := none, watchCause := e.cause, wurWake := e.wurWake, watchAt := s.fld F.AON_TIME_SECONDS, ignored := 0,
                        wasLow := !s.flag F.AON_STATUS_MAINS_OK } }

/-- The OK record of the WATCH_ENTER that made the entry waits for room in its completion ring (R134). -/
def watchRecordDue (s : State) (e : WatchEntry) : Bool :=
  e.cause == 2 && (allCmds s).any (fun c => descOpcode c.desc == 0x0004 && !c.lost)

/-- WATCH_ENTRY_DONE. -/
def execWatchEntryDone (s : State) : Result :=
  .next (match s.pow.entry with
    | some e => if s.ready && e.committed && !watchRecordDue s e then enterWatch s e else s
    | none => s)

/-- In WATCH. -/
def inWatch (s : State) : Bool := !s.dev.inReset && s.devState == 5

/-- The exit from WATCH for BOOT, with reset code 0x06 (R693): exit cause 1 MAINS_OK, 2 wake. -/
def leaveWatch (s : State) (exit : Nat) (note : State → State) : State :=
  let s := (s.setFld F.AON_WATCH_INFO_EXIT exit).setFld F.AON_WATCH_S_SECONDS (s.fld F.AON_TIME_SECONDS - s.pow.watchAt)
  let s := note s
  let s := s.setPow { s.pow with resume := true }
  enterBoot (resetEffects s 6 (if exit = 1 then 0x0A else 0x0B))

/-- MAINS_RESTORE_EXPIRY: MAINS_OK high without interruption for RESTORE_MS (R693). `elapsed`: the seconds that have passed in WATCH. -/
def execMainsRestoreExpiry (elapsed : Nat) (s : State) : Result :=
  .next (if inWatch s && s.flag F.AON_STATUS_MAINS_OK && (s.pow.watchCause = 1 || s.pow.wasLow) then
      leaveWatch (aonTick s (250000000 * elapsed)) 1 (fun s => watchNote s 3 0 0 0)
    else s)

/-- The receiver listens (R694, R696, R697, R699). -/
def wurListens (s : State) : Bool :=
  !outside (s.fld F.WUR_FREQ_FREQ) 0x640000 0xFF0000 && !s.flag F.AON_STATUS_RC_CLK
    && ((inWatch s && (if s.pow.watchCause = 1 then s.flag F.AON_WATCH_CFG_WUR_HOLDUP else s.pow.wurWake))
      || (s.answers && s.devState == 3 && s.flag F.WUR_CTRL_TEST))

/-- A telegram with exact preamble and correct CRC is for this device (R695). -/
def wurMatches (s : State) (addr cmd : Nat) : Bool :=
  ((addr != 0 && addr = s.fld F.WUR_ADDR_ADDR) || (s.fld F.WUR_GROUP_ADDR != 0 && addr = s.fld F.WUR_GROUP_ADDR))
    && (cmd &&& s.fld F.WUR_MATCH_MASK) == (s.fld F.WUR_MATCH_CMD &&& s.fld F.WUR_MATCH_MASK)

/-- A matching telegram (R695–R697). -/
def wurMatch (s : State) (addr cmd rssi : Nat) : State :=
  let s := s.count F.WUR_MATCHES_COUNT 1
  let s := ((s.setFld F.WUR_LAST_CMD cmd).setFld F.WUR_LAST_RSSI rssi).setFld F.WUR_LAST_ADDR_ADDR addr
  if !inWatch s then setCause s 0x03 0
  else if s.pow.watchAt + s.fld F.AON_WATCH_CFG_MIN_SLEEP_S ≤ s.fld F.AON_TIME_SECONDS
      && (s.flag F.AON_STATUS_MAINS_OK || s.flag F.AON_WATCH_CFG_BATT_WAKE) then
    leaveWatch (setCause s 0x03 1) 2 (fun s => watchNote s 4 addr cmd rssi)
  else
    let s := watchNote (s.count F.AON_WAKES_IGNORED_COUNT 1) 5 addr cmd rssi
    s.setPow { s.pow with ignored := s.pow.ignored + 1 }

/-- A telegram at the wake-up receiver. -/
def wurReceive (s : State) (preamble crcOk : Bool) (addr cmd rssi : Nat) : State :=
  if !wurListens s then s
  else if !crcOk then (if preamble then s.count F.WUR_CRC_ERRORS_COUNT 1 else s)
  else
    let s := s.count F.WUR_TELEGRAMS_COUNT 1
    if preamble && wurMatches s addr cmd then wurMatch s addr cmd rssi else s

/-- WUR_TELEGRAM_RX. -/
def execWurTelegramRx (preamble crcOk : Bool) (addr : Word) (cmd rssi : Byte) (elapsed : Nat) (s : State) : Result :=
  .next (wurReceive (if inWatch s then aonTick s (250000000 * elapsed) else s) preamble crcOk addr.toNat cmd.toNat rssi.toNat)

/-! ### Clock monitors (R698, R699) -/

/-- A change of a monitor is reported, or kept for the next boot while CORE stands (R699). -/
def clockChange (s : State) (monitor what : Nat) : State :=
  if s.answers then
    setCause (s.event 0x00 0 0x1603 (if what = 1 then 3 else 1) (leBytes 1 monitor ++ leBytes 1 what)) 0x00 3
  else s.setPow { s.pow with clockDue := s.pow.clockDue ++ [(monitor, what)] }

/-- A reference is lost. -/
def clockLoss (s : State) (monitor : Nat) : State :=
  match monitor with
  | 0 =>
    if s.pow.stopped then s
    else
      let s := watchNote (s.setFld F.AON_STATUS_REF40_OK 0) 7 0 0 0
      clockChange (s.setPow { s.pow with stopped := true }) 0 1
  | 1 =>
    if s.pow.refLost.contains 1 then s
    else
      let s := s.setPow { s.pow with refLost := s.pow.refLost ++ [1] }
      let s := (s.setFld F.SYS_CLK_STATUS_REF125_OK 0).setFld F.SYS_CLK_STATUS_SERDES_PLL 0
      let s := if s.operating then setRate (setRate s 0 0 false) 1 0 false else s
      let s := if s.ready && s.red.en then setLink s 0 1 else s
      clockChange s 1 1
  | 2 =>
    if s.pow.refLost.contains 2 then s
    else
      let s := s.setPow { s.pow with refLost := s.pow.refLost ++ [2] }
      let s := (s.setFld F.SYS_CLK_STATUS_REF100_OK 0).setFld F.SYS_CLK_STATUS_PCIE_PLL 0
      let s := if s.answers then linkChange s false 0 0 else s
      clockChange s 2 1
  | _ =>
    let s := s.setPow { s.pow with xtalBack := false }
    if s.flag F.AON_STATUS_RC_CLK then s
    else
      let s := setCause (s.setFld F.AON_STATUS_RC_CLK 1) 0x02 1
      clockChange ((watchNote s 8 0 0 0).setFld F.SYS_CLK_STATUS_XTAL_OK 0) 3 1

/-- CLOCK_REF_LOSS. `monitor`: 0 40 MHz, 1 125 MHz, 2 100 MHz, 3 crystal. -/
def execClockRefLoss (monitor : Fin 4) (s : State) : Result := .next (clockLoss s monitor)

/-- A reference returns. The crystal is not used before XTAL_STABLE_EXPIRY. -/
def clockRestore (s : State) (monitor : Nat) : State :=
  match monitor with
  | 0 =>
    if !s.pow.stopped then s
    else
      let s := clockChange (s.setFld F.AON_STATUS_REF40_OK 1) 0 2
      s.setPow { s.pow with stopped := false }
  | 1 =>
    if !s.pow.refLost.contains 1 then s
    else
      let s := s.setPow { s.pow with refLost := s.pow.refLost.filter (· != 1) }
      clockChange ((s.setFld F.SYS_CLK_STATUS_REF125_OK 1).setFld F.SYS_CLK_STATUS_SERDES_PLL 1) 1 2
  | 2 =>
    if !s.pow.refLost.contains 2 then s
    else
      let s := s.setPow { s.pow with refLost := s.pow.refLost.filter (· != 2) }
      clockChange ((s.setFld F.SYS_CLK_STATUS_REF100_OK 1).setFld F.SYS_CLK_STATUS_PCIE_PLL (b01 (!s.host.perstLow))) 2 2
  | _ => if s.flag F.AON_STATUS_RC_CLK then s.setPow { s.pow with xtalBack := true } else s

/-- CLOCK_REF_RESTORE. -/
def execClockRefRestore (monitor : Fin 4) (s : State) : Result := .next (clockRestore s monitor)

/-- XTAL_STABLE_EXPIRY: the crystal is used again (R699). -/
def execXtalStableExpiry (s : State) : Result :=
  .next (if s.pow.xtalBack then
      let s := s.setPow { s.pow with xtalBack := false }
      clockChange ((s.setFld F.AON_STATUS_RC_CLK 0).setFld F.SYS_CLK_STATUS_XTAL_OK 1) 3 2
    else s)

/-! ### The last-gasp window -/

/-- A write of `SYS.LG_DATA` (R689): a word of the frame, and the next word. Governed by LOCK1 (R54). -/
def lgDataWrite (s : State) (src : Requester) (data : Word) : State :=
  if s.flag F.SYS_LOCK_LOCK1 then recordErr s 0x00 0x01 src.code A.SYS_LG_DATA
  else
    let w := s.fld F.SYS_LG_SEL_WORD
    let words := Tbl.put (fun _ => 0#32) s.pow.lgWords (64 * s.fld F.SYS_LG_SEL_FRAME + w) data
    (s.setPow { s.pow with lgWords := words }).setFld F.SYS_LG_SEL_WORD ((w + 1) % 64)

/-- LG_DATA_WRITE. -/
def execLgDataWrite (src : Requester) (data : Word) (s : State) : Result :=
  .next (gateWrite s src A.SYS_LG_DATA (fun s => lgDataWrite s src data))

/-! ### AON behind its shadows (R708) -/

/-- What a register of AON or WUR shows in CORE. -/
def aonShadow (s : State) (a : Nat) : Word :=
  match s.pow.shadow.find? (fun e => e.1 == a) with
  | some e => e.2
  | none => s.reg a

/-- The word a write leaves in a register, locks apart: what the shadow shows at once. -/
def aonGuess (s : State) (w : AonWrite) : Word :=
  let s := if w.addr % 0x1000 = 0x024 then s else s.setReg (w.addr / 0x1000 * 0x1000 + 0x024) 0#32
  (plainWrite s w.src w.addr w.data w.mask).reg w.addr

/-- A write to the AON or WUR page from CORE (R15, R708). The SELET loader's writes are complete before its next record (R169, R171). -/
def aonWrite (s : State) (src : Requester) (a : Nat) (data mask : Word) : State :=
  if src = .selet then plainWrite s src a data mask
  else if 8 ≤ s.pow.aonQueue.length then recordErr s 0x02 0x80 src.code a
  else
    let w : AonWrite := { src := src, addr := a, via := a, data := data, mask := mask }
    let shown := aonGuess (s.setReg a (aonShadow s a)) w
    s.setPow { s.pow with aonQueue := s.pow.aonQueue ++ [w], shadow := Tbl.ins a shown (Tbl.erase a s.pow.shadow) }

/-- AON_SHADOW_WRITE. -/
def execAonShadowWrite (src : Requester) (addr : RegAddr) (data : Word) (s : State) : Result :=
  .next (if wordAddr addr / 0x1000 = 2 || wordAddr addr / 0x1000 = 3 then
      gateWrite s src (wordAddr addr) (fun s => aonWrite s src (wordAddr addr) data allBits)
    else s)

/-- The oldest write reaches AON and takes effect; locks are checked there (R51, R708). -/
def aonApply (s : State) : State :=
  match s.pow.aonQueue with
  | [] => s
  | w :: t =>
    let s := s.setPow { s.pow with aonQueue := t, shadow := if t.any (fun v => v.addr == w.addr) then s.pow.shadow else Tbl.erase w.addr s.pow.shadow }
    aliasError s (plainWrite s w.src w.addr w.data w.mask) w.src w.addr w.via

/-- AON_WRITE_APPLY. -/
def execAonWriteApply (s : State) : Result := .next (if s.answers then aonApply s else s)

end Sys2Proof.Machine
end

