-- ==== Sys2Proof/Machine/Views.lean ====
section
/-!
DEFINITION. Sys2Proof/Machine/Views.lean: the registers whose words are computed when they are read, and the windows on the
queue, class or policer that a selector names: FAB, QW and TSS (R470, R471, R498).
-/
namespace Sys2Proof.Machine

/-! ### FAB (R446–R457, R468) -/

/-- The queues in HELD, lowest first (R468). -/
def heldQueues (s : State) : List Nat := (s.fab.queues.filter (fun e => e.2.state == 2)).map (fun e => e.1)

/-- Queues with at least one item. -/
def nonemptyQueues (s : State) : Nat := (s.fab.queues.filter (fun e => e.2.depthNow != 0)).length

/-- The queue with the most items, the lowest on a tie, and its depth. -/
def deepestQueue (s : State) : Nat × Nat :=
  s.fab.queues.foldl (fun d e => if d.2 < e.2.depthNow then (e.1, e.2.depthNow) else d) (0, 0)

/-- `FAB.STATUS.HRX_RUN`. -/
def hrxRun (s : State) : Nat :=
  ((List.range 8).filter (fun k => s.fld (F.FAB_HRX_STATUS_STATE k) == 1)).foldl (fun n k => n + 2 ^ k) 0

/-- Reserved descriptor slots in use: the markers in the queues (R446, R466). -/
def markerSlots (s : State) : Nat := (s.fab.queues.filter (fun e => e.2.items.any (fun i => i.isBreak))).length

/-- The words of FAB that are computed. -/
def fabView (s : State) (a : Nat) : Option Nat :=
  if a = A.FAB_STATUS then some (hrxRun s)
  else if a = A.FAB_HELD_COUNT then some (heldQueues s).length
  else if a = A.FAB_SRAM_CELLS_USED then some s.fab.sramUsed.length
  else if a = A.FAB_DRAM_CELLS_USED then some s.fab.dramUsed.length
  else if a = A.FAB_DESC_USED then some (s.fab.descSram + s.fab.descDram + markerSlots s)
  else if a = A.FAB_NONEMPTY then some (nonemptyQueues s)
  else if a = A.FAB_DEEPEST_Q then some (deepestQueue s).1
  else if a = A.FAB_DEEPEST_DEPTH then some (deepestQueue s).2
  else none

/-! ### The queue window (R459, R460, R466, R469, R471) -/

/-- `QW_STATE` of a queue. -/
def Queue.stateWord (q : Queue) : Nat :=
  q.state + 4 * b01 (q.depthNow == 0) + 8 * b01 (q.items.any (fun i => i.begun && !i.committed))
    + 16 * b01 (!q.producing.isEmpty || q.items.any (fun i => !i.committed)) + 256 * b01 q.underrun
    + 512 * b01 q.breakPending.isSome

/-- The oldest marker of a queue. -/
def Queue.marker (q : Queue) : Option Item := q.items.find? (fun i => i.isBreak)

/-- The map of the held queues 32j to 32j + 31. -/
def heldMap (s : State) (j : Nat) : Nat :=
  ((heldQueues s).filter (fun q => q / 32 == j)).foldl (fun n q => n + 2 ^ (q % 32)) 0

/-- The words of the queue window, of the queue named in `QW_SEL`. -/
def qwView (s : State) (a : Nat) : Option Nat :=
  let q := s.queue (qwQueue s)
  if a = A.QW_QCFG then some q.cfg.toNat
  else if a = A.QW_QLIMIT then some q.limit.toNat
  else if a = A.QW_STATE then some q.stateWord
  else if a = A.QW_DEPTH then some q.depthNow
  else if a = A.QW_BYTES then some q.bytes
  else if a = A.QW_SEQ_NEXT then some q.seqNext
  else if a = A.QW_SEQ_HEAD then some ((q.items.head?.map (fun i => i.qseq)).getD 0)
  else if a = A.QW_BREAK_FIRST then some ((q.marker.map (fun i => i.first)).getD 0)
  else if a = A.QW_BREAK_LAST then some ((q.marker.map (fun i => i.last)).getD 0)
  else if a = A.QW_Q_ENQ then some q.enq
  else if a = A.QW_Q_DROPS then some q.drops
  else if a = A.QW_Q_FLUSHED then some q.flushed
  else if a = A.QW_Q_UNDERRUNS then some q.underruns
  else if A.QW_HELD_MAP 0 ≤ a ∧ a < A.QW_HELD_MAP 128 then some (heldMap s ((a - A.QW_HELD_MAP 0) / 4))
  else none

/-- A computation on registers that hold the words `ws`, by address, for the time of it: the words it leaves, and the state with
these registers at their reset words. -/
def through (s : State) (ws : List (Nat × Word)) (k : State → State) : List Word × State :=
  let t := k (ws.foldl (fun s w => s.setReg w.1 w.2) s)
  (ws.map (fun w => t.reg w.1), ws.foldl (fun s w => s.setReg w.1 (resetWord w.1)) t)

/-- Word `i` of a list, as a number. -/
def wordAt (ws : List Word) (i : Nat) : Nat := ((ws.drop i).headD 0#32).toNat

/-- A write of the bits `mask` of a window register with no function of its own: the flag and the counts of the selected queue
(R47, R459). -/
def qwPlainWrite (s : State) (src : Requester) (a : Nat) (data mask : Word) : State :=
  let n := qwQueue s
  let q := s.queue n
  let w (v : Nat) : Word := BitVec.ofNat 32 v
  let r := through s [(A.QW_STATE, w q.stateWord), (A.QW_Q_ENQ, w q.enq), (A.QW_Q_DROPS, w q.drops), (A.QW_Q_FLUSHED, w q.flushed),
    (A.QW_Q_UNDERRUNS, w q.underruns)] (fun s => writeFields s src a data mask)
  r.2.setQueue n { r.2.queue n with
    underrun := bit (wordAt r.1 0) 8, enq := wordAt r.1 1, drops := wordAt r.1 2, flushed := wordAt r.1 3,
    underruns := wordAt r.1 4 }

/-- A write of the bits `mask` of a register of the queue window. -/
def qwWrite (s : State) (src : Requester) (a : Nat) (data mask : Word) : State :=
  if a = A.QW_SEL then qwSelWrite s src data mask
  else if a = A.QW_QCFG then qwQcfgWrite s src data mask
  else if a = A.QW_QLIMIT then qwQlimitWrite s src data mask
  else if a < A.QW_SEL then plainWrite s src a data mask
  else qwPlainWrite s src a data mask

/-! ### The TSS windows (R477–R486, R498) -/

/-- The queue, class and policer that the selectors name. -/
def tssQueue (s : State) : Nat := s.fld F.TSS_SEL_QUEUE
def tssClass (s : State) : EgressClass := s.cls (s.fld F.TSS_CLS_SEL_EGRESS) (s.fld F.TSS_CLS_SEL_CLASS)
def tssPolicer (s : State) : Policer := s.policer (s.fld F.TSS_POL_SEL_POLICER)

/-- `Q_CREDIT`: the credit of a queue's shaper in bytes, saturating (R478). -/
def Queue.creditWord (q : Queue) : Nat := unsigned 32 (clampSigned 32 (q.shaper.credit / 8000000))

/-- The words of the TSS windows. -/
def tssView (s : State) (a : Nat) : Option Nat :=
  let q := s.queue (tssQueue s)
  if a = A.TSS_Q_SHAPE then some q.shape.toNat
  else if a = A.TSS_Q_BURST then some q.burst.toNat
  else if a = A.TSS_Q_SCHED then some q.sched.toNat
  else if a = A.TSS_Q_CREDIT then some q.creditWord
  else if a = A.TSS_CLS_CFG then some (tssClass s).cfg.toNat
  else if a = A.TSS_CLS_RATE then some (tssClass s).rate.toNat
  else if a = A.TSS_CLS_BURST then some (tssClass s).burst.toNat
  else if a = A.TSS_POL_CIR then some (tssPolicer s).cir.toNat
  else if a = A.TSS_POL_CBS then some (tssPolicer s).cbs.toNat
  else if a = A.TSS_POL_PIR then some (tssPolicer s).pir.toNat
  else if a = A.TSS_POL_PBS then some (tssPolicer s).pbs.toNat
  else if a = A.TSS_POL_GREEN then some (tssPolicer s).green
  else if a = A.TSS_POL_YELLOW then some (tssPolicer s).yellow
  else if a = A.TSS_POL_RED then some (tssPolicer s).red
  else none

/-- A write of the bits `mask` of a queue's shaping registers. -/
def tssQueueWrite (s : State) (src : Requester) (a : Nat) (data mask : Word) : State :=
  let n := tssQueue s
  let q := s.queue n
  let r := through s [(A.TSS_Q_SHAPE, q.shape), (A.TSS_Q_BURST, q.burst), (A.TSS_Q_SCHED, q.sched)]
    (fun s => writeFields s src a data mask)
  let w (i : Nat) : Word := (r.1.drop i).headD 0#32
  r.2.setQueue n { r.2.queue n with shape := w 0, burst := w 1, sched := w 2 }

/-- A write of the bits `mask` of a class's registers. -/
def tssClassWrite (s : State) (src : Requester) (a : Nat) (data mask : Word) : State :=
  let c := tssClass s
  let r := through s [(A.TSS_CLS_CFG, c.cfg), (A.TSS_CLS_RATE, c.rate), (A.TSS_CLS_BURST, c.burst)]
    (fun s => writeFields s src a data mask)
  let w (i : Nat) : Word := (r.1.drop i).headD 0#32
  r.2.setCls (s.fld F.TSS_CLS_SEL_EGRESS) (s.fld F.TSS_CLS_SEL_CLASS) { c with cfg := w 0, rate := w 1, burst := w 2 }

/-- A write of the bits `mask` of a policer's registers. -/
def tssPolicerWrite (s : State) (src : Requester) (a : Nat) (data mask : Word) : State :=
  let p := tssPolicer s
  let n (v : Nat) : Word := BitVec.ofNat 32 v
  let r := through s [(A.TSS_POL_CIR, p.cir), (A.TSS_POL_CBS, p.cbs), (A.TSS_POL_PIR, p.pir), (A.TSS_POL_PBS, p.pbs),
    (A.TSS_POL_GREEN, n p.green), (A.TSS_POL_YELLOW, n p.yellow), (A.TSS_POL_RED, n p.red)]
    (fun s => writeFields s src a data mask)
  let w (i : Nat) : Word := (r.1.drop i).headD 0#32
  r.2.setPolicer (s.fld F.TSS_POL_SEL_POLICER) { p with
    cir := w 0, cbs := w 1, pir := w 2, pbs := w 3, green := (w 4).toNat, yellow := (w 5).toNat, red := (w 6).toNat }

/-- A write of the bits `mask` of a register of TSS. A new selection makes a snapshot no longer the selected queue's (R496). -/
def tssWrite (s : State) (src : Requester) (a : Nat) (data mask : Word) : State :=
  let off := a % 0x1000
  if a = A.TSS_SEL then (writeFields s src a data mask).setFld F.TSS_ST_SAMPLES_VALID 0
  else if 0x040 ≤ off ∧ off < 0x04C then tssQueueWrite s src a data mask
  else if a = A.TSS_ST_CTRL then
    let s := if bit data.toNat 1 && bit mask.toNat 1 then clearStats s else s
    if bit data.toNat 0 && bit mask.toNat 0 then snapStart s else s
  else if 0x100 ≤ off ∧ off < 0x10C then tssClassWrite s src a data mask
  else if 0x110 ≤ off ∧ off < 0x12C then tssPolicerWrite s src a data mask
  else plainWrite s src a data mask

end Sys2Proof.Machine
end

