-- ==== Sys2Proof/Machine/Verdict.lean ====
section
/-!
DEFINITION. Sys2Proof/Machine/Verdict.lean: the acceptance checks of a descriptor and its minimum timeout (R120–R127).
-/
namespace Sys2Proof.Machine

/-! ### The opcode map (R120) -/

/-- The device states in which an opcode runs; none: the opcode is reserved. -/
def statesOf : Nat → Option (List Nat)
  | 0x0001 => some [1, 2, 3, 4]
  | 0x0002 | 0x0004 | 0x0006 | 0x0104 | 0x0105 | 0x0402 => some [2]
  | 0x0003 | 0x0005 => some [3]
  | 0x0101 | 0x0102 | 0x0103 | 0x0106 | 0x0201 | 0x0202 | 0x0203 | 0x0301 | 0x0302 | 0x0401 | 0x0403 | 0x0404 | 0x0501 => some [2, 3]
  | _ => none

/-- The bytes of the parameter area that a command's layout names, as offset and length. -/
def namedBytes : Nat → List (Nat × Nat)
  | 0x0002 | 0x0004 => [(16, 1)]
  | 0x0005 => [(16, 4), (20, 1)]
  | 0x0101 => [(16, 8), (24, 1), (26, 2), (28, 4), (32, 1), (33, 1), (34, 1)]
  | 0x0102 | 0x0103 | 0x0403 | 0x0404 => [(16, 4)]
  | 0x0104 => [(16, 4), (20, 1), (21, 1), (22, 1), (24, 2), (28, 8)]
  | 0x0105 => [(16, 4), (20, 1), (21, 1), (22, 1), (23, 1)]
  | 0x0106 => [(16, 1), (18, 2), (20, 2)]
  | 0x0201 => [(16, 2), (18, 2), (20, 1), (24, 8)]
  | 0x0202 => [(16, 2)]
  | 0x0203 => [(16, 2), (18, 1)]
  | 0x0301 => [(16, 2), (18, 2), (20, 4), (24, 4), (28, 2), (32, 8)]
  | 0x0302 => [(16, 2), (18, 1)]
  | 0x0401 => [(16, 1), (20, 4), (24, 8)]
  | 0x0402 => [(16, 1), (17, 1), (20, 4), (24, 4)]
  | 0x0501 => [(16, 8), (24, 1)]
  | _ => []

/-- Reserved parameter bytes that are not 0 (R121). -/
def reservedFaults (op : Nat) (d : List Byte) : List (Nat × Bool) :=
  ((List.range 48).map (16 + ·)).map (fun b => (b, !(namedBytes op).any (fun n => n.1 ≤ b && b < n.1 + n.2) && fieldAt d b 1 != 0))

/-! ### The fields of each command (R123, R131–R151, R710) -/

/-- Selected tests of a BIST_RUN in the order in which they run (R135, R713). -/
def bistTests (d : List Byte) : List Nat :=
  (List.range 28).filter (bit (fieldAt d 16 4)) ++ (if bit (fieldAt d 20 1) 0 then [0xF0] else [])
    ++ (if bit (fieldAt d 20 1) 1 then [0xF1] else [])

/-- The bow is present on the mirror link of a stroke (R131). -/
def bowPresent (s : State) : Bool := role s == 1 && 2 ≤ link s

/-- DATUM_STEP beyond the jump threshold without FORCE (R151). -/
def stepRefused (s : State) (d : List Byte) : Bool :=
  !bit (fieldAt d 24 1) 0 && s.fld F.DTM_JUMP_THRESH_NS < (signed 64 (fieldAt d 16 8)).natAbs

/-- The largest LEN of a FRAME_INJECT into a queue (R452). -/
def injectMax (s : State) (q : Nat) (appendFcs : Bool) : Nat :=
  s.fld (F.EM_FRAME_CFG_MAX_FRAME ((s.queue q).dest - 2)) - (if appendFcs then 4 else 0)

/-- The checks of a command's fields: the offset of each, and whether it fails. -/
def fieldFaults (s : State) (op : Nat) (d : List Byte) : List (Nat × Bool) :=
  let b (i : Nat) : Nat := fieldAt d i 1
  let h (i : Nat) : Nat := fieldAt d i 2
  let w (i : Nat) : Nat := fieldAt d i 4
  match op with
  | 0x0002 => [(16, 1 < b 16 || (bowPresent s && b 16 == 0))]
  | 0x0004 => [(16, 1 < b 16)]
  | 0x0005 => [(16, 2 ^ 28 ≤ w 16 || (bistTests d).isEmpty), (20, 3 < b 20)]
  | 0x0101 =>
    [(16, (findEui s (slice d 16 8)).isSome), (24, 2 < b 24), (26, 511 < h 26),
     (28, if b 24 = 1 then w 28 == 0 || bit (w 28) 31 else w 28 != 0), (32, outside (b 32) 6 12), (33, outside (b 33) (b 32) 12)]
  | 0x0102 | 0x0103 => [(16, parcelCount ≤ w 16)]
  | 0x0104 =>
    let p := w 16
    [(16, parcelCount ≤ p), (20, 3 < b 20), (21, 7 < b 21), (22, 3 < b 22),
     (24, h 24 == 0 || (p < parcelCount && pInUse s p && lenMax s p (bit (b 20) 1) < h 24))]
  | 0x0105 =>
    [(16, w 16 == 0 || bit (w 16) 31 != bit (b 22) 0), (20, 0x83 ≤ b 20), (21, 3 < b 21), (22, 2 < b 22), (23, 7 < b 23)]
  | 0x0106 => [(16, 3 < b 16), (18, 255 < h 18), (20, h 20 == 0 || 256 < h 20 || 256 < h 18 + h 20)]
  | 0x0201 =>
    [(16, 4095 < h 16 || !((s.queue (h 16)).dest == 2 || (s.queue (h 16)).dest == 3)),
     (18, outside (h 18) 14 (injectMax s (h 16) (bit (b 20) 0))), (20, 3 < b 20)]
  | 0x0202 => [(16, 4095 < h 16)]
  | 0x0203 => [(16, 4095 < h 16), (18, 1 < b 18)]
  | 0x0301 =>
    [(16, 511 < krSlot d), (18, 511 < krKek d), (20, badAttr (krAttr d)), (24, krEpoch d ≤ (s.slot (krSlot d)).epoch),
     (28, krWlen d != (if krAttr d % 4 = 0 then 24 else 40))]
  | 0x0302 => [(16, !bit (b 18) 0 && 511 < h 16), (18, 1 < b 18)]
  | 0x0401 => [(16, 7 < b 16), (20, outside (w 20) 1 2097152)]
  | 0x0402 =>
    [(16, 7 < b 16 || !bit (s.fld F.UPD_STATUS_IMG_VALID) (b 16)), (17, b 17 == 0 || 15 < b 17),
     (24, w 24 ≤ s.fld F.UPD_CFG_INVITE_SF)]
  | 0x0403 | 0x0404 => [(16, (recordOf s (w 16)).isNone)]
  | 0x0501 => [(16, stepRefused s d), (24, 1 < b 24)]
  | _ => []

/-- The lowest offset that fails. -/
def lowestFault (l : List (Nat × Bool)) : Option Nat :=
  l.foldl (fun best e => if e.2 && best.all (fun b => e.1 < b) then some e.1 else best) none

/-- The header's reserved bits and bytes that are not 0 (R91). -/
def headerFaults (d : List Byte) : List (Nat × Bool) := [(2, 7 < fieldAt d 2 1), (3, fieldAt d 3 1 != 0), (12, fieldAt d 12 4 != 0)]

/-! ### Timeouts (R120, R125–R127, R716) -/

/-- Fabric units per µs in 1/1,024 that account 18 of the Cox unit allows (R716). -/
def bistRate (s : State) : Nat := 800 * s.fld (F.COX_ACCT_CFG_EFFECTIVE 18)

/-- Duration of a test in µs, as computed when the BIST_RUN is taken (R710, R716). -/
def testMicros (s : State) (t : Nat) : Nat :=
  if t < 16 then 12000
  else if t = 16 then 30000
  else if t = 17 then 20000
  else if t = 18 then 25000
  else if t ≤ 22 then 15000
  else if t = 23 then 8000
  else if t ≤ 26 then 6000
  else if t = 27 then 4000
  else if bistRate s = 0 then 2 ^ 40
  else if t = 0xF0 then ceilDiv (3932160 * 1024) (bistRate s)
  else ceilDiv (41943040 * 1024) (min (bistRate s) (400 * 1024))

/-- P of R125: the period of the node's downlink slot, 1 for a node without one. -/
def dlPeriod (s : State) (p : Nat) : Nat :=
  match carrierOf s p with
  | some e => ppPeriod (ePp (entryW0 s e))
  | none => 1

/-- The minimum timeout W in µs (R125); for a DL_SEND to a parcel not yet in use that of an empty mailbox and a period of 1 (log
entry 110). -/
def minTimeout (s : State) (op : Nat) (d : List Byte) : Nat :=
  let p := fieldAt d 16 4
  match op with
  | 0x0001 => 500
  | 0x0002 => 8193000
  | 0x0003 | 0x0101 | 0x0202 | 0x0501 => 1000
  | 0x0004 => 50000
  | 0x0005 => (bistTests d).foldl (fun n t => n + testMicros s t) 1000
  | 0x0006 => 16384000
  | 0x0102 => 2000
  | 0x0103 | 0x0201 => 200
  | 0x0104 =>
    if bit (fieldAt d 20 1) 0 then 1000
    else if p < parcelCount && pInUse s p then
      (mbxCount s p + 1) * (fieldAt d 21 1 + 1) * dlPeriod s p * 8192000 + 8192000
    else (fieldAt d 21 1 + 1) * 8192000 + 8192000
  | 0x0105 => (fieldAt d 23 1 + 1) * 100000
  | 0x0106 => fieldAt d 20 2 * 158 + 1000
  | 0x0203 => 100
  | 0x0301 => 20000
  | 0x0302 => if bit (fieldAt d 18 1) 0 then 2000000 else 20000
  | 0x0401 => 50000
  | _ => 10000

/-- The default timeout of an opcode in µs, where it is not equal to the minimum (R120). -/
def defaultTimeout (op : Nat) (d : List Byte) : Nat :=
  match op with
  | 0x0002 => 10000000
  | 0x0004 | 0x0301 => 100000
  | 0x0005 | 0x0105 => 0
  | 0x0006 => 20000000
  | 0x0104 => if bit (fieldAt d 20 1) 0 then 10000 else 0
  | 0x0106 | 0x0302 => 2000000
  | 0x0401 => 200000
  | _ => 10000

/-- TIMEOUT_US of a descriptor. -/
def descTimeout (d : List Byte) : Nat := fieldAt d 8 4

/-- The timeout is too short, or no timeout could be long enough (R122, R126). -/
def timeoutFault (s : State) (op : Nat) (d : List Byte) : Bool :=
  let w := minTimeout s op d
  0xFFFFFFFF < w || (descTimeout d != 0 && descTimeout d < w)

/-- The timeout that applies (R125). -/
def timeoutOf (s : State) (d : List Byte) : Nat :=
  if descTimeout d = 0 then max (defaultTimeout (descOpcode d) d) (minTimeout s (descOpcode d) d) else descTimeout d

/-! ### State, role, locks, keys, resources -/

/-- The device state permits the opcode; after a BIST, and without a bundle, only what R712 and R180 leave. -/
def statePermits (s : State) (op : Nat) (d : List Byte) : Bool :=
  ((statesOf op).getD []).contains s.devState
    && (!s.dev.bistRan || op == 0x0001 || op == 0x0003 || op == 0x0005)
    && (s.devState != 3 || s.dev.fwVersion.isSome || op == 0x0001)
    && (op != 0x0105 || s.flag (F.MAC_WAKE_CFG_EN (fieldAt d 21 1)))

/-- A field the command would change is locked (R576). -/
def lockedBy (s : State) (op : Nat) (d : List Byte) : Bool :=
  match op with
  | 0x0301 => slotLocked s (krSlot d)
  | 0x0302 => !bit (fieldAt d 18 1) 0 && slotLocked s (fieldAt d 16 2)
  | _ => false

/-- A key slot's attributes forbid the use (R137, R434, R572). -/
def keyForbids (s : State) (op : Nat) (d : List Byte) : Bool :=
  match op with
  | 0x0101 => (slotKey s (fieldAt d 26 2) destKdf).isNone
  | 0x0301 => (slotKeyUse s (krKek d) none 10).isNone
  | 0x0402 => (deliverRoot s).isNone
  | _ => false

/-- A command of opcode `op`, or of any opcode, is in flight. -/
def inFlight (s : State) (op : Option Nat) : Bool :=
  (allCmds s).any (fun c => match op with
    | none => true
    | some o => !c.done && descOpcode c.desc == o)

/-- RESULT of a NO_RESOURCE; none where the resources are there. -/
def shortOf (s : State) (op : Nat) (d : List Byte) : Option (List Byte) :=
  let p := fieldAt d 16 4
  match op with
  | 0x0003 => if s.dev.bistRan && inFlight s none then some [] else none
  | 0x0004 => if inFlight s none then some [] else none
  | 0x0005 => if inFlight s (some 0x0005) then some [] else none
  | 0x0006 => if link s = 3 then none else some [2#8]
  | 0x0101 => if addFull s (fieldAt d 24 1) = 0 then none else some (leBytes 1 (addFull s (fieldAt d 24 1)))
  | 0x0104 => if pInUse s p && 8 ≤ mbxCount s p then some [] else none
  | 0x0201 => if (s.queue (fieldAt d 16 2)).admits then none else some []
  | 0x0301 => if isZot (krAttr d) && (trngFailed s || s.mask.isNone) then some [4#8] else none
  | 0x0401 => if s.flag (F.UPD_IMG_INFO_IN_SESSION (fieldAt d 16 1)) then some [1#8] else none
  | 0x0402 =>
    match freeSid s with
    | none => some [1#8]
    | some sid =>
      let lanes := maskLanes (fieldAt d 17 1)
      if (planLanes s sid (imgSym s (fieldAt d 16 1)) (s.fld F.MAC_JOIN_CFG_MICLEN) lanes (tableWords s ++ promisedWords s)).isNone then
        some [2#8]
      else none
  | _ => none

/-! ### The verdict (R122) -/

/-- BAD_PARAM at an offset; a registered EUI-64 names its parcel, a refused step is counted (R123, R137, R151). -/
def badParam (s : State) (op : Nat) (d : List Byte) (off : Nat) : List Part × State :=
  let dup := if op = 0x0101 && off = 16 then
      match findEui s (slice d 16 8) with
      | some p => leBytes 2 0 ++ leBytes 4 p
      | none => []
    else []
  let s := if op = 0x0501 && off = 16 then
      (jumpRefused s 2 (signed 64 (fieldAt d 16 8))).count F.DTM_REFUSED_JUMPS_COUNT 1
    else s
  (onePart 0x11 0 (leBytes 2 off ++ dup), s)

/-- The checks of R122 in their order: the parts of a refusal, or none where the descriptor is accepted. A frame that its queue does not
admit is an item refused (R453). -/
def verdict (s : State) (d : List Byte) : Option (List Part) × State :=
  let op := descOpcode d
  let fail (status : Nat) (result : List Byte) : Option (List Part) × State := (some (onePart status 0 result), s)
  if s.devState = 1 && op != 0x0001 then fail 0x50 []
  else if s.devState = 4 && op != 0x0001 then fail 0x31 []
  else if (statesOf op).isNone then fail 0x10 []
  else
    match (lowestFault (headerFaults d)).orElse (fun _ => lowestFault (fieldFaults s op d ++ reservedFaults op d)) with
    | some off =>
      let r := badParam s op d off
      (some r.1, r.2)
    | none =>
      if timeoutFault s op d then (some (onePart 0x11 (min 0xFFFFFFFF (minTimeout s op d)) (leBytes 2 8)), s)
      else if !statePermits s op d then fail 0x50 []
      else if asBow s && bowForbids op then fail 0x50 []
      else if lockedBy s op d then fail 0x51 []
      else if keyForbids s op d then (some (onePart 0x30 0 []), denied s)
      else
        match shortOf s op d with
        | some result =>
          (some (onePart 0x12 0 result), if op = 0x0201 then refuse s (fieldAt d 16 2) true else s)
        | none => (none, s)

end Sys2Proof.Machine
end

