-- ==== Sys2Proof/Machine/Commands.lean ====
section
/-!
DEFINITION. Sys2Proof/Machine/Commands.lean: the taking of a descriptor, the data and the timeout of a command, BENCHMARK, and the
commands that change the device state (R100, R122–R136, R152–R156, R619–R622).
-/
namespace Sys2Proof.Machine

/-! ### BENCHMARK (R152–R156) -/

/-- A part whose record bytes 12–31 are these. -/
def summaryPart (bs : List Byte) : Part := { status := 0, result0 := fieldAt bs 0 4, result := slice bs 4 16 }

/-- Part 0: identity and state. -/
def summaryIdentity (s : State) : List Byte :=
  leBytes 1 s.devState ++ leBytes 1 (role s) ++ leBytes 1 s.dev.lastTrans ++ leBytes 1 (s.fld F.NVC_RESET_SRC_LAST) ++ leBytes 2 0x0B01
    ++ leBytes 1 ((s.dev.fwVersion.map (fun v => v.1)).getD 0) ++ leBytes 1 ((s.dev.fwVersion.map (fun v => v.2)).getD 0) ++ leBytes 2 11
    ++ leBytes 1 (s.fld F.SYS_STATUS_PWR_MODE) ++ leBytes 1 s.boot.seletCopy
    ++ leBytes 4 ((s.pow.aonCycles - s.pow.bootAt) / 250000000) ++ leBytes 4 (s.reg A.CMD_LOG_NEXT_SEQ).toNat

/-- The ten bytes of a ring in parts 1 and 2. -/
def summaryRing (s : State) (k : Nat) : List Byte :=
  leBytes 2 (s.fld (F.CMD_RING_SQ_HEAD_HEAD k)) ++ leBytes 2 (s.fld (F.CMD_RING_SQ_TAIL_TAIL k))
    ++ leBytes 2 (s.fld (F.CMD_RING_CQ_HEAD_HEAD k)) ++ leBytes 2 (s.fld (F.CMD_RING_CQ_TAIL_TAIL k))
    ++ leBytes 1 (ringState s k) ++ leBytes 1 (s.ring k).cmds.length

/-- The five bytes of a lane in part 4. -/
def summaryLane (s : State) (n : Nat) : List Byte :=
  let anchors := bitsNat ((List.range 4).map (fun k => bit (anchorStatusWord s n).toNat (8 * k + 7)))
  let cal := anchors + 16 * s.fld (F.LRF_STATUS_STARTUP_DONE n) + 32 * b01 (s.lane n).job.isSome
  leBytes 1 (laneState s n) ++ leBytes 1 cal ++ leBytes 2 ((List.range 256).filter (chValid s n)).length
    ++ leBytes 1 (s.lane n).ctxs.length

/-- Part 5: Datum. -/
def summaryDatum (s : State) : List Byte :=
  leBytes 8 s.now.sec ++ leBytes 4 s.now.ns ++ leBytes 1 (s.fld F.DTM_STATUS_SERVO) ++ leBytes 1 (s.fld F.DTM_STATUS_SOURCE)
    ++ leBytes 2 (min 0xFFFF (s.fld F.DTM_REFUSED_JUMPS_COUNT)) ++ leBytes 4 (s.reg A.DTM_LAST_OFFSET).toNat

/-- Part 6: queues. -/
def summaryQueues (s : State) : List Byte :=
  let held := heldQueues s
  leBytes 2 held.length ++ leBytes 2 (held.headD 0xFFFF) ++ leBytes 2 (nonemptyQueues s) ++ leBytes 2 (deepestQueue s).1
    ++ leBytes 4 (deepestQueue s).2 ++ leBytes 4 (s.fab.sramUsed.length / 4) ++ leBytes 4 (s.fab.dramUsed.length / 4)

/-- Part 7: the key store. -/
def summaryKeys (s : State) : List Byte :=
  leBytes 2 (slotsEmpty s) ++ leBytes 2 (slotsIn s 1) ++ leBytes 2 (slotsIn s 2) ++ leBytes 2 (slotsIn s 3)
    ++ leBytes 2 (s.fld F.KSU_FIRST_BAD_SLOT) ++ leBytes 4 (s.fld F.KSU_MAX_EPOCH_EPOCH)
    ++ leBytes 1 (s.fld F.KSU_STATUS_TAMPER_LOGGED + 2 * s.fld F.KSU_STATUS_ROOTS) ++ [0#8] ++ leBytes 4 (s.fld F.KSU_TAG_FAILS_COUNT)

/-- Part 8: Cox. The account with the highest overrun count is the lowest on a tie. -/
def summaryCox (s : State) : List Byte :=
  let count (a : Nat) : Nat := s.fld (F.COX_ACCT_OVR_COUNT a)
  let worst := (List.range 32).foldl (fun w a => if count w < count a then a else w) 0
  leBytes 4 (ovrNonzeroWord s).toNat ++ leBytes 4 (min 0xFFFFFFFF ((List.range 32).foldl (fun n a => n + count a) 0))
    ++ leBytes 2 (s.fld F.COX_STATUS_HEAT_US) ++ leBytes 1 worst ++ [0#8] ++ leBytes 4 (count worst)
    ++ leBytes 4 (s.reg A.COX_THROTTLED).toNat

/-- Part 9: the Margin Manager. -/
def summaryMargin (s : State) : List Byte :=
  leBytes 2 (s.fld F.MGM_MARGINS_PATH_MV) ++ leBytes 2 (s.fld F.MGM_MARGINS_SRAM_MV) ++ leBytes 2 (s.fld F.MGM_PLAN_V_VDD_CORE_MV)
    ++ leBytes 2 (s.fld F.MGM_PLAN_V_CLK_MHZ) ++ leBytes 2 (s.fld F.MGM_LIFE_YEARS_X10) ++ leBytes 1 (s.fld F.MGM_STATUS_TJ_MAX)
    ++ leBytes 1 (s.fld F.MGM_STATUS_REFRESH) ++ leBytes 2 (s.fld F.MEM_SCRUB_CFG_PERIOD_H) ++ [0#8, 0#8]
    ++ leBytes 4 (s.fld F.MGM_LAST_PLAN_S_SECONDS)

/-- Part 10: events. -/
def summaryEvents (s : State) : List Byte :=
  let brk := s.log.lastBreak.getD (0, 0)
  leBytes 4 (s.reg A.CMD_LOG_NEXT_SEQ).toNat ++ leBytes 2 (s.fld F.CMD_EVR_HEAD_HEAD) ++ leBytes 2 (s.fld F.CMD_EVR_TAIL_TAIL)
    ++ leBytes 1 (if s.log.inRing.isEmpty then 0xFF else s.log.inRing.foldl max 0) ++ leBytes 1 (b01 s.log.evrOn + 2 * b01 s.log.missed.isSome)
    ++ leBytes 2 (s.ring 4).queue.length ++ leBytes 4 brk.1 ++ leBytes 4 brk.2

/-- The bytes of the eleven parts (R155). -/
def summary (s : State) : List (List Byte) :=
  [summaryIdentity s, summaryRing s 0 ++ summaryRing s 1, summaryRing s 2 ++ summaryRing s 3,
   (List.range 5).flatMap (fun k => leBytes 4 ((s.ring k).lastSeq.getD 0xFFFFFFFF)), (List.range 4).flatMap (summaryLane s),
   summaryDatum s, summaryQueues s, summaryKeys s, summaryCox s, summaryMargin s, summaryEvents s]

/-- BENCHMARK: the summary taken with the descriptor is its completion (R152, R154). -/
def execBenchmark (id : CmdId) (s : State) : Result :=
  .next (if !s.answers then s
    else match starting s id 0x0001 with
    | none => s
    | some c => finishCmd s id c.parts)

/-! ### The taking of a descriptor (R93, R96, R98, R100, R122) -/

/-- Descriptors are taken: not after a WATCH_ENTER, nor after the commit to WATCH, nor while PE15 is under test (R691, R713). -/
def takes (s : State) : Bool :=
  s.answers && !watchCommitted s && !s.pow.entry.any (fun e => e.commanded) && !inFlight s (some 0x0004) && !testingSupervisor s

/-- The descriptor at the front of a ring would inject a frame above the sustained rate, so it is held in its ring (R21). The mailbox,
which is no ring, never reaches that rate. -/
def injectHeld (s : State) (k : Nat) : Bool :=
  k < 4 && ((s.ring k).fetched.head?.map descOpcode) == some 0x0201 && 76 * s.dev.upCycles < s.fab.injectAt

/-- A frame of `len` bytes taken for injection: the fabric accepts the next once its bits have passed at 0.76 Gbit/s, which is 76/25 bits
in a CLK_DATUM cycle of 4 ns (R21). -/
def injectTaken (s : State) (d : List Byte) : State :=
  if descOpcode d = 0x0201 then
    { s with fab := { s.fab with injectAt := max s.fab.injectAt (76 * s.dev.upCycles) + 200 * fieldAt d 18 2 } }
  else s

/-- A source has a descriptor ready, and room under MAXOUT (R98, R100), and the rate of frames allows it (R21). A command whose
records were discarded still counts as in flight until it has its outcome (log entry 107). -/
def mayTake (s : State) (k : Nat) : Bool :=
  let r := s.ring k
  !r.fetched.isEmpty && !injectHeld s k
    && (k = 4 || ((ringState s k = 1 || ringState s k = 3) && r.cmds.length < s.fld (F.CMD_RING_CTRL_MAXOUT k)))

/-- The place of the next command in the order of taking (R138). -/
def nextOrder (s : State) : Nat := (allCmds s).foldl (fun n c => max n (c.order + 1)) 0

/-- SQ_HEAD passes the entry of a descriptor; PHASE inverts with each pass (R92). -/
def passEntry (s : State) (k : Nat) : State :=
  if k = 4 then s
  else
    let head := s.fld (F.CMD_RING_SQ_HEAD_HEAD k)
    let r := s.ring k
    (s.setFld (F.CMD_RING_SQ_HEAD_HEAD k) (nextIdx head (sqSize s k))).setRing k
      { r with sqPhase := if head + 1 < sqSize s k then r.sqPhase else !r.sqPhase }

/-- The next sequence number of a source, taken (R96). -/
def takeSeq (s : State) (k : Nat) : Nat × State :=
  if k = 4 then
    let r := s.ring 4
    (r.mbxSeq, s.setRing 4 { r with mbxSeq := (r.mbxSeq + 1) % 2 ^ 32 })
  else
    let n := (s.reg (A.CMD_RING_NEXT_SEQ k)).toNat
    (n, s.setReg (A.CMD_RING_NEXT_SEQ k) (BitVec.ofNat 32 (n + 1)))

/-- The first descriptor of source `src` is taken: a refused one has its outcome, the others wait for their engines. -/
def takeFrom (s : State) (src : Source) : State :=
  let k := src.val
  match (s.ring k).fetched with
  | [] => s
  | d :: rest =>
    let v := verdict s d
    let timeout := timeoutOf s d
    let q := takeSeq (passEntry (v.2.setRing k { v.2.ring k with fetched := rest }) k) k
    let s := q.2
    let c : Cmd := { seq := q.1, desc := d, order := nextOrder s, timeout := timeout, began := false, committed := false, done := false,
                     asked := false, data := none, parts := [], written := 0, lost := false }
    let s := s.setRing k { s.ring k with cmds := (s.ring k).cmds ++ [c] }
    let s := match v.1 with
      | some parts => finishCmd s { src := src, seq := q.1 } parts
      | none =>
        let c := if descOpcode d = 0x0001 then { c with parts := (summary s).map summaryPart } else c
        askData (putCmd (injectTaken s d) { src := src, seq := q.1 } c) k c
    if k = 4 then s else startFetch s k

/-- DESCRIPTOR_TAKE: from the mailbox first, then from the lowest-numbered ring (R100). -/
def execDescriptorTake (s : State) : Result :=
  .next (if !takes s then s
    else match ([4, 0, 1, 2, 3] : List Source).find? (fun k => mayTake s k.val) with
    | none => s
    | some k => takeFrom s k)

/-! ### The data of a command (R82) -/

/-- The data of a command could not be read: it completes DMA_FAIL; the image slot of an UPD_IMAGE_LOAD is left empty. -/
def dataFails (s : State) (id : CmdId) (c : Cmd) : State :=
  let s := finish (putCmd (dmaFail s id.src.val) id { c with asked := false }) id 0x13 []
  if descOpcode c.desc != 0x0401 then s else emptyImage s (fieldAt c.desc 16 1 % 8)

/-- A read of data returns whose command has ended: it is used no more, but a failure is recorded all the same (R82). -/
def lateRead (s : State) (id : CmdId) (failed : Bool) : State :=
  let r := s.ring id.src.val
  if !r.lateReads.contains id.seq then s
  else
    let s := s.setRing id.src.val { r with lateReads := r.lateReads.erase id.seq }
    if failed then dmaFail s id.src.val else s

/-- CMD_DATA_READ_DONE. The tag of the read is free again (R79). -/
def execCmdDataReadDone (id : CmdId) (data : Option (List Byte)) (s : State) : Result :=
  .next (if !s.answers then s
    else match (findCmd s id).filter (fun c => c.asked && !c.done && c.data.isNone) with
    | none => readsGo (lateRead s id data.isNone)
    | some c =>
      match data, cmdData c.desc with
      | some bs, some (_, len) => if bs.length = len then readsGo (putCmd s id { c with data := some bs }) else s
      | _, _ => readsGo (dataFails s id c))

/-! ### Timeouts (R619–R622) -/

/-- A transmission that was to carry the head downlink of node `p`: on air it runs to its end, else it is withdrawn and its grant
refunded (R188, R382, R621). -/
def detachTx (s : State) (n p : Nat) (t : Tx) : State :=
  match t.content with
  | .head _ =>
    if t.parcel != p then s
    else if t.stage = 4 then
      swapTx (attemptMade s p false t.start (txEndNs t) n t.sf t.stepped) n t (some { t with content := .frame t.bytes })
    else
      swapTx (if t.stage = 0 then s else giveBack s n t) n t
        ((withoutHead s n t).map (fun x => { x with stage := 0, bytes := [], charge := 0, accts := [] }))
  | _ => s

/-- Every transmission that was to carry the head downlink of node `p`. -/
def detachHead (s : State) (p : Nat) : State :=
  (List.range 4).foldl (fun (t : State) n => (t.lane n).txs.foldl (fun (u : State) x => detachTx u n p x) t) s

/-- The relay unit that carries the head downlink of node `p`: withdrawn, or cut loose once it has been sent (R420). -/
def detachUnit (s : State) (p : Nat) : State :=
  match s.cad.dls.find? (fun d => d.carries == some p) with
  | none => s
  | some u =>
    match positionOf s u.parcel u.buf with
    | none => s
    | some i =>
      let s := if i = 0 then detachHead s u.parcel else s
      let u := (dlOf s u.buf).getD u
      if u.sent then putDl s { u with carries := none } else leaveMailbox s u.parcel i

/-- The entry at position `i` of node `p` ends before its attempts do. -/
def cancelDl (s : State) (p i status : Nat) : State :=
  dlOutcome (if i = 0 then detachHead (detachUnit s p) p else s) p i status false

/-- The requests for a wake telegram of lane `n` that is not on air are withdrawn. -/
def dropTelegram (s : State) (n : Nat) : State :=
  (s.lane n).txs.foldl (fun (t : State) x =>
    if x.kind != 4 || x.stage = 4 then t else swapTx (if x.stage = 0 then t else giveBack t n x) n x none) s

/-- A wake exchange for a node without downlinks is over, unless its telegram is on air. -/
def wakeCancel (s : State) (p : Nat) : State :=
  if mbxCount s p != 0 then s
  else (List.range 4).foldl (fun (t : State) n =>
    match wakeOf t n with
    | none => t
    | some w =>
      let sending := (t.lane n).txs.any (fun x => x.kind == 4 && x.stage == 4)
      if w.parcel == some p && w.stage ≤ 1 && !sending then dropWake (dropTelegram t n) n else t) s

/-- A DL_SEND in mode 0 ends with a status before its downlink does. -/
def endDlSend (s : State) (id : CmdId) (status : Nat) : State :=
  match dlOfCmd s id with
  | none => finish s id status []
  | some d =>
    match positionOf s d.parcel d.buf with
    | none => finish s id status []
    | some i => wakeCancel (cancelDl s d.parcel i status) d.parcel

/-- The wake exchange of a WAKE_SEND. -/
def wakeOfCmd (s : State) (id : CmdId) : Option (Nat × Wake) := s.mac.wakes.find? (fun e => e.2.cmd == some id && e.2.stage != 4)

/-- A WAKE_SEND ends with a status before its attempts do. -/
def endWakeSend (s : State) (id : CmdId) (status : Nat) : State :=
  match wakeOfCmd s id with
  | none => finish s id status []
  | some (n, w) => wakeFinish (dropTelegram s n) n w status []

/-- A LANE_CAL times out: RF_BUSY where its lane has been BLANKED throughout (R144). -/
def endLaneCal (s : State) (id : CmdId) : State :=
  match (List.range 4).find? (fun n => (s.lane n).job.any (fun j => j.id == id)) with
  | none => finish s id 0x40 []
  | some n => endJob' s n (if (s.lane n).job.any (fun j => j.blanked) then 0x21 else 0x40)

/-- A ROLE_SWAP times out: this chip keeps the stroke role (R136). -/
def endRoleSwap (s : State) (id : CmdId) : State :=
  let s := finish s id 0x40 [1#8]
  if s.red.swap != some id then s
  else s.setRed { s.red with swap := none, swapLate := if s.red.offered then some id else s.red.swapLate }

/-- A BIST_RUN times out: the test in progress is abandoned (R717). -/
def endBist (s : State) (id : CmdId) : State :=
  finish (if s.bst.run.any (fun r => r.id == id) then bistAbandon s else s) id 0x40 []

/-- The timeout of a command expires before its outcome: later attempts are cancelled (R619, R621). -/
def timesOut (s : State) (id : CmdId) (c : Cmd) : State :=
  match descOpcode c.desc with
  | 0x0005 => endBist s id
  | 0x0006 => endRoleSwap s id
  | 0x0104 => endDlSend s id 0x40
  | 0x0105 => endWakeSend s id 0x40
  | 0x0106 => endLaneCal s id
  | _ => finish s id 0x40 []

/-- COMMAND_TIMEOUT: not once a commit has begun (R128, R622), and not while a fence holds the command, since a timeout measures
execution only (R99). -/
def execCommandTimeout (id : CmdId) (s : State) : Result :=
  .next (match findCmd s id with
    | none => s
    | some c => if !s.answers || c.committed || !startable s id then s else timesOut s id c)

/-! ### MAINTENANCE (R28, R131–R133) -/

/-- The entry to MAINTENANCE: at once, while the lanes complete the superframe in progress (R28, R132, R443). -/
def enterMaintenance (s : State) : State :=
  let s := { s.setFld F.SYS_STATUS_DEV_STATE 3 with
    dev := { s.dev with lastTrans := 0x06, maintLanes := if s.mac.sfn.isSome then [0, 1, 2, 3] else [] } }
  suspendSessions (gateCheck s)

/-- MAINT_ENTER. During HOLD-UP it waits. -/
def execMaintEnter (id : CmdId) (s : State) : Result :=
  .next (match starting s id 0x0002 with
    | none => s
    | some _ =>
      if !s.inOperation || holdUp s || s.pow.entry.isSome then s
      else if s.ready then enterMaintenance (beginCmd s id)
      else beginCmd s id)

/-- A transmission that carries the head downlink of node `p` is on air. -/
def headOnAir (s : State) (p : Nat) : Bool :=
  (List.range 4).any (fun n => (s.lane n).txs.any (fun t => t.stage == 4 && t.parcel == p && (match t.content with
    | .head _ => true
    | _ => false)))

/-- A DL_SEND or WAKE_SEND in flight that has not gone on air (R132). -/
def notOnAir (s : State) (id : CmdId) (op : Nat) : Bool :=
  if op = 0x0104 then
    match dlOfCmd s id with
    | none => true
    | some d => !d.sent && !(positionOf s d.parcel d.buf == some 0 && headOnAir s d.parcel)
  else
    match wakeOfCmd s id with
    | none => true
    | some (n, w) => w.stage ≤ 1 && w.attempt ≤ w.stage && !(s.lane n).txs.any (fun t => t.kind == 4 && t.stage == 4)

/-- What a command in flight comes to once the lanes have finished. -/
def maintDoneCmd (s : State) (id : CmdId) (c : Cmd) : State :=
  match descOpcode c.desc with
  | 0x0002 => if c.began then finish s id 0x00 [] else s
  | 0x0104 => if notOnAir s id 0x0104 then endDlSend s id 0x50 else s
  | 0x0105 => if notOnAir s id 0x0105 then endWakeSend s id 0x50 else s
  | _ => s

/-- MAINT_ENTER_DONE: every lane has finished its superframe in progress (R132). -/
def execMaintEnterDone (s : State) : Result :=
  .next (if s.answers && s.devState = 3 && s.dev.maintLanes.isEmpty then eachCmd s maintDoneCmd else s)

/-- The return to READY (R25, R333, R443, R625, R687). -/
def returnToReady (s : State) : State :=
  let s := { s.setFld F.SYS_STATUS_DEV_STATE 2 with dev := { s.dev with lastTrans := 0x07, maintLanes := [] } }
  let s := redStart { s with mac := { s.mac with recheck := true } }
  mainsCheck (resumeSessions (recheckDue s))

/-- The oldest command of a source that still has records to be written. -/
def oldestCmd (s : State) (k : Nat) : Option Nat := ((s.ring k).cmds.find? (fun c => !c.lost)).map (fun c => c.seq)

/-- MAINT_EXIT: its record is written before the state changes, so it waits until the record can be written (R97, R133). -/
def maintExit (s : State) (id : CmdId) : State :=
  let k := id.src.val
  match starting s id 0x0003 with
  | none => s
  | some _ =>
    if oldestCmd s k != some id.seq then s
    else
      let t := writeRecords 2 (finish s id 0x00 (leBytes 1 (b01 s.dev.bistRan))) k
      if (findCmd t id).isSome then s
      else if t.devState != 3 then t
      else if t.dev.bistRan then enterBoot (resetEffects t 7 0x07)
      else returnToReady t

/-- MAINT_EXIT. -/
def execMaintExit (id : CmdId) (s : State) : Result := .next (if s.inOperation then maintExit s id else s)

/-! ### WATCH by command (R134, R691) -/

/-- WATCH_ENTER: no lane starts a transmission any more, and every lane goes to OFF; the commit follows. -/
def watchEnter (s : State) (id : CmdId) : State :=
  match starting s id 0x0004 with
  | none => s
  | some c =>
    let wake := bit (fieldAt c.desc 16 1) 0
    let s := beginCmd s id
    let e : WatchEntry := match s.pow.entry with
      | some e => { e with commanded := true }
      | none => { cause := 2, wurWake := wake, committed := false, commanded := true }
    let s := s.setPow { s.pow with entry := some e }
    (List.range 4).foldl (fun (t : State) n => laneOff (laneQuiet t n) n) s

/-- WATCH_ENTER. -/
def execWatchEnter (id : CmdId) (s : State) : Result := .next (if s.ready then watchEnter s id else s)

end Sys2Proof.Machine
end

