-- ==== Sys2Proof/Machine/Bist.lean ====
section
/-!
DEFINITION. Sys2Proof/Machine/Bist.lean: the self-test and the restart of engines (R9, R130, R612–R618, R710–R719).
-/
namespace Sys2Proof.Machine

/-! ### Preparation (R712) -/

/-- A host receive ring stops. -/
def stopHrx (s : State) (k : Nat) : State :=
  (s.setFld (F.FAB_HRX_STATUS_STATE k) 0).setFld (F.FAB_HRX_CTRL_ENABLE k) 0

/-- Every item of a queue is discarded without a marker. -/
def emptyQueue (s : State) (q : Nat) : State :=
  let qu := s.queue q
  let s := s.putItems q [] []
  let s := s.setQueue q { s.queue q with
    dropping := qu.dropping || !qu.producing.isEmpty, waiting := none, breakPending := none, state := if qu.state = 2 then 1 else qu.state }
  closeIfEmpty (qu.all.foldl freeItem s) q

/-- The engine key registers and the key-store working copy are cleared. -/
def clearWorking (s : State) : State :=
  let noKey (t : Tbl Assoc) : Tbl Assoc := Tbl.mapVals (fun _ => Assoc.init) (fun _ a => { a with key := [] }) t
  { s with
    sec := { s.sec with slots := Tbl.mapVals (fun _ => Slot.empty) (fun _ x => { x with key := [] }) s.sec.slots, gcm := [] },
    ports := Tbl.mapVals (fun _ => Port.init) (fun _ p => { p with txSa := noKey p.txSa, rxSa := noKey p.rxSa }) s.ports }

/-- A replacement in progress: one whose commit has begun reports its outcome, any other is undone (R128). -/
def settleKeys (s : State) : State :=
  s.sec.repl.foldl (fun (t : State) r => if r.begun then completeReplace t r else tamperReplace t r) s

/-- The preparation for the first BIST_RUN since the entry to MAINTENANCE. Commands in flight but BENCHMARK, MAINT_EXIT and BIST_RUN
complete NOT_ACTIVE. -/
def bistPrepare (s : State) : State :=
  let s := (List.range 8).foldl stopHrx s
  let s := { s with tss := { s.tss with egresses := [] } }
  let s := (s.fab.queues.map (fun e => e.1)).foldl emptyQueue s
  let s := (List.range 4).foldl (fun (t : State) n => laneOff (laneQuiet t n) n) s
  let s := eachCmd (settleKeys s) (fun t id c =>
    if [0x0001, 0x0003, 0x0005].contains (descOpcode c.desc) then t else stopCmd t id)
  let s := clearWorking ((List.range 15).foldl (fun (t : State) n => t.setEngine n .stopped) s)
  { s.setFld F.BST_STATUS_RAN 1 with dev := { s.dev with bistRan := true } }

/-! ### Running (R713–R718) -/

/-- A test begins. -/
def testBegins (s : State) (r : BistRun) : State :=
  ({ s with bst := { s.bst with run := some r } }.setFld F.BST_STATUS_RUNNING 1).setFld F.BST_STATUS_CURRENT (r.tests.headD 0)

/-- BIST_RUN (R712, R713). -/
def bistStart (s : State) (id : CmdId) : State :=
  match starting s id 0x0005 with
  | none => s
  | some c =>
    let s := beginCmd s id
    let s := if s.dev.bistRan then s else bistPrepare s
    testBegins s { id := id, tests := bistTests c.desc, parts := [], failed := 0, firstFailed := 0xFF, micros := 0 }

/-- BIST_RUN. -/
def execBistRun (id : CmdId) (s : State) : Result :=
  .next (if s.inOperation && s.devState == 3 && s.bst.run.isNone then bistStart s id else s)

/-- The result of a test stored (R718). -/
def testResult (s : State) (test : Nat) (misr : BitVec 64) (micros : Nat) : State :=
  let pass := misr == Config.fusedMisr test
  let x : BistResult := { ran := true, pass := pass, abandoned := false, micros := micros, misr := misr }
  let s := { s with bst := { s.bst with results := Tbl.put (fun _ => BistResult.none) s.bst.results test x } }
  let s := s.count F.BST_RUNS_COUNT 1
  if pass then s else setCause (s.count F.BST_FAILS_COUNT 1) 0x07 1

/-- The completion part of a test (R135). -/
def testPart (test : Nat) (misr : BitVec 64) : Part :=
  summaryPart (leBytes 1 test ++ leBytes 1 (b01 (misr == Config.fusedMisr test)) ++ [0#8, 0#8] ++ leBytes 8 misr.toNat
    ++ leBytes 8 (Config.fusedMisr test).toNat)

/-- The test in progress ends, and the next one begins or the run is over. The DRAM march leaves zeros (R711). -/
def testDone (s : State) (misr : BitVec 64) (micros : Nat) : State :=
  match s.bst.run with
  | none => s
  | some r =>
    match r.tests with
    | [] => s
    | t :: rest =>
      let s := testResult s t misr micros
      let bad := misr != Config.fusedMisr t
      let r := { r with
        tests := rest, parts := r.parts ++ [testPart t misr], failed := r.failed + b01 bad,
        firstFailed := if bad && r.firstFailed == 0xFF then t else r.firstFailed, micros := r.micros + micros }
      let s := if t = 0xF1 then s.ramClear 0 0x8000000 else s
      if rest.isEmpty then finishCmd (bistEnds s r) r.id r.parts
      else
        let s := testBegins s r
        if t = 15 then [0, 1, 2, 3].foldl startFetch s else s

/-- BIST_TEST_DONE. `misr`: the signature obtained; `micros`: the duration of the test. -/
def execBistTestDone (misr : BitVec 64) (micros : Nat) (s : State) : Result := .next (if s.answers then testDone s misr micros else s)

/-! ### Engine restarts (R9, R130, R615–R618, R623) -/

/-- Commands whose outcome is still open. -/
def openCmds (s : State) : Nat := ((allCmds s).filter (fun c => !c.done)).length

/-- Engine `n` serves a command in flight. A DL_SEND that has entered its mailbox is held in DRAM. -/
def servedBy (s : State) (n : Nat) (id : CmdId) (c : Cmd) : Bool :=
  match descOpcode c.desc with
  | 0x0101 | 0x0102 | 0x0103 => n == 12
  | 0x0104 => n == 12 && (dlOfCmd s id).isNone
  | 0x0105 => n == 2 * fieldAt c.desc 21 1 + 1
  | 0x0201 | 0x0202 | 0x0203 => n == 8 + fieldAt c.desc 16 2 % 4
  | 0x0401 | 0x0402 | 0x0403 | 0x0404 => n == 14
  | _ => false

/-- The commands in flight on engine `n` complete INTERNAL, but for those whose commit has begun (R130). -/
def internalCmds (s : State) (n : Nat) : State :=
  eachCmd s (fun t id c =>
    if c.committed || !servedBy t n id c then t
    else
      let u := finish t id 0xFF (leBytes 2 n)
      if descOpcode c.desc = 0x0105 then endWakeSend u id 0xFF else u)

/-- The nodes whose head downlink lane `n` attempts: requested, granted, on air, or in its response window. -/
def attempted (s : State) (n : Nat) : List Nat :=
  let sending := (s.lane n).txs.filterMap (fun t => match t.content with
    | .head _ => some t.parcel
    | _ => none)
  let waiting := (s.cad.dls.filter (fun d => d.window && d.lane == n && positionOf s d.parcel d.buf == some 0)).map (fun d => d.parcel)
  sending ++ waiting.filter (fun p => !sending.contains p)

/-- The downlink in progress of node `p` ends INTERNAL (R613, R617). -/
def internalDl (s : State) (engine p : Nat) : State :=
  match headDl s p with
  | none => s
  | some (_, d) =>
    let s := match d.cmd with
      | some id => finish s id 0xFF (leBytes 2 engine)
      | none => s
    cancelDl s p 0 0xFF

/-- A transmission that lane `n` has not begun is withdrawn. -/
def withdraw (s : State) (n : Nat) (t : Tx) : State :=
  if t.stage = 4 then s
  else
    let s := swapTx (if t.stage = 0 then s else giveBack s n t) n t none
    match t.kind with
    | 3 => joinEnds s t .withheld
    | 5 => mcastMissed s
    | _ => s

/-- PE(2n) is restarted: every context of the lane is released, and the frames it holds are lost (R617). -/
def receiveRestart (s : State) (n : Nat) : State :=
  let s := ctxPreempt s n
  let s := (s.lane n).meas.foldl (fun (t : State) m => freeMeas t n m.peer) s
  s.setLane n { s.lane n with rx := (s.lane n).rx.filter (fun f => f.check != .waiting), bankAt := s.dev.upCycles }

/-- PE(2n+1) is restarted: what it had asked of the lane is withdrawn; a transmission on air runs to its end (R617). The lane does not
receive meanwhile, so its receptions end (R10). -/
def transmitRestart (s : State) (n : Nat) : State :=
  let s := ctxPreempt s n
  let s := (attempted s n).foldl (fun (t : State) p => internalDl t (2 * n + 1) p) s
  let s := (s.lane n).txs.foldl (fun (t : State) x => withdraw t n x) s
  let s := s.setLane n { s.lane n with owed := [], acked := [] }
  match wakeOf s n with
  | some w => if w.stage = 4 then s else dropWake s n
  | none => s

/-- PE12 is restarted: frames that had not reached their verdict are lost (R615). -/
def cadastreRestart (s : State) : State :=
  (List.range 4).foldl (fun (t : State) n =>
    t.setLane n { t.lane n with rx := (t.lane n).rx.filter (fun f => f.stage != 0 || f.check == .waiting) }) s

/-- The head items of a queue that its engine had taken, up to `k` frames. -/
def takenItems (s : State) (q k : Nat) : List Item := ((s.queue q).items.takeWhile (fun i => !i.isBreak && i.committed)).take k

/-- The items of input queue `q` that its engine had taken and not retired are discarded, with a marker at the tail of the queue that
receives its output (R616). The number of markers. -/
def discardTaken (s : State) (n : Nat) (e : Nat × Nat × Nat) : Nat × State :=
  let (q, out, k) := e
  let gone := takenItems s q k
  match gone.head?, gone.getLast? with
  | some a, some b =>
    if (s.queue q).dest != 4 || n != 8 + q % 4 then (0, s)
    else
      let s := gone.foldl (fun (t : State) _ => dropHead t q) s
      (1, markLoss s out { lossNow s 6 a.qseq b.qseq with input := some q })
  | _, _ => (0, s)

/-- The items of several input queues. -/
def discardAll (s : State) (n : Nat) (taken : List (Nat × Nat × Nat)) : Nat × State :=
  taken.foldl (fun (acc : Nat × State) e =>
    let r := discardTaken acc.2 n e
    (acc.1 + r.1, r.2)) (0, s)

/-- ENGINE_RESTART of an engine other than PE15; a clock-gated engine is not restarted (R9, R686). -/
def engineRestart (s : State) (n cause : Nat) (taken : List (Nat × Nat × Nat)) : State :=
  let s := s.setEngine n .restarting
  let before := openCmds s
  let r := discardAll s n taken
  let s := internalCmds r.2 n
  let s := if n < 8 then (if n % 2 = 0 then receiveRestart s (n / 2) else transmitRestart s (n / 2))
    else if n = 12 then cadastreRestart s else s
  s.event (0x40 + n) 0 0x1210 3 (leBytes 1 n ++ leBytes 1 cause ++ leBytes 2 r.1 ++ leBytes 2 (before - openCmds s))

/-- Engine `n` is there to be restarted: it runs, or has failed, from the load of its bundle in BOOT on (R9, R178). -/
def restartable (s : State) (n : Nat) : Bool :=
  (s.booting || s.operating) && s.dev.fwVersion.isSome && (s.engine n == .running || s.engine n == .failed) && (7 < n || lanePowered s (n / 2))

/-- ENGINE_RESTART. `taken`: for each input queue of the engine the queue that receives its output and the number of items taken and not
retired. -/
def execEngineRestart (engine : Fin 15) (sramUe : Bool) (taken : List (Fin 4096 × Fin 4096 × Nat)) (s : State) : Result :=
  .next (if restartable s engine then
      engineRestart s engine (if sramUe || s.engine engine == .failed then 2 else 1) (taken.map (fun e => (e.1.val, e.2.1.val, e.2.2)))
    else s)

/-- ENGINE_RESTART_DONE. -/
def execEngineRestartDone (engine : Fin 15) (s : State) : Result :=
  .next (if s.answers && s.engine engine == .restarting then s.setEngine engine .running else s)

end Sys2Proof.Machine
end

