-- ==== Sys2Proof/Machine/Memory.lean ====
section
/-!
DEFINITION. Sys2Proof/Machine/Memory.lean: memory errors, the scrubber, the sweeper, the error log and the response of each region to
a lost unit (R593–R613, R623).
-/
namespace Sys2Proof.Machine

/-! ### Reports (R608–R610) -/

/-- Codewords of the DRAM. -/
def codewords : Nat := 8388608

/-- The region code of a DRAM address (R597). -/
def dramRegion (a : Nat) : Nat :=
  if a < 0x4000000 then 0 else if a < 0x4200000 then 1 else if a < 0x5200000 then 2 else if a < 0x6A00000 then 3
  else if a < 0x7200000 then 4 else if a < 0x7A00000 then 5 else 6

/-- A record placed in `ERR_LOG`; one that finds 32 there is lost (R610). -/
def logError (s : State) (ue sram : Bool) (region origin position addr syndrome : Nat) : State :=
  if 32 ≤ s.mem.errLog.length then setCause (s.count F.MEM_LOG_LOST_COUNT 1) 0x30 6
  else { s with mem := { s.mem with errLog := s.mem.errLog ++
    [{ ue := ue, sram := sram, region := region, origin := origin, position := position, addr := addr, syndrome := syndrome,
       sec := s.now.sec, ns := s.now.ns }] } }

/-- Whether a CE of a region is reported: none was within the last EVT_S seconds (R609). -/
def ceReported (s : State) (region : Nat) : Bool :=
  let told := Tbl.get (fun _ => 0) s.mem.ceTold region
  told == 0 || told + s.fld F.MEM_CE_CFG_EVT_S ≤ s.now.sec + 1

/-- A reported CE is remembered for its region. -/
def ceTell (s : State) (region : Nat) : State :=
  { s with mem := { s.mem with ceTold := Tbl.put (fun _ => 0) s.mem.ceTold region (s.now.sec + 1) } }

/-- A CE of codeword `cw` (R595, R602, R609). `origin` 1: found by the scrubber. -/
def dramCe (s : State) (cw origin symbol syndrome : Nat) : State :=
  let region := dramRegion (16 * cw)
  let scrub := origin == 1
  let old := scrub && s.mem.recent.contains cw
  let s := (s.count F.MEM_DRAM_CE_COUNT 1).count (F.MEM_REGION_CE_COUNT region) 1
  let m := s.mem
  let s := if scrub then
      { s with mem := { m with ces := m.ces + 1, persistent := m.persistent || old,
                               recent := (m.recent ++ [cw]).drop (m.recent.length + 1 - 64) } }
    else s
  if old || ceReported s region then
    let s := logError (ceTell s region) false false region origin symbol (16 * cw) syndrome
    setCause (s.event 0x30 0 0x1200 (1 + b01 old)
      (leBytes 1 region ++ leBytes 1 symbol ++ leBytes 4 (16 * cw) ++ leBytes 1 (b01 old + 2 * b01 scrub))) 0x30 0
  else s

/-- A UE of codeword `cw`, counted and reported (R596, R608). -/
def dramUe (s : State) (cw origin syndrome : Nat) : State :=
  let region := dramRegion (16 * cw)
  let s := s.count F.MEM_DRAM_UE_COUNT 1
  let s := if origin = 1 then { s with mem := { s.mem with ues := s.mem.ues + 1 } } else s
  let s := recordErr (logError s true false region origin 0xFF (16 * cw) syndrome) 0x30 0x80 0 (16 * cw)
  setCause (s.event 0x30 0 0x1201 3 (leBytes 1 region ++ leBytes 1 origin ++ leBytes 4 (16 * cw))) 0x30 1

/-! ### Responses to a lost unit (R605–R607) -/

/-- A TABLE_LOST event: 1 slot entries, 2 tone map, 3 route record, 4 update image, 5 statistics. -/
def tableLost (s : State) (kind index : Nat) : State := s.event 0x30 0 0x1206 3 (leBytes 1 kind ++ leBytes 4 index)

/-- The parcel is freed as R391 frees it (R606). -/
def parcelLost (s : State) (p k : Nat) : State :=
  ((freeParcel s p).count F.MEM_PARCEL_RESETS_COUNT 1).event 0x30 0 0x1205 4 (leBytes 4 p ++ leBytes 1 k)

/-- The parcel is reset: its codeword `k` written 0, its session ended, its node unjoined (R606). The mailbox and the update state are
settled before their own codeword is written. -/
def parcelReset (s : State) (p k : Nat) : State :=
  let lane := pBits s p 92 0 2
  let early := if 10 ≤ k && k ≤ 14 then dropAll s p else (0, s)
  let s := if k = 15 then setUstate early.2 p 6 else early.2
  let parent := if pRelayed s p then some (pParent s p) else none
  let s := s.ramStore (256 * p + 16 * k) (List.replicate 16 0#8)
  let s := pSetBits (pSetBits s p 9 2 2 0) p 9 0 2 0
  let s := dropAssign (emptyNode s p) p
  let r := dropAll s p
  let s := if pClass r.2 p = 2 then childrenLost r.2 p 5 else r.2
  let s := if k = 1 then
      pSet (pSet (pSet s p 16 1 6) p 17 1 12) p 18 1 (s.fld F.CAD_PWR_CFG_PWR_MIN)
    else s
  let s := match parent with
    | some q => countChildren s q
    | none => s
  let s := if pClass s p = 1 && s.flag (F.MAC_WAKE_CFG_EN lane) then
      { s with mac := { s.mac with rejoin := s.mac.rejoin ++ [(lane, pGet s p 12 4)] } }
    else s
  (s.count F.MEM_PARCEL_RESETS_COUNT 1).event 0x30 0 0x1204 3 (leBytes 4 p ++ leBytes 1 k ++ leBytes 1 (early.1 + r.1))

/-- A lost codeword of a parcel (R606). -/
def lostParcel (s : State) (p k : Nat) : State :=
  if k = 0 || (k = 1 && pClass s p = 2) then parcelLost s p k else parcelReset s p k

/-- Lost bytes are open until they are written anew. -/
def openBytes (s : State) (a : Nat) : State :=
  let d := drawBytes s 16
  d.2.ramStore a d.1

/-- A lost codeword of a peer's two maps, `j` of 27: codeword 13 holds words of both. -/
def lostMaps (s : State) (i j : Nat) : State :=
  let s := openBytes s (mapBase i + 16 * j)
  let s := match findPeer s i with
    | none => s
    | some p =>
      let s := if j ≤ 13 then pSetBits s p 144 0 1 0 else s
      if 13 ≤ j then pSetBits s p 152 0 1 0 else s
  tableLost s 2 i

/-- A lost codeword of a route record: VALID cleared and GEN advanced. -/
def lostRoute (s : State) (i k : Nat) : State :=
  let a := routeAt i
  let s := openBytes s (a + 16 * k)
  let s := s.ramStore a (leBytes 1 ((s.ram a).toNat % 128) ++ leBytes 1 ((s.ram (a + 1)).toNat + 1))
  let s := match findPeer s i with
    | none => s
    | some q => s.ramStore (a + 24) (leBytes 2 ((usedParcels s).filter (fun p => pRelayed s p && pParent s p == q)).length)
  tableLost s 3 i

/-- A lost codeword of image slot `k`: the slot is no longer valid, and sessions that use it end as by UPD_SESSION_STOP. -/
def lostImage (s : State) (k a : Nat) : State :=
  let s := openBytes s a
  let v := s.fld F.UPD_STATUS_IMG_VALID
  let s := s.setFld F.UPD_STATUS_IMG_VALID (v - (if bit v k then 2 ^ k else 0))
  let s := s.setFld (F.UPD_IMG_INFO_VALID k) 0
  let s := { s with upd := { s.upd with digests := Tbl.put (fun _ => []) s.upd.digests k [] } }
  let s := (s.upd.sessions.filter (fun x => x.image == k)).foldl (fun (t : State) x => endSession t x 3 1) s
  tableLost s 4 k

/-- The item that holds a lost cell is discarded with a marker of CAUSE 3; one begun completes with TRUNC (R605). -/
def lostItem (s : State) (q : Nat) (i : Item) : State :=
  let qu := s.queue q
  let same (x : Item) : Bool := x.cells == i.cells && !x.isBreak
  if i.begun then s.setQueue q { qu with items := qu.items.map (fun x => if same x then { x with trunc := true } else x) }
  else
    placeMarker (freeItem (s.putItems q (qu.items.filter (fun x => !same x)) qu.producing) i) q 3 i.qseq i.qseq

/-- A downlink whose payload or ciphertext is lost completes INTERNAL (R607). -/
def lostDl (s : State) (d : Dl) : State :=
  match positionOf s d.parcel d.buf with
  | none => s
  | some i =>
    let s := match d.cmd with
      | some id => finish s id 0xFF [0xFF#8, 0xFF#8]
      | none => s
    wakeCancel (cancelDl s d.parcel i 0xFF) d.parcel

/-- A lost buffer cell, by its handle: an item, an item being written, which is then discarded at its end, or a mailbox payload. -/
def lostCell (s : State) (h : Nat) : State :=
  let held (i : Item) : Bool := i.cells.contains h
  match s.fab.queues.findSome? (fun e => (e.2.items.find? held).map (fun i => (e.1, i))) with
  | some (q, i) => lostItem s q i
  | none =>
    match s.fab.queues.find? (fun e => e.2.producing.any held) with
    | some (q, qu) => s.setQueue q { qu with producing := qu.producing.map (fun i => if held i then { i with trunc := true } else i) }
    | none =>
      match s.cad.dls.find? (fun d => d.cells.contains h) with
      | some d => lostDl s d
      | none => s

/-- The words of a lost NBR_WATCH entry created again (R365). -/
def watchAgain (s : State) (k : Nat) : State :=
  match watchWords s k (nbrOf s k).id (nbrOf s k).bcn with
  | none => s
  | some (w0, w1) =>
    if (wordsConflict s w0 w1).isSome then s
    else
      let e := pickEntry s
      putNbr (putEntry e.2 e.1 w0 w1) k { nbrOf s k with watch := some e.1 }

/-- The entry of lane `n` of a session placed again, or the session stopped (R605). -/
def mcastAgain (s : State) (sid n : Nat) : State :=
  match sessOf s sid with
  | none => s
  | some x =>
    match planLane s (tableWords s ++ promisedWords s) n sid (6 + s.fld ⟨A.UPD_MC_CFG, 4 * n, 3⟩) (imgSym s x.image) x.micLen with
    | none => endSession s x 3 1
    | some (f, w0, w1) =>
      let e := pickEntry s
      editUpdLane (putEntry e.2 e.1 w0 w1) sid n (fun l => { l with entry := e.1, frames := f, sf := 6 + eSfc w0 })

/-- What follows from the loss of an entry with the words `w0`, `w1`. -/
def entryLost (s : State) (w0 w1 : Nat) : State :=
  if ePp w0 = 0 then s
  else if eType w0 != 3 then (if pInUse s (eOwner w1) then releaseNode s (eOwner w1) else s)
  else if eKind w1 = 0 then watchAgain s (eIndex w1)
  else if eKind w1 = 3 then mcastAgain s (eIndex w1) (eLane w0)
  else s

/-- A lost codeword of the slot table: both of its entries are emptied. -/
def lostEntries (s : State) (e : Nat) : State :=
  let a0 := entryW0 s e
  let a1 := entryW1 s e
  let b0 := entryW0 s (e + 1)
  let b1 := entryW1 s (e + 1)
  let s := emptyEntry (emptyEntry s e) (e + 1)
  let s := s.ramStore (slotBase + 8 * e) (List.replicate 16 0#8)
  tableLost (entryLost (entryLost s a0 a1) b0 b1) 1 e

/-- A lost record of the event store: its readers see UE until the place is written again (R74, R605). -/
def lostRecord (s : State) (place : Nat) : State :=
  { s with mem := { s.mem with lostLog := s.mem.lostLog.filter (· != place) ++ [place] } }

/-- The statistics of a queue are cleared (R495, R605). -/
def lostStats (s : State) (q : Nat) : State :=
  tableLost (s.setQueue q { s.queue q with samples := 0, depth := Stat.init, delay := Stat.init }) 5 q

/-- The response of the owning region to the loss of codeword `cw` (R605). `desc`: the queue whose descriptor lies there. -/
def lostUnit (s : State) (cw : Nat) (desc : Option Nat) : State :=
  let a := 16 * cw
  match dramRegion a with
  | 0 => lostParcel s (a / 256) (a % 256 / 16)
  | 1 => if a < routeBase then lostMaps s ((a - 0x4000000) / 432) ((a - 0x4000000) % 432 / 16)
         else lostRoute s ((a - routeBase) / 80) ((a - routeBase) % 80 / 16)
  | 2 => lostImage s ((a - 0x4200000) / 0x200000) a
  | 3 => if a < 0x6200000 then lostCell s (0x10000 + (a - 0x5200000) / 256)
         else match desc with
           | some q => queueFaultBy s q 3
           | none => s
  | 4 => lostEntries s ((a - slotBase) / 8)
  | 5 => lostRecord s ((a - logBase) / 32)
  | _ => if (a - 0x7A00000) / 1536 < 4096 then lostStats s ((a - 0x7A00000) / 1536) else s

/-- A codeword found uncorrectable: reported, and answered by its owner. -/
def codewordLost (s : State) (cw origin syndrome : Nat) (desc : Option Nat) : State :=
  lostUnit (dramUe s cw origin syndrome) cw desc

/-- What a read of a codeword shows (R594). A miscorrected one leaves other data in the DRAM. -/
def codewordRead (s : State) (cw origin : Nat) (desc : Option Nat) : CodewordRead → State
  | .clean => s
  | .ce symbol syndrome => dramCe s cw origin symbol syndrome
  | .miscorrected symbol syndrome bytes => (dramCe s cw origin symbol syndrome).ramStore (16 * cw) (slice bytes 0 16)
  | .ue syndrome => codewordLost s cw origin syndrome desc

/-! ### The scrubber (R598–R602) -/

/-- CLK_DATUM cycles of PERIOD_H hours. -/
def scrubPeriod (s : State) : Nat := s.fld F.MEM_SCRUB_CFG_PERIOD_H * 3600 * 250000000

/-- A pass ends and the next one begins at codeword 0 (R600). -/
def scrubEnds (s : State) : State :=
  let m := s.mem
  let s := (s.count F.MEM_SCRUB_PASSES_COUNT 1).setReg A.MEM_SCRUB_LAST_S (BitVec.ofNat 32 s.now.sec)
  let hours := (s.dev.upCycles - m.passAt) / (3600 * 250000000)
  let s := s.event 0x30 0 0x1207 0 (leBytes 4 (s.fld F.MEM_SCRUB_PASSES_COUNT) ++ leBytes 2 (min 65535 m.ces) ++ leBytes 2 (min 65535 m.ues)
    ++ leBytes 2 (min 65535 hours))
  let s := { s with mem := { m with
    target := 0, passAt := s.dev.upCycles, ces := 0, ues := 0, persistent := false, lastCes := m.ces, lastPersistent := m.persistent } }
  setCause ((s.setFld F.MEM_STATUS_SCRUB_LATE 0).setFld F.MEM_SCRUB_POS_CODEWORD 0) 0x30 4

/-- The scrubber may read the next codeword: it lies below the target position, and the account is not throttled. -/
def scrubReady (s : State) : Bool :=
  (s.booting || s.inOperation) && s.boot.dramReady && s.flag F.MEM_CTRL_SCRUB_EN && s.flag F.MEM_STATUS_SCRUB_RUN && coxMayStart s 20
    && s.fld F.MEM_SCRUB_POS_CODEWORD * 65536 < s.mem.target

/-- The scrubber reads the next codeword of the pass. -/
def scrubRead (s : State) (origin : Nat) (found : CodewordRead) (desc : Option Nat) : State :=
  let cw := s.fld F.MEM_SCRUB_POS_CODEWORD
  let s := codewordRead s cw origin desc found
  if cw + 1 = codewords then scrubEnds s else s.setFld F.MEM_SCRUB_POS_CODEWORD (cw + 1)

/-- SCRUB_READ. `demand`: a demand read, or with `true` the read of a merge, meets the error instead, at the codeword named (R595–R597);
`desc`: the queue whose descriptor lies in the codeword. -/
def execScrubRead (demand : Option (Fin 8388608 × Bool)) (found : CodewordRead) (desc : Option (Fin 4096)) (s : State) : Result :=
  .next (match demand with
    | some (cw, merge) =>
      if (s.booting || s.inOperation) && s.boot.dramReady then
        codewordRead s cw (match found, merge with
          | .ue _, true => 4
          | _, _ => 0) (desc.map (fun q => q.val)) found
      else s
    | none => if scrubReady s then scrubRead s 1 found (desc.map (fun q => q.val)) else s)

/-- SCRUB_LATE (R600): one event for a pass. -/
def execScrubLate (s : State) : Result :=
  .next (if (s.booting || s.inOperation) && s.flag F.MEM_STATUS_SCRUB_RUN && !s.flag F.MEM_STATUS_SCRUB_LATE then
    let s := s.event 0x30 0 0x1208 2 (leBytes 4 (s.fld F.MEM_SCRUB_PASSES_COUNT + 1)
      ++ leBytes 4 (codewords - s.fld F.MEM_SCRUB_POS_CODEWORD))
    setCause (s.setFld F.MEM_STATUS_SCRUB_LATE 1) 0x30 5
  else s)

/-! ### The SRAM (R603–R605) -/

/-- The region code of an SRAM unit (R603). -/
def sramRegion : SramUnit → Nat
  | .engine _ => 8
  | .cell _ => 9
  | .descriptor _ => 10
  | .context _ _ => 11
  | .ofdm _ => 11
  | .parcelLine => 12
  | .slotLine => 13
  | .keyEntry _ => 14
  | .buffer => 15
  | .pointer _ => 15

/-- The words of 64 bits of the SRAM that hold a unit, as first word and count, and none for what stands at no fixed place of its area
(R19). The areas follow one another in the order of R19's table (log entry 114): engine memories, fabric buffer, lane buffers,
parcel cache, slot-table cache, key store, other buffers. -/
def sramArea : SramUnit → Nat × Nat
  | .engine n => (32768 * n.val, 32768)
  | .cell h => (524288 + 32 * h.val, 32)
  | .descriptor _ => (524288 + 458752, 65536)
  | .context n _ => (1048576 + 65536 * n.val, 65536)
  | .ofdm n => (1048576 + 65536 * n.val, 65536)
  | .parcelLine => (1310720, 131072)
  | .slotLine => (1441792, 65536)
  | .keyEntry k => (1507328 + 16 * k.val, 16)
  | .buffer => (1515520, 57344)
  | .pointer _ => (1515520, 57344)

/-- The SRAM word at `addr` holds part of a unit. -/
def sramHolds (addr : Nat) (unit : SramUnit) : Bool := (sramArea unit).1 ≤ addr && addr < (sramArea unit).1 + (sramArea unit).2

/-- The decoder context of a lost lane buffer ends (R605). -/
def lostContext (s : State) (n c : Nat) : State :=
  match ctxOf s n c with
  | none => s
  | some x => blankLoss (endCtx s n c (if x.stage = 3 then F.LBB_PAY_CRC_COUNT n else F.LBB_HDR_FAIL_COUNT n)) n x

/-- The OFDM payload of a lost lane buffer ends in LDPC_FAIL (R605). -/
def lostPayload (s : State) (n : Nat) : State :=
  match (s.lane n).ofdm with
  | none => s
  | some o =>
    let s := ofdmEnd s n (F.LOF_LDPC_FAIL_COUNT n) false
    let s := match o.fc with
      | some fc => if fcMapType fc = 1 then noteFrame s (fcSel fc) true none else s
      | none => s
    payloadLoss s n o

/-- The response to a lost SRAM unit (R605). An engine does no more work until PE15 restarts it (ENGINE_RESTART), or for PE15 itself until
the watchdog expires; a key entry is reloaded by KSU
(KEY_WORKING_RELOAD), a cache line is reloaded from the DRAM, an interface operation repeated. -/
def lostSram (s : State) : SramUnit → State
  | .cell h => lostCell s h
  | .descriptor q => queueFaultBy s q 3
  | .context n c => lostContext s n c
  | .ofdm n => lostPayload s n
  | .pointer q => queueFaultBy s q 2
  | .engine n => if s.engine n == .running then s.setEngine n .failed else s
  | .parcelLine => s
  | .slotLine => s
  | .keyEntry _ => s
  | .buffer => s

/-- A reported or unreported CE of the SRAM (R603, R609). -/
def sramCe (s : State) (region origin addr bit syndrome : Nat) : State :=
  let s := s.count F.MEM_SRAM_CE_COUNT 1
  if ceReported s region then
    let s := logError (ceTell s region) false true region origin bit addr syndrome
    setCause (s.event 0x30 0 0x1202 1 (leBytes 1 region ++ leBytes 1 bit ++ leBytes 4 addr)) 0x30 2
  else s

/-- A UE of the SRAM (R603, R608). -/
def sramUe (s : State) (region origin addr syndrome : Nat) : State :=
  let s := recordErr (logError (s.count F.MEM_SRAM_UE_COUNT 1) true true region origin 0xFF addr syndrome) 0x30 0x81 0 addr
  setCause (s.event 0x30 0 0x1203 3 (leBytes 1 region ++ leBytes 1 origin ++ leBytes 4 addr)) 0x30 3

/-- What the read of an SRAM word shows. -/
def sramRead (s : State) (addr origin : Nat) (unit : SramUnit) : SramRead → State
  | .clean => s
  | .ce bit syndrome => sramCe s (sramRegion unit) origin addr bit syndrome.toNat
  | .ue syndrome => lostSram (sramUe s (sramRegion unit) origin addr syndrome.toNat) unit

/-- SRAM_SWEEP. `demand`: a demand read meets the word instead of the sweeper. -/
def execSramSweep (addr : Word) (unit : SramUnit) (demand : Bool) (found : SramRead) (s : State) : Result :=
  .next (if (s.booting || s.inOperation) && sramHolds addr.toNat unit && (demand || (s.flag F.MEM_CTRL_SWEEP_EN && coxMayStart s 20)) then
    sramRead s addr.toNat (if demand then 0 else 2) unit found else s)

/-! ### The error log as it is read (R65, R608) -/

/-- The words of a record: VALID and QUEUED apart. -/
def ErrRecord.words (r : ErrRecord) (queued : Nat) : List Word :=
  [BitVec.ofNat 32 (2 ^ 31 + b01 r.ue * 2 ^ 30 + b01 r.sram * 2 ^ 29 + r.region % 16 * 2 ^ 24 + r.origin % 16 * 2 ^ 20
      + r.position % 256 * 2 ^ 12 + queued),
   BitVec.ofNat 32 r.addr, BitVec.ofNat 32 (r.syndrome % (if r.sram then 256 else 65536)), BitVec.ofNat 32 r.sec,
   BitVec.ofNat 32 (r.ns % 2 ^ 30)]

/-- `ERR_LOG` as it reads: the oldest record, or the last one shown with VALID = 0 (R63). -/
def errLogWords (s : State) : List Word :=
  match s.mem.errLog with
  | r :: t => r.words t.length
  | [] => if s.mem.errLast.isEmpty then List.replicate 5 0#32 else s.mem.errLast

/-- A pop of `ERR_LOG` (R65). -/
def errLogPop (s : State) (src : Requester) : State :=
  let ws := errLogWords s
  let s := match s.mem.errLog, src with
    | [], _ => s
    | _, .jtag => s
    | _ :: t, _ => { s with mem := { s.mem with errLog := t, errLast := ((ws.headD 0#32) &&& 0x7FFFFF80#32) :: ws.drop 1 } }
  readWide s src A.MEM_ERR_LOG ws

/-- ERR_LOG_POP. -/
def execErrLogPop (src : Requester) (s : State) : Result := .next (gateRead s src A.MEM_ERR_LOG (fun s => errLogPop s src))

end Sys2Proof.Machine
end

