-- ==== Sys2Proof/Machine/Stage.lean ====
section
/-!
DEFINITION. Sys2Proof/Machine/Stage.lean: the SELET image and its checks, the firmware bundle, and the staging buffer of the NVC
page (R168–R181).
-/
namespace Sys2Proof.Machine

/-! ### The SELET image (R168–R172) -/

/-- MAGIC and the part of FORMAT that lies in the header (R168, R172): the reason, 0 where both pass. -/
def seletHeader (bs : List Byte) : Nat :=
  let count := fieldAt bs 16 4
  if fieldAt bs 0 4 ≠ 0x544C4553 then 1
  else if fieldAt bs 4 2 = 1 && fieldAt bs 28 4 = 0x8840 && !outside count 1 6132 && fieldAt bs 20 4 = 64 + 16 * count + 128
      && fieldAt bs 6 2 < 8 && fieldAt bs 32 32 = 0 then 0
  else 2

/-- One record of an image (R169). -/
structure SeletRec where
  page : Nat
  kind : Nat
  stop : Bool
  flags : Nat
  offset : Nat
  mask : Word
  value : Word
  param : Nat
  deriving DecidableEq, Repr

/-- The record at byte `i` (R169). -/
def seletRec (bs : List Byte) (i : Nat) : SeletRec :=
  let f (o n : Nat) := fieldAt bs (i + o) n
  { page := f 0 1, kind := f 1 1 % 16, stop := bit (f 1 1) 4, flags := f 1 1 / 32, offset := f 2 2,
    mask := BitVec.ofNat 32 (f 4 4), value := BitVec.ofNat 32 (f 8 4), param := f 12 4 }

/-- Whether a record is well formed; `last` for the last of the image (R169, R172). -/
def seletRecOk (r : SeletRec) (last : Bool) : Bool :=
  let bare := r.page == 0 && r.offset == 0
  let empty := r.mask == 0#32 && r.value == 0#32
  r.flags == 0 && r.offset < 0x1000 && r.offset % 4 == 0 && last == (r.kind == 15) &&
  match r.kind with
  | 0 => r.param == 0
  | 1 => !outside r.param 1 1000000
  | 2 => !outside r.param 1 100000 && bare && empty
  | 3 => bare
  | 15 => bare && empty && r.param == 0 && !r.stop
  | _ => false

/-- An image with its CRC field taken as 0 (R168). -/
def crcZeroed (bs : List Byte) : List Byte := splice bs 24 [0#8, 0#8, 0#8, 0#8]

/-- The checks of R172 on a copy, in their order: the reason of the first that fails, 0 where the copy is valid. -/
def seletReason (bs : List Byte) (floor : Nat) (hash : KeyHash) : Nat :=
  let count := fieldAt bs 16 4
  let signed := 64 + 16 * count
  let image := slice bs 0 (signed + 128)
  let key := slice image signed 64
  if seletHeader bs ≠ 0 then seletHeader bs
  else if !(List.range count).all (fun i => seletRecOk (seletRec image (64 + 16 * i)) (i + 1 == count)) then 2
  else if crc32c (crcZeroed image) ≠ fieldAt image 24 4 then 3
  else match hash with
    | .blank | .unusable => 4
    | .programmed h =>
      if Config.sha256 key ≠ h then 5
      else if !Config.ecdsaVerify key (Config.sha256 ((crcZeroed image).take signed)) (slice image (signed + 64) 64) then 6
      else if fieldAt image 8 4 < floor then 7 else 0

/-! ### The firmware bundle (R178, R179) -/

/-- The checks of R172 that apply to a bundle (R178). -/
def bundleReason (f : BundleFacts) (floor : Nat) : Nat :=
  if f.blank then 1 else if !f.formatOk then 2 else if !f.keyOk then 5 else if !f.signatureOk then 6
  else if !f.hashesOk then 3 else if f.rollback < floor then 7 else 0

/-- FW_RESULT (R182). -/
def fwResult (s : State) (source major minor : Nat) : State :=
  s.event 0x01 0 0x0502 (if source = 0 then 4 else if source = 1 then 0 else 2)
    ([source, s.fld F.NVC_FW_STATUS_PRIMARY, s.fld F.NVC_FW_STATUS_SECONDARY, s.fld F.NVC_FW_STATUS_HOST, major, minor].map
      (BitVec.ofNat 8))

/-- A verified bundle is loaded and the engines start (R178). -/
def loadBundle (s : State) (source : Nat) (f : BundleFacts) : State :=
  let s := (s.setFld F.NVC_FW_STATUS_VERSION (f.major % 256 * 256 + f.minor % 256)).setFld F.NVC_STATUS_FW_SOURCE source
  let s := s.setFld F.NVC_STATUS_FW_WAIT 0
  let s := (List.range 16).foldl (fun (t : State) n => t.setEngine n .running) s
  fwResult { s with
    dev := { s.dev with fwVersion := some (f.major % 256, f.minor % 256), fwRollback := f.rollback },
    boot := { s.boot with fwDone := true } } source f.major f.minor

/-- The search ends with no bundle: PE15 alone runs (R178). -/
def noBundle (s : State) : State :=
  let s := ((s.setFld F.NVC_STATUS_FW_WAIT 0).setFld F.NVC_STATUS_FW_SOURCE 0).setEngine 15 .running
  fwResult { s with boot := { s.boot with fwDone := true } } 0 0 0

/-- The turn of the host as a source (R178, R179): the wait begins, unless it is 0 s. -/
def hostTurn (s : State) : State :=
  if s.fld F.NVC_CTRL_HOST_WAIT_S = 0 then noBundle s else setCause (s.setFld F.NVC_STATUS_FW_WAIT 1) 0x01 2

/-! ### The staging buffer (R176, R179, R181) -/

/-- Words the buffer takes for a target. -/
def stageCapacity (target : Nat) : Nat := if target = 0 then 24576 else if target = 1 then 1048576 else 8

/-- The buffer emptied. -/
def stageEmpty (s : State) : State := { s.setReg A.NVC_STAGE_COUNT 0#32 with stage := { s.stage with words := [] } }

/-- A write to the buffer while an operation runs (R177): discarded. -/
def stageBusy (s : State) (src : Requester) (a : Nat) : State := recordErr s 0x01 0x82 src.code a

/-- A write of the bits `mask` of `NVC.STAGE_CTRL` (R176, R179). TARGET 0b01 is reserved unless the device waits for a bundle. -/
def stageCtrlWrite (s : State) (src : Requester) (data mask : Word) : State :=
  let a := A.NVC_STAGE_CTRL
  if s.flag F.NVC_STAGE_GO_GO then stageBusy s src a
  else
    let target := bitsOf ((s.reg a &&& ~~~mask) ||| (data &&& mask)).toNat 0 2
    let named := bitsOf mask.toNat 0 2 != 0
    let locked := s.flag F.NVC_LOCK_LOCK1
    let refused := target == 3 || (target == 1 && !s.flag F.NVC_STATUS_FW_WAIT)
    let s := if bit data.toNat 8 && bit mask.toNat 8 then stageEmpty s else s
    if !named then s
    else if locked then recordErr s 0x01 0x01 src.code a
    else if refused then recordErr s 0x01 0x05 src.code a
    else stageEmpty (s.setFld F.NVC_STAGE_CTRL_TARGET target)

/-- A write to `NVC.STAGE_DATA` (R176): one word more, or OVERFLOW. -/
def stageDataWrite (s : State) (src : Requester) (data : Word) : State :=
  if s.flag F.NVC_STAGE_GO_GO then stageBusy s src A.NVC_STAGE_DATA
  else if stageCapacity (s.fld F.NVC_STAGE_CTRL_TARGET) ≤ s.stage.words.length then s.setFld F.NVC_STAGE_COUNT_OVERFLOW 1
  else
    { s.setFld F.NVC_STAGE_COUNT_WORDS (s.stage.words.length + 1) with
      stage := { s.stage with words := s.stage.words ++ [data] } }

/-- The bytes of the words staged, each word least significant byte first. -/
def stagedBytes (words : List Word) : List Byte := words.flatMap (fun w => leBytes 4 w.toNat)

/-- The copy that a staged image goes to: the one not applied at the present boot, or A (R176). -/
def targetCopy (s : State) : Nat := if s.boot.seletCopy = 1 then 1 else 0

/-- A copy in ReRAM replaced. -/
def setCopy (s : State) (copy : Nat) (bs : List Byte) : State :=
  { s with nv := if copy = 0 then { s.nv with copyA := bs } else { s.nv with copyB := bs } }

/-- Why a staged operation is refused (R176, R179, R181); 0 where it is not. `NVC.LOCK.LOCK1` forbids image writes and host bundle
staging for the rest of the boot. -/
def stageReason (s : State) (target : Nat) (bundle : Option BundleFacts) : Nat :=
  if s.flag F.NVC_LOCK_LOCK1 && target < 2 then 0xA
  else if s.flag F.NVC_STAGE_COUNT_OVERFLOW then 2
  else match target with
    | 0 =>
      let bs := stagedBytes s.stage.words
      if seletHeader bs = 0 && fieldAt bs 20 4 ≠ bs.length then 2 else seletReason bs s.nv.seletFloor s.nv.keyHash
    | 1 =>
      if !s.flag F.NVC_STATUS_FW_WAIT then 0xA
      else match bundle with
        | some f => bundleReason f s.nv.fwFloor
        | none => 1
    | _ =>
      if s.devState ≠ 3 || s.nv.keyHash ≠ .blank then 0xA else if s.stage.words.length ≠ 8 then 2 else 0

/-- The staged operation begins (R176, R179, R181). A copy to be written loses its header first (R177). -/
def beginStage (s : State) (src copy : Nat) (bundle : Option BundleFacts) : State :=
  let target := s.fld F.NVC_STAGE_CTRL_TARGET
  let reason := stageReason s target bundle
  let s := if target = 0 && reason = 0 then setCopy s copy [] else s
  { s with stage := { s.stage with
      op := some { target := target, reason := reason, copy := copy, words := s.stage.words, bundle := bundle, src := src } } }

/-- GO written 1 (R176): the result is no longer valid; a start while an operation runs is kept pending (R177). -/
def stageGo (s : State) (src : Requester) (bundle : Option BundleFacts) : State :=
  let busy := s.flag F.NVC_STAGE_GO_GO
  let s := (startGo s A.NVC_STAGE_GO 0).setFld F.NVC_STAGE_RESULT_VALID 0
  if busy then s else beginStage s src.code (if s.fld F.NVC_STAGE_CTRL_TARGET = 0 then targetCopy s else 0) bundle

/-- What a staged operation that its checks let through does: the reason it ends with (R176, R179, R181). -/
def stageEffect (s : State) (op : StageOp) (writeOk : Bool) : State × Nat :=
  match op.target with
  | 0 => if writeOk then (setCopy s op.copy (stagedBytes op.words), 0) else (s, 0xB)
  | 1 =>
    match op.bundle with
    | some f =>
      if s.booting && s.flag F.NVC_STATUS_FW_WAIT then (loadBundle (s.setFld F.NVC_FW_STATUS_HOST 0) 3 f, 0) else (s, 0xA)
    | none => (s, 1)
  | _ =>
    let hash := if writeOk then KeyHash.programmed (stagedBytes op.words) else .unusable
    ({ s with nv := { s.nv with keyHash := if s.nv.keyHash = .blank then hash else s.nv.keyHash } }, if writeOk then 0 else 0xB)

/-- What a staged operation reports: SELET_PROG, the result, the cause, the error (R176, R182). -/
def stageReport (s : State) (op : StageOp) (reason : Nat) : State :=
  let s := if op.target = 1 then s else
    s.event 0x01 0 0x0504 (if reason = 0 then 0 else 2) (leBytes 1 op.target ++ leBytes 1 op.copy ++ leBytes 1 reason)
  let s := s.setReg A.NVC_STAGE_RESULT (BitVec.ofNat 32 (2 ^ 31 + 256 * reason + op.copy))
  let s := setCause s 0x01 (if reason = 0 then 0 else 1)
  if op.target = 0 && reason ≠ 0 && reason ≠ 0xB then recordErr s 0x01 0x81 op.src A.NVC_STAGE_GO else s

/-- STAGE_OP_DONE (R177, R179, R181). A start kept pending begins the same operation again. -/
def stageDone (s : State) (op : StageOp) (writeOk : Bool) : State :=
  let s := if op.target = 1 && op.reason ≠ 0 && op.reason ≠ 0xA then s.setFld F.NVC_FW_STATUS_HOST op.reason else s
  let (s, reason) := if op.reason = 0 then stageEffect s op writeOk else (s, op.reason)
  let s := stageReport { s with stage := { s.stage with op := none } } op reason
  let (s, again) := endGo s A.NVC_STAGE_GO 0
  if again then beginStage s op.src op.copy op.bundle else s

/-- STAGE_TARGET_WRITE (R179). -/
def execStageTargetWrite (src : Requester) (data : Word) (s : State) : Result :=
  .next (gateWrite s src A.NVC_STAGE_CTRL (fun s => stageCtrlWrite s src data allBits))

/-- STAGE_CLEAR (R176): a write of CLEAR alone. -/
def execStageClear (src : Requester) (s : State) : Result :=
  .next (gateWrite s src A.NVC_STAGE_CTRL (fun s => stageCtrlWrite s src 0x100#32 0x100#32))

/-- STAGE_DATA_WRITE (R176). -/
def execStageDataWrite (src : Requester) (data : Word) (s : State) : Result :=
  .next (gateWrite s src A.NVC_STAGE_DATA (fun s => stageDataWrite s src data))

/-- SELET_IMAGE_WRITE (R176): GO with TARGET 0b00. -/
def execSeletImageWrite (src : Requester) (s : State) : Result :=
  .next (gateWrite s src A.NVC_STAGE_GO (fun s =>
    if s.fld F.NVC_STAGE_CTRL_TARGET = 0 then stageGo s src none else s))

/-- HOST_BUNDLE_STAGE (R179): GO with TARGET 0b01. -/
def execHostBundleStage (src : Requester) (bundle : BundleFacts) (s : State) : Result :=
  .next (gateWrite s src A.NVC_STAGE_GO (fun s =>
    if s.fld F.NVC_STAGE_CTRL_TARGET = 1 then stageGo s src (some bundle) else s))

/-- KEY_HASH_PROGRAM (R181): GO with TARGET 0b10. -/
def execKeyHashProgram (src : Requester) (s : State) : Result :=
  .next (gateWrite s src A.NVC_STAGE_GO (fun s =>
    if s.fld F.NVC_STAGE_CTRL_TARGET = 2 then stageGo s src none else s))

/-- STAGE_OP_DONE. -/
def execStageOpDone (writeOk : Bool) (s : State) : Result :=
  .next (match s.stage.op with
    | none => s
    | some op => if s.answers then stageDone s op writeOk else s)

/-- A bundle of which nothing is known: GO written through a register write that carries no facts. Every fact is free. -/
def freeBundle (s : State) : BundleFacts × State :=
  let f (i : Nat) := bit (Config.freeNat (s.fresh + i)) 0
  ({ blank := f 0, formatOk := f 1, keyOk := f 2, signatureOk := f 3, hashesOk := f 4,
     rollback := Config.freeNat (s.fresh + 5) % 2 ^ 32, major := Config.freeNat (s.fresh + 6) % 256,
     minor := Config.freeNat (s.fresh + 7) % 256 }, { s with fresh := s.fresh + 8 })

/-- GO written 1 through any register write. -/
def stageGoWrite (s : State) (src : Requester) : State :=
  if s.fld F.NVC_STAGE_CTRL_TARGET = 1 then
    let (f, s) := freeBundle s
    stageGo s src (some f)
  else stageGo s src none

end Sys2Proof.Machine
end

