-- ==== Sys2Proof/Machine/Ind.lean ====
section
/-!
DEFINITION. Sys2Proof/Machine/Ind.lean: the indirect window and its domains (R67–R78, R224, R303, R329, R421, R422, R707).
-/
namespace Sys2Proof.Machine

/-! ### The identification registers (R41) -/

/-- `PAGE_ID` of a page. -/
def pageId (page : Nat) : Word :=
  let base := basePage page
  let version := if page = 0 then 0x0B01 else (Config.pageVersion page).toNat
  BitVec.ofNat 32 (base * 2 ^ 24 + (page - base) * 2 ^ 20 + version)

/-- `PAGE_CAP` of a page. -/
def pageCap (page : Nat) : Word :=
  match blockOf page with
  | none => 0#32
  | some b => BitVec.ofNat 32 ((Config.blockCap page).toNat * 2 ^ 16 + b01 b.indDomain * 2 ^ 15 + b01 b.result * 2 ^ 14 + b.topIndex)

/-! ### The AON domain (R707) -/

/-- A word of the AON or WUR page: of its shadow in CORE, or of the register itself. WO registers read 0. -/
def aonView (s : State) (a : Nat) (shadow : Bool) : Word :=
  let w := if shadow then aonShadow s a else s.reg a
  if a % 0x1000 = 0 then pageId (a / 0x1000)
  else if a % 0x1000 = 4 then pageCap (a / 0x1000)
  else if a = A.AON_STATUS then insBits w 31 1 (b01 (!s.pow.aonQueue.isEmpty))
  else if a = A.WUR_STATUS then insBits w 0 1 (b01 (wurListens s))
  else w

/-- A word of the tamper record. -/
def tamperWord (s : State) (i : Nat) : Word :=
  match s.sec.tamper with
  | none => 0#32
  | some t =>
    match i with
    | 0 => BitVec.ofNat 32 (2 ^ 31 + b01 t.reported * 2 ^ 30 + t.source)
    | 1 => BitVec.ofNat 32 (t.sensor * 256 + t.devState)
    | 2 => BitVec.ofNat 32 t.aonTime
    | 3 => BitVec.ofNat 32 t.datumSec
    | _ => 0#32

/-- A word of the WATCH log. -/
def watchWord (s : State) (i : Nat) : Word :=
  match s.pow.watchLog.find? (fun e => e.seq % 32 == i / 4) with
  | none => 0#32
  | some e =>
    BitVec.ofNat 32 (match i % 4 with
      | 0 => e.kind
      | 1 => e.time
      | 2 => e.addr
      | _ => e.cmd + e.rssi * 256 + e.seq % 65536 * 65536)

/-- A word of the AON domain. -/
def aonDomain (s : State) (w : Nat) : Word :=
  let page (p : Nat) := p * 0x1000 + 4 * (w % 0x20)
  if w < 0x20 then (if implemented (page 2) then aonView s (page 2) false else 0#32)
  else if w < 0x40 then (if implemented (page 3) then aonView s (page 3) false else 0#32)
  else if w < 0x48 then tamperWord s (w - 0x40)
  else if 0x80 ≤ w && w < 0x100 then watchWord s (w - 0x80)
  else 0#32

/-! ### The domains -/

/-- Words of a domain; none for a reserved code (R67). -/
def indSize (dom : Nat) : Option Nat :=
  if dom < 4 then some 4096 else if dom = 4 then some 1024 else if dom = 8 then some 16777216 else if dom = 9 then some 2097152
  else if dom = 10 then some 524288 else if dom = 11 then some 2097152 else none

/-- The word exists (R67, R72). -/
def indExists (dom w : Nat) : Bool := (indSize dom).any (fun n => w < n)

/-- First byte of a DRAM domain (R18). -/
def indBase (dom : Nat) : Nat := if dom = 8 then 0 else if dom = 9 then slotBase else if dom = 10 then 0x4000000 else logBase

/-- A write that a rule refuses (R73, R196, R224, R422, R707). -/
def indRefused (s : State) (dom w : Nat) (data : Word) : Bool :=
  let maint := s.devState == 3
  let so (i : Nat) := bitsOf data.toNat (8 * i) 8
  if dom < 4 then analogRefused s dom w data
  else if dom = 4 then 0x40 ≤ w
  else if dom = 8 then
    !maint || !(w % 64 == 4 && pInUse s (w / 64)) || outside (so 0) 6 12 || outside (so 1) (so 0) 12
  else if dom = 10 then !maint || 442368 ≤ w
  else !maint

/-- A DRAM access through the pair charged to HOST_DMA (R75, R648): one codeword, one fabric unit. -/
def indCharge (s : State) : State := coxCharge s 16 1

/-- A write that is made. -/
def indStore (s : State) (src : Requester) (dom w : Nat) (data : Word) : State :=
  if dom < 4 then analogWrite s dom w data
  else if dom = 4 then
    let a := (if w < 0x20 then 0x02000 else 0x03000) + 4 * (w % 0x20)
    if (specOf a).isSome then plainWrite s src a data allBits else s
  else if dom = 8 then (indCharge s).ramStore (indBase 8 + 4 * w) (leBytes 3 data.toNat)
  else (indCharge s).ramStore (indBase dom + 4 * w) (leBytes 4 data.toNat)

/-- The aligned group of four words of a DRAM domain that holds word `w` (R77); parcels not in use read 0 (R421). -/
def indGroup (s : State) (dom w : Nat) : List Word :=
  if dom = 8 && !pInUse s (w / 64) then [0#32, 0#32, 0#32, 0#32]
  else (List.range 4).map (fun i => BitVec.ofNat 32 (s.ramNat (indBase dom + 16 * (w / 4) + 4 * i) 4))

/-- A word of a domain that is not in the DRAM. -/
def indWord (s : State) (dom w : Nat) : Word := if dom < 4 then analog s dom w else aonDomain s w

/-! ### The window (R68–R72) -/

/-- An error of the window: its flag, and its code in `IND.ERR_CAP`. -/
def indError (s : State) (src : Requester) (flag : Fld) (code : Nat) (addr : Word) : State :=
  recordErr (s.setFld flag 1) 0x06 code src.code addr.toNat

/-- Storing the window's state. -/
def State.setInd (s : State) (i : Ind) : State := { s with ind := i }

/-- The words of an increment (R68, R70). -/
def indStep (s : State) : Nat :=
  match s.fld F.IND_IND_CTRL_INC with
  | 1 => 1
  | 2 => 4
  | _ => 0

/-- WADDR advances by the increment (R68, R70). -/
def indAdvance (s : State) : State := s.setFld F.IND_IND_ADDR_WADDR (s.fld F.IND_IND_ADDR_WADDR + indStep s)

/-- An access is issued: BUSY sets (R68, R70). One beyond its domain is not made (R72). -/
def indIssue (s : State) (acc : IndAccess) : State :=
  let s := (s.setFld F.IND_IND_STATUS_BUSY 1).setInd { s.ind with busy := some acc }
  if indExists (acc.addr.toNat / 2 ^ 28) (acc.addr.toNat % 2 ^ 28) then s
  else indError s acc.src F.IND_IND_STATUS_RANGE 0x08 acc.addr

/-- A prefetch of the word at `IND_ADDR` begins (R68, R77). `next`: it follows a read of `IND_DATA`. -/
def prefetch (s : State) (src : Requester) (next : Bool) : State :=
  let a := s.reg A.IND_IND_ADDR
  let dom := a.toNat / 2 ^ 28
  let same := next && 8 ≤ dom && s.fld F.IND_IND_CTRL_INC == 1 && s.ind.group.any (fun g => g.1 == a.toNat / 4)
  indIssue s { write := false, made := indExists dom (a.toNat % 2 ^ 28), addr := a, data := 0#32, fromGroup := same, src := src }

/-- A write while BUSY is discarded (R71). -/
def indOverrun (s : State) (src : Requester) : State := indError s src F.IND_IND_STATUS_OVERRUN 0x06 (s.reg A.IND_IND_ADDR)

/-- A write of the bits `mask` of `IND_ADDR` (R68, R71, R77): in read mode a prefetch begins and a word that waits is discarded. -/
def indAddrWrite (s : State) (src : Requester) (data mask : Word) : State :=
  if s.flag F.IND_IND_STATUS_BUSY then indOverrun s src
  else
    let s := (writeFields s src A.IND_IND_ADDR data mask).setInd { s.ind with group := none }
    if s.flag F.IND_IND_CTRL_MODE then prefetch (s.setFld F.IND_IND_STATUS_RD_VALID 0) src false else s

/-- A write of the bits `mask` of `IND_CTRL` (R71, R77): a change of MODE discards a word that waits. -/
def indCtrlWrite (s : State) (src : Requester) (data mask : Word) : State :=
  if s.flag F.IND_IND_STATUS_BUSY then indOverrun s src
  else
    let t := (writeFields s src A.IND_IND_CTRL data mask).setInd { s.ind with group := none }
    if t.flag F.IND_IND_CTRL_MODE == s.flag F.IND_IND_CTRL_MODE then t else t.setFld F.IND_IND_STATUS_RD_VALID 0

/-- A write of `IND_DATA` (R70–R73). While BUSY, R71 alone is applied to a write in read mode, and of R72 and R73 the range alone to a
word beyond the domain: the spec gives neither pair an order (log entry 105). -/
def indDataWrite (s : State) (src : Requester) (data : Word) : State :=
  let a := s.reg A.IND_IND_ADDR
  let dom := a.toNat / 2 ^ 28
  let w := a.toNat % 2 ^ 28
  if s.flag F.IND_IND_STATUS_BUSY then indOverrun s src
  else if s.flag F.IND_IND_CTRL_MODE then indError s src F.IND_IND_STATUS_DENIED 0x09 a
  else
    let refused := indExists dom w && indRefused s dom w data
    let s := indIssue s { write := true, made := indExists dom w && !refused, addr := a, data := data, fromGroup := false, src := src }
    if refused then indError s src F.IND_IND_STATUS_DENIED 0x09 a else s

/-- A read of `IND_DATA` (R68, R69). JTAG debug reads consume nothing (R49). -/
def indDataRead (s : State) (src : Requester) : State :=
  let valid := s.flag F.IND_IND_STATUS_RD_VALID
  let w := if valid then s.ind.word else s.ind.last
  let s := s.send (.readData src A.IND_IND_DATA w)
  if src = .jtag then s
  else if !valid then indError s src F.IND_IND_STATUS_EARLY 0x07 (s.reg A.IND_IND_ADDR)
  else prefetch (indAdvance ((s.setFld F.IND_IND_STATUS_RD_VALID 0).setInd { s.ind with last := w })) src true

/-- The codeword of the DRAM that holds word `w` of a domain. -/
def indCodeword (dom w : Nat) : Nat := indBase dom / 16 + w / 4

/-- The record of the event store in which word `w` lies has been lost and its place not written again. -/
def indLostRecord (s : State) (dom w : Nat) : Bool := dom == 11 && s.mem.lostLog.contains (w / 8)

/-- A group read from the DRAM (R74, R77): its words, whether it was uncorrectable, and the state after. A codeword that cannot be
corrected, and a DRAM not yet initialised, show words the spec leaves open. -/
def indRead (s : State) (dom w : Nat) (found : CodewordRead) (desc : Option Nat) : List Word × Bool × State :=
  let open4 (t : State) : List Word × State :=
    let (bs, t) := drawBytes t 16
    ((leWords bs 4).map (BitVec.ofNat 32), t)
  if !s.boot.dramReady then
    let (ws, t) := open4 s
    (ws, false, t)
  else
    match found with
    | .ue _ =>
      let (ws, t) := open4 s
      (ws, true, codewordRead t (indCodeword dom w) 3 desc found)
    | _ =>
      if indLostRecord s dom w then
        let (ws, t) := open4 s
        (ws, true, t)
      else
        let t := codewordRead s (indCodeword dom w) 3 desc found
        (indGroup t dom w, false, t)

/-- The word of a prefetch arrives (R68): BUSY clears and RD_VALID sets. -/
def indArrive (s : State) (w : Word) : State :=
  ((s.setFld F.IND_IND_STATUS_BUSY 0).setFld F.IND_IND_STATUS_RD_VALID 1).setInd { s.ind with busy := none, word := w }

/-- A prefetch completes (R68, R72, R74, R77). A later word of a group that was read uncorrectable is taken from the group without
another UE, which R74 leaves open (log entry 105). -/
def indPrefetched (s : State) (acc : IndAccess) (found : CodewordRead) (desc : Option Nat) : State :=
  let dom := acc.addr.toNat / 2 ^ 28
  let w := acc.addr.toNat % 2 ^ 28
  if !acc.made then indArrive s 0#32
  else if dom < 8 then indArrive s (indWord s dom w)
  else
    match acc.fromGroup, s.ind.group with
    | true, some g => indArrive s ((g.2.drop (w % 4)).headD 0#32)
    | _, _ =>
      let (ws, ue, t) := indRead (indCharge s) dom w found desc
      let t := indArrive (t.setInd { t.ind with group := some (acc.addr.toNat / 4, ws) }) ((ws.drop (w % 4)).headD 0#32)
      if ue then indError t acc.src F.IND_IND_STATUS_UE 0x0A acc.addr else t

/-- IND_ADDR_WRITE. -/
def execIndAddrWrite (src : Requester) (data : Word) (s : State) : Result :=
  .next (gateWrite s src A.IND_IND_ADDR (fun s => indAddrWrite s src data allBits))

/-- IND_CTRL_WRITE. -/
def execIndCtrlWrite (src : Requester) (data : Word) (s : State) : Result :=
  .next (gateWrite s src A.IND_IND_CTRL (fun s => indCtrlWrite s src data allBits))

/-- IND_DATA_WRITE. -/
def execIndDataWrite (src : Requester) (data : Word) (s : State) : Result :=
  .next (gateWrite s src A.IND_IND_DATA (fun s => indDataWrite s src data))

/-- IND_DATA_READ. -/
def execIndDataRead (src : Requester) (s : State) : Result :=
  .next (gateRead s src A.IND_IND_DATA (fun s => indDataRead s src))

/-- IND_PREFETCH_DONE. -/
def execIndPrefetchDone (found : CodewordRead) (desc : Option (Fin 4096)) (s : State) : Result :=
  .next (match s.ind.busy with
    | some acc => if s.answers && !acc.write then indPrefetched s acc found (desc.map (fun q => q.val)) else s
    | none => s)

/-- IND_WRITE_ACK (R70, R72, R73): the write has been made, or not; WADDR advances either way. -/
def execIndWriteAck (s : State) : Result :=
  .next (match s.ind.busy with
    | some acc =>
      if s.answers && acc.write then
        let t := if acc.made then indStore s acc.src (acc.addr.toNat / 2 ^ 28) (acc.addr.toNat % 2 ^ 28) acc.data else s
        indAdvance ((t.setFld F.IND_IND_STATUS_BUSY 0).setInd { t.ind with busy := none })
      else s
    | none => s)

end Sys2Proof.Machine
end

