-- ==== Sys2Proof/Machine/Router.lean ====
section
/-!
DEFINITION. Sys2Proof/Machine/Router.lean: what a register write does and what a register read shows, page by page; the bit-alias
area, the wide values and the pop addresses (R32–R66).
-/
namespace Sys2Proof.Machine

/-! ### What registers show -/

/-- Active page interrupts of pages 32n to 32n + 31 (`HIF.IRQ_SUMn`, R42). -/
def irqSum (s : State) (n : Nat) : Word :=
  (List.range 32).foldl (fun w b =>
    if pageActive s (32 * n + b) then w ||| BitVec.ofNat 32 (2 ^ b) else w) 0#32

/-- The vectors now active, as a map (`HIF.VEC_ACTIVE`, R110). -/
def vecActive (s : State) : Nat := (activeVectors s).foldl (fun n v => n ||| 2 ^ v) 0

/-- Computed words of the control pages. -/
def viewControl (s : State) (a : Nat) : Option Word :=
  let w := s.reg a
  if a = A.SYS_CLK_STATUS then some (insBits w 12 1 (s.fld F.SYS_CLK_CFG_SSC_EN))
  else if a / 0x1000 = 2 || a / 0x1000 = 3 then some (aonView s a true)
  else if a = A.HIF_STATUS then
    some (insBits (insBits w 6 1 (b01 s.host.msixEnable)) 7 1
      (b01 (!s.host.msixEnable && !s.host.intxDisable && vecActive s != 0)))
  else if A.HIF_IRQ_SUM 0 ≤ a && a < A.HIF_IRQ_SUM 8 then some (irqSum s ((a - A.HIF_IRQ_SUM 0) / 4))
  else if a = A.HIF_VEC_ARMED then some (~~~(BitVec.ofNat 32 s.host.disarmed))
  else if a = A.HIF_VEC_ACTIVE then some (BitVec.ofNat 32 (vecActive s))
  else if a = A.CMD_STATUS then
    let fault := (List.range 4).foldl (fun n k => if ringState s k = 3 then n + 2 ^ k else n) 0
    some (BitVec.ofNat 32 (fault + 256 * b01 (!(s.ring 4).cmds.isEmpty)))
  else if 0x05040 ≤ a && a < 0x05140 && a % 0x40 = 0x04 then
    some (insBits w 8 8 (s.ring ((a - 0x05040) / 0x40)).cmds.length)
  else none

/-- The words of the self-test selected by `BST.RES_SEL` (R718). -/
def viewBist (s : State) (a : Nat) : Option Word :=
  let n := s.fld F.BST_RES_SEL_TEST
  let r := Tbl.get (fun _ => BistResult.none) s.bst.results n
  if a = A.BST_RES_INFO then
    some (BitVec.ofNat 32 (2 ^ 31 * b01 r.ran + 2 ^ 30 * b01 r.pass + 2 ^ 29 * b01 r.abandoned + min (2 ^ 24 - 1) r.micros))
  else if a = A.BST_RES_MISR then some (r.misr.setWidth 32)
  else if a = A.BST_RES_MISR_HI then some ((r.misr >>> 32).setWidth 32)
  else if a = A.BST_RES_EXP then some ((Config.fusedMisr n).setWidth 32)
  else if a = A.BST_RES_EXP_HI then some ((Config.fusedMisr n >>> 32).setWidth 32)
  else none

/-- `LOFn.STATUS`. -/
def lofStatusWord (s : State) (n : Nat) : Word :=
  let tx := (onAir s n).any (fun t => t.mode == 1)
  BitVec.ofNat 32 (b01 (s.lane n).ofdm.isSome + 2 * b01 tx + 16 * (s.lane n).meas.length + 2 ^ 16 * s.cad.retiring.length)

/-- Computed words of the lane pages. -/
def viewLane (s : State) (a : Nat) : Option Word :=
  let n := a / 0x1000 % 4
  if a = A.LRF_ANCHOR_STATUS n then some (anchorStatusWord s n)
  else if a = A.LRF_BLANK_TIME_US n then some (blankTimeWord s n)
  else if a = A.LBB_STATUS n then some (lbbStatusWord s n)
  else if 0x14000 ≤ a && a < 0x18000 && 0x094 ≤ a % 0x1000 && a % 0x1000 < 0x0B4 then some (noiseWord s n ((a % 0x1000 - 0x094) / 4))
  else if a = A.LOF_STATUS n then some (lofStatusWord s n)
  else none

/-- Computed words of the mesh pages. -/
def viewMesh (s : State) (a : Nat) : Option Word :=
  let count (f : Nat → Bool) : Word := BitVec.ofNat 32 ((usedParcels s).filter f).length
  if a = A.MAC_STATUS then some (insBits (insBits (s.reg a) 8 7 (if beforeZero s s.nowNs then 127 else sfnNow s)) 16 13 (tickNow s))
  else if a = A.MAC_NODES_ACTIVE then some (count (fun p => pLink s p == 1))
  else if a = A.MAC_NODES_RDV then some (count (fun p => pLink s p == 2))
  else if a = A.CAD_PARCELS_USED then some (count (fun _ => true))
  else if a = A.CAD_WOR_USED then some (count (fun p => pClass s p == 1))
  else if a = A.CAD_PEERS_USED then some (count (pPeerValid s))
  else if a = A.CAD_ROUTES_VALID then some (BitVec.ofNat 32 ((List.range 4096).filter (routeValid s)).length)
  else none

/-- Computed words of the forwarding pages. -/
def viewForward (s : State) (a : Nat) : Option Word :=
  match a / 0x1000 with
  | 0x20 => (fabView s a).map (BitVec.ofNat 32)
  | 0x21 => (qwView s a).map (BitVec.ofNat 32)
  | 0x22 => (tssView s a).map (BitVec.ofNat 32)
  | 0x24 | 0x25 =>
    let x := a / 0x1000 - 0x24
    if 0x050 ≤ a % 0x1000 && a % 0x1000 < 0x060 then some (saWord s x (a % 0x1000))
    else if a = A.EM_STATUS x then some (emStatusWord s x)
    else none
  | 0x26 => if A.DTM_TIME ≤ a && a ≤ A.DTM_TIME3 then some (((timeWords s).drop ((a - A.DTM_TIME) / 4)).headD 0#32) else none
  | _ => none

/-- Computed words of the security and supervision pages. -/
def viewSupport (s : State) (a : Nat) : Option Word :=
  if a = A.RED_STATUS then some (insBits (insBits (s.reg a) 11 1 (b01 (ilkOut s))) 13 1 (b01 (gateOpen s)))
  else if a = A.RED_OWN_ID then some (BitVec.ofNat 32 (fieldAt ownIdentity 0 4))
  else if a = A.RED_OWN_ID_HI then some (BitVec.ofNat 32 (fieldAt ownIdentity 4 4))
  else if A.COX_ACCT_STAT 0 ≤ a && a < A.COX_ACCT_STAT 32 then some (acctStatWord s ((a - A.COX_ACCT_STAT 0) / 4))
  else if a = A.COX_OVR_NONZERO then some (ovrNonzeroWord s)
  else if a = A.MGM_KF then some (Config.fusedKf.setWidth 32)
  else none

/-- What the register at `a` shows, without side effects: a word of a pop address excepted. -/
def viewWord (s : State) (a : Nat) : Word :=
  let page := a / 0x1000
  if a % 0x1000 = 0 then pageId page
  else if a % 0x1000 = 4 then pageCap page
  else
    let v := if page = 0x07 then viewBist s a else if page < 0x10 then viewControl s a else if page < 0x1C then viewLane s a
      else if page < 0x20 then viewMesh s a else if page < 0x28 then viewForward s a else viewSupport s a
    if a = A.IND_IND_DATA then s.ind.word
    else if a = A.GCL_WIN_DATA then
      let x := s.fld F.GCL_WIN_SEL_LIST
      let i := s.fld F.GCL_WIN_SEL_ENTRY
      if !isPortList x && 64 ≤ i then 0#32 else (s.gate x).entry (s.fld F.GCL_WIN_SEL_BANK) i
    else v.getD (s.reg a)

/-! ### Writes -/

/-- `GCL.Lx_CTRL` (R54, R57, R489): its fields, then SWITCH. -/
def gateCtrlWrite (s : State) (src : Requester) (x : Nat) (data mask : Word) : State :=
  let a := A.GCL_L_CTRL x
  let switch := bit data.toNat 8 && bit mask.toNat 8
  let t := writeFields s src a data (mask &&& ~~~0x100#32)
  let t := if !switch then t
    else if gateLocked s x then (if bit mask.toNat 31 then t else recordErr t 0x23 0x01 src.code a)
    else writeSwitch t x
  gatesRefresh t x

/-- A write of the bits `mask` of a register of SYS, NVC or HIF. -/
def writePlatform (s : State) (src : Requester) (a : Nat) (data mask : Word) : State :=
  let d := data &&& mask
  if a = A.SYS_CTRL then sysCtrlWrite s src data mask
  else if a = A.SYS_LG_DATA then lgDataWrite s src d
  else if a = A.NVC_RESET_CTRL then resetCtrlWrite s src d
  else if a = A.NVC_STAGE_CTRL then stageCtrlWrite s src data mask
  else if a = A.NVC_STAGE_DATA then stageDataWrite s src d
  else if a = A.NVC_STAGE_GO then (if bit d.toNat 0 then stageGoWrite s src else s)
  else if a = A.HIF_VEC_REARM then rearm s (bitsOf d.toNat 0 5)
  else if A.HIF_VEC_MAP 0 ≤ a && a < A.HIF_VEC_MAP 64 then fire (writeFields s src a data mask)
  else plainWrite s src a data mask

/-- A write of the bits `mask` of a register of a command ring. -/
def writeRing (s : State) (src : Requester) (k a : Nat) (data mask merged : Word) : State :=
  match (a - 0x05040) % 0x40 with
  | 0x00 => fire (ringCtrlWrite s src k data mask)
  | 0x08 => ringConfigWrite s src k a merged allBits
  | 0x0C => ringConfigWrite s src k a merged allBits
  | 0x10 => ringConfigWrite s src k a merged allBits
  | 0x14 => ringConfigWrite s src k a merged allBits
  | 0x18 => ringConfigWrite s src k a data mask
  | 0x1C => tailWrite s src k data mask
  | 0x24 => cqHeadWrite s src k data mask
  | 0x30 => ringConfigWrite s src k a data mask
  | _ => plainWrite s src a data mask

/-- A write of the bits `mask` of a register of CMD. -/
def writeCmd (s : State) (src : Requester) (a : Nat) (data mask merged : Word) : State :=
  if 0x05040 ≤ a && a < 0x05140 then writeRing s src ((a - 0x05040) / 0x40) a data mask merged
  else if a = A.CMD_CTRL then fire (plainWrite s src a data mask)
  else if a = A.CMD_MBX_SUBMIT then mbxSubmit s data mask
  else if a = A.CMD_EVR_CTRL then fire (evrCtrlWrite s src data mask)
  else if a = A.CMD_EVR_BASE || a = A.CMD_EVR_BASE_HI then evrBaseWrite s src a merged
  else if a = A.CMD_EVR_HEAD then evrHeadWrite s src data mask
  else plainWrite s src a data mask

/-- A write of the bits `mask` of a register of IND. A write of part of `IND_DATA` is ignored, as an alias write is. -/
def writeInd (s : State) (src : Requester) (a : Nat) (data mask : Word) : State :=
  if a = A.IND_IND_ADDR then indAddrWrite s src data mask
  else if a = A.IND_IND_CTRL then indCtrlWrite s src data mask
  else if a = A.IND_IND_DATA then (if mask = allBits then indDataWrite s src data else s)
  else plainWrite s src a data mask

/-- A write of the bits `mask` of a register of a lane's pages. -/
def writeLane (s : State) (src : Requester) (a : Nat) (data mask : Word) : State :=
  let n := a / 0x1000 % 4
  if a = A.LRF_CTRL n then laneCtrlWrite s src n data mask
  else if a = A.LBB_CTRL n then lbbCtrlWrite s src n data mask
  else if a = A.LRF_BLANK_CFG n then blankCfgWrite s src n data mask
  else if a = A.LRF_ANCHOR n then anchorWrite s src n data mask
  else if a = A.LRF_FEM_CFG n || a = A.LRF_FEM_BIAS n then setPins (writeFields s src a data mask) n
  else if A.LBB_SUBCH n 0 ≤ a && a < A.LBB_SUBCH n 8 then subchWrite s src n ((a - A.LBB_SUBCH n 0) / 4) data mask
  else plainWrite s src a data mask

/-- A write of the bits `mask` of a register of the mesh pages. -/
def writeMesh (s : State) (src : Requester) (a : Nat) (data mask : Word) : State :=
  if a / 0x1000 = 0x1C && 0x100 ≤ a % 0x1000 && a % 0x1000 < 0x300 then nbrWrite s src a data mask
  else if a = A.RGL_CTRL || a = A.RGL_PROFILE then profileWrite s src a data mask
  else if a = A.RGL_ACCT_SEL then acctSelWrite s src data mask
  else plainWrite s src a data mask

/-- A write of the bits `mask` of a register of FAB. -/
def writeFab (s : State) (src : Requester) (a : Nat) (data mask merged : Word) : State :=
  if 0x20040 ≤ a && a < 0x20140 then
    let k := (a - 0x20040) / 0x20
    match (a - 0x20040) % 0x20 with
    | 0x00 => hrxCtrlWrite s src k data mask
    | 0x04 => hrxConfigWrite s src k a merged allBits
    | 0x08 => hrxConfigWrite s src k a merged allBits
    | 0x0C => hrxConfigWrite s src k a data mask
    | _ => plainWrite s src a data mask
  else plainWrite s src a data mask

/-- A write of the bits `mask` of a register of GCL. -/
def writeGcl (s : State) (src : Requester) (a : Nat) (data mask merged : Word) : State :=
  if a = A.GCL_WIN_DATA then winData s src (some merged)
  else if 0x23040 ≤ a && a < 0x23100 then
    let x := (a - 0x23040) / 0x20
    match (a - 0x23040) % 0x20 with
    | 0x00 => gateCtrlWrite s src x data mask
    | 0x0C => wideWrite s src a merged (fun s a d => writeFields s src a d allBits)
    | 0x10 => wideWrite s src a merged (fun s a d => writeFields s src a d allBits)
    | 0x14 => wideWrite s src a merged (fun s a d => writeFields s src a d allBits)
    | _ => plainWrite s src a data mask
  else plainWrite s src a data mask

/-- A write of the bits `mask` of a register of an Ethernet port. -/
def writePort (s : State) (src : Requester) (a : Nat) (data mask merged : Word) : State :=
  let x := a / 0x1000 - 0x24
  if a = A.EM_MODE_CFG x then modeWrite s src x data mask
  else if a = A.EM_MACSEC_CFG x then macsecCfgWrite s src x data mask
  else if 0x050 ≤ a % 0x1000 && a % 0x1000 < 0x060 then saWrite s src x (a % 0x1000) merged
  else if a = A.EM_MDIO_CMD x then mdioWrite s src x data mask
  else plainWrite s src a data mask

/-- A write of the bits `mask` of a register of DTM. -/
def writeDatum (s : State) (src : Requester) (a : Nat) (data mask merged : Word) : State :=
  if a = A.DTM_CTRL then hostLockWrite s src data mask
  else if a = A.DTM_SRC_CFG then srcCfgWrite s src data mask
  else if a = A.DTM_INC || a = A.DTM_INC_HI then incWrite s src a merged
  else if a = A.DTM_ADJ_PHASE then adjPhaseWrite s src merged
  else plainWrite s src a data mask

/-- A write of the bits `mask` of a register of the security and supervision pages. -/
def writeSupport (s : State) (src : Requester) (a : Nat) (data mask : Word) : State :=
  if a = A.KSU_SLOT_SEL then slotSelWrite s src data mask
  else if a = A.CRY_JOB_DATA then jobData s (data &&& mask)
  else if a / 0x1000 = 0x29 && 0x028 ≤ a % 0x1000 && a % 0x1000 < 0x0E0 then jobRegWrite s src a data mask
  else if a = A.TRNG_CTRL then trngCtrlWrite s data mask
  else if a = A.RED_CTRL then redCtrlWrite s src data mask
  else if a = A.RED_CFG then gateCheck (plainWrite s src a data mask)
  else if A.COX_ACCT_CFG 0 ≤ a && a < A.COX_ACCT_CFG 32 then budgetWrite s src ((a - A.COX_ACCT_CFG 0) / 4) data mask
  else if a = A.COX_FAB_CFG then fabMaxWrite s src data mask
  else if a = A.MGM_CTRL then mgmCtrlWrite s src data mask
  else plainWrite s src a data mask

/-- A wide value no rule singles out: held and committed (R62). -/
def writeWide (s : State) (src : Requester) (a : Nat) (merged : Word) : State :=
  wideWrite s src a merged (fun s a d => writeFields s src a d allBits)

/-- Wide values whose writes are not those of R62 alone. -/
def wideOwned (page : Nat) : Bool := page == 0x05 || page == 0x20 || page == 0x23 || page == 0x24 || page == 0x25

/-- A write of the bits `mask` of the register at `a` (R46, R53, R170). -/
def routeWrite (s : State) (src : Requester) (a : Nat) (data mask : Word) : State :=
  let page := a / 0x1000
  let merged := if mask = allBits then data else (viewWord s a &&& ~~~mask) ||| (data &&& mask)
  if (wideOf a).isSome && !wideOwned page && a != A.DTM_INC && a != A.DTM_INC_HI then writeWide s src a merged
  else
    match page with
    | 0x02 | 0x03 => if (specOf a).isSome then aonWrite s src a data mask else s
    | 0x05 => writeCmd s src a data mask merged
    | 0x06 => writeInd s src a data mask
    | 0x20 => writeFab s src a data mask merged
    | 0x21 => qwWrite s src a data mask
    | 0x22 => tssWrite s src a data mask
    | 0x23 => writeGcl s src a data mask merged
    | 0x24 | 0x25 => writePort s src a data mask merged
    | 0x26 => writeDatum s src a data mask merged
    | _ =>
      if page < 0x10 then writePlatform s src a data mask
      else if page < 0x1C then writeLane s src a data mask
      else if page < 0x20 then writeMesh s src a data mask
      else writeSupport s src a data mask

/-! ### The bit-alias area (R52, R53) -/

/-- The register and the bit of the alias word at `a`. -/
def aliasOf (a : Nat) : Nat × Nat := (a / 0x1000 * 0x1000 + (a % 0x1000 - 0x800) / 128 * 4, (a % 0x1000 - 0x800) / 4 % 32)

/-- A write that waits for AON was made through the alias word at `a`: an error that it meets there names that word (R54). -/
def aonVia (s t : State) (a : Nat) : State :=
  if t.pow.aonQueue.length = s.pow.aonQueue.length then t
  else t.setPow { t.pow with aonQueue := t.pow.aonQueue.dropLast ++ (t.pow.aonQueue.getLast?.map (fun w => { w with via := a })).toList }

/-- A write through the alias word at `a` (R53). A 0 to a WO bit has no effect, `IND_DATA` ignores alias writes. -/
def aliasWrite (s : State) (src : Requester) (a : Nat) (one : Bool) : State :=
  let r := aliasOf a
  let m : Word := BitVec.ofNat 32 (2 ^ r.2)
  let ty : Option FieldType := ((specOf r.1).bind (fun x => x.fields.find? (fun f => f.lsb ≤ r.2 && r.2 < f.lsb + f.width))).map (fun f => f.ty)
  match ty with
  | none => s
  | some .ro => s
  | some .rc => s
  | some .wo => if one then aliasError s (aonVia s (routeWrite s src r.1 m m) a) src r.1 a else s
  | some _ =>
    if r.1 = A.IND_IND_DATA then s else aliasError s (aonVia s (routeWrite s src r.1 (if one then m else 0#32) m) a) src r.1 a

/-- The bit an alias read shows (R53). -/
def aliasBit (s : State) (a : Nat) : Word :=
  let r := aliasOf a
  BitVec.ofNat 32 (b01 (bit (viewWord s r.1).toNat r.2))

/-- A software write of a whole word (R39). -/
def softWrite (s : State) (src : Requester) (a : Nat) (data : Word) : State :=
  if 0x800 ≤ a % 0x1000 then aliasWrite s src a (bit data.toNat 0) else routeWrite s src a data allBits

/-! ### Reads (R49, R59–R66) -/

/-- The words of the pop address at page offset `off`, without side effects. -/
def popShown (s : State) (page off : Nat) : List Word :=
  match page with
  | 0x05 => mbxCplWords s
  | 0x21 => if off = 0x064 then [qwDataWord s] else qwPopWords s
  | 0x24 => txtsWords s 0
  | 0x25 => txtsWords s 1
  | 0x26 => ppsTsWords s
  | 0x29 => jobResWords s
  | 0x2A => [rawWord s]
  | _ => errLogWords s

/-- A read of the lowest word of a pop address. -/
def popRead (s : State) (src : Requester) (page off : Nat) : State :=
  match page with
  | 0x05 => mbxPop s src
  | 0x21 => if off = 0x064 then qwData s src else qwPop s src
  | 0x24 => txtsPop s src 0
  | 0x25 => txtsPop s src 1
  | 0x26 => ppsTsPop s src
  | 0x29 => jobResPop s src
  | 0x2A => rawPop s src
  | _ => errLogPop s src

/-- What a read of the word at `a` by a requester shows, without side effects (R49, R170). -/
def peekWord (s : State) (src : Requester) (a : Nat) : Word :=
  let page := a / 0x1000
  let off := a % 0x1000
  if 0x800 ≤ off then aliasBit s a
  else
    match popOf page off, peekOf page off, wideOf a with
    | some e, _, _ => if off = e.2.1 then (popShown s page off).headD 0#32 else shadowWord s src ((off - e.2.1) / 4)
    | none, some e, _ =>
      if off - 0x400 = e.2.1 then (popShown s page (off - 0x400)).headD 0#32 else shadowWord s src ((off - 0x400 - e.2.1) / 4)
    | none, none, some e => if a = e.1 then viewWord s a else shadowWord s src ((a - e.1) / 4)
    | none, none, none => viewWord s a

/-- A software read of the word at `a`, with its side effects. -/
def routeRead (s : State) (src : Requester) (a : Nat) : State :=
  let page := a / 0x1000
  let off := a % 0x1000
  let show' (s : State) (w : Word) : State := s.send (.readData src a w)
  if 0x800 ≤ off then show' s (aliasBit s a)
  else
    match popOf page off, peekOf page off, wideOf a with
    | some e, _, _ => if off = e.2.1 then popRead s src page off else show' s (peekWord s src a)
    | none, some e, _ =>
      if off - 0x400 = e.2.1 then readWide s src a (popShown s page (off - 0x400)) else show' s (peekWord s src a)
    | none, none, some e =>
      if a = e.1 then readWide s src a ((List.range e.2).map (fun i => viewWord s (a + 4 * i))) else show' s (peekWord s src a)
    | none, none, none =>
      if a = A.IND_IND_DATA then indDataRead s src
      else if a = A.GCL_WIN_DATA then winData s src none
      else show' s (viewWord s a)

/-! ### The commands -/

/-- REG_WRITE (R39, R46). -/
def execRegWrite (src : Requester) (addr : RegAddr) (allBytes : Bool) (data : Word) (s : State) : Result :=
  .next (gateWrite s src (wordAddr addr) (fun s =>
    if allBytes then softWrite s src (wordAddr addr) data else recordErr s 0x04 0x03 src.code (wordAddr addr)))

/-- An access that R36 lets through. -/
def decodes (s : State) (src : Requester) (a : Nat) : Bool :=
  implemented a && (match src with
    | .pcie | .spi | .jtag => s.pageOpen (a / 0x1000)
    | _ => true)

/-- UNDECODED_ACCESS (R36, R37). -/
def execUndecodedAccess (src : Requester) (addr : RegAddr) (isWrite : Bool) (s : State) : Result :=
  .next (if !s.answers || decodes s src (wordAddr addr) then s
    else if isWrite then busError s src (wordAddr addr) else abortRead s src (wordAddr addr))

/-- ALIAS_ACCESS (R52, R53). -/
def execAliasAccess (src : Requester) (addr : RegAddr) (write : Option Bool) (s : State) : Result :=
  .next (if wordAddr addr % 0x1000 < 0x800 then s
    else match write with
    | some b => gateWrite s src (wordAddr addr) (fun s => aliasWrite s src (wordAddr addr) b)
    | none => gateRead s src (wordAddr addr) (fun s => routeRead s src (wordAddr addr)))

/-- LOCK_WRITE (R55). -/
def execLockWrite (src : Requester) (page : Fin 256) (data : Word) (s : State) : Result :=
  .next (gateWrite s src (page.val * 0x1000 + 0x024) (fun s => routeWrite s src (page.val * 0x1000 + 0x024) data allBits))

/-- ERR_CAP_CLEAR (R44). -/
def execErrCapClear (src : Requester) (page : Fin 256) (coincident : Option (Requester × Fin 256 × Word)) (s : State) : Result :=
  let a := page.val * 0x1000 + 0x01C
  .next (gateWrite s src a (fun s =>
    let s := routeWrite s src a 0x80000000#32 allBits
    match coincident with
    | some (who, code, at_) => if (specOf a).isSome then recordErr s page.val code.val who.code at_.toNat else s
    | none => s))

/-- IRQ_FORCE_WRITE (R41). -/
def execIrqForceWrite (src : Requester) (page : Fin 256) (data : Word) (s : State) : Result :=
  .next (gateWrite s src (page.val * 0x1000 + 0x018) (fun s => routeWrite s src (page.val * 0x1000 + 0x018) data allBits))

/-- WIDE_WORD_WRITE (R62). -/
def execWideWordWrite (src : Requester) (addr : RegAddr) (data : Word) (s : State) : Result :=
  .next (if (wideOf (wordAddr addr)).isSome then
      gateWrite s src (wordAddr addr) (fun s => routeWrite s src (wordAddr addr) data allBits)
    else s)

/-- WIDE_LOW_WORD_READ (R59). -/
def execWideLowWordRead (src : Requester) (addr : RegAddr) (s : State) : Result :=
  .next (if (wideOf (wordAddr addr)).any (fun e => e.1 == wordAddr addr) then
      gateRead s src (wordAddr addr) (fun s => routeRead s src (wordAddr addr))
    else s)

/-- PEEK_READ (R66). -/
def execPeekRead (src : Requester) (addr : RegAddr) (s : State) : Result :=
  .next (if (peekOf (wordAddr addr / 0x1000) (wordAddr addr % 0x1000)).isSome then
      gateRead s src (wordAddr addr) (fun s => routeRead s src (wordAddr addr))
    else s)

end Sys2Proof.Machine
end

