-- ==== Sys2Proof/Machine/Boot.lean ====
section
/-!
DEFINITION. Sys2Proof/Machine/Boot.lean: the boot sequence from the PLLs to READY or MAINTENANCE (R160–R182).
-/
namespace Sys2Proof.Machine

/-- Storing the progress of BOOT. -/
def State.setBoot (s : State) (b : Boot) : State := { s with boot := b }

/-! ### Clocks (R527) -/

/-- The PLLs lock: the clocks of `SYS.CLK_STATUS` show, those of a reference that is lost excepted; with PERST_N high the PCIe PHY leaves
reset, after WATCH as after any reset (R166). -/
def pllsLock (s : State) : State :=
  let s := s.setBoot { s.boot with pllLocked := true }
  let s := (((s.setFld F.SYS_CLK_STATUS_CORE_PLL 1).setFld F.SYS_CLK_STATUS_MEM_PLL 1).setFld F.SYS_CLK_STATUS_DATUM_PLL 1).setFld
    F.SYS_CLK_STATUS_REF40_OK 1
  let s := if s.pow.refLost.contains 1 then s
    else (s.setFld F.SYS_CLK_STATUS_SERDES_PLL 1).setFld F.SYS_CLK_STATUS_REF125_OK 1
  let s := if s.pow.refLost.contains 2 then s else s.setFld F.SYS_CLK_STATUS_REF100_OK 1
  let s := if s.host.perstLow || s.pow.refLost.contains 2 then s else s.setFld F.SYS_CLK_STATUS_PCIE_PLL 1
  (s.setFld F.SYS_CLK_STATUS_XTAL_OK (b01 (!s.flag F.AON_STATUS_RC_CLK))).setFld F.AON_STATUS_REF40_OK 1

/-- DATUM_PLL_LOCK. -/
def execDatumPllLock (s : State) : Result :=
  .next (if s.answers && !s.boot.pllLocked then pllsLock s else s)

/-! ### Choosing a SELET copy (R173, R174) -/

/-- The image of copy 1 (A) or 2 (B). -/
def copyBytes (s : State) (copy : Nat) : List Byte := if copy = 1 then s.nv.copyA else if copy = 2 then s.nv.copyB else []

/-- Whether A goes before B where both are candidates: by ROLLBACK, then SERIAL, both descending, A before B on a tie. -/
def copyAFirst (a b : List Byte) : Bool :=
  let ra := fieldAt a 8 4
  let rb := fieldAt b 8 4
  if ra = rb then decide (fieldAt b 12 4 ≤ fieldAt a 12 4) else decide (rb < ra)

/-- The candidates in the order in which they are checked. -/
def candidates (s : State) : List Nat :=
  let a := decide (seletHeader s.nv.copyA = 0)
  let b := decide (seletHeader s.nv.copyB = 0)
  match a, b with
  | true, true => if copyAFirst s.nv.copyA s.nv.copyB then [1, 2] else [2, 1]
  | true, false => [1]
  | false, true => [2]
  | false, false => []

/-- The result of the checks: the copy to apply (0 none) and the reasons of A and B (R172, R173). -/
def chooseCopy (s : State) : Nat × Nat × Nat :=
  let full (c : Nat) := seletReason (copyBytes s c) s.nv.seletFloor s.nv.keyHash
  let cands := candidates s
  let first := cands.find? (fun c => full c == 0)
  let reason (c : Nat) : Nat :=
    if !cands.contains c then seletHeader (copyBytes s c)
    else match first with
      | none => full c
      | some x => if c = x || cands.head? = some c then full c else 8
  (first.getD 0, reason 1, reason 2)

/-- Application ends: STRICT_FAIL, and the SELET_RESULT event (R160, R182). With the key store loaded, the lanes' start-up calibration
begins (R225). -/
def seletFinish (s : State) : State :=
  let s := s.setBoot { s.boot with seletDone := true, seletWait := .none }
  let fails := s.fld F.NVC_STATUS_REC_FAILS
  let strict := bit (fieldAt (copyBytes s s.boot.seletCopy) 6 2) 0 && fails != 0
  let s := s.setFld F.NVC_STATUS_STRICT_FAIL (b01 strict)
  let fa := s.fld F.NVC_STATUS_FAIL_A
  let fb := s.fld F.NVC_STATUS_FAIL_B
  let rejected := !outside fa 2 7 || !outside fb 2 7
  (List.range 4).foldl laneOn <| s.event 0x01 0 0x0501 (if s.boot.seletCopy = 0 then 3 else if fails ≠ 0 || rejected then 2 else 0)
    (leBytes 1 s.boot.seletCopy ++ leBytes 1 fa ++ leBytes 1 fb ++ leBytes 2 fails
      ++ leBytes 2 (s.fld F.NVC_SELET_INFO_FIRST_INDEX) ++ leBytes 1 (s.fld F.NVC_SELET_INFO_FIRST_CODE))

/-- The copies are examined and one is chosen; with none valid no record is applied. -/
def seletCheck (s : State) : State :=
  let r := chooseCopy s
  let s := ((s.setFld F.NVC_STATUS_FAIL_A r.2.1).setFld F.NVC_STATUS_FAIL_B r.2.2).setFld F.NVC_STATUS_SELET_APPLIED r.1
  let s := s.setReg A.NVC_SELET_SERIAL (BitVec.ofNat 32 (if r.1 = 0 then 0 else fieldAt (copyBytes s r.1) 12 4))
  let s := s.setBoot { s.boot with seletChecked := true, seletCopy := r.1 }
  if r.1 = 0 then seletFinish s else s

/-- SELET_CHECK. -/
def execSeletCheck (s : State) : Result :=
  .next (if s.booting && s.boot.pllLocked && !s.boot.seletChecked then seletCheck s else s)

/-! ### Applying the records (R169–R171) -/

/-- A record is being applied or waits to be. -/
def seletActive (s : State) : Bool := s.booting && s.boot.seletChecked && !s.boot.seletDone

/-- The record at the loader's index. -/
def currentRec (s : State) : SeletRec := seletRec (copyBytes s s.boot.seletCopy) (64 + 16 * s.boot.seletIndex)

/-- The register address a record acts on, or for an IND_WRITE its PARAM (R171). -/
def recAddr (r : SeletRec) : Nat := if r.kind = 3 then r.param else r.page * 0x1000 + r.offset

/-- The loader goes on with the next record. -/
def seletNext (s : State) : State := s.setBoot { s.boot with seletIndex := s.boot.seletIndex + 1, seletWait := .none }

/-- A record fails with a code (R171). -/
def seletFail (s : State) (r : SeletRec) (code : Nat) : State :=
  let first := s.fld F.NVC_STATUS_REC_FAILS == 0
  let s := s.count F.NVC_STATUS_REC_FAILS 1
  let s := if first
    then (s.setFld F.NVC_SELET_INFO_FIRST_INDEX s.boot.seletIndex).setFld F.NVC_SELET_INFO_FIRST_CODE code else s
  let s := recordErr s 0x01 (if code = 0x83 then 0x83 else 0x80) Requester.selet.code (recAddr r)
  if r.stop then seletFinish s else seletNext s

/-- The error that a page's rules record for a write, 0 where they record none: what a clear `ERR_CAP` captures of it. -/
def pageCode (s : State) (page : Nat) (k : State → State) : Nat :=
  let cap := page * 0x1000 + 0x01C
  let t := k (s.setReg cap 0#32)
  if bit (t.reg cap).toNat 31 then bitsOf (t.reg cap).toNat 0 8 else 0

/-- An outcome of the table of R171: the codes that fail a record written to a register; the last is that of a write of `IND.IND_DATA` with
an address outside its domain. -/
def failing (code : Nat) : Bool := code == 0x01 || code == 0x05 || code == 0x08

/-- A record's write, made and judged. -/
def seletJudge (s : State) (r : SeletRec) (page : Nat) (k : State → State) : State :=
  let code := pageCode s page k
  if failing code then seletFail (k s) r code else seletNext (k s)

/-- The masked write of a WRITE record (R170). -/
def seletStore (r : SeletRec) (s : State) : State :=
  let a := r.page * 0x1000 + r.offset
  if 0x800 ≤ r.offset then
    (if r.mask &&& 1#32 = 0#32 then s else aliasWrite s .selet a (bit r.value.toNat 0))
  else routeWrite s .selet a r.value r.mask

/-- WRITE. An unimplemented offset is a bus error. -/
def seletWrite (s : State) (r : SeletRec) : State :=
  let a := r.page * 0x1000 + r.offset
  if !implemented a then seletFail (busError s .selet a) r 0x02 else seletJudge s r r.page (seletStore r)

/-- IND_WRITE (R73, R78, R170, R171): domains 0x0–0x4 alone, the word merged under the mask, through the one pair that every requester
shares. While an access of another requester is in progress, the loader's writes of the pair meet R71. The access is complete within the
record, and WADDR then advances as after any access (R70, R72). -/
def seletInd (s : State) (r : SeletRec) : State :=
  let dom := r.param / 2 ^ 28
  let w := r.param % 2 ^ 28
  let addr : Word := BitVec.ofNat 32 r.param
  if s.flag F.IND_IND_STATUS_BUSY then seletNext (indOverrun s .selet)
  else
    let s := (s.setReg A.IND_IND_ADDR addr).setInd { s.ind with group := none }
    if !indExists dom w then seletFail (indAdvance (indError s .selet F.IND_IND_STATUS_RANGE 0x08 addr)) r 0x08
    else
      let data := if r.mask = allBits then r.value else (indWord s dom w &&& ~~~r.mask) ||| (r.value &&& r.mask)
      if 5 ≤ dom || indRefused s dom w data then seletNext (indAdvance (indError s .selet F.IND_IND_STATUS_DENIED 0x09 addr))
      else seletJudge s r (if dom < 4 then 0x06 else if w < 0x20 then 0x02 else 0x03) (fun t => indAdvance (indStore t .selet dom w data))

/-- The next record is applied. -/
def seletApply (s : State) : State :=
  let r := currentRec s
  match r.kind with
  | 0 => seletWrite s r
  | 1 =>
    let a := r.page * 0x1000 + r.offset
    if implemented a then s.setBoot { s.boot with seletWait := .poll } else seletFail (busError s .selet a) r 0x02
  | 2 => s.setBoot { s.boot with seletWait := .delay }
  | 3 => seletInd s r
  | _ => seletFinish s

/-- SELET_RECORD_APPLY. -/
def execSeletRecordApply (s : State) : Result :=
  .next (if seletActive s && s.boot.seletWait == .none then seletApply s else s)

/-- Whether a POLL record's read matches its value. -/
def pollMatches (s : State) (r : SeletRec) : Bool :=
  peekWord s .selet (r.page * 0x1000 + r.offset) &&& r.mask == r.value &&& r.mask

/-- SELET_POLL_MATCH. -/
def execSeletPollMatch (s : State) : Result :=
  .next (if seletActive s && s.boot.seletWait == .poll && pollMatches s (currentRec s) then seletNext s else s)

/-- SELET_POLL_TIMEOUT. -/
def execSeletPollTimeout (s : State) : Result :=
  .next (if seletActive s && s.boot.seletWait == .poll then seletFail s (currentRec s) 0x83 else s)

/-- SELET_DELAY_EXPIRY. -/
def execSeletDelayExpiry (s : State) : Result :=
  .next (if seletActive s && s.boot.seletWait == .delay then seletNext s else s)

/-! ### DRAM (R26, R114, R164, R166) -/

/-- Every event held is written to the store, in order (R116, R182). -/
def writeHeld (s : State) : State := flushEvents s.log.queue.length s

/-- The bundle search may begin: the DRAM is ready, marched and scrubbed as this boot asks. -/
def searchOpen (s : State) : Bool :=
  s.booting && s.boot.dramReady && !marchDue s && (!s.boot.fromWatch || s.boot.watchScrubbed) && !s.boot.fwDone

/-- What follows the DRAM: the search begins with the order that FW_SRC then sets; with 0b10 the host is the only source (R178). -/
def searchBegins (s : State) : State :=
  if !searchOpen s then s
  else
    let t := s.setBoot { s.boot with fwOrder := some (s.fld F.NVC_CTRL_FW_SRC) }
    if s.fld F.NVC_CTRL_FW_SRC == 2 then hostTurn t else t

/-- The order of the search: a write of FW_SRC after the search began does not change it. -/
def fwOrder (s : State) : Nat := s.boot.fwOrder.getD (s.fld F.NVC_CTRL_FW_SRC)

/-- DRAM_INIT_DONE: the event store is usable, unless a march is to come. -/
def execDramInitDone (s : State) : Result :=
  .next (if s.booting && s.boot.seletDone && !s.boot.dramReady then
      let s := (s.setBoot { s.boot with dramReady := true }).setFld F.MEM_STATUS_DRAM_READY 1
      searchBegins (if marchDue s then s else writeHeld s)
    else s)

/-- The march of R164 ends: its result, BST's report, the zeros it leaves (R711, R719). It lasts 104,858 µs at the port rate. -/
def bootMarch (s : State) (misr : BitVec 64) : State :=
  let s := testResult s 0xF1 misr 104858
  let failed := misr != Config.fusedMisr 0xF1
  let s := (s.ramClear 0 0x8000000).setBoot { s.boot with marchResult := if failed then 2 else 1 }
  let s := (s.setFld F.BST_STATUS_MARCH_BOOT_RUN 1).setFld F.BST_STATUS_MARCH_BOOT_FAIL (b01 failed)
  let s := s.event 0x07 0 0x1700 (if failed then 3 else 0)
    ([1#8, BitVec.ofNat 8 (b01 failed), if failed then 0xF1#8 else 0xFF#8, 2#8] ++ leBytes 4 104)
  searchBegins (writeHeld (setCause s 0x07 0))

/-- BOOT_DRAM_MARCH_DONE. -/
def execBootDramMarchDone (misr : BitVec 64) (s : State) : Result :=
  .next (if s.booting && s.boot.dramReady && marchDue s then bootMarch s misr else s)

/-- A kept region of the DRAM (R26): the Cadastre, tone maps and routes, update images, slot tables. -/
def keptRegion (cw : Nat) : Bool := 16 * cw < 0x5200000 || (0x6A00000 ≤ 16 * cw && 16 * cw < 0x7200000)

/-- The scrub after WATCH meets an uncorrectable codeword: its owner responds (R605). The syndrome is open. -/
def watchLost (s : State) (cw : Nat) : State :=
  if keptRegion cw then
    let d := drawNat s 65536
    codewordLost d.2 cw 1 d.1 none
  else s

/-- WATCH_DRAM_SCRUB_DONE (R26, R166, R709). -/
def execWatchDramScrubDone (lost : List Nat) (s : State) : Result :=
  .next (if s.booting && s.boot.fromWatch && s.boot.dramReady && !s.boot.watchScrubbed then
      let s := lost.foldl watchLost s
      searchBegins (s.setBoot { s.boot with watchScrubbed := true })
    else s)

/-! ### The firmware bundle (R178–R180) -/

/-- A QSPI source has been read and is checked. -/
def qspiCheck (s : State) (secondary : Bool) (f : BundleFacts) : State :=
  let reason := bundleReason f s.nv.fwFloor
  let s := s.setBoot { s.boot with fwTried := if secondary then 3 else 1 }
  let s := s.setFld (if secondary then F.NVC_FW_STATUS_SECONDARY else F.NVC_FW_STATUS_PRIMARY) reason
  if reason = 0 then loadBundle s (if secondary then 2 else 1) f
  else if !secondary then s
  else if fwOrder s = 0 then hostTurn s
  else noBundle s

/-- FW_BUNDLE_CHECK: the primary location first, then the secondary. -/
def execFwBundleCheck (secondary : Bool) (bundle : BundleFacts) (s : State) : Result :=
  .next (if searchOpen s && fwOrder s < 2 && !s.flag F.NVC_STATUS_FW_WAIT && s.boot.fwTried == b01 secondary
    then qspiCheck s secondary bundle else s)

/-- HOST_BUNDLE_WAIT_EXPIRY: the wait does not end while a staged bundle is being checked. -/
def execHostBundleWaitExpiry (s : State) : Result :=
  .next (if searchOpen s && s.flag F.NVC_STATUS_FW_WAIT && !s.stage.op.any (fun o => o.target == 1) then noBundle s else s)

/-! ### The end of BOOT (R160, R163, R175) -/

/-- What BOOT waits for with a bundle loaded: the key store, the TRNG's start-up tests, the lanes' start-up calibration. -/
def bootReady (s : State) : Bool :=
  s.boot.keysLoaded && s.boot.trngDone && [0, 1, 2, 3].all (fun n => s.fld (F.LRF_STATUS_STATE n) != 5)

/-- The floors are raised (R175); none is ever lowered. -/
def raiseFloors (s : State) : State :=
  let selet := if s.boot.seletCopy = 0 then s.nv.seletFloor
    else max s.nv.seletFloor (fieldAt (copyBytes s s.boot.seletCopy) 8 4)
  let fw := max s.nv.fwFloor s.dev.fwRollback
  let s := { s with nv := { s.nv with seletFloor := selet, fwFloor := fw } }
  (s.setReg A.NVC_SELET_FLOOR (BitVec.ofNat 32 selet)).setReg A.NVC_FW_FLOOR (BitVec.ofNat 32 fw)

/-- The state entered and the cause of the transition: 2 READY, 3 MAINTENANCE (R160). -/
def bootOutcome (s : State) : Nat × Nat :=
  let flags := fieldAt (copyBytes s s.boot.seletCopy) 6 2
  if s.dev.fwVersion.isNone then (3, 0x03)
  else if s.boot.seletCopy ≠ 0 && (bit flags 1 || s.flag F.NVC_STATUS_STRICT_FAIL) then (3, 0x04)
  else (2, 0x02)

/-- BOOT ends. -/
def bootEnds (s : State) (ms : Nat) : State :=
  let r := bootOutcome s
  let s := if r.1 = 2 then raiseFloors s else s
  let s := s.event 0x01 0 0x0503 (if s.boot.marchResult = 2 then 2 else 0)
    (leBytes 1 r.1 ++ leBytes 1 s.boot.marchResult ++ leBytes 4 ms)
  let s := { s.setFld F.SYS_STATUS_DEV_STATE r.1 with dev := { s.dev with lastTrans := r.2 } }
  if s.dev.fwVersion.isNone then mainsCheck s
  else
    let s := (List.range 4).foldl setPins (macStart (s.setFld F.CAD_STATUS_READY 1))
    mainsCheck (if r.1 = 2 then redStart s else s)

/-- BOOT_DONE. `ms`: boot time in ms. -/
def execBootDone (ms : Nat) (s : State) : Result :=
  .next (if s.booting && s.boot.fwDone && (s.dev.fwVersion.isNone || bootReady s) then bootEnds s ms else s)

end Sys2Proof.Machine
end

