-- ==== Sys2Proof/Machine/Spi.lean ====
section
/-!
DEFINITION. Sys2Proof/Machine/Spi.lean: the frames of the management SPI (R84–R90).
-/
namespace Sys2Proof.Machine

/-- The word `n` places after the one a frame addresses, wrapping at the end of the register space (R85). -/
def spiAddr (addr : RegAddr) (n : Nat) : Nat := (wordAddr addr + 4 * n) % 0x100000

/-- The SPI slave answers: with SPI disabled in `HIF.CTRL.HOST_IF` its frames are ignored. -/
def spiOn (s : State) : Bool := s.answers && s.fld F.HIF_CTRL_HOST_IF != 0

/-- The SPI interrupt output is asserted (R112). -/
def spiIrq (s : State) : Bool := s.flag F.HIF_CTRL_SPI_IRQ_EN && vecActive s != 0

/-- What drives a ball: nothing, low or high. -/
inductive Drive where
  | released | low | high
  deriving DecidableEq, Repr

/-- What the SPI interrupt puts on GPIO ball `n` (R90): on the ball that `HIF.CTRL.IRQ_GPIO` chooses it is driven active low, and released
instead of driven high where IRQ_OD makes it open-drain. -/
def spiIrqBall (s : State) (n : Nat) : Drive :=
  if !s.flag F.HIF_CTRL_SPI_IRQ_EN || s.fld F.HIF_CTRL_IRQ_GPIO != n then .released
  else if spiIrq s then .low
  else if s.flag F.HIF_CTRL_IRQ_OD then .released else .high

/-- The status byte (R88). -/
def spiStatus (s : State) (prevBad err : Bool) : Byte :=
  BitVec.ofNat 8 (128 * b01 (spiIrq s) + 4 * b01 prevBad + b01 err)

/-- The word an SPI read has produced: none for a bus error. -/
def spiShown : List Out → Option Word
  | [] => none
  | .readData .spi _ w :: _ => some w
  | _ :: t => spiShown t

/-- An output that is an SPI frame's own data. -/
def spiOwn : Out → Bool
  | .readData .spi _ _ => true
  | .readAbort .spi _ => true
  | _ => false

/-- One word read in a frame, with its side effects: what it showed, none for a bus error. -/
def spiWord (s : State) (a : Nat) : Option Word × State :=
  let t := gateRead s .spi a (fun s => routeRead s .spi a)
  let new := t.out.drop s.out.length
  (spiShown new, { t with out := s.out ++ new.filter (fun o => !spiOwn o) })

/-- The words of a READ_INC after the first (R86, R89): one that ends in a bus error shows 0. -/
def spiRest (addr : RegAddr) : Nat → Nat → State → List Byte × State
  | 0, _, s => ([], s)
  | k + 1, i, s =>
    let r := spiWord s (spiAddr addr i)
    let t := spiRest addr k (i + 1) r.2
    (beBytes 4 (r.1.getD 0#32).toNat ++ t.1, t.2)

/-- A frame ends: what it returned, and whether it was malformed (R87). -/
def spiEnd (s : State) (bad : Bool) (bytes : List Byte) : State :=
  let s := { s with host := { s.host with spiPrevBad := bad } }
  if bytes.isEmpty then s else s.send (.spi bytes)

/-- A READ or READ_INC of `count` words (R84, R86). The status byte follows the read of the first word. -/
def spiReads (s : State) (addr : RegAddr) (count : Nat) : State :=
  let prev := s.host.spiPrevBad
  let r := spiWord s (spiAddr addr 0)
  let status := spiStatus r.2 prev r.1.isNone
  let rest := spiRest addr (count - 1) 1 r.2
  spiEnd rest.2 false (status :: beBytes 4 (r.1.getD 0#32).toNat ++ rest.1)

/-- One word written in a frame. -/
def spiStore (s : State) (a : Nat) (data : Word) : State := gateWrite s .spi a (fun s => softWrite s .spi a data)

/-- The words of a write frame, and whether any of them ended in a bus error. -/
def spiStores (addr : RegAddr) : List Word → Nat → State × Bool → State × Bool
  | [], _, r => r
  | w :: t, i, r =>
    let a := spiAddr addr i
    spiStores addr t (i + 1) (spiStore r.1 a w, r.2 || !decodes r.1 .spi a)

/-- A WRITE or WRITE_INC (R84). The status byte follows the last word. -/
def spiWrites (s : State) (addr : RegAddr) (data : List Word) : State :=
  let r := spiStores addr data 0 (s, false)
  spiEnd r.1 false [spiStatus r.1 s.host.spiPrevBad r.2]

/-- What a malformed frame has done when it ends (R86, R87): the words complete are written; the words read have been read with their side
effects, and all but the last of them, which the fault cuts, have been returned after the status byte. -/
def spiBroken (s : State) (addr : RegAddr) (complete : List Word) : SpiFault → List Byte × State
  | .write => ([], (spiStores addr (complete.take 1) 0 (s, false)).1)
  | .writeInc => ([], (spiStores addr complete 0 (s, false)).1)
  | .read done => if done then spiCut s addr 1 else ([], s)
  | .readInc done => if done = 0 then ([], s) else spiCut s addr done
  | .unknown => ([], s)
where
  /-- `count` words read, the last not returned whole. -/
  spiCut (s : State) (addr : RegAddr) (count : Nat) : List Byte × State :=
    let prev := s.host.spiPrevBad
    let r := spiWord s (spiAddr addr 0)
    let rest := spiRest addr (count - 1) 1 r.2
    ((spiStatus r.2 prev r.1.isNone :: beBytes 4 (r.1.getD 0#32).toNat ++ rest.1).take (1 + 4 * (count - 1)), rest.2)

/-- A malformed frame ends: SPI_FRAME is recorded (R87). -/
def spiMalformed (s : State) (addr : RegAddr) (frame : SpiFault) (complete : List Word) : State :=
  let r := spiBroken s addr complete frame
  spiEnd (if r.2.answers then recordErr r.2 0x04 0x82 Requester.spi.code (wordAddr addr) else r.2) true r.1

/-- SPI_WRITE. -/
def execSpiWrite (addr : RegAddr) (data : Word) (s : State) : Result := .next (if spiOn s then spiWrites s addr [data] else s)

/-- SPI_READ. -/
def execSpiRead (addr : RegAddr) (s : State) : Result := .next (if spiOn s then spiReads s addr 1 else s)

/-- SPI_WRITE_INC. A frame without a data word is malformed. -/
def execSpiWriteInc (addr : RegAddr) (data : List Word) (s : State) : Result :=
  .next (if !spiOn s then s else if data.isEmpty then spiMalformed s addr .writeInc [] else spiWrites s addr data)

/-- SPI_READ_INC. A frame without a word is malformed. -/
def execSpiReadInc (addr : RegAddr) (count : Nat) (s : State) : Result :=
  .next (if !spiOn s then s else if count = 0 then spiMalformed s addr (.readInc 0) [] else spiReads s addr count)

/-- SPI_MALFORMED_FRAME. -/
def execSpiMalformedFrame (addr : RegAddr) (frame : SpiFault) (complete : List Word) (s : State) : Result :=
  .next (if spiOn s then spiMalformed s addr frame complete else s)

end Sys2Proof.Machine
end

