-- ==== Sys2Proof/Machine/Dispatch.lean ====
section
/-!
DEFINITION. Sys2Proof/Machine/Dispatch.lean: one arm per command, each one direct call of its meaning.
-/
namespace Sys2Proof.Machine

/-- The effect of one command on everything but the queue. -/
def exec (i : Instr) (s : State) : Host.Outcome State Fault Refusal :=
  match i with
  | .regWrite src addr allBytes data => Sys2Proof.Machine.execRegWrite src addr allBytes data s
  | .undecodedAccess src addr isWrite => Sys2Proof.Machine.execUndecodedAccess src addr isWrite s
  | .aliasAccess src addr write => Sys2Proof.Machine.execAliasAccess src addr write s
  | .lockWrite src page data => Sys2Proof.Machine.execLockWrite src page data s
  | .errCapClear src page coincident => Sys2Proof.Machine.execErrCapClear src page coincident s
  | .irqForceWrite src page data => Sys2Proof.Machine.execIrqForceWrite src page data s
  | .wideWordWrite src addr data => Sys2Proof.Machine.execWideWordWrite src addr data s
  | .wideLowWordRead src addr => Sys2Proof.Machine.execWideLowWordRead src addr s
  | .peekRead src addr => Sys2Proof.Machine.execPeekRead src addr s
  | .indAddrWrite src data => Sys2Proof.Machine.execIndAddrWrite src data s
  | .indCtrlWrite src data => Sys2Proof.Machine.execIndCtrlWrite src data s
  | .indDataWrite src data => Sys2Proof.Machine.execIndDataWrite src data s
  | .indDataRead src => Sys2Proof.Machine.execIndDataRead src s
  | .indPrefetchDone found desc => Sys2Proof.Machine.execIndPrefetchDone found desc s
  | .indWriteAck => Sys2Proof.Machine.execIndWriteAck s
  | .powerOnReset => Sys2Proof.Machine.execPowerOnReset s
  | .pinReset => Sys2Proof.Machine.execPinReset s
  | .resetCtrlWrite src data => Sys2Proof.Machine.execResetCtrlWrite src data s
  | .softwareReset => Sys2Proof.Machine.execSoftwareReset s
  | .jtagReset => Sys2Proof.Machine.execJtagReset s
  | .brownOut => Sys2Proof.Machine.execBrownOut s
  | .sysWatchdogExpiry => Sys2Proof.Machine.execSysWatchdogExpiry s
  | .resetRelease perstHigh => Sys2Proof.Machine.execResetRelease perstHigh s
  | .datumPllLock => Sys2Proof.Machine.execDatumPllLock s
  | .seletCheck => Sys2Proof.Machine.execSeletCheck s
  | .seletRecordApply => Sys2Proof.Machine.execSeletRecordApply s
  | .seletPollMatch => Sys2Proof.Machine.execSeletPollMatch s
  | .seletPollTimeout => Sys2Proof.Machine.execSeletPollTimeout s
  | .seletDelayExpiry => Sys2Proof.Machine.execSeletDelayExpiry s
  | .dramInitDone => Sys2Proof.Machine.execDramInitDone s
  | .bootDramMarchDone misr => Sys2Proof.Machine.execBootDramMarchDone misr s
  | .watchDramScrubDone lost => Sys2Proof.Machine.execWatchDramScrubDone lost s
  | .fwBundleCheck secondary bundle => Sys2Proof.Machine.execFwBundleCheck secondary bundle s
  | .hostBundleWaitExpiry => Sys2Proof.Machine.execHostBundleWaitExpiry s
  | .keyStoreLoad damaged => Sys2Proof.Machine.execKeyStoreLoad damaged s
  | .trngStartupDone pass => Sys2Proof.Machine.execTrngStartupDone pass s
  | .bootDone ms => Sys2Proof.Machine.execBootDone ms s
  | .stageTargetWrite src data => Sys2Proof.Machine.execStageTargetWrite src data s
  | .stageClear src => Sys2Proof.Machine.execStageClear src s
  | .stageDataWrite src data => Sys2Proof.Machine.execStageDataWrite src data s
  | .seletImageWrite src => Sys2Proof.Machine.execSeletImageWrite src s
  | .hostBundleStage src bundle => Sys2Proof.Machine.execHostBundleStage src bundle s
  | .keyHashProgram src => Sys2Proof.Machine.execKeyHashProgram src s
  | .stageOpDone writeOk => Sys2Proof.Machine.execStageOpDone writeOk s
  | .perstNAssert => Sys2Proof.Machine.execPerstNAssert s
  | .perstNRelease => Sys2Proof.Machine.execPerstNRelease s
  | .functionLevelReset => Sys2Proof.Machine.execFunctionLevelReset s
  | .busMasterEnableWrite access msixEnable intxDisable => Sys2Proof.Machine.execBusMasterEnableWrite access msixEnable intxDisable s
  | .pcieLinkChange up speed width => Sys2Proof.Machine.execPcieLinkChange up speed width s
  | .poisonedWrite addr => Sys2Proof.Machine.execPoisonedWrite addr s
  | .spiWrite addr data => Sys2Proof.Machine.execSpiWrite addr data s
  | .spiRead addr => Sys2Proof.Machine.execSpiRead addr s
  | .spiWriteInc addr data => Sys2Proof.Machine.execSpiWriteInc addr data s
  | .spiReadInc addr count => Sys2Proof.Machine.execSpiReadInc addr count s
  | .spiMalformedFrame addr frame complete => Sys2Proof.Machine.execSpiMalformedFrame addr frame complete s
  | .ringEnableWrite src k data => Sys2Proof.Machine.execRingEnableWrite src k data s
  | .ringReset src k data => Sys2Proof.Machine.execRingReset src k data s
  | .ringResetEffect k => Sys2Proof.Machine.execRingResetEffect k s
  | .ringStoppingEnd k => Sys2Proof.Machine.execRingStoppingEnd k s
  | .ringConfigWrite src addr data => Sys2Proof.Machine.execRingConfigWrite src addr data s
  | .sqTailDoorbell src k data => Sys2Proof.Machine.execSqTailDoorbell src k data s
  | .cqHeadWrite src k data => Sys2Proof.Machine.execCqHeadWrite src k data s
  | .descFetchDone k data => Sys2Proof.Machine.execDescFetchDone k data s
  | .descriptorTake => Sys2Proof.Machine.execDescriptorTake s
  | .cmdDataReadDone id data => Sys2Proof.Machine.execCmdDataReadDone id data s
  | .completionWrite src => Sys2Proof.Machine.execCompletionWrite src s
  | .commandTimeout id => Sys2Proof.Machine.execCommandTimeout id s
  | .mbxSubmit src data => Sys2Proof.Machine.execMbxSubmit src data s
  | .mbxDescCopy => Sys2Proof.Machine.execMbxDescCopy s
  | .mbxCplPop src => Sys2Proof.Machine.execMbxCplPop src s
  | .vecRearmWrite src data => Sys2Proof.Machine.execVecRearmWrite src data s
  | .coalTimerExpiry host => Sys2Proof.Machine.execCoalTimerExpiry host s
  | .eventRecordWrite => Sys2Proof.Machine.execEventRecordWrite s
  | .evrBreakWrite => Sys2Proof.Machine.execEvrBreakWrite s
  | .evrHeadWrite src data => Sys2Proof.Machine.execEvrHeadWrite src data s
  | .evrEnableWrite src data => Sys2Proof.Machine.execEvrEnableWrite src data s
  | .benchmark id => Sys2Proof.Machine.execBenchmark id s
  | .maintEnter id => Sys2Proof.Machine.execMaintEnter id s
  | .maintEnterDone => Sys2Proof.Machine.execMaintEnterDone s
  | .maintExit id => Sys2Proof.Machine.execMaintExit id s
  | .watchEnter id => Sys2Proof.Machine.execWatchEnter id s
  | .bistRun id => Sys2Proof.Machine.execBistRun id s
  | .roleSwap id => Sys2Proof.Machine.execRoleSwap id s
  | .nodeAdd id => Sys2Proof.Machine.execNodeAdd id s
  | .nodeRemove id => Sys2Proof.Machine.execNodeRemove id s
  | .nodeRead id => Sys2Proof.Machine.execNodeRead id s
  | .dlSend id => Sys2Proof.Machine.execDlSend id s
  | .wakeSend id => Sys2Proof.Machine.execWakeSend id s
  | .laneCal id => Sys2Proof.Machine.execLaneCal id s
  | .frameInject id => Sys2Proof.Machine.execFrameInject id s
  | .queueFlush id => Sys2Proof.Machine.execQueueFlush id s
  | .queueBreakAck id => Sys2Proof.Machine.execQueueBreakAck id s
  | .keyReplace id readBack => Sys2Proof.Machine.execKeyReplace id readBack s
  | .keyZeroise id => Sys2Proof.Machine.execKeyZeroise id s
  | .updImageLoad id agree => Sys2Proof.Machine.execUpdImageLoad id agree s
  | .updSessionStart id => Sys2Proof.Machine.execUpdSessionStart id s
  | .updSessionStop id => Sys2Proof.Machine.execUpdSessionStop id s
  | .updSessionReport id => Sys2Proof.Machine.execUpdSessionReport id s
  | .datumStep id => Sys2Proof.Machine.execDatumStep id s
  | .engineRestart engine sramUe taken => Sys2Proof.Machine.execEngineRestart engine sramUe taken s
  | .engineRestartDone engine => Sys2Proof.Machine.execEngineRestartDone engine s
  | .laneEnableWrite src lane data => Sys2Proof.Machine.execLaneEnableWrite src lane data s
  | .laneStandbyReady lane => Sys2Proof.Machine.execLaneStandbyReady lane s
  | .startupCalKindDone lane result => Sys2Proof.Machine.execStartupCalKindDone lane result s
  | .startupCalAbandon lane facts => Sys2Proof.Machine.execStartupCalAbandon lane facts s
  | .synthLockDone lane => Sys2Proof.Machine.execSynthLockDone lane s
  | .lockFail lane => Sys2Proof.Machine.execLockFail lane s
  | .coldCalDone lane result => Sys2Proof.Machine.execColdCalDone lane result s
  | .anchorDue lane anchor => Sys2Proof.Machine.execAnchorDue lane anchor s
  | .anchorOverdue lane anchor => Sys2Proof.Machine.execAnchorOverdue lane anchor s
  | .bgSliceStart lane => Sys2Proof.Machine.execBgSliceStart lane s
  | .bgSliceDone lane result gain phase => Sys2Proof.Machine.execBgSliceDone lane result gain phase s
  | .laneCalStepStart lane => Sys2Proof.Machine.execLaneCalStepStart lane s
  | .laneCalStepDone lane result => Sys2Proof.Machine.execLaneCalStepDone lane result s
  | .txChannelCheck lane channel => Sys2Proof.Machine.execTxChannelCheck lane channel s
  | .txRequest lane => Sys2Proof.Machine.execTxRequest lane s
  | .txTurnaroundStart lane => Sys2Proof.Machine.execTxTurnaroundStart lane s
  | .txEnd lane => Sys2Proof.Machine.execTxEnd lane s
  | .txLate lane => Sys2Proof.Machine.execTxLate lane s
  | .adcClip lane => Sys2Proof.Machine.execAdcClip lane s
  | .agcWindow lane mean => Sys2Proof.Machine.execAgcWindow lane mean s
  | .rfBlankAssert lane => Sys2Proof.Machine.execRfBlankAssert lane s
  | .rfBlankRelease lane => Sys2Proof.Machine.execRfBlankRelease lane s
  | .detection lane subch sf windows rssi => Sys2Proof.Machine.execDetection lane subch sf windows rssi s
  | .contextAssign lane => Sys2Proof.Machine.execContextAssign lane s
  | .syncWordFound lane ctx bin1 bin2 foff rssi ago => Sys2Proof.Machine.execSyncWordFound lane ctx bin1 bin2 foff rssi ago s
  | .syncMiss lane ctx => Sys2Proof.Machine.execSyncMiss lane ctx s
  | .headerDecide lane ctx bins snr => Sys2Proof.Machine.execHeaderDecide lane ctx bins snr s
  | .cssPayloadEnd lane ctx bins rateErr => Sys2Proof.Machine.execCssPayloadEnd lane ctx bins rateErr s
  | .lbbRxEnWrite src lane data => Sys2Proof.Machine.execLbbRxEnWrite src lane data s
  | .ofdmFcDecode lane bits => Sys2Proof.Machine.execOfdmFcDecode lane bits s
  | .ofdmRxEnd lane converged bytes iter levels ago tones => Sys2Proof.Machine.execOfdmRxEnd lane converged bytes iter levels ago tones s
  | .measTimeout lane peer => Sys2Proof.Machine.execMeasTimeout lane peer s
  | .retireTimeout peer => Sys2Proof.Machine.execRetireTimeout peer s
  | .toneMapRx lane => Sys2Proof.Machine.execToneMapRx lane s
  | .toneMapAckRx lane => Sys2Proof.Machine.execToneMapAckRx lane s
  | .superframeStart sense => Sys2Proof.Machine.execSuperframeStart sense s
  | .slotOccurrenceStart lane entry => Sys2Proof.Machine.execSlotOccurrenceStart lane entry s
  | .slotOccurrenceEnd lane => Sys2Proof.Machine.execSlotOccurrenceEnd lane s
  | .rendezvousHoldExpiry parcel => Sys2Proof.Machine.execRendezvousHoldExpiry parcel s
  | .ackSend lane => Sys2Proof.Machine.execAckSend lane s
  | .dlAttempt lane => Sys2Proof.Machine.execDlAttempt lane s
  | .ackReceive lane => Sys2Proof.Machine.execAckReceive lane s
  | .responseWindowClose parcel => Sys2Proof.Machine.execResponseWindowClose parcel s
  | .wakeAttempt lane parcel ahead => Sys2Proof.Machine.execWakeAttempt lane parcel ahead s
  | .wakeAnswerRx lane => Sys2Proof.Machine.execWakeAnswerRx lane s
  | .wakeRetryTimer lane => Sys2Proof.Machine.execWakeRetryTimer lane s
  | .joinReqRx lane places inTime => Sys2Proof.Machine.execJoinReqRx lane places inTime s
  | .joinAcceptTx parcel => Sys2Proof.Machine.execJoinAcceptTx parcel s
  | .joinHoldExpiry parcel => Sys2Proof.Machine.execJoinHoldExpiry parcel s
  | .mgmtRx lane => Sys2Proof.Machine.execMgmtRx lane s
  | .nbrEnWrite src k data => Sys2Proof.Machine.execNbrEnWrite src k data s
  | .nbrBeaconRx lane => Sys2Proof.Machine.execNbrBeaconRx lane s
  | .nbrWatchEnd k => Sys2Proof.Machine.execNbrWatchEnd k s
  | .nbrHoldExpiry k => Sys2Proof.Machine.execNbrHoldExpiry k s
  | .grantRequest lane => Sys2Proof.Machine.execGrantRequest lane s
  | .lbtSenseEnd lane power => Sys2Proof.Machine.execLbtSenseEnd lane power s
  | .rglBucketBoundary => Sys2Proof.Machine.execRglBucketBoundary s
  | .profileWrite src ctrl data => Sys2Proof.Machine.execProfileWrite src ctrl data s
  | .profilePrepare => Sys2Proof.Machine.execProfilePrepare s
  | .acctSelWrite src data => Sys2Proof.Machine.execAcctSelWrite src data s
  | .uplinkVerdict lane places => Sys2Proof.Machine.execUplinkVerdict lane places s
  | .pendingSessionExpiry parcel => Sys2Proof.Machine.execPendingSessionExpiry parcel s
  | .childReportRx lane => Sys2Proof.Machine.execChildReportRx lane s
  | .targetSelect sid => Sys2Proof.Machine.execTargetSelect sid s
  | .mcastPosition lane => Sys2Proof.Machine.execMcastPosition lane s
  | .reportGapEnd sid lane => Sys2Proof.Machine.execReportGapEnd sid lane s
  | .updStatusRx lane => Sys2Proof.Machine.execUpdStatusRx lane s
  | .sessionDeadline sid => Sys2Proof.Machine.execSessionDeadline sid s
  | .itemAdmit q kind inst ptp aux ts bytes => Sys2Proof.Machine.execItemAdmit q kind inst ptp aux ts bytes s
  | .itemCommit q rest good mismatch => Sys2Proof.Machine.execItemCommit q rest good mismatch s
  | .queueFaultResetEnd q => Sys2Proof.Machine.execQueueFaultResetEnd q s
  | .cellSweepDone => Sys2Proof.Machine.execCellSweepDone s
  | .egressSelect egress => Sys2Proof.Machine.execEgressSelect egress s
  | .hrxItemWrite k ok => Sys2Proof.Machine.execHrxItemWrite k ok s
  | .hrxEnableWrite src k data => Sys2Proof.Machine.execHrxEnableWrite src k data s
  | .hrxReset src k => Sys2Proof.Machine.execHrxReset src k s
  | .hrxHeadWrite src k data => Sys2Proof.Machine.execHrxHeadWrite src k data s
  | .qwSelWrite src data => Sys2Proof.Machine.execQwSelWrite src data s
  | .qwQcfgWrite src data => Sys2Proof.Machine.execQwQcfgWrite src data s
  | .qwPopRead src => Sys2Proof.Machine.execQwPopRead src s
  | .qwDataRead src => Sys2Proof.Machine.execQwDataRead src s
  | .tssRefill => Sys2Proof.Machine.execTssRefill s
  | .radioShaperTick => Sys2Proof.Machine.execRadioShaperTick s
  | .sampleInstant => Sys2Proof.Machine.execSampleInstant s
  | .stSnap src => Sys2Proof.Machine.execStSnap src s
  | .stSnapDone => Sys2Proof.Machine.execStSnapDone s
  | .stClear src => Sys2Proof.Machine.execStClear src s
  | .gclSwitch src list => Sys2Proof.Machine.execGclSwitch src list s
  | .gclSwitchInstant list => Sys2Proof.Machine.execGclSwitchInstant list s
  | .gateEntryAdvance list => Sys2Proof.Machine.execGateEntryAdvance list s
  | .gclWinDataAccess src write => Sys2Proof.Machine.execGclWinDataAccess src write s
  | .ethLinkChange port rate sending => Sys2Proof.Machine.execEthLinkChange port rate sending s
  | .ethModeWrite src port data => Sys2Proof.Machine.execEthModeWrite src port data s
  | .ethRxFrame port frame => Sys2Proof.Machine.execEthRxFrame port frame s
  | .pauseExpiry port => Sys2Proof.Machine.execPauseExpiry port s
  | .pauseWdogFire port => Sys2Proof.Machine.execPauseWdogFire port s
  | .pauseHoldEnd port => Sys2Proof.Machine.execPauseHoldEnd port s
  | .pauseTxRepeat port => Sys2Proof.Machine.execPauseTxRepeat port s
  | .ethTxBegin port => Sys2Proof.Machine.execEthTxBegin port s
  | .lpiEnter port => Sys2Proof.Machine.execLpiEnter port s
  | .lpiWakeDone port => Sys2Proof.Machine.execLpiWakeDone port s
  | .saCfgWrite src port word data => Sys2Proof.Machine.execSaCfgWrite src port word data s
  | .tunnelEncap port => Sys2Proof.Machine.execTunnelEncap port s
  | .tunnelDecap port => Sys2Proof.Machine.execTunnelDecap port s
  | .mdioGo src port data => Sys2Proof.Machine.execMdioGo src port data s
  | .mdioDone port data => Sys2Proof.Machine.execMdioDone port data s
  | .txtsPop src port => Sys2Proof.Machine.execTxtsPop src port s
  | .dtmTimeSnapshot src => Sys2Proof.Machine.execDtmTimeSnapshot src s
  | .incWrite src high data => Sys2Proof.Machine.execIncWrite src high data s
  | .adjPhaseWrite src data => Sys2Proof.Machine.execAdjPhaseWrite src data s
  | .slewDone => Sys2Proof.Machine.execSlewDone s
  | .srcCfgWrite src data => Sys2Proof.Machine.execSrcCfgWrite src data s
  | .hostLockWrite src data => Sys2Proof.Machine.execHostLockWrite src data s
  | .ptpSyncRx port domain clockId t1 t2 gen => Sys2Proof.Machine.execPtpSyncRx port domain clockId t1 t2 gen s
  | .ptpAnnounceRx port domain clockId portNumber dataset => Sys2Proof.Machine.execPtpAnnounceRx port domain clockId portNumber dataset s
  | .ptpDelayRespRx port t1 t2 t3 t4 gens => Sys2Proof.Machine.execPtpDelayRespRx port t1 t2 t3 t4 gens s
  | .ptpPdelayReqRx port seq requester => Sys2Proof.Machine.execPtpPdelayReqRx port seq requester s
  | .ptpDelayReqTx port => Sys2Proof.Machine.execPtpDelayReqTx port s
  | .ptpMasterLoss => Sys2Proof.Machine.execPtpMasterLoss s
  | .holdoverExpiry => Sys2Proof.Machine.execHoldoverExpiry s
  | .ppsInEdge => Sys2Proof.Machine.execPpsInEdge s
  | .ppsSourceLoss => Sys2Proof.Machine.execPpsSourceLoss s
  | .ppsOutStart => Sys2Proof.Machine.execPpsOutStart s
  | .ppsOutEnd => Sys2Proof.Machine.execPpsOutEnd s
  | .ppsTsPop src => Sys2Proof.Machine.execPpsTsPop src s
  | .ccmRequest lane => Sys2Proof.Machine.execCcmRequest lane s
  | .gcmRequest ccmWaits => Sys2Proof.Machine.execGcmRequest ccmWaits s
  | .gcmSaturated => Sys2Proof.Machine.execGcmSaturated s
  | .keySweep damaged => Sys2Proof.Machine.execKeySweep damaged s
  | .keyWorkingReload slot damaged => Sys2Proof.Machine.execKeyWorkingReload slot damaged s
  | .slotSelWrite src data => Sys2Proof.Machine.execSlotSelWrite src data s
  | .jobSha256 src => Sys2Proof.Machine.execJobSha256 src s
  | .jobEcdsaVerify src => Sys2Proof.Machine.execJobEcdsaVerify src s
  | .jobEcdsaSign src => Sys2Proof.Machine.execJobEcdsaSign src s
  | .jobIdPub src => Sys2Proof.Machine.execJobIdPub src s
  | .jobKeyAgree src => Sys2Proof.Machine.execJobKeyAgree src s
  | .jobRandom src => Sys2Proof.Machine.execJobRandom src s
  | .jobDataWrite src data => Sys2Proof.Machine.execJobDataWrite src data s
  | .jobDone readBack => Sys2Proof.Machine.execJobDone readBack s
  | .jobResPop src => Sys2Proof.Machine.execJobResPop src s
  | .trngSeedCollect result => Sys2Proof.Machine.execTrngSeedCollect result s
  | .drbgReseedTimer => Sys2Proof.Machine.execDrbgReseedTimer s
  | .trngReseed src => Sys2Proof.Machine.execTrngReseed src s
  | .trngRawPop src => Sys2Proof.Machine.execTrngRawPop src s
  | .tamperDetect source => Sys2Proof.Machine.execTamperDetect source s
  | .zotOverwriteDone => Sys2Proof.Machine.execZotOverwriteDone s
  | .scrubRead demand found desc => Sys2Proof.Machine.execScrubRead demand found desc s
  | .scrubLate => Sys2Proof.Machine.execScrubLate s
  | .sramSweep addr unit demand found => Sys2Proof.Machine.execSramSweep addr unit demand found s
  | .errLogPop src => Sys2Proof.Machine.execErrLogPop src s
  | .roleDecisionTimeout => Sys2Proof.Machine.execRoleDecisionTimeout s
  | .mirrorFrameRx crcOk mseq ack items rtt => Sys2Proof.Machine.execMirrorFrameRx crcOk mseq ack items rtt s
  | .mirrorRetransmit => Sys2Proof.Machine.execMirrorRetransmit s
  | .mirrorLinkTimeout => Sys2Proof.Machine.execMirrorLinkTimeout s
  | .mirrorHeartbeat => Sys2Proof.Machine.execMirrorHeartbeat s
  | .mirrorSyncDone => Sys2Proof.Machine.execMirrorSyncDone s
  | .mirrorAckDeadline parcel => Sys2Proof.Machine.execMirrorAckDeadline parcel s
  | .strokeHoldEnd => Sys2Proof.Machine.execStrokeHoldEnd s
  | .freshExpiry => Sys2Proof.Machine.execFreshExpiry s
  | .ilkInChange active => Sys2Proof.Machine.execIlkInChange active s
  | .ilkConflictBackoffEnd => Sys2Proof.Machine.execIlkConflictBackoffEnd s
  | .ilkLossTimer => Sys2Proof.Machine.execIlkLossTimer s
  | .forceTkoWrite src data => Sys2Proof.Machine.execForceTkoWrite src data s
  | .takeoverStart => Sys2Proof.Machine.execTakeoverStart s
  | .takeoverComplete => Sys2Proof.Machine.execTakeoverComplete s
  | .takeoverAbandon => Sys2Proof.Machine.execTakeoverAbandon s
  | .roleSwapOffer => Sys2Proof.Machine.execRoleSwapOffer s
  | .swapOfferTimeout => Sys2Proof.Machine.execSwapOfferTimeout s
  | .heatStart charges => Sys2Proof.Machine.execHeatStart charges s
  | .pathReading margins => Sys2Proof.Machine.execPathReading margins s
  | .tempReading temps => Sys2Proof.Machine.execTempReading temps s
  | .canaryReading margins => Sys2Proof.Machine.execCanaryReading margins s
  | .retentionProbeInterval row k survived => Sys2Proof.Machine.execRetentionProbeInterval row k survived s
  | .planStart => Sys2Proof.Machine.execPlanStart s
  | .planNowWrite src data => Sys2Proof.Machine.execPlanNowWrite src data s
  | .clkRampStep => Sys2Proof.Machine.execClkRampStep s
  | .pmbusTransactionDone command ack data => Sys2Proof.Machine.execPmbusTransactionDone command ack data s
  | .avsSettleTimeout => Sys2Proof.Machine.execAvsSettleTimeout s
  | .pmbusPoll => Sys2Proof.Machine.execPmbusPoll s
  | .vidSettleExpiry => Sys2Proof.Machine.execVidSettleExpiry s
  | .avsResetWrite src data => Sys2Proof.Machine.execAvsResetWrite src data s
  | .ageHour => Sys2Proof.Machine.execAgeHour s
  | .pwrReqWrite src data => Sys2Proof.Machine.execPwrReqWrite src data s
  | .mainsOkFall => Sys2Proof.Machine.execMainsOkFall s
  | .mainsGraceExpiry => Sys2Proof.Machine.execMainsGraceExpiry s
  | .mainsOkRise => Sys2Proof.Machine.execMainsOkRise s
  | .mainsRestoreExpiry elapsed => Sys2Proof.Machine.execMainsRestoreExpiry elapsed s
  | .lastGaspTx port => Sys2Proof.Machine.execLastGaspTx port s
  | .lgTimeoutExpiry => Sys2Proof.Machine.execLgTimeoutExpiry s
  | .watchCommit => Sys2Proof.Machine.execWatchCommit s
  | .watchEntryDone => Sys2Proof.Machine.execWatchEntryDone s
  | .wurTelegramRx preamble crcOk addr cmd rssi elapsed => Sys2Proof.Machine.execWurTelegramRx preamble crcOk addr cmd rssi elapsed s
  | .clockRefLoss monitor => Sys2Proof.Machine.execClockRefLoss monitor s
  | .clockRefRestore monitor => Sys2Proof.Machine.execClockRefRestore monitor s
  | .xtalStableExpiry => Sys2Proof.Machine.execXtalStableExpiry s
  | .lgDataWrite src data => Sys2Proof.Machine.execLgDataWrite src data s
  | .aonShadowWrite src addr data => Sys2Proof.Machine.execAonShadowWrite src addr data s
  | .aonWriteApply => Sys2Proof.Machine.execAonWriteApply s
  | .bistTestDone misr micros => Sys2Proof.Machine.execBistTestDone misr micros s
  | .anDone port fullDuplex pause => Sys2Proof.Machine.execAnDone port fullDuplex pause s
  | .datumItemSend => Sys2Proof.Machine.execDatumItemSend s
  | .perVectorMaskWrite access masked => Sys2Proof.Machine.execPerVectorMaskWrite access masked s
  | .timeOkHoldExpiry => Sys2Proof.Machine.execTimeOkHoldExpiry s

end Sys2Proof.Machine
end

