-- ==== Sys2Proof/Machine/Step.lean ====
section
/-!
DEFINITION. Sys2Proof/Machine/Step.lean: one step of the device: the command at the front of the queue, or one idle period.
-/
namespace Sys2Proof.Machine

/-- With no command waiting, one CLK_DATUM cycle of 4 ns passes: the Datum counter and the clock of AON advance (R528, R692). -/
def idle (s : State) : State := aonTick (datumTick s) 1

/-- One step. -/
def step (s : State) : Host.Outcome State Fault Refusal :=
  match s.pending with
  | [] => .next (idle s)
  | c :: rest => exec c { s with pending := rest }

/-- The state with the command that a word spells at the front of its queue; unchanged where the word spells none. -/
def State.withFetchWord (s : State) (nbits w : Nat) : State :=
  match decodeTableWord nbits w with
  | some c => { s with pending := c :: s.pending }
  | none => s

end Sys2Proof.Machine
end

