-- ==== Sys2Proof/Safety.lean ====
section
/-!
DEFINITION. Sys2Proof/Safety.lean: the terms in which statements about the device are made: the invariant of every state that a run
reaches, what a command leaves alone, and what a safe step is.
-/
namespace Sys2Proof.Machine

/-- The invariant: the register file and the DRAM stand in their canonical form, so that equal contents are equal data. -/
def StateInv (s : State) : Prop := Tbl.wf resetWord s.regs = true ∧ Memory.wf s.dram = true

/-- A step that neither faults nor is refused. -/
def StepSafe (s : State) : Prop := ∃ t, step s = .next t

/-- Every register but those at the addresses `as` holds what it held. -/
def OnlyRegs (s t : State) (as : List Nat) : Prop := ∀ a, a ∉ as → t.reg a = s.reg a

/-- Every byte of the DRAM reads as before. -/
def SameMemory (s t : State) : Prop := ∀ a, t.ram a = s.ram a

/-- Every byte of the DRAM but the `n` bytes from address `lo` reads as before. -/
def OnlyMemory (s t : State) (lo n : Nat) : Prop := ∀ a, a < lo ∨ lo + n ≤ a → t.ram a = s.ram a

/-- What a requester's write holding register holds (R62). -/
def heldBy (s : State) (src : Requester) : WriteHold := Tbl.get noHold s.bus.hold src.code

/-- A wide value of `n` words at `base` that software may write as things stand: the clock identity and the bases of gate lists while
unlocked, the bases of a command ring, of the event ring and of a host receive ring while disabled. -/
def WideOpen (s : State) (base n : Nat) : Prop :=
  (base = A.DTM_CLOCK_ID ∧ n = 2 ∧ s.flag F.DTM_LOCK_LOCK0 = false) ∨
    (∃ x : Fin 6, base = A.GCL_L_ADMIN_BASE x ∧ n = 3 ∧ gateLocked s x = false) ∨
    (∃ k : Fin 4, (base = A.CMD_RING_SQ_BASE k ∨ base = A.CMD_RING_CQ_BASE k) ∧ n = 2 ∧ ringState s k = 0) ∨
    (base = A.CMD_EVR_BASE ∧ n = 2 ∧ s.log.evrOn = false) ∨
    (∃ k : Fin 8, base = A.FAB_HRX_BASE k ∧ n = 2 ∧ s.fld (F.FAB_HRX_STATUS_STATE k) = 0)

/-- Cause `b` of a page reads 1 in its `IRQ_STAT` (R41). -/
def causeSet (s : State) (page b : Nat) : Bool := bit (s.reg (page * 0x1000 + 0x010)).toNat b

/-- A page whose `ERR_CAP` held no error at `s` has captured one: its code, its requester, its address, and MORE as it stood (R43). -/
def errCaptured (s t : State) (page code src addr : Nat) : Prop :=
  bit (s.reg (page * 0x1000 + 0x01C)).toNat 31 = false →
    bitsOf (t.reg (page * 0x1000 + 0x01C)).toNat 0 8 = code ∧ bitsOf (t.reg (page * 0x1000 + 0x01C)).toNat 8 8 = src ∧
      bit (t.reg (page * 0x1000 + 0x01C)).toNat 31 = true ∧
      bitsOf (t.reg (page * 0x1000 + 0x01C)).toNat 24 7 = bitsOf (s.reg (page * 0x1000 + 0x01C)).toNat 24 7 ∧
      t.reg (page * 0x1000 + 0x020) = BitVec.ofNat 32 addr

/-- The last event that has occurred is one of code `code` of a page. -/
def lastEvent (s : State) (page code : Nat) : Prop := (s.log.queue.getLast?).map (fun e => (e.page, e.code)) = some (page, code)

/-- The event of code `code` of a page, instance `sub`, occurs at `s` with DATA `data`: the events that wait are those of `s` and it. -/
def eventAt (s : State) (page sub code severity : Nat) (data : List Byte) : List Event :=
  s.log.queue ++ [{ sec := s.now.sec, ns := s.now.ns, page := page, sub := sub, code := code, severity := severity, data := data }]

/-- The parts of the completion of the command `id` in flight, once its outcome is decided (R619). -/
def outcome (s : State) (id : CmdId) : Option (List Part) :=
  (findCmd s id).bind (fun c => if c.done then some c.parts else none)

/-- The command `id` is in flight with opcode `op` and may start; its records will be written. -/
def mayStart (s : State) (id : CmdId) (op : Nat) (c : Cmd) : Prop := starting s id op = some c ∧ c.lost = false

/-- The command `id` has begun and has no outcome yet. -/
def underway (s : State) (id : CmdId) : Prop := (findCmd s id).any (fun c => c.began && !c.done) = true

end Sys2Proof.Machine
end

