-- ==== Sys2Proof/Certificates/Slice0/Obligations.lean ====
section
/-!
DEFINITION. Sys2Proof/Certificates/Slice0/Obligations.lean: the statements about the device.
-/
open Sys2Proof Sys2Proof.Machine

/-- A step takes the command at the front of the queue and runs it with the rest of the queue. -/
def Obligations.StepRunsFrontCommand : Prop :=
  ∀ (c : Instr) (rest : List Instr) (s : State), step { s with pending := c :: rest } = exec c { s with pending := rest }

/-- An idle step: time passes. That an empty queue passes one 4 ns period is the model's choice (log entry 1). -/
def Obligations.IdleStepPassesTime : Prop :=
  ∀ s : State, s.pending = [] → ∃ t, step s = .next t ∧ t.pow.aonCycles = s.pow.aonCycles + 1 ∧
    t.fld F.AON_TIME_SECONDS = (s.pow.aonCycles + 1) / 250000000 % 2 ^ 32 ∧
    t.dev.upCycles = (if s.boot.pllLocked = true ∧ s.pow.stopped = false then s.dev.upCycles + 1 else s.dev.upCycles) ∧
    t.dram = s.dram ∧ t.nv = s.nv ∧ t.rings = s.rings ∧ t.lanes = s.lanes ∧ t.pending = []

/-- The state just after reset (R24, R25, R157, R158, R182): what the spec gives of it. -/
def Obligations.ResetStateIsFreshBoot : Prop :=
  State.reset.pending = [] ∧ State.reset.devState = 1 ∧ State.reset.fld F.NVC_RESET_SRC_LAST = 0 ∧ State.reset.fld F.NVC_RESET_SRC_SEEN = 1 ∧
    State.reset.dev.secureLatch = false ∧ State.reset.dram = [] ∧ (∀ k, k < 4 → State.reset.fld (F.CMD_RING_STATUS_STATE k) = 0) ∧
    (∀ n, n < 16 → State.reset.engine n = .stopped) ∧ State.reset.nv.seletFloor = 0 ∧ State.reset.nv.fwFloor = 0 ∧
    (∀ k, k < 5 → (State.reset.ring k).cmds = []) ∧ State.reset.log.queue.map (fun e => (e.page, e.code)) = [(0x01, 0x0500)]

/-- The invariant holds after reset. -/
def Obligations.ResetMeetsInvariant : Prop :=
  StateInv State.reset

/-- Every step, of whatever command or of none, keeps the invariant. -/
def Obligations.StepKeepsInvariant : Prop :=
  ∀ s t : State, StateInv s → step s = .next t → StateInv t

/-- The anti-rollback floors are never lowered (R175): not by any command, in any state. -/
def Obligations.StepNeverLowersFloors : Prop :=
  ∀ s t : State, step s = .next t → s.nv.seletFloor ≤ t.nv.seletFloor ∧ s.nv.fwFloor ≤ t.nv.fwFloor

/-- The OTP SELET key hash is programmed once (R181): whatever the command, a hash that is not blank stays. -/
def Obligations.KeyHashProgrammedOnce : Prop :=
  ∀ s t : State, s.nv.keyHash ≠ .blank → step s = .next t → t.nv.keyHash = s.nv.keyHash

/-- The SECURE_HOLD latch (R162): every command but POWER_ON_RESET leaves it set, and POWER_ON_RESET clears it. -/
def Obligations.LatchClearedOnlyByPowerOn : Prop :=
  (∀ s t : State, s.dev.secureLatch = true → s.pending.head? ≠ some .powerOnReset → step s = .next t → t.dev.secureLatch = true) ∧
    (∀ s : State, ∃ t, exec .powerOnReset s = .next t ∧ t.dev.secureLatch = false)

/-- exec leaves the queue of commands alone, what has been sent is not taken back, and the count of free values drawn does not fall. -/
def Obligations.CommandsLeaveQueueAndWhatWasSent : Prop :=
  ∀ (c : Instr) (s t : State), exec c s = .next t → t.pending = s.pending ∧ s.out <+: t.out ∧ s.fresh ≤ t.fresh

/-- Every command answers a next state in every state: the model refuses nothing. -/
def Obligations.EveryCommandAnswersNextState : Prop :=
  ∀ (c : Instr) (s : State), ∃ t, exec c s = .next t

/-- REG_WRITE (R39, R46, R54): each field by its type, on one register of each kind. -/
def Obligations.RegisterWritesActByFieldType : Prop :=
  ∀ (s : State) (src : Requester) (data : Word), s.inOperation = true →
    (∃ t, exec (.regWrite src 0x1E07C true data) s = .next t ∧ t.reg A.CAD_FOREIGN = data ∧ OnlyRegs s t [A.CAD_FOREIGN] ∧
      t = { s with regs := t.regs }) ∧
    (bit (s.reg 0x1C024).toNat 0 = false → ∃ t, exec (.regWrite src 0x1C028 true data) s = .next t ∧
      t.fld F.MAC_ROUTER_ID_ID = data.toNat % 2 ^ 14 ∧ OnlyRegs s t [A.MAC_ROUTER_ID] ∧ t = { s with regs := t.regs }) ∧
    (bit (s.reg 0x1C024).toNat 0 = true → ∃ t, exec (.regWrite src 0x1C028 true data) s = .next t ∧
      t.reg A.MAC_ROUTER_ID = s.reg A.MAC_ROUTER_ID ∧ causeSet t 0x1C 31 = true ∧ OnlyRegs s t [0x1C010, 0x1C01C, 0x1C020] ∧
      t = { s with regs := t.regs, host := t.host, out := t.out }) ∧
    (∃ t, exec (.regWrite src 0x1E010 true data) s = .next t ∧
      (∀ b ∈ [0, 1, 2, 3, 4, 5, 6, 31], causeSet t 0x1E b = (causeSet s 0x1E b && !bit data.toNat b)) ∧ OnlyRegs s t [0x1E010] ∧
      t = { s with regs := t.regs }) ∧
    (∃ t, exec (.regWrite src 0x1E07C false data) s = .next t ∧ causeSet t 0x04 31 = true ∧ OnlyRegs s t [0x04010, 0x0401C, 0x04020] ∧
      t = { s with regs := t.regs, host := t.host, out := t.out })

/-- LOCK_WRITE (R55): a written 1 sets, a written 0 leaves, no violation is recorded. -/
def Obligations.LockBitsOnlySet : Prop :=
  ∀ (s : State) (src : Requester) (page : Fin 256) (data : Word), s.inOperation = true →
    implemented (page.val * 0x1000 + 0x024) = true → page.val ≠ 0x02 → page.val ≠ 0x03 →
    ∃ t, exec (.lockWrite src page data) s = .next t ∧
      t.reg (page.val * 0x1000 + 0x024) = (s.reg (page.val * 0x1000 + 0x024) ||| (data &&& lockBits page.val)) ∧
      OnlyRegs s t [page.val * 0x1000 + 0x024] ∧ t = { s with regs := t.regs }

/-- ERR_CAP_CLEAR (R44). -/
def Obligations.ErrCapClearThenFirstError : Prop :=
  ∀ (s : State) (src : Requester) (page : Fin 256), s.inOperation = true → (specOf (page.val * 0x1000 + 0x01C)).isSome = true →
    page.val ≠ 0x02 → page.val ≠ 0x03 →
    (∃ t, exec (.errCapClear src page none) s = .next t ∧ bitsOf (t.reg (page.val * 0x1000 + 0x01C)).toNat 24 8 = 0 ∧
      OnlyRegs s t [page.val * 0x1000 + 0x01C] ∧ t = { s with regs := t.regs }) ∧
    (∀ (who : Requester) (code : Fin 256) (at_ : Word), ∃ t, exec (.errCapClear src page (some (who, code, at_))) s = .next t ∧
      bitsOf (t.reg (page.val * 0x1000 + 0x01C)).toNat 0 16 = who.code * 256 + code.val ∧
      bitsOf (t.reg (page.val * 0x1000 + 0x01C)).toNat 24 8 = 128 ∧
      t.reg (page.val * 0x1000 + 0x020) = at_ ∧ causeSet t page.val 31 = true ∧
      OnlyRegs s t [page.val * 0x1000 + 0x010, page.val * 0x1000 + 0x01C, page.val * 0x1000 + 0x020] ∧
      t = { s with regs := t.regs, host := t.host, out := t.out })

/-- IRQ_FORCE_WRITE (R41), on every page with causes, and UNDECODED_ACCESS (R36, R37), of every address that does not decode. -/
def Obligations.ForcedCausesAndErrorsOfAccess : Prop :=
  (∀ (s : State) (src : Requester) (page : Fin 256) (data : Word), s.inOperation = true →
      (specOf (page.val * 0x1000 + 0x018)).isSome = true → page.val ≠ 0x02 → page.val ≠ 0x03 →
      ∃ t, exec (.irqForceWrite src page data) s = .next t ∧
        t.reg (page.val * 0x1000 + 0x010) = (s.reg (page.val * 0x1000 + 0x010) ||| (data &&& causeMask page.val)) ∧
        OnlyRegs s t [page.val * 0x1000 + 0x010] ∧ t = { s with regs := t.regs, host := t.host, out := t.out }) ∧
    (∀ (s : State) (src : Requester) (data : Word), s.inOperation = true → ∃ t, exec (.irqForceWrite src 0x1E data) s = .next t ∧
      (∀ b ∈ [0, 1, 2, 3, 4, 5, 6, 31], causeSet t 0x1E b = (causeSet s 0x1E b || bit data.toNat b)) ∧ OnlyRegs s t [0x1E010] ∧
      t = { s with regs := t.regs, host := t.host, out := t.out }) ∧
    (∀ (s : State) (src : Requester) (addr : RegAddr), s.answers = true → decodes s src (wordAddr addr) = false →
      (∃ t, exec (.undecodedAccess src addr true) s = .next t ∧ causeSet t 0x04 31 = true ∧
        errCaptured s t 0x04 0x02 src.code (wordAddr addr) ∧ OnlyRegs s t [0x04010, 0x0401C, 0x04020] ∧
        t = { s with regs := t.regs, host := t.host, out := t.out }) ∧
      (∃ t, exec (.undecodedAccess src addr false) s = .next t ∧ causeSet t 0x04 31 = true ∧
        errCaptured s t 0x04 0x02 src.code (wordAddr addr) ∧ OnlyRegs s t [0x04010, 0x0401C, 0x04020] ∧
        t = { s with regs := t.regs, host := t.host, out := t.out } ∧
        t.out.getLast? = some (if src = .jtag then .readData src (wordAddr addr) 0#32 else .readAbort src (wordAddr addr))))

/-- ALIAS_ACCESS (R52, R53), on a RW bit and on W1C bits. -/
def Obligations.AliasWordsActOnOneBit : Prop :=
  ∀ (s : State) (src : Requester), s.inOperation = true →
    (∀ v : Bool, ∃ t, exec (.aliasAccess src 0x1CA84 (some v)) s = .next t ∧ bit (t.reg 0x1C014).toNat 1 = v ∧
      (∀ i, i < 32 → i ≠ 1 → bit (t.reg 0x1C014).toNat i = bit (s.reg 0x1C014).toNat i) ∧ OnlyRegs s t [0x1C014]) ∧
    (∀ (b : Fin 7) (v : Bool), ∃ t, exec (.aliasAccess src ⟨0x1EA00 + 4 * b.val, by omega⟩ (some v)) s = .next t ∧
      causeSet t 0x1E b.val = (causeSet s 0x1E b.val && !v) ∧
      (∀ i, i < 32 → i ≠ b.val → causeSet t 0x1E i = causeSet s 0x1E i) ∧ OnlyRegs s t [0x1E010]) ∧
    (∀ b : Fin 7, ∃ t, exec (.aliasAccess src ⟨0x1EA00 + 4 * b.val, by omega⟩ none) s = .next t ∧
      t = s.send (.readData src (0x1EA00 + 4 * b.val) (BitVec.ofNat 32 (b01 (causeSet s 0x1E b.val)))))

/-- WIDE_WORD_WRITE, WIDE_LOW_WORD_READ and PEEK_READ (R59, R62, R66): the words of a wide value below the highest are held and a
word of another value discards them; the highest commits them all, or itself alone with none held; every lowest word latches the higher
ones; every peek address shows the words of its pop address and consumes nothing. -/
def Obligations.WideValuesHeldLatchedPeeked : Prop :=
  ∀ (s : State) (src : Requester) (data : Word), s.inOperation = true →
    (∀ (addr : RegAddr) (base n i : Nat), WideOpen s base n → wordAddr addr = base + 4 * i →
      (i + 1 < n → exec (.wideWordWrite src addr data) s = .next (setHold s src
        { base := base
          words := Tbl.ins (wordAddr addr) data
            (Tbl.erase (wordAddr addr) (if (heldBy s src).base = base then (heldBy s src).words else [])) })) ∧
      (i + 1 = n → (heldBy s src).base ≠ base → ∃ t, exec (.wideWordWrite src addr data) s = .next t ∧ t.reg (wordAddr addr) = data ∧
        heldBy t src = noHold 0 ∧ OnlyRegs s t [wordAddr addr] ∧ t = { s with regs := t.regs, bus := t.bus }) ∧
      (∀ lower : Nat → Word, i + 1 = n →
        heldBy s src = { base := base, words := (List.range i).map (fun j => (base + 4 * j, lower j)) } →
        ∃ t, exec (.wideWordWrite src addr data) s = .next t ∧ t.reg (wordAddr addr) = data ∧
          (∀ j, j < i → bitsOf (t.reg (base + 4 * j)).toNat 0 30 = bitsOf (lower j).toNat 0 30 ∧ (n = 2 ∨ j = 1 → t.reg (base + 4 * j) = lower j)) ∧
          heldBy t src = noHold 0 ∧ OnlyRegs s t ((List.range n).map (fun j => base + 4 * j)) ∧ t = { s with regs := t.regs, bus := t.bus })) ∧
    (∀ (addr : RegAddr) (n : Nat), wideOf (wordAddr addr) = some (wordAddr addr, n) →
      ∃ t, exec (.wideLowWordRead src addr) s = .next t ∧
        t.out = s.out ++ [.readData src (wordAddr addr) (viewWord s (wordAddr addr))] ∧
        (∀ j, 0 < j → j < n → shadowWord t src j = viewWord s (wordAddr addr + 4 * j)) ∧ OnlyRegs s t [] ∧
        t = { s with bus := t.bus, out := t.out }) ∧
    (∀ (addr : RegAddr) e, peekOf (wordAddr addr / 0x1000) (wordAddr addr % 0x1000) = some e →
      (wordAddr addr % 0x1000 = e.2.1 + 0x400 → ∃ t, exec (.peekRead src addr) s = .next t ∧
        t.out = s.out ++ [.readData src (wordAddr addr) ((popShown s (wordAddr addr / 0x1000) e.2.1).headD 0#32)] ∧
        (∀ j, 0 < j → shadowWord t src j = ((popShown s (wordAddr addr / 0x1000) e.2.1).drop j).headD 0#32) ∧
        OnlyRegs s t [] ∧ t = { s with bus := t.bus, out := t.out }) ∧
      (wordAddr addr % 0x1000 ≠ e.2.1 + 0x400 → ∃ t, exec (.peekRead src addr) s = .next t ∧
        t = s.send (.readData src (wordAddr addr) (shadowWord s src ((wordAddr addr % 0x1000 - 0x400 - e.2.1) / 4)))))

/-- IND_ADDR_WRITE, IND_CTRL_WRITE and IND_DATA_WRITE while BUSY (R71), and IND_ADDR_WRITE and IND_CTRL_WRITE while it is 0 (R68, R71, R72). -/
def Obligations.IndirectAddressControlAndBusy : Prop :=
  ∀ (s : State) (src : Requester) (data : Word), s.inOperation = true →
    (s.flag F.IND_IND_STATUS_BUSY = true →
      ∀ c ∈ [Instr.indAddrWrite src data, Instr.indCtrlWrite src data, Instr.indDataWrite src data], ∃ t, exec c s = .next t ∧
        t.reg A.IND_IND_ADDR = s.reg A.IND_IND_ADDR ∧ t.reg A.IND_IND_CTRL = s.reg A.IND_IND_CTRL ∧ t.ind = s.ind ∧
        t.flag F.IND_IND_STATUS_OVERRUN = true ∧ causeSet t 0x06 31 = true ∧
        (bit (s.reg 0x0601C).toNat 31 = false → bitsOf (t.reg 0x0601C).toNat 0 8 = 0x06) ∧ SameMemory s t) ∧
    (s.flag F.IND_IND_STATUS_BUSY = false →
      (s.flag F.IND_IND_CTRL_MODE = false → ∃ t, exec (.indAddrWrite src data) s = .next t ∧ t.reg A.IND_IND_ADDR = data ∧
        t.ind = { s.ind with group := none } ∧ OnlyRegs s t [A.IND_IND_ADDR] ∧ t = { s with regs := t.regs, ind := t.ind }) ∧
      (s.flag F.IND_IND_CTRL_MODE = true → ∃ t, exec (.indAddrWrite src data) s = .next t ∧ t.reg A.IND_IND_ADDR = data ∧
        t.flag F.IND_IND_STATUS_BUSY = true ∧ t.flag F.IND_IND_STATUS_RD_VALID = false ∧ t.reg A.IND_IND_CTRL = s.reg A.IND_IND_CTRL ∧
        t.ind.busy.map (fun x => (x.write, x.made, x.addr, x.src)) =
          some (false, indExists (data.toNat / 2 ^ 28) (data.toNat % 2 ^ 28), data, src) ∧
        t.flag F.IND_IND_STATUS_RANGE = (s.flag F.IND_IND_STATUS_RANGE || !indExists (data.toNat / 2 ^ 28) (data.toNat % 2 ^ 28)) ∧
        SameMemory s t) ∧
      (∃ t, exec (.indCtrlWrite src data) s = .next t ∧ t.flag F.IND_IND_CTRL_MODE = bit data.toNat 4 ∧
        t.fld F.IND_IND_CTRL_INC = (if data.toNat % 4 = 3 then s.fld F.IND_IND_CTRL_INC else data.toNat % 4) ∧
        t.flag F.IND_IND_STATUS_RD_VALID = (s.flag F.IND_IND_STATUS_RD_VALID && (bit data.toNat 4 == s.flag F.IND_IND_CTRL_MODE)) ∧
        t.flag F.IND_IND_STATUS_BUSY = false ∧ t.ind = { s.ind with group := none } ∧
        OnlyRegs s t [A.IND_IND_CTRL, A.IND_IND_STATUS, 0x06010, 0x0601C, 0x06020] ∧ SameMemory s t))

/-- IND_DATA_WRITE, IND_DATA_READ, IND_PREFETCH_DONE and IND_WRITE_ACK (R68–R70, R72–R74, R77). -/
def Obligations.IndirectReadsAndWritesComplete : Prop :=
  (∀ (s : State) (src : Requester) (data : Word) (dom w : Nat), s.inOperation = true → s.flag F.IND_IND_STATUS_BUSY = false →
      dom = s.fld F.IND_IND_ADDR_DOMAIN → w = s.fld F.IND_IND_ADDR_WADDR →
      (s.flag F.IND_IND_CTRL_MODE = false → ∃ t, exec (.indDataWrite src data) s = .next t ∧ t.flag F.IND_IND_STATUS_BUSY = true ∧
        t.ind.busy.map (fun x => (x.write, x.made, x.addr, x.data)) =
          some (true, indExists dom w && !indRefused s dom w data, s.reg A.IND_IND_ADDR, data) ∧
        t.flag F.IND_IND_STATUS_RANGE = (s.flag F.IND_IND_STATUS_RANGE || !indExists dom w) ∧
        t.flag F.IND_IND_STATUS_DENIED = (s.flag F.IND_IND_STATUS_DENIED || (indExists dom w && indRefused s dom w data)) ∧
        t.reg A.IND_IND_ADDR = s.reg A.IND_IND_ADDR ∧ SameMemory s t) ∧
      (s.flag F.IND_IND_CTRL_MODE = true → ∃ t, exec (.indDataWrite src data) s = .next t ∧ t.ind = s.ind ∧
        t.flag F.IND_IND_STATUS_BUSY = false ∧ t.flag F.IND_IND_STATUS_RD_VALID = s.flag F.IND_IND_STATUS_RD_VALID ∧
        t.reg A.IND_IND_ADDR = s.reg A.IND_IND_ADDR ∧ t.flag F.IND_IND_STATUS_DENIED = true ∧ SameMemory s t) ∧
      (src ≠ .jtag → s.flag F.IND_IND_STATUS_RD_VALID = true → ∃ t, exec (.indDataRead src) s = .next t ∧
        t.out = s.out ++ [.readData src A.IND_IND_DATA s.ind.word] ++ t.out.drop (s.out.length + 1) ∧
        t.fld F.IND_IND_ADDR_WADDR = (w + indStep s) % 2 ^ 28 ∧ t.fld F.IND_IND_ADDR_DOMAIN = dom ∧ t.ind.last = s.ind.word ∧
        t.ind.busy.map (fun x => (x.write, x.made, x.addr)) =
          some (false, indExists dom ((w + indStep s) % 2 ^ 28), t.reg A.IND_IND_ADDR) ∧
        t.flag F.IND_IND_STATUS_RD_VALID = false ∧ t.flag F.IND_IND_STATUS_BUSY = true ∧ SameMemory s t) ∧
      (src ≠ .jtag → s.flag F.IND_IND_STATUS_RD_VALID = false → ∃ t, exec (.indDataRead src) s = .next t ∧
        t.out = s.out ++ [.readData src A.IND_IND_DATA s.ind.last] ++ t.out.drop (s.out.length + 1) ∧ t.ind = s.ind ∧
        t.flag F.IND_IND_STATUS_EARLY = true ∧ t.flag F.IND_IND_STATUS_BUSY = false ∧ t.reg A.IND_IND_ADDR = s.reg A.IND_IND_ADDR ∧
        SameMemory s t)) ∧
    (∀ (s : State) (acc : IndAccess) (dom w : Nat), s.answers = true → s.ind.busy = some acc → dom = acc.addr.toNat / 2 ^ 28 →
      w = acc.addr.toNat % 2 ^ 28 →
      (acc.write = true → ∃ t, exec .indWriteAck s = .next t ∧ t.flag F.IND_IND_STATUS_BUSY = false ∧ t.ind.busy = none ∧
        t.fld F.IND_IND_ADDR_WADDR = (s.fld F.IND_IND_ADDR_WADDR + indStep s) % 2 ^ 28 ∧
        (acc.made = false ∨ dom < 5 → SameMemory s t) ∧
        (acc.made = true → dom = 8 → t.ramNat (4 * w) 3 = acc.data.toNat % 2 ^ 24 ∧ OnlyMemory s t (4 * w) 3) ∧
        (acc.made = true → 8 < dom → t.ramNat (indBase dom + 4 * w) 4 = acc.data.toNat ∧ OnlyMemory s t (indBase dom + 4 * w) 4)) ∧
      (acc.write = false → ∀ found desc, ∃ t, exec (.indPrefetchDone found desc) s = .next t ∧ t.flag F.IND_IND_STATUS_BUSY = false ∧
        t.flag F.IND_IND_STATUS_RD_VALID = true ∧ t.ind.busy = none ∧
        (acc.made = false → t.ind.word = 0#32 ∧ SameMemory s t) ∧
        (acc.made = true → dom < 8 → t.ind.word = indWord s dom w ∧ SameMemory s t) ∧
        (acc.made = true → 8 ≤ dom → acc.fromGroup = false → s.boot.dramReady = true → found = .clean → indLostRecord s dom w = false →
          t.ind.word = ((indGroup s dom w).drop (w % 4)).headD 0#32 ∧ t.ind.group = some (acc.addr.toNat / 4, indGroup s dom w) ∧ SameMemory s t) ∧
        (∀ syn, acc.made = true → 8 ≤ dom → acc.fromGroup = false → s.boot.dramReady = true → found = .ue syn →
          t.flag F.IND_IND_STATUS_UE = true ∧ causeSet t 0x06 31 = true)))

/-- POWER_ON_RESET, PIN_RESET, SYS_WATCHDOG_EXPIRY, SOFTWARE_RESET, JTAG_RESET, BROWN_OUT (R157, R158). -/
def Obligations.ResetsRestartTheDevice : Prop :=
  ∀ (s : State) (c : Instr) (code : Nat),
    ((c = .powerOnReset ∧ code = 0) ∨ (c = .pinReset ∧ code = 1) ∨
      (c = .sysWatchdogExpiry ∧ code = 2 ∧ s.dev.inReset = false ∧ s.devState ≠ 5 ∧ s.dev.bistRan = false) ∨
      (c = .softwareReset ∧ code = 3 ∧ s.answers = true ∧ s.dev.softResetDue = true) ∨ (c = .jtagReset ∧ code = 4) ∨
      (c = .brownOut ∧ code = 5 ∧ (s.dev.inReset = true ∨ s.devState ≠ 5))) →
    ∃ t, exec c s = .next t ∧ t.dev.inReset = true ∧ t.dev.resetCode = code ∧ t.fld F.NVC_RESET_SRC_LAST = code ∧
      bit (t.fld F.NVC_RESET_SRC_SEEN) code = true ∧ (∀ a, t.ram a = 0#8) ∧ t.rings = [] ∧ t.lanes = [] ∧ t.fab = State.reset.fab ∧
      t.cad = State.reset.cad ∧ t.nv = s.nv ∧ t.dev.secureLatch = (s.dev.secureLatch && code != 0) ∧ t.dev.softResetDue = false ∧
      (∀ a, a / 0x1000 = 2 ∨ a / 0x1000 = 3 → t.reg a = if code = 0 then resetWord a else s.reg a)

/-- RESET_CTRL_WRITE (R159, R50). -/
def Obligations.SoftwareResetIsRequestedByOneValue : Prop :=
  ∀ (s : State) (src : Requester) (data : Word), s.inOperation = true →
    (data = 0x5AFE0001#32 → exec (.resetCtrlWrite src data) s = .next { s with dev := { s.dev with softResetDue := true } }) ∧
    (data ≠ 0x5AFE0001#32 → ∃ t, exec (.resetCtrlWrite src data) s = .next t ∧ causeSet t 0x01 31 = true ∧
      errCaptured s t 0x01 0x05 src.code A.NVC_RESET_CTRL ∧
      OnlyRegs s t [0x01010, 0x0101C, 0x01020] ∧ t = { s with regs := t.regs, host := t.host, out := t.out })

/-- RESET_RELEASE (R25, R162, R182). -/
def Obligations.ResetReleaseEntersBootOrSecureHold : Prop :=
  ∀ (s : State) (perstHigh : Bool), s.dev.inReset = true →
    (s.dev.secureLatch = false → ∃ t, exec (.resetRelease perstHigh) s = .next t ∧ t.dev = { s.dev with inReset := false } ∧
      t.nv = { s.nv with bootCount := (s.nv.bootCount + 1) % 2 ^ 32 } ∧ t.host.perstLow = !perstHigh ∧
      t.log.queue.take (s.log.queue.length + 1) =
        eventAt s 0x01 0 0x0500 0 (leBytes 1 s.dev.resetCode ++ leBytes 1 s.dev.lastTrans) ∧
      t.devState = s.devState ∧ SameMemory s t) ∧
    (s.dev.secureLatch = true → ∃ t, exec (.resetRelease perstHigh) s = .next t ∧ t.devState = 4 ∧
      t.dev = { s.dev with inReset := false, lastTrans := 0x05 } ∧ t.nv = s.nv ∧ t.log = s.log ∧
      OnlyRegs s t [A.SYS_STATUS, A.SYS_CLK_STATUS])

/-- DATUM_PLL_LOCK (R527), SELET_CHECK (R172, R173), SELET_RECORD_APPLY, SELET_POLL_MATCH, SELET_POLL_TIMEOUT, SELET_DELAY_EXPIRY (R169–R171). -/
def Obligations.BootChoosesAndAppliesTheImage : Prop :=
  ∀ s : State, s.booting = true →
    (s.boot.pllLocked = false → ∃ t, exec .datumPllLock s = .next t ∧ t.boot = { s.boot with pllLocked := true } ∧
      t.flag F.SYS_CLK_STATUS_DATUM_PLL = true ∧ t.flag F.SYS_CLK_STATUS_CORE_PLL = true ∧
      OnlyRegs s t [A.SYS_CLK_STATUS, A.AON_STATUS] ∧ t = { s with regs := t.regs, boot := t.boot }) ∧
    (s.boot.pllLocked = true → s.boot.seletChecked = false → ∃ t, exec .seletCheck s = .next t ∧ t.boot.seletChecked = true ∧
      t.fld F.NVC_STATUS_SELET_APPLIED = t.boot.seletCopy ∧
      (t.boot.seletCopy ≠ 0 → seletReason (copyBytes s t.boot.seletCopy) s.nv.seletFloor s.nv.keyHash = 0) ∧
      (s.nv.keyHash = .blank → t.boot.seletCopy = 0 ∧ t.boot.seletDone = true) ∧
      SameMemory s t ∧ t.nv = s.nv ∧ (t.boot.seletCopy ≠ 0 ∨ s.boot.keysLoaded = false →
        OnlyRegs s t [A.NVC_STATUS, A.NVC_SELET_SERIAL] ∧ t = { s with regs := t.regs, boot := t.boot, log := t.log })) ∧
    (seletActive s = true → s.boot.seletWait = .none →
      ((currentRec s).kind = 2 → exec .seletRecordApply s = .next { s with boot := { s.boot with seletWait := .delay } }) ∧
      ((currentRec s).kind = 1 → implemented ((currentRec s).page * 0x1000 + (currentRec s).offset) = true →
        exec .seletRecordApply s = .next { s with boot := { s.boot with seletWait := .poll } }) ∧
      ((currentRec s).kind = 0 → (currentRec s).page = 0x1E → (currentRec s).offset = 0x07C → (currentRec s).mask = 0xFFFFFFFF#32 →
        ∃ t, exec .seletRecordApply s = .next t ∧ t.reg A.CAD_FOREIGN = (currentRec s).value ∧
          t.boot = { s.boot with seletIndex := s.boot.seletIndex + 1, seletWait := .none } ∧ OnlyRegs s t [A.CAD_FOREIGN]) ∧
      ((currentRec s).kind = 15 → ∃ t, exec .seletRecordApply s = .next t ∧ t.boot.seletDone = true ∧
        SameMemory s t ∧ (s.boot.keysLoaded = false →
          OnlyRegs s t [A.NVC_STATUS] ∧ t = { s with regs := t.regs, boot := t.boot, log := t.log }))) ∧
    (seletActive s = true → s.boot.seletWait = .poll → pollMatches s (currentRec s) = true →
      exec .seletPollMatch s = .next { s with boot := { s.boot with seletIndex := s.boot.seletIndex + 1, seletWait := .none } }) ∧
    (seletActive s = true → s.boot.seletWait = .poll → ∃ t, exec .seletPollTimeout s = .next t ∧
      t.fld F.NVC_STATUS_REC_FAILS = min (s.fld F.NVC_STATUS_REC_FAILS + 1) 0xFFFF ∧ causeSet t 0x01 31 = true ∧
      (s.fld F.NVC_STATUS_REC_FAILS = 0 → t.fld F.NVC_SELET_INFO_FIRST_CODE = 0x83 ∧
        t.fld F.NVC_SELET_INFO_FIRST_INDEX = s.boot.seletIndex % 2 ^ 13) ∧
      t.boot.seletDone = (currentRec s).stop ∧ ((currentRec s).stop = false → t.boot.seletIndex = s.boot.seletIndex + 1) ∧ SameMemory s t) ∧
    (seletActive s = true → s.boot.seletWait = .delay →
      exec .seletDelayExpiry s = .next { s with boot := { s.boot with seletIndex := s.boot.seletIndex + 1, seletWait := .none } })

/-- DRAM_INIT_DONE (R26, R116), BOOT_DRAM_MARCH_DONE (R164), WATCH_DRAM_SCRUB_DONE (R166). -/
def Obligations.BootPreparesTheDram : Prop :=
  ∀ s : State, s.booting = true →
    (s.boot.seletDone = true → s.boot.dramReady = false →
      (marchDue s = true → ∃ t, exec .dramInitDone s = .next t ∧ t.boot.dramReady = true ∧ t.flag F.MEM_STATUS_DRAM_READY = true ∧
        t.log = s.log ∧ SameMemory s t) ∧
      (marchDue s = false → s.bst.run = none → s.fld F.NVC_CTRL_FW_SRC ≠ 2 → ∃ t, exec .dramInitDone s = .next t ∧
        t.boot.dramReady = true ∧ t.flag F.MEM_STATUS_DRAM_READY = true ∧ t.log.queue = [] ∧
        t.reg A.CMD_LOG_NEXT_SEQ = s.reg A.CMD_LOG_NEXT_SEQ + BitVec.ofNat 32 s.log.queue.length)) ∧
    (∀ misr, s.boot.dramReady = true → marchDue s = true → ∃ t, exec (.bootDramMarchDone misr) s = .next t ∧
      t.boot.marchResult = (if misr = Config.fusedMisr 0xF1 then 1 else 2) ∧ t.flag F.BST_STATUS_MARCH_BOOT_RUN = true ∧
      t.flag F.BST_STATUS_MARCH_BOOT_FAIL = (misr != Config.fusedMisr 0xF1) ∧ causeSet t 0x07 0 = true ∧
      ∀ a, a < 0x07200000 → t.ram a = 0#8) ∧
    (s.boot.fromWatch = true → s.boot.dramReady = true → s.boot.watchScrubbed = false →
      (∀ lost, ∃ t, exec (.watchDramScrubDone lost) s = .next t ∧ t.boot.watchScrubbed = true) ∧
      (s.fld F.NVC_CTRL_FW_SRC ≠ 2 → ∃ t, exec (.watchDramScrubDone []) s = .next t ∧ t = { s with boot := t.boot } ∧
        t.boot = { s.boot with watchScrubbed := true, fwOrder := t.boot.fwOrder }))

/-- FW_BUNDLE_CHECK (R178), HOST_BUNDLE_WAIT_EXPIRY (R179), BOOT_DONE (R160, R175). -/
def Obligations.BootLoadsABundleAndEnds : Prop :=
  (∀ (s : State) (secondary : Bool) (f : BundleFacts), searchOpen s = true → fwOrder s < 2 →
      s.flag F.NVC_STATUS_FW_WAIT = false → s.boot.fwTried = b01 secondary →
      (bundleReason f s.nv.fwFloor = 0 → ∃ t, exec (.fwBundleCheck secondary f) s = .next t ∧
        t.dev.fwVersion = some (f.major % 256, f.minor % 256) ∧ t.dev.fwRollback = f.rollback ∧ t.boot.fwDone = true ∧
        t.fld F.NVC_STATUS_FW_SOURCE = (if secondary then 2 else 1) ∧ (∀ n, n < 16 → t.engine n = .running) ∧
        OnlyRegs s t [A.NVC_STATUS, A.NVC_FW_STATUS] ∧ SameMemory s t) ∧
      (bundleReason f s.nv.fwFloor ≠ 0 → secondary = false → ∃ t, exec (.fwBundleCheck secondary f) s = .next t ∧
        t.fld F.NVC_FW_STATUS_PRIMARY = bundleReason f s.nv.fwFloor ∧ t.boot = { s.boot with fwTried := 1 } ∧ t.dev = s.dev ∧
        OnlyRegs s t [A.NVC_FW_STATUS])) ∧
    (∀ s : State, searchOpen s = true → s.flag F.NVC_STATUS_FW_WAIT = true → s.stage.op = none →
      ∃ t, exec .hostBundleWaitExpiry s = .next t ∧ t.flag F.NVC_STATUS_FW_WAIT = false ∧ t.fld F.NVC_STATUS_FW_SOURCE = 0 ∧
        t.boot = { s.boot with fwDone := true } ∧ t.engine 15 = .running ∧ t.dev.fwVersion = s.dev.fwVersion ∧
        t.log.queue.length = s.log.queue.length + 1 ∧ lastEvent t 0x01 0x0502 ∧ OnlyRegs s t [A.NVC_STATUS]) ∧
    (∀ (s : State) (ms : Nat), s.booting = true → s.boot.fwDone = true →
      (s.dev.fwVersion = none → ∃ t, exec (.bootDone ms) s = .next t ∧ t.dev.lastTrans = 0x03 ∧ t.nv = s.nv ∧
        t.devState = 3 ∧ OnlyRegs s t [A.SYS_STATUS]) ∧
      (s.dev.fwVersion.isSome = true → bootReady s = true → s.boot.seletCopy = 0 → ∃ t, exec (.bootDone ms) s = .next t ∧
        t.dev.lastTrans = 0x02 ∧ t.nv.fwFloor = max s.nv.fwFloor s.dev.fwRollback ∧ t.nv.seletFloor = s.nv.seletFloor ∧
        (s.flag F.AON_STATUS_MAINS_OK = true → t.devState = 2)))

/-- STAGE_TARGET_WRITE, STAGE_CLEAR, STAGE_DATA_WRITE, SELET_IMAGE_WRITE, HOST_BUNDLE_STAGE, KEY_HASH_PROGRAM (R176, R177, R179, R181). -/
def Obligations.StagingBufferTakesWordsAndRunsOneOperation : Prop :=
  ∀ (s : State) (src : Requester) (data : Word), s.inOperation = true →
    (s.flag F.NVC_STAGE_GO_GO = false →
      (data.toNat % 4 = 0 ∨ data.toNat % 4 = 2 → s.flag F.NVC_LOCK_LOCK1 = false → ∃ t, exec (.stageTargetWrite src data) s = .next t ∧
        t.fld F.NVC_STAGE_CTRL_TARGET = data.toNat % 4 ∧ t.stage = { s.stage with words := [] } ∧ t.reg A.NVC_STAGE_COUNT = 0#32 ∧
        OnlyRegs s t [A.NVC_STAGE_CTRL, A.NVC_STAGE_COUNT] ∧ t = { s with regs := t.regs, stage := t.stage }) ∧
      (∃ t, exec (.stageClear src) s = .next t ∧ t.stage = { s.stage with words := [] } ∧ t.reg A.NVC_STAGE_COUNT = 0#32 ∧
        OnlyRegs s t [A.NVC_STAGE_COUNT] ∧ t = { s with regs := t.regs, stage := t.stage }) ∧
      (s.stage.words.length < stageCapacity (s.fld F.NVC_STAGE_CTRL_TARGET) → ∃ t, exec (.stageDataWrite src data) s = .next t ∧
        t.stage = { s.stage with words := s.stage.words ++ [data] } ∧ t.fld F.NVC_STAGE_COUNT_WORDS = s.stage.words.length + 1 ∧
        OnlyRegs s t [A.NVC_STAGE_COUNT] ∧ t = { s with regs := t.regs, stage := t.stage }) ∧
      (stageCapacity (s.fld F.NVC_STAGE_CTRL_TARGET) ≤ s.stage.words.length → ∃ t, exec (.stageDataWrite src data) s = .next t ∧
        t.flag F.NVC_STAGE_COUNT_OVERFLOW = true ∧ OnlyRegs s t [A.NVC_STAGE_COUNT] ∧ t = { s with regs := t.regs }) ∧
      (∀ (c : Instr) (n copy : Nat) (b : Option BundleFacts),
        (c = .seletImageWrite src ∧ n = 0 ∧ copy = targetCopy s ∧ b = none) ∨ (c = .keyHashProgram src ∧ n = 2 ∧ copy = 0 ∧ b = none) ∨
          (∃ f, c = .hostBundleStage src f ∧ n = 1 ∧ copy = 0 ∧ b = some f) →
        s.fld F.NVC_STAGE_CTRL_TARGET = n → ∃ t, exec c s = .next t ∧ t.flag F.NVC_STAGE_GO_GO = true ∧
          t.flag F.NVC_STAGE_RESULT_VALID = false ∧
          t.stage.op = some { target := n, reason := stageReason s n b, copy := copy, words := s.stage.words, bundle := b, src := src.code } ∧
          t.stage.words = s.stage.words ∧ t.nv.keyHash = s.nv.keyHash ∧ OnlyRegs s t [A.NVC_STAGE_GO, A.NVC_STAGE_RESULT])) ∧
    (s.flag F.NVC_STAGE_GO_GO = true → ∀ c ∈ [Instr.stageTargetWrite src data, .stageClear src, .stageDataWrite src data],
      ∃ t, exec c s = .next t ∧ t.stage = s.stage ∧ causeSet t 0x01 31 = true ∧ OnlyRegs s t [0x01010, 0x0101C, 0x01020])

/-- STAGE_OP_DONE (R176, R177, R181). -/
def Obligations.StagedOperationEndsWithItsReason : Prop :=
  ∀ (s : State) (op : StageOp) (writeOk : Bool), s.answers = true → s.stage.op = some op → op.target = 0 ∨ op.target = 2 →
    s.bus.goPending.contains (A.NVC_STAGE_GO * 32) = false →
    ∃ t, exec (.stageOpDone writeOk) s = .next t ∧ t.stage = { s.stage with op := none } ∧ t.flag F.NVC_STAGE_GO_GO = false ∧
      t.reg A.NVC_STAGE_RESULT = BitVec.ofNat 32 (2 ^ 31 +
        256 * (if op.reason ≠ 0 then op.reason else if writeOk then 0 else 0xB) + op.copy) ∧
      lastEvent t 0x01 0x0504 ∧ causeSet t 0x01 (if op.reason = 0 ∧ writeOk = true then 0 else 1) = true ∧
      (op.reason ≠ 0 → t.nv = s.nv) ∧
      (op.reason = 0 → op.target = 0 → t.nv = if writeOk then (setCopy s op.copy (stagedBytes op.words)).nv else s.nv) ∧
      (op.reason = 0 → op.target = 2 → writeOk = true →
        t.nv = { s.nv with keyHash := if s.nv.keyHash = .blank then .programmed (stagedBytes op.words) else s.nv.keyHash }) ∧
      OnlyRegs s t [A.NVC_STAGE_GO, A.NVC_STAGE_RESULT, 0x01010, 0x0101C, 0x01020] ∧ SameMemory s t

/-- PERST_N_ASSERT, PERST_N_RELEASE, FUNCTION_LEVEL_RESET (R81). -/
def Obligations.HostResetsLeaveTheRest : Prop :=
  ∀ s : State, s.answers = true →
    (∀ c ∈ [Instr.perstNAssert, .functionLevelReset], ∃ t, exec c s = .next t ∧
      (∀ k, k < 4 → ringState t k = 0 ∧ t.reg (A.CMD_RING_SQ_TAIL k) = 0#32 ∧ t.reg (A.CMD_RING_CQ_TAIL k) = 0#32) ∧
      (∀ k, k < 8 → t.fld (F.FAB_HRX_STATUS_STATE k) = 0 ∧ t.reg (A.FAB_HRX_TAIL k) = 0#32) ∧ t.log.evrOn = false ∧
      t.host.busMaster = false ∧ t.host.msixEnable = false ∧ causeSet t 0x04 1 = true ∧
      t.dev = s.dev ∧ t.dram = s.dram ∧ t.lanes = s.lanes ∧ t.mac = s.mac ∧ t.cad = s.cad ∧ t.sec = s.sec ∧ t.nv = s.nv ∧
      t.log.queue = s.log.queue ∧ t.devState = s.devState) ∧
    (∃ t, exec .perstNAssert s = .next t ∧ t.host.perstLow = true ∧ t.flag F.HIF_STATUS_LINK_UP = false ∧
      t.fld F.HIF_STATUS_SPEED = 0 ∧ t.fld F.HIF_STATUS_WIDTH = 0 ∧ t.flag F.SYS_CLK_STATUS_PCIE_PLL = false) ∧
    (∃ t, exec .perstNRelease s = .next t ∧ t.host = { s.host with perstLow := false } ∧
      (s.pow.refLost.contains 2 = false → t.flag F.SYS_CLK_STATUS_PCIE_PLL = true) ∧ OnlyRegs s t [A.SYS_CLK_STATUS] ∧
      t = { s with regs := t.regs, host := t.host })

/-- BUS_MASTER_ENABLE_WRITE and configuration space (R79, R752), PCIE_LINK_CHANGE (R79), POISONED_WRITE (R82), PER_VECTOR_MASK_WRITE with
BAR2 (R80, R111), VEC_REARM_WRITE (R111, R112). -/
def Obligations.LinkBusMasterAndVectorsOfTheHost : Prop :=
  ∀ s : State, s.answers = true →
    (∀ bm mx ix, ∃ t, exec (.busMasterEnableWrite (.control bm) mx ix) s = .next t ∧ t.host.busMaster = bm ∧
      t.host.msixEnable = mx ∧ t.host.intxDisable = ix ∧ t = { s with host := t.host, out := t.out, rings := t.rings }) ∧
    (∀ big (shift : Fin 3) d3 l1 mx ix,
      exec (.busMasterEnableWrite (.sizes big shift) mx ix) s = .next { s with host := { s.host with cfg := { s.host.cfg with
        maxPayload := (if big then 256 else 128), maxRead := 128 * 2 ^ shift.val } } } ∧
      exec (.busMasterEnableWrite (.power d3 l1) mx ix) s =
        .next { s with host := { s.host with cfg := { s.host.cfg with d3hot := d3, aspmL1 := l1 } } } ∧
      exec (.busMasterEnableWrite .read mx ix) s = .next (s.send
        (.config 0x1FB4 0x8840 0xB1 0x028000 s.host.busMaster s.host.msixEnable s.host.intxDisable s.host.cfg
          ((List.range 6).map (barWord s))))) ∧
    (∀ (n : Fin 6) data bits mx ix,
      (∃ t, exec (.busMasterEnableWrite (.bar n data) mx ix) s = .next t ∧ t = { s with host := t.host } ∧
        barWord t n.val = (if n.val = 0 then (data &&& 0xFFC00000#32) ||| 4#32 else if n.val = 2 then (data &&& 0xFFFFC000#32) ||| 4#32
          else if n.val < 4 then data else 0#32) ∧ (∀ m, m ≠ n.val → barWord t m = barWord s m)) ∧
      exec (.busMasterEnableWrite (.aerClear bits) mx ix) s =
        .next { s with host := { s.host with cfg := { s.host.cfg with aer := s.host.cfg.aer &&& ~~~bits } } }) ∧
    (∀ up (speed : Fin 8) (width : Fin 4), s.host.perstLow = false → ∃ t, exec (.pcieLinkChange up speed width) s = .next t ∧
      t.flag F.HIF_STATUS_LINK_UP = up ∧ t.fld F.HIF_STATUS_SPEED = (if up then speed.val else 0) ∧
      t.fld F.HIF_STATUS_WIDTH = (if up then width.val else 0) ∧
      (t.reg A.HIF_STATUS ≠ s.reg A.HIF_STATUS → causeSet t 0x04 0 = true) ∧ OnlyRegs s t [A.HIF_STATUS, 0x04010] ∧
      t = { s with regs := t.regs, host := t.host, out := t.out }) ∧
    (∀ addr, ∃ t, exec (.poisonedWrite addr) s = .next t ∧ causeSet t 0x04 31 = true ∧ bit t.host.cfg.aer.toNat 12 = true ∧
      errCaptured s t 0x04 0x80 0x01 (wordAddr addr) ∧
      OnlyRegs s t [0x04010, 0x0401C, 0x04020] ∧ t = { s with regs := t.regs, host := t.host, out := t.out }) ∧
    (∀ (off : Fin 0x4000) (data : Word) masked,
      exec (.perVectorMaskWrite (.read off) masked) s = .next (s.send (.bar2 off.val (bar2Word s off.val))) ∧
      (0x200 ≤ off.val → exec (.perVectorMaskWrite (.write off data) masked) s = .next s) ∧
      (off.val < 0x200 → off.val / 4 % 4 ≠ 3 → ∃ t, exec (.perVectorMaskWrite (.write off data) masked) s = .next t ∧
        bar2Word t off.val = data ∧ t = { s with host := { s.host with vecTable := t.host.vecTable } })) ∧
    (∀ v : Fin 32, (∃ t, exec (.perVectorMaskWrite (.mask v) true) s = .next t ∧ bit t.host.vecMask v.val = true ∧
        t = { s with host := { s.host with vecMask := t.host.vecMask } }) ∧
      (∃ t, exec (.perVectorMaskWrite (.mask v) false) s = .next t ∧ bit t.host.vecMask v.val = false ∧
        (s.host.msixEnable = true → s.host.busMaster = true → bit s.host.vecDue v.val = true → bit s.host.disarmed v.val = false →
          Out.msix v.val ∈ t.out.drop s.out.length) ∧ t = { s with host := t.host, out := t.out })) ∧
    (∀ (src : Requester) (data : Word), s.inOperation = true →
      (s.host.msixEnable = false → exec (.vecRearmWrite src data) s = .next s) ∧
      (s.host.msixEnable = true → (activeVectors s).contains (data.toNat % 32) = false → ∃ t, exec (.vecRearmWrite src data) s = .next t ∧
        bit t.host.disarmed (data.toNat % 32) = false ∧ t = { s with host := { s.host with disarmed := t.host.disarmed } }) ∧
      (s.host.msixEnable = true → (activeVectors s).contains (data.toNat % 32) = true → s.host.busMaster = true →
        bit s.host.vecMask (data.toNat % 32) = false → ∃ t, exec (.vecRearmWrite src data) s = .next t ∧
        t.out = s.out ++ [.msix (data.toNat % 32)] ∧ bit t.host.disarmed (data.toNat % 32) = true ∧ t.regs = s.regs))

/-- SPI_WRITE, SPI_READ, SPI_WRITE_INC, SPI_READ_INC, SPI_MALFORMED_FRAME (R84–R88). -/
def Obligations.SpiFramesReadAndWriteRegisters : Prop :=
  ∀ (s : State) (w0 w1 : Word), s.inOperation = true → s.fld F.HIF_CTRL_HOST_IF ≠ 0 →
    (∃ t st, exec (.spiWrite 0x1E07C w0) s = .next t ∧ t.reg A.CAD_FOREIGN = w0 ∧ OnlyRegs s t [A.CAD_FOREIGN] ∧
      t.out = s.out ++ [.spi [st]] ∧ bit st.toNat 0 = false ∧ bit st.toNat 2 = s.host.spiPrevBad ∧ t.host.spiPrevBad = false ∧ SameMemory s t) ∧
    (∃ t st, exec (.spiRead 0x1E07C) s = .next t ∧ t.out = s.out ++ [.spi (st :: beBytes 4 (s.reg A.CAD_FOREIGN).toNat)] ∧
      bit st.toNat 0 = false ∧ bit st.toNat 2 = s.host.spiPrevBad ∧ t.regs = s.regs ∧ SameMemory s t) ∧
    (∃ t st, exec (.spiWriteInc 0x1E07C [w0, w1]) s = .next t ∧ t.reg A.CAD_FOREIGN = w0 ∧ t.reg A.CAD_RELAY_DROPS = w1 ∧
      OnlyRegs s t [A.CAD_FOREIGN, A.CAD_RELAY_DROPS] ∧ t.out = s.out ++ [.spi [st]] ∧ bit st.toNat 0 = false) ∧
    (∃ t st, exec (.spiReadInc 0x1E07C 2) s = .next t ∧ t.regs = s.regs ∧
      t.out = s.out ++ [.spi (st :: beBytes 4 (s.reg A.CAD_FOREIGN).toNat ++ beBytes 4 (s.reg A.CAD_RELAY_DROPS).toNat)]) ∧
    (∃ t, exec (.spiMalformedFrame 0x1E07C .writeInc [w0]) s = .next t ∧ t.reg A.CAD_FOREIGN = w0 ∧ causeSet t 0x04 31 = true ∧
      t.host.spiPrevBad = true ∧ OnlyRegs s t [A.CAD_FOREIGN, 0x04010, 0x0401C, 0x04020]) ∧
    (∀ f ∈ [SpiFault.write, .writeInc, .read false, .readInc 0, .unknown], ∃ t, exec (.spiMalformedFrame 0x1E07C f []) s = .next t ∧
      causeSet t 0x04 31 = true ∧ errCaptured s t 0x04 0x82 Requester.spi.code 0x1E07C ∧ t.host.spiPrevBad = true ∧
      OnlyRegs s t [0x04010, 0x0401C, 0x04020] ∧ SameMemory s t) ∧
    (∀ addr, decodes s .spi (wordAddr addr) = false → ∃ t st, exec (.spiWrite addr w0) s = .next t ∧
      t.out.getLast? = some (.spi [st]) ∧ bit st.toNat 0 = true ∧ causeSet t 0x04 31 = true ∧ OnlyRegs s t [0x04010, 0x0401C, 0x04020])

/-- RING_ENABLE_WRITE, RING_RESET, RING_RESET_EFFECT, RING_STOPPING_END, RING_CONFIG_WRITE, SQ_TAIL_DOORBELL, CQ_HEAD_WRITE (R98–R104). -/
def Obligations.RingControlAndPointers : Prop :=
  ∀ (s : State) (src : Requester) (k : Fin 4) (data : Word), s.inOperation = true →
    (ringState s k = 0 → ringConfigOk s k = true → data.toNat % 4 = 1 → ∃ t, exec (.ringEnableWrite src k data) s = .next t ∧
      ringState t k = 1 ∧ SameMemory s t ∧ (∀ j, j < 4 → j ≠ k.val → ringState t j = ringState s j ∧ t.ring j = s.ring j)) ∧
    (ringState s k = 1 → data.toNat % 4 = 0 → ∃ t, exec (.ringEnableWrite src k data) s = .next t ∧ ringState t k = 2 ∧
      (t.ring k).fetched = [] ∧ (t.ring k).cmds = (s.ring k).cmds ∧ SameMemory s t) ∧
    (ringState s k = 0 → data.toNat % 2 = 0 → ∃ t, exec (.ringReset src k data) s = .next t ∧ ringState t k = 0 ∧
      t.reg (A.CMD_RING_SQ_TAIL k) = 0#32 ∧ t.reg (A.CMD_RING_SQ_HEAD k) = 0#32 ∧ t.reg (A.CMD_RING_CQ_HEAD k) = 0#32 ∧
      t.reg (A.CMD_RING_CQ_TAIL k) = 0#32 ∧ (t.ring k).sqPhase = true ∧ (t.ring k).cqPhase = true) ∧
    (ringState s k = 2 ∨ ringState s k = 3 → data.toNat % 2 = 1 → ∃ t, exec (.ringReset src k data) s = .next t ∧
      ringState t k = ringState s k ∧ (t.ring k).resetArmed = true ∧ (t.ring k).heldEnable = true ∧
      t.reg (A.CMD_RING_SQ_TAIL k) = s.reg (A.CMD_RING_SQ_TAIL k)) ∧
    (∀ addr : RegAddr, wordAddr addr = A.CMD_RING_SIZE k →
      (ringState s k ≠ 0 → ∃ t, exec (.ringConfigWrite src addr data) s = .next t ∧ t.reg (wordAddr addr) = s.reg (wordAddr addr) ∧
        causeSet t 0x05 31 = true ∧ OnlyRegs s t [0x05010, 0x0501C, 0x05020]) ∧
      (ringState s k = 0 → ∃ t, exec (.ringConfigWrite src addr data) s = .next t ∧
        t.fld (F.CMD_RING_SIZE_SQ_LOG2 k) = data.toNat % 16 ∧ t.fld (F.CMD_RING_SIZE_CQ_LOG2 k) = bitsOf data.toNat 16 4 ∧
        OnlyRegs s t [wordAddr addr] ∧ t = { s with regs := t.regs })) ∧
    (data.toNat % 2 ^ 12 < sqSize s k → ∃ t, exec (.sqTailDoorbell src k data) s = .next t ∧
      t.fld (F.CMD_RING_SQ_TAIL_TAIL k) = data.toNat % 2 ^ 12 ∧ OnlyRegs s t [A.CMD_RING_SQ_TAIL k] ∧ SameMemory s t) ∧
    (sqSize s k ≤ data.toNat % 2 ^ 12 → ∃ t, exec (.sqTailDoorbell src k data) s = .next t ∧ causeSet t 0x05 31 = true ∧
      OnlyRegs s t [0x05010, 0x0501C, 0x05020] ∧ t.rings = s.rings) ∧
    (data.toNat % 2 ^ 12 < cqSize s k → ∃ t, exec (.cqHeadWrite src k data) s = .next t ∧
      t.fld (F.CMD_RING_CQ_HEAD_HEAD k) = data.toNat % 2 ^ 12 ∧ OnlyRegs s t [A.CMD_RING_CQ_HEAD k] ∧ t = { s with regs := t.regs }) ∧
    ((s.ring k).resetArmed = true → ringState s k = 2 ∨ ringState s k = 3 → allDone (s.ring k) = true → (s.ring k).heldEnable = false →
      ∃ t, exec (.ringResetEffect k) s = .next t ∧ ringState t k = 0 ∧ (t.ring k).resetArmed = false ∧ (t.ring k).cmds = [] ∧
        (t.ring k).lost = mergeLost (s.ring k).lost (cmdRange (s.ring k).cmds) ∧ t.reg (A.CMD_RING_CQ_TAIL k) = 0#32) ∧
    (ringState s k = 2 → (s.ring k).cmds = [] → (s.ring k).heldEnable = false → ∃ t, exec (.ringStoppingEnd k) s = .next t ∧
      ringState t k = 0 ∧ SameMemory s t)

/-- DESC_FETCH_DONE, DESCRIPTOR_TAKE, CMD_DATA_READ_DONE, COMMAND_TIMEOUT (R82, R92, R96, R100, R122, R619). -/
def Obligations.DescriptorsBecomeCommands : Prop :=
  (∀ (s : State) (k : Fin 4) (f : Fetch), s.answers = true → ringState s k = 1 → (s.ring k).fetch = some f →
      (∀ ds, ds.length ≤ f.count → (∀ d ∈ ds, bit (fieldAt d 2 1) 0 = (s.ring k).sqPhase) →
        exec (.descFetchDone k (.data ds)) s = .next (readsGo (s.setRing k { s.ring k with fetch := none, fetched := ds }))) ∧
      (∃ t, exec (.descFetchDone k .failed) s = .next t ∧ ringState t k = 3 ∧ causeSet t 0x05 31 = true ∧ causeSet t 0x05 (8 + k) = true ∧
        errCaptured s t 0x05 0x81 0x00 (A.CMD_RING_CTRL k) ∧ (t.ring k).fetch = none ∧
        (t.ring k).cmds.map (fun c => (c.seq, c.desc, c.parts)) = (s.ring k).cmds.map (fun c => (c.seq, c.desc, c.parts)) ∧ SameMemory s t)) ∧
    (∀ (s : State) (k : Fin 4), s.answers = true → (s.ring k).staleFetches ≠ 0 →
      exec (.descFetchDone k (.stale false)) s =
        .next (readsGo (s.setRing k { s.ring k with staleFetches := (s.ring k).staleFetches - 1 })) ∧
      (∃ t, exec (.descFetchDone k (.stale true)) s = .next t ∧ causeSet t 0x05 31 = true ∧
        errCaptured s t 0x05 0x81 0x00 (A.CMD_RING_CTRL k) ∧ (ringState s k = 0 → ringState t k = 0) ∧ SameMemory s t)) ∧
    (∀ (s : State) (d : List Byte) (rest : List (List Byte)), takes s = true → (s.ring 4).fetched = d :: rest → (s.ring 4).cmds = [] →
      ∃ t c, exec .descriptorTake s = .next t ∧ (t.ring 4).fetched = rest ∧ (t.ring 4).cmds = [c] ∧ c.seq = (s.ring 4).mbxSeq ∧
        c.desc = d ∧ c.timeout = timeoutOf s d ∧ c.began = false ∧ c.done = (verdict s d).1.isSome ∧
        ((verdict s d).1.isSome = true → some c.parts = (verdict s d).1) ∧
        (t.ring 4).mbxSeq = ((s.ring 4).mbxSeq + 1) % 2 ^ 32 ∧ SameMemory s t) ∧
    (∀ (s : State) (id : CmdId) (c : Cmd), s.answers = true → findCmd s id = some c → c.done = false → c.lost = false →
      (c.asked = true → c.data = none → ∀ addr len, cmdData c.desc = some (addr, len) →
        (∀ bs, bs.length = len → ∃ t, exec (.cmdDataReadDone id (some bs)) s = .next t ∧
          findCmd t id = some { c with data := some bs } ∧ t = { s with rings := t.rings, out := t.out }) ∧
        (∃ t, exec (.cmdDataReadDone id none) s = .next t ∧ outcome t id = some (onePart 0x13 0 []) ∧ causeSet t 0x05 31 = true ∧
          SameMemory s t)) ∧
      (c.committed = false → startable s id = true → descOpcode c.desc ∉ [0x0005, 0x0006, 0x0104, 0x0105, 0x0106] →
        ∃ t, exec (.commandTimeout id) s = .next t ∧ outcome t id = some (onePart 0x40 0 []) ∧ t = { s with rings := t.rings }))

/-- COMPLETION_WRITE (R94–R98), MBX_SUBMIT, MBX_DESC_COPY (R107), MBX_CPL_POP (R108, R49), COAL_TIMER_EXPIRY (R113, R456). -/
def Obligations.CompletionsAreWrittenInOrder : Prop :=
  (∀ (s : State) (k : Fin 4) (c : Cmd) (p : Part) (ps : List Part), s.answers = true → ringState s k = 1 → recordRoom s k = true →
      (s.ring k).lost = none → (s.ring k).cmds.find? (fun c => !c.lost) = some c → c.done = true → c.parts.drop c.written = p :: ps →
      ∃ t more, exec (.completionWrite ⟨k.val, by omega⟩) s = .next t ∧
        t.out = s.out ++ [.dmaWrite (s.wide (A.CMD_RING_CQ_BASE k) + 32 * s.fld (F.CMD_RING_CQ_TAIL_TAIL k))
          (recordBytes c.seq (descTag c.desc) p.status (recordFlags (s.ring k).cqPhase (c.written + 1 != c.parts.length) false) c.written
            p.result0 p.result)] ++ more ∧
        t.fld (F.CMD_RING_CQ_TAIL_TAIL k) = nextIdx (s.fld (F.CMD_RING_CQ_TAIL_TAIL k)) (cqSize s k) % 2 ^ 12 ∧ SameMemory s t) ∧
    (∀ (s : State) (c : Cmd) (p : Part), s.answers = true → (s.ring 4).queue.length < 64 → (s.ring 4).lost = none →
      (s.ring 4).cmds = [c] → c.lost = false → c.done = true → c.parts = [p] → c.written = 0 →
      ∃ t, exec (.completionWrite 4) s = .next t ∧ (t.ring 4).cmds = [] ∧ (t.ring 4).queue.length = (s.ring 4).queue.length + 1 ∧
        (t.ring 4).lastSeq = some c.seq ∧ causeSet t 0x05 4 = true) ∧
    (∀ (s : State) (src : Requester) (data : Word), s.inOperation = true →
      (bit data.toNat 0 = false → exec (.mbxSubmit src data) s = .next s) ∧
      (bit data.toNat 0 = true → s.flag F.CMD_MBX_SUBMIT_GO = false → ∃ t, exec (.mbxSubmit src data) s = .next t ∧
        t.flag F.CMD_MBX_SUBMIT_GO = true ∧ OnlyRegs s t [A.CMD_MBX_SUBMIT] ∧ t = { s with regs := t.regs }) ∧
      (∀ r rest, (s.ring 4).queue = r :: rest → ∃ t, exec (.mbxCplPop src) s = .next t ∧
        t.out = s.out ++ [.readData src A.CMD_MBX_CPL (BitVec.ofNat 32 (2 ^ 31 + rest.length))] ∧
        (t.ring 4).queue = (if src = .jtag then r :: rest else rest) ∧ SameMemory s t)) ∧
    (∀ s : State, s.answers = true → s.flag F.CMD_MBX_SUBMIT_GO = true → (s.ring 4).queue.length < 64 → (s.ring 4).cmds = [] →
      (s.ring 4).fetched = [] → s.bus.goPending.contains (A.CMD_MBX_SUBMIT * 32) = false → ∃ t, exec .mbxDescCopy s = .next t ∧
      (t.ring 4).fetched = [mbxDescriptor s] ∧ t.flag F.CMD_MBX_SUBMIT_GO = false ∧ OnlyRegs s t [A.CMD_MBX_SUBMIT]) ∧
    (∀ (s : State) (k : Nat), s.answers = true →
      (∀ h : k < 4, (s.ring k).coalCount ≠ 0 → s.fld (F.CMD_RING_COAL_TIME_US k) ≠ 0 → ∃ t, exec (.coalTimerExpiry ⟨k, by omega⟩) s = .next t ∧
        causeSet t 0x05 k = true ∧ (t.ring k).coalCount = 0 ∧ OnlyRegs s t [0x05010]) ∧
      (∀ h : k < 8, hrxCount s k ≠ 0 → s.fld (F.FAB_HRX_COAL_TIME_US k) ≠ 0 → ∃ t, exec (.coalTimerExpiry ⟨5 + k, by omega⟩) s = .next t ∧
        causeSet t 0x20 (8 + k) = true ∧ hrxCount t k = 0 ∧ OnlyRegs s t [0x20010]))

/-- EVENT_RECORD_WRITE (R114–R119), EVR_BREAK_WRITE, EVR_HEAD_WRITE (R118), EVR_ENABLE_WRITE (R102, R117). -/
def Obligations.EventsAreRecordedAndCopied : Prop :=
  (∀ (s : State) (e : Event) (rest : List Event), storeUsable s = true → s.log.queue = e :: rest →
      ∃ t, exec .eventRecordWrite s = .next t ∧ t.log.queue = rest ∧ t.reg A.CMD_LOG_NEXT_SEQ = s.reg A.CMD_LOG_NEXT_SEQ + 1#32 ∧
        t.ramBytes (0x07200000 + 32 * ((s.reg A.CMD_LOG_NEXT_SEQ).toNat % 262144)) 32 =
          eventBytes e (s.reg A.CMD_LOG_NEXT_SEQ).toNat (Tbl.get (fun _ => 0) s.log.srcSeq (e.page * 256 + e.sub)) 0 ∧
        OnlyMemory s t (0x07200000 + 32 * ((s.reg A.CMD_LOG_NEXT_SEQ).toNat % 262144)) 32 ∧
        OnlyRegs s t [A.CMD_LOG_NEXT_SEQ, A.CMD_EVR_TAIL, 0x05010]) ∧
    (∀ (s : State) (f l : Nat), s.answers = true → s.log.evrOn = true → s.log.missed = some (f, l) → evrRoom s = true →
      ∃ t, exec .evrBreakWrite s = .next t ∧ t.log.missed = none ∧ t.log.lastBreak = some (f, l) ∧ causeSet t 0x05 6 = true ∧
        t.fld F.CMD_EVR_TAIL_TAIL = nextIdx (s.fld F.CMD_EVR_TAIL_TAIL) (evrSize s) % 2 ^ 15 ∧ OnlyRegs s t [A.CMD_EVR_TAIL, 0x05010] ∧
        SameMemory s t) ∧
    (∀ (s : State) (src : Requester) (data : Word), s.inOperation = true →
      (data.toNat % 2 ^ 15 < evrSize s → ∃ t, exec (.evrHeadWrite src data) s = .next t ∧
        t.fld F.CMD_EVR_HEAD_HEAD = data.toNat % 2 ^ 15 ∧ OnlyRegs s t [A.CMD_EVR_HEAD]) ∧
      (evrSize s ≤ data.toNat % 2 ^ 15 → ∃ t, exec (.evrHeadWrite src data) s = .next t ∧ causeSet t 0x05 31 = true ∧
        OnlyRegs s t [0x05010, 0x0501C, 0x05020] ∧ t.log = s.log) ∧
      (bit data.toNat 0 = false → ∃ t, exec (.evrEnableWrite src data) s = .next t ∧ t.log.evrOn = false ∧ SameMemory s t) ∧
      (bit data.toNat 0 = true → s.log.evrOn = false → s.host.busMaster = true → 6 ≤ bitsOf data.toNat 20 4 → bitsOf data.toNat 20 4 ≤ 15 →
        s.wide A.CMD_EVR_BASE % 32 = 0 → ∃ t, exec (.evrEnableWrite src data) s = .next t ∧ t.log.evrOn = true ∧
          t.fld F.CMD_EVR_CTRL_LOG2 = bitsOf data.toNat 20 4 ∧ SameMemory s t))

/-- BENCHMARK (R152, R154), MAINT_ENTER, MAINT_ENTER_DONE (R132), MAINT_EXIT (R133), WATCH_ENTER (R134), ROLE_SWAP (R136, R644). -/
def Obligations.DeviceCommandsChangeTheDeviceState : Prop :=
  (∀ (s : State) (id : CmdId) (c : Cmd), s.answers = true → mayStart s id 0x0001 c → ∃ t, exec (.benchmark id) s = .next t ∧
      outcome t id = some c.parts ∧ t = { s with rings := t.rings }) ∧
    (∀ (s : State) (id : CmdId) (c : Cmd), s.ready = true → holdUp s = false → s.pow.entry = none → mayStart s id 0x0002 c →
      ∃ t, exec (.maintEnter id) s = .next t ∧ t.devState = 3 ∧ t.dev.lastTrans = 0x06 ∧
        t.dev.maintLanes = (if s.mac.sfn.isSome then [0, 1, 2, 3] else []) ∧ underway t id ∧ SameMemory s t) ∧
    (∀ (s : State) (k : Fin 5) (c : Cmd), s.answers = true → s.devState = 3 → s.dev.maintLanes = [] →
      (s.ring k).cmds = [c] → (∀ j, j < 5 → j ≠ k.val → (s.ring j).cmds = []) → descOpcode c.desc = 0x0002 → c.began = true →
      c.done = false → c.lost = false → ∃ t, exec .maintEnterDone s = .next t ∧ outcome t ⟨k, c.seq⟩ = some (onePart 0x00 0 []) ∧
        t = { s with rings := t.rings }) ∧
    (∀ (s : State) (c : Cmd), s.inOperation = true → s.devState = 3 → (s.ring 4).cmds = [c] → mayStart s ⟨4, c.seq⟩ 0x0003 c →
      c.written = 0 → (s.ring 4).lost = none → (s.ring 4).queue.length < 64 →
      (s.dev.bistRan = false → ∃ t, exec (.maintExit ⟨4, c.seq⟩) s = .next t ∧ t.dev.lastTrans = 0x07 ∧ t.dev.maintLanes = [] ∧
        (t.ring 4).cmds = [] ∧ (t.ring 4).queue.length = (s.ring 4).queue.length + 1 ∧
        (s.flag F.AON_STATUS_MAINS_OK = true → t.devState = 2)) ∧
      (s.dev.bistRan = true → ∃ t, exec (.maintExit ⟨4, c.seq⟩) s = .next t ∧ t.dev.resetCode = 7 ∧ t.dev.inReset = false ∧
        t.dev.bistRan = false ∧ t.rings = [] ∧ ∀ a, t.ram a = 0#8)) ∧
    (∀ (s : State) (id : CmdId) (c : Cmd), s.ready = true → mayStart s id 0x0004 c → ∃ t, exec (.watchEnter id) s = .next t ∧
      t.pow.entry.map (fun e => e.commanded) = some true ∧ underway t id) ∧
    (∀ (s : State) (id : CmdId) (c : Cmd), s.ready = true → mayStart s id 0x0006 c →
      s.red.swap = none → ∃ t, exec (.roleSwap id) s = .next t ∧ t.red = { s.red with swap := some id } ∧ underway t id ∧
        t = { s with rings := t.rings, red := t.red })

/-- BIST_RUN, BIST_TEST_DONE (R712–R719), ENGINE_RESTART, ENGINE_RESTART_DONE (R9, R615, R623). -/
def Obligations.SelfTestsRunOneAfterAnother : Prop :=
  (∀ (s : State) (id : CmdId) (c : Cmd), s.inOperation = true → s.devState = 3 → s.bst.run = none → mayStart s id 0x0005 c →
      ∃ t, exec (.bistRun id) s = .next t ∧ (t.bst.run.map (fun r => (r.id, r.tests, r.failed))) = some (id, bistTests c.desc, 0) ∧
        t.flag F.BST_STATUS_RUNNING = true ∧ t.fld F.BST_STATUS_CURRENT = (bistTests c.desc).headD 0 % 256 ∧ t.dev.bistRan = true ∧
        (s.dev.bistRan = false → (∀ n, n < 15 → t.engine n = .stopped) ∧ t.flag F.BST_STATUS_RAN = true)) ∧
    (∀ (s : State) (r : BistRun) (n : Nat) (rest : List Nat) (misr : BitVec 64) (micros : Nat), s.answers = true → s.bst.run = some r →
      r.tests = n :: rest → ∃ t, exec (.bistTestDone misr micros) s = .next t ∧
        Tbl.get (fun _ => BistResult.none) t.bst.results n =
          { ran := true, pass := misr == Config.fusedMisr n, abandoned := false, micros := micros, misr := misr } ∧
        (rest = [] → t.bst.run = none ∧ t.flag F.BST_STATUS_RUNNING = false ∧ causeSet t 0x07 0 = true) ∧
        (rest ≠ [] → t.bst.run.map (fun x => x.tests) = some rest ∧ t.fld F.BST_STATUS_CURRENT = rest.headD 0 % 256 ∧
          t.bst.run.map (fun x => x.failed) = some (r.failed + b01 (misr != Config.fusedMisr n)))) ∧
    (∀ (s : State) (e : Fin 15) (ue : Bool) taken, restartable s e = true → 7 < e.val →
      ∃ t, exec (.engineRestart e ue taken) s = .next t ∧ t.engine e = .restarting ∧ lastEvent t (0x40 + e) 0x1210 ∧
        (∀ j, j ≠ e.val → t.engine j = s.engine j)) ∧
    (∀ (s : State) (n : Fin 4) (ue : Bool), restartable s (2 * n.val) = true →
      ∃ t, exec (.engineRestart ⟨2 * n.val, by omega⟩ ue []) s = .next t ∧ t.engine (2 * n.val) = .restarting ∧
        (t.lane n).rx = (s.lane n).rx.filter (fun f => f.check != .waiting) ∧ lastEvent t (0x40 + 2 * n.val) 0x1210) ∧
    (∀ (s : State) (n : Fin 4) (ue : Bool), restartable s (2 * n.val + 1) = true →
      ∃ t, exec (.engineRestart ⟨2 * n.val + 1, by omega⟩ ue []) s = .next t ∧ t.engine (2 * n.val + 1) = .restarting ∧
        (t.lane n).owed = [] ∧ (t.lane n).acked = [] ∧ lastEvent t (0x41 + 2 * n.val) 0x1210) ∧
    (∀ (s : State) (e : Fin 15), s.answers = true → s.engine e = .restarting →
      exec (.engineRestartDone e) s = .next (s.setEngine e .running))

/-- NODE_ADD (R137, R390), NODE_REMOVE (R391), NODE_READ (R139), DL_SEND (R140, R406), WAKE_SEND (R143), LANE_CAL (R144). -/
def Obligations.NodeCommandsKeepTheCadastre : Prop :=
  ∀ (s : State) (id : CmdId) (c : Cmd),
    (s.engaged = true → nodeTurn s c = true → holding s = false → mayStart s id 0x0101 c →
      (addFull s (fieldAt c.desc 24 1) = 0 → ∃ t, exec (.nodeAdd id) s = .next t ∧
        t.ramBytes (256 * freeParcelIndex s) 256 = newParcel s c.desc ∧ OnlyMemory s t (256 * freeParcelIndex s) 256 ∧
        outcome t id = some (onePart 0x00 0 (leBytes 4 (freeParcelIndex s))) ∧ t = { s with dram := t.dram, rings := t.rings }) ∧
      (addFull s (fieldAt c.desc 24 1) = 1 → ∃ t, exec (.nodeAdd id) s = .next t ∧
        outcome t id = some (onePart 0x12 0 [1#8]) ∧ t = { s with rings := t.rings })) ∧
    (s.engaged = true → nodeTurn s c = true → holding s = false → mayStart s id 0x0102 c → pInUse s (cmdParcel c) = true →
      pClass s (cmdParcel c) ≠ 2 → pRelayed s (cmdParcel c) = false → mbxCount s (cmdParcel c) = 0 → nodeEntries s (cmdParcel c) = [] →
      s.cad.dls.any (fun d => d.carries == some (cmdParcel c)) = false → pendingIn s (cmdParcel c) = none → ∃ t, exec (.nodeRemove id) s = .next t ∧
        (∀ i, i < 256 → t.ram (256 * cmdParcel c + i) = 0#8) ∧ OnlyMemory s t (256 * cmdParcel c) 256 ∧
        outcome t id = some (onePart 0x00 0 []) ∧ OnlyRegs s t []) ∧
    (s.engaged = true → nodeTurn s c = true → mayStart s id 0x0103 c → pInUse s (cmdParcel c) = true →
      ∃ t, exec (.nodeRead id) s = .next t ∧ outcome t id = some (nodeParts (s.ramBytes (256 * cmdParcel c) 256)) ∧
        t = { s with rings := t.rings }) ∧
    (∀ payload, s.ready = true → nodeTurn s c = true → holding s = false → mayStart s id 0x0104 c → pInUse s (cmdParcel c) = true →
      pRelayed s (cmdParcel c) = false → c.data = some payload → mbxCount s (cmdParcel c) < 8 → (dlEntry c.desc).mode1 = true →
      (takeCells s true (max 1 (ceilDiv payload.length 256))).1.length = max 1 (ceilDiv payload.length 256) → ∃ t, exec (.dlSend id) s = .next t ∧
        mbxCount t (cmdParcel c) = mbxCount s (cmdParcel c) + 1 ∧
        outcome t id = some (onePart 0x01 0 (leBytes 1 (mbxCount s (cmdParcel c)))) ∧ t.cad.dls.length = s.cad.dls.length + 1 ∧
        OnlyMemory s t (256 * cmdParcel c) 256) ∧
    (s.ready = true → mayStart s id 0x0105 c → (wakeOf s (fieldAt c.desc 21 1 % 4)).any (fun w => w.stage != 4) = false → ∃ t, exec (.wakeSend id) s = .next t ∧
      (wakeOf t (fieldAt c.desc 21 1 % 4)).map (fun w => (w.cmd, w.addr, w.code)) = some (some id, fieldAt c.desc 16 4, fieldAt c.desc 20 1) ∧
      underway t id ∧ t = { s with rings := t.rings, mac := t.mac }) ∧
    (s.engaged = true → mayStart s id 0x0106 c → (s.lane (fieldAt c.desc 16 1 % 4)).job = none →
      (laneState s (fieldAt c.desc 16 1 % 4) ≠ 0 → ∃ t, exec (.laneCal id) s = .next t ∧
        ((t.lane (fieldAt c.desc 16 1 % 4)).job.map (fun j => (j.id, j.next, j.remaining))) =
          some (id, fieldAt c.desc 18 2, fieldAt c.desc 20 2) ∧ underway t id ∧ OnlyRegs s t [A.LRF_CAL_PROGRESS (fieldAt c.desc 16 1 % 4)]) ∧
      (laneState s (fieldAt c.desc 16 1 % 4) = 0 → ∃ t, exec (.laneCal id) s = .next t ∧
        (outcome t id).map (fun ps => ps.map (fun p => p.status)) = some [0x50] ∧ t = { s with rings := t.rings }))

/-- FRAME_INJECT (R145), QUEUE_FLUSH (R463), QUEUE_BREAK_ACK (R147). -/
def Obligations.QueueCommandsComplete : Prop :=
  ∀ (s : State) (id : CmdId) (c : Cmd), s.engaged = true →
    (∀ bytes, mayStart s id 0x0201 c → c.data = some bytes →
      ((s.queue (fieldAt c.desc 16 2 % 4096)).admits = false → ∃ t, exec (.frameInject id) s = .next t ∧
        outcome t id = some (onePart 0x12 0 []) ∧
        (t.queue (fieldAt c.desc 16 2 % 4096)).drops = satAdd 32 (s.queue (fieldAt c.desc 16 2 % 4096)).drops 1 ∧
        (t.queue (fieldAt c.desc 16 2 % 4096)).items = (s.queue (fieldAt c.desc 16 2 % 4096)).items) ∧
      ((s.queue (fieldAt c.desc 16 2 % 4096)).admits = true → (s.queue (fieldAt c.desc 16 2 % 4096)).breakPending = none →
        (takeDesc s).any (fun d => (takeCells d.2 false (ceilDiv bytes.length 256)).1.length == ceilDiv bytes.length 256) = true → ∃ t, exec (.frameInject id) s = .next t ∧
        (t.queue (fieldAt c.desc 16 2 % 4096)).items.length = (s.queue (fieldAt c.desc 16 2 % 4096)).items.length + 1 ∧
        ((t.queue (fieldAt c.desc 16 2 % 4096)).items.getLast?.map (fun i => i.bytes)) = some bytes ∧
        outcome t id = some (onePart 0x00 0 (leBytes 4 (t.queue (fieldAt c.desc 16 2 % 4096)).depthNow)) ∧
        ((s.queue (fieldAt c.desc 16 2 % 4096)).producing = [] → (t.queue (fieldAt c.desc 16 2 % 4096)).depthNow =
          (s.queue (fieldAt c.desc 16 2 % 4096)).depthNow + 1) ∧ SameMemory s t)) ∧
    (mayStart s id 0x0202 c → ∃ t, exec (.queueFlush id) s = .next t ∧
      (∀ i ∈ (t.queue (fieldAt c.desc 16 2 % 4096)).items, i.isBreak = true ∨ i.begun = true) ∧
      (t.queue (fieldAt c.desc 16 2 % 4096)).producing = [] ∧
      outcome t id = some (onePart 0x00 0 (leBytes 4
        (((s.queue (fieldAt c.desc 16 2 % 4096)).items.filter (fun i => !i.isBreak && !i.begun)).length +
          (s.queue (fieldAt c.desc 16 2 % 4096)).producing.length)))) ∧
    (mayStart s id 0x0203 c → bit (fieldAt c.desc 18 1) 0 = false →
      ((s.queue (fieldAt c.desc 16 2 % 4096)).state ≠ 2 → ∃ t, exec (.queueBreakAck id) s = .next t ∧
        outcome t id = some (onePart 0x00 0 []) ∧ t = { s with rings := t.rings }) ∧
      (∀ m rest, (s.queue (fieldAt c.desc 16 2 % 4096)).state = 2 → (s.queue (fieldAt c.desc 16 2 % 4096)).items = m :: rest →
        ∃ t, exec (.queueBreakAck id) s = .next t ∧
          outcome t id = some (onePart 0x00 0 (leBytes 4 1 ++ leBytes 4 m.first ++ leBytes 4 m.last))))

/-- KEY_STORE_LOAD (R563), KEY_SWEEP, KEY_WORKING_RELOAD (R564), SLOT_SEL_WRITE (R553). -/
def Obligations.KeySlotsLoadAndSweep : Prop :=
  (∀ (s : State) (damaged : List (Fin 512 × Bool)), s.booting = true → s.boot.keysLoaded = false →
      ∃ t, exec (.keyStoreLoad damaged) s = .next t ∧ t.boot.keysLoaded = true ∧ t.flag F.KSU_STATUS_READY = true ∧
        t.flag F.KSU_STATUS_MASK_OK = t.mask.isSome ∧ t.sec.roots = s.sec.roots) ∧
    (∀ (s : State) (c : Instr) (n : Nat), s.operating = true →
      (c = .keySweep true ∧ n = s.sec.sweepNext ∧ s.flag F.KSU_CTRL_SWEEP_EN = true ∧ s.flag F.KSU_STATUS_READY = true) ∨
        (∃ k : Fin 512, c = .keyWorkingReload k true ∧ n = k.val) →
      (s.slot n).state = 1 → (s.slot n).a.commit = 0xC3A5 → isZot (s.slot n).a.attr = false → (s.slot n).b.commit ≠ 0xC3A5 →
      ∃ t, exec c s = .next t ∧ (t.slot n).state = 2 ∧ (t.slot n).key = [] ∧ (t.slot n).a = (s.slot n).a ∧ (t.slot n).b = (s.slot n).b ∧
        causeSet t 0x28 1 = true ∧ t.fld F.KSU_TAG_FAILS_COUNT = satAdd 32 (s.fld F.KSU_TAG_FAILS_COUNT) 1 ∧ SameMemory s t) ∧
    (∀ (s : State) (damaged : Bool), s.operating = true → s.flag F.KSU_CTRL_SWEEP_EN = true → s.flag F.KSU_STATUS_READY = true →
      (s.slot s.sec.sweepNext).state ≠ 1 → exec (.keySweep damaged) s =
        .next { s with sec := { s.sec with sweepNext := (s.sec.sweepNext + 1) % 512 } }) ∧
    (∀ (s : State) (src : Requester) (data : Word), s.inOperation = true → ∃ t, exec (.slotSelWrite src data) s = .next t ∧
      t.fld F.KSU_SLOT_SEL_SLOT = data.toNat % 512 ∧ t.fld F.KSU_SLOT_INFO_STATE = (s.slot (data.toNat % 512)).state % 4 ∧
      t.reg A.KSU_SLOT_EPOCH = BitVec.ofNat 32 (s.slot (data.toNat % 512)).epoch ∧
      OnlyRegs s t [A.KSU_SLOT_SEL, A.KSU_SLOT_INFO, A.KSU_SLOT_EPOCH, A.KSU_SLOT_KCV, A.KSU_SLOT_KCV_HI] ∧ t = { s with regs := t.regs })

/-- KEY_REPLACE (R148, R572), KEY_ZEROISE (R575). -/
def Obligations.KeysAreReplacedAndZeroised : Prop :=
  ∀ (s : State) (id : CmdId) (c : Cmd), s.operating = true → holding s = false →
    (∀ wrapped kek, findCmd s id = some c → descOpcode c.desc = 0x0301 → c.done = false → c.lost = false → startable s id = true →
      slotTurn s c = true → replaceOf s (krSlot c.desc) = none → c.data = some wrapped → (s.slot (krSlot c.desc)).epoch < krEpoch c.desc →
      isZot (krAttr c.desc) = false → slotKeyUse s (krKek c.desc) none 10 = some kek → (s.slot (krSlot c.desc)).state = 1 →
      match Config.unwrapKey kek (wrapped.take (krWlen c.desc)) with
      | none => ∃ t, exec (.keyReplace id true) s = .next t ∧ outcome t id = some (onePart 0x30 0 [2#8]) ∧ t = { s with rings := t.rings }
      | some key => ∃ t r, exec (.keyReplace id true) s = .next t ∧ (t.slot (krSlot c.desc)).state = 3 ∧
          (t.slot (krSlot c.desc)).key = (s.slot (krSlot c.desc)).key ∧ replaceOf t (krSlot c.desc) = some r ∧ r.phase = 1 ∧
          r.cmd = some id ∧ r.key = key.take (keyBytes (krAttr c.desc)) ∧ r.targetB = !(s.slot (krSlot c.desc)).liveB ∧
          ((t.slot (krSlot c.desc)).half r.targetB).commit = 0xFFFF ∧ ((t.slot (krSlot c.desc)).half r.targetB).epoch = krEpoch c.desc ∧
          (t.slot (krSlot c.desc)).half (!r.targetB) = (s.slot (krSlot c.desc)).half (!r.targetB)) ∧
    (∀ r readBack, findCmd s id = some c → descOpcode c.desc = 0x0301 → c.done = false → c.lost = false →
      replaceOf s (krSlot c.desc) = some r → r.cmd = some id →
      (r.phase = 1 → ∃ t, exec (.keyReplace id readBack) s = .next t ∧ ((t.slot r.slot).half r.targetB).commit = 0xC3A5 ∧
        (t.slot r.slot).key = r.key ∧ (t.slot r.slot).attr = r.attr ∧ (t.slot r.slot).liveB = r.targetB ∧
        replaceOf t r.slot = some { r with phase := 2 } ∧ t.fld F.KSU_COMMITS_COUNT = satAdd 32 (s.fld F.KSU_COMMITS_COUNT) 1) ∧
      (r.phase = 2 → ∃ t, exec (.keyReplace id readBack) s = .next t ∧ (t.slot r.slot).state = 1 ∧
        ((t.slot r.slot).half (!r.targetB)).commit ≠ 0xC3A5 ∧ (t.slot r.slot).half r.targetB = (s.slot r.slot).half r.targetB ∧
        replaceOf t r.slot = none ∧ causeSet t 0x28 0 = true ∧
        outcome t id = some (onePart 0x00 0 (leBytes 1 (b01 r.targetB) ++ leBytes 3 0 ++ leBytes 4 r.epoch)))) ∧
    (mayStart s id 0x0302 c → s.sec.repl = [] → bit (fieldAt c.desc 18 1) 0 = false →
      (s.slot (fieldAt c.desc 16 2)).state = 1 ∨ (s.slot (fieldAt c.desc 16 2)).state = 2 →
      ∃ t, exec (.keyZeroise id) s = .next t ∧ (t.slot (fieldAt c.desc 16 2)).state = 0 ∧ (t.slot (fieldAt c.desc 16 2)).key = [] ∧
        (∀ b, ((t.slot (fieldAt c.desc 16 2)).half b).ct = List.replicate 32 0#8 ∧
          ((t.slot (fieldAt c.desc 16 2)).half b).tag = List.replicate 8 0#8 ∧
          ((t.slot (fieldAt c.desc 16 2)).half b).epoch = ((s.slot (fieldAt c.desc 16 2)).half b).epoch ∧
          ((t.slot (fieldAt c.desc 16 2)).half b).commit ≠ 0xC3A5) ∧
        (∀ n, n ≠ fieldAt c.desc 16 2 → t.slot n = s.slot n) ∧ causeSet t 0x28 2 = true ∧
        (outcome t id).map (fun ps => ps.map (fun p => p.status)) = some [0x00])

/-- JOB_SHA256, JOB_ECDSA_VERIFY, JOB_ECDSA_SIGN, JOB_ID_PUB, JOB_KEY_AGREE, JOB_RANDOM, JOB_DATA_WRITE, JOB_DONE, JOB_RES_POP (R585–R587), GCM_REQUEST, GCM_SATURATED (R582, R583). -/
def Obligations.CryptoJobsStartAndEnd : Prop :=
  (∀ (s : State) (src : Requester) (c : Instr) (op : Nat), s.operating = true → s.flag F.CRY_JOB_CTRL_GO = false →
      (c, op) ∈ [(Instr.jobSha256 src, 1), (.jobEcdsaVerify src, 2), (.jobEcdsaSign src, 3), (.jobIdPub src, 4), (.jobKeyAgree src, 5),
        (.jobRandom src, 6)] →
      (s.flag F.CRY_CTRL_JOB_EN = true → ∃ t, exec c s = .next t ∧ t.flag F.CRY_JOB_CTRL_GO = true ∧ t.fld F.CRY_JOB_CTRL_OP = op ∧
        t.flag F.CRY_STATUS_JOB_BUSY = true ∧ t.sec.job = some { op := op, status := jobCheck s op, data := [] } ∧ SameMemory s t) ∧
      (s.flag F.CRY_CTRL_JOB_EN = false → ∃ t, exec c s = .next t ∧ t.sec.result = some { op := op, status := 0x07, bytes := [] } ∧
        t.sec.job = none ∧ t.flag F.CRY_JOB_CTRL_GO = false ∧ causeSet t 0x29 0 = true ∧
        t.fld F.CRY_JOBS_REFUSED_COUNT = satAdd 32 (s.fld F.CRY_JOBS_REFUSED_COUNT) 1)) ∧
    (∀ (s : State) (src : Requester) (data : Word) (j : Job), s.inOperation = true → s.sec.job = some j → j.op = 1 →
      exec (.jobDataWrite src data) s = .next { s with sec := { s.sec with
        job := some { j with data := (j.data ++ leBytes 4 data.toNat).take (s.fld F.CRY_JOB_LEN_BYTES) } } }) ∧
    (∀ (s : State) (readBack : Bool) (j : Job) (op st : Nat) (bytes : List Byte), s.operating = true → s.sec.job = some j →
      (j.status = some st ∧ op = j.op ∧ bytes = []) ∨ (j.status = none ∧ j.op = 1 ∧ j.data.length = s.fld F.CRY_JOB_LEN_BYTES ∧ op = 1 ∧
        st = 0 ∧ bytes = slice (Config.sha256 j.data) 0 32) →
      ∃ t, exec (.jobDone readBack) s = .next t ∧ t.sec.result = some { op := op, status := st, bytes := bytes } ∧ t.sec.job = none ∧
        t.flag F.CRY_JOB_CTRL_GO = false ∧ t.flag F.CRY_STATUS_JOB_BUSY = false ∧ causeSet t 0x29 0 = true ∧
        OnlyRegs s t [A.CRY_JOB_CTRL, A.CRY_STATUS, 0x29010]) ∧
    (∀ (s : State) (src : Requester) (r : JobResult), s.inOperation = true → s.sec.result = some r →
      ∃ t, exec (.jobResPop src) s = .next t ∧
        t.out = s.out ++ [.readData src A.CRY_JOB_RES (BitVec.ofNat 32 (2 ^ 31 + 256 * r.op + r.status))] ∧
        t.sec.result = (if src = .jtag then some r else none) ∧ OnlyRegs s t []) ∧
    (∀ (s : State) (ok : Bool) (rest : List Bool), s.operating = true → s.sec.gcm = ok :: rest →
      (∃ t, exec (.gcmRequest false) s = .next t ∧ t.sec.gcm = rest ∧ t.flag F.CRY_STATUS_GCM_BACKLOG = false ∧
        t.fld F.CRY_GCM_OPS_COUNT = satAdd 32 (s.fld F.CRY_GCM_OPS_COUNT) 1 ∧
        t.fld F.CRY_GCM_FAIL_COUNT = (if ok then s.fld F.CRY_GCM_FAIL_COUNT else satAdd 32 (s.fld F.CRY_GCM_FAIL_COUNT) 1)) ∧
      (∃ t, exec (.gcmRequest true) s = .next t ∧ t.sec = s.sec ∧ t.flag F.CRY_STATUS_GCM_BACKLOG = true)) ∧
    (∀ s : State, s.operating = true → s.flag F.CRY_STATUS_GCM_BACKLOG = true → ∃ t, exec .gcmSaturated s = .next t ∧
      causeSet t 0x29 1 = true ∧ OnlyRegs s t [0x29010])

/-- TRNG_STARTUP_DONE, TRNG_SEED_COLLECT, DRBG_RESEED_TIMER, TRNG_RESEED, TRNG_RAW_POP (R588–R591), TAMPER_DETECT (R579, R705), ZOT_OVERWRITE_DONE (R579). -/
def Obligations.RandomNumbersAndTamper : Prop :=
  ∀ s : State,
    (s.answers = true → s.sec.trng.testing = true →
      (∃ t, exec (.trngStartupDone true) s = .next t ∧ t.flag F.TRNG_STATUS_STARTUP_DONE = true ∧ t.flag F.TRNG_STATUS_FAILED = false ∧
        t.sec.trng.collecting = true ∧ t.boot.trngDone = true ∧ (s.flag F.TRNG_STATUS_FAILED = true → causeSet t 0x2A 1 = true)) ∧
      (∃ t, exec (.trngStartupDone false) s = .next t ∧ t.flag F.TRNG_STATUS_FAILED = true ∧ t.sec.trng.collecting = false ∧
        t.boot.trngDone = true ∧ causeSet t 0x2A 0 = true)) ∧
    (s.answers = true → s.sec.trng.collecting = true →
      (∃ t, exec (.trngSeedCollect 0) s = .next t ∧ t.flag F.TRNG_STATUS_SEEDED = true ∧
        t.sec.trng = { s.sec.trng with fails := 0, collecting := false, requests := 0 }) ∧
      (∀ r : Fin 3, r ≠ 0 → ∃ t, exec (.trngSeedCollect r) s = .next t ∧ t.sec.trng.fails = s.sec.trng.fails + 1 ∧
        t.fld (if r = 1 then F.TRNG_RCT_FAILS_COUNT else F.TRNG_APT_FAILS_COUNT) =
          satAdd 32 (s.fld (if r = 1 then F.TRNG_RCT_FAILS_COUNT else F.TRNG_APT_FAILS_COUNT)) 1 ∧
        (2 ≤ s.sec.trng.fails → t.flag F.TRNG_STATUS_FAILED = true ∧ causeSet t 0x2A 0 = true ∧ t.sec.trng.collecting = false) ∧
        (s.sec.trng.fails < 2 → t.flag F.TRNG_STATUS_FAILED = s.flag F.TRNG_STATUS_FAILED ∧ t.sec.trng.collecting = true))) ∧
    (s.answers = true → trngFailed s = false → s.flag F.TRNG_STATUS_SEEDED = true → exec .drbgReseedTimer s =
      .next { s with sec := { s.sec with trng := { s.sec.trng with collecting := true } } }) ∧
    (∀ src, s.inOperation = true → (∃ t, exec (.trngReseed src) s = .next t ∧ t.flag F.TRNG_CTRL_RESEED = true ∧ t.sec.trng.testing = true ∧
        OnlyRegs s t [A.TRNG_CTRL]) ∧
      (∃ t, exec (.trngRawPop src) s = .next t ∧ t.out = s.out ++ [.readData src A.TRNG_RAW (rawWord s)] ∧
        (s.devState = 2 → rawWord s = BitVec.ofNat 32 s.sec.trng.rawLast) ∧ OnlyRegs s t [])) ∧
    (∀ n : Fin 6, s.inOperation = true →
      (tamperEnabled s (if n.val < 3 then n.val + 1 else 4) (n.val - 2) = true → ∃ t, exec (.tamperDetect n) s = .next t ∧ t.devState = 4 ∧
        t.dev.secureLatch = true ∧ t.mask = none ∧ t.sec.gcm = [] ∧ t.sec.zotDue = true ∧ causeSet t 0x02 0 = true ∧
        t.fld F.AON_TAMPERS_COUNT = satAdd 32 (s.fld F.AON_TAMPERS_COUNT) 1) ∧
      (tamperEnabled s (if n.val < 3 then n.val + 1 else 4) (n.val - 2) = false → ∃ t, exec (.tamperDetect n) s = .next t ∧
        OnlyRegs s t [A.AON_STATUS] ∧ t = { s with regs := t.regs })) ∧
    (s.answers = true → s.sec.zotDue = true → ∃ t, exec .zotOverwriteDone s = .next t ∧ t.sec.zotDue = false ∧ causeSet t 0x28 4 = true ∧
      ∀ n b, isZot ((s.slot n).half b).attr = true → ((s.slot n).half b).commit ≠ 0x3C5A →
        ((t.slot n).half b).ct = List.replicate 32 0#8 ∧ ((t.slot n).half b).tag = List.replicate 8 0#8)

/-- SCRUB_READ, SCRUB_LATE (R598–R602), SRAM_SWEEP (R603), the reports (R608–R610), the lost record of the event store (R605), ERR_LOG_POP (R65). -/
def Obligations.MemoryErrorsAreCountedAndReported : Prop :=
  (∀ (s : State) desc, scrubReady s = true →
      (s.fld F.MEM_SCRUB_POS_CODEWORD + 1 < 8388608 → ∃ t, exec (.scrubRead none .clean desc) s = .next t ∧
        t.fld F.MEM_SCRUB_POS_CODEWORD = s.fld F.MEM_SCRUB_POS_CODEWORD + 1 ∧ OnlyRegs s t [A.MEM_SCRUB_POS] ∧ t = { s with regs := t.regs }) ∧
      (s.fld F.MEM_SCRUB_POS_CODEWORD + 1 = 8388608 → ∃ t, exec (.scrubRead none .clean desc) s = .next t ∧
        t.fld F.MEM_SCRUB_POS_CODEWORD = 0 ∧ t.fld F.MEM_SCRUB_PASSES_COUNT = satAdd 32 (s.fld F.MEM_SCRUB_PASSES_COUNT) 1 ∧
        t.reg A.MEM_SCRUB_LAST_S = BitVec.ofNat 32 s.now.sec ∧ t.flag F.MEM_STATUS_SCRUB_LATE = false ∧ causeSet t 0x30 4 = true ∧
        lastEvent t 0x30 0x1207 ∧ t.mem.target = 0 ∧ SameMemory s t)) ∧
    (∀ (s : State) (cw : Fin 8388608) (merge : Bool) (symbol : Fin 36) (syndrome : Nat) (bytes : List Byte) desc,
      (s.booting || s.inOperation) = true → s.boot.dramReady = true →
      (∃ t, exec (.scrubRead (some (cw, merge)) (.ce symbol syndrome) desc) s = .next t ∧
        t.fld F.MEM_DRAM_CE_COUNT = satAdd 32 (s.fld F.MEM_DRAM_CE_COUNT) 1 ∧
        t.fld (F.MEM_REGION_CE_COUNT (dramRegion (16 * cw.val))) = satAdd 32 (s.fld (F.MEM_REGION_CE_COUNT (dramRegion (16 * cw.val)))) 1 ∧
        SameMemory s t ∧ (ceReported s (dramRegion (16 * cw.val)) = true → causeSet t 0x30 0 = true ∧ lastEvent t 0x30 0x1200 ∧
          (s.mem.errLog.length < 32 → t.mem.errLog.length = s.mem.errLog.length + 1))) ∧
      (∃ t, exec (.scrubRead (some (cw, merge)) (.miscorrected symbol syndrome bytes) desc) s = .next t ∧
        t.ramBytes (16 * cw.val) 16 = slice bytes 0 16 ∧ OnlyMemory s t (16 * cw.val) 16) ∧
      (dramRegion (16 * cw.val) = 5 → ∃ t, exec (.scrubRead (some (cw, merge)) (.ue syndrome) desc) s = .next t ∧
        t.fld F.MEM_DRAM_UE_COUNT = satAdd 32 (s.fld F.MEM_DRAM_UE_COUNT) 1 ∧ causeSet t 0x30 1 = true ∧ causeSet t 0x30 31 = true ∧
        lastEvent t 0x30 0x1201 ∧ (16 * cw.val - logBase) / 32 ∈ t.mem.lostLog ∧ SameMemory s t)) ∧
    (∀ s : State, (s.booting || s.inOperation) = true → s.flag F.MEM_STATUS_SCRUB_RUN = true → s.flag F.MEM_STATUS_SCRUB_LATE = false →
      ∃ t, exec .scrubLate s = .next t ∧ t.flag F.MEM_STATUS_SCRUB_LATE = true ∧ causeSet t 0x30 5 = true ∧ lastEvent t 0x30 0x1208 ∧
        SameMemory s t ∧ t.mem = s.mem) ∧
    (∀ (s : State) (addr : Word) (unit : SramUnit) (demand : Bool), (s.booting || s.inOperation) = true →
      sramHolds addr.toNat unit = true → (demand || (s.flag F.MEM_CTRL_SWEEP_EN && coxMayStart s 20)) = true →
      (∀ (b : Fin 72) (syndrome : BitVec 8), ∃ t, exec (.sramSweep addr unit demand (.ce b syndrome)) s = .next t ∧
        t.fld F.MEM_SRAM_CE_COUNT = satAdd 32 (s.fld F.MEM_SRAM_CE_COUNT) 1 ∧ SameMemory s t ∧
        (ceReported s (sramRegion unit) = true → causeSet t 0x30 2 = true ∧ lastEvent t 0x30 0x1202)) ∧
      (∀ (k : Fin 512) (syndrome : BitVec 8), unit = .keyEntry k → ∃ t, exec (.sramSweep addr unit demand (.ue syndrome)) s = .next t ∧
        t.fld F.MEM_SRAM_UE_COUNT = satAdd 32 (s.fld F.MEM_SRAM_UE_COUNT) 1 ∧ causeSet t 0x30 3 = true ∧ causeSet t 0x30 31 = true ∧
        lastEvent t 0x30 0x1203 ∧ SameMemory s t) ∧
      (∀ (n : Fin 16) (syndrome : BitVec 8), unit = .engine n → s.engine n = .running → ∃ t,
        exec (.sramSweep addr unit demand (.ue syndrome)) s = .next t ∧ t.engine n = .failed ∧ lastEvent t 0x30 0x1203 ∧ SameMemory s t)) ∧
    (∀ (s : State) (src : Requester) (r : ErrRecord) (rest : List ErrRecord), s.inOperation = true → s.mem.errLog = r :: rest →
      ∃ t, exec (.errLogPop src) s = .next t ∧ t.out = s.out ++ [.readData src A.MEM_ERR_LOG ((r.words rest.length).headD 0#32)] ∧
        t.mem.errLog = (if src = .jtag then r :: rest else rest) ∧ OnlyRegs s t [] ∧ SameMemory s t)

/-- The mirror link (R630–R637) and the decision without a partner (R625). A frame with an item other than PARCEL_DELTA is not in the clause on the next MSEQ. -/
def Obligations.TheMirrorLinkCarriesItems : Prop :=
  (∀ (s : State) (mseq ack : BitVec 32) (items : List MirrorItem) (rtt : BitVec 16), pairs s = true → link s ≠ 0 → s.red.held = [] →
      (items.all (fun i => i == .heartbeat) = true → ∃ t, exec (.mirrorFrameRx true mseq ack items rtt) s = .next t ∧
        t.fld F.RED_LINK_RTT_NS_NS = rtt.toNat ∧ t.red = { s.red with unacked := s.red.unacked.filter (fun f => !notAfter f.1 ack.toNat) } ∧
        OnlyRegs s t [A.RED_LINK_RTT_NS] ∧ t = { s with regs := t.regs, red := t.red }) ∧
      (∀ (p first : Nat) (bytes : List Byte), items = [.parcelDelta p first bytes] → mseq.toNat = (s.red.rxLast + 1) % 2 ^ 32 → asBow s = true →
        2 ≤ link s → p < parcelCount → first + bytes.length ≤ 256 → ∃ t, exec (.mirrorFrameRx true mseq ack items rtt) s = .next t ∧
        t.red.rxLast = mseq.toNat ∧ t.ramBytes (256 * p + first) bytes.length = bytes ∧ OnlyMemory s t (256 * p + first) bytes.length ∧
        t.fld F.RED_ITEMS_RX_COUNT = satAdd 32 (s.fld F.RED_ITEMS_RX_COUNT) 1 ∧
        t.out = s.out ++ [.mirror s.red.txNext mseq.toNat [.heartbeat]]) ∧
      (items.all (fun i => i == .heartbeat) = false → link s ≠ 1 → mseq.toNat ≠ (s.red.rxLast + 1) % 2 ^ 32 →
        ∃ t, exec (.mirrorFrameRx true mseq ack items rtt) s = .next t ∧ t.red.rxLast = s.red.rxLast ∧ SameMemory s t ∧
          t.out = s.out ++ [.mirror s.red.txNext s.red.rxLast [.heartbeat]] ∧ OnlyRegs s t [A.RED_LINK_RTT_NS])) ∧
    (∀ s : State, pairs s = true → link s ≠ 0 → ∃ t, exec .mirrorRetransmit s = .next t ∧
      t.out = s.out ++ s.red.unacked.map (fun f => .mirror f.1 s.red.rxLast f.2) ∧
      t.fld F.RED_RETRANS_COUNT = satAdd 32 (s.fld F.RED_RETRANS_COUNT) s.red.unacked.length ∧ OnlyRegs s t [A.RED_RETRANS] ∧
      t = { s with regs := t.regs, out := t.out }) ∧
    (∀ s : State, s.operating = true → s.red.en = true → link s ≠ 0 → ∃ t, exec .mirrorLinkTimeout s = .next t ∧ link t = 0 ∧
      t.fld F.RED_LINK_DOWNS_COUNT = satAdd 32 (s.fld F.RED_LINK_DOWNS_COUNT) 1 ∧ causeSet t 0x31 1 = true ∧
      (link s = 3 → role s = 1 → t.flag F.RED_STATUS_HOLD = true)) ∧
    (∀ s : State, pairs s = true → link s ≠ 0 → (role s ≠ 1 ∨ link s ≠ 3) →
      exec .mirrorHeartbeat s = .next (s.send (.mirror s.red.txNext s.red.rxLast [.heartbeat]))) ∧
    (∀ s : State, pairs s = true → link s = 2 → ∃ t, exec .mirrorSyncDone s = .next t ∧ link t = 3 ∧
      t.fld F.RED_SYNC_PROGRESS_PCT = 100 ∧ t.red.wasPaired = true ∧ causeSet t 0x31 1 = true ∧ lastEvent t 0x31 0x1301 ∧ SameMemory s t ∧
      (role s = 2 → t.flag F.RED_STATUS_FRESH = true) ∧
      (role s = 1 → t.red.image = s.dram.filter (fun c => mirrored c.1) ∧ ∃ sent, t.out = s.out ++ sent ∧
        bulkItems s <+: sent.flatMap (fun o => match o with
          | .mirror _ _ items => items
          | _ => []))) ∧
    (∀ (s : State) (p : Fin 262144), pairs s = true → s.red.held.any (fun h => h.owed.any (fun o => o.parcel == p.val)) = true →
      ∃ t, exec (.mirrorAckDeadline p) s = .next t ∧ t.fld F.RED_MIRROR_LATE_COUNT = satAdd 32 (s.fld F.RED_MIRROR_LATE_COUNT) 1 ∧
        causeSet t 0x31 6 = true ∧ t.red.held.any (fun h => h.owed.any (fun o => o.parcel == p.val)) = false ∧
        t.red.held.map (fun h => h.mseq) = s.red.held.map (fun h => h.mseq) ∧ SameMemory s t) ∧
    (∀ s : State, pairs s = true → role s = 1 → 2 ≤ link s → ∃ t m, exec .datumItemSend s = .next t ∧ t.red.txNext = (m + 1) % 2 ^ 32 ∧
      t.out.getLast? = some (.mirror m s.red.rxLast [.datum s.now.sec s.now.ns s.now.frac (inc s) (s.fld F.DTM_STATUS_STEP_GEN)
        (s.fld F.DTM_STATUS_SERVO) (s.flag F.DTM_STATUS_TIME_OK)]) ∧ t.dtm = s.dtm ∧ t.now = s.now) ∧
    (∀ s : State, pairs s = true → s.red.decided = false → ∃ t, exec .roleDecisionTimeout s = .next t ∧ t.red.decided = true ∧
      role t = (if s.flag F.RED_STATUS_ILK_IN then 2 else 1))

/-- The interlock (R627, R628), HOLD and FRESH (R635, R636), triggers (R639), takeover (R640, R641), its failure (R643), the offer of a swap (R644). -/
def Obligations.RolesChangeByTakeoverAndSwap : Prop :=
  (∀ (s : State) (active : Bool), s.answers = true → active ≠ s.flag F.RED_STATUS_ILK_IN →
      ∃ t, exec (.ilkInChange active) s = .next t ∧ t.flag F.RED_STATUS_ILK_IN = active ∧ t.red.ilkSince = s.dev.upCycles) ∧
    (∀ s : State, pairs s = true → s.red.backoff = true → ∃ t, exec .ilkConflictBackoffEnd s = .next t ∧ t.red.backoff = false ∧
      role t = (if s.flag F.RED_STATUS_ILK_IN then 2 else role s)) ∧
    (∀ (s : State) (c : Instr) (k : Nat), s.red.takeover = none → role s = 2 →
      (c = .ilkLossTimer ∧ k = 2 ∧ pairs s = true ∧ s.flag F.RED_STATUS_ILK_IN = false) ∨
        (∃ src data, c = .forceTkoWrite src data ∧ k = 4 ∧ s.ready = true ∧ s.flag F.RED_CTRL_FORCE_TKO = false ∧
          s.bus.goPending.contains (A.RED_CTRL * 32 + 8) = false) →
      (s.flag F.RED_STATUS_FRESH = true → s.red.wasPaired = true → ∃ t, exec c s = .next t ∧ role t = 2 ∧
        t.red.takeover = some { trigger := k, since := s.dev.upCycles, upTo := 0, started := false }) ∧
      (s.flag F.RED_STATUS_FRESH = false → ∃ t, exec c s = .next t ∧ role t = 2 ∧ t.red.takeover = none ∧
        t.fld F.RED_TKO_FAILS_COUNT = satAdd 32 (s.fld F.RED_TKO_FAILS_COUNT) 1 ∧ t.fld F.RED_LAST_TKO_TRIGGER = k ∧
        t.fld F.RED_LAST_TKO_RESULT = 1 ∧ causeSet t 0x31 3 = true ∧ lastEvent t 0x31 0x1303)) ∧
    (∀ (s : State) src data, s.ready = true → role s ≠ 2 → ∃ t, exec (.forceTkoWrite src data) s = .next t ∧ role t = role s ∧
      t.red = s.red ∧ causeSet t 0x31 31 = true) ∧
    (∀ (s : State) (k : Takeover), pairs s = true → s.red.takeover = some k → k.started = false → role s = 2 → k.trigger ≠ 3 →
      ∃ t, exec .takeoverStart s = .next t ∧ role t = 3 ∧ t.red.takeover = some { k with started := true } ∧ causeSet t 0x31 0 = true ∧
        lastEvent t 0x31 0x1300) ∧
    (∀ (s : State) (k : Takeover), pairs s = true → role s = 3 → s.red.takeover = some k → k.started = true →
      s.flag F.RED_STATUS_ILK_IN = false → ∃ t, exec .takeoverComplete s = .next t ∧ role t = 1 ∧ t.red.takeover = none ∧ t.flag F.RED_STATUS_FRESH = false ∧
        t.fld F.RED_TAKEOVERS_COUNT = satAdd 32 (s.fld F.RED_TAKEOVERS_COUNT) 1 ∧ causeSet t 0x31 2 = true ∧ t.cad.dls = [] ∧
        t.upd.sessions = [] ∧ t.fld F.RED_LAST_TKO_TRIGGER = k.trigger % 256 ∧ t.fld F.RED_LAST_TKO_RESULT = 0) ∧
    (∀ (s : State) (k : Takeover), pairs s = true → s.red.takeover = some k → k.started = true → s.flag F.RED_STATUS_ILK_IN = true →
      (s.flag F.RED_CTRL_FORCE_TKO = true → s.bus.goPending.contains (A.RED_CTRL * 32 + 8) = true → s.ready = true →
        s.flag F.RED_STATUS_FRESH = true → s.red.wasPaired = true → ∃ t, exec .takeoverAbandon s = .next t ∧ role t = 2 ∧
        t.red.takeover = some { trigger := 4, since := s.dev.upCycles, upTo := 0, started := false } ∧
        t.flag F.RED_CTRL_FORCE_TKO = true ∧ t.bus.goPending.contains (A.RED_CTRL * 32 + 8) = false) ∧
      (s.flag F.RED_CTRL_FORCE_TKO = false ∨ s.bus.goPending.contains (A.RED_CTRL * 32 + 8) = false →
        ∃ t, exec .takeoverAbandon s = .next t ∧ role t = 2 ∧ t.red.takeover = none ∧
        t.fld F.RED_TKO_FAILS_COUNT = satAdd 32 (s.fld F.RED_TKO_FAILS_COUNT) 1 ∧ t.fld F.RED_LAST_TKO_RESULT = 2 ∧
        causeSet t 0x31 3 = true ∧ lastEvent t 0x31 0x1303 ∧ SameMemory s t)) ∧
    (∀ s : State, pairs s = true → tickNow s = 8191 → s.red.swap.isSome = true → s.red.offered = false → role s = 1 → link s = 3 →
      ∃ t m, exec .roleSwapOffer s = .next t ∧ t.red.offered = true ∧ t.red.txNext = (m + 1) % 2 ^ 32 ∧
        t.out.getLast? = some (.mirror m t.red.rxLast [.relinquish ((m + 2 ^ 32 - 1) % 2 ^ 32)])) ∧
    (∀ s : State, pairs s = true → s.red.offered = true → s.flag F.RED_STATUS_ILK_IN = false →
      exec .swapOfferTimeout s = .next { s with red := { s.red with offered := false } }) ∧
    (∀ s : State, s.operating = true → s.flag F.RED_STATUS_HOLD = true → ∃ t, exec .strokeHoldEnd s = .next t ∧
      t.flag F.RED_STATUS_HOLD = false ∧ (link s = 3 ∨ s.red.held = [] → OnlyRegs s t [A.RED_STATUS] ∧ SameMemory s t)) ∧
    (∀ s : State, s.operating = true → link s ≠ 3 → ∃ t, exec .freshExpiry s = .next t ∧ t.flag F.RED_STATUS_FRESH = false ∧
      OnlyRegs s t [A.RED_STATUS] ∧ t = { s with regs := t.regs })

/-- UPD_IMAGE_LOAD (R424), UPD_SESSION_START (R434), UPD_SESSION_REPORT (R150, R441), UPD_SESSION_STOP, SESSION_DEADLINE (R442). -/
def Obligations.ImagesAndSessionsStartAndEnd : Prop :=
  ∀ (s : State) (id : CmdId) (c : Cmd),
    (∀ bs, s.engaged = true → mayStart s id 0x0401 c → c.data = some bs → bs.length ≤ 0x200000 →
        (∃ t, exec (.updImageLoad id true) s = .next t ∧ t.ramBytes (imgBase (fieldAt c.desc 16 1 % 8)) bs.length = bs ∧
          OnlyMemory s t (imgBase (fieldAt c.desc 16 1 % 8)) bs.length ∧ t.flag (F.UPD_IMG_INFO_VALID (fieldAt c.desc 16 1 % 8)) = true ∧
          imgLen t (fieldAt c.desc 16 1 % 8) = bs.length ∧ bit (t.fld F.UPD_STATUS_IMG_VALID) (fieldAt c.desc 16 1 % 8) = true ∧
          causeSet t 0x1F 1 = true ∧ lastEvent t 0x1F 0x0C00 ∧
          outcome t id = some (onePart 0x00 0 (leBytes 4 (imgBlocks t (fieldAt c.desc 16 1 % 8)) ++ slice (Config.sha256 bs) 0 12))) ∧
        (∃ t, exec (.updImageLoad id false) s = .next t ∧ OnlyMemory s t (imgBase (fieldAt c.desc 16 1 % 8)) bs.length ∧
          t.flag (F.UPD_IMG_INFO_VALID (fieldAt c.desc 16 1 % 8)) = false ∧
          bit (t.fld F.UPD_STATUS_IMG_VALID) (fieldAt c.desc 16 1 % 8) = false ∧ outcome t id = some (onePart 0x12 0 [2#8]))) ∧
    (s.ready = true → holding s = false → mayStart s id 0x0402 c →
      (freeSid s = none → ∃ t, exec (.updSessionStart id) s = .next t ∧ outcome t id = some (onePart 0x12 0 [1#8]) ∧ t = { s with rings := t.rings }) ∧
      (∀ sid, freeSid s = some sid →
        (planLanes s sid (imgSym s (fieldAt c.desc 16 1 % 8)) (s.fld F.MAC_JOIN_CFG_MICLEN) (maskLanes (fieldAt c.desc 17 1 % 16))
            (tableWords s ++ promisedWords s) = none →
          ∃ t, exec (.updSessionStart id) s = .next t ∧ outcome t id = some (onePart 0x12 0 [2#8]) ∧ t = { s with rings := t.rings }) ∧
        (∀ plan, planLanes s sid (imgSym s (fieldAt c.desc 16 1 % 8)) (s.fld F.MAC_JOIN_CFG_MICLEN) (maskLanes (fieldAt c.desc 17 1 % 16))
            (tableWords s ++ promisedWords s) = some plan →
          ∃ t, exec (.updSessionStart id) s = .next t ∧ outcome t id = some (onePart 0x00 0 (leBytes 4 s.upd.nextSession)) ∧
            (sessOf t sid).map (fun x => (x.session, x.image, x.group, x.startSfn, x.endSfn, x.lanes.map (fun l => l.lane))) =
              some (s.upd.nextSession, fieldAt c.desc 16 1 % 8, fieldAt c.desc 20 4, sfnNow s + s.fld F.UPD_CFG_INVITE_SF,
                sfnNow s + fieldAt c.desc 24 4, plan.map (fun l => l.1)) ∧
            t.fld (F.UPD_SESS_STATE_STATE sid) = 1 ∧ t.fld (F.UPD_SESS_TARGETED_COUNT sid) = 0 ∧ t.upd.nextSession = s.upd.nextSession + 1 ∧
            t.flag (F.UPD_IMG_INFO_IN_SESSION (fieldAt c.desc 16 1 % 8)) = true))) ∧
    (s.engaged = true → mayStart s id 0x0404 c → ∃ t, exec (.updSessionReport id) s = .next t ∧ t = { s with rings := t.rings } ∧
      outcome t id = some (match recordOf s (fieldAt c.desc 16 4) with
        | none => onePart 0x11 0 (leBytes 2 16)
        | some k => onePart 0x00 0 (leBytes 4 (s.fld (F.UPD_SESS_TARGETED_COUNT k)) ++ leBytes 4 (s.fld (F.UPD_SESS_COMPLETED_COUNT k))
            ++ leBytes 4 (s.fld (F.UPD_SESS_PENDING_COUNT k))))) ∧
    (s.engaged = true → holding s = false → mayStart s id 0x0403 c →
      (s.upd.sessions.find? (fun x => x.session == fieldAt c.desc 16 4) = none → ∃ t, exec (.updSessionStop id) s = .next t ∧
        outcome t id = some (onePart 0x00 0 []) ∧ t = { s with rings := t.rings }) ∧
      (∀ x, s.upd.sessions.find? (fun x => x.session == fieldAt c.desc 16 4) = some x → x.sid < 4 → pendingOf s x = [] →
        ∃ t, exec (.updSessionStop id) s = .next t ∧ outcome t id = some (onePart 0x00 0 []) ∧ sessOf t x.sid = none ∧
          t.fld (F.UPD_SESS_STATE_STATE x.sid) = 6 ∧ t.fld (F.UPD_SESS_STATE_END_REASON x.sid) = 3 ∧ lastEvent t 0x1F 0x0C04)) ∧
    (∀ (sid : Fin 4) (x : Sess), s.engaged = true → sessOf s sid = some x → x.endSfn ≤ sfnNow s →
      ∃ t, exec (.sessionDeadline sid) s = .next t ∧ sessOf t sid = none ∧ t.fld (F.UPD_SESS_STATE_STATE sid) = 6 ∧
        t.fld (F.UPD_SESS_STATE_END_REASON sid) = 2 ∧ causeSet t 0x1F 3 = true ∧ lastEvent t 0x1F 0x0C04)

/-- TARGET_SELECT (R435), MCAST_POSITION (R436–R438), UPD_STATUS_RX (R440, R441), REPORT_GAP_END (R438, R439). -/
def Obligations.UpdateRoundsRun : Prop :=
  (∀ (s : State) (sid : Fin 4) (x : Sess), s.ready = true → holding s = false → sessOf s sid = some x →
      s.fld (F.UPD_SESS_STATE_STATE sid) = 1 → ∃ t, exec (.targetSelect sid) s = .next t ∧ causeSet t 0x1F 0 = true ∧
        (t.fld (F.UPD_SESS_TARGETED_COUNT sid) = 0 → sessOf t sid = none ∧ t.fld (F.UPD_SESS_STATE_STATE sid) = 6 ∧
          t.fld (F.UPD_SESS_STATE_END_REASON sid) = 4) ∧
        (t.fld (F.UPD_SESS_TARGETED_COUNT sid) ≠ 0 → t.fld (F.UPD_SESS_STATE_STATE sid) = 2) ∧
        (∀ p l, (usedParcels s).filter (selected s x) = [p] → p < parcelCount → excluded s x p = some l →
          s.fld (F.UPD_SESS_TARGETED_COUNT sid) = 0 → t.fld (F.UPD_SESS_TARGETED_COUNT sid) = 1 ∧
          uState t p = 1 ∧ uSession t p = x.session % 65536)) ∧
    (∀ (s : State) (n : Lane) (o : Occ) (x : Sess) (l : UpdLane), s.engaged = true → mcastOcc s n = some (o, x, l) → o.pos < l.frames →
      ∃ t, exec (.mcastPosition n) s = .next t ∧ ((t.lane n).occ.map (fun o => o.pos)) = some (o.pos + 1) ∧
        (l.stage = 0 → x.startSfn ≤ sfnAt s o.start → l.round = 0 →
          (x.suspended.isSome = true → t.fld F.UPD_MC_WITHHELD_COUNT = satAdd 32 (s.fld F.UPD_MC_WITHHELD_COUNT) 1 ∧
            (t.lane n).txs = (s.lane n).txs) ∧
          (∀ bs, x.suspended = none → s.ready = true → mayTransmit s n = true →
            (ccmProtect (s.setLane n { s.lane n with occ := some { o with pos := o.pos + 1 } }) (mcKey s x.session x.group)
              (mcastFrame s x l) 0).1 = some bs →
            (t.lane n).txs.length = (s.lane n).txs.length + 1 ∧
              ((t.lane n).txs.getLast?.map (fun y => (y.kind, y.parcel, y.content, y.length))) = some (5, x.sid, .frame bs, bs.length)))) ∧
    (∀ (s : State) (n : Lane) (f : RxFrame) (s' : State), s.answers = true → takeMessage s n 0x41 = some (f, s') →
      (f.body.length < 9 → ∃ t, exec (.updStatusRx n) s = .next t ∧
        t.fld F.UPD_REPORTS_BAD_COUNT = satAdd 32 (s.fld F.UPD_REPORTS_BAD_COUNT) 1 ∧ SameMemory s t ∧
        (t.lane n).rx = (s.lane n).rx.erase f) ∧
      (∀ x l, sessOf s (fieldAt f.body 1 1 % 4) = some x → 9 ≤ f.body.length → f.body.length % 2 = 1 → fieldAt f.body 4 1 = 2 →
        fParcel f.bytes < parcelCount → pendingIn s (fParcel f.bytes) = some x → uSid s (fParcel f.bytes) = x.sid →
        fieldAt f.body 2 2 = x.session % 65536 → updLane x (lastLane s (fParcel f.bytes)) = some l → x.sid < 4 →
        ∃ t, exec (.updStatusRx n) s = .next t ∧ t.fld F.UPD_REPORTS_COUNT = satAdd 32 (s.fld F.UPD_REPORTS_COUNT) 1 ∧
          uState t (fParcel f.bytes) = 3)) ∧
    (∀ (s : State) (sid : Fin 4) (n : Lane) (x : Sess) (l : UpdLane), s.engaged = true → holding s = false → sessOf s sid = some x →
      updLane x n = some l → l.stage = 1 → (∀ p ∈ pendingOf s x, p ∈ l.reports) →
      ∃ t, exec (.reportGapEnd sid n) s = .next t ∧
        ((sessOf t sid).bind (fun y => updLane y n)).map (fun m => (m.round, m.stage, m.planned == m.due.length)) =
          some (l.round + 1, 0, true) ∧ SameMemory s t)

/-- LANE_ENABLE_WRITE, LANE_STANDBY_READY (R187), start-up calibration (R197–R199, R223), SYNTH_LOCK_DONE, LOCK_FAIL (R194), COLD_CAL_DONE (R192, R195), anchors (R201, R204), slices (R200, R202), LANE_CAL steps (R144, R205). -/
def Obligations.LanesCalibrateAndTune : Prop :=
  ∀ (s : State) (n : Lane),
    (∀ src data, s.operating = true → ∃ t, exec (.laneEnableWrite src n data) s = .next t ∧ t.flag (F.LRF_CTRL_ENABLE n) = bit data.toNat 0 ∧
      (s.flag (F.LRF_CTRL_ENABLE n) = true → bit data.toNat 0 = false → laneState s n ≠ 4 → laneState t n = 0) ∧
      (s.flag (F.LRF_CTRL_ENABLE n) = false → bit data.toNat 0 = true → laneState s n = 0 → lanePowered s n = true →
        s.flag (F.LRF_STATUS_STARTUP_DONE n) = false → blankIn s n = false → laneState t n = 5 ∧ (t.lane n).work = .startup 1)) ∧
    (s.answers = true → laneState s n = 0 → mayRun s n = true → s.flag (F.LRF_STATUS_STARTUP_DONE n) = true → (s.lane n).offDue = false →
      ∃ t, exec (.laneStandbyReady n) s = .next t ∧ laneState t n ≠ 0 ∧
        (s.operating = false ∨ chDefined s n (macChannel s n) = false → laneState t n = 1 ∧ laneLocked t n = false) ∧
        (s.operating = true → chDefined s n (macChannel s n) = true → (t.lane n).rxWant = some (macChannel s n))) ∧
    (∀ (k : Nat) (r : KindFacts), (s.lane n).work = .startup k → s.answers = true → laneState s n = 5 →
      (blankIn s n = false → 1 ≤ k → k ≤ 4 → r.ok = true → ∃ t, exec (.startupCalKindDone n r) s = .next t ∧
        (t.lane n).work = .startup (k + 1) ∧ analog t n (0x4FF + k) = BitVec.ofNat 32 (2 ^ 31 + min r.micros 65535) ∧ OnlyRegs s t []) ∧
      (blankIn s n = false → k = 7 → r.ok = true → ∃ t, exec (.startupCalKindDone n r) s = .next t ∧
        t.flag (F.LRF_STATUS_STARTUP_DONE n) = true ∧ (t.lane n).refOk = true ∧ causeSet t (0x10 + n) 0 = true ∧
        analog t n 0x510 = BitVec.ofNat 32 r.refGain.toNat) ∧
      (k ≤ 5 → ∀ c, (c = .startupCalKindDone n r ∧ r.ok = false ∧ blankIn s n = false) ∨
          (∃ r', c = .startupCalAbandon n r' ∧ blankIn s n = true) →
        ∃ t, exec c s = .next t ∧ laneState t n = 0 ∧ causeSet t (0x10 + n) 1 = true ∧ lastEvent t (0x10 + n) 0x0600) ∧
      (blankIn s n = true → k = 6 → r.channels = [] → ∀ c rest, startupChannels s n = c :: rest →
        ∃ t, exec (.startupCalAbandon n r) s = .next t ∧ (t.lane n).calNext = c + 1 ∧ (t.lane n).work = .startup 6 ∧
          chFail t n c = true ∧ lastEvent t (0x10 + n) 0x0601 ∧ SameMemory s t)) ∧
    (∀ c, (s.lane n).work = .hop c → s.answers = true → laneState s n = 2 →
      (heldTx s n = none → (s.lane n).offDue = false → (s.lane n).gapCal = [] → (s.lane n).rxWant = some (laneChannel s n) →
        ∃ t, exec (.synthLockDone n) s = .next t ∧ laneState t n = (if blankIn s n then 6 else 3) ∧ laneLocked t n = true ∧
          (t.lane n).work = .none) ∧
      (blankIn s n = false → ∃ t, exec (.lockFail n) s = .next t ∧ chValid t n c = false ∧ laneState t n = 5 ∧
        (t.lane n).work = .cold c true ∧ causeSet t (0x10 + n) 2 = true ∧
        t.fld (F.LRF_LOCK_FAILS_COUNT n) = satAdd 32 (s.fld (F.LRF_LOCK_FAILS_COUNT n)) 1)) ∧
    (∀ c, s.answers = true → laneState s n = 5 →
      ((s.lane n).work = .gap c ∨ ∃ f, (s.lane n).work = .cold c f) → ∀ r, ∃ t, exec (.coldCalDone n (some r)) s = .next t ∧
        chValid t n c = true ∧ chFail t n c = false ∧ SameMemory s t) ∧
    (∀ c f, s.answers = true → laneState s n = 5 → (s.lane n).work = .cold c f → ∃ t, exec (.coldCalDone n none) s = .next t ∧
      chFail t n c = true ∧ (t.lane n).rxWant = none ∧ causeSet t (0x10 + n) 1 = true ∧ lastEvent t (0x10 + n) 0x0601 ∧
      (laneState t n = 1 ∨ laneState t n = 5 ∧ ∃ g, (t.lane n).work = .gap g) ∧ ((s.lane n).gapCal = [] → laneState t n = 1)) ∧
    (∀ a : Fin 4, s.answers = true →
      (anchorDue s n (anchorCh s n a) = true → ∃ t, exec (.anchorDue n a) s = .next t ∧ anchorBit t n a 4 = true ∧
        (∀ k, k < 4 → anchorCh s n k ≠ anchorCh s n a → anchorBit t n k 4 = anchorBit s n k 4) ∧ OnlyRegs s t [A.LRF_ANCHOR_STATUS n]) ∧
      (chDefined s n (anchorCh s n a) = true → anchorBit s n a 4 = true → anchorBit s n a 6 = false → ∃ t, exec (.anchorOverdue n a) s = .next t ∧ anchorBit t n a 6 = true ∧
        causeSet t (0x10 + n) 3 = true ∧ lastEvent t (0x10 + n) 0x0602)) ∧
    (∀ c, s.operating = true → gapNeeds s n = [] → (s.lane n).job = none → gapOpen s n 218000 = true → coxMayStart s 19 = true →
      dueChannel s n = some c → ∃ t, exec (.bgSliceStart n) s = .next t ∧ laneState t n = 5 ∧ (t.lane n).work = .slice c) ∧
    (∀ c r g p, s.answers = true → laneState s n = 5 → (s.lane n).work = .slice c → ∃ t, exec (.bgSliceDone n (some r) g p) s = .next t ∧
      chValid t n c = true ∧ chFail t n c = false ∧ t.fld (F.LRF_BG_SLICES_COUNT n) = satAdd 32 (s.fld (F.LRF_BG_SLICES_COUNT n)) 1) ∧
    (∀ j : CalJob, s.operating = true → (s.lane n).job = some j → gapNeeds s n = [] → 0 < j.remaining → (s.lane n).work = .none →
      (chDefined s n j.next = true → gapOpen s n 176000 = true → ∃ t, exec (.laneCalStepStart n) s = .next t ∧ laneState t n = 5 ∧
        (t.lane n).work = .step j.next) ∧
      (chDefined s n j.next = false → 1 < j.remaining → ∃ t, exec (.laneCalStepStart n) s = .next t ∧
        ((t.lane n).job.map (fun x => (x.next, x.remaining, x.failed))) = some (j.next + 1, j.remaining - 1, j.failed + 1))) ∧
    (∀ (j : CalJob) (c : Nat) (cmd : Cmd) (r : CalResult), s.answers = true → laneState s n = 5 → (s.lane n).work = .step c →
      (s.lane n).job = some j → j.remaining = 1 → findCmd s j.id = some cmd → cmd.done = false → cmd.lost = false →
      ∃ t, exec (.laneCalStepDone n (some r)) s = .next t ∧ chValid t n c = true ∧ (t.lane n).job = none ∧
        outcome t j.id = some (onePart 0x00 0 (jobResult { j with done := j.done + 1 })))

/-- TX_CHANNEL_CHECK (R207), TX_REQUEST (R208, R214, R753), TX_TURNAROUND_START (R216–R219), TX_END (R187), TX_LATE (R209), gain control (R211), blanking (R220–R223), LBB_RX_EN_WRITE (R246). -/
def Obligations.LanesTransmitAndYieldToBlanks : Prop :=
  ∀ (s : State) (n : Lane),
    (∀ c : Fin 256, s.operating = true → chDefined s n c = true → usable s n c = false →
      (gapOpen s n 176000 = true → ∃ t, exec (.txChannelCheck n c) s = .next t ∧ laneState t n = 5 ∧
        (gapNeeds s n = [] → (t.lane n).work = .gap c.val ∧ (t.lane n).gapCal = []) ∧
        (∀ c' rest, gapNeeds s n = c' :: rest → (t.lane n).work = .gap c')) ∧
      (gapOpen s n 176000 = false → ∃ t, exec (.txChannelCheck n c) s = .next t ∧ c.val ∈ (t.lane n).gapCal ∧
        laneState t n = laneState s n ∧ OnlyRegs s t [])) ∧
    (∀ (x : Tx) (bs : List Byte), s.engaged = true → laneServed s n = true → (s.lane n).txs.find? (fun t => t.stage == 1) = some x →
      heldTx s n = none → x.content = .frame bs →
      (txRefused s n x = false → ∃ t, exec (.txRequest n) s = .next t ∧
        ((heldTx t n).map (fun y => (y.stage, y.bytes, y.start, y.channel))) = some (2, bs, x.start, x.channel)) ∧
      (txRefused s n x = true → x.kind = 5 → ∃ t, exec (.txRequest n) s = .next t ∧ (t.lane n).txs = (s.lane n).txs.erase x ∧
        t.fld F.UPD_MC_WITHHELD_COUNT = satAdd 32 (s.fld F.UPD_MC_WITHHELD_COUNT) 1)) ∧
    (∀ x : Tx, s.engaged = true → laneServed s n = true → heldTx s n = some x → onAir s n = none →
      (x.stage = 3 ∨ (setFor s x.start).code ≠ 6) → (s.lane n).work = .none →
      (blankIn s n = false ∨ s.flag (F.LRF_BLANK_CFG_TX_HOLD n) = false) → laneLocked s n = true → laneChannel s n = x.channel →
      (laneState s n = 2 ∨ laneState s n = 3 ∨ laneState s n = 5 ∨ laneState s n = 6) → s.nowNs + laneTa s n ≤ x.latest →
      (gateOpen s = true → ∃ t, exec (.txTurnaroundStart n) s = .next t ∧ laneState t n = 4 ∧ laneLocked t n = true ∧
        ((onAir t n).map (fun y => (y.start, y.bytes, y.channel, y.gain))) =
          some (max x.start (s.nowNs + laneTa s n), x.bytes, x.channel, txEntry s n x.power) ∧
        (t.lane n).ctxs = [] ∧ (t.lane n).femTiming = s.reg (A.LRF_FEM_TIMING n) ∧ (t.lane n).taAt = s.dev.upCycles ∧
        (femPins t n).paen = !bit (s.reg (A.LRF_FEM_CFG n)).toNat 0 ∧ (femPins t n).trsw = !bit (s.reg (A.LRF_FEM_CFG n)).toNat 1) ∧
      (gateOpen s = false → ∃ t, exec (.txTurnaroundStart n) s = .next t ∧ causeSet t (0x10 + n) 7 = true ∧
        t.fld F.RED_ILK_ABORTS_COUNT = satAdd 32 (s.fld F.RED_ILK_ABORTS_COUNT) 1)) ∧
    (∀ (x : Tx) (bs : List Byte), s.answers = true → laneState s n = 4 → onAir s n = some x → x.content = .frame bs → x.mode = 0 →
      ∃ t rest, exec (.txEnd n) s = .next t ∧ laneState t n ≠ 4 ∧
        t.out = s.out ++ [.chirp n x.channel x.offset x.gain x.sf x.bw x.start
          (chirpHead x.sf x.npre x.code (headerWord 0 x.bytes.length x.rate) ++
            chirpPayload x.sf x.rate x.bytes)] ++ rest) ∧
    (∀ x : Tx, s.engaged = true → (s.lane n).txs.find? (fun t => t.stage == 2 || t.stage == 3 || t.stage == 5) = some x →
      (s.nowNs + laneTa s n < x.latest → exec (.txLate n) s = .next s) ∧
      (x.latest ≤ s.nowNs + laneTa s n → ∃ t, exec (.txLate n) s = .next t ∧ causeSet t (0x10 + n) 4 = true ∧
        t.fld (F.LRF_TX_LATE_COUNT n) = satAdd 32 (s.fld (F.LRF_TX_LATE_COUNT n)) 1)) ∧
    (agcRuns s n = true →
      (∃ t, exec (.adcClip n) s = .next t ∧ t.fld (F.LRF_STATUS_GAIN n) = min 63 (s.fld (F.LRF_STATUS_GAIN n) + 4) ∧
        t.fld (F.LRF_CLIP_COUNT_COUNT n) = satAdd 32 (s.fld (F.LRF_CLIP_COUNT_COUNT n)) 1 ∧ causeSet t (0x10 + n) 6 = true) ∧
      (∀ mean : Int, ∃ t, exec (.agcWindow n mean) s = .next t ∧ OnlyRegs s t [A.LRF_STATUS n] ∧
        t.fld (F.LRF_STATUS_GAIN n) = (if -288 < mean then min 63 (s.fld (F.LRF_STATUS_GAIN n) + 1)
          else if mean < -480 then s.fld (F.LRF_STATUS_GAIN n) - 1 else s.fld (F.LRF_STATUS_GAIN n)))) ∧
    (s.answers = true → blankIn s n = false → ∃ t, exec (.rfBlankAssert n) s = .next t ∧ blankIn t n = true ∧ causeSet t (0x10 + n) 5 = true ∧
      t.fld (F.LRF_BLANK_COUNT_COUNT n) = satAdd 32 (s.fld (F.LRF_BLANK_COUNT_COUNT n)) 1 ∧
      (laneState s n = 3 → laneState t n = 6 ∧ (t.lane n).ctxs.map (fun e => e.2.blanked) = (s.lane n).ctxs.map (fun _ => true))) ∧
    (s.answers = true → blankIn s n = true → ∃ t, exec (.rfBlankRelease n) s = .next t ∧ blankIn t n = false ∧
      t.fld (F.LRF_BLANK_TIME_US_COUNT n) =
        satAdd 32 (s.fld (F.LRF_BLANK_TIME_US_COUNT n)) ((s.dev.upCycles - (s.lane n).blankAt) * 4 / 1000) ∧
      (laneState s n = 6 → (s.lane n).waitCal = none → (s.lane n).gapCal = [] → laneState t n = 3)) ∧
    (∀ src data, s.operating = true → ∃ t, exec (.lbbRxEnWrite src n data) s = .next t ∧ t.flag (F.LBB_CTRL_RX_EN n) = bit data.toNat 0 ∧
      t.flag (F.LBB_CTRL_OFDM_ACCEPT n) = bit data.toNat 1 ∧ OnlyRegs s t [A.LBB_CTRL n] ∧ t = { s with regs := t.regs, lanes := t.lanes } ∧
      (t.lane n).ctxs = (s.lane n).ctxs ∧ (t.lane n).queue = (s.lane n).queue)

/-- The detector bank (R246–R251), contexts (R252–R258), the CRC of a payload (R237, R260), the FC word (R286, R292), the end of an OFDM payload (R294–R297). -/
def Obligations.FramesAreReceived : Prop :=
  ∀ (s : State) (n : Lane),
    (∀ (k : Fin 8) (sf bin : Nat) (word : Word) (windows : List Window) (rssi : Int), searches s n sf = true →
      detectedBin s n k sf windows = some (bin, word) → heldBack s n (newDetection s n k sf bin word windows rssi) = false → ∃ t, exec (.detection n k sf windows rssi) s = .next t ∧
        t.fld (F.LBB_DETECTIONS_COUNT n) = satAdd 32 (s.fld (F.LBB_DETECTIONS_COUNT n)) 1 ∧ causeSet t (0x14 + n) 2 = true ∧
        (t.lane n).queue = (queueIn (s.lane n).queue (newDetection s n k sf bin word windows rssi)).take 8 ∧
        ((s.lane n).queue.length < 8 → (∀ x ∈ (s.lane n).queue, x.time ≠ s.now) →
          (t.lane n).queue = (s.lane n).queue ++ [newDetection s n k sf bin word windows rssi]) ∧
        (8 ≤ (s.lane n).queue.length → causeSet t (0x14 + n) 0 = true ∧
          t.fld (F.LBB_CTX_DROP_COUNT n) = satAdd 32 (s.fld (F.LBB_CTX_DROP_COUNT n)) 1)) ∧
    (∀ (d : Detection) (rest : List Detection), s.answers = true → laneServed s n = true → (s.lane n).queue = d :: rest →
      ((∃ c, c < 64 ∧ ctxOf s n c = none) → ∃ t c, exec (.contextAssign n) s = .next t ∧ (t.lane n).queue = rest ∧ c < 64 ∧
        ctxOf s n c = none ∧ ctxOf t n c = some { newCtx d (s.lane n).nextOrder with blanked := d.blanked || blankIn s n } ∧
        (∀ e, e ≠ c → ctxOf t n e = ctxOf s n e) ∧ OnlyRegs s t []) ∧
      ((∀ c, c < 64 → ctxOf s n c ≠ none) → (weakest (s.lane n).ctxs).all (fun e => d.rssi ≤ e.2.det.rssi) = true →
        ∃ t, exec (.contextAssign n) s = .next t ∧ (t.lane n).queue = rest ∧ (t.lane n).ctxs = (s.lane n).ctxs ∧
          t.fld (F.LBB_CTX_DROP_COUNT n) = satAdd 32 (s.fld (F.LBB_CTX_DROP_COUNT n)) 1 ∧ causeSet t (0x14 + n) 0 = true)) ∧
    (∀ (c : Fin 64) (x : Ctx), s.answers = true → ctxOf s n c = some x →
      (x.stage = 1 → ∃ t, exec (.syncMiss n c) s = .next t ∧ ctxOf t n c = none ∧
        t.fld (F.LBB_SYNC_MISS_COUNT n) = satAdd 32 (s.fld (F.LBB_SYNC_MISS_COUNT n)) 1 ∧ OnlyRegs s t [A.LBB_SYNC_MISS n, A.LRF_STATUS n]) ∧
      (∀ (bin1 bin2 : SyncBin) foff rssi ago, x.stage = 1 →
        (codeMatches x.det.sf (s.fld (F.LBB_SYNC_CFG_NET_CODE n)) (relBin x.det.sf bin1.bin bin1.ref) (relBin x.det.sf bin2.bin bin2.ref) = true →
          foff.natAbs ≤ 250 * chirpKhz x.det.bw → ∃ t, exec (.syncWordFound n c bin1 bin2 foff rssi ago) s = .next t ∧
          ctxOf t n c = some { x with stage := 2, alt := false, rssi := rssi.toNat, foff := unsigned 24 foff, ts := timeAgo s ago,
                                      stepGen := genAgo s ago } ∧ t = { s with lanes := t.lanes }) ∧
        (codeMatches x.det.sf (s.fld (F.LBB_SYNC_CFG_NET_CODE n)) (relBin x.det.sf bin1.bin bin1.ref) (relBin x.det.sf bin2.bin bin2.ref) = false → s.flag (F.LBB_SYNC_CFG_ALT_EN n) = false →
          ∃ t, exec (.syncWordFound n c bin1 bin2 foff rssi ago) s = .next t ∧ ctxOf t n c = none ∧
            t.fld (F.LBB_SYNC_OTHER_COUNT n) = satAdd 32 (s.fld (F.LBB_SYNC_OTHER_COUNT n)) 1)) ∧
      (∀ (bins : List Nat) (snr : BitVec 8) (vs : List Nat) (s' : State), x.stage = 2 → headerValues s x.det.sf bins = (vs, s') →
        (∀ h, headerCheck vs = .valid h → hdrMode h = 0 → ∃ t, exec (.headerDecide n c bins snr) s = .next t ∧
          ctxOf t n c = some { x with stage := 3, hdr := h, snr := snr.toNat } ∧ t = { s with lanes := t.lanes, fresh := s'.fresh }) ∧
        (headerCheck vs = .fail → ∃ t, exec (.headerDecide n c bins snr) s = .next t ∧ ctxOf t n c = none ∧
          t.fld (F.LBB_HDR_FAIL_COUNT n) = satAdd 32 (s.fld (F.LBB_HDR_FAIL_COUNT n)) 1)) ∧
      (∀ (bins : List Nat) rateErr (bytes : List Byte), x.stage = 3 →
        bytes = (cssReceived s x.det.sf (hdrLength x.hdr) (hdrRate x.hdr) bins).1 →
        (bytes.length = hdrLength x.hdr + 2 → crc16 (bytes.take (hdrLength x.hdr)) = fieldAt bytes (hdrLength x.hdr) 2 →
          ∃ t, exec (.cssPayloadEnd n c bins rateErr) s = .next t ∧ ctxOf t n c = none ∧
            t.fld (F.LBB_FRAMES_OK_COUNT n) = satAdd 32 (s.fld (F.LBB_FRAMES_OK_COUNT n)) 1 ∧
            (t.lane n).rx.map (fun f => (f.bytes, f.check, f.stage)) = (s.lane n).rx.map (fun f => (f.bytes, f.check, f.stage)) ++
              [(bytes.take (hdrLength x.hdr), .waiting, 0)]) ∧
        (bytes.length ≠ hdrLength x.hdr + 2 ∨ crc16 (bytes.take (hdrLength x.hdr)) ≠ fieldAt bytes (hdrLength x.hdr) 2 →
          ∃ t, exec (.cssPayloadEnd n c bins rateErr) s = .next t ∧ ctxOf t n c = none ∧ (t.lane n).rx = (s.lane n).rx ∧
            t.fld (F.LBB_PAY_CRC_COUNT n) = satAdd 32 (s.fld (F.LBB_PAY_CRC_COUNT n)) 1))) ∧
    (∀ (o : OfdmRx) (bits : List Bool), s.answers = true → (s.lane n).ofdm = some o → o.fc = none →
      (fcDecode bits = none → ∃ t, exec (.ofdmFcDecode n bits) s = .next t ∧ (t.lane n).ofdm = none ∧ causeSet t (0x18 + n) 0 = true ∧
        t.fld (F.LOF_FC_FAIL_COUNT n) = satAdd 32 (s.fld (F.LOF_FC_FAIL_COUNT n)) 1) ∧
      (∀ fc, fcDecode bits = some fc → fcMapType fc = 0 → ∃ t, exec (.ofdmFcDecode n bits) s = .next t ∧
        (t.lane n).ofdm = some { o with fc := some fc, bSym := 54 * chM s n o.channel * fcSel fc } ∧ t = { s with lanes := t.lanes })) ∧
    (∀ (o : OfdmRx) (fc : Nat) (bytes : List Byte) (iter : Fin 32) (levels : OfdmLevels) ago tones, s.answers = true →
      (s.lane n).ofdm = some o → o.fc = some fc →
      (∀ good, good = false ∨ s.fld (F.LOF_LDPC_CFG_MAX_ITER n) < iter.val → ∃ t, exec (.ofdmRxEnd n good bytes iter levels ago tones) s = .next t ∧
        (t.lane n).ofdm = none ∧ causeSet t (0x18 + n) 0 = true ∧
        t.fld (F.LOF_LDPC_FAIL_COUNT n) = satAdd 32 (s.fld (F.LOF_LDPC_FAIL_COUNT n)) 1) ∧
      (iter.val ≤ s.fld (F.LOF_LDPC_CFG_MAX_ITER n) → o.info.lane = n.val → bytes.length = o.info.length + 4 → crc32 (bytes.take o.info.length) = fieldAt bytes o.info.length 4 →
        sourcePeer s bytes = none → ∃ t, exec (.ofdmRxEnd n true bytes iter levels ago tones) s = .next t ∧ (t.lane n).ofdm = none ∧
          t.fld (F.LOF_RX_OK_COUNT n) = satAdd 32 (s.fld (F.LOF_RX_OK_COUNT n)) 1 ∧
          (t.lane n).rx.map (fun f => f.bytes) = (s.lane n).rx.map (fun f => f.bytes) ++ [bytes.take o.info.length]))

/-- SUPERFRAME_START (R318–R320), occurrences (R328, R335, R340), RENDEZVOUS (R341), ACK_SEND (R345), DL_ATTEMPT (R348), ACK_RECEIVE, RESPONSE_WINDOW_CLOSE (R349), the wake exchange of a WAKE_SEND (R143, R354–R357). -/
def Obligations.SuperframesSlotsAndDownlinksRun : Prop :=
  (∀ (s : State) (sense : BeaconSense), s.engaged = true →
      (s.nowNs < superStart s 0 → exec (.superframeStart sense) s = .next s) ∧
      (superStart s 0 ≤ s.nowNs → s.mac.sfn.all (fun l => l < sfnNow s) = true → ∃ t, exec (.superframeStart sense) s = .next t ∧ t.mac.sfn = some (sfnNow s) ∧
        causeSet t 0x1C 0 = true ∧ t.dev.maintLanes = [] ∧ (∀ n, n < 4 → (t.lane n).ran = []) ∧
        (∀ l, s.mac.sfn = some l → l / 128 ≠ sfnNow s / 128 → causeSet t 0x1C 1 = true)) ∧
      (s.mac.sfn = some (sfnNow s) → exec (.superframeStart sense) s = .next s)) ∧
    (∀ (s : State) (n : Lane) (e : Fin 1048576), laneOnDuty s n = true → roleTransmits s = true → ePp (entryW0 s e) ≠ 0 →
      eLane (entryW0 s e) = n.val → sfnNow s % ppPeriod (ePp (entryW0 s e)) = ppPhase (ePp (entryW0 s e)) → s.mac.sfn = some (sfnNow s) →
      tickNow s = eTick (entryW1 s e) → (s.lane n).ran.contains e.val = false →
      superStart s (sfnNow s) + eTick (entryW1 s e) * 1000000 + eLen (entryW0 s e) * 4000000 + 1000000 ≤ superStart s (sfnNow s + 1) →
      ∃ t, exec (.slotOccurrenceStart n e) s = .next t ∧ e.val ∈ (t.lane n).ran ∧
        ((t.lane n).occ.map (fun o => (o.entry, o.w0, o.w1, o.start, o.hit, o.tried, o.pos))) =
          some (e.val, entryW0 s e, entryW1 s e, superStart s (sfnNow s) + eTick (entryW1 s e) * 1000000, false, false, 0)) ∧
    (∀ (s : State) (n : Lane) (o : Occ), s.engaged = true → (s.lane n).occ = some o → ∃ t, exec (.slotOccurrenceEnd n) s = .next t ∧
      (t.lane n).occ = none ∧ (eType o.w0 = 0 ∨ eType o.w0 = 2 → o.hit = false → pInUse s (eOwner o.w1) = true → holding s = false →
        t.fld F.MAC_SLOT_MISSES_COUNT = satAdd 32 (s.fld F.MAC_SLOT_MISSES_COUNT) 1)) ∧
    (∀ (s : State) (p : Fin 262144), s.engaged = true → roleTransmits s = true → holding s = false → pInUse s p = true → pLink s p = 2 →
      256 ≤ (s.mac.sfn.getD 0 + 65536 - pGet s p 90 2) % 65536 → ∃ t, exec (.rendezvousHoldExpiry p) s = .next t ∧ pLink t p = 0 ∧
        t.fld F.MAC_NODES_RELEASED_COUNT = satAdd 32 (s.fld F.MAC_NODES_RELEASED_COUNT) 1 ∧ causeSet t 0x1C 4 = true ∧ lastEvent t 0x1C 0x0903) ∧
    (∀ (s : State) (n : Lane) (a : Owed) (rest : List Owed), mayTransmit s n = true → (s.lane n).owed = a :: rest →
      adaptState s a.parcel = 0 → pRelayed s a.parcel = false →
      (∀ x : Tx, x = { ackBase s n a with content := .ack a.tcorr a.fcntLo false, length := 13 + macBytes (pMicLen s a.parcel) } →
        a.carried = false →
        (∀ fin, sendBound s n (fun o => o.ofFrame a) x.start (x.airUs * 1000) = some fin → ∃ t y, exec (.ackSend n) s = .next t ∧
          (t.lane n).owed = rest ∧ (t.lane n).txs = (s.lane n).txs ++ [y] ∧ y = { x with latest := y.latest } ∧
          (∀ e, fin = some e → y.latest + y.airUs * 1000 ≤ max e (y.airUs * 1000)) ∧ OnlyRegs s t [] ∧ SameMemory s t) ∧
        (sendBound s n (fun o => o.ofFrame a) x.start (x.airUs * 1000) = none → ∃ t, exec (.ackSend n) s = .next t ∧
          (t.lane n).owed = rest ∧ (t.lane n).txs = (s.lane n).txs ∧ OnlyRegs s t [] ∧ SameMemory s t)) ∧
      (a.carried = true → ∃ t, exec (.ackSend n) s = .next t ∧ (t.lane n).owed = rest ∧ OnlyRegs s t [] ∧
        ((t.lane n).txs = (s.lane n).txs ∨ ∃ x, (t.lane n).txs = (s.lane n).txs ++ [x] ∧ x.kind = 1 ∧ x.parcel = a.parcel ∧ x.stage = 0 ∧
          (s.flag F.MAC_CTRL_PIGGYBACK = false → x.content = .ack a.tcorr a.fcntLo false)))) ∧
    (∀ (s : State) (n : Lane) (o : Occ), mayTransmit s n = true → (s.lane n).occ = some o → eType o.w0 = 1 →
      adaptState s (eOwner o.w1) = 0 → o.tried = false → attemptable s (eOwner o.w1) = true → pClass s (eOwner o.w1) ≠ 2 → ∃ t x, exec (.dlAttempt n) s = .next t ∧
        (t.lane n).txs = (s.lane n).txs ++ [x] ∧ x.kind = 2 ∧ x.parcel = eOwner o.w1 ∧ x.content = .head none ∧
        x.start = o.start + leadMs s (eOwner o.w1) (ppPeriod (ePp o.w0)) * 1000000 ∧ ((t.lane n).occ.map (fun o => o.tried)) = some true) ∧
    (∀ (s : State) (n : Lane) (p lo ns : Nat) (rest : List (Nat × Nat × Nat)), s.engaged = true → (s.lane n).acked = (p, lo, ns) :: rest →
      ∃ t, exec (.ackReceive n) s = .next t ∧ (t.lane n).acked = rest ∧
        (∀ m d, headDl s p = some (m, d) → m.ackReq = true → d.sent = true → d.fcnt % 256 = lo → d.carries = none → p < parcelCount →
          t.fld F.MAC_DL_ACKED_COUNT = satAdd 32 (s.fld F.MAC_DL_ACKED_COUNT) 1)) ∧
    (∀ (s : State) (p : Fin 262144) (m : Mbx) (d : Dl), s.engaged = true → holding s = false → headDl s p = some (m, d) → d.window = true →
      m.attempts ≤ m.retries → pRelayed s p = false → ∃ t, exec (.responseWindowClose p) s = .next t ∧
        ((headDl t p).map (fun h => h.2.window)) = some false ∧ SameMemory s t) ∧
    (∀ (s : State) (n : Lane) (w : Wake) parcel ahead, s.ready = true → mayTransmit s n = true → s.flag (F.MAC_WAKE_CFG_EN n) = true →
      wakeTime s n (s.nowNs + ahead) w = true → wakeOf s n = some w → w.stage = 0 → ∃ t x, exec (.wakeAttempt n parcel ahead) s = .next t ∧
        wakeOf t n = some { w with stage := 1, attempt := w.attempt + 1, start := s.nowNs + ahead } ∧
        (t.lane n).txs = (s.lane n).txs ++ [x] ∧ x.kind = 4 ∧ x.mode = 2 ∧ x.content = .wake w.addr w.code ∧ x.start = s.nowNs + ahead) ∧
    (∀ (s : State) (n : Lane) (w : Wake) (id : CmdId) (c : Cmd) (f : RxFrame) (s' : State), s.engaged = true → wakeOf s n = some w →
      w.stage = 2 → w.parcel = none → w.cmd = some id → findCmd s id = some c → c.done = false → c.lost = false →
      (takeFrame s n (fun f => f.stage == 1 && fType f.bytes == 7) = some (f, s') → wokenBy s w (fParcel f.bytes) = true →
        answersWake w f (if pGet s (fParcel f.bytes) 93 1 = 0 then lanePre s n else pGet s (fParcel f.bytes) 93 1) = true →
        ∃ t, exec (.wakeAnswerRx n) s = .next t ∧ wakeOf t n = none ∧
          t.fld F.MAC_WAKE_ANSWERED_COUNT = satAdd 32 (s.fld F.MAC_WAKE_ANSWERED_COUNT) 1 ∧
          (outcome t id).map (fun ps => ps.map (fun q => q.status)) = some [0x00]) ∧
      (answerPending s n w = true → exec (.wakeRetryTimer n) s = .next s) ∧
      (answerPending s n w = false → w.attempt ≤ w.retries → ∃ t, exec (.wakeRetryTimer n) s = .next t ∧ wakeOf t n = some { w with stage := 0 }) ∧
      (answerPending s n w = false → w.retries < w.attempt → ∃ t, exec (.wakeRetryTimer n) s = .next t ∧ wakeOf t n = some { w with stage := 4 } ∧
        outcome t id = some (onePart 0x40 0 [])))

/-- Join (R359–R363), MGMT_RX (R322), neighbours (R365, R366), the verdict (R397–R401), PENDING_SESSION_EXPIRY (R396), CHILD_REPORT_RX (R419). -/
def Obligations.NodesJoinAndReport : Prop :=
  (∀ (s : State) (n : Lane) places inTime (f : RxFrame) (s' : State), s.engaged = true → holding s = false → asBow s = false →
      takeFrame s n (fun f => f.stage == 0 && fType f.bytes == 4 && f.check != .waiting) = some (f, s') →
      (fRouter f.bytes ≠ s.fld F.MAC_ROUTER_ID_ID → ∃ t, exec (.joinReqRx n places inTime) s = .next t ∧ (t.lane n).rx = (s.lane n).rx.erase f ∧
        t.fld F.CAD_FOREIGN_COUNT = satAdd 32 (s.fld F.CAD_FOREIGN_COUNT) 1 ∧ SameMemory s t) ∧
      (fRouter f.bytes = s.fld F.MAC_ROUTER_ID_ID → s.flag F.MAC_CTRL_JOIN_EN = false → ∃ t, exec (.joinReqRx n places inTime) s = .next t ∧
        t.fld F.MAC_JOIN_DEFER_COUNT = satAdd 32 (s.fld F.MAC_JOIN_DEFER_COUNT) 1 ∧ SameMemory s t) ∧
      (fRouter f.bytes = s.fld F.MAC_ROUTER_ID_ID → s.flag F.MAC_CTRL_JOIN_EN = true →
        (findEui s ((fRaw f.bytes).take 8) = none → ∃ t, exec (.joinReqRx n places inTime) s = .next t ∧
          t.fld F.MAC_JOIN_UNKNOWN_COUNT = satAdd 32 (s.fld F.MAC_JOIN_UNKNOWN_COUNT) 1 ∧ SameMemory s t) ∧
        (∀ p, findEui s ((fRaw f.bytes).take 8) = some p → f.check ≠ .current ∨ fMac f.bytes ≠ 8 ∨ f.body.length ≠ 24 →
          ∃ t, exec (.joinReqRx n places inTime) s = .next t ∧ t.fld F.MAC_JOIN_BAD_COUNT = satAdd 32 (s.fld F.MAC_JOIN_BAD_COUNT) 1 ∧
          (f.check = .keyDenied → t.fld F.CAD_MIC_FAIL_COUNT = satAdd 32 (s.fld F.CAD_MIC_FAIL_COUNT) 1 ∧ causeSet t 0x1E 1 = true) ∧
          SameMemory s t) ∧
        (∀ p, s.ready = true → findEui s ((fRaw f.bytes).take 8) = some p → f.check = .current → fMac f.bytes = 8 → f.body.length = 24 →
          fieldAt f.body 8 4 ≠ lastNonce s p → f.relay = none → joinOf s p = none → pClass s p = 1 → ∃ t, exec (.joinReqRx n places inTime) s = .next t ∧
          ((joinOf t p).map (fun j => (j.nonce, j.entries, j.complete, j.status, j.due))) =
            some (fieldAt f.body 8 4, [], inTime, 0, true) ∧ SameMemory s t))) ∧
    (∀ (s : State) (p : Fin 262144) (j : Join), joinOf s p = some j →
      (s.answers = true → j.due = false → ∃ t, exec (.joinHoldExpiry p) s = .next t ∧ joinOf t p = none ∧ t = { s with mac := t.mac }) ∧
      (s.ready = true → mayTransmit s j.info.lane = true → holding s = false → j.due = true →
        (s.lane j.info.lane).txs.any (fun t => t.kind == 3 && t.parcel == p.val) = false →
        (j.complete = false → j.status = 0 → ∃ t, exec (.joinAcceptTx p) s = .next t ∧
          t.fld F.MAC_JOIN_DEFER_COUNT = satAdd 32 (s.fld F.MAC_JOIN_DEFER_COUNT) 1 ∧
          joinOf t p = some { j with complete := true, due := false }) ∧
        (∀ bs nonce s', j.complete = true → j.path = [] →
          (sendBound s j.info.lane (fun o => o.answers j.info.ts.toNs) (acceptTx s j []).start ((acceptTx s j []).airUs * 1000)).isSome = true →
          (if j.status = 0 then generate s 4 else (some [], s)) = (some nonce, s') →
          (joinFrame s' { j with
            chip := leNat nonce, epoch := (max (pGet s' j.parcel 32 4) (pGet s' j.parcel 44 4) + 1) % 2 ^ 32,
            micLen := s'.fld F.MAC_JOIN_CFG_MICLEN, base := s'.fld F.MAC_GUARD_CFG_BASE_GUARD_US, pre := lanePre s' j.info.lane,
            gap := s'.fld F.MAC_ACK_CFG_ACK_GAP_MS }).1 = some bs →
          ∃ t x, exec (.joinAcceptTx p) s = .next t ∧ (t.lane j.info.lane).txs = (s.lane j.info.lane).txs ++ [x] ∧ x.kind = 3 ∧
            x.parcel = j.parcel ∧ x.content = .frame bs ∧ x.channel = j.channel ∧ x.start = (acceptTx s j []).start ∧
            x.mode = (if j.info.mode = 1 then 1 else 0)))) ∧
    (∀ (s : State) (n : Lane) (f : RxFrame), s.engaged = true → (s.lane n).rx.find? (fun f => f.stage == 1 && fType f.bytes == 3) = some f →
      ∃ t, exec (.mgmtRx n) s = .next t ∧ t = { s with lanes := t.lanes } ∧
        (t.lane n).rx = (if f.body ≠ [] ∧ fieldAt f.body 0 1 ∈ [0x01, 0x02, 0x30, 0x41] then
          (s.lane n).rx.map (fun x => if x == f then { x with stage := 2 } else x) else (s.lane n).rx.erase f)) ∧
    (∀ (s : State) src (k : Fin 64) data, s.operating = true → tableOpen s = true → bit (s.reg A.MAC_LOCK).toNat 3 = false →
      ∃ t, exec (.nbrEnWrite src k data) s = .next t ∧ (bit data.toNat 31 = false → nbrState t k = 0 ∧ nbrOf t k = Nbr.init) ∧
        (bit data.toNat 31 = true → (nbrState t k = 1 ∧ (nbrOf t k).watch.isSome = true) ∨ (nbrState t k = 0 ∧ lastEvent t 0x1C 0x0908))) ∧
    (∀ (s : State) (n : Lane) (f : RxFrame) (s' : State) (k : Nat), s.engaged = true → asBow s = false →
      takeFrame s n (fun f => f.stage == 0 && fType f.bytes == 0 && f.check != .waiting && fRouter f.bytes != s.fld F.MAC_ROUTER_ID_ID)
        = some (f, s') → beaconOf s' n f = some k → f.check = .current → ∃ t, exec (.nbrBeaconRx n) s = .next t ∧ nbrState t k = 1 ∧
        (nbrOf t k).misses = 0 ∧ (nbrOf t k).seen = true ∧ (t.lane n).rx = (s.lane n).rx.erase f) ∧
    (∀ (s : State) (k : Fin 64), s.engaged = true → nbrState s k ≠ 0 →
      ((nbrOf s k).seen = false → ∃ t, exec (.nbrWatchEnd k) s = .next t ∧ (nbrOf t k).misses = (nbrOf s k).misses + 1 ∧
        (nbrState s k = 1 → 2 ≤ (nbrOf s k).misses → nbrState t k = 2 ∧ causeSet t 0x1C 5 = true ∧ lastEvent t 0x1C 0x0905) ∧
        (nbrState s k ≠ 1 ∨ (nbrOf s k).misses < 2 → nbrState t k = nbrState s k)) ∧
      (nbrState s k = 2 → tableOpen s = true → ∃ t, exec (.nbrHoldExpiry k) s = .next t ∧ nbrState t k = 3 ∧ causeSet t 0x1C 6 = true ∧
        lastEvent t 0x1C 0x0907)) ∧
    (∀ (s : State) (n : Lane) places (f : RxFrame) (s' : State), s.engaged = true → holding s = false → asBow s = false →
      takeFrame s n (fun f => awaitsVerdict f && f.check != .waiting && verdictTurn s f) = some (f, s') →
      (fRouter f.bytes ≠ s.fld F.MAC_ROUTER_ID_ID → ∃ t, exec (.uplinkVerdict n places) s = .next t ∧ SameMemory s t ∧
        t.fld F.CAD_FOREIGN_COUNT = satAdd 32 (s.fld F.CAD_FOREIGN_COUNT) 1) ∧
      (fRouter f.bytes = s.fld F.MAC_ROUTER_ID_ID →
        (pInUse s (fParcel f.bytes) = false → ∃ t, exec (.uplinkVerdict n places) s = .next t ∧ SameMemory s t ∧
          t.fld F.CAD_UNKNOWN_COUNT = satAdd 32 (s.fld F.CAD_UNKNOWN_COUNT) 1 ∧ causeSet t 0x1E 0 = true) ∧
        (pInUse s (fParcel f.bytes) = true → f.check = .fail ∨ f.check = .keyDenied → ∃ t, exec (.uplinkVerdict n places) s = .next t ∧ SameMemory s t ∧
          t.fld F.CAD_MIC_FAIL_COUNT = satAdd 32 (s.fld F.CAD_MIC_FAIL_COUNT) 1 ∧ causeSet t 0x1E 1 = true) ∧
        (pInUse s (fParcel f.bytes) = true → f.check = .current → ofCurrent s (fParcel f.bytes) f = true →
          judgeCounter (pGet s (fParcel f.bytes) 64 4) (pGet s (fParcel f.bytes) 68 4) (fFcnt f.bytes) = .replay →
          ∃ t, exec (.uplinkVerdict n places) s = .next t ∧ t.fld F.CAD_REPLAYS_COUNT = satAdd 32 (s.fld F.CAD_REPLAYS_COUNT) 1 ∧
            causeSet t 0x1E 2 = true ∧ OnlyMemory s t (256 * fParcel f.bytes + 238) 2) ∧
        (∀ gap top map, pInUse s (fParcel f.bytes) = true → f.check = .current → ofCurrent s (fParcel f.bytes) f = true →
          judgeCounter (pGet s (fParcel f.bytes) 64 4) (pGet s (fParcel f.bytes) 68 4) (fFcnt f.bytes) = .new gap top map →
          ∃ t, exec (.uplinkVerdict n places) s = .next t ∧ t.fld F.CAD_UP_NEW_COUNT = satAdd 32 (s.fld F.CAD_UP_NEW_COUNT) 1 ∧
            t.fld F.CAD_UP_LOST_COUNT = satAdd 32 (s.fld F.CAD_UP_LOST_COUNT) gap ∧ pGet t (fParcel f.bytes) 64 4 = top % 2 ^ 32))) ∧
    (∀ (s : State) (p : Fin 262144), s.engaged = true → asBow s = false → holding s = false → pPend s p = true →
      ∃ t, exec (.pendingSessionExpiry p) s = .next t ∧ pPend t p = false ∧ OnlyMemory s t (256 * p.val + 9) 1 ∧
        t = { s with dram := t.dram, mac := { s.mac with joining := s.mac.joining.filter (· != p.val) } }) ∧
    (∀ (s : State) (n : Lane) (f : RxFrame) (s' : State), s.engaged = true → holding s = false → takeMessage s n 0x30 = some (f, s') →
      (pClass s (fParcel f.bytes) ≠ 2 → ∃ t, exec (.childReportRx n) s = .next t ∧ SameMemory s t ∧ (t.lane n).rx = (s.lane n).rx.erase f) ∧
      (∀ c, pInUse s (fParcel f.bytes) = true → pClass s (fParcel f.bytes) = 2 → fieldAt f.body 1 1 = 1 → f.body.length = 6 →
        c = fieldAt f.body 2 4 % 2 ^ 18 → bit (fieldAt f.body 2 4) 21 = false → pInUse s c = true → pRelayed s c = true →
        pParent s c = fParcel f.bytes → ∃ t, exec (.childReportRx n) s = .next t ∧
          bitsOf (pGet t c 20 4) 18 3 = bitsOf (fieldAt f.body 2 4) 18 3 ∧ pParent t c = pParent s c ∧ OnlyMemory s t (256 * c + 20) 4))

/-- MEAS_TIMEOUT (R302), RETIRE_TIMEOUT (R309), TONE_MAP_RX (R311), TONE_MAP_ACK_RX (R309). -/
def Obligations.ToneMapsArriveAndEnd : Prop :=
  (∀ (s : State) (n : Lane) (i : Fin 4096) (m : Meas), s.answers = true → (s.lane n).meas.find? (fun m => m.peer == i.val) = some m →
      m.ready = none → ∃ t, exec (.measTimeout n i) s = .next t ∧ (t.lane n).meas.any (fun m => m.peer == i.val) = false ∧
        t.fld (F.LOF_MEAS_TIMEOUTS_COUNT n) = satAdd 32 (s.fld (F.LOF_MEAS_TIMEOUTS_COUNT n)) 1 ∧ causeSet t (0x18 + n) 4 = true) ∧
    (∀ (s : State) (i : Fin 4096), s.answers = true → ∃ t, exec (.retireTimeout i) s = .next t ∧
      t.cad.retiring.any (fun r => r.1 == i.val) = false ∧ (s.cad.retiring.any (fun r => r.1 == i.val) = false → t = s) ∧
      t = { s with cad := { s.cad with retiring := t.cad.retiring }, dram := t.dram } ∧
      ∀ p, findPeer s i = some p → OnlyMemory s t (256 * p + 145) 1) ∧
    (∀ (s : State) (n : Lane) (f : RxFrame) (s' : State), s.answers = true → takeMessage s n 0x01 = some (f, s') →
      pInUse s (fParcel f.bytes) = true → pPeerValid s (fParcel f.bytes) = true → bit (fieldAt f.body 4 1) 0 = false →
      (toneMapOk f.body (chM s n f.channel) = false → ∃ t, exec (.toneMapRx n) s = .next t ∧ (t.lane n).rx = (s.lane n).rx.erase f ∧
        t.fld (F.LOF_MAP_RX_BAD_COUNT n) = satAdd 32 (s.fld (F.LOF_MAP_RX_BAD_COUNT n)) 1 ∧ SameMemory s t) ∧
      (toneMapOk f.body (chM s n f.channel) = true → ∃ t, exec (.toneMapRx n) s = .next t ∧ (t.lane n).rx = (s.lane n).rx.erase f ∧
        t.ramBytes (mapBase (pPeer s (fParcel f.bytes)) + 216) (27 * chM s n f.channel) = f.body.drop 7 ∧
        t.fld (F.LOF_MAPS_RECEIVED_COUNT n) = satAdd 32 (s.fld (F.LOF_MAPS_RECEIVED_COUNT n)) 1 ∧ causeSet t (0x18 + n) 2 = true)) ∧
    (∀ (s : State) (n : Lane) (f : RxFrame) (s' : State) (p : Nat), s.answers = true → takeMessage s n 0x02 = some (f, s') →
      p = fParcel f.bytes → pInUse s p = true → pPeerValid s p = true → ∃ t, exec (.toneMapAckRx n) s = .next t ∧
        (t.lane n).rx = (s.lane n).rx.erase f ∧
        (fieldAt f.body 1 2 % 2 ^ 15 = pPeer s p + 4096 * rxGen s p → t.cad.retiring.any (fun r => r.1 == pPeer s p) = false) ∧
        (fieldAt f.body 1 2 % 2 ^ 15 ≠ pPeer s p + 4096 * rxGen s p → t = { s with lanes := t.lanes }))

/-- GRANT_REQUEST (R378–R381, R387), LBT_SENSE_END (R384), RGL_BUCKET_BOUNDARY (R376), PROFILE_WRITE, PROFILE_PREPARE (R383), ACCT_SEL_WRITE (R375). -/
def Obligations.RegulatoryUnitDecides : Prop :=
  (∀ (s : State) (n : Lane) (r x : Tx), s.engaged = true → laneServed s n = true → requestOf s n = some r → grantTurn s n r = true →
      shaped s n r = (some x, s) →
      (∀ ks c, judge s (setFor s x.start) n x = .ok (ks, c) → ∃ t, exec (.grantRequest n) s = .next t ∧
        t.fld F.RGL_GRANTS_COUNT = satAdd 32 (s.fld F.RGL_GRANTS_COUNT) 1 ∧
        (∃ g, g ∈ (t.lane n).txs ∧ g.stage = 1 ∧ g.charge = c ∧ g.accts = ks ∧ g.start = x.start ∧ g.content = x.content) ∧
        (∀ k, k ∉ ks → (setFor t x.start).acct k = (setFor s x.start).acct k)) ∧
      (∀ why k, judge s (setFor s x.start) n x = .error (why, k) → ∃ t, exec (.grantRequest n) s = .next t ∧
        t.fld F.RGL_WITHHELD_COUNT = satAdd 32 (s.fld F.RGL_WITHHELD_COUNT) 1)) ∧
    (∀ (s : State) (n : Lane) (power : Int) (x : Tx), s.engaged = true → (s.lane n).txs.find? (fun t => t.stage == 2) = some x →
      (setFor s x.start).code = 6 → laneLocked s n = true → laneChannel s n = x.channel →
      (power - 8 * signed 8 (s.fld (F.RGL_EXT_GAIN_RX_GAIN n)) < -1280 → ∃ t, exec (.lbtSenseEnd n power) s = .next t ∧
        { x with stage := 3 } ∈ (t.lane n).txs ∧ t = { s with lanes := t.lanes }) ∧
      (-1280 ≤ power - 8 * signed 8 (s.fld (F.RGL_EXT_GAIN_RX_GAIN n)) → ∃ t, exec (.lbtSenseEnd n power) s = .next t ∧
        t.fld F.RGL_LBT_BUSY_COUNT = satAdd 32 (s.fld F.RGL_LBT_BUSY_COUNT) 1 ∧ causeSet t 0x1D 3 = true)) ∧
    (∀ s : State, s.answers = true → s.rgl.cur.code ≠ 0 → ∃ t, exec .rglBucketBoundary s = .next t ∧
      t.rgl.cur.bucket = s.rgl.cur.bucket + 1 ∧ t = { s with rgl := t.rgl } ∧
      ∀ k e, e ∈ (t.rgl.cur.acct k).buckets → s.rgl.cur.bucket + 1 ≤ e.1 + 16) ∧
    (∀ (s : State) src (ctrl : Bool) data a, s.inOperation = true → a = (if ctrl then A.RGL_CTRL else A.RGL_PROFILE) →
      (writeFields s src a data allBits).reg a ≠ s.reg a → ∃ t, exec (.profileWrite src ctrl data) s = .next t ∧ t.rgl.due = true ∧
        t.fld F.RGL_STATUS_PENDING = t.fld F.RGL_PROFILE_CODE ∧ t.rgl.cur = s.rgl.cur ∧ SameMemory s t) ∧
    (∀ s : State, s.answers = true → s.rgl.due = true → ∃ t, exec .profilePrepare s = .next t ∧ t.rgl.due = false ∧
      t.rgl.next.map (fun x => (x.code, x.perLane)) = some (s.fld F.RGL_PROFILE_CODE, s.flag F.RGL_CTRL_PER_LANE) ∧ t.rgl.cur = s.rgl.cur) ∧
    (∀ (s : State) src data, s.inOperation = true → ∃ t acct a, exec (.acctSelWrite src data) s = .next t ∧ t.rgl = s.rgl ∧
      acct = t.fld F.RGL_ACCT_SEL_ACCOUNT ∧ a = s.rgl.cur.acct (s.rgl.cur.key (t.fld F.RGL_ACCT_SEL_LANE) acct) ∧
      (acct < acctCount s.rgl.cur.code →
        t.reg A.RGL_ACCT_BUDGET = BitVec.ofNat 32 (ceilDiv (budgetNs s.rgl.cur.code acct) 1000) ∧
        t.reg A.RGL_ACCT_USED = BitVec.ofNat 32 (ceilDiv (a.sums.bcn + a.sums.ack + a.sums.gen) 1000) ∧
        t.reg A.RGL_ACCT_BCN = BitVec.ofNat 32 (ceilDiv a.sums.bcn 1000) ∧ t.reg A.RGL_ACCT_RSV = BitVec.ofNat 32 (ceilDiv a.reserve 1000)) ∧
      (acctCount s.rgl.cur.code ≤ acct → t.reg A.RGL_ACCT_INFO = 0#32 ∧ t.reg A.RGL_ACCT_USED = 0#32))

/-- ITEM_ADMIT (R453), ITEM_COMMIT (R458), QUEUE_FAULT_RESET_END, CELL_SWEEP_DONE (R465), EGRESS_SELECT (R475), host receive rings (R454, R457), the window (R459, R460). -/
def Obligations.QueuesTakeAndDeliverItems : Prop :=
  (∀ (s : State) (q : Fin 4096) (kind inst : Fin 16) ptp aux ts bytes, s.operating = true →
      ((s.queue q).admits = false → ∃ t, exec (.itemAdmit q kind inst ptp aux ts bytes) s = .next t ∧ (t.queue q).items = (s.queue q).items ∧
        (t.queue q).producing = (s.queue q).producing ∧ (t.queue q).dropping = true ∧ (t.queue q).drops = satAdd 32 (s.queue q).drops 1 ∧
        (t.queue q).seqNext = (if (s.queue q).dropBreak then ((s.queue q).seqNext + 1) % 2 ^ 32 else (s.queue q).seqNext) ∧
        (t.queue q).breakPending.isSome = ((s.queue q).breakPending.isSome || (s.queue q).dropBreak) ∧
        t.fld F.FAB_DROPS_COUNT = satAdd 32 (s.fld F.FAB_DROPS_COUNT) 1 ∧ causeSet t 0x20 3 = true ∧ SameMemory s t) ∧
      (∀ d s1 hs s2, (s.queue q).admits = true → (s.queue q).breakPending = none → takeDesc s = some (d, s1) →
        takeCells s1 (kind.val == 3) (max 1 (ceilDiv bytes.length 256)) = (hs, s2) → hs.length = max 1 (ceilDiv bytes.length 256) →
        ∃ t, exec (.itemAdmit q kind inst ptp aux ts bytes) s = .next t ∧
          (t.queue q).items = (s.queue q).items ∧ (t.queue q).dropping = false ∧ (t.queue q).seqNext = (s.queue q).seqNext ∧
          (∃ i, (t.queue q).producing = (s.queue q).producing ++ [i] ∧ (i.bytes, i.src, i.cells, i.dramDesc, i.committed) =
            (bytes, kind.val * 16 + inst.val, hs, d, false)) ∧ SameMemory s t)) ∧
    (∀ (s : State) (q : Fin 4096) (rest : List Byte), s.operating = true → (s.queue q).ptrA = (s.queue q).ptrB →
      (∀ i more, (s.queue q).producing = i :: more → (s.queue q).items.any (fun x => x.begun && !x.committed) = false →
        i.isBreak = false → i.cells ≠ [] → more.all (fun p => p.buf != i.buf) = true →
        ((s.queue q).items.any (fun x => x.isBreak) = false → i.trunc = false → policed s q i = false → i.bytes.length + rest.length ≤ 256 * i.cells.length →
          ∃ t, exec (.itemCommit q rest true false) s = .next t ∧
            (t.queue q).producing = more ∧ (t.queue q).seqNext = ((s.queue q).seqNext + 1) % 2 ^ 32 ∧
            (t.queue q).items = (s.queue q).items ++ [{ i with bytes := i.bytes ++ rest, qseq := (s.queue q).seqNext, committed := true }] ∧
            t.fld F.FAB_ENQUEUED_COUNT = satAdd 32 (s.fld F.FAB_ENQUEUED_COUNT) 1 ∧ SameMemory s t) ∧
        (∃ t, exec (.itemCommit q rest false false) s = .next t ∧ (t.queue q).producing = more ∧
          (t.queue q).items = (s.queue q).items ∧ (t.queue q).seqNext = (s.queue q).seqNext ∧
          (∀ h, h ∈ i.cells → h ∉ t.fab.sramUsed) ∧ SameMemory s t)) ∧
      (∀ good i more, (s.queue q).items = i :: more → i.begun = true → i.committed = false →
        i.bytes.length + rest.length ≤ 256 * i.cells.length → ∃ t, exec (.itemCommit q rest good false) s = .next t ∧
          (t.queue q).items = { i with bytes := i.bytes ++ rest, trunc := i.trunc || !good, committed := true } :: more ∧
          (t.queue q).producing = (s.queue q).producing ∧ (t.queue q).seqNext = (s.queue q).seqNext ∧
          t.fld F.FAB_ENQUEUED_COUNT = satAdd 32 (s.fld F.FAB_ENQUEUED_COUNT) 1 ∧ SameMemory s t) ∧
      (∀ good, (s.queue q).state ≠ 0 → (s.queue q).stopping = false → ∃ t, exec (.itemCommit q rest good true) s = .next t ∧
        (t.queue q).state = 3 ∧ (t.queue q).producing = [] ∧ (t.queue q).ptrA = (t.queue q).ptrB ∧
        t.fld F.FAB_QUEUE_FAULTS_COUNT = satAdd 32 (s.fld F.FAB_QUEUE_FAULTS_COUNT) 1 ∧ causeSet t 0x20 0 = true ∧ lastEvent t 0x20 0x0D00 ∧
        (∀ i more, (s.queue q).items = i :: more → (s.queue q).items.any (fun x => x.isBreak || x.begun) = false →
          (s.queue q).producing = [] → (s.queue q).waiting = none → (s.queue q).breakPending = none →
          t.fld F.FAB_MARKERS_COUNT = satAdd 32 (s.fld F.FAB_MARKERS_COUNT) 1 ∧
          ∃ m, (t.queue q).items = [m] ∧ m.isBreak = true ∧ m.cause = 2 ∧ m.first = i.qseq ∧ m.last = (more.getLastD i).qseq))) ∧
    (∀ (s : State) (q : Fin 4096), s.answers = true →
      ((s.queue q).state ≠ 3 → exec (.queueFaultResetEnd q) s = .next s) ∧
      ((s.queue q).state = 3 → (s.queue q).stopping = false →
        (s.queue q).dest < 2 ∨ 4 < (s.queue q).dest ∨ (∀ m rest, (s.queue q).items = m :: rest → m.isBreak = false ∨ m.begun = true) →
        ∃ t, exec (.queueFaultResetEnd q) s = .next t ∧ t.queue q = { s.queue q with state := 1 } ∧ t = { s with fab := t.fab }) ∧
      (∀ m rest, (s.queue q).state = 3 → 2 ≤ (s.queue q).dest → (s.queue q).dest ≤ 4 → (s.queue q).items = m :: rest → m.isBreak = true →
        m.begun = false → (s.queue q).autoResume = false → ∃ t, exec (.queueFaultResetEnd q) s = .next t ∧ (t.queue q).state = 2 ∧
          (t.queue q).items = { m with begun := true } :: rest ∧
          t.fld F.FAB_DEQUEUED_COUNT = satAdd 32 (s.fld F.FAB_DEQUEUED_COUNT) 1)) ∧
    (∀ s : State, s.answers = true → ∃ t, exec .cellSweepDone s = .next t ∧ t.fab.sweep = [] ∧ t.fab.queues = s.fab.queues ∧
      (∀ h, h ∈ s.fab.sweep → h ∉ t.fab.sramUsed) ∧ (∀ h, h ∉ s.fab.sweep → (h ∈ t.fab.sramUsed ↔ h ∈ s.fab.sramUsed))) ∧
    (∀ (s : State) (e : Fin 10), egressWorks s e = true → (s.egress e).serving = none → egressReady s e = true →
      (queuePick (egressPrep s e) e = none → ∃ t, exec (.egressSelect e) s = .next t ∧
        (t.egress e).serving = none ∧ SameMemory s t ∧ t.fab = s.fab) ∧
      (∀ s' q i, queuePick (egressPrep s e) e = some (s', q) → headFor s' e (s'.queue q) = some i →
        (e.val < 2 ∨ hrxNeeds s (e.val - 2) i ≤ hrxFree s (e.val - 2)) → ∃ t, exec (.egressSelect e) s = .next t ∧
          (t.egress e).serving = some q ∧ SameMemory s t)) ∧
    (∀ (s : State) (k : Fin 8) (q : Nat) (i : Item) (rest : List Item), (s.egress (2 + k.val)).serving = some q →
      egressWorks s (2 + k.val) = true → s.fld (F.FAB_HRX_STATUS_STATE k) = 1 → s.host.busMaster = true → (s.queue q).items = i :: rest →
      i.committed = true → hrxNeeds s k i ≤ hrxFree s k →
      (i.isBreak = false → (s.queue q).ptrA = (s.queue q).ptrB → rest.any (fun x => x.isBreak) = false → ∃ t, exec (.hrxItemWrite k true) s = .next t ∧
        (t.egress (2 + k.val)).serving = none ∧ (t.queue q).items = rest ∧ t.fld (F.FAB_HRX_STATUS_STATE k) = 1 ∧
        t.fld F.FAB_DEQUEUED_COUNT = satAdd 32 (s.fld F.FAB_DEQUEUED_COUNT) 1) ∧
      (∃ t, exec (.hrxItemWrite k false) s = .next t ∧ t.fld (F.FAB_HRX_STATUS_STATE k) = 3 ∧ causeSet t 0x20 31 = true ∧ t.fab = s.fab)) ∧
    (∀ (s : State) src (k : Fin 8) (data : Word), s.inOperation = true →
      (bit data.toNat 1 = false → s.fld (F.FAB_HRX_STATUS_STATE k) = 1 → bit data.toNat 0 = false →
        ∃ t, exec (.hrxEnableWrite src k data) s = .next t ∧
          t.fld (F.FAB_HRX_STATUS_STATE k) = if (s.egress (2 + k.val)).serving.isSome then 2 else 0) ∧
      (bit data.toNat 1 = false → s.fld (F.FAB_HRX_STATUS_STATE k) = 0 → bit data.toNat 0 = true →
        ∃ t, exec (.hrxEnableWrite src k data) s = .next t ∧ t.fld (F.FAB_HRX_STATUS_STATE k) = if hrxConfigOk t k then 1 else 0) ∧
      (s.fld (F.FAB_HRX_STATUS_STATE k) = 0 ∨ s.fld (F.FAB_HRX_STATUS_STATE k) = 3 → ∃ t, exec (.hrxReset src k) s = .next t ∧
        t.reg (A.FAB_HRX_HEAD k) = 0#32 ∧ t.reg (A.FAB_HRX_TAIL k) = 0#32 ∧ t.fld (F.FAB_HRX_STATUS_STATE k) = 0 ∧ hrxPhase t k = true) ∧
      (∃ t, exec (.hrxHeadWrite src k data) s = .next t ∧ t.fld (F.FAB_HRX_HEAD_HEAD k) = bitsOf data.toNat 0 14 ∧
        OnlyRegs s t [A.FAB_HRX_HEAD k]) ∧
      (∃ t, exec (.qwSelWrite src data) s = .next t ∧ t.fld F.QW_SEL_QUEUE = bitsOf data.toNat 0 12 ∧ t.fab.popBytes = [] ∧
        OnlyRegs s t [A.QW_SEL]) ∧
      (bit data.toNat 31 = true → (s.queue (qwQueue s)).state = 0 → ∃ t, exec (.qwQcfgWrite src data) s = .next t ∧
        (t.queue (qwQueue s)).state = 1 ∧ (t.queue (qwQueue s)).seqNext = 0 ∧ bit (t.queue (qwQueue s)).cfg.toNat 31 = true) ∧
      (bit data.toNat 31 = false → (s.queue (qwQueue s)).state = 1 → (s.queue (qwQueue s)).items = [] →
        (s.queue (qwQueue s)).producing = [] → ∃ t, exec (.qwQcfgWrite src data) s = .next t ∧ (t.queue (qwQueue s)).state = 0)) ∧
    (∀ (s : State) src, s.inOperation = true → src ≠ .jtag →
      (∀ i rest, (s.queue (qwQueue s)).dest = 1 → (s.queue (qwQueue s)).state = 1 → (s.queue (qwQueue s)).items = i :: rest → i.isBreak = false →
        (s.queue (qwQueue s)).ptrA = (s.queue (qwQueue s)).ptrB → ∃ t, exec (.qwPopRead src) s = .next t ∧ (t.queue (qwQueue s)).items = rest ∧ t.fab.popBytes = i.bytes ∧
          t.fld F.FAB_DEQUEUED_COUNT = satAdd 32 (s.fld F.FAB_DEQUEUED_COUNT) 1) ∧
      ((s.queue (qwQueue s)).dest = 1 → (s.queue (qwQueue s)).state = 1 → (s.queue (qwQueue s)).items = [] →
        ∃ t, exec (.qwPopRead src) s = .next t ∧ (t.queue (qwQueue s)).underrun = true ∧ causeSet t 0x20 2 = true ∧
          t.fld F.FAB_UNDERRUNS_COUNT = satAdd 32 (s.fld F.FAB_UNDERRUNS_COUNT) 1) ∧
      (s.fab.popBytes ≠ [] → ∃ t, exec (.qwDataRead src) s = .next t ∧ t.fab.popBytes = s.fab.popBytes.drop 4 ∧
        t.out = s.out ++ [.readData src A.QW_DATA (BitVec.ofNat 32 (fieldAt s.fab.popBytes 0 4))] ∧ OnlyRegs s t []) ∧
      (s.fab.popBytes = [] → ∃ t, exec (.qwDataRead src) s = .next t ∧ t.out = s.out ++ [.readData src A.QW_DATA s.fab.popLast] ∧
        t.fld F.FAB_UNDERRUNS_COUNT = satAdd 32 (s.fld F.FAB_UNDERRUNS_COUNT) 1))

/-- TSS_REFILL (R477, R484), RADIO_SHAPER_TICK (R482), SAMPLE_INSTANT (R494), ST_SNAP, ST_SNAP_DONE and ST_CLEAR (R495, R496), GCL_SWITCH (R489), GCL_SWITCH_INSTANT (R490), GATE_ENTRY_ADVANCE and GCL_WIN_DATA_ACCESS (R487). -/
def Obligations.ShapersStatisticsAndGateListsRun : Prop :=
  (∀ s : State, s.answers = true →
      (∃ t, exec .tssRefill s = .next t ∧ (∀ q, t.queue q = (s.queue q).refill) ∧ (∀ e c, t.cls e c = (s.cls e c).refill) ∧
        (∀ p, t.policer p = (s.policer p).refill) ∧ t = { s with fab := t.fab, tss := t.tss }) ∧
      (∃ t, exec .radioShaperTick s = .next t ∧ t = { s with tss := { s.tss with radio := t.tss.radio } } ∧
        ∀ k, k < 16 → radioShaper t (k / 4) (k % 4) = (radioShaper s (k / 4) (k % 4)).tick (s.flag (F.TSS_RSHAPE_c_EN k))
          (s.fld (F.TSS_RSHAPE_c_RATE k)) (s.fld (F.TSS_RSHAPE_c_BURST k)))) ∧
    (∀ s : State, s.operating = true → (crossed s 0 (sampleNs (s.fld F.TSS_SAMPLE_CFG_CODE)) = false → exec .sampleInstant s = .next s) ∧
      (crossed s 0 (sampleNs (s.fld F.TSS_SAMPLE_CFG_CODE)) = true → s.dtm.sampledAt ≠ some s.dev.upCycles →
      ∃ t, exec .sampleInstant s = .next t ∧ t.dtm.sampledAt = some s.dev.upCycles ∧
      (∀ q, t.queue q = if bit (s.queue q).cfg.toNat 31 then (sampleQueue s (s.queue q)).1 else s.queue q) ∧
      t.fld F.TSS_STATUS_SAMPLE_CODE = s.fld F.TSS_SAMPLE_CFG_CODE ∧ causeSet t 0x22 0 = true ∧ OnlyRegs s t [A.TSS_STATUS, 0x22010])) ∧
    (∀ (s : State) (src : Requester), s.inOperation = true →
      (s.flag F.TSS_ST_CTRL_SNAP = false → ∃ t, exec (.stSnap src) s = .next t ∧ t.tss = { s.tss with snapping := some (s.fld F.TSS_SEL_QUEUE) } ∧
        t.flag F.TSS_ST_CTRL_SNAP = true ∧ t.flag F.TSS_ST_SAMPLES_VALID = false ∧ OnlyRegs s t [A.TSS_ST_CTRL, A.TSS_ST_SAMPLES] ∧
        t = { s with regs := t.regs, tss := t.tss }) ∧
      (∃ t, exec (.stClear src) s = .next t ∧ (∀ q, t.queue q = if q = s.fld F.TSS_SEL_QUEUE
          then { s.queue q with samples := 0, depth := Stat.init, delay := Stat.init } else s.queue q) ∧ t = { s with fab := t.fab })) ∧
    (∀ (s : State) (q : Nat), s.tss.snapping = some q → s.bus.goPending.contains (A.TSS_ST_CTRL * 32) = false →
      ∃ t, exec .stSnapDone s = .next t ∧ t.reg A.TSS_ST_SAMPLES = BitVec.ofNat 32 (2 ^ 31 + (s.queue q).samples) ∧
        t.reg A.TSS_ST_DEPTH_MIN = BitVec.ofNat 32 (s.queue q).depth.min ∧ t.reg A.TSS_ST_DEPTH_MAX = BitVec.ofNat 32 (s.queue q).depth.max ∧
        t.reg A.TSS_ST_DELAY_MIN = BitVec.ofNat 32 (s.queue q).delay.min ∧ t.reg A.TSS_ST_DELAY_MAX = BitVec.ofNat 32 (s.queue q).delay.max ∧
        (∀ i, i < 16 → t.reg (A.TSS_ST_DEPTH_HIST i) = BitVec.ofNat 32 (Tbl.get (fun _ => 0) (s.queue q).depth.bins i) ∧
          t.reg (A.TSS_ST_DELAY_HIST i) = BitVec.ofNat 32 (Tbl.get (fun _ => 0) (s.queue q).delay.bins i)) ∧
        t.tss.snapping = none ∧ t.flag F.TSS_ST_CTRL_SNAP = false ∧ t = { s with regs := t.regs, tss := t.tss }) ∧
    (∀ (s : State) (src : Requester) (x : Fin 6), s.inOperation = true → gateLocked s x = false → s.flag (F.GCL_L_CTRL_SWITCH x) = false →
      (gateReject s x (adminParams s x).1 (adminParams s x).2.1 (1 - operBank s x) = none → ∃ t, exec (.gclSwitch src x) s = .next t ∧
        t.flag (F.GCL_L_CTRL_SWITCH x) = true ∧ (∀ y, t.gate y = if y = x.val then
          { s.gate y with switch := some ⟨(adminParams s x).1, (adminParams s x).2.1, (adminParams s x).2.2,
            switchInstant (adminParams s x).2.1 (adminParams s x).2.2 s.nowNs⟩ } else s.gate y) ∧
        OnlyRegs s t [A.GCL_L_CTRL x] ∧ t = { s with regs := t.regs, gates := t.gates }) ∧
      (∀ r, gateReject s x (adminParams s x).1 (adminParams s x).2.1 (1 - operBank s x) = some r → ∃ t, exec (.gclSwitch src x) s = .next t ∧
        t.flag (F.GCL_L_CTRL_SWITCH x) = false ∧ t.gates = s.gates ∧ t.fld F.GCL_REJECTS_COUNT = satAdd 32 (s.fld F.GCL_REJECTS_COUNT) 1 ∧
        causeSet t 0x23 1 = true ∧ lastEvent t 0x23 0x0E01 ∧ OnlyRegs s t [A.GCL_L_CTRL x, A.GCL_REJECTS, 0x23010])) ∧
    (∀ (s : State) (x : Fin 6) (w : GateSwitch), s.answers = true → (s.gate x).switch = some w → w.at_ ≤ s.nowNs →
      s.bus.goPending.contains (A.GCL_L_CTRL x * 32 + 8) = false → ∃ t, exec (.gclSwitchInstant x) s = .next t ∧
        operBank t x = 1 - operBank s x ∧ t.flag (F.GCL_L_CTRL_LOADED x) = true ∧ t.flag (F.GCL_L_CTRL_SWITCH x) = false ∧
        ((t.gate x).len, (t.gate x).cycle, (t.gate x).base, (t.gate x).switch, (t.gate x).unfit) = (w.len, w.cycle, w.base, none, false) ∧
        t.fld (F.GCL_L_OPER_CYCLE_CYCLE x) = (if x.val < 2 then w.cycle else w.cycle / 1000) % 2 ^ 32 ∧
        t.fld F.GCL_SWITCHES_COUNT = satAdd 32 (s.fld F.GCL_SWITCHES_COUNT) 1 ∧ causeSet t 0x23 0 = true ∧ lastEvent t 0x23 0x0E00) ∧
    (∀ (s : State) (x : Fin 6), s.answers = true → ∃ t, exec (.gateEntryAdvance x) s = .next t ∧
      t.fld (F.GCL_L_OPER_STATE_ENTRY x) = (gatesNow s x).1 % 256 ∧ t.fld (F.GCL_L_OPER_STATE_GATES x) = (gatesNow s x).2 % 256 ∧
      OnlyRegs s t [A.GCL_L_OPER_STATE x] ∧ t = { s with regs := t.regs, gates := t.gates }) ∧
    (∀ (s : State) (src : Requester) (x b i : Nat), s.inOperation = true → x = s.fld F.GCL_WIN_SEL_LIST → b = s.fld F.GCL_WIN_SEL_BANK →
      i = s.fld F.GCL_WIN_SEL_ENTRY → x < 2 ∨ i < 64 →
      (∃ t, exec (.gclWinDataAccess src none) s = .next t ∧ t.out = s.out ++ [.readData src A.GCL_WIN_DATA ((s.gate x).entry b i)] ∧
        t.gates = s.gates ∧ OnlyRegs s t [A.GCL_WIN_SEL] ∧
        t.fld F.GCL_WIN_SEL_ENTRY = if s.flag F.GCL_WIN_CTRL_INC = true ∧ src ≠ .jtag then (i + 1) % 256 else i) ∧
      (∀ w, gateLocked s x = false → b ≠ operBank s x → s.flag (F.GCL_L_CTRL_SWITCH x) = false →
        ∃ t, exec (.gclWinDataAccess src (some w)) s = .next t ∧
          (∀ c j, c < 2 → (t.gate x).entry c j = if c = b ∧ j = i then entryWord x w else (s.gate x).entry c j) ∧ (∀ y, y ≠ x → t.gate y = s.gate y) ∧
          t.out = s.out ∧ OnlyRegs s t [A.GCL_WIN_SEL] ∧
          t.fld F.GCL_WIN_SEL_ENTRY = if s.flag F.GCL_WIN_CTRL_INC = true then (i + 1) % 256 else i))

/-- ETH_LINK_CHANGE (R500, R501), AN_DONE (R499), ETH_MODE_WRITE (R502), PAUSE_EXPIRY (R511), PAUSE_WDOG_FIRE and PAUSE_HOLD_END (R512), PAUSE_TX_REPEAT (R513), LPI_ENTER (R514), LPI_WAKE_DONE (R515), MDIO_GO and MDIO_DONE (R525). -/
def Obligations.PortsLinkPauseSleepAndManage : Prop :=
  (∀ (s : State) (x : EthPort) (rate : Fin 5) (sending : Bool), s.operating = true →
      rate.val = 0 ∨ modeRate (s.fld (F.EM_MODE_CFG_MODE x)) (s.flag (F.EM_MODE_CFG_AN_EN x)) rate = true →
      (s.fld (F.EM_STATUS_RATE x) = rate.val → exec (.ethLinkChange x rate sending) s = .next s) ∧
      (s.fld (F.EM_STATUS_RATE x) ≠ rate.val → ∃ t, exec (.ethLinkChange x rate sending) s = .next t ∧
        t.fld (F.EM_STATUS_RATE x) = rate.val ∧ t.flag (F.EM_STATUS_LINK x) = (rate.val != 0) ∧
        (rate.val = 0 → t.flag (F.EM_STATUS_AN_DONE x) = false ∧ t.flag (F.EM_STATUS_LPI_TX x) = false ∧ (t.egress x).serving = none ∧
          (t.port x).waking = false ∧ (t.port x).pauseDue = []) ∧
        causeSet t (0x24 + x) 0 = true ∧ lastEvent t (0x24 + x) 0x0F00)) ∧
    (∀ (s : State) (x : EthPort) (pause : Bool), s.operating = true → s.flag (F.EM_MODE_CFG_AN_EN x) = true →
      s.fld (F.EM_MODE_CFG_MODE x) = 1 ∨ s.fld (F.EM_MODE_CFG_MODE x) = 2 →
      (∃ t, exec (.anDone x true pause) s = .next t ∧ t.flag (F.EM_STATUS_AN_DONE x) = true ∧
        t.port x = { s.port x with pauseResolved := pause } ∧ OnlyRegs s t [A.EM_STATUS x] ∧ t = { s with regs := t.regs, ports := t.ports }) ∧
      (∃ t, exec (.anDone x false pause) s = .next t ∧ t.fld (F.EM_STATUS_RATE x) = 0 ∧ causeSet t (0x24 + x) 1 = true)) ∧
    (∀ (s : State) (src : Requester) (x : EthPort) (data : Word), s.inOperation = true →
      (s.flag (F.EM_CTRL_TX_EN x) = true ∨ s.flag (F.EM_CTRL_RX_EN x) = true → ∃ t, exec (.ethModeWrite src x data) s = .next t ∧
        causeSet t (0x24 + x) 31 = true ∧ errCaptured s t (0x24 + x) 0x80 src.code (A.EM_MODE_CFG x) ∧
        OnlyRegs s t [(0x24 + x) * 0x1000 + 0x010, (0x24 + x) * 0x1000 + 0x01C, (0x24 + x) * 0x1000 + 0x020] ∧
        t = { s with regs := t.regs, host := t.host, out := t.out }) ∧
      (s.flag (F.EM_CTRL_TX_EN x) = false → s.flag (F.EM_CTRL_RX_EN x) = false → s.flag (F.EM_LOCK_LOCK0 x) = false →
        ∃ t, exec (.ethModeWrite src x data) s = .next t ∧ t.fld (F.EM_MODE_CFG_MODE x) = data.toNat % 4 ∧
          t.flag (F.EM_MODE_CFG_AN_EN x) = bit data.toNat 4 ∧ t.fld (F.EM_STATUS_RATE x) = 0 ∧ t.flag (F.EM_STATUS_AN_DONE x) = false ∧
          (t.port x).pauseResolved = false)) ∧
    (∀ (s : State) (x : EthPort), s.operating = true →
      (∃ t, exec (.pauseExpiry x) s = .next t ∧ t.flag (F.EM_STATUS_PAUSED x) = false ∧ t.fld (F.EM_STATUS_RATE x) = s.fld (F.EM_STATUS_RATE x) ∧
        OnlyRegs s t [A.EM_STATUS x] ∧ t = { s with regs := t.regs }) ∧
      (∃ t, exec (.pauseHoldEnd x) s = .next t ∧ t.flag (F.EM_STATUS_HOLD x) = false ∧ t.fld (F.EM_STATUS_RATE x) = s.fld (F.EM_STATUS_RATE x) ∧
        OnlyRegs s t [A.EM_STATUS x] ∧ t = { s with regs := t.regs }) ∧
      (s.flag (F.EM_STATUS_PAUSED x) = true → ∃ t, exec (.pauseWdogFire x) s = .next t ∧ t.flag (F.EM_STATUS_PAUSED x) = false ∧
        t.flag (F.EM_STATUS_HOLD x) = true ∧ t.fld (F.EM_PAUSE_WDOG_TRIPS_COUNT x) = satAdd 32 (s.fld (F.EM_PAUSE_WDOG_TRIPS_COUNT x)) 1 ∧
        causeSet t (0x24 + x) 2 = true ∧ lastEvent t (0x24 + x) 0x0F01 ∧
        OnlyRegs s t [A.EM_STATUS x, A.EM_PAUSE_WDOG_TRIPS x, (0x24 + x) * 0x1000 + 0x010]) ∧
      (s.flag (F.EM_PAUSE_CFG_TX_PAUSE x) = true → sramFree s < s.fld F.FAB_BUF_CFG_LOW_CELLS → portUp s x = true →
        (s.flag (F.EM_STATUS_LPI_TX x) = false → (s.port x).waking = false → frameInProgress s x = true →
          ∃ t, exec (.pauseTxRepeat x) s = .next t ∧ t.out = s.out ∧ OnlyRegs s t [] ∧
            t.port x = { s.port x with pauseDue := (s.port x).pauseDue ++ [s.fld (F.EM_PAUSE_CFG_TX_QUANTA x)] }) ∧
        (s.flag (F.EM_STATUS_LPI_TX x) = false → (s.port x).waking = false → frameInProgress s x = false → (s.port x).pauseDue = [] →
          ∃ t, exec (.pauseTxRepeat x) s = .next t ∧
          t.out = s.out ++ [.eth x (pauseFrame x (s.fld (F.EM_PAUSE_CFG_TX_QUANTA x)))] ∧
          t.fld (F.EM_TX_PAUSE_COUNT x) = satAdd 32 (s.fld (F.EM_TX_PAUSE_COUNT x)) 1 ∧ OnlyRegs s t [A.EM_TX_PAUSE x]) ∧
        (s.flag (F.EM_STATUS_LPI_TX x) = true → ∃ t, exec (.pauseTxRepeat x) s = .next t ∧ t.flag (F.EM_STATUS_LPI_TX x) = false ∧
          t.port x = { s.port x with waking := true, pauseDue := (s.port x).pauseDue ++ [s.fld (F.EM_PAUSE_CFG_TX_QUANTA x)] } ∧ t.out = s.out ∧
          OnlyRegs s t [A.EM_STATUS x])) ∧
      (s.flag (F.EM_EEE_CFG_EN x) = true → 3 ≤ s.fld (F.EM_STATUS_RATE x) → portHasItem s x = false → s.pow.lgDue = [] →
        (s.port x).pauseDue = [] → (s.port x).waking = false → s.flag (F.EM_STATUS_LPI_TX x) = false → ∃ t, exec (.lpiEnter x) s = .next t ∧
          t.flag (F.EM_STATUS_LPI_TX x) = true ∧ t.fld (F.EM_LPI_ENTRIES_COUNT x) = satAdd 32 (s.fld (F.EM_LPI_ENTRIES_COUNT x)) 1 ∧
          OnlyRegs s t [A.EM_STATUS x, A.EM_LPI_ENTRIES x] ∧ t = { s with regs := t.regs }) ∧
      ((s.port x).waking = true →
        ((s.port x).pauseDue = [] ∨ frameInProgress s x = true → ∃ t, exec (.lpiWakeDone x) s = .next t ∧
          t.flag (F.EM_STATUS_LPI_TX x) = false ∧ t.port x = { s.port x with waking := false } ∧ t.out = s.out ∧ OnlyRegs s t [A.EM_STATUS x]) ∧
        (frameInProgress s x = false → ∃ t, exec (.lpiWakeDone x) s = .next t ∧
          t.port x = { s.port x with waking := false, pauseDue := [] } ∧
          t.out = s.out ++ (s.port x).pauseDue.map (fun q => Out.eth x (pauseFrame x q)) ∧
          t.fld (F.EM_TX_PAUSE_COUNT x) = satAdd 32 (s.fld (F.EM_TX_PAUSE_COUNT x)) (s.port x).pauseDue.length ∧
          OnlyRegs s t [A.EM_STATUS x, A.EM_TX_PAUSE x])) ∧
      (∀ data : BitVec 16, s.flag (F.EM_MDIO_CMD_GO x) = true → s.bus.goPending.contains (A.EM_MDIO_CMD x * 32 + 31) = false →
        ∃ t, exec (.mdioDone x data) s = .next t ∧ t.flag (F.EM_MDIO_CMD_GO x) = false ∧ causeSet t (0x24 + x) 7 = true ∧
          ((s.port x).mdioRead = true → t.fld (F.EM_MDIO_DATA_DATA x) = data.toNat ∧ t.flag (F.EM_MDIO_DATA_VALID x) = true) ∧
          ((s.port x).mdioRead = false → t.reg (A.EM_MDIO_DATA x) = s.reg (A.EM_MDIO_DATA x)) ∧
          OnlyRegs s t [A.EM_MDIO_CMD x, A.EM_MDIO_DATA x, (0x24 + x) * 0x1000 + 0x010])) ∧
    (∀ (s : State) (src : Requester) (x : EthPort) (data : Word), s.inOperation = true → s.flag (F.EM_MDIO_CMD_GO x) = false →
      bit data.toNat 30 = true ∨ bitsOf data.toNat 28 2 = 1 ∨ bitsOf data.toNat 28 2 = 2 → ∃ t, exec (.mdioGo src x data) s = .next t ∧
        t.flag (F.EM_MDIO_CMD_GO x) = true ∧ t.flag (F.EM_MDIO_DATA_VALID x) = false ∧
        (t.port x).mdioRead = (if bit data.toNat 30 then decide (2 ≤ bitsOf data.toNat 28 2) else bitsOf data.toNat 28 2 == 2) ∧
        t.out = s.out ++ [.mdio x (bit data.toNat 30) (bitsOf data.toNat 28 2) (bitsOf data.toNat 21 5) (bitsOf data.toNat 16 5) (bitsOf data.toNat 0 16)] ∧
        OnlyRegs s t [A.EM_MDIO_CMD x, A.EM_MDIO_DATA x] ∧ t = { s with regs := t.regs, ports := t.ports, out := t.out })

/-- ETH_RX_FRAME (R504, R507–R509, R511), ETH_TX_BEGIN (R505, R510), SA_CFG_WRITE (R521), TUNNEL_ENCAP and TUNNEL_DECAP (R523, R524), TXTS_POP (R519), CCM_REQUEST (R393, R397). -/
def Obligations.FramesPassThePortsTunnelsAndKeys : Prop :=
  (∀ (s : State) (x : EthPort) (frame bs : List Byte), s.operating = true → s.flag (F.EM_CTRL_RX_EN x) = true → portMbps s x ≠ 0 →
      bs = frame.take (frame.length - 4) →
      (s.fld (F.EM_FRAME_CFG_MAX_FRAME x) < frame.length → ∃ t, exec (.ethRxFrame x frame) s = .next t ∧
        t.fld (F.EM_RX_OVERSIZE_COUNT x) = satAdd 32 (s.fld (F.EM_RX_OVERSIZE_COUNT x)) 1 ∧ OnlyRegs s t [A.EM_RX_OVERSIZE x] ∧ t = { s with regs := t.regs }) ∧
      (frame.length ≤ s.fld (F.EM_FRAME_CFG_MAX_FRAME x) →
        (leNat (frame.drop (frame.length - 4)) ≠ crc32 bs → ∃ t, exec (.ethRxFrame x frame) s = .next t ∧
          t.fld (F.EM_RX_FCS_ERR_COUNT x) = satAdd 32 (s.fld (F.EM_RX_FCS_ERR_COUNT x)) 1 ∧ OnlyRegs s t [A.EM_RX_FCS_ERR x] ∧ t = { s with regs := t.regs }) ∧
        (leNat (frame.drop (frame.length - 4)) = crc32 bs →
          (frame.length < 64 → ∃ t, exec (.ethRxFrame x frame) s = .next t ∧
            t.fld (F.EM_RX_RUNT_COUNT x) = satAdd 32 (s.fld (F.EM_RX_RUNT_COUNT x)) 1 ∧ OnlyRegs s t [A.EM_RX_RUNT x] ∧ t = { s with regs := t.regs }) ∧
          (64 ≤ frame.length → be16 bs 12 ≠ 0x8808 → s.flag (F.EM_MACSEC_CFG_RX_EN x) = false → rxQueue s x bs ≤ 4095 →
            s.flag (F.EM_VLAN_CFG_RX_STRIP x) = false ∨ outerTag s x bs = none → ∃ t, exec (.ethRxFrame x frame) s = .next t ∧
            t = (enqueue (s.count (F.EM_RX_FRAMES_COUNT x) 1) (rxQueue s x bs) { Item.blank with
              bytes := bs, aux := 2 ^ 19 * b01 (ptpEvent s x bs).isSome, ts := rxStamp s x, src := 16 + x,
              ptpOneStep := (ptpEvent s x bs).isSome && s.flag (F.EM_FRAME_CFG_TC_EN x) } false).2) ∧
          (64 ≤ frame.length → be16 bs 12 = 0x8808 → be16 bs 14 = 1 → s.flag (F.EM_STATUS_HOLD x) = false →
            s.flag (F.EM_PAUSE_CFG_RX_PAUSE x) = true → s.flag (F.EM_MODE_CFG_AN_EN x) = false → ∃ t, exec (.ethRxFrame x frame) s = .next t ∧
            t.fld (F.EM_RX_FRAMES_COUNT x) = satAdd 32 (s.fld (F.EM_RX_FRAMES_COUNT x)) 1 ∧
            t.fld (F.EM_RX_PAUSE_COUNT x) = satAdd 32 (s.fld (F.EM_RX_PAUSE_COUNT x)) 1 ∧
            t.flag (F.EM_STATUS_PAUSED x) = (be16 bs 16 != 0) ∧ OnlyRegs s t [A.EM_RX_FRAMES x, A.EM_RX_PAUSE x, A.EM_STATUS x] ∧
            t = { s with regs := t.regs })))) ∧
    (∀ (s : State) (x : EthPort) (q : Nat) (i : Item) (rest : List Item) (bs : List Byte), s.operating = true → (s.egress x).serving = some q →
      (s.queue q).items = i :: rest → i.isBreak = false → i.committed = true → i.begun = true ∨ s.pow.lgDue = [] → portUp s x = true →
      i.hasMeta = false → i.trunc = false → i.ptpOneStep = false → i.src / 16 ≠ 2 ∨ i.appendFcs = true → bs = txTags s x (s.queue q).cls i i.bytes →
      (s.fld (F.EM_FRAME_CFG_MAX_FRAME x) < bs.length + 4 → ∃ t, exec (.ethTxBegin x) s = .next t ∧ (t.egress x).serving = none ∧
        t.fld (F.EM_TX_OVERSIZE_COUNT x) = satAdd 32 (s.fld (F.EM_TX_OVERSIZE_COUNT x)) 1 ∧
        t.fld (F.EM_TX_FRAMES_COUNT x) = s.fld (F.EM_TX_FRAMES_COUNT x)) ∧
      (bs.length + 4 ≤ s.fld (F.EM_FRAME_CFG_MAX_FRAME x) → s.flag (F.EM_MACSEC_CFG_TX_PROTECT x) = false → ∃ t, exec (.ethTxBegin x) s = .next t ∧
        .eth x (withFcs (padFrame bs)) ∈ t.out.drop s.out.length ∧ (t.egress x).serving = none ∧
        t.fld (F.EM_TX_FRAMES_COUNT x) = satAdd 32 (s.fld (F.EM_TX_FRAMES_COUNT x)) 1 ∧
        (rest.any (fun y => y.isBreak) = false → (s.queue q).ptrA = (s.queue q).ptrB → i.src ≠ 0x3F → (t.queue q).items = rest))) ∧
    (∀ (s : State) (src : Requester) (x : EthPort) (data : Word) (a : Assoc) (usage : Nat), s.inOperation = true → s.flag (F.EM_LOCK_LOCK1 x) = false →
      a = saGet s x → usage = (if (saSel s x).1 then 9 else 8) →
      (a.en = false → bit data.toNat 31 = false → ∃ t, exec (.saCfgWrite src x 0 data) s = .next t ∧
        saGet t x = { a with slot := data.toNat % 512 } ∧ OnlyRegs s t [] ∧ t = { s with ports := t.ports }) ∧
      (a.en = false → bit data.toNat 31 = true → ∀ key, slotKeyUse s (data.toNat % 512) (some destGcm) usage = some key →
        ∃ t, exec (.saCfgWrite src x 0 data) s = .next t ∧ saGet t x = { a with en := true, slot := data.toNat % 512, key := key } ∧
          OnlyRegs s t [A.EM_STATUS x] ∧ t = { s with regs := t.regs, ports := t.ports }) ∧
      (a.en = true → bit data.toNat 31 = false → data.toNat % 512 = a.slot → ∃ t, exec (.saCfgWrite src x 0 data) s = .next t ∧
        saGet t x = { a with en := false, key := [] } ∧ OnlyRegs s t [] ∧ t = { s with ports := t.ports }) ∧
      (a.en = false → ∃ t, exec (.saCfgWrite src x 1 data) s = .next t ∧ saGet t x = { a with pn := data.toNat, next := data.toNat } ∧
        OnlyRegs s t [] ∧ t = { s with ports := t.ports }) ∧
      (a.en = false → Tbl.get noHold s.bus.hold src.code = { base := A.EM_RX_SCI x, words := [(A.EM_RX_SCI x, data)] } →
        ∀ hi : Word, ∃ t, exec (.saCfgWrite src x 3 hi) s = .next t ∧
          Tbl.get (fun _ => 0) (t.port x).sci (s.fld (F.EM_SA_SEL_SC x)) = data.toNat + 2 ^ 32 * hi.toNat ∧ OnlyRegs s t []) ∧
      (a.en = true → ∀ w : Fin 4, w.val ≠ 0 → ∃ t, exec (.saCfgWrite src x w data) s = .next t ∧ causeSet t (0x24 + x) 31 = true ∧
        errCaptured s t (0x24 + x) 0x81 src.code (A.EM_SA_CFG x + 4 * w.val) ∧ t.ports = s.ports)) ∧
    (∀ (s : State) (x : EthPort) (q out : Nat) (i : Item) (rest : List Item), s.engaged = true → engineOut s (8 + q % 4) = false →
      s.flag (F.EM_TUN_CFG_EN x) = true → q = s.fld (F.EM_TUN_QS_TX_Q x) → out = s.fld (F.EM_TUN_OUTQ_OUT_Q x) → (s.queue q).dest = 4 →
      (s.queue out).dest = 2 ∨ (s.queue out).dest = 3 → (s.port x).tunDone = false → (s.queue q).items = i :: rest → i.isBreak = false →
      i.committed = true → (s.queue q).state = 1 →
      (gcmFree s = false → exec (.tunnelEncap x) s = .next (gcmHeld s)) ∧
      (gcmFree s = true → slotKeyUse s (s.fld (F.EM_TUN_CFG_KEY_SLOT x)) (some destGcm) 8 = none → exec (.tunnelEncap x) s = .next (denied s)) ∧
      ∀ key aad : List Byte, gcmFree s = true →
      slotKeyUse s (s.fld (F.EM_TUN_CFG_KEY_SLOT x)) (some destGcm) 8 = some key → (s.port x).tunNext + 1 < 2 ^ 32 →
      aad = leBytes 4 (s.fld (F.EM_TUN_QS_ID x)) ++ leBytes 8 (s.nv.bootCount * 2 ^ 32 + (s.port x).tunNext) ++ leBytes 2 q ++ leBytes 2 i.bytes.length →
      ∃ t v, exec (.tunnelEncap x) s = .next t ∧ t = v.setPort x { v.port x with tunNext := (s.port x).tunNext + 1 } ∧
        v = (enqueue (gcmRequest (delivered s q) true) out { Item.blank with
          bytes := fillHeader (tunHeader s x) (s.fld (F.EM_TUN_CFG_UDP_PORT x)) (aad ++ Config.gcmSeal key (aad.take 12) aad i.bytes).length ++
            (aad ++ Config.gcmSeal key (aad.take 12) aad i.bytes),
          ts := stampNow (gcmRequest (delivered s q) true), src := 0x30 + (8 + q % 4), appendFcs := true } true).2) ∧
    (∀ (s : State) (x : EthPort) (rq : Nat) (i : Item) (rest : List Item), s.engaged = true → engineOut s (8 + rq % 4) = false →
      s.flag (F.EM_TUN_CFG_EN x) = true →
      rq = s.fld (F.EM_TUN_QS_RX_Q x) → (s.queue rq).dest = 4 → (s.queue rq).items = i :: rest → i.isBreak = false → i.committed = true →
      (s.queue rq).state = 1 → gcmFree s = true →
      (∀ v, tunnelOpen (delivered s rq) x (i.bytes.drop 42) = (v, none) → ∃ t, exec (.tunnelDecap x) s = .next t ∧
        t.fld (F.EM_TUN_DROPS_COUNT x) = satAdd 32 (s.fld (F.EM_TUN_DROPS_COUNT x)) 1 ∧ t.fab = (delivered s rq).fab) ∧
      (∀ u q plain seq, tunnelOpen (delivered s rq) x (i.bytes.drop 42) = (some true, some (q, plain, seq)) →
        u = (gcmRequest (delivered s rq) true).setPort x { (gcmRequest (delivered s rq) true).port x with tunLast := seq } →
        ∃ t, exec (.tunnelDecap x) s = .next t ∧
          t = (enqueue u q { Item.blank with bytes := plain, ts := stampNow u, src := 0x30 + (8 + rq % 4) } true).2)) ∧
    (∀ (s : State) (src : Requester) (x : EthPort), s.inOperation = true → src ≠ .jtag →
      (∀ e rest, (s.port x).txts = e :: rest → ∃ t, exec (.txtsPop src x) s = .next t ∧ t.port x = { s.port x with txts := rest } ∧
        t.out = s.out ++ [.readData src (A.EM_TXTS x) (BitVec.ofNat 32 (2 ^ 31 + e.msgType * 2 ^ 20 + e.seqId))] ∧
        shadowWord t src 1 = BitVec.ofNat 32 (fieldAt e.ts 0 4) ∧ shadowWord t src 4 = BitVec.ofNat 32 e.qseq ∧
        OnlyRegs s t [A.EM_TXTS x, A.EM_TXTS1 x, A.EM_TXTS2 x, A.EM_TXTS3 x, A.EM_TXTS4 x]) ∧
      ((s.port x).txts = [] → ∃ t, exec (.txtsPop src x) s = .next t ∧ t.ports = s.ports ∧ OnlyRegs s t [] ∧
        t.out = s.out ++ [.readData src (A.EM_TXTS x) (s.reg (A.EM_TXTS x))])) ∧
    (∀ (s : State) (n : Lane) (f : RxFrame), s.engaged = true → (s.lane n).rx.find? (fun y => y.check == .waiting) = some f →
      (f.bytes.length < 10 → ∃ t, exec (.ccmRequest n) s = .next t ∧ (t.lane n).rx = (s.lane n).rx.erase f ∧ OnlyRegs s t [] ∧ SameMemory s t) ∧
      (10 ≤ f.bytes.length → fVersion f.bytes ≠ 0 → ∃ t, exec (.ccmRequest n) s = .next t ∧ (t.lane n).rx = (s.lane n).rx.erase f ∧
        t.fld F.MAC_OUT_OF_WINDOW_COUNT = satAdd 32 (s.fld F.MAC_OUT_OF_WINDOW_COUNT) 1 ∧ SameMemory s t) ∧
      (10 ≤ f.bytes.length → fVersion f.bytes = 0 → fType f.bytes ≠ 0 → ∃ t g, exec (.ccmRequest n) s = .next t ∧
        (t.lane n).rx = (s.lane n).rx.map (fun y => if y == f then g else y) ∧ g.check = (verify s f.bytes).1.1 ∧
        g.body = (verify s f.bytes).1.2 ∧ g.bytes = f.bytes ∧ SameMemory s t))

/-- DATUM_STEP (R151, R536), DTM_TIME_SNAPSHOT (R529), INC_WRITE (R528, R534), ADJ_PHASE_WRITE and SLEW_DONE (R535, R537), SRC_CFG_WRITE, HOST_LOCK_WRITE, HOLDOVER_EXPIRY (R541, R543), TIME_OK_HOLD_EXPIRY (R544), the PTP commands (R545–R547), the pulses (R548–R550). -/
def Obligations.DatumIsKeptAndDisciplined : Prop :=
  (∀ (s : State) (id : CmdId) (c : Cmd) (total : Int), s.operating = true → mayStart s id 0x0501 c →
      total = (s.nowNs : Int) + signed 64 (fieldAt c.desc 16 8) → 0 ≤ total → total < (2 ^ 48 * 1000000000 : Nat) →
      ∃ t, exec (.datumStep id) s = .next t ∧
        t.now = { sec := total.toNat / 1000000000, ns := total.toNat % 1000000000, frac := s.now.frac } ∧
        t.fld F.DTM_STATUS_STEP_GEN = (s.fld F.DTM_STATUS_STEP_GEN + 1) % 4 ∧ t.flag F.DTM_STATUS_TIME_SET = true ∧
        t.flag F.DTM_STATUS_SLEWING = false ∧ t.dtm.slew = 0 ∧ t.fld F.DTM_STEPS_COUNT = satAdd 32 (s.fld F.DTM_STEPS_COUNT) 1 ∧
        t.fld F.DTM_FORCED_STEPS_COUNT = (if bit (fieldAt c.desc 24 1) 0 then satAdd 32 (s.fld F.DTM_FORCED_STEPS_COUNT) 1 else s.fld F.DTM_FORCED_STEPS_COUNT) ∧
        causeSet t 0x26 1 = true ∧ SameMemory s t ∧ outcome t id = some (onePart 0x00 0 (leBytes 4 t.now.sec ++ leBytes 4 t.now.ns))) ∧
    (∀ (s : State) (src : Requester), s.inOperation = true →
      (∃ t, exec (.dtmTimeSnapshot src) s = .next t ∧ t.out = s.out ++ [.readData src A.DTM_TIME (BitVec.ofNat 32 s.now.frac)] ∧
        shadowWord t src 1 = BitVec.ofNat 32 (s.now.ns % 2 ^ 30 + s.fld F.DTM_STATUS_STEP_GEN * 2 ^ 30) ∧
        shadowWord t src 2 = BitVec.ofNat 32 s.now.sec ∧ shadowWord t src 3 = BitVec.ofNat 32 (s.now.sec / 2 ^ 32) ∧
        t = { s with bus := t.bus, out := t.out }) ∧
      (src ≠ .jtag → ∃ t, exec (.ppsTsPop src) s = .next t ∧ t.out = s.out ++ [.readData src A.DTM_PPS_TS (s.reg A.DTM_PPS_TS)] ∧
        shadowWord t src 1 = s.reg A.DTM_PPS_TS1 ∧ shadowWord t src 3 = s.reg A.DTM_PPS_TS3 ∧ t.reg A.DTM_PPS_TS = 0#32 ∧
        OnlyRegs s t [A.DTM_PPS_TS]) ∧
      (owned s = false → incMin ≤ inc s → inc s ≤ incMax → ∀ lo hi : Word,
        (∃ t, exec (.incWrite src false lo) s = .next t ∧ inc t = inc s ∧
          Tbl.get (fun _ => 0#32) (Tbl.get noHold t.bus.hold src.code).words A.DTM_INC = lo ∧ OnlyRegs s t []) ∧
        (Tbl.get noHold s.bus.hold src.code = { base := A.DTM_INC, words := [(A.DTM_INC, lo)] } →
          (incMin ≤ lo.toNat + 2 ^ 32 * hi.toNat → lo.toNat + 2 ^ 32 * hi.toNat ≤ incMax → ∃ t, exec (.incWrite src true hi) s = .next t ∧
            inc t = lo.toNat + 2 ^ 32 * hi.toNat ∧ OnlyRegs s t [A.DTM_INC, A.DTM_INC_HI]) ∧
          (lo.toNat + 2 ^ 32 * hi.toNat < incMin ∨ incMax < lo.toNat + 2 ^ 32 * hi.toNat → ∃ t, exec (.incWrite src true hi) s = .next t ∧
            inc t = inc s ∧ causeSet t 0x26 31 = true))) ∧
      (owned s = true → ∀ c ∈ [Instr.incWrite src false 0#32, .incWrite src true 0#32, .adjPhaseWrite src 0#32], ∃ t, exec c s = .next t ∧
        causeSet t 0x26 31 = true ∧ inc t = inc s ∧ t.dtm = s.dtm ∧ OnlyRegs s t [0x26010, 0x2601C, 0x26020]) ∧
      (∀ data : Word, owned s = false →
        (s.fld F.DTM_JUMP_THRESH_NS < data.toInt.natAbs → ∃ t, exec (.adjPhaseWrite src data) s = .next t ∧ t.dtm = s.dtm ∧
          t.fld F.DTM_REFUSED_JUMPS_COUNT = satAdd 32 (s.fld F.DTM_REFUSED_JUMPS_COUNT) 1 ∧ causeSet t 0x26 0 = true ∧ lastEvent t 0x26 0x1001) ∧
        (data.toInt.natAbs ≤ s.fld F.DTM_JUMP_THRESH_NS → ∃ t, exec (.adjPhaseWrite src data) s = .next t ∧ t.dtm = { s.dtm with slew := data.toInt * 2 ^ 32 } ∧
          t.flag F.DTM_STATUS_SLEWING = (data != 0#32) ∧ t.reg A.DTM_ADJ_PHASE = data ∧ t.now = s.now ∧
          (source s = 4 → t.reg A.DTM_LAST_OFFSET = BitVec.ofNat 32 (unsigned 32 (clampSigned 32 (-data.toInt)))))) ∧
      (∀ data : Word, s.flag F.DTM_LOCK_LOCK0 = false → data.toNat % 8 ≤ 5 →
        (data.toNat % 8 = source s → ∃ t, exec (.srcCfgWrite src data) s = .next t ∧ source t = source s ∧ t = { s with regs := t.regs } ∧ OnlyRegs s t [A.DTM_SRC_CFG]) ∧
        (data.toNat % 8 ≠ source s → ∃ t, exec (.srcCfgWrite src data) s = .next t ∧ source t = data.toNat % 8 ∧
          t.dtm.masters = [] ∧ t.dtm.chosen = none ∧ t.dtm.pathDelay = none ∧ t.dtm.incs = [] ∧ t.flag F.DTM_MASTER_PORT_VALID = false ∧
          t.fld F.DTM_STATUS_SOURCE = (if data.toNat % 8 = 5 then 1 else data.toNat % 8) ∧
          t.fld F.DTM_STATUS_SERVO = (if data.toNat % 8 = 0 then 0 else if data.toNat % 8 = 4 ∧ s.flag F.DTM_CTRL_HOST_LOCK = true then 2 else 1) ∧
          t.flag F.DTM_STATUS_TIME_OK = (decide (data.toNat % 8 = 4) && s.flag F.DTM_CTRL_HOST_LOCK) ∧
          lastEvent t 0x26 0x1002)) ∧
      (∀ data : Word, (source s ≠ 4 → ∃ t, exec (.hostLockWrite src data) s = .next t ∧ t.flag F.DTM_CTRL_HOST_LOCK = bit data.toNat 0 ∧
          OnlyRegs s t [A.DTM_CTRL] ∧ t = { s with regs := t.regs }) ∧
        (source s = 4 → s.fld F.DTM_STATUS_SERVO ≠ (if bit data.toNat 0 then 2 else 1) → ∃ t, exec (.hostLockWrite src data) s = .next t ∧
          t.flag F.DTM_CTRL_HOST_LOCK = bit data.toNat 0 ∧ t.fld F.DTM_STATUS_SERVO = (if bit data.toNat 0 then 2 else 1) ∧
          t.flag F.DTM_STATUS_TIME_OK = bit data.toNat 0 ∧ causeSet t 0x26 2 = true ∧ lastEvent t 0x26 0x1002))) ∧
    (∀ s : State, s.boot.pllLocked = true →
      (s.flag F.DTM_STATUS_SLEWING = true → ∃ t, exec .slewDone s = .next t ∧ t.now = Time.ofUnits ((s.now.units : Int) + s.dtm.slew).toNat ∧
        t.dtm = { s.dtm with slew := 0 } ∧ t.flag F.DTM_STATUS_SLEWING = false ∧ t.reg A.DTM_ADJ_PHASE = 0#32 ∧ causeSet t 0x26 6 = true) ∧
      (s.answers = true → s.flag F.DTM_PPS_OUT_CFG_EN = true → s.flag F.DTM_PPS_OUT_CFG_QUAL = false ∨ s.flag F.DTM_STATUS_TIME_OK = true →
        (crossed s (s.fld F.DTM_PPS_OUT_CFG_ADV_NS) 1000000000 = true →
          exec .ppsOutStart s = .next (s.setDtm { s.dtm with ppsOut := true, ppsAt := s.dev.upCycles })) ∧
        (crossed s (s.fld F.DTM_PPS_OUT_CFG_ADV_NS) 1000000000 = false → exec .ppsOutStart s = .next s)) ∧
      (s.answers = true → s.flag F.DTM_PPS_IN_CFG_EN = true → ∃ t, exec .ppsInEdge s = .next t ∧
        t.fld F.DTM_PPS_IN_EDGES_COUNT = satAdd 32 (s.fld F.DTM_PPS_IN_EDGES_COUNT) 1 ∧ t.flag F.DTM_PPS_TS_VALID = true ∧
        t.reg A.DTM_PPS_TS1 = BitVec.ofNat 32 (fieldAt (stampNow s) 0 4) ∧ t.reg A.DTM_PPS_TS2 = BitVec.ofNat 32 (fieldAt (stampNow s) 4 4) ∧
        t.fld F.DTM_PPS_TS_OVERRUN_COUNT = (if s.flag F.DTM_PPS_TS_VALID then satAdd 32 (s.fld F.DTM_PPS_TS_OVERRUN_COUNT) 1 else s.fld F.DTM_PPS_TS_OVERRUN_COUNT) ∧
        causeSet t 0x26 4 = true ∧ (source s ≠ 3 ∨ s.operating = false → t = { s with regs := t.regs, host := t.host, out := t.out }))) ∧
    (∀ s : State,
      (s.dtm.ppsAt + s.fld F.DTM_PPS_OUT_CFG_WIDTH_MS * 250000 ≤ s.dev.upCycles →
        exec .ppsOutEnd s = .next (s.setDtm { s.dtm with ppsOut := false })) ∧
      (s.dev.upCycles < s.dtm.ppsAt + s.fld F.DTM_PPS_OUT_CFG_WIDTH_MS * 250000 → exec .ppsOutEnd s = .next s)) ∧
    (∀ s : State, s.operating = true →
      (s.fld F.DTM_STATUS_SERVO = 3 → ∃ t, exec .holdoverExpiry s = .next t ∧ t.fld F.DTM_STATUS_SERVO = 0 ∧ t.dtm.goodHold = false ∧
        causeSet t 0x26 2 = true ∧ lastEvent t 0x26 0x1002) ∧
      (∃ t, exec .timeOkHoldExpiry s = .next t ∧ t.dtm = { s.dtm with goodHold := false } ∧
        t.flag F.DTM_STATUS_TIME_OK = (if source s = 4 then s.flag F.DTM_CTRL_HOST_LOCK else s.fld F.DTM_STATUS_SERVO == 2) ∧
        t.flag F.MAC_STATUS_TIME_OK = t.flag F.DTM_STATUS_TIME_OK ∧ OnlyRegs s t [A.DTM_STATUS, A.MAC_STATUS]) ∧
      (source s = 3 → ∃ t, exec .ppsSourceLoss s = .next t ∧ t.fld F.DTM_ANN_TIMEOUTS_COUNT = satAdd 32 (s.fld F.DTM_ANN_TIMEOUTS_COUNT) 1 ∧
        t.fld F.DTM_STATUS_SERVO = if s.fld F.DTM_STATUS_SERVO = 2 then 3 else s.fld F.DTM_STATUS_SERVO) ∧
      (∀ c rest, s.dtm.chosen = some c → rest = s.dtm.masters.filter (fun y => !y.same c && decide (s.dev.upCycles ≤ y.heard + annCycles s y.interval)) → ∃ t, exec .ptpMasterLoss s = .next t ∧
        t.fld F.DTM_ANN_TIMEOUTS_COUNT = satAdd 32 (s.fld F.DTM_ANN_TIMEOUTS_COUNT) 1 ∧ t.dtm.masters = rest ∧ t.dtm.chosen = bestMaster rest ∧
        t.dtm.pathDelay = none ∧ (∀ b, bestMaster rest = some b → t.wide A.DTM_MASTER_ID = b.clockId % 2 ^ 64 ∧ t.fld F.DTM_STATUS_SERVO = 1 ∧
          t.fld F.DTM_MASTER_CHANGES_COUNT = satAdd 32 (s.fld F.DTM_MASTER_CHANGES_COUNT) 1) ∧
        (bestMaster rest = none → t.flag F.DTM_MASTER_PORT_VALID = false ∧
          t.fld F.DTM_STATUS_SERVO = if s.fld F.DTM_STATUS_SERVO = 2 then 3 else s.fld F.DTM_STATUS_SERVO))) ∧
    (∀ (s : State) (x : EthPort), s.operating = true → ptpOn s x = true →
      (∀ u dom ck t1 t2 t3 t4 gen gens pn data seq who,
        (takePtp s x 0 = (none, u) → exec (.ptpSyncRx x dom ck t1 t2 gen) s = .next u) ∧
        (takePtp s x 11 = (none, u) → exec (.ptpAnnounceRx x dom ck pn data) s = .next u) ∧
        (takePtp s x (if s.flag F.DTM_PTP_CFG_DELAY_MECH then 3 else 9) = (none, u) → exec (.ptpDelayRespRx x t1 t2 t3 t4 gens) s = .next u) ∧
        (takePtp s x 2 = (none, u) → exec (.ptpPdelayReqRx x seq who) s = .next u)) ∧
      (∀ (m : Master) (d o : Int) (dom : Fin 256) (ck : Fin (2 ^ 64)) (t1 t2 : Nat) (gen : Fin 4) (i : Item) (msg : List Byte) (u : State),
        takePtp s x 0 = (some (i, msg), u) → stampGen i = s.fld F.DTM_STATUS_STEP_GEN → s.dtm.chosen = some m → s.dtm.pathDelay = some d →
        m.port = x.val → m.clockId = ck.val → dom.val = s.fld F.DTM_PTP_CFG_DOMAIN → gen.val = s.fld F.DTM_STATUS_STEP_GEN → datumFollows s = false →
        o = (t2 : Int) - t1 - d → ∃ t, exec (.ptpSyncRx x dom ck t1 t2 gen) s = .next t ∧
          t.fld F.DTM_SYNC_RX_COUNT = satAdd 32 (s.fld F.DTM_SYNC_RX_COUNT) 1 ∧
          t.reg A.DTM_LAST_OFFSET = BitVec.ofNat 32 (unsigned 32 (clampSigned 32 o)) ∧
          (s.fld F.DTM_JUMP_THRESH_NS < o.natAbs → s.flag F.DTM_STATUS_TIME_SET = true → t.fld F.DTM_STATUS_SERVO = 4 ∧ causeSet t 0x26 0 = true ∧ t.now = s.now) ∧
          (o.natAbs ≤ s.fld F.DTM_JUMP_THRESH_NS ∨ s.flag F.DTM_STATUS_TIME_SET = false → o.natAbs ≤ s.fld F.DTM_SERVO_CFG_SLEW_LIMIT_US * 1000 →
            t.dtm.slew = -o * 2 ^ 32 ∧ incMin ≤ inc t ∧ inc t ≤ incMax ∧ t.now = s.now)) ∧
      (∀ (dom : Fin 256) (ck : Fin (2 ^ 64)) (pn : Fin 65536) (data : List Nat) (m : Master) (ms : List Master) (i : Item) (msg : List Byte)
          (u : State), takePtp s x 11 = (some (i, msg), u) → dom.val = s.fld F.DTM_PTP_CFG_DOMAIN →
        m = { port := x, clockId := ck, portNumber := pn, dataset := data, heard := s.dev.upCycles, interval := signed 8 (fieldAt msg 33 1) } →
        ms = (s.dtm.masters.filter (qualifies s)).filter (fun y => !y.same m) ++ [m] →
        ∃ t, exec (.ptpAnnounceRx x dom ck pn data) s = .next t ∧ t.dtm.masters = ms ∧ t.dtm.chosen = bestMaster ms ∧
          (∀ b, bestMaster ms = some b → s.dtm.chosen.any (fun c => b.same c) = false → t.wide A.DTM_MASTER_ID = b.clockId % 2 ^ 64 ∧
            t.fld F.DTM_STATUS_SERVO = 1 ∧ t.dtm.pathDelay = none ∧ causeSet t 0x26 3 = true ∧
            t.fld F.DTM_MASTER_CHANGES_COUNT = satAdd 32 (s.fld F.DTM_MASTER_CHANGES_COUNT) 1) ∧
          (∀ b, bestMaster ms = some b → s.dtm.chosen.any (fun c => b.same c) = true → t.dtm.pathDelay = s.dtm.pathDelay ∧
            t.fld F.DTM_STATUS_SERVO = s.fld F.DTM_STATUS_SERVO)) ∧
      (∀ (t1 t2 t3 t4 : Nat) (gens : List (Fin 4)) (i : Item) (msg : List Byte) (u : State),
        takePtp s x (if s.flag F.DTM_PTP_CFG_DELAY_MECH then 3 else 9) = (some (i, msg), u) →
        (gens.all (fun g => g.val == s.fld F.DTM_STATUS_STEP_GEN) = true →
          s.flag F.DTM_PTP_CFG_DELAY_MECH = false ∨ stampGen i = s.fld F.DTM_STATUS_STEP_GEN → exec (.ptpDelayRespRx x t1 t2 t3 t4 gens) s =
            .next (u.setDtm { u.dtm with pathDelay := some (if s.flag F.DTM_PTP_CFG_DELAY_MECH then (((t4 : Int) - t1) - ((t3 : Int) - t2)) / 2
              else (((t2 : Int) - t1) + ((t4 : Int) - t3)) / 2) })) ∧
        (gens.all (fun g => g.val == s.fld F.DTM_STATUS_STEP_GEN) = false → exec (.ptpDelayRespRx x t1 t2 t3 t4 gens) s = .next u)) ∧
      (∀ u q, u = s.setDtm { s.dtm with dreqSeq := (s.dtm.dreqSeq + 1) % 65536 } →
        q = (if x.val = 0 then s.fld F.DTM_PTP_TXQ_TXQ_A else s.fld F.DTM_PTP_TXQ_TXQ_B) →
        ((s.queue q).dest ≠ 2 + x.val → exec (.ptpDelayReqTx x) s = .next u) ∧
        ((s.queue q).dest = 2 + x.val → s.flag F.DTM_PTP_CFG_TRANSPORT = false → s.flag F.DTM_PTP_CFG_DELAY_MECH = false →
          ∃ t, exec (.ptpDelayReqTx x) s = .next t ∧ t = (enqueue u q { Item.blank with
            bytes := [0x01#8, 0x1B#8, 0x19#8, 0#8, 0#8, 0#8] ++ mac x ++ [0x88#8, 0xF7#8] ++
              ptpMessage s x 1 s.dtm.dreqSeq 0 1 (List.replicate 8 0#8) (List.replicate 10 0#8), ts := stampNow s, src := 0x3F, appendFcs := true } true).2) ∧
        ((s.queue q).dest = 2 + x.val → s.flag F.DTM_PTP_CFG_TRANSPORT = false → s.flag F.DTM_PTP_CFG_DELAY_MECH = true →
          ∃ t, exec (.ptpDelayReqTx x) s = .next t ∧ t = (enqueue u q { Item.blank with
            bytes := [0x01#8, 0x80#8, 0xC2#8, 0#8, 0#8, 0x0E#8] ++ mac x ++ [0x88#8, 0xF7#8] ++
              ptpMessage s x 2 s.dtm.dreqSeq 0 5 (List.replicate 8 0#8) (List.replicate 20 0#8), ts := stampNow s, src := 0x3F, appendFcs := true } true).2)) ∧
      (∀ (seq : Fin 65536) (who : List Byte) (i : Item) (msg : List Byte) (u : State), takePtp s x 2 = (some (i, msg), u) →
        (s.flag F.DTM_PTP_CFG_DELAY_MECH = false → exec (.ptpPdelayReqRx x seq who) s = .next u) ∧
        (∀ q, q = (if x.val = 0 then s.fld F.DTM_PTP_TXQ_TXQ_A else s.fld F.DTM_PTP_TXQ_TXQ_B) → (u.queue q).dest = 2 + x.val →
          s.flag F.DTM_PTP_CFG_TRANSPORT = false → s.flag F.DTM_PTP_CFG_DELAY_MECH = true →
          (s.flag F.DTM_PTP_CFG_PD_ONE_STEP = true → ∃ t, exec (.ptpPdelayReqRx x seq who) s = .next t ∧ t = (enqueue u q { Item.blank with
            bytes := [0x01#8, 0x80#8, 0xC2#8, 0#8, 0#8, 0x0E#8] ++ mac x ++ [0x88#8, 0xF7#8] ++
              ptpMessage u x 3 seq 0 5 (slice msg 8 8) (List.replicate 10 0#8 ++ slice who 0 10), ts := i.ts, src := 0x3F,
            ptpOneStep := true, appendFcs := true } true).2) ∧
          (∀ v, s.flag F.DTM_PTP_CFG_PD_ONE_STEP = false → v = u.setDtm { u.dtm with
              pdelay := u.dtm.pdelay.filter (fun e => !(e.port == x.val && e.seq == seq.val)) ++
                [{ port := x, seq := seq, correction := slice msg 8 8 }] } →
            ∃ t, exec (.ptpPdelayReqRx x seq who) s = .next t ∧ t = (enqueue v q { Item.blank with
              bytes := [0x01#8, 0x80#8, 0xC2#8, 0#8, 0#8, 0x0E#8] ++ mac x ++ [0x88#8, 0xF7#8] ++
                ptpMessage v x 3 seq 0x0200 5 (List.replicate 8 0#8) (ptpTime i.ts ++ slice who 0 10), ts := stampNow v, src := 0x3F,
              appendFcs := true } true).2))))

/-- HEAT_START (R646, R649–R653), PATH_READING (R662, R673), TEMP_READING (R661), CANARY_READING (R663), RETENTION_PROBE_INTERVAL (R664), PLAN_START and PLAN_NOW_WRITE (R666, R668), CLK_RAMP_STEP (R672), the regulator (R677–R679), AGE_HOUR (R681). -/
def Obligations.HeatsMarginsAndPlansAreKept : Prop :=
  (∀ (s u : State) (charges : List (Fin 32 × Nat)), s.booting = true ∨ s.inOperation = true → s.boot.fwDone = true ∨ s.cox.running = true →
      u = charges.foldl (fun t c => coxCharge t c.1 c.2) s → ∃ t, exec (.heatStart charges) s = .next t ∧ t.cox.running = true ∧
        t.cox.capacity = s.fld F.MGM_PLAN_V_CLK_MHZ * s.fld F.COX_HEAT_CFG_HEAT_US ∧ t.cox.laneTime = 4 * s.fld F.COX_HEAT_CFG_HEAT_US ∧
        t.fld F.COX_STATUS_HEAT_US = s.fld F.COX_HEAT_CFG_HEAT_US % 2 ^ 14 ∧
        t.flag F.COX_STATUS_ENFORCING = (t.cox.floored && s.flag F.COX_CTRL_ENFORCE) ∧
        (∀ a, a < 32 → coxUsed t a = 0 ∧ coxBalance t a = min (coxBalance u a) 0 +
          ((t.fld (F.COX_ACCT_CFG_EFFECTIVE a) * (if a = 19 then t.cox.laneTime else t.cox.capacity) / 1024 : Nat) : Int)) ∧ SameMemory s t) ∧
    (∀ s : State, mgmRuns s = true →
      (∀ (i : Fin 32) (mv : BitVec 16), ∃ t, exec (.pathReading [(i, mv)]) s = .next t ∧ t.fld (F.MGM_PATH_MV i) = mv.toNat ∧
        t.flag (F.MGM_PATH_VALID i) = true ∧ (∀ j, j < 32 → t.flag (F.MGM_PATH_VALID j) = true → pathMargin t ≤ t.sfld (F.MGM_PATH_MV j)) ∧
        (∃ j, j < 32 ∧ t.flag (F.MGM_PATH_VALID j) = true ∧ pathMargin t = t.sfld (F.MGM_PATH_MV j)) ∧
        (s.mgm.planEvent = none → s.mgm.volt = .none → s.mgm.work = none →
          ((s.fld F.MGM_MARGIN_CFG_EMERG_MV : Int) ≤ pathMargin t → t = { s with regs := t.regs }) ∧
          (pathMargin t < (s.fld F.MGM_MARGIN_CFG_EMERG_MV : Int) → s.fld F.MGM_CBOUND_CLK_MIN_MHZ < s.mgm.fNow →
            t.fld F.MGM_EMERGENCIES_COUNT = satAdd 32 (s.fld F.MGM_EMERGENCIES_COUNT) 1 ∧ causeSet t 0x33 1 = true ∧ lastEvent t 0x33 0x1501))) ∧
      (∀ (i : Fin 12) (deg : BitVec 8), ∃ t, exec (.tempReading [(i, deg)]) s = .next t ∧ t.fld (F.MGM_TEMP_DEG_C i) = deg.toNat ∧
        t.flag (F.MGM_TEMP_VALID i) = true ∧
        (∀ j, j < 12 → t.flag (F.MGM_TEMP_VALID j) = true → t.sfld (F.MGM_TEMP_DEG_C j) ≤ t.sfld F.MGM_STATUS_TJ_MAX) ∧
        (4 ≤ i.val → i.val < 8 → t.fld (F.LRF_STATUS_TEMP (i.val - 4)) = deg.toNat) ∧
        ((s.fld F.MGM_MARGIN_CFG_TJ_ALARM : Int) < deg.toInt → s.mgm.hot.contains i.val = false → causeSet t 0x33 5 = true ∧
          lastEvent t 0x33 0x1504 ∧ t.mgm.hot = s.mgm.hot ++ [i.val])) ∧
      (∀ (i : Fin 8) (mv : BitVec 16), ∃ t, exec (.canaryReading [(i, mv)]) s = .next t ∧ t.fld (F.MGM_CANARY_MV i) = mv.toNat ∧
        t.flag (F.MGM_CANARY_VALID i) = true ∧
        (∀ j, j < 8 → t.flag (F.MGM_CANARY_VALID j) = true → t.sfld F.MGM_MARGINS_SRAM_MV ≤ t.sfld (F.MGM_CANARY_MV j)) ∧
        t.fld F.MGM_MARGINS_PATH_MV = s.fld F.MGM_MARGINS_PATH_MV ∧ OnlyRegs s t [A.MGM_CANARY i, A.MGM_MARGINS] ∧
        t = { s with regs := t.regs, mgm := t.mgm }) ∧
      (∀ (row : Fin 16) (k : Fin 5) (ok : Bool) (p : Tbl Nat), p = (if ok then Tbl.put (fun _ => 0) s.mgm.probes row
          (max (Tbl.get (fun _ => 0) s.mgm.probes row) (64 * 2 ^ k.val)) else s.mgm.probes) →
        (row.val ≠ 15 ∨ k.val ≠ 4 → exec (.retentionProbeInterval row k ok) s = .next (s.setMgm { s.mgm with probes := p })) ∧
        (row.val = 15 → k.val = 4 → ∃ t w, exec (.retentionProbeInterval row k ok) s = .next t ∧ w < 16 ∧
          (∀ i, i < 16 → Tbl.get (fun _ => 0) p w ≤ Tbl.get (fun _ => 0) p i) ∧
          t.reg A.MGM_RETENTION = BitVec.ofNat 32 (2 ^ 31 + s.fld (F.MGM_TEMP_DEG_C 8) * 2 ^ 16 + Tbl.get (fun _ => 0) p w) ∧ t.mgm.probes = [] ∧
          (Tbl.get (fun _ => 0) p w < 64 → causeSet t 0x33 6 = true ∧ lastEvent t 0x33 0x1506))) ∧
      (holdUp s = false → s.bst.run = none → s.mgm.work = none → pathsValid s = true → s.mgm.volt = .none →
        (mgmAct s ≠ 2 → s.mgm.vNow < (planPair s).2.1 → ∃ t, exec .planStart s = .next t ∧ t.mgm.volt = .confirming (planPair s).2.1 false ∧
          t.mgm.work.map (fun w => (w.mhz, w.mv, w.stage, w.emergency)) = some ((planPair s).1, (planPair s).2.1, 0, false) ∧
          t.flag F.MGM_STATUS_PLANNING = true ∧ t.flag F.MGM_STATUS_MARGIN_LOW = !(planPair s).2.2) ∧
        (mgmAct s = 2 ∨ (planPair s).2.1 ≤ s.mgm.vNow → s.mgm.fNow ≠ (planPair s).1 → ∃ t, exec .planStart s = .next t ∧
          t.flag F.MGM_STATUS_RAMPING = true ∧ t.flag F.MGM_STATUS_PLANNING = true ∧ t.mgm.fNow = s.mgm.fNow ∧ t.mgm.volt = .none ∧
          t.mgm.work.map (fun w => (w.mhz, w.mv, w.stage, w.emergency)) = some ((planPair s).1, (planPair s).2.1, 1, false)) ∧
        (mgmAct s = 2 ∨ s.mgm.vNow = (planPair s).2.1 → s.mgm.fNow = (planPair s).1 → planGo s = [] → ∃ t, exec .planStart s = .next t ∧
          t.mgm.work = none ∧ t.flag F.MGM_STATUS_PLANNING = false ∧ t.fld F.MGM_PLANS_COUNT = satAdd 32 (s.fld F.MGM_PLANS_COUNT) 1 ∧
          t.fld F.MGM_PLAN_V_CLK_MHZ = (planPair s).1 % 65536 ∧ t.mgm.planned = true)) ∧
      (∀ w, s.mgm.work = some w → s.flag F.MGM_STATUS_RAMPING = true → w.stage = 1 →
        (s.mgm.fNow + 25 < w.mhz → ∃ t, exec .clkRampStep s = .next t ∧ t.mgm = { s.mgm with fNow := s.mgm.fNow + 25 } ∧ t.flag F.MGM_STATUS_RAMPING = true) ∧
        (w.mhz + 25 < s.mgm.fNow → ∃ t, exec .clkRampStep s = .next t ∧ t.mgm = { s.mgm with fNow := s.mgm.fNow - 25 } ∧ t.flag F.MGM_STATUS_RAMPING = true) ∧
        (s.mgm.fNow ≤ w.mhz + 25 → w.mhz ≤ s.mgm.fNow + 25 → ∃ t, exec .clkRampStep s = .next t ∧ t.mgm.fNow = w.mhz)) ∧
      (∀ hours, hours = s.mgm.age.live.hours + 1 →
        (hours % 240 ≠ 0 → ∃ t, exec .ageHour s = .next t ∧ t.mgm.age.live = { seq := s.mgm.age.live.seq + 1, hours := hours, next := s.mgm.age.live.next } ∧
          t.mgm.age.records = s.mgm.age.records ∧ t.reg A.MGM_AGE_H = BitVec.ofNat 32 hours ∧ OnlyRegs s t [A.MGM_AGE_H]) ∧
        (hours % 240 = 0 → ∃ t r, exec .ageHour s = .next t ∧ t.mgm.age.live =
            { seq := s.mgm.age.live.seq + 1, hours := hours, next := (s.mgm.age.live.next + 1) % 752 } ∧
          Tbl.get (fun _ => none) t.mgm.age.records s.mgm.age.live.next = some r ∧ r.hours = hours ∧ t.reg A.MGM_AGE_H = BitVec.ofNat 32 hours ∧
          t.mgm.period = AgePeriod.init ∧ lastEvent t 0x33 0x1505))) ∧
    (∀ (s u : State) (src : Requester) (data : Word), s.inOperation = true →
      (u = writeFields s src A.MGM_CTRL (data ||| 0x100#32) allBits → bit data.toNat 9 = false → holdUp u = false → u.bst.run = none → u.mgm.work = none → pathsValid u = true → u.mgm.volt = .none →
        (mgmAct u ≠ 2 → u.mgm.vNow < (planPair u).2.1 → ∃ t, exec (.planNowWrite src data) s = .next t ∧ t.flag F.MGM_CTRL_PLAN_NOW = true ∧
          t.flag F.MGM_STATUS_PLANNING = true ∧ t.mgm.volt = .confirming (planPair u).2.1 false) ∧
        (mgmAct u = 2 ∨ u.mgm.vNow = (planPair u).2.1 → u.mgm.fNow = (planPair u).1 → planGo u = [8] → u.bus.goPending = [] →
          ∃ t, exec (.planNowWrite src data) s = .next t ∧ t.flag F.MGM_CTRL_PLAN_NOW = false ∧ t.flag F.MGM_STATUS_PLANNING = false ∧
            t.fld F.MGM_PLANS_COUNT = satAdd 32 (u.fld F.MGM_PLANS_COUNT) 1)) ∧
      (bit data.toNat 9 = false → s.mgm.work.isSome = true → ∃ t, exec (.planNowWrite src data) s = .next t ∧ t.flag F.MGM_CTRL_PLAN_NOW = true ∧
        t.mgm = { s.mgm with planDue := true }) ∧
      (∃ t, exec (.avsResetWrite src data) s = .next t ∧ t.flag F.MGM_STATUS_AVS_FAULT = false ∧ t.mgm.nacks = 0 ∧ t.mgm.badWords = 0)) ∧
    (∀ s : State, mgmRuns s = true → s.fld F.MGM_CTRL_ACT = 0 →
      (∃ t, exec .pmbusPoll s = .next t ∧ t = { s with out := s.out ++
        [.pmbus (s.fld F.MGM_PMBUS_CFG_ADDR) (s.flag F.MGM_PMBUS_CFG_PEC) 0x8C 0, .pmbus (s.fld F.MGM_PMBUS_CFG_ADDR) (s.flag F.MGM_PMBUS_CFG_PEC) 0x79 0] }) ∧
      (∀ data : BitVec 16,
        (∃ t, exec (.pmbusTransactionDone 0x8C true data) s = .next t ∧ t.fld F.MGM_MEAS_IOUT_MA = linear11Ma data.toNat ∧
          t.mgm = { s.mgm with nacks := 0 } ∧ OnlyRegs s t [A.MGM_MEAS]) ∧
        (bitsOf data.toNat 13 3 = 0 → bitsOf data.toNat 1 5 = 0 → ∃ t, exec (.pmbusTransactionDone 0x79 true data) s = .next t ∧
          t.fld F.MGM_PMB_STATUS_WORD = data.toNat ∧ t.mgm = { s.mgm with nacks := 0, badWords := 0 } ∧ OnlyRegs s t [A.MGM_PMB_STATUS]) ∧
        (s.mgm.volt = .none → ∃ t, exec (.pmbusTransactionDone 0x8B true data) s = .next t ∧
          t.fld F.MGM_MEAS_VOUT_MV = min 65535 (linear16Mv s data.toNat / 65536) ∧ OnlyRegs s t [A.MGM_MEAS]) ∧
        (∀ mv, s.mgm.volt = .confirming mv false → ∃ t, exec (.pmbusTransactionDone 0x21 true data) s = .next t ∧
          t.mgm = { s.mgm with nacks := 0, volt := .confirming mv true } ∧
          t.out = s.out ++ [.pmbus (s.fld F.MGM_PMBUS_CFG_ADDR) (s.flag F.MGM_PMBUS_CFG_PEC) 0x8B 0]) ∧
        (∀ mv, s.mgm.volt = .confirming mv true → s.flag F.MGM_STATUS_AVS_FAULT = false →
          ((linear16Mv s data.toNat : Int) - mv * 65536).natAbs ≤ s.fld F.MGM_PMBUS_CFG_TOL_MV * 65536 →
          ∃ t, exec (.pmbusTransactionDone 0x8B true data) s = .next t ∧ t.mgm.vNow = mv) ∧
        (s.mgm.nacks = 2 → s.flag F.MGM_STATUS_AVS_FAULT = false → ∀ cmd, ∃ t, exec (.pmbusTransactionDone cmd false data) s = .next t ∧
          t.flag F.MGM_STATUS_AVS_FAULT = true ∧ causeSet t 0x33 3 = true ∧ t.fld F.MGM_AVS_ERRORS_COUNT = satAdd 32 (s.fld F.MGM_AVS_ERRORS_COUNT) 1))) ∧
    (∀ s : State, mgmRuns s = true →
      (s.mgm.volt ≠ .none → s.flag F.MGM_STATUS_AVS_FAULT = false → ∃ t, exec .avsSettleTimeout s = .next t ∧ t.flag F.MGM_STATUS_AVS_FAULT = true ∧
        t.mgm.volt = .none ∧ causeSet t 0x33 3 = true ∧ t.fld F.MGM_AVS_ERRORS_COUNT = satAdd 32 (s.fld F.MGM_AVS_ERRORS_COUNT) 1 ∧ lastEvent t 0x33 0x1503) ∧
      (∀ mv, s.mgm.volt = .confirming mv false → mgmAct s = 1 → exec .vidSettleExpiry s = .next (s.setMgm { s.mgm with volt := .confirming mv true })))

/-- PWR_REQ_WRITE (R684, R685), mains loss and hold-up (R687–R691), WATCH and the wake-up receiver (R690–R697), the clock monitors (R698, R699), the last-gasp window (R689), AON behind its shadows (R15, R708). -/
def Obligations.PowerIsLostWatchedAndRestored : Prop :=
  (∀ (s : State) (src : Requester) (data : Word), s.inOperation = true →
      (holdUp s = false → ∃ t, exec (.pwrReqWrite src data) s = .next t ∧ t.flag F.SYS_CTRL_PWR_REQ = bit data.toNat 0 ∧ OnlyRegs s t [A.SYS_CTRL] ∧
        t = { s with regs := t.regs }) ∧
      (holdUp s = true → exec (.pwrReqWrite src data) s = .next s) ∧
      (s.flag F.SYS_LOCK_LOCK1 = false → ∃ t, exec (.lgDataWrite src data) s = .next t ∧
        (∀ k, Tbl.get (fun _ => 0#32) t.pow.lgWords k = if k = 64 * s.fld F.SYS_LG_SEL_FRAME + s.fld F.SYS_LG_SEL_WORD then data
          else Tbl.get (fun _ => 0#32) s.pow.lgWords k) ∧
        t.fld F.SYS_LG_SEL_WORD = (s.fld F.SYS_LG_SEL_WORD + 1) % 64 ∧ t.fld F.SYS_LG_SEL_FRAME = s.fld F.SYS_LG_SEL_FRAME ∧ OnlyRegs s t [A.SYS_LG_SEL]) ∧
      (∀ addr : RegAddr, wordAddr addr / 0x1000 = 2 ∨ wordAddr addr / 0x1000 = 3 → implemented (wordAddr addr) = true → src ≠ .selet →
        (s.pow.aonQueue.length < 8 → ∃ t, exec (.aonShadowWrite src addr data) s = .next t ∧
          t.pow.aonQueue = s.pow.aonQueue ++ [{ src := src, addr := wordAddr addr, via := wordAddr addr, data := data, mask := allBits }] ∧
          OnlyRegs s t [] ∧ t = { s with pow := t.pow } ∧ (∀ b, b ≠ wordAddr addr → aonShadow t b = aonShadow s b)) ∧
        (8 ≤ s.pow.aonQueue.length → ∃ t, exec (.aonShadowWrite src addr data) s = .next t ∧ t.pow = s.pow ∧ causeSet t 0x02 31 = true ∧
          errCaptured s t 0x02 0x80 src.code (wordAddr addr) ∧ OnlyRegs s t [0x02010, 0x0201C, 0x02020]))) ∧
    (∀ (s : State) (w : AonWrite) (rest : List AonWrite), s.answers = true → s.pow.aonQueue = w :: rest → w.addr = A.AON_WATCH_CFG → w.mask = allBits →
      ∃ t, exec .aonWriteApply s = .next t ∧ t.pow.aonQueue = rest ∧
        (s.flag F.AON_LOCK_LOCK1 = false → t.flag F.AON_WATCH_CFG_WUR_HOLDUP = bit w.data.toNat 0 ∧ t.flag F.AON_WATCH_CFG_BATT_WAKE = bit w.data.toNat 1 ∧
          t.fld F.AON_WATCH_CFG_MIN_SLEEP_S = bitsOf w.data.toNat 16 16 ∧ OnlyRegs s t [A.AON_WATCH_CFG]) ∧
        (s.flag F.AON_LOCK_LOCK1 = true → t.reg A.AON_WATCH_CFG = s.reg A.AON_WATCH_CFG ∧ causeSet t 0x02 31 = true) ∧
        (rest.any (fun v => v.addr == w.addr) = false → s.pow.shadow.map (fun e => e.1) = [A.AON_WATCH_CFG] → t.pow.shadow = [])) ∧
    (∀ s : State,
      (s.flag F.AON_STATUS_MAINS_OK = true →
        (inWatch s = true → ∃ t, exec .mainsOkFall s = .next t ∧ t.flag F.AON_STATUS_MAINS_OK = false ∧ t.pow = { s.pow with wasLow := true } ∧
          OnlyRegs s t [A.AON_STATUS]) ∧
        (s.answers = true → watchCommitted s = false → holdUp s = false → s.fld F.AON_MAINS_CFG_GRACE_MS ≠ 0 → ∃ t, exec .mainsOkFall s = .next t ∧
          t.flag F.AON_STATUS_MAINS_OK = false ∧ t.flag F.SYS_STATUS_MAINS_OK = false ∧ t.flag F.AON_STATUS_GRACE = true ∧ causeSet t 0x00 1 = true ∧
          t.pow = { s.pow with edge := s.now, edgeGen := s.fld F.DTM_STATUS_STEP_GEN, lowAt := s.pow.aonCycles } ∧ t.devState = s.devState)) ∧
      (s.flag F.AON_STATUS_MAINS_OK = false →
        (s.flag F.AON_STATUS_GRACE = false → ∃ t, exec .mainsOkRise s = .next t ∧ t.flag F.AON_STATUS_MAINS_OK = true ∧
          (inWatch s = false → t.flag F.SYS_STATUS_MAINS_OK = true) ∧ t.pow = s.pow ∧ OnlyRegs s t [A.AON_STATUS, A.SYS_STATUS]) ∧
        (s.flag F.AON_STATUS_GRACE = true → s.answers = true → ∃ t, exec .mainsOkRise s = .next t ∧ t.flag F.AON_STATUS_MAINS_OK = true ∧
          t.flag F.AON_STATUS_GRACE = false ∧ t.fld F.AON_MAINS_GLITCHES_COUNT = satAdd 32 (s.fld F.AON_MAINS_GLITCHES_COUNT) 1 ∧
          lastEvent t 0x00 0x1601 ∧ t.pow.noteSeq = s.pow.noteSeq + 1)) ∧
      (s.flag F.AON_STATUS_GRACE = true →
        (s.ready = true → holdUp s = false → ∃ t, exec .mainsGraceExpiry s = .next t ∧ t.flag F.AON_STATUS_GRACE = false ∧ t.fld F.SYS_STATUS_PWR_MODE = 2 ∧
          t.fld F.AON_HOLDUPS_COUNT = satAdd 32 (s.fld F.AON_HOLDUPS_COUNT) 1 ∧ causeSet t 0x00 0 = true ∧ causeSet t 0x00 2 = true ∧
          t.pow.entry.map (fun e => (e.cause, e.committed)) = some (1, false) ∧ t.devState = 2) ∧
        (s.answers = true → s.devState = 3 → ∃ t, exec .mainsGraceExpiry s = .next t ∧ t.flag F.AON_STATUS_GRACE = false ∧ lastEvent t 0x00 0x1601 ∧
          t.pow = s.pow ∧ OnlyRegs s t [A.AON_STATUS])) ∧
      (∀ elapsed, inWatch s = true → s.flag F.AON_STATUS_MAINS_OK = true → s.pow.watchCause = 1 ∨ s.pow.wasLow = true →
        ∃ t, exec (.mainsRestoreExpiry elapsed) s = .next t ∧ t.devState = 1 ∧ t.fld F.NVC_RESET_SRC_LAST = 6 ∧ t.fld F.AON_WATCH_INFO_EXIT = 1 ∧
          t.fld F.AON_TIME_SECONDS = (s.pow.aonCycles + 250000000 * elapsed) / 250000000 % 2 ^ 32 ∧ t.dev.lastTrans = 0x0A ∧ lastEvent t 0x02 0x1602)) ∧
    (∀ (s : State) (x : EthPort) (d : Nat × Nat), s.ready = true → s.pow.lgDue.find? (fun e => e.1 == x.val) = some d → portUp s x = true →
      midFrame s x = false → s.flag (F.EM_MACSEC_CFG_TX_PROTECT x) = false →
      (s.flag (F.EM_STATUS_LPI_TX x) = true → ∃ t, exec (.lastGaspTx x) s = .next t ∧ (t.port x).waking = true ∧ t.pow = s.pow ∧ t.out = s.out) ∧
      (s.flag (F.EM_STATUS_LPI_TX x) = false → (s.port x).waking = false → ∃ t rest, exec (.lastGaspTx x) s = .next t ∧
        t.out = s.out ++ [.eth x (withFcs (padFrame (lgFrame s d.2)))] ++ rest ∧ t.pow.lgDue = s.pow.lgDue.filter (fun e => e != d) ∧
        t.pow.lgSent = s.pow.lgSent + 1 ∧ t.fld (F.EM_TX_FRAMES_COUNT x) = satAdd 32 (s.fld (F.EM_TX_FRAMES_COUNT x)) 1)) ∧
    (∀ s : State, s.ready = true →
      (s.pow.lgOpen = true → ∃ t, exec .lgTimeoutExpiry s = .next t ∧ t.pow.lgOpen = false ∧ t.pow.lgDue = [] ∧
        t.pow.lgDropped = s.pow.lgDropped + s.pow.lgDue.length ∧ causeSet t 0x00 4 = true ∧ lastEvent t 0x00 0x1604) ∧
      (∀ e, s.pow.entry = some e → e.committed = false → s.pow.lgOpen = false → (∀ n, n < 4 → laneState s n ≠ 4) →
        ∃ t, exec .watchCommit s = .next t ∧ t.pow = { s.pow with entry := some { e with committed := true } } ∧ t.devState = 2) ∧
      (∀ e, s.pow.entry = some e → e.committed = true → watchRecordDue s e = false → ∃ t, exec .watchEntryDone s = .next t ∧ t.devState = 5 ∧
        t.pow.entry = none ∧ t.fld F.AON_WATCH_INFO_ENTRY = e.cause % 256 ∧
        t.fld F.AON_WATCH_ENTRIES_COUNT = satAdd 32 (s.fld F.AON_WATCH_ENTRIES_COUNT) 1 ∧ t.boot.pllLocked = false ∧ (∀ n, t.engine n = .stopped))) ∧
    (∀ (s : State) (addr : Word) (cmd rssi : Byte) (elapsed : Nat),
      (inWatch s = false → wurListens s = true →
        (∃ t, exec (.wurTelegramRx true false addr cmd rssi elapsed) s = .next t ∧
          t.fld F.WUR_CRC_ERRORS_COUNT = satAdd 32 (s.fld F.WUR_CRC_ERRORS_COUNT) 1 ∧ OnlyRegs s t [A.WUR_CRC_ERRORS] ∧ t = { s with regs := t.regs }) ∧
        (wurMatches s addr.toNat cmd.toNat = false → ∃ t, exec (.wurTelegramRx true true addr cmd rssi elapsed) s = .next t ∧
          t.fld F.WUR_TELEGRAMS_COUNT = satAdd 32 (s.fld F.WUR_TELEGRAMS_COUNT) 1 ∧ OnlyRegs s t [A.WUR_TELEGRAMS] ∧ t = { s with regs := t.regs }) ∧
        (wurMatches s addr.toNat cmd.toNat = true → ∃ t, exec (.wurTelegramRx true true addr cmd rssi elapsed) s = .next t ∧
          t.fld F.WUR_MATCHES_COUNT = satAdd 32 (s.fld F.WUR_MATCHES_COUNT) 1 ∧ t.fld F.WUR_LAST_CMD = cmd.toNat ∧ t.fld F.WUR_LAST_RSSI = rssi.toNat ∧
          t.reg A.WUR_LAST_ADDR = addr ∧ causeSet t 0x03 0 = true ∧ t.pow = s.pow)) ∧
      (∀ u, u = aonTick s (250000000 * elapsed) → inWatch s = true → wurListens u = true → wurMatches u addr.toNat cmd.toNat = true →
        (s.pow.watchAt + s.fld F.AON_WATCH_CFG_MIN_SLEEP_S ≤ u.fld F.AON_TIME_SECONDS →
          s.flag F.AON_STATUS_MAINS_OK = true ∨ s.flag F.AON_WATCH_CFG_BATT_WAKE = true →
          ∃ t, exec (.wurTelegramRx true true addr cmd rssi elapsed) s = .next t ∧ t.devState = 1 ∧ t.fld F.AON_WATCH_INFO_EXIT = 2 ∧
            t.dev.lastTrans = 0x0B ∧ t.reg A.WUR_LAST_ADDR = addr ∧ causeSet t 0x03 1 = true) ∧
        (u.fld F.AON_TIME_SECONDS < s.pow.watchAt + s.fld F.AON_WATCH_CFG_MIN_SLEEP_S →
          ∃ t, exec (.wurTelegramRx true true addr cmd rssi elapsed) s = .next t ∧ t.devState = 5 ∧
            t.fld F.AON_WAKES_IGNORED_COUNT = satAdd 32 (s.fld F.AON_WAKES_IGNORED_COUNT) 1 ∧ t.pow.ignored = s.pow.ignored + 1))) ∧
    (∀ s : State,
      (s.pow.stopped = false → ∃ t, exec (.clockRefLoss 0) s = .next t ∧ t.pow.stopped = true ∧ t.flag F.AON_STATUS_REF40_OK = false) ∧
      (s.answers = true → s.pow.refLost.contains 1 = false → ∃ t, exec (.clockRefLoss 1) s = .next t ∧ t.pow.refLost = s.pow.refLost ++ [1] ∧
        t.flag F.SYS_CLK_STATUS_REF125_OK = false ∧ t.flag F.SYS_CLK_STATUS_SERDES_PLL = false ∧
        (s.operating = true → t.fld (F.EM_STATUS_RATE 0) = 0 ∧ t.fld (F.EM_STATUS_RATE 1) = 0) ∧ causeSet t 0x00 3 = true ∧ lastEvent t 0x00 0x1603) ∧
      (s.answers = true → s.pow.refLost.contains 2 = false → ∃ t, exec (.clockRefLoss 2) s = .next t ∧ t.pow.refLost = s.pow.refLost ++ [2] ∧
        t.flag F.SYS_CLK_STATUS_REF100_OK = false ∧ t.flag F.SYS_CLK_STATUS_PCIE_PLL = false ∧ t.flag F.HIF_STATUS_LINK_UP = false ∧
        causeSet t 0x00 3 = true ∧ lastEvent t 0x00 0x1603) ∧
      (s.answers = true → s.flag F.AON_STATUS_RC_CLK = false → ∃ t, exec (.clockRefLoss 3) s = .next t ∧ t.flag F.AON_STATUS_RC_CLK = true ∧
        t.flag F.SYS_CLK_STATUS_XTAL_OK = false ∧ causeSet t 0x02 1 = true ∧ causeSet t 0x00 3 = true ∧ lastEvent t 0x00 0x1603) ∧
      (s.pow.stopped = true → ∃ t, exec (.clockRefRestore 0) s = .next t ∧ t.pow.stopped = false ∧ t.flag F.AON_STATUS_REF40_OK = true) ∧
      (s.answers = true → s.pow.refLost.contains 1 = true → ∃ t, exec (.clockRefRestore 1) s = .next t ∧
        t.pow = { s.pow with refLost := s.pow.refLost.filter (· != 1) } ∧ t.flag F.SYS_CLK_STATUS_REF125_OK = true ∧
        t.flag F.SYS_CLK_STATUS_SERDES_PLL = true ∧ OnlyRegs s t [A.SYS_CLK_STATUS, 0x00010] ∧ lastEvent t 0x00 0x1603) ∧
      (s.answers = true → s.pow.refLost.contains 2 = true → ∃ t, exec (.clockRefRestore 2) s = .next t ∧
        t.flag F.SYS_CLK_STATUS_REF100_OK = true ∧ t.flag F.SYS_CLK_STATUS_PCIE_PLL = (!s.host.perstLow) ∧
        OnlyRegs s t [A.SYS_CLK_STATUS, 0x00010] ∧ lastEvent t 0x00 0x1603) ∧
      (s.flag F.AON_STATUS_RC_CLK = true → exec (.clockRefRestore 3) s = .next (s.setPow { s.pow with xtalBack := true })) ∧
      (s.answers = true → s.pow.xtalBack = true → ∃ t, exec .xtalStableExpiry s = .next t ∧ t.flag F.AON_STATUS_RC_CLK = false ∧
        t.flag F.SYS_CLK_STATUS_XTAL_OK = true ∧ t.pow = { s.pow with xtalBack := false } ∧ lastEvent t 0x00 0x1603))
end

