-- ==== Sys2Proof/Laws/Table.lean ====
section
/-!
SUPPORT. Sys2Proof/Laws/Table.lean: what the operations on sparse tables do: reading after writing, and the canonical form.
-/

-- One theorem after the other: side by side, their proofs would hold threads and memory together.
set_option Elab.async false
namespace Sys2Proof.Machine.Tbl

variable {α : Type} (d : Nat → α)

@[simp] theorem get_nil (k : Nat) : get d [] k = d k := rfl

theorem get_erase_self (t : Tbl α) (k : Nat) : get d (erase k t) k = d k := by
  induction t with
  | nil => rfl
  | cons e t ih =>
    obtain ⟨k', v⟩ := e
    by_cases h : k' = k <;> simp [erase, get, h, ih]

theorem get_erase_ne (t : Tbl α) {j k : Nat} (h : k ≠ j) : get d (erase j t) k = get d t k := by
  induction t with
  | nil => rfl
  | cons e t ih =>
    obtain ⟨k', v⟩ := e
    by_cases hj : k' = j
    · have : ¬ k' = k := fun h' => h (h' ▸ hj)
      simp [erase, get, hj, ih]
      intro h'; exact absurd h'.symm h
    · simp [erase, get, hj, ih]

theorem get_ins_ne (t : Tbl α) {j k : Nat} (v : α) (h : k ≠ j) : get d (ins j v t) k = get d t k := by
  have h' : ¬ j = k := fun e => h e.symm
  induction t with
  | nil => simp [ins, get, h']
  | cons e t ih =>
    obtain ⟨k', v'⟩ := e
    by_cases hj : j < k' <;> simp [ins, get, hj, h', ih]

theorem get_ins_self (t : Tbl α) (k : Nat) (v : α) (h : ∀ e ∈ t, e.1 ≠ k) : get d (ins k v t) k = v := by
  induction t with
  | nil => simp [ins, get]
  | cons e t ih =>
    obtain ⟨k', v'⟩ := e
    have hk : ¬ k' = k := h (k', v') (by simp)
    by_cases hj : k < k'
    · simp [ins, get, hj]
    · simp only [ins, hj, if_false, get, hk]
      exact ih (fun e he => h e (by simp [he]))

theorem erase_ne (t : Tbl α) (k : Nat) : ∀ e ∈ erase k t, e.1 ≠ k := by
  induction t with
  | nil => simp [erase]
  | cons e t ih =>
    obtain ⟨k', v⟩ := e
    by_cases hk : k' = k
    · simpa [erase, hk] using ih
    · simp only [erase, hk, if_false, List.mem_cons]
      rintro e (rfl | he)
      · exact hk
      · exact ih e he

/-- The value just written is read back. -/
@[simp] theorem get_put_self [DecidableEq α] (t : Tbl α) (k : Nat) (v : α) : get d (put d t k v) k = v := by
  unfold put
  split
  · rename_i h; rw [get_erase_self, h]
  · exact get_ins_self d _ k v (erase_ne t k)

/-- Every other key reads as before. -/
theorem get_put_ne [DecidableEq α] (t : Tbl α) {j k : Nat} (v : α) (h : k ≠ j) : get d (put d t j v) k = get d t k := by
  unfold put
  split
  · exact get_erase_ne d t h
  · rw [get_ins_ne d _ v h, get_erase_ne d t h]

/-- A function applied to every listed value is applied to what a key reads as, where it keeps what an unlisted key reads as. -/
theorem get_mapVals [DecidableEq α] (f : Nat → α → α) (t : Tbl α) (k : Nat) (h : f k (d k) = d k) :
    get d (mapVals d f t) k = f k (get d t k) := by
  induction t with
  | nil => exact h.symm
  | cons e t ih =>
    obtain ⟨j, v⟩ := e
    by_cases hf : f j v = d j <;> by_cases hj : j = k
    · subst hj; simp [mapVals, get, hf, get_erase_self]
    · simp [mapVals, get, hf, hj, get_erase_ne d _ (fun e => hj e.symm), ih]
    · subst hj; simp [mapVals, get, hf]
    · simp [mapVals, get, hf, hj, ih]

/-- Reading after writing, for every key. -/
theorem get_put [DecidableEq α] (t : Tbl α) (j k : Nat) (v : α) :
    get d (put d t j v) k = if k = j then v else get d t k := by
  split
  · rename_i h; rw [h, get_put_self]
  · rename_i h; exact get_put_ne d t v h

/-! ### The canonical form as pairwise order -/

/-- The keys of a table in their order. -/
theorem rising_iff (b : Nat) (t : Tbl α) :
    rising b t = true ↔ (∀ e ∈ t, b < e.1) ∧ t.Pairwise (fun x y => x.1 < y.1) := by
  induction t generalizing b with
  | nil => simp [rising]
  | cons e t ih =>
    obtain ⟨k, v⟩ := e
    simp only [rising, Bool.and_eq_true, decide_eq_true_eq, ih, List.pairwise_cons, List.mem_cons, forall_eq_or_imp]
    constructor
    · rintro ⟨hb, hk, hp⟩
      exact ⟨⟨hb, fun e he => lt_trans hb (hk e he)⟩, hk, hp⟩
    · rintro ⟨⟨hb, -⟩, hk, hp⟩
      exact ⟨hb, hk, hp⟩

theorem wf_iff [DecidableEq α] (t : Tbl α) :
    wf d t = true ↔ t.Pairwise (fun x y => x.1 < y.1) ∧ ∀ e ∈ t, e.2 ≠ d e.1 := by
  cases t with
  | nil => simp [wf]
  | cons e t =>
    obtain ⟨k, v⟩ := e
    simp only [wf, Bool.and_eq_true, rising_iff, List.all_eq_true, decide_eq_true_eq, List.pairwise_cons]

theorem wf_sublist [DecidableEq α] {t u : Tbl α} (h : u.Sublist t) (w : wf d t = true) : wf d u = true := by
  rw [wf_iff] at *
  exact ⟨w.1.sublist h, fun e he => w.2 e (h.subset he)⟩

theorem erase_sublist (k : Nat) (t : Tbl α) : (erase k t).Sublist t := by
  induction t with
  | nil => simp [erase]
  | cons e t ih =>
    obtain ⟨k', v⟩ := e
    by_cases h : k' = k
    · simpa [erase, h] using ih.cons _
    · simpa [erase, h] using ih

theorem wf_erase [DecidableEq α] (k : Nat) {t : Tbl α} (w : wf d t = true) : wf d (erase k t) = true :=
  wf_sublist d (erase_sublist k t) w

theorem wf_filter [DecidableEq α] (p : Nat × α → Bool) {t : Tbl α} (w : wf d t = true) : wf d (t.filter p) = true :=
  wf_sublist d List.filter_sublist w

theorem mem_ins (k : Nat) (v : α) (t : Tbl α) (e : Nat × α) : e ∈ ins k v t ↔ e = (k, v) ∨ e ∈ t := by
  induction t with
  | nil => simp [ins]
  | cons f t ih =>
    obtain ⟨k', v'⟩ := f
    by_cases h : k < k'
    · simp [ins, h]
    · simp only [ins, h, if_false, List.mem_cons, ih]
      tauto

theorem pairwise_ins (k : Nat) (v : α) (t : Tbl α) (w : t.Pairwise (fun x y => x.1 < y.1)) (h : ∀ e ∈ t, e.1 ≠ k) :
    (ins k v t).Pairwise (fun x y => x.1 < y.1) := by
  induction t with
  | nil => simp [ins]
  | cons f t ih =>
    obtain ⟨k', v'⟩ := f
    rw [List.pairwise_cons] at w
    by_cases hk : k < k'
    · simp only [ins, hk, if_true, List.pairwise_cons, List.mem_cons, forall_eq_or_imp]
      exact ⟨⟨trivial, fun e he => lt_trans hk (w.1 e he)⟩, w.1, w.2⟩
    · have hne : k' ≠ k := h (k', v') (by simp)
      simp only [ins, hk, if_false, List.pairwise_cons]
      refine ⟨?_, ih w.2 (fun e he => h e (by simp [he]))⟩
      intro e he
      rcases (mem_ins k v t e).1 he with rfl | he
      · exact lt_of_le_of_ne (not_lt.1 hk) hne
      · exact w.1 e he

/-- A write keeps the canonical form. -/
theorem wf_put [DecidableEq α] (k : Nat) (v : α) {t : Tbl α} (w : wf d t = true) : wf d (put d t k v) = true := by
  unfold put
  split
  · exact wf_erase d k w
  · rename_i hv
    have we := (wf_iff d _).1 (wf_erase d k w)
    rw [wf_iff]
    refine ⟨pairwise_ins k v _ we.1 (erase_ne t k), fun e he => ?_⟩
    rcases (mem_ins k v _ e).1 he with rfl | he
    · exact hv
    · exact we.2 e he

end Sys2Proof.Machine.Tbl
end

