-- ==== Sys2Proof/Laws/Keep.lean ====
section
/-!
SUPPORT. Sys2Proof/Laws/Keep.lean: what every function of the model keeps: the queue of commands, the canonical forms of the register
file and of the DRAM, the anti-rollback floors, a programmed key hash, the SECURE_HOLD latch, what has been sent, the free values drawn.
`Keep true s0 s` says it of a state `s` reached from `s0`; `Keep false` leaves the latch out.
-/

-- One theorem after the other: side by side, their proofs would hold threads and memory together.
set_option Elab.async false
namespace Sys2Proof.Machine

/-- What is kept, of the parts of a state. -/
structure Kept (b : Bool) (s0 : State) (pending : List Instr) (regs : Tbl Word) (dram : List Host.Cell) (seletFloor fwFloor : Nat)
    (keyHash : KeyHash) (latch : Bool) (out : List Out) (fresh : Nat) : Prop where
  pending : pending = s0.pending
  regs : Tbl.wf resetWord s0.regs = true → Tbl.wf resetWord regs = true
  dram : Memory.wf s0.dram = true → Memory.wf dram = true
  seletFloor : s0.nv.seletFloor ≤ seletFloor
  fwFloor : s0.nv.fwFloor ≤ fwFloor
  keyHash : s0.nv.keyHash ≠ .blank → keyHash = s0.nv.keyHash
  latch : b = true → s0.dev.secureLatch = true → latch = true
  out : s0.out <+: out
  fresh : s0.fresh ≤ fresh

/-- What is kept from `s0` to `s`. -/
def Keep (b : Bool) (s0 s : State) : Prop :=
  Kept b s0 s.pending s.regs s.dram s.nv.seletFloor s.nv.fwFloor s.nv.keyHash s.dev.secureLatch s.out s.fresh

variable {b : Bool} {s0 : State}

theorem Keep.refl (s : State) : Keep b s s :=
  ⟨rfl, id, id, le_rfl, le_rfl, fun _ => rfl, fun _ => id, List.prefix_rfl, le_rfl⟩

theorem Keep.mk {pending regs dram out fresh now dev boot nv stage bus ind host rings log fab tss gates sec ports dtm lanes mac rgl cad
    upd cox red mem mgm pow bst}
    (h : Kept b s0 pending regs dram nv.seletFloor nv.fwFloor nv.keyHash dev.secureLatch out fresh) :
    Keep b s0 (State.mk pending regs dram out fresh now dev boot nv stage bus ind host rings log fab tss gates sec ports dtm lanes mac rgl
      cad upd cox red mem mgm pow bst) := h

theorem Kept.of {s : State} (h : Keep b s0 s) :
    Kept b s0 s.pending s.regs s.dram s.nv.seletFloor s.nv.fwFloor s.nv.keyHash s.dev.secureLatch s.out s.fresh := h

theorem Keep.congr {s t : State} (h : Keep b s0 t) (pending : s.pending = t.pending) (regs : s.regs = t.regs) (dram : s.dram = t.dram)
    (selet : s.nv.seletFloor = t.nv.seletFloor) (fw : s.nv.fwFloor = t.nv.fwFloor) (key : s.nv.keyHash = t.nv.keyHash)
    (latch : s.dev.secureLatch = t.dev.secureLatch) (out : s.out = t.out) (fresh : s.fresh = t.fresh) : Keep b s0 s := by
  unfold Keep
  rw [pending, regs, dram, selet, fw, key, latch, out, fresh]
  exact h

theorem Kept.send {p r d sf ff k l o n} (x : List Out) (h : Kept b s0 p r d sf ff k l o n) : Kept b s0 p r d sf ff k l (o ++ x) n :=
  { h with out := h.out.trans (List.prefix_append o x) }

theorem Kept.drew {p r d sf ff k l o n} (i : Nat) (h : Kept b s0 p r d sf ff k l o n) : Kept b s0 p r d sf ff k l o (n + i) :=
  { h with fresh := le_trans h.fresh (Nat.le_add_right n i) }

theorem Kept.latched {p r d sf ff k l o n} (h : Kept b s0 p r d sf ff k l o n) : Kept b s0 p r d sf ff k true o n :=
  { h with latch := fun _ _ => rfl }

theorem Kept.put {p r d sf ff k l o n} (a : Nat) (w : Word) (h : Kept b s0 p r d sf ff k l o n) :
    Kept b s0 p (Tbl.put resetWord r a w) d sf ff k l o n :=
  { h with regs := fun w' => Tbl.wf_put _ _ _ (h.regs w') }

theorem Kept.filtered {p r d sf ff k l o n} (q : Host.Cell → Bool) (h : Kept b s0 p r d sf ff k l o n) :
    Kept b s0 p r (d.filter q) sf ff k l o n :=
  { h with dram := fun w => Tbl.wf_filter _ _ (h.dram w) }

theorem storeBytes_wf (bs : List Byte) (m : List Host.Cell) (a : Nat) (w : Memory.wf m = true) : Memory.wf (storeBytes m a bs) = true := by
  induction bs generalizing m a with
  | nil => exact w
  | cons x t ih => exact ih _ _ (Tbl.wf_put _ _ _ w)

theorem Kept.stored {p r d sf ff k l o n} (a : Nat) (bs : List Byte) (h : Kept b s0 p r d sf ff k l o n) :
    Kept b s0 p r (storeBytes d a bs) sf ff k l o n :=
  { h with dram := fun w => storeBytes_wf _ _ _ (h.dram w) }

theorem Keep.ite {c : Prop} [Decidable c] {x y : State} (hx : c → Keep b s0 x) (hy : ¬c → Keep b s0 y) : Keep b s0 (if c then x else y) := by
  split
  · exact hx ‹_›
  · exact hy ‹_›

theorem Keep.foldl {α : Type} {g : State → α → State} {l : List α} {s : State} (hg : ∀ t x, Keep b s0 t → Keep b s0 (g t x))
    (h : Keep b s0 s) : Keep b s0 (l.foldl g s) := by
  induction l generalizing s with
  | nil => exact h
  | cons x t ih => exact ih (hg s x h)

theorem Keep.snd {α : Type} {p : α × State} {x : α} {t : State} (h : Keep b s0 p.2) (e : p = (x, t)) : Keep b s0 t := by
  subst e
  exact h

theorem Keep.trd {α β : Type} {p : α × β × State} {x : α} {y : β} {t : State} (h : Keep b s0 p.2.2) (e : p = (x, y, t)) : Keep b s0 t := by
  subst e
  exact h

theorem Keep.ite_fst {α : Type} {c : Prop} [Decidable c] {x y : State × α} (hx : c → Keep b s0 x.1) (hy : ¬c → Keep b s0 y.1) :
    Keep b s0 (if c then x else y).1 := by
  split
  · exact hx ‹_›
  · exact hy ‹_›

theorem Keep.ite_snd {α : Type} {c : Prop} [Decidable c] {x y : α × State} (hx : c → Keep b s0 x.2) (hy : ¬c → Keep b s0 y.2) :
    Keep b s0 (if c then x else y).2 := by
  split
  · exact hx ‹_›
  · exact hy ‹_›

theorem Keep.foldl_snd {α β : Type} {g : β × State → α → β × State} {l : List α} {r : β × State}
    (hg : ∀ r x, Keep b s0 r.2 → Keep b s0 (g r x).2) (h : Keep b s0 r.2) : Keep b s0 (l.foldl g r).2 := by
  induction l generalizing r with
  | nil => exact h
  | cons x t ih => exact ih (hg r x h)

theorem Keep.foldl_fst {α β : Type} {g : State × β → α → State × β} {l : List α} {r : State × β}
    (hg : ∀ r x, Keep b s0 r.1 → Keep b s0 (g r x).1) (h : Keep b s0 r.1) : Keep b s0 (l.foldl g r).1 := by
  induction l generalizing r with
  | nil => exact h
  | cons x t ih => exact ih (hg r x h)

/-- What an answer keeps: its next state does. -/
def KeepR (b : Bool) (s0 : State) (r : Result) : Prop := ∀ t, r = .next t → Keep b s0 t

theorem KeepR.next {s : State} (h : Keep b s0 s) : KeepR b s0 (.next s) := by
  intro t e
  cases e
  exact h

theorem KeepR.ite {c : Prop} [Decidable c] {x y : Result} (hx : c → KeepR b s0 x) (hy : ¬c → KeepR b s0 y) :
    KeepR b s0 (if c then x else y) := by
  split
  · exact hx ‹_›
  · exact hy ‹_›

end Sys2Proof.Machine
end

