-- ==== Sys2Proof/Laws/KeepBase.lean ====
section
/-!
SUPPORT. Sys2Proof/Laws/KeepBase.lean: one lemma for each function on states of the register file, the error and cause registers, rings, keys, budgets, lanes, air time, the event log: it keeps what `Keep` says.
-/

-- One theorem after the other: side by side, their proofs would hold threads and memory together.
set_option Elab.async false
set_option linter.unusedTactic false
set_option linter.unreachableTactic false

namespace Sys2Proof.Machine

variable {b : Bool} {s0 : State}

/-! ### Ops -/

theorem State.setReg_keep {x0 : State} {x1 x2} (h0 : Keep b s0 x0) : Keep b s0 (State.setReg x0 x1 x2) :=
  Keep.mk (Kept.put _ _ (Kept.of h0))

theorem State.setFld_keep {x0 x1 x2} (h0 : Keep b s0 x0) : Keep b s0 (State.setFld x0 x1 x2) := by
  unfold State.setFld
  repeat' (first
    | (with_reducible assumption)
    | (with_reducible apply Keep.ite <;> with_reducible intro _)
    | (with_reducible apply State.setReg_keep)
    | (with_reducible intro _))

theorem State.count_keep {x0 x1 x2} (h0 : Keep b s0 x0) : Keep b s0 (State.count x0 x1 x2) := by
  unfold State.count
  repeat' (first
    | (with_reducible assumption)
    | (with_reducible apply Keep.ite <;> with_reducible intro _)
    | (with_reducible apply State.setFld_keep)
    | (with_reducible intro _))

theorem State.setWide_keep {x0 x1 x2} (h0 : Keep b s0 x0) : Keep b s0 (State.setWide x0 x1 x2) := by
  unfold State.setWide
  repeat' (first
    | (with_reducible assumption)
    | (with_reducible apply Keep.ite <;> with_reducible intro _)
    | (with_reducible apply State.setReg_keep)
    | (with_reducible intro _))

theorem State.send_keep {x0 x1} (h0 : Keep b s0 x0) : Keep b s0 (State.send x0 x1) := by
  unfold State.send
  repeat' (first
    | (with_reducible assumption)
    | (with_reducible apply Keep.ite <;> with_reducible intro _)
    | (with_reducible intro _)
    | (with_reducible apply Keep.mk; with_reducible first | apply Kept.of | (apply Kept.send; apply Kept.of)))

theorem State.draw_keep {x0 : State} (h0 : Keep b s0 x0) : Keep b s0 (State.draw x0).2 :=
  Keep.mk (Kept.drew 1 (Kept.of h0))

theorem State.ramStore_keep {x0 : State} {x1 x2} (h0 : Keep b s0 x0) : Keep b s0 (State.ramStore x0 x1 x2) :=
  Keep.mk (Kept.stored _ _ (Kept.of h0))

theorem State.ramClear_keep {x0 : State} {x1 x2} (h0 : Keep b s0 x0) : Keep b s0 (State.ramClear x0 x1 x2) :=
  Keep.mk (Kept.filtered _ (Kept.of h0))

theorem State.event_keep {x0 x1 x2 x3 x4 x5} (h0 : Keep b s0 x0) : Keep b s0 (State.event x0 x1 x2 x3 x4 x5) := by
  unfold State.event
  repeat' (first
    | (with_reducible assumption)
    | (with_reducible apply Keep.ite <;> with_reducible intro _)
    | (with_reducible intro _)
    | (with_reducible apply Keep.mk; with_reducible first | apply Kept.of | (apply Kept.send; apply Kept.of)))

theorem State.setEngine_keep {x0 x1 x2} (h0 : Keep b s0 x0) : Keep b s0 (State.setEngine x0 x1 x2) := by
  unfold State.setEngine
  repeat' (first
    | (with_reducible assumption)
    | (with_reducible apply Keep.ite <;> with_reducible intro _)
    | (with_reducible intro _)
    | (with_reducible apply Keep.mk; with_reducible first | apply Kept.of | (apply Kept.send; apply Kept.of))
    | (with_reducible apply Keep.mk; apply Kept.of))

theorem State.setRing_keep {x0 x1 x2} (h0 : Keep b s0 x0) : Keep b s0 (State.setRing x0 x1 x2) := by
  unfold State.setRing
  repeat' (first
    | (with_reducible assumption)
    | (with_reducible apply Keep.ite <;> with_reducible intro _)
    | (with_reducible intro _)
    | (with_reducible apply Keep.mk; with_reducible first | apply Kept.of | (apply Kept.send; apply Kept.of)))

/-! ### Flags -/

theorem fireVector_keep {x0 x1} (h0 : Keep b s0 x0) : Keep b s0 (fireVector x0 x1) := by
  unfold fireVector
  repeat' (first
    | (with_reducible assumption)
    | (with_reducible apply Keep.ite <;> with_reducible intro _)
    | (with_reducible intro _)
    | split
    | (with_reducible apply Keep.mk; with_reducible first | apply Kept.of | (apply Kept.send; apply Kept.of)))

theorem fire_keep {x0} (h0 : Keep b s0 x0) : Keep b s0 (fire x0) := by
  unfold fire
  repeat' (first
    | (with_reducible assumption)
    | (with_reducible apply Keep.ite <;> with_reducible intro _)
    | (with_reducible apply fireVector_keep)
    | (with_reducible apply Keep.foldl <;> [intro _ _ _; skip])
    | (with_reducible intro _)
    | split)

theorem releaseDue_keep {x0} (h0 : Keep b s0 x0) : Keep b s0 (releaseDue x0) := by
  unfold releaseDue
  repeat' (first
    | (with_reducible assumption)
    | (with_reducible apply Keep.ite <;> with_reducible intro _)
    | (with_reducible apply fireVector_keep)
    | (with_reducible apply Keep.foldl <;> [intro _ _ _; skip])
    | (with_reducible intro _)
    | split)

theorem setCause_keep {x0 x1 x2} (h0 : Keep b s0 x0) : Keep b s0 (setCause x0 x1 x2) := by
  unfold setCause
  repeat' (first
    | (with_reducible assumption)
    | (with_reducible apply Keep.ite <;> with_reducible intro _)
    | (with_reducible apply fire_keep)
    | (with_reducible apply State.setReg_keep)
    | (with_reducible intro _)
    | (extract_lets))

theorem recordErr_keep {x0 x1 x2 x3 x4} (h0 : Keep b s0 x0) : Keep b s0 (recordErr x0 x1 x2 x3 x4) := by
  unfold recordErr
  repeat' (first
    | (with_reducible assumption)
    | (with_reducible apply Keep.ite <;> with_reducible intro _)
    | (with_reducible apply setCause_keep)
    | (with_reducible apply State.setReg_keep)
    | (with_reducible intro _)
    | (extract_lets)
    | split)

theorem busError_keep {x0 x1 x2} (h0 : Keep b s0 x0) : Keep b s0 (busError x0 x1 x2) := by
  unfold busError
  repeat' (first
    | (with_reducible assumption)
    | (with_reducible apply Keep.ite <;> with_reducible intro _)
    | (with_reducible apply recordErr_keep)
    | (with_reducible intro _))

theorem abortRead_keep {x0 x1 x2} (h0 : Keep b s0 x0) : Keep b s0 (abortRead x0 x1 x2) := by
  unfold abortRead
  repeat' (first
    | (with_reducible assumption)
    | (with_reducible apply Keep.ite <;> with_reducible intro _)
    | (with_reducible apply State.send_keep)
    | (with_reducible apply busError_keep)
    | (with_reducible intro _)
    | split)

theorem gateWrite_keep {x0 x1 x2 x3} (h0 : Keep b s0 x0) (h3 : ∀ a0, Keep b s0 a0 → Keep b s0 (x3 a0)) : Keep b s0 (gateWrite x0 x1 x2 x3) := by
  unfold gateWrite
  repeat' (first
    | (with_reducible assumption)
    | (with_reducible apply Keep.ite <;> with_reducible intro _)
    | (with_reducible apply busError_keep)
    | (with_reducible apply recordErr_keep)
    | (with_reducible apply h3)
    | (with_reducible intro _)
    | (extract_lets)
    | split
    | (dsimp +zetaDelta only))

theorem gateRead_keep {x0 x1 x2 x3} (h0 : Keep b s0 x0) (h3 : ∀ a0, Keep b s0 a0 → Keep b s0 (x3 a0)) : Keep b s0 (gateRead x0 x1 x2 x3) := by
  unfold gateRead
  repeat' (first
    | (with_reducible assumption)
    | (with_reducible apply Keep.ite <;> with_reducible intro _)
    | (with_reducible apply abortRead_keep)
    | (with_reducible apply h3)
    | (with_reducible intro _)
    | (extract_lets)
    | split
    | (dsimp +zetaDelta only))

/-! ### RegWrite -/

theorem startGo_keep {x0 x1 x2} (h0 : Keep b s0 x0) : Keep b s0 (startGo x0 x1 x2) := by
  unfold startGo
  repeat' (first
    | (with_reducible assumption)
    | (with_reducible apply Keep.ite <;> with_reducible intro _)
    | (with_reducible apply State.setReg_keep)
    | (with_reducible intro _)
    | split
    | (with_reducible apply Keep.mk; with_reducible first | apply Kept.of | (apply Kept.send; apply Kept.of)))

theorem endGo_keep {x0 x1 x2} (h0 : Keep b s0 x0) : Keep b s0 (endGo x0 x1 x2).1 := by
  unfold endGo
  repeat' (first
    | (with_reducible assumption)
    | (with_reducible apply Keep.ite <;> with_reducible intro _)
    | (with_reducible apply State.setReg_keep)
    | (with_reducible intro _)
    | split
    | (with_reducible refine Keep.snd ?_ (by with_reducible assumption))
    | (with_reducible refine Keep.trd ?_ (by with_reducible assumption))
    | (with_reducible apply Keep.ite_fst <;> with_reducible intro _)
    | (with_reducible apply Keep.ite_snd <;> with_reducible intro _)
    | (with_reducible apply Keep.foldl_snd <;> [intro _ _ _; skip])
    | (with_reducible apply Keep.foldl_fst <;> [intro _ _ _; skip])
    | (with_reducible apply Keep.mk; with_reducible first | apply Kept.of | (apply Kept.send; apply Kept.of)))

theorem writeFields_keep {x0 x1 x2 x3 x4} (h0 : Keep b s0 x0) : Keep b s0 (writeFields x0 x1 x2 x3 x4) := by
  unfold writeFields
  repeat' (first
    | (with_reducible assumption)
    | (with_reducible apply Keep.ite <;> with_reducible intro _)
    | (with_reducible apply State.setReg_keep)
    | (with_reducible apply startGo_keep)
    | (with_reducible apply recordErr_keep)
    | (with_reducible apply Keep.foldl <;> [intro _ _ _; skip])
    | (with_reducible intro _)
    | (extract_lets)
    | split
    | (dsimp +zetaDelta only)
    | (with_reducible apply Keep.mk; with_reducible first | apply Kept.of | (apply Kept.send; apply Kept.of)))

theorem forceCauses_keep {x0 x1 x2} (h0 : Keep b s0 x0) : Keep b s0 (forceCauses x0 x1 x2) := by
  unfold forceCauses
  repeat' (first
    | (with_reducible assumption)
    | (with_reducible apply Keep.ite <;> with_reducible intro _)
    | (with_reducible apply fire_keep)
    | (with_reducible apply State.setReg_keep)
    | (with_reducible intro _)
    | (extract_lets)
    | split
    | (dsimp +zetaDelta only))

theorem lockWrite_keep {x0 x1 x2 x3} (h0 : Keep b s0 x0) : Keep b s0 (lockWrite x0 x1 x2 x3) := by
  unfold lockWrite
  repeat' (first
    | (with_reducible assumption)
    | (with_reducible apply Keep.ite <;> with_reducible intro _)
    | (with_reducible apply State.setReg_keep)
    | (with_reducible intro _)
    | (extract_lets))

theorem plainWrite_keep {x0 x1 x2 x3 x4} (h0 : Keep b s0 x0) : Keep b s0 (plainWrite x0 x1 x2 x3 x4) := by
  unfold plainWrite
  repeat' (first
    | (with_reducible assumption)
    | (with_reducible apply Keep.ite <;> with_reducible intro _)
    | (with_reducible apply fire_keep)
    | (with_reducible apply writeFields_keep)
    | (with_reducible apply forceCauses_keep)
    | (with_reducible apply lockWrite_keep)
    | (with_reducible intro _)
    | split
    | (dsimp +zetaDelta only))

theorem setHold_keep {x0 x1 x2} (h0 : Keep b s0 x0) : Keep b s0 (setHold x0 x1 x2) := by
  unfold setHold
  repeat' (first
    | (with_reducible assumption)
    | (with_reducible apply Keep.ite <;> with_reducible intro _)
    | (with_reducible intro _)
    | (with_reducible apply Keep.mk; with_reducible first | apply Kept.of | (apply Kept.send; apply Kept.of)))

theorem wideWrite_keep {x0 x1 x2 x3 x4} (h0 : Keep b s0 x0) (h4 : ∀ a0 a1 a2, Keep b s0 a0 → Keep b s0 (x4 a0 a1 a2)) : Keep b s0 (wideWrite x0 x1 x2 x3 x4) := by
  unfold wideWrite
  repeat' (first
    | (with_reducible assumption)
    | (with_reducible apply Keep.ite <;> with_reducible intro _)
    | (with_reducible apply recordErr_keep)
    | (with_reducible apply setHold_keep)
    | (with_reducible apply h4)
    | (with_reducible apply Keep.foldl <;> [intro _ _ _; skip])
    | (with_reducible intro _)
    | (extract_lets)
    | split
    | (dsimp +zetaDelta only)
    | (with_reducible apply Keep.mk; with_reducible first | apply Kept.of | (apply Kept.send; apply Kept.of))
    | (with_reducible refine Keep.snd ?_ (by with_reducible assumption))
    | (with_reducible refine Keep.trd ?_ (by with_reducible assumption)))

theorem latchShadow_keep {x0 x1 x2 x3} (h0 : Keep b s0 x0) : Keep b s0 (latchShadow x0 x1 x2 x3) := by
  unfold latchShadow
  repeat' (first
    | (with_reducible assumption)
    | (with_reducible apply Keep.ite <;> with_reducible intro _)
    | (with_reducible intro _)
    | (with_reducible apply Keep.mk; with_reducible first | apply Kept.of | (apply Kept.send; apply Kept.of)))

/-! ### Rings -/

theorem drawBytes_keep {x0 x1} (h0 : Keep b s0 x0) : Keep b s0 (drawBytes x0 x1).2 := by
  induction x1 generalizing x0 with
  | zero => exact h0
  | succ n ih => exact ih (State.draw_keep h0)

theorem drawNat_keep {x0 x1} (h0 : Keep b s0 x0) : Keep b s0 (drawNat x0 x1).2 := by
  unfold drawNat
  repeat' (first
    | (with_reducible assumption)
    | (with_reducible apply Keep.ite <;> with_reducible intro _)
    | (with_reducible apply State.draw_keep)
    | (with_reducible intro _)
    | (extract_lets)
    | (with_reducible refine Keep.snd ?_ (by with_reducible assumption))
    | (with_reducible refine Keep.trd ?_ (by with_reducible assumption))
    | (with_reducible apply Keep.ite_fst <;> with_reducible intro _)
    | (with_reducible apply Keep.ite_snd <;> with_reducible intro _)
    | (with_reducible apply Keep.foldl_snd <;> [intro _ _ _; skip])
    | (with_reducible apply Keep.foldl_fst <;> [intro _ _ _; skip]))

theorem ringConfigErr_keep {x0 x1 x2} (h0 : Keep b s0 x0) : Keep b s0 (ringConfigErr x0 x1 x2) := by
  unfold ringConfigErr
  repeat' (first
    | (with_reducible assumption)
    | (with_reducible apply Keep.ite <;> with_reducible intro _)
    | (with_reducible apply recordErr_keep)
    | (with_reducible intro _))

theorem startFetch_keep {x0 x1} (h0 : Keep b s0 x0) : Keep b s0 (startFetch x0 x1) := by
  unfold startFetch
  repeat' (first
    | (with_reducible assumption)
    | (with_reducible apply Keep.ite <;> with_reducible intro _)
    | (with_reducible apply State.send_keep)
    | (with_reducible apply State.setRing_keep)
    | (with_reducible intro _)
    | (extract_lets)
    | split
    | (with_reducible apply Keep.mk; with_reducible first | apply Kept.of | (apply Kept.send; apply Kept.of)))

theorem enableRing_keep {x0 x1 x2} (h0 : Keep b s0 x0) : Keep b s0 (enableRing x0 x1 x2) := by
  unfold enableRing
  repeat' (first
    | (with_reducible assumption)
    | (with_reducible apply Keep.ite <;> with_reducible intro _)
    | (with_reducible apply State.setRing_keep)
    | (with_reducible apply startFetch_keep)
    | (with_reducible apply State.setFld_keep)
    | (with_reducible apply ringConfigErr_keep)
    | (with_reducible intro _)
    | split
    | (with_reducible apply Keep.mk; with_reducible first | apply Kept.of | (apply Kept.send; apply Kept.of)))

theorem clearPointers_keep {x0 x1} (h0 : Keep b s0 x0) : Keep b s0 (clearPointers x0 x1) := by
  unfold clearPointers
  repeat' (first
    | (with_reducible assumption)
    | (with_reducible apply Keep.ite <;> with_reducible intro _)
    | (with_reducible apply State.setReg_keep)
    | (with_reducible apply State.setRing_keep)
    | (with_reducible intro _)
    | (extract_lets)
    | (with_reducible apply Keep.mk; with_reducible first | apply Kept.of | (apply Kept.send; apply Kept.of)))

theorem enterDisabled_keep {x0 x1} (h0 : Keep b s0 x0) : Keep b s0 (enterDisabled x0 x1) := by
  unfold enterDisabled
  repeat' (first
    | (with_reducible assumption)
    | (with_reducible apply Keep.ite <;> with_reducible intro _)
    | (with_reducible apply State.setFld_keep)
    | (with_reducible apply clearPointers_keep)
    | (with_reducible apply State.setRing_keep)
    | (with_reducible apply enableRing_keep)
    | (with_reducible intro _)
    | (extract_lets)
    | split
    | (with_reducible apply Keep.mk; with_reducible first | apply Kept.of | (apply Kept.send; apply Kept.of)))

theorem discardRecords_keep {x0 x1} (h0 : Keep b s0 x0) : Keep b s0 (discardRecords x0 x1) := by
  unfold discardRecords
  repeat' (first
    | (with_reducible assumption)
    | (with_reducible apply Keep.ite <;> with_reducible intro _)
    | (with_reducible apply State.setRing_keep)
    | (with_reducible intro _)
    | (extract_lets)
    | (with_reducible apply Keep.mk; with_reducible first | apply Kept.of | (apply Kept.send; apply Kept.of)))

theorem resetEffect_keep {x0 x1} (h0 : Keep b s0 x0) : Keep b s0 (resetEffect x0 x1) := by
  unfold resetEffect
  repeat' (first
    | (with_reducible assumption)
    | (with_reducible apply Keep.ite <;> with_reducible intro _)
    | (with_reducible apply discardRecords_keep)
    | (with_reducible apply clearPointers_keep)
    | (with_reducible apply State.setFld_keep)
    | (with_reducible apply enterDisabled_keep)
    | (with_reducible intro _)
    | (extract_lets)
    | split)

theorem writeReset_keep {x0 x1} (h0 : Keep b s0 x0) : Keep b s0 (writeReset x0 x1) := by
  unfold writeReset
  repeat' (first
    | (with_reducible assumption)
    | (with_reducible apply Keep.ite <;> with_reducible intro _)
    | (with_reducible apply clearPointers_keep)
    | (with_reducible apply State.setFld_keep)
    | (with_reducible apply State.setRing_keep)
    | (with_reducible intro _)
    | split
    | (dsimp +zetaDelta only)
    | (with_reducible apply Keep.mk; with_reducible first | apply Kept.of | (apply Kept.send; apply Kept.of)))

theorem writeEnable_keep {x0 x1 x2 x3} (h0 : Keep b s0 x0) : Keep b s0 (writeEnable x0 x1 x2 x3) := by
  unfold writeEnable
  repeat' (first
    | (with_reducible assumption)
    | (with_reducible apply Keep.ite <;> with_reducible intro _)
    | (with_reducible apply State.setRing_keep)
    | (with_reducible apply State.setFld_keep)
    | (with_reducible apply enableRing_keep)
    | (with_reducible apply ringConfigErr_keep)
    | (with_reducible intro _)
    | (extract_lets)
    | split
    | (dsimp +zetaDelta only)
    | (with_reducible apply Keep.mk; with_reducible first | apply Kept.of | (apply Kept.send; apply Kept.of)))

theorem ringCtrlWrite_keep {x0 x1 x2 x3 x4} (h0 : Keep b s0 x0) : Keep b s0 (ringCtrlWrite x0 x1 x2 x3 x4) := by
  unfold ringCtrlWrite
  repeat' (first
    | (with_reducible assumption)
    | (with_reducible apply Keep.ite <;> with_reducible intro _)
    | (with_reducible apply writeFields_keep)
    | (with_reducible apply writeReset_keep)
    | (with_reducible apply writeEnable_keep)
    | (with_reducible intro _)
    | (extract_lets)
    | split)

theorem ringFault_keep {x0 x1} (h0 : Keep b s0 x0) : Keep b s0 (ringFault x0 x1) := by
  unfold ringFault
  repeat' (first
    | (with_reducible assumption)
    | (with_reducible apply Keep.ite <;> with_reducible intro _)
    | (with_reducible apply setCause_keep)
    | (with_reducible apply State.setRing_keep)
    | (with_reducible apply State.setFld_keep)
    | (with_reducible intro _)
    | (with_reducible apply Keep.mk; with_reducible first | apply Kept.of | (apply Kept.send; apply Kept.of))
    | (extract_lets))

theorem ringConfigWrite_keep {x0 x1 x2 x3 x4 x5} (h0 : Keep b s0 x0) : Keep b s0 (ringConfigWrite x0 x1 x2 x3 x4 x5) := by
  unfold ringConfigWrite
  repeat' (first
    | (with_reducible assumption)
    | (with_reducible apply Keep.ite <;> with_reducible intro _)
    | (with_reducible apply writeFields_keep)
    | (with_reducible apply wideWrite_keep)
    | (with_reducible apply ringConfigErr_keep)
    | (with_reducible intro _)
    | split)

theorem countCompletion_keep {x0 x1 x2} (h0 : Keep b s0 x0) : Keep b s0 (countCompletion x0 x1 x2) := by
  unfold countCompletion
  repeat' (first
    | (with_reducible assumption)
    | (with_reducible apply Keep.ite <;> with_reducible intro _)
    | (with_reducible apply setCause_keep)
    | (with_reducible apply State.setRing_keep)
    | (with_reducible intro _)
    | (extract_lets)
    | split
    | (with_reducible apply Keep.mk; with_reducible first | apply Kept.of | (apply Kept.send; apply Kept.of)))

theorem putRecord_keep {x0 x1 x2} (h0 : Keep b s0 x0) : Keep b s0 (putRecord x0 x1 x2) := by
  unfold putRecord
  repeat' (first
    | (with_reducible assumption)
    | (with_reducible apply Keep.ite <;> with_reducible intro _)
    | (with_reducible apply State.send_keep)
    | (with_reducible apply State.setFld_keep)
    | (with_reducible apply State.setRing_keep)
    | (with_reducible apply drawNat_keep)
    | (with_reducible intro _)
    | (extract_lets)
    | split
    | (with_reducible refine Keep.snd ?_ (by with_reducible assumption))
    | (with_reducible refine Keep.trd ?_ (by with_reducible assumption))
    | (with_reducible apply Keep.mk; with_reducible first | apply Kept.of | (apply Kept.send; apply Kept.of)))

theorem writeBreak_keep {x0 x1 x2 x3} (h0 : Keep b s0 x0) : Keep b s0 (writeBreak x0 x1 x2 x3) := by
  unfold writeBreak
  repeat' (first
    | (with_reducible assumption)
    | (with_reducible apply Keep.ite <;> with_reducible intro _)
    | (with_reducible apply drawBytes_keep)
    | (with_reducible apply putRecord_keep)
    | (with_reducible apply countCompletion_keep)
    | (with_reducible apply State.setRing_keep)
    | (with_reducible intro _)
    | (extract_lets)
    | (with_reducible apply Keep.mk; with_reducible first | apply Kept.of | (apply Kept.send; apply Kept.of))
    | (with_reducible refine Keep.snd ?_ (by with_reducible assumption))
    | (with_reducible refine Keep.trd ?_ (by with_reducible assumption))
    | (dsimp +zetaDelta only))

theorem writePart_keep {x0 x1 x2 x3} (h0 : Keep b s0 x0) : Keep b s0 (writePart x0 x1 x2 x3) := by
  unfold writePart
  repeat' (first
    | (with_reducible assumption)
    | (with_reducible apply Keep.ite <;> with_reducible intro _)
    | (with_reducible apply putRecord_keep)
    | (with_reducible apply countCompletion_keep)
    | (with_reducible apply State.setRing_keep)
    | (with_reducible intro _)
    | (extract_lets)
    | split
    | (with_reducible apply Keep.mk; with_reducible first | apply Kept.of | (apply Kept.send; apply Kept.of)))

theorem completionWrite_keep {x0 x1} (h0 : Keep b s0 x0) : Keep b s0 (completionWrite x0 x1) := by
  unfold completionWrite
  repeat' (first
    | (with_reducible assumption)
    | (with_reducible apply Keep.ite <;> with_reducible intro _)
    | (with_reducible apply writeBreak_keep)
    | (with_reducible apply writePart_keep)
    | (with_reducible intro _)
    | (extract_lets)
    | split
    | (dsimp +zetaDelta only)
    | (with_reducible apply Keep.mk; with_reducible first | apply Kept.of | (apply Kept.send; apply Kept.of)))

theorem putCmd_keep {x0 x1 x2} (h0 : Keep b s0 x0) : Keep b s0 (putCmd x0 x1 x2) := by
  unfold putCmd
  repeat' (first
    | (with_reducible assumption)
    | (with_reducible apply Keep.ite <;> with_reducible intro _)
    | (with_reducible apply State.setRing_keep)
    | (with_reducible intro _)
    | (extract_lets)
    | split
    | (with_reducible apply Keep.mk; with_reducible first | apply Kept.of | (apply Kept.send; apply Kept.of)))

theorem leaveRead_keep {x0 x1 x2} (h0 : Keep b s0 x0) : Keep b s0 (leaveRead x0 x1 x2) := by
  unfold leaveRead
  repeat' (first
    | (with_reducible assumption)
    | (with_reducible apply Keep.ite <;> with_reducible intro _)
    | (with_reducible apply State.setRing_keep)
    | (with_reducible intro _)
    | split
    | (with_reducible apply Keep.mk; with_reducible first | apply Kept.of | (apply Kept.send; apply Kept.of)))

theorem finishCmd_keep {x0 x1 x2} (h0 : Keep b s0 x0) : Keep b s0 (finishCmd x0 x1 x2) := by
  unfold finishCmd
  repeat' (first
    | (with_reducible assumption)
    | (with_reducible apply Keep.ite <;> with_reducible intro _)
    | (with_reducible apply leaveRead_keep)
    | (with_reducible apply State.setRing_keep)
    | (with_reducible apply putCmd_keep)
    | (with_reducible intro _)
    | (extract_lets)
    | split
    | (dsimp +zetaDelta only)
    | (with_reducible apply Keep.mk; with_reducible first | apply Kept.of | (apply Kept.send; apply Kept.of)))

theorem finish_keep {x0 x1 x2 x3} (h0 : Keep b s0 x0) : Keep b s0 (finish x0 x1 x2 x3) := by
  unfold finish
  repeat' (first
    | (with_reducible assumption)
    | (with_reducible apply Keep.ite <;> with_reducible intro _)
    | (with_reducible apply finishCmd_keep)
    | (with_reducible intro _))

theorem beginCmd_keep {x0 x1} (h0 : Keep b s0 x0) : Keep b s0 (beginCmd x0 x1) := by
  unfold beginCmd
  repeat' (first
    | (with_reducible assumption)
    | (with_reducible apply Keep.ite <;> with_reducible intro _)
    | (with_reducible apply putCmd_keep)
    | (with_reducible intro _)
    | split
    | (dsimp +zetaDelta only)
    | (with_reducible apply Keep.mk; with_reducible first | apply Kept.of | (apply Kept.send; apply Kept.of)))

theorem commitCmd_keep {x0 x1} (h0 : Keep b s0 x0) : Keep b s0 (commitCmd x0 x1) := by
  unfold commitCmd
  repeat' (first
    | (with_reducible assumption)
    | (with_reducible apply Keep.ite <;> with_reducible intro _)
    | (with_reducible apply putCmd_keep)
    | (with_reducible intro _)
    | split
    | (dsimp +zetaDelta only)
    | (with_reducible apply Keep.mk; with_reducible first | apply Kept.of | (apply Kept.send; apply Kept.of)))

theorem askData_keep {x0 x1 x2} (h0 : Keep b s0 x0) : Keep b s0 (askData x0 x1 x2) := by
  unfold askData
  repeat' (first
    | (with_reducible assumption)
    | (with_reducible apply Keep.ite <;> with_reducible intro _)
    | (with_reducible apply State.send_keep)
    | (with_reducible apply State.setRing_keep)
    | (with_reducible intro _)
    | (extract_lets)
    | split
    | (dsimp +zetaDelta only)
    | (with_reducible apply Keep.mk; with_reducible first | apply Kept.of | (apply Kept.send; apply Kept.of)))

theorem askAll_keep {x0 x1} (h0 : Keep b s0 x0) : Keep b s0 (askAll x0 x1) := by
  unfold askAll
  repeat' (first
    | (with_reducible assumption)
    | (with_reducible apply Keep.ite <;> with_reducible intro _)
    | (with_reducible apply askData_keep)
    | (with_reducible apply Keep.foldl <;> [intro _ _ _; skip])
    | (with_reducible intro _))

theorem readsGo_keep {x0} (h0 : Keep b s0 x0) : Keep b s0 (readsGo x0) := by
  unfold readsGo
  repeat' (first
    | (with_reducible assumption)
    | (with_reducible apply Keep.ite <;> with_reducible intro _)
    | (with_reducible apply askAll_keep)
    | (with_reducible apply startFetch_keep)
    | (with_reducible apply Keep.foldl <;> [intro _ _ _; skip])
    | (with_reducible intro _)
    | split)

/-! ### Keys -/

theorem State.putSlot_keep {x0 x1 x2} (h0 : Keep b s0 x0) : Keep b s0 (State.putSlot x0 x1 x2) := by
  unfold State.putSlot
  repeat' (first
    | (with_reducible assumption)
    | (with_reducible apply Keep.ite <;> with_reducible intro _)
    | (with_reducible intro _)
    | (with_reducible apply Keep.mk; with_reducible first | apply Kept.of | (apply Kept.send; apply Kept.of)))

theorem refreshCounts_keep {x0} (h0 : Keep b s0 x0) : Keep b s0 (refreshCounts x0) := by
  unfold refreshCounts
  repeat' (first
    | (with_reducible assumption)
    | (with_reducible apply Keep.ite <;> with_reducible intro _)
    | (with_reducible apply State.setReg_keep)
    | (with_reducible apply Keep.foldl <;> [intro _ _ _; skip])
    | (with_reducible intro _)
    | (extract_lets))

theorem State.setSlot_keep {x0 x1 x2} (h0 : Keep b s0 x0) : Keep b s0 (State.setSlot x0 x1 x2) := by
  unfold State.setSlot
  repeat' (first
    | (with_reducible assumption)
    | (with_reducible apply Keep.ite <;> with_reducible intro _)
    | (with_reducible apply refreshCounts_keep)
    | (with_reducible apply State.putSlot_keep)
    | (with_reducible intro _))

theorem denied_keep {x0} (h0 : Keep b s0 x0) : Keep b s0 (denied x0) := by
  unfold denied
  repeat' (first
    | (with_reducible assumption)
    | (with_reducible apply Keep.ite <;> with_reducible intro _)
    | (with_reducible apply setCause_keep)
    | (with_reducible apply State.count_keep)
    | (with_reducible intro _))

theorem slotBadEvent_keep {x0 x1 x2} (h0 : Keep b s0 x0) : Keep b s0 (slotBadEvent x0 x1 x2) := by
  unfold slotBadEvent
  repeat' (first
    | (with_reducible assumption)
    | (with_reducible apply Keep.ite <;> with_reducible intro _)
    | (with_reducible apply State.event_keep)
    | (with_reducible intro _))

theorem markBad_keep {x0 x1 x2} (h0 : Keep b s0 x0) : Keep b s0 (markBad x0 x1 x2) := by
  unfold markBad
  repeat' (first
    | (with_reducible assumption)
    | (with_reducible apply Keep.ite <;> with_reducible intro _)
    | (with_reducible apply setCause_keep)
    | (with_reducible apply slotBadEvent_keep)
    | (with_reducible apply State.setSlot_keep)
    | (with_reducible intro _)
    | (with_reducible apply Keep.mk; with_reducible first | apply Kept.of | (apply Kept.send; apply Kept.of)))

theorem loadSlot_keep {x0 x1 x2} (h0 : Keep b s0 x0) : Keep b s0 (loadSlot x0 x1 x2) := by
  unfold loadSlot
  repeat' (first
    | (with_reducible assumption)
    | (with_reducible apply Keep.ite <;> with_reducible intro _)
    | (with_reducible apply State.setSlot_keep)
    | (with_reducible apply markBad_keep)
    | (with_reducible apply State.count_keep)
    | (with_reducible apply slotBadEvent_keep)
    | (with_reducible intro _)
    | (extract_lets)
    | split
    | (dsimp +zetaDelta only)
    | (with_reducible apply Keep.mk; with_reducible first | apply Kept.of | (apply Kept.send; apply Kept.of)))

theorem keySweep_keep {x0 x1} (h0 : Keep b s0 x0) : Keep b s0 (keySweep x0 x1) := by
  unfold keySweep
  repeat' (first
    | (with_reducible assumption)
    | (with_reducible apply Keep.ite <;> with_reducible intro _)
    | (with_reducible apply loadSlot_keep)
    | (with_reducible intro _)
    | (extract_lets)
    | split
    | (with_reducible apply Keep.mk; with_reducible first | apply Kept.of | (apply Kept.send; apply Kept.of)))

theorem execKeySweep_keep {x0 x1} (h1 : Keep b s0 x1) : KeepR b s0 (execKeySweep x0 x1) := by
  unfold execKeySweep
  repeat' (first
    | (with_reducible assumption)
    | (with_reducible apply KeepR.next)
    | (with_reducible apply KeepR.ite <;> with_reducible intro _)
    | (with_reducible apply Keep.ite <;> with_reducible intro _)
    | (with_reducible apply keySweep_keep)
    | (with_reducible intro _)
    | split)

theorem execKeyWorkingReload_keep {x0 x1 x2} (h2 : Keep b s0 x2) : KeepR b s0 (execKeyWorkingReload x0 x1 x2) := by
  unfold execKeyWorkingReload
  repeat' (first
    | (with_reducible assumption)
    | (with_reducible apply KeepR.next)
    | (with_reducible apply KeepR.ite <;> with_reducible intro _)
    | (with_reducible apply Keep.ite <;> with_reducible intro _)
    | (with_reducible apply loadSlot_keep)
    | (with_reducible intro _)
    | split)

theorem dropReplace_keep {x0 x1} (h0 : Keep b s0 x0) : Keep b s0 (dropReplace x0 x1) := by
  unfold dropReplace
  repeat' (first
    | (with_reducible assumption)
    | (with_reducible apply Keep.ite <;> with_reducible intro _)
    | (with_reducible intro _)
    | (with_reducible apply Keep.mk; with_reducible first | apply Kept.of | (apply Kept.send; apply Kept.of)))

theorem putReplace_keep {x0 x1} (h0 : Keep b s0 x0) : Keep b s0 (putReplace x0 x1) := by
  unfold putReplace
  repeat' (first
    | (with_reducible assumption)
    | (with_reducible apply Keep.ite <;> with_reducible intro _)
    | (with_reducible intro _)
    | (with_reducible apply Keep.mk; with_reducible first | apply Kept.of | (apply Kept.send; apply Kept.of)))

theorem beginReplace_keep {x0 x1} (h0 : Keep b s0 x0) : Keep b s0 (beginReplace x0 x1) := by
  unfold beginReplace
  repeat' (first
    | (with_reducible assumption)
    | (with_reducible apply Keep.ite <;> with_reducible intro _)
    | (with_reducible apply State.setSlot_keep)
    | (with_reducible apply putReplace_keep)
    | (with_reducible intro _)
    | (extract_lets)
    | (with_reducible apply Keep.mk; with_reducible first | apply Kept.of | (apply Kept.send; apply Kept.of)))

theorem writeTarget_keep {x0 x1} (h0 : Keep b s0 x0) : Keep b s0 (writeTarget x0 x1) := by
  unfold writeTarget
  repeat' (first
    | (with_reducible assumption)
    | (with_reducible apply Keep.ite <;> with_reducible intro _)
    | (with_reducible apply State.setSlot_keep)
    | (with_reducible apply putReplace_keep)
    | (with_reducible intro _)
    | (extract_lets)
    | split
    | (with_reducible apply Keep.mk; with_reducible first | apply Kept.of | (apply Kept.send; apply Kept.of)))

theorem failReplace_keep {x0 x1} (h0 : Keep b s0 x0) : Keep b s0 (failReplace x0 x1) := by
  unfold failReplace
  repeat' (first
    | (with_reducible assumption)
    | (with_reducible apply Keep.ite <;> with_reducible intro _)
    | (with_reducible apply dropReplace_keep)
    | (with_reducible apply slotBadEvent_keep)
    | (with_reducible apply State.setSlot_keep)
    | (with_reducible intro _)
    | (extract_lets)
    | split
    | (dsimp +zetaDelta only)
    | (with_reducible apply Keep.mk; with_reducible first | apply Kept.of | (apply Kept.send; apply Kept.of)))

theorem commitReplace_keep {x0 x1} (h0 : Keep b s0 x0) : Keep b s0 (commitReplace x0 x1) := by
  unfold commitReplace
  repeat' (first
    | (with_reducible assumption)
    | (with_reducible apply Keep.ite <;> with_reducible intro _)
    | (with_reducible apply State.count_keep)
    | (with_reducible apply putReplace_keep)
    | (with_reducible apply State.setSlot_keep)
    | (with_reducible intro _)
    | (extract_lets)
    | (with_reducible apply Keep.mk; with_reducible first | apply Kept.of | (apply Kept.send; apply Kept.of)))

theorem settleReplace_keep {x0 x1} (h0 : Keep b s0 x0) : Keep b s0 (settleReplace x0 x1) := by
  unfold settleReplace
  repeat' (first
    | (with_reducible assumption)
    | (with_reducible apply Keep.ite <;> with_reducible intro _)
    | (with_reducible apply State.setSlot_keep)
    | (with_reducible apply dropReplace_keep)
    | (with_reducible intro _)
    | (extract_lets)
    | split
    | (with_reducible apply Keep.mk; with_reducible first | apply Kept.of | (apply Kept.send; apply Kept.of)))

theorem endReplace_keep {x0 x1} (h0 : Keep b s0 x0) : Keep b s0 (endReplace x0 x1) := by
  unfold endReplace
  repeat' (first
    | (with_reducible assumption)
    | (with_reducible apply Keep.ite <;> with_reducible intro _)
    | (with_reducible apply settleReplace_keep)
    | (with_reducible apply State.event_keep)
    | (with_reducible apply setCause_keep)
    | (with_reducible intro _)
    | (extract_lets)
    | split)

theorem replaceDone_keep {x0 x1} (h0 : Keep b s0 x0) : Keep b s0 (replaceDone x0 x1) := by
  unfold replaceDone
  repeat' (first
    | (with_reducible assumption)
    | (with_reducible apply Keep.ite <;> with_reducible intro _)
    | (with_reducible apply endReplace_keep)
    | (with_reducible apply finish_keep)
    | (with_reducible intro _)
    | (extract_lets)
    | split
    | (dsimp +zetaDelta only)
    | (with_reducible apply Keep.mk; with_reducible first | apply Kept.of | (apply Kept.send; apply Kept.of)))

theorem completeReplace_keep {x0 x1} (h0 : Keep b s0 x0) : Keep b s0 (completeReplace x0 x1) := by
  unfold completeReplace
  repeat' (first
    | (with_reducible assumption)
    | (with_reducible apply Keep.ite <;> with_reducible intro _)
    | (with_reducible apply replaceDone_keep)
    | (with_reducible apply commitReplace_keep)
    | (with_reducible intro _)
    | split
    | (with_reducible apply Keep.mk; with_reducible first | apply Kept.of | (apply Kept.send; apply Kept.of)))

theorem keyReplaceBegin_keep {x0 x1 x2 x3} (h0 : Keep b s0 x0) : Keep b s0 (keyReplaceBegin x0 x1 x2 x3) := by
  unfold keyReplaceBegin
  repeat' (first
    | (with_reducible assumption)
    | (with_reducible apply Keep.ite <;> with_reducible intro _)
    | (with_reducible apply finish_keep)
    | (with_reducible apply denied_keep)
    | (with_reducible apply beginReplace_keep)
    | (with_reducible apply commitCmd_keep)
    | (with_reducible apply writeTarget_keep)
    | (with_reducible apply failReplace_keep)
    | (with_reducible intro _)
    | (extract_lets)
    | split
    | (dsimp +zetaDelta only)
    | (with_reducible apply Keep.mk; with_reducible first | apply Kept.of | (apply Kept.send; apply Kept.of)))

theorem keyReplace_keep {x0 x1 x2} (h0 : Keep b s0 x0) : Keep b s0 (keyReplace x0 x1 x2) := by
  unfold keyReplace
  repeat' (first
    | (with_reducible assumption)
    | (with_reducible apply Keep.ite <;> with_reducible intro _)
    | (with_reducible apply replaceDone_keep)
    | (with_reducible apply keyReplaceBegin_keep)
    | (with_reducible apply commitReplace_keep)
    | (with_reducible intro _)
    | split
    | (dsimp +zetaDelta only)
    | (with_reducible apply Keep.mk; with_reducible first | apply Kept.of | (apply Kept.send; apply Kept.of)))

theorem execKeyReplace_keep {x0 x1 x2} (h2 : Keep b s0 x2) : KeepR b s0 (execKeyReplace x0 x1 x2) := by
  unfold execKeyReplace
  repeat' (first
    | (with_reducible assumption)
    | (with_reducible apply KeepR.next)
    | (with_reducible apply KeepR.ite <;> with_reducible intro _)
    | (with_reducible apply Keep.ite <;> with_reducible intro _)
    | (with_reducible apply keyReplace_keep)
    | (with_reducible intro _)
    | split)

theorem zeroiseSlot_keep {x0 x1} (h0 : Keep b s0 x0) : Keep b s0 (zeroiseSlot x0 x1) := by
  unfold zeroiseSlot
  repeat' (first
    | (with_reducible assumption)
    | (with_reducible apply Keep.ite <;> with_reducible intro _)
    | (with_reducible apply State.count_keep)
    | (with_reducible apply State.setSlot_keep)
    | (with_reducible intro _)
    | (extract_lets)
    | split
    | (with_reducible apply Keep.mk; with_reducible first | apply Kept.of | (apply Kept.send; apply Kept.of)))

theorem zeroiseAll_keep {x0 x1} (h0 : Keep b s0 x0) : Keep b s0 (zeroiseAll x0 x1) := by
  unfold zeroiseAll
  repeat' (first
    | (with_reducible assumption)
    | (with_reducible apply Keep.ite <;> with_reducible intro _)
    | (with_reducible apply setCause_keep)
    | (with_reducible apply State.event_keep)
    | (with_reducible apply zeroiseSlot_keep)
    | (with_reducible apply Keep.foldl <;> [intro _ _ _; skip])
    | (with_reducible intro _)
    | split)

theorem keyZeroise_keep {x0 x1} (h0 : Keep b s0 x0) : Keep b s0 (keyZeroise x0 x1) := by
  unfold keyZeroise
  repeat' (first
    | (with_reducible assumption)
    | (with_reducible apply Keep.ite <;> with_reducible intro _)
    | (with_reducible apply finish_keep)
    | (with_reducible apply zeroiseAll_keep)
    | (with_reducible apply commitCmd_keep)
    | (with_reducible intro _)
    | (extract_lets)
    | split
    | (dsimp +zetaDelta only))

theorem execKeyZeroise_keep {x0 x1} (h1 : Keep b s0 x1) : KeepR b s0 (execKeyZeroise x0 x1) := by
  unfold execKeyZeroise
  repeat' (first
    | (with_reducible assumption)
    | (with_reducible apply KeepR.next)
    | (with_reducible apply KeepR.ite <;> with_reducible intro _)
    | (with_reducible apply Keep.ite <;> with_reducible intro _)
    | (with_reducible apply keyZeroise_keep)
    | (with_reducible intro _)
    | split)

theorem slotSelWrite_keep {x0 x1 x2 x3} (h0 : Keep b s0 x0) : Keep b s0 (slotSelWrite x0 x1 x2 x3) := by
  unfold slotSelWrite
  repeat' (first
    | (with_reducible assumption)
    | (with_reducible apply Keep.ite <;> with_reducible intro _)
    | (with_reducible apply writeFields_keep)
    | (with_reducible apply State.setReg_keep)
    | (with_reducible apply State.setWide_keep)
    | (with_reducible intro _)
    | (extract_lets)
    | split)

theorem execSlotSelWrite_keep {x0 x1 x2} (h2 : Keep b s0 x2) : KeepR b s0 (execSlotSelWrite x0 x1 x2) := by
  unfold execSlotSelWrite
  repeat' (first
    | (with_reducible assumption)
    | (with_reducible apply KeepR.next)
    | (with_reducible apply KeepR.ite <;> with_reducible intro _)
    | (with_reducible apply Keep.ite <;> with_reducible intro _)
    | (with_reducible apply gateWrite_keep)
    | (with_reducible apply slotSelWrite_keep)
    | (with_reducible intro _))

theorem destroyMask_keep {x0} (h0 : Keep b s0 x0) : Keep b s0 (destroyMask x0) := by
  unfold destroyMask
  repeat' (first
    | (with_reducible assumption)
    | (with_reducible apply Keep.ite <;> with_reducible intro _)
    | (with_reducible apply State.setFld_keep)
    | (with_reducible intro _)
    | (with_reducible apply Keep.mk; with_reducible first | apply Kept.of | (apply Kept.send; apply Kept.of)))

theorem zotOverwrite_keep {x0} (h0 : Keep b s0 x0) : Keep b s0 (zotOverwrite x0) := by
  unfold zotOverwrite
  repeat' (first
    | (with_reducible assumption)
    | (with_reducible apply Keep.ite <;> with_reducible intro _)
    | (with_reducible apply refreshCounts_keep)
    | (with_reducible apply State.count_keep)
    | (with_reducible apply State.event_keep)
    | (with_reducible apply setCause_keep)
    | (with_reducible intro _)
    | (extract_lets)
    | split
    | (with_reducible apply Keep.mk; with_reducible first | apply Kept.of | (apply Kept.send; apply Kept.of)))

theorem execZotOverwriteDone_keep {x0} (h0 : Keep b s0 x0) : KeepR b s0 (execZotOverwriteDone x0) := by
  unfold execZotOverwriteDone
  repeat' (first
    | (with_reducible assumption)
    | (with_reducible apply KeepR.next)
    | (with_reducible apply KeepR.ite <;> with_reducible intro _)
    | (with_reducible apply Keep.ite <;> with_reducible intro _)
    | (with_reducible apply zotOverwrite_keep)
    | (with_reducible intro _)
    | split)

theorem reportTamper_keep {x0 x1} (h0 : Keep b s0 x0) : Keep b s0 (reportTamper x0 x1) := by
  unfold reportTamper
  repeat' (first
    | (with_reducible assumption)
    | (with_reducible apply Keep.ite <;> with_reducible intro _)
    | (with_reducible apply State.setFld_keep)
    | (with_reducible apply State.event_keep)
    | (with_reducible intro _)
    | (extract_lets)
    | split
    | (dsimp +zetaDelta only)
    | (with_reducible apply Keep.mk; with_reducible first | apply Kept.of | (apply Kept.send; apply Kept.of)))

theorem generate_keep {x0 x1} (h0 : Keep b s0 x0) : Keep b s0 (generate x0 x1).2 := by
  unfold generate
  repeat' (first
    | (with_reducible assumption)
    | (with_reducible apply Keep.ite <;> with_reducible intro _)
    | (with_reducible apply State.count_keep)
    | (with_reducible apply drawBytes_keep)
    | (with_reducible intro _)
    | (extract_lets)
    | split
    | (with_reducible refine Keep.snd ?_ (by with_reducible assumption))
    | (with_reducible refine Keep.trd ?_ (by with_reducible assumption))
    | (with_reducible apply Keep.ite_fst <;> with_reducible intro _)
    | (with_reducible apply Keep.ite_snd <;> with_reducible intro _)
    | (with_reducible apply Keep.foldl_snd <;> [intro _ _ _; skip])
    | (with_reducible apply Keep.foldl_fst <;> [intro _ _ _; skip])
    | (with_reducible apply Keep.mk; with_reducible first | apply Kept.of | (apply Kept.send; apply Kept.of)))

theorem createMask_keep {x0} (h0 : Keep b s0 x0) : Keep b s0 (createMask x0) := by
  unfold createMask
  repeat' (first
    | (with_reducible assumption)
    | (with_reducible apply Keep.ite <;> with_reducible intro _)
    | (with_reducible apply generate_keep)
    | (with_reducible intro _)
    | (extract_lets)
    | split
    | (with_reducible refine Keep.snd ?_ (by with_reducible assumption))
    | (with_reducible refine Keep.trd ?_ (by with_reducible assumption))
    | (dsimp +zetaDelta only)
    | (with_reducible apply Keep.mk; with_reducible first | apply Kept.of | (apply Kept.send; apply Kept.of)))

theorem keyStoreLoad_keep {x0 x1} (h0 : Keep b s0 x0) : Keep b s0 (keyStoreLoad x0 x1) := by
  unfold keyStoreLoad
  repeat' (first
    | (with_reducible assumption)
    | (with_reducible apply Keep.ite <;> with_reducible intro _)
    | (with_reducible apply zotOverwrite_keep)
    | (with_reducible apply reportTamper_keep)
    | (with_reducible apply loadSlot_keep)
    | (with_reducible apply createMask_keep)
    | (with_reducible apply State.setFld_keep)
    | (with_reducible apply refreshCounts_keep)
    | (with_reducible apply Keep.foldl <;> [intro _ _ _; skip])
    | (with_reducible intro _)
    | (extract_lets)
    | split
    | (dsimp +zetaDelta only)
    | (with_reducible apply Keep.mk; with_reducible first | apply Kept.of | (apply Kept.send; apply Kept.of)))

/-! ### Cox -/

theorem coxOverrun_keep {x0 x1} (h0 : Keep b s0 x0) : Keep b s0 (coxOverrun x0 x1) := by
  unfold coxOverrun
  repeat' (first
    | (with_reducible assumption)
    | (with_reducible apply Keep.ite <;> with_reducible intro _)
    | (with_reducible apply State.count_keep)
    | (with_reducible apply State.setReg_keep)
    | (with_reducible apply setCause_keep)
    | (with_reducible apply State.event_keep)
    | (with_reducible intro _)
    | (extract_lets)
    | split
    | (with_reducible apply Keep.mk; with_reducible first | apply Kept.of | (apply Kept.send; apply Kept.of)))

theorem coxDebit_keep {x0 x1 x2} (h0 : Keep b s0 x0) : Keep b s0 (coxDebit x0 x1 x2) := by
  unfold coxDebit
  repeat' (first
    | (with_reducible assumption)
    | (with_reducible apply Keep.ite <;> with_reducible intro _)
    | (with_reducible intro _)
    | (with_reducible apply Keep.mk; with_reducible first | apply Kept.of | (apply Kept.send; apply Kept.of)))

theorem coxCharge_keep {x0 x1 x2} (h0 : Keep b s0 x0) : Keep b s0 (coxCharge x0 x1 x2) := by
  unfold coxCharge
  repeat' (first
    | (with_reducible assumption)
    | (with_reducible apply Keep.ite <;> with_reducible intro _)
    | (with_reducible apply coxDebit_keep)
    | (with_reducible apply coxOverrun_keep)
    | (with_reducible intro _)
    | (extract_lets)
    | split)

theorem coxFloors_keep {x0 x1} (h0 : Keep b s0 x0) : Keep b s0 (coxFloors x0 x1) := by
  unfold coxFloors
  repeat' (first
    | (with_reducible assumption)
    | (with_reducible apply Keep.ite <;> with_reducible intro _)
    | (with_reducible apply State.setFld_keep)
    | (with_reducible apply setCause_keep)
    | (with_reducible apply State.event_keep)
    | (with_reducible apply Keep.foldl <;> [intro _ _ _; skip])
    | (with_reducible intro _)
    | (extract_lets)
    | split)

theorem coxRenew_keep {x0 x1 x2} (h0 : Keep b s0 x0) : Keep b s0 (coxRenew x0 x1 x2) := by
  unfold coxRenew
  repeat' (first
    | (with_reducible assumption)
    | (with_reducible apply Keep.ite <;> with_reducible intro _)
    | (with_reducible apply State.setFld_keep)
    | (with_reducible apply State.setReg_keep)
    | (with_reducible apply coxOverrun_keep)
    | (with_reducible intro _)
    | (extract_lets)
    | split
    | (with_reducible apply Keep.mk; with_reducible first | apply Kept.of | (apply Kept.send; apply Kept.of)))

theorem scrubTarget_keep {x0} (h0 : Keep b s0 x0) : Keep b s0 (scrubTarget x0) := by
  unfold scrubTarget
  repeat' (first
    | (with_reducible assumption)
    | (with_reducible apply Keep.ite <;> with_reducible intro _)
    | (with_reducible apply State.setFld_keep)
    | (with_reducible intro _)
    | (extract_lets)
    | split
    | (with_reducible apply Keep.mk; with_reducible first | apply Kept.of | (apply Kept.send; apply Kept.of)))

theorem heatStart_keep {x0} (h0 : Keep b s0 x0) : Keep b s0 (heatStart x0) := by
  unfold heatStart
  repeat' (first
    | (with_reducible assumption)
    | (with_reducible apply Keep.ite <;> with_reducible intro _)
    | (with_reducible apply State.setFld_keep)
    | (with_reducible apply coxFloors_keep)
    | (with_reducible apply State.setReg_keep)
    | (with_reducible apply coxRenew_keep)
    | (with_reducible apply scrubTarget_keep)
    | (with_reducible apply Keep.foldl <;> [intro _ _ _; skip])
    | (with_reducible intro _)
    | (extract_lets)
    | split
    | (with_reducible apply Keep.mk; with_reducible first | apply Kept.of | (apply Kept.send; apply Kept.of)))

theorem execHeatStart_keep {x0 x1} (h1 : Keep b s0 x1) : KeepR b s0 (execHeatStart x0 x1) := by
  unfold execHeatStart
  repeat' (first
    | (with_reducible assumption)
    | (with_reducible apply KeepR.next)
    | (with_reducible apply KeepR.ite <;> with_reducible intro _)
    | (with_reducible apply Keep.ite <;> with_reducible intro _)
    | (with_reducible apply heatStart_keep)
    | (with_reducible apply coxCharge_keep)
    | (with_reducible apply Keep.foldl <;> [intro _ _ _; skip])
    | (with_reducible intro _)
    | split)

theorem budgetWrite_keep {x0 x1 x2 x3 x4} (h0 : Keep b s0 x0) : Keep b s0 (budgetWrite x0 x1 x2 x3 x4) := by
  unfold budgetWrite
  repeat' (first
    | (with_reducible assumption)
    | (with_reducible apply Keep.ite <;> with_reducible intro _)
    | (with_reducible apply recordErr_keep)
    | (with_reducible apply State.setFld_keep)
    | (with_reducible intro _)
    | (extract_lets)
    | split)

theorem fabMaxWrite_keep {x0 x1 x2 x3} (h0 : Keep b s0 x0) : Keep b s0 (fabMaxWrite x0 x1 x2 x3) := by
  unfold fabMaxWrite
  repeat' (first
    | (with_reducible assumption)
    | (with_reducible apply Keep.ite <;> with_reducible intro _)
    | (with_reducible apply recordErr_keep)
    | (with_reducible apply writeFields_keep)
    | (with_reducible apply Keep.foldl <;> [intro _ _ _; skip])
    | (with_reducible intro _)
    | (extract_lets)
    | split)

/-! ### LaneOps -/

theorem State.setLane_keep {x0 x1 x2} (h0 : Keep b s0 x0) : Keep b s0 (State.setLane x0 x1 x2) := by
  unfold State.setLane
  repeat' (first
    | (with_reducible assumption)
    | (with_reducible apply Keep.ite <;> with_reducible intro _)
    | (with_reducible intro _)
    | (with_reducible apply Keep.mk; with_reducible first | apply Kept.of | (apply Kept.send; apply Kept.of)))

theorem setAnalog_keep {x0 x1 x2 x3} (h0 : Keep b s0 x0) : Keep b s0 (setAnalog x0 x1 x2 x3) := by
  unfold setAnalog
  repeat' (first
    | (with_reducible assumption)
    | (with_reducible apply Keep.ite <;> with_reducible intro _)
    | (with_reducible apply State.setLane_keep)
    | (with_reducible intro _)
    | (with_reducible apply Keep.mk; with_reducible first | apply Kept.of | (apply Kept.send; apply Kept.of)))

theorem storeResult_keep {x0 x1 x2 x3} (h0 : Keep b s0 x0) : Keep b s0 (storeResult x0 x1 x2 x3) := by
  unfold storeResult
  repeat' (first
    | (with_reducible assumption)
    | (with_reducible apply Keep.ite <;> with_reducible intro _)
    | (with_reducible apply setAnalog_keep)
    | (with_reducible intro _)
    | (extract_lets))

theorem calFails_keep {x0 x1 x2 x3} (h0 : Keep b s0 x0) : Keep b s0 (calFails x0 x1 x2 x3) := by
  unfold calFails
  repeat' (first
    | (with_reducible assumption)
    | (with_reducible apply Keep.ite <;> with_reducible intro _)
    | (with_reducible apply setAnalog_keep)
    | (with_reducible apply setCause_keep)
    | (with_reducible apply State.event_keep)
    | (with_reducible intro _)
    | (extract_lets))

theorem setTxs_keep {x0 x1 x2} (h0 : Keep b s0 x0) : Keep b s0 (setTxs x0 x1 x2) := by
  unfold setTxs
  repeat' (first
    | (with_reducible assumption)
    | (with_reducible apply Keep.ite <;> with_reducible intro _)
    | (with_reducible apply State.setLane_keep)
    | (with_reducible intro _)
    | (with_reducible apply Keep.mk; with_reducible first | apply Kept.of | (apply Kept.send; apply Kept.of)))

theorem setPins_keep {x0 x1} (h0 : Keep b s0 x0) : Keep b s0 (setPins x0 x1) := by
  unfold setPins
  repeat' (first
    | (with_reducible assumption)
    | (with_reducible apply Keep.ite <;> with_reducible intro _)
    | (with_reducible apply State.setLane_keep)
    | (with_reducible intro _)
    | (extract_lets)
    | split
    | (dsimp +zetaDelta only)
    | (with_reducible apply Keep.mk; with_reducible first | apply Kept.of | (apply Kept.send; apply Kept.of)))

theorem unblankJob_keep {x0 x1} (h0 : Keep b s0 x0) : Keep b s0 (unblankJob x0 x1) := by
  unfold unblankJob
  repeat' (first
    | (with_reducible assumption)
    | (with_reducible apply Keep.ite <;> with_reducible intro _)
    | (with_reducible apply State.setLane_keep)
    | (with_reducible intro _)
    | (with_reducible apply Keep.mk; with_reducible first | apply Kept.of | (apply Kept.send; apply Kept.of)))

theorem noteGap_keep {x0 x1 x2 x3} (h0 : Keep b s0 x0) : Keep b s0 (noteGap x0 x1 x2 x3) := by
  unfold noteGap
  repeat' (first
    | (with_reducible assumption)
    | (with_reducible apply Keep.ite <;> with_reducible intro _)
    | (with_reducible apply State.setLane_keep)
    | (with_reducible intro _)
    | (extract_lets)
    | (dsimp +zetaDelta only)
    | (with_reducible apply Keep.mk; with_reducible first | apply Kept.of | (apply Kept.send; apply Kept.of)))

theorem bankHalts_keep {x0 x1} (h0 : Keep b s0 x0) : Keep b s0 (bankHalts x0 x1) := by
  unfold bankHalts
  repeat' (first
    | (with_reducible assumption)
    | (with_reducible apply Keep.ite <;> with_reducible intro _)
    | (with_reducible apply State.setLane_keep)
    | (with_reducible intro _)
    | (extract_lets)
    | (dsimp +zetaDelta only)
    | (with_reducible apply Keep.mk; with_reducible first | apply Kept.of | (apply Kept.send; apply Kept.of)))

theorem bankEnters_keep {x0 x1 x2} (h0 : Keep b s0 x0) : Keep b s0 (bankEnters x0 x1 x2) := by
  unfold bankEnters
  repeat' (first
    | (with_reducible assumption)
    | (with_reducible apply Keep.ite <;> with_reducible intro _)
    | (with_reducible apply bankHalts_keep)
    | (with_reducible apply State.setLane_keep)
    | (with_reducible apply noteGap_keep)
    | (with_reducible intro _)
    | (extract_lets)
    | split
    | (dsimp +zetaDelta only)
    | (with_reducible apply Keep.mk; with_reducible first | apply Kept.of | (apply Kept.send; apply Kept.of)))

theorem enterState_keep {x0 x1 x2 x3} (h0 : Keep b s0 x0) : Keep b s0 (enterState x0 x1 x2 x3) := by
  unfold enterState
  repeat' (first
    | (with_reducible assumption)
    | (with_reducible apply Keep.ite <;> with_reducible intro _)
    | (with_reducible apply bankEnters_keep)
    | (with_reducible apply unblankJob_keep)
    | (with_reducible apply setPins_keep)
    | (with_reducible apply State.setFld_keep)
    | (with_reducible intro _)
    | (dsimp +zetaDelta only))

theorem setWork_keep {x0 x1 x2} (h0 : Keep b s0 x0) : Keep b s0 (setWork x0 x1 x2) := by
  unfold setWork
  repeat' (first
    | (with_reducible assumption)
    | (with_reducible apply Keep.ite <;> with_reducible intro _)
    | (with_reducible apply State.setLane_keep)
    | (with_reducible intro _)
    | (with_reducible apply Keep.mk; with_reducible first | apply Kept.of | (apply Kept.send; apply Kept.of)))

theorem ofdmPreempt_keep {x0 x1} (h0 : Keep b s0 x0) : Keep b s0 (ofdmPreempt x0 x1) := by
  unfold ofdmPreempt
  repeat' (first
    | (with_reducible assumption)
    | (with_reducible apply Keep.ite <;> with_reducible intro _)
    | (with_reducible apply setCause_keep)
    | (with_reducible apply State.count_keep)
    | (with_reducible apply State.setLane_keep)
    | (with_reducible intro _)
    | split
    | (dsimp +zetaDelta only)
    | (with_reducible apply Keep.mk; with_reducible first | apply Kept.of | (apply Kept.send; apply Kept.of)))

theorem ctxPreempt_keep {x0 x1} (h0 : Keep b s0 x0) : Keep b s0 (ctxPreempt x0 x1) := by
  unfold ctxPreempt
  repeat' (first
    | (with_reducible assumption)
    | (with_reducible apply Keep.ite <;> with_reducible intro _)
    | (with_reducible apply ofdmPreempt_keep)
    | (with_reducible apply setCause_keep)
    | (with_reducible apply State.count_keep)
    | (with_reducible apply State.setLane_keep)
    | (with_reducible intro _)
    | (extract_lets)
    | split
    | (with_reducible apply Keep.mk; with_reducible first | apply Kept.of | (apply Kept.send; apply Kept.of)))

theorem showJob_keep {x0 x1} (h0 : Keep b s0 x0) : Keep b s0 (showJob x0 x1) := by
  unfold showJob
  repeat' (first
    | (with_reducible assumption)
    | (with_reducible apply Keep.ite <;> with_reducible intro _)
    | (with_reducible apply State.setReg_keep)
    | (with_reducible intro _)
    | split
    | (dsimp +zetaDelta only))

theorem endJob'_keep {x0 x1 x2} (h0 : Keep b s0 x0) : Keep b s0 (endJob' x0 x1 x2) := by
  unfold endJob'
  repeat' (first
    | (with_reducible assumption)
    | (with_reducible apply Keep.ite <;> with_reducible intro _)
    | (with_reducible apply showJob_keep)
    | (with_reducible apply finish_keep)
    | (with_reducible apply State.setLane_keep)
    | (with_reducible intro _)
    | split
    | (dsimp +zetaDelta only)
    | (with_reducible apply Keep.mk; with_reducible first | apply Kept.of | (apply Kept.send; apply Kept.of)))

theorem jobStep_keep {x0 x1 x2} (h0 : Keep b s0 x0) : Keep b s0 (jobStep x0 x1 x2) := by
  unfold jobStep
  repeat' (first
    | (with_reducible assumption)
    | (with_reducible apply Keep.ite <;> with_reducible intro _)
    | (with_reducible apply State.setLane_keep)
    | (with_reducible apply endJob'_keep)
    | (with_reducible apply showJob_keep)
    | (with_reducible intro _)
    | (extract_lets)
    | split
    | (dsimp +zetaDelta only)
    | (with_reducible apply Keep.mk; with_reducible first | apply Kept.of | (apply Kept.send; apply Kept.of)))

theorem setChannel_keep {x0 x1 x2} (h0 : Keep b s0 x0) : Keep b s0 (setChannel x0 x1 x2) := by
  unfold setChannel
  repeat' (first
    | (with_reducible assumption)
    | (with_reducible apply Keep.ite <;> with_reducible intro _)
    | (with_reducible apply State.setFld_keep)
    | (with_reducible intro _)
    | (extract_lets))

theorem atRest_keep {x0 x1} (h0 : Keep b s0 x0) : Keep b s0 (atRest x0 x1) := by
  unfold atRest
  repeat' (first
    | (with_reducible assumption)
    | (with_reducible apply Keep.ite <;> with_reducible intro _)
    | (with_reducible apply State.setLane_keep)
    | (with_reducible intro _)
    | (with_reducible apply Keep.mk; with_reducible first | apply Kept.of | (apply Kept.send; apply Kept.of)))

theorem enterRx_keep {x0 x1} (h0 : Keep b s0 x0) : Keep b s0 (enterRx x0 x1) := by
  unfold enterRx
  repeat' (first
    | (with_reducible assumption)
    | (with_reducible apply Keep.ite <;> with_reducible intro _)
    | (with_reducible apply atRest_keep)
    | (with_reducible apply enterState_keep)
    | (with_reducible intro _)
    | split)

theorem hopTo_keep {x0 x1 x2 x3} (h0 : Keep b s0 x0) : Keep b s0 (hopTo x0 x1 x2 x3) := by
  unfold hopTo
  repeat' (first
    | (with_reducible assumption)
    | (with_reducible apply Keep.ite <;> with_reducible intro _)
    | (with_reducible apply ctxPreempt_keep)
    | (with_reducible apply State.setLane_keep)
    | (with_reducible apply enterState_keep)
    | (with_reducible apply setChannel_keep)
    | (with_reducible apply setWork_keep)
    | (with_reducible intro _)
    | (extract_lets)
    | split
    | (with_reducible apply Keep.mk; with_reducible first | apply Kept.of | (apply Kept.send; apply Kept.of)))

theorem toOff_keep {x0 x1} (h0 : Keep b s0 x0) : Keep b s0 (toOff x0 x1) := by
  unfold toOff
  repeat' (first
    | (with_reducible assumption)
    | (with_reducible apply Keep.ite <;> with_reducible intro _)
    | (with_reducible apply ctxPreempt_keep)
    | (with_reducible apply endJob'_keep)
    | (with_reducible apply State.setLane_keep)
    | (with_reducible apply enterState_keep)
    | (with_reducible apply State.setReg_keep)
    | (with_reducible intro _)
    | (extract_lets)
    | (with_reducible apply Keep.mk; with_reducible first | apply Kept.of | (apply Kept.send; apply Kept.of)))

theorem laneNext_keep {x0 x1} (h0 : Keep b s0 x0) : Keep b s0 (laneNext x0 x1) := by
  unfold laneNext
  repeat' (first
    | (with_reducible assumption)
    | (with_reducible apply Keep.ite <;> with_reducible intro _)
    | (with_reducible apply atRest_keep)
    | (with_reducible apply toOff_keep)
    | (with_reducible apply enterRx_keep)
    | (with_reducible apply enterState_keep)
    | (with_reducible apply hopTo_keep)
    | (with_reducible intro _)
    | (extract_lets)
    | split
    | (dsimp +zetaDelta only)
    | (with_reducible apply Keep.mk; with_reducible first | apply Kept.of | (apply Kept.send; apply Kept.of)))

theorem beginGap_keep {x0 x1 x2} (h0 : Keep b s0 x0) : Keep b s0 (beginGap x0 x1 x2) := by
  unfold beginGap
  repeat' (first
    | (with_reducible assumption)
    | (with_reducible apply Keep.ite <;> with_reducible intro _)
    | (with_reducible apply ctxPreempt_keep)
    | (with_reducible apply State.setLane_keep)
    | (with_reducible apply enterState_keep)
    | (with_reducible apply setWork_keep)
    | (with_reducible intro _)
    | (extract_lets)
    | (dsimp +zetaDelta only)
    | (with_reducible apply Keep.mk; with_reducible first | apply Kept.of | (apply Kept.send; apply Kept.of)))

theorem tryGap_keep {x0 x1} (h0 : Keep b s0 x0) : Keep b s0 (tryGap x0 x1) := by
  unfold tryGap
  repeat' (first
    | (with_reducible assumption)
    | (with_reducible apply Keep.ite <;> with_reducible intro _)
    | (with_reducible apply State.setLane_keep)
    | (with_reducible apply beginGap_keep)
    | (with_reducible intro _)
    | split
    | (dsimp +zetaDelta only)
    | (with_reducible apply Keep.mk; with_reducible first | apply Kept.of | (apply Kept.send; apply Kept.of)))

theorem settle_keep {x0 x1} (h0 : Keep b s0 x0) : Keep b s0 (settle x0 x1) := by
  unfold settle
  repeat' (first
    | (with_reducible assumption)
    | (with_reducible apply Keep.ite <;> with_reducible intro _)
    | (with_reducible apply tryGap_keep)
    | (with_reducible apply laneNext_keep)
    | (with_reducible intro _))

theorem backFromGap_keep {x0 x1} (h0 : Keep b s0 x0) : Keep b s0 (backFromGap x0 x1) := by
  unfold backFromGap
  repeat' (first
    | (with_reducible assumption)
    | (with_reducible apply Keep.ite <;> with_reducible intro _)
    | (with_reducible apply setWork_keep)
    | (with_reducible apply settle_keep)
    | (with_reducible apply State.setFld_keep)
    | (with_reducible intro _)
    | (extract_lets))

theorem abortCal_keep {x0 x1} (h0 : Keep b s0 x0) : Keep b s0 (abortCal x0 x1) := by
  unfold abortCal
  repeat' (first
    | (with_reducible assumption)
    | (with_reducible apply Keep.ite <;> with_reducible intro _)
    | (with_reducible apply State.count_keep)
    | (with_reducible apply setWork_keep)
    | (with_reducible apply State.setLane_keep)
    | (with_reducible intro _)
    | split
    | (dsimp +zetaDelta only)
    | (with_reducible apply Keep.mk; with_reducible first | apply Kept.of | (apply Kept.send; apply Kept.of)))

theorem receiveOn_keep {x0 x1 x2} (h0 : Keep b s0 x0) : Keep b s0 (receiveOn x0 x1 x2) := by
  unfold receiveOn
  repeat' (first
    | (with_reducible assumption)
    | (with_reducible apply Keep.ite <;> with_reducible intro _)
    | (with_reducible apply State.setLane_keep)
    | (with_reducible apply settle_keep)
    | (with_reducible intro _)
    | (extract_lets)
    | split
    | (with_reducible apply Keep.mk; with_reducible first | apply Kept.of | (apply Kept.send; apply Kept.of)))

theorem listen_keep {x0 x1} (h0 : Keep b s0 x0) : Keep b s0 (listen x0 x1) := by
  unfold listen
  repeat' (first
    | (with_reducible assumption)
    | (with_reducible apply Keep.ite <;> with_reducible intro _)
    | (with_reducible apply receiveOn_keep)
    | (with_reducible intro _)
    | split)

theorem beginStartup_keep {x0 x1} (h0 : Keep b s0 x0) : Keep b s0 (beginStartup x0 x1) := by
  unfold beginStartup
  repeat' (first
    | (with_reducible assumption)
    | (with_reducible apply Keep.ite <;> with_reducible intro _)
    | (with_reducible apply enterState_keep)
    | (with_reducible apply State.setLane_keep)
    | (with_reducible intro _)
    | (extract_lets)
    | (with_reducible apply Keep.mk; with_reducible first | apply Kept.of | (apply Kept.send; apply Kept.of)))

theorem laneOn_keep {x0 x1} (h0 : Keep b s0 x0) : Keep b s0 (laneOn x0 x1) := by
  unfold laneOn
  repeat' (first
    | (with_reducible assumption)
    | (with_reducible apply Keep.ite <;> with_reducible intro _)
    | (with_reducible apply beginStartup_keep)
    | (with_reducible intro _)
    | split)

theorem laneOff_keep {x0 x1} (h0 : Keep b s0 x0) : Keep b s0 (laneOff x0 x1) := by
  unfold laneOff
  repeat' (first
    | (with_reducible assumption)
    | (with_reducible apply Keep.ite <;> with_reducible intro _)
    | (with_reducible apply State.setLane_keep)
    | (with_reducible apply toOff_keep)
    | (with_reducible apply abortCal_keep)
    | (with_reducible intro _)
    | split
    | (with_reducible apply Keep.mk; with_reducible first | apply Kept.of | (apply Kept.send; apply Kept.of)))

theorem setGain_keep {x0 x1 x2} (h0 : Keep b s0 x0) : Keep b s0 (setGain x0 x1 x2) := by
  unfold setGain
  repeat' (first
    | (with_reducible assumption)
    | (with_reducible apply Keep.ite <;> with_reducible intro _)
    | (with_reducible apply setPins_keep)
    | (with_reducible apply State.setFld_keep)
    | (with_reducible intro _))

theorem laneCtrlWrite_keep {x0 x1 x2 x3 x4} (h0 : Keep b s0 x0) : Keep b s0 (laneCtrlWrite x0 x1 x2 x3 x4) := by
  unfold laneCtrlWrite
  repeat' (first
    | (with_reducible assumption)
    | (with_reducible apply Keep.ite <;> with_reducible intro _)
    | (with_reducible apply State.setLane_keep)
    | (with_reducible apply writeFields_keep)
    | (with_reducible apply setGain_keep)
    | (with_reducible apply laneOff_keep)
    | (with_reducible apply laneOn_keep)
    | (with_reducible intro _)
    | (extract_lets)
    | split
    | (dsimp +zetaDelta only)
    | (with_reducible apply Keep.mk; with_reducible first | apply Kept.of | (apply Kept.send; apply Kept.of)))

theorem blankAssert_keep {x0 x1} (h0 : Keep b s0 x0) : Keep b s0 (blankAssert x0 x1) := by
  unfold blankAssert
  repeat' (first
    | (with_reducible assumption)
    | (with_reducible apply Keep.ite <;> with_reducible intro _)
    | (with_reducible apply State.setFld_keep)
    | (with_reducible apply State.count_keep)
    | (with_reducible apply State.setLane_keep)
    | (with_reducible apply enterState_keep)
    | (with_reducible apply abortCal_keep)
    | (with_reducible apply backFromGap_keep)
    | (with_reducible apply setCause_keep)
    | (with_reducible intro _)
    | (extract_lets)
    | split
    | (dsimp +zetaDelta only)
    | (with_reducible apply Keep.mk; with_reducible first | apply Kept.of | (apply Kept.send; apply Kept.of)))

theorem blankRelease_keep {x0 x1} (h0 : Keep b s0 x0) : Keep b s0 (blankRelease x0 x1) := by
  unfold blankRelease
  repeat' (first
    | (with_reducible assumption)
    | (with_reducible apply Keep.ite <;> with_reducible intro _)
    | (with_reducible apply settle_keep)
    | (with_reducible apply noteGap_keep)
    | (with_reducible apply laneOn_keep)
    | (with_reducible apply State.setFld_keep)
    | (with_reducible apply State.count_keep)
    | (with_reducible apply enterState_keep)
    | (with_reducible apply hopTo_keep)
    | (with_reducible apply tryGap_keep)
    | (with_reducible intro _)
    | (extract_lets)
    | split
    | (dsimp +zetaDelta only)
    | (with_reducible apply Keep.mk; with_reducible first | apply Kept.of | (apply Kept.send; apply Kept.of)))

theorem blankCfgWrite_keep {x0 x1 x2 x3 x4} (h0 : Keep b s0 x0) : Keep b s0 (blankCfgWrite x0 x1 x2 x3 x4) := by
  unfold blankCfgWrite
  repeat' (first
    | (with_reducible assumption)
    | (with_reducible apply Keep.ite <;> with_reducible intro _)
    | (with_reducible apply writeFields_keep)
    | (with_reducible apply blankRelease_keep)
    | (with_reducible apply blankAssert_keep)
    | (with_reducible intro _)
    | (extract_lets)
    | split)

theorem setAnchorBit_keep {x0 x1 x2 x3 x4} (h0 : Keep b s0 x0) : Keep b s0 (setAnchorBit x0 x1 x2 x3 x4) := by
  unfold setAnchorBit
  repeat' (first
    | (with_reducible assumption)
    | (with_reducible apply Keep.ite <;> with_reducible intro _)
    | (with_reducible apply State.setReg_keep)
    | (with_reducible intro _))

theorem clearAnchors_keep {x0 x1 x2} (h0 : Keep b s0 x0) : Keep b s0 (clearAnchors x0 x1 x2) := by
  unfold clearAnchors
  repeat' (first
    | (with_reducible assumption)
    | (with_reducible apply Keep.ite <;> with_reducible intro _)
    | (with_reducible apply setAnchorBit_keep)
    | (with_reducible apply Keep.foldl <;> [intro _ _ _; skip])
    | (with_reducible intro _))

theorem anchorWrite_keep {x0 x1 x2 x3 x4} (h0 : Keep b s0 x0) : Keep b s0 (anchorWrite x0 x1 x2 x3 x4) := by
  unfold anchorWrite
  repeat' (first
    | (with_reducible assumption)
    | (with_reducible apply Keep.ite <;> with_reducible intro _)
    | (with_reducible apply writeFields_keep)
    | (with_reducible apply setAnchorBit_keep)
    | (with_reducible apply Keep.foldl <;> [intro _ _ _; skip])
    | (with_reducible intro _)
    | (extract_lets)
    | split)

theorem analogWrite_keep {x0 x1 x2 x3} (h0 : Keep b s0 x0) : Keep b s0 (analogWrite x0 x1 x2 x3) := by
  unfold analogWrite
  repeat' (first
    | (with_reducible assumption)
    | (with_reducible apply Keep.ite <;> with_reducible intro _)
    | (with_reducible apply clearAnchors_keep)
    | (with_reducible apply setAnalog_keep)
    | (with_reducible apply State.setLane_keep)
    | (with_reducible intro _)
    | (extract_lets)
    | split
    | (with_reducible apply Keep.mk; with_reducible first | apply Kept.of | (apply Kept.send; apply Kept.of))
    | (dsimp +zetaDelta only))

/-! ### Regl -/

theorem fitAll_keep {x0 x1 x2 x3} (h0 : Keep b s0 x0) : Keep b s0 (fitAll x0 x1 x2 x3).1 := by
  unfold fitAll
  extract_lets
  refine Keep.foldl_fst (fun r n hr => ?_) h0
  split
  · exact hr
  · split
    · exact hr
    · exact setCause_keep (State.event_keep hr)

theorem buildAccounts_keep {x0 x1 x2 x3} (h0 : Keep b s0 x0) : Keep b s0 (buildAccounts x0 x1 x2 x3).1 := by
  unfold buildAccounts
  repeat' (first
    | (with_reducible assumption)
    | (with_reducible apply Keep.ite <;> with_reducible intro _)
    | (with_reducible apply fitAll_keep)
    | (with_reducible apply Keep.foldl <;> [intro _ _ _; skip])
    | (with_reducible intro _)
    | (extract_lets)
    | split
    | (with_reducible refine Keep.snd ?_ (by with_reducible assumption))
    | (with_reducible refine Keep.trd ?_ (by with_reducible assumption))
    | (with_reducible apply Keep.ite_fst <;> with_reducible intro _)
    | (with_reducible apply Keep.ite_snd <;> with_reducible intro _)
    | (with_reducible apply Keep.foldl_snd <;> [intro _ _ _; skip])
    | (with_reducible apply Keep.foldl_fst <;> [intro _ _ _; skip])
    | (with_reducible apply Keep.mk; with_reducible first | apply Kept.of | (apply Kept.send; apply Kept.of)))

theorem putSet_keep {x0 x1 x2} (h0 : Keep b s0 x0) : Keep b s0 (putSet x0 x1 x2) := by
  unfold putSet
  repeat' (first
    | (with_reducible assumption)
    | (with_reducible apply Keep.ite <;> with_reducible intro _)
    | (with_reducible intro _)
    | split
    | (with_reducible apply Keep.mk; with_reducible first | apply Kept.of | (apply Kept.send; apply Kept.of)))

theorem withheld_keep {x0 x1 x2 x3 x4} (h0 : Keep b s0 x0) : Keep b s0 (withheld x0 x1 x2 x3 x4) := by
  unfold withheld
  repeat' (first
    | (with_reducible assumption)
    | (with_reducible apply Keep.ite <;> with_reducible intro _)
    | (with_reducible apply State.count_keep)
    | (with_reducible apply setCause_keep)
    | (with_reducible apply State.event_keep)
    | (with_reducible apply putSet_keep)
    | (with_reducible intro _)
    | (extract_lets)
    | split
    | (dsimp +zetaDelta only)
    | (with_reducible apply Keep.mk; with_reducible first | apply Kept.of | (apply Kept.send; apply Kept.of)))

theorem grant_keep {x0 x1 x2} (h0 : Keep b s0 x0) : Keep b s0 (grant x0 x1 x2).2 := by
  unfold grant
  repeat' (first
    | (with_reducible assumption)
    | (with_reducible apply Keep.ite <;> with_reducible intro _)
    | (with_reducible apply withheld_keep)
    | (with_reducible apply State.count_keep)
    | (with_reducible apply putSet_keep)
    | (with_reducible apply Keep.foldl <;> [intro _ _ _; skip])
    | (with_reducible intro _)
    | (extract_lets)
    | split
    | (with_reducible refine Keep.snd ?_ (by with_reducible assumption))
    | (with_reducible refine Keep.trd ?_ (by with_reducible assumption))
    | (with_reducible apply Keep.ite_fst <;> with_reducible intro _)
    | (with_reducible apply Keep.ite_snd <;> with_reducible intro _)
    | (with_reducible apply Keep.foldl_snd <;> [intro _ _ _; skip])
    | (with_reducible apply Keep.foldl_fst <;> [intro _ _ _; skip])
    | (dsimp +zetaDelta only)
    | (with_reducible apply Keep.mk; with_reducible first | apply Kept.of | (apply Kept.send; apply Kept.of)))

theorem recharge_keep {x0 x1 x2} (h0 : Keep b s0 x0) : Keep b s0 (recharge x0 x1 x2) := by
  unfold recharge
  repeat' (first
    | (with_reducible assumption)
    | (with_reducible apply Keep.ite <;> with_reducible intro _)
    | (with_reducible apply putSet_keep)
    | (with_reducible apply Keep.foldl <;> [intro _ _ _; skip])
    | (with_reducible intro _))

theorem refund_keep {x0 x1} (h0 : Keep b s0 x0) : Keep b s0 (refund x0 x1) := by
  unfold refund
  repeat' (first
    | (with_reducible assumption)
    | (with_reducible apply Keep.ite <;> with_reducible intro _)
    | (with_reducible apply State.count_keep)
    | (with_reducible apply recharge_keep)
    | (with_reducible intro _))

theorem correctCharge_keep {x0 x1 x2} (h0 : Keep b s0 x0) : Keep b s0 (correctCharge x0 x1 x2).2 := by
  unfold correctCharge
  repeat' (first
    | (with_reducible assumption)
    | (with_reducible apply Keep.ite <;> with_reducible intro _)
    | (with_reducible apply recharge_keep)
    | (with_reducible intro _)
    | (extract_lets)
    | split
    | (with_reducible refine Keep.snd ?_ (by with_reducible assumption))
    | (with_reducible refine Keep.trd ?_ (by with_reducible assumption))
    | (with_reducible apply Keep.ite_fst <;> with_reducible intro _)
    | (with_reducible apply Keep.ite_snd <;> with_reducible intro _)
    | (with_reducible apply Keep.foldl_snd <;> [intro _ _ _; skip])
    | (with_reducible apply Keep.foldl_fst <;> [intro _ _ _; skip])
    | (with_reducible apply Keep.mk; with_reducible first | apply Kept.of | (apply Kept.send; apply Kept.of)))

theorem bucketBoundary_keep {x0} (h0 : Keep b s0 x0) : Keep b s0 (bucketBoundary x0) := by
  unfold bucketBoundary
  repeat' (first
    | (with_reducible assumption)
    | (with_reducible apply Keep.ite <;> with_reducible intro _)
    | (with_reducible intro _)
    | (extract_lets)
    | (with_reducible apply Keep.mk; with_reducible first | apply Kept.of | (apply Kept.send; apply Kept.of)))

theorem execRglBucketBoundary_keep {x0} (h0 : Keep b s0 x0) : KeepR b s0 (execRglBucketBoundary x0) := by
  unfold execRglBucketBoundary
  repeat' (first
    | (with_reducible assumption)
    | (with_reducible apply KeepR.next)
    | (with_reducible apply KeepR.ite <;> with_reducible intro _)
    | (with_reducible apply Keep.ite <;> with_reducible intro _)
    | (with_reducible apply bucketBoundary_keep)
    | (with_reducible intro _)
    | split)

theorem profileWrite_keep {x0 x1 x2 x3 x4} (h0 : Keep b s0 x0) : Keep b s0 (profileWrite x0 x1 x2 x3 x4) := by
  unfold profileWrite
  repeat' (first
    | (with_reducible assumption)
    | (with_reducible apply Keep.ite <;> with_reducible intro _)
    | (with_reducible apply writeFields_keep)
    | (with_reducible apply State.setFld_keep)
    | (with_reducible intro _)
    | (extract_lets)
    | split
    | (with_reducible apply Keep.mk; with_reducible first | apply Kept.of | (apply Kept.send; apply Kept.of)))

theorem execProfileWrite_keep {x0 x1 x2 x3} (h3 : Keep b s0 x3) : KeepR b s0 (execProfileWrite x0 x1 x2 x3) := by
  unfold execProfileWrite
  repeat' (first
    | (with_reducible assumption)
    | (with_reducible apply KeepR.next)
    | (with_reducible apply KeepR.ite <;> with_reducible intro _)
    | (with_reducible apply Keep.ite <;> with_reducible intro _)
    | (with_reducible apply gateWrite_keep)
    | (with_reducible apply profileWrite_keep)
    | (with_reducible intro _)
    | (extract_lets)
    | split)

theorem profilePrepare_keep {x0} (h0 : Keep b s0 x0) : Keep b s0 (profilePrepare x0) := by
  unfold profilePrepare
  repeat' (first
    | (with_reducible assumption)
    | (with_reducible apply Keep.ite <;> with_reducible intro _)
    | (with_reducible apply buildAccounts_keep)
    | (with_reducible intro _)
    | (extract_lets)
    | (with_reducible refine Keep.snd ?_ (by with_reducible assumption))
    | (with_reducible refine Keep.trd ?_ (by with_reducible assumption))
    | (with_reducible apply Keep.mk; with_reducible first | apply Kept.of | (apply Kept.send; apply Kept.of)))

theorem execProfilePrepare_keep {x0} (h0 : Keep b s0 x0) : KeepR b s0 (execProfilePrepare x0) := by
  unfold execProfilePrepare
  repeat' (first
    | (with_reducible assumption)
    | (with_reducible apply KeepR.next)
    | (with_reducible apply KeepR.ite <;> with_reducible intro _)
    | (with_reducible apply Keep.ite <;> with_reducible intro _)
    | (with_reducible apply profilePrepare_keep)
    | (with_reducible intro _)
    | split)

theorem forgetCharges_keep {x0} (h0 : Keep b s0 x0) : Keep b s0 (forgetCharges x0) := by
  unfold forgetCharges
  repeat' (first
    | (with_reducible assumption)
    | (with_reducible apply Keep.ite <;> with_reducible intro _)
    | (with_reducible apply setTxs_keep)
    | (with_reducible apply Keep.foldl <;> [intro _ _ _; skip])
    | (with_reducible intro _)
    | split
    | (with_reducible apply Keep.mk; with_reducible first | apply Kept.of | (apply Kept.send; apply Kept.of)))

theorem reglBoundary_keep {x0 x1} (h0 : Keep b s0 x0) : Keep b s0 (reglBoundary x0 x1) := by
  unfold reglBoundary
  repeat' (first
    | (with_reducible assumption)
    | (with_reducible apply Keep.ite <;> with_reducible intro _)
    | (with_reducible apply forgetCharges_keep)
    | (with_reducible apply State.setFld_keep)
    | (with_reducible apply setCause_keep)
    | (with_reducible apply State.event_keep)
    | (with_reducible apply fitAll_keep)
    | (with_reducible intro _)
    | (extract_lets)
    | split
    | (with_reducible refine Keep.snd ?_ (by with_reducible assumption))
    | (with_reducible refine Keep.trd ?_ (by with_reducible assumption))
    | (dsimp +zetaDelta only)
    | (with_reducible apply Keep.mk; with_reducible first | apply Kept.of | (apply Kept.send; apply Kept.of)))

theorem rebuildAccounts_keep {x0} (h0 : Keep b s0 x0) : Keep b s0 (rebuildAccounts x0) := by
  unfold rebuildAccounts
  repeat' (first
    | (with_reducible assumption)
    | (with_reducible apply Keep.ite <;> with_reducible intro _)
    | (with_reducible apply buildAccounts_keep)
    | (with_reducible apply State.setFld_keep)
    | (with_reducible intro _)
    | (extract_lets)
    | (with_reducible refine Keep.snd ?_ (by with_reducible assumption))
    | (with_reducible refine Keep.trd ?_ (by with_reducible assumption))
    | (with_reducible apply Keep.mk; with_reducible first | apply Kept.of | (apply Kept.send; apply Kept.of)))

theorem acctSelWrite_keep {x0 x1 x2 x3} (h0 : Keep b s0 x0) : Keep b s0 (acctSelWrite x0 x1 x2 x3) := by
  unfold acctSelWrite
  repeat' (first
    | (with_reducible assumption)
    | (with_reducible apply Keep.ite <;> with_reducible intro _)
    | (with_reducible apply writeFields_keep)
    | (with_reducible apply State.setReg_keep)
    | (with_reducible intro _)
    | (extract_lets)
    | split
    | (dsimp +zetaDelta only))

theorem execAcctSelWrite_keep {x0 x1 x2} (h2 : Keep b s0 x2) : KeepR b s0 (execAcctSelWrite x0 x1 x2) := by
  unfold execAcctSelWrite
  repeat' (first
    | (with_reducible assumption)
    | (with_reducible apply KeepR.next)
    | (with_reducible apply KeepR.ite <;> with_reducible intro _)
    | (with_reducible apply Keep.ite <;> with_reducible intro _)
    | (with_reducible apply gateWrite_keep)
    | (with_reducible apply acctSelWrite_keep)
    | (with_reducible intro _))

/-! ### EventLog -/

theorem evrPut_keep {x0 x1 x2} (h0 : Keep b s0 x0) : Keep b s0 (evrPut x0 x1 x2) := by
  unfold evrPut
  repeat' (first
    | (with_reducible assumption)
    | (with_reducible apply Keep.ite <;> with_reducible intro _)
    | (with_reducible apply State.send_keep)
    | (with_reducible apply State.setFld_keep)
    | (with_reducible intro _)
    | (extract_lets)
    | split
    | (with_reducible apply Keep.mk; with_reducible first | apply Kept.of | (apply Kept.send; apply Kept.of)))

theorem evrCopy_keep {x0 x1 x2 x3} (h0 : Keep b s0 x0) : Keep b s0 (evrCopy x0 x1 x2 x3) := by
  unfold evrCopy
  repeat' (first
    | (with_reducible assumption)
    | (with_reducible apply Keep.ite <;> with_reducible intro _)
    | (with_reducible apply setCause_keep)
    | (with_reducible apply evrPut_keep)
    | (with_reducible intro _)
    | split
    | (with_reducible apply Keep.mk; with_reducible first | apply Kept.of | (apply Kept.send; apply Kept.of)))

theorem eventWrite_keep {x0} (h0 : Keep b s0 x0) : Keep b s0 (eventWrite x0) := by
  unfold eventWrite
  repeat' (first
    | (with_reducible assumption)
    | (with_reducible apply Keep.ite <;> with_reducible intro _)
    | (with_reducible apply State.ramStore_keep)
    | (with_reducible apply State.setReg_keep)
    | (with_reducible apply evrCopy_keep)
    | (with_reducible intro _)
    | (extract_lets)
    | split
    | (dsimp +zetaDelta only)
    | (with_reducible apply Keep.mk; with_reducible first | apply Kept.of | (apply Kept.send; apply Kept.of)))

theorem flushEvents_keep {x0 x1} (h1 : Keep b s0 x1) : Keep b s0 (flushEvents x0 x1) := by
  induction x0 generalizing x1 with
  | zero => exact h1
  | succ n ih => exact ih (eventWrite_keep h1)

theorem evrBreak_keep {x0} (h0 : Keep b s0 x0) : Keep b s0 (evrBreak x0) := by
  unfold evrBreak
  repeat' (first
    | (with_reducible assumption)
    | (with_reducible apply Keep.ite <;> with_reducible intro _)
    | (with_reducible apply drawBytes_keep)
    | (with_reducible apply evrPut_keep)
    | (with_reducible apply setCause_keep)
    | (with_reducible intro _)
    | (extract_lets)
    | split
    | (with_reducible refine Keep.snd ?_ (by with_reducible assumption))
    | (with_reducible refine Keep.trd ?_ (by with_reducible assumption))
    | (dsimp +zetaDelta only)
    | (with_reducible apply Keep.mk; with_reducible first | apply Kept.of | (apply Kept.send; apply Kept.of)))

theorem execEventRecordWrite_keep {x0} (h0 : Keep b s0 x0) : KeepR b s0 (execEventRecordWrite x0) := by
  unfold execEventRecordWrite
  repeat' (first
    | (with_reducible assumption)
    | (with_reducible apply KeepR.next)
    | (with_reducible apply KeepR.ite <;> with_reducible intro _)
    | (with_reducible apply Keep.ite <;> with_reducible intro _)
    | (with_reducible apply eventWrite_keep)
    | (with_reducible intro _))

theorem execEvrBreakWrite_keep {x0} (h0 : Keep b s0 x0) : KeepR b s0 (execEvrBreakWrite x0) := by
  unfold execEvrBreakWrite
  repeat' (first
    | (with_reducible assumption)
    | (with_reducible apply KeepR.next)
    | (with_reducible apply KeepR.ite <;> with_reducible intro _)
    | (with_reducible apply Keep.ite <;> with_reducible intro _)
    | (with_reducible apply evrBreak_keep)
    | (with_reducible intro _))

theorem evrHeadWrite_keep {x0 x1 x2 x3} (h0 : Keep b s0 x0) : Keep b s0 (evrHeadWrite x0 x1 x2 x3) := by
  unfold evrHeadWrite
  repeat' (first
    | (with_reducible assumption)
    | (with_reducible apply Keep.ite <;> with_reducible intro _)
    | (with_reducible apply ringConfigErr_keep)
    | (with_reducible apply State.setFld_keep)
    | (with_reducible intro _)
    | (extract_lets)
    | split
    | (with_reducible apply Keep.mk; with_reducible first | apply Kept.of | (apply Kept.send; apply Kept.of)))

theorem execEvrHeadWrite_keep {x0 x1 x2} (h2 : Keep b s0 x2) : KeepR b s0 (execEvrHeadWrite x0 x1 x2) := by
  unfold execEvrHeadWrite
  repeat' (first
    | (with_reducible assumption)
    | (with_reducible apply KeepR.next)
    | (with_reducible apply KeepR.ite <;> with_reducible intro _)
    | (with_reducible apply Keep.ite <;> with_reducible intro _)
    | (with_reducible apply gateWrite_keep)
    | (with_reducible apply evrHeadWrite_keep)
    | (with_reducible intro _))

theorem evrCtrlWrite_keep {x0 x1 x2 x3} (h0 : Keep b s0 x0) : Keep b s0 (evrCtrlWrite x0 x1 x2 x3) := by
  unfold evrCtrlWrite
  repeat' (first
    | (with_reducible assumption)
    | (with_reducible apply Keep.ite <;> with_reducible intro _)
    | (with_reducible apply writeFields_keep)
    | (with_reducible apply ringConfigErr_keep)
    | (with_reducible intro _)
    | (extract_lets)
    | split
    | (with_reducible apply Keep.mk; with_reducible first | apply Kept.of | (apply Kept.send; apply Kept.of)))

theorem execEvrEnableWrite_keep {x0 x1 x2} (h2 : Keep b s0 x2) : KeepR b s0 (execEvrEnableWrite x0 x1 x2) := by
  unfold execEvrEnableWrite
  repeat' (first
    | (with_reducible assumption)
    | (with_reducible apply KeepR.next)
    | (with_reducible apply KeepR.ite <;> with_reducible intro _)
    | (with_reducible apply Keep.ite <;> with_reducible intro _)
    | (with_reducible apply fire_keep)
    | (with_reducible apply gateWrite_keep)
    | (with_reducible apply evrCtrlWrite_keep)
    | (with_reducible intro _))

theorem evrBaseWrite_keep {x0 x1 x2 x3} (h0 : Keep b s0 x0) : Keep b s0 (evrBaseWrite x0 x1 x2 x3) := by
  unfold evrBaseWrite
  repeat' (first
    | (with_reducible assumption)
    | (with_reducible apply Keep.ite <;> with_reducible intro _)
    | (with_reducible apply ringConfigErr_keep)
    | (with_reducible apply wideWrite_keep)
    | (with_reducible apply writeFields_keep)
    | (with_reducible intro _)
    | split)

/-! ### HostOps -/

theorem execRingEnableWrite_keep {x0 x1 x2 x3} (h3 : Keep b s0 x3) : KeepR b s0 (execRingEnableWrite x0 x1 x2 x3) := by
  unfold execRingEnableWrite
  repeat' (first
    | (with_reducible assumption)
    | (with_reducible apply KeepR.next)
    | (with_reducible apply KeepR.ite <;> with_reducible intro _)
    | (with_reducible apply Keep.ite <;> with_reducible intro _)
    | (with_reducible apply fire_keep)
    | (with_reducible apply gateWrite_keep)
    | (with_reducible apply ringCtrlWrite_keep)
    | (with_reducible intro _))

theorem execRingReset_keep {x0 x1 x2 x3} (h3 : Keep b s0 x3) : KeepR b s0 (execRingReset x0 x1 x2 x3) := by
  unfold execRingReset
  repeat' (first
    | (with_reducible assumption)
    | (with_reducible apply KeepR.next)
    | (with_reducible apply KeepR.ite <;> with_reducible intro _)
    | (with_reducible apply Keep.ite <;> with_reducible intro _)
    | (with_reducible apply fire_keep)
    | (with_reducible apply gateWrite_keep)
    | (with_reducible apply ringCtrlWrite_keep)
    | (with_reducible intro _))

theorem execRingResetEffect_keep {x0 x1} (h1 : Keep b s0 x1) : KeepR b s0 (execRingResetEffect x0 x1) := by
  unfold execRingResetEffect
  repeat' (first
    | (with_reducible assumption)
    | (with_reducible apply KeepR.next)
    | (with_reducible apply KeepR.ite <;> with_reducible intro _)
    | (with_reducible apply Keep.ite <;> with_reducible intro _)
    | (with_reducible apply resetEffect_keep)
    | (with_reducible intro _)
    | split)

theorem execRingStoppingEnd_keep {x0 x1} (h1 : Keep b s0 x1) : KeepR b s0 (execRingStoppingEnd x0 x1) := by
  unfold execRingStoppingEnd
  repeat' (first
    | (with_reducible assumption)
    | (with_reducible apply KeepR.next)
    | (with_reducible apply KeepR.ite <;> with_reducible intro _)
    | (with_reducible apply Keep.ite <;> with_reducible intro _)
    | (with_reducible apply enterDisabled_keep)
    | (with_reducible intro _)
    | split)

theorem execRingConfigWrite_keep {x0 x1 x2 x3} (h3 : Keep b s0 x3) : KeepR b s0 (execRingConfigWrite x0 x1 x2 x3) := by
  unfold execRingConfigWrite
  repeat' (first
    | (with_reducible assumption)
    | (with_reducible apply KeepR.next)
    | (with_reducible apply KeepR.ite <;> with_reducible intro _)
    | (with_reducible apply Keep.ite <;> with_reducible intro _)
    | (with_reducible apply gateWrite_keep)
    | (with_reducible apply evrBaseWrite_keep)
    | (with_reducible apply ringConfigWrite_keep)
    | (with_reducible intro _)
    | split)

theorem tailWrite_keep {x0 x1 x2 x3 x4} (h0 : Keep b s0 x0) : Keep b s0 (tailWrite x0 x1 x2 x3 x4) := by
  unfold tailWrite
  repeat' (first
    | (with_reducible assumption)
    | (with_reducible apply Keep.ite <;> with_reducible intro _)
    | (with_reducible apply ringConfigErr_keep)
    | (with_reducible apply startFetch_keep)
    | (with_reducible apply State.setFld_keep)
    | (with_reducible intro _)
    | (extract_lets)
    | split)

theorem execSqTailDoorbell_keep {x0 x1 x2 x3} (h3 : Keep b s0 x3) : KeepR b s0 (execSqTailDoorbell x0 x1 x2 x3) := by
  unfold execSqTailDoorbell
  repeat' (first
    | (with_reducible assumption)
    | (with_reducible apply KeepR.next)
    | (with_reducible apply KeepR.ite <;> with_reducible intro _)
    | (with_reducible apply Keep.ite <;> with_reducible intro _)
    | (with_reducible apply gateWrite_keep)
    | (with_reducible apply tailWrite_keep)
    | (with_reducible intro _))

theorem cqHeadWrite_keep {x0 x1 x2 x3 x4} (h0 : Keep b s0 x0) : Keep b s0 (cqHeadWrite x0 x1 x2 x3 x4) := by
  unfold cqHeadWrite
  repeat' (first
    | (with_reducible assumption)
    | (with_reducible apply Keep.ite <;> with_reducible intro _)
    | (with_reducible apply ringConfigErr_keep)
    | (with_reducible apply State.setFld_keep)
    | (with_reducible intro _)
    | (extract_lets)
    | split)

theorem execCqHeadWrite_keep {x0 x1 x2 x3} (h3 : Keep b s0 x3) : KeepR b s0 (execCqHeadWrite x0 x1 x2 x3) := by
  unfold execCqHeadWrite
  repeat' (first
    | (with_reducible assumption)
    | (with_reducible apply KeepR.next)
    | (with_reducible apply KeepR.ite <;> with_reducible intro _)
    | (with_reducible apply Keep.ite <;> with_reducible intro _)
    | (with_reducible apply gateWrite_keep)
    | (with_reducible apply cqHeadWrite_keep)
    | (with_reducible intro _))

theorem dmaFail_keep {x0 x1} (h0 : Keep b s0 x0) : Keep b s0 (dmaFail x0 x1) := by
  unfold dmaFail
  repeat' (first
    | (with_reducible assumption)
    | (with_reducible apply Keep.ite <;> with_reducible intro _)
    | (with_reducible apply recordErr_keep)
    | (with_reducible intro _)
    | split)

theorem fetchDone_keep {x0 x1 x2} (h0 : Keep b s0 x0) : Keep b s0 (fetchDone x0 x1 x2) := by
  unfold fetchDone
  repeat' (first
    | (with_reducible assumption)
    | (with_reducible apply Keep.ite <;> with_reducible intro _)
    | (with_reducible apply State.count_keep)
    | (with_reducible apply ringFault_keep)
    | (with_reducible apply dmaFail_keep)
    | (with_reducible apply State.setRing_keep)
    | (with_reducible apply recordErr_keep)
    | (with_reducible intro _)
    | (extract_lets)
    | split
    | (dsimp +zetaDelta only)
    | (with_reducible apply Keep.mk; with_reducible first | apply Kept.of | (apply Kept.send; apply Kept.of)))

theorem staleFetchDone_keep {x0 x1 x2} (h0 : Keep b s0 x0) : Keep b s0 (staleFetchDone x0 x1 x2) := by
  unfold staleFetchDone
  repeat' (first
    | (with_reducible assumption)
    | (with_reducible apply Keep.ite <;> with_reducible intro _)
    | (with_reducible apply State.setRing_keep)
    | (with_reducible apply dmaFail_keep)
    | (with_reducible apply ringFault_keep)
    | (with_reducible intro _)
    | (extract_lets)
    | split
    | (dsimp +zetaDelta only)
    | (with_reducible apply Keep.mk; with_reducible first | apply Kept.of | (apply Kept.send; apply Kept.of)))

theorem execDescFetchDone_keep {x0 x1 x2} (h2 : Keep b s0 x2) : KeepR b s0 (execDescFetchDone x0 x1 x2) := by
  unfold execDescFetchDone
  repeat' (first
    | (with_reducible assumption)
    | (with_reducible apply KeepR.next)
    | (with_reducible apply KeepR.ite <;> with_reducible intro _)
    | (with_reducible apply Keep.ite <;> with_reducible intro _)
    | (with_reducible apply readsGo_keep)
    | (with_reducible apply staleFetchDone_keep)
    | (with_reducible apply fetchDone_keep)
    | (with_reducible intro _)
    | split
    | (with_reducible apply Keep.mk; with_reducible first | apply Kept.of | (apply Kept.send; apply Kept.of)))

theorem execCompletionWrite_keep {x0 x1} (h1 : Keep b s0 x1) : KeepR b s0 (execCompletionWrite x0 x1) := by
  unfold execCompletionWrite
  repeat' (first
    | (with_reducible assumption)
    | (with_reducible apply KeepR.next)
    | (with_reducible apply KeepR.ite <;> with_reducible intro _)
    | (with_reducible apply Keep.ite <;> with_reducible intro _)
    | (with_reducible apply completionWrite_keep)
    | (with_reducible intro _))

theorem mbxSubmit_keep {x0 x1 x2} (h0 : Keep b s0 x0) : Keep b s0 (mbxSubmit x0 x1 x2) := by
  unfold mbxSubmit
  repeat' (first
    | (with_reducible assumption)
    | (with_reducible apply Keep.ite <;> with_reducible intro _)
    | (with_reducible apply startGo_keep)
    | (with_reducible intro _)
    | split)

theorem execMbxSubmit_keep {x0 x1 x2} (h2 : Keep b s0 x2) : KeepR b s0 (execMbxSubmit x0 x1 x2) := by
  unfold execMbxSubmit
  repeat' (first
    | (with_reducible assumption)
    | (with_reducible apply KeepR.next)
    | (with_reducible apply KeepR.ite <;> with_reducible intro _)
    | (with_reducible apply Keep.ite <;> with_reducible intro _)
    | (with_reducible apply gateWrite_keep)
    | (with_reducible apply mbxSubmit_keep)
    | (with_reducible intro _))

theorem mbxCopy_keep {x0} (h0 : Keep b s0 x0) : Keep b s0 (mbxCopy x0) := by
  unfold mbxCopy
  repeat' (first
    | (with_reducible assumption)
    | (with_reducible apply Keep.ite <;> with_reducible intro _)
    | (with_reducible apply endGo_keep)
    | (with_reducible apply State.setRing_keep)
    | (with_reducible intro _)
    | (extract_lets)
    | split
    | (with_reducible refine Keep.snd ?_ (by with_reducible assumption))
    | (with_reducible refine Keep.trd ?_ (by with_reducible assumption))
    | (with_reducible apply Keep.mk; with_reducible first | apply Kept.of | (apply Kept.send; apply Kept.of)))

theorem execMbxDescCopy_keep {x0} (h0 : Keep b s0 x0) : KeepR b s0 (execMbxDescCopy x0) := by
  unfold execMbxDescCopy
  repeat' (first
    | (with_reducible assumption)
    | (with_reducible apply KeepR.next)
    | (with_reducible apply KeepR.ite <;> with_reducible intro _)
    | (with_reducible apply Keep.ite <;> with_reducible intro _)
    | (with_reducible apply mbxCopy_keep)
    | (with_reducible intro _))

theorem readWide_keep {x0 x1 x2 x3} (h0 : Keep b s0 x0) : Keep b s0 (readWide x0 x1 x2 x3) := by
  unfold readWide
  repeat' (first
    | (with_reducible assumption)
    | (with_reducible apply Keep.ite <;> with_reducible intro _)
    | (with_reducible apply State.send_keep)
    | (with_reducible apply latchShadow_keep)
    | (with_reducible intro _))

theorem mbxPop_keep {x0 x1} (h0 : Keep b s0 x0) : Keep b s0 (mbxPop x0 x1) := by
  unfold mbxPop
  repeat' (first
    | (with_reducible assumption)
    | (with_reducible apply Keep.ite <;> with_reducible intro _)
    | (with_reducible apply readWide_keep)
    | (with_reducible apply State.setRing_keep)
    | (with_reducible apply State.setReg_keep)
    | (with_reducible apply Keep.foldl <;> [intro _ _ _; skip])
    | (with_reducible intro _)
    | (extract_lets)
    | split
    | (with_reducible apply Keep.mk; with_reducible first | apply Kept.of | (apply Kept.send; apply Kept.of)))

theorem execMbxCplPop_keep {x0 x1} (h1 : Keep b s0 x1) : KeepR b s0 (execMbxCplPop x0 x1) := by
  unfold execMbxCplPop
  repeat' (first
    | (with_reducible assumption)
    | (with_reducible apply KeepR.next)
    | (with_reducible apply KeepR.ite <;> with_reducible intro _)
    | (with_reducible apply Keep.ite <;> with_reducible intro _)
    | (with_reducible apply gateRead_keep)
    | (with_reducible apply mbxPop_keep)
    | (with_reducible intro _))

theorem rearm_keep {x0 x1} (h0 : Keep b s0 x0) : Keep b s0 (rearm x0 x1) := by
  unfold rearm
  repeat' (first
    | (with_reducible assumption)
    | (with_reducible apply Keep.ite <;> with_reducible intro _)
    | (with_reducible apply fireVector_keep)
    | (with_reducible intro _)
    | (extract_lets)
    | split
    | (with_reducible apply Keep.mk; with_reducible first | apply Kept.of | (apply Kept.send; apply Kept.of)))

theorem execVecRearmWrite_keep {x0 x1 x2} (h2 : Keep b s0 x2) : KeepR b s0 (execVecRearmWrite x0 x1 x2) := by
  unfold execVecRearmWrite
  repeat' (first
    | (with_reducible assumption)
    | (with_reducible apply KeepR.next)
    | (with_reducible apply KeepR.ite <;> with_reducible intro _)
    | (with_reducible apply Keep.ite <;> with_reducible intro _)
    | (with_reducible apply gateWrite_keep)
    | (with_reducible apply rearm_keep)
    | (with_reducible intro _))

theorem maskWrite_keep {x0 x1 x2} (h0 : Keep b s0 x0) : Keep b s0 (maskWrite x0 x1 x2) := by
  unfold maskWrite
  repeat' (first
    | (with_reducible assumption)
    | (with_reducible apply Keep.ite <;> with_reducible intro _)
    | (with_reducible apply releaseDue_keep)
    | (with_reducible intro _)
    | split
    | (with_reducible apply Keep.mk; with_reducible first | apply Kept.of | (apply Kept.send; apply Kept.of)))

theorem bar2Write_keep {x0 x1 x2} (h0 : Keep b s0 x0) : Keep b s0 (bar2Write x0 x1 x2) := by
  unfold bar2Write
  repeat' (first
    | (with_reducible assumption)
    | (with_reducible apply Keep.ite <;> with_reducible intro _)
    | (with_reducible apply maskWrite_keep)
    | (with_reducible intro _)
    | split
    | (with_reducible apply Keep.mk; with_reducible first | apply Kept.of | (apply Kept.send; apply Kept.of)))

theorem execPerVectorMaskWrite_keep {x0 x1 x2} (h2 : Keep b s0 x2) : KeepR b s0 (execPerVectorMaskWrite x0 x1 x2) := by
  unfold execPerVectorMaskWrite
  repeat' (first
    | (with_reducible assumption)
    | (with_reducible apply KeepR.next)
    | (with_reducible apply KeepR.ite <;> with_reducible intro _)
    | (with_reducible apply Keep.ite <;> with_reducible intro _)
    | (with_reducible apply maskWrite_keep)
    | (with_reducible apply bar2Write_keep)
    | (with_reducible apply State.send_keep)
    | (with_reducible intro _)
    | split
    | (with_reducible apply Keep.mk; with_reducible first | apply Kept.of | (apply Kept.send; apply Kept.of)))

theorem busControl_keep {x0 x1 x2 x3} (h0 : Keep b s0 x0) : Keep b s0 (busControl x0 x1 x2 x3) := by
  unfold busControl
  repeat' (first
    | (with_reducible assumption)
    | (with_reducible apply Keep.ite <;> with_reducible intro _)
    | (with_reducible apply readsGo_keep)
    | (with_reducible apply fire_keep)
    | (with_reducible apply releaseDue_keep)
    | (with_reducible apply Keep.foldl <;> [intro _ _ _; skip])
    | (with_reducible intro _)
    | (extract_lets)
    | split
    | (dsimp +zetaDelta only)
    | (with_reducible apply Keep.mk; with_reducible first | apply Kept.of | (apply Kept.send; apply Kept.of)))

theorem execBusMasterEnableWrite_keep {x0 x1 x2 x3} (h3 : Keep b s0 x3) : KeepR b s0 (execBusMasterEnableWrite x0 x1 x2 x3) := by
  unfold execBusMasterEnableWrite
  repeat' (first
    | (with_reducible assumption)
    | (with_reducible apply KeepR.next)
    | (with_reducible apply KeepR.ite <;> with_reducible intro _)
    | (with_reducible apply Keep.ite <;> with_reducible intro _)
    | (with_reducible apply busControl_keep)
    | (with_reducible apply State.send_keep)
    | (with_reducible apply Keep.foldl <;> [intro _ _ _; skip])
    | (with_reducible intro _)
    | (extract_lets)
    | split
    | (with_reducible apply Keep.mk; with_reducible first | apply Kept.of | (apply Kept.send; apply Kept.of)))

theorem linkChange_keep {x0 x1 x2 x3} (h0 : Keep b s0 x0) : Keep b s0 (linkChange x0 x1 x2 x3) := by
  unfold linkChange
  repeat' (first
    | (with_reducible assumption)
    | (with_reducible apply Keep.ite <;> with_reducible intro _)
    | (with_reducible apply setCause_keep)
    | (with_reducible apply State.setReg_keep)
    | (with_reducible intro _)
    | (extract_lets)
    | split)

theorem execPcieLinkChange_keep {x0 x1 x2 x3} (h3 : Keep b s0 x3) : KeepR b s0 (execPcieLinkChange x0 x1 x2 x3) := by
  unfold execPcieLinkChange
  repeat' (first
    | (with_reducible assumption)
    | (with_reducible apply KeepR.next)
    | (with_reducible apply KeepR.ite <;> with_reducible intro _)
    | (with_reducible apply Keep.ite <;> with_reducible intro _)
    | (with_reducible apply linkChange_keep)
    | (with_reducible intro _)
    | split)

theorem poisonedWrite_keep {x0 x1} (h0 : Keep b s0 x0) : Keep b s0 (poisonedWrite x0 x1) := by
  unfold poisonedWrite
  repeat' (first
    | (with_reducible assumption)
    | (with_reducible apply Keep.ite <;> with_reducible intro _)
    | (with_reducible apply recordErr_keep)
    | (with_reducible intro _)
    | (with_reducible apply Keep.mk; with_reducible first | apply Kept.of | (apply Kept.send; apply Kept.of)))

theorem execPoisonedWrite_keep {x0 x1} (h1 : Keep b s0 x1) : KeepR b s0 (execPoisonedWrite x0 x1) := by
  unfold execPoisonedWrite
  repeat' (first
    | (with_reducible assumption)
    | (with_reducible apply KeepR.next)
    | (with_reducible apply KeepR.ite <;> with_reducible intro _)
    | (with_reducible apply Keep.ite <;> with_reducible intro _)
    | (with_reducible apply poisonedWrite_keep)
    | (with_reducible intro _)
    | split)

end Sys2Proof.Machine
end

