-- ==== Sys2Proof/Laws/KeepFabric.lean ====
section
/-!
SUPPORT. Sys2Proof/Laws/KeepFabric.lean: one lemma for each function on states of the scheduler, the fabric, Datum: it keeps what `Keep` says.
-/

-- One theorem after the other: side by side, their proofs would hold threads and memory together.
set_option Elab.async false
set_option linter.unusedTactic false
set_option linter.unreachableTactic false

namespace Sys2Proof.Machine

variable {b : Bool} {s0 : State}

/-! ### Tss -/

theorem State.setQueue_keep {x0 x1 x2} (h0 : Keep b s0 x0) : Keep b s0 (State.setQueue x0 x1 x2) := by
  unfold State.setQueue
  repeat' (first
    | (with_reducible assumption)
    | (with_reducible apply Keep.ite <;> with_reducible intro _)
    | (with_reducible intro _)
    | (with_reducible apply Keep.mk; with_reducible first | apply Kept.of | (apply Kept.send; apply Kept.of)))

theorem State.setCls_keep {x0 x1 x2 x3} (h0 : Keep b s0 x0) : Keep b s0 (State.setCls x0 x1 x2 x3) := by
  unfold State.setCls
  repeat' (first
    | (with_reducible assumption)
    | (with_reducible apply Keep.ite <;> with_reducible intro _)
    | (with_reducible intro _)
    | (with_reducible apply Keep.mk; with_reducible first | apply Kept.of | (apply Kept.send; apply Kept.of)))

theorem State.setPolicer_keep {x0 x1 x2} (h0 : Keep b s0 x0) : Keep b s0 (State.setPolicer x0 x1 x2) := by
  unfold State.setPolicer
  repeat' (first
    | (with_reducible assumption)
    | (with_reducible apply Keep.ite <;> with_reducible intro _)
    | (with_reducible intro _)
    | (with_reducible apply Keep.mk; with_reducible first | apply Kept.of | (apply Kept.send; apply Kept.of)))

theorem State.setGate_keep {x0 x1 x2} (h0 : Keep b s0 x0) : Keep b s0 (State.setGate x0 x1 x2) := by
  unfold State.setGate
  repeat' (first
    | (with_reducible assumption)
    | (with_reducible apply Keep.ite <;> with_reducible intro _)
    | (with_reducible intro _)
    | (with_reducible apply Keep.mk; with_reducible first | apply Kept.of | (apply Kept.send; apply Kept.of)))

theorem tssRefill_keep {x0} (h0 : Keep b s0 x0) : Keep b s0 (tssRefill x0) := by
  unfold tssRefill
  repeat' (first
    | (with_reducible assumption)
    | (with_reducible apply Keep.ite <;> with_reducible intro _)
    | (with_reducible intro _)
    | (with_reducible apply Keep.mk; with_reducible first | apply Kept.of | (apply Kept.send; apply Kept.of)))

theorem execTssRefill_keep {x0} (h0 : Keep b s0 x0) : KeepR b s0 (execTssRefill x0) := by
  unfold execTssRefill
  repeat' (first
    | (with_reducible assumption)
    | (with_reducible apply KeepR.next)
    | (with_reducible apply KeepR.ite <;> with_reducible intro _)
    | (with_reducible apply Keep.ite <;> with_reducible intro _)
    | (with_reducible apply tssRefill_keep)
    | (with_reducible intro _)
    | split)

theorem setRadioShaper_keep {x0 x1 x2 x3} (h0 : Keep b s0 x0) : Keep b s0 (setRadioShaper x0 x1 x2 x3) := by
  unfold setRadioShaper
  repeat' (first
    | (with_reducible assumption)
    | (with_reducible apply Keep.ite <;> with_reducible intro _)
    | (with_reducible intro _)
    | (with_reducible apply Keep.mk; with_reducible first | apply Kept.of | (apply Kept.send; apply Kept.of)))

theorem radioTick_keep {x0 x1} (h0 : Keep b s0 x0) : Keep b s0 (radioTick x0 x1) := by
  unfold radioTick
  repeat' (first
    | (with_reducible assumption)
    | (with_reducible apply Keep.ite <;> with_reducible intro _)
    | (with_reducible apply setRadioShaper_keep)
    | (with_reducible intro _))

theorem execRadioShaperTick_keep {x0} (h0 : Keep b s0 x0) : KeepR b s0 (execRadioShaperTick x0) := by
  unfold execRadioShaperTick
  repeat' (first
    | (with_reducible assumption)
    | (with_reducible apply KeepR.next)
    | (with_reducible apply KeepR.ite <;> with_reducible intro _)
    | (with_reducible apply Keep.ite <;> with_reducible intro _)
    | (with_reducible apply radioTick_keep)
    | (with_reducible apply Keep.foldl <;> [intro _ _ _; skip])
    | (with_reducible intro _)
    | split)

theorem radioCharge_keep {x0 x1 x2 x3} (h0 : Keep b s0 x0) : Keep b s0 (radioCharge x0 x1 x2 x3) := by
  unfold radioCharge
  repeat' (first
    | (with_reducible assumption)
    | (with_reducible apply Keep.ite <;> with_reducible intro _)
    | (with_reducible apply setRadioShaper_keep)
    | (with_reducible intro _)
    | (extract_lets)
    | split
    | (with_reducible apply Keep.mk; with_reducible first | apply Kept.of | (apply Kept.send; apply Kept.of)))

theorem gatesRefresh_keep {x0 x1} (h0 : Keep b s0 x0) : Keep b s0 (gatesRefresh x0 x1) := by
  unfold gatesRefresh
  repeat' (first
    | (with_reducible assumption)
    | (with_reducible apply Keep.ite <;> with_reducible intro _)
    | (with_reducible apply State.setGate_keep)
    | (with_reducible apply State.setFld_keep)
    | (with_reducible intro _)
    | (extract_lets)
    | (with_reducible apply Keep.mk; with_reducible first | apply Kept.of | (apply Kept.send; apply Kept.of)))

theorem execGateEntryAdvance_keep {x0 x1} (h1 : Keep b s0 x1) : KeepR b s0 (execGateEntryAdvance x0 x1) := by
  unfold execGateEntryAdvance
  repeat' (first
    | (with_reducible assumption)
    | (with_reducible apply KeepR.next)
    | (with_reducible apply KeepR.ite <;> with_reducible intro _)
    | (with_reducible apply Keep.ite <;> with_reducible intro _)
    | (with_reducible apply gatesRefresh_keep)
    | (with_reducible intro _)
    | split)

theorem startSwitch_keep {x0 x1} (h0 : Keep b s0 x0) : Keep b s0 (startSwitch x0 x1) := by
  unfold startSwitch
  repeat' (first
    | (with_reducible assumption)
    | (with_reducible apply Keep.ite <;> with_reducible intro _)
    | (with_reducible apply State.setFld_keep)
    | (with_reducible apply setCause_keep)
    | (with_reducible apply State.count_keep)
    | (with_reducible apply State.event_keep)
    | (with_reducible apply State.setGate_keep)
    | (with_reducible intro _)
    | (extract_lets)
    | split
    | (dsimp +zetaDelta only)
    | (with_reducible apply Keep.mk; with_reducible first | apply Kept.of | (apply Kept.send; apply Kept.of)))

theorem writeSwitch_keep {x0 x1} (h0 : Keep b s0 x0) : Keep b s0 (writeSwitch x0 x1) := by
  unfold writeSwitch
  repeat' (first
    | (with_reducible assumption)
    | (with_reducible apply Keep.ite <;> with_reducible intro _)
    | (with_reducible apply startGo_keep)
    | (with_reducible apply startSwitch_keep)
    | (with_reducible intro _)
    | (extract_lets)
    | split)

theorem execGclSwitch_keep {x0 x1 x2} (h2 : Keep b s0 x2) : KeepR b s0 (execGclSwitch x0 x1 x2) := by
  unfold execGclSwitch
  repeat' (first
    | (with_reducible assumption)
    | (with_reducible apply KeepR.next)
    | (with_reducible apply KeepR.ite <;> with_reducible intro _)
    | (with_reducible apply Keep.ite <;> with_reducible intro _)
    | (with_reducible apply gateWrite_keep)
    | (with_reducible apply recordErr_keep)
    | (with_reducible apply writeSwitch_keep)
    | (with_reducible intro _)
    | split)

theorem takeSwitch_keep {x0 x1} (h0 : Keep b s0 x0) : Keep b s0 (takeSwitch x0 x1) := by
  unfold takeSwitch
  repeat' (first
    | (with_reducible assumption)
    | (with_reducible apply Keep.ite <;> with_reducible intro _)
    | (with_reducible apply State.setGate_keep)
    | (with_reducible apply State.setFld_keep)
    | (with_reducible apply setCause_keep)
    | (with_reducible apply State.count_keep)
    | (with_reducible apply State.event_keep)
    | (with_reducible apply gatesRefresh_keep)
    | (with_reducible apply endGo_keep)
    | (with_reducible apply startSwitch_keep)
    | (with_reducible intro _)
    | (extract_lets)
    | split
    | (with_reducible refine Keep.snd ?_ (by with_reducible assumption))
    | (with_reducible refine Keep.trd ?_ (by with_reducible assumption))
    | (dsimp +zetaDelta only)
    | (with_reducible apply Keep.mk; with_reducible first | apply Kept.of | (apply Kept.send; apply Kept.of)))

theorem execGclSwitchInstant_keep {x0 x1} (h1 : Keep b s0 x1) : KeepR b s0 (execGclSwitchInstant x0 x1) := by
  unfold execGclSwitchInstant
  repeat' (first
    | (with_reducible assumption)
    | (with_reducible apply KeepR.next)
    | (with_reducible apply KeepR.ite <;> with_reducible intro _)
    | (with_reducible apply Keep.ite <;> with_reducible intro _)
    | (with_reducible apply takeSwitch_keep)
    | (with_reducible intro _)
    | split
    | (dsimp +zetaDelta only))

theorem gatesAfterStep_keep {x0} (h0 : Keep b s0 x0) : Keep b s0 (gatesAfterStep x0) := by
  unfold gatesAfterStep
  repeat' (first
    | (with_reducible assumption)
    | (with_reducible apply Keep.ite <;> with_reducible intro _)
    | (with_reducible apply takeSwitch_keep)
    | (with_reducible apply gatesRefresh_keep)
    | (with_reducible apply Keep.foldl <;> [intro _ _ _; skip])
    | (with_reducible intro _)
    | split
    | (dsimp +zetaDelta only))

theorem gatesAfterRate_keep {x0 x1 x2} (h0 : Keep b s0 x0) : Keep b s0 (gatesAfterRate x0 x1 x2) := by
  unfold gatesAfterRate
  repeat' (first
    | (with_reducible assumption)
    | (with_reducible apply Keep.ite <;> with_reducible intro _)
    | (with_reducible apply setCause_keep)
    | (with_reducible apply State.setGate_keep)
    | (with_reducible apply gatesRefresh_keep)
    | (with_reducible apply State.event_keep)
    | (with_reducible intro _)
    | (extract_lets)
    | split
    | (dsimp +zetaDelta only)
    | (with_reducible apply Keep.mk; with_reducible first | apply Kept.of | (apply Kept.send; apply Kept.of)))

theorem winData_keep {x0 x1 x2} (h0 : Keep b s0 x0) : Keep b s0 (winData x0 x1 x2) := by
  unfold winData
  repeat' (first
    | (with_reducible assumption)
    | (with_reducible apply Keep.ite <;> with_reducible intro _)
    | (with_reducible apply recordErr_keep)
    | (with_reducible apply State.send_keep)
    | (with_reducible apply State.setGate_keep)
    | (with_reducible apply State.setFld_keep)
    | (with_reducible intro _)
    | (extract_lets)
    | split
    | (dsimp +zetaDelta only)
    | (with_reducible apply Keep.mk; with_reducible first | apply Kept.of | (apply Kept.send; apply Kept.of)))

theorem execGclWinDataAccess_keep {x0 x1 x2} (h2 : Keep b s0 x2) : KeepR b s0 (execGclWinDataAccess x0 x1 x2) := by
  unfold execGclWinDataAccess
  repeat' (first
    | (with_reducible assumption)
    | (with_reducible apply KeepR.next)
    | (with_reducible apply KeepR.ite <;> with_reducible intro _)
    | (with_reducible apply Keep.ite <;> with_reducible intro _)
    | (with_reducible apply gateWrite_keep)
    | (with_reducible apply winData_keep)
    | (with_reducible apply gateRead_keep)
    | (with_reducible intro _)
    | split
    | (dsimp +zetaDelta only))

theorem sampleAll_keep {x0} (h0 : Keep b s0 x0) : Keep b s0 (sampleAll x0) := by
  unfold sampleAll
  repeat' (first
    | (with_reducible assumption)
    | (with_reducible apply Keep.ite <;> with_reducible intro _)
    | (with_reducible apply State.setFld_keep)
    | (with_reducible apply setCause_keep)
    | (with_reducible intro _)
    | (extract_lets)
    | split
    | (with_reducible apply Keep.mk; with_reducible first | apply Kept.of | (apply Kept.send; apply Kept.of)))

theorem execSampleInstant_keep {x0} (h0 : Keep b s0 x0) : KeepR b s0 (execSampleInstant x0) := by
  unfold execSampleInstant
  repeat' (first
    | (with_reducible assumption)
    | (with_reducible apply KeepR.next)
    | (with_reducible apply KeepR.ite <;> with_reducible intro _)
    | (with_reducible apply Keep.ite <;> with_reducible intro _)
    | (with_reducible apply sampleAll_keep)
    | (with_reducible intro _)
    | split
    | (with_reducible apply Keep.mk; with_reducible first | apply Kept.of | (apply Kept.send; apply Kept.of)))

theorem snapStart_keep {x0} (h0 : Keep b s0 x0) : Keep b s0 (snapStart x0) := by
  unfold snapStart
  repeat' (first
    | (with_reducible assumption)
    | (with_reducible apply Keep.ite <;> with_reducible intro _)
    | (with_reducible apply State.setFld_keep)
    | (with_reducible apply startGo_keep)
    | (with_reducible intro _)
    | (extract_lets)
    | split
    | (with_reducible apply Keep.mk; with_reducible first | apply Kept.of | (apply Kept.send; apply Kept.of)))

theorem execStSnap_keep {x0 x1} (h1 : Keep b s0 x1) : KeepR b s0 (execStSnap x0 x1) := by
  unfold execStSnap
  repeat' (first
    | (with_reducible assumption)
    | (with_reducible apply KeepR.next)
    | (with_reducible apply KeepR.ite <;> with_reducible intro _)
    | (with_reducible apply Keep.ite <;> with_reducible intro _)
    | (with_reducible apply gateWrite_keep)
    | (with_reducible apply snapStart_keep)
    | (with_reducible intro _))

theorem snapCopy_keep {x0 x1} (h0 : Keep b s0 x0) : Keep b s0 (snapCopy x0 x1) := by
  unfold snapCopy
  repeat' (first
    | (with_reducible assumption)
    | (with_reducible apply Keep.ite <;> with_reducible intro _)
    | (with_reducible apply State.setReg_keep)
    | (with_reducible apply Keep.foldl <;> [intro _ _ _; skip])
    | (with_reducible intro _)
    | (extract_lets))

theorem execStSnapDone_keep {x0} (h0 : Keep b s0 x0) : KeepR b s0 (execStSnapDone x0) := by
  unfold execStSnapDone
  repeat' (first
    | (with_reducible assumption)
    | (with_reducible apply KeepR.next)
    | (with_reducible apply KeepR.ite <;> with_reducible intro _)
    | (with_reducible apply Keep.ite <;> with_reducible intro _)
    | (with_reducible apply snapCopy_keep)
    | (with_reducible apply endGo_keep)
    | (with_reducible apply State.setFld_keep)
    | (with_reducible intro _)
    | (extract_lets)
    | split
    | (with_reducible refine Keep.snd ?_ (by with_reducible assumption))
    | (with_reducible refine Keep.trd ?_ (by with_reducible assumption))
    | (dsimp +zetaDelta only)
    | (with_reducible apply Keep.mk; with_reducible first | apply Kept.of | (apply Kept.send; apply Kept.of)))

theorem clearStats_keep {x0} (h0 : Keep b s0 x0) : Keep b s0 (clearStats x0) := by
  unfold clearStats
  repeat' (first
    | (with_reducible assumption)
    | (with_reducible apply Keep.ite <;> with_reducible intro _)
    | (with_reducible apply State.setQueue_keep)
    | (with_reducible intro _)
    | (extract_lets)
    | (with_reducible apply Keep.mk; with_reducible first | apply Kept.of | (apply Kept.send; apply Kept.of)))

theorem execStClear_keep {x0 x1} (h1 : Keep b s0 x1) : KeepR b s0 (execStClear x0 x1) := by
  unfold execStClear
  repeat' (first
    | (with_reducible assumption)
    | (with_reducible apply KeepR.next)
    | (with_reducible apply KeepR.ite <;> with_reducible intro _)
    | (with_reducible apply Keep.ite <;> with_reducible intro _)
    | (with_reducible apply gateWrite_keep)
    | (with_reducible apply clearStats_keep)
    | (with_reducible intro _))

/-! ### EthBase -/

theorem State.setPort_keep {x0 x1 x2} (h0 : Keep b s0 x0) : Keep b s0 (State.setPort x0 x1 x2) := by
  unfold State.setPort
  repeat' (first
    | (with_reducible assumption)
    | (with_reducible apply Keep.ite <;> with_reducible intro _)
    | (with_reducible intro _)
    | (with_reducible apply Keep.mk; with_reducible first | apply Kept.of | (apply Kept.send; apply Kept.of)))

theorem leaveLpi_keep {x0 x1} (h0 : Keep b s0 x0) : Keep b s0 (leaveLpi x0 x1) := by
  unfold leaveLpi
  repeat' (first
    | (with_reducible assumption)
    | (with_reducible apply Keep.ite <;> with_reducible intro _)
    | (with_reducible apply State.setPort_keep)
    | (with_reducible apply State.setFld_keep)
    | (with_reducible intro _)
    | split
    | (with_reducible apply Keep.mk; with_reducible first | apply Kept.of | (apply Kept.send; apply Kept.of)))

theorem flushPause_keep {x0 x1} (h0 : Keep b s0 x0) : Keep b s0 (flushPause x0 x1) := by
  unfold flushPause
  repeat' (first
    | (with_reducible assumption)
    | (with_reducible apply Keep.ite <;> with_reducible intro _)
    | (with_reducible apply State.send_keep)
    | (with_reducible apply State.setPort_keep)
    | (with_reducible apply State.count_keep)
    | (with_reducible apply Keep.foldl <;> [intro _ _ _; skip])
    | (with_reducible intro _)
    | split
    | (with_reducible apply Keep.mk; with_reducible first | apply Kept.of | (apply Kept.send; apply Kept.of)))

theorem sendPause_keep {x0 x1 x2} (h0 : Keep b s0 x0) : Keep b s0 (sendPause x0 x1 x2) := by
  unfold sendPause
  repeat' (first
    | (with_reducible assumption)
    | (with_reducible apply Keep.ite <;> with_reducible intro _)
    | (with_reducible apply flushPause_keep)
    | (with_reducible apply leaveLpi_keep)
    | (with_reducible apply State.setPort_keep)
    | (with_reducible intro _)
    | (extract_lets)
    | split
    | (with_reducible apply Keep.mk; with_reducible first | apply Kept.of | (apply Kept.send; apply Kept.of))
    | (dsimp +zetaDelta only))

theorem pauseAll_keep {x0 x1} (h0 : Keep b s0 x0) : Keep b s0 (pauseAll x0 x1) := by
  unfold pauseAll
  repeat' (first
    | (with_reducible assumption)
    | (with_reducible apply Keep.ite <;> with_reducible intro _)
    | (with_reducible apply sendPause_keep)
    | (with_reducible apply Keep.foldl <;> [intro _ _ _; skip])
    | (with_reducible intro _)
    | split)

/-! ### Fab -/

theorem bufLowCheck_keep {x0} (h0 : Keep b s0 x0) : Keep b s0 (bufLowCheck x0) := by
  unfold bufLowCheck
  repeat' (first
    | (with_reducible assumption)
    | (with_reducible apply Keep.ite <;> with_reducible intro _)
    | (with_reducible apply setCause_keep)
    | (with_reducible apply pauseAll_keep)
    | (with_reducible apply State.event_keep)
    | (with_reducible intro _)
    | (extract_lets)
    | split
    | (with_reducible apply Keep.mk; with_reducible first | apply Kept.of | (apply Kept.send; apply Kept.of)))

theorem takeCell_keep {x0 x1 y0 y1} (h0 : Keep b s0 x0) (e : takeCell x0 x1 = some (y0, y1)) : Keep b s0 y1 := by
  unfold takeCell at e
  split at e
  · cases e
    exact bufLowCheck_keep (Keep.mk (Kept.of (drawNat_keep h0)))
  · split at e
    · cases e
      exact Keep.mk (Kept.of (drawNat_keep h0))
    · cases e

theorem takeCells_keep {x0 x1 x2} (h0 : Keep b s0 x0) : Keep b s0 (takeCells x0 x1 x2).2 := by
  induction x2 generalizing x0 with
  | zero => exact h0
  | succ n ih =>
    unfold takeCells
    split
    · exact h0
    · exact ih (takeCell_keep h0 ‹_›)

theorem freeCells_keep {x0 x1} (h0 : Keep b s0 x0) : Keep b s0 (freeCells x0 x1) := by
  unfold freeCells
  repeat' (first
    | (with_reducible assumption)
    | (with_reducible apply Keep.ite <;> with_reducible intro _)
    | (with_reducible apply bufLowCheck_keep)
    | (with_reducible intro _)
    | (with_reducible apply Keep.mk; with_reducible first | apply Kept.of | (apply Kept.send; apply Kept.of)))

theorem takeDesc_keep {x0 y0 y1} (h0 : Keep b s0 x0) (e : takeDesc x0 = some (y0, y1)) : Keep b s0 y1 := by
  unfold takeDesc at e
  split at e
  · cases e; exact Keep.mk (Kept.of h0)
  · split at e
    · cases e; exact Keep.mk (Kept.of h0)
    · cases e

theorem freeDesc_keep {x0 x1} (h0 : Keep b s0 x0) : Keep b s0 (freeDesc x0 x1) := by
  unfold freeDesc
  repeat' (first
    | (with_reducible assumption)
    | (with_reducible apply Keep.ite <;> with_reducible intro _)
    | (with_reducible intro _)
    | split
    | (with_reducible apply Keep.mk; with_reducible first | apply Kept.of | (apply Kept.send; apply Kept.of)))

theorem freeItem_keep {x0 x1} (h0 : Keep b s0 x0) : Keep b s0 (freeItem x0 x1) := by
  unfold freeItem
  repeat' (first
    | (with_reducible assumption)
    | (with_reducible apply Keep.ite <;> with_reducible intro _)
    | (with_reducible apply freeDesc_keep)
    | (with_reducible apply freeCells_keep)
    | (with_reducible intro _))

theorem classSettle_keep {x0 x1 x2} (h0 : Keep b s0 x0) : Keep b s0 (classSettle x0 x1 x2) := by
  unfold classSettle
  repeat' (first
    | (with_reducible assumption)
    | (with_reducible apply Keep.ite <;> with_reducible intro _)
    | (with_reducible apply State.setCls_keep)
    | (with_reducible intro _)
    | split
    | (with_reducible apply Keep.mk; with_reducible first | apply Kept.of | (apply Kept.send; apply Kept.of)))

theorem State.putItems_keep {x0 x1 x2 x3} (h0 : Keep b s0 x0) : Keep b s0 (State.putItems x0 x1 x2 x3) := by
  unfold State.putItems
  repeat' (first
    | (with_reducible assumption)
    | (with_reducible apply Keep.ite <;> with_reducible intro _)
    | (with_reducible apply State.setQueue_keep)
    | (with_reducible apply classSettle_keep)
    | (with_reducible intro _)
    | (extract_lets)
    | split
    | (dsimp +zetaDelta only)
    | (with_reducible apply Keep.mk; with_reducible first | apply Kept.of | (apply Kept.send; apply Kept.of)))

theorem putMarker_keep {x0 x1 x2} (h0 : Keep b s0 x0) : Keep b s0 (putMarker x0 x1 x2) := by
  unfold putMarker
  repeat' (first
    | (with_reducible assumption)
    | (with_reducible apply Keep.ite <;> with_reducible intro _)
    | (with_reducible apply State.putItems_keep)
    | (with_reducible apply setCause_keep)
    | (with_reducible apply State.count_keep)
    | (with_reducible apply State.event_keep)
    | (with_reducible intro _)
    | (extract_lets)
    | split
    | (with_reducible apply Keep.mk; with_reducible first | apply Kept.of | (apply Kept.send; apply Kept.of))
    | (dsimp +zetaDelta only))

theorem dropHead_keep {x0 x1} (h0 : Keep b s0 x0) : Keep b s0 (dropHead x0 x1) := by
  unfold dropHead
  repeat' (first
    | (with_reducible assumption)
    | (with_reducible apply Keep.ite <;> with_reducible intro _)
    | (with_reducible apply State.putItems_keep)
    | (with_reducible apply freeItem_keep)
    | (with_reducible intro _)
    | (extract_lets)
    | split
    | (dsimp +zetaDelta only)
    | (with_reducible apply Keep.mk; with_reducible first | apply Kept.of | (apply Kept.send; apply Kept.of)))

theorem closeIfEmpty_keep {x0 x1} (h0 : Keep b s0 x0) : Keep b s0 (closeIfEmpty x0 x1) := by
  unfold closeIfEmpty
  repeat' (first
    | (with_reducible assumption)
    | (with_reducible apply Keep.ite <;> with_reducible intro _)
    | (with_reducible apply State.setQueue_keep)
    | (with_reducible intro _)
    | (extract_lets)
    | split
    | (with_reducible apply Keep.mk; with_reducible first | apply Kept.of | (apply Kept.send; apply Kept.of)))

theorem placeWaiting_keep {x0 x1} (h0 : Keep b s0 x0) : Keep b s0 (placeWaiting x0 x1) := by
  unfold placeWaiting
  repeat' (first
    | (with_reducible assumption)
    | (with_reducible apply Keep.ite <;> with_reducible intro _)
    | (with_reducible apply putMarker_keep)
    | (with_reducible apply State.setQueue_keep)
    | (with_reducible intro _)
    | split
    | (dsimp +zetaDelta only)
    | (with_reducible apply Keep.mk; with_reducible first | apply Kept.of | (apply Kept.send; apply Kept.of)))

theorem deliverMarker_keep {x0 x1} (h0 : Keep b s0 x0) : Keep b s0 (deliverMarker x0 x1) := by
  unfold deliverMarker
  repeat' (first
    | (with_reducible assumption)
    | (with_reducible apply Keep.ite <;> with_reducible intro _)
    | (with_reducible apply State.count_keep)
    | (with_reducible apply placeWaiting_keep)
    | (with_reducible apply closeIfEmpty_keep)
    | (with_reducible apply dropHead_keep)
    | (with_reducible apply State.setQueue_keep)
    | (with_reducible intro _)
    | (extract_lets)
    | split
    | (dsimp +zetaDelta only)
    | (with_reducible apply Keep.mk; with_reducible first | apply Kept.of | (apply Kept.send; apply Kept.of)))

theorem settleHead_keep {x0 x1} (h0 : Keep b s0 x0) : Keep b s0 (settleHead x0 x1) := by
  unfold settleHead
  repeat' (first
    | (with_reducible assumption)
    | (with_reducible apply Keep.ite <;> with_reducible intro _)
    | (with_reducible apply deliverMarker_keep)
    | (with_reducible intro _)
    | (extract_lets)
    | split
    | (dsimp +zetaDelta only))

theorem markLoss_keep {x0 x1 x2} (h0 : Keep b s0 x0) : Keep b s0 (markLoss x0 x1 x2) := by
  unfold markLoss
  repeat' (first
    | (with_reducible assumption)
    | (with_reducible apply Keep.ite <;> with_reducible intro _)
    | (with_reducible apply State.setQueue_keep)
    | (with_reducible apply settleHead_keep)
    | (with_reducible apply putMarker_keep)
    | (with_reducible intro _)
    | (extract_lets)
    | split
    | (dsimp +zetaDelta only)
    | (with_reducible apply Keep.mk; with_reducible first | apply Kept.of | (apply Kept.send; apply Kept.of)))

theorem placeMarker_keep {x0 x1 x2 x3 x4} (h0 : Keep b s0 x0) : Keep b s0 (placeMarker x0 x1 x2 x3 x4) := by
  unfold placeMarker
  repeat' (first
    | (with_reducible assumption)
    | (with_reducible apply Keep.ite <;> with_reducible intro _)
    | (with_reducible apply markLoss_keep)
    | (with_reducible intro _)
    | (extract_lets)
    | split
    | (dsimp +zetaDelta only)
    | (with_reducible apply Keep.mk; with_reducible first | apply Kept.of | (apply Kept.send; apply Kept.of)))

theorem refuse_keep {x0 x1 x2} (h0 : Keep b s0 x0) : Keep b s0 (refuse x0 x1 x2) := by
  unfold refuse
  repeat' (first
    | (with_reducible assumption)
    | (with_reducible apply Keep.ite <;> with_reducible intro _)
    | (with_reducible apply setCause_keep)
    | (with_reducible apply State.count_keep)
    | (with_reducible apply State.setQueue_keep)
    | (with_reducible intro _)
    | (extract_lets)
    | split
    | (with_reducible apply Keep.mk; with_reducible first | apply Kept.of | (apply Kept.send; apply Kept.of)))

theorem refuseRest_keep {x0 x1} (h0 : Keep b s0 x0) : Keep b s0 (refuseRest x0 x1) := by
  unfold refuseRest
  repeat' (first
    | (with_reducible assumption)
    | (with_reducible apply Keep.ite <;> with_reducible intro _)
    | (with_reducible apply refuse_keep)
    | (with_reducible apply State.setQueue_keep)
    | (with_reducible intro _)
    | (extract_lets)
    | (dsimp +zetaDelta only)
    | (with_reducible apply Keep.mk; with_reducible first | apply Kept.of | (apply Kept.send; apply Kept.of)))

theorem closePending_keep {x0 x1} (h0 : Keep b s0 x0) : Keep b s0 (closePending x0 x1) := by
  unfold closePending
  repeat' (first
    | (with_reducible assumption)
    | (with_reducible apply Keep.ite <;> with_reducible intro _)
    | (with_reducible apply markLoss_keep)
    | (with_reducible apply State.setQueue_keep)
    | (with_reducible intro _)
    | split
    | (dsimp +zetaDelta only)
    | (with_reducible apply Keep.mk; with_reducible first | apply Kept.of | (apply Kept.send; apply Kept.of)))

theorem wakePort_keep {x0 x1} (h0 : Keep b s0 x0) : Keep b s0 (wakePort x0 x1) := by
  unfold wakePort
  repeat' (first
    | (with_reducible assumption)
    | (with_reducible apply Keep.ite <;> with_reducible intro _)
    | (with_reducible apply leaveLpi_keep)
    | (with_reducible intro _)
    | split
    | (with_reducible apply Keep.mk; with_reducible first | apply Kept.of | (apply Kept.send; apply Kept.of)))

theorem discardItem_keep {x0 x1 x2} (h0 : Keep b s0 x0) : Keep b s0 (discardItem x0 x1 x2) := by
  unfold discardItem
  repeat' (first
    | (with_reducible assumption)
    | (with_reducible apply Keep.ite <;> with_reducible intro _)
    | (with_reducible apply freeItem_keep)
    | (with_reducible apply State.putItems_keep)
    | (with_reducible intro _))

theorem commitItem_keep {x0 x1 x2} (h0 : Keep b s0 x0) : Keep b s0 (commitItem x0 x1 x2) := by
  unfold commitItem
  repeat' (first
    | (with_reducible assumption)
    | (with_reducible apply Keep.ite <;> with_reducible intro _)
    | (with_reducible apply State.putItems_keep)
    | (with_reducible apply wakePort_keep)
    | (with_reducible apply State.setQueue_keep)
    | (with_reducible apply State.count_keep)
    | (with_reducible intro _)
    | (extract_lets)
    | split
    | (dsimp +zetaDelta only)
    | (with_reducible apply Keep.mk; with_reducible first | apply Kept.of | (apply Kept.send; apply Kept.of)))

theorem policeCommit_keep {x0 x1 x2} (h0 : Keep b s0 x0) : Keep b s0 (policeCommit x0 x1 x2).2 := by
  unfold policeCommit
  repeat' (first
    | (with_reducible assumption)
    | (with_reducible apply Keep.ite <;> with_reducible intro _)
    | (with_reducible apply closePending_keep)
    | (with_reducible apply discardItem_keep)
    | (with_reducible apply State.setPolicer_keep)
    | (with_reducible apply commitItem_keep)
    | (with_reducible apply refuse_keep)
    | (with_reducible apply State.count_keep)
    | (with_reducible intro _)
    | (extract_lets)
    | split
    | (with_reducible refine Keep.snd ?_ (by with_reducible assumption))
    | (with_reducible refine Keep.trd ?_ (by with_reducible assumption))
    | (with_reducible apply Keep.ite_fst <;> with_reducible intro _)
    | (with_reducible apply Keep.ite_snd <;> with_reducible intro _)
    | (with_reducible apply Keep.foldl_snd <;> [intro _ _ _; skip])
    | (with_reducible apply Keep.foldl_fst <;> [intro _ _ _; skip])
    | (dsimp +zetaDelta only)
    | (with_reducible apply Keep.mk; with_reducible first | apply Kept.of | (apply Kept.send; apply Kept.of)))

theorem admitMark_keep {x0 x1 x2} (h0 : Keep b s0 x0) : Keep b s0 (admitMark x0 x1 x2) := by
  unfold admitMark
  repeat' (first
    | (with_reducible assumption)
    | (with_reducible apply Keep.ite <;> with_reducible intro _)
    | (with_reducible apply closePending_keep)
    | (with_reducible intro _)
    | split)

theorem enqueue_keep {x0 x1 x2 x3} (h0 : Keep b s0 x0) : Keep b s0 (enqueue x0 x1 x2 x3).2 := by
  unfold enqueue
  refine Keep.ite_snd (fun _ => refuse_keep h0) (fun _ => ?_)
  split
  · exact refuse_keep h0
  · have h := takeCells_keep (x1 := x3) (x2 := ceilDiv x2.bytes.length 256) (takeDesc_keep h0 ‹_›)
    exact Keep.ite_snd (fun _ => refuse_keep (freeItem_keep h)) (fun _ => policeCommit_keep (admitMark_keep h))

theorem itemAdmit_keep {x0 x1 x2} (h0 : Keep b s0 x0) : Keep b s0 (itemAdmit x0 x1 x2) := by
  unfold itemAdmit
  refine Keep.ite (fun _ => refuseRest_keep h0) (fun _ => ?_)
  split
  · exact refuseRest_keep h0
  · have h := takeCells_keep (x1 := x2.ofEngine) (x2 := max 1 (ceilDiv x2.bytes.length 256)) (takeDesc_keep h0 ‹_›)
    exact Keep.ite (fun _ => refuseRest_keep (freeItem_keep h))
      (fun _ => wakePort_keep (State.setQueue_keep (State.putItems_keep (admitMark_keep h))))

theorem execItemAdmit_keep {x0 x1 x2 x3 x4 x5 x6 x7} (h7 : Keep b s0 x7) : KeepR b s0 (execItemAdmit x0 x1 x2 x3 x4 x5 x6 x7) := by
  unfold execItemAdmit
  exact KeepR.next (Keep.ite (fun _ => itemAdmit_keep h7) (fun _ => h7))

theorem countRx_keep {x0 x1 x2} (h0 : Keep b s0 x0) : Keep b s0 (countRx x0 x1 x2) := by
  unfold countRx
  repeat' (first
    | (with_reducible assumption)
    | (with_reducible apply Keep.ite <;> with_reducible intro _)
    | (with_reducible apply State.count_keep)
    | (with_reducible intro _)
    | (extract_lets)
    | split
    | (dsimp +zetaDelta only))

theorem chargeItem_keep {x0 x1 x2 x3} (h0 : Keep b s0 x0) : Keep b s0 (chargeItem x0 x1 x2 x3) := by
  unfold chargeItem
  repeat' (first
    | (with_reducible assumption)
    | (with_reducible apply Keep.ite <;> with_reducible intro _)
    | (with_reducible apply State.setQueue_keep)
    | (with_reducible apply State.setCls_keep)
    | (with_reducible intro _)
    | (extract_lets)
    | (with_reducible apply Keep.mk; with_reducible first | apply Kept.of | (apply Kept.send; apply Kept.of)))

theorem endBegun_keep {x0 x1 x2} (h0 : Keep b s0 x0) : Keep b s0 (endBegun x0 x1 x2) := by
  unfold endBegun
  repeat' (first
    | (with_reducible assumption)
    | (with_reducible apply Keep.ite <;> with_reducible intro _)
    | (with_reducible apply State.setQueue_keep)
    | (with_reducible apply chargeItem_keep)
    | (with_reducible apply State.count_keep)
    | (with_reducible intro _)
    | (extract_lets)
    | split
    | (dsimp +zetaDelta only)
    | (with_reducible apply Keep.mk; with_reducible first | apply Kept.of | (apply Kept.send; apply Kept.of)))

theorem commitBegun_keep {x0 x1 x2 x3 x4} (h0 : Keep b s0 x0) : Keep b s0 (commitBegun x0 x1 x2 x3 x4) :=
  endBegun_keep (countRx_keep (takeCells_keep h0))

theorem commitWritten_keep {x0 x1 x2 x3 x4} (h0 : Keep b s0 x0) : Keep b s0 (commitWritten x0 x1 x2 x3 x4) := by
  unfold commitWritten
  have h := fun i => countRx_keep (x1 := i) (x2 := x4) h0
  exact Keep.ite (fun _ => closeIfEmpty_keep (discardItem_keep (h _)))
    (fun _ => Keep.ite (fun _ => closeIfEmpty_keep (refuse_keep (discardItem_keep (takeCells_keep (h _)))))
      (fun _ => closeIfEmpty_keep (settleHead_keep (policeCommit_keep (takeCells_keep (h _))))))

theorem faultKept_keep {x0 x1 x2} (h0 : Keep b s0 x0) : Keep b s0 (faultKept x0 x1 x2) := by
  unfold faultKept
  split
  · exact Keep.ite (fun _ => State.setQueue_keep h0) (fun _ => endBegun_keep h0)
  · exact h0

theorem faultMark_keep {x0 x1 x2 x3 x4} (h0 : Keep b s0 x0) : Keep b s0 (faultMark x0 x1 x2 x3 x4) := by
  unfold faultMark
  split
  · exact h0
  · exact putMarker_keep (State.setQueue_keep h0)

theorem queueFaultBy_keep {x0 x1 x2} (h0 : Keep b s0 x0) : Keep b s0 (queueFaultBy x0 x1 x2) := by
  unfold queueFaultBy
  refine Keep.ite (fun _ => h0) (fun _ => State.event_keep (faultMark_keep (faultKept_keep (State.setQueue_keep (State.putItems_keep ?_)))))
  exact Keep.mk (Kept.of (Keep.foldl (fun _ _ h => freeDesc_keep h) (setCause_keep (State.count_keep (recordErr_keep h0)))))

theorem comparePtrs_keep {x0 x1} (h0 : Keep b s0 x0) : Keep b s0 (comparePtrs x0 x1) := by
  unfold comparePtrs
  repeat' (first
    | (with_reducible assumption)
    | (with_reducible apply Keep.ite <;> with_reducible intro _)
    | (with_reducible apply queueFaultBy_keep)
    | (with_reducible intro _)
    | split)

theorem queueFault_keep {x0 x1} (h0 : Keep b s0 x0) : Keep b s0 (queueFault x0 x1) := by
  unfold queueFault
  repeat' (first
    | (with_reducible assumption)
    | (with_reducible apply Keep.ite <;> with_reducible intro _)
    | (with_reducible apply comparePtrs_keep)
    | (with_reducible apply State.setQueue_keep)
    | (with_reducible intro _)
    | split
    | (dsimp +zetaDelta only)
    | (extract_lets)
    | (with_reducible refine Keep.snd ?_ (by with_reducible assumption))
    | (with_reducible refine Keep.trd ?_ (by with_reducible assumption))
    | (with_reducible apply Keep.mk; with_reducible first | apply Kept.of | (apply Kept.send; apply Kept.of)))

theorem delivered_keep {x0 x1} (h0 : Keep b s0 x0) : Keep b s0 (delivered x0 x1) := by
  unfold delivered
  repeat' (first
    | (with_reducible assumption)
    | (with_reducible apply Keep.ite <;> with_reducible intro _)
    | (with_reducible apply comparePtrs_keep)
    | (with_reducible apply settleHead_keep)
    | (with_reducible apply closeIfEmpty_keep)
    | (with_reducible apply dropHead_keep)
    | (with_reducible apply State.count_keep)
    | (with_reducible intro _))

theorem faultResetEnd_keep {x0 x1} (h0 : Keep b s0 x0) : Keep b s0 (faultResetEnd x0 x1) := by
  unfold faultResetEnd
  repeat' (first
    | (with_reducible assumption)
    | (with_reducible apply Keep.ite <;> with_reducible intro _)
    | (with_reducible apply settleHead_keep)
    | (with_reducible apply State.setQueue_keep)
    | (with_reducible apply closeIfEmpty_keep)
    | (with_reducible intro _)
    | (extract_lets)
    | split
    | (dsimp +zetaDelta only)
    | (with_reducible apply Keep.mk; with_reducible first | apply Kept.of | (apply Kept.send; apply Kept.of)))

theorem execQueueFaultResetEnd_keep {x0 x1} (h1 : Keep b s0 x1) : KeepR b s0 (execQueueFaultResetEnd x0 x1) := by
  unfold execQueueFaultResetEnd
  repeat' (first
    | (with_reducible assumption)
    | (with_reducible apply KeepR.next)
    | (with_reducible apply KeepR.ite <;> with_reducible intro _)
    | (with_reducible apply Keep.ite <;> with_reducible intro _)
    | (with_reducible apply faultResetEnd_keep)
    | (with_reducible intro _)
    | split)

theorem execCellSweepDone_keep {x0} (h0 : Keep b s0 x0) : KeepR b s0 (execCellSweepDone x0) := by
  unfold execCellSweepDone
  repeat' (first
    | (with_reducible assumption)
    | (with_reducible apply KeepR.next)
    | (with_reducible apply KeepR.ite <;> with_reducible intro _)
    | (with_reducible apply Keep.ite <;> with_reducible intro _)
    | (with_reducible apply freeCells_keep)
    | (with_reducible intro _)
    | (extract_lets)
    | split
    | (with_reducible apply Keep.mk; with_reducible first | apply Kept.of | (apply Kept.send; apply Kept.of)))

theorem State.setEgress_keep {x0 x1 x2} (h0 : Keep b s0 x0) : Keep b s0 (State.setEgress x0 x1 x2) := by
  unfold State.setEgress
  repeat' (first
    | (with_reducible assumption)
    | (with_reducible apply Keep.ite <;> with_reducible intro _)
    | (with_reducible intro _)
    | (with_reducible apply Keep.mk; with_reducible first | apply Kept.of | (apply Kept.send; apply Kept.of)))

theorem commitEnds_keep {x0 x1 x2 x3} (h0 : Keep b s0 x0) : Keep b s0 (commitEnds x0 x1 x2 x3) := by
  unfold commitEnds
  dsimp only
  split
  · exact commitBegun_keep h0
  · exact commitWritten_keep h0
  · exact State.setQueue_keep h0

theorem itemCommit_keep {x0 x1 x2 x3 x4} (h0 : Keep b s0 x0) : Keep b s0 (itemCommit x0 x1 x2 x3 x4) := by
  unfold itemCommit
  exact Keep.ite (fun _ => queueFault_keep (commitEnds_keep h0)) (fun _ => comparePtrs_keep (commitEnds_keep h0))

theorem execItemCommit_keep {x0 x1 x2 x3 x4} (h4 : Keep b s0 x4) : KeepR b s0 (execItemCommit x0 x1 x2 x3 x4) := by
  unfold execItemCommit
  exact KeepR.next (Keep.ite (fun _ => itemCommit_keep h4) (fun _ => h4))

theorem gcmHeld_keep {x0} (h0 : Keep b s0 x0) : Keep b s0 (gcmHeld x0) := by
  unfold gcmHeld
  repeat' (first
    | (with_reducible assumption)
    | (with_reducible apply Keep.ite <;> with_reducible intro _)
    | (with_reducible apply State.setFld_keep)
    | (with_reducible intro _)
    | split)

theorem dwrrQueue_keep {x0 x1 x2 x3 x4 y0 y1} (h0 : Keep b s0 x0) (e : dwrrQueue x0 x1 x2 x3 x4 = some (y0, y1)) : Keep b s0 y0 := by
  induction x4 generalizing x0 with
  | zero => cases e
  | succ n ih =>
    unfold dwrrQueue at e
    extract_lets at e
    split at e
    · split at e
      · cases e; exact h0
      · exact ih (State.setQueue_keep (State.setCls_keep h0)) e
    · exact ih (State.setQueue_keep (State.setCls_keep h0)) e

theorem dwrrClass_keep {x0 x1 x2 x3 y0 y1} (h0 : Keep b s0 x0) (e : dwrrClass x0 x1 x2 x3 = some (y0, y1)) : Keep b s0 y0 := by
  induction x3 generalizing x0 with
  | zero => cases e
  | succ n ih =>
    unfold dwrrClass at e
    extract_lets at e
    split at e
    · exact ih (State.setCls_keep (State.setEgress_keep h0)) e
    · split at e
      · exact ih (State.setCls_keep (State.setEgress_keep h0)) e
      · split at e
        · cases e
        · rename_i hq
          split at e
          · cases e
          · split at e
            · cases e; exact dwrrQueue_keep h0 hq
            · exact ih (State.setCls_keep (State.setEgress_keep h0)) e

theorem queuePick_keep {x0 x1 y0 y1} (h0 : Keep b s0 x0) (e : queuePick x0 x1 = some (y0, y1)) : Keep b s0 y0 := by
  unfold queuePick at e
  extract_lets at e
  split at e
  · exact dwrrQueue_keep h0 e
  · split at e
    · cases e
    · exact dwrrClass_keep h0 e

theorem countGuard_keep {x0 x1} (h0 : Keep b s0 x0) : Keep b s0 (countGuard x0 x1) := by
  unfold countGuard
  repeat' (first
    | (with_reducible assumption)
    | (with_reducible apply Keep.ite <;> with_reducible intro _)
    | (with_reducible apply State.count_keep)
    | (with_reducible apply State.setGate_keep)
    | (with_reducible apply Keep.foldl <;> [intro _ _ _; skip])
    | (with_reducible intro _)
    | (extract_lets)
    | split
    | (with_reducible apply Keep.mk; with_reducible first | apply Kept.of | (apply Kept.send; apply Kept.of)))

theorem beginItem_keep {x0 x1 x2} (h0 : Keep b s0 x0) : Keep b s0 (beginItem x0 x1 x2) := by
  unfold beginItem
  repeat' (first
    | (with_reducible assumption)
    | (with_reducible apply Keep.ite <;> with_reducible intro _)
    | (with_reducible apply State.putItems_keep)
    | (with_reducible apply State.setEgress_keep)
    | (with_reducible apply chargeItem_keep)
    | (with_reducible apply State.setQueue_keep)
    | (with_reducible intro _)
    | (extract_lets)
    | split
    | (dsimp +zetaDelta only)
    | (with_reducible apply Keep.mk; with_reducible first | apply Kept.of | (apply Kept.send; apply Kept.of)))

theorem egressPrep_keep {x0 x1} (h0 : Keep b s0 x0) : Keep b s0 (egressPrep x0 x1) := by
  unfold egressPrep
  repeat' (first
    | (with_reducible assumption)
    | (with_reducible apply Keep.ite <;> with_reducible intro _)
    | (with_reducible apply countGuard_keep)
    | (with_reducible apply gcmHeld_keep)
    | (with_reducible intro _)
    | (extract_lets)
    | split
    | (dsimp +zetaDelta only))

theorem egressSelect_keep {x0 x1} (h0 : Keep b s0 x0) : Keep b s0 (egressSelect x0 x1) := by
  unfold egressSelect
  repeat' (first
    | (with_reducible assumption)
    | (with_reducible apply Keep.ite <;> with_reducible intro _)
    | (with_reducible apply egressPrep_keep)
    | (with_reducible refine queuePick_keep ?_ (by with_reducible assumption))
    | (with_reducible apply beginItem_keep)
    | (with_reducible apply State.setEgress_keep)
    | (with_reducible intro _)
    | (extract_lets)
    | split
    | (dsimp +zetaDelta only)
    | (with_reducible apply Keep.mk; with_reducible first | apply Kept.of | (apply Kept.send; apply Kept.of)))

theorem execEgressSelect_keep {x0 x1} (h1 : Keep b s0 x1) : KeepR b s0 (execEgressSelect x0 x1) := by
  unfold execEgressSelect
  repeat' (first
    | (with_reducible assumption)
    | (with_reducible apply KeepR.next)
    | (with_reducible apply KeepR.ite <;> with_reducible intro _)
    | (with_reducible apply Keep.ite <;> with_reducible intro _)
    | (with_reducible apply egressSelect_keep)
    | (with_reducible intro _))

theorem setHrxCount_keep {x0 x1 x2} (h0 : Keep b s0 x0) : Keep b s0 (setHrxCount x0 x1 x2) := by
  unfold setHrxCount
  repeat' (first
    | (with_reducible assumption)
    | (with_reducible apply Keep.ite <;> with_reducible intro _)
    | (with_reducible intro _)
    | (with_reducible apply Keep.mk; with_reducible first | apply Kept.of | (apply Kept.send; apply Kept.of)))

theorem hrxEntries_keep {x0 x1 x2 x3 x4} (h0 : Keep b s0 x0) : Keep b s0 (hrxEntries x0 x1 x2 x3 x4) := by
  induction x3 generalizing x0 x4 with
  | zero => exact h0
  | succ n ih =>
    unfold hrxEntries
    extract_lets
    apply ih
    repeat' (first
      | (with_reducible assumption)
      | (with_reducible apply Keep.ite <;> with_reducible intro _)
      | (with_reducible apply State.send_keep)
      | (with_reducible apply State.setFld_keep)
      | (with_reducible apply Keep.mk; with_reducible apply Kept.of))

theorem hrxCountItem_keep {x0 x1} (h0 : Keep b s0 x0) : Keep b s0 (hrxCountItem x0 x1) := by
  unfold hrxCountItem
  repeat' (first
    | (with_reducible assumption)
    | (with_reducible apply Keep.ite <;> with_reducible intro _)
    | (with_reducible apply setCause_keep)
    | (with_reducible apply setHrxCount_keep)
    | (with_reducible intro _)
    | split)

theorem hrxFault_keep {x0 x1} (h0 : Keep b s0 x0) : Keep b s0 (hrxFault x0 x1) := by
  unfold hrxFault
  repeat' (first
    | (with_reducible assumption)
    | (with_reducible apply Keep.ite <;> with_reducible intro _)
    | (with_reducible apply recordErr_keep)
    | (with_reducible apply State.setFld_keep)
    | (with_reducible intro _))

theorem hrxItemWrite_keep {x0 x1 x2} (h0 : Keep b s0 x0) : Keep b s0 (hrxItemWrite x0 x1 x2) := by
  unfold hrxItemWrite
  repeat' (first
    | (with_reducible assumption)
    | (with_reducible apply Keep.ite <;> with_reducible intro _)
    | (with_reducible apply delivered_keep)
    | (with_reducible apply State.setEgress_keep)
    | (with_reducible apply hrxFault_keep)
    | (with_reducible apply hrxEntries_keep)
    | (with_reducible apply deliverMarker_keep)
    | (with_reducible apply hrxCountItem_keep)
    | (with_reducible apply State.setFld_keep)
    | (with_reducible intro _)
    | (extract_lets)
    | split
    | (dsimp +zetaDelta only)
    | (with_reducible apply Keep.mk; with_reducible first | apply Kept.of | (apply Kept.send; apply Kept.of)))

theorem execHrxItemWrite_keep {x0 x1 x2} (h2 : Keep b s0 x2) : KeepR b s0 (execHrxItemWrite x0 x1 x2) := by
  unfold execHrxItemWrite
  repeat' (first
    | (with_reducible assumption)
    | (with_reducible apply KeepR.next)
    | (with_reducible apply KeepR.ite <;> with_reducible intro _)
    | (with_reducible apply Keep.ite <;> with_reducible intro _)
    | (with_reducible apply hrxItemWrite_keep)
    | (with_reducible intro _))

theorem hrxConfigErr_keep {x0 x1 x2} (h0 : Keep b s0 x0) : Keep b s0 (hrxConfigErr x0 x1 x2) := by
  unfold hrxConfigErr
  repeat' (first
    | (with_reducible assumption)
    | (with_reducible apply Keep.ite <;> with_reducible intro _)
    | (with_reducible apply recordErr_keep)
    | (with_reducible intro _))

theorem hrxReset_keep {x0 x1} (h0 : Keep b s0 x0) : Keep b s0 (hrxReset x0 x1) := by
  unfold hrxReset
  repeat' (first
    | (with_reducible assumption)
    | (with_reducible apply Keep.ite <;> with_reducible intro _)
    | (with_reducible apply State.setReg_keep)
    | (with_reducible apply State.setFld_keep)
    | (with_reducible intro _)
    | (extract_lets)
    | split
    | (with_reducible apply Keep.mk; with_reducible first | apply Kept.of | (apply Kept.send; apply Kept.of)))

theorem hrxEnable_keep {x0 x1 x2 x3} (h0 : Keep b s0 x0) : Keep b s0 (hrxEnable x0 x1 x2 x3) := by
  unfold hrxEnable
  repeat' (first
    | (with_reducible assumption)
    | (with_reducible apply Keep.ite <;> with_reducible intro _)
    | (with_reducible apply State.setFld_keep)
    | (with_reducible apply hrxConfigErr_keep)
    | (with_reducible intro _)
    | split
    | (dsimp +zetaDelta only))

theorem hrxCtrlWrite_keep {x0 x1 x2 x3 x4} (h0 : Keep b s0 x0) : Keep b s0 (hrxCtrlWrite x0 x1 x2 x3 x4) := by
  unfold hrxCtrlWrite
  repeat' (first
    | (with_reducible assumption)
    | (with_reducible apply Keep.ite <;> with_reducible intro _)
    | (with_reducible apply writeFields_keep)
    | (with_reducible apply hrxConfigErr_keep)
    | (with_reducible apply hrxReset_keep)
    | (with_reducible apply hrxEnable_keep)
    | (with_reducible intro _)
    | (extract_lets)
    | split)

theorem execHrxEnableWrite_keep {x0 x1 x2 x3} (h3 : Keep b s0 x3) : KeepR b s0 (execHrxEnableWrite x0 x1 x2 x3) := by
  unfold execHrxEnableWrite
  repeat' (first
    | (with_reducible assumption)
    | (with_reducible apply KeepR.next)
    | (with_reducible apply KeepR.ite <;> with_reducible intro _)
    | (with_reducible apply Keep.ite <;> with_reducible intro _)
    | (with_reducible apply gateWrite_keep)
    | (with_reducible apply hrxCtrlWrite_keep)
    | (with_reducible intro _))

theorem execHrxReset_keep {x0 x1 x2} (h2 : Keep b s0 x2) : KeepR b s0 (execHrxReset x0 x1 x2) := by
  unfold execHrxReset
  repeat' (first
    | (with_reducible assumption)
    | (with_reducible apply KeepR.next)
    | (with_reducible apply KeepR.ite <;> with_reducible intro _)
    | (with_reducible apply Keep.ite <;> with_reducible intro _)
    | (with_reducible apply gateWrite_keep)
    | (with_reducible apply hrxReset_keep)
    | (with_reducible intro _))

theorem execHrxHeadWrite_keep {x0 x1 x2 x3} (h3 : Keep b s0 x3) : KeepR b s0 (execHrxHeadWrite x0 x1 x2 x3) := by
  unfold execHrxHeadWrite
  repeat' (first
    | (with_reducible assumption)
    | (with_reducible apply KeepR.next)
    | (with_reducible apply KeepR.ite <;> with_reducible intro _)
    | (with_reducible apply Keep.ite <;> with_reducible intro _)
    | (with_reducible apply gateWrite_keep)
    | (with_reducible apply writeFields_keep)
    | (with_reducible intro _))

theorem hrxConfigWrite_keep {x0 x1 x2 x3 x4 x5} (h0 : Keep b s0 x0) : Keep b s0 (hrxConfigWrite x0 x1 x2 x3 x4 x5) := by
  unfold hrxConfigWrite
  repeat' (first
    | (with_reducible assumption)
    | (with_reducible apply Keep.ite <;> with_reducible intro _)
    | (with_reducible apply hrxConfigErr_keep)
    | (with_reducible apply writeFields_keep)
    | (with_reducible apply wideWrite_keep)
    | (with_reducible intro _)
    | split)

theorem hrxHostReset_keep {x0 x1} (h0 : Keep b s0 x0) : Keep b s0 (hrxHostReset x0 x1) := by
  unfold hrxHostReset
  repeat' (first
    | (with_reducible assumption)
    | (with_reducible apply Keep.ite <;> with_reducible intro _)
    | (with_reducible apply State.setFld_keep)
    | (with_reducible apply State.setReg_keep)
    | (with_reducible intro _)
    | (extract_lets)
    | (with_reducible apply Keep.mk; with_reducible first | apply Kept.of | (apply Kept.send; apply Kept.of)))

theorem coalExpiry_keep {x0 x1} (h0 : Keep b s0 x0) : Keep b s0 (coalExpiry x0 x1) := by
  unfold coalExpiry
  repeat' (first
    | (with_reducible assumption)
    | (with_reducible apply Keep.ite <;> with_reducible intro _)
    | (with_reducible apply setCause_keep)
    | (with_reducible apply State.setRing_keep)
    | (with_reducible apply setHrxCount_keep)
    | (with_reducible intro _)
    | split
    | (with_reducible apply Keep.mk; with_reducible first | apply Kept.of | (apply Kept.send; apply Kept.of)))

theorem execCoalTimerExpiry_keep {x0 x1} (h1 : Keep b s0 x1) : KeepR b s0 (execCoalTimerExpiry x0 x1) := by
  unfold execCoalTimerExpiry
  repeat' (first
    | (with_reducible assumption)
    | (with_reducible apply KeepR.next)
    | (with_reducible apply KeepR.ite <;> with_reducible intro _)
    | (with_reducible apply Keep.ite <;> with_reducible intro _)
    | (with_reducible apply coalExpiry_keep)
    | (with_reducible intro _)
    | split)

theorem markFlushed_keep {x0 x1} (h0 : Keep b s0 x0) : Keep b s0 (markFlushed x0 x1) := by
  unfold markFlushed
  repeat' (first
    | (with_reducible assumption)
    | (with_reducible apply Keep.ite <;> with_reducible intro _)
    | (with_reducible apply putCmd_keep)
    | (with_reducible intro _)
    | split
    | (dsimp +zetaDelta only)
    | (with_reducible apply Keep.mk; with_reducible first | apply Kept.of | (apply Kept.send; apply Kept.of)))

theorem flushQueue_keep {x0 x1} (h0 : Keep b s0 x0) : Keep b s0 (flushQueue x0 x1).2 := by
  unfold flushQueue
  repeat' (first
    | (with_reducible assumption)
    | (with_reducible apply Keep.ite <;> with_reducible intro _)
    | (with_reducible apply State.putItems_keep)
    | (with_reducible apply comparePtrs_keep)
    | (with_reducible apply freeItem_keep)
    | (with_reducible apply markFlushed_keep)
    | (with_reducible apply State.setQueue_keep)
    | (with_reducible apply State.count_keep)
    | (with_reducible apply State.event_keep)
    | (with_reducible apply closeIfEmpty_keep)
    | (with_reducible apply settleHead_keep)
    | (with_reducible apply Keep.foldl <;> [intro _ _ _; skip])
    | (with_reducible intro _)
    | (extract_lets)
    | split
    | (with_reducible refine Keep.snd ?_ (by with_reducible assumption))
    | (with_reducible refine Keep.trd ?_ (by with_reducible assumption))
    | (with_reducible apply Keep.ite_fst <;> with_reducible intro _)
    | (with_reducible apply Keep.ite_snd <;> with_reducible intro _)
    | (with_reducible apply Keep.foldl_snd <;> [intro _ _ _; skip])
    | (with_reducible apply Keep.foldl_fst <;> [intro _ _ _; skip])
    | (dsimp +zetaDelta only)
    | (with_reducible apply Keep.mk; with_reducible first | apply Kept.of | (apply Kept.send; apply Kept.of)))

theorem ackBreak_keep {x0 x1} (h0 : Keep b s0 x0) : Keep b s0 (ackBreak x0 x1).2 := by
  unfold ackBreak
  repeat' (first
    | (with_reducible assumption)
    | (with_reducible apply Keep.ite <;> with_reducible intro _)
    | (with_reducible apply dropHead_keep)
    | (with_reducible apply State.setQueue_keep)
    | (with_reducible apply closeIfEmpty_keep)
    | (with_reducible apply settleHead_keep)
    | (with_reducible apply placeWaiting_keep)
    | (with_reducible intro _)
    | (extract_lets)
    | split
    | (with_reducible refine Keep.snd ?_ (by with_reducible assumption))
    | (with_reducible refine Keep.trd ?_ (by with_reducible assumption))
    | (with_reducible apply Keep.ite_fst <;> with_reducible intro _)
    | (with_reducible apply Keep.ite_snd <;> with_reducible intro _)
    | (with_reducible apply Keep.foldl_snd <;> [intro _ _ _; skip])
    | (with_reducible apply Keep.foldl_fst <;> [intro _ _ _; skip])
    | (dsimp +zetaDelta only)
    | (with_reducible apply Keep.mk; with_reducible first | apply Kept.of | (apply Kept.send; apply Kept.of)))

theorem underrun_keep {x0} (h0 : Keep b s0 x0) : Keep b s0 (underrun x0) := by
  unfold underrun
  repeat' (first
    | (with_reducible assumption)
    | (with_reducible apply Keep.ite <;> with_reducible intro _)
    | (with_reducible apply State.setQueue_keep)
    | (with_reducible apply setCause_keep)
    | (with_reducible apply State.count_keep)
    | (with_reducible intro _)
    | (extract_lets)
    | (with_reducible apply Keep.mk; with_reducible first | apply Kept.of | (apply Kept.send; apply Kept.of)))

theorem qwSelWrite_keep {x0 x1 x2 x3} (h0 : Keep b s0 x0) : Keep b s0 (qwSelWrite x0 x1 x2 x3) := by
  unfold qwSelWrite
  repeat' (first
    | (with_reducible assumption)
    | (with_reducible apply Keep.ite <;> with_reducible intro _)
    | (with_reducible apply writeFields_keep)
    | (with_reducible intro _)
    | (extract_lets)
    | (with_reducible apply Keep.mk; with_reducible first | apply Kept.of | (apply Kept.send; apply Kept.of)))

theorem execQwSelWrite_keep {x0 x1 x2} (h2 : Keep b s0 x2) : KeepR b s0 (execQwSelWrite x0 x1 x2) := by
  unfold execQwSelWrite
  repeat' (first
    | (with_reducible assumption)
    | (with_reducible apply KeepR.next)
    | (with_reducible apply KeepR.ite <;> with_reducible intro _)
    | (with_reducible apply Keep.ite <;> with_reducible intro _)
    | (with_reducible apply gateWrite_keep)
    | (with_reducible apply qwSelWrite_keep)
    | (with_reducible intro _))

theorem qcfgBusy_keep {x0 x1 x2} (h0 : Keep b s0 x0) : Keep b s0 (qcfgBusy x0 x1 x2) := by
  unfold qcfgBusy
  repeat' (first
    | (with_reducible assumption)
    | (with_reducible apply Keep.ite <;> with_reducible intro _)
    | (with_reducible apply recordErr_keep)
    | (with_reducible intro _))

theorem queueEnable_keep {x0 x1 x2} (h0 : Keep b s0 x0) : Keep b s0 (queueEnable x0 x1 x2) := by
  unfold queueEnable
  repeat' (first
    | (with_reducible assumption)
    | (with_reducible apply Keep.ite <;> with_reducible intro _)
    | (with_reducible apply State.setQueue_keep)
    | (with_reducible apply closeIfEmpty_keep)
    | (with_reducible intro _)
    | (extract_lets)
    | split
    | (with_reducible apply Keep.mk; with_reducible first | apply Kept.of | (apply Kept.send; apply Kept.of)))

theorem qwQcfgWrite_keep {x0 x1 x2 x3} (h0 : Keep b s0 x0) : Keep b s0 (qwQcfgWrite x0 x1 x2 x3) := by
  unfold qwQcfgWrite
  repeat' (first
    | (with_reducible assumption)
    | (with_reducible apply Keep.ite <;> with_reducible intro _)
    | (with_reducible apply State.setReg_keep)
    | (with_reducible apply writeFields_keep)
    | (with_reducible apply qcfgBusy_keep)
    | (with_reducible apply State.setQueue_keep)
    | (with_reducible apply queueEnable_keep)
    | (with_reducible intro _)
    | (extract_lets)
    | split
    | (with_reducible apply Keep.mk; with_reducible first | apply Kept.of | (apply Kept.send; apply Kept.of)))

theorem execQwQcfgWrite_keep {x0 x1 x2} (h2 : Keep b s0 x2) : KeepR b s0 (execQwQcfgWrite x0 x1 x2) := by
  unfold execQwQcfgWrite
  repeat' (first
    | (with_reducible assumption)
    | (with_reducible apply KeepR.next)
    | (with_reducible apply KeepR.ite <;> with_reducible intro _)
    | (with_reducible apply Keep.ite <;> with_reducible intro _)
    | (with_reducible apply gateWrite_keep)
    | (with_reducible apply qwQcfgWrite_keep)
    | (with_reducible intro _))

theorem qwQlimitWrite_keep {x0 x1 x2 x3} (h0 : Keep b s0 x0) : Keep b s0 (qwQlimitWrite x0 x1 x2 x3) := by
  unfold qwQlimitWrite
  repeat' (first
    | (with_reducible assumption)
    | (with_reducible apply Keep.ite <;> with_reducible intro _)
    | (with_reducible apply qcfgBusy_keep)
    | (with_reducible apply writeFields_keep)
    | (with_reducible apply State.setReg_keep)
    | (with_reducible apply State.setQueue_keep)
    | (with_reducible intro _)
    | (extract_lets)
    | split
    | (with_reducible apply Keep.mk; with_reducible first | apply Kept.of | (apply Kept.send; apply Kept.of)))

theorem qwPop_keep {x0 x1} (h0 : Keep b s0 x0) : Keep b s0 (qwPop x0 x1) := by
  unfold qwPop
  repeat' (first
    | (with_reducible assumption)
    | (with_reducible apply Keep.ite <;> with_reducible intro _)
    | (with_reducible apply delivered_keep)
    | (with_reducible apply readWide_keep)
    | (with_reducible apply recordErr_keep)
    | (with_reducible apply underrun_keep)
    | (with_reducible apply deliverMarker_keep)
    | (with_reducible intro _)
    | (extract_lets)
    | split
    | (dsimp +zetaDelta only)
    | (with_reducible apply Keep.mk; with_reducible first | apply Kept.of | (apply Kept.send; apply Kept.of)))

theorem execQwPopRead_keep {x0 x1} (h1 : Keep b s0 x1) : KeepR b s0 (execQwPopRead x0 x1) := by
  unfold execQwPopRead
  repeat' (first
    | (with_reducible assumption)
    | (with_reducible apply KeepR.next)
    | (with_reducible apply KeepR.ite <;> with_reducible intro _)
    | (with_reducible apply Keep.ite <;> with_reducible intro _)
    | (with_reducible apply gateRead_keep)
    | (with_reducible apply qwPop_keep)
    | (with_reducible intro _))

theorem qwData_keep {x0 x1} (h0 : Keep b s0 x0) : Keep b s0 (qwData x0 x1) := by
  unfold qwData
  repeat' (first
    | (with_reducible assumption)
    | (with_reducible apply Keep.ite <;> with_reducible intro _)
    | (with_reducible apply State.send_keep)
    | (with_reducible apply underrun_keep)
    | (with_reducible intro _)
    | (extract_lets)
    | split
    | (with_reducible apply Keep.mk; with_reducible first | apply Kept.of | (apply Kept.send; apply Kept.of)))

theorem execQwDataRead_keep {x0 x1} (h1 : Keep b s0 x1) : KeepR b s0 (execQwDataRead x0 x1) := by
  unfold execQwDataRead
  repeat' (first
    | (with_reducible assumption)
    | (with_reducible apply KeepR.next)
    | (with_reducible apply KeepR.ite <;> with_reducible intro _)
    | (with_reducible apply Keep.ite <;> with_reducible intro _)
    | (with_reducible apply gateRead_keep)
    | (with_reducible apply qwData_keep)
    | (with_reducible intro _))

/-! ### Datum -/

theorem State.setDtm_keep {x0 x1} (h0 : Keep b s0 x0) : Keep b s0 (State.setDtm x0 x1) := by
  unfold State.setDtm
  repeat' (first
    | (with_reducible assumption)
    | (with_reducible apply Keep.ite <;> with_reducible intro _)
    | (with_reducible intro _)
    | (with_reducible apply Keep.mk; with_reducible first | apply Kept.of | (apply Kept.send; apply Kept.of)))

theorem showSlew_keep {x0} (h0 : Keep b s0 x0) : Keep b s0 (showSlew x0) := by
  unfold showSlew
  repeat' (first
    | (with_reducible assumption)
    | (with_reducible apply Keep.ite <;> with_reducible intro _)
    | (with_reducible apply State.setReg_keep)
    | (with_reducible intro _))

theorem slewEnd_keep {x0} (h0 : Keep b s0 x0) : Keep b s0 (slewEnd x0) := by
  unfold slewEnd
  repeat' (first
    | (with_reducible assumption)
    | (with_reducible apply Keep.ite <;> with_reducible intro _)
    | (with_reducible apply setCause_keep)
    | (with_reducible apply showSlew_keep)
    | (with_reducible apply State.setFld_keep)
    | (with_reducible apply State.setDtm_keep)
    | (with_reducible intro _)
    | (with_reducible apply Keep.mk; with_reducible first | apply Kept.of | (apply Kept.send; apply Kept.of)))

theorem datumTick_keep {x0} (h0 : Keep b s0 x0) : Keep b s0 (datumTick x0) := by
  unfold datumTick
  repeat' (first
    | (with_reducible assumption)
    | (with_reducible apply Keep.ite <;> with_reducible intro _)
    | (with_reducible apply showSlew_keep)
    | (with_reducible apply State.setDtm_keep)
    | (with_reducible apply slewEnd_keep)
    | (with_reducible intro _)
    | (extract_lets)
    | (with_reducible apply Keep.mk; with_reducible first | apply Kept.of | (apply Kept.send; apply Kept.of))
    | (with_reducible apply Keep.mk; apply Kept.of))

theorem execDtmTimeSnapshot_keep {x0 x1} (h1 : Keep b s0 x1) : KeepR b s0 (execDtmTimeSnapshot x0 x1) := by
  unfold execDtmTimeSnapshot
  repeat' (first
    | (with_reducible assumption)
    | (with_reducible apply KeepR.next)
    | (with_reducible apply KeepR.ite <;> with_reducible intro _)
    | (with_reducible apply Keep.ite <;> with_reducible intro _)
    | (with_reducible apply gateRead_keep)
    | (with_reducible apply readWide_keep)
    | (with_reducible intro _))

theorem refreshTimeOk_keep {x0} (h0 : Keep b s0 x0) : Keep b s0 (refreshTimeOk x0) := by
  unfold refreshTimeOk
  repeat' (first
    | (with_reducible assumption)
    | (with_reducible apply Keep.ite <;> with_reducible intro _)
    | (with_reducible apply State.setFld_keep)
    | (with_reducible intro _)
    | (extract_lets))

theorem servoEvent_keep {x0 x1 x2} (h0 : Keep b s0 x0) : Keep b s0 (servoEvent x0 x1 x2) := by
  unfold servoEvent
  repeat' (first
    | (with_reducible assumption)
    | (with_reducible apply Keep.ite <;> with_reducible intro _)
    | (with_reducible apply State.event_keep)
    | (with_reducible intro _)
    | split)

theorem holdInc_keep {x0} (h0 : Keep b s0 x0) : Keep b s0 (holdInc x0) := by
  unfold holdInc
  repeat' (first
    | (with_reducible assumption)
    | (with_reducible apply Keep.ite <;> with_reducible intro _)
    | (with_reducible apply State.setWide_keep)
    | (with_reducible apply Keep.foldl <;> [intro _ _ _; skip])
    | (with_reducible intro _)
    | split)

theorem setServo_keep {x0 x1 x2} (h0 : Keep b s0 x0) : Keep b s0 (setServo x0 x1 x2) := by
  unfold setServo
  repeat' (first
    | (with_reducible assumption)
    | (with_reducible apply Keep.ite <;> with_reducible intro _)
    | (with_reducible apply holdInc_keep)
    | (with_reducible apply State.setDtm_keep)
    | (with_reducible apply refreshTimeOk_keep)
    | (with_reducible apply State.setFld_keep)
    | (with_reducible apply setCause_keep)
    | (with_reducible apply servoEvent_keep)
    | (with_reducible intro _)
    | (extract_lets)
    | split
    | (with_reducible apply Keep.mk; with_reducible first | apply Kept.of | (apply Kept.send; apply Kept.of)))

theorem afterStep_keep {x0 x1} (h0 : Keep b s0 x0) : Keep b s0 (afterStep x0 x1) := by
  unfold afterStep
  repeat' (first
    | (with_reducible assumption)
    | (with_reducible apply Keep.ite <;> with_reducible intro _)
    | (with_reducible apply gatesAfterStep_keep)
    | (with_reducible intro _)
    | (with_reducible apply Keep.mk; with_reducible first | apply Kept.of | (apply Kept.send; apply Kept.of)))

theorem stepDatum_keep {x0 x1 x2 y0} (h0 : Keep b s0 x0) (e : stepDatum x0 x1 x2 = some y0) : Keep b s0 y0 := by
  unfold stepDatum at e
  extract_lets at e
  split at e
  · cases e
  · simp only [Option.some.injEq] at e
    rw [← e]
    clear e
    repeat' (first
      | (with_reducible assumption)
      | (with_reducible apply Keep.ite <;> with_reducible intro _)
      | (with_reducible apply refreshTimeOk_keep)
      | (with_reducible apply State.setDtm_keep)
      | (with_reducible apply setServo_keep)
      | (with_reducible apply afterStep_keep)
      | (with_reducible apply State.event_keep)
      | (with_reducible apply setCause_keep)
      | (with_reducible apply State.count_keep)
      | (with_reducible apply State.setFld_keep)
      | (with_reducible apply showSlew_keep)
      | (with_reducible apply Keep.mk; with_reducible apply Kept.of))

theorem jumpRefused_keep {x0 x1 x2} (h0 : Keep b s0 x0) : Keep b s0 (jumpRefused x0 x1 x2) := by
  unfold jumpRefused
  repeat' (first
    | (with_reducible assumption)
    | (with_reducible apply Keep.ite <;> with_reducible intro _)
    | (with_reducible apply setCause_keep)
    | (with_reducible apply State.event_keep)
    | (with_reducible intro _))

theorem startSlew_keep {x0 x1} (h0 : Keep b s0 x0) : Keep b s0 (startSlew x0 x1) := by
  unfold startSlew
  repeat' (first
    | (with_reducible assumption)
    | (with_reducible apply Keep.ite <;> with_reducible intro _)
    | (with_reducible apply State.setDtm_keep)
    | (with_reducible apply slewEnd_keep)
    | (with_reducible apply showSlew_keep)
    | (with_reducible apply State.setFld_keep)
    | (with_reducible intro _)
    | (extract_lets)
    | split
    | (with_reducible apply Keep.mk; with_reducible first | apply Kept.of | (apply Kept.send; apply Kept.of)))

theorem datumStep_keep {x0 x1} (h0 : Keep b s0 x0) : Keep b s0 (datumStep x0 x1) := by
  unfold datumStep
  repeat' (first
    | (with_reducible assumption)
    | (with_reducible apply Keep.ite <;> with_reducible intro _)
    | (with_reducible refine stepDatum_keep ?_ (by with_reducible assumption))
    | (with_reducible apply commitCmd_keep)
    | (with_reducible apply finish_keep)
    | (with_reducible apply State.count_keep)
    | (with_reducible intro _)
    | (extract_lets)
    | split
    | (dsimp +zetaDelta only))

theorem execDatumStep_keep {x0 x1} (h1 : Keep b s0 x1) : KeepR b s0 (execDatumStep x0 x1) := by
  unfold execDatumStep
  repeat' (first
    | (with_reducible assumption)
    | (with_reducible apply KeepR.next)
    | (with_reducible apply KeepR.ite <;> with_reducible intro _)
    | (with_reducible apply Keep.ite <;> with_reducible intro _)
    | (with_reducible apply datumStep_keep)
    | (with_reducible intro _)
    | split)

theorem execSlewDone_keep {x0} (h0 : Keep b s0 x0) : KeepR b s0 (execSlewDone x0) := by
  unfold execSlewDone
  repeat' (first
    | (with_reducible assumption)
    | (with_reducible apply KeepR.next)
    | (with_reducible apply KeepR.ite <;> with_reducible intro _)
    | (with_reducible apply Keep.ite <;> with_reducible intro _)
    | (with_reducible apply slewEnd_keep)
    | (with_reducible intro _)
    | split
    | (with_reducible apply Keep.mk; with_reducible first | apply Kept.of | (apply Kept.send; apply Kept.of)))

theorem servoOwned_keep {x0 x1 x2} (h0 : Keep b s0 x0) : Keep b s0 (servoOwned x0 x1 x2) := by
  unfold servoOwned
  repeat' (first
    | (with_reducible assumption)
    | (with_reducible apply Keep.ite <;> with_reducible intro _)
    | (with_reducible apply recordErr_keep)
    | (with_reducible intro _))

theorem incWrite_keep {x0 x1 x2 x3} (h0 : Keep b s0 x0) : Keep b s0 (incWrite x0 x1 x2 x3) := by
  unfold incWrite
  repeat' (first
    | (with_reducible assumption)
    | (with_reducible apply Keep.ite <;> with_reducible intro _)
    | (with_reducible apply servoOwned_keep)
    | (with_reducible apply wideWrite_keep)
    | (with_reducible apply writeFields_keep)
    | (with_reducible apply recordErr_keep)
    | (with_reducible apply State.setWide_keep)
    | (with_reducible intro _)
    | (extract_lets)
    | split)

theorem execIncWrite_keep {x0 x1 x2 x3} (h3 : Keep b s0 x3) : KeepR b s0 (execIncWrite x0 x1 x2 x3) := by
  unfold execIncWrite
  repeat' (first
    | (with_reducible assumption)
    | (with_reducible apply KeepR.next)
    | (with_reducible apply KeepR.ite <;> with_reducible intro _)
    | (with_reducible apply Keep.ite <;> with_reducible intro _)
    | (with_reducible apply gateWrite_keep)
    | (with_reducible apply incWrite_keep)
    | (with_reducible intro _)
    | split)

theorem adjPhaseWrite_keep {x0 x1 x2} (h0 : Keep b s0 x0) : Keep b s0 (adjPhaseWrite x0 x1 x2) := by
  unfold adjPhaseWrite
  repeat' (first
    | (with_reducible assumption)
    | (with_reducible apply Keep.ite <;> with_reducible intro _)
    | (with_reducible apply servoOwned_keep)
    | (with_reducible apply State.count_keep)
    | (with_reducible apply jumpRefused_keep)
    | (with_reducible apply startSlew_keep)
    | (with_reducible apply State.setReg_keep)
    | (with_reducible intro _)
    | (extract_lets)
    | split)

theorem execAdjPhaseWrite_keep {x0 x1 x2} (h2 : Keep b s0 x2) : KeepR b s0 (execAdjPhaseWrite x0 x1 x2) := by
  unfold execAdjPhaseWrite
  repeat' (first
    | (with_reducible assumption)
    | (with_reducible apply KeepR.next)
    | (with_reducible apply KeepR.ite <;> with_reducible intro _)
    | (with_reducible apply Keep.ite <;> with_reducible intro _)
    | (with_reducible apply gateWrite_keep)
    | (with_reducible apply adjPhaseWrite_keep)
    | (with_reducible intro _))

theorem srcCfgWrite_keep {x0 x1 x2 x3} (h0 : Keep b s0 x0) : Keep b s0 (srcCfgWrite x0 x1 x2 x3) := by
  unfold srcCfgWrite
  repeat' (first
    | (with_reducible assumption)
    | (with_reducible apply Keep.ite <;> with_reducible intro _)
    | (with_reducible apply writeFields_keep)
    | (with_reducible apply State.setDtm_keep)
    | (with_reducible apply State.setFld_keep)
    | (with_reducible apply refreshTimeOk_keep)
    | (with_reducible apply servoEvent_keep)
    | (with_reducible apply setCause_keep)
    | (with_reducible intro _)
    | (extract_lets)
    | split
    | (dsimp +zetaDelta only)
    | (with_reducible apply Keep.mk; with_reducible first | apply Kept.of | (apply Kept.send; apply Kept.of)))

theorem execSrcCfgWrite_keep {x0 x1 x2} (h2 : Keep b s0 x2) : KeepR b s0 (execSrcCfgWrite x0 x1 x2) := by
  unfold execSrcCfgWrite
  repeat' (first
    | (with_reducible assumption)
    | (with_reducible apply KeepR.next)
    | (with_reducible apply KeepR.ite <;> with_reducible intro _)
    | (with_reducible apply Keep.ite <;> with_reducible intro _)
    | (with_reducible apply gateWrite_keep)
    | (with_reducible apply srcCfgWrite_keep)
    | (with_reducible intro _))

theorem hostLockWrite_keep {x0 x1 x2 x3} (h0 : Keep b s0 x0) : Keep b s0 (hostLockWrite x0 x1 x2 x3) := by
  unfold hostLockWrite
  repeat' (first
    | (with_reducible assumption)
    | (with_reducible apply Keep.ite <;> with_reducible intro _)
    | (with_reducible apply writeFields_keep)
    | (with_reducible apply setServo_keep)
    | (with_reducible intro _)
    | (extract_lets)
    | split)

theorem execHostLockWrite_keep {x0 x1 x2} (h2 : Keep b s0 x2) : KeepR b s0 (execHostLockWrite x0 x1 x2) := by
  unfold execHostLockWrite
  repeat' (first
    | (with_reducible assumption)
    | (with_reducible apply KeepR.next)
    | (with_reducible apply KeepR.ite <;> with_reducible intro _)
    | (with_reducible apply Keep.ite <;> with_reducible intro _)
    | (with_reducible apply gateWrite_keep)
    | (with_reducible apply hostLockWrite_keep)
    | (with_reducible intro _))

theorem refuseMeasure_keep {x0 x1} (h0 : Keep b s0 x0) : Keep b s0 (refuseMeasure x0 x1) := by
  unfold refuseMeasure
  repeat' (first
    | (with_reducible assumption)
    | (with_reducible apply Keep.ite <;> with_reducible intro _)
    | (with_reducible apply State.count_keep)
    | (with_reducible apply setServo_keep)
    | (with_reducible apply jumpRefused_keep)
    | (with_reducible intro _)
    | (extract_lets)
    | split)

theorem adjustInc_keep {x0} (h0 : Keep b s0 x0) : Keep b s0 (adjustInc x0) := by
  unfold adjustInc
  repeat' (first
    | (with_reducible assumption)
    | (with_reducible apply Keep.ite <;> with_reducible intro _)
    | (with_reducible apply drawNat_keep)
    | (with_reducible apply State.setDtm_keep)
    | (with_reducible apply State.setWide_keep)
    | (with_reducible intro _)
    | (extract_lets)
    | (with_reducible refine Keep.snd ?_ (by with_reducible assumption))
    | (with_reducible refine Keep.trd ?_ (by with_reducible assumption))
    | (with_reducible apply Keep.mk; with_reducible first | apply Kept.of | (apply Kept.send; apply Kept.of)))

theorem countMeasure_keep {x0 x1} (h0 : Keep b s0 x0) : Keep b s0 (countMeasure x0 x1) := by
  unfold countMeasure
  repeat' (first
    | (with_reducible assumption)
    | (with_reducible apply Keep.ite <;> with_reducible intro _)
    | (with_reducible apply State.setDtm_keep)
    | (with_reducible apply setServo_keep)
    | (with_reducible intro _)
    | (extract_lets)
    | split
    | (dsimp +zetaDelta only)
    | (with_reducible apply Keep.mk; with_reducible first | apply Kept.of | (apply Kept.send; apply Kept.of)))

theorem measure_keep {x0 x1 x2} (h0 : Keep b s0 x0) : Keep b s0 (measure x0 x1 x2) := by
  unfold measure
  repeat' (first
    | (with_reducible assumption)
    | (with_reducible apply Keep.ite <;> with_reducible intro _)
    | (with_reducible apply State.setReg_keep)
    | (with_reducible apply refuseMeasure_keep)
    | (with_reducible apply countMeasure_keep)
    | (with_reducible apply adjustInc_keep)
    | (with_reducible apply startSlew_keep)
    | (with_reducible refine stepDatum_keep ?_ (by with_reducible assumption))
    | (with_reducible intro _)
    | (extract_lets)
    | split
    | (dsimp +zetaDelta only))

theorem ptpDiscard_keep {x0 x1} (h0 : Keep b s0 x0) : Keep b s0 (ptpDiscard x0 x1) := by
  unfold ptpDiscard
  repeat' (first
    | (with_reducible assumption)
    | (with_reducible apply Keep.ite <;> with_reducible intro _)
    | (with_reducible apply delivered_keep)
    | (with_reducible apply Keep.foldl <;> [intro _ _ _; skip])
    | (with_reducible intro _)
    | (extract_lets)
    | split
    | (dsimp +zetaDelta only)
    | (with_reducible apply Keep.mk; with_reducible first | apply Kept.of | (apply Kept.send; apply Kept.of)))

theorem takePtp_keep {x0 x1 x2} (h0 : Keep b s0 x0) : Keep b s0 (takePtp x0 x1 x2).2 := by
  unfold takePtp
  have h := ptpDiscard_keep (x1 := x1) h0
  dsimp only
  split
  · refine Keep.ite_snd (fun _ => ?_) (fun _ => h)
    with_reducible exact ptpDiscard_keep (delivered_keep h)
  · exact h

theorem ptpSync_keep {x0 x1 x2 x3 x4 x5 x6} (h0 : Keep b s0 x0) : Keep b s0 (ptpSync x0 x1 x2 x3 x4 x5 x6) := by
  unfold ptpSync
  refine Keep.ite (fun _ => h0) (fun _ => ?_)
  have h := takePtp_keep (x1 := x1) (x2 := 0) h0
  split
  · exact Keep.snd h ‹_›
  · have h := Keep.snd h ‹_›
    split
    · exact Keep.ite (fun _ => measure_keep (State.count_keep h)) (fun _ => h)
    · exact h

theorem execPtpSyncRx_keep {x0 x1 x2 x3 x4 x5 x6} (h6 : Keep b s0 x6) : KeepR b s0 (execPtpSyncRx x0 x1 x2 x3 x4 x5 x6) := by
  unfold execPtpSyncRx
  exact KeepR.next (Keep.ite (fun _ => ptpSync_keep h6) (fun _ => h6))

theorem masterChange_keep {x0 x1} (h0 : Keep b s0 x0) : Keep b s0 (masterChange x0 x1) := by
  unfold masterChange
  repeat' (first
    | (with_reducible assumption)
    | (with_reducible apply Keep.ite <;> with_reducible intro _)
    | (with_reducible apply State.setDtm_keep)
    | (with_reducible apply State.setWide_keep)
    | (with_reducible apply State.setReg_keep)
    | (with_reducible apply State.setFld_keep)
    | (with_reducible apply State.count_keep)
    | (with_reducible apply setCause_keep)
    | (with_reducible apply State.event_keep)
    | (with_reducible apply setServo_keep)
    | (with_reducible intro _)
    | (extract_lets)
    | (with_reducible apply Keep.mk; with_reducible first | apply Kept.of | (apply Kept.send; apply Kept.of)))

theorem chooseMaster_keep {x0} (h0 : Keep b s0 x0) : Keep b s0 (chooseMaster x0) := by
  unfold chooseMaster
  repeat' (first
    | (with_reducible assumption)
    | (with_reducible apply Keep.ite <;> with_reducible intro _)
    | (with_reducible apply State.setDtm_keep)
    | (with_reducible apply masterChange_keep)
    | (with_reducible intro _)
    | split
    | (dsimp +zetaDelta only)
    | (with_reducible apply Keep.mk; with_reducible first | apply Kept.of | (apply Kept.send; apply Kept.of)))

theorem ageMasters_keep {x0} (h0 : Keep b s0 x0) : Keep b s0 (ageMasters x0) := by
  unfold ageMasters
  repeat' (first
    | (with_reducible assumption)
    | (with_reducible apply Keep.ite <;> with_reducible intro _)
    | (with_reducible apply State.setDtm_keep)
    | (with_reducible intro _)
    | (with_reducible apply Keep.mk; with_reducible first | apply Kept.of | (apply Kept.send; apply Kept.of)))

theorem announceHeard_keep {x0 x1} (h0 : Keep b s0 x0) : Keep b s0 (announceHeard x0 x1) := by
  unfold announceHeard
  repeat' (first
    | (with_reducible assumption)
    | (with_reducible apply Keep.ite <;> with_reducible intro _)
    | (with_reducible apply ageMasters_keep)
    | (with_reducible apply chooseMaster_keep)
    | (with_reducible apply State.setDtm_keep)
    | (with_reducible intro _)
    | (extract_lets)
    | (dsimp +zetaDelta only)
    | (with_reducible apply Keep.mk; with_reducible first | apply Kept.of | (apply Kept.send; apply Kept.of)))

theorem execPtpAnnounceRx_keep {x0 x1 x2 x3 x4 x5} (h5 : Keep b s0 x5) : KeepR b s0 (execPtpAnnounceRx x0 x1 x2 x3 x4 x5) := by
  unfold execPtpAnnounceRx
  refine KeepR.next (Keep.ite (fun _ => h5) (fun _ => ?_))
  have h := takePtp_keep (x1 := x0) (x2 := 11) h5
  split
  · exact Keep.snd h ‹_›
  · have h := Keep.snd h ‹_›
    exact Keep.ite (fun _ => h) (fun _ => announceHeard_keep h)

theorem sourceLost_keep {x0} (h0 : Keep b s0 x0) : Keep b s0 (sourceLost x0) := by
  unfold sourceLost
  repeat' (first
    | (with_reducible assumption)
    | (with_reducible apply Keep.ite <;> with_reducible intro _)
    | (with_reducible apply setServo_keep)
    | (with_reducible intro _)
    | split)

theorem ptpMasterLoss_keep {x0} (h0 : Keep b s0 x0) : Keep b s0 (ptpMasterLoss x0) := by
  unfold ptpMasterLoss
  repeat' (first
    | (with_reducible assumption)
    | (with_reducible apply Keep.ite <;> with_reducible intro _)
    | (with_reducible apply ageMasters_keep)
    | (with_reducible apply State.count_keep)
    | (with_reducible apply State.setDtm_keep)
    | (with_reducible apply masterChange_keep)
    | (with_reducible apply sourceLost_keep)
    | (with_reducible apply State.setFld_keep)
    | (with_reducible intro _)
    | (extract_lets)
    | split
    | (dsimp +zetaDelta only)
    | (with_reducible apply Keep.mk; with_reducible first | apply Kept.of | (apply Kept.send; apply Kept.of)))

theorem execPtpMasterLoss_keep {x0} (h0 : Keep b s0 x0) : KeepR b s0 (execPtpMasterLoss x0) := by
  unfold execPtpMasterLoss
  repeat' (first
    | (with_reducible assumption)
    | (with_reducible apply KeepR.next)
    | (with_reducible apply KeepR.ite <;> with_reducible intro _)
    | (with_reducible apply Keep.ite <;> with_reducible intro _)
    | (with_reducible apply ptpMasterLoss_keep)
    | (with_reducible intro _)
    | split)

theorem ptpDelay_keep {x0 x1 x2 x3 x4 x5 x6} (h0 : Keep b s0 x0) : Keep b s0 (ptpDelay x0 x1 x2 x3 x4 x5 x6) := by
  unfold ptpDelay
  refine Keep.ite (fun _ => h0) (fun _ => ?_)
  have h := takePtp_keep (x1 := x1) (x2 := if x0.flag F.DTM_PTP_CFG_DELAY_MECH then 3 else 9) h0
  split
  · exact Keep.snd h ‹_›
  · have h := Keep.snd h ‹_›
    exact Keep.ite (fun _ => State.setDtm_keep h) (fun _ => h)

theorem execPtpDelayRespRx_keep {x0 x1 x2 x3 x4 x5 x6} (h6 : Keep b s0 x6) : KeepR b s0 (execPtpDelayRespRx x0 x1 x2 x3 x4 x5 x6) :=
  KeepR.next (Keep.ite (fun _ => ptpDelay_keep h6) (fun _ => h6))

theorem ptpFrame_keep {x0 x1 x2 x3} (h0 : Keep b s0 x0) : Keep b s0 (ptpFrame x0 x1 x2 x3).2 := by
  unfold ptpFrame
  repeat' (first
    | (with_reducible assumption)
    | (with_reducible apply Keep.ite <;> with_reducible intro _)
    | (with_reducible apply drawBytes_keep)
    | (with_reducible intro _)
    | (extract_lets)
    | split
    | (with_reducible refine Keep.snd ?_ (by with_reducible assumption))
    | (with_reducible refine Keep.trd ?_ (by with_reducible assumption))
    | (with_reducible apply Keep.ite_fst <;> with_reducible intro _)
    | (with_reducible apply Keep.ite_snd <;> with_reducible intro _)
    | (with_reducible apply Keep.foldl_snd <;> [intro _ _ _; skip])
    | (with_reducible apply Keep.foldl_fst <;> [intro _ _ _; skip]))

theorem sendPtp_keep {x0 x1 x2 x3 x4 x5} (h0 : Keep b s0 x0) : Keep b s0 (sendPtp x0 x1 x2 x3 x4 x5) := by
  unfold sendPtp
  repeat' (first
    | (with_reducible assumption)
    | (with_reducible apply Keep.ite <;> with_reducible intro _)
    | (with_reducible apply ptpFrame_keep)
    | (with_reducible apply enqueue_keep)
    | (with_reducible intro _)
    | (extract_lets)
    | split
    | (with_reducible refine Keep.snd ?_ (by with_reducible assumption))
    | (with_reducible refine Keep.trd ?_ (by with_reducible assumption))
    | (with_reducible apply Keep.mk; with_reducible first | apply Kept.of | (apply Kept.send; apply Kept.of))
    | (dsimp +zetaDelta only))

theorem execPtpDelayReqTx_keep {x0 x1} (h1 : Keep b s0 x1) : KeepR b s0 (execPtpDelayReqTx x0 x1) := by
  unfold execPtpDelayReqTx
  repeat' (first
    | (with_reducible assumption)
    | (with_reducible apply KeepR.next)
    | (with_reducible apply KeepR.ite <;> with_reducible intro _)
    | (with_reducible apply Keep.ite <;> with_reducible intro _)
    | (with_reducible apply State.setDtm_keep)
    | (with_reducible apply sendPtp_keep)
    | (with_reducible intro _)
    | (extract_lets)
    | split
    | (with_reducible apply Keep.mk; with_reducible first | apply Kept.of | (apply Kept.send; apply Kept.of)))

theorem pdelayAnswer_keep {x0 x1 x2 x3 x4 x5} (h0 : Keep b s0 x0) : Keep b s0 (pdelayAnswer x0 x1 x2 x3 x4 x5) := by
  unfold pdelayAnswer
  repeat' (first
    | (with_reducible assumption)
    | (with_reducible apply Keep.ite <;> with_reducible intro _)
    | (with_reducible apply sendPtp_keep)
    | (with_reducible apply State.setDtm_keep)
    | (with_reducible intro _)
    | (extract_lets)
    | split
    | (dsimp +zetaDelta only)
    | (with_reducible apply Keep.mk; with_reducible first | apply Kept.of | (apply Kept.send; apply Kept.of)))

theorem execPtpPdelayReqRx_keep {x0 x1 x2 x3} (h3 : Keep b s0 x3) : KeepR b s0 (execPtpPdelayReqRx x0 x1 x2 x3) := by
  unfold execPtpPdelayReqRx
  refine KeepR.next (Keep.ite (fun _ => h3) (fun _ => ?_))
  have h := takePtp_keep (x1 := x0) (x2 := 2) h3
  split
  · exact Keep.snd h ‹_›
  · have h := Keep.snd h ‹_›
    exact Keep.ite (fun _ => pdelayAnswer_keep h) (fun _ => h)

theorem pdelayFollowUp_keep {x0 x1 x2 x3} (h0 : Keep b s0 x0) : Keep b s0 (pdelayFollowUp x0 x1 x2 x3) := by
  unfold pdelayFollowUp
  repeat' (first
    | (with_reducible assumption)
    | (with_reducible apply Keep.ite <;> with_reducible intro _)
    | (with_reducible apply State.setDtm_keep)
    | (with_reducible apply sendPtp_keep)
    | (with_reducible intro _)
    | (extract_lets)
    | split
    | (dsimp +zetaDelta only)
    | (with_reducible apply Keep.mk; with_reducible first | apply Kept.of | (apply Kept.send; apply Kept.of)))

theorem execHoldoverExpiry_keep {x0} (h0 : Keep b s0 x0) : KeepR b s0 (execHoldoverExpiry x0) := by
  unfold execHoldoverExpiry
  repeat' (first
    | (with_reducible assumption)
    | (with_reducible apply KeepR.next)
    | (with_reducible apply KeepR.ite <;> with_reducible intro _)
    | (with_reducible apply Keep.ite <;> with_reducible intro _)
    | (with_reducible apply setServo_keep)
    | (with_reducible apply State.setDtm_keep)
    | (with_reducible intro _)
    | split
    | (with_reducible apply Keep.mk; with_reducible first | apply Kept.of | (apply Kept.send; apply Kept.of)))

theorem execTimeOkHoldExpiry_keep {x0} (h0 : Keep b s0 x0) : KeepR b s0 (execTimeOkHoldExpiry x0) := by
  unfold execTimeOkHoldExpiry
  repeat' (first
    | (with_reducible assumption)
    | (with_reducible apply KeepR.next)
    | (with_reducible apply KeepR.ite <;> with_reducible intro _)
    | (with_reducible apply Keep.ite <;> with_reducible intro _)
    | (with_reducible apply refreshTimeOk_keep)
    | (with_reducible apply State.setDtm_keep)
    | (with_reducible intro _)
    | split
    | (with_reducible apply Keep.mk; with_reducible first | apply Kept.of | (apply Kept.send; apply Kept.of)))

theorem execPpsOutStart_keep {x0} (h0 : Keep b s0 x0) : KeepR b s0 (execPpsOutStart x0) := by
  unfold execPpsOutStart
  repeat' (first
    | (with_reducible assumption)
    | (with_reducible apply KeepR.next)
    | (with_reducible apply KeepR.ite <;> with_reducible intro _)
    | (with_reducible apply Keep.ite <;> with_reducible intro _)
    | (with_reducible apply State.setDtm_keep)
    | (with_reducible intro _)
    | split
    | (with_reducible apply Keep.mk; with_reducible first | apply Kept.of | (apply Kept.send; apply Kept.of)))

theorem execPpsOutEnd_keep {x0} (h0 : Keep b s0 x0) : KeepR b s0 (execPpsOutEnd x0) := by
  unfold execPpsOutEnd
  repeat' (first
    | (with_reducible assumption)
    | (with_reducible apply KeepR.next)
    | (with_reducible apply KeepR.ite <;> with_reducible intro _)
    | (with_reducible apply Keep.ite <;> with_reducible intro _)
    | (with_reducible apply State.setDtm_keep)
    | (with_reducible intro _)
    | (with_reducible apply Keep.mk; with_reducible first | apply Kept.of | (apply Kept.send; apply Kept.of)))

theorem ppsEdge_keep {x0} (h0 : Keep b s0 x0) : Keep b s0 (ppsEdge x0) := by
  unfold ppsEdge
  repeat' (first
    | (with_reducible assumption)
    | (with_reducible apply Keep.ite <;> with_reducible intro _)
    | (with_reducible apply State.count_keep)
    | (with_reducible apply State.setReg_keep)
    | (with_reducible apply setCause_keep)
    | (with_reducible apply measure_keep)
    | (with_reducible intro _)
    | (extract_lets)
    | split)

theorem execPpsInEdge_keep {x0} (h0 : Keep b s0 x0) : KeepR b s0 (execPpsInEdge x0) := by
  unfold execPpsInEdge
  repeat' (first
    | (with_reducible assumption)
    | (with_reducible apply KeepR.next)
    | (with_reducible apply KeepR.ite <;> with_reducible intro _)
    | (with_reducible apply Keep.ite <;> with_reducible intro _)
    | (with_reducible apply ppsEdge_keep)
    | (with_reducible intro _)
    | split)

theorem execPpsSourceLoss_keep {x0} (h0 : Keep b s0 x0) : KeepR b s0 (execPpsSourceLoss x0) := by
  unfold execPpsSourceLoss
  repeat' (first
    | (with_reducible assumption)
    | (with_reducible apply KeepR.next)
    | (with_reducible apply KeepR.ite <;> with_reducible intro _)
    | (with_reducible apply Keep.ite <;> with_reducible intro _)
    | (with_reducible apply sourceLost_keep)
    | (with_reducible apply State.count_keep)
    | (with_reducible intro _)
    | split)

theorem ppsTsPop_keep {x0 x1} (h0 : Keep b s0 x0) : Keep b s0 (ppsTsPop x0 x1) := by
  unfold ppsTsPop
  repeat' (first
    | (with_reducible assumption)
    | (with_reducible apply Keep.ite <;> with_reducible intro _)
    | (with_reducible apply readWide_keep)
    | (with_reducible apply State.setReg_keep)
    | (with_reducible intro _)
    | (extract_lets)
    | split)

theorem execPpsTsPop_keep {x0 x1} (h1 : Keep b s0 x1) : KeepR b s0 (execPpsTsPop x0 x1) := by
  unfold execPpsTsPop
  repeat' (first
    | (with_reducible assumption)
    | (with_reducible apply KeepR.next)
    | (with_reducible apply KeepR.ite <;> with_reducible intro _)
    | (with_reducible apply Keep.ite <;> with_reducible intro _)
    | (with_reducible apply gateRead_keep)
    | (with_reducible apply ppsTsPop_keep)
    | (with_reducible intro _))

end Sys2Proof.Machine
end

