-- ==== Sys2Proof/Laws/KeepAir.lean ====
section
/-!
SUPPORT. Sys2Proof/Laws/KeepAir.lean: one lemma for each function on states of frames, mailboxes, parcels, lanes, the decoders: it keeps what `Keep` says.
-/

-- One theorem after the other: side by side, their proofs would hold threads and memory together.
set_option Elab.async false
set_option linter.unusedTactic false
set_option linter.unreachableTactic false

namespace Sys2Proof.Machine

variable {b : Bool} {s0 : State}

/-! ### Frames -/

theorem pSet_keep {x0 x1 x2 x3 x4} (h0 : Keep b s0 x0) : Keep b s0 (pSet x0 x1 x2 x3 x4) := by
  unfold pSet
  repeat' (first
    | (with_reducible assumption)
    | (with_reducible apply Keep.ite <;> with_reducible intro _)
    | (with_reducible apply State.ramStore_keep)
    | (with_reducible intro _))

theorem pSetBits_keep {x0 x1 x2 x3 x4 x5} (h0 : Keep b s0 x0) : Keep b s0 (pSetBits x0 x1 x2 x3 x4 x5) := by
  unfold pSetBits
  repeat' (first
    | (with_reducible assumption)
    | (with_reducible apply Keep.ite <;> with_reducible intro _)
    | (with_reducible apply pSet_keep)
    | (with_reducible intro _)
    | (extract_lets))

theorem pCount_keep {x0 x1 x2 x3 x4} (h0 : Keep b s0 x0) : Keep b s0 (pCount x0 x1 x2 x3 x4) := by
  unfold pCount
  repeat' (first
    | (with_reducible assumption)
    | (with_reducible apply Keep.ite <;> with_reducible intro _)
    | (with_reducible apply pSet_keep)
    | (with_reducible intro _))

theorem ccmProtect_keep {x0 x1 x2 x3} (h0 : Keep b s0 x0) : Keep b s0 (ccmProtect x0 x1 x2 x3).2 := by
  unfold ccmProtect
  repeat' (first
    | (with_reducible assumption)
    | (with_reducible apply Keep.ite <;> with_reducible intro _)
    | (with_reducible apply State.count_keep)
    | (with_reducible apply denied_keep)
    | (with_reducible intro _)
    | (extract_lets)
    | split
    | (with_reducible refine Keep.snd ?_ (by with_reducible assumption))
    | (with_reducible refine Keep.trd ?_ (by with_reducible assumption))
    | (with_reducible apply Keep.ite_fst <;> with_reducible intro _)
    | (with_reducible apply Keep.ite_snd <;> with_reducible intro _)
    | (with_reducible apply Keep.foldl_snd <;> [intro _ _ _; skip])
    | (with_reducible apply Keep.foldl_fst <;> [intro _ _ _; skip])
    | (dsimp +zetaDelta only))

theorem putEntry_keep {x0 x1 x2 x3} (h0 : Keep b s0 x0) : Keep b s0 (putEntry x0 x1 x2 x3) := by
  unfold putEntry
  repeat' (first
    | (with_reducible assumption)
    | (with_reducible apply Keep.ite <;> with_reducible intro _)
    | (with_reducible apply State.ramStore_keep)
    | (with_reducible intro _))

theorem emptyEntry_keep {x0 x1} (h0 : Keep b s0 x0) : Keep b s0 (emptyEntry x0 x1) := by
  unfold emptyEntry
  repeat' (first
    | (with_reducible assumption)
    | (with_reducible apply Keep.ite <;> with_reducible intro _)
    | (with_reducible apply State.ramStore_keep)
    | (with_reducible intro _)
    | (extract_lets)
    | (with_reducible apply Keep.mk; with_reducible first | apply Kept.of | (apply Kept.send; apply Kept.of)))

theorem recheckEntries_keep {x0} (h0 : Keep b s0 x0) : Keep b s0 (recheckEntries x0) := by
  unfold recheckEntries
  repeat' (first
    | (with_reducible assumption)
    | (with_reducible apply Keep.ite <;> with_reducible intro _)
    | (with_reducible apply setCause_keep)
    | (with_reducible apply State.count_keep)
    | (with_reducible apply emptyEntry_keep)
    | (with_reducible apply State.event_keep)
    | (with_reducible apply Keep.foldl <;> [intro _ _ _; skip])
    | (with_reducible intro _)
    | (extract_lets)
    | split
    | (dsimp +zetaDelta only))

/-! ### Mirror -/

theorem State.setRed_keep {x0 x1} (h0 : Keep b s0 x0) : Keep b s0 (State.setRed x0 x1) := by
  unfold State.setRed
  repeat' (first
    | (with_reducible assumption)
    | (with_reducible apply Keep.ite <;> with_reducible intro _)
    | (with_reducible intro _)
    | (with_reducible apply Keep.mk; with_reducible first | apply Kept.of | (apply Kept.send; apply Kept.of)))

theorem setRole_keep {x0 x1 x2} (h0 : Keep b s0 x0) : Keep b s0 (setRole x0 x1 x2) := by
  unfold setRole
  repeat' (first
    | (with_reducible assumption)
    | (with_reducible apply Keep.ite <;> with_reducible intro _)
    | (with_reducible apply State.event_keep)
    | (with_reducible apply setCause_keep)
    | (with_reducible apply State.setFld_keep)
    | (with_reducible intro _)
    | (extract_lets)
    | split)

theorem tkoFails_keep {x0 x1 x2} (h0 : Keep b s0 x0) : Keep b s0 (tkoFails x0 x1 x2) := by
  unfold tkoFails
  repeat' (first
    | (with_reducible assumption)
    | (with_reducible apply Keep.ite <;> with_reducible intro _)
    | (with_reducible apply setRole_keep)
    | (with_reducible apply State.setRed_keep)
    | (with_reducible apply State.setFld_keep)
    | (with_reducible apply setCause_keep)
    | (with_reducible apply State.event_keep)
    | (with_reducible apply State.count_keep)
    | (with_reducible intro _)
    | (extract_lets)
    | (with_reducible apply Keep.mk; with_reducible first | apply Kept.of | (apply Kept.send; apply Kept.of)))

theorem tkoTrigger_keep {x0 x1 x2} (h0 : Keep b s0 x0) : Keep b s0 (tkoTrigger x0 x1 x2) := by
  unfold tkoTrigger
  repeat' (first
    | (with_reducible assumption)
    | (with_reducible apply Keep.ite <;> with_reducible intro _)
    | (with_reducible apply tkoFails_keep)
    | (with_reducible apply State.setRed_keep)
    | (with_reducible intro _)
    | split
    | (with_reducible apply Keep.mk; with_reducible first | apply Kept.of | (apply Kept.send; apply Kept.of)))

theorem sendItem_keep {x0 x1} (h0 : Keep b s0 x0) : Keep b s0 (sendItem x0 x1) := by
  unfold sendItem
  repeat' (first
    | (with_reducible assumption)
    | (with_reducible apply Keep.ite <;> with_reducible intro _)
    | (with_reducible apply State.setRed_keep)
    | (with_reducible apply State.send_keep)
    | (with_reducible apply State.count_keep)
    | (with_reducible intro _)
    | (extract_lets)
    | (with_reducible apply Keep.mk; with_reducible first | apply Kept.of | (apply Kept.send; apply Kept.of)))

theorem mirrorFlush_keep {x0} (h0 : Keep b s0 x0) : Keep b s0 (mirrorFlush x0) := by
  unfold mirrorFlush
  repeat' (first
    | (with_reducible assumption)
    | (with_reducible apply Keep.ite <;> with_reducible intro _)
    | (with_reducible apply sendItem_keep)
    | (with_reducible apply State.setRed_keep)
    | (with_reducible apply Keep.foldl <;> [intro _ _ _; skip])
    | (with_reducible intro _)
    | (extract_lets)
    | split
    | (with_reducible apply Keep.mk; with_reducible first | apply Kept.of | (apply Kept.send; apply Kept.of)))

/-! ### Mailbox -/

theorem putMbx_keep {x0 x1 x2 x3} (h0 : Keep b s0 x0) : Keep b s0 (putMbx x0 x1 x2 x3) := by
  unfold putMbx
  repeat' (first
    | (with_reducible assumption)
    | (with_reducible apply Keep.ite <;> with_reducible intro _)
    | (with_reducible apply pSet_keep)
    | (with_reducible intro _))

theorem putDl_keep {x0 x1} (h0 : Keep b s0 x0) : Keep b s0 (putDl x0 x1) := by
  unfold putDl
  repeat' (first
    | (with_reducible assumption)
    | (with_reducible apply Keep.ite <;> with_reducible intro _)
    | (with_reducible intro _)
    | split
    | (with_reducible apply Keep.mk; with_reducible first | apply Kept.of | (apply Kept.send; apply Kept.of)))

theorem enterMailbox_keep {x0 x1 x2 x3 y0 y1} (h0 : Keep b s0 x0) (e : enterMailbox x0 x1 x2 x3 = some (y0, y1)) : Keep b s0 y1 := by
  have h := takeCells_keep (x1 := true) (x2 := max 1 (ceilDiv x3.payload.length 256)) h0
  unfold enterMailbox at e
  dsimp only at e
  split at e
  · cases e
  · split at e
    · cases e
    · simp only [Option.some.injEq, Prod.mk.injEq] at e
      obtain ⟨-, rfl⟩ := e
      exact pSetBits_keep (putMbx_keep (Keep.mk (Kept.of h)))

theorem putMessage_keep {x0 x1 x2} (h0 : Keep b s0 x0) : Keep b s0 (putMessage x0 x1 x2) := by
  unfold putMessage
  repeat' (first
    | (with_reducible assumption)
    | (with_reducible apply Keep.ite <;> with_reducible intro _)
    | (with_reducible refine enterMailbox_keep ?_ (by with_reducible assumption))
    | (with_reducible intro _)
    | split
    | (with_reducible apply Keep.ite_fst <;> with_reducible intro _)
    | (with_reducible apply Keep.ite_snd <;> with_reducible intro _)
    | (with_reducible apply Keep.foldl_snd <;> [intro _ _ _; skip])
    | (with_reducible apply Keep.foldl_fst <;> [intro _ _ _; skip])
    | (dsimp +zetaDelta only)
    | (with_reducible apply Keep.mk; with_reducible first | apply Kept.of | (apply Kept.send; apply Kept.of)))

theorem enterHeld_keep {x0 x1} (h0 : Keep b s0 x0) : Keep b s0 (enterHeld x0 x1) := by
  unfold enterHeld
  repeat' (first
    | (with_reducible assumption)
    | (with_reducible apply Keep.ite <;> with_reducible intro _)
    | (with_reducible refine enterMailbox_keep ?_ (by with_reducible assumption))
    | (with_reducible intro _)
    | split
    | (with_reducible apply Keep.ite_fst <;> with_reducible intro _)
    | (with_reducible apply Keep.ite_snd <;> with_reducible intro _)
    | (with_reducible apply Keep.foldl_snd <;> [intro _ _ _; skip])
    | (with_reducible apply Keep.foldl_fst <;> [intro _ _ _; skip])
    | (dsimp +zetaDelta only)
    | (with_reducible apply Keep.mk; with_reducible first | apply Kept.of | (apply Kept.send; apply Kept.of)))

theorem shiftMailbox_keep {x0 x1 x2 x3} (h0 : Keep b s0 x0) : Keep b s0 (shiftMailbox x0 x1 x2 x3) := by
  induction x3 generalizing x0 x2 with
  | zero => exact h0
  | succ n ih => exact ih (putMbx_keep h0)

theorem leaveMailbox_keep {x0 x1 x2} (h0 : Keep b s0 x0) : Keep b s0 (leaveMailbox x0 x1 x2) := by
  unfold leaveMailbox
  repeat' (first
    | (with_reducible assumption)
    | (with_reducible apply Keep.ite <;> with_reducible intro _)
    | (with_reducible apply freeCells_keep)
    | (with_reducible apply pSetBits_keep)
    | (with_reducible apply pSet_keep)
    | (with_reducible apply shiftMailbox_keep)
    | (with_reducible apply enterHeld_keep)
    | (with_reducible intro _)
    | (extract_lets)
    | split
    | (dsimp +zetaDelta only)
    | (with_reducible apply Keep.mk; with_reducible first | apply Kept.of | (apply Kept.send; apply Kept.of)))

theorem setBand_keep {x0 x1 x2 x3} (h0 : Keep b s0 x0) : Keep b s0 (setBand x0 x1 x2 x3) := by
  unfold setBand
  repeat' (first
    | (with_reducible assumption)
    | (with_reducible apply Keep.ite <;> with_reducible intro _)
    | (with_reducible intro _)
    | (with_reducible apply Keep.mk; with_reducible first | apply Kept.of | (apply Kept.send; apply Kept.of)))

theorem takeFcnt_keep {x0 x1 c y} (h0 : Keep b s0 x0) (e : takeFcnt x0 x1 = .taken c y) : Keep b s0 y := by
  unfold takeFcnt at e
  extract_lets at e
  split at e
  · cases e
  · split at e
    · split at e
      · cases e
      · simp only [Counter.taken.injEq] at e
        obtain ⟨-, rfl⟩ := e
        exact pSet_keep (mirrorFlush_keep (pSet_keep h0))
    · simp only [Counter.taken.injEq] at e
      obtain ⟨-, rfl⟩ := e
      exact pSet_keep h0

theorem protectFrame_keep {x0 x1 x2 x3 x4 x5 x6} (h0 : Keep b s0 x0) : Keep b s0 (protectFrame x0 x1 x2 x3 x4 x5 x6).2.2 := by
  unfold protectFrame
  split
  · exact h0
  · exact h0
  · rename_i ht
    extract_lets
    split
    · rename_i hc
      exact Keep.snd (ccmProtect_keep (takeFcnt_keep h0 ht)) hc
    · rename_i hc
      exact Keep.snd (ccmProtect_keep (takeFcnt_keep h0 ht)) hc

theorem ownFrame_keep {x0 x1 x2 x3 x4} (h0 : Keep b s0 x0) : Keep b s0 (ownFrame x0 x1 x2 x3 x4).2.2 := by
  unfold ownFrame
  repeat' (first
    | (with_reducible assumption)
    | (with_reducible apply Keep.ite <;> with_reducible intro _)
    | (with_reducible apply denied_keep)
    | (with_reducible apply protectFrame_keep)
    | (with_reducible apply putMbx_keep)
    | (with_reducible apply putDl_keep)
    | (with_reducible intro _)
    | (extract_lets)
    | split
    | (with_reducible refine Keep.snd ?_ (by with_reducible assumption))
    | (with_reducible refine Keep.trd ?_ (by with_reducible assumption))
    | (with_reducible apply Keep.ite_fst <;> with_reducible intro _)
    | (with_reducible apply Keep.ite_snd <;> with_reducible intro _)
    | (with_reducible apply Keep.foldl_snd <;> [intro _ _ _; skip])
    | (with_reducible apply Keep.foldl_fst <;> [intro _ _ _; skip])
    | (dsimp +zetaDelta only)
    | (with_reducible apply Keep.mk; with_reducible first | apply Kept.of | (apply Kept.send; apply Kept.of)))

theorem carriedFrame_keep {x0 x1} (h0 : Keep b s0 x0) : Keep b s0 (carriedFrame x0 x1).2.2 := by
  unfold carriedFrame
  repeat' (first
    | (with_reducible assumption)
    | (with_reducible apply Keep.ite <;> with_reducible intro _)
    | (with_reducible apply ownFrame_keep)
    | (with_reducible intro _)
    | (with_reducible refine Keep.snd ?_ (by with_reducible assumption))
    | (with_reducible refine Keep.trd ?_ (by with_reducible assumption))
    | (with_reducible apply Keep.ite_fst <;> with_reducible intro _)
    | (with_reducible apply Keep.ite_snd <;> with_reducible intro _)
    | (with_reducible apply Keep.foldl_snd <;> [intro _ _ _; skip])
    | (with_reducible apply Keep.foldl_fst <;> [intro _ _ _; skip]))

theorem usedUp_keep {x0 x1} (h1 : Keep b s0 x1.2.2) : Keep b s0 (usedUp x0 x1).2.2 := h1

theorem buildHead_keep {x0 x1 x2} (h0 : Keep b s0 x0) : Keep b s0 (buildHead x0 x1 x2).2.2 := by
  unfold buildHead
  split
  · exact h0
  · split
    · dsimp only
      split
      · exact usedUp_keep (ownFrame_keep (usedUp_keep (carriedFrame_keep h0)))
      · exact usedUp_keep (carriedFrame_keep h0)
    · exact usedUp_keep (ownFrame_keep h0)
    · exact usedUp_keep (ownFrame_keep h0)

theorem placeRelay_keep {x0 x1} (h0 : Keep b s0 x0) : Keep b s0 (placeRelay x0 x1) := by
  unfold placeRelay
  repeat' (first
    | (with_reducible assumption)
    | (with_reducible apply Keep.ite <;> with_reducible intro _)
    | (with_reducible refine enterMailbox_keep ?_ (by with_reducible assumption))
    | (with_reducible intro _)
    | (extract_lets)
    | split
    | (with_reducible apply Keep.ite_fst <;> with_reducible intro _)
    | (with_reducible apply Keep.ite_snd <;> with_reducible intro _)
    | (with_reducible apply Keep.foldl_snd <;> [intro _ _ _; skip])
    | (with_reducible apply Keep.foldl_fst <;> [intro _ _ _; skip])
    | (dsimp +zetaDelta only)
    | (with_reducible apply Keep.mk; with_reducible first | apply Kept.of | (apply Kept.send; apply Kept.of)))

theorem genMessage_keep {x0 x1 x2} (h0 : Keep b s0 x0) : Keep b s0 (genMessage x0 x1 x2) := by
  unfold genMessage
  repeat' (first
    | (with_reducible assumption)
    | (with_reducible apply Keep.ite <;> with_reducible intro _)
    | (with_reducible apply placeRelay_keep)
    | (with_reducible apply putMessage_keep)
    | (with_reducible intro _))

theorem placeBehind_keep {x0 x1} (h0 : Keep b s0 x0) : Keep b s0 (placeBehind x0 x1) := by
  unfold placeBehind
  repeat' (first
    | (with_reducible assumption)
    | (with_reducible apply Keep.ite <;> with_reducible intro _)
    | (with_reducible apply placeRelay_keep)
    | (with_reducible apply Keep.foldl <;> [intro _ _ _; skip])
    | (with_reducible intro _)
    | split)

/-! ### Parcel -/

theorem emptyMcast_keep {x0 x1 x2} (h0 : Keep b s0 x0) : Keep b s0 (emptyMcast x0 x1 x2) := by
  unfold emptyMcast
  repeat' (first
    | (with_reducible assumption)
    | (with_reducible apply Keep.ite <;> with_reducible intro _)
    | (with_reducible apply emptyEntry_keep)
    | (with_reducible apply Keep.foldl <;> [intro _ _ _; skip])
    | (with_reducible intro _)
    | (extract_lets)
    | split)

theorem refreshSessions_keep {x0} (h0 : Keep b s0 x0) : Keep b s0 (refreshSessions x0) := by
  unfold refreshSessions
  repeat' (first
    | (with_reducible assumption)
    | (with_reducible apply Keep.ite <;> with_reducible intro _)
    | (with_reducible apply State.setFld_keep)
    | (with_reducible apply Keep.foldl <;> [intro _ _ _; skip])
    | (with_reducible intro _)
    | (extract_lets))

theorem endSession_keep {x0 x1 x2 x3} (h0 : Keep b s0 x0) : Keep b s0 (endSession x0 x1 x2 x3) := by
  unfold endSession
  repeat' (first
    | (with_reducible assumption)
    | (with_reducible apply Keep.ite <;> with_reducible intro _)
    | (with_reducible apply emptyMcast_keep)
    | (with_reducible apply genMessage_keep)
    | (with_reducible apply refreshSessions_keep)
    | (with_reducible apply State.setFld_keep)
    | (with_reducible apply setCause_keep)
    | (with_reducible apply State.event_keep)
    | (with_reducible apply Keep.foldl <;> [intro _ _ _; skip])
    | (with_reducible intro _)
    | (extract_lets)
    | split
    | (with_reducible apply Keep.mk; with_reducible first | apply Kept.of | (apply Kept.send; apply Kept.of)))

theorem editUpdLane_keep {x0 x1 x2 x3} (h0 : Keep b s0 x0) : Keep b s0 (editUpdLane x0 x1 x2 x3) := by
  unfold editUpdLane
  repeat' (first
    | (with_reducible assumption)
    | (with_reducible apply Keep.ite <;> with_reducible intro _)
    | (with_reducible intro _)
    | split
    | (with_reducible apply Keep.mk; with_reducible first | apply Kept.of | (apply Kept.send; apply Kept.of)))

theorem laneFinal_keep {x0 x1 x2} (h0 : Keep b s0 x0) : Keep b s0 (laneFinal x0 x1 x2) := by
  unfold laneFinal
  repeat' (first
    | (with_reducible assumption)
    | (with_reducible apply Keep.ite <;> with_reducible intro _)
    | (with_reducible apply editUpdLane_keep)
    | (with_reducible apply emptyMcast_keep)
    | (with_reducible intro _)
    | (with_reducible apply Keep.mk; with_reducible first | apply Kept.of | (apply Kept.send; apply Kept.of)))

theorem afterFinal_keep {x0 x1 x2} (h0 : Keep b s0 x0) : Keep b s0 (afterFinal x0 x1 x2) := by
  unfold afterFinal
  repeat' (first
    | (with_reducible assumption)
    | (with_reducible apply Keep.ite <;> with_reducible intro _)
    | (with_reducible apply laneFinal_keep)
    | (with_reducible apply endSession_keep)
    | (with_reducible intro _)
    | (extract_lets)
    | split)

theorem setUstate_keep {x0 x1 x2} (h0 : Keep b s0 x0) : Keep b s0 (setUstate x0 x1 x2) := by
  unfold setUstate
  repeat' (first
    | (with_reducible assumption)
    | (with_reducible apply Keep.ite <;> with_reducible intro _)
    | (with_reducible apply State.setFld_keep)
    | (with_reducible apply pSetBits_keep)
    | (with_reducible apply State.event_keep)
    | (with_reducible apply setCause_keep)
    | (with_reducible apply afterFinal_keep)
    | (with_reducible intro _)
    | (extract_lets)
    | split
    | (dsimp +zetaDelta only))

theorem clearHistory_keep {x0 x1} (h0 : Keep b s0 x0) : Keep b s0 (clearHistory x0 x1) := by
  unfold clearHistory
  repeat' (first
    | (with_reducible assumption)
    | (with_reducible apply Keep.ite <;> with_reducible intro _)
    | (with_reducible apply pSet_keep)
    | (with_reducible intro _))

theorem adapted_keep {x0 x1} (h0 : Keep b s0 x0) : Keep b s0 (adapted x0 x1) := by
  unfold adapted
  repeat' (first
    | (with_reducible assumption)
    | (with_reducible apply Keep.ite <;> with_reducible intro _)
    | (with_reducible apply clearHistory_keep)
    | (with_reducible apply pSet_keep)
    | (with_reducible intro _))

theorem setAdaptState_keep {x0 x1 x2} (h0 : Keep b s0 x0) : Keep b s0 (setAdaptState x0 x1 x2) := by
  unfold setAdaptState
  repeat' (first
    | (with_reducible assumption)
    | (with_reducible apply Keep.ite <;> with_reducible intro _)
    | (with_reducible apply pSetBits_keep)
    | (with_reducible intro _))

theorem rateSet_keep {x0 x1 x2 x3} (h0 : Keep b s0 x0) : Keep b s0 (rateSet x0 x1 x2 x3) := by
  unfold rateSet
  repeat' (first
    | (with_reducible assumption)
    | (with_reducible apply Keep.ite <;> with_reducible intro _)
    | (with_reducible apply setAdaptState_keep)
    | (with_reducible apply genMessage_keep)
    | (with_reducible intro _))

theorem dropAssign_keep {x0 x1} (h0 : Keep b s0 x0) : Keep b s0 (dropAssign x0 x1) := by
  unfold dropAssign
  repeat' (first
    | (with_reducible assumption)
    | (with_reducible apply Keep.ite <;> with_reducible intro _)
    | (with_reducible intro _)
    | (with_reducible apply Keep.mk; with_reducible first | apply Kept.of | (apply Kept.send; apply Kept.of)))

theorem dropAssignMessages_keep {x0 x1} (h0 : Keep b s0 x0) : Keep b s0 (dropAssignMessages x0 x1) := by
  unfold dropAssignMessages
  repeat' (first
    | (with_reducible assumption)
    | (with_reducible apply Keep.ite <;> with_reducible intro _)
    | (with_reducible apply leaveMailbox_keep)
    | (with_reducible apply Keep.foldl <;> [intro _ _ _; skip])
    | (with_reducible intro _)
    | (extract_lets)
    | split
    | (with_reducible refine Keep.snd ?_ (by with_reducible assumption))
    | (with_reducible refine Keep.trd ?_ (by with_reducible assumption))
    | (dsimp +zetaDelta only)
    | (with_reducible apply Keep.mk; with_reducible first | apply Kept.of | (apply Kept.send; apply Kept.of)))

theorem writeEntries_keep {x0 x1} (h0 : Keep b s0 x0) : Keep b s0 (writeEntries x0 x1) := by
  unfold writeEntries
  repeat' (first
    | (with_reducible assumption)
    | (with_reducible apply Keep.ite <;> with_reducible intro _)
    | (with_reducible apply putEntry_keep)
    | (with_reducible apply Keep.foldl <;> [intro _ _ _; skip])
    | (with_reducible intro _)
    | (extract_lets)
    | (with_reducible apply Keep.mk; with_reducible first | apply Kept.of | (apply Kept.send; apply Kept.of)))

theorem emptyNode_keep {x0 x1} (h0 : Keep b s0 x0) : Keep b s0 (emptyNode x0 x1) := by
  unfold emptyNode
  repeat' (first
    | (with_reducible assumption)
    | (with_reducible apply Keep.ite <;> with_reducible intro _)
    | (with_reducible apply emptyEntry_keep)
    | (with_reducible apply Keep.foldl <;> [intro _ _ _; skip])
    | (with_reducible intro _))

theorem reportDl_keep {x0 x1 x2 x3 x4} (h0 : Keep b s0 x0) : Keep b s0 (reportDl x0 x1 x2 x3 x4) := by
  unfold reportDl
  repeat' (first
    | (with_reducible assumption)
    | (with_reducible apply Keep.ite <;> with_reducible intro _)
    | (with_reducible apply finish_keep)
    | (with_reducible apply State.event_keep)
    | (with_reducible intro _)
    | split
    | (dsimp +zetaDelta only))

theorem rememberEnded_keep {x0 x1 x2 x3} (h0 : Keep b s0 x0) : Keep b s0 (rememberEnded x0 x1 x2 x3) := by
  unfold rememberEnded
  repeat' (first
    | (with_reducible assumption)
    | (with_reducible apply Keep.ite <;> with_reducible intro _)
    | (with_reducible intro _)
    | split
    | (dsimp +zetaDelta only)
    | (with_reducible apply Keep.mk; with_reducible first | apply Kept.of | (apply Kept.send; apply Kept.of)))

theorem lateSuccess_keep {x0 x1 x2} (h0 : Keep b s0 x0) : Keep b s0 (lateSuccess x0 x1 x2) := by
  unfold lateSuccess
  repeat' (first
    | (with_reducible assumption)
    | (with_reducible apply Keep.ite <;> with_reducible intro _)
    | (with_reducible apply setCause_keep)
    | (with_reducible apply State.event_keep)
    | (with_reducible apply State.count_keep)
    | (with_reducible intro _))

theorem messageEnds_keep {x0 x1 x2 x3} (h0 : Keep b s0 x0) : Keep b s0 (messageEnds x0 x1 x2 x3) := by
  unfold messageEnds
  repeat' (first
    | (with_reducible assumption)
    | (with_reducible apply Keep.ite <;> with_reducible intro _)
    | (with_reducible apply pSet_keep)
    | (with_reducible apply setAdaptState_keep)
    | (with_reducible apply adapted_keep)
    | (with_reducible apply dropAssign_keep)
    | (with_reducible apply writeEntries_keep)
    | (with_reducible apply emptyNode_keep)
    | (with_reducible apply rateSet_keep)
    | (with_reducible apply pSetBits_keep)
    | (with_reducible apply setUstate_keep)
    | (with_reducible intro _)
    | (extract_lets)
    | split
    | (dsimp +zetaDelta only)
    | (with_reducible apply Keep.mk; with_reducible first | apply Kept.of | (apply Kept.send; apply Kept.of)))

theorem dlClose_keep {x0 x1 x2 x3 x4} (h0 : Keep b s0 x0) : Keep b s0 (dlClose x0 x1 x2 x3 x4) := by
  unfold dlClose
  repeat' (first
    | (with_reducible assumption)
    | (with_reducible apply Keep.ite <;> with_reducible intro _)
    | (with_reducible apply leaveMailbox_keep)
    | (with_reducible apply rememberEnded_keep)
    | (with_reducible apply reportDl_keep)
    | (with_reducible apply pSet_keep)
    | (with_reducible apply pCount_keep)
    | (with_reducible apply State.count_keep)
    | (with_reducible apply messageEnds_keep)
    | (with_reducible intro _)
    | (extract_lets)
    | split
    | (dsimp +zetaDelta only)
    | (with_reducible apply Keep.mk; with_reducible first | apply Kept.of | (apply Kept.send; apply Kept.of)))

theorem endAll_keep {x0 x1 x2 x3} (h0 : Keep b s0 x0) : Keep b s0 (endAll x0 x1 x2 x3).2 := by
  induction x3 generalizing x0 with
  | zero => exact h0
  | succ n ih =>
    unfold endAll
    split
    · exact h0
    · exact ih (dlClose_keep h0)

theorem dropUnit_keep {x0 x1} (h0 : Keep b s0 x0) : Keep b s0 (dropUnit x0 x1) := by
  unfold dropUnit
  repeat' (first
    | (with_reducible assumption)
    | (with_reducible apply Keep.ite <;> with_reducible intro _)
    | (with_reducible apply putDl_keep)
    | (with_reducible apply leaveMailbox_keep)
    | (with_reducible intro _)
    | split
    | (with_reducible apply Keep.mk; with_reducible first | apply Kept.of | (apply Kept.send; apply Kept.of)))

theorem dropAll_keep {x0 x1} (h0 : Keep b s0 x0) : Keep b s0 (dropAll x0 x1).2 := by
  unfold dropAll
  repeat' (first
    | (with_reducible assumption)
    | (with_reducible apply Keep.ite <;> with_reducible intro _)
    | (with_reducible apply dropUnit_keep)
    | (with_reducible apply endAll_keep)
    | (with_reducible intro _)
    | (extract_lets)
    | (with_reducible refine Keep.snd ?_ (by with_reducible assumption))
    | (with_reducible refine Keep.trd ?_ (by with_reducible assumption))
    | (with_reducible apply Keep.ite_fst <;> with_reducible intro _)
    | (with_reducible apply Keep.ite_snd <;> with_reducible intro _)
    | (with_reducible apply Keep.foldl_snd <;> [intro _ _ _; skip])
    | (with_reducible apply Keep.foldl_fst <;> [intro _ _ _; skip])
    | (with_reducible apply Keep.mk; with_reducible first | apply Kept.of | (apply Kept.send; apply Kept.of))
    | (dsimp +zetaDelta only))

theorem routeCommit_keep {x0 x1} (h0 : Keep b s0 x0) : Keep b s0 (routeCommit x0 x1) := by
  unfold routeCommit
  repeat' (first
    | (with_reducible assumption)
    | (with_reducible apply Keep.ite <;> with_reducible intro _)
    | (with_reducible apply State.ramStore_keep)
    | (with_reducible intro _)
    | (extract_lets))

theorem countChildren_keep {x0 x1} (h0 : Keep b s0 x0) : Keep b s0 (countChildren x0 x1) := by
  unfold countChildren
  repeat' (first
    | (with_reducible assumption)
    | (with_reducible apply Keep.ite <;> with_reducible intro _)
    | (with_reducible apply routeCommit_keep)
    | (with_reducible apply State.ramStore_keep)
    | (with_reducible intro _)
    | (extract_lets)
    | split)

theorem childrenLost_keep {x0 x1 x2} (h0 : Keep b s0 x0) : Keep b s0 (childrenLost x0 x1 x2) := by
  induction x2 generalizing x0 x1 with
  | zero => exact h0
  | succ n ih =>
    unfold childrenLost
    refine Keep.foldl (fun t p ht => ih (countChildren_keep (setCause_keep (State.event_keep ?_)))) h0
    exact dropAll_keep (pSetBits_keep (pSetBits_keep ht))

theorem childLost_keep {x0 x1 x2} (h0 : Keep b s0 x0) : Keep b s0 (childLost x0 x1 x2) := by
  unfold childLost
  repeat' (first
    | (with_reducible assumption)
    | (with_reducible apply Keep.ite <;> with_reducible intro _)
    | (with_reducible apply pSetBits_keep)
    | (with_reducible apply dropAll_keep)
    | (with_reducible apply setCause_keep)
    | (with_reducible apply State.event_keep)
    | (with_reducible apply childrenLost_keep)
    | (with_reducible apply countChildren_keep)
    | (with_reducible intro _)
    | (extract_lets)
    | (with_reducible refine Keep.snd ?_ (by with_reducible assumption))
    | (with_reducible refine Keep.trd ?_ (by with_reducible assumption)))

theorem dlShut_keep {x0 x1 x2 x3 x4} (h0 : Keep b s0 x0) : Keep b s0 (dlShut x0 x1 x2 x3 x4) := by
  unfold dlShut
  repeat' (first
    | (with_reducible assumption)
    | (with_reducible apply Keep.ite <;> with_reducible intro _)
    | (with_reducible apply dlClose_keep)
    | (with_reducible apply dropUnit_keep)
    | (with_reducible apply childrenLost_keep)
    | (with_reducible intro _)
    | (extract_lets)
    | split
    | (dsimp +zetaDelta only))

theorem placeNext_keep {x0 x1} (h0 : Keep b s0 x0) : Keep b s0 (placeNext x0 x1) := by
  unfold placeNext
  repeat' (first
    | (with_reducible assumption)
    | (with_reducible apply Keep.ite <;> with_reducible intro _)
    | (with_reducible apply placeBehind_keep)
    | (with_reducible apply placeRelay_keep)
    | (with_reducible intro _)
    | (extract_lets)
    | split
    | (dsimp +zetaDelta only))

theorem dlEnds_keep {x0 x1 x2 x3 x4} (h0 : Keep b s0 x0) : Keep b s0 (dlEnds x0 x1 x2 x3 x4) := by
  unfold dlEnds
  repeat' (first
    | (with_reducible assumption)
    | (with_reducible apply Keep.ite <;> with_reducible intro _)
    | (with_reducible apply placeNext_keep)
    | (with_reducible apply dlShut_keep)
    | (with_reducible intro _)
    | (extract_lets)
    | split
    | (dsimp +zetaDelta only))

theorem carriageEnds_keep {x0 x1 x2 x3} (h0 : Keep b s0 x0) : Keep b s0 (carriageEnds x0 x1 x2 x3) := by
  unfold carriageEnds
  repeat' (first
    | (with_reducible assumption)
    | (with_reducible apply Keep.ite <;> with_reducible intro _)
    | (with_reducible apply dlEnds_keep)
    | (with_reducible apply placeRelay_keep)
    | (with_reducible intro _)
    | split
    | (dsimp +zetaDelta only))

theorem dlOutcome_keep {x0 x1 x2 x3 x4} (h0 : Keep b s0 x0) : Keep b s0 (dlOutcome x0 x1 x2 x3 x4) := by
  unfold dlOutcome
  apply placeNext_keep
  split
  · exact carriageEnds_keep (dlShut_keep h0)
  · exact dlShut_keep h0

theorem releaseNode_keep {x0 x1} (h0 : Keep b s0 x0) : Keep b s0 (releaseNode x0 x1) := by
  unfold releaseNode
  repeat' (first
    | (with_reducible assumption)
    | (with_reducible apply Keep.ite <;> with_reducible intro _)
    | (with_reducible apply dropAssign_keep)
    | (with_reducible apply emptyNode_keep)
    | (with_reducible apply pSetBits_keep)
    | (with_reducible apply dropAll_keep)
    | (with_reducible apply setAdaptState_keep)
    | (with_reducible apply setUstate_keep)
    | (with_reducible apply childrenLost_keep)
    | (with_reducible apply setCause_keep)
    | (with_reducible apply State.event_keep)
    | (with_reducible apply State.count_keep)
    | (with_reducible intro _)
    | (extract_lets)
    | split
    | (with_reducible refine Keep.snd ?_ (by with_reducible assumption))
    | (with_reducible refine Keep.trd ?_ (by with_reducible assumption))
    | (with_reducible apply Keep.mk; with_reducible first | apply Kept.of | (apply Kept.send; apply Kept.of)))

theorem editHead_keep {x0 x1 x2 x3} (h0 : Keep b s0 x0) : Keep b s0 (editHead x0 x1 x2 x3) := by
  unfold editHead
  repeat' (first
    | (with_reducible assumption)
    | (with_reducible apply Keep.ite <;> with_reducible intro _)
    | (with_reducible apply putMbx_keep)
    | (with_reducible apply putDl_keep)
    | (with_reducible intro _)
    | split
    | (dsimp +zetaDelta only))

theorem routeCount_keep {x0 x1 x2} (h0 : Keep b s0 x0) : Keep b s0 (routeCount x0 x1 x2) := by
  unfold routeCount
  repeat' (first
    | (with_reducible assumption)
    | (with_reducible apply Keep.ite <;> with_reducible intro _)
    | (with_reducible apply routeCommit_keep)
    | (with_reducible apply State.ramStore_keep)
    | (with_reducible intro _)
    | (extract_lets)
    | (dsimp +zetaDelta only))

theorem attemptMade_keep {x0 x1 x2 x3 x4 x5 x6 x7} (h0 : Keep b s0 x0) : Keep b s0 (attemptMade x0 x1 x2 x3 x4 x5 x6 x7) := by
  unfold attemptMade
  dsimp only
  split
  · exact h0
  · refine Keep.ite (fun _ => ?_) (fun _ => Keep.foldl (fun _ _ h => routeCount_keep h) ?_) <;>
    · split <;> [skip; refine editHead_keep (State.count_keep ?_)] <;>
        exact editHead_keep (Keep.ite (fun _ => h0) (fun _ => State.count_keep h0))

theorem attemptEnds_keep {x0 x1 x2} (h0 : Keep b s0 x0) : Keep b s0 (attemptEnds x0 x1 x2) := by
  unfold attemptEnds
  repeat' (first
    | (with_reducible assumption)
    | (with_reducible apply Keep.ite <;> with_reducible intro _)
    | (with_reducible apply dlOutcome_keep)
    | (with_reducible intro _)
    | split
    | (dsimp +zetaDelta only))

theorem windowCloses_keep {x0 x1} (h0 : Keep b s0 x0) : Keep b s0 (windowCloses x0 x1) := by
  unfold windowCloses
  split
  · exact h0
  · exact Keep.ite (fun _ => h0)
      (fun _ => Keep.ite (fun _ => dlOutcome_keep (putDl_keep h0)) (fun _ => placeRelay_keep (putDl_keep h0)))

theorem dlAcked_keep {x0 x1 x2} (h0 : Keep b s0 x0) : Keep b s0 (dlAcked x0 x1 x2) := by
  unfold dlAcked
  split
  · refine Keep.ite (fun _ => dlOutcome_keep h0) (fun _ => ?_)
    split
    · exact lateSuccess_keep (Keep.mk (Kept.of h0))
    · exact h0
  · split
    · exact lateSuccess_keep (Keep.mk (Kept.of h0))
    · exact h0

/-! ### Lanes -/

theorem tuneSub_keep {x0 x1} (h0 : Keep b s0 x0) : Keep b s0 (tuneSub x0 x1) := by
  unfold tuneSub
  repeat' (first
    | (with_reducible assumption)
    | (with_reducible apply Keep.ite <;> with_reducible intro _)
    | (with_reducible apply State.event_keep)
    | (with_reducible apply State.setLane_keep)
    | (with_reducible apply Keep.foldl <;> [intro _ _ _; skip])
    | (with_reducible intro _)
    | (extract_lets)
    | split
    | (with_reducible apply Keep.mk; with_reducible first | apply Kept.of | (apply Kept.send; apply Kept.of)))

theorem lockedOn_keep {x0 x1} (h0 : Keep b s0 x0) : Keep b s0 (lockedOn x0 x1) := by
  unfold lockedOn
  repeat' (first
    | (with_reducible assumption)
    | (with_reducible apply Keep.ite <;> with_reducible intro _)
    | (with_reducible apply settle_keep)
    | (with_reducible apply tuneSub_keep)
    | (with_reducible apply State.setFld_keep)
    | (with_reducible apply setWork_keep)
    | (with_reducible intro _))

theorem stored_keep {x0 x1 x2 x3} (h0 : Keep b s0 x0) : Keep b s0 (stored x0 x1 x2 x3) := by
  unfold stored
  repeat' (first
    | (with_reducible assumption)
    | (with_reducible apply Keep.ite <;> with_reducible intro _)
    | (with_reducible apply clearAnchors_keep)
    | (with_reducible apply storeResult_keep)
    | (with_reducible apply Keep.foldl <;> [intro _ _ _; skip])
    | (with_reducible intro _)
    | (extract_lets)
    | split
    | (dsimp +zetaDelta only))

theorem startupEvent_keep {x0 x1 x2 x3} (h0 : Keep b s0 x0) : Keep b s0 (startupEvent x0 x1 x2 x3) := by
  unfold startupEvent
  repeat' (first
    | (with_reducible assumption)
    | (with_reducible apply Keep.ite <;> with_reducible intro _)
    | (with_reducible apply State.event_keep)
    | (with_reducible intro _)
    | (extract_lets)
    | split)

theorem startupDone_keep {x0 x1} (h0 : Keep b s0 x0) : Keep b s0 (startupDone x0 x1) := by
  unfold startupDone
  repeat' (first
    | (with_reducible assumption)
    | (with_reducible apply Keep.ite <;> with_reducible intro _)
    | (with_reducible apply startupEvent_keep)
    | (with_reducible apply State.setFld_keep)
    | (with_reducible apply setCause_keep)
    | (with_reducible apply listen_keep)
    | (with_reducible apply enterState_keep)
    | (with_reducible apply setWork_keep)
    | (with_reducible intro _)
    | (extract_lets))

theorem storeGains_keep {x0 x1 x2} (h0 : Keep b s0 x0) : Keep b s0 (storeGains x0 x1 x2) := by
  unfold storeGains
  repeat' (first
    | (with_reducible assumption)
    | (with_reducible apply Keep.ite <;> with_reducible intro _)
    | (with_reducible apply setAnalog_keep)
    | (with_reducible apply State.setLane_keep)
    | (with_reducible apply Keep.foldl <;> [intro _ _ _; skip])
    | (with_reducible intro _)
    | (extract_lets)
    | (with_reducible apply Keep.mk; with_reducible first | apply Kept.of | (apply Kept.send; apply Kept.of)))

theorem startupFails_keep {x0 x1 x2} (h0 : Keep b s0 x0) : Keep b s0 (startupFails x0 x1 x2) := by
  unfold startupFails
  repeat' (first
    | (with_reducible assumption)
    | (with_reducible apply Keep.ite <;> with_reducible intro _)
    | (with_reducible apply calFails_keep)
    | (with_reducible apply State.setLane_keep)
    | (with_reducible intro _)
    | (extract_lets)
    | (dsimp +zetaDelta only)
    | (with_reducible apply Keep.mk; with_reducible first | apply Kept.of | (apply Kept.send; apply Kept.of)))

theorem storeChannels_keep {x0 x1 x2 x3} (h0 : Keep b s0 x0) : Keep b s0 (storeChannels x0 x1 x2 x3) := by
  unfold storeChannels
  repeat' (first
    | (with_reducible assumption)
    | (with_reducible apply Keep.ite <;> with_reducible intro _)
    | (with_reducible apply startupFails_keep)
    | (with_reducible apply stored_keep)
    | (with_reducible apply Keep.foldl <;> [intro _ _ _; skip])
    | (with_reducible intro _)
    | (extract_lets)
    | split
    | (dsimp +zetaDelta only)
    | (with_reducible apply Keep.mk; with_reducible first | apply Kept.of | (apply Kept.send; apply Kept.of))
    | (with_reducible refine Keep.snd ?_ (by with_reducible assumption))
    | (with_reducible refine Keep.trd ?_ (by with_reducible assumption)))

theorem kindWord_keep {x0 x1 x2 x3 x4} (h0 : Keep b s0 x0) : Keep b s0 (kindWord x0 x1 x2 x3 x4) := by
  unfold kindWord
  repeat' (first
    | (with_reducible assumption)
    | (with_reducible apply Keep.ite <;> with_reducible intro _)
    | (with_reducible apply setAnalog_keep)
    | (with_reducible apply State.setLane_keep)
    | (with_reducible intro _)
    | (extract_lets)
    | (with_reducible apply Keep.mk; with_reducible first | apply Kept.of | (apply Kept.send; apply Kept.of)))

theorem kindDone_keep {x0 x1 x2 x3} (h0 : Keep b s0 x0) : Keep b s0 (kindDone x0 x1 x2 x3) := by
  unfold kindDone
  repeat' (first
    | (with_reducible assumption)
    | (with_reducible apply Keep.ite <;> with_reducible intro _)
    | (with_reducible apply setWork_keep)
    | (with_reducible apply setCause_keep)
    | (with_reducible apply startupEvent_keep)
    | (with_reducible apply storeChannels_keep)
    | (with_reducible apply kindWord_keep)
    | (with_reducible apply setAnalog_keep)
    | (with_reducible apply startupDone_keep)
    | (with_reducible apply State.setLane_keep)
    | (with_reducible apply toOff_keep)
    | (with_reducible apply storeGains_keep)
    | (with_reducible intro _)
    | (extract_lets)
    | split
    | (dsimp +zetaDelta only)
    | (with_reducible apply Keep.mk; with_reducible first | apply Kept.of | (apply Kept.send; apply Kept.of)))

theorem execStartupCalKindDone_keep {x0 x1 x2} (h2 : Keep b s0 x2) : KeepR b s0 (execStartupCalKindDone x0 x1 x2) := by
  unfold execStartupCalKindDone
  repeat' (first
    | (with_reducible assumption)
    | (with_reducible apply KeepR.next)
    | (with_reducible apply KeepR.ite <;> with_reducible intro _)
    | (with_reducible apply Keep.ite <;> with_reducible intro _)
    | (with_reducible apply kindDone_keep)
    | (with_reducible intro _)
    | split
    | (dsimp +zetaDelta only))

theorem kindAbandoned_keep {x0 x1 x2 x3} (h0 : Keep b s0 x0) : Keep b s0 (kindAbandoned x0 x1 x2 x3) := by
  unfold kindAbandoned
  repeat' (first
    | (with_reducible assumption)
    | (with_reducible apply Keep.ite <;> with_reducible intro _)
    | (with_reducible apply storeChannels_keep)
    | (with_reducible apply State.setLane_keep)
    | (with_reducible apply startupFails_keep)
    | (with_reducible apply kindDone_keep)
    | (with_reducible intro _)
    | (extract_lets)
    | split
    | (dsimp +zetaDelta only)
    | (with_reducible apply Keep.mk; with_reducible first | apply Kept.of | (apply Kept.send; apply Kept.of)))

theorem execStartupCalAbandon_keep {x0 x1 x2} (h2 : Keep b s0 x2) : KeepR b s0 (execStartupCalAbandon x0 x1 x2) := by
  unfold execStartupCalAbandon
  repeat' (first
    | (with_reducible assumption)
    | (with_reducible apply KeepR.next)
    | (with_reducible apply KeepR.ite <;> with_reducible intro _)
    | (with_reducible apply Keep.ite <;> with_reducible intro _)
    | (with_reducible apply kindAbandoned_keep)
    | (with_reducible intro _)
    | split
    | (dsimp +zetaDelta only)
    | (with_reducible apply Keep.mk; with_reducible first | apply Kept.of | (apply Kept.send; apply Kept.of)))

theorem execLaneEnableWrite_keep {x0 x1 x2 x3} (h3 : Keep b s0 x3) : KeepR b s0 (execLaneEnableWrite x0 x1 x2 x3) := by
  unfold execLaneEnableWrite
  repeat' (first
    | (with_reducible assumption)
    | (with_reducible apply KeepR.next)
    | (with_reducible apply KeepR.ite <;> with_reducible intro _)
    | (with_reducible apply Keep.ite <;> with_reducible intro _)
    | (with_reducible apply gateWrite_keep)
    | (with_reducible apply laneCtrlWrite_keep)
    | (with_reducible intro _))

theorem execLaneStandbyReady_keep {x0 x1} (h1 : Keep b s0 x1) : KeepR b s0 (execLaneStandbyReady x0 x1) := by
  unfold execLaneStandbyReady
  repeat' (first
    | (with_reducible assumption)
    | (with_reducible apply KeepR.next)
    | (with_reducible apply KeepR.ite <;> with_reducible intro _)
    | (with_reducible apply Keep.ite <;> with_reducible intro _)
    | (with_reducible apply listen_keep)
    | (with_reducible apply enterState_keep)
    | (with_reducible intro _)
    | split)

theorem execKeyStoreLoad_keep {x0 x1} (h1 : Keep b s0 x1) : KeepR b s0 (execKeyStoreLoad x0 x1) := by
  unfold execKeyStoreLoad
  repeat' (first
    | (with_reducible assumption)
    | (with_reducible apply KeepR.next)
    | (with_reducible apply KeepR.ite <;> with_reducible intro _)
    | (with_reducible apply Keep.ite <;> with_reducible intro _)
    | (with_reducible apply keyStoreLoad_keep)
    | (with_reducible apply laneOn_keep)
    | (with_reducible apply Keep.foldl <;> [intro _ _ _; skip])
    | (with_reducible intro _)
    | (extract_lets)
    | split)

theorem execSynthLockDone_keep {x0 x1} (h1 : Keep b s0 x1) : KeepR b s0 (execSynthLockDone x0 x1) := by
  unfold execSynthLockDone
  repeat' (first
    | (with_reducible assumption)
    | (with_reducible apply KeepR.next)
    | (with_reducible apply KeepR.ite <;> with_reducible intro _)
    | (with_reducible apply Keep.ite <;> with_reducible intro _)
    | (with_reducible apply lockedOn_keep)
    | (with_reducible intro _)
    | split
    | (dsimp +zetaDelta only))

theorem lockFail_keep {x0 x1 x2} (h0 : Keep b s0 x0) : Keep b s0 (lockFail x0 x1 x2) := by
  unfold lockFail
  repeat' (first
    | (with_reducible assumption)
    | (with_reducible apply Keep.ite <;> with_reducible intro _)
    | (with_reducible apply setAnalog_keep)
    | (with_reducible apply setCause_keep)
    | (with_reducible apply State.count_keep)
    | (with_reducible apply hopTo_keep)
    | (with_reducible intro _)
    | (extract_lets))

theorem execLockFail_keep {x0 x1} (h1 : Keep b s0 x1) : KeepR b s0 (execLockFail x0 x1) := by
  unfold execLockFail
  repeat' (first
    | (with_reducible assumption)
    | (with_reducible apply KeepR.next)
    | (with_reducible apply KeepR.ite <;> with_reducible intro _)
    | (with_reducible apply Keep.ite <;> with_reducible intro _)
    | (with_reducible apply lockFail_keep)
    | (with_reducible intro _)
    | split
    | (dsimp +zetaDelta only))

theorem coldFailed_keep {x0 x1 x2 x3} (h0 : Keep b s0 x0) : Keep b s0 (coldFailed x0 x1 x2 x3) := by
  unfold coldFailed
  repeat' (first
    | (with_reducible assumption)
    | (with_reducible apply Keep.ite <;> with_reducible intro _)
    | (with_reducible apply lockFail_keep)
    | (with_reducible apply tryGap_keep)
    | (with_reducible apply calFails_keep)
    | (with_reducible apply enterState_keep)
    | (with_reducible apply State.setLane_keep)
    | (with_reducible intro _)
    | (extract_lets)
    | split
    | (with_reducible apply Keep.mk; with_reducible first | apply Kept.of | (apply Kept.send; apply Kept.of))
    | (dsimp +zetaDelta only))

theorem execColdCalDone_keep {x0 x1 x2} (h2 : Keep b s0 x2) : KeepR b s0 (execColdCalDone x0 x1 x2) := by
  unfold execColdCalDone
  repeat' (first
    | (with_reducible assumption)
    | (with_reducible apply KeepR.next)
    | (with_reducible apply KeepR.ite <;> with_reducible intro _)
    | (with_reducible apply Keep.ite <;> with_reducible intro _)
    | (with_reducible apply lockedOn_keep)
    | (with_reducible apply stored_keep)
    | (with_reducible apply coldFailed_keep)
    | (with_reducible apply backFromGap_keep)
    | (with_reducible apply calFails_keep)
    | (with_reducible intro _)
    | split
    | (dsimp +zetaDelta only))

theorem execAnchorDue_keep {x0 x1 x2} (h2 : Keep b s0 x2) : KeepR b s0 (execAnchorDue x0 x1 x2) := by
  unfold execAnchorDue
  repeat' (first
    | (with_reducible assumption)
    | (with_reducible apply KeepR.next)
    | (with_reducible apply KeepR.ite <;> with_reducible intro _)
    | (with_reducible apply Keep.ite <;> with_reducible intro _)
    | (with_reducible apply setAnchorBit_keep)
    | (with_reducible apply Keep.foldl <;> [intro _ _ _; skip])
    | (with_reducible intro _)
    | (extract_lets)
    | split)

theorem execAnchorOverdue_keep {x0 x1 x2} (h2 : Keep b s0 x2) : KeepR b s0 (execAnchorOverdue x0 x1 x2) := by
  unfold execAnchorOverdue
  repeat' (first
    | (with_reducible assumption)
    | (with_reducible apply KeepR.next)
    | (with_reducible apply KeepR.ite <;> with_reducible intro _)
    | (with_reducible apply Keep.ite <;> with_reducible intro _)
    | (with_reducible apply setAnchorBit_keep)
    | (with_reducible apply setCause_keep)
    | (with_reducible apply State.event_keep)
    | (with_reducible apply Keep.foldl <;> [intro _ _ _; skip])
    | (with_reducible intro _)
    | (extract_lets)
    | split)

theorem bgSliceStart_keep {x0 x1} (h0 : Keep b s0 x0) : Keep b s0 (bgSliceStart x0 x1) := by
  unfold bgSliceStart
  repeat' (first
    | (with_reducible assumption)
    | (with_reducible apply Keep.ite <;> with_reducible intro _)
    | (with_reducible apply beginGap_keep)
    | (with_reducible apply coxCharge_keep)
    | (with_reducible intro _)
    | (extract_lets)
    | split
    | (dsimp +zetaDelta only)
    | (with_reducible apply Keep.mk; with_reducible first | apply Kept.of | (apply Kept.send; apply Kept.of)))

theorem execBgSliceStart_keep {x0 x1} (h1 : Keep b s0 x1) : KeepR b s0 (execBgSliceStart x0 x1) := by
  unfold execBgSliceStart
  repeat' (first
    | (with_reducible assumption)
    | (with_reducible apply KeepR.next)
    | (with_reducible apply KeepR.ite <;> with_reducible intro _)
    | (with_reducible apply Keep.ite <;> with_reducible intro _)
    | (with_reducible apply bgSliceStart_keep)
    | (with_reducible intro _))

theorem sliceDone_keep {x0 x1 x2 x3} (h0 : Keep b s0 x0) : Keep b s0 (sliceDone x0 x1 x2 x3) := by
  unfold sliceDone
  repeat' (first
    | (with_reducible assumption)
    | (with_reducible apply Keep.ite <;> with_reducible intro _)
    | (with_reducible apply backFromGap_keep)
    | (with_reducible apply State.count_keep)
    | (with_reducible apply stored_keep)
    | (with_reducible apply calFails_keep)
    | (with_reducible intro _)
    | split
    | (dsimp +zetaDelta only))

theorem calStepStart_keep {x0 x1} (h0 : Keep b s0 x0) : Keep b s0 (calStepStart x0 x1) := by
  unfold calStepStart
  repeat' (first
    | (with_reducible assumption)
    | (with_reducible apply Keep.ite <;> with_reducible intro _)
    | (with_reducible apply jobStep_keep)
    | (with_reducible apply beginGap_keep)
    | (with_reducible apply coxCharge_keep)
    | (with_reducible intro _)
    | (extract_lets)
    | split
    | (dsimp +zetaDelta only)
    | (with_reducible apply Keep.mk; with_reducible first | apply Kept.of | (apply Kept.send; apply Kept.of)))

theorem execLaneCalStepStart_keep {x0 x1} (h1 : Keep b s0 x1) : KeepR b s0 (execLaneCalStepStart x0 x1) := by
  unfold execLaneCalStepStart
  repeat' (first
    | (with_reducible assumption)
    | (with_reducible apply KeepR.next)
    | (with_reducible apply KeepR.ite <;> with_reducible intro _)
    | (with_reducible apply Keep.ite <;> with_reducible intro _)
    | (with_reducible apply calStepStart_keep)
    | (with_reducible intro _))

theorem execLaneCalStepDone_keep {x0 x1 x2} (h2 : Keep b s0 x2) : KeepR b s0 (execLaneCalStepDone x0 x1 x2) := by
  unfold execLaneCalStepDone
  repeat' (first
    | (with_reducible assumption)
    | (with_reducible apply KeepR.next)
    | (with_reducible apply KeepR.ite <;> with_reducible intro _)
    | (with_reducible apply Keep.ite <;> with_reducible intro _)
    | (with_reducible apply backFromGap_keep)
    | (with_reducible apply jobStep_keep)
    | (with_reducible apply stored_keep)
    | (with_reducible apply calFails_keep)
    | (with_reducible intro _)
    | split
    | (dsimp +zetaDelta only))

theorem execTxChannelCheck_keep {x0 x1 x2} (h2 : Keep b s0 x2) : KeepR b s0 (execTxChannelCheck x0 x1 x2) := by
  unfold execTxChannelCheck
  repeat' (first
    | (with_reducible assumption)
    | (with_reducible apply KeepR.next)
    | (with_reducible apply KeepR.ite <;> with_reducible intro _)
    | (with_reducible apply Keep.ite <;> with_reducible intro _)
    | (with_reducible apply tryGap_keep)
    | (with_reducible apply State.setLane_keep)
    | (with_reducible intro _)
    | split
    | (with_reducible apply Keep.mk; with_reducible first | apply Kept.of | (apply Kept.send; apply Kept.of))
    | (extract_lets))

theorem execAdcClip_keep {x0 x1} (h1 : Keep b s0 x1) : KeepR b s0 (execAdcClip x0 x1) := by
  unfold execAdcClip
  repeat' (first
    | (with_reducible assumption)
    | (with_reducible apply KeepR.next)
    | (with_reducible apply KeepR.ite <;> with_reducible intro _)
    | (with_reducible apply Keep.ite <;> with_reducible intro _)
    | (with_reducible apply setGain_keep)
    | (with_reducible apply setCause_keep)
    | (with_reducible apply State.count_keep)
    | (with_reducible intro _)
    | (extract_lets)
    | split)

theorem execAgcWindow_keep {x0 x1 x2} (h2 : Keep b s0 x2) : KeepR b s0 (execAgcWindow x0 x1 x2) := by
  unfold execAgcWindow
  repeat' (first
    | (with_reducible assumption)
    | (with_reducible apply KeepR.next)
    | (with_reducible apply KeepR.ite <;> with_reducible intro _)
    | (with_reducible apply Keep.ite <;> with_reducible intro _)
    | (with_reducible apply setGain_keep)
    | (with_reducible intro _)
    | (extract_lets)
    | split)

theorem execRfBlankAssert_keep {x0 x1} (h1 : Keep b s0 x1) : KeepR b s0 (execRfBlankAssert x0 x1) := by
  unfold execRfBlankAssert
  repeat' (first
    | (with_reducible assumption)
    | (with_reducible apply KeepR.next)
    | (with_reducible apply KeepR.ite <;> with_reducible intro _)
    | (with_reducible apply Keep.ite <;> with_reducible intro _)
    | (with_reducible apply blankAssert_keep)
    | (with_reducible intro _)
    | split)

theorem execRfBlankRelease_keep {x0 x1} (h1 : Keep b s0 x1) : KeepR b s0 (execRfBlankRelease x0 x1) := by
  unfold execRfBlankRelease
  repeat' (first
    | (with_reducible assumption)
    | (with_reducible apply KeepR.next)
    | (with_reducible apply KeepR.ite <;> with_reducible intro _)
    | (with_reducible apply Keep.ite <;> with_reducible intro _)
    | (with_reducible apply blankRelease_keep)
    | (with_reducible intro _)
    | split)

/-! ### Chirp -/

theorem setCtx_keep {x0 x1 x2 x3} (h0 : Keep b s0 x0) : Keep b s0 (setCtx x0 x1 x2 x3) := by
  unfold setCtx
  repeat' (first
    | (with_reducible assumption)
    | (with_reducible apply Keep.ite <;> with_reducible intro _)
    | (with_reducible apply State.setLane_keep)
    | (with_reducible intro _)
    | (with_reducible apply Keep.mk; with_reducible first | apply Kept.of | (apply Kept.send; apply Kept.of)))

theorem freeCtx_keep {x0 x1 x2} (h0 : Keep b s0 x0) : Keep b s0 (freeCtx x0 x1 x2) := by
  unfold freeCtx
  repeat' (first
    | (with_reducible assumption)
    | (with_reducible apply Keep.ite <;> with_reducible intro _)
    | (with_reducible apply State.setLane_keep)
    | (with_reducible intro _)
    | (with_reducible apply Keep.mk; with_reducible first | apply Kept.of | (apply Kept.send; apply Kept.of)))

theorem endCtx_keep {x0 x1 x2 x3} (h0 : Keep b s0 x0) : Keep b s0 (endCtx x0 x1 x2 x3) := by
  unfold endCtx
  repeat' (first
    | (with_reducible assumption)
    | (with_reducible apply Keep.ite <;> with_reducible intro _)
    | (with_reducible apply tryGap_keep)
    | (with_reducible apply State.count_keep)
    | (with_reducible apply freeCtx_keep)
    | (with_reducible intro _))

theorem dropDetection_keep {x0 x1 x2} (h0 : Keep b s0 x0) : Keep b s0 (dropDetection x0 x1 x2) := by
  unfold dropDetection
  repeat' (first
    | (with_reducible assumption)
    | (with_reducible apply Keep.ite <;> with_reducible intro _)
    | (with_reducible apply setCause_keep)
    | (with_reducible apply State.count_keep)
    | (with_reducible apply State.setLane_keep)
    | (with_reducible apply State.event_keep)
    | (with_reducible intro _)
    | (extract_lets)
    | split
    | (with_reducible apply Keep.mk; with_reducible first | apply Kept.of | (apply Kept.send; apply Kept.of)))

theorem post_keep {x0 x1 x2} (h0 : Keep b s0 x0) : Keep b s0 (post x0 x1 x2) := by
  unfold post
  repeat' (first
    | (with_reducible assumption)
    | (with_reducible apply Keep.ite <;> with_reducible intro _)
    | (with_reducible apply setCause_keep)
    | (with_reducible apply State.count_keep)
    | (with_reducible apply dropDetection_keep)
    | (with_reducible apply State.setLane_keep)
    | (with_reducible intro _)
    | (extract_lets)
    | split
    | (dsimp +zetaDelta only)
    | (with_reducible apply Keep.mk; with_reducible first | apply Kept.of | (apply Kept.send; apply Kept.of)))

theorem detect_keep {x0 x1 x2 x3 x4 x5} (h0 : Keep b s0 x0) : Keep b s0 (detect x0 x1 x2 x3 x4 x5) := by
  unfold detect
  repeat' (first
    | (with_reducible assumption)
    | (with_reducible apply Keep.ite <;> with_reducible intro _)
    | (with_reducible apply post_keep)
    | (with_reducible intro _)
    | (extract_lets)
    | split
    | (with_reducible apply Keep.mk; with_reducible first | apply Kept.of | (apply Kept.send; apply Kept.of))
    | (dsimp +zetaDelta only))

theorem execDetection_keep {x0 x1 x2 x3 x4 x5} (h5 : Keep b s0 x5) : KeepR b s0 (execDetection x0 x1 x2 x3 x4 x5) := by
  unfold execDetection
  repeat' (first
    | (with_reducible assumption)
    | (with_reducible apply KeepR.next)
    | (with_reducible apply KeepR.ite <;> with_reducible intro _)
    | (with_reducible apply Keep.ite <;> with_reducible intro _)
    | (with_reducible apply detect_keep)
    | (with_reducible intro _)
    | (with_reducible apply Keep.mk; with_reducible first | apply Kept.of | (apply Kept.send; apply Kept.of)))

theorem assign_keep {x0 x1 x2 x3} (h0 : Keep b s0 x0) : Keep b s0 (assign x0 x1 x2 x3) := by
  unfold assign
  repeat' (first
    | (with_reducible assumption)
    | (with_reducible apply Keep.ite <;> with_reducible intro _)
    | (with_reducible apply State.setLane_keep)
    | (with_reducible apply setCtx_keep)
    | (with_reducible intro _)
    | (extract_lets)
    | (with_reducible apply Keep.mk; with_reducible first | apply Kept.of | (apply Kept.send; apply Kept.of)))

theorem assignNext_keep {x0 x1} (h0 : Keep b s0 x0) : Keep b s0 (assignNext x0 x1) := by
  unfold assignNext
  repeat' (first
    | (with_reducible assumption)
    | (with_reducible apply Keep.ite <;> with_reducible intro _)
    | (with_reducible apply State.setLane_keep)
    | (with_reducible apply assign_keep)
    | (with_reducible apply dropDetection_keep)
    | (with_reducible apply freeCtx_keep)
    | (with_reducible apply drawNat_keep)
    | (with_reducible intro _)
    | (extract_lets)
    | split
    | (with_reducible refine Keep.snd ?_ (by with_reducible assumption))
    | (with_reducible refine Keep.trd ?_ (by with_reducible assumption))
    | (dsimp +zetaDelta only)
    | (with_reducible apply Keep.mk; with_reducible first | apply Kept.of | (apply Kept.send; apply Kept.of)))

theorem execContextAssign_keep {x0 x1} (h1 : Keep b s0 x1) : KeepR b s0 (execContextAssign x0 x1) := by
  unfold execContextAssign
  repeat' (first
    | (with_reducible assumption)
    | (with_reducible apply KeepR.next)
    | (with_reducible apply KeepR.ite <;> with_reducible intro _)
    | (with_reducible apply Keep.ite <;> with_reducible intro _)
    | (with_reducible apply assignNext_keep)
    | (with_reducible intro _)
    | split)

theorem syncFound_keep {x0 x1 x2 x3 x4 x5 x6 x7} (h0 : Keep b s0 x0) : Keep b s0 (syncFound x0 x1 x2 x3 x4 x5 x6 x7) := by
  unfold syncFound
  repeat' (first
    | (with_reducible assumption)
    | (with_reducible apply Keep.ite <;> with_reducible intro _)
    | (with_reducible apply endCtx_keep)
    | (with_reducible apply setCtx_keep)
    | (with_reducible intro _)
    | (extract_lets)
    | split
    | (dsimp +zetaDelta only)
    | (with_reducible apply Keep.mk; with_reducible first | apply Kept.of | (apply Kept.send; apply Kept.of)))

theorem execSyncWordFound_keep {x0 x1 x2 x3 x4 x5 x6 x7} (h7 : Keep b s0 x7) : KeepR b s0 (execSyncWordFound x0 x1 x2 x3 x4 x5 x6 x7) := by
  unfold execSyncWordFound
  repeat' (first
    | (with_reducible assumption)
    | (with_reducible apply KeepR.next)
    | (with_reducible apply KeepR.ite <;> with_reducible intro _)
    | (with_reducible apply Keep.ite <;> with_reducible intro _)
    | (with_reducible apply syncFound_keep)
    | (with_reducible intro _)
    | split)

theorem execSyncMiss_keep {x0 x1 x2} (h2 : Keep b s0 x2) : KeepR b s0 (execSyncMiss x0 x1 x2) := by
  unfold execSyncMiss
  repeat' (first
    | (with_reducible assumption)
    | (with_reducible apply KeepR.next)
    | (with_reducible apply KeepR.ite <;> with_reducible intro _)
    | (with_reducible apply Keep.ite <;> with_reducible intro _)
    | (with_reducible apply endCtx_keep)
    | (with_reducible intro _)
    | split
    | (dsimp +zetaDelta only))

theorem blankLoss_keep {x0 x1 x2} (h0 : Keep b s0 x0) : Keep b s0 (blankLoss x0 x1 x2) := by
  unfold blankLoss
  repeat' (first
    | (with_reducible assumption)
    | (with_reducible apply Keep.ite <;> with_reducible intro _)
    | (with_reducible apply setCause_keep)
    | (with_reducible apply State.count_keep)
    | (with_reducible intro _)
    | split)

theorem handOff_keep {x0 x1 x2 x3} (h0 : Keep b s0 x0) : Keep b s0 (handOff x0 x1 x2 x3) := by
  unfold handOff
  repeat' (first
    | (with_reducible assumption)
    | (with_reducible apply Keep.ite <;> with_reducible intro _)
    | (with_reducible apply endCtx_keep)
    | (with_reducible apply setCause_keep)
    | (with_reducible apply State.count_keep)
    | (with_reducible apply State.setLane_keep)
    | (with_reducible intro _)
    | (extract_lets)
    | split
    | (with_reducible apply Keep.mk; with_reducible first | apply Kept.of | (apply Kept.send; apply Kept.of)))

theorem headerValues_keep {x0 x1 x2} (h0 : Keep b s0 x0) : Keep b s0 (headerValues x0 x1 x2).2 := by
  induction x2 generalizing x0 with
  | nil => exact h0
  | cons _ _ ih =>
    unfold headerValues
    refine ih ?_
    split
    · exact h0
    · split
      · exact h0
      · exact drawNat_keep (x1 := 2) h0

theorem headerDecide_keep {x0 x1 x2 x3 x4} (h0 : Keep b s0 x0) : Keep b s0 (headerDecide x0 x1 x2 x3 x4) := by
  unfold headerDecide
  repeat' (first
    | (with_reducible assumption)
    | (with_reducible apply Keep.ite <;> with_reducible intro _)
    | (with_reducible apply headerValues_keep)
    | (with_reducible apply blankLoss_keep)
    | (with_reducible apply endCtx_keep)
    | (with_reducible apply setCtx_keep)
    | (with_reducible apply handOff_keep)
    | (with_reducible intro _)
    | (extract_lets)
    | split
    | (dsimp +zetaDelta only)
    | (with_reducible apply Keep.mk; with_reducible first | apply Kept.of | (apply Kept.send; apply Kept.of))
    | (with_reducible refine Keep.snd ?_ (by with_reducible assumption))
    | (with_reducible refine Keep.trd ?_ (by with_reducible assumption)))

theorem execHeaderDecide_keep {x0 x1 x2 x3 x4} (h4 : Keep b s0 x4) : KeepR b s0 (execHeaderDecide x0 x1 x2 x3 x4) := by
  unfold execHeaderDecide
  repeat' (first
    | (with_reducible assumption)
    | (with_reducible apply KeepR.next)
    | (with_reducible apply KeepR.ite <;> with_reducible intro _)
    | (with_reducible apply Keep.ite <;> with_reducible intro _)
    | (with_reducible apply headerDecide_keep)
    | (with_reducible intro _)
    | split)

theorem deliver_keep {x0 x1 x2 x3} (h0 : Keep b s0 x0) : Keep b s0 (deliver x0 x1 x2 x3) := by
  unfold deliver
  repeat' (first
    | (with_reducible assumption)
    | (with_reducible apply Keep.ite <;> with_reducible intro _)
    | (with_reducible apply State.setLane_keep)
    | (with_reducible intro _)
    | (extract_lets)
    | (with_reducible apply Keep.mk; with_reducible first | apply Kept.of | (apply Kept.send; apply Kept.of)))

theorem decodeNibbles_keep {x0 x1 x2} (h0 : Keep b s0 x0) : Keep b s0 (decodeNibbles x0 x1 x2).2 := by
  induction x2 generalizing x0 with
  | nil => exact h0
  | cons _ _ ih =>
    unfold decodeNibbles
    refine ih ?_
    split
    · exact h0
    · exact drawNat_keep h0

theorem cssReceived_keep {x0 x1 x2 x3 x4} (h0 : Keep b s0 x0) : Keep b s0 (cssReceived x0 x1 x2 x3 x4).2 := decodeNibbles_keep h0

theorem lbbCtrlWrite_keep {x0 x1 x2 x3 x4} (h0 : Keep b s0 x0) : Keep b s0 (lbbCtrlWrite x0 x1 x2 x3 x4) := by
  unfold lbbCtrlWrite
  repeat' (first
    | (with_reducible assumption)
    | (with_reducible apply Keep.ite <;> with_reducible intro _)
    | (with_reducible apply bankHalts_keep)
    | (with_reducible apply writeFields_keep)
    | (with_reducible apply State.setLane_keep)
    | (with_reducible intro _)
    | (extract_lets)
    | split
    | (dsimp +zetaDelta only)
    | (with_reducible apply Keep.mk; with_reducible first | apply Kept.of | (apply Kept.send; apply Kept.of)))

theorem execLbbRxEnWrite_keep {x0 x1 x2 x3} (h3 : Keep b s0 x3) : KeepR b s0 (execLbbRxEnWrite x0 x1 x2 x3) := by
  unfold execLbbRxEnWrite
  repeat' (first
    | (with_reducible assumption)
    | (with_reducible apply KeepR.next)
    | (with_reducible apply KeepR.ite <;> with_reducible intro _)
    | (with_reducible apply Keep.ite <;> with_reducible intro _)
    | (with_reducible apply lbbCtrlWrite_keep)
    | (with_reducible apply gateWrite_keep)
    | (with_reducible intro _))

theorem subchWrite_keep {x0 x1 x2 x3 x4 x5} (h0 : Keep b s0 x0) : Keep b s0 (subchWrite x0 x1 x2 x3 x4 x5) := by
  unfold subchWrite
  repeat' (first
    | (with_reducible assumption)
    | (with_reducible apply Keep.ite <;> with_reducible intro _)
    | (with_reducible apply writeFields_keep)
    | (with_reducible apply State.setLane_keep)
    | (with_reducible intro _)
    | (extract_lets)
    | split
    | (with_reducible apply Keep.mk; with_reducible first | apply Kept.of | (apply Kept.send; apply Kept.of)))

/-! ### Ofdm -/

theorem peerMessage_keep {x0 x1 x2} (h0 : Keep b s0 x0) : Keep b s0 (peerMessage x0 x1 x2) := by
  unfold peerMessage
  repeat' (first
    | (with_reducible assumption)
    | (with_reducible apply Keep.ite <;> with_reducible intro _)
    | (with_reducible apply genMessage_keep)
    | (with_reducible intro _)
    | split
    | (dsimp +zetaDelta only))

theorem retire_keep {x0 x1} (h0 : Keep b s0 x0) : Keep b s0 (retire x0 x1) := by
  unfold retire
  repeat' (first
    | (with_reducible assumption)
    | (with_reducible apply Keep.ite <;> with_reducible intro _)
    | (with_reducible apply pSetBits_keep)
    | (with_reducible intro _)
    | (extract_lets)
    | split
    | (dsimp +zetaDelta only)
    | (with_reducible apply Keep.mk; with_reducible first | apply Kept.of | (apply Kept.send; apply Kept.of)))

theorem execRetireTimeout_keep {x0 x1} (h1 : Keep b s0 x1) : KeepR b s0 (execRetireTimeout x0 x1) := by
  unfold execRetireTimeout
  repeat' (first
    | (with_reducible assumption)
    | (with_reducible apply KeepR.next)
    | (with_reducible apply KeepR.ite <;> with_reducible intro _)
    | (with_reducible apply Keep.ite <;> with_reducible intro _)
    | (with_reducible apply retire_keep)
    | (with_reducible intro _)
    | split)

theorem freeMeas_keep {x0 x1 x2} (h0 : Keep b s0 x0) : Keep b s0 (freeMeas x0 x1 x2) := by
  unfold freeMeas
  repeat' (first
    | (with_reducible assumption)
    | (with_reducible apply Keep.ite <;> with_reducible intro _)
    | (with_reducible apply State.setLane_keep)
    | (with_reducible apply pSetBits_keep)
    | (with_reducible intro _)
    | (extract_lets)
    | split
    | (dsimp +zetaDelta only)
    | (with_reducible apply Keep.mk; with_reducible first | apply Kept.of | (apply Kept.send; apply Kept.of)))

theorem mapDefer_keep {x0 x1} (h0 : Keep b s0 x0) : Keep b s0 (mapDefer x0 x1) := by
  unfold mapDefer
  repeat' (first
    | (with_reducible assumption)
    | (with_reducible apply Keep.ite <;> with_reducible intro _)
    | (with_reducible apply setCause_keep)
    | (with_reducible apply State.count_keep)
    | (with_reducible intro _))

theorem issueMap_keep {x0 x1 x2 x3 x4 x5 x6} (h0 : Keep b s0 x0) : Keep b s0 (issueMap x0 x1 x2 x3 x4 x5 x6) := by
  unfold issueMap
  repeat' (first
    | (with_reducible assumption)
    | (with_reducible apply Keep.ite <;> with_reducible intro _)
    | (with_reducible apply freeMeas_keep)
    | (with_reducible apply mapDefer_keep)
    | (with_reducible apply State.setLane_keep)
    | (with_reducible apply State.ramStore_keep)
    | (with_reducible apply pSet_keep)
    | (with_reducible apply genMessage_keep)
    | (with_reducible apply State.event_keep)
    | (with_reducible apply setCause_keep)
    | (with_reducible apply State.count_keep)
    | (with_reducible apply Keep.foldl <;> [intro _ _ _; skip])
    | (with_reducible intro _)
    | (extract_lets)
    | split
    | (dsimp +zetaDelta only)
    | (with_reducible apply Keep.mk; with_reducible first | apply Kept.of | (apply Kept.send; apply Kept.of)))

theorem measDone_keep {x0 x1 x2 x3 x4} (h0 : Keep b s0 x0) : Keep b s0 (measDone x0 x1 x2 x3 x4) := by
  unfold measDone
  repeat' (first
    | (with_reducible assumption)
    | (with_reducible apply Keep.ite <;> with_reducible intro _)
    | (with_reducible apply issueMap_keep)
    | (with_reducible apply peerMessage_keep)
    | (with_reducible apply freeMeas_keep)
    | (with_reducible apply setCause_keep)
    | (with_reducible apply State.event_keep)
    | (with_reducible apply Keep.foldl <;> [intro _ _ _; skip])
    | (with_reducible intro _)
    | (extract_lets)
    | split)

theorem measEval_keep {x0 x1} (h0 : Keep b s0 x0) : Keep b s0 (measEval x0 x1) := by
  unfold measEval
  repeat' (first
    | (with_reducible assumption)
    | (with_reducible apply Keep.ite <;> with_reducible intro _)
    | (with_reducible apply issueMap_keep)
    | (with_reducible apply mapDefer_keep)
    | (with_reducible apply State.setLane_keep)
    | (with_reducible apply genMessage_keep)
    | (with_reducible apply pSetBits_keep)
    | (with_reducible intro _)
    | (extract_lets)
    | split
    | (dsimp +zetaDelta only)
    | (with_reducible apply Keep.mk; with_reducible first | apply Kept.of | (apply Kept.send; apply Kept.of)))

theorem measTimeout_keep {x0 x1 x2} (h0 : Keep b s0 x0) : Keep b s0 (measTimeout x0 x1 x2) := by
  unfold measTimeout
  repeat' (first
    | (with_reducible assumption)
    | (with_reducible apply Keep.ite <;> with_reducible intro _)
    | (with_reducible apply State.count_keep)
    | (with_reducible apply freeMeas_keep)
    | (with_reducible apply State.event_keep)
    | (with_reducible apply setCause_keep)
    | (with_reducible apply peerMessage_keep)
    | (with_reducible intro _)
    | (extract_lets)
    | split
    | (dsimp +zetaDelta only))

theorem execMeasTimeout_keep {x0 x1 x2} (h2 : Keep b s0 x2) : KeepR b s0 (execMeasTimeout x0 x1 x2) := by
  unfold execMeasTimeout
  repeat' (first
    | (with_reducible assumption)
    | (with_reducible apply KeepR.next)
    | (with_reducible apply KeepR.ite <;> with_reducible intro _)
    | (with_reducible apply Keep.ite <;> with_reducible intro _)
    | (with_reducible apply measTimeout_keep)
    | (with_reducible intro _)
    | split)

theorem ofdmEnd_keep {x0 x1 x2 x3} (h0 : Keep b s0 x0) : Keep b s0 (ofdmEnd x0 x1 x2 x3) := by
  unfold ofdmEnd
  repeat' (first
    | (with_reducible assumption)
    | (with_reducible apply Keep.ite <;> with_reducible intro _)
    | (with_reducible apply tryGap_keep)
    | (with_reducible apply State.count_keep)
    | (with_reducible apply State.setLane_keep)
    | (with_reducible apply setCause_keep)
    | (with_reducible intro _)
    | (extract_lets)
    | split
    | (with_reducible apply Keep.mk; with_reducible first | apply Kept.of | (apply Kept.send; apply Kept.of))
    | (dsimp +zetaDelta only))

theorem mapUnknown_keep {x0 x1 x2} (h0 : Keep b s0 x0) : Keep b s0 (mapUnknown x0 x1 x2) := by
  unfold mapUnknown
  repeat' (first
    | (with_reducible assumption)
    | (with_reducible apply Keep.ite <;> with_reducible intro _)
    | (with_reducible apply setCause_keep)
    | (with_reducible apply ofdmEnd_keep)
    | (with_reducible apply State.event_keep)
    | (with_reducible apply genMessage_keep)
    | (with_reducible intro _)
    | (extract_lets)
    | split
    | (dsimp +zetaDelta only)
    | (with_reducible apply Keep.mk; with_reducible first | apply Kept.of | (apply Kept.send; apply Kept.of))
    | (with_reducible apply Keep.foldl <;> [intro _ _ _; skip]))

theorem fcDecoded_keep {x0 x1 x2} (h0 : Keep b s0 x0) : Keep b s0 (fcDecoded x0 x1 x2) := by
  unfold fcDecoded
  repeat' (first
    | (with_reducible assumption)
    | (with_reducible apply Keep.ite <;> with_reducible intro _)
    | (with_reducible apply ofdmEnd_keep)
    | (with_reducible apply State.setLane_keep)
    | (with_reducible apply mapUnknown_keep)
    | (with_reducible apply Keep.foldl <;> [intro _ _ _; skip])
    | (with_reducible intro _)
    | (extract_lets)
    | split
    | (dsimp +zetaDelta only)
    | (with_reducible apply Keep.mk; with_reducible first | apply Kept.of | (apply Kept.send; apply Kept.of)))

theorem execOfdmFcDecode_keep {x0 x1 x2} (h2 : Keep b s0 x2) : KeepR b s0 (execOfdmFcDecode x0 x1 x2) := by
  unfold execOfdmFcDecode
  repeat' (first
    | (with_reducible assumption)
    | (with_reducible apply KeepR.next)
    | (with_reducible apply KeepR.ite <;> with_reducible intro _)
    | (with_reducible apply Keep.ite <;> with_reducible intro _)
    | (with_reducible apply fcDecoded_keep)
    | (with_reducible intro _)
    | split)

theorem noteFrame_keep {x0 x1 x2 x3} (h0 : Keep b s0 x0) : Keep b s0 (noteFrame x0 x1 x2 x3) := by
  unfold noteFrame
  repeat' (first
    | (with_reducible assumption)
    | (with_reducible apply Keep.ite <;> with_reducible intro _)
    | (with_reducible intro _)
    | (extract_lets)
    | split
    | (dsimp +zetaDelta only)
    | (with_reducible apply Keep.mk; with_reducible first | apply Kept.of | (apply Kept.send; apply Kept.of)))

theorem peerHeard_keep {x0 x1 x2 x3} (h0 : Keep b s0 x0) : Keep b s0 (peerHeard x0 x1 x2 x3) := by
  unfold peerHeard
  repeat' (first
    | (with_reducible assumption)
    | (with_reducible apply Keep.ite <;> with_reducible intro _)
    | (with_reducible intro _)
    | (with_reducible apply Keep.mk; with_reducible first | apply Kept.of | (apply Kept.send; apply Kept.of)))

theorem peerFrame_keep {x0 x1 x2 x3 x4 x5 x6} (h0 : Keep b s0 x0) : Keep b s0 (peerFrame x0 x1 x2 x3 x4 x5 x6) := by
  unfold peerFrame
  repeat' (first
    | (with_reducible assumption)
    | (with_reducible apply Keep.ite <;> with_reducible intro _)
    | (with_reducible apply peerHeard_keep)
    | (with_reducible apply State.count_keep)
    | (with_reducible apply noteFrame_keep)
    | (with_reducible apply retire_keep)
    | (with_reducible apply State.setLane_keep)
    | (with_reducible apply measDone_keep)
    | (with_reducible apply measEval_keep)
    | (with_reducible intro _)
    | (extract_lets)
    | split
    | (dsimp +zetaDelta only)
    | (with_reducible apply Keep.mk; with_reducible first | apply Kept.of | (apply Kept.send; apply Kept.of)))

theorem cssEnd_keep {x0 x1 x2 x3 x4} (h0 : Keep b s0 x0) : Keep b s0 (cssEnd x0 x1 x2 x3 x4) := by
  unfold cssEnd
  split
  · rename_i x _
    have hv : Keep b s0 (cssReceived x0 x.det.sf (hdrLength x.hdr) (hdrRate x.hdr) x3).2 := cssReceived_keep h0
    split
    · exact h0
    · refine Keep.ite (fun _ => ?_) (fun _ => blankLoss_keep (endCtx_keep hv))
      have hd := deliver_keep (x1 := rxRecord x1 x2 x x4) (x2 := (cssReceived x0 x.det.sf (hdrLength x.hdr) (hdrRate x.hdr) x3).1.take (hdrLength x.hdr))
        (x3 := laneChannel (cssReceived x0 x.det.sf (hdrLength x.hdr) (hdrRate x.hdr) x3).2 x1)
        (endCtx_keep (x1 := x1) (x2 := x2) (x3 := F.LBB_FRAMES_OK_COUNT x1) hv)
      dsimp only
      split
      · exact measEval_keep (peerHeard_keep hd)
      · exact hd
  · exact h0

theorem execCssPayloadEnd_keep {x0 x1 x2 x3 x4} (h4 : Keep b s0 x4) : KeepR b s0 (execCssPayloadEnd x0 x1 x2 x3 x4) := by
  unfold execCssPayloadEnd
  repeat' (first
    | (with_reducible assumption)
    | (with_reducible apply KeepR.next)
    | (with_reducible apply KeepR.ite <;> with_reducible intro _)
    | (with_reducible apply Keep.ite <;> with_reducible intro _)
    | (with_reducible apply cssEnd_keep)
    | (with_reducible intro _)
    | split)

theorem payloadLoss_keep {x0 x1 x2} (h0 : Keep b s0 x0) : Keep b s0 (payloadLoss x0 x1 x2) := by
  unfold payloadLoss
  repeat' (first
    | (with_reducible assumption)
    | (with_reducible apply Keep.ite <;> with_reducible intro _)
    | (with_reducible apply setCause_keep)
    | (with_reducible apply State.count_keep)
    | (with_reducible intro _)
    | split)

theorem ofdmRxEnd_keep {x0 x1 x2 x3 x4 x5 x6 x7} (h0 : Keep b s0 x0) : Keep b s0 (ofdmRxEnd x0 x1 x2 x3 x4 x5 x6 x7) := by
  unfold ofdmRxEnd
  repeat' (first
    | (with_reducible assumption)
    | (with_reducible apply Keep.ite <;> with_reducible intro _)
    | (with_reducible apply payloadLoss_keep)
    | (with_reducible apply noteFrame_keep)
    | (with_reducible apply ofdmEnd_keep)
    | (with_reducible apply deliver_keep)
    | (with_reducible apply peerFrame_keep)
    | (with_reducible intro _)
    | (extract_lets)
    | split
    | (dsimp +zetaDelta only)
    | (with_reducible apply Keep.mk; with_reducible first | apply Kept.of | (apply Kept.send; apply Kept.of)))

theorem execOfdmRxEnd_keep {x0 x1 x2 x3 x4 x5 x6 x7} (h7 : Keep b s0 x7) : KeepR b s0 (execOfdmRxEnd x0 x1 x2 x3 x4 x5 x6 x7) := by
  unfold execOfdmRxEnd
  repeat' (first
    | (with_reducible assumption)
    | (with_reducible apply KeepR.next)
    | (with_reducible apply KeepR.ite <;> with_reducible intro _)
    | (with_reducible apply Keep.ite <;> with_reducible intro _)
    | (with_reducible apply ofdmRxEnd_keep)
    | (with_reducible intro _)
    | split)

theorem takeMessage_keep {x0 x1 x2 y0 y1} (h0 : Keep b s0 x0) (e : takeMessage x0 x1 x2 = some (y0, y1)) : Keep b s0 y1 := by
  unfold takeMessage at e
  simp only [Option.map_eq_some_iff, Prod.mk.injEq] at e
  obtain ⟨f, -, -, rfl⟩ := e
  exact State.setLane_keep h0

theorem toneMapRx_keep {x0 x1 x2} (h0 : Keep b s0 x0) : Keep b s0 (toneMapRx x0 x1 x2) := by
  unfold toneMapRx
  repeat' (first
    | (with_reducible assumption)
    | (with_reducible apply Keep.ite <;> with_reducible intro _)
    | (with_reducible apply pSetBits_keep)
    | (with_reducible apply State.count_keep)
    | (with_reducible apply State.ramStore_keep)
    | (with_reducible apply pSet_keep)
    | (with_reducible apply genMessage_keep)
    | (with_reducible apply State.event_keep)
    | (with_reducible apply setCause_keep)
    | (with_reducible intro _)
    | (extract_lets)
    | split)

theorem execToneMapRx_keep {x0 x1} (h1 : Keep b s0 x1) : KeepR b s0 (execToneMapRx x0 x1) := by
  unfold execToneMapRx
  repeat' (first
    | (with_reducible assumption)
    | (with_reducible apply KeepR.next)
    | (with_reducible apply KeepR.ite <;> with_reducible intro _)
    | (with_reducible apply Keep.ite <;> with_reducible intro _)
    | (with_reducible refine takeMessage_keep ?_ (by with_reducible assumption))
    | (with_reducible apply toneMapRx_keep)
    | (with_reducible intro _)
    | split
    | (with_reducible apply Keep.ite_fst <;> with_reducible intro _)
    | (with_reducible apply Keep.ite_snd <;> with_reducible intro _)
    | (with_reducible apply Keep.foldl_snd <;> [intro _ _ _; skip])
    | (with_reducible apply Keep.foldl_fst <;> [intro _ _ _; skip])
    | (dsimp +zetaDelta only))

theorem toneMapAckRx_keep {x0 x1} (h0 : Keep b s0 x0) : Keep b s0 (toneMapAckRx x0 x1) := by
  unfold toneMapAckRx
  repeat' (first
    | (with_reducible assumption)
    | (with_reducible apply Keep.ite <;> with_reducible intro _)
    | (with_reducible apply retire_keep)
    | (with_reducible intro _)
    | (extract_lets)
    | split)

theorem execToneMapAckRx_keep {x0 x1} (h1 : Keep b s0 x1) : KeepR b s0 (execToneMapAckRx x0 x1) := by
  unfold execToneMapAckRx
  repeat' (first
    | (with_reducible assumption)
    | (with_reducible apply KeepR.next)
    | (with_reducible apply KeepR.ite <;> with_reducible intro _)
    | (with_reducible apply Keep.ite <;> with_reducible intro _)
    | (with_reducible refine takeMessage_keep ?_ (by with_reducible assumption))
    | (with_reducible apply toneMapAckRx_keep)
    | (with_reducible intro _)
    | split
    | (with_reducible apply Keep.ite_fst <;> with_reducible intro _)
    | (with_reducible apply Keep.ite_snd <;> with_reducible intro _)
    | (with_reducible apply Keep.foldl_snd <;> [intro _ _ _; skip])
    | (with_reducible apply Keep.foldl_fst <;> [intro _ _ _; skip])
    | (dsimp +zetaDelta only))

end Sys2Proof.Machine
end

