-- ==== Sys2Proof/Laws/KeepMac.lean ====
section
/-!
SUPPORT. Sys2Proof/Laws/KeepMac.lean: one lemma for each function on states of the mesh: update sessions, joining, transmission, superframes, verdicts, nodes: it keeps what `Keep` says.
-/

-- One theorem after the other: side by side, their proofs would hold threads and memory together.
set_option Elab.async false
set_option linter.unusedTactic false
set_option linter.unreachableTactic false

namespace Sys2Proof.Machine

variable {b : Bool} {s0 : State}

/-! ### Upd -/

theorem emptyImage_keep {x0 x1} (h0 : Keep b s0 x0) : Keep b s0 (emptyImage x0 x1) := by
  unfold emptyImage
  repeat' (first
    | (with_reducible assumption)
    | (with_reducible apply Keep.ite <;> with_reducible intro _)
    | (with_reducible apply State.setReg_keep)
    | (with_reducible apply refreshSessions_keep)
    | (with_reducible apply State.setFld_keep)
    | (with_reducible intro _)
    | (extract_lets)
    | split
    | (dsimp +zetaDelta only)
    | (with_reducible apply Keep.mk; with_reducible first | apply Kept.of | (apply Kept.send; apply Kept.of)))

theorem imageLoad_keep {x0 x1 x2} (h0 : Keep b s0 x0) : Keep b s0 (imageLoad x0 x1 x2) := by
  unfold imageLoad
  repeat' (first
    | (with_reducible assumption)
    | (with_reducible apply Keep.ite <;> with_reducible intro _)
    | (with_reducible apply emptyImage_keep)
    | (with_reducible apply refreshSessions_keep)
    | (with_reducible apply finish_keep)
    | (with_reducible apply State.ramStore_keep)
    | (with_reducible apply commitCmd_keep)
    | (with_reducible apply State.setReg_keep)
    | (with_reducible apply State.setFld_keep)
    | (with_reducible apply setCause_keep)
    | (with_reducible apply State.event_keep)
    | (with_reducible intro _)
    | (extract_lets)
    | split
    | (with_reducible apply Keep.mk; with_reducible first | apply Kept.of | (apply Kept.send; apply Kept.of))
    | (dsimp +zetaDelta only))

theorem execUpdImageLoad_keep {x0 x1 x2} (h2 : Keep b s0 x2) : KeepR b s0 (execUpdImageLoad x0 x1 x2) := by
  unfold execUpdImageLoad
  repeat' (first
    | (with_reducible assumption)
    | (with_reducible apply KeepR.next)
    | (with_reducible apply KeepR.ite <;> with_reducible intro _)
    | (with_reducible apply Keep.ite <;> with_reducible intro _)
    | (with_reducible apply imageLoad_keep)
    | (with_reducible intro _)
    | split)

theorem pickOutside_keep {x0 x1} (h0 : Keep b s0 x0) : Keep b s0 (pickOutside x0 x1).2 := by
  unfold pickOutside
  repeat' (first
    | (with_reducible assumption)
    | (with_reducible apply Keep.ite <;> with_reducible intro _)
    | (with_reducible apply drawNat_keep)
    | (with_reducible apply Keep.foldl <;> [intro _ _ _; skip])
    | (with_reducible intro _)
    | (extract_lets)
    | split
    | (with_reducible refine Keep.snd ?_ (by with_reducible assumption))
    | (with_reducible refine Keep.trd ?_ (by with_reducible assumption))
    | (with_reducible apply Keep.ite_fst <;> with_reducible intro _)
    | (with_reducible apply Keep.ite_snd <;> with_reducible intro _)
    | (with_reducible apply Keep.foldl_snd <;> [intro _ _ _; skip])
    | (with_reducible apply Keep.foldl_fst <;> [intro _ _ _; skip])
    | (dsimp +zetaDelta only))

theorem pickEntry_keep {x0} (h0 : Keep b s0 x0) : Keep b s0 (pickEntry x0).2 := by
  unfold pickEntry
  repeat' (first
    | (with_reducible assumption)
    | (with_reducible apply Keep.ite <;> with_reducible intro _)
    | (with_reducible apply pickOutside_keep)
    | (with_reducible apply Keep.foldl <;> [intro _ _ _; skip])
    | (with_reducible intro _)
    | (extract_lets)
    | split
    | (with_reducible refine Keep.snd ?_ (by with_reducible assumption))
    | (with_reducible refine Keep.trd ?_ (by with_reducible assumption))
    | (with_reducible apply Keep.ite_fst <;> with_reducible intro _)
    | (with_reducible apply Keep.ite_snd <;> with_reducible intro _)
    | (with_reducible apply Keep.foldl_snd <;> [intro _ _ _; skip])
    | (with_reducible apply Keep.foldl_fst <;> [intro _ _ _; skip]))

theorem pickIndices_keep {x0 x1 x2} (h0 : Keep b s0 x0) : Keep b s0 (pickIndices x0 x1 x2).2 := by
  induction x2 generalizing x0 x1 with
  | nil => exact h0
  | cons _ _ ih => exact ih (Keep.mk (Kept.of (pickOutside_keep h0)))

theorem showSession_keep {x0 x1} (h0 : Keep b s0 x0) : Keep b s0 (showSession x0 x1) := by
  unfold showSession
  repeat' (first
    | (with_reducible assumption)
    | (with_reducible apply Keep.ite <;> with_reducible intro _)
    | (with_reducible apply State.setFld_keep)
    | (with_reducible intro _)
    | split
    | (dsimp +zetaDelta only))

theorem openSession_keep {x0 x1 x2 x3 x4 x5 x6} (h0 : Keep b s0 x0) : Keep b s0 (openSession x0 x1 x2 x3 x4 x5 x6) := by
  unfold openSession
  repeat' (first
    | (with_reducible assumption)
    | (with_reducible apply Keep.ite <;> with_reducible intro _)
    | (with_reducible apply State.ramStore_keep)
    | (with_reducible apply pickEntry_keep)
    | (with_reducible apply putEntry_keep)
    | (with_reducible apply State.setReg_keep)
    | (with_reducible apply refreshSessions_keep)
    | (with_reducible apply Keep.foldl <;> [intro _ _ _; skip])
    | (with_reducible intro _)
    | (extract_lets)
    | (with_reducible refine Keep.snd ?_ (by with_reducible assumption))
    | (with_reducible refine Keep.trd ?_ (by with_reducible assumption))
    | (with_reducible apply Keep.ite_fst <;> with_reducible intro _)
    | (with_reducible apply Keep.ite_snd <;> with_reducible intro _)
    | (with_reducible apply Keep.foldl_snd <;> [intro _ _ _; skip])
    | (with_reducible apply Keep.foldl_fst <;> [intro _ _ _; skip])
    | (with_reducible apply Keep.mk; with_reducible first | apply Kept.of | (apply Kept.send; apply Kept.of))
    | (dsimp +zetaDelta only))

theorem sessionStart_keep {x0 x1} (h0 : Keep b s0 x0) : Keep b s0 (sessionStart x0 x1) := by
  unfold sessionStart
  repeat' (first
    | (with_reducible assumption)
    | (with_reducible apply Keep.ite <;> with_reducible intro _)
    | (with_reducible apply finish_keep)
    | (with_reducible apply openSession_keep)
    | (with_reducible intro _)
    | (extract_lets)
    | split
    | (dsimp +zetaDelta only))

theorem execUpdSessionStart_keep {x0 x1} (h1 : Keep b s0 x1) : KeepR b s0 (execUpdSessionStart x0 x1) := by
  unfold execUpdSessionStart
  repeat' (first
    | (with_reducible assumption)
    | (with_reducible apply KeepR.next)
    | (with_reducible apply KeepR.ite <;> with_reducible intro _)
    | (with_reducible apply Keep.ite <;> with_reducible intro _)
    | (with_reducible apply sessionStart_keep)
    | (with_reducible intro _)
    | split)

theorem sessionStop_keep {x0 x1} (h0 : Keep b s0 x0) : Keep b s0 (sessionStop x0 x1) := by
  unfold sessionStop
  repeat' (first
    | (with_reducible assumption)
    | (with_reducible apply Keep.ite <;> with_reducible intro _)
    | (with_reducible apply finish_keep)
    | (with_reducible apply endSession_keep)
    | (with_reducible intro _)
    | (extract_lets)
    | split
    | (dsimp +zetaDelta only))

theorem execUpdSessionStop_keep {x0 x1} (h1 : Keep b s0 x1) : KeepR b s0 (execUpdSessionStop x0 x1) := by
  unfold execUpdSessionStop
  repeat' (first
    | (with_reducible assumption)
    | (with_reducible apply KeepR.next)
    | (with_reducible apply KeepR.ite <;> with_reducible intro _)
    | (with_reducible apply Keep.ite <;> with_reducible intro _)
    | (with_reducible apply sessionStop_keep)
    | (with_reducible intro _)
    | split)

theorem sessionReport_keep {x0 x1} (h0 : Keep b s0 x0) : Keep b s0 (sessionReport x0 x1) := by
  unfold sessionReport
  repeat' (first
    | (with_reducible assumption)
    | (with_reducible apply Keep.ite <;> with_reducible intro _)
    | (with_reducible apply finish_keep)
    | (with_reducible intro _)
    | split
    | (dsimp +zetaDelta only))

theorem execUpdSessionReport_keep {x0 x1} (h1 : Keep b s0 x1) : KeepR b s0 (execUpdSessionReport x0 x1) := by
  unfold execUpdSessionReport
  repeat' (first
    | (with_reducible assumption)
    | (with_reducible apply KeepR.next)
    | (with_reducible apply KeepR.ite <;> with_reducible intro _)
    | (with_reducible apply Keep.ite <;> with_reducible intro _)
    | (with_reducible apply sessionReport_keep)
    | (with_reducible intro _)
    | split)

theorem editSess_keep {x0 x1 x2} (h0 : Keep b s0 x0) : Keep b s0 (editSess x0 x1 x2) := by
  unfold editSess
  repeat' (first
    | (with_reducible assumption)
    | (with_reducible apply Keep.ite <;> with_reducible intro _)
    | (with_reducible intro _)
    | split
    | (with_reducible apply Keep.mk; with_reducible first | apply Kept.of | (apply Kept.send; apply Kept.of)))

theorem suspendSessions_keep {x0} (h0 : Keep b s0 x0) : Keep b s0 (suspendSessions x0) := by
  unfold suspendSessions
  repeat' (first
    | (with_reducible assumption)
    | (with_reducible apply Keep.ite <;> with_reducible intro _)
    | (with_reducible apply editSess_keep)
    | (with_reducible apply State.setFld_keep)
    | (with_reducible apply Keep.foldl <;> [intro _ _ _; skip])
    | (with_reducible intro _)
    | (extract_lets)
    | split
    | (dsimp +zetaDelta only)
    | (with_reducible apply Keep.mk; with_reducible first | apply Kept.of | (apply Kept.send; apply Kept.of)))

theorem resumeSessions_keep {x0} (h0 : Keep b s0 x0) : Keep b s0 (resumeSessions x0) := by
  unfold resumeSessions
  repeat' (first
    | (with_reducible assumption)
    | (with_reducible apply Keep.ite <;> with_reducible intro _)
    | (with_reducible apply editSess_keep)
    | (with_reducible apply showSession_keep)
    | (with_reducible apply State.setFld_keep)
    | (with_reducible apply Keep.foldl <;> [intro _ _ _; skip])
    | (with_reducible intro _)
    | (extract_lets)
    | split
    | (dsimp +zetaDelta only)
    | (with_reducible apply Keep.mk; with_reducible first | apply Kept.of | (apply Kept.send; apply Kept.of)))

theorem execSessionDeadline_keep {x0 x1} (h1 : Keep b s0 x1) : KeepR b s0 (execSessionDeadline x0 x1) := by
  unfold execSessionDeadline
  repeat' (first
    | (with_reducible assumption)
    | (with_reducible apply KeepR.next)
    | (with_reducible apply KeepR.ite <;> with_reducible intro _)
    | (with_reducible apply Keep.ite <;> with_reducible intro _)
    | (with_reducible apply endSession_keep)
    | (with_reducible intro _)
    | split
    | (dsimp +zetaDelta only))

theorem invite_keep {x0 x1 x2 x3} (h0 : Keep b s0 x0) : Keep b s0 (invite x0 x1 x2 x3) := by
  unfold invite
  repeat' (first
    | (with_reducible assumption)
    | (with_reducible apply Keep.ite <;> with_reducible intro _)
    | (with_reducible apply genMessage_keep)
    | (with_reducible apply pSetBits_keep)
    | (with_reducible intro _))

theorem target_keep {x0 x1 x2 x3} (h0 : Keep b s0 x0) : Keep b s0 (target x0 x1 x2 x3) := by
  unfold target
  repeat' (first
    | (with_reducible assumption)
    | (with_reducible apply Keep.ite <;> with_reducible intro _)
    | (with_reducible apply State.ramStore_keep)
    | (with_reducible apply invite_keep)
    | (with_reducible apply State.count_keep)
    | (with_reducible intro _)
    | (extract_lets)
    | (with_reducible apply Keep.mk; with_reducible first | apply Kept.of | (apply Kept.send; apply Kept.of)))

theorem targetSelect_keep {x0 x1} (h0 : Keep b s0 x0) : Keep b s0 (targetSelect x0 x1) := by
  unfold targetSelect
  repeat' (first
    | (with_reducible assumption)
    | (with_reducible apply Keep.ite <;> with_reducible intro _)
    | (with_reducible apply target_keep)
    | (with_reducible apply setCause_keep)
    | (with_reducible apply State.event_keep)
    | (with_reducible apply endSession_keep)
    | (with_reducible apply State.setFld_keep)
    | (with_reducible apply laneFinal_keep)
    | (with_reducible apply Keep.foldl <;> [intro _ _ _; skip])
    | (with_reducible intro _)
    | (extract_lets)
    | split
    | (with_reducible apply Keep.ite_fst <;> with_reducible intro _)
    | (with_reducible apply Keep.ite_snd <;> with_reducible intro _)
    | (with_reducible apply Keep.foldl_snd <;> [intro _ _ _; skip])
    | (with_reducible apply Keep.foldl_fst <;> [intro _ _ _; skip])
    | (dsimp +zetaDelta only))

theorem execTargetSelect_keep {x0 x1} (h1 : Keep b s0 x1) : KeepR b s0 (execTargetSelect x0 x1) := by
  unfold execTargetSelect
  repeat' (first
    | (with_reducible assumption)
    | (with_reducible apply KeepR.next)
    | (with_reducible apply KeepR.ite <;> with_reducible intro _)
    | (with_reducible apply Keep.ite <;> with_reducible intro _)
    | (with_reducible apply targetSelect_keep)
    | (with_reducible intro _)
    | split
    | (dsimp +zetaDelta only))

theorem mcastPosition_keep {x0 x1} (h0 : Keep b s0 x0) : Keep b s0 (mcastPosition x0 x1) := by
  unfold mcastPosition
  repeat' (first
    | (with_reducible assumption)
    | (with_reducible apply Keep.ite <;> with_reducible intro _)
    | (with_reducible apply State.setLane_keep)
    | (with_reducible apply State.count_keep)
    | (with_reducible apply ccmProtect_keep)
    | (with_reducible intro _)
    | (extract_lets)
    | split
    | (with_reducible refine Keep.snd ?_ (by with_reducible assumption))
    | (with_reducible refine Keep.trd ?_ (by with_reducible assumption))
    | (with_reducible apply Keep.ite_fst <;> with_reducible intro _)
    | (with_reducible apply Keep.ite_snd <;> with_reducible intro _)
    | (with_reducible apply Keep.foldl_snd <;> [intro _ _ _; skip])
    | (with_reducible apply Keep.foldl_fst <;> [intro _ _ _; skip])
    | (dsimp +zetaDelta only)
    | (with_reducible apply Keep.mk; with_reducible first | apply Kept.of | (apply Kept.send; apply Kept.of)))

theorem execMcastPosition_keep {x0 x1} (h1 : Keep b s0 x1) : KeepR b s0 (execMcastPosition x0 x1) := by
  unfold execMcastPosition
  repeat' (first
    | (with_reducible assumption)
    | (with_reducible apply KeepR.next)
    | (with_reducible apply KeepR.ite <;> with_reducible intro _)
    | (with_reducible apply Keep.ite <;> with_reducible intro _)
    | (with_reducible apply mcastPosition_keep)
    | (with_reducible intro _)
    | split)

theorem mcastMissed_keep {x0} (h0 : Keep b s0 x0) : Keep b s0 (mcastMissed x0) := by
  unfold mcastMissed
  repeat' (first
    | (with_reducible assumption)
    | (with_reducible apply Keep.ite <;> with_reducible intro _)
    | (with_reducible apply State.count_keep)
    | (with_reducible intro _))

theorem roundEnds_keep {x0 x1 x2 x3 x4} (h0 : Keep b s0 x0) : Keep b s0 (roundEnds x0 x1 x2 x3 x4) := by
  unfold roundEnds
  repeat' (first
    | (with_reducible assumption)
    | (with_reducible apply Keep.ite <;> with_reducible intro _)
    | (with_reducible apply State.event_keep)
    | (with_reducible apply editUpdLane_keep)
    | (with_reducible apply setCause_keep)
    | (with_reducible apply showSession_keep)
    | (with_reducible apply invite_keep)
    | (with_reducible apply Keep.foldl <;> [intro _ _ _; skip])
    | (with_reducible intro _)
    | (extract_lets)
    | split
    | (dsimp +zetaDelta only)
    | (with_reducible apply Keep.mk; with_reducible first | apply Kept.of | (apply Kept.send; apply Kept.of)))

theorem mcastSent_keep {x0 x1 x2} (h0 : Keep b s0 x0) : Keep b s0 (mcastSent x0 x1 x2) := by
  unfold mcastSent
  repeat' (first
    | (with_reducible assumption)
    | (with_reducible apply Keep.ite <;> with_reducible intro _)
    | (with_reducible apply State.count_keep)
    | (with_reducible apply roundEnds_keep)
    | (with_reducible apply showSession_keep)
    | (with_reducible apply editUpdLane_keep)
    | (with_reducible intro _)
    | (extract_lets)
    | split
    | (dsimp +zetaDelta only)
    | (with_reducible apply Keep.mk; with_reducible first | apply Kept.of | (apply Kept.send; apply Kept.of)))

theorem gapEnds_keep {x0 x1 x2} (h0 : Keep b s0 x0) : Keep b s0 (gapEnds x0 x1 x2) := by
  unfold gapEnds
  repeat' (first
    | (with_reducible assumption)
    | (with_reducible apply Keep.ite <;> with_reducible intro _)
    | (with_reducible apply editSess_keep)
    | (with_reducible apply editUpdLane_keep)
    | (with_reducible apply pSetBits_keep)
    | (with_reducible apply setUstate_keep)
    | (with_reducible apply showSession_keep)
    | (with_reducible apply Keep.foldl <;> [intro _ _ _; skip])
    | (with_reducible intro _)
    | (extract_lets)
    | split
    | (with_reducible apply Keep.mk; with_reducible first | apply Kept.of | (apply Kept.send; apply Kept.of))
    | (with_reducible refine Keep.snd ?_ (by with_reducible assumption))
    | (with_reducible refine Keep.trd ?_ (by with_reducible assumption))
    | (dsimp +zetaDelta only))

theorem execReportGapEnd_keep {x0 x1 x2} (h2 : Keep b s0 x2) : KeepR b s0 (execReportGapEnd x0 x1 x2) := by
  unfold execReportGapEnd
  repeat' (first
    | (with_reducible assumption)
    | (with_reducible apply KeepR.next)
    | (with_reducible apply KeepR.ite <;> with_reducible intro _)
    | (with_reducible apply Keep.ite <;> with_reducible intro _)
    | (with_reducible apply gapEnds_keep)
    | (with_reducible intro _)
    | split
    | (dsimp +zetaDelta only))

theorem statusRx_keep {x0 x1 x2} (h0 : Keep b s0 x0) : Keep b s0 (statusRx x0 x1 x2) := by
  unfold statusRx
  repeat' (first
    | (with_reducible assumption)
    | (with_reducible apply Keep.ite <;> with_reducible intro _)
    | (with_reducible apply State.count_keep)
    | (with_reducible apply pSet_keep)
    | (with_reducible apply pSetBits_keep)
    | (with_reducible apply editUpdLane_keep)
    | (with_reducible apply setUstate_keep)
    | (with_reducible apply genMessage_keep)
    | (with_reducible apply Keep.foldl <;> [intro _ _ _; skip])
    | (with_reducible intro _)
    | (extract_lets)
    | split
    | (dsimp +zetaDelta only)
    | (with_reducible apply Keep.mk; with_reducible first | apply Kept.of | (apply Kept.send; apply Kept.of)))

theorem execUpdStatusRx_keep {x0 x1} (h1 : Keep b s0 x1) : KeepR b s0 (execUpdStatusRx x0 x1) := by
  unfold execUpdStatusRx
  repeat' (first
    | (with_reducible assumption)
    | (with_reducible apply KeepR.next)
    | (with_reducible apply KeepR.ite <;> with_reducible intro _)
    | (with_reducible apply Keep.ite <;> with_reducible intro _)
    | (with_reducible refine takeMessage_keep ?_ (by with_reducible assumption))
    | (with_reducible apply statusRx_keep)
    | (with_reducible intro _)
    | split
    | (with_reducible apply Keep.ite_fst <;> with_reducible intro _)
    | (with_reducible apply Keep.ite_snd <;> with_reducible intro _)
    | (with_reducible apply Keep.foldl_snd <;> [intro _ _ _; skip])
    | (with_reducible apply Keep.foldl_fst <;> [intro _ _ _; skip])
    | (dsimp +zetaDelta only))

/-! ### Join -/

theorem setChain_keep {x0 x1 x2} (h0 : Keep b s0 x0) : Keep b s0 (setChain x0 x1 x2) := by
  unfold setChain
  repeat' (first
    | (with_reducible assumption)
    | (with_reducible apply Keep.ite <;> with_reducible intro _)
    | (with_reducible apply routeCommit_keep)
    | (with_reducible apply State.ramStore_keep)
    | (with_reducible intro _)
    | (extract_lets)
    | split)

theorem childClear_keep {x0 x1 x2} (h0 : Keep b s0 x0) : Keep b s0 (childClear x0 x1 x2) := by
  unfold childClear
  repeat' (first
    | (with_reducible assumption)
    | (with_reducible apply Keep.ite <;> with_reducible intro _)
    | (with_reducible apply genMessage_keep)
    | (with_reducible intro _))

theorem routeUpdate_keep {x0 x1 x2} (h0 : Keep b s0 x0) : Keep b s0 (routeUpdate x0 x1 x2) := by
  unfold routeUpdate
  repeat' (first
    | (with_reducible assumption)
    | (with_reducible apply Keep.ite <;> with_reducible intro _)
    | (with_reducible apply pSetBits_keep)
    | (with_reducible apply pSet_keep)
    | (with_reducible apply setChain_keep)
    | (with_reducible apply countChildren_keep)
    | (with_reducible apply childClear_keep)
    | (with_reducible apply setCause_keep)
    | (with_reducible apply State.event_keep)
    | (with_reducible apply Keep.foldl <;> [intro _ _ _; skip])
    | (with_reducible intro _)
    | (extract_lets)
    | split
    | (dsimp +zetaDelta only))

theorem routeDirect_keep {x0 x1} (h0 : Keep b s0 x0) : Keep b s0 (routeDirect x0 x1) := by
  unfold routeDirect
  repeat' (first
    | (with_reducible assumption)
    | (with_reducible apply Keep.ite <;> with_reducible intro _)
    | (with_reducible apply pSetBits_keep)
    | (with_reducible apply pSet_keep)
    | (with_reducible apply setCause_keep)
    | (with_reducible apply State.event_keep)
    | (with_reducible apply countChildren_keep)
    | (with_reducible intro _)
    | (extract_lets)
    | split)

theorem linkSeen_keep {x0 x1 x2 x3 x4} (h0 : Keep b s0 x0) : Keep b s0 (linkSeen x0 x1 x2 x3 x4) := by
  unfold linkSeen
  repeat' (first
    | (with_reducible assumption)
    | (with_reducible apply Keep.ite <;> with_reducible intro _)
    | (with_reducible apply through_keep)
    | (with_reducible apply routeCommit_keep)
    | (with_reducible apply State.ramStore_keep)
    | (with_reducible apply Keep.foldl <;> [intro _ _ _; skip])
    | (with_reducible intro _)
    | (extract_lets)
    | split
    | (dsimp +zetaDelta only))

theorem unpack_keep {x0 x1 x2 x3 x4} (h0 : Keep b s0 x0) : Keep b s0 (unpack x0 x1 x2 x3 x4) := by
  unfold unpack
  repeat' (first
    | (with_reducible assumption)
    | (with_reducible apply Keep.ite <;> with_reducible intro _)
    | (with_reducible apply State.count_keep)
    | (with_reducible apply routeCount_keep)
    | (with_reducible apply State.setLane_keep)
    | (with_reducible apply Keep.foldl <;> [intro _ _ _; skip])
    | (with_reducible intro _)
    | (extract_lets)
    | split
    | (with_reducible apply Keep.ite_fst <;> with_reducible intro _)
    | (with_reducible apply Keep.ite_snd <;> with_reducible intro _)
    | (with_reducible apply Keep.foldl_snd <;> [intro _ _ _; skip])
    | (with_reducible apply Keep.foldl_fst <;> [intro _ _ _; skip])
    | (dsimp +zetaDelta only)
    | (with_reducible apply Keep.mk; with_reducible first | apply Kept.of | (apply Kept.send; apply Kept.of)))

theorem putJoin_keep {x0 x1} (h0 : Keep b s0 x0) : Keep b s0 (putJoin x0 x1) := by
  unfold putJoin
  repeat' (first
    | (with_reducible assumption)
    | (with_reducible apply Keep.ite <;> with_reducible intro _)
    | (with_reducible intro _)
    | (with_reducible apply Keep.mk; with_reducible first | apply Kept.of | (apply Kept.send; apply Kept.of)))

theorem dropJoin_keep {x0 x1} (h0 : Keep b s0 x0) : Keep b s0 (dropJoin x0 x1) := by
  unfold dropJoin
  repeat' (first
    | (with_reducible assumption)
    | (with_reducible apply Keep.ite <;> with_reducible intro _)
    | (with_reducible intro _)
    | (with_reducible apply Keep.mk; with_reducible first | apply Kept.of | (apply Kept.send; apply Kept.of)))

theorem joinPlace_keep {x0 x1 x2 x3 x4 x5 x6} (h0 : Keep b s0 x0) : Keep b s0 (joinPlace x0 x1 x2 x3 x4 x5 x6) := by
  unfold joinPlace
  dsimp only
  split
  · exact putJoin_keep (pickIndices_keep h0)
  · exact putJoin_keep (drawNat_keep h0)

theorem joinAssign_keep {x0 x1 x2 x3 x4 x5} (h0 : Keep b s0 x0) : Keep b s0 (joinAssign x0 x1 x2 x3 x4 x5) := by
  unfold joinAssign
  repeat' (first
    | (with_reducible assumption)
    | (with_reducible apply Keep.ite <;> with_reducible intro _)
    | (with_reducible apply joinPlace_keep)
    | (with_reducible apply putJoin_keep)
    | (with_reducible intro _)
    | (extract_lets)
    | split
    | (with_reducible refine Keep.snd ?_ (by with_reducible assumption))
    | (with_reducible refine Keep.trd ?_ (by with_reducible assumption))
    | (dsimp +zetaDelta only)
    | (with_reducible apply Keep.mk; with_reducible first | apply Kept.of | (apply Kept.send; apply Kept.of)))

theorem takeFrame_keep {x0 x1 x2 y0 y1} (h0 : Keep b s0 x0) (e : takeFrame x0 x1 x2 = some (y0, y1)) : Keep b s0 y1 := by
  unfold takeFrame at e
  simp only [Option.map_eq_some_iff, Prod.mk.injEq] at e
  obtain ⟨f, -, -, rfl⟩ := e
  exact State.setLane_keep h0

theorem joinReqRx_keep {x0 x1 x2 x3} (h0 : Keep b s0 x0) : Keep b s0 (joinReqRx x0 x1 x2 x3) := by
  unfold joinReqRx
  repeat' (first
    | (with_reducible assumption)
    | (with_reducible apply Keep.ite <;> with_reducible intro _)
    | (with_reducible apply setCause_keep)
    | (with_reducible refine takeFrame_keep ?_ (by with_reducible assumption))
    | (with_reducible apply State.count_keep)
    | (with_reducible apply setBand_keep)
    | (with_reducible apply joinAssign_keep)
    | (with_reducible intro _)
    | (extract_lets)
    | split
    | (dsimp +zetaDelta only)
    | (with_reducible apply Keep.mk; with_reducible first | apply Kept.of | (apply Kept.send; apply Kept.of)))

theorem execJoinReqRx_keep {x0 x1 x2 x3} (h3 : Keep b s0 x3) : KeepR b s0 (execJoinReqRx x0 x1 x2 x3) := by
  unfold execJoinReqRx
  repeat' (first
    | (with_reducible assumption)
    | (with_reducible apply KeepR.next)
    | (with_reducible apply KeepR.ite <;> with_reducible intro _)
    | (with_reducible apply Keep.ite <;> with_reducible intro _)
    | (with_reducible apply joinReqRx_keep)
    | (with_reducible intro _)
    | split)

theorem execJoinHoldExpiry_keep {x0 x1} (h1 : Keep b s0 x1) : KeepR b s0 (execJoinHoldExpiry x0 x1) := by
  unfold execJoinHoldExpiry
  repeat' (first
    | (with_reducible assumption)
    | (with_reducible apply KeepR.next)
    | (with_reducible apply KeepR.ite <;> with_reducible intro _)
    | (with_reducible apply Keep.ite <;> with_reducible intro _)
    | (with_reducible apply dropJoin_keep)
    | (with_reducible intro _)
    | split
    | (dsimp +zetaDelta only))

theorem joinStored_keep {x0 x1} (h0 : Keep b s0 x0) : Keep b s0 (joinStored x0 x1) :=
  pSet_keep (pSet_keep (pSet_keep (pSet_keep (pSetBits_keep (pSetBits_keep (State.ramStore_keep h0))))))

theorem joinSettles_keep {x0 x1} (h0 : Keep b s0 x0) : Keep b s0 (joinSettles x0 x1) :=
  Keep.ite (fun _ => setAdaptState_keep (Keep.mk (Kept.of h0))) (fun _ => h0)

theorem joinTaken_keep {x0 x1} (h0 : Keep b s0 x0) : Keep b s0 (joinTaken x0 x1) := by
  unfold joinTaken
  have h := joinStored_keep (x1 := x1) h0
  exact Keep.ite
    (fun _ => writeEntries_keep (emptyNode_keep (dropAssignMessages_keep (dropAssign_keep (joinSettles_keep (Keep.mk (Kept.of h)))))))
    (fun _ => routeUpdate_keep (emptyNode_keep (dropAssignMessages_keep (dropAssign_keep (joinSettles_keep (Keep.mk (Kept.of h)))))))

theorem joinSent_keep {x0 x1} (h0 : Keep b s0 x0) : Keep b s0 (joinSent x0 x1) := by
  unfold joinSent
  exact setCause_keep (State.event_keep (Keep.ite (fun _ => dropJoin_keep h0) (fun _ => joinTaken_keep (dropJoin_keep h0))))

theorem joinDefer_keep {x0 x1} (h0 : Keep b s0 x0) : Keep b s0 (joinDefer x0 x1) := by
  unfold joinDefer
  repeat' (first
    | (with_reducible assumption)
    | (with_reducible apply Keep.ite <;> with_reducible intro _)
    | (with_reducible apply State.count_keep)
    | (with_reducible apply putJoin_keep)
    | (with_reducible apply dropJoin_keep)
    | (with_reducible intro _)
    | split
    | (with_reducible apply Keep.mk; with_reducible first | apply Kept.of | (apply Kept.send; apply Kept.of)))

theorem joinFrame_keep {x0 x1} (h0 : Keep b s0 x0) : Keep b s0 (joinFrame x0 x1).2 := by
  unfold joinFrame
  repeat' (first
    | (with_reducible assumption)
    | (with_reducible apply Keep.ite <;> with_reducible intro _)
    | (with_reducible apply ccmProtect_keep)
    | (with_reducible intro _)
    | (extract_lets)
    | (with_reducible refine Keep.snd ?_ (by with_reducible assumption))
    | (with_reducible refine Keep.trd ?_ (by with_reducible assumption))
    | (with_reducible apply Keep.ite_fst <;> with_reducible intro _)
    | (with_reducible apply Keep.ite_snd <;> with_reducible intro _)
    | (with_reducible apply Keep.foldl_snd <;> [intro _ _ _; skip])
    | (with_reducible apply Keep.foldl_fst <;> [intro _ _ _; skip])
    | (with_reducible apply Keep.mk; with_reducible first | apply Kept.of | (apply Kept.send; apply Kept.of)))

theorem joinPlaced_keep {x0 x1 x2 x3 x4} (h0 : Keep b s0 x0) : Keep b s0 (joinPlaced x0 x1 x2 x3 x4) := by
  unfold joinPlaced
  refine Keep.ite (fun _ => State.setLane_keep (putJoin_keep h0)) (fun _ => ?_)
  dsimp only
  split
  · exact joinSent_keep (enterMailbox_keep h0 ‹_›)
  · exact joinDefer_keep h0

theorem joinAccept_keep {x0 x1} (h0 : Keep b s0 x0) : Keep b s0 (joinAccept x0 x1) := by
  unfold joinAccept
  refine Keep.ite (fun _ => joinDefer_keep h0) (fun _ => ?_)
  have h : Keep b s0 (if x1.status = 0 then generate x0 4 else (some [], x0)).2 :=
    Keep.ite_snd (fun _ => generate_keep h0) (fun _ => h0)
  dsimp only
  split
  · exact joinDefer_keep h
  · split
    · exact joinDefer_keep (joinFrame_keep h)
    · exact joinPlaced_keep (joinFrame_keep h)

theorem execJoinAcceptTx_keep {x0 x1} (h1 : Keep b s0 x1) : KeepR b s0 (execJoinAcceptTx x0 x1) := by
  unfold execJoinAcceptTx
  apply KeepR.next
  split
  · exact Keep.ite (fun _ => joinAccept_keep h1) (fun _ => h1)
  · exact h1

/-! ### Transmit -/

theorem putWake_keep {x0 x1 x2} (h0 : Keep b s0 x0) : Keep b s0 (putWake x0 x1 x2) := by
  unfold putWake
  repeat' (first
    | (with_reducible assumption)
    | (with_reducible apply Keep.ite <;> with_reducible intro _)
    | (with_reducible intro _)
    | (with_reducible apply Keep.mk; with_reducible first | apply Kept.of | (apply Kept.send; apply Kept.of)))

theorem dropWake_keep {x0 x1} (h0 : Keep b s0 x0) : Keep b s0 (dropWake x0 x1) := by
  unfold dropWake
  repeat' (first
    | (with_reducible assumption)
    | (with_reducible apply Keep.ite <;> with_reducible intro _)
    | (with_reducible apply listen_keep)
    | (with_reducible intro _)
    | (with_reducible apply Keep.mk; with_reducible first | apply Kept.of | (apply Kept.send; apply Kept.of)))

theorem wakeFinish_keep {x0 x1 x2 x3 x4} (h0 : Keep b s0 x0) : Keep b s0 (wakeFinish x0 x1 x2 x3 x4) := by
  unfold wakeFinish
  repeat' (first
    | (with_reducible assumption)
    | (with_reducible apply Keep.ite <;> with_reducible intro _)
    | (with_reducible apply finish_keep)
    | (with_reducible apply dropWake_keep)
    | (with_reducible apply listen_keep)
    | (with_reducible apply putWake_keep)
    | (with_reducible intro _)
    | (extract_lets)
    | split
    | (dsimp +zetaDelta only)
    | (with_reducible apply Keep.mk; with_reducible first | apply Kept.of | (apply Kept.send; apply Kept.of)))

theorem bcnSkip_keep {x0 x1 x2 x3} (h0 : Keep b s0 x0) : Keep b s0 (bcnSkip x0 x1 x2 x3) := by
  unfold bcnSkip
  repeat' (first
    | (with_reducible assumption)
    | (with_reducible apply Keep.ite <;> with_reducible intro _)
    | (with_reducible apply setCause_keep)
    | (with_reducible apply State.event_keep)
    | (with_reducible apply State.count_keep)
    | (with_reducible intro _))

theorem beaconEnds_keep {x0 x1 x2 x3} (h0 : Keep b s0 x0) : Keep b s0 (beaconEnds x0 x1 x2 x3) := by
  unfold beaconEnds
  repeat' (first
    | (with_reducible assumption)
    | (with_reducible apply Keep.ite <;> with_reducible intro _)
    | (with_reducible apply withheld_keep)
    | (with_reducible apply bcnSkip_keep)
    | (with_reducible apply State.setFld_keep)
    | (with_reducible apply State.count_keep)
    | (with_reducible intro _)
    | (extract_lets)
    | split
    | (dsimp +zetaDelta only)
    | (with_reducible apply Keep.mk; with_reducible first | apply Kept.of | (apply Kept.send; apply Kept.of)))

theorem setTref_keep {x0 x1 x2 x3} (h0 : Keep b s0 x0) : Keep b s0 (setTref x0 x1 x2 x3) := by
  unfold setTref
  repeat' (first
    | (with_reducible assumption)
    | (with_reducible apply Keep.ite <;> with_reducible intro _)
    | (with_reducible apply pSet_keep)
    | (with_reducible intro _)
    | (extract_lets)
    | (with_reducible apply Keep.mk; with_reducible first | apply Kept.of | (apply Kept.send; apply Kept.of))
    | (dsimp +zetaDelta only))

theorem attemptCut_keep {x0 x1} (h0 : Keep b s0 x0) : Keep b s0 (attemptCut x0 x1) := by
  unfold attemptCut
  repeat' (first
    | (with_reducible assumption)
    | (with_reducible apply Keep.ite <;> with_reducible intro _)
    | (with_reducible apply putDl_keep)
    | (with_reducible apply dlOutcome_keep)
    | (with_reducible apply placeRelay_keep)
    | (with_reducible intro _)
    | (extract_lets)
    | split
    | (dsimp +zetaDelta only)
    | (with_reducible apply Keep.mk; with_reducible first | apply Kept.of | (apply Kept.send; apply Kept.of)))

theorem attemptTxEnds_keep {x0 x1 x2 x3} (h0 : Keep b s0 x0) : Keep b s0 (attemptTxEnds x0 x1 x2 x3) := by
  unfold attemptTxEnds
  repeat' (first
    | (with_reducible assumption)
    | (with_reducible apply Keep.ite <;> with_reducible intro _)
    | (with_reducible apply withheld_keep)
    | (with_reducible apply attemptMade_keep)
    | (with_reducible apply dlOutcome_keep)
    | (with_reducible apply attemptEnds_keep)
    | (with_reducible apply attemptCut_keep)
    | (with_reducible intro _)
    | (extract_lets)
    | split
    | (dsimp +zetaDelta only)
    | (with_reducible apply Keep.mk; with_reducible first | apply Kept.of | (apply Kept.send; apply Kept.of)))

theorem wakeFollows_keep {x0 x1 x2 x3} (h0 : Keep b s0 x0) : Keep b s0 (wakeFollows x0 x1 x2 x3) := by
  unfold wakeFollows
  repeat' (first
    | (with_reducible assumption)
    | (with_reducible apply Keep.ite <;> with_reducible intro _)
    | (with_reducible apply dropWake_keep)
    | (with_reducible apply putWake_keep)
    | (with_reducible intro _)
    | split
    | (dsimp +zetaDelta only)
    | (with_reducible apply Keep.mk; with_reducible first | apply Kept.of | (apply Kept.send; apply Kept.of)))

theorem peerSent_keep {x0 x1 x2} (h0 : Keep b s0 x0) : Keep b s0 (peerSent x0 x1 x2) := by
  unfold peerSent
  repeat' (first
    | (with_reducible assumption)
    | (with_reducible apply Keep.ite <;> with_reducible intro _)
    | (with_reducible apply State.setLane_keep)
    | (with_reducible intro _)
    | split
    | (with_reducible apply Keep.mk; with_reducible first | apply Kept.of | (apply Kept.send; apply Kept.of)))

theorem downlinkEnds_keep {x0 x1 x2 x3} (h0 : Keep b s0 x0) : Keep b s0 (downlinkEnds x0 x1 x2 x3) := by
  unfold downlinkEnds
  repeat' (first
    | (with_reducible assumption)
    | (with_reducible apply Keep.ite <;> with_reducible intro _)
    | (with_reducible apply peerSent_keep)
    | (with_reducible apply attemptTxEnds_keep)
    | (with_reducible apply putWake_keep)
    | (with_reducible apply wakeFollows_keep)
    | (with_reducible intro _)
    | (extract_lets)
    | split
    | (dsimp +zetaDelta only)
    | (with_reducible apply Keep.mk; with_reducible first | apply Kept.of | (apply Kept.send; apply Kept.of)))

theorem ackEnds_keep {x0 x1 x2 x3} (h0 : Keep b s0 x0) : Keep b s0 (ackEnds x0 x1 x2 x3) := by
  unfold ackEnds
  repeat' (first
    | (with_reducible assumption)
    | (with_reducible apply Keep.ite <;> with_reducible intro _)
    | (with_reducible apply withheld_keep)
    | (with_reducible apply peerSent_keep)
    | (with_reducible apply attemptTxEnds_keep)
    | (with_reducible apply State.count_keep)
    | (with_reducible apply setTref_keep)
    | (with_reducible intro _)
    | (extract_lets)
    | split
    | (dsimp +zetaDelta only)
    | (with_reducible apply Keep.mk; with_reducible first | apply Kept.of | (apply Kept.send; apply Kept.of)))

theorem joinEnds_keep {x0 x1 x2} (h0 : Keep b s0 x0) : Keep b s0 (joinEnds x0 x1 x2) := by
  unfold joinEnds
  repeat' (first
    | (with_reducible assumption)
    | (with_reducible apply Keep.ite <;> with_reducible intro _)
    | (with_reducible apply joinSent_keep)
    | (with_reducible apply joinDefer_keep)
    | (with_reducible intro _)
    | split
    | (dsimp +zetaDelta only))

theorem wakeEnds_keep {x0 x1 x2} (h0 : Keep b s0 x0) : Keep b s0 (wakeEnds x0 x1 x2) := by
  unfold wakeEnds
  repeat' (first
    | (with_reducible assumption)
    | (with_reducible apply Keep.ite <;> with_reducible intro _)
    | (with_reducible apply withheld_keep)
    | (with_reducible apply finish_keep)
    | (with_reducible apply State.count_keep)
    | (with_reducible apply dlOutcome_keep)
    | (with_reducible apply dropWake_keep)
    | (with_reducible apply attemptEnds_keep)
    | (with_reducible apply attemptMade_keep)
    | (with_reducible apply wakeFinish_keep)
    | (with_reducible apply putWake_keep)
    | (with_reducible apply receiveOn_keep)
    | (with_reducible intro _)
    | (extract_lets)
    | split
    | (dsimp +zetaDelta only)
    | (with_reducible apply Keep.mk; with_reducible first | apply Kept.of | (apply Kept.send; apply Kept.of)))

theorem txEnds_keep {x0 x1 x2 x3} (h0 : Keep b s0 x0) : Keep b s0 (txEnds x0 x1 x2 x3) := by
  unfold txEnds
  repeat' (first
    | (with_reducible assumption)
    | (with_reducible apply Keep.ite <;> with_reducible intro _)
    | (with_reducible apply beaconEnds_keep)
    | (with_reducible apply ackEnds_keep)
    | (with_reducible apply downlinkEnds_keep)
    | (with_reducible apply joinEnds_keep)
    | (with_reducible apply wakeEnds_keep)
    | (with_reducible apply mcastSent_keep)
    | (with_reducible apply mcastMissed_keep)
    | (with_reducible intro _)
    | split
    | (dsimp +zetaDelta only))

theorem giveBack_keep {x0 x1 x2} (h0 : Keep b s0 x0) : Keep b s0 (giveBack x0 x1 x2) := by
  unfold giveBack
  repeat' (first
    | (with_reducible assumption)
    | (with_reducible apply Keep.ite <;> with_reducible intro _)
    | (with_reducible apply radioCharge_keep)
    | (with_reducible apply refund_keep)
    | (with_reducible intro _)
    | split
    | (dsimp +zetaDelta only)
    | (with_reducible apply Keep.mk; with_reducible first | apply Kept.of | (apply Kept.send; apply Kept.of)))

theorem shaped_keep {x0 x1 x2} (h0 : Keep b s0 x0) : Keep b s0 (shaped x0 x1 x2).2 := by
  unfold shaped
  repeat' (first
    | (with_reducible assumption)
    | (with_reducible apply Keep.ite <;> with_reducible intro _)
    | (with_reducible apply State.count_keep)
    | (with_reducible intro _)
    | (extract_lets)
    | split
    | (with_reducible refine Keep.snd ?_ (by with_reducible assumption))
    | (with_reducible refine Keep.trd ?_ (by with_reducible assumption))
    | (with_reducible apply Keep.ite_fst <;> with_reducible intro _)
    | (with_reducible apply Keep.ite_snd <;> with_reducible intro _)
    | (with_reducible apply Keep.foldl_snd <;> [intro _ _ _; skip])
    | (with_reducible apply Keep.foldl_fst <;> [intro _ _ _; skip])
    | (dsimp +zetaDelta only)
    | (with_reducible apply Keep.mk; with_reducible first | apply Kept.of | (apply Kept.send; apply Kept.of)))

theorem swapTx_keep {x0 x1 x2 x3} (h0 : Keep b s0 x0) : Keep b s0 (swapTx x0 x1 x2 x3) := by
  unfold swapTx
  repeat' (first
    | (with_reducible assumption)
    | (with_reducible apply Keep.ite <;> with_reducible intro _)
    | (with_reducible apply setTxs_keep)
    | (with_reducible intro _)
    | (extract_lets)
    | split
    | (dsimp +zetaDelta only))

theorem grantRequest_keep {x0 x1} (h0 : Keep b s0 x0) : Keep b s0 (grantRequest x0 x1) := by
  unfold grantRequest
  repeat' (first
    | (with_reducible assumption)
    | (with_reducible apply Keep.ite <;> with_reducible intro _)
    | (with_reducible apply withheld_keep)
    | (with_reducible apply shaped_keep)
    | (with_reducible apply downlinkEnds_keep)
    | (with_reducible apply swapTx_keep)
    | (with_reducible apply grant_keep)
    | (with_reducible apply txEnds_keep)
    | (with_reducible apply radioCharge_keep)
    | (with_reducible intro _)
    | (extract_lets)
    | split
    | (with_reducible refine Keep.snd ?_ (by with_reducible assumption))
    | (with_reducible refine Keep.trd ?_ (by with_reducible assumption))
    | (with_reducible apply Keep.ite_fst <;> with_reducible intro _)
    | (with_reducible apply Keep.ite_snd <;> with_reducible intro _)
    | (with_reducible apply Keep.foldl_snd <;> [intro _ _ _; skip])
    | (with_reducible apply Keep.foldl_fst <;> [intro _ _ _; skip])
    | (dsimp +zetaDelta only)
    | (with_reducible apply Keep.mk; with_reducible first | apply Kept.of | (apply Kept.send; apply Kept.of)))

theorem execGrantRequest_keep {x0 x1} (h1 : Keep b s0 x1) : KeepR b s0 (execGrantRequest x0 x1) := by
  unfold execGrantRequest
  repeat' (first
    | (with_reducible assumption)
    | (with_reducible apply KeepR.next)
    | (with_reducible apply KeepR.ite <;> with_reducible intro _)
    | (with_reducible apply Keep.ite <;> with_reducible intro _)
    | (with_reducible apply grantRequest_keep)
    | (with_reducible intro _)
    | split)

theorem buildAck_keep {x0 x1 x2 x3 x4 x5} (h0 : Keep b s0 x0) : Keep b s0 (buildAck x0 x1 x2 x3 x4 x5).2.2 := by
  unfold buildAck
  split
  · exact h0
  · exact h0
  · rename_i ht
    exact ccmProtect_keep (takeFcnt_keep h0 ht)

theorem buildTx_keep {x0 x1} (h0 : Keep b s0 x0) : Keep b s0 (buildTx x0 x1).2.2 := by
  unfold buildTx
  split
  · exact h0
  · exact h0
  · exact usedUp_keep (buildAck_keep h0)
  · exact buildHead_keep h0

theorem abortGap_keep {x0 x1} (h0 : Keep b s0 x0) : Keep b s0 (abortGap x0 x1) := by
  unfold abortGap
  repeat' (first
    | (with_reducible assumption)
    | (with_reducible apply Keep.ite <;> with_reducible intro _)
    | (with_reducible apply settle_keep)
    | (with_reducible apply abortCal_keep)
    | (with_reducible intro _)
    | split
    | (with_reducible apply Keep.mk; with_reducible first | apply Kept.of | (apply Kept.send; apply Kept.of)))

theorem txRequest_keep {x0 x1} (h0 : Keep b s0 x0) : Keep b s0 (txRequest x0 x1) := by
  unfold txRequest
  repeat' (first
    | (with_reducible assumption)
    | (with_reducible apply Keep.ite <;> with_reducible intro _)
    | (with_reducible apply tryGap_keep)
    | (with_reducible apply withheld_keep)
    | (with_reducible apply abortGap_keep)
    | (with_reducible apply txEnds_keep)
    | (with_reducible apply swapTx_keep)
    | (with_reducible apply giveBack_keep)
    | (with_reducible apply buildTx_keep)
    | (with_reducible apply releaseNode_keep)
    | (with_reducible apply settle_keep)
    | (with_reducible intro _)
    | (extract_lets)
    | split
    | (with_reducible refine Keep.snd ?_ (by with_reducible assumption))
    | (with_reducible refine Keep.trd ?_ (by with_reducible assumption))
    | (with_reducible apply Keep.ite_fst <;> with_reducible intro _)
    | (with_reducible apply Keep.ite_snd <;> with_reducible intro _)
    | (with_reducible apply Keep.foldl_snd <;> [intro _ _ _; skip])
    | (with_reducible apply Keep.foldl_fst <;> [intro _ _ _; skip])
    | (dsimp +zetaDelta only)
    | (with_reducible apply Keep.mk; with_reducible first | apply Kept.of | (apply Kept.send; apply Kept.of)))

theorem execTxRequest_keep {x0 x1} (h1 : Keep b s0 x1) : KeepR b s0 (execTxRequest x0 x1) := by
  unfold execTxRequest
  repeat' (first
    | (with_reducible assumption)
    | (with_reducible apply KeepR.next)
    | (with_reducible apply KeepR.ite <;> with_reducible intro _)
    | (with_reducible apply Keep.ite <;> with_reducible intro _)
    | (with_reducible apply txRequest_keep)
    | (with_reducible intro _)
    | split)

theorem moveStart_keep {x0 x1 x2 x3} (h0 : Keep b s0 x0) : Keep b s0 (moveStart x0 x1 x2 x3) := by
  unfold moveStart
  repeat' (first
    | (with_reducible assumption)
    | (with_reducible apply Keep.ite <;> with_reducible intro _)
    | (with_reducible apply swapTx_keep)
    | (with_reducible apply recharge_keep)
    | (with_reducible intro _)
    | (extract_lets)
    | (with_reducible apply Keep.mk; with_reducible first | apply Kept.of | (apply Kept.send; apply Kept.of)))

theorem lbtSenseEnd_keep {x0 x1 x2} (h0 : Keep b s0 x0) : Keep b s0 (lbtSenseEnd x0 x1 x2) := by
  unfold lbtSenseEnd
  repeat' (first
    | (with_reducible assumption)
    | (with_reducible apply Keep.ite <;> with_reducible intro _)
    | (with_reducible apply swapTx_keep)
    | (with_reducible apply setCause_keep)
    | (with_reducible apply State.count_keep)
    | (with_reducible apply settle_keep)
    | (with_reducible apply txEnds_keep)
    | (with_reducible apply withheld_keep)
    | (with_reducible apply giveBack_keep)
    | (with_reducible apply generate_keep)
    | (with_reducible apply moveStart_keep)
    | (with_reducible intro _)
    | (extract_lets)
    | split
    | (with_reducible refine Keep.snd ?_ (by with_reducible assumption))
    | (with_reducible refine Keep.trd ?_ (by with_reducible assumption))
    | (dsimp +zetaDelta only)
    | (with_reducible apply Keep.mk; with_reducible first | apply Kept.of | (apply Kept.send; apply Kept.of)))

theorem execLbtSenseEnd_keep {x0 x1 x2} (h2 : Keep b s0 x2) : KeepR b s0 (execLbtSenseEnd x0 x1 x2) := by
  unfold execLbtSenseEnd
  repeat' (first
    | (with_reducible assumption)
    | (with_reducible apply KeepR.next)
    | (with_reducible apply KeepR.ite <;> with_reducible intro _)
    | (with_reducible apply Keep.ite <;> with_reducible intro _)
    | (with_reducible apply lbtSenseEnd_keep)
    | (with_reducible intro _)
    | split)

theorem gateAbort_keep {x0 x1 x2 x3} (h0 : Keep b s0 x0) : Keep b s0 (gateAbort x0 x1 x2 x3) := by
  unfold gateAbort
  repeat' (first
    | (with_reducible assumption)
    | (with_reducible apply Keep.ite <;> with_reducible intro _)
    | (with_reducible apply settle_keep)
    | (with_reducible apply setCause_keep)
    | (with_reducible apply State.count_keep)
    | (with_reducible apply State.send_keep)
    | (with_reducible apply giveBack_keep)
    | (with_reducible apply txEnds_keep)
    | (with_reducible apply swapTx_keep)
    | (with_reducible intro _)
    | (extract_lets)
    | split
    | (dsimp +zetaDelta only))

theorem gateCheck_keep {x0} (h0 : Keep b s0 x0) : Keep b s0 (gateCheck x0) := by
  unfold gateCheck
  repeat' (first
    | (with_reducible assumption)
    | (with_reducible apply Keep.ite <;> with_reducible intro _)
    | (with_reducible apply gateAbort_keep)
    | (with_reducible apply Keep.foldl <;> [intro _ _ _; skip])
    | (with_reducible intro _)
    | split
    | (dsimp +zetaDelta only))

theorem turnaround_keep {x0 x1} (h0 : Keep b s0 x0) : Keep b s0 (turnaround x0 x1) := by
  unfold turnaround
  repeat' (first
    | (with_reducible assumption)
    | (with_reducible apply Keep.ite <;> with_reducible intro _)
    | (with_reducible apply gateAbort_keep)
    | (with_reducible apply ctxPreempt_keep)
    | (with_reducible apply correctCharge_keep)
    | (with_reducible apply swapTx_keep)
    | (with_reducible apply State.setLane_keep)
    | (with_reducible apply enterState_keep)
    | (with_reducible intro _)
    | (extract_lets)
    | split
    | (with_reducible refine Keep.snd ?_ (by with_reducible assumption))
    | (with_reducible refine Keep.trd ?_ (by with_reducible assumption))
    | (dsimp +zetaDelta only)
    | (with_reducible apply Keep.mk; with_reducible first | apply Kept.of | (apply Kept.send; apply Kept.of)))

theorem execTxTurnaroundStart_keep {x0 x1} (h1 : Keep b s0 x1) : KeepR b s0 (execTxTurnaroundStart x0 x1) := by
  unfold execTxTurnaroundStart
  repeat' (first
    | (with_reducible assumption)
    | (with_reducible apply KeepR.next)
    | (with_reducible apply KeepR.ite <;> with_reducible intro _)
    | (with_reducible apply Keep.ite <;> with_reducible intro _)
    | (with_reducible apply turnaround_keep)
    | (with_reducible intro _)
    | split)

theorem noteMapUse_keep {x0 x1 x2} (h0 : Keep b s0 x0) : Keep b s0 (noteMapUse x0 x1 x2) := by
  unfold noteMapUse
  repeat' (first
    | (with_reducible assumption)
    | (with_reducible apply Keep.ite <;> with_reducible intro _)
    | (with_reducible apply pSet_keep)
    | (with_reducible apply pSetBits_keep)
    | (with_reducible intro _)
    | split)

theorem radiate_keep {x0 x1 x2} (h0 : Keep b s0 x0) : Keep b s0 (radiate x0 x1 x2) := by
  unfold radiate
  repeat' (first
    | (with_reducible assumption)
    | (with_reducible apply Keep.ite <;> with_reducible intro _)
    | (with_reducible apply noteMapUse_keep)
    | (with_reducible apply State.send_keep)
    | (with_reducible apply State.count_keep)
    | (with_reducible intro _)
    | (extract_lets)
    | split
    | (dsimp +zetaDelta only)
    | (with_reducible apply Keep.mk; with_reducible first | apply Kept.of | (apply Kept.send; apply Kept.of)))

theorem txEnd_keep {x0 x1} (h0 : Keep b s0 x0) : Keep b s0 (txEnd x0 x1) := by
  unfold txEnd
  repeat' (first
    | (with_reducible assumption)
    | (with_reducible apply Keep.ite <;> with_reducible intro _)
    | (with_reducible apply State.setLane_keep)
    | (with_reducible apply settle_keep)
    | (with_reducible apply txEnds_keep)
    | (with_reducible apply swapTx_keep)
    | (with_reducible apply radiate_keep)
    | (with_reducible intro _)
    | split
    | (dsimp +zetaDelta only)
    | (extract_lets)
    | (with_reducible apply Keep.mk; with_reducible first | apply Kept.of | (apply Kept.send; apply Kept.of)))

theorem execTxEnd_keep {x0 x1} (h1 : Keep b s0 x1) : KeepR b s0 (execTxEnd x0 x1) := by
  unfold execTxEnd
  repeat' (first
    | (with_reducible assumption)
    | (with_reducible apply KeepR.next)
    | (with_reducible apply KeepR.ite <;> with_reducible intro _)
    | (with_reducible apply Keep.ite <;> with_reducible intro _)
    | (with_reducible apply txEnd_keep)
    | (with_reducible intro _)
    | split)

theorem lateNoted_keep {x0 x1 x2 x3} (h0 : Keep b s0 x0) : Keep b s0 (lateNoted x0 x1 x2 x3) := by
  unfold lateNoted
  repeat' (first
    | (with_reducible assumption)
    | (with_reducible apply Keep.ite <;> with_reducible intro _)
    | (with_reducible apply State.event_keep)
    | (with_reducible apply setCause_keep)
    | (with_reducible apply State.count_keep)
    | (with_reducible intro _)
    | (extract_lets))

theorem txLate_keep {x0 x1} (h0 : Keep b s0 x0) : Keep b s0 (txLate x0 x1) := by
  unfold txLate
  repeat' (first
    | (with_reducible assumption)
    | (with_reducible apply Keep.ite <;> with_reducible intro _)
    | (with_reducible apply lateNoted_keep)
    | (with_reducible apply txEnds_keep)
    | (with_reducible apply swapTx_keep)
    | (with_reducible apply giveBack_keep)
    | (with_reducible apply settle_keep)
    | (with_reducible intro _)
    | (extract_lets)
    | split
    | (dsimp +zetaDelta only)
    | (with_reducible apply Keep.mk; with_reducible first | apply Kept.of | (apply Kept.send; apply Kept.of)))

theorem execTxLate_keep {x0 x1} (h1 : Keep b s0 x1) : KeepR b s0 (execTxLate x0 x1) := by
  unfold execTxLate
  repeat' (first
    | (with_reducible assumption)
    | (with_reducible apply KeepR.next)
    | (with_reducible apply KeepR.ite <;> with_reducible intro _)
    | (with_reducible apply Keep.ite <;> with_reducible intro _)
    | (with_reducible apply txLate_keep)
    | (with_reducible intro _)
    | split)

theorem addTx_keep {x0 x1 x2} (h0 : Keep b s0 x0) : Keep b s0 (addTx x0 x1 x2) := by
  unfold addTx
  repeat' (first
    | (with_reducible assumption)
    | (with_reducible apply Keep.ite <;> with_reducible intro _)
    | (with_reducible apply setTxs_keep)
    | (with_reducible intro _))

theorem followOfdm_keep {x0 x1 x2} (h0 : Keep b s0 x0) : Keep b s0 (followOfdm x0 x1 x2) := by
  unfold followOfdm
  repeat' (first
    | (with_reducible assumption)
    | (with_reducible apply Keep.ite <;> with_reducible intro _)
    | (with_reducible apply pSetBits_keep)
    | (with_reducible intro _)
    | (extract_lets)
    | split
    | (with_reducible apply Keep.mk; with_reducible first | apply Kept.of | (apply Kept.send; apply Kept.of)))

theorem followModes_keep {x0 x1 x2} (h0 : Keep b s0 x0) : Keep b s0 (followModes x0 x1 x2) := by
  unfold followModes
  repeat' (first
    | (with_reducible assumption)
    | (with_reducible apply Keep.ite <;> with_reducible intro _)
    | (with_reducible apply followOfdm_keep)
    | (with_reducible intro _)
    | (extract_lets)
    | split
    | (with_reducible refine Keep.snd ?_ (by with_reducible assumption))
    | (with_reducible refine Keep.trd ?_ (by with_reducible assumption))
    | (dsimp +zetaDelta only)
    | (with_reducible apply Keep.mk; with_reducible first | apply Kept.of | (apply Kept.send; apply Kept.of)))

theorem adaptDefer_keep {x0 x1 x2 x3} (h0 : Keep b s0 x0) : Keep b s0 (adaptDefer x0 x1 x2 x3) := by
  unfold adaptDefer
  repeat' (first
    | (with_reducible assumption)
    | (with_reducible apply Keep.ite <;> with_reducible intro _)
    | (with_reducible apply setCause_keep)
    | (with_reducible apply State.event_keep)
    | (with_reducible apply State.count_keep)
    | (with_reducible intro _))

theorem withdrawChange_keep {x0 x1} (h0 : Keep b s0 x0) : Keep b s0 (withdrawChange x0 x1) := by
  unfold withdrawChange
  repeat' (first
    | (with_reducible assumption)
    | (with_reducible apply Keep.ite <;> with_reducible intro _)
    | (with_reducible apply setAdaptState_keep)
    | (with_reducible apply dropAssign_keep)
    | (with_reducible apply adaptDefer_keep)
    | (with_reducible apply leaveMailbox_keep)
    | (with_reducible intro _)
    | (extract_lets)
    | split
    | (dsimp +zetaDelta only)
    | (with_reducible apply Keep.mk; with_reducible first | apply Kept.of | (apply Kept.send; apply Kept.of)))

theorem stopCmd_keep {x0 x1} (h0 : Keep b s0 x0) : Keep b s0 (stopCmd x0 x1) := by
  unfold stopCmd
  repeat' (first
    | (with_reducible assumption)
    | (with_reducible apply Keep.ite <;> with_reducible intro _)
    | (with_reducible apply finish_keep)
    | (with_reducible intro _)
    | split
    | (with_reducible apply Keep.mk; with_reducible first | apply Kept.of | (apply Kept.send; apply Kept.of)))

theorem markTried_keep {x0 x1} (h0 : Keep b s0 x0) : Keep b s0 (markTried x0 x1) := by
  unfold markTried
  repeat' (first
    | (with_reducible assumption)
    | (with_reducible apply Keep.ite <;> with_reducible intro _)
    | (with_reducible apply State.setLane_keep)
    | (with_reducible intro _)
    | split
    | (with_reducible apply Keep.mk; with_reducible first | apply Kept.of | (apply Kept.send; apply Kept.of)))

theorem addAnswer_keep {x0 x1 x2 x3 x4} (h0 : Keep b s0 x0) (h4 : Keep b s0 x4) : Keep b s0 (addAnswer x0 x1 x2 x3 x4) := by
  unfold addAnswer
  repeat' (first
    | (with_reducible assumption)
    | (with_reducible apply Keep.ite <;> with_reducible intro _)
    | (with_reducible apply addTx_keep)
    | (with_reducible intro _)
    | split
    | (with_reducible apply Keep.mk; with_reducible first | apply Kept.of | (apply Kept.send; apply Kept.of)))

theorem ackAnswer_keep {x0 x1 x2} (h0 : Keep b s0 x0) : Keep b s0 (ackAnswer x0 x1 x2) := by
  unfold ackAnswer
  repeat' (first
    | (with_reducible assumption)
    | (with_reducible apply Keep.ite <;> with_reducible intro _)
    | (with_reducible apply followModes_keep)
    | (with_reducible apply addAnswer_keep)
    | (with_reducible apply markTried_keep)
    | (with_reducible intro _)
    | (extract_lets)
    | split
    | (dsimp +zetaDelta only)
    | (with_reducible apply Keep.mk; with_reducible first | apply Kept.of | (apply Kept.send; apply Kept.of)))

theorem ackRelayed_keep {x0 x1} (h0 : Keep b s0 x0) : Keep b s0 (ackRelayed x0 x1) := by
  unfold ackRelayed
  have h := buildAck_keep (x1 := x1.parcel) (x2 := x1.tcorr) (x3 := x1.fcntLo) (x4 := false) (x5 := true) h0
  dsimp only
  split
  · have h := Keep.trd h ‹_›
    split
    · exact enterMailbox_keep h ‹_›
    · exact h
  · have h := Keep.trd h ‹_›
    exact Keep.ite (fun _ => releaseNode_keep h) (fun _ => h)

theorem ackSend_keep {x0 x1} (h0 : Keep b s0 x0) : Keep b s0 (ackSend x0 x1) := by
  unfold ackSend
  split
  · exact h0
  · exact Keep.ite (fun _ => ackRelayed_keep (State.setLane_keep h0)) (fun _ => ackAnswer_keep (withdrawChange_keep (State.setLane_keep h0)))

theorem execAckSend_keep {x0 x1} (h1 : Keep b s0 x1) : KeepR b s0 (execAckSend x0 x1) := by
  unfold execAckSend
  repeat' (first
    | (with_reducible assumption)
    | (with_reducible apply KeepR.next)
    | (with_reducible apply KeepR.ite <;> with_reducible intro _)
    | (with_reducible apply Keep.ite <;> with_reducible intro _)
    | (with_reducible apply ackSend_keep)
    | (with_reducible intro _)
    | split)

theorem occurrenceSend_keep {x0 x1 x2} (h0 : Keep b s0 x0) : Keep b s0 (occurrenceSend x0 x1 x2) := by
  unfold occurrenceSend
  repeat' (first
    | (with_reducible assumption)
    | (with_reducible apply Keep.ite <;> with_reducible intro _)
    | (with_reducible apply State.setLane_keep)
    | (with_reducible apply addTx_keep)
    | (with_reducible intro _)
    | (extract_lets)
    | split
    | (dsimp +zetaDelta only)
    | (with_reducible apply Keep.mk; with_reducible first | apply Kept.of | (apply Kept.send; apply Kept.of)))

theorem occurrenceAttempt_keep {x0 x1 x2} (h0 : Keep b s0 x0) : Keep b s0 (occurrenceAttempt x0 x1 x2) := by
  unfold occurrenceAttempt
  repeat' (first
    | (with_reducible assumption)
    | (with_reducible apply Keep.ite <;> with_reducible intro _)
    | (with_reducible apply followModes_keep)
    | (with_reducible apply occurrenceSend_keep)
    | (with_reducible apply withdrawChange_keep)
    | (with_reducible intro _))

theorem wakeNext_keep {x0 x1 x2 x3} (h0 : Keep b s0 x0) : Keep b s0 (wakeNext x0 x1 x2 x3) := by
  unfold wakeNext
  repeat' (first
    | (with_reducible assumption)
    | (with_reducible apply Keep.ite <;> with_reducible intro _)
    | (with_reducible apply addAnswer_keep)
    | (with_reducible apply dropWake_keep)
    | (with_reducible apply putWake_keep)
    | (with_reducible intro _)
    | split
    | (with_reducible apply Keep.mk; with_reducible first | apply Kept.of | (apply Kept.send; apply Kept.of)))

theorem wakeAttempt_keep {x0 x1} (h0 : Keep b s0 x0) : Keep b s0 (wakeAttempt x0 x1) := by
  unfold wakeAttempt
  repeat' (first
    | (with_reducible assumption)
    | (with_reducible apply Keep.ite <;> with_reducible intro _)
    | (with_reducible apply wakeNext_keep)
    | (with_reducible apply withdrawChange_keep)
    | (with_reducible intro _)
    | split
    | (with_reducible apply Keep.mk; with_reducible first | apply Kept.of | (apply Kept.send; apply Kept.of)))

theorem dlAttempt_keep {x0 x1} (h0 : Keep b s0 x0) : Keep b s0 (dlAttempt x0 x1) := by
  unfold dlAttempt
  repeat' (first
    | (with_reducible assumption)
    | (with_reducible apply Keep.ite <;> with_reducible intro _)
    | (with_reducible apply wakeAttempt_keep)
    | (with_reducible apply occurrenceAttempt_keep)
    | (with_reducible intro _)
    | split
    | (dsimp +zetaDelta only)
    | (with_reducible apply Keep.mk; with_reducible first | apply Kept.of | (apply Kept.send; apply Kept.of)))

theorem execDlAttempt_keep {x0 x1} (h1 : Keep b s0 x1) : KeepR b s0 (execDlAttempt x0 x1) := by
  unfold execDlAttempt
  repeat' (first
    | (with_reducible assumption)
    | (with_reducible apply KeepR.next)
    | (with_reducible apply KeepR.ite <;> with_reducible intro _)
    | (with_reducible apply Keep.ite <;> with_reducible intro _)
    | (with_reducible apply dlAttempt_keep)
    | (with_reducible intro _)
    | split)

/-! ### Mac -/

theorem contBytes_keep {x0 x1 x2} (h0 : Keep b s0 x0) : Keep b s0 (contBytes x0 x1 x2).2 := by
  unfold contBytes
  repeat' (first
    | (with_reducible assumption)
    | (with_reducible apply Keep.ite <;> with_reducible intro _)
    | (with_reducible apply drawBytes_keep)
    | (with_reducible intro _)
    | (extract_lets)
    | split
    | (with_reducible refine Keep.snd ?_ (by with_reducible assumption))
    | (with_reducible refine Keep.trd ?_ (by with_reducible assumption))
    | (with_reducible apply Keep.ite_fst <;> with_reducible intro _)
    | (with_reducible apply Keep.ite_snd <;> with_reducible intro _)
    | (with_reducible apply Keep.foldl_snd <;> [intro _ _ _; skip])
    | (with_reducible apply Keep.foldl_fst <;> [intro _ _ _; skip]))

theorem beaconFrame_keep {x0 x1 x2 x3} (h0 : Keep b s0 x0) : Keep b s0 (beaconFrame x0 x1 x2 x3).2 := by
  unfold beaconFrame
  repeat' (first
    | (with_reducible assumption)
    | (with_reducible apply Keep.ite <;> with_reducible intro _)
    | (with_reducible apply contBytes_keep)
    | (with_reducible apply ccmProtect_keep)
    | (with_reducible intro _)
    | (extract_lets)
    | split
    | (with_reducible refine Keep.snd ?_ (by with_reducible assumption))
    | (with_reducible refine Keep.trd ?_ (by with_reducible assumption))
    | (with_reducible apply Keep.ite_fst <;> with_reducible intro _)
    | (with_reducible apply Keep.ite_snd <;> with_reducible intro _)
    | (with_reducible apply Keep.foldl_snd <;> [intro _ _ _; skip])
    | (with_reducible apply Keep.foldl_fst <;> [intro _ _ _; skip])
    | (with_reducible apply Keep.mk; with_reducible first | apply Kept.of | (apply Kept.send; apply Kept.of)))

theorem beaconStart_keep {x0 x1 x2 x3 x4} (h0 : Keep b s0 x0) : Keep b s0 (beaconStart x0 x1 x2 x3 x4) := by
  unfold beaconStart
  repeat' (first
    | (with_reducible assumption)
    | (with_reducible apply Keep.ite <;> with_reducible intro _)
    | (with_reducible apply listen_keep)
    | (with_reducible apply abortGap_keep)
    | (with_reducible apply bcnSkip_keep)
    | (with_reducible apply refund_keep)
    | (with_reducible apply lateNoted_keep)
    | (with_reducible apply setCause_keep)
    | (with_reducible apply State.count_keep)
    | (with_reducible apply ctxPreempt_keep)
    | (with_reducible apply State.setLane_keep)
    | (with_reducible apply enterState_keep)
    | (with_reducible intro _)
    | (extract_lets)
    | split
    | (dsimp +zetaDelta only)
    | (with_reducible apply Keep.mk; with_reducible first | apply Kept.of | (apply Kept.send; apply Kept.of)))

theorem beacon_keep {x0 x1 x2 x3 x4 x5} (h0 : Keep b s0 x0) : Keep b s0 (beacon x0 x1 x2 x3 x4 x5) := by
  unfold beacon
  repeat' (first
    | (with_reducible assumption)
    | (with_reducible apply Keep.ite <;> with_reducible intro _)
    | (with_reducible apply grant_keep)
    | (with_reducible apply bcnSkip_keep)
    | (with_reducible apply withheld_keep)
    | (with_reducible apply refund_keep)
    | (with_reducible apply setCause_keep)
    | (with_reducible apply State.count_keep)
    | (with_reducible apply beaconFrame_keep)
    | (with_reducible apply beaconStart_keep)
    | (with_reducible intro _)
    | (extract_lets)
    | split
    | (with_reducible refine Keep.snd ?_ (by with_reducible assumption))
    | (with_reducible refine Keep.trd ?_ (by with_reducible assumption))
    | (with_reducible apply Keep.ite_fst <;> with_reducible intro _)
    | (with_reducible apply Keep.ite_snd <;> with_reducible intro _)
    | (with_reducible apply Keep.foldl_snd <;> [intro _ _ _; skip])
    | (with_reducible apply Keep.foldl_fst <;> [intro _ _ _; skip])
    | (dsimp +zetaDelta only)
    | (with_reducible apply Keep.mk; with_reducible first | apply Kept.of | (apply Kept.send; apply Kept.of)))

theorem putNbr_keep {x0 x1 x2} (h0 : Keep b s0 x0) : Keep b s0 (putNbr x0 x1 x2) := by
  unfold putNbr
  repeat' (first
    | (with_reducible assumption)
    | (with_reducible apply Keep.ite <;> with_reducible intro _)
    | (with_reducible intro _)
    | (with_reducible apply Keep.mk; with_reducible first | apply Kept.of | (apply Kept.send; apply Kept.of)))

theorem nbrApply_keep {x0 x1 x2 x3} (h0 : Keep b s0 x0) : Keep b s0 (nbrApply x0 x1 x2 x3) := by
  unfold nbrApply
  repeat' (first
    | (with_reducible assumption)
    | (with_reducible apply Keep.ite <;> with_reducible intro _)
    | (with_reducible apply emptyEntry_keep)
    | (with_reducible apply State.event_keep)
    | (with_reducible apply State.setFld_keep)
    | (with_reducible apply putNbr_keep)
    | (with_reducible apply pickEntry_keep)
    | (with_reducible apply putEntry_keep)
    | (with_reducible apply Keep.foldl <;> [intro _ _ _; skip])
    | (with_reducible intro _)
    | (extract_lets)
    | split
    | (with_reducible refine Keep.snd ?_ (by with_reducible assumption))
    | (with_reducible refine Keep.trd ?_ (by with_reducible assumption))
    | (dsimp +zetaDelta only)
    | (with_reducible apply Keep.mk; with_reducible first | apply Kept.of | (apply Kept.send; apply Kept.of)))

theorem nbrRestore_keep {x0 x1} (h0 : Keep b s0 x0) : Keep b s0 (nbrRestore x0 x1) := by
  unfold nbrRestore
  repeat' (first
    | (with_reducible assumption)
    | (with_reducible apply Keep.ite <;> with_reducible intro _)
    | (with_reducible apply putEntry_keep)
    | (with_reducible intro _)
    | (extract_lets)
    | split
    | (dsimp +zetaDelta only))

theorem nbrTreat_keep {x0 x1} (h0 : Keep b s0 x0) : Keep b s0 (nbrTreat x0 x1) := by
  unfold nbrTreat
  repeat' (first
    | (with_reducible assumption)
    | (with_reducible apply Keep.ite <;> with_reducible intro _)
    | (with_reducible apply nbrApply_keep)
    | (with_reducible intro _)
    | split
    | (with_reducible apply Keep.mk; with_reducible first | apply Kept.of | (apply Kept.send; apply Kept.of))
    | (extract_lets))

theorem nbrWrite_keep {x0 x1 x2 x3 x4} (h0 : Keep b s0 x0) : Keep b s0 (nbrWrite x0 x1 x2 x3 x4) := by
  unfold nbrWrite
  repeat' (first
    | (with_reducible assumption)
    | (with_reducible apply Keep.ite <;> with_reducible intro _)
    | (with_reducible apply writeFields_keep)
    | (with_reducible apply nbrTreat_keep)
    | (with_reducible intro _)
    | (extract_lets)
    | split)

theorem execNbrEnWrite_keep {x0 x1 x2 x3} (h3 : Keep b s0 x3) : KeepR b s0 (execNbrEnWrite x0 x1 x2 x3) := by
  unfold execNbrEnWrite
  repeat' (first
    | (with_reducible assumption)
    | (with_reducible apply KeepR.next)
    | (with_reducible apply KeepR.ite <;> with_reducible intro _)
    | (with_reducible apply Keep.ite <;> with_reducible intro _)
    | (with_reducible apply gateWrite_keep)
    | (with_reducible apply nbrWrite_keep)
    | (with_reducible intro _))

theorem nbrBeacon_keep {x0 x1} (h0 : Keep b s0 x0) : Keep b s0 (nbrBeacon x0 x1) := by
  unfold nbrBeacon
  repeat' (first
    | (with_reducible assumption)
    | (with_reducible apply Keep.ite <;> with_reducible intro _)
    | (with_reducible apply State.setFld_keep)
    | (with_reducible apply putNbr_keep)
    | (with_reducible apply State.event_keep)
    | (with_reducible apply nbrRestore_keep)
    | (with_reducible intro _)
    | (extract_lets)
    | split
    | (with_reducible apply Keep.mk; with_reducible first | apply Kept.of | (apply Kept.send; apply Kept.of)))

theorem execNbrBeaconRx_keep {x0 x1} (h1 : Keep b s0 x1) : KeepR b s0 (execNbrBeaconRx x0 x1) := by
  unfold execNbrBeaconRx
  repeat' (first
    | (with_reducible assumption)
    | (with_reducible apply KeepR.next)
    | (with_reducible apply KeepR.ite <;> with_reducible intro _)
    | (with_reducible apply Keep.ite <;> with_reducible intro _)
    | (with_reducible refine takeFrame_keep ?_ (by with_reducible assumption))
    | (with_reducible apply nbrBeacon_keep)
    | (with_reducible intro _)
    | split
    | (dsimp +zetaDelta only))

theorem execNbrWatchEnd_keep {x0 x1} (h1 : Keep b s0 x1) : KeepR b s0 (execNbrWatchEnd x0 x1) := by
  unfold execNbrWatchEnd
  repeat' (first
    | (with_reducible assumption)
    | (with_reducible apply KeepR.next)
    | (with_reducible apply KeepR.ite <;> with_reducible intro _)
    | (with_reducible apply Keep.ite <;> with_reducible intro _)
    | (with_reducible apply putNbr_keep)
    | (with_reducible apply setCause_keep)
    | (with_reducible apply State.event_keep)
    | (with_reducible apply State.setFld_keep)
    | (with_reducible intro _)
    | (extract_lets)
    | split
    | (with_reducible apply Keep.mk; with_reducible first | apply Kept.of | (apply Kept.send; apply Kept.of)))

theorem execNbrHoldExpiry_keep {x0 x1} (h1 : Keep b s0 x1) : KeepR b s0 (execNbrHoldExpiry x0 x1) := by
  unfold execNbrHoldExpiry
  repeat' (first
    | (with_reducible assumption)
    | (with_reducible apply KeepR.next)
    | (with_reducible apply KeepR.ite <;> with_reducible intro _)
    | (with_reducible apply Keep.ite <;> with_reducible intro _)
    | (with_reducible apply emptyEntry_keep)
    | (with_reducible apply putEntry_keep)
    | (with_reducible apply setCause_keep)
    | (with_reducible apply State.event_keep)
    | (with_reducible apply State.setFld_keep)
    | (with_reducible apply Keep.foldl <;> [intro _ _ _; skip])
    | (with_reducible intro _)
    | (extract_lets)
    | split
    | (dsimp +zetaDelta only))

theorem powerChange_keep {x0} (h0 : Keep b s0 x0) : Keep b s0 (powerChange x0) := by
  unfold powerChange
  repeat' (first
    | (with_reducible assumption)
    | (with_reducible apply Keep.ite <;> with_reducible intro _)
    | (with_reducible apply State.setFld_keep)
    | (with_reducible apply laneOff_keep)
    | (with_reducible apply laneOn_keep)
    | (with_reducible apply setCause_keep)
    | (with_reducible apply State.event_keep)
    | (with_reducible apply Keep.foldl <;> [intro _ _ _; skip])
    | (with_reducible intro _)
    | (extract_lets)
    | split)

theorem bowJudge_keep {x0} (h0 : Keep b s0 x0) : Keep b s0 (bowJudge x0) := by
  unfold bowJudge
  repeat' (first
    | (with_reducible assumption)
    | (with_reducible apply Keep.ite <;> with_reducible intro _)
    | (with_reducible apply State.setRed_keep)
    | (with_reducible apply State.count_keep)
    | (with_reducible apply tkoTrigger_keep)
    | (with_reducible intro _)
    | (extract_lets)
    | split
    | (with_reducible apply Keep.mk; with_reducible first | apply Kept.of | (apply Kept.send; apply Kept.of)))

theorem offsetChange_keep {x0 x1} (h0 : Keep b s0 x0) : Keep b s0 (offsetChange x0 x1) := by
  unfold offsetChange
  repeat' (first
    | (with_reducible assumption)
    | (with_reducible apply Keep.ite <;> with_reducible intro _)
    | (with_reducible intro _)
    | (extract_lets)
    | split
    | (with_reducible apply Keep.mk; with_reducible first | apply Kept.of | (apply Kept.send; apply Kept.of)))

theorem recheckDue_keep {x0} (h0 : Keep b s0 x0) : Keep b s0 (recheckDue x0) := by
  unfold recheckDue
  repeat' (first
    | (with_reducible assumption)
    | (with_reducible apply Keep.ite <;> with_reducible intro _)
    | (with_reducible apply recheckEntries_keep)
    | (with_reducible intro _)
    | split
    | (with_reducible apply Keep.mk; with_reducible first | apply Kept.of | (apply Kept.send; apply Kept.of)))

theorem nbrsDue_keep {x0} (h0 : Keep b s0 x0) : Keep b s0 (nbrsDue x0) := by
  unfold nbrsDue
  repeat' (first
    | (with_reducible assumption)
    | (with_reducible apply Keep.ite <;> with_reducible intro _)
    | (with_reducible apply nbrApply_keep)
    | (with_reducible apply Keep.foldl <;> [intro _ _ _; skip])
    | (with_reducible intro _)
    | split
    | (with_reducible apply Keep.mk; with_reducible first | apply Kept.of | (apply Kept.send; apply Kept.of)))

theorem latchBeacons_keep {x0} (h0 : Keep b s0 x0) : Keep b s0 (latchBeacons x0) := by
  unfold latchBeacons
  repeat' (first
    | (with_reducible assumption)
    | (with_reducible apply Keep.ite <;> with_reducible intro _)
    | (with_reducible apply reglBoundary_keep)
    | (with_reducible apply listen_keep)
    | (with_reducible apply Keep.foldl <;> [intro _ _ _; skip])
    | (with_reducible intro _)
    | (extract_lets)
    | split
    | (with_reducible apply Keep.mk; with_reducible first | apply Kept.of | (apply Kept.send; apply Kept.of)))

theorem macStart_keep {x0} (h0 : Keep b s0 x0) : Keep b s0 (macStart x0) := by
  unfold macStart
  repeat' (first
    | (with_reducible assumption)
    | (with_reducible apply Keep.ite <;> with_reducible intro _)
    | (with_reducible apply nbrsDue_keep)
    | (with_reducible apply latchBeacons_keep)
    | (with_reducible apply recheckDue_keep)
    | (with_reducible apply listen_keep)
    | (with_reducible apply Keep.foldl <;> [intro _ _ _; skip])
    | (with_reducible intro _)
    | (extract_lets)
    | (with_reducible apply Keep.mk; with_reducible first | apply Kept.of | (apply Kept.send; apply Kept.of))
    | (dsimp +zetaDelta only))

theorem superframe_keep {x0 x1} (h0 : Keep b s0 x0) : Keep b s0 (superframe x0 x1) := by
  unfold superframe
  extract_lets last sfn start late hyper s1 s2 m s3 s4 s5 d s6 s7 s8 s9 s10
  have h1 : Keep b s0 s1 := setCause_keep h0
  have h2 : Keep b s0 s2 := Keep.ite (fun _ => offsetChange_keep (setCause_keep h1)) (fun _ => h1)
  have h3 : Keep b s0 s3 := bowJudge_keep (Keep.mk (Kept.of h2))
  have h4 : Keep b s0 s4 := State.setFld_keep h3
  have h5 : Keep b s0 s5 := Keep.foldl (fun _ _ h => State.setLane_keep h) h4
  have h6 : Keep b s0 s6 := powerChange_keep (gateCheck_keep (Keep.congr h5 rfl rfl rfl rfl rfl rfl rfl rfl rfl))
  have h7 : Keep b s0 s7 := nbrsDue_keep (recheckDue_keep (latchBeacons_keep h6))
  have h8 : Keep b s0 s8 := Keep.foldl (fun _ _ h => showSession_keep h) h7
  have h9 : Keep b s0 s9 := Keep.ite (fun _ => Keep.foldl (fun _ _ h => measEval_keep h) h8) (fun _ => h8)
  have h10 : Keep b s0 s10 := Keep.foldl (fun _ _ h => beacon_keep h) h9
  exact Keep.ite (fun _ => sendItem_keep h10) (fun _ => h10)

theorem execSuperframeStart_keep {x0 x1} (h1 : Keep b s0 x1) : KeepR b s0 (execSuperframeStart x0 x1) := by
  unfold execSuperframeStart
  repeat' (first
    | (with_reducible assumption)
    | (with_reducible apply KeepR.next)
    | (with_reducible apply KeepR.ite <;> with_reducible intro _)
    | (with_reducible apply Keep.ite <;> with_reducible intro _)
    | (with_reducible apply superframe_keep)
    | (with_reducible intro _)
    | split
    | (dsimp +zetaDelta only)
    | (with_reducible apply Keep.mk; with_reducible first | apply Kept.of | (apply Kept.send; apply Kept.of)))

theorem slotMiss_keep {x0 x1 x2} (h0 : Keep b s0 x0) : Keep b s0 (slotMiss x0 x1 x2) := by
  unfold slotMiss
  repeat' (first
    | (with_reducible assumption)
    | (with_reducible apply Keep.ite <;> with_reducible intro _)
    | (with_reducible apply pCount_keep)
    | (with_reducible apply State.count_keep)
    | (with_reducible apply pSet_keep)
    | (with_reducible apply pSetBits_keep)
    | (with_reducible apply setCause_keep)
    | (with_reducible apply State.event_keep)
    | (with_reducible intro _)
    | (extract_lets)
    | split)

theorem occurrenceEnd_keep {x0 x1} (h0 : Keep b s0 x0) : Keep b s0 (occurrenceEnd x0 x1) := by
  unfold occurrenceEnd
  repeat' (first
    | (with_reducible assumption)
    | (with_reducible apply Keep.ite <;> with_reducible intro _)
    | (with_reducible apply listen_keep)
    | (with_reducible apply State.setLane_keep)
    | (with_reducible apply slotMiss_keep)
    | (with_reducible intro _)
    | (extract_lets)
    | split
    | (dsimp +zetaDelta only)
    | (with_reducible apply Keep.mk; with_reducible first | apply Kept.of | (apply Kept.send; apply Kept.of)))

theorem execSlotOccurrenceEnd_keep {x0 x1} (h1 : Keep b s0 x1) : KeepR b s0 (execSlotOccurrenceEnd x0 x1) := by
  unfold execSlotOccurrenceEnd
  repeat' (first
    | (with_reducible assumption)
    | (with_reducible apply KeepR.next)
    | (with_reducible apply KeepR.ite <;> with_reducible intro _)
    | (with_reducible apply Keep.ite <;> with_reducible intro _)
    | (with_reducible apply occurrenceEnd_keep)
    | (with_reducible intro _)
    | split)

theorem occurrenceStart_keep {x0 x1 x2} (h0 : Keep b s0 x0) : Keep b s0 (occurrenceStart x0 x1 x2) := by
  unfold occurrenceStart
  repeat' (first
    | (with_reducible assumption)
    | (with_reducible apply Keep.ite <;> with_reducible intro _)
    | (with_reducible apply occurrenceEnd_keep)
    | (with_reducible apply State.setLane_keep)
    | (with_reducible apply putNbr_keep)
    | (with_reducible apply receiveOn_keep)
    | (with_reducible intro _)
    | (extract_lets)
    | split
    | (with_reducible apply Keep.mk; with_reducible first | apply Kept.of | (apply Kept.send; apply Kept.of)))

theorem execSlotOccurrenceStart_keep {x0 x1 x2} (h2 : Keep b s0 x2) : KeepR b s0 (execSlotOccurrenceStart x0 x1 x2) := by
  unfold execSlotOccurrenceStart
  repeat' (first
    | (with_reducible assumption)
    | (with_reducible apply KeepR.next)
    | (with_reducible apply KeepR.ite <;> with_reducible intro _)
    | (with_reducible apply Keep.ite <;> with_reducible intro _)
    | (with_reducible apply occurrenceStart_keep)
    | (with_reducible intro _)
    | split)

theorem execRendezvousHoldExpiry_keep {x0 x1} (h1 : Keep b s0 x1) : KeepR b s0 (execRendezvousHoldExpiry x0 x1) := by
  unfold execRendezvousHoldExpiry
  repeat' (first
    | (with_reducible assumption)
    | (with_reducible apply KeepR.next)
    | (with_reducible apply KeepR.ite <;> with_reducible intro _)
    | (with_reducible apply Keep.ite <;> with_reducible intro _)
    | (with_reducible apply releaseNode_keep)
    | (with_reducible intro _)
    | split)

theorem ackReceive_keep {x0 x1} (h0 : Keep b s0 x0) : Keep b s0 (ackReceive x0 x1) := by
  unfold ackReceive
  repeat' (first
    | (with_reducible assumption)
    | (with_reducible apply Keep.ite <;> with_reducible intro _)
    | (with_reducible apply State.setLane_keep)
    | (with_reducible apply setTref_keep)
    | (with_reducible apply wakeFollows_keep)
    | (with_reducible apply dlAcked_keep)
    | (with_reducible intro _)
    | (extract_lets)
    | split
    | (dsimp +zetaDelta only)
    | (with_reducible apply Keep.mk; with_reducible first | apply Kept.of | (apply Kept.send; apply Kept.of)))

theorem execAckReceive_keep {x0 x1} (h1 : Keep b s0 x1) : KeepR b s0 (execAckReceive x0 x1) := by
  unfold execAckReceive
  repeat' (first
    | (with_reducible assumption)
    | (with_reducible apply KeepR.next)
    | (with_reducible apply KeepR.ite <;> with_reducible intro _)
    | (with_reducible apply Keep.ite <;> with_reducible intro _)
    | (with_reducible apply ackReceive_keep)
    | (with_reducible intro _)
    | split)

theorem execResponseWindowClose_keep {x0 x1} (h1 : Keep b s0 x1) : KeepR b s0 (execResponseWindowClose x0 x1) := by
  unfold execResponseWindowClose
  repeat' (first
    | (with_reducible assumption)
    | (with_reducible apply KeepR.next)
    | (with_reducible apply KeepR.ite <;> with_reducible intro _)
    | (with_reducible apply Keep.ite <;> with_reducible intro _)
    | (with_reducible apply windowCloses_keep)
    | (with_reducible apply dropWake_keep)
    | (with_reducible apply Keep.foldl <;> [intro _ _ _; skip])
    | (with_reducible intro _)
    | (extract_lets)
    | split
    | (dsimp +zetaDelta only))

theorem wakeStart_keep {x0 x1 x2 x3} (h0 : Keep b s0 x0) : Keep b s0 (wakeStart x0 x1 x2 x3) := by
  unfold wakeStart
  repeat' (first
    | (with_reducible assumption)
    | (with_reducible apply Keep.ite <;> with_reducible intro _)
    | (with_reducible apply addTx_keep)
    | (with_reducible apply putWake_keep)
    | (with_reducible intro _)
    | (extract_lets)
    | split
    | (dsimp +zetaDelta only)
    | (with_reducible apply Keep.mk; with_reducible first | apply Kept.of | (apply Kept.send; apply Kept.of)))

theorem execWakeAttempt_keep {x0 x1 x2 x3} (h3 : Keep b s0 x3) : KeepR b s0 (execWakeAttempt x0 x1 x2 x3) := by
  unfold execWakeAttempt
  repeat' (first
    | (with_reducible assumption)
    | (with_reducible apply KeepR.next)
    | (with_reducible apply KeepR.ite <;> with_reducible intro _)
    | (with_reducible apply Keep.ite <;> with_reducible intro _)
    | (with_reducible apply wakeStart_keep)
    | (with_reducible intro _)
    | (extract_lets)
    | split
    | (dsimp +zetaDelta only)
    | (with_reducible apply Keep.mk; with_reducible first | apply Kept.of | (apply Kept.send; apply Kept.of)))

theorem wakeAnswer_keep {x0 x1} (h0 : Keep b s0 x0) : Keep b s0 (wakeAnswer x0 x1) := by
  unfold wakeAnswer
  repeat' (first
    | (with_reducible assumption)
    | (with_reducible apply Keep.ite <;> with_reducible intro _)
    | (with_reducible refine takeFrame_keep ?_ (by with_reducible assumption))
    | (with_reducible apply dropWake_keep)
    | (with_reducible apply lateSuccess_keep)
    | (with_reducible apply State.count_keep)
    | (with_reducible apply putWake_keep)
    | (with_reducible apply setBand_keep)
    | (with_reducible apply wakeFinish_keep)
    | (with_reducible intro _)
    | (extract_lets)
    | split
    | (with_reducible apply Keep.ite_fst <;> with_reducible intro _)
    | (with_reducible apply Keep.ite_snd <;> with_reducible intro _)
    | (with_reducible apply Keep.foldl_snd <;> [intro _ _ _; skip])
    | (with_reducible apply Keep.foldl_fst <;> [intro _ _ _; skip])
    | (dsimp +zetaDelta only)
    | (with_reducible apply Keep.mk; with_reducible first | apply Kept.of | (apply Kept.send; apply Kept.of)))

theorem execWakeAnswerRx_keep {x0 x1} (h1 : Keep b s0 x1) : KeepR b s0 (execWakeAnswerRx x0 x1) := by
  unfold execWakeAnswerRx
  repeat' (first
    | (with_reducible assumption)
    | (with_reducible apply KeepR.next)
    | (with_reducible apply KeepR.ite <;> with_reducible intro _)
    | (with_reducible apply Keep.ite <;> with_reducible intro _)
    | (with_reducible apply wakeAnswer_keep)
    | (with_reducible intro _)
    | split)

theorem wakeMissed_keep {x0 x1} (h0 : Keep b s0 x0) : Keep b s0 (wakeMissed x0 x1) := by
  unfold wakeMissed
  repeat' (first
    | (with_reducible assumption)
    | (with_reducible apply Keep.ite <;> with_reducible intro _)
    | (with_reducible apply editHead_keep)
    | (with_reducible apply State.count_keep)
    | (with_reducible apply dlOutcome_keep)
    | (with_reducible intro _)
    | (extract_lets)
    | split
    | (dsimp +zetaDelta only)
    | (with_reducible apply Keep.mk; with_reducible first | apply Kept.of | (apply Kept.send; apply Kept.of)))

theorem execWakeRetryTimer_keep {x0 x1} (h1 : Keep b s0 x1) : KeepR b s0 (execWakeRetryTimer x0 x1) := by
  unfold execWakeRetryTimer
  repeat' (first
    | (with_reducible assumption)
    | (with_reducible apply KeepR.next)
    | (with_reducible apply KeepR.ite <;> with_reducible intro _)
    | (with_reducible apply Keep.ite <;> with_reducible intro _)
    | (with_reducible apply wakeMissed_keep)
    | (with_reducible apply dropWake_keep)
    | (with_reducible apply wakeFinish_keep)
    | (with_reducible apply listen_keep)
    | (with_reducible apply putWake_keep)
    | (with_reducible intro _)
    | split
    | (dsimp +zetaDelta only)
    | (with_reducible apply Keep.mk; with_reducible first | apply Kept.of | (apply Kept.send; apply Kept.of)))

theorem execMgmtRx_keep {x0 x1} (h1 : Keep b s0 x1) : KeepR b s0 (execMgmtRx x0 x1) := by
  unfold execMgmtRx
  repeat' (first
    | (with_reducible assumption)
    | (with_reducible apply KeepR.next)
    | (with_reducible apply KeepR.ite <;> with_reducible intro _)
    | (with_reducible apply Keep.ite <;> with_reducible intro _)
    | (with_reducible apply State.setLane_keep)
    | (with_reducible intro _)
    | (extract_lets)
    | split
    | (dsimp +zetaDelta only)
    | (with_reducible apply Keep.mk; with_reducible first | apply Kept.of | (apply Kept.send; apply Kept.of)))

/-! ### Uplink -/

theorem ccmResult_keep {x0 x1} (h0 : Keep b s0 x0) : Keep b s0 (ccmResult x0 x1) := by
  unfold ccmResult
  repeat' (first
    | (with_reducible assumption)
    | (with_reducible apply Keep.ite <;> with_reducible intro _)
    | (with_reducible apply State.count_keep)
    | (with_reducible apply denied_keep)
    | (with_reducible intro _)
    | (extract_lets)
    | split
    | (dsimp +zetaDelta only))

theorem ccmRequest_keep {x0 x1} (h0 : Keep b s0 x0) : Keep b s0 (ccmRequest x0 x1) := by
  unfold ccmRequest
  repeat' (first
    | (with_reducible assumption)
    | (with_reducible apply Keep.ite <;> with_reducible intro _)
    | (with_reducible apply State.setLane_keep)
    | (with_reducible apply State.count_keep)
    | (with_reducible apply ccmResult_keep)
    | (with_reducible apply State.setRed_keep)
    | (with_reducible intro _)
    | (extract_lets)
    | split
    | (dsimp +zetaDelta only)
    | (with_reducible apply Keep.mk; with_reducible first | apply Kept.of | (apply Kept.send; apply Kept.of)))

theorem execCcmRequest_keep {x0 x1} (h1 : Keep b s0 x1) : KeepR b s0 (execCcmRequest x0 x1) := by
  unfold execCcmRequest
  repeat' (first
    | (with_reducible assumption)
    | (with_reducible apply KeepR.next)
    | (with_reducible apply KeepR.ite <;> with_reducible intro _)
    | (with_reducible apply Keep.ite <;> with_reducible intro _)
    | (with_reducible apply ccmRequest_keep)
    | (with_reducible intro _)
    | split)

theorem clearEnc_keep {x0 x1} (h0 : Keep b s0 x0) : Keep b s0 (clearEnc x0 x1) := by
  unfold clearEnc
  repeat' (first
    | (with_reducible assumption)
    | (with_reducible apply Keep.ite <;> with_reducible intro _)
    | (with_reducible apply putMbx_keep)
    | (with_reducible apply Keep.foldl <;> [intro _ _ _; skip])
    | (with_reducible intro _)
    | (with_reducible apply Keep.mk; with_reducible first | apply Kept.of | (apply Kept.send; apply Kept.of)))

theorem promote_keep {x0 x1} (h0 : Keep b s0 x0) : Keep b s0 (promote x0 x1) := by
  unfold promote
  repeat' (first
    | (with_reducible assumption)
    | (with_reducible apply Keep.ite <;> with_reducible intro _)
    | (with_reducible apply State.ramStore_keep)
    | (with_reducible apply pSetBits_keep)
    | (with_reducible apply pSet_keep)
    | (with_reducible apply clearHistory_keep)
    | (with_reducible apply clearEnc_keep)
    | (with_reducible apply setCause_keep)
    | (with_reducible apply State.event_keep)
    | (with_reducible apply State.count_keep)
    | (with_reducible intro _)
    | (extract_lets))

theorem execPendingSessionExpiry_keep {x0 x1} (h1 : Keep b s0 x1) : KeepR b s0 (execPendingSessionExpiry x0 x1) := by
  unfold execPendingSessionExpiry
  repeat' (first
    | (with_reducible assumption)
    | (with_reducible apply KeepR.next)
    | (with_reducible apply KeepR.ite <;> with_reducible intro _)
    | (with_reducible apply Keep.ite <;> with_reducible intro _)
    | (with_reducible apply pSetBits_keep)
    | (with_reducible intro _)
    | split
    | (with_reducible apply Keep.mk; with_reducible first | apply Kept.of | (apply Kept.send; apply Kept.of)))

theorem counterRefused_keep {x0 x1 x2 x3} (h0 : Keep b s0 x0) : Keep b s0 (counterRefused x0 x1 x2 x3) := by
  unfold counterRefused
  repeat' (first
    | (with_reducible assumption)
    | (with_reducible apply Keep.ite <;> with_reducible intro _)
    | (with_reducible apply pCount_keep)
    | (with_reducible apply State.count_keep)
    | (with_reducible apply setCause_keep)
    | (with_reducible apply State.event_keep)
    | (with_reducible intro _)
    | (extract_lets)
    | split
    | (with_reducible apply Keep.mk; with_reducible first | apply Kept.of | (apply Kept.send; apply Kept.of)))

theorem beaconTref_keep {x0 x1 x2 x3} (h0 : Keep b s0 x0) : Keep b s0 (beaconTref x0 x1 x2 x3) := by
  unfold beaconTref
  repeat' (first
    | (with_reducible assumption)
    | (with_reducible apply Keep.ite <;> with_reducible intro _)
    | (with_reducible apply setTref_keep)
    | (with_reducible intro _)
    | (extract_lets)
    | split
    | (dsimp +zetaDelta only)
    | (with_reducible apply Keep.mk; with_reducible first | apply Kept.of | (apply Kept.send; apply Kept.of)))

theorem slotHit_keep {x0 x1 x2 x3 x4} (h0 : Keep b s0 x0) : Keep b s0 (slotHit x0 x1 x2 x3 x4) := by
  unfold slotHit
  repeat' (first
    | (with_reducible assumption)
    | (with_reducible apply Keep.ite <;> with_reducible intro _)
    | (with_reducible apply pSetBits_keep)
    | (with_reducible apply pSet_keep)
    | (with_reducible apply State.count_keep)
    | (with_reducible apply State.event_keep)
    | (with_reducible apply clearHistory_keep)
    | (with_reducible apply setBand_keep)
    | (with_reducible apply State.setLane_keep)
    | (with_reducible apply setTref_keep)
    | (with_reducible apply beaconTref_keep)
    | (with_reducible intro _)
    | (extract_lets)
    | split
    | (dsimp +zetaDelta only)
    | (with_reducible apply Keep.mk; with_reducible first | apply Kept.of | (apply Kept.send; apply Kept.of)))

theorem downPower_keep {x0 x1 x2 x3 x4 x5} (h0 : Keep b s0 x0) : Keep b s0 (downPower x0 x1 x2 x3 x4 x5) := by
  unfold downPower
  repeat' (first
    | (with_reducible assumption)
    | (with_reducible apply Keep.ite <;> with_reducible intro _)
    | (with_reducible apply pSet_keep)
    | (with_reducible intro _)
    | (extract_lets))

theorem noteSnr_keep {x0 x1 x2} (h0 : Keep b s0 x0) : Keep b s0 (noteSnr x0 x1 x2) := by
  unfold noteSnr
  repeat' (first
    | (with_reducible assumption)
    | (with_reducible apply Keep.ite <;> with_reducible intro _)
    | (with_reducible apply pSet_keep)
    | (with_reducible intro _)
    | (extract_lets))

theorem adaptNote_keep {x0 x1 x2 x3} (h0 : Keep b s0 x0) : Keep b s0 (adaptNote x0 x1 x2 x3) := by
  unfold adaptNote
  repeat' (first
    | (with_reducible assumption)
    | (with_reducible apply Keep.ite <;> with_reducible intro _)
    | (with_reducible apply State.event_keep)
    | (with_reducible apply State.count_keep)
    | (with_reducible intro _))

theorem adaptAssign_keep {x0 x1 x2 x3 x4} (h0 : Keep b s0 x0) : Keep b s0 (adaptAssign x0 x1 x2 x3 x4) := by
  unfold adaptAssign
  repeat' (first
    | (with_reducible assumption)
    | (with_reducible apply Keep.ite <;> with_reducible intro _)
    | (with_reducible apply adaptNote_keep)
    | (with_reducible apply pickIndices_keep)
    | (with_reducible apply genMessage_keep)
    | (with_reducible apply setAdaptState_keep)
    | (with_reducible apply pSet_keep)
    | (with_reducible intro _)
    | (extract_lets)
    | split
    | (with_reducible refine Keep.snd ?_ (by with_reducible assumption))
    | (with_reducible refine Keep.trd ?_ (by with_reducible assumption))
    | (dsimp +zetaDelta only)
    | (with_reducible apply Keep.mk; with_reducible first | apply Kept.of | (apply Kept.send; apply Kept.of)))

theorem adapt_keep {x0 x1 x2} (h0 : Keep b s0 x0) : Keep b s0 (adapt x0 x1 x2) := by
  unfold adapt
  repeat' (first
    | (with_reducible assumption)
    | (with_reducible apply Keep.ite <;> with_reducible intro _)
    | (with_reducible apply adaptDefer_keep)
    | (with_reducible apply rateSet_keep)
    | (with_reducible apply adaptNote_keep)
    | (with_reducible apply adaptAssign_keep)
    | (with_reducible intro _)
    | (extract_lets)
    | split
    | (with_reducible refine Keep.snd ?_ (by with_reducible assumption))
    | (with_reducible refine Keep.trd ?_ (by with_reducible assumption))
    | (dsimp +zetaDelta only)
    | (with_reducible apply Keep.mk; with_reducible first | apply Kept.of | (apply Kept.send; apply Kept.of)))

theorem deliverUp_keep {x0 x1 x2 x3} (h0 : Keep b s0 x0) : Keep b s0 (deliverUp x0 x1 x2 x3) := by
  unfold deliverUp
  repeat' (first
    | (with_reducible assumption)
    | (with_reducible apply Keep.ite <;> with_reducible intro _)
    | (with_reducible apply enqueue_keep)
    | (with_reducible intro _)
    | (extract_lets)
    | (with_reducible refine Keep.snd ?_ (by with_reducible assumption))
    | (with_reducible refine Keep.trd ?_ (by with_reducible assumption))
    | (with_reducible apply Keep.mk; with_reducible first | apply Kept.of | (apply Kept.send; apply Kept.of)))

theorem oweAck_keep {x0 x1} (h0 : Keep b s0 x0) : Keep b s0 (oweAck x0 x1) := by
  unfold oweAck
  repeat' (first
    | (with_reducible assumption)
    | (with_reducible apply Keep.ite <;> with_reducible intro _)
    | (with_reducible apply State.setLane_keep)
    | (with_reducible intro _)
    | (extract_lets)
    | (with_reducible apply Keep.mk; with_reducible first | apply Kept.of | (apply Kept.send; apply Kept.of)))

theorem releaseUp_keep {x0 x1} (h0 : Keep b s0 x0) : Keep b s0 (releaseUp x0 x1) := by
  unfold releaseUp
  repeat' (first
    | (with_reducible assumption)
    | (with_reducible apply Keep.ite <;> with_reducible intro _)
    | (with_reducible apply deliverUp_keep)
    | (with_reducible apply oweAck_keep)
    | (with_reducible intro _)
    | (extract_lets)
    | split
    | (dsimp +zetaDelta only))

theorem slotShown_keep {x0 x1 x2 x3 x4 x5} (h0 : Keep b s0 x0) : Keep b s0 (slotShown x0 x1 x2 x3 x4 x5) := by
  unfold slotShown
  repeat' (first
    | (with_reducible assumption)
    | (with_reducible apply Keep.ite <;> with_reducible intro _)
    | (with_reducible apply noteSnr_keep)
    | (with_reducible apply State.count_keep)
    | (with_reducible apply slotHit_keep)
    | (with_reducible apply downPower_keep)
    | (with_reducible apply State.setLane_keep)
    | (with_reducible intro _)
    | (extract_lets)
    | split
    | (dsimp +zetaDelta only)
    | (with_reducible apply Keep.mk; with_reducible first | apply Kept.of | (apply Kept.send; apply Kept.of)))

theorem routeShown_keep {x0 x1 x2 x3} (h0 : Keep b s0 x0) : Keep b s0 (routeShown x0 x1 x2 x3) := by
  unfold routeShown
  repeat' (first
    | (with_reducible assumption)
    | (with_reducible apply Keep.ite <;> with_reducible intro _)
    | (with_reducible apply linkSeen_keep)
    | (with_reducible apply routeUpdate_keep)
    | (with_reducible apply downPower_keep)
    | (with_reducible apply routeDirect_keep)
    | (with_reducible intro _)
    | (extract_lets)
    | split
    | (dsimp +zetaDelta only))

theorem newFrame_keep {x0 x1 x2 x3 x4 x5 x6 x7} (h0 : Keep b s0 x0) : Keep b s0 (newFrame x0 x1 x2 x3 x4 x5 x6 x7) := by
  unfold newFrame
  repeat' (first
    | (with_reducible assumption)
    | (with_reducible apply Keep.ite <;> with_reducible intro _)
    | (with_reducible apply deliver_keep)
    | (with_reducible apply State.count_keep)
    | (with_reducible apply pCount_keep)
    | (with_reducible apply pSet_keep)
    | (with_reducible apply routeShown_keep)
    | (with_reducible apply slotShown_keep)
    | (with_reducible apply State.setLane_keep)
    | (with_reducible apply adapt_keep)
    | (with_reducible apply mirrorFlush_keep)
    | (with_reducible apply State.setRed_keep)
    | (with_reducible apply releaseUp_keep)
    | (with_reducible apply unpack_keep)
    | (with_reducible intro _)
    | (extract_lets)
    | split
    | (dsimp +zetaDelta only)
    | (with_reducible apply Keep.mk; with_reducible first | apply Kept.of | (apply Kept.send; apply Kept.of)))

theorem uplinkVerdict_keep {x0 x1 x2} (h0 : Keep b s0 x0) : Keep b s0 (uplinkVerdict x0 x1 x2) := by
  unfold uplinkVerdict
  repeat' (first
    | (with_reducible assumption)
    | (with_reducible apply Keep.ite <;> with_reducible intro _)
    | (with_reducible refine takeFrame_keep ?_ (by with_reducible assumption))
    | (with_reducible apply State.count_keep)
    | (with_reducible apply setCause_keep)
    | (with_reducible apply promote_keep)
    | (with_reducible apply newFrame_keep)
    | (with_reducible apply pCount_keep)
    | (with_reducible apply slotShown_keep)
    | (with_reducible apply oweAck_keep)
    | (with_reducible apply counterRefused_keep)
    | (with_reducible intro _)
    | (extract_lets)
    | split
    | (with_reducible apply Keep.ite_fst <;> with_reducible intro _)
    | (with_reducible apply Keep.ite_snd <;> with_reducible intro _)
    | (with_reducible apply Keep.foldl_snd <;> [intro _ _ _; skip])
    | (with_reducible apply Keep.foldl_fst <;> [intro _ _ _; skip])
    | (dsimp +zetaDelta only)
    | (with_reducible apply Keep.mk; with_reducible first | apply Kept.of | (apply Kept.send; apply Kept.of)))

theorem execUplinkVerdict_keep {x0 x1 x2} (h2 : Keep b s0 x2) : KeepR b s0 (execUplinkVerdict x0 x1 x2) := by
  unfold execUplinkVerdict
  repeat' (first
    | (with_reducible assumption)
    | (with_reducible apply KeepR.next)
    | (with_reducible apply KeepR.ite <;> with_reducible intro _)
    | (with_reducible apply Keep.ite <;> with_reducible intro _)
    | (with_reducible apply uplinkVerdict_keep)
    | (with_reducible intro _)
    | split)

theorem childReport_keep {x0 x1 x2} (h0 : Keep b s0 x0) : Keep b s0 (childReport x0 x1 x2) := by
  unfold childReport
  repeat' (first
    | (with_reducible assumption)
    | (with_reducible apply Keep.ite <;> with_reducible intro _)
    | (with_reducible apply pSet_keep)
    | (with_reducible apply childLost_keep)
    | (with_reducible apply Keep.foldl <;> [intro _ _ _; skip])
    | (with_reducible intro _)
    | (extract_lets)
    | split)

theorem execChildReportRx_keep {x0 x1} (h1 : Keep b s0 x1) : KeepR b s0 (execChildReportRx x0 x1) := by
  unfold execChildReportRx
  repeat' (first
    | (with_reducible assumption)
    | (with_reducible apply KeepR.next)
    | (with_reducible apply KeepR.ite <;> with_reducible intro _)
    | (with_reducible apply Keep.ite <;> with_reducible intro _)
    | (with_reducible refine takeMessage_keep ?_ (by with_reducible assumption))
    | (with_reducible apply childReport_keep)
    | (with_reducible intro _)
    | (extract_lets)
    | split
    | (with_reducible apply Keep.ite_fst <;> with_reducible intro _)
    | (with_reducible apply Keep.ite_snd <;> with_reducible intro _)
    | (with_reducible apply Keep.foldl_snd <;> [intro _ _ _; skip])
    | (with_reducible apply Keep.foldl_fst <;> [intro _ _ _; skip])
    | (dsimp +zetaDelta only))

/-! ### Nodes -/

theorem nodeAdd_keep {x0 x1} (h0 : Keep b s0 x0) : Keep b s0 (nodeAdd x0 x1) := by
  unfold nodeAdd
  repeat' (first
    | (with_reducible assumption)
    | (with_reducible apply Keep.ite <;> with_reducible intro _)
    | (with_reducible apply finish_keep)
    | (with_reducible apply State.ramStore_keep)
    | (with_reducible apply commitCmd_keep)
    | (with_reducible intro _)
    | (extract_lets)
    | split
    | (dsimp +zetaDelta only)
    | (with_reducible apply Keep.mk; with_reducible first | apply Kept.of | (apply Kept.send; apply Kept.of)))

theorem execNodeAdd_keep {x0 x1} (h1 : Keep b s0 x1) : KeepR b s0 (execNodeAdd x0 x1) := by
  unfold execNodeAdd
  repeat' (first
    | (with_reducible assumption)
    | (with_reducible apply KeepR.next)
    | (with_reducible apply KeepR.ite <;> with_reducible intro _)
    | (with_reducible apply Keep.ite <;> with_reducible intro _)
    | (with_reducible apply nodeAdd_keep)
    | (with_reducible intro _)
    | split)

theorem forgetNode_keep {x0 x1} (h0 : Keep b s0 x0) : Keep b s0 (forgetNode x0 x1) := by
  unfold forgetNode
  repeat' (first
    | (with_reducible assumption)
    | (with_reducible apply Keep.ite <;> with_reducible intro _)
    | (with_reducible intro _)
    | (with_reducible apply Keep.mk; with_reducible first | apply Kept.of | (apply Kept.send; apply Kept.of)))

theorem freePeer_keep {x0 x1} (h0 : Keep b s0 x0) : Keep b s0 (freePeer x0 x1) := by
  unfold freePeer
  repeat' (first
    | (with_reducible assumption)
    | (with_reducible apply Keep.ite <;> with_reducible intro _)
    | (with_reducible apply State.ramStore_keep)
    | (with_reducible apply retire_keep)
    | (with_reducible apply freeMeas_keep)
    | (with_reducible intro _)
    | (extract_lets)
    | split
    | (dsimp +zetaDelta only)
    | (with_reducible apply Keep.mk; with_reducible first | apply Kept.of | (apply Kept.send; apply Kept.of)))

theorem freeParcel_keep {x0 x1} (h0 : Keep b s0 x0) : Keep b s0 (freeParcel x0 x1) := by
  unfold freeParcel
  repeat' (first
    | (with_reducible assumption)
    | (with_reducible apply Keep.ite <;> with_reducible intro _)
    | (with_reducible apply dropAll_keep)
    | (with_reducible apply dropAssign_keep)
    | (with_reducible apply emptyNode_keep)
    | (with_reducible apply setUstate_keep)
    | (with_reducible apply childrenLost_keep)
    | (with_reducible apply freePeer_keep)
    | (with_reducible apply childClear_keep)
    | (with_reducible apply State.ramStore_keep)
    | (with_reducible apply forgetNode_keep)
    | (with_reducible apply countChildren_keep)
    | (with_reducible intro _)
    | (extract_lets)
    | split
    | (with_reducible refine Keep.snd ?_ (by with_reducible assumption))
    | (with_reducible refine Keep.trd ?_ (by with_reducible assumption))
    | (dsimp +zetaDelta only))

theorem nodeRemove_keep {x0 x1} (h0 : Keep b s0 x0) : Keep b s0 (nodeRemove x0 x1) := by
  unfold nodeRemove
  repeat' (first
    | (with_reducible assumption)
    | (with_reducible apply Keep.ite <;> with_reducible intro _)
    | (with_reducible apply finish_keep)
    | (with_reducible apply freeParcel_keep)
    | (with_reducible apply commitCmd_keep)
    | (with_reducible intro _)
    | split
    | (dsimp +zetaDelta only))

theorem execNodeRemove_keep {x0 x1} (h1 : Keep b s0 x1) : KeepR b s0 (execNodeRemove x0 x1) := by
  unfold execNodeRemove
  repeat' (first
    | (with_reducible assumption)
    | (with_reducible apply KeepR.next)
    | (with_reducible apply KeepR.ite <;> with_reducible intro _)
    | (with_reducible apply Keep.ite <;> with_reducible intro _)
    | (with_reducible apply nodeRemove_keep)
    | (with_reducible intro _)
    | split)

theorem nodeRead_keep {x0 x1} (h0 : Keep b s0 x0) : Keep b s0 (nodeRead x0 x1) := by
  unfold nodeRead
  repeat' (first
    | (with_reducible assumption)
    | (with_reducible apply Keep.ite <;> with_reducible intro _)
    | (with_reducible apply finish_keep)
    | (with_reducible apply finishCmd_keep)
    | (with_reducible intro _)
    | split
    | (dsimp +zetaDelta only))

theorem execNodeRead_keep {x0 x1} (h1 : Keep b s0 x1) : KeepR b s0 (execNodeRead x0 x1) := by
  unfold execNodeRead
  repeat' (first
    | (with_reducible assumption)
    | (with_reducible apply KeepR.next)
    | (with_reducible apply KeepR.ite <;> with_reducible intro _)
    | (with_reducible apply Keep.ite <;> with_reducible intro _)
    | (with_reducible apply nodeRead_keep)
    | (with_reducible intro _)
    | split)

theorem dlSend_keep {x0 x1} (h0 : Keep b s0 x0) : Keep b s0 (dlSend x0 x1) := by
  unfold dlSend
  repeat' (first
    | (with_reducible assumption)
    | (with_reducible apply Keep.ite <;> with_reducible intro _)
    | (with_reducible apply finish_keep)
    | (with_reducible refine enterMailbox_keep ?_ (by with_reducible assumption))
    | (with_reducible apply beginCmd_keep)
    | (with_reducible apply placeRelay_keep)
    | (with_reducible intro _)
    | (extract_lets)
    | split
    | (with_reducible apply Keep.ite_fst <;> with_reducible intro _)
    | (with_reducible apply Keep.ite_snd <;> with_reducible intro _)
    | (with_reducible apply Keep.foldl_snd <;> [intro _ _ _; skip])
    | (with_reducible apply Keep.foldl_fst <;> [intro _ _ _; skip])
    | (dsimp +zetaDelta only)
    | (with_reducible apply Keep.mk; with_reducible first | apply Kept.of | (apply Kept.send; apply Kept.of)))

theorem execDlSend_keep {x0 x1} (h1 : Keep b s0 x1) : KeepR b s0 (execDlSend x0 x1) := by
  unfold execDlSend
  repeat' (first
    | (with_reducible assumption)
    | (with_reducible apply KeepR.next)
    | (with_reducible apply KeepR.ite <;> with_reducible intro _)
    | (with_reducible apply Keep.ite <;> with_reducible intro _)
    | (with_reducible apply dlSend_keep)
    | (with_reducible intro _)
    | split)

theorem wakeSend_keep {x0 x1} (h0 : Keep b s0 x0) : Keep b s0 (wakeSend x0 x1) := by
  unfold wakeSend
  repeat' (first
    | (with_reducible assumption)
    | (with_reducible apply Keep.ite <;> with_reducible intro _)
    | (with_reducible apply putWake_keep)
    | (with_reducible apply beginCmd_keep)
    | (with_reducible intro _)
    | (extract_lets)
    | split
    | (dsimp +zetaDelta only)
    | (with_reducible apply Keep.mk; with_reducible first | apply Kept.of | (apply Kept.send; apply Kept.of)))

theorem execWakeSend_keep {x0 x1} (h1 : Keep b s0 x1) : KeepR b s0 (execWakeSend x0 x1) := by
  unfold execWakeSend
  repeat' (first
    | (with_reducible assumption)
    | (with_reducible apply KeepR.next)
    | (with_reducible apply KeepR.ite <;> with_reducible intro _)
    | (with_reducible apply Keep.ite <;> with_reducible intro _)
    | (with_reducible apply wakeSend_keep)
    | (with_reducible intro _)
    | split)

theorem laneCal_keep {x0 x1} (h0 : Keep b s0 x0) : Keep b s0 (laneCal x0 x1) := by
  unfold laneCal
  repeat' (first
    | (with_reducible assumption)
    | (with_reducible apply Keep.ite <;> with_reducible intro _)
    | (with_reducible apply finish_keep)
    | (with_reducible apply beginCmd_keep)
    | (with_reducible apply showJob_keep)
    | (with_reducible apply State.setLane_keep)
    | (with_reducible intro _)
    | (extract_lets)
    | split
    | (dsimp +zetaDelta only)
    | (with_reducible apply Keep.mk; with_reducible first | apply Kept.of | (apply Kept.send; apply Kept.of)))

theorem execLaneCal_keep {x0 x1} (h1 : Keep b s0 x1) : KeepR b s0 (execLaneCal x0 x1) := by
  unfold execLaneCal
  repeat' (first
    | (with_reducible assumption)
    | (with_reducible apply KeepR.next)
    | (with_reducible apply KeepR.ite <;> with_reducible intro _)
    | (with_reducible apply Keep.ite <;> with_reducible intro _)
    | (with_reducible apply laneCal_keep)
    | (with_reducible intro _)
    | split)

theorem frameInject_keep {x0 x1} (h0 : Keep b s0 x0) : Keep b s0 (frameInject x0 x1) := by
  unfold frameInject
  repeat' (first
    | (with_reducible assumption)
    | (with_reducible apply Keep.ite <;> with_reducible intro _)
    | (with_reducible apply enqueue_keep)
    | (with_reducible apply finish_keep)
    | (with_reducible intro _)
    | (extract_lets)
    | split
    | (with_reducible refine Keep.snd ?_ (by with_reducible assumption))
    | (with_reducible refine Keep.trd ?_ (by with_reducible assumption))
    | (dsimp +zetaDelta only)
    | (with_reducible apply Keep.mk; with_reducible first | apply Kept.of | (apply Kept.send; apply Kept.of)))

theorem execFrameInject_keep {x0 x1} (h1 : Keep b s0 x1) : KeepR b s0 (execFrameInject x0 x1) := by
  unfold execFrameInject
  repeat' (first
    | (with_reducible assumption)
    | (with_reducible apply KeepR.next)
    | (with_reducible apply KeepR.ite <;> with_reducible intro _)
    | (with_reducible apply Keep.ite <;> with_reducible intro _)
    | (with_reducible apply frameInject_keep)
    | (with_reducible intro _)
    | split)

theorem queueFlush_keep {x0 x1} (h0 : Keep b s0 x0) : Keep b s0 (queueFlush x0 x1) := by
  unfold queueFlush
  repeat' (first
    | (with_reducible assumption)
    | (with_reducible apply Keep.ite <;> with_reducible intro _)
    | (with_reducible apply flushQueue_keep)
    | (with_reducible apply finish_keep)
    | (with_reducible intro _)
    | (extract_lets)
    | split
    | (with_reducible refine Keep.snd ?_ (by with_reducible assumption))
    | (with_reducible refine Keep.trd ?_ (by with_reducible assumption))
    | (dsimp +zetaDelta only))

theorem execQueueFlush_keep {x0 x1} (h1 : Keep b s0 x1) : KeepR b s0 (execQueueFlush x0 x1) := by
  unfold execQueueFlush
  repeat' (first
    | (with_reducible assumption)
    | (with_reducible apply KeepR.next)
    | (with_reducible apply KeepR.ite <;> with_reducible intro _)
    | (with_reducible apply Keep.ite <;> with_reducible intro _)
    | (with_reducible apply queueFlush_keep)
    | (with_reducible intro _)
    | split)

theorem queueBreakAck_keep {x0 x1} (h0 : Keep b s0 x0) : Keep b s0 (queueBreakAck x0 x1) := by
  unfold queueBreakAck
  repeat' (first
    | (with_reducible assumption)
    | (with_reducible apply Keep.ite <;> with_reducible intro _)
    | (with_reducible apply ackBreak_keep)
    | (with_reducible apply State.setQueue_keep)
    | (with_reducible apply finish_keep)
    | (with_reducible intro _)
    | (extract_lets)
    | split
    | (with_reducible refine Keep.snd ?_ (by with_reducible assumption))
    | (with_reducible refine Keep.trd ?_ (by with_reducible assumption))
    | (dsimp +zetaDelta only)
    | (with_reducible apply Keep.mk; with_reducible first | apply Kept.of | (apply Kept.send; apply Kept.of)))

theorem execQueueBreakAck_keep {x0 x1} (h1 : Keep b s0 x1) : KeepR b s0 (execQueueBreakAck x0 x1) := by
  unfold execQueueBreakAck
  repeat' (first
    | (with_reducible assumption)
    | (with_reducible apply KeepR.next)
    | (with_reducible apply KeepR.ite <;> with_reducible intro _)
    | (with_reducible apply Keep.ite <;> with_reducible intro _)
    | (with_reducible apply queueBreakAck_keep)
    | (with_reducible intro _)
    | split)

end Sys2Proof.Machine
end

