-- ==== Sys2Proof/Laws/KeepLink.lean ====
section
/-!
SUPPORT. Sys2Proof/Laws/KeepLink.lean: one lemma for each function on states of margins, the mirror pair, crypto, the Ethernet ports: it keeps what `Keep` says.
-/

-- One theorem after the other: side by side, their proofs would hold threads and memory together.
set_option Elab.async false
set_option linter.unusedTactic false
set_option linter.unreachableTactic false

namespace Sys2Proof.Machine

variable {b : Bool} {s0 : State}

/-! ### Margin -/

theorem State.setMgm_keep {x0 x1} (h0 : Keep b s0 x0) : Keep b s0 (State.setMgm x0 x1) := by
  unfold State.setMgm
  repeat' (first
    | (with_reducible assumption)
    | (with_reducible apply Keep.ite <;> with_reducible intro _)
    | (with_reducible intro _)
    | (with_reducible apply Keep.mk; with_reducible first | apply Kept.of | (apply Kept.send; apply Kept.of)))

theorem marginLow_keep {x0 x1} (h0 : Keep b s0 x0) : Keep b s0 (marginLow x0 x1) := by
  unfold marginLow
  repeat' (first
    | (with_reducible assumption)
    | (with_reducible apply Keep.ite <;> with_reducible intro _)
    | (with_reducible apply State.event_keep)
    | (with_reducible intro _)
    | split)

theorem pmbus_keep {x0 x1 x2} (h0 : Keep b s0 x0) : Keep b s0 (pmbus x0 x1 x2) := by
  unfold pmbus
  repeat' (first
    | (with_reducible assumption)
    | (with_reducible apply Keep.ite <;> with_reducible intro _)
    | (with_reducible apply State.send_keep)
    | (with_reducible intro _))

theorem commandVolt_keep {x0 x1} (h0 : Keep b s0 x0) : Keep b s0 (commandVolt x0 x1) := by
  unfold commandVolt
  repeat' (first
    | (with_reducible assumption)
    | (with_reducible apply Keep.ite <;> with_reducible intro _)
    | (with_reducible apply State.setMgm_keep)
    | (with_reducible apply pmbus_keep)
    | (with_reducible intro _)
    | (extract_lets)
    | split
    | (with_reducible apply Keep.mk; with_reducible first | apply Kept.of | (apply Kept.send; apply Kept.of)))

theorem planApplied_keep {x0 x1} (h0 : Keep b s0 x0) : Keep b s0 (planApplied x0 x1) := by
  unfold planApplied
  repeat' (first
    | (with_reducible assumption)
    | (with_reducible apply Keep.ite <;> with_reducible intro _)
    | (with_reducible apply State.setFld_keep)
    | (with_reducible apply setCause_keep)
    | (with_reducible apply State.count_keep)
    | (with_reducible apply State.setMgm_keep)
    | (with_reducible apply Keep.foldl <;> [intro _ _ _; skip])
    | (with_reducible intro _)
    | (extract_lets)
    | split
    | (with_reducible apply Keep.mk; with_reducible first | apply Kept.of | (apply Kept.send; apply Kept.of)))

theorem planGoEnds_keep {x0 x1} (h0 : Keep b s0 x0) : Keep b s0 (planGoEnds x0 x1) := by
  unfold planGoEnds
  exact Keep.foldl (fun t _ h => endGo_keep h) h0

theorem planBegin_keep {x0} (h0 : Keep b s0 x0) : Keep b s0 (planBegin x0) := by
  unfold planBegin
  repeat' (first
    | (with_reducible assumption)
    | (with_reducible apply Keep.ite <;> with_reducible intro _)
    | (with_reducible apply State.setMgm_keep)
    | (with_reducible apply State.setFld_keep)
    | (with_reducible apply setCause_keep)
    | (with_reducible apply marginLow_keep)
    | (with_reducible intro _)
    | (extract_lets)
    | split
    | (with_reducible refine Keep.snd ?_ (by with_reducible assumption))
    | (with_reducible refine Keep.trd ?_ (by with_reducible assumption))
    | (dsimp +zetaDelta only)
    | (with_reducible apply Keep.mk; with_reducible first | apply Kept.of | (apply Kept.send; apply Kept.of)))

theorem planInForce_keep {x0 x1} (h0 : Keep b s0 x0) : Keep b s0 (planInForce x0 x1) := by
  unfold planInForce
  repeat' (first
    | (with_reducible assumption)
    | (with_reducible apply Keep.ite <;> with_reducible intro _)
    | (with_reducible apply State.setFld_keep)
    | (with_reducible apply State.setMgm_keep)
    | (with_reducible intro _)
    | (extract_lets)
    | split
    | (with_reducible apply Keep.mk; with_reducible first | apply Kept.of | (apply Kept.send; apply Kept.of)))

theorem planGoesOn_keep {x0 x1} (h1 : Keep b s0 x1) : Keep b s0 (planGoesOn x0 x1) := by
  induction x0 generalizing x1 with
  | zero => exact h1
  | succ n ih =>
    unfold planGoesOn
    repeat' (first
      | (with_reducible assumption)
      | (with_reducible apply ih)
      | (with_reducible apply Keep.ite <;> with_reducible intro _)
      | (with_reducible apply commandVolt_keep)
      | (with_reducible apply planInForce_keep)
      | (with_reducible apply planBegin_keep)
      | (with_reducible apply State.setMgm_keep)
      | (with_reducible apply State.setFld_keep)
      | (with_reducible apply planGoEnds_keep)
      | (with_reducible apply planApplied_keep)
      | (extract_lets)
      | split)

theorem planStart_keep {x0} (h0 : Keep b s0 x0) : Keep b s0 (planStart x0) := by
  unfold planStart
  repeat' (first
    | (with_reducible assumption)
    | (with_reducible apply Keep.ite <;> with_reducible intro _)
    | (with_reducible apply planBegin_keep)
    | (with_reducible apply planGoesOn_keep)
    | (with_reducible intro _)
    | (extract_lets)
    | split
    | (with_reducible apply Keep.mk; with_reducible first | apply Kept.of | (apply Kept.send; apply Kept.of)))

theorem execPlanStart_keep {x0} (h0 : Keep b s0 x0) : KeepR b s0 (execPlanStart x0) := by
  unfold execPlanStart
  repeat' (first
    | (with_reducible assumption)
    | (with_reducible apply KeepR.next)
    | (with_reducible apply KeepR.ite <;> with_reducible intro _)
    | (with_reducible apply Keep.ite <;> with_reducible intro _)
    | (with_reducible apply planStart_keep)
    | (with_reducible intro _)
    | split)

theorem avsReset_keep {x0} (h0 : Keep b s0 x0) : Keep b s0 (avsReset x0) := by
  unfold avsReset
  repeat' (first
    | (with_reducible assumption)
    | (with_reducible apply Keep.ite <;> with_reducible intro _)
    | (with_reducible apply planStart_keep)
    | (with_reducible apply State.setMgm_keep)
    | (with_reducible apply State.setFld_keep)
    | (with_reducible intro _)
    | (with_reducible apply Keep.mk; with_reducible first | apply Kept.of | (apply Kept.send; apply Kept.of)))

theorem mgmCtrlWrite_keep {x0 x1 x2 x3} (h0 : Keep b s0 x0) : Keep b s0 (mgmCtrlWrite x0 x1 x2 x3) := by
  unfold mgmCtrlWrite
  repeat' (first
    | (with_reducible assumption)
    | (with_reducible apply Keep.ite <;> with_reducible intro _)
    | (with_reducible apply writeFields_keep)
    | (with_reducible apply avsReset_keep)
    | (with_reducible apply planStart_keep)
    | (with_reducible intro _)
    | (extract_lets)
    | split)

theorem execPlanNowWrite_keep {x0 x1 x2} (h2 : Keep b s0 x2) : KeepR b s0 (execPlanNowWrite x0 x1 x2) := by
  unfold execPlanNowWrite
  repeat' (first
    | (with_reducible assumption)
    | (with_reducible apply KeepR.next)
    | (with_reducible apply KeepR.ite <;> with_reducible intro _)
    | (with_reducible apply Keep.ite <;> with_reducible intro _)
    | (with_reducible apply gateWrite_keep)
    | (with_reducible apply mgmCtrlWrite_keep)
    | (with_reducible intro _))

theorem execAvsResetWrite_keep {x0 x1 x2} (h2 : Keep b s0 x2) : KeepR b s0 (execAvsResetWrite x0 x1 x2) := by
  unfold execAvsResetWrite
  repeat' (first
    | (with_reducible assumption)
    | (with_reducible apply KeepR.next)
    | (with_reducible apply KeepR.ite <;> with_reducible intro _)
    | (with_reducible apply Keep.ite <;> with_reducible intro _)
    | (with_reducible apply gateWrite_keep)
    | (with_reducible apply mgmCtrlWrite_keep)
    | (with_reducible intro _))

theorem execClkRampStep_keep {x0} (h0 : Keep b s0 x0) : KeepR b s0 (execClkRampStep x0) := by
  unfold execClkRampStep
  repeat' (first
    | (with_reducible assumption)
    | (with_reducible apply KeepR.next)
    | (with_reducible apply KeepR.ite <;> with_reducible intro _)
    | (with_reducible apply Keep.ite <;> with_reducible intro _)
    | (with_reducible apply planGoesOn_keep)
    | (with_reducible apply State.setMgm_keep)
    | (with_reducible intro _)
    | (extract_lets)
    | split
    | (dsimp +zetaDelta only)
    | (with_reducible apply Keep.mk; with_reducible first | apply Kept.of | (apply Kept.send; apply Kept.of)))

theorem avsFault_keep {x0 x1} (h0 : Keep b s0 x0) : Keep b s0 (avsFault x0 x1) := by
  unfold avsFault
  repeat' (first
    | (with_reducible assumption)
    | (with_reducible apply Keep.ite <;> with_reducible intro _)
    | (with_reducible apply State.setFld_keep)
    | (with_reducible apply recordErr_keep)
    | (with_reducible apply State.event_keep)
    | (with_reducible apply State.count_keep)
    | (with_reducible apply planGoesOn_keep)
    | (with_reducible apply setCause_keep)
    | (with_reducible apply State.setMgm_keep)
    | (with_reducible intro _)
    | (extract_lets)
    | split
    | (with_reducible apply Keep.mk; with_reducible first | apply Kept.of | (apply Kept.send; apply Kept.of)))

theorem voltConfirmed_keep {x0 x1} (h0 : Keep b s0 x0) : Keep b s0 (voltConfirmed x0 x1) := by
  unfold voltConfirmed
  repeat' (first
    | (with_reducible assumption)
    | (with_reducible apply Keep.ite <;> with_reducible intro _)
    | (with_reducible apply planGoesOn_keep)
    | (with_reducible apply State.setMgm_keep)
    | (with_reducible intro _)
    | (with_reducible apply Keep.mk; with_reducible first | apply Kept.of | (apply Kept.send; apply Kept.of)))

theorem emergencyStep_keep {x0 x1} (h0 : Keep b s0 x0) : Keep b s0 (emergencyStep x0 x1) := by
  unfold emergencyStep
  repeat' (first
    | (with_reducible assumption)
    | (with_reducible apply Keep.ite <;> with_reducible intro _)
    | (with_reducible apply State.count_keep)
    | (with_reducible apply setCause_keep)
    | (with_reducible apply State.event_keep)
    | (with_reducible apply planGoesOn_keep)
    | (with_reducible apply State.setMgm_keep)
    | (with_reducible intro _)
    | (extract_lets)
    | split
    | (with_reducible apply Keep.mk; with_reducible first | apply Kept.of | (apply Kept.send; apply Kept.of)))

theorem emergencyCheck_keep {x0 x1} (h0 : Keep b s0 x0) : Keep b s0 (emergencyCheck x0 x1) := by
  unfold emergencyCheck
  repeat' (first
    | (with_reducible assumption)
    | (with_reducible apply Keep.ite <;> with_reducible intro _)
    | (with_reducible apply setCause_keep)
    | (with_reducible apply marginLow_keep)
    | (with_reducible apply State.setMgm_keep)
    | (with_reducible apply emergencyStep_keep)
    | (with_reducible intro _)
    | split
    | (with_reducible apply Keep.mk; with_reducible first | apply Kept.of | (apply Kept.send; apply Kept.of)))

theorem pathReading_keep {x0 x1} (h0 : Keep b s0 x0) : Keep b s0 (pathReading x0 x1) := by
  unfold pathReading
  repeat' (first
    | (with_reducible assumption)
    | (with_reducible apply Keep.ite <;> with_reducible intro _)
    | (with_reducible apply State.setFld_keep)
    | (with_reducible apply State.setMgm_keep)
    | (with_reducible apply State.event_keep)
    | (with_reducible apply voltConfirmed_keep)
    | (with_reducible apply avsFault_keep)
    | (with_reducible apply emergencyCheck_keep)
    | (with_reducible apply Keep.foldl <;> [intro _ _ _; skip])
    | (with_reducible intro _)
    | (extract_lets)
    | split
    | (dsimp +zetaDelta only)
    | (with_reducible apply Keep.mk; with_reducible first | apply Kept.of | (apply Kept.send; apply Kept.of)))

theorem execPathReading_keep {x0 x1} (h1 : Keep b s0 x1) : KeepR b s0 (execPathReading x0 x1) := by
  unfold execPathReading
  repeat' (first
    | (with_reducible assumption)
    | (with_reducible apply KeepR.next)
    | (with_reducible apply KeepR.ite <;> with_reducible intro _)
    | (with_reducible apply Keep.ite <;> with_reducible intro _)
    | (with_reducible apply pathReading_keep)
    | (with_reducible intro _)
    | split)

theorem tempRead_keep {x0 x1 x2} (h0 : Keep b s0 x0) : Keep b s0 (tempRead x0 x1 x2) := by
  unfold tempRead
  repeat' (first
    | (with_reducible assumption)
    | (with_reducible apply Keep.ite <;> with_reducible intro _)
    | (with_reducible apply State.setFld_keep)
    | (with_reducible apply State.setMgm_keep)
    | (with_reducible apply setCause_keep)
    | (with_reducible apply State.event_keep)
    | (with_reducible intro _)
    | (extract_lets)
    | split
    | (with_reducible apply Keep.mk; with_reducible first | apply Kept.of | (apply Kept.send; apply Kept.of)))

theorem tempReading_keep {x0 x1} (h0 : Keep b s0 x0) : Keep b s0 (tempReading x0 x1) := by
  unfold tempReading
  repeat' (first
    | (with_reducible assumption)
    | (with_reducible apply Keep.ite <;> with_reducible intro _)
    | (with_reducible apply tempRead_keep)
    | (with_reducible apply State.setFld_keep)
    | (with_reducible apply State.setMgm_keep)
    | (with_reducible apply Keep.foldl <;> [intro _ _ _; skip])
    | (with_reducible intro _)
    | (extract_lets)
    | split
    | (dsimp +zetaDelta only)
    | (with_reducible apply Keep.mk; with_reducible first | apply Kept.of | (apply Kept.send; apply Kept.of)))

theorem execTempReading_keep {x0 x1} (h1 : Keep b s0 x1) : KeepR b s0 (execTempReading x0 x1) := by
  unfold execTempReading
  repeat' (first
    | (with_reducible assumption)
    | (with_reducible apply KeepR.next)
    | (with_reducible apply KeepR.ite <;> with_reducible intro _)
    | (with_reducible apply Keep.ite <;> with_reducible intro _)
    | (with_reducible apply tempReading_keep)
    | (with_reducible intro _)
    | split)

theorem canaryReading_keep {x0 x1} (h0 : Keep b s0 x0) : Keep b s0 (canaryReading x0 x1) := by
  unfold canaryReading
  repeat' (first
    | (with_reducible assumption)
    | (with_reducible apply Keep.ite <;> with_reducible intro _)
    | (with_reducible apply State.setFld_keep)
    | (with_reducible apply State.setMgm_keep)
    | (with_reducible apply Keep.foldl <;> [intro _ _ _; skip])
    | (with_reducible intro _)
    | (extract_lets)
    | split
    | (dsimp +zetaDelta only)
    | (with_reducible apply Keep.mk; with_reducible first | apply Kept.of | (apply Kept.send; apply Kept.of)))

theorem execCanaryReading_keep {x0 x1} (h1 : Keep b s0 x1) : KeepR b s0 (execCanaryReading x0 x1) := by
  unfold execCanaryReading
  repeat' (first
    | (with_reducible assumption)
    | (with_reducible apply KeepR.next)
    | (with_reducible apply KeepR.ite <;> with_reducible intro _)
    | (with_reducible apply Keep.ite <;> with_reducible intro _)
    | (with_reducible apply canaryReading_keep)
    | (with_reducible intro _)
    | split)

theorem probeCycle_keep {x0} (h0 : Keep b s0 x0) : Keep b s0 (probeCycle x0) := by
  unfold probeCycle
  repeat' (first
    | (with_reducible assumption)
    | (with_reducible apply Keep.ite <;> with_reducible intro _)
    | (with_reducible apply State.setReg_keep)
    | (with_reducible apply State.setMgm_keep)
    | (with_reducible apply setCause_keep)
    | (with_reducible apply State.event_keep)
    | (with_reducible apply Keep.foldl <;> [intro _ _ _; skip])
    | (with_reducible intro _)
    | (extract_lets)
    | split
    | (dsimp +zetaDelta only)
    | (with_reducible apply Keep.mk; with_reducible first | apply Kept.of | (apply Kept.send; apply Kept.of)))

theorem execRetentionProbeInterval_keep {x0 x1 x2 x3} (h3 : Keep b s0 x3) : KeepR b s0 (execRetentionProbeInterval x0 x1 x2 x3) := by
  unfold execRetentionProbeInterval
  repeat' (first
    | (with_reducible assumption)
    | (with_reducible apply KeepR.next)
    | (with_reducible apply KeepR.ite <;> with_reducible intro _)
    | (with_reducible apply Keep.ite <;> with_reducible intro _)
    | (with_reducible apply State.setMgm_keep)
    | (with_reducible apply probeCycle_keep)
    | (with_reducible intro _)
    | (extract_lets)
    | split
    | (with_reducible apply Keep.mk; with_reducible first | apply Kept.of | (apply Kept.send; apply Kept.of)))

theorem loopSlice_keep {x0 x1 x2 x3 x4} (h0 : Keep b s0 x0) : Keep b s0 (loopSlice x0 x1 x2 x3 x4) := by
  unfold loopSlice
  repeat' (first
    | (with_reducible assumption)
    | (with_reducible apply Keep.ite <;> with_reducible intro _)
    | (with_reducible apply State.setReg_keep)
    | (with_reducible apply State.setMgm_keep)
    | (with_reducible intro _)
    | (extract_lets)
    | split
    | (dsimp +zetaDelta only)
    | (with_reducible apply Keep.mk; with_reducible first | apply Kept.of | (apply Kept.send; apply Kept.of)))

theorem execBgSliceDone_keep {x0 x1 x2 x3 x4} (h4 : Keep b s0 x4) : KeepR b s0 (execBgSliceDone x0 x1 x2 x3 x4) := by
  unfold execBgSliceDone
  repeat' (first
    | (with_reducible assumption)
    | (with_reducible apply KeepR.next)
    | (with_reducible apply KeepR.ite <;> with_reducible intro _)
    | (with_reducible apply Keep.ite <;> with_reducible intro _)
    | (with_reducible apply loopSlice_keep)
    | (with_reducible apply sliceDone_keep)
    | (with_reducible intro _)
    | split
    | (dsimp +zetaDelta only))

theorem readVout_keep {x0 x1} (h0 : Keep b s0 x0) : Keep b s0 (readVout x0 x1) := by
  unfold readVout
  repeat' (first
    | (with_reducible assumption)
    | (with_reducible apply Keep.ite <;> with_reducible intro _)
    | (with_reducible apply State.setFld_keep)
    | (with_reducible apply voltConfirmed_keep)
    | (with_reducible intro _)
    | (extract_lets)
    | split
    | (dsimp +zetaDelta only))

theorem statusWord_keep {x0 x1} (h0 : Keep b s0 x0) : Keep b s0 (statusWord x0 x1) := by
  unfold statusWord
  repeat' (first
    | (with_reducible assumption)
    | (with_reducible apply Keep.ite <;> with_reducible intro _)
    | (with_reducible apply State.setFld_keep)
    | (with_reducible apply State.setMgm_keep)
    | (with_reducible apply avsFault_keep)
    | (with_reducible intro _)
    | (extract_lets)
    | split
    | (with_reducible apply Keep.mk; with_reducible first | apply Kept.of | (apply Kept.send; apply Kept.of)))

theorem pmbusDone_keep {x0 x1 x2 x3} (h0 : Keep b s0 x0) : Keep b s0 (pmbusDone x0 x1 x2 x3) := by
  unfold pmbusDone
  repeat' (first
    | (with_reducible assumption)
    | (with_reducible apply Keep.ite <;> with_reducible intro _)
    | (with_reducible apply State.setMgm_keep)
    | (with_reducible apply avsFault_keep)
    | (with_reducible apply pmbus_keep)
    | (with_reducible apply readVout_keep)
    | (with_reducible apply State.setFld_keep)
    | (with_reducible apply statusWord_keep)
    | (with_reducible intro _)
    | (extract_lets)
    | split
    | (dsimp +zetaDelta only)
    | (with_reducible apply Keep.mk; with_reducible first | apply Kept.of | (apply Kept.send; apply Kept.of)))

theorem execPmbusTransactionDone_keep {x0 x1 x2 x3} (h3 : Keep b s0 x3) : KeepR b s0 (execPmbusTransactionDone x0 x1 x2 x3) := by
  unfold execPmbusTransactionDone
  repeat' (first
    | (with_reducible assumption)
    | (with_reducible apply KeepR.next)
    | (with_reducible apply KeepR.ite <;> with_reducible intro _)
    | (with_reducible apply Keep.ite <;> with_reducible intro _)
    | (with_reducible apply pmbusDone_keep)
    | (with_reducible intro _)
    | split)

theorem execPmbusPoll_keep {x0} (h0 : Keep b s0 x0) : KeepR b s0 (execPmbusPoll x0) := by
  unfold execPmbusPoll
  repeat' (first
    | (with_reducible assumption)
    | (with_reducible apply KeepR.next)
    | (with_reducible apply KeepR.ite <;> with_reducible intro _)
    | (with_reducible apply Keep.ite <;> with_reducible intro _)
    | (with_reducible apply pmbus_keep)
    | (with_reducible intro _)
    | split)

theorem execAvsSettleTimeout_keep {x0} (h0 : Keep b s0 x0) : KeepR b s0 (execAvsSettleTimeout x0) := by
  unfold execAvsSettleTimeout
  repeat' (first
    | (with_reducible assumption)
    | (with_reducible apply KeepR.next)
    | (with_reducible apply KeepR.ite <;> with_reducible intro _)
    | (with_reducible apply Keep.ite <;> with_reducible intro _)
    | (with_reducible apply avsFault_keep)
    | (with_reducible intro _)
    | split)

theorem execVidSettleExpiry_keep {x0} (h0 : Keep b s0 x0) : KeepR b s0 (execVidSettleExpiry x0) := by
  unfold execVidSettleExpiry
  repeat' (first
    | (with_reducible assumption)
    | (with_reducible apply KeepR.next)
    | (with_reducible apply KeepR.ite <;> with_reducible intro _)
    | (with_reducible apply Keep.ite <;> with_reducible intro _)
    | (with_reducible apply State.setMgm_keep)
    | (with_reducible intro _)
    | split
    | (dsimp +zetaDelta only)
    | (with_reducible apply Keep.mk; with_reducible first | apply Kept.of | (apply Kept.send; apply Kept.of)))

theorem orOpen_keep {x0 x1 x2} (h0 : Keep b s0 x0) : Keep b s0 (orOpen x0 x1 x2).2 := by
  unfold orOpen
  repeat' (first
    | (with_reducible assumption)
    | (with_reducible apply Keep.ite <;> with_reducible intro _)
    | (with_reducible apply drawNat_keep)
    | (with_reducible intro _)
    | (extract_lets)
    | split
    | (with_reducible refine Keep.snd ?_ (by with_reducible assumption))
    | (with_reducible refine Keep.trd ?_ (by with_reducible assumption))
    | (with_reducible apply Keep.ite_fst <;> with_reducible intro _)
    | (with_reducible apply Keep.ite_snd <;> with_reducible intro _)
    | (with_reducible apply Keep.foldl_snd <;> [intro _ _ _; skip])
    | (with_reducible apply Keep.foldl_fst <;> [intro _ _ _; skip])
    | (dsimp +zetaDelta only))

theorem ageRecord_keep {x0 x1} (h0 : Keep b s0 x0) : Keep b s0 (ageRecord x0 x1) := by
  unfold ageRecord
  repeat' (first
    | (with_reducible assumption)
    | (with_reducible apply Keep.ite <;> with_reducible intro _)
    | (with_reducible apply orOpen_keep)
    | (with_reducible apply State.setMgm_keep)
    | (with_reducible apply State.setFld_keep)
    | (with_reducible apply State.event_keep)
    | (with_reducible apply setCause_keep)
    | (with_reducible apply Keep.foldl <;> [intro _ _ _; skip])
    | (with_reducible intro _)
    | (extract_lets)
    | split
    | (with_reducible refine Keep.snd ?_ (by with_reducible assumption))
    | (with_reducible refine Keep.trd ?_ (by with_reducible assumption))
    | (dsimp +zetaDelta only)
    | (with_reducible apply Keep.mk; with_reducible first | apply Kept.of | (apply Kept.send; apply Kept.of)))

theorem ageHour_keep {x0} (h0 : Keep b s0 x0) : Keep b s0 (ageHour x0) := by
  unfold ageHour
  repeat' (first
    | (with_reducible assumption)
    | (with_reducible apply Keep.ite <;> with_reducible intro _)
    | (with_reducible apply State.setReg_keep)
    | (with_reducible apply ageRecord_keep)
    | (with_reducible apply State.setMgm_keep)
    | (with_reducible intro _)
    | (extract_lets)
    | split
    | (with_reducible apply Keep.mk; with_reducible first | apply Kept.of | (apply Kept.send; apply Kept.of)))

theorem execAgeHour_keep {x0} (h0 : Keep b s0 x0) : KeepR b s0 (execAgeHour x0) := by
  unfold execAgeHour
  repeat' (first
    | (with_reducible assumption)
    | (with_reducible apply KeepR.next)
    | (with_reducible apply KeepR.ite <;> with_reducible intro _)
    | (with_reducible apply Keep.ite <;> with_reducible intro _)
    | (with_reducible apply ageHour_keep)
    | (with_reducible intro _)
    | split)

theorem ageShown_keep {x0} (h0 : Keep b s0 x0) : Keep b s0 (ageShown x0) := by
  unfold ageShown
  repeat' (first
    | (with_reducible assumption)
    | (with_reducible apply Keep.ite <;> with_reducible intro _)
    | (with_reducible apply State.setFld_keep)
    | (with_reducible apply State.setReg_keep)
    | (with_reducible intro _))

/-! ### Pair -/

theorem conflictCheck_keep {x0} (h0 : Keep b s0 x0) : Keep b s0 (conflictCheck x0) := by
  unfold conflictCheck
  repeat' (first
    | (with_reducible assumption)
    | (with_reducible apply Keep.ite <;> with_reducible intro _)
    | (with_reducible apply drawNat_keep)
    | (with_reducible apply State.count_keep)
    | (with_reducible apply State.setRed_keep)
    | (with_reducible apply gateCheck_keep)
    | (with_reducible apply setCause_keep)
    | (with_reducible apply State.event_keep)
    | (with_reducible intro _)
    | (extract_lets)
    | split
    | (with_reducible refine Keep.snd ?_ (by with_reducible assumption))
    | (with_reducible refine Keep.trd ?_ (by with_reducible assumption))
    | (with_reducible apply Keep.mk; with_reducible first | apply Kept.of | (apply Kept.send; apply Kept.of)))

theorem setLink_keep {x0 x1 x2} (h0 : Keep b s0 x0) : Keep b s0 (setLink x0 x1 x2) := by
  unfold setLink
  repeat' (first
    | (with_reducible assumption)
    | (with_reducible apply Keep.ite <;> with_reducible intro _)
    | (with_reducible apply State.event_keep)
    | (with_reducible apply setCause_keep)
    | (with_reducible apply State.setFld_keep)
    | (with_reducible apply State.count_keep)
    | (with_reducible apply State.setRed_keep)
    | (with_reducible apply State.setReg_keep)
    | (with_reducible apply conflictCheck_keep)
    | (with_reducible intro _)
    | (extract_lets)
    | split
    | (dsimp +zetaDelta only)
    | (with_reducible apply Keep.mk; with_reducible first | apply Kept.of | (apply Kept.send; apply Kept.of)))

theorem train_keep {x0} (h0 : Keep b s0 x0) : Keep b s0 (train x0) := by
  unfold train
  repeat' (first
    | (with_reducible assumption)
    | (with_reducible apply Keep.ite <;> with_reducible intro _)
    | (with_reducible apply setLink_keep)
    | (with_reducible apply sendItem_keep)
    | (with_reducible apply State.setRed_keep)
    | (with_reducible intro _)
    | (extract_lets)
    | (with_reducible apply Keep.mk; with_reducible first | apply Kept.of | (apply Kept.send; apply Kept.of)))

theorem clearMirrored_keep {x0} (h0 : Keep b s0 x0) : Keep b s0 (clearMirrored x0) := by
  unfold clearMirrored
  repeat' (first
    | (with_reducible assumption)
    | (with_reducible apply Keep.ite <;> with_reducible intro _)
    | (with_reducible apply State.ramClear_keep)
    | (with_reducible intro _))

theorem syncing_keep {x0 x1} (h0 : Keep b s0 x0) : Keep b s0 (syncing x0 x1) := by
  unfold syncing
  repeat' (first
    | (with_reducible assumption)
    | (with_reducible apply Keep.ite <;> with_reducible intro _)
    | (with_reducible apply State.setReg_keep)
    | (with_reducible apply setLink_keep)
    | (with_reducible apply clearMirrored_keep)
    | (with_reducible intro _)
    | (extract_lets)
    | split)

theorem decide'_keep {x0 x1} (h0 : Keep b s0 x0) : Keep b s0 (decide' x0 x1) := by
  unfold decide'
  repeat' (first
    | (with_reducible assumption)
    | (with_reducible apply Keep.ite <;> with_reducible intro _)
    | (with_reducible apply conflictCheck_keep)
    | (with_reducible apply gateCheck_keep)
    | (with_reducible apply setRole_keep)
    | (with_reducible apply State.setRed_keep)
    | (with_reducible intro _)
    | (with_reducible apply Keep.mk; with_reducible first | apply Kept.of | (apply Kept.send; apply Kept.of)))

theorem mismatch_keep {x0 x1} (h0 : Keep b s0 x0) : Keep b s0 (mismatch x0 x1) := by
  unfold mismatch
  repeat' (first
    | (with_reducible assumption)
    | (with_reducible apply Keep.ite <;> with_reducible intro _)
    | (with_reducible apply State.event_keep)
    | (with_reducible intro _)
    | split
    | (dsimp +zetaDelta only))

theorem helloRx_keep {x0 x1} (h0 : Keep b s0 x0) : Keep b s0 (helloRx x0 x1) := by
  unfold helloRx
  repeat' (first
    | (with_reducible assumption)
    | (with_reducible apply Keep.ite <;> with_reducible intro _)
    | (with_reducible apply State.setWide_keep)
    | (with_reducible apply State.setRed_keep)
    | (with_reducible apply mismatch_keep)
    | (with_reducible apply setCause_keep)
    | (with_reducible apply setLink_keep)
    | (with_reducible apply decide'_keep)
    | (with_reducible apply syncing_keep)
    | (with_reducible intro _)
    | (extract_lets)
    | split
    | (dsimp +zetaDelta only)
    | (with_reducible apply Keep.mk; with_reducible first | apply Kept.of | (apply Kept.send; apply Kept.of)))

theorem execRoleDecisionTimeout_keep {x0} (h0 : Keep b s0 x0) : KeepR b s0 (execRoleDecisionTimeout x0) := by
  unfold execRoleDecisionTimeout
  repeat' (first
    | (with_reducible assumption)
    | (with_reducible apply KeepR.next)
    | (with_reducible apply KeepR.ite <;> with_reducible intro _)
    | (with_reducible apply Keep.ite <;> with_reducible intro _)
    | (with_reducible apply decide'_keep)
    | (with_reducible intro _)
    | split)

theorem keyEpochRx_keep {x0 x1 x2 x3 x4} (h0 : Keep b s0 x0) : Keep b s0 (keyEpochRx x0 x1 x2 x3 x4) := by
  unfold keyEpochRx
  repeat' (first
    | (with_reducible assumption)
    | (with_reducible apply Keep.ite <;> with_reducible intro _)
    | (with_reducible apply denied_keep)
    | (with_reducible apply zeroiseAll_keep)
    | (with_reducible apply State.setSlot_keep)
    | (with_reducible apply writeTarget_keep)
    | (with_reducible apply beginReplace_keep)
    | (with_reducible apply setCause_keep)
    | (with_reducible apply settleReplace_keep)
    | (with_reducible apply commitReplace_keep)
    | (with_reducible intro _)
    | (extract_lets)
    | split
    | (dsimp +zetaDelta only)
    | (with_reducible apply Keep.mk; with_reducible first | apply Kept.of | (apply Kept.send; apply Kept.of)))

theorem datumSteer_keep {x0 x1 x2} (h0 : Keep b s0 x0) : Keep b s0 (datumSteer x0 x1 x2) := by
  unfold datumSteer
  repeat' (first
    | (with_reducible assumption)
    | (with_reducible apply Keep.ite <;> with_reducible intro _)
    | (with_reducible apply startSlew_keep)
    | (with_reducible refine stepDatum_keep ?_ (by with_reducible assumption))
    | (with_reducible apply State.setRed_keep)
    | (with_reducible apply State.setFld_keep)
    | (with_reducible intro _)
    | split
    | (with_reducible apply Keep.mk; with_reducible first | apply Kept.of | (apply Kept.send; apply Kept.of)))

theorem datumRx_keep {x0 x1 x2 x3 x4 x5 x6} (h0 : Keep b s0 x0) : Keep b s0 (datumRx x0 x1 x2 x3 x4 x5 x6) := by
  unfold datumRx
  repeat' (first
    | (with_reducible assumption)
    | (with_reducible apply Keep.ite <;> with_reducible intro _)
    | (with_reducible apply State.setRed_keep)
    | (with_reducible apply State.setWide_keep)
    | (with_reducible apply datumSteer_keep)
    | (with_reducible apply State.setReg_keep)
    | (with_reducible intro _)
    | (extract_lets)
    | split
    | (with_reducible apply Keep.mk; with_reducible first | apply Kept.of | (apply Kept.send; apply Kept.of)))

theorem emptyMailboxes_keep {x0} (h0 : Keep b s0 x0) : Keep b s0 (emptyMailboxes x0) := by
  unfold emptyMailboxes
  repeat' (first
    | (with_reducible assumption)
    | (with_reducible apply Keep.ite <;> with_reducible intro _)
    | (with_reducible apply freeCells_keep)
    | (with_reducible apply pSet_keep)
    | (with_reducible apply State.ramStore_keep)
    | (with_reducible apply Keep.foldl <;> [intro _ _ _; skip])
    | (with_reducible intro _)
    | (extract_lets)
    | (with_reducible apply Keep.mk; with_reducible first | apply Kept.of | (apply Kept.send; apply Kept.of)))

theorem discardSessions_keep {x0} (h0 : Keep b s0 x0) : Keep b s0 (discardSessions x0) := by
  unfold discardSessions
  repeat' (first
    | (with_reducible assumption)
    | (with_reducible apply Keep.ite <;> with_reducible intro _)
    | (with_reducible apply State.setFld_keep)
    | (with_reducible apply emptyMcast_keep)
    | (with_reducible apply refreshSessions_keep)
    | (with_reducible apply Keep.foldl <;> [intro _ _ _; skip])
    | (with_reducible intro _)
    | (extract_lets)
    | (with_reducible apply Keep.mk; with_reducible first | apply Kept.of | (apply Kept.send; apply Kept.of)))

theorem yieldRole_keep {x0} (h0 : Keep b s0 x0) : Keep b s0 (yieldRole x0) := by
  unfold yieldRole
  exact discardSessions_keep (emptyMailboxes_keep (Keep.foldl (fun _ _ h => dropAll_keep h)
    (gateCheck_keep (State.setFld_keep (setRole_keep (State.setRed_keep h0))))))

theorem eachCmd_keep {x0 x1} (h0 : Keep b s0 x0) (h1 : ∀ a0 a1 a2, Keep b s0 a0 → Keep b s0 (x1 a0 a1 a2)) : Keep b s0 (eachCmd x0 x1) := by
  unfold eachCmd
  repeat' (first
    | (with_reducible assumption)
    | (with_reducible apply Keep.ite <;> with_reducible intro _)
    | (with_reducible apply h1)
    | (with_reducible apply Keep.foldl <;> [intro _ _ _; skip])
    | (with_reducible intro _)
    | split
    | (with_reducible apply Keep.mk; with_reducible first | apply Kept.of | (apply Kept.send; apply Kept.of)))

theorem swapDone_keep {x0 x1 x2 x3} (h0 : Keep b s0 x0) : Keep b s0 (swapDone x0 x1 x2 x3) := by
  unfold swapDone
  split
  · exact finish_keep h0
  · exact lateSuccess_keep (State.setRed_keep h0)
  · exact h0

theorem takenRx_keep {x0 x1 x2} (h0 : Keep b s0 x0) : Keep b s0 (takenRx x0 x1 x2) := by
  unfold takenRx
  refine Keep.ite (fun _ => h0) (fun _ => swapDone_keep (yieldRole_keep (Keep.mk (Kept.of (eachCmd_keep ?_ ?_)))))
  · exact Keep.foldl (fun _ _ h => completeReplace_keep h) (State.setRed_keep h0)
  · exact fun _ _ _ h => Keep.ite (fun _ => stopCmd_keep h) (fun _ => h)

theorem applyItem_keep {x0 x1} (h0 : Keep b s0 x0) : Keep b s0 (applyItem x0 x1) := by
  cases x1 with
  | hello => exact helloRx_keep h0
  | heartbeat => exact h0
  | parcelDelta => exact Keep.ite (fun _ => State.ramStore_keep h0) (fun _ => h0)
  | routeDelta => exact Keep.ite (fun _ => State.ramStore_keep h0) (fun _ => h0)
  | cntRsv => exact Keep.ite (fun _ => pSet_keep h0) (fun _ => h0)
  | keyEpoch => exact Keep.ite (fun _ => keyEpochRx_keep h0) (fun _ => h0)
  | slotDelta => exact Keep.ite (fun _ => putEntry_keep h0) (fun _ => h0)
  | datum => exact Keep.ite (fun _ => datumRx_keep h0) (fun _ => h0)
  | bcnSched => exact Keep.ite (fun _ => State.setRed_keep h0) (fun _ => h0)
  | bulk => exact Keep.ite (fun _ => State.ramStore_keep h0) (fun _ => h0)
  | relinquish => exact Keep.ite (fun _ => tkoTrigger_keep h0) (fun _ => h0)
  | take => exact Keep.ite (fun _ => yieldRole_keep h0) (fun _ => h0)
  | taken => exact Keep.ite (fun _ => takenRx_keep h0) (fun _ => h0)

theorem ackRx_keep {x0 x1} (h0 : Keep b s0 x0) : Keep b s0 (ackRx x0 x1) := by
  unfold ackRx
  repeat' (first
    | (with_reducible assumption)
    | (with_reducible apply Keep.ite <;> with_reducible intro _)
    | (with_reducible apply State.setRed_keep)
    | (with_reducible apply releaseUp_keep)
    | (with_reducible apply Keep.foldl <;> [intro _ _ _; skip])
    | (with_reducible intro _)
    | (extract_lets)
    | (with_reducible apply Keep.mk; with_reducible first | apply Kept.of | (apply Kept.send; apply Kept.of)))

theorem heartbeat_keep {x0} (h0 : Keep b s0 x0) : Keep b s0 (heartbeat x0) := by
  unfold heartbeat
  repeat' (first
    | (with_reducible assumption)
    | (with_reducible apply Keep.ite <;> with_reducible intro _)
    | (with_reducible apply State.send_keep)
    | (with_reducible intro _))

theorem mirrorRx_keep {x0 x1 x2 x3 x4} (h0 : Keep b s0 x0) : Keep b s0 (mirrorRx x0 x1 x2 x3 x4) := by
  unfold mirrorRx
  have h := State.setFld_keep (x1 := F.RED_LINK_RTT_NS_NS) (x2 := x4) h0
  have h1 := ackRx_keep (x1 := x2) (Keep.ite (c := link (x0.setFld F.RED_LINK_RTT_NS_NS x4) = 0) (fun _ => train_keep h) (fun _ => h))
  exact Keep.ite (fun _ => h1) (fun _ => Keep.ite
    (fun _ => heartbeat_keep (State.count_keep (Keep.foldl (fun _ _ h => applyItem_keep h) (State.setRed_keep h1))))
    (fun _ => heartbeat_keep h1))

theorem execMirrorFrameRx_keep {x0 x1 x2 x3 x4 x5} (h5 : Keep b s0 x5) : KeepR b s0 (execMirrorFrameRx x0 x1 x2 x3 x4 x5) :=
  KeepR.next (Keep.ite (fun _ => mirrorRx_keep h5) (fun _ => h5))

theorem execMirrorRetransmit_keep {x0} (h0 : Keep b s0 x0) : KeepR b s0 (execMirrorRetransmit x0) := by
  unfold execMirrorRetransmit
  repeat' (first
    | (with_reducible assumption)
    | (with_reducible apply KeepR.next)
    | (with_reducible apply KeepR.ite <;> with_reducible intro _)
    | (with_reducible apply Keep.ite <;> with_reducible intro _)
    | (with_reducible apply State.send_keep)
    | (with_reducible apply State.count_keep)
    | (with_reducible apply Keep.foldl <;> [intro _ _ _; skip])
    | (with_reducible intro _)
    | split)

theorem execMirrorLinkTimeout_keep {x0} (h0 : Keep b s0 x0) : KeepR b s0 (execMirrorLinkTimeout x0) := by
  unfold execMirrorLinkTimeout
  repeat' (first
    | (with_reducible assumption)
    | (with_reducible apply KeepR.next)
    | (with_reducible apply KeepR.ite <;> with_reducible intro _)
    | (with_reducible apply Keep.ite <;> with_reducible intro _)
    | (with_reducible apply setLink_keep)
    | (with_reducible intro _)
    | split)

theorem execMirrorHeartbeat_keep {x0} (h0 : Keep b s0 x0) : KeepR b s0 (execMirrorHeartbeat x0) := by
  unfold execMirrorHeartbeat
  repeat' (first
    | (with_reducible assumption)
    | (with_reducible apply KeepR.next)
    | (with_reducible apply KeepR.ite <;> with_reducible intro _)
    | (with_reducible apply Keep.ite <;> with_reducible intro _)
    | (with_reducible apply heartbeat_keep)
    | (with_reducible apply mirrorFlush_keep)
    | (with_reducible intro _)
    | split)

theorem bulkSend_keep {x0} (h0 : Keep b s0 x0) : Keep b s0 (bulkSend x0) := by
  unfold bulkSend
  repeat' (first
    | (with_reducible assumption)
    | (with_reducible apply Keep.ite <;> with_reducible intro _)
    | (with_reducible apply sendItem_keep)
    | (with_reducible apply State.setRed_keep)
    | (with_reducible apply Keep.foldl <;> [intro _ _ _; skip])
    | (with_reducible intro _)
    | (extract_lets)
    | (with_reducible apply Keep.mk; with_reducible first | apply Kept.of | (apply Kept.send; apply Kept.of)))

theorem syncDone_keep {x0} (h0 : Keep b s0 x0) : Keep b s0 (syncDone x0) := by
  unfold syncDone
  repeat' (first
    | (with_reducible assumption)
    | (with_reducible apply Keep.ite <;> with_reducible intro _)
    | (with_reducible apply bulkSend_keep)
    | (with_reducible apply setLink_keep)
    | (with_reducible apply State.setReg_keep)
    | (with_reducible intro _)
    | (extract_lets)
    | split)

theorem execMirrorSyncDone_keep {x0} (h0 : Keep b s0 x0) : KeepR b s0 (execMirrorSyncDone x0) := by
  unfold execMirrorSyncDone
  repeat' (first
    | (with_reducible assumption)
    | (with_reducible apply KeepR.next)
    | (with_reducible apply KeepR.ite <;> with_reducible intro _)
    | (with_reducible apply Keep.ite <;> with_reducible intro _)
    | (with_reducible apply syncDone_keep)
    | (with_reducible intro _)
    | split)

theorem ackDeadline_keep {x0 x1} (h0 : Keep b s0 x0) : Keep b s0 (ackDeadline x0 x1) := by
  unfold ackDeadline
  repeat' (first
    | (with_reducible assumption)
    | (with_reducible apply Keep.ite <;> with_reducible intro _)
    | (with_reducible apply State.setRed_keep)
    | (with_reducible apply setCause_keep)
    | (with_reducible apply State.count_keep)
    | (with_reducible intro _)
    | (extract_lets)
    | split
    | (with_reducible apply Keep.mk; with_reducible first | apply Kept.of | (apply Kept.send; apply Kept.of)))

theorem execMirrorAckDeadline_keep {x0 x1} (h1 : Keep b s0 x1) : KeepR b s0 (execMirrorAckDeadline x0 x1) := by
  unfold execMirrorAckDeadline
  repeat' (first
    | (with_reducible assumption)
    | (with_reducible apply KeepR.next)
    | (with_reducible apply KeepR.ite <;> with_reducible intro _)
    | (with_reducible apply Keep.ite <;> with_reducible intro _)
    | (with_reducible apply ackDeadline_keep)
    | (with_reducible intro _)
    | split)

theorem execStrokeHoldEnd_keep {x0} (h0 : Keep b s0 x0) : KeepR b s0 (execStrokeHoldEnd x0) := by
  unfold execStrokeHoldEnd
  repeat' (first
    | (with_reducible assumption)
    | (with_reducible apply KeepR.next)
    | (with_reducible apply KeepR.ite <;> with_reducible intro _)
    | (with_reducible apply Keep.ite <;> with_reducible intro _)
    | (with_reducible apply State.setFld_keep)
    | (with_reducible apply releaseUp_keep)
    | (with_reducible apply State.setRed_keep)
    | (with_reducible apply Keep.foldl <;> [intro _ _ _; skip])
    | (with_reducible intro _)
    | (extract_lets)
    | split
    | (with_reducible apply Keep.mk; with_reducible first | apply Kept.of | (apply Kept.send; apply Kept.of)))

theorem execFreshExpiry_keep {x0} (h0 : Keep b s0 x0) : KeepR b s0 (execFreshExpiry x0) := by
  unfold execFreshExpiry
  repeat' (first
    | (with_reducible assumption)
    | (with_reducible apply KeepR.next)
    | (with_reducible apply KeepR.ite <;> with_reducible intro _)
    | (with_reducible apply Keep.ite <;> with_reducible intro _)
    | (with_reducible apply State.setFld_keep)
    | (with_reducible intro _)
    | split)

theorem execDatumItemSend_keep {x0} (h0 : Keep b s0 x0) : KeepR b s0 (execDatumItemSend x0) := by
  unfold execDatumItemSend
  repeat' (first
    | (with_reducible assumption)
    | (with_reducible apply KeepR.next)
    | (with_reducible apply KeepR.ite <;> with_reducible intro _)
    | (with_reducible apply Keep.ite <;> with_reducible intro _)
    | (with_reducible apply sendItem_keep)
    | (with_reducible apply mirrorFlush_keep)
    | (with_reducible intro _)
    | split)

theorem ilkInChange_keep {x0 x1} (h0 : Keep b s0 x0) : Keep b s0 (ilkInChange x0 x1) := by
  unfold ilkInChange
  repeat' (first
    | (with_reducible assumption)
    | (with_reducible apply Keep.ite <;> with_reducible intro _)
    | (with_reducible apply State.setFld_keep)
    | (with_reducible apply conflictCheck_keep)
    | (with_reducible apply gateCheck_keep)
    | (with_reducible apply State.setRed_keep)
    | (with_reducible intro _)
    | (extract_lets)
    | (with_reducible apply Keep.mk; with_reducible first | apply Kept.of | (apply Kept.send; apply Kept.of)))

theorem execIlkInChange_keep {x0 x1} (h1 : Keep b s0 x1) : KeepR b s0 (execIlkInChange x0 x1) := by
  unfold execIlkInChange
  repeat' (first
    | (with_reducible assumption)
    | (with_reducible apply KeepR.next)
    | (with_reducible apply KeepR.ite <;> with_reducible intro _)
    | (with_reducible apply Keep.ite <;> with_reducible intro _)
    | (with_reducible apply ilkInChange_keep)
    | (with_reducible intro _)
    | split)

theorem execIlkConflictBackoffEnd_keep {x0} (h0 : Keep b s0 x0) : KeepR b s0 (execIlkConflictBackoffEnd x0) := by
  unfold execIlkConflictBackoffEnd
  repeat' (first
    | (with_reducible assumption)
    | (with_reducible apply KeepR.next)
    | (with_reducible apply KeepR.ite <;> with_reducible intro _)
    | (with_reducible apply Keep.ite <;> with_reducible intro _)
    | (with_reducible apply State.setRed_keep)
    | (with_reducible apply gateCheck_keep)
    | (with_reducible apply setRole_keep)
    | (with_reducible intro _)
    | (extract_lets)
    | split
    | (with_reducible apply Keep.mk; with_reducible first | apply Kept.of | (apply Kept.send; apply Kept.of)))

theorem execIlkLossTimer_keep {x0} (h0 : Keep b s0 x0) : KeepR b s0 (execIlkLossTimer x0) := by
  unfold execIlkLossTimer
  repeat' (first
    | (with_reducible assumption)
    | (with_reducible apply KeepR.next)
    | (with_reducible apply KeepR.ite <;> with_reducible intro _)
    | (with_reducible apply Keep.ite <;> with_reducible intro _)
    | (with_reducible apply tkoTrigger_keep)
    | (with_reducible intro _)
    | split)

theorem forceEnds_keep {x0} (h0 : Keep b s0 x0) : Keep b s0 (forceEnds x0) := by
  unfold forceEnds
  repeat' (first
    | (with_reducible assumption)
    | (with_reducible apply Keep.ite <;> with_reducible intro _)
    | (with_reducible apply tkoTrigger_keep)
    | (with_reducible apply endGo_keep)
    | (with_reducible intro _)
    | split
    | (with_reducible refine Keep.snd ?_ (by with_reducible assumption))
    | (with_reducible refine Keep.trd ?_ (by with_reducible assumption))
    | (dsimp +zetaDelta only))

theorem redStart_keep {x0} (h0 : Keep b s0 x0) : Keep b s0 (redStart x0) := by
  unfold redStart
  repeat' (first
    | (with_reducible assumption)
    | (with_reducible apply Keep.ite <;> with_reducible intro _)
    | (with_reducible apply forceEnds_keep)
    | (with_reducible apply setRole_keep)
    | (with_reducible apply State.setRed_keep)
    | (with_reducible apply State.setFld_keep)
    | (with_reducible apply train_keep)
    | (with_reducible apply setLink_keep)
    | (with_reducible intro _)
    | (extract_lets)
    | split
    | (with_reducible apply Keep.mk; with_reducible first | apply Kept.of | (apply Kept.send; apply Kept.of))
    | (dsimp +zetaDelta only))

theorem redCtrlWrite_keep {x0 x1 x2 x3} (h0 : Keep b s0 x0) : Keep b s0 (redCtrlWrite x0 x1 x2 x3) := by
  unfold redCtrlWrite
  repeat' (first
    | (with_reducible assumption)
    | (with_reducible apply Keep.ite <;> with_reducible intro _)
    | (with_reducible apply tkoTrigger_keep)
    | (with_reducible apply writeFields_keep)
    | (with_reducible apply forceEnds_keep)
    | (with_reducible apply recordErr_keep)
    | (with_reducible intro _)
    | (extract_lets)
    | split)

theorem execForceTkoWrite_keep {x0 x1 x2} (h2 : Keep b s0 x2) : KeepR b s0 (execForceTkoWrite x0 x1 x2) := by
  unfold execForceTkoWrite
  repeat' (first
    | (with_reducible assumption)
    | (with_reducible apply KeepR.next)
    | (with_reducible apply KeepR.ite <;> with_reducible intro _)
    | (with_reducible apply Keep.ite <;> with_reducible intro _)
    | (with_reducible apply gateWrite_keep)
    | (with_reducible apply redCtrlWrite_keep)
    | (with_reducible intro _))

theorem takeoverStart_keep {x0} (h0 : Keep b s0 x0) : Keep b s0 (takeoverStart x0) := by
  unfold takeoverStart
  repeat' (first
    | (with_reducible assumption)
    | (with_reducible apply Keep.ite <;> with_reducible intro _)
    | (with_reducible apply setRole_keep)
    | (with_reducible apply State.setRed_keep)
    | (with_reducible apply sendItem_keep)
    | (with_reducible intro _)
    | (extract_lets)
    | split
    | (dsimp +zetaDelta only)
    | (with_reducible apply Keep.mk; with_reducible first | apply Kept.of | (apply Kept.send; apply Kept.of)))

theorem execTakeoverStart_keep {x0} (h0 : Keep b s0 x0) : KeepR b s0 (execTakeoverStart x0) := by
  unfold execTakeoverStart
  repeat' (first
    | (with_reducible assumption)
    | (with_reducible apply KeepR.next)
    | (with_reducible apply KeepR.ite <;> with_reducible intro _)
    | (with_reducible apply Keep.ite <;> with_reducible intro _)
    | (with_reducible apply takeoverStart_keep)
    | (with_reducible intro _)
    | split)

theorem takeParcel_keep {x0 x1} (h0 : Keep b s0 x0) : Keep b s0 (takeParcel x0 x1) := by
  unfold takeParcel
  repeat' (first
    | (with_reducible assumption)
    | (with_reducible apply Keep.ite <;> with_reducible intro _)
    | (with_reducible apply pSetBits_keep)
    | (with_reducible apply pSet_keep)
    | (with_reducible intro _)
    | (extract_lets)
    | split)

theorem takeoverComplete_keep {x0} (h0 : Keep b s0 x0) : Keep b s0 (takeoverComplete x0) := by
  unfold takeoverComplete
  repeat' (first
    | (with_reducible assumption)
    | (with_reducible apply Keep.ite <;> with_reducible intro _)
    | (with_reducible apply forceEnds_keep)
    | (with_reducible apply State.setRed_keep)
    | (with_reducible apply State.setFld_keep)
    | (with_reducible apply setRole_keep)
    | (with_reducible apply State.event_keep)
    | (with_reducible apply setCause_keep)
    | (with_reducible apply State.count_keep)
    | (with_reducible apply State.setReg_keep)
    | (with_reducible apply sendItem_keep)
    | (with_reducible apply setServo_keep)
    | (with_reducible apply discardSessions_keep)
    | (with_reducible apply rebuildAccounts_keep)
    | (with_reducible apply placeMarker_keep)
    | (with_reducible apply emptyMailboxes_keep)
    | (with_reducible apply takeParcel_keep)
    | (with_reducible apply Keep.foldl <;> [intro _ _ _; skip])
    | (with_reducible intro _)
    | (extract_lets)
    | split
    | (with_reducible apply Keep.mk; with_reducible first | apply Kept.of | (apply Kept.send; apply Kept.of)))

theorem execTakeoverComplete_keep {x0} (h0 : Keep b s0 x0) : KeepR b s0 (execTakeoverComplete x0) := by
  unfold execTakeoverComplete
  repeat' (first
    | (with_reducible assumption)
    | (with_reducible apply KeepR.next)
    | (with_reducible apply KeepR.ite <;> with_reducible intro _)
    | (with_reducible apply Keep.ite <;> with_reducible intro _)
    | (with_reducible apply takeoverComplete_keep)
    | (with_reducible intro _)
    | split)

theorem execTakeoverAbandon_keep {x0} (h0 : Keep b s0 x0) : KeepR b s0 (execTakeoverAbandon x0) := by
  unfold execTakeoverAbandon
  repeat' (first
    | (with_reducible assumption)
    | (with_reducible apply KeepR.next)
    | (with_reducible apply KeepR.ite <;> with_reducible intro _)
    | (with_reducible apply Keep.ite <;> with_reducible intro _)
    | (with_reducible apply forceEnds_keep)
    | (with_reducible apply tkoFails_keep)
    | (with_reducible intro _)
    | split
    | (dsimp +zetaDelta only))

theorem roleSwap_keep {x0 x1} (h0 : Keep b s0 x0) : Keep b s0 (roleSwap x0 x1) := by
  unfold roleSwap
  repeat' (first
    | (with_reducible assumption)
    | (with_reducible apply Keep.ite <;> with_reducible intro _)
    | (with_reducible apply State.setRed_keep)
    | (with_reducible apply beginCmd_keep)
    | (with_reducible intro _)
    | split
    | (dsimp +zetaDelta only)
    | (with_reducible apply Keep.mk; with_reducible first | apply Kept.of | (apply Kept.send; apply Kept.of)))

theorem execRoleSwap_keep {x0 x1} (h1 : Keep b s0 x1) : KeepR b s0 (execRoleSwap x0 x1) := by
  unfold execRoleSwap
  repeat' (first
    | (with_reducible assumption)
    | (with_reducible apply KeepR.next)
    | (with_reducible apply KeepR.ite <;> with_reducible intro _)
    | (with_reducible apply Keep.ite <;> with_reducible intro _)
    | (with_reducible apply roleSwap_keep)
    | (with_reducible intro _)
    | split)

theorem swapOffer_keep {x0} (h0 : Keep b s0 x0) : Keep b s0 (swapOffer x0) := by
  unfold swapOffer
  repeat' (first
    | (with_reducible assumption)
    | (with_reducible apply Keep.ite <;> with_reducible intro _)
    | (with_reducible apply mirrorFlush_keep)
    | (with_reducible apply sendItem_keep)
    | (with_reducible apply gateCheck_keep)
    | (with_reducible apply State.setRed_keep)
    | (with_reducible intro _)
    | (extract_lets)
    | split
    | (with_reducible apply Keep.mk; with_reducible first | apply Kept.of | (apply Kept.send; apply Kept.of)))

theorem execRoleSwapOffer_keep {x0} (h0 : Keep b s0 x0) : KeepR b s0 (execRoleSwapOffer x0) := by
  unfold execRoleSwapOffer
  repeat' (first
    | (with_reducible assumption)
    | (with_reducible apply KeepR.next)
    | (with_reducible apply KeepR.ite <;> with_reducible intro _)
    | (with_reducible apply Keep.ite <;> with_reducible intro _)
    | (with_reducible apply swapOffer_keep)
    | (with_reducible intro _)
    | split)

theorem execSwapOfferTimeout_keep {x0} (h0 : Keep b s0 x0) : KeepR b s0 (execSwapOfferTimeout x0) := by
  unfold execSwapOfferTimeout
  repeat' (first
    | (with_reducible assumption)
    | (with_reducible apply KeepR.next)
    | (with_reducible apply KeepR.ite <;> with_reducible intro _)
    | (with_reducible apply Keep.ite <;> with_reducible intro _)
    | (with_reducible apply State.setRed_keep)
    | (with_reducible intro _)
    | split
    | (with_reducible apply Keep.mk; with_reducible first | apply Kept.of | (apply Kept.send; apply Kept.of)))

/-! ### Crypto -/

theorem endJob_keep {x0 x1 x2 x3} (h0 : Keep b s0 x0) : Keep b s0 (endJob x0 x1 x2 x3) := by
  unfold endJob
  repeat' (first
    | (with_reducible assumption)
    | (with_reducible apply Keep.ite <;> with_reducible intro _)
    | (with_reducible apply setCause_keep)
    | (with_reducible apply State.setFld_keep)
    | (with_reducible intro _)
    | (extract_lets)
    | (with_reducible apply Keep.mk; with_reducible first | apply Kept.of | (apply Kept.send; apply Kept.of)))

theorem startJob_keep {x0} (h0 : Keep b s0 x0) : Keep b s0 (startJob x0) := by
  unfold startJob
  repeat' (first
    | (with_reducible assumption)
    | (with_reducible apply Keep.ite <;> with_reducible intro _)
    | (with_reducible apply endJob_keep)
    | (with_reducible apply State.count_keep)
    | (with_reducible apply denied_keep)
    | (with_reducible apply State.setFld_keep)
    | (with_reducible apply beginReplace_keep)
    | (with_reducible intro _)
    | (extract_lets)
    | split
    | (with_reducible apply Keep.mk; with_reducible first | apply Kept.of | (apply Kept.send; apply Kept.of)))

theorem jobBusyErr_keep {x0 x1 x2} (h0 : Keep b s0 x0) : Keep b s0 (jobBusyErr x0 x1 x2) := by
  unfold jobBusyErr
  repeat' (first
    | (with_reducible assumption)
    | (with_reducible apply Keep.ite <;> with_reducible intro _)
    | (with_reducible apply recordErr_keep)
    | (with_reducible intro _))

theorem jobRegWrite_keep {x0 x1 x2 x3 x4} (h0 : Keep b s0 x0) : Keep b s0 (jobRegWrite x0 x1 x2 x3 x4) := by
  unfold jobRegWrite
  repeat' (first
    | (with_reducible assumption)
    | (with_reducible apply Keep.ite <;> with_reducible intro _)
    | (with_reducible apply jobBusyErr_keep)
    | (with_reducible apply writeFields_keep)
    | (with_reducible apply startJob_keep)
    | (with_reducible intro _)
    | (extract_lets)
    | split)

theorem jobWrite_keep {x0 x1 x2} (h0 : Keep b s0 x0) : Keep b s0 (jobWrite x0 x1 x2) := by
  unfold jobWrite
  repeat' (first
    | (with_reducible assumption)
    | (with_reducible apply Keep.ite <;> with_reducible intro _)
    | (with_reducible apply gateWrite_keep)
    | (with_reducible apply jobRegWrite_keep)
    | (with_reducible intro _))

theorem execJobSha256_keep {x0 x1} (h1 : Keep b s0 x1) : KeepR b s0 (execJobSha256 x0 x1) := by
  unfold execJobSha256
  repeat' (first
    | (with_reducible assumption)
    | (with_reducible apply KeepR.next)
    | (with_reducible apply KeepR.ite <;> with_reducible intro _)
    | (with_reducible apply Keep.ite <;> with_reducible intro _)
    | (with_reducible apply jobWrite_keep)
    | (with_reducible intro _))

theorem execJobEcdsaVerify_keep {x0 x1} (h1 : Keep b s0 x1) : KeepR b s0 (execJobEcdsaVerify x0 x1) := by
  unfold execJobEcdsaVerify
  repeat' (first
    | (with_reducible assumption)
    | (with_reducible apply KeepR.next)
    | (with_reducible apply KeepR.ite <;> with_reducible intro _)
    | (with_reducible apply Keep.ite <;> with_reducible intro _)
    | (with_reducible apply jobWrite_keep)
    | (with_reducible intro _))

theorem execJobEcdsaSign_keep {x0 x1} (h1 : Keep b s0 x1) : KeepR b s0 (execJobEcdsaSign x0 x1) := by
  unfold execJobEcdsaSign
  repeat' (first
    | (with_reducible assumption)
    | (with_reducible apply KeepR.next)
    | (with_reducible apply KeepR.ite <;> with_reducible intro _)
    | (with_reducible apply Keep.ite <;> with_reducible intro _)
    | (with_reducible apply jobWrite_keep)
    | (with_reducible intro _))

theorem execJobIdPub_keep {x0 x1} (h1 : Keep b s0 x1) : KeepR b s0 (execJobIdPub x0 x1) := by
  unfold execJobIdPub
  repeat' (first
    | (with_reducible assumption)
    | (with_reducible apply KeepR.next)
    | (with_reducible apply KeepR.ite <;> with_reducible intro _)
    | (with_reducible apply Keep.ite <;> with_reducible intro _)
    | (with_reducible apply jobWrite_keep)
    | (with_reducible intro _))

theorem execJobKeyAgree_keep {x0 x1} (h1 : Keep b s0 x1) : KeepR b s0 (execJobKeyAgree x0 x1) := by
  unfold execJobKeyAgree
  repeat' (first
    | (with_reducible assumption)
    | (with_reducible apply KeepR.next)
    | (with_reducible apply KeepR.ite <;> with_reducible intro _)
    | (with_reducible apply Keep.ite <;> with_reducible intro _)
    | (with_reducible apply jobWrite_keep)
    | (with_reducible intro _))

theorem execJobRandom_keep {x0 x1} (h1 : Keep b s0 x1) : KeepR b s0 (execJobRandom x0 x1) := by
  unfold execJobRandom
  repeat' (first
    | (with_reducible assumption)
    | (with_reducible apply KeepR.next)
    | (with_reducible apply KeepR.ite <;> with_reducible intro _)
    | (with_reducible apply Keep.ite <;> with_reducible intro _)
    | (with_reducible apply jobWrite_keep)
    | (with_reducible intro _))

theorem jobData_keep {x0 x1} (h0 : Keep b s0 x0) : Keep b s0 (jobData x0 x1) := by
  unfold jobData
  repeat' (first
    | (with_reducible assumption)
    | (with_reducible apply Keep.ite <;> with_reducible intro _)
    | (with_reducible intro _)
    | (extract_lets)
    | split
    | (dsimp +zetaDelta only)
    | (with_reducible apply Keep.mk; with_reducible first | apply Kept.of | (apply Kept.send; apply Kept.of)))

theorem execJobDataWrite_keep {x0 x1 x2} (h2 : Keep b s0 x2) : KeepR b s0 (execJobDataWrite x0 x1 x2) := by
  unfold execJobDataWrite
  repeat' (first
    | (with_reducible assumption)
    | (with_reducible apply KeepR.next)
    | (with_reducible apply KeepR.ite <;> with_reducible intro _)
    | (with_reducible apply Keep.ite <;> with_reducible intro _)
    | (with_reducible apply gateWrite_keep)
    | (with_reducible apply jobData_keep)
    | (with_reducible intro _))

theorem signJob_keep {x0 x1} (h0 : Keep b s0 x0) : Keep b s0 (signJob x0 x1) := by
  unfold signJob
  repeat' (first
    | (with_reducible assumption)
    | (with_reducible apply Keep.ite <;> with_reducible intro _)
    | (with_reducible apply State.count_keep)
    | (with_reducible apply generate_keep)
    | (with_reducible apply endJob_keep)
    | (with_reducible apply denied_keep)
    | (with_reducible intro _)
    | (extract_lets)
    | split
    | (with_reducible refine Keep.snd ?_ (by with_reducible assumption))
    | (with_reducible refine Keep.trd ?_ (by with_reducible assumption))
    | (dsimp +zetaDelta only))

theorem agreeJob_keep {x0 x1} (h0 : Keep b s0 x0) : Keep b s0 (agreeJob x0 x1) := by
  unfold agreeJob
  repeat' (first
    | (with_reducible assumption)
    | (with_reducible apply Keep.ite <;> with_reducible intro _)
    | (with_reducible apply startJob_keep)
    | (with_reducible apply State.setSlot_keep)
    | (with_reducible apply dropReplace_keep)
    | (with_reducible apply endJob_keep)
    | (with_reducible apply denied_keep)
    | (with_reducible apply State.count_keep)
    | (with_reducible apply writeTarget_keep)
    | (with_reducible apply failReplace_keep)
    | (with_reducible apply commitReplace_keep)
    | (with_reducible apply endReplace_keep)
    | (with_reducible intro _)
    | (extract_lets)
    | split
    | (dsimp +zetaDelta only)
    | (with_reducible apply Keep.mk; with_reducible first | apply Kept.of | (apply Kept.send; apply Kept.of)))

theorem jobDone_keep {x0 x1} (h0 : Keep b s0 x0) : Keep b s0 (jobDone x0 x1) := by
  unfold jobDone
  repeat' (first
    | (with_reducible assumption)
    | (with_reducible apply Keep.ite <;> with_reducible intro _)
    | (with_reducible apply endJob_keep)
    | (with_reducible apply State.count_keep)
    | (with_reducible apply signJob_keep)
    | (with_reducible apply agreeJob_keep)
    | (with_reducible apply generate_keep)
    | (with_reducible intro _)
    | (extract_lets)
    | split
    | (with_reducible refine Keep.snd ?_ (by with_reducible assumption))
    | (with_reducible refine Keep.trd ?_ (by with_reducible assumption))
    | (dsimp +zetaDelta only))

theorem execJobDone_keep {x0 x1} (h1 : Keep b s0 x1) : KeepR b s0 (execJobDone x0 x1) := by
  unfold execJobDone
  repeat' (first
    | (with_reducible assumption)
    | (with_reducible apply KeepR.next)
    | (with_reducible apply KeepR.ite <;> with_reducible intro _)
    | (with_reducible apply Keep.ite <;> with_reducible intro _)
    | (with_reducible apply jobDone_keep)
    | (with_reducible intro _)
    | split)

theorem jobResPop_keep {x0 x1} (h0 : Keep b s0 x0) : Keep b s0 (jobResPop x0 x1) := by
  unfold jobResPop
  repeat' (first
    | (with_reducible assumption)
    | (with_reducible apply Keep.ite <;> with_reducible intro _)
    | (with_reducible apply readWide_keep)
    | (with_reducible intro _)
    | (extract_lets)
    | split
    | (with_reducible apply Keep.mk; with_reducible first | apply Kept.of | (apply Kept.send; apply Kept.of)))

theorem execJobResPop_keep {x0 x1} (h1 : Keep b s0 x1) : KeepR b s0 (execJobResPop x0 x1) := by
  unfold execJobResPop
  repeat' (first
    | (with_reducible assumption)
    | (with_reducible apply KeepR.next)
    | (with_reducible apply KeepR.ite <;> with_reducible intro _)
    | (with_reducible apply Keep.ite <;> with_reducible intro _)
    | (with_reducible apply gateRead_keep)
    | (with_reducible apply jobResPop_keep)
    | (with_reducible intro _))

theorem gcmRequest_keep {x0 x1} (h0 : Keep b s0 x0) : Keep b s0 (gcmRequest x0 x1) := by
  unfold gcmRequest
  repeat' (first
    | (with_reducible assumption)
    | (with_reducible apply Keep.ite <;> with_reducible intro _)
    | (with_reducible intro _)
    | (with_reducible apply Keep.mk; with_reducible first | apply Kept.of | (apply Kept.send; apply Kept.of)))

theorem execGcmRequest_keep {x0 x1} (h1 : Keep b s0 x1) : KeepR b s0 (execGcmRequest x0 x1) := by
  unfold execGcmRequest
  repeat' (first
    | (with_reducible assumption)
    | (with_reducible apply KeepR.next)
    | (with_reducible apply KeepR.ite <;> with_reducible intro _)
    | (with_reducible apply Keep.ite <;> with_reducible intro _)
    | (with_reducible apply State.setFld_keep)
    | (with_reducible apply State.count_keep)
    | (with_reducible intro _)
    | (extract_lets)
    | split
    | (dsimp +zetaDelta only)
    | (with_reducible apply Keep.mk; with_reducible first | apply Kept.of | (apply Kept.send; apply Kept.of)))

theorem execGcmSaturated_keep {x0} (h0 : Keep b s0 x0) : KeepR b s0 (execGcmSaturated x0) := by
  unfold execGcmSaturated
  repeat' (first
    | (with_reducible assumption)
    | (with_reducible apply KeepR.next)
    | (with_reducible apply KeepR.ite <;> with_reducible intro _)
    | (with_reducible apply Keep.ite <;> with_reducible intro _)
    | (with_reducible apply setCause_keep)
    | (with_reducible intro _)
    | split)

theorem State.setTrng_keep {x0 x1} (h0 : Keep b s0 x0) : Keep b s0 (State.setTrng x0 x1) := by
  unfold State.setTrng
  repeat' (first
    | (with_reducible assumption)
    | (with_reducible apply Keep.ite <;> with_reducible intro _)
    | (with_reducible intro _)
    | (with_reducible apply Keep.mk; with_reducible first | apply Kept.of | (apply Kept.send; apply Kept.of)))

theorem trngFail_keep {x0 x1} (h0 : Keep b s0 x0) : Keep b s0 (trngFail x0 x1) := by
  unfold trngFail
  repeat' (first
    | (with_reducible assumption)
    | (with_reducible apply Keep.ite <;> with_reducible intro _)
    | (with_reducible apply setCause_keep)
    | (with_reducible apply State.event_keep)
    | (with_reducible apply State.setFld_keep)
    | (with_reducible intro _))

theorem trngStartupDone_keep {x0 x1} (h0 : Keep b s0 x0) : Keep b s0 (trngStartupDone x0 x1) := by
  unfold trngStartupDone
  repeat' (first
    | (with_reducible assumption)
    | (with_reducible apply Keep.ite <;> with_reducible intro _)
    | (with_reducible apply endGo_keep)
    | (with_reducible apply State.setTrng_keep)
    | (with_reducible apply State.setFld_keep)
    | (with_reducible apply setCause_keep)
    | (with_reducible apply State.event_keep)
    | (with_reducible apply trngFail_keep)
    | (with_reducible intro _)
    | (extract_lets)
    | split
    | (with_reducible refine Keep.snd ?_ (by with_reducible assumption))
    | (with_reducible refine Keep.trd ?_ (by with_reducible assumption))
    | (with_reducible apply Keep.mk; with_reducible first | apply Kept.of | (apply Kept.send; apply Kept.of)))

theorem execTrngStartupDone_keep {x0 x1} (h1 : Keep b s0 x1) : KeepR b s0 (execTrngStartupDone x0 x1) := by
  unfold execTrngStartupDone
  repeat' (first
    | (with_reducible assumption)
    | (with_reducible apply KeepR.next)
    | (with_reducible apply KeepR.ite <;> with_reducible intro _)
    | (with_reducible apply Keep.ite <;> with_reducible intro _)
    | (with_reducible apply trngStartupDone_keep)
    | (with_reducible intro _)
    | split)

theorem seedCollect_keep {x0 x1} (h0 : Keep b s0 x0) : Keep b s0 (seedCollect x0 x1) := by
  unfold seedCollect
  repeat' (first
    | (with_reducible assumption)
    | (with_reducible apply Keep.ite <;> with_reducible intro _)
    | (with_reducible apply State.count_keep)
    | (with_reducible apply State.setFld_keep)
    | (with_reducible apply State.setTrng_keep)
    | (with_reducible apply trngFail_keep)
    | (with_reducible intro _)
    | (extract_lets)
    | split
    | (with_reducible apply Keep.mk; with_reducible first | apply Kept.of | (apply Kept.send; apply Kept.of)))

theorem execTrngSeedCollect_keep {x0 x1} (h1 : Keep b s0 x1) : KeepR b s0 (execTrngSeedCollect x0 x1) := by
  unfold execTrngSeedCollect
  repeat' (first
    | (with_reducible assumption)
    | (with_reducible apply KeepR.next)
    | (with_reducible apply KeepR.ite <;> with_reducible intro _)
    | (with_reducible apply Keep.ite <;> with_reducible intro _)
    | (with_reducible apply seedCollect_keep)
    | (with_reducible intro _)
    | split)

theorem execDrbgReseedTimer_keep {x0} (h0 : Keep b s0 x0) : KeepR b s0 (execDrbgReseedTimer x0) := by
  unfold execDrbgReseedTimer
  repeat' (first
    | (with_reducible assumption)
    | (with_reducible apply KeepR.next)
    | (with_reducible apply KeepR.ite <;> with_reducible intro _)
    | (with_reducible apply Keep.ite <;> with_reducible intro _)
    | (with_reducible apply State.setTrng_keep)
    | (with_reducible intro _)
    | split
    | (with_reducible apply Keep.mk; with_reducible first | apply Kept.of | (apply Kept.send; apply Kept.of)))

theorem trngReseed_keep {x0} (h0 : Keep b s0 x0) : Keep b s0 (trngReseed x0) := by
  unfold trngReseed
  repeat' (first
    | (with_reducible assumption)
    | (with_reducible apply Keep.ite <;> with_reducible intro _)
    | (with_reducible apply State.setTrng_keep)
    | (with_reducible apply startGo_keep)
    | (with_reducible intro _)
    | (with_reducible apply Keep.mk; with_reducible first | apply Kept.of | (apply Kept.send; apply Kept.of)))

theorem trngCtrlWrite_keep {x0 x1 x2} (h0 : Keep b s0 x0) : Keep b s0 (trngCtrlWrite x0 x1 x2) := by
  unfold trngCtrlWrite
  repeat' (first
    | (with_reducible assumption)
    | (with_reducible apply Keep.ite <;> with_reducible intro _)
    | (with_reducible apply trngReseed_keep)
    | (with_reducible intro _)
    | split)

theorem execTrngReseed_keep {x0 x1} (h1 : Keep b s0 x1) : KeepR b s0 (execTrngReseed x0 x1) := by
  unfold execTrngReseed
  repeat' (first
    | (with_reducible assumption)
    | (with_reducible apply KeepR.next)
    | (with_reducible apply KeepR.ite <;> with_reducible intro _)
    | (with_reducible apply Keep.ite <;> with_reducible intro _)
    | (with_reducible apply gateWrite_keep)
    | (with_reducible apply trngReseed_keep)
    | (with_reducible intro _))

theorem rawPop_keep {x0 x1} (h0 : Keep b s0 x0) : Keep b s0 (rawPop x0 x1) := by
  unfold rawPop
  extract_lets
  apply Keep.ite <;> intro _
  · exact State.send_keep h0
  · exact Keep.mk (Kept.drew 2 (Kept.of (State.send_keep h0)))

theorem execTrngRawPop_keep {x0 x1} (h1 : Keep b s0 x1) : KeepR b s0 (execTrngRawPop x0 x1) := by
  unfold execTrngRawPop
  repeat' (first
    | (with_reducible assumption)
    | (with_reducible apply KeepR.next)
    | (with_reducible apply KeepR.ite <;> with_reducible intro _)
    | (with_reducible apply Keep.ite <;> with_reducible intro _)
    | (with_reducible apply gateRead_keep)
    | (with_reducible apply rawPop_keep)
    | (with_reducible intro _))

/-! ### Ethernet -/

theorem loseSending_keep {x0 x1 x2} (h0 : Keep b s0 x0) : Keep b s0 (loseSending x0 x1 x2) := by
  unfold loseSending
  repeat' (first
    | (with_reducible assumption)
    | (with_reducible apply Keep.ite <;> with_reducible intro _)
    | (with_reducible apply State.count_keep)
    | (with_reducible apply State.setEgress_keep)
    | (with_reducible apply endBegun_keep)
    | (with_reducible apply State.setQueue_keep)
    | (with_reducible apply delivered_keep)
    | (with_reducible intro _)
    | (extract_lets)
    | split
    | (dsimp +zetaDelta only)
    | (with_reducible apply Keep.mk; with_reducible first | apply Kept.of | (apply Kept.send; apply Kept.of)))

theorem loseReceiving_keep {x0 x1 x2} (h0 : Keep b s0 x0) : Keep b s0 (loseReceiving x0 x1 x2) := by
  unfold loseReceiving
  repeat' (first
    | (with_reducible assumption)
    | (with_reducible apply Keep.ite <;> with_reducible intro _)
    | (with_reducible apply endBegun_keep)
    | (with_reducible apply State.putItems_keep)
    | (with_reducible apply comparePtrs_keep)
    | (with_reducible apply closeIfEmpty_keep)
    | (with_reducible apply freeItem_keep)
    | (with_reducible apply Keep.foldl <;> [intro _ _ _; skip])
    | (with_reducible intro _)
    | (extract_lets)
    | split
    | (dsimp +zetaDelta only)
    | (with_reducible apply Keep.mk; with_reducible first | apply Kept.of | (apply Kept.send; apply Kept.of)))

theorem linkLost_keep {x0 x1 x2} (h0 : Keep b s0 x0) : Keep b s0 (linkLost x0 x1 x2) := by
  unfold linkLost
  exact Keep.foldl (fun _ _ h => loseReceiving_keep h) (loseSending_keep (State.setPort_keep (State.setFld_keep (State.setFld_keep h0))))

theorem setRate_keep {x0 x1 x2 x3} (h0 : Keep b s0 x0) : Keep b s0 (setRate x0 x1 x2 x3) := by
  unfold setRate
  refine Keep.ite (fun _ => h0) (fun _ => setCause_keep (State.event_keep (gatesAfterRate_keep ?_)))
  exact Keep.ite (fun _ => linkLost_keep (State.setFld_keep (State.setFld_keep h0))) (fun _ => State.setFld_keep (State.setFld_keep h0))

theorem execEthLinkChange_keep {x0 x1 x2 x3} (h3 : Keep b s0 x3) : KeepR b s0 (execEthLinkChange x0 x1 x2 x3) :=
  KeepR.next (Keep.ite (fun _ => setRate_keep h3) (fun _ => h3))

theorem execAnDone_keep {x0 x1 x2 x3} (h3 : Keep b s0 x3) : KeepR b s0 (execAnDone x0 x1 x2 x3) :=
  KeepR.next (Keep.ite (fun _ => h3) (fun _ => Keep.ite (fun _ => State.setPort_keep (State.setFld_keep h3))
    (fun _ => setCause_keep (setRate_keep h3))))

theorem modeWrite_keep {x0 x1 x2 x3 x4} (h0 : Keep b s0 x0) : Keep b s0 (modeWrite x0 x1 x2 x3 x4) := by
  unfold modeWrite
  exact Keep.ite (fun _ => recordErr_keep h0) (fun _ => Keep.ite (fun _ => writeFields_keep h0)
    (fun _ => setRate_keep (State.setPort_keep (State.setFld_keep (writeFields_keep h0)))))

theorem execEthModeWrite_keep {x0 x1 x2 x3} (h3 : Keep b s0 x3) : KeepR b s0 (execEthModeWrite x0 x1 x2 x3) := by
  unfold execEthModeWrite
  repeat' (first
    | (with_reducible assumption)
    | (with_reducible apply KeepR.next)
    | (with_reducible apply KeepR.ite <;> with_reducible intro _)
    | (with_reducible apply Keep.ite <;> with_reducible intro _)
    | (with_reducible apply gateWrite_keep)
    | (with_reducible apply modeWrite_keep)
    | (with_reducible intro _))

theorem obeyPause_keep {x0 x1 x2} (h0 : Keep b s0 x0) : Keep b s0 (obeyPause x0 x1 x2) := by
  unfold obeyPause
  repeat' (first
    | (with_reducible assumption)
    | (with_reducible apply Keep.ite <;> with_reducible intro _)
    | (with_reducible apply State.setFld_keep)
    | (with_reducible intro _))

theorem macControl_keep {x0 x1 x2} (h0 : Keep b s0 x0) : Keep b s0 (macControl x0 x1 x2) := by
  unfold macControl
  repeat' (first
    | (with_reducible assumption)
    | (with_reducible apply Keep.ite <;> with_reducible intro _)
    | (with_reducible apply State.count_keep)
    | (with_reducible apply obeyPause_keep)
    | (with_reducible intro _)
    | (extract_lets)
    | split)

theorem execPauseExpiry_keep {x0 x1} (h1 : Keep b s0 x1) : KeepR b s0 (execPauseExpiry x0 x1) := by
  unfold execPauseExpiry
  repeat' (first
    | (with_reducible assumption)
    | (with_reducible apply KeepR.next)
    | (with_reducible apply KeepR.ite <;> with_reducible intro _)
    | (with_reducible apply Keep.ite <;> with_reducible intro _)
    | (with_reducible apply State.setFld_keep)
    | (with_reducible intro _)
    | split)

theorem execPauseWdogFire_keep {x0 x1} (h1 : Keep b s0 x1) : KeepR b s0 (execPauseWdogFire x0 x1) := by
  unfold execPauseWdogFire
  repeat' (first
    | (with_reducible assumption)
    | (with_reducible apply KeepR.next)
    | (with_reducible apply KeepR.ite <;> with_reducible intro _)
    | (with_reducible apply Keep.ite <;> with_reducible intro _)
    | (with_reducible apply State.setFld_keep)
    | (with_reducible apply State.count_keep)
    | (with_reducible apply setCause_keep)
    | (with_reducible apply State.event_keep)
    | (with_reducible intro _)
    | (extract_lets)
    | split)

theorem execPauseHoldEnd_keep {x0 x1} (h1 : Keep b s0 x1) : KeepR b s0 (execPauseHoldEnd x0 x1) := by
  unfold execPauseHoldEnd
  repeat' (first
    | (with_reducible assumption)
    | (with_reducible apply KeepR.next)
    | (with_reducible apply KeepR.ite <;> with_reducible intro _)
    | (with_reducible apply Keep.ite <;> with_reducible intro _)
    | (with_reducible apply State.setFld_keep)
    | (with_reducible intro _)
    | split)

theorem execPauseTxRepeat_keep {x0 x1} (h1 : Keep b s0 x1) : KeepR b s0 (execPauseTxRepeat x0 x1) := by
  unfold execPauseTxRepeat
  repeat' (first
    | (with_reducible assumption)
    | (with_reducible apply KeepR.next)
    | (with_reducible apply KeepR.ite <;> with_reducible intro _)
    | (with_reducible apply Keep.ite <;> with_reducible intro _)
    | (with_reducible apply sendPause_keep)
    | (with_reducible intro _)
    | split)

theorem execLpiEnter_keep {x0 x1} (h1 : Keep b s0 x1) : KeepR b s0 (execLpiEnter x0 x1) := by
  unfold execLpiEnter
  repeat' (first
    | (with_reducible assumption)
    | (with_reducible apply KeepR.next)
    | (with_reducible apply KeepR.ite <;> with_reducible intro _)
    | (with_reducible apply Keep.ite <;> with_reducible intro _)
    | (with_reducible apply State.count_keep)
    | (with_reducible apply State.setFld_keep)
    | (with_reducible intro _)
    | split)

theorem execLpiWakeDone_keep {x0 x1} (h1 : Keep b s0 x1) : KeepR b s0 (execLpiWakeDone x0 x1) := by
  unfold execLpiWakeDone
  repeat' (first
    | (with_reducible assumption)
    | (with_reducible apply KeepR.next)
    | (with_reducible apply KeepR.ite <;> with_reducible intro _)
    | (with_reducible apply Keep.ite <;> with_reducible intro _)
    | (with_reducible apply flushPause_keep)
    | (with_reducible apply State.setPort_keep)
    | (with_reducible apply State.setFld_keep)
    | (with_reducible intro _)
    | (extract_lets)
    | split
    | (dsimp +zetaDelta only)
    | (with_reducible apply Keep.mk; with_reducible first | apply Kept.of | (apply Kept.send; apply Kept.of)))

theorem setTxAssoc_keep {x0 x1 x2 x3} (h0 : Keep b s0 x0) : Keep b s0 (setTxAssoc x0 x1 x2 x3) := by
  unfold setTxAssoc
  repeat' (first
    | (with_reducible assumption)
    | (with_reducible apply Keep.ite <;> with_reducible intro _)
    | (with_reducible apply State.setPort_keep)
    | (with_reducible intro _)
    | (with_reducible apply Keep.mk; with_reducible first | apply Kept.of | (apply Kept.send; apply Kept.of)))

theorem setRxAssoc_keep {x0 x1 x2 x3} (h0 : Keep b s0 x0) : Keep b s0 (setRxAssoc x0 x1 x2 x3) := by
  unfold setRxAssoc
  repeat' (first
    | (with_reducible assumption)
    | (with_reducible apply Keep.ite <;> with_reducible intro _)
    | (with_reducible apply State.setPort_keep)
    | (with_reducible intro _)
    | (with_reducible apply Keep.mk; with_reducible first | apply Kept.of | (apply Kept.send; apply Kept.of)))

theorem advancePn_keep {x0 x1 x2 x3} (h0 : Keep b s0 x0) : Keep b s0 (advancePn x0 x1 x2 x3) := by
  unfold advancePn
  repeat' (first
    | (with_reducible assumption)
    | (with_reducible apply Keep.ite <;> with_reducible intro _)
    | (with_reducible apply setTxAssoc_keep)
    | (with_reducible apply State.event_keep)
    | (with_reducible apply setCause_keep)
    | (with_reducible apply State.setFld_keep)
    | (with_reducible intro _)
    | (extract_lets)
    | split
    | (with_reducible apply Keep.mk; with_reducible first | apply Kept.of | (apply Kept.send; apply Kept.of)))

theorem protect_keep {x0 x1 x2} (h0 : Keep b s0 x0) : Keep b s0 (protect x0 x1 x2).2 := by
  unfold protect
  repeat' (first
    | (with_reducible assumption)
    | (with_reducible apply Keep.ite <;> with_reducible intro _)
    | (with_reducible apply advancePn_keep)
    | (with_reducible apply gcmRequest_keep)
    | (with_reducible intro _)
    | (extract_lets)
    | split
    | (with_reducible refine Keep.snd ?_ (by with_reducible assumption))
    | (with_reducible refine Keep.trd ?_ (by with_reducible assumption))
    | (with_reducible apply Keep.ite_fst <;> with_reducible intro _)
    | (with_reducible apply Keep.ite_snd <;> with_reducible intro _)
    | (with_reducible apply Keep.foldl_snd <;> [intro _ _ _; skip])
    | (with_reducible apply Keep.foldl_fst <;> [intro _ _ _; skip]))

theorem macsecRx_keep {x0 x1 x2} (h0 : Keep b s0 x0) : Keep b s0 (macsecRx x0 x1 x2).2 := by
  unfold macsecRx
  repeat' (first
    | (with_reducible assumption)
    | (with_reducible apply Keep.ite <;> with_reducible intro _)
    | (with_reducible apply State.count_keep)
    | (with_reducible apply gcmRequest_keep)
    | (with_reducible apply setRxAssoc_keep)
    | (with_reducible intro _)
    | (extract_lets)
    | split
    | (with_reducible refine Keep.snd ?_ (by with_reducible assumption))
    | (with_reducible refine Keep.trd ?_ (by with_reducible assumption))
    | (with_reducible apply Keep.ite_fst <;> with_reducible intro _)
    | (with_reducible apply Keep.ite_snd <;> with_reducible intro _)
    | (with_reducible apply Keep.foldl_snd <;> [intro _ _ _; skip])
    | (with_reducible apply Keep.foldl_fst <;> [intro _ _ _; skip])
    | (dsimp +zetaDelta only)
    | (with_reducible apply Keep.mk; with_reducible first | apply Kept.of | (apply Kept.send; apply Kept.of)))

theorem saPut_keep {x0 x1 x2} (h0 : Keep b s0 x0) : Keep b s0 (saPut x0 x1 x2) := by
  unfold saPut
  repeat' (first
    | (with_reducible assumption)
    | (with_reducible apply Keep.ite <;> with_reducible intro _)
    | (with_reducible apply setRxAssoc_keep)
    | (with_reducible apply setTxAssoc_keep)
    | (with_reducible intro _)
    | (extract_lets)
    | split)

theorem refreshHalt_keep {x0 x1} (h0 : Keep b s0 x0) : Keep b s0 (refreshHalt x0 x1) := by
  unfold refreshHalt
  repeat' (first
    | (with_reducible assumption)
    | (with_reducible apply Keep.ite <;> with_reducible intro _)
    | (with_reducible apply State.setFld_keep)
    | (with_reducible intro _)
    | (extract_lets)
    | split)

theorem saCfgWrite_keep {x0 x1 x2 x3} (h0 : Keep b s0 x0) : Keep b s0 (saCfgWrite x0 x1 x2 x3) := by
  unfold saCfgWrite
  repeat' (first
    | (with_reducible assumption)
    | (with_reducible apply Keep.ite <;> with_reducible intro _)
    | (with_reducible apply recordErr_keep)
    | (with_reducible apply saPut_keep)
    | (with_reducible apply denied_keep)
    | (with_reducible apply refreshHalt_keep)
    | (with_reducible intro _)
    | (extract_lets)
    | split
    | (dsimp +zetaDelta only)
    | (with_reducible apply Keep.mk; with_reducible first | apply Kept.of | (apply Kept.send; apply Kept.of)))

theorem saWrite_keep {x0 x1 x2 x3 x4} (h0 : Keep b s0 x0) : Keep b s0 (saWrite x0 x1 x2 x3 x4) := by
  unfold saWrite
  repeat' (first
    | (with_reducible assumption)
    | (with_reducible apply Keep.ite <;> with_reducible intro _)
    | (with_reducible apply recordErr_keep)
    | (with_reducible apply saCfgWrite_keep)
    | (with_reducible apply saPut_keep)
    | (with_reducible apply wideWrite_keep)
    | (with_reducible apply State.setPort_keep)
    | (with_reducible intro _)
    | (extract_lets)
    | split
    | (with_reducible apply Keep.mk; with_reducible first | apply Kept.of | (apply Kept.send; apply Kept.of)))

theorem execSaCfgWrite_keep {x0 x1 x2 x3 x4} (h4 : Keep b s0 x4) : KeepR b s0 (execSaCfgWrite x0 x1 x2 x3 x4) := by
  unfold execSaCfgWrite
  repeat' (first
    | (with_reducible assumption)
    | (with_reducible apply KeepR.next)
    | (with_reducible apply KeepR.ite <;> with_reducible intro _)
    | (with_reducible apply Keep.ite <;> with_reducible intro _)
    | (with_reducible apply gateWrite_keep)
    | (with_reducible apply saWrite_keep)
    | (with_reducible intro _))

theorem macsecCfgWrite_keep {x0 x1 x2 x3 x4} (h0 : Keep b s0 x0) : Keep b s0 (macsecCfgWrite x0 x1 x2 x3 x4) := by
  unfold macsecCfgWrite
  repeat' (first
    | (with_reducible assumption)
    | (with_reducible apply Keep.ite <;> with_reducible intro _)
    | (with_reducible apply refreshHalt_keep)
    | (with_reducible apply writeFields_keep)
    | (with_reducible intro _))

theorem rxEnqueue_keep {x0 x1 x2 x3} (h0 : Keep b s0 x0) : Keep b s0 (rxEnqueue x0 x1 x2 x3) := by
  unfold rxEnqueue
  repeat' (first
    | (with_reducible assumption)
    | (with_reducible apply Keep.ite <;> with_reducible intro _)
    | (with_reducible apply enqueue_keep)
    | (with_reducible intro _)
    | (extract_lets)
    | split
    | (with_reducible refine Keep.snd ?_ (by with_reducible assumption))
    | (with_reducible refine Keep.trd ?_ (by with_reducible assumption))
    | (dsimp +zetaDelta only)
    | (with_reducible apply Keep.mk; with_reducible first | apply Kept.of | (apply Kept.send; apply Kept.of)))

theorem ethRx_keep {x0 x1 x2} (h0 : Keep b s0 x0) : Keep b s0 (ethRx x0 x1 x2) := by
  unfold ethRx
  repeat' (first
    | (with_reducible assumption)
    | (with_reducible apply Keep.ite <;> with_reducible intro _)
    | (with_reducible apply State.count_keep)
    | (with_reducible apply macControl_keep)
    | (with_reducible apply rxEnqueue_keep)
    | (with_reducible apply macsecRx_keep)
    | (with_reducible intro _)
    | (extract_lets)
    | split
    | (with_reducible refine Keep.snd ?_ (by with_reducible assumption))
    | (with_reducible refine Keep.trd ?_ (by with_reducible assumption))
    | (with_reducible apply Keep.ite_fst <;> with_reducible intro _)
    | (with_reducible apply Keep.ite_snd <;> with_reducible intro _)
    | (with_reducible apply Keep.foldl_snd <;> [intro _ _ _; skip])
    | (with_reducible apply Keep.foldl_fst <;> [intro _ _ _; skip])
    | (dsimp +zetaDelta only))

theorem execEthRxFrame_keep {x0 x1 x2} (h2 : Keep b s0 x2) : KeepR b s0 (execEthRxFrame x0 x1 x2) := by
  unfold execEthRxFrame
  repeat' (first
    | (with_reducible assumption)
    | (with_reducible apply KeepR.next)
    | (with_reducible apply KeepR.ite <;> with_reducible intro _)
    | (with_reducible apply Keep.ite <;> with_reducible intro _)
    | (with_reducible apply ethRx_keep)
    | (with_reducible intro _)
    | split)

theorem putTxts_keep {x0 x1 x2} (h0 : Keep b s0 x0) : Keep b s0 (putTxts x0 x1 x2) := by
  unfold putTxts
  repeat' (first
    | (with_reducible assumption)
    | (with_reducible apply Keep.ite <;> with_reducible intro _)
    | (with_reducible apply setCause_keep)
    | (with_reducible apply State.count_keep)
    | (with_reducible apply State.setPort_keep)
    | (with_reducible intro _)
    | (extract_lets)
    | split
    | (with_reducible apply Keep.mk; with_reducible first | apply Kept.of | (apply Kept.send; apply Kept.of)))

theorem stampTx_keep {x0 x1 x2 x3} (h0 : Keep b s0 x0) : Keep b s0 (stampTx x0 x1 x2 x3) := by
  unfold stampTx
  repeat' (first
    | (with_reducible assumption)
    | (with_reducible apply Keep.ite <;> with_reducible intro _)
    | (with_reducible apply pdelayFollowUp_keep)
    | (with_reducible apply putTxts_keep)
    | (with_reducible intro _)
    | split
    | (dsimp +zetaDelta only)
    | (with_reducible apply Keep.mk; with_reducible first | apply Kept.of | (apply Kept.send; apply Kept.of)))

theorem transmit_keep {x0 x1 x2 x3} (h0 : Keep b s0 x0) : Keep b s0 (transmit x0 x1 x2 x3) := by
  unfold transmit
  repeat' (first
    | (with_reducible assumption)
    | (with_reducible apply Keep.ite <;> with_reducible intro _)
    | (with_reducible apply State.count_keep)
    | (with_reducible apply State.send_keep)
    | (with_reducible apply stampTx_keep)
    | (with_reducible apply protect_keep)
    | (with_reducible intro _)
    | (extract_lets)
    | split
    | (with_reducible refine Keep.snd ?_ (by with_reducible assumption))
    | (with_reducible refine Keep.trd ?_ (by with_reducible assumption))
    | (with_reducible apply Keep.ite_fst <;> with_reducible intro _)
    | (with_reducible apply Keep.ite_snd <;> with_reducible intro _)
    | (with_reducible apply Keep.foldl_snd <;> [intro _ _ _; skip])
    | (with_reducible apply Keep.foldl_fst <;> [intro _ _ _; skip])
    | (dsimp +zetaDelta only)
    | (with_reducible apply Keep.mk; with_reducible first | apply Kept.of | (apply Kept.send; apply Kept.of)))

theorem ethTxBegin_keep {x0 x1} (h0 : Keep b s0 x0) : Keep b s0 (ethTxBegin x0 x1) := by
  unfold ethTxBegin
  repeat' (first
    | (with_reducible assumption)
    | (with_reducible apply Keep.ite <;> with_reducible intro _)
    | (with_reducible apply flushPause_keep)
    | (with_reducible apply delivered_keep)
    | (with_reducible apply State.setEgress_keep)
    | (with_reducible apply settleHead_keep)
    | (with_reducible apply transmit_keep)
    | (with_reducible intro _)
    | (extract_lets)
    | split
    | (dsimp +zetaDelta only)
    | (with_reducible apply Keep.mk; with_reducible first | apply Kept.of | (apply Kept.send; apply Kept.of))
    | (with_reducible refine Keep.snd ?_ (by with_reducible assumption))
    | (with_reducible refine Keep.trd ?_ (by with_reducible assumption)))

theorem execEthTxBegin_keep {x0 x1} (h1 : Keep b s0 x1) : KeepR b s0 (execEthTxBegin x0 x1) := by
  unfold execEthTxBegin
  repeat' (first
    | (with_reducible assumption)
    | (with_reducible apply KeepR.next)
    | (with_reducible apply KeepR.ite <;> with_reducible intro _)
    | (with_reducible apply Keep.ite <;> with_reducible intro _)
    | (with_reducible apply ethTxBegin_keep)
    | (with_reducible intro _)
    | split)

theorem txtsPop_keep {x0 x1 x2} (h0 : Keep b s0 x0) : Keep b s0 (txtsPop x0 x1 x2) := by
  unfold txtsPop
  repeat' (first
    | (with_reducible assumption)
    | (with_reducible apply Keep.ite <;> with_reducible intro _)
    | (with_reducible apply readWide_keep)
    | (with_reducible apply State.setPort_keep)
    | (with_reducible apply State.setReg_keep)
    | (with_reducible apply Keep.foldl <;> [intro _ _ _; skip])
    | (with_reducible intro _)
    | (extract_lets)
    | split
    | (with_reducible apply Keep.mk; with_reducible first | apply Kept.of | (apply Kept.send; apply Kept.of)))

theorem execTxtsPop_keep {x0 x1 x2} (h2 : Keep b s0 x2) : KeepR b s0 (execTxtsPop x0 x1 x2) := by
  unfold execTxtsPop
  repeat' (first
    | (with_reducible assumption)
    | (with_reducible apply KeepR.next)
    | (with_reducible apply KeepR.ite <;> with_reducible intro _)
    | (with_reducible apply Keep.ite <;> with_reducible intro _)
    | (with_reducible apply gateRead_keep)
    | (with_reducible apply txtsPop_keep)
    | (with_reducible intro _))

theorem tunnelEncap_keep {x0 x1} (h0 : Keep b s0 x0) : Keep b s0 (tunnelEncap x0 x1) := by
  unfold tunnelEncap
  repeat' (first
    | (with_reducible assumption)
    | (with_reducible apply Keep.ite <;> with_reducible intro _)
    | (with_reducible apply gcmHeld_keep)
    | (with_reducible apply delivered_keep)
    | (with_reducible apply denied_keep)
    | (with_reducible apply gcmRequest_keep)
    | (with_reducible apply enqueue_keep)
    | (with_reducible apply State.setPort_keep)
    | (with_reducible apply State.event_keep)
    | (with_reducible intro _)
    | (extract_lets)
    | split
    | (with_reducible refine Keep.snd ?_ (by with_reducible assumption))
    | (with_reducible refine Keep.trd ?_ (by with_reducible assumption))
    | (dsimp +zetaDelta only)
    | (with_reducible apply Keep.mk; with_reducible first | apply Kept.of | (apply Kept.send; apply Kept.of)))

theorem execTunnelEncap_keep {x0 x1} (h1 : Keep b s0 x1) : KeepR b s0 (execTunnelEncap x0 x1) := by
  unfold execTunnelEncap
  repeat' (first
    | (with_reducible assumption)
    | (with_reducible apply KeepR.next)
    | (with_reducible apply KeepR.ite <;> with_reducible intro _)
    | (with_reducible apply Keep.ite <;> with_reducible intro _)
    | (with_reducible apply tunnelEncap_keep)
    | (with_reducible intro _)
    | split)

theorem tunnelDecap_keep {x0 x1} (h0 : Keep b s0 x0) : Keep b s0 (tunnelDecap x0 x1) := by
  unfold tunnelDecap
  repeat' (first
    | (with_reducible assumption)
    | (with_reducible apply Keep.ite <;> with_reducible intro _)
    | (with_reducible apply gcmHeld_keep)
    | (with_reducible apply delivered_keep)
    | (with_reducible apply denied_keep)
    | (with_reducible apply gcmRequest_keep)
    | (with_reducible apply State.count_keep)
    | (with_reducible apply State.setPort_keep)
    | (with_reducible apply enqueue_keep)
    | (with_reducible intro _)
    | (extract_lets)
    | split
    | (with_reducible refine Keep.snd ?_ (by with_reducible assumption))
    | (with_reducible refine Keep.trd ?_ (by with_reducible assumption))
    | (dsimp +zetaDelta only)
    | (with_reducible apply Keep.mk; with_reducible first | apply Kept.of | (apply Kept.send; apply Kept.of)))

theorem execTunnelDecap_keep {x0 x1} (h1 : Keep b s0 x1) : KeepR b s0 (execTunnelDecap x0 x1) := by
  unfold execTunnelDecap
  repeat' (first
    | (with_reducible assumption)
    | (with_reducible apply KeepR.next)
    | (with_reducible apply KeepR.ite <;> with_reducible intro _)
    | (with_reducible apply Keep.ite <;> with_reducible intro _)
    | (with_reducible apply tunnelDecap_keep)
    | (with_reducible intro _)
    | split)

theorem mdioStart_keep {x0 x1} (h0 : Keep b s0 x0) : Keep b s0 (mdioStart x0 x1) := by
  unfold mdioStart
  repeat' (first
    | (with_reducible assumption)
    | (with_reducible apply Keep.ite <;> with_reducible intro _)
    | (with_reducible apply State.setPort_keep)
    | (with_reducible apply State.setFld_keep)
    | (with_reducible apply State.send_keep)
    | (with_reducible intro _)
    | (extract_lets)
    | (dsimp +zetaDelta only)
    | (with_reducible apply Keep.mk; with_reducible first | apply Kept.of | (apply Kept.send; apply Kept.of)))

theorem mdioWrite_keep {x0 x1 x2 x3 x4} (h0 : Keep b s0 x0) : Keep b s0 (mdioWrite x0 x1 x2 x3 x4) := by
  unfold mdioWrite
  repeat' (first
    | (with_reducible assumption)
    | (with_reducible apply Keep.ite <;> with_reducible intro _)
    | (with_reducible apply writeFields_keep)
    | (with_reducible apply State.setFld_keep)
    | (with_reducible apply startGo_keep)
    | (with_reducible apply mdioStart_keep)
    | (with_reducible intro _)
    | (extract_lets)
    | split)

theorem execMdioGo_keep {x0 x1 x2 x3} (h3 : Keep b s0 x3) : KeepR b s0 (execMdioGo x0 x1 x2 x3) := by
  unfold execMdioGo
  repeat' (first
    | (with_reducible assumption)
    | (with_reducible apply KeepR.next)
    | (with_reducible apply KeepR.ite <;> with_reducible intro _)
    | (with_reducible apply Keep.ite <;> with_reducible intro _)
    | (with_reducible apply gateWrite_keep)
    | (with_reducible apply mdioWrite_keep)
    | (with_reducible intro _))

theorem execMdioDone_keep {x0 x1 x2} (h2 : Keep b s0 x2) : KeepR b s0 (execMdioDone x0 x1 x2) := by
  unfold execMdioDone
  repeat' (first
    | (with_reducible assumption)
    | (with_reducible apply KeepR.next)
    | (with_reducible apply KeepR.ite <;> with_reducible intro _)
    | (with_reducible apply Keep.ite <;> with_reducible intro _)
    | (with_reducible apply State.setFld_keep)
    | (with_reducible apply setCause_keep)
    | (with_reducible apply endGo_keep)
    | (with_reducible apply mdioStart_keep)
    | (with_reducible intro _)
    | (extract_lets)
    | split
    | (with_reducible refine Keep.snd ?_ (by with_reducible assumption))
    | (with_reducible refine Keep.trd ?_ (by with_reducible assumption)))

end Sys2Proof.Machine
end

