-- ==== Sys2Proof/Laws/KeepDevice.lean ====
section
/-!
SUPPORT. Sys2Proof/Laws/KeepDevice.lean: one lemma for each function on states of resets, power, windows, commands, self-test, memory errors: it keeps what `Keep` says.
-/

-- One theorem after the other: side by side, their proofs would hold threads and memory together.
set_option Elab.async false
set_option linter.unusedTactic false
set_option linter.unreachableTactic false

namespace Sys2Proof.Machine

variable {b : Bool} {s0 : State}

/-! ### Reset -/

theorem ringHostReset_keep {x0 x1} (h0 : Keep b s0 x0) : Keep b s0 (ringHostReset x0 x1) := by
  unfold ringHostReset
  repeat' (first
    | (with_reducible assumption)
    | (with_reducible apply Keep.ite <;> with_reducible intro _)
    | (with_reducible apply clearPointers_keep)
    | (with_reducible apply discardRecords_keep)
    | (with_reducible apply State.setFld_keep)
    | (with_reducible apply State.setRing_keep)
    | (with_reducible intro _)
    | (extract_lets)
    | (with_reducible apply Keep.mk; with_reducible first | apply Kept.of | (apply Kept.send; apply Kept.of)))

theorem evrHostReset_keep {x0} (h0 : Keep b s0 x0) : Keep b s0 (evrHostReset x0) := by
  unfold evrHostReset
  repeat' (first
    | (with_reducible assumption)
    | (with_reducible apply Keep.ite <;> with_reducible intro _)
    | (with_reducible apply State.setReg_keep)
    | (with_reducible apply State.setFld_keep)
    | (with_reducible intro _)
    | (extract_lets)
    | (with_reducible apply Keep.mk; with_reducible first | apply Kept.of | (apply Kept.send; apply Kept.of)))

theorem hostReset_keep {x0} (h0 : Keep b s0 x0) : Keep b s0 (hostReset x0) := by
  unfold hostReset
  repeat' (first
    | (with_reducible assumption)
    | (with_reducible apply Keep.ite <;> with_reducible intro _)
    | (with_reducible apply evrHostReset_keep)
    | (with_reducible apply ringHostReset_keep)
    | (with_reducible apply setHrxCount_keep)
    | (with_reducible apply hrxHostReset_keep)
    | (with_reducible apply setCause_keep)
    | (with_reducible apply Keep.foldl <;> [intro _ _ _; skip])
    | (with_reducible intro _)
    | (extract_lets)
    | (with_reducible apply Keep.mk; with_reducible first | apply Kept.of | (apply Kept.send; apply Kept.of)))

theorem execPerstNAssert_keep {x0} (h0 : Keep b s0 x0) : KeepR b s0 (execPerstNAssert x0) := by
  unfold execPerstNAssert
  repeat' (first
    | (with_reducible assumption)
    | (with_reducible apply KeepR.next)
    | (with_reducible apply KeepR.ite <;> with_reducible intro _)
    | (with_reducible apply Keep.ite <;> with_reducible intro _)
    | (with_reducible apply State.setFld_keep)
    | (with_reducible apply hostReset_keep)
    | (with_reducible apply linkChange_keep)
    | (with_reducible intro _)
    | (extract_lets)
    | split
    | (with_reducible apply Keep.mk; with_reducible first | apply Kept.of | (apply Kept.send; apply Kept.of)))

theorem execPerstNRelease_keep {x0} (h0 : Keep b s0 x0) : KeepR b s0 (execPerstNRelease x0) := by
  unfold execPerstNRelease
  repeat' (first
    | (with_reducible assumption)
    | (with_reducible apply KeepR.next)
    | (with_reducible apply KeepR.ite <;> with_reducible intro _)
    | (with_reducible apply Keep.ite <;> with_reducible intro _)
    | (with_reducible apply State.setFld_keep)
    | (with_reducible intro _)
    | (extract_lets)
    | split
    | (with_reducible apply Keep.mk; with_reducible first | apply Kept.of | (apply Kept.send; apply Kept.of)))

theorem execFunctionLevelReset_keep {x0} (h0 : Keep b s0 x0) : KeepR b s0 (execFunctionLevelReset x0) := by
  unfold execFunctionLevelReset
  repeat' (first
    | (with_reducible assumption)
    | (with_reducible apply KeepR.next)
    | (with_reducible apply KeepR.ite <;> with_reducible intro _)
    | (with_reducible apply Keep.ite <;> with_reducible intro _)
    | (with_reducible apply hostReset_keep)
    | (with_reducible intro _)
    | split)

theorem keptDram_keep {x0} (h0 : Keep b s0 x0) : Keep b s0 (keptDram x0) := by
  unfold keptDram
  repeat' (first
    | (with_reducible assumption)
    | (with_reducible apply Keep.ite <;> with_reducible intro _)
    | (with_reducible apply State.ramClear_keep)
    | (with_reducible intro _))

theorem showPins_keep {x0 x1} (h1 : Keep b s0 x1) : Keep b s0 (showPins x0 x1) := by
  unfold showPins
  repeat' (first
    | (with_reducible assumption)
    | (with_reducible apply Keep.ite <;> with_reducible intro _)
    | (with_reducible apply State.setFld_keep)
    | (with_reducible apply Keep.foldl <;> [intro _ _ _; skip])
    | (with_reducible intro _)
    | (extract_lets))

theorem keepImages_keep {x0 x1} (h1 : Keep b s0 x1) : Keep b s0 (keepImages x0 x1) := by
  unfold keepImages
  repeat' (first
    | (with_reducible assumption)
    | (with_reducible apply Keep.ite <;> with_reducible intro _)
    | (with_reducible apply State.setReg_keep)
    | (with_reducible apply refreshSessions_keep)
    | (with_reducible apply State.setFld_keep)
    | (with_reducible apply Keep.foldl <;> [intro _ _ _; skip])
    | (with_reducible intro _)
    | (extract_lets)
    | (dsimp +zetaDelta only)
    | (with_reducible apply Keep.mk; with_reducible first | apply Kept.of | (apply Kept.send; apply Kept.of)))

theorem resetEffects_keep {x0 x1 x2} (hx : x1 ≠ 0 ∨ b = false) (h0 : Keep b s0 x0) : Keep b s0 (resetEffects x0 x1 x2) := by
  unfold resetEffects
  extract_lets power watch seen aon r d bt t1 t2 t3 t4
  have hk : Keep b s0 (keptDram x0) := keptDram_keep h0
  have h1 : Keep b s0 t1 := by
    refine Keep.mk { Kept.of h0 with regs := fun w => Tbl.wf_filter _ _ (h0.regs w), dram := fun w => ?_, latch := fun hb hl => ?_ }
    · split
      · exact hk.dram w
      · rfl
    · have hp : power = false := by
        rcases hx with hx | hx
        · simpa [power] using hx
        · rw [hx] at hb; cases hb
      have := h0.latch hb hl
      simp [hp, this]
  have h2 : Keep b s0 t2 := State.setFld_keep (State.setFld_keep h1)
  have h3 : Keep b s0 t3 := State.setReg_keep (State.setReg_keep h2)
  have h4 : Keep b s0 t4 := Keep.ite (fun _ => keepImages_keep h3) (fun _ => h3)
  exact showPins_keep (ageShown_keep h4)

theorem enterReset_keep {x0 x1} (hx : x1 ≠ 0 ∨ b = false) (h0 : Keep b s0 x0) : Keep b s0 (enterReset x0 x1) := resetEffects_keep hx h0

theorem aonReports_keep {x0} (h0 : Keep b s0 x0) : Keep b s0 (aonReports x0) := by
  unfold aonReports
  repeat' (first
    | (with_reducible assumption)
    | (with_reducible apply Keep.ite <;> with_reducible intro _)
    | (with_reducible apply setCause_keep)
    | (with_reducible apply State.event_keep)
    | (with_reducible apply Keep.foldl <;> [intro _ _ _; skip])
    | (with_reducible intro _)
    | (extract_lets)
    | split
    | (with_reducible apply Keep.mk; with_reducible first | apply Kept.of | (apply Kept.send; apply Kept.of)))

theorem enterBoot_keep {x0} (h0 : Keep b s0 x0) : Keep b s0 (enterBoot x0) := by
  unfold enterBoot
  repeat' (first
    | (with_reducible assumption)
    | (with_reducible apply Keep.ite <;> with_reducible intro _)
    | (with_reducible apply aonReports_keep)
    | (with_reducible apply State.event_keep)
    | (with_reducible intro _)
    | (extract_lets)
    | (with_reducible apply Keep.mk; with_reducible first | apply Kept.of | (apply Kept.send; apply Kept.of))
    | (with_reducible apply Keep.mk; apply Kept.of))

theorem resetRelease_keep {x0} (h0 : Keep b s0 x0) : Keep b s0 (resetRelease x0) := by
  unfold resetRelease
  repeat' (first
    | (with_reducible assumption)
    | (with_reducible apply Keep.ite <;> with_reducible intro _)
    | (with_reducible apply State.setFld_keep)
    | (with_reducible apply enterBoot_keep)
    | (with_reducible intro _)
    | split
    | (with_reducible apply Keep.mk; with_reducible first | apply Kept.of | (apply Kept.send; apply Kept.of))
    | (with_reducible apply Keep.mk; apply Kept.of))

theorem execResetRelease_keep {x0 x1} (h1 : Keep b s0 x1) : KeepR b s0 (execResetRelease x0 x1) := by
  unfold execResetRelease
  repeat' (first
    | (with_reducible assumption)
    | (with_reducible apply KeepR.next)
    | (with_reducible apply KeepR.ite <;> with_reducible intro _)
    | (with_reducible apply Keep.ite <;> with_reducible intro _)
    | (with_reducible apply resetRelease_keep)
    | (with_reducible apply State.setFld_keep)
    | (with_reducible intro _)
    | (extract_lets)
    | split
    | (with_reducible apply Keep.mk; with_reducible first | apply Kept.of | (apply Kept.send; apply Kept.of)))

theorem execPowerOnReset_keep {x0} (h0 : Keep false s0 x0) : KeepR false s0 (execPowerOnReset x0) := KeepR.next (enterReset_keep (.inr rfl) h0)

theorem execPinReset_keep {x0} (h0 : Keep b s0 x0) : KeepR b s0 (execPinReset x0) := KeepR.next (enterReset_keep (.inl (by decide)) h0)

theorem execSysWatchdogExpiry_keep {x0} (h0 : Keep b s0 x0) : KeepR b s0 (execSysWatchdogExpiry x0) :=
  KeepR.next (Keep.ite (fun _ => enterReset_keep (.inl (by decide)) h0) (fun _ => h0))

theorem execJtagReset_keep {x0} (h0 : Keep b s0 x0) : KeepR b s0 (execJtagReset x0) := KeepR.next (enterReset_keep (.inl (by decide)) h0)

theorem execBrownOut_keep {x0} (h0 : Keep b s0 x0) : KeepR b s0 (execBrownOut x0) :=
  KeepR.next (Keep.ite (fun _ => enterReset_keep (.inl (by decide)) h0) (fun _ => h0))

theorem resetCtrlWrite_keep {x0 x1 x2} (h0 : Keep b s0 x0) : Keep b s0 (resetCtrlWrite x0 x1 x2) := by
  unfold resetCtrlWrite
  repeat' (first
    | (with_reducible assumption)
    | (with_reducible apply Keep.ite <;> with_reducible intro _)
    | (with_reducible apply recordErr_keep)
    | (with_reducible intro _)
    | split
    | (with_reducible apply Keep.mk; with_reducible first | apply Kept.of | (apply Kept.send; apply Kept.of))
    | (with_reducible apply Keep.mk; apply Kept.of))

theorem execResetCtrlWrite_keep {x0 x1 x2} (h2 : Keep b s0 x2) : KeepR b s0 (execResetCtrlWrite x0 x1 x2) := by
  unfold execResetCtrlWrite
  repeat' (first
    | (with_reducible assumption)
    | (with_reducible apply KeepR.next)
    | (with_reducible apply KeepR.ite <;> with_reducible intro _)
    | (with_reducible apply Keep.ite <;> with_reducible intro _)
    | (with_reducible apply gateWrite_keep)
    | (with_reducible apply resetCtrlWrite_keep)
    | (with_reducible intro _))

theorem execSoftwareReset_keep {x0} (h0 : Keep b s0 x0) : KeepR b s0 (execSoftwareReset x0) :=
  KeepR.next (Keep.ite (fun _ => enterReset_keep (.inl (by decide)) h0) (fun _ => h0))

theorem tamperReplace_keep {x0 x1} (h0 : Keep b s0 x0) : Keep b s0 (tamperReplace x0 x1) := by
  unfold tamperReplace
  repeat' (first
    | (with_reducible assumption)
    | (with_reducible apply Keep.ite <;> with_reducible intro _)
    | (with_reducible apply endReplace_keep)
    | (with_reducible apply State.setSlot_keep)
    | (with_reducible apply dropReplace_keep)
    | (with_reducible intro _)
    | (extract_lets)
    | split
    | (with_reducible apply Keep.mk; with_reducible first | apply Kept.of | (apply Kept.send; apply Kept.of)))

theorem tamperCommands_keep {x0} (h0 : Keep b s0 x0) : Keep b s0 (tamperCommands x0) := by
  unfold tamperCommands
  repeat' (first
    | (with_reducible assumption)
    | (with_reducible apply Keep.ite <;> with_reducible intro _)
    | (with_reducible apply finish_keep)
    | (with_reducible apply Keep.foldl <;> [intro _ _ _; skip])
    | (with_reducible intro _)
    | split
    | (with_reducible apply Keep.mk; with_reducible first | apply Kept.of | (apply Kept.send; apply Kept.of)))

theorem clearKeys_keep {x0} (h0 : Keep b s0 x0) : Keep b s0 (clearKeys x0) := by
  unfold clearKeys
  repeat' (first
    | (with_reducible assumption)
    | (with_reducible apply Keep.ite <;> with_reducible intro _)
    | (with_reducible intro _)
    | (extract_lets)
    | split
    | (dsimp +zetaDelta only)
    | (with_reducible apply Keep.mk; with_reducible first | apply Kept.of | (apply Kept.send; apply Kept.of)))

theorem tamperQueue_keep {x0 x1} (h0 : Keep b s0 x0) : Keep b s0 (tamperQueue x0 x1) := by
  unfold tamperQueue
  repeat' (first
    | (with_reducible assumption)
    | (with_reducible apply Keep.ite <;> with_reducible intro _)
    | (with_reducible apply State.putItems_keep)
    | (with_reducible apply freeItem_keep)
    | (with_reducible apply placeMarker_keep)
    | (with_reducible apply Keep.foldl <;> [intro _ _ _; skip])
    | (with_reducible intro _)
    | (extract_lets)
    | split
    | (dsimp +zetaDelta only)
    | (with_reducible apply Keep.mk; with_reducible first | apply Kept.of | (apply Kept.send; apply Kept.of)))

theorem tamperLane_keep {x0 x1} (h0 : Keep b s0 x0) : Keep b s0 (tamperLane x0 x1) := by
  unfold tamperLane
  repeat' (first
    | (with_reducible assumption)
    | (with_reducible apply Keep.ite <;> with_reducible intro _)
    | (with_reducible apply State.send_keep)
    | (with_reducible apply toOff_keep)
    | (with_reducible apply State.setLane_keep)
    | (with_reducible intro _)
    | (extract_lets)
    | split
    | (dsimp +zetaDelta only)
    | (with_reducible apply Keep.mk; with_reducible first | apply Kept.of | (apply Kept.send; apply Kept.of)))

theorem bistEnds_keep {x0 x1} (h0 : Keep b s0 x0) : Keep b s0 (bistEnds x0 x1) := by
  unfold bistEnds
  repeat' (first
    | (with_reducible assumption)
    | (with_reducible apply Keep.ite <;> with_reducible intro _)
    | (with_reducible apply State.setFld_keep)
    | (with_reducible apply setCause_keep)
    | (with_reducible apply State.event_keep)
    | (with_reducible apply startFetch_keep)
    | (with_reducible apply Keep.foldl <;> [intro _ _ _; skip])
    | (with_reducible intro _)
    | (extract_lets)
    | split
    | (with_reducible apply Keep.mk; with_reducible first | apply Kept.of | (apply Kept.send; apply Kept.of)))

theorem bistAbandon_keep {x0} (h0 : Keep b s0 x0) : Keep b s0 (bistAbandon x0) := by
  unfold bistAbandon
  repeat' (first
    | (with_reducible assumption)
    | (with_reducible apply Keep.ite <;> with_reducible intro _)
    | (with_reducible apply bistEnds_keep)
    | (with_reducible intro _)
    | (extract_lets)
    | split
    | (dsimp +zetaDelta only)
    | (with_reducible apply Keep.mk; with_reducible first | apply Kept.of | (apply Kept.send; apply Kept.of)))

theorem enterSecureHold_keep {x0} (h0 : Keep b s0 x0) : Keep b s0 (enterSecureHold x0) := by
  unfold enterSecureHold
  extract_lets s1 s2 s3 s4 g d r p t s5 s6 s7
  have h1 : Keep b s0 s1 := Keep.foldl (fun _ _ h => tamperReplace_keep h) h0
  have h2 : Keep b s0 s2 := by
    unfold s2
    split
    · exact endJob_keep h1
    · exact h1
  have h3 : Keep b s0 s3 := tamperCommands_keep h2
  have h4 : Keep b s0 s4 := destroyMask_keep (clearKeys_keep (bistAbandon_keep h3))
  clear_value s4
  have h5 : Keep b s0 s5 := Kept.latched (State.setFld_keep (x1 := F.SYS_STATUS_DEV_STATE) (x2 := 4) h4)
  have h6 : Keep b s0 s6 := Keep.foldl (fun _ _ h => tamperLane_keep h) (forceEnds_keep h5)
  have h7 : Keep b s0 s7 := Keep.foldl (fun _ _ h => tamperQueue_keep h) h6
  exact State.setFld_keep h7

theorem tamperRecord_keep {x0 x1 x2} (h0 : Keep b s0 x0) : Keep b s0 (tamperRecord x0 x1 x2) := by
  unfold tamperRecord
  repeat' (first
    | (with_reducible assumption)
    | (with_reducible apply Keep.ite <;> with_reducible intro _)
    | (with_reducible intro _)
    | (extract_lets)
    | split
    | (dsimp +zetaDelta only)
    | (with_reducible apply Keep.mk; with_reducible first | apply Kept.of | (apply Kept.send; apply Kept.of)))

theorem tamper_keep {x0 x1 x2} (h0 : Keep b s0 x0) : Keep b s0 (tamper x0 x1 x2) := by
  unfold tamper
  repeat' (first
    | (with_reducible assumption)
    | (with_reducible apply Keep.ite <;> with_reducible intro _)
    | (with_reducible apply State.setFld_keep)
    | (with_reducible apply setCause_keep)
    | (with_reducible apply tamperRecord_keep)
    | (with_reducible apply State.count_keep)
    | (with_reducible apply destroyMask_keep)
    | (with_reducible apply enterSecureHold_keep)
    | (with_reducible intro _)
    | (extract_lets)
    | split
    | (dsimp +zetaDelta only)
    | (with_reducible apply Keep.mk; with_reducible first | apply Kept.of | (apply Kept.send; apply Kept.of)))

theorem execTamperDetect_keep {x0 x1} (h1 : Keep b s0 x1) : KeepR b s0 (execTamperDetect x0 x1) := by
  unfold execTamperDetect
  repeat' (first
    | (with_reducible assumption)
    | (with_reducible apply KeepR.next)
    | (with_reducible apply KeepR.ite <;> with_reducible intro _)
    | (with_reducible apply Keep.ite <;> with_reducible intro _)
    | (with_reducible apply tamper_keep)
    | (with_reducible intro _)
    | split)

/-! ### Power -/

theorem State.setPow_keep {x0 x1} (h0 : Keep b s0 x0) : Keep b s0 (State.setPow x0 x1) := by
  unfold State.setPow
  repeat' (first
    | (with_reducible assumption)
    | (with_reducible apply Keep.ite <;> with_reducible intro _)
    | (with_reducible intro _)
    | (with_reducible apply Keep.mk; with_reducible first | apply Kept.of | (apply Kept.send; apply Kept.of)))

theorem aonTick_keep {x0 x1} (h0 : Keep b s0 x0) : Keep b s0 (aonTick x0 x1) := by
  unfold aonTick
  repeat' (first
    | (with_reducible assumption)
    | (with_reducible apply Keep.ite <;> with_reducible intro _)
    | (with_reducible apply State.setFld_keep)
    | (with_reducible apply State.setPow_keep)
    | (with_reducible intro _)
    | (extract_lets)
    | (with_reducible apply Keep.mk; with_reducible first | apply Kept.of | (apply Kept.send; apply Kept.of)))

theorem watchNote_keep {x0 x1 x2 x3 x4} (h0 : Keep b s0 x0) : Keep b s0 (watchNote x0 x1 x2 x3 x4) := by
  unfold watchNote
  repeat' (first
    | (with_reducible assumption)
    | (with_reducible apply Keep.ite <;> with_reducible intro _)
    | (with_reducible apply State.setPow_keep)
    | (with_reducible intro _)
    | (extract_lets)
    | (with_reducible apply Keep.mk; with_reducible first | apply Kept.of | (apply Kept.send; apply Kept.of)))

theorem mainsLost_keep {x0 x1 x2} (h0 : Keep b s0 x0) : Keep b s0 (mainsLost x0 x1 x2) := by
  unfold mainsLost
  repeat' (first
    | (with_reducible assumption)
    | (with_reducible apply Keep.ite <;> with_reducible intro _)
    | (with_reducible apply State.event_keep)
    | (with_reducible intro _)
    | split)

theorem sysCtrlWrite_keep {x0 x1 x2 x3} (h0 : Keep b s0 x0) : Keep b s0 (sysCtrlWrite x0 x1 x2 x3) := by
  unfold sysCtrlWrite
  repeat' (first
    | (with_reducible assumption)
    | (with_reducible apply Keep.ite <;> with_reducible intro _)
    | (with_reducible apply writeFields_keep)
    | (with_reducible intro _)
    | split)

theorem execPwrReqWrite_keep {x0 x1 x2} (h2 : Keep b s0 x2) : KeepR b s0 (execPwrReqWrite x0 x1 x2) := by
  unfold execPwrReqWrite
  repeat' (first
    | (with_reducible assumption)
    | (with_reducible apply KeepR.next)
    | (with_reducible apply KeepR.ite <;> with_reducible intro _)
    | (with_reducible apply Keep.ite <;> with_reducible intro _)
    | (with_reducible apply gateWrite_keep)
    | (with_reducible apply sysCtrlWrite_keep)
    | (with_reducible intro _))

theorem lgSettle_keep {x0} (h0 : Keep b s0 x0) : Keep b s0 (lgSettle x0) := by
  unfold lgSettle
  repeat' (first
    | (with_reducible assumption)
    | (with_reducible apply Keep.ite <;> with_reducible intro _)
    | (with_reducible apply State.event_keep)
    | (with_reducible apply setCause_keep)
    | (with_reducible apply State.setPow_keep)
    | (with_reducible intro _)
    | (extract_lets)
    | split
    | (with_reducible apply Keep.mk; with_reducible first | apply Kept.of | (apply Kept.send; apply Kept.of)))

theorem lgBegin_keep {x0} (h0 : Keep b s0 x0) : Keep b s0 (lgBegin x0) := by
  unfold lgBegin
  repeat' (first
    | (with_reducible assumption)
    | (with_reducible apply Keep.ite <;> with_reducible intro _)
    | (with_reducible apply leaveLpi_keep)
    | (with_reducible apply lgSettle_keep)
    | (with_reducible apply State.setPow_keep)
    | (with_reducible apply Keep.foldl <;> [intro _ _ _; skip])
    | (with_reducible intro _)
    | (extract_lets)
    | (with_reducible apply Keep.mk; with_reducible first | apply Kept.of | (apply Kept.send; apply Kept.of)))

theorem laneQuiet_keep {x0 x1} (h0 : Keep b s0 x0) : Keep b s0 (laneQuiet x0 x1) := by
  unfold laneQuiet
  repeat' (first
    | (with_reducible assumption)
    | (with_reducible apply Keep.ite <;> with_reducible intro _)
    | (with_reducible apply giveBack_keep)
    | (with_reducible apply setTxs_keep)
    | (with_reducible apply Keep.foldl <;> [intro _ _ _; skip])
    | (with_reducible intro _)
    | (extract_lets)
    | split)

theorem startHoldUp_keep {x0} (h0 : Keep b s0 x0) : Keep b s0 (startHoldUp x0) := by
  unfold startHoldUp
  repeat' (first
    | (with_reducible assumption)
    | (with_reducible apply Keep.ite <;> with_reducible intro _)
    | (with_reducible apply State.setFld_keep)
    | (with_reducible apply setCause_keep)
    | (with_reducible apply State.event_keep)
    | (with_reducible apply mainsLost_keep)
    | (with_reducible apply State.count_keep)
    | (with_reducible apply State.setPow_keep)
    | (with_reducible apply laneQuiet_keep)
    | (with_reducible apply laneOff_keep)
    | (with_reducible apply lgBegin_keep)
    | (with_reducible apply Keep.foldl <;> [intro _ _ _; skip])
    | (with_reducible intro _)
    | (extract_lets)
    | (with_reducible apply Keep.mk; with_reducible first | apply Kept.of | (apply Kept.send; apply Kept.of)))

theorem mainsGone_keep {x0} (h0 : Keep b s0 x0) : Keep b s0 (mainsGone x0) := by
  unfold mainsGone
  repeat' (first
    | (with_reducible assumption)
    | (with_reducible apply Keep.ite <;> with_reducible intro _)
    | (with_reducible apply startHoldUp_keep)
    | (with_reducible apply mainsLost_keep)
    | (with_reducible intro _)
    | split)

theorem mainsCheck_keep {x0} (h0 : Keep b s0 x0) : Keep b s0 (mainsCheck x0) := by
  unfold mainsCheck
  repeat' (first
    | (with_reducible assumption)
    | (with_reducible apply Keep.ite <;> with_reducible intro _)
    | (with_reducible apply mainsGone_keep)
    | (with_reducible intro _)
    | split)

theorem mainsFall_keep {x0} (h0 : Keep b s0 x0) : Keep b s0 (mainsFall x0) := by
  unfold mainsFall
  repeat' (first
    | (with_reducible assumption)
    | (with_reducible apply Keep.ite <;> with_reducible intro _)
    | (with_reducible apply State.setFld_keep)
    | (with_reducible apply State.setPow_keep)
    | (with_reducible apply setCause_keep)
    | (with_reducible apply mainsGone_keep)
    | (with_reducible intro _)
    | (extract_lets)
    | split
    | (with_reducible apply Keep.mk; with_reducible first | apply Kept.of | (apply Kept.send; apply Kept.of)))

theorem execMainsOkFall_keep {x0} (h0 : Keep b s0 x0) : KeepR b s0 (execMainsOkFall x0) := by
  unfold execMainsOkFall
  repeat' (first
    | (with_reducible assumption)
    | (with_reducible apply KeepR.next)
    | (with_reducible apply KeepR.ite <;> with_reducible intro _)
    | (with_reducible apply Keep.ite <;> with_reducible intro _)
    | (with_reducible apply mainsFall_keep)
    | (with_reducible intro _)
    | split)

theorem execMainsGraceExpiry_keep {x0} (h0 : Keep b s0 x0) : KeepR b s0 (execMainsGraceExpiry x0) := by
  unfold execMainsGraceExpiry
  repeat' (first
    | (with_reducible assumption)
    | (with_reducible apply KeepR.next)
    | (with_reducible apply KeepR.ite <;> with_reducible intro _)
    | (with_reducible apply Keep.ite <;> with_reducible intro _)
    | (with_reducible apply mainsGone_keep)
    | (with_reducible apply State.setFld_keep)
    | (with_reducible intro _)
    | split)

theorem mainsRise_keep {x0} (h0 : Keep b s0 x0) : Keep b s0 (mainsRise x0) := by
  unfold mainsRise
  repeat' (first
    | (with_reducible assumption)
    | (with_reducible apply Keep.ite <;> with_reducible intro _)
    | (with_reducible apply State.setFld_keep)
    | (with_reducible apply State.count_keep)
    | (with_reducible apply watchNote_keep)
    | (with_reducible apply mainsLost_keep)
    | (with_reducible intro _)
    | (extract_lets)
    | split)

theorem execMainsOkRise_keep {x0} (h0 : Keep b s0 x0) : KeepR b s0 (execMainsOkRise x0) := by
  unfold execMainsOkRise
  repeat' (first
    | (with_reducible assumption)
    | (with_reducible apply KeepR.next)
    | (with_reducible apply KeepR.ite <;> with_reducible intro _)
    | (with_reducible apply Keep.ite <;> with_reducible intro _)
    | (with_reducible apply mainsRise_keep)
    | (with_reducible intro _)
    | split)

theorem lastGaspTx_keep {x0 x1} (h0 : Keep b s0 x0) : Keep b s0 (lastGaspTx x0 x1) := by
  unfold lastGaspTx
  repeat' (first
    | (with_reducible assumption)
    | (with_reducible apply Keep.ite <;> with_reducible intro _)
    | (with_reducible apply gcmHeld_keep)
    | (with_reducible apply leaveLpi_keep)
    | (with_reducible apply protect_keep)
    | (with_reducible apply State.count_keep)
    | (with_reducible apply State.send_keep)
    | (with_reducible apply lgSettle_keep)
    | (with_reducible apply State.setPow_keep)
    | (with_reducible intro _)
    | (extract_lets)
    | split
    | (with_reducible refine Keep.snd ?_ (by with_reducible assumption))
    | (with_reducible refine Keep.trd ?_ (by with_reducible assumption))
    | (with_reducible apply Keep.ite_fst <;> with_reducible intro _)
    | (with_reducible apply Keep.ite_snd <;> with_reducible intro _)
    | (with_reducible apply Keep.foldl_snd <;> [intro _ _ _; skip])
    | (with_reducible apply Keep.foldl_fst <;> [intro _ _ _; skip])
    | (dsimp +zetaDelta only)
    | (with_reducible apply Keep.mk; with_reducible first | apply Kept.of | (apply Kept.send; apply Kept.of)))

theorem execLastGaspTx_keep {x0 x1} (h1 : Keep b s0 x1) : KeepR b s0 (execLastGaspTx x0 x1) := by
  unfold execLastGaspTx
  repeat' (first
    | (with_reducible assumption)
    | (with_reducible apply KeepR.next)
    | (with_reducible apply KeepR.ite <;> with_reducible intro _)
    | (with_reducible apply Keep.ite <;> with_reducible intro _)
    | (with_reducible apply lastGaspTx_keep)
    | (with_reducible intro _)
    | split)

theorem execLgTimeoutExpiry_keep {x0} (h0 : Keep b s0 x0) : KeepR b s0 (execLgTimeoutExpiry x0) := by
  unfold execLgTimeoutExpiry
  repeat' (first
    | (with_reducible assumption)
    | (with_reducible apply KeepR.next)
    | (with_reducible apply KeepR.ite <;> with_reducible intro _)
    | (with_reducible apply Keep.ite <;> with_reducible intro _)
    | (with_reducible apply lgSettle_keep)
    | (with_reducible apply State.setPow_keep)
    | (with_reducible intro _)
    | split
    | (with_reducible apply Keep.mk; with_reducible first | apply Kept.of | (apply Kept.send; apply Kept.of)))

theorem writeRecords_keep {x0 x1 x2} (h1 : Keep b s0 x1) : Keep b s0 (writeRecords x0 x1 x2) := by
  induction x0 generalizing x1 with
  | zero => exact h1
  | succ n ih => exact ih (completionWrite_keep h1)

theorem enterWatch_keep {x0 x1} (h0 : Keep b s0 x0) : Keep b s0 (enterWatch x0 x1) := by
  unfold enterWatch
  repeat' (first
    | (with_reducible assumption)
    | (with_reducible apply Keep.ite <;> with_reducible intro _)
    | (with_reducible apply toOff_keep)
    | (with_reducible apply State.count_keep)
    | (with_reducible apply State.setFld_keep)
    | (with_reducible apply watchNote_keep)
    | (with_reducible apply Keep.foldl <;> [intro _ _ _; skip])
    | (with_reducible intro _)
    | (extract_lets)
    | split
    | (with_reducible apply Keep.mk; with_reducible first | apply Kept.of | (apply Kept.send; apply Kept.of))
    | (with_reducible apply Keep.mk; apply Kept.of))

theorem execWatchEntryDone_keep {x0} (h0 : Keep b s0 x0) : KeepR b s0 (execWatchEntryDone x0) := by
  unfold execWatchEntryDone
  repeat' (first
    | (with_reducible assumption)
    | (with_reducible apply KeepR.next)
    | (with_reducible apply KeepR.ite <;> with_reducible intro _)
    | (with_reducible apply Keep.ite <;> with_reducible intro _)
    | (with_reducible apply enterWatch_keep)
    | (with_reducible intro _)
    | split
    | (dsimp +zetaDelta only)
    | (with_reducible apply Keep.mk; with_reducible first | apply Kept.of | (apply Kept.send; apply Kept.of)))

theorem leaveWatch_keep {x0 x1 x2} (h0 : Keep b s0 x0) (h2 : ∀ a0, Keep b s0 a0 → Keep b s0 (x2 a0)) : Keep b s0 (leaveWatch x0 x1 x2) := by
  unfold leaveWatch
  repeat' (first
    | (with_reducible assumption)
    | (with_reducible apply Keep.ite <;> with_reducible intro _)
    | (with_reducible apply State.setFld_keep)
    | (with_reducible apply State.setPow_keep)
    | (with_reducible apply enterBoot_keep)
    | (with_reducible apply resetEffects_keep)
    | (with_reducible apply h2)
    | (with_reducible intro _)
    | (exact .inl (by decide))
    | (extract_lets)
    | split
    | (with_reducible apply Keep.mk; with_reducible first | apply Kept.of | (apply Kept.send; apply Kept.of)))

theorem execMainsRestoreExpiry_keep {x0 x1} (h1 : Keep b s0 x1) : KeepR b s0 (execMainsRestoreExpiry x0 x1) := by
  unfold execMainsRestoreExpiry
  repeat' (first
    | (with_reducible assumption)
    | (with_reducible apply KeepR.next)
    | (with_reducible apply KeepR.ite <;> with_reducible intro _)
    | (with_reducible apply Keep.ite <;> with_reducible intro _)
    | (with_reducible apply leaveWatch_keep)
    | (with_reducible apply aonTick_keep)
    | (with_reducible apply watchNote_keep)
    | (with_reducible intro _)
    | split)

theorem wurMatch_keep {x0 x1 x2 x3} (h0 : Keep b s0 x0) : Keep b s0 (wurMatch x0 x1 x2 x3) := by
  unfold wurMatch
  repeat' (first
    | (with_reducible assumption)
    | (with_reducible apply Keep.ite <;> with_reducible intro _)
    | (with_reducible apply State.count_keep)
    | (with_reducible apply State.setFld_keep)
    | (with_reducible apply setCause_keep)
    | (with_reducible apply leaveWatch_keep)
    | (with_reducible apply watchNote_keep)
    | (with_reducible apply State.setPow_keep)
    | (with_reducible intro _)
    | (extract_lets)
    | split
    | (dsimp +zetaDelta only)
    | (with_reducible apply Keep.mk; with_reducible first | apply Kept.of | (apply Kept.send; apply Kept.of)))

theorem wurReceive_keep {x0 x1 x2 x3 x4 x5} (h0 : Keep b s0 x0) : Keep b s0 (wurReceive x0 x1 x2 x3 x4 x5) := by
  unfold wurReceive
  repeat' (first
    | (with_reducible assumption)
    | (with_reducible apply Keep.ite <;> with_reducible intro _)
    | (with_reducible apply State.count_keep)
    | (with_reducible apply wurMatch_keep)
    | (with_reducible intro _)
    | (extract_lets)
    | split)

theorem execWurTelegramRx_keep {x0 x1 x2 x3 x4 x5 x6} (h6 : Keep b s0 x6) : KeepR b s0 (execWurTelegramRx x0 x1 x2 x3 x4 x5 x6) := by
  unfold execWurTelegramRx
  repeat' (first
    | (with_reducible assumption)
    | (with_reducible apply KeepR.next)
    | (with_reducible apply KeepR.ite <;> with_reducible intro _)
    | (with_reducible apply Keep.ite <;> with_reducible intro _)
    | (with_reducible apply wurReceive_keep)
    | (with_reducible apply aonTick_keep)
    | (with_reducible intro _)
    | split)

theorem clockChange_keep {x0 x1 x2} (h0 : Keep b s0 x0) : Keep b s0 (clockChange x0 x1 x2) := by
  unfold clockChange
  repeat' (first
    | (with_reducible assumption)
    | (with_reducible apply Keep.ite <;> with_reducible intro _)
    | (with_reducible apply setCause_keep)
    | (with_reducible apply State.event_keep)
    | (with_reducible apply State.setPow_keep)
    | (with_reducible intro _)
    | split
    | (with_reducible apply Keep.mk; with_reducible first | apply Kept.of | (apply Kept.send; apply Kept.of)))

theorem clockLoss_keep {x0 x1} (h0 : Keep b s0 x0) : Keep b s0 (clockLoss x0 x1) := by
  unfold clockLoss
  repeat' (first
    | (with_reducible assumption)
    | (with_reducible apply Keep.ite <;> with_reducible intro _)
    | (with_reducible apply watchNote_keep)
    | (with_reducible apply State.setFld_keep)
    | (with_reducible apply clockChange_keep)
    | (with_reducible apply State.setPow_keep)
    | (with_reducible apply setRate_keep)
    | (with_reducible apply setLink_keep)
    | (with_reducible apply linkChange_keep)
    | (with_reducible apply setCause_keep)
    | (with_reducible intro _)
    | (extract_lets)
    | split
    | (dsimp +zetaDelta only)
    | (with_reducible apply Keep.mk; with_reducible first | apply Kept.of | (apply Kept.send; apply Kept.of)))

theorem execClockRefLoss_keep {x0 x1} (h1 : Keep b s0 x1) : KeepR b s0 (execClockRefLoss x0 x1) := by
  unfold execClockRefLoss
  repeat' (first
    | (with_reducible assumption)
    | (with_reducible apply KeepR.next)
    | (with_reducible apply KeepR.ite <;> with_reducible intro _)
    | (with_reducible apply Keep.ite <;> with_reducible intro _)
    | (with_reducible apply clockLoss_keep)
    | (with_reducible intro _))

theorem clockRestore_keep {x0 x1} (h0 : Keep b s0 x0) : Keep b s0 (clockRestore x0 x1) := by
  unfold clockRestore
  repeat' (first
    | (with_reducible assumption)
    | (with_reducible apply Keep.ite <;> with_reducible intro _)
    | (with_reducible apply clockChange_keep)
    | (with_reducible apply State.setFld_keep)
    | (with_reducible apply State.setPow_keep)
    | (with_reducible intro _)
    | (extract_lets)
    | split
    | (dsimp +zetaDelta only)
    | (with_reducible apply Keep.mk; with_reducible first | apply Kept.of | (apply Kept.send; apply Kept.of)))

theorem execClockRefRestore_keep {x0 x1} (h1 : Keep b s0 x1) : KeepR b s0 (execClockRefRestore x0 x1) := by
  unfold execClockRefRestore
  repeat' (first
    | (with_reducible assumption)
    | (with_reducible apply KeepR.next)
    | (with_reducible apply KeepR.ite <;> with_reducible intro _)
    | (with_reducible apply Keep.ite <;> with_reducible intro _)
    | (with_reducible apply clockRestore_keep)
    | (with_reducible intro _))

theorem execXtalStableExpiry_keep {x0} (h0 : Keep b s0 x0) : KeepR b s0 (execXtalStableExpiry x0) := by
  unfold execXtalStableExpiry
  repeat' (first
    | (with_reducible assumption)
    | (with_reducible apply KeepR.next)
    | (with_reducible apply KeepR.ite <;> with_reducible intro _)
    | (with_reducible apply Keep.ite <;> with_reducible intro _)
    | (with_reducible apply State.setPow_keep)
    | (with_reducible apply clockChange_keep)
    | (with_reducible apply State.setFld_keep)
    | (with_reducible intro _)
    | (extract_lets)
    | split
    | (with_reducible apply Keep.mk; with_reducible first | apply Kept.of | (apply Kept.send; apply Kept.of)))

theorem lgDataWrite_keep {x0 x1 x2} (h0 : Keep b s0 x0) : Keep b s0 (lgDataWrite x0 x1 x2) := by
  unfold lgDataWrite
  repeat' (first
    | (with_reducible assumption)
    | (with_reducible apply Keep.ite <;> with_reducible intro _)
    | (with_reducible apply recordErr_keep)
    | (with_reducible apply State.setFld_keep)
    | (with_reducible apply State.setPow_keep)
    | (with_reducible intro _)
    | (extract_lets)
    | split
    | (with_reducible apply Keep.mk; with_reducible first | apply Kept.of | (apply Kept.send; apply Kept.of)))

theorem execLgDataWrite_keep {x0 x1 x2} (h2 : Keep b s0 x2) : KeepR b s0 (execLgDataWrite x0 x1 x2) := by
  unfold execLgDataWrite
  repeat' (first
    | (with_reducible assumption)
    | (with_reducible apply KeepR.next)
    | (with_reducible apply KeepR.ite <;> with_reducible intro _)
    | (with_reducible apply Keep.ite <;> with_reducible intro _)
    | (with_reducible apply gateWrite_keep)
    | (with_reducible apply lgDataWrite_keep)
    | (with_reducible intro _))

theorem aonWrite_keep {x0 x1 x2 x3 x4} (h0 : Keep b s0 x0) : Keep b s0 (aonWrite x0 x1 x2 x3 x4) := by
  unfold aonWrite
  repeat' (first
    | (with_reducible assumption)
    | (with_reducible apply Keep.ite <;> with_reducible intro _)
    | (with_reducible apply plainWrite_keep)
    | (with_reducible apply recordErr_keep)
    | (with_reducible apply State.setReg_keep)
    | (with_reducible apply State.setPow_keep)
    | (with_reducible intro _)
    | (extract_lets)
    | split
    | (with_reducible apply Keep.mk; with_reducible first | apply Kept.of | (apply Kept.send; apply Kept.of)))

theorem execAonShadowWrite_keep {x0 x1 x2 x3} (h3 : Keep b s0 x3) : KeepR b s0 (execAonShadowWrite x0 x1 x2 x3) := by
  unfold execAonShadowWrite
  repeat' (first
    | (with_reducible assumption)
    | (with_reducible apply KeepR.next)
    | (with_reducible apply KeepR.ite <;> with_reducible intro _)
    | (with_reducible apply Keep.ite <;> with_reducible intro _)
    | (with_reducible apply gateWrite_keep)
    | (with_reducible apply aonWrite_keep)
    | (with_reducible intro _)
    | split)

theorem aliasError_keep {x0 x1 x2 x3 x4} (h1 : Keep b s0 x1) : Keep b s0 (aliasError x0 x1 x2 x3 x4) := by
  unfold aliasError
  repeat' (first
    | (with_reducible assumption)
    | (with_reducible apply Keep.ite <;> with_reducible intro _)
    | (with_reducible apply State.setReg_keep)
    | (with_reducible intro _)
    | (extract_lets)
    | split)

theorem aonApply_keep {x0} (h0 : Keep b s0 x0) : Keep b s0 (aonApply x0) := by
  unfold aonApply
  split
  · assumption
  · exact aliasError_keep (plainWrite_keep (State.setPow_keep h0))

theorem execAonWriteApply_keep {x0} (h0 : Keep b s0 x0) : KeepR b s0 (execAonWriteApply x0) := by
  unfold execAonWriteApply
  repeat' (first
    | (with_reducible assumption)
    | (with_reducible apply KeepR.next)
    | (with_reducible apply KeepR.ite <;> with_reducible intro _)
    | (with_reducible apply Keep.ite <;> with_reducible intro _)
    | (with_reducible apply aonApply_keep)
    | (with_reducible intro _)
    | split)

/-! ### Views -/

theorem through_keep {x0 x1 x2} (h0 : Keep b s0 x0) (h2 : ∀ a0, Keep b s0 a0 → Keep b s0 (x2 a0)) : Keep b s0 (through x0 x1 x2).2 := by
  unfold through
  repeat' (first
    | (with_reducible assumption)
    | (with_reducible apply Keep.ite <;> with_reducible intro _)
    | (with_reducible apply State.setReg_keep)
    | (with_reducible apply h2)
    | (with_reducible apply Keep.foldl <;> [intro _ _ _; skip])
    | (with_reducible intro _)
    | (extract_lets)
    | (with_reducible refine Keep.snd ?_ (by with_reducible assumption))
    | (with_reducible refine Keep.trd ?_ (by with_reducible assumption))
    | (with_reducible apply Keep.ite_fst <;> with_reducible intro _)
    | (with_reducible apply Keep.ite_snd <;> with_reducible intro _)
    | (with_reducible apply Keep.foldl_snd <;> [intro _ _ _; skip])
    | (with_reducible apply Keep.foldl_fst <;> [intro _ _ _; skip]))

theorem qwPlainWrite_keep {x0 x1 x2 x3 x4} (h0 : Keep b s0 x0) : Keep b s0 (qwPlainWrite x0 x1 x2 x3 x4) := by
  unfold qwPlainWrite
  repeat' (first
    | (with_reducible assumption)
    | (with_reducible apply Keep.ite <;> with_reducible intro _)
    | (with_reducible apply through_keep)
    | (with_reducible apply writeFields_keep)
    | (with_reducible apply State.setQueue_keep)
    | (with_reducible intro _)
    | (extract_lets)
    | (with_reducible refine Keep.snd ?_ (by with_reducible assumption))
    | (with_reducible refine Keep.trd ?_ (by with_reducible assumption))
    | (with_reducible apply Keep.mk; with_reducible first | apply Kept.of | (apply Kept.send; apply Kept.of)))

theorem qwWrite_keep {x0 x1 x2 x3 x4} (h0 : Keep b s0 x0) : Keep b s0 (qwWrite x0 x1 x2 x3 x4) := by
  unfold qwWrite
  repeat' (first
    | (with_reducible assumption)
    | (with_reducible apply Keep.ite <;> with_reducible intro _)
    | (with_reducible apply qwSelWrite_keep)
    | (with_reducible apply qwQcfgWrite_keep)
    | (with_reducible apply qwQlimitWrite_keep)
    | (with_reducible apply plainWrite_keep)
    | (with_reducible apply qwPlainWrite_keep)
    | (with_reducible intro _)
    | split)

theorem tssQueueWrite_keep {x0 x1 x2 x3 x4} (h0 : Keep b s0 x0) : Keep b s0 (tssQueueWrite x0 x1 x2 x3 x4) := by
  unfold tssQueueWrite
  repeat' (first
    | (with_reducible assumption)
    | (with_reducible apply Keep.ite <;> with_reducible intro _)
    | (with_reducible apply through_keep)
    | (with_reducible apply writeFields_keep)
    | (with_reducible apply State.setQueue_keep)
    | (with_reducible intro _)
    | (extract_lets)
    | (with_reducible refine Keep.snd ?_ (by with_reducible assumption))
    | (with_reducible refine Keep.trd ?_ (by with_reducible assumption))
    | (with_reducible apply Keep.mk; with_reducible first | apply Kept.of | (apply Kept.send; apply Kept.of)))

theorem tssClassWrite_keep {x0 x1 x2 x3 x4} (h0 : Keep b s0 x0) : Keep b s0 (tssClassWrite x0 x1 x2 x3 x4) := by
  unfold tssClassWrite
  repeat' (first
    | (with_reducible assumption)
    | (with_reducible apply Keep.ite <;> with_reducible intro _)
    | (with_reducible apply through_keep)
    | (with_reducible apply writeFields_keep)
    | (with_reducible apply State.setCls_keep)
    | (with_reducible intro _)
    | (extract_lets)
    | (with_reducible refine Keep.snd ?_ (by with_reducible assumption))
    | (with_reducible refine Keep.trd ?_ (by with_reducible assumption))
    | (with_reducible apply Keep.mk; with_reducible first | apply Kept.of | (apply Kept.send; apply Kept.of)))

theorem tssPolicerWrite_keep {x0 x1 x2 x3 x4} (h0 : Keep b s0 x0) : Keep b s0 (tssPolicerWrite x0 x1 x2 x3 x4) := by
  unfold tssPolicerWrite
  repeat' (first
    | (with_reducible assumption)
    | (with_reducible apply Keep.ite <;> with_reducible intro _)
    | (with_reducible apply through_keep)
    | (with_reducible apply writeFields_keep)
    | (with_reducible apply State.setPolicer_keep)
    | (with_reducible intro _)
    | (extract_lets)
    | (with_reducible refine Keep.snd ?_ (by with_reducible assumption))
    | (with_reducible refine Keep.trd ?_ (by with_reducible assumption))
    | (with_reducible apply Keep.mk; with_reducible first | apply Kept.of | (apply Kept.send; apply Kept.of)))

theorem tssWrite_keep {x0 x1 x2 x3 x4} (h0 : Keep b s0 x0) : Keep b s0 (tssWrite x0 x1 x2 x3 x4) := by
  unfold tssWrite
  repeat' (first
    | (with_reducible assumption)
    | (with_reducible apply Keep.ite <;> with_reducible intro _)
    | (with_reducible apply State.setFld_keep)
    | (with_reducible apply writeFields_keep)
    | (with_reducible apply tssQueueWrite_keep)
    | (with_reducible apply clearStats_keep)
    | (with_reducible apply snapStart_keep)
    | (with_reducible apply tssClassWrite_keep)
    | (with_reducible apply tssPolicerWrite_keep)
    | (with_reducible apply plainWrite_keep)
    | (with_reducible intro _)
    | (extract_lets)
    | split)

/-! ### Verdict -/

theorem badParam_keep {x0 x1 x2 x3} (h0 : Keep b s0 x0) : Keep b s0 (badParam x0 x1 x2 x3).2 := by
  unfold badParam
  repeat' (first
    | (with_reducible assumption)
    | (with_reducible apply Keep.ite <;> with_reducible intro _)
    | (with_reducible apply State.count_keep)
    | (with_reducible apply jumpRefused_keep)
    | (with_reducible intro _)
    | (extract_lets)
    | split
    | (with_reducible refine Keep.snd ?_ (by with_reducible assumption))
    | (with_reducible refine Keep.trd ?_ (by with_reducible assumption))
    | (with_reducible apply Keep.ite_fst <;> with_reducible intro _)
    | (with_reducible apply Keep.ite_snd <;> with_reducible intro _)
    | (with_reducible apply Keep.foldl_snd <;> [intro _ _ _; skip])
    | (with_reducible apply Keep.foldl_fst <;> [intro _ _ _; skip])
    | (dsimp +zetaDelta only))

theorem verdict_keep {x0 x1} (h0 : Keep b s0 x0) : Keep b s0 (verdict x0 x1).2 := by
  unfold verdict
  repeat' (first
    | (with_reducible assumption)
    | (with_reducible apply Keep.ite <;> with_reducible intro _)
    | (with_reducible apply refuse_keep)
    | (with_reducible apply badParam_keep)
    | (with_reducible apply denied_keep)
    | (with_reducible intro _)
    | (extract_lets)
    | split
    | (with_reducible refine Keep.snd ?_ (by with_reducible assumption))
    | (with_reducible refine Keep.trd ?_ (by with_reducible assumption))
    | (with_reducible apply Keep.ite_fst <;> with_reducible intro _)
    | (with_reducible apply Keep.ite_snd <;> with_reducible intro _)
    | (with_reducible apply Keep.foldl_snd <;> [intro _ _ _; skip])
    | (with_reducible apply Keep.foldl_fst <;> [intro _ _ _; skip])
    | (dsimp +zetaDelta only)
    | (with_reducible apply Keep.mk; with_reducible first | apply Kept.of | (apply Kept.send; apply Kept.of)))

/-! ### Commands -/

theorem execBenchmark_keep {x0 x1} (h1 : Keep b s0 x1) : KeepR b s0 (execBenchmark x0 x1) := by
  unfold execBenchmark
  repeat' (first
    | (with_reducible assumption)
    | (with_reducible apply KeepR.next)
    | (with_reducible apply KeepR.ite <;> with_reducible intro _)
    | (with_reducible apply Keep.ite <;> with_reducible intro _)
    | (with_reducible apply finishCmd_keep)
    | (with_reducible intro _)
    | split
    | (dsimp +zetaDelta only))

theorem injectTaken_keep {x0 x1} (h0 : Keep b s0 x0) : Keep b s0 (injectTaken x0 x1) := by
  unfold injectTaken
  repeat' (first
    | (with_reducible assumption)
    | (with_reducible apply Keep.ite <;> with_reducible intro _)
    | (with_reducible intro _)
    | split
    | (with_reducible apply Keep.mk; with_reducible first | apply Kept.of | (apply Kept.send; apply Kept.of)))

theorem passEntry_keep {x0 x1} (h0 : Keep b s0 x0) : Keep b s0 (passEntry x0 x1) := by
  unfold passEntry
  repeat' (first
    | (with_reducible assumption)
    | (with_reducible apply Keep.ite <;> with_reducible intro _)
    | (with_reducible apply State.setRing_keep)
    | (with_reducible apply State.setFld_keep)
    | (with_reducible intro _)
    | (extract_lets)
    | split
    | (with_reducible apply Keep.mk; with_reducible first | apply Kept.of | (apply Kept.send; apply Kept.of)))

theorem takeSeq_keep {x0 x1} (h0 : Keep b s0 x0) : Keep b s0 (takeSeq x0 x1).2 := by
  unfold takeSeq
  repeat' (first
    | (with_reducible assumption)
    | (with_reducible apply Keep.ite <;> with_reducible intro _)
    | (with_reducible apply State.setRing_keep)
    | (with_reducible apply State.setReg_keep)
    | (with_reducible intro _)
    | (extract_lets)
    | split
    | (with_reducible refine Keep.snd ?_ (by with_reducible assumption))
    | (with_reducible refine Keep.trd ?_ (by with_reducible assumption))
    | (with_reducible apply Keep.ite_fst <;> with_reducible intro _)
    | (with_reducible apply Keep.ite_snd <;> with_reducible intro _)
    | (with_reducible apply Keep.foldl_snd <;> [intro _ _ _; skip])
    | (with_reducible apply Keep.foldl_fst <;> [intro _ _ _; skip])
    | (with_reducible apply Keep.mk; with_reducible first | apply Kept.of | (apply Kept.send; apply Kept.of)))

theorem takeFrom_keep {x0 x1} (h0 : Keep b s0 x0) : Keep b s0 (takeFrom x0 x1) := by
  unfold takeFrom
  repeat' (first
    | (with_reducible assumption)
    | (with_reducible apply Keep.ite <;> with_reducible intro _)
    | (with_reducible apply injectTaken_keep)
    | (with_reducible apply verdict_keep)
    | (with_reducible apply takeSeq_keep)
    | (with_reducible apply passEntry_keep)
    | (with_reducible apply State.setRing_keep)
    | (with_reducible apply finishCmd_keep)
    | (with_reducible apply askData_keep)
    | (with_reducible apply putCmd_keep)
    | (with_reducible apply startFetch_keep)
    | (with_reducible intro _)
    | (extract_lets)
    | split
    | (with_reducible refine Keep.snd ?_ (by with_reducible assumption))
    | (with_reducible refine Keep.trd ?_ (by with_reducible assumption))
    | (dsimp +zetaDelta only)
    | (with_reducible apply Keep.mk; with_reducible first | apply Kept.of | (apply Kept.send; apply Kept.of)))

theorem execDescriptorTake_keep {x0} (h0 : Keep b s0 x0) : KeepR b s0 (execDescriptorTake x0) := by
  unfold execDescriptorTake
  repeat' (first
    | (with_reducible assumption)
    | (with_reducible apply KeepR.next)
    | (with_reducible apply KeepR.ite <;> with_reducible intro _)
    | (with_reducible apply Keep.ite <;> with_reducible intro _)
    | (with_reducible apply takeFrom_keep)
    | (with_reducible intro _)
    | split
    | (dsimp +zetaDelta only))

theorem dataFails_keep {x0 x1 x2} (h0 : Keep b s0 x0) : Keep b s0 (dataFails x0 x1 x2) := by
  unfold dataFails
  repeat' (first
    | (with_reducible assumption)
    | (with_reducible apply Keep.ite <;> with_reducible intro _)
    | (with_reducible apply emptyImage_keep)
    | (with_reducible apply putCmd_keep)
    | (with_reducible apply finish_keep)
    | (with_reducible apply dmaFail_keep)
    | (with_reducible intro _)
    | (extract_lets)
    | split
    | (with_reducible apply Keep.mk; with_reducible first | apply Kept.of | (apply Kept.send; apply Kept.of))
    | (dsimp +zetaDelta only))

theorem lateRead_keep {x0 x1 x2} (h0 : Keep b s0 x0) : Keep b s0 (lateRead x0 x1 x2) := by
  unfold lateRead
  repeat' (first
    | (with_reducible assumption)
    | (with_reducible apply Keep.ite <;> with_reducible intro _)
    | (with_reducible apply State.setRing_keep)
    | (with_reducible apply dmaFail_keep)
    | (with_reducible intro _)
    | (extract_lets)
    | split
    | (dsimp +zetaDelta only)
    | (with_reducible apply Keep.mk; with_reducible first | apply Kept.of | (apply Kept.send; apply Kept.of)))

theorem execCmdDataReadDone_keep {x0 x1 x2} (h2 : Keep b s0 x2) : KeepR b s0 (execCmdDataReadDone x0 x1 x2) := by
  unfold execCmdDataReadDone
  repeat' (first
    | (with_reducible assumption)
    | (with_reducible apply KeepR.next)
    | (with_reducible apply KeepR.ite <;> with_reducible intro _)
    | (with_reducible apply Keep.ite <;> with_reducible intro _)
    | (with_reducible apply readsGo_keep)
    | (with_reducible apply lateRead_keep)
    | (with_reducible apply putCmd_keep)
    | (with_reducible apply dataFails_keep)
    | (with_reducible intro _)
    | split
    | (dsimp +zetaDelta only)
    | (with_reducible apply Keep.mk; with_reducible first | apply Kept.of | (apply Kept.send; apply Kept.of)))

theorem detachTx_keep {x0 x1 x2 x3} (h0 : Keep b s0 x0) : Keep b s0 (detachTx x0 x1 x2 x3) := by
  unfold detachTx
  repeat' (first
    | (with_reducible assumption)
    | (with_reducible apply Keep.ite <;> with_reducible intro _)
    | (with_reducible apply swapTx_keep)
    | (with_reducible apply attemptMade_keep)
    | (with_reducible apply giveBack_keep)
    | (with_reducible intro _)
    | split
    | (dsimp +zetaDelta only)
    | (with_reducible apply Keep.mk; with_reducible first | apply Kept.of | (apply Kept.send; apply Kept.of)))

theorem detachHead_keep {x0 x1} (h0 : Keep b s0 x0) : Keep b s0 (detachHead x0 x1) := by
  unfold detachHead
  repeat' (first
    | (with_reducible assumption)
    | (with_reducible apply Keep.ite <;> with_reducible intro _)
    | (with_reducible apply detachTx_keep)
    | (with_reducible apply Keep.foldl <;> [intro _ _ _; skip])
    | (with_reducible intro _))

theorem detachUnit_keep {x0 x1} (h0 : Keep b s0 x0) : Keep b s0 (detachUnit x0 x1) := by
  unfold detachUnit
  repeat' (first
    | (with_reducible assumption)
    | (with_reducible apply Keep.ite <;> with_reducible intro _)
    | (with_reducible apply detachHead_keep)
    | (with_reducible apply putDl_keep)
    | (with_reducible apply leaveMailbox_keep)
    | (with_reducible intro _)
    | (extract_lets)
    | split
    | (dsimp +zetaDelta only)
    | (with_reducible apply Keep.mk; with_reducible first | apply Kept.of | (apply Kept.send; apply Kept.of)))

theorem cancelDl_keep {x0 x1 x2 x3} (h0 : Keep b s0 x0) : Keep b s0 (cancelDl x0 x1 x2 x3) := by
  unfold cancelDl
  repeat' (first
    | (with_reducible assumption)
    | (with_reducible apply Keep.ite <;> with_reducible intro _)
    | (with_reducible apply dlOutcome_keep)
    | (with_reducible apply detachHead_keep)
    | (with_reducible apply detachUnit_keep)
    | (with_reducible intro _)
    | split)

theorem dropTelegram_keep {x0 x1} (h0 : Keep b s0 x0) : Keep b s0 (dropTelegram x0 x1) := by
  unfold dropTelegram
  repeat' (first
    | (with_reducible assumption)
    | (with_reducible apply Keep.ite <;> with_reducible intro _)
    | (with_reducible apply swapTx_keep)
    | (with_reducible apply giveBack_keep)
    | (with_reducible apply Keep.foldl <;> [intro _ _ _; skip])
    | (with_reducible intro _)
    | split)

theorem wakeCancel_keep {x0 x1} (h0 : Keep b s0 x0) : Keep b s0 (wakeCancel x0 x1) := by
  unfold wakeCancel
  repeat' (first
    | (with_reducible assumption)
    | (with_reducible apply Keep.ite <;> with_reducible intro _)
    | (with_reducible apply dropWake_keep)
    | (with_reducible apply dropTelegram_keep)
    | (with_reducible apply Keep.foldl <;> [intro _ _ _; skip])
    | (with_reducible intro _)
    | (extract_lets)
    | split
    | (dsimp +zetaDelta only))

theorem endDlSend_keep {x0 x1 x2} (h0 : Keep b s0 x0) : Keep b s0 (endDlSend x0 x1 x2) := by
  unfold endDlSend
  repeat' (first
    | (with_reducible assumption)
    | (with_reducible apply Keep.ite <;> with_reducible intro _)
    | (with_reducible apply finish_keep)
    | (with_reducible apply wakeCancel_keep)
    | (with_reducible apply cancelDl_keep)
    | (with_reducible intro _)
    | split
    | (dsimp +zetaDelta only))

theorem endWakeSend_keep {x0 x1 x2} (h0 : Keep b s0 x0) : Keep b s0 (endWakeSend x0 x1 x2) := by
  unfold endWakeSend
  repeat' (first
    | (with_reducible assumption)
    | (with_reducible apply Keep.ite <;> with_reducible intro _)
    | (with_reducible apply finish_keep)
    | (with_reducible apply wakeFinish_keep)
    | (with_reducible apply dropTelegram_keep)
    | (with_reducible intro _)
    | split
    | (dsimp +zetaDelta only))

theorem endLaneCal_keep {x0 x1} (h0 : Keep b s0 x0) : Keep b s0 (endLaneCal x0 x1) := by
  unfold endLaneCal
  repeat' (first
    | (with_reducible assumption)
    | (with_reducible apply Keep.ite <;> with_reducible intro _)
    | (with_reducible apply finish_keep)
    | (with_reducible apply endJob'_keep)
    | (with_reducible intro _)
    | split
    | (dsimp +zetaDelta only))

theorem endRoleSwap_keep {x0 x1} (h0 : Keep b s0 x0) : Keep b s0 (endRoleSwap x0 x1) := by
  unfold endRoleSwap
  repeat' (first
    | (with_reducible assumption)
    | (with_reducible apply Keep.ite <;> with_reducible intro _)
    | (with_reducible apply finish_keep)
    | (with_reducible apply State.setRed_keep)
    | (with_reducible intro _)
    | (extract_lets)
    | split
    | (with_reducible apply Keep.mk; with_reducible first | apply Kept.of | (apply Kept.send; apply Kept.of)))

theorem endBist_keep {x0 x1} (h0 : Keep b s0 x0) : Keep b s0 (endBist x0 x1) := by
  unfold endBist
  repeat' (first
    | (with_reducible assumption)
    | (with_reducible apply Keep.ite <;> with_reducible intro _)
    | (with_reducible apply finish_keep)
    | (with_reducible apply bistAbandon_keep)
    | (with_reducible intro _)
    | split)

theorem timesOut_keep {x0 x1 x2} (h0 : Keep b s0 x0) : Keep b s0 (timesOut x0 x1 x2) := by
  unfold timesOut
  repeat' (first
    | (with_reducible assumption)
    | (with_reducible apply Keep.ite <;> with_reducible intro _)
    | (with_reducible apply endBist_keep)
    | (with_reducible apply endRoleSwap_keep)
    | (with_reducible apply endDlSend_keep)
    | (with_reducible apply endWakeSend_keep)
    | (with_reducible apply endLaneCal_keep)
    | (with_reducible apply finish_keep)
    | (with_reducible intro _)
    | split
    | (dsimp +zetaDelta only))

theorem execCommandTimeout_keep {x0 x1} (h1 : Keep b s0 x1) : KeepR b s0 (execCommandTimeout x0 x1) := by
  unfold execCommandTimeout
  repeat' (first
    | (with_reducible assumption)
    | (with_reducible apply KeepR.next)
    | (with_reducible apply KeepR.ite <;> with_reducible intro _)
    | (with_reducible apply Keep.ite <;> with_reducible intro _)
    | (with_reducible apply timesOut_keep)
    | (with_reducible intro _)
    | split
    | (dsimp +zetaDelta only))

theorem enterMaintenance_keep {x0} (h0 : Keep b s0 x0) : Keep b s0 (enterMaintenance x0) := by
  unfold enterMaintenance
  extract_lets s1 s2
  exact suspendSessions_keep (gateCheck_keep (Keep.congr (State.setFld_keep (x1 := F.SYS_STATUS_DEV_STATE) (x2 := 3) h0) rfl rfl rfl rfl rfl rfl rfl rfl rfl))

theorem execMaintEnter_keep {x0 x1} (h1 : Keep b s0 x1) : KeepR b s0 (execMaintEnter x0 x1) := by
  unfold execMaintEnter
  repeat' (first
    | (with_reducible assumption)
    | (with_reducible apply KeepR.next)
    | (with_reducible apply KeepR.ite <;> with_reducible intro _)
    | (with_reducible apply Keep.ite <;> with_reducible intro _)
    | (with_reducible apply enterMaintenance_keep)
    | (with_reducible apply beginCmd_keep)
    | (with_reducible intro _)
    | split
    | (dsimp +zetaDelta only))

theorem maintDoneCmd_keep {x0 x1 x2} (h0 : Keep b s0 x0) : Keep b s0 (maintDoneCmd x0 x1 x2) := by
  unfold maintDoneCmd
  repeat' (first
    | (with_reducible assumption)
    | (with_reducible apply Keep.ite <;> with_reducible intro _)
    | (with_reducible apply finish_keep)
    | (with_reducible apply endDlSend_keep)
    | (with_reducible apply endWakeSend_keep)
    | (with_reducible intro _)
    | split
    | (dsimp +zetaDelta only))

theorem watchCommands_keep {x0} (h0 : Keep b s0 x0) : Keep b s0 (watchCommands x0) := by
  unfold watchCommands
  repeat' (first
    | (with_reducible assumption)
    | (with_reducible apply Keep.ite <;> with_reducible intro _)
    | (with_reducible apply completeReplace_keep)
    | (with_reducible apply eachCmd_keep)
    | (with_reducible apply stopCmd_keep)
    | (with_reducible apply finish_keep)
    | (with_reducible apply Keep.foldl <;> [intro _ _ _; skip])
    | (with_reducible intro _)
    | (extract_lets)
    | split
    | (dsimp +zetaDelta only)
    | (with_reducible apply Keep.mk; with_reducible first | apply Kept.of | (apply Kept.send; apply Kept.of)))

theorem watchCommit_keep {x0 x1} (h0 : Keep b s0 x0) : Keep b s0 (watchCommit x0 x1) := by
  unfold watchCommit
  repeat' (first
    | (with_reducible assumption)
    | (with_reducible apply Keep.ite <;> with_reducible intro _)
    | (with_reducible apply watchCommands_keep)
    | (with_reducible apply dropAll_keep)
    | (with_reducible apply writeRecords_keep)
    | (with_reducible apply flushEvents_keep)
    | (with_reducible apply State.setPow_keep)
    | (with_reducible apply Keep.foldl <;> [intro _ _ _; skip])
    | (with_reducible intro _)
    | (extract_lets)
    | (with_reducible refine Keep.snd ?_ (by with_reducible assumption))
    | (with_reducible refine Keep.trd ?_ (by with_reducible assumption))
    | (with_reducible apply Keep.mk; with_reducible first | apply Kept.of | (apply Kept.send; apply Kept.of)))

theorem execWatchCommit_keep {x0} (h0 : Keep b s0 x0) : KeepR b s0 (execWatchCommit x0) := by
  unfold execWatchCommit
  repeat' (first
    | (with_reducible assumption)
    | (with_reducible apply KeepR.next)
    | (with_reducible apply KeepR.ite <;> with_reducible intro _)
    | (with_reducible apply Keep.ite <;> with_reducible intro _)
    | (with_reducible apply watchCommit_keep)
    | (with_reducible intro _)
    | split
    | (dsimp +zetaDelta only))

theorem execMaintEnterDone_keep {x0} (h0 : Keep b s0 x0) : KeepR b s0 (execMaintEnterDone x0) := by
  unfold execMaintEnterDone
  repeat' (first
    | (with_reducible assumption)
    | (with_reducible apply KeepR.next)
    | (with_reducible apply KeepR.ite <;> with_reducible intro _)
    | (with_reducible apply Keep.ite <;> with_reducible intro _)
    | (with_reducible apply eachCmd_keep)
    | (with_reducible apply maintDoneCmd_keep)
    | (with_reducible intro _)
    | split)

theorem returnToReady_keep {x0} (h0 : Keep b s0 x0) : Keep b s0 (returnToReady x0) := by
  unfold returnToReady
  extract_lets
  refine mainsCheck_keep (resumeSessions_keep (recheckDue_keep (redStart_keep ?_)))
  exact Keep.congr (State.setFld_keep (x1 := F.SYS_STATUS_DEV_STATE) (x2 := 2) h0) rfl rfl rfl rfl rfl rfl rfl rfl rfl

theorem maintExit_keep {x0 x1} (h0 : Keep b s0 x0) : Keep b s0 (maintExit x0 x1) := by
  unfold maintExit
  repeat' (first
    | (with_reducible assumption)
    | (with_reducible apply Keep.ite <;> with_reducible intro _)
    | (with_reducible apply writeRecords_keep)
    | (with_reducible apply finish_keep)
    | (with_reducible apply enterBoot_keep)
    | (with_reducible apply resetEffects_keep)
    | (with_reducible apply returnToReady_keep)
    | (with_reducible intro _)
    | (exact .inl (by decide))
    | (extract_lets)
    | split
    | (dsimp +zetaDelta only))

theorem execMaintExit_keep {x0 x1} (h1 : Keep b s0 x1) : KeepR b s0 (execMaintExit x0 x1) := by
  unfold execMaintExit
  repeat' (first
    | (with_reducible assumption)
    | (with_reducible apply KeepR.next)
    | (with_reducible apply KeepR.ite <;> with_reducible intro _)
    | (with_reducible apply Keep.ite <;> with_reducible intro _)
    | (with_reducible apply maintExit_keep)
    | (with_reducible intro _)
    | split)

theorem watchEnter_keep {x0 x1} (h0 : Keep b s0 x0) : Keep b s0 (watchEnter x0 x1) := by
  unfold watchEnter
  repeat' (first
    | (with_reducible assumption)
    | (with_reducible apply Keep.ite <;> with_reducible intro _)
    | (with_reducible apply beginCmd_keep)
    | (with_reducible apply State.setPow_keep)
    | (with_reducible apply laneOff_keep)
    | (with_reducible apply laneQuiet_keep)
    | (with_reducible apply Keep.foldl <;> [intro _ _ _; skip])
    | (with_reducible intro _)
    | (extract_lets)
    | split
    | (dsimp +zetaDelta only)
    | (with_reducible apply Keep.mk; with_reducible first | apply Kept.of | (apply Kept.send; apply Kept.of)))

theorem execWatchEnter_keep {x0 x1} (h1 : Keep b s0 x1) : KeepR b s0 (execWatchEnter x0 x1) := by
  unfold execWatchEnter
  repeat' (first
    | (with_reducible assumption)
    | (with_reducible apply KeepR.next)
    | (with_reducible apply KeepR.ite <;> with_reducible intro _)
    | (with_reducible apply Keep.ite <;> with_reducible intro _)
    | (with_reducible apply watchEnter_keep)
    | (with_reducible intro _)
    | split)

/-! ### Bist -/

theorem stopHrx_keep {x0 x1} (h0 : Keep b s0 x0) : Keep b s0 (stopHrx x0 x1) := by
  unfold stopHrx
  repeat' (first
    | (with_reducible assumption)
    | (with_reducible apply Keep.ite <;> with_reducible intro _)
    | (with_reducible apply State.setFld_keep)
    | (with_reducible intro _))

theorem emptyQueue_keep {x0 x1} (h0 : Keep b s0 x0) : Keep b s0 (emptyQueue x0 x1) := by
  unfold emptyQueue
  repeat' (first
    | (with_reducible assumption)
    | (with_reducible apply Keep.ite <;> with_reducible intro _)
    | (with_reducible apply State.putItems_keep)
    | (with_reducible apply freeItem_keep)
    | (with_reducible apply closeIfEmpty_keep)
    | (with_reducible apply State.setQueue_keep)
    | (with_reducible apply Keep.foldl <;> [intro _ _ _; skip])
    | (with_reducible intro _)
    | (extract_lets)
    | split
    | (with_reducible apply Keep.mk; with_reducible first | apply Kept.of | (apply Kept.send; apply Kept.of))
    | (dsimp +zetaDelta only))

theorem clearWorking_keep {x0} (h0 : Keep b s0 x0) : Keep b s0 (clearWorking x0) := by
  unfold clearWorking
  repeat' (first
    | (with_reducible assumption)
    | (with_reducible apply Keep.ite <;> with_reducible intro _)
    | (with_reducible intro _)
    | (extract_lets)
    | (with_reducible apply Keep.mk; with_reducible first | apply Kept.of | (apply Kept.send; apply Kept.of)))

theorem settleKeys_keep {x0} (h0 : Keep b s0 x0) : Keep b s0 (settleKeys x0) := by
  unfold settleKeys
  repeat' (first
    | (with_reducible assumption)
    | (with_reducible apply Keep.ite <;> with_reducible intro _)
    | (with_reducible apply completeReplace_keep)
    | (with_reducible apply tamperReplace_keep)
    | (with_reducible apply Keep.foldl <;> [intro _ _ _; skip])
    | (with_reducible intro _)
    | (extract_lets)
    | split
    | (dsimp +zetaDelta only))

theorem bistPrepare_keep {x0} (h0 : Keep b s0 x0) : Keep b s0 (bistPrepare x0) := by
  unfold bistPrepare
  extract_lets s1 r s2 s3 s4 s5 s6
  have h1 : Keep b s0 s1 := Keep.foldl (fun _ _ h => stopHrx_keep h) h0
  have h3 : Keep b s0 s3 := Keep.foldl (fun _ _ h => emptyQueue_keep h) (Keep.mk (Kept.of h1))
  have h4 : Keep b s0 s4 := Keep.foldl (fun _ _ h => laneOff_keep (laneQuiet_keep h)) h3
  have h5 : Keep b s0 s5 := by
    refine eachCmd_keep (settleKeys_keep h4) (fun t id c h => ?_)
    exact Keep.ite (fun _ => h) (fun _ => stopCmd_keep h)
  have h6 : Keep b s0 s6 := clearWorking_keep (Keep.foldl (fun _ _ h => State.setEngine_keep h) h5)
  clear_value s6
  exact Keep.congr (State.setFld_keep (x1 := F.BST_STATUS_RAN) (x2 := 1) h6) rfl rfl rfl rfl rfl rfl rfl rfl rfl

theorem testBegins_keep {x0 x1} (h0 : Keep b s0 x0) : Keep b s0 (testBegins x0 x1) := by
  unfold testBegins
  repeat' (first
    | (with_reducible assumption)
    | (with_reducible apply Keep.ite <;> with_reducible intro _)
    | (with_reducible apply State.setFld_keep)
    | (with_reducible intro _)
    | (with_reducible apply Keep.mk; with_reducible first | apply Kept.of | (apply Kept.send; apply Kept.of)))

theorem bistStart_keep {x0 x1} (h0 : Keep b s0 x0) : Keep b s0 (bistStart x0 x1) := by
  unfold bistStart
  repeat' (first
    | (with_reducible assumption)
    | (with_reducible apply Keep.ite <;> with_reducible intro _)
    | (with_reducible apply beginCmd_keep)
    | (with_reducible apply bistPrepare_keep)
    | (with_reducible apply testBegins_keep)
    | (with_reducible intro _)
    | (extract_lets)
    | split
    | (dsimp +zetaDelta only)
    | (with_reducible apply Keep.mk; with_reducible first | apply Kept.of | (apply Kept.send; apply Kept.of)))

theorem execBistRun_keep {x0 x1} (h1 : Keep b s0 x1) : KeepR b s0 (execBistRun x0 x1) := by
  unfold execBistRun
  repeat' (first
    | (with_reducible assumption)
    | (with_reducible apply KeepR.next)
    | (with_reducible apply KeepR.ite <;> with_reducible intro _)
    | (with_reducible apply Keep.ite <;> with_reducible intro _)
    | (with_reducible apply bistStart_keep)
    | (with_reducible intro _)
    | split)

theorem testResult_keep {x0 x1 x2 x3} (h0 : Keep b s0 x0) : Keep b s0 (testResult x0 x1 x2 x3) := by
  unfold testResult
  repeat' (first
    | (with_reducible assumption)
    | (with_reducible apply Keep.ite <;> with_reducible intro _)
    | (with_reducible apply State.count_keep)
    | (with_reducible apply setCause_keep)
    | (with_reducible intro _)
    | (extract_lets)
    | split
    | (with_reducible apply Keep.mk; with_reducible first | apply Kept.of | (apply Kept.send; apply Kept.of)))

theorem testDone_keep {x0 x1 x2} (h0 : Keep b s0 x0) : Keep b s0 (testDone x0 x1 x2) := by
  unfold testDone
  repeat' (first
    | (with_reducible assumption)
    | (with_reducible apply Keep.ite <;> with_reducible intro _)
    | (with_reducible apply testResult_keep)
    | (with_reducible apply State.ramClear_keep)
    | (with_reducible apply finishCmd_keep)
    | (with_reducible apply bistEnds_keep)
    | (with_reducible apply testBegins_keep)
    | (with_reducible apply startFetch_keep)
    | (with_reducible apply Keep.foldl <;> [intro _ _ _; skip])
    | (with_reducible intro _)
    | (extract_lets)
    | split
    | (dsimp +zetaDelta only)
    | (with_reducible apply Keep.mk; with_reducible first | apply Kept.of | (apply Kept.send; apply Kept.of)))

theorem execBistTestDone_keep {x0 x1 x2} (h2 : Keep b s0 x2) : KeepR b s0 (execBistTestDone x0 x1 x2) := by
  unfold execBistTestDone
  repeat' (first
    | (with_reducible assumption)
    | (with_reducible apply KeepR.next)
    | (with_reducible apply KeepR.ite <;> with_reducible intro _)
    | (with_reducible apply Keep.ite <;> with_reducible intro _)
    | (with_reducible apply testDone_keep)
    | (with_reducible intro _)
    | split)

theorem internalCmds_keep {x0 x1} (h0 : Keep b s0 x0) : Keep b s0 (internalCmds x0 x1) := by
  unfold internalCmds
  repeat' (first
    | (with_reducible assumption)
    | (with_reducible apply Keep.ite <;> with_reducible intro _)
    | (with_reducible apply eachCmd_keep)
    | (with_reducible apply finish_keep)
    | (with_reducible apply endWakeSend_keep)
    | (with_reducible intro _)
    | (extract_lets)
    | split)

theorem internalDl_keep {x0 x1 x2} (h0 : Keep b s0 x0) : Keep b s0 (internalDl x0 x1 x2) := by
  unfold internalDl
  repeat' (first
    | (with_reducible assumption)
    | (with_reducible apply Keep.ite <;> with_reducible intro _)
    | (with_reducible apply finish_keep)
    | (with_reducible apply cancelDl_keep)
    | (with_reducible intro _)
    | (extract_lets)
    | split
    | (dsimp +zetaDelta only))

theorem withdraw_keep {x0 x1 x2} (h0 : Keep b s0 x0) : Keep b s0 (withdraw x0 x1 x2) := by
  unfold withdraw
  repeat' (first
    | (with_reducible assumption)
    | (with_reducible apply Keep.ite <;> with_reducible intro _)
    | (with_reducible apply swapTx_keep)
    | (with_reducible apply giveBack_keep)
    | (with_reducible apply joinEnds_keep)
    | (with_reducible apply mcastMissed_keep)
    | (with_reducible intro _)
    | (extract_lets)
    | split
    | (dsimp +zetaDelta only))

theorem receiveRestart_keep {x0 x1} (h0 : Keep b s0 x0) : Keep b s0 (receiveRestart x0 x1) := by
  unfold receiveRestart
  exact State.setLane_keep (Keep.foldl (fun _ _ h => freeMeas_keep h) (ctxPreempt_keep h0))

theorem transmitRestart_keep {x0 x1} (h0 : Keep b s0 x0) : Keep b s0 (transmitRestart x0 x1) := by
  unfold transmitRestart
  repeat' (first
    | (with_reducible assumption)
    | (with_reducible apply Keep.ite <;> with_reducible intro _)
    | (with_reducible apply ctxPreempt_keep)
    | (with_reducible apply internalDl_keep)
    | (with_reducible apply withdraw_keep)
    | (with_reducible apply State.setLane_keep)
    | (with_reducible apply dropWake_keep)
    | (with_reducible apply Keep.foldl <;> [intro _ _ _; skip])
    | (with_reducible intro _)
    | (extract_lets)
    | split
    | (dsimp +zetaDelta only)
    | (with_reducible apply Keep.mk; with_reducible first | apply Kept.of | (apply Kept.send; apply Kept.of)))

theorem cadastreRestart_keep {x0} (h0 : Keep b s0 x0) : Keep b s0 (cadastreRestart x0) := by
  unfold cadastreRestart
  repeat' (first
    | (with_reducible assumption)
    | (with_reducible apply Keep.ite <;> with_reducible intro _)
    | (with_reducible apply State.setLane_keep)
    | (with_reducible apply Keep.foldl <;> [intro _ _ _; skip])
    | (with_reducible intro _)
    | (with_reducible apply Keep.mk; with_reducible first | apply Kept.of | (apply Kept.send; apply Kept.of)))

theorem discardTaken_keep {x0 x1 x2} (h0 : Keep b s0 x0) : Keep b s0 (discardTaken x0 x1 x2).2 := by
  unfold discardTaken
  repeat' (first
    | (with_reducible assumption)
    | (with_reducible apply Keep.ite <;> with_reducible intro _)
    | (with_reducible apply markLoss_keep)
    | (with_reducible apply dropHead_keep)
    | (with_reducible apply Keep.foldl <;> [intro _ _ _; skip])
    | (with_reducible intro _)
    | (extract_lets)
    | split
    | (with_reducible refine Keep.snd ?_ (by with_reducible assumption))
    | (with_reducible refine Keep.trd ?_ (by with_reducible assumption))
    | (with_reducible apply Keep.ite_fst <;> with_reducible intro _)
    | (with_reducible apply Keep.ite_snd <;> with_reducible intro _)
    | (with_reducible apply Keep.foldl_snd <;> [intro _ _ _; skip])
    | (with_reducible apply Keep.foldl_fst <;> [intro _ _ _; skip])
    | (dsimp +zetaDelta only)
    | (with_reducible apply Keep.mk; with_reducible first | apply Kept.of | (apply Kept.send; apply Kept.of)))

theorem discardAll_keep {x0 x1 x2} (h0 : Keep b s0 x0) : Keep b s0 (discardAll x0 x1 x2).2 :=
  Keep.foldl_snd (fun _ _ hr => discardTaken_keep hr) h0

theorem engineRestart_keep {x0 x1 x2 x3} (h0 : Keep b s0 x0) : Keep b s0 (engineRestart x0 x1 x2 x3) := by
  unfold engineRestart
  repeat' (first
    | (with_reducible assumption)
    | (with_reducible apply Keep.ite <;> with_reducible intro _)
    | (with_reducible apply State.setEngine_keep)
    | (with_reducible apply discardAll_keep)
    | (with_reducible apply internalCmds_keep)
    | (with_reducible apply receiveRestart_keep)
    | (with_reducible apply transmitRestart_keep)
    | (with_reducible apply cadastreRestart_keep)
    | (with_reducible apply State.event_keep)
    | (with_reducible intro _)
    | (extract_lets)
    | split
    | (with_reducible refine Keep.snd ?_ (by with_reducible assumption))
    | (with_reducible refine Keep.trd ?_ (by with_reducible assumption)))

theorem execEngineRestartDone_keep {x0 x1} (h1 : Keep b s0 x1) : KeepR b s0 (execEngineRestartDone x0 x1) := by
  unfold execEngineRestartDone
  repeat' (first
    | (with_reducible assumption)
    | (with_reducible apply KeepR.next)
    | (with_reducible apply KeepR.ite <;> with_reducible intro _)
    | (with_reducible apply Keep.ite <;> with_reducible intro _)
    | (with_reducible apply State.setEngine_keep)
    | (with_reducible intro _)
    | split)

/-! ### Memory -/

theorem logError_keep {x0 x1 x2 x3 x4 x5 x6 x7} (h0 : Keep b s0 x0) : Keep b s0 (logError x0 x1 x2 x3 x4 x5 x6 x7) := by
  unfold logError
  repeat' (first
    | (with_reducible assumption)
    | (with_reducible apply Keep.ite <;> with_reducible intro _)
    | (with_reducible apply setCause_keep)
    | (with_reducible apply State.count_keep)
    | (with_reducible intro _)
    | split
    | (with_reducible apply Keep.mk; with_reducible first | apply Kept.of | (apply Kept.send; apply Kept.of)))

theorem ceTell_keep {x0 x1} (h0 : Keep b s0 x0) : Keep b s0 (ceTell x0 x1) := by
  unfold ceTell
  repeat' (first
    | (with_reducible assumption)
    | (with_reducible apply Keep.ite <;> with_reducible intro _)
    | (with_reducible intro _)
    | (with_reducible apply Keep.mk; with_reducible first | apply Kept.of | (apply Kept.send; apply Kept.of)))

theorem dramCe_keep {x0 x1 x2 x3 x4} (h0 : Keep b s0 x0) : Keep b s0 (dramCe x0 x1 x2 x3 x4) := by
  unfold dramCe
  repeat' (first
    | (with_reducible assumption)
    | (with_reducible apply Keep.ite <;> with_reducible intro _)
    | (with_reducible apply State.count_keep)
    | (with_reducible apply logError_keep)
    | (with_reducible apply ceTell_keep)
    | (with_reducible apply setCause_keep)
    | (with_reducible apply State.event_keep)
    | (with_reducible intro _)
    | (extract_lets)
    | split
    | (with_reducible apply Keep.mk; with_reducible first | apply Kept.of | (apply Kept.send; apply Kept.of)))

theorem dramUe_keep {x0 x1 x2 x3} (h0 : Keep b s0 x0) : Keep b s0 (dramUe x0 x1 x2 x3) := by
  unfold dramUe
  repeat' (first
    | (with_reducible assumption)
    | (with_reducible apply Keep.ite <;> with_reducible intro _)
    | (with_reducible apply State.count_keep)
    | (with_reducible apply recordErr_keep)
    | (with_reducible apply logError_keep)
    | (with_reducible apply setCause_keep)
    | (with_reducible apply State.event_keep)
    | (with_reducible intro _)
    | (extract_lets)
    | split
    | (with_reducible apply Keep.mk; with_reducible first | apply Kept.of | (apply Kept.send; apply Kept.of)))

theorem tableLost_keep {x0 x1 x2} (h0 : Keep b s0 x0) : Keep b s0 (tableLost x0 x1 x2) := by
  unfold tableLost
  repeat' (first
    | (with_reducible assumption)
    | (with_reducible apply Keep.ite <;> with_reducible intro _)
    | (with_reducible apply State.event_keep)
    | (with_reducible intro _))

theorem parcelLost_keep {x0 x1 x2} (h0 : Keep b s0 x0) : Keep b s0 (parcelLost x0 x1 x2) := by
  unfold parcelLost
  repeat' (first
    | (with_reducible assumption)
    | (with_reducible apply Keep.ite <;> with_reducible intro _)
    | (with_reducible apply State.event_keep)
    | (with_reducible apply State.count_keep)
    | (with_reducible apply freeParcel_keep)
    | (with_reducible intro _))

theorem parcelReset_keep {x0 x1 x2} (h0 : Keep b s0 x0) : Keep b s0 (parcelReset x0 x1 x2) := by
  unfold parcelReset
  repeat' (first
    | (with_reducible assumption)
    | (with_reducible apply Keep.ite <;> with_reducible intro _)
    | (with_reducible apply childrenLost_keep)
    | (with_reducible apply dropAll_keep)
    | (with_reducible apply setUstate_keep)
    | (with_reducible apply State.ramStore_keep)
    | (with_reducible apply pSetBits_keep)
    | (with_reducible apply dropAssign_keep)
    | (with_reducible apply emptyNode_keep)
    | (with_reducible apply pSet_keep)
    | (with_reducible apply countChildren_keep)
    | (with_reducible apply State.event_keep)
    | (with_reducible apply State.count_keep)
    | (with_reducible intro _)
    | (extract_lets)
    | split
    | (with_reducible refine Keep.snd ?_ (by with_reducible assumption))
    | (with_reducible refine Keep.trd ?_ (by with_reducible assumption))
    | (with_reducible apply Keep.ite_fst <;> with_reducible intro _)
    | (with_reducible apply Keep.ite_snd <;> with_reducible intro _)
    | (with_reducible apply Keep.foldl_snd <;> [intro _ _ _; skip])
    | (with_reducible apply Keep.foldl_fst <;> [intro _ _ _; skip])
    | (dsimp +zetaDelta only)
    | (with_reducible apply Keep.mk; with_reducible first | apply Kept.of | (apply Kept.send; apply Kept.of)))

theorem lostParcel_keep {x0 x1 x2} (h0 : Keep b s0 x0) : Keep b s0 (lostParcel x0 x1 x2) := by
  unfold lostParcel
  repeat' (first
    | (with_reducible assumption)
    | (with_reducible apply Keep.ite <;> with_reducible intro _)
    | (with_reducible apply parcelLost_keep)
    | (with_reducible apply parcelReset_keep)
    | (with_reducible intro _)
    | split)

theorem openBytes_keep {x0 x1} (h0 : Keep b s0 x0) : Keep b s0 (openBytes x0 x1) := by
  unfold openBytes
  repeat' (first
    | (with_reducible assumption)
    | (with_reducible apply Keep.ite <;> with_reducible intro _)
    | (with_reducible apply drawBytes_keep)
    | (with_reducible apply State.ramStore_keep)
    | (with_reducible intro _)
    | (extract_lets)
    | (with_reducible refine Keep.snd ?_ (by with_reducible assumption))
    | (with_reducible refine Keep.trd ?_ (by with_reducible assumption)))

theorem lostMaps_keep {x0 x1 x2} (h0 : Keep b s0 x0) : Keep b s0 (lostMaps x0 x1 x2) := by
  unfold lostMaps
  repeat' (first
    | (with_reducible assumption)
    | (with_reducible apply Keep.ite <;> with_reducible intro _)
    | (with_reducible apply openBytes_keep)
    | (with_reducible apply pSetBits_keep)
    | (with_reducible apply tableLost_keep)
    | (with_reducible intro _)
    | (extract_lets)
    | split
    | (dsimp +zetaDelta only))

theorem lostRoute_keep {x0 x1 x2} (h0 : Keep b s0 x0) : Keep b s0 (lostRoute x0 x1 x2) := by
  unfold lostRoute
  repeat' (first
    | (with_reducible assumption)
    | (with_reducible apply Keep.ite <;> with_reducible intro _)
    | (with_reducible apply openBytes_keep)
    | (with_reducible apply State.ramStore_keep)
    | (with_reducible apply tableLost_keep)
    | (with_reducible intro _)
    | (extract_lets)
    | split
    | (dsimp +zetaDelta only))

theorem lostImage_keep {x0 x1 x2} (h0 : Keep b s0 x0) : Keep b s0 (lostImage x0 x1 x2) := by
  unfold lostImage
  repeat' (first
    | (with_reducible assumption)
    | (with_reducible apply Keep.ite <;> with_reducible intro _)
    | (with_reducible apply openBytes_keep)
    | (with_reducible apply State.setFld_keep)
    | (with_reducible apply endSession_keep)
    | (with_reducible apply tableLost_keep)
    | (with_reducible apply Keep.foldl <;> [intro _ _ _; skip])
    | (with_reducible intro _)
    | (extract_lets)
    | split
    | (with_reducible apply Keep.mk; with_reducible first | apply Kept.of | (apply Kept.send; apply Kept.of)))

theorem lostItem_keep {x0 x1 x2} (h0 : Keep b s0 x0) : Keep b s0 (lostItem x0 x1 x2) := by
  unfold lostItem
  repeat' (first
    | (with_reducible assumption)
    | (with_reducible apply Keep.ite <;> with_reducible intro _)
    | (with_reducible apply State.putItems_keep)
    | (with_reducible apply State.setQueue_keep)
    | (with_reducible apply freeItem_keep)
    | (with_reducible apply placeMarker_keep)
    | (with_reducible intro _)
    | (extract_lets)
    | split
    | (with_reducible apply Keep.mk; with_reducible first | apply Kept.of | (apply Kept.send; apply Kept.of))
    | (dsimp +zetaDelta only))

theorem lostDl_keep {x0 x1} (h0 : Keep b s0 x0) : Keep b s0 (lostDl x0 x1) := by
  unfold lostDl
  repeat' (first
    | (with_reducible assumption)
    | (with_reducible apply Keep.ite <;> with_reducible intro _)
    | (with_reducible apply finish_keep)
    | (with_reducible apply wakeCancel_keep)
    | (with_reducible apply cancelDl_keep)
    | (with_reducible intro _)
    | (extract_lets)
    | split
    | (dsimp +zetaDelta only))

theorem lostCell_keep {x0 x1} (h0 : Keep b s0 x0) : Keep b s0 (lostCell x0 x1) := by
  unfold lostCell
  repeat' (first
    | (with_reducible assumption)
    | (with_reducible apply Keep.ite <;> with_reducible intro _)
    | (with_reducible apply State.setQueue_keep)
    | (with_reducible apply lostItem_keep)
    | (with_reducible apply lostDl_keep)
    | (with_reducible intro _)
    | (extract_lets)
    | split
    | (dsimp +zetaDelta only)
    | (with_reducible refine Keep.snd ?_ (by with_reducible assumption))
    | (with_reducible refine Keep.trd ?_ (by with_reducible assumption))
    | (with_reducible apply Keep.mk; with_reducible first | apply Kept.of | (apply Kept.send; apply Kept.of)))

theorem watchAgain_keep {x0 x1} (h0 : Keep b s0 x0) : Keep b s0 (watchAgain x0 x1) := by
  unfold watchAgain
  repeat' (first
    | (with_reducible assumption)
    | (with_reducible apply Keep.ite <;> with_reducible intro _)
    | (with_reducible apply pickEntry_keep)
    | (with_reducible apply putNbr_keep)
    | (with_reducible apply putEntry_keep)
    | (with_reducible intro _)
    | (extract_lets)
    | split
    | (with_reducible refine Keep.snd ?_ (by with_reducible assumption))
    | (with_reducible refine Keep.trd ?_ (by with_reducible assumption))
    | (dsimp +zetaDelta only)
    | (with_reducible apply Keep.mk; with_reducible first | apply Kept.of | (apply Kept.send; apply Kept.of)))

theorem mcastAgain_keep {x0 x1 x2} (h0 : Keep b s0 x0) : Keep b s0 (mcastAgain x0 x1 x2) := by
  unfold mcastAgain
  repeat' (first
    | (with_reducible assumption)
    | (with_reducible apply Keep.ite <;> with_reducible intro _)
    | (with_reducible apply endSession_keep)
    | (with_reducible apply pickEntry_keep)
    | (with_reducible apply editUpdLane_keep)
    | (with_reducible apply putEntry_keep)
    | (with_reducible intro _)
    | (extract_lets)
    | split
    | (with_reducible refine Keep.snd ?_ (by with_reducible assumption))
    | (with_reducible refine Keep.trd ?_ (by with_reducible assumption))
    | (dsimp +zetaDelta only)
    | (with_reducible apply Keep.mk; with_reducible first | apply Kept.of | (apply Kept.send; apply Kept.of)))

theorem entryLost_keep {x0 x1 x2} (h0 : Keep b s0 x0) : Keep b s0 (entryLost x0 x1 x2) := by
  unfold entryLost
  repeat' (first
    | (with_reducible assumption)
    | (with_reducible apply Keep.ite <;> with_reducible intro _)
    | (with_reducible apply releaseNode_keep)
    | (with_reducible apply watchAgain_keep)
    | (with_reducible apply mcastAgain_keep)
    | (with_reducible intro _)
    | split)

theorem lostEntries_keep {x0 x1} (h0 : Keep b s0 x0) : Keep b s0 (lostEntries x0 x1) := by
  unfold lostEntries
  repeat' (first
    | (with_reducible assumption)
    | (with_reducible apply Keep.ite <;> with_reducible intro _)
    | (with_reducible apply emptyEntry_keep)
    | (with_reducible apply State.ramStore_keep)
    | (with_reducible apply tableLost_keep)
    | (with_reducible apply entryLost_keep)
    | (with_reducible intro _)
    | (extract_lets))

theorem lostRecord_keep {x0 x1} (h0 : Keep b s0 x0) : Keep b s0 (lostRecord x0 x1) := by
  unfold lostRecord
  repeat' (first
    | (with_reducible assumption)
    | (with_reducible apply Keep.ite <;> with_reducible intro _)
    | (with_reducible intro _)
    | (with_reducible apply Keep.mk; with_reducible first | apply Kept.of | (apply Kept.send; apply Kept.of)))

theorem lostStats_keep {x0 x1} (h0 : Keep b s0 x0) : Keep b s0 (lostStats x0 x1) := by
  unfold lostStats
  repeat' (first
    | (with_reducible assumption)
    | (with_reducible apply Keep.ite <;> with_reducible intro _)
    | (with_reducible apply tableLost_keep)
    | (with_reducible apply State.setQueue_keep)
    | (with_reducible intro _)
    | (with_reducible apply Keep.mk; with_reducible first | apply Kept.of | (apply Kept.send; apply Kept.of)))

theorem lostUnit_keep {x0 x1 x2} (h0 : Keep b s0 x0) : Keep b s0 (lostUnit x0 x1 x2) := by
  unfold lostUnit
  repeat' (first
    | (with_reducible assumption)
    | (with_reducible apply Keep.ite <;> with_reducible intro _)
    | (with_reducible apply queueFaultBy_keep)
    | (with_reducible apply lostParcel_keep)
    | (with_reducible apply lostMaps_keep)
    | (with_reducible apply lostRoute_keep)
    | (with_reducible apply lostImage_keep)
    | (with_reducible apply lostCell_keep)
    | (with_reducible apply lostEntries_keep)
    | (with_reducible apply lostRecord_keep)
    | (with_reducible apply lostStats_keep)
    | (with_reducible intro _)
    | (extract_lets)
    | split
    | (dsimp +zetaDelta only)
    | (with_reducible apply Keep.mk; with_reducible first | apply Kept.of | (apply Kept.send; apply Kept.of)))

theorem codewordLost_keep {x0 x1 x2 x3 x4} (h0 : Keep b s0 x0) : Keep b s0 (codewordLost x0 x1 x2 x3 x4) := by
  unfold codewordLost
  repeat' (first
    | (with_reducible assumption)
    | (with_reducible apply Keep.ite <;> with_reducible intro _)
    | (with_reducible apply lostUnit_keep)
    | (with_reducible apply dramUe_keep)
    | (with_reducible intro _))

theorem codewordRead_keep {x0 x1 x2 x3 x4} (h0 : Keep b s0 x0) : Keep b s0 (codewordRead x0 x1 x2 x3 x4) := by
  cases x4
  · exact h0
  · exact dramCe_keep h0
  · exact State.ramStore_keep (dramCe_keep h0)
  · exact codewordLost_keep h0

theorem scrubEnds_keep {x0} (h0 : Keep b s0 x0) : Keep b s0 (scrubEnds x0) := by
  unfold scrubEnds
  repeat' (first
    | (with_reducible assumption)
    | (with_reducible apply Keep.ite <;> with_reducible intro _)
    | (with_reducible apply State.setReg_keep)
    | (with_reducible apply State.count_keep)
    | (with_reducible apply State.event_keep)
    | (with_reducible apply setCause_keep)
    | (with_reducible apply State.setFld_keep)
    | (with_reducible intro _)
    | (extract_lets)
    | (with_reducible apply Keep.mk; with_reducible first | apply Kept.of | (apply Kept.send; apply Kept.of)))

theorem scrubRead_keep {x0 x1 x2 x3} (h0 : Keep b s0 x0) : Keep b s0 (scrubRead x0 x1 x2 x3) := by
  unfold scrubRead
  repeat' (first
    | (with_reducible assumption)
    | (with_reducible apply Keep.ite <;> with_reducible intro _)
    | (with_reducible apply codewordRead_keep)
    | (with_reducible apply scrubEnds_keep)
    | (with_reducible apply State.setFld_keep)
    | (with_reducible intro _)
    | (extract_lets)
    | split)

theorem execScrubRead_keep {x0 x1 x2 x3} (h3 : Keep b s0 x3) : KeepR b s0 (execScrubRead x0 x1 x2 x3) := by
  unfold execScrubRead
  repeat' (first
    | (with_reducible assumption)
    | (with_reducible apply KeepR.next)
    | (with_reducible apply KeepR.ite <;> with_reducible intro _)
    | (with_reducible apply Keep.ite <;> with_reducible intro _)
    | (with_reducible apply codewordRead_keep)
    | (with_reducible apply scrubRead_keep)
    | (with_reducible intro _)
    | split
    | (dsimp +zetaDelta only))

theorem execScrubLate_keep {x0} (h0 : Keep b s0 x0) : KeepR b s0 (execScrubLate x0) := by
  unfold execScrubLate
  repeat' (first
    | (with_reducible assumption)
    | (with_reducible apply KeepR.next)
    | (with_reducible apply KeepR.ite <;> with_reducible intro _)
    | (with_reducible apply Keep.ite <;> with_reducible intro _)
    | (with_reducible apply State.event_keep)
    | (with_reducible apply setCause_keep)
    | (with_reducible apply State.setFld_keep)
    | (with_reducible intro _)
    | (extract_lets)
    | split)

theorem lostContext_keep {x0 x1 x2} (h0 : Keep b s0 x0) : Keep b s0 (lostContext x0 x1 x2) := by
  unfold lostContext
  repeat' (first
    | (with_reducible assumption)
    | (with_reducible apply Keep.ite <;> with_reducible intro _)
    | (with_reducible apply blankLoss_keep)
    | (with_reducible apply endCtx_keep)
    | (with_reducible intro _)
    | split
    | (dsimp +zetaDelta only))

theorem lostPayload_keep {x0 x1} (h0 : Keep b s0 x0) : Keep b s0 (lostPayload x0 x1) := by
  unfold lostPayload
  repeat' (first
    | (with_reducible assumption)
    | (with_reducible apply Keep.ite <;> with_reducible intro _)
    | (with_reducible apply payloadLoss_keep)
    | (with_reducible apply ofdmEnd_keep)
    | (with_reducible apply noteFrame_keep)
    | (with_reducible intro _)
    | (extract_lets)
    | split
    | (dsimp +zetaDelta only)
    | (with_reducible apply Keep.mk; with_reducible first | apply Kept.of | (apply Kept.send; apply Kept.of)))

theorem lostSram_keep {x0 x1} (h0 : Keep b s0 x0) : Keep b s0 (lostSram x0 x1) := by
  unfold lostSram
  split
  · exact lostCell_keep h0
  · exact queueFaultBy_keep h0
  · exact lostContext_keep h0
  · exact lostPayload_keep h0
  · exact queueFaultBy_keep h0
  · exact Keep.ite (fun _ => State.setEngine_keep h0) (fun _ => h0)
  all_goals exact h0

theorem sramCe_keep {x0 x1 x2 x3 x4 x5} (h0 : Keep b s0 x0) : Keep b s0 (sramCe x0 x1 x2 x3 x4 x5) := by
  unfold sramCe
  repeat' (first
    | (with_reducible assumption)
    | (with_reducible apply Keep.ite <;> with_reducible intro _)
    | (with_reducible apply State.count_keep)
    | (with_reducible apply logError_keep)
    | (with_reducible apply ceTell_keep)
    | (with_reducible apply setCause_keep)
    | (with_reducible apply State.event_keep)
    | (with_reducible intro _)
    | (extract_lets)
    | split)

theorem sramUe_keep {x0 x1 x2 x3 x4} (h0 : Keep b s0 x0) : Keep b s0 (sramUe x0 x1 x2 x3 x4) := by
  unfold sramUe
  repeat' (first
    | (with_reducible assumption)
    | (with_reducible apply Keep.ite <;> with_reducible intro _)
    | (with_reducible apply recordErr_keep)
    | (with_reducible apply logError_keep)
    | (with_reducible apply State.count_keep)
    | (with_reducible apply setCause_keep)
    | (with_reducible apply State.event_keep)
    | (with_reducible intro _)
    | (extract_lets))

theorem execEngineRestart_keep {x0 x1 x2 x3} (h3 : Keep b s0 x3) : KeepR b s0 (execEngineRestart x0 x1 x2 x3) := by
  unfold execEngineRestart
  repeat' (first
    | (with_reducible assumption)
    | (with_reducible apply KeepR.next)
    | (with_reducible apply KeepR.ite <;> with_reducible intro _)
    | (with_reducible apply Keep.ite <;> with_reducible intro _)
    | (with_reducible apply sramUe_keep)
    | (with_reducible apply engineRestart_keep)
    | (with_reducible intro _)
    | split
    | (with_reducible refine Keep.snd ?_ (by with_reducible assumption))
    | (with_reducible refine Keep.trd ?_ (by with_reducible assumption)))

theorem sramRead_keep {x0 x1 x2 x3 x4} (h0 : Keep b s0 x0) : Keep b s0 (sramRead x0 x1 x2 x3 x4) := by
  cases x4
  · exact h0
  · exact sramCe_keep h0
  · exact lostSram_keep (sramUe_keep h0)

theorem execSramSweep_keep {x0 x1 x2 x3 x4} (h4 : Keep b s0 x4) : KeepR b s0 (execSramSweep x0 x1 x2 x3 x4) := by
  unfold execSramSweep
  repeat' (first
    | (with_reducible assumption)
    | (with_reducible apply KeepR.next)
    | (with_reducible apply KeepR.ite <;> with_reducible intro _)
    | (with_reducible apply Keep.ite <;> with_reducible intro _)
    | (with_reducible apply sramRead_keep)
    | (with_reducible intro _)
    | split)

theorem errLogPop_keep {x0 x1} (h0 : Keep b s0 x0) : Keep b s0 (errLogPop x0 x1) := by
  unfold errLogPop
  repeat' (first
    | (with_reducible assumption)
    | (with_reducible apply Keep.ite <;> with_reducible intro _)
    | (with_reducible apply readWide_keep)
    | (with_reducible intro _)
    | (extract_lets)
    | split
    | (dsimp +zetaDelta only)
    | (with_reducible apply Keep.mk; with_reducible first | apply Kept.of | (apply Kept.send; apply Kept.of)))

theorem execErrLogPop_keep {x0 x1} (h1 : Keep b s0 x1) : KeepR b s0 (execErrLogPop x0 x1) := by
  unfold execErrLogPop
  repeat' (first
    | (with_reducible assumption)
    | (with_reducible apply KeepR.next)
    | (with_reducible apply KeepR.ite <;> with_reducible intro _)
    | (with_reducible apply Keep.ite <;> with_reducible intro _)
    | (with_reducible apply gateRead_keep)
    | (with_reducible apply errLogPop_keep)
    | (with_reducible intro _))

end Sys2Proof.Machine
end

