-- ==== Sys2Proof/Laws/KeepAccess.lean ====
section
/-!
SUPPORT. Sys2Proof/Laws/KeepAccess.lean: one lemma for each function on states of staging, the indirect window, register accesses, boot, SPI, every command: it keeps what `Keep` says.
-/

-- One theorem after the other: side by side, their proofs would hold threads and memory together.
set_option Elab.async false
set_option linter.unusedTactic false
set_option linter.unreachableTactic false

namespace Sys2Proof.Machine

variable {b : Bool} {s0 : State}

/-! ### Stage -/

theorem fwResult_keep {x0 x1 x2 x3} (h0 : Keep b s0 x0) : Keep b s0 (fwResult x0 x1 x2 x3) := by
  unfold fwResult
  repeat' (first
    | (with_reducible assumption)
    | (with_reducible apply Keep.ite <;> with_reducible intro _)
    | (with_reducible apply State.event_keep)
    | (with_reducible intro _)
    | split)

theorem loadBundle_keep {x0 x1 x2} (h0 : Keep b s0 x0) : Keep b s0 (loadBundle x0 x1 x2) := by
  unfold loadBundle
  repeat' (first
    | (with_reducible assumption)
    | (with_reducible apply Keep.ite <;> with_reducible intro _)
    | (with_reducible apply State.setFld_keep)
    | (with_reducible apply State.setEngine_keep)
    | (with_reducible apply fwResult_keep)
    | (with_reducible apply Keep.foldl <;> [intro _ _ _; skip])
    | (with_reducible intro _)
    | (extract_lets)
    | (with_reducible apply Keep.mk; with_reducible first | apply Kept.of | (apply Kept.send; apply Kept.of))
    | (with_reducible apply Keep.mk; apply Kept.of))

theorem noBundle_keep {x0} (h0 : Keep b s0 x0) : Keep b s0 (noBundle x0) := by
  unfold noBundle
  repeat' (first
    | (with_reducible assumption)
    | (with_reducible apply Keep.ite <;> with_reducible intro _)
    | (with_reducible apply State.setEngine_keep)
    | (with_reducible apply State.setFld_keep)
    | (with_reducible apply fwResult_keep)
    | (with_reducible intro _)
    | (extract_lets)
    | (with_reducible apply Keep.mk; with_reducible first | apply Kept.of | (apply Kept.send; apply Kept.of)))

theorem hostTurn_keep {x0} (h0 : Keep b s0 x0) : Keep b s0 (hostTurn x0) := by
  unfold hostTurn
  repeat' (first
    | (with_reducible assumption)
    | (with_reducible apply Keep.ite <;> with_reducible intro _)
    | (with_reducible apply noBundle_keep)
    | (with_reducible apply setCause_keep)
    | (with_reducible apply State.setFld_keep)
    | (with_reducible intro _)
    | split)

theorem stageEmpty_keep {x0} (h0 : Keep b s0 x0) : Keep b s0 (stageEmpty x0) := by
  unfold stageEmpty
  repeat' (first
    | (with_reducible assumption)
    | (with_reducible apply Keep.ite <;> with_reducible intro _)
    | (with_reducible apply State.setReg_keep)
    | (with_reducible intro _)
    | (with_reducible apply Keep.mk; with_reducible first | apply Kept.of | (apply Kept.send; apply Kept.of)))

theorem stageBusy_keep {x0 x1 x2} (h0 : Keep b s0 x0) : Keep b s0 (stageBusy x0 x1 x2) := by
  unfold stageBusy
  repeat' (first
    | (with_reducible assumption)
    | (with_reducible apply Keep.ite <;> with_reducible intro _)
    | (with_reducible apply recordErr_keep)
    | (with_reducible intro _))

theorem stageCtrlWrite_keep {x0 x1 x2 x3} (h0 : Keep b s0 x0) : Keep b s0 (stageCtrlWrite x0 x1 x2 x3) := by
  unfold stageCtrlWrite
  repeat' (first
    | (with_reducible assumption)
    | (with_reducible apply Keep.ite <;> with_reducible intro _)
    | (with_reducible apply stageBusy_keep)
    | (with_reducible apply stageEmpty_keep)
    | (with_reducible apply recordErr_keep)
    | (with_reducible apply State.setFld_keep)
    | (with_reducible intro _)
    | (extract_lets)
    | split)

theorem stageDataWrite_keep {x0 x1 x2} (h0 : Keep b s0 x0) : Keep b s0 (stageDataWrite x0 x1 x2) := by
  unfold stageDataWrite
  repeat' (first
    | (with_reducible assumption)
    | (with_reducible apply Keep.ite <;> with_reducible intro _)
    | (with_reducible apply stageBusy_keep)
    | (with_reducible apply State.setFld_keep)
    | (with_reducible intro _)
    | split
    | (with_reducible apply Keep.mk; with_reducible first | apply Kept.of | (apply Kept.send; apply Kept.of)))

theorem setCopy_keep {x0 x1 x2} (h0 : Keep b s0 x0) : Keep b s0 (setCopy x0 x1 x2) := by
  unfold setCopy
  repeat' (first
    | (with_reducible assumption)
    | (with_reducible apply Keep.ite <;> with_reducible intro _)
    | (with_reducible intro _)
    | split
    | (with_reducible apply Keep.mk; with_reducible first | apply Kept.of | (apply Kept.send; apply Kept.of)))

theorem beginStage_keep {x0 x1 x2 x3} (h0 : Keep b s0 x0) : Keep b s0 (beginStage x0 x1 x2 x3) := by
  unfold beginStage
  repeat' (first
    | (with_reducible assumption)
    | (with_reducible apply Keep.ite <;> with_reducible intro _)
    | (with_reducible apply setCopy_keep)
    | (with_reducible intro _)
    | (extract_lets)
    | split
    | (with_reducible apply Keep.mk; with_reducible first | apply Kept.of | (apply Kept.send; apply Kept.of)))

theorem stageGo_keep {x0 x1 x2} (h0 : Keep b s0 x0) : Keep b s0 (stageGo x0 x1 x2) := by
  unfold stageGo
  repeat' (first
    | (with_reducible assumption)
    | (with_reducible apply Keep.ite <;> with_reducible intro _)
    | (with_reducible apply State.setFld_keep)
    | (with_reducible apply startGo_keep)
    | (with_reducible apply beginStage_keep)
    | (with_reducible intro _)
    | (extract_lets)
    | split)

theorem stageEffect_keep {x0 x1 x2} (h0 : Keep b s0 x0) : Keep b s0 (stageEffect x0 x1 x2).1 := by
  unfold stageEffect
  split
  · split
    · exact setCopy_keep h0
    · exact h0
  · split
    · split
      · exact loadBundle_keep (State.setFld_keep h0)
      · exact h0
    · exact h0
  · refine Keep.mk { Kept.of h0 with keyHash := fun hb => ?_ }
    have hk := Kept.keyHash h0 hb
    have : x0.nv.keyHash ≠ .blank := hk ▸ hb
    simp only [this, if_false]
    exact hk

theorem stageReport_keep {x0 x1 x2} (h0 : Keep b s0 x0) : Keep b s0 (stageReport x0 x1 x2) := by
  unfold stageReport
  repeat' (first
    | (with_reducible assumption)
    | (with_reducible apply Keep.ite <;> with_reducible intro _)
    | (with_reducible apply State.event_keep)
    | (with_reducible apply State.setReg_keep)
    | (with_reducible apply setCause_keep)
    | (with_reducible apply recordErr_keep)
    | (with_reducible intro _)
    | (extract_lets)
    | split)

theorem stageDone_keep {x0 x1 x2} (h0 : Keep b s0 x0) : Keep b s0 (stageDone x0 x1 x2) := by
  unfold stageDone
  repeat' (first
    | (with_reducible assumption)
    | (with_reducible apply Keep.ite <;> with_reducible intro _)
    | (with_reducible apply State.setFld_keep)
    | (with_reducible apply stageEffect_keep)
    | (with_reducible apply stageReport_keep)
    | (with_reducible apply endGo_keep)
    | (with_reducible apply beginStage_keep)
    | (with_reducible intro _)
    | (extract_lets)
    | split
    | (with_reducible refine Keep.snd ?_ (by with_reducible assumption))
    | (with_reducible refine Keep.trd ?_ (by with_reducible assumption))
    | (with_reducible apply Keep.mk; with_reducible first | apply Kept.of | (apply Kept.send; apply Kept.of)))

theorem execStageTargetWrite_keep {x0 x1 x2} (h2 : Keep b s0 x2) : KeepR b s0 (execStageTargetWrite x0 x1 x2) := by
  unfold execStageTargetWrite
  repeat' (first
    | (with_reducible assumption)
    | (with_reducible apply KeepR.next)
    | (with_reducible apply KeepR.ite <;> with_reducible intro _)
    | (with_reducible apply Keep.ite <;> with_reducible intro _)
    | (with_reducible apply gateWrite_keep)
    | (with_reducible apply stageCtrlWrite_keep)
    | (with_reducible intro _))

theorem execStageClear_keep {x0 x1} (h1 : Keep b s0 x1) : KeepR b s0 (execStageClear x0 x1) := by
  unfold execStageClear
  repeat' (first
    | (with_reducible assumption)
    | (with_reducible apply KeepR.next)
    | (with_reducible apply KeepR.ite <;> with_reducible intro _)
    | (with_reducible apply Keep.ite <;> with_reducible intro _)
    | (with_reducible apply gateWrite_keep)
    | (with_reducible apply stageCtrlWrite_keep)
    | (with_reducible intro _))

theorem execStageDataWrite_keep {x0 x1 x2} (h2 : Keep b s0 x2) : KeepR b s0 (execStageDataWrite x0 x1 x2) := by
  unfold execStageDataWrite
  repeat' (first
    | (with_reducible assumption)
    | (with_reducible apply KeepR.next)
    | (with_reducible apply KeepR.ite <;> with_reducible intro _)
    | (with_reducible apply Keep.ite <;> with_reducible intro _)
    | (with_reducible apply gateWrite_keep)
    | (with_reducible apply stageDataWrite_keep)
    | (with_reducible intro _))

theorem execSeletImageWrite_keep {x0 x1} (h1 : Keep b s0 x1) : KeepR b s0 (execSeletImageWrite x0 x1) := by
  unfold execSeletImageWrite
  repeat' (first
    | (with_reducible assumption)
    | (with_reducible apply KeepR.next)
    | (with_reducible apply KeepR.ite <;> with_reducible intro _)
    | (with_reducible apply Keep.ite <;> with_reducible intro _)
    | (with_reducible apply gateWrite_keep)
    | (with_reducible apply stageGo_keep)
    | (with_reducible intro _)
    | split)

theorem execHostBundleStage_keep {x0 x1 x2} (h2 : Keep b s0 x2) : KeepR b s0 (execHostBundleStage x0 x1 x2) := by
  unfold execHostBundleStage
  repeat' (first
    | (with_reducible assumption)
    | (with_reducible apply KeepR.next)
    | (with_reducible apply KeepR.ite <;> with_reducible intro _)
    | (with_reducible apply Keep.ite <;> with_reducible intro _)
    | (with_reducible apply gateWrite_keep)
    | (with_reducible apply stageGo_keep)
    | (with_reducible intro _)
    | split)

theorem execKeyHashProgram_keep {x0 x1} (h1 : Keep b s0 x1) : KeepR b s0 (execKeyHashProgram x0 x1) := by
  unfold execKeyHashProgram
  repeat' (first
    | (with_reducible assumption)
    | (with_reducible apply KeepR.next)
    | (with_reducible apply KeepR.ite <;> with_reducible intro _)
    | (with_reducible apply Keep.ite <;> with_reducible intro _)
    | (with_reducible apply gateWrite_keep)
    | (with_reducible apply stageGo_keep)
    | (with_reducible intro _)
    | split)

theorem execStageOpDone_keep {x0 x1} (h1 : Keep b s0 x1) : KeepR b s0 (execStageOpDone x0 x1) := by
  unfold execStageOpDone
  repeat' (first
    | (with_reducible assumption)
    | (with_reducible apply KeepR.next)
    | (with_reducible apply KeepR.ite <;> with_reducible intro _)
    | (with_reducible apply Keep.ite <;> with_reducible intro _)
    | (with_reducible apply stageDone_keep)
    | (with_reducible intro _)
    | split
    | (dsimp +zetaDelta only))

theorem freeBundle_keep {x0} (h0 : Keep b s0 x0) : Keep b s0 (freeBundle x0).2 := Keep.mk (Kept.drew 8 (Kept.of h0))

theorem stageGoWrite_keep {x0 x1} (h0 : Keep b s0 x0) : Keep b s0 (stageGoWrite x0 x1) := by
  unfold stageGoWrite
  repeat' (first
    | (with_reducible assumption)
    | (with_reducible apply Keep.ite <;> with_reducible intro _)
    | (with_reducible apply freeBundle_keep)
    | (with_reducible apply stageGo_keep)
    | (with_reducible intro _)
    | (extract_lets)
    | split
    | (with_reducible refine Keep.snd ?_ (by with_reducible assumption))
    | (with_reducible refine Keep.trd ?_ (by with_reducible assumption))
    | (with_reducible apply Keep.ite_fst <;> with_reducible intro _)
    | (with_reducible apply Keep.ite_snd <;> with_reducible intro _)
    | (with_reducible apply Keep.foldl_snd <;> [intro _ _ _; skip])
    | (with_reducible apply Keep.foldl_fst <;> [intro _ _ _; skip]))

/-! ### Ind -/

theorem indCharge_keep {x0} (h0 : Keep b s0 x0) : Keep b s0 (indCharge x0) := by
  unfold indCharge
  repeat' (first
    | (with_reducible assumption)
    | (with_reducible apply Keep.ite <;> with_reducible intro _)
    | (with_reducible apply coxCharge_keep)
    | (with_reducible intro _))

theorem indStore_keep {x0 x1 x2 x3 x4} (h0 : Keep b s0 x0) : Keep b s0 (indStore x0 x1 x2 x3 x4) := by
  unfold indStore
  repeat' (first
    | (with_reducible assumption)
    | (with_reducible apply Keep.ite <;> with_reducible intro _)
    | (with_reducible apply indCharge_keep)
    | (with_reducible apply analogWrite_keep)
    | (with_reducible apply plainWrite_keep)
    | (with_reducible apply State.ramStore_keep)
    | (with_reducible intro _)
    | (extract_lets)
    | split
    | (dsimp +zetaDelta only))

theorem indError_keep {x0 x1 x2 x3 x4} (h0 : Keep b s0 x0) : Keep b s0 (indError x0 x1 x2 x3 x4) := by
  unfold indError
  repeat' (first
    | (with_reducible assumption)
    | (with_reducible apply Keep.ite <;> with_reducible intro _)
    | (with_reducible apply recordErr_keep)
    | (with_reducible apply State.setFld_keep)
    | (with_reducible intro _))

theorem State.setInd_keep {x0 x1} (h0 : Keep b s0 x0) : Keep b s0 (State.setInd x0 x1) := by
  unfold State.setInd
  repeat' (first
    | (with_reducible assumption)
    | (with_reducible apply Keep.ite <;> with_reducible intro _)
    | (with_reducible intro _)
    | (with_reducible apply Keep.mk; with_reducible first | apply Kept.of | (apply Kept.send; apply Kept.of)))

theorem indAdvance_keep {x0} (h0 : Keep b s0 x0) : Keep b s0 (indAdvance x0) := by
  unfold indAdvance
  repeat' (first
    | (with_reducible assumption)
    | (with_reducible apply Keep.ite <;> with_reducible intro _)
    | (with_reducible apply State.setFld_keep)
    | (with_reducible intro _)
    | (extract_lets)
    | split
    | (dsimp +zetaDelta only))

theorem indIssue_keep {x0 x1} (h0 : Keep b s0 x0) : Keep b s0 (indIssue x0 x1) := by
  unfold indIssue
  repeat' (first
    | (with_reducible assumption)
    | (with_reducible apply Keep.ite <;> with_reducible intro _)
    | (with_reducible apply State.setInd_keep)
    | (with_reducible apply State.setFld_keep)
    | (with_reducible apply indError_keep)
    | (with_reducible intro _)
    | (extract_lets)
    | split
    | (with_reducible apply Keep.mk; with_reducible first | apply Kept.of | (apply Kept.send; apply Kept.of)))

theorem prefetch_keep {x0 x1 x2} (h0 : Keep b s0 x0) : Keep b s0 (prefetch x0 x1 x2) := by
  unfold prefetch
  repeat' (first
    | (with_reducible assumption)
    | (with_reducible apply Keep.ite <;> with_reducible intro _)
    | (with_reducible apply indIssue_keep)
    | (with_reducible intro _)
    | (extract_lets)
    | (with_reducible apply Keep.mk; with_reducible first | apply Kept.of | (apply Kept.send; apply Kept.of)))

theorem indOverrun_keep {x0 x1} (h0 : Keep b s0 x0) : Keep b s0 (indOverrun x0 x1) := by
  unfold indOverrun
  repeat' (first
    | (with_reducible assumption)
    | (with_reducible apply Keep.ite <;> with_reducible intro _)
    | (with_reducible apply indError_keep)
    | (with_reducible intro _))

theorem indAddrWrite_keep {x0 x1 x2 x3} (h0 : Keep b s0 x0) : Keep b s0 (indAddrWrite x0 x1 x2 x3) := by
  unfold indAddrWrite
  repeat' (first
    | (with_reducible assumption)
    | (with_reducible apply Keep.ite <;> with_reducible intro _)
    | (with_reducible apply indOverrun_keep)
    | (with_reducible apply State.setInd_keep)
    | (with_reducible apply writeFields_keep)
    | (with_reducible apply prefetch_keep)
    | (with_reducible apply State.setFld_keep)
    | (with_reducible intro _)
    | (extract_lets)
    | split
    | (with_reducible apply Keep.mk; with_reducible first | apply Kept.of | (apply Kept.send; apply Kept.of)))

theorem indCtrlWrite_keep {x0 x1 x2 x3} (h0 : Keep b s0 x0) : Keep b s0 (indCtrlWrite x0 x1 x2 x3) := by
  unfold indCtrlWrite
  repeat' (first
    | (with_reducible assumption)
    | (with_reducible apply Keep.ite <;> with_reducible intro _)
    | (with_reducible apply indOverrun_keep)
    | (with_reducible apply State.setInd_keep)
    | (with_reducible apply writeFields_keep)
    | (with_reducible apply State.setFld_keep)
    | (with_reducible intro _)
    | (extract_lets)
    | split
    | (with_reducible apply Keep.mk; with_reducible first | apply Kept.of | (apply Kept.send; apply Kept.of)))

theorem indDataWrite_keep {x0 x1 x2} (h0 : Keep b s0 x0) : Keep b s0 (indDataWrite x0 x1 x2) := by
  unfold indDataWrite
  repeat' (first
    | (with_reducible assumption)
    | (with_reducible apply Keep.ite <;> with_reducible intro _)
    | (with_reducible apply indOverrun_keep)
    | (with_reducible apply indError_keep)
    | (with_reducible apply indIssue_keep)
    | (with_reducible intro _)
    | (extract_lets)
    | split
    | (with_reducible apply Keep.mk; with_reducible first | apply Kept.of | (apply Kept.send; apply Kept.of)))

theorem indDataRead_keep {x0 x1} (h0 : Keep b s0 x0) : Keep b s0 (indDataRead x0 x1) := by
  unfold indDataRead
  repeat' (first
    | (with_reducible assumption)
    | (with_reducible apply Keep.ite <;> with_reducible intro _)
    | (with_reducible apply State.send_keep)
    | (with_reducible apply indError_keep)
    | (with_reducible apply prefetch_keep)
    | (with_reducible apply indAdvance_keep)
    | (with_reducible apply State.setInd_keep)
    | (with_reducible apply State.setFld_keep)
    | (with_reducible intro _)
    | (extract_lets)
    | split
    | (with_reducible apply Keep.mk; with_reducible first | apply Kept.of | (apply Kept.send; apply Kept.of)))

theorem indRead_keep {x0 x1 x2 x3 x4} (h0 : Keep b s0 x0) : Keep b s0 (indRead x0 x1 x2 x3 x4).2.2 := by
  unfold indRead
  repeat' (first
    | (with_reducible assumption)
    | (with_reducible apply Keep.ite <;> with_reducible intro _)
    | (with_reducible apply drawBytes_keep)
    | (with_reducible apply codewordRead_keep)
    | (with_reducible intro _)
    | (extract_lets)
    | split
    | (with_reducible refine Keep.snd ?_ (by with_reducible assumption))
    | (with_reducible refine Keep.trd ?_ (by with_reducible assumption))
    | (with_reducible apply Keep.ite_fst <;> with_reducible intro _)
    | (with_reducible apply Keep.ite_snd <;> with_reducible intro _)
    | (with_reducible apply Keep.foldl_snd <;> [intro _ _ _; skip])
    | (with_reducible apply Keep.foldl_fst <;> [intro _ _ _; skip])
    | (dsimp +zetaDelta only))

theorem indArrive_keep {x0 x1} (h0 : Keep b s0 x0) : Keep b s0 (indArrive x0 x1) := by
  unfold indArrive
  repeat' (first
    | (with_reducible assumption)
    | (with_reducible apply Keep.ite <;> with_reducible intro _)
    | (with_reducible apply State.setInd_keep)
    | (with_reducible apply State.setFld_keep)
    | (with_reducible intro _)
    | (with_reducible apply Keep.mk; with_reducible first | apply Kept.of | (apply Kept.send; apply Kept.of)))

theorem indPrefetched_keep {x0 x1 x2 x3} (h0 : Keep b s0 x0) : Keep b s0 (indPrefetched x0 x1 x2 x3) := by
  unfold indPrefetched
  repeat' (first
    | (with_reducible assumption)
    | (with_reducible apply Keep.ite <;> with_reducible intro _)
    | (with_reducible apply indCharge_keep)
    | (with_reducible apply indArrive_keep)
    | (with_reducible apply indRead_keep)
    | (with_reducible apply State.setInd_keep)
    | (with_reducible apply indError_keep)
    | (with_reducible intro _)
    | (extract_lets)
    | split
    | (with_reducible refine Keep.snd ?_ (by with_reducible assumption))
    | (with_reducible refine Keep.trd ?_ (by with_reducible assumption))
    | (dsimp +zetaDelta only)
    | (with_reducible apply Keep.mk; with_reducible first | apply Kept.of | (apply Kept.send; apply Kept.of)))

theorem execIndAddrWrite_keep {x0 x1 x2} (h2 : Keep b s0 x2) : KeepR b s0 (execIndAddrWrite x0 x1 x2) := by
  unfold execIndAddrWrite
  repeat' (first
    | (with_reducible assumption)
    | (with_reducible apply KeepR.next)
    | (with_reducible apply KeepR.ite <;> with_reducible intro _)
    | (with_reducible apply Keep.ite <;> with_reducible intro _)
    | (with_reducible apply gateWrite_keep)
    | (with_reducible apply indAddrWrite_keep)
    | (with_reducible intro _))

theorem execIndCtrlWrite_keep {x0 x1 x2} (h2 : Keep b s0 x2) : KeepR b s0 (execIndCtrlWrite x0 x1 x2) := by
  unfold execIndCtrlWrite
  repeat' (first
    | (with_reducible assumption)
    | (with_reducible apply KeepR.next)
    | (with_reducible apply KeepR.ite <;> with_reducible intro _)
    | (with_reducible apply Keep.ite <;> with_reducible intro _)
    | (with_reducible apply gateWrite_keep)
    | (with_reducible apply indCtrlWrite_keep)
    | (with_reducible intro _))

theorem execIndDataWrite_keep {x0 x1 x2} (h2 : Keep b s0 x2) : KeepR b s0 (execIndDataWrite x0 x1 x2) := by
  unfold execIndDataWrite
  repeat' (first
    | (with_reducible assumption)
    | (with_reducible apply KeepR.next)
    | (with_reducible apply KeepR.ite <;> with_reducible intro _)
    | (with_reducible apply Keep.ite <;> with_reducible intro _)
    | (with_reducible apply gateWrite_keep)
    | (with_reducible apply indDataWrite_keep)
    | (with_reducible intro _))

theorem execIndDataRead_keep {x0 x1} (h1 : Keep b s0 x1) : KeepR b s0 (execIndDataRead x0 x1) := by
  unfold execIndDataRead
  repeat' (first
    | (with_reducible assumption)
    | (with_reducible apply KeepR.next)
    | (with_reducible apply KeepR.ite <;> with_reducible intro _)
    | (with_reducible apply Keep.ite <;> with_reducible intro _)
    | (with_reducible apply gateRead_keep)
    | (with_reducible apply indDataRead_keep)
    | (with_reducible intro _))

theorem execIndPrefetchDone_keep {x0 x1 x2} (h2 : Keep b s0 x2) : KeepR b s0 (execIndPrefetchDone x0 x1 x2) := by
  unfold execIndPrefetchDone
  repeat' (first
    | (with_reducible assumption)
    | (with_reducible apply KeepR.next)
    | (with_reducible apply KeepR.ite <;> with_reducible intro _)
    | (with_reducible apply Keep.ite <;> with_reducible intro _)
    | (with_reducible apply indPrefetched_keep)
    | (with_reducible intro _)
    | split
    | (dsimp +zetaDelta only))

theorem execIndWriteAck_keep {x0} (h0 : Keep b s0 x0) : KeepR b s0 (execIndWriteAck x0) := by
  unfold execIndWriteAck
  repeat' (first
    | (with_reducible assumption)
    | (with_reducible apply KeepR.next)
    | (with_reducible apply KeepR.ite <;> with_reducible intro _)
    | (with_reducible apply Keep.ite <;> with_reducible intro _)
    | (with_reducible apply indStore_keep)
    | (with_reducible apply indAdvance_keep)
    | (with_reducible apply State.setInd_keep)
    | (with_reducible apply State.setFld_keep)
    | (with_reducible intro _)
    | (extract_lets)
    | split
    | (dsimp +zetaDelta only)
    | (with_reducible apply Keep.mk; with_reducible first | apply Kept.of | (apply Kept.send; apply Kept.of)))

/-! ### Router -/

theorem gateCtrlWrite_keep {x0 x1 x2 x3 x4} (h0 : Keep b s0 x0) : Keep b s0 (gateCtrlWrite x0 x1 x2 x3 x4) := by
  unfold gateCtrlWrite
  repeat' (first
    | (with_reducible assumption)
    | (with_reducible apply Keep.ite <;> with_reducible intro _)
    | (with_reducible apply writeFields_keep)
    | (with_reducible apply recordErr_keep)
    | (with_reducible apply writeSwitch_keep)
    | (with_reducible apply gatesRefresh_keep)
    | (with_reducible intro _)
    | (extract_lets)
    | split)

theorem writePlatform_keep {x0 x1 x2 x3 x4} (h0 : Keep b s0 x0) : Keep b s0 (writePlatform x0 x1 x2 x3 x4) := by
  unfold writePlatform
  repeat' (first
    | (with_reducible assumption)
    | (with_reducible apply Keep.ite <;> with_reducible intro _)
    | (with_reducible apply sysCtrlWrite_keep)
    | (with_reducible apply lgDataWrite_keep)
    | (with_reducible apply resetCtrlWrite_keep)
    | (with_reducible apply stageCtrlWrite_keep)
    | (with_reducible apply stageDataWrite_keep)
    | (with_reducible apply stageGoWrite_keep)
    | (with_reducible apply rearm_keep)
    | (with_reducible apply fire_keep)
    | (with_reducible apply writeFields_keep)
    | (with_reducible apply plainWrite_keep)
    | (with_reducible intro _)
    | (extract_lets)
    | split)

theorem writeRing_keep {x0 x1 x2 x3 x4 x5 x6} (h0 : Keep b s0 x0) : Keep b s0 (writeRing x0 x1 x2 x3 x4 x5 x6) := by
  unfold writeRing
  repeat' (first
    | (with_reducible assumption)
    | (with_reducible apply Keep.ite <;> with_reducible intro _)
    | (with_reducible apply fire_keep)
    | (with_reducible apply ringCtrlWrite_keep)
    | (with_reducible apply ringConfigWrite_keep)
    | (with_reducible apply tailWrite_keep)
    | (with_reducible apply cqHeadWrite_keep)
    | (with_reducible apply plainWrite_keep)
    | (with_reducible intro _)
    | split
    | (dsimp +zetaDelta only))

theorem writeCmd_keep {x0 x1 x2 x3 x4 x5} (h0 : Keep b s0 x0) : Keep b s0 (writeCmd x0 x1 x2 x3 x4 x5) := by
  unfold writeCmd
  repeat' (first
    | (with_reducible assumption)
    | (with_reducible apply Keep.ite <;> with_reducible intro _)
    | (with_reducible apply writeRing_keep)
    | (with_reducible apply fire_keep)
    | (with_reducible apply plainWrite_keep)
    | (with_reducible apply mbxSubmit_keep)
    | (with_reducible apply evrCtrlWrite_keep)
    | (with_reducible apply evrBaseWrite_keep)
    | (with_reducible apply evrHeadWrite_keep)
    | (with_reducible intro _)
    | split)

theorem writeInd_keep {x0 x1 x2 x3 x4} (h0 : Keep b s0 x0) : Keep b s0 (writeInd x0 x1 x2 x3 x4) := by
  unfold writeInd
  repeat' (first
    | (with_reducible assumption)
    | (with_reducible apply Keep.ite <;> with_reducible intro _)
    | (with_reducible apply indAddrWrite_keep)
    | (with_reducible apply indCtrlWrite_keep)
    | (with_reducible apply indDataWrite_keep)
    | (with_reducible apply plainWrite_keep)
    | (with_reducible intro _)
    | split)

theorem writeLane_keep {x0 x1 x2 x3 x4} (h0 : Keep b s0 x0) : Keep b s0 (writeLane x0 x1 x2 x3 x4) := by
  unfold writeLane
  repeat' (first
    | (with_reducible assumption)
    | (with_reducible apply Keep.ite <;> with_reducible intro _)
    | (with_reducible apply lbbCtrlWrite_keep)
    | (with_reducible apply laneCtrlWrite_keep)
    | (with_reducible apply blankCfgWrite_keep)
    | (with_reducible apply anchorWrite_keep)
    | (with_reducible apply setPins_keep)
    | (with_reducible apply writeFields_keep)
    | (with_reducible apply subchWrite_keep)
    | (with_reducible apply plainWrite_keep)
    | (with_reducible intro _)
    | (extract_lets)
    | split
    | (dsimp +zetaDelta only))

theorem writeMesh_keep {x0 x1 x2 x3 x4} (h0 : Keep b s0 x0) : Keep b s0 (writeMesh x0 x1 x2 x3 x4) := by
  unfold writeMesh
  repeat' (first
    | (with_reducible assumption)
    | (with_reducible apply Keep.ite <;> with_reducible intro _)
    | (with_reducible apply nbrWrite_keep)
    | (with_reducible apply profileWrite_keep)
    | (with_reducible apply acctSelWrite_keep)
    | (with_reducible apply plainWrite_keep)
    | (with_reducible intro _)
    | split)

theorem writeFab_keep {x0 x1 x2 x3 x4 x5} (h0 : Keep b s0 x0) : Keep b s0 (writeFab x0 x1 x2 x3 x4 x5) := by
  unfold writeFab
  repeat' (first
    | (with_reducible assumption)
    | (with_reducible apply Keep.ite <;> with_reducible intro _)
    | (with_reducible apply hrxCtrlWrite_keep)
    | (with_reducible apply hrxConfigWrite_keep)
    | (with_reducible apply plainWrite_keep)
    | (with_reducible intro _)
    | (extract_lets)
    | split
    | (dsimp +zetaDelta only))

theorem writeGcl_keep {x0 x1 x2 x3 x4 x5} (h0 : Keep b s0 x0) : Keep b s0 (writeGcl x0 x1 x2 x3 x4 x5) := by
  unfold writeGcl
  repeat' (first
    | (with_reducible assumption)
    | (with_reducible apply Keep.ite <;> with_reducible intro _)
    | (with_reducible apply winData_keep)
    | (with_reducible apply gateCtrlWrite_keep)
    | (with_reducible apply wideWrite_keep)
    | (with_reducible apply writeFields_keep)
    | (with_reducible apply plainWrite_keep)
    | (with_reducible intro _)
    | (extract_lets)
    | split
    | (dsimp +zetaDelta only))

theorem writePort_keep {x0 x1 x2 x3 x4 x5} (h0 : Keep b s0 x0) : Keep b s0 (writePort x0 x1 x2 x3 x4 x5) := by
  unfold writePort
  repeat' (first
    | (with_reducible assumption)
    | (with_reducible apply Keep.ite <;> with_reducible intro _)
    | (with_reducible apply modeWrite_keep)
    | (with_reducible apply macsecCfgWrite_keep)
    | (with_reducible apply saWrite_keep)
    | (with_reducible apply mdioWrite_keep)
    | (with_reducible apply plainWrite_keep)
    | (with_reducible intro _)
    | (extract_lets)
    | split)

theorem writeDatum_keep {x0 x1 x2 x3 x4 x5} (h0 : Keep b s0 x0) : Keep b s0 (writeDatum x0 x1 x2 x3 x4 x5) := by
  unfold writeDatum
  repeat' (first
    | (with_reducible assumption)
    | (with_reducible apply Keep.ite <;> with_reducible intro _)
    | (with_reducible apply hostLockWrite_keep)
    | (with_reducible apply srcCfgWrite_keep)
    | (with_reducible apply incWrite_keep)
    | (with_reducible apply adjPhaseWrite_keep)
    | (with_reducible apply plainWrite_keep)
    | (with_reducible intro _)
    | split)

theorem writeSupport_keep {x0 x1 x2 x3 x4} (h0 : Keep b s0 x0) : Keep b s0 (writeSupport x0 x1 x2 x3 x4) := by
  unfold writeSupport
  repeat' (first
    | (with_reducible assumption)
    | (with_reducible apply Keep.ite <;> with_reducible intro _)
    | (with_reducible apply gateCheck_keep)
    | (with_reducible apply slotSelWrite_keep)
    | (with_reducible apply jobData_keep)
    | (with_reducible apply jobRegWrite_keep)
    | (with_reducible apply trngCtrlWrite_keep)
    | (with_reducible apply redCtrlWrite_keep)
    | (with_reducible apply budgetWrite_keep)
    | (with_reducible apply fabMaxWrite_keep)
    | (with_reducible apply mgmCtrlWrite_keep)
    | (with_reducible apply plainWrite_keep)
    | (with_reducible intro _)
    | split)

theorem writeWide_keep {x0 x1 x2 x3} (h0 : Keep b s0 x0) : Keep b s0 (writeWide x0 x1 x2 x3) := by
  unfold writeWide
  repeat' (first
    | (with_reducible assumption)
    | (with_reducible apply Keep.ite <;> with_reducible intro _)
    | (with_reducible apply wideWrite_keep)
    | (with_reducible apply writeFields_keep)
    | (with_reducible intro _))

theorem routeWrite_keep {x0 x1 x2 x3 x4} (h0 : Keep b s0 x0) : Keep b s0 (routeWrite x0 x1 x2 x3 x4) := by
  unfold routeWrite
  repeat' (first
    | (with_reducible assumption)
    | (with_reducible apply Keep.ite <;> with_reducible intro _)
    | (with_reducible apply writeWide_keep)
    | (with_reducible apply aonWrite_keep)
    | (with_reducible apply writeCmd_keep)
    | (with_reducible apply writeInd_keep)
    | (with_reducible apply writeFab_keep)
    | (with_reducible apply qwWrite_keep)
    | (with_reducible apply tssWrite_keep)
    | (with_reducible apply writeGcl_keep)
    | (with_reducible apply writePort_keep)
    | (with_reducible apply writeDatum_keep)
    | (with_reducible apply writePlatform_keep)
    | (with_reducible apply writeLane_keep)
    | (with_reducible apply writeMesh_keep)
    | (with_reducible apply writeSupport_keep)
    | (with_reducible intro _)
    | (extract_lets)
    | split
    | (dsimp +zetaDelta only))

theorem aonVia_keep {x0 x1 x2} (h1 : Keep b s0 x1) : Keep b s0 (aonVia x0 x1 x2) := by
  unfold aonVia
  repeat' (first
    | (with_reducible assumption)
    | (with_reducible apply Keep.ite <;> with_reducible intro _)
    | (with_reducible apply State.setPow_keep)
    | (with_reducible intro _)
    | split
    | (with_reducible apply Keep.mk; with_reducible first | apply Kept.of | (apply Kept.send; apply Kept.of)))

theorem aliasWrite_keep {x0 x1 x2 x3} (h0 : Keep b s0 x0) : Keep b s0 (aliasWrite x0 x1 x2 x3) := by
  unfold aliasWrite
  repeat' (first
    | (with_reducible assumption)
    | (with_reducible apply Keep.ite <;> with_reducible intro _)
    | (with_reducible apply aonVia_keep)
    | (with_reducible apply aliasError_keep)
    | (with_reducible apply routeWrite_keep)
    | (with_reducible intro _)
    | (extract_lets)
    | split
    | (dsimp +zetaDelta only)
    | (with_reducible refine Keep.snd ?_ (by with_reducible assumption))
    | (with_reducible refine Keep.trd ?_ (by with_reducible assumption))
    | (with_reducible apply Keep.mk; with_reducible first | apply Kept.of | (apply Kept.send; apply Kept.of)))

theorem softWrite_keep {x0 x1 x2 x3} (h0 : Keep b s0 x0) : Keep b s0 (softWrite x0 x1 x2 x3) := by
  unfold softWrite
  repeat' (first
    | (with_reducible assumption)
    | (with_reducible apply Keep.ite <;> with_reducible intro _)
    | (with_reducible apply aliasWrite_keep)
    | (with_reducible apply routeWrite_keep)
    | (with_reducible intro _)
    | split)

theorem popRead_keep {x0 x1 x2 x3} (h0 : Keep b s0 x0) : Keep b s0 (popRead x0 x1 x2 x3) := by
  unfold popRead
  repeat' (first
    | (with_reducible assumption)
    | (with_reducible apply Keep.ite <;> with_reducible intro _)
    | (with_reducible apply mbxPop_keep)
    | (with_reducible apply qwData_keep)
    | (with_reducible apply qwPop_keep)
    | (with_reducible apply txtsPop_keep)
    | (with_reducible apply ppsTsPop_keep)
    | (with_reducible apply jobResPop_keep)
    | (with_reducible apply rawPop_keep)
    | (with_reducible apply errLogPop_keep)
    | (with_reducible intro _)
    | split
    | (dsimp +zetaDelta only))

theorem routeRead_keep {x0 x1 x2} (h0 : Keep b s0 x0) : Keep b s0 (routeRead x0 x1 x2) := by
  unfold routeRead
  repeat' (first
    | (with_reducible assumption)
    | (with_reducible apply Keep.ite <;> with_reducible intro _)
    | (with_reducible apply State.send_keep)
    | (with_reducible apply popRead_keep)
    | (with_reducible apply readWide_keep)
    | (with_reducible apply indDataRead_keep)
    | (with_reducible apply winData_keep)
    | (with_reducible intro _)
    | (extract_lets)
    | split
    | (with_reducible refine Keep.snd ?_ (by with_reducible assumption))
    | (with_reducible refine Keep.trd ?_ (by with_reducible assumption))
    | (dsimp +zetaDelta only)
    | (with_reducible apply Keep.mk; with_reducible first | apply Kept.of | (apply Kept.send; apply Kept.of)))

theorem execRegWrite_keep {x0 x1 x2 x3 x4} (h4 : Keep b s0 x4) : KeepR b s0 (execRegWrite x0 x1 x2 x3 x4) := by
  unfold execRegWrite
  repeat' (first
    | (with_reducible assumption)
    | (with_reducible apply KeepR.next)
    | (with_reducible apply KeepR.ite <;> with_reducible intro _)
    | (with_reducible apply Keep.ite <;> with_reducible intro _)
    | (with_reducible apply gateWrite_keep)
    | (with_reducible apply softWrite_keep)
    | (with_reducible apply recordErr_keep)
    | (with_reducible intro _)
    | split)

theorem execUndecodedAccess_keep {x0 x1 x2 x3} (h3 : Keep b s0 x3) : KeepR b s0 (execUndecodedAccess x0 x1 x2 x3) := by
  unfold execUndecodedAccess
  repeat' (first
    | (with_reducible assumption)
    | (with_reducible apply KeepR.next)
    | (with_reducible apply KeepR.ite <;> with_reducible intro _)
    | (with_reducible apply Keep.ite <;> with_reducible intro _)
    | (with_reducible apply busError_keep)
    | (with_reducible apply abortRead_keep)
    | (with_reducible intro _)
    | split)

theorem execAliasAccess_keep {x0 x1 x2 x3} (h3 : Keep b s0 x3) : KeepR b s0 (execAliasAccess x0 x1 x2 x3) := by
  unfold execAliasAccess
  repeat' (first
    | (with_reducible assumption)
    | (with_reducible apply KeepR.next)
    | (with_reducible apply KeepR.ite <;> with_reducible intro _)
    | (with_reducible apply Keep.ite <;> with_reducible intro _)
    | (with_reducible apply gateWrite_keep)
    | (with_reducible apply aliasWrite_keep)
    | (with_reducible apply gateRead_keep)
    | (with_reducible apply routeRead_keep)
    | (with_reducible intro _)
    | split
    | (dsimp +zetaDelta only))

theorem execLockWrite_keep {x0 x1 x2 x3} (h3 : Keep b s0 x3) : KeepR b s0 (execLockWrite x0 x1 x2 x3) := by
  unfold execLockWrite
  repeat' (first
    | (with_reducible assumption)
    | (with_reducible apply KeepR.next)
    | (with_reducible apply KeepR.ite <;> with_reducible intro _)
    | (with_reducible apply Keep.ite <;> with_reducible intro _)
    | (with_reducible apply gateWrite_keep)
    | (with_reducible apply routeWrite_keep)
    | (with_reducible intro _))

theorem execErrCapClear_keep {x0 x1 x2 x3} (h3 : Keep b s0 x3) : KeepR b s0 (execErrCapClear x0 x1 x2 x3) := by
  unfold execErrCapClear
  repeat' (first
    | (with_reducible assumption)
    | (with_reducible apply KeepR.next)
    | (with_reducible apply KeepR.ite <;> with_reducible intro _)
    | (with_reducible apply Keep.ite <;> with_reducible intro _)
    | (with_reducible apply gateWrite_keep)
    | (with_reducible apply routeWrite_keep)
    | (with_reducible apply recordErr_keep)
    | (with_reducible intro _)
    | (extract_lets)
    | split
    | (dsimp +zetaDelta only))

theorem execIrqForceWrite_keep {x0 x1 x2 x3} (h3 : Keep b s0 x3) : KeepR b s0 (execIrqForceWrite x0 x1 x2 x3) := by
  unfold execIrqForceWrite
  repeat' (first
    | (with_reducible assumption)
    | (with_reducible apply KeepR.next)
    | (with_reducible apply KeepR.ite <;> with_reducible intro _)
    | (with_reducible apply Keep.ite <;> with_reducible intro _)
    | (with_reducible apply gateWrite_keep)
    | (with_reducible apply routeWrite_keep)
    | (with_reducible intro _))

theorem execWideWordWrite_keep {x0 x1 x2 x3} (h3 : Keep b s0 x3) : KeepR b s0 (execWideWordWrite x0 x1 x2 x3) := by
  unfold execWideWordWrite
  repeat' (first
    | (with_reducible assumption)
    | (with_reducible apply KeepR.next)
    | (with_reducible apply KeepR.ite <;> with_reducible intro _)
    | (with_reducible apply Keep.ite <;> with_reducible intro _)
    | (with_reducible apply gateWrite_keep)
    | (with_reducible apply routeWrite_keep)
    | (with_reducible intro _)
    | split)

theorem execWideLowWordRead_keep {x0 x1 x2} (h2 : Keep b s0 x2) : KeepR b s0 (execWideLowWordRead x0 x1 x2) := by
  unfold execWideLowWordRead
  repeat' (first
    | (with_reducible assumption)
    | (with_reducible apply KeepR.next)
    | (with_reducible apply KeepR.ite <;> with_reducible intro _)
    | (with_reducible apply Keep.ite <;> with_reducible intro _)
    | (with_reducible apply gateRead_keep)
    | (with_reducible apply routeRead_keep)
    | (with_reducible intro _)
    | split)

theorem execPeekRead_keep {x0 x1 x2} (h2 : Keep b s0 x2) : KeepR b s0 (execPeekRead x0 x1 x2) := by
  unfold execPeekRead
  repeat' (first
    | (with_reducible assumption)
    | (with_reducible apply KeepR.next)
    | (with_reducible apply KeepR.ite <;> with_reducible intro _)
    | (with_reducible apply Keep.ite <;> with_reducible intro _)
    | (with_reducible apply gateRead_keep)
    | (with_reducible apply routeRead_keep)
    | (with_reducible intro _)
    | split)

/-! ### Boot -/

theorem State.setBoot_keep {x0 x1} (h0 : Keep b s0 x0) : Keep b s0 (State.setBoot x0 x1) := by
  unfold State.setBoot
  repeat' (first
    | (with_reducible assumption)
    | (with_reducible apply Keep.ite <;> with_reducible intro _)
    | (with_reducible intro _)
    | (with_reducible apply Keep.mk; with_reducible first | apply Kept.of | (apply Kept.send; apply Kept.of)))

theorem pllsLock_keep {x0} (h0 : Keep b s0 x0) : Keep b s0 (pllsLock x0) := by
  unfold pllsLock
  repeat' (first
    | (with_reducible assumption)
    | (with_reducible apply Keep.ite <;> with_reducible intro _)
    | (with_reducible apply State.setBoot_keep)
    | (with_reducible apply State.setFld_keep)
    | (with_reducible intro _)
    | (extract_lets)
    | split
    | (with_reducible apply Keep.mk; with_reducible first | apply Kept.of | (apply Kept.send; apply Kept.of)))

theorem execDatumPllLock_keep {x0} (h0 : Keep b s0 x0) : KeepR b s0 (execDatumPllLock x0) := by
  unfold execDatumPllLock
  repeat' (first
    | (with_reducible assumption)
    | (with_reducible apply KeepR.next)
    | (with_reducible apply KeepR.ite <;> with_reducible intro _)
    | (with_reducible apply Keep.ite <;> with_reducible intro _)
    | (with_reducible apply pllsLock_keep)
    | (with_reducible intro _)
    | split)

theorem seletFinish_keep {x0} (h0 : Keep b s0 x0) : Keep b s0 (seletFinish x0) := by
  unfold seletFinish
  exact Keep.foldl (fun _ _ h => laneOn_keep h) (State.event_keep (State.setFld_keep (State.setBoot_keep h0)))

theorem seletCheck_keep {x0} (h0 : Keep b s0 x0) : Keep b s0 (seletCheck x0) := by
  unfold seletCheck
  repeat' (first
    | (with_reducible assumption)
    | (with_reducible apply Keep.ite <;> with_reducible intro _)
    | (with_reducible apply State.setFld_keep)
    | (with_reducible apply State.setReg_keep)
    | (with_reducible apply State.setBoot_keep)
    | (with_reducible apply seletFinish_keep)
    | (with_reducible intro _)
    | (extract_lets)
    | split
    | (with_reducible apply Keep.mk; with_reducible first | apply Kept.of | (apply Kept.send; apply Kept.of)))

theorem execSeletCheck_keep {x0} (h0 : Keep b s0 x0) : KeepR b s0 (execSeletCheck x0) := by
  unfold execSeletCheck
  repeat' (first
    | (with_reducible assumption)
    | (with_reducible apply KeepR.next)
    | (with_reducible apply KeepR.ite <;> with_reducible intro _)
    | (with_reducible apply Keep.ite <;> with_reducible intro _)
    | (with_reducible apply seletCheck_keep)
    | (with_reducible intro _)
    | split)

theorem seletNext_keep {x0} (h0 : Keep b s0 x0) : Keep b s0 (seletNext x0) := by
  unfold seletNext
  repeat' (first
    | (with_reducible assumption)
    | (with_reducible apply Keep.ite <;> with_reducible intro _)
    | (with_reducible apply State.setBoot_keep)
    | (with_reducible intro _)
    | (with_reducible apply Keep.mk; with_reducible first | apply Kept.of | (apply Kept.send; apply Kept.of)))

theorem seletFail_keep {x0 x1 x2} (h0 : Keep b s0 x0) : Keep b s0 (seletFail x0 x1 x2) := by
  unfold seletFail
  repeat' (first
    | (with_reducible assumption)
    | (with_reducible apply Keep.ite <;> with_reducible intro _)
    | (with_reducible apply State.count_keep)
    | (with_reducible apply State.setFld_keep)
    | (with_reducible apply recordErr_keep)
    | (with_reducible apply seletFinish_keep)
    | (with_reducible apply seletNext_keep)
    | (with_reducible intro _)
    | (extract_lets)
    | split)

theorem seletJudge_keep {x0 x1 x2 x3} (h0 : Keep b s0 x0) (h3 : ∀ a0, Keep b s0 a0 → Keep b s0 (x3 a0)) : Keep b s0 (seletJudge x0 x1 x2 x3) := by
  unfold seletJudge
  repeat' (first
    | (with_reducible assumption)
    | (with_reducible apply Keep.ite <;> with_reducible intro _)
    | (with_reducible apply seletFail_keep)
    | (with_reducible apply seletNext_keep)
    | (with_reducible apply h3)
    | (with_reducible intro _)
    | (extract_lets)
    | split)

theorem seletStore_keep {x0 x1} (h1 : Keep b s0 x1) : Keep b s0 (seletStore x0 x1) := by
  unfold seletStore
  repeat' (first
    | (with_reducible assumption)
    | (with_reducible apply Keep.ite <;> with_reducible intro _)
    | (with_reducible apply aliasWrite_keep)
    | (with_reducible apply routeWrite_keep)
    | (with_reducible intro _)
    | (extract_lets)
    | split)

theorem seletWrite_keep {x0 x1} (h0 : Keep b s0 x0) : Keep b s0 (seletWrite x0 x1) := by
  unfold seletWrite
  repeat' (first
    | (with_reducible assumption)
    | (with_reducible apply Keep.ite <;> with_reducible intro _)
    | (with_reducible apply seletFail_keep)
    | (with_reducible apply busError_keep)
    | (with_reducible apply seletJudge_keep)
    | (with_reducible apply seletStore_keep)
    | (with_reducible intro _)
    | (extract_lets)
    | split)

theorem seletInd_keep {x0 x1} (h0 : Keep b s0 x0) : Keep b s0 (seletInd x0 x1) := by
  unfold seletInd
  repeat' (first
    | (with_reducible assumption)
    | (with_reducible apply Keep.ite <;> with_reducible intro _)
    | (with_reducible apply indOverrun_keep)
    | (with_reducible apply State.setReg_keep)
    | (with_reducible apply indAdvance_keep)
    | (with_reducible apply State.setInd_keep)
    | (with_reducible apply seletFail_keep)
    | (with_reducible apply indError_keep)
    | (with_reducible apply seletNext_keep)
    | (with_reducible apply seletJudge_keep)
    | (with_reducible apply indStore_keep)
    | (with_reducible intro _)
    | (extract_lets)
    | split
    | (dsimp +zetaDelta only)
    | (with_reducible apply Keep.mk; with_reducible first | apply Kept.of | (apply Kept.send; apply Kept.of)))

theorem seletApply_keep {x0} (h0 : Keep b s0 x0) : Keep b s0 (seletApply x0) := by
  unfold seletApply
  repeat' (first
    | (with_reducible assumption)
    | (with_reducible apply Keep.ite <;> with_reducible intro _)
    | (with_reducible apply seletWrite_keep)
    | (with_reducible apply State.setBoot_keep)
    | (with_reducible apply seletFail_keep)
    | (with_reducible apply busError_keep)
    | (with_reducible apply seletInd_keep)
    | (with_reducible apply seletFinish_keep)
    | (with_reducible intro _)
    | (extract_lets)
    | split
    | (dsimp +zetaDelta only)
    | (with_reducible apply Keep.mk; with_reducible first | apply Kept.of | (apply Kept.send; apply Kept.of)))

theorem execSeletRecordApply_keep {x0} (h0 : Keep b s0 x0) : KeepR b s0 (execSeletRecordApply x0) := by
  unfold execSeletRecordApply
  repeat' (first
    | (with_reducible assumption)
    | (with_reducible apply KeepR.next)
    | (with_reducible apply KeepR.ite <;> with_reducible intro _)
    | (with_reducible apply Keep.ite <;> with_reducible intro _)
    | (with_reducible apply seletApply_keep)
    | (with_reducible intro _)
    | split)

theorem execSeletPollMatch_keep {x0} (h0 : Keep b s0 x0) : KeepR b s0 (execSeletPollMatch x0) := by
  unfold execSeletPollMatch
  repeat' (first
    | (with_reducible assumption)
    | (with_reducible apply KeepR.next)
    | (with_reducible apply KeepR.ite <;> with_reducible intro _)
    | (with_reducible apply Keep.ite <;> with_reducible intro _)
    | (with_reducible apply seletNext_keep)
    | (with_reducible intro _)
    | split)

theorem execSeletPollTimeout_keep {x0} (h0 : Keep b s0 x0) : KeepR b s0 (execSeletPollTimeout x0) := by
  unfold execSeletPollTimeout
  repeat' (first
    | (with_reducible assumption)
    | (with_reducible apply KeepR.next)
    | (with_reducible apply KeepR.ite <;> with_reducible intro _)
    | (with_reducible apply Keep.ite <;> with_reducible intro _)
    | (with_reducible apply seletFail_keep)
    | (with_reducible intro _)
    | split)

theorem execSeletDelayExpiry_keep {x0} (h0 : Keep b s0 x0) : KeepR b s0 (execSeletDelayExpiry x0) := by
  unfold execSeletDelayExpiry
  repeat' (first
    | (with_reducible assumption)
    | (with_reducible apply KeepR.next)
    | (with_reducible apply KeepR.ite <;> with_reducible intro _)
    | (with_reducible apply Keep.ite <;> with_reducible intro _)
    | (with_reducible apply seletNext_keep)
    | (with_reducible intro _)
    | split)

theorem writeHeld_keep {x0} (h0 : Keep b s0 x0) : Keep b s0 (writeHeld x0) := by
  unfold writeHeld
  repeat' (first
    | (with_reducible assumption)
    | (with_reducible apply Keep.ite <;> with_reducible intro _)
    | (with_reducible apply flushEvents_keep)
    | (with_reducible intro _))

theorem searchBegins_keep {x0} (h0 : Keep b s0 x0) : Keep b s0 (searchBegins x0) := by
  unfold searchBegins
  repeat' (first
    | (with_reducible assumption)
    | (with_reducible apply Keep.ite <;> with_reducible intro _)
    | (with_reducible apply State.setBoot_keep)
    | (with_reducible apply hostTurn_keep)
    | (with_reducible intro _)
    | split
    | (extract_lets)
    | (dsimp +zetaDelta only)
    | (with_reducible apply Keep.mk; with_reducible first | apply Kept.of | (apply Kept.send; apply Kept.of)))

theorem execDramInitDone_keep {x0} (h0 : Keep b s0 x0) : KeepR b s0 (execDramInitDone x0) := by
  unfold execDramInitDone
  repeat' (first
    | (with_reducible assumption)
    | (with_reducible apply KeepR.next)
    | (with_reducible apply KeepR.ite <;> with_reducible intro _)
    | (with_reducible apply Keep.ite <;> with_reducible intro _)
    | (with_reducible apply State.setFld_keep)
    | (with_reducible apply State.setBoot_keep)
    | (with_reducible apply searchBegins_keep)
    | (with_reducible apply writeHeld_keep)
    | (with_reducible intro _)
    | (extract_lets)
    | split
    | (with_reducible apply Keep.mk; with_reducible first | apply Kept.of | (apply Kept.send; apply Kept.of)))

theorem bootMarch_keep {x0 x1} (h0 : Keep b s0 x0) : Keep b s0 (bootMarch x0 x1) := by
  unfold bootMarch
  repeat' (first
    | (with_reducible assumption)
    | (with_reducible apply Keep.ite <;> with_reducible intro _)
    | (with_reducible apply testResult_keep)
    | (with_reducible apply State.setBoot_keep)
    | (with_reducible apply State.ramClear_keep)
    | (with_reducible apply State.setFld_keep)
    | (with_reducible apply State.event_keep)
    | (with_reducible apply searchBegins_keep)
    | (with_reducible apply writeHeld_keep)
    | (with_reducible apply setCause_keep)
    | (with_reducible intro _)
    | (extract_lets)
    | split
    | (with_reducible apply Keep.mk; with_reducible first | apply Kept.of | (apply Kept.send; apply Kept.of)))

theorem execBootDramMarchDone_keep {x0 x1} (h1 : Keep b s0 x1) : KeepR b s0 (execBootDramMarchDone x0 x1) := by
  unfold execBootDramMarchDone
  repeat' (first
    | (with_reducible assumption)
    | (with_reducible apply KeepR.next)
    | (with_reducible apply KeepR.ite <;> with_reducible intro _)
    | (with_reducible apply Keep.ite <;> with_reducible intro _)
    | (with_reducible apply bootMarch_keep)
    | (with_reducible intro _)
    | split)

theorem watchLost_keep {x0 x1} (h0 : Keep b s0 x0) : Keep b s0 (watchLost x0 x1) := by
  unfold watchLost
  repeat' (first
    | (with_reducible assumption)
    | (with_reducible apply Keep.ite <;> with_reducible intro _)
    | (with_reducible apply drawNat_keep)
    | (with_reducible apply codewordLost_keep)
    | (with_reducible intro _)
    | (extract_lets)
    | split
    | (with_reducible refine Keep.snd ?_ (by with_reducible assumption))
    | (with_reducible refine Keep.trd ?_ (by with_reducible assumption)))

theorem execWatchDramScrubDone_keep {x0 x1} (h1 : Keep b s0 x1) : KeepR b s0 (execWatchDramScrubDone x0 x1) := by
  unfold execWatchDramScrubDone
  repeat' (first
    | (with_reducible assumption)
    | (with_reducible apply KeepR.next)
    | (with_reducible apply KeepR.ite <;> with_reducible intro _)
    | (with_reducible apply Keep.ite <;> with_reducible intro _)
    | (with_reducible apply watchLost_keep)
    | (with_reducible apply searchBegins_keep)
    | (with_reducible apply State.setBoot_keep)
    | (with_reducible apply Keep.foldl <;> [intro _ _ _; skip])
    | (with_reducible intro _)
    | (extract_lets)
    | split
    | (with_reducible apply Keep.mk; with_reducible first | apply Kept.of | (apply Kept.send; apply Kept.of)))

theorem qspiCheck_keep {x0 x1 x2} (h0 : Keep b s0 x0) : Keep b s0 (qspiCheck x0 x1 x2) := by
  unfold qspiCheck
  repeat' (first
    | (with_reducible assumption)
    | (with_reducible apply Keep.ite <;> with_reducible intro _)
    | (with_reducible apply State.setBoot_keep)
    | (with_reducible apply State.setFld_keep)
    | (with_reducible apply loadBundle_keep)
    | (with_reducible apply hostTurn_keep)
    | (with_reducible apply noBundle_keep)
    | (with_reducible intro _)
    | (extract_lets)
    | split
    | (with_reducible apply Keep.mk; with_reducible first | apply Kept.of | (apply Kept.send; apply Kept.of)))

theorem execFwBundleCheck_keep {x0 x1 x2} (h2 : Keep b s0 x2) : KeepR b s0 (execFwBundleCheck x0 x1 x2) := by
  unfold execFwBundleCheck
  repeat' (first
    | (with_reducible assumption)
    | (with_reducible apply KeepR.next)
    | (with_reducible apply KeepR.ite <;> with_reducible intro _)
    | (with_reducible apply Keep.ite <;> with_reducible intro _)
    | (with_reducible apply qspiCheck_keep)
    | (with_reducible intro _)
    | split)

theorem execHostBundleWaitExpiry_keep {x0} (h0 : Keep b s0 x0) : KeepR b s0 (execHostBundleWaitExpiry x0) := by
  unfold execHostBundleWaitExpiry
  repeat' (first
    | (with_reducible assumption)
    | (with_reducible apply KeepR.next)
    | (with_reducible apply KeepR.ite <;> with_reducible intro _)
    | (with_reducible apply Keep.ite <;> with_reducible intro _)
    | (with_reducible apply noBundle_keep)
    | (with_reducible intro _)
    | split)

theorem raiseFloors_keep {x0} (h0 : Keep b s0 x0) : Keep b s0 (raiseFloors x0) := by
  unfold raiseFloors
  extract_lets selet fw s
  refine State.setReg_keep (State.setReg_keep (Keep.mk { Kept.of h0 with seletFloor := ?_, fwFloor := ?_ }))
  · refine le_trans h0.seletFloor ?_
    show x0.nv.seletFloor ≤ selet
    unfold selet
    split
    · exact le_rfl
    · exact le_max_left _ _
  · exact le_trans h0.fwFloor (le_max_left _ _)

theorem bootEnds_keep {x0 x1} (h0 : Keep b s0 x0) : Keep b s0 (bootEnds x0 x1) := by
  unfold bootEnds
  extract_lets r s1 s2 q d s3 s4
  have h1 : Keep b s0 s1 := Keep.ite (fun _ => raiseFloors_keep h0) (fun _ => h0)
  have h2 : Keep b s0 s2 := State.event_keep h1
  have h3 : Keep b s0 s3 := Keep.congr (State.setFld_keep (x1 := F.SYS_STATUS_DEV_STATE) (x2 := r.1) h2) rfl rfl rfl rfl rfl rfl rfl rfl rfl
  refine Keep.ite (fun _ => mainsCheck_keep h3) (fun _ => mainsCheck_keep ?_)
  have h4 : Keep b s0 s4 := Keep.foldl (fun _ _ h => setPins_keep h) (macStart_keep (State.setFld_keep h3))
  exact Keep.ite (fun _ => redStart_keep h4) (fun _ => h4)

theorem execBootDone_keep {x0 x1} (h1 : Keep b s0 x1) : KeepR b s0 (execBootDone x0 x1) := by
  unfold execBootDone
  repeat' (first
    | (with_reducible assumption)
    | (with_reducible apply KeepR.next)
    | (with_reducible apply KeepR.ite <;> with_reducible intro _)
    | (with_reducible apply Keep.ite <;> with_reducible intro _)
    | (with_reducible apply bootEnds_keep)
    | (with_reducible intro _)
    | split)

/-! ### Spi -/

theorem spiWord_keep {x0 x1} (h0 : Keep b s0 x0) : Keep b s0 (spiWord x0 x1).2 := by
  have h : Keep b s0 (gateRead x0 .spi x1 (fun s => routeRead s .spi x1)) := gateRead_keep h0 (fun _ h => routeRead_keep h)
  exact Keep.mk { Kept.of h with out := (Kept.out h0).trans (List.prefix_append _ _) }

theorem spiRest_keep {x0 x1 x2 x3} (h3 : Keep b s0 x3) : Keep b s0 (spiRest x0 x1 x2 x3).2 := by
  induction x1 generalizing x2 x3 with
  | zero => exact h3
  | succ n ih => exact ih (spiWord_keep h3)

theorem spiEnd_keep {x0 x1 x2} (h0 : Keep b s0 x0) : Keep b s0 (spiEnd x0 x1 x2) := by
  unfold spiEnd
  repeat' (first
    | (with_reducible assumption)
    | (with_reducible apply Keep.ite <;> with_reducible intro _)
    | (with_reducible apply State.send_keep)
    | (with_reducible intro _)
    | (extract_lets)
    | split
    | (with_reducible apply Keep.mk; with_reducible first | apply Kept.of | (apply Kept.send; apply Kept.of)))

theorem spiReads_keep {x0 x1 x2} (h0 : Keep b s0 x0) : Keep b s0 (spiReads x0 x1 x2) := by
  unfold spiReads
  repeat' (first
    | (with_reducible assumption)
    | (with_reducible apply Keep.ite <;> with_reducible intro _)
    | (with_reducible apply spiWord_keep)
    | (with_reducible apply spiRest_keep)
    | (with_reducible apply spiEnd_keep)
    | (with_reducible intro _)
    | (extract_lets)
    | (with_reducible refine Keep.snd ?_ (by with_reducible assumption))
    | (with_reducible refine Keep.trd ?_ (by with_reducible assumption)))

theorem spiStore_keep {x0 x1 x2} (h0 : Keep b s0 x0) : Keep b s0 (spiStore x0 x1 x2) := by
  unfold spiStore
  repeat' (first
    | (with_reducible assumption)
    | (with_reducible apply Keep.ite <;> with_reducible intro _)
    | (with_reducible apply gateWrite_keep)
    | (with_reducible apply softWrite_keep)
    | (with_reducible intro _))

theorem spiStores_keep {x0 x1 x2 x3} (h3 : Keep b s0 x3.1) : Keep b s0 (spiStores x0 x1 x2 x3).1 := by
  induction x1 generalizing x2 x3 with
  | nil => exact h3
  | cons w t ih => exact ih (spiStore_keep h3)

theorem spiWrites_keep {x0 x1 x2} (h0 : Keep b s0 x0) : Keep b s0 (spiWrites x0 x1 x2) := by
  unfold spiWrites
  repeat' (first
    | (with_reducible assumption)
    | (with_reducible apply Keep.ite <;> with_reducible intro _)
    | (with_reducible apply spiStores_keep)
    | (with_reducible apply spiEnd_keep)
    | (with_reducible intro _)
    | (extract_lets)
    | (with_reducible refine Keep.snd ?_ (by with_reducible assumption))
    | (with_reducible refine Keep.trd ?_ (by with_reducible assumption)))

theorem spiCut_keep {x0 x1 x2} (h0 : Keep b s0 x0) : Keep b s0 (spiBroken.spiCut x0 x1 x2).2 := by
  unfold spiBroken.spiCut
  exact spiRest_keep (spiWord_keep h0)

theorem spiBroken_keep {x0 x1 x2 x3} (h0 : Keep b s0 x0) : Keep b s0 (spiBroken x0 x1 x2 x3).2 := by
  unfold spiBroken
  split
  · exact spiStores_keep h0
  · exact spiStores_keep h0
  · exact Keep.ite_snd (fun _ => spiCut_keep h0) (fun _ => h0)
  · exact Keep.ite_snd (fun _ => h0) (fun _ => spiCut_keep h0)
  · exact h0

theorem spiMalformed_keep {x0 x1 x2 x3} (h0 : Keep b s0 x0) : Keep b s0 (spiMalformed x0 x1 x2 x3) := by
  unfold spiMalformed
  repeat' (first
    | (with_reducible assumption)
    | (with_reducible apply Keep.ite <;> with_reducible intro _)
    | (with_reducible apply spiBroken_keep)
    | (with_reducible apply spiEnd_keep)
    | (with_reducible apply recordErr_keep)
    | (with_reducible intro _)
    | (extract_lets)
    | split
    | (with_reducible refine Keep.snd ?_ (by with_reducible assumption))
    | (with_reducible refine Keep.trd ?_ (by with_reducible assumption))
    | (dsimp +zetaDelta only))

theorem execSpiWrite_keep {x0 x1 x2} (h2 : Keep b s0 x2) : KeepR b s0 (execSpiWrite x0 x1 x2) := by
  unfold execSpiWrite
  repeat' (first
    | (with_reducible assumption)
    | (with_reducible apply KeepR.next)
    | (with_reducible apply KeepR.ite <;> with_reducible intro _)
    | (with_reducible apply Keep.ite <;> with_reducible intro _)
    | (with_reducible apply spiWrites_keep)
    | (with_reducible intro _)
    | split)

theorem execSpiRead_keep {x0 x1} (h1 : Keep b s0 x1) : KeepR b s0 (execSpiRead x0 x1) := by
  unfold execSpiRead
  repeat' (first
    | (with_reducible assumption)
    | (with_reducible apply KeepR.next)
    | (with_reducible apply KeepR.ite <;> with_reducible intro _)
    | (with_reducible apply Keep.ite <;> with_reducible intro _)
    | (with_reducible apply spiReads_keep)
    | (with_reducible intro _)
    | split)

theorem execSpiWriteInc_keep {x0 x1 x2} (h2 : Keep b s0 x2) : KeepR b s0 (execSpiWriteInc x0 x1 x2) := by
  unfold execSpiWriteInc
  repeat' (first
    | (with_reducible assumption)
    | (with_reducible apply KeepR.next)
    | (with_reducible apply KeepR.ite <;> with_reducible intro _)
    | (with_reducible apply Keep.ite <;> with_reducible intro _)
    | (with_reducible apply spiMalformed_keep)
    | (with_reducible apply spiWrites_keep)
    | (with_reducible intro _)
    | split)

theorem execSpiReadInc_keep {x0 x1 x2} (h2 : Keep b s0 x2) : KeepR b s0 (execSpiReadInc x0 x1 x2) := by
  unfold execSpiReadInc
  repeat' (first
    | (with_reducible assumption)
    | (with_reducible apply KeepR.next)
    | (with_reducible apply KeepR.ite <;> with_reducible intro _)
    | (with_reducible apply Keep.ite <;> with_reducible intro _)
    | (with_reducible apply spiMalformed_keep)
    | (with_reducible apply spiReads_keep)
    | (with_reducible intro _)
    | split)

theorem execSpiMalformedFrame_keep {x0 x1 x2 x3} (h3 : Keep b s0 x3) : KeepR b s0 (execSpiMalformedFrame x0 x1 x2 x3) := by
  unfold execSpiMalformedFrame
  repeat' (first
    | (with_reducible assumption)
    | (with_reducible apply KeepR.next)
    | (with_reducible apply KeepR.ite <;> with_reducible intro _)
    | (with_reducible apply Keep.ite <;> with_reducible intro _)
    | (with_reducible apply spiMalformed_keep)
    | (with_reducible intro _)
    | split)

/-! ### Dispatch -/

/-- What every command keeps. -/
theorem exec_keep {c : Instr} {s : State} (hc : c ≠ .powerOnReset ∨ b = false) (h : Keep b s0 s) : KeepR b s0 (exec c s) := by
  cases c with
  | regWrite => exact execRegWrite_keep h
  | undecodedAccess => exact execUndecodedAccess_keep h
  | aliasAccess => exact execAliasAccess_keep h
  | lockWrite => exact execLockWrite_keep h
  | errCapClear => exact execErrCapClear_keep h
  | irqForceWrite => exact execIrqForceWrite_keep h
  | wideWordWrite => exact execWideWordWrite_keep h
  | wideLowWordRead => exact execWideLowWordRead_keep h
  | peekRead => exact execPeekRead_keep h
  | indAddrWrite => exact execIndAddrWrite_keep h
  | indCtrlWrite => exact execIndCtrlWrite_keep h
  | indDataWrite => exact execIndDataWrite_keep h
  | indDataRead => exact execIndDataRead_keep h
  | indPrefetchDone => exact execIndPrefetchDone_keep h
  | indWriteAck => exact execIndWriteAck_keep h
  | powerOnReset =>
    rcases hc with hc | rfl
    · exact absurd rfl hc
    · exact execPowerOnReset_keep h
  | pinReset => exact execPinReset_keep h
  | resetCtrlWrite => exact execResetCtrlWrite_keep h
  | softwareReset => exact execSoftwareReset_keep h
  | jtagReset => exact execJtagReset_keep h
  | brownOut => exact execBrownOut_keep h
  | sysWatchdogExpiry => exact execSysWatchdogExpiry_keep h
  | resetRelease => exact execResetRelease_keep h
  | datumPllLock => exact execDatumPllLock_keep h
  | seletCheck => exact execSeletCheck_keep h
  | seletRecordApply => exact execSeletRecordApply_keep h
  | seletPollMatch => exact execSeletPollMatch_keep h
  | seletPollTimeout => exact execSeletPollTimeout_keep h
  | seletDelayExpiry => exact execSeletDelayExpiry_keep h
  | dramInitDone => exact execDramInitDone_keep h
  | bootDramMarchDone => exact execBootDramMarchDone_keep h
  | watchDramScrubDone => exact execWatchDramScrubDone_keep h
  | fwBundleCheck => exact execFwBundleCheck_keep h
  | hostBundleWaitExpiry => exact execHostBundleWaitExpiry_keep h
  | keyStoreLoad => exact execKeyStoreLoad_keep h
  | trngStartupDone => exact execTrngStartupDone_keep h
  | bootDone => exact execBootDone_keep h
  | stageTargetWrite => exact execStageTargetWrite_keep h
  | stageClear => exact execStageClear_keep h
  | stageDataWrite => exact execStageDataWrite_keep h
  | seletImageWrite => exact execSeletImageWrite_keep h
  | hostBundleStage => exact execHostBundleStage_keep h
  | keyHashProgram => exact execKeyHashProgram_keep h
  | stageOpDone => exact execStageOpDone_keep h
  | perstNAssert => exact execPerstNAssert_keep h
  | perstNRelease => exact execPerstNRelease_keep h
  | functionLevelReset => exact execFunctionLevelReset_keep h
  | busMasterEnableWrite => exact execBusMasterEnableWrite_keep h
  | pcieLinkChange => exact execPcieLinkChange_keep h
  | poisonedWrite => exact execPoisonedWrite_keep h
  | spiWrite => exact execSpiWrite_keep h
  | spiRead => exact execSpiRead_keep h
  | spiWriteInc => exact execSpiWriteInc_keep h
  | spiReadInc => exact execSpiReadInc_keep h
  | spiMalformedFrame => exact execSpiMalformedFrame_keep h
  | ringEnableWrite => exact execRingEnableWrite_keep h
  | ringReset => exact execRingReset_keep h
  | ringResetEffect => exact execRingResetEffect_keep h
  | ringStoppingEnd => exact execRingStoppingEnd_keep h
  | ringConfigWrite => exact execRingConfigWrite_keep h
  | sqTailDoorbell => exact execSqTailDoorbell_keep h
  | cqHeadWrite => exact execCqHeadWrite_keep h
  | descFetchDone => exact execDescFetchDone_keep h
  | descriptorTake => exact execDescriptorTake_keep h
  | cmdDataReadDone => exact execCmdDataReadDone_keep h
  | completionWrite => exact execCompletionWrite_keep h
  | commandTimeout => exact execCommandTimeout_keep h
  | mbxSubmit => exact execMbxSubmit_keep h
  | mbxDescCopy => exact execMbxDescCopy_keep h
  | mbxCplPop => exact execMbxCplPop_keep h
  | vecRearmWrite => exact execVecRearmWrite_keep h
  | coalTimerExpiry => exact execCoalTimerExpiry_keep h
  | eventRecordWrite => exact execEventRecordWrite_keep h
  | evrBreakWrite => exact execEvrBreakWrite_keep h
  | evrHeadWrite => exact execEvrHeadWrite_keep h
  | evrEnableWrite => exact execEvrEnableWrite_keep h
  | benchmark => exact execBenchmark_keep h
  | maintEnter => exact execMaintEnter_keep h
  | maintEnterDone => exact execMaintEnterDone_keep h
  | maintExit => exact execMaintExit_keep h
  | watchEnter => exact execWatchEnter_keep h
  | bistRun => exact execBistRun_keep h
  | roleSwap => exact execRoleSwap_keep h
  | nodeAdd => exact execNodeAdd_keep h
  | nodeRemove => exact execNodeRemove_keep h
  | nodeRead => exact execNodeRead_keep h
  | dlSend => exact execDlSend_keep h
  | wakeSend => exact execWakeSend_keep h
  | laneCal => exact execLaneCal_keep h
  | frameInject => exact execFrameInject_keep h
  | queueFlush => exact execQueueFlush_keep h
  | queueBreakAck => exact execQueueBreakAck_keep h
  | keyReplace => exact execKeyReplace_keep h
  | keyZeroise => exact execKeyZeroise_keep h
  | updImageLoad => exact execUpdImageLoad_keep h
  | updSessionStart => exact execUpdSessionStart_keep h
  | updSessionStop => exact execUpdSessionStop_keep h
  | updSessionReport => exact execUpdSessionReport_keep h
  | datumStep => exact execDatumStep_keep h
  | engineRestart => exact execEngineRestart_keep h
  | engineRestartDone => exact execEngineRestartDone_keep h
  | laneEnableWrite => exact execLaneEnableWrite_keep h
  | laneStandbyReady => exact execLaneStandbyReady_keep h
  | startupCalKindDone => exact execStartupCalKindDone_keep h
  | startupCalAbandon => exact execStartupCalAbandon_keep h
  | synthLockDone => exact execSynthLockDone_keep h
  | lockFail => exact execLockFail_keep h
  | coldCalDone => exact execColdCalDone_keep h
  | anchorDue => exact execAnchorDue_keep h
  | anchorOverdue => exact execAnchorOverdue_keep h
  | bgSliceStart => exact execBgSliceStart_keep h
  | bgSliceDone => exact execBgSliceDone_keep h
  | laneCalStepStart => exact execLaneCalStepStart_keep h
  | laneCalStepDone => exact execLaneCalStepDone_keep h
  | txChannelCheck => exact execTxChannelCheck_keep h
  | txRequest => exact execTxRequest_keep h
  | txTurnaroundStart => exact execTxTurnaroundStart_keep h
  | txEnd => exact execTxEnd_keep h
  | txLate => exact execTxLate_keep h
  | adcClip => exact execAdcClip_keep h
  | agcWindow => exact execAgcWindow_keep h
  | rfBlankAssert => exact execRfBlankAssert_keep h
  | rfBlankRelease => exact execRfBlankRelease_keep h
  | detection => exact execDetection_keep h
  | contextAssign => exact execContextAssign_keep h
  | syncWordFound => exact execSyncWordFound_keep h
  | syncMiss => exact execSyncMiss_keep h
  | headerDecide => exact execHeaderDecide_keep h
  | cssPayloadEnd => exact execCssPayloadEnd_keep h
  | lbbRxEnWrite => exact execLbbRxEnWrite_keep h
  | ofdmFcDecode => exact execOfdmFcDecode_keep h
  | ofdmRxEnd => exact execOfdmRxEnd_keep h
  | measTimeout => exact execMeasTimeout_keep h
  | retireTimeout => exact execRetireTimeout_keep h
  | toneMapRx => exact execToneMapRx_keep h
  | toneMapAckRx => exact execToneMapAckRx_keep h
  | superframeStart => exact execSuperframeStart_keep h
  | slotOccurrenceStart => exact execSlotOccurrenceStart_keep h
  | slotOccurrenceEnd => exact execSlotOccurrenceEnd_keep h
  | rendezvousHoldExpiry => exact execRendezvousHoldExpiry_keep h
  | ackSend => exact execAckSend_keep h
  | dlAttempt => exact execDlAttempt_keep h
  | ackReceive => exact execAckReceive_keep h
  | responseWindowClose => exact execResponseWindowClose_keep h
  | wakeAttempt => exact execWakeAttempt_keep h
  | wakeAnswerRx => exact execWakeAnswerRx_keep h
  | wakeRetryTimer => exact execWakeRetryTimer_keep h
  | joinReqRx => exact execJoinReqRx_keep h
  | joinAcceptTx => exact execJoinAcceptTx_keep h
  | joinHoldExpiry => exact execJoinHoldExpiry_keep h
  | mgmtRx => exact execMgmtRx_keep h
  | nbrEnWrite => exact execNbrEnWrite_keep h
  | nbrBeaconRx => exact execNbrBeaconRx_keep h
  | nbrWatchEnd => exact execNbrWatchEnd_keep h
  | nbrHoldExpiry => exact execNbrHoldExpiry_keep h
  | grantRequest => exact execGrantRequest_keep h
  | lbtSenseEnd => exact execLbtSenseEnd_keep h
  | rglBucketBoundary => exact execRglBucketBoundary_keep h
  | profileWrite => exact execProfileWrite_keep h
  | profilePrepare => exact execProfilePrepare_keep h
  | acctSelWrite => exact execAcctSelWrite_keep h
  | uplinkVerdict => exact execUplinkVerdict_keep h
  | pendingSessionExpiry => exact execPendingSessionExpiry_keep h
  | childReportRx => exact execChildReportRx_keep h
  | targetSelect => exact execTargetSelect_keep h
  | mcastPosition => exact execMcastPosition_keep h
  | reportGapEnd => exact execReportGapEnd_keep h
  | updStatusRx => exact execUpdStatusRx_keep h
  | sessionDeadline => exact execSessionDeadline_keep h
  | itemAdmit => exact execItemAdmit_keep h
  | itemCommit => exact execItemCommit_keep h
  | queueFaultResetEnd => exact execQueueFaultResetEnd_keep h
  | cellSweepDone => exact execCellSweepDone_keep h
  | egressSelect => exact execEgressSelect_keep h
  | hrxItemWrite => exact execHrxItemWrite_keep h
  | hrxEnableWrite => exact execHrxEnableWrite_keep h
  | hrxReset => exact execHrxReset_keep h
  | hrxHeadWrite => exact execHrxHeadWrite_keep h
  | qwSelWrite => exact execQwSelWrite_keep h
  | qwQcfgWrite => exact execQwQcfgWrite_keep h
  | qwPopRead => exact execQwPopRead_keep h
  | qwDataRead => exact execQwDataRead_keep h
  | tssRefill => exact execTssRefill_keep h
  | radioShaperTick => exact execRadioShaperTick_keep h
  | sampleInstant => exact execSampleInstant_keep h
  | stSnap => exact execStSnap_keep h
  | stSnapDone => exact execStSnapDone_keep h
  | stClear => exact execStClear_keep h
  | gclSwitch => exact execGclSwitch_keep h
  | gclSwitchInstant => exact execGclSwitchInstant_keep h
  | gateEntryAdvance => exact execGateEntryAdvance_keep h
  | gclWinDataAccess => exact execGclWinDataAccess_keep h
  | ethLinkChange => exact execEthLinkChange_keep h
  | ethModeWrite => exact execEthModeWrite_keep h
  | ethRxFrame => exact execEthRxFrame_keep h
  | pauseExpiry => exact execPauseExpiry_keep h
  | pauseWdogFire => exact execPauseWdogFire_keep h
  | pauseHoldEnd => exact execPauseHoldEnd_keep h
  | pauseTxRepeat => exact execPauseTxRepeat_keep h
  | ethTxBegin => exact execEthTxBegin_keep h
  | lpiEnter => exact execLpiEnter_keep h
  | lpiWakeDone => exact execLpiWakeDone_keep h
  | saCfgWrite => exact execSaCfgWrite_keep h
  | tunnelEncap => exact execTunnelEncap_keep h
  | tunnelDecap => exact execTunnelDecap_keep h
  | mdioGo => exact execMdioGo_keep h
  | mdioDone => exact execMdioDone_keep h
  | txtsPop => exact execTxtsPop_keep h
  | dtmTimeSnapshot => exact execDtmTimeSnapshot_keep h
  | incWrite => exact execIncWrite_keep h
  | adjPhaseWrite => exact execAdjPhaseWrite_keep h
  | slewDone => exact execSlewDone_keep h
  | srcCfgWrite => exact execSrcCfgWrite_keep h
  | hostLockWrite => exact execHostLockWrite_keep h
  | ptpSyncRx => exact execPtpSyncRx_keep h
  | ptpAnnounceRx => exact execPtpAnnounceRx_keep h
  | ptpDelayRespRx => exact execPtpDelayRespRx_keep h
  | ptpPdelayReqRx => exact execPtpPdelayReqRx_keep h
  | ptpDelayReqTx => exact execPtpDelayReqTx_keep h
  | ptpMasterLoss => exact execPtpMasterLoss_keep h
  | holdoverExpiry => exact execHoldoverExpiry_keep h
  | ppsInEdge => exact execPpsInEdge_keep h
  | ppsSourceLoss => exact execPpsSourceLoss_keep h
  | ppsOutStart => exact execPpsOutStart_keep h
  | ppsOutEnd => exact execPpsOutEnd_keep h
  | ppsTsPop => exact execPpsTsPop_keep h
  | ccmRequest => exact execCcmRequest_keep h
  | gcmRequest => exact execGcmRequest_keep h
  | gcmSaturated => exact execGcmSaturated_keep h
  | keySweep => exact execKeySweep_keep h
  | keyWorkingReload => exact execKeyWorkingReload_keep h
  | slotSelWrite => exact execSlotSelWrite_keep h
  | jobSha256 => exact execJobSha256_keep h
  | jobEcdsaVerify => exact execJobEcdsaVerify_keep h
  | jobEcdsaSign => exact execJobEcdsaSign_keep h
  | jobIdPub => exact execJobIdPub_keep h
  | jobKeyAgree => exact execJobKeyAgree_keep h
  | jobRandom => exact execJobRandom_keep h
  | jobDataWrite => exact execJobDataWrite_keep h
  | jobDone => exact execJobDone_keep h
  | jobResPop => exact execJobResPop_keep h
  | trngSeedCollect => exact execTrngSeedCollect_keep h
  | drbgReseedTimer => exact execDrbgReseedTimer_keep h
  | trngReseed => exact execTrngReseed_keep h
  | trngRawPop => exact execTrngRawPop_keep h
  | tamperDetect => exact execTamperDetect_keep h
  | zotOverwriteDone => exact execZotOverwriteDone_keep h
  | scrubRead => exact execScrubRead_keep h
  | scrubLate => exact execScrubLate_keep h
  | sramSweep => exact execSramSweep_keep h
  | errLogPop => exact execErrLogPop_keep h
  | roleDecisionTimeout => exact execRoleDecisionTimeout_keep h
  | mirrorFrameRx => exact execMirrorFrameRx_keep h
  | mirrorRetransmit => exact execMirrorRetransmit_keep h
  | mirrorLinkTimeout => exact execMirrorLinkTimeout_keep h
  | mirrorHeartbeat => exact execMirrorHeartbeat_keep h
  | mirrorSyncDone => exact execMirrorSyncDone_keep h
  | mirrorAckDeadline => exact execMirrorAckDeadline_keep h
  | strokeHoldEnd => exact execStrokeHoldEnd_keep h
  | freshExpiry => exact execFreshExpiry_keep h
  | ilkInChange => exact execIlkInChange_keep h
  | ilkConflictBackoffEnd => exact execIlkConflictBackoffEnd_keep h
  | ilkLossTimer => exact execIlkLossTimer_keep h
  | forceTkoWrite => exact execForceTkoWrite_keep h
  | takeoverStart => exact execTakeoverStart_keep h
  | takeoverComplete => exact execTakeoverComplete_keep h
  | takeoverAbandon => exact execTakeoverAbandon_keep h
  | roleSwapOffer => exact execRoleSwapOffer_keep h
  | swapOfferTimeout => exact execSwapOfferTimeout_keep h
  | heatStart => exact execHeatStart_keep h
  | pathReading => exact execPathReading_keep h
  | tempReading => exact execTempReading_keep h
  | canaryReading => exact execCanaryReading_keep h
  | retentionProbeInterval => exact execRetentionProbeInterval_keep h
  | planStart => exact execPlanStart_keep h
  | planNowWrite => exact execPlanNowWrite_keep h
  | clkRampStep => exact execClkRampStep_keep h
  | pmbusTransactionDone => exact execPmbusTransactionDone_keep h
  | avsSettleTimeout => exact execAvsSettleTimeout_keep h
  | pmbusPoll => exact execPmbusPoll_keep h
  | vidSettleExpiry => exact execVidSettleExpiry_keep h
  | avsResetWrite => exact execAvsResetWrite_keep h
  | ageHour => exact execAgeHour_keep h
  | pwrReqWrite => exact execPwrReqWrite_keep h
  | mainsOkFall => exact execMainsOkFall_keep h
  | mainsGraceExpiry => exact execMainsGraceExpiry_keep h
  | mainsOkRise => exact execMainsOkRise_keep h
  | mainsRestoreExpiry => exact execMainsRestoreExpiry_keep h
  | lastGaspTx => exact execLastGaspTx_keep h
  | lgTimeoutExpiry => exact execLgTimeoutExpiry_keep h
  | watchCommit => exact execWatchCommit_keep h
  | watchEntryDone => exact execWatchEntryDone_keep h
  | wurTelegramRx => exact execWurTelegramRx_keep h
  | clockRefLoss => exact execClockRefLoss_keep h
  | clockRefRestore => exact execClockRefRestore_keep h
  | xtalStableExpiry => exact execXtalStableExpiry_keep h
  | lgDataWrite => exact execLgDataWrite_keep h
  | aonShadowWrite => exact execAonShadowWrite_keep h
  | aonWriteApply => exact execAonWriteApply_keep h
  | bistTestDone => exact execBistTestDone_keep h
  | anDone => exact execAnDone_keep h
  | datumItemSend => exact execDatumItemSend_keep h
  | perVectorMaskWrite => exact execPerVectorMaskWrite_keep h
  | timeOkHoldExpiry => exact execTimeOkHoldExpiry_keep h

/-! ### Step -/

theorem idle_keep {x0} (h0 : Keep b s0 x0) : Keep b s0 (idle x0) := by
  unfold idle
  repeat' (first
    | (with_reducible assumption)
    | (with_reducible apply Keep.ite <;> with_reducible intro _)
    | (with_reducible apply aonTick_keep)
    | (with_reducible apply datumTick_keep)
    | (with_reducible intro _))

end Sys2Proof.Machine
end

