-- ==== Sys2Proof/Laws/State.lean ====
section
/-!
SUPPORT. Sys2Proof/Laws/State.lean: for each named update of the state and each field it leaves alone, that the field is as before.
-/

-- One theorem after the other: side by side, their proofs would hold threads and memory together.
set_option Elab.async false
namespace Sys2Proof.Machine

variable (s : State)

/-! ### State.setReg -/

@[simp] theorem State.setReg_pending (a : Nat) (w : Word) : (s.setReg a w).pending = s.pending := rfl
@[simp] theorem State.setReg_dram (a : Nat) (w : Word) : (s.setReg a w).dram = s.dram := rfl
@[simp] theorem State.setReg_out (a : Nat) (w : Word) : (s.setReg a w).out = s.out := rfl
@[simp] theorem State.setReg_fresh (a : Nat) (w : Word) : (s.setReg a w).fresh = s.fresh := rfl
@[simp] theorem State.setReg_now (a : Nat) (w : Word) : (s.setReg a w).now = s.now := rfl
@[simp] theorem State.setReg_dev (a : Nat) (w : Word) : (s.setReg a w).dev = s.dev := rfl
@[simp] theorem State.setReg_boot (a : Nat) (w : Word) : (s.setReg a w).boot = s.boot := rfl
@[simp] theorem State.setReg_nv (a : Nat) (w : Word) : (s.setReg a w).nv = s.nv := rfl
@[simp] theorem State.setReg_stage (a : Nat) (w : Word) : (s.setReg a w).stage = s.stage := rfl
@[simp] theorem State.setReg_bus (a : Nat) (w : Word) : (s.setReg a w).bus = s.bus := rfl
@[simp] theorem State.setReg_ind (a : Nat) (w : Word) : (s.setReg a w).ind = s.ind := rfl
@[simp] theorem State.setReg_host (a : Nat) (w : Word) : (s.setReg a w).host = s.host := rfl
@[simp] theorem State.setReg_rings (a : Nat) (w : Word) : (s.setReg a w).rings = s.rings := rfl
@[simp] theorem State.setReg_log (a : Nat) (w : Word) : (s.setReg a w).log = s.log := rfl
@[simp] theorem State.setReg_fab (a : Nat) (w : Word) : (s.setReg a w).fab = s.fab := rfl
@[simp] theorem State.setReg_tss (a : Nat) (w : Word) : (s.setReg a w).tss = s.tss := rfl
@[simp] theorem State.setReg_gates (a : Nat) (w : Word) : (s.setReg a w).gates = s.gates := rfl
@[simp] theorem State.setReg_sec (a : Nat) (w : Word) : (s.setReg a w).sec = s.sec := rfl
@[simp] theorem State.setReg_ports (a : Nat) (w : Word) : (s.setReg a w).ports = s.ports := rfl
@[simp] theorem State.setReg_dtm (a : Nat) (w : Word) : (s.setReg a w).dtm = s.dtm := rfl
@[simp] theorem State.setReg_lanes (a : Nat) (w : Word) : (s.setReg a w).lanes = s.lanes := rfl
@[simp] theorem State.setReg_mac (a : Nat) (w : Word) : (s.setReg a w).mac = s.mac := rfl
@[simp] theorem State.setReg_rgl (a : Nat) (w : Word) : (s.setReg a w).rgl = s.rgl := rfl
@[simp] theorem State.setReg_cad (a : Nat) (w : Word) : (s.setReg a w).cad = s.cad := rfl
@[simp] theorem State.setReg_upd (a : Nat) (w : Word) : (s.setReg a w).upd = s.upd := rfl
@[simp] theorem State.setReg_cox (a : Nat) (w : Word) : (s.setReg a w).cox = s.cox := rfl
@[simp] theorem State.setReg_red (a : Nat) (w : Word) : (s.setReg a w).red = s.red := rfl
@[simp] theorem State.setReg_mem (a : Nat) (w : Word) : (s.setReg a w).mem = s.mem := rfl
@[simp] theorem State.setReg_mgm (a : Nat) (w : Word) : (s.setReg a w).mgm = s.mgm := rfl
@[simp] theorem State.setReg_pow (a : Nat) (w : Word) : (s.setReg a w).pow = s.pow := rfl
@[simp] theorem State.setReg_bst (a : Nat) (w : Word) : (s.setReg a w).bst = s.bst := rfl

/-! ### State.setFld -/

@[simp] theorem State.setFld_pending (f : Fld) (v : Nat) : (s.setFld f v).pending = s.pending := rfl
@[simp] theorem State.setFld_dram (f : Fld) (v : Nat) : (s.setFld f v).dram = s.dram := rfl
@[simp] theorem State.setFld_out (f : Fld) (v : Nat) : (s.setFld f v).out = s.out := rfl
@[simp] theorem State.setFld_fresh (f : Fld) (v : Nat) : (s.setFld f v).fresh = s.fresh := rfl
@[simp] theorem State.setFld_now (f : Fld) (v : Nat) : (s.setFld f v).now = s.now := rfl
@[simp] theorem State.setFld_dev (f : Fld) (v : Nat) : (s.setFld f v).dev = s.dev := rfl
@[simp] theorem State.setFld_boot (f : Fld) (v : Nat) : (s.setFld f v).boot = s.boot := rfl
@[simp] theorem State.setFld_nv (f : Fld) (v : Nat) : (s.setFld f v).nv = s.nv := rfl
@[simp] theorem State.setFld_stage (f : Fld) (v : Nat) : (s.setFld f v).stage = s.stage := rfl
@[simp] theorem State.setFld_bus (f : Fld) (v : Nat) : (s.setFld f v).bus = s.bus := rfl
@[simp] theorem State.setFld_ind (f : Fld) (v : Nat) : (s.setFld f v).ind = s.ind := rfl
@[simp] theorem State.setFld_host (f : Fld) (v : Nat) : (s.setFld f v).host = s.host := rfl
@[simp] theorem State.setFld_rings (f : Fld) (v : Nat) : (s.setFld f v).rings = s.rings := rfl
@[simp] theorem State.setFld_log (f : Fld) (v : Nat) : (s.setFld f v).log = s.log := rfl
@[simp] theorem State.setFld_fab (f : Fld) (v : Nat) : (s.setFld f v).fab = s.fab := rfl
@[simp] theorem State.setFld_tss (f : Fld) (v : Nat) : (s.setFld f v).tss = s.tss := rfl
@[simp] theorem State.setFld_gates (f : Fld) (v : Nat) : (s.setFld f v).gates = s.gates := rfl
@[simp] theorem State.setFld_sec (f : Fld) (v : Nat) : (s.setFld f v).sec = s.sec := rfl
@[simp] theorem State.setFld_ports (f : Fld) (v : Nat) : (s.setFld f v).ports = s.ports := rfl
@[simp] theorem State.setFld_dtm (f : Fld) (v : Nat) : (s.setFld f v).dtm = s.dtm := rfl
@[simp] theorem State.setFld_lanes (f : Fld) (v : Nat) : (s.setFld f v).lanes = s.lanes := rfl
@[simp] theorem State.setFld_mac (f : Fld) (v : Nat) : (s.setFld f v).mac = s.mac := rfl
@[simp] theorem State.setFld_rgl (f : Fld) (v : Nat) : (s.setFld f v).rgl = s.rgl := rfl
@[simp] theorem State.setFld_cad (f : Fld) (v : Nat) : (s.setFld f v).cad = s.cad := rfl
@[simp] theorem State.setFld_upd (f : Fld) (v : Nat) : (s.setFld f v).upd = s.upd := rfl
@[simp] theorem State.setFld_cox (f : Fld) (v : Nat) : (s.setFld f v).cox = s.cox := rfl
@[simp] theorem State.setFld_red (f : Fld) (v : Nat) : (s.setFld f v).red = s.red := rfl
@[simp] theorem State.setFld_mem (f : Fld) (v : Nat) : (s.setFld f v).mem = s.mem := rfl
@[simp] theorem State.setFld_mgm (f : Fld) (v : Nat) : (s.setFld f v).mgm = s.mgm := rfl
@[simp] theorem State.setFld_pow (f : Fld) (v : Nat) : (s.setFld f v).pow = s.pow := rfl
@[simp] theorem State.setFld_bst (f : Fld) (v : Nat) : (s.setFld f v).bst = s.bst := rfl

/-! ### State.count -/

@[simp] theorem State.count_pending (f : Fld) (k : Nat) : (s.count f k).pending = s.pending := rfl
@[simp] theorem State.count_dram (f : Fld) (k : Nat) : (s.count f k).dram = s.dram := rfl
@[simp] theorem State.count_out (f : Fld) (k : Nat) : (s.count f k).out = s.out := rfl
@[simp] theorem State.count_fresh (f : Fld) (k : Nat) : (s.count f k).fresh = s.fresh := rfl
@[simp] theorem State.count_now (f : Fld) (k : Nat) : (s.count f k).now = s.now := rfl
@[simp] theorem State.count_dev (f : Fld) (k : Nat) : (s.count f k).dev = s.dev := rfl
@[simp] theorem State.count_boot (f : Fld) (k : Nat) : (s.count f k).boot = s.boot := rfl
@[simp] theorem State.count_nv (f : Fld) (k : Nat) : (s.count f k).nv = s.nv := rfl
@[simp] theorem State.count_stage (f : Fld) (k : Nat) : (s.count f k).stage = s.stage := rfl
@[simp] theorem State.count_bus (f : Fld) (k : Nat) : (s.count f k).bus = s.bus := rfl
@[simp] theorem State.count_ind (f : Fld) (k : Nat) : (s.count f k).ind = s.ind := rfl
@[simp] theorem State.count_host (f : Fld) (k : Nat) : (s.count f k).host = s.host := rfl
@[simp] theorem State.count_rings (f : Fld) (k : Nat) : (s.count f k).rings = s.rings := rfl
@[simp] theorem State.count_log (f : Fld) (k : Nat) : (s.count f k).log = s.log := rfl
@[simp] theorem State.count_fab (f : Fld) (k : Nat) : (s.count f k).fab = s.fab := rfl
@[simp] theorem State.count_tss (f : Fld) (k : Nat) : (s.count f k).tss = s.tss := rfl
@[simp] theorem State.count_gates (f : Fld) (k : Nat) : (s.count f k).gates = s.gates := rfl
@[simp] theorem State.count_sec (f : Fld) (k : Nat) : (s.count f k).sec = s.sec := rfl
@[simp] theorem State.count_ports (f : Fld) (k : Nat) : (s.count f k).ports = s.ports := rfl
@[simp] theorem State.count_dtm (f : Fld) (k : Nat) : (s.count f k).dtm = s.dtm := rfl
@[simp] theorem State.count_lanes (f : Fld) (k : Nat) : (s.count f k).lanes = s.lanes := rfl
@[simp] theorem State.count_mac (f : Fld) (k : Nat) : (s.count f k).mac = s.mac := rfl
@[simp] theorem State.count_rgl (f : Fld) (k : Nat) : (s.count f k).rgl = s.rgl := rfl
@[simp] theorem State.count_cad (f : Fld) (k : Nat) : (s.count f k).cad = s.cad := rfl
@[simp] theorem State.count_upd (f : Fld) (k : Nat) : (s.count f k).upd = s.upd := rfl
@[simp] theorem State.count_cox (f : Fld) (k : Nat) : (s.count f k).cox = s.cox := rfl
@[simp] theorem State.count_red (f : Fld) (k : Nat) : (s.count f k).red = s.red := rfl
@[simp] theorem State.count_mem (f : Fld) (k : Nat) : (s.count f k).mem = s.mem := rfl
@[simp] theorem State.count_mgm (f : Fld) (k : Nat) : (s.count f k).mgm = s.mgm := rfl
@[simp] theorem State.count_pow (f : Fld) (k : Nat) : (s.count f k).pow = s.pow := rfl
@[simp] theorem State.count_bst (f : Fld) (k : Nat) : (s.count f k).bst = s.bst := rfl

/-! ### State.setWide -/

@[simp] theorem State.setWide_pending (a v : Nat) : (s.setWide a v).pending = s.pending := rfl
@[simp] theorem State.setWide_dram (a v : Nat) : (s.setWide a v).dram = s.dram := rfl
@[simp] theorem State.setWide_out (a v : Nat) : (s.setWide a v).out = s.out := rfl
@[simp] theorem State.setWide_fresh (a v : Nat) : (s.setWide a v).fresh = s.fresh := rfl
@[simp] theorem State.setWide_now (a v : Nat) : (s.setWide a v).now = s.now := rfl
@[simp] theorem State.setWide_dev (a v : Nat) : (s.setWide a v).dev = s.dev := rfl
@[simp] theorem State.setWide_boot (a v : Nat) : (s.setWide a v).boot = s.boot := rfl
@[simp] theorem State.setWide_nv (a v : Nat) : (s.setWide a v).nv = s.nv := rfl
@[simp] theorem State.setWide_stage (a v : Nat) : (s.setWide a v).stage = s.stage := rfl
@[simp] theorem State.setWide_bus (a v : Nat) : (s.setWide a v).bus = s.bus := rfl
@[simp] theorem State.setWide_ind (a v : Nat) : (s.setWide a v).ind = s.ind := rfl
@[simp] theorem State.setWide_host (a v : Nat) : (s.setWide a v).host = s.host := rfl
@[simp] theorem State.setWide_rings (a v : Nat) : (s.setWide a v).rings = s.rings := rfl
@[simp] theorem State.setWide_log (a v : Nat) : (s.setWide a v).log = s.log := rfl
@[simp] theorem State.setWide_fab (a v : Nat) : (s.setWide a v).fab = s.fab := rfl
@[simp] theorem State.setWide_tss (a v : Nat) : (s.setWide a v).tss = s.tss := rfl
@[simp] theorem State.setWide_gates (a v : Nat) : (s.setWide a v).gates = s.gates := rfl
@[simp] theorem State.setWide_sec (a v : Nat) : (s.setWide a v).sec = s.sec := rfl
@[simp] theorem State.setWide_ports (a v : Nat) : (s.setWide a v).ports = s.ports := rfl
@[simp] theorem State.setWide_dtm (a v : Nat) : (s.setWide a v).dtm = s.dtm := rfl
@[simp] theorem State.setWide_lanes (a v : Nat) : (s.setWide a v).lanes = s.lanes := rfl
@[simp] theorem State.setWide_mac (a v : Nat) : (s.setWide a v).mac = s.mac := rfl
@[simp] theorem State.setWide_rgl (a v : Nat) : (s.setWide a v).rgl = s.rgl := rfl
@[simp] theorem State.setWide_cad (a v : Nat) : (s.setWide a v).cad = s.cad := rfl
@[simp] theorem State.setWide_upd (a v : Nat) : (s.setWide a v).upd = s.upd := rfl
@[simp] theorem State.setWide_cox (a v : Nat) : (s.setWide a v).cox = s.cox := rfl
@[simp] theorem State.setWide_red (a v : Nat) : (s.setWide a v).red = s.red := rfl
@[simp] theorem State.setWide_mem (a v : Nat) : (s.setWide a v).mem = s.mem := rfl
@[simp] theorem State.setWide_mgm (a v : Nat) : (s.setWide a v).mgm = s.mgm := rfl
@[simp] theorem State.setWide_pow (a v : Nat) : (s.setWide a v).pow = s.pow := rfl
@[simp] theorem State.setWide_bst (a v : Nat) : (s.setWide a v).bst = s.bst := rfl

/-! ### State.send -/

@[simp] theorem State.send_pending (o : Out) : (s.send o).pending = s.pending := rfl
@[simp] theorem State.send_regs (o : Out) : (s.send o).regs = s.regs := rfl
@[simp] theorem State.send_dram (o : Out) : (s.send o).dram = s.dram := rfl
@[simp] theorem State.send_fresh (o : Out) : (s.send o).fresh = s.fresh := rfl
@[simp] theorem State.send_now (o : Out) : (s.send o).now = s.now := rfl
@[simp] theorem State.send_dev (o : Out) : (s.send o).dev = s.dev := rfl
@[simp] theorem State.send_boot (o : Out) : (s.send o).boot = s.boot := rfl
@[simp] theorem State.send_nv (o : Out) : (s.send o).nv = s.nv := rfl
@[simp] theorem State.send_stage (o : Out) : (s.send o).stage = s.stage := rfl
@[simp] theorem State.send_bus (o : Out) : (s.send o).bus = s.bus := rfl
@[simp] theorem State.send_ind (o : Out) : (s.send o).ind = s.ind := rfl
@[simp] theorem State.send_host (o : Out) : (s.send o).host = s.host := rfl
@[simp] theorem State.send_rings (o : Out) : (s.send o).rings = s.rings := rfl
@[simp] theorem State.send_log (o : Out) : (s.send o).log = s.log := rfl
@[simp] theorem State.send_fab (o : Out) : (s.send o).fab = s.fab := rfl
@[simp] theorem State.send_tss (o : Out) : (s.send o).tss = s.tss := rfl
@[simp] theorem State.send_gates (o : Out) : (s.send o).gates = s.gates := rfl
@[simp] theorem State.send_sec (o : Out) : (s.send o).sec = s.sec := rfl
@[simp] theorem State.send_ports (o : Out) : (s.send o).ports = s.ports := rfl
@[simp] theorem State.send_dtm (o : Out) : (s.send o).dtm = s.dtm := rfl
@[simp] theorem State.send_lanes (o : Out) : (s.send o).lanes = s.lanes := rfl
@[simp] theorem State.send_mac (o : Out) : (s.send o).mac = s.mac := rfl
@[simp] theorem State.send_rgl (o : Out) : (s.send o).rgl = s.rgl := rfl
@[simp] theorem State.send_cad (o : Out) : (s.send o).cad = s.cad := rfl
@[simp] theorem State.send_upd (o : Out) : (s.send o).upd = s.upd := rfl
@[simp] theorem State.send_cox (o : Out) : (s.send o).cox = s.cox := rfl
@[simp] theorem State.send_red (o : Out) : (s.send o).red = s.red := rfl
@[simp] theorem State.send_mem (o : Out) : (s.send o).mem = s.mem := rfl
@[simp] theorem State.send_mgm (o : Out) : (s.send o).mgm = s.mgm := rfl
@[simp] theorem State.send_pow (o : Out) : (s.send o).pow = s.pow := rfl
@[simp] theorem State.send_bst (o : Out) : (s.send o).bst = s.bst := rfl

/-! ### State.draw -/

@[simp] theorem State.draw_pending : (s.draw).2.pending = s.pending := rfl
@[simp] theorem State.draw_regs : (s.draw).2.regs = s.regs := rfl
@[simp] theorem State.draw_dram : (s.draw).2.dram = s.dram := rfl
@[simp] theorem State.draw_out : (s.draw).2.out = s.out := rfl
@[simp] theorem State.draw_now : (s.draw).2.now = s.now := rfl
@[simp] theorem State.draw_dev : (s.draw).2.dev = s.dev := rfl
@[simp] theorem State.draw_boot : (s.draw).2.boot = s.boot := rfl
@[simp] theorem State.draw_nv : (s.draw).2.nv = s.nv := rfl
@[simp] theorem State.draw_stage : (s.draw).2.stage = s.stage := rfl
@[simp] theorem State.draw_bus : (s.draw).2.bus = s.bus := rfl
@[simp] theorem State.draw_ind : (s.draw).2.ind = s.ind := rfl
@[simp] theorem State.draw_host : (s.draw).2.host = s.host := rfl
@[simp] theorem State.draw_rings : (s.draw).2.rings = s.rings := rfl
@[simp] theorem State.draw_log : (s.draw).2.log = s.log := rfl
@[simp] theorem State.draw_fab : (s.draw).2.fab = s.fab := rfl
@[simp] theorem State.draw_tss : (s.draw).2.tss = s.tss := rfl
@[simp] theorem State.draw_gates : (s.draw).2.gates = s.gates := rfl
@[simp] theorem State.draw_sec : (s.draw).2.sec = s.sec := rfl
@[simp] theorem State.draw_ports : (s.draw).2.ports = s.ports := rfl
@[simp] theorem State.draw_dtm : (s.draw).2.dtm = s.dtm := rfl
@[simp] theorem State.draw_lanes : (s.draw).2.lanes = s.lanes := rfl
@[simp] theorem State.draw_mac : (s.draw).2.mac = s.mac := rfl
@[simp] theorem State.draw_rgl : (s.draw).2.rgl = s.rgl := rfl
@[simp] theorem State.draw_cad : (s.draw).2.cad = s.cad := rfl
@[simp] theorem State.draw_upd : (s.draw).2.upd = s.upd := rfl
@[simp] theorem State.draw_cox : (s.draw).2.cox = s.cox := rfl
@[simp] theorem State.draw_red : (s.draw).2.red = s.red := rfl
@[simp] theorem State.draw_mem : (s.draw).2.mem = s.mem := rfl
@[simp] theorem State.draw_mgm : (s.draw).2.mgm = s.mgm := rfl
@[simp] theorem State.draw_pow : (s.draw).2.pow = s.pow := rfl
@[simp] theorem State.draw_bst : (s.draw).2.bst = s.bst := rfl

/-! ### State.ramStore -/

@[simp] theorem State.ramStore_pending (a : Nat) (bs : List Byte) : (s.ramStore a bs).pending = s.pending := rfl
@[simp] theorem State.ramStore_regs (a : Nat) (bs : List Byte) : (s.ramStore a bs).regs = s.regs := rfl
@[simp] theorem State.ramStore_out (a : Nat) (bs : List Byte) : (s.ramStore a bs).out = s.out := rfl
@[simp] theorem State.ramStore_fresh (a : Nat) (bs : List Byte) : (s.ramStore a bs).fresh = s.fresh := rfl
@[simp] theorem State.ramStore_now (a : Nat) (bs : List Byte) : (s.ramStore a bs).now = s.now := rfl
@[simp] theorem State.ramStore_dev (a : Nat) (bs : List Byte) : (s.ramStore a bs).dev = s.dev := rfl
@[simp] theorem State.ramStore_boot (a : Nat) (bs : List Byte) : (s.ramStore a bs).boot = s.boot := rfl
@[simp] theorem State.ramStore_nv (a : Nat) (bs : List Byte) : (s.ramStore a bs).nv = s.nv := rfl
@[simp] theorem State.ramStore_stage (a : Nat) (bs : List Byte) : (s.ramStore a bs).stage = s.stage := rfl
@[simp] theorem State.ramStore_bus (a : Nat) (bs : List Byte) : (s.ramStore a bs).bus = s.bus := rfl
@[simp] theorem State.ramStore_ind (a : Nat) (bs : List Byte) : (s.ramStore a bs).ind = s.ind := rfl
@[simp] theorem State.ramStore_host (a : Nat) (bs : List Byte) : (s.ramStore a bs).host = s.host := rfl
@[simp] theorem State.ramStore_rings (a : Nat) (bs : List Byte) : (s.ramStore a bs).rings = s.rings := rfl
@[simp] theorem State.ramStore_log (a : Nat) (bs : List Byte) : (s.ramStore a bs).log = s.log := rfl
@[simp] theorem State.ramStore_fab (a : Nat) (bs : List Byte) : (s.ramStore a bs).fab = s.fab := rfl
@[simp] theorem State.ramStore_tss (a : Nat) (bs : List Byte) : (s.ramStore a bs).tss = s.tss := rfl
@[simp] theorem State.ramStore_gates (a : Nat) (bs : List Byte) : (s.ramStore a bs).gates = s.gates := rfl
@[simp] theorem State.ramStore_sec (a : Nat) (bs : List Byte) : (s.ramStore a bs).sec = s.sec := rfl
@[simp] theorem State.ramStore_ports (a : Nat) (bs : List Byte) : (s.ramStore a bs).ports = s.ports := rfl
@[simp] theorem State.ramStore_dtm (a : Nat) (bs : List Byte) : (s.ramStore a bs).dtm = s.dtm := rfl
@[simp] theorem State.ramStore_lanes (a : Nat) (bs : List Byte) : (s.ramStore a bs).lanes = s.lanes := rfl
@[simp] theorem State.ramStore_mac (a : Nat) (bs : List Byte) : (s.ramStore a bs).mac = s.mac := rfl
@[simp] theorem State.ramStore_rgl (a : Nat) (bs : List Byte) : (s.ramStore a bs).rgl = s.rgl := rfl
@[simp] theorem State.ramStore_cad (a : Nat) (bs : List Byte) : (s.ramStore a bs).cad = s.cad := rfl
@[simp] theorem State.ramStore_upd (a : Nat) (bs : List Byte) : (s.ramStore a bs).upd = s.upd := rfl
@[simp] theorem State.ramStore_cox (a : Nat) (bs : List Byte) : (s.ramStore a bs).cox = s.cox := rfl
@[simp] theorem State.ramStore_red (a : Nat) (bs : List Byte) : (s.ramStore a bs).red = s.red := rfl
@[simp] theorem State.ramStore_mem (a : Nat) (bs : List Byte) : (s.ramStore a bs).mem = s.mem := rfl
@[simp] theorem State.ramStore_mgm (a : Nat) (bs : List Byte) : (s.ramStore a bs).mgm = s.mgm := rfl
@[simp] theorem State.ramStore_pow (a : Nat) (bs : List Byte) : (s.ramStore a bs).pow = s.pow := rfl
@[simp] theorem State.ramStore_bst (a : Nat) (bs : List Byte) : (s.ramStore a bs).bst = s.bst := rfl

/-! ### State.ramClear -/

@[simp] theorem State.ramClear_pending (lo hi : Nat) : (s.ramClear lo hi).pending = s.pending := rfl
@[simp] theorem State.ramClear_regs (lo hi : Nat) : (s.ramClear lo hi).regs = s.regs := rfl
@[simp] theorem State.ramClear_out (lo hi : Nat) : (s.ramClear lo hi).out = s.out := rfl
@[simp] theorem State.ramClear_fresh (lo hi : Nat) : (s.ramClear lo hi).fresh = s.fresh := rfl
@[simp] theorem State.ramClear_now (lo hi : Nat) : (s.ramClear lo hi).now = s.now := rfl
@[simp] theorem State.ramClear_dev (lo hi : Nat) : (s.ramClear lo hi).dev = s.dev := rfl
@[simp] theorem State.ramClear_boot (lo hi : Nat) : (s.ramClear lo hi).boot = s.boot := rfl
@[simp] theorem State.ramClear_nv (lo hi : Nat) : (s.ramClear lo hi).nv = s.nv := rfl
@[simp] theorem State.ramClear_stage (lo hi : Nat) : (s.ramClear lo hi).stage = s.stage := rfl
@[simp] theorem State.ramClear_bus (lo hi : Nat) : (s.ramClear lo hi).bus = s.bus := rfl
@[simp] theorem State.ramClear_ind (lo hi : Nat) : (s.ramClear lo hi).ind = s.ind := rfl
@[simp] theorem State.ramClear_host (lo hi : Nat) : (s.ramClear lo hi).host = s.host := rfl
@[simp] theorem State.ramClear_rings (lo hi : Nat) : (s.ramClear lo hi).rings = s.rings := rfl
@[simp] theorem State.ramClear_log (lo hi : Nat) : (s.ramClear lo hi).log = s.log := rfl
@[simp] theorem State.ramClear_fab (lo hi : Nat) : (s.ramClear lo hi).fab = s.fab := rfl
@[simp] theorem State.ramClear_tss (lo hi : Nat) : (s.ramClear lo hi).tss = s.tss := rfl
@[simp] theorem State.ramClear_gates (lo hi : Nat) : (s.ramClear lo hi).gates = s.gates := rfl
@[simp] theorem State.ramClear_sec (lo hi : Nat) : (s.ramClear lo hi).sec = s.sec := rfl
@[simp] theorem State.ramClear_ports (lo hi : Nat) : (s.ramClear lo hi).ports = s.ports := rfl
@[simp] theorem State.ramClear_dtm (lo hi : Nat) : (s.ramClear lo hi).dtm = s.dtm := rfl
@[simp] theorem State.ramClear_lanes (lo hi : Nat) : (s.ramClear lo hi).lanes = s.lanes := rfl
@[simp] theorem State.ramClear_mac (lo hi : Nat) : (s.ramClear lo hi).mac = s.mac := rfl
@[simp] theorem State.ramClear_rgl (lo hi : Nat) : (s.ramClear lo hi).rgl = s.rgl := rfl
@[simp] theorem State.ramClear_cad (lo hi : Nat) : (s.ramClear lo hi).cad = s.cad := rfl
@[simp] theorem State.ramClear_upd (lo hi : Nat) : (s.ramClear lo hi).upd = s.upd := rfl
@[simp] theorem State.ramClear_cox (lo hi : Nat) : (s.ramClear lo hi).cox = s.cox := rfl
@[simp] theorem State.ramClear_red (lo hi : Nat) : (s.ramClear lo hi).red = s.red := rfl
@[simp] theorem State.ramClear_mem (lo hi : Nat) : (s.ramClear lo hi).mem = s.mem := rfl
@[simp] theorem State.ramClear_mgm (lo hi : Nat) : (s.ramClear lo hi).mgm = s.mgm := rfl
@[simp] theorem State.ramClear_pow (lo hi : Nat) : (s.ramClear lo hi).pow = s.pow := rfl
@[simp] theorem State.ramClear_bst (lo hi : Nat) : (s.ramClear lo hi).bst = s.bst := rfl

/-! ### State.event -/

@[simp] theorem State.event_pending (page sub code sev : Nat) (data : List Byte) : (s.event page sub code sev data).pending = s.pending := rfl
@[simp] theorem State.event_regs (page sub code sev : Nat) (data : List Byte) : (s.event page sub code sev data).regs = s.regs := rfl
@[simp] theorem State.event_dram (page sub code sev : Nat) (data : List Byte) : (s.event page sub code sev data).dram = s.dram := rfl
@[simp] theorem State.event_out (page sub code sev : Nat) (data : List Byte) : (s.event page sub code sev data).out = s.out := rfl
@[simp] theorem State.event_fresh (page sub code sev : Nat) (data : List Byte) : (s.event page sub code sev data).fresh = s.fresh := rfl
@[simp] theorem State.event_now (page sub code sev : Nat) (data : List Byte) : (s.event page sub code sev data).now = s.now := rfl
@[simp] theorem State.event_dev (page sub code sev : Nat) (data : List Byte) : (s.event page sub code sev data).dev = s.dev := rfl
@[simp] theorem State.event_boot (page sub code sev : Nat) (data : List Byte) : (s.event page sub code sev data).boot = s.boot := rfl
@[simp] theorem State.event_nv (page sub code sev : Nat) (data : List Byte) : (s.event page sub code sev data).nv = s.nv := rfl
@[simp] theorem State.event_stage (page sub code sev : Nat) (data : List Byte) : (s.event page sub code sev data).stage = s.stage := rfl
@[simp] theorem State.event_bus (page sub code sev : Nat) (data : List Byte) : (s.event page sub code sev data).bus = s.bus := rfl
@[simp] theorem State.event_ind (page sub code sev : Nat) (data : List Byte) : (s.event page sub code sev data).ind = s.ind := rfl
@[simp] theorem State.event_host (page sub code sev : Nat) (data : List Byte) : (s.event page sub code sev data).host = s.host := rfl
@[simp] theorem State.event_rings (page sub code sev : Nat) (data : List Byte) : (s.event page sub code sev data).rings = s.rings := rfl
@[simp] theorem State.event_fab (page sub code sev : Nat) (data : List Byte) : (s.event page sub code sev data).fab = s.fab := rfl
@[simp] theorem State.event_tss (page sub code sev : Nat) (data : List Byte) : (s.event page sub code sev data).tss = s.tss := rfl
@[simp] theorem State.event_gates (page sub code sev : Nat) (data : List Byte) : (s.event page sub code sev data).gates = s.gates := rfl
@[simp] theorem State.event_sec (page sub code sev : Nat) (data : List Byte) : (s.event page sub code sev data).sec = s.sec := rfl
@[simp] theorem State.event_ports (page sub code sev : Nat) (data : List Byte) : (s.event page sub code sev data).ports = s.ports := rfl
@[simp] theorem State.event_dtm (page sub code sev : Nat) (data : List Byte) : (s.event page sub code sev data).dtm = s.dtm := rfl
@[simp] theorem State.event_lanes (page sub code sev : Nat) (data : List Byte) : (s.event page sub code sev data).lanes = s.lanes := rfl
@[simp] theorem State.event_mac (page sub code sev : Nat) (data : List Byte) : (s.event page sub code sev data).mac = s.mac := rfl
@[simp] theorem State.event_rgl (page sub code sev : Nat) (data : List Byte) : (s.event page sub code sev data).rgl = s.rgl := rfl
@[simp] theorem State.event_cad (page sub code sev : Nat) (data : List Byte) : (s.event page sub code sev data).cad = s.cad := rfl
@[simp] theorem State.event_upd (page sub code sev : Nat) (data : List Byte) : (s.event page sub code sev data).upd = s.upd := rfl
@[simp] theorem State.event_cox (page sub code sev : Nat) (data : List Byte) : (s.event page sub code sev data).cox = s.cox := rfl
@[simp] theorem State.event_red (page sub code sev : Nat) (data : List Byte) : (s.event page sub code sev data).red = s.red := rfl
@[simp] theorem State.event_mem (page sub code sev : Nat) (data : List Byte) : (s.event page sub code sev data).mem = s.mem := rfl
@[simp] theorem State.event_mgm (page sub code sev : Nat) (data : List Byte) : (s.event page sub code sev data).mgm = s.mgm := rfl
@[simp] theorem State.event_pow (page sub code sev : Nat) (data : List Byte) : (s.event page sub code sev data).pow = s.pow := rfl
@[simp] theorem State.event_bst (page sub code sev : Nat) (data : List Byte) : (s.event page sub code sev data).bst = s.bst := rfl

/-! ### State.setEngine -/

@[simp] theorem State.setEngine_pending (n : Nat) (e : EngineState) : (s.setEngine n e).pending = s.pending := rfl
@[simp] theorem State.setEngine_regs (n : Nat) (e : EngineState) : (s.setEngine n e).regs = s.regs := rfl
@[simp] theorem State.setEngine_dram (n : Nat) (e : EngineState) : (s.setEngine n e).dram = s.dram := rfl
@[simp] theorem State.setEngine_out (n : Nat) (e : EngineState) : (s.setEngine n e).out = s.out := rfl
@[simp] theorem State.setEngine_fresh (n : Nat) (e : EngineState) : (s.setEngine n e).fresh = s.fresh := rfl
@[simp] theorem State.setEngine_now (n : Nat) (e : EngineState) : (s.setEngine n e).now = s.now := rfl
@[simp] theorem State.setEngine_boot (n : Nat) (e : EngineState) : (s.setEngine n e).boot = s.boot := rfl
@[simp] theorem State.setEngine_nv (n : Nat) (e : EngineState) : (s.setEngine n e).nv = s.nv := rfl
@[simp] theorem State.setEngine_stage (n : Nat) (e : EngineState) : (s.setEngine n e).stage = s.stage := rfl
@[simp] theorem State.setEngine_bus (n : Nat) (e : EngineState) : (s.setEngine n e).bus = s.bus := rfl
@[simp] theorem State.setEngine_ind (n : Nat) (e : EngineState) : (s.setEngine n e).ind = s.ind := rfl
@[simp] theorem State.setEngine_host (n : Nat) (e : EngineState) : (s.setEngine n e).host = s.host := rfl
@[simp] theorem State.setEngine_rings (n : Nat) (e : EngineState) : (s.setEngine n e).rings = s.rings := rfl
@[simp] theorem State.setEngine_log (n : Nat) (e : EngineState) : (s.setEngine n e).log = s.log := rfl
@[simp] theorem State.setEngine_fab (n : Nat) (e : EngineState) : (s.setEngine n e).fab = s.fab := rfl
@[simp] theorem State.setEngine_tss (n : Nat) (e : EngineState) : (s.setEngine n e).tss = s.tss := rfl
@[simp] theorem State.setEngine_gates (n : Nat) (e : EngineState) : (s.setEngine n e).gates = s.gates := rfl
@[simp] theorem State.setEngine_sec (n : Nat) (e : EngineState) : (s.setEngine n e).sec = s.sec := rfl
@[simp] theorem State.setEngine_ports (n : Nat) (e : EngineState) : (s.setEngine n e).ports = s.ports := rfl
@[simp] theorem State.setEngine_dtm (n : Nat) (e : EngineState) : (s.setEngine n e).dtm = s.dtm := rfl
@[simp] theorem State.setEngine_lanes (n : Nat) (e : EngineState) : (s.setEngine n e).lanes = s.lanes := rfl
@[simp] theorem State.setEngine_mac (n : Nat) (e : EngineState) : (s.setEngine n e).mac = s.mac := rfl
@[simp] theorem State.setEngine_rgl (n : Nat) (e : EngineState) : (s.setEngine n e).rgl = s.rgl := rfl
@[simp] theorem State.setEngine_cad (n : Nat) (e : EngineState) : (s.setEngine n e).cad = s.cad := rfl
@[simp] theorem State.setEngine_upd (n : Nat) (e : EngineState) : (s.setEngine n e).upd = s.upd := rfl
@[simp] theorem State.setEngine_cox (n : Nat) (e : EngineState) : (s.setEngine n e).cox = s.cox := rfl
@[simp] theorem State.setEngine_red (n : Nat) (e : EngineState) : (s.setEngine n e).red = s.red := rfl
@[simp] theorem State.setEngine_mem (n : Nat) (e : EngineState) : (s.setEngine n e).mem = s.mem := rfl
@[simp] theorem State.setEngine_mgm (n : Nat) (e : EngineState) : (s.setEngine n e).mgm = s.mgm := rfl
@[simp] theorem State.setEngine_pow (n : Nat) (e : EngineState) : (s.setEngine n e).pow = s.pow := rfl
@[simp] theorem State.setEngine_bst (n : Nat) (e : EngineState) : (s.setEngine n e).bst = s.bst := rfl

/-! ### State.setRing -/

@[simp] theorem State.setRing_pending (k : Nat) (r : Ring) : (s.setRing k r).pending = s.pending := rfl
@[simp] theorem State.setRing_regs (k : Nat) (r : Ring) : (s.setRing k r).regs = s.regs := rfl
@[simp] theorem State.setRing_dram (k : Nat) (r : Ring) : (s.setRing k r).dram = s.dram := rfl
@[simp] theorem State.setRing_out (k : Nat) (r : Ring) : (s.setRing k r).out = s.out := rfl
@[simp] theorem State.setRing_fresh (k : Nat) (r : Ring) : (s.setRing k r).fresh = s.fresh := rfl
@[simp] theorem State.setRing_now (k : Nat) (r : Ring) : (s.setRing k r).now = s.now := rfl
@[simp] theorem State.setRing_dev (k : Nat) (r : Ring) : (s.setRing k r).dev = s.dev := rfl
@[simp] theorem State.setRing_boot (k : Nat) (r : Ring) : (s.setRing k r).boot = s.boot := rfl
@[simp] theorem State.setRing_nv (k : Nat) (r : Ring) : (s.setRing k r).nv = s.nv := rfl
@[simp] theorem State.setRing_stage (k : Nat) (r : Ring) : (s.setRing k r).stage = s.stage := rfl
@[simp] theorem State.setRing_bus (k : Nat) (r : Ring) : (s.setRing k r).bus = s.bus := rfl
@[simp] theorem State.setRing_ind (k : Nat) (r : Ring) : (s.setRing k r).ind = s.ind := rfl
@[simp] theorem State.setRing_host (k : Nat) (r : Ring) : (s.setRing k r).host = s.host := rfl
@[simp] theorem State.setRing_log (k : Nat) (r : Ring) : (s.setRing k r).log = s.log := rfl
@[simp] theorem State.setRing_fab (k : Nat) (r : Ring) : (s.setRing k r).fab = s.fab := rfl
@[simp] theorem State.setRing_tss (k : Nat) (r : Ring) : (s.setRing k r).tss = s.tss := rfl
@[simp] theorem State.setRing_gates (k : Nat) (r : Ring) : (s.setRing k r).gates = s.gates := rfl
@[simp] theorem State.setRing_sec (k : Nat) (r : Ring) : (s.setRing k r).sec = s.sec := rfl
@[simp] theorem State.setRing_ports (k : Nat) (r : Ring) : (s.setRing k r).ports = s.ports := rfl
@[simp] theorem State.setRing_dtm (k : Nat) (r : Ring) : (s.setRing k r).dtm = s.dtm := rfl
@[simp] theorem State.setRing_lanes (k : Nat) (r : Ring) : (s.setRing k r).lanes = s.lanes := rfl
@[simp] theorem State.setRing_mac (k : Nat) (r : Ring) : (s.setRing k r).mac = s.mac := rfl
@[simp] theorem State.setRing_rgl (k : Nat) (r : Ring) : (s.setRing k r).rgl = s.rgl := rfl
@[simp] theorem State.setRing_cad (k : Nat) (r : Ring) : (s.setRing k r).cad = s.cad := rfl
@[simp] theorem State.setRing_upd (k : Nat) (r : Ring) : (s.setRing k r).upd = s.upd := rfl
@[simp] theorem State.setRing_cox (k : Nat) (r : Ring) : (s.setRing k r).cox = s.cox := rfl
@[simp] theorem State.setRing_red (k : Nat) (r : Ring) : (s.setRing k r).red = s.red := rfl
@[simp] theorem State.setRing_mem (k : Nat) (r : Ring) : (s.setRing k r).mem = s.mem := rfl
@[simp] theorem State.setRing_mgm (k : Nat) (r : Ring) : (s.setRing k r).mgm = s.mgm := rfl
@[simp] theorem State.setRing_pow (k : Nat) (r : Ring) : (s.setRing k r).pow = s.pow := rfl
@[simp] theorem State.setRing_bst (k : Nat) (r : Ring) : (s.setRing k r).bst = s.bst := rfl

/-! ### State.setLane -/

@[simp] theorem State.setLane_pending (n : Nat) (l : LaneSt) : (s.setLane n l).pending = s.pending := rfl
@[simp] theorem State.setLane_regs (n : Nat) (l : LaneSt) : (s.setLane n l).regs = s.regs := rfl
@[simp] theorem State.setLane_dram (n : Nat) (l : LaneSt) : (s.setLane n l).dram = s.dram := rfl
@[simp] theorem State.setLane_out (n : Nat) (l : LaneSt) : (s.setLane n l).out = s.out := rfl
@[simp] theorem State.setLane_fresh (n : Nat) (l : LaneSt) : (s.setLane n l).fresh = s.fresh := rfl
@[simp] theorem State.setLane_now (n : Nat) (l : LaneSt) : (s.setLane n l).now = s.now := rfl
@[simp] theorem State.setLane_dev (n : Nat) (l : LaneSt) : (s.setLane n l).dev = s.dev := rfl
@[simp] theorem State.setLane_boot (n : Nat) (l : LaneSt) : (s.setLane n l).boot = s.boot := rfl
@[simp] theorem State.setLane_nv (n : Nat) (l : LaneSt) : (s.setLane n l).nv = s.nv := rfl
@[simp] theorem State.setLane_stage (n : Nat) (l : LaneSt) : (s.setLane n l).stage = s.stage := rfl
@[simp] theorem State.setLane_bus (n : Nat) (l : LaneSt) : (s.setLane n l).bus = s.bus := rfl
@[simp] theorem State.setLane_ind (n : Nat) (l : LaneSt) : (s.setLane n l).ind = s.ind := rfl
@[simp] theorem State.setLane_host (n : Nat) (l : LaneSt) : (s.setLane n l).host = s.host := rfl
@[simp] theorem State.setLane_rings (n : Nat) (l : LaneSt) : (s.setLane n l).rings = s.rings := rfl
@[simp] theorem State.setLane_log (n : Nat) (l : LaneSt) : (s.setLane n l).log = s.log := rfl
@[simp] theorem State.setLane_fab (n : Nat) (l : LaneSt) : (s.setLane n l).fab = s.fab := rfl
@[simp] theorem State.setLane_tss (n : Nat) (l : LaneSt) : (s.setLane n l).tss = s.tss := rfl
@[simp] theorem State.setLane_gates (n : Nat) (l : LaneSt) : (s.setLane n l).gates = s.gates := rfl
@[simp] theorem State.setLane_sec (n : Nat) (l : LaneSt) : (s.setLane n l).sec = s.sec := rfl
@[simp] theorem State.setLane_ports (n : Nat) (l : LaneSt) : (s.setLane n l).ports = s.ports := rfl
@[simp] theorem State.setLane_dtm (n : Nat) (l : LaneSt) : (s.setLane n l).dtm = s.dtm := rfl
@[simp] theorem State.setLane_mac (n : Nat) (l : LaneSt) : (s.setLane n l).mac = s.mac := rfl
@[simp] theorem State.setLane_rgl (n : Nat) (l : LaneSt) : (s.setLane n l).rgl = s.rgl := rfl
@[simp] theorem State.setLane_cad (n : Nat) (l : LaneSt) : (s.setLane n l).cad = s.cad := rfl
@[simp] theorem State.setLane_upd (n : Nat) (l : LaneSt) : (s.setLane n l).upd = s.upd := rfl
@[simp] theorem State.setLane_cox (n : Nat) (l : LaneSt) : (s.setLane n l).cox = s.cox := rfl
@[simp] theorem State.setLane_red (n : Nat) (l : LaneSt) : (s.setLane n l).red = s.red := rfl
@[simp] theorem State.setLane_mem (n : Nat) (l : LaneSt) : (s.setLane n l).mem = s.mem := rfl
@[simp] theorem State.setLane_mgm (n : Nat) (l : LaneSt) : (s.setLane n l).mgm = s.mgm := rfl
@[simp] theorem State.setLane_pow (n : Nat) (l : LaneSt) : (s.setLane n l).pow = s.pow := rfl
@[simp] theorem State.setLane_bst (n : Nat) (l : LaneSt) : (s.setLane n l).bst = s.bst := rfl

/-! ### State.setPort -/

@[simp] theorem State.setPort_pending (x : Nat) (p : Port) : (s.setPort x p).pending = s.pending := rfl
@[simp] theorem State.setPort_regs (x : Nat) (p : Port) : (s.setPort x p).regs = s.regs := rfl
@[simp] theorem State.setPort_dram (x : Nat) (p : Port) : (s.setPort x p).dram = s.dram := rfl
@[simp] theorem State.setPort_out (x : Nat) (p : Port) : (s.setPort x p).out = s.out := rfl
@[simp] theorem State.setPort_fresh (x : Nat) (p : Port) : (s.setPort x p).fresh = s.fresh := rfl
@[simp] theorem State.setPort_now (x : Nat) (p : Port) : (s.setPort x p).now = s.now := rfl
@[simp] theorem State.setPort_dev (x : Nat) (p : Port) : (s.setPort x p).dev = s.dev := rfl
@[simp] theorem State.setPort_boot (x : Nat) (p : Port) : (s.setPort x p).boot = s.boot := rfl
@[simp] theorem State.setPort_nv (x : Nat) (p : Port) : (s.setPort x p).nv = s.nv := rfl
@[simp] theorem State.setPort_stage (x : Nat) (p : Port) : (s.setPort x p).stage = s.stage := rfl
@[simp] theorem State.setPort_bus (x : Nat) (p : Port) : (s.setPort x p).bus = s.bus := rfl
@[simp] theorem State.setPort_ind (x : Nat) (p : Port) : (s.setPort x p).ind = s.ind := rfl
@[simp] theorem State.setPort_host (x : Nat) (p : Port) : (s.setPort x p).host = s.host := rfl
@[simp] theorem State.setPort_rings (x : Nat) (p : Port) : (s.setPort x p).rings = s.rings := rfl
@[simp] theorem State.setPort_log (x : Nat) (p : Port) : (s.setPort x p).log = s.log := rfl
@[simp] theorem State.setPort_fab (x : Nat) (p : Port) : (s.setPort x p).fab = s.fab := rfl
@[simp] theorem State.setPort_tss (x : Nat) (p : Port) : (s.setPort x p).tss = s.tss := rfl
@[simp] theorem State.setPort_gates (x : Nat) (p : Port) : (s.setPort x p).gates = s.gates := rfl
@[simp] theorem State.setPort_sec (x : Nat) (p : Port) : (s.setPort x p).sec = s.sec := rfl
@[simp] theorem State.setPort_dtm (x : Nat) (p : Port) : (s.setPort x p).dtm = s.dtm := rfl
@[simp] theorem State.setPort_lanes (x : Nat) (p : Port) : (s.setPort x p).lanes = s.lanes := rfl
@[simp] theorem State.setPort_mac (x : Nat) (p : Port) : (s.setPort x p).mac = s.mac := rfl
@[simp] theorem State.setPort_rgl (x : Nat) (p : Port) : (s.setPort x p).rgl = s.rgl := rfl
@[simp] theorem State.setPort_cad (x : Nat) (p : Port) : (s.setPort x p).cad = s.cad := rfl
@[simp] theorem State.setPort_upd (x : Nat) (p : Port) : (s.setPort x p).upd = s.upd := rfl
@[simp] theorem State.setPort_cox (x : Nat) (p : Port) : (s.setPort x p).cox = s.cox := rfl
@[simp] theorem State.setPort_red (x : Nat) (p : Port) : (s.setPort x p).red = s.red := rfl
@[simp] theorem State.setPort_mem (x : Nat) (p : Port) : (s.setPort x p).mem = s.mem := rfl
@[simp] theorem State.setPort_mgm (x : Nat) (p : Port) : (s.setPort x p).mgm = s.mgm := rfl
@[simp] theorem State.setPort_pow (x : Nat) (p : Port) : (s.setPort x p).pow = s.pow := rfl
@[simp] theorem State.setPort_bst (x : Nat) (p : Port) : (s.setPort x p).bst = s.bst := rfl

/-! ### State.setBoot -/

@[simp] theorem State.setBoot_pending (x : Boot) : (s.setBoot x).pending = s.pending := rfl
@[simp] theorem State.setBoot_regs (x : Boot) : (s.setBoot x).regs = s.regs := rfl
@[simp] theorem State.setBoot_dram (x : Boot) : (s.setBoot x).dram = s.dram := rfl
@[simp] theorem State.setBoot_out (x : Boot) : (s.setBoot x).out = s.out := rfl
@[simp] theorem State.setBoot_fresh (x : Boot) : (s.setBoot x).fresh = s.fresh := rfl
@[simp] theorem State.setBoot_now (x : Boot) : (s.setBoot x).now = s.now := rfl
@[simp] theorem State.setBoot_dev (x : Boot) : (s.setBoot x).dev = s.dev := rfl
@[simp] theorem State.setBoot_nv (x : Boot) : (s.setBoot x).nv = s.nv := rfl
@[simp] theorem State.setBoot_stage (x : Boot) : (s.setBoot x).stage = s.stage := rfl
@[simp] theorem State.setBoot_bus (x : Boot) : (s.setBoot x).bus = s.bus := rfl
@[simp] theorem State.setBoot_ind (x : Boot) : (s.setBoot x).ind = s.ind := rfl
@[simp] theorem State.setBoot_host (x : Boot) : (s.setBoot x).host = s.host := rfl
@[simp] theorem State.setBoot_rings (x : Boot) : (s.setBoot x).rings = s.rings := rfl
@[simp] theorem State.setBoot_log (x : Boot) : (s.setBoot x).log = s.log := rfl
@[simp] theorem State.setBoot_fab (x : Boot) : (s.setBoot x).fab = s.fab := rfl
@[simp] theorem State.setBoot_tss (x : Boot) : (s.setBoot x).tss = s.tss := rfl
@[simp] theorem State.setBoot_gates (x : Boot) : (s.setBoot x).gates = s.gates := rfl
@[simp] theorem State.setBoot_sec (x : Boot) : (s.setBoot x).sec = s.sec := rfl
@[simp] theorem State.setBoot_ports (x : Boot) : (s.setBoot x).ports = s.ports := rfl
@[simp] theorem State.setBoot_dtm (x : Boot) : (s.setBoot x).dtm = s.dtm := rfl
@[simp] theorem State.setBoot_lanes (x : Boot) : (s.setBoot x).lanes = s.lanes := rfl
@[simp] theorem State.setBoot_mac (x : Boot) : (s.setBoot x).mac = s.mac := rfl
@[simp] theorem State.setBoot_rgl (x : Boot) : (s.setBoot x).rgl = s.rgl := rfl
@[simp] theorem State.setBoot_cad (x : Boot) : (s.setBoot x).cad = s.cad := rfl
@[simp] theorem State.setBoot_upd (x : Boot) : (s.setBoot x).upd = s.upd := rfl
@[simp] theorem State.setBoot_cox (x : Boot) : (s.setBoot x).cox = s.cox := rfl
@[simp] theorem State.setBoot_red (x : Boot) : (s.setBoot x).red = s.red := rfl
@[simp] theorem State.setBoot_mem (x : Boot) : (s.setBoot x).mem = s.mem := rfl
@[simp] theorem State.setBoot_mgm (x : Boot) : (s.setBoot x).mgm = s.mgm := rfl
@[simp] theorem State.setBoot_pow (x : Boot) : (s.setBoot x).pow = s.pow := rfl
@[simp] theorem State.setBoot_bst (x : Boot) : (s.setBoot x).bst = s.bst := rfl

/-! ### State.setDtm -/

@[simp] theorem State.setDtm_pending (x : Datum) : (s.setDtm x).pending = s.pending := rfl
@[simp] theorem State.setDtm_regs (x : Datum) : (s.setDtm x).regs = s.regs := rfl
@[simp] theorem State.setDtm_dram (x : Datum) : (s.setDtm x).dram = s.dram := rfl
@[simp] theorem State.setDtm_out (x : Datum) : (s.setDtm x).out = s.out := rfl
@[simp] theorem State.setDtm_fresh (x : Datum) : (s.setDtm x).fresh = s.fresh := rfl
@[simp] theorem State.setDtm_now (x : Datum) : (s.setDtm x).now = s.now := rfl
@[simp] theorem State.setDtm_dev (x : Datum) : (s.setDtm x).dev = s.dev := rfl
@[simp] theorem State.setDtm_boot (x : Datum) : (s.setDtm x).boot = s.boot := rfl
@[simp] theorem State.setDtm_nv (x : Datum) : (s.setDtm x).nv = s.nv := rfl
@[simp] theorem State.setDtm_stage (x : Datum) : (s.setDtm x).stage = s.stage := rfl
@[simp] theorem State.setDtm_bus (x : Datum) : (s.setDtm x).bus = s.bus := rfl
@[simp] theorem State.setDtm_ind (x : Datum) : (s.setDtm x).ind = s.ind := rfl
@[simp] theorem State.setDtm_host (x : Datum) : (s.setDtm x).host = s.host := rfl
@[simp] theorem State.setDtm_rings (x : Datum) : (s.setDtm x).rings = s.rings := rfl
@[simp] theorem State.setDtm_log (x : Datum) : (s.setDtm x).log = s.log := rfl
@[simp] theorem State.setDtm_fab (x : Datum) : (s.setDtm x).fab = s.fab := rfl
@[simp] theorem State.setDtm_tss (x : Datum) : (s.setDtm x).tss = s.tss := rfl
@[simp] theorem State.setDtm_gates (x : Datum) : (s.setDtm x).gates = s.gates := rfl
@[simp] theorem State.setDtm_sec (x : Datum) : (s.setDtm x).sec = s.sec := rfl
@[simp] theorem State.setDtm_ports (x : Datum) : (s.setDtm x).ports = s.ports := rfl
@[simp] theorem State.setDtm_lanes (x : Datum) : (s.setDtm x).lanes = s.lanes := rfl
@[simp] theorem State.setDtm_mac (x : Datum) : (s.setDtm x).mac = s.mac := rfl
@[simp] theorem State.setDtm_rgl (x : Datum) : (s.setDtm x).rgl = s.rgl := rfl
@[simp] theorem State.setDtm_cad (x : Datum) : (s.setDtm x).cad = s.cad := rfl
@[simp] theorem State.setDtm_upd (x : Datum) : (s.setDtm x).upd = s.upd := rfl
@[simp] theorem State.setDtm_cox (x : Datum) : (s.setDtm x).cox = s.cox := rfl
@[simp] theorem State.setDtm_red (x : Datum) : (s.setDtm x).red = s.red := rfl
@[simp] theorem State.setDtm_mem (x : Datum) : (s.setDtm x).mem = s.mem := rfl
@[simp] theorem State.setDtm_mgm (x : Datum) : (s.setDtm x).mgm = s.mgm := rfl
@[simp] theorem State.setDtm_pow (x : Datum) : (s.setDtm x).pow = s.pow := rfl
@[simp] theorem State.setDtm_bst (x : Datum) : (s.setDtm x).bst = s.bst := rfl

/-! ### State.setMgm -/

@[simp] theorem State.setMgm_pending (x : Margin) : (s.setMgm x).pending = s.pending := rfl
@[simp] theorem State.setMgm_regs (x : Margin) : (s.setMgm x).regs = s.regs := rfl
@[simp] theorem State.setMgm_dram (x : Margin) : (s.setMgm x).dram = s.dram := rfl
@[simp] theorem State.setMgm_out (x : Margin) : (s.setMgm x).out = s.out := rfl
@[simp] theorem State.setMgm_fresh (x : Margin) : (s.setMgm x).fresh = s.fresh := rfl
@[simp] theorem State.setMgm_now (x : Margin) : (s.setMgm x).now = s.now := rfl
@[simp] theorem State.setMgm_dev (x : Margin) : (s.setMgm x).dev = s.dev := rfl
@[simp] theorem State.setMgm_boot (x : Margin) : (s.setMgm x).boot = s.boot := rfl
@[simp] theorem State.setMgm_nv (x : Margin) : (s.setMgm x).nv = s.nv := rfl
@[simp] theorem State.setMgm_stage (x : Margin) : (s.setMgm x).stage = s.stage := rfl
@[simp] theorem State.setMgm_bus (x : Margin) : (s.setMgm x).bus = s.bus := rfl
@[simp] theorem State.setMgm_ind (x : Margin) : (s.setMgm x).ind = s.ind := rfl
@[simp] theorem State.setMgm_host (x : Margin) : (s.setMgm x).host = s.host := rfl
@[simp] theorem State.setMgm_rings (x : Margin) : (s.setMgm x).rings = s.rings := rfl
@[simp] theorem State.setMgm_log (x : Margin) : (s.setMgm x).log = s.log := rfl
@[simp] theorem State.setMgm_fab (x : Margin) : (s.setMgm x).fab = s.fab := rfl
@[simp] theorem State.setMgm_tss (x : Margin) : (s.setMgm x).tss = s.tss := rfl
@[simp] theorem State.setMgm_gates (x : Margin) : (s.setMgm x).gates = s.gates := rfl
@[simp] theorem State.setMgm_sec (x : Margin) : (s.setMgm x).sec = s.sec := rfl
@[simp] theorem State.setMgm_ports (x : Margin) : (s.setMgm x).ports = s.ports := rfl
@[simp] theorem State.setMgm_dtm (x : Margin) : (s.setMgm x).dtm = s.dtm := rfl
@[simp] theorem State.setMgm_lanes (x : Margin) : (s.setMgm x).lanes = s.lanes := rfl
@[simp] theorem State.setMgm_mac (x : Margin) : (s.setMgm x).mac = s.mac := rfl
@[simp] theorem State.setMgm_rgl (x : Margin) : (s.setMgm x).rgl = s.rgl := rfl
@[simp] theorem State.setMgm_cad (x : Margin) : (s.setMgm x).cad = s.cad := rfl
@[simp] theorem State.setMgm_upd (x : Margin) : (s.setMgm x).upd = s.upd := rfl
@[simp] theorem State.setMgm_cox (x : Margin) : (s.setMgm x).cox = s.cox := rfl
@[simp] theorem State.setMgm_red (x : Margin) : (s.setMgm x).red = s.red := rfl
@[simp] theorem State.setMgm_mem (x : Margin) : (s.setMgm x).mem = s.mem := rfl
@[simp] theorem State.setMgm_pow (x : Margin) : (s.setMgm x).pow = s.pow := rfl
@[simp] theorem State.setMgm_bst (x : Margin) : (s.setMgm x).bst = s.bst := rfl

/-! ### State.setRed -/

@[simp] theorem State.setRed_pending (x : Red) : (s.setRed x).pending = s.pending := rfl
@[simp] theorem State.setRed_regs (x : Red) : (s.setRed x).regs = s.regs := rfl
@[simp] theorem State.setRed_dram (x : Red) : (s.setRed x).dram = s.dram := rfl
@[simp] theorem State.setRed_out (x : Red) : (s.setRed x).out = s.out := rfl
@[simp] theorem State.setRed_fresh (x : Red) : (s.setRed x).fresh = s.fresh := rfl
@[simp] theorem State.setRed_now (x : Red) : (s.setRed x).now = s.now := rfl
@[simp] theorem State.setRed_dev (x : Red) : (s.setRed x).dev = s.dev := rfl
@[simp] theorem State.setRed_boot (x : Red) : (s.setRed x).boot = s.boot := rfl
@[simp] theorem State.setRed_nv (x : Red) : (s.setRed x).nv = s.nv := rfl
@[simp] theorem State.setRed_stage (x : Red) : (s.setRed x).stage = s.stage := rfl
@[simp] theorem State.setRed_bus (x : Red) : (s.setRed x).bus = s.bus := rfl
@[simp] theorem State.setRed_ind (x : Red) : (s.setRed x).ind = s.ind := rfl
@[simp] theorem State.setRed_host (x : Red) : (s.setRed x).host = s.host := rfl
@[simp] theorem State.setRed_rings (x : Red) : (s.setRed x).rings = s.rings := rfl
@[simp] theorem State.setRed_log (x : Red) : (s.setRed x).log = s.log := rfl
@[simp] theorem State.setRed_fab (x : Red) : (s.setRed x).fab = s.fab := rfl
@[simp] theorem State.setRed_tss (x : Red) : (s.setRed x).tss = s.tss := rfl
@[simp] theorem State.setRed_gates (x : Red) : (s.setRed x).gates = s.gates := rfl
@[simp] theorem State.setRed_sec (x : Red) : (s.setRed x).sec = s.sec := rfl
@[simp] theorem State.setRed_ports (x : Red) : (s.setRed x).ports = s.ports := rfl
@[simp] theorem State.setRed_dtm (x : Red) : (s.setRed x).dtm = s.dtm := rfl
@[simp] theorem State.setRed_lanes (x : Red) : (s.setRed x).lanes = s.lanes := rfl
@[simp] theorem State.setRed_mac (x : Red) : (s.setRed x).mac = s.mac := rfl
@[simp] theorem State.setRed_rgl (x : Red) : (s.setRed x).rgl = s.rgl := rfl
@[simp] theorem State.setRed_cad (x : Red) : (s.setRed x).cad = s.cad := rfl
@[simp] theorem State.setRed_upd (x : Red) : (s.setRed x).upd = s.upd := rfl
@[simp] theorem State.setRed_cox (x : Red) : (s.setRed x).cox = s.cox := rfl
@[simp] theorem State.setRed_mem (x : Red) : (s.setRed x).mem = s.mem := rfl
@[simp] theorem State.setRed_mgm (x : Red) : (s.setRed x).mgm = s.mgm := rfl
@[simp] theorem State.setRed_pow (x : Red) : (s.setRed x).pow = s.pow := rfl
@[simp] theorem State.setRed_bst (x : Red) : (s.setRed x).bst = s.bst := rfl

/-! ### State.setPow -/

@[simp] theorem State.setPow_pending (x : Power) : (s.setPow x).pending = s.pending := rfl
@[simp] theorem State.setPow_regs (x : Power) : (s.setPow x).regs = s.regs := rfl
@[simp] theorem State.setPow_dram (x : Power) : (s.setPow x).dram = s.dram := rfl
@[simp] theorem State.setPow_out (x : Power) : (s.setPow x).out = s.out := rfl
@[simp] theorem State.setPow_fresh (x : Power) : (s.setPow x).fresh = s.fresh := rfl
@[simp] theorem State.setPow_now (x : Power) : (s.setPow x).now = s.now := rfl
@[simp] theorem State.setPow_dev (x : Power) : (s.setPow x).dev = s.dev := rfl
@[simp] theorem State.setPow_boot (x : Power) : (s.setPow x).boot = s.boot := rfl
@[simp] theorem State.setPow_nv (x : Power) : (s.setPow x).nv = s.nv := rfl
@[simp] theorem State.setPow_stage (x : Power) : (s.setPow x).stage = s.stage := rfl
@[simp] theorem State.setPow_bus (x : Power) : (s.setPow x).bus = s.bus := rfl
@[simp] theorem State.setPow_ind (x : Power) : (s.setPow x).ind = s.ind := rfl
@[simp] theorem State.setPow_host (x : Power) : (s.setPow x).host = s.host := rfl
@[simp] theorem State.setPow_rings (x : Power) : (s.setPow x).rings = s.rings := rfl
@[simp] theorem State.setPow_log (x : Power) : (s.setPow x).log = s.log := rfl
@[simp] theorem State.setPow_fab (x : Power) : (s.setPow x).fab = s.fab := rfl
@[simp] theorem State.setPow_tss (x : Power) : (s.setPow x).tss = s.tss := rfl
@[simp] theorem State.setPow_gates (x : Power) : (s.setPow x).gates = s.gates := rfl
@[simp] theorem State.setPow_sec (x : Power) : (s.setPow x).sec = s.sec := rfl
@[simp] theorem State.setPow_ports (x : Power) : (s.setPow x).ports = s.ports := rfl
@[simp] theorem State.setPow_dtm (x : Power) : (s.setPow x).dtm = s.dtm := rfl
@[simp] theorem State.setPow_lanes (x : Power) : (s.setPow x).lanes = s.lanes := rfl
@[simp] theorem State.setPow_mac (x : Power) : (s.setPow x).mac = s.mac := rfl
@[simp] theorem State.setPow_rgl (x : Power) : (s.setPow x).rgl = s.rgl := rfl
@[simp] theorem State.setPow_cad (x : Power) : (s.setPow x).cad = s.cad := rfl
@[simp] theorem State.setPow_upd (x : Power) : (s.setPow x).upd = s.upd := rfl
@[simp] theorem State.setPow_cox (x : Power) : (s.setPow x).cox = s.cox := rfl
@[simp] theorem State.setPow_red (x : Power) : (s.setPow x).red = s.red := rfl
@[simp] theorem State.setPow_mem (x : Power) : (s.setPow x).mem = s.mem := rfl
@[simp] theorem State.setPow_mgm (x : Power) : (s.setPow x).mgm = s.mgm := rfl
@[simp] theorem State.setPow_bst (x : Power) : (s.setPow x).bst = s.bst := rfl

/-! ### State.setInd -/

@[simp] theorem State.setInd_pending (x : Ind) : (s.setInd x).pending = s.pending := rfl
@[simp] theorem State.setInd_regs (x : Ind) : (s.setInd x).regs = s.regs := rfl
@[simp] theorem State.setInd_dram (x : Ind) : (s.setInd x).dram = s.dram := rfl
@[simp] theorem State.setInd_out (x : Ind) : (s.setInd x).out = s.out := rfl
@[simp] theorem State.setInd_fresh (x : Ind) : (s.setInd x).fresh = s.fresh := rfl
@[simp] theorem State.setInd_now (x : Ind) : (s.setInd x).now = s.now := rfl
@[simp] theorem State.setInd_dev (x : Ind) : (s.setInd x).dev = s.dev := rfl
@[simp] theorem State.setInd_boot (x : Ind) : (s.setInd x).boot = s.boot := rfl
@[simp] theorem State.setInd_nv (x : Ind) : (s.setInd x).nv = s.nv := rfl
@[simp] theorem State.setInd_stage (x : Ind) : (s.setInd x).stage = s.stage := rfl
@[simp] theorem State.setInd_bus (x : Ind) : (s.setInd x).bus = s.bus := rfl
@[simp] theorem State.setInd_host (x : Ind) : (s.setInd x).host = s.host := rfl
@[simp] theorem State.setInd_rings (x : Ind) : (s.setInd x).rings = s.rings := rfl
@[simp] theorem State.setInd_log (x : Ind) : (s.setInd x).log = s.log := rfl
@[simp] theorem State.setInd_fab (x : Ind) : (s.setInd x).fab = s.fab := rfl
@[simp] theorem State.setInd_tss (x : Ind) : (s.setInd x).tss = s.tss := rfl
@[simp] theorem State.setInd_gates (x : Ind) : (s.setInd x).gates = s.gates := rfl
@[simp] theorem State.setInd_sec (x : Ind) : (s.setInd x).sec = s.sec := rfl
@[simp] theorem State.setInd_ports (x : Ind) : (s.setInd x).ports = s.ports := rfl
@[simp] theorem State.setInd_dtm (x : Ind) : (s.setInd x).dtm = s.dtm := rfl
@[simp] theorem State.setInd_lanes (x : Ind) : (s.setInd x).lanes = s.lanes := rfl
@[simp] theorem State.setInd_mac (x : Ind) : (s.setInd x).mac = s.mac := rfl
@[simp] theorem State.setInd_rgl (x : Ind) : (s.setInd x).rgl = s.rgl := rfl
@[simp] theorem State.setInd_cad (x : Ind) : (s.setInd x).cad = s.cad := rfl
@[simp] theorem State.setInd_upd (x : Ind) : (s.setInd x).upd = s.upd := rfl
@[simp] theorem State.setInd_cox (x : Ind) : (s.setInd x).cox = s.cox := rfl
@[simp] theorem State.setInd_red (x : Ind) : (s.setInd x).red = s.red := rfl
@[simp] theorem State.setInd_mem (x : Ind) : (s.setInd x).mem = s.mem := rfl
@[simp] theorem State.setInd_mgm (x : Ind) : (s.setInd x).mgm = s.mgm := rfl
@[simp] theorem State.setInd_pow (x : Ind) : (s.setInd x).pow = s.pow := rfl
@[simp] theorem State.setInd_bst (x : Ind) : (s.setInd x).bst = s.bst := rfl

/-! ### State.setTrng -/

@[simp] theorem State.setTrng_pending (x : Trng) : (s.setTrng x).pending = s.pending := rfl
@[simp] theorem State.setTrng_regs (x : Trng) : (s.setTrng x).regs = s.regs := rfl
@[simp] theorem State.setTrng_dram (x : Trng) : (s.setTrng x).dram = s.dram := rfl
@[simp] theorem State.setTrng_out (x : Trng) : (s.setTrng x).out = s.out := rfl
@[simp] theorem State.setTrng_fresh (x : Trng) : (s.setTrng x).fresh = s.fresh := rfl
@[simp] theorem State.setTrng_now (x : Trng) : (s.setTrng x).now = s.now := rfl
@[simp] theorem State.setTrng_dev (x : Trng) : (s.setTrng x).dev = s.dev := rfl
@[simp] theorem State.setTrng_boot (x : Trng) : (s.setTrng x).boot = s.boot := rfl
@[simp] theorem State.setTrng_nv (x : Trng) : (s.setTrng x).nv = s.nv := rfl
@[simp] theorem State.setTrng_stage (x : Trng) : (s.setTrng x).stage = s.stage := rfl
@[simp] theorem State.setTrng_bus (x : Trng) : (s.setTrng x).bus = s.bus := rfl
@[simp] theorem State.setTrng_ind (x : Trng) : (s.setTrng x).ind = s.ind := rfl
@[simp] theorem State.setTrng_host (x : Trng) : (s.setTrng x).host = s.host := rfl
@[simp] theorem State.setTrng_rings (x : Trng) : (s.setTrng x).rings = s.rings := rfl
@[simp] theorem State.setTrng_log (x : Trng) : (s.setTrng x).log = s.log := rfl
@[simp] theorem State.setTrng_fab (x : Trng) : (s.setTrng x).fab = s.fab := rfl
@[simp] theorem State.setTrng_tss (x : Trng) : (s.setTrng x).tss = s.tss := rfl
@[simp] theorem State.setTrng_gates (x : Trng) : (s.setTrng x).gates = s.gates := rfl
@[simp] theorem State.setTrng_ports (x : Trng) : (s.setTrng x).ports = s.ports := rfl
@[simp] theorem State.setTrng_dtm (x : Trng) : (s.setTrng x).dtm = s.dtm := rfl
@[simp] theorem State.setTrng_lanes (x : Trng) : (s.setTrng x).lanes = s.lanes := rfl
@[simp] theorem State.setTrng_mac (x : Trng) : (s.setTrng x).mac = s.mac := rfl
@[simp] theorem State.setTrng_rgl (x : Trng) : (s.setTrng x).rgl = s.rgl := rfl
@[simp] theorem State.setTrng_cad (x : Trng) : (s.setTrng x).cad = s.cad := rfl
@[simp] theorem State.setTrng_upd (x : Trng) : (s.setTrng x).upd = s.upd := rfl
@[simp] theorem State.setTrng_cox (x : Trng) : (s.setTrng x).cox = s.cox := rfl
@[simp] theorem State.setTrng_red (x : Trng) : (s.setTrng x).red = s.red := rfl
@[simp] theorem State.setTrng_mem (x : Trng) : (s.setTrng x).mem = s.mem := rfl
@[simp] theorem State.setTrng_mgm (x : Trng) : (s.setTrng x).mgm = s.mgm := rfl
@[simp] theorem State.setTrng_pow (x : Trng) : (s.setTrng x).pow = s.pow := rfl
@[simp] theorem State.setTrng_bst (x : Trng) : (s.setTrng x).bst = s.bst := rfl

/-! ### State.setQueue -/

@[simp] theorem State.setQueue_pending (q : Nat) (x : Queue) : (s.setQueue q x).pending = s.pending := rfl
@[simp] theorem State.setQueue_regs (q : Nat) (x : Queue) : (s.setQueue q x).regs = s.regs := rfl
@[simp] theorem State.setQueue_dram (q : Nat) (x : Queue) : (s.setQueue q x).dram = s.dram := rfl
@[simp] theorem State.setQueue_out (q : Nat) (x : Queue) : (s.setQueue q x).out = s.out := rfl
@[simp] theorem State.setQueue_fresh (q : Nat) (x : Queue) : (s.setQueue q x).fresh = s.fresh := rfl
@[simp] theorem State.setQueue_now (q : Nat) (x : Queue) : (s.setQueue q x).now = s.now := rfl
@[simp] theorem State.setQueue_dev (q : Nat) (x : Queue) : (s.setQueue q x).dev = s.dev := rfl
@[simp] theorem State.setQueue_boot (q : Nat) (x : Queue) : (s.setQueue q x).boot = s.boot := rfl
@[simp] theorem State.setQueue_nv (q : Nat) (x : Queue) : (s.setQueue q x).nv = s.nv := rfl
@[simp] theorem State.setQueue_stage (q : Nat) (x : Queue) : (s.setQueue q x).stage = s.stage := rfl
@[simp] theorem State.setQueue_bus (q : Nat) (x : Queue) : (s.setQueue q x).bus = s.bus := rfl
@[simp] theorem State.setQueue_ind (q : Nat) (x : Queue) : (s.setQueue q x).ind = s.ind := rfl
@[simp] theorem State.setQueue_host (q : Nat) (x : Queue) : (s.setQueue q x).host = s.host := rfl
@[simp] theorem State.setQueue_rings (q : Nat) (x : Queue) : (s.setQueue q x).rings = s.rings := rfl
@[simp] theorem State.setQueue_log (q : Nat) (x : Queue) : (s.setQueue q x).log = s.log := rfl
@[simp] theorem State.setQueue_tss (q : Nat) (x : Queue) : (s.setQueue q x).tss = s.tss := rfl
@[simp] theorem State.setQueue_gates (q : Nat) (x : Queue) : (s.setQueue q x).gates = s.gates := rfl
@[simp] theorem State.setQueue_sec (q : Nat) (x : Queue) : (s.setQueue q x).sec = s.sec := rfl
@[simp] theorem State.setQueue_ports (q : Nat) (x : Queue) : (s.setQueue q x).ports = s.ports := rfl
@[simp] theorem State.setQueue_dtm (q : Nat) (x : Queue) : (s.setQueue q x).dtm = s.dtm := rfl
@[simp] theorem State.setQueue_lanes (q : Nat) (x : Queue) : (s.setQueue q x).lanes = s.lanes := rfl
@[simp] theorem State.setQueue_mac (q : Nat) (x : Queue) : (s.setQueue q x).mac = s.mac := rfl
@[simp] theorem State.setQueue_rgl (q : Nat) (x : Queue) : (s.setQueue q x).rgl = s.rgl := rfl
@[simp] theorem State.setQueue_cad (q : Nat) (x : Queue) : (s.setQueue q x).cad = s.cad := rfl
@[simp] theorem State.setQueue_upd (q : Nat) (x : Queue) : (s.setQueue q x).upd = s.upd := rfl
@[simp] theorem State.setQueue_cox (q : Nat) (x : Queue) : (s.setQueue q x).cox = s.cox := rfl
@[simp] theorem State.setQueue_red (q : Nat) (x : Queue) : (s.setQueue q x).red = s.red := rfl
@[simp] theorem State.setQueue_mem (q : Nat) (x : Queue) : (s.setQueue q x).mem = s.mem := rfl
@[simp] theorem State.setQueue_mgm (q : Nat) (x : Queue) : (s.setQueue q x).mgm = s.mgm := rfl
@[simp] theorem State.setQueue_pow (q : Nat) (x : Queue) : (s.setQueue q x).pow = s.pow := rfl
@[simp] theorem State.setQueue_bst (q : Nat) (x : Queue) : (s.setQueue q x).bst = s.bst := rfl

/-! ### State.setEgress -/

@[simp] theorem State.setEgress_pending (e : Nat) (x : Egress) : (s.setEgress e x).pending = s.pending := rfl
@[simp] theorem State.setEgress_regs (e : Nat) (x : Egress) : (s.setEgress e x).regs = s.regs := rfl
@[simp] theorem State.setEgress_dram (e : Nat) (x : Egress) : (s.setEgress e x).dram = s.dram := rfl
@[simp] theorem State.setEgress_out (e : Nat) (x : Egress) : (s.setEgress e x).out = s.out := rfl
@[simp] theorem State.setEgress_fresh (e : Nat) (x : Egress) : (s.setEgress e x).fresh = s.fresh := rfl
@[simp] theorem State.setEgress_now (e : Nat) (x : Egress) : (s.setEgress e x).now = s.now := rfl
@[simp] theorem State.setEgress_dev (e : Nat) (x : Egress) : (s.setEgress e x).dev = s.dev := rfl
@[simp] theorem State.setEgress_boot (e : Nat) (x : Egress) : (s.setEgress e x).boot = s.boot := rfl
@[simp] theorem State.setEgress_nv (e : Nat) (x : Egress) : (s.setEgress e x).nv = s.nv := rfl
@[simp] theorem State.setEgress_stage (e : Nat) (x : Egress) : (s.setEgress e x).stage = s.stage := rfl
@[simp] theorem State.setEgress_bus (e : Nat) (x : Egress) : (s.setEgress e x).bus = s.bus := rfl
@[simp] theorem State.setEgress_ind (e : Nat) (x : Egress) : (s.setEgress e x).ind = s.ind := rfl
@[simp] theorem State.setEgress_host (e : Nat) (x : Egress) : (s.setEgress e x).host = s.host := rfl
@[simp] theorem State.setEgress_rings (e : Nat) (x : Egress) : (s.setEgress e x).rings = s.rings := rfl
@[simp] theorem State.setEgress_log (e : Nat) (x : Egress) : (s.setEgress e x).log = s.log := rfl
@[simp] theorem State.setEgress_fab (e : Nat) (x : Egress) : (s.setEgress e x).fab = s.fab := rfl
@[simp] theorem State.setEgress_gates (e : Nat) (x : Egress) : (s.setEgress e x).gates = s.gates := rfl
@[simp] theorem State.setEgress_sec (e : Nat) (x : Egress) : (s.setEgress e x).sec = s.sec := rfl
@[simp] theorem State.setEgress_ports (e : Nat) (x : Egress) : (s.setEgress e x).ports = s.ports := rfl
@[simp] theorem State.setEgress_dtm (e : Nat) (x : Egress) : (s.setEgress e x).dtm = s.dtm := rfl
@[simp] theorem State.setEgress_lanes (e : Nat) (x : Egress) : (s.setEgress e x).lanes = s.lanes := rfl
@[simp] theorem State.setEgress_mac (e : Nat) (x : Egress) : (s.setEgress e x).mac = s.mac := rfl
@[simp] theorem State.setEgress_rgl (e : Nat) (x : Egress) : (s.setEgress e x).rgl = s.rgl := rfl
@[simp] theorem State.setEgress_cad (e : Nat) (x : Egress) : (s.setEgress e x).cad = s.cad := rfl
@[simp] theorem State.setEgress_upd (e : Nat) (x : Egress) : (s.setEgress e x).upd = s.upd := rfl
@[simp] theorem State.setEgress_cox (e : Nat) (x : Egress) : (s.setEgress e x).cox = s.cox := rfl
@[simp] theorem State.setEgress_red (e : Nat) (x : Egress) : (s.setEgress e x).red = s.red := rfl
@[simp] theorem State.setEgress_mem (e : Nat) (x : Egress) : (s.setEgress e x).mem = s.mem := rfl
@[simp] theorem State.setEgress_mgm (e : Nat) (x : Egress) : (s.setEgress e x).mgm = s.mgm := rfl
@[simp] theorem State.setEgress_pow (e : Nat) (x : Egress) : (s.setEgress e x).pow = s.pow := rfl
@[simp] theorem State.setEgress_bst (e : Nat) (x : Egress) : (s.setEgress e x).bst = s.bst := rfl

/-! ### State.setCls -/

@[simp] theorem State.setCls_pending (e c : Nat) (x : EgressClass) : (s.setCls e c x).pending = s.pending := rfl
@[simp] theorem State.setCls_regs (e c : Nat) (x : EgressClass) : (s.setCls e c x).regs = s.regs := rfl
@[simp] theorem State.setCls_dram (e c : Nat) (x : EgressClass) : (s.setCls e c x).dram = s.dram := rfl
@[simp] theorem State.setCls_out (e c : Nat) (x : EgressClass) : (s.setCls e c x).out = s.out := rfl
@[simp] theorem State.setCls_fresh (e c : Nat) (x : EgressClass) : (s.setCls e c x).fresh = s.fresh := rfl
@[simp] theorem State.setCls_now (e c : Nat) (x : EgressClass) : (s.setCls e c x).now = s.now := rfl
@[simp] theorem State.setCls_dev (e c : Nat) (x : EgressClass) : (s.setCls e c x).dev = s.dev := rfl
@[simp] theorem State.setCls_boot (e c : Nat) (x : EgressClass) : (s.setCls e c x).boot = s.boot := rfl
@[simp] theorem State.setCls_nv (e c : Nat) (x : EgressClass) : (s.setCls e c x).nv = s.nv := rfl
@[simp] theorem State.setCls_stage (e c : Nat) (x : EgressClass) : (s.setCls e c x).stage = s.stage := rfl
@[simp] theorem State.setCls_bus (e c : Nat) (x : EgressClass) : (s.setCls e c x).bus = s.bus := rfl
@[simp] theorem State.setCls_ind (e c : Nat) (x : EgressClass) : (s.setCls e c x).ind = s.ind := rfl
@[simp] theorem State.setCls_host (e c : Nat) (x : EgressClass) : (s.setCls e c x).host = s.host := rfl
@[simp] theorem State.setCls_rings (e c : Nat) (x : EgressClass) : (s.setCls e c x).rings = s.rings := rfl
@[simp] theorem State.setCls_log (e c : Nat) (x : EgressClass) : (s.setCls e c x).log = s.log := rfl
@[simp] theorem State.setCls_fab (e c : Nat) (x : EgressClass) : (s.setCls e c x).fab = s.fab := rfl
@[simp] theorem State.setCls_gates (e c : Nat) (x : EgressClass) : (s.setCls e c x).gates = s.gates := rfl
@[simp] theorem State.setCls_sec (e c : Nat) (x : EgressClass) : (s.setCls e c x).sec = s.sec := rfl
@[simp] theorem State.setCls_ports (e c : Nat) (x : EgressClass) : (s.setCls e c x).ports = s.ports := rfl
@[simp] theorem State.setCls_dtm (e c : Nat) (x : EgressClass) : (s.setCls e c x).dtm = s.dtm := rfl
@[simp] theorem State.setCls_lanes (e c : Nat) (x : EgressClass) : (s.setCls e c x).lanes = s.lanes := rfl
@[simp] theorem State.setCls_mac (e c : Nat) (x : EgressClass) : (s.setCls e c x).mac = s.mac := rfl
@[simp] theorem State.setCls_rgl (e c : Nat) (x : EgressClass) : (s.setCls e c x).rgl = s.rgl := rfl
@[simp] theorem State.setCls_cad (e c : Nat) (x : EgressClass) : (s.setCls e c x).cad = s.cad := rfl
@[simp] theorem State.setCls_upd (e c : Nat) (x : EgressClass) : (s.setCls e c x).upd = s.upd := rfl
@[simp] theorem State.setCls_cox (e c : Nat) (x : EgressClass) : (s.setCls e c x).cox = s.cox := rfl
@[simp] theorem State.setCls_red (e c : Nat) (x : EgressClass) : (s.setCls e c x).red = s.red := rfl
@[simp] theorem State.setCls_mem (e c : Nat) (x : EgressClass) : (s.setCls e c x).mem = s.mem := rfl
@[simp] theorem State.setCls_mgm (e c : Nat) (x : EgressClass) : (s.setCls e c x).mgm = s.mgm := rfl
@[simp] theorem State.setCls_pow (e c : Nat) (x : EgressClass) : (s.setCls e c x).pow = s.pow := rfl
@[simp] theorem State.setCls_bst (e c : Nat) (x : EgressClass) : (s.setCls e c x).bst = s.bst := rfl

/-! ### State.setPolicer -/

@[simp] theorem State.setPolicer_pending (p : Nat) (x : Policer) : (s.setPolicer p x).pending = s.pending := rfl
@[simp] theorem State.setPolicer_regs (p : Nat) (x : Policer) : (s.setPolicer p x).regs = s.regs := rfl
@[simp] theorem State.setPolicer_dram (p : Nat) (x : Policer) : (s.setPolicer p x).dram = s.dram := rfl
@[simp] theorem State.setPolicer_out (p : Nat) (x : Policer) : (s.setPolicer p x).out = s.out := rfl
@[simp] theorem State.setPolicer_fresh (p : Nat) (x : Policer) : (s.setPolicer p x).fresh = s.fresh := rfl
@[simp] theorem State.setPolicer_now (p : Nat) (x : Policer) : (s.setPolicer p x).now = s.now := rfl
@[simp] theorem State.setPolicer_dev (p : Nat) (x : Policer) : (s.setPolicer p x).dev = s.dev := rfl
@[simp] theorem State.setPolicer_boot (p : Nat) (x : Policer) : (s.setPolicer p x).boot = s.boot := rfl
@[simp] theorem State.setPolicer_nv (p : Nat) (x : Policer) : (s.setPolicer p x).nv = s.nv := rfl
@[simp] theorem State.setPolicer_stage (p : Nat) (x : Policer) : (s.setPolicer p x).stage = s.stage := rfl
@[simp] theorem State.setPolicer_bus (p : Nat) (x : Policer) : (s.setPolicer p x).bus = s.bus := rfl
@[simp] theorem State.setPolicer_ind (p : Nat) (x : Policer) : (s.setPolicer p x).ind = s.ind := rfl
@[simp] theorem State.setPolicer_host (p : Nat) (x : Policer) : (s.setPolicer p x).host = s.host := rfl
@[simp] theorem State.setPolicer_rings (p : Nat) (x : Policer) : (s.setPolicer p x).rings = s.rings := rfl
@[simp] theorem State.setPolicer_log (p : Nat) (x : Policer) : (s.setPolicer p x).log = s.log := rfl
@[simp] theorem State.setPolicer_fab (p : Nat) (x : Policer) : (s.setPolicer p x).fab = s.fab := rfl
@[simp] theorem State.setPolicer_gates (p : Nat) (x : Policer) : (s.setPolicer p x).gates = s.gates := rfl
@[simp] theorem State.setPolicer_sec (p : Nat) (x : Policer) : (s.setPolicer p x).sec = s.sec := rfl
@[simp] theorem State.setPolicer_ports (p : Nat) (x : Policer) : (s.setPolicer p x).ports = s.ports := rfl
@[simp] theorem State.setPolicer_dtm (p : Nat) (x : Policer) : (s.setPolicer p x).dtm = s.dtm := rfl
@[simp] theorem State.setPolicer_lanes (p : Nat) (x : Policer) : (s.setPolicer p x).lanes = s.lanes := rfl
@[simp] theorem State.setPolicer_mac (p : Nat) (x : Policer) : (s.setPolicer p x).mac = s.mac := rfl
@[simp] theorem State.setPolicer_rgl (p : Nat) (x : Policer) : (s.setPolicer p x).rgl = s.rgl := rfl
@[simp] theorem State.setPolicer_cad (p : Nat) (x : Policer) : (s.setPolicer p x).cad = s.cad := rfl
@[simp] theorem State.setPolicer_upd (p : Nat) (x : Policer) : (s.setPolicer p x).upd = s.upd := rfl
@[simp] theorem State.setPolicer_cox (p : Nat) (x : Policer) : (s.setPolicer p x).cox = s.cox := rfl
@[simp] theorem State.setPolicer_red (p : Nat) (x : Policer) : (s.setPolicer p x).red = s.red := rfl
@[simp] theorem State.setPolicer_mem (p : Nat) (x : Policer) : (s.setPolicer p x).mem = s.mem := rfl
@[simp] theorem State.setPolicer_mgm (p : Nat) (x : Policer) : (s.setPolicer p x).mgm = s.mgm := rfl
@[simp] theorem State.setPolicer_pow (p : Nat) (x : Policer) : (s.setPolicer p x).pow = s.pow := rfl
@[simp] theorem State.setPolicer_bst (p : Nat) (x : Policer) : (s.setPolicer p x).bst = s.bst := rfl

/-! ### State.setGate -/

@[simp] theorem State.setGate_pending (x : Nat) (g : GateList) : (s.setGate x g).pending = s.pending := rfl
@[simp] theorem State.setGate_regs (x : Nat) (g : GateList) : (s.setGate x g).regs = s.regs := rfl
@[simp] theorem State.setGate_dram (x : Nat) (g : GateList) : (s.setGate x g).dram = s.dram := rfl
@[simp] theorem State.setGate_out (x : Nat) (g : GateList) : (s.setGate x g).out = s.out := rfl
@[simp] theorem State.setGate_fresh (x : Nat) (g : GateList) : (s.setGate x g).fresh = s.fresh := rfl
@[simp] theorem State.setGate_now (x : Nat) (g : GateList) : (s.setGate x g).now = s.now := rfl
@[simp] theorem State.setGate_dev (x : Nat) (g : GateList) : (s.setGate x g).dev = s.dev := rfl
@[simp] theorem State.setGate_boot (x : Nat) (g : GateList) : (s.setGate x g).boot = s.boot := rfl
@[simp] theorem State.setGate_nv (x : Nat) (g : GateList) : (s.setGate x g).nv = s.nv := rfl
@[simp] theorem State.setGate_stage (x : Nat) (g : GateList) : (s.setGate x g).stage = s.stage := rfl
@[simp] theorem State.setGate_bus (x : Nat) (g : GateList) : (s.setGate x g).bus = s.bus := rfl
@[simp] theorem State.setGate_ind (x : Nat) (g : GateList) : (s.setGate x g).ind = s.ind := rfl
@[simp] theorem State.setGate_host (x : Nat) (g : GateList) : (s.setGate x g).host = s.host := rfl
@[simp] theorem State.setGate_rings (x : Nat) (g : GateList) : (s.setGate x g).rings = s.rings := rfl
@[simp] theorem State.setGate_log (x : Nat) (g : GateList) : (s.setGate x g).log = s.log := rfl
@[simp] theorem State.setGate_fab (x : Nat) (g : GateList) : (s.setGate x g).fab = s.fab := rfl
@[simp] theorem State.setGate_tss (x : Nat) (g : GateList) : (s.setGate x g).tss = s.tss := rfl
@[simp] theorem State.setGate_sec (x : Nat) (g : GateList) : (s.setGate x g).sec = s.sec := rfl
@[simp] theorem State.setGate_ports (x : Nat) (g : GateList) : (s.setGate x g).ports = s.ports := rfl
@[simp] theorem State.setGate_dtm (x : Nat) (g : GateList) : (s.setGate x g).dtm = s.dtm := rfl
@[simp] theorem State.setGate_lanes (x : Nat) (g : GateList) : (s.setGate x g).lanes = s.lanes := rfl
@[simp] theorem State.setGate_mac (x : Nat) (g : GateList) : (s.setGate x g).mac = s.mac := rfl
@[simp] theorem State.setGate_rgl (x : Nat) (g : GateList) : (s.setGate x g).rgl = s.rgl := rfl
@[simp] theorem State.setGate_cad (x : Nat) (g : GateList) : (s.setGate x g).cad = s.cad := rfl
@[simp] theorem State.setGate_upd (x : Nat) (g : GateList) : (s.setGate x g).upd = s.upd := rfl
@[simp] theorem State.setGate_cox (x : Nat) (g : GateList) : (s.setGate x g).cox = s.cox := rfl
@[simp] theorem State.setGate_red (x : Nat) (g : GateList) : (s.setGate x g).red = s.red := rfl
@[simp] theorem State.setGate_mem (x : Nat) (g : GateList) : (s.setGate x g).mem = s.mem := rfl
@[simp] theorem State.setGate_mgm (x : Nat) (g : GateList) : (s.setGate x g).mgm = s.mgm := rfl
@[simp] theorem State.setGate_pow (x : Nat) (g : GateList) : (s.setGate x g).pow = s.pow := rfl
@[simp] theorem State.setGate_bst (x : Nat) (g : GateList) : (s.setGate x g).bst = s.bst := rfl

/-! ### State.putSlot -/

@[simp] theorem State.putSlot_pending (n : Nat) (x : Slot) : (s.putSlot n x).pending = s.pending := rfl
@[simp] theorem State.putSlot_regs (n : Nat) (x : Slot) : (s.putSlot n x).regs = s.regs := rfl
@[simp] theorem State.putSlot_dram (n : Nat) (x : Slot) : (s.putSlot n x).dram = s.dram := rfl
@[simp] theorem State.putSlot_out (n : Nat) (x : Slot) : (s.putSlot n x).out = s.out := rfl
@[simp] theorem State.putSlot_fresh (n : Nat) (x : Slot) : (s.putSlot n x).fresh = s.fresh := rfl
@[simp] theorem State.putSlot_now (n : Nat) (x : Slot) : (s.putSlot n x).now = s.now := rfl
@[simp] theorem State.putSlot_dev (n : Nat) (x : Slot) : (s.putSlot n x).dev = s.dev := rfl
@[simp] theorem State.putSlot_boot (n : Nat) (x : Slot) : (s.putSlot n x).boot = s.boot := rfl
@[simp] theorem State.putSlot_nv (n : Nat) (x : Slot) : (s.putSlot n x).nv = s.nv := rfl
@[simp] theorem State.putSlot_stage (n : Nat) (x : Slot) : (s.putSlot n x).stage = s.stage := rfl
@[simp] theorem State.putSlot_bus (n : Nat) (x : Slot) : (s.putSlot n x).bus = s.bus := rfl
@[simp] theorem State.putSlot_ind (n : Nat) (x : Slot) : (s.putSlot n x).ind = s.ind := rfl
@[simp] theorem State.putSlot_host (n : Nat) (x : Slot) : (s.putSlot n x).host = s.host := rfl
@[simp] theorem State.putSlot_rings (n : Nat) (x : Slot) : (s.putSlot n x).rings = s.rings := rfl
@[simp] theorem State.putSlot_log (n : Nat) (x : Slot) : (s.putSlot n x).log = s.log := rfl
@[simp] theorem State.putSlot_fab (n : Nat) (x : Slot) : (s.putSlot n x).fab = s.fab := rfl
@[simp] theorem State.putSlot_tss (n : Nat) (x : Slot) : (s.putSlot n x).tss = s.tss := rfl
@[simp] theorem State.putSlot_gates (n : Nat) (x : Slot) : (s.putSlot n x).gates = s.gates := rfl
@[simp] theorem State.putSlot_ports (n : Nat) (x : Slot) : (s.putSlot n x).ports = s.ports := rfl
@[simp] theorem State.putSlot_dtm (n : Nat) (x : Slot) : (s.putSlot n x).dtm = s.dtm := rfl
@[simp] theorem State.putSlot_lanes (n : Nat) (x : Slot) : (s.putSlot n x).lanes = s.lanes := rfl
@[simp] theorem State.putSlot_mac (n : Nat) (x : Slot) : (s.putSlot n x).mac = s.mac := rfl
@[simp] theorem State.putSlot_rgl (n : Nat) (x : Slot) : (s.putSlot n x).rgl = s.rgl := rfl
@[simp] theorem State.putSlot_cad (n : Nat) (x : Slot) : (s.putSlot n x).cad = s.cad := rfl
@[simp] theorem State.putSlot_upd (n : Nat) (x : Slot) : (s.putSlot n x).upd = s.upd := rfl
@[simp] theorem State.putSlot_cox (n : Nat) (x : Slot) : (s.putSlot n x).cox = s.cox := rfl
@[simp] theorem State.putSlot_red (n : Nat) (x : Slot) : (s.putSlot n x).red = s.red := rfl
@[simp] theorem State.putSlot_mem (n : Nat) (x : Slot) : (s.putSlot n x).mem = s.mem := rfl
@[simp] theorem State.putSlot_mgm (n : Nat) (x : Slot) : (s.putSlot n x).mgm = s.mgm := rfl
@[simp] theorem State.putSlot_pow (n : Nat) (x : Slot) : (s.putSlot n x).pow = s.pow := rfl
@[simp] theorem State.putSlot_bst (n : Nat) (x : Slot) : (s.putSlot n x).bst = s.bst := rfl

end Sys2Proof.Machine
end

