-- ==== Sys2Proof/Laws/Ops.lean ====
section
/-!
SUPPORT. Sys2Proof/Laws/Ops.lean: what the shared operations do: fields of registers read after they are written, causes, errors, events,
messages to the host, bytes of the DRAM.
-/

-- One theorem after the other: side by side, their proofs would hold threads and memory together.
set_option Elab.async false
namespace Sys2Proof.Machine

/-! ### Bit fields of words -/

theorem testBit_bitsOf (n l k i : Nat) : (bitsOf n l k).testBit i = (decide (i < k) && n.testBit (l + i)) := by
  unfold bitsOf
  rw [Nat.testBit_mod_two_pow, ← Nat.shiftRight_eq_div_pow, Nat.testBit_shiftRight]

theorem getLsbD_insBits (w : Word) (l k v i : Nat) (h : l + k ≤ 32) :
    (insBits w l k v).getLsbD i = if l ≤ i ∧ i < l + k then v.testBit (i - l) else w.getLsbD i := by
  have hm : ∀ j, ((2 ^ k - 1) * 2 ^ l).testBit j = decide (l ≤ j ∧ j < l + k) := by
    intro j
    rw [Nat.testBit_mul_two_pow]
    by_cases h1 : l ≤ j
    · rw [Nat.testBit_two_pow_sub_one]
      simp only [h1, decide_true, Bool.true_and, true_and]
      by_cases h2 : j - l < k
      · simp [h2, show j < l + k by omega]
      · simp [h2, show ¬ j < l + k by omega]
    · simp [h1]
  have hv : ∀ j, (v % 2 ^ k * 2 ^ l).testBit j = (decide (l ≤ j) && (decide (j - l < k) && v.testBit (j - l))) := by
    intro j
    rw [Nat.testBit_mul_two_pow, Nat.testBit_mod_two_pow]
  by_cases hi : i < 32
  · simp only [insBits, BitVec.getLsbD_or, BitVec.getLsbD_and, BitVec.getLsbD_not, BitVec.getLsbD_ofNat, hi, decide_true, Bool.true_and, hm, hv]
    by_cases h1 : l ≤ i <;> by_cases h2 : i < l + k
    · simp [h1, h2, show i - l < k by omega]
    · simp [h2]
    · simp [h1]
    · simp [h1]
  · have h2 : ¬ (l ≤ i ∧ i < l + k) := by omega
    rw [if_neg h2, BitVec.getLsbD_of_ge _ _ (by omega), BitVec.getLsbD_of_ge _ _ (by omega)]

/-- A field just written holds the low bits written. -/
theorem bitsOf_insBits (w : Word) (l k v : Nat) (h : l + k ≤ 32) : bitsOf (insBits w l k v).toNat l k = v % 2 ^ k := by
  apply Nat.eq_of_testBit_eq
  intro i
  rw [testBit_bitsOf, BitVec.testBit_toNat, getLsbD_insBits _ _ _ _ _ h, Nat.testBit_mod_two_pow]
  by_cases hi : i < k
  · simp [hi]
  · simp [hi]

/-- A field apart from the one written holds what it held. -/
theorem bitsOf_insBits_apart (w : Word) (l k v l' k' : Nat) (h : l + k ≤ 32) (hd : l' + k' ≤ l ∨ l + k ≤ l') :
    bitsOf (insBits w l k v).toNat l' k' = bitsOf w.toNat l' k' := by
  apply Nat.eq_of_testBit_eq
  intro i
  rw [testBit_bitsOf, testBit_bitsOf, BitVec.testBit_toNat, BitVec.testBit_toNat, getLsbD_insBits _ _ _ _ _ h]
  by_cases hi : i < k'
  · rw [if_neg (by omega)]
  · simp [hi]

theorem bitsOf_lt (n l k : Nat) : bitsOf n l k < 2 ^ k := Nat.mod_lt _ (Nat.two_pow_pos k)

/-! ### Registers and fields -/

variable (s : State)

theorem State.reg_congr {s t : State} (h : t.regs = s.regs) (a : Nat) : t.reg a = s.reg a := by
  unfold State.reg
  rw [h]

theorem State.fld_congr {s t : State} (h : t.reg f.addr = s.reg f.addr) : t.fld f = s.fld f := by
  unfold State.fld
  rw [h]

@[simp] theorem State.reg_setReg_self (a : Nat) (w : Word) : (s.setReg a w).reg a = w := Tbl.get_put_self _ _ _ _

theorem State.reg_setReg_ne {a c : Nat} (w : Word) (h : c ≠ a) : (s.setReg a w).reg c = s.reg c := Tbl.get_put_ne _ _ _ h

theorem State.reg_setReg (a c : Nat) (w : Word) : (s.setReg a w).reg c = if c = a then w else s.reg c := Tbl.get_put _ _ _ _ _

theorem State.reg_setFld (f : Fld) (v c : Nat) :
    (s.setFld f v).reg c = if c = f.addr then insBits (s.reg f.addr) f.lsb f.width v else s.reg c := State.reg_setReg _ _ _ _

theorem State.reg_setFld_ne {f : Fld} {c : Nat} (v : Nat) (h : c ≠ f.addr) : (s.setFld f v).reg c = s.reg c := State.reg_setReg_ne _ _ h

/-- A field just written. -/
theorem State.fld_setFld_self (f : Fld) (v : Nat) (h : f.lsb + f.width ≤ 32) : (s.setFld f v).fld f = v % 2 ^ f.width := by
  unfold State.fld
  rw [State.reg_setFld, if_pos rfl, bitsOf_insBits _ _ _ _ h]

/-- Another field, of another register or of other bits. -/
theorem State.fld_setFld_apart (f g : Fld) (v : Nat) (h : f.lsb + f.width ≤ 32)
    (hd : g.addr ≠ f.addr ∨ g.lsb + g.width ≤ f.lsb ∨ f.lsb + f.width ≤ g.lsb) : (s.setFld f v).fld g = s.fld g := by
  unfold State.fld
  rw [State.reg_setFld]
  split
  · rename_i e
    rw [bitsOf_insBits_apart _ _ _ _ _ _ h (hd.resolve_left (fun hn => hn e)), e]
  · rfl

theorem State.fld_setReg_ne (g : Fld) (a : Nat) (w : Word) (h : g.addr ≠ a) : (s.setReg a w).fld g = s.fld g :=
  State.fld_congr (State.reg_setReg_ne _ _ h)

theorem State.reg_count_ne {f : Fld} {c : Nat} (k : Nat) (h : c ≠ f.addr) : (s.count f k).reg c = s.reg c := State.reg_setFld_ne _ _ h

/-- A count saturates (R47). -/
theorem State.fld_count_self (f : Fld) (k : Nat) (h : f.lsb + f.width ≤ 32) : (s.count f k).fld f = satAdd f.width (s.fld f) k := by
  unfold State.count
  rw [State.fld_setFld_self _ _ _ h, Nat.mod_eq_of_lt]
  unfold satAdd
  have := Nat.two_pow_pos f.width
  omega

theorem State.fld_count_apart (f g : Fld) (k : Nat) (h : f.lsb + f.width ≤ 32)
    (hd : g.addr ≠ f.addr ∨ g.lsb + g.width ≤ f.lsb ∨ f.lsb + f.width ≤ g.lsb) : (s.count f k).fld g = s.fld g :=
  State.fld_setFld_apart _ _ _ _ h hd

@[simp] theorem State.send_reg (o : Out) (a : Nat) : (s.send o).reg a = s.reg a := rfl
@[simp] theorem State.send_fld (o : Out) (f : Fld) : (s.send o).fld f = s.fld f := rfl
@[simp] theorem State.send_ram (o : Out) (a : Nat) : (s.send o).ram a = s.ram a := rfl
@[simp] theorem State.draw_reg (a : Nat) : (s.draw).2.reg a = s.reg a := rfl
@[simp] theorem State.draw_fld (f : Fld) : (s.draw).2.fld f = s.fld f := rfl
@[simp] theorem State.draw_ram (a : Nat) : (s.draw).2.ram a = s.ram a := rfl
@[simp] theorem State.ramStore_reg (b : Nat) (bs : List Byte) (a : Nat) : (s.ramStore b bs).reg a = s.reg a := rfl
@[simp] theorem State.ramStore_fld (b : Nat) (bs : List Byte) (f : Fld) : (s.ramStore b bs).fld f = s.fld f := rfl
@[simp] theorem State.ramClear_reg (lo hi : Nat) (a : Nat) : (s.ramClear lo hi).reg a = s.reg a := rfl
@[simp] theorem State.ramClear_fld (lo hi : Nat) (f : Fld) : (s.ramClear lo hi).fld f = s.fld f := rfl
@[simp] theorem State.event_reg (page sub code sev : Nat) (data : List Byte) (a : Nat) : (s.event page sub code sev data).reg a = s.reg a := rfl
@[simp] theorem State.event_fld (page sub code sev : Nat) (data : List Byte) (f : Fld) : (s.event page sub code sev data).fld f = s.fld f := rfl
@[simp] theorem State.event_ram (page sub code sev : Nat) (data : List Byte) (a : Nat) : (s.event page sub code sev data).ram a = s.ram a := rfl
@[simp] theorem State.setEngine_reg (n : Nat) (e : EngineState) (a : Nat) : (s.setEngine n e).reg a = s.reg a := rfl
@[simp] theorem State.setEngine_fld (n : Nat) (e : EngineState) (f : Fld) : (s.setEngine n e).fld f = s.fld f := rfl
@[simp] theorem State.setEngine_ram (n : Nat) (e : EngineState) (a : Nat) : (s.setEngine n e).ram a = s.ram a := rfl
@[simp] theorem State.setRing_reg (k : Nat) (r : Ring) (a : Nat) : (s.setRing k r).reg a = s.reg a := rfl
@[simp] theorem State.setRing_fld (k : Nat) (r : Ring) (f : Fld) : (s.setRing k r).fld f = s.fld f := rfl
@[simp] theorem State.setRing_ram (k : Nat) (r : Ring) (a : Nat) : (s.setRing k r).ram a = s.ram a := rfl
@[simp] theorem State.setLane_reg (n : Nat) (l : LaneSt) (a : Nat) : (s.setLane n l).reg a = s.reg a := rfl
@[simp] theorem State.setLane_fld (n : Nat) (l : LaneSt) (f : Fld) : (s.setLane n l).fld f = s.fld f := rfl
@[simp] theorem State.setLane_ram (n : Nat) (l : LaneSt) (a : Nat) : (s.setLane n l).ram a = s.ram a := rfl
@[simp] theorem State.setPort_reg (x : Nat) (p : Port) (a : Nat) : (s.setPort x p).reg a = s.reg a := rfl
@[simp] theorem State.setPort_fld (x : Nat) (p : Port) (f : Fld) : (s.setPort x p).fld f = s.fld f := rfl
@[simp] theorem State.setPort_ram (x : Nat) (p : Port) (a : Nat) : (s.setPort x p).ram a = s.ram a := rfl
@[simp] theorem State.setBoot_reg (x : Boot) (a : Nat) : (s.setBoot x).reg a = s.reg a := rfl
@[simp] theorem State.setBoot_fld (x : Boot) (f : Fld) : (s.setBoot x).fld f = s.fld f := rfl
@[simp] theorem State.setBoot_ram (x : Boot) (a : Nat) : (s.setBoot x).ram a = s.ram a := rfl
@[simp] theorem State.setDtm_reg (x : Datum) (a : Nat) : (s.setDtm x).reg a = s.reg a := rfl
@[simp] theorem State.setDtm_fld (x : Datum) (f : Fld) : (s.setDtm x).fld f = s.fld f := rfl
@[simp] theorem State.setDtm_ram (x : Datum) (a : Nat) : (s.setDtm x).ram a = s.ram a := rfl
@[simp] theorem State.setMgm_reg (x : Margin) (a : Nat) : (s.setMgm x).reg a = s.reg a := rfl
@[simp] theorem State.setMgm_fld (x : Margin) (f : Fld) : (s.setMgm x).fld f = s.fld f := rfl
@[simp] theorem State.setMgm_ram (x : Margin) (a : Nat) : (s.setMgm x).ram a = s.ram a := rfl
@[simp] theorem State.setRed_reg (x : Red) (a : Nat) : (s.setRed x).reg a = s.reg a := rfl
@[simp] theorem State.setRed_fld (x : Red) (f : Fld) : (s.setRed x).fld f = s.fld f := rfl
@[simp] theorem State.setRed_ram (x : Red) (a : Nat) : (s.setRed x).ram a = s.ram a := rfl
@[simp] theorem State.setPow_reg (x : Power) (a : Nat) : (s.setPow x).reg a = s.reg a := rfl
@[simp] theorem State.setPow_fld (x : Power) (f : Fld) : (s.setPow x).fld f = s.fld f := rfl
@[simp] theorem State.setPow_ram (x : Power) (a : Nat) : (s.setPow x).ram a = s.ram a := rfl
@[simp] theorem State.setInd_reg (x : Ind) (a : Nat) : (s.setInd x).reg a = s.reg a := rfl
@[simp] theorem State.setInd_fld (x : Ind) (f : Fld) : (s.setInd x).fld f = s.fld f := rfl
@[simp] theorem State.setInd_ram (x : Ind) (a : Nat) : (s.setInd x).ram a = s.ram a := rfl
@[simp] theorem State.setQueue_reg (q : Nat) (x : Queue) (a : Nat) : (s.setQueue q x).reg a = s.reg a := rfl
@[simp] theorem State.setQueue_fld (q : Nat) (x : Queue) (f : Fld) : (s.setQueue q x).fld f = s.fld f := rfl
@[simp] theorem State.setQueue_ram (q : Nat) (x : Queue) (a : Nat) : (s.setQueue q x).ram a = s.ram a := rfl
@[simp] theorem State.setEgress_reg (e : Nat) (x : Egress) (a : Nat) : (s.setEgress e x).reg a = s.reg a := rfl
@[simp] theorem State.setEgress_fld (e : Nat) (x : Egress) (f : Fld) : (s.setEgress e x).fld f = s.fld f := rfl
@[simp] theorem State.setEgress_ram (e : Nat) (x : Egress) (a : Nat) : (s.setEgress e x).ram a = s.ram a := rfl
@[simp] theorem State.setGate_reg (x : Nat) (g : GateList) (a : Nat) : (s.setGate x g).reg a = s.reg a := rfl
@[simp] theorem State.setGate_fld (x : Nat) (g : GateList) (f : Fld) : (s.setGate x g).fld f = s.fld f := rfl
@[simp] theorem State.setGate_ram (x : Nat) (g : GateList) (a : Nat) : (s.setGate x g).ram a = s.ram a := rfl
@[simp] theorem State.putSlot_reg (n : Nat) (x : Slot) (a : Nat) : (s.putSlot n x).reg a = s.reg a := rfl
@[simp] theorem State.putSlot_fld (n : Nat) (x : Slot) (f : Fld) : (s.putSlot n x).fld f = s.fld f := rfl
@[simp] theorem State.putSlot_ram (n : Nat) (x : Slot) (a : Nat) : (s.putSlot n x).ram a = s.ram a := rfl

/-! ### Messages to the host, causes, errors (R41, R43, R110, R111) -/

/-- Sending a vector's message touches the attachment and what is sent alone. -/
theorem fireVector_frame (v : Nat) : fireVector s v = { s with host := (fireVector s v).host, out := (fireVector s v).out } := by
  unfold fireVector
  split
  · rfl
  · split <;> rfl

theorem foldl_fireVector_frame (l : List Nat) :
    l.foldl fireVector s = { s with host := (l.foldl fireVector s).host, out := (l.foldl fireVector s).out } := by
  induction l generalizing s with
  | nil => rfl
  | cons v t ih =>
    simp only [List.foldl_cons]
    rw [ih (fireVector s v), fireVector_frame s v]

/-- The messages of the causes touch the attachment and what is sent alone. -/
theorem fire_frame : fire s = { s with host := (fire s).host, out := (fire s).out } := by
  unfold fire
  split
  · exact foldl_fireVector_frame s _
  · rfl

@[simp] theorem fire_regs : (fire s).regs = s.regs := by rw [fire_frame]
@[simp] theorem fire_pending : (fire s).pending = s.pending := by rw [fire_frame]
@[simp] theorem fire_dram : (fire s).dram = s.dram := by rw [fire_frame]
@[simp] theorem fire_fresh : (fire s).fresh = s.fresh := by rw [fire_frame]
@[simp] theorem fire_now : (fire s).now = s.now := by rw [fire_frame]
@[simp] theorem fire_dev : (fire s).dev = s.dev := by rw [fire_frame]
@[simp] theorem fire_boot : (fire s).boot = s.boot := by rw [fire_frame]
@[simp] theorem fire_nv : (fire s).nv = s.nv := by rw [fire_frame]
@[simp] theorem fire_stage : (fire s).stage = s.stage := by rw [fire_frame]
@[simp] theorem fire_bus : (fire s).bus = s.bus := by rw [fire_frame]
@[simp] theorem fire_ind : (fire s).ind = s.ind := by rw [fire_frame]
@[simp] theorem fire_rings : (fire s).rings = s.rings := by rw [fire_frame]
@[simp] theorem fire_log : (fire s).log = s.log := by rw [fire_frame]
@[simp] theorem fire_fab : (fire s).fab = s.fab := by rw [fire_frame]
@[simp] theorem fire_tss : (fire s).tss = s.tss := by rw [fire_frame]
@[simp] theorem fire_gates : (fire s).gates = s.gates := by rw [fire_frame]
@[simp] theorem fire_sec : (fire s).sec = s.sec := by rw [fire_frame]
@[simp] theorem fire_ports : (fire s).ports = s.ports := by rw [fire_frame]
@[simp] theorem fire_dtm : (fire s).dtm = s.dtm := by rw [fire_frame]
@[simp] theorem fire_lanes : (fire s).lanes = s.lanes := by rw [fire_frame]
@[simp] theorem fire_mac : (fire s).mac = s.mac := by rw [fire_frame]
@[simp] theorem fire_rgl : (fire s).rgl = s.rgl := by rw [fire_frame]
@[simp] theorem fire_cad : (fire s).cad = s.cad := by rw [fire_frame]
@[simp] theorem fire_upd : (fire s).upd = s.upd := by rw [fire_frame]
@[simp] theorem fire_cox : (fire s).cox = s.cox := by rw [fire_frame]
@[simp] theorem fire_red : (fire s).red = s.red := by rw [fire_frame]
@[simp] theorem fire_mem : (fire s).mem = s.mem := by rw [fire_frame]
@[simp] theorem fire_mgm : (fire s).mgm = s.mgm := by rw [fire_frame]
@[simp] theorem fire_pow : (fire s).pow = s.pow := by rw [fire_frame]
@[simp] theorem fire_bst : (fire s).bst = s.bst := by rw [fire_frame]

@[simp] theorem fire_reg (a : Nat) : (fire s).reg a = s.reg a := State.reg_congr (fire_regs s) a
@[simp] theorem fire_fld (f : Fld) : (fire s).fld f = s.fld f := State.fld_congr (fire_reg s f.addr)

/-- With MSI-X disabled nothing is sent. -/
theorem fire_off (h : s.host.msixEnable = false) : fire s = s := by
  unfold fire
  rw [h]
  rfl

/-- A cause set by hardware: its bit reads 1, the other bits as before. -/
theorem setCause_self (page b : Nat) :
    (setCause s page b).reg (page * 0x1000 + 0x010) = s.reg (page * 0x1000 + 0x010) ||| BitVec.ofNat 32 (2 ^ b) := by
  simp [setCause]

theorem setCause_reg_ne (page b : Nat) {a : Nat} (h : a ≠ page * 0x1000 + 0x010) : (setCause s page b).reg a = s.reg a := by
  simp only [setCause, fire_reg]
  exact State.reg_setReg_ne _ _ h

theorem setCause_fld_ne (page b : Nat) {f : Fld} (h : f.addr ≠ page * 0x1000 + 0x010) : (setCause s page b).fld f = s.fld f :=
  State.fld_congr (setCause_reg_ne s page b h)

@[simp] theorem setCause_pending (page b : Nat) : (setCause s page b).pending = s.pending := by simp [setCause]
@[simp] theorem setCause_dram (page b : Nat) : (setCause s page b).dram = s.dram := by simp [setCause]
@[simp] theorem setCause_fresh (page b : Nat) : (setCause s page b).fresh = s.fresh := by simp [setCause]
@[simp] theorem setCause_now (page b : Nat) : (setCause s page b).now = s.now := by simp [setCause]
@[simp] theorem setCause_dev (page b : Nat) : (setCause s page b).dev = s.dev := by simp [setCause]
@[simp] theorem setCause_boot (page b : Nat) : (setCause s page b).boot = s.boot := by simp [setCause]
@[simp] theorem setCause_nv (page b : Nat) : (setCause s page b).nv = s.nv := by simp [setCause]
@[simp] theorem setCause_stage (page b : Nat) : (setCause s page b).stage = s.stage := by simp [setCause]
@[simp] theorem setCause_bus (page b : Nat) : (setCause s page b).bus = s.bus := by simp [setCause]
@[simp] theorem setCause_ind (page b : Nat) : (setCause s page b).ind = s.ind := by simp [setCause]
@[simp] theorem setCause_rings (page b : Nat) : (setCause s page b).rings = s.rings := by simp [setCause]
@[simp] theorem setCause_log (page b : Nat) : (setCause s page b).log = s.log := by simp [setCause]
@[simp] theorem setCause_fab (page b : Nat) : (setCause s page b).fab = s.fab := by simp [setCause]
@[simp] theorem setCause_tss (page b : Nat) : (setCause s page b).tss = s.tss := by simp [setCause]
@[simp] theorem setCause_gates (page b : Nat) : (setCause s page b).gates = s.gates := by simp [setCause]
@[simp] theorem setCause_sec (page b : Nat) : (setCause s page b).sec = s.sec := by simp [setCause]
@[simp] theorem setCause_ports (page b : Nat) : (setCause s page b).ports = s.ports := by simp [setCause]
@[simp] theorem setCause_dtm (page b : Nat) : (setCause s page b).dtm = s.dtm := by simp [setCause]
@[simp] theorem setCause_lanes (page b : Nat) : (setCause s page b).lanes = s.lanes := by simp [setCause]
@[simp] theorem setCause_mac (page b : Nat) : (setCause s page b).mac = s.mac := by simp [setCause]
@[simp] theorem setCause_rgl (page b : Nat) : (setCause s page b).rgl = s.rgl := by simp [setCause]
@[simp] theorem setCause_cad (page b : Nat) : (setCause s page b).cad = s.cad := by simp [setCause]
@[simp] theorem setCause_upd (page b : Nat) : (setCause s page b).upd = s.upd := by simp [setCause]
@[simp] theorem setCause_cox (page b : Nat) : (setCause s page b).cox = s.cox := by simp [setCause]
@[simp] theorem setCause_red (page b : Nat) : (setCause s page b).red = s.red := by simp [setCause]
@[simp] theorem setCause_mem (page b : Nat) : (setCause s page b).mem = s.mem := by simp [setCause]
@[simp] theorem setCause_mgm (page b : Nat) : (setCause s page b).mgm = s.mgm := by simp [setCause]
@[simp] theorem setCause_pow (page b : Nat) : (setCause s page b).pow = s.pow := by simp [setCause]
@[simp] theorem setCause_bst (page b : Nat) : (setCause s page b).bst = s.bst := by simp [setCause]

/-- Recording an error touches the error registers and the cause register of its page. -/
theorem recordErr_reg_ne (page code src addr : Nat) {a : Nat} (h1 : a ≠ page * 0x1000 + 0x010) (h2 : a ≠ page * 0x1000 + 0x01C)
    (h3 : a ≠ page * 0x1000 + 0x020) : (recordErr s page code src addr).reg a = s.reg a := by
  simp only [recordErr]
  rw [setCause_reg_ne _ _ _ h1]
  split
  · rw [State.reg_setReg_ne _ _ h2]
  · rw [State.reg_setReg_ne _ _ h3, State.reg_setReg_ne _ _ h2]

@[simp] theorem recordErr_pending (page code src addr : Nat) : (recordErr s page code src addr).pending = s.pending := by
  simp only [recordErr, setCause_pending]
  split <;> rfl
@[simp] theorem recordErr_dram (page code src addr : Nat) : (recordErr s page code src addr).dram = s.dram := by
  simp only [recordErr, setCause_dram]
  split <;> rfl
@[simp] theorem recordErr_fresh (page code src addr : Nat) : (recordErr s page code src addr).fresh = s.fresh := by
  simp only [recordErr, setCause_fresh]
  split <;> rfl
@[simp] theorem recordErr_now (page code src addr : Nat) : (recordErr s page code src addr).now = s.now := by
  simp only [recordErr, setCause_now]
  split <;> rfl
@[simp] theorem recordErr_dev (page code src addr : Nat) : (recordErr s page code src addr).dev = s.dev := by
  simp only [recordErr, setCause_dev]
  split <;> rfl
@[simp] theorem recordErr_boot (page code src addr : Nat) : (recordErr s page code src addr).boot = s.boot := by
  simp only [recordErr, setCause_boot]
  split <;> rfl
@[simp] theorem recordErr_nv (page code src addr : Nat) : (recordErr s page code src addr).nv = s.nv := by
  simp only [recordErr, setCause_nv]
  split <;> rfl
@[simp] theorem recordErr_stage (page code src addr : Nat) : (recordErr s page code src addr).stage = s.stage := by
  simp only [recordErr, setCause_stage]
  split <;> rfl
@[simp] theorem recordErr_bus (page code src addr : Nat) : (recordErr s page code src addr).bus = s.bus := by
  simp only [recordErr, setCause_bus]
  split <;> rfl
@[simp] theorem recordErr_ind (page code src addr : Nat) : (recordErr s page code src addr).ind = s.ind := by
  simp only [recordErr, setCause_ind]
  split <;> rfl
@[simp] theorem recordErr_rings (page code src addr : Nat) : (recordErr s page code src addr).rings = s.rings := by
  simp only [recordErr, setCause_rings]
  split <;> rfl
@[simp] theorem recordErr_log (page code src addr : Nat) : (recordErr s page code src addr).log = s.log := by
  simp only [recordErr, setCause_log]
  split <;> rfl
@[simp] theorem recordErr_fab (page code src addr : Nat) : (recordErr s page code src addr).fab = s.fab := by
  simp only [recordErr, setCause_fab]
  split <;> rfl
@[simp] theorem recordErr_tss (page code src addr : Nat) : (recordErr s page code src addr).tss = s.tss := by
  simp only [recordErr, setCause_tss]
  split <;> rfl
@[simp] theorem recordErr_gates (page code src addr : Nat) : (recordErr s page code src addr).gates = s.gates := by
  simp only [recordErr, setCause_gates]
  split <;> rfl
@[simp] theorem recordErr_sec (page code src addr : Nat) : (recordErr s page code src addr).sec = s.sec := by
  simp only [recordErr, setCause_sec]
  split <;> rfl
@[simp] theorem recordErr_ports (page code src addr : Nat) : (recordErr s page code src addr).ports = s.ports := by
  simp only [recordErr, setCause_ports]
  split <;> rfl
@[simp] theorem recordErr_dtm (page code src addr : Nat) : (recordErr s page code src addr).dtm = s.dtm := by
  simp only [recordErr, setCause_dtm]
  split <;> rfl
@[simp] theorem recordErr_lanes (page code src addr : Nat) : (recordErr s page code src addr).lanes = s.lanes := by
  simp only [recordErr, setCause_lanes]
  split <;> rfl
@[simp] theorem recordErr_mac (page code src addr : Nat) : (recordErr s page code src addr).mac = s.mac := by
  simp only [recordErr, setCause_mac]
  split <;> rfl
@[simp] theorem recordErr_rgl (page code src addr : Nat) : (recordErr s page code src addr).rgl = s.rgl := by
  simp only [recordErr, setCause_rgl]
  split <;> rfl
@[simp] theorem recordErr_cad (page code src addr : Nat) : (recordErr s page code src addr).cad = s.cad := by
  simp only [recordErr, setCause_cad]
  split <;> rfl
@[simp] theorem recordErr_upd (page code src addr : Nat) : (recordErr s page code src addr).upd = s.upd := by
  simp only [recordErr, setCause_upd]
  split <;> rfl
@[simp] theorem recordErr_cox (page code src addr : Nat) : (recordErr s page code src addr).cox = s.cox := by
  simp only [recordErr, setCause_cox]
  split <;> rfl
@[simp] theorem recordErr_red (page code src addr : Nat) : (recordErr s page code src addr).red = s.red := by
  simp only [recordErr, setCause_red]
  split <;> rfl
@[simp] theorem recordErr_mem (page code src addr : Nat) : (recordErr s page code src addr).mem = s.mem := by
  simp only [recordErr, setCause_mem]
  split <;> rfl
@[simp] theorem recordErr_mgm (page code src addr : Nat) : (recordErr s page code src addr).mgm = s.mgm := by
  simp only [recordErr, setCause_mgm]
  split <;> rfl
@[simp] theorem recordErr_pow (page code src addr : Nat) : (recordErr s page code src addr).pow = s.pow := by
  simp only [recordErr, setCause_pow]
  split <;> rfl
@[simp] theorem recordErr_bst (page code src addr : Nat) : (recordErr s page code src addr).bst = s.bst := by
  simp only [recordErr, setCause_bst]
  split <;> rfl

/-! ### Bytes of the DRAM -/

theorem get_storeBytes_apart (bs : List Byte) (m : List Host.Cell) (a k : Nat) (h : k < a ∨ a + bs.length ≤ k) :
    Tbl.get dramByte (storeBytes m a bs) k = Tbl.get dramByte m k := by
  induction bs generalizing m a with
  | nil => rfl
  | cons x t ih =>
    simp only [List.length_cons] at h
    rw [storeBytes, ih _ _ (by omega), Tbl.get_put_ne _ _ _ (by omega)]

theorem get_storeBytes (bs : List Byte) (m : List Host.Cell) (a i : Nat) (h : i < bs.length) :
    Tbl.get dramByte (storeBytes m a bs) (a + i) = bs[i] := by
  induction bs generalizing m a i with
  | nil => simp at h
  | cons x t ih =>
    cases i with
    | zero =>
      rw [storeBytes, get_storeBytes_apart _ _ _ _ (by omega)]
      exact Tbl.get_put_self _ _ _ _
    | succ i =>
      have := ih (Tbl.put dramByte m a x) (a + 1) i (by simpa using h)
      simpa [storeBytes, Nat.add_assoc, Nat.add_comm 1 i] using this

/-- A byte outside those stored reads as before. -/
theorem State.ram_ramStore_apart (a : Nat) (bs : List Byte) {k : Nat} (h : k < a ∨ a + bs.length ≤ k) :
    (s.ramStore a bs).ram k = s.ram k := get_storeBytes_apart bs s.dram a k h

/-- The bytes stored are read back. -/
theorem State.ram_ramStore (a : Nat) (bs : List Byte) {i : Nat} (h : i < bs.length) : (s.ramStore a bs).ram (a + i) = bs[i] :=
  get_storeBytes bs s.dram a i h

end Sys2Proof.Machine
end

