-- ==== Sys2Proof/Tests/Slice0.lean ====
section
/-!
SUPPORT. Sys2Proof/Tests/Slice0.lean: small states that meet the hypotheses of the statements, what single commands do on them, and
commands that are not well-formed.
-/
namespace Sys2Proof.Tests
open Sys2Proof Sys2Proof.Machine

-- One theorem after the other: elaborated side by side, each of these evaluations would hold a thread, with its stack, until its turn at the kernel.
set_option Elab.async false

/-! ### Small states -/

/-- The state a command leaves; the state itself where the command stops. -/
def after (c : Instr) (s : State) : State :=
  match exec c s with
  | .next t => t
  | _ => s

/-- Just after reset, in a given device state, with the Datum PLL locked and the DRAM initialised. -/
def inState (n : Nat) : State :=
  { State.reset.setFld F.SYS_STATUS_DEV_STATE n with boot := { State.reset.boot with dramReady := true, pllLocked := true } }

/-- READY with a verified bundle loaded. -/
def ready : State := { inState 2 with dev := { State.reset.dev with fwVersion := some (1, 0) } }

/-- MAINTENANCE with a verified bundle loaded. -/
def maint : State := { inState 3 with dev := { State.reset.dev with fwVersion := some (1, 0) } }


/-- A descriptor of an opcode with the bytes `body` from byte 16 on. -/
def descOf (op : Nat) (body : List Byte) : List Byte := slice (leBytes 2 op ++ List.replicate 14 0#8 ++ body) 0 64

/-- A command in flight with sequence number 7. -/
def cmdOf (op : Nat) (body : List Byte) : Cmd :=
  { seq := 7, desc := descOf op body, order := 0, timeout := 1000, began := false, committed := false, done := false, asked := false,
    data := none, parts := [], written := 0, lost := false }

/-- The mailbox's command of sequence number 7. -/
def boxId : CmdId := { src := 4, seq := 7 }

/-- A state with one command in flight, taken from the mailbox. -/
def withCmd (s : State) (c : Cmd) : State := s.setRing 4 { Ring.init with cmds := [c] }

/-- What the command of the mailbox has come to: the STATUS of its first part. -/
def statusOf (s : State) : Option Nat := (outcome s boxId).bind (fun ps => ps.head?.map (fun p => p.status))

/-- A reception record of lane `n` with everything else 0. -/
def record (n : Nat) : RxRecord :=
  { lane := n, off := 0, subch := 0, sf := 7, bw := 0, mode := 0, rate := 0, length := 0, ctx := 0, alt := false, blanked := false, rssi := 0, snr := 0,
    foff := 0, rateErr := 0, ts := ⟨0, 0, 0⟩, stepGen := 0, mapType := 0, sel := 0, gen := 0, quiet := 0, nsym := 0, meanSnr := 0, iter := 0,
    tsT := none }

/-- A received frame of these bytes on lane `n`. -/
def rxFrame (n : Nat) (bytes : List Byte) (c : Checked) (stage : Nat) : RxFrame :=
  { info := record n, bytes := bytes, check := c, body := [], stage := stage, channel := 0, relay := none, epoch := 0 }

/-! ### Commands that are not well-formed -/

theorem test_wf_scrub_done : (Instr.watchDramScrubDone [8388608]).wellFormed = false := by decide
theorem test_wf_spi_write : (Instr.spiWriteInc 0 []).wellFormed = false := by decide
theorem test_wf_spi_read : (Instr.spiReadInc 0 0).wellFormed = false := by decide
theorem test_wf_spi_bad : (Instr.spiMalformedFrame 0 .write [0#32, 0#32]).wellFormed = false := by decide
theorem test_wf_fetch : (Instr.descFetchDone 0 (.data [[0#8]])).wellFormed = false := by decide
theorem test_wf_eth : (Instr.ethRxFrame 0 []).wellFormed = false := by decide
theorem test_wf_detection : (Instr.detection 0 0 4 [] 0).wellFormed = false := by decide
theorem test_wf_detection_bin : (Instr.detection 0 0 7 [⟨128, 0⟩] 0).wellFormed = false := by decide
theorem test_wf_sync_word : (Instr.syncWordFound 0 0 ⟨4096, 0⟩ ⟨0, 0⟩ 0 0#16 0).wellFormed = false := by decide
theorem test_wf_payload : (Instr.cssPayloadEnd 0 0 [0] 0#16).wellFormed = false := by decide
theorem test_wf_sync : (Instr.ptpSyncRx 0 0 0 (2 ^ 80) 0 0).wellFormed = false := by decide
theorem test_wf_header : ∀ n c v, (Instr.headerDecide n c [] v).wellFormed = false := fun _ _ _ => rfl
theorem test_wf_header_bin : (Instr.headerDecide 0 0 [0, 0, 0, 4096, 0, 0, 0, 0] 0#8).wellFormed = false := by decide
theorem test_wf_fc : ∀ n, (Instr.ofdmFcDecode n []).wellFormed = false := fun _ => rfl
theorem test_wf_bist : (Instr.bistTestDone 0#64 16777216).wellFormed = false := by decide
theorem test_wf_pdelay : ∀ p q, (Instr.ptpPdelayReqRx p q []).wellFormed = false := fun _ _ => rfl

/-- The table gives no command any bits. -/
theorem test_no_command_has_bits (nbits w : Nat) : decodeTableWord nbits w = none := rfl

/-! ### Hypotheses of the statements, and what single commands do -/

/-- The hypothesis of `Obligations.IdleStepPassesTime`. -/
theorem wit_IdleStepPassesTime : State.reset.pending = [] := rfl

/-- The hypotheses of `Obligations.StepKeepsInvariant`. -/
theorem wit_StepKeepsInvariant : StateInv State.reset ∧ StepSafe State.reset := ⟨⟨by decide, by decide⟩, _, rfl⟩

/-- The hypothesis of `Obligations.StepNeverLowersFloors`. -/
theorem wit_StepNeverLowersFloors : ∃ t, step { State.reset with pending := [.pinReset] } = .next t := ⟨_, rfl⟩

/-- The hypotheses of `Obligations.KeyHashProgrammedOnce`. -/
theorem wit_KeyHashProgrammedOnce :
    ({ State.reset with pending := [.pinReset], nv := { State.reset.nv with keyHash := .programmed [1#8] } } : State).nv.keyHash ≠ .blank ∧
      StepSafe { State.reset with pending := [.pinReset], nv := { State.reset.nv with keyHash := .programmed [1#8] } } :=
  ⟨by decide, _, rfl⟩

/-- The hypotheses of `Obligations.LatchClearedOnlyByPowerOn`. -/
theorem wit_LatchClearedOnlyByPowerOn :
    let s : State := { State.reset with pending := [.pinReset], dev := { State.reset.dev with secureLatch := true } }
    s.dev.secureLatch = true ∧ s.pending.head? ≠ some .powerOnReset ∧ StepSafe s := ⟨rfl, by decide, _, rfl⟩

/-- The hypothesis of `Obligations.CommandsLeaveQueueAndWhatWasSent`. -/
theorem wit_CommandsLeaveQueueAndWhatWasSent : ∃ t, exec .datumPllLock State.reset = .next t := ⟨_, rfl⟩

/-- The hypotheses of `Obligations.RegisterWritesActByFieldType`: both values of the LOCK bit. -/
theorem wit_RegisterWritesActByFieldType :
    ready.inOperation = true ∧ bit (ready.reg 0x1C024).toNat 0 = false ∧
      (ready.setReg 0x1C024 1#32).inOperation = true ∧ bit ((ready.setReg 0x1C024 1#32).reg 0x1C024).toNat 0 = true := by decide

/-- REG_WRITE stores a count, a field and an error. -/
theorem test_regWrite :
    (after (.regWrite .pcie 0x1E07C true 7#32) ready).reg A.CAD_FOREIGN = 7#32 ∧
      (after (.regWrite .pcie 0x1C028 true 0xFFFF#32) ready).fld F.MAC_ROUTER_ID_ID = 0x3FFF ∧
      causeSet (after (.regWrite .pcie 0x1C028 true 5#32) (ready.setReg 0x1C024 1#32)) 0x1C 31 = true ∧
      causeSet (after (.regWrite .pcie 0x1E07C false 7#32) ready) 0x04 31 = true := by decide

/-- The hypotheses of `Obligations.LockBitsOnlySet`, and a LOCK bit that a written 0 leaves. -/
theorem wit_LockBitsOnlySet :
    ready.inOperation = true ∧ implemented ((0x1C : Fin 256).val * 0x1000 + 0x024) = true ∧
      (after (.lockWrite .pcie 0x1C 2#32) (ready.setReg 0x1C024 1#32)).reg 0x1C024 = 3#32 := by decide

/-- The hypotheses of `Obligations.ErrCapClearThenFirstError`, and both cases on a page with an error held. -/
theorem wit_ErrCapClearThenFirstError :
    ready.inOperation = true ∧ (specOf ((0x1C : Fin 256).val * 0x1000 + 0x01C)).isSome = true ∧
      (after (.errCapClear .pcie 0x1C none) (recordErr ready 0x1C 5 1 4)).reg 0x1C01C = 0x00000105#32 ∧
      (after (.errCapClear .pcie 0x1C (some (.spi, 3, 9#32))) (recordErr ready 0x1C 5 1 4)).reg 0x1C01C = 0x80000203#32 := by decide

/-- The hypotheses of `Obligations.ForcedCausesAndErrorsOfAccess`. -/
theorem wit_ForcedCausesAndErrorsOfAccess :
    ready.inOperation = true ∧ (inState 1).answers = true ∧ decodes (inState 1) .pcie (wordAddr 0x1C028) = false ∧
      decodes (inState 2) .jtag (wordAddr 0x50000) = false ∧
      (specOf ((0x29 : Fin 256).val * 0x1000 + 0x018)).isSome = true ∧ causeSet (after (.irqForceWrite .pcie 0x29 3#32) ready) 0x29 1 = true ∧
      causeSet (after (.irqForceWrite .pcie 0x1E 3#32) ready) 0x1E 1 = true ∧
      (after (.undecodedAccess .spi 0x50000 false) ready).out.getLast? = some (.readAbort .spi 0x50000) := by decide

/-- The hypothesis of `Obligations.AliasWordsActOnOneBit`, and a cause cleared through its alias. -/
theorem wit_AliasWordsActOnOneBit :
    ready.inOperation = true ∧
      (after (.aliasAccess .pcie 0x1CA84 (some true)) ready).reg 0x1C014 = 2#32 ∧
      (after (.aliasAccess .pcie 0x1EA04 (some true)) (ready.setReg 0x1E010 7#32)).reg 0x1E010 = 5#32 ∧
      (after (.aliasAccess .pcie 0x1EA04 none) (ready.setReg 0x1E010 2#32)).out = [.readData .pcie 0x1EA04 1#32] := by decide

/-- The hypotheses of `Obligations.WideValuesHeldLatchedPeeked`. -/
theorem wit_WideValuesHeldLatchedPeeked :
    ready.inOperation = true ∧ Tbl.get noHold ready.bus.hold Requester.pcie.code = noHold 0 ∧
      wideOf (wordAddr 0x31048) = some (wordAddr 0x31048, 2) ∧ wideOwned (wordAddr 0x31048 / 0x1000) = false ∧
      wordLocked ready (wordAddr 0x31048) = false ∧
      (Tbl.get noHold (after (.wideWordWrite .pcie 0x31048 7#32) ready).bus.hold Requester.pcie.code).base = 0x31048 ∧
      (peekOf (wordAddr 0x29500 / 0x1000) (wordAddr 0x29500 % 0x1000)).isSome = true ∧
      (peekOf (wordAddr 0x29504 / 0x1000) (wordAddr 0x29504 % 0x1000)).isSome = true ∧
      (after (.wideLowWordRead .pcie 0x31048) (ready.setReg 0x31048 5#32)).out = [.readData .pcie 0x31048 5#32] ∧
      (after (.peekRead .pcie 0x29500) ready).out.length = 1 := by decide

/-- The hypotheses of `Obligations.IndirectAddressControlAndBusy`: both values of BUSY. -/
theorem wit_IndirectAddressControlAndBusy :
    ready.inOperation = true ∧ ready.flag F.IND_IND_STATUS_BUSY = false ∧
      (ready.setFld F.IND_IND_STATUS_BUSY 1).inOperation = true ∧ (ready.setFld F.IND_IND_STATUS_BUSY 1).flag F.IND_IND_STATUS_BUSY = true ∧
      (after (.indAddrWrite .pcie 0x40000005#32) ready).reg A.IND_IND_ADDR = 0x40000005#32 ∧
      (after (.indDataWrite .pcie 1#32) (ready.setFld F.IND_IND_STATUS_BUSY 1)).flag F.IND_IND_STATUS_OVERRUN = true := by decide

/-- A refused access in progress. -/
def refusedAccess (write : Bool) : State :=
  { ready with ind := { ready.ind with busy := some { write := write, made := false, addr := 0#32, data := 0#32, fromGroup := false, src := .pcie } } }

/-- The hypotheses of `Obligations.IndirectReadsAndWritesComplete`: write mode, read mode, a word that waits, refused accesses. -/
theorem wit_IndirectReadsAndWritesComplete :
    ready.inOperation = true ∧ ready.flag F.IND_IND_STATUS_BUSY = false ∧ ready.flag F.IND_IND_CTRL_MODE = false ∧
      (ready.setFld F.IND_IND_CTRL_MODE 1).flag F.IND_IND_CTRL_MODE = true ∧
      (ready.setFld F.IND_IND_STATUS_RD_VALID 1).flag F.IND_IND_STATUS_RD_VALID = true ∧
      (refusedAccess true).answers = true ∧ (refusedAccess true).ind.busy.isSome = true ∧ (refusedAccess false).answers = true ∧
      (after .indWriteAck (refusedAccess true)).ind.busy = none ∧
      (after (.indPrefetchDone .clean none) (refusedAccess false)).flag F.IND_IND_STATUS_RD_VALID = true := by decide

/-- READY with the first words of a wide value held for the host. -/
def holdingWords (base : Nat) (ws : List Word) : State :=
  setHold ready .pcie { base := base, words := (List.range ws.length).map (fun j => (base + 4 * j, ws.getD j 0#32)) }

/-- Further hypotheses of `Obligations.WideValuesHeldLatchedPeeked`: values of two and of three words that may be written, written from the
lowest word to the highest, and the highest word alone. -/
theorem wit_WideValuesHeldLatchedPeeked_commit :
    WideOpen ready 0x26040 2 ∧ WideOpen ready (A.GCL_L_ADMIN_BASE 0) 3 ∧ WideOpen ready (A.CMD_RING_SQ_BASE 1) 2 ∧
      WideOpen ready A.CMD_EVR_BASE 2 ∧ WideOpen ready (A.FAB_HRX_BASE 7) 2 ∧
      heldBy (after (.wideWordWrite .pcie 0x26040 5#32) ready) .pcie = { base := 0x26040, words := [(0x26040, 5#32)] } ∧
      heldBy (holdingWords 0x26040 [5#32]) .pcie = { base := 0x26040, words := (List.range 1).map (fun j => (0x26040 + 4 * j, 5#32)) } ∧
      (let t := after (.wideWordWrite .pcie 0x26044 6#32) (holdingWords 0x26040 [5#32])
       t.reg 0x26040 = 5#32 ∧ t.reg 0x26044 = 6#32) ∧
      (let t := after (.wideWordWrite .pcie 0x26044 6#32) ready
       t.reg 0x26040 = ready.reg 0x26040 ∧ t.reg 0x26044 = 6#32) ∧
      (let t := after (.wideWordWrite .pcie 0x23054 1#32) (holdingWords 0x2304C [5#32, 6#32])
       t.reg 0x2304C = 5#32 ∧ t.reg 0x23050 = 6#32 ∧ t.reg 0x23054 = 1#32) := by
  refine ⟨.inl (by decide), .inr (.inl ⟨0, by decide⟩), .inr (.inr (.inl ⟨1, by decide⟩)), .inr (.inr (.inr (.inl (by decide)))),
    .inr (.inr (.inr (.inr ⟨7, by decide⟩))), ?_⟩
  decide +kernel

/-- Further hypotheses of `Obligations.IndirectAddressControlAndBusy`: read mode, and the control word with each kind of `INC`. -/
theorem wit_IndirectAddressControlAndBusy_taken :
    (let s := ready.setFld F.IND_IND_CTRL_MODE 1
     s.flag F.IND_IND_CTRL_MODE = true ∧ s.flag F.IND_IND_STATUS_BUSY = false ∧
       (after (.indAddrWrite .pcie 0x40000005#32) s).flag F.IND_IND_STATUS_BUSY = true) ∧
      (after (.indCtrlWrite .pcie 0x12#32) ready).fld F.IND_IND_CTRL_INC = 2 ∧
      (after (.indCtrlWrite .pcie 0x13#32) ready).fld F.IND_IND_CTRL_INC = ready.fld F.IND_IND_CTRL_INC := by decide +kernel

/-- MAINTENANCE with an access in progress to word 5 of an indirect domain. -/
def madeAccess (write : Bool) (dom : Nat) : State :=
  { maint with ind := { maint.ind with
      busy := some { write := write, made := true, addr := BitVec.ofNat 32 (dom * 2 ^ 28 + 5), data := 0xABCD1234#32, fromGroup := false, src := .pcie } } }

/-- Further hypotheses of `Obligations.IndirectReadsAndWritesComplete`: accesses that were made, and a word read too early. -/
theorem wit_IndirectReadsAndWritesComplete_made :
    (madeAccess true 9).answers = true ∧ (after .indWriteAck (madeAccess true 9)).ramNat (indBase 9 + 20) 4 = 0xABCD1234 ∧
      (after .indWriteAck (madeAccess true 8)).ramNat 20 3 = 0xCD1234 ∧
      (after .indWriteAck (madeAccess true 2)).ramNat 20 3 = 0 ∧ (madeAccess false 9).boot.dramReady = true ∧
      indLostRecord (madeAccess false 9) 9 5 = false ∧
      (after (.indPrefetchDone .clean none) (madeAccess false 9)).ind.group.isSome = true ∧
      (after (.indPrefetchDone (.ue 0) none) (madeAccess false 9)).flag F.IND_IND_STATUS_UE = true ∧
      (let s := ready.setFld F.IND_IND_STATUS_RD_VALID 0
       s.flag F.IND_IND_STATUS_RD_VALID = false ∧ (after (.indDataRead .pcie) s).flag F.IND_IND_STATUS_EARLY = true) := by decide +kernel

/-- The hypotheses of `Obligations.ResetsRestartTheDevice`, and a pin reset of a device that holds memory. -/
theorem wit_ResetsRestartTheDevice :
    ready.dev.inReset = false ∧ ready.devState ≠ 5 ∧ ready.dev.bistRan = false ∧ ready.answers = true ∧
      (after (.resetCtrlWrite .pcie 0x5AFE0001#32) ready).dev.softResetDue = true ∧
      (after (.resetCtrlWrite .pcie 0x5AFE0001#32) ready).answers = true ∧
      (after .pinReset (ready.ramStore 5 [7#8])).ram 5 = 0#8 ∧ (after .jtagReset ready).fld F.NVC_RESET_SRC_LAST = 4 ∧
      (after .brownOut ready).fld F.NVC_RESET_SRC_SEEN = 0x21 := by decide +kernel

/-- The hypothesis of `Obligations.SoftwareResetIsRequestedByOneValue`, and a value that is not the request. -/
theorem wit_SoftwareResetIsRequestedByOneValue :
    ready.inOperation = true ∧ bit (ready.reg 0x0101C).toNat 31 = false ∧
      (after (.resetCtrlWrite .spi 1#32) ready).reg 0x0101C = 0x80000205#32 := by decide +kernel

/-- The hypotheses of `Obligations.ResetReleaseEntersBootOrSecureHold`: a device in RESET, with and without the latch. -/
theorem wit_ResetReleaseEntersBootOrSecureHold :
    (after .pinReset ready).dev.inReset = true ∧ (after .pinReset ready).dev.secureLatch = false ∧
      (after (.resetRelease true) (after .pinReset ready)).booting = true ∧
      (after .pinReset { ready with dev := { ready.dev with secureLatch := true } }).dev.secureLatch = true ∧
      (after (.resetRelease true) (after .pinReset { ready with dev := { ready.dev with secureLatch := true } })).devState = 4 := by
  decide

/-- In BOOT with the PLLs locked and copy A being applied, whose only record is `r`, waiting for `w`. -/
def applying (r : List Byte) (w : SeletWait) : State :=
  { inState 1 with nv := { State.reset.nv with copyA := List.replicate 64 0#8 ++ r },
                   boot := { State.reset.boot with pllLocked := true, seletChecked := true, seletCopy := 1, seletWait := w } }

/-- A record of 16 bytes: PAGE, KIND and STOP, OFFSET, MASK, VALUE, PARAM. -/
def recBytes (page kind offset mask value param : Nat) : List Byte :=
  leBytes 1 page ++ leBytes 1 kind ++ leBytes 2 offset ++ leBytes 4 mask ++ leBytes 4 value ++ leBytes 4 param

/-- The hypotheses of `Obligations.BootChoosesAndAppliesTheImage`, clause by clause. -/
theorem wit_BootChoosesAndAppliesTheImage :
    State.reset.booting = true ∧ State.reset.boot.pllLocked = false ∧ State.reset.nv.keyHash = .blank ∧
      (after .datumPllLock State.reset).booting = true ∧ (after .datumPllLock State.reset).boot.pllLocked = true ∧
      (after .seletCheck (after .datumPllLock State.reset)).boot.seletDone = true ∧
      (applying (recBytes 0 2 0 0 0 5) .none).booting = true ∧ seletActive (applying (recBytes 0 2 0 0 0 5) .none) = true ∧
      (currentRec (applying (recBytes 0 2 0 0 0 5) .none)).kind = 2 ∧
      (after .seletRecordApply (applying (recBytes 0x1E 1 0x07C 0 0 5) .none)).boot.seletWait = .poll ∧
      (after .seletRecordApply (applying (recBytes 0x1E 0 0x07C 0xFFFFFFFF 9 0) .none)).reg A.CAD_FOREIGN = 9#32 ∧
      (after .seletRecordApply (applying (recBytes 0 15 0 0 0 0) .none)).boot.seletDone = true ∧
      pollMatches (applying (recBytes 0x1E 1 0x07C 0 0 5) .poll) (currentRec (applying (recBytes 0x1E 1 0x07C 0 0 5) .poll)) = true ∧
      (after .seletPollTimeout (applying (recBytes 0x1E 0x11 0x07C 0 0 5) .poll)).boot.seletDone = true ∧
      (after .seletDelayExpiry (applying (recBytes 0 2 0 0 0 5) .delay)).boot.seletIndex = 1 := by decide +kernel

/-- In BOOT with the image applied; its FLAGS are `flags`, its DRAM ready or not, after WATCH or not. -/
def applied (flags : Nat) (dram watch : Bool) : State :=
  { inState 1 with nv := { State.reset.nv with copyA := List.replicate 6 0#8 ++ leBytes 2 flags ++ List.replicate 56 0#8 },
                   boot := { State.reset.boot with pllLocked := true, seletChecked := true, seletCopy := 1, seletDone := true,
                                                   dramReady := dram, fromWatch := watch } }

/-- The hypotheses of `Obligations.BootPreparesTheDram`, clause by clause. -/
theorem wit_BootPreparesTheDram :
    (applied 4 false false).booting = true ∧ marchDue (applied 4 false false) = true ∧ marchDue (applied 0 false false) = false ∧
      (applied 0 false false).bst.run = none ∧ (applied 0 false false).fld F.NVC_CTRL_FW_SRC ≠ 2 ∧
      (applied 0 false false).log.queue.length = 1 ∧ (after .dramInitDone (applied 0 false false)).log.queue = [] ∧
      (after .dramInitDone (applied 4 false false)).log.queue.length = 1 ∧ marchDue (applied 4 true false) = true ∧ (applied 4 true false).boot.dramReady = true ∧
      (applied 0 true true).boot.watchScrubbed = false ∧
      (after (.watchDramScrubDone []) (applied 0 true true)).boot.watchScrubbed = true := by decide +kernel

/-- Facts of a bundle that passes, or that is blank. -/
def bundle (blank : Bool) : BundleFacts :=
  { blank := blank, formatOk := true, keyOk := true, signatureOk := true, hashesOk := true, rollback := 3, major := 1, minor := 2 }

/-- The hypotheses of `Obligations.BootLoadsABundleAndEnds`, clause by clause. -/
theorem wit_BootLoadsABundleAndEnds :
    searchOpen (applied 0 true false) = true ∧ fwOrder (applied 0 true false) < 2 ∧
      (applied 0 true false).flag F.NVC_STATUS_FW_WAIT = false ∧ (applied 0 true false).boot.fwTried = 0 ∧
      (after (.fwBundleCheck false (bundle false)) (applied 0 true false)).engine 7 = .running ∧
      (after (.fwBundleCheck false (bundle true)) (applied 0 true false)).fld F.NVC_FW_STATUS_PRIMARY = 1 ∧
      searchOpen ((applied 0 true false).setFld F.NVC_STATUS_FW_WAIT 1) = true ∧
      (after .hostBundleWaitExpiry ((applied 0 true false).setFld F.NVC_STATUS_FW_WAIT 1)).engine 15 = .running ∧
      (let s := { inState 1 with boot := { State.reset.boot with fwDone := true } }
       s.booting = true ∧ s.dev.fwVersion = none ∧ (after (.bootDone 9) (s.setFld F.AON_STATUS_MAINS_OK 1)).devState = 3) ∧
      (let s := { inState 1 with boot := { State.reset.boot with fwDone := true, keysLoaded := true, trngDone := true },
                                 dev := { State.reset.dev with fwVersion := some (1, 2), fwRollback := 3 } }
       s.booting = true ∧ bootReady s = true ∧ s.boot.seletCopy = 0 ∧ (after (.bootDone 9) s).nv.fwFloor = 3 ∧
         (after (.bootDone 9) (s.setFld F.AON_STATUS_MAINS_OK 1)).devState = 2) := by decide +kernel

/-- The hypotheses of `Obligations.StagingBufferTakesWordsAndRunsOneOperation`, and each command on a small buffer. -/
theorem wit_StagingBufferTakesWordsAndRunsOneOperation :
    maint.inOperation = true ∧ maint.flag F.NVC_STAGE_GO_GO = false ∧ maint.flag F.NVC_LOCK_LOCK1 = false ∧
      maint.stage.words.length < stageCapacity (maint.fld F.NVC_STAGE_CTRL_TARGET) ∧
      (after (.stageTargetWrite .pcie 2#32) maint).fld F.NVC_STAGE_CTRL_TARGET = 2 ∧
      (after (.stageDataWrite .pcie 7#32) maint).stage.words = [7#32] ∧
      (after (.stageClear .pcie) (after (.stageDataWrite .pcie 7#32) maint)).stage.words = [] ∧
      (let full := { maint.setFld F.NVC_STAGE_CTRL_TARGET 2 with stage := { words := List.replicate 8 0#32, op := none } }
       stageCapacity (full.fld F.NVC_STAGE_CTRL_TARGET) ≤ full.stage.words.length ∧
         (after (.stageDataWrite .pcie 7#32) full).flag F.NVC_STAGE_COUNT_OVERFLOW = true ∧
         (after (.keyHashProgram .pcie) full).stage.op.isSome = true ∧
         (after (.keyHashProgram .pcie) full).flag F.NVC_STAGE_GO_GO = true) ∧
      (after (.seletImageWrite .pcie) maint).stage.op.isSome = true ∧
      (after (.hostBundleStage .pcie (bundle false)) (maint.setFld F.NVC_STAGE_CTRL_TARGET 1)).stage.op.isSome = true ∧
      (after (.stageClear .pcie) (after (.seletImageWrite .pcie) maint)).stage.op.isSome = true ∧
      causeSet (after (.stageClear .pcie) (after (.seletImageWrite .pcie) maint)) 0x01 31 = true := by decide +kernel

/-- The hypotheses of `Obligations.StagedOperationEndsWithItsReason`, for both targets. -/
theorem wit_StagedOperationEndsWithItsReason :
    (let op : StageOp := { target := 2, reason := 0, copy := 0, words := List.replicate 8 1#32, bundle := none, src := 1 }
     let s := { maint.setFld F.NVC_STAGE_GO_GO 1 with stage := { words := op.words, op := some op } }
     s.answers = true ∧ s.bus.goPending.contains (A.NVC_STAGE_GO * 32) = false ∧
       (after (.stageOpDone true) s).nv.keyHash = .programmed (stagedBytes op.words) ∧
       (after (.stageOpDone true) s).flag F.NVC_STAGE_GO_GO = false) ∧
    (let op : StageOp := { target := 0, reason := 4, copy := 1, words := [1#32], bundle := none, src := 1 }
     let s := { maint with stage := { words := op.words, op := some op } }
     (after (.stageOpDone true) s).reg A.NVC_STAGE_RESULT = 0x80000401#32 ∧ (after (.stageOpDone true) s).nv = s.nv) := by decide +kernel

/-- READY with PERST_N high, Bus Master Enable and MSI-X enable 1, and ring 0 RUNNING. -/
def attached : State :=
  { ready.setFld (F.CMD_RING_STATUS_STATE 0) 1 with
    host := { State.reset.host with perstLow := false, busMaster := true, msixEnable := true, vecMask := 0 } }

/-- The hypotheses of `Obligations.HostResetsLeaveTheRest`, on a device with a running ring. -/
theorem wit_HostResetsLeaveTheRest :
    attached.answers = true ∧ attached.pow.refLost.contains 2 = false ∧ ringState attached 0 = 1 ∧
      ringState (after .functionLevelReset attached) 0 = 0 ∧ causeSet (after .perstNAssert attached) 0x04 1 = true ∧
      (after .perstNRelease (after .perstNAssert attached)).flag F.SYS_CLK_STATUS_PCIE_PLL = true := by decide +kernel

/-- The hypotheses of `Obligations.LinkBusMasterAndVectorsOfTheHost`: messages due, an active vector, an idle one. -/
theorem wit_LinkBusMasterAndVectorsOfTheHost :
    attached.answers = true ∧ attached.inOperation = true ∧ attached.host.perstLow = false ∧ ready.host.msixEnable = false ∧
      (after (.pcieLinkChange true 4 2) attached).fld F.HIF_STATUS_SPEED = 4 ∧
      causeSet (after (.pcieLinkChange true 4 2) attached) 0x04 0 = true ∧
      (after (.perVectorMaskWrite (.mask 3) false) { attached with host := { attached.host with vecMask := 8, vecDue := 8 } }).out = [.msix 3] ∧
      (after (.poisonedWrite 0x04028) attached).reg 0x0401C = 0x80000180#32 ∧
      (after (.perVectorMaskWrite (.read 0x800) false) { attached with host := { attached.host with vecDue := 8 } }).out = [.bar2 0x800 (bar2Word { attached with host := { attached.host with vecDue := 8 } } 0x800)] ∧
      (after (.perVectorMaskWrite (.write 16 7#32) false) attached).out = [] ∧ bar2Word (after (.perVectorMaskWrite (.write 16 7#32) false) attached) 16 = 7#32 ∧
      (after (.busMasterEnableWrite (.sizes true 2) false false) attached).host.cfg.maxRead = 512 ∧
      (activeVectors attached).contains 5 = false ∧ (after (.vecRearmWrite .pcie 5#32) attached).out = [] ∧
      (let s := ((attached.setReg 0x1E010 1#32).setReg 0x1E014 1#32)
       (activeVectors s).contains 7 = false ∧ (activeVectors s).isEmpty = false ∧
         (after (.vecRearmWrite .pcie (BitVec.ofNat 32 ((activeVectors s).headD 0))) s).out.length = 1) := by decide +kernel

/-- The hypotheses of `Obligations.SpiFramesReadAndWriteRegisters`, and frames whose bytes are seen. -/
theorem wit_SpiFramesReadAndWriteRegisters :
    ready.inOperation = true ∧ ready.fld F.HIF_CTRL_HOST_IF ≠ 0 ∧ decodes ready .spi (wordAddr 0x50000) = false ∧
      (after (.spiReadInc 0x1E07C 2) ((ready.setReg 0x1E07C 0x01020304#32).setReg 0x1E080 9#32)).out =
        [.spi [0#8, 1#8, 2#8, 3#8, 4#8, 0#8, 0#8, 0#8, 9#8]] ∧
      (after (.spiWrite 0x50000 0#32) ready).out = [.spi [1#8]] ∧
      (after (.spiRead 0x1E07C) (after (.spiMalformedFrame 0x1E07C .unknown []) ready)).out = [.spi [4#8, 0#8, 0#8, 0#8, 0#8]] := by decide +kernel

/-- Ring 0 configured, in state `n`, its record `r`. -/
def ringIn (n : Nat) (r : Ring) : State :=
  (((attached.setFld (F.CMD_RING_SIZE_SQ_LOG2 0) 6).setFld (F.CMD_RING_SIZE_CQ_LOG2 0) 6).setFld (F.CMD_RING_STATUS_STATE 0) n).setRing 0 r

/-- The hypotheses of `Obligations.RingControlAndPointers`, clause by clause. -/
theorem wit_RingControlAndPointers :
    (ringIn 0 Ring.init).inOperation = true ∧ ringState (ringIn 0 Ring.init) 0 = 0 ∧ ringConfigOk (ringIn 0 Ring.init) 0 = true ∧
      ringState (after (.ringEnableWrite .pcie 0 1#32) (ringIn 0 Ring.init)) 0 = 1 ∧
      ringState (after (.ringEnableWrite .pcie 0 0#32) (ringIn 1 Ring.init)) 0 = 2 ∧
      (after (.ringReset .pcie 0 0#32) ((ringIn 0 Ring.init).setReg (A.CMD_RING_SQ_TAIL 0) 5#32)).reg (A.CMD_RING_SQ_TAIL 0) = 0#32 ∧
      ((after (.ringReset .pcie 0 1#32) (ringIn 3 Ring.init)).ring 0).heldEnable = true ∧
      causeSet (after (.ringConfigWrite .pcie 0x05058 0#32) (ringIn 1 Ring.init)) 0x05 31 = true ∧ wordAddr 0x05058 = A.CMD_RING_SIZE 0 ∧
      (after (.ringConfigWrite .pcie 0x05058 0x00060006#32) (ringIn 0 Ring.init)).fld (F.CMD_RING_SIZE_SQ_LOG2 0) = 6 ∧
      sqSize (ringIn 0 Ring.init) 0 = 64 ∧ cqSize (ringIn 0 Ring.init) 0 = 64 ∧
      (after (.sqTailDoorbell .pcie 0 63#32) (ringIn 0 Ring.init)).fld (F.CMD_RING_SQ_TAIL_TAIL 0) = 63 ∧
      causeSet (after (.sqTailDoorbell .pcie 0 64#32) (ringIn 0 Ring.init)) 0x05 31 = true ∧
      (after (.cqHeadWrite .pcie 0 63#32) (ringIn 0 Ring.init)).fld (F.CMD_RING_CQ_HEAD_HEAD 0) = 63 ∧
      allDone (ringIn 3 { Ring.init with resetArmed := true } |>.ring 0) = true ∧
      ringState (after (.ringResetEffect 0) (ringIn 3 { Ring.init with resetArmed := true })) 0 = 0 ∧
      ringState (after (.ringStoppingEnd 0) (ringIn 2 Ring.init)) 0 = 0 := by decide +kernel

/-- The hypotheses of `Obligations.DescriptorsBecomeCommands`: a fetch outstanding, a descriptor of an unknown opcode, commands in
flight. -/
theorem wit_DescriptorsBecomeCommands :
    (let s := ringIn 1 { Ring.init with fetch := some { first := 0, count := 2 } }
     s.answers = true ∧ ringState s 0 = 1 ∧ ((after (.descFetchDone 0 (.data [[0#8, 0#8, 1#8]])) s).ring 0).fetched.length = 1 ∧
       ringState (after (.descFetchDone 0 .failed) s) 0 = 3) ∧
    (let s := ringIn 0 { Ring.init with staleFetches := 1 }
     (s.ring 0).staleFetches ≠ 0 ∧ ringState s 0 = 0 ∧ ((after (.descFetchDone 0 (.stale false)) s).ring 0).staleFetches = 0 ∧
       causeSet (after (.descFetchDone 0 (.stale true)) s) 0x05 31 = true) ∧
    (let s := ready.setRing 4 { Ring.init with fetched := [descOf 0x0777 []] }
     takes s = true ∧ statusOf (after .descriptorTake (s.setRing 4 { s.ring 4 with mbxSeq := 7 })) = some 0x10) ∧
    (let s := withCmd ready { cmdOf 0x0201 (leBytes 2 3 ++ leBytes 2 2) with asked := true }
     s.answers = true ∧ (findCmd s boxId).isSome = true ∧ cmdData (descOf 0x0201 (leBytes 2 3 ++ leBytes 2 2)) = some (0, 2) ∧
       (findCmd (after (.cmdDataReadDone boxId (some [1#8, 2#8])) s) boxId).map (fun c => c.data) = some (some [1#8, 2#8]) ∧
       statusOf (after (.cmdDataReadDone boxId none) s) = some 0x13 ∧ startable s boxId = true ∧
       statusOf (after (.commandTimeout boxId) s) = some 0x40) := by decide +kernel

/-- The hypotheses of `Obligations.CompletionsAreWrittenInOrder`, clause by clause. -/
theorem wit_CompletionsAreWrittenInOrder :
    (let c := { cmdOf 1 [] with done := true, parts := onePart 0x10 0 [] }
     (let s := ringIn 1 { Ring.init with cmds := [c] }
      s.answers = true ∧ recordRoom s 0 = true ∧ (after (.completionWrite 0) s).fld (F.CMD_RING_CQ_TAIL_TAIL 0) = 1 ∧
        (after (.completionWrite 0) s).out.length = 2) ∧
     (let s := withCmd ready c
      s.answers = true ∧ ((after (.completionWrite 4) s).ring 4).queue.length = 1)) ∧
    ready.inOperation = true ∧ (after (.mbxSubmit .pcie 1#32) ready).flag F.CMD_MBX_SUBMIT_GO = true ∧
      ((after .mbxDescCopy (after (.mbxSubmit .pcie 1#32) ready)).ring 4).fetched.length = 1 ∧
      ((after (.mbxCplPop .pcie) (ready.setRing 4 { Ring.init with queue := [[1#8], [2#8]] })).ring 4).queue = [[2#8]] ∧
      ((after (.mbxCplPop .jtag) (ready.setRing 4 { Ring.init with queue := [[1#8], [2#8]] })).ring 4).queue.length = 2 ∧
      (let s := (ready.setFld (F.CMD_RING_COAL_TIME_US 1) 9).setRing 1 { Ring.init with coalCount := 2 }
       (s.ring 1).coalCount ≠ 0 ∧ causeSet (after (.coalTimerExpiry 1) s) 0x05 1 = true) ∧
      (let s := setHrxCount (ready.setFld (F.FAB_HRX_COAL_TIME_US 7) 9) 7 2
       hrxCount s 7 ≠ 0 ∧ causeSet (after (.coalTimerExpiry 12) s) 0x20 15 = true) := by decide +kernel

/-- The hypotheses of `Obligations.EventsAreRecordedAndCopied`, clause by clause. -/
theorem wit_EventsAreRecordedAndCopied :
    storeUsable ready = true ∧ ready.log.queue.length = 1 ∧ (after .eventRecordWrite ready).ram 0x0720000C = 1#8 ∧
      (after .eventRecordWrite ready).reg A.CMD_LOG_NEXT_SEQ = 1#32 ∧
      (let s := { attached.setFld F.CMD_EVR_CTRL_LOG2 6 with log := { attached.log with evrOn := true, missed := some (3, 5) } }
       s.answers = true ∧ evrRoom s = true ∧ (after .evrBreakWrite s).fld F.CMD_EVR_TAIL_TAIL = 1 ∧ evrSize s = 64 ∧
         (after (.evrHeadWrite .pcie 63#32) s).fld F.CMD_EVR_HEAD_HEAD = 63 ∧
         causeSet (after (.evrHeadWrite .pcie 64#32) s) 0x05 31 = true ∧ (after (.evrEnableWrite .pcie 0#32) s).log.evrOn = false) ∧
      attached.inOperation = true ∧ attached.host.busMaster = true ∧ attached.wide A.CMD_EVR_BASE % 32 = 0 ∧
      (after (.evrEnableWrite .pcie 0x00600001#32) attached).log.evrOn = true := by decide +kernel

/-- The hypotheses of `Obligations.DeviceCommandsChangeTheDeviceState`, clause by clause. -/
theorem wit_DeviceCommandsChangeTheDeviceState :
    (starting (withCmd ready (cmdOf 1 [])) boxId 1).isSome = true ∧ (after (.benchmark boxId) (withCmd ready (cmdOf 1 []))).rings.length = 1 ∧
      (let s := withCmd ready (cmdOf 2 [])
       s.ready = true ∧ holdUp s = false ∧ s.pow.entry = none ∧ (after (.maintEnter boxId) s).devState = 3 ∧
         statusOf (after .maintEnterDone (after (.maintEnter boxId) s)) = some 0) ∧
      (let s := withCmd maint (cmdOf 3 [])
       s.inOperation = true ∧ s.devState = 3 ∧ (starting s boxId 3).isSome = true ∧
         (after (.maintExit boxId) (s.setFld F.AON_STATUS_MAINS_OK 1)).devState = 2 ∧
         ((after (.maintExit boxId) s).ring 4).queue.length = 1 ∧
         (after (.maintExit boxId) { s with dev := { s.dev with bistRan := true } }).dev.resetCode = 7) ∧
      (let s := withCmd ready (cmdOf 4 [])
       (starting s boxId 4).isSome = true ∧ (after (.watchEnter boxId) s).pow.entry.map (fun e => e.commanded) = some true) ∧
      (let s := withCmd ready (cmdOf 6 [])
       s.red.swap = none ∧ (starting s boxId 6).isSome = true ∧ (after (.roleSwap boxId) s).red.swap = some boxId) := by decide +kernel

/-- MAINTENANCE with engines running and two self-tests to do. -/
def testing : State :=
  { maint with bst := { State.reset.bst with run := some { id := boxId, tests := [3, 4], parts := [], failed := 0, firstFailed := 0xFF, micros := 0 } } }

/-- The hypotheses of `Obligations.SelfTestsRunOneAfterAnother`, clause by clause. -/
theorem wit_SelfTestsRunOneAfterAnother :
    (let s := withCmd maint (cmdOf 5 (leBytes 4 2))
     s.inOperation = true ∧ s.bst.run = none ∧ (starting s boxId 5).isSome = true ∧ (after (.bistRun boxId) s).dev.bistRan = true ∧
       (after (.bistRun boxId) s).flag F.BST_STATUS_RUNNING = true) ∧
      testing.answers = true ∧ testing.bst.run.map (fun r => r.tests) = some [3, 4] ∧
      (let s := ready.setEngine 9 .running
       restartable s (9 : Fin 15) = true ∧ (after (.engineRestart 9 false []) s).engine 9 = .restarting ∧
         (after (.engineRestartDone 9) (after (.engineRestart 9 false []) s)).engine 9 = .running) ∧
      (let s := (ready.setEngine 2 .running).setFld (F.LRF_STATUS_STATE 1) 1
       restartable s 2 = true ∧ (after (.engineRestart 2 true []) s).engine 2 = .restarting) ∧
      (let s := (ready.setEngine 3 .running).setFld (F.LRF_STATUS_STATE 1) 1
       restartable s 3 = true ∧ (after (.engineRestart 3 true []) s).engine 3 = .restarting) := by
  decide +kernel

/-- A state with a node in parcel 5 that is in use, of class 0. -/
def withNode (s : State) : State := s.ramStore (256 * 5) (List.replicate 8 1#8 ++ [4#8])

/-- A state whose cadastre holds every parcel. -/
def fullCadastre (s : State) : State := { s with dram := (List.range' 0 262144).map (fun p => (256 * p + 8, 4#8)) }

theorem firstGap_range : ∀ (k n : Nat), firstGap (List.range' n k) n = n + k
  | 0, _ => rfl
  | k + 1, n => by
    rw [List.range'_succ, firstGap, if_pos rfl, firstGap_range k (n + 1)]
    omega

theorem usedParcels_full (s : State) : usedParcels (fullCadastre s) = List.range' 0 262144 := by
  unfold usedParcels fullCadastre
  rw [List.filterMap_map]
  refine Eq.trans (List.filterMap_congr (g := some) ?_) List.filterMap_some
  intro p hp
  rw [List.mem_range'_1] at hp
  have h1 : 256 * p + 8 < 0x4000000 := by omega
  have h2 : (256 * p + 8) % 256 = 8 := by omega
  have h3 : (256 * p + 8) / 256 = p := by omega
  have h4 : bit (4#8 : BitVec 8).toNat 2 = true := by decide
  simp only [Function.comp_apply, h1, h2, h3, h4, decide_true, Bool.and_self, if_true]

/-- The full cadastre of the case `addFull = 1` of `Obligations.NodeCommandsKeepTheCadastre`. -/
theorem wit_addFull (s : State) (cls : Nat) : addFull (fullCadastre s) cls = 1 := by
  have : freeParcelIndex (fullCadastre s) = 262144 := by
    rw [freeParcelIndex, usedParcels_full, firstGap_range]
  simp [addFull, this, parcelCount]

/-- The hypotheses of `Obligations.NodeCommandsKeepTheCadastre`, clause by clause. -/
theorem wit_NodeCommandsKeepTheCadastre :
    (let c := cmdOf 0x0101 (List.replicate 8 9#8 ++ [0#8])
     let s := withCmd ready c
     s.engaged = true ∧ nodeTurn s c = true ∧ holding s = false ∧ addFull s 0 = 0 ∧
       pInUse (after (.nodeAdd boxId) s) 0 = true ∧ statusOf (after (.nodeAdd boxId) s) = some 0) ∧
      (let s := withNode (withCmd ready (cmdOf 0x0101 (List.replicate 8 1#8 ++ [0#8])))
       addFull s 0 = 0 ∧ statusOf (after (.nodeAdd boxId) s) = some 0) ∧
      (let s := withNode (withCmd ready (cmdOf 0x0102 (leBytes 4 5)))
       pInUse s 5 = true ∧ pClass s 5 ≠ 2 ∧ pRelayed s 5 = false ∧ mbxCount s 5 = 0 ∧ nodeEntries s 5 = [] ∧ pendingIn s 5 = none ∧
         s.cad.dls.any (fun d => d.carries == some 5) = false ∧
         pInUse (after (.nodeRemove boxId) s) 5 = false ∧ statusOf (after (.nodeRemove boxId) s) = some 0) ∧
      statusOf (after (.nodeRead boxId) (withNode (withCmd ready (cmdOf 0x0103 (leBytes 4 5))))) = some 0 ∧
      (let c := { cmdOf 0x0104 (leBytes 4 5 ++ [1#8]) with data := some [7#8] }
       let s := withNode (withCmd ready c)
       s.ready = true ∧ pInUse s 5 = true ∧ (dlEntry c.desc).mode1 = true ∧ (takeCells s true 1).1.length = 1) ∧
      (let s := withCmd ready (cmdOf 0x0105 (leBytes 4 77))
       s.ready = true ∧ (wakeOf s 0).any (fun w => w.stage != 4) = false ∧ (wakeOf (after (.wakeSend boxId) s) 0).map (fun w => w.addr) = some 77) ∧
      (let s := withCmd ready (cmdOf 0x0106 [1#8])
       (s.lane 1).job = none ∧ laneState s 1 = 0 ∧ statusOf (after (.laneCal boxId) s) = some 0x50 ∧
         ((after (.laneCal boxId) (s.setFld (F.LRF_STATUS_STATE 1) 1)).lane 1).job.isSome = true) := by decide +kernel

/-- Queue 3 in RUNNING state with limits, holding the items `is`. -/
def withQueue (s : State) (st : Nat) (is : List Item) : State :=
  s.setQueue 3 { s.queue 3 with state := st, cfg := 0x80000000#32, limit := 0x00080008#32, items := is }

/-- The hypotheses of `Obligations.QueueCommandsComplete`, clause by clause. -/
theorem wit_QueueCommandsComplete :
    (let s := withCmd ready { cmdOf 0x0201 (leBytes 2 3) with data := some [1#8, 2#8] }
     s.engaged = true ∧ (s.queue 3).admits = false ∧ statusOf (after (.frameInject boxId) s) = some 0x12 ∧
       (let s := withQueue s 1 []
        (s.queue 3).admits = true ∧ (s.queue 3).breakPending = none ∧
          (takeDesc s).any (fun d => (takeCells d.2 false 1).1.length == 1) = true)) ∧
      (let s := withQueue (withCmd ready (cmdOf 0x0202 (leBytes 2 3))) 1 [{ Item.blank with committed := true }]
       (starting s boxId 0x0202).isSome = true ∧ ((after (.queueFlush boxId) s).queue 3).items = [] ∧
         statusOf (after (.queueFlush boxId) s) = some 0) ∧
      (let s := withQueue (withCmd ready (cmdOf 0x0203 (leBytes 2 3))) 2 [{ Item.blank with isBreak := true, begun := true, first := 4, last := 6 }]
       (s.queue 3).state = 2 ∧ statusOf (after (.queueBreakAck boxId) s) = some 0 ∧
         ((after (.queueBreakAck boxId) s).queue 3).items = []) ∧
      statusOf (after (.queueBreakAck boxId) (withCmd ready (cmdOf 0x0203 (leBytes 2 3)))) = some 0 := by decide +kernel

/-- A slot whose half A is committed with epoch `e`, VALID with a key. -/
def validSlot (e : Nat) : Slot :=
  { Slot.empty with a := { KeyHalf.erased with commit := 0xC3A5, epoch := e, attr := 0x10 }, state := 1, key := [1#8], attr := 0x10 }

/-- READY with slot 0 VALID, the sweep enabled and the store loaded. -/
def keyed : State := ((ready.setFld F.KSU_CTRL_SWEEP_EN 1).setFld F.KSU_STATUS_READY 1).putSlot 0 (validSlot 4)

/-- The hypotheses of `Obligations.KeySlotsLoadAndSweep`, clause by clause. -/
theorem wit_KeySlotsLoadAndSweep :
    (inState 1).booting = true ∧ (inState 1).boot.keysLoaded = false ∧ keyed.operating = true ∧ keyed.inOperation = true ∧
      keyed.flag F.KSU_CTRL_SWEEP_EN = true ∧ keyed.flag F.KSU_STATUS_READY = true ∧ keyed.sec.sweepNext = 0 ∧ (keyed.slot 0).state = 1 ∧
      (keyed.slot 0).a.commit = 0xC3A5 ∧ isZot (keyed.slot 0).a.attr = false ∧ (keyed.slot 0).b.commit ≠ 0xC3A5 ∧
      ((after (.keySweep true) keyed).slot 0).state = 2 ∧ ((after (.keyWorkingReload 0 true) keyed).slot 0).state = 2 ∧
      (after (.keySweep true) (after (.keySweep true) keyed)).sec.sweepNext = 2 ∧
      (after (.slotSelWrite .pcie 0#32) (keyed.putSlot 0 { validSlot 4 with state := 2 })).reg A.KSU_SLOT_EPOCH = 4#32 := by decide +kernel

/-- The replacement of slot 0 by the mailbox's command, in a phase. -/
def replacing (phase : Nat) : State :=
  let s := withCmd (keyed.putSlot 0 { validSlot 4 with state := 3, prev := 1 }) (cmdOf 0x0301 (leBytes 2 0 ++ leBytes 2 2 ++ leBytes 4 0x10 ++ leBytes 4 9))
  { s with sec := { s.sec with repl := [{ slot := 0, cmd := some boxId, key := [7#8], attr := 0x10, epoch := 9, targetB := true, phase := phase }] } }

/-- The hypotheses of `Obligations.KeysAreReplacedAndZeroised`, clause by clause. -/
theorem wit_KeysAreReplacedAndZeroised :
    (let c := { cmdOf 0x0301 (leBytes 2 0 ++ leBytes 2 2 ++ leBytes 4 0x10 ++ leBytes 4 9 ++ leBytes 2 24) with data := some (List.replicate 24 0#8) }
     let s := withCmd (keyed.putSlot 2 { validSlot 1 with attr := 2 ^ 10 }) c
     s.operating = true ∧ holding s = false ∧ startable s boxId = true ∧ slotTurn s c = true ∧ replaceOf s 0 = none ∧ (s.slot 0).epoch < krEpoch c.desc ∧
       isZot (krAttr c.desc) = false ∧ (slotKeyUse s (krKek c.desc) none 10).isSome = true ∧ (s.slot (krSlot c.desc)).state = 1) ∧
      ((after (.keyReplace boxId true) (replacing 1)).slot 0).key = [7#8] ∧
      ((after (.keyReplace boxId true) (replacing 1)).sec.repl.map (fun r => r.phase)) = [2] ∧
      ((after (.keyReplace boxId true) (replacing 2)).slot 0).state = 1 ∧ statusOf (after (.keyReplace boxId true) (replacing 2)) = some 0 ∧
      (let s := withCmd keyed (cmdOf 0x0302 (leBytes 2 0))
       (starting s boxId 0x0302).isSome = true ∧ ((after (.keyZeroise boxId) s).slot 0).state = 0 ∧
         ((after (.keyZeroise boxId) s).slot 0).a.epoch = 4 ∧ statusOf (after (.keyZeroise boxId) s) = some 0) := by decide +kernel

/-- READY with host jobs enabled. -/
def jobbing : State := ready.setFld F.CRY_CTRL_JOB_EN 1

/-- The hypotheses of `Obligations.CryptoJobsStartAndEnd`, clause by clause. -/
theorem wit_CryptoJobsStartAndEnd :
    jobbing.operating = true ∧ jobbing.inOperation = true ∧ jobbing.flag F.CRY_JOB_CTRL_GO = false ∧
      jobbing.flag F.CRY_CTRL_JOB_EN = true ∧
      (after (.jobRandom .pcie) jobbing).sec.job.map (fun j => j.op) = some 6 ∧ (ready.setFld F.CRY_CTRL_JOB_EN 0).flag F.CRY_CTRL_JOB_EN = false ∧
      (after (.jobIdPub .pcie) (ready.setFld F.CRY_CTRL_JOB_EN 0)).sec.result.map (fun r => r.status) = some 7 ∧
      (let s := after (.jobSha256 .pcie) (jobbing.setFld F.CRY_JOB_LEN_BYTES 3)
       s.sec.job.map (fun j => j.op) = some 1 ∧
         (after (.jobDataWrite .pcie 0x03020100#32) s).sec.job.map (fun j => j.data) = some [0#8, 1#8, 2#8] ∧
         (after (.jobDone true) (after (.jobDataWrite .pcie 0x03020100#32) s)).flag F.CRY_JOB_CTRL_GO = false) ∧
      (let s := { ready with sec := { ready.sec with job := some { op := 4, status := some 5, data := [] } } }
       (after (.jobDone true) s).sec.result = some { op := 4, status := 5, bytes := [] } ∧
         (after (.jobResPop .spi) (after (.jobDone true) s)).out = [.readData .spi A.CRY_JOB_RES 0x80000405#32]) ∧
      (let s := { ready with sec := { ready.sec with gcm := [false, true] } }
       (after (.gcmRequest false) s).sec.gcm = [true] ∧ (after (.gcmRequest false) s).fld F.CRY_GCM_FAIL_COUNT = 1 ∧
         causeSet (after .gcmSaturated (after (.gcmRequest true) s)) 0x29 1 = true) := by decide +kernel

/-- READY with the TRNG seeded, testing or collecting, and `fails` failures in a row. -/
def seeding (testing collecting : Bool) (fails : Nat) : State :=
  (ready.setFld F.TRNG_STATUS_SEEDED 1).setTrng { ready.sec.trng with testing := testing, collecting := collecting, fails := fails }

/-- The hypotheses of `Obligations.RandomNumbersAndTamper`, clause by clause. -/
theorem wit_RandomNumbersAndTamper :
    (seeding true false 0).answers = true ∧ (seeding true false 0).sec.trng.testing = true ∧ trngFailed (seeding true false 0) = false ∧
      (after (.trngStartupDone false) (seeding true false 0)).flag F.TRNG_STATUS_FAILED = true ∧
      (after (.trngStartupDone true) (after (.trngReseed .pcie) (after (.trngStartupDone false) (seeding true false 0)))).flag
        F.TRNG_STATUS_FAILED = false ∧
      (after (.trngSeedCollect 2) (seeding false true 2)).flag F.TRNG_STATUS_FAILED = true ∧
      (after (.trngSeedCollect 1) (seeding false true 0)).fld F.TRNG_RCT_FAILS_COUNT = 1 ∧
      (after .drbgReseedTimer (seeding false false 0)).sec.trng.collecting = true ∧
      (after (.trngRawPop .pcie) ready).out = [.readData .pcie A.TRNG_RAW 0#32] ∧
      tamperEnabled (ready.setFld F.AON_TAMPER_CFG_VSENS_EN 1) 4 1 = true ∧
      (after (.tamperDetect 3) (ready.setFld F.AON_TAMPER_CFG_VSENS_EN 1)).devState = 4 ∧
      tamperEnabled (ready.setFld F.AON_TAMPER_CFG_T1_EN 0) 2 0 = false ∧
      (after (.tamperDetect 1) (ready.setFld F.AON_TAMPER_CFG_T1_EN 0)).fld F.AON_STATUS_TAMPER_IN = 2 ∧
      (let s := { keyed.putSlot 3 { validSlot 2 with a := { (validSlot 2).a with attr := 0x8010 } } with
                  sec := { (keyed.putSlot 3 { validSlot 2 with a := { (validSlot 2).a with attr := 0x8010 } }).sec with zotDue := true } }
       isZot ((s.slot 3).half false).attr = true ∧ ((after .zotOverwriteDone s).slot 3).state = 0) := by decide +kernel

/-- READY with the DRAM scrubber running ahead of position `n`. -/
def scrubbing (n : Nat) : State :=
  let s := ((ready.setFld F.MEM_STATUS_SCRUB_RUN 1).setFld F.MEM_CTRL_SCRUB_EN 1).setFld F.MEM_SCRUB_POS_CODEWORD n
  { s with mem := { s.mem with target := 2 ^ 60 } }

/-- The hypotheses of `Obligations.MemoryErrorsAreCountedAndReported`, clause by clause. -/
theorem wit_MemoryErrorsAreCountedAndReported :
    scrubReady (scrubbing 0) = true ∧ (after (.scrubRead none .clean none) (scrubbing 0)).fld F.MEM_SCRUB_POS_CODEWORD = 1 ∧
      scrubReady (scrubbing 8388607) = true ∧ (after (.scrubRead none .clean none) (scrubbing 8388607)).fld F.MEM_SCRUB_PASSES_COUNT = 1 ∧
      (ready.booting || ready.inOperation) = true ∧ ready.boot.dramReady = true ∧ ceReported ready 5 = true ∧
      dramRegion (16 * 7471104) = 5 ∧ causeSet (after (.scrubRead (some (7471104, false)) (.ue 5) none) ready) 0x30 1 = true ∧
      (after (.scrubRead (some (3, false)) (.miscorrected 1 1 [9#8]) none) ready).ram 48 = 9#8 ∧
      (scrubbing 0).flag F.MEM_STATUS_SCRUB_LATE = false ∧ (after .scrubLate (scrubbing 0)).flag F.MEM_STATUS_SCRUB_LATE = true ∧
      ceReported ready 8 = true ∧ sramHolds 32768 (.engine 1) = true ∧ causeSet (after (.sramSweep 32768#32 (.engine 1) true (.ce 3 7#8)) ready) 0x30 2 = true ∧
      sramHolds 1507344 (.keyEntry 1) = true ∧ causeSet (after (.sramSweep 1507344#32 (.keyEntry 1) true (.ue 7#8)) ready) 0x30 3 = true ∧
      (after (.sramSweep 32768#32 (.engine 1) true (.ue 7#8)) (ready.setEngine 1 .running)).engine 1 = .failed ∧
      (let s := after (.sramSweep 32768#32 (.engine 1) true (.ce 3 7#8)) ready
       s.inOperation = true ∧ s.mem.errLog.length = 1 ∧ (after (.errLogPop .pcie) s).mem.errLog = []) := by decide +kernel

/-- READY in a pair, in a role and a state of the link. -/
def paired (r l : Nat) : State :=
  let s := (ready.setFld F.RED_STATUS_ROLE r).setFld F.RED_STATUS_LINK l
  { s with red := { s.red with en := true, decided := true } }

/-- A frame whose verdict waits for the bow, with an acknowledgement owed to parcel 5. -/
def waitingUp : HeldUp :=
  { mseq := 3, frame := rxFrame 0 [] .current 0, gap := 0, newSession := false, deliver := false,
    owed := some { info := record 0, channel := 0, parcel := 5, tcorr := 0, fcntLo := 0, carried := false } }

/-- The hypotheses of `Obligations.TheMirrorLinkCarriesItems`, clause by clause. -/
theorem wit_TheMirrorLinkCarriesItems :
    pairs (paired 2 3) = true ∧ link (paired 2 3) = 3 ∧ (paired 2 3).red.held = [] ∧ asBow (paired 2 3) = true ∧
      (after (.mirrorFrameRx true 1#32 0#32 [.parcelDelta 1 2 [7#8]] 5#16) (paired 2 3)).ram 258 = 7#8 ∧
      (after (.mirrorFrameRx true 9#32 0#32 [.parcelDelta 1 2 [7#8]] 5#16) (paired 2 3)).ram 258 = 0#8 ∧
      (paired 1 3).operating = true ∧ link (after .mirrorLinkTimeout (paired 1 3)) = 0 ∧
      (after .mirrorLinkTimeout (paired 1 3)).flag F.RED_STATUS_HOLD = true ∧ link (paired 2 2) = 2 ∧
      link (after .mirrorSyncDone (paired 2 2)) = 3 ∧ role (paired 1 3) = 1 ∧
      ((after .datumItemSend (paired 1 3)).red.unacked.length) = 1 ∧ ((after .mirrorRetransmit (after .datumItemSend (paired 1 3))).out.length) = 2 ∧
      (let s := { paired 1 3 with red := { (paired 1 3).red with held := [waitingUp] } }
       pairs s = true ∧ s.red.held.any (fun h => h.owed.any (fun o => o.parcel == 5)) = true ∧
         (after (.mirrorAckDeadline 5) s).fld F.RED_MIRROR_LATE_COUNT = 1) ∧
      (let s := { paired 0 1 with red := { (paired 0 1).red with decided := false } }
       pairs s = true ∧ role (after .roleDecisionTimeout s) = 1) := by decide +kernel

/-- A bow in a pair, with a takeover in progress or not. -/
def bow (fresh : Nat) (k : Option Takeover) : State :=
  let s := (paired 2 3).setFld F.RED_STATUS_FRESH fresh
  { s with red := { s.red with wasPaired := true, takeover := k } }

/-- The hypotheses of `Obligations.RolesChangeByTakeoverAndSwap`, clause by clause. -/
theorem wit_RolesChangeByTakeoverAndSwap :
    ready.answers = true ∧ (after (.ilkInChange true) ready).flag F.RED_STATUS_ILK_IN = true ∧
      (let s := { (paired 1 3).setFld F.RED_STATUS_ILK_IN 1 with red := { (paired 1 3).red with backoff := true } }
       pairs s = true ∧ role (after .ilkConflictBackoffEnd s) = 2) ∧
      pairs (bow 1 none) = true ∧ role (bow 1 none) = 2 ∧ (bow 1 none).ready = true ∧
      ((after .ilkLossTimer (bow 1 none)).red.takeover.map (fun k => k.trigger)) = some 2 ∧
      ((after (.forceTkoWrite .pcie 0#32) (bow 1 none)).red.takeover.map (fun k => k.trigger)) = some 4 ∧
      (after (.forceTkoWrite .pcie 0#32) (bow 0 none)).fld F.RED_LAST_TKO_RESULT = 1 ∧
      causeSet (after (.forceTkoWrite .pcie 0#32) (paired 1 3)) 0x31 31 = true ∧
      role (after .takeoverStart (bow 1 (some { trigger := 2, since := 0, upTo := 0, started := false }))) = 3 ∧
      (let s := (bow 1 (some { trigger := 2, since := 0, upTo := 0, started := true })).setFld F.RED_STATUS_ROLE 3
       pairs s = true ∧ s.flag F.RED_STATUS_ILK_IN = false ∧ role (after .takeoverComplete s) = 1 ∧
         (after .takeoverComplete s).fld F.RED_TAKEOVERS_COUNT = 1 ∧
         (after .takeoverAbandon (s.setFld F.RED_STATUS_ILK_IN 1)).fld F.RED_LAST_TKO_RESULT = 2) ∧
      (let s := { paired 1 3 with now := ⟨8, 191500000, 0⟩, red := { (paired 1 3).red with swap := some boxId } }
       pairs s = true ∧ tickNow s = 8191 ∧ (after .roleSwapOffer s).red.offered = true ∧
         (after .swapOfferTimeout (after .roleSwapOffer s)).red.offered = false) ∧
      ((paired 1 0).setFld F.RED_STATUS_HOLD 1).operating = true ∧
      (after .strokeHoldEnd ((paired 1 0).setFld F.RED_STATUS_HOLD 1)).flag F.RED_STATUS_HOLD = false ∧ link (paired 2 0) ≠ 3 ∧
      (after .freshExpiry (bow 1 none)).flag F.RED_STATUS_FRESH = true := by decide +kernel

/-- Further hypotheses of `Obligations.RolesChangeByTakeoverAndSwap`: a second FORCE_TKO waits while a takeover ends, or none does. -/
theorem wit_RolesChangeByTakeoverAndSwap_forced :
    (let s := (bow 1 (some { trigger := 4, since := 0, upTo := 0, started := true })).setFld F.RED_STATUS_ILK_IN 1
     let s := s.setFld F.RED_CTRL_FORCE_TKO 1
     let s := { s with bus := { s.bus with goPending := [A.RED_CTRL * 32 + 8] } }
     pairs s = true ∧ s.flag F.RED_CTRL_FORCE_TKO = true ∧ s.ready = true ∧ s.flag F.RED_STATUS_FRESH = true ∧ s.red.wasPaired = true ∧
       (after .takeoverAbandon s).red.takeover = some { trigger := 4, since := s.dev.upCycles, upTo := 0, started := false } ∧
       role (after .takeoverAbandon s) = 2 ∧ (after .takeoverAbandon s).bus.goPending.contains (A.RED_CTRL * 32 + 8) = false) ∧
      (bow 1 none).flag F.RED_CTRL_FORCE_TKO = false ∧ (bow 1 none).bus.goPending.contains (A.RED_CTRL * 32 + 8) = false ∧
      role ((bow 1 (some { trigger := 2, since := 0, upTo := 0, started := true })).setFld F.RED_STATUS_ROLE 3) = 3 := by decide +kernel

/-- A session in slot 1 with one lane share. -/
def someSess (l : List UpdLane) : Sess :=
  { sid := 1, session := 9, image := 0, group := 0xFFFFFFFF, micLen := 0, startSfn := 0, endSfn := 0, lanes := l, nextR := [], suspended := none }

/-- READY with that session running. -/
def updating (l : List UpdLane) : State := { ready with upd := { ready.upd with sessions := [someSess l] } }

/-- The hypotheses of `Obligations.ImagesAndSessionsStartAndEnd`, clause by clause. -/
theorem wit_ImagesAndSessionsStartAndEnd :
    (let s := withCmd ready { cmdOf 0x0401 [2#8] with data := some [5#8, 6#8] }
     s.engaged = true ∧ (starting s boxId 0x0401).isSome = true ∧
       (after (.updImageLoad boxId true) s).flag (F.UPD_IMG_INFO_VALID 2) = true ∧ (after (.updImageLoad boxId true) s).ram (imgBase 2 + 1) = 6#8 ∧
       statusOf (after (.updImageLoad boxId false) s) = some 0x12 ∧
       statusOf (after (.updImageLoad boxId true) (s.setFld (F.UPD_IMG_INFO_IN_SESSION 2) 1)) = some 0) ∧
      (let s := withCmd ready (cmdOf 0x0402 [0#8])
       s.ready = true ∧ holding s = false ∧ freeSid s = some 0 ∧ statusOf (after (.updSessionStart boxId) s) = some 0 ∧
         ((sessOf (after (.updSessionStart boxId) s) 0).map (fun x => x.session)) = some 1) ∧
      statusOf (after (.updSessionStart boxId) (withCmd ready (cmdOf 0x0402 [0#8, 1#8]))) = some 0x12 ∧
      statusOf (after (.updSessionReport boxId) ((withCmd ready (cmdOf 0x0404 [9#8])).setFld (F.UPD_SESS_ID_SESSION 3) 9)) = some 0 ∧
      (let s := withCmd (updating []) (cmdOf 0x0403 [9#8])
       (s.upd.sessions.find? (fun x => x.session == 9)).isSome = true ∧ pendingOf s (someSess []) = [] ∧
         (after (.updSessionStop boxId) s).fld (F.UPD_SESS_STATE_END_REASON 1) = 3) ∧
      (after (.sessionDeadline 1) (updating [])).fld (F.UPD_SESS_STATE_END_REASON 1) = 2 := by decide +kernel

/-- Lane 0's share of a session, in a stage. -/
def share (stage : Nat) : UpdLane :=
  { lane := 0, entry := 0, sf := 7, frames := 2, round := 0, sent := 0, due := [], nextEsi := 0, stage := stage, endSfn := 0, gap := 0,
    need := [], reports := [], planned := 0 }

/-- A session in progress on lane 0, with an MCAST occurrence and a target in parcel 0 that is INVITED. -/
def rounds (stage : Nat) (suspended : Option Nat) (body : List Byte) : State :=
  let s := ((updating []).ramStore 0 (List.replicate 8 1#8 ++ [4#8])).ramStore 248 [9#8, 0#8, 9#8]
  let s := { s with upd := { s.upd with sessions := [{ someSess [share stage] with suspended := suspended }] } }
  s.setLane 0 { s.lane 0 with
    occ := some { entry := 0, w0 := 3 * 2 ^ 22, w1 := 3 * 2 ^ 14 + 1, start := 0, hit := false, tried := false, pos := 0, next := 0, sentStart := 0,
                  sentEnd := 0, fpend := false, stepped := 0 },
    rx := [{ rxFrame 0 (List.replicate 12 0#8) .current 2 with body := body }] }

/-- The hypotheses of `Obligations.UpdateRoundsRun`, clause by clause. -/
theorem wit_UpdateRoundsRun :
    (let s := (updating []).setFld (F.UPD_SESS_STATE_STATE 1) 1
     s.ready = true ∧ (sessOf s 1).isSome = true ∧ (after (.targetSelect 1) s).fld (F.UPD_SESS_STATE_END_REASON 1) = 4) ∧
      (let s := rounds 0 (some 3) []
       s.engaged = true ∧ (mcastOcc s 0).map (fun e => (e.1.pos, e.2.2.frames)) = some (0, 2) ∧
         (after (.mcastPosition 0) s).fld F.UPD_MC_WITHHELD_COUNT = 1) ∧
      (takeMessage (rounds 0 none [0x41#8]) 0 0x41).isSome = true ∧
      (after (.updStatusRx 0) (rounds 0 none [0x41#8])).fld F.UPD_REPORTS_BAD_COUNT = 1 ∧
      (let s := rounds 0 none [0x41#8, 1#8, 9#8, 0#8, 2#8, 0#8, 0#8, 0#8, 0#8]
       (pendingIn s 0).map (fun x => x.sid) = some 1 ∧ uSid s 0 = 1 ∧ uState (after (.updStatusRx 0) s) 0 = 3) ∧
      (let s := { rounds 1 none [] with dram := [] }
       s.engaged = true ∧ (((sessOf (after (.reportGapEnd 1 0) s) 1).bind (fun y => updLane y 0)).map (fun m => m.round)) = some 1) := by
  decide +kernel

/-- READY with lane 1 in a state, doing `w`, its channel 3 defined. -/
def laneIn (st : Nat) (w : Work) : State :=
  let s := ready.setFld (F.LRF_STATUS_STATE 1) st
  setAnalog (s.setLane 1 { s.lane 1 with work := w }) 1 12 0x80640000#32

/-- The hypotheses of `Obligations.LanesCalibrateAndTune`, clause by clause. -/
theorem wit_LanesCalibrateAndTune :
    ready.operating = true ∧ laneState (after (.laneEnableWrite .pcie 1 0#32) (laneIn 1 .none)) 1 = 0 ∧
      (let s := ready.setFld (F.LRF_CTRL_ENABLE 1) 0
       lanePowered s 1 = true ∧ blankIn s 1 = false ∧ laneState (after (.laneEnableWrite .pcie 1 1#32) s) 1 = 5) ∧
      (let s := (laneIn 0 .none).setFld (F.LRF_STATUS_STARTUP_DONE 1) 1
       mayRun s 1 = true ∧ laneState (after (.laneStandbyReady 1) s) 1 = 1) ∧
      (let r : KindFacts := { ok := true, micros := 9, gains := [], powers := [], channels := [], refGain := 4#16, refPhase := 0#16 }
       ((after (.startupCalKindDone 1 r) (laneIn 5 (.startup 2))).lane 1).work = .startup 3 ∧
         ((after (.startupCalKindDone 1 r) (laneIn 5 (.startup 7))).lane 1).refOk = true ∧
         laneState (after (.startupCalKindDone 1 { r with ok := false }) (laneIn 5 (.startup 2))) 1 = 0 ∧
         laneState (after (.startupCalAbandon 1 r) ((laneIn 5 (.startup 2)).setFld (F.LRF_STATUS_BLANK_IN 1) 1)) 1 = 0 ∧
         (let s := (laneIn 5 (.startup 6)).setFld (F.LRF_STATUS_BLANK_IN 1) 1
          blankIn s 1 = true ∧ startupChannels s 1 = [3] ∧ ((after (.startupCalAbandon 1 r) s).lane 1).calNext = 4)) ∧
      (let s := (laneIn 2 (.hop 3)).setFld (F.LRF_STATUS_CHANNEL 1) 3
       let s := s.setLane 1 { s.lane 1 with rxWant := some 3 }
       heldTx s 1 = none ∧ laneState (after (.synthLockDone 1) s) 1 = 3 ∧ ((after (.lockFail 1) s).lane 1).work = .cold 3 true) ∧
      (let r : CalResult := { vcoBand := 1#6, capTrim := 1#8, cpCurrent := 1#8, loopFilter := 1#8, fracCorr := 1#16, iqPhase := 1#8, iqGain := 1#8 }
       chValid (after (.coldCalDone 1 (some r)) (laneIn 5 (.cold 3 false))) 1 3 = true ∧
         chFail (after (.coldCalDone 1 none) (laneIn 5 (.cold 3 false))) 1 3 = true ∧
         chValid (after (.bgSliceDone 1 (some r) 0#16 0#16) (laneIn 5 (.slice 3))) 1 3 = true ∧
         (let c := cmdOf 0x0106 [1#8]
          let j : CalJob := { id := boxId, next := 3, remaining := 1, done := 0, failed := 0, firstFailed := none, blanked := false }
          let s := withCmd (laneIn 5 (.step 3)) c
          let s := s.setLane 1 { s.lane 1 with job := some j }
          (findCmd s boxId).isSome = true ∧ statusOf (after (.laneCalStepDone 1 (some r)) s) = some 0 ∧
            (let s := (s.setFld (F.LRF_STATUS_STATE 1) 1).setLane 1 { s.lane 1 with job := some j, work := .none }
             gapOpen s 1 176000 = true ∧ ((after (.laneCalStepStart 1) s).lane 1).work = .step 3))) ∧
      (let s := { (laneIn 1 .none).setReg (A.LRF_ANCHOR 1) 0x03030303#32 with now := ⟨100000, 0, 0⟩ }
       anchorCh s 1 0 = 3 ∧ chDefined s 1 3 = true ∧ gapNeeds s 1 = [] ∧ anchorDue s 1 3 = true ∧ anchorBit (after (.anchorDue 1 0) s) 1 2 4 = true ∧
         anchorBit (after (.anchorOverdue 1 0) (after (.anchorDue 1 0) s)) 1 0 6 = true ∧
         ((after (.bgSliceStart 1) (after (.anchorDue 1 0) s)).lane 1).work = .slice 3) := by decide +kernel

/-- A chirp frame of three bytes for channel 3, in a stage. -/
def someTx (stage : Nat) : Tx :=
  { kind := 5, parcel := 0, content := .frame [1#8, 2#8, 3#8], bytes := [1#8, 2#8, 3#8], channel := 3, offset := 0, mode := 0, sf := 7, bw := 0,
    rate := 0, npre := 8, length := 3, fc := 0, load := [], power := 20, gain := 0, start := 50000, latest := 100000, stage := stage,
    charge := 0, accts := [], bucket := 0, code := 5, backoff := 0, clip := 0, stepped := 0, taken := none }

/-- READY with lane 1 in a state, locked on channel 3, with that frame. -/
def txIn (st stage : Nat) : State :=
  let s := ((laneIn st .none).setFld (F.LRF_STATUS_LOCKED 1) 1).setFld (F.LRF_STATUS_CHANNEL 1) 3
  s.setLane 1 { s.lane 1 with txs := [someTx stage] }

/-- The hypotheses of `Obligations.LanesTransmitAndYieldToBlanks`, clause by clause. -/
theorem wit_LanesTransmitAndYieldToBlanks :
    (let s := laneIn 1 .none
     s.operating = true ∧ chDefined s 1 3 = true ∧ usable s 1 3 = false ∧ gapOpen s 1 176000 = true ∧
       ((after (.txChannelCheck 1 3) s).lane 1).work = .gap 3 ∧
       ((after (.txChannelCheck 1 3) (laneIn 2 .none)).lane 1).gapCal = [3]) ∧
      (let s := txIn 1 1
       s.engaged = true ∧ laneServed s 1 = true ∧ heldTx s 1 = none ∧ txRefused s 1 (someTx 1) = false ∧
         (heldTx (after (.txRequest 1) s) 1).isSome = true) ∧
      (let s := { txIn 1 1 with lanes := [] }
       let s := s.setLane 1 { s.lane 1 with txs := [someTx 1] }
       txRefused s 1 (someTx 1) = true ∧ (after (.txRequest 1) s).fld F.UPD_MC_WITHHELD_COUNT = 1) ∧
      (let s := txIn 3 2
       heldTx s 1 = some (someTx 2) ∧ onAir s 1 = none ∧ (setFor s 50000).code ≠ 6 ∧ laneLocked s 1 = true ∧ laneChannel s 1 = 3 ∧
         s.nowNs + laneTa s 1 ≤ 100000 ∧ gateOpen s = true ∧ laneState (after (.txTurnaroundStart 1) s) 1 = 4 ∧
         gateOpen { s with red := { s.red with en := true } } = false ∧
         causeSet (after (.txTurnaroundStart 1) { s with red := { s.red with en := true } }) 0x11 7 = true) ∧
      (let s := txIn 4 4
       laneState s 1 = 4 ∧ onAir s 1 = some (someTx 4) ∧ laneState (after (.txEnd 1) s) 1 ≠ 4) ∧
      (after (.txLate 1) { txIn 3 2 with now := ⟨1, 0, 0⟩ }).fld (F.LRF_TX_LATE_COUNT 1) = 1 ∧
      agcRuns (txIn 3 2) 1 = true ∧ (after (.adcClip 1) (txIn 3 2)).fld (F.LRF_STATUS_GAIN 1) = 4 ∧
      (after (.agcWindow 1 0) (txIn 3 2)).fld (F.LRF_STATUS_GAIN 1) = 1 ∧ laneState (after (.rfBlankAssert 1) (txIn 3 2)) 1 = 6 ∧
      laneState (after (.rfBlankRelease 1) (after (.rfBlankAssert 1) (txIn 3 2))) 1 = 3 ∧
      (after (.lbbRxEnWrite .pcie 1 0#32) ready).flag (F.LBB_CTRL_RX_EN 1) = false := by decide +kernel

/-- A detection of bin 9 on lane 1's first sub-channel. -/
def someDet : Detection := { subch := 0, off := 0, sf := 7, bw := 0, bin := 9, rssi := -100, time := ⟨0, 0, 0⟩, blanked := false }

/-- READY with lane 1 receiving on channel 3, context 5 in a stage, its header that of one CSS byte. -/
def rxIn (stage : Nat) (q : List Detection) : State :=
  let s := (txIn 3 0).setFld (F.LRF_SYNTH_BW 1) 4
  s.setLane 1 { s.lane 1 with queue := q, ctxs := if stage = 0 then [] else [(5, { newCtx someDet 0 with stage := stage, hdr := 16 })] }

/-- Lane 1 with an OFDM payload of one byte in reception. -/
def ofdmIn (fc : Option Nat) : State :=
  let s := rxIn 0 []
  s.setLane 1 { s.lane 1 with ofdm := some { info := { record 1 with length := 1 }, channel := 3, fc := fc, bSym := 54, blanked := false } }

/-- Windows of which each shows bin 9 far above any noise floor a register can hold. -/
def strongRun : List Window := List.replicate 4 ⟨9, 40000⟩

/-- A bin 40 dB above the highest noise floor is above the threshold, whatever the floor. -/
theorem aboveThresh_strong (s : State) (n k sf : Nat) (p : Int) (h : 32767 + 4 * (s.fld (F.LBB_DET_CFG_THRESH n) : Int) ≤ p) :
    aboveThresh s n k sf p = true := by
  have hf : noiseFloor s n k ≤ 32767 := by
    unfold noiseFloor signed
    have := (Config.noiseFloor n k ((s.lane n).tunedAt + Tbl.get (fun _ => 0) (s.lane n).subSince k) (subHeard s n k / 25000000)).isLt
    dsimp only
    split <;> omega
  have : (noiseFloor s n k + 4 * (s.fld (F.LBB_DET_CFG_THRESH n) : Int) - p) ≤ 0 := by omega
  simp [aboveThresh, this]

/-- The cycles at which windows begin, with their bins. -/
def begins (step : Nat) : Nat → List Window → List (Nat × Nat)
  | _, [] => []
  | t, w :: ws => (t, w.bin) :: begins step (t + step) ws

/-- Windows that are all strong make one run while the bank runs and no receive gap has fallen on the lane. -/
theorem runOf_strong (s : State) (n k sf bw from_ : Nat) (hg : (s.lane n).gaps = []) (h6 : laneState s n ≠ 6) :
    ∀ (ws : List Window) (since : Nat) (run : List (Nat × Nat)), from_ ≤ since →
      (∀ w ∈ ws, 32767 + 4 * (s.fld (F.LBB_DET_CFG_THRESH n) : Int) ≤ w.power) →
      runOf s n k sf bw from_ since ws false run = run ++ begins (windowStep sf bw) since ws
  | [], _, run, _, _ => by simp [runOf, begins]
  | w :: ws, since, run, hb, hw => by
    have hs := aboveThresh_strong s n k sf w.power (hw w (by simp))
    have ih := runOf_strong s n k sf bw from_ hg h6 ws (since + windowStep sf bw) (run ++ [(since, w.bin)]) (by omega)
      (fun v hv => hw v (by simp [hv]))
    have : ¬ since < from_ := by omega
    simp [runOf, begins, gapsIn, hg, h6, hs, ih, this]

/-- The word of that sub-channel, in force since the reset. -/
def subWord0 : Word × Nat × Nat := ((rxIn 0 []).reg (A.LBB_SUBCH 1 0), 0, 1)

/-- A detection made by a run of `DET_RUN` windows. -/
theorem detectedBin_strong : detectedBin (rxIn 0 []) 1 0 7 strongRun = some (9, subWord0.1) := by
  have h := runOf_strong (rxIn 0 []) 1 0 7 (subBw subWord0.1) (max ((rxIn 0 []).lane 1).bankAt 0) (by decide +kernel) (by decide +kernel)
    strongRun (windowsBegan (rxIn 0 []) 7 (subBw subWord0.1) strongRun) [] (by decide +kernel) (by decide +kernel)
  have hw : wordBin (rxIn 0 []) 1 0 7 strongRun subWord0 = some 9 := by
    unfold wordBin
    dsimp only
    rw [show subWord0.2.1 = 0 from rfl, h]
    decide +kernel
  rw [detectedBin, show subWords (rxIn 0 []) 1 0 = [subWord0] by decide +kernel]
  simp [hw]

/-- The hypotheses of `Obligations.FramesAreReceived`, clause by clause. -/
theorem wit_FramesAreReceived :
    searches (rxIn 0 []) 1 7 = true ∧
      heldBack (rxIn 0 []) 1 (newDetection (rxIn 0 []) 1 0 7 9 subWord0.1 strongRun (-100)) = false ∧ ((rxIn 0 []).lane 1).queue.length < 8 ∧
      (post (rxIn 0 (List.replicate 8 someDet)) 1 someDet).fld (F.LBB_CTX_DROP_COUNT 1) = 1 ∧
      ctxOf (rxIn 1 []) 1 5 ≠ none ∧ laneServed (rxIn 0 []) 1 = true ∧ ctxOf (rxIn 0 []) 1 5 = none ∧
      (after (.syncMiss 1 5) (rxIn 1 [])).fld (F.LBB_SYNC_MISS_COUNT 1) = 1 ∧
      (let c := (rxIn 1 []).fld (F.LBB_SYNC_CFG_NET_CODE 1)
       codeMatches 7 c (relBin 7 (codeU c * 8 + 9) 9) (relBin 7 (codeW c * 8 + 4) 4) = true ∧
         (ctxOf (after (.syncWordFound 1 5 ⟨codeU c * 8 + 9, 9⟩ ⟨codeW c * 8 + 4, 4⟩ 0 0#16 0) (rxIn 1 [])) 1 5).map (fun x => x.stage) =
           some 2) ∧
      (after (.syncWordFound 1 5 ⟨0, 0⟩ ⟨0, 0⟩ 0 0#16 0) (rxIn 1 [])).fld (F.LBB_SYNC_OTHER_COUNT 1) = 1 ∧
      headerCheck [4, 16, 5, 0, 0, 5, 5, 0] = .valid 432 ∧ hdrMode 432 = 0 ∧ headerCheck [17, 20, 1, 20, 0, 0, 0, 16] = .fail ∧
      (headerValues (rxIn 2 []) 7 [14, 62, 12, 0, 0, 12, 12, 0]).1 = [4, 16, 5, 0, 0, 5, 5, 0] ∧
      (headerValues (rxIn 2 []) 7 [60, 48, 2, 48, 0, 0, 0, 62]).1 = [17, 20, 1, 20, 0, 0, 0, 16] ∧
      (ctxOf (after (.headerDecide 1 5 [14, 62, 12, 0, 0, 12, 12, 0] 0#8) (rxIn 2 [])) 1 5).map (fun x => x.stage) = some 3 ∧
      (after (.cssPayloadEnd 1 5 (List.replicate 5 0) 0#16) (rxIn 3 [])).fld (F.LBB_PAY_CRC_COUNT 1) = 1 ∧
      fcDecode (List.replicate 64 true) = none ∧ (after (.ofdmFcDecode 1 (List.replicate 64 true)) (ofdmIn none)).fld (F.LOF_FC_FAIL_COUNT 1) = 1 ∧
      (after (.ofdmRxEnd 1 false [] 0 ⟨0#8, 0#16⟩ 0 []) (ofdmIn (some 0))).fld (F.LOF_LDPC_FAIL_COUNT 1) = 1 ∧
      (let b : List Byte := [0#8] ++ leBytes 4 (crc32 [0#8])
       sourcePeer (ofdmIn (some 0)) b = none ∧ (after (.ofdmRxEnd 1 true b 0 ⟨0#8, 0#16⟩ 0 []) (ofdmIn (some 0))).fld (F.LOF_RX_OK_COUNT 1) = 1) := by
  decide +kernel

/-- READY with a node in parcel 5 on lane 1, an occurrence of entry 9 (its DOWNLINK) in progress where `occ`. -/
def slotted (type : Nat) (occ : Bool) : State :=
  let s := withNode ready
  let s := s.ramStore (slotBase + 72) (leBytes 4 (2 ^ 24 + type * 2 ^ 22 + 2 ^ 20 + 4) ++ leBytes 4 5)
  let s := s.setLane 1 { s.lane 1 with occ := if occ then some (
    { entry := 9, w0 := 2 ^ 24 + type * 2 ^ 22 + 2 ^ 20 + 4, w1 := 5, start := 0, hit := false, tried := false, pos := 0, next := 0, sentStart := 0,
      sentEnd := 0, fpend := false, stepped := 0 } : Occ) else none }
  { s with mac := { s.mac with sfn := some 0 } }

/-- The same node with a session and a sent head downlink that awaits its acknowledgement. -/
def withHeadDl : State :=
  let s := (slotted 1 true).ramStore (256 * 5 + 9) [5#8]
  let s := putMbx (s.ramStore (256 * 5 + 224) [8#8]) 5 0
    { buf := 3, kind := 0, ackReq := true, mode1 := false, cls := 0, enc := false, len := 1, retries := 3, attempts := 1, late := false }
  { s with cad := { s.cad with
    dls := [{ Dl.blank with buf := 3, parcel := 5, payload := [1#8], fcnt := 7, sent := true, window := true, cells := [3] }] } }

/-- Lane 1 in a wake exchange of the mailbox's WAKE_SEND, in a stage, after `k` attempts of at most 2. -/
def waking (stage k : Nat) : State :=
  let s := putWake (withCmd (ready.setFld (F.MAC_WAKE_CFG_EN 1) 1) (cmdOf 0x0105 [])) 1
    { cmd := some boxId, parcel := none, addr := 2 ^ 31, code := 1, expect := true, retries := 1, attempt := k, stage := stage, start := 0, fpend := false }
  let f := rxFrame 1 [7#8] .current 1
  s.setLane 1 { s.lane 1 with rx := [{ f with info := { f.info with ts := ⟨0, 40000000, 0⟩ } }] }

/-- The same exchange after its telegram, with nothing received. -/
def unanswered (k : Nat) : State :=
  let s := waking 2 k
  s.setLane 1 { s.lane 1 with rx := [] }

/-- The hypotheses of `Obligations.SuperframesSlotsAndDownlinksRun`, clause by clause. -/
theorem wit_SuperframesSlotsAndDownlinksRun :
    ready.engaged = true ∧ ready.mac.sfn = none ∧ superStart ready 0 ≤ ready.nowNs ∧ (after (.superframeStart ⟨0, 0, 0, 0⟩) ready).mac.sfn = some 0 ∧
      (let s := slotted 1 false
       laneOnDuty s 1 = true ∧ roleTransmits s = true ∧ ePp (entryW0 s 9) = 1 ∧ eLane (entryW0 s 9) = 1 ∧ sfnNow s = 0 ∧ tickNow s = 0 ∧
         ((after (.slotOccurrenceStart 1 9) s).lane 1).occ.map (fun o => o.entry) = some 9) ∧
      (let s := slotted 0 true
       pInUse s 5 = true ∧ holding s = false ∧ (after (.slotOccurrenceEnd 1) s).fld F.MAC_SLOT_MISSES_COUNT = 1) ∧
      (let s := { (slotted 0 false).ramStore (256 * 5 + 9) [2#8] with mac := { (slotted 0 false).mac with sfn := some 300 } }
       pLink s 5 = 2 ∧ pLink (after (.rendezvousHoldExpiry 5) s) 5 = 0) ∧
      (let s := ready.setLane 1 { ready.lane 1 with owed := [{ info := record 1, channel := 0, parcel := 5, tcorr := 0, fcntLo := 4, carried := false }] }
       let a : Owed := { info := record 1, channel := 0, parcel := 5, tcorr := 0, fcntLo := 4, carried := false }
       adaptState s 5 = 0 ∧ pRelayed s 5 = false ∧ mayTransmit s 1 = true ∧
         sendBound s 1 (fun o => o.ofFrame a) (ackBase s 1 a).start ((ackBase s 1 a).airUs * 1000) = some none ∧
         ((after (.ackSend 1) s).lane 1).txs.length = 1) ∧
      adaptState withHeadDl 5 = 0 ∧ attemptable withHeadDl 5 = true ∧ pClass withHeadDl 5 ≠ 2 ∧ mayTransmit withHeadDl 1 = true ∧
      ((after (.dlAttempt 1) withHeadDl).lane 1).txs.length = 1 ∧
      (let s := withHeadDl.setLane 1 { withHeadDl.lane 1 with acked := [(5, 7, 0)] }
       (headDl s 5).map (fun h => (h.1.ackReq, h.2.sent, h.2.window)) = some (true, true, true) ∧ pRelayed s 5 = false ∧
         (headDl s 5).map (fun h => (h.2.carries, h.2.fcnt % 256, h.1.attempts)) = some (none, 7, 1) ∧
         (after (.ackReceive 1) s).fld F.MAC_DL_ACKED_COUNT = 1 ∧
         (headDl (after (.responseWindowClose 5) s) 5).map (fun h => h.2.window) = some false) ∧
      (wakeOf (after (.wakeAttempt 1 none 2000000000) (waking 0 0)) 1).map (fun w => w.stage) = some 1 ∧
      (after (.wakeAnswerRx 1) (waking 2 1)).fld F.MAC_WAKE_ANSWERED_COUNT = 1 ∧
      (wakeOf (waking 2 1) 1).map (answerPending (waking 2 1) 1) = some true ∧
      (wakeOf (unanswered 1) 1).map (answerPending (unanswered 1) 1) = some false ∧
      (wakeOf (after (.wakeRetryTimer 1) (unanswered 1)) 1).map (fun w => w.stage) = some 0 ∧
      statusOf (after (.wakeRetryTimer 1) (unanswered 2)) = some 0x40 := by decide +kernel

/-- READY with a frame of these bytes and body on lane 1. -/
def framed (s : State) (bytes : List Byte) (c : Checked) (stage : Nat) (body : List Byte) : State :=
  s.setLane 1 { s.lane 1 with rx := [{ rxFrame 1 bytes c stage with body := body }] }

/-- A join request, a beacon's and a data frame's header of another router or of this one. -/
def header (type : Nat) (router : Nat) : List Byte :=
  headerBytes { type := type, secured := false, ackReq := false, fpend := false, dir := false, relay := false, cls := 0, micLen := 0, ackf := false }
    router 5 9

/-- The header of a join request to router 9. -/
def joinHeader : List Byte :=
  headerBytes { type := 4, secured := true, ackReq := false, fpend := false, dir := false, relay := false, cls := 0, micLen := 1, ackf := false }
    9 5 9

/-- An assignment kept for parcel 5. -/
def someJoin (complete due : Bool) (status : Nat) : Join :=
  { parcel := 5, info := record 1, channel := 0, nonce := 0, ppm := 0, up := 0, dl := 0, entries := [], complete := complete, path := [],
    status := status, backoff := 0, chip := 0, epoch := 0, micLen := 0, base := 0, pre := 0, gap := 0, due := due }

/-- READY with that assignment. -/
def joiningWith (j : Join) : State := { withNode ready with mac := { (withNode ready).mac with joins := [j] } }

/-- READY with neighbour 3 in a state and two misses. -/
def neighbour (st : Nat) : State := (putNbr ready 3 { Nbr.init with misses := 2 }).setFld (nbrField 3) st

/-- The hypotheses of `Obligations.NodesJoinAndReport`, clause by clause. -/
theorem wit_NodesJoinAndReport :
    (let s := framed ready (header 4 9) .current 0 []
     s.ready = true ∧ holding s = false ∧ asBow s = false ∧ (after (.joinReqRx 1 none true) s).fld F.CAD_FOREIGN_COUNT = 1) ∧
      (let s := framed (ready.setFld F.MAC_ROUTER_ID_ID 9) (header 4 9) .current 0 []
       (after (.joinReqRx 1 none true) (s.setFld F.MAC_CTRL_JOIN_EN 0)).fld F.MAC_JOIN_DEFER_COUNT = 1 ∧
         (after (.joinReqRx 1 none true) (s.setFld F.MAC_CTRL_JOIN_EN 1)).fld F.MAC_JOIN_UNKNOWN_COUNT = 1) ∧
      (let b := joinHeader ++ List.replicate 32 1#8
       let s := ((ready.setFld F.MAC_ROUTER_ID_ID 9).setFld F.MAC_CTRL_JOIN_EN 1).ramStore (256 * 5) ((fRaw b).take 8 ++ [5#8])
       let s := framed s b .current 0 (List.replicate 24 1#8)
       findEui s ((fRaw b).take 8) = some 5 ∧ fMac b = 8 ∧ pClass s 5 = 1 ∧ lastNonce s 5 = 0 ∧
         (joinOf (after (.joinReqRx 1 none true) s) 5).map (fun j => j.due) = some true ∧
         (after (.joinReqRx 1 none true) (framed s b .keyDenied 0 [])).fld F.MAC_JOIN_BAD_COUNT = 1 ∧
         (after (.joinReqRx 1 none true) (framed s b .keyDenied 0 [])).fld F.CAD_MIC_FAIL_COUNT = 1) ∧
      joinOf (after (.joinHoldExpiry 5) (joiningWith (someJoin true false 0))) 5 = none ∧
      (let s := joiningWith (someJoin false true 0)
       mayTransmit s 1 = true ∧ (joinOf (after (.joinAcceptTx 5) s) 5).map (fun j => j.due) = some false) ∧
      (let s := (joiningWith (someJoin true true 1)).putSlot 0 { validSlot 4 with attr := 0x37FF }
       let x := acceptTx s (someJoin true true 1) []
       (sendBound s 1 (fun o => o.answers (record 1).ts.toNs) x.start (x.airUs * 1000)).isSome = true ∧
         (joinFrame s { someJoin true true 1 with chip := 0, epoch := 1 }).1.isSome = true ∧
         ((after (.joinAcceptTx 5) s).lane 1).txs.map (fun x => (x.kind, x.parcel)) = [(3, 5)]) ∧
      ((after (.mgmtRx 1) (framed ready (header 3 9) .current 1 [0x41#8])).lane 1).rx.map (fun f => f.stage) = [2] ∧
      tableOpen ready = true ∧ bit (ready.reg A.MAC_LOCK).toNat 3 = false ∧ nbrState (after (.nbrEnWrite .pcie 3 0#32) (neighbour 2)) 3 = 0 ∧
      (let s := framed (neighbour 2) (header 0 9) .current 0 []
       let t := (((s.setFld (F.MAC_NBR_ID_ROUTER_ID 3) 9).setFld (F.MAC_NBR_BCN_LANE 3) 1)).setFld (F.MAC_NBR_ID_PREAMBLE 3) 0
       let s := putNbr s 3 { nbrOf s 3 with id := t.reg (A.MAC_NBR_ID 3), bcn := t.reg (A.MAC_NBR_BCN 3) }
       beaconOf s 1 (rxFrame 1 (header 0 9) .current 0) = some 3 ∧ nbrState (after (.nbrBeaconRx 1) s) 3 = 1) ∧
      nbrState (after (.nbrWatchEnd 3) (neighbour 1)) 3 = 2 ∧ nbrState (after (.nbrHoldExpiry 3) (neighbour 2)) 3 = 3 ∧
      (let s := (withNode ready).setFld F.MAC_ROUTER_ID_ID 9
       (after (.uplinkVerdict 1 []) (framed s (header 1 8) .current 0 [])).fld F.CAD_FOREIGN_COUNT = 1 ∧
         (after (.uplinkVerdict 1 []) (framed { s with dram := [] } (header 1 9) .current 0 [])).fld F.CAD_UNKNOWN_COUNT = 1 ∧
         (after (.uplinkVerdict 1 []) (framed s (header 1 9) .fail 0 [])).fld F.CAD_MIC_FAIL_COUNT = 1 ∧
         judgeCounter (pGet s 5 64 4) (pGet s 5 68 4) 9 = .new 9 9 1 ∧ fParcel (header 1 9) = 5 ∧
         (let s := s.ramStore (256 * 5 + 9) [4#8]
          ofCurrent s 5 (rxFrame 1 (header 1 9) .current 0) = true ∧
            (after (.uplinkVerdict 1 []) (framed s (header 1 9) .current 0 [])).fld F.CAD_UP_NEW_COUNT = 1 ∧
            (after (.uplinkVerdict 1 []) (framed (s.ramStore (256 * 5 + 64) (leBytes 4 99 ++ leBytes 4 1)) (header 1 9) .current 0 [])).fld
              F.CAD_REPLAYS_COUNT = 1)) ∧
      (let s := (withNode ready).ramStore (256 * 5 + 9) [8#8]
       pPend s 5 = true ∧ pPend (after (.pendingSessionExpiry 5) s) 5 = false) ∧
      (let s := (withNode ready).ramStore (256 * 5 + 8) [6#8]
       let s := (s.ramStore (256 * 6 + 8) [12#8]).ramStore (256 * 6 + 20) [5#8]
       let s := framed s (header 3 9) .current 2 ([0x30#8, 1#8] ++ leBytes 4 (6 + 2 ^ 18 * 3))
       pInUse s 5 = true ∧ pClass s 5 = 2 ∧ pInUse s 6 = true ∧ pRelayed s 6 = true ∧ pParent s 6 = 5 ∧
         bitsOf (pGet (after (.childReportRx 1) s) 6 20 4) 18 3 = 3) := by decide +kernel

/-- READY with peer 9 registered in parcel 5, measured on lane 1, a map of it retiring, and a message from it on lane 1's channel 3. -/
def withPeer (body : List Byte) : State :=
  let s := setAnalog ((withNode ready).ramStore (256 * 5 + 24) [9#8, 128#8]) 1 12 0x90640000#32
  let s := { s with cad := { s.cad with retiring := [(9, 0, [], 0)] } }
  s.setLane 1 { s.lane 1 with meas := [{ peer := 9, channel := 3, count := 2, sums := [], ready := none }],
                              rx := [{ rxFrame 1 (header 3 9) .current 2 with body := body, channel := 3 }] }

/-- The hypotheses of `Obligations.ToneMapsArriveAndEnd`, clause by clause. -/
theorem wit_ToneMapsArriveAndEnd :
    (let s := withPeer [1#8]
     s.answers = true ∧ (s.lane 1).meas.length = 1 ∧
       (after (.measTimeout 1 9) { s with dram := [] }).fld (F.LOF_MEAS_TIMEOUTS_COUNT 1) = 1) ∧
      (let s := withPeer []
       findPeer s 9 = some 5 ∧ (after (.retireTimeout 9) s).cad.retiring = [] ∧ after (.retireTimeout 8) s = s) ∧
      (let s := withPeer ([1#8, 0#8, 0#8, 0#8, 0#8, 54#8, 0#8] ++ List.replicate 27 17#8)
       chM s 1 3 = 1 ∧ pInUse s 5 = true ∧ pPeerValid s 5 = true ∧ fParcel (header 3 9) = 5 ∧
         ((takeMessage s 1 0x01).map (fun r => toneMapOk r.1.body 1)) = some true) ∧
      (let s := withPeer [1#8, 0#8, 0#8, 0#8, 0#8, 54#8, 0#8]
       (after (.toneMapRx 1) s).fld (F.LOF_MAP_RX_BAD_COUNT 1) = 1 ∧ pPeerValid s 5 = true) ∧
      rxGen (withPeer []) 5 = 0 ∧ (after (.toneMapAckRx 1) (withPeer [2#8, 9#8, 0#8])).cad.retiring = [] ∧
      (after (.toneMapAckRx 1) (withPeer [2#8, 8#8, 0#8])).cad.retiring.length = 1 := by decide +kernel

/-- READY under a region profile, with a transmission on lane 1 locked on its channel 3. -/
def regulated (code stage : Nat) : State :=
  let s := txIn 3 stage
  { s with rgl := { s.rgl with cur := { s.rgl.cur with code := code, bucket := 16 } } }

/-- The hypotheses of `Obligations.RegulatoryUnitDecides`, clause by clause. -/
theorem wit_RegulatoryUnitDecides :
    (let s := regulated 1 0
     s.engaged = true ∧ laneServed s 1 = true ∧ requestOf s 1 = some (someTx 0) ∧ grantTurn s 1 (someTx 0) = true ∧ shaped s 1 (someTx 0) = (some (someTx 0), s) ∧
       (after (.grantRequest 1) s).fld F.RGL_WITHHELD_COUNT = 1) ∧
      (let s := setAnalog (regulated 1 0) 1 12 (BitVec.ofNat 32 (2 ^ 31 + 7110000))
       (after (.grantRequest 1) s).fld F.RGL_GRANTS_COUNT = 1) ∧
      (let s := regulated 6 2
       (setFor s 50000).code = 6 ∧ laneLocked s 1 = true ∧ laneChannel s 1 = 3 ∧
         ((after (.lbtSenseEnd 1 (-1700)) s).lane 1).txs.map (fun x => x.stage) = [3] ∧
         (after (.lbtSenseEnd 1 0) s).fld F.RGL_LBT_BUSY_COUNT = 1) ∧
      (after .rglBucketBoundary (regulated 1 0)).rgl.cur.bucket = 17 ∧
      (after (.profileWrite .pcie false 1#32) ready).rgl.due = true ∧ (after (.profileWrite .spi true 1#32) ready).rgl.due = true ∧
      (let s := ready.setFld F.RGL_PROFILE_CODE 1
       ((after .profilePrepare { s with rgl := { s.rgl with due := true } }).rgl.next.map (fun x => x.code)) = some 1) ∧
      (after (.acctSelWrite .pcie 0#32) (regulated 1 0)).reg A.RGL_ACCT_BUDGET = BitVec.ofNat 32 360000000 ∧
      (after (.acctSelWrite .pcie 5#32) (regulated 1 0)).reg A.RGL_ACCT_USED = 0#32 := by decide +kernel

/-- An item of these bytes in one cell. -/
def someItem (bytes : List Byte) : Item := { Item.blank with bytes := bytes, cells := [3] }

/-- Queue 6, OPEN, for the window, with these items and the one being written. -/
def queued (s : State) (items writing : List Item) : State :=
 
  (s.setFld F.QW_SEL_QUEUE 6).setQueue 6
    { Queue.init with cfg := 0x81000000#32, state := 1, items := items, producing := writing }

/-- Host receive ring 2 RUNNING at its egress 4, which serves queue 6 (DEST 0, HRX 2). -/
def ringServed : State :=
  let s := { ready with host := { ready.host with busMaster := true } }
  let s := (s.setFld (F.FAB_HRX_STATUS_STATE 2) 1).setFld (F.FAB_HRX_SIZE_SIZE_LOG2 2) 4
  s.setQueue 6 { Queue.init with cfg := 0x80200000#32, state := 1, items := [someItem [1#8, 2#8]] }

/-- The hypotheses of `Obligations.QueuesTakeAndDeliverItems`, clause by clause. -/
theorem wit_QueuesTakeAndDeliverItems :
    (let s := queued ready [] []
     s.operating = true ∧ (s.queue 5).admits = false ∧ (s.queue 6).admits = true ∧
       (after (.itemAdmit 5 1 0 false 0#32 [] [1#8]) s).fld F.FAB_DROPS_COUNT = 1) ∧
      (takeDesc (queued ready [] [])).isSome = true ∧
      (takeCells (queued ready [] []) false 1).1.length = 1 ∧ (takeCells (queued ready [] []) true 1).1.length = 1 ∧
      ((after (.itemAdmit 6 3 9 false 0#32 [] [1#8]) (queued ready [] [someItem [2#8]])).queue 6).producing.map (fun i => i.bytes) = [[2#8], [1#8]] ∧
      (let s := queued ready [] [someItem [1#8], { someItem [9#8] with buf := 7 }]
       policed s 6 (someItem [1#8]) = false ∧ (s.queue 6).ptrA = (s.queue 6).ptrB ∧ ((after (.itemCommit 6 [2#8] true false) s).queue 6).producing.length = 1 ∧ ((after (.itemCommit 6 [2#8] true false) s).queue 6).items.map (fun i => i.bytes) = [[1#8, 2#8]] ∧
         ((after (.itemCommit 6 [2#8] false false) s).queue 6).producing.length = 1 ∧
         ((after (.itemCommit 6 [2#8] true true) s).queue 6).state = 3) ∧
      (let s := queued ready [{ someItem [1#8] with begun := true, committed := false }] []
       ((after (.itemCommit 6 [2#8] false false) s).queue 6).items.map (fun i => (i.bytes, i.trunc, i.committed)) = [([1#8, 2#8], true, true)]) ∧
      (let s := queued ready [{ someItem [1#8] with qseq := 4 }, { someItem [2#8] with qseq := 5 }] []
       ((after (.itemCommit 6 [] true true) s).queue 6).items.map (fun m => (m.isBreak, m.cause, m.first, m.last)) = [(true, 2, 4, 5)] ∧
         (after (.itemCommit 6 [] true true) s).fld F.FAB_MARKERS_COUNT = 1) := by decide +kernel

/-- The hypotheses of its clauses about fault resets, egresses, host receive rings and the window. -/
theorem wit_QueuesTakeAndDeliverItems_served :
      (let s := ready.setQueue 6 { Queue.init with cfg := 0x81000000#32, state := 3 }
       ((after (.queueFaultResetEnd 6) s).queue 6).state = 1) ∧
      (let s := ready.setQueue 6 { Queue.init with cfg := 0x82000000#32, state := 3, items := [{ Item.blank with isBreak := true, last := 5 }] }
       (s.queue 6).autoResume = false ∧ ((after (.queueFaultResetEnd 6) s).queue 6).state = 2 ∧
         ((after (.queueFaultResetEnd 6) s).queue 6).items.map (fun i => (i.last, i.begun)) = [(5, true)]) ∧
      (let s := { ready with fab := { ready.fab with sweep := [3], sramUsed := [3, 4] } }
       (after .cellSweepDone s).fab.sramUsed = [4]) ∧
      (let s := ringServed
       egressWorks s 4 = true ∧ (s.egress 4).serving = none ∧ egressReady s 4 = true ∧ (queuePick (egressPrep s 4) 4).map (fun r => r.2) = some 6 ∧
         hrxNeeds s 2 (someItem [1#8, 2#8]) ≤ hrxFree s 2 ∧ ((after (.egressSelect 4) s).egress 4).serving = some 6) ∧
      (queuePick (egressPrep ready 4) 4).isNone = true ∧
      (let s := ringServed.setEgress 4 { serving := some 6, visiting := none }
       ((after (.hrxItemWrite 2 true) s).queue 6).items = [] ∧ (after (.hrxItemWrite 2 false) s).fld (F.FAB_HRX_STATUS_STATE 2) = 3) ∧
      (after (.hrxEnableWrite .pcie 2 0#32) ringServed).fld (F.FAB_HRX_STATUS_STATE 2) = 0 ∧
      (after (.hrxEnableWrite .pcie 3 1#32) ringServed).fld (F.FAB_HRX_STATUS_STATE 3) = 0 ∧
      hrxPhase (after (.hrxReset .spi 3) ringServed) 3 = true ∧
      (after (.hrxHeadWrite .spi 7 9#32) ready).fld (F.FAB_HRX_HEAD_HEAD 7) = 9 ∧
      (after (.qwSelWrite .spi 4095#32) ready).fld F.QW_SEL_QUEUE = 4095 ∧
      ((after (.qwQcfgWrite .spi 0x80000000#32) ready).queue 0).state = 1 ∧
      ((after (.qwQcfgWrite .spi 0#32) (queued ready [] [])).queue 6).state = 0 ∧
      (after (.qwPopRead .pcie) (queued ready [someItem [1#8]] [])).fab.popBytes = [1#8] ∧
      ((after (.qwPopRead .pcie) (queued ready [] [])).queue 6).underrun = true ∧
      (after (.qwDataRead .pcie) { ready with fab := { ready.fab with popBytes := [1#8, 2#8, 3#8, 4#8, 5#8] } }).fab.popBytes = [5#8] ∧
      (after (.qwDataRead .pcie) ready).fld F.FAB_UNDERRUNS_COUNT = 1 := by decide +kernel

/-- Gate list 2 with two entries in its administrative bank, the second of which is the longer. -/
def gated : State :=
  let s := (ready.setFld (F.GCL_L_ADMIN_LEN_LEN 2) 2).setFld (F.GCL_L_ADMIN_CYCLE_CYCLE 2) 1000
  s.setGate 2 (((s.gate 2).setEntry 1 0 0x0F0001F4#32).setEntry 1 1 0x050001F4#32)

/-- Queue 5 enabled with a shaper, selected for statistics. -/
def shaped5 : State :=
  (ready.setQueue 5 { Queue.init with cfg := 0x80000000#32, shape := 0x80000064#32 }).setFld F.TSS_SEL_QUEUE 5

/-- Its last cycle has brought Datum to a whole second. -/
def sampling : State :=
  { shaped5 with
    now := ⟨1, 0, 0⟩
    dev := { shaped5.dev with upCycles := 1 }
    dtm := { shaped5.dtm with track := [{ cycle := 0, units := 1000000000 * 2 ^ 32 - 4 * 2 ^ 32, rate := 4 * 2 ^ 32 }] } }

/-- The hypotheses of `Obligations.ShapersStatisticsAndGateListsRun`, clause by clause. -/
theorem wit_ShapersStatisticsAndGateListsRun :
    ready.answers = true ∧ ready.operating = true ∧ ready.inOperation = true ∧
      ((after .tssRefill shaped5).queue 5).shaper = ((shaped5.queue 5).refill).shaper ∧
      (after .radioShaperTick (ready.setFld (F.TSS_RSHAPE_c_EN 7) 1)).regs = (ready.setFld (F.TSS_RSHAPE_c_EN 7) 1).regs ∧
      crossed sampling 0 (sampleNs (sampling.fld F.TSS_SAMPLE_CFG_CODE)) = true ∧ crossed shaped5 0 (sampleNs (shaped5.fld F.TSS_SAMPLE_CFG_CODE)) = false ∧
      ((after .sampleInstant sampling).queue 5).samples = 1 ∧ ready.flag F.TSS_ST_CTRL_SNAP = false ∧
      (let s := after (.stSnap .pcie) (after .sampleInstant sampling)
       s.tss.snapping = some 5 ∧ s.bus.goPending.contains (A.TSS_ST_CTRL * 32) = false ∧
         (after .stSnapDone s).reg A.TSS_ST_SAMPLES = 0x80000001#32 ∧ ((after (.stClear .jtag) s).queue 5).samples = 0) ∧
      gateLocked gated 2 = false ∧ gated.flag (F.GCL_L_CTRL_SWITCH 2) = false ∧
      gateReject gated 2 (adminParams gated 2).1 (adminParams gated 2).2.1 (1 - operBank gated 2) = none ∧
      (after (.gclSwitch .pcie 2) gated).flag (F.GCL_L_CTRL_SWITCH 2) = true ∧
      (gateReject ready 1 (adminParams ready 1).1 (adminParams ready 1).2.1 (1 - operBank ready 1)).isSome = true ∧
      (after (.gclSwitch .pcie 1) ready).fld F.GCL_REJECTS_COUNT = 1 ∧
      (let s := { after (.gclSwitch .pcie 2) gated with now := ⟨5, 0, 0⟩ }
       (s.gate 2).switch.any (fun w => w.at_ ≤ s.nowNs) = true ∧ s.bus.goPending.contains (A.GCL_L_CTRL 2 * 32 + 8) = false ∧
         operBank (after (.gclSwitchInstant 2) s) 2 = 1 ∧
         (after (.gateEntryAdvance 2) s).fld (F.GCL_L_OPER_STATE_ENTRY 2) = (gatesNow s 2).1 % 256) ∧
      (let s := ((ready.setFld F.GCL_WIN_SEL_LIST 2).setFld F.GCL_WIN_SEL_BANK 1).setFld F.GCL_WIN_CTRL_INC 1
       gateLocked s 2 = false ∧ operBank s 2 ≠ 1 ∧ s.flag (F.GCL_L_CTRL_SWITCH 2) = false ∧
         (((after (.gclWinDataAccess .pcie (some 77#32)) s).gate 2).entry 1 0) = 77#32 ∧
         (after (.gclWinDataAccess .spi none) s).out.length = 1) := by decide +kernel

/-- READY with port B in 1000BASE-T mode, its link at `rate`, both directions enabled. -/
def linked (rate : Nat) : State :=
  (((ready.setFld (F.EM_MODE_CFG_MODE 1) 2).setFld (F.EM_STATUS_RATE 1) rate).setFld (F.EM_CTRL_TX_EN 1) 1).setFld (F.EM_CTRL_RX_EN 1) 1

/-- The hypotheses of `Obligations.PortsLinkPauseSleepAndManage`, clause by clause. -/
theorem wit_PortsLinkPauseSleepAndManage :
    modeRate ((linked 0).fld (F.EM_MODE_CFG_MODE 1)) false 3 = true ∧ modeRate 2 true 1 = true ∧ (after (.ethLinkChange 1 3 false) (linked 0)).fld (F.EM_STATUS_RATE 1) = 3 ∧
      after (.ethLinkChange 1 3 false) (linked 3) = linked 3 ∧ (after (.ethLinkChange 1 0 true) (linked 3)).flag (F.EM_STATUS_LINK 1) = false ∧
      (let s := (linked 3).setFld (F.EM_MODE_CFG_AN_EN 1) 1
       s.flag (F.EM_MODE_CFG_AN_EN 1) = true ∧ ((after (.anDone 1 true true) s).port 1).pauseResolved = true ∧
         (after (.anDone 1 false true) s).fld (F.EM_STATUS_RATE 1) = 0) ∧
      causeSet (after (.ethModeWrite .spi 1 0x13#32) (linked 3)) 0x25 31 = true ∧
      ready.flag (F.EM_CTRL_TX_EN 1) = false ∧ ready.flag (F.EM_CTRL_RX_EN 1) = false ∧ ready.flag (F.EM_LOCK_LOCK0 1) = false ∧
      (after (.ethModeWrite .spi 1 0x13#32) ready).fld (F.EM_MODE_CFG_MODE 1) = 3 ∧
      (let s := (linked 3).setFld (F.EM_STATUS_PAUSED 1) 1
       (after (.pauseExpiry 1) s).flag (F.EM_STATUS_PAUSED 1) = false ∧ (after (.pauseWdogFire 1) s).flag (F.EM_STATUS_HOLD 1) = true ∧
         (after (.pauseHoldEnd 1) (s.setFld (F.EM_STATUS_HOLD 1) 1)).flag (F.EM_STATUS_HOLD 1) = false) ∧
      (let s := ((linked 3).setFld (F.EM_PAUSE_CFG_TX_PAUSE 1) 1).setFld F.FAB_BUF_CFG_LOW_CELLS 0x3FFF
       s.flag (F.EM_PAUSE_CFG_TX_PAUSE 1) = true ∧ sramFree s < s.fld F.FAB_BUF_CFG_LOW_CELLS ∧ portUp s 1 = true ∧
         s.flag (F.EM_STATUS_LPI_TX 1) = false ∧ (s.port 1).waking = false ∧ frameInProgress s 1 = false ∧ (s.port 1).pauseDue = [] ∧
         (after (.pauseTxRepeat 1) s).out.length = 1 ∧
         (let t := (s.setQueue 9 { Queue.init with items := [{ Item.blank with begun := true }] }).setEgress 1 { s.egress 1 with serving := some 9 }
          frameInProgress t 1 = true ∧ ((after (.pauseTxRepeat 1) t).port 1).pauseDue.length = 1) ∧
         ((after (.pauseTxRepeat 1) (s.setFld (F.EM_STATUS_LPI_TX 1) 1)).port 1).waking = true) ∧
      (let s := (linked 3).setFld (F.EM_EEE_CFG_EN 1) 1
       portHasItem s 1 = false ∧ s.pow.lgDue = [] ∧ (s.port 1).pauseDue = [] ∧
         (after (.lpiEnter 1) s).flag (F.EM_STATUS_LPI_TX 1) = true ∧
         (let s := s.setPort 1 { s.port 1 with waking := true }
          ((after (.lpiWakeDone 1) s).port 1).waking = false) ∧
         (let s := s.setPort 1 { s.port 1 with waking := true, pauseDue := [9] }
          frameInProgress s 1 = false ∧ (after (.lpiWakeDone 1) s).out.length = 1)) ∧
      ready.flag (F.EM_MDIO_CMD_GO 1) = false ∧ bit (0x78A51234#32 : Word).toNat 30 = true ∧
      (let s := after (.mdioGo .pcie 1 0x78A51234#32) ready
       s.flag (F.EM_MDIO_CMD_GO 1) = true ∧ s.bus.goPending.contains (A.EM_MDIO_CMD 1 * 32 + 31) = false ∧ (s.port 1).mdioRead = true ∧
         (after (.mdioDone 1 0xBEEF#16) s).fld (F.EM_MDIO_DATA_DATA 1) = 0xBEEF) := by decide +kernel

/-- The bytes of an untagged Ethernet frame of type `t` without its FCS. -/
def ethBytes (t : Nat) : List Byte := [1#8, 2#8, 3#8, 4#8, 5#8, 6#8, 7#8, 8#8, 9#8, 10#8, 11#8, 12#8] ++ beBytes 2 t ++ [0#8, 1#8, 0#8, 9#8] ++ List.replicate 46 7#8

/-- Port B up, receiving into queue 0. -/
def receiving : State :=
  ((linked 3).setFld (F.EM_MODE_CFG_AN_EN 1) 0).setQueue 0 { Queue.init with cfg := 0x84000000#32, state := 1, limit := 0x01000100#32 }

/-- An item that port B sends, at the head of queue 9. -/
def sentItem : Item := { Item.blank with bytes := ethBytes 0x0800, src := 0x30, appendFcs := true, committed := true }
def sending : State :=
  let s := (linked 3).setQueue 9 { Queue.init with cfg := 0x83000000#32, state := 1, items := [sentItem] }
  s.setEgress 1 { s.egress 1 with serving := some 9 }

/-- A tunnel on port B with TX_Q 9, OUT_Q 10 and RX_Q 11, its key in slot 0. -/
def tunnelling (rx : List Byte) : State :=
  let s := (ready.putSlot 0 { validSlot 4 with attr := 0x3FFF }).setFld (F.EM_TUN_CFG_EN 1) 1
  let s := ((s.setFld (F.EM_TUN_QS_TX_Q 1) 9).setFld (F.EM_TUN_OUTQ_OUT_Q 1) 10).setFld (F.EM_TUN_QS_RX_Q 1) 11
  let s := s.setQueue 9 { Queue.init with cfg := 0x84000000#32, state := 1, items := [sentItem] }
  let s := s.setQueue 10 { Queue.init with cfg := 0x83000000#32, state := 1, limit := 0x01000100#32 }
  s.setQueue 11 { Queue.init with cfg := 0x84000000#32, state := 1, items := [{ sentItem with bytes := rx }] }

/-- The hypotheses of `Obligations.FramesPassThePortsTunnelsAndKeys`, clause by clause. -/
theorem wit_FramesPassThePortsTunnelsAndKeys :
    (let s := receiving
     let b := ethBytes 0x0800
     s.operating = true ∧ s.flag (F.EM_CTRL_RX_EN 1) = true ∧ portMbps s 1 ≠ 0 ∧ rxQueue s 1 b ≤ 4095 ∧ outerTag s 1 b = none ∧
       (after (.ethRxFrame 1 (withFcs b)) s).fld (F.EM_RX_FRAMES_COUNT 1) = 1 ∧
       (after (.ethRxFrame 1 (List.replicate 2000 0#8)) s).fld (F.EM_RX_OVERSIZE_COUNT 1) = 1 ∧
       (after (.ethRxFrame 1 ((withFcs b).drop 8)) s).fld (F.EM_RX_FCS_ERR_COUNT 1) = 1 ∧
       (after (.ethRxFrame 1 (withFcs (b.drop 8))) s).fld (F.EM_RX_RUNT_COUNT 1) = 1 ∧
       s.flag (F.EM_PAUSE_CFG_RX_PAUSE 1) = true ∧ s.flag (F.EM_MODE_CFG_AN_EN 1) = false ∧
       (after (.ethRxFrame 1 (withFcs (ethBytes 0x8808))) s).fld (F.EM_RX_PAUSE_COUNT 1) = 1) ∧
      (let s := sending
       (s.egress 1).serving = some 9 ∧ (s.queue 9).items = [sentItem] ∧ s.pow.lgDue = [] ∧ portUp s 1 = true ∧
         (after (.ethTxBegin 1) s).fld (F.EM_TX_FRAMES_COUNT 1) = 1 ∧
         (after (.ethTxBegin 1) (s.setFld (F.EM_FRAME_CFG_MAX_FRAME 1) 64)).fld (F.EM_TX_OVERSIZE_COUNT 1) = 1) ∧
      (let s := ready.setFld (F.EM_SA_SEL_AN 1) 2
       s.flag (F.EM_LOCK_LOCK1 1) = false ∧ (saGet s 1).en = false ∧ (saGet (after (.saCfgWrite .pcie 1 0 0x11#32) s) 1).slot = 0x11 ∧
         (saGet (after (.saCfgWrite .pcie 1 1 0x11#32) s) 1).pn = 0x11 ∧
         (let t := s.putSlot 5 { validSlot 4 with attr := 0x3FFF }
          (slotKeyUse t 5 (some destGcm) 8).isSome = true ∧ (saGet (after (.saCfgWrite .pcie 1 0 0x80000005#32) t) 1).en = true) ∧
         (let t := saPut s 1 { saGet s 1 with en := true, slot := 5 }
          (saGet t 1).en = true ∧ (saGet (after (.saCfgWrite .pcie 1 0 5#32) t) 1).en = false ∧
            causeSet (after (.saCfgWrite .pcie 1 3 5#32) t) 0x25 31 = true) ∧
         (let t := after (.saCfgWrite .pcie 1 2 0x11#32) s
          Tbl.get noHold t.bus.hold Requester.pcie.code = { base := A.EM_RX_SCI 1, words := [(A.EM_RX_SCI 1, 0x11#32)] } ∧
            Tbl.get (fun _ => 0) ((after (.saCfgWrite .pcie 1 3 0x12#32) t).port 1).sci 0 = 0x1200000011)) ∧
      (let s := tunnelling []
       s.flag (F.EM_TUN_CFG_EN 1) = true ∧ (s.queue 9).dest = 4 ∧ (s.queue 10).dest = 3 ∧ (s.queue 11).dest = 4 ∧ (s.port 1).tunDone = false ∧
         s.engaged = true ∧ engineOut s 9 = false ∧ engineOut s 11 = false ∧ gcmFree s = true ∧
         gcmFree { s with sec := { s.sec with gcm := [true] } } = false ∧ slotKeyUse (s.putSlot 0 { validSlot 4 with attr := 0 }) 0 (some destGcm) 8 = none ∧
         (slotKeyUse s (s.fld (F.EM_TUN_CFG_KEY_SLOT 1)) (some destGcm) 8).isSome = true ∧ (s.port 1).tunNext + 1 < 2 ^ 32 ∧
         (tunnelOpen (delivered s 11) 1 ([] : List Byte)).2 = none ∧ (after (.tunnelDecap 1) s).fld (F.EM_TUN_DROPS_COUNT 1) = 1) ∧
      (let s := ready.setPort 1 { ready.port 1 with txts := [{ msgType := 1, seqId := 7, ts := List.replicate 12 3#8, qseq := 44 }] }
       ((after (.txtsPop .pcie 1) s).port 1).txts = [] ∧ (ready.port 1).txts = [] ∧ (after (.txtsPop .pcie 1) ready).out.length = 1) ∧
      (let s (b : List Byte) : State := framed ready b .waiting 0 []
       ((s []).lane 1).rx.length = 1 ∧ ((after (.ccmRequest 1) (s [])).lane 1).rx = [] ∧
         fVersion (List.replicate 12 255#8) ≠ 0 ∧ ((after (.ccmRequest 1) (s (List.replicate 12 255#8))).fld F.MAC_OUT_OF_WINDOW_COUNT = 1) ∧
         fVersion (header 1 9) = 0 ∧ fType (header 1 9) ≠ 0 ∧
         ((after (.ccmRequest 1) (s (header 1 9))).lane 1).rx.map (fun f => f.check) = [.fail]) := by decide +kernel

/-- The last hypothesis of the tunnel's opening, for whatever GCM answers: where it verifies an inner item for queue 3 (DEST 0, SEQ 1), the
item is open. -/
theorem wit_tunnelOpens (plain : List Byte) :
    let p : List Byte := leBytes 4 0 ++ leBytes 8 1 ++ leBytes 2 3 ++ leBytes 2 0 ++ List.replicate 16 0#8
    Config.gcmOpen [1#8] (p.take 12) (p.take 16) ((p.drop 16).take (fieldAt p 14 2 + 16)) = some plain →
      tunnelOpen (tunnelling p) 1 p = (some true, some (3, plain, 1)) := by
  intro p h
  have hk : slotKeyUse (tunnelling p) ((tunnelling p).fld (F.EM_TUN_CFG_KEY_SLOT 1)) (some destGcm) 9 = some [1#8] := by decide +kernel
  have h0 : tunnelMine (tunnelling p) 1 p = true := by decide +kernel
  have h1 : (decide (fieldAt p 4 8 ≤ ((tunnelling p).port 1).tunLast) || decide (4095 < fieldAt p 12 2) ||
      !(((tunnelling p).queue (fieldAt p 12 2)).dest == 0 || ((tunnelling p).queue (fieldAt p 12 2)).dest == 1)) = false := by decide +kernel
  have h2 : (fieldAt p 12 2, fieldAt p 4 8) = (3, 1) := by decide +kernel
  simp only [Prod.mk.injEq] at h2
  unfold tunnelOpen
  simp only [h0, hk, h, Bool.not_true, Bool.false_eq_true, if_false]
  rw [if_neg (by rw [h1]; decide), h2.1, h2.2]

/-- READY with the Datum's source at `n`, its servo in state `v`. -/
def datum (n v : Nat) : State := (ready.setFld F.DTM_SRC_CFG_SOURCE n).setFld F.DTM_STATUS_SERVO v

/-- Queue 6, from which PTP is served, with a message of a type at its head. -/
def hearing (type : Nat) (s : State) : State :=
  s.setQueue 6 { Queue.init with cfg := 0x84000000#32, state := 1, items :=
    [{ Item.blank with src := 0x11, bytes := List.replicate 12 0#8 ++ [0x88#8, 0xF7#8] ++ leBytes 1 type ++ List.replicate 43 0#8 }] }

/-- The Datum disciplined by PTP through port B, which receives into queue 6, with a master chosen and its path delay measured. -/
def disciplined : State :=
  let s := (datum 2 2).setFld (F.EM_PTP_Q_QUEUE 1) 6
  after (.ptpDelayRespRx 1 0 100 200 300 [0]) (hearing 9 (after (.ptpAnnounceRx 1 0 77 3 [1, 2]) (hearing 11 s)))

/-- The same with port B's PTP messages in queue 7, and DELAY_MECH and PD_ONE_STEP as given. -/
def asking (peer : Nat) : State :=
  let s := ((disciplined.setFld F.DTM_PTP_TXQ_TXQ_B 7).setFld F.DTM_PTP_CFG_DELAY_MECH peer).setFld F.DTM_PTP_CFG_PD_ONE_STEP peer
  s.setQueue 7 { Queue.init with cfg := 0x83000000#32, state := 1, limit := 0x01000100#32 }

/-- The hypotheses of `Obligations.DatumIsKeptAndDisciplined`, clause by clause. -/
theorem wit_DatumIsKeptAndDisciplined :
    (let s := withCmd ready (cmdOf 0x0501 (leBytes 8 5000000000))
     (starting s boxId 0x0501).isSome = true ∧ (after (.datumStep boxId) s).now.sec = 5 ∧ statusOf (after (.datumStep boxId) s) = some 0) ∧
      (after (.dtmTimeSnapshot .spi) ready).out.length = 1 ∧ (after (.ppsTsPop .pcie) ready).out.length = 1 ∧
      owned ready = false ∧ incMin ≤ inc ready ∧ inc ready ≤ incMax ∧
      (let s := after (.incWrite .pcie false 9#32) ready
       Tbl.get noHold s.bus.hold Requester.pcie.code = { base := A.DTM_INC, words := [(A.DTM_INC, 9#32)] } ∧
         inc (after (.incWrite .pcie true 4#32) s) = 9 + 4 * 2 ^ 32 ∧ causeSet (after (.incWrite .pcie true 5#32) s) 0x26 31 = true) ∧
      owned (datum 3 0) = true ∧ causeSet (after (.adjPhaseWrite .pcie 5#32) (datum 3 0)) 0x26 31 = true ∧
      (after (.adjPhaseWrite .pcie 0xFFFFFFF0#32) ready).dtm.slew = -16 * 2 ^ 32 ∧
      (after (.adjPhaseWrite .pcie 0x7FFFFFFF#32) ready).fld F.DTM_REFUSED_JUMPS_COUNT = 1 ∧
      ready.flag F.DTM_LOCK_LOCK0 = false ∧ source (after (.srcCfgWrite .pcie 5#32) ready) = 5 ∧
      source (after (.srcCfgWrite .pcie 0#32) (datum 0 0)) = 0 ∧
      source (datum 4 1) = 4 ∧ (after (.hostLockWrite .pcie 1#32) (datum 4 1)).fld F.DTM_STATUS_SERVO = 2 ∧
      source (datum 3 1) ≠ 4 ∧ (after (.hostLockWrite .pcie 1#32) (datum 3 1)).flag F.DTM_CTRL_HOST_LOCK = true ∧
      (let s := after (.adjPhaseWrite .pcie 0xFFFFFFF0#32) ready
       s.boot.pllLocked = true ∧ s.flag F.DTM_STATUS_SLEWING = true ∧ (after .slewDone s).dtm.slew = 0) ∧
      (let s := (sampling.setFld F.DTM_PPS_OUT_CFG_EN 1).setFld F.DTM_PPS_OUT_CFG_QUAL 0
       crossed s (s.fld F.DTM_PPS_OUT_CFG_ADV_NS) 1000000000 = true ∧ (after .ppsOutStart s).dtm.ppsOut = true ∧
         s.dev.upCycles < s.dtm.ppsAt + s.fld F.DTM_PPS_OUT_CFG_WIDTH_MS * 250000 ∧
         (after .ppsOutEnd { after .ppsOutStart s with dev := { s.dev with upCycles := 1000000000 } }).dtm.ppsOut = false) ∧
      crossed ready 0 1000000000 = false ∧
      (after .holdoverExpiry (datum 3 3)).fld F.DTM_STATUS_SERVO = 0 ∧
      (datum 3 4).fld F.DTM_STATUS_SERVO = 4 ∧ source (datum 3 4) ≠ 4 ∧ (after .timeOkHoldExpiry (datum 3 2)).flag F.DTM_STATUS_TIME_OK = true ∧ (after .timeOkHoldExpiry (datum 3 4)).flag F.DTM_STATUS_TIME_OK = false ∧
      (after .ppsInEdge (ready.setFld F.DTM_PPS_IN_CFG_EN 1)).flag F.DTM_PPS_TS_VALID = true ∧
      (after .ppsSourceLoss (datum 3 2)).fld F.DTM_STATUS_SERVO = 3 ∧
      source ready ≠ 3 := by decide +kernel

/-- The hypotheses of its clauses about PTP. -/
theorem wit_DatumIsKeptAndDisciplined_ptp :
    disciplined.dtm.chosen.map (fun m => (m.port, m.clockId)) = some (1, 77) ∧ disciplined.dtm.pathDelay.isSome = true ∧
      (after .ptpMasterLoss disciplined).dtm.chosen = none ∧ bestMaster [] = none ∧
      (let s := after (.ptpAnnounceRx 1 0 78 3 [1, 3]) (hearing 11 disciplined)
       (bestMaster (s.dtm.masters.filter (fun y => y.clockId != 77))).map (fun m => m.clockId) = some 78 ∧
         (after .ptpMasterLoss s).dtm.chosen.map (fun m => m.clockId) = some 78) ∧
      (after (.ptpAnnounceRx 1 0 77 3 [1, 1]) (hearing 11 disciplined)).dtm.pathDelay = disciplined.dtm.pathDelay ∧
      (takePtp disciplined 1 0).1 = none ∧ (takePtp (hearing 0 disciplined) 1 0).1.map (fun r => stampGen r.1) = some 0 ∧
      (after (.ptpSyncRx 1 0 77 0 100000000 0) (hearing 0 disciplined)).fld F.DTM_SYNC_RX_COUNT = 1 ∧
      (takePtp (hearing 9 disciplined) 1 9).1.isSome = true ∧ (takePtp (hearing 11 disciplined) 1 11).1.isSome = true ∧
      ptpOn disciplined 1 = true ∧ datumFollows disciplined = false ∧ disciplined.fld F.DTM_STATUS_STEP_GEN = 0 ∧
      disciplined.fld F.DTM_PTP_CFG_DOMAIN = 0 ∧ disciplined.fld F.DTM_JUMP_THRESH_NS < 10000000 ∧
      (disciplined.setFld F.DTM_STATUS_TIME_SET 1).flag F.DTM_STATUS_TIME_SET = true ∧ 1000 ≤ disciplined.fld F.DTM_JUMP_THRESH_NS ∧
      (disciplined.queue (disciplined.fld F.DTM_PTP_TXQ_TXQ_B)).dest ≠ 3 ∧
      ((asking 0).queue 7).dest = 3 ∧ (asking 0).flag F.DTM_PTP_CFG_TRANSPORT = false ∧ (asking 0).flag F.DTM_PTP_CFG_DELAY_MECH = false ∧
      (asking 1).flag F.DTM_PTP_CFG_DELAY_MECH = true ∧ (asking 1).flag F.DTM_PTP_CFG_PD_ONE_STEP = true ∧ ((takePtp (hearing 2 (asking 1)) 1 2).2.queue 7).dest = 3 ∧
      (takePtp (hearing 2 (asking 1)) 1 2).1.isSome = true := by decide +kernel

/-- READY with a path reading of 100 mV, the servo's action `act`, and clock bounds of `lo` and `hi` MHz. -/
def planning (act lo hi : Nat) : State :=
  let s := match execPathReading [(3, 100#16)] ready with
    | .next t => t
    | _ => ready
  ((s.setFld F.MGM_CTRL_ACT act).setFld F.MGM_CBOUND_CLK_MIN_MHZ lo).setFld F.MGM_CBOUND_CLK_MAX_MHZ hi

/-- The same with clock and voltage as given. Bounds that no clock meets make the plan the lowest clock at the highest voltage, whatever
the paths' sensitivity. -/
def planAt (act mhz mv : Nat) : State :=
  let s := planning act 500 400
  s.setMgm { s.mgm with fNow := mhz, vNow := mv }

/-- The hypotheses of `Obligations.HeatsMarginsAndPlansAreKept`, clause by clause. -/
theorem wit_HeatsMarginsAndPlansAreKept :
    (let s := { ready with boot := { ready.boot with fwDone := true } }
     s.inOperation = true ∧ (after (.heatStart [(5, 400), (24, 3)]) s).cox.running = true) ∧
      mgmRuns ready = true ∧ ready.mgm.planEvent = none ∧ ready.mgm.volt = .none ∧ ready.mgm.work = none ∧
      (planning 1 500 800).fld F.MGM_EMERGENCIES_COUNT = 0 ∧
      (let s := ready.setMgm { ready.mgm with fNow := 2000 }
       s.fld F.MGM_CBOUND_CLK_MIN_MHZ < 2000 ∧ (after (.pathReading [(3, 0xFFF0#16)]) s).fld F.MGM_EMERGENCIES_COUNT = 1) ∧
      (after (.tempReading [(5, 0x9C#8)]) ready).fld (F.LRF_STATUS_TEMP 1) = 0x9C ∧ ready.mgm.hot.contains 6 = false ∧
      (after (.tempReading [(6, 0x7F#8)]) ready).mgm.hot = [6] ∧
      (after (.canaryReading [(5, 0x9C#16)]) ready).fld (F.MGM_CANARY_MV 5) = 0x9C ∧
      (after (.retentionProbeInterval 3 2 true) ready).mgm.probes = [(3, 256)] ∧
      causeSet (after (.retentionProbeInterval 15 4 true) ready) 0x33 6 = true ∧
      (let s := planAt 0 600 500
       holdUp s = false ∧ s.bst.run = none ∧ s.mgm.work = none ∧ pathsValid s = true ∧ s.mgm.volt = .none ∧ mgmAct s ≠ 2 ∧
         s.mgm.vNow < (planPair s).2.1 ∧ (after .planStart s).mgm.volt = .confirming (planPair s).2.1 false ∧
         (let u := writeFields s .pcie A.MGM_CTRL (0#32 ||| 0x100#32) allBits
          pathsValid u = true ∧ u.mgm.volt = .none ∧ mgmAct u ≠ 2 ∧ u.mgm.vNow < (planPair u).2.1) ∧
         (after (.planNowWrite .pcie 0#32) s).flag F.MGM_CTRL_PLAN_NOW = true ∧
         (let t := after .planStart s
          t.mgm.work.isSome = true ∧ (after (.planNowWrite .pcie 8#32) t).mgm.planDue = true)) ∧
      (let s := planAt 0 600 900
       (planPair s).2.1 ≤ s.mgm.vNow ∧ s.mgm.fNow ≠ (planPair s).1 ∧ (after .planStart s).flag F.MGM_STATUS_RAMPING = true ∧
         (after .planStart s).mgm.work.map (fun w => (w.stage, w.mhz)) = some (1, 500) ∧
         (after .clkRampStep (after .planStart s)).mgm.fNow = 575) := by decide +kernel

/-- The rest of them: the ramp, a plan without work, the age, the regulator. -/
theorem wit_HeatsMarginsAndPlansAreKept_regulator :
      (let s := after .planStart (planAt 0 400 900)
       (after .clkRampStep s).mgm.fNow = 425 ∧ (after .clkRampStep (s.setMgm { s.mgm with fNow := 490 })).mgm.fNow = 500) ∧
      (let s := planAt 0 500 880
       s.mgm.vNow = (planPair s).2.1 ∧ s.mgm.fNow = (planPair s).1 ∧ planGo s = [] ∧ (after .planStart s).fld F.MGM_PLANS_COUNT = 1 ∧
         (let u := writeFields s .pcie A.MGM_CTRL (0#32 ||| 0x100#32) allBits
          planGo u = [8] ∧ u.bus.goPending = [] ∧ u.mgm.vNow = (planPair u).2.1 ∧ u.mgm.fNow = (planPair u).1) ∧
         (after (.planNowWrite .pcie 0#32) s).flag F.MGM_CTRL_PLAN_NOW = false) ∧
      ready.mgm.age.live.hours + 1 = 1 ∧ (after .ageHour ready).mgm.age.live.hours = 1 ∧
      (let s := ready.setMgm { ready.mgm with age := ready.mgm.age.write 239 5 }
       s.mgm.age.live.hours + 1 = 240 ∧ (after .ageHour s).mgm.age.live.hours = 240) ∧
      (after (.avsResetWrite .pcie 8#32) (ready.setFld F.MGM_STATUS_AVS_FAULT 1)).flag F.MGM_STATUS_AVS_FAULT = false ∧
      (let s := ready.setFld F.MGM_CTRL_ACT 0
       s.fld F.MGM_CTRL_ACT = 0 ∧ (after .pmbusPoll s).out.length = 2 ∧
         (after (.pmbusTransactionDone 0x8C true 0xE010#16) s).fld F.MGM_MEAS_IOUT_MA = linear11Ma 0xE010 ∧
         (after (.pmbusTransactionDone 0x79 true 0x1000#16) s).fld F.MGM_PMB_STATUS_WORD = 0x1000 ∧
         (after (.pmbusTransactionDone 0x8B true 0x1000#16) s).fld F.MGM_MEAS_VOUT_MV = min 65535 (linear16Mv s 0x1000 / 65536) ∧
         (let t := s.setMgm { s.mgm with volt := .confirming 800 false, nacks := 2 }
          (after (.pmbusTransactionDone 0x21 true 0#16) t).mgm.volt = .confirming 800 true ∧
            (after (.pmbusTransactionDone 0x8C false 0#16) t).flag F.MGM_STATUS_AVS_FAULT = true ∧
            (after .avsSettleTimeout t).fld F.MGM_AVS_ERRORS_COUNT = 1) ∧
         (let t := s.setMgm { s.mgm with volt := .confirming 800 true }
          t.flag F.MGM_STATUS_AVS_FAULT = false ∧
            ((linear16Mv t 0x0CCD : Int) - 800 * 65536).natAbs ≤ t.fld F.MGM_PMBUS_CFG_TOL_MV * 65536 ∧
            (after (.pmbusTransactionDone 0x8B true 0x0CCD#16) t).mgm.vNow = 800)) ∧
      (let s := (ready.setFld F.MGM_CTRL_ACT 1).setMgm { ready.mgm with volt := .confirming 800 false }
       mgmAct s = 1 ∧ (after .vidSettleExpiry s).mgm.volt = .confirming 800 true) := by decide +kernel

/-- In a mode of the device with mains power good. -/
def powered (n : Nat) : State := (ready.setFld F.SYS_STATUS_DEV_STATE n).setFld F.AON_STATUS_MAINS_OK 1

/-- In WATCH after a loss of mains power, with the wake-up receiver listening. -/
def asleep : State :=
  let s := { powered 5 with pow := { ready.pow with watchCause := 1, aonCycles := 5 * 250000000 } }
  ((s.setReg A.WUR_FREQ 0x650000#32).setReg A.WUR_ADDR 0x80000001#32).setFld F.AON_WATCH_CFG_WUR_HOLDUP 1

/-- In the grace time after mains power fell. -/
def grace : State := after .mainsOkFall (powered 2)

/-- READY with the entry into WATCH begun. -/
def entering (committed : Bool) : State :=
  { ready with pow := { ready.pow with entry := some { cause := 2, wurWake := true, committed := committed, commanded := true } } }

/-- READY in the last-gasp window with frame 2 due at port B, whose link is up. -/
def gasping : State := { linked 3 with pow := { ready.pow with lgDue := [(1, 2)], lgOpen := true } }

/-- The hypotheses of `Obligations.PowerIsLostWatchedAndRestored`, clause by clause. -/
theorem wit_PowerIsLostWatchedAndRestored :
    holdUp ready = false ∧ (after (.pwrReqWrite .pcie 1#32) ready).flag F.SYS_CTRL_PWR_REQ = true ∧
      (let s := ready.setFld F.SYS_STATUS_PWR_MODE 2
       holdUp s = true ∧ after (.pwrReqWrite .pcie 1#32) s = s) ∧
      ready.flag F.SYS_LOCK_LOCK1 = false ∧ (after (.lgDataWrite .pcie 77#32) ready).fld F.SYS_LG_SEL_WORD = 1 ∧
      wordAddr 0x02030 / 0x1000 = 2 ∧ implemented (wordAddr 0x02030) = true ∧ ready.pow.aonQueue.length < 8 ∧
      A.AON_WATCH_CFG = 0x02030 ∧
      (let s := after (.aonShadowWrite .pcie 0x02030 0x00050003#32) ready
       s.pow.aonQueue.map (fun w => (w.addr, w.mask)) = [(A.AON_WATCH_CFG, allBits)] ∧ s.flag F.AON_LOCK_LOCK1 = false ∧
         s.pow.shadow.map (fun e => e.1) = [A.AON_WATCH_CFG] ∧ (after .aonWriteApply s).fld F.AON_WATCH_CFG_MIN_SLEEP_S = 5 ∧
         causeSet (after .aonWriteApply (s.setFld F.AON_LOCK_LOCK1 1)) 0x02 31 = true ∧
         (let u := { s with pow := { s.pow with aonQueue := List.replicate 8 (s.pow.aonQueue.headD ⟨.pcie, 0, 0, 0#32, 0#32⟩) } }
          8 ≤ u.pow.aonQueue.length ∧ causeSet (after (.aonShadowWrite .pcie 0x02030 1#32) u) 0x02 31 = true)) ∧
      inWatch asleep = true ∧ (after .mainsOkFall asleep).pow.wasLow = true ∧
      (powered 2).answers = true ∧ watchCommitted (powered 2) = false ∧ (powered 2).fld F.AON_MAINS_CFG_GRACE_MS ≠ 0 ∧
      grace.flag F.AON_STATUS_GRACE = true ∧ grace.flag F.AON_STATUS_MAINS_OK = false ∧ ready.flag F.AON_STATUS_MAINS_OK = false ∧
      ready.flag F.AON_STATUS_GRACE = false ∧ (after .mainsOkRise ready).flag F.AON_STATUS_MAINS_OK = true ∧
      (after .mainsOkRise grace).fld F.AON_MAINS_GLITCHES_COUNT = 1 ∧ grace.ready = true ∧ holdUp grace = false ∧
      (after .mainsGraceExpiry grace).fld F.AON_HOLDUPS_COUNT = 1 ∧
      (after .mainsGraceExpiry (grace.setFld F.SYS_STATUS_DEV_STATE 3)).flag F.AON_STATUS_GRACE = false ∧
      asleep.pow.watchCause = 1 ∧ (after (.mainsRestoreExpiry 7) asleep).devState = 1 ∧
      asleep.flag F.AON_STATUS_MAINS_OK = true := by decide +kernel

/-- The rest of them: the last-gasp window, the entry into WATCH, the wake-up receiver and the clock monitors. -/
theorem wit_PowerIsLostWatchedAndRestored_watch :
      portUp gasping 1 = true ∧ midFrame gasping 1 = false ∧ gasping.flag (F.EM_MACSEC_CFG_TX_PROTECT 1) = false ∧
      gasping.flag (F.EM_STATUS_LPI_TX 1) = false ∧ (gasping.port 1).waking = false ∧ (after (.lastGaspTx 1) gasping).pow.lgSent = 1 ∧
      ((after (.lastGaspTx 1) (gasping.setFld (F.EM_STATUS_LPI_TX 1) 1)).port 1).waking = true ∧
      (after .lgTimeoutExpiry gasping).pow.lgDropped = 1 ∧
      (entering false).pow.lgOpen = false ∧ ((List.range 4).all (fun n => laneState (entering false) n != 4)) = true ∧
      (after .watchCommit (entering false)).pow.entry.map (fun e => e.committed) = some true ∧
      (entering true).pow.entry.any (fun e => watchRecordDue (entering true) e) = false ∧ (after .watchEntryDone (entering true)).devState = 5 ∧
      (let s := ((maint.setFld F.WUR_CTRL_TEST 1).setReg A.WUR_FREQ 0x650000#32).setReg A.WUR_ADDR 0x80000001#32
       inWatch s = false ∧ wurListens s = true ∧ wurMatches s 0x80000002 0x80 = false ∧ wurMatches s 0x80000001 0x80 = true ∧
         (after (.wurTelegramRx true false 0x80000001#32 0x80#8 9#8 0) s).fld F.WUR_CRC_ERRORS_COUNT = 1 ∧
         (after (.wurTelegramRx true true 0x80000001#32 0x80#8 9#8 0) s).fld F.WUR_MATCHES_COUNT = 1) ∧
      (let u := aonTick asleep (250000000 * 100)
       wurListens u = true ∧ wurMatches u 0x80000001 0x80 = true ∧
         asleep.pow.watchAt + asleep.fld F.AON_WATCH_CFG_MIN_SLEEP_S ≤ u.fld F.AON_TIME_SECONDS ∧
         (after (.wurTelegramRx true true 0x80000001#32 0x80#8 9#8 100) asleep).devState = 1) ∧
      (let u := aonTick asleep (250000000 * 1)
       u.fld F.AON_TIME_SECONDS < asleep.pow.watchAt + asleep.fld F.AON_WATCH_CFG_MIN_SLEEP_S ∧
         (after (.wurTelegramRx true true 0x80000001#32 0x80#8 9#8 1) asleep).fld F.AON_WAKES_IGNORED_COUNT = 1) ∧
      ready.pow.stopped = false ∧ (after (.clockRefLoss 0) ready).pow.stopped = true ∧
      (after (.clockRefRestore 0) (after (.clockRefLoss 0) ready)).pow.stopped = false ∧
      ready.pow.refLost.contains 1 = false ∧ (after (.clockRefLoss 1) ready).pow.refLost = [1] ∧
      (after (.clockRefRestore 1) (after (.clockRefLoss 1) ready)).pow.refLost = [] ∧
      (after (.clockRefLoss 2) ready).pow.refLost = [2] ∧
      (after (.clockRefRestore 2) (after (.clockRefLoss 2) ready)).flag F.SYS_CLK_STATUS_REF100_OK = true ∧
      ready.flag F.AON_STATUS_RC_CLK = false ∧ (after (.clockRefLoss 3) ready).flag F.AON_STATUS_RC_CLK = true ∧
      (after (.clockRefRestore 3) (after (.clockRefLoss 3) ready)).pow.xtalBack = true ∧
      (after .xtalStableExpiry (after (.clockRefRestore 3) (after (.clockRefLoss 3) ready))).flag F.AON_STATUS_RC_CLK = false := by
  decide +kernel

end Sys2Proof.Tests
end

section
/-!
PROOFS. The register model (02_register_model.md): what a write of a header register and of the indirect window does in READY and
MAINTENANCE, and the statements O12, O13 and O17.
-/
namespace Sys2Proof.Machine

/-! ### Bits of words -/

theorem bit_eq_testBit (n b : Nat) : bit n b = n.testBit b := by
  rw [bit, Nat.testBit_eq_decide_div_mod_eq]
  rfl

/-- A bit is the one-bit field at its place. -/
theorem bit_eq_bitsOf (n b : Nat) : bit n b = (bitsOf n b 1 == 1) := rfl

/-- A field cut in two: its `j` low bits, and the `k` bits above them. -/
theorem bitsOf_add (n l j k : Nat) : bitsOf n l (j + k) = bitsOf n l j + 2 ^ j * bitsOf n (l + j) k := by
  simp only [bitsOf, pow_add, ← Nat.div_div_eq_div_mul]
  exact Nat.mod_mul

/-- The low bits of a field just written. -/
theorem bitsOf_insBits_low (w : Word) (l k j v : Nat) (h : l + k ≤ 32) (hj : j ≤ k) :
    bitsOf (insBits w l k v).toNat l j = v % 2 ^ j := by
  apply Nat.eq_of_testBit_eq
  intro i
  rw [testBit_bitsOf, BitVec.testBit_toNat, getLsbD_insBits _ _ _ _ _ h, Nat.testBit_mod_two_pow]
  by_cases hi : i < j
  · simp [hi, show i < k by omega]
  · simp [hi]

/-- Two fields that meet and fill the word replace all of it. -/
theorem insBits_insBits_whole (w d : Word) (k : Nat) (h : k ≤ 32) :
    insBits (insBits w 0 k (bitsOf d.toNat 0 k)) k (32 - k) (bitsOf d.toNat k (32 - k)) = d := by
  apply BitVec.eq_of_getLsbD_eq
  intro i hi
  rw [getLsbD_insBits _ _ _ _ _ (by omega), getLsbD_insBits _ _ _ _ _ (by omega)]
  by_cases hk : i < k
  · simp [testBit_bitsOf, hk, BitVec.testBit_toNat, show ¬ k ≤ i by omega]
  · simp [testBit_bitsOf, hi, BitVec.testBit_toNat, show k ≤ i by omega, show i < k + (32 - k) by omega,
      show i - k < 32 - k by omega]

theorem and_allBits (data : Word) : data &&& allBits = data := BitVec.and_allOnes

/-- A write of all bits keeps nothing of the old word. -/
theorem merged_allBits (old data : Word) : (old &&& ~~~allBits) ||| (data &&& allBits) = data := by
  rw [and_allBits]
  simp only [allBits, BitVec.reduceNot, BitVec.and_zero, BitVec.zero_or]

/-- A mask of all bits has all bits of every field. -/
theorem bitsOf_allBits (l k : Nat) (h : l + k ≤ 32) : bitsOf allBits.toNat l k = 2 ^ k - 1 := by
  apply Nat.eq_of_testBit_eq
  intro i
  rw [testBit_bitsOf, show allBits.toNat = 2 ^ 32 - 1 from rfl, Nat.testBit_two_pow_sub_one, Nat.testBit_two_pow_sub_one]
  by_cases hi : i < k
  · simp [hi, show l + i < 32 by omega]
  · simp [hi]

/-! ### Flags, and what a state leaves alone of another -/

theorem State.flag_setFld_one (s : State) {f : Fld} (hw : f.width = 1) (h : f.lsb + f.width ≤ 32) : (s.setFld f 1).flag f = true := by
  rw [State.flag, State.fld_setFld_self _ _ _ h, hw]
  rfl

theorem State.flag_setFld_zero (s : State) {f : Fld} (h : f.lsb + f.width ≤ 32) : (s.setFld f 0).flag f = false := by
  rw [State.flag, State.fld_setFld_self _ _ _ h, Nat.zero_mod]
  rfl

theorem State.flag_setFld_apart (s : State) {f g : Fld} (v : Nat) (h : f.lsb + f.width ≤ 32)
    (hd : g.addr ≠ f.addr ∨ g.lsb + g.width ≤ f.lsb ∨ f.lsb + f.width ≤ g.lsb) : (s.setFld f v).flag g = s.flag g := by
  rw [State.flag, State.fld_setFld_apart _ _ _ _ h hd, State.flag]

theorem onlyRegs_setReg (s : State) (a : Nat) (w : Word) : OnlyRegs s (s.setReg a w) [a] :=
  fun _ hc => State.reg_setReg_ne s w (by simpa using hc)

theorem onlyRegs_setFld (s : State) (f : Fld) (v : Nat) : OnlyRegs s (s.setFld f v) [f.addr] := onlyRegs_setReg s _ _

theorem OnlyRegs.mono {s t : State} {as bs : List Nat} (h : OnlyRegs s t as) (hab : as ⊆ bs) : OnlyRegs s t bs :=
  fun c hc => h c (fun m => hc (hab m))

theorem OnlyRegs.trans {s t u : State} {as bs : List Nat} (h : OnlyRegs s t as) (h' : OnlyRegs t u bs) : OnlyRegs s u (as ++ bs) :=
  fun c hc => (h' c (fun m => hc (List.mem_append_right _ m))).trans (h c (fun m => hc (List.mem_append_left _ m)))

theorem OnlyRegs.fld {s t : State} {as : List Nat} (h : OnlyRegs s t as) {f : Fld} (hf : f.addr ∉ as) : t.fld f = s.fld f :=
  State.fld_congr (h _ hf)

theorem OnlyRegs.flag {s t : State} {as : List Nat} (h : OnlyRegs s t as) {f : Fld} (hf : f.addr ∉ as) : t.flag f = s.flag f := by
  rw [State.flag, h.fld hf, State.flag]

theorem sameMemory_of_dram {s t : State} (h : t.dram = s.dram) : SameMemory s t := by
  intro a
  rw [State.ram, h, State.ram]

/-! ### Errors captured (R43) -/

theorem requester_code_lt (r : Requester) : r.code < 256 := by
  cases r with
  | pe n => simp only [Requester.code]; omega
  | _ => decide

section
variable (s : State) (page code src addr : Nat)

/-- An error touches registers, the attachment to the host and what is sent alone. -/
theorem recordErr_frame : recordErr s page code src addr =
    { s with regs := (recordErr s page code src addr).regs, host := (recordErr s page code src addr).host,
             out := (recordErr s page code src addr).out } := by
  simp only [recordErr, setCause]
  rw [fire_frame]
  split <;> rfl

theorem onlyRegs_recordErr :
    OnlyRegs s (recordErr s page code src addr) [page * 0x1000 + 0x010, page * 0x1000 + 0x01C, page * 0x1000 + 0x020] := by
  intro a ha
  simp only [List.mem_cons, List.not_mem_nil, or_false, not_or] at ha
  obtain ⟨hstat, hcap, haddr⟩ := ha
  exact recordErr_reg_ne _ _ _ _ _ hstat hcap haddr

theorem causeSet_recordErr : causeSet (recordErr s page code src addr) page 31 = true := by
  simp only [causeSet, recordErr]
  rw [setCause_self, bit_eq_testBit, BitVec.testBit_toNat, BitVec.getLsbD_or]
  simp

section
variable (h : bit (s.reg (page * 0x1000 + 0x01C)).toNat 31 = false)
include h

theorem recordErr_first_cap : (recordErr s page code src addr).reg (page * 0x1000 + 0x01C) =
    insBits (insBits (s.reg (page * 0x1000 + 0x01C)) 0 16 (src * 256 + code)) 31 1 1 := by
  simp only [recordErr]
  rw [setCause_reg_ne _ _ _ (by omega), if_neg (by simp [h]), State.reg_setReg_ne _ _ (by omega), State.reg_setReg_self]

theorem recordErr_first_addr : (recordErr s page code src addr).reg (page * 0x1000 + 0x020) = BitVec.ofNat 32 addr := by
  simp only [recordErr]
  rw [setCause_reg_ne _ _ _ (by omega), if_neg (by simp [h]), State.reg_setReg_self]

/-- CODE and SOURCE of a first error, wholly or the low bits of them. -/
theorem recordErr_first_low {j : Nat} (hj : j ≤ 16) :
    bitsOf ((recordErr s page code src addr).reg (page * 0x1000 + 0x01C)).toNat 0 j = (src * 256 + code) % 2 ^ j := by
  rw [recordErr_first_cap _ _ _ _ _ h, bitsOf_insBits_apart _ _ _ _ _ _ (by decide) (.inl (by omega)),
    bitsOf_insBits_low _ _ _ _ _ (by decide) hj]

/-- A first error sets CAPTURED and leaves MORE as it stands. -/
theorem recordErr_first_high :
    bitsOf ((recordErr s page code src addr).reg (page * 0x1000 + 0x01C)).toNat 24 8 =
      bitsOf (s.reg (page * 0x1000 + 0x01C)).toNat 24 8 + 128 := by
  have hcaptured : bitsOf (s.reg (page * 0x1000 + 0x01C)).toNat 31 1 = 0 := by
    have := bitsOf_lt (s.reg (page * 0x1000 + 0x01C)).toNat 31 1
    simp only [bit_eq_bitsOf, beq_eq_false_iff_ne] at h
    omega
  rw [recordErr_first_cap _ _ _ _ _ h, bitsOf_add _ 24 7 1, bitsOf_add _ 24 7 1, hcaptured, bitsOf_insBits _ _ _ _ (by decide),
    bitsOf_insBits_apart _ _ _ _ _ _ (by decide) (by decide), bitsOf_insBits_apart _ _ _ _ _ _ (by decide) (by decide)]
  rfl
end
end

/-! ### Accesses in READY and MAINTENANCE (R30, R36) -/

theorem implemented_of_specOf {a : Nat} (h : (specOf a).isSome = true) : implemented a = true := by
  unfold implemented
  cases hb : blockOf (a / 0x1000) with
  | none => simp [specOf, hb] at h
  | some b => simp [h]

theorem State.answers_of_inOperation {s : State} (h : s.inOperation = true) : s.answers = true := by
  simp only [State.inOperation, Bool.and_eq_true] at h
  exact h.1

theorem State.devState_of_inOperation {s : State} (h : s.inOperation = true) : s.devState = 2 ∨ s.devState = 3 := by
  simp only [State.inOperation, Bool.and_eq_true, Bool.or_eq_true, beq_iff_eq] at h
  exact h.2

theorem State.pageOpen_of_inOperation {s : State} (h : s.inOperation = true) (page : Nat) : s.pageOpen page = true := by
  rcases State.devState_of_inOperation h with hd | hd <;> simp [State.pageOpen, hd]

/-- In READY and MAINTENANCE a write of an implemented register is let through, whoever makes it. -/
theorem gateWrite_inOperation {s : State} (h : s.inOperation = true) {a : Nat} (ha : implemented a = true) (src : Requester)
    (k : State → State) : gateWrite s src a k = k s := by
  have hd : (s.devState == 4) = false := by
    rcases State.devState_of_inOperation h with hd | hd <;> simp [hd]
  cases src <;> simp [gateWrite, State.answers_of_inOperation h, ha, State.pageOpen_of_inOperation h, hd]

/-! ### Header registers are routed alike on every page but AON and WUR (R41) -/

/-- A word of the common header from `IRQ_STAT` to `LOCK`, where no page has a register with a meaning of its own. -/
def InHeader (a : Nat) : Prop := 0x010 ≤ a % 0x1000 ∧ a % 0x1000 < 0x028

section
variable (s : State) (src : Requester) (data mask merged : Word) {a : Nat} (h : InHeader a)
include h

theorem InHeader.ne (b : Nat) (hb : b % 0x1000 < 0x010 ∨ 0x028 ≤ b % 0x1000) : (a = b) = False := by
  obtain ⟨h10, h28⟩ := h
  exact eq_false (fun e => by omega)

theorem InHeader.offset_lt (o : Nat) (ho : 0x028 ≤ o) : (o ≤ a % 0x1000) = False := by
  obtain ⟨h10, h28⟩ := h
  exact eq_false (by omega)

theorem InHeader.offset_ne (o : Nat) (ho : 0x028 ≤ o) : (a % 0x1000 = o) = False := by
  obtain ⟨h10, h28⟩ := h
  exact eq_false (by omega)

/-- No range of registers within a page, from offset 0x028 up, holds the word. -/
theorem InHeader.outside (lo hi : Nat) (hlo : 0x028 ≤ lo % 0x1000) (hhi : hi ≤ lo / 0x1000 * 0x1000 + 0x1000) :
    (decide (lo ≤ a) && decide (a < hi)) = false := by
  obtain ⟨h10, h28⟩ := h
  simp only [Bool.and_eq_false_iff, decide_eq_false_iff_not]
  omega

theorem wideOf_header : wideOf a = none := by
  simp (disch := omega) only [wideOf, h.offset_ne, h.offset_lt, decide_false, Bool.false_and, Bool.or_false, Bool.false_eq_true,
    if_false, ite_self]
  split <;> rfl

theorem writePlatform_header : writePlatform s src a data mask = plainWrite s src a data mask := by
  simp (disch := decide) only [writePlatform, h.ne, h.outside, Bool.false_eq_true, if_false]

theorem writeCmd_header : writeCmd s src a data mask merged = plainWrite s src a data mask := by
  simp (disch := decide) only [writeCmd, h.ne, h.outside, Bool.false_eq_true, if_false, decide_false, Bool.or_false]

theorem writeInd_header : writeInd s src a data mask = plainWrite s src a data mask := by
  simp (disch := decide) only [writeInd, h.ne, if_false]

theorem writeLane_header : writeLane s src a data mask = plainWrite s src a data mask := by
  simp (disch := omega) only [writeLane, A.LRF_CTRL, A.LBB_CTRL, A.LRF_BLANK_CFG, A.LRF_ANCHOR, A.LRF_FEM_CFG, A.LRF_FEM_BIAS,
    A.LBB_SUBCH, h.ne, h.outside, Bool.false_eq_true, if_false, decide_false, Bool.or_false]

theorem writeMesh_header : writeMesh s src a data mask = plainWrite s src a data mask := by
  simp (disch := decide) only [writeMesh, h.offset_lt, h.ne, decide_false, Bool.and_false, Bool.false_and, Bool.or_false,
    Bool.false_eq_true, if_false]

theorem writeFab_header : writeFab s src a data mask merged = plainWrite s src a data mask := by
  simp (disch := decide) only [writeFab, h.outside, Bool.false_eq_true, if_false]

theorem qwWrite_header (hp : a / 0x1000 = 0x21) : qwWrite s src a data mask = plainWrite s src a data mask := by
  have hlow : a < A.QW_SEL := by
    obtain ⟨h10, h28⟩ := h
    simp only [A.QW_SEL]
    omega
  simp (disch := decide) only [qwWrite, h.ne, if_false, if_pos hlow]

theorem tssWrite_header : tssWrite s src a data mask = plainWrite s src a data mask := by
  simp (disch := decide) only [tssWrite, h.ne, h.offset_lt, false_and, if_false]

theorem writeGcl_header : writeGcl s src a data mask merged = plainWrite s src a data mask := by
  simp (disch := decide) only [writeGcl, h.ne, h.outside, Bool.false_eq_true, if_false]

theorem writePort_header : writePort s src a data mask merged = plainWrite s src a data mask := by
  simp (disch := omega) only [writePort, h.offset_lt, A.EM_MODE_CFG, A.EM_MACSEC_CFG, A.EM_MDIO_CMD, h.ne, decide_false,
    Bool.false_and, Bool.false_eq_true, if_false]

theorem writeDatum_header : writeDatum s src a data mask merged = plainWrite s src a data mask := by
  simp (disch := decide) only [writeDatum, h.ne, if_false, decide_false, Bool.or_false, Bool.false_eq_true]

theorem writeSupport_header : writeSupport s src a data mask = plainWrite s src a data mask := by
  simp (disch := decide) only [writeSupport, h.ne, h.outside, h.offset_lt, decide_false, Bool.and_false, Bool.false_and,
    Bool.false_eq_true, if_false]

theorem routeWrite_header (h2 : a / 0x1000 ≠ 0x02) (h3 : a / 0x1000 ≠ 0x03) :
    routeWrite s src a data mask = plainWrite s src a data mask := by
  simp only [routeWrite, wideOf_header h, Option.isSome_none, Bool.false_and, Bool.false_eq_true, if_false,
    writePlatform_header _ _ _ _ h, writeInd_header _ _ _ _ h, writeLane_header _ _ _ _ h, writeMesh_header _ _ _ _ h,
    writeFab_header _ _ _ _ _ h, tssWrite_header _ _ _ _ h, writeGcl_header _ _ _ _ _ h, writeDatum_header _ _ _ _ _ h,
    writeSupport_header _ _ _ _ h, ite_self]
  split
  next hp => exact absurd hp h2
  next hp => exact absurd hp h3
  next => exact writeCmd_header _ _ _ _ _ h
  next => rfl
  next => rfl
  next hp => exact qwWrite_header _ _ _ _ h hp
  next => rfl
  next => rfl
  next => exact writePort_header _ _ _ _ _ h
  next => exact writePort_header _ _ _ _ _ h
  next => rfl
  next => rfl
end

/-- The same, of the header word at an offset of a page. -/
theorem routeWrite_headerWord (s : State) (src : Requester) {page : Nat} (h2 : page ≠ 0x02) (h3 : page ≠ 0x03) {off : Nat}
    (hoff : 0x010 ≤ off ∧ off < 0x028) (data mask : Word) :
    routeWrite s src (page * 0x1000 + off) data mask = plainWrite s src (page * 0x1000 + off) data mask :=
  routeWrite_header s src data mask (by unfold InHeader; omega) (by omega) (by omega)

/-! ### Field-by-field writes of a whole word (R46, R50) -/

section
variable (s : State) (a page off : Nat) (data : Word) (acc : WriteAcc) {l k : Nat} (lock : Nat)

theorem applyField_ro (mask : Word) : applyField s a page off data mask acc ⟨l, k, .ro, lock⟩ = acc := by
  simp only [applyField, ite_self]

variable (h0 : 0 < k) (hw : l + k ≤ 32)
include h0 hw

theorem applyField_rw : applyField s a page off data allBits acc ⟨l, k, .rw, lock⟩ =
    if reservedEnc s (a / 0x1000 - page) page off l (bitsOf data.toNat l k) data.toNat then { acc with reserved := true }
    else { acc with word := insBits acc.word l k (bitsOf data.toNat l k) } := by
  have hm : 2 ^ k - 1 ≠ 0 := Nat.sub_ne_zero_of_lt (Nat.one_lt_two_pow h0.ne')
  have hl : fieldLocked s a ⟨l, k, .rw, lock⟩ = false := rfl
  simp only [applyField, bitsOf_allBits _ _ hw, if_neg hm, merged_allBits, hl, Bool.false_eq_true, if_false]

theorem applyField_cnt : applyField s a page off data allBits acc ⟨l, k, .cnt, lock⟩ =
    { acc with word := insBits acc.word l k (bitsOf data.toNat l k) } := by
  have hm : 2 ^ k - 1 ≠ 0 := Nat.sub_ne_zero_of_lt (Nat.one_lt_two_pow h0.ne')
  simp only [applyField, bitsOf_allBits _ _ hw, if_neg hm, merged_allBits, if_true]

/-- A W1C field of which every bit is written 1. -/
theorem applyField_w1c_ones (hd : bitsOf data.toNat l k = 2 ^ k - 1) :
    applyField s a page off data allBits acc ⟨l, k, .w1c, lock⟩ = { acc with word := insBits acc.word l k 0 } := by
  have hm : 2 ^ k - 1 ≠ 0 := Nat.sub_ne_zero_of_lt (Nat.one_lt_two_pow h0.ne')
  simp only [applyField, bitsOf_allBits _ _ hw, if_neg hm, hd, Nat.and_self, Nat.xor_self, Nat.and_zero]
end

/-- A write that meets no locked field, no part of a count and no GO bit stores the word its fields come to. -/
theorem writeFields_of_foldl (s : State) (src : Requester) (a : Nat) (data mask : Word) {r : RegSpec} (hr : specOf a = some r)
    {w : Word} {reserved : Bool}
    (hacc : r.fields.foldl (applyField s a (basePage (a / 0x1000)) r.off data mask)
      { word := s.reg a, locked := false, reserved := false, badAlias := false, go := [] } =
      { word := w, locked := false, reserved := reserved, badAlias := false, go := [] }) :
    writeFields s src a data mask =
      if reserved then recordErr (s.setReg a w) (a / 0x1000) 0x05 src.code a else s.setReg a w := by
  have hw : (w &&& ~~~(0#32)) ||| (s.reg a &&& 0#32) = w := by
    rw [BitVec.and_zero, BitVec.or_zero]
    exact BitVec.and_allOnes
  simp only [writeFields, hr, hacc, List.foldl_nil, hw, Bool.false_eq_true, if_false]

/-! ### LOCK (R55) -/

theorem exec_lockWrite {s : State} (hs : s.inOperation = true) (src : Requester) (page : Fin 256) (data : Word)
    (himp : implemented (page.val * 0x1000 + 0x024) = true) (h2 : page.val ≠ 0x02) (h3 : page.val ≠ 0x03) :
    exec (.lockWrite src page data) s = .next (lockWrite s page.val data allBits) := by
  have hp : (page.val * 0x1000 + 0x024) / 0x1000 = page.val := by omega
  have ho : (page.val * 0x1000 + 0x024) % 0x1000 = 0x024 := by omega
  simp only [exec, execLockWrite, gateWrite_inOperation hs himp]
  rw [routeWrite_headerWord s src h2 h3 (by decide)]
  simp only [plainWrite, hp, ho]

/-- Settles O12: the write comes to one store in `LOCK` on every page, of the old word with bits added. -/
theorem lockBitsOnlySet : Obligations.LockBitsOnlySet := by
  intro s src page data hs himp h2 h3
  refine ⟨_, exec_lockWrite hs src page data himp h2 h3, ?_, onlyRegs_setReg _ _ _, rfl⟩
  rw [lockWrite, State.reg_setReg_self, and_allBits]

/-! ### ERR_CAP (R43, R44) -/

/-- The common `ERR_CAP`: CODE, SOURCE, MORE, CAPTURED. -/
def errCapSpec : RegSpec := ⟨0x01C, 1, 4, 0, [⟨0, 8, .ro, 32⟩, ⟨8, 8, .ro, 32⟩, ⟨24, 7, .cnt, 32⟩, ⟨31, 1, .w1c, 32⟩]⟩

/-- No page lists an `ERR_CAP` of its own. -/
theorem blocks_find_errCap : ∀ b ∈ blocks, b.regs.find? (fun r => r.covers 0x01C) = none := by decide +kernel

theorem specOf_errCap {page : Nat} (h : (specOf (page * 0x1000 + 0x01C)).isSome = true) :
    specOf (page * 0x1000 + 0x01C) = some errCapSpec := by
  have hp : (page * 0x1000 + 0x01C) / 0x1000 = page := by omega
  have ho : (page * 0x1000 + 0x01C) % 0x1000 = 0x01C := by omega
  simp only [specOf, hp, ho] at h ⊢
  cases hb : blockOf page with
  | none => simp [hb] at h
  | some b =>
    have hown := blocks_find_errCap b (List.mem_of_find?_eq_some hb)
    simp only [hb, hown] at h ⊢
    by_cases hpe : b.page = 0x40
    · simp [hpe] at h
    · rw [if_neg hpe]
      rfl

/-- `ERR_CAP` of a page with MORE and CAPTURED cleared. -/
def clearedCap (s : State) (page : Nat) : State :=
  s.setReg (page * 0x1000 + 0x01C) (insBits (insBits (s.reg (page * 0x1000 + 0x01C)) 24 7 0) 31 1 0)

theorem clearedCap_high (s : State) (page : Nat) : bitsOf ((clearedCap s page).reg (page * 0x1000 + 0x01C)).toNat 24 8 = 0 := by
  rw [clearedCap, State.reg_setReg_self, bitsOf_add _ 24 7 1, bitsOf_insBits_apart _ _ _ _ _ _ (by decide) (by decide),
    bitsOf_insBits _ _ _ _ (by decide), bitsOf_insBits _ _ _ _ (by decide)]
  rfl

theorem clearedCap_captured (s : State) (page : Nat) : bit ((clearedCap s page).reg (page * 0x1000 + 0x01C)).toNat 31 = false := by
  rw [clearedCap, State.reg_setReg_self, bit_eq_bitsOf, bitsOf_insBits _ _ _ _ (by decide)]
  rfl

section
variable {s : State} (src : Requester) (page : Fin 256) (hspec : (specOf (page.val * 0x1000 + 0x01C)).isSome = true)
  (h2 : page.val ≠ 0x02) (h3 : page.val ≠ 0x03)
include hspec h2 h3

/-- Writing 0x8000_0000: CODE and SOURCE are read-only, MORE is a count written 0, CAPTURED is cleared by its 1. -/
theorem routeWrite_errCap_clear : routeWrite s src (page.val * 0x1000 + 0x01C) 0x80000000#32 allBits = clearedCap s page.val := by
  have ho : (page.val * 0x1000 + 0x01C) % 0x1000 = 0x01C := by omega
  rw [routeWrite_headerWord s src h2 h3 (by decide)]
  simp only [plainWrite, ho]
  apply writeFields_of_foldl (reserved := false) (hr := specOf_errCap hspec)
  simp only [errCapSpec, List.foldl_cons, List.foldl_nil]
  rw [applyField_ro, applyField_ro, applyField_cnt (h0 := by decide) (hw := by decide),
    applyField_w1c_ones (h0 := by decide) (hw := by decide) (hd := by decide)]
  rfl

variable (hs : s.inOperation = true)
include hs

theorem exec_errCapClear_none : exec (.errCapClear src page none) s = .next (clearedCap s page.val) := by
  simp only [exec, execErrCapClear, gateWrite_inOperation hs (implemented_of_specOf hspec)]
  rw [routeWrite_errCap_clear src page hspec h2 h3]

theorem exec_errCapClear_some (who : Requester) (code : Fin 256) (at_ : Word) :
    exec (.errCapClear src page (some (who, code, at_))) s =
      .next (recordErr (clearedCap s page.val) page.val code.val who.code at_.toNat) := by
  simp only [exec, execErrCapClear, gateWrite_inOperation hs (implemented_of_specOf hspec), hspec, if_true]
  rw [routeWrite_errCap_clear src page hspec h2 h3]
end

/-- Settles O13: the write clears CAPTURED and MORE, so that an error recorded after it is a first error. -/
theorem errCapClearThenFirstError : Obligations.ErrCapClearThenFirstError := by
  intro s src page hs hspec h2 h3
  refine ⟨⟨_, exec_errCapClear_none src page hspec h2 h3 hs, clearedCap_high s page.val, onlyRegs_setReg _ _ _, rfl⟩, ?_⟩
  intro who code at_
  have hfirst := clearedCap_captured s page.val
  refine ⟨_, exec_errCapClear_some src page hspec h2 h3 hs who code at_, ?_, ?_, ?_, causeSet_recordErr _ _ _ _ _, ?_,
    recordErr_frame _ _ _ _ _⟩
  · have hwho := requester_code_lt who
    rw [recordErr_first_low _ _ _ _ _ hfirst (by decide), Nat.mod_eq_of_lt (by omega)]
  · rw [recordErr_first_high _ _ _ _ _ hfirst, clearedCap_high]
  · rw [recordErr_first_addr _ _ _ _ _ hfirst, BitVec.ofNat_toNat, BitVec.setWidth_eq]
  · exact ((onlyRegs_setReg s _ _).trans (onlyRegs_recordErr _ _ _ _ _)).mono (by simp)

/-! ### Errors of the indirect window (R71, R72) -/

/-- The registers of IND that an error touches, its flag in `IND_STATUS` aside. -/
def indErrorRegs : List Nat := [0x06010, 0x0601C, 0x06020]

section
variable (s : State) (src : Requester) (code : Nat) (addr : Word)

theorem onlyRegs_recordErr_ind (source at_ : Nat) : OnlyRegs s (recordErr s 0x06 code source at_) indErrorRegs :=
  onlyRegs_recordErr s 0x06 code source at_

theorem onlyRegs_indError (flag : Fld) : OnlyRegs s (indError s src flag code addr) (flag.addr :: indErrorRegs) :=
  (onlyRegs_setFld s flag 1).trans (onlyRegs_recordErr_ind _ _ _ _)

@[simp] theorem indError_ind (flag : Fld) : (indError s src flag code addr).ind = s.ind := by simp [indError]
@[simp] theorem indError_dram (flag : Fld) : (indError s src flag code addr).dram = s.dram := by simp [indError]

theorem causeSet_indError (flag : Fld) : causeSet (indError s src flag code addr) 0x06 31 = true := causeSet_recordErr _ _ _ _ _

variable {flag : Fld} (hf : flag.addr ∉ indErrorRegs)

include hf in
theorem indError_flag_self (hw : flag.width = 1) (h : flag.lsb + flag.width ≤ 32) :
    (indError s src flag code addr).flag flag = true := by
  rw [indError, (onlyRegs_recordErr_ind _ _ _ _).flag hf, State.flag_setFld_one _ hw h]

theorem indError_flag_apart {g : Fld} (h : flag.lsb + flag.width ≤ 32) (hg : g.addr ∉ indErrorRegs)
    (hd : g.addr ≠ flag.addr ∨ g.lsb + g.width ≤ flag.lsb ∨ flag.lsb + flag.width ≤ g.lsb) :
    (indError s src flag code addr).flag g = s.flag g := by
  rw [indError, (onlyRegs_recordErr_ind _ _ _ _).flag hg, State.flag_setFld_apart _ _ h hd]

include hf in
/-- CODE of a first error of the window. -/
theorem indError_first_code (hc : code < 256) (h : bit (s.reg 0x0601C).toNat 31 = false) :
    bitsOf ((indError s src flag code addr).reg 0x0601C).toNat 0 8 = code := by
  have hcap : (s.setFld flag 1).reg (0x06 * 0x1000 + 0x01C) = s.reg 0x0601C :=
    State.reg_setFld_ne _ _ (fun e => hf (e ▸ by decide))
  have hlow := recordErr_first_low (s.setFld flag 1) 0x06 code src.code addr.toNat (hcap ▸ h) (j := 8) (by decide)
  rw [indError, hlow]
  omega
end

/-! ### Issuing an access of the window (R68, R72) -/

section
variable (s : State) (acc : IndAccess)

/-- The word an access names lies in its domain (R67, R72). -/
def IndAccess.inDomain (acc : IndAccess) : Bool := indExists (acc.addr.toNat / 2 ^ 28) (acc.addr.toNat % 2 ^ 28)

/-- BUSY, with an access in progress. -/
def indBusyWith : State := (s.setFld F.IND_IND_STATUS_BUSY 1).setInd { s.ind with busy := some acc }

theorem indIssue_inDomain (h : acc.inDomain = true) : indIssue s acc = indBusyWith s acc := if_pos h

theorem indIssue_beyond (h : acc.inDomain = false) :
    indIssue s acc = indError (indBusyWith s acc) acc.src F.IND_IND_STATUS_RANGE 0x08 acc.addr :=
  if_neg (Bool.eq_false_iff.1 h)

theorem onlyRegs_indBusyWith : OnlyRegs s (indBusyWith s acc) [A.IND_IND_STATUS] := onlyRegs_setFld s F.IND_IND_STATUS_BUSY 1

theorem onlyRegs_indIssue : OnlyRegs s (indIssue s acc) (A.IND_IND_STATUS :: indErrorRegs) := by
  cases h : acc.inDomain with
  | true =>
    rw [indIssue_inDomain s acc h]
    exact (onlyRegs_indBusyWith s acc).mono (by simp)
  | false =>
    rw [indIssue_beyond s acc h]
    exact ((onlyRegs_indBusyWith s acc).trans (onlyRegs_indError _ _ _ _ _)).mono (by simp)

theorem indIssue_ind : (indIssue s acc).ind = { s.ind with busy := some acc } := by
  cases h : acc.inDomain with
  | true => rw [indIssue_inDomain s acc h]; rfl
  | false => rw [indIssue_beyond s acc h, indError_ind]; rfl

theorem indIssue_dram : (indIssue s acc).dram = s.dram := by
  cases h : acc.inDomain with
  | true => rw [indIssue_inDomain s acc h]; rfl
  | false => rw [indIssue_beyond s acc h, indError_dram]; rfl

/-- The flags of `IND_STATUS` below RANGE: BUSY is set, the others are as they were. -/
theorem indIssue_flag {f : Fld} (hf : f.addr = A.IND_IND_STATUS) (hr : f.lsb + f.width ≤ 10) :
    (indIssue s acc).flag f = (s.setFld F.IND_IND_STATUS_BUSY 1).flag f := by
  cases h : acc.inDomain with
  | true => rw [indIssue_inDomain s acc h]; rfl
  | false =>
    rw [indIssue_beyond s acc h, indError_flag_apart _ _ _ _ (by decide) (by rw [hf]; decide) (.inr (.inl hr))]
    rfl

theorem indIssue_range : (indIssue s acc).flag F.IND_IND_STATUS_RANGE = (s.flag F.IND_IND_STATUS_RANGE || !acc.inDomain) := by
  cases h : acc.inDomain with
  | true =>
    rw [indIssue_inDomain s acc h, Bool.not_true, Bool.or_false]
    exact State.flag_setFld_apart s 1 (by decide) (by decide)
  | false =>
    rw [indIssue_beyond s acc h, indError_flag_self _ _ _ _ (by decide) rfl (by decide), Bool.not_false, Bool.or_true]
end

/-! ### Writes of the window: the commands, and the fields of `IND_ADDR` and `IND_CTRL` (R68, R71) -/

section
variable {s : State} (hs : s.inOperation = true) (src : Requester) (data : Word)
include hs

theorem exec_indAddrWrite : exec (.indAddrWrite src data) s = .next (indAddrWrite s src data allBits) :=
  congrArg Host.Outcome.next (gateWrite_inOperation hs (by decide) src _)

theorem exec_indCtrlWrite : exec (.indCtrlWrite src data) s = .next (indCtrlWrite s src data allBits) :=
  congrArg Host.Outcome.next (gateWrite_inOperation hs (by decide) src _)

theorem exec_indDataWrite : exec (.indDataWrite src data) s = .next (indDataWrite s src data) :=
  congrArg Host.Outcome.next (gateWrite_inOperation hs (by decide) src _)

/-- While BUSY every write of the window comes to the same. -/
theorem exec_indWrite_busy (hb : s.flag F.IND_IND_STATUS_BUSY = true) {c : Instr}
    (hc : c ∈ [Instr.indAddrWrite src data, Instr.indCtrlWrite src data, Instr.indDataWrite src data]) :
    exec c s = .next (indOverrun s src) := by
  simp only [List.mem_cons, List.not_mem_nil, or_false] at hc
  obtain rfl | rfl | rfl := hc
  · rw [exec_indAddrWrite hs, indAddrWrite, if_pos hb]
  · rw [exec_indCtrlWrite hs, indCtrlWrite, if_pos hb]
  · rw [exec_indDataWrite hs]
    simp only [indDataWrite, hb, if_true]
end

section
variable (s : State) (src : Requester) (data : Word)

/-- A RW field of the window: which of its values are reserved the register table of IND says. -/
theorem applyField_ind_rw {a : Nat} (hp : a / 0x1000 = 0x06) (off : Nat) (acc : WriteAcc) {l k : Nat} (lock : Nat) (h0 : 0 < k)
    (hw : l + k ≤ 32) : applyField s a (basePage (a / 0x1000)) off data allBits acc ⟨l, k, .rw, lock⟩ =
    if reservedPlatform off l (bitsOf data.toNat l k) data.toNat 0x06 then { acc with reserved := true }
    else { acc with word := insBits acc.word l k (bitsOf data.toNat l k) } := by
  rw [applyField_rw _ _ _ _ _ _ _ h0 hw, hp]
  rfl

/-- `IND_ADDR` has no reserved encoding: a write stores the whole word. -/
theorem writeFields_indAddr : writeFields s src A.IND_IND_ADDR data allBits = s.setReg A.IND_IND_ADDR data := by
  have hspec : specOf A.IND_IND_ADDR = some ⟨0x028, 1, 0x4, 0, [⟨0, 28, .rw, 32⟩, ⟨28, 4, .rw, 32⟩]⟩ := rfl
  have hres : ∀ l v w, reservedPlatform 0x028 l v w 0x06 = false := fun _ _ _ => rfl
  apply writeFields_of_foldl (reserved := false) (hr := hspec)
  simp only [List.foldl_cons, List.foldl_nil]
  rw [applyField_ind_rw (hp := rfl) (h0 := by decide) (hw := by decide),
    applyField_ind_rw (hp := rfl) (h0 := by decide) (hw := by decide)]
  simp only [hres, Bool.false_eq_true, if_false]
  rw [insBits_insBits_whole _ _ 28 (by decide)]

/-- The word of `IND_CTRL` after a write: the reserved INC 3 leaves INC (R50). -/
def indCtrlWord (old data : Word) : Word :=
  insBits (if data.toNat % 4 = 3 then old else insBits old 0 2 (data.toNat % 4)) 4 1 (bitsOf data.toNat 4 1)

theorem indCtrlWord_mode (old : Word) : bitsOf (indCtrlWord old data).toNat 4 1 = bitsOf data.toNat 4 1 := by
  rw [indCtrlWord, bitsOf_insBits _ _ _ _ (by decide), Nat.mod_eq_of_lt (bitsOf_lt _ _ _)]

theorem indCtrlWord_inc (old : Word) :
    bitsOf (indCtrlWord old data).toNat 0 2 = if data.toNat % 4 = 3 then bitsOf old.toNat 0 2 else data.toNat % 4 := by
  rw [indCtrlWord, bitsOf_insBits_apart _ _ _ _ _ _ (by decide) (by decide)]
  split
  · rfl
  · rw [bitsOf_insBits _ _ _ _ (by decide)]
    exact Nat.mod_mod _ 4

theorem writeFields_indCtrl : writeFields s src A.IND_IND_CTRL data allBits =
    if data.toNat % 4 = 3 then
      recordErr (s.setReg A.IND_IND_CTRL (indCtrlWord (s.reg A.IND_IND_CTRL) data)) 0x06 0x05 src.code A.IND_IND_CTRL
    else s.setReg A.IND_IND_CTRL (indCtrlWord (s.reg A.IND_IND_CTRL) data) := by
  have hspec : specOf A.IND_IND_CTRL = some ⟨0x02C, 1, 0x4, 0, [⟨0, 2, .rw, 32⟩, ⟨4, 1, .rw, 32⟩]⟩ := rfl
  have hinc : ∀ v w, reservedPlatform 0x02C 0 v w 0x06 = (v == 3) := fun _ _ => rfl
  have hmode : ∀ v w, reservedPlatform 0x02C 4 v w 0x06 = false := fun _ _ => rfl
  have hv : bitsOf data.toNat 0 2 = data.toNat % 4 := by simp [bitsOf]
  have hstored := writeFields_of_foldl s src A.IND_IND_CTRL data allBits (reserved := data.toNat % 4 == 3)
    (w := indCtrlWord (s.reg A.IND_IND_CTRL) data) hspec ?_
  · simp only [beq_iff_eq] at hstored
    exact hstored
  simp only [List.foldl_cons, List.foldl_nil]
  rw [applyField_ind_rw (hp := rfl) (h0 := by decide) (hw := by decide),
    applyField_ind_rw (hp := rfl) (h0 := by decide) (hw := by decide)]
  by_cases h3 : data.toNat % 4 = 3 <;> simp [hinc, hmode, hv, indCtrlWord, h3]
end

/-! ### A write of `IND_ADDR` with BUSY 0 (R68, R77) -/

/-- `IND_ADDR` stored, and the group read forgotten. -/
def indAddrStored (s : State) (data : Word) : State := (s.setReg A.IND_IND_ADDR data).setInd { s.ind with group := none }

theorem onlyRegs_indAddrStored (s : State) (data : Word) : OnlyRegs s (indAddrStored s data) [A.IND_IND_ADDR] :=
  onlyRegs_setReg s A.IND_IND_ADDR data

/-- The access with which a write of `IND_ADDR` in read mode begins. -/
def addrAccess (src : Requester) (data : Word) : IndAccess :=
  { write := false, made := indExists (data.toNat / 2 ^ 28) (data.toNat % 2 ^ 28), addr := data, data := 0#32, fromGroup := false,
    src := src }

/-- The word that waits discarded, so that the access may begin. -/
def indAddrDiscarded (s : State) (data : Word) : State := (indAddrStored s data).setFld F.IND_IND_STATUS_RD_VALID 0

theorem onlyRegs_indAddrDiscarded (s : State) (data : Word) :
    OnlyRegs s (indAddrDiscarded s data) [A.IND_IND_ADDR, A.IND_IND_STATUS] :=
  (onlyRegs_indAddrStored s data).trans (onlyRegs_setFld _ F.IND_IND_STATUS_RD_VALID 0)

theorem indAddrDiscarded_addr (s : State) (data : Word) : (indAddrDiscarded s data).reg A.IND_IND_ADDR = data := by
  rw [indAddrDiscarded, State.reg_setFld_ne _ _ (by decide), indAddrStored, State.setInd_reg, State.reg_setReg_self]

section
variable (s : State) (src : Requester) (data : Word) (hb : s.flag F.IND_IND_STATUS_BUSY = false)
include hb

theorem indAddrWrite_idle : indAddrWrite s src data allBits =
    if s.flag F.IND_IND_CTRL_MODE then prefetch (indAddrDiscarded s data) src false else indAddrStored s data := by
  rw [← (onlyRegs_indAddrStored s data).flag (f := F.IND_IND_CTRL_MODE) (by decide)]
  simp only [indAddrWrite, hb, writeFields_indAddr, Bool.false_eq_true, if_false]
  rfl

theorem indAddrWrite_writeMode (hm : s.flag F.IND_IND_CTRL_MODE = false) : indAddrWrite s src data allBits = indAddrStored s data := by
  rw [indAddrWrite_idle s src data hb, hm, if_neg Bool.false_ne_true]

theorem indAddrWrite_readMode (hm : s.flag F.IND_IND_CTRL_MODE = true) :
    indAddrWrite s src data allBits = indIssue (indAddrDiscarded s data) (addrAccess src data) := by
  rw [indAddrWrite_idle s src data hb, hm, if_pos rfl]
  simp only [prefetch, indAddrDiscarded_addr, Bool.false_and, addrAccess]
end

/-! ### A write of `IND_CTRL` with BUSY 0 (R71, R77) -/

section
variable (s : State) (src : Requester) (data : Word)

/-- The fields of `IND_CTRL` stored, and the group read forgotten. -/
def indCtrlStored : State := (writeFields s src A.IND_IND_CTRL data allBits).setInd { s.ind with group := none }

theorem indCtrlStored_reg : (indCtrlStored s src data).reg A.IND_IND_CTRL = indCtrlWord (s.reg A.IND_IND_CTRL) data := by
  rw [indCtrlStored, State.setInd_reg, writeFields_indCtrl]
  split
  · rw [onlyRegs_recordErr_ind _ _ _ _ _ (by decide), State.reg_setReg_self]
  · rw [State.reg_setReg_self]

theorem indCtrlStored_dram : (indCtrlStored s src data).dram = s.dram := by
  rw [indCtrlStored, State.setInd_dram, writeFields_indCtrl]
  split
  · rw [recordErr_dram, State.setReg_dram]
  · rfl

theorem onlyRegs_indCtrlStored : OnlyRegs s (indCtrlStored s src data) (A.IND_IND_CTRL :: indErrorRegs) := by
  have hset := onlyRegs_setReg s A.IND_IND_CTRL (indCtrlWord (s.reg A.IND_IND_CTRL) data)
  intro a ha
  rw [indCtrlStored, State.setInd_reg, writeFields_indCtrl]
  split
  · exact hset.trans (onlyRegs_recordErr_ind _ _ _ _) a ha
  · exact hset.mono (by simp) a ha

theorem indCtrlStored_mode : (indCtrlStored s src data).flag F.IND_IND_CTRL_MODE = bit data.toNat 4 := by
  rw [bit_eq_bitsOf, ← indCtrlWord_mode data (s.reg A.IND_IND_CTRL), ← indCtrlStored_reg s src data]
  rfl

theorem indCtrlStored_inc : (indCtrlStored s src data).fld F.IND_IND_CTRL_INC =
    if data.toNat % 4 = 3 then s.fld F.IND_IND_CTRL_INC else data.toNat % 4 := by
  rw [State.fld, indCtrlStored_reg, indCtrlWord_inc]
  rfl

variable (hb : s.flag F.IND_IND_STATUS_BUSY = false)
include hb

/-- A word that waits is discarded where MODE changes. -/
theorem indCtrlWrite_idle : indCtrlWrite s src data allBits =
    if bit data.toNat 4 == s.flag F.IND_IND_CTRL_MODE then indCtrlStored s src data
    else (indCtrlStored s src data).setFld F.IND_IND_STATUS_RD_VALID 0 := by
  rw [← indCtrlStored_mode s src data]
  simp only [indCtrlWrite, hb, Bool.false_eq_true, if_false]
  rfl

theorem onlyRegs_indCtrlWrite_stored : OnlyRegs (indCtrlStored s src data) (indCtrlWrite s src data allBits) [A.IND_IND_STATUS] := by
  rw [indCtrlWrite_idle s src data hb]
  split
  · exact fun _ _ => rfl
  · exact onlyRegs_setFld _ F.IND_IND_STATUS_RD_VALID 0

theorem indCtrlWrite_busy : (indCtrlWrite s src data allBits).flag F.IND_IND_STATUS_BUSY = false := by
  have hstored := (onlyRegs_indCtrlStored s src data).flag (f := F.IND_IND_STATUS_BUSY) (by decide)
  rw [indCtrlWrite_idle s src data hb]
  split
  · rw [hstored, hb]
  · rw [State.flag_setFld_apart _ _ (by decide) (by decide), hstored, hb]

theorem indCtrlWrite_rdValid : (indCtrlWrite s src data allBits).flag F.IND_IND_STATUS_RD_VALID =
    (s.flag F.IND_IND_STATUS_RD_VALID && (bit data.toNat 4 == s.flag F.IND_IND_CTRL_MODE)) := by
  rw [indCtrlWrite_idle s src data hb]
  cases bit data.toNat 4 == s.flag F.IND_IND_CTRL_MODE with
  | true =>
    rw [if_pos rfl, Bool.and_true]
    exact (onlyRegs_indCtrlStored s src data).flag (by decide)
  | false => rw [if_neg Bool.false_ne_true, Bool.and_false, State.flag_setFld_zero _ (by decide)]

theorem indCtrlWrite_ind : (indCtrlWrite s src data allBits).ind = { s.ind with group := none } := by
  rw [indCtrlWrite_idle s src data hb]
  split <;> rfl

theorem indCtrlWrite_dram : (indCtrlWrite s src data allBits).dram = s.dram := by
  rw [indCtrlWrite_idle s src data hb]
  split <;> exact indCtrlStored_dram s src data
end

/-! ### The statement O17, clause by clause -/

section
variable {s : State} (hs : s.inOperation = true) (src : Requester) (data : Word)
include hs

theorem indWrite_busy_discarded (hb : s.flag F.IND_IND_STATUS_BUSY = true) {c : Instr}
    (hc : c ∈ [Instr.indAddrWrite src data, Instr.indCtrlWrite src data, Instr.indDataWrite src data]) :
    ∃ t, exec c s = .next t ∧
      t.reg A.IND_IND_ADDR = s.reg A.IND_IND_ADDR ∧ t.reg A.IND_IND_CTRL = s.reg A.IND_IND_CTRL ∧ t.ind = s.ind ∧
      t.flag F.IND_IND_STATUS_OVERRUN = true ∧ causeSet t 0x06 31 = true ∧
      (bit (s.reg 0x0601C).toNat 31 = false → bitsOf (t.reg 0x0601C).toNat 0 8 = 0x06) ∧ SameMemory s t := by
  have hregs := onlyRegs_indError s src 0x06 (s.reg A.IND_IND_ADDR) F.IND_IND_STATUS_OVERRUN
  exact ⟨_, exec_indWrite_busy hs src data hb hc, hregs _ (by decide), hregs _ (by decide), indError_ind _ _ _ _ _,
    indError_flag_self _ _ _ _ (by decide) rfl (by decide), causeSet_indError _ _ _ _ _,
    indError_first_code _ _ _ _ (by decide) (by decide), sameMemory_of_dram (indError_dram _ _ _ _ _)⟩

variable (hb : s.flag F.IND_IND_STATUS_BUSY = false)
include hb

theorem indAddrWrite_stores (hm : s.flag F.IND_IND_CTRL_MODE = false) :
    ∃ t, exec (.indAddrWrite src data) s = .next t ∧ t.reg A.IND_IND_ADDR = data ∧
      t.ind = { s.ind with group := none } ∧ OnlyRegs s t [A.IND_IND_ADDR] ∧ t = { s with regs := t.regs, ind := t.ind } := by
  refine ⟨_, exec_indAddrWrite hs src data, ?_⟩
  rw [indAddrWrite_writeMode s src data hb hm]
  exact ⟨State.reg_setReg_self _ _ _, rfl, onlyRegs_indAddrStored s data, rfl⟩

theorem indAddrWrite_prefetches (hm : s.flag F.IND_IND_CTRL_MODE = true) :
    ∃ t, exec (.indAddrWrite src data) s = .next t ∧ t.reg A.IND_IND_ADDR = data ∧
      t.flag F.IND_IND_STATUS_BUSY = true ∧ t.flag F.IND_IND_STATUS_RD_VALID = false ∧ t.reg A.IND_IND_CTRL = s.reg A.IND_IND_CTRL ∧
      t.ind.busy.map (fun x => (x.write, x.made, x.addr, x.src)) =
        some (false, indExists (data.toNat / 2 ^ 28) (data.toNat % 2 ^ 28), data, src) ∧
      t.flag F.IND_IND_STATUS_RANGE = (s.flag F.IND_IND_STATUS_RANGE || !indExists (data.toNat / 2 ^ 28) (data.toNat % 2 ^ 28)) ∧
      SameMemory s t := by
  have hdiscarded := onlyRegs_indAddrDiscarded s data
  have hissued := onlyRegs_indIssue (indAddrDiscarded s data) (addrAccess src data)
  refine ⟨_, exec_indAddrWrite hs src data, ?_⟩
  rw [indAddrWrite_readMode s src data hb hm]
  refine ⟨?_, ?_, ?_, ?_, ?_, ?_, sameMemory_of_dram (indIssue_dram _ _)⟩
  · rw [hissued _ (by decide), indAddrDiscarded_addr]
  · rw [indIssue_flag _ _ rfl (by decide), State.flag_setFld_one _ rfl (by decide)]
  · rw [indIssue_flag _ _ rfl (by decide), State.flag_setFld_apart _ _ (by decide) (by decide), indAddrDiscarded,
      State.flag_setFld_zero _ (by decide)]
  · rw [hissued _ (by decide), hdiscarded _ (by decide)]
  · rw [indIssue_ind]
    rfl
  · rw [indIssue_range, indAddrDiscarded, State.flag_setFld_apart _ _ (by decide) (by decide),
      (onlyRegs_indAddrStored s data).flag (by decide)]
    rfl

theorem indCtrlWrite_stores :
    ∃ t, exec (.indCtrlWrite src data) s = .next t ∧ t.flag F.IND_IND_CTRL_MODE = bit data.toNat 4 ∧
      t.fld F.IND_IND_CTRL_INC = (if data.toNat % 4 = 3 then s.fld F.IND_IND_CTRL_INC else data.toNat % 4) ∧
      t.flag F.IND_IND_STATUS_RD_VALID = (s.flag F.IND_IND_STATUS_RD_VALID && (bit data.toNat 4 == s.flag F.IND_IND_CTRL_MODE)) ∧
      t.flag F.IND_IND_STATUS_BUSY = false ∧ t.ind = { s.ind with group := none } ∧
      OnlyRegs s t [A.IND_IND_CTRL, A.IND_IND_STATUS, 0x06010, 0x0601C, 0x06020] ∧ SameMemory s t := by
  have hstored := onlyRegs_indCtrlWrite_stored s src data hb
  exact ⟨_, exec_indCtrlWrite hs src data, (hstored.flag (by decide)).trans (indCtrlStored_mode s src data),
    (hstored.fld (by decide)).trans (indCtrlStored_inc s src data), indCtrlWrite_rdValid s src data hb,
    indCtrlWrite_busy s src data hb, indCtrlWrite_ind s src data hb,
    ((onlyRegs_indCtrlStored s src data).trans hstored).mono (by decide), sameMemory_of_dram (indCtrlWrite_dram s src data hb)⟩
end

/-- Settles O17: while BUSY each of the three writes is an overrun; with BUSY 0 by the mode for `IND_ADDR`, and by what the write makes of
MODE for `IND_CTRL`. -/
theorem indirectAddressControlAndBusy : Obligations.IndirectAddressControlAndBusy := fun _ src data hs =>
  ⟨fun hb _ hc => indWrite_busy_discarded hs src data hb hc, fun hb =>
    ⟨indAddrWrite_stores hs src data hb, indAddrWrite_prefetches hs src data hb, indCtrlWrite_stores hs src data hb⟩⟩

end Sys2Proof.Machine
end

section
/-!
PROOFS. The steps of the device: what every command keeps, an idle step, the state just after reset; the statements O1 to O10.
-/
namespace Sys2Proof.Machine

-- One proof after another: side by side, the threads of so long a text want more memory than the check grants.
set_option Elab.async false

/-! ### Every command answers, and a step runs the front command -/

/-- Settles O10, arm by arm of `exec`: the meaning of every command is a `next`. -/
theorem everyCommandAnswersNextState : Obligations.EveryCommandAnswersNextState := by
  intro c s
  cases c <;> exact ⟨_, rfl⟩

/-- Settles O1, from the equation of `step` for a queue that is not empty. -/
theorem stepRunsFrontCommand : Obligations.StepRunsFrontCommand := fun _ _ _ => rfl

/-! ### What a step keeps -/

/-- Taking a command from the queue changes nothing else that `Keep` speaks of. -/
theorem step_of_pending {s : State} {c : Instr} {rest : List Instr} (hq : s.pending = c :: rest) :
    step s = exec c { s with pending := rest } := by
  simp only [step, hq]

theorem step_of_empty {s : State} (hq : s.pending = []) : step s = .next (idle s) := by
  simp only [step, hq]

/-- A step keeps what its command keeps, the queue aside: the command runs with the rest of the queue. -/
theorem step_keep {b : Bool} {s t : State} (hc : s.pending.head? ≠ some .powerOnReset ∨ b = false) (h : step s = .next t) :
    ∃ rest, Keep b { s with pending := rest } t := by
  cases hq : s.pending with
  | nil =>
    rw [step_of_empty hq] at h
    cases h
    exact ⟨s.pending, idle_keep (Keep.refl s)⟩
  | cons c rest =>
    rw [step_of_pending hq] at h
    have hc' : c ≠ .powerOnReset ∨ b = false := by
      rw [hq] at hc
      exact hc.imp_left (fun hne e => hne (congrArg some e))
    exact ⟨rest, exec_keep hc' (Keep.refl _) t h⟩

/-- Settles O5: the register file and the DRAM are canonical again after every step. -/
theorem stepKeepsInvariant : Obligations.StepKeepsInvariant := by
  intro s t ⟨hregs, hdram⟩ h
  obtain ⟨_, hk⟩ := step_keep (.inr rfl) h
  exact ⟨hk.regs hregs, hk.dram hdram⟩

/-- Settles O6. -/
theorem stepNeverLowersFloors : Obligations.StepNeverLowersFloors := by
  intro s t h
  obtain ⟨_, hk⟩ := step_keep (.inr rfl) h
  exact ⟨hk.seletFloor, hk.fwFloor⟩

/-- Settles O7. -/
theorem keyHashProgrammedOnce : Obligations.KeyHashProgrammedOnce := by
  intro s t hblank h
  obtain ⟨_, hk⟩ := step_keep (.inr rfl) h
  exact hk.keyHash hblank

/-- Settles O8: every command but POWER_ON_RESET keeps the latch, and that one clears it. -/
theorem latchClearedOnlyByPowerOn : Obligations.LatchClearedOnlyByPowerOn := by
  refine ⟨fun s t hlatch hfront h => ?_, fun s => ⟨_, rfl, rfl⟩⟩
  obtain ⟨_, hk⟩ := step_keep (b := true) (.inl hfront) h
  exact hk.latch rfl hlatch

/-- Settles O9. -/
theorem commandsLeaveQueueAndWhatWasSent : Obligations.CommandsLeaveQueueAndWhatWasSent := by
  intro c s t h
  have hk : Keep false s t := exec_keep (.inr rfl) (Keep.refl s) t h
  exact ⟨hk.pending, hk.out, hk.fresh⟩

/-! ### The state just after reset -/

/-- Settles O4: one register differs from its reset value, and no byte of the DRAM is listed. -/
theorem resetMeetsInvariant : Obligations.ResetMeetsInvariant := by
  constructor <;> decide

/-- Settles O3, field by field of `State.reset`. -/
theorem resetStateIsFreshBoot : Obligations.ResetStateIsFreshBoot := by
  refine ⟨rfl, by decide, by decide, by decide, rfl, rfl, by decide, fun _ _ => rfl, rfl, rfl, fun _ _ => rfl, rfl⟩

/-! ### An idle step -/

section
variable (s : State)

theorem showSlew_frame : showSlew s = { s with regs := (showSlew s).regs } := rfl

theorem setCause_frame (page b : Nat) :
    setCause s page b = { s with regs := (setCause s page b).regs, host := (setCause s page b).host, out := (setCause s page b).out } := by
  rw [setCause, fire_frame]
  rfl

theorem slewEnd_frame : slewEnd s = { s with
    regs := (slewEnd s).regs, host := (slewEnd s).host, out := (slewEnd s).out, dtm := (slewEnd s).dtm } := by
  rw [slewEnd, setCause_frame]
  rfl

/-- One cycle of Datum, with its PLL locked and CORE running: the counter and its slew move, and one more cycle is counted. -/
theorem datumTick_running (h : s.boot.pllLocked = true ∧ s.pow.stopped = false) : datumTick s = { s with
    regs := (datumTick s).regs, host := (datumTick s).host, out := (datumTick s).out, dtm := (datumTick s).dtm, now := (datumTick s).now,
    dev := { s.dev with upCycles := s.dev.upCycles + 1 } } := by
  obtain ⟨hpll, hrun⟩ := h
  simp only [datumTick, hpll, hrun, Bool.not_true, Bool.or_false, Bool.false_eq_true, if_false]
  generalize (if s.flag F.DTM_STATUS_SLEWING = true then slewPart s else 0) = part
  by_cases h0 : part = 0
  · simp only [if_pos h0]
    rfl
  · simp only [if_neg h0]
    split
    · rw [slewEnd_frame, showSlew_frame]
      rfl
    · rfl

/-- Without its PLL, or with CORE stopped, Datum stands. -/
theorem datumTick_stopped (h : ¬(s.boot.pllLocked = true ∧ s.pow.stopped = false)) : datumTick s = s := by
  have hoff : (!s.boot.pllLocked || s.pow.stopped) = true := by
    cases hl : s.boot.pllLocked <;> cases hp : s.pow.stopped <;> simp_all
  rw [datumTick, if_pos hoff]

theorem aonTick_seconds (n : Nat) : (aonTick s n).fld F.AON_TIME_SECONDS = (s.pow.aonCycles + n) / 250000000 % 2 ^ 32 :=
  State.fld_setFld_self _ _ _ (by decide)
end

/-- Settles O2: the clock of AON advances by one period, and Datum by one cycle where it runs. -/
theorem idleStepPassesTime : Obligations.IdleStepPassesTime := by
  intro s hq
  refine ⟨_, step_of_empty hq, ?_⟩
  rw [idle, aonTick_seconds]
  by_cases h : s.boot.pllLocked = true ∧ s.pow.stopped = false
  · rw [datumTick_running s h, if_pos h]
    exact ⟨rfl, rfl, rfl, rfl, rfl, rfl, rfl, hq⟩
  · rw [datumTick_stopped s h, if_neg h]
    exact ⟨rfl, rfl, rfl, rfl, rfl, rfl, rfl, hq⟩

end Sys2Proof.Machine
end

section
/-!
PROOFS. Accesses of registers: forced causes and accesses that do not decode (O14), words of the bit-alias area (O15), the request of a
software reset (O20).
-/
namespace Sys2Proof.Machine

-- One proof after another: side by side, the threads of so long a text want more memory than the check grants.
set_option Elab.async false

/-! ### Causes and captured errors -/

theorem bit_or (x y : Word) (b : Nat) : bit (x ||| y).toNat b = (bit x.toNat b || bit y.toNat b) := by
  simp only [bit_eq_testBit, BitVec.testBit_toNat, BitVec.getLsbD_or]

theorem bit_and (x y : Word) (b : Nat) : bit (x &&& y).toNat b = (bit x.toNat b && bit y.toNat b) := by
  simp only [bit_eq_testBit, BitVec.testBit_toNat, BitVec.getLsbD_and]

/-- A bit of a word with a field just written. -/
theorem bit_insBits (w : Word) (l k v i : Nat) (h : l + k ≤ 32) :
    bit (insBits w l k v).toNat i = if l ≤ i ∧ i < l + k then v.testBit (i - l) else bit w.toNat i := by
  simp only [bit_eq_testBit, BitVec.testBit_toNat, getLsbD_insBits _ _ _ _ _ h]

/-- A first error is captured with its code, its requester and its address (R43). -/
theorem errCaptured_recordErr (s : State) (page : Nat) {code src : Nat} (addr : Nat) (hc : code < 256) (hs : src < 256) :
    errCaptured s (recordErr s page code src addr) page code src addr := by
  intro hfree
  have hcap := recordErr_first_cap s page code src addr hfree
  refine ⟨?_, ?_, ?_, ?_, recordErr_first_addr s page code src addr hfree⟩
  · rw [recordErr_first_low _ _ _ _ _ hfree (by decide)]
    omega
  · rw [hcap, bitsOf_insBits_apart _ _ _ _ _ _ (by decide) (by decide)]
    have hlow := bitsOf_insBits (s.reg (page * 0x1000 + 0x01C)) 0 16 (src * 256 + code) (by decide)
    rw [bitsOf_add _ 0 8 8, bitsOf_insBits_low _ _ _ _ _ (by decide) (by decide), Nat.zero_add] at hlow
    omega
  · rw [hcap, bit_insBits _ _ _ _ _ (by decide)]
    rfl
  · rw [hcap, bitsOf_insBits_apart _ _ _ _ _ _ (by decide) (by decide), bitsOf_insBits_apart _ _ _ _ _ _ (by decide) (by decide)]

/-! ### IRQ_FORCE (R41) -/

theorem plainWrite_force (s : State) (src : Requester) (page : Nat) (data : Word) :
    plainWrite s src (page * 0x1000 + 0x018) data allBits = if causeMask page = 0#32 then s else forceCauses s page data := by
  have hp : (page * 0x1000 + 0x018) / 0x1000 = page := by omega
  have ho : (page * 0x1000 + 0x018) % 0x1000 = 0x018 := by omega
  simp only [plainWrite, hp, ho, and_allBits]

theorem forceCauses_stat (s : State) (page : Nat) (data : Word) :
    (forceCauses s page data).reg (page * 0x1000 + 0x010) = (s.reg (page * 0x1000 + 0x010) ||| (data &&& causeMask page)) := by
  rw [forceCauses, fire_reg, State.reg_setReg_self]

theorem onlyRegs_forceCauses (s : State) (page : Nat) (data : Word) : OnlyRegs s (forceCauses s page data) [page * 0x1000 + 0x010] := by
  intro a ha
  rw [forceCauses, fire_reg]
  exact onlyRegs_setReg s _ _ a ha

theorem forceCauses_frame (s : State) (page : Nat) (data : Word) : forceCauses s page data =
    { s with regs := (forceCauses s page data).regs, host := (forceCauses s page data).host, out := (forceCauses s page data).out } := by
  rw [forceCauses, fire_frame]
  rfl

theorem irqForceWrite_sets {s : State} (hs : s.inOperation = true) (src : Requester) (page : Fin 256) (data : Word)
    (hspec : (specOf (page.val * 0x1000 + 0x018)).isSome = true) (h2 : page.val ≠ 0x02) (h3 : page.val ≠ 0x03) :
    ∃ t, exec (.irqForceWrite src page data) s = .next t ∧
      t.reg (page.val * 0x1000 + 0x010) = (s.reg (page.val * 0x1000 + 0x010) ||| (data &&& causeMask page.val)) ∧
      OnlyRegs s t [page.val * 0x1000 + 0x010] ∧ t = { s with regs := t.regs, host := t.host, out := t.out } := by
  refine ⟨if causeMask page.val = 0#32 then s else forceCauses s page.val data, ?_, ?_⟩
  · simp only [exec, execIrqForceWrite, gateWrite_inOperation hs (implemented_of_specOf hspec)]
    rw [routeWrite_headerWord s src h2 h3 (by decide), plainWrite_force]
  · split
    · next hnone => exact ⟨by rw [hnone, BitVec.and_zero, BitVec.or_zero], fun _ _ => rfl, rfl⟩
    · exact ⟨forceCauses_stat s page.val data, onlyRegs_forceCauses s page.val data, forceCauses_frame s page.val data⟩

/-! ### Accesses that do not decode (R36, R37) -/

theorem abortRead_frame (s : State) (src : Requester) (a : Nat) : abortRead s src a =
    { s with regs := (abortRead s src a).regs, host := (abortRead s src a).host, out := (abortRead s src a).out } := by
  rw [abortRead, busError, recordErr_frame]
  rfl

theorem abortRead_last (s : State) (src : Requester) (a : Nat) :
    (abortRead s src a).out.getLast? = some (if src = .jtag then .readData src a 0#32 else .readAbort src a) := by
  simp [abortRead, State.send]

theorem undecoded_write {s : State} {src : Requester} {addr : RegAddr} (hs : s.answers = true) (hd : decodes s src (wordAddr addr) = false) :
    exec (.undecodedAccess src addr true) s = .next (recordErr s 0x04 0x02 src.code (wordAddr addr)) := by
  simp [exec, execUndecodedAccess, hs, hd, busError]

theorem undecoded_read {s : State} {src : Requester} {addr : RegAddr} (hs : s.answers = true) (hd : decodes s src (wordAddr addr) = false) :
    exec (.undecodedAccess src addr false) s = .next (abortRead s src (wordAddr addr)) := by
  simp [exec, execUndecodedAccess, hs, hd]

/-- The causes of CAD: bits 0 to 6, and ERR. -/
theorem causeMask_cad : causeMask 0x1E = 0x8000007F#32 := by decide +kernel

/-- Settles O14: IRQ_FORCE on every page, with the causes of CAD one by one; an access that does not decode is an error of HIF. -/
theorem forcedCausesAndErrorsOfAccess : Obligations.ForcedCausesAndErrorsOfAccess := by
  refine ⟨fun s src page data hs hspec h2 h3 => irqForceWrite_sets hs src page data hspec h2 h3, fun s src data hs => ?_, ?_⟩
  · obtain ⟨t, ht, hstat, honly, hframe⟩ := irqForceWrite_sets hs src 0x1E data (by decide +kernel) (by decide) (by decide)
    refine ⟨t, ht, fun b hb => ?_, honly, hframe⟩
    have hmask : bit (causeMask 0x1E).toNat b = true := by
      rw [causeMask_cad]
      revert b
      decide
    have hval : (0x1E : Fin 256).val = 0x1E := rfl
    rw [hval] at hstat
    rw [causeSet, hstat, bit_or, bit_and, hmask, Bool.and_true, causeSet]
  · intro s src addr hs hd
    have hcap := errCaptured_recordErr s 0x04 (code := 0x02) (wordAddr addr) (by decide) (requester_code_lt src)
    have honly := onlyRegs_recordErr s 0x04 0x02 src.code (wordAddr addr)
    have hset := causeSet_recordErr s 0x04 0x02 src.code (wordAddr addr)
    exact ⟨⟨_, undecoded_write hs hd, hset, hcap, honly, recordErr_frame _ _ _ _ _⟩,
      ⟨_, undecoded_read hs hd, hset, hcap, honly, abortRead_frame _ _ _, abortRead_last _ _ _⟩⟩

/-! ### The bit-alias area (R52, R53) -/

/-- The fields whose bits a write does not touch have no part in it. -/
theorem foldl_applyField_touched (s : State) (a page off : Nat) (data mask : Word) (fs : List FieldSpec) (acc : WriteAcc) :
    fs.foldl (applyField s a page off data mask) acc =
      (fs.filter (fun f => bitsOf mask.toNat f.lsb f.width != 0)).foldl (applyField s a page off data mask) acc := by
  induction fs generalizing acc with
  | nil => rfl
  | cons f fs ih =>
    rw [List.foldl_cons, List.filter_cons, ih]
    split
    · rfl
    · next hm =>
      have : bitsOf mask.toNat f.lsb f.width = 0 := by simpa using hm
      simp only [applyField, this, if_true]

/-- With no error captured and no write waiting for AON, an alias write is the write of its bit. -/
theorem aliasError_aonVia {s t : State} (src : Requester) {reg a : Nat} (hq : t.pow = s.pow)
    (hcap : t.reg (reg / 0x1000 * 0x1000 + 0x01C) = s.reg (reg / 0x1000 * 0x1000 + 0x01C)) : aliasError s (aonVia s t a) src reg a = t := by
  simp only [aonVia, hq, if_true, aliasError, hcap, Bool.not_and_self, Bool.false_and, Bool.false_eq_true, if_false]

theorem exec_aliasAccess_write {s : State} (hs : s.inOperation = true) (src : Requester) {addr : RegAddr} (v : Bool)
    (himp : implemented (wordAddr addr) = true) (hoff : ¬ wordAddr addr % 0x1000 < 0x800) :
    exec (.aliasAccess src addr (some v)) s = .next (aliasWrite s src (wordAddr addr) v) := by
  simp only [exec, execAliasAccess, if_neg hoff, gateWrite_inOperation hs himp]

theorem gateRead_inOperation {s : State} (h : s.inOperation = true) {a : Nat} (ha : implemented a = true) (src : Requester)
    (k : State → State) : gateRead s src a k = k s := by
  cases src <;> simp [gateRead, State.answers_of_inOperation h, ha, State.pageOpen_of_inOperation h]

theorem exec_aliasAccess_read {s : State} (hs : s.inOperation = true) (src : Requester) {addr : RegAddr}
    (himp : implemented (wordAddr addr) = true) (hoff : ¬ wordAddr addr % 0x1000 < 0x800) :
    exec (.aliasAccess src addr none) s = .next (s.send (.readData src (wordAddr addr) (aliasBit s (wordAddr addr)))) := by
  simp only [exec, execAliasAccess, if_neg hoff, gateRead_inOperation hs himp, routeRead, if_pos (Nat.not_lt.mp hoff)]

section
variable (s : State) (src : Requester)

/-- A write of one bit of MAC.IRQ_EN. -/
theorem writeFields_macEnable (data : Word) : writeFields s src 0x1C014 data 2#32 =
    s.setReg 0x1C014 (s.reg 0x1C014 &&& ~~~2#32 ||| data &&& 2#32) := by
  have hspec : specOf 0x1C014 = some ⟨0x14, 1, 4, 0, [⟨0, 32, .rw, 32⟩]⟩ := by decide +kernel
  have hreserved : ∀ v w, reservedEnc s (0x1C014 / 0x1000 - basePage (0x1C014 / 0x1000)) (basePage (0x1C014 / 0x1000)) 0x14 0 v w = false :=
    fun _ _ => rfl
  have hwhole : ∀ w d : Word, insBits w 0 32 (bitsOf d.toNat 0 32) = d := by
    intro w d
    apply BitVec.eq_of_getLsbD_eq
    intro i hi
    rw [getLsbD_insBits _ _ _ _ _ (by decide), if_pos ⟨Nat.zero_le _, by omega⟩, testBit_bitsOf, BitVec.testBit_toNat]
    simp [hi]
  refine writeFields_of_foldl s src 0x1C014 data 2#32 hspec (reserved := false) ?_
  simp only [List.foldl_cons, List.foldl_nil, applyField, show bitsOf (2#32).toNat 0 32 ≠ 0 from by decide, if_false, fieldLocked,
    hreserved, hwhole]
  rfl

theorem aliasWrite_macEnable (v : Bool) : aliasWrite s src 0x1CA84 v =
    fire (s.setReg 0x1C014 (s.reg 0x1C014 &&& ~~~2#32 ||| (if v then 2#32 else 0#32) &&& 2#32)) := by
  have halias : aliasOf 0x1CA84 = (0x1C014, 1) := by decide
  have htype : ((specOf 0x1C014).bind (fun x => x.fields.find? (fun f => f.lsb ≤ 1 && 1 < f.lsb + f.width))).map (fun f => f.ty) =
      some .rw := by decide +kernel
  have hroute : ∀ data, routeWrite s src 0x1C014 data 2#32 = fire (writeFields s src 0x1C014 data 2#32) := fun data =>
    routeWrite_headerWord s src (page := 0x1C) (by decide) (by decide) (off := 0x014) (by decide) data 2#32
  simp only [aliasWrite, halias, htype]
  rw [if_neg (by decide), show (BitVec.ofNat 32 (2 ^ 1) : Word) = 2#32 from rfl, hroute, writeFields_macEnable,
    aliasError_aonVia src (by simp) (by rw [fire_reg, State.reg_setReg_ne _ _ (by decide)])]

/-- The bits of MAC.IRQ_EN but bit 1 stay. -/
theorem aliasWrite_macEnable_bit (v : Bool) (i : Nat) :
    bit ((aliasWrite s src 0x1CA84 v).reg 0x1C014).toNat i = if i = 1 then v else bit (s.reg 0x1C014).toNat i := by
  have htwo : bit (2#32).toNat i = decide (i = 1) := by
    rw [bit_eq_testBit]
    exact Nat.testBit_two_pow (n := 1) |>.trans (by simp [eq_comm])
  have hnot : bit (s.reg 0x1C014 &&& ~~~2#32).toNat i = (bit (s.reg 0x1C014).toNat i && !decide (i = 1)) := by
    rw [← htwo]
    simp only [bit_eq_testBit, BitVec.testBit_toNat, BitVec.getLsbD_and, BitVec.getLsbD_not]
    by_cases hi : i < 32
    · simp [hi]
    · simp [BitVec.getLsbD_of_ge (s.reg 0x1C014) i (by omega)]
  rw [aliasWrite_macEnable, fire_reg, State.reg_setReg_self, bit_or, hnot, bit_and, htwo]
  by_cases hi : i = 1
  · subst hi
    cases v <;> simp <;> rfl
  · simp [hi]

variable (b : Fin 7)

theorem aliasOf_cadCause : aliasOf (0x1EA00 + 4 * b.val) = (0x1E010, b.val) := by
  revert b
  decide

/-- A write of one cause of CAD: it stays unless it is written 1. -/
theorem writeFields_cadCause (v : Bool) :
    writeFields s src 0x1E010 (if v then BitVec.ofNat 32 (2 ^ b.val) else 0#32) (BitVec.ofNat 32 (2 ^ b.val)) =
      s.setReg 0x1E010 (insBits (s.reg 0x1E010) b.val 1 (b01 (bit (s.reg 0x1E010).toNat b.val && !v))) := by
  have hm : bitsOf (BitVec.ofNat 32 (2 ^ b.val)).toNat b.val 1 = 1 := by
    revert b
    decide
  have hspec : ∃ r, specOf 0x1E010 = some r ∧ r.off = 0x10 ∧ r.fields.filter
      (fun f => bitsOf (BitVec.ofNat 32 (2 ^ b.val)).toNat f.lsb f.width != 0) = [⟨b.val, 1, .w1c, 32⟩] := by
    refine ⟨_, (rfl : specOf 0x1E010 = some ⟨0x10, 1, 4, 0, (List.range 7).map (fun i => ⟨i, 1, .w1c, 32⟩) ++ [⟨31, 1, .w1c, 32⟩]⟩), rfl, ?_⟩
    clear hm
    revert b
    decide
  obtain ⟨r, hr, hoff, hfields⟩ := hspec
  refine writeFields_of_foldl s src 0x1E010 _ _ hr (reserved := false) ?_
  have hold : bitsOf (s.reg 0x1E010).toNat b.val 1 = b01 (bit (s.reg 0x1E010).toNat b.val) := by
    have := bitsOf_lt (s.reg 0x1E010).toNat b.val 1
    rw [bit_eq_bitsOf]
    generalize bitsOf (s.reg 0x1E010).toNat b.val 1 = x at this ⊢
    interval_cases x <;> rfl
  rw [foldl_applyField_touched, hfields]
  simp only [List.foldl_cons, List.foldl_nil, applyField, hm, Nat.one_ne_zero, if_false, hold]
  congr 2
  cases v
  · simp only [Bool.false_eq_true, if_false]
    cases bit (s.reg 0x1E010).toNat b.val <;> simp [bitsOf, b01]
  · simp only [if_true, hm]
    cases bit (s.reg 0x1E010).toNat b.val <;> rfl

theorem aliasWrite_cadCause (v : Bool) : aliasWrite s src (0x1EA00 + 4 * b.val) v =
    s.setReg 0x1E010 (insBits (s.reg 0x1E010) b.val 1 (b01 (bit (s.reg 0x1E010).toNat b.val && !v))) := by
  have htype : ((specOf 0x1E010).bind (fun x => x.fields.find? (fun f => f.lsb ≤ b.val && b.val < f.lsb + f.width))).map
      (fun f => f.ty) = some .w1c := by
    revert b
    decide +kernel
  have hroute : ∀ data mask, routeWrite s src 0x1E010 data mask = writeFields s src 0x1E010 data mask := fun data mask =>
    routeWrite_headerWord s src (page := 0x1E) (by decide) (by decide) (off := 0x010) (by decide) data mask
  simp only [aliasWrite, aliasOf_cadCause, htype]
  rw [if_neg (by decide), hroute, writeFields_cadCause,
    aliasError_aonVia src (by simp) (State.reg_setReg_ne _ _ (by decide))]

theorem aliasWrite_cadCause_bit (v : Bool) (i : Nat) : causeSet (aliasWrite s src (0x1EA00 + 4 * b.val) v) 0x1E i =
    if i = b.val then causeSet s 0x1E b.val && !v else causeSet s 0x1E i := by
  simp only [causeSet]
  rw [aliasWrite_cadCause]
  simp only [show 0x1E * 0x1000 + 0x010 = 0x1E010 from rfl]
  rw [State.reg_setReg_self, bit_insBits _ _ _ _ _ (by omega)]
  by_cases hi : i = b.val
  · subst hi
    rw [if_pos ⟨le_rfl, by omega⟩, if_pos rfl, Nat.sub_self]
    cases (bit (s.reg 0x1E010).toNat b.val && !v) <;> rfl
  · rw [if_neg (by omega), if_neg hi]

theorem aliasBit_cadCause : aliasBit s (0x1EA00 + 4 * b.val) = BitVec.ofNat 32 (b01 (causeSet s 0x1E b.val)) := by
  simp only [aliasBit, aliasOf_cadCause]
  rfl
end

/-- Settles O15, for the one bit of IRQ_EN and for every cause of CAD. -/
theorem aliasWordsActOnOneBit : Obligations.AliasWordsActOnOneBit := by
  intro s src hs
  refine ⟨fun v => ?_, fun b v => ?_, fun b => ?_⟩
  · refine ⟨_, exec_aliasAccess_write hs src v (by decide +kernel) (by decide), aliasWrite_macEnable_bit s src v 1,
      fun i _ hi => (aliasWrite_macEnable_bit s src v i).trans (if_neg hi), fun a ha => ?_⟩
    change (aliasWrite s src 0x1CA84 v).reg a = _
    rw [aliasWrite_macEnable, fire_reg]
    exact onlyRegs_setReg s _ _ a ha
  · have hw : wordAddr ⟨0x1EA00 + 4 * b.val, by omega⟩ = 0x1EA00 + 4 * b.val := by simp only [wordAddr]; omega
    refine ⟨aliasWrite s src (0x1EA00 + 4 * b.val) v, ?_, ?_, ?_, ?_⟩
    · have := exec_aliasAccess_write hs src (addr := ⟨0x1EA00 + 4 * b.val, by omega⟩) v
        (by revert b; decide +kernel) (by rw [hw]; omega)
      rwa [hw] at this
    · rw [aliasWrite_cadCause_bit, if_pos rfl]
    · intro i _ hi
      rw [aliasWrite_cadCause_bit, if_neg hi]
    · rw [aliasWrite_cadCause]
      exact onlyRegs_setReg s _ _
  · have hw : wordAddr ⟨0x1EA00 + 4 * b.val, by omega⟩ = 0x1EA00 + 4 * b.val := by simp only [wordAddr]; omega
    refine ⟨_, exec_aliasAccess_read hs src (by revert b; decide +kernel) (by rw [hw]; omega), ?_⟩
    rw [hw, aliasBit_cadCause]

/-! ### NVC.RESET_CTRL (R159, R50) -/

theorem exec_resetCtrlWrite {s : State} (hs : s.inOperation = true) (src : Requester) (data : Word) :
    exec (.resetCtrlWrite src data) s = .next (resetCtrlWrite s src data) := by
  simp only [exec, execResetCtrlWrite, gateWrite_inOperation hs (show implemented A.NVC_RESET_CTRL = true by decide +kernel)]

/-- Settles O20. -/
theorem softwareResetIsRequestedByOneValue : Obligations.SoftwareResetIsRequestedByOneValue := by
  intro s src data hs
  rw [exec_resetCtrlWrite hs]
  constructor
  · intro hd
    rw [resetCtrlWrite, if_pos hd]
  · intro hd
    rw [resetCtrlWrite, if_neg hd]
    exact ⟨_, rfl, causeSet_recordErr _ _ _ _ _, errCaptured_recordErr _ _ _ (by decide) (requester_code_lt src),
      onlyRegs_recordErr _ _ _ _ _, recordErr_frame _ _ _ _ _⟩

end Sys2Proof.Machine
end

section
/-!
PROOFS. Resets (05_startup_and_selet.md, Reset sources; 01_border_router_architecture.md, Device states): the statements O19 and O21.
-/
namespace Sys2Proof.Machine

-- One proof after another: side by side, the threads of so long a text want more memory than the check grants.
set_option Elab.async false

/-! ### Updates of registers alone -/

/-- `t` differs from `s` in registers alone. -/
def SameButRegs (s t : State) : Prop := t = { s with regs := t.regs }

theorem SameButRegs.refl (s : State) : SameButRegs s s := rfl

theorem SameButRegs.trans {s t u : State} (h : SameButRegs s t) (h' : SameButRegs t u) : SameButRegs s u := by
  unfold SameButRegs at h h' ⊢
  rw [h', h]

theorem sameButRegs_setReg (s : State) (a : Nat) (w : Word) : SameButRegs s (s.setReg a w) := rfl

theorem sameButRegs_setFld (s : State) (f : Fld) (v : Nat) : SameButRegs s (s.setFld f v) := rfl

theorem SameButRegs.foldl {α : Type} {g : State → α → State} (hg : ∀ t x, SameButRegs t (g t x)) (l : List α) (s : State) :
    SameButRegs s (l.foldl g s) := by
  induction l generalizing s with
  | nil => exact SameButRegs.refl s
  | cons x l ih => exact (hg s x).trans (ih (g s x))

/-- Whatever does not read the registers is as before. -/
theorem SameButRegs.part {s t : State} (h : SameButRegs s t) {α : Type} (f : State → α) (hf : ∀ (u : State) r, f { u with regs := r } = f u) :
    f t = f s := (congrArg f h).trans (hf s _)

theorem SameButRegs.sameMemory {s t : State} (h : SameButRegs s t) : SameMemory s t :=
  sameMemory_of_dram (h.part State.dram (fun _ _ => rfl))

theorem OnlyRegs.refl (s : State) : OnlyRegs s s [] := fun _ _ => rfl

/-- A fold of updates, each of which touches the registers `as` alone. -/
theorem OnlyRegs.foldl {α : Type} {g : State → α → State} {as : List Nat} {l : List α} (hg : ∀ t, ∀ x ∈ l, OnlyRegs t (g t x) as)
    (s : State) : OnlyRegs s (l.foldl g s) as := by
  induction l generalizing s with
  | nil => exact fun _ _ => rfl
  | cons x l ih =>
    intro a ha
    rw [List.foldl_cons, ih (fun t y hy => hg t y (List.mem_cons_of_mem _ hy)) (g s x) a ha]
    exact hg s x (List.mem_cons_self ..) a ha

/-! ### What a reset leaves (R158) -/

/-- The state that a reset leaves, before its registers are stamped: that of State.reset with what outlives the reset. -/
def restarted (s : State) (code lastTrans : Nat) : State :=
  let power := code == 0
  { State.reset with
    pending := s.pending, regs := s.regs.filter (fun e => !power && (e.1 / 0x1000 == 2 || e.1 / 0x1000 == 3)), dram := [], out := s.out,
    fresh := s.fresh,
    dev := { State.reset.dev with inReset := true, resetCode := code, lastTrans := lastTrans, secureLatch := !power && s.dev.secureLatch },
    nv := s.nv, host := HostIf.init s.host.perstLow, log := EventLog.init, sec := secureAfter power s.sec,
    mgm := Margin.init s.mgm.age, pow := powerAfter power s.pow }

/-- `NVC.RESET_SRC` and the floors as a reset stamps them. -/
def stamped (s t : State) (code : Nat) : State :=
  let seen := if code == 0 then 1 else s.fld F.NVC_RESET_SRC_SEEN ||| 2 ^ code
  (((t.setFld F.NVC_RESET_SRC_SEEN seen).setFld F.NVC_RESET_SRC_LAST code).setReg A.NVC_SELET_FLOOR
    (BitVec.ofNat 32 s.nv.seletFloor)).setReg A.NVC_FW_FLOOR (BitVec.ofNat 32 s.nv.fwFloor)

/-- Every reset but the exit from WATCH. -/
theorem resetEffects_eq (s : State) {code : Nat} (h : code ≠ 6) (lastTrans : Nat) :
    resetEffects s code lastTrans = showPins s (ageShown (stamped s (restarted s code lastTrans) code)) := by
  have h6 : (code == 6) = false := by simpa using h
  simp only [resetEffects, h6, Bool.false_eq_true, if_false]
  rfl

theorem sameButRegs_showPins (old s : State) : SameButRegs s (showPins old s) :=
  (SameButRegs.trans (sameButRegs_setFld _ _ _) (sameButRegs_setFld _ _ _)).trans
    (SameButRegs.foldl (fun t n => sameButRegs_setFld t (F.LRF_STATUS_BLANK_IN n) _) _ _)

/-- The registers that a reset stamps after their reset values: the age record, the pins. -/
theorem onlyRegs_shown (old s : State) : OnlyRegs s (showPins old (ageShown s))
    [A.MGM_AGE_H, F.MGM_RECORDS_COUNT.addr, A.SYS_STATUS, A.RED_STATUS, 0x1000C, 0x1100C, 0x1200C, 0x1300C] := by
  have hage : OnlyRegs s (ageShown s) [A.MGM_AGE_H, F.MGM_RECORDS_COUNT.addr] := (onlyRegs_setReg s _ _).trans (onlyRegs_setFld _ _ _)
  unfold showPins
  refine (hage.trans ((onlyRegs_setFld _ F.SYS_STATUS_MAINS_OK _).trans ((onlyRegs_setFld _ F.RED_STATUS_ILK_IN _).trans
    (OnlyRegs.foldl (as := [0x1000C, 0x1100C, 0x1200C, 0x1300C]) (fun t n hn => ?_) _)))).mono (by decide)
  exact (onlyRegs_setFld t (F.LRF_STATUS_BLANK_IN n) _).mono (by clear hage; revert n; decide)

theorem onlyRegs_stamped (s t : State) (code : Nat) : OnlyRegs t (stamped s t code) [A.NVC_RESET_SRC, A.NVC_SELET_FLOOR, A.NVC_FW_FLOOR] :=
  ((((onlyRegs_setFld t _ _).trans (onlyRegs_setFld _ _ _)).trans (onlyRegs_setReg _ _ _)).trans (onlyRegs_setReg _ _ _)).mono (by decide)

theorem stamped_last (s t : State) {code : Nat} (h : code < 256) : (stamped s t code).fld F.NVC_RESET_SRC_LAST = code := by
  rw [stamped, State.fld_setReg_ne _ _ _ _ (by decide), State.fld_setReg_ne _ _ _ _ (by decide),
    State.fld_setFld_self _ _ _ (by decide)]
  exact Nat.mod_eq_of_lt h

theorem stamped_seen (s t : State) {code : Nat} (h : code < 8) : bit ((stamped s t code).fld F.NVC_RESET_SRC_SEEN) code = true := by
  rw [stamped, State.fld_setReg_ne _ _ _ _ (by decide), State.fld_setReg_ne _ _ _ _ (by decide),
    State.fld_setFld_apart _ _ _ _ (by decide) (by decide), State.fld_setFld_self _ _ _ (by decide), bit_eq_testBit,
    Nat.testBit_mod_two_pow, decide_eq_true h, Bool.true_and]
  by_cases h0 : code = 0
  · subst h0
    simp
  · rw [if_neg (by simpa using h0), Nat.testBit_or, Nat.testBit_two_pow_self, Bool.or_true]

/-- A key that a choice of keys keeps reads as before. -/
theorem Tbl.get_filter_keys {α : Type} (d : Nat → α) (p : Nat → Bool) (t : Tbl α) (k : Nat) :
    Tbl.get d (t.filter (fun e => p e.1)) k = if p k then Tbl.get d t k else d k := by
  induction t with
  | nil => simp
  | cons e t ih =>
    obtain ⟨j, v⟩ := e
    by_cases hj : j = k
    · subst hj
      cases hp : p j <;> simp [Tbl.get, hp, ih]
    · cases hp : p j <;> simp [Tbl.get, hp, hj, ih]

theorem restarted_reg (s : State) (code lastTrans : Nat) {a : Nat} (ha : a / 0x1000 = 2 ∨ a / 0x1000 = 3) :
    (restarted s code lastTrans).reg a = if code = 0 then resetWord a else s.reg a := by
  have hkey : (a / 0x1000 == 2 || a / 0x1000 == 3) = true := by simpa using ha
  refine (Tbl.get_filter_keys resetWord (fun a => !(code == 0) && (a / 0x1000 == 2 || a / 0x1000 == 3)) s.regs a).trans ?_
  by_cases h0 : code = 0 <;> simp [h0, hkey, State.reg]

/-- What a reset of code below 6 leaves, and what outlives it. -/
theorem enterReset_restarts (s : State) {code : Nat} (h : code < 6) :
    (enterReset s code).dev.inReset = true ∧ (enterReset s code).dev.resetCode = code ∧
      (enterReset s code).fld F.NVC_RESET_SRC_LAST = code ∧ bit ((enterReset s code).fld F.NVC_RESET_SRC_SEEN) code = true ∧
      (∀ a, (enterReset s code).ram a = 0#8) ∧ (enterReset s code).rings = [] ∧ (enterReset s code).lanes = [] ∧
      (enterReset s code).fab = State.reset.fab ∧ (enterReset s code).cad = State.reset.cad ∧ (enterReset s code).nv = s.nv ∧
      (enterReset s code).dev.secureLatch = (s.dev.secureLatch && code != 0) ∧ (enterReset s code).dev.softResetDue = false ∧
      (∀ a, a / 0x1000 = 2 ∨ a / 0x1000 = 3 → (enterReset s code).reg a = if code = 0 then resetWord a else s.reg a) := by
  rw [enterReset, resetEffects_eq s (by omega)]
  generalize (if code = 0 then 0x00 else 0x01) = lastTrans
  have hregs := onlyRegs_shown s (stamped s (restarted s code lastTrans) code)
  have hstamp := onlyRegs_stamped s (restarted s code lastTrans) code
  have hsame : SameButRegs (restarted s code lastTrans) (showPins s (ageShown (stamped s (restarted s code lastTrans) code))) :=
    SameButRegs.trans (t := ageShown (stamped s (restarted s code lastTrans) code)) rfl (sameButRegs_showPins _ _)
  generalize showPins s (ageShown (stamped s (restarted s code lastTrans) code)) = t at hregs hsame
  have hdev : t.dev = (restarted s code lastTrans).dev := hsame.part State.dev (fun _ _ => rfl)
  refine ⟨congrArg Device.inReset hdev, congrArg Device.resetCode hdev, ?_, ?_, ?_, hsame.part State.rings (fun _ _ => rfl), hsame.part State.lanes (fun _ _ => rfl),
    hsame.part State.fab (fun _ _ => rfl), hsame.part State.cad (fun _ _ => rfl), hsame.part State.nv (fun _ _ => rfl), ?_, congrArg Device.softResetDue hdev, ?_⟩
  · rw [hregs.fld (by decide), stamped_last _ _ (by omega)]
  · rw [hregs.fld (by decide), stamped_seen _ _ (by omega)]
  · intro a
    rw [State.ram, show t.dram = [] from hsame.part State.dram (fun _ _ => rfl)]
    rfl
  · rw [show t.dev.secureLatch = (!(code == 0) && s.dev.secureLatch) from congrArg Device.secureLatch hdev, Bool.and_comm]
    rfl
  · intro a ha
    have hne : ∀ as : List Nat, (∀ c ∈ as, ¬(c / 0x1000 = 2 ∨ c / 0x1000 = 3)) → a ∉ as := fun as h m => h a m ha
    rw [hregs a (hne _ (by decide)), hstamp a (hne _ (by decide)), restarted_reg _ _ _ ha]

/-- Settles O19: every source enters RESET with its own code. -/
theorem resetsRestartTheDevice : Obligations.ResetsRestartTheDevice := by
  intro s c code hc
  have hexec : exec c s = .next (enterReset s code) ∧ code < 6 := by
    rcases hc with ⟨rfl, rfl⟩ | ⟨rfl, rfl⟩ | ⟨rfl, rfl, hin, hwatch, hbist⟩ | ⟨rfl, rfl, hans, hdue⟩ | ⟨rfl, rfl⟩ | ⟨rfl, rfl, hcore⟩
    · exact ⟨rfl, by decide⟩
    · exact ⟨rfl, by decide⟩
    · exact ⟨by simp [exec, execSysWatchdogExpiry, hin, hwatch, hbist], by decide⟩
    · exact ⟨by simp [exec, execSoftwareReset, hans, hdue], by decide⟩
    · exact ⟨rfl, by decide⟩
    · have hon : coreOn s = true := by rcases hcore with h | h <;> simp [coreOn, h]
      exact ⟨by simp [exec, execBrownOut, hon], by decide⟩
  exact ⟨_, hexec.1, enterReset_restarts s hexec.2⟩

/-! ### The messages of causes touch two maps of vectors -/

theorem fireVector_host (s : State) (v : Nat) : (fireVector s v).host =
    { s.host with disarmed := (fireVector s v).host.disarmed, vecDue := (fireVector s v).host.vecDue } := by
  unfold fireVector
  split
  · rfl
  · split <;> rfl

theorem foldl_fireVector_host (l : List Nat) (s : State) : (l.foldl fireVector s).host =
    { s.host with disarmed := (l.foldl fireVector s).host.disarmed, vecDue := (l.foldl fireVector s).host.vecDue } := by
  induction l generalizing s with
  | nil => rfl
  | cons v l ih =>
    rw [List.foldl_cons, ih, fireVector_host]

theorem fire_host (s : State) : (fire s).host = { s.host with disarmed := (fire s).host.disarmed, vecDue := (fire s).host.vecDue } := by
  unfold fire
  split
  · exact foldl_fireVector_host _ s
  · rfl

theorem setCause_host (s : State) (page b : Nat) : (setCause s page b).host =
    { s.host with disarmed := (setCause s page b).host.disarmed, vecDue := (setCause s page b).host.vecDue } := fire_host _

@[simp] theorem setCause_perstLow (s : State) (page b : Nat) : (setCause s page b).host.perstLow = s.host.perstLow := by
  rw [setCause_host]

/-! ### RESET_RELEASE (R25, R162, R182) -/

/-- What reporting to BOOT touches: registers of two pages, the attachment to the host, what is sent, the events, AON. -/
structure Reported (s t : State) : Prop where
  frame : t = { s with regs := t.regs, host := t.host, out := t.out, log := t.log, pow := t.pow }
  regs : OnlyRegs s t [0x00010, 0x02010]
  perst : t.host.perstLow = s.host.perstLow
  events : s.log.queue <+: t.log.queue

theorem Reported.refl (s : State) : Reported s s := ⟨rfl, fun _ _ => rfl, rfl, List.prefix_rfl⟩

theorem Reported.trans {s t u : State} (h : Reported s t) (h' : Reported t u) : Reported s u where
  frame := by rw [h'.frame, h.frame]
  regs := (h.regs.trans h'.regs).mono (by decide)
  perst := h'.perst.trans h.perst
  events := h.events.trans h'.events

/-- One event with its cause, of SYS or of AON. -/
theorem reported_event (s : State) {page : Nat} (hp : page = 0x00 ∨ page = 0x02) (p sub code sev b : Nat) (data : List Byte) :
    Reported s (setCause (s.event p sub code sev data) page b) where
  frame := by
    rw [setCause_frame]
    simp [State.event]
  regs := by
    intro a ha
    rw [setCause_reg_ne _ _ _ (by rcases hp with rfl | rfl <;> simp_all), State.event_reg]
  perst := by rw [setCause_perstLow]; rfl
  events := by rw [setCause_log]; exact List.prefix_append _ _

theorem Reported.foldl {α : Type} {g : State → α → State} (hg : ∀ t x, Reported t (g t x)) (l : List α) (s : State) :
    Reported s (l.foldl g s) := by
  induction l generalizing s with
  | nil => exact Reported.refl s
  | cons x l ih => exact (hg s x).trans (ih (g s x))

theorem reported_pow (s : State) (p : Power) : Reported s { s with pow := p } := ⟨rfl, fun _ _ => rfl, rfl, List.prefix_rfl⟩

theorem aonReports_reported (s : State) : Reported s (aonReports s) := by
  have hclock : Reported s (s.pow.clockDue.foldl (fun (t : State) e =>
      setCause (t.event 0x00 0 0x1603 (if e.2 = 1 then 3 else 1) (leBytes 1 e.1 ++ leBytes 1 e.2)) 0x00 3) s) :=
    Reported.foldl (fun t e => reported_event t (.inl rfl) _ _ _ _ _ _) _ s
  unfold aonReports
  simp only
  generalize s.pow.clockDue.foldl _ s = u at hclock
  split
  · exact hclock.trans ((reported_pow u _).trans ((reported_pow _ _).trans (reported_event _ (.inr rfl) _ _ _ _ _ _)))
  · exact hclock.trans (reported_pow u _)

/-- The PHY of PCIe leaves reset with PERST_N high: one field of `CLK_STATUS`. -/
def phyReleased (s : State) (perstHigh : Bool) : State :=
  if s.answers && perstHigh && !s.pow.refLost.contains 2 then s.setFld F.SYS_CLK_STATUS_PCIE_PLL 1 else s

theorem sameButRegs_phyReleased (s : State) (p : Bool) : SameButRegs s (phyReleased s p) := by
  unfold phyReleased
  split <;> rfl

theorem onlyRegs_phyReleased (s : State) (p : Bool) : OnlyRegs s (phyReleased s p) [A.SYS_CLK_STATUS] := by
  unfold phyReleased
  split
  · exact onlyRegs_setFld s _ _
  · exact fun _ _ => rfl

theorem exec_resetRelease {s : State} (h : s.dev.inReset = true) (perstHigh : Bool) : exec (.resetRelease perstHigh) s =
    .next (phyReleased (resetRelease { s with host := { s.host with perstLow := !perstHigh } }) perstHigh) := by
  simp only [exec, execResetRelease, h, if_true]
  rfl

/-- BOOT as RESET_RELEASE enters it: counted in ReRAM, with BOOT_START waiting. -/
def bootEntered (s : State) : State :=
  ({ s with dev := { s.dev with inReset := false }, nv := { s.nv with bootCount := (s.nv.bootCount + 1) % 2 ^ 32 },
            pow := { s.pow with bootAt := s.pow.aonCycles } } : State).event 0x01 0 0x0500 0
    (leBytes 1 s.dev.resetCode ++ leBytes 1 s.dev.lastTrans)

theorem resetRelease_boots {s : State} (h : s.dev.inReset = true) (hl : s.dev.secureLatch = false) :
    resetRelease s = aonReports (bootEntered s) := by
  rw [resetRelease, if_neg (by simp [h]), if_neg (by simp [hl])]
  rfl

theorem resetRelease_holds {s : State} (h : s.dev.inReset = true) (hl : s.dev.secureLatch = true) : resetRelease s =
    ({ s with dev := { s.dev with inReset := false, lastTrans := 0x05 } } : State).setFld F.SYS_STATUS_DEV_STATE 4 := by
  rw [resetRelease, if_neg (by simp [h]), if_pos hl]

/-- Settles O21: the latch decides between BOOT, counted and reported, and SECURE_HOLD. -/
theorem resetReleaseEntersBootOrSecureHold : Obligations.ResetReleaseEntersBootOrSecureHold := by
  intro s perstHigh hr
  rw [exec_resetRelease hr]
  constructor
  · intro hl
    have hrep := aonReports_reported (bootEntered { s with host := { s.host with perstLow := !perstHigh } })
    rw [← resetRelease_boots (s := { s with host := { s.host with perstLow := !perstHigh } }) hr hl] at hrep
    generalize resetRelease { s with host := { s.host with perstLow := !perstHigh } } = u at hrep
    have hphy := sameButRegs_phyReleased u perstHigh
    have hregs := hrep.regs.trans (onlyRegs_phyReleased u perstHigh)
    refine ⟨_, rfl, ?_, ?_, ?_, ?_, ?_, ?_⟩
    · exact (hphy.part State.dev (fun _ _ => rfl)).trans (congrArg State.dev hrep.frame)
    · exact (hphy.part State.nv (fun _ _ => rfl)).trans (congrArg State.nv hrep.frame)
    · rw [hphy.part State.host (fun _ _ => rfl), hrep.perst]
      rfl
    · obtain ⟨later, hlater⟩ := hrep.events
      rw [hphy.part State.log (fun _ _ => rfl), ← hlater]
      exact List.take_left' (by simp [bootEntered, State.event])
    · exact hregs.fld (by decide)
    · have hdram : u.dram = s.dram := (congrArg State.dram hrep.frame).trans rfl
      exact sameMemory_of_dram ((hphy.part State.dram (fun _ _ => rfl)).trans hdram)
  · intro hl
    rw [resetRelease_holds (s := { s with host := { s.host with perstLow := !perstHigh } }) hr hl]
    generalize hb : State.setFld _ F.SYS_STATUS_DEV_STATE 4 = held
    have hphy := sameButRegs_phyReleased held perstHigh
    refine ⟨_, rfl, ?_, ?_, ?_, ?_, ?_⟩
    · rw [State.devState, (onlyRegs_phyReleased held perstHigh).fld (by decide), ← hb, State.fld_setFld_self _ _ _ (by decide)]
      rfl
    · rw [hphy.part State.dev (fun _ _ => rfl), ← hb]
      rfl
    · rw [hphy.part State.nv (fun _ _ => rfl), ← hb]
      rfl
    · rw [hphy.part State.log (fun _ _ => rfl), ← hb]
      rfl
    · refine OnlyRegs.trans (t := held) (as := [A.SYS_STATUS]) ?_ (onlyRegs_phyReleased held perstHigh)
      rw [← hb]
      exact onlyRegs_setFld _ F.SYS_STATUS_DEV_STATE 4

end Sys2Proof.Machine
end

section
/-!
PROOFS. What an update touches: `Touches ps gs s t` says that `t` differs from `s` at most in the parts `ps` of the state and in registers of
the pages `gs`. One lemma per shared operation; a function's effects are then read off its composition.
-/
namespace Sys2Proof.Machine

-- One proof after another: side by side, the threads of so long a text want more memory than the check grants.
set_option Elab.async false

/-- The parts of a state. -/
inductive Area where
  | pending | regs | dram | out | fresh | now | dev | boot | nv | stage | bus | ind | host | rings | log | fab | tss | gates | sec | ports
  | dtm | lanes | mac | rgl | cad | upd | cox | red | mem | mgm | pow | bst
  deriving DecidableEq

/-- A part of `t` is that of `s`. -/
def Area.same (s t : State) : Area → Prop
  | .pending => t.pending = s.pending | .regs => t.regs = s.regs | .dram => t.dram = s.dram | .out => t.out = s.out
  | .fresh => t.fresh = s.fresh | .now => t.now = s.now | .dev => t.dev = s.dev | .boot => t.boot = s.boot | .nv => t.nv = s.nv
  | .stage => t.stage = s.stage | .bus => t.bus = s.bus | .ind => t.ind = s.ind | .host => t.host = s.host | .rings => t.rings = s.rings
  | .log => t.log = s.log | .fab => t.fab = s.fab | .tss => t.tss = s.tss | .gates => t.gates = s.gates | .sec => t.sec = s.sec
  | .ports => t.ports = s.ports | .dtm => t.dtm = s.dtm | .lanes => t.lanes = s.lanes | .mac => t.mac = s.mac | .rgl => t.rgl = s.rgl
  | .cad => t.cad = s.cad | .upd => t.upd = s.upd | .cox => t.cox = s.cox | .red => t.red = s.red | .mem => t.mem = s.mem
  | .mgm => t.mgm = s.mgm | .pow => t.pow = s.pow | .bst => t.bst = s.bst

theorem Area.same_refl (s : State) (p : Area) : p.same s s := by cases p <;> rfl

theorem Area.same_trans {s t u : State} {p : Area} (h : p.same s t) (h' : p.same t u) : p.same s u := by
  cases p <;> exact h'.trans h

/-- The state with the parts `ps` of `t` and the others of `s`. -/
def State.merge (ps : List Area) (s t : State) : State where
  pending := if .pending ∈ ps then t.pending else s.pending
  regs := if .regs ∈ ps then t.regs else s.regs
  dram := if .dram ∈ ps then t.dram else s.dram
  out := if .out ∈ ps then t.out else s.out
  fresh := if .fresh ∈ ps then t.fresh else s.fresh
  now := if .now ∈ ps then t.now else s.now
  dev := if .dev ∈ ps then t.dev else s.dev
  boot := if .boot ∈ ps then t.boot else s.boot
  nv := if .nv ∈ ps then t.nv else s.nv
  stage := if .stage ∈ ps then t.stage else s.stage
  bus := if .bus ∈ ps then t.bus else s.bus
  ind := if .ind ∈ ps then t.ind else s.ind
  host := if .host ∈ ps then t.host else s.host
  rings := if .rings ∈ ps then t.rings else s.rings
  log := if .log ∈ ps then t.log else s.log
  fab := if .fab ∈ ps then t.fab else s.fab
  tss := if .tss ∈ ps then t.tss else s.tss
  gates := if .gates ∈ ps then t.gates else s.gates
  sec := if .sec ∈ ps then t.sec else s.sec
  ports := if .ports ∈ ps then t.ports else s.ports
  dtm := if .dtm ∈ ps then t.dtm else s.dtm
  lanes := if .lanes ∈ ps then t.lanes else s.lanes
  mac := if .mac ∈ ps then t.mac else s.mac
  rgl := if .rgl ∈ ps then t.rgl else s.rgl
  cad := if .cad ∈ ps then t.cad else s.cad
  upd := if .upd ∈ ps then t.upd else s.upd
  cox := if .cox ∈ ps then t.cox else s.cox
  red := if .red ∈ ps then t.red else s.red
  mem := if .mem ∈ ps then t.mem else s.mem
  mgm := if .mgm ∈ ps then t.mgm else s.mgm
  pow := if .pow ∈ ps then t.pow else s.pow
  bst := if .bst ∈ ps then t.bst else s.bst

/-- Outside the parts taken from `t`, the merged state is `s`. -/
theorem State.merge_same (ps : List Area) (s t : State) {p : Area} (h : p ∉ ps) : p.same s (State.merge ps s t) := by
  cases p <;> exact if_neg h

/-- `t` differs from `s` at most in the parts `ps` and in registers of the pages `gs`. -/
structure Touches (ps : List Area) (gs : List Nat) (s t : State) : Prop where
  part : ∀ p, p ∉ ps → p.same s t
  reg : ∀ a, a / 0x1000 ∉ gs → t.reg a = s.reg a

section
variable {ps qs : List Area} {gs hs : List Nat} {s t u x y : State}

theorem Touches.refl (s : State) : Touches ps gs s s := ⟨fun p _ => p.same_refl s, fun _ _ => rfl⟩

theorem Touches.trans (h : Touches ps gs s t) (h' : Touches ps gs t u) : Touches ps gs s u :=
  ⟨fun p hp => Area.same_trans (h.part p hp) (h'.part p hp), fun a ha => (h'.reg a ha).trans (h.reg a ha)⟩

theorem Touches.mono (h : Touches qs hs s t) (hq : qs ⊆ ps := by decide) (hg : hs ⊆ gs := by decide) : Touches ps gs s t :=
  ⟨fun p hp => h.part p (fun m => hp (hq m)), fun a ha => h.reg a (fun m => ha (hg m))⟩

/-- One more update after those accounted for. -/
theorem Touches.then (h : Touches ps gs s x) (h' : Touches qs hs x y) (hq : qs ⊆ ps := by decide) (hg : hs ⊆ gs := by decide) :
    Touches ps gs s y := h.trans (h'.mono hq hg)

theorem Touches.ite {c : Prop} [Decidable c] (hx : c → Touches ps gs s x) (hy : ¬c → Touches ps gs s y) :
    Touches ps gs s (if c then x else y) := by
  split
  · exact hx ‹_›
  · exact hy ‹_›

theorem Touches.foldl {α : Type} {g : State → α → State} {l : List α} (hg : ∀ t, ∀ e ∈ l, Touches ps gs t (g t e)) (s : State) :
    Touches ps gs s (l.foldl g s) := by
  induction l generalizing s with
  | nil => exact Touches.refl s
  | cons e l ih => exact (hg s e (List.mem_cons_self ..)).trans (ih (fun t d hd => hg t d (List.mem_cons_of_mem _ hd)) _)

/-- The equation that says the same of the parts. -/
theorem Touches.eq (h : Touches ps gs s t) : t = State.merge ps s t := by
  have hp : ∀ {α : Type} (p : Area) (f : State → α), (p ∉ ps → f t = f s) → f t = if p ∈ ps then f t else f s := by
    intro α p f hs
    split
    · rfl
    · exact hs ‹_›
  unfold State.merge
  rw [← hp .pending State.pending (h.part .pending), ← hp .regs State.regs (h.part .regs), ← hp .dram State.dram (h.part .dram),
    ← hp .out State.out (h.part .out), ← hp .fresh State.fresh (h.part .fresh), ← hp .now State.now (h.part .now),
    ← hp .dev State.dev (h.part .dev), ← hp .boot State.boot (h.part .boot), ← hp .nv State.nv (h.part .nv),
    ← hp .stage State.stage (h.part .stage), ← hp .bus State.bus (h.part .bus), ← hp .ind State.ind (h.part .ind),
    ← hp .host State.host (h.part .host), ← hp .rings State.rings (h.part .rings), ← hp .log State.log (h.part .log),
    ← hp .fab State.fab (h.part .fab), ← hp .tss State.tss (h.part .tss), ← hp .gates State.gates (h.part .gates),
    ← hp .sec State.sec (h.part .sec), ← hp .ports State.ports (h.part .ports), ← hp .dtm State.dtm (h.part .dtm),
    ← hp .lanes State.lanes (h.part .lanes), ← hp .mac State.mac (h.part .mac), ← hp .rgl State.rgl (h.part .rgl),
    ← hp .cad State.cad (h.part .cad), ← hp .upd State.upd (h.part .upd), ← hp .cox State.cox (h.part .cox),
    ← hp .red State.red (h.part .red), ← hp .mem State.mem (h.part .mem), ← hp .mgm State.mgm (h.part .mgm),
    ← hp .pow State.pow (h.part .pow), ← hp .bst State.bst (h.part .bst)]

theorem Touches.fld (h : Touches ps gs s t) {f : Fld} (hf : f.addr / 0x1000 ∉ gs) : t.fld f = s.fld f := State.fld_congr (h.reg _ hf)

theorem Touches.flag (h : Touches ps gs s t) {f : Fld} (hf : f.addr / 0x1000 ∉ gs) : t.flag f = s.flag f := by
  rw [State.flag, h.fld hf, State.flag]

theorem Touches.ram (h : Touches ps gs s t) (hd : .dram ∉ ps) : SameMemory s t := sameMemory_of_dram (h.part .dram hd)

/-- An update of parts other than the registers: its equation is `rfl`. -/
theorem touches_parts (qs : List Area) (e : y = State.merge qs x y) (hr : .regs ∉ qs := by decide) : Touches qs gs x y := by
  refine ⟨fun p hp => ?_, fun a _ => State.reg_congr (e ▸ State.merge_same qs x y hr) a⟩
  rw [e]
  exact State.merge_same qs x y hp

/-- An update of registers alone, of one page. -/
theorem touches_regs {g : Nat} (e : SameButRegs x y) (h : ∀ a, a / 0x1000 ≠ g → y.reg a = x.reg a) : Touches [.regs] [g] x y := by
  refine ⟨fun p hp => ?_, fun a ha => h a (by simpa using ha)⟩
  rw [e]
  cases p <;> first | rfl | exact absurd (List.mem_singleton_self _) hp

theorem touches_setReg (a : Nat) (w : Word) : Touches [.regs] [a / 0x1000] x (x.setReg a w) :=
  touches_regs rfl (fun _ hc => State.reg_setReg_ne _ _ (fun e => hc (e ▸ rfl)))

theorem touches_setFld (f : Fld) (v : Nat) : Touches [.regs] [f.addr / 0x1000] x (x.setFld f v) := touches_setReg f.addr _

theorem touches_count (f : Fld) (k : Nat) : Touches [.regs] [f.addr / 0x1000] x (x.count f k) := touches_setFld f _

theorem touches_fire : Touches [.host, .out] [] x (fire x) :=
  touches_parts [.host, .out] (by rw [fire_frame]; rfl)

theorem touches_setCause (page b : Nat) : Touches [.regs, .host, .out] [page] x (setCause x page b) := by
  have hp : (page * 0x1000 + 0x010) / 0x1000 = page := by omega
  have h := touches_setReg (x := x) (page * 0x1000 + 0x010) (x.reg (page * 0x1000 + 0x010) ||| BitVec.ofNat 32 (2 ^ b))
  rw [hp] at h
  exact (h.mono (by decide) (List.Subset.refl _)).then touches_fire (hg := List.nil_subset _)

theorem touches_recordErr (page code src addr : Nat) : Touches [.regs, .host, .out] [page] x (recordErr x page code src addr) := by
  refine ⟨fun p hp => ?_, fun a ha => recordErr_reg_ne _ _ _ _ _ ?_ ?_ ?_⟩
  · rw [recordErr_frame]
    cases p <;> first | rfl | exact absurd (by decide) hp
  all_goals
    rintro rfl
    exact ha (by simp; omega)

theorem touches_event (page sub code sev : Nat) (data : List Byte) : Touches [.log] gs x (x.event page sub code sev data) :=
  touches_parts [.log] rfl

theorem touches_send (o : Out) : Touches [.out] gs x (x.send o) := touches_parts [.out] rfl

theorem touches_draw : Touches [.fresh] gs x x.draw.2 := touches_parts [.fresh] rfl

theorem touches_ramStore (a : Nat) (bs : List Byte) : Touches [.dram] gs x (x.ramStore a bs) := touches_parts [.dram] rfl

end

/-! ### Software writes -/

section
variable {x : State}

theorem touches_startGo (a b : Nat) : Touches [.regs, .bus] [a / 0x1000] x (startGo x a b) :=
  Touches.ite (fun _ => touches_parts [.bus] rfl |>.mono (by decide) (List.Subset.refl _))
    (fun _ => (touches_setReg a _).mono (by decide) (List.Subset.refl _))

/-- A write of a register touches its page, GO bits that wait, and by an error the attachment to the host. -/
theorem touches_writeFields (src : Requester) (a : Nat) (data mask : Word) :
    Touches [.regs, .bus, .host, .out] [a / 0x1000] x (writeFields x src a data mask) := by
  have herr : ∀ (t : State) (c : Prop) [Decidable c] (code : Nat), Touches [.regs, .bus, .host, .out] [a / 0x1000] t
      (if c then recordErr t (a / 0x1000) code src.code a else t) := fun t c _ code =>
    Touches.ite (fun _ => (touches_recordErr _ _ _ _).mono (by decide) (List.Subset.refl _)) (fun _ => Touches.refl t)
  unfold writeFields
  cases specOf a with
  | none => exact Touches.refl x
  | some r =>
    refine Touches.trans (Touches.trans (Touches.trans (Touches.trans ((touches_setReg a _).mono (by decide) (List.Subset.refl _))
      (Touches.foldl (fun t b _ => (touches_startGo a b).mono (by decide) (List.Subset.refl _)) _)) (herr _ _ _)) (herr _ _ _)) (herr _ _ _)

theorem touches_plainWrite (src : Requester) (a : Nat) (data mask : Word) :
    Touches [.regs, .bus, .host, .out] [a / 0x1000] x (plainWrite x src a data mask) := by
  have hpage : ∀ o, o < 0x1000 → (a / 0x1000 * 0x1000 + o) / 0x1000 = a / 0x1000 := fun o ho => by omega
  have hset : ∀ (o : Nat) (w : Word), o < 0x1000 → Touches [.regs, .bus, .host, .out] [a / 0x1000] x
      (x.setReg (a / 0x1000 * 0x1000 + o) w) := fun o w ho =>
    (touches_setReg _ w).mono (by decide) (by rw [hpage o ho]; exact List.Subset.refl _)
  have hfields := touches_writeFields (x := x) src a data mask
  unfold plainWrite
  split
  · exact hfields.then touches_fire (hg := List.nil_subset _)
  · refine Touches.ite (fun _ => Touches.refl x) (fun _ => ?_)
    exact (hset 0x010 _ (by decide)).then touches_fire (hg := List.nil_subset _)
  · exact hset 0x024 _ (by decide)
  · exact hfields
end

/-! ### Charges to the heat budgets (R648–R650) -/

section
variable {x : State}

theorem touches_coxDebit (a n : Nat) : Touches [.cox] [] x (coxDebit x a n) := touches_parts [.cox] rfl

theorem touches_coxOverrun {a : Nat} (ha : a < 32) : Touches [.regs, .host, .out, .log, .cox] [0x32] x (coxOverrun x a) := by
  have hcount : ∀ t : State, Touches [.regs, .host, .out, .log, .cox] [0x32] t (t.count (F.COX_ACCT_OVR_COUNT a) 1) := fun t =>
    (touches_count (F.COX_ACCT_OVR_COUNT a) 1).mono (by decide) (by revert a; decide)
  have hreg : ∀ (t : State) (c : Bool) w, Touches [.regs, .host, .out, .log, .cox] [0x32] t
      (if c then t.setReg A.COX_THROTTLED w else t) := fun t c w =>
    Touches.ite (fun _ => (touches_setReg A.COX_THROTTLED w).mono) (fun _ => Touches.refl t)
  have hcause : ∀ (t : State) (c : Prop) [Decidable c] b, Touches [.regs, .host, .out, .log, .cox] [0x32] t
      (if c then setCause t 0x32 b else t) := fun t c _ b => Touches.ite (fun _ => (touches_setCause 0x32 b).mono) (fun _ => Touches.refl t)
  unfold coxOverrun
  refine Touches.ite (fun _ => Touches.refl x) (fun _ => ?_)
  have hstart : Touches [.regs, .host, .out, .log, .cox] [0x32] x { x with cox := { x.cox with counted := x.cox.counted ++ [a] } } :=
    (touches_parts [.cox] rfl : Touches [.cox] [] _ _).mono
  refine Touches.trans (Touches.trans (Touches.trans (Touches.trans (hstart.trans (hcount _)) (hreg _ _ _)) (hcause _ _ _)) (hcause _ _ _))
    (Touches.ite (fun _ => Touches.refl _) (fun _ => (touches_parts [.cox, .log] rfl : Touches [.cox, .log] [] _ _).mono))

theorem touches_coxCharge {a : Nat} (ha : a < 32) (n : Nat) : Touches [.regs, .host, .out, .log, .cox] [0x32] x (coxCharge x a n) := by
  have hpe : 2 * ((a - 24) % 4) + 1 < 32 := by omega
  have hdebit : Touches [.regs, .host, .out, .log, .cox] [0x32] x (coxDebit x a n) := (touches_coxDebit a n).mono
  unfold coxCharge
  refine Touches.ite (fun _ => Touches.refl x) (fun _ => Touches.ite (fun _ => Touches.ite (fun _ => ?_) (fun _ => hdebit))
    (fun _ => Touches.ite (fun _ => hdebit.trans (touches_coxOverrun ha)) (fun _ => hdebit)))
  have hover : ∀ k, Touches [.regs, .host, .out, .log, .cox] [0x32] x
      (coxOverrun (coxDebit (coxDebit x a n) (2 * ((a - 24) % 4) + 1) k) a) := fun k =>
    (hdebit.then (touches_coxDebit (2 * ((a - 24) % 4) + 1) k)).trans (touches_coxOverrun ha)
  exact Touches.ite (fun _ => (hover _).trans (touches_coxOverrun hpe)) (fun _ => hover _)

end

end Sys2Proof.Machine
end

section
/-!
PROOFS. The indirect window's data: writes, reads, and the end of an access (02_register_model.md, Indirect access): the statement O18.
-/
namespace Sys2Proof.Machine

-- One proof after another: side by side, the threads of so long a text want more memory than the check grants.
set_option Elab.async false

/-! ### Numbers in bytes of the DRAM -/

theorem length_leBytes (n v : Nat) : (leBytes n v).length = n := by
  induction n generalizing v with
  | zero => rfl
  | succ n ih => rw [leBytes, List.length_cons, ih]

theorem leNat_leBytes (n v : Nat) : leNat (leBytes n v) = v % 256 ^ n := by
  induction n generalizing v with
  | zero => simp [leBytes, leNat, Nat.mod_one]
  | succ n ih =>
    have hbyte : (BitVec.ofNat 8 v).toNat = v % 256 := BitVec.toNat_ofNat v 8
    rw [leBytes, leNat, ih, hbyte, pow_succ', Nat.mod_mul]

/-- Bytes just stored are read back. -/
theorem State.ramBytes_ramStore (s : State) (a : Nat) (bs : List Byte) : (s.ramStore a bs).ramBytes a bs.length = bs := by
  apply List.ext_getElem
  · simp [State.ramBytes]
  · intro i _ h
    simp only [State.ramBytes, List.getElem_map, List.getElem_range]
    exact State.ram_ramStore s a bs h

theorem State.ramNat_ramStore (s : State) (a n v : Nat) : (s.ramStore a (leBytes n v)).ramNat a n = v % 256 ^ n := by
  have h := State.ramBytes_ramStore s a (leBytes n v)
  rw [length_leBytes] at h
  rw [State.ramNat, h, leNat_leBytes]

theorem SameMemory.trans {s t u : State} (h : SameMemory s t) (h' : SameMemory t u) : SameMemory s u := fun a => (h' a).trans (h a)

theorem SameMemory.ramBytes {s t : State} (h : SameMemory s t) (a n : Nat) : t.ramBytes a n = s.ramBytes a n :=
  congrArg (fun f => (List.range n).map f) (funext fun i => h (a + i))

theorem SameMemory.ramNat {s t : State} (h : SameMemory s t) (a n : Nat) : t.ramNat a n = s.ramNat a n :=
  congrArg leNat (h.ramBytes a n)

/-- A store changes the bytes stored alone. -/
theorem onlyMemory_ramStore (s : State) (a : Nat) (bs : List Byte) : OnlyMemory s (s.ramStore a bs) a bs.length :=
  fun _ h => State.ram_ramStore_apart s a bs h

/-! ### Places in the window -/

theorem ind_domain (s : State) : (s.reg A.IND_IND_ADDR).toNat / 2 ^ 28 = s.fld F.IND_IND_ADDR_DOMAIN := by
  have := (s.reg A.IND_IND_ADDR).isLt
  simp only [State.fld, bitsOf]
  omega

theorem ind_word (s : State) : (s.reg A.IND_IND_ADDR).toNat % 2 ^ 28 = s.fld F.IND_IND_ADDR_WADDR := by
  simp only [State.fld, bitsOf]
  omega

theorem indStep_congr {s t : State} (h : t.reg A.IND_IND_CTRL = s.reg A.IND_IND_CTRL) : indStep t = indStep s := by
  have hf : t.fld F.IND_IND_CTRL_INC = s.fld F.IND_IND_CTRL_INC := State.fld_congr h
  rw [indStep, indStep, hf]

theorem onlyRegs_indAdvance (s : State) : OnlyRegs s (indAdvance s) [A.IND_IND_ADDR] := onlyRegs_setFld s F.IND_IND_ADDR_WADDR _

theorem indAdvance_word (s : State) : (indAdvance s).fld F.IND_IND_ADDR_WADDR = (s.fld F.IND_IND_ADDR_WADDR + indStep s) % 2 ^ 28 :=
  State.fld_setFld_self s F.IND_IND_ADDR_WADDR _ (by decide)

theorem indAdvance_domain (s : State) : (indAdvance s).fld F.IND_IND_ADDR_DOMAIN = s.fld F.IND_IND_ADDR_DOMAIN :=
  State.fld_setFld_apart s F.IND_IND_ADDR_WADDR F.IND_IND_ADDR_DOMAIN _ (by decide) (by decide)

/-! ### A write of `IND_DATA` with BUSY 0 (R70–R73) -/

/-- DENIED is left alone by the issue of an access. -/
theorem indIssue_denied (s : State) (acc : IndAccess) :
    (indIssue s acc).flag F.IND_IND_STATUS_DENIED = s.flag F.IND_IND_STATUS_DENIED := by
  cases h : acc.inDomain with
  | true =>
    rw [indIssue_inDomain s acc h]
    exact State.flag_setFld_apart s 1 (by decide) (by decide)
  | false =>
    rw [indIssue_beyond s acc h, indError_flag_apart _ _ _ _ (by decide) (by decide) (by decide)]
    exact State.flag_setFld_apart s 1 (by decide) (by decide)

/-- The access that a write of `IND_DATA` makes. -/
def dataAccess (s : State) (src : Requester) (data : Word) : IndAccess :=
  let dom := s.fld F.IND_IND_ADDR_DOMAIN
  let w := s.fld F.IND_IND_ADDR_WADDR
  { write := true, made := indExists dom w && !(indExists dom w && indRefused s dom w data), addr := s.reg A.IND_IND_ADDR, data := data,
    fromGroup := false, src := src }

section
variable {s : State} (src : Requester) (data : Word) (hb : s.flag F.IND_IND_STATUS_BUSY = false)
include hb

theorem indDataWrite_writeMode (hm : s.flag F.IND_IND_CTRL_MODE = false) : indDataWrite s src data =
    if indExists (s.fld F.IND_IND_ADDR_DOMAIN) (s.fld F.IND_IND_ADDR_WADDR) &&
        indRefused s (s.fld F.IND_IND_ADDR_DOMAIN) (s.fld F.IND_IND_ADDR_WADDR) data then
      indError (indIssue s (dataAccess s src data)) src F.IND_IND_STATUS_DENIED 0x09 (s.reg A.IND_IND_ADDR)
    else indIssue s (dataAccess s src data) := by
  simp only [indDataWrite, hb, hm, Bool.false_eq_true, if_false, ind_domain, ind_word, dataAccess]

theorem indDataWrite_readMode (hm : s.flag F.IND_IND_CTRL_MODE = true) :
    indDataWrite s src data = indError s src F.IND_IND_STATUS_DENIED 0x09 (s.reg A.IND_IND_ADDR) := by
  simp only [indDataWrite, hb, hm, Bool.false_eq_true, if_false, if_true]

/-- In write mode the write is held, made only where the word exists and the domain does not refuse it. -/
theorem indDataWrite_holds (hm : s.flag F.IND_IND_CTRL_MODE = false) :
    let dom := s.fld F.IND_IND_ADDR_DOMAIN
    let w := s.fld F.IND_IND_ADDR_WADDR
    let t := indDataWrite s src data
    t.flag F.IND_IND_STATUS_BUSY = true ∧
      t.ind.busy.map (fun x => (x.write, x.made, x.addr, x.data)) =
        some (true, indExists dom w && !indRefused s dom w data, s.reg A.IND_IND_ADDR, data) ∧
      t.flag F.IND_IND_STATUS_RANGE = (s.flag F.IND_IND_STATUS_RANGE || !indExists dom w) ∧
      t.flag F.IND_IND_STATUS_DENIED = (s.flag F.IND_IND_STATUS_DENIED || (indExists dom w && indRefused s dom w data)) ∧
      t.reg A.IND_IND_ADDR = s.reg A.IND_IND_ADDR ∧ SameMemory s t := by
  intro dom w t
  have hbusy : (indIssue s (dataAccess s src data)).flag F.IND_IND_STATUS_BUSY = true := by
    rw [indIssue_flag _ _ rfl (by decide), State.flag_setFld_one _ rfl (by decide)]
  have hmade : (dataAccess s src data).made = (indExists dom w && !indRefused s dom w data) := by
    change (indExists dom w && !(indExists dom w && indRefused s dom w data)) = _
    cases indExists dom w <;> simp
  have hin : (dataAccess s src data).inDomain = indExists dom w := by
    rw [IndAccess.inDomain]
    change indExists ((s.reg A.IND_IND_ADDR).toNat / 2 ^ 28) ((s.reg A.IND_IND_ADDR).toNat % 2 ^ 28) = _
    rw [ind_domain, ind_word]
  have hrange := indIssue_range s (dataAccess s src data)
  have haddr := onlyRegs_indIssue s (dataAccess s src data) A.IND_IND_ADDR (by decide)
  have hdram := indIssue_dram s (dataAccess s src data)
  have hind := congrArg (fun i => i.busy.map (fun x => (x.write, x.made, x.addr, x.data))) (indIssue_ind s (dataAccess s src data))
  rw [hin] at hrange
  simp only [Option.map_some, hmade] at hind
  change _ = some (true, _, s.reg A.IND_IND_ADDR, data) at hind
  have ht : t = _ := indDataWrite_writeMode src data hb hm
  cases hr : (indExists dom w && indRefused s dom w data) with
  | false =>
    rw [if_neg (by rw [hr]; decide)] at ht
    rw [ht]
    exact ⟨hbusy, hind, hrange, by rw [indIssue_denied, Bool.or_false], haddr, sameMemory_of_dram hdram⟩
  | true =>
    rw [if_pos hr] at ht
    rw [ht]
    refine ⟨?_, ?_, ?_, ?_, ?_, ?_⟩
    · rw [indError_flag_apart _ _ _ _ (by decide) (by decide) (by decide), hbusy]
    · rw [indError_ind, hind]
    · rw [indError_flag_apart _ _ _ _ (by decide) (by decide) (by decide), hrange]
    · rw [indError_flag_self _ _ _ _ (by decide) rfl (by decide), Bool.or_true]
    · rw [onlyRegs_indError _ _ _ _ _ _ (by decide), haddr]
    · exact sameMemory_of_dram ((indError_dram ..).trans hdram)
end

/-! ### A read of `IND_DATA` with BUSY 0 (R68, R69) -/

theorem exec_indDataRead {s : State} (hs : s.inOperation = true) (src : Requester) :
    exec (.indDataRead src) s = .next (indDataRead s src) :=
  congrArg Host.Outcome.next (gateRead_inOperation hs (by decide +kernel) src _)

/-- The word that waits consumed, WADDR advanced: the state in which the next read begins. -/
def indConsumed (s : State) (src : Requester) : State :=
  indAdvance (((s.send (.readData src A.IND_IND_DATA s.ind.word)).setFld F.IND_IND_STATUS_RD_VALID 0).setInd { s.ind with last := s.ind.word })

section
variable {s : State} {src : Requester} (hj : src ≠ .jtag)
include hj

theorem indDataRead_valid (hv : s.flag F.IND_IND_STATUS_RD_VALID = true) :
    indDataRead s src = prefetch (indConsumed s src) src true := by
  simp only [indDataRead, hv, if_true, if_neg hj, Bool.not_true, Bool.false_eq_true, if_false]
  rfl

theorem indDataRead_early (hv : s.flag F.IND_IND_STATUS_RD_VALID = false) : indDataRead s src =
    indError (s.send (.readData src A.IND_IND_DATA s.ind.last)) src F.IND_IND_STATUS_EARLY 0x07 (s.reg A.IND_IND_ADDR) := by
  simp only [indDataRead, hv, Bool.false_eq_true, if_false, if_neg hj, Bool.not_false, if_true]
  rfl
end

theorem onlyRegs_indConsumed (s : State) (src : Requester) : OnlyRegs s (indConsumed s src) [A.IND_IND_STATUS, A.IND_IND_ADDR] :=
  OnlyRegs.trans (t := (s.setFld F.IND_IND_STATUS_RD_VALID 0)) (onlyRegs_setFld s _ _) (onlyRegs_indAdvance _)

theorem indConsumed_word (s : State) (src : Requester) :
    (indConsumed s src).fld F.IND_IND_ADDR_WADDR = (s.fld F.IND_IND_ADDR_WADDR + indStep s) % 2 ^ 28 := by
  have hregs := onlyRegs_setFld s F.IND_IND_STATUS_RD_VALID 0
  rw [indConsumed, indAdvance_word]
  exact congrArg (· % 2 ^ 28) (congrArg₂ (· + ·) (hregs.fld (f := F.IND_IND_ADDR_WADDR) (by decide))
    (indStep_congr (hregs A.IND_IND_CTRL (by decide))))

theorem indConsumed_domain (s : State) (src : Requester) : (indConsumed s src).fld F.IND_IND_ADDR_DOMAIN = s.fld F.IND_IND_ADDR_DOMAIN := by
  rw [indConsumed, indAdvance_domain]
  exact (onlyRegs_setFld s F.IND_IND_STATUS_RD_VALID 0).fld (by decide)

/-- What has been sent begins what has then been sent. -/
theorem out_of_prefix {α : Type} {a b : List α} {x : α} (h : a ++ [x] <+: b) : b = a ++ [x] ++ b.drop (a.length + 1) := by
  obtain ⟨c, rfl⟩ := h
  rw [List.drop_left' (by simp)]

/-- A read of a word that waits returns it and begins the next read. -/
theorem indDataRead_consumes {s : State} {src : Requester} (hj : src ≠ .jtag) (hv : s.flag F.IND_IND_STATUS_RD_VALID = true) :
    let dom := s.fld F.IND_IND_ADDR_DOMAIN
    let w := s.fld F.IND_IND_ADDR_WADDR
    let t := indDataRead s src
    t.out = s.out ++ [.readData src A.IND_IND_DATA s.ind.word] ++ t.out.drop (s.out.length + 1) ∧
      t.fld F.IND_IND_ADDR_WADDR = (w + indStep s) % 2 ^ 28 ∧ t.fld F.IND_IND_ADDR_DOMAIN = dom ∧ t.ind.last = s.ind.word ∧
      t.ind.busy.map (fun x => (x.write, x.made, x.addr)) =
        some (false, indExists dom ((w + indStep s) % 2 ^ 28), t.reg A.IND_IND_ADDR) ∧
      t.flag F.IND_IND_STATUS_RD_VALID = false ∧ t.flag F.IND_IND_STATUS_BUSY = true ∧ SameMemory s t := by
  intro dom w t
  have ht : t = prefetch (indConsumed s src) src true := indDataRead_valid hj hv
  have hkeep : Keep false (s.send (.readData src A.IND_IND_DATA s.ind.word)) (prefetch (indConsumed s src) src true) :=
    prefetch_keep ((Keep.refl _).congr rfl rfl rfl rfl rfl rfl rfl rfl rfl |> fun h => by
      unfold indConsumed
      exact indAdvance_keep (State.setInd_keep (State.setFld_keep h)))
  rw [← ht] at hkeep
  rw [prefetch] at ht
  generalize hacc : IndAccess.mk false _ _ _ _ _ = acc at ht
  have haddr : t.reg A.IND_IND_ADDR = (indConsumed s src).reg A.IND_IND_ADDR := by
    rw [ht, onlyRegs_indIssue _ _ _ (by decide)]
  have hword : t.fld F.IND_IND_ADDR_WADDR = (w + indStep s) % 2 ^ 28 := (State.fld_congr haddr).trans (indConsumed_word s src)
  have hdom : t.fld F.IND_IND_ADDR_DOMAIN = dom := (State.fld_congr haddr).trans (indConsumed_domain s src)
  have hind : t.ind = { (indConsumed s src).ind with busy := some acc } := by rw [ht, indIssue_ind]
  have hstatus : ∀ {f : Fld}, f.addr = A.IND_IND_STATUS → f.lsb + f.width ≤ 10 →
      t.flag f = ((indConsumed s src).setFld F.IND_IND_STATUS_BUSY 1).flag f := fun hf hr => by rw [ht, indIssue_flag _ _ hf hr]
  refine ⟨out_of_prefix hkeep.out, hword, hdom, by rw [hind]; rfl, ?_, ?_, ?_, ?_⟩
  · rw [hind, ← hacc]
    simp only [Option.map_some]
    rw [ind_domain, ind_word, indConsumed_domain, indConsumed_word, haddr]
  · have hcleared : (s.setFld F.IND_IND_STATUS_RD_VALID 0).flag F.IND_IND_STATUS_RD_VALID = false := State.flag_setFld_zero s (by decide)
    rw [hstatus rfl (by decide), State.flag_setFld_apart _ _ (by decide) (by decide), ← hcleared]
    exact (onlyRegs_indAdvance _).flag (by decide)
  · rw [hstatus rfl (by decide), State.flag_setFld_one _ rfl (by decide)]
  · exact sameMemory_of_dram (by rw [ht, indIssue_dram]; rfl)

/-- A read with none waiting returns the last word again, sets EARLY and consumes nothing. -/
theorem indDataRead_again {s : State} {src : Requester} (hj : src ≠ .jtag) (hb : s.flag F.IND_IND_STATUS_BUSY = false)
    (hv : s.flag F.IND_IND_STATUS_RD_VALID = false) :
    let t := indDataRead s src
    t.out = s.out ++ [.readData src A.IND_IND_DATA s.ind.last] ++ t.out.drop (s.out.length + 1) ∧ t.ind = s.ind ∧
      t.flag F.IND_IND_STATUS_EARLY = true ∧ t.flag F.IND_IND_STATUS_BUSY = false ∧ t.reg A.IND_IND_ADDR = s.reg A.IND_IND_ADDR ∧
      SameMemory s t := by
  intro t
  have ht : t = _ := indDataRead_early hj hv
  rw [ht]
  have hkeep : Keep false _ _ := indError_keep (x1 := src) (x2 := F.IND_IND_STATUS_EARLY) (x3 := 0x07) (x4 := s.reg A.IND_IND_ADDR)
    (Keep.refl (s.send (.readData src A.IND_IND_DATA s.ind.last)))
  refine ⟨out_of_prefix hkeep.out, indError_ind _ _ _ _ _, indError_flag_self _ _ _ _ (by decide) rfl (by decide), ?_,
    onlyRegs_indError _ _ _ _ _ _ (by decide), sameMemory_of_dram (indError_dram _ _ _ _ _)⟩
  rw [indError_flag_apart _ _ _ _ (by decide) (by decide) (by decide)]
  exact hb

/-! ### The end of a write (R70, R72, R73) -/

theorem touches_setAnchorBit (s : State) {n : Nat} (hn : n < 4) (k b : Nat) (v : Bool) :
    Touches [.regs] [0x10, 0x11, 0x12, 0x13] s (setAnchorBit s n k b v) :=
  (touches_setReg (A.LRF_ANCHOR_STATUS n) _).mono (by decide) (by revert n; decide)

theorem touches_clearAnchors (s : State) {n : Nat} (hn : n < 4) (c : Nat) :
    Touches [.regs] [0x10, 0x11, 0x12, 0x13] s (clearAnchors s n c) :=
  Touches.foldl (fun t k _ => (touches_setAnchorBit t hn k 4 false).trans (touches_setAnchorBit _ hn k 6 false)) s

theorem touches_setAnalog (s : State) (n w : Nat) (v : Word) : Touches [.lanes] [] s (setAnalog s n w v) := touches_parts [.lanes] rfl

theorem touches_analogWrite (s : State) {n : Nat} (hn : n < 4) (w : Nat) (data : Word) :
    Touches [.regs, .lanes] [0x10, 0x11, 0x12, 0x13] s (analogWrite s n w data) := by
  have hset : ∀ (t : State) (i : Nat) v, Touches [.regs, .lanes] [0x10, 0x11, 0x12, 0x13] t (setAnalog t n i v) := fun t i v =>
    (touches_setAnalog t n i v).mono
  unfold analogWrite
  refine Touches.ite (fun _ => Touches.ite (fun _ => (hset _ _ _).trans (hset _ _ _))
    (fun _ => ((hset _ _ _).trans (hset _ _ _)).then (touches_clearAnchors _ hn _))) (fun _ => Touches.ite (fun _ => hset _ _ _)
    (fun _ => Touches.ite (fun _ => ?_) (fun _ => Touches.refl s)))
  exact ((hset _ _ _).trans (hset _ _ _)).trans ((touches_parts [.lanes] rfl : Touches [.lanes] [] _ _).mono)

theorem touches_indCharge (s : State) : Touches [.regs, .host, .out, .log, .cox] [0x32] s (indCharge s) := touches_coxCharge (by decide) 1

/-- A write of a register domain: registers of the lanes, of AON and WUR, and analog entries; no byte of the DRAM. -/
theorem touches_indStore_regs (s : State) (src : Requester) {dom : Nat} (hd : dom < 5) (w : Nat) (data : Word) :
    Touches [.regs, .bus, .host, .out, .lanes] [0x02, 0x03, 0x10, 0x11, 0x12, 0x13] s (indStore s src dom w data) := by
  unfold indStore
  refine Touches.ite (fun hlane => (touches_analogWrite s hlane w data).mono) (fun hlane => ?_)
  have h4 : dom = 4 := by omega
  rw [if_pos h4]
  refine Touches.ite (fun _ => (touches_plainWrite src _ data allBits).mono (by decide) ?_) (fun _ => Touches.refl s)
  have hpage : ((if w < 0x20 then 0x02000 else 0x03000) + 4 * (w % 0x20)) / 0x1000 = if w < 0x20 then 0x02 else 0x03 := by
    split <;> omega
  rw [hpage]
  split <;> decide

/-- A write of a domain of the DRAM. -/
theorem indStore_dram (s : State) (src : Requester) {dom : Nat} (hd : 4 < dom) (w : Nat) (data : Word) : indStore s src dom w data =
    if dom = 8 then (indCharge s).ramStore (indBase 8 + 4 * w) (leBytes 3 data.toNat)
    else (indCharge s).ramStore (indBase dom + 4 * w) (leBytes 4 data.toNat) := by
  rw [indStore, if_neg (by omega), if_neg (by omega)]

/-- Whatever the domain, the registers of the window are left alone. -/
theorem indStore_reg (s : State) (src : Requester) (dom w : Nat) (data : Word) {a : Nat} (ha : a / 0x1000 = 0x06) :
    (indStore s src dom w data).reg a = s.reg a := by
  by_cases hd : dom < 5
  · exact (touches_indStore_regs s src hd w data).reg a (by simp [ha])
  · rw [indStore_dram s src (by omega)]
    split <;> exact (touches_indCharge s).reg a (by simp [ha])

theorem onlyMemory_of_same {s t u : State} {lo n : Nat} (h : SameMemory s t) (h' : OnlyMemory t u lo n) : OnlyMemory s u lo n :=
  fun a ha => (h' a ha).trans (h a)

theorem indStore_map (s : State) (src : Requester) (w : Nat) (data : Word) :
    (indStore s src 8 w data).ramNat (4 * w) 3 = data.toNat % 2 ^ 24 ∧ OnlyMemory s (indStore s src 8 w data) (4 * w) 3 := by
  have hstore : indStore s src 8 w data = (indCharge s).ramStore (4 * w) (leBytes 3 data.toNat) := by
    rw [indStore_dram s src (by decide), if_pos rfl, indBase, if_pos rfl, Nat.zero_add]
  rw [hstore]
  refine ⟨State.ramNat_ramStore _ _ _ _, onlyMemory_of_same ((touches_indCharge s).ram (by decide)) ?_⟩
  have h := onlyMemory_ramStore (indCharge s) (4 * w) (leBytes 3 data.toNat)
  rwa [length_leBytes] at h

theorem indStore_word (s : State) (src : Requester) {dom : Nat} (hd : 8 < dom) (w : Nat) (data : Word) :
    (indStore s src dom w data).ramNat (indBase dom + 4 * w) 4 = data.toNat ∧
      OnlyMemory s (indStore s src dom w data) (indBase dom + 4 * w) 4 := by
  rw [indStore_dram s src (by omega), if_neg (by omega)]
  refine ⟨?_, onlyMemory_of_same ((touches_indCharge s).ram (by decide)) ?_⟩
  · rw [State.ramNat_ramStore]
    exact Nat.mod_eq_of_lt data.isLt
  · have h := onlyMemory_ramStore (indCharge s) (indBase dom + 4 * w) (leBytes 4 data.toNat)
    rwa [length_leBytes] at h

/-- What an acknowledged write leaves in the window. -/
def indAcked (t : State) : State := indAdvance ((t.setFld F.IND_IND_STATUS_BUSY 0).setInd { t.ind with busy := none })

theorem indAcked_dram (t : State) : (indAcked t).dram = t.dram := rfl

theorem exec_indWriteAck {s : State} {acc : IndAccess} (hs : s.answers = true) (hb : s.ind.busy = some acc) (hw : acc.write = true) :
    exec .indWriteAck s = .next (indAcked (if acc.made then
      indStore s acc.src (acc.addr.toNat / 2 ^ 28) (acc.addr.toNat % 2 ^ 28) acc.data else s)) := by
  simp only [exec, execIndWriteAck, hb, hs, hw, Bool.and_self, if_true]
  rfl

theorem indAcked_window {s t : State} (h : ∀ a, a / 0x1000 = 0x06 → t.reg a = s.reg a) :
    (indAcked t).flag F.IND_IND_STATUS_BUSY = false ∧ (indAcked t).ind.busy = none ∧
      (indAcked t).fld F.IND_IND_ADDR_WADDR = (s.fld F.IND_IND_ADDR_WADDR + indStep s) % 2 ^ 28 := by
  have hregs := onlyRegs_setFld t F.IND_IND_STATUS_BUSY 0
  refine ⟨?_, rfl, ?_⟩
  · rw [indAcked, (onlyRegs_indAdvance _).flag (by decide)]
    exact State.flag_setFld_zero t (by decide)
  · rw [indAcked, indAdvance_word]
    exact congrArg (· % 2 ^ 28) (congrArg₂ (· + ·)
      ((hregs.fld (f := F.IND_IND_ADDR_WADDR) (by decide)).trans (State.fld_congr (h A.IND_IND_ADDR (by decide))))
      (indStep_congr ((hregs A.IND_IND_CTRL (by decide)).trans (h A.IND_IND_CTRL (by decide)))))

/-- An acknowledged write: the window goes on, and the DRAM holds the word where the write was made in a domain of it. -/
theorem indWriteAck_ends {s : State} {acc : IndAccess} {dom w : Nat} (hs : s.answers = true) (hb : s.ind.busy = some acc)
    (hdom : dom = acc.addr.toNat / 2 ^ 28) (hw : w = acc.addr.toNat % 2 ^ 28) (hwr : acc.write = true) :
    ∃ t, exec .indWriteAck s = .next t ∧ t.flag F.IND_IND_STATUS_BUSY = false ∧ t.ind.busy = none ∧
      t.fld F.IND_IND_ADDR_WADDR = (s.fld F.IND_IND_ADDR_WADDR + indStep s) % 2 ^ 28 ∧
      (acc.made = false ∨ dom < 5 → SameMemory s t) ∧
      (acc.made = true → dom = 8 → t.ramNat (4 * w) 3 = acc.data.toNat % 2 ^ 24 ∧ OnlyMemory s t (4 * w) 3) ∧
      (acc.made = true → 8 < dom → t.ramNat (indBase dom + 4 * w) 4 = acc.data.toNat ∧ OnlyMemory s t (indBase dom + 4 * w) 4) := by
  rw [exec_indWriteAck hs hb hwr, ← hdom, ← hw]
  have hregs : ∀ a, a / 0x1000 = 0x06 → (if acc.made then indStore s acc.src dom w acc.data else s).reg a = s.reg a := by
    intro a ha
    split
    · exact indStore_reg s acc.src dom w acc.data ha
    · rfl
  obtain ⟨hbusy, hnone, hadv⟩ := indAcked_window hregs
  refine ⟨_, rfl, hbusy, hnone, hadv, ?_, ?_, ?_⟩
  · intro h
    refine SameMemory.trans (t := if acc.made then indStore s acc.src dom w acc.data else s) ?_ (fun _ => rfl)
    cases hm : acc.made with
    | false => exact fun _ => rfl
    | true => exact (touches_indStore_regs s acc.src (h.resolve_left (by simp [hm])) w acc.data).ram (by decide)
  · intro hm hd
    subst hd
    rw [if_pos hm]
    exact indStore_map s acc.src w acc.data
  · intro hm hd
    rw [if_pos hm]
    exact indStore_word s acc.src hd w acc.data

/-! ### The end of a read (R68, R72, R74, R77) -/

theorem exec_indPrefetchDone {s : State} {acc : IndAccess} (hs : s.answers = true) (hb : s.ind.busy = some acc) (hw : acc.write = false)
    (found : CodewordRead) (desc : Option (Fin 4096)) :
    exec (.indPrefetchDone found desc) s = .next (indPrefetched s acc found (desc.map (fun q => q.val))) := by
  simp only [exec, execIndPrefetchDone, hb, hs, hw, Bool.not_false, Bool.and_self, if_true]

/-- What arrives ends the access. -/
def IndEnded (t : State) : Prop :=
  t.flag F.IND_IND_STATUS_BUSY = false ∧ t.flag F.IND_IND_STATUS_RD_VALID = true ∧ t.ind.busy = none

theorem indArrive_ended (s : State) (w : Word) : IndEnded (indArrive s w) := by
  refine ⟨?_, ?_, rfl⟩
  · rw [indArrive, State.flag, State.setInd_fld, ← State.flag, State.flag_setFld_apart _ _ (by decide) (by decide), State.flag_setFld_zero _ (by decide)]
  · exact State.flag_setFld_one (s.setFld F.IND_IND_STATUS_BUSY 0) rfl (by decide)

theorem indError_ended {t : State} (h : IndEnded t) (src : Requester) (code : Nat) (addr : Word) :
    IndEnded (indError t src F.IND_IND_STATUS_UE code addr) := by
  obtain ⟨hb, hv, hn⟩ := h
  refine ⟨?_, ?_, ?_⟩
  · rw [indError_flag_apart _ _ _ _ (by decide) (by decide) (by decide), hb]
  · rw [indError_flag_apart _ _ _ _ (by decide) (by decide) (by decide), hv]
  · rw [indError_ind, hn]

section
variable {s : State} {acc : IndAccess} (found : CodewordRead) (desc : Option Nat)

theorem indPrefetched_notMade (hm : acc.made = false) : indPrefetched s acc found desc = indArrive s 0#32 := by
  simp only [indPrefetched, hm, Bool.not_false, if_true]

theorem indPrefetched_regs (hm : acc.made = true) (hd : acc.addr.toNat / 2 ^ 28 < 8) : indPrefetched s acc found desc =
    indArrive s (indWord s (acc.addr.toNat / 2 ^ 28) (acc.addr.toNat % 2 ^ 28)) := by
  simp only [indPrefetched, hm, Bool.not_true, Bool.false_eq_true, if_false, if_pos hd]

/-- A group read from the DRAM arrives, and is reported where it could not be corrected. -/
def groupArrived (acc : IndAccess) (r : List Word × Bool × State) : State :=
  let t := indArrive (r.2.2.setInd { r.2.2.ind with group := some (acc.addr.toNat / 4, r.1) })
    ((r.1.drop (acc.addr.toNat % 2 ^ 28 % 4)).headD 0#32)
  if r.2.1 then indError t acc.src F.IND_IND_STATUS_UE 0x0A acc.addr else t

theorem indPrefetched_group (hm : acc.made = true) (hd : 8 ≤ acc.addr.toNat / 2 ^ 28) (hg : acc.fromGroup = false) :
    indPrefetched s acc found desc =
      groupArrived acc (indRead (indCharge s) (acc.addr.toNat / 2 ^ 28) (acc.addr.toNat % 2 ^ 28) found desc) := by
  simp only [indPrefetched, hm, Bool.not_true, Bool.false_eq_true, if_false, if_neg (Nat.not_lt.mpr hd), hg]
  rfl

theorem indPrefetched_ended : IndEnded (indPrefetched s acc found desc) := by
  unfold indPrefetched
  simp only
  split
  · exact indArrive_ended _ _
  · split
    · exact indArrive_ended _ _
    · split
      · exact indArrive_ended _ _
      · split
        · exact indError_ended (indArrive_ended _ _) _ _ _
        · exact indArrive_ended _ _
end

/-- A clean codeword of an initialised DRAM shows its group. -/
theorem indRead_clean {s : State} {dom w : Nat} (hr : s.boot.dramReady = true) (hl : indLostRecord s dom w = false) (desc : Option Nat) :
    indRead s dom w .clean desc = (indGroup s dom w, false, s) := by
  simp only [indRead, hr, Bool.not_true, Bool.false_eq_true, if_false, hl]
  rfl

theorem indRead_ue {s : State} (dom w syn : Nat) (hr : s.boot.dramReady = true) (desc : Option Nat) :
    (indRead s dom w (.ue syn) desc).2.1 = true := by
  simp only [indRead, hr, Bool.not_true, Bool.false_eq_true, if_false]

theorem indGroup_congr {s t : State} (h : SameMemory s t) (dom w : Nat) : indGroup t dom w = indGroup s dom w := by
  have hram : t.ram = s.ram := funext h
  have hused : ∀ p, pInUse t p = pInUse s p := fun p => by simp only [pInUse, pBits, hram]
  simp only [indGroup, hused, h.ramNat]

/-- A prefetch that ends. -/
theorem indPrefetchDone_ends {s : State} {acc : IndAccess} {dom w : Nat} (hs : s.answers = true) (hb : s.ind.busy = some acc)
    (hdom : dom = acc.addr.toNat / 2 ^ 28) (hw : w = acc.addr.toNat % 2 ^ 28) (hrd : acc.write = false) (found : CodewordRead)
    (desc : Option (Fin 4096)) : ∃ t, exec (.indPrefetchDone found desc) s = .next t ∧ t.flag F.IND_IND_STATUS_BUSY = false ∧
      t.flag F.IND_IND_STATUS_RD_VALID = true ∧ t.ind.busy = none ∧
      (acc.made = false → t.ind.word = 0#32 ∧ SameMemory s t) ∧
      (acc.made = true → dom < 8 → t.ind.word = indWord s dom w ∧ SameMemory s t) ∧
      (acc.made = true → 8 ≤ dom → acc.fromGroup = false → s.boot.dramReady = true → found = .clean → indLostRecord s dom w = false →
        t.ind.word = ((indGroup s dom w).drop (w % 4)).headD 0#32 ∧ t.ind.group = some (acc.addr.toNat / 4, indGroup s dom w) ∧
          SameMemory s t) ∧
      (∀ syn, acc.made = true → 8 ≤ dom → acc.fromGroup = false → s.boot.dramReady = true → found = .ue syn →
        t.flag F.IND_IND_STATUS_UE = true ∧ causeSet t 0x06 31 = true) := by
  obtain ⟨hbusy, hvalid, hnone⟩ := indPrefetched_ended (s := s) (acc := acc) found (desc.map (fun q => q.val))
  have hcharge := touches_indCharge s
  have hready : (indCharge s).boot.dramReady = s.boot.dramReady := congrArg Boot.dramReady (hcharge.part .boot (by decide))
  have hmem : (indCharge s).mem = s.mem := hcharge.part .mem (by decide)
  have hsame : SameMemory s (indCharge s) := hcharge.ram (by decide)
  refine ⟨_, exec_indPrefetchDone hs hb hrd found desc, hbusy, hvalid, hnone, ?_, ?_, ?_, ?_⟩
  · intro hm
    rw [indPrefetched_notMade _ _ hm]
    exact ⟨rfl, fun _ => rfl⟩
  · intro hm hd
    subst hdom hw
    rw [indPrefetched_regs _ _ hm hd]
    exact ⟨rfl, fun _ => rfl⟩
  · intro hm hd hg hr hf hl
    subst hdom hw hf
    rw [indPrefetched_group _ _ hm hd hg, indRead_clean (hready.trans hr) (by rw [indLostRecord, hmem]; exact hl), indGroup_congr hsame]
    exact ⟨rfl, rfl, hsame.trans (fun _ => rfl)⟩
  · intro syn hm hd hg hr hf
    subst hdom hf
    rw [indPrefetched_group _ _ hm hd hg, groupArrived, if_pos (indRead_ue _ _ _ (hready.trans hr) _)]
    exact ⟨indError_flag_self _ _ _ _ (by decide) rfl (by decide), causeSet_indError _ _ _ _ _⟩

/-- Settles O18: the writes and reads of `IND_DATA` with BUSY 0, and the end of the access in progress. -/
theorem indirectReadsAndWritesComplete : Obligations.IndirectReadsAndWritesComplete := by
  refine ⟨fun s src data dom w hs hb hdom hw => ?_, fun s acc dom w hs hb hdom hw => ?_⟩
  · subst hdom hw
    refine ⟨fun hm => ⟨_, exec_indDataWrite hs src data, indDataWrite_holds src data hb hm⟩, fun hm => ?_,
      fun hj hv => ⟨_, exec_indDataRead hs src, indDataRead_consumes hj hv⟩,
      fun hj hv => ⟨_, exec_indDataRead hs src, indDataRead_again hj hb hv⟩⟩
    refine ⟨_, exec_indDataWrite hs src data, ?_⟩
    rw [indDataWrite_readMode src data hb hm]
    refine ⟨indError_ind _ _ _ _ _, ?_, ?_, onlyRegs_indError _ _ _ _ _ _ (by decide),
      indError_flag_self _ _ _ _ (by decide) rfl (by decide), sameMemory_of_dram (indError_dram _ _ _ _ _)⟩
    · rw [indError_flag_apart _ _ _ _ (by decide) (by decide) (by decide), hb]
    · exact indError_flag_apart _ _ _ _ (by decide) (by decide) (by decide)
  · exact ⟨indWriteAck_ends hs hb hdom hw, fun hrd found desc => indPrefetchDone_ends hs hb hdom hw hrd found desc⟩

end Sys2Proof.Machine
end

section
/-!
PROOFS. The staging buffer (05_startup_and_selet.md, Writing a SELET image; The SELET key hash): the statements O25 and O26.
-/
namespace Sys2Proof.Machine

-- One proof after another: side by side, the threads of so long a text want more memory than the check grants.
set_option Elab.async false

/-! ### Accesses of a register whose command is its write -/

section
variable {s : State} (hs : s.inOperation = true) (src : Requester) (data : Word)
include hs

theorem exec_stageTargetWrite : exec (.stageTargetWrite src data) s = .next (stageCtrlWrite s src data allBits) :=
  congrArg Host.Outcome.next (gateWrite_inOperation hs (by decide +kernel) src _)

theorem exec_stageClear : exec (.stageClear src) s = .next (stageCtrlWrite s src 0x100#32 0x100#32) :=
  congrArg Host.Outcome.next (gateWrite_inOperation hs (by decide +kernel) src _)

theorem exec_stageDataWrite : exec (.stageDataWrite src data) s = .next (stageDataWrite s src data) :=
  congrArg Host.Outcome.next (gateWrite_inOperation hs (by decide +kernel) src _)
end

/-! ### The buffer (R176) -/

section
variable (s : State)

theorem stageEmpty_count : (stageEmpty s).reg A.NVC_STAGE_COUNT = 0#32 := State.reg_setReg_self s A.NVC_STAGE_COUNT 0#32

theorem onlyRegs_stageEmpty : OnlyRegs s (stageEmpty s) [A.NVC_STAGE_COUNT] := onlyRegs_setReg s A.NVC_STAGE_COUNT 0#32

variable (src : Requester) (data : Word)

/-- With no operation running and LOCK1 0, a full write of an open target selects it and empties the buffer; CLEAR, which empties it as
well, changes nothing more. -/
theorem stageCtrlWrite_selects (hgo : s.flag F.NVC_STAGE_GO_GO = false) (ht : data.toNat % 4 = 0 ∨ data.toNat % 4 = 2)
    (hl : s.flag F.NVC_LOCK_LOCK1 = false) : stageCtrlWrite s src data allBits =
      stageEmpty ((if bit data.toNat 8 then stageEmpty s else s).setFld F.NVC_STAGE_CTRL_TARGET (data.toNat % 4)) := by
  have hmask : bit allBits.toNat 8 = true := by decide
  have hnamed : (bitsOf allBits.toNat 0 2 != 0) = true := by decide
  have htarget : bitsOf data.toNat 0 2 = data.toNat % 4 := by simp [bitsOf]
  have hopen : (data.toNat % 4 == 3 || (data.toNat % 4 == 1 && !s.flag F.NVC_STATUS_FW_WAIT)) = false := by
    rcases ht with h | h <;> simp [h]
  simp only [stageCtrlWrite, hgo, merged_allBits, htarget, hnamed, hl, hopen, hmask, Bool.and_true, Bool.not_true, Bool.false_eq_true,
    if_false]

theorem stageCtrlWrite_clears (hgo : s.flag F.NVC_STAGE_GO_GO = false) :
    stageCtrlWrite s src 0x100#32 0x100#32 = stageEmpty s := by
  have hclear : (bit (0x100#32 : Word).toNat 8 && bit (0x100#32 : Word).toNat 8) = true := by decide
  have hnamed : (!(bitsOf (0x100#32 : Word).toNat 0 2 != 0)) = true := by decide
  simp only [stageCtrlWrite, hgo, hclear, hnamed, Bool.false_eq_true, if_false, if_true]

theorem stageSelected_frame (clear : Bool) (target : Nat) :
    let t := stageEmpty ((if clear then stageEmpty s else s).setFld F.NVC_STAGE_CTRL_TARGET target)
    t.stage = { s.stage with words := [] } ∧ OnlyRegs s t [A.NVC_STAGE_CTRL, A.NVC_STAGE_COUNT] ∧
      t = { s with regs := t.regs, stage := t.stage } := by
  have hset := onlyRegs_setFld s F.NVC_STAGE_CTRL_TARGET target
  cases clear with
  | true =>
    exact ⟨rfl, (((onlyRegs_stageEmpty s).trans (onlyRegs_setFld (stageEmpty s) F.NVC_STAGE_CTRL_TARGET target)).trans
      (onlyRegs_stageEmpty _)).mono (by decide), rfl⟩
  | false => exact ⟨rfl, (hset.trans (onlyRegs_stageEmpty _)).mono (by decide), rfl⟩

/-- While an operation runs, every write of the buffer is discarded as an error. -/
theorem stage_busy (hs : s.inOperation = true) (hgo : s.flag F.NVC_STAGE_GO_GO = true) {c : Instr}
    (hc : c ∈ [Instr.stageTargetWrite src data, .stageClear src, .stageDataWrite src data]) :
    ∃ a, exec c s = .next (stageBusy s src a) := by
  simp only [List.mem_cons, List.not_mem_nil, or_false] at hc
  obtain rfl | rfl | rfl := hc
  · exact ⟨_, by rw [exec_stageTargetWrite hs, stageCtrlWrite, if_pos hgo]⟩
  · exact ⟨_, by rw [exec_stageClear hs, stageCtrlWrite, if_pos hgo]⟩
  · exact ⟨_, by rw [exec_stageDataWrite hs, stageDataWrite, if_pos hgo]⟩
end

/-! ### GO (R176, R179, R181) -/

/-- The state in which a staged operation begins: GO set, the former result no longer valid. -/
def stageStarted (s : State) : State :=
  (s.setReg A.NVC_STAGE_GO (s.reg A.NVC_STAGE_GO ||| BitVec.ofNat 32 (2 ^ 0))).setFld F.NVC_STAGE_RESULT_VALID 0

theorem onlyRegs_stageStarted (s : State) : OnlyRegs s (stageStarted s) [A.NVC_STAGE_GO, A.NVC_STAGE_RESULT] :=
  (onlyRegs_setReg s _ _).trans (onlyRegs_setFld _ F.NVC_STAGE_RESULT_VALID 0)

/-- What is checked of a staged operation does not read GO or the result. -/
theorem stageReason_started (s : State) (n : Nat) (b : Option BundleFacts) : stageReason (stageStarted s) n b = stageReason s n b := by
  have hregs := onlyRegs_stageStarted s
  have hdev : (stageStarted s).devState = s.devState := hregs.fld (by decide)
  have hstage : (stageStarted s).stage = s.stage := rfl
  have hnv : (stageStarted s).nv = s.nv := rfl
  simp only [stageReason, hregs.flag (f := F.NVC_LOCK_LOCK1) (by decide), hregs.flag (f := F.NVC_STAGE_COUNT_OVERFLOW) (by decide),
    hregs.flag (f := F.NVC_STATUS_FW_WAIT) (by decide), hdev, hstage, hnv]

section
variable {s : State} (src : Requester) {n : Nat} (b : Option BundleFacts) (hgo : s.flag F.NVC_STAGE_GO_GO = false)
  (hn : s.fld F.NVC_STAGE_CTRL_TARGET = n)
include hgo hn

/-- With no operation running GO begins the one of TARGET. -/
theorem stageGo_begins : stageGo s src b =
    beginStage (stageStarted s) src.code (if n = 0 then targetCopy s else 0) b := by
  have hclear : bit (s.reg A.NVC_STAGE_GO).toNat 0 = false := hgo
  have htarget : (stageStarted s).fld F.NVC_STAGE_CTRL_TARGET = n := ((onlyRegs_stageStarted s).fld (by decide)).trans hn
  have hstart : (startGo s A.NVC_STAGE_GO 0).setFld F.NVC_STAGE_RESULT_VALID 0 = stageStarted s := by
    rw [startGo, hclear, Bool.false_and, if_neg (by decide)]
    rfl
  simp only [stageGo, hgo, hstart, htarget, Bool.false_eq_true, if_false]
  rfl

theorem stageGo_spec {copy : Nat} (hcopy : copy = if n = 0 then targetCopy s else 0) :
    let t := stageGo s src b
    t.flag F.NVC_STAGE_GO_GO = true ∧ t.flag F.NVC_STAGE_RESULT_VALID = false ∧
      t.stage.op = some { target := n, reason := stageReason s n b, copy := copy, words := s.stage.words, bundle := b, src := src.code } ∧
      t.stage.words = s.stage.words ∧ t.nv.keyHash = s.nv.keyHash ∧ OnlyRegs s t [A.NVC_STAGE_GO, A.NVC_STAGE_RESULT] := by
  have htarget : (stageStarted s).fld F.NVC_STAGE_CTRL_TARGET = n := ((onlyRegs_stageStarted s).fld (by decide)).trans hn
  have hset : (stageStarted s).flag F.NVC_STAGE_GO_GO = true := by
    rw [stageStarted, State.flag_setFld_apart _ _ (by decide) (by decide), State.flag, State.fld, State.reg_setReg_self, ← bit_eq_bitsOf,
      bit_or]
    exact Bool.or_true _
  have hvalid : (stageStarted s).flag F.NVC_STAGE_RESULT_VALID = false := State.flag_setFld_zero _ (by decide)
  intro t
  have ht : t = _ := stageGo_begins src b hgo hn
  rw [beginStage, htarget, stageReason_started, ← hcopy] at ht
  rw [ht]
  by_cases hw : (decide (n = 0) && decide (stageReason s n b = 0)) = true
  · rw [if_pos hw]
    refine ⟨hset, hvalid, rfl, rfl, ?_, onlyRegs_stageStarted s⟩
    rw [setCopy]
    split <;> rfl
  · rw [if_neg hw]
    exact ⟨hset, hvalid, rfl, rfl, rfl, onlyRegs_stageStarted s⟩
end

/-- Each of the three commands that write GO is the write of GO with its TARGET selected. -/
theorem exec_stageGo {s : State} (hs : s.inOperation = true) (src : Requester) {c : Instr} {n copy : Nat} {b : Option BundleFacts}
    (hc : (c = .seletImageWrite src ∧ n = 0 ∧ copy = targetCopy s ∧ b = none) ∨ (c = .keyHashProgram src ∧ n = 2 ∧ copy = 0 ∧ b = none) ∨
      (∃ f, c = .hostBundleStage src f ∧ n = 1 ∧ copy = 0 ∧ b = some f))
    (hn : s.fld F.NVC_STAGE_CTRL_TARGET = n) :
    exec c s = .next (stageGo s src b) ∧ copy = if n = 0 then targetCopy s else 0 := by
  have himp : implemented A.NVC_STAGE_GO = true := by decide +kernel
  obtain ⟨rfl, rfl, rfl, rfl⟩ | ⟨rfl, rfl, rfl, rfl⟩ | ⟨f, rfl, rfl, rfl, rfl⟩ := hc
  · exact ⟨by rw [exec, execSeletImageWrite, gateWrite_inOperation hs himp, if_pos hn], rfl⟩
  · exact ⟨by rw [exec, execKeyHashProgram, gateWrite_inOperation hs himp, if_pos hn], rfl⟩
  · exact ⟨by rw [exec, execHostBundleStage, gateWrite_inOperation hs himp, if_pos hn], rfl⟩

/-- Settles O25: the buffer is open while GO is 0 and closed while it is 1. -/
theorem stagingBufferTakesWordsAndRunsOneOperation : Obligations.StagingBufferTakesWordsAndRunsOneOperation := by
  intro s src data hs
  refine ⟨fun hgo => ⟨fun ht hl => ?_, ?_, fun hroom => ?_, fun hfull => ?_, fun c n copy b hc hn => ?_⟩, fun hgo c hc => ?_⟩
  · obtain ⟨hstage, hregs, hframe⟩ := stageSelected_frame s (bit data.toNat 8) (data.toNat % 4)
    refine ⟨_, exec_stageTargetWrite hs src data, ?_⟩
    rw [stageCtrlWrite_selects s src data hgo ht hl]
    refine ⟨?_, hstage, stageEmpty_count _, hregs, hframe⟩
    rw [(onlyRegs_stageEmpty _).fld (by decide), State.fld_setFld_self _ _ _ (by decide)]
    exact Nat.mod_mod _ 4
  · refine ⟨_, exec_stageClear hs src, ?_⟩
    rw [stageCtrlWrite_clears s src hgo]
    exact ⟨rfl, stageEmpty_count s, onlyRegs_stageEmpty s, rfl⟩
  · refine ⟨_, exec_stageDataWrite hs src data, ?_⟩
    rw [stageDataWrite, if_neg (by simp [hgo]), if_neg (Nat.not_le.mpr hroom)]
    refine ⟨rfl, ?_, onlyRegs_setFld s F.NVC_STAGE_COUNT_WORDS _, rfl⟩
    have hcap : stageCapacity (s.fld F.NVC_STAGE_CTRL_TARGET) ≤ 1048576 := by
      unfold stageCapacity
      split_ifs <;> decide
    refine (State.fld_setFld_self s F.NVC_STAGE_COUNT_WORDS _ (by decide)).trans (Nat.mod_eq_of_lt ?_)
    exact Nat.lt_of_le_of_lt (Nat.succ_le_of_lt (Nat.lt_of_lt_of_le hroom hcap)) (by decide)
  · refine ⟨_, exec_stageDataWrite hs src data, ?_⟩
    rw [stageDataWrite, if_neg (by simp [hgo]), if_pos hfull]
    exact ⟨State.flag_setFld_one s rfl (by decide), onlyRegs_setFld s F.NVC_STAGE_COUNT_OVERFLOW 1, rfl⟩
  · obtain ⟨hexec, hcopy⟩ := exec_stageGo hs src hc hn
    exact ⟨_, hexec, stageGo_spec src b hgo hn hcopy⟩
  · obtain ⟨a, ha⟩ := stage_busy s src data hs hgo hc
    exact ⟨_, ha, recordErr_stage _ _ _ _ _, causeSet_recordErr _ _ _ _ _, onlyRegs_recordErr _ _ _ _ _⟩

/-! ### The end of a staged operation (R176, R177, R181) -/

/-- A cause set stays set when another is set, or an error is recorded. -/
theorem causeSet_setCause (s : State) (page b c : Nat) (hc : c < 32) : causeSet (setCause s page b) page c = (causeSet s page c || c == b) := by
  rw [causeSet, setCause_self, bit_or, ← causeSet, bit_eq_testBit, BitVec.toNat_ofNat, Nat.testBit_mod_two_pow, Nat.testBit_two_pow, decide_eq_true hc, Bool.true_and,
    beq_eq_decide]
  simp only [eq_comm]

theorem causeSet_recordErr_of (s : State) (page code src addr : Nat) {c : Nat} (hc : c < 32) (h : causeSet s page c = true) :
    causeSet (recordErr s page code src addr) page c = true := by
  simp only [recordErr]
  rw [causeSet_setCause _ _ _ _ hc]
  split
  all_goals
    simp only [causeSet] at h ⊢
    simp only [State.reg_setReg_ne _ _ (show page * 0x1000 + 0x010 ≠ page * 0x1000 + 0x01C by omega),
      State.reg_setReg_ne _ _ (show page * 0x1000 + 0x010 ≠ page * 0x1000 + 0x020 by omega), h, Bool.true_or]

/-- The reason with which an operation ends. -/
def stageEnd (op : StageOp) (writeOk : Bool) : Nat := if op.reason ≠ 0 then op.reason else if writeOk then 0 else 0xB

/-- What a finished operation has done to the non-volatile stores. -/
def stageNv (s : State) (op : StageOp) (writeOk : Bool) : NonVol :=
  if op.reason ≠ 0 then s.nv
  else if op.target = 0 then (if writeOk then (setCopy s op.copy (stagedBytes op.words)).nv else s.nv)
  else { s.nv with keyHash := if s.nv.keyHash = .blank then (if writeOk then .programmed (stagedBytes op.words) else .unusable)
                              else s.nv.keyHash }

section
variable {s : State} {op : StageOp} (writeOk : Bool)

theorem stageEffect_eq (ht : op.target = 0 ∨ op.target = 2) (hr : op.reason = 0) :
    stageEffect s op writeOk = ({ s with nv := stageNv s op writeOk }, stageEnd op writeOk) := by
  rcases ht with h | h
  · cases writeOk <;> simp [stageEffect, stageNv, stageEnd, h, hr, setCopy]
  · cases writeOk <;> simp [stageEffect, stageNv, stageEnd, h, hr]

/-- An operation that writes a copy or the hash, with no start kept pending: its effect is reported, and GO clears. -/
theorem stageDone_eq (ht : op.target = 0 ∨ op.target = 2) (hp : s.bus.goPending.contains (A.NVC_STAGE_GO * 32) = false) :
    let u := stageReport { s with nv := stageNv s op writeOk, stage := { s.stage with op := none } } op (stageEnd op writeOk)
    stageDone s op writeOk = u.setReg A.NVC_STAGE_GO (u.reg A.NVC_STAGE_GO &&& ~~~(BitVec.ofNat 32 (2 ^ 0))) := by
  intro u
  have h1 : ¬ op.target = 1 := by omega
  have hbus : u.bus = s.bus := by
    simp only [u, stageReport, if_neg h1]
    split <;> simp
  have hend : (endGo u A.NVC_STAGE_GO 0) = (u.setReg A.NVC_STAGE_GO (u.reg A.NVC_STAGE_GO &&& ~~~(BitVec.ofNat 32 (2 ^ 0))), false) := by
    rw [endGo, hbus, Nat.add_zero, hp, if_neg (by decide)]
  have heffect : (if op.reason = 0 then stageEffect s op writeOk else (s, op.reason)) =
      ({ s with nv := stageNv s op writeOk }, stageEnd op writeOk) := by
    by_cases hr : op.reason = 0
    · rw [if_pos hr, stageEffect_eq writeOk ht hr]
    · rw [if_neg hr]
      simp [stageNv, stageEnd, hr]
  simp only [stageDone, h1, decide_false, Bool.false_and, Bool.false_eq_true, if_false, heffect]
  change (let p := endGo u A.NVC_STAGE_GO 0; if p.2 then beginStage p.1 op.src op.copy op.bundle else p.1) = _
  rw [hend]
  rfl

/-- What the report of an end leaves: the result, the event, the cause. -/
theorem stageReport_spec (s : State) (op : StageOp) {reason : Nat} (ht : op.target ≠ 1) :
    let t := stageReport s op reason
    t.reg A.NVC_STAGE_RESULT = BitVec.ofNat 32 (2 ^ 31 + 256 * reason + op.copy) ∧ lastEvent t 0x01 0x0504 ∧
      causeSet t 0x01 (if reason = 0 then 0 else 1) = true ∧ t.stage = s.stage ∧ t.nv = s.nv ∧ t.dram = s.dram ∧
      OnlyRegs s t [A.NVC_STAGE_RESULT, 0x01010, 0x0101C, 0x01020] := by
  intro t
  simp only [t, stageReport, if_neg ht]
  generalize he : s.event 0x01 0 0x0504 _ _ = e
  have hevent : lastEvent e 0x01 0x0504 := by
    rw [← he]
    simp [lastEvent, State.event]
  have hparts : e.stage = s.stage ∧ e.nv = s.nv ∧ e.dram = s.dram ∧ e.regs = s.regs := by
    rw [← he]
    exact ⟨rfl, rfl, rfl, rfl⟩
  obtain ⟨hstage, hnv, hdram, hregs⟩ := hparts
  have hbit : (if reason = 0 then 0 else 1) < 32 := by split <;> decide
  have hset : causeSet (setCause (e.setReg A.NVC_STAGE_RESULT (BitVec.ofNat 32 (2 ^ 31 + 256 * reason + op.copy))) 0x01
      (if reason = 0 then 0 else 1)) 0x01 (if reason = 0 then 0 else 1) = true := by
    rw [causeSet_setCause _ _ _ _ hbit, beq_self_eq_true, Bool.or_true]
  have honly : OnlyRegs s (setCause (e.setReg A.NVC_STAGE_RESULT (BitVec.ofNat 32 (2 ^ 31 + 256 * reason + op.copy))) 0x01
      (if reason = 0 then 0 else 1)) [A.NVC_STAGE_RESULT, 0x01010] := by
    intro a ha
    simp only [List.mem_cons, List.not_mem_nil, or_false, not_or] at ha
    rw [setCause_reg_ne _ _ _ ha.2, State.reg_setReg_ne _ _ ha.1, State.reg_congr hregs]
  split
  · refine ⟨?_, ?_, causeSet_recordErr_of _ _ _ _ _ hbit hset, ?_, ?_, ?_, ?_⟩
    · rw [onlyRegs_recordErr _ _ _ _ _ _ (by decide), setCause_reg_ne _ _ _ (by decide), State.reg_setReg_self]
    · rw [lastEvent, recordErr_log, setCause_log]
      exact hevent
    · rw [recordErr_stage, setCause_stage]
      exact hstage
    · rw [recordErr_nv, setCause_nv]
      exact hnv
    · rw [recordErr_dram, setCause_dram]
      exact hdram
    · exact (honly.trans (onlyRegs_recordErr _ _ _ _ _)).mono (by decide)
  · refine ⟨?_, ?_, hset, ?_, ?_, ?_, honly.mono (by decide)⟩
    · rw [setCause_reg_ne _ _ _ (by decide), State.reg_setReg_self]
    · rw [lastEvent, setCause_log]
      exact hevent
    · rw [setCause_stage]
      exact hstage
    · rw [setCause_nv]
      exact hnv
    · rw [setCause_dram]
      exact hdram
end

/-- Settles O26: the effect on the stores, its report, and GO cleared. -/
theorem stagedOperationEndsWithItsReason : Obligations.StagedOperationEndsWithItsReason := by
  intro s op writeOk hs hop ht hp
  have hexec : exec (.stageOpDone writeOk) s = .next (stageDone s op writeOk) := by
    simp only [exec, execStageOpDone, hop, hs, if_true]
  have h1 : op.target ≠ 1 := by omega
  have hrep := stageReport_spec { s with nv := stageNv s op writeOk, stage := { s.stage with op := none } } op
    (reason := stageEnd op writeOk) h1
  have hdone := stageDone_eq writeOk ht hp
  simp only at hrep hdone
  generalize stageReport _ op (stageEnd op writeOk) = u at hrep hdone
  obtain ⟨hresult, hevent, hcause, hstage, hnv, hdram, hregs⟩ := hrep
  have hgo := onlyRegs_setReg u A.NVC_STAGE_GO (u.reg A.NVC_STAGE_GO &&& ~~~(BitVec.ofNat 32 (2 ^ 0)))
  refine ⟨_, hexec, ?_⟩
  rw [hdone]
  refine ⟨hstage, ?_, ?_, hevent, ?_, fun hr => ?_, fun hr h0 => ?_, fun hr h2 hok => ?_, ?_, sameMemory_of_dram hdram⟩
  · rw [State.flag, State.fld, State.reg_setReg_self, ← bit_eq_bitsOf, bit_and]
    exact Bool.and_false _
  · rw [hgo _ (by decide), hresult]
    rfl
  · have hend : (if stageEnd op writeOk = 0 then 0 else 1) = if op.reason = 0 ∧ writeOk = true then 0 else 1 := by
      by_cases hr : op.reason = 0 <;> cases writeOk <;> simp [stageEnd, hr]
    rw [← hend, causeSet, hgo _ (by decide)]
    exact hcause
  · exact hnv.trans (if_pos hr)
  · rw [State.setReg_nv, hnv]
    simp [stageNv, hr, h0]
  · rw [State.setReg_nv, hnv]
    simp [stageNv, hr, h2, hok]
  · exact (OnlyRegs.trans (s := s) hregs hgo).mono (by decide)

end Sys2Proof.Machine
end

section
/-!
PROOFS. The event store (03_host_interface.md, Event log and event ring) and the DRAM at BOOT (05_startup_and_selet.md, The boot sequence):
the statement O23, and what recording events touches.
-/
namespace Sys2Proof.Machine

-- One proof after another: side by side, the threads of so long a text want more memory than the check grants.
set_option Elab.async false

/-! ### Recording an event (R114–R119) -/

section
variable {x : State}

theorem touches_evrPut (sev : Nat) (bytes : Bool → List Byte) : Touches [.regs, .out, .log] [0x05] x (evrPut x sev bytes) := by
  have hsent : Touches [.regs, .out, .log] [0x05] x
      (x.send (.dmaWrite (x.wide A.CMD_EVR_BASE + 32 * x.fld F.CMD_EVR_TAIL_TAIL) (bytes x.log.evrPhase))) := (touches_send (gs := []) _).mono
  exact (hsent.then (touches_setFld F.CMD_EVR_TAIL_TAIL _)).then (touches_parts (gs := []) [.log] rfl)

theorem touches_evrCopy (e : Event) (logSeq srcSeq : Nat) :
    Touches [.regs, .host, .out, .log] [0x05] x (evrCopy x e logSeq srcSeq) := by
  unfold evrCopy
  refine Touches.ite (fun _ => Touches.refl x) (fun _ => Touches.ite (fun _ => ?_) (fun _ => ?_))
  · exact (touches_parts (gs := []) [.log] rfl).mono
  · exact (touches_evrPut _ _).mono.then (touches_setCause 0x05 5)

/-- The bytes of an event's record in the store, at the place of `LOG_NEXT_SEQ`. -/
def recordPlace (s : State) : Nat := logBase + 32 * ((s.reg A.CMD_LOG_NEXT_SEQ).toNat % logSize)

/-- The record of the event `e`, the oldest that waits, written: the bytes, the queue without it, the sequence numbers advanced. -/
def recorded (s : State) (e : Event) (rest : List Event) : State :=
  let n := (s.reg A.CMD_LOG_NEXT_SEQ).toNat
  let q := Tbl.get (fun _ => 0) s.log.srcSeq e.source
  let t := s.ramStore (recordPlace s) (eventBytes e n q 0)
  ({ t with
      log := { t.log with queue := rest, srcSeq := Tbl.put (fun _ => 0) t.log.srcSeq e.source (q + 1) },
      mem := { t.mem with lostLog := t.mem.lostLog.filter (· != n % logSize) } } : State).setReg A.CMD_LOG_NEXT_SEQ (BitVec.ofNat 32 (n + 1))

theorem eventWrite_empty (h : x.log.queue = []) : eventWrite x = x := by
  unfold eventWrite
  rw [h]

theorem eventWrite_unusable (h : storeUsable x = false) : eventWrite x = x := by
  unfold eventWrite
  split
  · rfl
  · rw [h]
    rfl

theorem eventWrite_records {e : Event} {rest : List Event} (hq : x.log.queue = e :: rest) (h : storeUsable x = true) :
    eventWrite x = evrCopy (recorded x e rest) e (x.reg A.CMD_LOG_NEXT_SEQ).toNat (Tbl.get (fun _ => 0) x.log.srcSeq e.source) := by
  unfold eventWrite
  rw [hq]
  simp only [h, Bool.not_true, Bool.false_eq_true, if_false]
  rfl

theorem touches_recorded (e : Event) (rest : List Event) : Touches [.regs, .dram, .log, .mem] [0x05] x (recorded x e rest) := by
  have hstore : Touches [.regs, .dram, .log, .mem] [0x05] x (x.ramStore (recordPlace x)
      (eventBytes e (x.reg A.CMD_LOG_NEXT_SEQ).toNat (Tbl.get (fun _ => 0) x.log.srcSeq e.source) 0)) := (touches_ramStore (gs := []) _ _).mono
  exact (hstore.then (touches_parts (gs := []) [.log, .mem] rfl)).then (touches_setReg A.CMD_LOG_NEXT_SEQ _)

theorem evrCopy_queue (e : Event) (logSeq srcSeq : Nat) : (evrCopy x e logSeq srcSeq).log.queue = x.log.queue := by
  unfold evrCopy
  split
  · rfl
  · split
    · rfl
    · rw [setCause_log]
      rfl

/-- The copy to the event ring leaves `LOG_NEXT_SEQ` alone. -/
theorem evrCopy_seq (e : Event) (logSeq srcSeq : Nat) : (evrCopy x e logSeq srcSeq).reg A.CMD_LOG_NEXT_SEQ = x.reg A.CMD_LOG_NEXT_SEQ := by
  unfold evrCopy
  split
  · rfl
  · split
    · rfl
    · rw [setCause_reg_ne _ _ _ (by decide)]
      exact onlyRegs_setFld _ F.CMD_EVR_TAIL_TAIL _ _ (by decide)

/-- What recording events touches. -/
theorem touches_eventWrite : Touches [.regs, .dram, .host, .out, .log, .mem] [0x05] x (eventWrite x) := by
  cases hu : storeUsable x with
  | false =>
    rw [eventWrite_unusable hu]
    exact Touches.refl x
  | true =>
    cases hq : x.log.queue with
    | nil =>
      rw [eventWrite_empty hq]
      exact Touches.refl x
    | cons e rest =>
      rw [eventWrite_records hq hu]
      exact (touches_recorded e rest).mono.then (touches_evrCopy e _ _)

theorem touches_flushEvents (n : Nat) (x : State) : Touches [.regs, .dram, .host, .out, .log, .mem] [0x05] x (flushEvents n x) := by
  induction n generalizing x with
  | zero => exact Touches.refl x
  | succ n ih => exact touches_eventWrite.trans (ih _)

/-- A record lies in the event store: the bytes below it stay. -/
theorem eventWrite_ram_below {a : Nat} (ha : a < logBase) : (eventWrite x).ram a = x.ram a := by
  cases hu : storeUsable x with
  | false => rw [eventWrite_unusable hu]
  | true =>
    cases hq : x.log.queue with
    | nil => rw [eventWrite_empty hq]
    | cons e rest =>
      rw [eventWrite_records hq hu, (touches_evrCopy e _ _).ram (by decide) a]
      refine State.ram_ramStore_apart x (recordPlace x) _ (.inl ?_)
      rw [recordPlace]
      omega

theorem flushEvents_ram_below (n : Nat) (x : State) {a : Nat} (ha : a < logBase) : (flushEvents n x).ram a = x.ram a := by
  induction n generalizing x with
  | zero => rfl
  | succ n ih => rw [flushEvents, ih, eventWrite_ram_below ha]

/-- The store is usable or not whatever is recorded in it. -/
theorem storeUsable_congr {s t : State} (h : Touches [.regs, .dram, .host, .out, .log, .mem] [0x05] s t) : storeUsable t = storeUsable s := by
  have hdev : t.devState = s.devState := h.fld (by decide)
  simp only [storeUsable, marchDue, State.booting, State.answers, hdev, show t.dev = s.dev from h.part .dev (by decide),
    show t.pow = s.pow from h.part .pow (by decide), show t.boot = s.boot from h.part .boot (by decide),
    show t.nv = s.nv from h.part .nv (by decide), show t.bst = s.bst from h.part .bst (by decide)]

/-- With the store usable every event that waits is recorded, and the sequence number advances by their count. -/
theorem flushEvents_usable (x : State) (h : storeUsable x = true) : (flushEvents x.log.queue.length x).log.queue = [] ∧
    (flushEvents x.log.queue.length x).reg A.CMD_LOG_NEXT_SEQ = x.reg A.CMD_LOG_NEXT_SEQ + BitVec.ofNat 32 x.log.queue.length := by
  generalize hn : x.log.queue.length = n
  induction n generalizing x with
  | zero => exact ⟨List.length_eq_zero_iff.mp hn, (BitVec.add_zero _).symm⟩
  | succ n ih =>
    cases hq : x.log.queue with
    | nil => simp [hq] at hn
    | cons e rest =>
      have hone := eventWrite_records hq h
      have hqueue : (eventWrite x).log.queue = rest := by
        rw [hone, evrCopy_queue]
        rfl
      have hseq : (eventWrite x).reg A.CMD_LOG_NEXT_SEQ = x.reg A.CMD_LOG_NEXT_SEQ + 1#32 := by
        rw [hone, evrCopy_seq, recorded, State.reg_setReg_self]
        apply BitVec.eq_of_toNat_eq
        simp
      obtain ⟨hempty, hadd⟩ := ih (eventWrite x) ((storeUsable_congr touches_eventWrite).trans h) (by
        rw [hqueue]
        simpa [hq] using hn)
      refine ⟨hempty, ?_⟩
      rw [flushEvents, hadd, hseq, BitVec.add_assoc]
      congr 1
      apply BitVec.eq_of_toNat_eq
      simp [Nat.add_comm]
end

/-! ### The search for a bundle begins (R178, R179) -/

section
variable {x : State}

theorem touches_fwResult (source major minor : Nat) : Touches [.log] [] x (fwResult x source major minor) := touches_event _ _ _ _ _

theorem touches_noBundle : Touches [.regs, .dev, .boot, .log] [0x01] x (noBundle x) := by
  have hwait : Touches [.regs, .dev, .boot, .log] [0x01] x ((x.setFld F.NVC_STATUS_FW_WAIT 0).setFld F.NVC_STATUS_FW_SOURCE 0) :=
    ((touches_setFld F.NVC_STATUS_FW_WAIT 0).mono).then (touches_setFld F.NVC_STATUS_FW_SOURCE 0)
  exact ((hwait.then (touches_parts (gs := []) [.dev] rfl)).then (touches_parts (gs := []) [.boot] rfl)).then (touches_fwResult 0 0 0)

theorem touches_hostTurn : Touches [.regs, .dev, .boot, .host, .out, .log] [0x01] x (hostTurn x) :=
  Touches.ite (fun _ => touches_noBundle.mono)
    (fun _ => ((touches_setFld F.NVC_STATUS_FW_WAIT 1).mono).then (touches_setCause 0x01 2))

theorem touches_searchBegins : Touches [.regs, .dev, .boot, .host, .out, .log] [0x01] x (searchBegins x) := by
  have hboot : Touches [.regs, .dev, .boot, .host, .out, .log] [0x01] x
      (x.setBoot { x.boot with fwOrder := some (x.fld F.NVC_CTRL_FW_SRC) }) := (touches_parts (gs := []) [.boot] rfl).mono
  exact Touches.ite (fun _ => Touches.refl x) (fun _ => Touches.ite (fun _ => hboot.trans touches_hostTurn) (fun _ => hboot))

/-- What of BOOT's progress the search leaves alone. -/
theorem searchBegins_boot : (searchBegins x).boot =
    { x.boot with fwOrder := (searchBegins x).boot.fwOrder, fwDone := (searchBegins x).boot.fwDone } := by
  unfold searchBegins
  split
  · rfl
  · simp only
    split
    · unfold hostTurn
      split
      · rfl
      · rw [setCause_boot]
        rfl
    · rfl

/-- Where the host is not the only source, the search begins with its order noted. -/
theorem searchBegins_qspi (h : x.fld F.NVC_CTRL_FW_SRC ≠ 2) :
    searchBegins x = x ∨ searchBegins x = x.setBoot { x.boot with fwOrder := some (x.fld F.NVC_CTRL_FW_SRC) } := by
  unfold searchBegins
  split
  · exact .inl rfl
  · right
    rw [if_neg (by simpa using h)]
end

/-! ### The DRAM at BOOT (R26, R116, R164, R166) -/

/-- The DRAM shown as ready. -/
def dramShown (s : State) : State := (s.setBoot { s.boot with dramReady := true }).setFld F.MEM_STATUS_DRAM_READY 1

theorem touches_dramShown (s : State) : Touches [.regs, .boot] [0x30] s (dramShown s) := by
  have hboot : Touches [.regs, .boot] [0x30] s (s.setBoot { s.boot with dramReady := true }) := (touches_parts (gs := []) [.boot] rfl).mono
  exact hboot.then (touches_setFld F.MEM_STATUS_DRAM_READY 1)

theorem dramShown_flag (s : State) : (dramShown s).flag F.MEM_STATUS_DRAM_READY = true := State.flag_setFld_one _ rfl (by decide)

theorem State.booting_congr {s t : State} (hdev : t.dev = s.dev) (hpow : t.pow = s.pow) (hst : t.devState = s.devState) :
    t.booting = s.booting := by
  simp only [State.booting, State.answers, hdev, hpow, hst]

theorem State.answers_of_booting {s : State} (h : s.booting = true) : s.answers = true := by
  simp only [State.booting, Bool.and_eq_true] at h
  exact h.1

theorem marchDue_congr {s t : State} (hb : t.booting = s.booting) (hnv : t.nv = s.nv) (hw : t.boot.fromWatch = s.boot.fromWatch)
    (hm : t.boot.marchResult = s.boot.marchResult) (hc : t.boot.seletCopy = s.boot.seletCopy) : marchDue t = marchDue s := by
  simp only [marchDue, hb, hnv, hw, hm, hc]

theorem marchDue_dramShown (s : State) : marchDue (dramShown s) = marchDue s :=
  marchDue_congr (State.booting_congr rfl rfl ((touches_dramShown s).fld (by decide))) rfl rfl rfl rfl

section
variable {s : State} (hb : s.booting = true)
include hb

theorem exec_dramInitDone (hd : s.boot.seletDone = true) (hr : s.boot.dramReady = false) : exec .dramInitDone s =
    .next (searchBegins (if marchDue s then dramShown s else writeHeld (dramShown s))) := by
  have hc : (s.booting && s.boot.seletDone && !s.boot.dramReady) = true := by simp [hb, hd, hr]
  rw [← marchDue_dramShown s]
  exact congrArg Host.Outcome.next (if_pos hc)

theorem dramInitDone_marching (hd : s.boot.seletDone = true) (hr : s.boot.dramReady = false) (hm : marchDue s = true) :
    exec .dramInitDone s = .next (dramShown s) := by
  have hclosed : searchOpen (dramShown s) = false := by
    simp only [searchOpen, marchDue_dramShown, hm, Bool.not_true, Bool.and_false, Bool.false_and]
  rw [exec_dramInitDone hb hd hr, if_pos hm, searchBegins, hclosed]
  rfl

theorem dramInitDone_records (hd : s.boot.seletDone = true) (hr : s.boot.dramReady = false) (hm : marchDue s = false)
    (hrun : s.bst.run = none) (hsrc : s.fld F.NVC_CTRL_FW_SRC ≠ 2) : ∃ t, exec .dramInitDone s = .next t ∧
      t.boot.dramReady = true ∧ t.flag F.MEM_STATUS_DRAM_READY = true ∧ t.log.queue = [] ∧
      t.reg A.CMD_LOG_NEXT_SEQ = s.reg A.CMD_LOG_NEXT_SEQ + BitVec.ofNat 32 s.log.queue.length := by
  have hshown := touches_dramShown s
  have husable : storeUsable (dramShown s) = true := by
    have hans : (dramShown s).answers = true := by
      have hst : (dramShown s).devState = s.devState := hshown.fld (by decide)
      have := State.answers_of_booting hb
      simp only [State.answers, hst] at this ⊢
      exact this
    simp only [storeUsable, hans, marchDue_dramShown, hm, show (dramShown s).bst = s.bst from rfl, hrun]
    rfl
  obtain ⟨hempty, hseq⟩ := flushEvents_usable (dramShown s) husable
  have hflush := touches_flushEvents (dramShown s).log.queue.length (dramShown s)
  have hfields : (writeHeld (dramShown s)).boot.dramReady = true ∧ (writeHeld (dramShown s)).flag F.MEM_STATUS_DRAM_READY = true ∧
      (writeHeld (dramShown s)).log.queue = [] ∧ (writeHeld (dramShown s)).reg A.CMD_LOG_NEXT_SEQ =
        s.reg A.CMD_LOG_NEXT_SEQ + BitVec.ofNat 32 s.log.queue.length := by
    refine ⟨congrArg Boot.dramReady (hflush.part .boot (by decide)), (hflush.flag (by decide)).trans (dramShown_flag s), hempty, ?_⟩
    rw [← hshown.reg A.CMD_LOG_NEXT_SEQ (by decide)]
    exact hseq
  refine ⟨_, exec_dramInitDone hb hd hr, ?_⟩
  rw [if_neg (by simp [hm])]
  have hsrc' : (writeHeld (dramShown s)).fld F.NVC_CTRL_FW_SRC ≠ 2 := by
    rw [writeHeld, hflush.fld (by decide), hshown.fld (by decide)]
    exact hsrc
  rcases searchBegins_qspi hsrc' with h | h <;> rw [h] <;> exact hfields

/-- The march that ends, with the DRAM emptied and its result shown. -/
def marchShown (s : State) (misr : BitVec 64) : State :=
  let failed := misr != Config.fusedMisr 0xF1
  let s := testResult s 0xF1 misr 104858
  let s := (s.ramClear 0 0x8000000).setBoot { s.boot with marchResult := if failed then 2 else 1 }
  let s := (s.setFld F.BST_STATUS_MARCH_BOOT_RUN 1).setFld F.BST_STATUS_MARCH_BOOT_FAIL (b01 failed)
  setCause (s.event 0x07 0 0x1700 (if failed then 3 else 0)
    ([1#8, BitVec.ofNat 8 (b01 failed), if failed then 0xF1#8 else 0xFF#8, 2#8] ++ leBytes 4 104)) 0x07 0

omit hb in
theorem get_filter_beyond (m : List Host.Cell) (a lo hi : Nat) (h : lo ≤ a ∧ a < hi) :
    Tbl.get dramByte (m.filter (fun c => c.1 < lo || hi ≤ c.1)) a = 0#8 := by
  have hout : (decide (a < lo) || decide (hi ≤ a)) = false := by simp; omega
  refine (Tbl.get_filter_keys dramByte (fun k => decide (k < lo) || decide (hi ≤ k)) m a).trans ?_
  rw [hout]
  rfl

omit hb in
theorem marchShown_spec (s : State) (misr : BitVec 64) :
    (marchShown s misr).boot.marchResult = (if misr = Config.fusedMisr 0xF1 then 1 else 2) ∧
      (marchShown s misr).flag F.BST_STATUS_MARCH_BOOT_RUN = true ∧
      (marchShown s misr).flag F.BST_STATUS_MARCH_BOOT_FAIL = (misr != Config.fusedMisr 0xF1) ∧
      causeSet (marchShown s misr) 0x07 0 = true ∧ ∀ a, a < 0x08000000 → (marchShown s misr).ram a = 0#8 := by
  refine ⟨?_, ?_, ?_, ?_, ?_⟩
  · rw [marchShown, setCause_boot]
    change (if (misr != Config.fusedMisr 0xF1) = true then 2 else 1) = _
    by_cases h : misr = Config.fusedMisr 0xF1 <;> simp [h]
  · rw [marchShown, State.flag, setCause_fld_ne _ _ _ (by decide), State.event_fld, ← State.flag,
      State.flag_setFld_apart _ _ (by decide) (by decide), State.flag_setFld_one _ rfl (by decide)]
  · rw [marchShown, State.flag, setCause_fld_ne _ _ _ (by decide), State.event_fld, State.fld_setFld_self _ _ _ (by decide)]
    cases (misr != Config.fusedMisr 0xF1) <;> rfl
  · rw [marchShown, causeSet_setCause _ _ _ _ (by decide), beq_self_eq_true, Bool.or_true]
  · intro a ha
    rw [marchShown, State.ram, setCause_dram]
    exact get_filter_beyond _ a 0 0x8000000 ⟨Nat.zero_le _, ha⟩

theorem exec_bootDramMarchDone (misr : BitVec 64) (hr : s.boot.dramReady = true) (hm : marchDue s = true) :
    exec (.bootDramMarchDone misr) s = .next (searchBegins (writeHeld (marchShown s misr))) := by
  simp only [exec, execBootDramMarchDone, hb, hr, hm, Bool.and_self, if_true]
  rfl

theorem exec_watchDramScrubDone (lost : List Nat) (hw : s.boot.fromWatch = true) (hr : s.boot.dramReady = true)
    (hs : s.boot.watchScrubbed = false) : exec (.watchDramScrubDone lost) s =
      .next (searchBegins ((lost.foldl watchLost s).setBoot { (lost.foldl watchLost s).boot with watchScrubbed := true })) := by
  simp only [exec, execWatchDramScrubDone, hb, hw, hr, hs, Bool.not_false, Bool.and_self, if_true]
end

/-- Settles O23. -/
theorem bootPreparesTheDram : Obligations.BootPreparesTheDram := by
  intro s hb
  refine ⟨fun hd hr => ⟨fun hm => ⟨_, dramInitDone_marching hb hd hr hm, rfl, dramShown_flag s, rfl, fun _ => rfl⟩,
    fun hm hrun hsrc => dramInitDone_records hb hd hr hm hrun hsrc⟩, fun misr hr hm => ?_, fun hw hr hs => ⟨fun lost => ?_, fun hsrc => ?_⟩⟩
  · refine ⟨_, exec_bootDramMarchDone hb misr hr hm, ?_⟩
    obtain ⟨hresult, hrun, hfail, hcause, hram⟩ := marchShown_spec s misr
    generalize marchShown s misr = u at hresult hrun hfail hcause hram
    have hflush : Touches [.regs, .dram, .host, .out, .log, .mem] [0x05] u (writeHeld u) := touches_flushEvents _ u
    have hsearch := touches_searchBegins (x := writeHeld u)
    refine ⟨?_, ?_, ?_, ?_, fun a ha => ?_⟩
    · rw [searchBegins_boot, hflush.part .boot (by decide)]
      exact hresult
    · rw [hsearch.flag (by decide), hflush.flag (by decide), hrun]
    · rw [hsearch.flag (by decide), hflush.flag (by decide), hfail]
    · rw [causeSet, hsearch.reg _ (by decide), hflush.reg _ (by decide)]
      exact hcause
    · rw [hsearch.ram (by decide) a, writeHeld, flushEvents_ram_below _ _ ha, hram a (by omega)]
  · refine ⟨_, exec_watchDramScrubDone hb lost hw hr hs, ?_⟩
    rw [searchBegins_boot]
    rfl
  · refine ⟨_, exec_watchDramScrubDone hb [] hw hr hs, ?_⟩
    have hsrc' : (s.setBoot { s.boot with watchScrubbed := true }).fld F.NVC_CTRL_FW_SRC ≠ 2 := hsrc
    rw [List.foldl_nil]
    rcases searchBegins_qspi hsrc' with h | h <;> rw [h] <;> exact ⟨rfl, rfl⟩

end Sys2Proof.Machine
end

section
/-!
PROOFS. What a software write stores in one field of a register (02_register_model.md, R46, R50), and the event ring's registers
(03_host_interface.md, Event log and event ring): the statement O33.
-/
namespace Sys2Proof.Machine

-- One proof after another: side by side, the threads of so long a text want more memory than the check grants.
set_option Elab.async false

/-! ### The field a write stores -/

/-- Two fields share no bit. -/
def FieldSpec.apart (f g : FieldSpec) : Bool := f.lsb + f.width ≤ g.lsb || g.lsb + g.width ≤ f.lsb

/-- The fields of a register lie in its word and share no bit. -/
def fieldsApart (fs : List FieldSpec) : Bool := fs.all (fun f => f.lsb + f.width ≤ 32) && decide (fs.Pairwise (fun f g => f.apart g = true))

section
variable (s : State) (a page off : Nat) (data mask : Word)

theorem bitsOf_applyField_apart (acc : WriteAcc) {f g : FieldSpec} (hg : g.lsb + g.width ≤ 32) (hd : f.apart g = true) :
    bitsOf (applyField s a page off data mask acc g).word.toNat f.lsb f.width = bitsOf acc.word.toNat f.lsb f.width := by
  have hins : ∀ v, bitsOf (insBits acc.word g.lsb g.width v).toNat f.lsb f.width = bitsOf acc.word.toNat f.lsb f.width := fun v =>
    bitsOf_insBits_apart _ _ _ _ _ _ hg (by simpa [FieldSpec.apart, or_comm] using hd)
  unfold applyField
  simp only
  split
  · rfl
  · split <;> (repeat' split) <;> first | rfl | exact hins _

theorem bitsOf_foldl_applyField_apart {f : FieldSpec} (fs : List FieldSpec) (acc : WriteAcc)
    (h : ∀ g ∈ fs, g.lsb + g.width ≤ 32 ∧ f.apart g = true) :
    bitsOf (fs.foldl (applyField s a page off data mask) acc).word.toNat f.lsb f.width = bitsOf acc.word.toNat f.lsb f.width := by
  induction fs generalizing acc with
  | nil => rfl
  | cons g fs ih =>
    obtain ⟨hg, hd⟩ := h g (List.mem_cons_self ..)
    rw [List.foldl_cons, ih _ (fun x hx => h x (List.mem_cons_of_mem _ hx)), bitsOf_applyField_apart s a page off data mask acc hg hd]

theorem FieldSpec.apart_comm (f g : FieldSpec) : f.apart g = g.apart f := Bool.or_comm _ _

/-- After the fold, a field reads as its own application leaves it. -/
theorem bitsOf_foldl_applyField {fs : List FieldSpec} (hfs : fieldsApart fs = true) {f : FieldSpec} (hf : f ∈ fs) (acc : WriteAcc) {v : Nat}
    (hv : ∀ acc' : WriteAcc, bitsOf acc'.word.toNat f.lsb f.width = bitsOf acc.word.toNat f.lsb f.width →
      bitsOf (applyField s a page off data mask acc' f).word.toNat f.lsb f.width = v) :
    bitsOf (fs.foldl (applyField s a page off data mask) acc).word.toNat f.lsb f.width = v := by
  obtain ⟨pre, post, rfl⟩ := List.append_of_mem hf
  simp only [fieldsApart, Bool.and_eq_true, List.all_eq_true, decide_eq_true_eq] at hfs
  obtain ⟨hin, hpair⟩ := hfs
  rw [List.pairwise_append] at hpair
  obtain ⟨_, hpost, hpre⟩ := hpair
  rw [List.foldl_append, List.foldl_cons, bitsOf_foldl_applyField_apart s a page off data mask post]
  · refine hv _ (bitsOf_foldl_applyField_apart s a page off data mask pre acc (fun g hg => ⟨hin g (List.mem_append_left _ hg), ?_⟩))
    rw [FieldSpec.apart_comm]
    exact hpre g hg f (List.mem_cons_self ..)
  · exact fun g hg => ⟨hin g (List.mem_append_right _ (List.mem_cons_of_mem _ hg)), List.rel_of_pairwise_cons hpost hg⟩

/-- A write that reaches no GO bit starts nothing. -/
theorem foldl_applyField_go (fs : List FieldSpec) (acc : WriteAcc)
    (h : ∀ f ∈ fs, f.ty = .go → bitsOf mask.toNat f.lsb f.width = 0) :
    (fs.foldl (applyField s a page off data mask) acc).go = acc.go := by
  induction fs generalizing acc with
  | nil => rfl
  | cons f fs ih =>
    rw [List.foldl_cons, ih _ (fun x hx => h x (List.mem_cons_of_mem _ hx))]
    have hf := h f (List.mem_cons_self ..)
    unfold applyField
    simp only
    split
    · rfl
    · next hm =>
      split <;> (repeat' split) <;> first | rfl | (next hty _ => exact absurd (hf hty) hm)

end

/-- The registers that a write of the register at `a` touches: it, and those in which an error of its page is recorded. -/
def writtenRegs (a : Nat) : List Nat := [a, a / 0x1000 * 0x1000 + 0x010, a / 0x1000 * 0x1000 + 0x01C, a / 0x1000 * 0x1000 + 0x020]

section
variable (s : State) (src : Requester) (a : Nat) (data mask : Word)

theorem onlyRegs_recordErr_if (c : Prop) [Decidable c] (page code source addr : Nat) :
    OnlyRegs s (if c then recordErr s page code source addr else s) [page * 0x1000 + 0x010, page * 0x1000 + 0x01C, page * 0x1000 + 0x020] := by
  split
  · exact onlyRegs_recordErr _ _ _ _ _
  · exact fun _ _ => rfl

theorem onlyRegs_startGo (b : Nat) : OnlyRegs s (startGo s a b) [a] := by
  unfold startGo
  split
  · exact fun _ _ => rfl
  · exact onlyRegs_setReg s a _

theorem onlyRegs_writeFields : OnlyRegs s (writeFields s src a data mask) (writtenRegs a) := by
  have herr : ∀ (t : State) (c : Prop) [Decidable c] (code : Nat), OnlyRegs t
      (if c then recordErr t (a / 0x1000) code src.code a else t) (writtenRegs a) := fun t c _ code =>
    (onlyRegs_recordErr_if t c _ _ _ _).mono (List.subset_cons_self _ _)
  have htrans : ∀ {x y z : State}, OnlyRegs x y (writtenRegs a) → OnlyRegs y z (writtenRegs a) → OnlyRegs x z (writtenRegs a) :=
    fun h h' c hc => (h' c hc).trans (h c hc)
  unfold writeFields
  cases specOf a with
  | none => exact fun _ _ => rfl
  | some r =>
    refine htrans (htrans (htrans (htrans ((onlyRegs_setReg s a _).mono (by simp [writtenRegs]))
      (OnlyRegs.foldl (fun t b _ => (onlyRegs_startGo t a b).mono (by simp [writtenRegs])) _)) (herr _ _ _)) (herr _ _ _)) (herr _ _ _)

variable {a}

/-- Outside the header, and with no GO bit reached, the register holds what its fields come to. -/
theorem writeFields_reg {r : RegSpec} (hr : specOf a = some r) (hhead : 0x024 ≤ a % 0x1000)
    (hgo : ∀ f ∈ r.fields, f.ty = .go → bitsOf mask.toNat f.lsb f.width = 0) :
    (writeFields s src a data mask).reg a = (r.fields.foldl (applyField s a (basePage (a / 0x1000)) r.off data mask)
      { word := s.reg a, locked := false, reserved := false, badAlias := false, go := [] }).word := by
  have herr : ∀ (t : State) (c : Prop) [Decidable c] (code : Nat),
      (if c then recordErr t (a / 0x1000) code src.code a else t).reg a = t.reg a := fun t c _ code =>
    onlyRegs_recordErr_if t c _ _ _ _ a (by simp; omega)
  have hnone := foldl_applyField_go s a (basePage (a / 0x1000)) r.off data mask r.fields
    { word := s.reg a, locked := false, reserved := false, badAlias := false, go := [] } hgo
  have hw : ∀ w : Word, (w &&& ~~~(0#32)) ||| (s.reg a &&& 0#32) = w := by
    intro w
    rw [BitVec.and_zero, BitVec.or_zero]
    exact BitVec.and_allOnes
  simp only [writeFields, hr, hnone, List.foldl_nil, hw]
  rw [herr, herr, herr, State.reg_setReg_self]

/-- A RW field that a write reaches with an encoding that is not reserved holds the bits written. -/
theorem writeFields_fld_rw {r : RegSpec} (hr : specOf a = some r) (hhead : 0x024 ≤ a % 0x1000) (hfs : fieldsApart r.fields = true)
    (hgo : ∀ f ∈ r.fields, f.ty = .go → bitsOf mask.toNat f.lsb f.width = 0) {l k lock : Nat} (hf : ⟨l, k, .rw, lock⟩ ∈ r.fields)
    (hm : bitsOf mask.toNat l k ≠ 0)
    (hres : reservedEnc s (a / 0x1000 - basePage (a / 0x1000)) (basePage (a / 0x1000)) r.off l
      (bitsOf ((s.reg a &&& ~~~mask) ||| (data &&& mask)).toNat l k) ((s.reg a &&& ~~~mask) ||| (data &&& mask)).toNat = false) :
    (writeFields s src a data mask).fld ⟨a, l, k⟩ = bitsOf ((s.reg a &&& ~~~mask) ||| (data &&& mask)).toNat l k := by
  have hin : l + k ≤ 32 := by
    simp only [fieldsApart, Bool.and_eq_true, List.all_eq_true, decide_eq_true_eq] at hfs
    exact hfs.1 _ hf
  rw [State.fld, writeFields_reg s src data mask hr hhead hgo]
  refine bitsOf_foldl_applyField s a _ _ data mask hfs hf _ (fun acc' _ => ?_)
  have hl : fieldLocked s a ⟨l, k, .rw, lock⟩ = false := rfl
  simp only [applyField, if_neg hm, hl, hres, Bool.false_eq_true, if_false]
  rw [bitsOf_insBits _ _ _ _ hin, Nat.mod_eq_of_lt (bitsOf_lt _ _ _)]

/-- The same, of a write of the whole word. -/
theorem writeFields_fld_whole {r : RegSpec} (hr : specOf a = some r) (hhead : 0x024 ≤ a % 0x1000) (hfs : fieldsApart r.fields = true)
    (hgo : ∀ f ∈ r.fields, f.ty ≠ .go) {l k lock : Nat} (hf : ⟨l, k, .rw, lock⟩ ∈ r.fields) (hk : 0 < k)
    (hres : reservedEnc s (a / 0x1000 - basePage (a / 0x1000)) (basePage (a / 0x1000)) r.off l (bitsOf data.toNat l k) data.toNat = false) :
    (writeFields s src a data allBits).fld ⟨a, l, k⟩ = bitsOf data.toNat l k := by
  have hin : l + k ≤ 32 := by
    simp only [fieldsApart, Bool.and_eq_true, List.all_eq_true, decide_eq_true_eq] at hfs
    exact hfs.1 _ hf
  have h := writeFields_fld_rw s src data allBits hr hhead hfs (fun f hf' ht => absurd ht (hgo f hf')) hf
    (by rw [bitsOf_allBits _ _ hin]; exact Nat.sub_ne_zero_of_lt (Nat.one_lt_two_pow hk.ne')) (by rw [merged_allBits]; exact hres)
  rwa [merged_allBits] at h
end

/-! ### Bus Master Enable stands through errors and software writes -/

theorem setCause_busMaster (s : State) (page b : Nat) : (setCause s page b).host.busMaster = s.host.busMaster := by rw [setCause_host]

theorem recordErr_busMaster (s : State) (page code source addr : Nat) :
    (recordErr s page code source addr).host.busMaster = s.host.busMaster := by
  rw [recordErr, setCause_busMaster]
  split <;> rfl

theorem startGo_busMaster (s : State) (a b : Nat) : (startGo s a b).host.busMaster = s.host.busMaster := by
  unfold startGo
  split <;> rfl

theorem writeFields_busMaster (s : State) (src : Requester) (a : Nat) (data mask : Word) :
    (writeFields s src a data mask).host.busMaster = s.host.busMaster := by
  have herr : ∀ (t : State) (c : Prop) [Decidable c] (page code source addr : Nat),
      (if c then recordErr t page code source addr else t).host.busMaster = t.host.busMaster := fun t c _ page code source addr => by
    split
    · exact recordErr_busMaster _ _ _ _ _
    · rfl
  have hgo : ∀ (gs : List Nat) (t : State), (gs.foldl (startGo · a ·) t).host.busMaster = t.host.busMaster := fun gs => by
    induction gs with
    | nil => exact fun _ => rfl
    | cons g gs ih => exact fun t => (ih _).trans (startGo_busMaster t a g)
  unfold writeFields
  cases specOf a with
  | none => rfl
  | some r =>
    simp only [herr]
    exact hgo _ _

/-! ### The event ring (R117, R118) -/

theorem exec_evrHeadWrite {s : State} (hs : s.inOperation = true) (src : Requester) (data : Word) :
    exec (.evrHeadWrite src data) s = .next (evrHeadWrite s src data allBits) :=
  congrArg Host.Outcome.next (gateWrite_inOperation hs (by decide +kernel) src _)

theorem exec_evrEnableWrite {s : State} (hs : s.inOperation = true) (src : Requester) (data : Word) :
    exec (.evrEnableWrite src data) s = .next (fire (evrCtrlWrite s src data allBits)) :=
  congrArg Host.Outcome.next (gateWrite_inOperation hs (by decide +kernel) src _)

theorem onlyRegs_setCause (s : State) (page b : Nat) : OnlyRegs s (setCause s page b) [page * 0x1000 + 0x010] :=
  fun _ ha => setCause_reg_ne s page b (by simpa using ha)

theorem onlyRegs_evrPut (s : State) (sev : Nat) (bytes : Bool → List Byte) : OnlyRegs s (evrPut s sev bytes) [A.CMD_EVR_TAIL] :=
  onlyRegs_setFld s F.CMD_EVR_TAIL_TAIL _

theorem evrPut_tail (s : State) (sev : Nat) (bytes : Bool → List Byte) :
    (evrPut s sev bytes).fld F.CMD_EVR_TAIL_TAIL = nextIdx (s.fld F.CMD_EVR_TAIL_TAIL) (evrSize s) % 2 ^ 15 :=
  State.fld_setFld_self s F.CMD_EVR_TAIL_TAIL _ (by decide)

theorem onlyRegs_evrCopy (s : State) (e : Event) (logSeq srcSeq : Nat) :
    OnlyRegs s (evrCopy s e logSeq srcSeq) [A.CMD_EVR_TAIL, 0x05010] := by
  unfold evrCopy
  split
  · exact fun _ _ => rfl
  · split
    · exact fun _ _ => rfl
    · exact (onlyRegs_evrPut s _ _).trans (onlyRegs_setCause _ 0x05 5)

theorem length_slice (bs : List Byte) (i n : Nat) : (slice bs i n).length = n := by
  simp [slice]
  omega

theorem length_eventBytes (e : Event) (logSeq srcSeq stamp : Nat) : (eventBytes e logSeq srcSeq stamp).length = 32 := by
  simp [eventBytes, length_leBytes, length_slice]

/-- EVENT_RECORD_WRITE with the store usable and an event waiting. -/
theorem eventWrite_spec {s : State} {e : Event} {rest : List Event} (hu : storeUsable s = true) (hq : s.log.queue = e :: rest) :
    (eventWrite s).log.queue = rest ∧ (eventWrite s).reg A.CMD_LOG_NEXT_SEQ = s.reg A.CMD_LOG_NEXT_SEQ + 1#32 ∧
      (eventWrite s).ramBytes (recordPlace s) 32 =
        eventBytes e (s.reg A.CMD_LOG_NEXT_SEQ).toNat (Tbl.get (fun _ => 0) s.log.srcSeq e.source) 0 ∧
      OnlyMemory s (eventWrite s) (recordPlace s) 32 ∧
      OnlyRegs s (eventWrite s) [A.CMD_LOG_NEXT_SEQ, A.CMD_EVR_TAIL, 0x05010] := by
  rw [eventWrite_records hq hu]
  generalize hbytes : Tbl.get (fun _ => 0) s.log.srcSeq e.source = n
  have hsame := (touches_evrCopy (x := recorded s e rest) e (s.reg A.CMD_LOG_NEXT_SEQ).toNat n).ram (by decide)
  have hregs := onlyRegs_evrCopy (recorded s e rest) e (s.reg A.CMD_LOG_NEXT_SEQ).toNat n
  have hlen := length_eventBytes e (s.reg A.CMD_LOG_NEXT_SEQ).toNat n 0
  have hstore := onlyMemory_ramStore s (recordPlace s) (eventBytes e (s.reg A.CMD_LOG_NEXT_SEQ).toNat n 0)
  have hread := State.ramBytes_ramStore s (recordPlace s) (eventBytes e (s.reg A.CMD_LOG_NEXT_SEQ).toNat n 0)
  rw [hlen] at hstore hread
  subst hbytes
  have hmem : SameMemory (s.ramStore (recordPlace s) (eventBytes e (s.reg A.CMD_LOG_NEXT_SEQ).toNat
      (Tbl.get (fun _ => 0) s.log.srcSeq e.source) 0)) (recorded s e rest) := fun _ => rfl
  refine ⟨evrCopy_queue e _ _, ?_, ?_, fun a ha => ?_, ?_⟩
  · rw [evrCopy_seq, recorded, State.reg_setReg_self]
    apply BitVec.eq_of_toNat_eq
    simp
  · rw [hsame.ramBytes, hmem.ramBytes, hread]
  · rw [hsame a, hmem a, hstore a ha]
  · exact OnlyRegs.trans (t := recorded s e rest) (as := [A.CMD_LOG_NEXT_SEQ]) (onlyRegs_setReg s A.CMD_LOG_NEXT_SEQ _) hregs

theorem touches_drawBytes (s : State) (n : Nat) : Touches [.fresh] [] s (drawBytes s n).2 := by
  induction n generalizing s with
  | zero => exact Touches.refl s
  | succ n ih => exact touches_draw.trans (ih _)

/-- EVR_BREAK_WRITE of a range missed, with a free entry. -/
theorem evrBreak_spec {s : State} {f l : Nat} (hs : s.answers = true) (hon : s.log.evrOn = true) (hm : s.log.missed = some (f, l))
    (hroom : evrRoom s = true) : (evrBreak s).log.missed = none ∧ (evrBreak s).log.lastBreak = some (f, l) ∧
      causeSet (evrBreak s) 0x05 6 = true ∧
      (evrBreak s).fld F.CMD_EVR_TAIL_TAIL = nextIdx (s.fld F.CMD_EVR_TAIL_TAIL) (evrSize s) % 2 ^ 15 ∧
      OnlyRegs s (evrBreak s) [A.CMD_EVR_TAIL, 0x05010] ∧ SameMemory s (evrBreak s) := by
  have hdraw := touches_drawBytes s 11
  have hform : ∃ sev bytes, evrBreak s = setCause { evrPut (drawBytes s 11).2 sev bytes with
      log := { (evrPut (drawBytes s 11).2 sev bytes).log with missed := none, lastBreak := some (f, l) } } 0x05 6 := by
    simp only [evrBreak, hm, hs, hon, hroom, Bool.not_true, Bool.or_self, Bool.false_eq_true, if_false]
    exact ⟨_, _, rfl⟩
  obtain ⟨sev, bytes, hform⟩ := hform
  rw [hform]
  have hput := onlyRegs_evrPut (drawBytes s 11).2 sev bytes
  have htail := evrPut_tail (drawBytes s 11).2 sev bytes
  have hdram := (touches_evrPut (x := (drawBytes s 11).2) sev bytes).ram (by decide)
  generalize evrPut (drawBytes s 11).2 sev bytes = u at hput htail hdram
  have hregs : OnlyRegs s u [A.CMD_EVR_TAIL] := fun a ha => (hput a ha).trans (hdraw.reg a (List.not_mem_nil))
  refine ⟨by rw [setCause_log], by rw [setCause_log], ?_, ?_, ?_, ?_⟩
  · rw [causeSet_setCause _ _ _ _ (by decide), beq_self_eq_true, Bool.or_true]
  · rw [setCause_fld_ne _ _ _ (by decide)]
    refine htail.trans ?_
    rw [evrSize, evrSize, hdraw.fld (List.not_mem_nil), hdraw.fld (List.not_mem_nil)]
  · exact OnlyRegs.trans (s := s) (as := [A.CMD_EVR_TAIL]) hregs (onlyRegs_setCause _ 0x05 6)
  · refine SameMemory.trans ((hdraw.ram (by decide)).trans hdram) (sameMemory_of_dram ?_)
    rw [setCause_dram]

section
variable (s : State) (src : Requester) (data : Word)

/-- The word of `EVR_CTRL` written with the ring off: its fields are RW, and only MIN_SEV has reserved encodings. -/
theorem writeFields_evrCtrl_log2 : (writeFields s src A.CMD_EVR_CTRL data allBits).fld F.CMD_EVR_CTRL_LOG2 = bitsOf data.toNat 20 4 := by
  have hspec : specOf A.CMD_EVR_CTRL = some ⟨0x140, 1, 0x4, 0, [⟨0, 1, .rw, 32⟩, ⟨9, 5, .rw, 32⟩, ⟨14, 3, .rw, 32⟩, ⟨20, 4, .rw, 32⟩]⟩ := rfl
  exact writeFields_fld_whole s src data hspec (by decide) (by decide) (by decide) (lock := 32) (by decide) (by decide) rfl

theorem touches_ringConfigErr (a : Nat) : Touches [.regs, .bus, .host, .out, .log] [0x05] s (ringConfigErr s src a) :=
  (touches_recordErr 0x05 0x80 src.code a).mono

theorem touches_evrCtrlWrite (mask : Word) : Touches [.regs, .bus, .host, .out, .log] [0x05] s (evrCtrlWrite s src data mask) := by
  have hfields : ∀ m, Touches [.regs, .bus, .host, .out, .log] [0x05] s (writeFields s src A.CMD_EVR_CTRL data m) := fun m =>
    (touches_writeFields src A.CMD_EVR_CTRL data m).mono
  have hlog : ∀ (t : State) l, Touches [.regs, .bus, .host, .out, .log] [0x05] t { t with log := l } := fun t l =>
    (touches_parts (gs := []) [.log] rfl).mono
  unfold evrCtrlWrite
  refine Touches.trans (Touches.trans (hfields _) (Touches.ite (fun _ => touches_ringConfigErr _ src _) (fun _ => Touches.refl _)))
    (Touches.ite (fun _ => Touches.refl _) (fun _ => Touches.ite (fun _ => hlog _ _) (fun _ => Touches.ite (fun _ => Touches.refl _)
      (fun _ => Touches.ite (fun _ => hlog _ _) (fun _ => touches_ringConfigErr _ src _)))))

/-- ENABLE written 0 turns the ring off. -/
theorem evrCtrlWrite_off (h : bit data.toNat 0 = false) : (evrCtrlWrite s src data allBits).log.evrOn = false := by
  have hmask : bit allBits.toNat 0 = true := by decide
  simp only [evrCtrlWrite, hmask, h, Bool.not_true, Bool.not_false, Bool.false_eq_true, if_false, if_true]

/-- ENABLE written 1 with the ring off and a valid configuration turns it on. -/
theorem evrCtrlWrite_on (h : bit data.toNat 0 = true) (hoff : s.log.evrOn = false) (hbm : s.host.busMaster = true)
    (hlo : 6 ≤ bitsOf data.toNat 20 4) (hhi : bitsOf data.toNat 20 4 ≤ 15) (hbase : s.wide A.CMD_EVR_BASE % 32 = 0) :
    evrCtrlWrite s src data allBits = { writeFields s src A.CMD_EVR_CTRL data allBits with
      log := { (writeFields s src A.CMD_EVR_CTRL data allBits).log with evrOn := true } } := by
  have hmask : bit allBits.toNat 0 = true := by decide
  have hregs := onlyRegs_writeFields s src A.CMD_EVR_CTRL data allBits
  have hwide : (writeFields s src A.CMD_EVR_CTRL data allBits).wide A.CMD_EVR_BASE = s.wide A.CMD_EVR_BASE := by
    rw [State.wide, State.wide, hregs _ (by decide), hregs _ (by decide)]
  have htouch := touches_writeFields (x := s) src A.CMD_EVR_CTRL data allBits
  have hlog : (writeFields s src A.CMD_EVR_CTRL data allBits).log = s.log := htouch.part .log (by decide)
  have hmaster := writeFields_busMaster s src A.CMD_EVR_CTRL data allBits
  have hout : outside (bitsOf data.toNat 20 4) 6 15 = false := by
    simp only [outside, Bool.or_eq_false_iff, decide_eq_false_iff_not]
    omega
  have hok : ((writeFields s src A.CMD_EVR_CTRL data allBits).host.busMaster &&
      !outside ((writeFields s src A.CMD_EVR_CTRL data allBits).fld F.CMD_EVR_CTRL_LOG2) 6 15 &&
      (writeFields s src A.CMD_EVR_CTRL data allBits).wide A.CMD_EVR_BASE % 32 == 0) = true := by
    rw [hmaster, hbm, writeFields_evrCtrl_log2, hout, hwide, hbase]
    rfl
  simp only [evrCtrlWrite, hoff, Bool.false_and, Bool.false_eq_true, if_false, hmask, h, Bool.not_true, hlog, hok, if_true]
/-- HEAD written in range is stored. -/
theorem evrHeadWrite_inRange (h : data.toNat % 2 ^ 15 < evrSize s) :
    (evrHeadWrite s src data allBits).fld F.CMD_EVR_HEAD_HEAD = data.toNat % 2 ^ 15 ∧
      OnlyRegs s (evrHeadWrite s src data allBits) [A.CMD_EVR_HEAD] := by
  have hv : bitsOf data.toNat 0 15 = data.toNat % 2 ^ 15 := by simp [bitsOf]
  simp only [evrHeadWrite, merged_allBits, hv, if_neg (Nat.not_le.2 h)]
  refine ⟨?_, onlyRegs_setFld s F.CMD_EVR_HEAD_HEAD _⟩
  refine (State.fld_setFld_self s F.CMD_EVR_HEAD_HEAD _ (by decide)).trans ?_
  exact Nat.mod_mod _ _

/-- HEAD written beyond the ring is an error. -/
theorem evrHeadWrite_beyond (h : evrSize s ≤ data.toNat % 2 ^ 15) :
    evrHeadWrite s src data allBits = ringConfigErr s src A.CMD_EVR_HEAD := by
  have hv : bitsOf data.toNat 0 15 = data.toNat % 2 ^ 15 := by simp [bitsOf]
  simp only [evrHeadWrite, merged_allBits, hv, if_pos h]
end

/-- Settles O33: an event is stored at its place in the event store and leaves the queue; the ring marks what it missed, takes its HEAD
within its size, and is turned on and off. -/
theorem eventsAreRecordedAndCopied : Obligations.EventsAreRecordedAndCopied := by
  unfold Obligations.EventsAreRecordedAndCopied
  refine ⟨fun s e rest hu hq => ?_, fun s f l hs hon hm hroom => ?_, fun s src data hs => ⟨fun h => ?_, fun h => ?_, fun h => ?_,
    fun h hoff hbm hlo hhi hbase => ?_⟩⟩
  · exact ⟨_, rfl, eventWrite_spec hu hq⟩
  · exact ⟨_, rfl, evrBreak_spec hs hon hm hroom⟩
  · exact ⟨_, exec_evrHeadWrite hs src data, evrHeadWrite_inRange s src data h⟩
  · refine ⟨_, exec_evrHeadWrite hs src data, ?_⟩
    rw [evrHeadWrite_beyond s src data h]
    exact ⟨causeSet_recordErr s 0x05 0x80 src.code A.CMD_EVR_HEAD, onlyRegs_recordErr s 0x05 0x80 src.code A.CMD_EVR_HEAD,
      recordErr_log s 0x05 0x80 src.code A.CMD_EVR_HEAD⟩
  · refine ⟨_, exec_evrEnableWrite hs src data, ?_, ?_⟩
    · rw [fire_log, evrCtrlWrite_off s src data h]
    · exact ((touches_evrCtrlWrite s src data allBits).ram (by decide)).trans (sameMemory_of_dram (fire_dram _))
  · refine ⟨_, exec_evrEnableWrite hs src data, ?_, ?_, ?_⟩
    · rw [fire_log, evrCtrlWrite_on s src data h hoff hbm hlo hhi hbase]
    · rw [State.fld, fire_reg, evrCtrlWrite_on s src data h hoff hbm hlo hhi hbase]
      exact writeFields_evrCtrl_log2 s src data
    · exact ((touches_evrCtrlWrite s src data allBits).ram (by decide)).trans (sameMemory_of_dram (fire_dram _))

end Sys2Proof.Machine
end

section
/-!
PROOFS. The PCIe endpoint and the interrupt vectors (03_host_interface.md, PCIe endpoint and Interrupts): the statement O28.
-/
namespace Sys2Proof.Machine

-- One proof after another: side by side, the threads of so long a text want more memory than the check grants.
set_option Elab.async false

/-- An operation that asks whether registers answer, and they do. -/
theorem next_of_answers {s : State} (hs : s.answers = true) {x y : State} :
    (Host.Outcome.next (if !s.answers then x else y) : Result) = .next y := by
  rw [hs]
  rfl

/-! ### Reads of host memory asked for (R82, R752) -/

theorem touches_setRing (s : State) (k : Nat) (r : Ring) : Touches [.rings] [] s (s.setRing k r) := touches_parts [.rings] rfl

theorem touches_askData (s : State) (src : Nat) (c : Cmd) : Touches [.rings, .out] [] s (askData s src c) := by
  unfold askData
  split
  · exact Touches.refl s
  · exact Touches.ite (fun _ => Touches.refl s) (fun _ => (touches_setRing s src _).mono.then (touches_send _ (gs := [])))

theorem touches_askAll (s : State) (src : Nat) : Touches [.rings, .out] [] s (askAll s src) :=
  Touches.foldl (fun t c _ => touches_askData t src c) s

theorem touches_startFetch (s : State) (k : Nat) : Touches [.rings, .out] [] s (startFetch s k) := by
  unfold startFetch
  exact Touches.ite (fun _ => Touches.ite (fun _ => Touches.refl s)
    (fun _ => (touches_setRing s k _).mono.then (touches_send _ (gs := [])))) (fun _ => Touches.refl s)

theorem touches_readsGo (s : State) : Touches [.rings, .out] [] s (readsGo s) := by
  unfold readsGo
  exact Touches.ite (fun _ => Touches.foldl (fun t k _ => Touches.trans (Touches.ite (fun _ => touches_startFetch t k)
    (fun _ => Touches.refl t)) (touches_askAll _ k)) s) (fun _ => Touches.refl s)

/-! ### Vectors (R76, R77) -/

/-- Of two numbers of 32 bits, the bit cleared is the one that stands at its place. -/
theorem bit_clear (n v i : Nat) (hi : i < 32) :
    bit (n &&& ((2 ^ 32 - 1) ^^^ 2 ^ v)) i = (bit n i && i != v) := by
  rw [bit_eq_testBit, bit_eq_testBit, Nat.testBit_and, Nat.testBit_xor, Nat.testBit_two_pow_sub_one, Nat.testBit_two_pow, decide_eq_true hi, Bool.true_xor, bne, beq_eq_decide]
  simp only [eq_comm]

theorem bit_set (n v i : Nat) : bit (n ||| 2 ^ v) i = (bit n i || i == v) := by
  rw [bit_eq_testBit, bit_eq_testBit, Nat.testBit_or, Nat.testBit_two_pow, beq_eq_decide]
  simp only [eq_comm]

/-- Firing one vector leaves the bits of another. -/
theorem fireVector_bits_ne (s : State) {v w : Nat} (hw : w < 32) (h : w ≠ v) :
    bit (fireVector s v).host.vecDue w = bit s.host.vecDue w ∧ bit (fireVector s v).host.disarmed w = bit s.host.disarmed w := by
  have hne : (w == v) = false := beq_eq_false_iff_ne.2 h
  unfold fireVector
  split
  · exact ⟨rfl, rfl⟩
  · split
    · simp only [bit_clear _ v w hw, bit_set, hne, bne, Bool.not_false, Bool.and_true, Bool.or_false, and_self]
    · simp only [bit_set, hne, Bool.or_false, and_self]

/-- An armed vector with the bus open to it and no mask sends its message. -/
theorem fireVector_sends {s : State} {v : Nat} (harm : bit s.host.disarmed v = false) (hbm : s.host.busMaster = true)
    (hmask : bit s.host.vecMask v = false) :
    (fireVector s v).out = s.out ++ [.msix v] ∧ bit (fireVector s v).host.disarmed v = true ∧ (fireVector s v).regs = s.regs := by
  simp only [fireVector, harm, hbm, hmask, Bool.not_false, Bool.and_true, Bool.false_eq_true, if_false, if_true, bit_set, beq_self_eq_true,
    Bool.or_true, and_self]

theorem touches_fireVector (s : State) (v : Nat) : Touches [.host, .out] [] s (fireVector s v) := by
  unfold fireVector
  exact Touches.ite (fun _ => Touches.refl s) (fun _ => Touches.ite (fun _ => touches_parts [.host, .out] rfl) (fun _ => touches_parts [.host, .out] rfl))

theorem fireVector_out (s : State) (v : Nat) : s.out <+: (fireVector s v).out := by
  unfold fireVector
  split
  · exact List.prefix_refl _
  · split
    · exact List.prefix_append _ _
    · exact List.prefix_refl _

/-- Message of a vector that is due. -/
def releaseOne (s : State) (v : Nat) : State := if bit s.host.vecDue v then fireVector s v else s

theorem touches_releaseOne (s : State) (v : Nat) : Touches [.host, .out] [] s (releaseOne s v) :=
  Touches.ite (fun _ => touches_fireVector s v) (fun _ => Touches.refl s)

theorem releaseOne_host (s : State) (v : Nat) : (releaseOne s v).host =
    { s.host with disarmed := (releaseOne s v).host.disarmed, vecDue := (releaseOne s v).host.vecDue } := by
  unfold releaseOne
  split
  · exact fireVector_host s v
  · rfl

theorem releaseOne_out (s : State) (v : Nat) : s.out <+: (releaseOne s v).out := by
  unfold releaseOne
  split
  · exact fireVector_out s v
  · exact List.prefix_refl _

theorem foldl_releaseOne_host (l : List Nat) (s : State) : (l.foldl releaseOne s).host =
    { s.host with disarmed := (l.foldl releaseOne s).host.disarmed, vecDue := (l.foldl releaseOne s).host.vecDue } := by
  induction l generalizing s with
  | nil => rfl
  | cons v l ih => rw [List.foldl_cons, ih, releaseOne_host]

theorem foldl_releaseOne_out (l : List Nat) (s : State) : s.out <+: (l.foldl releaseOne s).out := by
  induction l generalizing s with
  | nil => exact List.prefix_refl _
  | cons v l ih => exact (releaseOne_out s v).trans (ih _)

theorem foldl_releaseOne_bits_ne (l : List Nat) (s : State) {w : Nat} (hw : w < 32) (h : w ∉ l) :
    bit (l.foldl releaseOne s).host.vecDue w = bit s.host.vecDue w ∧
      bit (l.foldl releaseOne s).host.disarmed w = bit s.host.disarmed w := by
  induction l generalizing s with
  | nil => exact ⟨rfl, rfl⟩
  | cons v l ih =>
    obtain ⟨hdue, harm⟩ := ih (releaseOne s v) (fun hm => h (List.mem_cons_of_mem _ hm))
    have hone : bit (releaseOne s v).host.vecDue w = bit s.host.vecDue w ∧ bit (releaseOne s v).host.disarmed w = bit s.host.disarmed w := by
      unfold releaseOne
      split
      · exact fireVector_bits_ne s hw (fun e => h (e ▸ List.mem_cons_self ..))
      · exact ⟨rfl, rfl⟩
    exact ⟨hdue.trans hone.1, harm.trans hone.2⟩

theorem touches_releaseDue (s : State) : Touches [.host, .out] [] s (releaseDue s) :=
  Touches.ite (fun _ => Touches.foldl (fun t v _ => touches_releaseOne t v) s) (fun _ => Touches.refl s)

theorem releaseDue_host (s : State) : (releaseDue s).host =
    { s.host with disarmed := (releaseDue s).host.disarmed, vecDue := (releaseDue s).host.vecDue } := by
  unfold releaseDue
  split
  · exact foldl_releaseOne_host _ s
  · rfl

/-- A message that is due and held by nothing goes out. -/
theorem releaseDue_sends {s : State} {v : Nat} (hv : v < 32) (hx : s.host.msixEnable = true) (hbm : s.host.busMaster = true)
    (hmask : bit s.host.vecMask v = false) (hdue : bit s.host.vecDue v = true) (harm : bit s.host.disarmed v = false) :
    Out.msix v ∈ (releaseDue s).out.drop s.out.length := by
  have hsplit : List.range 32 = List.range v ++ v :: (List.range (31 - v)).map (v + 1 + ·) := by
    rw [show (32 : Nat) = v + 1 + (31 - v) by omega, List.range_add, List.range_succ, List.append_assoc]
    simp
  have hform : releaseDue s = (List.range 32).foldl releaseOne s := by
    rw [releaseDue, hx]
    rfl
  obtain ⟨hdue', harm'⟩ := foldl_releaseOne_bits_ne (List.range v) s hv (by simp)
  have hhost := foldl_releaseOne_host (List.range v) s
  obtain ⟨pre, hpre⟩ := foldl_releaseOne_out (List.range v) s
  rw [hform, hsplit, List.foldl_append, List.foldl_cons]
  generalize (List.range v).foldl releaseOne s = u at hdue' harm' hhost hpre
  have hone : (releaseOne u v).out = u.out ++ [.msix v] := by
    rw [releaseOne, hdue', hdue, if_pos rfl]
    exact (fireVector_sends (harm'.trans harm) (by rw [hhost]; exact hbm) (by rw [hhost]; exact hmask)).1
  obtain ⟨post, hpost⟩ := foldl_releaseOne_out ((List.range (31 - v)).map (v + 1 + ·)) (releaseOne u v)
  rw [← hpost, hone, ← hpre]
  simp

/-! ### Configuration space (R79, R80) -/

theorem busControl_spec (s : State) (bm mx ix : Bool) : (busControl s bm mx ix).host.busMaster = bm ∧
    (busControl s bm mx ix).host.msixEnable = mx ∧ (busControl s bm mx ix).host.intxDisable = ix ∧
    Touches [.host, .out, .rings] [] s (busControl s bm mx ix) := by
  have hhost : ∀ u : State, (fire (releaseDue (readsGo u))).host.busMaster = u.host.busMaster ∧
      (fire (releaseDue (readsGo u))).host.msixEnable = u.host.msixEnable ∧ (fire (releaseDue (readsGo u))).host.intxDisable = u.host.intxDisable := fun u => by
    have h : (readsGo u).host = u.host := (touches_readsGo u).part .host (by decide)
    rw [fire_host, releaseDue_host, h]
    exact ⟨rfl, rfl, rfl⟩
  obtain ⟨hb, hm, hi⟩ := hhost { s with host := { s.host with busMaster := bm, msixEnable := mx, intxDisable := ix } }
  refine ⟨hb, hm, hi, ?_⟩
  have hset : Touches [.host, .out, .rings] [] s { s with host := { s.host with busMaster := bm, msixEnable := mx, intxDisable := ix } } :=
    (touches_parts [.host] rfl : Touches [.host] [] s _).mono
  exact ((hset.then (touches_readsGo _)).then (touches_releaseDue _)).then touches_fire

theorem barWord_put (s : State) (n : Nat) (w : Word) (m : Nat) :
    barWord { s with host := { s.host with cfg := { s.host.cfg with bars := Tbl.put (fun _ => 0#32) s.host.cfg.bars n w } } } m =
      if m = n then w ||| (if n = 0 || n = 2 then 4#32 else 0#32) else barWord s m := by
  by_cases h : m = n
  · rw [if_pos h, h]
    exact congrArg (· ||| _) (Tbl.get_put_self _ _ _ _)
  · rw [if_neg h]
    exact congrArg (· ||| _) (Tbl.get_put_ne _ _ _ h)

theorem bar_stored (n : Fin 6) (data : Word) : (data &&& barMask n.val) ||| (if n.val = 0 || n.val = 2 then 4#32 else 0#32) =
    if n.val = 0 then (data &&& 0xFFC00000#32) ||| 4#32 else if n.val = 2 then (data &&& 0xFFFFC000#32) ||| 4#32
    else if n.val < 4 then data else 0#32 := by
  have hall : data &&& 0xFFFFFFFF#32 = data := BitVec.and_allOnes
  match n with
  | 0 => rfl
  | 1 => simp [barMask, hall]
  | 2 => rfl
  | 3 => simp [barMask, hall]
  | 4 => simp [barMask]
  | 5 => simp [barMask]

/-! ### The link (R79, R81) -/

/-- The word that PCIE_LINK_CHANGE shows. -/
def linkWord (s : State) (up : Bool) (speed width : Nat) : Word :=
  insBits (insBits (insBits (s.reg A.HIF_STATUS) 0 1 (b01 up)) 1 3 (if up then speed else 0)) 4 2 (if up then width else 0)

theorem linkWord_fields (s : State) (up : Bool) {speed width : Nat} (hs : speed < 8) (hw : width < 4) :
    bitsOf (linkWord s up speed width).toNat 0 1 = b01 up ∧ bitsOf (linkWord s up speed width).toNat 1 3 = (if up then speed else 0) ∧
      bitsOf (linkWord s up speed width).toNat 4 2 = (if up then width else 0) := by
  unfold linkWord
  refine ⟨?_, ?_, ?_⟩
  · rw [bitsOf_insBits_apart _ _ _ _ _ _ (by decide) (by decide), bitsOf_insBits_apart _ _ _ _ _ _ (by decide) (by decide),
      bitsOf_insBits _ _ _ _ (by decide)]
    cases up <;> rfl
  · rw [bitsOf_insBits_apart _ _ _ _ _ _ (by decide) (by decide), bitsOf_insBits _ _ _ _ (by decide)]
    split <;> omega
  · rw [bitsOf_insBits _ _ _ _ (by decide)]
    split <;> omega

theorem linkChange_eq (s : State) (up : Bool) (speed width : Nat) : linkChange s up speed width =
    if linkWord s up speed width = s.reg A.HIF_STATUS then s
    else setCause (s.setReg A.HIF_STATUS (linkWord s up speed width)) 0x04 0 := rfl

theorem linkChange_reg (s : State) (up : Bool) (speed width : Nat) :
    (linkChange s up speed width).reg A.HIF_STATUS = linkWord s up speed width := by
  rw [linkChange_eq]
  by_cases h : linkWord s up speed width = s.reg A.HIF_STATUS
  · rw [if_pos h, h]
  · rw [if_neg h, setCause_reg_ne _ _ _ (by decide), State.reg_setReg_self]

theorem touches_linkChange (s : State) (up : Bool) (speed width : Nat) :
    Touches [.regs, .host, .out] [0x04] s (linkChange s up speed width) :=
  Touches.ite (fun _ => Touches.refl s) (fun _ => (touches_setReg A.HIF_STATUS _).mono.then (touches_setCause 0x04 0))

theorem linkChange_spec (s : State) (up : Bool) (speed : Fin 8) (width : Fin 4) :
    (linkChange s up speed width).flag F.HIF_STATUS_LINK_UP = up ∧
      (linkChange s up speed width).fld F.HIF_STATUS_SPEED = (if up then speed.val else 0) ∧
      (linkChange s up speed width).fld F.HIF_STATUS_WIDTH = (if up then width.val else 0) ∧
      ((linkChange s up speed width).reg A.HIF_STATUS ≠ s.reg A.HIF_STATUS → causeSet (linkChange s up speed width) 0x04 0 = true) ∧
      OnlyRegs s (linkChange s up speed width) [A.HIF_STATUS, 0x04010] := by
  obtain ⟨hup, hspeed, hwidth⟩ := linkWord_fields s up speed.isLt width.isLt
  refine ⟨?_, ?_, ?_, ?_, ?_⟩
  · rw [State.flag, State.fld, linkChange_reg]
    refine (congrArg (· == 1) hup).trans ?_
    cases up <;> rfl
  · rw [State.fld, linkChange_reg]
    exact hspeed
  · rw [State.fld, linkChange_reg]
    exact hwidth
  · intro h
    rw [linkChange_reg] at h
    rw [linkChange_eq, if_neg h, causeSet_setCause _ _ _ _ (by decide), beq_self_eq_true, Bool.or_true]
  · rw [linkChange_eq]
    split
    · exact fun _ _ => rfl
    · exact (onlyRegs_setReg s A.HIF_STATUS _).trans (onlyRegs_setCause _ 0x04 0)

/-- The state that shows a poisoned write in Advanced Error Reporting. -/
def poisonShown (s : State) : State :=
  { s with host := { s.host with cfg := { s.host.cfg with aer := s.host.cfg.aer ||| 0x1000#32 } } }

theorem poisonedWrite_spec (s : State) (a : Nat) : causeSet (poisonedWrite s a) 0x04 31 = true ∧
    bit (poisonedWrite s a).host.cfg.aer.toNat 12 = true ∧ errCaptured s (poisonedWrite s a) 0x04 0x80 0x01 a ∧
    OnlyRegs s (poisonedWrite s a) [0x04010, 0x0401C, 0x04020] ∧ Touches [.regs, .host, .out] [0x04] s (poisonedWrite s a) := by
  have hform : poisonedWrite s a = recordErr (poisonShown s) 0x04 0x80 0x01 a := rfl
  have hregs : OnlyRegs (poisonShown s) (recordErr (poisonShown s) 0x04 0x80 0x01 a) [0x04010, 0x0401C, 0x04020] := onlyRegs_recordErr _ _ _ _ _
  have hcfg : (recordErr (poisonShown s) 0x04 0x80 0x01 a).host.cfg = (poisonShown s).host.cfg := by
    rw [recordErr, setCause_host]
    split <;> rfl
  have hshown : Touches [.host] [] s (poisonShown s) := touches_parts [.host] rfl
  rw [hform]
  refine ⟨causeSet_recordErr _ _ _ _ _, ?_, errCaptured_recordErr (poisonShown s) 0x04 a (by decide) (by decide), hregs,
    hshown.mono.then (touches_recordErr 0x04 0x80 0x01 a)⟩
  rw [hcfg]
  exact (bit_or s.host.cfg.aer 0x1000#32 12).trans (Bool.or_true _)

/-! ### BAR2 and VEC_REARM -/

theorem maskWrite_clear (s : State) {v : Nat} (hv : v < 32) :
    bit (maskWrite s v false).host.vecMask v = false ∧
      (s.host.msixEnable = true → s.host.busMaster = true → bit s.host.vecDue v = true → bit s.host.disarmed v = false →
        Out.msix v ∈ (maskWrite s v false).out.drop s.out.length) ∧ Touches [.host, .out] [] s (maskWrite s v false) := by
  have hmask : bit (s.host.vecMask &&& ((2 ^ 32 - 1) ^^^ 2 ^ v)) v = false := by
    rw [bit_clear _ v v hv, bne_self_eq_false, Bool.and_false]
  have hform : maskWrite s v false = releaseDue { s with host := { s.host with vecMask := s.host.vecMask &&& ((2 ^ 32 - 1) ^^^ 2 ^ v) } } := rfl
  rw [hform]
  refine ⟨?_, fun hx hbm hdue harm => ?_, ?_⟩
  · rw [releaseDue_host]
    exact hmask
  · exact releaseDue_sends (s := { s with host := { s.host with vecMask := s.host.vecMask &&& ((2 ^ 32 - 1) ^^^ 2 ^ v) } })
      hv hx hbm hmask hdue harm
  · exact (touches_parts [.host] rfl : Touches [.host] [] s _).mono.trans (touches_releaseDue _)

/-- The state after a vector is armed. -/
def armed (s : State) (v : Nat) : State :=
  { s with host := { s.host with disarmed := s.host.disarmed &&& ((2 ^ 32 - 1) ^^^ 2 ^ v) } }

theorem rearm_eq {s : State} (hx : s.host.msixEnable = true) (v : Nat) :
    rearm s v = if (activeVectors s).contains v then fireVector (armed s v) v else armed s v := by
  rw [rearm, if_pos hx]
  rfl

theorem armed_disarmed (s : State) {v : Nat} (hv : v < 32) : bit (armed s v).host.disarmed v = false := by
  refine (bit_clear s.host.disarmed v v hv).trans ?_
  rw [bne_self_eq_false, Bool.and_false]

/-- Settles O28: configuration space, the link, poisoned writes, BAR2 and VEC_REARM. -/
theorem linkBusMasterAndVectorsOfTheHost : Obligations.LinkBusMasterAndVectorsOfTheHost := by
  unfold Obligations.LinkBusMasterAndVectorsOfTheHost
  intro s hs
  refine ⟨fun bm mx ix => ?_, fun big shift d3 l1 mx ix => ⟨next_of_answers hs, next_of_answers hs, next_of_answers hs⟩,
    fun n data bits mx ix => ⟨?_, next_of_answers hs⟩, fun up speed width hp => ?_, fun addr => ?_,
    fun off data masked => ⟨next_of_answers hs, fun h => ?_, fun hlo hctl => ?_⟩, fun v => ⟨?_, ?_⟩, fun src data hop => ?_⟩
  · obtain ⟨hb, hm, hi, ht⟩ := busControl_spec s bm mx ix
    exact ⟨_, next_of_answers hs, hb, hm, hi, ht.eq⟩
  · refine ⟨_, next_of_answers hs, rfl, ?_, fun m hm => ?_⟩
    · exact (barWord_put s n.val _ n.val).trans ((if_pos rfl).trans (bar_stored n data))
    · exact (barWord_put s n.val _ m).trans (if_neg hm)
  · obtain ⟨hup, hspeed, hwidth, hcause, hregs⟩ := linkChange_spec s up speed width
    exact ⟨_, congrArg Host.Outcome.next (if_pos (by rw [hs, hp]; rfl)), hup, hspeed, hwidth, hcause, hregs, (touches_linkChange s up _ _).eq⟩
  · obtain ⟨hcause, haer, hcap, hregs, ht⟩ := poisonedWrite_spec s (wordAddr addr)
    exact ⟨_, congrArg Host.Outcome.next (if_pos hs), hcause, haer, hcap, hregs, ht.eq⟩
  · refine (next_of_answers hs).trans (congrArg Host.Outcome.next ?_)
    exact if_pos h
  · refine ⟨_, (next_of_answers hs).trans (congrArg Host.Outcome.next ((if_neg (Nat.not_le.2 hlo)).trans (if_neg hctl))), ?_, rfl⟩
    refine (if_pos hlo).trans ((if_neg hctl).trans ?_)
    exact Tbl.get_put_self _ _ _ _
  · refine ⟨_, next_of_answers hs, ?_, rfl⟩
    refine (bit_set s.host.vecMask v.val v.val).trans ?_
    rw [beq_self_eq_true, Bool.or_true]
  · obtain ⟨hmask, hsend, ht⟩ := maskWrite_clear s v.isLt
    exact ⟨_, next_of_answers hs, hmask, hsend, ht.eq⟩
  · have hexec : exec (.vecRearmWrite src data) s = .next (rearm s (data.toNat % 32)) := by
      refine congrArg Host.Outcome.next ((gateWrite_inOperation hop (by decide +kernel) src _).trans ?_)
      rw [bitsOf, Nat.pow_zero, Nat.div_one]
      rfl
    have hlt : data.toNat % 32 < 32 := Nat.mod_lt _ (by decide)
    refine ⟨fun hx => ?_, fun hx hno => ⟨_, hexec, ?_⟩, fun hx hyes hbm hmask => ⟨_, hexec, ?_⟩⟩
    · rw [hexec, rearm, hx]
      rfl
    · rw [rearm_eq hx, hno, if_neg Bool.false_ne_true]
      exact ⟨armed_disarmed s hlt, rfl⟩
    · rw [rearm_eq hx, if_pos hyes]
      exact fireVector_sends (s := armed s (data.toNat % 32)) (armed_disarmed s hlt) hbm hmask

end Sys2Proof.Machine
end

section
/-!
PROOFS. Frames on the management SPI (03_host_interface.md, Management SPI): the statement O29.
-/
namespace Sys2Proof.Machine

-- One proof after another: side by side, the threads of so long a text want more memory than the check grants.
set_option Elab.async false

/-- The counters that the statement reads and writes. -/
def IsCounter (a : Nat) : Prop := a = A.CAD_FOREIGN ∨ a = A.CAD_RELAY_DROPS

theorem insBits_all (w d : Word) : insBits w 0 32 (bitsOf d.toNat 0 32) = d := by
  apply BitVec.eq_of_getLsbD_eq
  intro i hi
  rw [getLsbD_insBits _ _ _ _ _ (by decide), if_pos ⟨Nat.zero_le _, by omega⟩, testBit_bitsOf, BitVec.testBit_toNat]
  simp [hi]

/-- A counter of a whole word takes the word written. -/
theorem writeFields_counter (s : State) (src : Requester) (data : Word) {a off n stride reset lock : Nat}
    (hspec : specOf a = some ⟨off, n, stride, reset, [⟨0, 32, .cnt, lock⟩]⟩) : writeFields s src a data allBits = s.setReg a data := by
  refine writeFields_of_foldl s src a data allBits hspec (w := data) (reserved := false) ?_
  rw [List.foldl_cons, List.foldl_nil, applyField_cnt s a _ off data _ lock (by decide) (by decide), insBits_all]

section
variable {s : State} (hs : s.inOperation = true)

theorem State.inOperation_setReg (a : Nat) (w : Word) (h : A.SYS_STATUS ≠ a) : (s.setReg a w).inOperation = s.inOperation := by
  rw [State.inOperation, State.answers, State.devState, State.fld, State.reg_setReg_ne s w h]
  rfl

include hs

theorem spiStore_counter {a : Nat} (ha : IsCounter a) (w : Word) : spiStore s a w = s.setReg a w := by
  rcases ha with rfl | rfl
  · exact (gateWrite_inOperation hs (by decide +kernel) .spi _).trans
      (writeFields_counter s .spi w (a := A.CAD_FOREIGN) (off := 124) (n := 1) (stride := 4) (reset := 0) (lock := 32) (by decide +kernel))
  · exact (gateWrite_inOperation hs (by decide +kernel) .spi _).trans
      (writeFields_counter s .spi w (a := A.CAD_RELAY_DROPS) (off := 128) (n := 1) (stride := 4) (reset := 0) (lock := 32) (by decide +kernel))

theorem decodes_counter {a : Nat} (ha : IsCounter a) : decodes s .spi a = true := by
  have himp : implemented a = true := by rcases ha with rfl | rfl <;> decide +kernel
  simp only [decodes, himp, State.pageOpen_of_inOperation hs, Bool.and_self]

/-- A word read over SPI leaves no trace of its own. -/
theorem spiWord_counter {a : Nat} (ha : IsCounter a) : spiWord s a = (some (s.reg a), s) := by
  have hread : gateRead s .spi a (fun s => routeRead s .spi a) = s.send (.readData .spi a (s.reg a)) := by
    rcases ha with rfl | rfl
    · exact gateRead_inOperation hs (by decide +kernel) .spi _
    · exact gateRead_inOperation hs (by decide +kernel) .spi _
  have hout : (s.send (.readData .spi a (s.reg a))).out.drop s.out.length = [.readData .spi a (s.reg a)] := by
    rw [State.send, List.drop_left]
  simp only [spiWord, hread, hout, spiShown, List.filter_cons, spiOwn, Bool.not_true, Bool.false_eq_true, if_false, List.filter_nil,
    List.append_nil]
  rfl
end

theorem spiOn_of {s : State} (hs : s.inOperation = true) (hif : s.fld F.HIF_CTRL_HOST_IF ≠ 0) : spiOn s = true := by
  rw [spiOn, State.answers_of_inOperation hs, Bool.true_and, bne_iff_ne]
  exact hif

theorem spiStatus_err (s : State) (prev err : Bool) : bit (spiStatus s prev err).toNat 0 = err := by
  rw [spiStatus]
  cases spiIrq s <;> cases prev <;> cases err <;> rfl

theorem spiStatus_prev (s : State) (prev err : Bool) : bit (spiStatus s prev err).toNat 2 = prev := by
  rw [spiStatus]
  cases spiIrq s <;> cases prev <;> cases err <;> rfl

/-- The byte address of a counter as a frame names it. -/
theorem spiAddr_foreign : spiAddr 0x1E07C 0 = A.CAD_FOREIGN ∧ spiAddr 0x1E07C 1 = A.CAD_RELAY_DROPS := by decide

section
variable {s : State} (hs : s.inOperation = true) (w0 w1 : Word)
include hs

theorem spiStores_one : spiStores 0x1E07C [w0] 0 (s, false) = (s.setReg A.CAD_FOREIGN w0, false) := by
  have ha : IsCounter A.CAD_FOREIGN := Or.inl rfl
  simp only [spiStores, spiAddr_foreign.1, spiStore_counter hs ha, decodes_counter hs ha, Bool.not_true, Bool.or_self]

theorem spiStores_two : spiStores 0x1E07C [w0, w1] 0 (s, false) =
    ((s.setReg A.CAD_FOREIGN w0).setReg A.CAD_RELAY_DROPS w1, false) := by
  have ha : IsCounter A.CAD_FOREIGN := Or.inl rfl
  have hb : IsCounter A.CAD_RELAY_DROPS := Or.inr rfl
  have hs' : (s.setReg A.CAD_FOREIGN w0).inOperation = true := (State.inOperation_setReg _ _ (by decide)).trans hs
  simp only [spiStores, spiAddr_foreign, spiStore_counter hs ha, decodes_counter hs ha, Nat.zero_add, spiStore_counter hs' hb,
    decodes_counter hs' hb, Bool.not_true, Bool.or_self]

theorem spiReads_one : spiReads s 0x1E07C 1 =
    spiEnd s false (spiStatus s s.host.spiPrevBad false :: beBytes 4 (s.reg A.CAD_FOREIGN).toNat) := by
  have ha : IsCounter A.CAD_FOREIGN := Or.inl rfl
  simp only [spiReads, spiAddr_foreign.1, spiWord_counter hs ha, Nat.sub_self, spiRest, Option.isNone_some, Option.getD_some, List.append_nil]

theorem spiReads_two : spiReads s 0x1E07C 2 = spiEnd s false (spiStatus s s.host.spiPrevBad false ::
    beBytes 4 (s.reg A.CAD_FOREIGN).toNat ++ beBytes 4 (s.reg A.CAD_RELAY_DROPS).toNat) := by
  have ha : IsCounter A.CAD_FOREIGN := Or.inl rfl
  have hb : IsCounter A.CAD_RELAY_DROPS := Or.inr rfl
  simp only [spiReads, spiAddr_foreign, spiWord_counter hs ha, spiWord_counter hs hb, spiRest, Option.isNone_some, Option.getD_some,
    List.append_nil]
end

/-- The state after a frame: what is remembered of it, and its bytes. -/
theorem spiEnd_spec (s : State) (bad : Bool) (bytes : List Byte) : (spiEnd s bad bytes).host.spiPrevBad = bad ∧
    (spiEnd s bad bytes).out = s.out ++ (if bytes.isEmpty then [] else [.spi bytes]) ∧ (spiEnd s bad bytes).regs = s.regs ∧
    SameMemory s (spiEnd s bad bytes) := by
  unfold spiEnd
  split
  · exact ⟨rfl, (List.append_nil _).symm, rfl, fun _ => rfl⟩
  · exact ⟨rfl, rfl, rfl, fun _ => rfl⟩

theorem onlyRegs_of_regs {s t u : State} {as : List Nat} (h : OnlyRegs s t as) (e : u.regs = t.regs) : OnlyRegs s u as :=
  fun a ha => (State.reg_congr e a).trans (h a ha)

theorem causeSet_of_regs {t u : State} (e : u.regs = t.regs) (page b : Nat) : causeSet u page b = causeSet t page b := by
  rw [causeSet, causeSet, State.reg_congr e]

/-- A malformed frame is an error of HIF once its complete words are stored. -/
theorem spiMalformed_spec {s t : State} {frame : SpiFault} {words : List Word} {bytes : List Byte}
    (hb : spiBroken s 0x1E07C words frame = (bytes, t)) (ht : t.answers = true) :
    (spiMalformed s 0x1E07C frame words).host.spiPrevBad = true ∧
      (spiMalformed s 0x1E07C frame words).regs = (recordErr t 0x04 0x82 Requester.spi.code 0x1E07C).regs ∧
      SameMemory t (spiMalformed s 0x1E07C frame words) := by
  have hform : spiMalformed s 0x1E07C frame words = spiEnd (recordErr t 0x04 0x82 Requester.spi.code 0x1E07C) true bytes := by
    simp only [spiMalformed, hb, ht, if_true]
    rfl
  rw [hform]
  obtain ⟨hbad, _, hregs, hmem⟩ := spiEnd_spec (recordErr t 0x04 0x82 Requester.spi.code 0x1E07C) true bytes
  exact ⟨hbad, hregs, ((touches_recordErr 0x04 0x82 Requester.spi.code 0x1E07C).ram (by decide)).trans hmem⟩

/-- A frame that ends before a whole word stores nothing and reads nothing. -/
theorem spiBroken_none (s : State) (addr : RegAddr) (f : SpiFault)
    (hf : f ∈ [SpiFault.write, .writeInc, .read false, .readInc 0, .unknown]) : spiBroken s addr [] f = ([], s) := by
  simp only [List.mem_cons, List.not_mem_nil, or_false] at hf
  rcases hf with rfl | rfl | rfl | rfl | rfl <;> rfl

/-- A write that does not decode is a bus error. -/
theorem spiStore_undecoded {s : State} (hs : s.answers = true) {a : Nat} (hd : decodes s .spi a = false) (w : Word) :
    spiStore s a w = busError s .spi a := by
  unfold decodes at hd
  unfold spiStore gateWrite
  rw [hs]
  by_cases himp : implemented a = true
  · have hopen : s.pageOpen (a / 0x1000) = false := by rwa [himp, Bool.true_and] at hd
    rw [himp, hopen]
    rfl
  · rw [Bool.not_eq_true _ |>.mp himp]
    rfl

/-- Settles O29: SPI frames on two counters that lie side by side, malformed frames, and a write that does not decode. -/
theorem spiFramesReadAndWriteRegisters : Obligations.SpiFramesReadAndWriteRegisters := by
  unfold Obligations.SpiFramesReadAndWriteRegisters
  intro s w0 w1 hs hif
  have hon := spiOn_of hs hif
  have hans := State.answers_of_inOperation hs
  refine ⟨?_, ?_, ?_, ?_, ?_, fun f hf => ?_, fun addr hd => ?_⟩
  · have hstate : spiWrites s 0x1E07C [w0] = spiEnd (s.setReg A.CAD_FOREIGN w0) false
        [spiStatus (s.setReg A.CAD_FOREIGN w0) s.host.spiPrevBad false] := by rw [spiWrites, spiStores_one hs]
    obtain ⟨hbad, hout, hregs, hmem⟩ := spiEnd_spec (s.setReg A.CAD_FOREIGN w0) false
      [spiStatus (s.setReg A.CAD_FOREIGN w0) s.host.spiPrevBad false]
    refine ⟨_, _, congrArg Host.Outcome.next ((if_pos hon).trans hstate), ?_, onlyRegs_of_regs (onlyRegs_setReg s A.CAD_FOREIGN w0) hregs, hout,
      spiStatus_err _ _ _, spiStatus_prev _ _ _, hbad, fun a => hmem a⟩
    rw [State.reg_congr hregs, State.reg_setReg_self]
  · obtain ⟨hbad, hout, hregs, hmem⟩ := spiEnd_spec s false
      (spiStatus s s.host.spiPrevBad false :: beBytes 4 (s.reg A.CAD_FOREIGN).toNat)
    exact ⟨_, _, congrArg Host.Outcome.next ((if_pos hon).trans (spiReads_one hs)), hout, spiStatus_err _ _ _, spiStatus_prev _ _ _, hregs, hmem⟩
  · have hstate : spiWrites s 0x1E07C [w0, w1] = spiEnd ((s.setReg A.CAD_FOREIGN w0).setReg A.CAD_RELAY_DROPS w1) false
        [spiStatus ((s.setReg A.CAD_FOREIGN w0).setReg A.CAD_RELAY_DROPS w1) s.host.spiPrevBad false] := by rw [spiWrites, spiStores_two hs]
    obtain ⟨_, hout, hregs, _⟩ := spiEnd_spec ((s.setReg A.CAD_FOREIGN w0).setReg A.CAD_RELAY_DROPS w1) false
      [spiStatus ((s.setReg A.CAD_FOREIGN w0).setReg A.CAD_RELAY_DROPS w1) s.host.spiPrevBad false]
    refine ⟨_, _, congrArg Host.Outcome.next ((if_neg (by simp [hon])).trans hstate), ?_, ?_,
      onlyRegs_of_regs ((onlyRegs_setReg s A.CAD_FOREIGN w0).trans (onlyRegs_setReg _ A.CAD_RELAY_DROPS w1)) hregs, hout, spiStatus_err _ _ _⟩
    · rw [State.reg_congr hregs, State.reg_setReg_ne _ _ (by decide), State.reg_setReg_self]
    · rw [State.reg_congr hregs, State.reg_setReg_self]
  · obtain ⟨_, hout, hregs, _⟩ := spiEnd_spec s false (spiStatus s s.host.spiPrevBad false ::
      beBytes 4 (s.reg A.CAD_FOREIGN).toNat ++ beBytes 4 (s.reg A.CAD_RELAY_DROPS).toNat)
    exact ⟨_, _, congrArg Host.Outcome.next ((if_neg (by simp [hon])).trans ((if_neg (by decide)).trans (spiReads_two hs))), hregs, hout⟩
  · have hbroken : spiBroken s 0x1E07C [w0] .writeInc = ([], s.setReg A.CAD_FOREIGN w0) := by rw [spiBroken, spiStores_one hs]
    obtain ⟨hbad, hregs, _⟩ := spiMalformed_spec hbroken (State.answers_of_inOperation ((State.inOperation_setReg _ _ (by decide)).trans hs))
    have herr := onlyRegs_recordErr (s.setReg A.CAD_FOREIGN w0) 0x04 0x82 Requester.spi.code 0x1E07C
    refine ⟨_, congrArg Host.Outcome.next (if_pos hon), ?_, ?_, hbad, onlyRegs_of_regs ((onlyRegs_setReg s A.CAD_FOREIGN w0).trans herr) hregs⟩
    · rw [State.reg_congr hregs, herr _ (by decide), State.reg_setReg_self]
    · rw [causeSet_of_regs hregs, causeSet_recordErr]
  · obtain ⟨hbad, hregs, hmem⟩ := spiMalformed_spec (spiBroken_none s 0x1E07C f hf) hans
    refine ⟨_, congrArg Host.Outcome.next (if_pos hon), ?_, ?_, hbad, onlyRegs_of_regs (onlyRegs_recordErr s 0x04 0x82 Requester.spi.code 0x1E07C) hregs, hmem⟩
    · rw [causeSet_of_regs hregs, causeSet_recordErr]
    · have h := errCaptured_recordErr s 0x04 (code := 0x82) (src := Requester.spi.code) 0x1E07C (by decide) (by decide)
      unfold errCaptured at h ⊢
      rwa [State.reg_congr hregs, State.reg_congr hregs]
  · have haddr : spiAddr addr 0 = wordAddr addr := by
      have hlt : wordAddr addr < 0x100000 := by unfold wordAddr; omega
      rw [spiAddr, Nat.mul_zero, Nat.add_zero, Nat.mod_eq_of_lt hlt]
    have hstate : spiWrites s addr [w0] = spiEnd (busError s .spi (wordAddr addr)) false
        [spiStatus (busError s .spi (wordAddr addr)) s.host.spiPrevBad true] := by
      simp only [spiWrites, spiStores, haddr, spiStore_undecoded hans hd, hd, Bool.not_false, Bool.or_true]
    obtain ⟨_, hout, hregs, _⟩ := spiEnd_spec (busError s .spi (wordAddr addr)) false
        [spiStatus (busError s .spi (wordAddr addr)) s.host.spiPrevBad true]
    refine ⟨_, _, congrArg Host.Outcome.next ((if_pos hon).trans hstate), ?_, spiStatus_err (busError s .spi (wordAddr addr)) s.host.spiPrevBad true, ?_,
      onlyRegs_of_regs (onlyRegs_recordErr s 0x04 0x02 Requester.spi.code (wordAddr addr)) hregs⟩
    · rw [hout]
      simp
    · rw [causeSet_of_regs hregs]
      exact causeSet_recordErr _ _ _ _ _

end Sys2Proof.Machine
end

section
/-!
PROOFS. Command and completion rings (03_host_interface.md, Ring states): the statement O30.
-/
namespace Sys2Proof.Machine

-- One proof after another: side by side, the threads of so long a text want more memory than the check grants.
set_option Elab.async false

/-! ### Rings and their registers -/

section
variable (s : State)

@[simp] theorem State.ring_setRing_self (k : Nat) (r : Ring) : (s.setRing k r).ring k = r := Tbl.get_put_self _ _ _ _

theorem State.ring_setRing_ne {j k : Nat} (r : Ring) (h : j ≠ k) : (s.setRing k r).ring j = s.ring j := Tbl.get_put_ne _ _ _ h

@[simp] theorem ringState_setRing (j k : Nat) (r : Ring) : ringState (s.setRing k r) j = ringState s j := rfl

variable {s}

theorem State.ring_congr {t : State} (h : t.rings = s.rings) (k : Nat) : t.ring k = s.ring k := by rw [State.ring, State.ring, h]

theorem ringState_congr {t : State} {k : Nat} (h : t.reg (A.CMD_RING_STATUS k) = s.reg (A.CMD_RING_STATUS k)) :
    ringState t k = ringState s k := State.fld_congr h

/-- The state of a ring just written. -/
theorem ringState_setFld_self (k : Nat) {v : Nat} (hv : v < 4) : ringState (s.setFld (F.CMD_RING_STATUS_STATE k) v) k = v :=
  (State.fld_setFld_self s (F.CMD_RING_STATUS_STATE k) v (show 0 + 2 ≤ 32 by decide)).trans (Nat.mod_eq_of_lt hv)

end

/-- Registers of ring `k` lie 64 bytes apart from those of another. -/
theorem ringStatus_ne {j k : Nat} (h : j ≠ k) : A.CMD_RING_STATUS j ≠ A.CMD_RING_STATUS k := by
  simp only [A.CMD_RING_STATUS]
  omega

/-- STATUS is none of the registers that a write of CTRL touches. -/
theorem ringStatus_notMem_ctrl (j k : Nat) : A.CMD_RING_STATUS j ∉ writtenRegs (A.CMD_RING_CTRL k) := by
  simp only [writtenRegs, A.CMD_RING_STATUS, A.CMD_RING_CTRL, List.mem_cons, List.not_mem_nil, or_false, not_or]
  omega

/-! ### A write of CTRL (R98, R99) -/

section
variable (s : State) (src : Requester) (k : Fin 4) (data : Word)

/-- The state once the fields of CTRL other than RESET are written. -/
def ctrlFields : State := writeFields s src (A.CMD_RING_CTRL k) data (allBits &&& 0xFFFFFFFD#32)

theorem touches_ctrlFields : Touches [.regs, .bus, .host, .out] [0x05] s (ctrlFields s src k data) := by
  have hp : A.CMD_RING_CTRL k / 0x1000 = 0x05 := by simp only [A.CMD_RING_CTRL]; omega
  exact hp ▸ touches_writeFields src (A.CMD_RING_CTRL k) data _

theorem onlyRegs_ctrlFields : OnlyRegs s (ctrlFields s src k data) (writtenRegs (A.CMD_RING_CTRL k)) := onlyRegs_writeFields s src _ data _

theorem ringState_ctrlFields (j : Nat) : ringState (ctrlFields s src k data) j = ringState s j :=
  ringState_congr (onlyRegs_ctrlFields s src k data _ (ringStatus_notMem_ctrl j k))

theorem ring_ctrlFields (j : Nat) : (ctrlFields s src k data).ring j = s.ring j :=
  State.ring_congr ((touches_ctrlFields s src k data).part .rings (by decide)) j

/-- The registers of a ring beyond CTRL and STATUS are not touched. -/
theorem ctrlFields_reg {a : Nat} (h : 0x05048 ≤ a) (hk : a % 0x40 ≠ 0) : (ctrlFields s src k data).reg a = s.reg a := by
  refine onlyRegs_ctrlFields s src k data a ?_
  simp only [writtenRegs, A.CMD_RING_CTRL, List.mem_cons, List.not_mem_nil, or_false, not_or]
  omega

theorem ringConfigOk_ctrlFields : ringConfigOk (ctrlFields s src k data) k = ringConfigOk s k := by
  have hreg : ∀ o, 8 ≤ o → o < 0x40 → (ctrlFields s src k data).reg (0x05040 + o + 0x40 * k) = s.reg (0x05040 + o + 0x40 * k) := fun o h8 h64 =>
    ctrlFields_reg s src k data (by omega) (by omega)
  have hbm : (ctrlFields s src k data).host.busMaster = s.host.busMaster := writeFields_busMaster s src _ data _
  have hsq : (ctrlFields s src k data).fld (F.CMD_RING_SIZE_SQ_LOG2 k) = s.fld (F.CMD_RING_SIZE_SQ_LOG2 k) :=
    State.fld_congr (hreg 0x18 (by decide) (by decide))
  have hcq : (ctrlFields s src k data).fld (F.CMD_RING_SIZE_CQ_LOG2 k) = s.fld (F.CMD_RING_SIZE_CQ_LOG2 k) :=
    State.fld_congr (hreg 0x18 (by decide) (by decide))
  have hwide : ∀ a, (ctrlFields s src k data).reg a = s.reg a → (ctrlFields s src k data).reg (a + 4) = s.reg (a + 4) →
      (ctrlFields s src k data).wide a = s.wide a := fun a h h' => by rw [State.wide, State.wide, h, h']
  have hsb := hwide (A.CMD_RING_SQ_BASE k) (hreg 0x08 (by decide) (by decide))
    (by have h := hreg 0x0C (by decide) (by decide); rwa [show 0x05040 + 0x0C + 0x40 * k.val = A.CMD_RING_SQ_BASE k + 4 by simp only [A.CMD_RING_SQ_BASE]; omega] at h)
  have hcb := hwide (A.CMD_RING_CQ_BASE k) (hreg 0x10 (by decide) (by decide))
    (by have h := hreg 0x14 (by decide) (by decide); rwa [show 0x05040 + 0x14 + 0x40 * k.val = A.CMD_RING_CQ_BASE k + 4 by simp only [A.CMD_RING_CQ_BASE]; omega] at h)
  rw [ringConfigOk, ringConfigOk, hbm, hsq, hcq, hsb, hcb]

/-- A write of CTRL is its fields, then RESET, then ENABLE. -/
theorem ringCtrlWrite_eq : ringCtrlWrite s src k data allBits =
    writeEnable (if bit data.toNat 1 then writeReset (ctrlFields s src k data) k else ctrlFields s src k data) src k (bit data.toNat 0) := by
  have h0 : bit allBits.toNat 0 = true := by decide
  have h1 : bit allBits.toNat 1 = true := by decide
  simp only [ringCtrlWrite, h0, h1, Bool.and_true, if_true]
  rfl
end

/-! ### ENABLE and RESET by the state of the ring (R98–R104) -/

section
variable {s : State} {k : Nat} (src : Requester)

theorem writeEnable_on_disabled (h : ringState s k = 0) : writeEnable s src k true = enableRing s src k := by simp only [writeEnable, h]

theorem writeEnable_off_disabled (h : ringState s k = 0) : writeEnable s src k false = s := by simp only [writeEnable, h]

theorem writeEnable_off_running (h : ringState s k = 1) : writeEnable s src k false =
    (s.setFld (F.CMD_RING_STATUS_STATE k) 2).setRing k { (s.ring k).quiet with heldEnable := false } := by simp only [writeEnable, h]

/-- An ENABLE written where a RESET is held is held with it. -/
theorem writeEnable_on_held (h : ringState s k = 2 ∨ ringState s k = 3) (ha : (s.ring k).resetArmed = true) :
    writeEnable s src k true = s.setRing k { s.ring k with heldEnable := true } := by
  rcases h with h | h <;> simp only [writeEnable, h, ha, if_true]

theorem writeReset_disabled (h : ringState s k = 0) : writeReset s k = clearPointers s k := by simp only [writeReset, h]

theorem writeReset_held (h : ringState s k = 2 ∨ ringState s k = 3) :
    writeReset s k = (s.setFld (F.CMD_RING_CTRL_RESET k) 1).setRing k { s.ring k with resetArmed := true } := by
  rcases h with h | h <;> simp only [writeReset, h]

end

/-! ### What a started fetch, an enabled ring and cleared pointers leave -/

section
variable (s : State) (k : Nat)

theorem startFetch_regs : (startFetch s k).regs = s.regs := (touches_startFetch s k).part .regs (by decide)

theorem startFetch_ring_ne {j : Nat} (h : j ≠ k) : (startFetch s k).ring j = s.ring j := by
  unfold startFetch
  simp only
  split
  · split
    · rfl
    · exact State.ring_setRing_ne s _ h
  · rfl

/-- The state of a ring that is enabled, before its first fetch. -/
def enabled : State := (s.setFld (F.CMD_RING_STATUS_STATE k) 1).setRing k { s.ring k with breakDue := true }

theorem enableRing_of_ok (src : Requester) (h : ringConfigOk s k = true) : enableRing s src k = startFetch (enabled s k) k := by
  rw [enableRing, if_pos h]
  rfl

theorem touches_enabled (hk : k < 4) : Touches [.regs, .rings] [0x05] s (enabled s k) := by
  have hp : (F.CMD_RING_STATUS_STATE k).addr / 0x1000 = 0x05 := by simp only [A.CMD_RING_STATUS]; omega
  exact ((touches_setFld (F.CMD_RING_STATUS_STATE k) 1).mono (by decide) (by rw [hp]; decide)).then (touches_setRing _ k _)

theorem enabled_ringState : ringState (enabled s k) k = 1 := by
  rw [enabled, ringState_setRing, ringState_setFld_self k (by decide)]

theorem enabled_ringState_ne {j : Nat} (h : j ≠ k) : ringState (enabled s k) j = ringState s j :=
  ringState_congr (State.reg_setReg_ne s _ (ringStatus_ne h))

/-- The four pointers of a ring are cleared. -/
def pointersCleared : State :=
  (((s.setReg (A.CMD_RING_SQ_TAIL k) 0#32).setReg (A.CMD_RING_SQ_HEAD k) 0#32).setReg (A.CMD_RING_CQ_HEAD k) 0#32).setReg (A.CMD_RING_CQ_TAIL k) 0#32

theorem clearPointers_eq : clearPointers s k = (pointersCleared s k).setRing k { (s.ring k).quiet with sqPhase := true, cqPhase := true } := rfl

/-- The registers of a ring's pointers. -/
def pointerRegs : List Nat := [A.CMD_RING_SQ_TAIL k, A.CMD_RING_SQ_HEAD k, A.CMD_RING_CQ_HEAD k, A.CMD_RING_CQ_TAIL k]

theorem onlyRegs_clearPointers : OnlyRegs s (clearPointers s k) (pointerRegs k) := by
  intro a ha
  simp only [pointerRegs, List.mem_cons, List.not_mem_nil, or_false, not_or] at ha
  obtain ⟨h1, h2, h3, h4⟩ := ha
  rw [clearPointers_eq]
  exact (State.reg_setReg_ne _ _ h4).trans ((State.reg_setReg_ne _ _ h3).trans ((State.reg_setReg_ne _ _ h2).trans (State.reg_setReg_ne _ _ h1)))

theorem clearPointers_zero : ∀ a ∈ pointerRegs k, (clearPointers s k).reg a = 0#32 := by
  have hpair : (pointerRegs k).Pairwise (· ≠ ·) := by
    simp only [pointerRegs, List.pairwise_cons, List.mem_cons, List.not_mem_nil, or_false, A.CMD_RING_SQ_TAIL, A.CMD_RING_SQ_HEAD, A.CMD_RING_CQ_HEAD,
      A.CMD_RING_CQ_TAIL]
    refine ⟨?_, ?_, ?_, ?_, List.Pairwise.nil⟩
    · intro a ha
      omega
    · intro a ha
      omega
    · intro a ha
      omega
    · exact fun a ha => ha.elim
  simp only [pointerRegs, List.pairwise_cons, List.mem_cons, List.not_mem_nil, or_false] at hpair
  obtain ⟨h1, h2, h3, -⟩ := hpair
  have hform : ∀ a, (clearPointers s k).reg a = (pointersCleared s k).reg a := fun _ => rfl
  simp only [pointerRegs, List.mem_cons, List.not_mem_nil, or_false, forall_eq_or_imp, forall_eq, hform, pointersCleared]
  refine ⟨?_, ?_, ?_, State.reg_setReg_self _ _ _⟩
  · rw [State.reg_setReg_ne _ _ (h1 _ (Or.inr (Or.inr rfl))), State.reg_setReg_ne _ _ (h1 _ (Or.inr (Or.inl rfl))),
      State.reg_setReg_ne _ _ (h1 _ (Or.inl rfl)), State.reg_setReg_self]
  · rw [State.reg_setReg_ne _ _ (h2 _ (Or.inr rfl)), State.reg_setReg_ne _ _ (h2 _ (Or.inl rfl)), State.reg_setReg_self]
  · rw [State.reg_setReg_ne _ _ (h3 _ rfl), State.reg_setReg_self]

theorem ringState_clearPointers (j : Nat) : ringState (clearPointers s k) j = ringState s j := by
  refine ringState_congr (onlyRegs_clearPointers s k _ ?_)
  simp only [pointerRegs, A.CMD_RING_STATUS, A.CMD_RING_SQ_TAIL, A.CMD_RING_SQ_HEAD, A.CMD_RING_CQ_HEAD, A.CMD_RING_CQ_TAIL, List.mem_cons,
    List.not_mem_nil, or_false, not_or]
  omega

end

/-! ### Entry to DISABLED (R103, R104) -/

section
variable (s : State) (k : Nat)

/-- A ring that has entered DISABLED, with a RESET that stayed pending done. -/
def disabledRing : State :=
  let y := s.setFld (F.CMD_RING_STATUS_STATE k) 0
  (if y.flag (F.CMD_RING_CTRL_RESET k) then clearPointers y k else y).setFld (F.CMD_RING_CTRL_RESET k) 0

/-- Of the ring, only what it fetched and its passes change. -/
theorem disabledRing_ring : ((disabledRing s k).ring k).heldEnable = (s.ring k).heldEnable ∧ ((disabledRing s k).ring k).cmds = (s.ring k).cmds ∧
    ((disabledRing s k).ring k).lost = (s.ring k).lost := by
  unfold disabledRing
  simp only
  split
  · have h : ∀ y : State, ((clearPointers y k).setFld (F.CMD_RING_CTRL_RESET k) 0).ring k = { (y.ring k).quiet with sqPhase := true, cqPhase := true } :=
      fun y => State.ring_setRing_self (pointersCleared y k) k _
    rw [h]
    exact ⟨rfl, rfl, rfl⟩
  · exact ⟨rfl, rfl, rfl⟩

theorem ringState_setFld_ctrl (x : State) (f : Fld) (v : Nat) (hf : f.addr = A.CMD_RING_CTRL k) (j : Nat) :
    ringState (x.setFld f v) j = ringState x j := by
  refine ringState_congr (onlyRegs_setFld x f v _ ?_)
  simp only [hf, A.CMD_RING_STATUS, A.CMD_RING_CTRL, List.mem_singleton]
  omega

theorem disabledRing_state : ringState (disabledRing s k) k = 0 := by
  unfold disabledRing
  rw [ringState_setFld_ctrl k _ _ _ rfl]
  split
  · rw [ringState_clearPointers, ringState_setFld_self k (by decide)]
  · exact ringState_setFld_self k (by decide)

theorem touches_clearPointers (hk : k < 4) : Touches [.regs, .rings] [0x05] s (clearPointers s k) := by
  refine ⟨fun p hp => ?_, fun a ha => onlyRegs_clearPointers s k a ?_⟩
  · rw [clearPointers_eq]
    cases p <;> first | rfl | exact absurd (by decide) hp
  · simp only [pointerRegs, A.CMD_RING_SQ_TAIL, A.CMD_RING_SQ_HEAD, A.CMD_RING_CQ_HEAD, A.CMD_RING_CQ_TAIL, List.mem_cons, List.not_mem_nil, or_false,
      not_or] at ha ⊢
    omega

/-- Registers of ring `k` lie in the page of CMD. -/
theorem ringCtrl_page (hk : k < 4) : A.CMD_RING_CTRL k / 0x1000 = 0x05 ∧ A.CMD_RING_STATUS k / 0x1000 = 0x05 := by
  simp only [A.CMD_RING_CTRL, A.CMD_RING_STATUS]
  omega

theorem touches_setRingFld (hk : k < 4) (f : Fld) (v : Nat) (hf : f.addr = A.CMD_RING_CTRL k ∨ f.addr = A.CMD_RING_STATUS k) :
    Touches [.regs, .rings] [0x05] s (s.setFld f v) := by
  have hp : f.addr / 0x1000 = 0x05 := by
    rcases hf with hf | hf <;> rw [hf]
    · exact (ringCtrl_page k hk).1
    · exact (ringCtrl_page k hk).2
  exact (touches_setFld f v).mono (by decide) (by rw [hp]; decide)

theorem touches_disabledRing (hk : k < 4) : Touches [.regs, .rings] [0x05] s (disabledRing s k) :=
  ((touches_setRingFld s k hk _ _ (Or.inr rfl)).trans (Touches.ite (fun _ => touches_clearPointers _ k hk) (fun _ => Touches.refl _))).trans
    (touches_setRingFld _ k hk _ _ (Or.inl rfl))

variable {s}

/-- Without a held ENABLE the ring stays DISABLED. -/
theorem enterDisabled_eq (h : (s.ring k).heldEnable = false) : enterDisabled s k =
    (disabledRing s k).setRing k { ((disabledRing s k).ring k).quiet with heldEnable := false, resetArmed := false } := by
  have hheld := (disabledRing_ring s k).1.trans h
  refine (if_neg ?_).trans rfl
  exact ne_true_of_eq_false hheld

end

/-! ### A RESET that takes effect (R103, R105) -/

section
variable (s : State) (k : Nat)

/-- The ring with its records discarded and its pointers cleared, ENABLE and RESET shown 0. -/
def resetRing : State :=
  let c := clearPointers (discardRecords s k) k
  (if ringState c k = 3 && !(c.ring k).heldEnable then c.setFld (F.CMD_RING_CTRL_ENABLE k) 0 else c).setFld (F.CMD_RING_CTRL_RESET k) 0

theorem resetEffect_eq : resetEffect s k = enterDisabled (resetRing s k) k := rfl

theorem resetRing_ring : (resetRing s k).ring k = { ((discardRecords s k).ring k).quiet with sqPhase := true, cqPhase := true } := by
  have hc : (clearPointers (discardRecords s k) k).ring k = { ((discardRecords s k).ring k).quiet with sqPhase := true, cqPhase := true } :=
    State.ring_setRing_self (pointersCleared (discardRecords s k) k) k _
  unfold resetRing
  simp only
  split <;> exact hc

theorem resetRing_cqTail : (resetRing s k).reg (A.CMD_RING_CQ_TAIL k) = 0#32 := by
  have hc : (clearPointers (discardRecords s k) k).reg (A.CMD_RING_CQ_TAIL k) = 0#32 :=
    clearPointers_zero (discardRecords s k) k _ (by simp [pointerRegs])
  have hne : A.CMD_RING_CQ_TAIL k ∉ [A.CMD_RING_CTRL k] := by
    simp only [A.CMD_RING_CQ_TAIL, A.CMD_RING_CTRL, List.mem_singleton]
    omega
  unfold resetRing
  simp only
  rw [onlyRegs_setFld _ (F.CMD_RING_CTRL_RESET k) 0 _ hne]
  split
  · rw [onlyRegs_setFld _ (F.CMD_RING_CTRL_ENABLE k) 0 _ hne, hc]
  · exact hc

variable {s k}

/-- Every command with its outcome has its records discarded. -/
theorem discardRecords_ring (h : allDone (s.ring k) = true) : (discardRecords s k).ring k =
    { s.ring k with lost := mergeLost (s.ring k).lost (cmdRange (s.ring k).cmds), breakDue := false, cmds := [] } := by
  have hnone : (s.ring k).cmds.filter (fun c => !c.done) = [] := by
    rw [List.filter_eq_nil_iff]
    intro c hc
    rw [allDone, List.all_eq_true] at h
    simp [h c hc]
  refine (State.ring_setRing_self s k _).trans ?_
  rw [hnone, List.map_nil]

theorem disabledRing_cqTail (h : s.reg (A.CMD_RING_CQ_TAIL k) = 0#32) : (disabledRing s k).reg (A.CMD_RING_CQ_TAIL k) = 0#32 := by
  have hne : A.CMD_RING_CQ_TAIL k ∉ [A.CMD_RING_CTRL k] := by
    simp only [A.CMD_RING_CQ_TAIL, A.CMD_RING_CTRL, List.mem_singleton]
    omega
  have hne' : A.CMD_RING_CQ_TAIL k ∉ [A.CMD_RING_STATUS k] := by
    simp only [A.CMD_RING_CQ_TAIL, A.CMD_RING_STATUS, List.mem_singleton]
    omega
  unfold disabledRing
  simp only
  rw [onlyRegs_setFld _ (F.CMD_RING_CTRL_RESET k) 0 _ hne]
  split
  · exact clearPointers_zero _ k _ (by simp [pointerRegs])
  · rw [onlyRegs_setFld _ (F.CMD_RING_STATUS_STATE k) 0 _ hne', h]

theorem resetEffect_spec (hdone : allDone (s.ring k) = true) (hheld : (s.ring k).heldEnable = false) :
    ringState (resetEffect s k) k = 0 ∧ ((resetEffect s k).ring k).resetArmed = false ∧ ((resetEffect s k).ring k).cmds = [] ∧
      ((resetEffect s k).ring k).lost = mergeLost (s.ring k).lost (cmdRange (s.ring k).cmds) ∧
      (resetEffect s k).reg (A.CMD_RING_CQ_TAIL k) = 0#32 := by
  have hring := (resetRing_ring s k).trans (by rw [discardRecords_ring hdone])
  obtain ⟨-, hcmds, hlost⟩ := disabledRing_ring (resetRing s k) k
  have hstate := disabledRing_state (resetRing s k) k
  have htail := disabledRing_cqTail (resetRing_cqTail s k)
  rw [resetEffect_eq, enterDisabled_eq k (by rw [hring]; exact hheld)]
  refine ⟨hstate, by rw [State.ring_setRing_self], ?_, ?_, htail⟩
  · rw [State.ring_setRing_self]
    exact hcmds.trans (by rw [hring]; rfl)
  · rw [State.ring_setRing_self]
    exact hlost.trans (by rw [hring]; rfl)

theorem enterDisabled_spec (hk : k < 4) (hheld : (s.ring k).heldEnable = false) :
    ringState (enterDisabled s k) k = 0 ∧ SameMemory s (enterDisabled s k) := by
  rw [enterDisabled_eq k hheld]
  exact ⟨disabledRing_state s k, ((touches_disabledRing s k hk).then (touches_setRing _ k _)).ram (by decide)⟩
end

/-! ### SIZE and the pointers -/

section
variable (s : State) (src : Requester) (k : Fin 4) (data : Word)

theorem specOf_ringSize : specOf (A.CMD_RING_SIZE k) = some ⟨88, 4, 64, 0, [⟨0, 4, .rw, 32⟩, ⟨16, 4, .rw, 32⟩]⟩ := by
  revert k
  decide +kernel

/-- SIZE written: both fields take what is written, and nothing else. -/
def sizeWord : Word := insBits (insBits (s.reg (A.CMD_RING_SIZE k)) 0 4 (bitsOf data.toNat 0 4)) 16 4 (bitsOf data.toNat 16 4)

theorem writeFields_ringSize : writeFields s src (A.CMD_RING_SIZE k) data allBits = s.setReg (A.CMD_RING_SIZE k) (sizeWord s k data) := by
  have hpage : A.CMD_RING_SIZE k / 0x1000 = 0x05 := by simp only [A.CMD_RING_SIZE]; omega
  refine writeFields_of_foldl s src (A.CMD_RING_SIZE k) data allBits (specOf_ringSize k) (w := sizeWord s k data) (reserved := false) ?_
  rw [List.foldl_cons, List.foldl_cons, List.foldl_nil, applyField_rw s _ _ _ data _ 32 (by decide) (by decide),
    applyField_rw s _ _ _ data _ 32 (by decide) (by decide), hpage]
  rfl

theorem sizeWord_fields : bitsOf (sizeWord s k data).toNat 0 4 = data.toNat % 16 ∧ bitsOf (sizeWord s k data).toNat 16 4 = bitsOf data.toNat 16 4 := by
  unfold sizeWord
  constructor
  · rw [bitsOf_insBits_apart _ _ _ _ _ _ (by decide) (by decide), bitsOf_insBits _ _ _ _ (by decide), Nat.mod_eq_of_lt (bitsOf_lt _ _ _), bitsOf]
    simp
  · rw [bitsOf_insBits _ _ _ _ (by decide), Nat.mod_eq_of_lt (bitsOf_lt _ _ _)]

/-- A pointer of 12 bits as a write of the whole word gives it. -/
theorem pointerWritten (a : Nat) : bitsOf ((s.reg a &&& ~~~allBits) ||| (data &&& allBits)).toNat 0 12 = data.toNat % 2 ^ 12 := by
  rw [merged_allBits]
  simp [bitsOf]

theorem tailWrite_inRange (h : data.toNat % 2 ^ 12 < sqSize s k) : tailWrite s src k data allBits =
    startFetch (s.setFld (F.CMD_RING_SQ_TAIL_TAIL k) (data.toNat % 2 ^ 12)) k := by
  simp only [tailWrite, pointerWritten, if_neg (Nat.not_le.2 h)]

theorem tailWrite_beyond (h : sqSize s k ≤ data.toNat % 2 ^ 12) : tailWrite s src k data allBits =
    ringConfigErr s src (A.CMD_RING_SQ_TAIL k) := by
  simp only [tailWrite, pointerWritten, if_pos h]

theorem cqHeadWrite_inRange (h : data.toNat % 2 ^ 12 < cqSize s k) : cqHeadWrite s src k data allBits =
    s.setFld (F.CMD_RING_CQ_HEAD_HEAD k) (data.toNat % 2 ^ 12) := by
  simp only [cqHeadWrite, pointerWritten, if_neg (Nat.not_le.2 h)]

theorem fld_pointer (x : State) (f : Fld) (hl : f.lsb = 0) (hw : f.width = 12) (v : Nat) : (x.setFld f (v % 2 ^ 12)).fld f = v % 2 ^ 12 := by
  refine (State.fld_setFld_self x f _ (by omega)).trans ?_
  rw [hw, Nat.mod_mod]
end

/-! ### The words that a ring's statement writes -/

theorem ctrlBits (data : Word) : bit data.toNat 0 = (data.toNat % 2 == 1) ∧ bit data.toNat 1 = (data.toNat / 2 % 2 == 1) ∧
    bit (data ||| 2#32).toNat 0 = (data.toNat % 2 == 1) ∧ bit (data ||| 2#32).toNat 1 = true := by
  have h0 : bit data.toNat 0 = (data.toNat % 2 == 1) := by simp [bit]
  have h1 : bit data.toNat 1 = (data.toNat / 2 % 2 == 1) := by simp [bit]
  refine ⟨h0, h1, ?_, ?_⟩
  · rw [bit_or, h0, show bit (2#32).toNat 0 = false from rfl, Bool.or_false]
  · rw [bit_or, show bit (2#32).toNat 1 = true from rfl, Bool.or_true]

/-! ### The statement -/

theorem implemented_ring (k : Fin 4) : implemented (A.CMD_RING_CTRL k) = true ∧ implemented (A.CMD_RING_SIZE k) = true ∧
    implemented (A.CMD_RING_SQ_TAIL k) = true ∧ implemented (A.CMD_RING_CQ_HEAD k) = true := by
  revert k
  decide +kernel

/-- Where SIZE stands among the registers of its ring. -/
theorem ringSize_place (k : Fin 4) : (A.CMD_RING_SIZE k - 0x05040) / 0x40 = k.val ∧ (A.CMD_RING_SIZE k - 0x05040) % 0x40 = 0x18 ∧
    ¬ (A.CMD_RING_SIZE k = A.CMD_EVR_BASE ∨ A.CMD_RING_SIZE k = A.CMD_EVR_BASE_HI) ∧ 0x05040 ≤ A.CMD_RING_SIZE k ∧ A.CMD_RING_SIZE k < 0x05140 ∧
    A.CMD_RING_SIZE k ≠ A.CMD_RING_COAL k := by
  revert k
  decide

section
variable {s : State} (hs : s.inOperation = true) (src : Requester) (k : Fin 4) (data : Word)
include hs

theorem exec_ringEnableWrite : exec (.ringEnableWrite src k data) s = .next (fire (ringCtrlWrite s src k data allBits)) :=
  congrArg Host.Outcome.next (gateWrite_inOperation hs (implemented_ring k).1 src _)

theorem exec_ringReset : exec (.ringReset src k data) s = .next (fire (ringCtrlWrite s src k (data ||| 2#32) allBits)) :=
  congrArg Host.Outcome.next (gateWrite_inOperation hs (implemented_ring k).1 src _)

theorem exec_sqTailDoorbell : exec (.sqTailDoorbell src k data) s = .next (tailWrite s src k data allBits) :=
  congrArg Host.Outcome.next (gateWrite_inOperation hs (implemented_ring k).2.2.1 src _)

theorem exec_cqHeadWrite : exec (.cqHeadWrite src k data) s = .next (cqHeadWrite s src k data allBits) :=
  congrArg Host.Outcome.next (gateWrite_inOperation hs (implemented_ring k).2.2.2 src _)

theorem exec_ringConfigWrite_size {addr : RegAddr} (ha : wordAddr addr = A.CMD_RING_SIZE k) : exec (.ringConfigWrite src addr data) s =
    .next (if ringState s k = 0 then writeFields s src (A.CMD_RING_SIZE k) data allBits else ringConfigErr s src (A.CMD_RING_SIZE k)) := by
  refine congrArg Host.Outcome.next ?_
  obtain ⟨hq, hr, hevr, hlo, hhi, hcoal⟩ := ringSize_place k
  rw [ha, gateWrite_inOperation hs (implemented_ring k).2.1]
  simp only [Bool.or_eq_true, decide_eq_true_eq, hevr, if_false, hlo, hhi, hr, hq, ringConfigWrite, hcoal, false_or, Bool.and_eq_true, true_and,
    List.mem_cons, List.not_mem_nil, or_false, or_true, if_true]
  norm_num
end

/-- Settles O30: what ENABLE, RESET, SIZE and the pointers do in each state of a ring. -/
theorem ringControlAndPointers : Obligations.RingControlAndPointers := by
  unfold Obligations.RingControlAndPointers
  intro s src k data hs
  have hans := State.answers_of_inOperation hs
  obtain ⟨h0, h1, h0', h1'⟩ := ctrlBits data
  have hx := ringState_ctrlFields s src k
  refine ⟨fun hst hok hd => ?_, fun hst hd => ?_, fun hst hd => ?_, fun hst hd => ?_, fun addr ha => ⟨fun hst => ?_, fun hst => ?_⟩,
    fun h => ?_, fun h => ?_, fun h => ?_, fun harm hst hdone hheld => ?_, fun hst hcmds hheld => ?_⟩
  · obtain ⟨hbit0, hbit1⟩ : bit data.toNat 0 = true ∧ bit data.toNat 1 = false := by rw [h0, h1, beq_iff_eq, beq_eq_false_iff_ne]; omega
    have hform : ringCtrlWrite s src k data allBits = startFetch (enabled (ctrlFields s src k data) k) k := by
      rw [ringCtrlWrite_eq, hbit0, hbit1, if_neg Bool.false_ne_true, writeEnable_on_disabled src ((hx data k).trans hst),
        enableRing_of_ok _ _ _ ((ringConfigOk_ctrlFields s src k data).trans hok)]
    have hfetch := startFetch_regs (enabled (ctrlFields s src k data) k) k
    refine ⟨_, (exec_ringEnableWrite hs src k data).trans (by rw [hform]), ?_, ?_, fun j hj hne => ⟨?_, ?_⟩⟩
    · rw [ringState_congr (fire_reg _ _), ringState_congr (State.reg_congr hfetch _), enabled_ringState]
    · exact (((((touches_ctrlFields s src k data).mono (ps := [.regs, .bus, .host, .out, .rings]) (gs := [0x05])).then (touches_enabled _ _ k.isLt)).then
        (touches_startFetch _ _)).then touches_fire).ram (by decide)
    · rw [ringState_congr (fire_reg _ _), ringState_congr (State.reg_congr hfetch _), enabled_ringState_ne _ _ hne, hx]
    · rw [State.ring_congr (fire_rings _), startFetch_ring_ne _ _ hne, enabled, State.ring_setRing_ne _ _ hne]
      exact ring_ctrlFields s src k data j
  · obtain ⟨hbit0, hbit1⟩ : bit data.toNat 0 = false ∧ bit data.toNat 1 = false := by
      rw [h0, h1, beq_eq_false_iff_ne, beq_eq_false_iff_ne]; omega
    have hform : ringCtrlWrite s src k data allBits = ((ctrlFields s src k data).setFld (F.CMD_RING_STATUS_STATE k) 2).setRing k
        { (s.ring k).quiet with heldEnable := false } := by
      rw [ringCtrlWrite_eq, hbit0, hbit1, if_neg Bool.false_ne_true, writeEnable_off_running src ((hx data k).trans hst), ring_ctrlFields]
    refine ⟨_, (exec_ringEnableWrite hs src k data).trans (by rw [hform]), ?_, ?_, ?_, ?_⟩
    · rw [ringState_congr (fire_reg _ _), ringState_setRing, ringState_setFld_self _ (by decide)]
    · rw [State.ring_congr (fire_rings _), State.ring_setRing_self]
      rfl
    · rw [State.ring_congr (fire_rings _), State.ring_setRing_self]
      rfl
    · exact (((((touches_ctrlFields s src k data).mono (ps := [.regs, .bus, .host, .out, .rings]) (gs := [0x05])).then
        (touches_setRingFld _ k k.isLt _ 2 (Or.inr rfl))).then (touches_setRing _ k _)).then touches_fire).ram (by decide)
  · have hbit0 : bit (data ||| 2#32).toNat 0 = false := by rw [h0', beq_eq_false_iff_ne]; omega
    have hform : ringCtrlWrite s src k (data ||| 2#32) allBits = clearPointers (ctrlFields s src k (data ||| 2#32)) k := by
      rw [ringCtrlWrite_eq, hbit0, h1', if_pos rfl, writeReset_disabled ((hx _ k).trans hst),
        writeEnable_off_disabled src ((ringState_clearPointers _ _ _).trans ((hx _ k).trans hst))]
    have hzero := clearPointers_zero (ctrlFields s src k (data ||| 2#32)) k
    simp only [pointerRegs, List.mem_cons, List.not_mem_nil, or_false, forall_eq_or_imp, forall_eq] at hzero
    obtain ⟨hst1, hst2, hst3, hst4⟩ := hzero
    have hring : (clearPointers (ctrlFields s src k (data ||| 2#32)) k).ring k =
        { ((ctrlFields s src k (data ||| 2#32)).ring k).quiet with sqPhase := true, cqPhase := true } := State.ring_setRing_self _ _ _
    refine ⟨_, (exec_ringReset hs src k data).trans (by rw [hform]), ?_, ?_, ?_, ?_, ?_, ?_, ?_⟩
    · rw [ringState_congr (fire_reg _ _), ringState_clearPointers, hx, hst]
    · rw [fire_reg, hst1]
    · rw [fire_reg, hst2]
    · rw [fire_reg, hst3]
    · rw [fire_reg, hst4]
    · rw [State.ring_congr (fire_rings _), hring]
    · rw [State.ring_congr (fire_rings _), hring]
  · have hbit0 : bit (data ||| 2#32).toNat 0 = true := by rw [h0', beq_iff_eq]; exact hd
    have hform : ringCtrlWrite s src k (data ||| 2#32) allBits =
        (((ctrlFields s src k (data ||| 2#32)).setFld (F.CMD_RING_CTRL_RESET k) 1).setRing k { s.ring k with resetArmed := true }).setRing k
          { s.ring k with resetArmed := true, heldEnable := true } := by
      have hst' := ringState_setFld_ctrl k (ctrlFields s src k (data ||| 2#32)) (F.CMD_RING_CTRL_RESET k) 1 rfl k
      rw [ringCtrlWrite_eq, hbit0, h1', if_pos rfl, writeReset_held (by rw [hx]; exact hst), writeEnable_on_held src
        (by rw [ringState_setRing, hst', hx]; exact hst) (by rw [State.ring_setRing_self]), State.ring_setRing_self, ring_ctrlFields]
    refine ⟨_, (exec_ringReset hs src k data).trans (by rw [hform]), ?_, ?_, ?_, ?_⟩
    · rw [ringState_congr (fire_reg _ _), ringState_setRing, ringState_setRing, ringState_setFld_ctrl k _ _ _ rfl, hx]
    · rw [State.ring_congr (fire_rings _), State.ring_setRing_self]
    · rw [State.ring_congr (fire_rings _), State.ring_setRing_self]
    · rw [fire_reg]
      refine (onlyRegs_setFld (ctrlFields s src k (data ||| 2#32)) (F.CMD_RING_CTRL_RESET k) 1 _ ?_).trans (ctrlFields_reg s src k _ ?_ ?_) <;>
        simp only [A.CMD_RING_SQ_TAIL, A.CMD_RING_CTRL, List.mem_singleton] <;> omega
  · have herr := onlyRegs_recordErr s 0x05 0x80 src.code (A.CMD_RING_SIZE k)
    refine ⟨_, (exec_ringConfigWrite_size hs src k data ha).trans (congrArg _ (if_neg hst)), ?_, causeSet_recordErr _ _ _ _ _, herr⟩
    rw [ha]
    refine herr _ ?_
    simp only [A.CMD_RING_SIZE, List.mem_cons, List.not_mem_nil, or_false, not_or]
    omega
  · obtain ⟨hsq, hcq⟩ := sizeWord_fields s k data
    refine ⟨_, (exec_ringConfigWrite_size hs src k data ha).trans (congrArg _ ((if_pos hst).trans (writeFields_ringSize s src k data))), ?_, ?_, ?_, rfl⟩
    · rw [State.fld, State.reg_setReg_self]
      exact hsq
    · rw [State.fld, State.reg_setReg_self]
      exact hcq
    · rw [ha]
      exact onlyRegs_setReg s _ _
  · refine ⟨_, (exec_sqTailDoorbell hs src k data).trans (congrArg _ (tailWrite_inRange s src k data h)), ?_, ?_, ?_⟩
    · rw [State.fld, State.reg_congr (startFetch_regs _ _)]
      exact fld_pointer s (F.CMD_RING_SQ_TAIL_TAIL k) rfl rfl _
    · exact onlyRegs_of_regs (onlyRegs_setFld s (F.CMD_RING_SQ_TAIL_TAIL k) _) (startFetch_regs _ _)
    · exact (touches_startFetch (s.setFld (F.CMD_RING_SQ_TAIL_TAIL k) (data.toNat % 2 ^ 12)) k).ram (by decide)
  · refine ⟨_, (exec_sqTailDoorbell hs src k data).trans (congrArg _ (tailWrite_beyond s src k data h)), causeSet_recordErr _ _ _ _ _,
      onlyRegs_recordErr _ _ _ _ _, (touches_recordErr 0x05 0x80 src.code _).part .rings (by decide)⟩
  · exact ⟨_, (exec_cqHeadWrite hs src k data).trans (congrArg _ (cqHeadWrite_inRange s src k data h)), fld_pointer s (F.CMD_RING_CQ_HEAD_HEAD k) rfl rfl _,
      onlyRegs_setFld s (F.CMD_RING_CQ_HEAD_HEAD k) _, rfl⟩
  · refine ⟨_, congrArg Host.Outcome.next (if_pos ?_), resetEffect_spec hdone hheld⟩
    rw [hans, harm, hdone]
    rcases hst with hst | hst <;> rw [hst] <;> rfl
  · refine ⟨_, congrArg Host.Outcome.next (if_pos ?_), enterDisabled_spec k.isLt hheld⟩
    rw [hans, hst, hcmds]
    rfl

end Sys2Proof.Machine
end

section
/-!
PROOFS. Descriptors, commands and the data they read (03_host_interface.md, Command and completion rings; 04_command_set.md, Acceptance
checks): the statement O31.
-/
namespace Sys2Proof.Machine

-- One proof after another: side by side, the threads of so long a text want more memory than the check grants.
set_option Elab.async false

/-! ### A command among those of its ring (R619) -/

section
variable {s : State} {id : CmdId} {c : Cmd}

theorem findCmd_seq (h : findCmd s id = some c) : (c.seq == id.seq) = true :=
  List.find?_some (p := fun x : Cmd => x.seq == id.seq) h

theorem find?_replace {α : Type} (p : α → Bool) {x y : α} (hy : p y = true) (l : List α) (h : l.find? p = some x) :
    (l.map (fun z => if p z then y else z)).find? p = some y := by
  induction l with
  | nil => exact absurd h (by simp)
  | cons z l ih =>
    rw [List.map_cons]
    by_cases hz : p z = true
    · rw [if_pos hz, List.find?_cons_of_pos hy]
    · rw [if_neg hz, List.find?_cons_of_neg hz]
      exact ih (by rwa [List.find?_cons_of_neg hz] at h)

/-- A command replaced under its number is found as it was put. -/
theorem findCmd_putCmd {c' : Cmd} (h : findCmd s id = some c) (hc : c'.seq = id.seq) : findCmd (putCmd s id c') id = some c' := by
  rw [findCmd, putCmd, State.ring_setRing_self]
  exact find?_replace (fun x : Cmd => x.seq == id.seq) (by rw [hc, beq_self_eq_true]) _ h

theorem touches_putCmd (x : State) (i : CmdId) (c' : Cmd) : Touches [.rings] [] x (putCmd x i c') := touches_setRing x _ _

theorem touches_leaveRead (x : State) (i : CmdId) (c' : Cmd) : Touches [.rings] [] x (leaveRead x i c') :=
  Touches.ite (fun _ => touches_setRing x _ _) (fun _ => Touches.refl x)

theorem leaveRead_cmds (x : State) (i : CmdId) (c' : Cmd) (k : Nat) : ((leaveRead x i c').ring k).cmds = (x.ring k).cmds := by
  unfold leaveRead
  split
  · by_cases h : k = i.src.val
    · rw [h, State.ring_setRing_self]
    · rw [State.ring_setRing_ne _ _ h]
  · rfl

theorem touches_finishCmd (x : State) (i : CmdId) (ps : List Part) : Touches [.rings] [] x (finishCmd x i ps) := by
  unfold finishCmd
  split
  · exact Touches.refl x
  · exact Touches.ite (fun _ => Touches.refl x) (fun _ => Touches.ite (fun _ => (touches_leaveRead x i _).trans (touches_setRing _ _ _))
      (fun _ => (touches_leaveRead x i _).trans (touches_putCmd _ i _)))

/-- A command without an outcome whose records stand takes the outcome it is given. -/
theorem finishCmd_eq (h : findCmd s id = some c) (hd : c.done = false) (hl : c.lost = false) (ps : List Part) :
    finishCmd s id ps = putCmd (leaveRead s id c) id { c with done := true, parts := ps } := by
  simp only [finishCmd, h, hd, hl, Bool.false_eq_true, if_false]

theorem findCmd_finishCmd (h : findCmd s id = some c) (hd : c.done = false) (hl : c.lost = false) (ps : List Part) :
    findCmd (finishCmd s id ps) id = some { c with done := true, parts := ps } := by
  rw [finishCmd_eq h hd hl]
  have hseq := eq_of_beq (findCmd_seq h)
  refine findCmd_putCmd (c := c) ?_ hseq
  rw [findCmd, leaveRead_cmds]
  exact h

theorem outcome_finish (h : findCmd s id = some c) (hd : c.done = false) (hl : c.lost = false) (status : Nat) (result : List Byte) :
    outcome (finish s id status result) id = some (onePart status 0 result) := by
  rw [outcome, finish, findCmd_finishCmd h hd hl]
  rfl

end

/-! ### What asking for reads leaves of the commands (R752) -/

/-- Of a command, at most that its data has been asked for is new. -/
def Asks (c c' : Cmd) : Prop := c' = c ∨ c' = { c with asked := true }

theorem Asks.refl (c : Cmd) : Asks c c := Or.inl rfl

theorem Asks.trans {a b c : Cmd} (h : Asks a b) (h' : Asks b c) : Asks a c := by
  rcases h with rfl | rfl <;> rcases h' with rfl | rfl
  · exact Or.inl rfl
  · exact Or.inr rfl
  · exact Or.inr rfl
  · exact Or.inr rfl

/-- The rings after reads were asked for: no command lost or changed otherwise, no fetch of a ring that does not run. -/
structure ReadsAsked (s t : State) : Prop where
  regs : t.regs = s.regs
  cmds : ∀ k, List.Forall₂ Asks (s.ring k).cmds (t.ring k).cmds
  fetch : ∀ k, ringState s k ≠ 1 → (t.ring k).fetch = (s.ring k).fetch

theorem ReadsAsked.refl (s : State) : ReadsAsked s s := ⟨rfl, fun _ => List.forall₂_same.2 (fun c _ => Asks.refl c), fun _ _ => rfl⟩

theorem forall₂_asks_trans {as bs cs : List Cmd} (h : List.Forall₂ Asks as bs) (h' : List.Forall₂ Asks bs cs) : List.Forall₂ Asks as cs := by
  induction h generalizing cs with
  | nil => exact h'
  | cons hab _ ih =>
    cases h' with
    | cons hbc htail => exact List.Forall₂.cons (hab.trans hbc) (ih htail)

theorem ReadsAsked.trans {s t u : State} (h : ReadsAsked s t) (h' : ReadsAsked t u) : ReadsAsked s u :=
  ⟨h'.regs.trans h.regs, fun k => forall₂_asks_trans (h.cmds k) (h'.cmds k), fun k hk =>
    (h'.fetch k (by rwa [ringState_congr (State.reg_congr h.regs _)])).trans (h.fetch k hk)⟩

theorem ReadsAsked.foldl {α : Type} {g : State → α → State} {l : List α} (hg : ∀ t, ∀ e ∈ l, ReadsAsked t (g t e)) (s : State) :
    ReadsAsked s (l.foldl g s) := by
  induction l generalizing s with
  | nil => exact ReadsAsked.refl s
  | cons e l ih => exact (hg s e (List.mem_cons_self ..)).trans (ih (fun t d hd => hg t d (List.mem_cons_of_mem _ hd)) _)

/-- A ring is replaced by one that differs in what it asked for. -/
theorem readsAsked_setRing (s : State) (j : Nat) (r : Ring) (o : Out) (hc : List.Forall₂ Asks (s.ring j).cmds r.cmds)
    (hf : ringState s j ≠ 1 → r.fetch = (s.ring j).fetch) : ReadsAsked s ((s.setRing j r).send o) := by
  refine ⟨rfl, fun k => ?_, fun k hk => ?_⟩
  · by_cases h : k = j
    · subst h
      exact (State.ring_setRing_self s k r).symm ▸ hc
    · have hne : ((s.setRing j r).send o).ring k = s.ring k := State.ring_setRing_ne s r h
      rw [hne]
      exact List.forall₂_same.2 (fun c _ => Asks.refl c)
  · by_cases h : k = j
    · subst h
      exact (congrArg Ring.fetch (State.ring_setRing_self s k r)).trans (hf hk)
    · exact congrArg Ring.fetch (State.ring_setRing_ne s r h)

theorem readsAsked_startFetch (s : State) (k : Nat) : ReadsAsked s (startFetch s k) := by
  unfold startFetch
  simp only
  split
  · next h =>
    split
    · exact ReadsAsked.refl s
    · exact readsAsked_setRing s k _ _ (List.forall₂_same.2 (fun c _ => Asks.refl c)) (fun hk => absurd h.1 hk)
  · exact ReadsAsked.refl s

theorem readsAsked_askData (s : State) (src : Nat) (c : Cmd) : ReadsAsked s (askData s src c) := by
  unfold askData
  split
  · exact ReadsAsked.refl s
  · simp only
    split
    · exact ReadsAsked.refl s
    · refine readsAsked_setRing s src _ _ ?_ (fun _ => rfl)
      refine List.forall₂_map_right_iff.2 (List.forall₂_same.2 (fun x _ => ?_))
      split
      · exact Or.inr rfl
      · exact Or.inl rfl

theorem readsAsked_readsGo (s : State) : ReadsAsked s (readsGo s) := by
  unfold readsGo
  split
  · refine ReadsAsked.foldl (fun t k _ => ?_) s
    have hfetch : ReadsAsked t (if k < 4 then startFetch t k else t) := by
      split
      · exact readsAsked_startFetch t k
      · exact ReadsAsked.refl t
    exact hfetch.trans (ReadsAsked.foldl (fun u c _ => readsAsked_askData u k c) _)
  · exact ReadsAsked.refl s

/-- A command is found as it was, at most asked for. -/
theorem ReadsAsked.find {s t : State} (h : ReadsAsked s t) {id : CmdId} {c : Cmd} (hf : findCmd s id = some c) :
    ∃ c', findCmd t id = some c' ∧ Asks c c' := by
  have hlist : ∀ {as bs : List Cmd}, List.Forall₂ Asks as bs → as.find? (fun x => x.seq == id.seq) = some c →
      ∃ c', bs.find? (fun x => x.seq == id.seq) = some c' ∧ Asks c c' := by
    intro as bs hab
    induction hab with
    | nil => exact fun h => absurd h (by simp)
    | @cons a b as bs hab _ ih =>
      have hseq : b.seq = a.seq := by rcases hab with rfl | rfl <;> rfl
      intro h
      by_cases hp : (a.seq == id.seq) = true
      · rw [List.find?_cons_of_pos (by exact hp)] at h
        exact ⟨b, List.find?_cons_of_pos (by rw [hseq]; exact hp), Option.some.inj h ▸ hab⟩
      · rw [List.find?_cons_of_neg (by exact hp)] at h
        obtain ⟨c', hc', ha⟩ := ih h
        exact ⟨c', (List.find?_cons_of_neg (by rw [hseq]; exact hp)).trans hc', ha⟩
  exact hlist (h.cmds id.src.val) hf

theorem ReadsAsked.outcome_eq {s t : State} (h : ReadsAsked s t) {id : CmdId} {ps : List Part} (ho : outcome s id = some ps) :
    outcome t id = some ps := by
  rw [outcome, Option.bind_eq_some_iff] at ho
  obtain ⟨c, hc, hp⟩ := ho
  obtain ⟨c', hc', ha⟩ := h.find hc
  rw [outcome, hc']
  rcases ha with rfl | rfl <;> exact hp

/-! ### Fetches (R82, R92, R100, R101) -/

section
variable (s : State) (k : Fin 4)

/-- The word in which the failure of a ring's read is recorded. -/
theorem dmaFail_ring : dmaFail s k = recordErr s 0x05 0x81 0 (A.CMD_RING_CTRL k) := by rw [dmaFail, if_pos k.isLt]

theorem ringFault_state : ringState (ringFault s k) k = 3 := by
  rw [ringFault, ringState_congr (setCause_reg_ne _ _ _ (by simp only [A.CMD_RING_STATUS]; omega)), ringState_setRing,
    ringState_setFld_self _ (by decide)]

theorem ringFault_ring : (ringFault s k).ring k =
    { s.ring k with fetch := none, staleFetches := (s.ring k).staleFetches + b01 (s.ring k).fetch.isSome } := by
  rw [ringFault, State.ring_congr (setCause_rings _ _ _), State.ring_setRing_self]

theorem onlyRegs_ringFault : OnlyRegs s (ringFault s k) [A.CMD_RING_STATUS k, 0x05010] :=
  OnlyRegs.trans (t := s.setFld (F.CMD_RING_STATUS_STATE k) 3) (onlyRegs_setFld s (F.CMD_RING_STATUS_STATE k) 3) (onlyRegs_setCause _ 0x05 (8 + k))

theorem causeSet_ringFault {b : Nat} (hb : b < 32) : causeSet (ringFault s k) 0x05 b = (causeSet s 0x05 b || b == 8 + k) := by
  have hreg : ∀ r, causeSet ((s.setFld (F.CMD_RING_STATUS_STATE k) 3).setRing k r) 0x05 b = causeSet s 0x05 b := fun r => by
    rw [causeSet, causeSet]
    refine congrArg (fun w : Word => bit w.toNat b) (onlyRegs_setFld s (F.CMD_RING_STATUS_STATE k) 3 _ ?_)
    simp only [A.CMD_RING_STATUS, List.mem_singleton]
    omega
  rw [ringFault, causeSet_setCause _ _ _ _ hb, hreg]

theorem touches_ringFault : Touches [.regs, .host, .out, .rings] [0x05] s (ringFault s k) :=
  (((touches_setRingFld s k k.isLt _ 3 (Or.inr rfl)).mono (by decide) (by decide)).then (touches_setRing _ k _)).then (touches_setCause 0x05 (8 + k))

/-- What a failed read of a ring records, and what is left of it when the ring is put in FAULT. -/
theorem dmaFault_spec : causeSet (ringFault (dmaFail s k) k) 0x05 31 = true ∧ causeSet (ringFault (dmaFail s k) k) 0x05 (8 + k) = true ∧
    errCaptured s (ringFault (dmaFail s k) k) 0x05 0x81 0x00 (A.CMD_RING_CTRL k) := by
  have hset := causeSet_recordErr s 0x05 0x81 0 (A.CMD_RING_CTRL k)
  have hcap := errCaptured_recordErr s 0x05 (code := 0x81) (src := 0) (A.CMD_RING_CTRL k) (by decide) (by decide)
  have hregs := onlyRegs_ringFault (dmaFail s k) k
  rw [dmaFail_ring] at hregs ⊢
  refine ⟨?_, ?_, ?_⟩
  · rw [causeSet_ringFault _ _ (by decide), hset, Bool.true_or]
  · rw [causeSet_ringFault _ _ (by omega), beq_self_eq_true, Bool.or_true]
  · unfold errCaptured at hcap ⊢
    rwa [hregs _ (by simp only [A.CMD_RING_STATUS, List.mem_cons, List.not_mem_nil, or_false, not_or]; omega),
      hregs _ (by simp only [A.CMD_RING_STATUS, List.mem_cons, List.not_mem_nil, or_false, not_or]; omega)]

theorem touches_dmaFail (src : Nat) : Touches [.regs, .host, .out] [0x05] s (dmaFail s src) := touches_recordErr 0x05 0x81 0 _

end

theorem errCaptured_of_regs {s t u : State} {page code src addr : Nat} (h : errCaptured s t page code src addr) (e : u.regs = t.regs) :
    errCaptured s u page code src addr := by
  unfold errCaptured at h ⊢
  rwa [State.reg_congr e, State.reg_congr e]

section
variable {s : State} {k : Fin 4} {f : Fetch}

theorem fetchDone_data (hf : (s.ring k).fetch = some f) {ds : List (List Byte)} (hlen : ds.length ≤ f.count)
    (hphase : ∀ d ∈ ds, bit (fieldAt d 2 1) 0 = (s.ring k).sqPhase) :
    fetchDone s k (some ds) = s.setRing k { s.ring k with fetch := none, fetched := ds } := by
  have htake : ds.take f.count = ds := List.take_of_length_le hlen
  have hgood : ds.takeWhile (fun d => bit (fieldAt d 2 1) 0 == (s.ring k).sqPhase) = ds :=
    List.takeWhile_eq_self_iff.2 (fun d hd => by rw [hphase d hd, beq_self_eq_true])
  simp only [fetchDone, hf, htake, hgood, Nat.lt_irrefl, if_false]

theorem fetchDone_failed (hf : (s.ring k).fetch = some f) :
    fetchDone s k none = ringFault (dmaFail (s.setRing k { s.ring k with fetch := none }) k) k := by
  simp only [fetchDone, hf]

/-- A fetch that failed puts the ring in FAULT and leaves its commands. -/
theorem fetchFailed_spec (s : State) (k : Fin 4) (r : Ring) (hr : r.cmds = (s.ring k).cmds) :
    ringState (readsGo (ringFault (dmaFail (s.setRing k r) k) k)) k = 3 ∧
      causeSet (readsGo (ringFault (dmaFail (s.setRing k r) k) k)) 0x05 31 = true ∧
      causeSet (readsGo (ringFault (dmaFail (s.setRing k r) k) k)) 0x05 (8 + k) = true ∧
      errCaptured s (readsGo (ringFault (dmaFail (s.setRing k r) k) k)) 0x05 0x81 0x00 (A.CMD_RING_CTRL k) ∧
      ((readsGo (ringFault (dmaFail (s.setRing k r) k) k)).ring k).fetch = none ∧
      ((readsGo (ringFault (dmaFail (s.setRing k r) k) k)).ring k).cmds.map (fun c => (c.seq, c.desc, c.parts)) =
        (s.ring k).cmds.map (fun c => (c.seq, c.desc, c.parts)) ∧
      SameMemory s (readsGo (ringFault (dmaFail (s.setRing k r) k) k)) := by
  obtain ⟨herr, hfault, hcap⟩ := dmaFault_spec (s.setRing k r) k
  have hasked := readsAsked_readsGo (ringFault (dmaFail (s.setRing k r) k) k)
  have hstate := ringFault_state (dmaFail (s.setRing k r) k) k
  have hring := ringFault_ring (dmaFail (s.setRing k r) k) k
  have hold : (dmaFail (s.setRing k r) k).ring k = r := by
    rw [State.ring_congr ((touches_dmaFail (s.setRing k r) k).part .rings (by decide)), State.ring_setRing_self]
  have hmem := ((((touches_setRing s k r).mono (ps := [.regs, .host, .out, .rings]) (gs := [0x05])).then (touches_dmaFail _ k)).then
    (touches_ringFault _ k)).then (touches_readsGo _) |>.ram (by decide)
  refine ⟨?_, ?_, ?_, errCaptured_of_regs (s := s) hcap hasked.regs, ?_, ?_, hmem⟩
  · rw [ringState_congr (State.reg_congr hasked.regs _), hstate]
  · rw [causeSet_of_regs hasked.regs, herr]
  · rw [causeSet_of_regs hasked.regs, hfault]
  · rw [hasked.fetch k (by rw [hstate]; decide), hring]
  · have hcmds : ((ringFault (dmaFail (s.setRing k r) k) k).ring k).cmds = (s.ring k).cmds := by rw [hring, hold, hr]
    have h := hasked.cmds k
    rw [hcmds] at h
    have hmap := List.forall₂_map_right_iff.2 (List.forall₂_map_left_iff.2 (h.imp (fun a b hab => show
      (fun c : Cmd => (c.seq, c.desc, c.parts)) a = (fun c : Cmd => (c.seq, c.desc, c.parts)) b by rcases hab with rfl | rfl <;> rfl)))
    exact (List.forall₂_eq_eq_eq ▸ hmap).symm

end

/-! ### A fetch the ring no longer waits for (R101) -/

section
variable {s : State} {k : Fin 4} (h : (s.ring k).staleFetches ≠ 0)
include h

theorem staleFetchDone_good : staleFetchDone s k false = s.setRing k { s.ring k with staleFetches := (s.ring k).staleFetches - 1 } := by
  simp only [staleFetchDone, h, if_false, Bool.not_false, if_true]

theorem staleFetchDone_failed : staleFetchDone s k true =
    if ringState s k = 0 then dmaFail (s.setRing k { s.ring k with staleFetches := (s.ring k).staleFetches - 1 }) k
    else ringFault (dmaFail (s.setRing k { s.ring k with staleFetches := (s.ring k).staleFetches - 1 }) k) k := by
  simp only [staleFetchDone, h, if_false, Bool.not_true, Bool.false_eq_true]
  rfl
end

/-- A failed read that no ring waits for is an error still. -/
theorem staleFailed_spec {s : State} {k : Fin 4} (h : (s.ring k).staleFetches ≠ 0) :
    causeSet (readsGo (staleFetchDone s k true)) 0x05 31 = true ∧
      errCaptured s (readsGo (staleFetchDone s k true)) 0x05 0x81 0x00 (A.CMD_RING_CTRL k) ∧
      (ringState s k = 0 → ringState (readsGo (staleFetchDone s k true)) k = 0) ∧ SameMemory s (readsGo (staleFetchDone s k true)) := by
  have hasked := readsAsked_readsGo (staleFetchDone s k true)
  have hstale : Touches [.regs, .host, .out, .rings] [0x05] s
      (dmaFail (s.setRing k { s.ring k with staleFetches := (s.ring k).staleFetches - 1 }) k) :=
    (touches_setRing s k _).mono.then (touches_dmaFail _ k)
  have hdone : Touches [.regs, .host, .out, .rings] [0x05] s (staleFetchDone s k true) := by
    rw [staleFetchDone_failed h]
    exact Touches.ite (fun _ => hstale) (fun _ => hstale.then (touches_ringFault _ k))
  rw [causeSet_of_regs hasked.regs, ringState_congr (State.reg_congr hasked.regs _)]
  suffices hspec : causeSet (staleFetchDone s k true) 0x05 31 = true ∧ errCaptured s (staleFetchDone s k true) 0x05 0x81 0x00 (A.CMD_RING_CTRL k) ∧
      (ringState s k = 0 → ringState (staleFetchDone s k true) k = 0) from
    ⟨hspec.1, errCaptured_of_regs hspec.2.1 hasked.regs, hspec.2.2, (hdone.then (touches_readsGo _)).ram (by decide)⟩
  rw [staleFetchDone_failed h]
  generalize hr : ({ s.ring k with staleFetches := (s.ring k).staleFetches - 1 } : Ring) = r
  by_cases hst : ringState s k = 0
  · rw [if_pos hst, dmaFail_ring]
    have hregs := onlyRegs_recordErr (s.setRing k r) 0x05 0x81 0 (A.CMD_RING_CTRL k)
    refine ⟨causeSet_recordErr _ _ _ _ _, errCaptured_recordErr (s.setRing k r) 0x05 (A.CMD_RING_CTRL k) (by decide) (by decide), fun _ => ?_⟩
    refine (ringState_congr (hregs _ ?_)).trans hst
    simp only [A.CMD_RING_STATUS, List.mem_cons, List.not_mem_nil, or_false, not_or]
    omega
  · obtain ⟨herr, _, hcap⟩ := dmaFault_spec (s.setRing k r) k
    rw [if_neg hst]
    exact ⟨herr, hcap, fun h0 => absurd h0 hst⟩

/-! ### Taking a descriptor (R96, R100, R122) -/

theorem touches_denied (s : State) : Touches [.regs, .host, .out] [0x28] s (denied s) :=
  (touches_count F.KSU_DENIED_COUNT 1).mono.then (touches_setCause 0x28 3)

theorem touches_setQueue (s : State) (q : Nat) (v : Queue) : Touches [.fab] [] s (s.setQueue q v) := touches_parts [.fab] rfl

theorem touches_refuse (s : State) (q : Nat) (inject : Bool) : Touches [.regs, .host, .out, .fab] [0x20] s (refuse s q inject) :=
  ((touches_setQueue s q _).mono.then (touches_count F.FAB_DROPS_COUNT 1)).then (touches_setCause 0x20 3)

theorem touches_jumpRefused (s : State) (origin : Nat) (change : Int) :
    Touches [.regs, .host, .out, .log] [0x26] s (jumpRefused s origin change) :=
  (touches_event 0x26 0 0x1001 2 _ (gs := [])).mono.then (touches_setCause 0x26 0)

theorem touches_badParam (s : State) (op : Nat) (d : List Byte) (off : Nat) :
    Touches [.regs, .host, .out, .log] [0x26] s (badParam s op d off).2 :=
  Touches.ite (fun _ => (touches_jumpRefused s _ _).then (touches_count F.DTM_REFUSED_JUMPS_COUNT 1)) (fun _ => Touches.refl s)

/-- What the checks of R122 touch besides the outcome they give: an error's counters, its event. -/
theorem touches_verdict (s : State) (d : List Byte) : Touches [.regs, .host, .out, .log, .fab] [0x20, 0x26, 0x28] s (verdict s d).2 := by
  unfold verdict
  simp only
  split
  · exact Touches.refl s
  split
  · exact Touches.refl s
  split
  · exact Touches.refl s
  split
  · exact (touches_badParam s _ d _).mono
  split
  · exact Touches.refl s
  split
  · exact Touches.refl s
  split
  · exact Touches.refl s
  split
  · exact Touches.refl s
  split
  · exact (touches_denied s).mono
  split
  · exact Touches.ite (fun _ => (touches_refuse s _ true).mono) (fun _ => Touches.refl s)
  · exact Touches.refl s

theorem touches_injectTaken (s : State) (d : List Byte) : Touches [.fab] [] s (injectTaken s d) :=
  Touches.ite (fun _ => touches_parts [.fab] rfl) (fun _ => Touches.refl s)

/-- The command that a descriptor taken becomes. -/
def takenCmd (seq : Nat) (d : List Byte) (order timeout : Nat) : Cmd :=
  { seq := seq, desc := d, order := order, timeout := timeout, began := false, committed := false, done := false, asked := false, data := none,
    parts := [], written := 0, lost := false }

section
variable {s : State} {d : List Byte} {rest : List (List Byte)}

/-- The mailbox alone in turn: its oldest descriptor is taken. -/
theorem descriptorTake_mailbox (ht : takes s = true) (hf : (s.ring 4).fetched = d :: rest) : execDescriptorTake s = .next (takeFrom s 4) := by
  have hmay : mayTake s 4 = true := by simp [mayTake, hf, injectHeld]
  have hfirst : ([4, 0, 1, 2, 3] : List Source).find? (fun k => mayTake s k.val) = some 4 := List.find?_cons_of_pos hmay
  simp only [execDescriptorTake, ht, Bool.not_true, Bool.false_eq_true, if_false, hfirst]

/-- The mailbox once the descriptor has left it. -/
def mailboxLeft (s : State) (d : List Byte) (rest : List (List Byte)) : State :=
  (verdict s d).2.setRing 4 { (verdict s d).2.ring 4 with fetched := rest }

/-- The mailbox once the descriptor has left it and its number is used. -/
def mailboxTook (s : State) (d : List Byte) (rest : List (List Byte)) : State :=
  (mailboxLeft s d rest).setRing 4 { (mailboxLeft s d rest).ring 4 with mbxSeq := (((mailboxLeft s d rest).ring 4).mbxSeq + 1) % 2 ^ 32 }

/-- The mailbox with the command behind those it holds. -/
def mailboxHolds (s : State) (d : List Byte) (rest : List (List Byte)) (c : Cmd) : State :=
  (mailboxTook s d rest).setRing 4 { (mailboxTook s d rest).ring 4 with cmds := ((mailboxTook s d rest).ring 4).cmds ++ [c] }

theorem mailboxLeft_ring : (mailboxLeft s d rest).ring 4 = { s.ring 4 with fetched := rest } := by
  have hv : (verdict s d).2.ring 4 = s.ring 4 := State.ring_congr ((touches_verdict s d).part .rings (by decide)) 4
  rw [mailboxLeft, State.ring_setRing_self, hv]

theorem mailboxTook_ring : (mailboxTook s d rest).ring 4 = { s.ring 4 with fetched := rest, mbxSeq := ((s.ring 4).mbxSeq + 1) % 2 ^ 32 } := by
  rw [mailboxTook, State.ring_setRing_self, mailboxLeft_ring]

theorem mailboxHolds_ring (hc : (s.ring 4).cmds = []) (c : Cmd) : (mailboxHolds s d rest c).ring 4 =
    { s.ring 4 with fetched := rest, mbxSeq := ((s.ring 4).mbxSeq + 1) % 2 ^ 32, cmds := [c] } := by
  rw [mailboxHolds, State.ring_setRing_self, mailboxTook_ring, hc]
  rfl

theorem mailboxHolds_dram (c : Cmd) : (mailboxHolds s d rest c).dram = s.dram := (touches_verdict s d).part .dram (by decide)

/-- The command a mailbox descriptor becomes. -/
def mailboxCmd (s : State) (d : List Byte) (rest : List (List Byte)) : Cmd :=
  takenCmd ((mailboxLeft s d rest).ring 4).mbxSeq d (nextOrder (mailboxTook s d rest)) (timeoutOf s d)

theorem mailboxCmd_seq : (mailboxCmd s d rest).seq = (s.ring 4).mbxSeq :=
  (congrArg Ring.mbxSeq (mailboxLeft_ring (s := s) (d := d) (rest := rest))).trans rfl

theorem takeFrom_mailbox (hf : (s.ring 4).fetched = d :: rest) : takeFrom s 4 = match (verdict s d).1 with
    | some parts => finishCmd (mailboxHolds s d rest (mailboxCmd s d rest)) { src := 4, seq := (mailboxCmd s d rest).seq } parts
    | none =>
      let u := mailboxHolds s d rest (mailboxCmd s d rest)
      let c := if descOpcode d = 0x0001 then { mailboxCmd s d rest with parts := (summary u).map summaryPart } else mailboxCmd s d rest
      askData (putCmd (injectTaken u d) { src := 4, seq := (mailboxCmd s d rest).seq } c) 4 c := by
  unfold takeFrom
  simp only
  split
  · next h => exact absurd (hf.symm.trans h) (by simp)
  · next d' rest' h =>
    obtain ⟨rfl, rfl⟩ := List.cons.inj (hf.symm.trans h)
    rfl

/-- After the descriptor is taken the mailbox holds the command, with an outcome exactly where a check refused it. -/
theorem takeFrom_spec (hf : (s.ring 4).fetched = d :: rest) (hc : (s.ring 4).cmds = []) : ∃ c, ((takeFrom s 4).ring 4).fetched = rest ∧
    ((takeFrom s 4).ring 4).cmds = [c] ∧ c.seq = (s.ring 4).mbxSeq ∧ c.desc = d ∧ c.timeout = timeoutOf s d ∧ c.began = false ∧
    c.done = (verdict s d).1.isSome ∧ ((verdict s d).1.isSome = true → some c.parts = (verdict s d).1) ∧
    ((takeFrom s 4).ring 4).mbxSeq = ((s.ring 4).mbxSeq + 1) % 2 ^ 32 ∧ SameMemory s (takeFrom s 4) := by
  have hring := mailboxHolds_ring (d := d) (rest := rest) hc (mailboxCmd s d rest)
  have hdram := mailboxHolds_dram (s := s) (d := d) (rest := rest) (mailboxCmd s d rest)
  have hid := mailboxCmd_seq (s := s) (d := d) (rest := rest)
  rw [takeFrom_mailbox hf, hid]
  generalize mailboxHolds s d rest (mailboxCmd s d rest) = u at hring hdram
  cases hv : (verdict s d).1 with
  | some parts =>
    have hfind : findCmd u { src := 4, seq := (s.ring 4).mbxSeq } = some (mailboxCmd s d rest) := by
      rw [findCmd, show (4 : Source).val = 4 from rfl, hring]
      exact List.find?_cons_of_pos (beq_iff_eq.2 hid)
    have hput := finishCmd_eq hfind rfl rfl parts
    have hleave : leaveRead u { src := 4, seq := (s.ring 4).mbxSeq } (mailboxCmd s d rest) = u := rfl
    have hfin : (finishCmd u { src := 4, seq := (s.ring 4).mbxSeq } parts).ring 4 =
        { u.ring 4 with cmds := [{ mailboxCmd s d rest with done := true, parts := parts }] } := by
      rw [hput, hleave, putCmd, show (4 : Source).val = 4 from rfl, State.ring_setRing_self, hring]
      simp [hid]
    refine ⟨{ mailboxCmd s d rest with done := true, parts := parts }, ?_, ?_, hid, rfl, rfl, rfl, rfl, fun _ => rfl, ?_, ?_⟩
    · rw [hfin, hring]
    · rw [hfin]
    · rw [hfin, hring]
    · exact (sameMemory_of_dram hdram).trans ((touches_finishCmd u _ parts).ram (by decide))
  | none =>
    simp only
    generalize hcmd : (if descOpcode d = 0x0001 then { mailboxCmd s d rest with parts := (summary u).map summaryPart } else mailboxCmd s d rest) = c
    have hlook : c.seq = (s.ring 4).mbxSeq ∧ c.desc = d ∧ c.timeout = timeoutOf s d ∧ c.began = false ∧ c.done = false := by
      rw [← hcmd]
      split <;> exact ⟨hid, rfl, rfl, rfl, rfl⟩
    have hinject : (injectTaken u d).ring 4 = u.ring 4 := State.ring_congr ((touches_injectTaken u d).part .rings (by decide)) 4
    have hput : (putCmd (injectTaken u d) { src := 4, seq := (s.ring 4).mbxSeq } c).ring 4 = { u.ring 4 with cmds := [c] } := by
      rw [putCmd, show (4 : Source).val = 4 from rfl, State.ring_setRing_self, hinject, hring]
      simp [hid]
    have hmem : SameMemory s (askData (putCmd (injectTaken u d) { src := 4, seq := (s.ring 4).mbxSeq } c) 4 c) :=
      (sameMemory_of_dram hdram).trans (((((touches_injectTaken u d).mono (ps := [.fab, .rings, .out]) (gs := [])).then (touches_putCmd _ _ c)).then
        (touches_askData _ 4 c)).ram (by decide))
    generalize putCmd (injectTaken u d) { src := 4, seq := (s.ring 4).mbxSeq } c = w at hput hmem
    obtain ⟨hseq, hdesc, htime, hbegan, hdone⟩ := hlook
    have hask : ∃ c', ((askData w 4 c).ring 4) = { w.ring 4 with cmds := [c'] } ∧ Asks c c' := by
      unfold askData
      split
      · exact ⟨c, by rw [hput], Asks.refl c⟩
      · simp only
        split
        · exact ⟨c, by rw [hput], Asks.refl c⟩
        · refine ⟨{ c with asked := true }, ?_, Or.inr rfl⟩
          refine (State.ring_setRing_self w 4 _).trans ?_
          rw [hput]
          simp
    obtain ⟨c', hring', hasks⟩ := hask
    refine ⟨c', ?_, ?_, ?_⟩
    · rw [hring', hput, hring]
    · rw [hring']
    · have hmbx : ((askData w 4 c).ring 4).mbxSeq = ((s.ring 4).mbxSeq + 1) % 2 ^ 32 := by rw [hring', hput, hring]
      rcases hasks with rfl | rfl
      · exact ⟨hseq, hdesc, htime, hbegan, hdone, fun h => absurd h (by simp), hmbx, hmem⟩
      · exact ⟨hseq, hdesc, htime, hbegan, hdone, fun h => absurd h (by simp), hmbx, hmem⟩
end

/-! ### Data read for a command (R82), and its timeout (R125) -/

theorem touches_refreshSessions (s : State) : Touches [.regs] [0x1F] s (refreshSessions s) := by
  unfold refreshSessions
  refine Touches.then (Touches.foldl (fun t k hk => ?_) s) (touches_setFld F.UPD_STATUS_SESS_RUN _)
  have hp : (F.UPD_IMG_INFO_IN_SESSION k).addr / 0x1000 = 0x1F := by
    have := List.mem_range.1 hk
    simp only [A.UPD_IMG_INFO]
    omega
  exact hp ▸ touches_setFld (F.UPD_IMG_INFO_IN_SESSION k) _

theorem touches_emptyImage (s : State) {k : Nat} (hk : k < 8) : Touches [.regs, .upd] [0x1F] s (emptyImage s k) := by
  have hp : A.UPD_IMG_INFO k / 0x1000 = 0x1F := by
    simp only [A.UPD_IMG_INFO]
    omega
  have hinfo : Touches [.regs, .upd] [0x1F] s (s.setReg (A.UPD_IMG_INFO k) 0#32) := (touches_setReg _ _).mono (by decide) (by rw [hp]; decide)
  unfold emptyImage
  exact ((hinfo.then (touches_setFld F.UPD_STATUS_IMG_VALID _)).then (touches_parts [.upd] rfl (gs := []))).then (touches_refreshSessions _)

section
variable {s : State} {id : CmdId} {c : Cmd}

/-- The failed read of a command's data completes it DMA_FAIL. -/
theorem dataFails_spec (hc : findCmd s id = some c) (hd : c.done = false) (hl : c.lost = false) :
    outcome (dataFails s id c) id = some (onePart 0x13 0 []) ∧ causeSet (dataFails s id c) 0x05 31 = true ∧ SameMemory s (dataFails s id c) := by
  have hseq := eq_of_beq (findCmd_seq hc)
  have hrings : ∀ k, (dmaFail s id.src.val).ring k = s.ring k := State.ring_congr ((touches_dmaFail s id.src.val).part .rings (by decide))
  have hfind : findCmd (putCmd (dmaFail s id.src.val) id { c with asked := false }) id = some { c with asked := false } := by
    refine findCmd_putCmd (c := c) ?_ hseq
    rw [findCmd, hrings]
    exact hc
  have hout := outcome_finish hfind hd hl 0x13 []
  have hput : Touches [.rings] [] (dmaFail s id.src.val) (finish (putCmd (dmaFail s id.src.val) id { c with asked := false }) id 0x13 []) :=
    (touches_putCmd _ _ _).trans (touches_finishCmd _ _ _)
  have hcause : causeSet (finish (putCmd (dmaFail s id.src.val) id { c with asked := false }) id 0x13 []) 0x05 31 = true := by
    rw [causeSet, hput.reg _ (by simp)]
    exact causeSet_recordErr s 0x05 0x81 0 _
  have hmem : SameMemory s (finish (putCmd (dmaFail s id.src.val) id { c with asked := false }) id 0x13 []) :=
    ((touches_dmaFail s id.src.val).ram (by decide)).trans (hput.ram (by decide))
  unfold dataFails
  simp only
  generalize finish (putCmd (dmaFail s id.src.val) id { c with asked := false }) id 0x13 [] = u at hout hcause hmem
  split
  · exact ⟨hout, hcause, hmem⟩
  · have himage := touches_emptyImage u (k := fieldAt c.desc 16 1 % 8) (Nat.mod_lt _ (by decide))
    refine ⟨?_, ?_, hmem.trans (himage.ram (by decide))⟩
    · rw [outcome, findCmd, State.ring_congr (himage.part .rings (by decide))]
      exact hout
    · rw [causeSet, himage.reg _ (by decide)]
      exact hcause

/-- A read of data that a command waits for, when it ends. -/
theorem exec_cmdDataReadDone (hs : s.answers = true) (hc : findCmd s id = some c) (hd : c.done = false) (hask : c.asked = true)
    (hdata : c.data = none) {addr len : Nat} (hplace : cmdData c.desc = some (addr, len)) :
    (∀ bs, bs.length = len → exec (.cmdDataReadDone id (some bs)) s = .next (readsGo (putCmd s id { c with data := some bs }))) ∧
      exec (.cmdDataReadDone id none) s = .next (readsGo (dataFails s id c)) := by
  have hwait : (findCmd s id).filter (fun c => c.asked && !c.done && c.data.isNone) = some c := by
    rw [hc, Option.filter_some, hask, hd, hdata]
    rfl
  refine ⟨fun bs hbs => ?_, ?_⟩
  · refine (next_of_answers hs).trans (congrArg Host.Outcome.next ?_)
    simp only [hwait, hplace, hbs, if_true]
  · refine (next_of_answers hs).trans (congrArg Host.Outcome.next ?_)
    simp only [hwait]

theorem timesOut_plain (h : descOpcode c.desc ∉ [0x0005, 0x0006, 0x0104, 0x0105, 0x0106]) : timesOut s id c = finish s id 0x40 [] := by
  simp only [List.mem_cons, List.not_mem_nil, or_false, not_or] at h
  obtain ⟨h1, h2, h3, h4, h5⟩ := h
  unfold timesOut
  split
  · next e => exact absurd e h1
  · next e => exact absurd e h2
  · next e => exact absurd e h3
  · next e => exact absurd e h4
  · next e => exact absurd e h5
  · rfl

end

/-- Settles O31: descriptors fetched, taken and checked, the data of commands read, and their timeout. -/
theorem descriptorsBecomeCommands : Obligations.DescriptorsBecomeCommands := by
  unfold Obligations.DescriptorsBecomeCommands
  refine ⟨fun s k f hs hst hf => ⟨fun ds hlen hphase => ?_, ?_⟩, fun s k hs hstale => ⟨?_, ?_⟩, fun s d rest ht hf hc => ?_,
    fun s id c hs hc hd hl => ⟨fun hask hdata addr len hplace => ⟨fun bs hbs => ?_, ?_⟩, fun hcom hstart hop => ?_⟩⟩
  · refine (next_of_answers hs).trans (congrArg Host.Outcome.next ?_)
    simp only [hst, beq_self_eq_true, if_true, fetchDone_data hf hlen hphase]
  · refine ⟨readsGo (ringFault (dmaFail (s.setRing k { s.ring k with fetch := none }) k) k), ?_, fetchFailed_spec s k _ rfl⟩
    refine (next_of_answers hs).trans (congrArg Host.Outcome.next ?_)
    simp only [hst, beq_self_eq_true, if_true, fetchDone_failed hf]
  · exact (next_of_answers hs).trans (congrArg (fun t => Host.Outcome.next (readsGo t)) (staleFetchDone_good hstale))
  · exact ⟨_, next_of_answers hs, staleFailed_spec hstale⟩
  · obtain ⟨c, hspec⟩ := takeFrom_spec hf hc
    exact ⟨_, c, descriptorTake_mailbox ht hf, hspec⟩
  · have hseq := eq_of_beq (findCmd_seq hc)
    obtain ⟨c', hfind, hasks⟩ := (readsAsked_readsGo (putCmd s id { c with data := some bs })).find (findCmd_putCmd hc hseq)
    refine ⟨_, (exec_cmdDataReadDone hs hc hd hask hdata hplace).1 bs hbs, hfind.trans ?_, ?_⟩
    · rcases hasks with rfl | rfl
      · rfl
      · rw [hask]
    · exact (((touches_putCmd s id _).mono (ps := [.rings, .out]) (gs := [])).then (touches_readsGo _)).eq
  · obtain ⟨hout, hcause, hmem⟩ := dataFails_spec hc hd hl
    have hasked := readsAsked_readsGo (dataFails s id c)
    exact ⟨_, (exec_cmdDataReadDone hs hc hd hask hdata hplace).2, hasked.outcome_eq hout, (causeSet_of_regs hasked.regs _ _).trans hcause,
      hmem.trans ((touches_readsGo _).ram (by decide))⟩
  · refine ⟨finish s id 0x40 [], ?_, outcome_finish hc hd hl 0x40 [], (touches_finishCmd s id _).eq⟩
    simp only [exec, execCommandTimeout, hc, hs, hcom, hstart, Bool.not_true, Bool.or_self, Bool.false_eq_true, if_false, timesOut_plain hop]

end Sys2Proof.Machine
end

section
/-!
PROOFS. Records written to the completion rings and the mailbox (03_host_interface.md, Command and completion rings, Mailbox): the statement O32.
-/
namespace Sys2Proof.Machine

-- One proof after another: side by side, the threads of so long a text want more memory than the check grants.
set_option Elab.async false

/-- What both branches have, the choice between them has. -/
theorem State.ite_of {c : Prop} [Decidable c] {P : State → Prop} {x y : State} (hx : P x) (hy : P y) : P (if c then x else y) := by
  split
  · exact hx
  · exact hy

theorem touches_drawNat (s : State) (n : Nat) : Touches [.fresh] [] s (drawNat s n).2 := touches_draw

/-! ### One record (R94–R98) -/

section
variable (s : State)

theorem ringPointer_page {k : Nat} (hk : k < 4) : A.CMD_RING_CQ_TAIL k / 0x1000 = 0x05 := by
  simp only [A.CMD_RING_CQ_TAIL]
  omega

theorem touches_putRecord {src : Nat} (bytes : Bool → List Byte) :
    Touches [.regs, .rings, .out, .fresh] [0x05] s (putRecord s src bytes) := by
  unfold putRecord
  refine Touches.ite (fun hk => ?_) (fun _ => ((touches_drawNat s 2).mono.then (touches_setRing _ 4 _)))
  have hset : ∀ (x : State) v, Touches [.regs, .rings, .out, .fresh] [0x05] x (x.setFld (F.CMD_RING_CQ_TAIL_TAIL src) v) := fun x v =>
    (touches_setFld (F.CMD_RING_CQ_TAIL_TAIL src) v).mono (by decide) (by rw [show (F.CMD_RING_CQ_TAIL_TAIL src).addr / 0x1000 = 0x05 from ringPointer_page hk]; decide)
  exact (((touches_send _ (gs := [])).mono.trans (hset _ _)).then (touches_setRing _ src _))

/-- A record of a ring goes to the host at CQ_TAIL, which advances. -/
theorem putRecord_ring {k : Nat} (hk : k < 4) (bytes : Bool → List Byte) :
    (putRecord s k bytes).out = s.out ++ [.dmaWrite (s.wide (A.CMD_RING_CQ_BASE k) + 32 * s.fld (F.CMD_RING_CQ_TAIL_TAIL k)) (bytes (s.ring k).cqPhase)] ∧
      (putRecord s k bytes).fld (F.CMD_RING_CQ_TAIL_TAIL k) = nextIdx (s.fld (F.CMD_RING_CQ_TAIL_TAIL k)) (cqSize s k) % 2 ^ 12 := by
  rw [putRecord, if_pos hk]
  exact ⟨rfl, State.fld_setFld_self _ (F.CMD_RING_CQ_TAIL_TAIL k) _ (show 0 + 12 ≤ 32 by decide)⟩

/-- A record of the mailbox goes behind those of its queue. -/
theorem putRecord_mailbox (bytes : Bool → List Byte) : ∃ b, (putRecord s 4 bytes).ring 4 = { s.ring 4 with queue := (s.ring 4).queue ++ [b] } :=
  ⟨_, State.ring_setRing_self (drawNat s 2).2 4 _⟩

theorem touches_countCompletion (src : Nat) (irq : Bool) : Touches [.regs, .host, .out, .rings] [0x05] s (countCompletion s src irq) :=
  Touches.ite (fun _ => (touches_setRing s src _).mono.then (touches_setCause 0x05 src)) (fun _ => (touches_setRing s src _).mono)

theorem touches_writePart {src : Nat} (c : Cmd) (p : Part) :
    Touches [.regs, .rings, .host, .out, .fresh] [0x05] s (writePart s src c p) := by
  unfold writePart
  exact Touches.ite (fun _ => (((touches_putRecord s _).mono (by decide) (by decide)).then (touches_setRing _ src _)).then
    (touches_countCompletion _ src _)) (fun _ => ((touches_putRecord s _).mono (by decide) (by decide)).then (touches_setRing _ src _))

/-- The record of one part. -/
def partRecord (c : Cmd) (p : Part) (phase : Bool) : List Byte :=
  recordBytes c.seq (descTag c.desc) p.status (recordFlags phase (c.written + 1 != c.parts.length) false) c.written p.result0 p.result

theorem setCause_out_prefix (page b : Nat) : s.out <+: (setCause s page b).out := (setCause_keep (b := false) (s0 := s) (Keep.refl _)).out

theorem countCompletion_after (src : Nat) (irq : Bool) :
    s.out <+: (countCompletion s src irq).out ∧ OnlyRegs s (countCompletion s src irq) [0x05010] :=
  State.ite_of (P := fun t => s.out <+: t.out ∧ OnlyRegs s t [0x05010]) ⟨setCause_out_prefix (s.setRing src _) 0x05 src, onlyRegs_setCause (s.setRing src _) 0x05 src⟩
    ⟨List.prefix_refl _, fun _ _ => rfl⟩

/-- A part written after the record: the command's last, or one of several. -/
theorem writePart_eq (src : Nat) (c : Cmd) (p : Part) : writePart s src c p =
    let u := putRecord s src (partRecord c p)
    if c.written + 1 == c.parts.length then
      countCompletion (u.setRing src { u.ring src with cmds := (u.ring src).cmds.filter (fun x => x.seq != c.seq || x.lost), lastSeq := some c.seq })
        src (descIrq c.desc)
    else u.setRing src { u.ring src with
      cmds := (u.ring src).cmds.map (fun x => if x.seq == c.seq && !x.lost then { x with written := x.written + 1 } else x) } := rfl

theorem writePart_after (k : Nat) (c : Cmd) (p : Part) : (putRecord s k (partRecord c p)).out <+: (writePart s k c p).out ∧
    OnlyRegs (putRecord s k (partRecord c p)) (writePart s k c p) [0x05010] := by
  rw [writePart_eq]
  generalize putRecord s k (partRecord c p) = u
  exact State.ite_of (P := fun t => u.out <+: t.out ∧ OnlyRegs u t [0x05010]) (countCompletion_after (u.setRing k _) k _)
    ⟨List.prefix_refl _, fun _ _ => rfl⟩

/-- The mailbox has no limit to count to: every record sets its cause. -/
theorem countCompletion_mailbox (irq : Bool) : countCompletion s 4 irq = setCause (s.setRing 4 { s.ring 4 with coalCount := 0 }) 0x05 4 :=
  if_pos (by simp)

/-- The last part of a command of the mailbox ends it there. -/
theorem writePart_last {c : Cmd} {p : Part} (hc : (s.ring 4).cmds = [c]) (hl : c.lost = false) (hlast : c.written + 1 = c.parts.length) :
    ((writePart s 4 c p).ring 4).cmds = [] ∧ ((writePart s 4 c p).ring 4).queue.length = (s.ring 4).queue.length + 1 ∧
      ((writePart s 4 c p).ring 4).lastSeq = some c.seq ∧ causeSet (writePart s 4 c p) 0x05 4 = true := by
  obtain ⟨b, hput⟩ := putRecord_mailbox s (partRecord c p)
  rw [writePart_eq]
  generalize putRecord s 4 (partRecord c p) = u at hput
  simp only [hlast, beq_self_eq_true, if_true, countCompletion_mailbox]
  rw [State.ring_congr (setCause_rings _ _ _), State.ring_setRing_self, State.ring_setRing_self, hput, hc,
    causeSet_setCause _ _ _ _ (by decide), beq_self_eq_true, Bool.or_true]
  simp [hl]
end

/-! ### COMPLETION_WRITE -/

section
variable {s : State} {c : Cmd} {p : Part}

/-- With room and nothing lost, the oldest command's next part is written. -/
theorem completionWrite_part {src : Nat} (hs : s.answers = true) (hroom : recordRoom s src = true) (hst : src < 4 → ringState s src ≠ 0)
    (hlost : (s.ring src).lost = none) (hc : (s.ring src).cmds.find? (fun c => !c.lost) = some c) (hd : c.done = true)
    {ps : List Part} (hp : c.parts.drop c.written = p :: ps) : completionWrite s src = writePart s src c p := by
  have hstate : (decide (src < 4) && decide (ringState s src = 0)) = false := by
    rw [Bool.and_eq_false_iff, decide_eq_false_iff_not, decide_eq_false_iff_not]
    by_cases h : src < 4
    · exact Or.inr (hst h)
    · exact Or.inl h
  simp only [completionWrite, hs, hroom, Bool.not_true, Bool.or_self, Bool.false_eq_true, if_false, hstate, hlost, ite_self, hc, hd, hp]
end

/-! ### The mailbox registers (R107, R108, R49) -/

section
variable {s : State}

/-- GO set where it was 0. -/
theorem startGo_new {a b : Nat} (h : bit (s.reg a).toNat b = false) : startGo s a b = s.setReg a (s.reg a ||| BitVec.ofNat 32 (2 ^ b)) := by
  rw [startGo, h, Bool.false_and, if_neg Bool.false_ne_true]

theorem State.flag_eq_bit {f : Fld} (hw : f.width = 1) : s.flag f = bit (s.reg f.addr).toNat f.lsb := by
  rw [State.flag, State.fld, hw, bit_eq_bitsOf]

/-- GO cleared where no further start waits. -/
theorem endGo_done {a b : Nat} (h : s.bus.goPending.contains (a * 32 + b) = false) :
    (endGo s a b).1 = s.setReg a (s.reg a &&& ~~~(BitVec.ofNat 32 (2 ^ b))) := by
  rw [endGo, h, if_neg Bool.false_ne_true]

theorem bit_ofTwoPow {b : Nat} (hb : b < 32) : (BitVec.ofNat 32 (2 ^ b)).getLsbD b = true := by
  rw [BitVec.getLsbD_ofNat, Nat.testBit_two_pow_self, decide_eq_true hb, Bool.and_self]

theorem bit_clearWord (w : Word) {b : Nat} (hb : b < 32) : bit (w &&& ~~~(BitVec.ofNat 32 (2 ^ b))).toNat b = false := by
  rw [bit_and]
  have h : bit (~~~(BitVec.ofNat 32 (2 ^ b))).toNat b = false := by
    rw [bit_eq_testBit, BitVec.testBit_toNat, BitVec.getLsbD_not, bit_ofTwoPow hb, Bool.not_true, Bool.and_false]
  rw [h, Bool.and_false]

theorem bit_setWord (w : Word) {b : Nat} (hb : b < 32) : bit (w ||| BitVec.ofNat 32 (2 ^ b)).toNat b = true := by
  rw [bit_or]
  have h : bit (BitVec.ofNat 32 (2 ^ b)).toNat b = true := by
    rw [bit_eq_testBit, BitVec.testBit_toNat, bit_ofTwoPow hb]
  rw [h, Bool.or_true]

theorem touches_latchShadow (src : Requester) (base : Nat) (ws : List Word) : Touches [.bus] [] s (latchShadow s src base ws) :=
  touches_parts [.bus] rfl

theorem touches_readWide (src : Requester) (a : Nat) (ws : List Word) : Touches [.bus, .out] [] s (readWide s src a ws) :=
  (touches_latchShadow src a _).mono.then (touches_send _ (gs := []))

/-- A pop of the mailbox returns the count of what remains, and takes the record but for JTAG. -/
theorem mbxPop_spec {r : List Byte} {rest : List (List Byte)} (src : Requester) (hq : (s.ring 4).queue = r :: rest) :
    (mbxPop s src).out = s.out ++ [.readData src A.CMD_MBX_CPL (BitVec.ofNat 32 (2 ^ 31 + rest.length))] ∧
      ((mbxPop s src).ring 4).queue = (if src = .jtag then r :: rest else rest) ∧ SameMemory s (mbxPop s src) := by
  have hwords : ∃ ws, mbxCplWords s = BitVec.ofNat 32 (2 ^ 31 + rest.length) :: ws := ⟨_, by rw [mbxCplWords, hq]⟩
  obtain ⟨ws, hws⟩ := hwords
  have hread := touches_readWide (s := s) src A.CMD_MBX_CPL (mbxCplWords s)
  have hout : (readWide s src A.CMD_MBX_CPL (mbxCplWords s)).out = s.out ++ [.readData src A.CMD_MBX_CPL (BitVec.ofNat 32 (2 ^ 31 + rest.length))] := by
    rw [hws]
    rfl
  have hqueue : ((readWide s src A.CMD_MBX_CPL (mbxCplWords s)).ring 4).queue = r :: rest := by
    rw [State.ring_congr (hread.part .rings (by decide)), hq]
  unfold mbxPop
  simp only
  generalize readWide s src A.CMD_MBX_CPL (mbxCplWords s) = u at hread hout hqueue
  by_cases hj : src = .jtag
  · rw [if_pos (by simp [hj]), if_pos hj]
    exact ⟨hout, hqueue, hread.ram (by decide)⟩
  · rw [if_neg (by simp [hj, hqueue]), if_neg hj]
    have hset : ∀ (l : List (Word × Nat)) (x : State),
        SameButRegs x (l.foldl (fun s e => s.setReg (A.CMD_MBX_CPL1 + 4 * e.2) e.1) x) := fun l x =>
      SameButRegs.foldl (g := fun s e => s.setReg (A.CMD_MBX_CPL1 + 4 * e.2) e.1) (fun t e => sameButRegs_setReg t _ _) l x
    have hframe := hset ((mbxCplWords s).drop 1).zipIdx ((u.setReg A.CMD_MBX_CPL 0#32).setRing 4 { u.ring 4 with queue := (u.ring 4).queue.drop 1 })
    refine ⟨?_, ?_, ?_⟩
    · rw [hframe.part State.out (fun _ _ => rfl)]
      exact hout
    · rw [State.ring_congr (hframe.part State.rings (fun _ _ => rfl)), State.ring_setRing_self, hqueue]
      rfl
    · exact (hread.ram (by decide)).trans hframe.sameMemory
end

/-! ### Coalescing timers (R113, R456) -/

section
variable (s : State)

theorem coalExpiry_ring {k : Nat} (hk : k < 4) (hc : (s.ring k).coalCount ≠ 0) (ht : s.fld (F.CMD_RING_COAL_TIME_US k) ≠ 0) :
    coalExpiry s k = setCause (s.setRing k { s.ring k with coalCount := 0 }) 0x05 k := by
  simp only [coalExpiry, hk, if_true, hc, ht, decide_false, Bool.or_self, Bool.false_eq_true, if_false]

theorem coalExpiry_host {k : Nat} (hc : hrxCount s k ≠ 0) (ht : s.fld (F.FAB_HRX_COAL_TIME_US k) ≠ 0) :
    coalExpiry s (5 + k) = setCause (setHrxCount s k 0) 0x20 (8 + k) := by
  have hlt : ¬ 5 + k < 4 := by omega
  have hne : ¬ 5 + k = 4 := by omega
  have hk : 5 + k - 5 = k := by omega
  simp only [coalExpiry, hlt, hne, hk, hc, ht, if_false, decide_false, Bool.or_self, Bool.false_eq_true]

theorem hrxCount_setHrxCount (k n : Nat) : hrxCount (setHrxCount s k n) k = n := Tbl.get_put_self _ _ _ _
end

/-- Settles O32: records written in order, the mailbox's descriptor and records, and the coalescing timers. -/
theorem completionsAreWrittenInOrder : Obligations.CompletionsAreWrittenInOrder := by
  unfold Obligations.CompletionsAreWrittenInOrder
  refine ⟨fun s k c p ps hs hst hroom hlost hc hd hp => ?_, fun s c p hs hroom hlost hc hl hd hp hw => ?_, fun s src data hs => ⟨fun h => ?_, fun h hgo => ?_,
    fun r rest hq => ?_⟩, fun s hs hgo hroom hc hf hpend => ?_, fun s k hs => ⟨fun hk hc ht => ?_, fun hk hc ht => ?_⟩⟩
  · have hexec : completionWrite s k = _ := (completionWrite_part hs hroom (fun _ => by rw [hst]; decide) hlost hc hd hp)
    obtain ⟨hout, htail⟩ := putRecord_ring s k.isLt (partRecord c p)
    obtain ⟨⟨more, hmore⟩, hregs⟩ := writePart_after s k c p
    refine ⟨_, more, congrArg Host.Outcome.next hexec, ?_, ?_, (touches_writePart s c p).ram (by decide)⟩
    · rw [← hmore, hout]
      rfl
    · rw [hregs.fld (by simp only [A.CMD_RING_CQ_TAIL, List.mem_singleton]; omega), htail]
  · have hfind : (s.ring 4).cmds.find? (fun c => !c.lost) = some c := by
      rw [hc]
      exact List.find?_cons_of_pos (by rw [hl]; rfl)
    have hroom' : recordRoom s 4 = true := decide_eq_true hroom
    exact ⟨_, congrArg Host.Outcome.next (completionWrite_part (src := 4) hs hroom' (fun h => absurd h (by decide)) hlost hfind hd
      (by rw [hp, hw]; rfl)), writePart_last s hc hl (by rw [hp, hw]; rfl)⟩
  · refine congrArg Host.Outcome.next ((gateWrite_inOperation hs (by decide +kernel) src _).trans ?_)
    rw [mbxSubmit, h, Bool.false_and, if_neg Bool.false_ne_true]
  · have hold : bit (s.reg A.CMD_MBX_SUBMIT).toNat 0 = false := (State.flag_eq_bit (f := F.CMD_MBX_SUBMIT_GO) rfl).symm.trans hgo
    have hstate : mbxSubmit s data allBits = s.setReg A.CMD_MBX_SUBMIT (s.reg A.CMD_MBX_SUBMIT ||| BitVec.ofNat 32 (2 ^ 0)) := by
      rw [mbxSubmit, h, show bit allBits.toNat 0 = true by decide, Bool.and_self, if_pos rfl, startGo_new hold]
    refine ⟨_, congrArg Host.Outcome.next ((gateWrite_inOperation hs (by decide +kernel) src _).trans hstate), ?_, onlyRegs_setReg s _ _, rfl⟩
    rw [State.flag_eq_bit rfl, State.reg_setReg_self]
    exact bit_setWord _ (by decide)
  · exact ⟨_, congrArg Host.Outcome.next (gateRead_inOperation hs (by decide +kernel) src _), mbxPop_spec src hq⟩
  · have hcopy : mbxCopy s = (endGo (s.setRing 4 { s.ring 4 with fetched := [mbxDescriptor s] }) A.CMD_MBX_SUBMIT 0).1 := by
      simp only [mbxCopy, hs, hgo, hroom, hc, hf, List.isEmpty_nil, decide_true, Bool.and_self, if_true]
    refine ⟨_, congrArg Host.Outcome.next (hcopy.trans (endGo_done (by exact hpend))), ?_, ?_, onlyRegs_setReg _ _ _⟩
    · exact congrArg Ring.fetched (State.ring_setRing_self s 4 _)
    · rw [State.flag_eq_bit rfl, State.reg_setReg_self]
      exact bit_clearWord _ (by decide)
  · refine ⟨_, congrArg Host.Outcome.next ((if_pos hs).trans (coalExpiry_ring s hk hc ht)), ?_, ?_, onlyRegs_setCause _ 0x05 k⟩
    · rw [causeSet_setCause _ _ _ _ (by omega), beq_self_eq_true, Bool.or_true]
    · rw [State.ring_congr (setCause_rings _ _ _), State.ring_setRing_self]
  · refine ⟨_, congrArg Host.Outcome.next ((if_pos hs).trans (coalExpiry_host s hc ht)), ?_, ?_, onlyRegs_setCause _ 0x20 (8 + k)⟩
    · rw [causeSet_setCause _ _ _ _ (by omega), beq_self_eq_true, Bool.or_true]
    · rw [hrxCount, setCause_fab]
      exact hrxCount_setHrxCount s k 0

end Sys2Proof.Machine
end

section
/-!
PROOFS. Lanes entering a state (06_radio_lanes.md, Lane states), and the key slots (17_keys_and_crypto.md, Slot storage and integrity): the
statement O38.
-/
namespace Sys2Proof.Machine

-- One proof after another: side by side, the threads of so long a text want more memory than the check grants.
set_option Elab.async false

/-! ### What a lane's change of state touches -/

/-- The pages of the radio lanes: LRFn, LBBn and the MAC's part of them. -/
def lanePages : List Nat := [0x10, 0x11, 0x12, 0x13, 0x14, 0x15, 0x16, 0x17, 0x18, 0x19, 0x1A, 0x1B]

section
variable {s : State}

theorem touches_setLane (n : Nat) (l : LaneSt) : Touches [.lanes] [] s (s.setLane n l) := touches_parts [.lanes] rfl

theorem touches_unblankJob (n : Nat) : Touches [.lanes] [] s (unblankJob s n) := touches_setLane n _

theorem touches_setPins (n : Nat) : Touches [.lanes] [] s (setPins s n) := touches_setLane n _

theorem touches_bankHalts (n : Nat) : Touches [.lanes] [] s (bankHalts s n) := touches_setLane n _

theorem touches_noteGap (n since : Nat) (blank : Bool) : Touches [.lanes] [] s (noteGap s n since blank) := touches_setLane n _

theorem touches_bankEnters (n st : Nat) : Touches [.lanes] [] s (bankEnters s n st) := by
  have hhalt : Touches [.lanes] [] s
      (if bankState (laneState s n) && !bankState st && s.flag (F.LBB_CTRL_RX_EN n) then bankHalts s n else s) :=
    Touches.ite (fun _ => touches_bankHalts n) (fun _ => Touches.refl s)
  unfold bankEnters
  simp only
  generalize (if bankState (laneState s n) && !bankState st && s.flag (F.LBB_CTRL_RX_EN n) then bankHalts s n else s) = u at hhalt ⊢
  refine hhalt.trans ?_
  split
  · exact touches_setLane n _
  · split
    · exact Touches.refl u
    · split
      · exact (touches_setLane n _).trans (touches_noteGap n _ false)
      · exact touches_setLane n _

theorem touches_enterState {n : Nat} (hn : n < 4) (st : Nat) (locked : Bool) : Touches [.regs, .lanes] [0x10, 0x11, 0x12, 0x13] s (enterState s n st locked) := by
  have hp : A.LRF_STATUS n / 0x1000 ∈ [0x10, 0x11, 0x12, 0x13] := by revert n; decide
  have hset : ∀ (x : State) (f : Fld) v, f.addr = A.LRF_STATUS n → Touches [.regs, .lanes] [0x10, 0x11, 0x12, 0x13] x (x.setFld f v) := fun x f v hf =>
    (touches_setFld f v).mono (by decide) (by rw [hf]; exact List.cons_subset.2 ⟨hp, List.nil_subset _⟩)
  unfold enterState
  refine Touches.then (Touches.trans (Touches.trans (Touches.then (Touches.ite (fun _ => Touches.refl s) (fun _ => (touches_unblankJob n).mono))
    (touches_bankEnters n st)) (hset _ _ _ rfl)) (hset _ _ _ rfl)) (touches_setPins n)

theorem touches_beginStartup {n : Nat} (hn : n < 4) : Touches [.regs, .lanes] [0x10, 0x11, 0x12, 0x13] s (beginStartup s n) :=
  (touches_setLane n _).mono.trans (touches_enterState hn 5 false)

theorem touches_laneOn {n : Nat} (hn : n < 4) : Touches [.regs, .lanes] [0x10, 0x11, 0x12, 0x13] s (laneOn s n) :=
  Touches.ite (fun _ => touches_beginStartup hn) (fun _ => Touches.refl s)

theorem touches_lanesOn : Touches [.regs, .lanes] [0x10, 0x11, 0x12, 0x13] s ((List.range 4).foldl laneOn s) :=
  Touches.foldl (fun _ _ hn => touches_laneOn (List.mem_range.1 hn)) s

/-! ### What the key store touches -/

theorem onlyRegs_refreshCounts : OnlyRegs s (refreshCounts s) [A.KSU_CNT_A, A.KSU_CNT_B, A.KSU_FIRST_BAD, A.KSU_MAX_EPOCH] :=
  (((onlyRegs_setReg s A.KSU_CNT_A _).trans (onlyRegs_setReg _ A.KSU_CNT_B _)).trans (onlyRegs_setReg _ A.KSU_FIRST_BAD _)).trans
    (onlyRegs_setReg _ A.KSU_MAX_EPOCH _)

theorem touches_refreshCounts : Touches [.regs] [0x28] s (refreshCounts s) :=
  (((touches_setReg A.KSU_CNT_A _).trans (touches_setReg A.KSU_CNT_B _)).trans (touches_setReg A.KSU_FIRST_BAD _)).trans
    (touches_setReg A.KSU_MAX_EPOCH _)

theorem touches_setSlot (n : Nat) (x : Slot) : Touches [.regs, .sec] [0x28] s (s.setSlot n x) :=
  Touches.then (x := s.putSlot n x) (touches_parts [.sec] rfl |>.mono (hs := [])) touches_refreshCounts

theorem touches_slotBadEvent (n cause : Nat) : Touches [.log] [] s (slotBadEvent s n cause) := touches_event _ _ _ _ _

theorem touches_markBad (n cause : Nat) : Touches [.regs, .sec, .log, .host, .out] [0x28] s (markBad s n cause) :=
  ((touches_setSlot n _).mono.then (touches_slotBadEvent n cause)).then (touches_setCause 0x28 1)

theorem touches_loadSlot (damaged : List (Nat × Bool)) (n : Nat) :
    Touches [.regs, .sec, .log, .host, .out] [0x28] s (loadSlot s damaged n) := by
  unfold loadSlot
  simp only
  split
  · exact (touches_setSlot n _).mono
  · refine Touches.ite (fun _ => touches_markBad n 2) (fun _ => Touches.ite (fun _ => ?_) (fun _ =>
      Touches.ite (fun _ => touches_markBad n 4) (fun _ => (touches_setSlot n _).mono)))
    have hbad : ∀ k, Touches [.regs, .sec, .log, .host, .out] [0x28] s (markBad (s.count F.KSU_TAG_FAILS_COUNT k) n 1) := fun k =>
      (touches_count F.KSU_TAG_FAILS_COUNT k).mono.trans (touches_markBad n 1)
    exact Touches.ite (fun _ => (hbad _).then (touches_slotBadEvent n 1)) (fun _ => hbad _)

/-! ### The roots stand through what BOOT does to the key store -/

theorem setSlot_sec (n : Nat) (x : Slot) : (s.setSlot n x).sec = (s.putSlot n x).sec := touches_refreshCounts.part .sec (by decide)

theorem markBad_sec (n cause : Nat) : (markBad s n cause).sec = (s.putSlot n { s.slot n with state := 2, key := [] }).sec := by
  have hev := (touches_slotBadEvent (s := s.setSlot n { s.slot n with state := 2, key := [] }) n cause).part .sec (by decide)
  rw [markBad, setCause_sec]
  exact hev.trans (setSlot_sec n _)

theorem loadSlot_roots (damaged : List (Nat × Bool)) (n : Nat) : (loadSlot s damaged n).sec.roots = s.sec.roots := by
  have hset : ∀ (u : State) x, (u.setSlot n x).sec.roots = u.sec.roots := fun u x => by rw [setSlot_sec]; rfl
  have hbad : ∀ (u : State) cause, (markBad u n cause).sec.roots = u.sec.roots := fun u cause => by rw [markBad_sec]; rfl
  have hone : ∀ k, (markBad (s.count F.KSU_TAG_FAILS_COUNT k) n 1).sec.roots = s.sec.roots := fun k => hbad _ 1
  unfold loadSlot
  simp only
  split
  · exact hset s _
  · split
    · exact hbad s 2
    · split
      · split
        · exact hone _
        · exact hone _
      · split
        · exact hbad s 4
        · exact hset s _

theorem foldl_loadSlot (damaged : List (Nat × Bool)) (l : List Nat) (x : State) :
    (l.foldl (fun s n => loadSlot s damaged n) x).sec.roots = x.sec.roots := by
  induction l generalizing x with
  | nil => rfl
  | cons n l ih => exact (ih _).trans (loadSlot_roots damaged n)

theorem zotOverwrite_roots : (zotOverwrite s).sec.roots = s.sec.roots := by
  have hcount : ∀ (u : State) k, (u.count F.KSU_ZEROISATIONS_COUNT k).sec = u.sec := fun _ _ => rfl
  have hev : ∀ (u : State) (c : Prop) [Decidable c] sub code sev data, (if c then u else u.event 0x28 sub code sev data).sec = u.sec :=
    fun u c _ sub code sev data => by split <;> rfl
  simp only [zotOverwrite]
  rw [setCause_sec, hev, hcount, touches_refreshCounts.part .sec (by decide)]

theorem reportTamper_roots (zot : Nat) : (reportTamper s zot).sec.roots = s.sec.roots := by
  unfold reportTamper
  split
  · rfl
  · split <;> rfl

theorem drawBytes_sec (n : Nat) : (drawBytes s n).2.sec = s.sec := (touches_drawBytes s n).part .sec (by decide)

theorem generate_roots (n : Nat) : (generate s n).2.sec.roots = s.sec.roots := by
  unfold generate
  split
  · rfl
  · exact congrArg (fun x => x.roots) (drawBytes_sec (s := { s.count F.TRNG_GENERATES_COUNT 1 with sec := _ }) n)

theorem createMask_roots : (createMask s).sec.roots = s.sec.roots := by
  have hg := generate_roots (s := s) 32
  unfold createMask
  split
  · rfl
  · simp only
    split <;> exact hg

/-- The end of KEY_STORE_LOAD: the store shows itself ready, with its mask and roots. -/
def storeReady (x : State) : State :=
  refreshCounts (((x.setFld F.KSU_STATUS_MASK_OK (b01 x.mask.isSome)).setFld F.KSU_STATUS_ROOTS (b01 x.sec.roots)).setFld F.KSU_STATUS_READY 1)

theorem storeReady_flags (x : State) : (storeReady x).flag F.KSU_STATUS_READY = true ∧ (storeReady x).flag F.KSU_STATUS_MASK_OK = x.mask.isSome := by
  have hcounts : ∀ (u : State), (refreshCounts u).reg A.KSU_STATUS = u.reg A.KSU_STATUS := fun u => onlyRegs_refreshCounts _ (by decide)
  constructor
  · rw [State.flag, State.fld, storeReady, hcounts]
    exact State.flag_setFld_one _ rfl (by decide)
  · rw [State.flag, State.fld, storeReady, hcounts]
    refine (State.flag_setFld_apart _ (f := F.KSU_STATUS_READY) (g := F.KSU_STATUS_MASK_OK) 1 (by decide) (by decide)).trans ?_
    refine (State.flag_setFld_apart _ (f := F.KSU_STATUS_ROOTS) (g := F.KSU_STATUS_MASK_OK) _ (by decide) (by decide)).trans ?_
    cases x.mask.isSome
    · exact State.flag_setFld_zero _ (by decide)
    · exact State.flag_setFld_one _ rfl (by decide)

theorem storeReady_sec (x : State) : (storeReady x).sec = x.sec := by
  have h := (touches_refreshCounts (s := ((x.setFld F.KSU_STATUS_MASK_OK (b01 x.mask.isSome)).setFld F.KSU_STATUS_ROOTS (b01 x.sec.roots)).setFld
    F.KSU_STATUS_READY 1)).part .sec (by decide)
  exact h

/-- The key store before it shows itself ready. -/
def keysRead (s : State) (damaged : List (Nat × Bool)) : State :=
  let unreported := match s.sec.tamper with
    | some t => !t.reported
    | none => false
  let u := reportTamper (if unreported || s.sec.zotDue then zotOverwrite s else s) (zotSlots s)
  createMask ((u.sec.slots.map (fun e => e.1)).foldl (fun s n => loadSlot s damaged n) u)

theorem keyStoreLoad_eq (damaged : List (Nat × Bool)) : keyStoreLoad s damaged =
    { storeReady (keysRead s damaged) with boot := { (storeReady (keysRead s damaged)).boot with keysLoaded := true } } := rfl

theorem keysRead_roots (damaged : List (Nat × Bool)) : (keysRead s damaged).sec.roots = s.sec.roots := by
  unfold keysRead
  simp only
  rw [createMask_roots, foldl_loadSlot, reportTamper_roots]
  exact State.ite_of (P := fun x => x.sec.roots = s.sec.roots) zotOverwrite_roots rfl

theorem keyStoreLoad_spec (damaged : List (Nat × Bool)) : (keyStoreLoad s damaged).boot.keysLoaded = true ∧
    (keyStoreLoad s damaged).flag F.KSU_STATUS_READY = true ∧ (keyStoreLoad s damaged).flag F.KSU_STATUS_MASK_OK = (keyStoreLoad s damaged).mask.isSome ∧
    (keyStoreLoad s damaged).sec.roots = s.sec.roots := by
  obtain ⟨hready, hmask⟩ := storeReady_flags (keysRead s damaged)
  have hsec := storeReady_sec (keysRead s damaged)
  have hroots := keysRead_roots (s := s) damaged
  have hshown : (keysRead s damaged).mask = (storeReady (keysRead s damaged)).mask := by rw [State.mask, State.mask, hsec]
  rw [hshown] at hmask
  rw [← hsec] at hroots
  rw [keyStoreLoad_eq]
  generalize storeReady (keysRead s damaged) = r at hready hmask hroots ⊢
  exact ⟨rfl, hready, hmask, hroots⟩

/-! ### A slot that does not read back (R564) -/

/-- A slot with one committed half that does not read back becomes BAD, and is counted once. -/
theorem loadSlot_bad {n : Nat} (ha : (s.slot n).a.commit = 0xC3A5) (hz : isZot (s.slot n).a.attr = false) (hb : (s.slot n).b.commit ≠ 0xC3A5) :
    loadSlot s [(n, false), (n, true)] n = markBad (s.count F.KSU_TAG_FAILS_COUNT 1) n 1 := by
  have hca : ((s.slot n).a.commit == committed) = true := beq_iff_eq.2 ha
  have hcb : ((s.slot n).b.commit == committed) = false := beq_eq_false_iff_ne.2 hb
  have hlive : (s.slot n).committedHalf = some false := by rw [Slot.committedHalf, hca, hcb]
  have hdam : ([(n, false), (n, true)] : List (Nat × Bool)).contains (n, false) = true := by simp
  simp only [loadSlot, hlive, show (s.slot n).half false = (s.slot n).a from rfl, show (s.slot n).half true = (s.slot n).b from rfl, hca, hcb, hz, hdam,
    Bool.and_false, Bool.false_and, Bool.or_self, Bool.false_eq_true, if_false, Bool.true_or, Bool.and_self, Bool.or_false, if_true]
  rfl

theorem State.slot_putSlot (n : Nat) (x : Slot) : (s.putSlot n x).slot n = x := Tbl.get_put_self _ _ _ _

theorem onlyRegs_setSlot (n : Nat) (x : Slot) : OnlyRegs s (s.setSlot n x) [A.KSU_CNT_A, A.KSU_CNT_B, A.KSU_FIRST_BAD, A.KSU_MAX_EPOCH] :=
  fun a ha => onlyRegs_refreshCounts (s := s.putSlot n x) a ha

theorem markBad_slot (n cause : Nat) : (markBad s n cause).slot n = { s.slot n with state := 2, key := [] } := by
  rw [State.slot, markBad_sec, ← State.slot, State.slot_putSlot]

theorem onlyRegs_markBad (n cause : Nat) :
    OnlyRegs s (markBad s n cause) [A.KSU_CNT_A, A.KSU_CNT_B, A.KSU_FIRST_BAD, A.KSU_MAX_EPOCH, 0x28010] := by
  have hset := onlyRegs_setSlot (s := s) n { s.slot n with state := 2, key := [] }
  unfold markBad
  generalize s.setSlot n { s.slot n with state := 2, key := [] } = u at hset ⊢
  have hcause := onlyRegs_setCause (slotBadEvent u n cause) 0x28 1
  exact OnlyRegs.trans (t := u) hset hcause

theorem loadSlot_bad_spec {n : Nat} (ha : (s.slot n).a.commit = 0xC3A5) (hz : isZot (s.slot n).a.attr = false) (hb : (s.slot n).b.commit ≠ 0xC3A5) :
    ((loadSlot s [(n, false), (n, true)] n).slot n) = { s.slot n with state := 2, key := [] } ∧
      causeSet (loadSlot s [(n, false), (n, true)] n) 0x28 1 = true ∧
      (loadSlot s [(n, false), (n, true)] n).fld F.KSU_TAG_FAILS_COUNT = satAdd 32 (s.fld F.KSU_TAG_FAILS_COUNT) 1 ∧
      SameMemory s (loadSlot s [(n, false), (n, true)] n) := by
  rw [loadSlot_bad ha hz hb]
  refine ⟨markBad_slot n 1, ?_, ?_, ?_⟩
  · rw [markBad, causeSet_setCause _ _ _ _ (by decide), beq_self_eq_true, Bool.or_true]
  · rw [(onlyRegs_markBad n 1).fld (by decide)]
    exact State.fld_count_self s F.KSU_TAG_FAILS_COUNT 1 (by decide)
  · exact (((touches_count F.KSU_TAG_FAILS_COUNT 1).mono : Touches [.regs, .sec, .log, .host, .out] [0x28] s _).trans (touches_markBad n 1)).ram (by decide)

end

/-! ### SLOT_SEL (R553) -/

section
variable (s : State) (src : Requester) (data : Word)

/-- The word of SLOT_SEL written. -/
def slotSelWord : Word := insBits (s.reg A.KSU_SLOT_SEL) 0 9 (bitsOf data.toNat 0 9)

theorem writeFields_slotSel : writeFields s src A.KSU_SLOT_SEL data allBits = s.setReg A.KSU_SLOT_SEL (slotSelWord s data) := by
  have hspec : specOf A.KSU_SLOT_SEL = some ⟨40, 1, 4, 0, [⟨0, 9, .rw, 32⟩]⟩ := by decide +kernel
  refine writeFields_of_foldl s src A.KSU_SLOT_SEL data allBits hspec (w := slotSelWord s data) (reserved := false) ?_
  rw [List.foldl_cons, List.foldl_nil, applyField_rw s _ _ _ data _ 32 (by decide) (by decide)]
  rfl

theorem slotSel_fld : (s.setReg A.KSU_SLOT_SEL (slotSelWord s data)).fld F.KSU_SLOT_SEL_SLOT = data.toNat % 512 := by
  rw [State.fld, State.reg_setReg_self, slotSelWord]
  refine (bitsOf_insBits _ _ _ _ (by decide)).trans ?_
  simp [bitsOf]

/-- INFO as it shows a slot. -/
def infoWord (x : Slot) : Word :=
  BitVec.ofNat 32 (2 ^ 31 + 2 ^ 28 * x.state + (if x.usable then 2 ^ 24 * b01 x.liveB + x.attr % 2 ^ 16 else 0))

theorem infoWord_state (x : Slot) : bitsOf (infoWord x).toNat 28 2 = x.state % 4 := by
  have hlow : (if x.usable then 2 ^ 24 * b01 x.liveB + x.attr % 2 ^ 16 else 0) < 2 ^ 28 := by
    have hb : b01 x.liveB ≤ 1 := by cases x.liveB <;> decide
    split <;> omega
  rw [infoWord, bitsOf, BitVec.toNat_ofNat]
  omega

/-- The state after SLOT_SEL is written: the slot's words of the view. -/
theorem slotSelWrite_eq : slotSelWrite s src data allBits =
    let x := s.slot (data.toNat % 512)
    (((s.setReg A.KSU_SLOT_SEL (slotSelWord s data)).setReg A.KSU_SLOT_INFO (infoWord x)).setReg A.KSU_SLOT_EPOCH (BitVec.ofNat 32 x.epoch)).setWide
      A.KSU_SLOT_KCV (if x.state == 1 then beNat (kcv x.attr x.key) else 0) := by
  unfold slotSelWrite
  simp only [writeFields_slotSel, slotSel_fld]
  rfl

theorem onlyRegs_setWide (x : State) (a v : Nat) : OnlyRegs x (x.setWide a v) [a, a + 4] :=
  (onlyRegs_setReg x a _).trans (onlyRegs_setReg _ (a + 4) _)
end

/-- Settles O38: the key store loaded in BOOT, the sweep and the reload of a slot, and the view of the slot selected. -/
theorem keySlotsLoadAndSweep : Obligations.KeySlotsLoadAndSweep := by
  unfold Obligations.KeySlotsLoadAndSweep
  refine ⟨fun s damaged hb hk => ?_, fun s c n hop hcase hst ha hz hbc => ?_, fun s damaged hop hen hrdy hst => ?_, fun s src data hs => ?_⟩
  · obtain ⟨hload, hready, hmask, hroots⟩ := keyStoreLoad_spec (s := s) (damaged.map (fun d => (d.1.val, d.2)))
    have hexec : exec (.keyStoreLoad damaged) s = .next ((List.range 4).foldl laneOn (keyStoreLoad s (damaged.map (fun d => (d.1.val, d.2))))) :=
      congrArg Host.Outcome.next (if_pos (by rw [hb, hk]; rfl))
    refine ⟨_, hexec, ?_⟩
    generalize keyStoreLoad s (damaged.map (fun d => (d.1.val, d.2))) = u at hload hready hmask hroots
    have hlanes := touches_lanesOn (s := u)
    have hsec := hlanes.part .sec (by decide)
    refine ⟨?_, ?_, ?_, ?_⟩
    · rw [hlanes.part .boot (by decide), hload]
    · rw [hlanes.flag (by decide), hready]
    · rw [hlanes.flag (by decide), hmask, State.mask, State.mask, hsec]
    · rw [hsec, hroots]
  · have hform : ∃ x : State, exec c s = .next (loadSlot x [(n, false), (n, true)] n) ∧ (∀ m, x.slot m = s.slot m) ∧
        x.regs = s.regs ∧ x.dram = s.dram := by
      rcases hcase with ⟨rfl, rfl, hen, hrdy⟩ | ⟨k, rfl, rfl⟩
      · refine ⟨{ s with sec := { s.sec with sweepNext := (s.sec.sweepNext + 1) % 512 } }, ?_, fun _ => rfl, rfl, rfl⟩
        refine congrArg Host.Outcome.next ((if_pos (by rw [hop, hen, hrdy]; rfl)).trans ?_)
        exact if_pos hst
      · refine ⟨s, ?_, fun _ => rfl, rfl, rfl⟩
        exact congrArg Host.Outcome.next (if_pos (by rw [hop, hst]; rfl))
    obtain ⟨x, hexec, hslot, hregs, hdram⟩ := hform
    obtain ⟨hload, hcause, hfails, hmem⟩ := loadSlot_bad_spec (s := x) (n := n) (by rw [hslot]; exact ha) (by rw [hslot]; exact hz)
      (by rw [hslot]; exact hbc)
    rw [hslot] at hload
    refine ⟨_, hexec, by rw [hload], by rw [hload], by rw [hload], by rw [hload], hcause, ?_, (sameMemory_of_dram hdram).trans hmem⟩
    rw [hfails, State.fld_congr (State.reg_congr hregs _)]
  · refine congrArg Host.Outcome.next ((if_pos (by rw [hop, hen, hrdy]; rfl)).trans ?_)
    exact if_neg hst
  · have hexec : exec (.slotSelWrite src data) s = .next (slotSelWrite s src data allBits) :=
      congrArg Host.Outcome.next (gateWrite_inOperation hs (by decide +kernel) src _)
    rw [slotSelWrite_eq] at hexec
    refine ⟨_, hexec, ?_, ?_, ?_, ?_, rfl⟩
    · rw [(onlyRegs_setWide _ A.KSU_SLOT_KCV _).fld (by decide), (onlyRegs_setReg _ A.KSU_SLOT_EPOCH _).fld (by decide),
        (onlyRegs_setReg _ A.KSU_SLOT_INFO _).fld (by decide), slotSel_fld]
    · rw [(onlyRegs_setWide _ A.KSU_SLOT_KCV _).fld (by decide), (onlyRegs_setReg _ A.KSU_SLOT_EPOCH _).fld (by decide), State.fld,
        State.reg_setReg_self]
      exact infoWord_state _
    · rw [onlyRegs_setWide _ A.KSU_SLOT_KCV _ _ (by decide), State.reg_setReg_self]
    · exact (((onlyRegs_setReg s A.KSU_SLOT_SEL _).trans (onlyRegs_setReg _ A.KSU_SLOT_INFO _)).trans (onlyRegs_setReg _ A.KSU_SLOT_EPOCH _)).trans
        (onlyRegs_setWide _ A.KSU_SLOT_KCV _)

end Sys2Proof.Machine
end

section
/-!
PROOFS. What the shared operations of the frame fabric and of the lanes touch (13_frame_fabric_and_queues.md, 06_radio_lanes.md).
-/
namespace Sys2Proof.Machine

-- One proof after another: side by side, the threads of so long a text want more memory than the check grants.
set_option Elab.async false

/-! ### Ports: PAUSE frames (15_ethernet_ports.md) -/

section
variable {s : State} {x : Nat}

theorem touches_setPort (p : Port) : Touches [.ports] [] s (s.setPort x p) := touches_parts [.ports] rfl

theorem emStatus_page (hx : x < 2) : A.EM_STATUS x / 0x1000 ∈ [0x24, 0x25] ∧ A.EM_TX_PAUSE x / 0x1000 ∈ [0x24, 0x25] := by
  revert x
  decide

theorem touches_setFld_of (f : Fld) (v : Nat) {gs : List Nat} (h : f.addr / 0x1000 ∈ gs) : Touches [.regs] gs s (s.setFld f v) :=
  (touches_setFld f v).mono (List.Subset.refl _) (List.cons_subset.2 ⟨h, List.nil_subset _⟩)

theorem touches_count_of (f : Fld) (k : Nat) {gs : List Nat} (h : f.addr / 0x1000 ∈ gs) : Touches [.regs] gs s (s.count f k) := touches_setFld_of f _ h

theorem touches_setReg_of (a : Nat) (w : Word) {gs : List Nat} (h : a / 0x1000 ∈ gs) : Touches [.regs] gs s (s.setReg a w) :=
  (touches_setReg a w).mono (List.Subset.refl _) (List.cons_subset.2 ⟨h, List.nil_subset _⟩)

theorem touches_setCause_of {page : Nat} (b : Nat) {gs : List Nat} (h : page ∈ gs) : Touches [.regs, .host, .out] gs s (setCause s page b) :=
  (touches_setCause page b).mono (List.Subset.refl _) (List.cons_subset.2 ⟨h, List.nil_subset _⟩)

theorem touches_leaveLpi (hx : x < 2) : Touches [.regs, .ports] [0x24, 0x25] s (leaveLpi s x) :=
  Touches.ite (fun _ => (touches_setFld_of (F.EM_STATUS_LPI_TX x) 0 (emStatus_page hx).1).mono.then (touches_setPort _)) (fun _ => Touches.refl s)

theorem touches_flushPause (hx : x < 2) : Touches [.regs, .ports, .out] [0x24, 0x25] s (flushPause s x) := by
  unfold flushPause
  refine Touches.ite (fun _ => Touches.refl s) (fun _ => Touches.trans (touches_setPort _).mono (Touches.foldl (fun t q _ => ?_) _))
  exact Touches.then (touches_send (gs := []) _ |>.mono) (touches_count_of (F.EM_TX_PAUSE_COUNT x) 1 (emStatus_page hx).2)

theorem touches_sendPause (hx : x < 2) (quanta : Nat) : Touches [.regs, .ports, .out] [0x24, 0x25] s (sendPause s x quanta) :=
  Touches.ite (fun _ => Touches.refl s) (fun _ => ((touches_leaveLpi hx).mono.then (touches_setPort _)).trans (touches_flushPause hx))

theorem touches_pauseAll (low : Bool) : Touches [.regs, .ports, .out] [0x24, 0x25] s (pauseAll s low) := by
  refine Touches.foldl (fun t x hx => ?_) s
  have hlt : x < 2 := by
    simp only [List.mem_cons, List.not_mem_nil, or_false] at hx
    omega
  exact Touches.ite (fun _ => touches_sendPause hlt _) (fun _ => Touches.refl t)

end

/-! ### A lane put OFF -/

section
variable {s : State} {n : Nat}

/-- Registers of a lane lie in the pages of the lanes. -/
theorem lane_pages (hn : n < 4) : A.LRF_STATUS n / 0x1000 ∈ lanePages ∧ A.LRF_SYNTH n / 0x1000 ∈ lanePages ∧
    A.LRF_CAL_PROGRESS n / 0x1000 ∈ lanePages ∧ A.LBB_CTX_PREEMPT n / 0x1000 ∈ lanePages ∧ A.LOF_PREEMPT n / 0x1000 ∈ lanePages ∧
    0x10 + n ∈ lanePages ∧ 0x14 + n ∈ lanePages ∧ 0x18 + n ∈ lanePages := by
  revert n
  decide

theorem touches_finish (id : CmdId) (status : Nat) (result : List Byte) : Touches [.rings] [] s (finish s id status result) := touches_finishCmd s id _

theorem touches_ofdmPreempt (hn : n < 4) : Touches [.regs, .lanes, .host, .out] lanePages s (ofdmPreempt s n) := by
  unfold ofdmPreempt
  split
  · exact Touches.refl s
  · exact ((touches_setLane n _).mono.then (touches_count_of (F.LOF_PREEMPT_COUNT n) 1 (lane_pages hn).2.2.2.2.1)).then
      (touches_setCause_of 0 (lane_pages hn).2.2.2.2.2.2.2)

theorem touches_ctxPreempt (hn : n < 4) : Touches [.regs, .lanes, .host, .out] lanePages s (ctxPreempt s n) := by
  unfold ctxPreempt
  refine Touches.ite (fun _ => touches_ofdmPreempt hn) (fun _ => (touches_ofdmPreempt hn).trans ?_)
  exact ((touches_setLane n _).mono.then (touches_count_of (F.LBB_CTX_PREEMPT_COUNT n) _ (lane_pages hn).2.2.2.1)).then
    (touches_setCause_of 3 (lane_pages hn).2.2.2.2.2.2.1)

theorem touches_showJob (hn : n < 4) : Touches [.regs] lanePages s (showJob s n) := by
  unfold showJob
  split
  · exact touches_setReg_of _ _ (lane_pages hn).2.2.1
  · exact touches_setReg_of _ _ (lane_pages hn).2.2.1

theorem touches_endJob' (hn : n < 4) (status : Nat) : Touches [.regs, .lanes, .rings] lanePages s (endJob' s n status) := by
  unfold endJob'
  split
  · exact Touches.refl s
  · exact ((touches_setLane n _).mono.then (touches_finish _ status _)).then (touches_showJob hn)

theorem touches_toOff (hn : n < 4) : Touches [.regs, .lanes, .rings, .host, .out] lanePages s (toOff s n) := by
  unfold toOff
  exact (((((touches_ctxPreempt hn).mono).then (touches_endJob' hn 0x50)).then (touches_setLane n _)).then
    (touches_setReg_of (A.LRF_SYNTH n) _ (lane_pages hn).2.1)).then (touches_enterState hn 0 false)

end

/-! ### The lane's next state (R187, R190, R193, R208) -/

/-- What a lane's next state may touch. -/
def laneParts : List Area := [.regs, .lanes, .rings, .host, .out]

section
variable {s : State} {n : Nat}

theorem touches_atRest : Touches [.lanes] [] s (atRest s n) := touches_setLane n _

theorem touches_setWork (w : Work) : Touches [.lanes] [] s (setWork s n w) := touches_setLane n _

theorem touches_setTxs (ts : List Tx) : Touches [.lanes] [] s (setTxs s n ts) := touches_setLane n _

theorem touches_swapTx (old : Tx) (t : Option Tx) : Touches [.lanes] [] s (swapTx s n old t) := by
  unfold swapTx
  split
  · exact touches_setTxs _
  · exact touches_setTxs _

theorem touches_enterRx (hn : n < 4) : Touches laneParts lanePages s (enterRx s n) := touches_atRest.mono.then (touches_enterState hn _ true)

theorem touches_setChannel (hn : n < 4) (c : Nat) : Touches [.regs] lanePages s (setChannel s n c) :=
  ((touches_setFld_of _ _ (lane_pages hn).1).trans (touches_setFld_of _ _ (lane_pages hn).2.1)).trans (touches_setFld_of _ _ (lane_pages hn).2.1)

theorem touches_hopTo (hn : n < 4) (c : Nat) (failed : Bool) : Touches laneParts lanePages s (hopTo s n c failed) := by
  have hpre : Touches laneParts lanePages s (ctxPreempt (s.setLane n { s.lane n with waitCal := none }) n) :=
    (touches_setLane n _).mono.then (touches_ctxPreempt hn)
  unfold hopTo
  refine Touches.ite (fun _ => ?_) (fun _ => Touches.ite (fun _ => Touches.ite (fun _ => ?_) (fun _ => ?_)) (fun _ => ?_))
  · exact ((hpre.then (touches_setWork _)).then (touches_setChannel hn c)).then (touches_enterState hn 2 false)
  · exact ((touches_setLane n _).mono.then (touches_setWork _)).then (touches_enterState hn 6 true)
  · exact ((touches_setLane n _).mono.then (touches_setWork _)).then (touches_enterState hn 1 false)
  · exact ((hpre.then (touches_setWork _)).then (touches_setChannel hn c)).then (touches_enterState hn 5 false)

theorem touches_laneNext (hn : n < 4) : Touches laneParts lanePages s (laneNext s n) := by
  have hrest : ∀ st locked, Touches laneParts lanePages s (enterState (atRest s n) n st locked) := fun st locked =>
    touches_atRest.mono.then (touches_enterState hn st locked)
  unfold laneNext
  refine Touches.ite (fun _ => touches_toOff hn) (fun _ => ?_)
  split
  · exact Touches.ite (fun _ => Touches.ite (fun _ => touches_enterRx hn) (fun _ => hrest _ _)) (fun _ => touches_hopTo hn _ _)
  · exact Touches.ite (fun _ => touches_enterRx hn) (fun _ => Touches.ite (fun _ => touches_hopTo hn _ _) (fun _ => hrest _ _))
  · exact hrest _ _

theorem touches_beginGap (hn : n < 4) (w : Work) : Touches laneParts lanePages s (beginGap s n w) :=
  (((touches_ctxPreempt hn).mono.then (touches_setWork w)).then (touches_enterState hn 5 false)).then (touches_setLane n _)

theorem touches_tryGap (hn : n < 4) : Touches laneParts lanePages s (tryGap s n) := by
  unfold tryGap
  split
  · exact Touches.ite (fun _ => Touches.refl s) (fun _ => (touches_setLane n _).mono)
  · exact Touches.ite (fun _ => (touches_setLane n _).mono.trans (touches_beginGap hn _)) (fun _ => (touches_setLane n _).mono)

theorem touches_settle (hn : n < 4) : Touches laneParts lanePages s (settle s n) := (touches_laneNext hn).trans (touches_tryGap hn)

theorem touches_receiveOn (hn : n < 4) (c : Nat) : Touches laneParts lanePages s (receiveOn s n c) := by
  have hwant : Touches laneParts lanePages s (s.setLane n { s.lane n with rxWant := some c }) := (touches_setLane n _).mono
  unfold receiveOn
  exact Touches.ite (fun _ => Touches.refl s) (fun _ => Touches.ite (fun _ => hwant) (fun _ => Touches.ite (fun _ => hwant.trans (touches_settle hn))
    (fun _ => Touches.ite (fun _ => hwant.trans (touches_settle hn)) (fun _ => hwant))))

theorem touches_listen (hn : n < 4) : Touches laneParts lanePages s (listen s n) :=
  Touches.ite (fun _ => touches_receiveOn hn _) (fun _ => Touches.refl s)

end

/-! ### Updates that reach the ports and the lanes by their own operations alone

The fabric, the mailboxes and the ends of transmissions act on a port only by a PAUSE frame or by waking it, and on a lane only by
its next state and a cause. `Moves` keeps that: what holds across those operations and across every update that leaves ports and lanes alone, holds across
all of them. -/

/-- The pages of the ports and of the lanes. -/
def portLanePages : List Nat := 0x24 :: 0x25 :: lanePages

/-- `t` follows from `s` by updates that leave the ports, the schedulers and the registers of ports and lanes alone, by PAUSE frames, by
lanes that settle in their next state or set a cause and, where `wake` says so, by ports woken from LPI. -/
inductive Moves (wake : Bool) (ps : List Area) (gs : List Nat) : State → State → Prop
  | of' {s t : State} {qs : List Area} {hs : List Nat} (h : Touches qs hs s t) (hq : qs ⊆ ps) (hg : hs ⊆ gs) (hp : .ports ∉ qs) (ht : .tss ∉ qs)
      (hr : ∀ g ∈ hs, g ∉ portLanePages) : Moves wake ps gs s t
  | sched {s : State} (v : Sched) (hv : v.egresses = s.tss.egresses) (ht : .tss ∈ ps) : Moves wake ps gs s { s with tss := v }
  | pause {s : State} {x : Nat} (quanta : Nat) (hx : x < 2) (hq : [.regs, .ports, .out] ⊆ ps) (hg : [0x24, 0x25] ⊆ gs) :
      Moves wake ps gs s (sendPause s x quanta)
  | leave {s : State} {x : Nat} (hx : x < 2) (hw : wake = true) (hq : [.regs, .ports] ⊆ ps) (hg : [0x24, 0x25] ⊆ gs) :
      Moves wake ps gs s (leaveLpi s x)
  | settle {s : State} {n : Nat} (hn : n < 4) (hq : laneParts ⊆ ps) (hg : lanePages ⊆ gs) : Moves wake ps gs s (settle s n)
  | cause {s : State} {n : Nat} (b : Nat) (hn : n < 4) (hq : [.regs, .host, .out] ⊆ ps) (hg : lanePages ⊆ gs) :
      Moves wake ps gs s (setCause s (0x10 + n) b)
  | trans {s t u : State} (h : Moves wake ps gs s t) (h' : Moves wake ps gs t u) : Moves wake ps gs s u

section
variable {wake : Bool} {ps qs : List Area} {gs hs : List Nat} {s t u x y : State}

theorem Moves.of (h : Touches qs hs s t) (hq : qs ⊆ ps := by decide) (hg : hs ⊆ gs := by decide) (hp : .ports ∉ qs := by decide)
    (ht : .tss ∉ qs := by decide) (hr : ∀ g ∈ hs, g ∉ portLanePages := by decide) : Moves wake ps gs s t := .of' h hq hg hp ht hr

theorem Moves.refl (s : State) : Moves wake ps gs s s := .of' (Touches.refl (ps := []) (gs := []) s) (by simp) (by simp) (by simp) (by simp) (by simp)

theorem Moves.mono (h : Moves wake qs hs s t) (hq : qs ⊆ ps := by decide) (hg : hs ⊆ gs := by decide) : Moves wake ps gs s t := by
  induction h with
  | of' h hq' hg' hp ht hr => exact .of' h (List.Subset.trans hq' hq) (List.Subset.trans hg' hg) hp ht hr
  | sched v hv ht => exact .sched v hv (hq ht)
  | pause quanta hx hq' hg' => exact .pause quanta hx (List.Subset.trans hq' hq) (List.Subset.trans hg' hg)
  | leave hx hw hq' hg' => exact .leave hx hw (List.Subset.trans hq' hq) (List.Subset.trans hg' hg)
  | settle hn hq' hg' => exact .settle hn (List.Subset.trans hq' hq) (List.Subset.trans hg' hg)
  | cause b hn hq' hg' => exact .cause b hn (List.Subset.trans hq' hq) (List.Subset.trans hg' hg)
  | trans _ _ ih ih' => exact .trans ih ih'

/-- A port may be woken: what is told of updates that wake none holds too. -/
theorem Moves.waking (h : Moves false ps gs s t) : Moves wake ps gs s t := by
  induction h with
  | of' h hq hg hp ht hr => exact .of' h hq hg hp ht hr
  | sched v hv ht => exact .sched v hv ht
  | pause quanta hx hq hg => exact .pause quanta hx hq hg
  | leave hx hw hq hg => cases hw
  | settle hn hq hg => exact .settle hn hq hg
  | cause b hn hq hg => exact .cause b hn hq hg
  | trans _ _ ih ih' => exact .trans ih ih'

/-- One more update of the kind. -/
theorem Moves.then (h : Moves wake ps gs s x) (h' : Moves wake qs hs x y) (hq : qs ⊆ ps := by decide) (hg : hs ⊆ gs := by decide) : Moves wake ps gs s y :=
  h.trans (h'.mono hq hg)

/-- One more update that leaves ports and lanes alone. -/
theorem Moves.add (h : Moves wake ps gs s x) (h' : Touches qs hs x y) (hq : qs ⊆ ps := by decide) (hg : hs ⊆ gs := by decide)
    (hp : .ports ∉ qs := by decide) (ht : .tss ∉ qs := by decide) (hr : ∀ g ∈ hs, g ∉ portLanePages := by decide) : Moves wake ps gs s y :=
  h.trans (.of' h' hq hg hp ht hr)

theorem Moves.ite {c : Prop} [Decidable c] (hx : c → Moves wake ps gs s x) (hy : ¬c → Moves wake ps gs s y) : Moves wake ps gs s (if c then x else y) := by
  split
  · exact hx ‹_›
  · exact hy ‹_›

theorem Moves.foldl {α : Type} {g : State → α → State} {l : List α} (hg : ∀ t, ∀ e ∈ l, Moves wake ps gs t (g t e)) (s : State) :
    Moves wake ps gs s (l.foldl g s) := by
  induction l generalizing s with
  | nil => exact Moves.refl s
  | cons e l ih => exact (hg s e (List.mem_cons_self ..)).trans (ih (fun t d hd => hg t d (List.mem_cons_of_mem _ hd)) _)

theorem Moves.touches (h : Moves wake ps gs s t) : Touches ps gs s t := by
  induction h with
  | of' h hq hg _ _ _ => exact h.mono hq hg
  | sched v _ ht => exact (touches_parts [.tss] rfl : Touches [.tss] [] _ _).mono (by simpa using ht) (by simp)
  | pause quanta hx hq hg => exact (touches_sendPause hx quanta).mono hq hg
  | leave hx _ hq hg => exact (touches_leaveLpi hx).mono hq hg
  | settle hn hq hg => exact (touches_settle hn).mono hq hg
  | cause b hn hq hg => exact (touches_setCause_of b (lane_pages hn).2.2.2.2.2.1).mono hq hg
  | trans _ _ ih ih' => exact ih.trans ih'

end

/-! ### Cells, descriptors, heads of queues -/

/-- What an operation of the fabric may touch: its own state, the ports' PAUSE frames, causes and events. -/
def fabricParts : List Area := [.regs, .fab, .tss, .ports, .host, .out, .log]

/-- The pages in which the fabric shows what it does: FAB and the ports. -/
def fabricPages : List Nat := [0x20, 0x24, 0x25]

section
variable {wake : Bool} {s : State}

theorem moves_fab (v : Fabric) : Moves wake fabricParts fabricPages s { s with fab := v } := .of (touches_parts [.fab] rfl : Touches [.fab] [] s _)

theorem touches_fab (v : Fabric) : Touches fabricParts fabricPages s { s with fab := v } := (moves_fab (wake := false) v).touches

theorem moves_count20 (f : Fld) (k : Nat) (hf : f.addr / 0x1000 ∈ [0x20]) : Moves wake fabricParts fabricPages s (s.count f k) := .of (touches_count_of f k hf)

theorem moves_pauseAll (low : Bool) : Moves wake fabricParts fabricPages s (pauseAll s low) := by
  refine Moves.foldl (fun t x hx => Moves.ite (fun _ => .pause _ ?_ (by decide) (by decide)) (fun _ => Moves.refl t)) s
  simp only [List.mem_cons, List.not_mem_nil, or_false] at hx
  omega

theorem moves_bufLowCheck : Moves wake fabricParts fabricPages s (bufLowCheck s) := by
  unfold bufLowCheck
  refine Moves.ite (fun _ => ?_) (fun _ => Moves.ite (fun _ => (moves_fab { s.fab with lowArmed := true }).trans (moves_pauseAll false))
    (fun _ => Moves.refl s))
  exact (((moves_fab { s.fab with lowArmed := false }).add (touches_setCause 0x20 4)).add (touches_event (gs := []) _ _ _ _ _)).trans (moves_pauseAll true)

theorem touches_bufLowCheck : Touches fabricParts fabricPages s (bufLowCheck s) := (moves_bufLowCheck (wake := false)).touches

theorem moves_freeCells (hs : List Nat) : Moves wake fabricParts fabricPages s (freeCells s hs) := (moves_fab _).trans moves_bufLowCheck

theorem touches_freeCells (hs : List Nat) : Touches fabricParts fabricPages s (freeCells s hs) := (moves_freeCells (wake := false) hs).touches

theorem moves_freeDesc (i : Item) : Moves wake fabricParts fabricPages s (freeDesc s i) :=
  Moves.ite (fun _ => Moves.refl s) (fun _ => Moves.ite (fun _ => moves_fab _) (fun _ => moves_fab _))

theorem touches_freeDesc (i : Item) : Touches fabricParts fabricPages s (freeDesc s i) := (moves_freeDesc (wake := false) i).touches

theorem moves_freeItem (i : Item) : Moves wake fabricParts fabricPages s (freeItem s i) := (moves_freeCells i.cells).trans (moves_freeDesc i)

theorem touches_freeItem (i : Item) : Touches fabricParts fabricPages s (freeItem s i) := (moves_freeItem (wake := false) i).touches

theorem moves_setQueue (q : Nat) (v : Queue) : Moves wake fabricParts fabricPages s (s.setQueue q v) := .of (touches_setQueue s q v)

theorem touches_setCls (e c : Nat) (v : EgressClass) : Touches [.tss] [] s (s.setCls e c v) := touches_parts [.tss] rfl

theorem moves_setCls (e c : Nat) (v : EgressClass) : Moves wake fabricParts fabricPages s (s.setCls e c v) := .sched _ rfl (by decide)

theorem touches_classSettle (e c : Nat) : Touches [.tss] [] s (classSettle s e c) :=
  Touches.ite (fun _ => Touches.refl s) (fun _ => touches_setCls e c _)

theorem moves_classSettle (e c : Nat) : Moves wake fabricParts fabricPages s (classSettle s e c) :=
  Moves.ite (fun _ => Moves.refl s) (fun _ => moves_setCls e c _)

theorem touches_putItems (q : Nat) (items producing : List Item) : Touches [.fab, .tss] [] s (s.putItems q items producing) := by
  unfold State.putItems
  simp only
  split
  · exact Touches.ite (fun _ => (touches_setQueue s q _).mono.then (touches_classSettle _ _)) (fun _ => (touches_setQueue s q _).mono)
  · exact (touches_setQueue s q _).mono

theorem moves_putItems (q : Nat) (items producing : List Item) : Moves wake fabricParts fabricPages s (s.putItems q items producing) := by
  unfold State.putItems
  simp only
  split
  · exact Moves.ite (fun _ => (moves_setQueue q _).trans (moves_classSettle _ _)) (fun _ => moves_setQueue q _)
  · exact moves_setQueue q _

theorem moves_dropHead (q : Nat) : Moves wake fabricParts fabricPages s (dropHead s q) := by
  unfold dropHead
  split
  · exact Moves.refl s
  · exact (moves_putItems q _ _).trans (moves_freeItem _)

theorem touches_dropHead (q : Nat) : Touches fabricParts fabricPages s (dropHead s q) := (moves_dropHead (wake := false) q).touches

theorem touches_closeIfEmpty (q : Nat) : Touches [.fab] [] s (closeIfEmpty s q) :=
  Touches.ite (fun _ => touches_setQueue s q _) (fun _ => Touches.refl s)

theorem moves_putMarker (q : Nat) (l : Loss) : Moves wake fabricParts fabricPages s (putMarker s q l) := by
  unfold putMarker
  exact (((moves_putItems q _ _).add (touches_count F.FAB_MARKERS_COUNT 1)).add (touches_setCause 0x20 1)).add (touches_event (gs := []) _ _ _ _ _)

theorem touches_putMarker (q : Nat) (l : Loss) : Touches fabricParts fabricPages s (putMarker s q l) := (moves_putMarker (wake := false) q l).touches

theorem moves_placeWaiting (q : Nat) : Moves wake fabricParts fabricPages s (placeWaiting s q) := by
  unfold placeWaiting
  split
  · exact Moves.refl s
  · exact Moves.ite (fun _ => Moves.refl s) (fun _ => (moves_setQueue q _).trans (moves_putMarker q _))

theorem touches_placeWaiting (q : Nat) : Touches fabricParts fabricPages s (placeWaiting s q) := (moves_placeWaiting (wake := false) q).touches

theorem moves_deliverMarker (q : Nat) : Moves wake fabricParts fabricPages s (deliverMarker s q) := by
  have hcount : Moves wake fabricParts fabricPages s (s.count F.FAB_DEQUEUED_COUNT 1) := .of (touches_count F.FAB_DEQUEUED_COUNT 1)
  unfold deliverMarker
  simp only
  split
  · exact Moves.ite (fun _ => Moves.refl s) (fun _ => Moves.ite
      (fun _ => ((hcount.trans (moves_dropHead q)).add (touches_closeIfEmpty q)).trans (moves_placeWaiting q))
      (fun _ => hcount.trans (moves_setQueue q _)))
  · exact Moves.refl s

theorem touches_deliverMarker (q : Nat) : Touches fabricParts fabricPages s (deliverMarker s q) := (moves_deliverMarker (wake := false) q).touches

theorem moves_settleHead (q : Nat) : Moves wake fabricParts fabricPages s (settleHead s q) := by
  unfold settleHead
  simp only
  split
  · split
    · exact Moves.ite (fun _ => moves_deliverMarker q) (fun _ => Moves.refl s)
    · exact Moves.refl s
  · exact Moves.refl s

theorem touches_settleHead (q : Nat) : Touches fabricParts fabricPages s (settleHead s q) := (moves_settleHead (wake := false) q).touches

theorem moves_markLoss (q : Nat) (l : Loss) : Moves wake fabricParts fabricPages s (markLoss s q l) := by
  have hset : Moves wake fabricParts fabricPages s (s.setQueue q { s.queue q with breakPending := none }) := moves_setQueue q _
  unfold markLoss
  exact Moves.ite (fun _ => Moves.refl s) (fun _ => Moves.ite (fun _ => hset.trans (moves_setQueue q _))
    (fun _ => (hset.trans (moves_putMarker q _)).trans (moves_settleHead q)))

theorem touches_markLoss (q : Nat) (l : Loss) : Touches fabricParts fabricPages s (markLoss s q l) := (moves_markLoss (wake := false) q l).touches

theorem touches_placeMarker (q cause first last : Nat) : Touches fabricParts fabricPages s (placeMarker s q cause first last) := touches_markLoss q _

end

end Sys2Proof.Machine
end

section
/-!
PROOFS. Random numbers and tampering (17_keys_and_crypto.md, Random numbers and Zeroisation and tamper; 22_power_clocks_and_emc.md, Tamper
detection): the statement O41.
-/
namespace Sys2Proof.Machine

-- One proof after another: side by side, the threads of so long a text want more memory than the check grants.
set_option Elab.async false

theorem State.flag_of_regs {s t : State} (h : t.regs = s.regs) (f : Fld) : t.flag f = s.flag f := by
  rw [State.flag, State.fld, State.reg_congr h, State.flag, State.fld]

/-! ### The TRNG (R588–R591) -/

section
variable (s : State)

theorem touches_setTrng (t : Trng) : Touches [.sec] [] s (s.setTrng t) := touches_parts [.sec] rfl

/-- What a health test that fails leaves: FAILED, its cause, its event. -/
theorem trngFail_spec (test : Nat) : (trngFail s test).flag F.TRNG_STATUS_FAILED = true ∧ causeSet (trngFail s test) 0x2A 0 = true ∧
    (trngFail s test).sec = s.sec ∧ (trngFail s test).boot = s.boot ∧ OnlyRegs s (trngFail s test) [A.TRNG_STATUS, 0x2A010] := by
  have hset : OnlyRegs s (trngFail s test) [A.TRNG_STATUS, 0x2A010] :=
    OnlyRegs.trans (t := s.setFld F.TRNG_STATUS_FAILED 1) (onlyRegs_setFld s F.TRNG_STATUS_FAILED 1) (onlyRegs_setCause _ 0x2A 0)
  refine ⟨?_, ?_, ?_, ?_, hset⟩
  · have h : (trngFail s test).flag F.TRNG_STATUS_FAILED = (s.setFld F.TRNG_STATUS_FAILED 1).flag F.TRNG_STATUS_FAILED :=
      (onlyRegs_setCause ((s.setFld F.TRNG_STATUS_FAILED 1).event 0x2A 0 0x1120 4 (leBytes 1 test)) 0x2A 0).flag (by decide)
    rw [h]
    exact State.flag_setFld_one s rfl (by decide)
  · rw [trngFail, causeSet_setCause _ _ _ _ (by decide), beq_self_eq_true, Bool.or_true]
  · rw [trngFail, setCause_sec]
    rfl
  · rw [trngFail, setCause_boot]
    rfl

/-- The state once the start-up tests have ended, before their result is shown. -/
def startupEnded : State :=
  let r := if s.flag F.TRNG_CTRL_RESEED then endGo s A.TRNG_CTRL 0 else (s, false)
  { r.1.setTrng { s.sec.trng with testing := r.2 } with boot := { (r.1.setTrng { s.sec.trng with testing := r.2 }).boot with trngDone := true } }

theorem startupEnded_spec : (startupEnded s).flag F.TRNG_STATUS_FAILED = s.flag F.TRNG_STATUS_FAILED ∧ (startupEnded s).boot.trngDone = true := by
  have hgo : OnlyRegs s (endGo s A.TRNG_CTRL 0).1 [A.TRNG_CTRL] := by
    unfold endGo
    split
    · exact fun _ _ => rfl
    · exact onlyRegs_setReg s _ _
  refine ⟨?_, rfl⟩
  have hregs : OnlyRegs s (startupEnded s) [A.TRNG_CTRL] := by
    intro a ha
    by_cases h : s.flag F.TRNG_CTRL_RESEED = true
    · have hr : (startupEnded s).regs = (endGo s A.TRNG_CTRL 0).1.regs := by
        rw [startupEnded, if_pos h]
        rfl
      rw [State.reg_congr hr]
      exact hgo a ha
    · have hr : (startupEnded s).regs = s.regs := by
        rw [startupEnded, if_neg h]
        rfl
      rw [State.reg_congr hr]
  exact hregs.flag (by decide)

/-- The state that shows that the start-up tests have passed. -/
def passShown : State := ((startupEnded s).setFld F.TRNG_STATUS_STARTUP_DONE 1).setFld F.TRNG_STATUS_FAILED 0

theorem passShown_flags : (passShown s).flag F.TRNG_STATUS_STARTUP_DONE = true ∧ (passShown s).flag F.TRNG_STATUS_FAILED = false := by
  refine ⟨?_, State.flag_setFld_zero ((startupEnded s).setFld F.TRNG_STATUS_STARTUP_DONE 1) (by decide)⟩
  refine (State.flag_setFld_apart ((startupEnded s).setFld F.TRNG_STATUS_STARTUP_DONE 1) (f := F.TRNG_STATUS_FAILED)
    (g := F.TRNG_STATUS_STARTUP_DONE) 0 (by decide) (by decide)).trans ?_
  exact State.flag_setFld_one (startupEnded s) rfl (by decide)

/-- The state when the start-up tests have passed, before a failure that ended is reported. -/
def startupPassed : State :=
  (passShown s).setTrng { (passShown s).sec.trng with fails := 0, collecting := true }

theorem trngStartupDone_eq (pass : Bool) : trngStartupDone s pass =
    if pass then
      if trngFailed (startupEnded s) then setCause ((startupPassed s).event 0x2A 0 0x1121 1 []) 0x2A 1 else startupPassed s
    else trngFail ((startupEnded s).setTrng { (startupEnded s).sec.trng with collecting := false }) 3 := rfl

theorem startupPassed_spec : (startupPassed s).flag F.TRNG_STATUS_STARTUP_DONE = true ∧ (startupPassed s).flag F.TRNG_STATUS_FAILED = false ∧
    (startupPassed s).sec.trng.collecting = true ∧ (startupPassed s).boot.trngDone = true := by
  have hregs : (startupPassed s).regs = (passShown s).regs := rfl
  rw [State.flag_of_regs hregs, State.flag_of_regs hregs]
  exact ⟨(passShown_flags s).1, (passShown_flags s).2, rfl, (startupEnded_spec s).2⟩

theorem trngStartupDone_pass : (trngStartupDone s true).flag F.TRNG_STATUS_STARTUP_DONE = true ∧
    (trngStartupDone s true).flag F.TRNG_STATUS_FAILED = false ∧ (trngStartupDone s true).sec.trng.collecting = true ∧
    (trngStartupDone s true).boot.trngDone = true ∧ (s.flag F.TRNG_STATUS_FAILED = true → causeSet (trngStartupDone s true) 0x2A 1 = true) := by
  obtain ⟨hdone, hfailed, hcollect, hboot⟩ := startupPassed_spec s
  have hwas : trngFailed (startupEnded s) = s.flag F.TRNG_STATUS_FAILED := (startupEnded_spec s).1
  rw [trngStartupDone_eq, if_pos rfl, hwas]
  generalize startupPassed s = u at hdone hfailed hcollect hboot
  by_cases h : s.flag F.TRNG_STATUS_FAILED = true
  · have hregs := onlyRegs_setCause (u.event 0x2A 0 0x1121 1 []) 0x2A 1
    rw [if_pos h]
    refine ⟨(hregs.flag (by decide)).trans hdone, (hregs.flag (by decide)).trans hfailed, ?_, ?_, fun _ => ?_⟩
    · rw [setCause_sec]
      exact hcollect
    · rw [setCause_boot]
      exact hboot
    · rw [causeSet_setCause _ _ _ _ (by decide), beq_self_eq_true, Bool.or_true]
  · rw [if_neg h]
    exact ⟨hdone, hfailed, hcollect, hboot, fun hf => absurd hf h⟩

/-- The counter of the health test that failed. -/
def failCounter (result : Nat) : Fld := if result = 1 then F.TRNG_RCT_FAILS_COUNT else F.TRNG_APT_FAILS_COUNT

theorem failCounter_addr (result : Nat) : (failCounter result).addr ∉ [A.TRNG_STATUS, 0x2A010] ∧ (failCounter result).addr ≠ A.TRNG_STATUS ∧
    (failCounter result).lsb + (failCounter result).width ≤ 32 ∧ (failCounter result).width = 32 := by
  unfold failCounter
  split <;> decide

theorem seedCollect_fail_eq {result : Nat} (h : result ≠ 0) : seedCollect s result =
    if 3 ≤ s.sec.trng.fails + 1 then
      trngFail ((s.count (failCounter result) 1).setTrng { s.sec.trng with fails := s.sec.trng.fails + 1, collecting := false }) result
    else (s.count (failCounter result) 1).setTrng { s.sec.trng with fails := s.sec.trng.fails + 1 } := by
  simp only [seedCollect, h, if_false]
  rfl

theorem seedCollect_fail {result : Nat} (h : result ≠ 0) (hc : s.sec.trng.collecting = true) :
    (seedCollect s result).sec.trng.fails = s.sec.trng.fails + 1 ∧
      (seedCollect s result).fld (failCounter result) = satAdd 32 (s.fld (failCounter result)) 1 ∧
      (2 ≤ s.sec.trng.fails → (seedCollect s result).flag F.TRNG_STATUS_FAILED = true ∧ causeSet (seedCollect s result) 0x2A 0 = true ∧
        (seedCollect s result).sec.trng.collecting = false) ∧
      (s.sec.trng.fails < 2 → (seedCollect s result).flag F.TRNG_STATUS_FAILED = s.flag F.TRNG_STATUS_FAILED ∧
        (seedCollect s result).sec.trng.collecting = true) := by
  obtain ⟨hpage, haddr, hword, hwidth⟩ := failCounter_addr result
  have hcount : (s.count (failCounter result) 1).fld (failCounter result) = satAdd 32 (s.fld (failCounter result)) 1 := by
    rw [State.fld_count_self s _ 1 hword, hwidth]
  rw [seedCollect_fail_eq s h]
  by_cases h2 : 2 ≤ s.sec.trng.fails
  · obtain ⟨hfailed, hcause, hsec, _, hregs⟩ := trngFail_spec
      ((s.count (failCounter result) 1).setTrng { s.sec.trng with fails := s.sec.trng.fails + 1, collecting := false }) result
    rw [if_pos (by omega)]
    refine ⟨by rw [hsec]; rfl, (hregs.fld hpage).trans hcount, fun _ => ⟨hfailed, hcause, by rw [hsec]; rfl⟩, fun hlt => absurd hlt (by omega)⟩
  · rw [if_neg (by omega)]
    refine ⟨rfl, hcount, fun h' => absurd h' h2, fun _ => ⟨?_, hc⟩⟩
    exact (onlyRegs_setFld s (failCounter result) _).flag (by simpa using haddr.symm)

end

/-! ### What entering SECURE_HOLD touches (R579) -/

section
variable {s : State}

theorem touches_dropReplace (n : Nat) : Touches [.sec] [] s (dropReplace s n) := touches_parts [.sec] rfl

theorem touches_settleReplace (r : Replace) : Touches [.regs, .sec] [0x28] s (settleReplace s r) :=
  (touches_dropReplace r.slot).mono.trans (touches_setSlot r.slot _)

theorem touches_endReplace (r : Replace) : Touches [.regs, .sec, .log, .host, .out] [0x28] s (endReplace s r) :=
  ((touches_settleReplace r).mono.then (touches_event (gs := []) _ _ _ _ _)).then (touches_setCause 0x28 0)

theorem touches_tamperReplace (r : Replace) : Touches [.regs, .sec, .log, .host, .out] [0x28] s (tamperReplace s r) :=
  Touches.ite (fun _ => touches_endReplace r) (fun _ => (touches_dropReplace r.slot).mono.trans (touches_setSlot r.slot _).mono)

theorem touches_endJob (op status : Nat) (bytes : List Byte) : Touches [.regs, .sec, .host, .out] [0x29] s (endJob s op status bytes) := by
  have hres : Touches [.regs, .sec, .host, .out] [0x29] s
      { s with sec := { s.sec with job := none, result := some { op := op, status := status, bytes := bytes } } } :=
    (touches_parts [.sec] rfl : Touches [.sec] [] s _).mono
  exact ((hres.then (touches_setFld F.CRY_JOB_CTRL_GO 0)).then (touches_setFld F.CRY_STATUS_JOB_BUSY 0)).then (touches_setCause 0x29 0)

theorem touches_tamperCommands : Touches [.rings] [] s (tamperCommands s) := by
  refine Touches.foldl (fun t k _ => ?_) s
  split
  · exact Touches.foldl (fun u c _ => Touches.ite (fun _ => Touches.refl u) (fun _ => touches_finish _ _ _)) t
  · exact Touches.refl t

theorem touches_bistEnds (r : BistRun) : Touches [.regs, .bst, .log, .host, .out, .rings] [0x07] s (bistEnds s r) := by
  have hrun : Touches [.regs, .bst, .log, .host, .out, .rings] [0x07] (s.setFld F.BST_STATUS_RUNNING 0)
      { s.setFld F.BST_STATUS_RUNNING 0 with bst := { s.bst with run := none } } := (touches_parts [.bst] rfl : Touches [.bst] [] _ _).mono
  unfold bistEnds
  refine Touches.trans ((((touches_setFld F.BST_STATUS_RUNNING 0).mono.trans hrun).then (touches_event (gs := []) _ _ _ _ _)).then
    (touches_setCause 0x07 0)) (Touches.foldl (fun t k _ => (touches_startFetch t k).mono) _)

theorem touches_bistAbandon : Touches [.regs, .bst, .log, .host, .out, .rings] [0x07] s (bistAbandon s) := by
  unfold bistAbandon
  split
  · exact Touches.refl s
  · exact Touches.trans ((touches_parts [.bst] rfl : Touches [.bst] [] s _).mono) (touches_bistEnds _)

theorem touches_setRole (new cause : Nat) : Touches [.regs, .log, .host, .out] [0x31] s (setRole s new cause) := by
  refine Touches.ite (fun _ => Touches.refl s) (fun _ => ?_)
  exact Touches.then (Touches.then (touches_event (gs := []) _ _ _ _ _ |>.mono) (touches_setFld F.RED_STATUS_ROLE new)) (touches_setCause 0x31 0)

theorem touches_setRed (r : Red) : Touches [.red] [] s (s.setRed r) := touches_parts [.red] rfl

theorem touches_tkoFails (trigger reason : Nat) : Touches [.regs, .red, .log, .host, .out] [0x31] s (tkoFails s trigger reason) := by
  unfold tkoFails
  exact (((((Touches.then (touches_setRed _ |>.mono) (touches_setRole 2 2)).then (touches_setFld F.RED_LAST_TKO_TRIGGER trigger)).then
    (touches_setFld F.RED_LAST_TKO_RESULT reason)).then (touches_count F.RED_TKO_FAILS_COUNT 1)).then
    (touches_event (gs := []) _ _ _ _ _)).then (touches_setCause 0x31 3)

theorem touches_tkoTrigger (trigger upTo : Nat) : Touches [.regs, .red, .log, .host, .out] [0x31] s (tkoTrigger s trigger upTo) :=
  Touches.ite (fun _ => Touches.refl s) (fun _ => Touches.ite (fun _ => touches_tkoFails trigger 1) (fun _ => (touches_setRed _).mono))

theorem touches_endGo (a b : Nat) : Touches [.regs, .bus] [a / 0x1000] s (endGo s a b).1 := by
  unfold endGo
  split
  · exact (touches_parts [.bus] rfl : Touches [.bus] [] s _).mono (by decide) (List.nil_subset _)
  · exact (touches_setReg a _).mono (by decide) (List.Subset.refl _)

theorem touches_forceEnds : Touches [.regs, .red, .log, .host, .out, .bus] [0x31] s (forceEnds s) := by
  have hend : ∀ x : State, Touches [.regs, .red, .log, .host, .out, .bus] [0x31] x (endGo x A.RED_CTRL 8).1 := fun x =>
    (touches_endGo A.RED_CTRL 8).mono
  have htrigger : Touches [.regs, .red, .log, .host, .out, .bus] [0x31] s (tkoTrigger (endGo s A.RED_CTRL 8).1 4 0) :=
    (hend s).then (touches_tkoTrigger 4 0)
  exact Touches.ite (fun _ => Touches.ite (fun _ => hend s) (fun _ => Touches.ite (fun _ => htrigger) (fun _ => htrigger.trans (hend _))))
    (fun _ => Touches.refl s)

theorem touches_tamperLane {n : Nat} (hn : n < 4) : Touches [.regs, .lanes, .rings, .host, .out] lanePages s (tamperLane s n) := by
  have hcut : Touches [.regs, .lanes, .rings, .host, .out] lanePages s (match onAir s n with
      | some t => s.send (.cut n t.channel)
      | none => s) := by
    split
    · exact (touches_send (gs := []) _).mono
    · exact Touches.refl s
  exact (hcut.then (touches_setLane n _)).trans (touches_toOff hn)

theorem touches_tamperQueue (q : Nat) : Touches fabricParts fabricPages s (tamperQueue s q) := by
  unfold tamperQueue
  simp only
  have hfree : Touches fabricParts fabricPages s (((s.queue q).items.filter (fun i => !i.isBreak) ++ (s.queue q).producing).foldl freeItem
      (s.putItems q ((s.queue q).items.filter (fun i => i.isBreak)) [])) :=
    (touches_putItems q _ _).mono.trans (Touches.foldl (fun t i _ => touches_freeItem i) _)
  split
  · exact hfree
  · exact hfree.trans (touches_placeMarker q _ _ _)

/-- The security state once keys, jobs and commands are dropped and the mask is destroyed. -/
def keysGone (s : State) : State :=
  let s := s.sec.repl.foldl tamperReplace s
  let s := match s.sec.job with
    | some j => endJob s j.op 6 []
    | none => s
  destroyMask (clearKeys (bistAbandon (tamperCommands s)))

theorem destroyMask_clearKeys_sec (u : State) : (destroyMask (clearKeys u)).mask = none ∧ (destroyMask (clearKeys u)).sec.gcm = [] ∧
    (destroyMask (clearKeys u)).sec.zotDue = true := ⟨rfl, rfl, rfl⟩

theorem keysGone_sec : (keysGone s).mask = none ∧ (keysGone s).sec.gcm = [] ∧ (keysGone s).sec.zotDue = true := by
  unfold keysGone
  exact destroyMask_clearKeys_sec _

/-- The pages in which the keys' end shows. -/
def keyPages : List Nat := [0x07, 0x28, 0x29]

theorem touches_destroyMask : Touches [.regs, .sec] [0x28] s (destroyMask s) :=
  (touches_setFld F.KSU_STATUS_MASK_OK 0).mono.then (touches_parts (gs := []) [.sec] rfl)

theorem touches_clearKeys : Touches [.sec, .ports] [] s (clearKeys s) := touches_parts [.sec, .ports] rfl

theorem touches_keysGone : Touches [.regs, .sec, .log, .host, .out, .rings, .bst, .ports] keyPages s (keysGone s) := by
  have hrepl : Touches [.regs, .sec, .log, .host, .out, .rings, .bst, .ports] keyPages s (s.sec.repl.foldl tamperReplace s) :=
    Touches.foldl (fun t r _ => (touches_tamperReplace r).mono) s
  unfold keysGone
  simp only
  generalize s.sec.repl.foldl tamperReplace s = u at hrepl ⊢
  have hjob : Touches [.regs, .sec, .log, .host, .out, .rings, .bst, .ports] keyPages u (match u.sec.job with
      | some j => endJob u j.op 6 []
      | none => u) := by
    split
    · exact (touches_endJob _ 6 []).mono
    · exact Touches.refl u
  exact ((((hrepl.trans hjob).then touches_tamperCommands).then touches_bistAbandon).then touches_clearKeys).then touches_destroyMask

/-- The device put in SECURE_HOLD, with its lanes and queues still as they were. -/
def heldFrom (u : State) : State :=
  { u.setFld F.SYS_STATUS_DEV_STATE 4 with
    dev := { u.dev with lastTrans := 0x05, secureLatch := true, maintLanes := [],
                        engines := (List.range 15).foldl (fun t n => Tbl.put (fun _ => .stopped) t n EngineState.stopped) u.dev.engines },
    red := { u.red with swap := none, offered := false, takeover := none },
    pow := { u.pow with entry := none, lgDue := [], lgOpen := false },
    tss := { u.tss with egresses := [] } }

theorem heldFrom_spec (u : State) : (heldFrom u).devState = 4 ∧ (heldFrom u).dev.secureLatch = true ∧ (heldFrom u).sec = u.sec ∧
    OnlyRegs u (heldFrom u) [A.SYS_STATUS] := by
  have hregs : (heldFrom u).regs = (u.setFld F.SYS_STATUS_DEV_STATE 4).regs := rfl
  refine ⟨?_, rfl, rfl, fun a ha => ?_⟩
  · rw [State.devState, State.fld, State.reg_congr hregs]
    exact State.fld_setFld_self u F.SYS_STATUS_DEV_STATE 4 (by decide)
  · rw [State.reg_congr hregs]
    exact onlyRegs_setFld u F.SYS_STATUS_DEV_STATE 4 a ha

/-- The pages that the rest of the entry touches: the mirror link, the lanes, the fabric and KSU. -/
def holdPages : List Nat := 0x31 :: 0x28 :: lanePages ++ fabricPages

/-- The lanes, the queues and the mark of KSU after SECURE_HOLD is entered. -/
def holdRest (u : State) : State :=
  let s := (List.range 4).foldl tamperLane (forceEnds u)
  let s := (s.fab.queues.map (fun e => e.1)).foldl tamperQueue s
  s.setFld F.KSU_STATUS_TAMPER_LOGGED 1

theorem enterSecureHold_eq : enterSecureHold s = holdRest (heldFrom (keysGone s)) := by
  unfold enterSecureHold keysGone
  generalize s.sec.repl.foldl tamperReplace s = u
  cases hj : u.sec.job with
  | none =>
    simp only [hj]
    generalize destroyMask (clearKeys (bistAbandon (tamperCommands u))) = v
    rfl
  | some j =>
    simp only [hj]
    generalize destroyMask (clearKeys (bistAbandon (tamperCommands (endJob u j.op 6 [])))) = v
    rfl

theorem touches_holdRest : Touches [.regs, .red, .log, .host, .out, .bus, .lanes, .rings, .fab, .tss, .ports] holdPages s (holdRest s) := by
  have hlanes : Touches [.regs, .red, .log, .host, .out, .bus, .lanes, .rings, .fab, .tss, .ports] holdPages s
      ((List.range 4).foldl tamperLane (forceEnds s)) :=
    Touches.trans (touches_forceEnds.mono) (Touches.foldl (fun t n hn => (touches_tamperLane (List.mem_range.1 hn)).mono) _)
  unfold holdRest
  simp only
  generalize (List.range 4).foldl tamperLane (forceEnds s) = u at hlanes
  exact (hlanes.trans (Touches.foldl (fun t q _ => (touches_tamperQueue q).mono) u)).then (touches_setFld F.KSU_STATUS_TAMPER_LOGGED 1)

theorem enterSecureHold_spec : (enterSecureHold s).devState = 4 ∧ (enterSecureHold s).dev.secureLatch = true ∧ (enterSecureHold s).mask = none ∧
    (enterSecureHold s).sec.gcm = [] ∧ (enterSecureHold s).sec.zotDue = true ∧ (∀ a, a / 0x1000 = 0x02 → (enterSecureHold s).reg a = s.reg a) := by
  obtain ⟨hstate, hlatch, hsec, hregs⟩ := heldFrom_spec (keysGone s)
  obtain ⟨hmask, hgcm, hzot⟩ := keysGone_sec (s := s)
  have hkeys := touches_keysGone (s := s)
  have hrest := touches_holdRest (s := heldFrom (keysGone s))
  rw [← enterSecureHold_eq] at hrest
  have hsec' := (hrest.part .sec (by decide)).trans hsec
  refine ⟨?_, ?_, ?_, by rw [hsec', hgcm], by rw [hsec', hzot], fun a ha => ?_⟩
  · rw [State.devState, hrest.fld (by decide)]
    exact hstate
  · rw [hrest.part .dev (by decide), hlatch]
  · rw [State.mask, hsec', ← State.mask, hmask]
  · rw [hrest.reg a (by rw [ha]; decide), hregs a (by simp [A.SYS_STATUS]; rintro rfl; simp at ha), hkeys.reg a (by rw [ha]; decide)]

end

/-! ### The statements about the TRNG -/

section
variable {s : State}

theorem trngStartupDone_fail : (trngStartupDone s false).flag F.TRNG_STATUS_FAILED = true ∧
    (trngStartupDone s false).sec.trng.collecting = false ∧ (trngStartupDone s false).boot.trngDone = true ∧
    causeSet (trngStartupDone s false) 0x2A 0 = true := by
  obtain ⟨_, hdone⟩ := startupEnded_spec s
  rw [trngStartupDone_eq, if_neg Bool.false_ne_true]
  obtain ⟨hfailed, hcause, hsec, hboot, _⟩ := trngFail_spec ((startupEnded s).setTrng { (startupEnded s).sec.trng with collecting := false }) 3
  refine ⟨hfailed, by rw [hsec]; rfl, ?_, hcause⟩
  rw [hboot]
  exact hdone

theorem seedCollect_pass : (seedCollect s 0).flag F.TRNG_STATUS_SEEDED = true ∧
    (seedCollect s 0).sec.trng = { s.sec.trng with fails := 0, collecting := false, requests := 0 } := by
  refine ⟨?_, rfl⟩
  have hset := State.flag_setFld_one (s.setTrng { s.sec.trng with fails := 0, collecting := false, requests := 0 }) (f := F.TRNG_STATUS_SEEDED)
    rfl (by decide)
  exact ((onlyRegs_setFld _ F.TRNG_RESEEDS_COUNT _).flag (by decide)).trans hset

/-- GO is 1 after it is started, whether it was 1 before or not. -/
theorem bit_startGo (a : Nat) {b : Nat} (hb : b < 32) : bit ((startGo s a b).reg a).toNat b = true := by
  unfold startGo
  split
  next h =>
    rw [Bool.and_eq_true] at h
    exact h.1
  next => rw [State.reg_setReg_self, bit_setWord _ hb]

theorem trngReseed_spec : (trngReseed s).flag F.TRNG_CTRL_RESEED = true ∧ (trngReseed s).sec.trng.testing = true ∧
    OnlyRegs s (trngReseed s) [A.TRNG_CTRL] := by
  have hregs : (trngReseed s).regs = (startGo s A.TRNG_CTRL 0).regs := rfl
  refine ⟨?_, rfl, onlyRegs_of_regs (onlyRegs_startGo s A.TRNG_CTRL 0) hregs⟩
  rw [State.flag_of_regs hregs, State.flag_eq_bit rfl]
  exact bit_startGo A.TRNG_CTRL (by decide)

theorem rawPop_spec (src : Requester) : (rawPop s src).out = s.out ++ [.readData src A.TRNG_RAW (rawWord s)] ∧ OnlyRegs s (rawPop s src) [] := by
  unfold rawPop
  split
  · exact ⟨rfl, fun _ _ => rfl⟩
  · exact ⟨rfl, fun _ _ => rfl⟩

theorem rawWord_of_ready (h : s.devState = 2) : rawWord s = BitVec.ofNat 32 s.sec.trng.rawLast := by
  rw [rawWord, h, if_neg (by simp)]

end

/-! ### TAMPER_DETECT (R579, R705) -/

section
variable {s : State}

/-- The level of a tamper input shown. -/
def tamperShown (s : State) (source : Nat) : State :=
  match source with
  | 1 => s.setFld F.AON_STATUS_TAMPER_IN (s.fld F.AON_STATUS_TAMPER_IN ||| 1)
  | 2 => s.setFld F.AON_STATUS_TAMPER_IN (s.fld F.AON_STATUS_TAMPER_IN ||| 2)
  | 3 => s.setFld F.AON_STATUS_SHLD_BREAK 1
  | _ => s.setFld F.AON_STATUS_SENSOR_ALARM 1

theorem tamperShown_form (source : Nat) : ∃ r, tamperShown s source = { s with regs := r } ∧ OnlyRegs s { s with regs := r } [A.AON_STATUS] := by
  unfold tamperShown
  split
  · exact ⟨_, rfl, onlyRegs_setFld s F.AON_STATUS_TAMPER_IN _⟩
  · exact ⟨_, rfl, onlyRegs_setFld s F.AON_STATUS_TAMPER_IN _⟩
  · exact ⟨_, rfl, onlyRegs_setFld s F.AON_STATUS_SHLD_BREAK 1⟩
  · exact ⟨_, rfl, onlyRegs_setFld s F.AON_STATUS_SENSOR_ALARM 1⟩

/-- What enables a source of tampering stands in TAMPER_CFG. -/
theorem tamperEnabled_of_onlyRegs {t : State} (h : OnlyRegs s t [A.AON_STATUS]) (source sensor : Nat) :
    tamperEnabled t source sensor = tamperEnabled s source sensor := by
  unfold tamperEnabled
  split
  · exact h.flag (by decide)
  · exact h.flag (by decide)
  · exact h.flag (by decide)
  · rw [h.flag (by decide), h.flag (by decide), h.flag (by decide)]

/-- A tampering counted, recorded and shown by its cause. -/
def tamperCounted (s : State) (source sensor : Nat) : State :=
  setCause (tamperRecord (s.count F.AON_TAMPERS_COUNT 1) source sensor) 0x02 0

theorem tamper_eq (source sensor : Nat) : tamper s source sensor =
    if !tamperEnabled (tamperShown s source) source sensor then tamperShown s source
    else if (tamperCounted (tamperShown s source) source sensor).dev.inReset || (tamperCounted (tamperShown s source) source sensor).devState = 5 then
      { destroyMask (tamperCounted (tamperShown s source) source sensor) with
        sec := { (destroyMask (tamperCounted (tamperShown s source) source sensor)).sec with zotDue := true } }
    else if (tamperCounted (tamperShown s source) source sensor).devState = 4 then tamperCounted (tamperShown s source) source sensor
    else enterSecureHold (tamperCounted (tamperShown s source) source sensor) := rfl

theorem tamperRecord_regs (source sensor : Nat) : (tamperRecord s source sensor).regs = s.regs := by
  unfold tamperRecord
  simp only
  exact State.ite_of (P := fun x => x.regs = s.regs) rfl rfl

theorem touches_tamperRecord (source sensor : Nat) : Touches [.sec] [] s (tamperRecord s source sensor) := by
  unfold tamperRecord
  simp only
  exact Touches.ite (fun _ => touches_parts [.sec] rfl) (fun _ => Touches.refl s)

theorem touches_tamperCounted (source sensor : Nat) : Touches [.regs, .sec, .host, .out] [0x02] s (tamperCounted s source sensor) :=
  ((touches_count F.AON_TAMPERS_COUNT 1).mono.then (touches_tamperRecord source sensor)).then (touches_setCause 0x02 0)

theorem tamperCounted_spec (source sensor : Nat) : causeSet (tamperCounted s source sensor) 0x02 0 = true ∧
    (tamperCounted s source sensor).fld F.AON_TAMPERS_COUNT = satAdd 32 (s.fld F.AON_TAMPERS_COUNT) 1 := by
  refine ⟨by rw [tamperCounted, causeSet_setCause _ _ _ _ (by decide), beq_self_eq_true, Bool.or_true], ?_⟩
  have hcause := onlyRegs_setCause (tamperRecord (s.count F.AON_TAMPERS_COUNT 1) source sensor) 0x02 0
  have hcount : (tamperCounted s source sensor).fld F.AON_TAMPERS_COUNT =
      (tamperRecord (s.count F.AON_TAMPERS_COUNT 1) source sensor).fld F.AON_TAMPERS_COUNT := hcause.fld (by decide)
  rw [hcount, State.fld, State.reg_congr (tamperRecord_regs source sensor)]
  exact State.fld_count_self s F.AON_TAMPERS_COUNT 1 (by decide)

theorem exec_tamperDetect (n : Fin 6) : exec (.tamperDetect n) s = .next (tamper s (if n.val < 3 then n.val + 1 else 4) (n.val - 2)) := by
  show Host.Outcome.next _ = _
  by_cases h : n.val < 3
  · rw [if_pos h, if_pos h, show n.val - 2 = 0 by omega]
  · rw [if_neg h, if_neg h]

/-- A source that is not enabled shows its level alone. -/
theorem tamper_disabled {source sensor : Nat} (h : tamperEnabled s source sensor = false) :
    OnlyRegs s (tamper s source sensor) [A.AON_STATUS] ∧ tamper s source sensor = { s with regs := (tamper s source sensor).regs } := by
  obtain ⟨r, hr, honly⟩ := tamperShown_form (s := s) source
  have hen : tamperEnabled (tamperShown s source) source sensor = false := by rw [hr, tamperEnabled_of_onlyRegs honly, h]
  rw [tamper_eq, hen, Bool.not_false, if_pos rfl, hr]
  exact ⟨honly, rfl⟩

/-- An enabled source in operation: SECURE_HOLD, with what the tampering leaves. -/
theorem tamper_enabled {source sensor : Nat} (hs : s.inOperation = true) (h : tamperEnabled s source sensor = true) :
    (tamper s source sensor).devState = 4 ∧ (tamper s source sensor).dev.secureLatch = true ∧ (tamper s source sensor).mask = none ∧
      (tamper s source sensor).sec.gcm = [] ∧ (tamper s source sensor).sec.zotDue = true ∧ causeSet (tamper s source sensor) 0x02 0 = true ∧
      (tamper s source sensor).fld F.AON_TAMPERS_COUNT = satAdd 32 (s.fld F.AON_TAMPERS_COUNT) 1 := by
  obtain ⟨r, hr, honly⟩ := tamperShown_form (s := s) source
  have hen : tamperEnabled (tamperShown s source) source sensor = true := by rw [hr, tamperEnabled_of_onlyRegs honly, h]
  obtain ⟨hcause, hcount⟩ := tamperCounted_spec (s := tamperShown s source) source sensor
  have htouch := touches_tamperCounted (s := tamperShown s source) source sensor
  have hcount' : (tamperShown s source).fld F.AON_TAMPERS_COUNT = s.fld F.AON_TAMPERS_COUNT := by rw [hr]; exact honly.fld (by decide)
  have hdev : (tamperCounted (tamperShown s source) source sensor).devState = s.devState := by
    have hshown : (tamperShown s source).devState = s.devState := by rw [hr]; exact honly.fld (f := F.SYS_STATUS_DEV_STATE) (by decide)
    exact (htouch.fld (f := F.SYS_STATUS_DEV_STATE) (by decide)).trans hshown
  have hreset : (tamperCounted (tamperShown s source) source sensor).dev.inReset = false := by
    rw [htouch.part .dev (by decide), hr]
    have ha := State.answers_of_inOperation hs
    simp only [State.answers, Bool.and_eq_true, Bool.not_eq_true'] at ha
    exact ha.1.1
  have hstate := State.devState_of_inOperation hs
  rw [tamper_eq, hen, Bool.not_true, if_neg Bool.false_ne_true, hreset, hdev, Bool.false_or, if_neg (by simp; omega), if_neg (by omega)]
  generalize tamperCounted (tamperShown s source) source sensor = u at hcause hcount
  obtain ⟨hsecure, hlatch, hmask, hgcm, hzot, hkept⟩ := enterSecureHold_spec (s := u)
  refine ⟨hsecure, hlatch, hmask, hgcm, hzot, ?_, ?_⟩
  · rw [causeSet, hkept _ (by decide)]
    exact hcause
  · rw [State.fld, hkept _ (by decide)]
    exact hcount.trans (by rw [hcount'])

end

/-! ### ZOT_OVERWRITE_DONE (R579) -/

section
variable {s : State}

theorem zotWipe_half (x : Slot) (b : Bool) (hz : isZot (x.half b).attr = true) (hc : (x.half b).commit ≠ zeroised) :
    (((zotWipe x).2).half b).ct = List.replicate 32 0#8 ∧ (((zotWipe x).2).half b).tag = List.replicate 8 0#8 := by
  have hwipe : (isZot (x.half b).attr && (x.half b).commit != zeroised) = true := by simp [hz, hc]
  have hhalf : ((zotWipe x).2).half b = wipeHalf (x.half b) (if x.committedHalf == some b then zeroised else uncommitted) := by
    have hsame : ((zotWipe x).2).half b = (if isZot (x.half b).attr && (x.half b).commit != zeroised then
        wipeHalf (x.half b) (if x.committedHalf == some b then zeroised else uncommitted)
      else if (zotWipe x).1 && (x.half b).commit == committed then { x.half b with commit := uncommitted } else x.half b) := by
      unfold zotWipe
      simp only
      cases b <;> exact apply_ite (fun y : Slot => y.half _) _ _ _ |>.trans (ite_self _)
    rw [hsame, if_pos hwipe]
  rw [hhalf]
  exact ⟨rfl, rfl⟩

/-- The key store with its ZOT halves overwritten, before it is counted and reported. -/
def zotWiped (s : State) : State :=
  { s with sec := { s.sec with slots := Tbl.mapVals (fun _ => Slot.empty) (fun _ x => (zotWipe x).2) s.sec.slots, zotDue := false } }

theorem zotWiped_slot (n : Nat) : (zotWiped s).slot n = (zotWipe (s.slot n)).2 :=
  Tbl.get_mapVals (d := fun _ => Slot.empty) (fun _ x => (zotWipe x).2) s.sec.slots n (by decide)

/-- The overwrite counted and, where it met a working key, reported. -/
def zotReported (s : State) : State :=
  let hit := (s.sec.slots.filter (fun e => (zotWipe e.2).1)).map (fun e => e.1)
  let u := (refreshCounts (zotWiped s)).count F.KSU_ZEROISATIONS_COUNT hit.length
  if hit.isEmpty then u else u.event 0x28 0 0x1102 4 (leBytes 2 hit.length ++ leBytes 1 2)

theorem zotOverwrite_eq : zotOverwrite s = setCause (zotReported s) 0x28 4 := rfl

theorem touches_zotReported : Touches [.regs, .log] [0x28] (zotWiped s) (zotReported s) := by
  unfold zotReported
  simp only
  refine Touches.ite (fun _ => ?_) (fun _ => ?_)
  · exact (touches_refreshCounts.then (touches_count F.KSU_ZEROISATIONS_COUNT _)).mono
  · exact (touches_refreshCounts.then (touches_count F.KSU_ZEROISATIONS_COUNT _)).mono.then (touches_event (gs := []) _ _ _ _ _)

theorem zotOverwrite_spec : (zotOverwrite s).sec = (zotWiped s).sec ∧ causeSet (zotOverwrite s) 0x28 4 = true := by
  rw [zotOverwrite_eq]
  refine ⟨?_, by rw [causeSet_setCause _ _ _ _ (by decide), beq_self_eq_true, Bool.or_true]⟩
  rw [setCause_sec]
  exact touches_zotReported.part .sec (by decide)

end

/-! ### The statement -/

/-- Settles O41: the start-up tests, the seeds, the raw words, the tamper inputs and the overwrite of the ZOT halves. -/
theorem randomNumbersAndTamper : Obligations.RandomNumbersAndTamper := by
  unfold Obligations.RandomNumbersAndTamper
  intro s
  refine ⟨fun ha ht => ?_, fun ha hc => ⟨?_, fun r hr => ?_⟩, fun ha hf hs => ?_, fun src hs => ⟨?_, ?_⟩, fun n hs => ⟨fun hen => ?_, fun hen => ?_⟩,
    fun ha hz => ?_⟩
  · have hgo : (s.answers && s.sec.trng.testing) = true := by rw [ha, ht]; rfl
    exact ⟨⟨_, congrArg Host.Outcome.next (if_pos hgo), trngStartupDone_pass s⟩, ⟨_, congrArg Host.Outcome.next (if_pos hgo), trngStartupDone_fail⟩⟩
  · exact ⟨_, congrArg Host.Outcome.next (if_pos (by rw [ha, hc]; rfl)), seedCollect_pass⟩
  · have hr' : r.val ≠ 0 := fun h => hr (Fin.ext h)
    have hcounter : (if r = 1 then F.TRNG_RCT_FAILS_COUNT else F.TRNG_APT_FAILS_COUNT) = failCounter r.val := by
      unfold failCounter
      exact if_congr Fin.ext_iff rfl rfl
    refine ⟨_, congrArg Host.Outcome.next (if_pos (by rw [ha, hc]; rfl)), ?_⟩
    rw [hcounter]
    exact seedCollect_fail s hr' hc
  · exact congrArg Host.Outcome.next (if_pos (by rw [ha, hf, hs]; rfl))
  · exact ⟨_, congrArg Host.Outcome.next (gateWrite_inOperation hs (by decide +kernel) src _), trngReseed_spec⟩
  · obtain ⟨hout, hregs⟩ := rawPop_spec (s := s) src
    exact ⟨_, congrArg Host.Outcome.next (gateRead_inOperation hs (by decide +kernel) src _), hout, rawWord_of_ready, hregs⟩
  · exact ⟨_, exec_tamperDetect n, tamper_enabled hs hen⟩
  · exact ⟨_, exec_tamperDetect n, tamper_disabled hen⟩
  · obtain ⟨hsec, hcause⟩ := zotOverwrite_spec (s := s)
    have hslot : ∀ n, (zotOverwrite s).slot n = (zotWipe (s.slot n)).2 := fun n => by
      rw [State.slot, hsec]
      exact zotWiped_slot n
    refine ⟨_, congrArg Host.Outcome.next (if_pos (by rw [ha, hz]; rfl)), by rw [hsec]; rfl, hcause, fun n b hzot hcommit => ?_⟩
    rw [hslot]
    exact zotWipe_half _ b hzot hcommit

end Sys2Proof.Machine
end

section
/-!
PROOFS. Errors of memory, the scrubber and the sweep of the SRAM (18_memory_errors_and_ordered_recovery.md): the statement O42.
-/
namespace Sys2Proof.Machine

-- One proof after another: side by side, the threads of so long a text want more memory than the check grants.
set_option Elab.async false

section
variable {s : State}

theorem lastEvent_event (page sub code sev : Nat) (data : List Byte) : lastEvent (s.event page sub code sev data) page code := by
  simp [lastEvent, State.event]

theorem lastEvent_of_log {t u : State} (e : u.log = t.log) {page code : Nat} (h : lastEvent t page code) : lastEvent u page code := by
  rw [lastEvent, e]
  exact h

/-- A cause set right after an event leaves the event the last. -/
theorem lastEvent_setCause {page code : Nat} (p b : Nat) (h : lastEvent s page code) : lastEvent (setCause s p b) page code :=
  lastEvent_of_log (setCause_log s p b) h

/-! ### The records of errors (R608–R610) -/

theorem touches_logError (ue sram : Bool) (region origin position addr syndrome : Nat) :
    Touches [.regs, .host, .out, .mem] [0x30] s (logError s ue sram region origin position addr syndrome) :=
  Touches.ite (fun _ => (touches_count F.MEM_LOG_LOST_COUNT 1).mono.then (touches_setCause 0x30 6))
    (fun _ => (touches_parts (gs := []) [.mem] rfl).mono)

theorem onlyRegs_logError (ue sram : Bool) (region origin position addr syndrome : Nat) :
    OnlyRegs s (logError s ue sram region origin position addr syndrome) [A.MEM_LOG_LOST, 0x30010] := by
  unfold logError
  split
  · exact (onlyRegs_setFld s F.MEM_LOG_LOST_COUNT _).trans (onlyRegs_setCause _ 0x30 6)
  · exact fun _ _ => rfl

theorem logError_room (h : s.mem.errLog.length < 32) (ue sram : Bool) (region origin position addr syndrome : Nat) :
    (logError s ue sram region origin position addr syndrome).mem.errLog.length = s.mem.errLog.length + 1 := by
  rw [logError, if_neg (by omega)]
  simp

/-- The registers in which an error of memory shows, but for the counters of it. -/
def memErrorRegs : List Nat := [A.MEM_LOG_LOST, 0x30010, 0x3001C, 0x30020]

/-- A correctable error is told: its record, its event and its cause. -/
def ceShown (s : State) (sram : Bool) (region origin position addr syndrome code sev : Nat) (data : List Byte) (cause : Nat) : State :=
  setCause ((logError (ceTell s region) false sram region origin position addr syndrome).event 0x30 0 code sev data) 0x30 cause

section
variable (sram : Bool) (region origin position addr syndrome code sev : Nat) (data : List Byte) (cause : Nat)

theorem touches_ceShown : Touches [.regs, .host, .out, .mem, .log] [0x30] s (ceShown s sram region origin position addr syndrome code sev data cause) := by
  have htell : Touches [.mem] [] s (ceTell s region) := touches_parts [.mem] rfl
  exact ((htell.mono.trans (touches_logError false sram region origin position addr syndrome)).mono.then (touches_event (gs := []) _ _ _ _ _)).then
    (touches_setCause 0x30 cause)

theorem onlyRegs_ceShown : OnlyRegs s (ceShown s sram region origin position addr syndrome code sev data cause) memErrorRegs := by
  have hlog : OnlyRegs s (logError (ceTell s region) false sram region origin position addr syndrome) [A.MEM_LOG_LOST, 0x30010] :=
    onlyRegs_logError (s := ceTell s region) false sram region origin position addr syndrome
  exact (hlog.trans (onlyRegs_setCause ((logError (ceTell s region) false sram region origin position addr syndrome).event 0x30 0 code sev data)
    0x30 cause)).mono (by decide)

theorem ceShown_spec (hc : cause < 32) : causeSet (ceShown s sram region origin position addr syndrome code sev data cause) 0x30 cause = true ∧
    lastEvent (ceShown s sram region origin position addr syndrome code sev data cause) 0x30 code ∧
    (s.mem.errLog.length < 32 →
      (ceShown s sram region origin position addr syndrome code sev data cause).mem.errLog.length = s.mem.errLog.length + 1) := by
  refine ⟨by rw [ceShown, causeSet_setCause _ _ _ _ hc, beq_self_eq_true, Bool.or_true], lastEvent_setCause _ _ (lastEvent_event _ _ _ _ _),
    fun h => ?_⟩
  rw [ceShown, setCause_mem]
  exact logError_room (s := ceTell s region) h _ _ _ _ _ _ _

end

/-- An uncorrectable error is told: its record, the captured error, its event and its cause. -/
def ueShown (s : State) (sram : Bool) (region origin addr syndrome code at_ : Nat) (event : Nat) (data : List Byte) (cause : Nat) : State :=
  setCause ((recordErr (logError s true sram region origin 0xFF addr syndrome) 0x30 code 0 at_).event 0x30 0 event 3 data) 0x30 cause

section
variable (sram : Bool) (region origin addr syndrome code at_ event : Nat) (data : List Byte) (cause : Nat)

theorem touches_ueShown : Touches [.regs, .host, .out, .mem, .log] [0x30] s (ueShown s sram region origin addr syndrome code at_ event data cause) :=
  (((touches_logError true sram region origin 0xFF addr syndrome).mono.then (touches_recordErr 0x30 code 0 at_)).then
    (touches_event (gs := []) _ _ _ _ _)).then (touches_setCause 0x30 cause)

theorem onlyRegs_ueShown : OnlyRegs s (ueShown s sram region origin addr syndrome code at_ event data cause) memErrorRegs := by
  have hlog := onlyRegs_logError (s := s) true sram region origin 0xFF addr syndrome
  have herr := onlyRegs_recordErr (logError s true sram region origin 0xFF addr syndrome) 0x30 code 0 at_
  exact ((hlog.trans herr).trans (onlyRegs_setCause
    ((recordErr (logError s true sram region origin 0xFF addr syndrome) 0x30 code 0 at_).event 0x30 0 event 3 data) 0x30 cause)).mono (by decide)

theorem ueShown_spec (hc : cause < 32) : causeSet (ueShown s sram region origin addr syndrome code at_ event data cause) 0x30 cause = true ∧
    causeSet (ueShown s sram region origin addr syndrome code at_ event data cause) 0x30 31 = true ∧
    lastEvent (ueShown s sram region origin addr syndrome code at_ event data cause) 0x30 event := by
  refine ⟨by rw [ueShown, causeSet_setCause _ _ _ _ hc, beq_self_eq_true, Bool.or_true], ?_, lastEvent_setCause _ _ (lastEvent_event _ _ _ _ _)⟩
  rw [ueShown, causeSet_setCause _ _ _ _ (by decide), Bool.or_eq_true]
  exact Or.inl (causeSet_recordErr _ _ _ _ _)

end

/-! ### DRAM -/

/-- A correctable error of the DRAM counted, in all and for its region. -/
def ceCounted (s : State) (cw : Nat) : State := (s.count F.MEM_DRAM_CE_COUNT 1).count (F.MEM_REGION_CE_COUNT (dramRegion (16 * cw))) 1

theorem dramRegion_le (a : Nat) : dramRegion a ≤ 6 := by
  unfold dramRegion
  repeat' split
  all_goals omega

theorem regionCounter_addr (a : Nat) : (F.MEM_REGION_CE_COUNT (dramRegion a)).addr ∉ A.MEM_DRAM_CE :: memErrorRegs ∧
    (F.MEM_REGION_CE_COUNT (dramRegion a)).lsb = 0 ∧ (F.MEM_REGION_CE_COUNT (dramRegion a)).width = 32 ∧
    (F.MEM_REGION_CE_COUNT (dramRegion a)).addr / 0x1000 = 0x30 := by
  have h := dramRegion_le a
  generalize dramRegion a = r at h
  interval_cases r <;> decide

theorem ceCounted_spec (cw : Nat) : (ceCounted s cw).fld F.MEM_DRAM_CE_COUNT = satAdd 32 (s.fld F.MEM_DRAM_CE_COUNT) 1 ∧
    (ceCounted s cw).fld (F.MEM_REGION_CE_COUNT (dramRegion (16 * cw))) =
      satAdd 32 (s.fld (F.MEM_REGION_CE_COUNT (dramRegion (16 * cw)))) 1 := by
  obtain ⟨hne, hlsb, hwidth, _⟩ := regionCounter_addr (16 * cw)
  have hne' : (F.MEM_REGION_CE_COUNT (dramRegion (16 * cw))).addr ≠ A.MEM_DRAM_CE := fun h => hne (by rw [h]; exact List.mem_cons_self)
  constructor
  · have h : (ceCounted s cw).fld F.MEM_DRAM_CE_COUNT = (s.count F.MEM_DRAM_CE_COUNT 1).fld F.MEM_DRAM_CE_COUNT :=
      (onlyRegs_setFld _ (F.MEM_REGION_CE_COUNT (dramRegion (16 * cw))) _).fld (by simpa using hne'.symm)
    rw [h]
    exact State.fld_count_self s F.MEM_DRAM_CE_COUNT 1 (by decide)
  · have h : (s.count F.MEM_DRAM_CE_COUNT 1).fld (F.MEM_REGION_CE_COUNT (dramRegion (16 * cw))) =
        s.fld (F.MEM_REGION_CE_COUNT (dramRegion (16 * cw))) := (onlyRegs_setFld s F.MEM_DRAM_CE_COUNT _).fld (by simpa using hne')
    rw [ceCounted, State.fld_count_self _ _ 1 (by omega), h, hwidth]

theorem touches_ceCounted (cw : Nat) : Touches [.regs] [0x30] s (ceCounted s cw) := by
  have h := touches_count (x := s.count F.MEM_DRAM_CE_COUNT 1) (F.MEM_REGION_CE_COUNT (dramRegion (16 * cw))) 1
  rw [(regionCounter_addr (16 * cw)).2.2.2] at h
  exact Touches.trans (touches_count F.MEM_DRAM_CE_COUNT 1) h

/-- A correctable error that a demand read meets. -/
theorem dramCe_demand (cw symbol syndrome : Nat) : dramCe s cw 0 symbol syndrome = if ceReported (ceCounted s cw) (dramRegion (16 * cw)) then
      ceShown (ceCounted s cw) false (dramRegion (16 * cw)) 0 symbol (16 * cw) syndrome 0x1200 1
        (leBytes 1 (dramRegion (16 * cw)) ++ leBytes 1 symbol ++ leBytes 4 (16 * cw) ++ leBytes 1 0) 0
    else ceCounted s cw := rfl

theorem ceReported_congr {t : State} (hmem : t.mem = s.mem) (hnow : t.now = s.now) (hcfg : t.fld F.MEM_CE_CFG_EVT_S = s.fld F.MEM_CE_CFG_EVT_S)
    (region : Nat) : ceReported t region = ceReported s region := by
  rw [ceReported, ceReported, hmem, hnow, hcfg]

theorem ceReported_ceCounted (cw region : Nat) : ceReported (ceCounted s cw) region = ceReported s region := by
  obtain ⟨hne, _⟩ := regionCounter_addr (16 * cw)
  refine ceReported_congr (s := s) (t := ceCounted s cw) rfl rfl ?_ region
  have h := (onlyRegs_setFld s F.MEM_DRAM_CE_COUNT (satAdd 32 (s.fld F.MEM_DRAM_CE_COUNT) 1)).trans
    (onlyRegs_setFld (s.count F.MEM_DRAM_CE_COUNT 1) (F.MEM_REGION_CE_COUNT (dramRegion (16 * cw)))
      (satAdd (F.MEM_REGION_CE_COUNT (dramRegion (16 * cw))).width ((s.count F.MEM_DRAM_CE_COUNT 1).fld (F.MEM_REGION_CE_COUNT (dramRegion (16 * cw)))) 1))
  refine h.fld ?_
  have hcfg : A.MEM_CE_CFG ≠ (F.MEM_REGION_CE_COUNT (dramRegion (16 * cw))).addr := by
    have hle := dramRegion_le (16 * cw)
    generalize dramRegion (16 * cw) = r at hle
    interval_cases r <;> decide
  simpa using hcfg

theorem dramCe_demand_spec (cw symbol syndrome : Nat) :
    (dramCe s cw 0 symbol syndrome).fld F.MEM_DRAM_CE_COUNT = satAdd 32 (s.fld F.MEM_DRAM_CE_COUNT) 1 ∧
      (dramCe s cw 0 symbol syndrome).fld (F.MEM_REGION_CE_COUNT (dramRegion (16 * cw))) =
        satAdd 32 (s.fld (F.MEM_REGION_CE_COUNT (dramRegion (16 * cw)))) 1 ∧
      SameMemory s (dramCe s cw 0 symbol syndrome) ∧
      (ceReported s (dramRegion (16 * cw)) = true → causeSet (dramCe s cw 0 symbol syndrome) 0x30 0 = true ∧
        lastEvent (dramCe s cw 0 symbol syndrome) 0x30 0x1200 ∧
        (s.mem.errLog.length < 32 → (dramCe s cw 0 symbol syndrome).mem.errLog.length = s.mem.errLog.length + 1)) := by
  obtain ⟨hdram, hregion⟩ := ceCounted_spec (s := s) cw
  obtain ⟨hne, _⟩ := regionCounter_addr (16 * cw)
  rw [dramCe_demand, ceReported_ceCounted]
  by_cases h : ceReported s (dramRegion (16 * cw)) = true
  · rw [if_pos h]
    have honly := onlyRegs_ceShown (s := ceCounted s cw) false (dramRegion (16 * cw)) 0 symbol (16 * cw) syndrome 0x1200 1
      (leBytes 1 (dramRegion (16 * cw)) ++ leBytes 1 symbol ++ leBytes 4 (16 * cw) ++ leBytes 1 0) 0
    have htouch := touches_ceShown (s := ceCounted s cw) false (dramRegion (16 * cw)) 0 symbol (16 * cw) syndrome 0x1200 1
      (leBytes 1 (dramRegion (16 * cw)) ++ leBytes 1 symbol ++ leBytes 4 (16 * cw) ++ leBytes 1 0) 0
    have hspec := ceShown_spec (s := ceCounted s cw) false (dramRegion (16 * cw)) 0 symbol (16 * cw) syndrome 0x1200 1
      (leBytes 1 (dramRegion (16 * cw)) ++ leBytes 1 symbol ++ leBytes 4 (16 * cw) ++ leBytes 1 0) 0 (by decide)
    exact ⟨(honly.fld (by decide)).trans hdram, (honly.fld (fun hm => hne (List.mem_cons_of_mem _ hm))).trans hregion,
      sameMemory_of_dram (htouch.part .dram (by decide)), fun _ => hspec⟩
  · rw [if_neg h]
    exact ⟨hdram, hregion, fun _ => rfl, fun h' => absurd h' h⟩

/-- A miscorrected codeword holds the bytes that resulted. -/
theorem miscorrected_spec (cw : Fin 8388608) (symbol syndrome : Nat) (bytes : List Byte) :
    ((dramCe s cw 0 symbol syndrome).ramStore (16 * cw) (slice bytes 0 16)).ramBytes (16 * cw) 16 = slice bytes 0 16 ∧
      OnlyMemory s ((dramCe s cw 0 symbol syndrome).ramStore (16 * cw) (slice bytes 0 16)) (16 * cw) 16 := by
  have hlen : (slice bytes 0 16).length = 16 := by simp [slice]; omega
  have hread := State.ramBytes_ramStore (dramCe s cw 0 symbol syndrome) (16 * cw) (slice bytes 0 16)
  have hstore := onlyMemory_ramStore (dramCe s cw 0 symbol syndrome) (16 * cw) (slice bytes 0 16)
  obtain ⟨_, _, hsame, _⟩ := dramCe_demand_spec (s := s) cw symbol syndrome
  rw [hlen] at hread hstore
  exact ⟨hread, fun a ha => (hstore a ha).trans (hsame a)⟩

/-- An uncorrectable error that a demand access meets. -/
theorem dramUe_demand {origin : Nat} (ho : origin ≠ 1) (cw syndrome : Nat) : dramUe s cw origin syndrome =
    ueShown (s.count F.MEM_DRAM_UE_COUNT 1) false (dramRegion (16 * cw)) origin (16 * cw) syndrome 0x80 (16 * cw) 0x1201
      (leBytes 1 (dramRegion (16 * cw)) ++ leBytes 1 origin ++ leBytes 4 (16 * cw)) 1 := by
  simp only [dramUe, if_neg ho]
  rfl

theorem lostUnit_record {cw : Nat} (h : dramRegion (16 * cw) = 5) (desc : Option Nat) :
    lostUnit s cw desc = lostRecord s ((16 * cw - logBase) / 32) := by
  simp only [lostUnit, h]

theorem codewordLost_record {origin : Nat} (ho : origin ≠ 1) {cw : Nat} (h : dramRegion (16 * cw) = 5) (syndrome : Nat) (desc : Option Nat) :
    (codewordLost s cw origin syndrome desc).fld F.MEM_DRAM_UE_COUNT = satAdd 32 (s.fld F.MEM_DRAM_UE_COUNT) 1 ∧
      causeSet (codewordLost s cw origin syndrome desc) 0x30 1 = true ∧ causeSet (codewordLost s cw origin syndrome desc) 0x30 31 = true ∧
      lastEvent (codewordLost s cw origin syndrome desc) 0x30 0x1201 ∧
      (16 * cw - logBase) / 32 ∈ (codewordLost s cw origin syndrome desc).mem.lostLog ∧ SameMemory s (codewordLost s cw origin syndrome desc) := by
  rw [codewordLost, lostUnit_record h, dramUe_demand ho]
  have honly := onlyRegs_ueShown (s := s.count F.MEM_DRAM_UE_COUNT 1) false (dramRegion (16 * cw)) origin (16 * cw) syndrome 0x80 (16 * cw) 0x1201
    (leBytes 1 (dramRegion (16 * cw)) ++ leBytes 1 origin ++ leBytes 4 (16 * cw)) 1
  have htouch := touches_ueShown (s := s.count F.MEM_DRAM_UE_COUNT 1) false (dramRegion (16 * cw)) origin (16 * cw) syndrome 0x80 (16 * cw) 0x1201
    (leBytes 1 (dramRegion (16 * cw)) ++ leBytes 1 origin ++ leBytes 4 (16 * cw)) 1
  obtain ⟨hcause, herr, hevent⟩ := ueShown_spec (s := s.count F.MEM_DRAM_UE_COUNT 1) false (dramRegion (16 * cw)) origin (16 * cw) syndrome 0x80
    (16 * cw) 0x1201 (leBytes 1 (dramRegion (16 * cw)) ++ leBytes 1 origin ++ leBytes 4 (16 * cw)) 1 (by decide)
  generalize ueShown (s.count F.MEM_DRAM_UE_COUNT 1) false (dramRegion (16 * cw)) origin (16 * cw) syndrome 0x80 (16 * cw) 0x1201
    (leBytes 1 (dramRegion (16 * cw)) ++ leBytes 1 origin ++ leBytes 4 (16 * cw)) 1 = u at honly htouch hcause herr hevent
  refine ⟨?_, hcause, herr, hevent, by simp [lostRecord], sameMemory_of_dram (htouch.part .dram (by decide))⟩
  exact (honly.fld (f := F.MEM_DRAM_UE_COUNT) (by decide)).trans (State.fld_count_self s F.MEM_DRAM_UE_COUNT 1 (by decide))

/-! ### The scrubber (R598–R602) -/

theorem scrubRead_clean (desc : Option Nat) : scrubRead s 1 .clean desc =
    if s.fld F.MEM_SCRUB_POS_CODEWORD + 1 = 8388608 then scrubEnds s else s.setFld F.MEM_SCRUB_POS_CODEWORD (s.fld F.MEM_SCRUB_POS_CODEWORD + 1) := rfl

theorem scrubMoves_spec (h : s.fld F.MEM_SCRUB_POS_CODEWORD + 1 < 8388608) :
    (s.setFld F.MEM_SCRUB_POS_CODEWORD (s.fld F.MEM_SCRUB_POS_CODEWORD + 1)).fld F.MEM_SCRUB_POS_CODEWORD = s.fld F.MEM_SCRUB_POS_CODEWORD + 1 := by
  rw [State.fld_setFld_self s F.MEM_SCRUB_POS_CODEWORD _ (by decide)]
  exact Nat.mod_eq_of_lt h

/-- The pass of the scrubber counted and reported, its account begun anew. -/
def scrubReported (s : State) : State :=
  let c := (s.count F.MEM_SCRUB_PASSES_COUNT 1).setReg A.MEM_SCRUB_LAST_S (BitVec.ofNat 32 s.now.sec)
  let e := c.event 0x30 0 0x1207 0 (leBytes 4 (c.fld F.MEM_SCRUB_PASSES_COUNT) ++ leBytes 2 (min 65535 s.mem.ces) ++ leBytes 2 (min 65535 s.mem.ues)
    ++ leBytes 2 (min 65535 ((c.dev.upCycles - s.mem.passAt) / (3600 * 250000000))))
  { e with mem := { s.mem with
    target := 0, passAt := e.dev.upCycles, ces := 0, ues := 0, persistent := false, lastCes := s.mem.ces, lastPersistent := s.mem.persistent } }

theorem scrubEnds_eq : scrubEnds s = setCause (((scrubReported s).setFld F.MEM_STATUS_SCRUB_LATE 0).setFld F.MEM_SCRUB_POS_CODEWORD 0) 0x30 4 := rfl

theorem scrubReported_spec : (scrubReported s).fld F.MEM_SCRUB_PASSES_COUNT = satAdd 32 (s.fld F.MEM_SCRUB_PASSES_COUNT) 1 ∧
    (scrubReported s).reg A.MEM_SCRUB_LAST_S = BitVec.ofNat 32 s.now.sec ∧ lastEvent (scrubReported s) 0x30 0x1207 ∧
    (scrubReported s).mem.target = 0 ∧ SameMemory s (scrubReported s) := by
  have hregs : (scrubReported s).regs = ((s.count F.MEM_SCRUB_PASSES_COUNT 1).setReg A.MEM_SCRUB_LAST_S (BitVec.ofNat 32 s.now.sec)).regs := rfl
  refine ⟨?_, ?_, lastEvent_of_log (t := ((s.count F.MEM_SCRUB_PASSES_COUNT 1).setReg A.MEM_SCRUB_LAST_S (BitVec.ofNat 32 s.now.sec)).event
    0x30 0 0x1207 0 _) rfl (lastEvent_event _ _ _ _ _), rfl, fun _ => rfl⟩
  · rw [State.fld, State.reg_congr hregs]
    exact ((onlyRegs_setReg (s.count F.MEM_SCRUB_PASSES_COUNT 1) A.MEM_SCRUB_LAST_S _).fld (f := F.MEM_SCRUB_PASSES_COUNT) (by decide)).trans
      (State.fld_count_self s F.MEM_SCRUB_PASSES_COUNT 1 (by decide))
  · rw [State.reg_congr hregs, State.reg_setReg_self]

theorem scrubEnds_spec : (scrubEnds s).fld F.MEM_SCRUB_POS_CODEWORD = 0 ∧
    (scrubEnds s).fld F.MEM_SCRUB_PASSES_COUNT = satAdd 32 (s.fld F.MEM_SCRUB_PASSES_COUNT) 1 ∧
    (scrubEnds s).reg A.MEM_SCRUB_LAST_S = BitVec.ofNat 32 s.now.sec ∧ (scrubEnds s).flag F.MEM_STATUS_SCRUB_LATE = false ∧
    causeSet (scrubEnds s) 0x30 4 = true ∧ lastEvent (scrubEnds s) 0x30 0x1207 ∧ (scrubEnds s).mem.target = 0 ∧ SameMemory s (scrubEnds s) := by
  obtain ⟨hpasses, hlast, hevent, htarget, hsame⟩ := scrubReported_spec (s := s)
  rw [scrubEnds_eq]
  generalize scrubReported s = u at hpasses hlast hevent htarget hsame
  have hcause := onlyRegs_setCause ((u.setFld F.MEM_STATUS_SCRUB_LATE 0).setFld F.MEM_SCRUB_POS_CODEWORD 0) 0x30 4
  have hpos := onlyRegs_setFld (u.setFld F.MEM_STATUS_SCRUB_LATE 0) F.MEM_SCRUB_POS_CODEWORD 0
  have hall := ((onlyRegs_setFld u F.MEM_STATUS_SCRUB_LATE 0).trans hpos).trans hcause
  refine ⟨?_, (hall.fld (f := F.MEM_SCRUB_PASSES_COUNT) (by decide)).trans hpasses, (hall A.MEM_SCRUB_LAST_S (by decide)).trans hlast, ?_,
    by rw [causeSet_setCause _ _ _ _ (by decide), beq_self_eq_true, Bool.or_true],
    lastEvent_setCause _ _ (lastEvent_of_log (t := u) rfl hevent), by rw [setCause_mem]; exact htarget, fun a => ?_⟩
  · exact (hcause.fld (f := F.MEM_SCRUB_POS_CODEWORD) (by decide)).trans
      (State.fld_setFld_self (u.setFld F.MEM_STATUS_SCRUB_LATE 0) F.MEM_SCRUB_POS_CODEWORD 0 (by decide))
  · exact ((hcause.flag (by decide)).trans (hpos.flag (by decide))).trans (State.flag_setFld_zero u (by decide))
  · exact ((touches_setCause 0x30 4).ram (by decide) a).trans (hsame a)

/-- The state once a late pass of the scrubber is shown. -/
def scrubLateShown (s : State) : State :=
  setCause ((s.event 0x30 0 0x1208 2 (leBytes 4 (s.fld F.MEM_SCRUB_PASSES_COUNT + 1) ++
    leBytes 4 (codewords - s.fld F.MEM_SCRUB_POS_CODEWORD))).setFld F.MEM_STATUS_SCRUB_LATE 1) 0x30 5

theorem scrubLateShown_spec : (scrubLateShown s).flag F.MEM_STATUS_SCRUB_LATE = true ∧ causeSet (scrubLateShown s) 0x30 5 = true ∧
    lastEvent (scrubLateShown s) 0x30 0x1208 ∧ SameMemory s (scrubLateShown s) ∧ (scrubLateShown s).mem = s.mem := by
  unfold scrubLateShown
  have hevent := lastEvent_event (s := s) 0x30 0 0x1208 2
    (leBytes 4 (s.fld F.MEM_SCRUB_PASSES_COUNT + 1) ++ leBytes 4 (codewords - s.fld F.MEM_SCRUB_POS_CODEWORD))
  have htouch := touches_event (x := s) (gs := []) 0x30 0 0x1208 2
    (leBytes 4 (s.fld F.MEM_SCRUB_PASSES_COUNT + 1) ++ leBytes 4 (codewords - s.fld F.MEM_SCRUB_POS_CODEWORD))
  generalize s.event 0x30 0 0x1208 2 _ = u at hevent htouch
  refine ⟨((onlyRegs_setCause (u.setFld F.MEM_STATUS_SCRUB_LATE 1) 0x30 5).flag (by decide)).trans (State.flag_setFld_one u rfl (by decide)),
    by rw [causeSet_setCause _ _ _ _ (by decide), beq_self_eq_true, Bool.or_true], lastEvent_setCause _ _ (lastEvent_of_log (t := u) rfl hevent),
    fun a => ((touches_setCause 0x30 5).ram (by decide) a).trans (htouch.ram (by decide) a), ?_⟩
  rw [setCause_mem]
  exact htouch.part .mem (by decide)

/-! ### The sweep of the SRAM (R603) -/

theorem sramCe_eq (region origin addr b syndrome : Nat) : sramCe s region origin addr b syndrome =
    if ceReported (s.count F.MEM_SRAM_CE_COUNT 1) region then
      ceShown (s.count F.MEM_SRAM_CE_COUNT 1) true region origin b addr syndrome 0x1202 1 (leBytes 1 region ++ leBytes 1 b ++ leBytes 4 addr) 2
    else s.count F.MEM_SRAM_CE_COUNT 1 := rfl

theorem sramCe_spec (region origin addr b syndrome : Nat) :
    (sramCe s region origin addr b syndrome).fld F.MEM_SRAM_CE_COUNT = satAdd 32 (s.fld F.MEM_SRAM_CE_COUNT) 1 ∧
      SameMemory s (sramCe s region origin addr b syndrome) ∧
      (ceReported s region = true → causeSet (sramCe s region origin addr b syndrome) 0x30 2 = true ∧
        lastEvent (sramCe s region origin addr b syndrome) 0x30 0x1202) := by
  have hcount := State.fld_count_self s F.MEM_SRAM_CE_COUNT 1 (by decide)
  have hrep : ceReported (s.count F.MEM_SRAM_CE_COUNT 1) region = ceReported s region :=
    ceReported_congr (s := s) (t := s.count F.MEM_SRAM_CE_COUNT 1) rfl rfl
      ((onlyRegs_setFld s F.MEM_SRAM_CE_COUNT _).fld (f := F.MEM_CE_CFG_EVT_S) (by decide)) region
  rw [sramCe_eq, hrep]
  have hsame : SameMemory s (s.count F.MEM_SRAM_CE_COUNT 1) := fun _ => rfl
  generalize s.count F.MEM_SRAM_CE_COUNT 1 = u at hcount hsame
  by_cases h : ceReported s region = true
  · rw [if_pos h]
    have honly := onlyRegs_ceShown (s := u) true region origin b addr syndrome 0x1202 1 (leBytes 1 region ++ leBytes 1 b ++ leBytes 4 addr) 2
    have htouch := touches_ceShown (s := u) true region origin b addr syndrome 0x1202 1 (leBytes 1 region ++ leBytes 1 b ++ leBytes 4 addr) 2
    obtain ⟨hcause, hevent, _⟩ := ceShown_spec (s := u) true region origin b addr syndrome 0x1202 1
      (leBytes 1 region ++ leBytes 1 b ++ leBytes 4 addr) 2 (by decide)
    exact ⟨(honly.fld (by decide)).trans hcount, hsame.trans (sameMemory_of_dram (htouch.part .dram (by decide))), fun _ => ⟨hcause, hevent⟩⟩
  · rw [if_neg h]
    exact ⟨hcount, hsame, fun h' => absurd h' h⟩

theorem sramUe_eq (region origin addr syndrome : Nat) : sramUe s region origin addr syndrome =
    ueShown (s.count F.MEM_SRAM_UE_COUNT 1) true region origin addr syndrome 0x81 addr 0x1203
      (leBytes 1 region ++ leBytes 1 origin ++ leBytes 4 addr) 3 := rfl

theorem sramUe_spec (region origin addr syndrome : Nat) :
    (sramUe s region origin addr syndrome).fld F.MEM_SRAM_UE_COUNT = satAdd 32 (s.fld F.MEM_SRAM_UE_COUNT) 1 ∧
      causeSet (sramUe s region origin addr syndrome) 0x30 3 = true ∧ causeSet (sramUe s region origin addr syndrome) 0x30 31 = true ∧
      lastEvent (sramUe s region origin addr syndrome) 0x30 0x1203 ∧ SameMemory s (sramUe s region origin addr syndrome) ∧
      (sramUe s region origin addr syndrome).dev = s.dev := by
  rw [sramUe_eq]
  have hcount := State.fld_count_self s F.MEM_SRAM_UE_COUNT 1 (by decide)
  have hpart := touches_count (x := s) F.MEM_SRAM_UE_COUNT 1
  generalize s.count F.MEM_SRAM_UE_COUNT 1 = u at hcount hpart
  have honly := onlyRegs_ueShown (s := u) true region origin addr syndrome 0x81 addr 0x1203 (leBytes 1 region ++ leBytes 1 origin ++ leBytes 4 addr) 3
  have htouch := touches_ueShown (s := u) true region origin addr syndrome 0x81 addr 0x1203 (leBytes 1 region ++ leBytes 1 origin ++ leBytes 4 addr) 3
  obtain ⟨hcause, herr, hevent⟩ := ueShown_spec (s := u) true region origin addr syndrome 0x81 addr 0x1203
    (leBytes 1 region ++ leBytes 1 origin ++ leBytes 4 addr) 3 (by decide)
  exact ⟨(honly.fld (f := F.MEM_SRAM_UE_COUNT) (by decide)).trans hcount, hcause, herr, hevent,
    sameMemory_of_dram ((htouch.part .dram (by decide)).trans (hpart.part .dram (by decide))),
    (htouch.part .dev (by decide)).trans (hpart.part .dev (by decide))⟩

/-- An engine that runs fails when its memory is lost. -/
theorem lostSram_engine {n : Fin 16} (h : s.engine n = .running) : (lostSram s (.engine n)).engine n = .failed ∧
    (lostSram s (.engine n)).log = s.log ∧ SameMemory s (lostSram s (.engine n)) := by
  have hset : lostSram s (.engine n) = s.setEngine n .failed := if_pos (by rw [h]; rfl)
  rw [hset]
  refine ⟨?_, rfl, fun _ => rfl⟩
  exact Tbl.get_put_self (fun _ => EngineState.stopped) s.dev.engines n EngineState.failed

/-! ### The records read (R65) -/

theorem readWide_out (src : Requester) (a : Nat) (ws : List Word) : (readWide s src a ws).out = s.out ++ [.readData src a (ws.headD 0#32)] :=
  congrArg (· ++ _) ((touches_latchShadow src a (ws.drop 1)).part .out (by decide))

/-- The oldest record taken, its words kept as the last ones read. -/
def recordTaken (s : State) (r : ErrRecord) (rest : List ErrRecord) : State :=
  { s with mem := { s.mem with
    errLog := rest, errLast := (((r.words rest.length).headD 0#32) &&& 0x7FFFFF80#32) :: (r.words rest.length).drop 1 } }

theorem errLogPop_spec (src : Requester) {r : ErrRecord} {rest : List ErrRecord} (h : s.mem.errLog = r :: rest) :
    (errLogPop s src).out = s.out ++ [.readData src A.MEM_ERR_LOG ((r.words rest.length).headD 0#32)] ∧
      (errLogPop s src).mem.errLog = (if src = .jtag then r :: rest else rest) ∧ OnlyRegs s (errLogPop s src) [] ∧
      SameMemory s (errLogPop s src) := by
  have hwords : errLogWords s = r.words rest.length := by rw [errLogWords, h]
  by_cases hj : src = .jtag
  · have hpop : errLogPop s src = readWide s src A.MEM_ERR_LOG (r.words rest.length) := by
      subst hj
      simp only [errLogPop, hwords, h]
    have htouch := touches_readWide (s := s) src A.MEM_ERR_LOG (r.words rest.length)
    rw [hpop, if_pos hj]
    exact ⟨readWide_out _ _ _, (congrArg (·.errLog) (htouch.part .mem (by decide))).trans h, fun a _ => htouch.reg a (by simp),
      fun a => htouch.ram (by decide) a⟩
  · have hpop : errLogPop s src = readWide (recordTaken s r rest) src A.MEM_ERR_LOG (r.words rest.length) := by
      simp only [errLogPop, hwords, h]
      cases src
      case jtag => exact absurd rfl hj
      all_goals rfl
    have htouch := touches_readWide (s := recordTaken s r rest) src A.MEM_ERR_LOG (r.words rest.length)
    rw [hpop, if_neg hj]
    exact ⟨readWide_out _ _ _, congrArg (·.errLog) (htouch.part .mem (by decide)), fun a _ => htouch.reg a (by simp),
      fun a => htouch.ram (by decide) a⟩

end

/-! ### The statement -/

/-- Settles O42: the scrubber, the errors that accesses meet, the sweep of the SRAM and the records of them. -/
theorem memoryErrorsAreCountedAndReported : Obligations.MemoryErrorsAreCountedAndReported := by
  unfold Obligations.MemoryErrorsAreCountedAndReported
  refine ⟨fun s desc hs => ⟨fun h => ?_, fun h => ?_⟩, fun s cw merge symbol syndrome bytes desc hs hr => ⟨?_, ?_, fun hreg => ?_⟩,
    fun s hs hrun hlate => ?_, fun s addr unit demand hs hunit hd => ⟨fun b syndrome => ?_, fun k syndrome hk => ?_, fun n syndrome hn he => ?_⟩,
    fun s src r rest hs hlog => ?_⟩
  · refine ⟨_, congrArg Host.Outcome.next ((if_pos hs).trans (scrubRead_clean _)), ?_⟩
    rw [if_neg (by omega)]
    exact ⟨scrubMoves_spec h, onlyRegs_setFld s F.MEM_SCRUB_POS_CODEWORD _, rfl⟩
  · refine ⟨_, congrArg Host.Outcome.next ((if_pos hs).trans (scrubRead_clean _)), ?_⟩
    rw [if_pos h]
    exact scrubEnds_spec
  · exact ⟨_, congrArg Host.Outcome.next (if_pos (by rw [hs, hr]; rfl)), dramCe_demand_spec cw symbol syndrome⟩
  · exact ⟨_, congrArg Host.Outcome.next (if_pos (by rw [hs, hr]; rfl)), miscorrected_spec cw symbol syndrome bytes⟩
  · have hne : ∀ m : Bool, (match CodewordRead.ue syndrome, m with
        | .ue _, true => 4
        | _, _ => 0) ≠ 1 := by
      intro m
      cases m <;> simp
    exact ⟨_, congrArg Host.Outcome.next (if_pos (by rw [hs, hr]; rfl)), codewordLost_record (hne merge) hreg syndrome _⟩
  · exact ⟨_, congrArg Host.Outcome.next (if_pos (by rw [hs, hrun, hlate]; rfl)), scrubLateShown_spec⟩
  · exact ⟨_, congrArg Host.Outcome.next (if_pos (by rw [hs, hunit, hd]; rfl)), sramCe_spec _ _ _ _ _⟩
  · subst hk
    obtain ⟨hcount, hcause, herr, hevent, hsame, _⟩ := sramUe_spec (s := s) (sramRegion (.keyEntry k)) (if demand then 0 else 2) addr.toNat syndrome.toNat
    exact ⟨_, congrArg Host.Outcome.next (if_pos (by rw [hs, hunit, hd]; rfl)), hcount, hcause, herr, hevent, hsame⟩
  · subst hn
    obtain ⟨_, _, _, hevent, hsame, hdev⟩ := sramUe_spec (s := s) (sramRegion (.engine n)) (if demand then 0 else 2) addr.toNat syndrome.toNat
    have hengine : (sramUe s (sramRegion (.engine n)) (if demand then 0 else 2) addr.toNat syndrome.toNat).engine n = .running := by
      rw [State.engine, hdev]
      exact he
    obtain ⟨hfailed, hlog, hmem⟩ := lostSram_engine hengine
    exact ⟨_, congrArg Host.Outcome.next (if_pos (by rw [hs, hunit, hd]; rfl)), hfailed, lastEvent_of_log hlog hevent, hsame.trans hmem⟩
  · exact ⟨_, congrArg Host.Outcome.next (gateRead_inOperation hs (by decide +kernel) src _), errLogPop_spec src hlog⟩

end Sys2Proof.Machine
end

section
/-!
PROOFS. What the mailboxes of nodes, the messages that the device generates and the ends of downlinks touch (09_mac_superframe.md,
11_cadastre_and_sessions.md, 12_node_update_distribution.md).
-/
namespace Sys2Proof.Machine

-- One proof after another: side by side, the threads of so long a text want more memory than the check grants.
set_option Elab.async false

/-- What the mailboxes of nodes and the ends of downlinks may touch. -/
def mailParts : List Area := [.regs, .dram, .out, .fresh, .host, .log, .fab, .tss, .ports, .rings, .mac, .cad, .upd]

/-- The pages in which they show: the fabric and the ports, MAC, CAD and UPD. -/
def mailPages : List Nat := [0x20, 0x24, 0x25, 0x1C, 0x1E, 0x1F]

section
variable {wake : Bool} {s : State}

/-! ### Parcels and route records in the DRAM -/

theorem touches_pSet (p o n v : Nat) : Touches [.dram] [] s (pSet s p o n v) := touches_ramStore _ _

theorem touches_pSetBits (p o lsb w v : Nat) : Touches [.dram] [] s (pSetBits s p o lsb w v) := touches_pSet _ _ _ _

theorem touches_pCount (p o n k : Nat) : Touches [.dram] [] s (pCount s p o n k) := touches_pSet _ _ _ _

theorem touches_putMbx (p i : Nat) (m : Mbx) : Touches [.dram] [] s (putMbx s p i m) := touches_pSet _ _ _ _

theorem touches_shiftMailbox (p i k : Nat) : Touches [.dram] [] s (shiftMailbox s p i k) := by
  induction k generalizing s i with
  | zero => exact Touches.refl s
  | succ k ih => exact (touches_putMbx p i _).trans (ih (i + 1))

theorem touches_routeCommit (i : Nat) : Touches [.dram] [] s (routeCommit s i) := (touches_ramStore _ _).trans (touches_ramStore _ _)

theorem touches_routeCount (q o : Nat) : Touches [.dram] [] s (routeCount s q o) :=
  Touches.ite (fun _ => Touches.refl s) (fun _ => (touches_ramStore _ _).trans (touches_routeCommit _))

theorem touches_countChildren (q : Nat) : Touches [.dram] [] s (countChildren s q) :=
  Touches.ite (fun _ => Touches.refl s) (fun _ => Touches.ite (fun _ => Touches.refl s)
    (fun _ => (touches_ramStore _ _).trans (touches_routeCommit _)))

theorem touches_putEntry (e w0 w1 : Nat) : Touches [.dram] [] s (putEntry s e w0 w1) := touches_ramStore _ _

theorem touches_writeEntries (es : List (Nat × Nat × Nat)) : Touches [.dram] [] s (writeEntries s es) :=
  Touches.foldl (fun _ e _ => touches_putEntry e.1 e.2.1 e.2.2) s

theorem touches_emptyEntry (e : Nat) : Touches [.dram, .mac] [] s (emptyEntry s e) :=
  Touches.then (x := s.ramStore (slotBase + 8 * e + 3) [0#8]) (touches_ramStore (gs := []) _ _).mono (touches_parts (gs := []) [.mac] rfl)

theorem touches_emptyNode (p : Nat) : Touches [.dram, .mac] [] s (emptyNode s p) := Touches.foldl (fun _ e _ => touches_emptyEntry e) s

theorem touches_emptyMcast (sid : Nat) (lane : Option Nat) : Touches [.dram, .mac] [] s (emptyMcast s sid lane) :=
  Touches.foldl (fun t e _ => Touches.ite (fun _ => touches_emptyEntry e) (fun _ => Touches.refl t)) s

/-! ### Cells taken -/

/-- What cells taken may touch. -/
def cellParts : List Area := .fresh :: fabricParts

theorem moves_takeCell {engine : Bool} {h : Nat} {t : State} (e : takeCell s engine = some (h, t)) : Moves wake cellParts fabricPages s t := by
  unfold takeCell at e
  split at e
  · cases e
    exact ((Moves.of (touches_drawNat s _)).then (moves_fab _)).then moves_bufLowCheck
  · split at e
    · cases e
      exact (Moves.of (touches_drawNat s _)).then (moves_fab _)
    · cases e

theorem moves_takeCells (engine : Bool) (n : Nat) : Moves wake cellParts fabricPages s (takeCells s engine n).2 := by
  induction n generalizing s with
  | zero => exact Moves.refl s
  | succ n ih =>
    unfold takeCells
    split
    · exact Moves.refl s
    · next h t e => exact (moves_takeCell e).trans ih

theorem touches_takeCells (engine : Bool) (n : Nat) : Touches cellParts fabricPages s (takeCells s engine n).2 :=
  (moves_takeCells (wake := false) engine n).touches

/-! ### Mailboxes -/

theorem touches_cad (v : Cad) : Touches [.cad] [] s { s with cad := v } := touches_parts [.cad] rfl

theorem touches_mac (v : Mac) : Touches [.mac] [] s { s with mac := v } := touches_parts [.mac] rfl

theorem touches_upd (v : Upd) : Touches [.upd] [] s { s with upd := v } := touches_parts [.upd] rfl

theorem touches_putDl (d : Dl) : Touches [.cad] [] s (putDl s d) := touches_cad _

theorem moves_enterMailbox {p : Nat} {m : Mbx} {d : Dl} {n : Nat} {t : State} (e : enterMailbox s p m d = some (n, t)) :
    Moves wake mailParts mailPages s t := by
  unfold enterMailbox at e
  simp only at e
  split at e
  · cases e
  · split at e
    · cases e
    · cases e
      exact (((moves_takeCells true _).mono.add (touches_cad _)).add (touches_putMbx p _ _)).add (touches_pSetBits p _ _ _ _)

theorem moves_enterHeld (p : Nat) : Moves wake mailParts mailPages s (enterHeld s p) := by
  unfold enterHeld
  split
  · exact Moves.refl s
  · split
    · exact Moves.refl s
    · next e => exact (moves_enterMailbox e).add (touches_cad _)

theorem moves_putMessage (p : Nat) (body : List Byte) : Moves wake mailParts mailPages s (putMessage s p body) := by
  unfold putMessage
  split
  · next e => exact moves_enterMailbox e
  · exact (Moves.of (touches_cad _))

theorem moves_leaveMailbox (p i : Nat) : Moves wake mailParts mailPages s (leaveMailbox s p i) := by
  have hmoved : ∀ u : State, Moves wake mailParts mailPages s u → Moves wake mailParts mailPages s
      (if i = 0 then pSetBits (pSet u p (mbxOff u p 0) 8 0) p 224 0 3 (mbxHead u p + 1)
        else pSet (shiftMailbox u p i (mbxCount s p - 1 - i)) p (mbxOff (shiftMailbox u p i (mbxCount s p - 1 - i)) p (mbxCount s p - 1)) 8 0) :=
    fun u hu => Moves.ite (fun _ => (hu.add (touches_pSet p _ _ _)).add (touches_pSetBits p _ _ _ _))
      (fun _ => (hu.add (touches_shiftMailbox p i _)).add (touches_pSet p _ _ _))
  unfold leaveMailbox
  simp only
  refine Moves.trans (Moves.add ?_ (touches_pSetBits p _ _ _ _)) (moves_enterHeld p)
  cases hd : dlOf s (mbxAt s p i).buf with
  | none => exact hmoved s (Moves.refl s)
  | some d => exact hmoved _ ((Moves.of (touches_cad _)).then (moves_freeCells _))

theorem touches_leaveMailbox (p i : Nat) : Touches mailParts mailPages s (leaveMailbox s p i) := (moves_leaveMailbox (wake := false) p i).touches

theorem moves_dropUnit (p : Nat) : Moves wake mailParts mailPages s (dropUnit s p) := by
  unfold dropUnit
  split
  · exact Moves.refl s
  · split
    · exact Moves.refl s
    · exact Moves.ite (fun _ => (Moves.of (touches_putDl _))) (fun _ => moves_leaveMailbox _ _)

theorem moves_placeRelay (p : Nat) : Moves wake mailParts mailPages s (placeRelay s p) := by
  unfold placeRelay
  refine Moves.ite (fun _ => Moves.refl s) (fun _ => ?_)
  simp only
  split
  · next e => exact moves_enterMailbox e
  · exact Moves.refl s

theorem moves_placeBehind (q : Nat) : Moves wake mailParts mailPages s (placeBehind s q) :=
  Moves.ite (fun _ => Moves.foldl (fun _ p _ => moves_placeRelay p) s) (fun _ => Moves.refl s)

theorem moves_placeNext (p : Nat) : Moves wake mailParts mailPages s (placeNext s p) :=
  Moves.ite (fun _ => ((moves_placeRelay p).trans (moves_placeBehind p)).trans (moves_placeBehind _))
    (fun _ => (moves_placeRelay p).trans (moves_placeBehind p))

theorem moves_genMessage (p : Nat) (body : List Byte) : Moves wake mailParts mailPages s (genMessage s p body) :=
  (moves_putMessage p body).trans (moves_placeRelay p)

/-! ### Sessions of update distribution -/

/-- The registers of a session's slot lie in UPD. -/
theorem session_page {k : Nat} (hk : k < 4) : (F.UPD_SESS_STATE_STATE k).addr / 0x1000 ∈ [0x1F] ∧
    (F.UPD_SESS_STATE_END_REASON k).addr / 0x1000 ∈ [0x1F] ∧ ∀ u, (sessCount k u).addr / 0x1000 ∈ [0x1F] := by
  refine ⟨by revert k; decide, by revert k; decide, fun u => ?_⟩
  unfold sessCount
  split <;> (revert k; decide)

/-- The session in which a parcel's report is pending is one of the four slots. -/
theorem pendingIn_sid {p : Nat} {x : Sess} (h : pendingIn s p = some x) : x.sid < 4 := by
  unfold pendingIn at h
  split at h
  · split at h
    · next y hy =>
      have hfound : (y.sid == uSid s p) = true := List.find?_some (p := fun z : Sess => z.sid == uSid s p) hy
      split at h
      · cases h
        rw [beq_iff_eq] at hfound
        rw [hfound]
        exact bitsOf_lt _ _ _
      · cases h
    · cases h
  · cases h

theorem moves_endSession {x : Sess} (hx : x.sid < 4) (reason cancel : Nat) : Moves wake mailParts mailPages s (endSession s x reason cancel) := by
  have hmessages : Moves wake mailParts mailPages s
      ((pendingOf s x).foldl (fun (t : State) p => genMessage t p (cancelBody x cancel)) (emptyMcast s x.sid none)) :=
    (Moves.of (touches_emptyMcast x.sid none)).trans (Moves.foldl (fun _ p _ => moves_genMessage p _) _)
  unfold endSession
  simp only
  generalize (pendingOf s x).foldl (fun (t : State) p => genMessage t p (cancelBody x cancel)) (emptyMcast s x.sid none) = u at hmessages
  exact (((((hmessages.add (touches_upd _)).add (touches_refreshSessions _)).add (touches_setFld_of _ 6 (session_page hx).1)).add
    (touches_setFld_of _ reason (session_page hx).2.1)).add (touches_event (gs := []) _ _ _ _ _)).add (touches_setCause 0x1F 3)

theorem touches_laneFinal (sid n : Nat) : Touches [.dram, .mac, .upd] [] s (laneFinal s sid n) :=
  (touches_emptyMcast sid (some n)).mono.then (touches_upd _)

theorem moves_afterFinal {x : Sess} (hx : x.sid < 4) (n : Nat) : Moves wake mailParts mailPages s (afterFinal s x n) := by
  have hlane : Moves wake mailParts mailPages s (if (pendingOf s x).any (fun p => pBits s p 92 0 2 == n) then s else laneFinal s x.sid n) :=
    Moves.ite (fun _ => Moves.refl s) (fun _ => (Moves.of (touches_laneFinal x.sid n)))
  unfold afterFinal
  exact Moves.ite (fun _ => hlane.trans (moves_endSession hx 1 0)) (fun _ => hlane)

theorem moves_setUstate (p u : Nat) : Moves wake mailParts mailPages s (setUstate s p u) := by
  unfold setUstate
  split
  · exact Moves.refl s
  · next x hx =>
    have hsid := pendingIn_sid hx
    simp only
    have hshown : ∀ v v', Moves wake mailParts mailPages s (pSetBits ((s.setFld (sessCount x.sid (uState s p)) v).setFld (sessCount x.sid u) v') p 250 0 3 u) :=
      fun v v' => ((Moves.of (touches_setFld_of _ v ((session_page hsid).2.2 _))).add (touches_setFld_of _ v' ((session_page hsid).2.2 _))).add
        (touches_pSetBits p _ _ _ _)
    refine Moves.ite (fun _ => hshown _ _) (fun _ => ?_)
    refine Moves.trans ?_ (moves_afterFinal hsid _)
    exact Moves.ite (fun _ => ((hshown _ _).add (touches_event (gs := []) _ _ _ _ _)).add (touches_setCause 0x1F 4))
      (fun _ => (hshown _ _).add (touches_event (gs := []) _ _ _ _ _))

/-! ### The end of a message and of a downlink -/

theorem touches_setAdaptState (p v : Nat) : Touches [.dram] [] s (setAdaptState s p v) := touches_pSetBits p _ _ _ _

theorem touches_adapted (p : Nat) : Touches [.dram] [] s (adapted s p) := (touches_pSet p _ _ _).trans (touches_pSet p _ _ _)

theorem moves_rateSet (p : Nat) (pwr : Int) (sf : Nat) : Moves wake mailParts mailPages s (rateSet s p pwr sf) :=
  (moves_genMessage p _).add (touches_setAdaptState p 2)

theorem touches_dropAssign (p : Nat) : Touches [.mac] [] s (dropAssign s p) := touches_mac _

theorem moves_messageEnds (p : Nat) (body : List Byte) (ok : Bool) : Moves wake mailParts mailPages s (messageEnds s p body ok) := by
  have hset : ∀ (x : State) o n v, Moves wake mailParts mailPages x (pSet x p o n v) := fun x o n v => (Moves.of (touches_pSet p o n v))
  have hadapt : ∀ (x : State) v, Moves wake mailParts mailPages x (setAdaptState x p v) := fun x v => (Moves.of (touches_setAdaptState p v))
  unfold messageEnds
  simp only
  split
  · refine Moves.trans (Moves.add ?_ (touches_adapted p)) (hadapt _ 0)
    exact Moves.ite (fun _ => hset s _ _ _) (fun _ => (hset s _ _ _).trans (hset _ _ _ _))
  · exact hadapt s 0
  · have hassigned : Moves wake mailParts mailPages s
        (dropAssign (writeEntries (if ((assignOf s p).getD []).isEmpty then s else emptyNode s p) ((assignOf s p).getD [])) p) := by
      refine Moves.add (Moves.add ?_ (touches_writeEntries _)) (touches_dropAssign p)
      exact Moves.ite (fun _ => Moves.refl s) (fun _ => (Moves.of (touches_emptyNode p)))
    generalize dropAssign (writeEntries (if ((assignOf s p).getD []).isEmpty then s else emptyNode s p) ((assignOf s p).getD [])) p = u at hassigned
    refine Moves.ite (fun _ => ?_) (fun _ => hassigned)
    have hdone := (hassigned.trans (hset u 121 1 (pGet u p 127 1))).add (touches_adapted p)
    exact Moves.ite (fun _ => (hdone.add (touches_cad _)).trans (moves_rateSet p _ _)) (fun _ => (hdone.add (touches_cad _)).trans (hadapt _ 0))
  · exact Moves.ite (fun _ => ((Moves.of (touches_dropAssign p)).add (touches_cad _)).trans (hadapt _ 0)) (fun _ => (Moves.of (touches_dropAssign p)))
  · exact (Moves.of (touches_emptyNode p)).add (touches_pSetBits p _ _ _ _)
  · exact Moves.ite (fun _ => Moves.refl s) (fun _ => Moves.ite (fun _ => moves_setUstate p 6) (fun _ => (Moves.of (touches_upd _))))
  · exact Moves.refl s

theorem touches_rememberEnded (p : Nat) (d : Dl) (status : Nat) : Touches [.cad] [] s (rememberEnded s p d status) := by
  unfold rememberEnded
  split
  · exact Touches.ite (fun _ => Touches.refl s) (fun _ => touches_cad _)
  · exact Touches.refl s

theorem touches_reportDl (m : Mbx) (d : Dl) (status : Nat) (acked : Bool) : Touches [.rings, .log] [] s (reportDl s m d status acked) := by
  unfold reportDl
  split
  · exact (touches_finish _ _ _).mono
  · exact (touches_event (gs := []) _ _ _ _ _).mono
  · exact Touches.refl s

theorem moves_dlClose (p i status : Nat) (acked : Bool) : Moves wake mailParts mailPages s (dlClose s p i status acked) := by
  unfold dlClose
  simp only
  split
  · exact moves_leaveMailbox p i
  · next d _ =>
    have hreport : Moves wake mailParts mailPages s (rememberEnded (reportDl s (mbxAt s p i) d status acked) p d status) :=
      (Moves.of (touches_reportDl _ d status acked)).add (touches_rememberEnded p d status)
    generalize rememberEnded (reportDl s (mbxAt s p i) d status acked) p d status = u at hreport
    have hcount : Moves wake mailParts mailPages s (if (mbxAt s p i).kind = 2 then u
        else if status = 0 then pCount (pSet u p 100 4 u.now.sec) p 240 4 1 else pCount (pSet u p 100 4 u.now.sec) p 244 2 1) :=
      Moves.ite (fun _ => hreport) (fun _ => Moves.ite (fun _ => (hreport.add (touches_pSet p _ _ _)).add (touches_pCount p _ _ _))
        (fun _ => (hreport.add (touches_pSet p _ _ _)).add (touches_pCount p _ _ _)))
    have hleave : Moves wake mailParts mailPages s (leaveMailbox (if acked then (if (mbxAt s p i).kind = 2 then u
        else if status = 0 then pCount (pSet u p 100 4 u.now.sec) p 240 4 1 else pCount (pSet u p 100 4 u.now.sec) p 244 2 1).count F.MAC_DL_ACKED_COUNT 1
        else (if (mbxAt s p i).kind = 2 then u
        else if status = 0 then pCount (pSet u p 100 4 u.now.sec) p 240 4 1 else pCount (pSet u p 100 4 u.now.sec) p 244 2 1)) p i) :=
      Moves.trans (Moves.ite (fun _ => hcount.add (touches_count F.MAC_DL_ACKED_COUNT 1)) (fun _ => hcount)) (moves_leaveMailbox p i)
    exact Moves.ite (fun _ => hleave.trans (moves_messageEnds p _ _)) (fun _ => hleave)

theorem moves_endAll (p status n : Nat) : Moves wake mailParts mailPages s (endAll s p status n).2 := by
  induction n generalizing s with
  | zero => exact Moves.refl s
  | succ n ih =>
    unfold endAll
    split
    · exact Moves.refl s
    · exact (moves_dlClose p 0 status false).trans ih

theorem moves_dropAll (p : Nat) : Moves wake mailParts mailPages s (dropAll s p).2 :=
  ((moves_dropUnit p).add (touches_cad _)).trans (moves_endAll p 0x50 16)

theorem touches_dropAll (p : Nat) : Touches mailParts mailPages s (dropAll s p).2 := (moves_dropAll (wake := false) p).touches

theorem moves_childrenLost (q fuel : Nat) : Moves wake mailParts mailPages s (childrenLost s q fuel) := by
  induction fuel generalizing s q with
  | zero => exact Moves.refl s
  | succ fuel ih =>
    refine Moves.foldl (fun t p _ => ?_) s
    have hunjoined : Moves wake mailParts mailPages t (pSetBits (pSetBits t p 8 3 1 0) p 9 0 2 0) :=
      (Moves.of (touches_pSetBits p _ _ _ _)).add (touches_pSetBits p _ _ _ _)
    exact (((((hunjoined.trans (moves_dropAll p)).add (touches_event (gs := []) _ _ _ _ _)).add (touches_setCause 0x1E 6))).add
      (touches_countChildren q)).trans (ih p)

theorem moves_dlShut (p i status : Nat) (acked : Bool) : Moves wake mailParts mailPages s (dlShut s p i status acked) := by
  have hclose : Moves wake mailParts mailPages s (dlClose (if i = 0 && pRelayed s p then dropUnit s p else s) p i status acked) :=
    Moves.trans (Moves.ite (fun _ => moves_dropUnit p) (fun _ => Moves.refl s)) (moves_dlClose p i status acked)
  unfold dlShut
  exact Moves.ite (fun _ => hclose.trans (moves_childrenLost p 5)) (fun _ => hclose)

theorem moves_dlEnds (p i status : Nat) (acked : Bool) : Moves wake mailParts mailPages s (dlEnds s p i status acked) :=
  (moves_dlShut p i status acked).trans (moves_placeNext p)

theorem moves_carriageEnds (q status : Nat) (acked : Bool) : Moves wake mailParts mailPages s (carriageEnds s q status acked) := by
  unfold carriageEnds
  split
  · exact Moves.refl s
  · exact Moves.ite (fun _ => Moves.ite (fun _ => moves_dlEnds _ _ _ _) (fun _ => moves_placeRelay _)) (fun _ => Moves.ite
      (fun _ => Moves.refl s) (fun _ => Moves.ite (fun _ => moves_dlEnds _ _ _ _) (fun _ => Moves.ite (fun _ => moves_dlEnds _ _ _ _)
        (fun _ => moves_placeRelay _))))

theorem moves_dlOutcome (p i status : Nat) (acked : Bool) : Moves wake mailParts mailPages s (dlOutcome s p i status acked) := by
  unfold dlOutcome
  refine Moves.trans ?_ (moves_placeNext p)
  split
  · exact (moves_dlShut p i status acked).trans (moves_carriageEnds _ _ _)
  · exact moves_dlShut p i status acked

theorem touches_dlOutcome (p i status : Nat) (acked : Bool) : Touches mailParts mailPages s (dlOutcome s p i status acked) :=
  (moves_dlOutcome (wake := false) p i status acked).touches

/-! ### Attempts (R348, R349) -/

theorem touches_editHead (p : Nat) (f : Mbx → Mbx) (g : Dl → Dl) : Touches [.dram, .cad] [] s (editHead s p f g) := by
  unfold editHead
  split
  · exact Touches.refl s
  · exact (touches_putDl _).mono.then (touches_putMbx p _ _)

theorem moves_attemptMade (p : Nat) (late : Bool) (start endAt n sf stepped : Nat) :
    Moves wake mailParts mailPages s (attemptMade s p late start endAt n sf stepped) := by
  unfold attemptMade
  simp only
  split
  · exact Moves.refl s
  · next m d _ =>
    have hcount : ∀ x : State, Moves wake mailParts mailPages x (x.count F.MAC_DL_ATTEMPTS_COUNT 1) := fun x => (Moves.of (touches_count F.MAC_DL_ATTEMPTS_COUNT 1))
    have hone : ∀ f g, Moves wake mailParts mailPages s (editHead (if m.kind = 2 then s else s.count F.MAC_DL_ATTEMPTS_COUNT 1) p f g) := fun f g =>
      Moves.add (Moves.ite (fun _ => Moves.refl s) (fun _ => hcount s)) (touches_editHead p f g)
    refine Moves.ite (fun _ => ?_) (fun _ => Moves.trans ?_ (Moves.foldl (fun t r _ => (Moves.of (touches_routeCount r 36))) _))
    · cases d.carries with
      | none => exact hone _ _
      | some q => exact ((hone _ _).trans (hcount _)).add (touches_editHead q _ _)
    · cases d.carries with
      | none => exact hone _ _
      | some q => exact ((hone _ _).trans (hcount _)).add (touches_editHead q _ _)

theorem touches_attemptMade (p : Nat) (late : Bool) (start endAt n sf stepped : Nat) :
    Touches mailParts mailPages s (attemptMade s p late start endAt n sf stepped) :=
  (moves_attemptMade (wake := false) p late start endAt n sf stepped).touches

theorem moves_attemptCut (p : Nat) : Moves wake mailParts mailPages s (attemptCut s p) := by
  unfold attemptCut
  split
  · exact Moves.refl s
  · exact Moves.ite (fun _ => (Moves.of (touches_putDl _)).trans (moves_dlOutcome p 0 0x40 false)) (fun _ => (Moves.of (touches_putDl _)).trans (moves_placeRelay p))

theorem moves_attemptEnds (p late : Nat) : Moves wake mailParts mailPages s (attemptEnds s p late) := by
  unfold attemptEnds
  split
  · exact Moves.refl s
  · exact Moves.ite (fun _ => Moves.ite (fun _ => moves_dlOutcome p 0 late false) (fun _ => Moves.refl s))
      (fun _ => Moves.ite (fun _ => moves_dlOutcome p 0 0x00 false) (fun _ => Moves.refl s))

theorem moves_attemptTxEnds (n : Nat) (t : Tx) (how : TxEnd) : Moves wake mailParts mailPages s (attemptTxEnds s n t how) := by
  unfold attemptTxEnds
  cases how with
  | withheld => exact Moves.refl s
  | cutEarly => exact Moves.refl s
  | refused => exact moves_dlOutcome _ _ _ _
  | late => exact (moves_attemptMade _ _ _ _ _ _ _).trans (moves_attemptEnds _ _)
  | blanked => exact (moves_attemptMade _ _ _ _ _ _ _).trans (moves_attemptEnds _ _)
  | cutLate => exact (moves_attemptMade _ _ _ _ _ _ _).trans (moves_attemptCut _)
  | sent => exact (moves_attemptMade _ _ _ _ _ _ _).trans (moves_attemptEnds _ _)

end

end Sys2Proof.Machine
end

section
/-!
PROOFS. What the admission of items to queues, the lanes' next state, and the ends of transmissions touch
(13_frame_fabric_and_queues.md, 06_radio_lanes.md, 09_mac_superframe.md, 10_regulatory_enforcement.md).
-/
namespace Sys2Proof.Machine

-- One proof after another: side by side, the threads of so long a text want more memory than the check grants.
set_option Elab.async false

/-! ### Items admitted to queues -/

/-- What an item admitted to a queue may touch. -/
def admitParts : List Area := [.regs, .fab, .tss, .ports, .host, .out, .log, .fresh]

/-- The pages in which it shows: the fabric, its shapers and policers, the ports. -/
def admitPages : List Nat := [0x20, 0x22, 0x24, 0x25]

section
variable {wake : Bool} {s : State}

theorem moves_refuse (q : Nat) (inject : Bool) : Moves wake fabricParts fabricPages s (refuse s q inject) := .of (touches_refuse s q inject)

theorem moves_closePending (q : Nat) : Moves wake fabricParts fabricPages s (closePending s q) := by
  unfold closePending
  split
  · exact Moves.refl s
  · exact (moves_setQueue q _).trans (moves_markLoss q _)

theorem moves_admitMark (q : Nat) (i : Item) : Moves wake fabricParts fabricPages s (admitMark s q i) :=
  Moves.ite (fun _ => Moves.refl s) (fun _ => moves_closePending q)

theorem moves_setPolicer (p : Nat) (v : Policer) : Moves wake fabricParts fabricPages s (s.setPolicer p v) := .sched _ rfl (by decide)

theorem moves_wakePort (q : Nat) : Moves true [.regs, .ports] [0x24, 0x25] s (wakePort s q) := by
  unfold wakePort
  split
  · next e _ =>
    by_cases he : e < 2
    · exact Moves.ite (fun _ => .leave he rfl (by decide) (by decide)) (fun _ => Moves.refl s)
    · rw [if_neg (by simp [he])]
      exact Moves.refl s
  · exact Moves.refl s

theorem touches_wakePort (q : Nat) : Touches [.regs, .ports] [0x24, 0x25] s (wakePort s q) := (moves_wakePort q).touches

theorem moves_commitItem (q : Nat) (i : Item) : Moves true fabricParts fabricPages s (commitItem s q i) := by
  unfold commitItem
  exact (((moves_putItems q _ _).trans (moves_setQueue q _)).then (moves_wakePort q)).add (touches_count F.FAB_ENQUEUED_COUNT 1)

theorem moves_discardItem (q : Nat) (i : Item) : Moves wake fabricParts fabricPages s (discardItem s q i) :=
  (moves_putItems q _ _).trans (moves_freeItem i)

/-- An item that the policer passes. -/
theorem moves_passed (q : Nat) (i : Item) : Moves true fabricParts fabricPages s (commitItem (closePending s q) q i) :=
  (moves_closePending q).trans (moves_commitItem q i)

/-- An item that the policer refuses. -/
theorem moves_policed (q : Nat) (i : Item) : Moves wake fabricParts fabricPages s (refuse (discardItem s q i) q false) :=
  (moves_discardItem q i).trans (moves_refuse q false)

/-- What the policer's verdict makes of an item. -/
def policeBy (s : State) (q : Nat) (i : Item) : Colour → Bool × State
  | .green => (true, commitItem (closePending s q) q i)
  | .yellow =>
    if (s.queue q).halfEmpty (s.queue q).frames.length (s.queue q).bytes then (true, commitItem (closePending s q) q i)
    else (false, refuse (discardItem s q i) q false)
  | .red => (false, (discardItem s q i).count F.TSS_POL_RED_TOTAL_COUNT 1)

theorem policeCommit_of_policed {q : Nat} {i : Item} (h : policed s q i = true) {r : Colour × Policer}
    (hr : (s.policer (bitsOf (s.queue q).sched.toNat 16 8)).colour (i.len + overhead s (i.src % 16)) = r) : policeCommit s q i =
      policeBy (s.setPolicer (bitsOf (s.queue q).sched.toNat 16 8) r.2) q i r.1 := by
  obtain ⟨c, v⟩ := r
  simp only [policeCommit, h, if_true, hr]
  cases c <;> simp only [policeBy]

theorem moves_policeBy (q : Nat) (i : Item) (c : Colour) : Moves true admitParts admitPages s (policeBy s q i c).2 := by
  cases c with
  | green => exact (moves_passed q i).mono
  | yellow =>
    by_cases hhalf : (s.queue q).halfEmpty (s.queue q).frames.length (s.queue q).bytes = true
    · rw [policeBy, if_pos hhalf]
      exact (moves_passed q i).mono
    · rw [policeBy, if_neg hhalf]
      exact (moves_policed q i).mono
  | red => exact (moves_discardItem q i).mono.add (touches_count F.TSS_POL_RED_TOTAL_COUNT 1)

theorem moves_policeCommit (q : Nat) (i : Item) : Moves true admitParts admitPages s (policeCommit s q i).2 := by
  by_cases h : policed s q i = true
  · rw [policeCommit_of_policed h rfl]
    exact (moves_setPolicer _ _).mono.trans (moves_policeBy q i _)
  · rw [policeCommit, if_neg h]
    exact (moves_commitItem q i).mono

theorem moves_takeDesc {b : Bool} {t : State} (e : takeDesc s = some (b, t)) : Moves wake admitParts admitPages s t := by
  unfold takeDesc at e
  split at e
  · cases e
    exact (moves_fab _).mono
  · split at e
    · cases e
      exact (moves_fab _).mono
    · cases e

theorem moves_enqueue (q : Nat) (i : Item) (engine : Bool) : Moves true admitParts admitPages s (enqueue s q i engine).2 := by
  unfold enqueue
  simp only
  split
  · exact (moves_refuse q _).mono
  · split
    · exact (moves_refuse q _).mono
    · next e =>
      have hcells := (moves_takeDesc (wake := true) e).then (moves_takeCells engine (ceilDiv i.bytes.length 256))
      split
      · exact (hcells.then (moves_freeItem _)).then (moves_refuse q _)
      · exact (hcells.then (moves_admitMark q _)).trans (moves_policeCommit q _)

theorem touches_enqueue (q : Nat) (i : Item) (engine : Bool) : Touches admitParts admitPages s (enqueue s q i engine).2 :=
  (moves_enqueue q i engine).touches

theorem touches_deliverUp (f : RxFrame) (gap : Nat) (newSession : Bool) : Touches admitParts admitPages s (deliverUp s f gap newSession) :=
  touches_enqueue _ _ true

theorem touches_oweAck (a : Owed) : Touches [.lanes] [] s (oweAck s a) := touches_setLane _ _

/-- A frame that waited for the bow takes effect. -/
theorem touches_releaseUp (h : HeldUp) : Touches (.lanes :: admitParts) admitPages s (releaseUp s h) := by
  have hup : Touches (.lanes :: admitParts) admitPages s
      (if fType h.frame.bytes = 1 && h.deliver then deliverUp s h.frame h.gap h.newSession else s) :=
    Touches.ite (fun _ => (touches_deliverUp _ _ _).mono) (fun _ => Touches.refl s)
  unfold releaseUp
  simp only
  split
  · exact hup.then (touches_oweAck _)
  · exact hup

end

/-! ### Accounts of the regulatory unit -/

section
variable {wake : Bool} {s : State}

theorem touches_setRadioShaper (n c : Nat) (v : Shaper) : Touches [.tss] [] s (setRadioShaper s n c v) := touches_parts [.tss] rfl

theorem touches_radioCharge (n c : Nat) (take : Bool) : Touches [.tss] [] s (radioCharge s n c take) :=
  Touches.ite (fun _ => touches_setRadioShaper n c _) (fun _ => Touches.refl s)

theorem touches_putSet (start : Nat) (x : AcctSet) : Touches [.rgl] [] s (putSet s start x) :=
  Touches.ite (fun _ => touches_parts [.rgl] rfl) (fun _ => touches_parts [.rgl] rfl)

theorem touches_refund (t : Tx) : Touches [.regs, .rgl] [0x1D] s (refund s t) :=
  (touches_putSet t.start _).mono.then (touches_count F.RGL_REFUNDS_COUNT 1)

theorem moves_giveBack (n : Nat) (t : Tx) : Moves wake [.regs, .rgl, .tss] [0x1D] s (giveBack s n t) := by
  have hrefund : Moves wake [.regs, .rgl, .tss] [0x1D] s (refund s t) := .of (touches_refund t)
  have hcharge : ∀ (v : State) c, Moves wake [.regs, .rgl, .tss] [0x1D] v (radioCharge v n c false) := fun v c =>
    Moves.ite (fun _ => .sched _ rfl (by decide)) (fun _ => Moves.refl v)
  unfold giveBack
  split
  · exact hrefund.trans (hcharge _ _)
  · exact hrefund

theorem touches_giveBack (n : Nat) (t : Tx) : Touches [.regs, .rgl, .tss] [0x1D] s (giveBack s n t) := (moves_giveBack (wake := false) n t).touches

/-- A fold that carries the state along with an account of its own. -/
theorem Touches.foldl_fst {α β : Type} {ps : List Area} {gs : List Nat} {g : State × β → α → State × β}
    (hg : ∀ acc e, Touches ps gs acc.1 (g acc e).1) (l : List α) (acc : State × β) : Touches ps gs acc.1 (l.foldl g acc).1 := by
  induction l generalizing acc with
  | nil => exact Touches.refl _
  | cons e l ih => exact (hg acc e).trans (ih _)

theorem touches_fitAll (x : AcctSet) (bcnMax : Nat) (cfg : Nat → Word) : Touches [.regs, .host, .out, .log] [0x1D] s (fitAll s x bcnMax cfg).1 := by
  unfold fitAll
  simp only
  apply Touches.foldl_fst (acc := (s, _))
  intro acc n
  split
  · exact Touches.refl _
  · split
    · exact Touches.refl _
    · exact Touches.trans (touches_event (gs := []) _ _ _ _ _).mono (touches_setCause 0x1D 1).mono

theorem touches_rebuildAccounts : Touches [.regs, .host, .out, .log, .rgl] [0x1D] s (rebuildAccounts s) := by
  have hfit : Touches [.regs, .host, .out, .log, .rgl] [0x1D] s (buildAccounts s s.rgl.cur.code s.rgl.cur.perLane (bcnCfg s)).1 :=
    (touches_fitAll _ _ _).mono
  unfold rebuildAccounts
  simp only
  generalize buildAccounts s s.rgl.cur.code s.rgl.cur.perLane (bcnCfg s) = r at hfit
  exact (hfit.then (touches_parts (gs := []) [.rgl] rfl)).then (touches_setFld F.RGL_STATUS_BCN_FIT _)

theorem touches_withheld (n : Nat) (t : Tx) (why k : Nat) : Touches [.regs, .host, .out, .log, .rgl] [0x1D] s (withheld s n t why k) := by
  have hcount : Touches [.regs, .host, .out, .log, .rgl] [0x1D] s (s.count F.RGL_WITHHELD_COUNT 1) := (touches_count F.RGL_WITHHELD_COUNT 1).mono
  unfold withheld
  simp only
  generalize s.count F.RGL_WITHHELD_COUNT 1 = u at hcount
  split
  · exact Touches.ite (fun _ => hcount.then (touches_setCause 0x1D 0))
      (fun _ => ((hcount.then (touches_setCause 0x1D 0)).then (touches_putSet _ _)).then (touches_event (gs := []) _ _ _ _ _))
  · exact hcount
  · exact hcount.then (touches_count F.RGL_NO_PROFILE_COUNT 1)
  · exact (hcount.then (touches_count F.RGL_OUT_OF_PROFILE_COUNT 1)).then (touches_setCause 0x1D 4)

end

/-! ### The ends of transmissions -/

/-- What the end of a transmission may touch. -/
def airParts : List Area := [.regs, .dram, .out, .fresh, .host, .log, .fab, .tss, .ports, .rings, .mac, .cad, .upd, .lanes, .rgl]

/-- The pages in which it shows: the lanes, and those of the mailboxes. -/
def endPages : List Nat :=
  [0x10, 0x11, 0x12, 0x13, 0x14, 0x15, 0x16, 0x17, 0x18, 0x19, 0x1A, 0x1B, 0x20, 0x24, 0x25, 0x1C, 0x1E, 0x1F]

/-- Those pages, and RGL, in which a transmission withdrawn shows too. -/
def airPages : List Nat :=
  [0x10, 0x11, 0x12, 0x13, 0x14, 0x15, 0x16, 0x17, 0x18, 0x19, 0x1A, 0x1B, 0x1D, 0x20, 0x24, 0x25, 0x1C, 0x1E, 0x1F]

section
variable {wake : Bool} {s : State} {n : Nat}

theorem moves_bcnSkip (why sfn : Nat) : Moves wake airParts endPages s (bcnSkip s n why sfn) :=
  ((Moves.of (touches_count F.MAC_BCN_SKIP_COUNT 1)).add (touches_event (gs := []) _ _ _ _ _)).add (touches_setCause 0x1C 2)

theorem moves_beaconEnds (t : Tx) (how : TxEnd) : Moves wake airParts endPages s (beaconEnds s n t how) := by
  unfold beaconEnds
  cases how with
  | withheld => exact moves_bcnSkip _ _
  | refused => exact moves_bcnSkip _ _
  | late => exact moves_bcnSkip _ _
  | blanked => exact moves_bcnSkip _ _
  | cutEarly => exact Moves.refl s
  | cutLate => exact Moves.refl s
  | sent => exact ((Moves.of (touches_count F.MAC_BCN_SENT_COUNT 1)).add (touches_setFld F.MAC_STATUS_BCN_ON _)).add (touches_mac _)

theorem touches_peerSent (t : Tx) : Touches [.lanes] [] s (peerSent s n t) := by
  unfold peerSent
  split
  · exact Touches.ite (fun _ => touches_setLane n _) (fun _ => Touches.refl s)
  · exact Touches.refl s

theorem touches_setTref (p ns stepped : Nat) : Touches [.mac, .dram] [] s (setTref s p ns stepped) :=
  ((touches_mac _).mono.then (touches_pSet p _ _ _)).then (touches_pSet p _ _ _)

/-- The head downlink of a frame's node, where the frame carries it. -/
def headAttempt (s : State) (n : Nat) (t : Tx) (how : TxEnd) : State :=
  if (match t.content with
    | .head _ => true
    | _ => false) then attemptTxEnds s n t how else s

theorem moves_headAttempt (t : Tx) (how : TxEnd) : Moves wake airParts endPages s (headAttempt s n t how) :=
  Moves.ite (fun _ => (moves_attemptTxEnds n t how).mono) (fun _ => Moves.refl s)

/-- What an acknowledgement sent leaves, after the downlink sent in its place. -/
def ackSent (u : State) (n : Nat) (t : Tx) : State :=
  let s := peerSent (u.count F.MAC_ACK_SENT_COUNT 1) n t
  match (s.lane n).occ with
  | some o => if (eType o.w0 = 0 || eType o.w0 = 2) && eOwner o.w1 = t.parcel then setTref s t.parcel t.start t.stepped else s
  | none => s

theorem moves_ackSent (t : Tx) : Moves wake airParts endPages s (ackSent s n t) := by
  have hpeer : Moves wake airParts endPages s (peerSent (s.count F.MAC_ACK_SENT_COUNT 1) n t) :=
    (Moves.of (touches_count F.MAC_ACK_SENT_COUNT 1)).add (touches_peerSent t)
  unfold ackSent
  simp only
  generalize peerSent (s.count F.MAC_ACK_SENT_COUNT 1) n t = v at hpeer
  split
  · exact Moves.ite (fun _ => hpeer.add (touches_setTref _ _ _)) (fun _ => hpeer)
  · exact hpeer

theorem moves_ackEnds (t : Tx) (how : TxEnd) : Moves wake airParts endPages s (ackEnds s n t how) := by
  have hform : ackEnds s n t how = (match how with
      | .withheld | .refused => (headAttempt s n t how).count F.MAC_ACK_DENIED_COUNT 1
      | .sent => ackSent (headAttempt s n t how) n t
      | _ => headAttempt s n t how) := by
    cases how <;> rfl
  have hhead := moves_headAttempt (wake := wake) (s := s) (n := n) t how
  rw [hform]
  generalize headAttempt s n t how = u at hhead
  cases how with
  | withheld => exact hhead.add (touches_count F.MAC_ACK_DENIED_COUNT 1)
  | refused => exact hhead.add (touches_count F.MAC_ACK_DENIED_COUNT 1)
  | sent => exact hhead.trans (moves_ackSent t)
  | late => exact hhead
  | blanked => exact hhead
  | cutEarly => exact hhead
  | cutLate => exact hhead

theorem touches_putWake (w : Wake) : Touches [.mac] [] s (putWake s n w) := touches_mac _

theorem moves_settle (hn : n < 4) : Moves wake airParts endPages s (settle s n) := .settle hn (by decide) (by decide)

theorem moves_receiveOn (hn : n < 4) (c : Nat) : Moves wake airParts endPages s (receiveOn s n c) := by
  have hwant : Moves wake airParts endPages s (s.setLane n { s.lane n with rxWant := some c }) := .of (touches_setLane n _)
  unfold receiveOn
  exact Moves.ite (fun _ => Moves.refl s) (fun _ => Moves.ite (fun _ => hwant) (fun _ => Moves.ite (fun _ => hwant.trans (moves_settle hn))
    (fun _ => Moves.ite (fun _ => hwant.trans (moves_settle hn)) (fun _ => hwant))))

theorem moves_listen (hn : n < 4) : Moves wake airParts endPages s (listen s n) :=
  Moves.ite (fun _ => moves_receiveOn hn _) (fun _ => Moves.refl s)

theorem moves_dropWake (hn : n < 4) : Moves wake airParts endPages s (dropWake s n) := (Moves.of (touches_mac _)).then (moves_listen hn)

theorem moves_wakeFollows (hn : n < 4) (p ns : Nat) : Moves wake airParts endPages s (wakeFollows s n p ns) := by
  unfold wakeFollows
  split
  · exact Moves.refl s
  · refine Moves.ite (fun _ => Moves.refl s) (fun _ => ?_)
    split
    · exact moves_dropWake hn
    · exact Moves.ite (fun _ => (Moves.of (touches_putWake _))) (fun _ => Moves.ite (fun _ => Moves.refl s) (fun _ => moves_dropWake hn))

/-- The exchange of a peer, and the wake exchange's FPEND, after a downlink. -/
def downlinkNoted (u : State) (n : Nat) (t : Tx) (how : TxEnd) : State :=
  let s := if how = .sent then peerSent u n t else u
  match wakeOf s n with
  | some w => if w.parcel == some t.parcel && w.stage = 3 then putWake s n { w with fpend := fFpend t.bytes } else s
  | none => s

theorem moves_downlinkNoted (t : Tx) (how : TxEnd) : Moves wake airParts endPages s (downlinkNoted s n t how) := by
  have hpeer : Moves wake airParts endPages s (if how = .sent then peerSent s n t else s) :=
    Moves.ite (fun _ => (Moves.of (touches_peerSent t))) (fun _ => Moves.refl s)
  unfold downlinkNoted
  simp only
  generalize (if how = .sent then peerSent s n t else s) = v at hpeer
  split
  · exact Moves.ite (fun _ => hpeer.add (touches_putWake _)) (fun _ => hpeer)
  · exact hpeer

theorem moves_downlinkEnds (hn : n < 4) (t : Tx) (how : TxEnd) : Moves wake airParts endPages s (downlinkEnds s n t how) :=
  Moves.trans (t := downlinkNoted (headAttempt s n t how) n t how) ((moves_headAttempt t how).trans (moves_downlinkNoted t how))
    (moves_wakeFollows hn _ _)

/-! ### Joins -/

theorem touches_dropJoin (p : Nat) : Touches [.mac] [] s (dropJoin s p) := touches_mac _

theorem touches_putJoin (j : Join) : Touches [.mac] [] s (putJoin s j) := touches_mac _

theorem moves_joinDefer (j : Join) : Moves wake airParts endPages s (joinDefer s j) :=
  Moves.add (Moves.ite (fun _ => (Moves.of (touches_putJoin _))) (fun _ => (Moves.of (touches_dropJoin _)))) (touches_count F.MAC_JOIN_DEFER_COUNT 1)

theorem moves_dropAssignMessages (p : Nat) : Moves wake mailParts mailPages s (dropAssignMessages s p) := by
  unfold dropAssignMessages
  refine Moves.trans (Moves.of (touches_cad _)) (Moves.foldl (fun t i _ => ?_) _)
  split
  · exact Moves.ite (fun _ => moves_leaveMailbox p i) (fun _ => Moves.refl t)
  · exact Moves.refl t

theorem touches_joinSettles (p : Nat) : Touches [.cad, .dram] [] s (joinSettles s p) :=
  Touches.ite (fun _ => (touches_cad _).mono.then (touches_setAdaptState p 0)) (fun _ => Touches.refl s)

theorem touches_joinStored (j : Join) : Touches [.dram] [] s (joinStored s j) :=
  (((((((touches_ramStore _ _).trans (touches_pSetBits _ _ _ _ _)).trans (touches_pSetBits _ _ _ _ _)).trans (touches_pSet _ _ _ _)).trans
    (touches_pSet _ _ _ _)).trans (touches_pSet _ _ _ _)).trans (touches_pSet _ _ _ _))

theorem moves_childClear (q p : Nat) : Moves wake mailParts mailPages s (childClear s q p) := moves_genMessage q _

theorem touches_setChain (q : Nat) (chain : List Nat) : Touches [.dram] [] s (setChain s q chain) :=
  Touches.ite (fun _ => Touches.refl s) (fun _ => ((touches_ramStore _ _).trans (touches_ramStore _ _)).trans (touches_routeCommit _))

/-- The node's new parent and the chains of the repeaters on its path. -/
def routeTaken (s : State) (p : Nat) (path : List Nat) : State :=
  (List.range path.length).foldl (fun (t : State) i => setChain t ((path.drop i).headD 0) (path.drop (i + 1)).reverse)
    (pSetBits (pSet s p 20 3 (path.headD 0 + 2 ^ 18 * bitsOf (pGet s p 20 4) 18 3)) p 8 3 1 1)

theorem moves_routeTaken (p : Nat) (path : List Nat) : Moves wake mailParts mailPages s (routeTaken s p path) :=
  Moves.trans ((Moves.of (touches_pSet p _ _ _)).add (touches_pSetBits p _ _ _ _)) (Moves.foldl (fun t i _ => (Moves.of (touches_setChain _ _))) _)

theorem moves_routeUpdate (p : Nat) (path : List Nat) : Moves wake mailParts mailPages s (routeUpdate s p path) := by
  have hform : routeUpdate s p path = if path = [] || (pRelayed s p && pathTo s p == path.reverse) then s else
      setCause ((countChildren (match (if pRelayed s p then some (pParent s p) else none) with
        | some q => if q = path.headD 0 then routeTaken s p path else countChildren (childClear (routeTaken s p path) q p) q
        | none => routeTaken s p path) (path.headD 0)).event 0x1E 0 0x0B04 1 (leBytes 4 p ++ leBytes 4 (path.headD 0))) 0x1E 5 := rfl
  have htaken := moves_routeTaken (wake := wake) (s := s) p path
  rw [hform]
  generalize routeTaken s p path = u at htaken
  refine Moves.ite (fun _ => Moves.refl s) (fun _ => ?_)
  refine Moves.add (Moves.add (Moves.add ?_ (touches_countChildren _)) (touches_event (gs := []) _ _ _ _ _)) (touches_setCause 0x1E 5)
  split
  · exact Moves.ite (fun _ => htaken) (fun _ => (htaken.trans (moves_childClear _ p)).add (touches_countChildren _))
  · exact htaken

theorem moves_joinTaken (j : Join) : Moves wake mailParts mailPages s (joinTaken s j) := by
  unfold joinTaken
  simp only
  have hleft : ∀ u : State, Moves wake mailParts mailPages u (emptyNode (dropAssignMessages (dropAssign (joinSettles u j.parcel) j.parcel) j.parcel) j.parcel) :=
    fun u => (((Moves.of (touches_joinSettles j.parcel)).add (touches_dropAssign j.parcel)).trans (moves_dropAssignMessages j.parcel)).add
      (touches_emptyNode j.parcel)
  have hstored : ∀ m, Moves wake mailParts mailPages s (emptyNode (dropAssignMessages (dropAssign (joinSettles { joinStored s j with mac := m } j.parcel)
      j.parcel) j.parcel) j.parcel) := fun m => ((Moves.of (touches_joinStored j)).add (touches_mac m)).trans (hleft _)
  exact Moves.ite (fun _ => (hstored _).add (touches_writeEntries _)) (fun _ => (hstored _).trans (moves_routeUpdate _ _))

theorem moves_joinSent (j : Join) : Moves wake airParts endPages s (joinSent s j) := by
  have hjoin : Moves wake airParts endPages s (if j.status != 0 then dropJoin s j.parcel else joinTaken (dropJoin s j.parcel) j) :=
    Moves.ite (fun _ => (Moves.of (touches_dropJoin _))) (fun _ => (Moves.of (touches_dropJoin _)).then (moves_joinTaken j))
  unfold joinSent
  exact (hjoin.add (touches_event (gs := []) _ _ _ _ _)).add (touches_setCause 0x1C 7)

theorem moves_joinEnds (t : Tx) (how : TxEnd) : Moves wake airParts endPages s (joinEnds s t how) := by
  unfold joinEnds
  split
  · exact Moves.refl s
  · exact Moves.ite (fun _ => moves_joinSent _) (fun _ => moves_joinDefer _)

theorem touches_joinEnds (t : Tx) (how : TxEnd) : Touches airParts endPages s (joinEnds s t how) := (moves_joinEnds (wake := false) t how).touches

/-! ### Wake telegrams -/

theorem moves_wakeFinish (hn : n < 4) (w : Wake) (status : Nat) (result : List Byte) : Moves wake airParts endPages s (wakeFinish s n w status result) := by
  have hfinish : Moves wake airParts endPages s (match w.cmd with
      | some id => finish s id status result
      | none => s) := by
    split
    · exact (Moves.of (touches_finish _ _ _))
    · exact Moves.refl s
  unfold wakeFinish
  exact Moves.ite (fun _ => hfinish.trans (moves_dropWake hn)) (fun _ => (hfinish.add (touches_putWake _)).then (moves_listen hn))

/-- An attempt of a wake exchange that came to nothing. -/
def wakeFailed (s : State) (n : Nat) (w : Wake) (status : Nat) : State :=
  match w.parcel with
  | some p =>
    if status = 0x50 then dlOutcome (dropWake s n) p 0 0x50 false
    else attemptEnds (attemptMade (dropWake s n) p true 0 0 n 0 0) p status
  | none => if status = 0x50 || w.retries < w.attempt then wakeFinish s n w status [] else putWake s n { w with stage := 0 }

theorem moves_wakeFailed (hn : n < 4) (w : Wake) (status : Nat) : Moves wake airParts endPages s (wakeFailed s n w status) := by
  unfold wakeFailed
  split
  · exact Moves.ite (fun _ => (moves_dropWake hn).then (moves_dlOutcome _ _ _ _))
      (fun _ => ((moves_dropWake hn).then (moves_attemptMade _ _ _ _ _ _ _)).then (moves_attemptEnds _ _))
  · exact Moves.ite (fun _ => moves_wakeFinish hn w status []) (fun _ => (Moves.of (touches_putWake _)))

/-- The lane listens for the answer of a wake exchange. -/
def wakeListens (s : State) (n : Nat) (w : Wake) : State := receiveOn (putWake s n { w with stage := 2 }) n (s.fld (F.MAC_WAKE_CFG_ANS_CH n))

theorem moves_wakeListens (hn : n < 4) (w : Wake) : Moves wake airParts endPages s (wakeListens s n w) :=
  (Moves.of (touches_putWake _)).then (moves_receiveOn hn _)

/-- A wake telegram sent. -/
def wakeSent (u : State) (n : Nat) (w : Wake) : State :=
  match w.expect, w.cmd with
  | true, _ => wakeListens u n w
  | false, some id =>
    if w.code = 0x80 then wakeListens (finish u id 0x00 []) n { w with cmd := none } else wakeFinish u n w 0x00 []
  | false, none => wakeFinish u n w 0x00 []

theorem moves_wakeSent (hn : n < 4) (w : Wake) : Moves wake airParts endPages s (wakeSent s n w) := by
  unfold wakeSent
  split
  · exact moves_wakeListens hn w
  · exact Moves.ite (fun _ => (Moves.of (touches_finish _ _ _)).trans (moves_wakeListens hn _)) (fun _ => moves_wakeFinish hn w _ _)
  · exact moves_wakeFinish hn w _ _

theorem moves_wakeEnds (hn : n < 4) (how : TxEnd) : Moves wake airParts endPages s (wakeEnds s n how) := by
  have hcount : Moves wake airParts endPages s (s.count F.MAC_WAKE_SENT_COUNT 1) := (Moves.of (touches_count F.MAC_WAKE_SENT_COUNT 1))
  unfold wakeEnds
  split
  · exact Moves.refl s
  · next w _ =>
    refine Moves.ite (fun _ => Moves.ite (fun _ => hcount) (fun _ => Moves.refl s)) (fun _ => ?_)
    cases how with
    | withheld => exact (Moves.of (touches_putWake _))
    | cutEarly => exact (Moves.of (touches_putWake _))
    | refused => exact moves_wakeFailed hn w 0x50
    | late => exact moves_wakeFailed hn w 0x20
    | blanked => exact moves_wakeFailed hn w 0x21
    | cutLate => exact Moves.ite (fun _ => (Moves.of (touches_putWake _))) (fun _ => moves_wakeFailed hn w 0x40)
    | sent => exact hcount.trans (moves_wakeSent hn w)

/-- The end of a transmission that is not a multicast frame sent. -/
theorem moves_txEnds (hn : n < 4) (t : Tx) {how : TxEnd} (h : how ≠ .sent ∨ t.kind ≤ 4) : Moves wake airParts endPages s (txEnds s n t how) := by
  unfold txEnds
  split
  · exact moves_beaconEnds t how
  · exact moves_ackEnds t how
  · exact moves_downlinkEnds hn t how
  · exact moves_joinEnds t how
  · exact moves_wakeEnds hn how
  · next h0 h1 h2 h3 h4 =>
    have hnot : how ≠ .sent := h.resolve_right (fun hk => by
      have : t.kind = 0 ∨ t.kind = 1 ∨ t.kind = 2 ∨ t.kind = 3 ∨ t.kind = 4 := by omega
      rcases this with e | e | e | e | e
      · exact h0 e
      · exact h1 e
      · exact h2 e
      · exact h3 e
      · exact h4 e)
    rw [if_neg hnot]
    exact (Moves.of (touches_count F.UPD_MC_WITHHELD_COUNT 1))

theorem touches_txEnds (hn : n < 4) (t : Tx) {how : TxEnd} (h : how ≠ .sent ∨ t.kind ≤ 4) : Touches airParts endPages s (txEnds s n t how) :=
  (moves_txEnds (wake := false) hn t h).touches

end

end Sys2Proof.Machine
end

section
/-!
PROOFS. Roles, the interlock and takeovers (19_stroke_and_bow_redundancy.md): the statement O44.
-/
namespace Sys2Proof.Machine

-- One proof after another: side by side, the threads of so long a text want more memory than the check grants.
set_option Elab.async false

/-! ### Roles (R645) -/

theorem onlyRegs_count (s : State) (f : Fld) (k : Nat) : OnlyRegs s (s.count f k) [f.addr] := onlyRegs_setFld s f _

theorem onlyRegs_event (s : State) (page sub code sev : Nat) (data : List Byte) : OnlyRegs s (s.event page sub code sev data) [] := fun _ _ => rfl

section
variable {s : State}

theorem setRole_role {new : Nat} (cause : Nat) (h : new < 4) : role (setRole s new cause) = new := by
  unfold setRole
  split
  · assumption
  · have hset := State.fld_setFld_self (s.event 0x31 0 0x1300 1 (leBytes 1 (role s) ++ leBytes 1 new ++ leBytes 1 cause)) F.RED_STATUS_ROLE new (by decide)
    refine ((onlyRegs_setCause _ 0x31 0).fld (f := F.RED_STATUS_ROLE) (by decide)).trans (hset.trans (Nat.mod_eq_of_lt h))

theorem onlyRegs_setRole (new cause : Nat) : OnlyRegs s (setRole s new cause) [A.RED_STATUS, 0x31010] := by
  unfold setRole
  split
  · exact fun _ _ => rfl
  · exact (onlyRegs_setFld (s.event 0x31 0 0x1300 1 (leBytes 1 (role s) ++ leBytes 1 new ++ leBytes 1 cause)) F.RED_STATUS_ROLE new).trans
      (onlyRegs_setCause _ 0x31 0)

/-- The other fields of STATUS stay as they are. -/
theorem setRole_fld (new cause : Nat) {f : Fld} (ha : f.addr = A.RED_STATUS) (hf : 2 ≤ f.lsb) : (setRole s new cause).fld f = s.fld f := by
  unfold setRole
  split
  · rfl
  · refine ((onlyRegs_setCause _ 0x31 0).fld (by rw [ha]; decide)).trans ?_
    exact State.fld_setFld_apart (s.event 0x31 0 0x1300 1 _) F.RED_STATUS_ROLE f new (by decide) (Or.inr (Or.inr hf))

theorem setRole_flag (new cause : Nat) {f : Fld} (ha : f.addr = A.RED_STATUS) (hf : 2 ≤ f.lsb) : (setRole s new cause).flag f = s.flag f := by
  rw [State.flag, setRole_fld new cause ha hf, State.flag]

theorem setRole_changes {new : Nat} (cause : Nat) (h : role s ≠ new) : causeSet (setRole s new cause) 0x31 0 = true ∧
    lastEvent (setRole s new cause) 0x31 0x1300 := by
  rw [setRole, if_neg h]
  refine ⟨by rw [causeSet_setCause _ _ _ _ (by decide), beq_self_eq_true, Bool.or_true], lastEvent_setCause _ _ ?_⟩
  exact lastEvent_of_log (t := s.event 0x31 0 0x1300 1 (leBytes 1 (role s) ++ leBytes 1 new ++ leBytes 1 cause)) rfl (lastEvent_event _ _ _ _ _)

theorem setRole_red (new cause : Nat) : (setRole s new cause).red = s.red := (touches_setRole new cause).part .red (by decide)

/-! ### A takeover that fails (R643) -/

/-- The role of BOW again, with the trigger and the reason of the takeover that failed. -/
def tkoLeft (s : State) (trigger reason : Nat) : State :=
  ((setRole (s.setRed { s.red with takeover := none }) 2 2).setFld F.RED_LAST_TKO_TRIGGER trigger).setFld F.RED_LAST_TKO_RESULT reason

theorem onlyRegs_tkoLeft (trigger reason : Nat) : OnlyRegs s (tkoLeft s trigger reason) [A.RED_STATUS, 0x31010, A.RED_LAST_TKO] := by
  have hrole := onlyRegs_setRole (s := s.setRed { s.red with takeover := none }) 2 2
  exact ((hrole.trans (onlyRegs_setFld _ F.RED_LAST_TKO_TRIGGER trigger)).trans (onlyRegs_setFld _ F.RED_LAST_TKO_RESULT reason)).mono (by decide)

/-- The failure counted, with its event and its cause. -/
def tkoTold (u : State) (trigger reason : Nat) : State :=
  setCause ((u.count F.RED_TKO_FAILS_COUNT 1).event 0x31 0 0x1303 4 (leBytes 1 trigger ++ leBytes 1 reason)) 0x31 3

theorem onlyRegs_tkoTold (trigger reason : Nat) : OnlyRegs s (tkoTold s trigger reason) [A.RED_TKO_FAILS, 0x31010] :=
  OnlyRegs.trans ((onlyRegs_count s F.RED_TKO_FAILS_COUNT 1).trans (onlyRegs_event _ 0x31 0 0x1303 4 (leBytes 1 trigger ++ leBytes 1 reason)))
    (onlyRegs_setCause _ 0x31 3)

theorem tkoFails_eq (trigger reason : Nat) : tkoFails s trigger reason =
    tkoTold (tkoLeft s trigger reason) trigger reason := rfl

theorem onlyRegs_tkoFails (trigger reason : Nat) :
    OnlyRegs s (tkoFails s trigger reason) [A.RED_STATUS, 0x31010, A.RED_LAST_TKO, A.RED_TKO_FAILS] := by
  have h := (onlyRegs_tkoLeft (s := s) trigger reason).trans (onlyRegs_tkoTold (s := tkoLeft s trigger reason) trigger reason)
  rw [tkoFails_eq]
  exact h.mono (by decide)

/-- The registers that the end of a failed takeover writes after the role. -/
theorem onlyRegs_tkoFails_after (trigger reason : Nat) :
    OnlyRegs (setRole (s.setRed { s.red with takeover := none }) 2 2) (tkoFails s trigger reason) [A.RED_LAST_TKO, A.RED_TKO_FAILS, 0x31010] := by
  have hset : ∀ u : State, OnlyRegs u ((u.setFld F.RED_LAST_TKO_TRIGGER trigger).setFld F.RED_LAST_TKO_RESULT reason) [A.RED_LAST_TKO] := fun u =>
    ((onlyRegs_setFld u F.RED_LAST_TKO_TRIGGER trigger).trans (onlyRegs_setFld _ F.RED_LAST_TKO_RESULT reason)).mono (by decide)
  have h := (hset (setRole (s.setRed { s.red with takeover := none }) 2 2)).trans (onlyRegs_tkoTold (s := tkoLeft s trigger reason) trigger reason)
  rw [tkoFails_eq]
  exact h.mono (by decide)

theorem tkoFails_role (trigger reason : Nat) : role (tkoFails s trigger reason) = 2 :=
  ((onlyRegs_tkoFails_after trigger reason).fld (f := F.RED_STATUS_ROLE) (by decide)).trans (setRole_role 2 (by decide))

theorem tkoFails_flag (trigger reason : Nat) {f : Fld} (ha : f.addr = A.RED_STATUS) (hf : 2 ≤ f.lsb) :
    (tkoFails s trigger reason).flag f = s.flag f :=
  ((onlyRegs_tkoFails_after trigger reason).flag (by rw [ha]; decide)).trans (setRole_flag (s := s.setRed { s.red with takeover := none }) 2 2 ha hf)

theorem tkoFails_red (trigger reason : Nat) : (tkoFails s trigger reason).red = { s.red with takeover := none } := by
  have hrole := setRole_red (s := s.setRed { s.red with takeover := none }) 2 2
  rw [tkoFails_eq, tkoTold, setCause_red]
  exact hrole

theorem tkoFails_bus (trigger reason : Nat) : (tkoFails s trigger reason).bus = s.bus := (touches_tkoFails trigger reason).part .bus (by decide)

theorem tkoFails_result (trigger : Nat) {reason : Nat} (hr : reason < 256) :
    (tkoFails s trigger reason).fld F.RED_TKO_FAILS_COUNT = satAdd 32 (s.fld F.RED_TKO_FAILS_COUNT) 1 ∧
      (tkoFails s trigger reason).fld F.RED_LAST_TKO_RESULT = reason ∧
      causeSet (tkoFails s trigger reason) 0x31 3 = true ∧ lastEvent (tkoFails s trigger reason) 0x31 0x1303 := by
  have hleft := onlyRegs_tkoLeft (s := s) trigger reason
  have hreason : (tkoLeft s trigger reason).fld F.RED_LAST_TKO_RESULT = reason :=
    (State.fld_setFld_self _ F.RED_LAST_TKO_RESULT reason (by decide)).trans (Nat.mod_eq_of_lt hr)
  have hfails : (tkoLeft s trigger reason).fld F.RED_TKO_FAILS_COUNT = s.fld F.RED_TKO_FAILS_COUNT := hleft.fld (by decide)
  rw [tkoFails_eq]
  generalize tkoLeft s trigger reason = u at hreason hfails
  have htold := onlyRegs_tkoTold (s := u) trigger reason
  refine ⟨?_, (htold.fld (by decide)).trans hreason,
    by rw [tkoTold, causeSet_setCause _ _ _ _ (by decide), beq_self_eq_true, Bool.or_true], lastEvent_setCause _ _ (lastEvent_event _ _ _ _ _)⟩
  rw [← hfails, tkoTold]
  have hcause := onlyRegs_setCause ((u.count F.RED_TKO_FAILS_COUNT 1).event 0x31 0 0x1303 4 (leBytes 1 trigger ++ leBytes 1 reason)) 0x31 3
  have hevent := onlyRegs_event (u.count F.RED_TKO_FAILS_COUNT 1) 0x31 0 0x1303 4 (leBytes 1 trigger ++ leBytes 1 reason)
  exact ((hcause.fld (by decide)).trans (hevent.fld (by decide))).trans (State.fld_count_self u F.RED_TKO_FAILS_COUNT 1 (by decide))

theorem tkoFails_spec {trigger reason : Nat} (ht : trigger < 256) (hr : reason < 256) :
    (tkoFails s trigger reason).fld F.RED_TKO_FAILS_COUNT = satAdd 32 (s.fld F.RED_TKO_FAILS_COUNT) 1 ∧
      (tkoFails s trigger reason).fld F.RED_LAST_TKO_TRIGGER = trigger ∧ (tkoFails s trigger reason).fld F.RED_LAST_TKO_RESULT = reason ∧
      causeSet (tkoFails s trigger reason) 0x31 3 = true ∧ lastEvent (tkoFails s trigger reason) 0x31 0x1303 := by
  obtain ⟨hcount, hresult, hcause, hevent⟩ := tkoFails_result (s := s) trigger hr
  have htrigger : (tkoLeft s trigger reason).fld F.RED_LAST_TKO_TRIGGER = trigger :=
    (State.fld_setFld_apart _ F.RED_LAST_TKO_RESULT F.RED_LAST_TKO_TRIGGER reason (by decide) (by decide)).trans
      ((State.fld_setFld_self _ F.RED_LAST_TKO_TRIGGER trigger (by decide)).trans (Nat.mod_eq_of_lt ht))
  have htold := (onlyRegs_tkoTold (s := tkoLeft s trigger reason) trigger reason).fld (f := F.RED_LAST_TKO_TRIGGER) (by decide)
  exact ⟨hcount, (by rw [tkoFails_eq, htold, htrigger]), hresult, hcause, hevent⟩

/-! ### Triggers (R639) -/

theorem tkoTrigger_fresh {trigger upTo : Nat} (hready : s.ready = true) (hrole : role s = 2) (hnone : s.red.takeover = none)
    (hfresh : s.flag F.RED_STATUS_FRESH = true) (hpaired : s.red.wasPaired = true) : tkoTrigger s trigger upTo =
      s.setRed { s.red with takeover := some { trigger := trigger, since := s.dev.upCycles, upTo := upTo, started := false } } := by
  simp [tkoTrigger, hready, hrole, hnone, hfresh, hpaired]

theorem tkoTrigger_stale {trigger upTo : Nat} (hready : s.ready = true) (hrole : role s = 2) (hnone : s.red.takeover = none)
    (hfresh : s.flag F.RED_STATUS_FRESH = false) : tkoTrigger s trigger upTo = tkoFails s trigger 1 := by
  simp [tkoTrigger, hready, hrole, hnone, hfresh]

theorem tkoTrigger_elsewhere {trigger upTo : Nat} (hrole : role s ≠ 2) : tkoTrigger s trigger upTo = s := by
  simp [tkoTrigger, hrole]

/-! ### FORCE_TKO -/

theorem forceEnds_idle (h : s.flag F.RED_CTRL_FORCE_TKO = false) : forceEnds s = s := by
  rw [forceEnds, if_neg (by rw [h]; decide)]

/-- FORCE_TKO is cleared where no further one waits. -/
theorem forceEnds_done (h : s.bus.goPending.contains (A.RED_CTRL * 32 + 8) = false) :
    forceEnds s = s ∨ forceEnds s = s.setReg A.RED_CTRL (s.reg A.RED_CTRL &&& ~~~(BitVec.ofNat 32 (2 ^ 8))) := by
  by_cases hf : s.flag F.RED_CTRL_FORCE_TKO = true
  · right
    have hgo : endGo s A.RED_CTRL 8 = (s.setReg A.RED_CTRL (s.reg A.RED_CTRL &&& ~~~(BitVec.ofNat 32 (2 ^ 8))), false) := by
      rw [endGo, h, if_neg Bool.false_ne_true]
    rw [forceEnds, if_pos hf, hgo]
    rfl
  · exact Or.inl (forceEnds_idle (by simpa using hf))

/-- Where no FORCE_TKO waits or none is in progress, its end changes CTRL alone. -/
theorem forceEnds_quiet (h : s.flag F.RED_CTRL_FORCE_TKO = false ∨ s.bus.goPending.contains (A.RED_CTRL * 32 + 8) = false) :
    OnlyRegs s (forceEnds s) [A.RED_CTRL] ∧ (forceEnds s).red = s.red ∧ (forceEnds s).log = s.log ∧ SameMemory s (forceEnds s) := by
  have hsame : ∀ t, forceEnds s = t → t = s ∨ t = s.setReg A.RED_CTRL (s.reg A.RED_CTRL &&& ~~~(BitVec.ofNat 32 (2 ^ 8))) →
      OnlyRegs s t [A.RED_CTRL] ∧ t.red = s.red ∧ t.log = s.log ∧ SameMemory s t := by
    rintro t - (rfl | rfl)
    · exact ⟨fun _ _ => rfl, rfl, rfl, fun _ => rfl⟩
    · exact ⟨onlyRegs_setReg s A.RED_CTRL _, rfl, rfl, fun _ => rfl⟩
  rcases h with h | h
  · exact hsame _ rfl (Or.inl (forceEnds_idle h))
  · exact hsame _ rfl (forceEnds_done h)

/-- The FORCE_TKO that waits starts at once on a bow that may take over. -/
theorem forceEnds_again (hf : s.flag F.RED_CTRL_FORCE_TKO = true) (hp : s.bus.goPending.contains (A.RED_CTRL * 32 + 8) = true)
    (hready : s.ready = true) (hrole : role s = 2) (hnone : s.red.takeover = none) (hfresh : s.flag F.RED_STATUS_FRESH = true)
    (hpaired : s.red.wasPaired = true) :
    forceEnds s = ({ s with bus := { s.bus with goPending := s.bus.goPending.filter (· != A.RED_CTRL * 32 + 8) } } : State).setRed
      { s.red with takeover := some { trigger := 4, since := s.dev.upCycles, upTo := 0, started := false } } := by
  have hgo : endGo s A.RED_CTRL 8 = ({ s with bus := { s.bus with goPending := s.bus.goPending.filter (· != A.RED_CTRL * 32 + 8) } }, true) := by
    rw [endGo, hp, if_pos rfl]
  have htrigger := tkoTrigger_fresh (s := { s with bus := { s.bus with goPending := s.bus.goPending.filter (· != A.RED_CTRL * 32 + 8) } })
    (trigger := 4) (upTo := 0) hready hrole hnone hfresh hpaired
  rw [forceEnds, if_pos hf, hgo]
  simp only [Bool.not_true, Bool.false_eq_true, if_false, htrigger]
  rfl

end

/-! ### The gate (R627, R629) -/

section
variable {s t u : State}

/-- What closing the gate leaves of RED: its state, and its registers but the count of aborts. -/
structure GateKept (s t : State) : Prop where
  moves : Moves false airParts (0x31 :: airPages) s t
  red : ∀ a, a / 0x1000 = 0x31 → a ≠ A.RED_ILK_ABORTS → t.reg a = s.reg a

theorem GateKept.touches (h : GateKept s t) : Touches airParts (0x31 :: airPages) s t := h.moves.touches

theorem GateKept.refl (s : State) : GateKept s s := ⟨Moves.refl s, fun _ _ _ => rfl⟩

theorem GateKept.trans (h : GateKept s t) (h' : GateKept t u) : GateKept s u :=
  ⟨h.moves.trans h'.moves, fun a hp ha => (h'.red a hp ha).trans (h.red a hp ha)⟩

/-- What touches no register of RED. -/
theorem GateKept.of (h : Moves false airParts airPages s t) : GateKept s t :=
  ⟨h.mono (List.Subset.refl _) (List.subset_cons_self _ _), fun a hp _ => h.touches.reg a (by rw [hp]; decide)⟩

theorem gateKept_abortCounted : GateKept s (s.count F.RED_ILK_ABORTS_COUNT 1) :=
  ⟨.of (touches_count F.RED_ILK_ABORTS_COUNT 1), fun a _ ha => onlyRegs_count s F.RED_ILK_ABORTS_COUNT 1 a (by simpa using ha)⟩

theorem gateKept_gateAbort {n : Nat} (hn : n < 4) (x : Tx) (radiated : Bool) : GateKept s (gateAbort s n x radiated) := by
  have hcause : ∀ v : State, GateKept v (setCause v (0x10 + n) 7) := fun v => GateKept.of (.cause 7 hn (by decide) (by decide))
  have hcut : ∀ v : State, Moves false airParts airPages v (if radiated then v.send (.cut n x.channel) else giveBack v n x) := fun v =>
    Moves.ite (fun _ => .of (touches_send (gs := []) _)) (fun _ => (moves_giveBack n x).mono)
  have hends : ∀ v : State, Moves false airParts airPages v (settle (txEnds (swapTx v n x none) n x (if radiated then .cutLate else .cutEarly)) n) :=
    fun v => ((Moves.of (touches_swapTx x none)).then (moves_txEnds hn x (Or.inl (by split <;> simp)))).then (moves_settle hn)
  exact (gateKept_abortCounted.trans (hcause _)).trans (GateKept.of ((hcut _).trans (hends _)))

theorem gateKept_foldl {g : State → Nat → State} {l : List Nat} (hg : ∀ v, ∀ n ∈ l, GateKept v (g v n)) (s : State) : GateKept s (l.foldl g s) := by
  induction l generalizing s with
  | nil => exact GateKept.refl s
  | cons n l ih => exact (hg s n (List.mem_cons_self ..)).trans (ih (fun v m hm => hg v m (List.mem_cons_of_mem _ hm)) _)

theorem gateKept_gateCheck : GateKept s (gateCheck s) := by
  unfold gateCheck
  split
  · exact GateKept.refl s
  · refine gateKept_foldl (fun v n hn => ?_) s
    split
    · exact gateKept_gateAbort (List.mem_range.1 hn) _ _
    · exact GateKept.refl v

theorem GateKept.fld (h : GateKept s t) {f : Fld} (hp : f.addr / 0x1000 = 0x31) (ha : f.addr ≠ A.RED_ILK_ABORTS) : t.fld f = s.fld f :=
  State.fld_congr (h.red _ hp ha)

theorem GateKept.flag (h : GateKept s t) {f : Fld} (hp : f.addr / 0x1000 = 0x31) (ha : f.addr ≠ A.RED_ILK_ABORTS) : t.flag f = s.flag f := by
  rw [State.flag, h.fld hp ha, State.flag]

theorem GateKept.redPart (h : GateKept s t) : t.red = s.red := h.touches.part .red (by decide)

/-! ### The level of the interlock (R627, R628) -/

/-- A conflict leaves STATUS and the time of the last change. -/
theorem conflictCheck_kept : (conflictCheck s).reg A.RED_STATUS = s.reg A.RED_STATUS ∧ (conflictCheck s).red.ilkSince = s.red.ilkSince := by
  unfold conflictCheck
  split
  · have hdraw := touches_drawNat s 91
    have hcount := onlyRegs_count ((drawNat s 91).2.setRed { (drawNat s 91).2.red with backoff := true }) F.RED_ILK_CONFLICTS_COUNT 1
    have hgate := gateKept_gateCheck (s := setCause (State.event (((drawNat s 91).2.setRed { (drawNat s 91).2.red with backoff := true }).count
      F.RED_ILK_CONFLICTS_COUNT 1) 0x31 0 0x1305 2 (leBytes 1 (10 + (drawNat s 91).1))) 0x31 4)
    constructor
    · refine (hgate.red A.RED_STATUS (by decide) (by decide)).trans ?_
      refine (onlyRegs_setCause _ 0x31 4 A.RED_STATUS (by decide)).trans ?_
      refine (onlyRegs_event _ 0x31 0 0x1305 2 _ A.RED_STATUS (by decide)).trans ?_
      exact (hcount A.RED_STATUS (by decide)).trans (hdraw.reg A.RED_STATUS (by decide))
    · have hred : (drawNat s 91).2.red = s.red := hdraw.part .red (by decide)
      refine (congrArg Red.ilkSince hgate.redPart).trans ?_
      rw [setCause_red]
      show (drawNat s 91).2.red.ilkSince = _
      rw [hred]
  · exact ⟨rfl, rfl⟩

theorem ilkInChange_spec (active : Bool) : (ilkInChange s active).flag F.RED_STATUS_ILK_IN = active ∧
    (ilkInChange s active).red.ilkSince = s.dev.upCycles := by
  obtain ⟨hstatus, hsince⟩ := conflictCheck_kept (s := gateCheck ((s.setFld F.RED_STATUS_ILK_IN (b01 active)).setRed
    { (s.setFld F.RED_STATUS_ILK_IN (b01 active)).red with ilkSince := (s.setFld F.RED_STATUS_ILK_IN (b01 active)).dev.upCycles }))
  have hgate := gateKept_gateCheck (s := (s.setFld F.RED_STATUS_ILK_IN (b01 active)).setRed
    { (s.setFld F.RED_STATUS_ILK_IN (b01 active)).red with ilkSince := (s.setFld F.RED_STATUS_ILK_IN (b01 active)).dev.upCycles })
  refine ⟨?_, hsince.trans (congrArg Red.ilkSince hgate.redPart)⟩
  have hflag : (ilkInChange s active).flag F.RED_STATUS_ILK_IN = (s.setFld F.RED_STATUS_ILK_IN (b01 active)).flag F.RED_STATUS_ILK_IN := by
    rw [State.flag, State.fld, ilkInChange, hstatus]
    exact hgate.flag (f := F.RED_STATUS_ILK_IN) (by decide) (by decide)
  rw [hflag]
  cases active with
  | true => exact State.flag_setFld_one s rfl (by decide)
  | false => exact State.flag_setFld_zero s (by decide)

/-- A claim given up: BOW where ILK_IN is active. -/
theorem backoffEnd_spec (hs : pairs s = true) (hb : s.red.backoff = true) : ∃ t, exec .ilkConflictBackoffEnd s = .next t ∧ t.red.backoff = false ∧
    role t = (if s.flag F.RED_STATUS_ILK_IN then 2 else role s) := by
  have hexec : exec .ilkConflictBackoffEnd s = .next (if s.flag F.RED_STATUS_ILK_IN then
      gateCheck (setRole (s.setRed { s.red with backoff := false }) 2 4) else s.setRed { s.red with backoff := false }) :=
    congrArg Host.Outcome.next (if_pos (by rw [hs, hb]; rfl))
  refine ⟨_, hexec, ?_⟩
  by_cases hi : s.flag F.RED_STATUS_ILK_IN = true
  · rw [if_pos hi, if_pos hi]
    have hgate := gateKept_gateCheck (s := setRole (s.setRed { s.red with backoff := false }) 2 4)
    refine ⟨?_, (hgate.fld (f := F.RED_STATUS_ROLE) (by decide) (by decide)).trans (setRole_role 4 (by decide))⟩
    rw [hgate.redPart, setRole_red]
    rfl
  · rw [if_neg hi, if_neg hi]
    exact ⟨rfl, rfl⟩

end

/-! ### FORCE_TKO written -/

section
variable {s : State}

theorem specOf_redCtrl : specOf A.RED_CTRL = some ⟨0x008, 1, 0x4, 0x00000000, [⟨0, 1, .lk, 0⟩, ⟨8, 1, .go, 32⟩]⟩ := by decide +kernel

/-- Only a GO field adds a start. -/
theorem applyField_go_other (a page off : Nat) (data mask : Word) (acc : WriteAcc) {f : FieldSpec} (h : f.ty ≠ .go) :
    (applyField s a page off data mask acc f).go = acc.go := by
  unfold applyField
  simp only
  split
  · rfl
  · split
    · split
      · rfl
      · split <;> rfl
    · split
      · rfl
      · split <;> rfl
    · rfl
    · split <;> rfl
    · next hty => exact absurd hty h
    · rfl
    · rfl
    · rfl

/-- A GO bit written 1. -/
theorem applyField_go_one (a page off : Nat) (data : Word) (acc : WriteAcc) {b lock : Nat} (hb : b < 32) (hd : bit data.toNat b = true) :
    (applyField s a page off data allBits acc ⟨b, 1, .go, lock⟩).go = acc.go ++ [b] := by
  have hm : bitsOf allBits.toNat b 1 ≠ 0 := by
    rw [bitsOf_allBits b 1 (by omega)]
    decide
  have hone : bitsOf data.toNat b 1 % 2 = 1 := by
    have := bitsOf_lt data.toNat b 1
    rw [bit_eq_bitsOf, beq_iff_eq] at hd
    omega
  simp only [applyField, hm, if_false, hone, if_true]

/-- A write of CTRL with FORCE_TKO 1 keeps nothing pending where none is in progress. -/
theorem writeFields_redCtrl_bus (src : Requester) {data : Word} (hd : bit data.toNat 8 = true) (hf : s.flag F.RED_CTRL_FORCE_TKO = false) :
    (writeFields s src A.RED_CTRL data allBits).bus = s.bus := by
  have hbit : bit (s.reg A.RED_CTRL).toNat 8 = false := by
    rw [← hf, State.flag_eq_bit (f := F.RED_CTRL_FORCE_TKO) rfl]
  have herr : ∀ (c : Prop) [Decidable c] (u : State) code, (if c then recordErr u (A.RED_CTRL / 0x1000) code src.code A.RED_CTRL else u).bus = u.bus := by
    intro c _ u code
    split
    · exact recordErr_bus _ _ _ _ _
    · rfl
  have hgo : ∀ (page off : Nat) (w : Word), (([⟨0, 1, .lk, 0⟩, ⟨8, 1, .go, 32⟩] : List FieldSpec).foldl
      (applyField s A.RED_CTRL page off data allBits) { word := w, locked := false, reserved := false, badAlias := false, go := [] }).go = [8] := by
    intro page off w
    rw [List.foldl_cons, List.foldl_cons, List.foldl_nil, applyField_go_one _ _ _ _ _ (by decide) hd, applyField_go_other _ _ _ _ _ _ (by decide)]
    rfl
  have hgo' := hgo (basePage (A.RED_CTRL / 0x1000)) 0x008 (s.reg A.RED_CTRL)
  unfold writeFields
  rw [specOf_redCtrl]
  simp only
  generalize List.foldl (applyField s A.RED_CTRL (basePage (A.RED_CTRL / 0x1000)) 0x008 data allBits) _ _ = acc at hgo'
  rw [herr, herr, herr, hgo']
  simp only [List.foldl_cons, List.foldl_nil]
  rw [startGo_new]
  · rfl
  · rw [State.reg_setReg_self, bit_or, bit_and, bit_and, hbit, Bool.false_and, Bool.or_false]
    rw [show bit (~~~(0#32 ||| BitVec.ofNat 32 (2 ^ 8))).toNat 8 = false by decide, Bool.and_false]

/-- What a write of CTRL leaves: the state of RED and its registers but CTRL and those of errors. -/
theorem writeFields_redCtrl (src : Requester) (data mask : Word) :
    Touches [.regs, .bus, .host, .out] [0x31] s (writeFields s src A.RED_CTRL data mask) ∧
      OnlyRegs s (writeFields s src A.RED_CTRL data mask) [A.RED_CTRL, 0x31010, 0x3101C, 0x31020] :=
  ⟨touches_writeFields src A.RED_CTRL data mask, (onlyRegs_writeFields s src A.RED_CTRL data mask).mono (by decide)⟩

theorem State.ready_of_touches {t : State} {ps : List Area} {gs : List Nat} (h : Touches ps gs s t) (hd : .dev ∉ ps := by decide)
    (hp : .pow ∉ ps := by decide) (hg : F.SYS_STATUS_DEV_STATE.addr / 0x1000 ∉ gs := by decide) : t.ready = s.ready := by
  have hst : t.devState = s.devState := h.fld (f := F.SYS_STATUS_DEV_STATE) hg
  have hdev : t.dev = s.dev := h.part .dev hd
  have hpow : t.pow = s.pow := h.part .pow hp
  rw [State.ready, State.answers, hdev, hpow, hst, State.ready, State.answers]

theorem State.inOperation_of_ready (h : s.ready = true) : s.inOperation = true := by
  simp only [State.ready, Bool.and_eq_true] at h
  simp only [State.inOperation, h.1, h.2, Bool.true_or, Bool.and_self]

theorem exec_forceTkoWrite (h : s.ready = true) (src : Requester) (data : Word) :
    exec (.forceTkoWrite src data) s = .next (redCtrlWrite s src (data ||| 0x100#32) allBits) :=
  congrArg Host.Outcome.next (gateWrite_inOperation (State.inOperation_of_ready h) (by decide +kernel) src _)

theorem bit_force (data : Word) : bit (data ||| 0x100#32).toNat 8 = true := by
  rw [bit_or, show bit (0x100#32).toNat 8 = true by decide, Bool.or_true]

/-- FORCE_TKO on a bow. -/
theorem redCtrlWrite_bow (src : Requester) (data : Word) (hready : s.ready = true) (hrole : role s = 2) :
    redCtrlWrite s src (data ||| 0x100#32) allBits =
      if (tkoTrigger (writeFields s src A.RED_CTRL (data ||| 0x100#32) allBits) 4 0).red.takeover.isSome then
        tkoTrigger (writeFields s src A.RED_CTRL (data ||| 0x100#32) allBits) 4 0
      else forceEnds (tkoTrigger (writeFields s src A.RED_CTRL (data ||| 0x100#32) allBits) 4 0) := by
  rw [redCtrlWrite, bit_force, show bit allBits.toNat 8 = true by decide, hready, hrole]
  rfl

/-- FORCE_TKO elsewhere is an error. -/
theorem forceTko_elsewhere (src : Requester) (data : Word) (hready : s.ready = true) (hrole : role s ≠ 2) :
    ∃ t, exec (.forceTkoWrite src data) s = .next t ∧ role t = role s ∧ t.red = s.red ∧ causeSet t 0x31 31 = true := by
  have hwrite : redCtrlWrite s src (data ||| 0x100#32) allBits =
      recordErr (writeFields s src A.RED_CTRL (data ||| 0x100#32) (allBits &&& ~~~0x100#32)) 0x31 0x80 src.code A.RED_CTRL := by
    rw [redCtrlWrite, bit_force, show bit allBits.toNat 8 = true by decide, hready, Bool.and_self, if_pos rfl,
      if_neg (by simp [hrole])]
  obtain ⟨htouch, honly⟩ := writeFields_redCtrl (s := s) src (data ||| 0x100#32) (allBits &&& ~~~0x100#32)
  refine ⟨_, exec_forceTkoWrite hready src data, ?_⟩
  rw [hwrite]
  generalize writeFields s src A.RED_CTRL (data ||| 0x100#32) (allBits &&& ~~~0x100#32) = u at htouch honly
  have herr := onlyRegs_recordErr u 0x31 0x80 src.code A.RED_CTRL
  refine ⟨(herr.fld (f := F.RED_STATUS_ROLE) (by decide)).trans (honly.fld (f := F.RED_STATUS_ROLE) (by decide)), ?_, causeSet_recordErr _ _ _ _ _⟩
  rw [recordErr_red]
  exact htouch.part .red (by decide)

/-- The two triggers of the statement, on a bow that may take over. -/
theorem forceTko_fresh (src : Requester) (data : Word) (hready : s.ready = true) (hrole : role s = 2) (hnone : s.red.takeover = none)
    (hfresh : s.flag F.RED_STATUS_FRESH = true) (hpaired : s.red.wasPaired = true) :
    ∃ t, exec (.forceTkoWrite src data) s = .next t ∧ role t = 2 ∧
      t.red.takeover = some { trigger := 4, since := s.dev.upCycles, upTo := 0, started := false } := by
  obtain ⟨htouch, honly⟩ := writeFields_redCtrl (s := s) src (data ||| 0x100#32) allBits
  refine ⟨_, exec_forceTkoWrite hready src data, ?_⟩
  rw [redCtrlWrite_bow src data hready hrole]
  generalize writeFields s src A.RED_CTRL (data ||| 0x100#32) allBits = u at htouch honly
  have hred : u.red = s.red := htouch.part .red (by decide)
  have hdev : u.dev = s.dev := htouch.part .dev (by decide)
  have hrole' : role u = 2 := (honly.fld (f := F.RED_STATUS_ROLE) (by decide)).trans hrole
  rw [tkoTrigger_fresh ((State.ready_of_touches htouch).trans hready) hrole' (by rw [hred]; exact hnone)
    ((honly.flag (by decide)).trans hfresh) (by rw [hred]; exact hpaired), hdev]
  exact ⟨hrole', rfl⟩

theorem forceTko_stale (src : Requester) (data : Word) (hready : s.ready = true) (hrole : role s = 2) (hnone : s.red.takeover = none)
    (hfresh : s.flag F.RED_STATUS_FRESH = false) (hforce : s.flag F.RED_CTRL_FORCE_TKO = false)
    (hpend : s.bus.goPending.contains (A.RED_CTRL * 32 + 8) = false) :
    ∃ t, exec (.forceTkoWrite src data) s = .next t ∧ role t = 2 ∧ t.red.takeover = none ∧
      t.fld F.RED_TKO_FAILS_COUNT = satAdd 32 (s.fld F.RED_TKO_FAILS_COUNT) 1 ∧ t.fld F.RED_LAST_TKO_TRIGGER = 4 ∧
      t.fld F.RED_LAST_TKO_RESULT = 1 ∧ causeSet t 0x31 3 = true ∧ lastEvent t 0x31 0x1303 := by
  obtain ⟨htouch, honly⟩ := writeFields_redCtrl (s := s) src (data ||| 0x100#32) allBits
  have hbus := writeFields_redCtrl_bus src (bit_force data) hforce
  refine ⟨_, exec_forceTkoWrite hready src data, ?_⟩
  rw [redCtrlWrite_bow src data hready hrole]
  generalize writeFields s src A.RED_CTRL (data ||| 0x100#32) allBits = u at htouch honly hbus
  have hred : u.red = s.red := htouch.part .red (by decide)
  have hrole' : role u = 2 := (honly.fld (f := F.RED_STATUS_ROLE) (by decide)).trans hrole
  have hfails : u.fld F.RED_TKO_FAILS_COUNT = s.fld F.RED_TKO_FAILS_COUNT := honly.fld (by decide)
  rw [tkoTrigger_stale ((State.ready_of_touches htouch).trans hready) hrole' (by rw [hred]; exact hnone) ((honly.flag (by decide)).trans hfresh)]
  have htko : (tkoFails u 4 1).red.takeover = none := by rw [tkoFails_red]
  obtain ⟨hcount, htrigger, hresult, hcause, hevent⟩ := tkoFails_spec (s := u) (trigger := 4) (reason := 1) (by decide) (by decide)
  have hrole'' := tkoFails_role (s := u) 4 1
  have hbus' := tkoFails_bus (s := u) 4 1
  rw [if_neg (by rw [htko]; decide), ← hfails]
  generalize tkoFails u 4 1 = v at htko hcount htrigger hresult hcause hevent hrole'' hbus'
  obtain ⟨hquiet, hqred, hqlog, _⟩ := forceEnds_quiet (s := v) (Or.inr (by rw [hbus', hbus]; exact hpend))
  exact ⟨(hquiet.fld (f := F.RED_STATUS_ROLE) (by decide)).trans hrole'', by rw [hqred, htko], (hquiet.fld (by decide)).trans hcount,
    (hquiet.fld (by decide)).trans htrigger, (hquiet.fld (by decide)).trans hresult, by rw [causeSet, hquiet _ (by decide)]; exact hcause,
    lastEvent_of_log hqlog hevent⟩

theorem ilkLoss_fresh (hpairs : pairs s = true) (hilk : s.flag F.RED_STATUS_ILK_IN = false) (hrole : role s = 2) (hnone : s.red.takeover = none)
    (hfresh : s.flag F.RED_STATUS_FRESH = true) (hpaired : s.red.wasPaired = true) :
    ∃ t, exec .ilkLossTimer s = .next t ∧ role t = 2 ∧
      t.red.takeover = some { trigger := 2, since := s.dev.upCycles, upTo := 0, started := false } := by
  have hready : s.ready = true := by
    simp only [pairs, Bool.and_eq_true] at hpairs
    exact hpairs.1
  have hexec : exec .ilkLossTimer s = .next (tkoTrigger s 2 0) := congrArg Host.Outcome.next (if_pos (by rw [hpairs, hilk]; rfl))
  rw [tkoTrigger_fresh hready hrole hnone hfresh hpaired] at hexec
  exact ⟨_, hexec, hrole, rfl⟩

theorem ilkLoss_stale (hpairs : pairs s = true) (hilk : s.flag F.RED_STATUS_ILK_IN = false) (hrole : role s = 2) (hnone : s.red.takeover = none)
    (hfresh : s.flag F.RED_STATUS_FRESH = false) :
    ∃ t, exec .ilkLossTimer s = .next t ∧ role t = 2 ∧ t.red.takeover = none ∧
      t.fld F.RED_TKO_FAILS_COUNT = satAdd 32 (s.fld F.RED_TKO_FAILS_COUNT) 1 ∧ t.fld F.RED_LAST_TKO_TRIGGER = 2 ∧
      t.fld F.RED_LAST_TKO_RESULT = 1 ∧ causeSet t 0x31 3 = true ∧ lastEvent t 0x31 0x1303 := by
  have hready : s.ready = true := by
    simp only [pairs, Bool.and_eq_true] at hpairs
    exact hpairs.1
  have hexec : exec .ilkLossTimer s = .next (tkoTrigger s 2 0) := congrArg Host.Outcome.next (if_pos (by rw [hpairs, hilk]; rfl))
  rw [tkoTrigger_stale hready hrole hnone hfresh] at hexec
  exact ⟨_, hexec, tkoFails_role 2 1, by rw [tkoFails_red], tkoFails_spec (by decide) (by decide)⟩

/-- Outside a bow the end of FORCE_TKO changes CTRL and what waits of it alone. -/
theorem forceEnds_taking (hrole : role s ≠ 2) : OnlyRegs s (forceEnds s) [A.RED_CTRL] ∧ (forceEnds s).red = s.red := by
  have hgo : ∀ u : State, OnlyRegs u (endGo u A.RED_CTRL 8).1 [A.RED_CTRL] ∧ (endGo u A.RED_CTRL 8).1.red = u.red := by
    intro u
    unfold endGo
    split
    · exact ⟨fun _ _ => rfl, rfl⟩
    · exact ⟨onlyRegs_setReg u A.RED_CTRL _, rfl⟩
  obtain ⟨hfirst, hred⟩ := hgo s
  have hrole' : role (endGo s A.RED_CTRL 8).1 ≠ 2 := by
    rw [show role (endGo s A.RED_CTRL 8).1 = role s from hfirst.fld (f := F.RED_STATUS_ROLE) (by decide)]
    exact hrole
  unfold forceEnds
  split
  · simp only
    rw [tkoTrigger_elsewhere hrole']
    split
    · exact ⟨hfirst, hred⟩
    · split
      · exact ⟨hfirst, hred⟩
      · obtain ⟨hsecond, hred'⟩ := hgo (endGo s A.RED_CTRL 8).1
        exact ⟨(hfirst.trans hsecond).mono (by decide), hred'.trans hred⟩
  · exact ⟨fun _ _ => rfl, rfl⟩

end

/-! ### Items of the mirror link -/

section
variable {s : State}

theorem onlyRegs_sendItem (i : MirrorItem) : OnlyRegs s (sendItem s i) [A.RED_ITEMS_TX] :=
  onlyRegs_count (s.setRed { s.red with txNext := (s.red.txNext + 1) % 2 ^ 32, unacked := s.red.unacked ++ [(s.red.txNext, [i])] }) F.RED_ITEMS_TX_COUNT 1

theorem touches_sendItem (i : MirrorItem) : Touches [.regs, .red, .out] [0x31] s (sendItem s i) :=
  ((touches_setRed _).mono.then (touches_count F.RED_ITEMS_TX_COUNT 1)).then (touches_send (gs := []) _)

/-! ### TAKEOVER_START (R640) -/

theorem takeoverStart_spec {k : Takeover} (hk : s.red.takeover = some k) (hstarted : k.started = false) (hrole : role s = 2) (h3 : k.trigger ≠ 3) :
    role (takeoverStart s) = 3 ∧ (takeoverStart s).red.takeover = some { k with started := true } ∧ causeSet (takeoverStart s) 0x31 0 = true ∧
      lastEvent (takeoverStart s) 0x31 0x1300 := by
  have hform : takeoverStart s = (if (k.trigger = 1 || k.trigger = 4) && link (setRole (s.setRed { s.red with takeover := some { k with started := true } }) 3 2) = 3 then
      sendItem (setRole (s.setRed { s.red with takeover := some { k with started := true } }) 3 2) (.take k.trigger)
      else setRole (s.setRed { s.red with takeover := some { k with started := true } }) 3 2) := by
    simp only [takeoverStart, hk, hstarted, hrole, h3, bne_self_eq_false, decide_false, Bool.false_and, Bool.or_self, Bool.false_eq_true, if_false]
  have hrole' : role (s.setRed { s.red with takeover := some { k with started := true } }) ≠ 3 := fun h => absurd (hrole.symm.trans h) (by decide)
  obtain ⟨hcause, hevent⟩ := setRole_changes (s := s.setRed { s.red with takeover := some { k with started := true } }) 2 hrole'
  have hnew := setRole_role (s := s.setRed { s.red with takeover := some { k with started := true } }) (new := 3) 2 (by decide)
  have hred : (setRole (s.setRed { s.red with takeover := some { k with started := true } }) 3 2).red.takeover = some { k with started := true } := by
    rw [setRole_red]
    rfl
  rw [hform]
  generalize setRole (s.setRed { s.red with takeover := some { k with started := true } }) 3 2 = u at hcause hevent hnew hred
  split
  · have hsent := onlyRegs_sendItem (s := u) (.take k.trigger)
    exact ⟨(hsent.fld (f := F.RED_STATUS_ROLE) (by decide)).trans hnew, hred, by rw [causeSet, hsent _ (by decide)]; exact hcause,
      lastEvent_of_log (t := u) rfl hevent⟩
  · exact ⟨hnew, hred, hcause, hevent⟩

/-! ### TAKEOVER_ABANDON (R643) -/

theorem takeoverAbandon_exec {k : Takeover} (hpairs : pairs s = true) (hk : s.red.takeover = some k) (hstarted : k.started = true)
    (hilk : s.flag F.RED_STATUS_ILK_IN = true) : exec .takeoverAbandon s = .next (forceEnds (tkoFails s k.trigger 2)) := by
  show Host.Outcome.next _ = _
  rw [hk]
  exact congrArg Host.Outcome.next (if_pos (by rw [hpairs, hstarted, hilk]; rfl))

/-- A FORCE_TKO that waits falls due anew. -/
theorem takeoverAbandon_again {k : Takeover} (hpairs : pairs s = true) (hk : s.red.takeover = some k) (hstarted : k.started = true)
    (hilk : s.flag F.RED_STATUS_ILK_IN = true) (hforce : s.flag F.RED_CTRL_FORCE_TKO = true)
    (hpend : s.bus.goPending.contains (A.RED_CTRL * 32 + 8) = true) (hready : s.ready = true) (hfresh : s.flag F.RED_STATUS_FRESH = true)
    (hpaired : s.red.wasPaired = true) : ∃ t, exec .takeoverAbandon s = .next t ∧ role t = 2 ∧
      t.red.takeover = some { trigger := 4, since := s.dev.upCycles, upTo := 0, started := false } ∧
      t.flag F.RED_CTRL_FORCE_TKO = true ∧ t.bus.goPending.contains (A.RED_CTRL * 32 + 8) = false := by
  refine ⟨_, takeoverAbandon_exec hpairs hk hstarted hilk, ?_⟩
  have htouch := touches_tkoFails (s := s) k.trigger 2
  have hforce' : (tkoFails s k.trigger 2).flag F.RED_CTRL_FORCE_TKO = true :=
    ((onlyRegs_tkoFails (s := s) k.trigger 2).flag (by decide)).trans hforce
  have hbus := tkoFails_bus (s := s) k.trigger 2
  have hred := tkoFails_red (s := s) k.trigger 2
  have hrole := tkoFails_role (s := s) k.trigger 2
  have hfresh' := (tkoFails_flag (s := s) k.trigger 2 (f := F.RED_STATUS_FRESH) rfl (by decide)).trans hfresh
  have hready' := (State.ready_of_touches htouch).trans hready
  have hdev : (tkoFails s k.trigger 2).dev = s.dev := htouch.part .dev (by decide)
  generalize tkoFails s k.trigger 2 = u at hforce' hbus hred hrole hfresh' hready' hdev
  rw [forceEnds_again hforce' (by rw [hbus]; exact hpend) hready' hrole (by rw [hred]) hfresh' (by rw [hred]; exact hpaired), hdev]
  refine ⟨hrole, rfl, hforce', ?_⟩
  show (u.bus.goPending.filter (· != A.RED_CTRL * 32 + 8)).contains (A.RED_CTRL * 32 + 8) = false
  rw [List.contains_eq_any_beq, List.any_filter]
  simp only [bne, List.any_eq_false, Bool.and_eq_true, Bool.not_eq_true', beq_eq_false_iff_ne, beq_iff_eq, not_and]
  exact fun x _ h => Ne.symm h

theorem takeoverAbandon_last {k : Takeover} (hpairs : pairs s = true) (hk : s.red.takeover = some k) (hstarted : k.started = true)
    (hilk : s.flag F.RED_STATUS_ILK_IN = true)
    (hlast : s.flag F.RED_CTRL_FORCE_TKO = false ∨ s.bus.goPending.contains (A.RED_CTRL * 32 + 8) = false) :
    ∃ t, exec .takeoverAbandon s = .next t ∧ role t = 2 ∧ t.red.takeover = none ∧
      t.fld F.RED_TKO_FAILS_COUNT = satAdd 32 (s.fld F.RED_TKO_FAILS_COUNT) 1 ∧ t.fld F.RED_LAST_TKO_RESULT = 2 ∧
      causeSet t 0x31 3 = true ∧ lastEvent t 0x31 0x1303 ∧ SameMemory s t := by
  refine ⟨_, takeoverAbandon_exec hpairs hk hstarted hilk, ?_⟩
  have hforce := (onlyRegs_tkoFails (s := s) k.trigger 2).flag (f := F.RED_CTRL_FORCE_TKO) (by decide)
  obtain ⟨hcount, hresult, hcause, hevent⟩ := tkoFails_result (s := s) k.trigger (reason := 2) (by decide)
  have hrole := tkoFails_role (s := s) k.trigger 2
  have hbus := tkoFails_bus (s := s) k.trigger 2
  have hnone : (tkoFails s k.trigger 2).red.takeover = none := by rw [tkoFails_red]
  have hmem : SameMemory s (tkoFails s k.trigger 2) := (touches_tkoFails k.trigger 2).ram (by decide)
  generalize tkoFails s k.trigger 2 = u at hforce hcount hresult hcause hevent hrole hbus hnone hmem
  obtain ⟨hquiet, hqred, hqlog, hqmem⟩ := forceEnds_quiet (s := u) (by rw [hforce, hbus]; exact hlast)
  exact ⟨(hquiet.fld (f := F.RED_STATUS_ROLE) (by decide)).trans hrole, by rw [hqred, hnone], (hquiet.fld (by decide)).trans hcount,
    (hquiet.fld (by decide)).trans hresult, by rw [causeSet, hquiet _ (by decide)]; exact hcause, lastEvent_of_log hqlog hevent, hmem.trans hqmem⟩

/-! ### TAKEOVER_COMPLETE (R640, R641) -/

/-- The chip becomes STROKE: its role, its registers, its event with its severity and data; `w`: the word of LAST_TKO. -/
def tkoClaimed (u : State) (severity : Nat) (data : List Byte) (w : Word) : State :=
  let s := (setRole u 1 2).setFld F.RED_STATUS_FRESH 0
  let s := setCause ((s.event 0x31 0 0x1302 severity data).count F.RED_TAKEOVERS_COUNT 1) 0x31 2
  (s.setReg A.RED_LAST_TKO w).setReg A.RED_DATUM_ERR 0#32

/-- The image of what is mirrored, and TAKEN to the partner. -/
def tkoShared (u : State) : State :=
  let s := u.setRed { u.red with image := u.dram.filter (fun c => mirrored c.1),
                                 epochs := u.sec.slots.foldl (fun (m : Tbl Nat) e => Tbl.put (fun _ => 0) m e.1 (keyMark e.2)) [] }
  if 2 ≤ link s then sendItem s (.taken s.now.sec s.now.ns) else s

/-- The servo of Datum after a takeover. -/
def tkoServo (s : State) : State :=
  if servoSource s then (setServo s (if s.red.datumLocked then 3 else 1) false).setFld F.DTM_STATUS_TIME_SET 1 else s

/-- No image of an update is valid. -/
def tkoImages (s : State) : State :=
  let s := (List.range 8).foldl (fun (u : State) k => u.setReg (A.UPD_IMG_INFO k) 0#32) s
  { s.setFld F.UPD_STATUS_IMG_VALID 0 with upd := { s.upd with digests := [] } }

/-- The markers of the queues, the mailboxes and the parcels after a takeover. -/
def tkoNodes (s : State) (queues : List Nat) : State :=
  let s := queues.foldl (fun (u : State) q => placeMarker u q 4 0xFFFFFFFF 0xFFFFFFFF) s
  let s := emptyMailboxes s
  (usedParcels s).foldl takeParcel s

theorem takeoverComplete_eq {k : Takeover} (hk : s.red.takeover = some k) (hstarted : k.started = true)
    (hilk : s.flag F.RED_STATUS_ILK_IN = false) : ∃ severity data ms queues, takeoverComplete s =
      tkoNodes (tkoImages (discardSessions (rebuildAccounts (tkoServo (tkoShared
        (tkoClaimed (forceEnds (s.setRed { s.red with takeover := none, backoff := false })) severity data
          (BitVec.ofNat 32 (k.trigger * 2 ^ 24 + min 65535 ms)))))))) queues := by
  refine ⟨if k.trigger = 3 then 1 else 2, leBytes 1 k.trigger ++ leBytes 1 1 ++ leBytes 4 (takeoverUs s k) ++
    leBytes 2 (if k.trigger = 3 then [] else markedQueues s).length, takeoverUs s k / 1000, if k.trigger = 3 then [] else markedQueues s, ?_⟩
  unfold takeoverComplete
  rw [hk]
  simp only [hstarted, hilk, Bool.not_true, Bool.or_self, Bool.false_eq_true, if_false]
  generalize forceEnds (s.setRed _) = u
  rfl

/-- What the rest of the completion keeps of RED: its registers but the count of items and those that lie like a session's state, and the
takeover. -/
structure TkoKept (s t : State) : Prop where
  reg : ∀ a, a / 0x1000 = 0x31 → a % 0x20 ≠ 4 → a ≠ A.RED_ITEMS_TX → t.reg a = s.reg a
  takeover : t.red.takeover = s.red.takeover

theorem TkoKept.refl (s : State) : TkoKept s s := ⟨fun _ _ _ _ => rfl, rfl⟩

theorem TkoKept.trans {t u : State} (h : TkoKept s t) (h' : TkoKept t u) : TkoKept s u :=
  ⟨fun a hp h4 hi => (h'.reg a hp h4 hi).trans (h.reg a hp h4 hi), h'.takeover.trans h.takeover⟩

theorem TkoKept.of {t : State} {ps : List Area} {gs : List Nat} (h : Touches ps gs s t) (hp : .red ∉ ps := by decide)
    (hg : 0x31 ∉ gs := by decide) : TkoKept s t :=
  ⟨fun a ha _ _ => h.reg a (by rw [ha]; exact hg), congrArg Red.takeover (h.part .red hp)⟩

theorem TkoKept.foldl {α : Type} {g : State → α → State} {l : List α} (hg : ∀ u, ∀ e ∈ l, TkoKept u (g u e)) (s : State) : TkoKept s (l.foldl g s) := by
  induction l generalizing s with
  | nil => exact TkoKept.refl s
  | cons e l ih => exact (hg s e (List.mem_cons_self ..)).trans (ih (fun u d hd => hg u d (List.mem_cons_of_mem _ hd)) _)

theorem tkoKept_sendItem (i : MirrorItem) : TkoKept s (sendItem s i) := ⟨fun a _ _ ha => onlyRegs_sendItem i a (by simpa using ha), rfl⟩

theorem tkoKept_tkoShared : TkoKept s (tkoShared s) := by
  have hset : ∀ r : Red, r.takeover = s.red.takeover → TkoKept s (s.setRed r) := fun r hr => ⟨fun _ _ _ _ => rfl, hr⟩
  unfold tkoShared
  simp only
  split
  · refine TkoKept.trans (hset _ ?_) (tkoKept_sendItem _)
    rfl
  · exact hset _ rfl

theorem touches_setDtm (d : Datum) : Touches [.dtm] [] s (s.setDtm d) := touches_parts [.dtm] rfl

theorem touches_holdInc : Touches [.regs] [0x26] s (holdInc s) :=
  Touches.ite (fun _ => Touches.refl s) (fun _ => (touches_setReg A.DTM_INC _).trans (touches_setReg (A.DTM_INC + 4) _))

theorem touches_refreshTimeOk : Touches [.regs] [0x26, 0x1C] s (refreshTimeOk s) :=
  (touches_setFld F.DTM_STATUS_TIME_OK _).mono.then (touches_setFld F.MAC_STATUS_TIME_OK _)

theorem touches_setServo (st : Nat) (byMaster : Bool) : Touches [.regs, .dtm, .log, .host, .out] [0x26, 0x1C] s (setServo s st byMaster) := by
  unfold setServo
  refine Touches.ite (fun _ => Touches.refl s) (fun _ => ?_)
  have hheld : Touches [.regs, .dtm, .log, .host, .out] [0x26, 0x1C] s (if st = 3 || st = 4 then holdInc s else s) :=
    Touches.ite (fun _ => touches_holdInc.mono) (fun _ => Touches.refl s)
  exact ((((hheld.then (touches_setDtm _)).then (touches_setFld F.DTM_STATUS_SERVO st)).then touches_refreshTimeOk).then
    (touches_event (gs := []) _ _ _ _ _)).then (touches_setCause 0x26 2)

theorem touches_tkoServo : Touches [.regs, .dtm, .log, .host, .out] [0x26, 0x1C] s (tkoServo s) :=
  Touches.ite (fun _ => (touches_setServo _ _).then (touches_setFld F.DTM_STATUS_TIME_SET 1)) (fun _ => Touches.refl s)

/-- The sessions discarded; the state of a session may lie in any page, but where the states of sessions lie. -/
theorem tkoKept_discardSessions : TkoKept s (discardSessions s) := by
  have hstep : ∀ (u : State) (x : Sess), TkoKept u ((emptyMcast u x.sid none).setFld (F.UPD_SESS_STATE_STATE x.sid) 0) := fun u x =>
    TkoKept.trans (TkoKept.of (touches_emptyMcast x.sid none)) ⟨fun a _ h4 _ => onlyRegs_setFld _ (F.UPD_SESS_STATE_STATE x.sid) 0 a (by
      simp only [A.UPD_SESS_STATE, List.mem_cons, List.not_mem_nil, or_false]
      omega), rfl⟩
  exact ((TkoKept.foldl (fun u x _ => hstep u x) s).trans (TkoKept.of (touches_upd _))).trans (TkoKept.of (touches_refreshSessions _))

theorem discardSessions_upd : (discardSessions s).upd.sessions = [] := by
  rw [discardSessions, (touches_refreshSessions _).part .upd (by decide)]

theorem touches_tkoImages : Touches [.regs, .upd] [0x1F] s (tkoImages s) := by
  have himg : ∀ k ∈ List.range 8, A.UPD_IMG_INFO k / 0x1000 ∈ [0x1F] := by decide
  have hfold : Touches [.regs, .upd] [0x1F] s ((List.range 8).foldl (fun (u : State) k => u.setReg (A.UPD_IMG_INFO k) 0#32) s) :=
    Touches.foldl (fun u k hk => Touches.mono (touches_setReg_of _ _ (himg k hk))) s
  exact (hfold.then (touches_setFld F.UPD_STATUS_IMG_VALID 0)).then (touches_upd _)

theorem tkoImages_sessions : (tkoImages s).upd.sessions = s.upd.sessions := by
  have hfold : Touches [.regs] [0x1F] s ((List.range 8).foldl (fun (u : State) k => u.setReg (A.UPD_IMG_INFO k) 0#32) s) := by
    have himg : ∀ k ∈ List.range 8, A.UPD_IMG_INFO k / 0x1000 ∈ [0x1F] := by decide
    exact Touches.foldl (fun u k hk => touches_setReg_of _ _ (himg k hk)) s
  show ((List.range 8).foldl (fun (u : State) k => u.setReg (A.UPD_IMG_INFO k) 0#32) s).upd.sessions = _
  rw [hfold.part .upd (by decide)]

theorem touches_takeParcel (p : Nat) : Touches [.dram] [] s (takeParcel s p) := by
  have hset := (touches_pSetBits (s := s) p 144 0 1 0).trans (touches_pSetBits p 152 0 1 0)
  exact Touches.ite (fun _ => (hset.trans (touches_pSet p _ _ _)).trans (touches_pSet p _ _ _)) (fun _ => hset)

/-- The mailboxes emptied, once their cells are free. -/
theorem emptyMailboxes_spec : TkoKept s (emptyMailboxes s) ∧ (emptyMailboxes s).cad.dls = [] ∧ (emptyMailboxes s).upd = s.upd := by
  have hfree : Touches fabricParts fabricPages s (s.cad.dls.foldl (fun (t : State) d => freeCells t d.cells) s) :=
    Touches.foldl (fun t d _ => touches_freeCells d.cells) s
  unfold emptyMailboxes
  simp only
  generalize s.cad.dls.foldl (fun (t : State) d => freeCells t d.cells) s = u at hfree
  have hrest : ∀ v : State, Touches [.dram] [] v
      ((usedParcels v).foldl (fun (t : State) p => pSet (t.ramStore (256 * p + 160) (List.replicate 64 0#8)) p 224 1 0) v) := fun v =>
    Touches.foldl (fun t p _ => (touches_ramStore _ _).trans (touches_pSet p _ _ _)) v
  refine ⟨((TkoKept.of hfree).trans (TkoKept.of (touches_cad _))).trans (TkoKept.of (hrest _)), ?_, ?_⟩
  · exact congrArg Cad.dls ((hrest { u with cad := { u.cad with dls := [], held := [] } }).part .cad (by decide))
  · exact ((hrest { u with cad := { u.cad with dls := [], held := [] } }).part .upd (by decide)).trans (hfree.part .upd (by decide))

theorem tkoNodes_spec (queues : List Nat) : TkoKept s (tkoNodes s queues) ∧ (tkoNodes s queues).cad.dls = [] ∧ (tkoNodes s queues).upd = s.upd := by
  have hmark : Touches fabricParts fabricPages s (queues.foldl (fun (u : State) q => placeMarker u q 4 0xFFFFFFFF 0xFFFFFFFF) s) :=
    Touches.foldl (fun u q _ => touches_placeMarker q _ _ _) s
  unfold tkoNodes
  simp only
  generalize queues.foldl (fun (u : State) q => placeMarker u q 4 0xFFFFFFFF 0xFFFFFFFF) s = u at hmark
  obtain ⟨hkept, hdls, hupd⟩ := emptyMailboxes_spec (s := u)
  generalize emptyMailboxes u = v at hkept hdls hupd
  have htake : Touches [.dram] [] v ((usedParcels v).foldl takeParcel v) := Touches.foldl (fun t p _ => touches_takeParcel p) v
  refine ⟨((TkoKept.of hmark).trans hkept).trans (TkoKept.of htake), ?_, ?_⟩
  · rw [htake.part .cad (by decide), hdls]
  · rw [htake.part .upd (by decide), hupd, hmark.part .upd (by decide)]

/-- The word of LAST_TKO: the trigger, the result 0, the time. -/
theorem lastTko_fields (trigger ms : Nat) :
    bitsOf (BitVec.ofNat 32 (trigger * 2 ^ 24 + min 65535 ms)).toNat 24 8 = trigger % 256 ∧
      bitsOf (BitVec.ofNat 32 (trigger * 2 ^ 24 + min 65535 ms)).toNat 16 8 = 0 := by
  have hms : min 65535 ms ≤ 65535 := Nat.min_le_left _ _
  generalize min 65535 ms = m at hms
  simp only [bitsOf, BitVec.toNat_ofNat]
  omega

/-- What the claim of the role shows. -/
theorem tkoClaimed_spec (severity : Nat) (data : List Byte) (w : Word) : role (tkoClaimed s severity data w) = 1 ∧
    (tkoClaimed s severity data w).flag F.RED_STATUS_FRESH = false ∧
    (tkoClaimed s severity data w).fld F.RED_TAKEOVERS_COUNT = satAdd 32 (s.fld F.RED_TAKEOVERS_COUNT) 1 ∧
    causeSet (tkoClaimed s severity data w) 0x31 2 = true ∧ (tkoClaimed s severity data w).reg A.RED_LAST_TKO = w ∧
    (tkoClaimed s severity data w).red = s.red := by
  have hrole : role ((setRole s 1 2).setFld F.RED_STATUS_FRESH 0) = 1 :=
    (State.fld_setFld_apart _ F.RED_STATUS_FRESH F.RED_STATUS_ROLE 0 (by decide) (by decide)).trans (setRole_role 2 (by decide))
  have hfresh : ((setRole s 1 2).setFld F.RED_STATUS_FRESH 0).flag F.RED_STATUS_FRESH = false := State.flag_setFld_zero _ (by decide)
  have hcount : ((setRole s 1 2).setFld F.RED_STATUS_FRESH 0).fld F.RED_TAKEOVERS_COUNT = s.fld F.RED_TAKEOVERS_COUNT :=
    ((onlyRegs_setRole 1 2).trans (onlyRegs_setFld (setRole s 1 2) F.RED_STATUS_FRESH 0)).fld (by decide)
  have hred : ((setRole s 1 2).setFld F.RED_STATUS_FRESH 0).red = s.red := setRole_red 1 2
  unfold tkoClaimed
  simp only
  generalize (setRole s 1 2).setFld F.RED_STATUS_FRESH 0 = u at hrole hfresh hcount hred
  have hevent := onlyRegs_event u 0x31 0 0x1302 severity data
  have hered : (u.event 0x31 0 0x1302 severity data).red = u.red := rfl
  generalize u.event 0x31 0 0x1302 severity data = v at hevent hered
  have hcause := onlyRegs_setCause (v.count F.RED_TAKEOVERS_COUNT 1) 0x31 2
  have hshown : causeSet (setCause (v.count F.RED_TAKEOVERS_COUNT 1) 0x31 2) 0x31 2 = true := by
    rw [causeSet_setCause _ _ _ _ (by decide), beq_self_eq_true, Bool.or_true]
  have hcred : (setCause (v.count F.RED_TAKEOVERS_COUNT 1) 0x31 2).red = v.red := by
    rw [setCause_red]
    rfl
  have hsum : (setCause (v.count F.RED_TAKEOVERS_COUNT 1) 0x31 2).fld F.RED_TAKEOVERS_COUNT = satAdd 32 (v.fld F.RED_TAKEOVERS_COUNT) 1 :=
    (hcause.fld (by decide)).trans (State.fld_count_self v F.RED_TAKEOVERS_COUNT 1 (by decide))
  have hkept := (onlyRegs_count v F.RED_TAKEOVERS_COUNT 1).trans hcause
  generalize setCause (v.count F.RED_TAKEOVERS_COUNT 1) 0x31 2 = y at hshown hcred hsum hkept
  have hregs := (onlyRegs_setReg y A.RED_LAST_TKO w).trans (onlyRegs_setReg (y.setReg A.RED_LAST_TKO w) A.RED_DATUM_ERR 0#32)
  have hall := (hevent.trans hkept).trans hregs
  refine ⟨(hall.fld (f := F.RED_STATUS_ROLE) (by decide)).trans hrole, (hall.flag (by decide)).trans hfresh, ?_, ?_, ?_, (hcred.trans hered).trans hred⟩
  · rw [hregs.fld (by decide), hsum, hevent.fld (by decide), hcount]
  · rw [causeSet, hregs _ (by decide)]
    exact hshown
  · rw [State.reg_setReg_ne _ _ (by decide), State.reg_setReg_self]

theorem takeoverComplete_spec {k : Takeover} (hrole : role s = 3) (hk : s.red.takeover = some k) (hstarted : k.started = true)
    (hilk : s.flag F.RED_STATUS_ILK_IN = false) : role (takeoverComplete s) = 1 ∧ (takeoverComplete s).red.takeover = none ∧
      (takeoverComplete s).flag F.RED_STATUS_FRESH = false ∧
      (takeoverComplete s).fld F.RED_TAKEOVERS_COUNT = satAdd 32 (s.fld F.RED_TAKEOVERS_COUNT) 1 ∧ causeSet (takeoverComplete s) 0x31 2 = true ∧
      (takeoverComplete s).cad.dls = [] ∧ (takeoverComplete s).upd.sessions = [] ∧
      (takeoverComplete s).fld F.RED_LAST_TKO_TRIGGER = k.trigger % 256 ∧ (takeoverComplete s).fld F.RED_LAST_TKO_RESULT = 0 := by
  obtain ⟨severity, data, ms, queues, hform⟩ := takeoverComplete_eq hk hstarted hilk
  obtain ⟨hword, hzero⟩ := lastTko_fields k.trigger ms
  obtain ⟨hends, hnone⟩ := forceEnds_taking (s := s.setRed { s.red with takeover := none, backoff := false }) (by
    rw [show role (s.setRed { s.red with takeover := none, backoff := false }) = role s from rfl, hrole]
    decide)
  rw [hform]
  generalize BitVec.ofNat 32 (k.trigger * 2 ^ 24 + min 65535 ms) = w at hword hzero
  have htakeovers : (forceEnds (s.setRed { s.red with takeover := none, backoff := false })).fld F.RED_TAKEOVERS_COUNT = s.fld F.RED_TAKEOVERS_COUNT :=
    hends.fld (by decide)
  generalize forceEnds (s.setRed { s.red with takeover := none, backoff := false }) = u at hnone htakeovers
  obtain ⟨hstroke, hfresh, hcount, hcause, hlast, hred⟩ := tkoClaimed_spec (s := u) severity data w
  generalize tkoClaimed u severity data w = v at hstroke hfresh hcount hcause hlast hred
  have hshared := (tkoKept_tkoShared (s := v)).trans ((TkoKept.of touches_tkoServo).trans (TkoKept.of touches_rebuildAccounts))
  generalize rebuildAccounts (tkoServo (tkoShared v)) = x at hshared
  have hdiscard := hshared.trans tkoKept_discardSessions
  have hsessions := discardSessions_upd (s := x)
  generalize discardSessions x = y at hdiscard hsessions
  obtain ⟨hnodes, hdls, hupd⟩ := tkoNodes_spec (s := tkoImages y) queues
  have hkept := (hdiscard.trans (TkoKept.of touches_tkoImages)).trans hnodes
  have hreg : ∀ a, a / 0x1000 = 0x31 → a % 0x20 ≠ 4 → a ≠ A.RED_ITEMS_TX → (tkoNodes (tkoImages y) queues).reg a = v.reg a := hkept.reg
  refine ⟨?_, ?_, ?_, ?_, ?_, hdls, ?_, ?_, ?_⟩
  · exact (State.fld_congr (f := F.RED_STATUS_ROLE) (hreg _ (by decide) (by decide) (by decide))).trans hstroke
  · rw [hkept.takeover, hred]
    exact congrArg Red.takeover hnone
  · rw [State.flag, State.fld_congr (hreg _ (by decide) (by decide) (by decide))]
    exact hfresh
  · rw [State.fld_congr (hreg _ (by decide) (by decide) (by decide)), hcount, htakeovers]
  · rw [causeSet, hreg _ (by decide) (by decide) (by decide)]
    exact hcause
  · rw [hupd, tkoImages_sessions, hsessions]
  · rw [State.fld, hreg _ (by decide) (by decide) (by decide), hlast]
    exact hword
  · rw [State.fld, hreg _ (by decide) (by decide) (by decide), hlast]
    exact hzero

end

/-! ### The offer of a swap (R644), HOLD and FRESH (R635, R636) -/

section
variable {s : State}

theorem sendItems_red (l : List MirrorItem) : Touches [.regs, .red, .out] [0x31] s (l.foldl sendItem s) := Touches.foldl (fun _ i _ => touches_sendItem i) s

theorem swapOffer_spec (hswap : s.red.swap.isSome = true) (hoffered : s.red.offered = false) (hrole : role s = 1) (hlink : link s = 3) :
    ∃ m, (swapOffer s).red.offered = true ∧ (swapOffer s).red.txNext = (m + 1) % 2 ^ 32 ∧
      (swapOffer s).out.getLast? = some (.mirror m (swapOffer s).red.rxLast [.relinquish ((m + 2 ^ 32 - 1) % 2 ^ 32)]) := by
  have hnone : s.red.swap.isNone = false := by
    cases h : s.red.swap with
    | none => rw [h] at hswap; cases hswap
    | some x => rfl
  have hform : swapOffer s = sendItem (gateCheck ((mirrorFlush s).setRed { (mirrorFlush s).red with offered := true }))
      (.relinquish (((mirrorFlush s).red.txNext + 2 ^ 32 - 1) % 2 ^ 32)) := by
    simp only [swapOffer, hnone, hoffered, hrole, hlink, bne_self_eq_false, Bool.or_self, Bool.false_eq_true, if_false]
  rw [hform]
  generalize mirrorFlush s = u
  have hgate := (gateKept_gateCheck (s := u.setRed { u.red with offered := true })).redPart
  generalize gateCheck (u.setRed { u.red with offered := true }) = v at hgate
  have hnext : v.red.txNext = u.red.txNext := (congrArg Red.txNext hgate).trans rfl
  refine ⟨v.red.txNext, congrArg Red.offered hgate, rfl, ?_⟩
  rw [← hnext]
  exact List.getLast?_concat

theorem strokeHoldEnd_spec (hs : s.operating = true) (hh : s.flag F.RED_STATUS_HOLD = true) : ∃ t, exec .strokeHoldEnd s = .next t ∧
    t.flag F.RED_STATUS_HOLD = false ∧ (link s = 3 ∨ s.red.held = [] → OnlyRegs s t [A.RED_STATUS] ∧ SameMemory s t) := by
  have hexec : exec .strokeHoldEnd s = .next (if link (s.setFld F.RED_STATUS_HOLD 0) = 3 then s.setFld F.RED_STATUS_HOLD 0 else
      s.red.held.foldl releaseUp ((s.setFld F.RED_STATUS_HOLD 0).setRed { s.red with held := [] })) :=
    congrArg Host.Outcome.next (if_pos (by rw [hs, hh]; rfl))
  have hflag := State.flag_setFld_zero s (f := F.RED_STATUS_HOLD) (by decide)
  have honly := onlyRegs_setFld s F.RED_STATUS_HOLD 0
  have hlink : link (s.setFld F.RED_STATUS_HOLD 0) = link s := State.fld_setFld_apart s F.RED_STATUS_HOLD F.RED_STATUS_LINK 0 (by decide) (by decide)
  refine ⟨_, hexec, ?_⟩
  rw [hlink]
  by_cases h3 : link s = 3
  · rw [if_pos h3]
    exact ⟨hflag, fun _ => ⟨honly, fun _ => rfl⟩⟩
  · rw [if_neg h3]
    have hfold : Touches (.lanes :: admitParts) admitPages ((s.setFld F.RED_STATUS_HOLD 0).setRed { s.red with held := [] })
        (s.red.held.foldl releaseUp ((s.setFld F.RED_STATUS_HOLD 0).setRed { s.red with held := [] })) :=
      Touches.foldl (fun t h _ => touches_releaseUp h) _
    refine ⟨(hfold.flag (by decide)).trans hflag, fun h => ?_⟩
    rw [h.resolve_left h3]
    exact ⟨honly, fun _ => rfl⟩

theorem freshExpiry_spec (hs : s.operating = true) (hl : link s ≠ 3) : ∃ t, exec .freshExpiry s = .next t ∧ t.flag F.RED_STATUS_FRESH = false ∧
    OnlyRegs s t [A.RED_STATUS] ∧ t = { s with regs := t.regs } :=
  ⟨s.setFld F.RED_STATUS_FRESH 0, congrArg Host.Outcome.next (if_pos (by rw [hs, bne_iff_ne.2 hl]; rfl)), State.flag_setFld_zero s (by decide),
    onlyRegs_setFld s F.RED_STATUS_FRESH 0, rfl⟩

end

/-! ### The statement -/

/-- Settles O44: the interlock, the triggers, the steps and the failure of a takeover, the offer of a swap, HOLD and FRESH. -/
theorem rolesChangeByTakeoverAndSwap : Obligations.RolesChangeByTakeoverAndSwap := by
  unfold Obligations.RolesChangeByTakeoverAndSwap
  refine ⟨fun s active ha hne => ?_, fun s hs hb => backoffEnd_spec hs hb, fun s c k hnone hrole hc => ⟨fun hfresh hpaired => ?_, fun hfresh => ?_⟩,
    fun s src data hready hrole => forceTko_elsewhere src data hready hrole, fun s k hs hk hstarted hrole h3 => ?_, fun s k hs hrole hk hstarted hilk => ?_,
    fun s k hs hk hstarted hilk => ⟨fun hforce hpend hready hfresh hpaired => ?_, fun hlast => ?_⟩,
    fun s hs ht hswap hoffered hrole hlink => ?_, fun s hs ho hilk => ?_, fun s hs hh => strokeHoldEnd_spec hs hh, fun s hs hl => freshExpiry_spec hs hl⟩
  · exact ⟨_, congrArg Host.Outcome.next (if_pos (by rw [ha, bne_iff_ne.2 hne]; rfl)), ilkInChange_spec active⟩
  · rcases hc with ⟨rfl, rfl, hpairs, hilk⟩ | ⟨src, data, rfl, rfl, hready, _, _⟩
    · exact ilkLoss_fresh hpairs hilk hrole hnone hfresh hpaired
    · exact forceTko_fresh src data hready hrole hnone hfresh hpaired
  · rcases hc with ⟨rfl, rfl, hpairs, hilk⟩ | ⟨src, data, rfl, rfl, hready, hforce, hpend⟩
    · exact ilkLoss_stale hpairs hilk hrole hnone hfresh
    · exact forceTko_stale src data hready hrole hnone hfresh hforce hpend
  · exact ⟨_, congrArg Host.Outcome.next (if_pos hs), takeoverStart_spec hk hstarted hrole h3⟩
  · exact ⟨_, congrArg Host.Outcome.next (if_pos hs), takeoverComplete_spec hrole hk hstarted hilk⟩
  · exact takeoverAbandon_again hs hk hstarted hilk hforce hpend hready hfresh hpaired
  · exact takeoverAbandon_last hs hk hstarted hilk hlast
  · obtain ⟨m, hspec⟩ := swapOffer_spec hswap hoffered hrole hlink
    exact ⟨_, m, congrArg Host.Outcome.next (if_pos (by rw [hs, ht]; rfl)), hspec⟩
  · exact congrArg Host.Outcome.next (if_pos (by rw [hs, ho, hilk]; rfl))

end Sys2Proof.Machine
end

section
/-!
PROOFS. The jobs of the crypto engines and the requests for GCM (17_keys_and_crypto.md, Crypto engines).
-/
namespace Sys2Proof.Machine

-- One proof after another: side by side, the threads of so long a text want more memory than the check grants.
set_option Elab.async false

/-! ### A job starts (R585, R587) -/

section
variable {s : State}

theorem specOf_jobCtrl : specOf A.CRY_JOB_CTRL = some ⟨0x028, 1, 0x4, 0x00000000, [⟨0, 1, .go, 32⟩, ⟨8, 4, .rw, 32⟩]⟩ := by decide +kernel

/-- The word of a write of `JOB_CTRL` that starts job `op`. -/
def jobWord (op : Nat) : Word := BitVec.ofNat 32 (256 * op + 1)

theorem jobWord_bits {op : Nat} (hop : op < 16) : bit (jobWord op).toNat 0 = true ∧
    bitsOf ((s.reg A.CRY_JOB_CTRL &&& ~~~(allBits &&& 0xFFFFFFFE#32)) ||| (jobWord op &&& (allBits &&& 0xFFFFFFFE#32))).toNat 8 4 = op := by
  have hmask : (allBits &&& 0xFFFFFFFE#32) = 0xFFFFFFFE#32 := by decide
  have hlow : ∀ (w v : BitVec 32), bitsOf ((w &&& ~~~0xFFFFFFFE#32) ||| (v &&& 0xFFFFFFFE#32)).toNat 8 4 = bitsOf v.toNat 8 4 := by
    intro w v
    have h : ((w &&& ~~~0xFFFFFFFE#32) ||| (v &&& 0xFFFFFFFE#32)).extractLsb' 8 4 = v.extractLsb' 8 4 := by
      ext i hi
      simp only [BitVec.getElem_extractLsb', BitVec.getLsbD_or, BitVec.getLsbD_and, BitVec.getLsbD_not]
      interval_cases i <;> simp
    have h' := congrArg BitVec.toNat h
    simpa only [BitVec.extractLsb'_toNat, Nat.shiftRight_eq_div_pow, bitsOf] using h'
  rw [hmask, hlow]
  interval_cases op <;> exact ⟨rfl, rfl⟩

/-- The OP written, the job's other registers as they were. -/
def jobNamed (s : State) (src : Requester) (op : Nat) : State := writeFields s src A.CRY_JOB_CTRL (jobWord op) (allBits &&& 0xFFFFFFFE#32)

theorem onlyRegs_jobNamed (src : Requester) (op : Nat) : OnlyRegs s (jobNamed s src op) [A.CRY_JOB_CTRL, 0x29010, 0x2901C, 0x29020] :=
  (onlyRegs_writeFields s src _ _ _).mono (by decide)

theorem touches_jobNamed (src : Requester) (op : Nat) : Touches [.regs, .bus, .host, .out] [0x29] s (jobNamed s src op) :=
  touches_writeFields src A.CRY_JOB_CTRL _ _

/-- The operations with a job of their own are no reserved encodings. -/
theorem jobWord_notReserved {op : Nat} (hop : 0 < op ∧ op < 7) : reservedEnc s (A.CRY_JOB_CTRL / 0x1000 - basePage (A.CRY_JOB_CTRL / 0x1000))
    (basePage (A.CRY_JOB_CTRL / 0x1000)) 0x028 8
    (bitsOf ((s.reg A.CRY_JOB_CTRL &&& ~~~(allBits &&& 0xFFFFFFFE#32)) ||| (jobWord op &&& (allBits &&& 0xFFFFFFFE#32))).toNat 8 4)
    ((s.reg A.CRY_JOB_CTRL &&& ~~~(allBits &&& 0xFFFFFFFE#32)) ||| (jobWord op &&& (allBits &&& 0xFFFFFFFE#32))).toNat = false := by
  rw [(jobWord_bits (s := s) (by omega)).2]
  have h : (op == 0 || decide (6 < op)) = false := by simp; omega
  exact h

theorem jobNamed_op (src : Requester) {op : Nat} (hop : 0 < op ∧ op < 7) : (jobNamed s src op).fld F.CRY_JOB_CTRL_OP = op := by
  have h := writeFields_fld_rw s src (jobWord op) (allBits &&& 0xFFFFFFFE#32) specOf_jobCtrl (l := 8) (k := 4) (lock := 32) (by decide) (by decide)
    (by decide) (by decide) (by decide) (jobWord_notReserved hop)
  exact h.trans (jobWord_bits (by omega)).2

theorem jobWrite_eq (hs : s.inOperation = true) (hgo : s.flag F.CRY_JOB_CTRL_GO = false) (src : Requester) {op : Nat} (hop : op < 16) :
    jobWrite s src op = startJob (jobNamed s src op) := by
  have hbits : (bit (BitVec.ofNat 32 (256 * op + 1)).toNat 0 && bit allBits.toNat 0) = true := by
    rw [show BitVec.ofNat 32 (256 * op + 1) = jobWord op from rfl, (jobWord_bits (s := s) hop).1]
    decide
  rw [jobWrite, gateWrite_inOperation hs (by decide +kernel), jobRegWrite, jobBusy, hgo, if_neg Bool.false_ne_true, if_pos rfl]
  simp only
  rw [if_pos hbits]
  rfl

/-- The checks of a job read its registers, the slots, the lock and the state of the TRNG. -/
theorem jobCheck_congr {t : State} (hsec : t.sec = s.sec) (hregs : OnlyRegs s t [A.CRY_JOB_CTRL, 0x29010, 0x2901C, 0x29020]) (op : Nat) :
    jobCheck t op = jobCheck s op := by
  have hslot : ∀ n, t.slot n = s.slot n := fun n => by rw [State.slot, State.slot, hsec]
  have hmask : t.mask = s.mask := by rw [State.mask, State.mask, hsec]
  have hlock : ∀ n, slotLocked t n = slotLocked s n := fun n => by rw [slotLocked, slotLocked, hregs A.KSU_LOCK (by decide)]
  have huse : ∀ n d u, slotKeyUse t n d u = slotKeyUse s n d u := fun n d u => by
    unfold slotKeyUse
    rw [hslot]
  have hkey : ∀ u, jobKey t u = jobKey s u := fun u => by rw [jobKey, jobKey, huse, hsec, hregs.fld (f := F.CRY_JOB_KEY_SLOT) (by decide)]
  have htrng : trngFailed t = trngFailed s := hregs.flag (by decide)
  have hagree : agreeCheck t = agreeCheck s := by
    rw [agreeCheck, agreeCheck, hkey, htrng, hslot, hmask, hlock, hregs.fld (f := F.CRY_JOB_KEY_TARGET) (by decide),
      hregs.fld (f := F.CRY_JOB_ATTR_ATTR) (by decide), hregs.fld (f := F.CRY_JOB_EPOCH_EPOCH) (by decide)]
  unfold jobCheck
  rw [hkey, htrng, hagree]

/-- A job ends (R587). -/
theorem endJob_spec (op status : Nat) (bytes : List Byte) : (endJob s op status bytes).sec.result = some { op := op, status := status, bytes := bytes } ∧
    (endJob s op status bytes).sec.job = none ∧ (endJob s op status bytes).flag F.CRY_JOB_CTRL_GO = false ∧
    (endJob s op status bytes).flag F.CRY_STATUS_JOB_BUSY = false ∧ causeSet (endJob s op status bytes) 0x29 0 = true ∧
    OnlyRegs s (endJob s op status bytes) [A.CRY_JOB_CTRL, A.CRY_STATUS, 0x29010] := by
  unfold endJob
  simp only
  have hsame : OnlyRegs s { s with sec := { s.sec with job := none, result := some { op := op, status := status, bytes := bytes } } } [] := fun _ _ => rfl
  have hresult : ({ s with sec := { s.sec with job := none, result := some { op := op, status := status, bytes := bytes } } } : State).sec.result =
      some { op := op, status := status, bytes := bytes } := rfl
  have hjob : ({ s with sec := { s.sec with job := none, result := some { op := op, status := status, bytes := bytes } } } : State).sec.job = none := rfl
  generalize ({ s with sec := { s.sec with job := none, result := some { op := op, status := status, bytes := bytes } } } : State) = u at hsame hresult hjob
  have hgo := State.flag_setFld_zero u (f := F.CRY_JOB_CTRL_GO) (by decide)
  have hu := onlyRegs_setFld u F.CRY_JOB_CTRL_GO 0
  have husec : (u.setFld F.CRY_JOB_CTRL_GO 0).sec = u.sec := rfl
  generalize u.setFld F.CRY_JOB_CTRL_GO 0 = v at hgo hu husec
  have hbusy := State.flag_setFld_zero v (f := F.CRY_STATUS_JOB_BUSY) (by decide)
  have hv := onlyRegs_setFld v F.CRY_STATUS_JOB_BUSY 0
  have hvsec : (v.setFld F.CRY_STATUS_JOB_BUSY 0).sec = v.sec := rfl
  generalize v.setFld F.CRY_STATUS_JOB_BUSY 0 = w at hbusy hv hvsec
  have hw := onlyRegs_setCause w 0x29 0
  have hsec : (setCause w 0x29 0).sec = u.sec := by rw [setCause_sec, hvsec, husec]
  refine ⟨by rw [hsec, hresult], by rw [hsec, hjob], ?_, (hw.flag (by decide)).trans hbusy, ?_, ((hsame.trans hu).trans (hv.trans hw)).mono (by decide)⟩
  · exact (hw.flag (by decide)).trans ((hv.flag (by decide)).trans hgo)
  · rw [causeSet_setCause _ _ _ _ (by decide), beq_self_eq_true, Bool.or_true]

theorem touches_beginReplace (r : Replace) : Touches [.regs, .sec] [0x28] s (beginReplace s r) :=
  Touches.then (x := putReplace s r) (touches_parts [.sec] rfl |>.mono (hs := [])) (touches_setSlot r.slot _)

theorem beginReplace_job (r : Replace) : (beginReplace s r).sec.job = s.sec.job := by
  rw [beginReplace, setSlot_sec]
  rfl

/-- The job held with the status of its checks, GO and JOB_BUSY set. -/
def jobHeld (s : State) (op : Nat) : State :=
  let u := if jobCheck s op = some 0x03 then denied s else s
  ({ u with sec := { u.sec with job := some { op := op, status := jobCheck s op, data := [] } } }.setFld F.CRY_JOB_CTRL_GO 1).setFld F.CRY_STATUS_JOB_BUSY 1

/-- The replacement that a KEY_AGREE job begins (R586). -/
def agreed (s : State) : Replace :=
  { slot := s.fld F.CRY_JOB_KEY_TARGET, cmd := none, key := [], attr := s.fld F.CRY_JOB_ATTR_ATTR, epoch := s.fld F.CRY_JOB_EPOCH_EPOCH,
    targetB := targetHalf (s.slot (s.fld F.CRY_JOB_KEY_TARGET)), phase := 0 }

theorem startJob_eq (hs : s.operating = true) (hen : s.flag F.CRY_CTRL_JOB_EN = true) (h0 : s.fld F.CRY_JOB_CTRL_OP ≠ 0) :
    startJob s = if (decide (s.fld F.CRY_JOB_CTRL_OP = 5) && (jobCheck s (s.fld F.CRY_JOB_CTRL_OP)).isNone) = true then
      (if (replaceOf (jobHeld s (s.fld F.CRY_JOB_CTRL_OP)) ((jobHeld s (s.fld F.CRY_JOB_CTRL_OP)).fld F.CRY_JOB_KEY_TARGET)).isSome = true then
        jobHeld s (s.fld F.CRY_JOB_CTRL_OP)
      else beginReplace (jobHeld s (s.fld F.CRY_JOB_CTRL_OP)) (agreed (jobHeld s (s.fld F.CRY_JOB_CTRL_OP)))) else jobHeld s (s.fld F.CRY_JOB_CTRL_OP) :=
  (if_neg (by rw [hs, hen]; decide)).trans (if_neg h0)

theorem startJob_held (hs : s.operating = true) (hen : s.flag F.CRY_CTRL_JOB_EN = true) {op : Nat} (hop : s.fld F.CRY_JOB_CTRL_OP = op) (h0 : op ≠ 0) :
    startJob s = jobHeld s op ∨ startJob s = beginReplace (jobHeld s op) (agreed (jobHeld s op)) := by
  subst hop
  rw [startJob_eq hs hen h0]
  generalize jobHeld s (s.fld F.CRY_JOB_CTRL_OP) = u
  split
  · split
    · exact .inl rfl
    · exact .inr rfl
  · exact .inl rfl

theorem jobHeld_spec (op : Nat) : (jobHeld s op).flag F.CRY_JOB_CTRL_GO = true ∧ (jobHeld s op).fld F.CRY_JOB_CTRL_OP = s.fld F.CRY_JOB_CTRL_OP ∧
    (jobHeld s op).flag F.CRY_STATUS_JOB_BUSY = true ∧ (jobHeld s op).sec.job = some { op := op, status := jobCheck s op, data := [] } ∧
    SameMemory s (jobHeld s op) := by
  unfold jobHeld
  simp only
  have hdenied : Touches [.regs, .host, .out] [0x28] s (if jobCheck s op = some 0x03 then denied s else s) :=
    Touches.ite (fun _ => touches_denied s) (fun _ => Touches.refl s)
  generalize (if jobCheck s op = some 0x03 then denied s else s) = u at hdenied
  have hu : Touches [.sec] [] u { u with sec := { u.sec with job := some { op := op, status := jobCheck s op, data := [] } } } := touches_parts [.sec] rfl
  have hjob : ({ u with sec := { u.sec with job := some { op := op, status := jobCheck s op, data := [] } } } : State).sec.job =
    some { op := op, status := jobCheck s op, data := [] } := rfl
  generalize ({ u with sec := { u.sec with job := some { op := op, status := jobCheck s op, data := [] } } } : State) = v at hu hjob
  have hv := onlyRegs_setFld (v.setFld F.CRY_JOB_CTRL_GO 1) F.CRY_STATUS_JOB_BUSY 1
  refine ⟨(hv.flag (by decide)).trans (State.flag_setFld_one v (by decide) (by decide)), ?_, State.flag_setFld_one _ (by decide) (by decide), hjob, ?_⟩
  · rw [hv.fld (by decide), State.fld_setFld_apart v F.CRY_JOB_CTRL_GO F.CRY_JOB_CTRL_OP 1 (by decide) (by decide), hu.fld (by decide),
      hdenied.fld (by decide)]
  · exact fun a => (hdenied.mono.trans (hu.mono (ps := [.sec, .regs, .host, .out]) (gs := [0x28]))).ram (by decide) a

/-- A job that may start is held (R585). -/
theorem startJob_spec (hs : s.operating = true) (hen : s.flag F.CRY_CTRL_JOB_EN = true) {op : Nat} (hop : s.fld F.CRY_JOB_CTRL_OP = op) (h0 : op ≠ 0) :
    (startJob s).flag F.CRY_JOB_CTRL_GO = true ∧ (startJob s).fld F.CRY_JOB_CTRL_OP = op ∧
      (startJob s).flag F.CRY_STATUS_JOB_BUSY = true ∧ (startJob s).sec.job = some { op := op, status := jobCheck s op, data := [] } ∧
      SameMemory s (startJob s) := by
  obtain ⟨hgo, hfld, hbusy, hjob, hmem⟩ := jobHeld_spec (s := s) op
  rcases startJob_held hs hen hop h0 with ht | ht <;> rw [ht]
  · exact ⟨hgo, hfld.trans hop, hbusy, hjob, hmem⟩
  · have h := touches_beginReplace (s := jobHeld s op) (agreed (jobHeld s op))
    exact ⟨(h.flag (by decide)).trans hgo, (h.fld (by decide)).trans (hfld.trans hop), (h.flag (by decide)).trans hbusy,
      (beginReplace_job _).trans hjob, SameMemory.trans hmem (fun a => h.ram (by decide) a)⟩

/-- A job without permission ends at once (R585). -/
theorem startJob_off (hen : s.flag F.CRY_CTRL_JOB_EN = false) :
    startJob s = endJob (s.count F.CRY_JOBS_REFUSED_COUNT 1) (s.fld F.CRY_JOB_CTRL_OP) 0x07 [] := by
  rw [startJob, hen, Bool.not_false, Bool.or_true, if_pos rfl]

theorem State.operating_of_touches {t : State} {ps : List Area} {gs : List Nat} (h : Touches ps gs s t) (hd : .dev ∉ ps := by decide)
    (hp : .pow ∉ ps := by decide) (hg : F.SYS_STATUS_DEV_STATE.addr / 0x1000 ∉ gs := by decide) : t.operating = s.operating := by
  have hst : t.devState = s.devState := h.fld (f := F.SYS_STATUS_DEV_STATE) hg
  have hdev : t.dev = s.dev := h.part .dev hd
  have hpow : t.pow = s.pow := h.part .pow hp
  rw [State.operating, State.inOperation, State.answers, hdev, hpow, hst, State.operating, State.inOperation, State.answers]

theorem State.inOperation_of_operating (h : s.operating = true) : s.inOperation = true := by
  rw [State.operating, Bool.and_eq_true] at h
  exact h.1

/-- A write of `JOB_CTRL` that starts a job (R585). -/
theorem jobWrite_spec (hs : s.operating = true) (hgo : s.flag F.CRY_JOB_CTRL_GO = false) (src : Requester) {op : Nat} (hop : 0 < op ∧ op < 7) :
    (s.flag F.CRY_CTRL_JOB_EN = true → (jobWrite s src op).flag F.CRY_JOB_CTRL_GO = true ∧ (jobWrite s src op).fld F.CRY_JOB_CTRL_OP = op ∧
      (jobWrite s src op).flag F.CRY_STATUS_JOB_BUSY = true ∧
      (jobWrite s src op).sec.job = some { op := op, status := jobCheck s op, data := [] } ∧ SameMemory s (jobWrite s src op)) ∧
    (s.flag F.CRY_CTRL_JOB_EN = false → (jobWrite s src op).sec.result = some { op := op, status := 0x07, bytes := [] } ∧
      (jobWrite s src op).sec.job = none ∧ (jobWrite s src op).flag F.CRY_JOB_CTRL_GO = false ∧ causeSet (jobWrite s src op) 0x29 0 = true ∧
      (jobWrite s src op).fld F.CRY_JOBS_REFUSED_COUNT = satAdd 32 (s.fld F.CRY_JOBS_REFUSED_COUNT) 1) := by
  rw [jobWrite_eq (State.inOperation_of_operating hs) hgo src (by omega)]
  have honly := onlyRegs_jobNamed (s := s) src op
  have htouch := touches_jobNamed (s := s) src op
  have hname := jobNamed_op (s := s) src hop
  have hcheck := jobCheck_congr (s := s) (htouch.part .sec (by decide)) honly op
  generalize jobNamed s src op = u at honly htouch hname hcheck
  have hu : u.operating = true := (State.operating_of_touches htouch).trans hs
  refine ⟨fun hen => ?_, fun hen => ?_⟩
  · obtain ⟨hgo', hfld, hbusy, hjob, hmem⟩ := startJob_spec hu ((honly.flag (by decide)).trans hen) hname (by omega)
    exact ⟨hgo', hfld, hbusy, by rw [hjob, hcheck], fun a => (hmem a).trans (htouch.ram (by decide) a)⟩
  · rw [startJob_off ((honly.flag (by decide)).trans hen), hname]
    obtain ⟨hresult, hjob, hgo', _, hcause, hregs⟩ := endJob_spec (s := u.count F.CRY_JOBS_REFUSED_COUNT 1) op 0x07 []
    refine ⟨hresult, hjob, hgo', hcause, ?_⟩
    rw [hregs.fld (by decide), State.fld_count_self _ _ _ (by decide), honly.fld (by decide)]

end

/-! ### A job ends, its result is read (R587) -/

section
variable {s : State}

theorem jobDone_decided {j : Job} {st : Nat} (hj : s.sec.job = some j) (hst : j.status = some st) (readBack : Bool) :
    jobDone s readBack = endJob s j.op st [] := by
  simp only [jobDone, hj, hst]

theorem jobDone_sha {j : Job} (hj : s.sec.job = some j) (hst : j.status = none) (hop : j.op = 1)
    (hlen : j.data.length = s.fld F.CRY_JOB_LEN_BYTES) (readBack : Bool) :
    jobDone s readBack = endJob s 1 0x00 (slice (Config.sha256 j.data) 0 32) := by
  simp only [jobDone, hj, hst, hop, hlen, if_true]

/-- The result taken, its words kept as the ones last consumed. -/
def resultTaken (s : State) : State :=
  { s with sec := { s.sec with result := none, resultLast := ((jobResWords s).headD 0#32 &&& 0x7FFFFFFF#32) :: (jobResWords s).drop 1 } }

theorem jobResPop_spec (src : Requester) {r : JobResult} (h : s.sec.result = some r) :
    (jobResPop s src).out = s.out ++ [.readData src A.CRY_JOB_RES (BitVec.ofNat 32 (2 ^ 31 + 256 * r.op + r.status))] ∧
      (jobResPop s src).sec.result = (if src = .jtag then some r else none) ∧ OnlyRegs s (jobResPop s src) [] := by
  have hhead : (jobResWords s).headD 0#32 = BitVec.ofNat 32 (2 ^ 31 + 256 * r.op + r.status) := by
    rw [jobResWords, h]
    rfl
  by_cases hj : src = .jtag
  · have hpop : jobResPop s src = readWide s src A.CRY_JOB_RES (jobResWords s) := by
      subst hj
      rfl
    have htouch := touches_readWide (s := s) src A.CRY_JOB_RES (jobResWords s)
    rw [hpop, if_pos hj]
    refine ⟨by rw [readWide_out, hhead], ?_, fun a _ => htouch.reg a (by simp)⟩
    rw [htouch.part .sec (by decide), h]
  · have hpop : jobResPop s src = readWide (resultTaken s) src A.CRY_JOB_RES (jobResWords s) := by
      have hsome : (readWide s src A.CRY_JOB_RES (jobResWords s)).sec.result.isNone = false := by
        rw [(touches_readWide (s := s) src A.CRY_JOB_RES (jobResWords s)).part .sec (by decide), h]
        rfl
      rw [jobResPop]
      simp only [hsome, hj]
      cases src
      case jtag => exact absurd rfl hj
      all_goals rfl
    have htouch := touches_readWide (s := resultTaken s) src A.CRY_JOB_RES (jobResWords s)
    rw [hpop, if_neg hj]
    refine ⟨by rw [readWide_out, hhead]; rfl, ?_, fun a _ => htouch.reg a (by simp)⟩
    rw [htouch.part .sec (by decide)]
    rfl

/-- The request for GCM at the head of the queue, served (R582). -/
theorem gcmServed_spec {ok : Bool} {rest : List Bool} (hs : s.operating = true) (h : s.sec.gcm = ok :: rest) :
    ∃ t, exec (.gcmRequest false) s = .next t ∧ t.sec.gcm = rest ∧ t.flag F.CRY_STATUS_GCM_BACKLOG = false ∧
      t.fld F.CRY_GCM_OPS_COUNT = satAdd 32 (s.fld F.CRY_GCM_OPS_COUNT) 1 ∧
      t.fld F.CRY_GCM_FAIL_COUNT = (if ok then s.fld F.CRY_GCM_FAIL_COUNT else satAdd 32 (s.fld F.CRY_GCM_FAIL_COUNT) 1) := by
  have hexec : exec (.gcmRequest false) s = .next (if ok then
      ({ s with sec := { s.sec with gcm := rest } }.setFld F.CRY_STATUS_GCM_BACKLOG 0).count F.CRY_GCM_OPS_COUNT 1
      else (({ s with sec := { s.sec with gcm := rest } }.setFld F.CRY_STATUS_GCM_BACKLOG 0).count F.CRY_GCM_OPS_COUNT 1).count F.CRY_GCM_FAIL_COUNT 1) := by
    simp only [exec, execGcmRequest, hs, h, Bool.not_true, Bool.false_eq_true, if_false]
  refine ⟨_, hexec, ?_⟩
  have hx : OnlyRegs s { s with sec := { s.sec with gcm := rest } } [] := fun _ _ => rfl
  have hgcm : ({ s with sec := { s.sec with gcm := rest } } : State).sec.gcm = rest := rfl
  generalize ({ s with sec := { s.sec with gcm := rest } } : State) = x at hx hgcm
  have hoff := State.flag_setFld_zero x (f := F.CRY_STATUS_GCM_BACKLOG) (by decide)
  have hy := onlyRegs_setFld x F.CRY_STATUS_GCM_BACKLOG 0
  have hysec : (x.setFld F.CRY_STATUS_GCM_BACKLOG 0).sec = x.sec := rfl
  generalize x.setFld F.CRY_STATUS_GCM_BACKLOG 0 = y at hoff hy hysec
  have hops := State.fld_count_self y F.CRY_GCM_OPS_COUNT 1 (by decide)
  have hz := onlyRegs_count y F.CRY_GCM_OPS_COUNT 1
  have hzsec : (y.count F.CRY_GCM_OPS_COUNT 1).sec = y.sec := rfl
  generalize y.count F.CRY_GCM_OPS_COUNT 1 = z at hops hz hzsec
  have hgcm' : z.sec.gcm = rest := by rw [hzsec, hysec, hgcm]
  have hzoff : z.flag F.CRY_STATUS_GCM_BACKLOG = false := (hz.flag (by decide)).trans hoff
  have hzops : z.fld F.CRY_GCM_OPS_COUNT = satAdd 32 (s.fld F.CRY_GCM_OPS_COUNT) 1 := by rw [hops, hy.fld (by decide), hx.fld (by decide)]
  have hzfail : z.fld F.CRY_GCM_FAIL_COUNT = s.fld F.CRY_GCM_FAIL_COUNT := by rw [hz.fld (by decide), hy.fld (by decide), hx.fld (by decide)]
  cases ok with
  | true => exact ⟨hgcm', hzoff, hzops, hzfail⟩
  | false =>
    have hlast := onlyRegs_count z F.CRY_GCM_FAIL_COUNT 1
    refine ⟨hgcm', (hlast.flag (by decide)).trans hzoff, (hlast.fld (by decide)).trans hzops, ?_⟩
    have hfail : (z.count F.CRY_GCM_FAIL_COUNT 1).fld F.CRY_GCM_FAIL_COUNT = satAdd 32 (z.fld F.CRY_GCM_FAIL_COUNT) 1 := State.fld_count_self _ _ _ (by decide)
    rw [hzfail] at hfail
    exact hfail

end

/-! ### The statement -/

/-- Settles O40: jobs start and end, their result is read once, requests for GCM are served in order. -/
theorem cryptoJobsStartAndEnd : Obligations.CryptoJobsStartAndEnd := by
  unfold Obligations.CryptoJobsStartAndEnd
  refine ⟨fun s src c op hs hgo hc => ?_, fun s src data j hs hj hop => ?_, fun s readBack j op st bytes hs hj h => ?_,
    fun s src r hs hr => ?_, fun s ok rest hs h => ⟨gcmServed_spec hs h, ?_⟩, fun s hs hb => ?_⟩
  · have hjob : ∃ t, exec c s = .next t ∧ t = jobWrite s src op ∧ 0 < op ∧ op < 7 := by
      simp only [List.mem_cons, Prod.mk.injEq, List.not_mem_nil, or_false] at hc
      rcases hc with ⟨rfl, rfl⟩ | ⟨rfl, rfl⟩ | ⟨rfl, rfl⟩ | ⟨rfl, rfl⟩ | ⟨rfl, rfl⟩ | ⟨rfl, rfl⟩ <;> exact ⟨_, rfl, rfl, by decide, by decide⟩
    obtain ⟨t, hexec, rfl, h0, h7⟩ := hjob
    obtain ⟨hon, hoff⟩ := jobWrite_spec hs hgo src ⟨h0, h7⟩
    exact ⟨fun h => ⟨_, hexec, hon h⟩, fun h => ⟨_, hexec, hoff h⟩⟩
  · refine (congrArg Host.Outcome.next (gateWrite_inOperation hs (by decide +kernel) src _)).trans ?_
    simp only [jobData, hj, hop, bne_self_eq_false, Bool.false_eq_true, if_false]
  · have hdone : jobDone s readBack = endJob s op st bytes := by
      rcases h with ⟨hst, rfl, rfl⟩ | ⟨hst, hop, hlen, rfl, rfl, rfl⟩
      · exact jobDone_decided hj hst readBack
      · exact jobDone_sha hj hst hop hlen readBack
    exact ⟨_, (congrArg Host.Outcome.next (if_pos hs)).trans (congrArg _ hdone), endJob_spec op st bytes⟩
  · exact ⟨_, congrArg Host.Outcome.next (gateRead_inOperation hs (by decide +kernel) src _), jobResPop_spec src hr⟩
  · refine ⟨s.setFld F.CRY_STATUS_GCM_BACKLOG 1, ?_, rfl, State.flag_setFld_one s (by decide) (by decide)⟩
    simp only [exec, execGcmRequest, hs, h, Bool.not_true, Bool.false_eq_true, if_false, if_true]
  · refine ⟨_, congrArg Host.Outcome.next (if_pos (by rw [hs, hb]; rfl)), ?_, onlyRegs_setCause s 0x29 1⟩
    rw [causeSet_setCause _ _ _ _ (by decide), beq_self_eq_true, Bool.or_true]

end Sys2Proof.Machine
end

section
/-!
PROOFS. The mirror link: frames, its state, the copy, its deadlines (19_stroke_and_bow_redundancy.md, The mirror link and Roles).
-/
namespace Sys2Proof.Machine

-- One proof after another: side by side, the threads of so long a text want more memory than the check grants.
set_option Elab.async false

/-! ### The state of the link (R630, R635, R636) -/

section
variable {s : State}

/-- A conflict shows in its count, its cause and the count of aborts; the other registers of RED stay. -/
theorem conflictCheck_regs {a : Nat} (hp : a / 0x1000 = 0x31) (hab : a ≠ A.RED_ILK_ABORTS) (hco : a ≠ A.RED_ILK_CONFLICTS) (hirq : a ≠ 0x31010) :
    (conflictCheck s).reg a = s.reg a := by
  unfold conflictCheck
  split
  · have hdraw := touches_drawNat s 91
    generalize drawNat s 91 = d at hdraw
    have hcount := onlyRegs_count (d.2.setRed { d.2.red with backoff := true }) F.RED_ILK_CONFLICTS_COUNT 1
    have hevent := onlyRegs_event ((d.2.setRed { d.2.red with backoff := true }).count F.RED_ILK_CONFLICTS_COUNT 1) 0x31 0 0x1305 2 (leBytes 1 (10 + d.1))
    have hgate := gateKept_gateCheck (s := setCause (State.event ((d.2.setRed { d.2.red with backoff := true }).count F.RED_ILK_CONFLICTS_COUNT 1)
      0x31 0 0x1305 2 (leBytes 1 (10 + d.1))) 0x31 4)
    refine (hgate.red a hp hab).trans ?_
    refine (onlyRegs_setCause _ 0x31 4 a (by simpa using hirq)).trans ?_
    refine (hevent a (by simp)).trans ?_
    exact (hcount a (by simpa using hco)).trans (hdraw.reg a (by simp))
  · rfl

theorem conflictCheck_causes {b : Nat} (hb : b < 32) (h : causeSet s 0x31 b = true) : causeSet (conflictCheck s) 0x31 b = true := by
  unfold conflictCheck
  split
  · have hdraw := touches_drawNat s 91
    generalize drawNat s 91 = d at hdraw
    have hcount := onlyRegs_count (d.2.setRed { d.2.red with backoff := true }) F.RED_ILK_CONFLICTS_COUNT 1
    have hevent := onlyRegs_event ((d.2.setRed { d.2.red with backoff := true }).count F.RED_ILK_CONFLICTS_COUNT 1) 0x31 0 0x1305 2 (leBytes 1 (10 + d.1))
    have hgate := gateKept_gateCheck (s := setCause (State.event ((d.2.setRed { d.2.red with backoff := true }).count F.RED_ILK_CONFLICTS_COUNT 1)
      0x31 0 0x1305 2 (leBytes 1 (10 + d.1))) 0x31 4)
    have hsame : (State.event ((d.2.setRed { d.2.red with backoff := true }).count F.RED_ILK_CONFLICTS_COUNT 1)
        0x31 0 0x1305 2 (leBytes 1 (10 + d.1))).reg 0x31010 = s.reg 0x31010 :=
      (hevent 0x31010 (by decide)).trans ((hcount 0x31010 (by decide)).trans (hdraw.reg 0x31010 (by decide)))
    simp only
    rw [causeSet, hgate.red _ (by decide) (by decide)]
    refine (causeSet_setCause _ 0x31 4 b hb).trans ?_
    rw [causeSet, hsame]
    have h' : bit (s.reg 0x31010).toNat b = true := h
    rw [h', Bool.true_or]
  · exact h

theorem conflictCheck_decided : (conflictCheck s).red.decided = s.red.decided := by
  unfold conflictCheck
  split
  · have hred : (drawNat s 91).2.red = s.red := (touches_drawNat s 91).part .red (by decide)
    refine (congrArg Red.decided (gateKept_gateCheck (s := setCause (State.event (((drawNat s 91).2.setRed { (drawNat s 91).2.red with
      backoff := true }).count F.RED_ILK_CONFLICTS_COUNT 1) 0x31 0 0x1305 2 (leBytes 1 (10 + (drawNat s 91).1))) 0x31 4)).redPart).trans ?_
    rw [setCause_red]
    show (drawNat s 91).2.red.decided = _
    rw [hred]
  · rfl

/-- The new state of the link shown, with its event and its cause. -/
def linkShown (s : State) (new reason : Nat) : State :=
  setCause ((s.event 0x31 0 0x1301 (if link s = 3 then 2 else 1) (leBytes 1 (link s) ++ leBytes 1 new ++ leBytes 1 reason)).setFld F.RED_STATUS_LINK new)
    0x31 1

theorem onlyRegs_linkShown (new reason : Nat) : OnlyRegs s (linkShown s new reason) [A.RED_STATUS, 0x31010] := by
  have hevent := onlyRegs_event s 0x31 0 0x1301 (if link s = 3 then 2 else 1) (leBytes 1 (link s) ++ leBytes 1 new ++ leBytes 1 reason)
  exact ((hevent.trans (onlyRegs_setFld _ F.RED_STATUS_LINK new)).trans (onlyRegs_setCause _ 0x31 1)).mono (by decide)

theorem touches_linkShown (new reason : Nat) : Touches [.regs, .log, .host, .out] [0x31] s (linkShown s new reason) :=
  ((touches_event (gs := []) _ _ _ _ _).mono.then (touches_setFld F.RED_STATUS_LINK new)).then (touches_setCause 0x31 1)

theorem linkShown_spec {new : Nat} (hnew : new < 4) (reason : Nat) : link (linkShown s new reason) = new ∧ role (linkShown s new reason) = role s ∧
    causeSet (linkShown s new reason) 0x31 1 = true ∧ lastEvent (linkShown s new reason) 0x31 0x1301 := by
  have hevent := lastEvent_event (s := s) 0x31 0 0x1301 (if link s = 3 then 2 else 1) (leBytes 1 (link s) ++ leBytes 1 new ++ leBytes 1 reason)
  have hregs := onlyRegs_event s 0x31 0 0x1301 (if link s = 3 then 2 else 1) (leBytes 1 (link s) ++ leBytes 1 new ++ leBytes 1 reason)
  unfold linkShown
  generalize s.event 0x31 0 0x1301 _ _ = u at hevent hregs
  have hcause := onlyRegs_setCause (u.setFld F.RED_STATUS_LINK new) 0x31 1
  refine ⟨?_, ?_, ?_, lastEvent_setCause _ _ (lastEvent_of_log (t := u) rfl hevent)⟩
  · rw [link, hcause.fld (by decide), State.fld_setFld_self _ _ _ (by decide)]
    exact Nat.mod_eq_of_lt (show new < 2 ^ 3 by omega)
  · rw [role, hcause.fld (by decide), State.fld_setFld_apart _ _ _ _ (by decide) (by decide), hregs.fld (by decide), role]
  · rw [causeSet_setCause _ _ _ _ (by decide), beq_self_eq_true, Bool.or_true]

theorem setLink_same {new : Nat} (h : link s = new) (reason : Nat) : setLink s new reason = s := if_pos h

/-- The link goes down (R630, R635). -/
theorem setLink_down (reason : Nat) (h : link s ≠ 0) : setLink s 0 reason =
    if link s = 3 then (if role (((linkShown s 0 reason).count F.RED_LINK_DOWNS_COUNT 1).setReg A.RED_DATUM_ERR 0#32) = 1 then
      conflictCheck ((((linkShown s 0 reason).count F.RED_LINK_DOWNS_COUNT 1).setReg A.RED_DATUM_ERR 0#32).setFld F.RED_STATUS_HOLD 1)
      else ((linkShown s 0 reason).count F.RED_LINK_DOWNS_COUNT 1).setReg A.RED_DATUM_ERR 0#32)
    else (linkShown s 0 reason).count F.RED_LINK_DOWNS_COUNT 1 :=
  if_neg h

/-- What the link shows once it is down. -/
structure LinkDown (s t : State) : Prop where
  link : link t = 0
  count : t.fld F.RED_LINK_DOWNS_COUNT = satAdd 32 (s.fld F.RED_LINK_DOWNS_COUNT) 1
  cause : causeSet t 0x31 1 = true

theorem LinkDown.of_regs {t u : State} (h : LinkDown s t) {l : List Nat} (hregs : OnlyRegs t u l) (hl : A.RED_LINK_DOWNS ∉ l := by decide)
    (hirq : 0x31010 ∉ l := by decide) (hlink : u.fld F.RED_STATUS_LINK = t.fld F.RED_STATUS_LINK) : LinkDown s u :=
  ⟨hlink.trans h.link, (hregs.fld hl).trans h.count, by rw [causeSet, hregs _ hirq]; exact h.cause⟩

theorem LinkDown.conflict {t : State} (h : LinkDown s t) : LinkDown s (conflictCheck t) :=
  ⟨(State.fld_congr (conflictCheck_regs (by decide) (by decide) (by decide) (by decide))).trans h.link,
    (State.fld_congr (conflictCheck_regs (by decide) (by decide) (by decide) (by decide))).trans h.count, conflictCheck_causes (by decide) h.cause⟩

theorem setLink_down_spec (reason : Nat) (h : link s ≠ 0) : LinkDown s (setLink s 0 reason) ∧
    (link s = 3 → role s = 1 → (setLink s 0 reason).flag F.RED_STATUS_HOLD = true) := by
  obtain ⟨hlink, hrole, hcause, -⟩ := linkShown_spec (s := s) (new := 0) (by decide) reason
  have hregs := onlyRegs_linkShown (s := s) 0 reason
  rw [setLink_down reason h]
  generalize linkShown s 0 reason = u at hlink hrole hcause hregs
  have hcount := onlyRegs_count u F.RED_LINK_DOWNS_COUNT 1
  have hdown : LinkDown s (u.count F.RED_LINK_DOWNS_COUNT 1) :=
    ⟨(hcount.fld (by decide)).trans hlink, by rw [State.fld_count_self _ _ _ (by decide), hregs.fld (by decide)],
      by rw [causeSet, hcount _ (by decide)]; exact hcause⟩
  have hcrole : role (u.count F.RED_LINK_DOWNS_COUNT 1) = role s := (hcount.fld (f := F.RED_STATUS_ROLE) (by decide)).trans hrole
  generalize u.count F.RED_LINK_DOWNS_COUNT 1 = v at hdown hcrole
  have herr := onlyRegs_setReg v A.RED_DATUM_ERR 0#32
  have hdown' := hdown.of_regs herr (hlink := herr.fld (by decide))
  have hvrole : role (v.setReg A.RED_DATUM_ERR 0#32) = role s := (herr.fld (f := F.RED_STATUS_ROLE) (by decide)).trans hcrole
  generalize v.setReg A.RED_DATUM_ERR 0#32 = w at hdown' hvrole
  by_cases h3 : link s = 3
  · rw [if_pos h3]
    by_cases hr : role s = 1
    · rw [if_pos (hvrole.trans hr)]
      have hhold := onlyRegs_setFld w F.RED_STATUS_HOLD 1
      have hset := State.flag_setFld_one w (f := F.RED_STATUS_HOLD) (by decide) (by decide)
      have hkept := State.fld_setFld_apart w F.RED_STATUS_HOLD F.RED_STATUS_LINK 1 (by decide) (by decide)
      refine ⟨(hdown'.of_regs hhold (hlink := hkept)).conflict, fun _ _ => ?_⟩
      rw [State.flag, State.fld_congr (conflictCheck_regs (by decide) (by decide) (by decide) (by decide))]
      exact hset
    · rw [if_neg (fun hw => hr (hvrole.symm.trans hw))]
      exact ⟨hdown', fun _ hr' => absurd hr' hr⟩
  · rw [if_neg h3]
    exact ⟨hdown, fun h3' => absurd h3' h3⟩

/-- The pair is up: it has been PAIRED, and Datum is to be aligned. -/
def pairedUp (s : State) : State := s.setRed { s.red with wasPaired := true, aligned := false }

/-- The link comes up (R630, R636). -/
theorem setLink_paired (reason : Nat) (h : link s ≠ 3) : setLink s 3 reason =
    if role (pairedUp (linkShown s 3 reason)) = 2 then (pairedUp (linkShown s 3 reason)).setFld F.RED_STATUS_FRESH 1
    else pairedUp (linkShown s 3 reason) :=
  if_neg h

/-- What the link shows once it is PAIRED. -/
structure LinkPaired (s t : State) : Prop where
  link : link t = 3
  wasPaired : t.red.wasPaired = true
  image : t.red.image = s.red.image
  cause : causeSet t 0x31 1 = true
  event : lastEvent t 0x31 0x1301
  fresh : role s = 2 → t.flag F.RED_STATUS_FRESH = true
  regs : OnlyRegs s t [A.RED_STATUS, 0x31010]
  touches : Touches [.regs, .log, .host, .out, .red] [0x31] s t

theorem setLink_paired_spec (reason : Nat) (h : Machine.link s ≠ 3) : LinkPaired s (setLink s 3 reason) := by
  obtain ⟨hlink, hrole, hcause, hevent⟩ := linkShown_spec (s := s) (new := 3) (by decide) reason
  have hregs := onlyRegs_linkShown (s := s) 3 reason
  have htouch := touches_linkShown (s := s) 3 reason
  rw [setLink_paired reason h]
  generalize linkShown s 3 reason = u at hlink hrole hcause hevent hregs htouch
  have hured : u.red = s.red := htouch.part .red (by decide)
  have himage : (pairedUp u).red.image = s.red.image := by
    rw [← hured]
    rfl
  have hu : Touches [.regs, .log, .host, .out, .red] [0x31] s (pairedUp u) := htouch.mono.then (touches_setRed _)
  have hsame : OnlyRegs u (pairedUp u) [] := fun _ _ => rfl
  have hpaired : (pairedUp u).red.wasPaired = true := rfl
  have hlog : (pairedUp u).log = u.log := rfl
  have hevent' := lastEvent_of_log hlog hevent
  generalize pairedUp u = v at himage hu hsame hpaired hevent'
  have hvrole : role v = role s := (hsame.fld (f := F.RED_STATUS_ROLE) (by decide)).trans hrole
  have hvlink : Machine.link v = 3 := (hsame.fld (f := F.RED_STATUS_LINK) (by decide)).trans hlink
  have hvcause : causeSet v 0x31 1 = true := by
    rw [causeSet, hsame _ (by decide)]
    exact hcause
  by_cases hr : role s = 2
  · rw [if_pos (hvrole.trans hr)]
    have hfresh := onlyRegs_setFld v F.RED_STATUS_FRESH 1
    exact ⟨(State.fld_setFld_apart v F.RED_STATUS_FRESH F.RED_STATUS_LINK 1 (by decide) (by decide)).trans hvlink, hpaired, himage,
      by rw [causeSet, hfresh _ (by decide)]; exact hvcause, lastEvent_of_log (t := v) rfl hevent', fun _ => State.flag_setFld_one _ (by decide) (by decide),
      (hregs.trans (hsame.trans hfresh)).mono (by decide), hu.then (touches_setFld F.RED_STATUS_FRESH 1)⟩
  · rw [if_neg (fun hw => hr (hvrole.symm.trans hw))]
    exact ⟨hvlink, hpaired, himage, hvcause, hevent', fun hr' => absurd hr' hr, (hregs.trans hsame).mono (by decide), hu⟩

end

/-! ### Frames received (R631, R632) -/

section
variable {s : State}

/-- The acknowledgements taken in, with no uplink waiting for one. -/
theorem ackRx_idle (hheld : s.red.held = []) (ack : Nat) :
    ackRx s ack = s.setRed { s.red with unacked := s.red.unacked.filter (fun f => !notAfter f.1 ack) } := by
  have hnone : (s.setRed { s.red with unacked := s.red.unacked.filter (fun f => !notAfter f.1 ack) }).red.held = [] := hheld
  unfold ackRx
  simp only
  rw [hnone]
  simp only [List.filter_nil, List.foldl_nil, State.setRed, hheld]

/-- The round trip and the acknowledgements of a good frame taken in. -/
def frameHeard (s : State) (ack rtt : Nat) : State :=
  (s.setFld F.RED_LINK_RTT_NS_NS rtt).setRed { s.red with unacked := s.red.unacked.filter (fun f => !notAfter f.1 ack) }

theorem mirrorRx_eq (hlink : link s ≠ 0) (hheld : s.red.held = []) (mseq ack : Nat) (items : List MirrorItem) (rtt : Nat) :
    mirrorRx s mseq ack items rtt = if items.all (fun i => i == .heartbeat) = true then frameHeard s ack rtt
      else if ((decide (link (frameHeard s ack rtt) = 1) && items.any (fun i => match i with
          | .hello .. => true
          | _ => false)) || decide (mseq = (s.red.rxLast + 1) % 2 ^ 32)) = true then
        heartbeat ((items.foldl applyItem ((frameHeard s ack rtt).setRed { (frameHeard s ack rtt).red with rxLast := mseq })).count
          F.RED_ITEMS_RX_COUNT items.length)
      else heartbeat (frameHeard s ack rtt) := by
  have hlink' : link (s.setFld F.RED_LINK_RTT_NS_NS rtt) ≠ 0 := by
    rw [link, State.fld_setFld_apart s F.RED_LINK_RTT_NS_NS F.RED_STATUS_LINK rtt (by decide) (by decide)]
    exact hlink
  have hack : ackRx (s.setFld F.RED_LINK_RTT_NS_NS rtt) ack = frameHeard s ack rtt := ackRx_idle (s := s.setFld F.RED_LINK_RTT_NS_NS rtt) hheld ack
  unfold mirrorRx
  simp only
  rw [if_neg hlink', hack] <;> rfl

theorem frameHeard_spec (ack : Nat) (rtt : BitVec 16) : (frameHeard s ack rtt.toNat).fld F.RED_LINK_RTT_NS_NS = rtt.toNat ∧
    OnlyRegs s (frameHeard s ack rtt.toNat) [A.RED_LINK_RTT_NS] := by
  refine ⟨?_, onlyRegs_setFld s F.RED_LINK_RTT_NS_NS rtt.toNat⟩
  exact (State.fld_setFld_self s F.RED_LINK_RTT_NS_NS rtt.toNat (by decide)).trans (Nat.mod_eq_of_lt rtt.isLt)

/-- An item that changes bytes of a parcel, at a bow (R632). -/
theorem applyItem_parcelDelta {p first : Nat} {bytes : List Byte} (hbow : asBow s = true) (hlink : 2 ≤ link s) (hp : p < parcelCount)
    (hlen : first + bytes.length ≤ 256) : applyItem s (.parcelDelta p first bytes) = s.ramStore (256 * p + first) bytes := by
  have htake : bytes.take (256 - first) = bytes := List.take_of_length_le (by omega)
  have hcond : (asBow s && decide (2 ≤ link s) && decide (p < parcelCount)) = true := by
    rw [hbow, decide_eq_true hlink, decide_eq_true hp]
    rfl
  refine (if_pos hcond).trans ?_
  rw [htake]

theorem asBow_of_regs {t : State} {ps : List Area} {gs : List Nat} (h : Touches ps gs s t) (hrole : role t = role s) (hd : .dev ∉ ps := by decide)
    (hp : .pow ∉ ps := by decide) (hg : F.SYS_STATUS_DEV_STATE.addr / 0x1000 ∉ gs := by decide) : asBow t = asBow s := by
  rw [asBow, asBow, State.ready_of_touches h hd hp hg, hrole]

theorem touches_frameHeard (ack rtt : Nat) : Touches [.regs, .red] [0x31] s (frameHeard s ack rtt) :=
  (touches_setFld F.RED_LINK_RTT_NS_NS rtt).mono.then (touches_setRed _)

/-- A frame of one PARCEL_DELTA with the next MSEQ. -/
theorem mirrorRx_delta (hlink : link s ≠ 0) (hheld : s.red.held = []) {mseq ack : BitVec 32} {rtt : BitVec 16} {p first : Nat} {bytes : List Byte}
    (hnext : mseq.toNat = (s.red.rxLast + 1) % 2 ^ 32) (hbow : asBow s = true) (h2 : 2 ≤ link s) (hp : p < parcelCount)
    (hlen : first + bytes.length ≤ 256) : ∃ t, t = mirrorRx s mseq.toNat ack.toNat [.parcelDelta p first bytes] rtt.toNat ∧
      t.red.rxLast = mseq.toNat ∧ t.ramBytes (256 * p + first) bytes.length = bytes ∧ OnlyMemory s t (256 * p + first) bytes.length ∧
      t.fld F.RED_ITEMS_RX_COUNT = satAdd 32 (s.fld F.RED_ITEMS_RX_COUNT) 1 ∧
      t.out = s.out ++ [.mirror s.red.txNext mseq.toNat [.heartbeat]] := by
  refine ⟨_, rfl, ?_⟩
  rw [mirrorRx_eq hlink hheld, if_neg (show ([MirrorItem.parcelDelta p first bytes].all (fun i => i == .heartbeat)) ≠ true from Bool.false_ne_true),
    if_pos (by rw [decide_eq_true hnext, Bool.or_true])]
  obtain ⟨-, hregs⟩ := frameHeard_spec (s := s) ack.toNat rtt
  have htouch := touches_frameHeard (s := s) ack.toNat rtt.toNat
  have hout : (frameHeard s ack.toNat rtt.toNat).out = s.out := rfl
  have htx : (frameHeard s ack.toNat rtt.toNat).red.txNext = s.red.txNext := rfl
  generalize frameHeard s ack.toNat rtt.toNat = u at hregs htouch hout htx
  have hu : Touches [.red] [] u (u.setRed { u.red with rxLast := mseq.toNat }) := touches_setRed _
  have hlast : (u.setRed { u.red with rxLast := mseq.toNat }).red.rxLast = mseq.toNat := rfl
  have htx' : (u.setRed { u.red with rxLast := mseq.toNat }).red.txNext = u.red.txNext := rfl
  generalize u.setRed { u.red with rxLast := mseq.toNat } = v at hu hlast htx'
  have hv : OnlyRegs s v [A.RED_LINK_RTT_NS] := (hregs.trans (fun a _ => hu.reg a (by simp) : OnlyRegs u v [])).mono (by decide)
  have hsv : Touches [.regs, .red] [0x31] s v := htouch.trans hu.mono
  have hvbow : asBow v = true := (asBow_of_regs hsv (hv.fld (f := F.RED_STATUS_ROLE) (by decide))).trans hbow
  have hvlink : 2 ≤ link v := by
    rw [link, hv.fld (by decide)]
    exact h2
  have hvout : v.out = s.out := (hsv.part .out (by decide))
  rw [List.foldl_cons, List.foldl_nil, applyItem_parcelDelta hvbow hvlink hp hlen]
  have hcount := State.fld_count_self (v.ramStore (256 * p + first) bytes) F.RED_ITEMS_RX_COUNT 1 (by decide)
  refine ⟨hlast, State.ramBytes_ramStore v (256 * p + first) bytes, fun a ha => ?_, ?_, ?_⟩
  · exact (onlyMemory_ramStore v (256 * p + first) bytes a ha).trans (hsv.ram (by decide) a)
  · refine hcount.trans ?_
    rw [State.fld, show (v.ramStore (256 * p + first) bytes).reg = v.reg from rfl, hv _ (by decide)]
    rfl
  · show v.out ++ [Out.mirror v.red.txNext v.red.rxLast [.heartbeat]] = _
    rw [hvout, hlast, htx', htx]

/-- A frame with another MSEQ applies nothing (R631). -/
theorem mirrorRx_other (hlink : link s ≠ 0) (hheld : s.red.held = []) {mseq ack : BitVec 32} {rtt : BitVec 16} {items : List MirrorItem}
    (hitems : items.all (fun i => i == .heartbeat) = false) (h1 : link s ≠ 1) (hnext : mseq.toNat ≠ (s.red.rxLast + 1) % 2 ^ 32) :
    mirrorRx s mseq.toNat ack.toNat items rtt.toNat = heartbeat (frameHeard s ack.toNat rtt.toNat) := by
  have h1' : link (frameHeard s ack.toNat rtt.toNat) ≠ 1 := by
    rw [link, (frameHeard_spec (s := s) ack.toNat rtt).2.fld (by decide)]
    exact h1
  rw [mirrorRx_eq hlink hheld, if_neg (by rw [hitems]; exact Bool.false_ne_true), if_neg]
  rw [decide_eq_false h1', decide_eq_false hnext]
  exact Bool.false_ne_true

end

/-! ### Frames sent (R630, R631, R633) -/

section
variable {s : State}

theorem satAdd_satAdd (w n j k : Nat) : satAdd w (satAdd w n j) k = satAdd w n (j + k) := by
  unfold satAdd
  omega

/-- A frame sent once more. -/
def sentAgain (s : State) (f : Nat × List MirrorItem) : State := (s.count F.RED_RETRANS_COUNT 1).send (.mirror f.1 s.red.rxLast f.2)

theorem retransmit_spec (l : List (Nat × List MirrorItem)) (hmax : s.fld F.RED_RETRANS_COUNT < 2 ^ 32) :
    (l.foldl sentAgain s).out = s.out ++ l.map (fun f => .mirror f.1 s.red.rxLast f.2) ∧
      (l.foldl sentAgain s).fld F.RED_RETRANS_COUNT = satAdd 32 (s.fld F.RED_RETRANS_COUNT) l.length ∧
      OnlyRegs s (l.foldl sentAgain s) [A.RED_RETRANS] ∧
      l.foldl sentAgain s = { s with regs := (l.foldl sentAgain s).regs, out := (l.foldl sentAgain s).out } := by
  induction l generalizing s with
  | nil =>
    refine ⟨by simp, ?_, fun _ _ => rfl, rfl⟩
    simp only [List.foldl_nil, List.length_nil, satAdd]
    omega
  | cons f l ih =>
    have hcount : (sentAgain s f).fld F.RED_RETRANS_COUNT = satAdd 32 (s.fld F.RED_RETRANS_COUNT) 1 := State.fld_count_self s _ 1 (by decide)
    have hregs : OnlyRegs s (sentAgain s f) [A.RED_RETRANS] := onlyRegs_count s F.RED_RETRANS_COUNT 1
    have hout : (sentAgain s f).out = s.out ++ [.mirror f.1 s.red.rxLast f.2] := rfl
    have hlast : (sentAgain s f).red.rxLast = s.red.rxLast := rfl
    have hsame : sentAgain s f = { s with regs := (sentAgain s f).regs, out := (sentAgain s f).out } := rfl
    rw [List.foldl_cons]
    generalize sentAgain s f = t at hcount hregs hout hlast hsame
    obtain ⟨hout', hcount', hregs', hsame'⟩ := ih (s := t) (by rw [hcount]; unfold satAdd; omega)
    refine ⟨?_, ?_, (hregs.trans hregs').mono (by decide), ?_⟩
    · rw [hout', hout, hlast, List.map_cons, List.append_assoc]
      rfl
    · rw [hcount', hcount, satAdd_satAdd, List.length_cons, Nat.add_comm]
    · generalize l.foldl sentAgain t = u at hsame'
      rw [hsame', hsame]

/-- The items of what the device sends. -/
def itemsOf (o : Out) : List MirrorItem :=
  match o with
  | .mirror _ _ items => items
  | _ => []

theorem sendItems_out (l : List MirrorItem) : ∃ sent, (l.foldl sendItem s).out = s.out ++ sent ∧ sent.flatMap itemsOf = l := by
  induction l generalizing s with
  | nil => exact ⟨[], by simp, rfl⟩
  | cons i l ih =>
    obtain ⟨sent, hout, hitems⟩ := ih (s := sendItem s i)
    refine ⟨.mirror s.red.txNext s.red.rxLast [i] :: sent, ?_, ?_⟩
    · rw [List.foldl_cons, hout]
      show (s.out ++ [Out.mirror s.red.txNext s.red.rxLast [i]]) ++ sent = _
      rw [List.append_assoc]
      rfl
    · rw [List.flatMap_cons, hitems]
      rfl

theorem sendItems_rxLast (l : List MirrorItem) : (l.foldl sendItem s).red.rxLast = s.red.rxLast := by
  induction l generalizing s with
  | nil => rfl
  | cons i l ih => exact ih

theorem onlyRegs_sendItems (l : List MirrorItem) : OnlyRegs s (l.foldl sendItem s) [A.RED_ITEMS_TX] :=
  OnlyRegs.foldl (fun t i _ => onlyRegs_sendItem (s := t) i) s

/-- What has been committed goes out without touching more than the link's own state. -/
theorem touches_mirrorFlush : Touches [.regs, .red, .out] [0x31] s (mirrorFlush s) := by
  unfold mirrorFlush
  split
  · exact Touches.refl s
  · exact (touches_setRed _).mono.trans (sendItems_red _)

theorem mirrorFlush_rxLast : (mirrorFlush s).red.rxLast = s.red.rxLast := by
  unfold mirrorFlush
  split
  · rfl
  · exact sendItems_rxLast _

theorem mirrorFlush_idle (h : role s ≠ 1 ∨ link s ≠ 3) : mirrorFlush s = s := by
  refine if_pos ?_
  rcases h with h | h
  · rw [beq_eq_false_iff_ne.2 h, Bool.and_false, Bool.false_and]
    rfl
  · rw [beq_eq_false_iff_ne.2 h, Bool.and_false]
    rfl

/-- The copy (R633). -/
theorem bulkSend_spec : (bulkSend s).red.image = s.dram.filter (fun c => mirrored c.1) ∧
    (∃ sent, (bulkSend s).out = s.out ++ sent ∧ bulkItems s <+: sent.flatMap itemsOf) ∧ OnlyRegs s (bulkSend s) [A.RED_ITEMS_TX] ∧
    Touches [.regs, .red, .out] [0x31] s (bulkSend s) := by
  have hform : ∃ keys epochs, bulkSend s = ((bulkItems s ++ keys).foldl sendItem s).setRed
      { ((bulkItems s ++ keys).foldl sendItem s).red with
        image := ((bulkItems s ++ keys).foldl sendItem s).dram.filter (fun c => mirrored c.1), epochs := epochs } := ⟨_, _, rfl⟩
  obtain ⟨keys, epochs, hform⟩ := hform
  obtain ⟨sent, hout, hitems⟩ := sendItems_out (s := s) (bulkItems s ++ keys)
  have hregs := onlyRegs_sendItems (s := s) (bulkItems s ++ keys)
  have htouch := sendItems_red (s := s) (bulkItems s ++ keys)
  rw [hform]
  generalize (bulkItems s ++ keys).foldl sendItem s = u at hout hregs htouch
  have hdram : u.dram = s.dram := htouch.part .dram (by decide)
  refine ⟨congrArg (List.filter _) hdram, ⟨sent, hout, ?_⟩, hregs, htouch.then (touches_setRed _)⟩
  rw [hitems]
  exact List.prefix_append _ _

/-- The copy is done (R633). -/
def copyDone (s : State) : State := (if role s = 1 then bulkSend s else s).setReg A.RED_SYNC_PROGRESS 100#32

theorem syncDone_eq (h : link s = 2) : syncDone s = setLink (copyDone s) 3 3 := by
  refine if_neg ?_
  rw [h, bne_self_eq_false]
  exact Bool.false_ne_true

theorem copyDone_spec : OnlyRegs s (copyDone s) [A.RED_ITEMS_TX, A.RED_SYNC_PROGRESS] ∧ Touches [.regs, .red, .out] [0x31] s (copyDone s) ∧
    (copyDone s).fld F.RED_SYNC_PROGRESS_PCT = 100 ∧ (role s = 1 → (copyDone s).red.image = s.dram.filter (fun c => mirrored c.1) ∧
      ∃ sent, (copyDone s).out = s.out ++ sent ∧ bulkItems s <+: sent.flatMap itemsOf) := by
  obtain ⟨himage, hsent, hregs, htouch⟩ := bulkSend_spec (s := s)
  have hset : ∀ u : State, (u.setReg A.RED_SYNC_PROGRESS 100#32).fld F.RED_SYNC_PROGRESS_PCT = 100 := fun u => by
    rw [State.fld, State.reg_setReg_self]
    decide
  unfold copyDone
  by_cases hr : role s = 1
  · simp only [if_pos hr]
    exact ⟨(hregs.trans (onlyRegs_setReg _ A.RED_SYNC_PROGRESS _)).mono (by decide), htouch.then (touches_setReg A.RED_SYNC_PROGRESS _), hset _,
      fun _ => ⟨himage, hsent⟩⟩
  · simp only [if_neg hr]
    exact ⟨(onlyRegs_setReg s A.RED_SYNC_PROGRESS _).mono (by decide), (touches_setReg A.RED_SYNC_PROGRESS _).mono, hset _, fun h => absurd h hr⟩

theorem syncDone_spec (h : link s = 2) : link (syncDone s) = 3 ∧ (syncDone s).fld F.RED_SYNC_PROGRESS_PCT = 100 ∧ (syncDone s).red.wasPaired = true ∧
    causeSet (syncDone s) 0x31 1 = true ∧ lastEvent (syncDone s) 0x31 0x1301 ∧ SameMemory s (syncDone s) ∧
    (role s = 2 → (syncDone s).flag F.RED_STATUS_FRESH = true) ∧
    (role s = 1 → (syncDone s).red.image = s.dram.filter (fun c => mirrored c.1) ∧
      ∃ sent, (syncDone s).out = s.out ++ sent ∧ bulkItems s <+: sent.flatMap itemsOf) := by
  obtain ⟨hregs, htouch, hpct, hcopy⟩ := copyDone_spec (s := s)
  rw [syncDone_eq h]
  generalize copyDone s = u at hregs htouch hpct hcopy
  have hulink : link u ≠ 3 := fun h3 => absurd ((hregs.fld (f := F.RED_STATUS_LINK) (by decide)).symm.trans h3) (by
    show link s ≠ 3
    omega)
  have hup := setLink_paired_spec (s := u) 3 hulink
  have hkeep := setLink_keep (x1 := 3) (x2 := 3) (Keep.refl (b := false) u)
  generalize setLink u 3 3 = t at hup hkeep
  refine ⟨hup.link, (hup.regs.fld (by decide)).trans hpct, hup.wasPaired, hup.cause, hup.event,
    fun a => (hup.touches.ram (by decide) a).trans (htouch.ram (by decide) a), fun hr => hup.fresh ((hregs.fld (f := F.RED_STATUS_ROLE) (by decide)).trans hr),
    fun hr => ?_⟩
  obtain ⟨himage, sent, hout, hprefix⟩ := hcopy hr
  obtain ⟨more, hmore⟩ := hkeep.out
  refine ⟨hup.image.trans himage, sent ++ more, by rw [← hmore, hout, List.append_assoc], ?_⟩
  rw [List.flatMap_append]
  exact hprefix.trans (List.prefix_append _ _)

end

/-! ### Deadlines, the Datum, the decision without a partner (R625, R632, R634) -/

section
variable {s : State}

/-- The acknowledgements owed to a node withdrawn. -/
def withdrawn (held : List HeldUp) (parcel : Nat) : List HeldUp :=
  held.map (fun h => if h.owed.any (fun o => o.parcel == parcel) then { h with owed := none } else h)

theorem withdrawn_none (held : List HeldUp) (parcel : Nat) :
    (withdrawn held parcel).any (fun h => h.owed.any (fun o => o.parcel == parcel)) = false := by
  rw [withdrawn, List.any_map, List.any_eq_false]
  intro h _
  simp only [Function.comp_apply]
  split
  · exact Bool.false_ne_true
  · assumption

theorem withdrawn_mseq (held : List HeldUp) (parcel : Nat) : (withdrawn held parcel).map (fun h => h.mseq) = held.map (fun h => h.mseq) := by
  rw [withdrawn, List.map_map]
  refine List.map_congr_left (fun h _ => ?_)
  simp only [Function.comp_apply]
  split <;> rfl

theorem ackDeadline_spec {p : Nat} (h : s.red.held.any (fun h => h.owed.any (fun o => o.parcel == p)) = true) :
    (ackDeadline s p).fld F.RED_MIRROR_LATE_COUNT = satAdd 32 (s.fld F.RED_MIRROR_LATE_COUNT) 1 ∧ causeSet (ackDeadline s p) 0x31 6 = true ∧
      (ackDeadline s p).red.held = withdrawn s.red.held p ∧ SameMemory s (ackDeadline s p) := by
  have hform : ackDeadline s p = setCause ((s.setRed { s.red with held := withdrawn s.red.held p }).count F.RED_MIRROR_LATE_COUNT 1) 0x31 6 :=
    if_neg (by rw [h]; exact Bool.false_ne_true)
  rw [hform]
  have hcause := onlyRegs_setCause ((s.setRed { s.red with held := withdrawn s.red.held p }).count F.RED_MIRROR_LATE_COUNT 1) 0x31 6
  have hcount : ((s.setRed { s.red with held := withdrawn s.red.held p }).count F.RED_MIRROR_LATE_COUNT 1).fld F.RED_MIRROR_LATE_COUNT =
    satAdd 32 (s.fld F.RED_MIRROR_LATE_COUNT) 1 := State.fld_count_self (s.setRed { s.red with held := withdrawn s.red.held p }) F.RED_MIRROR_LATE_COUNT 1 (by decide)
  refine ⟨(hcause.fld (by decide)).trans hcount, ?_, ?_, fun a => (touches_setCause 0x31 6).ram (by decide) a⟩
  · rw [causeSet_setCause _ _ _ _ (by decide), beq_self_eq_true, Bool.or_true]
  · rw [setCause_red]
    rfl

theorem decided_spec {new : Nat} (h : new < 4) : (decide' s new).red.decided = true ∧ role (decide' s new) = new := by
  have hrole := setRole_role (s := s.setRed { s.red with decided := true }) (new := new) 1 h
  have hred := setRole_red (s := s.setRed { s.red with decided := true }) new 1
  unfold decide'
  generalize setRole (s.setRed { s.red with decided := true }) new 1 = u at hrole hred
  have hgate := gateKept_gateCheck (s := u)
  have hgrole : role (gateCheck u) = new := (hgate.fld (f := F.RED_STATUS_ROLE) (by decide) (by decide)).trans hrole
  have hgred : (gateCheck u).red.decided = true := by
    rw [hgate.redPart, hred]
    rfl
  generalize gateCheck u = v at hgrole hgred
  exact ⟨conflictCheck_decided.trans hgred, (State.fld_congr (f := F.RED_STATUS_ROLE) (conflictCheck_regs (by decide) (by decide) (by decide) (by decide))).trans hgrole⟩

end

/-! ### The statement -/

/-- Settles O43: frames of the mirror link are applied in order, the link trains, synchronises, pairs and times out. -/
theorem theMirrorLinkCarriesItems : Obligations.TheMirrorLinkCarriesItems := by
  unfold Obligations.TheMirrorLinkCarriesItems
  refine ⟨fun s mseq ack items rtt hs hlink hheld => ⟨fun hall => ?_, fun p first bytes hitems hnext hbow h2 hp hlen => ?_, fun hall h1 hnext => ?_⟩,
    fun s hs hlink => ?_, fun s hs hen hlink => ?_, fun s hs hlink h => ?_, fun s hs hlink => ?_, fun s p hs h => ?_, fun s hs hrole hlink => ?_,
    fun s hs hd => ?_⟩
  · have hexec : exec (.mirrorFrameRx true mseq ack items rtt) s = .next (frameHeard s ack.toNat rtt.toNat) :=
      (congrArg Host.Outcome.next (if_pos (by rw [hs]; rfl))).trans (congrArg Host.Outcome.next ((mirrorRx_eq hlink hheld _ _ _ _).trans (if_pos hall)))
    obtain ⟨hrtt, hregs⟩ := frameHeard_spec (s := s) ack.toNat rtt
    exact ⟨_, hexec, hrtt, rfl, hregs, rfl⟩
  · subst hitems
    obtain ⟨t, ht, hspec⟩ := mirrorRx_delta (ack := ack) (rtt := rtt) hlink hheld hnext hbow h2 hp hlen
    exact ⟨t, (congrArg Host.Outcome.next (if_pos (by rw [hs]; rfl))).trans (congrArg Host.Outcome.next ht.symm), hspec⟩
  · have hexec : exec (.mirrorFrameRx true mseq ack items rtt) s = .next (heartbeat (frameHeard s ack.toNat rtt.toNat)) :=
      (congrArg Host.Outcome.next (if_pos (by rw [hs]; rfl))).trans (congrArg Host.Outcome.next (mirrorRx_other hlink hheld hall h1 hnext))
    exact ⟨_, hexec, rfl, fun _ => rfl, rfl, (frameHeard_spec ack.toNat rtt).2⟩
  · have hcond : (pairs s && link s != 0) = true := by rw [hs, bne_iff_ne.2 hlink]; rfl
    exact ⟨_, congrArg Host.Outcome.next (if_pos hcond), retransmit_spec s.red.unacked (bitsOf_lt _ _ _)⟩
  · obtain ⟨hdown, hhold⟩ := setLink_down_spec (s := s) 1 hlink
    exact ⟨_, congrArg Host.Outcome.next (if_pos (by rw [hs, hen]; rfl)), hdown.link, hdown.count, hdown.cause, hhold⟩
  · have hcond : (pairs s && link s != 0) = true := by rw [hs, bne_iff_ne.2 hlink]; rfl
    refine (congrArg Host.Outcome.next (if_pos hcond)).trans ?_
    rw [mirrorFlush_idle h]
    rfl
  · exact ⟨_, congrArg Host.Outcome.next (if_pos hs), syncDone_spec hlink⟩
  · obtain ⟨hcount, hcause, hheld, hmem⟩ := ackDeadline_spec h
    exact ⟨_, congrArg Host.Outcome.next (if_pos hs), hcount, hcause, by rw [hheld]; exact withdrawn_none _ _, by rw [hheld]; exact withdrawn_mseq _ _, hmem⟩
  · have hcond : (pairs s && role s == 1 && decide (2 ≤ link s)) = true := by rw [hs, hrole, decide_eq_true hlink]; rfl
    have hflush := touches_mirrorFlush (s := s)
    have hlast := mirrorFlush_rxLast (s := s)
    have hsent := touches_sendItem (s := mirrorFlush s) (.datum s.now.sec s.now.ns s.now.frac (inc s) (s.fld F.DTM_STATUS_STEP_GEN)
      (s.fld F.DTM_STATUS_SERVO) (s.flag F.DTM_STATUS_TIME_OK))
    have hall := hflush.trans hsent
    refine ⟨_, (mirrorFlush s).red.txNext, congrArg Host.Outcome.next (if_pos hcond), rfl, ?_, hall.part .dtm (by decide), hall.part .now (by decide)⟩
    rw [← hlast]
    exact List.getLast?_concat
  · have hcond : (pairs s && !s.red.decided) = true := by rw [hs, hd]; rfl
    exact ⟨_, congrArg Host.Outcome.next (if_pos hcond), decided_spec (by split <;> decide)⟩

end Sys2Proof.Machine
end

section
/-!
PROOFS. Keys replaced and zeroised (17_keys_and_crypto.md, Replacing a key, Zeroisation and tamper).
-/
namespace Sys2Proof.Machine

-- One proof after another: side by side, the threads of so long a text want more memory than the check grants.
set_option Elab.async false

/-! ### A command that may start, commits and ends -/

section
variable {s t : State} {id : CmdId} {c : Cmd}

theorem findCmd_of_rings (h : t.rings = s.rings) (id : CmdId) : findCmd t id = findCmd s id := by
  simp only [findCmd, State.ring, h]

theorem mayStart.found {op : Nat} (h : mayStart s id op c) : findCmd s id = some c := by
  have hs := h.1
  unfold starting at hs
  cases hf : findCmd s id with
  | none => simp [hf] at hs
  | some d =>
    simp only [hf] at hs
    split at hs
    · exact hs
    · cases hs

theorem startable_pending (hf : findCmd s id = some c) (h : startable s id = true) : c.done = false := by
  simp only [startable, hf, Bool.and_eq_true, Bool.not_eq_true'] at h
  exact h.1.1

theorem mayStart.pending {op : Nat} (h : mayStart s id op c) : c.done = false := by
  have hf := h.found
  have hs := h.1
  simp only [starting, hf] at hs
  split at hs
  · next hc =>
      simp only [Bool.and_eq_true] at hc
      exact startable_pending hf hc.1.2
  · cases hs

theorem touches_commitCmd (id : CmdId) : Touches [.rings] [] s (commitCmd s id) := by
  unfold commitCmd
  split
  · exact Touches.refl s
  · exact touches_putCmd s id _

theorem findCmd_commitCmd (hf : findCmd s id = some c) : findCmd (commitCmd s id) id = some { c with began := true, committed := true } := by
  simp only [commitCmd, hf]
  exact findCmd_putCmd hf (by simpa using findCmd_seq hf)

/-- A command keeps its outcome to come through what leaves the rings alone. -/
theorem outcome_finish_of_rings (h : t.rings = s.rings) (hf : findCmd s id = some c) (hd : c.done = false) (hl : c.lost = false) (status : Nat)
    (result : List Byte) : outcome (finish t id status result) id = some (onePart status 0 result) :=
  outcome_finish ((findCmd_of_rings h id).trans hf) hd hl status result

end

/-! ### Slots, halves and replacements -/

section
variable {s t : State}

@[simp] theorem Slot.half_setHalf_self (x : Slot) (b : Bool) (h : KeyHalf) : (x.setHalf b h).half b = h := by cases b <;> rfl

@[simp] theorem Slot.half_setHalf_other (x : Slot) (b : Bool) (h : KeyHalf) : (x.setHalf b h).half (!b) = x.half (!b) := by cases b <;> rfl

@[simp] theorem Slot.setHalf_state (x : Slot) (b : Bool) (h : KeyHalf) : (x.setHalf b h).state = x.state := by cases b <;> rfl

@[simp] theorem Slot.setHalf_key (x : Slot) (b : Bool) (h : KeyHalf) : (x.setHalf b h).key = x.key := by cases b <;> rfl

theorem State.slot_of_sec (h : t.sec = s.sec) (n : Nat) : t.slot n = s.slot n := by rw [State.slot, State.slot, h]

theorem State.slot_setSlot_self (n : Nat) (x : Slot) : (s.setSlot n x).slot n = x := by
  rw [State.slot, setSlot_sec]
  exact Tbl.get_put_self _ _ _ _

theorem State.slot_setSlot_ne {n k : Nat} (x : Slot) (h : k ≠ n) : (s.setSlot n x).slot k = s.slot k := by
  rw [State.slot, setSlot_sec]
  exact Tbl.get_put_ne _ _ _ h

theorem setSlot_repl (n : Nat) (x : Slot) : (s.setSlot n x).sec.repl = s.sec.repl := by
  rw [setSlot_sec]
  rfl

theorem replaceOf_of_repl (h : t.sec.repl = s.sec.repl) (n : Nat) : replaceOf t n = replaceOf s n := by rw [replaceOf, replaceOf, h]

theorem find?_filter_ne (l : List Replace) (n : Nat) : (l.filter (fun r => r.slot != n)).find? (fun r => r.slot == n) = none := by
  rw [List.find?_eq_none]
  intro r hr
  simpa using (List.mem_filter.1 hr).2

theorem replaceOf_putReplace (r : Replace) : replaceOf (putReplace s r) r.slot = some r := by
  show (s.sec.repl.filter (fun x => x.slot != r.slot) ++ [r]).find? _ = _
  rw [List.find?_append, find?_filter_ne, Option.none_or, List.find?_singleton, beq_self_eq_true, if_pos rfl]

theorem replaceOf_dropReplace (n : Nat) : replaceOf (dropReplace s n) n = none := find?_filter_ne s.sec.repl n

theorem replaceOf_slot {n : Nat} {r : Replace} (h : replaceOf s n = some r) : r.slot = n := by simpa using List.find?_some h

end

/-! ### A replacement (R572) -/

section
variable {s : State} {r : Replace}

/-- Steps 1 to 4 of the replacement of a VALID slot: the target half written and UNCOMMITTED, the former key still serving. -/
theorem replacement_begun (hstate : (s.slot r.slot).state = 1) :
    ((writeTarget (beginReplace s r) r).slot r.slot).state = 3 ∧
      ((writeTarget (beginReplace s r) r).slot r.slot).key = (s.slot r.slot).key ∧
      replaceOf (writeTarget (beginReplace s r) r) r.slot = some { r with phase := 1 } ∧
      (((writeTarget (beginReplace s r) r).slot r.slot).half r.targetB).commit = 0xFFFF ∧
      (((writeTarget (beginReplace s r) r).slot r.slot).half r.targetB).epoch = r.epoch ∧
      ((writeTarget (beginReplace s r) r).slot r.slot).half (!r.targetB) = (s.slot r.slot).half (!r.targetB) := by
  have hbegun : (beginReplace s r).slot r.slot = { s.slot r.slot with state := 3, prev := (s.slot r.slot).state } := State.slot_setSlot_self _ _
  have hprev : ((beginReplace s r).slot r.slot).prev ≠ 2 := by
    rw [hbegun]
    show (s.slot r.slot).state ≠ 2
    omega
  generalize beginReplace s r = u at hbegun hprev
  have hform : writeTarget u r = (putReplace u { r with phase := 1 }).setSlot r.slot ((u.slot r.slot).setHalf r.targetB
      { sealHalf u r.slot r.targetB r.epoch r.attr uncommitted r.key with attr := ((u.slot r.slot).half r.targetB).attr }) := by
    unfold writeTarget
    simp only [if_neg hprev]
  have hslot : (writeTarget u r).slot r.slot = (u.slot r.slot).setHalf r.targetB
      { sealHalf u r.slot r.targetB r.epoch r.attr uncommitted r.key with attr := ((u.slot r.slot).half r.targetB).attr } := by
    rw [hform]
    exact State.slot_setSlot_self _ _
  have hrepl : replaceOf (writeTarget u r) r.slot = some { r with phase := 1 } := by
    rw [hform, replaceOf_of_repl (setSlot_repl _ _)]
    exact replaceOf_putReplace (s := u) { r with phase := 1 }
  rw [hslot]
  refine ⟨by rw [Slot.setHalf_state, hbegun], by rw [Slot.setHalf_key, hbegun], hrepl, by rw [Slot.half_setHalf_self]; rfl,
    by rw [Slot.half_setHalf_self]; rfl, ?_⟩
  rw [Slot.half_setHalf_other, hbegun]
  rfl

/-- The slot with its target half committed and serving. -/
def committedSlot (s : State) (r : Replace) : Slot :=
  { (s.slot r.slot).setHalf r.targetB { (s.slot r.slot).half r.targetB with attr := r.attr, commit := committed } with
    prev := 1, liveB := r.targetB, key := r.key, attr := r.attr }

theorem committedSlot_commit : ((committedSlot s r).half r.targetB).commit = 0xC3A5 := by
  unfold committedSlot
  cases r.targetB <;> rfl

theorem commitReplace_eq : commitReplace s r =
    (putReplace (s.setSlot r.slot (committedSlot s r)) { r with phase := 2 }).count F.KSU_COMMITS_COUNT 1 := rfl

/-- Steps 5 to 7: the commit. -/
theorem replacement_committed : (((commitReplace s r).slot r.slot).half r.targetB).commit = 0xC3A5 ∧ ((commitReplace s r).slot r.slot).key = r.key ∧
    ((commitReplace s r).slot r.slot).attr = r.attr ∧ ((commitReplace s r).slot r.slot).liveB = r.targetB ∧
    replaceOf (commitReplace s r) r.slot = some { r with phase := 2 } ∧
    (commitReplace s r).fld F.KSU_COMMITS_COUNT = satAdd 32 (s.fld F.KSU_COMMITS_COUNT) 1 := by
  have hcommit := committedSlot_commit (s := s) (r := r)
  have hkey : (committedSlot s r).key = r.key := rfl
  have hattr : (committedSlot s r).attr = r.attr := rfl
  have hlive : (committedSlot s r).liveB = r.targetB := rfl
  rw [commitReplace_eq]
  generalize committedSlot s r = x at hcommit hkey hattr hlive
  have hregs := onlyRegs_setSlot (s := s) r.slot x
  have hslot := State.slot_setSlot_self (s := s) r.slot x
  generalize s.setSlot r.slot x = v at hregs hslot
  have hput : OnlyRegs v (putReplace v { r with phase := 2 }) [] := fun _ _ => rfl
  have hslot' : (putReplace v { r with phase := 2 }).slot r.slot = x := hslot
  have hrepl : replaceOf (putReplace v { r with phase := 2 }) r.slot = some { r with phase := 2 } := replaceOf_putReplace { r with phase := 2 }
  generalize putReplace v { r with phase := 2 } = u at hput hslot' hrepl
  have hu : (u.count F.KSU_COMMITS_COUNT 1).sec = u.sec := rfl
  have hcount := State.fld_count_self u F.KSU_COMMITS_COUNT 1 (by decide)
  generalize u.count F.KSU_COMMITS_COUNT 1 = t at hu hcount
  rw [State.slot_of_sec hu, hslot', replaceOf_of_repl (congrArg _ hu), hrepl, hcount, hput.fld (by decide), hregs.fld (by decide)]
  exact ⟨hcommit, hkey, hattr, hlive, rfl, rfl⟩

/-- Step 8: the slot is VALID, its former live half UNCOMMITTED. -/
theorem replacement_settled : ((settleReplace s r).slot r.slot).state = 1 ∧ (((settleReplace s r).slot r.slot).half (!r.targetB)).commit ≠ 0xC3A5 ∧
    ((settleReplace s r).slot r.slot).half r.targetB = (s.slot r.slot).half r.targetB ∧ replaceOf (settleReplace s r) r.slot = none := by
  obtain ⟨x, hx, hhalf⟩ : ∃ x : Slot, settleReplace s r = (dropReplace s r.slot).setSlot r.slot x ∧ x.state = 1 ∧ (x.half (!r.targetB)).commit ≠ 0xC3A5 ∧
      x.half r.targetB = (s.slot r.slot).half r.targetB := by
    refine ⟨_, rfl, rfl, ?_, ?_⟩
    · by_cases h : ((s.slot r.slot).half (!r.targetB)).commit = committed
      · simp only [if_pos h]
        cases r.targetB <;> exact (by decide : uncommitted ≠ 0xC3A5)
      · simp only [if_neg h]
        cases hb : r.targetB <;> rw [hb] at h <;> exact h
    · by_cases h : ((s.slot r.slot).half (!r.targetB)).commit = committed
      · simp only [if_pos h]
        cases r.targetB <;> rfl
      · simp only [if_neg h]
        cases r.targetB <;> rfl
  have hslot : (settleReplace s r).slot r.slot = x := by
    rw [hx]
    exact State.slot_setSlot_self (s := dropReplace s r.slot) r.slot x
  obtain ⟨hstate, hother, hsame⟩ := hhalf
  refine ⟨by rw [hslot, hstate], by rw [hslot]; exact hother, by rw [hslot, hsame], ?_⟩
  rw [hx, replaceOf_of_repl (setSlot_repl _ _)]
  exact replaceOf_dropReplace r.slot

/-- Step 8 with its event and its cause. -/
theorem replacement_ended : ((endReplace s r).sec = (settleReplace s r).sec) ∧ causeSet (endReplace s r) 0x28 0 = true ∧
    (endReplace s r).rings = s.rings := by
  have hsettle := touches_settleReplace (s := s) r
  unfold endReplace
  simp only
  generalize settleReplace s r = u at hsettle
  have hrings : (u.event 0x28 0 0x1100 0 (leBytes 2 r.slot ++ leBytes 1 (b01 r.targetB) ++ leBytes 1 (if r.cmd.isSome then 1 else 2) ++
    leBytes 4 r.epoch)).rings = s.rings := hsettle.part .rings (by decide)
  refine ⟨by rw [setCause_sec]; rfl, ?_, by rw [setCause_rings]; exact hrings⟩
  rw [causeSet_setCause _ _ _ _ (by decide), beq_self_eq_true, Bool.or_true]

end

/-! ### KEY_REPLACE (R148) -/

section
variable {s : State} {id : CmdId} {c : Cmd}

theorem touches_writeTarget (r : Replace) : Touches [.regs, .sec] [0x28] s (writeTarget s r) :=
  Touches.then (x := putReplace s { r with phase := 1 }) (touches_parts [.sec] rfl |>.mono (hs := [])) (touches_setSlot r.slot _)

/-- The replacement that KEY_REPLACE begins. -/
def keyed (s : State) (id : CmdId) (c : Cmd) (key : List Byte) : Replace :=
  { slot := krSlot c.desc, cmd := some id, key := key.take (keyBytes (krAttr c.desc)), attr := krAttr c.desc, epoch := krEpoch c.desc,
    targetB := targetHalf (s.slot (krSlot c.desc)), phase := 0 }

theorem keyReplace_first (hf : findCmd s id = some c) (hop : descOpcode c.desc = 0x0301) (hd : c.done = false) (hstart : startable s id = true)
    (hturn : slotTurn s c = true) (hnone : replaceOf s (krSlot c.desc) = none) (readBack : Bool) :
    keyReplace s id readBack = keyReplaceBegin s id c readBack := by
  simp only [keyReplace, hf, hop, hd, hnone, hstart, hturn, bne_self_eq_false, Bool.or_self, Bool.and_self, Bool.false_eq_true, if_false, if_true]

/-- The checks of step 1 passed, what the unwrapping gives. -/
theorem keyReplaceBegin_eq {wrapped kek : List Byte} {unwrapped : Option (List Byte)} (hdata : c.data = some wrapped)
    (hepoch : (s.slot (krSlot c.desc)).epoch < krEpoch c.desc) (hzot : isZot (krAttr c.desc) = false)
    (hkek : slotKeyUse s (krKek c.desc) none 10 = some kek) (hunwrap : Config.unwrapKey kek (wrapped.take (krWlen c.desc)) = unwrapped) :
    keyReplaceBegin s id c true = unwrapped.elim (finish s id 0x30 (leBytes 1 2))
      (fun key => writeTarget (beginReplace (commitCmd s id) (keyed s id c key)) (keyed s id c key)) := by
  simp only [keyReplaceBegin, hdata, if_neg (Nat.not_le.2 hepoch), hzot, hkek, hunwrap, Bool.false_and, Bool.false_eq_true, if_false, if_true]
  cases unwrapped <;> rfl

theorem keyReplace_later {r : Replace} (hf : findCmd s id = some c) (hop : descOpcode c.desc = 0x0301) (hd : c.done = false)
    (hr : replaceOf s (krSlot c.desc) = some r) (hcmd : r.cmd = some id) (readBack : Bool) :
    keyReplace s id readBack = if r.phase = 1 then commitReplace s r else replaceDone s r := by
  simp only [keyReplace, hf, hop, hd, hr, hcmd, bne_self_eq_false, Bool.or_self, Bool.false_eq_true, if_false]

theorem replaceDone_spec {r : Replace} (hf : findCmd s id = some c) (hd : c.done = false) (hl : c.lost = false) (hcmd : r.cmd = some id) :
    ((replaceDone s r).slot r.slot).state = 1 ∧ (((replaceDone s r).slot r.slot).half (!r.targetB)).commit ≠ 0xC3A5 ∧
      ((replaceDone s r).slot r.slot).half r.targetB = (s.slot r.slot).half r.targetB ∧ replaceOf (replaceDone s r) r.slot = none ∧
      causeSet (replaceDone s r) 0x28 0 = true ∧
      outcome (replaceDone s r) id = some (onePart 0x00 0 (leBytes 1 (b01 r.targetB) ++ leBytes 3 0 ++ leBytes 4 r.epoch)) := by
  obtain ⟨hstate, hother, hsame, hrepl⟩ := replacement_settled (s := s) (r := r)
  obtain ⟨hsec, hcause, hrings⟩ := replacement_ended (s := s) (r := r)
  have hform : replaceDone s r = finish (endReplace s r) id 0x00 (leBytes 1 (b01 r.targetB) ++ leBytes 3 0 ++ leBytes 4 r.epoch) := by
    simp only [replaceDone, hcmd]
  have hout := outcome_finish_of_rings hrings hf hd hl 0x00 (leBytes 1 (b01 r.targetB) ++ leBytes 3 0 ++ leBytes 4 r.epoch)
  have htouch := touches_finish (s := endReplace s r) id 0x00 (leBytes 1 (b01 r.targetB) ++ leBytes 3 0 ++ leBytes 4 r.epoch)
  rw [hform]
  generalize finish (endReplace s r) id 0x00 (leBytes 1 (b01 r.targetB) ++ leBytes 3 0 ++ leBytes 4 r.epoch) = t at hout htouch
  have ht : t.sec = (settleReplace s r).sec := (htouch.part .sec (by decide)).trans hsec
  rw [State.slot_of_sec ht, replaceOf_of_repl (congrArg _ ht), causeSet, htouch.reg _ (by decide)]
  exact ⟨hstate, hother, hsame, hrepl, hcause, hout⟩

end

/-! ### KEY_ZEROISE (R575) -/

section
variable {s : State}

/-- A slot once its halves are zero and it holds no key. -/
structure Wiped (s : State) (x : Slot) (n : Nat) : Prop where
  state : x.state = 0
  key : x.key = []
  half : ∀ b, (x.half b).ct = List.replicate 32 0#8 ∧ (x.half b).tag = List.replicate 8 0#8 ∧
    (x.half b).epoch = ((s.slot n).half b).epoch ∧ (x.half b).commit ≠ 0xC3A5

/-- A slot zeroised. -/
def wipedSlot (x : Slot) : Slot :=
  { x with
    a := wipeHalf x.a (if x.state == 1 && x.liveB == false then zeroised else uncommitted)
    b := wipeHalf x.b (if x.state == 1 && x.liveB == true then zeroised else uncommitted)
    state := 0, key := [], attr := 0 }

theorem wiped_wipedSlot (n : Nat) : Wiped s (wipedSlot (s.slot n)) n := by
  have hcommit : ∀ c : Bool, (if c then zeroised else uncommitted) ≠ 0xC3A5 := by decide
  refine ⟨rfl, rfl, fun b => ?_⟩
  cases b <;> exact ⟨rfl, rfl, rfl, hcommit _⟩

theorem zeroiseSlot_eq (n : Nat) : zeroiseSlot s n = (s.setSlot n (wipedSlot (s.slot n))).count F.KSU_ZEROISATIONS_COUNT 1 := rfl

theorem zeroiseSlot_slot (n : Nat) : Wiped s ((zeroiseSlot s n).slot n) n ∧ ∀ k, k ≠ n → (zeroiseSlot s n).slot k = s.slot k := by
  have hself := State.slot_setSlot_self (s := s) n (wipedSlot (s.slot n))
  have hne := fun k => State.slot_setSlot_ne (s := s) (n := n) (k := k) (wipedSlot (s.slot n))
  have hwiped := wiped_wipedSlot (s := s) n
  rw [zeroiseSlot_eq]
  generalize wipedSlot (s.slot n) = x at hself hne hwiped
  generalize s.setSlot n x = u at hself hne
  have hsec : (u.count F.KSU_ZEROISATIONS_COUNT 1).sec = u.sec := rfl
  generalize u.count F.KSU_ZEROISATIONS_COUNT 1 = t at hsec
  rw [State.slot_of_sec hsec, hself]
  exact ⟨hwiped, fun k hk => (State.slot_of_sec hsec k).trans (hne k hk)⟩

theorem Wiped.again {t : State} {y : Slot} {n : Nat} (h : Wiped s (t.slot n) n) (h' : Wiped t y n) : Wiped s y n :=
  ⟨h'.state, h'.key, fun b => by
    obtain ⟨hct, htag, hepoch, hcommit⟩ := h'.half b
    obtain ⟨-, -, hkept, -⟩ := h.half b
    exact ⟨hct, htag, hepoch.trans hkept, hcommit⟩⟩

theorem touches_zeroiseSlot (n : Nat) : Touches [.regs, .sec] [0x28] s (zeroiseSlot s n) :=
  (touches_setSlot n _).then (touches_count F.KSU_ZEROISATIONS_COUNT 1)

/-- Zeroising one slot, once or more often. -/
theorem zeroiseSlots_same (n : Nat) (l : List Nat) (hl : l ≠ []) (hall : ∀ k ∈ l, k = n) : Wiped s ((l.foldl zeroiseSlot s).slot n) n ∧
    (∀ k, k ≠ n → (l.foldl zeroiseSlot s).slot k = s.slot k) := by
  induction l generalizing s with
  | nil => exact absurd rfl hl
  | cons m l ih =>
    obtain rfl : m = n := hall m (List.mem_cons_self ..)
    obtain ⟨hwiped, hother⟩ := zeroiseSlot_slot (s := s) m
    rw [List.foldl_cons]
    by_cases hnil : l = []
    · subst hnil
      exact ⟨hwiped, hother⟩
    · obtain ⟨hagain, hrest⟩ := ih (s := zeroiseSlot s m) hnil (fun k hk => hall k (List.mem_cons_of_mem _ hk))
      exact ⟨hwiped.again hagain, fun k hk => (hrest k hk).trans (hother k hk)⟩

theorem Tbl.get_listed {α : Type} {d : Nat → α} {t : Tbl α} {n : Nat} (h : Tbl.get d t n ≠ d n) : (n, Tbl.get d t n) ∈ t := by
  induction t with
  | nil => exact absurd rfl h
  | cons e t ih =>
    by_cases he : e.1 = n
    · have hget : Tbl.get d (e :: t) n = e.2 := if_pos he
      rw [hget, ← he]
      exact List.mem_cons_self ..
    · have hget : Tbl.get d (e :: t) n = Tbl.get d t n := if_neg he
      rw [hget] at h ⊢
      exact List.mem_cons_of_mem _ (ih h)

theorem slot_listed {n : Nat} (h : (s.slot n).state ≠ 0) : (n, s.slot n) ∈ s.sec.slots :=
  Tbl.get_listed (fun he => h (congrArg Slot.state he))

/-- The entries of slot `n` that are VALID or BAD. -/
def fullEntries (s : State) (n : Nat) : List Nat :=
  ((s.sec.slots.filter (fun x => x.2.state == 1 || x.2.state == 2)).map (fun e => e.1)).filter (fun k => k == n)

theorem fullEntries_spec {n : Nat} (h : (s.slot n).state = 1 ∨ (s.slot n).state = 2) : fullEntries s n ≠ [] ∧ ∀ k ∈ fullEntries s n, k = n := by
  refine ⟨List.ne_nil_of_mem (a := n) ?_, fun k hk => by simpa using (List.mem_filter.1 hk).2⟩
  refine List.mem_filter.2 ⟨List.mem_map.2 ⟨(n, s.slot n), List.mem_filter.2 ⟨slot_listed (by omega), ?_⟩, rfl⟩, beq_self_eq_true n⟩
  simpa using h

theorem keyZeroise_eq {id : CmdId} {c : Cmd} (hc : mayStart s id 0x0302 c) (hrepl : s.sec.repl = []) (hone : bit (fieldAt c.desc 18 1) 0 = false) :
    keyZeroise s id = finish (zeroiseAll (commitCmd s id) (fullEntries s (fieldAt c.desc 16 2))) id 0x00
      (leBytes 2 (fullEntries s (fieldAt c.desc 16 2)).length) := by
  unfold keyZeroise
  rw [hc.1]
  simp only [hrepl, hone, List.any_nil, Bool.false_eq_true, if_false]
  rfl

theorem zeroiseAll_spec {n : Nat} {l : List Nat} (hl : l ≠ []) (hall : ∀ k ∈ l, k = n) : Wiped s ((zeroiseAll s l).slot n) n ∧
    (∀ k, k ≠ n → (zeroiseAll s l).slot k = s.slot k) ∧ causeSet (zeroiseAll s l) 0x28 2 = true ∧ (zeroiseAll s l).rings = s.rings := by
  obtain ⟨hwiped, hother⟩ := zeroiseSlots_same (s := s) n l hl hall
  have htouch : Touches [.regs, .sec] [0x28] s (l.foldl zeroiseSlot s) := Touches.foldl (fun _ k _ => touches_zeroiseSlot k) s
  have hform : zeroiseAll s l = setCause ((l.foldl zeroiseSlot s).event 0x28 0 0x1102 1 (leBytes 2 l.length ++ leBytes 1 1)) 0x28 2 :=
    if_neg (by simpa using hl)
  rw [hform]
  generalize l.foldl zeroiseSlot s = u at hwiped hother htouch
  have hsec : (setCause (u.event 0x28 0 0x1102 1 (leBytes 2 l.length ++ leBytes 1 1)) 0x28 2).sec = u.sec := by
    rw [setCause_sec]
    rfl
  refine ⟨by rw [State.slot_of_sec hsec]; exact hwiped, fun k hk => (State.slot_of_sec hsec k).trans (hother k hk), ?_, ?_⟩
  · rw [causeSet_setCause _ _ _ _ (by decide), beq_self_eq_true, Bool.or_true]
  · rw [setCause_rings]
    exact htouch.part .rings (by decide)

/-- KEY_ZEROISE of one slot that is VALID or BAD. -/
theorem keyZeroise_spec {id : CmdId} {c : Cmd} (hc : mayStart s id 0x0302 c) (hrepl : s.sec.repl = []) (hone : bit (fieldAt c.desc 18 1) 0 = false)
    (hfull : (s.slot (fieldAt c.desc 16 2)).state = 1 ∨ (s.slot (fieldAt c.desc 16 2)).state = 2) :
    Wiped s ((keyZeroise s id).slot (fieldAt c.desc 16 2)) (fieldAt c.desc 16 2) ∧
      (∀ n, n ≠ fieldAt c.desc 16 2 → (keyZeroise s id).slot n = s.slot n) ∧ causeSet (keyZeroise s id) 0x28 2 = true ∧
      (outcome (keyZeroise s id) id).map (fun ps => ps.map (fun p => p.status)) = some [0x00] := by
  obtain ⟨hne, hall⟩ := fullEntries_spec hfull
  have hcommit := touches_commitCmd (s := s) id
  have hfound := findCmd_commitCmd hc.found
  rw [keyZeroise_eq hc hrepl hone]
  generalize commitCmd s id = u at hcommit hfound
  have hslots := fun k => State.slot_of_sec (hcommit.part .sec (by decide)) k
  obtain ⟨hwiped, hother, hcause, hrings⟩ := zeroiseAll_spec (s := u) hne hall
  generalize zeroiseAll u (fullEntries s (fieldAt c.desc 16 2)) = v at hwiped hother hcause hrings
  have hout := outcome_finish_of_rings hrings hfound hc.pending hc.2 0x00 (leBytes 2 (fullEntries s (fieldAt c.desc 16 2)).length)
  have htouch := touches_finish (s := v) id 0x00 (leBytes 2 (fullEntries s (fieldAt c.desc 16 2)).length)
  generalize finish v id 0x00 (leBytes 2 (fullEntries s (fieldAt c.desc 16 2)).length) = t at hout htouch
  have ht := fun k => State.slot_of_sec (htouch.part .sec (by decide)) k
  refine ⟨?_, fun n hn => (ht n).trans ((hother n hn).trans (hslots n)), by rw [causeSet, htouch.reg _ (by decide)]; exact hcause, by rw [hout]; rfl⟩
  rw [ht]
  exact ⟨hwiped.state, hwiped.key, fun b => by rw [← hslots]; exact hwiped.half b⟩

end

/-! ### The statement -/

theorem keysExec {s : State} {id : CmdId} (hs : s.operating = true) (hh : holding s = false) (readBack : Bool) :
    exec (.keyReplace id readBack) s = .next (keyReplace s id readBack) ∧ exec (.keyZeroise id) s = .next (keyZeroise s id) := by
  have hcond : (s.operating && !holding s) = true := by rw [hs, hh]; rfl
  exact ⟨congrArg Host.Outcome.next (if_pos hcond), congrArg Host.Outcome.next (if_pos hcond)⟩

/-- Settles O39: a key is replaced in steps, a slot is zeroised with its epochs kept. -/
theorem keysAreReplacedAndZeroised : Obligations.KeysAreReplacedAndZeroised := by
  unfold Obligations.KeysAreReplacedAndZeroised
  refine fun s id c hs hh => ⟨fun wrapped kek hf hop hd hl hstart hturn hnone hdata hepoch hzot hkek hstate => ?_,
    fun r readBack hf hop hd hl hr hcmd => ⟨fun hphase => ?_, fun hphase => ?_⟩, fun hc hrepl hone hfull => ?_⟩
  · have hexec := (keysExec (id := id) hs hh true).1
    rw [keyReplace_first hf hop hd hstart hturn hnone, keyReplaceBegin_eq hdata hepoch hzot hkek rfl] at hexec
    generalize Config.unwrapKey kek (wrapped.take (krWlen c.desc)) = unwrapped at hexec
    cases unwrapped with
    | none =>
      have hout := outcome_finish hf hd hl 0x30 (leBytes 1 2)
      have heq : finish s id 0x30 (leBytes 1 2) = { s with rings := (finish s id 0x30 (leBytes 1 2)).rings } :=
        (touches_finish id 0x30 (leBytes 1 2)).eq
      exact ⟨_, hexec, hout, heq⟩
    | some key =>
      have hcommit := touches_commitCmd (s := s) id
      have hslot := State.slot_of_sec (hcommit.part .sec (by decide)) (krSlot c.desc)
      have hspec := replacement_begun (s := commitCmd s id) (r := keyed s id c key) ((congrArg Slot.state hslot).trans hstate)
      have hb : (keyed s id c key).targetB = !(s.slot (krSlot c.desc)).liveB := by
        show targetHalf (s.slot (krSlot c.desc)) = _
        rw [targetHalf, hstate]
        rfl
      obtain ⟨h3, hkey, hrepl, hunc, hep, hother⟩ := hspec
      refine ⟨_, { keyed s id c key with phase := 1 }, hexec, h3, hkey.trans (congrArg Slot.key hslot), hrepl, rfl, rfl, rfl, hb, hunc, hep, ?_⟩
      exact hother.trans (congrArg (fun x => Slot.half x _) hslot)
  · refine ⟨_, (keysExec hs hh readBack).1, ?_⟩
    rw [keyReplace_later hf hop hd hr hcmd, if_pos hphase]
    exact replacement_committed
  · refine ⟨_, (keysExec hs hh readBack).1, ?_⟩
    rw [keyReplace_later hf hop hd hr hcmd, if_neg (by omega)]
    exact replaceDone_spec hf hd hl hcmd
  · obtain ⟨hwiped, hother, hcause, hout⟩ := keyZeroise_spec hc hrepl hone hfull
    exact ⟨_, (keysExec hs hh true).2, hwiped.state, hwiped.key, hwiped.half, hother, hcause, hout⟩

end Sys2Proof.Machine
end

section
/-!
PROOFS. The commands on queues, and what the operations of the fabric leave in the queue they work on
(13_frame_fabric_and_queues.md, 04_command_set.md, Fabric commands).
-/
namespace Sys2Proof.Machine

-- One proof after another: side by side, the threads of so long a text want more memory than the check grants.
set_option Elab.async false

/-! ### Operations that leave every queue as it is -/

section
variable {s t : State}

/-- The queues are as before. -/
def SameQueues (s t : State) : Prop := t.fab.queues = s.fab.queues

theorem SameQueues.refl (s : State) : SameQueues s s := rfl

theorem SameQueues.trans {u : State} (h : SameQueues s t) (h' : SameQueues t u) : SameQueues s u := Eq.trans h' h

theorem SameQueues.of {ps : List Area} {gs : List Nat} (h : Touches ps gs s t) (hf : .fab ∉ ps := by decide) : SameQueues s t :=
  congrArg Fabric.queues (h.part .fab hf)

theorem SameQueues.queue (h : SameQueues s t) (q : Nat) : t.queue q = s.queue q := by rw [State.queue, State.queue, h]

theorem SameQueues.foldl {α : Type} {g : State → α → State} (hg : ∀ u e, SameQueues u (g u e)) (l : List α) (s : State) :
    SameQueues s (l.foldl g s) := by
  induction l generalizing s with
  | nil => exact SameQueues.refl s
  | cons e l ih => exact (hg s e).trans (ih _)

theorem sameQueues_bufLowCheck : SameQueues s (bufLowCheck s) := by
  have hpause : ∀ (u : State) low, SameQueues u (pauseAll u low) := fun u low => SameQueues.of (touches_pauseAll low)
  have hcause : ∀ u : State, SameQueues u (setCause u 0x20 4) := fun u => SameQueues.of (touches_setCause 0x20 4)
  unfold bufLowCheck
  simp only
  split
  · have hevent : ∀ u : State, SameQueues u (u.event 0x20 0 0x0D03 2 (leBytes 2 (sramFree u) ++ leBytes 4 (dramFree u))) := fun _ => rfl
    exact (SameQueues.trans (t := { s with fab := { s.fab with lowArmed := false } }) rfl (hcause _)).trans ((hevent _).trans (hpause _ true))
  · split
    · exact SameQueues.trans (t := { s with fab := { s.fab with lowArmed := true } }) rfl (hpause _ false)
    · exact SameQueues.refl s

theorem sameQueues_freeCells (hs : List Nat) : SameQueues s (freeCells s hs) :=
  SameQueues.trans (t := { s with fab := { s.fab with
      sramUsed := s.fab.sramUsed.filter (fun h => !hs.contains h),
      dramUsed := s.fab.dramUsed.filter (fun h => !hs.contains (0x10000 + h)) } }) rfl sameQueues_bufLowCheck

theorem sameQueues_freeDesc (i : Item) : SameQueues s (freeDesc s i) := by
  unfold freeDesc
  split
  · exact SameQueues.refl s
  · split <;> rfl

theorem sameQueues_freeItem (i : Item) : SameQueues s (freeItem s i) := (sameQueues_freeCells i.cells).trans (sameQueues_freeDesc i)

theorem sameQueues_takeDesc {b : Bool} (h : takeDesc s = some (b, t)) : SameQueues s t := by
  unfold takeDesc at h
  split at h
  · cases h
    rfl
  · split at h
    · cases h
      rfl
    · cases h

theorem sameQueues_takeCell {engine : Bool} {h : Nat} (e : takeCell s engine = some (h, t)) : SameQueues s t := by
  unfold takeCell at e
  split at e
  · cases e
    refine SameQueues.trans ?_ sameQueues_bufLowCheck
    exact (SameQueues.of (touches_drawNat s (sramFree s)) : SameQueues s (drawNat s (sramFree s)).2)
  · split at e
    · cases e
      exact (SameQueues.of (touches_drawNat s (dramFree s)) : SameQueues s (drawNat s (dramFree s)).2)
    · cases e

theorem sameQueues_takeCells (engine : Bool) (n : Nat) : SameQueues s (takeCells s engine n).2 := by
  induction n generalizing s with
  | zero => exact SameQueues.refl s
  | succ n ih =>
    unfold takeCells
    split
    · exact SameQueues.refl s
    · next e => exact (sameQueues_takeCell e).trans ih

end

/-! ### What an operation leaves of one queue -/

section
variable {s : State}

theorem State.queue_setQueue_self (q : Nat) (v : Queue) : (s.setQueue q v).queue q = v := Tbl.get_put_self _ _ _ _

theorem State.queue_setQueue_ne {q k : Nat} (v : Queue) (h : k ≠ q) : (s.setQueue q v).queue k = s.queue k := Tbl.get_put_ne _ _ _ h

theorem State.queue_putItems_self (q : Nat) (items producing : List Item) :
    (s.putItems q items producing).queue q = (s.queue q).put s.dev.upCycles items producing := by
  have hsettle : ∀ (u : State) e c, SameQueues u (classSettle u e c) := fun u e c => SameQueues.of (touches_classSettle e c)
  unfold State.putItems
  simp only
  split
  · split
    · exact ((hsettle _ _ _).queue q).trans (State.queue_setQueue_self q _)
    · exact State.queue_setQueue_self q _
  · exact State.queue_setQueue_self q _

theorem State.queue_putItems_ne {q k : Nat} (items producing : List Item) (h : k ≠ q) : (s.putItems q items producing).queue k = s.queue k := by
  have hsettle : ∀ (u : State) e c, SameQueues u (classSettle u e c) := fun u e c => SameQueues.of (touches_classSettle e c)
  unfold State.putItems
  simp only
  split
  · split
    · exact ((hsettle _ _ _).queue k).trans (State.queue_setQueue_ne _ h)
    · exact State.queue_setQueue_ne _ h
  · exact State.queue_setQueue_ne _ h

/-- A queue with other items, its pointers moved and its deficit kept while it holds any. -/
def Queue.moved (q : Queue) (items producing : List Item) : Queue :=
  let move (p : Nat × Nat) : Nat × Nat :=
    if q.items.length ≤ items.length then (p.1, p.2 + (items.length - q.items.length)) else (p.1 + (q.items.length - items.length), p.2)
  { q with
    items := items, producing := producing, ptrA := move q.ptrA, ptrB := move q.ptrB,
    deficit := if (items ++ producing).isEmpty then 0 else q.deficit }

theorem Queue.put_eq (q : Queue) (now : Nat) (items producing : List Item) : q.put now items producing =
    if (q.moved items producing).headKey = q.headKey then q.moved items producing
    else { q.moved items producing with headSince := now, headCfg := q.cfg } := rfl

/-- A field of a queue that neither the move of the pointers nor a new head changes. -/
theorem Queue.put_of {α : Type} (f : Queue → α) (q : Queue) (now : Nat) (items producing : List Item) {x : α} (hm : f (q.moved items producing) = x)
    (hh : f { q.moved items producing with headSince := now, headCfg := q.cfg } = x) : f (q.put now items producing) = x := by
  rw [Queue.put_eq]
  split
  · exact hm
  · exact hh

theorem Queue.put_items (q : Queue) (now : Nat) (items producing : List Item) : (q.put now items producing).items = items :=
  Queue.put_of Queue.items q now items producing rfl rfl

theorem Queue.put_producing (q : Queue) (now : Nat) (items producing : List Item) : (q.put now items producing).producing = producing :=
  Queue.put_of Queue.producing q now items producing rfl rfl

/-- What is in a queue after a flush: markers and items that a consumer has begun. -/
structure Flushed (q : Queue) : Prop where
  items : ∀ i ∈ q.items, i.isBreak = true ∨ i.begun = true
  producing : q.producing = []

theorem Flushed.same {a b : Queue} (h : Flushed a) (hi : b.items = a.items) (hp : b.producing = a.producing) : Flushed b :=
  ⟨by rw [hi]; exact h.items, hp.trans h.producing⟩

theorem Flushed.put {q : Queue} {items : List Item} (now : Nat) (h : ∀ i ∈ items, i.isBreak = true ∨ i.begun = true) : Flushed (q.put now items []) :=
  ⟨by rw [Queue.put_items]; exact h, Queue.put_producing _ _ _ _⟩

theorem Flushed.putItems {q : Nat} {items producing : List Item} (h : ∀ i ∈ items, i.isBreak = true ∨ i.begun = true) (hp : producing = []) :
    Flushed ((s.putItems q items producing).queue q) := by
  rw [State.queue_putItems_self, hp]
  exact Flushed.put _ h

theorem Flushed.of_same {t : State} {q : Nat} (h : Flushed (s.queue q)) (e : SameQueues s t) : Flushed (t.queue q) := by
  rw [e.queue]
  exact h

theorem Flushed.setQueue {q : Nat} {v : Queue} (h : Flushed (s.queue q)) (hi : v.items = (s.queue q).items)
    (hp : v.producing = (s.queue q).producing) : Flushed ((s.setQueue q v).queue q) := by
  rw [State.queue_setQueue_self]
  exact h.same hi hp

theorem Flushed.dropHead {q : Nat} (h : Flushed (s.queue q)) : Flushed ((dropHead s q).queue q) := by
  unfold Machine.dropHead
  split
  · exact h
  · next i t e =>
    refine Flushed.of_same ?_ (sameQueues_freeItem i)
    exact Flushed.putItems (fun j hj => h.items j (by rw [e]; exact List.mem_cons_of_mem _ hj)) h.producing

theorem Flushed.closeIfEmpty {q : Nat} (h : Flushed (s.queue q)) : Flushed ((closeIfEmpty s q).queue q) := by
  unfold Machine.closeIfEmpty
  simp only
  split
  · exact h.setQueue rfl rfl
  · exact h

theorem Flushed.putMarker {q : Nat} (h : Flushed (s.queue q)) (l : Loss) : Flushed ((putMarker s q l).queue q) := by
  have hcause : ∀ u : State, SameQueues u (setCause u 0x20 1) := fun u => SameQueues.of (touches_setCause 0x20 1)
  have hcount : ∀ u : State, SameQueues u (u.count F.FAB_MARKERS_COUNT 1) := fun u => SameQueues.of (touches_count F.FAB_MARKERS_COUNT 1)
  have hevent : ∀ (u : State) d, SameQueues u (u.event 0x20 0 0x0D01 2 d) := fun _ _ => rfl
  unfold Machine.putMarker
  refine Flushed.of_same (Flushed.of_same (Flushed.of_same (Flushed.putItems (fun j hj => ?_) h.producing) (hcount _)) (hcause _)) (hevent _ _)
  rcases List.mem_append.1 hj with hj | hj
  · exact h.items j hj
  · rw [List.mem_singleton] at hj
    rw [hj]
    exact Or.inl rfl

theorem Flushed.placeWaiting {q : Nat} (h : Flushed (s.queue q)) : Flushed ((placeWaiting s q).queue q) := by
  unfold Machine.placeWaiting
  split
  · exact h
  · split
    · exact h
    · refine Flushed.putMarker ?_ _
      exact h.setQueue rfl rfl

theorem Flushed.deliverMarker {q : Nat} (h : Flushed (s.queue q)) : Flushed ((deliverMarker s q).queue q) := by
  have hcount : ∀ u : State, SameQueues u (u.count F.FAB_DEQUEUED_COUNT 1) := fun u => SameQueues.of (touches_count F.FAB_DEQUEUED_COUNT 1)
  unfold Machine.deliverMarker
  simp only
  split
  · next i t e =>
    split
    · exact h
    · split
      · exact (h.of_same (hcount s)).dropHead.closeIfEmpty.placeWaiting
      · rw [State.queue_setQueue_self]
        refine ⟨fun j hj => ?_, h.producing⟩
        rcases List.mem_cons.1 hj with rfl | hj
        · exact Or.inr rfl
        · exact h.items j (by rw [e]; exact List.mem_cons_of_mem _ hj)
  · exact h

theorem Flushed.settleHead {q : Nat} (h : Flushed (s.queue q)) : Flushed ((settleHead s q).queue q) := by
  unfold Machine.settleHead
  simp only
  split
  · split
    · split
      · exact h.deliverMarker
      · exact h
    · exact h
  · exact h

theorem Flushed.chargeItem {q : Nat} (h : Flushed (s.queue q)) (e : Nat) (bytes : Int) : Flushed ((chargeItem s e q bytes).queue q) := by
  have hcls : ∀ (u : State) a b v, SameQueues u (u.setCls a b v) := fun _ _ _ _ => rfl
  unfold Machine.chargeItem
  simp only
  refine Flushed.of_same ?_ (hcls _ _ _ _)
  exact h.setQueue rfl rfl

/-- The item that ends stands at the head of its queue, counted. -/
def begunEnded (s : State) (q : Nat) (i : Item) (t : List Item) : State :=
  s.setQueue q { s.queue q with items := { i with committed := true } :: t, enq := satAdd 32 (s.queue q).enq 1 }

theorem endBegun_cons {q : Nat} {old : Item} {t : List Item} (e : (s.queue q).items = old :: t) (i : Item) : endBegun s q i =
    match (s.queue q).egress with
    | some e => chargeItem ((begunEnded s q i t).count F.FAB_ENQUEUED_COUNT 1) e q
        ((itemCharge ((begunEnded s q i t).count F.FAB_ENQUEUED_COUNT 1) e { i with committed := true } : Int) -
          itemCharge ((begunEnded s q i t).count F.FAB_ENQUEUED_COUNT 1) e old)
    | none => (begunEnded s q i t).count F.FAB_ENQUEUED_COUNT 1 := by
  unfold Machine.endBegun
  simp only [e]
  rfl

theorem Flushed.begunEnded {q : Nat} (h : Flushed (s.queue q)) {i old : Item} {t : List Item} (e : (s.queue q).items = old :: t)
    (hi : i.isBreak = true ∨ i.begun = true) : Flushed ((begunEnded s q i t).queue q) := by
  unfold Machine.begunEnded
  rw [State.queue_setQueue_self]
  refine ⟨fun j hj => ?_, h.producing⟩
  rcases List.mem_cons.1 hj with rfl | hj
  · exact hi
  · exact h.items j (by rw [e]; exact List.mem_cons_of_mem _ hj)

theorem Flushed.endBegun {q : Nat} (h : Flushed (s.queue q)) {i : Item} (hi : i.isBreak = true ∨ i.begun = true) : Flushed ((endBegun s q i).queue q) := by
  have hcount : ∀ u : State, SameQueues u (u.count F.FAB_ENQUEUED_COUNT 1) := fun u => SameQueues.of (touches_count F.FAB_ENQUEUED_COUNT 1)
  cases e : (s.queue q).items with
  | nil =>
    have hsame : Machine.endBegun s q i = s := by
      unfold Machine.endBegun
      simp only [e]
    rw [hsame]
    exact h
  | cons old t =>
    rw [endBegun_cons e]
    have hended := (h.begunEnded e hi).of_same (hcount _)
    generalize (Machine.begunEnded s q i t).count F.FAB_ENQUEUED_COUNT 1 = u at hended
    split
    · exact hended.chargeItem _ _
    · exact hended

theorem Flushed.faultKept {q : Nat} (h : Flushed (s.queue q)) {kept : List Item} (hk : ∀ i ∈ kept, i.isBreak = true ∨ i.begun = true) :
    Flushed ((faultKept s q kept).queue q) := by
  unfold Machine.faultKept
  split
  · next i t =>
    split
    · rw [State.queue_setQueue_self]
      refine ⟨fun j hj => ?_, h.producing⟩
      obtain ⟨j', hj', rfl⟩ := List.mem_map.1 hj
      exact hk j' hj'
    · exact h.endBegun (hk i (List.mem_cons_self ..))
  · exact h

theorem Flushed.faultMark {q : Nat} (h : Flushed (s.queue q)) (cause : Nat) (o : Option Loss) (r : Option (Nat × Nat)) :
    Flushed ((faultMark s q cause o r).queue q) := by
  unfold Machine.faultMark
  split
  · exact h
  · refine Flushed.putMarker ?_ _
    exact h.setQueue rfl rfl

theorem flushed_queueFaultBy {q : Nat} (h : Flushed (s.queue q)) (cause : Nat) : Flushed ((queueFaultBy s q cause).queue q) := by
  have hevent : ∀ (u : State) d, SameQueues u (u.event 0x20 0 0x0D00 3 d) := fun _ _ => rfl
  have hkept : ∀ i ∈ (s.queue q).items.filter (fun i => i.begun && !i.isBreak), i.isBreak = true ∨ i.begun = true := fun i hi => by
    have := (List.mem_filter.1 hi).2
    simp only [Bool.and_eq_true] at this
    exact Or.inr this.1
  unfold queueFaultBy
  simp only
  split
  · exact h
  · refine Flushed.of_same (Flushed.faultMark (Flushed.faultKept ?_ hkept) _ _ _) (hevent _ _)
    refine Flushed.setQueue ?_ rfl rfl
    exact Flushed.putItems hkept rfl

theorem Flushed.comparePtrs {q : Nat} (h : Flushed (s.queue q)) : Flushed ((comparePtrs s q).queue q) := by
  unfold Machine.comparePtrs
  split
  · exact h
  · exact flushed_queueFaultBy h 2

end

/-! ### Commands while queues are worked on -/

section
variable {wake : Bool} {s t : State} {id : CmdId}

/-- Command `id` stands in its ring without an outcome. -/
def Pending (s : State) (id : CmdId) : Prop := ∃ c, findCmd s id = some c ∧ c.done = false ∧ c.lost = false

theorem Pending.of_rings (h : Pending s id) (e : t.rings = s.rings) : Pending t id := by
  obtain ⟨c, hf, hd, hl⟩ := h
  exact ⟨c, (findCmd_of_rings e id).trans hf, hd, hl⟩

theorem Pending.of {ps : List Area} {gs : List Nat} (h : Pending s id) (e : Touches ps gs s t) (hr : .rings ∉ ps := by decide) : Pending t id :=
  h.of_rings (e.part .rings hr)

theorem mayStart.isPending {op : Nat} {c : Cmd} (h : mayStart s id op c) : Pending s id := ⟨c, h.found, h.pending, h.2⟩

theorem Pending.finish (h : Pending s id) (status : Nat) (result : List Byte) :
    outcome (finish s id status result) id = some (onePart status 0 result) := by
  obtain ⟨c, hf, hd, hl⟩ := h
  exact outcome_finish hf hd hl status result

theorem find?_map_other {α : Type} (p q : α → Bool) (y : α) (hy : p y = false) (hpq : ∀ x, q x = true → p x = false) (l : List α) :
    (l.map (fun z => if q z then y else z)).find? p = l.find? p := by
  induction l with
  | nil => rfl
  | cons z l ih =>
    rw [List.map_cons]
    by_cases hz : q z = true
    · rw [if_pos hz, List.find?_cons_of_neg (by rw [hy]; exact Bool.false_ne_true), List.find?_cons_of_neg (by rw [hpq z hz]; exact Bool.false_ne_true), ih]
    · rw [if_neg hz]
      by_cases hp : p z = true
      · rw [List.find?_cons_of_pos hp, List.find?_cons_of_pos hp]
      · rw [List.find?_cons_of_neg hp, List.find?_cons_of_neg hp, ih]

/-- Another command replaced under its number. -/
theorem findCmd_putCmd_ne {k : CmdId} {c : Cmd} (h : k ≠ id) (hc : c.seq = k.seq) : findCmd (putCmd s k c) id = findCmd s id := by
  by_cases hsrc : id.src.val = k.src.val
  · have hseq : id.seq ≠ k.seq := fun e => h (by
      cases id
      cases k
      simp only [CmdId.mk.injEq]
      exact ⟨Fin.ext hsrc.symm, e.symm⟩)
    rw [findCmd, putCmd, hsrc, State.ring_setRing_self, findCmd, hsrc]
    refine find?_map_other (fun x : Cmd => x.seq == id.seq) (fun x : Cmd => x.seq == k.seq) c ?_ (fun x hx => ?_) _
    · rw [hc, beq_eq_false_iff_ne]
      exact fun e => hseq e.symm
    · rw [beq_iff_eq] at hx
      rw [hx, beq_eq_false_iff_ne]
      exact fun e => hseq e.symm
  · rw [findCmd, putCmd, State.ring_setRing_ne _ _ hsrc, findCmd]

/-- A FRAME_INJECT whose frame is flushed keeps its place; no command gets an outcome by that. -/
theorem Pending.markFlushed (h : Pending s id) (i : Item) : Pending (markFlushed s i) id := by
  unfold Machine.markFlushed
  split
  · exact h
  · next k _ =>
    split
    · exact h
    · next c' e =>
      obtain ⟨c, hf, hd, hl⟩ := h
      by_cases hk : k = id
      · subst hk
        obtain rfl : c' = c := Option.some.inj (e.symm.trans hf)
        exact ⟨_, findCmd_putCmd hf (by simpa using findCmd_seq hf), hd, hl⟩
      · exact ⟨c, (findCmd_putCmd_ne hk (by simpa using findCmd_seq e)).trans hf, hd, hl⟩

theorem touches_markFlushed (i : Item) : Touches [.rings] [] s (markFlushed s i) := by
  unfold markFlushed
  split
  · exact Touches.refl s
  · split
    · exact Touches.refl s
    · exact touches_putCmd s _ _

theorem Pending.foldl_markFlushed (l : List Item) (h : Pending s id) : Pending (l.foldl Machine.markFlushed s) id := by
  induction l generalizing s with
  | nil => exact h
  | cons i l ih => exact ih (h.markFlushed i)

theorem moves_chargeItem (e q : Nat) (bytes : Int) : Moves wake fabricParts fabricPages s (chargeItem s e q bytes) :=
  (moves_setQueue q _).trans (moves_setCls e _ _)

theorem moves_endBegun (q : Nat) (i : Item) : Moves wake fabricParts fabricPages s (endBegun s q i) := by
  cases e : (s.queue q).items with
  | nil =>
    have hsame : endBegun s q i = s := by
      unfold endBegun
      simp only [e]
    rw [hsame]
    exact Moves.refl s
  | cons old t =>
    have hended : Moves wake fabricParts fabricPages s ((begunEnded s q i t).count F.FAB_ENQUEUED_COUNT 1) :=
      (moves_setQueue q _).add (touches_count F.FAB_ENQUEUED_COUNT 1)
    rw [endBegun_cons e]
    generalize (begunEnded s q i t).count F.FAB_ENQUEUED_COUNT 1 = u at hended
    split
    · exact hended.trans (moves_chargeItem _ q _)
    · exact hended

theorem touches_endBegun (q : Nat) (i : Item) : Touches fabricParts fabricPages s (endBegun s q i) := (moves_endBegun (wake := false) q i).touches

theorem moves_faultKept (q : Nat) (kept : List Item) : Moves wake fabricParts fabricPages s (faultKept s q kept) := by
  unfold faultKept
  split
  · split
    · exact moves_setQueue q _
    · exact moves_endBegun q _
  · exact Moves.refl s

theorem moves_faultMark (q cause : Nat) (o : Option Loss) (r : Option (Nat × Nat)) : Moves wake fabricParts fabricPages s (faultMark s q cause o r) := by
  unfold faultMark
  split
  · exact Moves.refl s
  · exact (moves_setQueue q _).trans (moves_putMarker q _)

theorem moves_queueFaultBy (q cause : Nat) : Moves wake fabricParts fabricPages s (queueFaultBy s q cause) := by
  have hfreed : ∀ (l : List Item) (u : State), Moves wake fabricParts fabricPages u (l.foldl freeDesc u) := fun l u =>
    Moves.foldl (fun _ i _ => moves_freeDesc i) u
  unfold queueFaultBy
  simp only
  split
  · exact Moves.refl s
  · have hshown : Moves wake fabricParts fabricPages s (setCause ((recordErr s 0x20 0x82 0 0).count F.FAB_QUEUE_FAULTS_COUNT 1) 0x20 0) :=
      ((Moves.of (touches_recordErr 0x20 0x82 0 0)).add (touches_count F.FAB_QUEUE_FAULTS_COUNT 1)).add (touches_setCause 0x20 0)
    generalize setCause ((recordErr s 0x20 0x82 0 0).count F.FAB_QUEUE_FAULTS_COUNT 1) 0x20 0 = u at hshown
    refine Moves.add ?_ (touches_event (gs := []) _ _ _ _ _)
    refine Moves.trans ?_ (moves_faultMark q _ _ _)
    refine Moves.trans ?_ (moves_faultKept q _)
    refine Moves.trans ?_ (moves_setQueue q _)
    refine Moves.trans ?_ (moves_putItems q _ _)
    exact (hshown.trans (hfreed _ _)).trans (moves_fab _)

theorem moves_comparePtrs (q : Nat) : Moves wake fabricParts fabricPages s (comparePtrs s q) :=
  Moves.ite (fun _ => Moves.refl s) (fun _ => moves_queueFaultBy q 2)

theorem touches_comparePtrs (q : Nat) : Touches fabricParts fabricPages s (comparePtrs s q) := (moves_comparePtrs (wake := false) q).touches

end

/-! ### QUEUE_FLUSH (R463) -/

section
variable {s : State}

/-- The items that a flush discards, and those it keeps. -/
def flushGone (s : State) (q : Nat) : List Item := (s.queue q).items.filter (fun i => !i.isBreak && !i.begun)

def flushKept (s : State) (q : Nat) : List Item := (s.queue q).items.filter (fun i => i.isBreak || i.begun)

/-- The queue once the items are out, their cells and descriptors free. -/
def flushFreed (s : State) (q : Nat) : State :=
  let qu := s.queue q
  let u := s.putItems q (flushKept s q) []
  (flushGone s q ++ qu.producing).foldl freeItem (u.setQueue q { u.queue q with
    dropping := qu.dropping || !qu.producing.isEmpty, flushed := satAdd 32 qu.flushed ((flushGone s q).length + qu.producing.length) })

theorem flushQueue_eq (q : Nat) : ∃ data, flushQueue s q = ((flushGone s q).length + (s.queue q).producing.length,
    comparePtrs (closeIfEmpty (settleHead
      (if (flushGone s q).length + (s.queue q).producing.length = 0 then
        ((flushGone s q).foldl markFlushed (flushFreed s q)).count F.FAB_FLUSHED_COUNT ((flushGone s q).length + (s.queue q).producing.length)
      else (((flushGone s q).foldl markFlushed (flushFreed s q)).count F.FAB_FLUSHED_COUNT
        ((flushGone s q).length + (s.queue q).producing.length)).event 0x20 0 0x0D02 1 data) q) q) q) := ⟨_, rfl⟩

theorem flushFreed_spec (q : Nat) : Flushed ((flushFreed s q).queue q) ∧ Touches fabricParts fabricPages s (flushFreed s q) := by
  have hkept : ∀ i ∈ flushKept s q, i.isBreak = true ∨ i.begun = true := fun i hi => by
    have := (List.mem_filter.1 hi).2
    simpa using this
  have hput : Flushed ((s.putItems q (flushKept s q) []).queue q) := Flushed.putItems hkept rfl
  have hputs := touches_putItems (s := s) q (flushKept s q) []
  unfold flushFreed
  simp only
  generalize s.putItems q (flushKept s q) [] = u at hput hputs
  constructor
  · refine Flushed.of_same ?_ (SameQueues.foldl (fun _ i => sameQueues_freeItem i) _ _)
    exact hput.setQueue rfl rfl
  · refine Touches.trans ?_ (Touches.foldl (fun _ i _ => touches_freeItem i) _)
    exact hputs.mono.then (touches_setQueue u q _)

theorem flushQueue_spec (q : Nat) {id : CmdId} (h : Pending s id) :
    (flushQueue s q).1 = (flushGone s q).length + (s.queue q).producing.length ∧ Flushed ((flushQueue s q).2.queue q) ∧ Pending (flushQueue s q).2 id := by
  obtain ⟨data, hform⟩ := flushQueue_eq (s := s) q
  obtain ⟨hflushed, htouch⟩ := flushFreed_spec (s := s) q
  rw [hform]
  refine ⟨rfl, ?_, ?_⟩
  all_goals generalize (flushGone s q).length + (s.queue q).producing.length = n
  · refine (Flushed.settleHead ?_).closeIfEmpty.comparePtrs
    have hmarks : ∀ l : List Item, SameQueues (flushFreed s q) (l.foldl markFlushed (flushFreed s q)) := fun l =>
      SameQueues.foldl (fun _ i => SameQueues.of (touches_markFlushed i)) l _
    have hmarked := hflushed.of_same (hmarks (flushGone s q))
    generalize (flushGone s q).foldl markFlushed (flushFreed s q) = v at hmarked
    have hcount := hmarked.of_same (SameQueues.of (touches_count F.FAB_FLUSHED_COUNT n))
    split
    · exact hcount
    · exact hcount
  · have hmarked := (h.of htouch).foldl_markFlushed (flushGone s q)
    generalize (flushGone s q).foldl markFlushed (flushFreed s q) = v at hmarked
    have hcount := hmarked.of (touches_count F.FAB_FLUSHED_COUNT n)
    have hshown : Pending (if n = 0 then v.count F.FAB_FLUSHED_COUNT n else (v.count F.FAB_FLUSHED_COUNT n).event 0x20 0 0x0D02 1 data) id := by
      split
      · exact hcount
      · exact hcount.of_rings rfl
    exact ((hshown.of (touches_settleHead q)).of (touches_closeIfEmpty q)).of (touches_comparePtrs q)

end

/-! ### QUEUE_BREAK_ACK (R147) -/

section
variable {s : State}

theorem ackBreak_other {q : Nat} (h : (s.queue q).state ≠ 2) : ackBreak s q = (none, s) := by
  unfold ackBreak
  simp only
  split
  · next h2 _ => exact absurd h2 h
  · rfl

theorem ackBreak_held {q : Nat} {m : Item} {rest : List Item} (h : (s.queue q).state = 2) (hm : (s.queue q).items = m :: rest) :
    (ackBreak s q).1 = some (m.first, m.last) ∧ Touches fabricParts fabricPages s (ackBreak s q).2 := by
  have hform : ackBreak s q = (some (m.first, m.last), closeIfEmpty (settleHead (placeWaiting (dropHead (s.setQueue q { s.queue q with state := 1 }) q) q) q) q) := by
    unfold ackBreak
    simp only [h, hm]
  rw [hform]
  refine ⟨rfl, ?_⟩
  exact ((((touches_setQueue s q _).mono.trans (touches_dropHead q)).trans (touches_placeWaiting q)).trans (touches_settleHead q)).then
    (touches_closeIfEmpty q)

end

/-! ### Items admitted (R450, R453) -/

section
variable {s : State} {q : Nat}

theorem enqueue_refused (h : (s.queue q).admits = false) (i : Item) (engine : Bool) : enqueue s q i engine = (false, refuse s q i.inject.isSome) :=
  if_pos (by rw [h]; rfl)

/-- What a refusal of a frame that was injected leaves of its queue. -/
theorem refuse_inject : (refuse s q true).queue q = { s.queue q with drops := satAdd 32 (s.queue q).drops 1 } := by
  have hform : refuse s q true = setCause ((s.setQueue q { s.queue q with drops := satAdd 32 (s.queue q).drops 1 }).count F.FAB_DROPS_COUNT 1) 0x20 3 := by
    unfold refuse
    simp only [Bool.not_true, Bool.and_false, Bool.false_eq_true, if_false]
  have hset := State.queue_setQueue_self (s := s) q { s.queue q with drops := satAdd 32 (s.queue q).drops 1 }
  rw [hform]
  generalize s.setQueue q { s.queue q with drops := satAdd 32 (s.queue q).drops 1 } = u at hset
  have hkept : SameQueues u (setCause (u.count F.FAB_DROPS_COUNT 1) 0x20 3) :=
    (SameQueues.of (touches_count F.FAB_DROPS_COUNT 1)).trans (SameQueues.of (touches_setCause 0x20 3))
  rw [hkept.queue, hset]

/-- The item with the cells it was given. -/
def celled (i : Item) (cells : List Nat) (dram : Bool) : Item := { i with cells := cells, buf := cells.headD 0, dramDesc := dram }

/-- An item admitted where a descriptor and its cells are free. -/
theorem enqueue_admitted (h : (s.queue q).admits = true) {i : Item} {engine dram : Bool} {u : State} (hdesc : takeDesc s = some (dram, u))
    (hcells : (takeCells u engine (ceilDiv i.bytes.length 256)).1.length = ceilDiv i.bytes.length 256) :
    enqueue s q i engine = policeCommit (admitMark (takeCells u engine (ceilDiv i.bytes.length 256)).2 q
      (celled i (takeCells u engine (ceilDiv i.bytes.length 256)).1 dram)) q (celled i (takeCells u engine (ceilDiv i.bytes.length 256)).1 dram) := by
  unfold enqueue
  simp only [h, Bool.not_true, Bool.false_eq_true, if_false, hdesc]
  rw [if_neg (by omega)]
  rfl

/-- Items of other sources than a port are not policed (R484). -/
theorem policed_elsewhere {i : Item} (h : i.src / 16 ≠ 1) : policed s q i = false := by
  rw [policed, beq_eq_false_iff_ne.2 h, Bool.and_false]

theorem commitItem_queue (i : Item) : ((commitItem s q i).queue q).items = (s.queue q).items ++ [{ i with qseq := (s.queue q).seqNext, committed := true }] ∧
    ((commitItem s q i).queue q).producing = (s.queue q).others i := by
  have hput := State.queue_putItems_self (s := s) q ((s.queue q).items ++ [{ i with qseq := (s.queue q).seqNext, committed := true }]) ((s.queue q).others i)
  unfold commitItem
  simp only
  generalize s.putItems q ((s.queue q).items ++ [{ i with qseq := (s.queue q).seqNext, committed := true }]) ((s.queue q).others i) = u at hput
  have hwake : ∀ v : State, SameQueues v ((wakePort v q).count F.FAB_ENQUEUED_COUNT 1) := fun v =>
    (SameQueues.of (touches_wakePort q)).trans (SameQueues.of (touches_count F.FAB_ENQUEUED_COUNT 1))
  rw [(hwake _).queue, State.queue_setQueue_self]
  refine ⟨?_, ?_⟩
  · show (u.queue q).items = _
    rw [hput, Queue.put_items]
  · show (u.queue q).producing = _
    rw [hput, Queue.put_producing]

/-- An item that is not policed, of a queue without an open range, is committed. -/
theorem enqueue_committed (h : (s.queue q).admits = true) {i : Item} {engine dram : Bool} {u : State} (hdesc : takeDesc s = some (dram, u))
    (hcells : (takeCells u engine (ceilDiv i.bytes.length 256)).1.length = ceilDiv i.bytes.length 256) (hsrc : i.src / 16 ≠ 1)
    (hopen : (s.queue q).breakPending = none) : (enqueue s q i engine).1 = true ∧
      ∃ j, j.bytes = i.bytes ∧ ((enqueue s q i engine).2.queue q).items = (s.queue q).items ++ [j] ∧
        ∃ k, ((enqueue s q i engine).2.queue q).producing = (s.queue q).others k := by
  rw [enqueue_admitted h hdesc hcells]
  have hsame : SameQueues s (takeCells u engine (ceilDiv i.bytes.length 256)).2 := (sameQueues_takeDesc hdesc).trans (sameQueues_takeCells _ _)
  generalize takeCells u engine (ceilDiv i.bytes.length 256) = r at hsame
  have hmark : admitMark r.2 q (celled i r.1 dram) = r.2 := by
    rw [admitMark, policed_elsewhere (i := celled i r.1 dram) hsrc, if_neg Bool.false_ne_true, closePending, hsame.queue, hopen]
  have hcommit : policeCommit r.2 q (celled i r.1 dram) = (true, commitItem r.2 q (celled i r.1 dram)) :=
    if_neg (by rw [policed_elsewhere (i := celled i r.1 dram) hsrc]; exact Bool.false_ne_true)
  obtain ⟨hitems, hproducing⟩ := commitItem_queue (s := r.2) (q := q) (celled i r.1 dram)
  rw [hmark, hcommit]
  refine ⟨rfl, _, ?_, by rw [hitems, hsame.queue], _, by rw [hproducing, hsame.queue]⟩
  rfl

end

/-! ### The statement -/

section
variable {s : State} {id : CmdId} {c : Cmd}

/-- The item that FRAME_INJECT offers. -/
def injected (s : State) (id : CmdId) (c : Cmd) (bytes : List Byte) : Item :=
  { Item.blank with
    appendFcs := bit (fieldAt c.desc 20 1) 0, ptpOneStep := bit (fieldAt c.desc 20 1) 1, ts := stampNow s, src := 0x20 + id.src.val,
    aux := fieldAt c.desc 4 4, bytes := bytes, inject := some id }

theorem frameInject_eq {bytes : List Byte} (hc : mayStart s id 0x0201 c) (hdata : c.data = some bytes) :
    frameInject s id = if (enqueue s (fieldAt c.desc 16 2 % 4096) (injected s id c bytes) false).1 = true then
      finish (enqueue s (fieldAt c.desc 16 2 % 4096) (injected s id c bytes) false).2 id 0x00
        (leBytes 4 ((enqueue s (fieldAt c.desc 16 2 % 4096) (injected s id c bytes) false).2.queue (fieldAt c.desc 16 2 % 4096)).depthNow)
      else finish (enqueue s (fieldAt c.desc 16 2 % 4096) (injected s id c bytes) false).2 id 0x12 [] := by
  unfold frameInject
  rw [hc.1]
  simp only [hdata]
  rfl

theorem queueFlush_eq (hc : mayStart s id 0x0202 c) : queueFlush s id =
    finish (flushQueue s (fieldAt c.desc 16 2 % 4096)).2 id 0x00 (leBytes 4 (flushQueue s (fieldAt c.desc 16 2 % 4096)).1) := by
  unfold queueFlush
  rw [hc.1]

/-- What QUEUE_BREAK_ACK reports of the marker acknowledged. -/
def ackReport (r : Option (Nat × Nat) × State) (id : CmdId) : State :=
  match r.1 with
  | some (f, l) => finish r.2 id 0x00 (leBytes 4 1 ++ leBytes 4 f ++ leBytes 4 l)
  | none => finish r.2 id 0x00 []

theorem queueBreakAck_eq (hc : mayStart s id 0x0203 c) (hbit : bit (fieldAt c.desc 18 1) 0 = false) :
    queueBreakAck s id = ackReport (ackBreak s (fieldAt c.desc 16 2 % 4096)) id := by
  unfold queueBreakAck
  rw [hc.1]
  simp only [hbit, Bool.false_eq_true, if_false] <;> rfl

theorem sameQueues_finish (status : Nat) (result : List Byte) : SameQueues s (finish s id status result) := SameQueues.of (touches_finish id status result)

theorem frameInject_refused {bytes : List Byte} (hc : mayStart s id 0x0201 c) (hdata : c.data = some bytes)
    (h : (s.queue (fieldAt c.desc 16 2 % 4096)).admits = false) : outcome (frameInject s id) id = some (onePart 0x12 0 []) ∧
      ((frameInject s id).queue (fieldAt c.desc 16 2 % 4096)).drops = satAdd 32 (s.queue (fieldAt c.desc 16 2 % 4096)).drops 1 ∧
      ((frameInject s id).queue (fieldAt c.desc 16 2 % 4096)).items = (s.queue (fieldAt c.desc 16 2 % 4096)).items := by
  rw [frameInject_eq hc hdata, enqueue_refused h]
  simp only [Bool.false_eq_true, if_false]
  have hinject : (injected s id c bytes).inject.isSome = true := rfl
  rw [hinject, (sameQueues_finish _ _).queue, refuse_inject]
  exact ⟨(hc.isPending.of (touches_refuse s _ true)).finish _ _, rfl, rfl⟩

theorem frameInject_taken {bytes : List Byte} (hc : mayStart s id 0x0201 c) (hdata : c.data = some bytes)
    (h : (s.queue (fieldAt c.desc 16 2 % 4096)).admits = true) (hopen : (s.queue (fieldAt c.desc 16 2 % 4096)).breakPending = none)
    (hroom : (takeDesc s).any (fun d => (takeCells d.2 false (ceilDiv bytes.length 256)).1.length == ceilDiv bytes.length 256) = true) :
    ((frameInject s id).queue (fieldAt c.desc 16 2 % 4096)).items.length = (s.queue (fieldAt c.desc 16 2 % 4096)).items.length + 1 ∧
      (((frameInject s id).queue (fieldAt c.desc 16 2 % 4096)).items.getLast?.map (fun i => i.bytes)) = some bytes ∧
      outcome (frameInject s id) id = some (onePart 0x00 0 (leBytes 4 ((frameInject s id).queue (fieldAt c.desc 16 2 % 4096)).depthNow)) ∧
      ((s.queue (fieldAt c.desc 16 2 % 4096)).producing = [] → ((frameInject s id).queue (fieldAt c.desc 16 2 % 4096)).depthNow =
        (s.queue (fieldAt c.desc 16 2 % 4096)).depthNow + 1) ∧ SameMemory s (frameInject s id) := by
  rw [frameInject_eq hc hdata]
  generalize fieldAt c.desc 16 2 % 4096 = q at h hopen
  obtain ⟨⟨dram, u⟩, hdesc, hcells⟩ := (Option.any_eq_true _ _).1 hroom
  have hsrc : (injected s id c bytes).src / 16 ≠ 1 := by
    show (0x20 + id.src.val) / 16 ≠ 1
    omega
  obtain ⟨htaken, j, hbytes, hitems, k, hproducing⟩ := enqueue_committed (i := injected s id c bytes) h hdesc (beq_iff_eq.1 hcells) hsrc hopen
  have htouch := touches_enqueue (s := s) q (injected s id c bytes) false
  rw [if_pos htaken]
  generalize (enqueue s q (injected s id c bytes) false).2 = v at hitems hproducing htouch
  rw [(sameQueues_finish _ _).queue, hitems]
  refine ⟨by rw [List.length_append]; rfl, ?_, (hc.isPending.of htouch).finish _ _, fun hnone => ?_, fun a => ?_⟩
  · rw [List.getLast?_concat, Option.map_some, hbytes]
    rfl
  · rw [Queue.depthNow, Queue.depthNow, Queue.all, Queue.all, hitems, hproducing, Queue.others, hnone]
    simp
  · exact ((touches_finish id 0x00 _).ram (by decide) a).trans (htouch.ram (by decide) a)

end

/-- Settles O37: frames injected, queues flushed, markers acknowledged, each command with what it reports. -/
theorem queueCommandsComplete : Obligations.QueueCommandsComplete := by
  unfold Obligations.QueueCommandsComplete
  refine fun s id c hs => ⟨fun bytes hc hdata => ⟨fun h => ?_, fun h hopen hroom => ?_⟩, fun hc => ?_, fun hc hbit => ⟨fun h => ?_, fun m rest h hm => ?_⟩⟩
  · exact ⟨_, congrArg Host.Outcome.next (if_pos hs), frameInject_refused hc hdata h⟩
  · exact ⟨_, congrArg Host.Outcome.next (if_pos hs), frameInject_taken hc hdata h hopen hroom⟩
  · obtain ⟨hn, hflushed, hpending⟩ := flushQueue_spec (fieldAt c.desc 16 2 % 4096) hc.isPending
    refine ⟨_, congrArg Host.Outcome.next (if_pos hs), ?_⟩
    rw [queueFlush_eq hc, (sameQueues_finish _ _).queue, hpending.finish, hn]
    exact ⟨hflushed.items, hflushed.producing, rfl⟩
  · have heq : queueBreakAck s id = finish s id 0x00 [] := by
      rw [queueBreakAck_eq hc hbit, ackBreak_other h]
      rfl
    refine ⟨_, congrArg Host.Outcome.next (if_pos hs), ?_⟩
    rw [heq]
    exact ⟨hc.isPending.finish _ _, (touches_finish id 0x00 []).eq⟩
  · obtain ⟨hrange, htouch⟩ := ackBreak_held h hm
    refine ⟨_, congrArg Host.Outcome.next (if_pos hs), ?_⟩
    rw [queueBreakAck_eq hc hbit, ackReport, hrange]
    exact (hc.isPending.of htouch).finish _ _

end Sys2Proof.Machine
end

section
/-!
PROOFS. The node commands (04_command_set.md, Node commands; 11_cadastre_and_sessions.md, The parcel).
-/
namespace Sys2Proof.Machine

-- One proof after another: side by side, the threads of so long a text want more memory than the check grants.
set_option Elab.async false

/-! ### Node commands and the parcels of the DRAM -/

section
variable {s t : State} {id : CmdId} {c : Cmd}

theorem findCmd_beginCmd (hf : findCmd s id = some c) : findCmd (beginCmd s id) id = some { c with began := true } := by
  simp only [beginCmd, hf]
  exact findCmd_putCmd hf (by simpa using findCmd_seq hf)

theorem touches_beginCmd (id : CmdId) : Touches [.rings] [] s (beginCmd s id) := by
  unfold beginCmd
  split
  · exact Touches.refl s
  · exact touches_putCmd s id _

theorem underway_of_found (hf : findCmd t id = some c) (hb : c.began = true) (hd : c.done = false) : underway t id := by
  rw [underway, hf, Option.any_some, hb, hd]
  rfl

theorem underway_beginCmd (hf : findCmd s id = some c) (hd : c.done = false) (e : t.rings = (beginCmd s id).rings) : underway t id :=
  underway_of_found ((findCmd_of_rings e id).trans (findCmd_beginCmd hf)) rfl hd

theorem Pending.finishParts (h : Pending s id) (ps : List Part) : outcome (finishCmd s id ps) id = some ps := by
  obtain ⟨c, hf, hd, hl⟩ := h
  rw [outcome, findCmd_finishCmd hf hd hl]
  rfl

theorem Pending.commitCmd (h : Pending s id) : Pending (commitCmd s id) id := by
  obtain ⟨c, hf, hd, hl⟩ := h
  exact ⟨_, findCmd_commitCmd hf, hd, hl⟩

theorem ram_of_dram (h : t.dram = s.dram) (a : Nat) : t.ram a = s.ram a := by rw [State.ram, State.ram, h]

theorem ramBytes_of_dram (h : t.dram = s.dram) (a n : Nat) : t.ramBytes a n = s.ramBytes a n := by
  rw [State.ramBytes, State.ramBytes]
  exact List.map_congr_left (fun i _ => ram_of_dram h _)

theorem pBits_of_dram (h : t.dram = s.dram) (p o lsb w : Nat) : pBits t p o lsb w = pBits s p o lsb w := by rw [pBits, pBits, ram_of_dram h]

theorem pGet_of_dram (h : t.dram = s.dram) (p o n : Nat) : pGet t p o n = pGet s p o n := by
  rw [pGet, pGet, State.ramNat, State.ramNat, ramBytes_of_dram h]

theorem nodeEntries_of_dram (h : t.dram = s.dram) (p : Nat) : nodeEntries t p = nodeEntries s p := by
  have hused : usedEntries t = usedEntries s := by rw [usedEntries, usedEntries, h]
  have hw0 : ∀ e, entryW0 t e = entryW0 s e := fun e => by rw [entryW0, entryW0, State.ramNat, State.ramNat, ramBytes_of_dram h]
  have hw1 : ∀ e, entryW1 t e = entryW1 s e := fun e => by rw [entryW1, entryW1, State.ramNat, State.ramNat, ramBytes_of_dram h]
  simp only [nodeEntries, hused, hw0, hw1]

theorem pendingIn_of_dram (h : t.dram = s.dram) (hu : t.upd = s.upd) (p : Nat) : pendingIn t p = pendingIn s p := by
  have hsess : ∀ i, sessOf t i = sessOf s i := fun i => by rw [sessOf, sessOf, hu]
  have hstate : uState t p = uState s p := pBits_of_dram h _ _ _ _
  have hsid : uSid t p = uSid s p := pBits_of_dram h _ _ _ _
  have hsession : uSession t p = uSession s p := pGet_of_dram h _ _ _
  unfold pendingIn
  rw [hstate, hsid, hsession, hsess]

end

/-! ### NODE_ADD, NODE_READ (R137, R139, R390) -/

section
variable {s : State} {id : CmdId} {c : Cmd}

theorem length_newParcel (d : List Byte) : (newParcel s d).length = 256 := by
  simp only [newParcel, List.length_append, length_slice, length_leBytes, List.length_replicate, List.length_cons, List.length_nil]

theorem nodeAdd_room (hc : mayStart s id 0x0101 c) (hturn : nodeTurn s c = true) (hh : holding s = false) (h : addFull s (fieldAt c.desc 24 1) = 0) :
    nodeAdd s id = finish ((commitCmd s id).ramStore (256 * freeParcelIndex s) (newParcel s c.desc)) id 0x00 (leBytes 4 (freeParcelIndex s)) := by
  unfold nodeAdd
  rw [hc.1]
  simp only [hturn, hh, h, Bool.not_true, Bool.or_self, Bool.false_eq_true, if_false]

theorem nodeAdd_full (hc : mayStart s id 0x0101 c) (hturn : nodeTurn s c = true) (hh : holding s = false) (h : addFull s (fieldAt c.desc 24 1) = 1) :
    nodeAdd s id = finish s id 0x12 (leBytes 1 1) := by
  unfold nodeAdd
  rw [hc.1]
  simp only [hturn, hh, h, Bool.not_true, Bool.or_self, Bool.false_eq_true, if_false]

/-- A parcel written whole, and the command that wrote it. -/
theorem parcelWritten_spec {u : State} (hu : Touches [.rings] [] s u) (hp : Pending u id) {a : Nat} {bs : List Byte} (status : Nat) (result : List Byte) :
    (finish (u.ramStore a bs) id status result).ramBytes a bs.length = bs ∧
      OnlyMemory s (finish (u.ramStore a bs) id status result) a bs.length ∧
      outcome (finish (u.ramStore a bs) id status result) id = some (onePart status 0 result) ∧
      finish (u.ramStore a bs) id status result = { s with
        dram := (finish (u.ramStore a bs) id status result).dram, rings := (finish (u.ramStore a bs) id status result).rings } := by
  have hstore := State.ramBytes_ramStore u a bs
  have honly := onlyMemory_ramStore u a bs
  have htouch : Touches [.dram] [] u (u.ramStore a bs) := touches_ramStore a bs
  have hpending := hp.of htouch
  generalize u.ramStore a bs = v at hstore honly htouch hpending
  have hfinish := touches_finish (s := v) id status result
  have hout := hpending.finish status result
  generalize finish v id status result = t at hfinish hout
  have hdram : t.dram = v.dram := hfinish.part .dram (by decide)
  refine ⟨(ramBytes_of_dram hdram a _).trans hstore, fun k hk => ?_, hout, ?_⟩
  · rw [ram_of_dram hdram, honly k hk]
    exact hu.ram (by decide) k
  · exact ((hu.mono.trans htouch.mono).then hfinish : Touches [.dram, .rings] [] s t).eq

theorem nodeRead_spec (hc : mayStart s id 0x0103 c) (hturn : nodeTurn s c = true) (huse : pInUse s (cmdParcel c) = true) :
    nodeRead s id = finishCmd s id (nodeParts (s.ramBytes (256 * cmdParcel c) 256)) := by
  unfold nodeRead
  rw [hc.1]
  simp only [hturn, huse, Bool.not_true, Bool.false_eq_true, if_false]

/-! ### NODE_REMOVE (R391) -/

/-- A node that nothing else of the device refers to. -/
structure Lone (s : State) (p : Nat) : Prop where
  cls : pClass s p ≠ 2
  relayed : pRelayed s p = false
  mailbox : mbxCount s p = 0
  entries : nodeEntries s p = []
  carried : s.cad.dls.any (fun d => d.carries == some p) = false
  session : pendingIn s p = none

theorem Lone.of {t : State} {p : Nat} (h : Lone s p) (hd : t.dram = s.dram) (hu : t.upd = s.upd) (hc : t.cad.dls = s.cad.dls) : Lone t p :=
  ⟨by rw [pClass, pBits_of_dram hd]; exact h.cls, by rw [pRelayed, pBits_of_dram hd]; exact h.relayed,
    by rw [mbxCount, pBits_of_dram hd]; exact h.mailbox, by rw [nodeEntries_of_dram hd]; exact h.entries, by rw [hc]; exact h.carried,
    by rw [pendingIn_of_dram hd hu]; exact h.session⟩

/-- What is left of a node in the state beside its parcel, forgotten. -/
def loneForgotten (s : State) (p : Nat) : State :=
  forgetNode (dropAssign { s with cad := { s.cad with held := s.cad.held.filter (fun h => h.1 != p), after := Tbl.erase p s.cad.after } } p) p

theorem dropAll_lone {p : Nat} (h : Lone s p) : (dropAll s p).2 =
    { s with cad := { s.cad with held := s.cad.held.filter (fun h => h.1 != p), after := Tbl.erase p s.cad.after } } := by
  have hunit : dropUnit s p = s := by
    have hnone : s.cad.dls.find? (fun d => d.carries == some p) = none := by
      rw [List.find?_eq_none]
      intro d hd
      have := h.carried
      rw [List.any_eq_false] at this
      exact this d hd
    unfold dropUnit
    rw [hnone]
  have hlone := h.of (t := { s with cad := { s.cad with held := s.cad.held.filter (fun h => h.1 != p), after := Tbl.erase p s.cad.after } }) rfl rfl rfl
  unfold dropAll
  rw [hunit]
  simp only [endAll, hlone.mailbox, if_true]

theorem freeParcel_lone {p : Nat} (h : Lone s p) : freeParcel s p = (loneForgotten s p).ramStore (256 * p) (List.replicate 256 0#8) := by
  have hheld := h.of (t := { s with cad := { s.cad with held := s.cad.held.filter (fun h => h.1 != p), after := Tbl.erase p s.cad.after } }) rfl rfl rfl
  unfold freeParcel loneForgotten
  rw [dropAll_lone h]
  generalize ({ s with cad := { s.cad with held := s.cad.held.filter (fun h => h.1 != p), after := Tbl.erase p s.cad.after } } : State) = u at hheld
  have hempty : emptyNode u p = u := by
    rw [emptyNode, hheld.entries]
    rfl
  have hassign : Lone (dropAssign u p) p := hheld.of rfl rfl rfl
  simp only [hempty]
  generalize dropAssign u p = v at hassign
  have hstate : setUstate v p 6 = v := by
    rw [setUstate, hassign.session]
  simp only [hstate, if_neg hassign.cls, hassign.relayed, Bool.false_eq_true, if_false]

theorem touches_loneForgotten (p : Nat) : Touches [.mac, .cad, .upd] [] s (loneForgotten s p) := touches_parts [.mac, .cad, .upd] rfl

theorem nodeRemove_eq (hc : mayStart s id 0x0102 c) (hturn : nodeTurn s c = true) (hh : holding s = false) (huse : pInUse s (cmdParcel c) = true) :
    nodeRemove s id = finish (freeParcel (commitCmd s id) (cmdParcel c)) id 0x00 [] := by
  unfold nodeRemove
  rw [hc.1]
  simp only [hturn, hh, huse, Bool.not_true, Bool.or_self, Bool.false_eq_true, if_false]

theorem nodeRemove_spec (hc : mayStart s id 0x0102 c) (hturn : nodeTurn s c = true) (hh : holding s = false) (huse : pInUse s (cmdParcel c) = true)
    (h : Lone s (cmdParcel c)) : (∀ i, i < 256 → (nodeRemove s id).ram (256 * cmdParcel c + i) = 0#8) ∧
      OnlyMemory s (nodeRemove s id) (256 * cmdParcel c) 256 ∧ outcome (nodeRemove s id) id = some (onePart 0x00 0 []) ∧
      OnlyRegs s (nodeRemove s id) [] := by
  rw [nodeRemove_eq hc hturn hh huse]
  generalize cmdParcel c = p at h
  have hcommit := touches_commitCmd (s := s) id
  have hpending := hc.isPending.commitCmd
  have hlone := h.of (hcommit.part .dram (by decide)) (hcommit.part .upd (by decide)) (congrArg (·.dls) (hcommit.part .cad (by decide)))
  generalize commitCmd s id = u at hcommit hpending hlone
  rw [freeParcel_lone hlone]
  have hforget := touches_loneForgotten (s := u) p
  have hpending' := hpending.of hforget
  generalize loneForgotten u p = v at hforget hpending'
  have hstore : ∀ i, i < 256 → (v.ramStore (256 * p) (List.replicate 256 0#8)).ram (256 * p + i) = 0#8 := fun i hi => by
    rw [State.ram_ramStore _ _ _ (by rw [List.length_replicate]; exact hi), List.getElem_replicate]
  have honly := onlyMemory_ramStore v (256 * p) (List.replicate 256 0#8)
  rw [List.length_replicate] at honly
  have htouch : Touches [.dram] [] v (v.ramStore (256 * p) (List.replicate 256 0#8)) := touches_ramStore _ _
  have hpending'' := hpending'.of htouch
  generalize v.ramStore (256 * p) (List.replicate 256 0#8) = w at hstore honly htouch hpending''
  have hfinish := touches_finish (s := w) id 0x00 []
  have hout := hpending''.finish 0x00 []
  generalize finish w id 0x00 [] = t at hfinish hout
  have hdram : t.dram = w.dram := hfinish.part .dram (by decide)
  have hsv : Touches [.rings, .mac, .cad, .upd] [] s v := hcommit.mono.then hforget
  refine ⟨fun i hi => (ram_of_dram hdram _).trans (hstore i hi), fun k hk => ?_, hout, fun a _ => ?_⟩
  · rw [ram_of_dram hdram, honly k hk]
    exact hsv.ram (by decide) k
  · rw [hfinish.reg a (by simp), htouch.reg a (by simp)]
    exact hsv.reg a (by simp)

end

/-! ### DL_SEND (R140, R406) -/

section
variable {s : State} {p : Nat}

theorem OnlyMemory.trans {s t u : State} {a n : Nat} (h : OnlyMemory s t a n) (h' : OnlyMemory t u a n) : OnlyMemory s u a n :=
  fun k hk => (h' k hk).trans (h k hk)

theorem OnlyMemory.within {s t : State} {a n b m : Nat} (h : OnlyMemory s t a n) (hl : b ≤ a) (hr : a + n ≤ b + m) : OnlyMemory s t b m :=
  fun k hk => h k (by omega)

/-- The bits of a byte written anew. -/
theorem bits_rewritten {b v : Nat} (hb : b < 256) : bitsOf ((b - bitsOf b 3 4 * 2 ^ 3 + v % 2 ^ 4 * 2 ^ 3) % 256) 3 4 = v % 16 := by
  simp only [bitsOf, show (2 : Nat) ^ 3 = 8 from rfl, show (2 : Nat) ^ 4 = 16 from rfl]
  omega

theorem mbxCount_set (n : Nat) : mbxCount (pSetBits s p 224 3 4 n) p = n % 16 := by
  have hram : (pSetBits s p 224 3 4 n).ram (256 * p + 224 + 0) =
      BitVec.ofNat 8 ((s.ram (256 * p + 224)).toNat - bitsOf (s.ram (256 * p + 224)).toNat 3 4 * 2 ^ 3 + n % 2 ^ 4 * 2 ^ 3) :=
    State.ram_ramStore _ _ _ (by rw [length_leBytes]; omega)
  rw [mbxCount, pBits, show 256 * p + 224 = 256 * p + 224 + 0 from rfl, hram, BitVec.toNat_ofNat]
  exact bits_rewritten (s.ram (256 * p + 224)).isLt

theorem onlyMemory_putMbx (i : Nat) (m : Mbx) : OnlyMemory s (putMbx s p i m) (256 * p + 160) 64 := by
  have h := onlyMemory_ramStore s (256 * p + mbxOff s p i) (leBytes 8 m.word)
  rw [length_leBytes] at h
  have hoff : 160 ≤ mbxOff s p i ∧ mbxOff s p i + 8 ≤ 224 := by
    unfold mbxOff
    omega
  exact OnlyMemory.within h (by omega) (by omega)

theorem onlyMemory_pSetBits (o lsb w v : Nat) : OnlyMemory s (pSetBits s p o lsb w v) (256 * p + o) 1 := by
  have h := onlyMemory_ramStore s (256 * p + o) (leBytes 1 ((s.ram (256 * p + o)).toNat - bitsOf (s.ram (256 * p + o)).toNat lsb w * 2 ^ lsb + v % 2 ^ w * 2 ^ lsb))
  rw [length_leBytes] at h
  exact h

/-- A downlink entered in its mailbox: the cells taken, the entry written behind the last. -/
def downEntered (s : State) (p : Nat) (m : Mbx) (d : Dl) : State :=
  let need := max 1 (ceilDiv d.payload.length 256)
  let hs := (takeCells s true need).1
  let u := (takeCells s true need).2
  pSetBits (putMbx { u with cad := { u.cad with dls := u.cad.dls ++ [{ d with buf := hs.headD 0, parcel := p, cells := hs }] } } p (mbxCount s p)
    { m with buf := hs.headD 0, len := d.payload.length }) p 224 3 4 (mbxCount s p + 1)

theorem enterMailbox_room {m : Mbx} {d : Dl} (h : mbxCount s p < 8)
    (hcells : (takeCells s true (max 1 (ceilDiv d.payload.length 256))).1.length = max 1 (ceilDiv d.payload.length 256)) :
    enterMailbox s p m d = some (mbxCount s p, downEntered s p m d) := by
  unfold enterMailbox
  simp only
  rw [if_neg (by omega), if_neg (by omega)]
  rfl

theorem downEntered_spec (m : Mbx) (d : Dl) (h : mbxCount s p < 8) : mbxCount (downEntered s p m d) p = mbxCount s p + 1 ∧
    (downEntered s p m d).cad.dls.length = s.cad.dls.length + 1 ∧ OnlyMemory s (downEntered s p m d) (256 * p + 160) 65 ∧
    (downEntered s p m d).rings = s.rings := by
  have hcells := touches_takeCells (s := s) true (max 1 (ceilDiv d.payload.length 256))
  unfold downEntered
  simp only
  generalize takeCells s true (max 1 (ceilDiv d.payload.length 256)) = r at hcells
  generalize mbxCount s p = n at h
  have hdls : ({ r.2 with cad := { r.2.cad with dls := r.2.cad.dls ++ [{ d with buf := r.1.headD 0, parcel := p, cells := r.1 }] } } : State).cad.dls.length =
      s.cad.dls.length + 1 := by
    show (r.2.cad.dls ++ _).length = _
    rw [List.length_append, hcells.part .cad (by decide)]
    rfl
  have hentered : Touches (.cad :: admitParts) admitPages s
      { r.2 with cad := { r.2.cad with dls := r.2.cad.dls ++ [{ d with buf := r.1.headD 0, parcel := p, cells := r.1 }] } } :=
    hcells.mono.then (touches_cad _)
  generalize ({ r.2 with cad := { r.2.cad with dls := r.2.cad.dls ++ [{ d with buf := r.1.headD 0, parcel := p, cells := r.1 }] } } : State) = u at hdls hentered
  have hput := onlyMemory_putMbx (s := u) (p := p) n { m with buf := r.1.headD 0, len := d.payload.length }
  have hputs := touches_putMbx (s := u) p n { m with buf := r.1.headD 0, len := d.payload.length }
  generalize putMbx u p n { m with buf := r.1.headD 0, len := d.payload.length } = v at hput hputs
  have hset := onlyMemory_pSetBits (s := v) (p := p) 224 3 4 (n + 1)
  have hsets := touches_pSetBits (s := v) p 224 3 4 (n + 1)
  have hcount := mbxCount_set (s := v) (p := p) (n + 1)
  generalize pSetBits v p 224 3 4 (n + 1) = w at hset hsets hcount
  refine ⟨hcount.trans (Nat.mod_eq_of_lt (by omega)), ?_, fun k hk => ?_, ?_⟩
  · rw [hsets.part .cad (by decide), hputs.part .cad (by decide), hdls]
  · rw [hset k (by omega), hput k (by omega)]
    exact hentered.ram (by decide) k
  · rw [hsets.part .rings (by decide), hputs.part .rings (by decide), hentered.part .rings (by decide)]

theorem pRelayed_of_onlyMemory {t : State} (h : OnlyMemory s t (256 * p + 160) 65) : pRelayed t p = pRelayed s p := by
  rw [pRelayed, pRelayed, pBits, pBits, h (256 * p + 8) (by omega)]

/-- What DL_SEND keeps of a downlink. -/
def sentDown (id : CmdId) (c : Cmd) (payload : List Byte) : Dl :=
  { Dl.blank with cmd := none, tag := some (id, descTag c.desc), payload := payload }

variable {id : CmdId} {c : Cmd} {payload : List Byte}

theorem dlSend_eq (hc : mayStart s id 0x0104 c) (hturn : nodeTurn s c = true) (hh : holding s = false) (huse : pInUse s (cmdParcel c) = true)
    (hdata : c.data = some payload) (hroom : mbxCount s (cmdParcel c) < 8) (hmode : (dlEntry c.desc).mode1 = true)
    (hcells : (takeCells s true (max 1 (ceilDiv payload.length 256))).1.length = max 1 (ceilDiv payload.length 256)) :
    dlSend s id = placeRelay (finish (downEntered s (cmdParcel c) (dlEntry c.desc) (sentDown id c payload)) id 0x01
      (leBytes 1 (mbxCount s (cmdParcel c)))) (cmdParcel c) := by
  have hentered : enterMailbox s (cmdParcel c) (dlEntry c.desc) { Dl.blank with cmd := none, tag := some (id, descTag c.desc), payload := payload } =
      some (mbxCount s (cmdParcel c), downEntered s (cmdParcel c) (dlEntry c.desc) (sentDown id c payload)) :=
    enterMailbox_room (d := sentDown id c payload) hroom hcells
  unfold dlSend
  rw [hc.1]
  simp only [hturn, hh, huse, hdata, hmode, if_neg (Nat.not_le.2 hroom), Bool.not_true, Bool.or_self, Bool.false_eq_true, if_false, if_true, hentered]

theorem dlSend_spec (hc : mayStart s id 0x0104 c) (hturn : nodeTurn s c = true) (hh : holding s = false) (huse : pInUse s (cmdParcel c) = true)
    (hrel : pRelayed s (cmdParcel c) = false) (hdata : c.data = some payload) (hroom : mbxCount s (cmdParcel c) < 8)
    (hmode : (dlEntry c.desc).mode1 = true)
    (hcells : (takeCells s true (max 1 (ceilDiv payload.length 256))).1.length = max 1 (ceilDiv payload.length 256)) :
    mbxCount (dlSend s id) (cmdParcel c) = mbxCount s (cmdParcel c) + 1 ∧
      outcome (dlSend s id) id = some (onePart 0x01 0 (leBytes 1 (mbxCount s (cmdParcel c)))) ∧
      (dlSend s id).cad.dls.length = s.cad.dls.length + 1 ∧ OnlyMemory s (dlSend s id) (256 * cmdParcel c) 256 := by
  rw [dlSend_eq hc hturn hh huse hdata hroom hmode hcells]
  generalize cmdParcel c = p at hroom hrel
  obtain ⟨hcount, hdls, hmem, hrings⟩ := downEntered_spec (dlEntry c.desc) (sentDown id c payload) hroom
  generalize downEntered s p (dlEntry c.desc) (sentDown id c payload) = u at hcount hdls hmem hrings
  have hfinish := touches_finish (s := u) id 0x01 (leBytes 1 (mbxCount s p))
  have hout := (hc.isPending.of_rings hrings).finish 0x01 (leBytes 1 (mbxCount s p))
  generalize finish u id 0x01 (leBytes 1 (mbxCount s p)) = t at hfinish hout
  have hdram : t.dram = u.dram := hfinish.part .dram (by decide)
  have htmem : OnlyMemory s t (256 * p + 160) 65 := fun k hk => (ram_of_dram hdram k).trans (hmem k hk)
  have hplace : placeRelay t p = t := if_pos (by rw [pRelayed_of_onlyMemory htmem, hrel]; rfl)
  rw [hplace]
  refine ⟨?_, hout, ?_, htmem.within (by omega) (by omega)⟩
  · rw [mbxCount, pBits_of_dram hdram]
    exact hcount
  · rw [hfinish.part .cad (by decide), hdls]

end

/-! ### WAKE_SEND, LANE_CAL (R143, R144) -/

section
variable {s : State} {id : CmdId} {c : Cmd}

theorem Tbl.find?_ins (n : Nat) {α : Type} (v : α) (t : Tbl α) : (Tbl.ins n v (Tbl.erase n t)).find? (fun e => e.1 == n) = some (n, v) := by
  have hne := Tbl.erase_ne t n
  generalize Tbl.erase n t = u at hne
  induction u with
  | nil => simp [Tbl.ins]
  | cons e l ih =>
    have he : e.1 ≠ n := hne e (List.mem_cons_self ..)
    have hl := ih (fun x hx => hne x (List.mem_cons_of_mem _ hx))
    unfold Tbl.ins
    split
    · simp
    · rw [List.find?_cons_of_neg (by simpa using he)]
      exact hl

theorem wakeOf_putWake (n : Nat) (w : Wake) : wakeOf (putWake s n w) n = some w := by
  show ((Tbl.ins n w (Tbl.erase n s.mac.wakes)).find? (fun e => e.1 == n)).map _ = _
  rw [Tbl.find?_ins]
  rfl

@[simp] theorem State.lane_setLane_self (n : Nat) (l : LaneSt) : (s.setLane n l).lane n = l := Tbl.get_put_self _ _ _ _

theorem State.lane_setLane_ne {n k : Nat} (l : LaneSt) (h : k ≠ n) : (s.setLane n l).lane k = s.lane k := Tbl.get_put_ne _ _ _ h

/-- The exchange of a WAKE_SEND. -/
def wakeAsked (id : CmdId) (c : Cmd) : Wake :=
  { cmd := some id, parcel := none, addr := fieldAt c.desc 16 4, code := fieldAt c.desc 20 1, expect := bit (fieldAt c.desc 22 1) 1,
    retries := fieldAt c.desc 23 1 % 8, attempt := 0, stage := 0, start := 0, fpend := false }

theorem wakeSend_eq (hc : mayStart s id 0x0105 c) (h : (wakeOf s (fieldAt c.desc 21 1 % 4)).any (fun w => w.stage != 4) = false) :
    wakeSend s id = putWake (beginCmd s id) (fieldAt c.desc 21 1 % 4) (wakeAsked id c) := by
  unfold wakeSend
  rw [hc.1]
  simp only [h, Bool.false_eq_true, if_false]
  rfl

/-- The calibration that LANE_CAL asks for. -/
def calAsked (s : State) (id : CmdId) (c : Cmd) : State :=
  let n := fieldAt c.desc 16 1 % 4
  (beginCmd s id).setLane n { (beginCmd s id).lane n with
    job := some { id := id, next := fieldAt c.desc 18 2, remaining := fieldAt c.desc 20 2, done := 0, failed := 0, firstFailed := none,
                  blanked := laneState (beginCmd s id) n == 6 } }

theorem laneCal_on (hc : mayStart s id 0x0106 c) (hjob : (s.lane (fieldAt c.desc 16 1 % 4)).job = none)
    (h : laneState s (fieldAt c.desc 16 1 % 4) ≠ 0) : laneCal s id = showJob (calAsked s id c) (fieldAt c.desc 16 1 % 4) := by
  unfold laneCal
  rw [hc.1]
  simp only [hjob, if_neg h, Option.isSome_none, Bool.false_eq_true, if_false]
  rfl

theorem laneCal_off (hc : mayStart s id 0x0106 c) (hjob : (s.lane (fieldAt c.desc 16 1 % 4)).job = none)
    (h : laneState s (fieldAt c.desc 16 1 % 4) = 0) : laneCal s id = finish s id 0x50 (leBytes 2 0 ++ leBytes 2 0 ++ leBytes 2 0xFFFF) := by
  unfold laneCal
  rw [hc.1]
  simp only [hjob, if_pos h, Option.isSome_none, Bool.false_eq_true, if_false]

theorem showJob_spec (n : Nat) : (showJob s n).lanes = s.lanes ∧ (showJob s n).rings = s.rings ∧ OnlyRegs s (showJob s n) [A.LRF_CAL_PROGRESS n] := by
  unfold showJob
  split
  · exact ⟨rfl, rfl, onlyRegs_setReg s _ _⟩
  · exact ⟨rfl, rfl, onlyRegs_setReg s _ _⟩

theorem laneCal_spec (hc : mayStart s id 0x0106 c) (hjob : (s.lane (fieldAt c.desc 16 1 % 4)).job = none)
    (h : laneState s (fieldAt c.desc 16 1 % 4) ≠ 0) :
    (((laneCal s id).lane (fieldAt c.desc 16 1 % 4)).job.map (fun j => (j.id, j.next, j.remaining))) = some (id, fieldAt c.desc 18 2, fieldAt c.desc 20 2) ∧
      underway (laneCal s id) id ∧ OnlyRegs s (laneCal s id) [A.LRF_CAL_PROGRESS (fieldAt c.desc 16 1 % 4)] := by
  obtain ⟨hlanes, hrings, hregs⟩ := showJob_spec (s := calAsked s id c) (fieldAt c.desc 16 1 % 4)
  rw [laneCal_on hc hjob h]
  generalize showJob (calAsked s id c) (fieldAt c.desc 16 1 % 4) = t at hlanes hrings hregs
  have hasked : OnlyRegs s (calAsked s id c) [] := fun a _ => (touches_beginCmd (s := s) id).reg a (by simp)
  have hlane : t.lane (fieldAt c.desc 16 1 % 4) = (calAsked s id c).lane (fieldAt c.desc 16 1 % 4) := by rw [State.lane, State.lane, hlanes]
  refine ⟨?_, underway_beginCmd hc.found hc.pending hrings, (hasked.trans hregs).mono (by simp)⟩
  rw [hlane, calAsked, State.lane_setLane_self]
  rfl

end

/-! ### The statement -/

/-- Settles O36: nodes added, removed and read, downlinks kept in their mailbox, wake exchanges and calibrations claimed. -/
theorem nodeCommandsKeepTheCadastre : Obligations.NodeCommandsKeepTheCadastre := by
  unfold Obligations.NodeCommandsKeepTheCadastre
  refine fun s id c => ⟨fun hs hturn hh hc => ⟨fun hfull => ?_, fun hfull => ?_⟩, fun hs hturn hh hc huse hcls hrel hmbx hent hcar hpend => ?_,
    fun hs hturn hc huse => ?_, fun payload hs hturn hh hc huse hrel hdata hroom hmode hcells => ?_, fun hs hc hw => ?_,
    fun hs hc hjob => ⟨fun h => ?_, fun h => ?_⟩⟩
  · have hspec := parcelWritten_spec (touches_commitCmd (s := s) id) hc.isPending.commitCmd (a := 256 * freeParcelIndex s) (bs := newParcel s c.desc) 0x00
      (leBytes 4 (freeParcelIndex s))
    rw [length_newParcel] at hspec
    exact ⟨_, (congrArg Host.Outcome.next (if_pos hs)).trans (congrArg Host.Outcome.next (nodeAdd_room hc hturn hh hfull)), hspec⟩
  · exact ⟨_, (congrArg Host.Outcome.next (if_pos hs)).trans (congrArg Host.Outcome.next (nodeAdd_full hc hturn hh hfull)), hc.isPending.finish _ _,
      (touches_finish id 0x12 (leBytes 1 1)).eq⟩
  · exact ⟨_, congrArg Host.Outcome.next (if_pos hs), nodeRemove_spec hc hturn hh huse ⟨hcls, hrel, hmbx, hent, hcar, hpend⟩⟩
  · refine ⟨_, (congrArg Host.Outcome.next (if_pos hs)).trans (congrArg Host.Outcome.next (nodeRead_spec hc hturn huse)), hc.isPending.finishParts _, ?_⟩
    exact (touches_finishCmd s id _).eq
  · exact ⟨_, congrArg Host.Outcome.next (if_pos hs), dlSend_spec hc hturn hh huse hrel hdata hroom hmode hcells⟩
  · refine ⟨_, (congrArg Host.Outcome.next (if_pos hs)).trans (congrArg Host.Outcome.next (wakeSend_eq hc hw)), ?_, ?_, ?_⟩
    · rw [wakeOf_putWake]
      rfl
    · exact underway_beginCmd hc.found hc.pending rfl
    · exact ((touches_beginCmd id).mono.then (touches_putWake (wakeAsked id c)) : Touches [.rings, .mac] [] s _).eq
  · exact ⟨_, congrArg Host.Outcome.next (if_pos hs), laneCal_spec hc hjob h⟩
  · refine ⟨_, (congrArg Host.Outcome.next (if_pos hs)).trans (congrArg Host.Outcome.next (laneCal_off hc hjob h)), ?_, (touches_finish id 0x50 _).eq⟩
    rw [hc.isPending.finish]
    rfl

end Sys2Proof.Machine
end

section
/-!
PROOFS. MAINT_ENTER while a downlink is on air before superframe 0: the gate closes, and the attempt cut off counts in the mailbox of its
node (04_command_set.md, Device and role commands; 09_mac_superframe.md, Acknowledgements and retries).
-/
namespace Sys2Proof.Machine

-- One proof after another: side by side, the threads of so long a text want more memory than the check grants.
set_option Elab.async false

/-- The head downlink of node 5, on air on lane 0. -/
def maintTx : Tx :=
  { kind := 2, parcel := 5, content := .head none, bytes := [], channel := 0, offset := 0, mode := 0, sf := 7, bw := 0, rate := 0, npre := 0,
    length := 0, fc := 0, load := [], power := 0, gain := 0, start := 0, latest := 0, stage := 4, taken := none, charge := 0, accts := [],
    bucket := 0, code := 0, backoff := 0, clip := 0, stepped := 0 }

/-- Its entry in the mailbox: seven retries left, no attempt made. -/
def maintMbx : Mbx :=
  { buf := 1, kind := 0, ackReq := false, mode1 := false, cls := 0, enc := false, len := 0, retries := 7, attempts := 0, late := false }

/-- MAINT_ENTER, taken from the mailbox. -/
def maintCmd : Cmd :=
  { seq := 7, desc := leBytes 2 0x0002 ++ List.replicate 62 0#8, order := 0, timeout := 1000, began := false, committed := false, done := false,
    asked := false, data := none, parts := [], written := 0, lost := false }

def maintId : CmdId := { src := 4, seq := 7 }

/-- READY before superframe 0 with the downlink on air and MAINT_ENTER taken. -/
def maintState : State :=
  let s := State.reset.setFld F.SYS_STATUS_DEV_STATE 2
  let s := s.setRing 4 { Ring.init with cmds := [maintCmd] }
  let s := s.setLane 0 { s.lane 0 with txs := [maintTx] }
  let s := pSetBits (putMbx s 5 0 maintMbx) 5 224 3 4 1
  { s with cad := { s.cad with dls := [{ Dl.blank with buf := 1, parcel := 5 }] } }

/-- The byte of the mailbox entry that counts the attempts, in the state that a command leaves. -/
def attemptsByte (r : Result) : Option Byte :=
  match r with
  | .next t => some (t.ram (256 * 5 + 166))
  | _ => none

theorem maintEnter_countsAttempt : attemptsByte (exec (.maintEnter maintId) maintState) = some 15#8 ∧ maintState.ram (256 * 5 + 166) = 7#8 := by
  decide +kernel

theorem maintState_meets : maintState.ready = true ∧ holdUp maintState = false ∧ maintState.pow.entry = none ∧
    starting maintState maintId 0x0002 = some maintCmd := by
  decide +kernel

/-- Refutes O34: MAINT_ENTER before superframe 0 closes the gate at once, and the downlink that is cut off on air counts an attempt in the
mailbox of its node, so the memory changes. -/
theorem not_deviceCommandsChangeTheDeviceState : ¬ Obligations.DeviceCommandsChangeTheDeviceState := by
  unfold Obligations.DeviceCommandsChangeTheDeviceState
  rintro ⟨-, hmaint, -⟩
  obtain ⟨hready, hup, hentry, hstart⟩ := maintState_meets
  obtain ⟨t, ht, -, -, -, -, hmem⟩ := hmaint maintState maintId maintCmd hready hup hentry ⟨hstart, rfl⟩
  obtain ⟨hafter, hbefore⟩ := maintEnter_countsAttempt
  rw [ht] at hafter
  have hbyte : t.ram (256 * 5 + 166) = 15#8 := Option.some.inj hafter
  rw [hmem, hbefore] at hbyte
  exact absurd hbyte (by decide)

end Sys2Proof.Machine
end

section
/-!
PROOFS. SYNC_MISS of the last context while a gap calibration waits: the gap opens, and the detections that queue are preempted and counted
(06_radio_lanes.md, Transmit requests and the calibration they meet; 07_chirp_phy.md, Decoder contexts).
-/
namespace Sys2Proof.Machine

-- One proof after another: side by side, the threads of so long a text want more memory than the check grants.
set_option Elab.async false

/-- A detection of sub-channel 0. -/
def gapDetection : Detection :=
  { subch := 0, off := 0, sf := 7, bw := 0, bin := 0, rssi := -100, time := State.reset.now, blanked := false }

/-- A context that waits for its sync word. -/
def gapCtx : Ctx :=
  { stage := 1, det := gapDetection, order := 0, alt := false, blanked := false, hdr := 0, rssi := 0, snr := 0, foff := 0,
    ts := State.reset.now, stepGen := 0 }

/-- Lane 0 in RX with one context in use, one detection queued, and a gap calibration of channel 0, defined and not yet calibrated, waiting. -/
def gapState : State :=
  let s := State.reset.setFld (F.LRF_STATUS_STATE 0) 3
  let s := setAnalog s 0 0 0x80000000#32
  s.setLane 0 { s.lane 0 with ctxs := [(0, gapCtx)], queue := [gapDetection], gapCal := [0] }

/-- The detections preempted on lane 0, in the state that a command leaves. -/
def preemptedWord (r : Result) : Option Word :=
  match r with
  | .next t => some (t.reg (A.LBB_CTX_PREEMPT 0))
  | _ => none

theorem syncMiss_preempts : preemptedWord (exec (.syncMiss 0 0) gapState) = some 1#32 ∧ gapState.reg (A.LBB_CTX_PREEMPT 0) = 0#32 := by
  decide +kernel

theorem gapState_meets : gapState.answers = true ∧ ctxOf gapState 0 0 = some gapCtx := by decide +kernel

/-- Refutes O49: SYNC_MISS that frees the last context opens the gap for which a calibration waits, and the detection still queued is
preempted and counted in LBB.CTX_PREEMPT. -/
theorem not_framesAreReceived : ¬ Obligations.FramesAreReceived := by
  unfold Obligations.FramesAreReceived
  intro h
  obtain ⟨-, -, hctx, -⟩ := h gapState 0
  obtain ⟨hanswers, hof⟩ := gapState_meets
  obtain ⟨hmiss, -⟩ := hctx 0 gapCtx hanswers hof
  obtain ⟨t, ht, -, -, hregs⟩ := hmiss rfl
  obtain ⟨hafter, hbefore⟩ := syncMiss_preempts
  rw [ht] at hafter
  have hword : t.reg (A.LBB_CTX_PREEMPT 0) = 1#32 := Option.some.inj hafter
  have hsame : t.reg (A.LBB_CTX_PREEMPT 0) = gapState.reg (A.LBB_CTX_PREEMPT 0) := hregs _ (by decide)
  rw [hword, hbefore] at hsame
  exact absurd hsame (by decide)

end Sys2Proof.Machine
end

section
/-!
PROOFS. ACK_RECEIVE of a relayed node whose head downlink and the relay unit that carries it share one buffer: the unit leaves its mailbox,
the downlink with it, and no acknowledged downlink is counted (09_mac_superframe.md, Acknowledgements and retries).
-/
namespace Sys2Proof.Machine

-- One proof after another: side by side, the threads of so long a text want more memory than the check grants.
set_option Elab.async false

/-- The entry at the head of the mailbox of node 5: buffer 1, an acknowledgement asked for. -/
def sharedMbx : Mbx :=
  { buf := 1, kind := 0, ackReq := true, mode1 := false, cls := 0, enc := false, len := 0, retries := 7, attempts := 1, late := false }

/-- The downlink of node 5, sent with counter 0, and the relay unit that carries it, in the same buffer. -/
def sharedDl : Dl := { Dl.blank with buf := 1, parcel := 5, sent := true }

def sharedUnit : Dl := { sharedDl with carries := some 5 }

/-- READY with a bundle loaded: an acknowledgement of node 5 waits on lane 0, node 5 is reached through a repeater. -/
def sharedState : State :=
  let s := State.reset.setFld F.SYS_STATUS_DEV_STATE 2
  let s := pSetBits (pSetBits (putMbx s 5 0 sharedMbx) 5 224 3 4 1) 5 8 3 1 1
  let s := { s with cad := { s.cad with dls := [sharedDl, sharedUnit] }, dev := { s.dev with fwVersion := some 1 } }
  s.setLane 0 { s.lane 0 with acked := [(5, 0, 0)] }

/-- The downlinks counted as acknowledged, in the state that a command leaves. -/
def ackedCount (r : Result) : Option Nat :=
  match r with
  | .next t => some (t.fld F.MAC_DL_ACKED_COUNT)
  | _ => none

theorem ackReceive_countsNone : ackedCount (exec (.ackReceive 0) sharedState) = some 0 ∧ sharedState.fld F.MAC_DL_ACKED_COUNT = 0 := by
  decide +kernel

theorem sharedState_meets : sharedState.engaged = true ∧ (sharedState.lane 0).acked = [(5, 0, 0)] ∧
    headDl sharedState 5 = some (sharedMbx, sharedDl) := by
  decide +kernel

/-- Refutes O50: ACK_RECEIVE for a relayed node drops the relay unit that carries its head downlink, and where both lie in one buffer the
downlink goes with it before it is counted in MAC.DL_ACKED. -/
theorem not_superframesSlotsAndDownlinksRun : ¬ Obligations.SuperframesSlotsAndDownlinksRun := by
  unfold Obligations.SuperframesSlotsAndDownlinksRun
  rintro ⟨-, -, -, -, -, -, hack, -⟩
  obtain ⟨hengaged, hacked, hhead⟩ := sharedState_meets
  obtain ⟨t, ht, -, hcount⟩ := hack sharedState 0 5 0 0 [] hengaged hacked
  have hone := hcount sharedMbx sharedDl hhead rfl rfl rfl rfl (by decide)
  obtain ⟨hafter, hbefore⟩ := ackReceive_countsNone
  rw [ht] at hafter
  have hnone : t.fld F.MAC_DL_ACKED_COUNT = 0 := Option.some.inj hafter
  rw [hnone, hbefore] at hone
  exact absurd hone (by decide)

end Sys2Proof.Machine
end

section
/-!
PROOFS. TONE_MAP_RX of a relayed peer whose route names a repeater beyond the cadastre: the relay unit of the answer is entered where the
"parcel" of that repeater would lie, which is in the map memory (08_ofdm_payload.md, Exchanging tone maps).
-/
namespace Sys2Proof.Machine

-- One proof after another: side by side, the threads of so long a text want more memory than the check grants.
set_option Elab.async false

section
variable {s w : State} {n p q k : Nat} {f : RxFrame}

/-- A node that is relayed, with something in its mailbox and no unit on its way: the unit is entered at the first repeater of its path. -/
theorem placeRelay_entered (hrelayed : pRelayed s p = true) (hcount : mbxCount s p ≠ 0) (hdls : s.cad.dls = []) (hhead : headDl s p = none)
    (hq : adjacentTo s p = q)
    (henter : enterMailbox s q
      { buf := 0, kind := 2, ackReq := true, mode1 := false, cls := (mbxAt s p 0).cls, enc := false, len := 0, retries := 0, attempts := 0,
        late := false }
      { Dl.blank with payload := downUnit (pathTo s p) [], carries := some p } = some (k, w)) : placeRelay s p = w := by
  have hgate : (!pRelayed s p || mbxCount s p = 0 || s.cad.dls.any (fun d => d.carries == some p) ||
      (headDl s p).any (fun h => h.2.window)) = false := by
    rw [hrelayed, hdls, hhead, decide_eq_false hcount]
    rfl
  unfold placeRelay
  rw [if_neg (by rw [hgate]; decide)]
  simp only [hq, hhead, List.replicate_zero, henter]

/-- A map that passes stored, with what the parcel of its peer says of it. -/
def mapStored (s : State) (n : Nat) (f : RxFrame) : State :=
  let p := fParcel f.bytes
  let m := chM s n f.channel
  let hg := fieldAt f.body 1 2
  let c := fieldAt f.body 3 1
  pSet (s.ramStore (mapBase (pPeer s p) + 216) (f.body.drop 7 ++ List.replicate (4 * ceilDiv (27 * m) 4 - (f.body.drop 7).length) 0#8))
    p 152 8 (1 + 2 * bitsOf hg 12 3 + 16 * bitsOf c 0 2 + 64 * bitsOf c 2 2 + 256 * bitsOf (pGet s p 152 8) 8 2
        + 4096 * bitsOf c 4 2 + 2 ^ 16 * bitsOf (pGet s p 152 8) 16 8 + 2 ^ 32 * fieldAt f.body 5 2 + 2 ^ 48 * bitsOf hg 0 12)

/-- After the answer, a map that passes changes no byte of the memory. -/
theorem toneMapRx_dram (hpeer : (pInUse s (fParcel f.bytes) && pPeerValid s (fParcel f.bytes)) = true)
    (hbit : bit (fieldAt f.body 4 1) 0 = false) (hok : toneMapOk f.body (chM s n f.channel) = true) :
    (toneMapRx s n f).dram = (genMessage (mapStored s n f) (fParcel f.bytes) ([0x02#8] ++ leBytes 2 (fieldAt f.body 1 2))).dram := by
  unfold toneMapRx
  simp only [hpeer, hbit, hok, Bool.not_true, Bool.false_eq_true, if_false]
  show (setCause _ _ _).dram = (genMessage (mapStored s n f) _ _).dram
  rw [setCause_dram, State.count_dram, State.event_dram]
  rfl

end

/-- The loadings of 54 tones, one bit each. -/
def strayMap : List Byte := List.replicate 27 0x11#8

/-- A TONE_MAP from node 0, verified and passed to its owner. -/
def strayFrame : RxFrame :=
  { info := { lane := 0, off := 0, subch := 0, sf := 7, bw := 0, mode := 1, rate := 0, length := 0, ctx := 0, alt := false, blanked := false,
              rssi := 0, snr := 0, foff := 0, rateErr := 0, ts := State.reset.now, stepGen := 0, mapType := 0, sel := 0, gen := 0, quiet := 0,
              nsym := 0, meanSnr := 0, iter := 0, tsT := none },
    bytes := List.replicate 10 0#8, check := .current, epoch := 0,
    body := [0x01#8, 0#8, 0#8, 0#8, 0#8] ++ leBytes 2 54 ++ strayMap, stage := 2, channel := 0, relay := none }

/-- READY with the map on lane 0 and node 0, its mailbox full, a peer behind node 1, whose route names repeater 262144. -/
def strayState : State :=
  let s := State.reset.setFld F.SYS_STATUS_DEV_STATE 2
  let s := setAnalog s 0 0 0x90000000#32
  let s := s.ramStore 8 [12#8]
  let s := s.ramStore 224 [64#8]
  let s := s.ramStore 20 [1#8, 0#8, 0#8, 0#8, 0#8, 0x80#8]
  let s := s.ramStore routeBase [1#8, 0#8, 0#8, 0#8, 4#8]
  s.setLane 0 { s.lane 0 with rx := [strayFrame] }

/-- What the clause asks of the state, but for the state that the message leaves. -/
theorem strayState_meets : strayState.answers = true ∧ pInUse strayState 0 = true ∧ pPeerValid strayState 0 = true ∧
    toneMapOk strayFrame.body (chM strayState 0 0) = true ∧ pPeer strayState 0 = 0 ∧ chM strayState 0 0 = 1 := by
  decide +kernel

/-- The message taken off its lane. -/
def strayTaken : State := strayState.setLane 0 { strayState.lane 0 with rx := [] }

theorem strayTaken_meets : (pInUse strayTaken 0 && pPeerValid strayTaken 0) = true ∧ bit (fieldAt strayFrame.body 4 1) 0 = false ∧
    toneMapOk strayFrame.body (chM strayTaken 0 0) = true := by
  decide +kernel

theorem takeMessage_stray : takeMessage strayState 0 0x01 = some (strayFrame, strayTaken) := by
  rfl

/-- The map stored. -/
def strayStored : State := mapStored strayTaken 0 strayFrame

/-- The acknowledgement held, the mailbox of node 0 being full. -/
def strayHeld : State :=
  { strayStored with cad := { strayStored.cad with held := strayStored.cad.held ++ [(0, [0x02#8, 0#8, 0#8])] } }

theorem putMessage_stray : putMessage strayStored 0 [0x02#8, 0#8, 0#8] = strayHeld := by rfl

/-- The relay unit that carries the head downlink of node 0 to its repeater. -/
def strayUnit : Dl := { Dl.blank with payload := downUnit (pathTo strayHeld 0) [], carries := some 0 }

/-- What the unit looks like in the mailbox of the repeater. -/
def strayEntry : Mbx :=
  { buf := 0, kind := 2, ackReq := true, mode1 := false, cls := 0, enc := false, len := 0, retries := 0, attempts := 0, late := false }

theorem strayHeld_meets : pRelayed strayHeld 0 = true ∧ mbxCount strayHeld 0 = 8 ∧ strayHeld.cad.dls = [] ∧ headDl strayHeld 0 = none ∧
    adjacentTo strayHeld 0 = 262144 ∧ mbxCount strayHeld 262144 = 2 ∧ (mbxAt strayHeld 0 0).cls = 0 ∧
    (takeCells strayHeld true (max 1 (ceilDiv strayUnit.payload.length 256))).1.length = max 1 (ceilDiv strayUnit.payload.length 256) := by
  decide +kernel

/-- What TONE_MAP_RX leaves. -/
def strayEnd : State := toneMapRx strayTaken 0 strayFrame

theorem toneMapRx_stray : exec (.toneMapRx 0) strayState = .next strayEnd := by
  obtain ⟨hanswers, -⟩ := strayState_meets
  refine (congrArg Host.Outcome.next (if_pos hanswers)).trans ?_
  have htake : takeMessage strayState ((0 : Lane) : Nat) 0x01 = some (strayFrame, strayTaken) := takeMessage_stray
  rw [htake]
  rfl

theorem strayEnd_count : mbxCount strayEnd 262144 = 3 := by
  obtain ⟨hrelayed, hcount, hdls, hhead, hadjacent, hroom, hcls, hcells⟩ := strayHeld_meets
  have hsmall : mbxCount strayHeld 262144 < 8 := by rw [hroom]; decide
  have henter := enterMailbox_room (s := strayHeld) (p := 262144) (m := strayEntry) (d := strayUnit) hsmall hcells
  have hspec := (downEntered_spec (s := strayHeld) (p := 262144) strayEntry strayUnit hsmall).1
  rw [hroom] at hspec
  have hrelay : placeRelay strayHeld 0 = downEntered strayHeld 262144 strayEntry strayUnit :=
    placeRelay_entered hrelayed (by rw [hcount]; decide) hdls hhead hadjacent (by rw [hcls]; exact henter)
  have hgen : genMessage strayStored 0 [0x02#8, 0#8, 0#8] = downEntered strayHeld 262144 strayEntry strayUnit := by
    rw [genMessage, putMessage_stray, hrelay]
  obtain ⟨huse, hpeer, hok⟩ := strayTaken_meets
  have hdram : strayEnd.dram = (downEntered strayHeld 262144 strayEntry strayUnit).dram := by
    rw [← hgen]
    exact toneMapRx_dram (f := strayFrame) huse hpeer hok
  rw [mbxCount, pBits_of_dram hdram]
  exact hspec

/-- Refutes O52: the answer to a map of a relayed peer whose route names repeater 262144 enters a relay unit in the mailbox at that number,
which lies in the map memory just written: byte 224 counts one unit more and is no longer the byte of the map. -/
theorem not_toneMapsArriveAndEnd : ¬ Obligations.ToneMapsArriveAndEnd := by
  unfold Obligations.ToneMapsArriveAndEnd
  rintro ⟨-, -, hmap, -⟩
  obtain ⟨hanswers, huse, hpeer, hok, hat, hwidth⟩ := strayState_meets
  obtain ⟨-, hpass⟩ := hmap strayState 0 strayFrame strayTaken hanswers takeMessage_stray huse hpeer (by decide)
  obtain ⟨t, ht, -, hbytes, -⟩ := hpass hok
  rw [toneMapRx_stray] at ht
  obtain rfl : strayEnd = t := by injection ht
  have hbytes : strayEnd.ramBytes (mapBase 0 + 216) 27 = strayMap := by
    have hparcel : fParcel strayFrame.bytes = 0 := by decide
    have hlanes : chM strayState ((0 : Lane) : Nat) strayFrame.channel = 1 := hwidth
    rw [hparcel, hat, hlanes] at hbytes
    exact hbytes
  have hbyte : strayEnd.ram (256 * 262144 + 224) = 0x11#8 := by
    have h := congrArg (fun bs => bs[8]?) hbytes
    simpa [State.ramBytes, strayMap, mapBase] using h
  have hcount := strayEnd_count
  rw [mbxCount, pBits, hbyte] at hcount
  exact absurd hcount (by decide)

end Sys2Proof.Machine
end

section
/-!
PROOFS. HOLD-UP and the end of BOOT (22_power_clocks_and_emc.md, Mains loss and hold-up; 05_startup_and_selet.md, The boot sequence and
Engine firmware).
-/
namespace Sys2Proof.Machine

-- One proof after another: side by side, the threads of so long a text want more memory than the check grants.
set_option Elab.async false

/-! ### HOLD-UP begins -/

/-- What the beginning of HOLD-UP may touch. -/
def gaspParts : List Area := .pow :: airParts

/-- The pages in which it shows: SYS and AON, and those of the lanes and the ports. -/
def gaspPages : List Nat := 0x00 :: 0x02 :: airPages

section
variable {s : State} {n : Nat}

theorem touches_mainsLost (kind lowMs : Nat) {gs : List Nat} : Touches [.log] gs s (mainsLost s kind lowMs) := touches_event _ _ _ _ _

theorem touches_setPow (p : Power) {gs : List Nat} : Touches [.pow] gs s (s.setPow p) := touches_parts [.pow] rfl

theorem abortPage (hn : n < 4) : A.LRF_BG_ABORTS n / 0x1000 ∈ lanePages := by
  revert n
  decide

theorem touches_abortCal (hn : n < 4) : Touches [.regs, .lanes] lanePages s (abortCal s n) := by
  unfold abortCal
  split
  · exact (touches_setWork _).mono.then (touches_count_of (gs := lanePages) _ 1 (abortPage hn))
  · exact (touches_setWork _).mono.then (touches_count_of (gs := lanePages) _ 1 (abortPage hn))
  · exact (touches_setLane n _).mono
  · exact (touches_setLane n _).mono
  · exact Touches.refl s

theorem touches_laneOff (hn : n < 4) : Touches laneParts lanePages s (laneOff s n) := by
  unfold laneOff
  split
  · exact Touches.refl s
  · split
    · exact (touches_setLane n _).mono
    · exact (touches_abortCal hn).mono.then (touches_toOff hn)

theorem touches_laneQuiet (n : Nat) : Touches [.regs, .rgl, .tss, .lanes] [0x1D] s (laneQuiet s n) := by
  refine Touches.foldl (fun t x _ => ?_) s
  simp only
  split
  · exact Touches.refl t
  · split
    · exact (touches_setTxs _).mono
    · exact (touches_giveBack n x).mono.then (touches_setTxs _)

theorem touches_lgSettle : Touches [.regs, .log, .host, .out, .pow] [0x00] s (lgSettle s) := by
  unfold lgSettle
  split
  · exact ((touches_event (gs := []) _ _ _ _ _).mono.then (touches_setPow (gs := []) _)).then (touches_setCause 0x00 4)
  · exact Touches.refl s

theorem lgPairs_port {d : Nat × Nat} (h : d ∈ lgPairs s) : d.1 < 2 := by
  obtain ⟨x, hx, hd⟩ := List.mem_flatMap.1 h
  have hport : d.1 = x := by
    split at hd
    · obtain ⟨k, -, rfl⟩ := List.mem_map.1 hd
      rfl
    · simp at hd
  rw [hport]
  fin_cases hx <;> decide

theorem touches_lgBegin : Touches [.regs, .log, .host, .out, .pow, .ports] [0x00, 0x24, 0x25] s (lgBegin s) := by
  have hwake : Touches [.regs, .ports] [0x24, 0x25] s ((lgPairs s).foldl (fun (t : State) d => leaveLpi t d.1) s) :=
    Touches.foldl (fun t d hd => touches_leaveLpi (lgPairs_port hd)) s
  exact (hwake.mono.then (touches_setPow (gs := []) _)).then touches_lgSettle

/-- The power mode, the events and the counts of an entry to HOLD-UP, with the entry to WATCH that it begins. -/
def holdUpEntered (s : State) : State :=
  let t := setCause ((s.setFld F.SYS_STATUS_PWR_MODE 2).event 0x00 0 0x1600 1 (leBytes 1 (s.fld F.SYS_STATUS_PWR_MODE) ++ leBytes 1 2)) 0x00 0
  let t := setCause (mainsLost (t.count F.AON_HOLDUPS_COUNT 1) 1 0) 0x00 2
  t.setPow { t.pow with entry := some {
    cause := 1, wurWake := false, committed := false, commanded := s.pow.entry.any (fun e => e.commanded) } }

theorem startHoldUp_eq : startHoldUp s = lgBegin ([1, 2, 3].foldl laneOff ((List.range 4).foldl laneQuiet (holdUpEntered s))) := rfl

theorem touches_holdUpEntered : Touches [.regs, .log, .host, .out, .pow] [0x00, 0x02] s (holdUpEntered s) := by
  have hmode : Touches [.regs, .log, .host, .out, .pow] [0x00, 0x02] s
      (setCause ((s.setFld F.SYS_STATUS_PWR_MODE 2).event 0x00 0 0x1600 1 (leBytes 1 (s.fld F.SYS_STATUS_PWR_MODE) ++ leBytes 1 2)) 0x00 0) :=
    ((touches_setFld F.SYS_STATUS_PWR_MODE 2).mono.then (touches_event (gs := []) _ _ _ _ _)).then (touches_setCause 0x00 0)
  exact (((hmode.then (touches_count F.AON_HOLDUPS_COUNT 1)).then (touches_mainsLost (gs := []) 1 0)).then (touches_setCause 0x00 2)).then
    (touches_setPow (gs := []) _)

/-- What the beginning of HOLD-UP does to the lanes. -/
theorem touches_lanesStop : Touches (.rgl :: .tss :: laneParts) (0x1D :: lanePages) s
    ([1, 2, 3].foldl laneOff ((List.range 4).foldl laneQuiet s)) := by
  refine Touches.trans (Touches.foldl (fun t n _ => (touches_laneQuiet n).mono) s) (Touches.foldl (fun t n hn => ?_) _)
  refine (touches_laneOff ?_).mono
  simp only [List.mem_cons, List.not_mem_nil, or_false] at hn
  omega

theorem touches_startHoldUp : Touches gaspParts gaspPages s (startHoldUp s) := by
  rw [startHoldUp_eq]
  exact (touches_holdUpEntered.mono.then touches_lanesStop).then touches_lgBegin

theorem touches_mainsGone : Touches gaspParts gaspPages s (mainsGone s) := by
  unfold mainsGone
  split
  · split
    · exact Touches.refl s
    · exact touches_startHoldUp
  · split
    · exact (touches_mainsLost (gs := []) 3 0).mono
    · exact Touches.refl s

theorem touches_mainsCheck : Touches gaspParts gaspPages s (mainsCheck s) := by
  unfold mainsCheck
  split
  · exact Touches.refl s
  · exact touches_mainsGone

/-- Outside READY a loss of mains power is reported, and no more. -/
theorem mainsCheck_outside (h : s.ready = false) : Touches [.log] [] s (mainsCheck s) := by
  unfold mainsCheck mainsGone
  rw [h]
  split
  · exact Touches.refl s
  · rw [if_neg Bool.false_ne_true]
    split
    · exact touches_mainsLost 3 0
    · exact Touches.refl s

theorem mainsCheck_good (h : s.flag F.AON_STATUS_MAINS_OK = true) : mainsCheck s = s := by
  unfold mainsCheck
  rw [h]
  rfl

end

/-! ### The MAC and the pair start -/

/-- What the start of the MAC and of the pair leave: the device, the non-volatile stores, and the registers of the pages below 3. -/
structure StartKept (s t : State) : Prop where
  dev : t.dev = s.dev
  nv : t.nv = s.nv
  reg : ∀ a, a < 0x3000 → t.reg a = s.reg a

section
variable {s t u : State} {ps : List Area} {gs : List Nat}

theorem StartKept.trans (h : StartKept s t) (h' : StartKept t u) : StartKept s u :=
  ⟨h'.dev.trans h.dev, h'.nv.trans h.nv, fun a ha => (h'.reg a ha).trans (h.reg a ha)⟩

theorem StartKept.of (h : Touches ps gs s t) (hd : .dev ∉ ps := by decide) (hn : .nv ∉ ps := by decide) (hg : ∀ g ∈ gs, 3 ≤ g := by decide) :
    StartKept s t :=
  ⟨h.part .dev hd, h.part .nv hn, fun a ha => h.reg a (fun m => by have := hg _ m; omega)⟩

theorem StartKept.refl (s : State) : StartKept s s := ⟨rfl, rfl, fun _ _ => rfl⟩

theorem StartKept.foldl {α : Type} {g : State → α → State} {l : List α} (hg : ∀ t e, StartKept t (g t e)) (s : State) :
    StartKept s (l.foldl g s) := by
  induction l generalizing s with
  | nil => exact StartKept.refl s
  | cons e l ih => exact (hg s e).trans (ih _)

theorem StartKept.flag (h : StartKept s t) {f : Fld} (hf : f.addr < 0x3000) : t.flag f = s.flag f := by
  rw [State.flag, State.fld_congr (h.reg _ hf), State.flag]

/-- A register of the neighbours, whichever. -/
theorem startKept_setNbr (k v : Nat) : StartKept s (s.setFld (nbrField k) v) :=
  ⟨rfl, rfl, fun a ha => State.reg_setReg_ne _ _ (by show a ≠ 0x1C300 + 0x4 * (k / 16); omega)⟩

theorem touches_forgetCharges : Touches [.lanes] [] s (forgetCharges s) := by
  refine Touches.foldl (fun t n _ => ?_) s
  split
  · exact Touches.refl t
  · exact touches_setTxs _

theorem touches_rgl (v : Rgl) : Touches [.rgl] [] s { s with rgl := v } := touches_parts [.rgl] rfl

theorem startKept_refit (changed : Bool) (x : AcctSet) (b : Nat) (cfg : Nat → Word) :
    StartKept s (if changed then fitAll s x b cfg else (s, x)).1 := by
  split
  · exact StartKept.of (touches_fitAll x b cfg)
  · exact StartKept.refl s

theorem startKept_reglBoundary (changed : Bool) : StartKept s (reglBoundary s changed) := by
  unfold reglBoundary
  simp only
  have hrsv : StartKept s { s with rgl := { s.rgl with rsv := s.reg A.RGL_RSV_CFG } } := StartKept.of (touches_rgl _)
  refine hrsv.trans ?_
  generalize ({ s with rgl := { s.rgl with rsv := s.reg A.RGL_RSV_CFG } } : State) = t
  generalize (changed || s.reg A.RGL_RSV_CFG != s.rgl.rsv) = b
  split
  · rename_i y _
    have hfit := startKept_refit (s := t) b y (bitsOf (s.reg A.RGL_RSV_CFG).toNat 8 8) (bcnCfg t)
    refine hfit.trans ?_
    generalize (if b = true then fitAll t y (bitsOf (s.reg A.RGL_RSV_CFG).toNat 8 8) (bcnCfg t) else (t, y)) = r
    have hforget : Touches [.regs, .lanes, .rgl, .log, .host, .out] [0x1D] r.1
        { forgetCharges r.1 with rgl := { (forgetCharges r.1).rgl with cur := r.2, next := none } } :=
      (touches_forgetCharges.mono).then (touches_rgl _)
    exact StartKept.of (((((hforget.then (touches_setFld F.RGL_STATUS_ACTIVE r.2.code)).then (touches_setFld F.RGL_STATUS_PENDING _)).then
      (touches_setFld F.RGL_STATUS_BCN_FIT r.2.fit)).then (touches_setCause 0x1D 2)).then (touches_event (gs := []) _ _ _ _ _))
  · split
    · exact ((StartKept.of (touches_fitAll _ _ _)).trans (StartKept.of (touches_rgl _))).trans
        (StartKept.of (touches_setFld F.RGL_STATUS_BCN_FIT _))
    · exact StartKept.refl t

theorem startKept_listen {n : Nat} (hn : n < 4) : StartKept s (listen s n) := StartKept.of (touches_listen hn)

theorem startKept_listenAll : StartKept s ([0, 1, 2, 3].foldl listen s) :=
  StartKept.of (Touches.foldl (fun t n hn => touches_listen (by
    simp only [List.mem_cons, List.not_mem_nil, or_false] at hn
    omega)) s)

theorem startKept_latchBeacons : StartKept s (latchBeacons s) := by
  unfold latchBeacons
  simp only
  generalize (List.range 4).foldl (fun t n => Tbl.put (fun _ => 0x86000010#32) t n (s.reg (A.MAC_BCN_CFG n))) ([] : Tbl Word) = now
  have hregl := (StartKept.of (touches_mac (s := s) { s.mac with bcn := now })).trans (startKept_reglBoundary (now != s.mac.bcn))
  generalize reglBoundary ({ s with mac := { s.mac with bcn := now } }) (now != s.mac.bcn) = r at hregl ⊢
  have hmark : StartKept s (if (now != s.mac.bcn || s.rgl.next.isSome) = true then { r with mac := { r.mac with recheck := true } } else r) := by
    split
    · exact hregl.trans (StartKept.of (touches_mac _))
    · exact hregl
  split
  · exact hmark.trans startKept_listenAll
  · exact hmark

theorem startKept_recheckEntries : StartKept s (recheckEntries s) := by
  refine StartKept.foldl (fun t e => ?_) s
  simp only
  split
  · exact StartKept.refl t
  · exact StartKept.of (ps := [.regs, .dram, .mac, .host, .out, .log]) (gs := [0x1C])
      ((((touches_emptyEntry e).mono.then (touches_count F.MAC_SLOT_REJECT_COUNT 1)).then (touches_setCause 0x1C 8)).then
        (touches_event (gs := []) _ _ _ _ _))

theorem startKept_emptyEntries (es : List Nat) : StartKept s (es.foldl emptyEntry s) := StartKept.foldl (fun _ e => StartKept.of (touches_emptyEntry e)) s

theorem startKept_putNbr (k : Nat) (x : Nbr) : StartKept s (putNbr s k x) := StartKept.of (touches_mac _)

theorem startKept_nbrConflict (k e : Nat) :
    StartKept s (((putNbr s k Nbr.init).setFld (nbrField k) 0).event 0x1C 0 0x0908 2 (leBytes 1 k ++ leBytes 4 e)) :=
  ((startKept_putNbr k Nbr.init).trans (startKept_setNbr k 0)).trans (StartKept.of (touches_event (gs := []) _ _ _ _ _))

theorem startKept_nbrApply (k : Nat) (id bcn : Word) : StartKept s (nbrApply s k id bcn) := by
  unfold nbrApply
  simp only
  have hempty := startKept_emptyEntries (s := s) (nbrEntries s 0 k)
  generalize (nbrEntries s 0 k).foldl emptyEntry s = t at hempty ⊢
  refine hempty.trans ?_
  split
  · split
    · exact startKept_nbrConflict k 0
    · split
      · exact startKept_nbrConflict k _
      · exact (((StartKept.of (touches_draw (gs := []))).trans (StartKept.of (touches_putEntry _ _ _))).trans (startKept_putNbr k _)).trans
          (startKept_setNbr k 1)
  · exact ((startKept_emptyEntries _).trans (startKept_putNbr k _)).trans (startKept_setNbr k 0)

theorem startKept_nbrsDue : StartKept s (nbrsDue s) := by
  unfold nbrsDue
  split
  · exact StartKept.refl s
  · exact (StartKept.of (touches_mac _)).trans (StartKept.foldl (fun _ _ => startKept_nbrApply _ _ _) _)

theorem startKept_recheckDue : StartKept s (recheckDue s) := by
  unfold recheckDue
  split
  · exact StartKept.refl s
  · exact (StartKept.of (touches_mac _)).trans startKept_recheckEntries

theorem startKept_macStart : StartKept s (macStart s) := by
  unfold macStart
  simp only
  exact ((((StartKept.of (touches_mac _)).trans startKept_latchBeacons).trans (StartKept.of (touches_mac _))).trans
    startKept_recheckDue).trans (startKept_nbrsDue.trans startKept_listenAll)

theorem moves_conflictCheck : Moves false (.red :: airParts) (0x31 :: airPages) s (conflictCheck s) := by
  unfold conflictCheck
  simp only
  split
  · have hdraw : Moves false (.red :: airParts) (0x31 :: airPages) s
        ((drawNat s 91).2.setRed { (drawNat s 91).2.red with backoff := true }) :=
      (Moves.of (touches_draw (gs := []))).add (touches_setRed _)
    exact (((hdraw.add (touches_count F.RED_ILK_CONFLICTS_COUNT 1)).add (touches_event (gs := []) _ _ _ _ _)).add
      (touches_setCause 0x31 4)).then gateKept_gateCheck.moves
  · exact Moves.refl s

/-- What follows the new state `new` of a link that was `old`. -/
def linkFollows (s : State) (new old : Nat) : State :=
  if new = 3 then
    let s := s.setRed { s.red with wasPaired := true, aligned := false }
    if role s = 2 then s.setFld F.RED_STATUS_FRESH 1 else s
  else if old = 3 then
    let s := s.setReg A.RED_DATUM_ERR 0#32
    if role s = 1 then conflictCheck (s.setFld F.RED_STATUS_HOLD 1) else s
  else s

theorem setLink_eq (new reason : Nat) : setLink s new reason = if link s = new then s else
    linkFollows (if new = 0 then (linkShown s new reason).count F.RED_LINK_DOWNS_COUNT 1 else linkShown s new reason) new (link s) := rfl

theorem moves_linkFollows (new old : Nat) : Moves false (.red :: airParts) (0x31 :: airPages) s (linkFollows s new old) := by
  unfold linkFollows
  simp only
  split
  · split
    · exact (Moves.of (touches_setRed _)).add (touches_setFld F.RED_STATUS_FRESH 1)
    · exact .of (touches_setRed _)
  · split
    · split
      · exact ((Moves.of (touches_setReg A.RED_DATUM_ERR 0#32)).add (touches_setFld F.RED_STATUS_HOLD 1)).trans moves_conflictCheck
      · exact .of (touches_setReg A.RED_DATUM_ERR 0#32)
    · exact Moves.refl s

theorem moves_setLink (new reason : Nat) : Moves false (.red :: airParts) (0x31 :: airPages) s (setLink s new reason) := by
  rw [setLink_eq]
  split
  · exact Moves.refl s
  · refine Moves.trans ?_ (moves_linkFollows new _)
    split
    · exact (Moves.of (touches_linkShown new reason)).add (touches_count F.RED_LINK_DOWNS_COUNT 1)
    · exact .of (touches_linkShown new reason)

theorem touches_setLink (new reason : Nat) : Touches (.red :: airParts) (0x31 :: airPages) s (setLink s new reason) := (moves_setLink new reason).touches

theorem touches_train : Touches (.red :: airParts) (0x31 :: airPages) s (train s) :=
  ((touches_setLink 1 4).then (touches_setRed _)).then (touches_sendItem _)

theorem startKept_redCleared (r : Red) : StartKept s
    (forceEnds (((setRole (s.setRed r) 0 1).setFld F.RED_STATUS_FRESH 0).setFld F.RED_STATUS_HOLD 0)) :=
  ((((StartKept.of (touches_setRed r)).trans (StartKept.of (touches_setRole 0 1))).trans
    (StartKept.of (touches_setFld F.RED_STATUS_FRESH 0))).trans (StartKept.of (touches_setFld F.RED_STATUS_HOLD 0))).trans
    (StartKept.of touches_forceEnds)

theorem startKept_redStart : StartKept s (redStart s) := by
  unfold redStart
  simp only
  split
  · exact (startKept_redCleared _).trans ((StartKept.of (touches_setLink 0 1)).trans (StartKept.of touches_train))
  · exact (startKept_redCleared _).trans (StartKept.of (touches_setLink 0 1))

end

/-! ### The bundle and the end of BOOT -/

section
variable {s t : State}

theorem engine_setEngine_all (s : State) (e : EngineState) {m n : Nat} (hn : n < m) :
    ((List.range m).foldl (fun (t : State) k => t.setEngine k e) s).engine n = e := by
  induction m with
  | zero => exact absurd hn (by omega)
  | succ m ih =>
    rw [List.range_succ, List.foldl_append, List.foldl_cons, List.foldl_nil, State.engine, State.setEngine]
    by_cases h : n = m
    · subst h
      exact Tbl.get_put_self _ _ _ _
    · rw [Tbl.get_put_ne _ _ _ h]
      exact ih (by omega)

theorem touches_setEngines (m : Nat) (e : EngineState) : Touches [.dev] [] s ((List.range m).foldl (fun (t : State) k => t.setEngine k e) s) :=
  Touches.foldl (fun _ _ _ => touches_parts [.dev] rfl) s

/-- The registers that show a bundle loaded. -/
def bundleShown (s : State) (source : Nat) (f : BundleFacts) : State :=
  ((s.setFld F.NVC_FW_STATUS_VERSION (f.major % 256 * 256 + f.minor % 256)).setFld F.NVC_STATUS_FW_SOURCE source).setFld F.NVC_STATUS_FW_WAIT 0

theorem onlyRegs_bundleShown (source : Nat) (f : BundleFacts) : OnlyRegs s (bundleShown s source f) [A.NVC_STATUS, A.NVC_FW_STATUS] :=
  (((onlyRegs_setFld s F.NVC_FW_STATUS_VERSION _).trans (onlyRegs_setFld _ F.NVC_STATUS_FW_SOURCE source)).trans
    (onlyRegs_setFld _ F.NVC_STATUS_FW_WAIT 0)).mono (by decide)

theorem bundleShown_source (source : Nat) (f : BundleFacts) : (bundleShown s source f).fld F.NVC_STATUS_FW_SOURCE = source % 8 := by
  unfold bundleShown
  exact (State.fld_setFld_apart _ F.NVC_STATUS_FW_WAIT F.NVC_STATUS_FW_SOURCE 0 (by decide) (by decide)).trans
    (State.fld_setFld_self _ F.NVC_STATUS_FW_SOURCE source (by decide))

theorem loadBundle_spec (source : Nat) (f : BundleFacts) : (loadBundle s source f).regs = (bundleShown s source f).regs ∧
    (loadBundle s source f).dram = s.dram ∧ (loadBundle s source f).dev.fwVersion = some (f.major % 256, f.minor % 256) ∧
    (loadBundle s source f).dev.fwRollback = f.rollback ∧ (loadBundle s source f).boot.fwDone = true ∧
    (∀ n, n < 16 → (loadBundle s source f).engine n = .running) := by
  have hengines := touches_setEngines (s := bundleShown s source f) 16 .running
  have hrun : ∀ n, n < 16 → ((List.range 16).foldl (fun (t : State) k => t.setEngine k .running) (bundleShown s source f)).engine n = .running :=
    fun n hn => engine_setEngine_all _ _ hn
  have he : loadBundle s source f = fwResult
      { (List.range 16).foldl (fun (t : State) k => t.setEngine k .running) (bundleShown s source f) with
        dev := { ((List.range 16).foldl (fun (t : State) k => t.setEngine k .running) (bundleShown s source f)).dev with
          fwVersion := some (f.major % 256, f.minor % 256), fwRollback := f.rollback },
        boot := { ((List.range 16).foldl (fun (t : State) k => t.setEngine k .running) (bundleShown s source f)).boot with fwDone := true } }
      source f.major f.minor := rfl
  rw [he]
  generalize (List.range 16).foldl (fun (t : State) k => t.setEngine k .running) (bundleShown s source f) = t at hengines hrun
  exact ⟨hengines.eq ▸ rfl, hengines.part .dram (by decide), rfl, rfl, rfl, hrun⟩

end

section
variable {s : State}

theorem bundleReason_lt (f : BundleFacts) (floor : Nat) : bundleReason f floor < 8 := by
  unfold bundleReason
  split_ifs <;> decide

theorem noBundle_spec : (noBundle s).flag F.NVC_STATUS_FW_WAIT = false ∧ (noBundle s).fld F.NVC_STATUS_FW_SOURCE = 0 ∧
    (noBundle s).boot = { s.boot with fwDone := true } ∧ (noBundle s).engine 15 = .running ∧ (noBundle s).dev.fwVersion = s.dev.fwVersion ∧
    (noBundle s).log.queue.length = s.log.queue.length + 1 ∧ lastEvent (noBundle s) 0x01 0x0502 ∧ OnlyRegs s (noBundle s) [A.NVC_STATUS] := by
  have hregs : (noBundle s).regs = ((s.setFld F.NVC_STATUS_FW_WAIT 0).setFld F.NVC_STATUS_FW_SOURCE 0).regs := rfl
  refine ⟨?_, ?_, rfl, ?_, rfl, List.length_append, lastEvent_event _ _ _ _ _, ?_⟩
  · rw [State.flag_of_regs hregs, State.flag_setFld_apart _ _ (by decide) (by decide)]
    exact State.flag_setFld_zero _ (by decide)
  · rw [State.fld_congr (State.reg_congr hregs _)]
    exact State.fld_setFld_self _ _ _ (by decide)
  · exact Tbl.get_put_self (fun _ => EngineState.stopped) s.dev.engines 15 .running
  · intro a ha
    rw [State.reg_congr hregs]
    exact ((onlyRegs_setFld s F.NVC_STATUS_FW_WAIT 0).trans (onlyRegs_setFld _ F.NVC_STATUS_FW_SOURCE 0)).mono (by decide) a ha

/-- The reason against the bundle of a QSPI source, shown. -/
def qspiShown (s : State) (secondary : Bool) (reason : Nat) : State :=
  (s.setBoot { s.boot with fwTried := if secondary then 3 else 1 }).setFld
    (if secondary then F.NVC_FW_STATUS_SECONDARY else F.NVC_FW_STATUS_PRIMARY) reason

theorem onlyRegs_qspiShown (secondary : Bool) (reason : Nat) : OnlyRegs s (qspiShown s secondary reason) [A.NVC_FW_STATUS] := by
  cases secondary
  · exact fun a ha => onlyRegs_setFld (s.setBoot { s.boot with fwTried := 1 }) F.NVC_FW_STATUS_PRIMARY reason a ha
  · exact fun a ha => onlyRegs_setFld (s.setBoot { s.boot with fwTried := 3 }) F.NVC_FW_STATUS_SECONDARY reason a ha

theorem qspiCheck_loaded {secondary : Bool} {f : BundleFacts} (h : bundleReason f s.nv.fwFloor = 0) :
    qspiCheck s secondary f = loadBundle (qspiShown s secondary 0) (if secondary then 2 else 1) f := by
  unfold qspiCheck
  simp only [h, if_true]
  rfl

theorem qspiCheck_refused {f : BundleFacts} (h : bundleReason f s.nv.fwFloor ≠ 0) :
    qspiCheck s false f = qspiShown s false (bundleReason f s.nv.fwFloor) := by
  unfold qspiCheck
  simp only [h, if_false]
  rfl

/-- The state entered from BOOT, with its event and the cause of the transition. -/
def bootLeft (s : State) (r : Nat × Nat) (ms : Nat) : State :=
  let s := s.event 0x01 0 0x0503 (if s.boot.marchResult = 2 then 2 else 0) (leBytes 1 r.1 ++ leBytes 1 s.boot.marchResult ++ leBytes 4 ms)
  { s.setFld F.SYS_STATUS_DEV_STATE r.1 with dev := { s.dev with lastTrans := r.2 } }

/-- The MAC begins. -/
def macBegun (s : State) : State := (List.range 4).foldl setPins (macStart (s.setFld F.CAD_STATUS_READY 1))

theorem bootEnds_eq (ms : Nat) : bootEnds s ms =
    (let t := bootLeft (if (bootOutcome s).1 = 2 then raiseFloors s else s) (bootOutcome s) ms
    if t.dev.fwVersion.isNone then mainsCheck t else mainsCheck (if (bootOutcome s).1 = 2 then redStart (macBegun t) else macBegun t)) := rfl

theorem bootLeft_devState (r : Nat × Nat) (ms : Nat) : (bootLeft s r ms).devState = r.1 % 16 :=
  State.fld_setFld_self _ F.SYS_STATUS_DEV_STATE r.1 (by decide)

theorem onlyRegs_bootLeft (r : Nat × Nat) (ms : Nat) : OnlyRegs s (bootLeft s r ms) [A.SYS_STATUS] := fun a ha =>
  onlyRegs_setFld (s.event 0x01 0 0x0503 (if s.boot.marchResult = 2 then 2 else 0) (leBytes 1 r.1 ++ leBytes 1 s.boot.marchResult ++ leBytes 4 ms))
    F.SYS_STATUS_DEV_STATE r.1 a ha

theorem startKept_macBegun : StartKept s (macBegun s) := by
  refine StartKept.trans ((StartKept.of (touches_setFld F.CAD_STATUS_READY 1)).trans startKept_macStart) ?_
  exact StartKept.of (Touches.foldl (fun _ n _ => touches_setPins n) _)

/-- BOOT ends without a bundle in MAINTENANCE. -/
theorem bootEnds_unloaded (ms : Nat) (h : s.dev.fwVersion = none) : (bootEnds s ms).dev.lastTrans = 0x03 ∧ (bootEnds s ms).nv = s.nv ∧
    (bootEnds s ms).devState = 3 ∧ OnlyRegs s (bootEnds s ms) [A.SYS_STATUS] := by
  have hout : bootOutcome s = (3, 0x03) := by
    unfold bootOutcome
    rw [h]
    rfl
  have hversion : (bootLeft s (3, 0x03) ms).dev.fwVersion.isNone = true := by
    show s.dev.fwVersion.isNone = true
    rw [h]
    rfl
  have he : bootEnds s ms = mainsCheck (bootLeft s (3, 0x03) ms) := by
    rw [bootEnds_eq, hout]
    exact if_pos hversion
  have hstate := bootLeft_devState (s := s) (3, 0x03) ms
  have hcheck := mainsCheck_outside (s := bootLeft s (3, 0x03) ms) (by rw [State.ready, hstate]; exact Bool.and_false _)
  rw [he]
  refine ⟨?_, hcheck.part .nv (by decide), (hcheck.fld (f := F.SYS_STATUS_DEV_STATE) (by decide)).trans hstate, fun a ha => ?_⟩
  · rw [hcheck.part .dev (by decide)]
    rfl
  · rw [hcheck.reg a (List.not_mem_nil)]
    exact onlyRegs_bootLeft _ ms a ha

/-- BOOT ends with a bundle and no image in READY. -/
theorem bootEnds_loaded (ms : Nat) (h : s.dev.fwVersion.isSome = true) (hcopy : s.boot.seletCopy = 0) :
    (bootEnds s ms).dev.lastTrans = 0x02 ∧ (bootEnds s ms).nv.fwFloor = max s.nv.fwFloor s.dev.fwRollback ∧
    (bootEnds s ms).nv.seletFloor = s.nv.seletFloor ∧ (s.flag F.AON_STATUS_MAINS_OK = true → (bootEnds s ms).devState = 2) := by
  have hnone : s.dev.fwVersion.isNone = false := by rw [← Option.not_isSome, h]; rfl
  have hout : bootOutcome s = (2, 0x02) := by
    unfold bootOutcome
    rw [hnone, hcopy]
    rfl
  have hversion : (bootLeft (raiseFloors s) (2, 0x02) ms).dev.fwVersion.isNone = false := hnone
  have he : bootEnds s ms = mainsCheck (redStart (macBegun (bootLeft (raiseFloors s) (2, 0x02) ms))) := by
    rw [bootEnds_eq, hout]
    exact if_neg (by rw [show ((2, 0x02) : Nat × Nat).1 = 2 from rfl, if_pos rfl, hversion]; decide)
  have hstate := bootLeft_devState (s := raiseFloors s) (2, 0x02) ms
  have hmains : (bootLeft (raiseFloors s) (2, 0x02) ms).flag F.AON_STATUS_MAINS_OK = s.flag F.AON_STATUS_MAINS_OK := by
    have hfloors : OnlyRegs s (raiseFloors s) [A.NVC_SELET_FLOOR, A.NVC_FW_FLOOR] := by
      unfold raiseFloors
      exact ((onlyRegs_setReg _ A.NVC_SELET_FLOOR _).trans (onlyRegs_setReg _ A.NVC_FW_FLOOR _)).mono (by decide)
    exact ((onlyRegs_bootLeft (2, 0x02) ms).flag (by decide)).trans (hfloors.flag (by decide))
  have hkept := (startKept_macBegun (s := bootLeft (raiseFloors s) (2, 0x02) ms)).trans startKept_redStart
  have hnv : (bootLeft (raiseFloors s) (2, 0x02) ms).nv =
      { s.nv with seletFloor := s.nv.seletFloor, fwFloor := max s.nv.fwFloor s.dev.fwRollback } := by
    show ({ s.nv with seletFloor := if s.boot.seletCopy = 0 then s.nv.seletFloor else _, fwFloor := _ } : NonVol) = _
    rw [if_pos hcopy]
  have htrans : (bootLeft (raiseFloors s) (2, 0x02) ms).dev.lastTrans = 0x02 := rfl
  rw [he]
  generalize bootLeft (raiseFloors s) (2, 0x02) ms = t at hstate hmains hkept hnv htrans
  generalize redStart (macBegun t) = u at hkept
  have hcheck := touches_mainsCheck (s := u)
  have hnv' : (mainsCheck u).nv = t.nv := (hcheck.part .nv (by decide)).trans hkept.nv
  refine ⟨?_, ?_, ?_, fun hgood => ?_⟩
  · rw [hcheck.part .dev (by decide), hkept.dev, htrans]
  · rw [hnv', hnv]
  · rw [hnv', hnv]
  · rw [mainsCheck_good (by rw [hkept.flag (by decide), hmains, hgood])]
    exact (State.fld_congr (hkept.reg _ (by decide))).trans hstate

end

/-- Settles O24, part by part: what is loaded, what is not, and what the starts of the MAC and of the pair leave. -/
theorem bootLoadsABundleAndEnds : Obligations.BootLoadsABundleAndEnds := by
  unfold Obligations.BootLoadsABundleAndEnds
  refine ⟨fun s secondary f hopen hsource hwait htried => ⟨fun hreason => ?_, fun hreason hprimary => ?_⟩, fun s hopen hwait hop => ?_,
    fun s ms hboot hdone => ⟨fun hnone => ?_, fun hsome hready hcopy => ?_⟩⟩
  · have hrun : exec (.fwBundleCheck secondary f) s = .next (qspiCheck s secondary f) :=
      congrArg Host.Outcome.next (if_pos (by rw [hopen, hwait, htried, decide_eq_true hsource]; simp))
    rw [qspiCheck_loaded hreason] at hrun
    obtain ⟨hregs, hdram, hversion, hrollback, hdone, hengines⟩ := loadBundle_spec (s := qspiShown s secondary 0) (if secondary then 2 else 1) f
    refine ⟨_, hrun, hversion, hrollback, hdone, ?_, hengines, fun a ha => ?_, sameMemory_of_dram hdram⟩
    · rw [State.fld_congr (State.reg_congr hregs _), bundleShown_source]
      cases secondary <;> rfl
    · rw [State.reg_congr hregs]
      exact ((onlyRegs_qspiShown secondary 0).trans (onlyRegs_bundleShown _ f)).mono (by decide) a ha
  · subst hprimary
    have hrun : exec (.fwBundleCheck false f) s = .next (qspiCheck s false f) :=
      congrArg Host.Outcome.next (if_pos (by rw [hopen, hwait, htried, decide_eq_true hsource]; rfl))
    rw [qspiCheck_refused hreason] at hrun
    refine ⟨_, hrun, ?_, rfl, rfl, onlyRegs_qspiShown false _⟩
    exact (State.fld_setFld_self _ F.NVC_FW_STATUS_PRIMARY _ (by decide)).trans (Nat.mod_eq_of_lt (by
      have := bundleReason_lt f s.nv.fwFloor
      exact Nat.lt_of_lt_of_le this (by decide)))
  · exact ⟨_, congrArg Host.Outcome.next (if_pos (by rw [hopen, hwait, hop]; rfl)), noBundle_spec⟩
  · exact ⟨_, congrArg Host.Outcome.next (if_pos (by rw [hboot, hdone, hnone]; rfl)), bootEnds_unloaded ms hnone⟩
  · exact ⟨_, congrArg Host.Outcome.next (if_pos (by rw [hboot, hdone, hready]; simp)), bootEnds_loaded ms hsome hcopy⟩

end Sys2Proof.Machine
end

section
/-!
PROOFS. The self-test and the restart of engines (23_built_in_self_test.md; 18_memory_errors_and_ordered_recovery.md, Responses to a lost unit).
-/
namespace Sys2Proof.Machine

-- One proof after another: side by side, the threads of so long a text want more memory than the check grants.
set_option Elab.async false

/-! ### What the tuning of a lane leaves -/

/-- The device, and of every lane the frames received, the acknowledgements owed and the acknowledgements received. -/
structure FramesKept (s t : State) : Prop where
  dev : t.dev = s.dev
  rx : ∀ m, (t.lane m).rx = (s.lane m).rx
  owed : ∀ m, (t.lane m).owed = (s.lane m).owed
  acked : ∀ m, (t.lane m).acked = (s.lane m).acked

section
variable {s t u : State} {n : Nat}

theorem FramesKept.refl (s : State) : FramesKept s s := ⟨rfl, fun _ => rfl, fun _ => rfl, fun _ => rfl⟩

theorem FramesKept.trans (h : FramesKept s t) (h' : FramesKept t u) : FramesKept s u :=
  ⟨h'.dev.trans h.dev, fun m => (h'.rx m).trans (h.rx m), fun m => (h'.owed m).trans (h.owed m), fun m => (h'.acked m).trans (h.acked m)⟩

theorem FramesKept.of_lanes (hd : t.dev = s.dev) (h : t.lanes = s.lanes) : FramesKept s t := by
  have hlane : ∀ m, t.lane m = s.lane m := fun m => by rw [State.lane, State.lane, h]
  exact ⟨hd, fun m => by rw [hlane], fun m => by rw [hlane], fun m => by rw [hlane]⟩

theorem FramesKept.of_touches {ps : List Area} {gs : List Nat} (h : Touches ps gs s t) (hd : .dev ∉ ps := by decide)
    (hl : .lanes ∉ ps := by decide) : FramesKept s t := FramesKept.of_lanes (h.part .dev hd) (h.part .lanes hl)

theorem framesKept_setLane (l : LaneSt) (hr : l.rx = (s.lane n).rx := by rfl) (ho : l.owed = (s.lane n).owed := by rfl)
    (ha : l.acked = (s.lane n).acked := by rfl) :
    FramesKept s (s.setLane n l) := by
  have hlane : ∀ m, (s.setLane n l).lane m = if m = n then l else s.lane m := fun m => by
    split
    · subst m
      exact State.lane_setLane_self n l
    · exact State.lane_setLane_ne l ‹_›
  refine ⟨rfl, fun m => ?_, fun m => ?_, fun m => ?_⟩ <;> (rw [hlane]; split <;> simp_all)

theorem framesKept_setFld (f : Fld) (v : Nat) : FramesKept s (s.setFld f v) := FramesKept.of_lanes rfl rfl

theorem framesKept_setReg (a : Nat) (w : Word) : FramesKept s (s.setReg a w) := FramesKept.of_lanes rfl rfl

theorem framesKept_counted (f : Fld) (k page b : Nat) : FramesKept s (setCause (s.count f k) page b) := FramesKept.of_lanes (by simp) (by simp)

theorem framesKept_setPins : FramesKept s (setPins s n) := framesKept_setLane _

theorem framesKept_setWork (w : Work) : FramesKept s (setWork s n w) := framesKept_setLane _

theorem framesKept_atRest : FramesKept s (atRest s n) := framesKept_setLane _

theorem framesKept_setTxs (ts : List Tx) : FramesKept s (setTxs s n ts) := framesKept_setLane _

theorem framesKept_bankEnters (st : Nat) : FramesKept s (bankEnters s n st) := by
  have hhalt : FramesKept s
      (if bankState (laneState s n) && !bankState st && s.flag (F.LBB_CTRL_RX_EN n) then bankHalts s n else s) := by
    split
    · exact framesKept_setLane _
    · exact FramesKept.refl s
  unfold bankEnters
  simp only
  generalize (if bankState (laneState s n) && !bankState st && s.flag (F.LBB_CTRL_RX_EN n) then bankHalts s n else s) = u at hhalt ⊢
  refine hhalt.trans ?_
  split
  · exact framesKept_setLane _
  · split
    · exact FramesKept.refl u
    · split
      · exact (framesKept_setLane _).trans (framesKept_setLane _)
      · exact framesKept_setLane _

theorem framesKept_enterState (st : Nat) (locked : Bool) : FramesKept s (enterState s n st locked) := by
  have hjob : FramesKept s (if st = 6 then s else unblankJob s n) := by
    split
    · exact FramesKept.refl s
    · exact framesKept_setLane _
  exact (((hjob.trans (framesKept_bankEnters st)).trans (framesKept_setFld _ _)).trans (framesKept_setFld _ _)).trans framesKept_setPins

theorem framesKept_setChannel (c : Nat) : FramesKept s (setChannel s n c) :=
  ((framesKept_setFld _ _).trans (framesKept_setFld _ _)).trans (framesKept_setFld _ _)

theorem framesKept_ofdmPreempt : FramesKept s (ofdmPreempt s n) := by
  unfold ofdmPreempt
  split
  · exact FramesKept.refl s
  · exact (framesKept_setLane _).trans (framesKept_counted _ _ _ _)

theorem framesKept_ctxPreempt : FramesKept s (ctxPreempt s n) := by
  unfold ctxPreempt
  simp only
  split
  · exact framesKept_ofdmPreempt
  · exact framesKept_ofdmPreempt.trans ((framesKept_setLane _).trans (framesKept_counted _ _ _ _))

theorem framesKept_finish (id : CmdId) (status : Nat) (result : List Byte) : FramesKept s (finish s id status result) :=
  FramesKept.of_touches (touches_finish id status result)

theorem framesKept_endJob' (status : Nat) : FramesKept s (endJob' s n status) := by
  have hshow : ∀ u : State, FramesKept u (showJob u n) := fun u => by
    unfold showJob
    split
    · exact framesKept_setReg _ _
    · exact framesKept_setReg _ _
  unfold endJob'
  split
  · exact FramesKept.refl s
  · exact ((framesKept_setLane _).trans (framesKept_finish _ _ _)).trans (hshow _)

theorem framesKept_toOff : FramesKept s (toOff s n) :=
  (((framesKept_ctxPreempt.trans (framesKept_endJob' 0x50)).trans (framesKept_setLane _)).trans (framesKept_setReg _ _)).trans
    (framesKept_enterState 0 false)

theorem framesKept_enterRx : FramesKept s (enterRx s n) := framesKept_atRest.trans (framesKept_enterState _ true)

theorem framesKept_hopTo (c : Nat) (failed : Bool) : FramesKept s (hopTo s n c failed) := by
  have htune : ∀ (w : Work) (st : Nat), FramesKept s
      (enterState (setChannel (setWork (ctxPreempt (s.setLane n { s.lane n with waitCal := none }) n) n w) n c) n st false) := fun w st =>
    ((((framesKept_setLane _).trans framesKept_ctxPreempt).trans (framesKept_setWork w)).trans (framesKept_setChannel c)).trans
      (framesKept_enterState st false)
  unfold hopTo
  simp only
  split
  · exact htune _ _
  · split
    · split
      · exact ((framesKept_setLane _).trans (framesKept_setWork _)).trans (framesKept_enterState _ _)
      · exact ((framesKept_setLane _).trans (framesKept_setWork _)).trans (framesKept_enterState _ _)
    · exact htune _ _

theorem framesKept_laneNext : FramesKept s (laneNext s n) := by
  unfold laneNext
  simp only
  split
  · exact framesKept_toOff
  · split
    · split
      · split
        · exact framesKept_enterRx
        · exact framesKept_atRest.trans (framesKept_enterState _ _)
      · exact framesKept_hopTo _ _
    · split
      · exact framesKept_enterRx
      · split
        · exact framesKept_hopTo _ _
        · exact framesKept_atRest.trans (framesKept_enterState _ _)
    · exact framesKept_atRest.trans (framesKept_enterState _ _)

theorem framesKept_beginGap (w : Work) : FramesKept s (beginGap s n w) :=
  ((framesKept_ctxPreempt.trans (framesKept_setWork w)).trans (framesKept_enterState 5 false)).trans (framesKept_setLane _)

theorem framesKept_tryGap : FramesKept s (tryGap s n) := by
  unfold tryGap
  split
  · split
    · exact FramesKept.refl s
    · exact framesKept_setLane _
  · split
    · exact (framesKept_setLane _).trans (framesKept_beginGap _)
    · exact framesKept_setLane _

theorem framesKept_settle : FramesKept s (settle s n) := framesKept_laneNext.trans framesKept_tryGap

theorem framesKept_listen : FramesKept s (listen s n) := by
  unfold listen
  split
  · unfold receiveOn
    simp only
    split
    · exact FramesKept.refl s
    · refine FramesKept.trans (framesKept_setLane (n := n) { s.lane n with rxWant := some (macChannel s n) }) ?_
      split
      · exact FramesKept.refl _
      · split
        · exact framesKept_settle
        · split
          · exact framesKept_settle
          · exact FramesKept.refl _
  · exact FramesKept.refl s

theorem framesKept_dropWake : FramesKept s (dropWake s n) := (FramesKept.of_touches (touches_mac _)).trans framesKept_listen

theorem framesKept_wakeFinish (w : Wake) (status : Nat) (result : List Byte) : FramesKept s (wakeFinish s n w status result) := by
  have hcmd : FramesKept s (match w.cmd with
      | some id => finish s id status result
      | none => s) := by
    split
    · exact framesKept_finish _ _ _
    · exact FramesKept.refl s
  unfold wakeFinish
  simp only
  split
  · exact hcmd.trans framesKept_dropWake
  · exact (hcmd.trans (FramesKept.of_touches (touches_putWake _))).trans framesKept_listen

theorem framesKept_swapTx (old : Tx) (x : Option Tx) : FramesKept s (swapTx s n old x) := by
  unfold swapTx
  simp only
  split
  · exact framesKept_setTxs _
  · exact framesKept_setTxs _

theorem FramesKept.foldl {α : Type} {g : State → α → State} {l : List α} (hg : ∀ t e, FramesKept t (g t e)) (s : State) :
    FramesKept s (l.foldl g s) := by
  induction l generalizing s with
  | nil => exact FramesKept.refl s
  | cons e l ih => exact (hg s e).trans (ih _)

theorem framesKept_dropTelegram : FramesKept s (dropTelegram s n) := by
  refine FramesKept.foldl (fun t x => ?_) s
  split
  · exact FramesKept.refl t
  · split
    · exact framesKept_swapTx x none
    · exact (FramesKept.of_touches (touches_giveBack n x)).trans (framesKept_swapTx x none)

theorem framesKept_endWakeSend (id : CmdId) (status : Nat) : FramesKept s (endWakeSend s id status) := by
  unfold endWakeSend
  split
  · exact framesKept_finish _ _ _
  · exact framesKept_dropTelegram.trans (framesKept_wakeFinish _ _ _)

end

/-! ### Commands ended by a restart -/

section
variable {s t : State} {n : Nat}

/-- What each command's turn keeps, the turns of all keep. -/
theorem eachCmd_induct {P : State → Prop} {f : State → CmdId → Cmd → State} (h0 : P s) (hstep : ∀ t id c, P t → P (f t id c)) :
    P (eachCmd s f) := by
  have hfold : ∀ {α : Type} (l : List α) (g : State → α → State) (t : State), P t → (∀ u e, P u → P (g u e)) → P (l.foldl g t) := by
    intro α l g
    induction l with
    | nil => exact fun t ht _ => ht
    | cons e l ih => exact fun t ht hg => ih _ (hg t e ht) hg
  refine hfold _ _ s h0 (fun t k ht => ?_)
  split
  · refine hfold _ _ t ht (fun u c hu => ?_)
    split
    · exact hu
    · exact hstep u _ c hu
  · exact ht

theorem framesKept_internalCmds : FramesKept s (internalCmds s n) := by
  refine eachCmd_induct (P := FramesKept s) (FramesKept.refl s) (fun t id c h => ?_)
  split
  · exact h
  · split
    · exact (h.trans (framesKept_finish _ _ _)).trans (framesKept_endWakeSend _ _)
    · exact h.trans (framesKept_finish _ _ _)

theorem framesKept_discardTaken (e : Nat × Nat × Nat) : FramesKept s (discardTaken s n e).2 := by
  obtain ⟨q, out, k⟩ := e
  unfold discardTaken
  simp only
  split
  · split
    · exact FramesKept.refl s
    · exact (FramesKept.foldl (fun t _ => FramesKept.of_touches (touches_dropHead q)) s).trans (FramesKept.of_touches (touches_markLoss out _))
  · exact FramesKept.refl s

theorem framesKept_discardAll (taken : List (Nat × Nat × Nat)) : FramesKept s (discardAll s n taken).2 := by
  have hfold : ∀ (l : List (Nat × Nat × Nat)) (acc : Nat × State), FramesKept acc.2
      (l.foldl (fun (acc : Nat × State) e => let r := discardTaken acc.2 n e; (acc.1 + r.1, r.2)) acc).2 := by
    intro l
    induction l with
    | nil => exact fun acc => FramesKept.refl acc.2
    | cons e l ih => exact fun acc => (framesKept_discardTaken (s := acc.2) e).trans (ih (acc.1 + (discardTaken acc.2 n e).1, (discardTaken acc.2 n e).2))
  exact hfold taken (0, s)

theorem framesKept_freeMeas (i : Nat) : FramesKept s (freeMeas s n i) := by
  unfold freeMeas
  simp only
  split
  · exact (framesKept_setLane _).trans (FramesKept.of_touches (touches_pSetBits _ _ _ _ _))
  · exact framesKept_setLane _

/-! ### What the restart of an engine leaves of the device -/

theorem receiveRestart_spec : (receiveRestart s n).dev = s.dev ∧
    ((receiveRestart s n).lane n).rx = (s.lane n).rx.filter (fun f => f.check != .waiting) := by
  have hkept : FramesKept s (((ctxPreempt s n).lane n).meas.foldl (fun (t : State) m => freeMeas t n m.peer) (ctxPreempt s n)) :=
    framesKept_ctxPreempt.trans (FramesKept.foldl (fun _ _ => framesKept_freeMeas _) _)
  unfold receiveRestart
  simp only
  generalize ((ctxPreempt s n).lane n).meas.foldl (fun (t : State) m => freeMeas t n m.peer) (ctxPreempt s n) = t at hkept
  refine ⟨hkept.dev, ?_⟩
  rw [State.lane_setLane_self, hkept.rx]

theorem detachTx_dev (p : Nat) (x : Tx) : (detachTx s n p x).dev = s.dev := by
  unfold detachTx
  split
  · split
    · rfl
    · split
      · exact (framesKept_swapTx x _).dev.trans ((touches_attemptMade p false x.start (txEndNs x) n x.sf x.stepped).part .dev (by decide))
      · split
        · exact (framesKept_swapTx x _).dev
        · exact (framesKept_swapTx x _).dev.trans ((touches_giveBack n x).part .dev (by decide))
  · rfl

theorem foldl_dev {α : Type} {g : State → α → State} {l : List α} (hg : ∀ t e, (g t e).dev = t.dev) (s : State) : (l.foldl g s).dev = s.dev := by
  induction l generalizing s with
  | nil => rfl
  | cons e l ih => exact (ih _).trans (hg s e)

theorem detachHead_dev (p : Nat) : (detachHead s p).dev = s.dev := foldl_dev (fun _ _ => foldl_dev (fun _ _ => detachTx_dev p _) _) s

theorem putDl_dev (d : Dl) : (putDl s d).dev = s.dev := rfl

theorem leaveMailbox_dev (p i : Nat) : (leaveMailbox s p i).dev = s.dev := (touches_leaveMailbox p i).part .dev (by decide)

theorem detachUnit_dev (p : Nat) : (detachUnit s p).dev = s.dev := by
  unfold detachUnit
  split
  · rfl
  · split
    · rfl
    · simp only
      split
      · split
        · rw [putDl_dev, detachHead_dev]
        · rw [leaveMailbox_dev, detachHead_dev]
      · split
        · rw [putDl_dev]
        · rw [leaveMailbox_dev]

theorem cancelDl_dev (p i status : Nat) : (cancelDl s p i status).dev = s.dev := by
  unfold cancelDl
  refine ((touches_dlOutcome p i status false).part .dev (by decide)).trans ?_
  split
  · exact (detachHead_dev p).trans (detachUnit_dev p)
  · rfl

theorem internalDl_dev (engine p : Nat) : (internalDl s engine p).dev = s.dev := by
  unfold internalDl
  split
  · rfl
  · simp only
    refine (cancelDl_dev _ _ _).trans ?_
    split
    · exact (framesKept_finish _ _ _).dev
    · rfl

theorem withdraw_dev (x : Tx) : (withdraw s n x).dev = s.dev := by
  have hswap : (swapTx (if x.stage = 0 then s else giveBack s n x) n x none).dev = s.dev := by
    refine (framesKept_swapTx x none).dev.trans ?_
    split
    · rfl
    · exact (touches_giveBack n x).part .dev (by decide)
  unfold withdraw
  split
  · rfl
  · simp only
    split
    · exact ((touches_joinEnds x .withheld).part .dev (by decide)).trans hswap
    · exact hswap
    · exact hswap

theorem transmitRestart_spec : (transmitRestart s n).dev = s.dev ∧ ((transmitRestart s n).lane n).owed = [] ∧
    ((transmitRestart s n).lane n).acked = [] := by
  have hdl : ((attempted (ctxPreempt s n) n).foldl (fun (t : State) p => internalDl t (2 * n + 1) p) (ctxPreempt s n)).dev = s.dev :=
    (foldl_dev (fun _ _ => internalDl_dev _ _) _).trans framesKept_ctxPreempt.dev
  unfold transmitRestart
  simp only
  generalize (attempted (ctxPreempt s n) n).foldl (fun (t : State) p => internalDl t (2 * n + 1) p) (ctxPreempt s n) = t at hdl
  have hwithdrawn : ((t.lane n).txs.foldl (fun (u : State) x => withdraw u n x) t).dev = s.dev :=
    (foldl_dev (fun _ _ => withdraw_dev _) _).trans hdl
  generalize (t.lane n).txs.foldl (fun (u : State) x => withdraw u n x) t = u at hwithdrawn
  have hset : (u.setLane n { u.lane n with owed := [], acked := [] }).dev = s.dev ∧
      ((u.setLane n { u.lane n with owed := [], acked := [] }).lane n).owed = [] ∧
      ((u.setLane n { u.lane n with owed := [], acked := [] }).lane n).acked = [] := by
    rw [State.lane_setLane_self]
    exact ⟨hwithdrawn, rfl, rfl⟩
  generalize u.setLane n { u.lane n with owed := [], acked := [] } = v at hset
  obtain ⟨hdev, howed, hacked⟩ := hset
  split
  · split
    · exact ⟨hdev, howed, hacked⟩
    · have hkept := framesKept_dropWake (s := v) (n := n)
      exact ⟨hkept.dev.trans hdev, (hkept.owed n).trans howed, (hkept.acked n).trans hacked⟩
  · exact ⟨hdev, howed, hacked⟩

theorem cadastreRestart_dev : (cadastreRestart s).dev = s.dev := by
  unfold cadastreRestart
  exact foldl_dev (fun _ _ => State.setLane_dev _ _ _) s

/-- The work of an engine given up at its restart. -/
def engineStops (s : State) (n : Nat) (taken : List (Nat × Nat × Nat)) : State :=
  internalCmds (discardAll (s.setEngine n .restarting) n taken).2 n

/-- What the restart does to what the engine serves. -/
def engineServed (s : State) (n : Nat) : State :=
  if n < 8 then (if n % 2 = 0 then receiveRestart s (n / 2) else transmitRestart s (n / 2)) else if n = 12 then cadastreRestart s else s

theorem engineRestart_eq (cause : Nat) (taken : List (Nat × Nat × Nat)) : ∃ data,
    engineRestart s n cause taken = (engineServed (engineStops s n taken) n).event (0x40 + n) 0 0x1210 3 data := ⟨_, rfl⟩

theorem engineStops_kept (taken : List (Nat × Nat × Nat)) : FramesKept (s.setEngine n .restarting) (engineStops s n taken) :=
  (framesKept_discardAll taken).trans framesKept_internalCmds

theorem engineServed_dev : (engineServed s n).dev = s.dev := by
  unfold engineServed
  split
  · split
    · exact receiveRestart_spec.1
    · exact transmitRestart_spec.1
  · split
    · exact cadastreRestart_dev
    · rfl

theorem engine_of_dev (h : t.dev = s.dev) (j : Nat) : t.engine j = s.engine j := by rw [State.engine, h, State.engine]

theorem engine_setEngine_self (s : State) (n : Nat) (e : EngineState) : (s.setEngine n e).engine n = e := by
  rw [State.engine, State.setEngine, Tbl.get_put_self]

theorem engine_setEngine_ne (s : State) {n j : Nat} (e : EngineState) (h : j ≠ n) : (s.setEngine n e).engine j = s.engine j := by
  rw [State.engine, State.setEngine, Tbl.get_put_ne _ _ _ h, State.engine]

/-- The engine restarts, the others go on, and its event occurs. -/
theorem engineRestart_spec (cause : Nat) (taken : List (Nat × Nat × Nat)) : (engineRestart s n cause taken).engine n = .restarting ∧
    lastEvent (engineRestart s n cause taken) (0x40 + n) 0x1210 ∧ (∀ j, j ≠ n → (engineRestart s n cause taken).engine j = s.engine j) := by
  obtain ⟨data, he⟩ := engineRestart_eq (s := s) (n := n) cause taken
  have hdev : (engineRestart s n cause taken).dev = (s.setEngine n .restarting).dev := by
    rw [he]
    exact engineServed_dev.trans (engineStops_kept taken).dev
  refine ⟨(engine_of_dev hdev n).trans (engine_setEngine_self s n _), ?_,
    fun j hj => (engine_of_dev hdev j).trans (engine_setEngine_ne s _ hj)⟩
  rw [he]
  exact lastEvent_event _ _ _ _ _

end

/-! ### Self-tests -/

section
variable {s : State} {id : CmdId} {c : Cmd}

theorem testBegins_spec (r : BistRun) : (testBegins s r).bst.run = some r ∧ (testBegins s r).flag F.BST_STATUS_RUNNING = true ∧
    (testBegins s r).fld F.BST_STATUS_CURRENT = r.tests.headD 0 % 256 ∧ (testBegins s r).dev = s.dev ∧
    (testBegins s r).flag F.BST_STATUS_RAN = s.flag F.BST_STATUS_RAN ∧ (testBegins s r).bst.results = s.bst.results := by
  refine ⟨rfl, ?_, State.fld_setFld_self _ F.BST_STATUS_CURRENT _ (by decide), rfl, ?_, rfl⟩
  · exact (State.flag_setFld_apart _ _ (by decide) (by decide)).trans (State.flag_setFld_one _ (by decide) (by decide))
  · exact (State.flag_setFld_apart _ _ (by decide) (by decide)).trans (State.flag_setFld_apart _ _ (by decide) (by decide))

/-- The preparation ends with the engines stopped, the working keys cleared and the mark that a BIST has run. -/
def bistPrepared (s : State) : State :=
  let s := clearWorking ((List.range 15).foldl (fun (t : State) n => t.setEngine n .stopped) s)
  { s.setFld F.BST_STATUS_RAN 1 with dev := { s.dev with bistRan := true } }

theorem bistPrepare_eq (s : State) : ∃ u, bistPrepare s = bistPrepared u := ⟨_, rfl⟩

theorem bistPrepared_spec : (bistPrepared s).dev.bistRan = true ∧ (∀ n, n < 15 → (bistPrepared s).engine n = .stopped) ∧
    (bistPrepared s).flag F.BST_STATUS_RAN = true := by
  have hengines : ∀ n, n < 15 → (clearWorking ((List.range 15).foldl (fun (t : State) n => t.setEngine n .stopped) s)).engine n = .stopped :=
    fun _ hn => engine_setEngine_all s .stopped hn
  unfold bistPrepared
  generalize clearWorking ((List.range 15).foldl (fun (t : State) n => t.setEngine n .stopped) s) = u at hengines
  exact ⟨rfl, hengines, State.flag_setFld_one u (f := F.BST_STATUS_RAN) (by decide) (by decide)⟩

/-- A self-test that starts: its first test is the current one, and where no self-test has run since the entry the device is prepared. -/
theorem bistStart_spec (h : starting s id 0x0005 = some c) : ∃ u, bistStart s id =
      testBegins u { id := id, tests := bistTests c.desc, parts := [], failed := 0, firstFailed := 0xFF, micros := 0 } ∧
    u.dev.bistRan = true ∧ (s.dev.bistRan = false → (∀ n, n < 15 → u.engine n = .stopped) ∧ u.flag F.BST_STATUS_RAN = true) := by
  have hdev : (beginCmd s id).dev = s.dev := (touches_beginCmd id).part .dev (by decide)
  unfold bistStart
  simp only [h, hdev]
  refine ⟨_, rfl, ?_, fun hran => ?_⟩
  · split
    · rw [hdev]
      assumption
    · obtain ⟨u, hu⟩ := bistPrepare_eq (beginCmd s id)
      rw [hu]
      exact bistPrepared_spec.1
  · rw [hran, if_neg Bool.false_ne_true]
    obtain ⟨u, hu⟩ := bistPrepare_eq (beginCmd s id)
    rw [hu]
    exact bistPrepared_spec.2

theorem testResult_spec (test : Nat) (misr : BitVec 64) (micros : Nat) : Tbl.get (fun _ => BistResult.none) (testResult s test misr micros).bst.results test =
    { ran := true, pass := misr == Config.fusedMisr test, abandoned := false, micros := micros, misr := misr } := by
  have hput := Tbl.get_put_self (fun _ => BistResult.none) s.bst.results test
    { ran := true, pass := misr == Config.fusedMisr test, abandoned := false, micros := micros, misr := misr }
  unfold testResult
  simp only
  split
  · exact hput
  · rw [setCause_bst]
    exact hput

/-- What the DRAM march leaves of the memory. -/
def marchLeft (s : State) (test : Nat) : State := if test = 0xF1 then s.ramClear 0 0x8000000 else s

theorem marchLeft_bst (test : Nat) : (marchLeft s test).bst = s.bst := by
  unfold marchLeft
  split
  · rfl
  · rfl

/-- The run after its first test. -/
def bistNext (r : BistRun) (n : Nat) (rest : List Nat) (misr : BitVec 64) (micros : Nat) : BistRun :=
  let bad := misr != Config.fusedMisr n
  { r with tests := rest, parts := r.parts ++ [testPart n misr], failed := r.failed + b01 bad,
           firstFailed := if bad && r.firstFailed == 0xFF then n else r.firstFailed, micros := r.micros + micros }

theorem testDone_last {r : BistRun} {n : Nat} (misr : BitVec 64) (micros : Nat) (hr : s.bst.run = some r) (ht : r.tests = [n]) :
    testDone s misr micros = finishCmd (bistEnds (marchLeft (testResult s n misr micros) n) (bistNext r n [] misr micros)) r.id
      (r.parts ++ [testPart n misr]) := by
  unfold testDone
  simp only [hr, ht]
  rfl

theorem testDone_next {r : BistRun} {n m : Nat} {rest : List Nat} (misr : BitVec 64) (micros : Nat) (hr : s.bst.run = some r)
    (ht : r.tests = n :: m :: rest) : testDone s misr micros =
      (let u := testBegins (marchLeft (testResult s n misr micros) n) (bistNext r n (m :: rest) misr micros)
      if n = 15 then [0, 1, 2, 3].foldl startFetch u else u) := by
  unfold testDone
  simp only [hr, ht]
  rfl

/-- The run shown as over, with its event and its cause. -/
def runShown (s : State) (r : BistRun) : State :=
  setCause (State.event { s.setFld F.BST_STATUS_RUNNING 0 with bst := { s.bst with run := none } } 0x07 0 0x1700 (if r.failed = 0 then 0 else 3)
    (leBytes 1 r.parts.length ++ leBytes 1 r.failed ++ leBytes 1 r.firstFailed ++ leBytes 1 1 ++ leBytes 4 (r.micros / 1000))) 0x07 0

theorem runShown_spec (r : BistRun) : (runShown s r).bst = { s.bst with run := none } ∧ (runShown s r).flag F.BST_STATUS_RUNNING = false ∧
    causeSet (runShown s r) 0x07 0 = true := by
  unfold runShown
  refine ⟨setCause_bst _ _ _, ?_, by rw [causeSet_setCause _ _ _ _ (by decide), beq_self_eq_true, Bool.or_true]⟩
  refine ((onlyRegs_setCause _ 0x07 0).flag (by decide)).trans ?_
  exact State.flag_setFld_zero s (f := F.BST_STATUS_RUNNING) (by decide)

theorem bistEnds_spec (r : BistRun) : (bistEnds s r).bst = { s.bst with run := none } ∧ (bistEnds s r).flag F.BST_STATUS_RUNNING = false ∧
    causeSet (bistEnds s r) 0x07 0 = true := by
  obtain ⟨hbst, hrunning, hcause⟩ := runShown_spec (s := s) r
  have hfetch : Touches [.rings, .out] [] (runShown s r) (bistEnds s r) := Touches.foldl (fun t k _ => touches_startFetch t k) _
  refine ⟨(hfetch.part .bst (by decide)).trans hbst, (hfetch.flag (List.not_mem_nil)).trans hrunning, ?_⟩
  rw [causeSet, hfetch.reg _ (List.not_mem_nil)]
  exact hcause

/-- The last test of a run. -/
theorem testDone_last_spec {r : BistRun} {n : Nat} (misr : BitVec 64) (micros : Nat) (hr : s.bst.run = some r) (ht : r.tests = [n]) :
    Tbl.get (fun _ => BistResult.none) (testDone s misr micros).bst.results n =
      { ran := true, pass := misr == Config.fusedMisr n, abandoned := false, micros := micros, misr := misr } ∧
    (testDone s misr micros).bst.run = none ∧ (testDone s misr micros).flag F.BST_STATUS_RUNNING = false ∧
    causeSet (testDone s misr micros) 0x07 0 = true := by
  rw [testDone_last misr micros hr ht]
  have hresult := testResult_spec (s := s) n misr micros
  rw [← marchLeft_bst n] at hresult
  generalize marchLeft (testResult s n misr micros) n = u at hresult
  obtain ⟨hbst, hrunning, hcause⟩ := bistEnds_spec (s := u) (bistNext r n [] misr micros)
  generalize bistEnds u (bistNext r n [] misr micros) = v at hbst hrunning hcause
  have hfinish := touches_finishCmd v r.id (r.parts ++ [testPart n misr])
  generalize finishCmd v r.id (r.parts ++ [testPart n misr]) = w at hfinish
  have hw : w.bst = { u.bst with run := none } := (hfinish.part .bst (by decide)).trans hbst
  refine ⟨?_, by rw [hw], (hfinish.flag (List.not_mem_nil)).trans hrunning, ?_⟩
  · rw [hw]
    exact hresult
  · rw [causeSet, hfinish.reg _ (List.not_mem_nil)]
    exact hcause

/-- Another test of a run. -/
theorem testDone_next_spec {r : BistRun} {n m : Nat} {rest : List Nat} (misr : BitVec 64) (micros : Nat) (hr : s.bst.run = some r)
    (ht : r.tests = n :: m :: rest) :
    Tbl.get (fun _ => BistResult.none) (testDone s misr micros).bst.results n =
      { ran := true, pass := misr == Config.fusedMisr n, abandoned := false, micros := micros, misr := misr } ∧
    (testDone s misr micros).bst.run = some (bistNext r n (m :: rest) misr micros) ∧
    (testDone s misr micros).fld F.BST_STATUS_CURRENT = m % 256 := by
  rw [testDone_next misr micros hr ht]
  have hresult := testResult_spec (s := s) n misr micros
  rw [← marchLeft_bst n] at hresult
  generalize marchLeft (testResult s n misr micros) n = u at hresult
  obtain ⟨hrun, -, hcurrent, -, -, hresults⟩ := testBegins_spec (s := u) (bistNext r n (m :: rest) misr micros)
  simp only
  generalize testBegins u (bistNext r n (m :: rest) misr micros) = v at hrun hcurrent hresults
  have hfetch : Touches [.rings, .out] [] v (if n = 15 then [0, 1, 2, 3].foldl startFetch v else v) := by
    split
    · exact Touches.foldl (fun t k _ => touches_startFetch t k) v
    · exact Touches.refl v
  generalize (if n = 15 then [0, 1, 2, 3].foldl startFetch v else v) = w at hfetch
  have hw : w.bst = v.bst := hfetch.part .bst (by decide)
  refine ⟨?_, by rw [hw, hrun], (hfetch.fld (List.not_mem_nil)).trans hcurrent⟩
  rw [hw, hresults]
  exact hresult

end

/-- The restart of an engine that receives for a lane: no command is served by it, and the frames that wait for CCM* are dropped. -/
theorem engineRestart_receive {s : State} {n : Nat} (hn : n < 4) (cause : Nat) :
    ((engineRestart s (2 * n) cause []).lane n).rx = (s.lane n).rx.filter (fun f => f.check != .waiting) := by
  obtain ⟨data, he⟩ := engineRestart_eq (s := s) (n := 2 * n) cause []
  have hserved : engineServed (engineStops s (2 * n) []) (2 * n) = receiveRestart (engineStops s (2 * n) []) n := by
    rw [engineServed, if_pos (by omega), if_pos (by omega), Nat.mul_div_cancel_left n (by decide)]
  have hkept := (engineStops_kept (s := s) (n := 2 * n) []).rx n
  have hlane : (s.setEngine (2 * n) .restarting).lane n = s.lane n := rfl
  rw [he, hserved]
  generalize engineStops s (2 * n) [] = t at hkept ⊢
  rw [hlane] at hkept
  rw [← hkept]
  have hrx := (receiveRestart_spec (s := t) (n := n)).2
  generalize receiveRestart t n = u at hrx
  exact hrx

/-- The restart of an engine that transmits for a lane. -/
theorem engineRestart_transmit {s : State} {n : Nat} (hn : n < 4) (cause : Nat) :
    ((engineRestart s (2 * n + 1) cause []).lane n).owed = [] ∧ ((engineRestart s (2 * n + 1) cause []).lane n).acked = [] := by
  obtain ⟨data, he⟩ := engineRestart_eq (s := s) (n := 2 * n + 1) cause []
  have hserved : engineServed (engineStops s (2 * n + 1) []) (2 * n + 1) = transmitRestart (engineStops s (2 * n + 1) []) n := by
    rw [engineServed, if_pos (by omega), if_neg (by omega), show (2 * n + 1) / 2 = n by omega]
  rw [he, hserved]
  generalize engineStops s (2 * n + 1) [] = t
  obtain ⟨-, howed, hacked⟩ := transmitRestart_spec (s := t) (n := n)
  generalize transmitRestart t n = u at howed hacked
  exact ⟨howed, hacked⟩

/-- Settles O35, by what begins a test, what ends one, and what the restart of an engine does to what it serves. -/
theorem selfTestsRunOneAfterAnother : Obligations.SelfTestsRunOneAfterAnother := by
  unfold Obligations.SelfTestsRunOneAfterAnother
  refine ⟨fun s id c hop hstate hrun hstart => ?_, fun s r n rest misr micros hanswers hr ht => ?_, fun s e ue taken he _ => ?_,
    fun s n ue he => ?_, fun s n ue he => ?_, fun s e hanswers he => ?_⟩
  · obtain ⟨u, hu, hran, hprepared⟩ := bistStart_spec hstart.1
    obtain ⟨hbegun, hrunning, hcurrent, hdev, hflag, -⟩ := testBegins_spec (s := u)
      { id := id, tests := bistTests c.desc, parts := [], failed := 0, firstFailed := 0xFF, micros := 0 }
    have hexec : exec (.bistRun id) s = .next (bistStart s id) :=
      congrArg Host.Outcome.next (if_pos (by rw [hop, hstate, hrun]; rfl))
    rw [hu] at hexec
    refine ⟨_, hexec, by rw [hbegun]; rfl, hrunning, hcurrent, by rw [hdev, hran], fun hfirst => ?_⟩
    obtain ⟨hengines, hmark⟩ := hprepared hfirst
    exact ⟨fun n hn => (engine_of_dev hdev n).trans (hengines n hn), hflag.trans hmark⟩
  · refine ⟨testDone s misr micros, congrArg Host.Outcome.next (if_pos hanswers), ?_⟩
    cases rest with
    | nil =>
      obtain ⟨hresult, hover, hrunning, hcause⟩ := testDone_last_spec misr micros hr ht
      exact ⟨hresult, fun _ => ⟨hover, hrunning, hcause⟩, fun h => absurd rfl h⟩
    | cons m rest =>
      obtain ⟨hresult, hnext, hcurrent⟩ := testDone_next_spec misr micros hr ht
      refine ⟨hresult, fun h => by simp at h, fun _ => ⟨by rw [hnext]; rfl, hcurrent, by rw [hnext]; rfl⟩⟩
  · obtain ⟨hself, hevent, hothers⟩ := engineRestart_spec (s := s) (n := e) (if ue || s.engine e == .failed then 2 else 1)
      (taken.map (fun e => (e.1.val, e.2.1.val, e.2.2)))
    exact ⟨_, congrArg Host.Outcome.next (if_pos he), hself, hevent, hothers⟩
  · obtain ⟨hself, hevent, -⟩ := engineRestart_spec (s := s) (n := 2 * n) (if ue || s.engine (2 * n) == .failed then 2 else 1) []
    exact ⟨_, congrArg Host.Outcome.next (if_pos he), hself, engineRestart_receive n.isLt _, hevent⟩
  · obtain ⟨hself, hevent, -⟩ := engineRestart_spec (s := s) (n := 2 * n + 1) (if ue || s.engine (2 * n + 1) == .failed then 2 else 1) []
    obtain ⟨howed, hacked⟩ := engineRestart_transmit (s := s) n.isLt (if ue || s.engine (2 * n + 1) == .failed then 2 else 1)
    have hpage : 0x40 + (2 * n.val + 1) = 0x41 + 2 * n.val := by omega
    rw [hpage] at hevent
    exact ⟨_, congrArg Host.Outcome.next (if_pos he), hself, howed, hacked, hevent⟩
  · exact congrArg Host.Outcome.next (if_pos (by rw [hanswers, he]; rfl))

end Sys2Proof.Machine
end

section
/-!
PROOFS. Shapers, statistics and gate lists (14_traffic_scheduling_and_shaping.md).
-/
namespace Sys2Proof.Machine

-- One proof after another: side by side, the threads of so long a text want more memory than the check grants.
set_option Elab.async false

/-! ### GO bits as fields (R48) -/

section
variable {s : State}

/-- Setting one bit of a word is writing a field of that bit. -/
theorem insBits_one (w : Word) {b : Nat} (hb : b < 32) : insBits w b 1 1 = w ||| BitVec.ofNat 32 (2 ^ b) := by
  apply BitVec.eq_of_getLsbD_eq
  intro i hi
  rw [getLsbD_insBits _ _ _ _ _ (by omega), BitVec.getLsbD_or, BitVec.getLsbD_ofNat, decide_eq_true hi, Bool.true_and, Nat.testBit_two_pow]
  by_cases h : b = i
  · subst h
    rw [if_pos (by omega), decide_eq_true rfl, Bool.or_true, Nat.sub_self]
    rfl
  · rw [if_neg (by omega), decide_eq_false h, Bool.or_false]

/-- Clearing one bit of a word is writing 0 to a field of that bit. -/
theorem insBits_zero (w : Word) {b : Nat} (hb : b < 32) : insBits w b 1 0 = w &&& ~~~(BitVec.ofNat 32 (2 ^ b)) := by
  apply BitVec.eq_of_getLsbD_eq
  intro i hi
  rw [getLsbD_insBits _ _ _ _ _ (by omega), BitVec.getLsbD_and, BitVec.getLsbD_not, BitVec.getLsbD_ofNat, decide_eq_true hi, Bool.true_and,
    Bool.true_and, Nat.testBit_two_pow]
  by_cases h : b = i
  · subst h
    rw [if_pos (by omega), decide_eq_true rfl, Bool.not_true, Bool.and_false, Nat.zero_testBit]
  · rw [if_neg (by omega), decide_eq_false h, Bool.not_false, Bool.and_true]

/-- A GO bit that was 0 is set. -/
theorem startGo_setFld {f : Fld} (hw : f.width = 1) (hf : f.lsb < 32) (h : s.flag f = false) : startGo s f.addr f.lsb = s.setFld f 1 := by
  rw [State.flag_eq_bit hw] at h
  rw [startGo_new h, State.setFld, hw, insBits_one _ hf]

/-- A GO bit is cleared where no further start waits. -/
theorem endGo_setFld {f : Fld} (hw : f.width = 1) (hf : f.lsb < 32) (h : s.bus.goPending.contains (f.addr * 32 + f.lsb) = false) :
    endGo s f.addr f.lsb = (s.setFld f 0, false) := by
  rw [endGo, h, if_neg Bool.false_ne_true, State.setFld, hw, insBits_zero _ hf]
end

/-! ### Shapers and policers (R477, R482, R484) -/

section
variable (s : State)

theorem tssRefill_queue (q : Nat) : (tssRefill s).queue q = (s.queue q).refill :=
  Tbl.get_mapVals (fun _ => Queue.init) (fun _ q => q.refill) s.fab.queues q (by decide)

theorem tssRefill_cls (e c : Nat) : (tssRefill s).cls e c = (s.cls e c).refill :=
  Tbl.get_mapVals (fun _ => EgressClass.init) (fun _ c => c.refill) s.tss.classes (8 * e + c) (by decide)

theorem tssRefill_policer (p : Nat) : (tssRefill s).policer p = (s.policer p).refill :=
  Tbl.get_mapVals (fun _ => Policer.init) (fun _ p => p.refill) s.tss.policers p (by decide)

/-- What a tick makes of the radio class shaper of number `k`. -/
def radioTicked (k : Nat) : Shaper :=
  (radioShaper s (k / 4) (k % 4)).tick (s.flag (F.TSS_RSHAPE_c_EN k)) (s.fld (F.TSS_RSHAPE_c_RATE k)) (s.fld (F.TSS_RSHAPE_c_BURST k))

/-- The radio class shapers ticked one after another: each once, nothing else. -/
theorem foldl_radioTick (n : Nat) :
    (List.range n).foldl radioTick s = { s with tss := { s.tss with radio := ((List.range n).foldl radioTick s).tss.radio } } ∧
      ∀ k, radioShaper ((List.range n).foldl radioTick s) (k / 4) (k % 4) = if k < n then radioTicked s k else radioShaper s (k / 4) (k % 4) := by
  induction n with
  | zero => exact ⟨rfl, fun k => (if_neg (Nat.not_lt_zero k)).symm⟩
  | succ n ih =>
    rw [List.range_succ, List.foldl_append]
    generalize (List.range n).foldl radioTick s = t at ih ⊢
    obtain ⟨hframe, hk⟩ := ih
    have htick : radioTicked t n = radioTicked s n := by
      have hn := hk n
      rw [if_neg (Nat.lt_irrefl n)] at hn
      have hregs : t.regs = s.regs := by rw [hframe]
      rw [radioTicked, radioTicked, hn, State.flag_of_regs hregs, State.fld_congr (State.reg_congr hregs _),
        State.fld_congr (State.reg_congr hregs _)]
    refine ⟨?_, fun k => ?_⟩
    · change setRadioShaper t (n / 4) (n % 4) _ = _
      rw [hframe]
      rfl
    · change radioShaper (setRadioShaper t (n / 4) (n % 4) (radioTicked t n)) (k / 4) (k % 4) = _
      rw [radioShaper, setRadioShaper, Nat.div_add_mod, Nat.div_add_mod]
      by_cases h : k = n
      · subst h
        rw [if_pos (Nat.lt_succ_self k), Tbl.get_put_self, htick]
      · have hlt : k < n + 1 ↔ k < n := by omega
        simp only [Tbl.get_put_ne _ _ _ h, hlt]
        have := hk k
        rwa [radioShaper, Nat.div_add_mod] at this
end

/-! ### Statistics (R494–R496) -/

section
variable {s : State}

theorem sampleAll_queue (q : Nat) :
    (sampleAll s).queue q = if bit (s.queue q).cfg.toNat 31 then (sampleQueue s (s.queue q)).1 else s.queue q := by
  have hfab : (sampleAll s).fab.queues =
      Tbl.mapVals (fun _ => Queue.init) (fun _ q => if bit q.cfg.toNat 31 then (sampleQueue s q).1 else q) s.fab.queues := by
    unfold sampleAll
    simp only
    split <;> simp
  rw [State.queue, hfab]
  exact Tbl.get_mapVals _ _ _ _ (if_neg (by decide))

theorem sampleAll_spec :
    (sampleAll s).dtm = s.dtm ∧ (sampleAll s).fld F.TSS_STATUS_SAMPLE_CODE = s.fld F.TSS_SAMPLE_CFG_CODE ∧
      causeSet (sampleAll s) 0x22 0 = true ∧ OnlyRegs s (sampleAll s) [A.TSS_STATUS, 0x22010] := by
  unfold sampleAll
  simp only
  generalize hu : ({ s with fab := _ } : State).setFld F.TSS_STATUS_SAMPLE_CODE _ = u
  have hcode : u.fld F.TSS_STATUS_SAMPLE_CODE = s.fld F.TSS_SAMPLE_CFG_CODE := by
    rw [← hu]
    exact (State.fld_setFld_self _ F.TSS_STATUS_SAMPLE_CODE _ (by decide)).trans (Nat.mod_eq_of_lt (bitsOf_lt _ _ _))
  have hdtm : u.dtm = s.dtm := by rw [← hu]; rfl
  have honly : OnlyRegs s u [A.TSS_STATUS] := by
    rw [← hu]
    exact fun a ha => onlyRegs_setFld _ F.TSS_STATUS_SAMPLE_CODE _ a ha
  generalize s.fab.queues.any _ = sat
  have hsat : OnlyRegs u (if sat then setCause u 0x22 1 else u) [0x22010] ∧ (if sat then setCause u 0x22 1 else u).dtm = u.dtm := by
    split
    · exact ⟨onlyRegs_setCause u 0x22 1, by simp⟩
    · exact ⟨(OnlyRegs.refl u).mono (List.nil_subset _), rfl⟩
  obtain ⟨hregs, hd⟩ := hsat
  have hlast := hregs.trans (onlyRegs_setCause (if sat then setCause u 0x22 1 else u) 0x22 0)
  refine ⟨by rw [setCause_dtm, hd, hdtm], (hlast.fld (by decide)).trans hcode, ?_, (honly.trans hlast).mono (by decide)⟩
  rw [causeSet_setCause _ _ _ _ (by decide)]
  exact Bool.or_true _

theorem snapStart_spec (h : s.flag F.TSS_ST_CTRL_SNAP = false) :
    (snapStart s).tss = { s.tss with snapping := some (s.fld F.TSS_SEL_QUEUE) } ∧ (snapStart s).flag F.TSS_ST_CTRL_SNAP = true ∧
      (snapStart s).flag F.TSS_ST_SAMPLES_VALID = false ∧ OnlyRegs s (snapStart s) [A.TSS_ST_CTRL, A.TSS_ST_SAMPLES] ∧
      snapStart s = { s with regs := (snapStart s).regs, tss := (snapStart s).tss } := by
  have hgo : startGo s A.TSS_ST_CTRL 0 = s.setFld F.TSS_ST_CTRL_SNAP 1 := startGo_setFld (f := F.TSS_ST_CTRL_SNAP) rfl (by decide) h
  unfold snapStart
  simp only [h, hgo, Bool.false_eq_true, if_false]
  have honly : OnlyRegs s ((s.setFld F.TSS_ST_CTRL_SNAP 1).setFld F.TSS_ST_SAMPLES_VALID 0) [A.TSS_ST_CTRL, A.TSS_ST_SAMPLES] :=
    (onlyRegs_setFld s F.TSS_ST_CTRL_SNAP 1).trans (onlyRegs_setFld _ F.TSS_ST_SAMPLES_VALID 0)
  have hsnap : ((s.setFld F.TSS_ST_CTRL_SNAP 1).setFld F.TSS_ST_SAMPLES_VALID 0).flag F.TSS_ST_CTRL_SNAP = true :=
    (State.flag_setFld_apart _ _ (by decide) (Or.inl (by decide))).trans (State.flag_setFld_one s rfl (by decide))
  have hvalid : ((s.setFld F.TSS_ST_CTRL_SNAP 1).setFld F.TSS_ST_SAMPLES_VALID 0).flag F.TSS_ST_SAMPLES_VALID = false :=
    State.flag_setFld_zero _ (by decide)
  have hframe : (s.setFld F.TSS_ST_CTRL_SNAP 1).setFld F.TSS_ST_SAMPLES_VALID 0 =
    { s with regs := ((s.setFld F.TSS_ST_CTRL_SNAP 1).setFld F.TSS_ST_SAMPLES_VALID 0).regs } := rfl
  generalize (s.setFld F.TSS_ST_CTRL_SNAP 1).setFld F.TSS_ST_SAMPLES_VALID 0 = u at honly hsnap hvalid hframe ⊢
  have hqueue : u.fld F.TSS_SEL_QUEUE = s.fld F.TSS_SEL_QUEUE := honly.fld (by decide)
  refine ⟨by rw [hqueue, hframe], hsnap, hvalid, honly, by rw [hframe]⟩

/-- The histograms of a queue copied up to bin `n`. -/
def histCopy (s : State) (q : Queue) (n : Nat) : State :=
  (List.range n).foldl (fun s i => (s.setReg (A.TSS_ST_DEPTH_HIST i) (BitVec.ofNat 32 (Tbl.get (fun _ => 0) q.depth.bins i))).setReg
    (A.TSS_ST_DELAY_HIST i) (BitVec.ofNat 32 (Tbl.get (fun _ => 0) q.delay.bins i))) s

/-- The other statistics of a queue copied. -/
def statCopy (s : State) (q : Queue) : State :=
  ((((((s.setReg A.TSS_ST_SAMPLES (BitVec.ofNat 32 (2 ^ 31 + q.samples))).setReg A.TSS_ST_DEPTH_MIN (BitVec.ofNat 32 q.depth.min)).setReg
    A.TSS_ST_DEPTH_MAX (BitVec.ofNat 32 q.depth.max)).setReg A.TSS_ST_DEPTH_LAST (BitVec.ofNat 32 q.depth.last)).setReg
    A.TSS_ST_DELAY_MIN (BitVec.ofNat 32 q.delay.min)).setReg A.TSS_ST_DELAY_MAX (BitVec.ofNat 32 q.delay.max)).setReg
    A.TSS_ST_DELAY_LAST (BitVec.ofNat 32 q.delay.last)

theorem snapCopy_eq (q : Queue) : snapCopy s q = histCopy (statCopy s q) q 16 := rfl

theorem histAddr (k : Nat) : A.TSS_ST_DEPTH_HIST k = 0x22070 + 4 * k ∧ A.TSS_ST_DELAY_HIST k = 0x220B0 + 4 * k := ⟨rfl, rfl⟩

/-- Each bin stands in its register; the registers of nothing else change. -/
theorem histCopy_spec (q : Queue) (n : Nat) (hn : n ≤ 16) :
    histCopy s q n = { s with regs := (histCopy s q n).regs } ∧
      (∀ a, a < A.TSS_ST_DEPTH_HIST 0 → (histCopy s q n).reg a = s.reg a) ∧
      ∀ i, i < n → (histCopy s q n).reg (A.TSS_ST_DEPTH_HIST i) = BitVec.ofNat 32 (Tbl.get (fun _ => 0) q.depth.bins i) ∧
        (histCopy s q n).reg (A.TSS_ST_DELAY_HIST i) = BitVec.ofNat 32 (Tbl.get (fun _ => 0) q.delay.bins i) := by
  induction n with
  | zero => exact ⟨rfl, fun _ _ => rfl, fun i hi => absurd hi (Nat.not_lt_zero i)⟩
  | succ n ih =>
    obtain ⟨hframe, hlow, hbins⟩ := ih (by omega)
    have hsucc : histCopy s q (n + 1) = ((histCopy s q n).setReg (A.TSS_ST_DEPTH_HIST n)
        (BitVec.ofNat 32 (Tbl.get (fun _ => 0) q.depth.bins n))).setReg (A.TSS_ST_DELAY_HIST n)
        (BitVec.ofNat 32 (Tbl.get (fun _ => 0) q.delay.bins n)) := by
      rw [histCopy, List.range_succ, List.foldl_append]
      rfl
    generalize histCopy s q n = t at hframe hlow hbins hsucc
    rw [hsucc]
    have hlast := histAddr n
    have hfirst := histAddr 0
    refine ⟨by rw [hframe]; rfl, fun a ha => ?_, fun i hi => ?_⟩
    · rw [State.reg_setReg_ne _ _ (by omega), State.reg_setReg_ne _ _ (by omega)]
      exact hlow a ha
    · have hbin := histAddr i
      by_cases h : i = n
      · subst h
        refine ⟨?_, State.reg_setReg_self _ _ _⟩
        rw [State.reg_setReg_ne _ _ (by omega), State.reg_setReg_self]
      · obtain ⟨hdepth, hdelay⟩ := hbins i (by omega)
        refine ⟨?_, ?_⟩
        · rw [State.reg_setReg_ne _ _ (by omega), State.reg_setReg_ne _ _ (by omega), hdepth]
        · rw [State.reg_setReg_ne _ _ (by omega), State.reg_setReg_ne _ _ (by omega), hdelay]

theorem statCopy_spec (q : Queue) :
    statCopy s q = { s with regs := (statCopy s q).regs } ∧
      (statCopy s q).reg A.TSS_ST_SAMPLES = BitVec.ofNat 32 (2 ^ 31 + q.samples) ∧
      (statCopy s q).reg A.TSS_ST_DEPTH_MIN = BitVec.ofNat 32 q.depth.min ∧ (statCopy s q).reg A.TSS_ST_DEPTH_MAX = BitVec.ofNat 32 q.depth.max ∧
      (statCopy s q).reg A.TSS_ST_DELAY_MIN = BitVec.ofNat 32 q.delay.min ∧ (statCopy s q).reg A.TSS_ST_DELAY_MAX = BitVec.ofNat 32 q.delay.max := by
  refine ⟨rfl, ?_, ?_, ?_, ?_, ?_⟩ <;> simp [statCopy, State.reg_setReg]

/-- The snapshot of a queue's statistics shown. -/
def snapShown (s : State) (q : Queue) : State := (snapCopy s q).setFld F.TSS_ST_CTRL_SNAP 0

theorem stSnapDone_eq {q : Nat} (hq : s.tss.snapping = some q) (hgo : s.bus.goPending.contains (A.TSS_ST_CTRL * 32) = false) :
    exec .stSnapDone s = .next { snapShown s (s.queue q) with tss := { (snapShown s (s.queue q)).tss with snapping := none } } := by
  obtain ⟨hframe, -⟩ := histCopy_spec (s := statCopy s (s.queue q)) (s.queue q) 16 (Nat.le_refl 16)
  have hbus : (snapCopy s (s.queue q)).bus = s.bus := by
    rw [snapCopy_eq, hframe]
    rfl
  have hend : endGo (snapCopy s (s.queue q)) A.TSS_ST_CTRL 0 = ((snapCopy s (s.queue q)).setFld F.TSS_ST_CTRL_SNAP 0, false) :=
    endGo_setFld (f := F.TSS_ST_CTRL_SNAP) rfl (by decide) (by rw [hbus]; exact hgo)
  simp only [exec, execStSnapDone, hq, hend, Bool.false_eq_true, if_false]
  rfl

/-- The registers of a snapshot, and SNAP cleared. -/
theorem snapShown_spec (q : Queue) :
    (snapShown s q).reg A.TSS_ST_SAMPLES = BitVec.ofNat 32 (2 ^ 31 + q.samples) ∧
      (snapShown s q).reg A.TSS_ST_DEPTH_MIN = BitVec.ofNat 32 q.depth.min ∧ (snapShown s q).reg A.TSS_ST_DEPTH_MAX = BitVec.ofNat 32 q.depth.max ∧
      (snapShown s q).reg A.TSS_ST_DELAY_MIN = BitVec.ofNat 32 q.delay.min ∧ (snapShown s q).reg A.TSS_ST_DELAY_MAX = BitVec.ofNat 32 q.delay.max ∧
      (∀ i, i < 16 → (snapShown s q).reg (A.TSS_ST_DEPTH_HIST i) = BitVec.ofNat 32 (Tbl.get (fun _ => 0) q.depth.bins i) ∧
        (snapShown s q).reg (A.TSS_ST_DELAY_HIST i) = BitVec.ofNat 32 (Tbl.get (fun _ => 0) q.delay.bins i)) ∧
      (snapShown s q).flag F.TSS_ST_CTRL_SNAP = false ∧ snapShown s q = { s with regs := (snapShown s q).regs } := by
  obtain ⟨hstat, hsamples, hdmin, hdmax, hlmin, hlmax⟩ := statCopy_spec (s := s) q
  obtain ⟨hframe, hlow, hbins⟩ := histCopy_spec (s := statCopy s q) q 16 (Nat.le_refl 16)
  have hclear : (snapShown s q).flag F.TSS_ST_CTRL_SNAP = false := State.flag_setFld_zero _ (by decide)
  have hreg : ∀ a, a ≠ A.TSS_ST_CTRL → (snapShown s q).reg a = (histCopy (statCopy s q) q 16).reg a := fun a ha =>
    State.reg_setFld_ne _ _ ha
  have hshown : snapShown s q = { s with regs := (snapShown s q).regs } := by
    have hset : ∀ u : State, u.setFld F.TSS_ST_CTRL_SNAP 0 = { u with regs := (u.setFld F.TSS_ST_CTRL_SNAP 0).regs } := fun _ => rfl
    refine (hset _).trans ?_
    change { histCopy (statCopy s q) q 16 with regs := (snapShown s q).regs } = _
    rw [hframe, hstat]
  refine ⟨(hreg _ (by decide)).trans ((hlow _ (by decide)).trans hsamples), (hreg _ (by decide)).trans ((hlow _ (by decide)).trans hdmin),
    (hreg _ (by decide)).trans ((hlow _ (by decide)).trans hdmax), (hreg _ (by decide)).trans ((hlow _ (by decide)).trans hlmin),
    (hreg _ (by decide)).trans ((hlow _ (by decide)).trans hlmax), fun i hi => ?_, hclear, hshown⟩
  obtain ⟨hdepth, hdelay⟩ := hbins i hi
  have haddr := histAddr i
  have hctrl : A.TSS_ST_CTRL = 0x22050 := rfl
  exact ⟨(hreg _ (by omega)).trans hdepth, (hreg _ (by omega)).trans hdelay⟩
end

/-! ### Gate lists (R487–R493) -/

section
variable {s t : State} {x : Nat}

theorem State.gate_setGate_self (x : Nat) (v : GateList) : (s.setGate x v).gate x = v := Tbl.get_put_self _ _ _ _

theorem State.gate_setGate_ne {x y : Nat} (v : GateList) (h : y ≠ x) : (s.setGate x v).gate y = s.gate y := Tbl.get_put_ne _ _ _ h

theorem State.gate_of_gates (h : t.gates = s.gates) (x : Nat) : t.gate x = s.gate x := by rw [State.gate, h, State.gate]

/-- The check of a list reads its entries and what stands outside the page of the gate lists. -/
theorem gateReject_congr (hg : t.gate x = s.gate x) (hr : ∀ a, a / 0x1000 ≠ 0x23 → t.reg a = s.reg a) (len cycle bank : Nat) :
    gateReject t x len cycle bank = gateReject s x len cycle bank := by
  have hfld : ∀ f : Fld, f.addr / 0x1000 ≠ 0x23 → t.fld f = s.fld f := fun f hf => State.fld_congr (hr _ hf)
  have hentries : gateEntries t x bank len = gateEntries s x bank len := by rw [gateEntries, gateEntries, hg]
  have hpage : A.EM_STATUS x / 0x1000 ≠ 0x23 ∧ A.EM_FRAME_CFG x / 0x1000 ≠ 0x23 := by
    have hstatus : A.EM_STATUS x = 0x2400C + 0x1000 * x := rfl
    have hframe : A.EM_FRAME_CFG x = 0x2402C + 0x1000 * x := rfl
    omega
  have hrate : portMbps t x = portMbps s x := by rw [portMbps, portMbps, hfld _ hpage.1]
  have hover : overhead t x = overhead s x := by
    unfold overhead
    split
    · exact hfld _ (by decide)
    · exact hfld _ (by decide)
    · exact hfld _ (by decide)
  have hlargest : largestBits t x = largestBits s x := by rw [largestBits, largestBits, hover, hfld _ hpage.2]
  simp only [gateReject, hentries, hrate, unfitClass, hlargest]

/-- Outside the page of the gate lists, a write of some of its registers changes none. -/
theorem OnlyRegs.outside_gcl {as : List Nat} (h : OnlyRegs s t as) (has : ∀ a ∈ as, a / 0x1000 = 0x23) :
    ∀ a, a / 0x1000 ≠ 0x23 → t.reg a = s.reg a := fun a ha => h a (fun hm => ha (has a hm))

theorem gclCtrl_page : ∀ x : Fin 6, A.GCL_L_CTRL x / 0x1000 = 0x23 := by decide

theorem gclAdmin_apart : ∀ x : Fin 6, A.GCL_L_ADMIN_LEN x ∉ [A.GCL_L_CTRL x] ∧ A.GCL_L_ADMIN_CYCLE x ∉ [A.GCL_L_CTRL x] ∧
    A.GCL_L_ADMIN_BASE x ∉ [A.GCL_L_CTRL x] ∧ A.GCL_L_ADMIN_BASE_MID x ∉ [A.GCL_L_CTRL x] ∧ A.GCL_L_ADMIN_BASE_HI x ∉ [A.GCL_L_CTRL x] := by
  decide

theorem gclOper_apart : ∀ x : Fin 6, A.GCL_L_OPER_STATE x ≠ A.GCL_L_CTRL x ∧ A.GCL_L_OPER_CYCLE x ≠ A.GCL_L_CTRL x ∧
    A.GCL_L_OPER_CYCLE x ≠ A.GCL_L_OPER_STATE x ∧
    (∀ a ∈ [A.GCL_SWITCHES, A.GCL_REJECTS, 0x23010], a ≠ A.GCL_L_CTRL x ∧ a ≠ A.GCL_L_OPER_STATE x ∧ a ≠ A.GCL_L_OPER_CYCLE x) := by
  decide

theorem adminParams_congr {x : Fin 6} (h : OnlyRegs s t [A.GCL_L_CTRL x]) : adminParams t x = adminParams s x := by
  obtain ⟨hlen, hcycle, hns, hlo, hhi⟩ := gclAdmin_apart x
  rw [adminParams, adminParams, h.fld (f := F.GCL_L_ADMIN_LEN_LEN x) hlen, h.fld (f := F.GCL_L_ADMIN_CYCLE_CYCLE x) hcycle,
    h.fld (f := F.GCL_L_ADMIN_BASE_NS x) hns, h.fld (f := F.GCL_L_ADMIN_BASE_MID_S_LO x) hlo, h.fld (f := F.GCL_L_ADMIN_BASE_HI_S_HI x) hhi]

/-- SWITCH written 1 while it is 0: the check is that of the administrative bank as it stood. -/
theorem gclSwitch_starts {src : Requester} {x : Fin 6} (hs : s.inOperation = true) (hl : gateLocked s x = false)
    (h : s.flag (F.GCL_L_CTRL_SWITCH x) = false) :
    exec (.gclSwitch src x) s = .next (startSwitch (s.setFld (F.GCL_L_CTRL_SWITCH x) 1) x) := by
  have himp : ∀ x : Fin 6, implemented (A.GCL_L_CTRL x) = true := by decide +kernel
  refine (congrArg Host.Outcome.next (gateWrite_inOperation hs (himp x) src _)).trans (congrArg Host.Outcome.next ?_)
  have hgo : startGo s (A.GCL_L_CTRL x) switchBit = s.setFld (F.GCL_L_CTRL_SWITCH x) 1 :=
    startGo_setFld (f := F.GCL_L_CTRL_SWITCH x) rfl (by simp) h
  simp only [hl, Bool.false_eq_true, if_false, writeSwitch, h, hgo]

/-- What a started switch sees of the state before SWITCH was set. -/
theorem switchSet_sees (x : Fin 6) :
    adminParams (s.setFld (F.GCL_L_CTRL_SWITCH x) 1) x = adminParams s x ∧
      operBank (s.setFld (F.GCL_L_CTRL_SWITCH x) 1) x = operBank s x ∧
      ∀ len cycle bank, gateReject (s.setFld (F.GCL_L_CTRL_SWITCH x) 1) x len cycle bank = gateReject s x len cycle bank := by
  have honly := onlyRegs_setFld s (F.GCL_L_CTRL_SWITCH x) 1
  refine ⟨adminParams_congr honly, ?_, fun len cycle bank => ?_⟩
  · exact State.fld_setFld_apart s (F.GCL_L_CTRL_SWITCH x) (F.GCL_L_CTRL_OPER_BANK x) 1 (by simp) (Or.inr (Or.inl (by simp)))
  · exact gateReject_congr (s := s) (t := s.setFld (F.GCL_L_CTRL_SWITCH x) 1) (State.gate_of_gates rfl x) (honly.outside_gcl (fun a ha => by rw [List.mem_singleton.mp ha]; exact gclCtrl_page x)) len cycle bank

/-- The switch that an administrative bank asks for. -/
def askedSwitch (s : State) (x : Nat) : GateSwitch :=
  ⟨(adminParams s x).1, (adminParams s x).2.1, (adminParams s x).2.2, switchInstant (adminParams s x).2.1 (adminParams s x).2.2 s.nowNs⟩

theorem setGate_setFld_spec (f : Fld) (v x : Nat) (g : GateList) :
    (∀ e, ((s.setFld f v).setGate x g).flag e = (s.setFld f v).flag e) ∧ OnlyRegs s ((s.setFld f v).setGate x g) [f.addr] ∧
      (∀ y, ((s.setFld f v).setGate x g).gate y = if y = x then g else s.gate y) ∧
      (s.setFld f v).setGate x g = { s with regs := ((s.setFld f v).setGate x g).regs, gates := ((s.setFld f v).setGate x g).gates } := by
  refine ⟨fun _ => rfl, fun a ha => onlyRegs_setFld s f v a ha, fun y => ?_, rfl⟩
  split
  · subst y
    exact State.gate_setGate_self _ _
  · exact State.gate_setGate_ne _ ‹_›

theorem startSwitch_held {x : Fin 6} (h : gateReject s x (adminParams s x).1 (adminParams s x).2.1 (1 - operBank s x) = none) :
    startSwitch (s.setFld (F.GCL_L_CTRL_SWITCH x) 1) x =
      (s.setFld (F.GCL_L_CTRL_SWITCH x) 1).setGate x { s.gate x with switch := some (askedSwitch s x) } := by
  obtain ⟨hparams, hbank, hreject⟩ := switchSet_sees (s := s) x
  simp only [startSwitch, hparams, hbank, hreject, h]
  rfl

/-- A list refused: SWITCH clears, the refusal is counted and reported (R489). -/
theorem startSwitch_refused {x : Fin 6} {r : Nat × Nat}
    (h : gateReject s x (adminParams s x).1 (adminParams s x).2.1 (1 - operBank s x) = some r) :
    ∃ data, startSwitch (s.setFld (F.GCL_L_CTRL_SWITCH x) 1) x =
      (setCause (((s.setFld (F.GCL_L_CTRL_SWITCH x) 1).setFld (F.GCL_L_CTRL_SWITCH x) 0).count F.GCL_REJECTS_COUNT 1) 0x23 1).event
        0x23 x 0x0E01 2 data := by
  obtain ⟨hparams, hbank, hreject⟩ := switchSet_sees (s := s) x
  simp only [startSwitch, hparams, hbank, hreject, h]
  exact ⟨_, rfl⟩

theorem switchRefused_spec (x : Fin 6) (data : List Byte) (t : State)
    (ht : t = (setCause (((s.setFld (F.GCL_L_CTRL_SWITCH x) 1).setFld (F.GCL_L_CTRL_SWITCH x) 0).count F.GCL_REJECTS_COUNT 1) 0x23 1).event
        0x23 x 0x0E01 2 data) :
    t.flag (F.GCL_L_CTRL_SWITCH x) = false ∧ t.gates = s.gates ∧ t.fld F.GCL_REJECTS_COUNT = satAdd 32 (s.fld F.GCL_REJECTS_COUNT) 1 ∧
      causeSet t 0x23 1 = true ∧ lastEvent t 0x23 0x0E01 ∧ OnlyRegs s t [A.GCL_L_CTRL x, A.GCL_REJECTS, 0x23010] := by
  obtain ⟨-, -, -, hapart⟩ := gclOper_apart x
  obtain ⟨hrejects, -, -⟩ := hapart A.GCL_REJECTS (by decide)
  obtain ⟨hcauses, -, -⟩ := hapart 0x23010 (by decide)
  have hset := (onlyRegs_setFld s (F.GCL_L_CTRL_SWITCH x) 1).trans (onlyRegs_setFld _ (F.GCL_L_CTRL_SWITCH x) 0)
  have hclear : ((s.setFld (F.GCL_L_CTRL_SWITCH x) 1).setFld (F.GCL_L_CTRL_SWITCH x) 0).flag (F.GCL_L_CTRL_SWITCH x) = false :=
    State.flag_setFld_zero _ (by simp)
  have hgates : ((s.setFld (F.GCL_L_CTRL_SWITCH x) 1).setFld (F.GCL_L_CTRL_SWITCH x) 0).gates = s.gates := rfl
  generalize (s.setFld (F.GCL_L_CTRL_SWITCH x) 1).setFld (F.GCL_L_CTRL_SWITCH x) 0 = u at hset hclear hgates ht
  have hcause := onlyRegs_setCause (u.count F.GCL_REJECTS_COUNT 1) 0x23 1
  have htold : OnlyRegs u t [A.GCL_REJECTS, 0x23010] := by
    rw [ht]
    exact ((onlyRegs_count u F.GCL_REJECTS_COUNT 1).trans hcause).trans (onlyRegs_event _ 0x23 x 0x0E01 2 data)
  refine ⟨(htold.flag (by simp [hrejects.symm, hcauses.symm])).trans hclear, ?_, ?_, ?_, by rw [ht]; exact lastEvent_event _ _ _ _ _,
    (hset.trans htold).mono (by simp)⟩
  · rw [ht]
    exact (setCause_gates _ _ _).trans ((State.count_gates _ _ _).trans hgates)
  · have hself : t.fld F.GCL_REJECTS_COUNT = satAdd 32 (u.fld F.GCL_REJECTS_COUNT) 1 := by
      rw [ht]
      exact (hcause.fld (by decide)).trans (State.fld_count_self _ F.GCL_REJECTS_COUNT 1 (by decide))
    rw [hself, show u.fld F.GCL_REJECTS_COUNT = s.fld F.GCL_REJECTS_COUNT from hset.fld (by simp [hrejects])]
  · rw [ht]
    exact (causeSet_setCause _ 0x23 1 1 (by decide)).trans (Bool.or_true _)

/-- The gates that apply now are shown (R487, R488). -/
theorem gatesRefresh_spec (x : Nat) :
    (gatesRefresh s x).fld (F.GCL_L_OPER_STATE_ENTRY x) = (gatesNow s x).1 % 256 ∧
      (gatesRefresh s x).fld (F.GCL_L_OPER_STATE_GATES x) = (gatesNow s x).2 % 256 ∧
      OnlyRegs s (gatesRefresh s x) [A.GCL_L_OPER_STATE x] ∧
      gatesRefresh s x = { s with regs := (gatesRefresh s x).regs, gates := (gatesRefresh s x).gates } ∧
      ∃ held, (gatesRefresh s x).gate x = { s.gate x with held := held } := by
  unfold gatesRefresh
  simp only
  generalize gatesNow s x = n
  generalize (s.gate x).held.filter _ = held
  have hself := State.gate_setGate_self (s := s) x { s.gate x with held := held }
  have hframe : s.setGate x { s.gate x with held := held } = { s with gates := (s.setGate x { s.gate x with held := held }).gates } := rfl
  generalize hu : s.setGate x { s.gate x with held := held } = u at hself hframe ⊢
  have hregs : u.regs = s.regs := by rw [hframe]
  have honly : OnlyRegs s u [] := fun a _ => State.reg_congr hregs a
  refine ⟨State.fld_setFld_self _ (F.GCL_L_OPER_STATE_ENTRY x) _ (by simp), ?_, ?_, ?_, held, ?_⟩
  · rw [State.fld_setFld_apart _ (F.GCL_L_OPER_STATE_ENTRY x) (F.GCL_L_OPER_STATE_GATES x) _ (by simp) (Or.inr (Or.inr (by simp)))]
    exact State.fld_setFld_self u (F.GCL_L_OPER_STATE_GATES x) _ (by simp)
  · exact ((honly.trans (onlyRegs_setFld u (F.GCL_L_OPER_STATE_GATES x) n.2)).trans (onlyRegs_setFld _ (F.GCL_L_OPER_STATE_ENTRY x) n.1)).mono (by
      intro a ha
      simpa using ha)
  · have hset : ∀ (f g : Fld) (v w : Nat), (u.setFld f v).setFld g w = { u with regs := ((u.setFld f v).setFld g w).regs } :=
      fun _ _ _ _ => rfl
    have hgates : ∀ (f g : Fld) (v w : Nat), ((u.setFld f v).setFld g w).gates = u.gates := fun _ _ _ _ => rfl
    refine (hset _ _ _ _).trans ?_
    rw [hgates]
    generalize ((u.setFld _ _).setFld _ _).regs = r
    rw [hframe]
  · exact hself

/-- The banks of list `x` exchanged and shown, before the change is counted. -/
def switchShown (s : State) (x : Nat) (w : GateSwitch) : State :=
  (((s.setGate x { s.gate x with len := w.len, cycle := w.cycle, base := w.base, switch := none, unfit := false }).setFld
    (F.GCL_L_CTRL_OPER_BANK x) (1 - operBank s x)).setFld (F.GCL_L_CTRL_LOADED x) 1).setFld (F.GCL_L_OPER_CYCLE_CYCLE x)
    (if isPortList x then w.cycle else w.cycle / 1000)

/-- The change counted and reported. -/
def switchTold (s : State) (x : Nat) (data : List Byte) : State :=
  (setCause (s.count F.GCL_SWITCHES_COUNT 1) 0x23 0).event 0x23 x 0x0E00 0 data

theorem switchShown_spec (x : Fin 6) (w : GateSwitch) :
    operBank (switchShown s x w) x = 1 - operBank s x ∧ (switchShown s x w).flag (F.GCL_L_CTRL_LOADED x) = true ∧
      (switchShown s x w).fld (F.GCL_L_OPER_CYCLE_CYCLE x) = (if x.val < 2 then w.cycle else w.cycle / 1000) % 2 ^ 32 ∧
      (switchShown s x w).gate x =
        { s.gate x with len := w.len, cycle := w.cycle, base := w.base, switch := none, unfit := false } ∧
      (switchShown s x w).bus = s.bus ∧ OnlyRegs s (switchShown s x w) [A.GCL_L_CTRL x, A.GCL_L_OPER_CYCLE x] := by
  obtain ⟨-, hcycle, -, -⟩ := gclOper_apart x
  unfold switchShown
  have hself := State.gate_setGate_self (s := s) x
    { s.gate x with len := w.len, cycle := w.cycle, base := w.base, switch := none, unfit := false }
  have hregs : (s.setGate x { s.gate x with len := w.len, cycle := w.cycle, base := w.base, switch := none, unfit := false }).regs = s.regs := rfl
  have hbus : (s.setGate x { s.gate x with len := w.len, cycle := w.cycle, base := w.base, switch := none, unfit := false }).bus = s.bus := rfl
  generalize s.setGate x _ = u at hself hregs hbus ⊢
  generalize hv : (if isPortList x then w.cycle else w.cycle / 1000) = v
  have hbank : (1 - operBank s x) % 2 = 1 - operBank s x := Nat.mod_eq_of_lt (by omega)
  have honly : OnlyRegs s u [] := fun a _ => State.reg_congr hregs a
  refine ⟨?_, ?_, ?_, hself, hbus, ?_⟩
  · refine (State.fld_setFld_apart _ (F.GCL_L_OPER_CYCLE_CYCLE x) (F.GCL_L_CTRL_OPER_BANK x) _ (by simp) (Or.inl hcycle.symm)).trans
      ((State.fld_setFld_apart _ (F.GCL_L_CTRL_LOADED x) (F.GCL_L_CTRL_OPER_BANK x) _ (by simp) (Or.inr (Or.inr (by simp)))).trans ?_)
    rw [State.fld_setFld_self _ _ _ (by simp)]
    exact hbank
  · exact (State.flag_setFld_apart _ (f := F.GCL_L_OPER_CYCLE_CYCLE x) (g := F.GCL_L_CTRL_LOADED x) _ (by simp) (Or.inl hcycle.symm)).trans
      (State.flag_setFld_one _ rfl (by simp))
  · rw [State.fld_setFld_self _ _ _ (by simp), ← hv]
    simp only [isPortList, decide_eq_true_eq]
  · exact (((honly.trans (onlyRegs_setFld u (F.GCL_L_CTRL_OPER_BANK x) _)).trans (onlyRegs_setFld _ (F.GCL_L_CTRL_LOADED x) 1)).trans
      (onlyRegs_setFld _ (F.GCL_L_OPER_CYCLE_CYCLE x) v)).mono (by simp)

theorem switchTold_spec (x : Nat) (data : List Byte) :
    (switchTold s x data).fld F.GCL_SWITCHES_COUNT = satAdd 32 (s.fld F.GCL_SWITCHES_COUNT) 1 ∧ causeSet (switchTold s x data) 0x23 0 = true ∧
      lastEvent (switchTold s x data) 0x23 0x0E00 ∧ (switchTold s x data).gates = s.gates ∧ (switchTold s x data).bus = s.bus ∧
      OnlyRegs s (switchTold s x data) [A.GCL_SWITCHES, 0x23010] := by
  have hcause := onlyRegs_setCause (s.count F.GCL_SWITCHES_COUNT 1) 0x23 0
  refine ⟨(hcause.fld (by decide)).trans (State.fld_count_self _ F.GCL_SWITCHES_COUNT 1 (by decide)), ?_, lastEvent_event _ _ _ _ _, ?_, ?_, ?_⟩
  · refine (causeSet_setCause _ 0x23 0 0 (by decide)).trans (Bool.or_true _)
  · exact (setCause_gates _ _ _).trans (State.count_gates _ _ _)
  · exact (setCause_bus _ _ _).trans (State.count_bus _ _ _)
  · exact ((onlyRegs_count s F.GCL_SWITCHES_COUNT 1).trans hcause).trans (onlyRegs_event _ 0x23 x 0x0E00 0 data)

/-- The list's gates shown anew, with SWITCH cleared. -/
theorem switchDone_spec (x : Fin 6) :
    OnlyRegs s ((gatesRefresh s x).setFld (F.GCL_L_CTRL_SWITCH x) 0) [A.GCL_L_OPER_STATE x, A.GCL_L_CTRL x] ∧
      operBank ((gatesRefresh s x).setFld (F.GCL_L_CTRL_SWITCH x) 0) x = operBank s x ∧
      ((gatesRefresh s x).setFld (F.GCL_L_CTRL_SWITCH x) 0).flag (F.GCL_L_CTRL_LOADED x) = s.flag (F.GCL_L_CTRL_LOADED x) ∧
      ((gatesRefresh s x).setFld (F.GCL_L_CTRL_SWITCH x) 0).flag (F.GCL_L_CTRL_SWITCH x) = false ∧
      ((gatesRefresh s x).setFld (F.GCL_L_CTRL_SWITCH x) 0).log = s.log ∧
      ∃ held, ((gatesRefresh s x).setFld (F.GCL_L_CTRL_SWITCH x) 0).gate x = { s.gate x with held := held } := by
  obtain ⟨-, -, honly, hframe, held, hheld⟩ := gatesRefresh_spec (s := s) x
  obtain ⟨hoper, -, -, -⟩ := gclOper_apart x
  have hctrl : A.GCL_L_CTRL x ∉ [A.GCL_L_OPER_STATE x] := fun hm => hoper (List.mem_singleton.mp hm).symm
  have hbank : operBank (gatesRefresh s x) x = operBank s x := honly.fld (f := F.GCL_L_CTRL_OPER_BANK x) hctrl
  have hloaded : (gatesRefresh s x).flag (F.GCL_L_CTRL_LOADED x) = s.flag (F.GCL_L_CTRL_LOADED x) := honly.flag hctrl
  have hlog : (gatesRefresh s x).log = s.log := by rw [hframe]
  generalize gatesRefresh s x = u at honly hheld hbank hloaded hlog ⊢
  have hplog : (u.setFld (F.GCL_L_CTRL_SWITCH x) 0).log = u.log := State.setFld_log _ _ _
  have hpgates : (u.setFld (F.GCL_L_CTRL_SWITCH x) 0).gates = u.gates := State.setFld_gates _ _ _
  refine ⟨honly.trans (onlyRegs_setFld u (F.GCL_L_CTRL_SWITCH x) 0), ?_, ?_, State.flag_setFld_zero _ (by simp), hplog.trans hlog, held,
    (State.gate_of_gates hpgates x).trans hheld⟩
  · exact (State.fld_setFld_apart u (F.GCL_L_CTRL_SWITCH x) (F.GCL_L_CTRL_OPER_BANK x) 0 (by simp) (Or.inr (Or.inl (by simp)))).trans hbank
  · exact (State.flag_setFld_apart u (f := F.GCL_L_CTRL_SWITCH x) (g := F.GCL_L_CTRL_LOADED x) 0 (by simp) (Or.inr (Or.inl (by simp)))).trans hloaded

theorem takeSwitch_eq {x : Fin 6} {w : GateSwitch} (hw : (s.gate x).switch = some w)
    (hgo : s.bus.goPending.contains (A.GCL_L_CTRL x * 32 + 8) = false) :
    ∃ data, takeSwitch s x = (gatesRefresh (switchTold (switchShown s x w) x data) x).setFld (F.GCL_L_CTRL_SWITCH x) 0 := by
  have htaken : ∃ data, takeSwitch s x =
      if (endGo (gatesRefresh (switchTold (switchShown s x w) x data) x) (A.GCL_L_CTRL x) switchBit).2 then
        startSwitch (endGo (gatesRefresh (switchTold (switchShown s x w) x data) x) (A.GCL_L_CTRL x) switchBit).1 x
      else (endGo (gatesRefresh (switchTold (switchShown s x w) x data) x) (A.GCL_L_CTRL x) switchBit).1 := by
    simp only [takeSwitch, hw]
    exact ⟨_, rfl⟩
  obtain ⟨data, htaken⟩ := htaken
  obtain ⟨-, -, -, -, hshown, -⟩ := switchShown_spec (s := s) x w
  obtain ⟨-, -, -, -, htold, -⟩ := switchTold_spec (s := switchShown s x w) x data
  obtain ⟨-, -, -, hframe, -⟩ := gatesRefresh_spec (s := switchTold (switchShown s x w) x data) x
  have hbus : (gatesRefresh (switchTold (switchShown s x w) x data) x).bus = s.bus := by
    rw [hframe]
    exact htold.trans hshown
  have hend : endGo (gatesRefresh (switchTold (switchShown s x w) x data) x) (A.GCL_L_CTRL x) switchBit =
      ((gatesRefresh (switchTold (switchShown s x w) x data) x).setFld (F.GCL_L_CTRL_SWITCH x) 0, false) :=
    endGo_setFld (f := F.GCL_L_CTRL_SWITCH x) rfl (by simp) (by rw [hbus]; exact hgo)
  exact ⟨data, by rw [htaken, hend, if_neg Bool.false_ne_true]⟩

/-- The switch of a list taken (R490). -/
theorem takeSwitch_spec {x : Fin 6} {w : GateSwitch} (hw : (s.gate x).switch = some w)
    (hgo : s.bus.goPending.contains (A.GCL_L_CTRL x * 32 + 8) = false) :
    operBank (takeSwitch s x) x = 1 - operBank s x ∧ (takeSwitch s x).flag (F.GCL_L_CTRL_LOADED x) = true ∧
      (takeSwitch s x).flag (F.GCL_L_CTRL_SWITCH x) = false ∧
      (((takeSwitch s x).gate x).len, ((takeSwitch s x).gate x).cycle, ((takeSwitch s x).gate x).base, ((takeSwitch s x).gate x).switch,
        ((takeSwitch s x).gate x).unfit) = (w.len, w.cycle, w.base, none, false) ∧
      (takeSwitch s x).fld (F.GCL_L_OPER_CYCLE_CYCLE x) = (if x.val < 2 then w.cycle else w.cycle / 1000) % 2 ^ 32 ∧
      (takeSwitch s x).fld F.GCL_SWITCHES_COUNT = satAdd 32 (s.fld F.GCL_SWITCHES_COUNT) 1 ∧ causeSet (takeSwitch s x) 0x23 0 = true ∧
      lastEvent (takeSwitch s x) 0x23 0x0E00 := by
  obtain ⟨data, htaken⟩ := takeSwitch_eq hw hgo
  rw [htaken]
  obtain ⟨hbank, hloaded, hcycle, hgate, -, honly⟩ := switchShown_spec (s := s) x w
  generalize switchShown s x w = u at hbank hloaded hcycle hgate honly ⊢
  obtain ⟨hcount, hcause, hevent, hgates, -, hregs⟩ := switchTold_spec (s := u) x data
  generalize switchTold u x data = v at hcount hcause hevent hgates hregs ⊢
  obtain ⟨hrest, hbank', hloaded', hclear, hlog, held, hheld⟩ := switchDone_spec (s := v) x
  generalize (gatesRefresh v x).setFld (F.GCL_L_CTRL_SWITCH x) 0 = t at hrest hbank' hloaded' hclear hlog hheld ⊢
  obtain ⟨-, -, -, hapart⟩ := gclOper_apart x
  obtain ⟨hsc, hso, hsy⟩ := hapart A.GCL_SWITCHES (by decide)
  obtain ⟨hic, hio, hiy⟩ := hapart 0x23010 (by decide)
  refine ⟨hbank'.trans (Eq.trans (hregs.fld (f := F.GCL_L_CTRL_OPER_BANK x) (by simp [hsc.symm, hic.symm])) hbank),
    hloaded'.trans ((hregs.flag (by simp [hsc.symm, hic.symm])).trans hloaded), hclear, ?_, ?_, ?_, ?_, lastEvent_of_log hlog hevent⟩
  · rw [hheld, State.gate_of_gates hgates, hgate]
  · exact (hrest.fld (by simp)).trans ((hregs.fld (by simp [hsy.symm, hiy.symm])).trans hcycle)
  · rw [show t.fld F.GCL_SWITCHES_COUNT = v.fld F.GCL_SWITCHES_COUNT from hrest.fld (by simp [hsc, hso]), hcount,
      show u.fld F.GCL_SWITCHES_COUNT = s.fld F.GCL_SWITCHES_COUNT from honly.fld (by simp [hsc, hsy])]
  · rw [causeSet, hrest 0x23010 (by simp [hic, hio])]
    exact hcause

theorem GateList.entry_setEntry (g : GateList) {b c : Nat} (hb : b < 2) (hc : c < 2) (i j : Nat) (w : Word) :
    (g.setEntry b i w).entry c j = if c = b ∧ j = i then w else g.entry c j := by
  rcases (by omega : b = 0 ∨ b = 1) with rfl | rfl <;> rcases (by omega : c = 0 ∨ c = 1) with rfl | rfl <;>
    simp [GateList.setEntry, GateList.entry, Tbl.get_put]

/-- The window advances where `c` asks for it. -/
def winAdvanced (s : State) (c : Bool) : State := if c then s.setFld F.GCL_WIN_SEL_ENTRY (s.fld F.GCL_WIN_SEL_ENTRY + 1) else s

theorem winAdvanced_spec (c : Bool) :
    (winAdvanced s c).gates = s.gates ∧ (winAdvanced s c).out = s.out ∧ OnlyRegs s (winAdvanced s c) [A.GCL_WIN_SEL] ∧
      (winAdvanced s c).fld F.GCL_WIN_SEL_ENTRY = if c then (s.fld F.GCL_WIN_SEL_ENTRY + 1) % 256 else s.fld F.GCL_WIN_SEL_ENTRY := by
  cases c with
  | false => exact ⟨rfl, rfl, fun _ _ => rfl, rfl⟩
  | true => exact ⟨rfl, rfl, onlyRegs_setFld s F.GCL_WIN_SEL_ENTRY _, State.fld_setFld_self s F.GCL_WIN_SEL_ENTRY _ (by decide)⟩

/-- The entry the window selects exists (R487). -/
def winInRange (s : State) : Prop := s.fld F.GCL_WIN_SEL_LIST < 2 ∨ s.fld F.GCL_WIN_SEL_ENTRY < 64

theorem winInRange.eq (h : winInRange s) :
    (!isPortList (s.fld F.GCL_WIN_SEL_LIST) && decide (64 ≤ s.fld F.GCL_WIN_SEL_ENTRY)) = false := by
  rw [Bool.and_eq_false_iff]
  refine h.imp (fun h => ?_) (fun h => ?_)
  · rw [isPortList, decide_eq_true h]
    rfl
  · exact decide_eq_false (by omega)

theorem winData_read (h : winInRange s) (src : Requester) :
    winData s src none = winAdvanced (s.send (.readData src A.GCL_WIN_DATA
      ((s.gate (s.fld F.GCL_WIN_SEL_LIST)).entry (s.fld F.GCL_WIN_SEL_BANK) (s.fld F.GCL_WIN_SEL_ENTRY))))
      (s.flag F.GCL_WIN_CTRL_INC && !(src = .jtag)) := by
  simp only [winData, h.eq, Bool.false_eq_true, if_false, Option.isNone_none, Bool.and_true]
  rfl

theorem winData_write {src : Requester} (h : winInRange s) (w : Word) (hl : gateLocked s (s.fld F.GCL_WIN_SEL_LIST) = false)
    (hb : s.fld F.GCL_WIN_SEL_BANK ≠ operBank s (s.fld F.GCL_WIN_SEL_LIST))
    (hs : s.flag (F.GCL_L_CTRL_SWITCH (s.fld F.GCL_WIN_SEL_LIST)) = false) :
    winData s src (some w) = winAdvanced (s.setGate (s.fld F.GCL_WIN_SEL_LIST) ((s.gate (s.fld F.GCL_WIN_SEL_LIST)).setEntry
      (s.fld F.GCL_WIN_SEL_BANK) (s.fld F.GCL_WIN_SEL_ENTRY) (entryWord (s.fld F.GCL_WIN_SEL_LIST) w))) (s.flag F.GCL_WIN_CTRL_INC) := by
  simp only [winData, h.eq, hl, hb, hs, Bool.false_eq_true, if_false, Option.isNone_some, Bool.and_false, Bool.not_false, Bool.and_true,
    decide_false, Bool.or_self]
  rfl
end

/-- Settles O55, list by list and register by register. -/
theorem shapersStatisticsAndGateListsRun : Obligations.ShapersStatisticsAndGateListsRun := by
  unfold Obligations.ShapersStatisticsAndGateListsRun
  refine ⟨fun s hs => ⟨?_, ?_⟩, fun s hs => ⟨fun hno => ?_, fun hyes hnew => ?_⟩, fun s src hs => ⟨fun h => ?_, ?_⟩, fun s q hq hgo => ?_,
    fun s src x hs hl h => ⟨fun hok => ?_, fun r hr => ?_⟩, fun s x w hs hw hat hgo => ?_, fun s x hs => ?_,
    fun s src x b i hs hx hb hi hin => ?_⟩
  · exact ⟨tssRefill s, congrArg Host.Outcome.next (if_pos hs), tssRefill_queue s, tssRefill_cls s, tssRefill_policer s, rfl⟩
  · obtain ⟨hframe, hk⟩ := foldl_radioTick s 16
    exact ⟨_, congrArg Host.Outcome.next (if_pos hs), hframe, fun k hlt => (hk k).trans (if_pos hlt)⟩
  · exact congrArg Host.Outcome.next (if_neg (by rw [hno, Bool.and_false, Bool.false_and]; exact Bool.false_ne_true))
  · obtain ⟨hdtm, hcode, hcause, honly⟩ := sampleAll_spec (s := { s with dtm := { s.dtm with sampledAt := some s.dev.upCycles } })
    refine ⟨_, congrArg Host.Outcome.next (if_pos ?_), by rw [hdtm], fun q => sampleAll_queue q, hcode, hcause, honly⟩
    rw [hs, hyes, Bool.true_and, Bool.true_and]
    exact bne_iff_ne.mpr hnew
  · exact ⟨_, congrArg Host.Outcome.next (gateWrite_inOperation hs (by decide +kernel) src snapStart), snapStart_spec h⟩
  · refine ⟨_, congrArg Host.Outcome.next (gateWrite_inOperation hs (by decide +kernel) src clearStats), fun q => ?_, rfl⟩
    split
    · subst q
      exact State.queue_setQueue_self _ _
    · exact State.queue_setQueue_ne _ ‹_›
  · obtain ⟨hsamples, hdmin, hdmax, hlmin, hlmax, hbins, hclear, hframe⟩ := snapShown_spec (s := s) (s.queue q)
    have hdone := stSnapDone_eq hq hgo
    generalize snapShown s (s.queue q) = u at *
    exact ⟨_, hdone, hsamples, hdmin, hdmax, hlmin, hlmax, hbins, rfl, hclear, by rw [hframe]⟩
  · obtain ⟨hflag, honly, hgate, hframe⟩ := setGate_setFld_spec (s := s) (F.GCL_L_CTRL_SWITCH x) 1 x
      { s.gate x with switch := some (askedSwitch s x) }
    refine ⟨_, (gclSwitch_starts hs hl h).trans (congrArg Host.Outcome.next (startSwitch_held hok)),
      (hflag _).trans (State.flag_setFld_one s rfl (by simp)), fun y => ?_, honly, hframe⟩
    rw [hgate]
    split
    · subst y
      rfl
    · rfl
  · obtain ⟨data, hdata⟩ := startSwitch_refused hr
    refine ⟨_, (gclSwitch_starts hs hl h).trans (congrArg Host.Outcome.next hdata), ?_⟩
    exact switchRefused_spec x data _ rfl
  · have hexec : exec (.gclSwitchInstant x) s = .next (takeSwitch s x) := by
      simp only [exec, execGclSwitchInstant, hw, hs, decide_eq_true hat, Bool.and_self, if_true]
    exact ⟨_, hexec, takeSwitch_spec hw hgo⟩
  · obtain ⟨hentry, hgates, honly, hframe, -⟩ := gatesRefresh_spec (s := s) x
    exact ⟨_, congrArg Host.Outcome.next (if_pos hs), hentry, hgates, honly, hframe⟩
  · subst hx hb hi
    refine ⟨?_, fun w hl hbank hsw => ?_⟩
    · refine ⟨_, congrArg Host.Outcome.next ((gateRead_inOperation hs (by decide +kernel) src _).trans (winData_read hin src)), ?_⟩
      generalize (s.gate (s.fld F.GCL_WIN_SEL_LIST)).entry _ _ = v
      obtain ⟨hgates, hout, honly, hadvance⟩ := winAdvanced_spec (s := s.send (.readData src A.GCL_WIN_DATA v))
        (s.flag F.GCL_WIN_CTRL_INC && !(src = .jtag))
      refine ⟨hout, hgates, honly, hadvance.trans ?_⟩
      by_cases hj : src = .jtag <;> simp [hj]
    · refine ⟨_, congrArg Host.Outcome.next ((gateWrite_inOperation hs (by decide +kernel) src _).trans (winData_write hin w hl hbank hsw)), ?_⟩
      have hb2 : s.fld F.GCL_WIN_SEL_BANK < 2 := bitsOf_lt _ _ _
      have hself := State.gate_setGate_self (s := s) (s.fld F.GCL_WIN_SEL_LIST) ((s.gate (s.fld F.GCL_WIN_SEL_LIST)).setEntry
        (s.fld F.GCL_WIN_SEL_BANK) (s.fld F.GCL_WIN_SEL_ENTRY) (entryWord (s.fld F.GCL_WIN_SEL_LIST) w))
      obtain ⟨hgates, hout, honly, hadvance⟩ := winAdvanced_spec (s := s.setGate (s.fld F.GCL_WIN_SEL_LIST)
        ((s.gate (s.fld F.GCL_WIN_SEL_LIST)).setEntry (s.fld F.GCL_WIN_SEL_BANK) (s.fld F.GCL_WIN_SEL_ENTRY)
          (entryWord (s.fld F.GCL_WIN_SEL_LIST) w))) (s.flag F.GCL_WIN_CTRL_INC)
      refine ⟨fun c j hc => ?_, fun y hy => ?_, hout, honly, hadvance⟩
      · rw [State.gate_of_gates hgates, hself]
        exact GateList.entry_setEntry _ hb2 hc _ j _
      · rw [State.gate_of_gates hgates]
        exact State.gate_setGate_ne _ hy

end Sys2Proof.Machine
end

section
/-!
PROOFS. The heats of the Cox unit (20_cox_temporal_budgets.md, Heats; Balance, charges and throttling).
-/
namespace Sys2Proof.Machine

-- One proof after another: side by side, the threads of so long a text want more memory than the check grants.
set_option Elab.async false

/-! ### What overruns and charges leave -/

/-- The balances, whether the floors stand, and the registers below those of the accounts' use, but for the causes and the throttling. -/
structure AccountsKept (s t : State) : Prop where
  balance : t.cox.balance = s.cox.balance
  used : t.cox.used = s.cox.used
  floored : t.cox.floored = s.cox.floored
  running : t.cox.running = s.cox.running
  reg : ∀ r, r < A.COX_ACCT_STAT 0 → r ≠ 0x32010 → r ≠ A.COX_THROTTLED → t.reg r = s.reg r

section
variable {s t u : State}

theorem AccountsKept.refl (s : State) : AccountsKept s s := ⟨rfl, rfl, rfl, rfl, fun _ _ _ _ => rfl⟩

theorem AccountsKept.trans (h : AccountsKept s t) (h' : AccountsKept t u) : AccountsKept s u :=
  ⟨h'.balance.trans h.balance, h'.used.trans h.used, h'.floored.trans h.floored, h'.running.trans h.running,
    fun r hr hi ht => (h'.reg r hr hi ht).trans (h.reg r hr hi ht)⟩

theorem AccountsKept.fld (h : AccountsKept s t) {f : Fld} (hf : f.addr < A.COX_ACCT_STAT 0) (hi : f.addr ≠ 0x32010 := by decide)
    (ht : f.addr ≠ A.COX_THROTTLED := by decide) : t.fld f = s.fld f := State.fld_congr (h.reg _ hf hi ht)

theorem AccountsKept.flag (h : AccountsKept s t) {f : Fld} (hf : f.addr < A.COX_ACCT_STAT 0) (hi : f.addr ≠ 0x32010 := by decide)
    (ht : f.addr ≠ A.COX_THROTTLED := by decide) : t.flag f = s.flag f := by
  rw [State.flag, h.fld hf hi ht, State.flag]

theorem AccountsKept.coxBalance (h : AccountsKept s t) (a : Nat) : coxBalance t a = coxBalance s a := by
  rw [Machine.coxBalance, h.balance, Machine.coxBalance]

/-- Registers of the use and of the overruns, of the causes and of the throttling. -/
theorem accountsKept_of_only {as : List Nat} (h : OnlyRegs s t as)
    (has : ∀ r ∈ as, A.COX_ACCT_STAT 0 ≤ r ∨ r = 0x32010 ∨ r = A.COX_THROTTLED) (hb : t.cox.balance = s.cox.balance) (hu : t.cox.used = s.cox.used)
    (hf : t.cox.floored = s.cox.floored) (hr : t.cox.running = s.cox.running) : AccountsKept s t :=
  ⟨hb, hu, hf, hr, fun r hlow hcause hthrottled => h r (fun hm => by
    rcases has r hm with h | h | h
    · exact absurd hlow (by omega)
    · exact hcause h
    · exact hthrottled h)⟩

theorem accountsKept_setCause (b : Nat) : AccountsKept s (setCause s 0x32 b) :=
  accountsKept_of_only (onlyRegs_setCause s 0x32 b) (fun r hr => Or.inr (Or.inl (List.mem_singleton.mp hr))) (by simp) (by simp) (by simp) (by simp)

theorem accountsKept_throttled (w : Word) : AccountsKept s (s.setReg A.COX_THROTTLED w) :=
  accountsKept_of_only (onlyRegs_setReg s _ w) (fun r hr => Or.inr (Or.inr (List.mem_singleton.mp hr))) (by simp) (by simp) (by simp) (by simp)

theorem accountsKept_setFld {f : Fld} (v : Nat) (h : A.COX_ACCT_STAT 0 ≤ f.addr) : AccountsKept s (s.setFld f v) :=
  accountsKept_of_only (onlyRegs_setFld s f v) (fun r hr => Or.inl (by rw [List.mem_singleton.mp hr]; exact h)) (by simp) (by simp) (by simp) (by simp)

theorem accountsKept_event (sub code sev : Nat) (data : List Byte) : AccountsKept s (s.event 0x32 sub code sev data) :=
  ⟨rfl, rfl, rfl, rfl, fun _ _ _ _ => rfl⟩

theorem AccountsKept.ite {c : Prop} [Decidable c] {x y : State} (hx : AccountsKept s x) (hy : AccountsKept s y) :
    AccountsKept s (if c then x else y) := by
  split
  · exact hx
  · exact hy

theorem coxAddr (k : Nat) : A.COX_ACCT_CFG k = 0x32040 + 4 * k ∧ A.COX_ACCT_STAT k = 0x320C0 + 4 * k ∧ A.COX_ACCT_OVR k = 0x32140 + 4 * k :=
  ⟨rfl, rfl, rfl⟩

theorem accountsKept_coxOverrun (a : Nat) : AccountsKept s (coxOverrun s a) := by
  have haddr := coxAddr a
  have hzero := coxAddr 0
  unfold coxOverrun
  refine AccountsKept.ite (AccountsKept.refl s) ?_
  have hcounted : ∀ l, AccountsKept s { s with cox := { s.cox with counted := l } } := fun _ => ⟨rfl, rfl, rfl, rfl, fun _ _ _ _ => rfl⟩
  have hcount : ∀ x : State, AccountsKept x (x.count (F.COX_ACCT_OVR_COUNT a) 1) := fun x =>
    accountsKept_setFld _ (show A.COX_ACCT_STAT 0 ≤ A.COX_ACCT_OVR a by omega)
  have hthrottled : ∀ (x : State) (c : Bool) w, AccountsKept x (if c then x.setReg A.COX_THROTTLED w else x) := fun x c w =>
    AccountsKept.ite (accountsKept_throttled w) (AccountsKept.refl x)
  have hcause : ∀ (x : State) (c : Prop) [Decidable c] b, AccountsKept x (if c then setCause x 0x32 b else x) := fun x c _ b =>
    AccountsKept.ite (accountsKept_setCause b) (AccountsKept.refl x)
  have htold : ∀ (x : State) l sev data, AccountsKept x (({ x with cox := { x.cox with toldAt := l } } : State).event 0x32 0 0x1400 sev data) :=
    fun _ _ _ _ => ⟨rfl, rfl, rfl, rfl, fun _ _ _ _ => rfl⟩
  exact AccountsKept.trans (AccountsKept.trans (AccountsKept.trans (AccountsKept.trans ((hcounted _).trans (hcount _)) (hthrottled _ _ _))
    (hcause _ _ _)) (hcause _ _ _)) (AccountsKept.ite (AccountsKept.refl _) (htold _ _ _ _))

/-- A charge leaves the unit running as it was and the registers that an overrun leaves. -/
structure ChargeKept (s t : State) : Prop where
  running : t.cox.running = s.cox.running
  reg : ∀ r, r < A.COX_ACCT_STAT 0 → r ≠ 0x32010 → r ≠ A.COX_THROTTLED → t.reg r = s.reg r

theorem ChargeKept.trans (h : ChargeKept s t) (h' : ChargeKept t u) : ChargeKept s u :=
  ⟨h'.running.trans h.running, fun r hr hi ht => (h'.reg r hr hi ht).trans (h.reg r hr hi ht)⟩

theorem AccountsKept.charge (h : AccountsKept s t) : ChargeKept s t := ⟨h.running, h.reg⟩

theorem chargeKept_coxCharge (a n : Nat) : ChargeKept s (coxCharge s a n) := by
  have hrefl : ChargeKept s s := (AccountsKept.refl s).charge
  have hdebit : ∀ (x : State) a n, ChargeKept x (coxDebit x a n) := fun _ _ _ => ⟨rfl, fun _ _ _ _ => rfl⟩
  unfold coxCharge
  split
  · exact hrefl
  · simp only
    split
    · split
      · have hover : ∀ k, ChargeKept s (coxOverrun (coxDebit (coxDebit s a n) (2 * ((a - 24) % 4) + 1) k) a) := fun k =>
          ((hdebit s a n).trans (hdebit _ _ _)).trans (accountsKept_coxOverrun a).charge
        split
        · exact (hover _).trans (accountsKept_coxOverrun _).charge
        · exact hover _
      · exact hdebit s a n
    · split
      · exact (hdebit s a n).trans (accountsKept_coxOverrun a).charge
      · exact hdebit s a n

/-- The charges of engines and fabric. -/
theorem charges_spec (charges : List (Fin 32 × Nat)) (s : State) :
    ChargeKept s (charges.foldl (fun t c => coxCharge t c.1 c.2) s) ∧
      Touches [.regs, .host, .out, .log, .cox] [0x32] s (charges.foldl (fun t c => coxCharge t c.1 c.2) s) := by
  refine ⟨?_, Touches.foldl (fun t c _ => touches_coxCharge c.1.isLt c.2) s⟩
  induction charges generalizing s with
  | nil => exact (AccountsKept.refl s).charge
  | cons c cs ih => exact (chargeKept_coxCharge c.1 c.2).trans (ih _)

/-! ### The renewal of the accounts (R649–R654) -/

theorem accountsKept_coxFloors (h : Nat) : AccountsKept s (coxFloors s h) := by
  have hfold : ∀ (l : List Nat) (x : State),
      AccountsKept x (l.foldl (fun (t : State) a => t.setFld (F.COX_ACCT_STAT_FLOOR a) (coxFloor t h a)) x) := by
    intro l
    induction l with
    | nil => exact AccountsKept.refl
    | cons a l ih =>
      intro x
      have haddr := coxAddr a
      have hzero := coxAddr 0
      exact (accountsKept_setFld _ (show A.COX_ACCT_STAT 0 ≤ A.COX_ACCT_STAT a by omega)).trans (ih _)
  unfold coxFloors
  exact AccountsKept.ite ((hfold _ s).trans ((accountsKept_event _ _ _ _).trans (accountsKept_setCause 2))) (hfold _ s)

theorem touches_coxFloors (h : Nat) : Touches [.regs, .host, .out, .log] [0x32] s (coxFloors s h) := by
  have hfold : Touches [.regs] [0x32] s
      ((((List.range 8).map (· + 24))).foldl (fun (t : State) a => t.setFld (F.COX_ACCT_STAT_FLOOR a) (coxFloor t h a)) s) :=
    Touches.foldl (fun t a ha => touches_setFld_of _ _ (by revert a; decide)) s
  unfold coxFloors
  exact Touches.ite (fun _ => (hfold.mono.trans (touches_event (gs := []) _ _ _ _ _).mono).trans (touches_setCause 0x32 2).mono) (fun _ => hfold.mono)

/-- The balance of an account for a new heat, with nothing used. -/
def coxStored (s : State) (a : Nat) (b : Int) : State :=
  { s with cox := { s.cox with balance := Tbl.put (fun _ => 0) s.cox.balance a b, used := Tbl.put (fun _ => 0) s.cox.used a 0 } }

theorem coxStored_spec (a : Nat) (b : Int) :
    Touches [.cox] [] s (coxStored s a b) ∧ (coxStored s a b).regs = s.regs ∧ (coxStored s a b).cox.floored = s.cox.floored ∧
      (coxStored s a b).cox.running = s.cox.running ∧ (∀ k, coxUsed (coxStored s a b) k = if k = a then 0 else coxUsed s k) ∧
      ∀ k, coxBalance (coxStored s a b) k = if k = a then b else coxBalance s k :=
  ⟨touches_parts [.cox] rfl, rfl, rfl, rfl, fun k => Tbl.get_put (fun _ => 0) s.cox.used a k 0,
    fun k => Tbl.get_put (fun _ => 0) s.cox.balance a k b⟩

/-- An account renewed, before it is throttled or released. -/
def coxRenewed (s : State) (a cap : Nat) : State :=
  let u := (s.setFld (F.COX_ACCT_STAT_LAST_USE a) (if coxCapacity s a = 0 then 0 else min 65535 (coxUsed s a * 1024 / coxCapacity s a)))
  let v := u.setFld (F.COX_ACCT_CFG_EFFECTIVE a) (coxEffective u a)
  coxStored v a (min (coxBalance v a) 0 + ((v.fld (F.COX_ACCT_CFG_EFFECTIVE a) * cap / 1024 : Nat) : Int))

/-- The account throttled or released. -/
def coxSettled (s : State) (a : Nat) : State :=
  if 0 < coxBalance s a then s.setReg A.COX_THROTTLED (s.reg A.COX_THROTTLED &&& ~~~(BitVec.ofNat 32 (2 ^ a)))
  else if coxReserved a then s else coxOverrun s a

theorem coxRenew_eq (a cap : Nat) : coxRenew s a cap = coxSettled (coxRenewed s a cap) a := by
  have hbalance : ∀ (v : State) (b : Int), coxBalance (coxStored v a b) a = b := fun v b => by
    obtain ⟨-, -, -, -, -, h⟩ := coxStored_spec (s := v) a b
    rw [h, if_pos rfl]
  unfold coxRenew coxSettled coxRenewed
  simp only [hbalance]
  rfl

theorem accountsKept_coxSettled (a : Nat) : AccountsKept s (coxSettled s a) :=
  AccountsKept.ite (accountsKept_throttled _) (AccountsKept.ite (AccountsKept.refl s) (accountsKept_coxOverrun a))

/-- What the renewal of account `a` leaves and shows. -/
theorem coxRenewed_spec {a : Nat} (cap : Nat) (ha : a < 32) :
    (coxRenewed s a cap).cox.floored = s.cox.floored ∧ (coxRenewed s a cap).cox.running = s.cox.running ∧
      coxUsed (coxRenewed s a cap) a = 0 ∧ coxBalance (coxRenewed s a cap) a =
        min (coxBalance s a) 0 + (((coxRenewed s a cap).fld (F.COX_ACCT_CFG_EFFECTIVE a) * cap / 1024 : Nat) : Int) ∧
      (∀ k, k ≠ a → coxUsed (coxRenewed s a cap) k = coxUsed s k ∧ coxBalance (coxRenewed s a cap) k = coxBalance s k) ∧
      (∀ r, r < A.COX_ACCT_STAT 0 → r ≠ A.COX_ACCT_CFG a → (coxRenewed s a cap).reg r = s.reg r) := by
  have haddr := coxAddr a
  have hzero := coxAddr 0
  unfold coxRenewed
  simp only
  generalize (if coxCapacity s a = 0 then 0 else min 65535 (coxUsed s a * 1024 / coxCapacity s a)) = use
  generalize coxEffective _ a = e
  have honly := (onlyRegs_setFld s (F.COX_ACCT_STAT_LAST_USE a) use).trans
    (onlyRegs_setFld (s.setFld (F.COX_ACCT_STAT_LAST_USE a) use) (F.COX_ACCT_CFG_EFFECTIVE a) e)
  have hcox : ((s.setFld (F.COX_ACCT_STAT_LAST_USE a) use).setFld (F.COX_ACCT_CFG_EFFECTIVE a) e).cox = s.cox := by simp
  generalize (s.setFld (F.COX_ACCT_STAT_LAST_USE a) use).setFld (F.COX_ACCT_CFG_EFFECTIVE a) e = u at honly hcox ⊢
  have hused : ∀ k, coxUsed u k = coxUsed s k := fun k => by rw [coxUsed, coxUsed, hcox]
  have hbal : ∀ k, coxBalance u k = coxBalance s k := fun k => by rw [coxBalance, coxBalance, hcox]
  obtain ⟨-, hregs, hf, hr, hu, hb⟩ := coxStored_spec (s := u) a
    (min (coxBalance u a) 0 + ((u.fld (F.COX_ACCT_CFG_EFFECTIVE a) * cap / 1024 : Nat) : Int))
  generalize hv : coxStored u a _ = v at hregs hf hr hu hb ⊢
  have heff : v.fld (F.COX_ACCT_CFG_EFFECTIVE a) = u.fld (F.COX_ACCT_CFG_EFFECTIVE a) := State.fld_congr (State.reg_congr hregs _)
  refine ⟨by rw [hf, hcox], by rw [hr, hcox], by rw [hu, if_pos rfl], by rw [hb, if_pos rfl, heff, hbal], fun k hk => ⟨?_, ?_⟩,
    fun r hr hne => (State.reg_congr hregs r).trans (honly r ?_)⟩
  · rw [hu, if_neg hk, hused]
  · rw [hb, if_neg hk, hbal]
  · intro hm
    rcases List.mem_cons.mp hm with h | h
    · have : r = A.COX_ACCT_STAT a := h
      omega
    · exact hne (List.mem_singleton.mp h)

/-- The accounts renewed up to account `n`. -/
def heatRenewed (s : State) (h cap n : Nat) : State :=
  (List.range n).foldl (fun (t : State) a => coxRenew t a (if a = 19 then 4 * h else cap)) s

theorem heatRenewed_succ (h cap n : Nat) :
    heatRenewed s h cap (n + 1) = coxSettled (coxRenewed (heatRenewed s h cap n) n (if n = 19 then 4 * h else cap)) n := by
  rw [heatRenewed, List.range_succ, List.foldl_append]
  exact coxRenew_eq n _

/-- Each account is renewed once, from the balance it had. -/
theorem heatRenewed_spec (h cap n : Nat) (hn : n ≤ 32) :
    (heatRenewed s h cap n).cox.floored = s.cox.floored ∧ (heatRenewed s h cap n).cox.running = s.cox.running ∧
      (∀ r, r < A.COX_ACCT_CFG 0 → r ≠ 0x32010 → r ≠ A.COX_THROTTLED → (heatRenewed s h cap n).reg r = s.reg r) ∧
      (∀ k, n ≤ k → coxBalance (heatRenewed s h cap n) k = coxBalance s k) ∧
      ∀ k, k < n → coxUsed (heatRenewed s h cap n) k = 0 ∧ coxBalance (heatRenewed s h cap n) k = min (coxBalance s k) 0 +
        (((heatRenewed s h cap n).fld (F.COX_ACCT_CFG_EFFECTIVE k) * (if k = 19 then 4 * h else cap) / 1024 : Nat) : Int) := by
  induction n with
  | zero => exact ⟨rfl, rfl, fun _ _ _ _ => rfl, fun _ _ => rfl, fun k hk => absurd hk (Nat.not_lt_zero k)⟩
  | succ n ih =>
    obtain ⟨hfloored, hrunning, hreg, hlater, hdone⟩ := ih (by omega)
    rw [heatRenewed_succ]
    generalize heatRenewed s h cap n = t at *
    obtain ⟨hf, hr, hused, hbalance, hothers, hlow⟩ := coxRenewed_spec (s := t) (a := n) (if n = 19 then 4 * h else cap) (by omega)
    generalize coxRenewed t n (if n = 19 then 4 * h else cap) = u at *
    have hkept := accountsKept_coxSettled (s := u) n
    generalize coxSettled u n = v at *
    have hzero := coxAddr 0
    have hn' := coxAddr n
    have hcfg : ∀ k, k < 32 → v.fld (F.COX_ACCT_CFG_EFFECTIVE k) = u.fld (F.COX_ACCT_CFG_EFFECTIVE k) := fun k hk => by
      have hk' := coxAddr k
      have hthrottled : A.COX_THROTTLED = 0x32034 := rfl
      exact hkept.fld (show A.COX_ACCT_CFG k < _ by omega) (show A.COX_ACCT_CFG k ≠ _ by omega) (show A.COX_ACCT_CFG k ≠ _ by omega)
    have hv : ∀ k, coxUsed v k = coxUsed u k := fun k => by rw [coxUsed, coxUsed, hkept.used]
    refine ⟨hkept.floored.trans (hf.trans hfloored), hkept.running.trans (hr.trans hrunning), fun r hr hi ht => ?_, fun k hk => ?_, fun k hk => ?_⟩
    · rw [hkept.reg r (by omega) hi ht, hlow r (by omega) (by omega), hreg r hr hi ht]
    · rw [hkept.coxBalance, (hothers k (by omega)).2, hlater k (by omega)]
    · rw [hv, hkept.coxBalance, hcfg k (by omega)]
      by_cases h : k = n
      · subst h
        rw [← hlater k (Nat.le_refl k)]
        exact ⟨hused, hbalance⟩
      · obtain ⟨hused', hbalance'⟩ := hdone k (by omega)
        have hk' := coxAddr k
        rw [(hothers k h).1, (hothers k h).2, State.fld_congr (hlow _ (show A.COX_ACCT_CFG k < _ by omega) (show A.COX_ACCT_CFG k ≠ _ by omega))]
        exact ⟨hused', hbalance'⟩

theorem touches_heatRenewed (h cap : Nat) : Touches [.regs, .host, .out, .log, .cox] [0x32] s (heatRenewed s h cap 32) := by
  refine Touches.foldl (fun t a ha => ?_) s
  have ha32 : a < 32 := List.mem_range.mp ha
  have hpage : A.COX_ACCT_STAT a / 0x1000 = 0x32 ∧ A.COX_ACCT_CFG a / 0x1000 = 0x32 := by
    have := coxAddr a
    omega
  rw [coxRenew_eq]
  have hrenewed : Touches [.regs, .cox] [0x32] t (coxRenewed t a (if a = 19 then 4 * h else cap)) := by
    unfold coxRenewed
    simp only
    have huse : ∀ v, Touches [.regs, .cox] [0x32] t (t.setFld (F.COX_ACCT_STAT_LAST_USE a) v) := fun v =>
      (touches_setFld_of (F.COX_ACCT_STAT_LAST_USE a) v (gs := [0x32]) (List.mem_singleton.mpr hpage.1)).mono
    have heff : ∀ (x : State) v, Touches [.regs, .cox] [0x32] x (x.setFld (F.COX_ACCT_CFG_EFFECTIVE a) v) := fun x v =>
      (touches_setFld_of (F.COX_ACCT_CFG_EFFECTIVE a) v (gs := [0x32]) (List.mem_singleton.mpr hpage.2)).mono
    exact ((huse _).trans (heff _ _)).trans (coxStored_spec a _).1.mono
  refine hrenewed.mono.trans ?_
  unfold coxSettled
  exact Touches.ite (fun _ => (touches_setReg A.COX_THROTTLED _).mono)
    (fun _ => Touches.ite (fun _ => Touches.refl _) (fun _ => touches_coxOverrun ha32))

/-! ### The start of a heat (R646, R647, R652) -/

/-- The floors stand from the first heat on in which the device is ready; no overrun of the new heat is counted. -/
def coxOpened (s : State) (ready : Bool) : State := { s with cox := { s.cox with floored := s.cox.floored || ready, counted := [] } }

theorem coxOpened_spec (ready : Bool) :
    Touches [.cox] [] s (coxOpened s ready) ∧ (coxOpened s ready).regs = s.regs ∧ (coxOpened s ready).cox.running = s.cox.running ∧
      ∀ a, coxBalance (coxOpened s ready) a = coxBalance s a :=
  ⟨touches_parts [.cox] rfl, rfl, rfl, fun _ => rfl⟩

/-- The heat shown, and whether allowances are enforced in it. -/
def heatShown (s : State) (ready : Bool) : State :=
  let u := coxOpened (s.setFld F.COX_STATUS_HEAT_US (s.fld F.COX_HEAT_CFG_HEAT_US)) ready
  u.setFld F.COX_STATUS_ENFORCING (b01 (u.cox.floored && u.flag F.COX_CTRL_ENFORCE))

/-- The floors computed and the throttling lifted where nothing is enforced. -/
def heatPrepared (s : State) (h : Nat) : State :=
  let t := if s.cox.floored then coxFloors s h else s
  if t.flag F.COX_STATUS_ENFORCING then t else t.setReg A.COX_THROTTLED 0#32

/-- The heat's capacities held. -/
def heatHeld (s : State) (h cap : Nat) : State := { s with cox := { s.cox with capacity := cap, laneTime := 4 * h } }

/-- The unit charges from the first heat with a bundle on. -/
def coxOn (s : State) : State := { s with cox := { s.cox with running := true } }

theorem coxOn_running (h : s.cox.running = true) : coxOn s = s := by
  have hcox : ∀ c : Cox, c.running = true → { c with running := true } = c := by
    rintro ⟨running⟩ hrun
    subst hrun
    rfl
  exact congrArg (fun c => { s with cox := c }) (hcox s.cox h)

/-- The device is ready as the heats see it (R647). -/
def heatReady (s : State) : Bool :=
  s.inOperation || (s.booting && s.boot.keysLoaded && (List.range 4).all (fun n => s.fld (F.LRF_STATUS_STATE n) != 5))

/-- A heat of `h` µs from its preparation on. -/
def heatGoes (s : State) (h : Nat) : State :=
  let cap := s.fld F.MGM_PLAN_V_CLK_MHZ * h
  scrubTarget (heatHeld (heatRenewed s h cap 32) h cap)

theorem heatStart_from : heatStart s =
    let t := if s.boot.fwDone then coxOn s else s
    if !t.cox.running then t
    else heatGoes (heatPrepared (heatShown t (heatReady (t.setFld F.COX_STATUS_HEAT_US (t.fld F.COX_HEAT_CFG_HEAT_US))))
      (t.fld F.COX_HEAT_CFG_HEAT_US)) (t.fld F.COX_HEAT_CFG_HEAT_US) := by
  unfold heatStart coxOn heatGoes heatPrepared heatShown heatReady coxOpened heatRenewed heatHeld
  generalize (if s.boot.fwDone then ({ s with cox := { s.cox with running := true } } : State) else s) = t
  simp only

theorem heatStart_eq (hrun : s.boot.fwDone = true ∨ s.cox.running = true) :
    ∃ ready, heatStart s =
      heatGoes (heatPrepared (heatShown (coxOn s) ready) (s.fld F.COX_HEAT_CFG_HEAT_US)) (s.fld F.COX_HEAT_CFG_HEAT_US) := by
  have hon : (if s.boot.fwDone then coxOn s else s) = coxOn s := by
    split
    · rfl
    · exact (coxOn_running (hrun.resolve_left ‹_›)).symm
  have hfld : (coxOn s).fld F.COX_HEAT_CFG_HEAT_US = s.fld F.COX_HEAT_CFG_HEAT_US := rfl
  have hrunning : (coxOn s).cox.running = true := rfl
  rw [heatStart_from, hon]
  generalize coxOn s = t at *
  simp only [hrunning, hfld, Bool.not_true, Bool.false_eq_true, if_false]
  exact ⟨_, rfl⟩

theorem heatShown_spec (ready : Bool) :
    (heatShown s ready).flag F.COX_STATUS_ENFORCING = ((heatShown s ready).cox.floored && s.flag F.COX_CTRL_ENFORCE) ∧
      (heatShown s ready).fld F.COX_STATUS_HEAT_US = s.fld F.COX_HEAT_CFG_HEAT_US % 2 ^ 14 ∧ (heatShown s ready).cox.running = s.cox.running ∧
      (∀ a, coxBalance (heatShown s ready) a = coxBalance s a) ∧ Touches [.regs, .cox] [0x32] s (heatShown s ready) := by
  have hset : (s.setFld F.COX_STATUS_HEAT_US (s.fld F.COX_HEAT_CFG_HEAT_US)).fld F.COX_STATUS_HEAT_US = s.fld F.COX_HEAT_CFG_HEAT_US % 2 ^ 14 :=
    State.fld_setFld_self s F.COX_STATUS_HEAT_US _ (by decide)
  have henforce : (s.setFld F.COX_STATUS_HEAT_US (s.fld F.COX_HEAT_CFG_HEAT_US)).flag F.COX_CTRL_ENFORCE = s.flag F.COX_CTRL_ENFORCE :=
    (onlyRegs_setFld s _ _).flag (by decide)
  have htouch := touches_setFld (x := s) F.COX_STATUS_HEAT_US (s.fld F.COX_HEAT_CFG_HEAT_US)
  have hcox : (s.setFld F.COX_STATUS_HEAT_US (s.fld F.COX_HEAT_CFG_HEAT_US)).cox = s.cox := State.setFld_cox _ _ _
  unfold heatShown
  simp only
  generalize s.setFld F.COX_STATUS_HEAT_US (s.fld F.COX_HEAT_CFG_HEAT_US) = t at *
  obtain ⟨hpart, hregs, hrunning, hbalance⟩ := coxOpened_spec (s := t) ready
  have hbase : ∀ a, coxBalance t a = coxBalance s a := fun a => by rw [coxBalance, coxBalance, hcox]
  generalize coxOpened t ready = u at *
  have hflag : u.flag F.COX_CTRL_ENFORCE = s.flag F.COX_CTRL_ENFORCE := (State.flag_of_regs hregs _).trans henforce
  have hheat : u.fld F.COX_STATUS_HEAT_US = s.fld F.COX_HEAT_CFG_HEAT_US % 2 ^ 14 := (State.fld_congr (State.reg_congr hregs _)).trans hset
  rw [hflag]
  generalize hb : (u.cox.floored && s.flag F.COX_CTRL_ENFORCE) = b
  have hend : (u.setFld F.COX_STATUS_ENFORCING (b01 b)).cox = u.cox := State.setFld_cox _ _ _
  refine ⟨?_, ?_, by rw [hend, hrunning, hcox], fun a => ?_, (htouch.mono.trans hpart.mono).trans (touches_setFld F.COX_STATUS_ENFORCING _).mono⟩
  · rw [hend, hb]
    cases b
    · exact State.flag_setFld_zero u (by decide)
    · exact State.flag_setFld_one u rfl (by decide)
  · exact (State.fld_setFld_apart u F.COX_STATUS_ENFORCING F.COX_STATUS_HEAT_US _ (by decide) (Or.inr (by decide))).trans hheat
  · rw [← hbase a, ← hbalance a, coxBalance, hend, coxBalance]

theorem heatPrepared_spec (h : Nat) :
    AccountsKept s (heatPrepared s h) ∧ Touches [.regs, .host, .out, .log] [0x32] s (heatPrepared s h) := by
  unfold heatPrepared
  simp only
  have hfloors : AccountsKept s (if s.cox.floored then coxFloors s h else s) ∧
      Touches [.regs, .host, .out, .log] [0x32] s (if s.cox.floored then coxFloors s h else s) :=
    ⟨AccountsKept.ite (accountsKept_coxFloors h) (AccountsKept.refl s), Touches.ite (fun _ => touches_coxFloors h) (fun _ => Touches.refl s)⟩
  generalize (if s.cox.floored then coxFloors s h else s) = t at *
  exact ⟨hfloors.1.trans (AccountsKept.ite (AccountsKept.refl t) (accountsKept_throttled _)),
    hfloors.2.trans (Touches.ite (fun _ => Touches.refl t) (fun _ => (touches_setReg A.COX_THROTTLED 0#32).mono))⟩

theorem touches_scrubTarget : Touches [.regs, .mem] [0x30] s (scrubTarget s) := by
  have hrun : Touches [.regs, .mem] [0x30] s (if s.flag F.MEM_STATUS_SCRUB_RUN then s
      else { s.setFld F.MEM_STATUS_SCRUB_RUN 1 with mem := { s.mem with passAt := s.dev.upCycles } }) := by
    refine Touches.ite (fun _ => Touches.refl s) (fun _ => ?_)
    exact (touches_setFld (x := s) F.MEM_STATUS_SCRUB_RUN 1).mono.trans
      (touches_parts [.mem] rfl : Touches [.mem] [] (s.setFld F.MEM_STATUS_SCRUB_RUN 1) _).mono
  unfold scrubTarget
  exact Touches.ite (fun _ => Touches.refl s) (fun _ => hrun.trans (touches_parts [.mem] rfl : Touches [.mem] [] _ _).mono)

/-- The heat that starts (R646, R649, R652). -/
theorem heatStart_spec (hrun : s.boot.fwDone = true ∨ s.cox.running = true) :
    (heatStart s).cox.running = true ∧ (heatStart s).cox.capacity = s.fld F.MGM_PLAN_V_CLK_MHZ * s.fld F.COX_HEAT_CFG_HEAT_US ∧
      (heatStart s).cox.laneTime = 4 * s.fld F.COX_HEAT_CFG_HEAT_US ∧
      (heatStart s).fld F.COX_STATUS_HEAT_US = s.fld F.COX_HEAT_CFG_HEAT_US % 2 ^ 14 ∧
      (heatStart s).flag F.COX_STATUS_ENFORCING = ((heatStart s).cox.floored && s.flag F.COX_CTRL_ENFORCE) ∧
      (∀ a, a < 32 → coxUsed (heatStart s) a = 0 ∧ coxBalance (heatStart s) a = min (coxBalance s a) 0 +
        (((heatStart s).fld (F.COX_ACCT_CFG_EFFECTIVE a) * (if a = 19 then (heatStart s).cox.laneTime else (heatStart s).cox.capacity) / 1024
          : Nat) : Int)) ∧ SameMemory s (heatStart s) := by
  obtain ⟨ready, heq⟩ := heatStart_eq hrun
  rw [heq]
  clear heq
  unfold heatGoes
  simp only
  obtain ⟨henforcing, hheat, hrunning, hbalance, htouch⟩ := heatShown_spec (s := coxOn s) ready
  have hon : Touches [.cox] [] s (coxOn s) := touches_parts [.cox] rfl
  have hshown : Touches [.regs, .cox] [0x32] s (heatShown (coxOn s) ready) := hon.mono.trans htouch
  have hbase : ∀ a, coxBalance (coxOn s) a = coxBalance s a := fun _ => rfl
  have hconf : (coxOn s).flag F.COX_CTRL_ENFORCE = s.flag F.COX_CTRL_ENFORCE ∧
      (coxOn s).fld F.COX_HEAT_CFG_HEAT_US = s.fld F.COX_HEAT_CFG_HEAT_US ∧ (coxOn s).cox.running = true := ⟨rfl, rfl, rfl⟩
  generalize coxOn s = s0 at *
  rw [hconf.1] at henforcing
  rw [hconf.2.1] at hheat
  rw [hconf.2.2] at hrunning
  generalize s.fld F.COX_HEAT_CFG_HEAT_US = h at *
  generalize heatShown s0 ready = t at *
  obtain ⟨hkept, hprepared⟩ := heatPrepared_spec (s := t) h
  generalize heatPrepared t h = u at *
  have hclk : u.fld F.MGM_PLAN_V_CLK_MHZ = s.fld F.MGM_PLAN_V_CLK_MHZ :=
    (hprepared.fld (by decide)).trans (hshown.fld (by decide))
  rw [hclk]
  generalize s.fld F.MGM_PLAN_V_CLK_MHZ * h = cap at *
  obtain ⟨hfloored, hrun', hreg, -, haccounts⟩ := heatRenewed_spec (s := u) h cap 32 (Nat.le_refl 32)
  have hrenewed := touches_heatRenewed (s := u) h cap
  generalize heatRenewed u h cap 32 = v at *
  have hheld : Touches [.cox] [] v (heatHeld v h cap) := touches_parts [.cox] rfl
  have hcox : (heatHeld v h cap).cox.running = v.cox.running ∧ (heatHeld v h cap).cox.floored = v.cox.floored ∧
      (heatHeld v h cap).cox.capacity = cap ∧ (heatHeld v h cap).cox.laneTime = 4 * h ∧ (heatHeld v h cap).cox.balance = v.cox.balance ∧
      (heatHeld v h cap).cox.used = v.cox.used := ⟨rfl, rfl, rfl, rfl, rfl, rfl⟩
  generalize heatHeld v h cap = w at *
  have hend := touches_scrubTarget (s := w)
  generalize scrubTarget w = x at *
  obtain ⟨hwr, hwf, hwc, hwl, hwb, hwu⟩ := hcox
  have hxcox : x.cox = w.cox := hend.part .cox (by decide)
  have hstatus : x.reg A.COX_STATUS = t.reg A.COX_STATUS := by
    rw [hend.reg _ (by decide), hheld.reg _ (by decide), hreg _ (by decide) (by decide) (by decide),
      hkept.reg _ (by decide) (by decide) (by decide)]
  have hall : Touches [.regs, .host, .out, .log, .cox, .mem] [0x32, 0x30] s x :=
    ((((hshown.mono.trans hprepared.mono).trans hrenewed.mono).trans hheld.mono).trans hend.mono)
  refine ⟨by rw [hxcox, hwr, hrun', hkept.running, hrunning], by rw [hxcox, hwc], by rw [hxcox, hwl], ?_, ?_, fun a ha => ?_, hall.ram (by decide)⟩
  · exact (State.fld_congr hstatus).trans hheat
  · rw [hxcox, hwf, hfloored, hkept.floored, ← henforcing, State.flag, State.fld_congr hstatus, State.flag]
  · obtain ⟨hused, hbal⟩ := haccounts a ha
    have heff : x.fld (F.COX_ACCT_CFG_EFFECTIVE a) = v.fld (F.COX_ACCT_CFG_EFFECTIVE a) := by
      have haddr := coxAddr a
      exact (hend.fld (show A.COX_ACCT_CFG a / 0x1000 ∉ [0x30] by
        rw [show A.COX_ACCT_CFG a / 0x1000 = 0x32 by omega]
        decide)).trans (hheld.fld List.not_mem_nil)
    rw [coxUsed, coxBalance, hxcox, hwu, hwb, heff, hwl, hwc]
    refine ⟨hused, ?_⟩
    rw [show Tbl.get (fun _ => (0 : Int)) v.cox.balance a = coxBalance v a from rfl, hbal, hkept.coxBalance, hbalance, hbase]
end

end Sys2Proof.Machine
end

section
/-!
PROOFS. Plans, emergency steps and monitors of the Margin Manager (21_margin_manager.md).
-/
namespace Sys2Proof.Machine

-- One proof after another: side by side, the threads of so long a text want more memory than the check grants.
set_option Elab.async false

/-! ### What plans leave -/

/-- The registers that a plan writes. -/
def planRegs : List Nat := [A.MGM_CTRL, A.MGM_STATUS, A.MGM_PLAN_V, A.MEM_SCRUB_CFG, A.LRF_CAL_CFG 0, A.LRF_CAL_CFG 1, A.LRF_CAL_CFG 2,
  A.LRF_CAL_CFG 3, A.MGM_LAST_PLAN_S, A.MGM_PLANS, 0x33010]

/-- The voltage and the clock in force, the AVS fault, the words with a fault bit, and no transaction lost; registers but those of plans. -/
structure PlanKept (s t : State) : Prop where
  vNow : t.mgm.vNow = s.mgm.vNow
  fNow : t.mgm.fNow = s.mgm.fNow
  badWords : t.mgm.badWords = s.mgm.badWords
  nacks : s.mgm.nacks = 0 → t.mgm.nacks = 0
  fault : t.flag F.MGM_STATUS_AVS_FAULT = s.flag F.MGM_STATUS_AVS_FAULT
  reg : OnlyRegs s t planRegs

section
variable {s t u : State}

theorem PlanKept.refl (s : State) : PlanKept s s := ⟨rfl, rfl, rfl, id, rfl, (OnlyRegs.refl s).mono (List.nil_subset _)⟩

theorem OnlyRegs.again {as : List Nat} (h : OnlyRegs s t as) (h' : OnlyRegs t u as) : OnlyRegs s u as :=
  fun a ha => (h' a ha).trans (h a ha)

theorem PlanKept.trans (h : PlanKept s t) (h' : PlanKept t u) : PlanKept s u :=
  ⟨h'.vNow.trans h.vNow, h'.fNow.trans h.fNow, h'.badWords.trans h.badWords, fun hn => h'.nacks (h.nacks hn), h'.fault.trans h.fault,
    h.reg.again h'.reg⟩

theorem PlanKept.ite {c : Prop} [Decidable c] {x y : State} (hx : PlanKept s x) (hy : PlanKept s y) : PlanKept s (if c then x else y) := by
  split
  · exact hx
  · exact hy

theorem planKept_of_only {as : List Nat} (h : OnlyRegs s t as) (hm : t.mgm = s.mgm) (hs : A.MGM_STATUS ∉ as) (has : as ⊆ planRegs) : PlanKept s t :=
  ⟨by rw [hm], by rw [hm], by rw [hm], fun hn => by rw [hm, hn], h.flag hs, h.mono has⟩

theorem planKept_setMgm (m : Margin) (hv : m.vNow = s.mgm.vNow := by rfl) (hf : m.fNow = s.mgm.fNow := by rfl)
    (hb : m.badWords = s.mgm.badWords := by rfl) (hn : s.mgm.nacks = 0 → m.nacks = 0 := by exact id) : PlanKept s (s.setMgm m) :=
  ⟨hv, hf, hb, hn, rfl, fun _ _ => rfl⟩

theorem planKept_setFld {f : Fld} (v : Nat) (hf : f.addr ∈ planRegs) (hs : f.addr ≠ A.MGM_STATUS) : PlanKept s (s.setFld f v) :=
  planKept_of_only (onlyRegs_setFld s f v) (State.setFld_mgm _ _ _) (fun h => hs (List.mem_singleton.mp h).symm)
    (List.cons_subset.mpr ⟨hf, List.nil_subset _⟩)

/-- A field of STATUS that is not the AVS fault. -/
theorem planKept_status {lsb width : Nat} (v : Nat) (h : lsb + width ≤ 32) (hd : 3 ≤ lsb ∨ lsb + width ≤ 2) :
    PlanKept s (s.setFld ⟨A.MGM_STATUS, lsb, width⟩ v) :=
  ⟨rfl, rfl, rfl, id, State.flag_setFld_apart s (f := ⟨A.MGM_STATUS, lsb, width⟩) (g := F.MGM_STATUS_AVS_FAULT) v h
    (Or.inr (hd.symm.imp (fun h => h) (fun h => h) |>.symm)), (onlyRegs_setFld s _ v).mono (List.cons_subset.mpr ⟨show A.MGM_STATUS ∈ planRegs by decide, List.nil_subset _⟩)⟩

theorem planKept_setCause (b : Nat) : PlanKept s (setCause s 0x33 b) :=
  planKept_of_only (onlyRegs_setCause s 0x33 b) (setCause_mgm _ _ _) (by decide) (by decide)

theorem planKept_event (sub code sev : Nat) (data : List Byte) : PlanKept s (s.event 0x33 sub code sev data) :=
  planKept_of_only (onlyRegs_event s 0x33 sub code sev data) (State.event_mgm _ _ _ _ _ _) List.not_mem_nil (List.nil_subset _)

theorem onlyRegs_endGo (a b : Nat) : OnlyRegs s (endGo s a b).1 [a] := by
  unfold endGo
  split
  · exact fun _ _ => rfl
  · exact onlyRegs_setReg s a _

theorem planKept_endGo (b : Nat) : PlanKept s (endGo s A.MGM_CTRL b).1 :=
  planKept_of_only (onlyRegs_endGo A.MGM_CTRL b) ((touches_endGo A.MGM_CTRL b).part .mgm (by decide)) (by decide) (by decide)

theorem PlanKept.foldl {α : Type} {g : State → α → State} {l : List α} (hg : ∀ t, ∀ x ∈ l, PlanKept t (g t x)) (s : State) :
    PlanKept s (l.foldl g s) := by
  induction l generalizing s with
  | nil => exact PlanKept.refl s
  | cons x l ih => exact (hg s x List.mem_cons_self).trans (ih (fun t y hy => hg t y (List.mem_cons_of_mem x hy)) _)

theorem planKept_commandVolt (mv : Nat) : PlanKept s (commandVolt s mv) := by
  unfold commandVolt
  refine (planKept_setMgm { s.mgm with volt := .confirming mv false, nacks := 0 } (hn := fun _ => rfl)).trans (PlanKept.ite (planKept_setMgm _) ?_)
  exact ⟨rfl, rfl, rfl, id, rfl, fun _ _ => rfl⟩

theorem planKept_planApplied (w : PlanWork) : PlanKept s (planApplied s w) := by
  have hlane : ∀ t : State, ∀ n ∈ List.range 4, PlanKept t ((t.setFld (F.LRF_CAL_CFG_BG_INTERVAL_S n) (lanePlan t n).1).setFld
      (F.LRF_CAL_CFG_T_WINDOW n) (lanePlan t n).2) := fun t n hn => by
    have hmem : A.LRF_CAL_CFG n ∈ planRegs ∧ A.LRF_CAL_CFG n ≠ A.MGM_STATUS := by
      revert n
      decide
    exact (planKept_setFld (f := F.LRF_CAL_CFG_BG_INTERVAL_S n) _ hmem.1 hmem.2).trans
      (planKept_setFld (f := F.LRF_CAL_CFG_T_WINDOW n) _ hmem.1 hmem.2)
  unfold planApplied
  simp only
  refine PlanKept.trans (PlanKept.trans (PlanKept.trans (PlanKept.trans (PlanKept.trans (PlanKept.trans
    (planKept_status _ (by decide) (Or.inl (by decide))) (planKept_setFld _ (by decide) (by decide))) (PlanKept.foldl hlane _))
    (planKept_setFld _ (by decide) (by decide))) (planKept_setFld _ (by decide) (by decide))) (planKept_setCause 0)) (planKept_setMgm _)

theorem planKept_planBegin : PlanKept s (planBegin s) := by
  unfold planBegin
  refine PlanKept.ite (planKept_setMgm _) ?_
  have hmarked : ∀ b, PlanKept s (s.setFld F.MGM_STATUS_MARGIN_LOW b) := fun b => planKept_status b (by decide) (Or.inr (by decide))
  have hlow : ∀ x : State, PlanKept x (setCause (marginLow x 1) 0x33 2) := fun x => (planKept_event _ _ _ _).trans (planKept_setCause 2)
  exact PlanKept.trans (PlanKept.trans ((hmarked _).trans (PlanKept.ite (PlanKept.refl _) (hlow _)))
    (planKept_status 1 (by decide) (Or.inl (by decide)))) (planKept_setMgm _)

theorem planKept_planInForce (w : PlanWork) : PlanKept s (planInForce s w) := by
  unfold planInForce
  exact PlanKept.trans (PlanKept.trans (PlanKept.trans (planKept_status 0 (by decide) (Or.inl (by decide)))
    (planKept_setFld _ (by decide) (by decide))) (planKept_setFld _ (by decide) (by decide))) (planKept_setMgm _)

theorem planKept_planGoesOn (n : Nat) : PlanKept s (planGoesOn n s) := by
  induction n generalizing s with
  | zero => exact PlanKept.refl s
  | succ n ih =>
    unfold planGoesOn
    split
    · next w hw hv =>
      split
      · exact PlanKept.ite (planKept_commandVolt _) ((planKept_setMgm _).trans ih)
      · exact PlanKept.ite ((planKept_planInForce w).trans ih) (planKept_status 1 (by decide) (Or.inl (by decide)))
      · refine PlanKept.ite (planKept_commandVolt _) (PlanKept.ite ((planKept_setMgm _).trans (planKept_status 0 (by decide) (Or.inl (by decide)))) ?_)
        have hends : ∀ x : State, PlanKept x (planGoEnds x w) := fun x => PlanKept.foldl (fun t b _ => planKept_endGo b) x
        have hdone : PlanKept s ((planGoEnds (planApplied s w) w).setFld F.MGM_STATUS_PLANNING 0) :=
          ((planKept_planApplied w).trans (hends _)).trans (planKept_status 0 (by decide) (Or.inl (by decide)))
        exact PlanKept.ite hdone ((hdone.trans planKept_planBegin).trans ih)
    · exact PlanKept.refl s

theorem planKept_planStart : PlanKept s (planStart s) :=
  PlanKept.ite planKept_planBegin (planKept_planBegin.trans (planKept_planGoesOn 8))

/-! ### Emergency steps (R673, R679) -/

/-- Fields of other registers, and those of STATUS above the AVS fault, leave what a plan may steer. -/
theorem mgmAct_setFld {f : Fld} (v : Nat) (hc : f.addr ≠ A.MGM_CTRL) (hs : f.addr ≠ A.MGM_STATUS ∨ 3 ≤ f.lsb) (hf : f.lsb + f.width ≤ 32) :
    mgmAct (s.setFld f v) = mgmAct s := by
  have hflag : (s.setFld f v).flag F.MGM_STATUS_AVS_FAULT = s.flag F.MGM_STATUS_AVS_FAULT :=
    State.flag_setFld_apart s v hf (hs.imp (fun h => h.symm) (fun h => Or.inl h))
  have hctrl : (s.setFld f v).fld F.MGM_CTRL_ACT = s.fld F.MGM_CTRL_ACT := State.fld_setFld_apart s f F.MGM_CTRL_ACT v hf (Or.inl hc.symm)
  rw [mgmAct, mgmAct, hflag, hctrl]

theorem commandVolt_spec (mv : Nat) : (commandVolt s mv).log = s.log ∧ (commandVolt s mv).regs = s.regs ∧
    (commandVolt s mv).mgm.work = s.mgm.work ∧ (commandVolt s mv).mgm.volt = .confirming mv false := by
  unfold commandVolt
  simp only
  split
  · exact ⟨rfl, rfl, rfl, rfl⟩
  · exact ⟨rfl, rfl, rfl, rfl⟩

/-- What an emergency step leaves: the log, the registers but those of the clock in force, and with no regulator to steer the voltage. -/
structure EmergencyKept (s t : State) : Prop where
  log : t.log = s.log
  reg : OnlyRegs s t [A.MGM_STATUS, A.MGM_PLAN_V]
  volt : mgmAct s = 2 → s.mgm.volt = .none → t.mgm.volt = .none

theorem emergencyKept_commandVolt (mv : Nat) (h : mgmAct s ≠ 2) : EmergencyKept s (commandVolt s mv) := by
  obtain ⟨hlog, hregs, -⟩ := commandVolt_spec (s := s) mv
  exact ⟨hlog, fun a _ => State.reg_congr hregs a, fun h2 => absurd h2 h⟩

theorem planInForce_spec (w : PlanWork) : (planInForce s w).mgm = { s.mgm with work := some { w with stage := 2 } } ∧ (planInForce s w).log = s.log ∧
    OnlyRegs s (planInForce s w) [A.MGM_STATUS, A.MGM_PLAN_V] ∧ mgmAct (planInForce s w) = mgmAct s ∧
    (planInForce s w).fld F.MGM_PLAN_V_CLK_MHZ = w.mhz % 65536 ∧ (planInForce s w).bus = s.bus := by
  unfold planInForce
  simp only
  generalize (if mgmAct _ = 2 then 0 else w.mv) = v
  have hclock := (onlyRegs_setFld s F.MGM_STATUS_RAMPING 0).trans
    (onlyRegs_setFld (s.setFld F.MGM_STATUS_RAMPING 0) F.MGM_PLAN_V_CLK_MHZ w.mhz)
  have hsteer : mgmAct ((s.setFld F.MGM_STATUS_RAMPING 0).setFld F.MGM_PLAN_V_CLK_MHZ w.mhz) = mgmAct s :=
    (mgmAct_setFld _ (by decide) (Or.inl (by decide)) (by decide)).trans (mgmAct_setFld _ (by decide) (Or.inr (by decide)) (by decide))
  have hclk : ((s.setFld F.MGM_STATUS_RAMPING 0).setFld F.MGM_PLAN_V_CLK_MHZ w.mhz).fld F.MGM_PLAN_V_CLK_MHZ = w.mhz % 65536 :=
    State.fld_setFld_self _ F.MGM_PLAN_V_CLK_MHZ _ (by decide)
  have hparts : ((s.setFld F.MGM_STATUS_RAMPING 0).setFld F.MGM_PLAN_V_CLK_MHZ w.mhz).mgm = s.mgm ∧
      ((s.setFld F.MGM_STATUS_RAMPING 0).setFld F.MGM_PLAN_V_CLK_MHZ w.mhz).log = s.log ∧
      ((s.setFld F.MGM_STATUS_RAMPING 0).setFld F.MGM_PLAN_V_CLK_MHZ w.mhz).bus = s.bus := by simp
  generalize (s.setFld F.MGM_STATUS_RAMPING 0).setFld F.MGM_PLAN_V_CLK_MHZ w.mhz = x at *
  obtain ⟨hmgm, hlog, hbus⟩ := hparts
  have hset : (x.setFld F.MGM_PLAN_V_VDD_CORE_MV v).mgm = x.mgm ∧ (x.setFld F.MGM_PLAN_V_VDD_CORE_MV v).log = x.log ∧
      (x.setFld F.MGM_PLAN_V_VDD_CORE_MV v).bus = x.bus := by simp
  have hregs := onlyRegs_setFld x F.MGM_PLAN_V_VDD_CORE_MV v
  have hsteer' := mgmAct_setFld (s := x) (f := F.MGM_PLAN_V_VDD_CORE_MV) v (by decide) (Or.inl (by decide)) (by decide)
  have hclk' := State.fld_setFld_apart x F.MGM_PLAN_V_VDD_CORE_MV F.MGM_PLAN_V_CLK_MHZ v (by decide) (Or.inr (Or.inr (by decide)))
  generalize x.setFld F.MGM_PLAN_V_VDD_CORE_MV v = y at *
  exact ⟨by rw [← hmgm, ← hset.1]; rfl, hset.2.1.trans hlog, (hclock.trans hregs).mono (by decide), hsteer'.trans hsteer, hclk'.trans hclk,
    hset.2.2.trans hbus⟩

/-- An emergency step that goes on. -/
theorem planGoesOn_emergency (n : Nat) {w : PlanWork} (hw : s.mgm.work = some w) (he : w.emergency = true) : EmergencyKept s (planGoesOn n s) := by
  have hrefl : ∀ x : State, EmergencyKept x x := fun _ => ⟨rfl, fun _ _ => rfl, fun _ h => h⟩
  induction n generalizing s w with
  | zero => exact hrefl s
  | succ n ih =>
    unfold planGoesOn
    split
    · next w' hw' hv =>
      obtain rfl : w = w' := Option.some.inj (hw.symm.trans hw')
      have hsteers : ∀ c : Bool, (mgmAct s != 2 && c) = true → mgmAct s ≠ 2 := fun c h => by
        rw [Bool.and_eq_true] at h
        exact bne_iff_ne.mp h.1
      split
      · simp only
        split
        · exact emergencyKept_commandVolt _ (hsteers _ ‹_›)
        · obtain ⟨hlog, hregs, hvolt⟩ := ih (s := s.setMgm { s.mgm with work := some { w with stage := 1 } }) rfl he
          exact ⟨hlog, hregs, fun h2 h => hvolt h2 h⟩
      · split
        · obtain ⟨hmgm, hlog', hregs', hact, -⟩ := planInForce_spec (s := s) w
          obtain ⟨hlog, hregs, hvolt⟩ := ih (s := planInForce s w) (w := { w with stage := 2 }) (by rw [hmgm]) he
          exact ⟨hlog.trans hlog', hregs'.again hregs, fun h2 h => hvolt (hact.trans h2) (by rw [hmgm]; exact h)⟩
        · exact ⟨rfl, (onlyRegs_setFld s F.MGM_STATUS_RAMPING 1).mono (by decide), fun _ h => h⟩
      · simp only [he, if_true]
        split
        · exact emergencyKept_commandVolt _ (hsteers _ ‹_›)
        · exact ⟨rfl, (onlyRegs_setFld (s.setMgm { s.mgm with work := none, planDue := true }) F.MGM_STATUS_PLANNING 0).mono (by decide),
            fun _ h => h⟩
    · exact hrefl s

/-! ### Faults and emergencies (R673, R679) -/

/-- The registers that a plan, a fault of the regulator or an emergency step writes. -/
def faultRegs : List Nat := [0x3301C, 0x33020, A.MGM_AVS_ERRORS, A.MGM_EMERGENCIES] ++ planRegs

/-- The fault shown and reported, before the clock goes down (R679). -/
def faultTold (s : State) (cause : Nat) : State :=
  let t := recordErr (s.setFld F.MGM_STATUS_AVS_FAULT 1) 0x33 0x80 0 0
  (t.count F.MGM_AVS_ERRORS_COUNT 1).event 0x33 0 0x1503 3 (leBytes 1 cause ++ leBytes 2 (t.fld F.MGM_PMB_STATUS_WORD))

/-- The step of a fault: 800 MHz at the voltage in force. -/
def faultWork (s : State) : PlanWork := { emergency := true, mv := s.mgm.vNow, mhz := 800, stage := 1, margin := 0, go := [] }

/-- The step taken up, with no voltage to confirm. -/
def stepTaken (s : State) (w : PlanWork) (due : Bool) : State := s.setMgm { s.mgm with work := some w, volt := .none, planDue := due }

theorem avsFault_eq {cause : Nat} (h : s.flag F.MGM_STATUS_AVS_FAULT = false) : avsFault s cause =
    planGoesOn 8 (setCause (stepTaken (faultTold s cause) (faultWork (faultTold s cause)) (faultTold s cause).mgm.planDue) 0x33 3) := by
  rw [avsFault, h, if_neg Bool.false_ne_true]
  rfl

theorem faultTold_spec (cause : Nat) : (faultTold s cause).flag F.MGM_STATUS_AVS_FAULT = true ∧
    (faultTold s cause).fld F.MGM_AVS_ERRORS_COUNT = satAdd 32 (s.fld F.MGM_AVS_ERRORS_COUNT) 1 ∧ lastEvent (faultTold s cause) 0x33 0x1503 ∧
    OnlyRegs s (faultTold s cause) [A.MGM_STATUS, 0x3301C, 0x33020, 0x33010, A.MGM_AVS_ERRORS] := by
  have hset := onlyRegs_setFld s F.MGM_STATUS_AVS_FAULT 1
  have hflag : (s.setFld F.MGM_STATUS_AVS_FAULT 1).flag F.MGM_STATUS_AVS_FAULT = true := State.flag_setFld_one s rfl (by decide)
  unfold faultTold
  simp only
  generalize s.setFld F.MGM_STATUS_AVS_FAULT 1 = t at *
  have herr := onlyRegs_recordErr t 0x33 0x80 0 0
  generalize recordErr t 0x33 0x80 0 0 = u at *
  have hcount : (u.count F.MGM_AVS_ERRORS_COUNT 1).fld F.MGM_AVS_ERRORS_COUNT = satAdd 32 (u.fld F.MGM_AVS_ERRORS_COUNT) 1 :=
    State.fld_count_self u F.MGM_AVS_ERRORS_COUNT 1 (by decide)
  have hregs := onlyRegs_count u F.MGM_AVS_ERRORS_COUNT 1
  generalize u.count F.MGM_AVS_ERRORS_COUNT 1 = v at *
  have hall := ((hset.trans herr).trans hregs).mono (bs := [A.MGM_STATUS, 0x3301C, 0x33020, 0x33010, A.MGM_AVS_ERRORS]) (by decide)
  refine ⟨?_, ?_, lastEvent_event _ _ _ _ _, fun a ha => hall a ha⟩
  · exact (hregs.flag (by decide)).trans ((herr.flag (by decide)).trans hflag)
  · exact hcount.trans (by rw [(hset.trans herr).fld (f := F.MGM_AVS_ERRORS_COUNT) (by decide)])

/-- A fault of the regulator (R679). -/
theorem avsFault_spec (cause : Nat) (h : s.flag F.MGM_STATUS_AVS_FAULT = false) :
    (avsFault s cause).flag F.MGM_STATUS_AVS_FAULT = true ∧ (avsFault s cause).mgm.volt = .none ∧ causeSet (avsFault s cause) 0x33 3 = true ∧
      (avsFault s cause).fld F.MGM_AVS_ERRORS_COUNT = satAdd 32 (s.fld F.MGM_AVS_ERRORS_COUNT) 1 ∧ lastEvent (avsFault s cause) 0x33 0x1503 ∧
      OnlyRegs s (avsFault s cause) faultRegs := by
  rw [avsFault_eq h]
  obtain ⟨hflag, hcount, hevent, hregs⟩ := faultTold_spec (s := s) cause
  generalize faultTold s cause = t at *
  have hcause := onlyRegs_setCause (stepTaken t (faultWork t) t.mgm.planDue) 0x33 3
  have hmgm : (setCause (stepTaken t (faultWork t) t.mgm.planDue) 0x33 3).mgm =
      { t.mgm with work := some (faultWork t), volt := .none, planDue := t.mgm.planDue } := setCause_mgm _ _ _
  have hlog : (setCause (stepTaken t (faultWork t) t.mgm.planDue) 0x33 3).log = t.log := setCause_log _ _ _
  have hset : causeSet (setCause (stepTaken t (faultWork t) t.mgm.planDue) 0x33 3) 0x33 3 = true :=
    (causeSet_setCause _ 0x33 3 3 (by decide)).trans (Bool.or_true _)
  have honly : OnlyRegs t (setCause (stepTaken t (faultWork t) t.mgm.planDue) 0x33 3) [0x33010] := fun a ha => hcause a ha
  generalize setCause (stepTaken t (faultWork t) t.mgm.planDue) 0x33 3 = u at *
  have hfault : u.flag F.MGM_STATUS_AVS_FAULT = true := (honly.flag (by decide)).trans hflag
  obtain ⟨hklog, hkreg, hkvolt⟩ := planGoesOn_emergency 8 (s := u) (w := faultWork t) (by rw [hmgm]) rfl
  have hkept := planKept_planGoesOn (s := u) 8
  refine ⟨hkept.fault.trans hfault, hkvolt (by rw [mgmAct, hfault, if_pos rfl]) (by rw [hmgm]), ?_, ?_,
    lastEvent_of_log (hklog.trans hlog) hevent, (hregs.trans (honly.trans hkept.reg)).mono (by decide)⟩
  · rw [causeSet, hkreg _ (by decide)]
    exact hset
  · exact (hkreg.fld (by decide)).trans ((honly.fld (by decide)).trans hcount)

theorem onlyRegs_avsFault (cause : Nat) : OnlyRegs s (avsFault s cause) faultRegs := by
  by_cases h : s.flag F.MGM_STATUS_AVS_FAULT = true
  · rw [avsFault, if_pos h]
    exact (OnlyRegs.refl s).mono (List.nil_subset _)
  · obtain ⟨-, -, -, -, -, hregs⟩ := avsFault_spec cause (Bool.eq_false_iff.mpr h)
    exact hregs

theorem onlyRegs_voltConfirmed (mv : Nat) : OnlyRegs s (voltConfirmed s mv) faultRegs := fun a ha =>
  (planKept_planGoesOn (s := s.setMgm { s.mgm with vNow := mv, volt := .none }) 8).reg a (fun h => ha (List.mem_append_right _ h))

/-- The emergency counted and reported. -/
def emergencyTold (s : State) (data : List Byte) : State := setCause ((s.count F.MGM_EMERGENCIES_COUNT 1).event 0x33 0 0x1501 3 data) 0x33 1

theorem emergencyTold_spec (data : List Byte) :
    (emergencyTold s data).fld F.MGM_EMERGENCIES_COUNT = satAdd 32 (s.fld F.MGM_EMERGENCIES_COUNT) 1 ∧ causeSet (emergencyTold s data) 0x33 1 = true ∧
      lastEvent (emergencyTold s data) 0x33 0x1501 ∧ OnlyRegs s (emergencyTold s data) [A.MGM_EMERGENCIES, 0x33010] := by
  have hcause := onlyRegs_setCause ((s.count F.MGM_EMERGENCIES_COUNT 1).event 0x33 0 0x1501 3 data) 0x33 1
  refine ⟨(hcause.fld (by decide)).trans (State.fld_count_self s F.MGM_EMERGENCIES_COUNT 1 (by decide)), ?_,
    lastEvent_setCause _ _ (lastEvent_event _ _ _ _ _), ((onlyRegs_count s F.MGM_EMERGENCIES_COUNT 1).trans hcause).mono (by decide)⟩
  exact (causeSet_setCause _ 0x33 1 1 (by decide)).trans (Bool.or_true _)

theorem emergencyStep_eq (replica : Nat) : ∃ data w due, w.emergency = true ∧
    emergencyStep s replica = planGoesOn 8 (stepTaken (emergencyTold s data) w due) := by
  unfold emergencyStep emergencyTold stepTaken
  refine ⟨_, _, _, ?_, rfl⟩
  rfl

/-- An emergency step (R673). -/
theorem emergencyStep_spec (replica : Nat) :
    (emergencyStep s replica).fld F.MGM_EMERGENCIES_COUNT = satAdd 32 (s.fld F.MGM_EMERGENCIES_COUNT) 1 ∧
      causeSet (emergencyStep s replica) 0x33 1 = true ∧ lastEvent (emergencyStep s replica) 0x33 0x1501 ∧
      OnlyRegs s (emergencyStep s replica) faultRegs := by
  obtain ⟨data, w, due, hw, heq⟩ := emergencyStep_eq (s := s) replica
  rw [heq]
  obtain ⟨hcount, hcause, hevent, hregs⟩ := emergencyTold_spec (s := s) data
  generalize emergencyTold s data = t at *
  obtain ⟨hlog, hreg, -⟩ := planGoesOn_emergency 8 (s := stepTaken t w due) rfl hw
  have hgoes : OnlyRegs t (planGoesOn 8 (stepTaken t w due)) [A.MGM_STATUS, A.MGM_PLAN_V] := fun a ha => hreg a ha
  refine ⟨(hgoes.fld (by decide)).trans hcount, ?_, lastEvent_of_log hlog hevent, (hregs.trans hgoes).mono (by decide)⟩
  rw [causeSet, hgoes _ (by decide)]
  exact hcause

theorem onlyRegs_emergencyCheck (replica : Nat) : OnlyRegs s (emergencyCheck s replica) faultRegs := by
  have hrefl : OnlyRegs s s faultRegs := (OnlyRegs.refl s).mono (List.nil_subset _)
  unfold emergencyCheck
  split
  · exact hrefl
  · split
    · split
      · exact hrefl
      · intro a ha
        exact onlyRegs_setCause (marginLow (s.setMgm { s.mgm with lowTold := true }) 2) 0x33 2 a (fun h => ha (by
          rw [List.mem_singleton.mp h]
          decide))
    · split
      · exact hrefl
      · obtain ⟨-, -, -, h⟩ := emergencyStep_spec (s := s) replica
        exact h
end

end Sys2Proof.Machine
end

section
/-!
PROOFS. The readings of the monitors and the ageing record (21_margin_manager.md, Monitors; Ageing record and life projection).
-/
namespace Sys2Proof.Machine

-- One proof after another: side by side, the threads of so long a text want more memory than the check grants.
set_option Elab.async false

/-! ### Signed fields and extremes of lists -/

theorem unsigned_toInt {w : Nat} (b : BitVec w) : unsigned w b.toInt = b.toNat := by
  have hlt := b.isLt
  have hmod : b.toInt % ((2 ^ w : Nat) : Int) = (b.toNat : Int) := by
    rw [BitVec.toInt_eq_toNat_cond]
    split
    · exact Int.emod_eq_of_lt (Int.natCast_nonneg _) (by exact_mod_cast hlt)
    · rw [Int.sub_emod, Int.emod_self, Int.sub_zero, Int.emod_emod_of_dvd _ (dvd_refl _)]
      exact Int.emod_eq_of_lt (Int.natCast_nonneg _) (by exact_mod_cast hlt)
  rw [unsigned, hmod, Int.toNat_natCast]

theorem signed_range {w : Nat} (hw : 0 < w) (n : Nat) : -(2 ^ (w - 1) : Nat) ≤ signed w n ∧ signed w n < (2 ^ (w - 1) : Nat) := by
  have hpow : 2 ^ w = 2 ^ (w - 1) * 2 := by rw [← Nat.pow_succ, Nat.succ_eq_add_one, Nat.sub_add_cancel hw]
  have hlt := Nat.mod_lt n (Nat.two_pow_pos w)
  have hcast : (2 ^ w : Int) = ((2 ^ w : Nat) : Int) := by norm_cast
  unfold signed
  split
  · omega
  · rw [hcast]
    omega

theorem signed_unsigned {w : Nat} (hw : 0 < w) {x : Int} (h : -(2 ^ (w - 1) : Nat) ≤ x ∧ x < (2 ^ (w - 1) : Nat)) :
    signed w (unsigned w x % 2 ^ w) = x := by
  have hpow : 2 ^ w = 2 ^ (w - 1) * 2 := by rw [← Nat.pow_succ, Nat.succ_eq_add_one, Nat.sub_add_cancel hw]
  have hcast : (2 ^ w : Int) = ((2 ^ w : Nat) : Int) := by norm_cast
  have hlt : unsigned w x < 2 ^ w := by
    have := Int.emod_lt_of_pos x (b := ((2 ^ w : Nat) : Int)) (by exact_mod_cast Nat.two_pow_pos w)
    have h0 := Int.emod_nonneg x (b := ((2 ^ w : Nat) : Int)) (by have := Nat.two_pow_pos w; omega)
    unfold unsigned
    omega
  unfold signed
  rw [Nat.mod_mod, Nat.mod_eq_of_lt hlt, hcast]
  unfold unsigned
  by_cases hx : 0 ≤ x
  · rw [Int.emod_eq_of_lt hx (by omega), if_pos (by omega)]
    omega
  · have hmod : x % ((2 ^ w : Nat) : Int) = x + ((2 ^ w : Nat) : Int) := by
      rw [← Int.add_emod_right, Int.emod_eq_of_lt (by omega) (by omega)]
    rw [hmod, if_neg (by omega)]
    omega

section
variable {α : Type} [LinearOrder α]

/-- The element that a search for the least keeps. -/
theorem foldl_argmin (f : Nat → α) (l : List Nat) (i : Nat) :
    l.foldl (fun w j => if f j < f w then j else w) i ∈ i :: l ∧ ∀ j ∈ i :: l, f (l.foldl (fun w j => if f j < f w then j else w) i) ≤ f j := by
  induction l generalizing i with
  | nil => exact ⟨List.mem_singleton_self i, fun j hj => by rw [List.mem_singleton.mp hj]; exact le_refl _⟩
  | cons k l ih =>
    obtain ⟨hmem, hle⟩ := ih (if f k < f i then k else i)
    rw [List.foldl_cons]
    have hfirst := hle _ List.mem_cons_self
    refine ⟨?_, fun j hj => ?_⟩
    · rcases List.mem_cons.mp hmem with h | h
      · rw [h]
        split
        · exact List.mem_cons_of_mem i List.mem_cons_self
        · exact List.mem_cons_self
      · exact List.mem_cons_of_mem i (List.mem_cons_of_mem k h)
    · rcases List.mem_cons.mp hj with rfl | hj
      · refine hfirst.trans ?_
        split
        · exact le_of_lt ‹_›
        · exact le_refl _
      · rcases List.mem_cons.mp hj with rfl | hj
        · refine hfirst.trans ?_
          split
          · exact le_refl _
          · exact not_lt.mp ‹_›
        · exact hle j (List.mem_cons_of_mem _ hj)

/-- A running greatest is one of the values, and none is greater. -/
theorem foldl_max (f : Nat → α) (l : List Nat) (i : Nat) :
    (∃ k ∈ i :: l, l.foldl (fun m j => max m (f j)) (f i) = f k) ∧ ∀ j ∈ i :: l, f j ≤ l.foldl (fun m j => max m (f j)) (f i) := by
  induction l using List.reverseRecOn with
  | nil => exact ⟨⟨i, List.mem_singleton_self i, rfl⟩, fun j hj => by rw [List.mem_singleton.mp hj]; exact le_refl _⟩
  | append_singleton l k ih =>
    obtain ⟨⟨m, hm, heq⟩, hle⟩ := ih
    rw [List.foldl_append, List.foldl_cons, List.foldl_nil]
    have hsub : ∀ j ∈ i :: l, j ∈ i :: (l ++ [k]) := fun j hj => by
      rcases List.mem_cons.mp hj with h | h
      · rw [h]
        exact List.mem_cons_self
      · exact List.mem_cons_of_mem i (List.mem_append_left _ h)
    refine ⟨?_, fun j hj => ?_⟩
    · rcases max_choice (l.foldl (fun m j => max m (f j)) (f i)) (f k) with h | h
      · exact ⟨m, hsub m hm, h.trans heq⟩
      · exact ⟨k, List.mem_cons_of_mem i (List.mem_append_right _ (List.mem_singleton_self k)), h⟩
    · rcases List.mem_cons.mp hj with h | h
      · exact (hle j (by rw [h]; exact List.mem_cons_self)).trans (le_max_left _ _)
      · rcases List.mem_append.mp h with h | h
        · exact (hle j (List.mem_cons_of_mem i h)).trans (le_max_left _ _)
        · rw [List.mem_singleton.mp h]
          exact le_max_right _ _

end

/-- A running least is one of the values, and none is less. -/
theorem foldl_min (f : Nat → Int) (l : List Nat) (i : Nat) :
    (∃ k ∈ i :: l, l.foldl (fun m j => min m (f j)) (f i) = f k) ∧ ∀ j ∈ i :: l, l.foldl (fun m j => min m (f j)) (f i) ≤ f j :=
  foldl_max (α := Intᵒᵈ) f l i

section
variable {s t u : State}

/-- A reading shown in a register of its own: its value and VALID. -/
theorem readingShown {f g : Fld} (v : Nat) (hf : f.lsb + f.width ≤ 32) (hg : g.lsb + g.width ≤ 32) (hw : g.width = 1) (ha : f.addr = g.addr)
    (hd : f.lsb + f.width ≤ g.lsb) :
    ((s.setFld f v).setFld g 1).fld f = v % 2 ^ f.width ∧ ((s.setFld f v).setFld g 1).flag g = true ∧
      OnlyRegs s ((s.setFld f v).setFld g 1) [g.addr] :=
  ⟨(State.fld_setFld_apart _ g f 1 hg (Or.inr (Or.inl hd))).trans (State.fld_setFld_self s f v hf), State.flag_setFld_one _ hw hg,
    (ha ▸ onlyRegs_setFld s f v).again (onlyRegs_setFld _ g 1)⟩

theorem State.sfld_of_fld {f : Fld} (h : t.fld f = s.fld f) : t.sfld f = s.sfld f := by rw [State.sfld, h, State.sfld]

/-! ### Replicas of paths (R662, R673) -/

/-- A replica's margin shown. -/
def pathShown (s : State) (i : Nat) (mv : Int) : State := (s.setFld (F.MGM_PATH_MV i) (unsigned 16 mv)).setFld (F.MGM_PATH_VALID i) 1

/-- The replicas read. -/
def pathsRead (s : State) : List Nat := (List.range 32).filter (fun i => s.flag (F.MGM_PATH_VALID i))

/-- The event of the plan in force written. -/
def planTold (s : State) : State :=
  match s.mgm.planEvent with
  | some bs => (s.event 0x33 0 0x1500 0 bs).setMgm { s.mgm with planEvent := none }
  | none => s

/-- A voltage under VID confirmed or failed by the margin read. -/
def voltChecked (s : State) (before margin : Int) : State :=
  match s.mgm.volt with
  | .confirming v true =>
    if mgmAct s != 1 then s
    else if (margin - (before + ((v : Int) - s.mgm.vNow))).natAbs ≤ 15 then voltConfirmed s v else avsFault s 2
  | _ => s

/-- What a reading of the paths leads to once the lowest margin, of replica `worst`, is shown. -/
def pathFollows (s : State) (before : Int) (worst : Nat) (margin : Int) : State := emergencyCheck (voltChecked (planTold s) before margin) worst

theorem pathReading_eq {i k : Nat} {l : List Nat} (mv : Int) (h : pathsRead (pathShown s i mv) = k :: l) :
    pathReading s [(i, mv)] =
      pathFollows ((pathShown s i mv).setFld F.MGM_MARGINS_PATH_MV (unsigned 16 ((pathShown s i mv).sfld (F.MGM_PATH_MV
        (l.foldl (fun w j => if (pathShown s i mv).sfld (F.MGM_PATH_MV j) < (pathShown s i mv).sfld (F.MGM_PATH_MV w) then j else w) k)))))
        (pathMargin s) (l.foldl (fun w j => if (pathShown s i mv).sfld (F.MGM_PATH_MV j) < (pathShown s i mv).sfld (F.MGM_PATH_MV w) then j else w) k)
        ((pathShown s i mv).sfld (F.MGM_PATH_MV
          (l.foldl (fun w j => if (pathShown s i mv).sfld (F.MGM_PATH_MV j) < (pathShown s i mv).sfld (F.MGM_PATH_MV w) then j else w) k))) := by
  unfold pathReading
  simp only [List.foldl_cons, List.foldl_nil]
  rw [show (List.range 32).filter (fun i_1 => ((s.setFld (F.MGM_PATH_MV i) (unsigned 16 mv)).setFld (F.MGM_PATH_VALID i) 1).flag
    (F.MGM_PATH_VALID i_1)) = k :: l from h]
  rfl

theorem onlyRegs_pathFollows (before : Int) (worst : Nat) (margin : Int) : OnlyRegs s (pathFollows s before worst margin) faultRegs := by
  have hrefl : ∀ x : State, OnlyRegs x x faultRegs := fun x => (OnlyRegs.refl x).mono (List.nil_subset _)
  have htold : OnlyRegs s (planTold s) faultRegs := by
    unfold planTold
    split
    · exact fun _ _ => rfl
    · exact hrefl s
  have hchecked : OnlyRegs (planTold s) (voltChecked (planTold s) before margin) faultRegs := by
    unfold voltChecked
    split
    · split
      · exact hrefl _
      · split
        · exact onlyRegs_voltConfirmed _
        · exact onlyRegs_avsFault _
    · exact hrefl _
  exact (htold.again hchecked).again (onlyRegs_emergencyCheck worst)

theorem pathFollows_quiet (before : Int) (worst : Nat) (margin : Int) (he : s.mgm.planEvent = none) (hv : s.mgm.volt = .none) :
    pathFollows s before worst margin = emergencyCheck s worst := by
  have htold : planTold s = s := by simp only [planTold, he]
  rw [pathFollows, htold]
  simp only [voltChecked, hv]

theorem emergencyCheck_calm (worst : Nat) (h : (s.fld F.MGM_MARGIN_CFG_EMERG_MV : Int) ≤ pathMargin s) : emergencyCheck s worst = s := if_pos h

theorem emergencyCheck_step (worst : Nat) (h : pathMargin s < (s.fld F.MGM_MARGIN_CFG_EMERG_MV : Int)) (hw : s.mgm.work = none)
    (hf : s.fld F.MGM_CBOUND_CLK_MIN_MHZ < s.mgm.fNow) : emergencyCheck s worst = emergencyStep s worst := by
  rw [emergencyCheck, if_neg (not_le.mpr h), decide_eq_false (not_le.mpr hf), Bool.false_and, if_neg Bool.false_ne_true, hw,
    if_neg (by decide)]

/-- One replica read. -/
theorem pathReading_spec (i : Fin 32) (mv : BitVec 16) :
    ∃ u worst, pathReading s [(i.val, mv.toInt)] = pathFollows u (pathMargin s) worst (pathMargin u) ∧ u = { s with regs := u.regs } ∧
      u.fld (F.MGM_PATH_MV i) = mv.toNat ∧ u.flag (F.MGM_PATH_VALID i) = true ∧
      (∀ j, j < 32 → u.flag (F.MGM_PATH_VALID j) = true → pathMargin u ≤ u.sfld (F.MGM_PATH_MV j)) ∧
      (∃ j, j < 32 ∧ u.flag (F.MGM_PATH_VALID j) = true ∧ pathMargin u = u.sfld (F.MGM_PATH_MV j)) ∧
      OnlyRegs s u [A.MGM_PATH i, A.MGM_MARGINS] := by
  obtain ⟨hmv, hvalid, honly⟩ := readingShown (s := s) (f := F.MGM_PATH_MV i) (g := F.MGM_PATH_VALID i) (unsigned 16 mv.toInt) (by simp) (by simp)
    rfl rfl (by simp)
  have hframe : pathShown s i mv.toInt = { s with regs := (pathShown s i mv.toInt).regs } := rfl
  have hmem : i.val ∈ pathsRead (pathShown s i mv.toInt) := List.mem_filter.mpr ⟨List.mem_range.mpr i.isLt, hvalid⟩
  change (pathShown s i mv.toInt).fld _ = _ at hmv
  change (pathShown s i mv.toInt).flag _ = true at hvalid
  change OnlyRegs s (pathShown s i mv.toInt) _ at honly
  obtain ⟨k, l, hread⟩ := List.exists_cons_of_ne_nil (List.ne_nil_of_mem hmem)
  have heq := pathReading_eq (s := s) mv.toInt hread
  have hin : ∀ j, j ∈ k :: l ↔ j < 32 ∧ (pathShown s i mv.toInt).flag (F.MGM_PATH_VALID j) = true := fun j => by
    rw [← hread, pathsRead, List.mem_filter, List.mem_range]
  rw [unsigned_toInt, Nat.mod_eq_of_lt mv.isLt] at hmv
  generalize pathShown s i mv.toInt = v at *
  obtain ⟨hw, hleast⟩ := foldl_argmin (fun j => v.sfld (F.MGM_PATH_MV j)) l k
  generalize l.foldl _ k = worst at heq hw hleast
  have hmargin : pathMargin (v.setFld F.MGM_MARGINS_PATH_MV (unsigned 16 (v.sfld (F.MGM_PATH_MV worst)))) = v.sfld (F.MGM_PATH_MV worst) := by
    rw [pathMargin, State.sfld, State.fld_setFld_self v F.MGM_MARGINS_PATH_MV _ (by decide)]
    exact signed_unsigned (by decide) (signed_range (by decide) _)
  have hset := onlyRegs_setFld v F.MGM_MARGINS_PATH_MV (unsigned 16 (v.sfld (F.MGM_PATH_MV worst)))
  have hframe' : v.setFld F.MGM_MARGINS_PATH_MV (unsigned 16 (v.sfld (F.MGM_PATH_MV worst))) =
      { s with regs := (v.setFld F.MGM_MARGINS_PATH_MV (unsigned 16 (v.sfld (F.MGM_PATH_MV worst)))).regs } := by
    have : ∀ (f : Fld) x, v.setFld f x = { v with regs := (v.setFld f x).regs } := fun _ _ => rfl
    refine (this _ _).trans ?_
    generalize (v.setFld F.MGM_MARGINS_PATH_MV (unsigned 16 (v.sfld (F.MGM_PATH_MV worst)))).regs = r
    rw [hframe]
  generalize v.setFld F.MGM_MARGINS_PATH_MV (unsigned 16 (v.sfld (F.MGM_PATH_MV worst))) = u at *
  rw [← hmargin] at heq
  have hpath : ∀ j, A.MGM_PATH j = 0x33100 + 4 * j ∧ A.MGM_MARGINS = 0x33054 := fun _ => ⟨rfl, rfl⟩
  have hfld : ∀ f : Fld, (∃ j, f.addr = A.MGM_PATH j) → u.fld f = v.fld f := fun f ⟨j, hj⟩ => hset.fld (by
    rw [hj, List.mem_singleton]
    have := hpath j
    exact fun h => absurd (show A.MGM_PATH j = A.MGM_MARGINS from h) (by omega))
  have hflag : ∀ j, u.flag (F.MGM_PATH_VALID j) = v.flag (F.MGM_PATH_VALID j) := fun j => by
    rw [State.flag, hfld _ ⟨j, rfl⟩, State.flag]
  have hsfld : ∀ j, u.sfld (F.MGM_PATH_MV j) = v.sfld (F.MGM_PATH_MV j) := fun j => State.sfld_of_fld (hfld _ ⟨j, rfl⟩)
  refine ⟨u, worst, heq, hframe', (hfld _ ⟨i, rfl⟩).trans hmv, (hflag i).trans hvalid, fun j hj hjv => ?_, ⟨worst, ?_, ?_, ?_⟩, honly.trans hset⟩
  · rw [hsfld, hmargin]
    exact hleast j ((hin j).mpr ⟨hj, (hflag j).symm.trans hjv⟩)
  · exact ((hin worst).mp hw).1
  · exact (hflag worst).trans ((hin worst).mp hw).2
  · rw [hmargin, hsfld]

theorem path_settled : ∀ j : Nat, A.MGM_PATH j ∉ faultRegs := fun j h => by
  have hlow : ∀ a ∈ faultRegs, a < 0x33100 := by decide
  have := hlow _ h
  have haddr : A.MGM_PATH j = 0x33100 + 4 * j := rfl
  omega

/-! ### Sensors of temperature (R661) -/

/-- A temperature shown, that of a lane with it. -/
def tempShown (s : State) (i : Nat) (deg : Int) : State :=
  let t := (s.setFld (F.MGM_TEMP_DEG_C i) (unsigned 8 deg)).setFld (F.MGM_TEMP_VALID i) 1
  if 4 ≤ i && i < 8 then t.setFld (F.LRF_STATUS_TEMP (i - 4)) (unsigned 8 deg) else t

/-- The next plan falls due where a sensor has moved far from its temperature at the last one (R666). -/
def tempDue (s : State) (i : Nat) (deg : Int) : State :=
  if Tbl.get (fun _ => 0) s.mgm.planTemps i != 0 &&
      s.fld F.MGM_PLAN_CFG_T_TRIG < (deg - (((Tbl.get (fun _ => 0) s.mgm.planTemps i : Nat) : Int) - 256)).natAbs then
    s.setMgm { s.mgm with planDue := true } else s

/-- The alarm of a sensor (R676). -/
def tempAlarm (s : State) (i : Nat) (deg : Int) : State :=
  if (s.fld F.MGM_MARGIN_CFG_TJ_ALARM : Int) < deg then
    if s.mgm.hot.contains i then s
    else
      setCause ((s.setMgm { s.mgm with hot := s.mgm.hot ++ [i] }).event 0x33 0 0x1504 3 (leBytes 1 i ++ leBytes 1 (unsigned 8 deg))) 0x33 5
  else s.setMgm { s.mgm with hot := s.mgm.hot.filter (· != i) }

theorem tempRead_eq (i : Nat) (deg : Int) : tempRead s i deg = tempAlarm (tempDue (tempShown s i deg) i deg) i deg := rfl

theorem tempAddr (k : Nat) : A.MGM_TEMP k = 0x33080 + 4 * k ∧ A.LRF_STATUS k = 0x1000C + 0x1000 * k := ⟨rfl, rfl⟩

theorem tempShown_spec {i : Nat} (hi : i < 12) (deg : BitVec 8) :
    (tempShown s i deg.toInt).fld (F.MGM_TEMP_DEG_C i) = deg.toNat ∧ (tempShown s i deg.toInt).flag (F.MGM_TEMP_VALID i) = true ∧
      (4 ≤ i → i < 8 → (tempShown s i deg.toInt).fld (F.LRF_STATUS_TEMP (i - 4)) = deg.toNat) ∧ (tempShown s i deg.toInt).mgm = s.mgm ∧
      OnlyRegs s (tempShown s i deg.toInt) [A.MGM_TEMP i, A.LRF_STATUS (i - 4)] := by
  obtain ⟨hdeg, hvalid, honly⟩ := readingShown (s := s) (f := F.MGM_TEMP_DEG_C i) (g := F.MGM_TEMP_VALID i) (unsigned 8 deg.toInt) (by simp)
    (by simp) rfl rfl (by simp)
  have hmgm : ((s.setFld (F.MGM_TEMP_DEG_C i) (unsigned 8 deg.toInt)).setFld (F.MGM_TEMP_VALID i) 1).mgm = s.mgm := by simp
  unfold tempShown
  simp only
  rw [unsigned_toInt] at *
  rw [show deg.toNat % 2 ^ 8 = deg.toNat from Nat.mod_eq_of_lt deg.isLt] at hdeg
  generalize (s.setFld (F.MGM_TEMP_DEG_C i) deg.toNat).setFld (F.MGM_TEMP_VALID i) 1 = t at *
  by_cases h : 4 ≤ i ∧ i < 8
  · have hset := onlyRegs_setFld t (F.LRF_STATUS_TEMP (i - 4)) deg.toNat
    have hself := State.fld_setFld_self t (F.LRF_STATUS_TEMP (i - 4)) deg.toNat (by simp)
    have hpart : (t.setFld (F.LRF_STATUS_TEMP (i - 4)) deg.toNat).mgm = t.mgm := State.setFld_mgm _ _ _
    have haddr : A.MGM_TEMP i ∉ [(F.LRF_STATUS_TEMP (i - 4)).addr] := by
      have hi' := tempAddr i
      have hl := tempAddr (i - 4)
      rw [List.mem_singleton]
      exact fun h => absurd (show A.MGM_TEMP i = A.LRF_STATUS (i - 4) from h) (by omega)
    rw [show (decide (4 ≤ i) && decide (i < 8)) = true by simp [h]]
    simp only [if_true]
    generalize t.setFld (F.LRF_STATUS_TEMP (i - 4)) deg.toNat = u at *
    exact ⟨(hset.fld haddr).trans hdeg, (hset.flag haddr).trans hvalid, fun _ _ => hself.trans (Nat.mod_eq_of_lt deg.isLt), hpart.trans hmgm,
      honly.trans hset⟩
  · rw [show (decide (4 ≤ i) && decide (i < 8)) = false by
      rw [Bool.and_eq_false_iff, decide_eq_false_iff_not, decide_eq_false_iff_not]
      omega]
    exact ⟨hdeg, hvalid, fun h4 h8 => absurd ⟨h4, h8⟩ h, hmgm, honly.mono (by simp)⟩

theorem tempDue_spec (i : Nat) (deg : Int) : (tempDue s i deg).regs = s.regs ∧ (tempDue s i deg).mgm.hot = s.mgm.hot := by
  unfold tempDue
  split
  · exact ⟨rfl, rfl⟩
  · exact ⟨rfl, rfl⟩

theorem tempAlarm_regs (i : Nat) (deg : Int) : OnlyRegs s (tempAlarm s i deg) [0x33010] := by
  have hrefl : OnlyRegs s s [0x33010] := fun _ _ => rfl
  unfold tempAlarm
  split
  · split
    · exact hrefl
    · exact fun a ha => onlyRegs_setCause _ 0x33 5 a ha
  · exact fun _ _ => rfl

theorem tempAlarm_spec {i : Nat} {deg : Int} (h : (s.fld F.MGM_MARGIN_CFG_TJ_ALARM : Int) < deg) (hh : s.mgm.hot.contains i = false) :
    causeSet (tempAlarm s i deg) 0x33 5 = true ∧ lastEvent (tempAlarm s i deg) 0x33 0x1504 ∧ (tempAlarm s i deg).mgm.hot = s.mgm.hot ++ [i] := by
  rw [tempAlarm, if_pos h, hh, if_neg Bool.false_ne_true]
  refine ⟨(causeSet_setCause _ 0x33 5 5 (by decide)).trans (Bool.or_true _), lastEvent_setCause _ _ (lastEvent_event _ _ _ _ _), ?_⟩
  rw [setCause_mgm]
  rfl

/-- The highest valid temperature shown, and that of the period (R661). -/
def tempHighest (s : State) (t : Int) : State :=
  (s.setFld F.MGM_STATUS_TJ_MAX (unsigned 8 t)).setMgm { s.mgm with period := { s.mgm.period with tj := some (match s.mgm.period.tj with
    | none => t
    | some u => max t u) } }

theorem tempReading_eq {i : Nat} {deg m : Int} (h : tjMax (tempRead s i deg) = some m) :
    tempReading s [(i, deg)] = tempHighest (tempRead s i deg) m := by
  unfold tempReading
  simp only [List.foldl_cons, List.foldl_nil, h]
  rfl

theorem tjMax_spec {i : Nat} (hi : i < 12) (h : s.flag (F.MGM_TEMP_VALID i) = true) :
    ∃ m, tjMax s = some m ∧ (-(128 : Int) ≤ m ∧ m < 128) ∧ ∀ j, j < 12 → s.flag (F.MGM_TEMP_VALID j) = true → s.sfld (F.MGM_TEMP_DEG_C j) ≤ m := by
  have hmem : i ∈ (List.range 12).filter (fun i => s.flag (F.MGM_TEMP_VALID i)) := List.mem_filter.mpr ⟨List.mem_range.mpr hi, h⟩
  obtain ⟨k, l, hread⟩ := List.exists_cons_of_ne_nil (List.ne_nil_of_mem hmem)
  obtain ⟨⟨k', -, heq⟩, hle⟩ := foldl_max (fun j => s.sfld (F.MGM_TEMP_DEG_C j)) l k
  refine ⟨_, by rw [tjMax, hread], ?_, fun j hj hv => hle j ?_⟩
  · rw [heq]
    exact signed_range (w := 8) (by decide) _
  · rw [← hread]
    exact List.mem_filter.mpr ⟨List.mem_range.mpr hj, hv⟩

theorem tempHighest_spec {m : Int} (h : -(128 : Int) ≤ m ∧ m < 128) :
    (tempHighest s m).sfld F.MGM_STATUS_TJ_MAX = m ∧ OnlyRegs s (tempHighest s m) [A.MGM_STATUS] ∧ (tempHighest s m).log = s.log ∧
      (tempHighest s m).mgm.hot = s.mgm.hot := by
  have hregs : (tempHighest s m).regs = (s.setFld F.MGM_STATUS_TJ_MAX (unsigned 8 m)).regs := rfl
  refine ⟨?_, onlyRegs_of_regs (onlyRegs_setFld s _ _) hregs, rfl, rfl⟩
  rw [State.sfld, State.fld_congr (State.reg_congr hregs _), State.fld_setFld_self _ _ _ (by decide)]
  exact signed_unsigned (w := 8) (by decide) h

/-- One sensor read. -/
theorem tempReading_spec (i : Fin 12) (deg : BitVec 8) (t : State) (ht : t = tempReading s [(i.val, deg.toInt)]) :
    t.fld (F.MGM_TEMP_DEG_C i) = deg.toNat ∧ t.flag (F.MGM_TEMP_VALID i) = true ∧
      (∀ j, j < 12 → t.flag (F.MGM_TEMP_VALID j) = true → t.sfld (F.MGM_TEMP_DEG_C j) ≤ t.sfld F.MGM_STATUS_TJ_MAX) ∧
      (4 ≤ i.val → i.val < 8 → t.fld (F.LRF_STATUS_TEMP (i.val - 4)) = deg.toNat) ∧
      ((s.fld F.MGM_MARGIN_CFG_TJ_ALARM : Int) < deg.toInt → s.mgm.hot.contains i.val = false → causeSet t 0x33 5 = true ∧
        lastEvent t 0x33 0x1504 ∧ t.mgm.hot = s.mgm.hot ++ [i.val]) := by
  obtain ⟨hdeg, hvalid, hlane, hmgm, honly⟩ := tempShown_spec (s := s) i.isLt deg
  have heq := tempRead_eq (s := s) i deg.toInt
  generalize tempShown s i deg.toInt = u at *
  obtain ⟨hdregs, hdhot⟩ := tempDue_spec (s := u) i deg.toInt
  generalize tempDue u i deg.toInt = v at *
  have haregs := tempAlarm_regs (s := v) i deg.toInt
  have halarm := tempAlarm_spec (s := v) (i := i) (deg := deg.toInt)
  rw [← heq] at haregs halarm
  have hread : OnlyRegs u (tempRead s i deg.toInt) [0x33010] := fun a ha => (haregs a ha).trans (State.reg_congr hdregs a)
  have htempaddr : ∀ j, A.MGM_TEMP j ∉ [0x33010] ∧ A.MGM_TEMP j ∉ [A.MGM_STATUS] ∧ A.LRF_STATUS j ∉ [0x33010] ∧ A.LRF_STATUS j ∉ [A.MGM_STATUS] ∨ 12 ≤ j :=
    fun j => by
      have := tempAddr j
      have hs : A.MGM_STATUS = 0x3300C := rfl
      simp only [List.mem_singleton]
      omega
  obtain ⟨m, hm, hrange, hgreatest⟩ := tjMax_spec (s := tempRead s i deg.toInt) i.isLt (by
    rcases htempaddr i with h | h
    · exact (hread.flag h.1).trans hvalid
    · exact absurd i.isLt (by omega))
  rw [tempReading_eq hm] at ht
  generalize tempRead s i deg.toInt = x at *
  obtain ⟨htj, hhigh, hlog, hhot⟩ := tempHighest_spec (s := x) hrange
  rw [← ht] at htj hhigh hlog hhot
  have hall : ∀ f : Fld, f.addr ∉ [0x33010] → f.addr ∉ [A.MGM_STATUS] → t.fld f = u.fld f := fun f h1 h2 => (hhigh.fld h2).trans (hread.fld h1)
  have hi := i.isLt
  have hself := (htempaddr i).resolve_right (by omega)
  refine ⟨(hall _ hself.1 hself.2.1).trans hdeg, ?_, fun j hj hv => ?_, fun h4 h8 => ?_, fun ha hh => ?_⟩
  · rw [State.flag, hall _ hself.1 hself.2.1]
    exact hvalid
  · have hj' := (htempaddr j).resolve_right (by omega)
    rw [htj, State.sfld_of_fld (s := x) (hhigh.fld hj'.2.1)]
    exact hgreatest j hj ((hhigh.flag hj'.2.1).symm.trans hv)
  · have hl := (htempaddr (i.val - 4)).resolve_right (by omega)
    exact (hall _ hl.2.2.1 hl.2.2.2).trans (hlane h4 h8)
  · have hconf : v.fld F.MGM_MARGIN_CFG_TJ_ALARM = s.fld F.MGM_MARGIN_CFG_TJ_ALARM := by
      rw [State.fld_congr (State.reg_congr hdregs _)]
      refine honly.fld ?_
      have hi' := tempAddr i
      have hl := tempAddr (i.val - 4)
      have hc : A.MGM_MARGIN_CFG = 0x33030 := rfl
      simp only [List.mem_cons, List.not_mem_nil, or_false]
      omega
    obtain ⟨hcause, hevent, hadded⟩ := halarm (by rw [hconf]; exact ha) (by rw [hdhot, hmgm]; exact hh)
    refine ⟨?_, lastEvent_of_log hlog hevent, by rw [hhot, hadded, hdhot, hmgm]⟩
    rw [causeSet, hhigh _ (by decide)]
    exact hcause

/-! ### Canaries (R663) -/

/-- A canary's margin shown. -/
def canaryShown (s : State) (i : Nat) (mv : Int) : State := (s.setFld (F.MGM_CANARY_MV i) (unsigned 16 mv)).setFld (F.MGM_CANARY_VALID i) 1

/-- The lowest SRAM margin shown, and that of the period. -/
def sramShown (s : State) (m : Int) : State :=
  let s := s.setFld F.MGM_MARGINS_SRAM_MV (unsigned 16 m)
  s.setMgm { s.mgm with period := { s.mgm.period with sram := some (match s.mgm.period.sram with
    | none => m
    | some u => min m u) } }

theorem canaryReading_eq {i k : Nat} {l : List Nat} (mv : Int)
    (h : (List.range 8).filter (fun j => (canaryShown s i mv).flag (F.MGM_CANARY_VALID j)) = k :: l) :
    canaryReading s [(i, mv)] = sramShown (canaryShown s i mv)
      (l.foldl (fun m j => min m ((canaryShown s i mv).sfld (F.MGM_CANARY_MV j))) ((canaryShown s i mv).sfld (F.MGM_CANARY_MV k))) := by
  unfold canaryReading
  simp only [List.foldl_cons, List.foldl_nil]
  rw [show (List.range 8).filter (fun j => ((s.setFld (F.MGM_CANARY_MV i) (unsigned 16 mv)).setFld (F.MGM_CANARY_VALID i) 1).flag
    (F.MGM_CANARY_VALID j)) = k :: l from h]
  rfl

/-- One canary read. -/
theorem canaryReading_spec (i : Fin 8) (mv : BitVec 16) (t : State) (ht : t = canaryReading s [(i.val, mv.toInt)]) :
    t.fld (F.MGM_CANARY_MV i) = mv.toNat ∧ t.flag (F.MGM_CANARY_VALID i) = true ∧
      (∀ j, j < 8 → t.flag (F.MGM_CANARY_VALID j) = true → t.sfld F.MGM_MARGINS_SRAM_MV ≤ t.sfld (F.MGM_CANARY_MV j)) ∧
      t.fld F.MGM_MARGINS_PATH_MV = s.fld F.MGM_MARGINS_PATH_MV ∧ OnlyRegs s t [A.MGM_CANARY i, A.MGM_MARGINS] ∧
      t = { s with regs := t.regs, mgm := t.mgm } := by
  obtain ⟨hmv, hvalid, honly⟩ := readingShown (s := s) (f := F.MGM_CANARY_MV i) (g := F.MGM_CANARY_VALID i) (unsigned 16 mv.toInt) (by simp)
    (by simp) rfl rfl (by simp)
  have hframe : canaryShown s i mv.toInt = { s with regs := (canaryShown s i mv.toInt).regs } := rfl
  change (canaryShown s i mv.toInt).fld _ = _ at hmv
  change (canaryShown s i mv.toInt).flag _ = true at hvalid
  change OnlyRegs s (canaryShown s i mv.toInt) _ at honly
  rw [unsigned_toInt, Nat.mod_eq_of_lt mv.isLt] at hmv
  have hmem : i.val ∈ (List.range 8).filter (fun j => (canaryShown s i mv.toInt).flag (F.MGM_CANARY_VALID j)) :=
    List.mem_filter.mpr ⟨List.mem_range.mpr i.isLt, hvalid⟩
  obtain ⟨k, l, hread⟩ := List.exists_cons_of_ne_nil (List.ne_nil_of_mem hmem)
  rw [canaryReading_eq mv.toInt hread] at ht
  generalize canaryShown s i mv.toInt = v at *
  obtain ⟨⟨k', -, heq⟩, hle⟩ := foldl_min (fun j => v.sfld (F.MGM_CANARY_MV j)) l k
  have hrange : -(2 ^ (16 - 1) : Nat) ≤ l.foldl (fun m j => min m (v.sfld (F.MGM_CANARY_MV j))) (v.sfld (F.MGM_CANARY_MV k)) ∧
      l.foldl (fun m j => min m (v.sfld (F.MGM_CANARY_MV j))) (v.sfld (F.MGM_CANARY_MV k)) < (2 ^ (16 - 1) : Nat) := by
    rw [heq]
    exact signed_range (w := 16) (by decide) _
  generalize l.foldl (fun m j => min m (v.sfld (F.MGM_CANARY_MV j))) (v.sfld (F.MGM_CANARY_MV k)) = m at *
  have hregs : t.regs = (v.setFld F.MGM_MARGINS_SRAM_MV (unsigned 16 m)).regs := by rw [ht]; rfl
  have hset : OnlyRegs v t [A.MGM_MARGINS] := onlyRegs_of_regs (onlyRegs_setFld v F.MGM_MARGINS_SRAM_MV (unsigned 16 m)) hregs
  have hsram : t.sfld F.MGM_MARGINS_SRAM_MV = m := by
    rw [State.sfld, State.fld_congr (State.reg_congr hregs _), State.fld_setFld_self _ _ _ (by decide)]
    exact signed_unsigned (w := 16) (by decide) hrange
  have haddr : ∀ j, A.MGM_CANARY j ∉ [A.MGM_MARGINS] := fun j => by
    have h1 : A.MGM_CANARY j = 0x33180 + 4 * j := rfl
    have h2 : A.MGM_MARGINS = 0x33054 := rfl
    rw [List.mem_singleton]
    omega
  refine ⟨(hset.fld (haddr i)).trans hmv, (hset.flag (haddr i)).trans hvalid, fun j hj hv => ?_, ?_, honly.trans hset, ?_⟩
  · rw [hsram, State.sfld_of_fld (s := v) (hset.fld (haddr j))]
    refine hle j ?_
    rw [← hread]
    exact List.mem_filter.mpr ⟨List.mem_range.mpr hj, (hset.flag (haddr j)).symm.trans hv⟩
  · rw [State.fld_congr (State.reg_congr hregs _),
      State.fld_setFld_apart v F.MGM_MARGINS_SRAM_MV F.MGM_MARGINS_PATH_MV _ (by decide) (Or.inr (Or.inr (by decide)))]
    exact honly.fld (fun h => haddr i (List.mem_singleton.mpr (List.mem_singleton.mp h).symm))
  · have hshown : Touches [.regs, .mgm] [0x33] v t := by
      rw [ht]
      exact (touches_setFld (x := v) F.MGM_MARGINS_SRAM_MV (unsigned 16 m)).mono.trans (touches_parts [.mgm] rfl : Touches [.mgm] [] _ _).mono
    rw [hframe] at hshown
    exact hshown.eq

/-! ### Retention (R664) -/

/-- The row that a cycle of probes finds weakest. -/
def weakestRow (s : State) : Nat :=
  (List.range 16).foldl (fun w i => if Tbl.get (fun _ => 0) s.mgm.probes i < Tbl.get (fun _ => 0) s.mgm.probes w then i else w) 0

theorem weakestRow_spec : weakestRow s < 16 ∧
    ∀ i, i < 16 → Tbl.get (fun _ => 0) s.mgm.probes (weakestRow s) ≤ Tbl.get (fun _ => 0) s.mgm.probes i := by
  obtain ⟨hmem, hle⟩ := foldl_argmin (fun i => Tbl.get (fun _ => 0) s.mgm.probes i) (List.range 16) 0
  refine ⟨?_, fun i hi => hle i (List.mem_cons_of_mem 0 (List.mem_range.mpr hi))⟩
  rcases List.mem_cons.mp hmem with h | h
  · rw [weakestRow, h]
    decide
  · exact List.mem_range.mp h

/-- The end of a probe cycle. -/
theorem probeCycle_spec (w : Nat) (hw : w = weakestRow s) (r : Nat) (hr : r = Tbl.get (fun _ => 0) s.mgm.probes w) :
    (probeCycle s).reg A.MGM_RETENTION = BitVec.ofNat 32 (2 ^ 31 + s.fld (F.MGM_TEMP_DEG_C 8) * 2 ^ 16 + r) ∧ (probeCycle s).mgm.probes = [] ∧
      (r < 64 → causeSet (probeCycle s) 0x33 6 = true ∧ lastEvent (probeCycle s) 0x33 0x1506) := by
  have hcycle : ∃ (u : State) (data : List Byte), probeCycle s = (if r < 64 then setCause (u.event 0x33 0 0x1506 3 data) 0x33 6 else u) ∧
      u.regs = (s.setReg A.MGM_RETENTION (BitVec.ofNat 32 (2 ^ 31 + s.fld (F.MGM_TEMP_DEG_C 8) * 2 ^ 16 + r))).regs ∧ u.mgm.probes = [] := by
    subst hr hw
    exact ⟨_, _, rfl, rfl, rfl⟩
  obtain ⟨u, data, hcycle, hregs, hprobes⟩ := hcycle
  have hself : u.reg A.MGM_RETENTION = BitVec.ofNat 32 (2 ^ 31 + s.fld (F.MGM_TEMP_DEG_C 8) * 2 ^ 16 + r) :=
    (State.reg_congr hregs _).trans (State.reg_setReg_self _ _ _)
  rw [hcycle]
  split
  · refine ⟨(onlyRegs_setCause _ 0x33 6 _ (by decide)).trans hself, ?_, fun _ => ⟨?_, lastEvent_setCause _ _ (lastEvent_event _ _ _ _ _)⟩⟩
    · rw [setCause_mgm]
      exact hprobes
    · exact (causeSet_setCause _ 0x33 6 6 (by decide)).trans (Bool.or_true _)
  · exact ⟨hself, hprobes, fun h => absurd h ‹_›⟩

/-! ### The ageing record (R681) -/

theorem AgeLog.write_spec (l : AgeLog) (hours next : Nat) :
    (l.write hours next).live = { seq := l.live.seq + 1, hours := hours, next := next } ∧ (l.write hours next).records = l.records := by
  unfold AgeLog.write
  by_cases h : l.a.seq < l.b.seq
  · have hlive : l.live = l.b := if_pos h
    rw [if_pos h, hlive]
    exact ⟨if_neg (by simp), rfl⟩
  · have hlive : l.live = l.a := if_neg h
    rw [if_neg h, hlive]
    exact ⟨if_pos (Nat.lt_succ_self _), rfl⟩

theorem touches_orOpen (v : Option Int) (width : Nat) : Touches [.fresh] [] s (orOpen s v width).2 := by
  unfold orOpen
  split
  · exact Touches.refl s
  · exact touches_parts [.fresh] rfl

/-- A record written in its place, the header with it, and a new period begun. -/
def ageWritten (s : State) (l : AgeLog) (hours : Nat) (r : AgeRecord) : State :=
  s.setMgm { s.mgm with
    age := ({ l with records := Tbl.put (fun _ => none) l.records l.live.next (some r) } : AgeLog).write hours ((l.live.next + 1) % 752)
    period := AgePeriod.init }

/-- What the record leads to, shown and reported. -/
def ageTold (s : State) (life k sev : Nat) (data : List Byte) : State :=
  let s := (s.setFld F.MGM_LIFE_YEARS_X10 life).setFld F.MGM_STATUS_LIFE_VALID (b01 (life != 0xFFFF))
  let s := (s.setFld F.MGM_RECORDS_COUNT k).event 0x33 0 0x1505 sev data
  if life < 30 then setCause s 0x33 4 else s

theorem ageRecord_eq (hours : Nat) : ∃ (u : State) (r : AgeRecord) (life k sev : Nat) (data : List Byte), Touches [.fresh] [] s u ∧
    r.hours = hours ∧ ageRecord s hours = ageTold (ageWritten u s.mgm.age hours r) life k sev data := by
  unfold ageRecord
  exact ⟨_, _, _, _, _, _, ((((touches_orOpen _ _).trans (touches_orOpen _ _)).trans (touches_orOpen _ _)).trans (touches_orOpen _ _)).trans
    (touches_orOpen _ _), rfl, rfl⟩

theorem ageTold_spec (life k sev : Nat) (data : List Byte) :
    (ageTold s life k sev data).mgm = s.mgm ∧ lastEvent (ageTold s life k sev data) 0x33 0x1505 ∧
      OnlyRegs s (ageTold s life k sev data) [A.MGM_LIFE, A.MGM_STATUS, A.MGM_RECORDS, 0x33010] := by
  unfold ageTold
  simp only
  have hshown := ((onlyRegs_setFld s F.MGM_LIFE_YEARS_X10 life).trans (onlyRegs_setFld _ F.MGM_STATUS_LIFE_VALID (b01 (life != 0xFFFF)))).trans
    (onlyRegs_setFld _ F.MGM_RECORDS_COUNT k)
  have hmgm : (((s.setFld F.MGM_LIFE_YEARS_X10 life).setFld F.MGM_STATUS_LIFE_VALID (b01 (life != 0xFFFF))).setFld F.MGM_RECORDS_COUNT k).mgm =
      s.mgm := by simp
  generalize ((s.setFld F.MGM_LIFE_YEARS_X10 life).setFld F.MGM_STATUS_LIFE_VALID (b01 (life != 0xFFFF))).setFld F.MGM_RECORDS_COUNT k = u at *
  split
  · refine ⟨(setCause_mgm _ _ _).trans hmgm, lastEvent_setCause _ _ (lastEvent_event _ _ _ _ _),
      (hshown.trans ((onlyRegs_event u 0x33 0 0x1505 sev data).trans (onlyRegs_setCause _ 0x33 4))).mono (by decide)⟩
  · exact ⟨hmgm, lastEvent_event _ _ _ _ _, (hshown.trans (onlyRegs_event u 0x33 0 0x1505 sev data)).mono (by decide)⟩

/-- An hour without a record. -/
theorem ageHour_plain (h : (s.mgm.age.live.hours + 1) % 240 ≠ 0) :
    (ageHour s).mgm.age.live = { seq := s.mgm.age.live.seq + 1, hours := s.mgm.age.live.hours + 1, next := s.mgm.age.live.next } ∧
      (ageHour s).mgm.age.records = s.mgm.age.records ∧ (ageHour s).reg A.MGM_AGE_H = BitVec.ofNat 32 (s.mgm.age.live.hours + 1) ∧
      OnlyRegs s (ageHour s) [A.MGM_AGE_H] := by
  obtain ⟨hlive, hrecords⟩ := s.mgm.age.write_spec (s.mgm.age.live.hours + 1) s.mgm.age.live.next
  have heq : ageHour s = (s.setReg A.MGM_AGE_H (BitVec.ofNat 32 (s.mgm.age.live.hours + 1))).setMgm
      { s.mgm with age := s.mgm.age.write (s.mgm.age.live.hours + 1) s.mgm.age.live.next } := if_neg h
  rw [heq]
  exact ⟨hlive, hrecords, State.reg_setReg_self _ _ _, onlyRegs_setReg s _ _⟩

/-- An hour with its record. -/
theorem ageHour_record (h : (s.mgm.age.live.hours + 1) % 240 = 0) :
    ∃ r, (ageHour s).mgm.age.live =
        { seq := s.mgm.age.live.seq + 1, hours := s.mgm.age.live.hours + 1, next := (s.mgm.age.live.next + 1) % 752 } ∧
      Tbl.get (fun _ => none) (ageHour s).mgm.age.records s.mgm.age.live.next = some r ∧ r.hours = s.mgm.age.live.hours + 1 ∧
      (ageHour s).reg A.MGM_AGE_H = BitVec.ofNat 32 (s.mgm.age.live.hours + 1) ∧ (ageHour s).mgm.period = AgePeriod.init ∧
      lastEvent (ageHour s) 0x33 0x1505 := by
  have heq : ageHour s = ageRecord (s.setReg A.MGM_AGE_H (BitVec.ofNat 32 (s.mgm.age.live.hours + 1))) (s.mgm.age.live.hours + 1) := if_pos h
  have hself := State.reg_setReg_self s A.MGM_AGE_H (BitVec.ofNat 32 (s.mgm.age.live.hours + 1))
  have hmgm : (s.setReg A.MGM_AGE_H (BitVec.ofNat 32 (s.mgm.age.live.hours + 1))).mgm = s.mgm := State.setReg_mgm _ _ _
  rw [heq]
  clear heq h
  generalize BitVec.ofNat 32 (s.mgm.age.live.hours + 1) = w at *
  generalize s.setReg A.MGM_AGE_H w = t at *
  rw [← hmgm]
  generalize t.mgm.age.live.hours + 1 = hours
  obtain ⟨u, r, life, k, sev, data, htouch, hr, heq⟩ := ageRecord_eq (s := t) hours
  rw [heq]
  have hreg : (ageWritten u t.mgm.age hours r).reg A.MGM_AGE_H = w := (htouch.reg _ List.not_mem_nil).trans hself
  have hage : (ageWritten u t.mgm.age hours r).mgm.age =
      ({ t.mgm.age with records := Tbl.put (fun _ => none) t.mgm.age.records t.mgm.age.live.next (some r) } : AgeLog).write hours
        ((t.mgm.age.live.next + 1) % 752) := rfl
  have hperiod : (ageWritten u t.mgm.age hours r).mgm.period = AgePeriod.init := rfl
  generalize ageWritten u t.mgm.age hours r = v at *
  obtain ⟨htold, hevent, honly⟩ := ageTold_spec (s := v) life k sev data
  generalize ageTold v life k sev data = x at *
  obtain ⟨hlive, hrecords⟩ := AgeLog.write_spec
    ({ t.mgm.age with records := Tbl.put (fun _ => none) t.mgm.age.records t.mgm.age.live.next (some r) } : AgeLog) hours
    ((t.mgm.age.live.next + 1) % 752)
  refine ⟨r, ?_, ?_, hr, (honly _ (by decide)).trans hreg, by rw [htold, hperiod], hevent⟩
  · rw [htold, hage, hlive]
    rfl
  · rw [htold, hage, hrecords]
    exact Tbl.get_put_self (fun _ => none) t.mgm.age.records t.mgm.age.live.next (some r)
end

end Sys2Proof.Machine
end

section
/-!
PROOFS. Plans, the ramp of the clock and the regulator (21_margin_manager.md, Planning; Regulator control).
-/
namespace Sys2Proof.Machine

-- One proof after another: side by side, the threads of so long a text want more memory than the check grants.
set_option Elab.async false

section
variable {s t u : State} {w : PlanWork} {n : Nat}

/-! ### A plan made (R666, R668) -/

/-- Whether the plan meets its target, shown and told. -/
def planMarked (s : State) : State :=
  let t := s.setFld F.MGM_STATUS_MARGIN_LOW (b01 (!(planPair s).2.2))
  if (planPair s).2.2 then t else setCause (marginLow t 1) 0x33 2

/-- The plan of the pair chosen. -/
def planMade (s : State) : PlanWork :=
  { emergency := false, mv := (planPair s).2.1, mhz := (planPair s).1, stage := 0,
    margin := Int.fdiv (marginAt (planMarked s) (planPair s).2.1 (planPair s).1) 1000, go := planGo (planMarked s) }

/-- A plan taken up. -/
def planTaken (s : State) (w : PlanWork) : State :=
  (s.setFld F.MGM_STATUS_PLANNING 1).setMgm { s.mgm with work := some w, planDue := false }

/-- Nothing keeps a plan waiting. -/
structure PlanFree (s : State) : Prop where
  hold : holdUp s = false
  bist : s.bst.run = none
  work : s.mgm.work = none
  paths : pathsValid s = true
  volt : s.mgm.volt = .none

theorem PlanFree.begin_eq (h : PlanFree s) : planBegin s = planTaken (planMarked s) (planMade s) := by
  have hc : (holdUp s || s.bst.run.isSome || s.mgm.work.isSome || !pathsValid s) = false := by
    rw [h.hold, h.bist, h.work, h.paths]
    rfl
  rw [planBegin, hc, if_neg Bool.false_ne_true]
  rfl

theorem planMarked_spec : (planMarked s).mgm = s.mgm ∧ (planMarked s).bus = s.bus ∧ (planMarked s).flag F.MGM_STATUS_MARGIN_LOW = !(planPair s).2.2 ∧
    mgmAct (planMarked s) = mgmAct s ∧ OnlyRegs s (planMarked s) [A.MGM_STATUS, 0x33010] := by
  have hset := onlyRegs_setFld s F.MGM_STATUS_MARGIN_LOW (b01 (!(planPair s).2.2))
  have hfault : (s.setFld F.MGM_STATUS_MARGIN_LOW (b01 (!(planPair s).2.2))).flag F.MGM_STATUS_AVS_FAULT = s.flag F.MGM_STATUS_AVS_FAULT :=
    State.flag_setFld_apart s _ (by decide) (Or.inr (Or.inr (by decide)))
  have hlow : (s.setFld F.MGM_STATUS_MARGIN_LOW (b01 (!(planPair s).2.2))).flag F.MGM_STATUS_MARGIN_LOW = !(planPair s).2.2 := by
    cases (planPair s).2.2
    · exact State.flag_setFld_one s rfl (by decide)
    · exact State.flag_setFld_zero s (by decide)
  have hparts : (s.setFld F.MGM_STATUS_MARGIN_LOW (b01 (!(planPair s).2.2))).mgm = s.mgm ∧
      (s.setFld F.MGM_STATUS_MARGIN_LOW (b01 (!(planPair s).2.2))).bus = s.bus := by simp
  unfold planMarked
  simp only
  generalize s.setFld F.MGM_STATUS_MARGIN_LOW (b01 (!(planPair s).2.2)) = t at *
  have hact : ∀ x : State, OnlyRegs t x [0x33010] → mgmAct x = mgmAct s := fun x hx => by
    rw [mgmAct, mgmAct, show x.flag F.MGM_STATUS_AVS_FAULT = s.flag F.MGM_STATUS_AVS_FAULT from (hx.flag (by decide)).trans hfault,
      show x.fld F.MGM_CTRL_ACT = s.fld F.MGM_CTRL_ACT from (hx.fld (by decide)).trans (hset.fld (by decide))]
  split
  · exact ⟨hparts.1, hparts.2, hlow, hact t (fun _ _ => rfl), hset.mono (by decide)⟩
  · have hcause : OnlyRegs t (setCause (marginLow t 1) 0x33 2) [0x33010] := fun a ha => onlyRegs_setCause (marginLow t 1) 0x33 2 a ha
    exact ⟨(setCause_mgm _ _ _).trans hparts.1, (setCause_bus _ _ _).trans hparts.2, (hcause.flag (by decide)).trans hlow, hact _ hcause,
      hset.trans hcause⟩

theorem planTaken_spec (w : PlanWork) : (planTaken s w).mgm = { s.mgm with work := some w, planDue := false } ∧ (planTaken s w).bus = s.bus ∧
    (planTaken s w).flag F.MGM_STATUS_PLANNING = true ∧ (planTaken s w).flag F.MGM_STATUS_MARGIN_LOW = s.flag F.MGM_STATUS_MARGIN_LOW ∧
    mgmAct (planTaken s w) = mgmAct s ∧ OnlyRegs s (planTaken s w) [A.MGM_STATUS] :=
  ⟨rfl, State.setFld_bus s F.MGM_STATUS_PLANNING 1, State.flag_setFld_one s (f := F.MGM_STATUS_PLANNING) rfl (by decide),
    State.flag_setFld_apart s (f := F.MGM_STATUS_PLANNING) (g := F.MGM_STATUS_MARGIN_LOW) 1 (by decide) (Or.inr (Or.inl (by decide))),
    mgmAct_setFld (f := F.MGM_STATUS_PLANNING) 1 (by decide) (Or.inr (by decide)) (by decide), onlyRegs_setFld s F.MGM_STATUS_PLANNING 1⟩

/-- A state with a plan of the chosen pair taken up. -/
structure PlanBegun (s t : State) (w : PlanWork) : Prop where
  named : (w.mhz, w.mv, w.stage, w.emergency) = ((planPair s).1, (planPair s).2.1, 0, false)
  go : w.go = planGo s
  mgm : t.mgm = { s.mgm with work := some w, planDue := false }
  bus : t.bus = s.bus
  planning : t.flag F.MGM_STATUS_PLANNING = true
  low : t.flag F.MGM_STATUS_MARGIN_LOW = !(planPair s).2.2
  act : mgmAct t = mgmAct s
  reg : OnlyRegs s t [A.MGM_STATUS, 0x33010]

theorem planGo_of_reg (h : t.reg A.MGM_CTRL = s.reg A.MGM_CTRL) : planGo t = planGo s := by rw [planGo, planGo, h]

theorem PlanFree.begun (h : PlanFree s) : PlanBegun s (planBegin s) (planMade s) := by
  obtain ⟨hmgm, hbus, hlow, hact, hreg⟩ := planMarked_spec (s := s)
  rw [h.begin_eq]
  have hgo : (planMade s).go = planGo s := planGo_of_reg (hreg _ (by decide))
  have hnamed : ((planMade s).mhz, (planMade s).mv, (planMade s).stage, (planMade s).emergency) = ((planPair s).1, (planPair s).2.1, 0, false) := rfl
  generalize planMade s = w at *
  generalize planMarked s = x at *
  obtain ⟨htmgm, htbus, hplanning, htlow, htact, htreg⟩ := planTaken_spec (s := x) w
  exact ⟨hnamed, hgo, by rw [htmgm, hmgm], htbus.trans hbus, hplanning, htlow.trans hlow, htact.trans hact, (hreg.trans htreg).mono (by decide)⟩

/-! ### A plan goes on (R672) -/

theorem steers_false (mv : Nat) (h : mgmAct s = 2 ∨ mv ≤ s.mgm.vNow) : (mgmAct s != 2 && decide (s.mgm.vNow < mv)) = false := by
  rw [Bool.and_eq_false_iff, decide_eq_false_iff_not, not_lt]
  exact h.imp (fun h => by rw [h]; rfl) id

/-- The voltage goes up first. -/
theorem planGoesOn_raises (hw : s.mgm.work = some w) (hv : s.mgm.volt = .none) (h0 : w.stage = 0) (ha : mgmAct s ≠ 2) (hlow : s.mgm.vNow < w.mv) :
    planGoesOn (n + 1) s = commandVolt s w.mv := by
  have hc : (mgmAct s != 2 && decide (s.mgm.vNow < w.mv)) = true := by
    rw [decide_eq_true hlow, Bool.and_true]
    exact bne_iff_ne.mpr ha
  rw [planGoesOn]
  simp only [hw, hv, h0, hc, if_true]

/-- No voltage to raise: the clock is next. -/
theorem planGoesOn_clock (hw : s.mgm.work = some w) (hv : s.mgm.volt = .none) (h0 : w.stage = 0) (h : mgmAct s = 2 ∨ w.mv ≤ s.mgm.vNow) :
    planGoesOn (n + 1) s = planGoesOn n (s.setMgm { s.mgm with work := some { w with stage := 1 } }) := by
  rw [planGoesOn]
  simp only [hw, hv, h0, steers_false w.mv h, Bool.false_eq_true, if_false]

theorem planGoesOn_ramps (hw : s.mgm.work = some w) (hv : s.mgm.volt = .none) (h1 : w.stage = 1) (h : s.mgm.fNow ≠ w.mhz) :
    planGoesOn (n + 1) s = s.setFld F.MGM_STATUS_RAMPING 1 := by
  rw [planGoesOn]
  simp only [hw, hv, h1, if_neg h]

theorem planGoesOn_inForce (hw : s.mgm.work = some w) (hv : s.mgm.volt = .none) (h1 : w.stage = 1) (h : s.mgm.fNow = w.mhz) :
    planGoesOn (n + 1) s = planGoesOn n (planInForce s w) := by
  rw [planGoesOn]
  simp only [hw, hv, h1, if_pos h]

/-- A plan at its end. -/
def planEnded (s : State) (w : PlanWork) : State := (planGoEnds (planApplied s w) w).setFld F.MGM_STATUS_PLANNING 0

theorem planGoesOn_ends (hw : s.mgm.work = some w) (hv : s.mgm.volt = .none) (h2 : w.stage = 2) (he : w.emergency = false)
    (h : mgmAct s = 2 ∨ s.mgm.vNow ≤ w.mv) (hgo : planGo (planEnded s w) = []) : planGoesOn (n + 1) s = planEnded s w := by
  have hc : (mgmAct s != 2 && decide (w.mv < s.mgm.vNow)) = false := by
    rw [Bool.and_eq_false_iff, decide_eq_false_iff_not, not_lt]
    exact h.imp (fun h => by rw [h]; rfl) id
  rw [planGoesOn]
  simp only [hw, hv, h2, he, hc, Bool.false_eq_true, if_false]
  change (if (planGo (planEnded s w)).isEmpty then planEnded s w else _) = _
  rw [hgo]
  rfl

/-- The registers that a plan in force writes. -/
def appliedRegs : List Nat := [A.MGM_STATUS, A.MEM_SCRUB_CFG, A.LRF_CAL_CFG 0, A.LRF_CAL_CFG 1, A.LRF_CAL_CFG 2, A.LRF_CAL_CFG 3,
  A.MGM_LAST_PLAN_S, A.MGM_PLANS, 0x33010]

/-- The intervals of calibration of the lanes (R671). -/
def lanesPlanned (s : State) : State :=
  (List.range 4).foldl (fun (t : State) n =>
    let c := lanePlan t n
    (t.setFld (F.LRF_CAL_CFG_BG_INTERVAL_S n) c.1).setFld (F.LRF_CAL_CFG_T_WINDOW n) c.2) s

theorem lanesPlanned_spec : OnlyRegs s (lanesPlanned s) [A.LRF_CAL_CFG 0, A.LRF_CAL_CFG 1, A.LRF_CAL_CFG 2, A.LRF_CAL_CFG 3] ∧
    Touches [.regs] [0x10, 0x11, 0x12, 0x13] s (lanesPlanned s) := by
  have hmem : ∀ n ∈ List.range 4, A.LRF_CAL_CFG n ∈ [A.LRF_CAL_CFG 0, A.LRF_CAL_CFG 1, A.LRF_CAL_CFG 2, A.LRF_CAL_CFG 3] ∧
      A.LRF_CAL_CFG n / 0x1000 ∈ [0x10, 0x11, 0x12, 0x13] := by decide
  refine ⟨OnlyRegs.foldl (fun t n hn a ha => ?_) s, Touches.foldl (fun t n hn => ?_) s⟩
  · have hne : a ≠ A.LRF_CAL_CFG n := fun h => ha (by rw [h]; exact (hmem n hn).1)
    exact (State.reg_setFld_ne _ (f := F.LRF_CAL_CFG_T_WINDOW n) _ hne).trans (State.reg_setFld_ne _ (f := F.LRF_CAL_CFG_BG_INTERVAL_S n) _ hne)
  · exact (touches_setFld_of (F.LRF_CAL_CFG_BG_INTERVAL_S n) _ (hmem n hn).2).trans (touches_setFld_of (F.LRF_CAL_CFG_T_WINDOW n) _ (hmem n hn).2)

/-- The plan written to the registers, before it is counted. -/
def planWritten (s : State) : State :=
  let s := s.setFld F.MGM_STATUS_REFRESH (refreshCode s)
  let s := s.setFld F.MEM_SCRUB_CFG_PERIOD_H (scrubHours s)
  let s := lanesPlanned s
  s.setFld F.MGM_LAST_PLAN_S_SECONDS s.now.sec

theorem planWritten_spec : OnlyRegs s (planWritten s) appliedRegs ∧ (planWritten s).fld F.MGM_PLANS_COUNT = s.fld F.MGM_PLANS_COUNT ∧
    (planWritten s).mgm = s.mgm ∧ (planWritten s).bus = s.bus := by
  have hset : ∀ (x : State) (f : Fld) v, OnlyRegs x (x.setFld f v) [f.addr] ∧ (x.setFld f v).mgm = x.mgm ∧ (x.setFld f v).bus = x.bus :=
    fun x f v => ⟨onlyRegs_setFld x f v, State.setFld_mgm _ _ _, State.setFld_bus _ _ _⟩
  unfold planWritten
  simp only
  obtain ⟨hreg1, hmgm1, hbus1⟩ := hset s F.MGM_STATUS_REFRESH (refreshCode s)
  generalize s.setFld F.MGM_STATUS_REFRESH (refreshCode s) = t at *
  obtain ⟨hreg2, hmgm2, hbus2⟩ := hset t F.MEM_SCRUB_CFG_PERIOD_H (scrubHours t)
  generalize t.setFld F.MEM_SCRUB_CFG_PERIOD_H (scrubHours t) = u at *
  obtain ⟨hreg3, htouch⟩ := lanesPlanned_spec (s := u)
  have hmgm3 : (lanesPlanned u).mgm = u.mgm := htouch.part .mgm (by decide)
  have hbus3 : (lanesPlanned u).bus = u.bus := htouch.part .bus (by decide)
  generalize lanesPlanned u = v at *
  obtain ⟨hreg4, hmgm4, hbus4⟩ := hset v F.MGM_LAST_PLAN_S_SECONDS v.now.sec
  generalize v.setFld F.MGM_LAST_PLAN_S_SECONDS v.now.sec = x at *
  have hall := ((hreg1.trans hreg2).trans hreg3).trans hreg4
  exact ⟨hall.mono (by decide), hall.fld (by decide), hmgm4.trans (hmgm3.trans (hmgm2.trans hmgm1)), hbus4.trans (hbus3.trans (hbus2.trans hbus1))⟩

theorem planApplied_eq (w : PlanWork) : ∃ m : Margin, m.work = none ∧ m.planned = true ∧
    planApplied s w = (setCause ((planWritten s).count F.MGM_PLANS_COUNT 1) 0x33 0).setMgm m := by
  unfold planApplied planWritten lanesPlanned
  exact ⟨_, rfl, rfl, rfl⟩

theorem planApplied_spec (w : PlanWork) : (planApplied s w).mgm.work = none ∧ (planApplied s w).mgm.planned = true ∧
    (planApplied s w).fld F.MGM_PLANS_COUNT = satAdd 32 (s.fld F.MGM_PLANS_COUNT) 1 ∧ OnlyRegs s (planApplied s w) appliedRegs ∧
    (planApplied s w).bus = s.bus := by
  obtain ⟨m, hwork, hplanned, heq⟩ := planApplied_eq (s := s) w
  rw [heq]
  obtain ⟨honly, hcount, -, hbus⟩ := planWritten_spec (s := s)
  generalize planWritten s = t at *
  have hcause := onlyRegs_setCause (t.count F.MGM_PLANS_COUNT 1) 0x33 0
  have hall : OnlyRegs s (setCause (t.count F.MGM_PLANS_COUNT 1) 0x33 0) appliedRegs :=
    ((honly.trans (onlyRegs_count t F.MGM_PLANS_COUNT 1)).trans hcause).mono (by decide)
  have hcounted : (setCause (t.count F.MGM_PLANS_COUNT 1) 0x33 0).fld F.MGM_PLANS_COUNT = satAdd 32 (s.fld F.MGM_PLANS_COUNT) 1 :=
    (hcause.fld (by decide)).trans ((State.fld_count_self t F.MGM_PLANS_COUNT 1 (by decide)).trans (by rw [hcount]))
  have hsame : (setCause (t.count F.MGM_PLANS_COUNT 1) 0x33 0).bus = s.bus := (setCause_bus _ _ _).trans ((State.count_bus _ _ _).trans hbus)
  generalize setCause (t.count F.MGM_PLANS_COUNT 1) 0x33 0 = u at *
  exact ⟨hwork, hplanned, hcounted, fun a ha => hall a ha, hsame⟩

theorem planGo_eq : planGo s = (if bit (s.reg A.MGM_CTRL).toNat 8 then [8] else []) ++ (if bit (s.reg A.MGM_CTRL).toNat 9 then [9] else []) := by
  rw [planGo]
  cases h8 : bit (s.reg A.MGM_CTRL).toNat 8 <;> cases h9 : bit (s.reg A.MGM_CTRL).toNat 9 <;> simp [h8, h9]

/-- The plans that no further GO bit follows: those that answer none, and those that answer PLAN_NOW alone with none kept pending. -/
def LastPlan (s : State) : Prop := planGo s = [] ∨ planGo s = [8] ∧ s.bus.goPending = []

theorem planEnded_spec (hgo : w.go = planGo s) (hlast : LastPlan s) :
    planGo (planEnded s w) = [] ∧ (planEnded s w).flag F.MGM_STATUS_PLANNING = false ∧ (planEnded s w).mgm.work = none ∧
      (planEnded s w).mgm.planned = true ∧ (planEnded s w).fld F.MGM_PLANS_COUNT = satAdd 32 (s.fld F.MGM_PLANS_COUNT) 1 ∧
      (planEnded s w).fld F.MGM_PLAN_V_CLK_MHZ = s.fld F.MGM_PLAN_V_CLK_MHZ := by
  obtain ⟨hwork, hplanned, hcount, honly, hbus⟩ := planApplied_spec (s := s) w
  unfold planEnded planGoEnds
  generalize planApplied s w = x at *
  have hctrl : x.reg A.MGM_CTRL = s.reg A.MGM_CTRL := honly _ (by decide)
  have hclk : x.fld F.MGM_PLAN_V_CLK_MHZ = s.fld F.MGM_PLAN_V_CLK_MHZ := honly.fld (by decide)
  have hend : ∃ y : State, w.go.foldl (fun (t : State) b => (endGo t A.MGM_CTRL b).1) x = y ∧ OnlyRegs x y [A.MGM_CTRL] ∧ y.mgm = x.mgm ∧
      planGo y = [] := by
    rcases hlast with h | ⟨h, hp⟩
    · exact ⟨x, by rw [hgo, h]; rfl, fun _ _ => rfl, rfl, (planGo_of_reg hctrl).trans h⟩
    · have hbits := h
      rw [planGo_eq] at hbits
      have h9 : bit (s.reg A.MGM_CTRL).toNat 9 = false := by
        by_contra hne
        rw [Bool.not_eq_false] at hne
        rw [hne] at hbits
        cases hb : bit (s.reg A.MGM_CTRL).toNat 8 <;> simp [hb] at hbits
      have hdone : (endGo x A.MGM_CTRL 8).1 = x.setFld F.MGM_CTRL_PLAN_NOW 0 := by
        rw [endGo_setFld (f := F.MGM_CTRL_PLAN_NOW) rfl (by decide) (by rw [hbus, hp]; rfl)]
      refine ⟨x.setFld F.MGM_CTRL_PLAN_NOW 0, by rw [hgo, h]; exact hdone, onlyRegs_setFld x _ 0, State.setFld_mgm _ _ _, ?_⟩
      have h8 : bit ((x.setFld F.MGM_CTRL_PLAN_NOW 0).reg A.MGM_CTRL).toNat 8 = false :=
        (State.flag_eq_bit (f := F.MGM_CTRL_PLAN_NOW) rfl).symm.trans (State.flag_setFld_zero x (by decide))
      have h9' : bit ((x.setFld F.MGM_CTRL_PLAN_NOW 0).reg A.MGM_CTRL).toNat 9 = false := by
        rw [← h9, ← hctrl, ← State.flag_eq_bit (s := x) (f := F.MGM_CTRL_AVS_RESET) rfl]
        exact (State.flag_eq_bit (f := F.MGM_CTRL_AVS_RESET) rfl).symm.trans
          (State.flag_setFld_apart x 0 (by decide) (Or.inr (Or.inr (by decide))))
      rw [planGo_eq, h8, h9']
      rfl
  obtain ⟨y, hy, hyonly, hymgm, hygo⟩ := hend
  rw [hy]
  have hset := onlyRegs_setFld y F.MGM_STATUS_PLANNING 0
  have hmgm : (y.setFld F.MGM_STATUS_PLANNING 0).mgm = y.mgm := State.setFld_mgm _ _ _
  have hclear : (y.setFld F.MGM_STATUS_PLANNING 0).flag F.MGM_STATUS_PLANNING = false := State.flag_setFld_zero y (by decide)
  generalize y.setFld F.MGM_STATUS_PLANNING 0 = z at *
  exact ⟨(planGo_of_reg (hset _ (by decide))).trans hygo, hclear, by rw [hmgm, hymgm, hwork], by rw [hmgm, hymgm, hplanned],
    (hset.fld (by decide)).trans ((hyonly.fld (by decide)).trans hcount), (hset.fld (by decide)).trans ((hyonly.fld (by decide)).trans hclk)⟩

/-! ### A plan started -/

theorem PlanFree.start_eq (h : PlanFree s) : planStart s = planGoesOn 8 (planBegin s) := by
  rw [planStart, h.work]
  rfl

/-- What a plan taken up is to do. -/
theorem PlanBegun.work (h : PlanBegun s t w) : t.mgm.work = some w ∧ w.stage = 0 ∧ w.emergency = false ∧ w.mv = (planPair s).2.1 ∧
    w.mhz = (planPair s).1 ∧ t.mgm.vNow = s.mgm.vNow ∧ t.mgm.fNow = s.mgm.fNow ∧ t.mgm.volt = s.mgm.volt := by
  have hn := h.named
  simp only [Prod.mk.injEq] at hn
  obtain ⟨hmhz, hmv, hstage, hemergency⟩ := hn
  rw [h.mgm]
  exact ⟨rfl, hstage, hemergency, hmv, hmhz, rfl, rfl, rfl⟩

/-- First the voltage up. -/
theorem PlanFree.raises (h : PlanFree s) (ha : mgmAct s ≠ 2) (hv : s.mgm.vNow < (planPair s).2.1) :
    (planStart s).mgm.volt = .confirming (planPair s).2.1 false ∧
      (planStart s).mgm.work.map (fun w => (w.mhz, w.mv, w.stage, w.emergency)) = some ((planPair s).1, (planPair s).2.1, 0, false) ∧
      (planStart s).flag F.MGM_STATUS_PLANNING = true ∧ (planStart s).flag F.MGM_STATUS_MARGIN_LOW = !(planPair s).2.2 ∧
      (planStart s).reg A.MGM_CTRL = s.reg A.MGM_CTRL := by
  have hb := h.begun
  rw [h.start_eq]
  generalize planMade s = w at *
  generalize planBegin s = t at *
  obtain ⟨hwork, hstage, -, hmv, -, hvnow, -, hvolt⟩ := hb.work
  rw [planGoesOn_raises hwork (hvolt.trans h.volt) hstage (by rw [hb.act]; exact ha) (by rw [hvnow, hmv]; exact hv), hmv]
  obtain ⟨-, hregs, hw, hconfirm⟩ := commandVolt_spec (s := t) (planPair s).2.1
  exact ⟨hconfirm, by rw [hw, hwork, Option.map_some, hb.named], (State.flag_of_regs hregs _).trans hb.planning,
    (State.flag_of_regs hregs _).trans hb.low, (State.reg_congr hregs _).trans (hb.reg _ (by decide))⟩

/-- The clock is next, in a state that is otherwise the plan's first. -/
theorem PlanFree.clock (h : PlanFree s) (ha : mgmAct s = 2 ∨ (planPair s).2.1 ≤ s.mgm.vNow) :
    planStart s = planGoesOn 7 ((planBegin s).setMgm { (planBegin s).mgm with work := some { planMade s with stage := 1 } }) := by
  have hb := h.begun
  rw [h.start_eq]
  generalize planMade s = w at *
  generalize planBegin s = t at *
  obtain ⟨hwork, hstage, -, hmv, -, hvnow, -, hvolt⟩ := hb.work
  exact planGoesOn_clock hwork (hvolt.trans h.volt) hstage (by rw [hb.act, hmv, hvnow]; exact ha)

/-- Then the clock ramps. -/
theorem PlanFree.ramps (h : PlanFree s) (ha : mgmAct s = 2 ∨ (planPair s).2.1 ≤ s.mgm.vNow) (hf : s.mgm.fNow ≠ (planPair s).1) :
    (planStart s).flag F.MGM_STATUS_RAMPING = true ∧ (planStart s).flag F.MGM_STATUS_PLANNING = true ∧ (planStart s).mgm.fNow = s.mgm.fNow ∧
      (planStart s).mgm.volt = .none ∧
      (planStart s).mgm.work.map (fun w => (w.mhz, w.mv, w.stage, w.emergency)) = some ((planPair s).1, (planPair s).2.1, 1, false) := by
  have hb := h.begun
  rw [h.clock ha]
  generalize planMade s = w at *
  generalize planBegin s = t at *
  obtain ⟨hwork, hstage, hemergency, hmv, hmhz, hvnow, hfnow, hvolt⟩ := hb.work
  have hx : ∃ x, x = t.setMgm { t.mgm with work := some { w with stage := 1 } } ∧ x.mgm = { t.mgm with work := some { w with stage := 1 } } ∧
      x.flag F.MGM_STATUS_PLANNING = t.flag F.MGM_STATUS_PLANNING := ⟨_, rfl, rfl, rfl⟩
  obtain ⟨x, hx, hmgm, hplanning⟩ := hx
  rw [← hx, planGoesOn_ramps (w := { w with stage := 1 }) (by rw [hmgm]) (by rw [hmgm]; exact hvolt.trans h.volt) rfl
    (by rw [hmgm]; exact (hfnow.trans_ne hf).trans_eq hmhz.symm)]
  have hset : (x.setFld F.MGM_STATUS_RAMPING 1).mgm = x.mgm := State.setFld_mgm _ _ _
  have hramping : (x.setFld F.MGM_STATUS_RAMPING 1).flag F.MGM_STATUS_RAMPING = true := State.flag_setFld_one x rfl (by decide)
  have hkept : (x.setFld F.MGM_STATUS_RAMPING 1).flag F.MGM_STATUS_PLANNING = x.flag F.MGM_STATUS_PLANNING :=
    State.flag_setFld_apart x 1 (by decide) (Or.inr (Or.inr (by decide)))
  generalize x.setFld F.MGM_STATUS_RAMPING 1 = y at *
  refine ⟨hramping, hkept.trans (hplanning.trans hb.planning), by rw [hset, hmgm, hfnow], by rw [hset, hmgm, hvolt, h.volt], ?_⟩
  rw [hset, hmgm, Option.map_some, hmhz, hmv, hemergency]

/-- A plan without work ends at once. -/
theorem PlanFree.ends (h : PlanFree s) (ha : mgmAct s = 2 ∨ s.mgm.vNow = (planPair s).2.1) (hf : s.mgm.fNow = (planPair s).1)
    (hlast : LastPlan s) : planGo (planStart s) = [] ∧ (planStart s).mgm.work = none ∧ (planStart s).flag F.MGM_STATUS_PLANNING = false ∧
      (planStart s).fld F.MGM_PLANS_COUNT = satAdd 32 (s.fld F.MGM_PLANS_COUNT) 1 ∧
      (planStart s).fld F.MGM_PLAN_V_CLK_MHZ = (planPair s).1 % 65536 ∧ (planStart s).mgm.planned = true := by
  have hb := h.begun
  rw [h.clock (ha.imp id (fun h => h.symm.le))]
  generalize planMade s = w at *
  generalize planBegin s = t at *
  obtain ⟨hwork, hstage, hemergency, hmv, hmhz, hvnow, hfnow, hvolt⟩ := hb.work
  have hx : ∃ x, x = t.setMgm { t.mgm with work := some { w with stage := 1 } } ∧ x.mgm = { t.mgm with work := some { w with stage := 1 } } ∧
      x.regs = t.regs ∧ x.bus = t.bus := ⟨_, rfl, rfl, rfl, rfl⟩
  obtain ⟨x, hx, hmgm, hregs, hbus⟩ := hx
  rw [← hx, planGoesOn_inForce (n := 6) (w := { w with stage := 1 }) (by rw [hmgm]) (by rw [hmgm]; exact hvolt.trans h.volt) rfl
    (by rw [hmgm]; exact (hfnow.trans hf).trans hmhz.symm)]
  have hactx : mgmAct x = mgmAct t := by
    rw [mgmAct, mgmAct, State.flag_of_regs hregs, State.fld_congr (State.reg_congr hregs _)]
  obtain ⟨hymgm, -, hyreg, hyact, hyclk, hybus⟩ := planInForce_spec (s := x) { w with stage := 1 }
  generalize planInForce x { w with stage := 1 } = y at *
  have honly : OnlyRegs s y [A.MGM_STATUS, 0x33010, A.MGM_PLAN_V] := fun a ha =>
    (hyreg a (fun h => ha (by
      rcases List.mem_cons.mp h with h | h
      · exact List.mem_cons.mpr (Or.inl h)
      · exact List.mem_cons_of_mem _ (List.mem_cons_of_mem _ h)))).trans ((State.reg_congr hregs a).trans
        (hb.reg a (fun h => ha (List.mem_append_left [A.MGM_PLAN_V] h))))
  have hgoy : planGo y = planGo s := planGo_of_reg (honly _ (by decide))
  have hlasty : LastPlan y := by
    refine hlast.imp (fun h => hgoy.trans h) (fun h => ⟨hgoy.trans h.1, ?_⟩)
    rw [hybus, hbus, hb.bus]
    exact h.2
  obtain ⟨hgo, hplanning, hdone, hplanned, hcount, hclk⟩ := planEnded_spec (s := y) (w := { w with stage := 2 }) (hb.go.trans hgoy.symm) hlasty
  rw [planGoesOn_ends (n := 5) (w := { w with stage := 2 }) (by rw [hymgm]) (by rw [hymgm, hmgm]; exact hvolt.trans h.volt) rfl hemergency ?_ hgo]
  · exact ⟨hgo, hdone, hplanning, by rw [hcount, honly.fld (f := F.MGM_PLANS_COUNT) (by decide)], hclk.trans (by rw [hyclk, hmhz]), hplanned⟩
  · rw [hyact, hactx, hb.act, hymgm, hmgm]
    exact ha.imp id (fun h => by rw [hvnow, h, hmv])

/-! ### Writes of CTRL (R48, R666, R679) -/

theorem specOf_mgmCtrl : ∃ r, specOf A.MGM_CTRL = some r ∧ r.fields = [⟨2, 2, .lk, 0⟩, ⟨4, 1, .lk, 0⟩, ⟨8, 1, .go, 32⟩, ⟨9, 1, .go, 32⟩] := by
  refine ⟨(specOf A.MGM_CTRL).get (by decide +kernel), (Option.some_get _).symm, by decide +kernel⟩

theorem applyField_go_mem (a page off : Nat) (data mask : Word) (acc : WriteAcc) (f : FieldSpec) {b : Nat} (h : b ∈ acc.go) :
    b ∈ (applyField s a page off data mask acc f).go := by
  by_cases hf : f.ty = .go
  · unfold applyField
    simp only [hf]
    split
    · exact h
    · split
      · exact List.mem_append_left _ h
      · exact h
  · rw [applyField_go_other _ _ _ _ _ _ hf]
    exact h

/-- Starts set their GO bits and clear none. -/
theorem bit_foldl_startGo (a : Nat) (l : List Nat) {b : Nat} (hb : b < 32) (h : bit (s.reg a).toNat b = true ∨ b ∈ l) :
    bit ((l.foldl (fun s b => startGo s a b) s).reg a).toNat b = true := by
  induction l generalizing s with
  | nil => exact h.resolve_right List.not_mem_nil
  | cons c l ih =>
    refine ih ?_
    rcases h with h | h
    · refine Or.inl ?_
      change bit ((startGo s a c).reg a).toNat b = true
      unfold startGo
      split
      · exact h
      · rw [State.reg_setReg_self, bit_or, h, Bool.true_or]
    · rcases List.mem_cons.mp h with rfl | h
      · exact Or.inl (bit_startGo a hb)
      · exact Or.inr h

/-- PLAN_NOW written 1 reads 1. -/
theorem writeFields_planNow (src : Requester) {data : Word} (hd : bit data.toNat 8 = true) :
    (writeFields s src A.MGM_CTRL data allBits).flag F.MGM_CTRL_PLAN_NOW = true := by
  obtain ⟨r, hr, hfields⟩ := specOf_mgmCtrl
  have herr : ∀ (c : Prop) [Decidable c] (u : State) code,
      (if c then recordErr u (A.MGM_CTRL / 0x1000) code src.code A.MGM_CTRL else u).reg A.MGM_CTRL = u.reg A.MGM_CTRL := fun c _ u code =>
    onlyRegs_recordErr_if u c _ _ _ _ _ (by decide)
  have hgo : ∀ acc : WriteAcc, 8 ∈ (r.fields.foldl (applyField s A.MGM_CTRL (basePage (A.MGM_CTRL / 0x1000)) r.off data allBits) acc).go := fun acc => by
    rw [hfields]
    simp only [List.foldl_cons, List.foldl_nil]
    refine applyField_go_mem _ _ _ _ _ _ _ ?_
    rw [applyField_go_one _ _ _ _ _ (by decide) hd]
    exact List.mem_append_right _ (List.mem_singleton_self 8)
  rw [State.flag_eq_bit rfl]
  simp only [writeFields, hr]
  rw [herr, herr, herr]
  exact bit_foldl_startGo _ _ (by decide) (Or.inr (hgo _))

theorem planNowWrite_eq {src : Requester} (hs : s.inOperation = true) (data : Word) (h9 : bit data.toNat 9 = false) :
    exec (.planNowWrite src data) s = .next (planStart (writeFields s src A.MGM_CTRL (data ||| 0x100#32) allBits)) := by
  refine congrArg Host.Outcome.next ((gateWrite_inOperation hs (by decide +kernel) src _).trans ?_)
  have hon9 : bit (data ||| 0x100#32).toNat 9 = false := by
    rw [bit_or, h9]
    decide
  simp only [mgmCtrlWrite, hon9, bit_force, show bit allBits.toNat 8 = true by decide, Bool.false_and, Bool.and_self, Bool.false_eq_true, if_false,
    if_true]

/-- The AVS fault cleared: a plan starts, and with PLAN_NOW another. -/
theorem avsReset_spec : (avsReset s).flag F.MGM_STATUS_AVS_FAULT = false ∧ (avsReset s).mgm.nacks = 0 ∧ (avsReset s).mgm.badWords = 0 := by
  have hclear : (s.setFld F.MGM_STATUS_AVS_FAULT 0).flag F.MGM_STATUS_AVS_FAULT = false := State.flag_setFld_zero s (by decide)
  unfold avsReset
  generalize s.setFld F.MGM_STATUS_AVS_FAULT 0 = t at *
  have hkept := planKept_planStart (s := t.setMgm { s.mgm with nacks := 0, badWords := 0 })
  exact ⟨hkept.fault.trans hclear, hkept.nacks rfl, hkept.badWords⟩

theorem avsResetWrite_spec {src : Requester} (hs : s.inOperation = true) (data : Word) : ∃ t, exec (.avsResetWrite src data) s = .next t ∧
    t.flag F.MGM_STATUS_AVS_FAULT = false ∧ t.mgm.nacks = 0 ∧ t.mgm.badWords = 0 := by
  refine ⟨_, congrArg Host.Outcome.next (gateWrite_inOperation hs (by decide +kernel) src _), ?_⟩
  have hon9 : (bit (data ||| 0x200#32).toNat 9 && bit allBits.toNat 9) = true := by
    rw [bit_or, show bit (0x200#32).toNat 9 = true by decide, Bool.or_true]
    decide
  simp only [mgmCtrlWrite, hon9, if_true]
  obtain ⟨hfault, hnacks, hwords⟩ := avsReset_spec (s := writeFields s src A.MGM_CTRL (data ||| 0x200#32) allBits)
  generalize avsReset (writeFields s src A.MGM_CTRL (data ||| 0x200#32) allBits) = u at *
  have hkept : PlanKept u (if (bit (data ||| 0x200#32).toNat 8 && bit allBits.toNat 8) = true then planStart u else u) :=
    PlanKept.ite planKept_planStart (PlanKept.refl u)
  exact ⟨hkept.fault.trans hfault, hkept.nacks hnacks, hkept.badWords.trans hwords⟩

/-! ### The ramp of the clock (R672) -/

theorem clkRampStep_eq (hrun : mgmRuns s = true) (hw : s.mgm.work = some w) (hr : s.flag F.MGM_STATUS_RAMPING = true) (h1 : w.stage = 1) :
    exec .clkRampStep s = .next (planGoesOn 8 (s.setMgm { s.mgm with
      fNow := if s.mgm.fNow < w.mhz then min w.mhz (s.mgm.fNow + 25) else max w.mhz (s.mgm.fNow - 25) })) := by
  simp only [exec, execClkRampStep, hw, hrun, hr, h1, decide_true, Bool.and_self, if_true]

/-- The ramp goes on while the clock has not reached its value. -/
theorem rampsOn_spec (hw : s.mgm.work = some w) (hr : s.flag F.MGM_STATUS_RAMPING = true) (h1 : w.stage = 1) {f : Nat} (hf : f ≠ w.mhz) :
    (planGoesOn 8 (s.setMgm { s.mgm with fNow := f })).mgm = { s.mgm with fNow := f } ∧
      (planGoesOn 8 (s.setMgm { s.mgm with fNow := f })).flag F.MGM_STATUS_RAMPING = true := by
  have hx : ∃ x, x = s.setMgm { s.mgm with fNow := f } ∧ x.mgm = { s.mgm with fNow := f } ∧ x.regs = s.regs := ⟨_, rfl, rfl, rfl⟩
  obtain ⟨x, hx, hmgm, hregs⟩ := hx
  rw [← hx]
  have hwork : x.mgm.work = some w := by
    rw [hmgm]
    exact hw
  cases hv : x.mgm.volt with
  | none =>
    rw [planGoesOn_ramps hwork hv h1 (by rw [hmgm]; exact hf)]
    exact ⟨(State.setFld_mgm _ _ _).trans hmgm, State.flag_setFld_one x rfl (by decide)⟩
  | confirming mv settled =>
    have hstill : planGoesOn 8 x = x := by
      rw [planGoesOn]
      simp only [hwork, hv]
    rw [hstill]
    exact ⟨hmgm, (State.flag_of_regs hregs _).trans hr⟩

/-! ### The regulator (R677–R679) -/

section
variable (hrun : mgmRuns s = true) (hact : s.fld F.MGM_CTRL_ACT = 0)
include hrun hact

theorem pmbusTransactionDone_eq (command : BitVec 8) (ack : Bool) (data : BitVec 16) :
    exec (.pmbusTransactionDone command ack data) s = .next (pmbusDone s command.toNat ack data.toNat) :=
  congrArg Host.Outcome.next (if_pos (by rw [hrun, hact]; rfl))

theorem pmbusPoll_spec : exec .pmbusPoll s = .next { s with out := s.out ++
    [.pmbus (s.fld F.MGM_PMBUS_CFG_ADDR) (s.flag F.MGM_PMBUS_CFG_PEC) 0x8C 0, .pmbus (s.fld F.MGM_PMBUS_CFG_ADDR) (s.flag F.MGM_PMBUS_CFG_PEC) 0x79 0] } := by
  refine congrArg Host.Outcome.next ((if_pos (by rw [hrun, hact]; rfl)).trans ?_)
  have hout : pmbus (pmbus s 0x8C 0) 0x79 0 = { s with out := (s.out ++
    [.pmbus (s.fld F.MGM_PMBUS_CFG_ADDR) (s.flag F.MGM_PMBUS_CFG_PEC) 0x8C 0]) ++
    [.pmbus (s.fld F.MGM_PMBUS_CFG_ADDR) (s.flag F.MGM_PMBUS_CFG_PEC) 0x79 0] } := rfl
  rw [hout, List.append_assoc]
  rfl
end

theorem linear11Ma_le (x : Nat) : linear11Ma x < 65536 := by
  unfold linear11Ma
  simp only
  omega

/-- Without a transaction lost, what an acknowledged reading starts from. -/
def acked (s : State) : State := s.setMgm { s.mgm with nacks := 0 }

/-- What an acknowledged transaction does. -/
def pmbusAcked (s : State) (command data : Nat) : State :=
  match command, s.mgm.volt with
  | 0x21, .confirming mv _ => pmbus (s.setMgm { s.mgm with volt := .confirming mv true }) 0x8B 0
  | 0x8B, .confirming mv true =>
    let s := readVout s data
    if s.mgm.volt = .confirming mv true then pmbus s 0x8B 0 else s
  | 0x8B, _ => readVout s data
  | 0x8C, _ => s.setFld F.MGM_MEAS_IOUT_MA (linear11Ma data)
  | 0x79, _ => statusWord s data
  | _, _ => s

theorem pmbusDone_acked (command data : Nat) : pmbusDone s command true data = pmbusAcked (acked s) command data := rfl

theorem pmbusDone_current (data : Nat) : pmbusDone s 0x8C true data = (acked s).setFld F.MGM_MEAS_IOUT_MA (linear11Ma data) := rfl

theorem pmbusDone_status {data : Nat} (h3 : bitsOf data 13 3 = 0) (h5 : bitsOf data 1 5 = 0) : pmbusDone s 0x79 true data =
    ((acked s).setFld F.MGM_PMB_STATUS_WORD data).setMgm { s.mgm with nacks := 0, badWords := 0 } := by
  have hstep : pmbusDone s 0x79 true data = statusWord (acked s) data := rfl
  rw [hstep, statusWord]
  simp only [h3, h5, bne_self_eq_false, Bool.or_self, Bool.false_eq_true, if_false]
  rfl

theorem pmbusDone_vout (data : Nat) (h : s.mgm.volt = .none) : pmbusDone s 0x8B true data =
    (acked s).setFld F.MGM_MEAS_VOUT_MV (min 65535 (linear16Mv (acked s) data / 65536)) := by
  have hv : (acked s).mgm.volt = .none := h
  have hstep : pmbusDone s 0x8B true data = readVout (acked s) data := by
    rw [pmbusDone_acked]
    unfold pmbusAcked
    simp only [hv]
  have hvolt : ((acked s).setFld F.MGM_MEAS_VOUT_MV (min 65535 (linear16Mv (acked s) data / 65536))).mgm.volt = .none :=
    (congrArg Margin.volt (State.setFld_mgm _ _ _)).trans h
  rw [hstep, readVout]
  simp only [hvolt]

theorem pmbusDone_commanded {mv : Nat} (data : Nat) (h : s.mgm.volt = .confirming mv false) :
    pmbusDone s 0x21 true data = pmbus (s.setMgm { s.mgm with nacks := 0, volt := .confirming mv true }) 0x8B 0 := by
  have hv : (acked s).mgm.volt = .confirming mv false := h
  rw [pmbusDone_acked]
  unfold pmbusAcked
  simp only [hv]
  rfl

/-- A reading within the tolerance confirms the voltage. -/
theorem pmbusDone_confirms {mv data : Nat} (h : s.mgm.volt = .confirming mv true) (hf : s.flag F.MGM_STATUS_AVS_FAULT = false)
    (ha : s.fld F.MGM_CTRL_ACT = 0) (ht : ((linear16Mv s data : Int) - mv * 65536).natAbs ≤ s.fld F.MGM_PMBUS_CFG_TOL_MV * 65536) :
    (pmbusDone s 0x8B true data).mgm.vNow = mv := by
  have hlinear : linear16Mv (acked s) data = linear16Mv s data := rfl
  have hstep : pmbusDone s 0x8B true data =
      if (readVout (acked s) data).mgm.volt = .confirming mv true then pmbus (readVout (acked s) data) 0x8B 0 else readVout (acked s) data := by
    have hv : (acked s).mgm.volt = .confirming mv true := h
    rw [pmbusDone_acked]
    unfold pmbusAcked
    simp only [hv]
  have hread : (readVout (acked s) data).mgm.vNow = mv := by
    rw [readVout, hlinear]
    have hset := onlyRegs_setFld (acked s) F.MGM_MEAS_VOUT_MV (min 65535 (linear16Mv s data / 65536))
    have hmgm : ((acked s).setFld F.MGM_MEAS_VOUT_MV (min 65535 (linear16Mv s data / 65536))).mgm = { s.mgm with nacks := 0 } :=
      State.setFld_mgm _ _ _
    generalize (acked s).setFld F.MGM_MEAS_VOUT_MV (min 65535 (linear16Mv s data / 65536)) = x at *
    have hconf : ∀ f : Fld, f.addr ≠ A.MGM_MEAS → x.fld f = s.fld f := fun f hne =>
      (hset.fld (fun h => hne (List.mem_singleton.mp h))).trans rfl
    have hact : mgmAct x = 0 := by
      rw [mgmAct, State.flag, hconf _ (by decide), hconf _ (by decide), ha, ← State.flag, hf]
      rfl
    have hvolt : x.mgm.volt = .confirming mv true := by rw [hmgm, h]
    simp only [hvolt]
    rw [hact, hconf _ (by decide), decide_eq_true ht]
    exact (planKept_planGoesOn (s := x.setMgm { x.mgm with vNow := mv, volt := .none }) 8).vNow
  rw [hstep]
  split
  · exact hread
  · exact hread

/-- The third transaction in a row that is not acknowledged. -/
theorem pmbusDone_lost {command data : Nat} (h : s.mgm.nacks = 2) :
    pmbusDone s command false data = avsFault ((s.setMgm { s.mgm with nacks := 3 }).setMgm { s.mgm with nacks := 0 }) 1 := by
  have hc : ¬ (s.mgm.nacks + 1 < 3) := by omega
  simp only [pmbusDone, Bool.not_false, if_true, State.setMgm, h]
  rfl
end

/-- Settles O59, heat by heat, reading by reading and transaction by transaction. -/
theorem heatsMarginsAndPlansAreKept : Obligations.HeatsMarginsAndPlansAreKept := by
  unfold Obligations.HeatsMarginsAndPlansAreKept
  refine ⟨fun s u charges hs hrun hu => ?_, fun s hs => ⟨fun i mv => ?_, fun i deg => ?_, fun i mv => ?_, fun row k ok p hp => ⟨?_, ?_⟩,
    fun hh hb hw hp hv => ⟨?_, ?_, ?_⟩, fun w hw hr h1 => ⟨?_, ?_, ?_⟩, fun hours hh => ⟨?_, ?_⟩⟩, fun s u src data hs => ⟨?_, ?_, ?_⟩,
    fun s hs ha => ⟨?_, fun data => ⟨?_, ?_, ?_, ?_, ?_, ?_⟩⟩, fun s hs => ⟨?_, ?_⟩⟩
  · obtain ⟨hkept, htouch⟩ := charges_spec charges s
    rw [← hu] at hkept htouch
    have hboot : u.boot = s.boot := htouch.part .boot (by decide)
    obtain ⟨hrunning, hcapacity, hlane, hheat, henforcing, haccounts, hram⟩ := heatStart_spec (s := u)
      (hrun.imp (fun h => by rw [hboot, h]) (fun h => by rw [hkept.running, h]))
    have hexec : exec (.heatStart charges) s = .next (heatStart u) := by
      refine congrArg Host.Outcome.next ((if_pos (Bool.or_eq_true _ _ |>.mpr hs)).trans ?_)
      rw [hu]
    have hclk : u.fld F.MGM_PLAN_V_CLK_MHZ = s.fld F.MGM_PLAN_V_CLK_MHZ := htouch.fld (by decide)
    have hcfg : u.fld F.COX_HEAT_CFG_HEAT_US = s.fld F.COX_HEAT_CFG_HEAT_US :=
      State.fld_congr (hkept.reg _ (by decide) (by decide) (by decide))
    have hctrl : u.flag F.COX_CTRL_ENFORCE = s.flag F.COX_CTRL_ENFORCE := by
      rw [State.flag, State.fld_congr (hkept.reg _ (by decide) (by decide) (by decide)), State.flag]
    rw [hclk, hcfg] at hcapacity
    rw [hcfg] at hlane hheat
    rw [hctrl] at henforcing
    exact ⟨_, hexec, hrunning, hcapacity, hlane, hheat, henforcing, haccounts, (htouch.ram (by decide)).trans hram⟩
  · obtain ⟨x, worst, heq, hframe, hmv, hvalid, hleast, hreached, honly⟩ := pathReading_spec (s := s) i mv
    have hset := onlyRegs_pathFollows (s := x) (pathMargin s) worst (pathMargin x)
    have hquiet := pathFollows_quiet (s := x) (pathMargin s) worst (pathMargin x)
    rw [← heq] at hset hquiet
    have hexec : exec (.pathReading [(i, mv)]) s = .next (pathReading s [(i.val, mv.toInt)]) := congrArg Host.Outcome.next (if_pos hs)
    generalize pathReading s [(i.val, mv.toInt)] = t at *
    have hmargin : pathMargin t = pathMargin x := State.sfld_of_fld (hset.fld (by decide))
    have hvalids : ∀ j, t.flag (F.MGM_PATH_VALID j) = x.flag (F.MGM_PATH_VALID j) := fun j => hset.flag (path_settled j)
    have hmvs : ∀ j, t.sfld (F.MGM_PATH_MV j) = x.sfld (F.MGM_PATH_MV j) := fun j => State.sfld_of_fld (hset.fld (path_settled j))
    have hconf : ∀ f : Fld, f.addr < 0x33054 → x.fld f = s.fld f := fun f hf => honly.fld (by
      have h1 : A.MGM_PATH i = 0x33100 + 4 * i := rfl
      have h2 : A.MGM_MARGINS = 0x33054 := rfl
      simp only [List.mem_cons, List.not_mem_nil, or_false]
      omega)
    have hmgm : x.mgm = s.mgm := by rw [hframe]
    obtain ⟨j, hj, hjv, hjm⟩ := hreached
    refine ⟨t, hexec, (hset.fld (path_settled i)).trans hmv, (hvalids i).trans hvalid, fun k hk hkv => ?_,
      ⟨j, hj, (hvalids j).trans hjv, by rw [hmargin, hmvs, hjm]⟩, fun he hv hw => ?_⟩
    · rw [hmargin, hmvs]
      exact hleast k hk ((hvalids k).symm.trans hkv)
    · have ht := hquiet (by rw [hmgm, he]) (by rw [hmgm, hv])
      rw [hmargin, ← hconf F.MGM_MARGIN_CFG_EMERG_MV (by decide)]
      refine ⟨fun hcalm => ?_, fun hlow hclk => ?_⟩
      · rw [ht, emergencyCheck_calm worst hcalm]
        exact hframe
      · rw [← hmgm, ← hconf F.MGM_CBOUND_CLK_MIN_MHZ (by decide)] at hclk
        obtain ⟨hcount, hcause, hevent, -⟩ := emergencyStep_spec (s := x) worst
        rw [ht, emergencyCheck_step worst hlow (by rw [hmgm, hw]) hclk]
        refine ⟨hcount.trans ?_, hcause, hevent⟩
        rw [honly.fld (f := F.MGM_EMERGENCIES_COUNT) (by
          have h1 : A.MGM_PATH i = 0x33100 + 4 * i := rfl
          have h2 : A.MGM_MARGINS = 0x33054 := rfl
          have h3 : A.MGM_EMERGENCIES = 0x3306C := rfl
          simp only [List.mem_cons, List.not_mem_nil, or_false]
          omega)]
  · exact ⟨_, congrArg Host.Outcome.next (if_pos hs), tempReading_spec i deg _ rfl⟩
  · exact ⟨_, congrArg Host.Outcome.next (if_pos hs), canaryReading_spec i mv _ rfl⟩
  · intro hne
    refine congrArg Host.Outcome.next ((if_pos hs).trans ?_)
    have hlast : (decide (row.val = 15) && decide (k.val = 4)) = false := by
      rw [Bool.and_eq_false_iff, decide_eq_false_iff_not, decide_eq_false_iff_not]
      exact hne
    rw [hp]
    cases ok <;> simp only [hlast, Bool.false_eq_true, if_false, if_true] <;> rfl
  · intro h15 h4
    have hexec : exec (.retentionProbeInterval row k ok) s = .next (probeCycle (s.setMgm { s.mgm with probes := p })) := by
      refine congrArg Host.Outcome.next ((if_pos hs).trans ?_)
      rw [hp]
      cases ok <;> simp only [h15, h4, decide_true, Bool.and_self, Bool.false_eq_true, if_false, if_true] <;> rfl
    have hx : ∃ x, x = s.setMgm { s.mgm with probes := p } ∧ x.mgm.probes = p ∧ x.regs = s.regs := ⟨_, rfl, rfl, rfl⟩
    obtain ⟨x, hx, hprobes, hregs⟩ := hx
    rw [← hx] at hexec
    obtain ⟨hw, hleast⟩ := weakestRow_spec (s := x)
    obtain ⟨hreg, hnone, hlow⟩ := probeCycle_spec (s := x) (weakestRow x) rfl _ rfl
    rw [hprobes] at hleast hreg hlow
    rw [State.fld_congr (State.reg_congr hregs _)] at hreg
    exact ⟨_, weakestRow x, hexec, hw, hleast, hreg, hnone, hlow⟩
  · intro ha hv'
    obtain ⟨hconfirm, hwork, hplanning, hlow, -⟩ := PlanFree.raises ⟨hh, hb, hw, hp, hv⟩ ha hv'
    exact ⟨_, congrArg Host.Outcome.next (if_pos hs), hconfirm, hwork, hplanning, hlow⟩
  · intro ha hf
    exact ⟨_, congrArg Host.Outcome.next (if_pos hs), PlanFree.ramps ⟨hh, hb, hw, hp, hv⟩ ha hf⟩
  · intro ha hf hgo
    obtain ⟨-, hdone, hplanning, hcount, hclk, hplanned⟩ := PlanFree.ends ⟨hh, hb, hw, hp, hv⟩ ha hf (Or.inl hgo)
    exact ⟨_, congrArg Host.Outcome.next (if_pos hs), hdone, hplanning, hcount, hclk, hplanned⟩
  · intro hlt
    have hf : (if s.mgm.fNow < w.mhz then min w.mhz (s.mgm.fNow + 25) else max w.mhz (s.mgm.fNow - 25)) = s.mgm.fNow + 25 := by
      rw [if_pos (by omega)]
      omega
    refine ⟨_, clkRampStep_eq hs hw hr h1, ?_⟩
    rw [hf]
    exact rampsOn_spec hw hr h1 (by omega)
  · intro hlt
    have hf : (if s.mgm.fNow < w.mhz then min w.mhz (s.mgm.fNow + 25) else max w.mhz (s.mgm.fNow - 25)) = s.mgm.fNow - 25 := by
      rw [if_neg (by omega)]
      omega
    refine ⟨_, clkRampStep_eq hs hw hr h1, ?_⟩
    rw [hf]
    exact rampsOn_spec hw hr h1 (by omega)
  · intro hle hge
    have hf : (if s.mgm.fNow < w.mhz then min w.mhz (s.mgm.fNow + 25) else max w.mhz (s.mgm.fNow - 25)) = w.mhz := by
      split <;> omega
    refine ⟨_, clkRampStep_eq hs hw hr h1, ?_⟩
    rw [hf]
    exact (planKept_planGoesOn (s := s.setMgm { s.mgm with fNow := w.mhz }) 8).fNow
  · intro h
    subst hh
    exact ⟨_, congrArg Host.Outcome.next (if_pos hs), ageHour_plain h⟩
  · intro h
    subst hh
    obtain ⟨r, hr⟩ := ageHour_record h
    exact ⟨_, r, congrArg Host.Outcome.next (if_pos hs), hr⟩
  · intro hu h9 hh hb hw hp hv
    have hexec := planNowWrite_eq (src := src) hs data h9
    rw [← hu] at hexec
    have hnow : u.flag F.MGM_CTRL_PLAN_NOW = true := by
      rw [hu]
      exact writeFields_planNow src (bit_force data)
    refine ⟨fun ha hv' => ?_, fun ha hf hgo hpend => ?_⟩
    · obtain ⟨hconfirm, -, hplanning, -, hctrl⟩ := PlanFree.raises ⟨hh, hb, hw, hp, hv⟩ ha hv'
      exact ⟨_, hexec, (by rw [State.flag, State.fld_congr hctrl]; exact hnow), hplanning, hconfirm⟩
    · obtain ⟨hnone, -, hplanning, hcount, -, -⟩ := PlanFree.ends ⟨hh, hb, hw, hp, hv⟩ ha hf (Or.inr ⟨hgo, hpend⟩)
      refine ⟨_, hexec, ?_, hplanning, hcount⟩
      rw [State.flag_eq_bit rfl]
      rw [planGo_eq] at hnone
      exact Bool.eq_false_iff.mpr (fun h => by
        rw [h] at hnone
        simp at hnone)
  · intro h9 hw
    have hu := (touches_writeFields (x := s) src A.MGM_CTRL (data ||| 0x100#32) allBits).part .mgm (by decide)
    change (writeFields s src A.MGM_CTRL (data ||| 0x100#32) allBits).mgm = s.mgm at hu
    have hnow := writeFields_planNow (s := s) src (bit_force data)
    refine ⟨_, planNowWrite_eq hs data h9, ?_⟩
    generalize writeFields s src A.MGM_CTRL (data ||| 0x100#32) allBits = x at *
    have hstart : planStart x = x.setMgm { x.mgm with planDue := true } := by
      rw [planStart, if_pos (by rw [hu]; exact hw), planBegin, if_pos (by rw [hu, hw]; simp)]
    rw [hstart]
    exact ⟨hnow, by rw [← hu]; rfl⟩
  · exact avsResetWrite_spec hs data
  · exact ⟨_, pmbusPoll_spec hs ha, rfl⟩
  · refine ⟨_, (pmbusTransactionDone_eq hs ha _ _ _).trans (congrArg Host.Outcome.next (pmbusDone_current _)), ?_, State.setFld_mgm _ _ _,
      onlyRegs_setFld (acked s) F.MGM_MEAS_IOUT_MA _⟩
    exact (State.fld_setFld_self (acked s) F.MGM_MEAS_IOUT_MA _ (by decide)).trans (Nat.mod_eq_of_lt (linear11Ma_le _))
  · intro h3 h5
    refine ⟨_, (pmbusTransactionDone_eq hs ha _ _ _).trans (congrArg Host.Outcome.next (pmbusDone_status h3 h5)), ?_, rfl,
      onlyRegs_setFld (acked s) F.MGM_PMB_STATUS_WORD _⟩
    exact (State.fld_setFld_self (acked s) F.MGM_PMB_STATUS_WORD _ (by decide)).trans (Nat.mod_eq_of_lt data.isLt)
  · intro hv
    refine ⟨_, (pmbusTransactionDone_eq hs ha _ _ _).trans (congrArg Host.Outcome.next (pmbusDone_vout _ hv)), ?_,
      onlyRegs_setFld (acked s) F.MGM_MEAS_VOUT_MV _⟩
    refine (State.fld_setFld_self (acked s) F.MGM_MEAS_VOUT_MV _ (by decide)).trans (Nat.mod_eq_of_lt ?_)
    exact Nat.lt_succ_of_le (min_le_left _ _)
  · intro mv hv
    exact ⟨_, (pmbusTransactionDone_eq hs ha _ _ _).trans (congrArg Host.Outcome.next (pmbusDone_commanded _ hv)), rfl, rfl⟩
  · intro mv hv hf ht
    exact ⟨_, pmbusTransactionDone_eq hs ha _ _ _, pmbusDone_confirms hv hf ha ht⟩
  · intro hn hf cmd
    refine ⟨_, (pmbusTransactionDone_eq hs ha _ _ _).trans (congrArg Host.Outcome.next (pmbusDone_lost hn)), ?_⟩
    obtain ⟨hfault, -, hcause, hcount, -, -⟩ := avsFault_spec (s := (s.setMgm { s.mgm with nacks := 3 }).setMgm { s.mgm with nacks := 0 }) 1 hf
    exact ⟨hfault, hcause, hcount⟩
  · intro hv hf
    obtain ⟨hfault, hvolt, hcause, hcount, hevent, -⟩ := avsFault_spec 2 hf
    exact ⟨_, congrArg Host.Outcome.next (if_pos (by rw [hs]; exact bne_iff_ne.mpr hv)), hfault, hvolt, hcause, hcount, hevent⟩
  · intro mv hv ha
    simp only [exec, execVidSettleExpiry, hv, hs, ha, decide_true, Bool.and_self, if_true]

end Sys2Proof.Machine
end

section
/-!
PROOFS. The servo of Datum: its states, TIME_OK, steps, slews and measurements (16_datum_network_time.md, Changing the time; Sources and the servo).
-/
namespace Sys2Proof.Machine

-- One proof after another: side by side, the threads of so long a text want more memory than the check grants.
set_option Elab.async false

section
variable {s t u v : State}

/-! ### Wide values -/

theorem State.wide_setWide_self (s : State) (a v : Nat) : (s.setWide a v).wide a = v % 2 ^ 64 := by
  have hlow : (s.setWide a v).reg a = BitVec.ofNat 32 v := by
    rw [State.setWide, (onlyRegs_setReg _ (a + 4) _) a (by simp), State.reg_setReg_self]
  have hhigh : (s.setWide a v).reg (a + 4) = BitVec.ofNat 32 (v / 2 ^ 32) := by rw [State.setWide, State.reg_setReg_self]
  rw [State.wide, hlow, hhigh, BitVec.toNat_ofNat, BitVec.toNat_ofNat]
  omega

theorem OnlyRegs.wide {as : List Nat} {a : Nat} (h : OnlyRegs s t as) (ha : a ∉ as) (ha' : a + 4 ∉ as) : t.wide a = s.wide a := by
  rw [State.wide, State.wide, h a ha, h (a + 4) ha']

/-! ### What moves with Datum touches no register of DTM -/

/-- The gates move with Datum. -/
abbrev gateParts : List Area := [.regs, .gates, .host, .out, .log, .bus]

theorem gateRegs_page : ∀ x ∈ List.range 6, A.GCL_L_CTRL x / 0x1000 = 0x23 ∧ A.GCL_L_OPER_CYCLE x / 0x1000 = 0x23 ∧ A.GCL_L_OPER_STATE x / 0x1000 = 0x23 := by
  decide

theorem touches_setGate (x : Nat) (g : GateList) : Touches [.gates] [] s (s.setGate x g) := touches_parts [.gates] rfl

theorem touches_gatesRefresh {x : Nat} (hx : x ∈ List.range 6) : Touches gateParts [0x23] s (gatesRefresh s x) := by
  have hpage : A.GCL_L_OPER_STATE x / 0x1000 ∈ [0x23] := by simp [(gateRegs_page x hx).2.2]
  exact (((touches_setGate x _).mono : Touches gateParts [0x23] s _).then (touches_setFld_of (F.GCL_L_OPER_STATE_GATES x) _ hpage)).then
    (touches_setFld_of (F.GCL_L_OPER_STATE_ENTRY x) _ hpage)

theorem touches_startSwitch {x : Nat} (hx : x ∈ List.range 6) : Touches gateParts [0x23] s (startSwitch s x) := by
  have hpage : A.GCL_L_CTRL x / 0x1000 ∈ [0x23] := by simp [(gateRegs_page x hx).1]
  unfold startSwitch
  simp only
  split
  · exact ((((touches_setFld_of (F.GCL_L_CTRL_SWITCH x) 0 hpage).mono : Touches gateParts [0x23] s _).then
      (touches_count F.GCL_REJECTS_COUNT 1)).then (touches_setCause 0x23 1)).then (touches_event (gs := []) _ _ _ _ _)
  · exact (touches_setGate x _).mono

theorem touches_takeSwitch {x : Nat} (hx : x ∈ List.range 6) : Touches gateParts [0x23] s (takeSwitch s x) := by
  obtain ⟨hctrl, hcycle, -⟩ := gateRegs_page x hx
  have hc : A.GCL_L_CTRL x / 0x1000 ∈ [0x23] := by simp [hctrl]
  have hy : A.GCL_L_OPER_CYCLE x / 0x1000 ∈ [0x23] := by simp [hcycle]
  unfold takeSwitch
  split
  · exact Touches.refl s
  · rename_i w _
    have hshown : Touches gateParts [0x23] s (switchShown s x w) :=
      ((((touches_setGate x _).mono : Touches gateParts [0x23] s _).then (touches_setFld_of (F.GCL_L_CTRL_OPER_BANK x) _ hc)).then
        (touches_setFld_of (F.GCL_L_CTRL_LOADED x) 1 hc)).then (touches_setFld_of (F.GCL_L_OPER_CYCLE_CYCLE x) _ hy)
    have htold : ∀ data, Touches gateParts [0x23] s (switchTold (switchShown s x w) x data) := fun data =>
      ((hshown.then (touches_count F.GCL_SWITCHES_COUNT 1)).then (touches_setCause 0x23 0)).then (touches_event (gs := []) _ _ _ _ _)
    have hend : ∀ data, Touches gateParts [0x23] s
        (endGo (gatesRefresh (switchTold (switchShown s x w) x data) x) (A.GCL_L_CTRL x) switchBit).1 := fun data =>
      ((htold data).trans (touches_gatesRefresh hx)).trans ((touches_endGo (A.GCL_L_CTRL x) switchBit).mono (by decide) (by simp [hctrl]))
    exact Touches.ite (fun _ => (hend _).trans (touches_startSwitch hx)) (fun _ => hend _)

theorem touches_gatesAfterStep : Touches gateParts [0x23] s (gatesAfterStep s) := by
  refine Touches.foldl (fun u x hx => ?_) s
  split
  · exact Touches.ite (fun _ => touches_takeSwitch hx) (fun _ => touches_gatesRefresh hx)
  · exact touches_gatesRefresh hx

theorem touches_afterStep (ns : Int) : Touches (.mac :: gateParts) [0x23] s (afterStep s ns) :=
  (touches_mac _).mono.trans touches_gatesAfterStep.mono

/-! ### The states of the servo (R543, R544) -/

theorem fld_b01 {f : Fld} (b : Bool) (hw : f.width = 1) (h : f.lsb + f.width ≤ 32) : (s.setFld f (b01 b)).flag f = b := by
  cases b
  · exact State.flag_setFld_zero s h
  · exact State.flag_setFld_one s hw h

theorem refreshTimeOk_spec : (refreshTimeOk s).flag F.DTM_STATUS_TIME_OK = timeOk s ∧ (refreshTimeOk s).flag F.MAC_STATUS_TIME_OK = timeOk s ∧
    OnlyRegs s (refreshTimeOk s) [A.DTM_STATUS, A.MAC_STATUS] ∧ refreshTimeOk s = { s with regs := (refreshTimeOk s).regs } ∧
    ∀ f : Fld, f.addr = A.DTM_STATUS → f.lsb + f.width ≤ 8 ∨ 9 ≤ f.lsb → (refreshTimeOk s).fld f = s.fld f := by
  have honly := onlyRegs_setFld (s.setFld F.DTM_STATUS_TIME_OK (b01 (timeOk s))) F.MAC_STATUS_TIME_OK (b01 (timeOk s))
  have hframe : ∀ (f g : Fld) (v w : Nat), (s.setFld f v).setFld g w = { s with regs := ((s.setFld f v).setFld g w).regs } := fun _ _ _ _ => rfl
  refine ⟨(honly.flag (by decide)).trans (fld_b01 _ rfl (by decide)), fld_b01 _ rfl (by decide),
    (onlyRegs_setFld s F.DTM_STATUS_TIME_OK _).trans honly, hframe _ _ _ _, fun f ha hf => ?_⟩
  exact (honly.fld (by rw [ha]; decide)).trans (State.fld_setFld_apart _ F.DTM_STATUS_TIME_OK f _ (by decide) (Or.inr hf))

/-- The servo enters the state `st` from another, INC as it stands. -/
def servoEntered (s : State) (st : Nat) (byMaster : Bool) : State :=
  refreshTimeOk ((s.setDtm { s.dtm with within := 0, outside := 0, byMaster := byMaster }).setFld F.DTM_STATUS_SERVO st)

/-- The change of state told. -/
def servoTold (s : State) (old : Nat) (lost : Bool) : State := setCause (servoEvent s old lost) 0x26 2

theorem servoTold_spec (old : Nat) (lost : Bool) : causeSet (servoTold s old lost) 0x26 2 = true ∧ lastEvent (servoTold s old lost) 0x26 0x1002 ∧
    (∀ c < 32, causeSet s 0x26 c = true → causeSet (servoTold s old lost) 0x26 c = true) ∧ OnlyRegs s (servoTold s old lost) [0x26010] ∧
    (servoTold s old lost).dtm = s.dtm ∧ (servoTold s old lost).now = s.now := by
  refine ⟨?_, lastEvent_setCause _ _ (lastEvent_event _ _ _ _ _), fun c hc h => ?_, fun a ha => onlyRegs_setCause _ 0x26 2 a ha, setCause_dtm _ _ _,
    setCause_now _ _ _⟩
  · exact (causeSet_setCause _ 0x26 2 2 (by decide)).trans (Bool.or_true _)
  · exact (causeSet_setCause _ 0x26 2 c hc).trans (by rw [show causeSet (servoEvent s old lost) 0x26 c = true from h, Bool.true_or])

/-- What a change of the servo's state leaves. -/
structure ServoKept (s t : State) : Prop where
  reg : ∀ a, a / 0x1000 = 0x26 → a ∉ [A.DTM_STATUS, 0x26010, A.DTM_INC, A.DTM_INC_HI] → t.reg a = s.reg a
  status : ∀ f ∈ [F.DTM_STATUS_SLEWING, F.DTM_STATUS_STEP_GEN, F.DTM_STATUS_TIME_SET, F.DTM_STATUS_SOURCE], t.fld f = s.fld f
  cause : ∀ c < 32, causeSet s 0x26 c = true → causeSet t 0x26 c = true
  dtm : (t.dtm.slew, t.dtm.masters, t.dtm.chosen, t.dtm.pathDelay) = (s.dtm.slew, s.dtm.masters, s.dtm.chosen, s.dtm.pathDelay)
  now : t.now = s.now

theorem ServoKept.refl (s : State) : ServoKept s s := ⟨fun _ _ _ => rfl, fun _ _ => rfl, fun _ _ h => h, rfl, rfl⟩

theorem ServoKept.trans (h : ServoKept s t) (h' : ServoKept t u) : ServoKept s u :=
  ⟨fun a hp ha => (h'.reg a hp ha).trans (h.reg a hp ha), fun f hf => (h'.status f hf).trans (h.status f hf),
    fun c hc hs => h'.cause c hc (h.cause c hc hs), h'.dtm.trans h.dtm, h'.now.trans h.now⟩

theorem ServoKept.slew (h : ServoKept s t) : t.dtm.slew = s.dtm.slew := congrArg (fun x => x.1) h.dtm

theorem ServoKept.masters (h : ServoKept s t) : t.dtm.masters = s.dtm.masters := congrArg (fun x => x.2.1) h.dtm

theorem ServoKept.chosen (h : ServoKept s t) : t.dtm.chosen = s.dtm.chosen := congrArg (fun x => x.2.2.1) h.dtm

theorem ServoKept.pathDelay (h : ServoKept s t) : t.dtm.pathDelay = s.dtm.pathDelay := congrArg (fun x => x.2.2.2) h.dtm

theorem ServoKept.fld (h : ServoKept s t) {f : Fld} (hp : f.addr / 0x1000 = 0x26 := by decide)
    (ha : f.addr ∉ [A.DTM_STATUS, 0x26010, A.DTM_INC, A.DTM_INC_HI] := by decide) : t.fld f = s.fld f :=
  State.fld_congr (h.reg _ hp ha)

theorem ServoKept.flag (h : ServoKept s t) {f : Fld} (hp : f.addr / 0x1000 = 0x26 := by decide)
    (ha : f.addr ∉ [A.DTM_STATUS, 0x26010, A.DTM_INC, A.DTM_INC_HI] := by decide) : t.flag f = s.flag f := by rw [State.flag, h.fld hp ha, State.flag]

theorem dtmCause_of_reg (h : t.reg 0x26010 = s.reg 0x26010) (c : Nat) : causeSet t 0x26 c = causeSet s 0x26 c :=
  congrArg (fun w : Word => bit w.toNat c) h

theorem ServoKept.of {as : List Nat} (h : OnlyRegs s t as) (ha : 0x26010 ∉ as) (hs : A.DTM_STATUS ∉ as)
    (hsub : ∀ a ∈ as, a / 0x1000 = 0x26 → a ∈ [A.DTM_STATUS, 0x26010, A.DTM_INC, A.DTM_INC_HI])
    (hdtm : (t.dtm.slew, t.dtm.masters, t.dtm.chosen, t.dtm.pathDelay) = (s.dtm.slew, s.dtm.masters, s.dtm.chosen, s.dtm.pathDelay))
    (hnow : t.now = s.now) : ServoKept s t := by
  refine ⟨fun a hp hn => h a fun hm => hn (hsub a hm hp), fun f hf => ?_, fun c _ hc => ?_, hdtm, hnow⟩
  · refine h.fld (?_ : f.addr ∉ as)
    have : f.addr = A.DTM_STATUS := by revert f; decide
    rwa [this]
  · exact (dtmCause_of_reg (h _ ha) c).trans hc

theorem servoEntered_spec (st : Nat) (b : Bool) (hst : st < 8) :
    (servoEntered s st b).fld F.DTM_STATUS_SERVO = st ∧
    (servoEntered s st b).flag F.DTM_STATUS_TIME_OK = timeOk ((s.setDtm { s.dtm with within := 0, outside := 0, byMaster := b }).setFld F.DTM_STATUS_SERVO st) ∧
    (servoEntered s st b).dtm = { s.dtm with within := 0, outside := 0, byMaster := b } ∧
    OnlyRegs s (servoEntered s st b) [A.DTM_STATUS, A.MAC_STATUS] ∧ ServoKept s (servoEntered s st b) := by
  unfold servoEntered
  generalize hd : ({ s.dtm with within := 0, outside := 0, byMaster := b } : Datum) = d
  have hset := onlyRegs_setFld (s.setDtm d) F.DTM_STATUS_SERVO st
  have hself : ((s.setDtm d).setFld F.DTM_STATUS_SERVO st).fld F.DTM_STATUS_SERVO = st :=
    (State.fld_setFld_self _ F.DTM_STATUS_SERVO st (by decide)).trans (Nat.mod_eq_of_lt hst)
  have hapart : ∀ f : Fld, f.addr = A.DTM_STATUS → 3 ≤ f.lsb → ((s.setDtm d).setFld F.DTM_STATUS_SERVO st).fld f = s.fld f := fun f _ hf =>
    State.fld_setFld_apart (s.setDtm d) F.DTM_STATUS_SERVO f st (by decide) (Or.inr (Or.inr hf))
  have hparts : ((s.setDtm d).setFld F.DTM_STATUS_SERVO st).dtm = d ∧ ((s.setDtm d).setFld F.DTM_STATUS_SERVO st).now = s.now := ⟨rfl, rfl⟩
  generalize (s.setDtm d).setFld F.DTM_STATUS_SERVO st = t at *
  obtain ⟨hok, -, honly, hframe, hothers⟩ := refreshTimeOk_spec (s := t)
  have hdtm : (refreshTimeOk t).dtm = d := by rw [hframe]; exact hparts.1
  have hnow : (refreshTimeOk t).now = s.now := by rw [hframe]; exact hparts.2
  have hregs : OnlyRegs s (refreshTimeOk t) [A.DTM_STATUS, A.MAC_STATUS] :=
    (OnlyRegs.trans (fun a ha => hset a ha) honly).mono (by decide)
  refine ⟨(hothers _ rfl (Or.inl (by decide))).trans hself, hok, hdtm, hregs, fun a _ hn => hregs a ?_, fun f hf => ?_, fun c _ hc => ?_, ?_, hnow⟩
  · simp only [List.mem_cons, not_or, List.not_mem_nil, not_false_eq_true, and_true, A.MAC_STATUS] at hn ⊢
    exact ⟨hn.1, by omega⟩
  · have hplace : f.addr = A.DTM_STATUS ∧ 3 ≤ f.lsb ∧ (f.lsb + f.width ≤ 8 ∨ 9 ≤ f.lsb) := by revert f; decide
    exact (hothers f hplace.1 hplace.2.2).trans (hapart f hplace.1 hplace.2.1)
  · exact (dtmCause_of_reg (hregs _ (by decide)) c).trans hc
  · rw [hdtm, ← hd]

theorem setServo_stays {st : Nat} (b : Bool) (h : s.fld F.DTM_STATUS_SERVO = st) : setServo s st b = s := by rw [setServo, if_pos h]

theorem setServo_eq {st : Nat} (b : Bool) (h : s.fld F.DTM_STATUS_SERVO ≠ st) (h3 : st ≠ 3) (h4 : st ≠ 4) : ∃ old lost,
    setServo s st b = servoTold (servoEntered s st b) old lost := by
  have hc : (decide (st = 3) || decide (st = 4)) = false := by simp [h3, h4]
  unfold setServo
  simp only [hc, if_neg h, Bool.false_eq_true, if_false]
  exact ⟨_, _, rfl⟩

theorem setServo_held {st : Nat} (b : Bool) (h : s.fld F.DTM_STATUS_SERVO ≠ st) (h3 : st = 3 ∨ st = 4) : ∃ old lost,
    setServo s st b = servoTold (servoEntered (holdInc s) st b) old lost := by
  have hc : (decide (st = 3) || decide (st = 4)) = true := by simpa using h3
  unfold setServo
  simp only [hc, if_neg h, if_true]
  exact ⟨_, _, rfl⟩

theorem onlyRegs_holdInc : OnlyRegs s (holdInc s) [A.DTM_INC, A.DTM_INC_HI] := by
  unfold holdInc
  split
  · exact fun _ _ => rfl
  · exact onlyRegs_setWide s A.DTM_INC _

theorem servoKept_holdInc : ServoKept s (holdInc s) := by
  have hparts : (holdInc s).dtm = s.dtm ∧ (holdInc s).now = s.now :=
    ⟨touches_holdInc.part .dtm (by decide), touches_holdInc.part .now (by decide)⟩
  exact ServoKept.of onlyRegs_holdInc (by decide) (by decide) (by decide) (by rw [hparts.1]) hparts.2

theorem servoKept_told (old : Nat) (lost : Bool) : ServoKept s (servoTold s old lost) := by
  obtain ⟨-, -, hcause, hregs, hdtm, hnow⟩ := servoTold_spec (s := s) old lost
  refine ⟨fun a _ hn => hregs a fun hm => hn (by rw [List.mem_singleton.mp hm]; decide), fun f hf => hregs.fld ?_, hcause, by rw [hdtm], hnow⟩
  have : f.addr = A.DTM_STATUS := by revert f; decide
  rw [this]
  decide

theorem servoKept_setServo (st : Nat) (b : Bool) (hst : st < 8) : ServoKept s (setServo s st b) := by
  by_cases h : s.fld F.DTM_STATUS_SERVO = st
  · rw [setServo_stays b h]
    exact ServoKept.refl s
  · by_cases h3 : st = 3 ∨ st = 4
    · obtain ⟨old, lost, he⟩ := setServo_held b h h3
      obtain ⟨-, -, -, -, hkept⟩ := servoEntered_spec (s := holdInc s) st b hst
      rw [he]
      exact (servoKept_holdInc.trans hkept).trans (servoKept_told old lost)
    · obtain ⟨old, lost, he⟩ := setServo_eq b h (fun e => h3 (Or.inl e)) (fun e => h3 (Or.inr e))
      obtain ⟨-, -, -, -, hkept⟩ := servoEntered_spec (s := s) st b hst
      rw [he]
      exact hkept.trans (servoKept_told old lost)

/-- The state of the servo after its change. -/
theorem setServo_servo (st : Nat) (b : Bool) (hst : st < 8) : (setServo s st b).fld F.DTM_STATUS_SERVO = st := by
  have htold : ∀ (x : State) old lost, x.fld F.DTM_STATUS_SERVO = st → (servoTold x old lost).fld F.DTM_STATUS_SERVO = st := fun x old lost hx => by
    obtain ⟨-, -, -, hregs, -⟩ := servoTold_spec (s := x) old lost
    exact (hregs.fld (by decide)).trans hx
  by_cases h : s.fld F.DTM_STATUS_SERVO = st
  · rwa [setServo_stays b h]
  · by_cases h3 : st = 3 ∨ st = 4
    · obtain ⟨old, lost, he⟩ := setServo_held b h h3
      rw [he]
      exact htold _ _ _ (servoEntered_spec (s := holdInc s) st b hst).1
    · obtain ⟨old, lost, he⟩ := setServo_eq b h (fun e => h3 (Or.inl e)) (fun e => h3 (Or.inr e))
      rw [he]
      exact htold _ _ _ (servoEntered_spec (s := s) st b hst).1

/-- A change to a state other than HOLDOVER and REFUSED leaves INC. -/
theorem setServo_inc (st : Nat) (b : Bool) (hst : st < 8) (h3 : st ≠ 3) (h4 : st ≠ 4) : inc (setServo s st b) = inc s := by
  by_cases h : s.fld F.DTM_STATUS_SERVO = st
  · rw [setServo_stays b h]
  · obtain ⟨old, lost, he⟩ := setServo_eq b h h3 h4
    obtain ⟨-, -, -, hentered, -⟩ := servoEntered_spec (s := s) st b hst
    obtain ⟨-, -, -, htold, -⟩ := servoTold_spec (s := servoEntered s st b) old lost
    rw [he, inc, inc, htold.wide (by decide) (by decide), hentered.wide (by decide) (by decide)]

/-- A state entered anew, other than HOLDOVER and REFUSED. -/
theorem setServo_enters {st : Nat} (b : Bool) (hst : st < 8) (h : s.fld F.DTM_STATUS_SERVO ≠ st) (h3 : st ≠ 3) (h4 : st ≠ 4) :
    causeSet (setServo s st b) 0x26 2 = true ∧ lastEvent (setServo s st b) 0x26 0x1002 ∧
    (setServo s st b).flag F.DTM_STATUS_TIME_OK = timeOk ((s.setDtm { s.dtm with within := 0, outside := 0, byMaster := b }).setFld F.DTM_STATUS_SERVO st) ∧
    (setServo s st b).dtm = { s.dtm with within := 0, outside := 0, byMaster := b } := by
  obtain ⟨old, lost, he⟩ := setServo_eq b h h3 h4
  obtain ⟨-, hok, hdtm, -, -⟩ := servoEntered_spec (s := s) st b hst
  obtain ⟨hcause, hlast, -, htold, htdtm, -⟩ := servoTold_spec (s := servoEntered s st b) old lost
  rw [he]
  exact ⟨hcause, hlast, (htold.flag (by decide)).trans hok, htdtm.trans hdtm⟩

/-! ### The registers of DTM that a measurement does not show itself in -/

/-- The registers in which steps, slews and the servo show themselves. -/
abbrev disciplineRegs : List Nat := [A.DTM_STATUS, 0x26010, A.DTM_INC, A.DTM_INC_HI, A.DTM_ADJ_PHASE, A.DTM_STEPS, A.DTM_REFUSED_JUMPS]

/-- The other registers of DTM stay. -/
def DatumPage (s t : State) : Prop := ∀ a, a / 0x1000 = 0x26 → a ∉ disciplineRegs → t.reg a = s.reg a

theorem DatumPage.trans (h : DatumPage s t) (h' : DatumPage t u) : DatumPage s u := fun a hp ha => (h' a hp ha).trans (h a hp ha)

theorem ServoKept.page (h : ServoKept s t) : DatumPage s t := fun a hp ha => h.reg a hp fun hm => ha (by
  revert hm
  simp only [List.mem_cons, List.not_mem_nil, or_false]
  tauto)

theorem OnlyRegs.page {as : List Nat} (h : OnlyRegs s t as) (hs : as ⊆ disciplineRegs := by decide) : DatumPage s t := fun a _ ha => h a fun hm => ha (hs hm)

theorem Touches.page {ps : List Area} {gs : List Nat} (h : Touches ps gs s t) (hg : 0x26 ∉ gs := by decide) : DatumPage s t := fun a hp _ =>
  h.reg a (by rw [hp]; exact hg)

theorem DatumPage.fld (h : DatumPage s t) {f : Fld} (hp : f.addr / 0x1000 = 0x26 := by decide) (ha : f.addr ∉ disciplineRegs := by decide) :
    t.fld f = s.fld f := State.fld_congr (h _ hp ha)

/-- The causes of DTM that are set stay set. -/
def DtmCauses (s t : State) : Prop := ∀ c < 32, causeSet s 0x26 c = true → causeSet t 0x26 c = true

theorem DtmCauses.trans (h : DtmCauses s t) (h' : DtmCauses t u) : DtmCauses s u := fun c hc hs => h' c hc (h c hc hs)

theorem DtmCauses.setCause (b : Nat) : DtmCauses s (setCause s 0x26 b) := fun c hc h => by
  rw [causeSet_setCause _ _ _ _ hc, h, Bool.true_or]

theorem DtmCauses.of_reg (h : t.reg 0x26010 = s.reg 0x26010) : DtmCauses s t := fun c _ hc => (dtmCause_of_reg h c).trans hc

theorem DtmCauses.of_only {as : List Nat} (h : OnlyRegs s t as) (ha : 0x26010 ∉ as := by decide) : DtmCauses s t := fun c _ hc =>
  (dtmCause_of_reg (h _ ha) c).trans hc

/-! ### Slews (R535) -/

theorem tdiv_units (v : Int) : Int.tdiv (v * 2 ^ 32) (2 ^ 32) = v := Int.mul_tdiv_cancel v (by decide)

theorem slewEnd_spec : (slewEnd s).dtm = { s.dtm with slew := 0 } ∧ (slewEnd s).flag F.DTM_STATUS_SLEWING = false ∧
    (slewEnd s).reg A.DTM_ADJ_PHASE = 0#32 ∧ causeSet (slewEnd s) 0x26 6 = true ∧ DtmCauses s (slewEnd s) ∧
    OnlyRegs s (slewEnd s) [A.DTM_STATUS, A.DTM_ADJ_PHASE, 0x26010] ∧ (slewEnd s).now = s.now ∧
    ∀ f : Fld, f.addr = A.DTM_STATUS → f.lsb + f.width ≤ 9 ∨ 10 ≤ f.lsb → (slewEnd s).fld f = s.fld f := by
  unfold slewEnd
  have hset := onlyRegs_setFld (s.setDtm { s.dtm with slew := 0 }) F.DTM_STATUS_SLEWING 0
  have hoff : ((s.setDtm { s.dtm with slew := 0 }).setFld F.DTM_STATUS_SLEWING 0).flag F.DTM_STATUS_SLEWING = false := State.flag_setFld_zero _ (by decide)
  have hapart : ∀ f : Fld, f.lsb + f.width ≤ 9 ∨ 10 ≤ f.lsb → ((s.setDtm { s.dtm with slew := 0 }).setFld F.DTM_STATUS_SLEWING 0).fld f = s.fld f := fun f hf =>
    State.fld_setFld_apart (s.setDtm { s.dtm with slew := 0 }) F.DTM_STATUS_SLEWING f 0 (by decide) (Or.inr hf)
  have hdtm : ((s.setDtm { s.dtm with slew := 0 }).setFld F.DTM_STATUS_SLEWING 0).dtm = { s.dtm with slew := 0 } := rfl
  have hnow : ((s.setDtm { s.dtm with slew := 0 }).setFld F.DTM_STATUS_SLEWING 0).now = s.now := rfl
  generalize (s.setDtm { s.dtm with slew := 0 }).setFld F.DTM_STATUS_SLEWING 0 = t at *
  have hshown : (showSlew t).reg A.DTM_ADJ_PHASE = 0#32 := by
    rw [showSlew, State.reg_setReg_self, hdtm]
    rfl
  have honly : OnlyRegs t (showSlew t) [A.DTM_ADJ_PHASE] := onlyRegs_setReg t A.DTM_ADJ_PHASE _
  have hparts : (showSlew t).dtm = t.dtm ∧ (showSlew t).now = t.now := ⟨rfl, rfl⟩
  generalize showSlew t = u at *
  have hcause := onlyRegs_setCause u 0x26 6
  have hst : OnlyRegs s u [A.DTM_STATUS, A.DTM_ADJ_PHASE] := OnlyRegs.trans (fun a ha => hset a ha) honly
  refine ⟨(setCause_dtm _ _ _).trans (hparts.1.trans hdtm), (hcause.flag (by decide)).trans ((honly.flag (by decide)).trans hoff),
    (hcause _ (by decide)).trans hshown, ?_, (DtmCauses.of_only hst).trans (DtmCauses.setCause 6), hst.trans hcause,
    (setCause_now _ _ _).trans (hparts.2.trans hnow), fun f ha hf => ?_⟩
  · rw [causeSet_setCause _ _ _ _ (by decide), beq_self_eq_true, Bool.or_true]
  · exact (hcause.fld (by rw [ha]; decide)).trans ((honly.fld (by rw [ha]; decide)).trans (hapart f hf))

/-- A slew as it starts. -/
theorem startSlew_spec (x : Int) : (startSlew s x).dtm = { s.dtm with slew := x * 2 ^ 32 } ∧
    (startSlew s x).flag F.DTM_STATUS_SLEWING = decide (x ≠ 0) ∧ (startSlew s x).reg A.DTM_ADJ_PHASE = BitVec.ofNat 32 (unsigned 32 x) ∧
    DtmCauses s (startSlew s x) ∧ OnlyRegs s (startSlew s x) [A.DTM_STATUS, A.DTM_ADJ_PHASE, 0x26010] ∧ (startSlew s x).now = s.now ∧
    ∀ f : Fld, f.addr = A.DTM_STATUS → f.lsb + f.width ≤ 9 ∨ 10 ≤ f.lsb → (startSlew s x).fld f = s.fld f := by
  unfold startSlew
  simp only
  split
  · rename_i h
    obtain ⟨hdtm, hoff, hreg, -, hcauses, honly, hnow, hothers⟩ := slewEnd_spec (s := s.setDtm { s.dtm with slew := x * 2 ^ 32 })
    subst h
    exact ⟨hdtm, hoff, hreg, fun c hc hs => hcauses c hc hs, fun a ha => honly a ha, hnow, fun f ha hf => hothers f ha hf⟩
  · rename_i h
    have hset := onlyRegs_setFld (s.setDtm { s.dtm with slew := x * 2 ^ 32 }) F.DTM_STATUS_SLEWING 1
    have hon : ((s.setDtm { s.dtm with slew := x * 2 ^ 32 }).setFld F.DTM_STATUS_SLEWING 1).flag F.DTM_STATUS_SLEWING = true :=
      State.flag_setFld_one _ rfl (by decide)
    have hapart : ∀ f : Fld, f.lsb + f.width ≤ 9 ∨ 10 ≤ f.lsb →
        ((s.setDtm { s.dtm with slew := x * 2 ^ 32 }).setFld F.DTM_STATUS_SLEWING 1).fld f = s.fld f := fun f hf =>
      State.fld_setFld_apart (s.setDtm { s.dtm with slew := x * 2 ^ 32 }) F.DTM_STATUS_SLEWING f 1 (by decide) (Or.inr hf)
    have hdtm : ((s.setDtm { s.dtm with slew := x * 2 ^ 32 }).setFld F.DTM_STATUS_SLEWING 1).dtm = { s.dtm with slew := x * 2 ^ 32 } := rfl
    have hnow : ((s.setDtm { s.dtm with slew := x * 2 ^ 32 }).setFld F.DTM_STATUS_SLEWING 1).now = s.now := rfl
    generalize (s.setDtm { s.dtm with slew := x * 2 ^ 32 }).setFld F.DTM_STATUS_SLEWING 1 = t at *
    have honly : OnlyRegs t (showSlew t) [A.DTM_ADJ_PHASE] := onlyRegs_setReg t A.DTM_ADJ_PHASE _
    have hst : OnlyRegs s (showSlew t) [A.DTM_STATUS, A.DTM_ADJ_PHASE] := OnlyRegs.trans (fun a ha => hset a ha) honly
    refine ⟨hdtm, (honly.flag (by decide)).trans (hon.trans (decide_eq_true h).symm), ?_, DtmCauses.of_only hst, hst.mono (by decide), hnow,
      fun f ha hf => (honly.fld (by rw [ha]; decide)).trans (hapart f hf)⟩
    rw [showSlew, State.reg_setReg_self, hdtm]
    exact congrArg (fun y => BitVec.ofNat 32 (unsigned 32 y)) (tdiv_units x)

theorem startSlew_page (x : Int) : DatumPage s (startSlew s x) := by
  obtain ⟨-, -, -, -, honly, -⟩ := startSlew_spec (s := s) x
  exact honly.page

/-! ### Steps (R536–R540) -/

/-- The time stepped, and any slew ended. -/
def stepCleared (s : State) (total : Nat) (steps : List (Nat × Int × Nat)) : State :=
  (showSlew ((({ s with now := { sec := total / 1000000000, ns := total % 1000000000, frac := s.now.frac } } : State).setDtm
    { s.dtm with slew := 0 }).setFld F.DTM_STATUS_SLEWING 0)).setDtm { s.dtm with slew := 0, steps := steps }

/-- The step shown and counted, before its consequences. -/
def stepCounted (s : State) (gen : Nat) : State := ((s.setFld F.DTM_STATUS_STEP_GEN gen).setFld F.DTM_STATUS_TIME_SET 1).count F.DTM_STEPS_COUNT 1

/-- The step told. -/
def stepTold (s : State) (sev : Nat) (data : List Byte) : State := (setCause s 0x26 1).event 0x26 0 0x1000 sev data

/-- What a step brings with it. -/
def stepServo (s : State) : State :=
  if servoSource s then refreshTimeOk ((setServo s 1 false).setDtm { (setServo s 1 false).dtm with within := 0, byMaster := false }) else s

theorem servoKept_stepServo : ServoKept s (stepServo s) := by
  unfold stepServo
  split
  · refine (servoKept_setServo 1 false (by decide)).trans ?_
    generalize setServo s 1 false = t
    generalize hd : ({ t.dtm with within := 0, byMaster := false } : Datum) = d
    obtain ⟨-, -, honly, hframe, hothers⟩ := refreshTimeOk_spec (s := t.setDtm d)
    refine ⟨fun a hp hn => honly a ?_, fun f hf => ?_, fun c _ hc => (dtmCause_of_reg (honly _ (by decide)) c).trans hc, ?_, ?_⟩
    · simp only [List.mem_cons, not_or, List.not_mem_nil, not_false_eq_true, and_true, A.MAC_STATUS] at hn ⊢
      exact ⟨hn.1, by omega⟩
    · have hplace : f.addr = A.DTM_STATUS ∧ (f.lsb + f.width ≤ 8 ∨ 9 ≤ f.lsb) := by revert f; decide
      exact hothers f hplace.1 hplace.2
    · rw [hframe, ← hd]
      rfl
    · rw [hframe]
      rfl
  · exact ServoKept.refl s

theorem stepCleared_spec (total : Nat) (steps : List (Nat × Int × Nat)) :
    (stepCleared s total steps).now = { sec := total / 1000000000, ns := total % 1000000000, frac := s.now.frac } ∧
    (stepCleared s total steps).flag F.DTM_STATUS_SLEWING = false ∧ (stepCleared s total steps).dtm.slew = 0 ∧
    OnlyRegs s (stepCleared s total steps) [A.DTM_STATUS, A.DTM_ADJ_PHASE] ∧
    (stepCleared s total steps).fld F.DTM_STATUS_STEP_GEN = s.fld F.DTM_STATUS_STEP_GEN ∧
    Touches [.now, .dtm, .regs] [0x26] s (stepCleared s total steps) := by
  unfold stepCleared
  have hbegun : ∀ n : Time, Touches [.now, .dtm, .regs] [0x26] s (({ s with now := n } : State).setDtm { s.dtm with slew := 0 }) := fun n =>
    (touches_parts [.now, .dtm] rfl : Touches [.now, .dtm] [] s _).mono
  have hregs : ∀ n : Time, (({ s with now := n } : State).setDtm { s.dtm with slew := 0 }).regs = s.regs := fun _ => rfl
  have hnow : ∀ n : Time, (({ s with now := n } : State).setDtm { s.dtm with slew := 0 }).now = n := fun _ => rfl
  generalize ({ sec := total / 1000000000, ns := total % 1000000000, frac := s.now.frac } : Time) = n
  specialize hbegun n
  specialize hregs n
  specialize hnow n
  generalize ({ s with now := n } : State).setDtm { s.dtm with slew := 0 } = a at *
  have ha : OnlyRegs s a [] := fun r _ => State.reg_congr hregs r
  have hoff : (a.setFld F.DTM_STATUS_SLEWING 0).flag F.DTM_STATUS_SLEWING = false := State.flag_setFld_zero _ (by decide)
  have hgen : (a.setFld F.DTM_STATUS_SLEWING 0).fld F.DTM_STATUS_STEP_GEN = a.fld F.DTM_STATUS_STEP_GEN :=
    State.fld_setFld_apart a F.DTM_STATUS_SLEWING F.DTM_STATUS_STEP_GEN 0 (by decide) (Or.inr (Or.inr (by decide)))
  have hb := onlyRegs_setFld a F.DTM_STATUS_SLEWING 0
  have htb : Touches [.now, .dtm, .regs] [0x26] s (a.setFld F.DTM_STATUS_SLEWING 0) := hbegun.then (touches_setFld F.DTM_STATUS_SLEWING 0)
  have hbnow : (a.setFld F.DTM_STATUS_SLEWING 0).now = a.now := State.setFld_now _ _ _
  generalize a.setFld F.DTM_STATUS_SLEWING 0 = b at *
  have hc : OnlyRegs b ((showSlew b).setDtm { s.dtm with slew := 0, steps := steps }) [A.DTM_ADJ_PHASE] := fun r hr => onlyRegs_setReg b A.DTM_ADJ_PHASE _ r hr
  exact ⟨hbnow.trans hnow, (hc.flag (by decide)).trans hoff, rfl, (ha.trans hb).trans hc, (hc.fld (by decide)).trans (hgen.trans (ha.fld (by decide))),
    (htb.then (touches_setReg A.DTM_ADJ_PHASE _)).then (touches_setDtm _)⟩

theorem stepCounted_spec (gen : Nat) : (stepCounted s gen).fld F.DTM_STATUS_STEP_GEN = gen % 4 ∧ (stepCounted s gen).flag F.DTM_STATUS_TIME_SET = true ∧
    (stepCounted s gen).flag F.DTM_STATUS_SLEWING = s.flag F.DTM_STATUS_SLEWING ∧
    (stepCounted s gen).fld F.DTM_STEPS_COUNT = satAdd 32 (s.fld F.DTM_STEPS_COUNT) 1 ∧ OnlyRegs s (stepCounted s gen) [A.DTM_STATUS, A.DTM_STEPS] ∧
    Touches [.regs] [0x26] s (stepCounted s gen) := by
  unfold stepCounted
  have hgen := State.fld_setFld_self s F.DTM_STATUS_STEP_GEN gen (by decide)
  have hslew : (s.setFld F.DTM_STATUS_STEP_GEN gen).flag F.DTM_STATUS_SLEWING = s.flag F.DTM_STATUS_SLEWING :=
    State.flag_setFld_apart s gen (by decide) (Or.inr (Or.inl (by decide)))
  have ha := onlyRegs_setFld s F.DTM_STATUS_STEP_GEN gen
  have hta : Touches [.regs] [0x26] s (s.setFld F.DTM_STATUS_STEP_GEN gen) := touches_setFld F.DTM_STATUS_STEP_GEN gen
  generalize s.setFld F.DTM_STATUS_STEP_GEN gen = a at *
  have hset : (a.setFld F.DTM_STATUS_TIME_SET 1).flag F.DTM_STATUS_TIME_SET = true := State.flag_setFld_one a rfl (by decide)
  have hgen' : (a.setFld F.DTM_STATUS_TIME_SET 1).fld F.DTM_STATUS_STEP_GEN = a.fld F.DTM_STATUS_STEP_GEN :=
    State.fld_setFld_apart a F.DTM_STATUS_TIME_SET F.DTM_STATUS_STEP_GEN 1 (by decide) (Or.inr (Or.inl (by decide)))
  have hslew' : (a.setFld F.DTM_STATUS_TIME_SET 1).flag F.DTM_STATUS_SLEWING = a.flag F.DTM_STATUS_SLEWING :=
    State.flag_setFld_apart a 1 (by decide) (Or.inr (Or.inl (by decide)))
  have hb := onlyRegs_setFld a F.DTM_STATUS_TIME_SET 1
  have htb : Touches [.regs] [0x26] s (a.setFld F.DTM_STATUS_TIME_SET 1) := hta.then (touches_setFld F.DTM_STATUS_TIME_SET 1)
  generalize a.setFld F.DTM_STATUS_TIME_SET 1 = b at *
  have hc := onlyRegs_count b F.DTM_STEPS_COUNT 1
  exact ⟨(hc.fld (by decide)).trans (hgen'.trans hgen), (hc.flag (by decide)).trans hset, (hc.flag (by decide)).trans (hslew'.trans hslew),
    (State.fld_count_self b F.DTM_STEPS_COUNT 1 (by decide)).trans (by rw [((ha.trans hb).fld (by decide) : b.fld F.DTM_STEPS_COUNT = _)]),
    ((ha.trans hb).trans hc).mono (by decide), htb.then (touches_count F.DTM_STEPS_COUNT 1)⟩

theorem stepTold_spec (sev : Nat) (data : List Byte) : causeSet (stepTold s sev data) 0x26 1 = true ∧ OnlyRegs s (stepTold s sev data) [0x26010] ∧
    DtmCauses s (stepTold s sev data) ∧ Touches [.regs, .host, .out, .log] [0x26] s (stepTold s sev data) := by
  refine ⟨?_, onlyRegs_setCause s 0x26 1, fun c hc h => DtmCauses.setCause 1 c hc h, ?_⟩
  · exact (causeSet_setCause s 0x26 1 1 (by decide)).trans (Bool.or_true _)
  · exact (touches_setCause 0x26 1).mono.then (touches_event (gs := []) _ _ _ _ _)

/-- The parts that a step may change. -/
abbrev stepParts : List Area := [.now, .dtm, .regs, .host, .out, .log, .mac, .gates, .bus]

theorem touches_stepServo : Touches stepParts [0x26, 0x1C, 0x23] s (stepServo s) :=
  Touches.ite (fun _ => ((touches_setServo 1 false).mono.then (touches_setDtm _)).then touches_refreshTimeOk) (fun _ => Touches.refl s)

/-- What a step leaves. -/
structure Stepped (s t : State) (total : Nat) : Prop where
  now : t.now = { sec := total / 1000000000, ns := total % 1000000000, frac := s.now.frac }
  gen : t.fld F.DTM_STATUS_STEP_GEN = (s.fld F.DTM_STATUS_STEP_GEN + 1) % 4
  set : t.flag F.DTM_STATUS_TIME_SET = true
  slewing : t.flag F.DTM_STATUS_SLEWING = false
  slew : t.dtm.slew = 0
  steps : t.fld F.DTM_STEPS_COUNT = satAdd 32 (s.fld F.DTM_STEPS_COUNT) 1
  cause : causeSet t 0x26 1 = true
  causes : DtmCauses s t
  page : DatumPage s t
  touches : Touches stepParts [0x26, 0x1C, 0x23] s t

theorem stepDatum_eq (ns : Int) (kind : Nat) {total : Int} (ht : total = (s.nowNs : Int) + ns) (h0 : 0 ≤ total)
    (hmax : total < (2 ^ 48 * 1000000000 : Nat)) : ∃ steps sev data, stepDatum s ns kind =
      some (stepServo (afterStep (stepTold (stepCounted (stepCleared s total.toNat steps) ((s.fld F.DTM_STATUS_STEP_GEN + 1) % 4)) sev data) ns)) := by
  have hc : (decide (total < 0) || decide (((2 ^ 48 * 1000000000 : Nat) : Int) ≤ total)) = false := by
    rw [decide_eq_false (by omega), decide_eq_false (by omega)]
    rfl
  unfold stepDatum
  simp only
  rw [← ht, hc, if_neg Bool.false_ne_true]
  have hgen : (showSlew (({ s with now := { sec := total.toNat / 1000000000, ns := total.toNat % 1000000000, frac := s.now.frac } } : State).setDtm
    { s.dtm with slew := 0 } |>.setFld F.DTM_STATUS_SLEWING 0)).fld F.DTM_STATUS_STEP_GEN = s.fld F.DTM_STATUS_STEP_GEN := by
    obtain ⟨-, -, -, -, h, -⟩ := stepCleared_spec (s := s) total.toNat []
    exact h
  rw [hgen]
  exact ⟨_, _, _, rfl⟩

theorem stepped_of (total : Nat) (steps : List (Nat × Int × Nat)) (sev : Nat) (data : List Byte) (ns : Int) :
    Stepped s (stepServo (afterStep (stepTold (stepCounted (stepCleared s total steps) ((s.fld F.DTM_STATUS_STEP_GEN + 1) % 4)) sev data) ns)) total := by
  obtain ⟨hanow, haslew, hadtm, haregs, -, hatouch⟩ := stepCleared_spec (s := s) total steps
  generalize stepCleared s total steps = a at *
  obtain ⟨hbgen, hbset, hbslew, hbsteps, hbregs, hbtouch⟩ := stepCounted_spec (s := a) ((s.fld F.DTM_STATUS_STEP_GEN + 1) % 4)
  generalize stepCounted a ((s.fld F.DTM_STATUS_STEP_GEN + 1) % 4) = b at *
  obtain ⟨hccause, hcregs, hccauses, hctouch⟩ := stepTold_spec (s := b) sev data
  generalize stepTold b sev data = c at *
  have hdtouch := touches_afterStep (s := c) ns
  generalize afterStep c ns = d at *
  have hkept := servoKept_stepServo (s := d)
  have hetouch := touches_stepServo (s := d)
  generalize stepServo d = e at *
  have hcs : Touches [.now, .dtm, .regs, .host, .out, .log] [0x26] s c := (hatouch.mono.trans hbtouch.mono).then hctouch
  have hfld : ∀ f : Fld, f.addr / 0x1000 = 0x26 → d.fld f = c.fld f := fun f hf => hdtouch.fld (by rw [hf]; decide)
  have hstatus : ∀ f ∈ [F.DTM_STATUS_SLEWING, F.DTM_STATUS_STEP_GEN, F.DTM_STATUS_TIME_SET], e.fld f = b.fld f := fun f hf => by
    have h : f ∈ [F.DTM_STATUS_SLEWING, F.DTM_STATUS_STEP_GEN, F.DTM_STATUS_TIME_SET, F.DTM_STATUS_SOURCE] ∧ f.addr = A.DTM_STATUS := by revert f; decide
    exact (hkept.status f h.1).trans ((hfld f (by rw [h.2]; decide)).trans (hcregs.fld (by rw [h.2]; decide)))
  refine ⟨?_, ?_, ?_, ?_, ?_, ?_, ?_, ?_, ?_, ?_⟩
  · rw [hkept.now, hdtouch.part .now (by decide), hctouch.part .now (by decide), hbtouch.part .now (by decide), hanow]
  · rw [hstatus _ (by decide), hbgen, Nat.mod_mod]
  · rw [State.flag, hstatus _ (by decide), ← State.flag, hbset]
  · rw [State.flag, hstatus _ (by decide), ← State.flag, hbslew, haslew]
  · rw [hkept.slew, hdtouch.part .dtm (by decide), hctouch.part .dtm (by decide), hbtouch.part .dtm (by decide), hadtm]
  · rw [hkept.fld (by decide), hfld _ (by decide), hcregs.fld (by decide), hbsteps, haregs.fld (by decide)]
  · exact hkept.cause 1 (by decide) ((dtmCause_of_reg (hdtouch.reg _ (by decide)) 1).trans hccause)
  · exact ((((DtmCauses.of_only haregs).trans (DtmCauses.of_only hbregs)).trans hccauses).trans (DtmCauses.of_reg (hdtouch.reg _ (by decide)))).trans
      hkept.cause
  · exact (((haregs.page.trans hbregs.page).trans hcregs.page).trans hdtouch.page).trans hkept.page
  · exact (hcs.mono.trans hdtouch.mono).trans hetouch

/-- A step within the range of SEC (R536). -/
theorem stepDatum_spec (ns : Int) (kind : Nat) {total : Int} (ht : total = (s.nowNs : Int) + ns) (h0 : 0 ≤ total)
    (hmax : total < (2 ^ 48 * 1000000000 : Nat)) : ∃ t, stepDatum s ns kind = some t ∧ Stepped s t total.toNat := by
  obtain ⟨steps, sev, data, he⟩ := stepDatum_eq ns kind ht h0 hmax
  exact ⟨_, he, stepped_of total.toNat steps sev data ns⟩

/-! ### Measurements (R537, R539, R542) -/

theorem onlyRegs_jumpRefused (origin : Nat) (change : Int) : OnlyRegs s (jumpRefused s origin change) [0x26010] := fun a ha =>
  onlyRegs_setCause _ 0x26 0 a ha

theorem jumpRefused_spec (origin : Nat) (change : Int) : causeSet (jumpRefused s origin change) 0x26 0 = true ∧
    lastEvent (jumpRefused s origin change) 0x26 0x1001 ∧ (jumpRefused s origin change).dtm = s.dtm ∧ (jumpRefused s origin change).now = s.now := by
  refine ⟨?_, lastEvent_setCause _ _ (lastEvent_event _ _ _ _ _), setCause_dtm _ _ _, setCause_now _ _ _⟩
  exact (causeSet_setCause _ 0x26 0 0 (by decide)).trans (Bool.or_true _)

theorem refuseMeasure_spec (o : Int) : (refuseMeasure s o).fld F.DTM_STATUS_SERVO = 4 ∧ causeSet (refuseMeasure s o) 0x26 0 = true ∧
    (refuseMeasure s o).now = s.now ∧ DatumPage s (refuseMeasure s o) ∧ DtmCauses s (refuseMeasure s o) := by
  unfold refuseMeasure
  simp only
  generalize ht : (if s.fld F.DTM_STATUS_SERVO = 4 then s else s.count F.DTM_REFUSED_JUMPS_COUNT 1) = t
  have hcount : DatumPage s t ∧ t.now = s.now ∧ DtmCauses s t := by
    rw [← ht]
    split
    · exact ⟨fun _ _ _ => rfl, rfl, fun _ _ h => h⟩
    · exact ⟨(onlyRegs_count s F.DTM_REFUSED_JUMPS_COUNT 1).page, State.count_now _ _ _, DtmCauses.of_only (onlyRegs_count s F.DTM_REFUSED_JUMPS_COUNT 1)⟩
  obtain ⟨hcause, -, -, hnow⟩ := jumpRefused_spec (s := t) 1 (-o)
  have honly := onlyRegs_jumpRefused (s := t) 1 (-o)
  have hcauses : DtmCauses t (jumpRefused t 1 (-o)) := fun c hc h => DtmCauses.setCause 0 c hc h
  generalize jumpRefused t 1 (-o) = u at *
  have hkept := servoKept_setServo (s := u) 4 false (by decide)
  exact ⟨setServo_servo 4 false (by decide), hkept.cause 0 (by decide) hcause, hkept.now.trans (hnow.trans hcount.2.1),
    (hcount.1.trans honly.page).trans hkept.page, (hcount.2.2.trans hcauses).trans hkept.cause⟩

theorem adjustInc_spec : incMin ≤ inc (adjustInc s) ∧ inc (adjustInc s) ≤ incMax ∧ (adjustInc s).dtm.slew = s.dtm.slew ∧ (adjustInc s).now = s.now ∧
    OnlyRegs s (adjustInc s) [A.DTM_INC, A.DTM_INC_HI] := by
  unfold adjustInc
  simp only
  have hdraw : (drawNat s (incMax - incMin + 1)).1 < incMax - incMin + 1 := Nat.mod_lt _ (by decide)
  have hrest : ∀ k, (drawNat s k).2.regs = s.regs ∧ (drawNat s k).2.dtm = s.dtm ∧ (drawNat s k).2.now = s.now := fun _ => ⟨rfl, rfl, rfl⟩
  specialize hrest (incMax - incMin + 1)
  generalize (drawNat s (incMax - incMin + 1)).1 = k at *
  generalize (drawNat s (incMax - incMin + 1)).2 = t at *
  have hinc : ∀ d, inc ((t.setWide A.DTM_INC (incMin + k)).setDtm d) = incMin + k := fun d => by
    refine (State.wide_setWide_self t A.DTM_INC (incMin + k)).trans (Nat.mod_eq_of_lt ?_)
    have hmax : incMax < 2 ^ 64 ∧ incMin ≤ incMax := by decide
    omega
  have hmax : incMin ≤ incMax := by decide
  refine ⟨by rw [hinc]; omega, by rw [hinc]; omega, (congrArg Datum.slew hrest.2.1 : t.dtm.slew = s.dtm.slew), hrest.2.2, fun a ha => ?_⟩
  exact (onlyRegs_setWide t A.DTM_INC _ a ha).trans (State.reg_congr hrest.1 a)

/-- What counting an accepted measurement leaves. -/
structure Counted (s t : State) : Prop where
  causes : DtmCauses s t
  page : DatumPage s t
  slew : t.dtm.slew = s.dtm.slew
  inc : inc t = inc s
  now : t.now = s.now

theorem Counted.refl (s : State) : Counted s s := ⟨fun _ _ h => h, fun _ _ _ => rfl, rfl, rfl, rfl⟩

theorem Counted.trans (h : Counted s t) (h' : Counted t u) : Counted s u :=
  ⟨h.causes.trans h'.causes, h.page.trans h'.page, h'.slew.trans h.slew, h'.inc.trans h.inc, h'.now.trans h.now⟩

theorem Counted.setServo {st : Nat} (b : Bool) (hst : st < 8) (h3 : st ≠ 3) (h4 : st ≠ 4) : Counted s (setServo s st b) :=
  ⟨(servoKept_setServo st b hst).cause, (servoKept_setServo st b hst).page, (servoKept_setServo st b hst).slew, setServo_inc st b hst h3 h4, (servoKept_setServo st b hst).now⟩

theorem Counted.setDtm {d : Datum} (h : d.slew = s.dtm.slew) : Counted s (s.setDtm d) := ⟨fun _ _ h => h, fun _ _ _ => rfl, h, rfl, rfl⟩

/-- The state of the servo as an accepted measurement finds it. -/
def acceptedState (s : State) : State :=
  match s.fld F.DTM_STATUS_SERVO with
  | 1 => s
  | 2 => s.setDtm { s.dtm with goodHold := true }
  | _ => setServo s 1 false

/-- The run of measurements goes on by one of offset `o`. -/
def countOn (s : State) (lock : Nat) (o : Int) : State :=
  if s.fld F.DTM_STATUS_SERVO = 2 then
    let n := if 4 * lock < o.natAbs then s.dtm.outside + 1 else 0
    if 4 ≤ n then setServo s 1 false else s.setDtm { s.dtm with outside := n }
  else
    let n := if o.natAbs ≤ lock then s.dtm.within + 1 else 0
    if 16 ≤ n then setServo s 2 false else s.setDtm { s.dtm with within := n }

theorem countMeasure_eq (o : Int) : countMeasure s o = countOn (acceptedState s) (s.fld F.DTM_SERVO_CFG_LOCK_NS * 10) o := rfl

theorem counted_acceptedState : Counted s (acceptedState s) := by
  unfold acceptedState
  split
  · exact Counted.refl s
  · exact Counted.setDtm rfl
  · exact Counted.setServo false (by decide) (by decide) (by decide)

theorem counted_countOn (lock : Nat) (o : Int) : Counted s (countOn s lock o) := by
  have hend : ∀ (c : Prop) [Decidable c] (st : Nat) (d : Datum), st = 1 ∨ st = 2 → d.slew = s.dtm.slew →
      Counted s (if c then setServo s st false else s.setDtm d) := fun c _ st d hst hd => by
    split
    · exact Counted.setServo false (by omega) (by omega) (by omega)
    · exact Counted.setDtm hd
  unfold countOn
  split
  · exact hend _ 1 _ (Or.inl rfl) rfl
  · exact hend _ 2 _ (Or.inr rfl) rfl

theorem counted_countMeasure (o : Int) : Counted s (countMeasure s o) := by
  rw [countMeasure_eq]
  exact counted_acceptedState.trans (counted_countOn _ o)

/-- A measurement as the servo acts on it. -/
structure Measured (s t : State) (o : Int) : Prop where
  causes : DtmCauses s t
  page : ∀ a, a / 0x1000 = 0x26 → a ∉ A.DTM_LAST_OFFSET :: disciplineRegs → t.reg a = s.reg a
  shown : t.reg A.DTM_LAST_OFFSET = BitVec.ofNat 32 (unsigned 32 (clampSigned 32 o))
  refused : s.fld F.DTM_JUMP_THRESH_NS < o.natAbs → s.flag F.DTM_STATUS_TIME_SET = true →
    t.fld F.DTM_STATUS_SERVO = 4 ∧ causeSet t 0x26 0 = true ∧ t.now = s.now
  slewed : o.natAbs ≤ s.fld F.DTM_JUMP_THRESH_NS ∨ s.flag F.DTM_STATUS_TIME_SET = false → o.natAbs ≤ s.fld F.DTM_SERVO_CFG_SLEW_LIMIT_US * 1000 →
    t.dtm.slew = -o * 2 ^ 32 ∧ incMin ≤ inc t ∧ inc t ≤ incMax ∧ t.now = s.now

theorem measured_acts {o : Int} (hcauses : DtmCauses s t) (hpage : DatumPage s t) (hregs : ∀ a, a ≠ A.DTM_LAST_OFFSET → s.reg a = u.reg a)
    (hs : s.reg A.DTM_LAST_OFFSET = BitVec.ofNat 32 (unsigned 32 (clampSigned 32 o)))
    (hr : u.fld F.DTM_JUMP_THRESH_NS < o.natAbs → u.flag F.DTM_STATUS_TIME_SET = true →
      t.fld F.DTM_STATUS_SERVO = 4 ∧ causeSet t 0x26 0 = true ∧ t.now = u.now)
    (hl : o.natAbs ≤ u.fld F.DTM_JUMP_THRESH_NS ∨ u.flag F.DTM_STATUS_TIME_SET = false → o.natAbs ≤ u.fld F.DTM_SERVO_CFG_SLEW_LIMIT_US * 1000 →
      t.dtm.slew = -o * 2 ^ 32 ∧ incMin ≤ inc t ∧ inc t ≤ incMax ∧ t.now = u.now) : Measured u t o := by
  refine ⟨(DtmCauses.of_reg (hregs _ (by decide))).trans hcauses, fun a hp ha => ?_, (hpage _ (by decide) (by decide)).trans hs, hr, hl⟩
  obtain ⟨hne, hn⟩ := not_or.mp (fun h => ha (List.mem_cons.mpr h))
  exact (hpage a hp hn).trans (hregs a hne)

theorem measure_spec (o : Int) {gen : Nat} (hg : gen = s.fld F.DTM_STATUS_STEP_GEN) (hf : datumFollows s = false) : Measured s (measure s o gen) o := by
  have hc : (gen != s.fld F.DTM_STATUS_STEP_GEN || datumFollows s) = false := by
    rw [hf, Bool.or_false, hg]
    exact bne_self_eq_false _
  unfold measure
  simp only
  rw [hc, if_neg Bool.false_ne_true]
  have hset := onlyRegs_setReg s A.DTM_LAST_OFFSET (BitVec.ofNat 32 (unsigned 32 (clampSigned 32 o)))
  have hself : (s.setReg A.DTM_LAST_OFFSET (BitVec.ofNat 32 (unsigned 32 (clampSigned 32 o)))).reg A.DTM_LAST_OFFSET = _ := State.reg_setReg_self _ _ _
  have hnow : (s.setReg A.DTM_LAST_OFFSET (BitVec.ofNat 32 (unsigned 32 (clampSigned 32 o)))).now = s.now := State.setReg_now _ _ _
  generalize s.setReg A.DTM_LAST_OFFSET (BitVec.ofNat 32 (unsigned 32 (clampSigned 32 o))) = t at *
  have hjump : t.fld F.DTM_JUMP_THRESH_NS = s.fld F.DTM_JUMP_THRESH_NS := hset.fld (by decide)
  have hflag : t.flag F.DTM_STATUS_TIME_SET = s.flag F.DTM_STATUS_TIME_SET := hset.flag (by decide)
  have hlimit : t.fld F.DTM_SERVO_CFG_SLEW_LIMIT_US = s.fld F.DTM_SERVO_CFG_SLEW_LIMIT_US := hset.fld (by decide)
  have hregs : ∀ a, a ≠ A.DTM_LAST_OFFSET → t.reg a = s.reg a := fun a ha => hset a (by simpa using ha)
  obtain ⟨hservo, hcause, hrnow, hrpage, hrcauses⟩ := refuseMeasure_spec (s := t) o
  rw [hjump, hflag, hlimit]
  split
  · rename_i hj
    rw [Bool.and_eq_true, decide_eq_true_eq] at hj
    refine measured_acts hrcauses hrpage hregs hself (fun _ _ => ⟨hservo, hcause, hrnow.trans hnow⟩) (fun h => ?_)
    exact absurd h (by rw [hj.2]; simp; omega)
  · rename_i hj
    have hnot : ¬(s.fld F.DTM_JUMP_THRESH_NS < o.natAbs ∧ s.flag F.DTM_STATUS_TIME_SET = true) := by simpa using hj
    split
    · obtain ⟨hdtm, -, -, hscauses, honly, hsnow, -⟩ := startSlew_spec (s := t) (-o)
      generalize startSlew t (-o) = v at *
      obtain ⟨hmin, hmax, haslew, hanow, haonly⟩ := adjustInc_spec (s := v)
      generalize adjustInc v = w at *
      have hcounted := counted_countMeasure (s := w) o
      refine measured_acts ((hscauses.trans (DtmCauses.of_only haonly)).trans hcounted.causes) ((honly.page.trans haonly.page).trans hcounted.page) hregs hself (fun h h' => absurd ⟨h, h'⟩ hnot) fun _ _ => ?_
      exact ⟨hcounted.slew.trans (haslew.trans (by rw [hdtm])), by rw [hcounted.inc]; exact hmin, by rw [hcounted.inc]; exact hmax,
        hcounted.now.trans (hanow.trans (hsnow.trans hnow))⟩
    · rename_i hlim
      by_cases hrange : 0 ≤ (t.nowNs : Int) + -o ∧ (t.nowNs : Int) + -o < (2 ^ 48 * 1000000000 : Nat)
      · obtain ⟨v, hv, hstepped⟩ := stepDatum_spec (s := t) (-o) 2 rfl hrange.1 hrange.2
        rw [hv]
        exact measured_acts hstepped.causes hstepped.page hregs hself (fun h h' => absurd ⟨h, h'⟩ hnot) (fun _ h => absurd h hlim)
      · have hnone : stepDatum t (-o) 2 = none := by
          have hc : (decide ((t.nowNs : Int) + -o < 0) || decide (((2 ^ 48 * 1000000000 : Nat) : Int) ≤ (t.nowNs : Int) + -o)) = true := by
            rw [Bool.or_eq_true, decide_eq_true_eq, decide_eq_true_eq]
            omega
          rw [stepDatum]
          simp only [hc, if_true]
        rw [hnone]
        exact measured_acts hrcauses hrpage hregs hself (fun h h' => absurd ⟨h, h'⟩ hnot) (fun _ h => absurd h hlim)

/-- Whatever a measurement meets, the other registers and the causes of DTM stay. -/
theorem measure_leaves (o : Int) (gen : Nat) : DtmCauses s (measure s o gen) ∧
    ∀ a, a / 0x1000 = 0x26 → a ∉ A.DTM_LAST_OFFSET :: disciplineRegs → (measure s o gen).reg a = s.reg a := by
  by_cases hc : gen = s.fld F.DTM_STATUS_STEP_GEN ∧ datumFollows s = false
  · exact ⟨(measure_spec o hc.1 hc.2).causes, (measure_spec o hc.1 hc.2).page⟩
  · have hskip : measure s o gen = s := by
      have hcond : (gen != s.fld F.DTM_STATUS_STEP_GEN || datumFollows s) = true := by
        rw [not_and_or, Bool.not_eq_false] at hc
        rw [Bool.or_eq_true, bne_iff_ne]
        exact hc
      rw [measure, if_pos hcond]
    rw [hskip]
    exact ⟨fun _ _ h => h, fun _ _ _ => rfl⟩

end

end Sys2Proof.Machine
end

section
/-!
PROOFS. The commands that step, slew and steer Datum, and its pulses (16_datum_network_time.md, Changing the time; Pulse per second; DTM registers).
-/
namespace Sys2Proof.Machine

-- One proof after another: side by side, the threads of so long a text want more memory than the check grants.
set_option Elab.async false

section
variable {s t u : State} {src : Requester} {data : Word}

/-! ### Writes of registers of one field -/

theorem applyField_open {s : State} {a page off : Nat} {data : Word} (acc : WriteAcc) {l k lock : Nat} {ty : FieldType} (hty : ty = .rw ∨ ty = .lk)
    (h0 : 0 < k) (hw : l + k ≤ 32) (hlock : fieldLocked s a ⟨l, k, ty, lock⟩ = false)
    (hres : reservedEnc s (a / 0x1000 - page) page off l (bitsOf data.toNat l k) data.toNat = false) :
    applyField s a page off data allBits acc ⟨l, k, ty, lock⟩ = { acc with word := insBits acc.word l k (bitsOf data.toNat l k) } := by
  have hm : 2 ^ k - 1 ≠ 0 := Nat.sub_ne_zero_of_lt (Nat.one_lt_two_pow h0.ne')
  rcases hty with rfl | rfl <;>
    simp only [applyField, bitsOf_allBits _ _ hw, if_neg hm, merged_allBits, hlock, hres, Bool.false_eq_true, if_false]

/-- A whole write of a register of one field that is open and takes the value. -/
theorem writeFields_oneField {a : Nat} {r : RegSpec} {l k lock : Nat} {ty : FieldType} (hr : specOf a = some r) (hfs : r.fields = [⟨l, k, ty, lock⟩])
    (hty : ty = .rw ∨ ty = .lk) (h0 : 0 < k) (hw : l + k ≤ 32) (hlock : fieldLocked s a ⟨l, k, ty, lock⟩ = false)
    (hres : reservedEnc s (a / 0x1000 - basePage (a / 0x1000)) (basePage (a / 0x1000)) r.off l (bitsOf data.toNat l k) data.toNat = false) :
    writeFields s src a data allBits = s.setFld ⟨a, l, k⟩ (bitsOf data.toNat l k) := by
  refine (writeFields_of_foldl s src a data allBits hr (w := insBits (s.reg a) l k (bitsOf data.toNat l k)) (reserved := false) ?_).trans rfl
  rw [hfs, List.foldl_cons, List.foldl_nil, applyField_open _ hty h0 hw hlock hres]

theorem setFld_whole {a : Nat} : s.setFld ⟨a, 0, 32⟩ (bitsOf data.toNat 0 32) = s.setReg a data := by rw [State.setFld, insBits_all]

theorem writeFields_inc (high : Bool) : writeFields s src (if high then A.DTM_INC_HI else A.DTM_INC) data allBits =
    s.setReg (if high then A.DTM_INC_HI else A.DTM_INC) data := by
  cases high
  · exact (writeFields_oneField (k := 32) (ty := .rw) (lock := 32) (l := 0) rfl rfl (Or.inl rfl) (by decide) (by decide) rfl rfl).trans setFld_whole
  · exact (writeFields_oneField (k := 32) (ty := .rw) (lock := 32) (l := 0) rfl rfl (Or.inl rfl) (by decide) (by decide) rfl rfl).trans setFld_whole

theorem writeFields_dtmCtrl : writeFields s src A.DTM_CTRL data allBits = s.setFld F.DTM_CTRL_HOST_LOCK (bitsOf data.toNat 0 1) :=
  writeFields_oneField (ty := .rw) (lock := 32) rfl rfl (Or.inl rfl) (by decide) (by decide) rfl rfl

theorem writeFields_srcCfg (hl : s.flag F.DTM_LOCK_LOCK0 = false) (hd : data.toNat % 8 ≤ 5) :
    writeFields s src A.DTM_SRC_CFG data allBits = s.setFld F.DTM_SRC_CFG_SOURCE (data.toNat % 8) := by
  have hlock : fieldLocked s A.DTM_SRC_CFG ⟨0, 3, .lk, 0⟩ = false := by
    rw [State.flag_eq_bit rfl] at hl
    exact hl
  have hv : bitsOf data.toNat 0 3 = data.toNat % 8 := by rw [bitsOf, pow_zero, Nat.div_one]; rfl
  have hres : reservedEnc s (A.DTM_SRC_CFG / 0x1000 - basePage (A.DTM_SRC_CFG / 0x1000)) (basePage (A.DTM_SRC_CFG / 0x1000)) 0x028 0
      (bitsOf data.toNat 0 3) data.toNat = false := by
    show decide (5 < bitsOf data.toNat 0 3) = false
    rw [hv, decide_eq_false_iff_not]
    omega
  refine (writeFields_oneField (ty := .lk) (lock := 0) rfl rfl (Or.inr rfl) (by decide) (by decide) hlock hres).trans ?_
  rw [hv]

/-! ### DATUM_STEP (R536–R538) -/

/-- A forced step is counted as such. -/
def forcedCounted (s : State) (force : Bool) : State := if force then s.count F.DTM_FORCED_STEPS_COUNT 1 else s

theorem forcedCounted_spec (force : Bool) : OnlyRegs s (forcedCounted s force) [A.DTM_FORCED_STEPS] ∧
    (forcedCounted s force).fld F.DTM_FORCED_STEPS_COUNT =
      (if force then satAdd 32 (s.fld F.DTM_FORCED_STEPS_COUNT) 1 else s.fld F.DTM_FORCED_STEPS_COUNT) ∧
    Touches [.regs] [0x26] s (forcedCounted s force) := by
  unfold forcedCounted
  cases force
  · exact ⟨fun _ _ => rfl, rfl, Touches.refl s⟩
  · exact ⟨onlyRegs_count s F.DTM_FORCED_STEPS_COUNT 1, State.fld_count_self s F.DTM_FORCED_STEPS_COUNT 1 (by decide),
      touches_count F.DTM_FORCED_STEPS_COUNT 1⟩

theorem datumStep_eq {id : CmdId} {c : Cmd} (hc : mayStart s id 0x0501 c)
    (h : stepDatum (commitCmd s id) (signed 64 (fieldAt c.desc 16 8)) (if bit (fieldAt c.desc 24 1) 0 then 4 else 3) = some t) :
    datumStep s id = finish (forcedCounted t (bit (fieldAt c.desc 24 1) 0)) id 0x00
      (leBytes 4 (forcedCounted t (bit (fieldAt c.desc 24 1) 0)).now.sec ++ leBytes 4 (forcedCounted t (bit (fieldAt c.desc 24 1) 0)).now.ns) := by
  simp only [datumStep, hc.1, h]
  rfl

theorem datumStep_spec {id : CmdId} {c : Cmd} {total : Int} (hs : s.operating = true) (hc : mayStart s id 0x0501 c)
    (ht : total = (s.nowNs : Int) + signed 64 (fieldAt c.desc 16 8)) (h0 : 0 ≤ total) (hmax : total < (2 ^ 48 * 1000000000 : Nat)) :
    ∃ t, exec (.datumStep id) s = .next t ∧
      t.now = { sec := total.toNat / 1000000000, ns := total.toNat % 1000000000, frac := s.now.frac } ∧
      t.fld F.DTM_STATUS_STEP_GEN = (s.fld F.DTM_STATUS_STEP_GEN + 1) % 4 ∧ t.flag F.DTM_STATUS_TIME_SET = true ∧
      t.flag F.DTM_STATUS_SLEWING = false ∧ t.dtm.slew = 0 ∧ t.fld F.DTM_STEPS_COUNT = satAdd 32 (s.fld F.DTM_STEPS_COUNT) 1 ∧
      t.fld F.DTM_FORCED_STEPS_COUNT =
        (if bit (fieldAt c.desc 24 1) 0 then satAdd 32 (s.fld F.DTM_FORCED_STEPS_COUNT) 1 else s.fld F.DTM_FORCED_STEPS_COUNT) ∧
      causeSet t 0x26 1 = true ∧ SameMemory s t ∧ outcome t id = some (onePart 0x00 0 (leBytes 4 t.now.sec ++ leBytes 4 t.now.ns)) := by
  have hcommit := touches_commitCmd (s := s) id
  have hfound := hc.isPending.commitCmd
  have hnow : (commitCmd s id).nowNs = s.nowNs := congrArg Time.toNs (hcommit.part .now (by decide))
  obtain ⟨v, hv, hstepped⟩ := stepDatum_spec (s := commitCmd s id) (signed 64 (fieldAt c.desc 16 8)) (if bit (fieldAt c.desc 24 1) 0 then 4 else 3)
    (total := total) (by rw [hnow, ht]) h0 hmax
  have hexec : exec (.datumStep id) s = .next _ := (congrArg Host.Outcome.next (if_pos hs)).trans (congrArg Host.Outcome.next (datumStep_eq hc hv))
  generalize commitCmd s id = a at hcommit hfound hstepped
  obtain ⟨hreg, hforced, hftouch⟩ := forcedCounted_spec (s := v) (bit (fieldAt c.desc 24 1) 0)
  generalize bit (fieldAt c.desc 24 1) 0 = force at *
  have hpend := hfound.of (hstepped.touches.mono.trans hftouch.mono : Touches stepParts [0x26, 0x1C, 0x23] a (forcedCounted v force))
  generalize forcedCounted v force = w at *
  have hout := hpend.finish 0x00 (leBytes 4 w.now.sec ++ leBytes 4 w.now.ns)
  have hend := touches_finish (s := w) id 0x00 (leBytes 4 w.now.sec ++ leBytes 4 w.now.ns)
  refine ⟨_, hexec, ?_⟩
  generalize finish w id 0x00 (leBytes 4 w.now.sec ++ leBytes 4 w.now.ns) = x at *
  have hxnow : x.now = w.now := hend.part .now (by decide)
  have hwnow : w.now = v.now := hftouch.part .now (by decide)
  have hfld : ∀ f : Fld, f.addr / 0x1000 = 0x26 → f.addr ≠ A.DTM_FORCED_STEPS → x.fld f = v.fld f := fun f hf hn =>
    (hend.fld (by rw [hf]; decide)).trans (hreg.fld (by simpa using hn))
  have hflag : ∀ f : Fld, f.addr = A.DTM_STATUS → x.flag f = v.flag f := fun f hf => by
    rw [State.flag, hfld f (by rw [hf]; decide) (by rw [hf]; decide), State.flag]
  have hfa : ∀ f : Fld, a.fld f = s.fld f := fun f => hcommit.fld (by simp)
  refine ⟨?_, ?_, ?_, ?_, ?_, ?_, ?_, ?_, ?_, ?_⟩
  · rw [hxnow, hwnow, hstepped.now, show a.now = s.now from hcommit.part .now (by decide)]
  · rw [hfld _ (by decide) (by decide), hstepped.gen, hfa]
  · rw [hflag _ rfl, hstepped.set]
  · rw [hflag _ rfl, hstepped.slewing]
  · rw [show x.dtm = w.dtm from hend.part .dtm (by decide), show w.dtm = v.dtm from hftouch.part .dtm (by decide), hstepped.slew]
  · rw [hfld _ (by decide) (by decide), hstepped.steps, hfa]
  · rw [hend.fld (by decide), hforced, hstepped.page.fld (by decide), hfa]
  · rw [dtmCause_of_reg ((hend.reg _ (by decide)).trans (hreg _ (by decide)))]
    exact hstepped.cause
  · refine sameMemory_of_dram ?_
    rw [show x.dram = w.dram from hend.part .dram (by decide), show w.dram = v.dram from hftouch.part .dram (by decide),
      show v.dram = a.dram from hstepped.touches.part .dram (by decide), show a.dram = s.dram from hcommit.part .dram (by decide)]
  · rw [hout, hxnow]

/-! ### Reading the time (R529) and the stamps (R549) -/

theorem shadowWord_readWide (a : Nat) (ws : List Word) (i : Nat) : shadowWord (readWide s src a ws) src i = ((ws.drop 1).drop (i - 1)).headD 0#32 := by
  show ((Tbl.get noShadow (Tbl.put noShadow s.bus.shadow src.code { base := a, words := ws.drop 1 }) src.code).words.drop (i - 1)).headD 0#32 = _
  rw [Tbl.get_put_self]

theorem timeSnapshot_spec (hs : s.inOperation = true) (src : Requester) :
    ∃ t, exec (.dtmTimeSnapshot src) s = .next t ∧ t.out = s.out ++ [.readData src A.DTM_TIME (BitVec.ofNat 32 s.now.frac)] ∧
      shadowWord t src 1 = BitVec.ofNat 32 (s.now.ns % 2 ^ 30 + s.fld F.DTM_STATUS_STEP_GEN * 2 ^ 30) ∧
      shadowWord t src 2 = BitVec.ofNat 32 s.now.sec ∧ shadowWord t src 3 = BitVec.ofNat 32 (s.now.sec / 2 ^ 32) ∧
      t = { s with bus := t.bus, out := t.out } :=
  ⟨readWide s src A.DTM_TIME (timeWords s), congrArg Host.Outcome.next (gateRead_inOperation hs (by decide +kernel) src _), readWide_out _ _ _,
    shadowWord_readWide _ _ 1, shadowWord_readWide _ _ 2, shadowWord_readWide _ _ 3, (touches_readWide src A.DTM_TIME (timeWords s)).eq⟩

theorem ppsTsPop_spec (hs : s.inOperation = true) (hsrc : src ≠ .jtag) :
    ∃ t, exec (.ppsTsPop src) s = .next t ∧ t.out = s.out ++ [.readData src A.DTM_PPS_TS (s.reg A.DTM_PPS_TS)] ∧
      shadowWord t src 1 = s.reg A.DTM_PPS_TS1 ∧ shadowWord t src 3 = s.reg A.DTM_PPS_TS3 ∧ t.reg A.DTM_PPS_TS = 0#32 ∧
      OnlyRegs s t [A.DTM_PPS_TS] := by
  have hpop : ppsTsPop s src = (readWide s src A.DTM_PPS_TS (ppsTsWords s)).setReg A.DTM_PPS_TS 0#32 := if_neg hsrc
  refine ⟨_, (congrArg Host.Outcome.next (gateRead_inOperation hs (by decide +kernel) src _)).trans (congrArg Host.Outcome.next hpop), ?_⟩
  have hw1 := shadowWord_readWide (s := s) (src := src) A.DTM_PPS_TS (ppsTsWords s) 1
  have hw3 := shadowWord_readWide (s := s) (src := src) A.DTM_PPS_TS (ppsTsWords s) 3
  have hout := readWide_out (s := s) src A.DTM_PPS_TS (ppsTsWords s)
  have htouch := touches_readWide (s := s) src A.DTM_PPS_TS (ppsTsWords s)
  generalize readWide s src A.DTM_PPS_TS (ppsTsWords s) = a at *
  refine ⟨hout, hw1, hw3, State.reg_setReg_self _ _ _, ?_⟩
  exact OnlyRegs.trans (as := []) (fun r _ => htouch.reg r (by simp)) (onlyRegs_setReg a A.DTM_PPS_TS 0#32)

/-! ### INC (R528, R534) -/

theorem wordLocked_inc (high : Bool) : wordLocked s (if high then A.DTM_INC_HI else A.DTM_INC) = false := by
  cases high <;> rfl

theorem incWrite_low (ho : owned s = false) (hmin : incMin ≤ inc s) (hmax : inc s ≤ incMax) : incWrite s src A.DTM_INC data =
    setHold s src { base := A.DTM_INC, words := Tbl.ins A.DTM_INC data (Tbl.erase A.DTM_INC
      (if (Tbl.get noHold s.bus.hold src.code).base = A.DTM_INC then (Tbl.get noHold s.bus.hold src.code).words else [])) } := by
  have hwide : wideWrite s src A.DTM_INC data (fun s a d => writeFields s src a d allBits) =
      setHold s src { base := A.DTM_INC, words := Tbl.ins A.DTM_INC data (Tbl.erase A.DTM_INC
        (if (Tbl.get noHold s.bus.hold src.code).base = A.DTM_INC then (Tbl.get noHold s.bus.hold src.code).words else [])) } := by
    have hl : wordLocked s A.DTM_INC = false := wordLocked_inc false
    have hw : wideOf A.DTM_INC = some (A.DTM_INC, 2) := rfl
    simp only [wideWrite, hw, hl, Bool.false_eq_true, if_false]
    exact if_neg (by decide)
  have hinc : ∀ h, inc (setHold s src h) = inc s := fun _ => rfl
  have hc : (decide (inc s < incMin) || decide (incMax < inc s)) = false := by
    rw [decide_eq_false (by omega), decide_eq_false (by omega)]
    rfl
  unfold incWrite
  simp only [ho, Bool.false_eq_true, if_false, hwide, hinc, hc]

theorem incWrite_high {lo : Word} (ho : owned s = false) (hh : Tbl.get noHold s.bus.hold src.code = { base := A.DTM_INC, words := [(A.DTM_INC, lo)] }) :
    incWrite s src A.DTM_INC_HI data =
      (if (decide (lo.toNat + 2 ^ 32 * data.toNat < incMin) || decide (incMax < lo.toNat + 2 ^ 32 * data.toNat)) = true then
        recordErr ((((setHold s src { base := 0, words := [] }).setReg A.DTM_INC lo).setReg A.DTM_INC_HI data).setWide A.DTM_INC (inc s)) 0x26 0x05 src.code A.DTM_INC_HI
      else ((setHold s src { base := 0, words := [] }).setReg A.DTM_INC lo).setReg A.DTM_INC_HI data) := by
  have hwide : wideWrite s src A.DTM_INC_HI data (fun s a d => writeFields s src a d allBits) =
      ((setHold s src { base := 0, words := [] }).setReg A.DTM_INC lo).setReg A.DTM_INC_HI data := by
    have hl : wordLocked s A.DTM_INC_HI = false := wordLocked_inc true
    have hw : wideOf A.DTM_INC_HI = some (A.DTM_INC, 2) := rfl
    have hcommit := fun (x : State) (d : Word) => writeFields_inc (s := x) (src := src) (data := d) false
    have hcommit' := fun (x : State) (d : Word) => writeFields_inc (s := x) (src := src) (data := d) true
    simp only [wideWrite, hw, hl, hh, Bool.false_eq_true, if_false, if_true]
    simp only [List.foldl_cons, List.foldl_nil]
    exact (hcommit' _ _).trans (congrArg (fun x => State.setReg x A.DTM_INC_HI data) (hcommit _ _))
  have hinc : inc (((setHold s src { base := 0, words := [] }).setReg A.DTM_INC lo).setReg A.DTM_INC_HI data) = lo.toNat + 2 ^ 32 * data.toNat := by
    have hlow : (((setHold s src { base := 0, words := [] }).setReg A.DTM_INC lo).setReg A.DTM_INC_HI data).reg A.DTM_INC = lo :=
      (onlyRegs_setReg _ A.DTM_INC_HI data _ (by decide)).trans (State.reg_setReg_self _ _ _)
    rw [inc, State.wide, hlow, show A.DTM_INC + 4 = A.DTM_INC_HI from rfl, State.reg_setReg_self]
  unfold incWrite
  simp only [ho, Bool.false_eq_true, if_false, hwide, hinc]

theorem inc_lt : inc s < 2 ^ 64 := by
  have h1 := (s.reg A.DTM_INC).isLt
  have h2 := (s.reg (A.DTM_INC + 4)).isLt
  rw [inc, State.wide]
  omega

theorem incWrite_spec (hs : s.inOperation = true) (src : Requester) (ho : owned s = false) (hmin : incMin ≤ inc s) (hmax : inc s ≤ incMax) (lo hi : Word) :
    (∃ t, exec (.incWrite src false lo) s = .next t ∧ inc t = inc s ∧
      Tbl.get (fun _ => 0#32) (Tbl.get noHold t.bus.hold src.code).words A.DTM_INC = lo ∧ OnlyRegs s t []) ∧
    (Tbl.get noHold s.bus.hold src.code = { base := A.DTM_INC, words := [(A.DTM_INC, lo)] } →
      (incMin ≤ lo.toNat + 2 ^ 32 * hi.toNat → lo.toNat + 2 ^ 32 * hi.toNat ≤ incMax → ∃ t, exec (.incWrite src true hi) s = .next t ∧
        inc t = lo.toNat + 2 ^ 32 * hi.toNat ∧ OnlyRegs s t [A.DTM_INC, A.DTM_INC_HI]) ∧
      (lo.toNat + 2 ^ 32 * hi.toNat < incMin ∨ incMax < lo.toNat + 2 ^ 32 * hi.toNat → ∃ t, exec (.incWrite src true hi) s = .next t ∧
        inc t = inc s ∧ causeSet t 0x26 31 = true)) := by
  have hexec : ∀ (high : Bool) (d : Word), exec (.incWrite src high d) s = .next (incWrite s src (if high then A.DTM_INC_HI else A.DTM_INC) d) := fun high d =>
    congrArg Host.Outcome.next (gateWrite_inOperation hs (by cases high <;> decide +kernel) src _)
  refine ⟨⟨_, (hexec false lo).trans (congrArg Host.Outcome.next (incWrite_low ho hmin hmax)), rfl, ?_, fun _ _ => rfl⟩, fun hh => ⟨fun h1 h2 => ?_, fun h => ?_⟩⟩
  · have hheld : ∀ h, Tbl.get noHold (setHold s src h).bus.hold src.code = h := fun h => Tbl.get_put_self _ _ _ _
    rw [hheld]
    exact Tbl.get_ins_self _ _ _ _ (Tbl.erase_ne _ _)
  · have hc : ¬(decide (lo.toNat + 2 ^ 32 * hi.toNat < incMin) || decide (incMax < lo.toNat + 2 ^ 32 * hi.toNat)) = true := by
      rw [decide_eq_false (by omega), decide_eq_false (by omega)]
      decide
    have hlow : (((setHold s src { base := 0, words := [] }).setReg A.DTM_INC lo).setReg A.DTM_INC_HI hi).reg A.DTM_INC = lo :=
      (onlyRegs_setReg _ A.DTM_INC_HI hi _ (by decide)).trans (State.reg_setReg_self _ _ _)
    refine ⟨_, (hexec true hi).trans (congrArg Host.Outcome.next ((incWrite_high ho hh).trans (if_neg hc))), ?_, ?_⟩
    · rw [inc, State.wide, hlow, show A.DTM_INC + 4 = A.DTM_INC_HI from rfl, State.reg_setReg_self]
    · exact (onlyRegs_setReg (setHold s src { base := 0, words := [] }) A.DTM_INC lo).trans (onlyRegs_setReg _ A.DTM_INC_HI hi)
  · have hc : (decide (lo.toNat + 2 ^ 32 * hi.toNat < incMin) || decide (incMax < lo.toNat + 2 ^ 32 * hi.toNat)) = true := by
      rw [Bool.or_eq_true, decide_eq_true_eq, decide_eq_true_eq]
      exact h
    refine ⟨_, (hexec true hi).trans (congrArg Host.Outcome.next ((incWrite_high ho hh).trans (if_pos hc))), ?_, causeSet_recordErr _ _ _ _ _⟩
    have hkept := onlyRegs_recordErr ((((setHold s src { base := 0, words := [] }).setReg A.DTM_INC lo).setReg A.DTM_INC_HI hi).setWide A.DTM_INC (inc s))
      0x26 0x05 src.code A.DTM_INC_HI
    refine (hkept.wide (a := A.DTM_INC) (by decide) (by decide)).trans ?_
    rw [State.wide_setWide_self]
    exact Nat.mod_eq_of_lt inc_lt

/-- While a source owns the counter, its hooks are errors. -/
theorem servoOwned_spec (a : Nat) : causeSet (servoOwned s src a) 0x26 31 = true ∧ inc (servoOwned s src a) = inc s ∧ (servoOwned s src a).dtm = s.dtm ∧
    OnlyRegs s (servoOwned s src a) [0x26010, 0x2601C, 0x26020] := by
  have hreg : OnlyRegs s (servoOwned s src a) [0x26010, 0x2601C, 0x26020] := onlyRegs_recordErr s 0x26 0x80 src.code a
  exact ⟨causeSet_recordErr _ _ _ _ _, hreg.wide (by decide) (by decide), recordErr_dtm _ _ _ _ _, hreg⟩

theorem ownedHooks_spec (hs : s.inOperation = true) (ho : owned s = true) :
    ∀ c ∈ [Instr.incWrite src false 0#32, .incWrite src true 0#32, .adjPhaseWrite src 0#32], ∃ t, exec c s = .next t ∧
      causeSet t 0x26 31 = true ∧ inc t = inc s ∧ t.dtm = s.dtm ∧ OnlyRegs s t [0x26010, 0x2601C, 0x26020] := by
  simp only [List.forall_mem_cons, List.not_mem_nil, false_implies, implies_true, and_true]
  have hinc : ∀ a, incWrite s src a 0#32 = servoOwned s src a := fun _ => if_pos ho
  have hadj : adjPhaseWrite s src 0#32 = servoOwned s src A.DTM_ADJ_PHASE := if_pos ho
  refine ⟨⟨servoOwned s src A.DTM_INC, ?_, servoOwned_spec _⟩, ⟨servoOwned s src A.DTM_INC_HI, ?_, servoOwned_spec _⟩,
    ⟨servoOwned s src A.DTM_ADJ_PHASE, ?_, servoOwned_spec _⟩⟩
  · exact congrArg Host.Outcome.next ((gateWrite_inOperation hs (by decide +kernel) src _).trans (hinc _))
  · exact congrArg Host.Outcome.next ((gateWrite_inOperation hs (by decide +kernel) src _).trans (hinc _))
  · exact congrArg Host.Outcome.next ((gateWrite_inOperation hs (by decide +kernel) src _).trans hadj)

/-! ### ADJ_PHASE (R535, R537) -/

theorem adjPhase_refused (hs : s.inOperation = true) (src : Requester) (ho : owned s = false) (h : s.fld F.DTM_JUMP_THRESH_NS < data.toInt.natAbs) :
    ∃ t, exec (.adjPhaseWrite src data) s = .next t ∧ t.dtm = s.dtm ∧
      t.fld F.DTM_REFUSED_JUMPS_COUNT = satAdd 32 (s.fld F.DTM_REFUSED_JUMPS_COUNT) 1 ∧ causeSet t 0x26 0 = true ∧ lastEvent t 0x26 0x1001 := by
  have hform : adjPhaseWrite s src data = (jumpRefused s 3 data.toInt).count F.DTM_REFUSED_JUMPS_COUNT 1 := by
    simp only [adjPhaseWrite, ho, Bool.false_eq_true, if_false, if_pos h]
  refine ⟨_, (congrArg Host.Outcome.next (gateWrite_inOperation hs (by decide +kernel) src _)).trans (congrArg Host.Outcome.next hform), ?_⟩
  obtain ⟨hcause, hlast, hdtm, -⟩ := jumpRefused_spec (s := s) 3 data.toInt
  have honly := onlyRegs_jumpRefused (s := s) 3 data.toInt
  generalize jumpRefused s 3 data.toInt = a at *
  have hcount := onlyRegs_count a F.DTM_REFUSED_JUMPS_COUNT 1
  refine ⟨(State.count_dtm _ _ _).trans hdtm, ?_, (dtmCause_of_reg (hcount _ (by decide)) 0).trans hcause, lastEvent_of_log (State.count_log _ _ _) hlast⟩
  rw [State.fld_count_self _ F.DTM_REFUSED_JUMPS_COUNT 1 (by decide), honly.fld (by decide)]

theorem ofNat_unsigned_toInt (w : Word) : BitVec.ofNat 32 (unsigned 32 w.toInt) = w := by
  rw [unsigned_toInt, BitVec.ofNat_toNat, BitVec.setWidth_eq]

/-- An offset that the host has measured is shown. -/
def hostOffset (s : State) (o : Int) : State :=
  if source s = 4 then s.setReg A.DTM_LAST_OFFSET (BitVec.ofNat 32 (unsigned 32 (clampSigned 32 o))) else s

theorem adjPhase_slews (hs : s.inOperation = true) (src : Requester) (ho : owned s = false) (h : data.toInt.natAbs ≤ s.fld F.DTM_JUMP_THRESH_NS) :
    ∃ t, exec (.adjPhaseWrite src data) s = .next t ∧ t.dtm = { s.dtm with slew := data.toInt * 2 ^ 32 } ∧
      t.flag F.DTM_STATUS_SLEWING = (data != 0#32) ∧ t.reg A.DTM_ADJ_PHASE = data ∧ t.now = s.now ∧
      (source s = 4 → t.reg A.DTM_LAST_OFFSET = BitVec.ofNat 32 (unsigned 32 (clampSigned 32 (-data.toInt)))) := by
  have hform : adjPhaseWrite s src data = hostOffset (startSlew s data.toInt) (-data.toInt) := by
    simp only [adjPhaseWrite, ho, Bool.false_eq_true, if_false, if_neg (Nat.not_lt.mpr h)]
    rfl
  refine ⟨_, (congrArg Host.Outcome.next (gateWrite_inOperation hs (by decide +kernel) src _)).trans (congrArg Host.Outcome.next hform), ?_⟩
  obtain ⟨hdtm, hslewing, hreg, -, honly, hnow, -⟩ := startSlew_spec (s := s) data.toInt
  have hsource : source (startSlew s data.toInt) = source s := honly.fld (by decide)
  generalize startSlew s data.toInt = a at *
  have hshown : OnlyRegs a (hostOffset a (-data.toInt)) [A.DTM_LAST_OFFSET] ∧ (hostOffset a (-data.toInt)).dtm = a.dtm ∧
      (hostOffset a (-data.toInt)).now = a.now ∧
      (source a = 4 → (hostOffset a (-data.toInt)).reg A.DTM_LAST_OFFSET = BitVec.ofNat 32 (unsigned 32 (clampSigned 32 (-data.toInt)))) := by
    unfold hostOffset
    split
    · exact ⟨onlyRegs_setReg _ _ _, State.setReg_dtm _ _ _, State.setReg_now _ _ _, fun _ => State.reg_setReg_self _ _ _⟩
    · exact ⟨fun _ _ => rfl, rfl, rfl, fun hn => absurd hn ‹_›⟩
  obtain ⟨hsreg, hsdtm, hsnow, hoffset⟩ := hshown
  refine ⟨hsdtm.trans hdtm, ?_, (hsreg _ (by decide)).trans (hreg.trans (ofNat_unsigned_toInt data)), hsnow.trans hnow, fun h4 => hoffset (hsource.trans h4)⟩
  rw [hsreg.flag (by decide), hslewing]
  have hzero : data.toInt = 0 ↔ data = 0#32 := ⟨fun hz => BitVec.eq_of_toInt_eq hz, fun hz => by rw [hz]; rfl⟩
  rw [show (data != 0#32) = decide (data ≠ 0#32) by simp [bne, Bool.beq_eq_decide_eq]]
  exact decide_eq_decide.mpr (not_congr hzero)

/-! ### The source and the lock of the host (R541, R543) -/

theorem srcCfg_same (hs : s.inOperation = true) (src : Requester) (hl : s.flag F.DTM_LOCK_LOCK0 = false) (hd : data.toNat % 8 ≤ 5)
    (h : data.toNat % 8 = source s) : ∃ t, exec (.srcCfgWrite src data) s = .next t ∧ source t = source s ∧ t = { s with regs := t.regs } ∧
      OnlyRegs s t [A.DTM_SRC_CFG] := by
  have hself : source (s.setFld F.DTM_SRC_CFG_SOURCE (data.toNat % 8)) = source s := by
    rw [source, State.fld_setFld_self _ _ _ (by decide), h, source]
    exact Nat.mod_eq_of_lt (by rw [← source, ← h]; exact Nat.mod_lt _ (by decide))
  have hform : srcCfgWrite s src data allBits = s.setFld F.DTM_SRC_CFG_SOURCE (data.toNat % 8) := by
    simp only [srcCfgWrite, writeFields_srcCfg hl hd, hself, if_true]
  exact ⟨_, (congrArg Host.Outcome.next (gateWrite_inOperation hs (by decide +kernel) src _)).trans (congrArg Host.Outcome.next hform), hself,
    (touches_setFld F.DTM_SRC_CFG_SOURCE _).eq, onlyRegs_setFld s F.DTM_SRC_CFG_SOURCE _⟩

/-- The servo restarts with another source: what it knew is forgotten. -/
def sourceForgotten (s : State) : State :=
  s.setDtm { s.dtm with within := 0, outside := 0, byMaster := false, incs := [], pathDelay := none, masters := [], chosen := none }

/-- The new source shown. -/
def sourceShown (s : State) : State := (s.setFld F.DTM_STATUS_SOURCE (sourceInUse s)).setFld F.DTM_MASTER_PORT_VALID 0

/-- The state in which the servo starts with a source. -/
def sourceState (s : State) : Nat :=
  match source s with
  | 0 => 0
  | 4 => if s.flag F.DTM_CTRL_HOST_LOCK then 2 else 1
  | _ => 1

/-- A change of source told. -/
def sourceTold (s : State) (old st : Nat) (lost : Bool) : State :=
  if old = st then servoEvent s old lost else setCause (servoEvent s old lost) 0x26 2

/-- The servo under a new source, before it is told. -/
def sourceStarted (s : State) : State := refreshTimeOk (s.setFld F.DTM_STATUS_SERVO (sourceState s))

theorem srcCfg_changed_eq (h : source (writeFields s src A.DTM_SRC_CFG data allBits) ≠ source s) : ∃ old lost, srcCfgWrite s src data allBits =
    sourceTold (sourceStarted (sourceShown (sourceForgotten (writeFields s src A.DTM_SRC_CFG data allBits)))) old
      (sourceState (sourceShown (sourceForgotten (writeFields s src A.DTM_SRC_CFG data allBits)))) lost := by
  unfold srcCfgWrite
  simp only [if_neg h]
  exact ⟨_, _, rfl⟩

theorem sourceTold_spec (old st : Nat) (lost : Bool) : OnlyRegs s (sourceTold s old st lost) [0x26010] ∧ (sourceTold s old st lost).dtm = s.dtm ∧
    lastEvent (sourceTold s old st lost) 0x26 0x1002 := by
  unfold sourceTold
  split
  · exact ⟨fun _ _ => rfl, rfl, lastEvent_event _ _ _ _ _⟩
  · exact ⟨fun a ha => onlyRegs_setCause _ 0x26 2 a ha, setCause_dtm _ _ _, lastEvent_setCause _ _ (lastEvent_event _ _ _ _ _)⟩

theorem sourceShown_spec : (sourceShown s).fld F.DTM_STATUS_SOURCE = sourceInUse s % 8 ∧ (sourceShown s).flag F.DTM_MASTER_PORT_VALID = false ∧
    OnlyRegs s (sourceShown s) [A.DTM_STATUS, A.DTM_MASTER_PORT] ∧ (sourceShown s).dtm = s.dtm := by
  unfold sourceShown
  have hself := State.fld_setFld_self s F.DTM_STATUS_SOURCE (sourceInUse s) (by decide)
  have hreg := onlyRegs_setFld s F.DTM_STATUS_SOURCE (sourceInUse s)
  have hdtm : (s.setFld F.DTM_STATUS_SOURCE (sourceInUse s)).dtm = s.dtm := State.setFld_dtm _ _ _
  generalize s.setFld F.DTM_STATUS_SOURCE (sourceInUse s) = a at *
  have hreg' := onlyRegs_setFld a F.DTM_MASTER_PORT_VALID 0
  exact ⟨(hreg'.fld (by decide)).trans hself, State.flag_setFld_zero _ (by decide), hreg.trans hreg', (State.setFld_dtm _ _ _).trans hdtm⟩

/-- TIME_OK under a source as it starts. -/
theorem timeOk_started (hb : s.dtm.byMaster = false) : timeOk (s.setFld F.DTM_STATUS_SERVO (sourceState s)) =
    (decide (source s = 4) && s.flag F.DTM_CTRL_HOST_LOCK) := by
  have hreg := onlyRegs_setFld s F.DTM_STATUS_SERVO (sourceState s)
  have hsource : source (s.setFld F.DTM_STATUS_SERVO (sourceState s)) = source s := hreg.fld (by decide)
  have hlock : (s.setFld F.DTM_STATUS_SERVO (sourceState s)).flag F.DTM_CTRL_HOST_LOCK = s.flag F.DTM_CTRL_HOST_LOCK := hreg.flag (by decide)
  have hservo : (s.setFld F.DTM_STATUS_SERVO (sourceState s)).fld F.DTM_STATUS_SERVO = sourceState s % 8 := State.fld_setFld_self _ _ _ (by decide)
  have hdtm : (s.setFld F.DTM_STATUS_SERVO (sourceState s)).dtm = s.dtm := State.setFld_dtm _ _ _
  unfold timeOk
  rw [hsource, hlock, hservo, hdtm, hb]
  by_cases h4 : source s = 4
  · rw [if_pos h4, decide_eq_true h4, Bool.true_and]
  · have hst : sourceState s = 0 ∨ sourceState s = 1 := by
      unfold sourceState
      split
      · exact Or.inl rfl
      · exact absurd ‹_› h4
      · exact Or.inr rfl
    rw [if_neg h4, decide_eq_false h4, Bool.false_and]
    rcases hst with hst | hst <;> rw [hst] <;> rfl

theorem sourceStarted_spec (hb : s.dtm.byMaster = false) : (sourceStarted s).fld F.DTM_STATUS_SERVO = sourceState s ∧
    (sourceStarted s).flag F.DTM_STATUS_TIME_OK = (decide (source s = 4) && s.flag F.DTM_CTRL_HOST_LOCK) ∧
    (sourceStarted s).fld F.DTM_STATUS_SOURCE = s.fld F.DTM_STATUS_SOURCE ∧ (sourceStarted s).dtm = s.dtm ∧
    OnlyRegs s (sourceStarted s) [A.DTM_STATUS, A.MAC_STATUS] := by
  have hst : sourceState s < 8 := by
    unfold sourceState
    split
    · decide
    · split <;> decide
    · decide
  have hok := timeOk_started hb
  unfold sourceStarted
  have hreg := onlyRegs_setFld s F.DTM_STATUS_SERVO (sourceState s)
  have hservo : (s.setFld F.DTM_STATUS_SERVO (sourceState s)).fld F.DTM_STATUS_SERVO = sourceState s :=
    (State.fld_setFld_self _ _ _ (by decide)).trans (Nat.mod_eq_of_lt hst)
  have hsrc : (s.setFld F.DTM_STATUS_SERVO (sourceState s)).fld F.DTM_STATUS_SOURCE = s.fld F.DTM_STATUS_SOURCE :=
    State.fld_setFld_apart s F.DTM_STATUS_SERVO F.DTM_STATUS_SOURCE (sourceState s) (by decide) (Or.inr (Or.inr (by decide)))
  have hdtm : (s.setFld F.DTM_STATUS_SERVO (sourceState s)).dtm = s.dtm := State.setFld_dtm _ _ _
  generalize s.setFld F.DTM_STATUS_SERVO (sourceState s) = a at *
  obtain ⟨hflag, -, honly, hframe, hothers⟩ := refreshTimeOk_spec (s := a)
  refine ⟨(hothers _ rfl (Or.inl (by decide))).trans hservo, hflag.trans hok, (hothers _ rfl (Or.inl (by decide))).trans hsrc, ?_,
    (hreg.trans honly).mono (by decide)⟩
  rw [hframe]
  exact hdtm

theorem srcCfg_changed (hs : s.inOperation = true) (src : Requester) (hl : s.flag F.DTM_LOCK_LOCK0 = false) (hd : data.toNat % 8 ≤ 5)
    (h : data.toNat % 8 ≠ source s) : ∃ t, exec (.srcCfgWrite src data) s = .next t ∧ source t = data.toNat % 8 ∧
      t.dtm.masters = [] ∧ t.dtm.chosen = none ∧ t.dtm.pathDelay = none ∧ t.dtm.incs = [] ∧ t.flag F.DTM_MASTER_PORT_VALID = false ∧
      t.fld F.DTM_STATUS_SOURCE = (if data.toNat % 8 = 5 then 1 else data.toNat % 8) ∧
      t.fld F.DTM_STATUS_SERVO = (if data.toNat % 8 = 0 then 0 else if data.toNat % 8 = 4 ∧ s.flag F.DTM_CTRL_HOST_LOCK = true then 2 else 1) ∧
      t.flag F.DTM_STATUS_TIME_OK = (decide (data.toNat % 8 = 4) && s.flag F.DTM_CTRL_HOST_LOCK) ∧
      lastEvent t 0x26 0x1002 := by
  have hself : source (s.setFld F.DTM_SRC_CFG_SOURCE (data.toNat % 8)) = data.toNat % 8 :=
    (State.fld_setFld_self _ _ _ (by decide)).trans (Nat.mod_mod _ _)
  obtain ⟨old, lost, hform⟩ := srcCfg_changed_eq (s := s) (src := src) (data := data) (by rw [writeFields_srcCfg hl hd, hself]; exact h)
  rw [writeFields_srcCfg hl hd] at hform
  refine ⟨_, (congrArg Host.Outcome.next (gateWrite_inOperation hs (by decide +kernel) src _)).trans (congrArg Host.Outcome.next hform), ?_⟩
  clear hform
  have hareg := onlyRegs_setFld s F.DTM_SRC_CFG_SOURCE (data.toNat % 8)
  generalize s.setFld F.DTM_SRC_CFG_SOURCE (data.toNat % 8) = a at *
  have hbreg : OnlyRegs a (sourceForgotten a) [] := fun _ _ => rfl
  have hbdtm : (sourceForgotten a).dtm = { a.dtm with within := 0, outside := 0, byMaster := false, incs := [], pathDelay := none, masters := [], chosen := none } := rfl
  generalize sourceForgotten a = b at *
  have hbsource : source b = data.toNat % 8 := (hbreg.fld (by decide)).trans hself
  have huse : sourceInUse b = (if data.toNat % 8 = 5 then 1 else data.toNat % 8) := by rw [sourceInUse, hbsource, hbdtm]
  obtain ⟨hcuse, hcvalid, hcreg, hcdtm⟩ := sourceShown_spec (s := b)
  generalize sourceShown b = c at *
  have hcsource : source c = data.toNat % 8 := (hcreg.fld (by decide)).trans hbsource
  have hclock : c.flag F.DTM_CTRL_HOST_LOCK = s.flag F.DTM_CTRL_HOST_LOCK := ((hareg.trans hbreg).trans hcreg).flag (by decide)
  obtain ⟨hservo, hok, hshown, hddtm, hdreg⟩ := sourceStarted_spec (s := c) (by rw [hcdtm, hbdtm])
  have hstate : sourceState c = (if data.toNat % 8 = 0 then 0 else if data.toNat % 8 = 4 ∧ s.flag F.DTM_CTRL_HOST_LOCK = true then 2 else 1) := by
    unfold sourceState
    rw [hcsource, hclock]
    have hd' : data.toNat % 8 = 0 ∨ data.toNat % 8 = 1 ∨ data.toNat % 8 = 2 ∨ data.toNat % 8 = 3 ∨ data.toNat % 8 = 4 ∨ data.toNat % 8 = 5 := by omega
    rcases hd' with hd' | hd' | hd' | hd' | hd' | hd' <;> simp [hd']
  generalize sourceState c = st at *
  generalize sourceStarted c = d at *
  obtain ⟨hereg, hedtm, hlast⟩ := sourceTold_spec (s := d) old st lost
  generalize sourceTold d old st lost = e at *
  have hdtm : e.dtm = { a.dtm with within := 0, outside := 0, byMaster := false, incs := [], pathDelay := none, masters := [], chosen := none } :=
    hedtm.trans (hddtm.trans (hcdtm.trans hbdtm))
  have hsmall : (if data.toNat % 8 = 5 then 1 else data.toNat % 8) < 8 := by split <;> omega
  refine ⟨((hdreg.trans hereg).fld (by decide)).trans hcsource, by rw [hdtm], by rw [hdtm], by rw [hdtm], by rw [hdtm],
    ((hdreg.trans hereg).flag (by decide)).trans hcvalid, ?_, ?_, ?_, hlast⟩
  · rw [hereg.fld (by decide), hshown, hcuse, huse, Nat.mod_eq_of_lt hsmall]
  · rw [hereg.fld (by decide), hservo, hstate]
  · rw [hereg.flag (by decide), hok, hcsource, hclock]

theorem hostLock_kept (hs : s.inOperation = true) (src : Requester) (h : source s ≠ 4) : ∃ t, exec (.hostLockWrite src data) s = .next t ∧
    t.flag F.DTM_CTRL_HOST_LOCK = bit data.toNat 0 ∧ OnlyRegs s t [A.DTM_CTRL] ∧ t = { s with regs := t.regs } := by
  have hreg := onlyRegs_setFld s F.DTM_CTRL_HOST_LOCK (bitsOf data.toNat 0 1)
  have hform : hostLockWrite s src data allBits = s.setFld F.DTM_CTRL_HOST_LOCK (bitsOf data.toNat 0 1) := by
    have hsource : source (s.setFld F.DTM_CTRL_HOST_LOCK (bitsOf data.toNat 0 1)) = source s := hreg.fld (by decide)
    simp only [hostLockWrite, writeFields_dtmCtrl, hsource, if_neg h]
  refine ⟨_, (congrArg Host.Outcome.next (gateWrite_inOperation hs (by decide +kernel) src _)).trans (congrArg Host.Outcome.next hform), ?_, hreg,
    (touches_setFld F.DTM_CTRL_HOST_LOCK _).eq⟩
  rw [State.flag, State.fld_setFld_self _ _ _ (by decide), bit_eq_bitsOf]
  exact congrArg (· == 1) (Nat.mod_mod _ _)

theorem timeOk_host (h : source s = 4) : timeOk s = s.flag F.DTM_CTRL_HOST_LOCK := if_pos h

theorem hostLock_moves (hs : s.inOperation = true) (src : Requester) (h : source s = 4)
    (hservo : s.fld F.DTM_STATUS_SERVO ≠ (if bit data.toNat 0 then 2 else 1)) : ∃ t, exec (.hostLockWrite src data) s = .next t ∧
      t.flag F.DTM_CTRL_HOST_LOCK = bit data.toNat 0 ∧ t.fld F.DTM_STATUS_SERVO = (if bit data.toNat 0 then 2 else 1) ∧
      t.flag F.DTM_STATUS_TIME_OK = bit data.toNat 0 ∧ causeSet t 0x26 2 = true ∧ lastEvent t 0x26 0x1002 := by
  have hreg := onlyRegs_setFld s F.DTM_CTRL_HOST_LOCK (bitsOf data.toNat 0 1)
  have hlock : (s.setFld F.DTM_CTRL_HOST_LOCK (bitsOf data.toNat 0 1)).flag F.DTM_CTRL_HOST_LOCK = bit data.toNat 0 := by
    rw [State.flag, State.fld_setFld_self _ _ _ (by decide), bit_eq_bitsOf]
    exact congrArg (· == 1) (Nat.mod_mod _ _)
  have hsource : source (s.setFld F.DTM_CTRL_HOST_LOCK (bitsOf data.toNat 0 1)) = 4 := (hreg.fld (by decide)).trans h
  have hform : hostLockWrite s src data allBits =
      setServo (s.setFld F.DTM_CTRL_HOST_LOCK (bitsOf data.toNat 0 1)) (if bit data.toNat 0 then 2 else 1) false := by
    simp only [hostLockWrite, writeFields_dtmCtrl, hsource, hlock, if_true]
  refine ⟨_, (congrArg Host.Outcome.next (gateWrite_inOperation hs (by decide +kernel) src _)).trans (congrArg Host.Outcome.next hform), ?_⟩
  clear hform
  have hold : (s.setFld F.DTM_CTRL_HOST_LOCK (bitsOf data.toNat 0 1)).fld F.DTM_STATUS_SERVO = s.fld F.DTM_STATUS_SERVO := hreg.fld (by decide)
  generalize s.setFld F.DTM_CTRL_HOST_LOCK (bitsOf data.toNat 0 1) = a at *
  generalize hst : (if bit data.toNat 0 then 2 else 1) = st at *
  have hsmall : st < 3 ∧ st ≠ 0 := by
    rw [← hst]
    split <;> decide
  have hkept := servoKept_setServo (s := a) st false (by omega)
  have hnew := setServo_servo (s := a) st false (by omega)
  obtain ⟨hcause, hlast, hok, -⟩ := setServo_enters (s := a) false (st := st) (by omega) (by rw [hold]; exact hservo) (by omega) (by omega)
  generalize setServo a st false = t at *
  refine ⟨(hkept.flag (by decide) (by decide)).trans hlock, hnew, hok.trans ?_, hcause, hlast⟩
  have hset := onlyRegs_setFld (a.setDtm { a.dtm with within := 0, outside := 0, byMaster := false }) F.DTM_STATUS_SERVO st
  exact (timeOk_host ((hset.fld (by decide)).trans hsource)).trans ((hset.flag (by decide)).trans hlock)

/-! ### The end of a slew, the pulses and the stamps (R535, R548, R549) -/

theorem slewDone_spec (hp : s.boot.pllLocked = true) (h : s.flag F.DTM_STATUS_SLEWING = true) : ∃ t, exec .slewDone s = .next t ∧
    t.now = Time.ofUnits ((s.now.units : Int) + s.dtm.slew).toNat ∧ t.dtm = { s.dtm with slew := 0 } ∧ t.flag F.DTM_STATUS_SLEWING = false ∧
    t.reg A.DTM_ADJ_PHASE = 0#32 ∧ causeSet t 0x26 6 = true := by
  have hc : (s.boot.pllLocked && s.flag F.DTM_STATUS_SLEWING) = true := by rw [hp, h]; rfl
  refine ⟨_, congrArg Host.Outcome.next (if_pos hc), ?_⟩
  obtain ⟨hdtm, hoff, hreg, hcause, -, -, hnow, -⟩ :=
    slewEnd_spec (s := { s with now := Time.ofUnits ((s.now.units : Int) + s.dtm.slew).toNat })
  exact ⟨hnow, hdtm, hoff, hreg, hcause⟩

theorem ppsOutStart_spec (hp : s.boot.pllLocked = true) (ha : s.answers = true) (he : s.flag F.DTM_PPS_OUT_CFG_EN = true)
    (hq : s.flag F.DTM_PPS_OUT_CFG_QUAL = false ∨ s.flag F.DTM_STATUS_TIME_OK = true) :
    (crossed s (s.fld F.DTM_PPS_OUT_CFG_ADV_NS) 1000000000 = true →
      exec .ppsOutStart s = .next (s.setDtm { s.dtm with ppsOut := true, ppsAt := s.dev.upCycles })) ∧
    (crossed s (s.fld F.DTM_PPS_OUT_CFG_ADV_NS) 1000000000 = false → exec .ppsOutStart s = .next s) := by
  have hc : (s.boot.pllLocked && s.answers && s.flag F.DTM_PPS_OUT_CFG_EN &&
      (!s.flag F.DTM_PPS_OUT_CFG_QUAL || s.flag F.DTM_STATUS_TIME_OK)) = true := by
    rw [hp, ha, he]
    rcases hq with hq | hq <;> simp [hq]
  constructor
  · exact fun h => congrArg Host.Outcome.next (if_pos (by rw [hc, h]; rfl))
  · exact fun h => congrArg Host.Outcome.next (if_neg (by rw [hc, h]; decide))

/-- An edge counted; the pulse not yet read is overrun. -/
def edgeCounted (s : State) : State :=
  if (s.count F.DTM_PPS_IN_EDGES_COUNT 1).flag F.DTM_PPS_TS_VALID then (s.count F.DTM_PPS_IN_EDGES_COUNT 1).count F.DTM_PPS_TS_OVERRUN_COUNT 1
  else s.count F.DTM_PPS_IN_EDGES_COUNT 1

/-- The stamp shown. -/
def edgeStamped (s : State) (ts : List Byte) : State :=
  (((s.setReg A.DTM_PPS_TS 0x80000000#32).setReg A.DTM_PPS_TS1 (BitVec.ofNat 32 (fieldAt ts 0 4))).setReg A.DTM_PPS_TS2
    (BitVec.ofNat 32 (fieldAt ts 4 4))).setReg A.DTM_PPS_TS3 (BitVec.ofNat 32 (fieldAt ts 8 4))

/-- What the servo makes of an edge. -/
def edgeMeasured (s : State) : State :=
  if source s != 3 || !s.operating then s
  else
    let o := nearestSecond s.now.ns
    if s.fld F.DTM_STATUS_SERVO = 2 && s.fld F.DTM_PPS_IN_CFG_WINDOW_US * 1000 < o.natAbs then
      setCause (s.count F.DTM_PPS_OUTLIERS_COUNT 1) 0x26 5
    else measure s o (s.fld F.DTM_STATUS_STEP_GEN)

theorem ppsEdge_eq : ppsEdge s = edgeMeasured (setCause (edgeStamped (edgeCounted s) (stampNow (edgeCounted s))) 0x26 4) := rfl

theorem edgeCounted_spec : (edgeCounted s).fld F.DTM_PPS_IN_EDGES_COUNT = satAdd 32 (s.fld F.DTM_PPS_IN_EDGES_COUNT) 1 ∧
    (edgeCounted s).fld F.DTM_PPS_TS_OVERRUN_COUNT =
      (if s.flag F.DTM_PPS_TS_VALID then satAdd 32 (s.fld F.DTM_PPS_TS_OVERRUN_COUNT) 1 else s.fld F.DTM_PPS_TS_OVERRUN_COUNT) ∧
    OnlyRegs s (edgeCounted s) [A.DTM_PPS_IN_EDGES, A.DTM_PPS_TS_OVERRUN] ∧ Touches [.regs] [0x26] s (edgeCounted s) := by
  unfold edgeCounted
  have hself := State.fld_count_self s F.DTM_PPS_IN_EDGES_COUNT 1 (by decide)
  have hreg := onlyRegs_count s F.DTM_PPS_IN_EDGES_COUNT 1
  have htouch := touches_count (x := s) F.DTM_PPS_IN_EDGES_COUNT 1
  generalize s.count F.DTM_PPS_IN_EDGES_COUNT 1 = a at *
  have hvalid : a.flag F.DTM_PPS_TS_VALID = s.flag F.DTM_PPS_TS_VALID := hreg.flag (by decide)
  have hover : a.fld F.DTM_PPS_TS_OVERRUN_COUNT = s.fld F.DTM_PPS_TS_OVERRUN_COUNT := hreg.fld (by decide)
  rw [hvalid]
  split
  · have hreg' := onlyRegs_count a F.DTM_PPS_TS_OVERRUN_COUNT 1
    exact ⟨(hreg'.fld (by decide)).trans hself, (State.fld_count_self a F.DTM_PPS_TS_OVERRUN_COUNT 1 (by decide)).trans (by rw [hover]),
      hreg.trans hreg', htouch.then (touches_count F.DTM_PPS_TS_OVERRUN_COUNT 1)⟩
  · exact ⟨hself, hover, hreg.mono (by decide), htouch⟩

theorem edgeStamped_spec (ts : List Byte) : (edgeStamped s ts).flag F.DTM_PPS_TS_VALID = true ∧
    (edgeStamped s ts).reg A.DTM_PPS_TS1 = BitVec.ofNat 32 (fieldAt ts 0 4) ∧ (edgeStamped s ts).reg A.DTM_PPS_TS2 = BitVec.ofNat 32 (fieldAt ts 4 4) ∧
    OnlyRegs s (edgeStamped s ts) [A.DTM_PPS_TS, A.DTM_PPS_TS1, A.DTM_PPS_TS2, A.DTM_PPS_TS3] ∧
    Touches [.regs] [0x26] s (edgeStamped s ts) := by
  have hvalid : (s.setReg A.DTM_PPS_TS 0x80000000#32).flag F.DTM_PPS_TS_VALID = true := by
    rw [State.flag_eq_bit rfl, State.reg_setReg_self]
    decide
  have h1 := onlyRegs_setReg s A.DTM_PPS_TS 0x80000000#32
  have t1 := touches_setReg (x := s) A.DTM_PPS_TS 0x80000000#32
  unfold edgeStamped
  generalize s.setReg A.DTM_PPS_TS 0x80000000#32 = a at *
  have hself1 := State.reg_setReg_self a A.DTM_PPS_TS1 (BitVec.ofNat 32 (fieldAt ts 0 4))
  have h2 := onlyRegs_setReg a A.DTM_PPS_TS1 (BitVec.ofNat 32 (fieldAt ts 0 4))
  have t2 := touches_setReg (x := a) A.DTM_PPS_TS1 (BitVec.ofNat 32 (fieldAt ts 0 4))
  generalize a.setReg A.DTM_PPS_TS1 _ = b at *
  have hself2 := State.reg_setReg_self b A.DTM_PPS_TS2 (BitVec.ofNat 32 (fieldAt ts 4 4))
  have h3 := onlyRegs_setReg b A.DTM_PPS_TS2 (BitVec.ofNat 32 (fieldAt ts 4 4))
  have t3 := touches_setReg (x := b) A.DTM_PPS_TS2 (BitVec.ofNat 32 (fieldAt ts 4 4))
  generalize b.setReg A.DTM_PPS_TS2 _ = c at *
  have h4 := onlyRegs_setReg c A.DTM_PPS_TS3 (BitVec.ofNat 32 (fieldAt ts 8 4))
  exact ⟨(((h2.trans h3).trans h4).flag (by decide)).trans hvalid, ((h3.trans h4) _ (by decide)).trans hself1, (h4 _ (by decide)).trans hself2,
    ((h1.trans h2).trans h3).trans h4, ((t1.then t2).then t3).then (touches_setReg A.DTM_PPS_TS3 _)⟩

theorem edgeMeasured_leaves : DtmCauses s (edgeMeasured s) ∧
    ∀ a, a / 0x1000 = 0x26 → a ∉ A.DTM_PPS_OUTLIERS :: A.DTM_LAST_OFFSET :: disciplineRegs → (edgeMeasured s).reg a = s.reg a := by
  unfold edgeMeasured
  simp only
  split
  · exact ⟨fun _ _ h => h, fun _ _ _ => rfl⟩
  · split
    · have hcount := onlyRegs_count s F.DTM_PPS_OUTLIERS_COUNT 1
      refine ⟨(DtmCauses.of_only hcount).trans (DtmCauses.setCause 5), fun a _ ha => (hcount.trans (onlyRegs_setCause _ 0x26 5)) a fun hm => ha ?_⟩
      revert hm
      simp only [List.cons_append, List.nil_append, List.mem_cons, List.not_mem_nil, or_false]
      tauto
    · obtain ⟨hcauses, hpage⟩ := measure_leaves (s := s) (nearestSecond s.now.ns) (s.fld F.DTM_STATUS_STEP_GEN)
      exact ⟨hcauses, fun a hp ha => hpage a hp fun hm => ha (List.mem_cons_of_mem _ hm)⟩

theorem ppsInEdge_spec (hp : s.boot.pllLocked = true) (ha : s.answers = true) (he : s.flag F.DTM_PPS_IN_CFG_EN = true) :
    ∃ t, exec .ppsInEdge s = .next t ∧
      t.fld F.DTM_PPS_IN_EDGES_COUNT = satAdd 32 (s.fld F.DTM_PPS_IN_EDGES_COUNT) 1 ∧ t.flag F.DTM_PPS_TS_VALID = true ∧
      t.reg A.DTM_PPS_TS1 = BitVec.ofNat 32 (fieldAt (stampNow s) 0 4) ∧ t.reg A.DTM_PPS_TS2 = BitVec.ofNat 32 (fieldAt (stampNow s) 4 4) ∧
      t.fld F.DTM_PPS_TS_OVERRUN_COUNT = (if s.flag F.DTM_PPS_TS_VALID then satAdd 32 (s.fld F.DTM_PPS_TS_OVERRUN_COUNT) 1 else s.fld F.DTM_PPS_TS_OVERRUN_COUNT) ∧
      causeSet t 0x26 4 = true ∧ (source s ≠ 3 ∨ s.operating = false → t = { s with regs := t.regs, host := t.host, out := t.out }) := by
  have hc : (s.boot.pllLocked && s.answers && s.flag F.DTM_PPS_IN_CFG_EN) = true := by
    rw [hp, ha, he]
    rfl
  refine ⟨_, (congrArg Host.Outcome.next (if_pos hc)).trans (congrArg Host.Outcome.next ppsEdge_eq), ?_⟩
  obtain ⟨hedges, hover, hareg, hta⟩ := edgeCounted_spec (s := s)
  have hstamp : stampNow (edgeCounted s) = stampNow s := by
    rw [stampNow, stampNow, hareg.fld (by decide), show (edgeCounted s).now = s.now from hta.part .now (by decide)]
  rw [hstamp]
  generalize edgeCounted s = a at *
  obtain ⟨hvalid, hts1, hts2, hbreg, htb⟩ := edgeStamped_spec (s := a) (stampNow s)
  generalize edgeStamped a (stampNow s) = b at *
  have hcreg := onlyRegs_setCause b 0x26 4
  have htc : Touches [.regs, .host, .out] [0x26] s (setCause b 0x26 4) := (hta.mono.trans htb.mono).then (touches_setCause 0x26 4)
  have hcause : causeSet (setCause b 0x26 4) 0x26 4 = true := by rw [causeSet_setCause _ _ _ _ (by decide), beq_self_eq_true, Bool.or_true]
  generalize setCause b 0x26 4 = c at *
  obtain ⟨hcauses, hpage⟩ := edgeMeasured_leaves (s := c)
  have hreg : ∀ r, r / 0x1000 = 0x26 → r ∉ 0x26010 :: A.DTM_PPS_OUTLIERS :: A.DTM_LAST_OFFSET :: disciplineRegs → (edgeMeasured c).reg r = b.reg r := fun r hr hn =>
    (hpage r hr fun hm => hn (List.mem_cons_of_mem _ hm)).trans (hcreg r (by simpa using fun hm => hn (by rw [hm]; exact List.mem_cons_self ..)))
  have hsame : source s ≠ 3 ∨ s.operating = false → edgeMeasured c = c := fun h => by
    have hsource : source c = source s := (hbreg.trans hcreg).fld (by decide) |>.trans (hareg.fld (by decide))
    have hop : c.operating = s.operating := State.operating_of_touches htc
    have hcond : (source c != 3 || !c.operating) = true := by
      rw [hsource, hop]
      rcases h with h | h <;> simp [h]
    rw [edgeMeasured, if_pos hcond]
  refine ⟨?_, ?_, ?_, ?_, ?_, hcauses 4 (by decide) hcause, fun h => ?_⟩
  · rw [State.fld_congr (hreg _ (by decide) (by decide)), hbreg.fld (by decide), hedges]
  · rw [State.flag, State.fld_congr (hreg _ (by decide) (by decide)), ← State.flag, hvalid]
  · rw [hreg _ (by decide) (by decide), hts1]
  · rw [hreg _ (by decide) (by decide), hts2]
  · rw [State.fld_congr (hreg _ (by decide) (by decide)), hbreg.fld (by decide), hover]
  · rw [hsame h]
    exact htc.eq

theorem ppsOutEnd_spec : (s.dtm.ppsAt + s.fld F.DTM_PPS_OUT_CFG_WIDTH_MS * 250000 ≤ s.dev.upCycles →
      exec .ppsOutEnd s = .next (s.setDtm { s.dtm with ppsOut := false })) ∧
    (s.dev.upCycles < s.dtm.ppsAt + s.fld F.DTM_PPS_OUT_CFG_WIDTH_MS * 250000 → exec .ppsOutEnd s = .next s) :=
  ⟨fun h => congrArg Host.Outcome.next (if_pos h), fun h => congrArg Host.Outcome.next (if_neg (Nat.not_le.mpr h))⟩

/-! ### HOLDOVER, TIME_OK and lost sources (R543, R544, R547, R550) -/

theorem holdoverExpiry_spec (hs : s.operating = true) (h : s.fld F.DTM_STATUS_SERVO = 3) : ∃ t, exec .holdoverExpiry s = .next t ∧
    t.fld F.DTM_STATUS_SERVO = 0 ∧ t.dtm.goodHold = false ∧ causeSet t 0x26 2 = true ∧ lastEvent t 0x26 0x1002 := by
  have hc : (s.operating && s.fld F.DTM_STATUS_SERVO == 3) = true := by rw [hs, h]; rfl
  obtain ⟨hcause, hlast, -, hdtm⟩ := setServo_enters (s := s.setDtm { s.dtm with goodHold := false }) (st := 0) false (by decide)
    (show s.fld F.DTM_STATUS_SERVO ≠ 0 by rw [h]; decide) (by decide) (by decide)
  exact ⟨_, congrArg Host.Outcome.next (if_pos hc), setServo_servo 0 false (by decide), by rw [hdtm]; rfl, hcause, hlast⟩

theorem timeOk_noHold (h : s.dtm.goodHold = false) : timeOk s =
    (if source s = 4 then s.flag F.DTM_CTRL_HOST_LOCK else s.fld F.DTM_STATUS_SERVO == 2) := by
  unfold timeOk
  rw [h, Bool.and_false]
  split
  · rfl
  · split <;> simp_all

theorem timeOkHoldExpiry_spec (hs : s.operating = true) : ∃ t, exec .timeOkHoldExpiry s = .next t ∧ t.dtm = { s.dtm with goodHold := false } ∧
    t.flag F.DTM_STATUS_TIME_OK = (if source s = 4 then s.flag F.DTM_CTRL_HOST_LOCK else s.fld F.DTM_STATUS_SERVO == 2) ∧
    t.flag F.MAC_STATUS_TIME_OK = t.flag F.DTM_STATUS_TIME_OK ∧ OnlyRegs s t [A.DTM_STATUS, A.MAC_STATUS] := by
  obtain ⟨hok, hmac, honly, hframe, -⟩ := refreshTimeOk_spec (s := s.setDtm { s.dtm with goodHold := false })
  have hexp : timeOk (s.setDtm { s.dtm with goodHold := false }) = _ := timeOk_noHold (s := s.setDtm { s.dtm with goodHold := false }) rfl
  refine ⟨_, congrArg Host.Outcome.next (if_pos hs), by rw [hframe]; rfl, hok.trans hexp, hmac.trans hok.symm, fun a ha => honly a ha⟩

theorem sourceLost_spec : (sourceLost s).fld F.DTM_STATUS_SERVO = (if s.fld F.DTM_STATUS_SERVO = 2 then 3 else s.fld F.DTM_STATUS_SERVO) ∧
    ServoKept s (sourceLost s) := by
  unfold sourceLost
  split
  · exact ⟨setServo_servo 3 false (by decide), servoKept_setServo 3 false (by decide)⟩
  · exact ⟨rfl, ServoKept.refl s⟩

theorem ppsSourceLoss_spec (hs : s.operating = true) (h : source s = 3) : ∃ t, exec .ppsSourceLoss s = .next t ∧
    t.fld F.DTM_ANN_TIMEOUTS_COUNT = satAdd 32 (s.fld F.DTM_ANN_TIMEOUTS_COUNT) 1 ∧
    t.fld F.DTM_STATUS_SERVO = if s.fld F.DTM_STATUS_SERVO = 2 then 3 else s.fld F.DTM_STATUS_SERVO := by
  have hc : (s.operating && source s == 3) = true := by rw [hs, h]; rfl
  obtain ⟨hservo, hkept⟩ := sourceLost_spec (s := s.count F.DTM_ANN_TIMEOUTS_COUNT 1)
  have hreg := onlyRegs_count s F.DTM_ANN_TIMEOUTS_COUNT 1
  have hold : (s.count F.DTM_ANN_TIMEOUTS_COUNT 1).fld F.DTM_STATUS_SERVO = s.fld F.DTM_STATUS_SERVO := hreg.fld (by decide)
  exact ⟨_, congrArg Host.Outcome.next (if_pos hc), (hkept.fld (by decide) (by decide)).trans (State.fld_count_self _ _ _ (by decide)),
    hservo.trans (by rw [hold])⟩

end

end Sys2Proof.Machine
end

section
/-!
PROOFS. The servo's PTP, and O58 (16_datum_network_time.md, Sources and the servo).
-/
namespace Sys2Proof.Machine

-- One proof after another: side by side, the threads of so long a text want more memory than the check grants.
set_option Elab.async false

section
variable {s t u : State}

/-! ### Masters (R546, R547) -/

/-- The choice of a master shown. -/
def masterShown (s : State) (m : Master) (source : Nat) : State :=
  (((s.setWide A.DTM_MASTER_ID m.clockId).setReg A.DTM_MASTER_PORT (BitVec.ofNat 32 (2 ^ 16 + m.portNumber % 2 ^ 16))).setFld F.DTM_STATUS_SOURCE
    source).count F.DTM_MASTER_CHANGES_COUNT 1

/-- The choice told. -/
def masterTold (s : State) (data : List Byte) : State := setCause (s.event 0x26 0 0x1003 1 data) 0x26 3

theorem masterChange_eq (m : Master) : ∃ v data, masterChange s m =
    setServo (masterTold (masterShown (s.setDtm { s.dtm with chosen := some m, pathDelay := none }) m v) data) 1 true := by
  unfold masterChange
  exact ⟨_, _, rfl⟩

theorem masterShown_spec (m : Master) (v : Nat) : (masterShown s m v).wide A.DTM_MASTER_ID = m.clockId % 2 ^ 64 ∧
    (masterShown s m v).fld F.DTM_MASTER_CHANGES_COUNT = satAdd 32 (s.fld F.DTM_MASTER_CHANGES_COUNT) 1 ∧
    OnlyRegs s (masterShown s m v) [A.DTM_MASTER_ID, A.DTM_MASTER_ID_HI, A.DTM_MASTER_PORT, A.DTM_STATUS, A.DTM_MASTER_CHANGES] ∧
    (masterShown s m v).dtm = s.dtm := by
  unfold masterShown
  have hwide := State.wide_setWide_self s A.DTM_MASTER_ID m.clockId
  have ha : OnlyRegs s (s.setWide A.DTM_MASTER_ID m.clockId) [A.DTM_MASTER_ID, A.DTM_MASTER_ID_HI] := onlyRegs_setWide s A.DTM_MASTER_ID m.clockId
  have hadtm : (s.setWide A.DTM_MASTER_ID m.clockId).dtm = s.dtm := rfl
  generalize s.setWide A.DTM_MASTER_ID m.clockId = a at *
  have hb := onlyRegs_setReg a A.DTM_MASTER_PORT (BitVec.ofNat 32 (2 ^ 16 + m.portNumber % 2 ^ 16))
  have hbdtm := State.setReg_dtm a A.DTM_MASTER_PORT (BitVec.ofNat 32 (2 ^ 16 + m.portNumber % 2 ^ 16))
  generalize a.setReg A.DTM_MASTER_PORT _ = b at *
  have hc := onlyRegs_setFld b F.DTM_STATUS_SOURCE v
  have hcdtm := State.setFld_dtm b F.DTM_STATUS_SOURCE v
  generalize b.setFld F.DTM_STATUS_SOURCE v = c at *
  have hd := onlyRegs_count c F.DTM_MASTER_CHANGES_COUNT 1
  have hkept : c.fld F.DTM_MASTER_CHANGES_COUNT = s.fld F.DTM_MASTER_CHANGES_COUNT := ((ha.trans hb).trans hc).fld (by decide)
  refine ⟨(((hb.trans hc).trans hd).wide (by decide) (by decide)).trans hwide, ?_, ((ha.trans hb).trans hc).trans hd, ?_⟩
  · rw [State.fld_count_self _ _ _ (by decide), hkept]
  · exact (State.count_dtm _ _ _).trans (hcdtm.trans (hbdtm.trans hadtm))

/-- What the change of the master leaves. -/
structure MasterChanged (s t : State) (m : Master) : Prop where
  id : t.wide A.DTM_MASTER_ID = m.clockId % 2 ^ 64
  servo : t.fld F.DTM_STATUS_SERVO = 1
  chosen : t.dtm.chosen = some m
  masters : t.dtm.masters = s.dtm.masters
  path : t.dtm.pathDelay = none
  cause : causeSet t 0x26 3 = true
  count : t.fld F.DTM_MASTER_CHANGES_COUNT = satAdd 32 (s.fld F.DTM_MASTER_CHANGES_COUNT) 1
  timeouts : t.fld F.DTM_ANN_TIMEOUTS_COUNT = s.fld F.DTM_ANN_TIMEOUTS_COUNT

theorem masterChange_spec (m : Master) : MasterChanged s (masterChange s m) m := by
  obtain ⟨v, data, he⟩ := masterChange_eq (s := s) m
  rw [he]
  have haregs : OnlyRegs s (s.setDtm { s.dtm with chosen := some m, pathDelay := none }) [] := fun _ _ => rfl
  have hadtm : (s.setDtm { s.dtm with chosen := some m, pathDelay := none }).dtm = { s.dtm with chosen := some m, pathDelay := none } := rfl
  generalize s.setDtm { s.dtm with chosen := some m, pathDelay := none } = a at *
  obtain ⟨hid, hcount, hbreg, hbdtm⟩ := masterShown_spec (s := a) m v
  generalize masterShown a m v = b at *
  have hcreg : OnlyRegs b (masterTold b data) [0x26010] := fun r hr => onlyRegs_setCause _ 0x26 3 r hr
  have hcause : causeSet (masterTold b data) 0x26 3 = true := (causeSet_setCause _ 0x26 3 3 (by decide)).trans (Bool.or_true _)
  have hcdtm : (masterTold b data).dtm = b.dtm := setCause_dtm _ _ _
  generalize masterTold b data = c at *
  have hservo := setServo_servo (s := c) 1 true (by decide)
  have hkept := servoKept_setServo (s := c) 1 true (by decide)
  generalize setServo c 1 true = d at *
  have hdtm : c.dtm = { s.dtm with chosen := some m, pathDelay := none } := hcdtm.trans (hbdtm.trans hadtm)
  have hwide : d.wide A.DTM_MASTER_ID = c.wide A.DTM_MASTER_ID := by
    rw [State.wide, State.wide, hkept.reg _ (by decide) (by decide), hkept.reg _ (by decide) (by decide)]
  refine ⟨hwide.trans ((hcreg.wide (by decide) (by decide)).trans hid), hservo, ?_, ?_, ?_, hkept.cause 3 (by decide) hcause, ?_, ?_⟩
  · rw [hkept.chosen, hdtm]
  · rw [hkept.masters, hdtm]
  · rw [hkept.pathDelay, hdtm]
  · rw [hkept.fld (by decide) (by decide), hcreg.fld (by decide), hcount, haregs.fld (by decide)]
  · rw [hkept.fld (by decide) (by decide), hcreg.fld (by decide), hbreg.fld (by decide), haregs.fld (by decide)]

/-- The chosen master is lost and the others are aged. -/
def masterDropped (s : State) (c : Master) : State :=
  ageMasters ((s.count F.DTM_ANN_TIMEOUTS_COUNT 1).setDtm
    { s.dtm with masters := s.dtm.masters.filter (fun x => !x.same c), chosen := none, pathDelay := none })

theorem masterDropped_spec (c : Master) :
    (masterDropped s c).dtm = { s.dtm with
      masters := s.dtm.masters.filter (fun y => !y.same c && decide (s.dev.upCycles ≤ y.heard + annCycles s y.interval)), chosen := none, pathDelay := none } ∧
    OnlyRegs s (masterDropped s c) [A.DTM_ANN_TIMEOUTS] ∧
    (masterDropped s c).fld F.DTM_ANN_TIMEOUTS_COUNT = satAdd 32 (s.fld F.DTM_ANN_TIMEOUTS_COUNT) 1 := by
  have hreg := onlyRegs_count s F.DTM_ANN_TIMEOUTS_COUNT 1
  have hself := State.fld_count_self s F.DTM_ANN_TIMEOUTS_COUNT 1 (by decide)
  have hdev : (s.count F.DTM_ANN_TIMEOUTS_COUNT 1).dev = s.dev := State.count_dev _ _ _
  unfold masterDropped
  generalize s.count F.DTM_ANN_TIMEOUTS_COUNT 1 = a at *
  refine ⟨?_, fun r hr => hreg r hr, hself⟩
  have hcycles : ∀ (d : Datum) k, annCycles (a.setDtm d) k = annCycles s k := fun d k => by
    have hn : (a.setDtm d).fld F.DTM_PTP_CFG_ANN_TIMEOUT = s.fld F.DTM_PTP_CFG_ANN_TIMEOUT := hreg.fld (by decide)
    rw [annCycles, annCycles, hn]
  have hqual : ∀ (d : Datum) m, d.chosen = none → qualifies (a.setDtm d) m = decide (s.dev.upCycles ≤ m.heard + annCycles s m.interval) := fun d m hd => by
    have hup : (a.setDtm d).dev = s.dev := hdev
    have hch : (a.setDtm d).dtm.chosen = none := hd
    rw [qualifies, hch, hcycles, hup, Option.any_none, Bool.false_or]
  have hfilter : ∀ d : Datum, d.chosen = none → (s.dtm.masters.filter (fun x => !x.same c)).filter (qualifies (a.setDtm d)) =
      s.dtm.masters.filter (fun y => !y.same c && decide (s.dev.upCycles ≤ y.heard + annCycles s y.interval)) := fun d hd => by
    rw [List.filter_filter]
    exact List.filter_congr fun m _ => by rw [hqual _ _ hd, Bool.and_comm]
  exact congrArg (fun l => ({ s.dtm with masters := l, chosen := none, pathDelay := none } : Datum)) (hfilter _ rfl)

theorem ptpMasterLoss_spec {c : Master} {rest : List Master} (hs : s.operating = true) (hc : s.dtm.chosen = some c)
    (hr : rest = s.dtm.masters.filter (fun y => !y.same c && decide (s.dev.upCycles ≤ y.heard + annCycles s y.interval))) :
    ∃ t, exec .ptpMasterLoss s = .next t ∧
      t.fld F.DTM_ANN_TIMEOUTS_COUNT = satAdd 32 (s.fld F.DTM_ANN_TIMEOUTS_COUNT) 1 ∧ t.dtm.masters = rest ∧ t.dtm.chosen = bestMaster rest ∧
      t.dtm.pathDelay = none ∧ (∀ b, bestMaster rest = some b → t.wide A.DTM_MASTER_ID = b.clockId % 2 ^ 64 ∧ t.fld F.DTM_STATUS_SERVO = 1 ∧
        t.fld F.DTM_MASTER_CHANGES_COUNT = satAdd 32 (s.fld F.DTM_MASTER_CHANGES_COUNT) 1) ∧
      (bestMaster rest = none → t.flag F.DTM_MASTER_PORT_VALID = false ∧
        t.fld F.DTM_STATUS_SERVO = if s.fld F.DTM_STATUS_SERVO = 2 then 3 else s.fld F.DTM_STATUS_SERVO) := by
  obtain ⟨hdtm, hreg, hcount⟩ := masterDropped_spec (s := s) c
  rw [← hr] at hdtm
  have hform : ptpMasterLoss s = match bestMaster (masterDropped s c).dtm.masters with
      | some b => masterChange (masterDropped s c) b
      | none => sourceLost ((masterDropped s c).setFld F.DTM_MASTER_PORT_VALID 0) := by
    unfold ptpMasterLoss
    rw [hc]
    rfl
  refine ⟨_, (congrArg Host.Outcome.next (if_pos hs)).trans (congrArg Host.Outcome.next hform), ?_⟩
  clear hform
  generalize masterDropped s c = a at *
  rw [show a.dtm.masters = rest by rw [hdtm]]
  cases hb : bestMaster rest with
  | some b =>
    have h := masterChange_spec (s := a) b
    refine ⟨h.timeouts.trans hcount, h.masters.trans (by rw [hdtm]), h.chosen, h.path, fun b' hb' => ?_, fun hn => (nomatch hn)⟩
    obtain rfl := Option.some.inj hb'
    exact ⟨h.id, h.servo, h.count.trans (by rw [hreg.fld (by decide)])⟩
  | none =>
    have hset := onlyRegs_setFld a F.DTM_MASTER_PORT_VALID 0
    have hoff : (a.setFld F.DTM_MASTER_PORT_VALID 0).flag F.DTM_MASTER_PORT_VALID = false := State.flag_setFld_zero _ (by decide)
    have hsetdtm := State.setFld_dtm a F.DTM_MASTER_PORT_VALID 0
    have hold : (a.setFld F.DTM_MASTER_PORT_VALID 0).fld F.DTM_STATUS_SERVO = s.fld F.DTM_STATUS_SERVO := (hset.fld (by decide)).trans (hreg.fld (by decide))
    obtain ⟨hservo, hkept⟩ := sourceLost_spec (s := a.setFld F.DTM_MASTER_PORT_VALID 0)
    generalize a.setFld F.DTM_MASTER_PORT_VALID 0 = b at *
    refine ⟨(hkept.fld (by decide) (by decide)).trans ((hset.fld (by decide)).trans hcount), ?_, ?_, ?_, fun b' hb' => (nomatch hb'), fun _ =>
      ⟨(hkept.flag (by decide) (by decide)).trans hoff, hservo.trans (by rw [hold])⟩⟩
    · exact hkept.masters.trans (by rw [hsetdtm, hdtm])
    · exact hkept.chosen.trans (by rw [hsetdtm, hdtm])
    · exact hkept.pathDelay.trans (by rw [hsetdtm, hdtm])

/-! ### Messages taken off the PTP queue (R545) -/

theorem moves_delivered {wake : Bool} (q : Nat) : Moves wake fabricParts fabricPages s (delivered s q) :=
  ((((moves_dropHead q).add (touches_count F.FAB_DEQUEUED_COUNT 1)).add (touches_closeIfEmpty q)).trans (moves_settleHead q)).trans
    (moves_comparePtrs q)

theorem touches_delivered (q : Nat) : Touches fabricParts fabricPages s (delivered s q) := (moves_delivered (wake := false) q).touches

theorem touches_ptpDiscard (x : Nat) : Touches fabricParts fabricPages s (ptpDiscard s x) := by
  refine Touches.foldl (fun u _ _ => ?_) s
  split
  · exact Touches.ite (fun _ => Touches.refl u) (fun _ => touches_delivered _)
  · exact Touches.refl u

theorem touches_takePtp (x type : Nat) : Touches fabricParts fabricPages s (takePtp s x type).2 := by
  have h := touches_ptpDiscard (s := s) x
  unfold takePtp
  simp only
  generalize ptpDiscard s x = d at *
  split
  · generalize d.fld (F.EM_PTP_Q_QUEUE x) = q
    rw [apply_ite Prod.snd]
    exact Touches.ite (fun _ => (h.trans (touches_delivered q)).trans (touches_ptpDiscard x)) (fun _ => h)
  · exact h

theorem takenKept {x type : Nat} {r : Option (Item × List Byte)} (h : takePtp s x type = (r, u)) : Touches fabricParts fabricPages s u := by
  have ht := touches_takePtp (s := s) x type
  rwa [h] at ht

/-! ### Sync, Announce and the delay messages (R542–R547) -/

section
variable {x : EthPort} {type : Nat} {i : Item} {msg : List Byte}

theorem ptpOn_not (hp : ptpOn s x = true) : ¬(!ptpOn s x) = true := by rw [hp]; decide

theorem taken_fld {r : Option (Item × List Byte)} (h : takePtp s x type = (r, u)) {f : Fld} (hf : f.addr / 0x1000 ∉ fabricPages := by decide) :
    u.fld f = s.fld f := (takenKept h).fld hf

theorem ptpSync_spec {m : Master} {d o : Int} {dom : Fin 256} {ck : Fin (2 ^ 64)} {t1 t2 : Nat} {gen : Fin 4} (hs : s.operating = true)
    (hp : ptpOn s x = true) (htake : takePtp s x 0 = (some (i, msg), u)) (hgen : stampGen i = s.fld F.DTM_STATUS_STEP_GEN)
    (hm : s.dtm.chosen = some m) (hd : s.dtm.pathDelay = some d) (hport : m.port = x.val) (hid : m.clockId = ck.val)
    (hdom : dom.val = s.fld F.DTM_PTP_CFG_DOMAIN) (hgen' : gen.val = s.fld F.DTM_STATUS_STEP_GEN) (hf : datumFollows s = false) (ho : o = (t2 : Int) - t1 - d) :
    ∃ t, exec (.ptpSyncRx x dom ck t1 t2 gen) s = .next t ∧
      t.fld F.DTM_SYNC_RX_COUNT = satAdd 32 (s.fld F.DTM_SYNC_RX_COUNT) 1 ∧
      t.reg A.DTM_LAST_OFFSET = BitVec.ofNat 32 (unsigned 32 (clampSigned 32 o)) ∧
      (s.fld F.DTM_JUMP_THRESH_NS < o.natAbs → s.flag F.DTM_STATUS_TIME_SET = true → t.fld F.DTM_STATUS_SERVO = 4 ∧ causeSet t 0x26 0 = true ∧ t.now = s.now) ∧
      (o.natAbs ≤ s.fld F.DTM_JUMP_THRESH_NS ∨ s.flag F.DTM_STATUS_TIME_SET = false → o.natAbs ≤ s.fld F.DTM_SERVO_CFG_SLEW_LIMIT_US * 1000 →
        t.dtm.slew = -o * 2 ^ 32 ∧ incMin ≤ inc t ∧ inc t ≤ incMax ∧ t.now = s.now) := by
  have hkept := takenKept htake
  have hfld : ∀ f : Fld, f.addr / 0x1000 = 0x26 → u.fld f = s.fld f := fun f hf => hkept.fld (by rw [hf]; decide)
  have hdtm : u.dtm = s.dtm := hkept.part .dtm (by decide)
  have hfollows : datumFollows u = false := by
    rw [datumFollows, State.ready_of_touches hkept, hkept.fld (by decide)]
    exact hf
  have hform : ptpSync s x dom ck t1 t2 gen = measure (u.count F.DTM_SYNC_RX_COUNT 1) o gen := by
    have hc : (decide (m.port = x.val) && decide (m.clockId = ck.val) && decide (dom.val = u.fld F.DTM_PTP_CFG_DOMAIN) &&
        gensAgree u [gen.val, stampGen i] && !datumFollows u) = true := by
      rw [hfollows, hfld _ rfl, gensAgree, hfld _ rfl, hgen, hgen', hport, hid, hdom]
      simp
    unfold ptpSync
    rw [if_neg (ptpOn_not hp), htake]
    simp only [hdtm, hm, hd]
    rw [if_pos hc, ← ho]
  refine ⟨_, (congrArg Host.Outcome.next (if_pos hs)).trans (congrArg Host.Outcome.next hform), ?_⟩
  clear hform
  have hself := State.fld_count_self u F.DTM_SYNC_RX_COUNT 1 (by decide)
  have hreg := onlyRegs_count u F.DTM_SYNC_RX_COUNT 1
  have htouch : Touches (fabricParts) (0x26 :: fabricPages) s (u.count F.DTM_SYNC_RX_COUNT 1) := hkept.mono.then (touches_count F.DTM_SYNC_RX_COUNT 1)
  generalize u.count F.DTM_SYNC_RX_COUNT 1 = v at *
  have hvfld : ∀ f : Fld, f.addr / 0x1000 = 0x26 → f.addr ≠ A.DTM_SYNC_RX → v.fld f = s.fld f := fun f hf hn =>
    (hreg.fld (by simpa using hn)).trans (hfld f hf)
  have hnow : v.now = s.now := htouch.part .now (by decide)
  have hvfollows : datumFollows v = false := by
    rw [datumFollows, State.ready_of_touches htouch, htouch.fld (by decide)]
    exact hf
  have hmeas := measure_spec (s := v) o (gen := gen.val) (hgen'.trans (hvfld _ (by decide) (by decide)).symm) hvfollows
  have hjump : v.fld F.DTM_JUMP_THRESH_NS = s.fld F.DTM_JUMP_THRESH_NS := hvfld _ (by decide) (by decide)
  have hset : v.flag F.DTM_STATUS_TIME_SET = s.flag F.DTM_STATUS_TIME_SET := by rw [State.flag, hvfld _ (by decide) (by decide), State.flag]
  have hlimit : v.fld F.DTM_SERVO_CFG_SLEW_LIMIT_US = s.fld F.DTM_SERVO_CFG_SLEW_LIMIT_US := hvfld _ (by decide) (by decide)
  refine ⟨?_, hmeas.shown, fun h h' => ?_, fun h h' => ?_⟩
  · rw [State.fld_congr (hmeas.page _ (by decide) (by decide)), hself, hfld _ (by decide)]
  · rw [← hnow]
    exact hmeas.refused (by rw [hjump]; exact h) (by rw [hset]; exact h')
  · rw [← hnow]
    exact hmeas.slewed (by rw [hjump, hset]; exact h) (by rw [hlimit]; exact h')

theorem ptpAnnounce_spec {dom : Fin 256} {ck : Fin (2 ^ 64)} {pn : Fin 65536} {data : List Nat} {m : Master} {ms : List Master} (hs : s.operating = true)
    (hp : ptpOn s x = true) (htake : takePtp s x 11 = (some (i, msg), u)) (hdom : dom.val = s.fld F.DTM_PTP_CFG_DOMAIN)
    (hm : m = { port := x, clockId := ck, portNumber := pn, dataset := data, heard := s.dev.upCycles, interval := signed 8 (fieldAt msg 33 1) })
    (hms : ms = (s.dtm.masters.filter (qualifies s)).filter (fun y => !y.same m) ++ [m]) :
    ∃ t, exec (.ptpAnnounceRx x dom ck pn data) s = .next t ∧ t.dtm.masters = ms ∧ t.dtm.chosen = bestMaster ms ∧
      (∀ b, bestMaster ms = some b → s.dtm.chosen.any (fun c => b.same c) = false → t.wide A.DTM_MASTER_ID = b.clockId % 2 ^ 64 ∧
        t.fld F.DTM_STATUS_SERVO = 1 ∧ t.dtm.pathDelay = none ∧ causeSet t 0x26 3 = true ∧
        t.fld F.DTM_MASTER_CHANGES_COUNT = satAdd 32 (s.fld F.DTM_MASTER_CHANGES_COUNT) 1) ∧
      (∀ b, bestMaster ms = some b → s.dtm.chosen.any (fun c => b.same c) = true → t.dtm.pathDelay = s.dtm.pathDelay ∧
        t.fld F.DTM_STATUS_SERVO = s.fld F.DTM_STATUS_SERVO) := by
  have hkept := takenKept htake
  have hfld : ∀ f : Fld, f.addr / 0x1000 = 0x26 → u.fld f = s.fld f := fun f hf => hkept.fld (by rw [hf]; decide)
  have hdtm : u.dtm = s.dtm := hkept.part .dtm (by decide)
  have hdev : u.dev = s.dev := hkept.part .dev (by decide)
  have hqual : qualifies u = qualifies s := funext fun y => by
    rw [qualifies, qualifies, hdtm, hdev, annCycles, annCycles, hfld _ (by decide)]
  have hform : exec (.ptpAnnounceRx x dom ck pn data) s = .next (chooseMaster (u.setDtm { s.dtm with masters := ms })) := by
    have hc : ¬(!s.operating || !ptpOn s x) = true := by rw [hs, hp]; decide
    have hd : ¬(dom.val != u.fld F.DTM_PTP_CFG_DOMAIN) = true := by rw [hfld _ (by decide), hdom]; simp
    refine (congrArg Host.Outcome.next (if_neg hc)).trans (congrArg Host.Outcome.next ?_)
    rw [htake]
    simp only [if_neg hd]
    rw [hdev, ← hm, announceHeard]
    have hages : ageMasters u = u.setDtm { s.dtm with masters := s.dtm.masters.filter (qualifies s) } := by rw [ageMasters, hqual, hdtm]
    simp only [hages]
    rw [hms]
    rfl
  refine ⟨_, hform, ?_⟩
  clear hform
  have hvreg : OnlyRegs u (u.setDtm { s.dtm with masters := ms }) [] := fun _ _ => rfl
  have hvdtm : (u.setDtm { s.dtm with masters := ms }).dtm = { s.dtm with masters := ms } := rfl
  generalize u.setDtm { s.dtm with masters := ms } = v at *
  have hmasters : v.dtm.masters = ms := by rw [hvdtm]
  have hchosen : v.dtm.chosen = s.dtm.chosen := by rw [hvdtm]
  have hchanges : v.fld F.DTM_MASTER_CHANGES_COUNT = s.fld F.DTM_MASTER_CHANGES_COUNT := (hvreg.fld (by decide)).trans (hfld _ (by decide))
  have hservo : v.fld F.DTM_STATUS_SERVO = s.fld F.DTM_STATUS_SERVO := (hvreg.fld (by decide)).trans (hfld _ (by decide))
  obtain ⟨b, hb⟩ : ∃ b, bestMaster ms = some b := by
    have hne : ∀ l : List Master, l ≠ [] → ∃ b, bestMaster l = some b := fun l hl => by
      cases l with
      | nil => exact absurd rfl hl
      | cons a l =>
        rw [bestMaster]
        split
        · exact ⟨_, rfl⟩
        · split <;> exact ⟨_, rfl⟩
    exact hne ms (by rw [hms]; simp)
  rw [hb]
  by_cases hsame : s.dtm.chosen.any (fun c => b.same c) = true
  · have hform : chooseMaster v = v.setDtm { v.dtm with chosen := some b } := by
      unfold chooseMaster
      rw [hmasters, hb, hchosen]
      cases hc : s.dtm.chosen with
      | none =>
        rw [hc] at hsame
        cases hsame
      | some c =>
        rw [hc, Option.any_some] at hsame
        simp only [hsame, if_true]
    rw [hform]
    refine ⟨hmasters, rfl, fun b' hb' hno => ?_, fun b' hb' _ => ⟨by rw [show (v.setDtm { v.dtm with chosen := some b }).dtm.pathDelay = v.dtm.pathDelay from rfl, hvdtm], hservo⟩⟩
    obtain rfl := Option.some.inj hb'
    rw [hsame] at hno
    cases hno
  · have hform : chooseMaster v = masterChange v b := by
      unfold chooseMaster
      rw [hmasters, hb, hchosen]
      cases hc : s.dtm.chosen with
      | none => rfl
      | some c =>
        rw [hc, Option.any_some] at hsame
        simp only [if_neg hsame]
    have h := masterChange_spec (s := v) b
    rw [hform]
    refine ⟨h.masters.trans hmasters, h.chosen, fun b' hb' _ => ?_, fun b' hb' hyes => ?_⟩
    · obtain rfl := Option.some.inj hb'
      exact ⟨h.id, h.servo, h.path, h.cause, h.count.trans (by rw [hchanges])⟩
    · obtain rfl := Option.some.inj hb'
      exact absurd hyes hsame

theorem ptpDelayResp_spec {t1 t2 t3 t4 : Nat} {gens : List (Fin 4)} (hs : s.operating = true) (hp : ptpOn s x = true)
    (htake : takePtp s x (if s.flag F.DTM_PTP_CFG_DELAY_MECH then 3 else 9) = (some (i, msg), u)) :
    (gens.all (fun g => g.val == s.fld F.DTM_STATUS_STEP_GEN) = true →
      s.flag F.DTM_PTP_CFG_DELAY_MECH = false ∨ stampGen i = s.fld F.DTM_STATUS_STEP_GEN → exec (.ptpDelayRespRx x t1 t2 t3 t4 gens) s =
        .next (u.setDtm { u.dtm with pathDelay := some (if s.flag F.DTM_PTP_CFG_DELAY_MECH then (((t4 : Int) - t1) - ((t3 : Int) - t2)) / 2
          else (((t2 : Int) - t1) + ((t4 : Int) - t3)) / 2) })) ∧
    (gens.all (fun g => g.val == s.fld F.DTM_STATUS_STEP_GEN) = false → exec (.ptpDelayRespRx x t1 t2 t3 t4 gens) s = .next u) := by
  have hgen : u.fld F.DTM_STATUS_STEP_GEN = s.fld F.DTM_STATUS_STEP_GEN := taken_fld htake
  have hform : exec (.ptpDelayRespRx x t1 t2 t3 t4 gens) s = .next
      (if gensAgree u (if s.flag F.DTM_PTP_CFG_DELAY_MECH then stampGen i :: gens.map (·.val) else gens.map (·.val)) then
        u.setDtm { u.dtm with pathDelay := some (if s.flag F.DTM_PTP_CFG_DELAY_MECH then (((t4 : Int) - t1) - ((t3 : Int) - t2)) / 2
          else (((t2 : Int) - t1) + ((t4 : Int) - t3)) / 2) } else u) := by
    refine (congrArg Host.Outcome.next (if_pos hs)).trans (congrArg Host.Outcome.next ?_)
    unfold ptpDelay
    simp only
    rw [if_neg (ptpOn_not hp), htake]
  have hall : (gens.map (·.val)).all (· == s.fld F.DTM_STATUS_STEP_GEN) = gens.all (fun g => g.val == s.fld F.DTM_STATUS_STEP_GEN) := List.all_map
  rw [hform, gensAgree, hgen]
  refine ⟨fun h h' => ?_, fun h => ?_⟩
  · rw [if_pos]
    split
    · rename_i hm
      rw [hm] at h'
      rw [List.all_cons, hall, h, beq_iff_eq.mpr (h'.resolve_left (by decide))]
      rfl
    · rw [hall, h]
  · rw [if_neg]
    split
    · rw [List.all_cons, hall, h, Bool.and_false]
      decide
    · rw [hall, h]
      decide

/-- A message for which PE15 finds none at the head changes nothing further. -/
theorem ptpNothing_spec (hs : s.operating = true) (hp : ptpOn s x = true) (u : State) (dom : Fin 256) (ck : Fin (2 ^ 64)) (t1 t2 t3 t4 : Nat) (gen : Fin 4)
    (gens : List (Fin 4)) (pn : Fin 65536) (data : List Nat) (seq : Fin 65536) (who : List Byte) :
    (takePtp s x 0 = (none, u) → exec (.ptpSyncRx x dom ck t1 t2 gen) s = .next u) ∧
    (takePtp s x 11 = (none, u) → exec (.ptpAnnounceRx x dom ck pn data) s = .next u) ∧
    (takePtp s x (if s.flag F.DTM_PTP_CFG_DELAY_MECH then 3 else 9) = (none, u) → exec (.ptpDelayRespRx x t1 t2 t3 t4 gens) s = .next u) ∧
    (takePtp s x 2 = (none, u) → exec (.ptpPdelayReqRx x seq who) s = .next u) := by
  have hc : ¬(!s.operating || !ptpOn s x) = true := by rw [hs, hp]; decide
  refine ⟨fun h => ?_, fun h => ?_, fun h => ?_, fun h => ?_⟩
  · refine (congrArg Host.Outcome.next (if_pos hs)).trans (congrArg Host.Outcome.next ?_)
    unfold ptpSync
    rw [if_neg (ptpOn_not hp), h]
  · refine (congrArg Host.Outcome.next (if_neg hc)).trans (congrArg Host.Outcome.next ?_)
    rw [h]
  · refine (congrArg Host.Outcome.next (if_pos hs)).trans (congrArg Host.Outcome.next ?_)
    unfold ptpDelay
    simp only
    rw [if_neg (ptpOn_not hp), h]
  · refine (congrArg Host.Outcome.next (if_neg hc)).trans (congrArg Host.Outcome.next ?_)
    rw [h]

/-! ### Messages sent (R545) -/

/-- The queue that `PTP_TXQ` names for a port. -/
def ptpTxq (s : State) (x : Nat) : Nat := if x = 0 then s.fld F.DTM_PTP_TXQ_TXQ_A else s.fld F.DTM_PTP_TXQ_TXQ_B

theorem sendPtp_closed (peer oneStep : Bool) (ts msg : List Byte) (h : (s.queue (ptpTxq s x)).dest ≠ 2 + x.val) :
    sendPtp s x peer oneStep ts msg = s := by
  unfold sendPtp
  exact if_pos (bne_iff_ne.mpr h)

/-- The addresses of a PTP message over Ethernet. -/
def ptpMac (peer : Bool) : List Byte := if peer then [0x01#8, 0x80#8, 0xC2#8, 0#8, 0#8, 0x0E#8] else [0x01#8, 0x1B#8, 0x19#8, 0#8, 0#8, 0#8]

theorem sendPtp_ethernet (peer oneStep : Bool) (ts msg : List Byte) (h : (s.queue (ptpTxq s x)).dest = 2 + x.val)
    (ht : s.flag F.DTM_PTP_CFG_TRANSPORT = false) : sendPtp s x peer oneStep ts msg = (enqueue s (ptpTxq s x) { Item.blank with
      bytes := ptpMac peer ++ mac x ++ [0x88#8, 0xF7#8] ++ msg, ts := ts, src := 0x3F, ptpOneStep := oneStep, appendFcs := true } true).2 := by
  have hframe : ptpFrame s x peer msg = (ptpMac peer ++ mac x ++ [0x88#8, 0xF7#8] ++ msg, s) := by
    unfold ptpFrame
    rw [ht, if_neg Bool.false_ne_true]
    rfl
  have hc : ¬((s.queue (ptpTxq s x)).dest != 2 + x.val) = true := by simp [h]
  unfold sendPtp
  refine (if_neg hc).trans ?_
  rw [hframe]
  rfl

theorem ptpDelayReq_spec {q : Nat} (hs : s.operating = true) (hp : ptpOn s x = true) (hu : u = s.setDtm { s.dtm with dreqSeq := (s.dtm.dreqSeq + 1) % 65536 })
    (hq : q = (if x.val = 0 then s.fld F.DTM_PTP_TXQ_TXQ_A else s.fld F.DTM_PTP_TXQ_TXQ_B)) :
    ((s.queue q).dest ≠ 2 + x.val → exec (.ptpDelayReqTx x) s = .next u) ∧
    ((s.queue q).dest = 2 + x.val → s.flag F.DTM_PTP_CFG_TRANSPORT = false → s.flag F.DTM_PTP_CFG_DELAY_MECH = false →
      ∃ t, exec (.ptpDelayReqTx x) s = .next t ∧ t = (enqueue u q { Item.blank with
        bytes := [0x01#8, 0x1B#8, 0x19#8, 0#8, 0#8, 0#8] ++ mac x ++ [0x88#8, 0xF7#8] ++
          ptpMessage s x 1 s.dtm.dreqSeq 0 1 (List.replicate 8 0#8) (List.replicate 10 0#8), ts := stampNow s, src := 0x3F, appendFcs := true } true).2) ∧
    ((s.queue q).dest = 2 + x.val → s.flag F.DTM_PTP_CFG_TRANSPORT = false → s.flag F.DTM_PTP_CFG_DELAY_MECH = true →
      ∃ t, exec (.ptpDelayReqTx x) s = .next t ∧ t = (enqueue u q { Item.blank with
        bytes := [0x01#8, 0x80#8, 0xC2#8, 0#8, 0#8, 0x0E#8] ++ mac x ++ [0x88#8, 0xF7#8] ++
          ptpMessage s x 2 s.dtm.dreqSeq 0 5 (List.replicate 8 0#8) (List.replicate 20 0#8), ts := stampNow s, src := 0x3F, appendFcs := true } true).2) := by
  have hc : ¬(!s.operating || !ptpOn s x) = true := by rw [hs, hp]; decide
  have hform : exec (.ptpDelayReqTx x) s = .next (if u.flag F.DTM_PTP_CFG_DELAY_MECH then
      sendPtp u x true false (stampNow u) (ptpMessage u x 2 s.dtm.dreqSeq 0 5 (List.replicate 8 0#8) (List.replicate 20 0#8))
      else sendPtp u x false false (stampNow u) (ptpMessage u x 1 s.dtm.dreqSeq 0 1 (List.replicate 8 0#8) (List.replicate 10 0#8))) := by
    rw [hu]
    exact congrArg Host.Outcome.next (if_neg hc)
  have hregs : u.regs = s.regs ∧ u.fab = s.fab ∧ u.now = s.now := by rw [hu]; exact ⟨rfl, rfl, rfl⟩
  clear hu
  have hflag := State.flag_of_regs hregs.1
  have hfld : ∀ f : Fld, u.fld f = s.fld f := fun f => State.fld_congr (State.reg_congr hregs.1 _)
  have hstamp : stampNow u = stampNow s := by rw [stampNow, stampNow, hfld, hregs.2.2]
  have hmsg : ∀ a b c d e f, ptpMessage u x a b c d e f = ptpMessage s x a b c d e f := fun a b c d e f => by
    rw [ptpMessage, ptpMessage, hfld, State.wide, State.reg_congr hregs.1, State.reg_congr hregs.1, ← State.wide]
  have hqueue : ptpTxq u x = q := by rw [ptpTxq, hfld, hfld, hq]
  have hdest : (u.queue (ptpTxq u x)).dest = (s.queue q).dest := by rw [hqueue, State.queue, State.queue, hregs.2.1]
  rw [hform, hstamp, hmsg, hmsg, hflag]
  refine ⟨fun h => ?_, fun h ht hm => ?_, fun h ht hm => ?_⟩
  · refine congrArg Host.Outcome.next ?_
    split <;> exact sendPtp_closed _ _ _ _ (by rw [hdest]; exact h)
  · rw [hm, if_neg Bool.false_ne_true, sendPtp_ethernet _ _ _ _ (hdest.trans h) ((hflag _).trans ht), hqueue]
    exact ⟨_, rfl, rfl⟩
  · rw [hm, if_pos rfl, sendPtp_ethernet _ _ _ _ (hdest.trans h) ((hflag _).trans ht), hqueue]
    exact ⟨_, rfl, rfl⟩

theorem ptpPdelayReq_spec {seq : Fin 65536} {who : List Byte} (hs : s.operating = true) (hp : ptpOn s x = true)
    (htake : takePtp s x 2 = (some (i, msg), u)) :
    (s.flag F.DTM_PTP_CFG_DELAY_MECH = false → exec (.ptpPdelayReqRx x seq who) s = .next u) ∧
    (∀ q, q = (if x.val = 0 then s.fld F.DTM_PTP_TXQ_TXQ_A else s.fld F.DTM_PTP_TXQ_TXQ_B) → (u.queue q).dest = 2 + x.val →
      s.flag F.DTM_PTP_CFG_TRANSPORT = false → s.flag F.DTM_PTP_CFG_DELAY_MECH = true →
      (s.flag F.DTM_PTP_CFG_PD_ONE_STEP = true → ∃ t, exec (.ptpPdelayReqRx x seq who) s = .next t ∧ t = (enqueue u q { Item.blank with
        bytes := [0x01#8, 0x80#8, 0xC2#8, 0#8, 0#8, 0x0E#8] ++ mac x ++ [0x88#8, 0xF7#8] ++
          ptpMessage u x 3 seq 0 5 (slice msg 8 8) (List.replicate 10 0#8 ++ slice who 0 10), ts := i.ts, src := 0x3F,
        ptpOneStep := true, appendFcs := true } true).2) ∧
      (∀ v, s.flag F.DTM_PTP_CFG_PD_ONE_STEP = false → v = u.setDtm { u.dtm with
          pdelay := u.dtm.pdelay.filter (fun e => !(e.port == x.val && e.seq == seq.val)) ++
            [{ port := x, seq := seq, correction := slice msg 8 8 }] } →
        ∃ t, exec (.ptpPdelayReqRx x seq who) s = .next t ∧ t = (enqueue v q { Item.blank with
          bytes := [0x01#8, 0x80#8, 0xC2#8, 0#8, 0#8, 0x0E#8] ++ mac x ++ [0x88#8, 0xF7#8] ++
            ptpMessage v x 3 seq 0x0200 5 (List.replicate 8 0#8) (ptpTime i.ts ++ slice who 0 10), ts := stampNow v, src := 0x3F,
          appendFcs := true } true).2)) := by
  have hc : ¬(!s.operating || !ptpOn s x) = true := by rw [hs, hp]; decide
  have hkept := takenKept htake
  have hflag : ∀ f : Fld, f.addr / 0x1000 ∉ fabricPages → u.flag f = s.flag f := fun f hf => hkept.flag hf
  have hform : exec (.ptpPdelayReqRx x seq who) s = .next (if u.flag F.DTM_PTP_CFG_DELAY_MECH then pdelayAnswer u x seq who i msg else u) := by
    refine (congrArg Host.Outcome.next (if_neg hc)).trans (congrArg Host.Outcome.next ?_)
    rw [htake]
  rw [hform, hflag _ (by decide)]
  refine ⟨fun hm => by rw [hm, if_neg Bool.false_ne_true], fun q hq hdest ht hm => ?_⟩
  rw [hm, if_pos rfl, pdelayAnswer, hflag F.DTM_PTP_CFG_PD_ONE_STEP (by decide)]
  have hqueue : ptpTxq u x = q := by rw [ptpTxq, hkept.fld (by decide), hkept.fld (by decide), hq]
  refine ⟨fun hone => ?_, fun v hone hv => ?_⟩
  · rw [hone, if_pos rfl, sendPtp_ethernet _ _ _ _ (by rw [hqueue]; exact hdest) ((hflag _ (by decide)).trans ht), hqueue]
    exact ⟨_, rfl, rfl⟩
  · have hregs : v.regs = u.regs ∧ v.fab = u.fab := by rw [hv]; exact ⟨rfl, rfl⟩
    have hvq : ptpTxq v x = q := by
      rw [← hqueue, ptpTxq, ptpTxq, State.fld_congr (State.reg_congr hregs.1 _), State.fld_congr (State.reg_congr hregs.1 _)]
    have hvdest : (v.queue (ptpTxq v x)).dest = 2 + x.val := by
      rw [hvq, State.queue, hregs.2, ← State.queue]
      exact hdest
    have hvt : v.flag F.DTM_PTP_CFG_TRANSPORT = false := (State.flag_of_regs hregs.1 _).trans ((hflag _ (by decide)).trans ht)
    rw [hone, if_neg Bool.false_ne_true]
    simp only [← hv]
    rw [sendPtp_ethernet _ _ _ _ hvdest hvt, hvq]
    exact ⟨_, rfl, rfl⟩

end

/-! ### The statement -/

/-- Settles O58: the time is stepped whole, slewed and read whole; a change of the servo's state keeps all it does not name, so each command's clause follows
from what a step, a slew, a measurement and a change of master leave. -/
theorem datumIsKeptAndDisciplined : Obligations.DatumIsKeptAndDisciplined := by
  unfold Obligations.DatumIsKeptAndDisciplined
  refine ⟨fun s id c total hs hc ht h0 hmax => datumStep_spec hs hc ht h0 hmax, fun s src hs => ⟨timeSnapshot_spec hs src, fun hj => ppsTsPop_spec hs hj,
    fun ho hmin hmax lo hi => incWrite_spec hs src ho hmin hmax lo hi, fun ho => ownedHooks_spec hs ho,
    fun data ho => ⟨fun h => adjPhase_refused hs src ho h, fun h => adjPhase_slews hs src ho h⟩,
    fun data hl hd => ⟨fun h => srcCfg_same hs src hl hd h, fun h => srcCfg_changed hs src hl hd h⟩,
    fun data => ⟨fun h => hostLock_kept hs src h, fun h h' => hostLock_moves hs src h h'⟩⟩,
    fun s hp => ⟨fun h => slewDone_spec hp h, fun ha he hq => ppsOutStart_spec hp ha he hq, fun ha he => ppsInEdge_spec hp ha he⟩,
    fun s => ppsOutEnd_spec,
    fun s hs => ⟨fun h => holdoverExpiry_spec hs h, timeOkHoldExpiry_spec hs, fun h => ppsSourceLoss_spec hs h,
      fun c rest hc hr => ptpMasterLoss_spec hs hc hr⟩,
    fun s x hs hp => ⟨fun u dom ck t1 t2 t3 t4 gen gens pn data seq who => ptpNothing_spec hs hp u dom ck t1 t2 t3 t4 gen gens pn data seq who,
      fun m d o dom ck t1 t2 gen i msg u htake hgen hm hd hport hid hdom hgen' hf ho =>
        ptpSync_spec hs hp htake hgen hm hd hport hid hdom hgen' hf ho,
      fun dom ck pn data m ms i msg u htake hdom hm hms => ptpAnnounce_spec hs hp htake hdom hm hms,
      fun t1 t2 t3 t4 gens i msg u htake => ptpDelayResp_spec hs hp htake, fun u q hu hq => ptpDelayReq_spec hs hp hu hq,
      fun seq who i msg u htake => ptpPdelayReq_spec hs hp htake⟩⟩

end

end Sys2Proof.Machine
end

section
/-!
PROOFS. The commit to WATCH and the exit from it (22_power_clocks_and_emc.md, WATCH).
-/
namespace Sys2Proof.Machine

-- One proof after another: side by side, the threads of so long a text want more memory than the check grants.
set_option Elab.async false

section
variable {s t u : State}

/-! ### The commit (R690) -/

/-- What the commit may touch. -/
def commitParts : List Area := [.regs, .dram, .out, .fresh, .host, .log, .fab, .tss, .ports, .rings, .mac, .cad, .upd, .sec, .mem]

/-- The pages in which it shows. -/
def commitPages : List Nat := [0x20, 0x24, 0x25, 0x1C, 0x1E, 0x1F, 0x28, 0x05]

theorem touches_commitReplace (r : Replace) : Touches [.regs, .sec] [0x28] s (commitReplace s r) := by
  have hput : ∀ (v : State) (p : Replace), Touches [.sec] [] v (putReplace v p) := fun v p => touches_parts [.sec] rfl
  exact ((touches_setSlot r.slot _).then (hput _ _)).then (touches_count F.KSU_COMMITS_COUNT 1)

theorem touches_replaceDone (r : Replace) : Touches [.regs, .sec, .log, .host, .out, .rings] [0x28] s (replaceDone s r) := by
  have h := (touches_endReplace (s := s) r).mono (ps := [.regs, .sec, .log, .host, .out, .rings]) (gs := [0x28])
  unfold replaceDone
  simp only
  split
  · exact h.then (touches_finish _ _ _)
  · exact h

theorem touches_completeReplace (r : Replace) : Touches commitParts commitPages s (completeReplace s r) := by
  unfold completeReplace
  exact Touches.ite (fun _ => (touches_commitReplace r).mono.then (touches_replaceDone _)) (fun _ => (touches_replaceDone r).mono)

theorem touches_stopCmd (id : CmdId) : Touches [.rings] [] s (stopCmd s id) := by
  unfold stopCmd
  split
  · exact touches_finish id _ _
  · split
    · exact touches_finish id _ _
    · exact touches_finish id _ _

theorem touches_watchCommands : Touches commitParts commitPages s (watchCommands s) := by
  have hrepl : ∀ l : List Replace, Touches commitParts commitPages s (l.foldl completeReplace s) := fun l =>
    Touches.foldl (fun t r _ => touches_completeReplace r) s
  unfold watchCommands
  simp only
  refine (hrepl (s.sec.repl.filter Replace.begun)).trans ?_
  generalize (s.sec.repl.filter Replace.begun).foldl completeReplace s = v
  refine eachCmd_induct (P := fun t => Touches commitParts commitPages _ t) (Touches.refl _) (fun t id c ht => ht.trans ?_)
  exact Touches.ite (fun _ => (touches_finish id _ _).mono) (fun _ => (touches_stopCmd id).mono)

theorem touches_writeBreak (src first last : Nat) : Touches [.regs, .rings, .host, .out, .fresh] [0x05] s (writeBreak s src first last) := by
  unfold writeBreak
  exact ((((touches_drawBytes s 8).mono).then (touches_putRecord _ _)).then (touches_setRing _ src _)).then (touches_countCompletion _ src false)

theorem touches_completionWrite (src : Nat) : Touches [.regs, .rings, .host, .out, .fresh] [0x05] s (completionWrite s src) := by
  unfold completionWrite
  refine Touches.ite (fun _ => Touches.refl s) (fun _ => Touches.ite (fun _ => Touches.refl s) (fun _ => ?_))
  simp only
  split
  · exact touches_writeBreak src _ _
  · split
    · exact touches_writePart _ _ _
    · exact Touches.refl s
  · exact Touches.refl s

theorem touches_writeRecords (n k : Nat) : Touches [.regs, .rings, .host, .out, .fresh] [0x05] s (writeRecords n s k) := by
  induction n generalizing s with
  | zero => exact Touches.refl s
  | succ n ih => exact (touches_completionWrite k).trans ih

/-- Every source's records written while there is room. -/
def recordsWritten (s : State) : State := (List.range 5).foldl (fun (t : State) k => writeRecords (recordsLeft t k) t k) s

/-- Every parcel's messages dropped. -/
def parcelsDropped (s : State) : State := (usedParcels s).foldl (fun (t : State) p => (dropAll t p).2) s

theorem watchCommit_eq (e : WatchEntry) : ∃ v w, w = recordsWritten (parcelsDropped (watchCommands s)) ∧ v = flushEvents w.log.queue.length w ∧
    watchCommit s e = v.setPow { v.pow with entry := some { e with committed := true } } := by
  unfold watchCommit recordsWritten parcelsDropped
  exact ⟨_, _, rfl, rfl, rfl⟩

theorem touches_parcelsDropped : Touches commitParts commitPages s (parcelsDropped s) := Touches.foldl (fun t p _ => (touches_dropAll p).mono) s

theorem touches_recordsWritten : Touches commitParts commitPages s (recordsWritten s) := Touches.foldl (fun t k _ => (touches_writeRecords _ k).mono) s

theorem watchCommit_spec {e : WatchEntry} (hs : s.ready = true) (he : s.pow.entry = some e) (hc : e.committed = false) (hg : s.pow.lgOpen = false)
    (hl : ∀ n, n < 4 → laneState s n ≠ 4) : ∃ t, exec .watchCommit s = .next t ∧
      t.pow = { s.pow with entry := some { e with committed := true } } ∧ t.devState = 2 := by
  have hall : (List.range 4).all (fun n => laneState s n != 4) = true := by
    rw [List.all_eq_true]
    exact fun n hn => bne_iff_ne.mpr (hl n (List.mem_range.mp hn))
  have hcond : (s.ready && !e.committed && !s.pow.lgOpen && (List.range 4).all (fun n => laneState s n != 4)) = true := by
    rw [hs, hc, hg, hall]
    rfl
  have hform : exec .watchCommit s = .next (watchCommit s e) := by
    show Host.Outcome.next (match s.pow.entry with
      | none => s
      | some e => if s.ready && !e.committed && !s.pow.lgOpen && (List.range 4).all (fun n => laneState s n != 4) then watchCommit s e else s) = _
    rw [he]
    exact congrArg Host.Outcome.next (if_pos hcond)
  obtain ⟨v, w, hw, hv, heq⟩ := watchCommit_eq (s := s) e
  have htw : Touches commitParts commitPages s w := by
    rw [hw]
    exact (touches_watchCommands.trans touches_parcelsDropped).trans touches_recordsWritten
  have htouch : Touches commitParts commitPages s v := by
    rw [hv]
    exact htw.then (touches_flushEvents _ _)
  have hpow : v.pow = s.pow := htouch.part .pow (by decide)
  have hdev : v.devState = s.devState := htouch.fld (f := F.SYS_STATUS_DEV_STATE) (by decide)
  refine ⟨_, hform.trans (congrArg Host.Outcome.next heq), ?_, ?_⟩
  · show ({ v.pow with entry := some { e with committed := true } } : Power) = _
    rw [hpow]
  · refine (show _ = v.devState from rfl).trans (hdev.trans ?_)
    simp only [State.ready, Bool.and_eq_true, beq_iff_eq] at hs
    exact hs.2

/-! ### WATCH is reached (R690, R692) -/

theorem touches_watchNote (kind addr cmd rssi : Nat) {gs : List Nat} : Touches [.pow] gs s (watchNote s kind addr cmd rssi) := touches_setPow _

/-- The lanes off, the entry shown and noted. -/
def watchShown (s : State) (e : WatchEntry) : State :=
  watchNote (((((List.range 4).foldl toOff s).setFld F.SYS_STATUS_DEV_STATE 5).count F.AON_WATCH_ENTRIES_COUNT 1).setFld F.AON_WATCH_INFO_ENTRY e.cause) e.cause 0 0 0

theorem watchShown_spec (e : WatchEntry) : (watchShown s e).devState = 5 ∧ (watchShown s e).fld F.AON_WATCH_INFO_ENTRY = e.cause % 256 ∧
    (watchShown s e).fld F.AON_WATCH_ENTRIES_COUNT = satAdd 32 (s.fld F.AON_WATCH_ENTRIES_COUNT) 1 := by
  unfold watchShown
  have hoff : Touches [.regs, .lanes, .rings, .host, .out] lanePages s ((List.range 4).foldl toOff s) :=
    Touches.foldl (fun t n hn => touches_toOff (List.mem_range.mp hn)) s
  generalize (List.range 4).foldl toOff s = a at *
  have hstate : (a.setFld F.SYS_STATUS_DEV_STATE 5).devState = 5 := State.fld_setFld_self a F.SYS_STATUS_DEV_STATE 5 (by decide)
  have hb := onlyRegs_setFld a F.SYS_STATUS_DEV_STATE 5
  generalize a.setFld F.SYS_STATUS_DEV_STATE 5 = b at *
  have hcount := State.fld_count_self b F.AON_WATCH_ENTRIES_COUNT 1 (by decide)
  have hc := onlyRegs_count b F.AON_WATCH_ENTRIES_COUNT 1
  generalize b.count F.AON_WATCH_ENTRIES_COUNT 1 = c at *
  have hentry := State.fld_setFld_self c F.AON_WATCH_INFO_ENTRY e.cause (by decide)
  have hd := onlyRegs_setFld c F.AON_WATCH_INFO_ENTRY e.cause
  generalize c.setFld F.AON_WATCH_INFO_ENTRY e.cause = d at *
  have hnote : ∀ f : Fld, (watchNote d e.cause 0 0 0).fld f = d.fld f := fun f => (touches_watchNote (gs := []) _ _ _ _).fld (by simp)
  refine ⟨(hnote _).trans (((hc.trans hd).fld (by decide)).trans hstate), (hnote _).trans hentry, (hnote _).trans ?_⟩
  rw [hd.fld (by decide), hcount, hb.fld (by decide), hoff.fld (by decide)]

theorem watchEntryDone_spec {e : WatchEntry} (hs : s.ready = true) (he : s.pow.entry = some e) (hc : e.committed = true) (hd : watchRecordDue s e = false) :
    ∃ t, exec .watchEntryDone s = .next t ∧ t.devState = 5 ∧ t.pow.entry = none ∧ t.fld F.AON_WATCH_INFO_ENTRY = e.cause % 256 ∧
      t.fld F.AON_WATCH_ENTRIES_COUNT = satAdd 32 (s.fld F.AON_WATCH_ENTRIES_COUNT) 1 ∧ t.boot.pllLocked = false ∧ (∀ n, t.engine n = .stopped) := by
  have hcond : (s.ready && e.committed && !watchRecordDue s e) = true := by
    rw [hs, hc, hd]
    rfl
  have hform : exec .watchEntryDone s = .next (enterWatch s e) := by
    show Host.Outcome.next (match s.pow.entry with
      | some e => if s.ready && e.committed && !watchRecordDue s e then enterWatch s e else s
      | none => s) = _
    rw [he]
    exact congrArg Host.Outcome.next (if_pos hcond)
  obtain ⟨hstate, hinfo, hcount⟩ := watchShown_spec (s := s) e
  have hent : ∃ d b h m p, enterWatch s e = { watchShown s e with dev := d, boot := b, host := h, mgm := m, pow := p } ∧
      d.engines = [] ∧ b.pllLocked = false ∧ p.entry = none := by
    unfold enterWatch
    exact ⟨_, _, _, _, _, rfl, rfl, rfl, rfl⟩
  obtain ⟨d, b, h, m, p, heq, hengines, hpll, hentry⟩ := hent
  refine ⟨_, hform.trans (congrArg Host.Outcome.next heq), ?_⟩
  generalize watchShown s e = w at *
  exact ⟨hstate, hentry, hinfo, hcount, hpll, fun n => by
    show Tbl.get (fun _ => EngineState.stopped) d.engines n = _
    rw [hengines]
    rfl⟩

/-! ### The exit from WATCH (R693) -/

/-- The state that the exit from WATCH leaves, before its registers are stamped. -/
def woken (s : State) (lastTrans : Nat) : State :=
  { State.reset with
    pending := s.pending, regs := s.regs.filter (fun e => e.1 / 0x1000 == 2 || e.1 / 0x1000 == 3), dram := (keptDram s).dram, out := s.out,
    fresh := s.fresh,
    dev := { State.reset.dev with inReset := false, resetCode := 6, lastTrans := lastTrans, secureLatch := s.dev.secureLatch },
    boot := { Boot.init with fromWatch := true }, nv := s.nv, host := HostIf.init s.host.perstLow, log := EventLog.init,
    sec := secureAfter false s.sec, mgm := Margin.init s.mgm.age, pow := powerAfter false s.pow }

theorem resetEffects_watch (lastTrans : Nat) :
    resetEffects s 6 lastTrans = showPins s (ageShown (keepImages s (stamped s (woken s lastTrans) 6))) := by
  have hpower : ((6 : Nat) == 0) = false := rfl
  have hwatch : ((6 : Nat) == 6) = true := rfl
  simp only [resetEffects, hpower, hwatch, Bool.false_eq_true, if_false, if_true, Bool.not_false, Bool.true_and, Bool.not_true]
  rfl

theorem woken_reg (lastTrans : Nat) (a : Nat) : (woken s lastTrans).reg a = if a / 0x1000 = 2 ∨ a / 0x1000 = 3 then s.reg a else resetWord a := by
  refine (Tbl.get_filter_keys resetWord (fun a => a / 0x1000 == 2 || a / 0x1000 == 3) s.regs a).trans ?_
  by_cases h : a / 0x1000 = 2 ∨ a / 0x1000 = 3
  · rw [if_pos h, if_pos (by simpa using h)]
    rfl
  · rw [if_neg h, if_neg (by simpa using h)]

theorem imgInfo_page : ∀ k ∈ List.range 8, A.UPD_IMG_INFO k / 0x1000 ∈ [0x1F] := by decide

theorem touches_keepImages (old : State) : Touches [.regs, .upd] [0x1F] s (keepImages old s) := by
  have himages : Touches [.regs, .upd] [0x1F] s
      ((List.range 8).foldl (fun (t : State) k => t.setReg (A.UPD_IMG_INFO k) (old.reg (A.UPD_IMG_INFO k))) s) :=
    Touches.foldl (fun t k hk => (touches_setReg_of _ _ (imgInfo_page k hk)).mono) s
  unfold keepImages
  simp only
  generalize (List.range 8).foldl (fun (t : State) k => t.setReg (A.UPD_IMG_INFO k) (old.reg (A.UPD_IMG_INFO k))) s = a at *
  exact ((himages.then (touches_setFld F.UPD_STATUS_IMG_VALID _)).then (touches_upd _)).then (touches_refreshSessions _)

/-- What the exit from WATCH leaves before BOOT is entered. -/
structure Woken (s t : State) (lastTrans : Nat) : Prop where
  aon : ∀ a, a / 0x1000 = 2 ∨ a / 0x1000 = 3 → t.reg a = s.reg a
  state : t.devState = 1
  code : t.fld F.NVC_RESET_SRC_LAST = 6
  dev : t.dev.lastTrans = lastTrans
  resume : t.pow.resume = s.pow.resume

theorem showPins_state (old : State) : (showPins old (ageShown s)).devState = s.devState := by
  have hstate : ∀ (v : State) (f : Fld) (n : Nat), f.addr ≠ A.SYS_STATUS → (v.setFld f n).devState = v.devState := fun v f n hf =>
    (onlyRegs_setFld v f n).fld (f := F.SYS_STATUS_DEV_STATE) (by simpa using hf.symm)
  have hfold : ∀ (l : List Nat) (g : State → Nat → Nat) (v : State), (∀ n ∈ l, n < 4) →
      (l.foldl (fun (t : State) n => t.setFld (F.LRF_STATUS_BLANK_IN n) (g t n)) v).devState = v.devState := fun l g => by
    induction l with
    | nil => exact fun v _ => rfl
    | cons n l ih =>
      intro v hl
      have hn : (F.LRF_STATUS_BLANK_IN n).addr ≠ A.SYS_STATUS := by
        have := hl n (List.mem_cons_self ..)
        interval_cases n <;> decide
      exact (ih _ (fun m hm => hl m (List.mem_cons_of_mem _ hm))).trans (hstate _ _ _ hn)
  have hpins : ∀ (v : State) n, (v.setFld F.SYS_STATUS_MAINS_OK n).devState = v.devState := fun v n =>
    State.fld_setFld_apart v F.SYS_STATUS_MAINS_OK F.SYS_STATUS_DEV_STATE n (by decide) (by decide)
  have hage : (ageShown s).devState = s.devState :=
    ((onlyRegs_setReg s A.MGM_AGE_H _).trans (onlyRegs_setFld _ F.MGM_RECORDS_COUNT _)).fld (f := F.SYS_STATUS_DEV_STATE) (by decide)
  unfold showPins
  generalize ageShown s = v at *
  simp only
  rw [hfold _ _ _ (fun n hn => List.mem_range.mp hn), hstate _ F.RED_STATUS_ILK_IN _ (by decide), hpins, hage]

theorem woken_of (lastTrans : Nat) : Woken s (resetEffects s 6 lastTrans) lastTrans := by
  rw [resetEffects_watch]
  have hregs : ∀ v : State, OnlyRegs v (showPins s (ageShown v)) _ := fun v => onlyRegs_shown s v
  have hstate := fun v : State => showPins_state (s := v) s
  have hsame : ∀ v : State, SameButRegs v (showPins s (ageShown v)) := fun v => SameButRegs.trans (t := ageShown v) rfl (sameButRegs_showPins _ _)
  have hkeep := touches_keepImages (s := stamped s (woken s lastTrans) 6) s
  have hstamp := onlyRegs_stamped s (woken s lastTrans) 6
  have hcode := stamped_last s (woken s lastTrans) (code := 6) (by decide)
  have hparts : (stamped s (woken s lastTrans) 6).dev = (woken s lastTrans).dev ∧ (stamped s (woken s lastTrans) 6).pow = (woken s lastTrans).pow := ⟨rfl, rfl⟩
  have hwreg := woken_reg (s := s) lastTrans
  have hwdev : (woken s lastTrans).dev.lastTrans = lastTrans := rfl
  have hwpow : (woken s lastTrans).pow.resume = s.pow.resume := rfl
  generalize woken s lastTrans = w at *
  generalize stamped s w 6 = x at *
  generalize keepImages s x = y at *
  specialize hregs y
  specialize hstate y
  specialize hsame y
  generalize showPins s (ageShown y) = z at *
  have hdev : z.dev = w.dev := (hsame.part State.dev (fun _ _ => rfl)).trans ((hkeep.part .dev (by decide)).trans hparts.1)
  have hpow : z.pow = w.pow := (hsame.part State.pow (fun _ _ => rfl)).trans ((hkeep.part .pow (by decide)).trans hparts.2)
  refine ⟨fun a ha => ?_, ?_, ?_, by rw [hdev, hwdev], by rw [hpow, hwpow]⟩
  · have hne : ∀ as : List Nat, (∀ c ∈ as, ¬(c / 0x1000 = 2 ∨ c / 0x1000 = 3)) → a ∉ as := fun as h m => h a m ha
    rw [hregs a (hne _ (by decide)), hkeep.reg a (by simp only [List.mem_singleton]; omega), hstamp a (hne _ (by decide)), hwreg, if_pos ha]
  · refine hstate.trans ((hkeep.fld (f := F.SYS_STATUS_DEV_STATE) (by decide)).trans ((hstamp.fld (f := F.SYS_STATUS_DEV_STATE) (by decide)).trans ?_))
    rw [State.fld, hwreg, if_neg (by decide)]
    decide +kernel
  · rw [hregs.fld (by decide), hkeep.fld (by decide), hcode]

/-- What waits for BOOT after WATCH is reported: the clock monitors, and the WATCH that ended. -/
theorem aonReports_watch (h : s.pow.resume = true) : lastEvent (aonReports s) 0x02 0x1602 ∧ OnlyRegs s (aonReports s) [0x00010, 0x02010] ∧
    (aonReports s).dev = s.dev := by
  have hfold : ∀ (l : List (Nat × Nat)) (v : State), OnlyRegs v (l.foldl (fun (t : State) e =>
      setCause (t.event 0x00 0 0x1603 (if e.2 = 1 then 3 else 1) (leBytes 1 e.1 ++ leBytes 1 e.2)) 0x00 3) v) [0x00010] ∧
      Touches [.regs, .log, .host, .out] [0x00] v (l.foldl (fun (t : State) e =>
      setCause (t.event 0x00 0 0x1603 (if e.2 = 1 then 3 else 1) (leBytes 1 e.1 ++ leBytes 1 e.2)) 0x00 3) v) := fun l v =>
    ⟨OnlyRegs.foldl (as := [0x00010]) (fun t e _ a ha => onlyRegs_setCause (t.event 0x00 0 0x1603 _ _) 0x00 3 a ha) v,
      Touches.foldl (fun t e _ => (touches_event (gs := []) _ _ _ _ _).mono.then (touches_setCause 0x00 3)) v⟩
  obtain ⟨hreg, htouch⟩ := hfold s.pow.clockDue s
  unfold aonReports
  simp only
  generalize s.pow.clockDue.foldl _ s = v at *
  have hpow : v.pow = s.pow := htouch.part .pow (by decide)
  have hdev : v.dev = s.dev := htouch.part .dev (by decide)
  rw [hpow, if_pos h]
  refine ⟨lastEvent_setCause _ _ (lastEvent_event _ _ _ _ _), fun a ha => ?_, (setCause_dev _ _ _).trans hdev⟩
  exact (onlyRegs_setCause _ 0x02 2 a (fun m => ha (List.mem_cons_of_mem _ m))).trans (hreg a (fun m => ha (by
    rw [List.mem_singleton.mp m]
    exact List.mem_cons_self ..)))

/-- What an exit from WATCH leaves. -/
structure WatchLeft (s t : State) (exit : Nat) : Prop where
  state : t.devState = 1
  code : t.fld F.NVC_RESET_SRC_LAST = 6
  shown : t.fld F.AON_WATCH_INFO_EXIT = exit % 256
  trans : t.dev.lastTrans = (if exit = 1 then 0x0A else 0x0B)
  event : lastEvent t 0x02 0x1602
  reg : ∀ a, a / 0x1000 = 2 ∨ a / 0x1000 = 3 → a ∉ [A.AON_WATCH_INFO, A.AON_WATCH_S, 0x02010] → t.reg a = s.reg a

/-- The exit shown in AON. -/
def exitShown (s : State) (exit : Nat) : State :=
  (s.setFld F.AON_WATCH_INFO_EXIT exit).setFld F.AON_WATCH_S_SECONDS (s.fld F.AON_TIME_SECONDS - s.pow.watchAt)

theorem exitShown_spec (exit : Nat) : (exitShown s exit).fld F.AON_WATCH_INFO_EXIT = exit % 256 ∧
    OnlyRegs s (exitShown s exit) [A.AON_WATCH_INFO, A.AON_WATCH_S] := by
  unfold exitShown
  generalize s.fld F.AON_TIME_SECONDS - s.pow.watchAt = v
  have hself := State.fld_setFld_self s F.AON_WATCH_INFO_EXIT exit (by decide)
  have ha := onlyRegs_setFld s F.AON_WATCH_INFO_EXIT exit
  generalize s.setFld F.AON_WATCH_INFO_EXIT exit = a at *
  have hb := onlyRegs_setFld a F.AON_WATCH_S_SECONDS v
  exact ⟨(hb.fld (by decide)).trans hself, ha.trans hb⟩

/-- BOOT entered anew, before it reports. -/
def bootAgain (s : State) : State :=
  ({ s with dev := { s.dev with inReset := false }, nv := { s.nv with bootCount := (s.nv.bootCount + 1) % 2 ^ 32 },
            pow := { s.pow with bootAt := s.pow.aonCycles } } : State).event 0x01 0 0x0500 0 (leBytes 1 s.dev.resetCode ++ leBytes 1 s.dev.lastTrans)

theorem enterBoot_eq : enterBoot s = aonReports (bootAgain s) := rfl

theorem leaveWatch_eq (exit : Nat) (note : State → State) : ∃ b, b = note (exitShown s exit) ∧
    leaveWatch s exit note = enterBoot (resetEffects (b.setPow { b.pow with resume := true }) 6 (if exit = 1 then 0x0A else 0x0B)) := by
  unfold leaveWatch exitShown
  exact ⟨_, rfl, rfl⟩

/-- BOOT entered after WATCH reports it, and changes nothing else. -/
theorem enterBoot_watch (h : s.pow.resume = true) : lastEvent (enterBoot s) 0x02 0x1602 ∧ OnlyRegs s (enterBoot s) [0x00010, 0x02010] ∧
    (enterBoot s).dev.lastTrans = s.dev.lastTrans := by
  have hreg : (bootAgain s).regs = s.regs := rfl
  have hdev : (bootAgain s).dev.lastTrans = s.dev.lastTrans := rfl
  have hpow : (bootAgain s).pow.resume = true := h
  rw [enterBoot_eq]
  generalize bootAgain s = e at *
  obtain ⟨hlast, hereg, hedev⟩ := aonReports_watch (s := e) hpow
  exact ⟨hlast, fun r hr => (hereg r hr).trans (State.reg_congr hreg r), (congrArg Device.lastTrans hedev).trans hdev⟩

/-- BOOT after an exit: what the reset and the entry leave. -/
theorem exit_leaves {lt : Nat} (h : s.pow.resume = true) : (enterBoot (resetEffects s 6 lt)).devState = 1 ∧
    (enterBoot (resetEffects s 6 lt)).fld F.NVC_RESET_SRC_LAST = 6 ∧ (enterBoot (resetEffects s 6 lt)).dev.lastTrans = lt ∧
    lastEvent (enterBoot (resetEffects s 6 lt)) 0x02 0x1602 ∧
    (∀ r, r / 0x1000 = 2 ∨ r / 0x1000 = 3 → r ≠ 0x02010 → (enterBoot (resetEffects s 6 lt)).reg r = s.reg r) := by
  have hwoken := woken_of (s := s) lt
  generalize resetEffects s 6 lt = d at *
  obtain ⟨hlast, hreg, hdev⟩ := enterBoot_watch (hwoken.resume.trans h)
  generalize enterBoot d = e at *
  exact ⟨(hreg.fld (f := F.SYS_STATUS_DEV_STATE) (by decide)).trans hwoken.state, (hreg.fld (by decide)).trans hwoken.code, hdev.trans hwoken.dev, hlast,
    fun r hr hne => (hreg r (by simp only [List.mem_cons, List.not_mem_nil, or_false]; omega)).trans (hwoken.aon r hr)⟩

theorem leaveWatch_spec (exit : Nat) {note : State → State} (hn : ∀ v, Touches [.pow] [] v (note v)) : WatchLeft s (leaveWatch s exit note) exit := by
  obtain ⟨b, hb, hform⟩ := leaveWatch_eq (s := s) exit note
  obtain ⟨hexit, hareg⟩ := exitShown_spec (s := s) exit
  generalize exitShown s exit = a at *
  have hnote : Touches [.pow] [] a b := by
    rw [hb]
    exact hn a
  have hcreg : ∀ r, (b.setPow { b.pow with resume := true }).reg r = a.reg r := fun r => hnote.reg r (by simp)
  obtain ⟨hstate, hcode, htrans, hlast, hreg⟩ := exit_leaves (s := b.setPow { b.pow with resume := true }) (lt := if exit = 1 then 0x0A else 0x0B) rfl
  generalize b.setPow { b.pow with resume := true } = c at *
  rw [hform]
  generalize enterBoot (resetEffects c 6 (if exit = 1 then 0x0A else 0x0B)) = f at *
  refine ⟨hstate, hcode, ?_, htrans, hlast, fun r hr hne => ?_⟩
  · exact (State.fld_congr ((hreg _ (by decide) (by decide)).trans (hcreg _))).trans hexit
  · simp only [List.mem_cons, List.not_mem_nil, or_false, not_or] at hne
    rw [hreg r hr hne.2.2, hcreg, hareg r (by simp [hne.1, hne.2.1])]

end

end Sys2Proof.Machine
end

section
/-!
PROOFS. Mains power lost and restored, and the wake-up receiver (22_power_clocks_and_emc.md, Mains loss and hold-up; The wake-up receiver).
-/
namespace Sys2Proof.Machine

-- One proof after another: side by side, the threads of so long a text want more memory than the check grants.
set_option Elab.async false

section
variable {s t u : State}

/-! ### MAINS_OK falls (R687) -/

theorem inWatch_decide : (!s.dev.inReset && decide (s.devState = 5)) = inWatch s := by rw [inWatch, beq_eq_decide]

theorem inWatch_of (hd : t.dev = s.dev) (hs : t.devState = s.devState) : inWatch t = inWatch s := by rw [inWatch, inWatch, hd, hs]

theorem inWatch_answers (h : s.answers = true) : inWatch s = false := by
  simp only [State.answers, Bool.and_eq_true, Bool.not_eq_true', bne_iff_ne] at h
  obtain ⟨⟨-, h5⟩, -⟩ := h
  rw [inWatch, beq_eq_false_iff_ne.mpr h5, Bool.and_false]

theorem inWatch_state (h : inWatch s = true) : s.devState = 5 ∧ s.dev.inReset = false := by
  simp only [inWatch, Bool.and_eq_true, Bool.not_eq_true', beq_iff_eq] at h
  exact ⟨h.2, h.1⟩

theorem mainsFall_watch (hm : s.flag F.AON_STATUS_MAINS_OK = true) (hw : inWatch s = true) : ∃ t, exec .mainsOkFall s = .next t ∧
    t.flag F.AON_STATUS_MAINS_OK = false ∧ t.pow = { s.pow with wasLow := true } ∧ OnlyRegs s t [A.AON_STATUS] := by
  have hreg := onlyRegs_setFld s F.AON_STATUS_MAINS_OK 0
  have hoff : (s.setFld F.AON_STATUS_MAINS_OK 0).flag F.AON_STATUS_MAINS_OK = false := State.flag_setFld_zero _ (by decide)
  have hin : inWatch (s.setFld F.AON_STATUS_MAINS_OK 0) = true := (inWatch_of (State.setFld_dev _ _ _) (hreg.fld (f := F.SYS_STATUS_DEV_STATE) (by decide))).trans hw
  have hpow : (s.setFld F.AON_STATUS_MAINS_OK 0).pow = s.pow := State.setFld_pow _ _ _
  have hform : mainsFall s = (s.setFld F.AON_STATUS_MAINS_OK 0).setPow { s.pow with wasLow := true } := by
    unfold mainsFall
    simp only [inWatch_decide, hin, if_true, hpow]
  exact ⟨_, (congrArg Host.Outcome.next (if_pos hm)).trans (congrArg Host.Outcome.next hform), hoff, rfl, hreg⟩

/-- The edge noted, and the level shown. -/
def fallNoted (s : State) : State :=
  let s := s.setFld F.AON_STATUS_MAINS_OK 0
  s.setPow { s.pow with edge := s.now, edgeGen := s.fld F.DTM_STATUS_STEP_GEN, lowAt := s.pow.aonCycles }

theorem fallNoted_spec : (fallNoted s).pow = { s.pow with edge := s.now, edgeGen := s.fld F.DTM_STATUS_STEP_GEN, lowAt := s.pow.aonCycles } ∧
    (fallNoted s).flag F.AON_STATUS_MAINS_OK = false ∧ OnlyRegs s (fallNoted s) [A.AON_STATUS] ∧ (fallNoted s).dev = s.dev := by
  unfold fallNoted
  simp only
  have hreg := onlyRegs_setFld s F.AON_STATUS_MAINS_OK 0
  have hoff : (s.setFld F.AON_STATUS_MAINS_OK 0).flag F.AON_STATUS_MAINS_OK = false := State.flag_setFld_zero _ (by decide)
  have hparts : (s.setFld F.AON_STATUS_MAINS_OK 0).pow = s.pow ∧ (s.setFld F.AON_STATUS_MAINS_OK 0).now = s.now ∧
    (s.setFld F.AON_STATUS_MAINS_OK 0).dev = s.dev := ⟨State.setFld_pow _ _ _, State.setFld_now _ _ _, State.setFld_dev _ _ _⟩
  have hgen : (s.setFld F.AON_STATUS_MAINS_OK 0).fld F.DTM_STATUS_STEP_GEN = s.fld F.DTM_STATUS_STEP_GEN := hreg.fld (by decide)
  rw [hgen]
  generalize s.setFld F.AON_STATUS_MAINS_OK 0 = a at *
  obtain ⟨hpow, hnow, hdev⟩ := hparts
  exact ⟨by rw [← hpow, ← hnow]; rfl, hoff, fun r hr => hreg r hr, hdev⟩

theorem mainsFall_grace (hm : s.flag F.AON_STATUS_MAINS_OK = true) (ha : s.answers = true) (hc : watchCommitted s = false) (hh : holdUp s = false)
    (hg : s.fld F.AON_MAINS_CFG_GRACE_MS ≠ 0) : ∃ t, exec .mainsOkFall s = .next t ∧
      t.flag F.AON_STATUS_MAINS_OK = false ∧ t.flag F.SYS_STATUS_MAINS_OK = false ∧ t.flag F.AON_STATUS_GRACE = true ∧ causeSet t 0x00 1 = true ∧
      t.pow = { s.pow with edge := s.now, edgeGen := s.fld F.DTM_STATUS_STEP_GEN, lowAt := s.pow.aonCycles } ∧ t.devState = s.devState := by
  obtain ⟨hpow, hoff, hreg, hdev⟩ := fallNoted_spec (s := s)
  have hform : mainsFall s = if holdUp (setCause ((fallNoted s).setFld F.SYS_STATUS_MAINS_OK 0) 0x00 1) then
      setCause ((fallNoted s).setFld F.SYS_STATUS_MAINS_OK 0) 0x00 1
      else if (setCause ((fallNoted s).setFld F.SYS_STATUS_MAINS_OK 0) 0x00 1).fld F.AON_MAINS_CFG_GRACE_MS = 0 then
        mainsGone (setCause ((fallNoted s).setFld F.SYS_STATUS_MAINS_OK 0) 0x00 1)
      else (setCause ((fallNoted s).setFld F.SYS_STATUS_MAINS_OK 0) 0x00 1).setFld F.AON_STATUS_GRACE 1 := by
    have hin : inWatch (s.setFld F.AON_STATUS_MAINS_OK 0) = false :=
      (inWatch_of (State.setFld_dev _ _ _) ((onlyRegs_setFld s F.AON_STATUS_MAINS_OK 0).fld (f := F.SYS_STATUS_DEV_STATE) (by decide))).trans (inWatch_answers ha)
    have hcom : watchCommitted (s.setFld F.AON_STATUS_MAINS_OK 0) = false := by rw [watchCommitted, State.setFld_pow]; exact hc
    have hans : (fallNoted s).answers = true := by
      rw [State.answers, hdev, show (fallNoted s).devState = s.devState from hreg.fld (f := F.SYS_STATUS_DEV_STATE) (by decide), hpow]
      exact ha
    unfold mainsFall
    unfold fallNoted at hans ⊢
    simp only at hans
    simp only [inWatch_decide, hin, hcom, hans, Bool.false_eq_true, if_false, if_true]
  have hexec : exec .mainsOkFall s = .next (mainsFall s) := congrArg Host.Outcome.next (if_pos hm)
  rw [hexec, hform]
  clear hexec hform
  generalize fallNoted s = a at *
  have hsys : (a.setFld F.SYS_STATUS_MAINS_OK 0).flag F.SYS_STATUS_MAINS_OK = false := State.flag_setFld_zero _ (by decide)
  have hbreg := onlyRegs_setFld a F.SYS_STATUS_MAINS_OK 0
  have hbpow : (a.setFld F.SYS_STATUS_MAINS_OK 0).pow = a.pow := State.setFld_pow _ _ _
  have hbst : ∀ f : Fld, f.addr = A.SYS_STATUS → f.lsb + f.width ≤ F.SYS_STATUS_MAINS_OK.lsb ∨ F.SYS_STATUS_MAINS_OK.lsb + 1 ≤ f.lsb →
      (a.setFld F.SYS_STATUS_MAINS_OK 0).fld f = a.fld f := fun f hf hl =>
    State.fld_setFld_apart a F.SYS_STATUS_MAINS_OK f 0 (by decide) (Or.inr hl)
  generalize a.setFld F.SYS_STATUS_MAINS_OK 0 = b at *
  have hcreg := onlyRegs_setCause b 0x00 1
  have hcause : causeSet (setCause b 0x00 1) 0x00 1 = true := by rw [causeSet_setCause _ _ _ _ (by decide), beq_self_eq_true, Bool.or_true]
  have hcpow : (setCause b 0x00 1).pow = b.pow := setCause_pow _ _ _
  generalize setCause b 0x00 1 = c at *
  have hstatus : ∀ f : Fld, f.addr = A.SYS_STATUS → f.lsb + f.width ≤ F.SYS_STATUS_MAINS_OK.lsb ∨ F.SYS_STATUS_MAINS_OK.lsb + 1 ≤ f.lsb →
      c.fld f = s.fld f := fun f hf hl =>
    (hcreg.fld (by rw [hf]; decide)).trans ((hbst f hf hl).trans (hreg.fld (by rw [hf]; decide)))
  have hhc : holdUp c = false := by
    have : c.fld F.SYS_STATUS_PWR_MODE = s.fld F.SYS_STATUS_PWR_MODE := hstatus _ rfl (by decide)
    rw [holdUp, this]
    exact hh
  have hgc : c.fld F.AON_MAINS_CFG_GRACE_MS ≠ 0 := by
    rw [hcreg.fld (by decide), hbreg.fld (by decide), hreg.fld (by decide)]
    exact hg
  rw [hhc, if_neg Bool.false_ne_true, if_neg hgc]
  have hdreg := onlyRegs_setFld c F.AON_STATUS_GRACE 1
  refine ⟨_, rfl, ?_, (hdreg.flag (by decide)).trans ((hcreg.flag (by decide)).trans hsys), State.flag_setFld_one _ rfl (by decide), ?_, ?_, ?_⟩
  · rw [State.flag_setFld_apart c (f := F.AON_STATUS_GRACE) (g := F.AON_STATUS_MAINS_OK) 1 (by decide) (by decide), hcreg.flag (by decide), hbreg.flag (by decide), hoff]
  · exact (congrArg (fun w : Word => bit w.toNat 1) (hdreg 0x00010 (by decide))).trans hcause
  · rw [State.setFld_pow, hcpow, hbpow, hpow]
  · exact (hdreg.fld (f := F.SYS_STATUS_DEV_STATE) (by decide)).trans (hstatus F.SYS_STATUS_DEV_STATE rfl (by decide))

/-! ### MAINS_OK returns (R687) -/

/-- The level shown as it returns. -/
def riseShown (s : State) : State :=
  if !s.dev.inReset && s.devState = 5 then s.setFld F.AON_STATUS_MAINS_OK 1
  else (s.setFld F.AON_STATUS_MAINS_OK 1).setFld F.SYS_STATUS_MAINS_OK 1

/-- The glitch counted and noted. -/
def glitchNoted (s : State) : State := watchNote ((s.setFld F.AON_STATUS_GRACE 0).count F.AON_MAINS_GLITCHES_COUNT 1) 6 0 0 0

theorem mainsRise_eq : ∃ low, mainsRise s = if (riseShown s).flag F.AON_STATUS_GRACE then
    (if (glitchNoted (riseShown s)).answers then mainsLost (glitchNoted (riseShown s)) 2 low else glitchNoted (riseShown s)) else riseShown s := by
  have hin : (!(s.setFld F.AON_STATUS_MAINS_OK 1).dev.inReset && decide ((s.setFld F.AON_STATUS_MAINS_OK 1).devState = 5)) =
      (!s.dev.inReset && decide (s.devState = 5)) := by
    rw [inWatch_decide, inWatch_decide]
    exact inWatch_of (State.setFld_dev _ _ _) ((onlyRegs_setFld s F.AON_STATUS_MAINS_OK 1).fld (f := F.SYS_STATUS_DEV_STATE) (by decide))
  unfold mainsRise riseShown
  simp only [hin]
  exact ⟨_, rfl⟩

theorem riseShown_spec : (riseShown s).flag F.AON_STATUS_MAINS_OK = true ∧ (inWatch s = false → (riseShown s).flag F.SYS_STATUS_MAINS_OK = true) ∧
    (riseShown s).flag F.AON_STATUS_GRACE = s.flag F.AON_STATUS_GRACE ∧ (riseShown s).devState = s.devState ∧
    OnlyRegs s (riseShown s) [A.AON_STATUS, A.SYS_STATUS] ∧ Touches [.regs] [0x00, 0x02] s (riseShown s) := by
  have hon : (s.setFld F.AON_STATUS_MAINS_OK 1).flag F.AON_STATUS_MAINS_OK = true := State.flag_setFld_one _ rfl (by decide)
  have hgrace : (s.setFld F.AON_STATUS_MAINS_OK 1).flag F.AON_STATUS_GRACE = s.flag F.AON_STATUS_GRACE :=
    State.flag_setFld_apart s 1 (by decide) (by decide)
  have hreg := onlyRegs_setFld s F.AON_STATUS_MAINS_OK 1
  have htouch : Touches [.regs] [0x00, 0x02] s (s.setFld F.AON_STATUS_MAINS_OK 1) := (touches_setFld F.AON_STATUS_MAINS_OK 1).mono
  unfold riseShown
  rw [inWatch_decide]
  generalize s.setFld F.AON_STATUS_MAINS_OK 1 = a at *
  split
  · rename_i hw
    exact ⟨hon, fun h => absurd hw (by rw [h]; decide), hgrace, hreg.fld (f := F.SYS_STATUS_DEV_STATE) (by decide), hreg.mono (by decide), htouch⟩
  · have hreg' := onlyRegs_setFld a F.SYS_STATUS_MAINS_OK 1
    refine ⟨(hreg'.flag (by decide)).trans hon, fun _ => State.flag_setFld_one _ rfl (by decide), (hreg'.flag (by decide)).trans hgrace, ?_,
      (hreg.trans hreg').mono (by decide), htouch.then (touches_setFld F.SYS_STATUS_MAINS_OK 1)⟩
    exact (State.fld_setFld_apart a F.SYS_STATUS_MAINS_OK F.SYS_STATUS_DEV_STATE 1 (by decide) (by decide)).trans (hreg.fld (f := F.SYS_STATUS_DEV_STATE) (by decide))

theorem mainsRise_quiet (hm : s.flag F.AON_STATUS_MAINS_OK = false) (hg : s.flag F.AON_STATUS_GRACE = false) : ∃ t, exec .mainsOkRise s = .next t ∧
    t.flag F.AON_STATUS_MAINS_OK = true ∧ (inWatch s = false → t.flag F.SYS_STATUS_MAINS_OK = true) ∧ t.pow = s.pow ∧ OnlyRegs s t [A.AON_STATUS, A.SYS_STATUS] := by
  obtain ⟨low, heq⟩ := mainsRise_eq (s := s)
  obtain ⟨hon, hsys, hgrace, -, hreg, htouch⟩ := riseShown_spec (s := s)
  rw [hgrace, hg, if_neg Bool.false_ne_true] at heq
  exact ⟨_, (congrArg Host.Outcome.next (if_neg (by rw [hm]; decide))).trans (congrArg Host.Outcome.next heq), hon, hsys, htouch.part .pow (by decide), hreg⟩

theorem mainsRise_glitch (hm : s.flag F.AON_STATUS_MAINS_OK = false) (hg : s.flag F.AON_STATUS_GRACE = true) (ha : s.answers = true) :
    ∃ t, exec .mainsOkRise s = .next t ∧ t.flag F.AON_STATUS_MAINS_OK = true ∧ t.flag F.AON_STATUS_GRACE = false ∧
      t.fld F.AON_MAINS_GLITCHES_COUNT = satAdd 32 (s.fld F.AON_MAINS_GLITCHES_COUNT) 1 ∧ lastEvent t 0x00 0x1601 ∧ t.pow.noteSeq = s.pow.noteSeq + 1 := by
  obtain ⟨low, heq⟩ := mainsRise_eq (s := s)
  obtain ⟨hon, -, hgrace, hstate, hreg, htouch⟩ := riseShown_spec (s := s)
  rw [hgrace, hg, if_pos rfl] at heq
  rw [show exec .mainsOkRise s = .next (mainsRise s) from congrArg Host.Outcome.next (if_neg (by rw [hm]; decide)), heq]
  clear heq
  generalize riseShown s = a at *
  have hoff : (a.setFld F.AON_STATUS_GRACE 0).flag F.AON_STATUS_GRACE = false := State.flag_setFld_zero _ (by decide)
  have hon' : (a.setFld F.AON_STATUS_GRACE 0).flag F.AON_STATUS_MAINS_OK = true := (State.flag_setFld_apart a 0 (by decide) (by decide)).trans hon
  have hb := onlyRegs_setFld a F.AON_STATUS_GRACE 0
  have htb : Touches [.regs] [0x00, 0x02] s (a.setFld F.AON_STATUS_GRACE 0) := htouch.then (touches_setFld F.AON_STATUS_GRACE 0)
  unfold glitchNoted
  generalize a.setFld F.AON_STATUS_GRACE 0 = b at *
  have hcount := State.fld_count_self b F.AON_MAINS_GLITCHES_COUNT 1 (by decide)
  have hc := onlyRegs_count b F.AON_MAINS_GLITCHES_COUNT 1
  have htc : Touches [.regs] [0x00, 0x02] s (b.count F.AON_MAINS_GLITCHES_COUNT 1) := htb.then (touches_count F.AON_MAINS_GLITCHES_COUNT 1)
  generalize b.count F.AON_MAINS_GLITCHES_COUNT 1 = c at *
  have hnote := touches_watchNote (s := c) 6 0 0 0 (gs := [])
  have hseq : (watchNote c 6 0 0 0).pow.noteSeq = c.pow.noteSeq + 1 ∧ (watchNote c 6 0 0 0).pow.stopped = c.pow.stopped := ⟨rfl, rfl⟩
  generalize watchNote c 6 0 0 0 = d at *
  have hfld : ∀ f : Fld, d.fld f = c.fld f := fun f => hnote.fld (by simp)
  have hcpow : c.pow = s.pow := htc.part .pow (by decide)
  have hcdev : c.dev = s.dev := htc.part .dev (by decide)
  have hans : d.answers = true := by
    have hdev : d.devState = s.devState := (hfld F.SYS_STATUS_DEV_STATE).trans
      ((hc.fld (f := F.SYS_STATUS_DEV_STATE) (by decide)).trans ((hb.fld (f := F.SYS_STATUS_DEV_STATE) (by decide)).trans hstate))
    rw [State.answers, hdev, hseq.2, hcpow, show d.dev = c.dev from hnote.part .dev (by decide), hcdev]
    exact ha
  rw [hans, if_pos rfl]
  have hend : ∀ f : Fld, (mainsLost d 2 low).fld f = c.fld f := fun f => ((touches_mainsLost 2 low (gs := [])).fld (by simp)).trans (hfld f)
  have hendf : ∀ f : Fld, (mainsLost d 2 low).flag f = c.flag f := fun f => by rw [State.flag, hend, State.flag]
  refine ⟨_, rfl, ?_, ?_, ?_, lastEvent_event _ _ _ _ _, ?_⟩
  · rw [hendf, hc.flag (by decide), hon']
  · rw [hendf, hc.flag (by decide), hoff]
  · rw [hend, hcount, hb.fld (by decide), hreg.fld (by decide)]
  · rw [show (mainsLost d 2 low).pow = d.pow from (touches_mainsLost 2 low (gs := [])).part .pow (by decide), hseq.1, hcpow]

/-! ### The grace expires (R687, R688) -/

theorem holdUpEntered_spec : (holdUpEntered s).fld F.SYS_STATUS_PWR_MODE = 2 ∧ (holdUpEntered s).devState = s.devState ∧
    (holdUpEntered s).fld F.AON_HOLDUPS_COUNT = satAdd 32 (s.fld F.AON_HOLDUPS_COUNT) 1 ∧
    causeSet (holdUpEntered s) 0x00 0 = true ∧ causeSet (holdUpEntered s) 0x00 2 = true ∧
    (holdUpEntered s).pow.entry.map (fun e => (e.cause, e.committed)) = some (1, false) ∧
    OnlyRegs s (holdUpEntered s) [A.SYS_STATUS, 0x00010, A.AON_HOLDUPS] := by
  unfold holdUpEntered
  simp only
  have hmode : (s.setFld F.SYS_STATUS_PWR_MODE 2).fld F.SYS_STATUS_PWR_MODE = 2 := State.fld_setFld_self s F.SYS_STATUS_PWR_MODE 2 (by decide)
  have hstate : (s.setFld F.SYS_STATUS_PWR_MODE 2).devState = s.devState :=
    State.fld_setFld_apart s F.SYS_STATUS_PWR_MODE F.SYS_STATUS_DEV_STATE 2 (by decide) (by decide)
  have ha := onlyRegs_setFld s F.SYS_STATUS_PWR_MODE 2
  generalize s.setFld F.SYS_STATUS_PWR_MODE 2 = a at *
  generalize hd : leBytes 1 (s.fld F.SYS_STATUS_PWR_MODE) ++ leBytes 1 2 = data
  have hb : OnlyRegs a (setCause (a.event 0x00 0 0x1600 1 data) 0x00 0) [0x00010] := fun r hr => onlyRegs_setCause _ 0x00 0 r hr
  have hcause : causeSet (setCause (a.event 0x00 0 0x1600 1 data) 0x00 0) 0x00 0 = true :=
    (causeSet_setCause _ 0x00 0 0 (by decide)).trans (Bool.or_true _)
  generalize setCause (a.event 0x00 0 0x1600 1 data) 0x00 0 = b at *
  have hcount := State.fld_count_self b F.AON_HOLDUPS_COUNT 1 (by decide)
  have hc := onlyRegs_count b F.AON_HOLDUPS_COUNT 1
  generalize b.count F.AON_HOLDUPS_COUNT 1 = c at *
  have hlost : ∀ r, (mainsLost c 1 0).reg r = c.reg r := fun r => (touches_mainsLost 1 0 (gs := [])).reg r (by simp)
  generalize mainsLost c 1 0 = d at *
  have he := onlyRegs_setCause d 0x00 2
  have hcause2 : causeSet (setCause d 0x00 2) 0x00 2 = true := by rw [causeSet_setCause _ _ _ _ (by decide), beq_self_eq_true, Bool.or_true]
  have hcause0 : causeSet (setCause d 0x00 2) 0x00 0 = (causeSet d 0x00 0 || false) := causeSet_setCause _ _ _ _ (by decide)
  generalize setCause d 0x00 2 = e at *
  have hfld : ∀ f : Fld, f.addr ≠ 0x00010 → f.addr ≠ A.AON_HOLDUPS → e.fld f = a.fld f := fun f h1 h2 =>
    (he.fld (by simpa using h1)).trans ((State.fld_congr (hlost _)).trans ((hc.fld (by simpa using h2)).trans (hb.fld (by simpa using h1))))
  have hset : ∀ p, ((e.setPow p).fld = e.fld) ∧ (e.setPow p).reg = e.reg := fun _ => ⟨rfl, rfl⟩
  refine ⟨(hfld _ (by decide) (by decide)).trans hmode, (hfld F.SYS_STATUS_DEV_STATE (by decide) (by decide)).trans hstate, ?_, ?_, hcause2, rfl, ?_⟩
  · show e.fld F.AON_HOLDUPS_COUNT = _
    rw [he.fld (by decide), State.fld_congr (hlost _), hcount, hb.fld (by decide), ha.fld (by decide)]
  · refine hcause0.trans ?_
    rw [Bool.or_false]
    exact (congrArg (fun w : Word => bit w.toNat 0) ((hlost 0x00010).trans (hc _ (by decide)))).trans hcause
  · have hall := ((ha.trans hb).trans hc)
    intro r hr
    simp only [List.mem_cons, List.not_mem_nil, or_false, not_or] at hr
    show e.reg r = s.reg r
    rw [he r (by simpa using hr.2.1), hlost, hall r (by simp [hr.1, hr.2.1, hr.2.2])]

/-- The last-gasp frames begin: the mode, the counts and the entry stay. -/
theorem lgBegin_spec : (lgBegin s).pow.entry = s.pow.entry ∧ (∀ c < 32, causeSet s 0x00 c = true → causeSet (lgBegin s) 0x00 c = true) ∧
    ∀ f : Fld, f.addr / 0x1000 = 0x00 ∨ f.addr / 0x1000 = 0x02 → f.addr ≠ 0x00010 → (lgBegin s).fld f = s.fld f := by
  have hwake : Touches [.regs, .ports] [0x24, 0x25] s ((lgPairs s).foldl (fun (t : State) d => leaveLpi t d.1) s) :=
    Touches.foldl (fun t d hd => touches_leaveLpi (lgPairs_port hd)) s
  unfold lgBegin
  simp only
  generalize (lgPairs s).foldl (fun (t : State) d => leaveLpi t d.1) s = a at *
  have hpow : a.pow.entry = s.pow.entry := congrArg Power.entry (hwake.part .pow (by decide))
  have hreg : ∀ r, r / 0x1000 = 0x00 ∨ r / 0x1000 = 0x02 → a.reg r = s.reg r := fun r hr =>
    hwake.reg r (by simp only [List.mem_cons, List.not_mem_nil, or_false]; omega)
  generalize hp : ({ a.pow with lgDue := lgPairs s, lgSent := 0, lgDropped := 0, lgOpen := true } : Power) = p
  have hentry : p.entry = s.pow.entry := by rw [← hp]; exact hpow
  have hb : ∀ r, (a.setPow p).reg r = a.reg r := fun _ => rfl
  have hbpow : (a.setPow p).pow = p := rfl
  generalize a.setPow p = b at *
  have hcause : ∀ c, causeSet b 0x00 c = causeSet s 0x00 c := fun c =>
    congrArg (fun w : Word => bit w.toNat c) ((hb 0x00010).trans (hreg _ (Or.inl (by decide))))
  have hsame : ∀ f : Fld, f.addr / 0x1000 = 0x00 ∨ f.addr / 0x1000 = 0x02 → b.fld f = s.fld f := fun f hf =>
    State.fld_congr ((hb _).trans (hreg _ hf))
  unfold lgSettle
  split
  · generalize leBytes 1 b.pow.lgSent ++ leBytes 1 b.pow.lgDropped = data
    have hset : OnlyRegs b (setCause ((b.event 0x00 0 0x1604 2 data).setPow { (b.event 0x00 0 0x1604 2 data).pow with lgOpen := false }) 0x00 4) [0x00010] :=
      fun r hr => onlyRegs_setCause _ 0x00 4 r hr
    refine ⟨?_, fun c hc h => ?_, fun f hf hne => (hset.fld (by simpa using hne)).trans (hsame f hf)⟩
    · exact (congrArg Power.entry (setCause_pow _ _ _)).trans ((congrArg Power.entry hbpow).trans hentry)
    · refine (causeSet_setCause _ 0x00 4 c hc).trans ?_
      rw [show causeSet ((b.event 0x00 0 0x1604 2 data).setPow _) 0x00 c = causeSet b 0x00 c from rfl, hcause, h, Bool.true_or]
  · exact ⟨(congrArg Power.entry hbpow).trans hentry, fun c _ h => (hcause c).trans h, fun f hf _ => hsame f hf⟩

theorem startHoldUp_spec : (startHoldUp s).fld F.SYS_STATUS_PWR_MODE = 2 ∧ (startHoldUp s).devState = s.devState ∧
    (startHoldUp s).fld F.AON_HOLDUPS_COUNT = satAdd 32 (s.fld F.AON_HOLDUPS_COUNT) 1 ∧
    causeSet (startHoldUp s) 0x00 0 = true ∧ causeSet (startHoldUp s) 0x00 2 = true ∧
    (startHoldUp s).pow.entry.map (fun e => (e.cause, e.committed)) = some (1, false) ∧
    (startHoldUp s).flag F.AON_STATUS_GRACE = s.flag F.AON_STATUS_GRACE := by
  obtain ⟨hmode, hstate, hcount, hcause0, hcause2, hentry, hreg⟩ := holdUpEntered_spec (s := s)
  rw [startHoldUp_eq]
  generalize holdUpEntered s = a at *
  have hstop := touches_lanesStop (s := a)
  generalize [1, 2, 3].foldl laneOff ((List.range 4).foldl laneQuiet a) = b at *
  obtain ⟨hlentry, hlcause, hlfld⟩ := lgBegin_spec (s := b)
  have hfld : ∀ f : Fld, f.addr / 0x1000 = 0x00 ∨ f.addr / 0x1000 = 0x02 → f.addr ≠ 0x00010 → (lgBegin b).fld f = a.fld f := fun f hf hne =>
    (hlfld f hf hne).trans (hstop.fld (by rcases hf with hf | hf <;> rw [hf] <;> decide))
  have hcauses : ∀ c, causeSet b 0x00 c = causeSet a 0x00 c := fun c => congrArg (fun w : Word => bit w.toNat c) (hstop.reg 0x00010 (by decide))
  refine ⟨(hfld _ (by decide) (by decide)).trans hmode, (hfld F.SYS_STATUS_DEV_STATE (by decide) (by decide)).trans hstate,
    (hfld _ (by decide) (by decide)).trans hcount, hlcause 0 (by decide) ((hcauses 0).trans hcause0), hlcause 2 (by decide) ((hcauses 2).trans hcause2), ?_, ?_⟩
  · rw [hlentry, show b.pow = a.pow from hstop.part .pow (by decide), hentry]
  · rw [State.flag, hfld _ (by decide) (by decide), ← State.flag, hreg.flag (by decide)]

theorem graceOver_spec : (s.setFld F.AON_STATUS_GRACE 0).flag F.AON_STATUS_GRACE = false ∧
    OnlyRegs s (s.setFld F.AON_STATUS_GRACE 0) [A.AON_STATUS] ∧ Touches [.regs] [0x02] s (s.setFld F.AON_STATUS_GRACE 0) :=
  ⟨State.flag_setFld_zero _ (by decide), onlyRegs_setFld s F.AON_STATUS_GRACE 0, touches_setFld F.AON_STATUS_GRACE 0⟩

theorem graceExpiry_holdUp (hg : s.flag F.AON_STATUS_GRACE = true) (hr : s.ready = true) (hh : holdUp s = false) : ∃ t, exec .mainsGraceExpiry s = .next t ∧
    t.flag F.AON_STATUS_GRACE = false ∧ t.fld F.SYS_STATUS_PWR_MODE = 2 ∧
    t.fld F.AON_HOLDUPS_COUNT = satAdd 32 (s.fld F.AON_HOLDUPS_COUNT) 1 ∧ causeSet t 0x00 0 = true ∧ causeSet t 0x00 2 = true ∧
    t.pow.entry.map (fun e => (e.cause, e.committed)) = some (1, false) ∧ t.devState = 2 := by
  obtain ⟨hoff, hreg, htouch⟩ := graceOver_spec (s := s)
  have hexec : exec .mainsGraceExpiry s = .next (mainsGone (s.setFld F.AON_STATUS_GRACE 0)) := congrArg Host.Outcome.next (if_pos hg)
  rw [hexec]
  clear hexec
  generalize s.setFld F.AON_STATUS_GRACE 0 = a at *
  have hready : a.ready = true := (State.ready_of_touches htouch).trans hr
  have hhold : holdUp a = false := by
    have : a.fld F.SYS_STATUS_PWR_MODE = s.fld F.SYS_STATUS_PWR_MODE := hreg.fld (by decide)
    rw [holdUp, this]
    exact hh
  have hform : mainsGone a = startHoldUp a := by rw [mainsGone, hready, hhold, if_pos rfl, if_neg Bool.false_ne_true]
  obtain ⟨hmode, hstate, hcount, hcause0, hcause2, hentry, hgrace⟩ := startHoldUp_spec (s := a)
  rw [hform]
  refine ⟨_, rfl, hgrace.trans hoff, hmode, hcount.trans (by rw [hreg.fld (by decide)]), hcause0, hcause2, hentry, hstate.trans ?_⟩
  simp only [State.ready, Bool.and_eq_true, beq_iff_eq] at hready
  exact hready.2

theorem graceExpiry_maintenance (hg : s.flag F.AON_STATUS_GRACE = true) (ha : s.answers = true) (hd : s.devState = 3) : ∃ t, exec .mainsGraceExpiry s = .next t ∧
    t.flag F.AON_STATUS_GRACE = false ∧ lastEvent t 0x00 0x1601 ∧ t.pow = s.pow ∧ OnlyRegs s t [A.AON_STATUS] := by
  obtain ⟨hoff, hreg, htouch⟩ := graceOver_spec (s := s)
  have hexec : exec .mainsGraceExpiry s = .next (mainsGone (s.setFld F.AON_STATUS_GRACE 0)) := congrArg Host.Outcome.next (if_pos hg)
  rw [hexec]
  clear hexec
  generalize s.setFld F.AON_STATUS_GRACE 0 = a at *
  have hstate : a.devState = 3 := (hreg.fld (f := F.SYS_STATUS_DEV_STATE) (by decide)).trans hd
  have hans : a.answers = true := by
    rw [State.answers, hstate, ← hd, show a.dev = s.dev from htouch.part .dev (by decide), show a.pow = s.pow from htouch.part .pow (by decide)]
    exact ha
  have hform : mainsGone a = mainsLost a 3 0 := by
    rw [mainsGone, State.ready, hans, hstate]
    rfl
  have hlost := touches_mainsLost (s := a) 3 0 (gs := [])
  rw [hform]
  exact ⟨_, rfl, (hlost.flag (by simp)).trans hoff, lastEvent_event _ _ _ _ _, (hlost.part .pow (by decide)).trans (htouch.part .pow (by decide)),
    fun r hr => (hlost.reg r (by simp)).trans (hreg r hr)⟩

/-! ### WATCH is left on MAINS_OK (R693) -/

theorem aonTick_spec (n : Nat) : (aonTick s n).fld F.AON_TIME_SECONDS = (s.pow.aonCycles + n) / 250000000 % 2 ^ 32 ∧
    (aonTick s n).pow = { s.pow with aonCycles := s.pow.aonCycles + n } ∧ OnlyRegs s (aonTick s n) [A.AON_TIME] ∧ (aonTick s n).dev = s.dev := by
  refine ⟨State.fld_setFld_self (s.setPow { s.pow with aonCycles := s.pow.aonCycles + n }) F.AON_TIME_SECONDS _ (by decide), ?_,
    fun a ha => onlyRegs_setFld (s.setPow { s.pow with aonCycles := s.pow.aonCycles + n }) F.AON_TIME_SECONDS _ a ha, ?_⟩
  · exact State.setFld_pow (s.setPow { s.pow with aonCycles := s.pow.aonCycles + n }) F.AON_TIME_SECONDS _
  · exact State.setFld_dev (s.setPow { s.pow with aonCycles := s.pow.aonCycles + n }) F.AON_TIME_SECONDS _

theorem mainsRestore_spec (elapsed : Nat) (hw : inWatch s = true) (hm : s.flag F.AON_STATUS_MAINS_OK = true) (hc : s.pow.watchCause = 1 ∨ s.pow.wasLow = true) :
    ∃ t, exec (.mainsRestoreExpiry elapsed) s = .next t ∧ t.devState = 1 ∧ t.fld F.NVC_RESET_SRC_LAST = 6 ∧ t.fld F.AON_WATCH_INFO_EXIT = 1 ∧
      t.fld F.AON_TIME_SECONDS = (s.pow.aonCycles + 250000000 * elapsed) / 250000000 % 2 ^ 32 ∧ t.dev.lastTrans = 0x0A ∧ lastEvent t 0x02 0x1602 := by
  have hcond : (inWatch s && s.flag F.AON_STATUS_MAINS_OK && (decide (s.pow.watchCause = 1) || s.pow.wasLow)) = true := by
    rw [hw, hm]
    rcases hc with h | h <;> simp [h]
  obtain ⟨htime, -, -, -⟩ := aonTick_spec (s := s) (250000000 * elapsed)
  have hexec : exec (.mainsRestoreExpiry elapsed) s = .next (leaveWatch (aonTick s (250000000 * elapsed)) 1 (fun s => watchNote s 3 0 0 0)) :=
    congrArg Host.Outcome.next (if_pos hcond)
  have h := leaveWatch_spec (s := aonTick s (250000000 * elapsed)) 1 (note := fun s => watchNote s 3 0 0 0) (fun v => touches_watchNote 3 0 0 0)
  exact ⟨_, hexec, h.state, h.code, h.shown, (State.fld_congr (h.reg _ (by decide) (by decide))).trans htime, h.trans, h.event⟩

/-! ### The wake-up receiver (R694–R697) -/

/-- A matching telegram shown. -/
def matchShown (s : State) (addr cmd rssi : Nat) : State :=
  (((s.count F.WUR_MATCHES_COUNT 1).setFld F.WUR_LAST_CMD cmd).setFld F.WUR_LAST_RSSI rssi).setFld F.WUR_LAST_ADDR_ADDR addr

theorem matchShown_spec (addr : Word) (cmd rssi : Byte) :
    (matchShown s addr.toNat cmd.toNat rssi.toNat).fld F.WUR_MATCHES_COUNT = satAdd 32 (s.fld F.WUR_MATCHES_COUNT) 1 ∧
    (matchShown s addr.toNat cmd.toNat rssi.toNat).fld F.WUR_LAST_CMD = cmd.toNat ∧ (matchShown s addr.toNat cmd.toNat rssi.toNat).fld F.WUR_LAST_RSSI = rssi.toNat ∧
    (matchShown s addr.toNat cmd.toNat rssi.toNat).reg A.WUR_LAST_ADDR = addr ∧
    OnlyRegs s (matchShown s addr.toNat cmd.toNat rssi.toNat) [A.WUR_MATCHES, A.WUR_LAST, A.WUR_LAST_ADDR] ∧
    Touches [.regs] [0x03] s (matchShown s addr.toNat cmd.toNat rssi.toNat) := by
  unfold matchShown
  have hcount := State.fld_count_self s F.WUR_MATCHES_COUNT 1 (by decide)
  have ha := onlyRegs_count s F.WUR_MATCHES_COUNT 1
  have hta : Touches [.regs] [0x03] s (s.count F.WUR_MATCHES_COUNT 1) := touches_count F.WUR_MATCHES_COUNT 1
  generalize s.count F.WUR_MATCHES_COUNT 1 = a at *
  have hcmd : (a.setFld F.WUR_LAST_CMD cmd.toNat).fld F.WUR_LAST_CMD = cmd.toNat :=
    (State.fld_setFld_self a F.WUR_LAST_CMD cmd.toNat (by decide)).trans (Nat.mod_eq_of_lt cmd.isLt)
  have hb := onlyRegs_setFld a F.WUR_LAST_CMD cmd.toNat
  have htb : Touches [.regs] [0x03] s (a.setFld F.WUR_LAST_CMD cmd.toNat) := hta.then (touches_setFld F.WUR_LAST_CMD cmd.toNat)
  generalize a.setFld F.WUR_LAST_CMD cmd.toNat = b at *
  have hcmd' : (b.setFld F.WUR_LAST_RSSI rssi.toNat).fld F.WUR_LAST_CMD = cmd.toNat := (State.fld_setFld_apart b F.WUR_LAST_RSSI F.WUR_LAST_CMD _ (by decide) (by decide)).trans hcmd
  have hrssi : (b.setFld F.WUR_LAST_RSSI rssi.toNat).fld F.WUR_LAST_RSSI = rssi.toNat :=
    (State.fld_setFld_self b F.WUR_LAST_RSSI rssi.toNat (by decide)).trans (Nat.mod_eq_of_lt rssi.isLt)
  have hc := onlyRegs_setFld b F.WUR_LAST_RSSI rssi.toNat
  have htc : Touches [.regs] [0x03] s (b.setFld F.WUR_LAST_RSSI rssi.toNat) := htb.then (touches_setFld F.WUR_LAST_RSSI rssi.toNat)
  generalize b.setFld F.WUR_LAST_RSSI rssi.toNat = c at *
  have hd := onlyRegs_setFld c F.WUR_LAST_ADDR_ADDR addr.toNat
  have haddr : bitsOf addr.toNat 0 32 = addr.toNat := by
    rw [bitsOf, pow_zero, Nat.div_one]
    exact Nat.mod_eq_of_lt addr.isLt
  have hlast : c.setFld F.WUR_LAST_ADDR_ADDR addr.toNat = c.setReg A.WUR_LAST_ADDR addr := by
    rw [← setFld_whole (a := A.WUR_LAST_ADDR), haddr]
  refine ⟨((hc.trans hd).fld (by decide)).trans ((hb.fld (by decide)).trans hcount), (hd.fld (by decide)).trans hcmd', (hd.fld (by decide)).trans hrssi, ?_,
    (((ha.trans hb).trans hc).trans hd).mono (by decide), htc.then (touches_setFld F.WUR_LAST_ADDR_ADDR addr.toNat)⟩
  rw [hlast, State.reg_setReg_self]

theorem wurMatches_of (h : OnlyRegs s t [A.WUR_TELEGRAMS]) (addr cmd : Nat) : wurMatches t addr cmd = wurMatches s addr cmd := by
  rw [wurMatches, wurMatches, h.fld (by decide), h.fld (by decide), h.fld (by decide), h.fld (by decide)]

theorem wurReceive_telegram (hl : wurListens s = true) (addr cmd rssi : Nat) : wurReceive s true true addr cmd rssi =
    if wurMatches s addr cmd then wurMatch (s.count F.WUR_TELEGRAMS_COUNT 1) addr cmd rssi else s.count F.WUR_TELEGRAMS_COUNT 1 := by
  have hm := wurMatches_of (onlyRegs_count s F.WUR_TELEGRAMS_COUNT 1) addr cmd
  unfold wurReceive
  simp only [hl, Bool.not_true, Bool.false_eq_true, if_false, Bool.true_and]
  rw [hm]

theorem wurCommand_spec (addr : Word) (cmd rssi : Byte) (elapsed : Nat) (hw : inWatch s = false) (hl : wurListens s = true) :
    (∃ t, exec (.wurTelegramRx true false addr cmd rssi elapsed) s = .next t ∧
      t.fld F.WUR_CRC_ERRORS_COUNT = satAdd 32 (s.fld F.WUR_CRC_ERRORS_COUNT) 1 ∧ OnlyRegs s t [A.WUR_CRC_ERRORS] ∧ t = { s with regs := t.regs }) ∧
    (wurMatches s addr.toNat cmd.toNat = false → ∃ t, exec (.wurTelegramRx true true addr cmd rssi elapsed) s = .next t ∧
      t.fld F.WUR_TELEGRAMS_COUNT = satAdd 32 (s.fld F.WUR_TELEGRAMS_COUNT) 1 ∧ OnlyRegs s t [A.WUR_TELEGRAMS] ∧ t = { s with regs := t.regs }) ∧
    (wurMatches s addr.toNat cmd.toNat = true → ∃ t, exec (.wurTelegramRx true true addr cmd rssi elapsed) s = .next t ∧
      t.fld F.WUR_MATCHES_COUNT = satAdd 32 (s.fld F.WUR_MATCHES_COUNT) 1 ∧ t.fld F.WUR_LAST_CMD = cmd.toNat ∧ t.fld F.WUR_LAST_RSSI = rssi.toNat ∧
      t.reg A.WUR_LAST_ADDR = addr ∧ causeSet t 0x03 0 = true ∧ t.pow = s.pow) := by
  have hexec : ∀ crc, exec (.wurTelegramRx true crc addr cmd rssi elapsed) s = .next (wurReceive s true crc addr.toNat cmd.toNat rssi.toNat) := fun crc => by
    refine congrArg Host.Outcome.next ?_
    rw [hw, if_neg Bool.false_ne_true]
  refine ⟨⟨s.count F.WUR_CRC_ERRORS_COUNT 1, (hexec false).trans (congrArg Host.Outcome.next ?_), State.fld_count_self _ _ _ (by decide), onlyRegs_count s _ _,
    (touches_count F.WUR_CRC_ERRORS_COUNT 1).eq⟩, fun hm => ?_, fun hm => ?_⟩
  · unfold wurReceive
    simp only [hl, Bool.not_true, Bool.not_false, Bool.false_eq_true, if_false, if_true]
  · refine ⟨s.count F.WUR_TELEGRAMS_COUNT 1, (hexec true).trans (congrArg Host.Outcome.next ?_), State.fld_count_self _ _ _ (by decide), onlyRegs_count s _ _,
      (touches_count F.WUR_TELEGRAMS_COUNT 1).eq⟩
    rw [wurReceive_telegram hl, hm, if_neg Bool.false_ne_true]
  · have hform : wurReceive s true true addr.toNat cmd.toNat rssi.toNat = wurMatch (s.count F.WUR_TELEGRAMS_COUNT 1) addr.toNat cmd.toNat rssi.toNat := by
      rw [wurReceive_telegram hl, hm, if_pos rfl]
    rw [hexec, hform]
    clear hform hexec
    have ha := onlyRegs_count s F.WUR_TELEGRAMS_COUNT 1
    have hta : Touches [.regs] [0x03] s (s.count F.WUR_TELEGRAMS_COUNT 1) := touches_count F.WUR_TELEGRAMS_COUNT 1
    generalize s.count F.WUR_TELEGRAMS_COUNT 1 = a at *
    obtain ⟨hcount, hcmd, hrssi, haddr, hbreg, htb⟩ := matchShown_spec (s := a) addr cmd rssi
    have hwatch : inWatch (matchShown a addr.toNat cmd.toNat rssi.toNat) = false := by
      rw [inWatch_of (htb.part .dev (by decide)) (htb.fld (f := F.SYS_STATUS_DEV_STATE) (by decide)),
        inWatch_of (hta.part .dev (by decide)) (hta.fld (f := F.SYS_STATUS_DEV_STATE) (by decide)), hw]
    have hform : wurMatch a addr.toNat cmd.toNat rssi.toNat = setCause (matchShown a addr.toNat cmd.toNat rssi.toNat) 0x03 0 := by
      unfold wurMatch
      unfold matchShown at hwatch ⊢
      simp only [hwatch, Bool.not_false, if_true]
    rw [hform]
    clear hform
    generalize matchShown a addr.toNat cmd.toNat rssi.toNat = b at *
    have hc := onlyRegs_setCause b 0x03 0
    refine ⟨_, rfl, ?_, (hc.fld (by decide)).trans hcmd, (hc.fld (by decide)).trans hrssi, (hc _ (by decide)).trans haddr, ?_, ?_⟩
    · rw [hc.fld (by decide), hcount, ha.fld (by decide)]
    · rw [causeSet_setCause _ _ _ _ (by decide), beq_self_eq_true, Bool.or_true]
    · rw [setCause_pow, show b.pow = a.pow from htb.part .pow (by decide), show a.pow = s.pow from hta.part .pow (by decide)]

/-- A wake that comes too early is counted and noted. -/
def wakeIgnored (s : State) (addr cmd rssi : Nat) : State :=
  (watchNote (s.count F.AON_WAKES_IGNORED_COUNT 1) 5 addr cmd rssi).setPow
    { (watchNote (s.count F.AON_WAKES_IGNORED_COUNT 1) 5 addr cmd rssi).pow with
      ignored := (watchNote (s.count F.AON_WAKES_IGNORED_COUNT 1) 5 addr cmd rssi).pow.ignored + 1 }

theorem wurMatch_watch {addr cmd rssi : Nat} (h : inWatch (matchShown s addr cmd rssi) = true) : wurMatch s addr cmd rssi =
    if (decide ((matchShown s addr cmd rssi).pow.watchAt + (matchShown s addr cmd rssi).fld F.AON_WATCH_CFG_MIN_SLEEP_S ≤
        (matchShown s addr cmd rssi).fld F.AON_TIME_SECONDS) &&
        ((matchShown s addr cmd rssi).flag F.AON_STATUS_MAINS_OK || (matchShown s addr cmd rssi).flag F.AON_WATCH_CFG_BATT_WAKE)) = true then
      leaveWatch (setCause (matchShown s addr cmd rssi) 0x03 1) 2 (fun s => watchNote s 4 addr cmd rssi)
    else wakeIgnored (matchShown s addr cmd rssi) addr cmd rssi := by
  unfold wurMatch wakeIgnored
  unfold matchShown at h ⊢
  simp only [h, Bool.not_true, Bool.false_eq_true, if_false]

theorem wurWatch_spec (addr : Word) (cmd rssi : Byte) (elapsed : Nat) (hu : u = aonTick s (250000000 * elapsed)) (hw : inWatch s = true)
    (hl : wurListens u = true) (hm : wurMatches u addr.toNat cmd.toNat = true) :
    (s.pow.watchAt + s.fld F.AON_WATCH_CFG_MIN_SLEEP_S ≤ u.fld F.AON_TIME_SECONDS →
      s.flag F.AON_STATUS_MAINS_OK = true ∨ s.flag F.AON_WATCH_CFG_BATT_WAKE = true →
      ∃ t, exec (.wurTelegramRx true true addr cmd rssi elapsed) s = .next t ∧ t.devState = 1 ∧ t.fld F.AON_WATCH_INFO_EXIT = 2 ∧
        t.dev.lastTrans = 0x0B ∧ t.reg A.WUR_LAST_ADDR = addr ∧ causeSet t 0x03 1 = true) ∧
    (u.fld F.AON_TIME_SECONDS < s.pow.watchAt + s.fld F.AON_WATCH_CFG_MIN_SLEEP_S →
      ∃ t, exec (.wurTelegramRx true true addr cmd rssi elapsed) s = .next t ∧ t.devState = 5 ∧
        t.fld F.AON_WAKES_IGNORED_COUNT = satAdd 32 (s.fld F.AON_WAKES_IGNORED_COUNT) 1 ∧ t.pow.ignored = s.pow.ignored + 1) := by
  have hexec : exec (.wurTelegramRx true true addr cmd rssi elapsed) s = .next (wurMatch (u.count F.WUR_TELEGRAMS_COUNT 1) addr.toNat cmd.toNat rssi.toNat) := by
    refine congrArg Host.Outcome.next ?_
    rw [hw, if_pos rfl, ← hu, wurReceive_telegram hl, hm, if_pos rfl]
  rw [hexec]
  clear hexec hm hl
  obtain ⟨-, hpow, hureg, hudev⟩ := aonTick_spec (s := s) (250000000 * elapsed)
  rw [← hu] at hpow hureg hudev
  clear hu
  have ha := onlyRegs_count u F.WUR_TELEGRAMS_COUNT 1
  have hta : Touches [.regs] [0x03] u (u.count F.WUR_TELEGRAMS_COUNT 1) := touches_count F.WUR_TELEGRAMS_COUNT 1
  generalize u.count F.WUR_TELEGRAMS_COUNT 1 = a at *
  obtain ⟨-, -, -, haddr, hbreg, htb⟩ := matchShown_spec (s := a) addr cmd rssi
  have hwatch : inWatch (matchShown a addr.toNat cmd.toNat rssi.toNat) = true := by
    rw [inWatch_of (htb.part .dev (by decide)) (htb.fld (f := F.SYS_STATUS_DEV_STATE) (by decide)),
      inWatch_of (hta.part .dev (by decide)) (hta.fld (f := F.SYS_STATUS_DEV_STATE) (by decide)),
      inWatch_of hudev (hureg.fld (f := F.SYS_STATUS_DEV_STATE) (by decide)), hw]
  rw [wurMatch_watch hwatch]
  generalize matchShown a addr.toNat cmd.toNat rssi.toNat = b at *
  have hbpow : b.pow = { s.pow with aonCycles := s.pow.aonCycles + 250000000 * elapsed } :=
    (htb.part .pow (by decide)).trans ((hta.part .pow (by decide)).trans hpow)
  have hau : ∀ f : Fld, f.addr / 0x1000 = 2 → b.fld f = u.fld f := fun f hf => (htb.fld (by rw [hf]; decide)).trans (hta.fld (by rw [hf]; decide))
  have hus : ∀ f : Fld, f.addr / 0x1000 = 2 → f.addr ≠ A.AON_TIME → b.fld f = s.fld f := fun f hf hn => (hau f hf).trans (hureg.fld (by simpa using hn))
  have hat : b.pow.watchAt = s.pow.watchAt := by rw [hbpow]
  have hmains : b.flag F.AON_STATUS_MAINS_OK = s.flag F.AON_STATUS_MAINS_OK := by rw [State.flag, hus _ (by decide) (by decide), State.flag]
  have hbatt : b.flag F.AON_WATCH_CFG_BATT_WAKE = s.flag F.AON_WATCH_CFG_BATT_WAKE := by rw [State.flag, hus _ (by decide) (by decide), State.flag]
  have hcond : (decide (b.pow.watchAt + b.fld F.AON_WATCH_CFG_MIN_SLEEP_S ≤ b.fld F.AON_TIME_SECONDS) &&
      (b.flag F.AON_STATUS_MAINS_OK || b.flag F.AON_WATCH_CFG_BATT_WAKE)) =
      (decide (s.pow.watchAt + s.fld F.AON_WATCH_CFG_MIN_SLEEP_S ≤ u.fld F.AON_TIME_SECONDS) &&
      (s.flag F.AON_STATUS_MAINS_OK || s.flag F.AON_WATCH_CFG_BATT_WAKE)) := by
    rw [hat, hus F.AON_WATCH_CFG_MIN_SLEEP_S (by decide) (by decide), hau F.AON_TIME_SECONDS (by decide), hmains, hbatt]
  rw [hcond]
  refine ⟨fun hsleep hpower => ?_, fun hsleep => ?_⟩
  · have htrue : (decide (s.pow.watchAt + s.fld F.AON_WATCH_CFG_MIN_SLEEP_S ≤ u.fld F.AON_TIME_SECONDS) &&
        (s.flag F.AON_STATUS_MAINS_OK || s.flag F.AON_WATCH_CFG_BATT_WAKE)) = true := by
      rw [decide_eq_true hsleep, Bool.true_and, Bool.or_eq_true]
      exact hpower
    rw [if_pos htrue]
    have hc := onlyRegs_setCause b 0x03 1
    have hcause : causeSet (setCause b 0x03 1) 0x03 1 = true := by rw [causeSet_setCause _ _ _ _ (by decide), beq_self_eq_true, Bool.or_true]
    generalize setCause b 0x03 1 = c at *
    have h := leaveWatch_spec (s := c) 2 (note := fun s => watchNote s 4 addr.toNat cmd.toNat rssi.toNat) (fun v => touches_watchNote 4 _ _ _)
    exact ⟨_, rfl, h.state, h.shown, h.trans, (h.reg _ (by decide) (by decide)).trans ((hc _ (by decide)).trans haddr),
      (congrArg (fun w : Word => bit w.toNat 1) (h.reg 0x03010 (by decide) (by decide))).trans hcause⟩
  · have hfalse : (decide (s.pow.watchAt + s.fld F.AON_WATCH_CFG_MIN_SLEEP_S ≤ u.fld F.AON_TIME_SECONDS) &&
        (s.flag F.AON_STATUS_MAINS_OK || s.flag F.AON_WATCH_CFG_BATT_WAKE)) = false := by
      rw [decide_eq_false (by omega), Bool.false_and]
    rw [hfalse, if_neg Bool.false_ne_true]
    have hstate : b.devState = 5 := by
      rw [State.devState, htb.fld (by decide), hta.fld (by decide), hureg.fld (by decide)]
      exact (inWatch_state hw).1
    have hold : b.fld F.AON_WAKES_IGNORED_COUNT = s.fld F.AON_WAKES_IGNORED_COUNT := hus _ (by decide) (by decide)
    have hignored : b.pow.ignored = s.pow.ignored := by rw [hbpow]
    have hcount := State.fld_count_self b F.AON_WAKES_IGNORED_COUNT 1 (by decide)
    have hc := onlyRegs_count b F.AON_WAKES_IGNORED_COUNT 1
    have hcpow : (b.count F.AON_WAKES_IGNORED_COUNT 1).pow = b.pow := State.count_pow _ _ _
    unfold wakeIgnored
    generalize b.count F.AON_WAKES_IGNORED_COUNT 1 = c at *
    exact ⟨_, rfl, (hc.fld (f := F.SYS_STATUS_DEV_STATE) (by decide)).trans hstate, hcount.trans (by rw [hold]),
      (congrArg (fun p : Power => p.ignored + 1) hcpow).trans (by rw [hignored])⟩

end

end Sys2Proof.Machine
end

section
/-!
PROOFS. Power requests, the last-gasp window, the shadows of AON, and the clock monitors (22_power_clocks_and_emc.md).
-/
namespace Sys2Proof.Machine

-- One proof after another: side by side, the threads of so long a text want more memory than the check grants.
set_option Elab.async false

section
variable {s t u : State}

/-! ### The power mode asked for, and the last-gasp window (R684, R685, R689) -/

theorem sysCtrlWrite_spec (hs : s.inOperation = true) (src : Requester) (data : Word) :
    (holdUp s = false → ∃ t, exec (.pwrReqWrite src data) s = .next t ∧ t.flag F.SYS_CTRL_PWR_REQ = bit data.toNat 0 ∧ OnlyRegs s t [A.SYS_CTRL] ∧
      t = { s with regs := t.regs }) ∧
    (holdUp s = true → exec (.pwrReqWrite src data) s = .next s) := by
  have hexec : exec (.pwrReqWrite src data) s = .next (sysCtrlWrite s src data allBits) :=
    congrArg Host.Outcome.next (gateWrite_inOperation hs (by decide +kernel) src _)
  refine ⟨fun hh => ?_, fun hh => hexec.trans (congrArg Host.Outcome.next (if_pos hh))⟩
  have hfield : writeFields s src A.SYS_CTRL data allBits = s.setFld F.SYS_CTRL_PWR_REQ (bitsOf data.toNat 0 1) :=
    writeFields_oneField (ty := .rw) (lock := 32) rfl rfl (Or.inl rfl) (by decide) (by decide) rfl rfl
  have hself := State.fld_setFld_self s F.SYS_CTRL_PWR_REQ (bitsOf data.toNat 0 1) (by decide)
  refine ⟨_, hexec.trans (congrArg Host.Outcome.next ((if_neg (by rw [hh]; decide)).trans hfield)), ?_, onlyRegs_setFld _ _ _, rfl⟩
  rw [State.flag, hself, bit_eq_bitsOf, Nat.mod_eq_of_lt (bitsOf_lt _ 0 1)]

theorem lgDataWrite_spec (hs : s.inOperation = true) (src : Requester) (data : Word) (h : s.flag F.SYS_LOCK_LOCK1 = false) :
    ∃ t, exec (.lgDataWrite src data) s = .next t ∧
      (∀ k, Tbl.get (fun _ => 0#32) t.pow.lgWords k = if k = 64 * s.fld F.SYS_LG_SEL_FRAME + s.fld F.SYS_LG_SEL_WORD then data
        else Tbl.get (fun _ => 0#32) s.pow.lgWords k) ∧
      t.fld F.SYS_LG_SEL_WORD = (s.fld F.SYS_LG_SEL_WORD + 1) % 64 ∧ t.fld F.SYS_LG_SEL_FRAME = s.fld F.SYS_LG_SEL_FRAME ∧ OnlyRegs s t [A.SYS_LG_SEL] := by
  refine ⟨_, congrArg Host.Outcome.next ((gateWrite_inOperation hs (by decide +kernel) src _).trans (if_neg (by rw [h]; decide))), fun k => ?_, ?_, ?_, ?_⟩
  · rw [State.setFld_pow]
    exact Tbl.get_put _ _ _ _ _
  · exact (State.fld_setFld_self _ F.SYS_LG_SEL_WORD _ (by decide)).trans (Nat.mod_eq_of_lt (Nat.mod_lt _ (by decide)))
  · exact State.fld_setFld_apart _ F.SYS_LG_SEL_WORD F.SYS_LG_SEL_FRAME _ (by decide) (by decide)
  · exact onlyRegs_setFld _ F.SYS_LG_SEL_WORD _

/-! ### AON behind its shadows (R15, R708) -/

theorem aonShadow_get (a : Nat) : aonShadow s a = Tbl.get (fun _ => s.reg a) s.pow.shadow a := by
  have hfind : ∀ (l : Tbl Word) (d : Word), (match l.find? (fun e => e.1 == a) with | some e => e.2 | none => d) = Tbl.get (fun _ => d) l a := fun l d => by
    induction l with
    | nil => rfl
    | cons e l ih => cases h : e.1 == a <;> simp_all [Tbl.get]
  exact hfind _ _

theorem aonShadowWrite_room (hs : s.inOperation = true) {src : Requester} {addr : RegAddr} (data : Word)
    (hp : wordAddr addr / 0x1000 = 2 ∨ wordAddr addr / 0x1000 = 3) (hi : implemented (wordAddr addr) = true) (hsrc : src ≠ .selet)
    (hroom : s.pow.aonQueue.length < 8) : ∃ t, exec (.aonShadowWrite src addr data) s = .next t ∧
      t.pow.aonQueue = s.pow.aonQueue ++ [{ src := src, addr := wordAddr addr, via := wordAddr addr, data := data, mask := allBits }] ∧
      OnlyRegs s t [] ∧ t = { s with pow := t.pow } ∧ (∀ b, b ≠ wordAddr addr → aonShadow t b = aonShadow s b) := by
  have hpage : (decide (wordAddr addr / 0x1000 = 2) || decide (wordAddr addr / 0x1000 = 3)) = true := by simpa using hp
  refine ⟨_, congrArg Host.Outcome.next ((if_pos hpage).trans ((gateWrite_inOperation hs hi src _).trans
    ((if_neg hsrc).trans (if_neg (by omega))))), rfl, fun _ _ => rfl, rfl, fun b hb => ?_⟩
  rw [aonShadow_get b, aonShadow_get (s := s) b]
  exact (Tbl.get_ins_ne _ _ _ hb).trans (Tbl.get_erase_ne _ _ hb)

theorem aonShadowWrite_full (hs : s.inOperation = true) {src : Requester} {addr : RegAddr} (data : Word)
    (hp : wordAddr addr / 0x1000 = 2 ∨ wordAddr addr / 0x1000 = 3) (hi : implemented (wordAddr addr) = true) (hsrc : src ≠ .selet)
    (hfull : 8 ≤ s.pow.aonQueue.length) : ∃ t, exec (.aonShadowWrite src addr data) s = .next t ∧ t.pow = s.pow ∧ causeSet t 0x02 31 = true ∧
      errCaptured s t 0x02 0x80 src.code (wordAddr addr) ∧ OnlyRegs s t [0x02010, 0x0201C, 0x02020] := by
  have hpage : (decide (wordAddr addr / 0x1000 = 2) || decide (wordAddr addr / 0x1000 = 3)) = true := by simpa using hp
  refine ⟨_, congrArg Host.Outcome.next ((if_pos hpage).trans ((gateWrite_inOperation hs hi src _).trans
    ((if_neg hsrc).trans (if_pos hfull)))), recordErr_pow _ _ _ _ _, causeSet_recordErr _ _ _ _ _,
    errCaptured_recordErr s 0x02 (wordAddr addr) (by decide) (requester_code_lt src), onlyRegs_recordErr _ _ _ _ _⟩

/-- The oldest write taken off the queue, its shadow with it where no later write of the word waits. -/
def aonTaken (s : State) (w : AonWrite) (rest : List AonWrite) : State :=
  s.setPow { s.pow with aonQueue := rest, shadow := if rest.any (fun v => v.addr == w.addr) then s.pow.shadow else Tbl.erase w.addr s.pow.shadow }

theorem aliasError_spec (src : Requester) (reg a : Nat) : OnlyRegs t (aliasError s t src reg a) [reg / 0x1000 * 0x1000 + 0x01C + 4] ∧
    (aliasError s t src reg a).pow = t.pow := by
  unfold aliasError
  simp only
  split
  · exact ⟨onlyRegs_setReg t _ _, rfl⟩
  · exact ⟨fun _ _ => rfl, rfl⟩

/-- Where no error was captured, an alias has none to name. -/
theorem aliasError_none (src : Requester) (reg a : Nat) (h : t.reg (reg / 0x1000 * 0x1000 + 0x01C) = s.reg (reg / 0x1000 * 0x1000 + 0x01C)) :
    aliasError s t src reg a = t := by
  unfold aliasError
  simp only [h, Bool.not_and_self, Bool.false_and, Bool.false_eq_true, if_false]

/-- `AON.WATCH_CFG`: three fields under LOCK1. -/
theorem watchCfg_spec : specOf A.AON_WATCH_CFG = some ⟨0x030, 1, 4, 3932160, [⟨0, 1, .lk, 1⟩, ⟨1, 1, .lk, 1⟩, ⟨16, 16, .lk, 1⟩]⟩ := rfl

theorem watchCfg_locked (l k : Nat) : fieldLocked s A.AON_WATCH_CFG ⟨l, k, .lk, 1⟩ = s.flag F.AON_LOCK_LOCK1 :=
  (State.flag_eq_bit (f := F.AON_LOCK_LOCK1) rfl).symm

theorem writeFields_watchCfg (src : Requester) (data : Word) (h : s.flag F.AON_LOCK_LOCK1 = false) :
    writeFields s src A.AON_WATCH_CFG data allBits = s.setReg A.AON_WATCH_CFG
      (insBits (insBits (insBits (s.reg A.AON_WATCH_CFG) 0 1 (bitsOf data.toNat 0 1)) 1 1 (bitsOf data.toNat 1 1)) 16 16 (bitsOf data.toNat 16 16)) := by
  refine (writeFields_of_foldl s src _ data allBits watchCfg_spec (reserved := false) ?_).trans rfl
  simp only [List.foldl_cons, List.foldl_nil]
  rw [applyField_open _ (Or.inr rfl) (by decide) (by decide) ((watchCfg_locked 0 1).trans h) rfl,
    applyField_open _ (Or.inr rfl) (by decide) (by decide) ((watchCfg_locked 1 1).trans h) rfl,
    applyField_open _ (Or.inr rfl) (by decide) (by decide) ((watchCfg_locked 16 16).trans h) rfl]

/-- A write to a field that is locked stores nothing. -/
theorem applyField_locked {a page off : Nat} {data : Word} (acc : WriteAcc) {l k lock : Nat} (h0 : 0 < k) (hw : l + k ≤ 32)
    (h : fieldLocked s a ⟨l, k, .lk, lock⟩ = true) : applyField s a page off data allBits acc ⟨l, k, .lk, lock⟩ = { acc with locked := true } := by
  have hm : 2 ^ k - 1 ≠ 0 := Nat.sub_ne_zero_of_lt (Nat.one_lt_two_pow h0.ne')
  simp only [applyField, bitsOf_allBits _ _ hw, if_neg hm, h, if_true]

/-- A whole write that meets a locked field and stores nothing records the violation alone. -/
theorem writeFields_of_locked (src : Requester) {a : Nat} {data : Word} {r : RegSpec} (hr : specOf a = some r)
    (hacc : r.fields.foldl (applyField s a (basePage (a / 0x1000)) r.off data allBits)
      { word := s.reg a, locked := false, reserved := false, badAlias := false, go := [] } =
      { word := s.reg a, locked := true, reserved := false, badAlias := false, go := [] }) :
    writeFields s src a data allBits = recordErr (s.setReg a (s.reg a)) (a / 0x1000) 0x01 src.code a := by
  have hw : (s.reg a &&& ~~~(0#32)) ||| (s.reg a &&& 0#32) = s.reg a := by
    rw [BitVec.and_zero, BitVec.or_zero]
    exact BitVec.and_allOnes
  simp only [writeFields, hr, hacc, List.foldl_nil, hw, Bool.false_eq_true, if_false, if_true]

theorem writeFields_watchCfg_locked (src : Requester) (data : Word) (h : s.flag F.AON_LOCK_LOCK1 = true) :
    writeFields s src A.AON_WATCH_CFG data allBits = recordErr (s.setReg A.AON_WATCH_CFG (s.reg A.AON_WATCH_CFG)) 0x02 0x01 src.code A.AON_WATCH_CFG := by
  refine writeFields_of_locked src watchCfg_spec ?_
  simp only [List.foldl_cons, List.foldl_nil]
  rw [applyField_locked _ (by decide) (by decide) ((watchCfg_locked 0 1).trans h), applyField_locked _ (by decide) (by decide) ((watchCfg_locked 1 1).trans h),
    applyField_locked _ (by decide) (by decide) ((watchCfg_locked 16 16).trans h)]

theorem aonApply_spec {w : AonWrite} {rest : List AonWrite} (ha : s.answers = true) (hq : s.pow.aonQueue = w :: rest) (hw : w.addr = A.AON_WATCH_CFG)
    (hm : w.mask = allBits) : ∃ t, exec .aonWriteApply s = .next t ∧ t.pow.aonQueue = rest ∧
      (s.flag F.AON_LOCK_LOCK1 = false → t.flag F.AON_WATCH_CFG_WUR_HOLDUP = bit w.data.toNat 0 ∧ t.flag F.AON_WATCH_CFG_BATT_WAKE = bit w.data.toNat 1 ∧
        t.fld F.AON_WATCH_CFG_MIN_SLEEP_S = bitsOf w.data.toNat 16 16 ∧ OnlyRegs s t [A.AON_WATCH_CFG]) ∧
      (s.flag F.AON_LOCK_LOCK1 = true → t.reg A.AON_WATCH_CFG = s.reg A.AON_WATCH_CFG ∧ causeSet t 0x02 31 = true) ∧
      (rest.any (fun v => v.addr == w.addr) = false → s.pow.shadow.map (fun e => e.1) = [A.AON_WATCH_CFG] → t.pow.shadow = []) := by
  have hform : aonApply s = aliasError (aonTaken s w rest) (writeFields (aonTaken s w rest) w.src A.AON_WATCH_CFG w.data allBits) w.src w.addr w.via := by
    have hplain : ∀ v : State, plainWrite v w.src w.addr w.data w.mask = writeFields v w.src A.AON_WATCH_CFG w.data allBits := fun v => by
      rw [hw, hm]
      rfl
    unfold aonApply
    simp only [hq, hplain]
    rfl
  rw [show exec .aonWriteApply s = .next (aonApply s) from congrArg Host.Outcome.next (if_pos ha), hform]
  clear hform
  have hqueue : (aonTaken s w rest).pow.aonQueue = rest := rfl
  have hregs : (aonTaken s w rest).regs = s.regs := rfl
  have hshadow : rest.any (fun v => v.addr == w.addr) = false → s.pow.shadow.map (fun e => e.1) = [A.AON_WATCH_CFG] → (aonTaken s w rest).pow.shadow = [] := by
    intro hr hsh
    obtain ⟨e, l, he, h1, h2⟩ := List.map_eq_cons_iff.mp hsh
    have hl : l = [] := List.map_eq_nil_iff.mp h2
    unfold aonTaken
    rw [hr, if_neg Bool.false_ne_true, hw, he, hl]
    obtain ⟨k, v⟩ := e
    change (Tbl.erase A.AON_WATCH_CFG [(k, v)]) = []
    change k = _ at h1
    simp [Tbl.erase, h1]
  generalize aonTaken s w rest = b at *
  have hlock : b.flag F.AON_LOCK_LOCK1 = s.flag F.AON_LOCK_LOCK1 := State.flag_of_regs hregs _
  have hpow : ∀ c : State, c.pow = b.pow → c.pow.aonQueue = rest ∧
      (rest.any (fun v => v.addr == w.addr) = false → s.pow.shadow.map (fun e => e.1) = [A.AON_WATCH_CFG] → c.pow.shadow = []) := fun c hc => by
    rw [hc]
    exact ⟨hqueue, hshadow⟩
  cases hl : s.flag F.AON_LOCK_LOCK1 with
  | false =>
    rw [writeFields_watchCfg w.src w.data (hlock.trans hl)]
    generalize hv : insBits (insBits (insBits (b.reg A.AON_WATCH_CFG) 0 1 (bitsOf w.data.toNat 0 1)) 1 1 (bitsOf w.data.toNat 1 1)) 16 16
      (bitsOf w.data.toNat 16 16) = v
    have hset := State.reg_setReg_self b A.AON_WATCH_CFG v
    have hreg := onlyRegs_setReg b A.AON_WATCH_CFG v
    have hbpow : (b.setReg A.AON_WATCH_CFG v).pow = b.pow := rfl
    rw [aliasError_none w.src w.addr w.via (hreg _ (by rw [hw]; decide))]
    generalize b.setReg A.AON_WATCH_CFG v = c at *
    obtain ⟨hcq, hcs⟩ := hpow c hbpow
    refine ⟨c, rfl, hcq, fun _ => ⟨?_, ?_, ?_, fun r hr => (hreg r hr).trans (State.reg_congr hregs r)⟩, (nomatch ·), hcs⟩
    · rw [State.flag_eq_bit rfl, hset, ← hv, bit_eq_bitsOf, bitsOf_insBits_apart _ _ _ _ _ _ (by decide) (by decide),
        bitsOf_insBits_apart _ _ _ _ _ _ (by decide) (by decide), bitsOf_insBits _ _ _ _ (by decide), Nat.mod_eq_of_lt (bitsOf_lt _ 0 1), bit_eq_bitsOf]
    · rw [State.flag_eq_bit rfl, hset, ← hv, bit_eq_bitsOf, bitsOf_insBits_apart _ _ _ _ _ _ (by decide) (by decide),
        bitsOf_insBits _ _ _ _ (by decide), Nat.mod_eq_of_lt (bitsOf_lt _ 1 1), bit_eq_bitsOf]
    · rw [State.fld, hset, ← hv, bitsOf_insBits _ _ _ _ (by decide), Nat.mod_eq_of_lt (bitsOf_lt _ 16 16)]
  | true =>
    rw [writeFields_watchCfg_locked w.src w.data (hlock.trans hl)]
    have hset : (b.setReg A.AON_WATCH_CFG (b.reg A.AON_WATCH_CFG)).reg A.AON_WATCH_CFG = b.reg A.AON_WATCH_CFG := State.reg_setReg_self _ _ _
    have hcpow : (b.setReg A.AON_WATCH_CFG (b.reg A.AON_WATCH_CFG)).pow = b.pow := rfl
    generalize b.setReg A.AON_WATCH_CFG (b.reg A.AON_WATCH_CFG) = c at *
    have hreg := onlyRegs_recordErr c 0x02 0x01 w.src.code A.AON_WATCH_CFG
    have hcause := causeSet_recordErr c 0x02 0x01 w.src.code A.AON_WATCH_CFG
    have hdpow : (recordErr c 0x02 0x01 w.src.code A.AON_WATCH_CFG).pow = c.pow := recordErr_pow _ _ _ _ _
    generalize recordErr c 0x02 0x01 w.src.code A.AON_WATCH_CFG = d at *
    obtain ⟨hareg, hapow⟩ := aliasError_spec (s := b) (t := d) w.src w.addr w.via
    generalize aliasError b d w.src w.addr w.via = e at *
    obtain ⟨heq, hes⟩ := hpow e (hapow.trans (hdpow.trans hcpow))
    rw [hw] at hareg
    refine ⟨e, rfl, heq, (nomatch ·), fun _ => ⟨?_, ?_⟩, hes⟩
    · rw [hareg _ (by decide), hreg _ (by decide), hset, State.reg_congr hregs]
    · exact (congrArg (fun w : Word => bit w.toNat 31) (hareg 0x02010 (by decide))).trans hcause

end

end Sys2Proof.Machine
end

section
/-!
PROOFS. A port whose link is down stays as it is whatever the fabric does; the link of a port lost (15_ethernet_ports.md, Modes and link).
-/
namespace Sys2Proof.Machine

-- One proof after another: side by side, the threads of so long a text want more memory than the check grants.
set_option Elab.async false

section
variable {s t u : State} {x : Nat}

theorem State.port_setPort_self (s : State) (x : Nat) (p : Port) : (s.setPort x p).port x = p := Tbl.get_put_self _ _ _ _

theorem State.port_setPort_ne (s : State) {x y : Nat} (p : Port) (h : x ≠ y) : (s.setPort y p).port x = s.port x := Tbl.get_put_ne _ _ _ h

/-- The registers and the state of a port, and what the egresses serve, are as before. -/
structure PortStill (x : Nat) (s t : State) : Prop where
  regs : ∀ r, r / 0x1000 = 0x24 + x → t.reg r = s.reg r
  port : t.port x = s.port x
  egresses : t.tss.egresses = s.tss.egresses

/-- Of a port that is down. -/
def StillDown (x : Nat) (s t : State) : Prop := s.fld (F.EM_STATUS_RATE x) = 0 → PortStill x s t

theorem emPage_of (hx : x < 2) : A.EM_STATUS x / 0x1000 = 0x24 + x ∧ A.EM_TX_PAUSE x / 0x1000 = 0x24 + x ∧ A.EM_MODE_CFG x / 0x1000 = 0x24 + x ∧
    A.EM_TX_TRUNC x / 0x1000 = 0x24 + x := by
  revert x
  decide

theorem portLane_of (hx : x < 2) : 0x24 + x ∈ portLanePages ∧ 0x24 + x ∉ lanePages := by
  revert x
  decide

theorem emStatus_ne (hx : x < 2) : A.EM_STATUS x ≠ A.EM_TX_TRUNC x ∧ A.EM_STATUS x ≠ (0x24 + x) * 0x1000 + 0x010 ∧
    A.EM_TX_TRUNC x ≠ (0x24 + x) * 0x1000 + 0x010 := by
  revert x
  decide

theorem PortStill.fld (h : PortStill x s t) {f : Fld} (hf : f.addr / 0x1000 = 0x24 + x) : t.fld f = s.fld f := State.fld_congr (h.regs _ hf)

theorem PortStill.flag (h : PortStill x s t) {f : Fld} (hf : f.addr / 0x1000 = 0x24 + x) : t.flag f = s.flag f := by rw [State.flag, h.fld hf, State.flag]

theorem StillDown.refl (x : Nat) (s : State) : StillDown x s s := fun _ => ⟨fun _ _ => rfl, rfl, rfl⟩

section
variable (hx : x < 2)
include hx

theorem StillDown.trans (h : StillDown x s t) (h' : StillDown x t u) : StillDown x s u := fun hd => by
  have h1 := h hd
  have h2 := h' ((h1.fld (emPage_of hx).1).trans hd)
  exact ⟨fun r hr => (h2.regs r hr).trans (h1.regs r hr), h2.port.trans h1.port, h2.egresses.trans h1.egresses⟩

/-! ### PAUSE frames -/

omit hx in
theorem still_sendPause (y quanta : Nat) (hy : y < 2) : StillDown x s (sendPause s y quanta) := fun hd => by
  by_cases hxy : y = x
  · have hup : portUp s x = false := by
      rw [portUp, portMbps, hd]
      rfl
    have hsame : sendPause s y quanta = s := by
      unfold sendPause
      rw [hxy, hup, Bool.not_false, if_pos rfl]
    rw [hsame]
    exact ⟨fun _ _ => rfl, rfl, rfl⟩
  · have htouch := touches_sendPause (s := s) hy quanta
    have hregs : OnlyRegs s (sendPause s y quanta) [A.EM_STATUS y, A.EM_TX_PAUSE y] := by
      have hleave : OnlyRegs s (leaveLpi s y) [A.EM_STATUS y] := by
        unfold leaveLpi
        split
        · exact fun r hr => onlyRegs_setFld s (F.EM_STATUS_LPI_TX y) 0 r hr
        · exact fun _ _ => rfl
      have hflush : ∀ v : State, OnlyRegs v (flushPause v y) [A.EM_TX_PAUSE y] := fun v => by
        unfold flushPause
        split
        · exact fun _ _ => rfl
        · intro r hr
          refine (OnlyRegs.foldl (as := [A.EM_TX_PAUSE y]) (fun t q _ r hr => ?_) _ r hr).trans ?_
          · exact onlyRegs_count (t.send _) (F.EM_TX_PAUSE_COUNT y) 1 r hr
          · rfl
      unfold sendPause
      split
      · exact fun _ _ => rfl
      · exact hleave.trans (fun r hr => hflush _ r hr)
    refine ⟨fun r hr => hregs r ?_, ?_, by rw [show (sendPause s y quanta).tss = s.tss from htouch.part .tss (by decide)]⟩
    · have := emPage_of hy
      simp only [List.mem_cons, List.not_mem_nil, or_false, not_or]
      exact ⟨fun e => by rw [e] at hr; omega, fun e => by rw [e] at hr; omega⟩
    · have hport : ∀ (v : State) (p : Port), (v.setPort y p).port x = v.port x := fun v p => State.port_setPort_ne v p (fun e => hxy e.symm)
      have hleave : (leaveLpi s y).port x = s.port x := by
        unfold leaveLpi
        split
        · exact hport _ _
        · rfl
      have hfold : ∀ (l : List Nat) (g : Nat → Out) (v : State),
          (l.foldl (fun (t : State) q => (t.send (g q)).count (F.EM_TX_PAUSE_COUNT y) 1) v).ports = v.ports := fun l g v => by
        induction l generalizing v with
        | nil => rfl
        | cons q l ih => exact (ih _).trans (State.count_ports _ _ _)
      have hflush : ∀ v : State, (flushPause v y).port x = v.port x := fun v => by
        unfold flushPause
        split
        · rfl
        · rw [State.port, hfold]
          exact hport _ _
      unfold sendPause
      split
      · rfl
      · exact (hflush _).trans ((hport _ _).trans hleave)

omit hx in
/-- What leaves the ports alone but for PAUSE frames leaves one that is down still. -/
theorem Moves.stillDown {ps : List Area} {gs : List Nat} (h : Moves false ps gs s t) (hx : x < 2) : StillDown x s t := by
  have hof : ∀ {qs : List Area} {hs : List Nat} {u v : State}, Touches qs hs u v → Area.ports ∉ qs → Area.tss ∉ qs → 0x24 + x ∉ hs → StillDown x u v :=
    fun h hp ht hg _ => by
      have hports : _ = _ := h.part .ports hp
      have htss : _ = _ := h.part .tss ht
      exact ⟨fun r hr => h.reg r (by rw [hr]; exact hg), by rw [State.port, hports, State.port], by rw [htss]⟩
  have hpage := portLane_of hx
  induction h with
  | of' h _ _ hp ht hr => exact hof h hp ht (fun hm => hr _ hm hpage.1)
  | sched v hv _ => exact fun _ => ⟨fun _ _ => rfl, rfl, hv⟩
  | pause quanta hy _ _ => exact still_sendPause _ quanta hy
  | leave _ hw _ _ => cases hw
  | settle hn _ _ => exact hof (touches_settle hn) (by decide) (by decide) hpage.2
  | cause b hn _ _ => exact hof (touches_setCause_of b (lane_pages hn).2.2.2.2.2.1) (by decide) (by decide) hpage.2
  | trans _ _ ih ih' => exact ih.trans hx ih'

omit hx in
theorem moves_loseReceiving {wake : Bool} (y q : Nat) : Moves wake fabricParts fabricPages s (loseReceiving s y q) := by
  unfold loseReceiving
  simp only
  refine Moves.trans ?_ (moves_comparePtrs q)
  refine Moves.add ?_ (touches_closeIfEmpty q)
  refine Moves.trans ?_ (Moves.foldl (fun _ i _ => moves_freeItem i) _)
  refine Moves.trans ?_ (moves_putItems q _ _)
  split
  · exact Moves.ite (fun _ => moves_endBegun q _) (fun _ => Moves.refl s)
  · exact Moves.refl s

end

/-! ### A link lost -/

/-- What the fabric and the gates of a port may touch. -/
def linkParts : List Area := fabricParts ++ gateParts

/-- The pages in which it shows. -/
def linkPages : List Nat := [0x20, 0x23, 0x24, 0x25]

theorem emTrunc_page (hx : x < 2) : A.EM_TX_TRUNC x / 0x1000 ∈ fabricPages ∧ A.EM_STATUS x / 0x1000 ∈ fabricPages := by
  revert x
  decide

theorem touches_setEgress (e : Nat) (v : Egress) : Touches [.tss] [] s (s.setEgress e v) := touches_parts [.tss] rfl

theorem touches_loseSending (hx : x < 2) (sending : Bool) : Touches fabricParts fabricPages s (loseSending s x sending) := by
  unfold loseSending
  split
  · exact Touches.ite (fun _ => (touches_count_of (F.EM_TX_TRUNC_COUNT x) 1 (emTrunc_page hx).1).mono) (fun _ => Touches.refl s)
  · rename_i q _
    have hset : Touches fabricParts fabricPages s (s.setEgress x { s.egress x with serving := none }) := (touches_setEgress x _).mono
    simp only
    generalize s.setEgress x { s.egress x with serving := none } = u at *
    split
    · refine Touches.ite (fun _ => hset) (fun _ => ?_)
      refine Touches.trans (Touches.then ?_ (touches_count_of (F.EM_TX_TRUNC_COUNT x) 1 (emTrunc_page hx).1)) (touches_delivered q)
      exact Touches.ite (fun _ => hset) (fun _ => (hset.trans (touches_endBegun q _)).then (touches_setQueue _ q _))
    · exact hset

theorem touches_loseReceiving (y q : Nat) : Touches fabricParts fabricPages s (loseReceiving s y q) := (moves_loseReceiving (wake := false) y q).touches

theorem touches_linkLost (hx : x < 2) (sending : Bool) : Touches fabricParts fabricPages s (linkLost s x sending) := by
  unfold linkLost
  simp only
  refine Touches.trans ?_ (Touches.foldl (fun _ q _ => touches_loseReceiving x q) _)
  refine Touches.trans ?_ (touches_loseSending hx sending)
  refine Touches.then ?_ (touches_setPort (x := x) _)
  exact (touches_setFld_of (F.EM_STATUS_AN_DONE x) 0 (emTrunc_page hx).2).mono.then (touches_setFld_of (F.EM_STATUS_LPI_TX x) 0 (emTrunc_page hx).2)

theorem touches_gatesAfterRate (hx : x < 2) (rate : Nat) : Touches gateParts [0x23] s (gatesAfterRate s x rate) := by
  unfold gatesAfterRate
  simp only
  refine Touches.ite (fun _ => Touches.refl s) (fun _ => ?_)
  split
  · exact Touches.refl s
  · refine Touches.trans ?_ (touches_gatesRefresh (x := x) (List.mem_range.mpr (by omega)))
    exact (((touches_setGate x _).mono.then (touches_setCause 0x23 2)).then (touches_event (gs := []) _ _ _ _ _))

theorem touches_setRate (hx : x < 2) (rate : Nat) (sending : Bool) : Touches linkParts linkPages s (setRate s x rate sending) := by
  have hpage : 0x24 + x ∈ linkPages ∧ A.EM_STATUS x / 0x1000 ∈ linkPages := by
    revert x
    decide
  unfold setRate
  simp only
  refine Touches.ite (fun _ => Touches.refl s) (fun _ => ?_)
  refine Touches.then (Touches.then ?_ (touches_event (gs := []) _ _ _ _ _)) (touches_setCause_of 0 hpage.1)
  refine Touches.trans ?_ (touches_gatesAfterRate hx rate).mono
  have hset : Touches linkParts linkPages s ((s.setFld (F.EM_STATUS_RATE x) rate).setFld (F.EM_STATUS_LINK x) (b01 (rate != 0))) :=
    (touches_setFld_of (F.EM_STATUS_RATE x) rate hpage.2).mono.then (touches_setFld_of (F.EM_STATUS_LINK x) _ hpage.2)
  exact Touches.ite (fun _ => hset.trans (touches_linkLost hx sending).mono) (fun _ => hset)

/-- Lost receptions leave a port that is down as it is; what it sent is ended first. -/
structure LinkLost (x : Nat) (s t : State) : Prop where
  regs : ∀ r, r / 0x1000 = 0x24 + x → r ≠ A.EM_STATUS x → r ≠ A.EM_TX_TRUNC x → t.reg r = s.reg r
  rate : t.fld (F.EM_STATUS_RATE x) = 0
  link : t.flag (F.EM_STATUS_LINK x) = s.flag (F.EM_STATUS_LINK x)
  an : t.flag (F.EM_STATUS_AN_DONE x) = false
  lpi : t.flag (F.EM_STATUS_LPI_TX x) = false
  port : t.port x = { s.port x with waking := false, pauseDue := [] }
  serving : (t.egress x).serving = none

/-- What a sender ended leaves of the port. -/
theorem loseSending_spec (hx : x < 2) (sending : Bool) (hd : s.fld (F.EM_STATUS_RATE x) = 0) :
    (∀ r, r / 0x1000 = 0x24 + x → r ≠ A.EM_TX_TRUNC x → (loseSending s x sending).reg r = s.reg r) ∧ (loseSending s x sending).port x = s.port x ∧
      ((loseSending s x sending).egress x).serving = none := by
  have hpages := emPage_of hx
  have hcount : ∀ v : State, v.fld (F.EM_STATUS_RATE x) = 0 → (∀ r, r ≠ A.EM_TX_TRUNC x → (v.count (F.EM_TX_TRUNC_COUNT x) 1).reg r = v.reg r) ∧
      (v.count (F.EM_TX_TRUNC_COUNT x) 1).port x = v.port x ∧ (v.count (F.EM_TX_TRUNC_COUNT x) 1).tss = v.tss ∧
      (v.count (F.EM_TX_TRUNC_COUNT x) 1).fld (F.EM_STATUS_RATE x) = 0 := fun v hv =>
    have hreg := onlyRegs_count v (F.EM_TX_TRUNC_COUNT x) 1
    ⟨fun r hr => hreg r (by simpa using hr), by rw [State.port, State.count_ports, State.port], State.count_tss _ _ _,
      (hreg.fld (by simp)).trans hv⟩
  unfold loseSending
  split
  · rename_i hnone
    split
    · obtain ⟨hr, hp, ht, -⟩ := hcount s hd
      exact ⟨fun r _ h => hr r h, hp, by rw [State.egress, ht]; exact hnone⟩
    · exact ⟨fun _ _ _ => rfl, rfl, hnone⟩
  · rename_i q _
    have hserve : ((s.setEgress x { s.egress x with serving := none }).egress x).serving = none := by
      rw [State.egress]
      exact congrArg Egress.serving (Tbl.get_put_self _ _ _ _)
    have hregs : ∀ r, (s.setEgress x { s.egress x with serving := none }).reg r = s.reg r := fun _ => rfl
    have hport : (s.setEgress x { s.egress x with serving := none }).port x = s.port x := rfl
    simp only
    generalize s.setEgress x { s.egress x with serving := none } = u at *
    have hdu : u.fld (F.EM_STATUS_RATE x) = 0 := (State.fld_congr (hregs _)).trans hd
    have hkept : ∀ w : State, StillDown x u w → (∀ r, r / 0x1000 = 0x24 + x → w.reg r = s.reg r) ∧ w.port x = s.port x ∧ (w.egress x).serving = none ∧
        w.fld (F.EM_STATUS_RATE x) = 0 := fun w hw => by
      have h := hw hdu
      exact ⟨fun r hr => (h.regs r hr).trans (hregs r), h.port.trans hport, by rw [State.egress, h.egresses]; exact hserve, (h.fld hpages.1).trans hdu⟩
    split
    · rename_i i _ _
      split
      · obtain ⟨hr, hp, hs, -⟩ := hkept u (StillDown.refl x u)
        exact ⟨fun r h _ => hr r h, hp, hs⟩
      · have hbegun : StillDown x u (if i.committed then u else
            (endBegun u q { i with trunc := true }).setQueue q { (endBegun u q { i with trunc := true }).queue q with dropping := true }) :=
          Moves.stillDown (Moves.ite (fun _ => Moves.refl u) (fun _ => (moves_endBegun q _).trans (moves_setQueue q _))) hx
        generalize hw : (if i.committed then u else
            (endBegun u q { i with trunc := true }).setQueue q { (endBegun u q { i with trunc := true }).queue q with dropping := true }) = w at hbegun
        obtain ⟨hr, hp, hs, hdw⟩ := hkept w hbegun
        obtain ⟨hcr, hcp, hct, hcd⟩ := hcount w hdw
        generalize w.count (F.EM_TX_TRUNC_COUNT x) 1 = c at *
        have h := (moves_delivered (s := c) q).stillDown hx hcd
        exact ⟨fun r h1 h2 => (h.regs r h1).trans ((hcr r h2).trans (hr r h1)), h.port.trans (hcp.trans hp),
          by rw [State.egress, h.egresses, hct]; exact hs⟩
    · obtain ⟨hr, hp, hs, -⟩ := hkept u (StillDown.refl x u)
      exact ⟨fun r h _ => hr r h, hp, hs⟩

theorem linkLost_spec (hx : x < 2) (sending : Bool) (hd : s.fld (F.EM_STATUS_RATE x) = 0) : LinkLost x s (linkLost s x sending) := by
  have hpages := emPage_of hx
  have hne := (emStatus_ne hx).1
  have han : (s.setFld (F.EM_STATUS_AN_DONE x) 0).flag (F.EM_STATUS_AN_DONE x) = false := State.flag_setFld_zero s (by simp)
  have hapart : ∀ f : Fld, f.addr = A.EM_STATUS x → f.lsb + f.width ≤ 5 ∨ 6 ≤ f.lsb → (s.setFld (F.EM_STATUS_AN_DONE x) 0).fld f = s.fld f := fun f hf hl =>
    State.fld_setFld_apart s (F.EM_STATUS_AN_DONE x) f 0 (by simp) (Or.inr hl)
  have hareg := onlyRegs_setFld s (F.EM_STATUS_AN_DONE x) 0
  have hat : Touches [.regs] fabricPages s (s.setFld (F.EM_STATUS_AN_DONE x) 0) := touches_setFld_of (F.EM_STATUS_AN_DONE x) 0 (emTrunc_page hx).2
  unfold linkLost
  simp only
  generalize s.setFld (F.EM_STATUS_AN_DONE x) 0 = a at *
  have hlpi : (a.setFld (F.EM_STATUS_LPI_TX x) 0).flag (F.EM_STATUS_LPI_TX x) = false := State.flag_setFld_zero a (by simp)
  have hapart' : ∀ f : Fld, f.addr = A.EM_STATUS x → f.lsb + f.width ≤ 8 ∨ 9 ≤ f.lsb → (a.setFld (F.EM_STATUS_LPI_TX x) 0).fld f = a.fld f := fun f hf hl =>
    State.fld_setFld_apart a (F.EM_STATUS_LPI_TX x) f 0 (by simp) (Or.inr hl)
  have hbreg := onlyRegs_setFld a (F.EM_STATUS_LPI_TX x) 0
  have hbt : Touches [.regs] fabricPages s (a.setFld (F.EM_STATUS_LPI_TX x) 0) := hat.then (touches_setFld_of (F.EM_STATUS_LPI_TX x) 0 (emTrunc_page hx).2)
  generalize a.setFld (F.EM_STATUS_LPI_TX x) 0 = b at *
  have hports : b.port x = s.port x := by rw [State.port, show b.ports = s.ports from hbt.part .ports (by decide), State.port]
  have hcport : (b.setPort x { b.port x with waking := false, pauseDue := [] }).port x = { b.port x with waking := false, pauseDue := [] } :=
    State.port_setPort_self b x _
  have hcreg : ∀ r, (b.setPort x { b.port x with waking := false, pauseDue := [] }).reg r = b.reg r :=
    State.reg_congr (State.setPort_regs _ _ _)
  generalize b.setPort x { b.port x with waking := false, pauseDue := [] } = c at *
  have hcfld : ∀ f : Fld, f.addr = A.EM_STATUS x → f.lsb + f.width ≤ 5 ∨ 9 ≤ f.lsb → c.fld f = s.fld f := fun f hf hl =>
    (State.fld_congr (hcreg _)).trans ((hapart' f hf (by omega)).trans (hapart f hf (by omega)))
  have hcrate : c.fld (F.EM_STATUS_RATE x) = 0 := (hcfld _ rfl (by simp)).trans hd
  obtain ⟨hdreg, hdport, hserve⟩ := loseSending_spec hx sending hcrate
  have hdrate : (loseSending c x sending).fld (F.EM_STATUS_RATE x) = 0 := (State.fld_congr (hdreg _ hpages.1 hne)).trans hcrate
  generalize loseSending c x sending = d at *
  have h := (Moves.foldl (l := d.fab.queues.map (fun e => e.1)) (g := fun t q => loseReceiving t x q) (fun _ q _ => moves_loseReceiving x q) d).stillDown hx hdrate
  generalize (d.fab.queues.map (fun e => e.1)).foldl (fun t q => loseReceiving t x q) d = e at *
  have hfld : ∀ f : Fld, f.addr = A.EM_STATUS x → e.fld f = b.fld f := fun f hf =>
    (h.fld (by rw [hf]; exact hpages.1)).trans ((State.fld_congr (hdreg _ (by rw [hf]; exact hpages.1) (by rw [hf]; exact hne))).trans (State.fld_congr (hcreg _)))
  refine ⟨fun r h1 h2 h3 => ?_, (h.fld hpages.1).trans hdrate, ?_, ?_, ?_, h.port.trans (hdport.trans (hcport.trans (by rw [hports]))),
    by rw [State.egress, h.egresses]; exact hserve⟩
  · rw [h.regs r h1, hdreg r h1 h3, hcreg, hbreg r (by simpa using h2), hareg r (by simpa using h2)]
  · rw [State.flag, hfld _ rfl, hapart' _ rfl (by simp), hapart _ rfl (by simp), State.flag]
  · rw [State.flag, hfld _ rfl, hapart' _ rfl (by simp)]
    exact han
  · rw [State.flag, hfld _ rfl]
    exact hlpi

/-! ### The rate of a port -/

/-- What a change of the rate leaves. -/
structure RateSet (x rate : Nat) (s t : State) : Prop where
  shown : t.fld (F.EM_STATUS_RATE x) = rate
  link : t.flag (F.EM_STATUS_LINK x) = (rate != 0)
  down : rate = 0 → t.flag (F.EM_STATUS_AN_DONE x) = false ∧ t.flag (F.EM_STATUS_LPI_TX x) = false ∧ (t.egress x).serving = none ∧
    t.port x = { s.port x with waking := false, pauseDue := [] }
  regs : ∀ r, r / 0x1000 = 0x24 + x → r ≠ A.EM_STATUS x → r ≠ A.EM_TX_TRUNC x → r ≠ (0x24 + x) * 0x1000 + 0x010 → t.reg r = s.reg r
  cause : causeSet t (0x24 + x) 0 = true
  event : lastEvent t (0x24 + x) 0x0F00

theorem setRate_spec (hx : x < 2) {rate : Nat} (hr : rate < 16) (sending : Bool) (h : s.fld (F.EM_STATUS_RATE x) ≠ rate) :
    RateSet x rate s (setRate s x rate sending) := by
  have hpages := emPage_of hx
  have hne := emStatus_ne hx
  unfold setRate
  simp only
  rw [if_neg h]
  have hrate : (s.setFld (F.EM_STATUS_RATE x) rate).fld (F.EM_STATUS_RATE x) = rate :=
    (State.fld_setFld_self s (F.EM_STATUS_RATE x) rate (by simp)).trans (Nat.mod_eq_of_lt hr)
  have hareg := onlyRegs_setFld s (F.EM_STATUS_RATE x) rate
  have hat : Touches [.regs] fabricPages s (s.setFld (F.EM_STATUS_RATE x) rate) := touches_setFld_of (F.EM_STATUS_RATE x) rate (emTrunc_page hx).2
  generalize s.setFld (F.EM_STATUS_RATE x) rate = a at *
  have hlink : (a.setFld (F.EM_STATUS_LINK x) (b01 (rate != 0))).flag (F.EM_STATUS_LINK x) = (rate != 0) := by
    cases hz : rate != 0
    · exact State.flag_setFld_zero a (by simp)
    · exact State.flag_setFld_one a rfl (by simp)
  have hbrate : (a.setFld (F.EM_STATUS_LINK x) (b01 (rate != 0))).fld (F.EM_STATUS_RATE x) = rate :=
    (State.fld_setFld_apart a (F.EM_STATUS_LINK x) (F.EM_STATUS_RATE x) _ (by simp) (by simp)).trans hrate
  have hbreg := onlyRegs_setFld a (F.EM_STATUS_LINK x) (b01 (rate != 0))
  have hbt : Touches [.regs] fabricPages s (a.setFld (F.EM_STATUS_LINK x) (b01 (rate != 0))) :=
    hat.then (touches_setFld_of (F.EM_STATUS_LINK x) _ (emTrunc_page hx).2)
  generalize a.setFld (F.EM_STATUS_LINK x) (b01 (rate != 0)) = b at *
  have hbport : b.port x = s.port x := by rw [State.port, show b.ports = s.ports from hbt.part .ports (by decide), State.port]
  have hlost : ∀ c, c = (if rate = 0 then linkLost b x sending else b) → c.fld (F.EM_STATUS_RATE x) = rate ∧ c.flag (F.EM_STATUS_LINK x) = (rate != 0) ∧
      (rate = 0 → c.flag (F.EM_STATUS_AN_DONE x) = false ∧ c.flag (F.EM_STATUS_LPI_TX x) = false ∧ (c.egress x).serving = none ∧
        c.port x = { s.port x with waking := false, pauseDue := [] }) ∧
      (∀ r, r / 0x1000 = 0x24 + x → r ≠ A.EM_STATUS x → r ≠ A.EM_TX_TRUNC x → c.reg r = b.reg r) := by
    rintro c rfl
    split
    · rename_i hz
      obtain ⟨hregs, hrate', hlink', han, hlpi, hport, hserve⟩ := linkLost_spec hx sending (hbrate.trans hz)
      exact ⟨hrate'.trans hz.symm, hlink'.trans hlink, fun _ => ⟨han, hlpi, hserve, hport.trans (by rw [hbport])⟩, hregs⟩
    · rename_i hz
      exact ⟨hbrate, hlink, fun h => absurd h hz, fun _ _ _ _ => rfl⟩
  generalize hc : (if rate = 0 then linkLost b x sending else b) = c at *
  obtain ⟨hcrate, hclink, hcdown, hcreg⟩ := hlost c rfl
  have hgates := touches_gatesAfterRate (s := c) hx rate
  generalize gatesAfterRate c x rate = d at *
  have hdreg : ∀ r, r / 0x1000 = 0x24 + x → d.reg r = c.reg r := fun r hr => hgates.reg r (by
    simp only [List.mem_cons, List.not_mem_nil, or_false]
    omega)
  have hdport : d.port x = c.port x := by rw [State.port, show d.ports = c.ports from hgates.part .ports (by decide), State.port]
  have hdegress : d.egress x = c.egress x := by rw [State.egress, show d.tss = c.tss from hgates.part .tss (by decide), State.egress]
  generalize leBytes 1 (s.fld (F.EM_STATUS_RATE x)) ++ leBytes 1 rate ++ leBytes 1 (d.fld (F.EM_MODE_CFG_MODE x)) = data
  rw [emPage]
  have hend : (d.event (0x24 + x) 0 0x0F00 (if rate = 0 then 2 else 1) data).regs = d.regs ∧
      (d.event (0x24 + x) 0 0x0F00 (if rate = 0 then 2 else 1) data).ports = d.ports ∧
      (d.event (0x24 + x) 0 0x0F00 (if rate = 0 then 2 else 1) data).tss = d.tss := ⟨rfl, rfl, rfl⟩
  have hevent := lastEvent_event (s := d) (0x24 + x) 0 0x0F00 (if rate = 0 then 2 else 1) data
  generalize d.event (0x24 + x) 0 0x0F00 (if rate = 0 then 2 else 1) data = e at *
  obtain ⟨heregs, heports, hetss⟩ := hend
  have hsreg := onlyRegs_setCause e (0x24 + x) 0
  have hcause : causeSet (setCause e (0x24 + x) 0) (0x24 + x) 0 = true := by rw [causeSet_setCause _ _ _ _ (by decide), beq_self_eq_true, Bool.or_true]
  have hlast := lastEvent_setCause (0x24 + x) 0 hevent
  have hsport : (setCause e (0x24 + x) 0).port x = d.port x := by rw [State.port, setCause_ports, heports, State.port]
  have hsegress : (setCause e (0x24 + x) 0).egress x = d.egress x := by rw [State.egress, setCause_tss, hetss, State.egress]
  generalize setCause e (0x24 + x) 0 = v at *
  have hreg : ∀ r, r / 0x1000 = 0x24 + x → r ≠ (0x24 + x) * 0x1000 + 0x010 → v.reg r = c.reg r := fun r hr hn =>
    (hsreg r (by simpa using hn)).trans ((State.reg_congr heregs r).trans (hdreg r hr))
  have hfld : ∀ f : Fld, f.addr = A.EM_STATUS x → v.fld f = c.fld f := fun f hf =>
    State.fld_congr (hreg _ (by rw [hf]; exact hpages.1) (by rw [hf]; exact hne.2.1))
  have hflag : ∀ f : Fld, f.addr = A.EM_STATUS x → v.flag f = c.flag f := fun f hf => by rw [State.flag, hfld f hf, State.flag]
  refine ⟨(hfld _ rfl).trans hcrate, (hflag _ rfl).trans hclink, fun hz => ?_, fun r h1 h2 h3 h4 => ?_, hcause, hlast⟩
  · obtain ⟨han, hlpi, hserve, hport⟩ := hcdown hz
    exact ⟨(hflag _ rfl).trans han, (hflag _ rfl).trans hlpi, by rw [hsegress, hdegress]; exact hserve, hsport.trans (hdport.trans hport)⟩
  · rw [hreg r h1 h4, hcreg r h1 h2 h3, hbreg r (by simpa using h2), hareg r (by simpa using h2)]

/-- The link of another port lost leaves a port that is down as it is: its rate stays 0. -/
theorem setRate_other {y : Nat} (hx : x < 2) (hy : y < 2) (hxy : x ≠ y) (sending : Bool) (hd : s.fld (F.EM_STATUS_RATE x) = 0) :
    (setRate s y 0 sending).fld (F.EM_STATUS_RATE x) = 0 := by
  have hpage : ∀ f : Fld, f.addr / 0x1000 = 0x24 + y → (F.EM_STATUS_RATE x).addr ≠ f.addr := fun f hf e => by
    have hpx := (emPage_of hx).1
    rw [← e, hpx] at hf
    omega
  have hset : ∀ (v : State) (f : Fld) (n : Nat), f.addr / 0x1000 = 0x24 + y → (v.setFld f n).fld (F.EM_STATUS_RATE x) = v.fld (F.EM_STATUS_RATE x) :=
    fun v f n hf => (onlyRegs_setFld v f n).fld (by simpa using hpage f hf)
  have hpages := emPage_of hy
  have hstill : ∀ v w : State, StillDown x v w → v.fld (F.EM_STATUS_RATE x) = 0 → w.fld (F.EM_STATUS_RATE x) = 0 := fun v w h hv =>
    ((h hv).fld (emPage_of hx).1).trans hv
  have hsend : ∀ v : State, v.fld (F.EM_STATUS_RATE x) = 0 → (loseSending v y sending).fld (F.EM_STATUS_RATE x) = 0 := fun v hv => by
    have hcount : ∀ w : State, w.fld (F.EM_STATUS_RATE x) = 0 → (w.count (F.EM_TX_TRUNC_COUNT y) 1).fld (F.EM_STATUS_RATE x) = 0 := fun w hw =>
      (hset w (F.EM_TX_TRUNC_COUNT y) _ hpages.2.2.2).trans hw
    unfold loseSending
    split
    · split
      · exact hcount v hv
      · exact hv
    · rename_i q _
      have hv' : (v.setEgress y { v.egress y with serving := none }).fld (F.EM_STATUS_RATE x) = 0 := (State.fld_congr (State.reg_congr rfl _)).trans hv
      simp only
      generalize v.setEgress y { v.egress y with serving := none } = u at *
      split
      · split
        · exact hv'
        · refine hstill _ _ ((moves_delivered q).stillDown hx) (hcount _ (hstill u _ ?_ hv'))
          exact Moves.stillDown (Moves.ite (fun _ => Moves.refl u) (fun _ => (moves_endBegun q _).trans (moves_setQueue q _))) hx
      · exact hv'
  unfold setRate
  simp only [if_true]
  split
  · exact hd
  · have ha : ((s.setFld (F.EM_STATUS_RATE y) 0).setFld (F.EM_STATUS_LINK y) (b01 (0 != 0))).fld (F.EM_STATUS_RATE x) = 0 := by
      rw [hset _ (F.EM_STATUS_LINK y) _ hpages.1, hset _ (F.EM_STATUS_RATE y) _ hpages.1, hd]
    generalize (s.setFld (F.EM_STATUS_RATE y) 0).setFld (F.EM_STATUS_LINK y) (b01 (0 != 0)) = a at *
    have hlost : (linkLost a y sending).fld (F.EM_STATUS_RATE x) = 0 := by
      unfold linkLost
      simp only
      refine hstill _ _ ((Moves.foldl (fun _ q _ => moves_loseReceiving y q) _).stillDown hx) (hsend _ ?_)
      exact (State.fld_congr (State.reg_congr (State.setPort_regs _ _ _) _)).trans ((hset _ (F.EM_STATUS_LPI_TX y) _ hpages.1).trans ((hset _ (F.EM_STATUS_AN_DONE y) _ hpages.1).trans ha))
    generalize linkLost a y sending = b at *
    have hgates : (gatesAfterRate b y 0).fld (F.EM_STATUS_RATE x) = 0 := (((touches_gatesAfterRate hy 0).fld (by
      have := (emPage_of hx).1
      simp only [List.mem_cons, List.not_mem_nil, or_false]
      omega))).trans hlost
    generalize gatesAfterRate b y 0 = c at *
    refine ((onlyRegs_setCause _ (emPage y) 0).fld ?_).trans hgates
    simp only [emPage, List.mem_cons, List.not_mem_nil, or_false]
    have := (emPage_of hx).1
    intro e
    rw [e] at this
    omega

end

end Sys2Proof.Machine
end

section
/-!
PROOFS. Ports: their link, PAUSE, Energy-Efficient Ethernet and MDIO (15_ethernet_ports.md): the statement O56.
-/
namespace Sys2Proof.Machine

-- One proof after another: side by side, the threads of so long a text want more memory than the check grants.
set_option Elab.async false

section
variable {s t u : State} (x : EthPort)

/-! ### Link, auto-negotiation and mode (R499–R502) -/

theorem ethLinkChange_spec (rate : Fin 5) (sending : Bool) (hs : s.operating = true)
    (hr : rate.val = 0 ∨ modeRate (s.fld (F.EM_MODE_CFG_MODE x)) (s.flag (F.EM_MODE_CFG_AN_EN x)) rate = true) :
    (s.fld (F.EM_STATUS_RATE x) = rate.val → exec (.ethLinkChange x rate sending) s = .next s) ∧
    (s.fld (F.EM_STATUS_RATE x) ≠ rate.val → ∃ t, exec (.ethLinkChange x rate sending) s = .next t ∧
      t.fld (F.EM_STATUS_RATE x) = rate.val ∧ t.flag (F.EM_STATUS_LINK x) = (rate.val != 0) ∧
      (rate.val = 0 → t.flag (F.EM_STATUS_AN_DONE x) = false ∧ t.flag (F.EM_STATUS_LPI_TX x) = false ∧ (t.egress x).serving = none ∧
        (t.port x).waking = false ∧ (t.port x).pauseDue = []) ∧
      causeSet t (0x24 + x) 0 = true ∧ lastEvent t (0x24 + x) 0x0F00) := by
  have hcond : (s.operating && (rate.val == 0 || modeRate (s.fld (F.EM_MODE_CFG_MODE x)) (s.flag (F.EM_MODE_CFG_AN_EN x)) rate)) = true := by
    rw [hs, Bool.true_and, Bool.or_eq_true, beq_iff_eq]
    exact hr
  have hexec : exec (.ethLinkChange x rate sending) s = .next (setRate s x rate sending) := congrArg Host.Outcome.next (if_pos hcond)
  refine ⟨fun h => hexec.trans (congrArg Host.Outcome.next (if_pos h)), fun h => ?_⟩
  have hset := setRate_spec x.isLt (rate := rate.val) (by omega) sending h
  refine ⟨_, hexec, hset.shown, hset.link, fun hz => ?_, hset.cause, hset.event⟩
  obtain ⟨han, hlpi, hserve, hport⟩ := hset.down hz
  exact ⟨han, hlpi, hserve, congrArg Port.waking hport, congrArg Port.pauseDue hport⟩

/-- A link taken down, or down already. -/
theorem setRate_down (sending : Bool) : (setRate s x 0 sending).fld (F.EM_STATUS_RATE x) = 0 := by
  by_cases h : s.fld (F.EM_STATUS_RATE x) = 0
  · rw [show setRate s x 0 sending = s from if_pos h]
    exact h
  · exact (setRate_spec x.isLt (by decide) sending h).shown

theorem anDone_spec (pause : Bool) (hs : s.operating = true) (ha : s.flag (F.EM_MODE_CFG_AN_EN x) = true)
    (hm : s.fld (F.EM_MODE_CFG_MODE x) = 1 ∨ s.fld (F.EM_MODE_CFG_MODE x) = 2) :
    (∃ t, exec (.anDone x true pause) s = .next t ∧ t.flag (F.EM_STATUS_AN_DONE x) = true ∧
      t.port x = { s.port x with pauseResolved := pause } ∧ OnlyRegs s t [A.EM_STATUS x] ∧ t = { s with regs := t.regs, ports := t.ports }) ∧
    (∃ t, exec (.anDone x false pause) s = .next t ∧ t.fld (F.EM_STATUS_RATE x) = 0 ∧ causeSet t (0x24 + x) 1 = true) := by
  have hcond : (!s.operating || !s.flag (F.EM_MODE_CFG_AN_EN x) || !(s.fld (F.EM_MODE_CFG_MODE x) == 1 || s.fld (F.EM_MODE_CFG_MODE x) == 2)) = false := by
    rw [hs, ha]
    rcases hm with h | h <;> rw [h] <;> rfl
  have hexec : ∀ full, exec (.anDone x full pause) s = .next (if full then
      (s.setFld (F.EM_STATUS_AN_DONE x) 1).setPort x { s.port x with pauseResolved := pause } else setCause (setRate s x 0 false) (emPage x) 1) := fun full =>
    congrArg Host.Outcome.next (if_neg (by rw [hcond]; decide))
  refine ⟨⟨_, hexec true, ?_, State.port_setPort_self _ _ _, fun r hr => onlyRegs_setFld s (F.EM_STATUS_AN_DONE x) 1 r hr, rfl⟩, ⟨_, hexec false, ?_, ?_⟩⟩
  · exact (State.flag_of_regs (State.setPort_regs _ _ _) _).trans (State.flag_setFld_one s (f := F.EM_STATUS_AN_DONE x) rfl (by simp))
  · refine ((onlyRegs_setCause (setRate s x 0 false) (emPage x) 1).fld ?_).trans (setRate_down x false)
    have := (emStatus_ne x.isLt).2.1
    simpa [emPage] using this
  · exact (causeSet_setCause _ _ _ _ (by decide)).trans (by rw [beq_self_eq_true, Bool.or_true])

/-- `MODE_CFG`: two fields under LOCK0. -/
theorem modeCfg_spec : specOf (A.EM_MODE_CFG x) = some ⟨0x028, 1, 4, 16, [⟨0, 2, .lk, 0⟩, ⟨4, 1, .lk, 0⟩]⟩ := by
  revert x
  decide +kernel

theorem modeCfg_locked (l k : Nat) : fieldLocked s (A.EM_MODE_CFG x) ⟨l, k, .lk, 0⟩ = s.flag (F.EM_LOCK_LOCK0 x) := by
  have haddr : A.EM_MODE_CFG x / 4096 * 4096 + 36 = A.EM_LOCK x := by
    revert x
    decide
  rw [State.flag_eq_bit rfl]
  exact congrArg (fun r => bit (s.reg r).toNat 0) haddr

theorem modeCfg_reserved (l v w : Nat) : reservedEnc s (A.EM_MODE_CFG x / 0x1000 - basePage (A.EM_MODE_CFG x / 0x1000)) (basePage (A.EM_MODE_CFG x / 0x1000))
    0x028 l v w = false := by
  have hpage : basePage (A.EM_MODE_CFG x / 0x1000) = 0x24 := by
    revert x
    decide +kernel
  rw [hpage]
  rfl

theorem writeFields_modeCfg (src : Requester) (data : Word) (h : s.flag (F.EM_LOCK_LOCK0 x) = false) :
    writeFields s src (A.EM_MODE_CFG x) data allBits = s.setReg (A.EM_MODE_CFG x)
      (insBits (insBits (s.reg (A.EM_MODE_CFG x)) 0 2 (bitsOf data.toNat 0 2)) 4 1 (bitsOf data.toNat 4 1)) := by
  refine (writeFields_of_foldl s src _ data allBits (modeCfg_spec x) (reserved := false) ?_).trans rfl
  simp only [List.foldl_cons, List.foldl_nil]
  rw [applyField_open _ (Or.inr rfl) (by decide) (by decide) ((modeCfg_locked x 0 2).trans h) (modeCfg_reserved x _ _ _),
    applyField_open _ (Or.inr rfl) (by decide) (by decide) ((modeCfg_locked x 4 1).trans h) (modeCfg_reserved x _ _ _)]

theorem modeCfg_apart : A.EM_MODE_CFG x ≠ A.EM_STATUS x ∧ A.EM_MODE_CFG x ≠ A.EM_TX_TRUNC x ∧ A.EM_MODE_CFG x ≠ (0x24 + x) * 0x1000 + 0x010 := by
  revert x
  decide

theorem modeCfg_implemented : implemented (A.EM_MODE_CFG x) = true ∧ implemented (A.EM_MDIO_CMD x) = true := by
  revert x
  decide +kernel

theorem ethModeWrite_busy (src : Requester) (data : Word) (hs : s.inOperation = true) (hb : s.flag (F.EM_CTRL_TX_EN x) = true ∨ s.flag (F.EM_CTRL_RX_EN x) = true) :
    ∃ t, exec (.ethModeWrite src x data) s = .next t ∧ causeSet t (0x24 + x) 31 = true ∧ errCaptured s t (0x24 + x) 0x80 src.code (A.EM_MODE_CFG x) ∧
      OnlyRegs s t [(0x24 + x) * 0x1000 + 0x010, (0x24 + x) * 0x1000 + 0x01C, (0x24 + x) * 0x1000 + 0x020] ∧
      t = { s with regs := t.regs, host := t.host, out := t.out } := by
  have hcond : (s.flag (F.EM_CTRL_TX_EN x) || s.flag (F.EM_CTRL_RX_EN x)) = true := by simpa using hb
  exact ⟨_, congrArg Host.Outcome.next ((gateWrite_inOperation hs (modeCfg_implemented x).1 src _).trans (if_pos hcond)), causeSet_recordErr _ _ _ _ _,
    errCaptured_recordErr s _ _ (by decide) (requester_code_lt src), onlyRegs_recordErr _ _ _ _ _, recordErr_frame _ _ _ _ _⟩

theorem ethModeWrite_idle (src : Requester) (data : Word) (hs : s.inOperation = true) (htx : s.flag (F.EM_CTRL_TX_EN x) = false)
    (hrx : s.flag (F.EM_CTRL_RX_EN x) = false) (hl : s.flag (F.EM_LOCK_LOCK0 x) = false) :
    ∃ t, exec (.ethModeWrite src x data) s = .next t ∧ t.fld (F.EM_MODE_CFG_MODE x) = data.toNat % 4 ∧
      t.flag (F.EM_MODE_CFG_AN_EN x) = bit data.toNat 4 ∧ t.fld (F.EM_STATUS_RATE x) = 0 ∧ t.flag (F.EM_STATUS_AN_DONE x) = false ∧
      (t.port x).pauseResolved = false := by
  have hcond : (s.flag (F.EM_CTRL_TX_EN x) || s.flag (F.EM_CTRL_RX_EN x)) = false := by rw [htx, hrx]; rfl
  obtain ⟨hpage, -, hmodePage, -⟩ := emPage_of x.isLt
  have hne := modeCfg_apart x
  generalize hw : insBits (insBits (s.reg (A.EM_MODE_CFG x)) 0 2 (bitsOf data.toNat 0 2)) 4 1 (bitsOf data.toNat 4 1) = w
  have hform : modeWrite s src x data allBits = setRate (((s.setReg (A.EM_MODE_CFG x) w).setFld (F.EM_STATUS_AN_DONE x) 0).setPort x
      { (s.setReg (A.EM_MODE_CFG x) w).port x with pauseResolved := false }) x 0 false := by
    unfold modeWrite
    rw [hcond, hl, writeFields_modeCfg x src data hl, hw]
    simp only [Bool.false_eq_true, if_false]
  rw [show exec (.ethModeWrite src x data) s = .next (modeWrite s src x data allBits) from
    congrArg Host.Outcome.next (gateWrite_inOperation hs (modeCfg_implemented x).1 src _), hform]
  clear hform
  have hword : (s.setReg (A.EM_MODE_CFG x) w).reg (A.EM_MODE_CFG x) = w := State.reg_setReg_self _ _ _
  generalize s.setReg (A.EM_MODE_CFG x) w = a at *
  have han : (a.setFld (F.EM_STATUS_AN_DONE x) 0).flag (F.EM_STATUS_AN_DONE x) = false := State.flag_setFld_zero a (by simp)
  have hbreg := onlyRegs_setFld a (F.EM_STATUS_AN_DONE x) 0
  generalize a.setFld (F.EM_STATUS_AN_DONE x) 0 = b at *
  have hcregs : (b.setPort x { a.port x with pauseResolved := false }).regs = b.regs := State.setPort_regs _ _ _
  have hcport : (b.setPort x { a.port x with pauseResolved := false }).port x = { a.port x with pauseResolved := false } := State.port_setPort_self _ _ _
  generalize b.setPort x { a.port x with pauseResolved := false } = c at *
  have hcword : c.reg (A.EM_MODE_CFG x) = w := (State.reg_congr hcregs _).trans ((hbreg _ (by simp)).trans hword)
  have hcan : c.flag (F.EM_STATUS_AN_DONE x) = false := (State.flag_of_regs hcregs _).trans han
  have hset : (setRate c x 0 false).reg (A.EM_MODE_CFG x) = w ∧ (setRate c x 0 false).flag (F.EM_STATUS_AN_DONE x) = false ∧
      ((setRate c x 0 false).port x).pauseResolved = false := by
    by_cases h : c.fld (F.EM_STATUS_RATE x) = 0
    · rw [show setRate c x 0 false = c from if_pos h]
      exact ⟨hcword, hcan, by rw [hcport]⟩
    · have hspec := setRate_spec x.isLt (by decide) false h
      obtain ⟨hdone, -, -, hport⟩ := hspec.down rfl
      exact ⟨(hspec.regs _ hmodePage hne.1 hne.2.1 hne.2.2).trans hcword, hdone, (congrArg Port.pauseResolved hport).trans (by rw [hcport])⟩
  obtain ⟨hreg, hdone, hport⟩ := hset
  refine ⟨_, rfl, ?_, ?_, setRate_down x false, hdone, hport⟩
  · rw [State.fld, hreg, ← hw, bitsOf_insBits_apart _ _ _ _ _ _ (by decide) (by simp), bitsOf_insBits _ _ _ _ (by decide), Nat.mod_eq_of_lt (bitsOf_lt _ 0 2),
      bitsOf, pow_zero, Nat.div_one]
    rfl
  · rw [State.flag, State.fld, hreg, ← hw, bitsOf_insBits _ _ _ _ (by decide), Nat.mod_eq_of_lt (bitsOf_lt _ 4 1), bit_eq_bitsOf]

/-! ### PAUSE (R511–R513) -/

theorem pauseExpiry_spec (hs : s.operating = true) : ∃ t, exec (.pauseExpiry x) s = .next t ∧ t.flag (F.EM_STATUS_PAUSED x) = false ∧
    t.fld (F.EM_STATUS_RATE x) = s.fld (F.EM_STATUS_RATE x) ∧ OnlyRegs s t [A.EM_STATUS x] ∧ t = { s with regs := t.regs } :=
  ⟨_, congrArg Host.Outcome.next (if_pos hs), State.flag_setFld_zero s (by simp),
    State.fld_setFld_apart s (F.EM_STATUS_PAUSED x) (F.EM_STATUS_RATE x) 0 (by simp) (by simp), onlyRegs_setFld s (F.EM_STATUS_PAUSED x) 0, rfl⟩

theorem pauseHoldEnd_spec (hs : s.operating = true) : ∃ t, exec (.pauseHoldEnd x) s = .next t ∧ t.flag (F.EM_STATUS_HOLD x) = false ∧
    t.fld (F.EM_STATUS_RATE x) = s.fld (F.EM_STATUS_RATE x) ∧ OnlyRegs s t [A.EM_STATUS x] ∧ t = { s with regs := t.regs } :=
  ⟨_, congrArg Host.Outcome.next (if_pos hs), State.flag_setFld_zero s (by simp),
    State.fld_setFld_apart s (F.EM_STATUS_HOLD x) (F.EM_STATUS_RATE x) 0 (by simp) (by simp), onlyRegs_setFld s (F.EM_STATUS_HOLD x) 0, rfl⟩

/-- A register of a port is none of its header. -/
theorem emStatus_apart : A.EM_STATUS x ≠ A.EM_PAUSE_WDOG_TRIPS x ∧ A.EM_STATUS x ≠ (0x24 + x) * 0x1000 + 0x010 ∧
    A.EM_PAUSE_WDOG_TRIPS x ≠ (0x24 + x) * 0x1000 + 0x010 ∧ A.EM_STATUS x ≠ A.EM_TX_PAUSE x ∧ A.EM_STATUS x ≠ A.EM_LPI_ENTRIES x := by
  revert x
  decide

theorem pauseWdogFire_spec (hs : s.operating = true) (hp : s.flag (F.EM_STATUS_PAUSED x) = true) :
    ∃ t, exec (.pauseWdogFire x) s = .next t ∧ t.flag (F.EM_STATUS_PAUSED x) = false ∧
      t.flag (F.EM_STATUS_HOLD x) = true ∧ t.fld (F.EM_PAUSE_WDOG_TRIPS_COUNT x) = satAdd 32 (s.fld (F.EM_PAUSE_WDOG_TRIPS_COUNT x)) 1 ∧
      causeSet t (0x24 + x) 2 = true ∧ lastEvent t (0x24 + x) 0x0F01 ∧
      OnlyRegs s t [A.EM_STATUS x, A.EM_PAUSE_WDOG_TRIPS x, (0x24 + x) * 0x1000 + 0x010] := by
  obtain ⟨hne1, hne2, hne3, -, -⟩ := emStatus_apart x
  refine ⟨_, congrArg Host.Outcome.next (if_pos (by rw [hs, hp]; rfl)), ?_⟩
  simp only
  have hoff : (s.setFld (F.EM_STATUS_PAUSED x) 0).flag (F.EM_STATUS_PAUSED x) = false := State.flag_setFld_zero s (by simp)
  have ha := onlyRegs_setFld s (F.EM_STATUS_PAUSED x) 0
  generalize s.setFld (F.EM_STATUS_PAUSED x) 0 = a at *
  have hon : (a.setFld (F.EM_STATUS_HOLD x) 1).flag (F.EM_STATUS_HOLD x) = true := State.flag_setFld_one a rfl (by simp)
  have hoff' : (a.setFld (F.EM_STATUS_HOLD x) 1).flag (F.EM_STATUS_PAUSED x) = false :=
    (State.flag_setFld_apart a (f := F.EM_STATUS_HOLD x) (g := F.EM_STATUS_PAUSED x) 1 (by simp) (by simp)).trans hoff
  have hb := onlyRegs_setFld a (F.EM_STATUS_HOLD x) 1
  generalize a.setFld (F.EM_STATUS_HOLD x) 1 = b at *
  have hcount := State.fld_count_self b (F.EM_PAUSE_WDOG_TRIPS_COUNT x) 1 (by simp)
  have hc := onlyRegs_count b (F.EM_PAUSE_WDOG_TRIPS_COUNT x) 1
  generalize b.count (F.EM_PAUSE_WDOG_TRIPS_COUNT x) 1 = c at *
  generalize leBytes 4 (c.fld (F.EM_RX_PAUSE_IGNORED_COUNT x)) ++ leBytes 4 (c.fld (F.EM_PAUSE_WDOG_TRIPS_COUNT x)) = data
  have hdregs : (c.event (emPage x) 0 0x0F01 2 data).regs = c.regs := rfl
  have hlast := lastEvent_setCause (emPage x) 2 (lastEvent_event (s := c) (emPage x) 0 0x0F01 2 data)
  generalize c.event (emPage x) 0 0x0F01 2 data = d at *
  have he := onlyRegs_setCause d (emPage x) 2
  have hfld : ∀ f : Fld, f.addr ≠ (0x24 + x) * 0x1000 + 0x010 → (setCause d (emPage x) 2).fld f = c.fld f := fun f hf =>
    (he.fld (by simpa [emPage] using hf)).trans (State.fld_congr (State.reg_congr hdregs _))
  have hflag : ∀ f : Fld, f.addr ≠ (0x24 + x) * 0x1000 + 0x010 → (setCause d (emPage x) 2).flag f = c.flag f := fun f hf => by
    rw [State.flag, hfld f hf, State.flag]
  refine ⟨?_, ?_, ?_, ?_, hlast, fun r hr => ?_⟩
  · rw [hflag _ hne2, hc.flag (by simp), hoff']
  · rw [hflag _ hne2, hc.flag (by simp), hon]
  · rw [hfld _ hne3, hcount, hb.fld (by simp), ha.fld (by simp)]
  · exact (causeSet_setCause _ _ _ _ (by decide)).trans (by rw [beq_self_eq_true, Bool.or_true])
  · simp only [List.mem_cons, List.not_mem_nil, or_false, not_or] at hr
    rw [he r (by simpa [emPage] using hr.2.2), State.reg_congr hdregs, hc r (by simpa using hr.2.1), hb r (by simpa using hr.1), ha r (by simpa using hr.1)]

/-- PAUSE frames sent, one after another. -/
theorem pausesSent_spec (l : List Nat) (v : State) :
    (l.foldl (fun (t : State) q => (t.send (.eth x (pauseFrame x q))).count (F.EM_TX_PAUSE_COUNT x) 1) v).out = v.out ++ l.map (fun q => Out.eth x (pauseFrame x q)) ∧
    (l.foldl (fun (t : State) q => (t.send (.eth x (pauseFrame x q))).count (F.EM_TX_PAUSE_COUNT x) 1) v).fld (F.EM_TX_PAUSE_COUNT x) =
      satAdd 32 (v.fld (F.EM_TX_PAUSE_COUNT x)) l.length ∧
    OnlyRegs v (l.foldl (fun (t : State) q => (t.send (.eth x (pauseFrame x q))).count (F.EM_TX_PAUSE_COUNT x) 1) v) [A.EM_TX_PAUSE x] ∧
    (l.foldl (fun (t : State) q => (t.send (.eth x (pauseFrame x q))).count (F.EM_TX_PAUSE_COUNT x) 1) v).ports = v.ports := by
  induction l generalizing v with
  | nil =>
    have hlt : v.fld (F.EM_TX_PAUSE_COUNT x) < 2 ^ 32 := bitsOf_lt _ _ _
    refine ⟨(List.append_nil _).symm, ?_, fun _ _ => rfl, rfl⟩
    rw [List.foldl_nil, List.length_nil, satAdd]
    omega
  | cons q l ih =>
    rw [List.foldl_cons]
    have hout : ((v.send (.eth x (pauseFrame x q))).count (F.EM_TX_PAUSE_COUNT x) 1).out = v.out ++ [.eth x (pauseFrame x q)] := State.count_out _ _ _
    have hcount : ((v.send (.eth x (pauseFrame x q))).count (F.EM_TX_PAUSE_COUNT x) 1).fld (F.EM_TX_PAUSE_COUNT x) = satAdd 32 (v.fld (F.EM_TX_PAUSE_COUNT x)) 1 :=
      State.fld_count_self (v.send (.eth x (pauseFrame x q))) (F.EM_TX_PAUSE_COUNT x) 1 (by simp)
    have hreg : OnlyRegs v ((v.send (.eth x (pauseFrame x q))).count (F.EM_TX_PAUSE_COUNT x) 1) [A.EM_TX_PAUSE x] := fun r hr =>
      onlyRegs_count (v.send (.eth x (pauseFrame x q))) (F.EM_TX_PAUSE_COUNT x) 1 r hr
    have hports : ((v.send (.eth x (pauseFrame x q))).count (F.EM_TX_PAUSE_COUNT x) 1).ports = v.ports := State.count_ports _ _ _
    generalize (v.send (.eth x (pauseFrame x q))).count (F.EM_TX_PAUSE_COUNT x) 1 = w at *
    obtain ⟨ho, hc, hr, hp⟩ := ih w
    refine ⟨by rw [ho, hout, List.map_cons, List.append_assoc]; rfl, ?_, fun r h => (hr r h).trans (hreg r h), hp.trans hports⟩
    rw [hc, hcount, satAdd_satAdd, List.length_cons, Nat.add_comm]

theorem flushPause_sends (hw : (s.port x).waking = false) (hf : frameInProgress s x = false) :
    (flushPause s x).out = s.out ++ (s.port x).pauseDue.map (fun q => Out.eth x (pauseFrame x q)) ∧
    (flushPause s x).fld (F.EM_TX_PAUSE_COUNT x) = satAdd 32 (s.fld (F.EM_TX_PAUSE_COUNT x)) (s.port x).pauseDue.length ∧
    OnlyRegs s (flushPause s x) [A.EM_TX_PAUSE x] ∧ (flushPause s x).port x = { s.port x with pauseDue := [] } := by
  have hform : flushPause s x = (s.port x).pauseDue.foldl (fun (t : State) q => (t.send (.eth x (pauseFrame x q))).count (F.EM_TX_PAUSE_COUNT x) 1)
      (s.setPort x { s.port x with pauseDue := [] }) := if_neg (by rw [hw, hf]; decide)
  obtain ⟨ho, hc, hr, hp⟩ := pausesSent_spec x (s.port x).pauseDue (s.setPort x { s.port x with pauseDue := [] })
  rw [hform]
  have hregs : (s.setPort x { s.port x with pauseDue := [] }).regs = s.regs := State.setPort_regs _ _ _
  have hout : (s.setPort x { s.port x with pauseDue := [] }).out = s.out := State.setPort_out _ _ _
  have hport : (s.setPort x { s.port x with pauseDue := [] }).port x = { s.port x with pauseDue := [] } := State.port_setPort_self _ _ _
  generalize s.setPort x { s.port x with pauseDue := [] } = v at *
  exact ⟨ho.trans (by rw [hout]), hc.trans (by rw [State.fld_congr (State.reg_congr hregs _)]), fun r h => (hr r h).trans (State.reg_congr hregs r),
    by rw [State.port, hp]; exact hport⟩

theorem flushPause_held (h : (s.port x).waking = true ∨ frameInProgress s x = true) : flushPause s x = s :=
  if_pos (by simpa using h)

theorem frameInProgress_congr {y : Nat} (ht : t.tss = s.tss) (hf : t.fab = s.fab) : frameInProgress t y = frameInProgress s y := by
  rw [frameInProgress, frameInProgress, State.egress, ht, ← State.egress]
  simp only [State.queue, hf]

/-- PAUSE_TX_REPEAT of a port whose buffers are low: one more PAUSE frame is due. -/
theorem pauseTxRepeat_eq (hs : s.operating = true) (he : s.flag (F.EM_PAUSE_CFG_TX_PAUSE x) = true) (hl : sramFree s < s.fld F.FAB_BUF_CFG_LOW_CELLS)
    (hu : portUp s x = true) : exec (.pauseTxRepeat x) s = .next (flushPause ((leaveLpi s x).setPort x
      { (leaveLpi s x).port x with pauseDue := ((leaveLpi s x).port x).pauseDue ++ [s.fld (F.EM_PAUSE_CFG_TX_QUANTA x)] }) x) := by
  have hcond : (s.operating && s.flag (F.EM_PAUSE_CFG_TX_PAUSE x) && decide (sramFree s < s.fld F.FAB_BUF_CFG_LOW_CELLS)) = true := by
    rw [hs, he, decide_eq_true hl]
    rfl
  exact congrArg Host.Outcome.next ((if_pos hcond).trans (if_neg (by rw [hu]; decide)))

theorem pauseTxRepeat_spec (hs : s.operating = true) (he : s.flag (F.EM_PAUSE_CFG_TX_PAUSE x) = true) (hl : sramFree s < s.fld F.FAB_BUF_CFG_LOW_CELLS)
    (hu : portUp s x = true) :
    (s.flag (F.EM_STATUS_LPI_TX x) = false → (s.port x).waking = false → frameInProgress s x = true →
      ∃ t, exec (.pauseTxRepeat x) s = .next t ∧ t.out = s.out ∧ OnlyRegs s t [] ∧
        t.port x = { s.port x with pauseDue := (s.port x).pauseDue ++ [s.fld (F.EM_PAUSE_CFG_TX_QUANTA x)] }) ∧
    (s.flag (F.EM_STATUS_LPI_TX x) = false → (s.port x).waking = false → frameInProgress s x = false → (s.port x).pauseDue = [] →
      ∃ t, exec (.pauseTxRepeat x) s = .next t ∧
      t.out = s.out ++ [.eth x (pauseFrame x (s.fld (F.EM_PAUSE_CFG_TX_QUANTA x)))] ∧
      t.fld (F.EM_TX_PAUSE_COUNT x) = satAdd 32 (s.fld (F.EM_TX_PAUSE_COUNT x)) 1 ∧ OnlyRegs s t [A.EM_TX_PAUSE x]) ∧
    (s.flag (F.EM_STATUS_LPI_TX x) = true → ∃ t, exec (.pauseTxRepeat x) s = .next t ∧ t.flag (F.EM_STATUS_LPI_TX x) = false ∧
      t.port x = { s.port x with waking := true, pauseDue := (s.port x).pauseDue ++ [s.fld (F.EM_PAUSE_CFG_TX_QUANTA x)] } ∧ t.out = s.out ∧
      OnlyRegs s t [A.EM_STATUS x]) := by
  rw [pauseTxRepeat_eq x hs he hl hu]
  generalize s.fld (F.EM_PAUSE_CFG_TX_QUANTA x) = quanta
  have hdue : ∀ v : State, ∃ w, w = v.setPort x { v.port x with pauseDue := (v.port x).pauseDue ++ [quanta] } ∧ w.regs = v.regs ∧ w.out = v.out ∧
      w.port x = { v.port x with pauseDue := (v.port x).pauseDue ++ [quanta] } ∧ frameInProgress w x = frameInProgress v x := fun v =>
    ⟨_, rfl, State.setPort_regs _ _ _, State.setPort_out _ _ _, State.port_setPort_self _ _ _,
      frameInProgress_congr (State.setPort_tss _ _ _) (State.setPort_fab _ _ _)⟩
  obtain ⟨w, hw, hregs, hout, hport, hframe⟩ := hdue (leaveLpi s x)
  rw [← hw]
  clear hw
  refine ⟨fun hq hk hf => ?_, fun hq hk hf hp => ?_, fun hq => ?_⟩
  · rw [show leaveLpi s x = s from if_neg (by rw [hq]; decide)] at hregs hout hport hframe
    rw [flushPause_held x (Or.inr (hframe.trans hf))]
    exact ⟨w, rfl, hout, fun r _ => State.reg_congr hregs r, hport⟩
  · rw [show leaveLpi s x = s from if_neg (by rw [hq]; decide)] at hregs hout hport hframe
    obtain ⟨ho, hc, hr, -⟩ := flushPause_sends x (s := w) (by rw [hport]; exact hk) (hframe.trans hf)
    rw [hport, hp] at ho hc
    exact ⟨_, rfl, ho.trans (by rw [hout]; rfl), hc.trans (by rw [State.fld_congr (State.reg_congr hregs _)]; rfl),
      fun r h => (hr r h).trans (State.reg_congr hregs r)⟩
  · have hleave : leaveLpi s x = (s.setFld (F.EM_STATUS_LPI_TX x) 0).setPort x { s.port x with waking := true } := if_pos hq
    have hlpi : (leaveLpi s x).flag (F.EM_STATUS_LPI_TX x) = false := by
      rw [hleave]
      exact (State.flag_of_regs (State.setPort_regs _ _ _) _).trans (State.flag_setFld_zero s (by simp))
    have hlreg : OnlyRegs s (leaveLpi s x) [A.EM_STATUS x] := fun r h => by
      rw [hleave]
      exact (State.reg_congr (State.setPort_regs _ _ _) _).trans (onlyRegs_setFld s (F.EM_STATUS_LPI_TX x) 0 r h)
    have hlport : (leaveLpi s x).port x = { s.port x with waking := true } := by
      rw [hleave]
      exact State.port_setPort_self _ _ _
    have hlout : (leaveLpi s x).out = s.out := by
      rw [hleave]
      exact (State.setPort_out _ _ _).trans (State.setFld_out _ _ _)
    generalize leaveLpi s x = v at *
    rw [flushPause_held x (Or.inl (by rw [hport, hlport]))]
    exact ⟨w, rfl, (State.flag_of_regs hregs _).trans hlpi, hport.trans (by rw [hlport]), hout.trans hlout,
      fun r h => (State.reg_congr hregs r).trans (hlreg r h)⟩

/-! ### Low-power idle (R514, R515) -/

theorem lpiEnter_spec (hs : s.operating = true) (he : s.flag (F.EM_EEE_CFG_EN x) = true) (hr : 3 ≤ s.fld (F.EM_STATUS_RATE x)) (hi : portHasItem s x = false)
    (hg : s.pow.lgDue = []) (hp : (s.port x).pauseDue = []) (hw : (s.port x).waking = false) (hl : s.flag (F.EM_STATUS_LPI_TX x) = false) :
    ∃ t, exec (.lpiEnter x) s = .next t ∧ t.flag (F.EM_STATUS_LPI_TX x) = true ∧
      t.fld (F.EM_LPI_ENTRIES_COUNT x) = satAdd 32 (s.fld (F.EM_LPI_ENTRIES_COUNT x)) 1 ∧
      OnlyRegs s t [A.EM_STATUS x, A.EM_LPI_ENTRIES x] ∧ t = { s with regs := t.regs } := by
  have hcond : (s.operating && s.flag (F.EM_EEE_CFG_EN x) && decide (3 ≤ s.fld (F.EM_STATUS_RATE x)) && !portHasItem s x && !s.pow.lgDue.any (fun d => d.1 == x)
      && (s.port x).pauseDue.isEmpty && !(s.port x).waking && !s.flag (F.EM_STATUS_LPI_TX x)) = true := by
    rw [hs, he, decide_eq_true hr, hi, hg, hp, hw, hl]
    rfl
  obtain ⟨-, -, -, -, hne⟩ := emStatus_apart x
  refine ⟨_, congrArg Host.Outcome.next (if_pos hcond), ?_, ?_, (onlyRegs_setFld s (F.EM_STATUS_LPI_TX x) 1).trans (onlyRegs_count _ (F.EM_LPI_ENTRIES_COUNT x) 1), rfl⟩
  · exact ((onlyRegs_count _ (F.EM_LPI_ENTRIES_COUNT x) 1).flag (by simp)).trans (State.flag_setFld_one s rfl (by simp))
  · rw [State.fld_count_self _ _ _ (by simp), (onlyRegs_setFld s (F.EM_STATUS_LPI_TX x) 1).fld (by simp)]

theorem lpiWakeDone_spec (hs : s.operating = true) (hw : (s.port x).waking = true) :
    ((s.port x).pauseDue = [] ∨ frameInProgress s x = true → ∃ t, exec (.lpiWakeDone x) s = .next t ∧
      t.flag (F.EM_STATUS_LPI_TX x) = false ∧ t.port x = { s.port x with waking := false } ∧ t.out = s.out ∧ OnlyRegs s t [A.EM_STATUS x]) ∧
    (frameInProgress s x = false → ∃ t, exec (.lpiWakeDone x) s = .next t ∧
      t.port x = { s.port x with waking := false, pauseDue := [] } ∧
      t.out = s.out ++ (s.port x).pauseDue.map (fun q => Out.eth x (pauseFrame x q)) ∧
      t.fld (F.EM_TX_PAUSE_COUNT x) = satAdd 32 (s.fld (F.EM_TX_PAUSE_COUNT x)) (s.port x).pauseDue.length ∧
      OnlyRegs s t [A.EM_STATUS x, A.EM_TX_PAUSE x]) := by
  obtain ⟨-, -, -, hne, -⟩ := emStatus_apart x
  have hexec : exec (.lpiWakeDone x) s = .next (flushPause ((s.setFld (F.EM_STATUS_LPI_TX x) 0).setPort x { s.port x with waking := false }) x) := by
    refine congrArg Host.Outcome.next ((if_pos (by rw [hs, hw]; rfl)).trans ?_)
    simp only
    rw [State.port, State.setFld_ports, ← State.port]
  rw [hexec]
  clear hexec
  have hlpi : (s.setFld (F.EM_STATUS_LPI_TX x) 0).flag (F.EM_STATUS_LPI_TX x) = false := State.flag_setFld_zero s (by simp)
  have hareg := onlyRegs_setFld s (F.EM_STATUS_LPI_TX x) 0
  have hat : Touches [.regs] fabricPages s (s.setFld (F.EM_STATUS_LPI_TX x) 0) := touches_setFld_of (F.EM_STATUS_LPI_TX x) 0 (emTrunc_page x.isLt).2
  generalize s.setFld (F.EM_STATUS_LPI_TX x) 0 = a at *
  have hout : a.out = s.out := hat.part .out (by decide)
  have hframe : frameInProgress a x = frameInProgress s x := frameInProgress_congr (hat.part .tss (by decide)) (hat.part .fab (by decide))
  have hbregs : (a.setPort x { s.port x with waking := false }).regs = a.regs := State.setPort_regs _ _ _
  have hbout : (a.setPort x { s.port x with waking := false }).out = a.out := State.setPort_out _ _ _
  have hbport : (a.setPort x { s.port x with waking := false }).port x = { s.port x with waking := false } := State.port_setPort_self _ _ _
  have hbframe : frameInProgress (a.setPort x { s.port x with waking := false }) x = frameInProgress a x :=
    frameInProgress_congr (State.setPort_tss _ _ _) (State.setPort_fab _ _ _)
  generalize a.setPort x { s.port x with waking := false } = b at *
  have hbwake : (b.port x).waking = false := by rw [hbport]
  have hbreg : OnlyRegs s b [A.EM_STATUS x] := fun r h => (State.reg_congr hbregs r).trans (hareg r h)
  refine ⟨fun h => ?_, fun h => ?_⟩
  · by_cases hf : frameInProgress s x = true
    · rw [flushPause_held x (Or.inr (hbframe.trans (hframe.trans hf)))]
      exact ⟨b, rfl, (State.flag_of_regs hbregs _).trans hlpi, hbport, hbout.trans hout, hbreg⟩
    · have hnone : (s.port x).pauseDue = [] := h.resolve_right hf
      have hnone' : (b.port x).pauseDue = [] := by rw [hbport]; exact hnone
      obtain ⟨ho, -, hr, hp⟩ := flushPause_sends x hbwake (hbframe.trans (hframe.trans (by simpa using hf)))
      have hform : flushPause b x = b.setPort x { b.port x with pauseDue := [] } := by
        have : (b.port x).waking = false ∧ frameInProgress b x = false := ⟨hbwake, hbframe.trans (hframe.trans (by simpa using hf))⟩
        unfold flushPause
        rw [this.1, this.2, hnone']
        rfl
      have hregs' : (flushPause b x).regs = b.regs := by
        rw [hform]
        exact State.setPort_regs _ _ _
      refine ⟨_, rfl, ?_, ?_, ?_, fun r h => (State.reg_congr hregs' r).trans (hbreg r h)⟩
      · exact (State.flag_of_regs hregs' _).trans ((State.flag_of_regs hbregs _).trans hlpi)
      · rw [hp, hbport, ← hnone]
      · rw [ho, hnone', hbout, hout]
        exact List.append_nil _
  · obtain ⟨ho, hc, hr, hp⟩ := flushPause_sends x hbwake (hbframe.trans (hframe.trans h))
    rw [hbport] at ho hc hp
    refine ⟨_, rfl, hp, ho.trans (by rw [hbout, hout]), hc.trans ?_, hbreg.trans hr⟩
    rw [hbreg.fld (by simp)]

/-! ### MDIO (R525) -/

theorem mdio_apart : A.EM_MDIO_CMD x ≠ A.EM_MDIO_DATA x ∧ A.EM_MDIO_CMD x ≠ (0x24 + x) * 0x1000 + 0x010 ∧ A.EM_MDIO_DATA x ≠ (0x24 + x) * 0x1000 + 0x010 := by
  revert x
  decide

theorem mdioDone_spec (data : BitVec 16) (hs : s.operating = true) (hg : s.flag (F.EM_MDIO_CMD_GO x) = true)
    (hp : s.bus.goPending.contains (A.EM_MDIO_CMD x * 32 + 31) = false) :
    ∃ t, exec (.mdioDone x data) s = .next t ∧ t.flag (F.EM_MDIO_CMD_GO x) = false ∧ causeSet t (0x24 + x) 7 = true ∧
      ((s.port x).mdioRead = true → t.fld (F.EM_MDIO_DATA_DATA x) = data.toNat ∧ t.flag (F.EM_MDIO_DATA_VALID x) = true) ∧
      ((s.port x).mdioRead = false → t.reg (A.EM_MDIO_DATA x) = s.reg (A.EM_MDIO_DATA x)) ∧
      OnlyRegs s t [A.EM_MDIO_CMD x, A.EM_MDIO_DATA x, (0x24 + x) * 0x1000 + 0x010] := by
  obtain ⟨hne1, hne2, hne3⟩ := mdio_apart x
  have hshown : ∃ a, a = (if (s.port x).mdioRead then (s.setFld (F.EM_MDIO_DATA_DATA x) data.toNat).setFld (F.EM_MDIO_DATA_VALID x) 1 else s) ∧
      a.bus = s.bus ∧ OnlyRegs s a [A.EM_MDIO_DATA x] ∧
      ((s.port x).mdioRead = true → a.fld (F.EM_MDIO_DATA_DATA x) = data.toNat ∧ a.flag (F.EM_MDIO_DATA_VALID x) = true) ∧
      ((s.port x).mdioRead = false → a.reg (A.EM_MDIO_DATA x) = s.reg (A.EM_MDIO_DATA x)) := by
    cases hr : (s.port x).mdioRead with
    | false => exact ⟨s, (if_neg Bool.false_ne_true).symm, rfl, fun _ _ => rfl, (nomatch ·), fun _ => rfl⟩
    | true =>
      refine ⟨_, (if_pos rfl).symm, (State.setFld_bus _ _ _).trans (State.setFld_bus _ _ _),
        ((onlyRegs_setFld s (F.EM_MDIO_DATA_DATA x) _).trans (onlyRegs_setFld _ (F.EM_MDIO_DATA_VALID x) 1)).mono (by simp), fun _ => ⟨?_, ?_⟩, (nomatch ·)⟩
      · rw [State.fld_setFld_apart _ (F.EM_MDIO_DATA_VALID x) (F.EM_MDIO_DATA_DATA x) 1 (by simp) (by simp),
          State.fld_setFld_self s (F.EM_MDIO_DATA_DATA x) data.toNat (by simp)]
        exact Nat.mod_eq_of_lt data.isLt
      · exact State.flag_setFld_one _ rfl (by simp)
  obtain ⟨a, ha, hbus, hareg, hread, hwrite⟩ := hshown
  have hexec : exec (.mdioDone x data) s = .next (if (endGo (setCause a (emPage x) 7) (A.EM_MDIO_CMD x) 31).2 then
      mdioStart (endGo (setCause a (emPage x) 7) (A.EM_MDIO_CMD x) 31).1 x else (endGo (setCause a (emPage x) 7) (A.EM_MDIO_CMD x) 31).1) := by
    refine congrArg Host.Outcome.next ((if_pos (by rw [hs, hg]; rfl)).trans ?_)
    simp only
    rw [← ha]
  rw [hexec]
  clear hexec ha
  have hb := onlyRegs_setCause a (emPage x) 7
  have hcause : causeSet (setCause a (emPage x) 7) (0x24 + x) 7 = true := (causeSet_setCause _ _ _ _ (by decide)).trans (by
    rw [emPage, beq_self_eq_true, Bool.or_true])
  have hbbus : (setCause a (emPage x) 7).bus = s.bus := (setCause_bus _ _ _).trans hbus
  generalize setCause a (emPage x) 7 = b at *
  rw [endGo_setFld (f := F.EM_MDIO_CMD_GO x) rfl (by simp) (by rw [hbbus]; exact hp), if_neg Bool.false_ne_true]
  have hc := onlyRegs_setFld b (F.EM_MDIO_CMD_GO x) 0
  have hdata : (b.setFld (F.EM_MDIO_CMD_GO x) 0).reg (A.EM_MDIO_DATA x) = a.reg (A.EM_MDIO_DATA x) :=
    (hc _ (by simp)).trans (hb _ (by simpa [emPage] using hne3))
  refine ⟨_, rfl, State.flag_setFld_zero b (by simp), ?_, fun h => ?_, fun h => hdata.trans (hwrite h), fun r hr => ?_⟩
  · exact (congrArg (fun w : Word => bit w.toNat 7) (hc _ (by simpa using hne2.symm))).trans hcause
  · obtain ⟨h1, h2⟩ := hread h
    exact ⟨(State.fld_congr hdata).trans h1, (congrArg (· == 1) (State.fld_congr (f := F.EM_MDIO_DATA_VALID x) hdata)).trans h2⟩
  · simp only [List.mem_cons, List.not_mem_nil, or_false, not_or] at hr
    rw [hc r (by simpa using hr.1), hb r (by simpa [emPage] using hr.2.2), hareg r (by simpa using hr.2.1)]

/-- What a write of all but the GO bit takes of the word. -/
theorem bitsOf_merged_low (old data : Word) {l k : Nat} (h : l + k ≤ 31) :
    bitsOf ((old &&& ~~~(allBits &&& 0x7FFFFFFF#32)) ||| (data &&& (allBits &&& 0x7FFFFFFF#32))).toNat l k = bitsOf data.toNat l k := by
  have hmask : ∀ i < 31, (allBits &&& 0x7FFFFFFF#32).getLsbD i = true := by decide
  unfold bitsOf
  refine Nat.eq_of_testBit_eq fun i => ?_
  rw [Nat.testBit_mod_two_pow, Nat.testBit_mod_two_pow, Nat.testBit_div_two_pow, Nat.testBit_div_two_pow, BitVec.testBit_toNat, BitVec.testBit_toNat]
  by_cases hi : i < k
  · rw [BitVec.getLsbD_or, BitVec.getLsbD_and, BitVec.getLsbD_and, BitVec.getLsbD_not, hmask _ (by omega)]
    simp
  · simp [hi]

/-- A write of all but the GO bit stores a field of the word that takes the value. -/
theorem applyField_low {a page off : Nat} {data : Word} (acc : WriteAcc) {l k : Nat} (h0 : 0 < k) (hw : l + k ≤ 31)
    (hres : reservedEnc s (a / 0x1000 - page) page off l (bitsOf data.toNat l k)
      ((s.reg a &&& ~~~(allBits &&& 0x7FFFFFFF#32)) ||| (data &&& (allBits &&& 0x7FFFFFFF#32))).toNat = false) :
    applyField s a page off data (allBits &&& 0x7FFFFFFF#32) acc ⟨l, k, .rw, 32⟩ = { acc with word := insBits acc.word l k (bitsOf data.toNat l k) } := by
  have hm : bitsOf (allBits &&& 0x7FFFFFFF#32).toNat l k ≠ 0 := by
    have hfull : bitsOf (allBits &&& 0x7FFFFFFF#32).toNat l k = 2 ^ k - 1 := by
      have := bitsOf_merged_low 0#32 allBits hw
      rw [bitsOf_allBits l k (by omega)] at this
      rw [← this]
      rfl
    rw [hfull]
    exact Nat.sub_ne_zero_of_lt (Nat.one_lt_two_pow h0.ne')
  have hl : fieldLocked s a ⟨l, k, .rw, 32⟩ = false := rfl
  simp only [applyField, if_neg hm, bitsOf_merged_low _ _ hw, hl, hres, Bool.false_eq_true, if_false]

theorem mdioCmd_spec : specOf (A.EM_MDIO_CMD x) = some ⟨0x068, 1, 4, 0, [⟨0, 16, .rw, 32⟩, ⟨16, 5, .rw, 32⟩, ⟨21, 5, .rw, 32⟩, ⟨28, 2, .rw, 32⟩,
    ⟨30, 1, .rw, 32⟩, ⟨31, 1, .go, 32⟩]⟩ := by
  revert x
  decide +kernel

/-- The word of an MDIO command with the fields of `data`, its GO bit as it was. -/
def mdioWord (w data : Word) : Word :=
  insBits (insBits (insBits (insBits (insBits w 0 16 (bitsOf data.toNat 0 16)) 16 5 (bitsOf data.toNat 16 5)) 21 5 (bitsOf data.toNat 21 5))
    28 2 (bitsOf data.toNat 28 2)) 30 1 (bitsOf data.toNat 30 1)

theorem mdioWord_fields (w data : Word) : bitsOf (mdioWord w data).toNat 0 16 = bitsOf data.toNat 0 16 ∧ bitsOf (mdioWord w data).toNat 16 5 = bitsOf data.toNat 16 5 ∧
    bitsOf (mdioWord w data).toNat 21 5 = bitsOf data.toNat 21 5 ∧ bitsOf (mdioWord w data).toNat 28 2 = bitsOf data.toNat 28 2 ∧
    bitsOf (mdioWord w data).toNat 30 1 = bitsOf data.toNat 30 1 ∧ bitsOf (mdioWord w data).toNat 31 1 = bitsOf w.toNat 31 1 := by
  unfold mdioWord
  refine ⟨?_, ?_, ?_, ?_, ?_, ?_⟩
  · rw [bitsOf_insBits_apart _ _ _ _ _ _ (by decide) (by decide), bitsOf_insBits_apart _ _ _ _ _ _ (by decide) (by decide),
      bitsOf_insBits_apart _ _ _ _ _ _ (by decide) (by decide), bitsOf_insBits_apart _ _ _ _ _ _ (by decide) (by decide), bitsOf_insBits _ _ _ _ (by decide),
      Nat.mod_eq_of_lt (bitsOf_lt _ _ _)]
  · rw [bitsOf_insBits_apart _ _ _ _ _ _ (by decide) (by decide), bitsOf_insBits_apart _ _ _ _ _ _ (by decide) (by decide),
      bitsOf_insBits_apart _ _ _ _ _ _ (by decide) (by decide), bitsOf_insBits _ _ _ _ (by decide), Nat.mod_eq_of_lt (bitsOf_lt _ _ _)]
  · rw [bitsOf_insBits_apart _ _ _ _ _ _ (by decide) (by decide), bitsOf_insBits_apart _ _ _ _ _ _ (by decide) (by decide), bitsOf_insBits _ _ _ _ (by decide),
      Nat.mod_eq_of_lt (bitsOf_lt _ _ _)]
  · rw [bitsOf_insBits_apart _ _ _ _ _ _ (by decide) (by decide), bitsOf_insBits _ _ _ _ (by decide), Nat.mod_eq_of_lt (bitsOf_lt _ _ _)]
  · rw [bitsOf_insBits _ _ _ _ (by decide), Nat.mod_eq_of_lt (bitsOf_lt _ _ _)]
  · rw [bitsOf_insBits_apart _ _ _ _ _ _ (by decide) (by decide), bitsOf_insBits_apart _ _ _ _ _ _ (by decide) (by decide),
      bitsOf_insBits_apart _ _ _ _ _ _ (by decide) (by decide), bitsOf_insBits_apart _ _ _ _ _ _ (by decide) (by decide),
      bitsOf_insBits_apart _ _ _ _ _ _ (by decide) (by decide)]

theorem writeFields_mdioCmd (src : Requester) (data : Word) (h : bit data.toNat 30 = true ∨ bitsOf data.toNat 28 2 = 1 ∨ bitsOf data.toNat 28 2 = 2) :
    writeFields s src (A.EM_MDIO_CMD x) data (allBits &&& 0x7FFFFFFF#32) = s.setReg (A.EM_MDIO_CMD x) (mdioWord (s.reg (A.EM_MDIO_CMD x)) data) := by
  have hpage : basePage (A.EM_MDIO_CMD x / 0x1000) = 0x24 := by
    revert x
    decide +kernel
  have hfree : ∀ l v w, l ≠ 28 → reservedEnc s (A.EM_MDIO_CMD x / 0x1000 - 0x24) 0x24 0x068 l v w = false := fun l v w hl => by
    have : reservedForward s (A.EM_MDIO_CMD x / 0x1000 - 0x24) 0x068 l v w 0x24 = false := by
      unfold reservedForward
      split <;> first | rfl | omega
    exact this
  have hop : reservedEnc s (A.EM_MDIO_CMD x / 0x1000 - 0x24) 0x24 0x068 28 (bitsOf data.toNat 28 2)
      ((s.reg (A.EM_MDIO_CMD x) &&& ~~~(allBits &&& 0x7FFFFFFF#32)) ||| (data &&& (allBits &&& 0x7FFFFFFF#32))).toNat = false := by
    have hval : ∀ w v, reservedEnc s (A.EM_MDIO_CMD x / 0x1000 - 0x24) 0x24 0x068 28 v w = (!bit w 30 && (v == 0 || v == 3)) := fun _ _ => rfl
    rw [hval, bit_eq_bitsOf, bitsOf_merged_low _ _ (by decide), ← bit_eq_bitsOf]
    rcases h with h | h | h <;> rw [h]
    · rfl
    · exact Bool.and_false _
    · exact Bool.and_false _
  refine (writeFields_of_foldl s src _ data _ (mdioCmd_spec x) (w := mdioWord (s.reg (A.EM_MDIO_CMD x)) data) (reserved := false) ?_).trans rfl
  simp only [List.foldl_cons, List.foldl_nil]
  rw [hpage]
  rw [applyField_low _ (l := 0) (by decide) (by decide) (hfree _ _ _ (by decide)), applyField_low _ (l := 16) (by decide) (by decide) (hfree _ _ _ (by decide)),
    applyField_low _ (l := 21) (by decide) (by decide) (hfree _ _ _ (by decide)), applyField_low _ (l := 28) (by decide) (by decide) hop,
    applyField_low _ (l := 30) (by decide) (by decide) (hfree _ _ _ (by decide))]
  have hgo : bitsOf (allBits &&& 0x7FFFFFFF#32).toNat 31 1 = 0 := by decide
  simp only [applyField, hgo, if_true, mdioWord]

/-- The frame of the command as it stands goes out. -/
def mdioSent (c : State) (x : Nat) : State :=
  let s := c.setPort x { c.port x with mdioRead := if c.flag (F.EM_MDIO_CMD_CL45 x) then 2 ≤ c.fld (F.EM_MDIO_CMD_OP x) else c.fld (F.EM_MDIO_CMD_OP x) == 2 }
  s.send (.mdio x (s.flag (F.EM_MDIO_CMD_CL45 x)) (s.fld (F.EM_MDIO_CMD_OP x)) (s.fld (F.EM_MDIO_CMD_PHYAD x))
    (s.fld (F.EM_MDIO_CMD_REG x)) (s.fld (F.EM_MDIO_CMD_DATA x)))

theorem mdioSent_spec : (mdioSent s x).regs = s.regs ∧
    ((mdioSent s x).port x).mdioRead = (if s.flag (F.EM_MDIO_CMD_CL45 x) then decide (2 ≤ s.fld (F.EM_MDIO_CMD_OP x)) else s.fld (F.EM_MDIO_CMD_OP x) == 2) ∧
    (mdioSent s x).out = s.out ++ [.mdio x (s.flag (F.EM_MDIO_CMD_CL45 x)) (s.fld (F.EM_MDIO_CMD_OP x)) (s.fld (F.EM_MDIO_CMD_PHYAD x))
      (s.fld (F.EM_MDIO_CMD_REG x)) (s.fld (F.EM_MDIO_CMD_DATA x))] ∧
    mdioSent s x = { s with regs := (mdioSent s x).regs, ports := (mdioSent s x).ports, out := (mdioSent s x).out } := by
  unfold mdioSent
  generalize (if s.flag (F.EM_MDIO_CMD_CL45 x) then decide (2 ≤ s.fld (F.EM_MDIO_CMD_OP x)) else s.fld (F.EM_MDIO_CMD_OP x) == 2) = r
  have hport : (s.setPort x { s.port x with mdioRead := r }).port x = { s.port x with mdioRead := r } := State.port_setPort_self _ _ _
  exact ⟨rfl, congrArg Port.mdioRead hport, rfl, rfl⟩

theorem mdioGo_spec (src : Requester) (data : Word) (hs : s.inOperation = true) (hg : s.flag (F.EM_MDIO_CMD_GO x) = false)
    (h : bit data.toNat 30 = true ∨ bitsOf data.toNat 28 2 = 1 ∨ bitsOf data.toNat 28 2 = 2) : ∃ t, exec (.mdioGo src x data) s = .next t ∧
      t.flag (F.EM_MDIO_CMD_GO x) = true ∧ t.flag (F.EM_MDIO_DATA_VALID x) = false ∧
      (t.port x).mdioRead = (if bit data.toNat 30 then decide (2 ≤ bitsOf data.toNat 28 2) else bitsOf data.toNat 28 2 == 2) ∧
      t.out = s.out ++ [.mdio x (bit data.toNat 30) (bitsOf data.toNat 28 2) (bitsOf data.toNat 21 5) (bitsOf data.toNat 16 5) (bitsOf data.toNat 0 16)] ∧
      OnlyRegs s t [A.EM_MDIO_CMD x, A.EM_MDIO_DATA x] ∧ t = { s with regs := t.regs, ports := t.ports, out := t.out } := by
  obtain ⟨hne1, -, -⟩ := mdio_apart x
  have hlow : ∀ l k, l + k ≤ 31 → bitsOf (data ||| 0x80000000#32).toNat l k = bitsOf data.toNat l k := fun l k hlk => by
    have hmask : ∀ i < 31, (0x80000000#32).getLsbD i = false := by decide
    unfold bitsOf
    refine Nat.eq_of_testBit_eq fun i => ?_
    rw [Nat.testBit_mod_two_pow, Nat.testBit_mod_two_pow, Nat.testBit_div_two_pow, Nat.testBit_div_two_pow, BitVec.testBit_toNat, BitVec.testBit_toNat]
    by_cases hi : i < k
    · rw [BitVec.getLsbD_or, hmask _ (by omega), Bool.or_false]
    · simp [hi]
  have hbit : bit (data ||| 0x80000000#32).toNat 30 = bit data.toNat 30 := by rw [bit_eq_bitsOf, hlow 30 1 (by decide), bit_eq_bitsOf]
  have htop : (bit (data ||| 0x80000000#32).toNat 31 && bit allBits.toNat 31) = true := by
    rw [bit_eq_testBit, bit_eq_testBit, BitVec.testBit_toNat, BitVec.getLsbD_or]
    have : (0x80000000#32).getLsbD 31 = true ∧ allBits.toNat.testBit 31 = true := by decide
    rw [this.1, this.2, Bool.or_true]
    rfl
  obtain ⟨h0, h16, h21, h28, h30, h31⟩ := mdioWord_fields (s.reg (A.EM_MDIO_CMD x)) (data ||| 0x80000000#32)
  rw [hlow _ _ (by decide)] at h0 h16 h21 h28 h30
  generalize hw : mdioWord (s.reg (A.EM_MDIO_CMD x)) (data ||| 0x80000000#32) = w at *
  have hwrite : writeFields s src (A.EM_MDIO_CMD x) (data ||| 0x80000000#32) (allBits &&& 0x7FFFFFFF#32) = s.setReg (A.EM_MDIO_CMD x) w := by
    rw [writeFields_mdioCmd x src _ (by rw [hbit, hlow 28 2 (by decide)]; exact h), hw]
  have hreg : (s.setReg (A.EM_MDIO_CMD x) w).reg (A.EM_MDIO_CMD x) = w := State.reg_setReg_self _ _ _
  have hgo : (s.setReg (A.EM_MDIO_CMD x) w).flag (F.EM_MDIO_CMD_GO x) = false := by
    rw [State.flag, State.fld, hreg]
    exact (congrArg (· == 1) h31).trans hg
  have hform : mdioWrite s src x (data ||| 0x80000000#32) allBits = mdioStart ((s.setReg (A.EM_MDIO_CMD x) w).setFld (F.EM_MDIO_CMD_GO x) 1) x := by
    unfold mdioWrite
    simp only
    rw [hwrite, htop, if_pos rfl, hgo, if_neg Bool.false_ne_true]
    exact congrArg (fun v => mdioStart v x) (startGo_setFld (f := F.EM_MDIO_CMD_GO x) rfl (by simp) hgo)
  rw [show exec (.mdioGo src x data) s = .next (mdioWrite s src x (data ||| 0x80000000#32) allBits) from
    congrArg Host.Outcome.next (gateWrite_inOperation hs (modeCfg_implemented x).2 src _), hform]
  clear hform hwrite
  have hsreg := onlyRegs_setReg s (A.EM_MDIO_CMD x) w
  have hsame : SameButRegs s (s.setReg (A.EM_MDIO_CMD x) w) := rfl
  generalize s.setReg (A.EM_MDIO_CMD x) w = a at *
  have hon : (a.setFld (F.EM_MDIO_CMD_GO x) 1).flag (F.EM_MDIO_CMD_GO x) = true := State.flag_setFld_one a rfl (by simp)
  have hbfld : ∀ l k, l + k ≤ 31 → (a.setFld (F.EM_MDIO_CMD_GO x) 1).fld ⟨A.EM_MDIO_CMD x, l, k⟩ = bitsOf w.toNat l k := fun l k hlk => by
    rw [State.fld_setFld_apart a (F.EM_MDIO_CMD_GO x) ⟨A.EM_MDIO_CMD x, l, k⟩ 1 (by simp) (Or.inr (Or.inl hlk)), State.fld, hreg]
  have hbreg := onlyRegs_setFld a (F.EM_MDIO_CMD_GO x) 1
  have hbsame : SameButRegs s (a.setFld (F.EM_MDIO_CMD_GO x) 1) := hsame.trans rfl
  generalize a.setFld (F.EM_MDIO_CMD_GO x) 1 = b at *
  have hvalid : (b.setFld (F.EM_MDIO_DATA_VALID x) 0).flag (F.EM_MDIO_DATA_VALID x) = false := State.flag_setFld_zero b (by simp)
  have hcreg := onlyRegs_setFld b (F.EM_MDIO_DATA_VALID x) 0
  have hcsame : SameButRegs s (b.setFld (F.EM_MDIO_DATA_VALID x) 0) := hbsame.trans rfl
  have hform : mdioStart b x = mdioSent (b.setFld (F.EM_MDIO_DATA_VALID x) 0) x := rfl
  rw [hform]
  clear hform
  generalize b.setFld (F.EM_MDIO_DATA_VALID x) 0 = c at *
  have hword : c.reg (A.EM_MDIO_CMD x) = b.reg (A.EM_MDIO_CMD x) := hcreg _ (by simp)
  have hcfld : ∀ l k, l + k ≤ 31 → c.fld ⟨A.EM_MDIO_CMD x, l, k⟩ = bitsOf w.toNat l k := fun l k hlk => (State.fld_congr hword).trans (hbfld l k hlk)
  have hop : c.fld (F.EM_MDIO_CMD_OP x) = bitsOf data.toNat 28 2 := (hcfld 28 2 (by decide)).trans h28
  have hcl : c.flag (F.EM_MDIO_CMD_CL45 x) = bit data.toNat 30 := by
    rw [State.flag, show c.fld (F.EM_MDIO_CMD_CL45 x) = bitsOf data.toNat 30 1 from (hcfld 30 1 (by decide)).trans h30, bit_eq_bitsOf]
  obtain ⟨hregs, hport, hout, hrest⟩ := mdioSent_spec x (s := c)
  rw [hop, hcl] at hport hout
  rw [show c.fld (F.EM_MDIO_CMD_PHYAD x) = bitsOf data.toNat 21 5 from (hcfld 21 5 (by decide)).trans h21,
    show c.fld (F.EM_MDIO_CMD_REG x) = bitsOf data.toNat 16 5 from (hcfld 16 5 (by decide)).trans h16,
    show c.fld (F.EM_MDIO_CMD_DATA x) = bitsOf data.toNat 0 16 from (hcfld 0 16 (by decide)).trans h0,
    show c.out = s.out from hcsame.part State.out (fun _ _ => rfl)] at hout
  generalize mdioSent c x = d at *
  refine ⟨d, rfl, ?_, (State.flag_of_regs hregs _).trans hvalid, hport, hout, fun r hr => ?_, ?_⟩
  · refine (State.flag_of_regs hregs _).trans ?_
    rw [State.flag, State.fld_congr (f := F.EM_MDIO_CMD_GO x) hword]
    exact hon
  · simp only [List.mem_cons, List.not_mem_nil, or_false, not_or] at hr
    rw [State.reg_congr hregs, hcreg r (by simpa using hr.2), hbreg r (by simpa using hr.1), hsreg r (by simpa using hr.1)]
  · unfold SameButRegs at hcsame
    rw [hcsame] at hrest
    exact hrest

end

/-! ### The statement -/

/-- Settles O56: the link of a port through `setRate`, its PAUSE frames through `flushPause`, its MDIO frames through the fields of MDIO_CMD. -/
theorem portsLinkPauseSleepAndManage : Obligations.PortsLinkPauseSleepAndManage :=
  ⟨fun _ x rate sending hs hr => ethLinkChange_spec x rate sending hs hr,
    fun _ x pause hs ha hm => anDone_spec x pause hs ha hm,
    fun _ src x data hs => ⟨fun hb => ethModeWrite_busy x src data hs hb, fun htx hrx hl => ethModeWrite_idle x src data hs htx hrx hl⟩,
    fun _ x hs => ⟨pauseExpiry_spec x hs, pauseHoldEnd_spec x hs, fun hp => pauseWdogFire_spec x hs hp,
      fun he hl hu => pauseTxRepeat_spec x hs he hl hu, fun he hr hi hg hp hw hl => lpiEnter_spec x hs he hr hi hg hp hw hl,
      fun hw => lpiWakeDone_spec x hs hw, fun data hg hp => mdioDone_spec x data hs hg hp⟩,
    fun _ src x data hs hg h => mdioGo_spec x src data hs hg h⟩

end Sys2Proof.Machine
end

section
/-!
PROOFS. The regulatory unit (10_regulatory_enforcement.md): the statement O53.
-/
namespace Sys2Proof.Machine

-- One proof after another: side by side, the threads of so long a text want more memory than the check grants.
set_option Elab.async false

section
variable {s t u : State} {n : Nat}

/-! ### Accounts -/

theorem AcctSet.acct_put_ne (x : AcctSet) {j k : Nat} (a : Acct) (h : k ≠ j) : (x.put j a).acct k = x.acct k := Tbl.get_put_ne _ _ _ h

/-- Charges put to some accounts leave the others, the profile and its lanes. -/
theorem AcctSet.foldl_put (f : AcctSet → Nat → Acct) (ks : List Nat) (x : AcctSet) :
    (ks.foldl (fun y k => y.put k (f y k)) x).code = x.code ∧ (ks.foldl (fun y k => y.put k (f y k)) x).perLane = x.perLane ∧
      ∀ k, k ∉ ks → (ks.foldl (fun y k => y.put k (f y k)) x).acct k = x.acct k := by
  induction ks generalizing x with
  | nil => exact ⟨rfl, rfl, fun _ _ => rfl⟩
  | cons j ks ih =>
    obtain ⟨hcode, hlane, hacct⟩ := ih (x.put j (f x j))
    refine ⟨hcode, hlane, fun k hk => ?_⟩
    rw [List.mem_cons, not_or] at hk
    exact (hacct k hk.2).trans (AcctSet.acct_put_ne x _ hk.1)

/-- Whose accounts a transmission is charged to depends on the time and on the accounts alone. -/
theorem setFor_congr (start : Nat) (hn : t.now = s.now) (hm : t.mac = s.mac) (hr : t.rgl = s.rgl) : setFor t start = setFor s start := by
  unfold setFor underNext nextStart beforeZero sfnNow sfnAt superStart State.nowNs
  rw [hn, hm, hr]

/-- The accounts put are those found anew. -/
theorem setFor_putSet (start : Nat) (x : AcctSet) : setFor (putSet s start x) start = x := by
  have hunder : ∀ r : Rgl, r.next.isSome = s.rgl.next.isSome → underNext { s with rgl := r } start = underNext s start := fun r hr =>
    congrArg (· && decide (nextStart s ≤ start)) hr
  have hset : ∀ r : Rgl, setFor { s with rgl := r } start = if underNext { s with rgl := r } start then r.next.getD r.cur else r.cur := fun _ => rfl
  unfold putSet
  cases h : underNext s start with
  | true =>
    have hsome : s.rgl.next.isSome = true := by
      unfold underNext at h
      rw [Bool.and_eq_true] at h
      exact h.1
    rw [if_pos rfl, hset, if_pos ((hunder _ (by rw [hsome]; rfl)).trans h)]
    rfl
  | false =>
    rw [if_neg Bool.false_ne_true, hset]
    exact if_neg (fun e => Bool.false_ne_true (h.symm.trans ((hunder _ rfl).symm.trans e)))

/-! ### Grants (R378–R381, R387) -/

theorem firstRequest_mem {ts : List Tx} {x : Tx} (h : firstRequest ts = some x) : x ∈ ts := by
  have hfold : ∀ (l : List Tx) (best : Option Tx), l.foldl (fun best t => match best with
      | none => some t
      | some b => if t.kind < b.kind then some t else some b) best = some x → x ∈ l ∨ best = some x := fun l => by
    induction l with
    | nil => exact fun best hb => Or.inr hb
    | cons y l ih =>
      intro best hb
      rcases ih _ hb with hm | hm
      · exact Or.inl (List.mem_cons_of_mem _ hm)
      · cases best with
        | none =>
          cases hm
          exact Or.inl (List.mem_cons_self ..)
        | some b =>
          simp only at hm
          split at hm
          · cases hm
            exact Or.inl (List.mem_cons_self ..)
          · exact Or.inr hm
  rcases hfold _ _ h with hm | hm
  · exact (List.mem_filter.mp hm).1
  · cases hm

theorem requestOf_mem {r : Tx} (h : requestOf s n = some r) : r ∈ (s.lane n).txs := (List.mem_filter.mp (firstRequest_mem h)).1

theorem swapTx_mem {old x : Tx} (h : old ∈ (s.lane n).txs) : x ∈ ((swapTx s n old (some x)).lane n).txs := by
  have htxs : ((swapTx s n old (some x)).lane n).txs = (s.lane n).txs.map (fun y => if y == old then x else y) :=
    congrArg LaneSt.txs (State.lane_setLane_self n _)
  rw [htxs, List.mem_map]
  exact ⟨old, h, by rw [beq_self_eq_true, if_pos rfl]⟩

/-- A transmission granted: its charge made, counted, and with the lane. -/
def granted (s : State) (n : Nat) (old x : Tx) (ks : List Nat) (c : Nat) : State :=
  let y := setFor s x.start
  let b := y.bucketAt (s.dev.upCycles + (x.start - s.nowNs) / 4)
  swapTx ((putSet s x.start (ks.foldl (fun y k => y.put k ((y.acct k).add b x.cls c)) y)).count F.RGL_GRANTS_COUNT 1) n old
    (some { x with stage := 1, charge := c, accts := ks, bucket := b })

theorem grantRequest_ok {r x : Tx} {ks : List Nat} {c : Nat} (hr : requestOf s n = some r) (ht : grantTurn s n r = true) (hsh : shaped s n r = (some x, s))
    (hj : judge s (setFor s x.start) n x = .ok (ks, c)) : grantRequest s n = (match x.taken with
      | some c' => radioCharge (granted s n r x ks c) n c' true
      | none => granted s n r x ks c) := by
  unfold grantRequest grant granted
  simp only [hr, Option.filter, ht, if_true, hsh, hj] <;> cases x.taken <;> rfl

theorem grantRequest_error {r x : Tx} {why k : Nat} (hr : requestOf s n = some r) (ht : grantTurn s n r = true) (hsh : shaped s n r = (some x, s))
    (hj : judge s (setFor s x.start) n x = .error (why, k)) : grantRequest s n = txEnds (swapTx (withheld s n x why k) n r none) n x .withheld := by
  unfold grantRequest grant
  simp only [hr, Option.filter, ht, if_true, hsh, hj]

theorem granted_spec {r x : Tx} (ks : List Nat) (c : Nat) (hr : r ∈ (s.lane n).txs) : (granted s n r x ks c).fld F.RGL_GRANTS_COUNT = satAdd 32 (s.fld F.RGL_GRANTS_COUNT) 1 ∧
    (∃ g, g ∈ ((granted s n r x ks c).lane n).txs ∧ g.stage = 1 ∧ g.charge = c ∧ g.accts = ks ∧ g.start = x.start ∧ g.content = x.content) ∧
    (∀ k, k ∉ ks → (setFor (granted s n r x ks c) x.start).acct k = (setFor s x.start).acct k) := by
  unfold granted
  simp only
  generalize (setFor s x.start).bucketAt (s.dev.upCycles + (x.start - s.nowNs) / 4) = b
  obtain ⟨-, -, hacct⟩ := AcctSet.foldl_put (fun y k => (y.acct k).add b x.cls c) ks (setFor s x.start)
  generalize ks.foldl (fun y k => y.put k ((y.acct k).add b x.cls c)) (setFor s x.start) = y at *
  have hset := setFor_putSet (s := s) x.start y
  have hput := touches_putSet (s := s) x.start y
  generalize putSet s x.start y = p at *
  have hcount := State.fld_count_self p F.RGL_GRANTS_COUNT 1 (by decide)
  have hq := touches_count (x := p) F.RGL_GRANTS_COUNT 1
  generalize p.count F.RGL_GRANTS_COUNT 1 = q at *
  have hmem : r ∈ (q.lane n).txs := by
    rw [State.lane, show q.lanes = p.lanes from hq.part .lanes (by decide), show p.lanes = s.lanes from hput.part .lanes (by decide)]
    exact hr
  have hswap := touches_swapTx (s := q) (n := n) r (some { x with stage := 1, charge := c, accts := ks, bucket := b })
  refine ⟨?_, ⟨_, swapTx_mem hmem, rfl, rfl, rfl, rfl, rfl⟩, fun k hk => ?_⟩
  · rw [hswap.fld (by simp), hcount, hput.fld (by simp)]
  · rw [setFor_congr (s := q) x.start (hswap.part .now (by decide)) (hswap.part .mac (by decide)) (hswap.part .rgl (by decide)),
      setFor_congr (s := p) x.start (hq.part .now (by decide)) (hq.part .mac (by decide)) (hq.part .rgl (by decide)), hset, hacct k hk]

/-- A transmission withheld is counted once. -/
theorem withheld_count (x : Tx) (why k : Nat) : (withheld s n x why k).fld F.RGL_WITHHELD_COUNT = satAdd 32 (s.fld F.RGL_WITHHELD_COUNT) 1 := by
  have hcount := State.fld_count_self s F.RGL_WITHHELD_COUNT 1 (by decide)
  have hcause : ∀ (v : State) (b : Nat), (setCause v 0x1D b).fld F.RGL_WITHHELD_COUNT = v.fld F.RGL_WITHHELD_COUNT := fun v b =>
    (onlyRegs_setCause v 0x1D b).fld (by decide)
  have hother : ∀ (v : State) (f : Fld), f.addr ≠ A.RGL_WITHHELD → (v.count f 1).fld F.RGL_WITHHELD_COUNT = v.fld F.RGL_WITHHELD_COUNT := fun v f hf =>
    (onlyRegs_count v f 1).fld (by simpa using hf.symm)
  unfold withheld
  simp only
  generalize s.count F.RGL_WITHHELD_COUNT 1 = v at *
  split
  · split
    · exact (hcause v 0).trans hcount
    · exact (State.fld_congr (((touches_putSet _ _).reg _ (by simp)))).trans ((hcause v 0).trans hcount)
  · exact hcount
  · exact (hother v F.RGL_NO_PROFILE_COUNT (by decide)).trans hcount
  · exact (hcause _ 4).trans ((hother v F.RGL_OUT_OF_PROFILE_COUNT (by decide)).trans hcount)

theorem grantRequest_spec (n : Lane) {r x : Tx} (hs : s.engaged = true) (hl : laneServed s n = true) (hr : requestOf s n = some r) (ht : grantTurn s n r = true)
    (hsh : shaped s n r = (some x, s)) :
    (∀ ks c, judge s (setFor s x.start) n x = .ok (ks, c) → ∃ t, exec (.grantRequest n) s = .next t ∧
      t.fld F.RGL_GRANTS_COUNT = satAdd 32 (s.fld F.RGL_GRANTS_COUNT) 1 ∧
      (∃ g, g ∈ (t.lane n).txs ∧ g.stage = 1 ∧ g.charge = c ∧ g.accts = ks ∧ g.start = x.start ∧ g.content = x.content) ∧
      (∀ k, k ∉ ks → (setFor t x.start).acct k = (setFor s x.start).acct k)) ∧
    (∀ why k, judge s (setFor s x.start) n x = .error (why, k) → ∃ t, exec (.grantRequest n) s = .next t ∧
      t.fld F.RGL_WITHHELD_COUNT = satAdd 32 (s.fld F.RGL_WITHHELD_COUNT) 1) := by
  have hexec : exec (.grantRequest n) s = .next (grantRequest s n) := congrArg Host.Outcome.next (if_pos (by rw [hs, hl]; rfl))
  rw [hexec]
  refine ⟨fun ks c hj => ?_, fun why k hj => ?_⟩
  · rw [grantRequest_ok hr ht hsh hj]
    obtain ⟨hcount, hmem, hacct⟩ := granted_spec (x := x) ks c (requestOf_mem hr)
    generalize granted s n r x ks c = v at *
    split
    · have hcharge := touches_radioCharge (s := v) n ‹_› true
      refine ⟨_, rfl, (hcharge.fld (by simp)).trans hcount, ?_, fun k hk => ?_⟩
      · rw [State.lane, show (radioCharge v n _ true).lanes = v.lanes from hcharge.part .lanes (by decide)]
        exact hmem
      · rw [setFor_congr (s := v) x.start (hcharge.part .now (by decide)) (hcharge.part .mac (by decide)) (hcharge.part .rgl (by decide))]
        exact hacct k hk
    · exact ⟨v, rfl, hcount, hmem, hacct⟩
  · rw [grantRequest_error hr ht hsh hj]
    refine ⟨_, rfl, ?_⟩
    rw [(touches_txEnds n.isLt x (Or.inl (by decide))).fld (by decide), (touches_swapTx r none).fld (by simp), withheld_count]

/-! ### Listen before talk (R384) -/

/-- The registers of RGL but the two counts of what is withdrawn. -/
def LbtKept (s t : State) : Prop := ∀ a, a / 0x1000 = 0x1D → a ≠ A.RGL_REFUNDS → a ≠ A.RGL_WITHHELD → t.reg a = s.reg a

theorem LbtKept.trans (h : LbtKept s t) (h' : LbtKept t u) : LbtKept s u := fun a h1 h2 h3 => (h' a h1 h2 h3).trans (h a h1 h2 h3)

theorem LbtKept.of {ps : List Area} {gs : List Nat} (h : Touches ps gs s t) (hg : 0x1D ∉ gs := by decide) : LbtKept s t := fun a ha _ _ =>
  h.reg a (by rw [ha]; exact hg)

theorem lbtKept_giveBack (x : Tx) : LbtKept s (giveBack s n x) := by
  have hrefund : LbtKept s (refund s x) := fun a _ h _ =>
    (onlyRegs_count (recharge s x _) F.RGL_REFUNDS_COUNT 1 a (by simpa using h)).trans ((touches_putSet x.start _).reg a (by simp))
  unfold giveBack
  split
  · exact hrefund.trans (LbtKept.of (touches_radioCharge n _ false))
  · exact hrefund

theorem lbtKept_withheld (x : Tx) : LbtKept s (withheld s n x 4 0) := fun a _ _ h => onlyRegs_count s F.RGL_WITHHELD_COUNT 1 a (by simpa using h)

theorem touches_generate (k : Nat) : Touches [.regs, .sec, .fresh] [0x2A] s (generate s k).2 := by
  unfold generate
  simp only
  split
  · exact Touches.refl s
  · refine Touches.then ?_ (touches_drawBytes _ k)
    exact (touches_count F.TRNG_GENERATES_COUNT 1).mono.then (touches_parts (gs := []) [.sec] rfl)

theorem touches_recharge (x : Tx) (d : Int) : Touches [.rgl] [] s (recharge s x d) := touches_putSet x.start _

theorem touches_moveStart (x : Tx) (start : Nat) : Touches [.rgl, .lanes] [] s (moveStart s n x start) := by
  unfold moveStart
  exact ((touches_recharge x _).mono.then (touches_recharge _ _)).then (touches_swapTx x _)

/-- A transmission withheld for the busy medium, its charge given back. -/
def lbtStopped (s : State) (n : Nat) (x : Tx) : State :=
  settle (txEnds (swapTx (withheld (giveBack s n x) n x 4 0) n x none) n x .withheld) n

theorem lbtKept_stopped (hn : n < 4) (x : Tx) : LbtKept s (lbtStopped s n x) :=
  ((((lbtKept_giveBack x).trans (lbtKept_withheld x)).trans (LbtKept.of (touches_swapTx x none))).trans
    (LbtKept.of (touches_txEnds hn x (Or.inl (by decide))))).trans (LbtKept.of (touches_settle hn))

/-- A transmission withheld for its gate, its charge given back. -/
def lbtGated (s : State) (n : Nat) (x : Tx) : State :=
  settle (txEnds (swapTx ((giveBack s n x).count F.TSS_RADIO_GATED_COUNT 1) n x none) n x .withheld) n

theorem lbtKept_gated (hn : n < 4) (x : Tx) : LbtKept s (lbtGated s n x) :=
  ((((lbtKept_giveBack x).trans (LbtKept.of (touches_count F.TSS_RADIO_GATED_COUNT 1))).trans (LbtKept.of (touches_swapTx x none))).trans
    (LbtKept.of (touches_txEnds hn x (Or.inl (by decide))))).trans (LbtKept.of (touches_settle hn))

/-- What becomes of `x` whose medium is busy: withheld for the medium or for its gate, or moved. -/
inductive LbtEnd (v : State) (n : Nat) (x : Tx) : State → Prop where
  | stopped : LbtEnd v n x (lbtStopped v n x)
  | late : LbtEnd v n x (lbtStopped (generate v 1).2 n x)
  | gated : LbtEnd v n x (lbtGated (generate v 1).2 n x)
  | moved (start : Nat) : LbtEnd v n x (moveStart (generate v 1).2 n x start)

theorem lbtSenseEnd_busy {power : Int} {x : Tx} (hx : (s.lane n).txs.find? (fun t => t.stage == 2) = some x) (hc : (setFor s x.start).code = 6)
    (hl : laneLocked s n = true) (hch : laneChannel s n = x.channel) (hb : mediumBusy s n power = true) :
    LbtEnd (setCause (s.count F.RGL_LBT_BUSY_COUNT 1) 0x1D 3) n x (lbtSenseEnd s n power) := by
  have hcond : ((setFor s x.start).code != 6 || !laneLocked s n || laneChannel s n != x.channel) = false := by
    rw [hc, hl, hch, bne_self_eq_false, bne_self_eq_false]
    rfl
  unfold lbtSenseEnd
  simp only [hx, hcond, hb, Bool.false_eq_true, if_false, Bool.not_true]
  generalize setCause (s.count F.RGL_LBT_BUSY_COUNT 1) 0x1D 3 = v
  have hlate := LbtEnd.late (v := v) (n := n) (x := x)
  have hgated := LbtEnd.gated (v := v) (n := n) (x := x)
  have hmoved := LbtEnd.moved (v := v) (n := n) (x := x)
  split
  · exact LbtEnd.stopped
  · generalize generate v 1 = g at *
    obtain ⟨drawn, w⟩ := g
    cases drawn <;>
    · simp only at hlate hgated hmoved ⊢
      split
      · exact hlate
      · split
        · exact hgated
        · exact hmoved _

theorem lbtSenseEnd_spec (n : Lane) (power : Int) {x : Tx} (hs : s.engaged = true) (hx : (s.lane n).txs.find? (fun t => t.stage == 2) = some x)
    (hc : (setFor s x.start).code = 6) (hl : laneLocked s n = true) (hch : laneChannel s n = x.channel) :
    (power - 8 * signed 8 (s.fld (F.RGL_EXT_GAIN_RX_GAIN n)) < -1280 → ∃ t, exec (.lbtSenseEnd n power) s = .next t ∧
      { x with stage := 3 } ∈ (t.lane n).txs ∧ t = { s with lanes := t.lanes }) ∧
    (-1280 ≤ power - 8 * signed 8 (s.fld (F.RGL_EXT_GAIN_RX_GAIN n)) → ∃ t, exec (.lbtSenseEnd n power) s = .next t ∧
      t.fld F.RGL_LBT_BUSY_COUNT = satAdd 32 (s.fld F.RGL_LBT_BUSY_COUNT) 1 ∧ causeSet t 0x1D 3 = true) := by
  have hexec : exec (.lbtSenseEnd n power) s = .next (lbtSenseEnd s n power) := congrArg Host.Outcome.next (if_pos hs)
  rw [hexec]
  refine ⟨fun hp => ?_, fun hp => ?_⟩
  · have hfree : mediumBusy s n power = false := decide_eq_false (by omega)
    have hcond : ((setFor s x.start).code != 6 || !laneLocked s n || laneChannel s n != x.channel) = false := by
      rw [hc, hl, hch, bne_self_eq_false, bne_self_eq_false]
      rfl
    have hform : lbtSenseEnd s n power = swapTx s n x (some { x with stage := 3 }) := by
      unfold lbtSenseEnd
      simp only [hx, hcond, hfree, Bool.false_eq_true, if_false, Bool.not_false, if_true]
    rw [hform]
    exact ⟨_, rfl, swapTx_mem (List.mem_of_find?_eq_some hx), rfl⟩
  · have hbusy : mediumBusy s n power = true := decide_eq_true hp
    have hend := lbtSenseEnd_busy hx hc hl hch hbusy
    have hcount : (setCause (s.count F.RGL_LBT_BUSY_COUNT 1) 0x1D 3).fld F.RGL_LBT_BUSY_COUNT = satAdd 32 (s.fld F.RGL_LBT_BUSY_COUNT) 1 := by
      rw [(onlyRegs_setCause _ 0x1D 3).fld (by decide), State.fld_count_self _ _ _ (by decide)]
    have hcause : causeSet (setCause (s.count F.RGL_LBT_BUSY_COUNT 1) 0x1D 3) 0x1D 3 = true := by
      rw [causeSet_setCause _ _ _ _ (by decide), beq_self_eq_true, Bool.or_true]
    generalize setCause (s.count F.RGL_LBT_BUSY_COUNT 1) 0x1D 3 = v at *
    have hgen : LbtKept v (generate v 1).2 := LbtKept.of (touches_generate 1)
    have hkept : LbtKept v (lbtSenseEnd s n power) := by
      generalize lbtSenseEnd s n power = w at hend ⊢
      cases hend with
      | stopped => exact lbtKept_stopped n.isLt x
      | late => exact hgen.trans (lbtKept_stopped n.isLt x)
      | gated => exact hgen.trans (lbtKept_gated n.isLt x)
      | moved start => exact hgen.trans (LbtKept.of (touches_moveStart x start))
    exact ⟨_, rfl, (State.fld_congr (hkept _ (by decide) (by decide) (by decide))).trans hcount,
      (congrArg (fun w : Word => bit w.toNat 3) (hkept 0x1D010 (by decide) (by decide) (by decide))).trans hcause⟩

/-! ### Buckets and profiles (R374–R376, R383) -/

theorem bucketBoundary_spec (ha : s.answers = true) (hc : s.rgl.cur.code ≠ 0) : ∃ t, exec .rglBucketBoundary s = .next t ∧
    t.rgl.cur.bucket = s.rgl.cur.bucket + 1 ∧ t = { s with rgl := t.rgl } ∧
    ∀ k e, e ∈ (t.rgl.cur.acct k).buckets → s.rgl.cur.bucket + 1 ≤ e.1 + 16 := by
  have hcond : (s.answers && s.rgl.cur.code != 0) = true := by rw [ha, Bool.true_and, bne_iff_ne]; exact hc
  refine ⟨_, congrArg Host.Outcome.next (if_pos hcond), rfl, rfl, fun k e he => ?_⟩
  have hget : (bucketBoundary s).rgl.cur.acct k = { s.rgl.cur.acct k with
      buckets := (s.rgl.cur.acct k).buckets.filter (fun e => s.rgl.cur.bucket + 1 ≤ e.1 + 16), told := false } := Tbl.get_mapVals _ _ _ _ rfl
  rw [hget] at he
  exact of_decide_eq_true (List.mem_filter.mp he).2

theorem profileRegs (ctrl : Bool) : implemented (if ctrl then A.RGL_CTRL else A.RGL_PROFILE) = true ∧ (if ctrl then A.RGL_CTRL else A.RGL_PROFILE) / 0x1000 = 0x1D := by
  revert ctrl
  decide +kernel

theorem profileWrite_spec (src : Requester) (ctrl : Bool) (data : Word) (hs : s.inOperation = true) {a : Nat} (ha : a = (if ctrl then A.RGL_CTRL else A.RGL_PROFILE))
    (hw : (writeFields s src a data allBits).reg a ≠ s.reg a) : ∃ t, exec (.profileWrite src ctrl data) s = .next t ∧ t.rgl.due = true ∧
      t.fld F.RGL_STATUS_PENDING = t.fld F.RGL_PROFILE_CODE ∧ t.rgl.cur = s.rgl.cur ∧ SameMemory s t := by
  obtain ⟨himp, -⟩ := profileRegs ctrl
  rw [← ha] at himp
  have hexec : exec (.profileWrite src ctrl data) s = .next (profileWrite s src a data allBits) := by
    rw [ha] at himp ⊢
    exact congrArg Host.Outcome.next (gateWrite_inOperation hs himp src _)
  have hform : profileWrite s src a data allBits = ({ writeFields s src a data allBits with rgl := { (writeFields s src a data allBits).rgl with due := true } }).setFld
      F.RGL_STATUS_PENDING ((writeFields s src a data allBits).fld F.RGL_PROFILE_CODE) := if_neg hw
  have htouch := touches_writeFields (x := s) src a data allBits
  rw [hexec, hform]
  clear hexec hform hw
  generalize writeFields s src a data allBits = u at *
  have hrgl : u.rgl = s.rgl := htouch.part .rgl (by decide)
  have hdram : u.dram = s.dram := htouch.part .dram (by decide)
  have hcode : u.fld F.RGL_PROFILE_CODE < 2 ^ 8 := bitsOf_lt _ _ _
  have hself := State.fld_setFld_self ({ u with rgl := { u.rgl with due := true } } : State) F.RGL_STATUS_PENDING (u.fld F.RGL_PROFILE_CODE) (by decide)
  have hreg := onlyRegs_setFld ({ u with rgl := { u.rgl with due := true } } : State) F.RGL_STATUS_PENDING (u.fld F.RGL_PROFILE_CODE)
  refine ⟨_, rfl, by rw [State.setFld_rgl], hself.trans ((Nat.mod_eq_of_lt hcode).trans (hreg.fld (by decide)).symm), by rw [State.setFld_rgl, ← hrgl], ?_⟩
  exact sameMemory_of_dram ((State.setFld_dram _ _ _).trans hdram)

/-- The fit of the beacons leaves the profile of the accounts. -/
theorem fitAll_profile (x : AcctSet) (bcnMax : Nat) (cfg : Nat → Word) : (fitAll s x bcnMax cfg).2.code = x.code ∧ (fitAll s x bcnMax cfg).2.perLane = x.perLane := by
  have hfold : ∀ (g : State × AcctSet → Nat → State × AcctSet) (_ : ∀ acc m, (g acc m).2.code = acc.2.code ∧ (g acc m).2.perLane = acc.2.perLane)
      (l : List Nat) (acc : State × AcctSet), (l.foldl g acc).2.code = acc.2.code ∧ (l.foldl g acc).2.perLane = acc.2.perLane := fun g hg l => by
    induction l with
    | nil => exact fun _ => ⟨rfl, rfl⟩
    | cons m l ih =>
      intro acc
      obtain ⟨h1, h2⟩ := ih (g acc m)
      obtain ⟨h3, h4⟩ := hg acc m
      exact ⟨h1.trans h3, h2.trans h4⟩
  unfold fitAll
  refine hfold _ (fun acc m => ?_) _ _
  split
  · exact ⟨rfl, rfl⟩
  · split
    · rename_i ks need _
      obtain ⟨h1, h2, -⟩ := AcctSet.foldl_put (fun y k => { y.acct k with reserve := (y.acct k).reserve + need }) ks acc.2
      exact ⟨h1, h2⟩
    · exact ⟨rfl, rfl⟩

theorem buildAccounts_spec (code : Nat) (perLane : Bool) (cfg : Nat → Word) : (buildAccounts s code perLane cfg).1.rgl = s.rgl ∧
    (buildAccounts s code perLane cfg).2.code = code ∧ (buildAccounts s code perLane cfg).2.perLane = perLane := by
  unfold buildAccounts
  simp only
  generalize hx : ({ code := code, perLane := perLane, accts := [], bucket := 16, since := s.dev.upCycles, fit := 0 } : AcctSet) = x
  obtain ⟨hcode, hlane⟩ := fitAll_profile (s := s) x (bitsOf s.rgl.rsv.toNat 8 8) cfg
  have hrgl : (fitAll s x (bitsOf s.rgl.rsv.toNat 8 8) cfg).1.rgl = s.rgl := (touches_fitAll x _ cfg).part .rgl (by decide)
  generalize fitAll s x (bitsOf s.rgl.rsv.toNat 8 8) cfg = r at *
  generalize (if perLane then [0, 1, 2, 3] else [0]).flatMap (fun n => (List.range (acctCount code)).map (fun a => 256 * n + a)) = keys
  obtain ⟨h1, h2, -⟩ := AcctSet.foldl_put (fun y k => presetAcct (s.fld F.RGL_BOOT_CFG_BOOT_CHARGE) code k (y.acct k)) keys r.2
  exact ⟨hrgl, h1.trans (hcode.trans (by rw [← hx])), h2.trans (hlane.trans (by rw [← hx]))⟩

theorem profilePrepare_spec (ha : s.answers = true) (hd : s.rgl.due = true) : ∃ t, exec .profilePrepare s = .next t ∧ t.rgl.due = false ∧
    t.rgl.next.map (fun x => (x.code, x.perLane)) = some (s.fld F.RGL_PROFILE_CODE, s.flag F.RGL_CTRL_PER_LANE) ∧ t.rgl.cur = s.rgl.cur := by
  obtain ⟨hrgl, hcode, hlane⟩ := buildAccounts_spec (s := s) (s.fld F.RGL_PROFILE_CODE) (s.flag F.RGL_CTRL_PER_LANE) (fun n => s.reg (A.MAC_BCN_CFG n))
  refine ⟨_, congrArg Host.Outcome.next (if_pos (by rw [ha, hd]; rfl)), rfl, ?_, ?_⟩
  · exact congrArg some (congrArg₂ Prod.mk hcode hlane)
  · refine Eq.trans ?_ (congrArg Rgl.cur hrgl)
    rfl

/-- The words of an account shown. -/
def acctShown (s : State) (info budget used bcn rsv : Word) : State :=
  ((((s.setReg A.RGL_ACCT_INFO info).setReg A.RGL_ACCT_BUDGET budget).setReg A.RGL_ACCT_USED used).setReg A.RGL_ACCT_BCN bcn).setReg A.RGL_ACCT_RSV rsv

theorem acctShown_spec (info budget used bcn rsv : Word) : (acctShown s info budget used bcn rsv).reg A.RGL_ACCT_INFO = info ∧
    (acctShown s info budget used bcn rsv).reg A.RGL_ACCT_BUDGET = budget ∧ (acctShown s info budget used bcn rsv).reg A.RGL_ACCT_USED = used ∧
    (acctShown s info budget used bcn rsv).reg A.RGL_ACCT_BCN = bcn ∧ (acctShown s info budget used bcn rsv).reg A.RGL_ACCT_RSV = rsv ∧
    (acctShown s info budget used bcn rsv).reg A.RGL_ACCT_SEL = s.reg A.RGL_ACCT_SEL ∧ (acctShown s info budget used bcn rsv).rgl = s.rgl := by
  have hne : ∀ (v : State) (a b : Nat) (w : Word), b ≠ a → (v.setReg a w).reg b = v.reg b := fun v a b w h => onlyRegs_setReg v a w b (by simpa using h)
  have hself : ∀ (v : State) (a : Nat) (w : Word), (v.setReg a w).reg a = w := fun v a w => State.reg_setReg_self v a w
  unfold acctShown
  refine ⟨?_, ?_, ?_, ?_, ?_, ?_, rfl⟩
  · rw [hne _ _ _ _ (by decide), hne _ _ _ _ (by decide), hne _ _ _ _ (by decide), hne _ _ _ _ (by decide), hself]
  · rw [hne _ _ _ _ (by decide), hne _ _ _ _ (by decide), hne _ _ _ _ (by decide), hself]
  · rw [hne _ _ _ _ (by decide), hne _ _ _ _ (by decide), hself]
  · rw [hne _ _ _ _ (by decide), hself]
  · exact hself _ _ _
  · rw [hne _ _ _ _ (by decide), hne _ _ _ _ (by decide), hne _ _ _ _ (by decide), hne _ _ _ _ (by decide), hne _ _ _ _ (by decide)]

theorem acctSelWrite_spec (src : Requester) (data : Word) (hs : s.inOperation = true) : ∃ t acct a, exec (.acctSelWrite src data) s = .next t ∧ t.rgl = s.rgl ∧
    acct = t.fld F.RGL_ACCT_SEL_ACCOUNT ∧ a = s.rgl.cur.acct (s.rgl.cur.key (t.fld F.RGL_ACCT_SEL_LANE) acct) ∧
    (acct < acctCount s.rgl.cur.code →
      t.reg A.RGL_ACCT_BUDGET = BitVec.ofNat 32 (ceilDiv (budgetNs s.rgl.cur.code acct) 1000) ∧
      t.reg A.RGL_ACCT_USED = BitVec.ofNat 32 (ceilDiv (a.sums.bcn + a.sums.ack + a.sums.gen) 1000) ∧
      t.reg A.RGL_ACCT_BCN = BitVec.ofNat 32 (ceilDiv a.sums.bcn 1000) ∧ t.reg A.RGL_ACCT_RSV = BitVec.ofNat 32 (ceilDiv a.reserve 1000)) ∧
    (acctCount s.rgl.cur.code ≤ acct → t.reg A.RGL_ACCT_INFO = 0#32 ∧ t.reg A.RGL_ACCT_USED = 0#32) := by
  have hexec : exec (.acctSelWrite src data) s = .next (acctSelWrite s src data allBits) :=
    congrArg Host.Outcome.next (gateWrite_inOperation hs (by decide +kernel) src _)
  rw [hexec]
  clear hexec
  have hrgl : (writeFields s src A.RGL_ACCT_SEL data allBits).rgl = s.rgl := (touches_writeFields src _ data allBits).part .rgl (by decide)
  unfold acctSelWrite
  simp only
  generalize writeFields s src A.RGL_ACCT_SEL data allBits = u at *
  rw [hrgl]
  split
  · rename_i hlt
    obtain ⟨-, hbudget, hused, hbcn, hrsv, hsel, hr⟩ := acctShown_spec (s := u) (BitVec.ofNat 32 (2 ^ 31 + (if (match profileOf s.rgl.cur.code with
      | some p => p.cell != 0
      | none => false) then 1 else 2) * 2 ^ 24 + windowNs s.rgl.cur.code / 1000000))
      (BitVec.ofNat 32 (ceilDiv (budgetNs s.rgl.cur.code (u.fld F.RGL_ACCT_SEL_ACCOUNT)) 1000))
      (BitVec.ofNat 32 (ceilDiv ((s.rgl.cur.acct (s.rgl.cur.key (u.fld F.RGL_ACCT_SEL_LANE) (u.fld F.RGL_ACCT_SEL_ACCOUNT))).sums.bcn +
        (s.rgl.cur.acct (s.rgl.cur.key (u.fld F.RGL_ACCT_SEL_LANE) (u.fld F.RGL_ACCT_SEL_ACCOUNT))).sums.ack +
        (s.rgl.cur.acct (s.rgl.cur.key (u.fld F.RGL_ACCT_SEL_LANE) (u.fld F.RGL_ACCT_SEL_ACCOUNT))).sums.gen) 1000))
      (BitVec.ofNat 32 (ceilDiv (s.rgl.cur.acct (s.rgl.cur.key (u.fld F.RGL_ACCT_SEL_LANE) (u.fld F.RGL_ACCT_SEL_ACCOUNT))).sums.bcn 1000))
      (BitVec.ofNat 32 (ceilDiv (s.rgl.cur.acct (s.rgl.cur.key (u.fld F.RGL_ACCT_SEL_LANE) (u.fld F.RGL_ACCT_SEL_ACCOUNT))).reserve 1000))
    have hacct : ∀ f : Fld, f.addr = A.RGL_ACCT_SEL → ∀ v : State, v.reg A.RGL_ACCT_SEL = u.reg A.RGL_ACCT_SEL → v.fld f = u.fld f := fun f hf v hv =>
      State.fld_congr (by rw [hf]; exact hv)
    exact ⟨_, u.fld F.RGL_ACCT_SEL_ACCOUNT, _, rfl, hr.trans hrgl, (hacct _ rfl _ hsel).symm,
      congrArg (fun l => s.rgl.cur.acct (s.rgl.cur.key l (u.fld F.RGL_ACCT_SEL_ACCOUNT))) (hacct F.RGL_ACCT_SEL_LANE rfl _ hsel).symm,
      fun _ => ⟨hbudget, hused, hbcn, hrsv⟩, fun hge => absurd hlt (by omega)⟩
  · rename_i hge
    obtain ⟨hinfo, -, hused, -, -, hsel, hr⟩ := acctShown_spec (s := u) 0#32 0#32 0#32 0#32 0#32
    exact ⟨_, u.fld F.RGL_ACCT_SEL_ACCOUNT, _, rfl, hr.trans hrgl, (State.fld_congr (f := F.RGL_ACCT_SEL_ACCOUNT) hsel).symm, rfl, fun h => absurd h hge,
      fun _ => ⟨hinfo, hused⟩⟩

end

/-! ### The statement -/

/-- Settles O53: a grant through the accounts its charge is put to, a busy medium through the registers of RGL that what follows leaves. -/
theorem regulatoryUnitDecides : Obligations.RegulatoryUnitDecides :=
  ⟨fun _ n _ _ hs hl hr ht hsh => grantRequest_spec n hs hl hr ht hsh, fun _ n power _ hs hx hc hl hch => lbtSenseEnd_spec n power hs hx hc hl hch,
    fun _ ha hc => bucketBoundary_spec ha hc, fun _ src ctrl data _ hs ha hw => profileWrite_spec src ctrl data hs ha hw,
    fun _ ha hd => profilePrepare_spec ha hd, fun _ src data hs => acctSelWrite_spec src data hs⟩

end Sys2Proof.Machine
end

section
/-!
PROOFS. Images of node firmware and the sessions that distribute them (12_node_update_distribution.md, Sessions).
-/
namespace Sys2Proof.Machine

-- One proof after another: side by side, the threads of so long a text want more memory than the check grants.
set_option Elab.async false

/-! ### The running sessions as the registers show them -/

section
variable {s t u : State} {id : CmdId} {c : Cmd}

/-- A field apart from another in its register, or of another register. -/
def Fld.Apart (g f : Fld) : Prop := g.addr ≠ f.addr ∨ g.lsb + g.width ≤ f.lsb ∨ f.lsb + f.width ≤ g.lsb

/-- The bits IN_SESSION of the images below `n`, as the running sessions use them. -/
def showImages (s : State) (n : Nat) : State :=
  (List.range n).foldl (fun (t : State) k =>
    t.setFld (F.UPD_IMG_INFO_IN_SESSION k) (b01 (t.upd.sessions.any (fun x => x.image == k)))) s

theorem showImages_succ (s : State) (n : Nat) : showImages s (n + 1) = (showImages s n).setFld (F.UPD_IMG_INFO_IN_SESSION n)
    (b01 ((showImages s n).upd.sessions.any (fun x => x.image == n))) := by
  rw [showImages, List.range_succ, List.foldl_append]
  rfl

theorem showImages_upd (s : State) (n : Nat) : (showImages s n).upd = s.upd := by
  induction n with
  | zero => rfl
  | succ n ih => rw [showImages_succ, State.setFld_upd, ih]

theorem showImages_fld {g : Fld} (n : Nat) (h : ∀ k < n, g.Apart (F.UPD_IMG_INFO_IN_SESSION k)) : (showImages s n).fld g = s.fld g := by
  induction n with
  | zero => rfl
  | succ n ih =>
    rw [showImages_succ, State.fld_setFld_apart _ _ _ _ (by simp) (h n (by omega))]
    exact ih (fun k hk => h k (by omega))

theorem showImages_self {k n : Nat} (h : k < n) :
    (showImages s n).fld (F.UPD_IMG_INFO_IN_SESSION k) = b01 (s.upd.sessions.any (fun x => x.image == k)) := by
  induction n with
  | zero => omega
  | succ n ih =>
    rw [showImages_succ]
    rcases Nat.lt_succ_iff_lt_or_eq.1 h with hk | rfl
    · rw [State.fld_setFld_apart _ _ _ _ (by simp) (Or.inl (by simp only [A.UPD_IMG_INFO]; omega))]
      exact ih hk
    · rw [State.fld_setFld_self _ _ _ (by simp), showImages_upd]
      cases s.upd.sessions.any (fun x => x.image == k) <;> rfl

theorem refreshSessions_eq (s : State) : ∃ v, refreshSessions s = (showImages s 8).setFld F.UPD_STATUS_SESS_RUN v := ⟨_, rfl⟩

theorem refreshSessions_fld {g : Fld} (h : ∀ k < 8, g.Apart (F.UPD_IMG_INFO_IN_SESSION k)) (hg : g.Apart F.UPD_STATUS_SESS_RUN) :
    (refreshSessions s).fld g = s.fld g := by
  obtain ⟨v, hv⟩ := refreshSessions_eq s
  rw [hv, State.fld_setFld_apart _ _ _ _ (by decide) hg, showImages_fld 8 h]

theorem refreshSessions_inSession {k : Nat} (h : k < 8) :
    (refreshSessions s).fld (F.UPD_IMG_INFO_IN_SESSION k) = b01 (s.upd.sessions.any (fun x => x.image == k)) := by
  obtain ⟨v, hv⟩ := refreshSessions_eq s
  rw [hv, State.fld_setFld_apart _ _ _ _ (by decide) (Or.inl (by simp only [A.UPD_IMG_INFO, A.UPD_STATUS]; omega)), showImages_self h]

/-- The fields of an image but IN_SESSION are not written as sessions are shown. -/
theorem refreshSessions_image {l w k : Nat} (hl : l + w ≤ 30 ∨ 31 ≤ l) (hk : k < 8) :
    (refreshSessions s).fld ⟨A.UPD_IMG_INFO k, l, w⟩ = s.fld ⟨A.UPD_IMG_INFO k, l, w⟩ :=
  refreshSessions_fld (fun _ _ => Or.inr (by simpa using hl)) (Or.inl (by simp only [A.UPD_IMG_INFO, A.UPD_STATUS]; omega))

theorem refreshSessions_valid : (refreshSessions s).fld F.UPD_STATUS_IMG_VALID = s.fld F.UPD_STATUS_IMG_VALID :=
  refreshSessions_fld (fun k _ => Or.inl (by simp only [A.UPD_IMG_INFO, A.UPD_STATUS]; omega)) (Or.inr (by decide))

/-- The registers of a session slot are not written as sessions are shown. -/
theorem refreshSessions_slot {g : Fld} (h : 0x1F060 ≤ g.addr) : (refreshSessions s).fld g = s.fld g :=
  refreshSessions_fld (fun k hk => Or.inl (by simp only [A.UPD_IMG_INFO]; omega)) (Or.inl (by simp only [A.UPD_STATUS]; omega))

/-! ### UPD_IMAGE_LOAD (R424) -/

theorem bitsOf_zero (l w : Nat) : bitsOf 0 l w = 0 := by simp [bitsOf]

/-- Taken out of a mask of eight bits, a bit reads 0 and can be put in. -/
theorem mask_without : ∀ v < 2 ^ 8, ∀ k < 8, bit ((v - (if bit v k then 2 ^ k else 0)) % 2 ^ 8) k = false ∧
    bit (((v - (if bit v k then 2 ^ k else 0)) % 2 ^ 8 + 2 ^ k) % 2 ^ 8) k = true := by
  decide +kernel

/-- What stands in IMG_VALID once image slot `k` is emptied. -/
def maskWithout (s : State) (k : Nat) : Nat := s.fld F.UPD_STATUS_IMG_VALID - (if bit (s.fld F.UPD_STATUS_IMG_VALID) k then 2 ^ k else 0)

theorem emptyImage_eq (s : State) (k : Nat) : ∃ u : State, emptyImage s k = refreshSessions u ∧
    u.regs = ((s.setReg (A.UPD_IMG_INFO k) 0#32).setFld F.UPD_STATUS_IMG_VALID (maskWithout s k)).regs := ⟨_, rfl, rfl⟩

theorem emptyImage_invalid (s : State) {k : Nat} (hk : k < 8) : (emptyImage s k).fld (F.UPD_IMG_INFO_VALID k) = 0 := by
  obtain ⟨u, hu, hregs⟩ := emptyImage_eq s k
  rw [hu, refreshSessions_image (Or.inr (by decide)) hk, State.fld_congr (State.reg_congr hregs _),
    State.fld_setFld_apart _ _ _ _ (by decide) (Or.inl (by simp only [A.UPD_IMG_INFO, A.UPD_STATUS]; omega)), State.fld, State.reg_setReg_self]
  exact bitsOf_zero _ _

theorem emptyImage_mask (s : State) (k : Nat) : (emptyImage s k).fld F.UPD_STATUS_IMG_VALID = maskWithout s k % 2 ^ 8 := by
  obtain ⟨u, hu, hregs⟩ := emptyImage_eq s k
  rw [hu, refreshSessions_valid, State.fld_congr (State.reg_congr hregs _), State.fld_setFld_self _ _ _ (by decide)]

/-- The digest of image slot `k` held. -/
def withDigest (s : State) (k : Nat) (d : List Byte) : State :=
  { s with upd := { s.upd with digests := Tbl.put (fun _ => []) s.upd.digests k d } }

/-- The registers of an image slot with word `w` of its image, that is valid. -/
def imageShown (s : State) (k : Nat) (w : Word) : State :=
  (s.setReg (A.UPD_IMG_INFO k) w).setFld F.UPD_STATUS_IMG_VALID ((s.setReg (A.UPD_IMG_INFO k) w).fld F.UPD_STATUS_IMG_VALID + 2 ^ k)

/-- Image slot `k`, just emptied, given the image of which the two digests agree. -/
def imageTaken (s : State) (k : Nat) (bs : List Byte) : State :=
  let d := Config.sha256 bs
  let code := s.fld F.UPD_CFG_SYM_CODE
  let s := refreshSessions (withDigest (imageShown s k (BitVec.ofNat 32 (2 ^ 31 + code * 2 ^ 24 + bs.length))) k d)
  setCause (s.event 0x1F 0 0x0C00 0 (leBytes 1 k ++ leBytes 1 code ++ leBytes 4 bs.length ++ slice d 0 4)) 0x1F 1

theorem touches_imageTaken (s : State) {k : Nat} (hk : k < 8) (bs : List Byte) :
    Touches [.regs, .upd, .log, .host, .out] [0x1F] s (imageTaken s k bs) := by
  have hpage : A.UPD_IMG_INFO k / 0x1000 ∈ [0x1F] := by
    simp only [A.UPD_IMG_INFO, List.mem_singleton]
    omega
  have hinfo : ∀ w, Touches [.regs, .upd, .log, .host, .out] [0x1F] s (imageShown s k w) := fun w =>
    (touches_setReg_of _ w hpage).mono.then (touches_setFld F.UPD_STATUS_IMG_VALID _)
  have hheld : ∀ (u : State) d, Touches [.upd] [] u (withDigest u k d) := fun u d => touches_parts [.upd] rfl
  unfold imageTaken
  exact ((((hinfo _).then (hheld _ _)).then (touches_refreshSessions _)).then (touches_event (gs := []) _ _ _ _ _)).then (touches_setCause 0x1F 1)

theorem imageShown_info (s : State) {k : Nat} (hk : k < 8) (w : Word) (l n : Nat) :
    (imageShown s k w).fld ⟨A.UPD_IMG_INFO k, l, n⟩ = bitsOf w.toNat l n := by
  rw [imageShown, State.fld_setFld_apart _ _ _ _ (by decide) (Or.inl (by simp only [A.UPD_IMG_INFO, A.UPD_STATUS]; omega)), State.fld,
    State.reg_setReg_self]

theorem imageShown_mask (s : State) (k : Nat) (w : Word) :
    (imageShown s k w).fld F.UPD_STATUS_IMG_VALID = (s.fld F.UPD_STATUS_IMG_VALID + 2 ^ k) % 2 ^ 8 := by
  have hother : (s.setReg (A.UPD_IMG_INFO k) w).fld F.UPD_STATUS_IMG_VALID = s.fld F.UPD_STATUS_IMG_VALID :=
    State.fld_setReg_ne _ _ _ _ (by simp only [A.UPD_IMG_INFO, A.UPD_STATUS]; omega)
  rw [imageShown, State.fld_setFld_self _ _ _ (by decide), hother]

/-- What the register of a loaded image shows: VALID and the length. -/
theorem imageWord {code len : Nat} (hcode : code < 8) (hlen : len ≤ 0x200000) :
    bitsOf (BitVec.ofNat 32 (2 ^ 31 + code * 2 ^ 24 + len)).toNat 31 1 = 1 ∧
      bitsOf (BitVec.ofNat 32 (2 ^ 31 + code * 2 ^ 24 + len)).toNat 0 22 = len := by
  rw [BitVec.toNat_ofNat, Nat.mod_eq_of_lt (by omega), bitsOf, bitsOf]
  constructor <;> omega

theorem imageTaken_spec (s : State) {k : Nat} (hk : k < 8) {bs : List Byte} (hlen : bs.length ≤ 0x200000) :
    (imageTaken s k bs).flag (F.UPD_IMG_INFO_VALID k) = true ∧ imgLen (imageTaken s k bs) k = bs.length ∧
      (imageTaken s k bs).fld F.UPD_STATUS_IMG_VALID = (s.fld F.UPD_STATUS_IMG_VALID + 2 ^ k) % 2 ^ 8 ∧
      causeSet (imageTaken s k bs) 0x1F 1 = true ∧ lastEvent (imageTaken s k bs) 0x1F 0x0C00 := by
  have hword := imageWord (code := s.fld F.UPD_CFG_SYM_CODE) (bitsOf_lt _ _ _) hlen
  unfold imageTaken
  simp only
  generalize BitVec.ofNat 32 (2 ^ 31 + s.fld F.UPD_CFG_SYM_CODE * 2 ^ 24 + bs.length) = w at hword
  generalize hu : withDigest (imageShown s k w) k (Config.sha256 bs) = u
  have hregs : u.regs = (imageShown s k w).regs := hu ▸ rfl
  have hshown : ∀ l n, l + n ≤ 30 ∨ 31 ≤ l → (refreshSessions u).fld ⟨A.UPD_IMG_INFO k, l, n⟩ = bitsOf w.toNat l n := fun l n h =>
    (refreshSessions_image h hk).trans ((State.fld_congr (State.reg_congr hregs _)).trans (imageShown_info s hk w l n))
  have hvalid : (refreshSessions u).fld F.UPD_STATUS_IMG_VALID = (s.fld F.UPD_STATUS_IMG_VALID + 2 ^ k) % 2 ^ 8 :=
    refreshSessions_valid.trans ((State.fld_congr (State.reg_congr hregs _)).trans (imageShown_mask s k w))
  generalize refreshSessions u = v at hshown hvalid
  generalize hv : v.event 0x1F 0 0x0C00 0 (leBytes 1 k ++ leBytes 1 (s.fld F.UPD_CFG_SYM_CODE) ++ leBytes 4 bs.length ++ slice (Config.sha256 bs) 0 4) = x
  have hevent : lastEvent x 0x1F 0x0C00 := hv ▸ lastEvent_event _ _ _ _ _
  have hsame : x.regs = v.regs := hv ▸ rfl
  have hcause : ∀ f : Fld, f.addr ≠ 0x1F010 → (setCause x 0x1F 1).fld f = v.fld f := fun f hf =>
    (OnlyRegs.fld (onlyRegs_setCause x 0x1F 1) (by simpa using hf)).trans (State.fld_congr (State.reg_congr hsame _))
  refine ⟨?_, ?_, ?_, ?_, lastEvent_setCause _ _ hevent⟩
  · rw [State.flag, hcause _ (by simp only [A.UPD_IMG_INFO]; omega), hshown 31 1 (Or.inr (by decide)), hword.1]
    rfl
  · rw [imgLen, hcause _ (by simp only [A.UPD_IMG_INFO]; omega), hshown 0 22 (Or.inl (by decide)), hword.2]
  · rw [hcause _ (by decide), hvalid]
  · rw [causeSet_setCause _ _ _ _ (by decide)]
    exact Bool.or_true _

theorem imageLoad_agreed {bs : List Byte} (hc : mayStart s id 0x0401 c) (hd : c.data = some bs) :
    imageLoad s id true = finish (imageTaken (emptyImage ((commitCmd s id).ramStore (imgBase (fieldAt c.desc 16 1 % 8)) bs) (fieldAt c.desc 16 1 % 8))
      (fieldAt c.desc 16 1 % 8) bs) id 0x00 (leBytes 4 (imgBlocks (imageTaken (emptyImage ((commitCmd s id).ramStore (imgBase (fieldAt c.desc 16 1 % 8)) bs)
        (fieldAt c.desc 16 1 % 8)) (fieldAt c.desc 16 1 % 8) bs) (fieldAt c.desc 16 1 % 8)) ++ slice (Config.sha256 bs) 0 12) := by
  unfold imageLoad
  rw [hc.1]
  simp only [hd, if_true]
  rfl

theorem imageLoad_differ {bs : List Byte} (hc : mayStart s id 0x0401 c) (hd : c.data = some bs) :
    imageLoad s id false = finish (emptyImage ((commitCmd s id).ramStore (imgBase (fieldAt c.desc 16 1 % 8)) bs) (fieldAt c.desc 16 1 % 8)) id
      0x12 [0x02#8] := by
  unfold imageLoad
  rw [hc.1]
  simp only [hd, Bool.false_eq_true, if_false]

theorem imgBlocks_of_touches (h : Touches [.rings] [] s t) (k : Nat) : imgBlocks t k = imgBlocks s k := by
  rw [imgBlocks, imgBlocks, imgLen, imgLen, imgSym, imgSym, h.fld (by simp), h.fld (by simp)]

/-- UPD_IMAGE_LOAD, with the digests that agree and with those that differ. -/
theorem imageLoad_cases {bs : List Byte} (hs : s.engaged = true) (hc : mayStart s id 0x0401 c) (hd : c.data = some bs) (hlen : bs.length ≤ 0x200000) :
    (∃ t, exec (.updImageLoad id true) s = .next t ∧ t.ramBytes (imgBase (fieldAt c.desc 16 1 % 8)) bs.length = bs ∧
      OnlyMemory s t (imgBase (fieldAt c.desc 16 1 % 8)) bs.length ∧ t.flag (F.UPD_IMG_INFO_VALID (fieldAt c.desc 16 1 % 8)) = true ∧
      imgLen t (fieldAt c.desc 16 1 % 8) = bs.length ∧ bit (t.fld F.UPD_STATUS_IMG_VALID) (fieldAt c.desc 16 1 % 8) = true ∧
      causeSet t 0x1F 1 = true ∧ lastEvent t 0x1F 0x0C00 ∧
      outcome t id = some (onePart 0x00 0 (leBytes 4 (imgBlocks t (fieldAt c.desc 16 1 % 8)) ++ slice (Config.sha256 bs) 0 12))) ∧
    (∃ t, exec (.updImageLoad id false) s = .next t ∧ OnlyMemory s t (imgBase (fieldAt c.desc 16 1 % 8)) bs.length ∧
      t.flag (F.UPD_IMG_INFO_VALID (fieldAt c.desc 16 1 % 8)) = false ∧
      bit (t.fld F.UPD_STATUS_IMG_VALID) (fieldAt c.desc 16 1 % 8) = false ∧ outcome t id = some (onePart 0x12 0 [2#8])) := by
  have hagree : exec (.updImageLoad id true) s = .next _ := congrArg Host.Outcome.next ((if_pos hs).trans (imageLoad_agreed hc hd))
  have hdiffer : exec (.updImageLoad id false) s = .next _ := congrArg Host.Outcome.next ((if_pos hs).trans (imageLoad_differ hc hd))
  generalize hk : fieldAt c.desc 16 1 % 8 = k at hagree hdiffer
  have hk8 : k < 8 := hk ▸ Nat.mod_lt _ (by decide)
  have hcommit := touches_commitCmd (s := s) id
  have hpending := hc.isPending.commitCmd
  generalize commitCmd s id = u at hcommit hpending hagree hdiffer
  have hstored : (u.ramStore (imgBase k) bs).ramBytes (imgBase k) bs.length = bs := State.ramBytes_ramStore u (imgBase k) bs
  have honly : OnlyMemory s (u.ramStore (imgBase k) bs) (imgBase k) bs.length := fun a ha =>
    (onlyMemory_ramStore u (imgBase k) bs a ha).trans (hcommit.ram (by decide) a)
  have hpend := hpending.of (touches_ramStore (gs := []) (imgBase k) bs)
  generalize u.ramStore (imgBase k) bs = v at hstored honly hpend hagree hdiffer
  have hempty := touches_emptyImage v hk8
  have hzero := emptyImage_invalid v hk8
  have hmask := emptyImage_mask v k
  have hbits := mask_without _ (bitsOf_lt (v.reg A.UPD_STATUS).toNat 8 8) k hk8
  have hpend' := hpend.of hempty
  generalize emptyImage v k = w at hempty hzero hmask hpend' hagree hdiffer
  have hmem : ∀ {ps gs} {y : State}, Touches ps gs w y → .dram ∉ ps → y.dram = v.dram := fun h hd =>
    (h.part .dram hd).trans (hempty.part .dram (by decide))
  refine ⟨?_, ?_⟩
  · have htaken := touches_imageTaken w hk8 bs
    obtain ⟨hvalid, hlength, hshown, hcause, hevent⟩ := imageTaken_spec w hk8 hlen
    have hpend'' := hpend'.of htaken
    generalize imageTaken w k bs = x at htaken hvalid hlength hshown hcause hevent hpend'' hagree
    have hfinish := touches_finish (s := x) id 0x00 (leBytes 4 (imgBlocks x k) ++ slice (Config.sha256 bs) 0 12)
    have hout := hpend''.finish 0x00 (leBytes 4 (imgBlocks x k) ++ slice (Config.sha256 bs) 0 12)
    generalize finish x id 0x00 (leBytes 4 (imgBlocks x k) ++ slice (Config.sha256 bs) 0 12) = t at hfinish hout hagree
    have hdram : t.dram = v.dram := (hfinish.part .dram (by decide)).trans (hmem htaken (by decide))
    refine ⟨t, hagree, (ramBytes_of_dram hdram _ _).trans hstored, fun a ha => (ram_of_dram hdram a).trans (honly a ha),
      (hfinish.flag (by simp)).trans hvalid, (hfinish.fld (by simp)).trans hlength, ?_, ?_, lastEvent_of_log (hfinish.part .log (by decide)) hevent, ?_⟩
    · rw [hfinish.fld (by simp), hshown, hmask]
      exact hbits.2
    · exact (causeSet_of_regs (hfinish.part .regs (by decide)) _ _).trans hcause
    · rw [hout, imgBlocks_of_touches hfinish]
  · have hfinish := touches_finish (s := w) id 0x12 [0x02#8]
    have hout := hpend'.finish 0x12 [0x02#8]
    generalize finish w id 0x12 [0x02#8] = t at hfinish hout hdiffer
    have hdram : t.dram = v.dram := hmem hfinish (by decide)
    refine ⟨t, hdiffer, fun a ha => (ram_of_dram hdram a).trans (honly a ha), ?_, ?_, hout⟩
    · rw [hfinish.flag (by simp), State.flag, hzero]
      rfl
    · rw [hfinish.fld (by simp), hmask]
      exact hbits.1

/-! ### Sessions that end (R442) -/

/-- The state of session slot `sid` as the session has ended. -/
structure Ended (t : State) (sid reason : Nat) : Prop where
  gone : sessOf t sid = none
  state : t.fld (F.UPD_SESS_STATE_STATE sid) = 6
  reason : t.fld (F.UPD_SESS_STATE_END_REASON sid) = reason
  event : lastEvent t 0x1F 0x0C04

theorem Ended.of {ps : List Area} {sid reason : Nat} (h : Ended s sid reason) (ht : Touches ps [] s t) (hu : .upd ∉ ps := by decide)
    (hl : .log ∉ ps := by decide) : Ended t sid reason :=
  ⟨by rw [sessOf, ht.part .upd hu]; exact h.gone, by rw [ht.fld (by simp)]; exact h.state, by rw [ht.fld (by simp)]; exact h.reason,
    lastEvent_of_log (ht.part .log hl) h.event⟩

/-- The session of slot `sid` no longer among those that run. -/
def sessionGone (s : State) (sid : Nat) (left : List Nat) : State :=
  { s with upd := { s.upd with sessions := s.upd.sessions.filter (fun y => y.sid != sid), retry := s.upd.retry.filter (fun p => !left.contains p) } }

theorem sessOf_sessionGone (s : State) (sid : Nat) (left : List Nat) : sessOf (sessionGone s sid left) sid = none := by
  rw [sessOf, sessionGone, List.find?_eq_none]
  intro x hx
  simpa using (List.mem_filter.1 hx).2

/-- How the end of a session is shown, once its messages are given to their nodes. -/
def endShown (s : State) (x : Sess) (reason : Nat) : State :=
  let s := (s.setFld (F.UPD_SESS_STATE_STATE x.sid) 6).setFld (F.UPD_SESS_STATE_END_REASON x.sid) reason
  let done := s.fld (F.UPD_SESS_COMPLETED_COUNT x.sid)
  setCause (s.event 0x1F 0 0x0C04 (if done = s.fld (F.UPD_SESS_TARGETED_COUNT x.sid) then 0 else 1)
    (leBytes 4 x.session ++ leBytes 1 reason ++ leBytes 3 done)) 0x1F 3

theorem endSession_eq (s : State) (x : Sess) (reason cancel : Nat) :
    ∃ u, endSession s x reason cancel = endShown (refreshSessions (sessionGone u x.sid (pendingOf s x))) x reason := ⟨_, rfl⟩

theorem endShown_spec {x : Sess} {reason : Nat} (hr : reason < 8) (hgone : sessOf s x.sid = none) :
    Ended (endShown s x reason) x.sid reason ∧ causeSet (endShown s x reason) 0x1F 3 = true := by
  unfold endShown
  simp only
  have hstate : ((s.setFld (F.UPD_SESS_STATE_STATE x.sid) 6).setFld (F.UPD_SESS_STATE_END_REASON x.sid) reason).fld
      (F.UPD_SESS_STATE_STATE x.sid) = 6 := by
    rw [State.fld_setFld_apart _ _ _ _ (by simp) (Or.inr (Or.inl (by simp))), State.fld_setFld_self _ _ _ (by simp)]
    rfl
  have hreason : ((s.setFld (F.UPD_SESS_STATE_STATE x.sid) 6).setFld (F.UPD_SESS_STATE_END_REASON x.sid) reason).fld
      (F.UPD_SESS_STATE_END_REASON x.sid) = reason := (State.fld_setFld_self _ _ _ (by simp)).trans (Nat.mod_eq_of_lt hr)
  have hupd : ((s.setFld (F.UPD_SESS_STATE_STATE x.sid) 6).setFld (F.UPD_SESS_STATE_END_REASON x.sid) reason).upd = s.upd := rfl
  generalize (s.setFld (F.UPD_SESS_STATE_STATE x.sid) 6).setFld (F.UPD_SESS_STATE_END_REASON x.sid) reason = u at hstate hreason hupd
  generalize hv : u.event 0x1F 0 0x0C04 (if u.fld (F.UPD_SESS_COMPLETED_COUNT x.sid) = u.fld (F.UPD_SESS_TARGETED_COUNT x.sid) then 0 else 1)
    (leBytes 4 x.session ++ leBytes 1 reason ++ leBytes 3 (u.fld (F.UPD_SESS_COMPLETED_COUNT x.sid))) = v
  have hevent : lastEvent v 0x1F 0x0C04 := hv ▸ lastEvent_event _ _ _ _ _
  have hshown : v.regs = u.regs ∧ v.upd = u.upd := hv ▸ ⟨rfl, rfl⟩
  have hfld : ∀ f : Fld, f.addr ≠ 0x1F010 → (setCause v 0x1F 3).fld f = u.fld f := fun f hf =>
    (OnlyRegs.fld (onlyRegs_setCause v 0x1F 3) (by simpa using hf)).trans (State.fld_congr (State.reg_congr hshown.1 _))
  refine ⟨⟨?_, (hfld _ (by simp only [A.UPD_SESS_STATE]; omega)).trans hstate, (hfld _ (by simp only [A.UPD_SESS_STATE]; omega)).trans hreason,
    lastEvent_setCause _ _ hevent⟩, ?_⟩
  · rw [sessOf, setCause_upd, hshown.2, hupd]
    exact hgone
  · rw [causeSet_setCause _ _ _ _ (by decide)]
    exact Bool.or_true _

theorem endSession_spec {x : Sess} {reason : Nat} (hr : reason < 8) (cancel : Nat) :
    Ended (endSession s x reason cancel) x.sid reason ∧ causeSet (endSession s x reason cancel) 0x1F 3 = true := by
  obtain ⟨u, hu⟩ := endSession_eq s x reason cancel
  rw [hu]
  refine endShown_spec hr ?_
  rw [sessOf, (touches_refreshSessions _).part .upd (by decide)]
  exact sessOf_sessionGone u x.sid _

/-- A session without a target still pending ends with no message. -/
theorem touches_endSession_quiet {x : Sess} (hx : x.sid < 4) (h : pendingOf s x = []) (reason cancel : Nat) :
    Touches [.dram, .mac, .upd, .regs, .log, .host, .out] [0x1F] s (endSession s x reason cancel) := by
  have hempty : Touches [.dram, .mac, .upd, .regs, .log, .host, .out] [0x1F] s (emptyMcast s x.sid none) := (touches_emptyMcast x.sid none).mono
  unfold endSession
  simp only [h, List.foldl_nil]
  generalize emptyMcast s x.sid none = u at hempty
  exact (((((hempty.then (touches_upd _)).then (touches_refreshSessions _)).then (touches_setFld_of _ 6 (session_page hx).1)).then
    (touches_setFld_of _ reason (session_page hx).2.1)).then (touches_event (gs := []) _ _ _ _ _)).then (touches_setCause 0x1F 3)

theorem sessionStop_none (hc : mayStart s id 0x0403 c) (h : s.upd.sessions.find? (fun x => x.session == fieldAt c.desc 16 4) = none) :
    sessionStop s id = finish s id 0x00 [] := by
  unfold sessionStop
  rw [hc.1]
  simp only [h]

theorem sessionStop_some {x : Sess} (hc : mayStart s id 0x0403 c) (h : s.upd.sessions.find? (fun x => x.session == fieldAt c.desc 16 4) = some x) :
    sessionStop s id = finish (endSession s x 3 1) id 0x00 [] := by
  unfold sessionStop
  rw [hc.1]
  simp only [h]

/-- The outcome of a command that nothing else goes with. -/
theorem finish_alone (hp : Pending s id) (status : Nat) (result : List Byte) :
    outcome (finish s id status result) id = some (onePart status 0 result) ∧
      finish s id status result = { s with rings := (finish s id status result).rings } :=
  ⟨hp.finish status result, (touches_finish id status result).eq⟩

/-! ### UPD_SESSION_REPORT (R150) -/

theorem sessionReport_eq (hc : mayStart s id 0x0404 c) : sessionReport s id = (match recordOf s (fieldAt c.desc 16 4) with
    | none => finish s id 0x11 (leBytes 2 16)
    | some k => finish s id 0x00 (leBytes 4 (s.fld (F.UPD_SESS_TARGETED_COUNT k)) ++ leBytes 4 (s.fld (F.UPD_SESS_COMPLETED_COUNT k))
        ++ leBytes 4 (s.fld (F.UPD_SESS_PENDING_COUNT k)))) := by
  unfold sessionReport
  simp only [hc.1] <;> cases recordOf s (fieldAt c.desc 16 4) <;> rfl

/-! ### UPD_SESSION_START (R434) -/

theorem sessionStart_noSlot (hc : mayStart s id 0x0402 c) (h : freeSid s = none) : sessionStart s id = finish s id 0x12 [0x01#8] := by
  unfold sessionStart
  rw [hc.1]
  simp only [h]

theorem sessionStart_noPlan {sid : Nat} (hc : mayStart s id 0x0402 c) (h : freeSid s = some sid)
    (hp : planLanes s sid (imgSym s (fieldAt c.desc 16 1 % 8)) (s.fld F.MAC_JOIN_CFG_MICLEN) (maskLanes (fieldAt c.desc 17 1 % 16))
      (tableWords s ++ promisedWords s) = none) : sessionStart s id = finish s id 0x12 [0x02#8] := by
  unfold sessionStart
  rw [hc.1]
  simp only [h, hp]

theorem sessionStart_planned {sid : Nat} {plan : List (Nat × Nat × Nat × Nat)} (hc : mayStart s id 0x0402 c) (h : freeSid s = some sid)
    (hp : planLanes s sid (imgSym s (fieldAt c.desc 16 1 % 8)) (s.fld F.MAC_JOIN_CFG_MICLEN) (maskLanes (fieldAt c.desc 17 1 % 16))
      (tableWords s ++ promisedWords s) = some plan) : sessionStart s id =
    finish (openSession s sid (fieldAt c.desc 16 1 % 8) (fieldAt c.desc 20 4) (fieldAt c.desc 24 4) (fieldAt c.desc 17 1 % 16) plan) id 0x00
      (leBytes 4 s.upd.nextSession) := by
  unfold sessionStart
  rw [hc.1]
  simp only [h, hp]

/-- The share of a lane in a session, as the session begins. -/
def newLane (l : Nat × Nat × Nat × Nat) (entry : Nat) : UpdLane :=
  { lane := l.1, entry := entry, sf := 6 + eSfc l.2.2.1, frames := l.2.1, round := 0, sent := 0, due := [], nextEsi := 0,
    stage := 0, endSfn := 0, gap := 0, need := [], reports := [], planned := 0 }

/-- A lane that begins its share, and the state with its MCAST entry written. -/
def openLane (acc : List UpdLane × State) (l : Nat × Nat × Nat × Nat) : List UpdLane × State :=
  (acc.1 ++ [newLane l (pickEntry acc.2).1], putEntry (pickEntry acc.2).2 (pickEntry acc.2).1 l.2.2.1 l.2.2.2)

theorem touches_openLane (acc : List UpdLane × State) (l : Nat × Nat × Nat × Nat) : Touches [.fresh, .dram] [] acc.2 (openLane acc l).2 := by
  have hpick : Touches [.fresh] [] acc.2 (pickEntry acc.2).2 := touches_drawNat _ (0x100000 - (takenEntries acc.2).length)
  exact hpick.mono.then (touches_putEntry (pickEntry acc.2).1 l.2.2.1 l.2.2.2)

theorem openLanes_spec (plan : List (Nat × Nat × Nat × Nat)) (acc : List UpdLane × State) :
    (plan.foldl openLane acc).1.map (fun l => l.lane) = acc.1.map (fun l => l.lane) ++ plan.map (fun l => l.1) ∧
      Touches [.fresh, .dram] [] acc.2 (plan.foldl openLane acc).2 := by
  induction plan generalizing acc with
  | nil => exact ⟨by simp, Touches.refl _⟩
  | cons l plan ih =>
    obtain ⟨hlanes, htouches⟩ := ih (openLane acc l)
    refine ⟨?_, (touches_openLane acc l).trans htouches⟩
    rw [List.foldl_cons, hlanes, openLane, List.map_append, List.map_cons, List.append_assoc]
    rfl

/-- The session that is opened. -/
def newSession (s : State) (sid image group deadline : Nat) (lanes : List UpdLane) : Sess :=
  { sid := sid, session := s.upd.nextSession, image := image, group := group, micLen := s.fld F.MAC_JOIN_CFG_MICLEN,
    startSfn := sfnNow s + s.fld F.UPD_CFG_INVITE_SF, endSfn := sfnNow s + deadline, lanes := lanes, nextR := [], suspended := none }

/-- The update bytes of parcels that name a session number without being of it, IDLE (R443). -/
def idleParcels (s : State) (sid session : Nat) : State :=
  (usedParcels s).foldl (fun (t : State) p =>
    if uSid t p = sid && uSession t p = session % 65536 then t.ramStore (256 * p + 248) (List.replicate 8 0#8) else t) s

theorem touches_idleParcels (sid session : Nat) : Touches [.dram] [] s (idleParcels s sid session) :=
  Touches.foldl (fun _ _ _ => Touches.ite (fun _ => touches_ramStore _ _) (fun _ => Touches.refl _)) s

/-- The session `x` among those that run. -/
def sessionAdded (s : State) (x : Sess) : State :=
  { s with upd := { s.upd with sessions := s.upd.sessions ++ [x], nextSession := x.session + 1,
                               groups := Tbl.put (fun _ => 0) s.upd.groups x.session x.group } }

/-- The registers of session slot `sid` as a session begins. -/
def slotCleared (s : State) (sid session word : Nat) : State :=
  [A.UPD_SESS_TARGETED sid, A.UPD_SESS_COMPLETED sid, A.UPD_SESS_PENDING sid, A.UPD_SESS_DECLINED sid, A.UPD_SESS_FAILED sid,
    A.UPD_SESS_LOST sid].foldl (fun (t : State) a => t.setReg a 0#32)
      ((s.setReg (A.UPD_SESS_ID sid) (BitVec.ofNat 32 session)).setReg (A.UPD_SESS_STATE sid) (BitVec.ofNat 32 word))

theorem openSession_eq (s : State) (sid image group deadline mask : Nat) (plan : List (Nat × Nat × Nat × Nat)) :
    openSession s sid image group deadline mask plan =
      refreshSessions (slotCleared (sessionAdded (idleParcels (plan.foldl openLane ([], s)).2 sid s.upd.nextSession)
        (newSession s sid image group deadline (plan.foldl openLane ([], s)).1)) sid s.upd.nextSession (mask * 4096 + image * 256 + 1)) := rfl

theorem reg_zeros (l : List Nat) (s : State) (a : Nat) :
    (l.foldl (fun (t : State) b => t.setReg b 0#32) s).reg a = if a ∈ l then 0#32 else s.reg a := by
  induction l generalizing s with
  | nil => rfl
  | cons b l ih =>
    rw [List.foldl_cons, ih, State.reg_setReg]
    by_cases hl : a ∈ l <;> by_cases hb : a = b <;> simp [hl, hb]

theorem touches_slotCleared {sid : Nat} (h : sid < 4) (session word : Nat) : Touches [.regs] [0x1F] s (slotCleared s sid session word) := by
  have hpage : ∀ o < 0x20, (0x1F060 + o + 0x20 * sid) / 0x1000 ∈ [0x1F] := fun o ho => by
    rw [List.mem_singleton]
    omega
  unfold slotCleared
  exact ((touches_setReg_of _ _ (hpage 0 (by decide))).trans (touches_setReg_of _ _ (hpage 4 (by decide)))).trans
    (Touches.foldl (fun _ a ha => touches_setReg_of a _ (by
      simp only [List.mem_cons, List.not_mem_nil, or_false] at ha
      rcases ha with rfl | rfl | rfl | rfl | rfl | rfl
      · exact hpage 8 (by decide)
      · exact hpage 12 (by decide)
      · exact hpage 16 (by decide)
      · exact hpage 20 (by decide)
      · exact hpage 24 (by decide)
      · exact hpage 28 (by decide))) _)

theorem slotCleared_spec (s : State) (sid session word : Nat) :
    (slotCleared s sid session word).reg (A.UPD_SESS_STATE sid) = BitVec.ofNat 32 word ∧
      (slotCleared s sid session word).reg (A.UPD_SESS_TARGETED sid) = 0#32 := by
  unfold slotCleared
  constructor
  · rw [reg_zeros, if_neg (by simp), State.reg_setReg_self]
  · rw [reg_zeros, if_pos (by simp)]

theorem slotWord {mask image : Nat} (hm : mask < 16) (hi : image < 8) : bitsOf (BitVec.ofNat 32 (mask * 4096 + image * 256 + 1)).toNat 0 3 = 1 := by
  rw [BitVec.toNat_ofNat, Nat.mod_eq_of_lt (by omega), bitsOf]
  omega

/-- The session of slot `sid` of which the words begin. -/
structure Opened (s t : State) (sid image group deadline : Nat) (lanes : List Nat) : Prop where
  shown : (sessOf t sid).map (fun x => (x.session, x.image, x.group, x.startSfn, x.endSfn, x.lanes.map (fun l => l.lane))) =
    some (s.upd.nextSession, image, group, sfnNow s + s.fld F.UPD_CFG_INVITE_SF, sfnNow s + deadline, lanes)
  state : t.fld (F.UPD_SESS_STATE_STATE sid) = 1
  targeted : t.fld (F.UPD_SESS_TARGETED_COUNT sid) = 0
  next : t.upd.nextSession = s.upd.nextSession + 1
  used : t.flag (F.UPD_IMG_INFO_IN_SESSION image) = true

theorem Opened.of {sid image group deadline : Nat} {lanes : List Nat} {ps : List Area} (h : Opened s t sid image group deadline lanes)
    (ht : Touches ps [] t u) (hu : .upd ∉ ps := by decide) : Opened s u sid image group deadline lanes := by
  have hupd : u.upd = t.upd := ht.part .upd hu
  exact ⟨by rw [sessOf, hupd]; exact h.shown, by rw [ht.fld (by simp)]; exact h.state, by rw [ht.fld (by simp)]; exact h.targeted,
    by rw [hupd]; exact h.next, by rw [ht.flag (by simp)]; exact h.used⟩

theorem freeSid_spec {sid : Nat} (h : freeSid s = some sid) : sid < 4 ∧ sessOf s sid = none := by
  have hmem := List.mem_of_find?_eq_some h
  have hnone := List.find?_some h
  exact ⟨List.mem_range.1 hmem, Option.isNone_iff_eq_none.1 hnone⟩

theorem openSession_spec {sid image mask : Nat} (hs : sid < 4) (hi : image < 8) (hm : mask < 16) (hfree : sessOf s sid = none)
    (group deadline : Nat) (plan : List (Nat × Nat × Nat × Nat)) :
    Opened s (openSession s sid image group deadline mask plan) sid image group deadline (plan.map (fun l => l.1)) ∧
      (openSession s sid image group deadline mask plan).rings = s.rings := by
  obtain ⟨hlanes, hplan⟩ := openLanes_spec plan ([], s)
  rw [openSession_eq]
  generalize plan.foldl openLane ([], s) = r at hlanes hplan
  have hidle := touches_idleParcels (s := r.2) sid s.upd.nextSession
  generalize idleParcels r.2 sid s.upd.nextSession = v at hidle
  have hupd : v.upd = s.upd := ((hplan.then hidle).part .upd (by decide))
  have hrings : v.rings = s.rings := ((hplan.then hidle).part .rings (by decide))
  generalize hx : newSession s sid image group deadline r.1 = x
  generalize hw : sessionAdded v x = w
  have hadded : w.upd.sessions = s.upd.sessions ++ [x] ∧ w.upd.nextSession = x.session + 1 ∧ w.rings = v.rings :=
    hw ▸ ⟨congrArg (fun y : Upd => y.sessions ++ [x]) hupd, rfl, rfl⟩
  have hclear := touches_slotCleared (s := w) hs s.upd.nextSession (mask * 4096 + image * 256 + 1)
  obtain ⟨hstate, htarget⟩ := slotCleared_spec w sid s.upd.nextSession (mask * 4096 + image * 256 + 1)
  generalize slotCleared w sid s.upd.nextSession (mask * 4096 + image * 256 + 1) = y at hclear hstate htarget
  have hy : y.upd = w.upd := hclear.part .upd (by decide)
  have hshow := touches_refreshSessions y
  have hz : (refreshSessions y).upd = w.upd := (hshow.part .upd (by decide)).trans hy
  refine ⟨⟨?_, ?_, ?_, ?_, ?_⟩, (hshow.part .rings (by decide)).trans ((hclear.part .rings (by decide)).trans (hadded.2.2.trans hrings))⟩
  · have hfind : sessOf (refreshSessions y) sid = some x := by
      rw [sessOf, hz, hadded.1, List.find?_append, ← sessOf, hfree, ← hx]
      simp [newSession]
    rw [hfind, ← hx]
    exact congrArg (fun l => some (s.upd.nextSession, image, group, sfnNow s + s.fld F.UPD_CFG_INVITE_SF, sfnNow s + deadline, l)) hlanes
  · rw [refreshSessions_slot (by simp only [A.UPD_SESS_STATE]; omega), State.fld, hstate]
    exact slotWord hm hi
  · rw [refreshSessions_slot (by simp only [A.UPD_SESS_TARGETED]; omega), State.fld, htarget]
    exact bitsOf_zero _ _
  · rw [hz, hadded.2.1, ← hx]
    rfl
  · have hany : y.upd.sessions.any (fun z => z.image == image) = true := by
      rw [hy, hadded.1, ← hx]
      simp [newSession]
    rw [State.flag, refreshSessions_inSession hi, hany]
    rfl

end

/-- Settles O45: an image taken whole and its slot shown as the digests say; a session opened in the lowest free slot, its counts
read, and its end shown as it stops or meets its deadline. -/
theorem imagesAndSessionsStartAndEnd : Obligations.ImagesAndSessionsStartAndEnd := by
  unfold Obligations.ImagesAndSessionsStartAndEnd
  intro s id c
  refine ⟨fun bs hs hc hd hlen => ?_, fun hr hh hc => ⟨fun hf => ?_, fun sid hf => ⟨fun hp => ?_, fun plan hp => ?_⟩⟩, fun hs hc => ?_,
    fun hs hh hc => ⟨fun hx => ?_, fun x hx hsid hpend => ?_⟩, fun sid x hs hx hend => ?_⟩
  · exact imageLoad_cases hs hc hd hlen
  · obtain ⟨hout, heq⟩ := finish_alone hc.isPending 0x12 [0x01#8]
    exact ⟨_, congrArg Host.Outcome.next ((if_pos (by rw [hr, hh]; rfl)).trans (sessionStart_noSlot hc hf)), hout, heq⟩
  · obtain ⟨hout, heq⟩ := finish_alone hc.isPending 0x12 [0x02#8]
    exact ⟨_, congrArg Host.Outcome.next ((if_pos (by rw [hr, hh]; rfl)).trans (sessionStart_noPlan hc hf hp)), hout, heq⟩
  · obtain ⟨hsid, hfree⟩ := freeSid_spec hf
    obtain ⟨hopen, hrings⟩ := openSession_spec (image := fieldAt c.desc 16 1 % 8) (mask := fieldAt c.desc 17 1 % 16) hsid
      (Nat.mod_lt _ (by decide)) (Nat.mod_lt _ (by decide)) hfree (fieldAt c.desc 20 4) (fieldAt c.desc 24 4) plan
    have hout := outcome_finish_of_rings hrings hc.found hc.pending hc.2 0x00 (leBytes 4 s.upd.nextSession)
    have hstart : exec (.updSessionStart id) s = .next _ :=
      congrArg Host.Outcome.next ((if_pos (by rw [hr, hh]; rfl)).trans (sessionStart_planned hc hf hp))
    generalize openSession s sid (fieldAt c.desc 16 1 % 8) (fieldAt c.desc 20 4) (fieldAt c.desc 24 4) (fieldAt c.desc 17 1 % 16) plan = u
      at hopen hout hstart
    have hdone := hopen.of (touches_finish id 0x00 (leBytes 4 s.upd.nextSession))
    exact ⟨_, hstart, hout, hdone.shown, hdone.state, hdone.targeted, hdone.next, hdone.used⟩
  · have hexec : exec (.updSessionReport id) s = .next _ := congrArg Host.Outcome.next ((if_pos hs).trans (sessionReport_eq hc))
    cases hk : recordOf s (fieldAt c.desc 16 4) with
    | none =>
      obtain ⟨hout, heq⟩ := finish_alone hc.isPending 0x11 (leBytes 2 16)
      rw [hk] at hexec
      exact ⟨_, hexec, heq, hout⟩
    | some k =>
      rw [hk] at hexec
      exact ⟨_, hexec, (touches_finish id 0x00 _).eq, hc.isPending.finish 0x00 _⟩
  · obtain ⟨hout, heq⟩ := finish_alone hc.isPending 0x00 []
    exact ⟨_, congrArg Host.Outcome.next ((if_pos (by rw [hs, hh]; rfl)).trans (sessionStop_none hc hx)), hout, heq⟩
  · have hexec : exec (.updSessionStop id) s = .next _ :=
      congrArg Host.Outcome.next ((if_pos (by rw [hs, hh]; rfl)).trans (sessionStop_some hc hx))
    obtain ⟨hended, -⟩ := endSession_spec (s := s) (x := x) (reason := 3) (by decide) 1
    have hpending := hc.isPending.of (touches_endSession_quiet hsid hpend 3 1)
    generalize endSession s x 3 1 = u at hended hpending hexec
    have hdone := hended.of (touches_finish id 0x00 [])
    exact ⟨_, hexec, hpending.finish 0x00 [], hdone.gone, hdone.state, hdone.reason, hdone.event⟩
  · have hsid : x.sid = sid := by simpa using List.find?_some (p := fun y : Sess => y.sid == sid.val) hx
    have hexec : exec (.sessionDeadline sid) s = .next (endSession s x 2 2) := by
      refine congrArg Host.Outcome.next ?_
      rw [hx]
      exact if_pos (by rw [hs, Bool.true_and]; exact decide_eq_true hend)
    obtain ⟨hended, hcause⟩ := endSession_spec (s := s) (x := x) (reason := 2) (by decide) 2
    rw [hsid] at hended
    exact ⟨_, hexec, hended.gone, hended.state, hended.reason, hcause, hended.event⟩

end Sys2Proof.Machine
end

section
/-!
PROOFS. The rounds of update sessions: targets, frame positions, reports and the gaps between rounds (12_node_update_distribution.md).
-/
namespace Sys2Proof.Machine

-- One proof after another: side by side, the threads of so long a text want more memory than the check grants.
set_option Elab.async false

/-! ### What a message to a node leaves of its update bytes and of the registers of UPD -/

section
variable {s t u : State}

/-- The last bytes of every parcel, the counts of UPD and the causes of UPD that stand are kept. -/
structure UpdKept (s t : State) : Prop where
  bytes : ∀ a < 0x4000000, 225 ≤ a % 256 → t.ram a = s.ram a
  regs : ∀ a, 0x1F060 ≤ a → a < 0x20000 → a % 0x20 ≠ 4 → t.reg a = s.reg a
  causes : ∀ b < 32, causeSet s 0x1F b = true → causeSet t 0x1F b = true

theorem UpdKept.refl (s : State) : UpdKept s s := ⟨fun _ _ _ => rfl, fun _ _ _ _ => rfl, fun _ _ h => h⟩

theorem UpdKept.trans (h : UpdKept s t) (h' : UpdKept t u) : UpdKept s u :=
  ⟨fun a ha hm => (h'.bytes a ha hm).trans (h.bytes a ha hm), fun a h1 h2 h3 => (h'.regs a h1 h2 h3).trans (h.regs a h1 h2 h3),
    fun b hb hc => h'.causes b hb (h.causes b hb hc)⟩

theorem UpdKept.foldl {α : Type} {g : State → α → State} (hg : ∀ u e, UpdKept u (g u e)) (l : List α) (s : State) : UpdKept s (l.foldl g s) := by
  induction l generalizing s with
  | nil => exact UpdKept.refl s
  | cons e l ih => exact (hg s e).trans (ih _)

theorem UpdKept.ofRegs (hm : SameMemory s t) (hr : ∀ a, a / 0x1000 = 0x1F → t.reg a = s.reg a) : UpdKept s t :=
  ⟨fun a _ _ => hm a, fun a h1 h2 _ => hr a (by omega), fun b _ h => by
    rw [causeSet, hr _ (by decide)]
    exact h⟩

theorem UpdKept.of {ps : List Area} {gs : List Nat} (h : Touches ps gs s t) (hd : .dram ∉ ps := by decide) (hg : 0x1F ∉ gs := by decide) : UpdKept s t :=
  UpdKept.ofRegs (h.ram hd) (fun a ha => h.reg a (by rw [ha]; exact hg))

/-- A store outside the last bytes of the parcels. -/
theorem UpdKept.store {a : Nat} {bs : List Byte} (h : ∀ k < 0x4000000, 225 ≤ k % 256 → k < a ∨ a + bs.length ≤ k) : UpdKept s (s.ramStore a bs) :=
  ⟨fun k hk hm => State.ram_ramStore_apart _ _ _ (h k hk hm), fun _ _ _ _ => rfl, fun _ _ h => h⟩

theorem updKept_pSet {p o n v : Nat} (h : o + n ≤ 225) : UpdKept s (pSet s p o n v) :=
  UpdKept.store (fun k _ hm => by
    rw [length_leBytes]
    omega)

theorem updKept_setFld (f : Fld) (v : Nat) (ha : f.addr < 0x1F060 ∨ f.addr % 0x20 = 4) (hc : f.addr ≠ 0x1F010) :
    UpdKept s (s.setFld f v) :=
  ⟨fun _ _ _ => rfl, fun a h1 _ h3 => State.reg_setFld_ne _ _ (by omega), fun b _ h => by
    rw [causeSet, State.reg_setFld_ne _ _ (Ne.symm hc)]
    exact h⟩

theorem updKept_setCause (b : Nat) : UpdKept s (setCause s 0x1F b) :=
  ⟨fun a _ _ => (sameMemory_of_dram (setCause_dram s 0x1F b)) a, fun a h1 _ _ => onlyRegs_setCause s 0x1F b a (by simp; omega), fun c hc h => by
    rw [causeSet_setCause _ _ _ _ hc, h]
    rfl⟩

theorem updKept_takeCell {engine : Bool} {h : Nat} (e : takeCell s engine = some (h, t)) : UpdKept s t := by
  unfold takeCell at e
  split at e
  · cases e
    exact (UpdKept.of (touches_drawNat s _)).trans ((UpdKept.of (touches_fab _)).trans (UpdKept.of touches_bufLowCheck))
  · split at e
    · cases e
      exact (UpdKept.of (touches_drawNat s _)).trans (UpdKept.of (touches_fab _))
    · cases e

theorem updKept_takeCells (engine : Bool) (n : Nat) : UpdKept s (takeCells s engine n).2 := by
  induction n generalizing s with
  | zero => exact UpdKept.refl s
  | succ n ih =>
    unfold takeCells
    split
    · exact UpdKept.refl s
    · next h t e => exact (updKept_takeCell e).trans ih

theorem updKept_putMbx (p i : Nat) (m : Mbx) : UpdKept s (putMbx s p i m) := updKept_pSet (by
  unfold mbxOff
  omega)

theorem updKept_enterMailbox {p n : Nat} {m : Mbx} {d : Dl} (e : enterMailbox s p m d = some (n, t)) : UpdKept s t := by
  unfold enterMailbox at e
  simp only at e
  split at e
  · cases e
  · split at e
    · cases e
    · cases e
      exact (((updKept_takeCells true _).trans (UpdKept.of (touches_cad _))).trans (updKept_putMbx p _ _)).trans (updKept_pSet (by decide))

theorem updKept_genMessage (p : Nat) (body : List Byte) : UpdKept s (genMessage s p body) := by
  have hput : UpdKept s (putMessage s p body) := by
    unfold putMessage
    split
    · next e => exact updKept_enterMailbox e
    · exact UpdKept.of (touches_cad _)
  have hrelay : ∀ u, UpdKept u (placeRelay u p) := fun u => by
    unfold placeRelay
    split
    · exact UpdKept.refl u
    · simp only
      split
      · next e => exact updKept_enterMailbox e
      · exact UpdKept.refl u
  exact hput.trans (hrelay _)

theorem updKept_emptyMcast (sid : Nat) (lane : Option Nat) : UpdKept s (emptyMcast s sid lane) := by
  refine UpdKept.foldl (fun u e => ?_) _ s
  simp only
  split
  · have hentry : UpdKept u (u.ramStore (slotBase + 8 * e + 3) [0#8]) := UpdKept.store (fun k hk _ => Or.inl (by
      unfold slotBase
      omega))
    exact hentry.trans (UpdKept.of (touches_mac _))
  · exact UpdKept.refl u

theorem updKept_laneFinal (sid n : Nat) : UpdKept s (laneFinal s sid n) := (updKept_emptyMcast sid (some n)).trans (UpdKept.of (touches_upd _))

theorem updKept_showImages (n : Nat) (h : n ≤ 8) : UpdKept s (showImages s n) := by
  induction n with
  | zero => exact UpdKept.refl s
  | succ n ih =>
    rw [showImages_succ]
    exact (ih (by omega)).trans (updKept_setFld _ _ (Or.inl (by simp only [A.UPD_IMG_INFO]; omega))
      (by simp only [A.UPD_IMG_INFO]; omega))

theorem updKept_refreshSessions : UpdKept s (refreshSessions s) := by
  obtain ⟨v, hv⟩ := refreshSessions_eq s
  rw [hv]
  exact (updKept_showImages 8 (by decide)).trans (updKept_setFld _ _ (Or.inl (by decide)) (by decide))

/-- The word of a session slot that shows its state lies outside what is kept. -/
theorem updKept_setState {sid l w : Nat} (h : sid < 4) (v : Nat) : UpdKept s (s.setFld ⟨A.UPD_SESS_STATE sid, l, w⟩ v) :=
  updKept_setFld _ _ (Or.inr (by simp only [A.UPD_SESS_STATE]; omega)) (by simp only [A.UPD_SESS_STATE]; omega)

theorem updKept_endSession {x : Sess} (hx : x.sid < 4) (reason cancel : Nat) : UpdKept s (endSession s x reason cancel) := by
  have hmessages : UpdKept s ((pendingOf s x).foldl (fun (t : State) p => genMessage t p (cancelBody x cancel)) (emptyMcast s x.sid none)) :=
    (updKept_emptyMcast x.sid none).trans (UpdKept.foldl (fun u p => updKept_genMessage p _) _ _)
  unfold endSession
  simp only
  generalize (pendingOf s x).foldl (fun (t : State) p => genMessage t p (cancelBody x cancel)) (emptyMcast s x.sid none) = u at hmessages
  have hevent : ∀ (v : State) sev data, UpdKept v (v.event 0x1F 0 0x0C04 sev data) := fun v sev data =>
    UpdKept.of (touches_event (gs := []) _ _ _ _ _)
  exact (((((hmessages.trans (UpdKept.of (touches_upd _))).trans updKept_refreshSessions).trans (updKept_setState hx 6)).trans
    (updKept_setState hx reason)).trans (hevent _ _ _)).trans (updKept_setCause 3)

theorem updKept_afterFinal {x : Sess} (hx : x.sid < 4) (n : Nat) : UpdKept s (afterFinal s x n) := by
  unfold afterFinal
  simp only
  have hlane : UpdKept s (if (pendingOf s x).any (fun p => pBits s p 92 0 2 == n) then s else laneFinal s x.sid n) := by
    split
    · exact UpdKept.refl s
    · exact updKept_laneFinal x.sid n
  generalize (if (pendingOf s x).any (fun p => pBits s p 92 0 2 == n) then s else laneFinal s x.sid n) = u at hlane
  split
  · exact hlane.trans (updKept_endSession hx 1 0)
  · exact hlane

theorem updKept_fld (h : UpdKept s t) {f : Fld} (hf : 0x1F060 ≤ f.addr ∧ f.addr < 0x20000 ∧ f.addr % 0x20 ≠ 4) : t.fld f = s.fld f :=
  State.fld_congr (h.regs _ hf.1 hf.2.1 hf.2.2)

theorem updKept_uState (h : UpdKept s t) {p : Nat} (hp : p < parcelCount) : uState t p = uState s p := by
  unfold parcelCount at hp
  rw [uState, uState, pBits, pBits, h.bytes _ (by omega) (by omega)]

theorem updKept_uSession (h : UpdKept s t) {p : Nat} (hp : p < parcelCount) : uSession t p = uSession s p := by
  unfold parcelCount at hp
  rw [uSession, uSession, pGet, pGet, State.ramNat, State.ramNat, State.ramBytes, State.ramBytes]
  refine congrArg leNat (List.map_congr_left fun i hi => ?_)
  have := List.mem_range.1 hi
  exact h.bytes _ (by omega) (by omega)

/-! ### TARGET_SELECT (R435) -/

/-- The update bytes of a parcel that is invited. -/
def invitedBytes (x : Sess) : List Byte := leBytes 2 x.session ++ leBytes 1 (1 + 8 * x.sid) ++ List.replicate 5 0#8

theorem ramBytes_take (a m n : Nat) (h : m ≤ n) : s.ramBytes a m = (s.ramBytes a n).take m := by
  rw [State.ramBytes, State.ramBytes, ← List.map_take, List.take_range, Nat.min_eq_left h]

theorem invitedBytes_spec (s : State) (x : Sess) (p : Nat) :
    uState (s.ramStore (256 * p + 248) (invitedBytes x)) p = 1 ∧ uSession (s.ramStore (256 * p + 248) (invitedBytes x)) p = x.session % 65536 := by
  have hlen : (invitedBytes x).length = 8 := by simp [invitedBytes, length_leBytes]
  constructor
  · have hbyte : (s.ramStore (256 * p + 248) (invitedBytes x)).ram (256 * p + 248 + 2) = (invitedBytes x)[2] :=
      State.ram_ramStore _ _ _ (by omega)
    rw [uState, pBits, hbyte]
    simp [invitedBytes, leBytes, bitsOf]
  · have hall := State.ramBytes_ramStore s (256 * p + 248) (invitedBytes x)
    rw [hlen] at hall
    rw [uSession, pGet, State.ramNat, ramBytes_take _ 2 8 (by decide), hall, invitedBytes, List.append_assoc, List.take_append_of_le_length (by rw [length_leBytes]),
      List.take_of_length_le (by rw [length_leBytes]), leNat_leBytes]
    rfl

/-- The parcel of a target as it is taken into a session, and the counts of the session. -/
def targetTaken (s : State) (x : Sess) (p : Nat) : State :=
  let s := s.ramStore (256 * p + 248) (invitedBytes x)
  let s := { s with upd := { s.upd with retry := s.upd.retry.filter (· != p) } }
  (s.count (F.UPD_SESS_TARGETED_COUNT x.sid) 1).count (F.UPD_SESS_PENDING_COUNT x.sid) 1

theorem target_eq (s : State) (x : Sess) (l : UpdLane) (p : Nat) : target s x l p = invite (targetTaken s x p) x l p := rfl

theorem targetTaken_spec (s : State) (x : Sess) (p : Nat) : uState (targetTaken s x p) p = 1 ∧
    uSession (targetTaken s x p) p = x.session % 65536 ∧
    (targetTaken s x p).fld (F.UPD_SESS_TARGETED_COUNT x.sid) = satAdd 19 (s.fld (F.UPD_SESS_TARGETED_COUNT x.sid)) 1 := by
  obtain ⟨hstate, hsession⟩ := invitedBytes_spec s x p
  refine ⟨hstate, hsession, ?_⟩
  unfold targetTaken
  simp only
  rw [State.fld_count_apart _ _ _ _ (by simp) (Or.inl (by simp)), State.fld_count_self _ _ _ (by simp)]
  rfl

/-- Counting an invitation leaves the state and the session of the parcel. -/
theorem invite_spec (s : State) (x : Sess) (l : UpdLane) {p : Nat} (hp : p < parcelCount) : uState (invite s x l p) p = uState s p ∧
    uSession (invite s x l p) p = uSession s p ∧
    ∀ f : Fld, 0x1F060 ≤ f.addr ∧ f.addr < 0x20000 ∧ f.addr % 0x20 ≠ 4 → (invite s x l p).fld f = s.fld f := by
  have hkept := updKept_genMessage (s := pSetBits s p 255 0 4 (pBits s p 255 0 4 + 1)) p (inviteBody s x l)
  have hcount : ∀ a, a < 256 * p + 255 → (pSetBits s p 255 0 4 (pBits s p 255 0 4 + 1)).ram a = s.ram a := fun a ha =>
    State.ram_ramStore_apart _ _ _ (Or.inl ha)
  refine ⟨?_, ?_, fun f hf => (updKept_fld hkept hf).trans rfl⟩
  · rw [invite, updKept_uState hkept hp]
    exact congrArg (fun b : Byte => bitsOf b.toNat 0 3) (hcount _ (by omega))
  · rw [invite, updKept_uSession hkept hp, uSession, uSession, pGet, pGet, State.ramNat, State.ramNat, State.ramBytes, State.ramBytes]
    refine congrArg leNat (List.map_congr_left fun i hi => hcount _ ?_)
    have := List.mem_range.1 hi
    omega

/-- The targets of a session selected one after another: how many parcels are left out, and the state. -/
def selectTargets (s : State) (x : Sess) : Nat × State :=
  ((usedParcels s).filter (selected s x)).foldl (fun (acc : Nat × State) p =>
    match excluded acc.2 x p with
    | some l => (acc.1, target acc.2 x l p)
    | none => (acc.1 + 1, acc.2)) (0, s)

theorem selectTargets_one {x : Sess} {p : Nat} {l : UpdLane} (h : (usedParcels s).filter (selected s x) = [p]) (he : excluded s x p = some l) :
    selectTargets s x = (0, target s x l p) := by
  rw [selectTargets, h, List.foldl_cons, List.foldl_nil]
  simp only [he]

/-- The report of a selection. -/
def selectionShown (s : State) (x : Sess) (missed : Nat) : State :=
  setCause (s.event 0x1F 0 0x0C01 0 (leBytes 4 x.session ++ leBytes 3 (s.fld (F.UPD_SESS_TARGETED_COUNT x.sid)) ++ leBytes 3 missed)) 0x1F 0

theorem selectionShown_spec (s : State) (x : Sess) (missed : Nat) : UpdKept s (selectionShown s x missed) ∧
    causeSet (selectionShown s x missed) 0x1F 0 = true := by
  unfold selectionShown
  refine ⟨(UpdKept.of (touches_event (gs := []) _ _ _ _ _)).trans (updKept_setCause 0), ?_⟩
  rw [causeSet_setCause _ _ _ _ (by decide)]
  exact Bool.or_true _

/-- The lanes of a session without a target empty their entries. -/
def lanesWithout (s : State) (x : Sess) : State :=
  x.lanes.foldl (fun (t : State) l =>
    if (pendingOf t x).any (fun p => lastLane t p == l.lane) then t else laneFinal t x.sid l.lane) s

theorem lanesWithout_kept (s : State) (x : Sess) : UpdKept s (lanesWithout s x) ∧ (lanesWithout s x).regs = s.regs := by
  refine ⟨UpdKept.foldl (fun u l => ?_) _ s, ?_⟩
  · split
    · exact UpdKept.refl u
    · exact updKept_laneFinal _ _
  · refine (Touches.foldl (ps := [.dram, .mac, .upd]) (gs := []) (fun u l _ => ?_) s : Touches [.dram, .mac, .upd] [] s _).part .regs (by decide)
    exact Touches.ite (fun _ => Touches.refl u) (fun _ => touches_laneFinal _ _)

theorem targetSelect_eq (s : State) (x : Sess) : targetSelect s x =
    (if (selectTargets s x).2.fld (F.UPD_SESS_TARGETED_COUNT x.sid) = 0
      then endSession (selectionShown (selectTargets s x).2 x (selectTargets s x).1) x 4 0
      else lanesWithout ((selectionShown (selectTargets s x).2 x (selectTargets s x).1).setFld (F.UPD_SESS_STATE_STATE x.sid) 2) x) := rfl

theorem targeted_shown {k : Nat} (hk : k < 4) : 0x1F060 ≤ (F.UPD_SESS_TARGETED_COUNT k).addr ∧ (F.UPD_SESS_TARGETED_COUNT k).addr < 0x20000 ∧
    (F.UPD_SESS_TARGETED_COUNT k).addr % 0x20 ≠ 4 := by
  simp only [A.UPD_SESS_TARGETED]
  omega

/-- A selection of targets: its cause; without a target the session ends, else it invites; what it keeps of the targets taken. -/
theorem targetSelect_spec (s : State) {x : Sess} (hx : x.sid < 4) : causeSet (targetSelect s x) 0x1F 0 = true ∧
    ((targetSelect s x).fld (F.UPD_SESS_TARGETED_COUNT x.sid) = 0 → Ended (targetSelect s x) x.sid 4) ∧
    ((targetSelect s x).fld (F.UPD_SESS_TARGETED_COUNT x.sid) ≠ 0 → (targetSelect s x).fld (F.UPD_SESS_STATE_STATE x.sid) = 2) ∧
    UpdKept (selectTargets s x).2 (targetSelect s x) := by
  rw [targetSelect_eq]
  generalize selectTargets s x = r
  obtain ⟨hshown, hcause⟩ := selectionShown_spec r.2 x r.1
  generalize selectionShown r.2 x r.1 = v at hshown hcause
  split
  · next hzero =>
    have hkept := updKept_endSession (s := v) hx 4 0
    refine ⟨hkept.causes 0 (by decide) hcause, fun _ => (endSession_spec (by decide) 0).1, fun hne => absurd ?_ hne, hshown.trans hkept⟩
    rw [updKept_fld (hshown.trans hkept) (targeted_shown hx)]
    exact hzero
  · next hsome =>
    have hset : UpdKept v (v.setFld (F.UPD_SESS_STATE_STATE x.sid) 2) := updKept_setState hx 2
    have hstate : (v.setFld (F.UPD_SESS_STATE_STATE x.sid) 2).fld (F.UPD_SESS_STATE_STATE x.sid) = 2 := State.fld_setFld_self _ _ _ (by simp)
    generalize v.setFld (F.UPD_SESS_STATE_STATE x.sid) 2 = w at hset hstate
    obtain ⟨hkept, hregs⟩ := lanesWithout_kept w x
    have hall := (hshown.trans hset).trans hkept
    refine ⟨(hset.trans hkept).causes 0 (by decide) hcause, fun hzero => absurd ?_ hsome,
      fun _ => (State.fld_congr (State.reg_congr hregs _)).trans hstate, hall⟩
    rw [← updKept_fld hall (targeted_shown hx)]
    exact hzero

/-! ### MCAST_POSITION (R436–R438) -/

/-- The frame position of the occurrence `o` on lane `n` passed. -/
def positionPassed (s : State) (n : Nat) (o : Occ) : State := s.setLane n { s.lane n with occ := some { o with pos := o.pos + 1 } }

/-- The transmission that carries the multicast frame `bs` at its position. -/
def mcastRequest (s : State) (n : Nat) (o : Occ) (x : Sess) (l : UpdLane) (start : Nat) (bs : List Byte) : Tx :=
  let t := mcastTx s n l.sf bs.length
  let t := { t with parcel := x.sid, content := .frame bs, power := mcastPower s x n, start := start }
  { t with latest := latestBy s (some (o.start + eLen o.w0 * 4000000)) t }

/-- What becomes of the frame due at a position: requested on the lane, or withheld. -/
def mcastOffered (s : State) (n : Nat) (o : Occ) (x : Sess) (l : UpdLane) (start : Nat) : State :=
  match ccmProtect s (mcKey s x.session x.group) (mcastFrame s x l) 0 with
  | (none, s) => s.count F.UPD_MC_WITHHELD_COUNT 1
  | (some bs, s) => s.setLane n { s.lane n with txs := (s.lane n).txs ++ [mcastRequest s n o x l start bs] }

theorem mcastPosition_eq {n : Nat} {o : Occ} {x : Sess} {l : UpdLane} (h : mcastOcc s n = some (o, x, l)) (hpos : o.pos < l.frames) : ∃ start,
    mcastPosition s n = (if l.stage != 0 || sfnAt s o.start < x.startSfn || (0 < l.round && sfnAt s o.start ≤ l.endSfn + l.gap) then positionPassed s n o
      else if x.suspended.isSome || !s.ready || !mayTransmit s n then (positionPassed s n o).count F.UPD_MC_WITHHELD_COUNT 1
      else mcastOffered (positionPassed s n o) n o x l start) := by
  refine ⟨o.start + (mcastLead s + o.pos * ((mcastTx s n l.sf (15 + imgSym s x.image + macBytes x.micLen)).airUs + 2000)) * 1000, ?_⟩
  unfold mcastPosition
  rw [h]
  simp only [if_neg (Nat.not_le.2 hpos)]
  rfl

theorem touches_ccmProtect (key : Option (List Byte)) (bs : List Byte) (lane : Nat) :
    Touches [.regs, .host, .out] [0x29, 0x28] s (ccmProtect s key bs lane).2 := by
  have hcount : Touches [.regs, .host, .out] [0x29, 0x28] s (s.count F.CRY_CCM_OPS_COUNT 1) := (touches_count _ _).mono
  unfold ccmProtect
  cases key with
  | some k => exact hcount
  | none => exact hcount.then (touches_denied _)

theorem ccmProtect_cases (s : State) (key : Option (List Byte)) (bs : List Byte) (lane : Nat) :
    ∃ r u, ccmProtect s key bs lane = (r, u) ∧ Touches [.regs, .host, .out] [0x29, 0x28] s u :=
  ⟨_, _, rfl, touches_ccmProtect key bs lane⟩

theorem positionPassed_lane (s : State) (n : Nat) (o : Occ) :
    (positionPassed s n o).lane n = { s.lane n with occ := some { o with pos := o.pos + 1 } } := State.lane_setLane_self _ _

/-- Whatever becomes of the frame, the position has passed. -/
theorem mcastOffered_occ (s : State) (n : Nat) (o : Occ) (x : Sess) (l : UpdLane) (start : Nat) :
    ((mcastOffered s n o x l start).lane n).occ = (s.lane n).occ := by
  obtain ⟨r, u, hr, hu⟩ := ccmProtect_cases s (mcKey s x.session x.group) (mcastFrame s x l) 0
  have hlane : u.lane n = s.lane n := by rw [State.lane, hu.part .lanes (by decide), State.lane]
  unfold mcastOffered
  rw [hr]
  cases r with
  | none =>
    refine Eq.trans (congrArg LaneSt.occ ?_) (congrArg LaneSt.occ hlane)
    rw [State.lane, State.count_lanes, State.lane]
  | some bs =>
    refine Eq.trans (congrArg LaneSt.occ (State.lane_setLane_self _ _)) ?_
    exact (congrArg LaneSt.occ hlane : (u.lane n).occ = _)

/-- A frame that is protected is requested behind the others of its lane. -/
theorem mcastOffered_some (s : State) (n : Nat) (o : Occ) (x : Sess) (l : UpdLane) (start : Nat) {bs : List Byte}
    (h : (ccmProtect s (mcKey s x.session x.group) (mcastFrame s x l) 0).1 = some bs) : ∃ y : Tx,
    ((mcastOffered s n o x l start).lane n).txs = (s.lane n).txs ++ [y] ∧ (y.kind, y.parcel, y.content, y.length) = (5, x.sid, .frame bs, bs.length) := by
  obtain ⟨r, u, hr, hu⟩ := ccmProtect_cases s (mcKey s x.session x.group) (mcastFrame s x l) 0
  have hlane : u.lane n = s.lane n := by rw [State.lane, hu.part .lanes (by decide), State.lane]
  rw [hr] at h
  cases h
  refine ⟨mcastRequest u n o x l start bs, ?_, rfl⟩
  unfold mcastOffered
  rw [hr]
  refine (congrArg LaneSt.txs (State.lane_setLane_self n _)).trans ?_
  exact congrArg (fun y : LaneSt => y.txs ++ [mcastRequest u n o x l start bs]) hlane

/-! ### UPD_STATUS_RX (R440, R441) -/

theorem takeMessage_spec {n id : Nat} {f : RxFrame} (h : takeMessage s n id = some (f, t)) :
    t = s.setLane n { s.lane n with rx := (s.lane n).rx.erase f } := by
  unfold takeMessage at h
  obtain ⟨g, -, hg⟩ := Option.map_eq_some_iff.1 h
  cases hg
  rfl

theorem statusRx_short (s : State) (p : Nat) {body : List Byte} (h : body.length < 9) :
    statusRx s p body = s.count F.UPD_REPORTS_BAD_COUNT 1 := by
  unfold statusRx
  simp only
  split
  · rfl
  · rw [if_pos (by simp only [decide_eq_true h, Bool.true_or])]

/-- What a report of a target that passes its checks leaves to its USTATE. -/
def reportNoted (s : State) (p : Nat) (x : Sess) (l : UpdLane) (body : List Byte) : State :=
  let s := s.count F.UPD_REPORTS_COUNT 1
  let s := pSet (pSetBits (pSet s p 251 1 (fieldAt body 5 1)) p 250 5 2 0) p 252 3 (fieldAt body 6 3)
  if l.stage = 1 then
    editUpdLane s x.sid l.lane (fun l => { l with reports := l.reports.filter (· != p) ++ [p] })
  else s

theorem statusRx_complete {p : Nat} {body : List Byte} {x : Sess} {l : UpdLane} (hx : sessOf s (fieldAt body 1 1 % 4) = some x)
    (h9 : 9 ≤ body.length) (hodd : body.length % 2 = 1) (hcode : fieldAt body 4 1 = 2) (hu : uState s p ≠ 0) (hsid : uSid s p = x.sid)
    (hsess : uSession s p = x.session % 65536) (hb : fieldAt body 2 2 = x.session % 65536) (hl : updLane x (lastLane s p) = some l) :
    statusRx s p body = setUstate (reportNoted s p x l body) p 3 := by
  unfold statusRx
  simp only [hx]
  rw [if_neg (by simp [hsid, hsess, hb, hcode, hodd, hu, h9])]
  simp only [hl, hcode]
  rfl

/-- The sessions as far as targets are pending in them: their slots and numbers. -/
def SameSessions (s t : State) : Prop := ∀ k, (sessOf t k).map (fun x => (x.sid, x.session)) = (sessOf s k).map (fun x => (x.sid, x.session))

/-- A session changed but for its slot and number. -/
theorem sameSessions_map {g : Sess → Sess} (hg : ∀ x, ((g x).sid, (g x).session) = (x.sid, x.session))
    (h : t.upd.sessions = s.upd.sessions.map g) : SameSessions s t := by
  intro k
  have hkey : ((fun x : Sess => x.sid == k) ∘ g) = (fun x => x.sid == k) := funext fun x => by
    have := congrArg Prod.fst (hg x)
    exact congrArg (· == k) this
  rw [sessOf, sessOf, h, List.find?_map, hkey, Option.map_map]
  exact congrArg (fun f => Option.map f _) (funext hg)

theorem editUpdLane_sessions (s : State) (sid n : Nat) (f : UpdLane → UpdLane) : SameSessions s (editUpdLane s sid n f) := by
  refine sameSessions_map (g := fun x => if x.sid == sid then { x with lanes := x.lanes.map (fun l => if l.lane == n then f l else l) } else x)
    (fun x => ?_) rfl
  split <;> rfl

theorem editSess_sessions (s : State) (sid : Nat) {f : Sess → Sess} (hf : ∀ x, ((f x).sid, (f x).session) = (x.sid, x.session)) :
    SameSessions s (editSess s sid f) := by
  refine sameSessions_map (g := fun y => if y.sid == sid then f y else y) (fun x => ?_) rfl
  split
  · exact hf x
  · rfl

theorem SameSessions.trans (h : SameSessions s t) (h' : SameSessions t u) : SameSessions s u := fun k => (h' k).trans (h k)

/-- Which session a parcel is pending in, by the bytes of its state and the sessions that run. -/
theorem pendingIn_map {p : Nat} (h : SameSessions s t) (hstate : uState t p = uState s p) (hsid : uSid t p = uSid s p)
    (hsess : uSession t p = uSession s p) :
    (pendingIn t p).map (fun x => (x.sid, x.session)) = (pendingIn s p).map (fun x => (x.sid, x.session)) := by
  have hk := h (uSid s p)
  unfold pendingIn
  rw [hstate, hsid, hsess]
  split
  · cases hs : sessOf s (uSid s p) <;> cases ht : sessOf t (uSid s p) <;> rw [hs, ht] at hk
    · cases hk
    · cases hk
    · next x y =>
      simp only [Option.map_some, Option.some.injEq, Prod.mk.injEq] at hk
      obtain ⟨h1, h2⟩ := hk
      simp only [h2]
      split
      · rw [Option.map_some, Option.map_some, h1, h2]
      · rfl
  · rfl

/-- A parcel pending in a session is INVITED or ACCEPTED and names the session's number. -/
theorem pendingIn_bytes {p : Nat} {x : Sess} (h : pendingIn s p = some x) : uState s p ≠ 0 ∧ uSession s p = x.session % 65536 := by
  unfold pendingIn at h
  split at h
  · next hstate =>
    have hne : uState s p ≠ 0 := fun h0 => by
      rw [h0] at hstate
      exact absurd hstate (by decide)
    split at h
    · split at h
      · next y _ hy =>
        cases h
        exact ⟨hne, hy.symm⟩
      · cases h
    · cases h
  · cases h

theorem pendingOf_same (h : SameSessions s t) (hd : t.dram = s.dram) (x : Sess) : pendingOf t x = pendingOf s x := by
  have hused : usedParcels t = usedParcels s := by rw [usedParcels, usedParcels, hd]
  rw [pendingOf, pendingOf, hused]
  refine List.filter_congr fun p _ => ?_
  have hp := pendingIn_map h (pBits_of_dram hd p 250 0 3) (pBits_of_dram hd p 250 3 2) (pGet_of_dram hd p 248 2)
  cases hs : pendingIn s p <;> cases ht : pendingIn t p <;> rw [hs, ht] at hp
  · cases hp
  · cases hp
  · simp only [Option.map_some, Option.some.injEq, Prod.mk.injEq] at hp
    simp only [hp.1]

/-! ### REPORT_GAP_END (R438–R441) -/

/-- The needs of a gap as the next round meets them: per generation the symbols, and the first unused index. -/
def roundPlan (s : State) (x : Sess) (l : UpdLane) : List (Nat × Nat × Nat) :=
  (l.need.filter (fun e => 0 < e.2)).map (fun e => (e.1, e.2 + s.fld F.UPD_CFG_EXTRA, Tbl.get (fun _ => 0) x.nextR e.1))

/-- The indices of repair symbols that a plan uses up. -/
def usedIndices (plan : List (Nat × Nat × Nat)) (y : Sess) : Sess :=
  { y with nextR := plan.foldl (fun t e => Tbl.put (fun _ => 0) t e.1 (min 2048 (e.2.2 + e.2.1))) y.nextR }

/-- A lane's share as its next round begins. -/
def nextRound (due : List Nat) (l : UpdLane) : UpdLane := { l with round := l.round + 1, stage := 0, due := due, planned := due.length }

/-- The next round of a lane begun. -/
def roundBegun (s : State) (x : Sess) (l : UpdLane) : State :=
  editUpdLane (editSess s x.sid (usedIndices (roundPlan s x l))) x.sid l.lane (nextRound (roundRobin (roundPlan s x l)))

/-- A node that stayed silent through the gap of a round. -/
def silentOnce (t : State) (p : Nat) : State :=
  let k := pBits t p 250 5 2 + 1
  let t := pSetBits t p 250 5 2 k
  if 3 ≤ k then setUstate t p 6 else t

theorem gapEnds_eq (s : State) (x : Sess) (l : UpdLane) : gapEnds s x l =
    showSession (((pendingOf (roundBegun s x l) x).filter (fun p => uState (roundBegun s x l) p == 2 && lastLane (roundBegun s x l) p == l.lane &&
      !l.reports.contains p)).foldl silentOnce (roundBegun s x l)) x.sid := rfl

theorem touches_showSession {sid : Nat} (h : sid < 4) : Touches [.regs] [0x1F] s (showSession s sid) := by
  unfold showSession
  split
  · exact Touches.refl s
  · exact Touches.ite (fun _ => Touches.refl s) (fun _ => touches_setFld_of _ _ (session_page h).1)

/-- Where every pending target has reported, no node is silent. -/
theorem gapEnds_reported {x : Sess} {l : UpdLane} (h : ∀ p ∈ pendingOf s x, p ∈ l.reports) : gapEnds s x l = showSession (roundBegun s x l) x.sid := by
  have hsame : SameSessions s (roundBegun s x l) :=
    (editSess_sessions s x.sid (f := usedIndices (roundPlan s x l)) (fun _ => rfl)).trans (editUpdLane_sessions _ x.sid l.lane _)
  have hnone : (pendingOf (roundBegun s x l) x).filter (fun p => uState (roundBegun s x l) p == 2 && lastLane (roundBegun s x l) p == l.lane &&
      !l.reports.contains p) = [] := by
    rw [pendingOf_same hsame rfl, List.filter_eq_nil_iff]
    intro p hp
    simp [h p hp]
  rw [gapEnds_eq, hnone, List.foldl_nil]

/-- The lane's share of a session in whose round the lane goes on. -/
theorem roundBegun_lane {sid n : Nat} {x : Sess} {l : UpdLane} (hx : sessOf s sid = some x) (hl : updLane x n = some l) :
    (sessOf (roundBegun s x l) sid).bind (fun y => updLane y n) = some (nextRound (roundRobin (roundPlan s x l)) l) := by
  have hsid : x.sid = sid := by simpa using List.find?_some (p := fun y : Sess => y.sid == sid) hx
  have hlane : l.lane = n := by simpa using List.find?_some (p := fun m : UpdLane => m.lane == n) hl
  have hfound : ∀ (u : State) (g : Sess → Sess) (y : Sess), (∀ z, (g z).sid = z.sid) → sessOf u sid = some y →
      ∀ v : State, v.upd.sessions = u.upd.sessions.map g → sessOf v sid = some (g y) := by
    intro u g y hg hy v hv
    have hkey : ((fun z : Sess => z.sid == sid) ∘ g) = (fun z => z.sid == sid) := funext fun z => congrArg (· == sid) (hg z)
    rw [sessOf, hv, List.find?_map, hkey]
    exact congrArg (Option.map g) hy
  have hfirst : sessOf (editSess s x.sid (usedIndices (roundPlan s x l))) sid = some (usedIndices (roundPlan s x l) x) := by
    have := hfound s (fun y => if y.sid == x.sid then usedIndices (roundPlan s x l) y else y) x (fun z => by
      split <;> rfl) hx (editSess s x.sid (usedIndices (roundPlan s x l))) rfl
    rwa [if_pos (beq_self_eq_true _)] at this
  have hsecond := hfound _ (fun y => if y.sid == x.sid then { y with lanes := y.lanes.map (fun m => if m.lane == l.lane then
    nextRound (roundRobin (roundPlan s x l)) m else m) } else y) _ (fun z => by split <;> rfl) hfirst (roundBegun s x l) rfl
  rw [hsecond, Option.bind_some, if_pos (show ((usedIndices (roundPlan s x l) x).sid == x.sid) = true from beq_self_eq_true x.sid), updLane,
    List.find?_map]
  have hkey : ((fun m : UpdLane => m.lane == n) ∘ fun m => if m.lane == l.lane then nextRound (roundRobin (roundPlan s x l)) m else m) =
      (fun m => m.lane == n) := funext fun m => by
    rw [Function.comp_apply]
    split <;> rfl
  rw [hkey]
  refine (congrArg (Option.map _) (hl : x.lanes.find? (fun m => m.lane == n) = some l)).trans ?_
  rw [Option.map_some, if_pos (beq_self_eq_true _)]

/-! ### A target that reports completion (R440, R441) -/

theorem touches_reportNoted {x : Sess} {l : UpdLane} (p : Nat) (body : List Byte) : Touches [.regs, .dram, .upd] [0x1F] s (reportNoted s p x l body) := by
  have hcount : Touches [.regs, .dram, .upd] [0x1F] s (s.count F.UPD_REPORTS_COUNT 1) := (touches_count _ _).mono
  unfold reportNoted
  have hset : ∀ u, Touches [.dram] [] u (pSet (pSetBits (pSet u p 251 1 (fieldAt body 5 1)) p 250 5 2 0) p 252 3 (fieldAt body 6 3)) := fun u =>
    ((touches_pSet p _ _ _).trans (touches_pSetBits p _ _ _ _)).trans (touches_pSet p _ _ _)
  exact Touches.ite (fun _ => (hcount.then (hset _)).then (touches_upd _)) (fun _ => hcount.then (hset _))

theorem touches_takeMessage {n id : Nat} {f : RxFrame} (h : takeMessage s n id = some (f, t)) : Touches [.lanes] [] s t := by
  rw [takeMessage_spec h]
  exact touches_setLane n _

/-- The byte that holds the bits of a parcel written. -/
theorem ram_pSetBits (p o lsb w v : Nat) : (pSetBits s p o lsb w v).ram (256 * p + o) =
    BitVec.ofNat 8 ((s.ram (256 * p + o)).toNat - bitsOf (s.ram (256 * p + o)).toNat lsb w * 2 ^ lsb + v % 2 ^ w * 2 ^ lsb) :=
  State.ram_ramStore _ (256 * p + o) _ (i := 0) (by rw [length_leBytes]; omega)

theorem low_bits_written : ∀ b < 256, ∀ v < 8, bitsOf ((b - bitsOf b 0 3 * 2 ^ 0 + v % 2 ^ 3 * 2 ^ 0) % 2 ^ 8) 0 3 = v := by decide +kernel

theorem low_bits_kept : ∀ b < 256, ∀ v < 4, bitsOf ((b - bitsOf b 5 2 * 2 ^ 5 + v % 2 ^ 2 * 2 ^ 5) % 2 ^ 8) 0 3 = bitsOf b 0 3 ∧
    bitsOf ((b - bitsOf b 5 2 * 2 ^ 5 + v % 2 ^ 2 * 2 ^ 5) % 2 ^ 8) 3 2 = bitsOf b 3 2 := by decide +kernel

theorem uState_pSetBits (s : State) (p : Nat) {v : Nat} (hv : v < 8) : uState (pSetBits s p 250 0 3 v) p = v := by
  rw [uState, pBits, ram_pSetBits, BitVec.toNat_ofNat]
  exact low_bits_written _ (s.ram (256 * p + 250)).isLt v hv

/-- A report noted leaves the state of the parcel and the session that it names. -/
theorem reportNoted_spec (s : State) (p : Nat) (x : Sess) (l : UpdLane) (body : List Byte) :
    uState (reportNoted s p x l body) p = uState s p ∧ uSid (reportNoted s p x l body) p = uSid s p ∧
      uSession (reportNoted s p x l body) p = uSession s p ∧ SameSessions s (reportNoted s p x l body) ∧
      (reportNoted s p x l body).fld F.UPD_REPORTS_COUNT = satAdd 32 (s.fld F.UPD_REPORTS_COUNT) 1 := by
  have hcount : (s.count F.UPD_REPORTS_COUNT 1).fld F.UPD_REPORTS_COUNT = satAdd 32 (s.fld F.UPD_REPORTS_COUNT) 1 := State.fld_count_self _ _ _ (by decide)
  have hfirst : ∀ a, a < 256 * p + 251 → (pSet (s.count F.UPD_REPORTS_COUNT 1) p 251 1 (fieldAt body 5 1)).ram a = s.ram a := fun a ha =>
    State.ram_ramStore_apart _ _ _ (Or.inl ha)
  have hsecond := onlyMemory_pSetBits (s := pSet (s.count F.UPD_REPORTS_COUNT 1) p 251 1 (fieldAt body 5 1)) (p := p) 250 5 2 0
  have hbits := ram_pSetBits (s := pSet (s.count F.UPD_REPORTS_COUNT 1) p 251 1 (fieldAt body 5 1)) p 250 5 2 0
  have hkeep := low_bits_kept _ (s.ram (256 * p + 250)).isLt 0 (by decide)
  rw [hfirst _ (by omega)] at hbits
  have hsame := touches_pSetBits (s := pSet (s.count F.UPD_REPORTS_COUNT 1) p 251 1 (fieldAt body 5 1)) p 250 5 2 0
  have hupd : (pSet (s.count F.UPD_REPORTS_COUNT 1) p 251 1 (fieldAt body 5 1)).upd = s.upd := State.count_upd s F.UPD_REPORTS_COUNT 1
  have hregs : (pSet (s.count F.UPD_REPORTS_COUNT 1) p 251 1 (fieldAt body 5 1)).regs = (s.count F.UPD_REPORTS_COUNT 1).regs := rfl
  unfold reportNoted
  simp only
  generalize pSet (s.count F.UPD_REPORTS_COUNT 1) p 251 1 (fieldAt body 5 1) = u at hfirst hsecond hbits hsame hupd hregs
  generalize pSetBits u p 250 5 2 0 = v at hsecond hbits hsame
  have hthird : ∀ a, a < 256 * p + 252 → (pSet v p 252 3 (fieldAt body 6 3)).ram a = v.ram a := fun a ha => State.ram_ramStore_apart _ _ _ (Or.inl ha)
  have hlast := touches_pSet (s := v) p 252 3 (fieldAt body 6 3)
  generalize pSet v p 252 3 (fieldAt body 6 3) = w at hthird hlast
  have hw : w.upd = s.upd ∧ w.reg F.UPD_REPORTS_COUNT.addr = (s.count F.UPD_REPORTS_COUNT 1).reg F.UPD_REPORTS_COUNT.addr :=
    ⟨((hsame.then hlast).part .upd (by decide)).trans hupd, ((hsame.then hlast).reg _ (by simp)).trans (State.reg_congr hregs _)⟩
  have hend : ∀ t : State, (t.dram = w.dram ∧ SameSessions s t ∧ t.regs = w.regs) → uState t p = uState s p ∧ uSid t p = uSid s p ∧
      uSession t p = uSession s p ∧ SameSessions s t ∧ t.fld F.UPD_REPORTS_COUNT = satAdd 32 (s.fld F.UPD_REPORTS_COUNT) 1 := by
    rintro t ⟨hdram, hsess, hreg⟩
    have hram : ∀ a, a < 256 * p + 250 → t.ram a = s.ram a := fun a ha => by
      rw [ram_of_dram hdram, hthird a (by omega), hsecond a (Or.inl ha), hfirst a (by omega)]
    have hbyte := (ram_of_dram hdram (256 * p + 250)).trans ((hthird _ (by omega)).trans hbits)
    refine ⟨?_, ?_, ?_, hsess, ((State.fld_congr ((State.reg_congr hreg _).trans hw.2))).trans hcount⟩
    · rw [uState, pBits, hbyte, BitVec.toNat_ofNat]
      exact hkeep.1
    · rw [uSid, pBits, hbyte, BitVec.toNat_ofNat]
      exact hkeep.2
    · rw [uSession, uSession, pGet, pGet, State.ramNat, State.ramNat, State.ramBytes, State.ramBytes]
      refine congrArg leNat (List.map_congr_left fun i hi => hram _ ?_)
      have := List.mem_range.1 hi
      omega
  have hsessions : SameSessions s w := fun k => by rw [sessOf, sessOf, hw.1]
  split
  · exact hend _ ⟨rfl, hsessions.trans (editUpdLane_sessions w _ _ _), rfl⟩
  · exact hend _ ⟨rfl, hsessions, rfl⟩

/-- A pending target that becomes final: its state, and what is kept of the counts outside its session. -/
theorem setUstate_final {p k : Nat} {x : Sess} (hp : p < parcelCount) (hx : pendingIn s p = some x) (hk : 3 ≤ k) (hk' : k < 8) :
    uState (setUstate s p k) p = k ∧ (setUstate s p k).fld F.UPD_REPORTS_COUNT = s.fld F.UPD_REPORTS_COUNT := by
  have hsid := pendingIn_sid hx
  unfold setUstate
  simp only [hx, if_neg (Nat.not_lt.2 hk)]
  have hcount : ∀ (u : State) j v, (u.setFld (sessCount x.sid j) v).fld F.UPD_REPORTS_COUNT = u.fld F.UPD_REPORTS_COUNT := fun u j v =>
    State.fld_congr (State.reg_setFld_ne _ _ (by
      unfold sessCount
      split <;> (simp only [A.UPD_REPORTS, A.UPD_SESS_PENDING, A.UPD_SESS_COMPLETED, A.UPD_SESS_DECLINED, A.UPD_SESS_FAILED, A.UPD_SESS_LOST]; omega)))
  generalize hu : (s.setFld (sessCount x.sid (uState s p)) (s.fld (sessCount x.sid (uState s p)) - 1)) = u
  have hu' := hu ▸ hcount s (uState s p) (s.fld (sessCount x.sid (uState s p)) - 1)
  have hstate := uState_pSetBits (u.setFld (sessCount x.sid k) (u.fld (sessCount x.sid k) + 1)) p hk'
  have hfld : (pSetBits (u.setFld (sessCount x.sid k) (u.fld (sessCount x.sid k) + 1)) p 250 0 3 k).fld F.UPD_REPORTS_COUNT =
      s.fld F.UPD_REPORTS_COUNT := (hcount u k _).trans hu'
  generalize pSetBits (u.setFld (sessCount x.sid k) (u.fld (sessCount x.sid k) + 1)) p 250 0 3 k = v at hstate hfld
  have hevent : ∀ sev data, UpdKept v (v.event 0x1F 0 0x0C03 sev data) := fun sev data => UpdKept.of (touches_event (gs := []) _ _ _ _ _)
  have hend : ∀ t, UpdKept v t → uState t p = k ∧ t.fld F.UPD_REPORTS_COUNT = s.fld F.UPD_REPORTS_COUNT := fun t ht =>
    ⟨(updKept_uState ht hp).trans hstate, (updKept_fld ht (by decide)).trans hfld⟩
  refine hend _ (UpdKept.trans ?_ (updKept_afterFinal hsid _))
  split
  · exact (hevent _ _).trans (updKept_setCause 4)
  · exact hevent _ _

end

/-- Settles O46: the targets of a session are selected and shown, the positions of its occurrences pass with a frame requested or
withheld, reports are counted and change their target, and a gap in which all have reported begins the next round. -/
theorem updateRoundsRun : Obligations.UpdateRoundsRun := by
  unfold Obligations.UpdateRoundsRun
  refine ⟨fun s sid x hr hh hx hstate => ?_, fun s n o x l hs ho hpos => ?_, fun s n f s' hs hf => ⟨fun hlen => ?_, ?_⟩,
    fun s sid n x l hs hh hx hl hstage hall => ?_⟩
  · have hsid : x.sid = sid := by simpa using List.find?_some (p := fun y : Sess => y.sid == sid.val) hx
    have hexec : exec (.targetSelect sid) s = .next (targetSelect s x) := by
      refine congrArg Host.Outcome.next ?_
      rw [hx]
      exact if_pos (by rw [hr, hh, hstate]; rfl)
    obtain ⟨hcause, hnone, hsome, hkept⟩ := targetSelect_spec s (x := x) (by omega)
    rw [hsid] at hnone hsome
    refine ⟨_, hexec, hcause, fun hzero => ?_, hsome, fun p l hone hp he hcount => ?_⟩
    · exact ⟨(hnone hzero).gone, (hnone hzero).state, (hnone hzero).reason⟩
    · obtain ⟨htaken, hsession, htargeted⟩ := targetTaken_spec s x p
      obtain ⟨h1, h2, h3⟩ := invite_spec (targetTaken s x p) x l hp
      rw [selectTargets_one hone he, target_eq] at hkept
      have hshown := targeted_shown (k := x.sid) (by omega)
      refine ⟨?_, (updKept_uState hkept hp).trans (h1.trans htaken), (updKept_uSession hkept hp).trans (h2.trans hsession)⟩
      rw [← hsid, updKept_fld hkept hshown, h3 _ hshown, htargeted, hsid, hcount]
      rfl
  · obtain ⟨start, hstep⟩ := mcastPosition_eq ho hpos
    have hexec : exec (.mcastPosition n) s = .next _ := congrArg Host.Outcome.next ((if_pos hs).trans hstep)
    have hocc : ((positionPassed s n o).lane n).occ = some { o with pos := o.pos + 1 } := by rw [positionPassed_lane]
    have hcounted : ∀ u : State, (u.count F.UPD_MC_WITHHELD_COUNT 1).lane n = u.lane n := fun u => by rw [State.lane, State.count_lanes, State.lane]
    refine ⟨_, hexec, ?_, fun hstage hstart hround => ⟨fun hsus => ?_, fun bs hsus hready hmay hbs => ?_⟩⟩
    · split
      · rw [hocc]
        rfl
      · split
        · rw [hcounted, hocc]
          rfl
        · rw [mcastOffered_occ, hocc]
          rfl
    · rw [if_neg (by simp [hstage, hround, Nat.not_lt.2 hstart]), if_pos (by rw [hsus]; rfl)]
      refine ⟨State.fld_count_self _ _ _ (by decide), ?_⟩
      rw [hcounted, positionPassed_lane]
    · rw [if_neg (by simp [hstage, hround, Nat.not_lt.2 hstart]), if_neg (by simp [hsus, hready, hmay])]
      obtain ⟨y, htxs, hy⟩ := mcastOffered_some (positionPassed s n o) n o x l start hbs
      rw [htxs, positionPassed_lane]
      refine ⟨by simp, ?_⟩
      rw [List.getLast?_append]
      exact congrArg some hy
  · have hexec : exec (.updStatusRx n) s = .next (statusRx s' (fParcel f.bytes) f.body) := by
      refine congrArg Host.Outcome.next ((if_pos hs).trans ?_)
      rw [hf]
    rw [statusRx_short s' _ hlen] at hexec
    have htake := touches_takeMessage hf
    refine ⟨_, hexec, ?_, fun a => ?_, ?_⟩
    · rw [State.fld_count_self _ _ _ (by decide), htake.fld (by simp)]
    · exact htake.ram (by decide) a
    · rw [State.lane, State.count_lanes, ← State.lane, takeMessage_spec hf, State.lane_setLane_self]
  · intro x l hx h9 hodd hcode hp hpend hsid hb hl hx4
    have htake := touches_takeMessage hf
    have hdram : s'.dram = s.dram := htake.part .dram (by decide)
    have hupd : s'.upd = s.upd := htake.part .upd (by decide)
    have hpending : pendingIn s' (fParcel f.bytes) = some x := (pendingIn_of_dram hdram hupd _).trans hpend
    have hused : uState s (fParcel f.bytes) ≠ 0 ∧ uSession s (fParcel f.bytes) = x.session % 65536 := pendingIn_bytes hpend
    have hstate : uState s' (fParcel f.bytes) = uState s (fParcel f.bytes) := pBits_of_dram hdram _ _ _ _
    have hslot : uSid s' (fParcel f.bytes) = uSid s (fParcel f.bytes) := pBits_of_dram hdram _ _ _ _
    have hsession : uSession s' (fParcel f.bytes) = uSession s (fParcel f.bytes) := pGet_of_dram hdram _ _ _
    have hlane : lastLane s' (fParcel f.bytes) = lastLane s (fParcel f.bytes) := pBits_of_dram hdram _ _ _ _
    have hstatus := statusRx_complete (s := s') (p := fParcel f.bytes) (by rw [sessOf, hupd]; exact hx) h9 hodd hcode (by rw [hstate]; exact hused.1)
      (hslot.trans hsid) (hsession.trans hused.2) hb (by rw [hlane]; exact hl)
    have hexec : exec (.updStatusRx n) s = .next (statusRx s' (fParcel f.bytes) f.body) := by
      refine congrArg Host.Outcome.next ((if_pos hs).trans ?_)
      rw [hf]
    rw [hstatus] at hexec
    obtain ⟨h1, h2, h3, h4, h5⟩ := reportNoted_spec s' (fParcel f.bytes) x l f.body
    have hmap := pendingIn_map h4 h1 h2 h3
    generalize reportNoted s' (fParcel f.bytes) x l f.body = v at hexec h5 hmap
    rw [hpending] at hmap
    obtain ⟨y, hy, -⟩ := Option.map_eq_some_iff.1 hmap
    obtain ⟨hfinal, hcount⟩ := setUstate_final hp hy (k := 3) (by decide) (by decide)
    exact ⟨_, hexec, by rw [hcount, h5, htake.fld (by simp)], hfinal⟩
  · have hsid : x.sid = sid := by simpa using List.find?_some (p := fun y : Sess => y.sid == sid.val) hx
    have hexec : exec (.reportGapEnd sid n) s = .next (gapEnds s x l) := by
      refine congrArg Host.Outcome.next ?_
      rw [hx]
      simp only [hl]
      exact if_pos (by rw [hs, hh, hstage]; rfl)
    rw [gapEnds_reported hall] at hexec
    have hshow := touches_showSession (s := roundBegun s x l) (sid := x.sid) (by omega)
    refine ⟨_, hexec, ?_, fun a => hshow.ram (by decide) a⟩
    have hbind := roundBegun_lane hx hl
    have hkept : sessOf (showSession (roundBegun s x l) x.sid) sid = sessOf (roundBegun s x l) sid := by
      rw [sessOf, hshow.part .upd (by decide), sessOf]
    rw [hkept, hbind]
    simp [nextRound]

end Sys2Proof.Machine
end

section
/-!
PROOFS. Wide values and pop addresses: words held and committed together, higher words latched, peeks that consume nothing
(02_register_model.md, Wide values, Result registers).
-/
namespace Sys2Proof.Machine

-- One proof after another: side by side, the threads of so long a text want more memory than the check grants.
set_option Elab.async false

/-! ### The words of a wide value that software may write (R62) -/

section
variable {s t u : State} {src : Requester} {base n i : Nat}

/-- The address of the LOCK register of the page in which `base` lies. -/
def lockAddr (base : Nat) : Nat := base / 0x1000 * 0x1000 + 0x024

/-- The register at `a` has one field of `width` bits from bit 0, that is open to software while LOCK is as in `s`. -/
def OneOpenField (s : State) (base a width : Nat) : Prop :=
  ∃ (r : RegSpec) (ty : FieldType) (lock : Nat), specOf a = some r ∧ r.fields = [⟨0, width, ty, lock⟩] ∧ (ty = .rw ∨ ty = .lk) ∧
    (∀ u : State, u.reg (lockAddr base) = s.reg (lockAddr base) → fieldLocked u a ⟨0, width, ty, lock⟩ = false) ∧
    ∀ (u : State) (v w : Nat), reservedEnc u (a / 0x1000 - basePage (a / 0x1000)) (basePage (a / 0x1000)) r.off 0 v w = false

/-- Word `i` of a wide value of `n` words whose lowest lies at `base`, as software may write it in `s`. -/
structure OpenWord (s : State) (base n i width : Nat) : Prop where
  place : wideOf (base + 4 * i) = some (base, n)
  answers : implemented (base + 4 * i) = true
  field : OneOpenField s base (base + 4 * i) width
  route : ∀ src data, routeWrite s src (base + 4 * i) data allBits =
    wideWrite s src (base + 4 * i) data (fun s a d => writeFields s src a d allBits)
  size : width = 32 ∨ width = 30 ∧ i = 0 ∧ n = 3
  below : lockAddr base < base

theorem fieldLocked_rw (u : State) (a l w lock : Nat) : fieldLocked u a ⟨l, w, .rw, lock⟩ = false := rfl

theorem clockId_addr : ∀ i : Fin 2, wideOf (A.DTM_CLOCK_ID + 4 * i.val) = some (A.DTM_CLOCK_ID, 2) ∧
    implemented (A.DTM_CLOCK_ID + 4 * i.val) = true ∧ specOf (A.DTM_CLOCK_ID + 4 * i.val) = some ⟨64 + 4 * i.val, 1, 4, 0, [⟨0, 32, .lk, 0⟩]⟩ := by
  decide +kernel

theorem openWord_clockId (h : s.flag F.DTM_LOCK_LOCK0 = false) (hi : i < 2) : OpenWord s A.DTM_CLOCK_ID 2 i 32 := by
  obtain ⟨hplace, himp, hspec⟩ := clockId_addr ⟨i, hi⟩
  refine ⟨hplace, himp, ⟨_, _, _, hspec, rfl, Or.inr rfl, fun u hu => ?_, fun u v w => ?_⟩, fun src data => ?_, Or.inl rfl, by decide⟩
  · rw [State.flag_eq_bit rfl] at h
    have hpage : (A.DTM_CLOCK_ID + 4 * i) / 0x1000 * 0x1000 + 0x024 = lockAddr A.DTM_CLOCK_ID := by
      simp only [A.DTM_CLOCK_ID, lockAddr]
      omega
    simp only [fieldLocked, hpage, hu]
    exact h
  · obtain rfl | rfl : i = 0 ∨ i = 1 := by omega
    · rfl
    · rfl
  · obtain rfl | rfl : i = 0 ∨ i = 1 := by omega
    · rfl
    · rfl

theorem gateBase_addr : ∀ (x : Fin 6) (i : Fin 3), wideOf (A.GCL_L_ADMIN_BASE x + 4 * i.val) = some (A.GCL_L_ADMIN_BASE x, 3) ∧
    implemented (A.GCL_L_ADMIN_BASE x + 4 * i.val) = true ∧
    specOf (A.GCL_L_ADMIN_BASE x + 4 * i.val) = some ⟨76 + 4 * i.val, 6, 32, 0, [⟨0, if i.val = 0 then 30 else 32, .lk, 31⟩]⟩ ∧
    (A.GCL_L_ADMIN_BASE x + 4 * i.val) / 0x1000 = 0x23 ∧ (A.GCL_L_ADMIN_BASE x + 4 * i.val - 0x23040) % 0x20 = 0xC + 4 * i.val ∧
    ((A.GCL_L_ADMIN_BASE x + 4 * i.val) % 0x1000 - 0x040) / 0x20 = x.val ∧ lockAddr (A.GCL_L_ADMIN_BASE x) = 0x23024 := by
  decide +kernel

/-- A page whose wide values follow rules of their own writes its words itself. -/
theorem routeWrite_owned {a page : Nat} (data : Word) (hp : a / 0x1000 = page) (ho : wideOwned page = true) :
    (page = 0x05 → routeWrite s src a data allBits = writeCmd s src a data allBits data) ∧
    (page = 0x20 → routeWrite s src a data allBits = writeFab s src a data allBits data) ∧
    (page = 0x23 → routeWrite s src a data allBits = writeGcl s src a data allBits data) := by
  unfold routeWrite
  simp only [hp, ho, Bool.not_true, Bool.and_false, Bool.false_and, Bool.false_eq_true, if_false, if_true]
  refine ⟨fun h => ?_, fun h => ?_, fun h => ?_⟩
  · subst h
    rfl
  · subst h
    rfl
  · subst h
    rfl

theorem openWord_gateBase (x : Fin 6) (h : gateLocked s x = false) (hi : i < 3) :
    OpenWord s (A.GCL_L_ADMIN_BASE x) 3 i (if i = 0 then 30 else 32) := by
  obtain ⟨hplace, himp, hspec, hpage, hoff, hlist, hlock⟩ := gateBase_addr x ⟨i, hi⟩
  simp only at hplace himp hspec hpage hoff hlist
  have hx : x.val < 6 := x.isLt
  refine ⟨hplace, himp, ⟨_, _, _, hspec, rfl, Or.inr rfl, fun u hu => ?_, fun u v w => ?_⟩, fun src data => ?_, ?_, ?_⟩
  · have hregs : (A.GCL_L_ADMIN_BASE x + 4 * i) / 0x1000 * 0x1000 + 0x024 = lockAddr (A.GCL_L_ADMIN_BASE x) := by
      rw [hpage, hlock]
    rw [hlock] at hu
    simp only [fieldLocked, hregs, hlist, hlock, hu]
    unfold gateLocked at h
    split at h
    · next hlow =>
      rw [State.flag_eq_bit rfl] at h
      simp only [if_pos hlow]
      exact h
    · next hhigh =>
      rw [State.flag_eq_bit rfl] at h
      simp only [if_neg hhigh]
      exact h
  · rw [hpage]
    obtain rfl | rfl | rfl : i = 0 ∨ i = 1 ∨ i = 2 := by omega
    · rfl
    · rfl
    · rfl
  · rw [(routeWrite_owned data hpage rfl).2.2 rfl]
    have hne : A.GCL_L_ADMIN_BASE x + 4 * i ≠ A.GCL_WIN_DATA := by
      simp only [A.GCL_L_ADMIN_BASE, A.GCL_WIN_DATA]
      omega
    have hin : (decide (0x23040 ≤ A.GCL_L_ADMIN_BASE x + 4 * i) && decide (A.GCL_L_ADMIN_BASE x + 4 * i < 0x23100)) = true := by
      simp only [A.GCL_L_ADMIN_BASE, Bool.and_eq_true, decide_eq_true_eq]
      omega
    unfold writeGcl
    rw [if_neg hne, if_pos hin]
    simp only [hoff]
    obtain rfl | rfl | rfl : i = 0 ∨ i = 1 ∨ i = 2 := by omega
    · rfl
    · rfl
    · rfl
  · split
    · next h0 => exact Or.inr ⟨rfl, h0, rfl⟩
    · exact Or.inl rfl
  · rw [hlock]
    simp only [A.GCL_L_ADMIN_BASE]
    omega

theorem ringBase_addr : ∀ (k : Fin 4) (j i : Fin 2), wideOf (A.CMD_RING_SQ_BASE k + 8 * j.val + 4 * i.val) = some (A.CMD_RING_SQ_BASE k + 8 * j.val, 2) ∧
    implemented (A.CMD_RING_SQ_BASE k + 8 * j.val + 4 * i.val) = true ∧
    specOf (A.CMD_RING_SQ_BASE k + 8 * j.val + 4 * i.val) = some ⟨72 + 8 * j.val + 4 * i.val, 4, 64, 0, [⟨0, 32, .rw, 32⟩]⟩ ∧
    (A.CMD_RING_SQ_BASE k + 8 * j.val + 4 * i.val) / 0x1000 = 0x05 ∧
    (A.CMD_RING_SQ_BASE k + 8 * j.val + 4 * i.val - 0x05040) % 0x40 = 8 + 8 * j.val + 4 * i.val ∧
    (A.CMD_RING_SQ_BASE k + 8 * j.val + 4 * i.val - 0x05040) / 0x40 = k.val := by
  decide +kernel

theorem openWord_ringBase (k : Fin 4) (j : Fin 2) (h : ringState s k = 0) (hi : i < 2) :
    OpenWord s (A.CMD_RING_SQ_BASE k + 8 * j.val) 2 i 32 := by
  obtain ⟨hplace, himp, hspec, hpage, hoff, hring⟩ := ringBase_addr k j ⟨i, hi⟩
  simp only at hplace himp hspec hpage hoff hring
  have hk : k.val < 4 := k.isLt
  have hj : j.val < 2 := j.isLt
  refine ⟨hplace, himp, ⟨_, _, _, hspec, rfl, Or.inl rfl, fun u _ => rfl, fun u v w => ?_⟩, fun src data => ?_, Or.inl rfl, ?_⟩
  · rw [hpage]
    obtain rfl | rfl : i = 0 ∨ i = 1 := by omega
    · fin_cases j
      · rfl
      · rfl
    · fin_cases j
      · rfl
      · rfl
  · have hin : (decide (0x05040 ≤ A.CMD_RING_SQ_BASE k + 8 * j.val + 4 * i) && decide (A.CMD_RING_SQ_BASE k + 8 * j.val + 4 * i < 0x05140)) = true := by
      simp only [A.CMD_RING_SQ_BASE, Bool.and_eq_true, decide_eq_true_eq]
      omega
    have hcoal : A.CMD_RING_SQ_BASE k + 8 * j.val + 4 * i ≠ A.CMD_RING_COAL k := by
      simp only [A.CMD_RING_SQ_BASE, A.CMD_RING_COAL]
      omega
    have hsize : A.CMD_RING_SQ_BASE k + 8 * j.val + 4 * i ≠ A.CMD_RING_SIZE k := by
      simp only [A.CMD_RING_SQ_BASE, A.CMD_RING_SIZE]
      omega
    have hconfig : ringConfigWrite s src k (A.CMD_RING_SQ_BASE k + 8 * j.val + 4 * i) data allBits =
        wideWrite s src (A.CMD_RING_SQ_BASE k + 8 * j.val + 4 * i) data (fun s a d => writeFields s src a d allBits) := by
      unfold ringConfigWrite
      rw [if_pos (by rw [h]; simp), if_neg (by simp [hcoal, hsize])]
    rw [(routeWrite_owned data hpage rfl).1 rfl, writeCmd, if_pos hin, hring, ← hconfig]
    generalize hb : A.CMD_RING_SQ_BASE k + 8 * j.val + 4 * i = a at hoff
    unfold writeRing
    simp only [hoff]
    obtain rfl | rfl : i = 0 ∨ i = 1 := by omega
    · fin_cases j
      · rfl
      · rfl
    · fin_cases j
      · rfl
      · rfl
  · simp only [lockAddr, A.CMD_RING_SQ_BASE]
    omega

theorem eventBase_addr : ∀ i : Fin 2, wideOf (A.CMD_EVR_BASE + 4 * i.val) = some (A.CMD_EVR_BASE, 2) ∧
    implemented (A.CMD_EVR_BASE + 4 * i.val) = true ∧ specOf (A.CMD_EVR_BASE + 4 * i.val) = some ⟨324 + 4 * i.val, 1, 4, 0, [⟨0, 32, .rw, 32⟩]⟩ := by
  decide +kernel

theorem openWord_eventBase (h : s.log.evrOn = false) (hi : i < 2) : OpenWord s A.CMD_EVR_BASE 2 i 32 := by
  obtain ⟨hplace, himp, hspec⟩ := eventBase_addr ⟨i, hi⟩
  have hwrite : ∀ src a data, evrBaseWrite s src a data = wideWrite s src a data (fun s a d => writeFields s src a d allBits) := fun src a data => by
    unfold evrBaseWrite
    rw [h]
    rfl
  refine ⟨hplace, himp, ⟨_, _, _, hspec, rfl, Or.inl rfl, fun u _ => rfl, fun u v w => ?_⟩, fun src data => ?_, Or.inl rfl, by decide⟩
  · obtain rfl | rfl : i = 0 ∨ i = 1 := by omega
    · rfl
    · rfl
  · rw [← hwrite]
    obtain rfl | rfl : i = 0 ∨ i = 1 := by omega
    · rfl
    · rfl

theorem hrxBase_addr : ∀ (k : Fin 8) (i : Fin 2), wideOf (A.FAB_HRX_BASE k + 4 * i.val) = some (A.FAB_HRX_BASE k, 2) ∧
    implemented (A.FAB_HRX_BASE k + 4 * i.val) = true ∧
    specOf (A.FAB_HRX_BASE k + 4 * i.val) = some ⟨68 + 4 * i.val, 8, 32, 0, [⟨0, 32, .rw, 32⟩]⟩ ∧
    (A.FAB_HRX_BASE k + 4 * i.val) / 0x1000 = 0x20 ∧ (A.FAB_HRX_BASE k + 4 * i.val - 0x20040) % 0x20 = 4 + 4 * i.val ∧
    (A.FAB_HRX_BASE k + 4 * i.val - 0x20040) / 0x20 = k.val := by
  decide +kernel

theorem openWord_hrxBase (k : Fin 8) (h : s.fld (F.FAB_HRX_STATUS_STATE k) = 0) (hi : i < 2) : OpenWord s (A.FAB_HRX_BASE k) 2 i 32 := by
  obtain ⟨hplace, himp, hspec, hpage, hoff, hring⟩ := hrxBase_addr k ⟨i, hi⟩
  simp only at hplace himp hspec hpage hoff hring
  have hk : k.val < 8 := k.isLt
  refine ⟨hplace, himp, ⟨_, _, _, hspec, rfl, Or.inl rfl, fun u _ => rfl, fun u v w => ?_⟩, fun src data => ?_, Or.inl rfl, ?_⟩
  · rw [hpage]
    obtain rfl | rfl : i = 0 ∨ i = 1 := by omega
    · rfl
    · rfl
  · have hin : (decide (0x20040 ≤ A.FAB_HRX_BASE k + 4 * i) && decide (A.FAB_HRX_BASE k + 4 * i < 0x20140)) = true := by
      simp only [A.FAB_HRX_BASE, Bool.and_eq_true, decide_eq_true_eq]
      omega
    have hsize : A.FAB_HRX_BASE k + 4 * i ≠ A.FAB_HRX_SIZE k := by
      simp only [A.FAB_HRX_BASE, A.FAB_HRX_SIZE]
      omega
    have hconfig : hrxConfigWrite s src k (A.FAB_HRX_BASE k + 4 * i) data allBits =
        wideWrite s src (A.FAB_HRX_BASE k + 4 * i) data (fun s a d => writeFields s src a d allBits) := by
      unfold hrxConfigWrite
      rw [if_neg (by rw [h]; decide), if_neg hsize]
    rw [(routeWrite_owned data hpage rfl).2.1 rfl, writeFab, if_pos hin, ← hconfig]
    simp only [hoff, hring]
    obtain rfl | rfl : i = 0 ∨ i = 1 := by omega
    · rfl
    · rfl
  · simp only [lockAddr, A.FAB_HRX_BASE]
    omega

/-- Every word of a wide value that is open to software. -/
theorem openWord_of_wideOpen (h : WideOpen s base n) (hi : i < n) : ∃ width, OpenWord s base n i width := by
  rcases h with ⟨rfl, rfl, hl⟩ | ⟨x, rfl, rfl, hl⟩ | ⟨k, hb, rfl, hr⟩ | ⟨rfl, rfl, he⟩ | ⟨k, rfl, rfl, hr⟩
  · exact ⟨_, openWord_clockId hl hi⟩
  · exact ⟨_, openWord_gateBase x hl hi⟩
  · rcases hb with rfl | rfl
    · exact ⟨_, openWord_ringBase k 0 hr hi⟩
    · have hbase : A.CMD_RING_CQ_BASE k = A.CMD_RING_SQ_BASE k + 8 * (1 : Fin 2).val := by
        simp only [A.CMD_RING_CQ_BASE, A.CMD_RING_SQ_BASE]
        omega
      rw [hbase]
      exact ⟨_, openWord_ringBase k 1 hr hi⟩
  · exact ⟨_, openWord_eventBase he hi⟩
  · exact ⟨_, openWord_hrxBase k hr hi⟩

/-! ### Words held, and the value committed -/

theorem OpenWord.stored {width : Nat} (h : OpenWord s base n i width) (hu : u.reg (lockAddr base) = s.reg (lockAddr base)) (d : Word) :
    writeFields u src (base + 4 * i) d allBits = u.setFld ⟨base + 4 * i, 0, width⟩ (bitsOf d.toNat 0 width) := by
  obtain ⟨r, ty, lock, hspec, hfields, hty, hlock, hres⟩ := h.field
  have hsize : 0 < width ∧ width ≤ 32 := by
    rcases h.size with hw | ⟨hw, -⟩ <;> omega
  exact writeFields_oneField hspec hfields hty hsize.1 (by omega) (hlock u hu) (hres u _ _)

theorem OpenWord.unlocked {width : Nat} (h : OpenWord s base n i width) : wordLocked s (base + 4 * i) = false := by
  obtain ⟨r, ty, lock, hspec, hfields, -, hlock, -⟩ := h.field
  rw [wordLocked, hspec, Option.any_some, hfields, List.all_cons, List.all_nil, hlock s rfl]
  rfl

theorem OpenWord.exec_eq {width : Nat} {addr : RegAddr} (h : OpenWord s base n i width) (hs : s.inOperation = true) (ha : wordAddr addr = base + 4 * i)
    (data : Word) : exec (.wideWordWrite src addr data) s =
      .next (wideWrite s src (base + 4 * i) data (fun s a d => writeFields s src a d allBits)) := by
  refine congrArg Host.Outcome.next ?_
  rw [ha, if_pos (by rw [h.place]; rfl), gateWrite_inOperation hs h.answers src _, h.route]

/-- The words of the value that the requester holds. -/
def wordsHeld (s : State) (src : Requester) (base : Nat) : List (Nat × Word) := if (heldBy s src).base = base then (heldBy s src).words else []

theorem OpenWord.wideWrite_eq {width : Nat} (h : OpenWord s base n i width) (data : Word) (commit : State → Nat → Word → State) :
    wideWrite s src (base + 4 * i) data commit = (if base + 4 * i = base + 4 * (n - 1)
      then commit ((wordsHeld s src base).foldl (fun u w => commit u w.1 w.2) (setHold s src (noHold 0))) (base + 4 * i) data
      else setHold s src { base := base, words := Tbl.ins (base + 4 * i) data (Tbl.erase (base + 4 * i) (wordsHeld s src base)) }) := by
  unfold wideWrite
  rw [h.place]
  simp only [h.unlocked, Bool.false_eq_true, if_false]
  rfl

theorem heldBy_setHold (s : State) (src : Requester) (v : WriteHold) : heldBy (setHold s src v) src = v := Tbl.get_put_self _ _ _ _

theorem touches_setHold (s : State) (src : Requester) (v : WriteHold) : Touches [.bus] [] s (setHold s src v) := touches_parts [.bus] rfl

/-- The words of a value below word `k`, with what is held of each. -/
def lowerWords (base : Nat) (lower : Nat → Word) (k : Nat) : List (Nat × Word) := (List.range k).map (fun j => (base + 4 * j, lower j))

theorem lowerWords_succ (base : Nat) (lower : Nat → Word) (k : Nat) :
    lowerWords base lower (k + 1) = lowerWords base lower k ++ [(base + 4 * k, lower k)] := by
  rw [lowerWords, List.range_succ, List.map_append]
  rfl

/-- The words below word `k` committed one after another. -/
structure LowerStored (s t : State) (base n : Nat) (lower : Nat → Word) (k : Nat) : Prop where
  frame : t = { s with regs := t.regs }
  other : ∀ a, (∀ j < k, a ≠ base + 4 * j) → t.reg a = s.reg a
  word : ∀ j < k, bitsOf (t.reg (base + 4 * j)).toNat 0 30 = bitsOf (lower j).toNat 0 30 ∧ (n = 2 ∨ j = 1 → t.reg (base + 4 * j) = lower j)

theorem bitsOf_low_insBits {width : Nat} (old d : Word) (h : width = 32 ∨ width = 30) :
    bitsOf (insBits old 0 width (bitsOf d.toNat 0 width)).toNat 0 30 = bitsOf d.toNat 0 30 := by
  rcases h with rfl | rfl
  · rw [insBits_all]
  · rw [bitsOf_insBits _ _ _ _ (by decide), Nat.mod_eq_of_lt (bitsOf_lt _ _ _)]

theorem lowerStored_of_commits {lower : Nat → Word} {k : Nat} (v : State) (hv : v.regs = s.regs)
    (hw : ∀ j < k, ∃ width, OpenWord s base n j width) :
    LowerStored v ((lowerWords base lower k).foldl (fun u w => writeFields u src w.1 w.2 allBits) v) base n lower k := by
  induction k with
  | zero => exact ⟨rfl, fun _ _ => rfl, fun _ hj => absurd hj (Nat.not_lt_zero _)⟩
  | succ k ih =>
    obtain ⟨hframe, hother, hword⟩ := ih (fun j hj => hw j (by omega))
    obtain ⟨width, hopen⟩ := hw k (by omega)
    rw [lowerWords_succ, List.foldl_append, List.foldl_cons, List.foldl_nil]
    generalize (lowerWords base lower k).foldl (fun u w => writeFields u src w.1 w.2 allBits) v = u at hframe hother hword
    have hlock : u.reg (lockAddr base) = s.reg (lockAddr base) :=
      (hother _ (fun j _ => by
        have := hopen.below
        omega)).trans (State.reg_congr hv _)
    rw [hopen.stored hlock]
    have hself : (u.setFld ⟨base + 4 * k, 0, width⟩ (bitsOf (lower k).toNat 0 width)).reg (base + 4 * k) =
        insBits (u.reg (base + 4 * k)) 0 width (bitsOf (lower k).toNat 0 width) := State.reg_setReg_self _ _ _
    have hapart : ∀ a, a ≠ base + 4 * k → (u.setFld ⟨base + 4 * k, 0, width⟩ (bitsOf (lower k).toNat 0 width)).reg a = u.reg a := fun a ha =>
      State.reg_setFld_ne _ _ ha
    refine ⟨?_, fun a ha => (hapart a (ha k (by omega))).trans (hother a (fun j hj => ha j (by omega))), fun j hj => ?_⟩
    · exact congrArg (fun w : State =>
        { w with regs := (u.setFld ⟨base + 4 * k, 0, width⟩ (bitsOf (lower k).toNat 0 width)).regs }) hframe
    · rcases Nat.lt_succ_iff_lt_or_eq.1 hj with hj | rfl
      · rw [hapart _ (by omega)]
        exact hword j hj
      · rw [hself]
        refine ⟨bitsOf_low_insBits _ _ (by rcases hopen.size with hw | ⟨hw, -⟩ <;> omega), fun hn => ?_⟩
        rcases hopen.size with rfl | ⟨-, h0, h3⟩
        · exact insBits_all _ _
        · omega

/-- A word below the highest is held; what was held of another value is dropped. -/
theorem wideWrite_held (h : WideOpen s base n) (hs : s.inOperation = true) {addr : RegAddr} (ha : wordAddr addr = base + 4 * i) (hi : i + 1 < n)
    (data : Word) : exec (.wideWordWrite src addr data) s = .next (setHold s src
      { base := base, words := Tbl.ins (wordAddr addr) data (Tbl.erase (wordAddr addr) (if (heldBy s src).base = base then (heldBy s src).words else [])) }) := by
  obtain ⟨width, hw⟩ := openWord_of_wideOpen h (i := i) (by omega)
  rw [hw.exec_eq hs ha, hw.wideWrite_eq, if_neg (by omega), ha]
  rfl

/-- The highest word commits the words held below it, in order, and then itself. -/
theorem wideWrite_committed (h : WideOpen s base n) (hs : s.inOperation = true) {addr : RegAddr} (ha : wordAddr addr = base + 4 * i) (hi : i + 1 = n)
    {lower : Nat → Word} {k : Nat} (hk : k ≤ i) (hheld : wordsHeld s src base = lowerWords base lower k) (data : Word) :
    ∃ t, exec (.wideWordWrite src addr data) s = .next t ∧ t.reg (wordAddr addr) = data ∧
      (∀ j, j < k → bitsOf (t.reg (base + 4 * j)).toNat 0 30 = bitsOf (lower j).toNat 0 30 ∧ (n = 2 ∨ j = 1 → t.reg (base + 4 * j) = lower j)) ∧
      heldBy t src = noHold 0 ∧ (∀ a, a ≠ wordAddr addr → (∀ j < k, a ≠ base + 4 * j) → t.reg a = s.reg a) ∧
      t = { s with regs := t.regs, bus := t.bus } := by
  obtain ⟨width, hw⟩ := openWord_of_wideOpen h (i := i) (by omega)
  have hexec : exec (.wideWordWrite src addr data) s = .next _ := (hw.exec_eq hs ha data).trans
    (congrArg Host.Outcome.next ((hw.wideWrite_eq data _).trans (if_pos (by omega))))
  rw [hheld] at hexec
  have hlower := lowerStored_of_commits (s := s) (src := src) (base := base) (n := n) (lower := lower) (k := k) (setHold s src (noHold 0)) rfl
    (fun j hj => openWord_of_wideOpen h (by omega))
  have hnone := heldBy_setHold s src (noHold 0)
  have hbus : setHold s src (noHold 0) = { s with bus := (setHold s src (noHold 0)).bus } := rfl
  have hregs : ∀ a, (setHold s src (noHold 0)).reg a = s.reg a := fun _ => rfl
  generalize setHold s src (noHold 0) = v at hexec hlower hnone hbus hregs
  obtain ⟨hframe, hother, hword⟩ := hlower
  generalize (lowerWords base lower k).foldl (fun u w => writeFields u src w.1 w.2 allBits) v = u at hexec hframe hother hword
  have hlock : u.reg (lockAddr base) = s.reg (lockAddr base) := (hother _ (fun j _ => by
    have := hw.below
    omega)).trans (hregs _)
  have hwhole : width = 32 := by
    have hn : 2 ≤ n := by
      rcases h with ⟨-, rfl, -⟩ | ⟨-, -, rfl, -⟩ | ⟨-, -, rfl, -⟩ | ⟨-, rfl, -⟩ | ⟨-, -, rfl, -⟩ <;> decide
    rcases hw.size with hw | ⟨-, h0, -⟩ <;> omega
  have hlast : writeFields u src (base + 4 * i) data allBits = u.setReg (base + 4 * i) data := by
    rw [hw.stored hlock, hwhole]
    exact setFld_whole
  have hb : u.bus = v.bus := by rw [hframe]
  refine ⟨_, hexec, ?_, fun j hj => ?_, ?_, fun a ha1 ha2 => ?_, ?_⟩
  · rw [hlast, ha]
    exact State.reg_setReg_self _ _ _
  · rw [hlast, State.reg_setReg_ne _ _ (by omega)]
    exact hword j hj
  · rw [hlast]
    exact (congrArg (fun b : Bus => Tbl.get noHold b.hold src.code) hb).trans hnone
  · rw [hlast, State.reg_setReg_ne _ _ (by omega), hother a ha2, hregs]
  · rw [hlast]
    have hall : u = { s with regs := u.regs, bus := v.bus } := hframe.trans (congrArg (fun w : State => { w with regs := u.regs }) hbus)
    exact (congrArg (fun w : State => { w with regs := (u.setReg (base + 4 * i) data).regs }) hall).trans
      (congrArg (fun b => { s with regs := (u.setReg (base + 4 * i) data).regs, bus := b }) hb.symm)

/-! ### Reads of wide values and of pop addresses (R59, R66) -/

/-- The lowest words of the wide values, with their numbers of words. -/
def wideTable : List (Nat × Nat) :=
  (List.range 4).flatMap (fun k => [(0x05048 + 0x40 * k, 2), (0x05050 + 0x40 * k, 2)]) ++ (List.range 8).map (fun k => (0x20044 + 0x20 * k, 2)) ++
  (List.range 6).map (fun k => (0x2304C + 0x20 * k, 3)) ++ [(0x05144, 2), (0x07030, 2), (0x07038, 2), (0x24058, 2), (0x25058, 2), (0x26060, 4),
    (0x26040, 2), (0x26050, 2), (0x26074, 2), (0x28034, 2), (0x31040, 2), (0x31048, 2)]

theorem wideTable_spec : ∀ e ∈ wideTable, implemented e.1 = true ∧ e.1 % 0x1000 < 0x800 ∧ popOf (e.1 / 0x1000) (e.1 % 0x1000) = none ∧
    peekOf (e.1 / 0x1000) (e.1 % 0x1000) = none := by
  decide +kernel

theorem wideTable_words : ∀ e ∈ wideTable, 0 < e.2 := by decide +kernel

theorem mem_wideTable_ring {a k o : Nat} (hk : k < 4) (ho : o = 8 ∨ o = 16) (ha : a = 0x05040 + 0x40 * k + o) : (a, 2) ∈ wideTable := by
  subst ha
  rcases ho with rfl | rfl
  · revert k
    decide +kernel
  · revert k
    decide +kernel

theorem mem_wideTable_hrx {a k : Nat} (hk : k < 8) (ha : a = 0x20044 + 0x20 * k) : (a, 2) ∈ wideTable := by
  subst ha
  revert k
  decide +kernel

theorem mem_wideTable_gate {a k : Nat} (hk : k < 6) (ha : a = 0x2304C + 0x20 * k) : (a, 3) ∈ wideTable := by
  subst ha
  revert k
  decide +kernel

/-- The pages whose wide values are pairs of words at fixed places. -/
theorem pair_lowest {a page o : Nat} {e : Nat × Nat}
    (h : (if (a % 0x1000 = o || a % 0x1000 = o + 4) = true then some (page * 0x1000 + o, 2) else none) = some e) (ha : e.1 = a) :
    a = page * 0x1000 + o ∧ e.2 = 2 := by
  split at h
  · cases h
    exact ⟨ha.symm, rfl⟩
  · cases h

/-- The lowest word of a value found by its distance from the word read. -/
theorem lowest_inj {a d m n : Nat} (h : some (a - d, m) = some (a, n)) : a - d = a ∧ m = n := by
  simpa using h

theorem mem_wideTable_of_lowest {a n : Nat} (h : wideOf a = some (a, n)) : (a, n) ∈ wideTable := by
  have hpairs : ∀ {page o : Nat}, a / 0x1000 = page → (page * 0x1000 + o, 2) ∈ wideTable →
      (if (a % 0x1000 = o || a % 0x1000 = o + 4) = true then some (page * 0x1000 + o, 2) else none) = some (a, n) → (a, n) ∈ wideTable := by
    intro page o hp hmem he
    obtain ⟨ha, hn⟩ := pair_lowest he rfl
    simp only at hn
    rw [ha, hn]
    exact hmem
  unfold wideOf at h
  simp only at h
  split at h
  · next hp =>
    split at h
    · next hin =>
      simp only [Bool.and_eq_true, decide_eq_true_eq] at hin
      split at h
      · next ho =>
        simp only [Bool.or_eq_true, decide_eq_true_eq] at ho
        obtain ⟨hd, rfl⟩ := lowest_inj h
        exact mem_wideTable_ring (k := (a - 0x05040) / 0x40) (o := 8) (by omega) (Or.inl rfl) (by omega)
      · split at h
        · next ho =>
          simp only [Bool.or_eq_true, decide_eq_true_eq] at ho
          obtain ⟨hd, rfl⟩ := lowest_inj h
          exact mem_wideTable_ring (k := (a - 0x05040) / 0x40) (o := 16) (by omega) (Or.inr rfl) (by omega)
        · cases h
    · exact hpairs hp (by decide +kernel) (hp ▸ h)
  · next hp =>
    split at h
    · exact hpairs hp (by decide +kernel) (hp ▸ h)
    · exact hpairs hp (by decide +kernel) (hp ▸ h)
  · next hp =>
    split at h
    · next hin =>
      simp only [Bool.and_eq_true, decide_eq_true_eq] at hin
      split at h
      · next ho =>
        simp only [Bool.or_eq_true, decide_eq_true_eq] at ho
        obtain ⟨hd, rfl⟩ := lowest_inj h
        exact mem_wideTable_hrx (k := (a - 0x20040) / 0x20) (by omega) (by omega)
      · cases h
    · cases h
  · next hp =>
    split at h
    · next hin =>
      simp only [Bool.and_eq_true, decide_eq_true_eq] at hin
      split at h
      · next ho =>
        simp only [Bool.or_eq_true, decide_eq_true_eq] at ho
        obtain ⟨hd, rfl⟩ := lowest_inj h
        exact mem_wideTable_gate (k := (a - 0x23040) / 0x20) (by omega) (by omega)
      · cases h
    · cases h
  · next hp => exact hpairs hp (by decide +kernel) (hp ▸ h)
  · next hp => exact hpairs hp (by decide +kernel) (hp ▸ h)
  · next hp =>
    split at h
    · cases h
      decide +kernel
    · split at h
      · exact hpairs hp (by decide +kernel) (hp ▸ h)
      · split at h
        · exact hpairs hp (by decide +kernel) (hp ▸ h)
        · exact hpairs hp (by decide +kernel) (hp ▸ h)
  · next hp => exact hpairs hp (by decide +kernel) (hp ▸ h)
  · next hp =>
    split at h
    · exact hpairs hp (by decide +kernel) (hp ▸ h)
    · exact hpairs hp (by decide +kernel) (hp ▸ h)
  · cases h

/-- The further words of a value as a read of its first word latches them. -/
theorem readWide_spec (s : State) (src : Requester) (a : Nat) (ws : List Word) :
    (readWide s src a ws).out = s.out ++ [.readData src a (ws.headD 0#32)] ∧
      (∀ j, 0 < j → shadowWord (readWide s src a ws) src j = (ws.drop j).headD 0#32) ∧
      readWide s src a ws = { s with bus := (readWide s src a ws).bus, out := (readWide s src a ws).out } := by
  refine ⟨rfl, fun j hj => ?_, rfl⟩
  have hheld : Tbl.get noShadow (readWide s src a ws).bus.shadow src.code = { base := a, words := ws.drop 1 } := Tbl.get_put_self _ _ _ _
  rw [shadowWord, hheld]
  simp only [List.drop_drop]
  congr 2
  omega

theorem exec_wideLowWordRead {addr : RegAddr} (hs : s.inOperation = true) (h : wideOf (wordAddr addr) = some (wordAddr addr, n)) :
    exec (.wideLowWordRead src addr) s =
      .next (readWide s src (wordAddr addr) ((List.range n).map (fun i => viewWord s (wordAddr addr + 4 * i)))) := by
  obtain ⟨himp, hoff, hpop, hpeek⟩ := wideTable_spec _ (mem_wideTable_of_lowest h)
  refine congrArg Host.Outcome.next ?_
  rw [if_pos (by rw [h]; simp), gateRead_inOperation hs himp src _]
  unfold routeRead
  simp only at hoff hpop hpeek
  simp only [if_neg (Nat.not_le.2 hoff), hpop, hpeek, h, if_true]

theorem popTable_spec : ∀ e ∈ popTable, e.2.1 + 4 * e.2.2 ≤ 0x400 ∧ (blockOf e.1).isSome = true := by decide +kernel

theorem peekOf_spec {page off : Nat} {e : Nat × Nat × Nat} (h : peekOf page off = some e) :
    e ∈ popTable ∧ e.1 = page ∧ 0x400 + e.2.1 ≤ off ∧ off < 0x800 := by
  unfold peekOf at h
  split at h
  · cases h
  · next hoff =>
    have hmem := List.mem_of_find?_eq_some h
    have hin := List.find?_some h
    simp only [Bool.and_eq_true, beq_iff_eq, decide_eq_true_eq] at hin
    have hbound := (popTable_spec e hmem).1
    exact ⟨hmem, hin.1.1, by omega, by omega⟩

theorem popOf_high {page off : Nat} (h : 0x400 ≤ off) : popOf page off = none := by
  rw [popOf, List.find?_eq_none]
  intro e he
  have hbound := (popTable_spec e he).1
  simp only [Bool.and_eq_true, beq_iff_eq, decide_eq_true_eq]
  omega

/-- A read through a peek alias. -/
theorem exec_peekRead {addr : RegAddr} {e : Nat × Nat × Nat} (hs : s.inOperation = true)
    (h : peekOf (wordAddr addr / 0x1000) (wordAddr addr % 0x1000) = some e) : exec (.peekRead src addr) s = .next
      (if wordAddr addr % 0x1000 - 0x400 = e.2.1
        then readWide s src (wordAddr addr) (popShown s (wordAddr addr / 0x1000) (wordAddr addr % 0x1000 - 0x400))
        else s.send (.readData src (wordAddr addr) (peekWord s src (wordAddr addr)))) := by
  obtain ⟨hmem, hpage, hlow, hhigh⟩ := peekOf_spec h
  have himp : implemented (wordAddr addr) = true := by
    obtain ⟨b, hb⟩ := Option.isSome_iff_exists.1 (popTable_spec e hmem).2
    rw [implemented, ← hpage, hb]
    simp only
    rw [hpage, h]
    simp
  refine congrArg Host.Outcome.next ?_
  rw [if_pos (by rw [h]; rfl), gateRead_inOperation hs himp src _]
  unfold routeRead
  simp only [if_neg (Nat.not_le.2 hhigh), popOf_high (page := wordAddr addr / 0x1000) (off := wordAddr addr % 0x1000) (by omega), h]

theorem peekWord_higher {a : Nat} {e : Nat × Nat × Nat} (h : peekOf (a / 0x1000) (a % 0x1000) = some e) (hne : a % 0x1000 - 0x400 ≠ e.2.1) :
    peekWord s src a = shadowWord s src ((a % 0x1000 - 0x400 - e.2.1) / 4) := by
  obtain ⟨-, -, hlow, hhigh⟩ := peekOf_spec h
  unfold peekWord
  simp only [if_neg (Nat.not_le.2 hhigh), popOf_high (page := a / 0x1000) (off := a % 0x1000) (by omega), h, if_neg hne]

end

/-- Settles O16: words below the highest are held and committed with it, the lowest word of a wide value latches the others, and a
peek shows what a pop would return and consumes nothing. -/
theorem wideValuesHeldLatchedPeeked : Obligations.WideValuesHeldLatchedPeeked := by
  unfold Obligations.WideValuesHeldLatchedPeeked
  intro s src data hs
  refine ⟨fun addr base n i hw ha => ⟨fun hi => wideWrite_held hw hs ha hi data, fun hi hne => ?_, fun lower hi hheld => ?_⟩,
    fun addr n hn => ?_, fun addr e he => ⟨fun hfirst => ?_, fun hhigher => ?_⟩⟩
  · have hnone : wordsHeld s src base = lowerWords base (fun _ => 0#32) 0 := if_neg hne
    obtain ⟨t, hexec, hdata, -, hfree, hother, hframe⟩ := wideWrite_committed hw hs ha hi (Nat.zero_le _) hnone data
    exact ⟨t, hexec, hdata, hfree, fun a ha => hother a (by simpa using ha) (fun j hj => absurd hj (Nat.not_lt_zero _)), hframe⟩
  · have hwords : wordsHeld s src base = lowerWords base lower i := by
      rw [wordsHeld, hheld]
      exact if_pos rfl
    obtain ⟨t, hexec, hdata, hword, hfree, hother, hframe⟩ := wideWrite_committed hw hs ha hi (Nat.le_refl _) hwords data
    refine ⟨t, hexec, hdata, hword, hfree, fun a hout => hother a (fun h => hout ?_) (fun j hj h => hout ?_), hframe⟩
    · exact List.mem_map.2 ⟨i, List.mem_range.2 (by omega), by rw [h, ha]⟩
    · exact List.mem_map.2 ⟨j, List.mem_range.2 (by omega), h.symm⟩
  · obtain ⟨hout, hshadow, hframe⟩ := readWide_spec s src (wordAddr addr) ((List.range n).map (fun i => viewWord s (wordAddr addr + 4 * i)))
    have hn2 : 0 < n := wideTable_words _ (mem_wideTable_of_lowest hn)
    refine ⟨_, exec_wideLowWordRead hs hn, ?_, fun j hj hjn => ?_, fun _ _ => rfl, hframe⟩
    · rw [hout, List.headD_eq_head?_getD, List.head?_map, List.head?_range, if_neg (by omega)]
      rfl
    · rw [hshadow j hj, List.headD_eq_head?_getD, List.head?_drop, List.getElem?_map, List.getElem?_range hjn]
      rfl
  · obtain ⟨hout, hshadow, hframe⟩ := readWide_spec s src (wordAddr addr) (popShown s (wordAddr addr / 0x1000) e.2.1)
    have hexec := exec_peekRead (src := src) hs he
    have hoff : wordAddr addr % 0x1000 - 0x400 = e.2.1 := by omega
    rw [if_pos hoff, hoff] at hexec
    exact ⟨_, hexec, hout, hshadow, fun _ _ => rfl, hframe⟩
  · have hoff : wordAddr addr % 0x1000 - 0x400 ≠ e.2.1 := by
      have := (peekOf_spec he).2.2.1
      omega
    exact ⟨_, (exec_peekRead hs he).trans (congrArg Host.Outcome.next (if_neg hoff)), by rw [peekWord_higher he hoff]⟩

end Sys2Proof.Machine
end

section
/-!
PROOFS. What PAUSE frames and ports woken leave of the ports (15_ethernet_ports.md), and the power unit's last-gasp frames and clock monitors
(22_power_clocks_and_emc.md, Mains loss and hold-up; Clocks).
-/
namespace Sys2Proof.Machine

-- One proof after another: side by side, the threads of so long a text want more memory than the check grants.
set_option Elab.async false

section
variable {s t u : State} {x : Nat}

/-! ### Ports that only pause and wake -/

/-- Of each port: the registers but its status and its count of PAUSE frames, the fields of the status but LPI_TX, and what it serves are as before. -/
structure PortsKept (s t : State) : Prop where
  regs : ∀ x, x < 2 → ∀ r, r / 0x1000 = 0x24 + x → r ≠ A.EM_STATUS x → r ≠ A.EM_TX_PAUSE x → t.reg r = s.reg r
  status : ∀ x, x < 2 → ∀ f : Fld, f.addr = A.EM_STATUS x → f.lsb + f.width ≤ 8 ∨ 9 ≤ f.lsb → t.fld f = s.fld f
  egresses : t.tss.egresses = s.tss.egresses

theorem PortsKept.refl (s : State) : PortsKept s s := ⟨fun _ _ _ _ _ _ => rfl, fun _ _ _ _ _ => rfl, rfl⟩

theorem PortsKept.trans (h : PortsKept s t) (h' : PortsKept t u) : PortsKept s u :=
  ⟨fun x hx r hr h1 h2 => (h'.regs x hx r hr h1 h2).trans (h.regs x hx r hr h1 h2),
    fun x hx f hf hl => (h'.status x hx f hf hl).trans (h.status x hx f hf hl), h'.egresses.trans h.egresses⟩

theorem PortsKept.fld (h : PortsKept s t) (hx : x < 2) {f : Fld} (hf : f.addr / 0x1000 = 0x24 + x) (h1 : f.addr ≠ A.EM_STATUS x)
    (h2 : f.addr ≠ A.EM_TX_PAUSE x) : t.fld f = s.fld f := State.fld_congr (h.regs x hx _ hf h1 h2)

theorem PortsKept.serving (h : PortsKept s t) (x : Nat) : (t.egress x).serving = (s.egress x).serving := by
  rw [State.egress, h.egresses, State.egress]

/-- An update that leaves ports and egresses alone. -/
theorem PortsKept.of {ps : List Area} {gs : List Nat} (h : Touches ps gs s t) (ht : .tss ∉ ps) (hg : ∀ x, x < 2 → 0x24 + x ∉ gs) : PortsKept s t := by
  have htss : t.tss = s.tss := h.part .tss ht
  refine ⟨fun x hx r hr _ _ => h.reg r (by rw [hr]; exact hg x hx), fun x hx f hf _ => h.fld ?_, by rw [htss]⟩
  rw [hf, (emPage_of hx).1]
  exact hg x hx

/-- An update of the status and the PAUSE count of one port that keeps the fields of the status but LPI_TX. -/
theorem PortsKept.ofPort (hx : x < 2) (hregs : OnlyRegs s t [A.EM_STATUS x, A.EM_TX_PAUSE x]) (htss : t.tss = s.tss)
    (hstatus : ∀ f : Fld, f.addr = A.EM_STATUS x → f.lsb + f.width ≤ 8 ∨ 9 ≤ f.lsb → t.fld f = s.fld f) : PortsKept s t := by
  have hother : ∀ y, y < 2 → ∀ r, r / 0x1000 = 0x24 + y → (r ≠ A.EM_STATUS y ∧ r ≠ A.EM_TX_PAUSE y ∨ y ≠ x) → t.reg r = s.reg r := by
    intro y hy r hr hne
    refine hregs r ?_
    have hpx := emPage_of hx
    simp only [List.mem_cons, List.not_mem_nil, or_false, not_or]
    by_cases hyx : y = x
    · rw [← hyx]
      exact hne.resolve_right (fun h => h hyx)
    · exact ⟨fun e => hyx (by rw [e, hpx.1] at hr; omega), fun e => hyx (by rw [e, hpx.2.1] at hr; omega)⟩
  refine ⟨fun y hy r hr h1 h2 => hother y hy r hr (.inl ⟨h1, h2⟩), fun y hy f hf hl => ?_, by rw [htss]⟩
  by_cases hyx : y = x
  · exact hstatus f (by rw [hf, hyx]) hl
  · exact State.fld_congr (hother y hy _ (by rw [hf]; exact (emPage_of hy).1) (.inr hyx))

theorem portsKept_leaveLpi (hx : x < 2) : PortsKept s (leaveLpi s x) := by
  unfold leaveLpi
  split
  · have hset : PortsKept s (s.setFld (F.EM_STATUS_LPI_TX x) 0) :=
      .ofPort hx ((onlyRegs_setFld s (F.EM_STATUS_LPI_TX x) 0).mono (by simp)) rfl
        (fun f hf hl => State.fld_setFld_apart s (F.EM_STATUS_LPI_TX x) f 0 (by simp) (Or.inr (by simpa using hl)))
    exact hset.trans (.of (touches_setPort _) (by decide) (fun _ _ => List.not_mem_nil))
  · exact .refl s

theorem portsKept_flushPause (hx : x < 2) : PortsKept s (flushPause s x) := by
  have hcount : ∀ v : State, PortsKept v (v.count (F.EM_TX_PAUSE_COUNT x) 1) := fun v =>
    .ofPort hx ((onlyRegs_count v (F.EM_TX_PAUSE_COUNT x) 1).mono (by simp)) (State.count_tss _ _ _)
      (fun f hf _ => (onlyRegs_count v (F.EM_TX_PAUSE_COUNT x) 1).fld (by rw [hf]; simp [A.EM_STATUS, A.EM_TX_PAUSE]))
  have hfold : ∀ (l : List Nat) (v : State),
      PortsKept v (l.foldl (fun (t : State) q => (t.send (.eth x (pauseFrame x q))).count (F.EM_TX_PAUSE_COUNT x) 1) v) := fun l v => by
    induction l generalizing v with
    | nil => exact .refl v
    | cons q l ih => exact ((PortsKept.of (touches_send (gs := []) _) (by decide) (fun _ _ => List.not_mem_nil)).trans (hcount _)).trans (ih _)
  unfold flushPause
  split
  · exact .refl s
  · exact (PortsKept.of (touches_setPort _) (by decide) (fun _ _ => List.not_mem_nil)).trans (hfold _ _)

theorem portsKept_sendPause (hx : x < 2) (quanta : Nat) : PortsKept s (sendPause s x quanta) := by
  unfold sendPause
  split
  · exact .refl s
  · exact ((portsKept_leaveLpi hx).trans (.of (touches_setPort _) (by decide) (fun _ _ => List.not_mem_nil))).trans (portsKept_flushPause hx)

theorem Moves.portsKept {wake : Bool} {ps : List Area} {gs : List Nat} (h : Moves wake ps gs s t) : PortsKept s t := by
  induction h with
  | of' h _ _ _ ht hr => exact .of h ht (fun x hx hm => hr _ hm (portLane_of hx).1)
  | sched v hv _ => exact ⟨fun _ _ _ _ _ _ => rfl, fun _ _ _ _ _ => rfl, hv⟩
  | pause quanta hx _ _ => exact portsKept_sendPause hx quanta
  | leave hx _ _ _ => exact portsKept_leaveLpi hx
  | settle hn _ _ => exact .of (touches_settle hn) (by decide) (fun x hx => (portLane_of hx).2)
  | cause b hn _ _ => exact .of (touches_setCause_of b (lane_pages hn).2.2.2.2.2.1) (by decide) (fun x hx => (portLane_of hx).2)
  | trans _ _ ih ih' => exact ih.trans ih'

end

end Sys2Proof.Machine
end

section
/-!
PROOFS. The power unit: last-gasp frames, clock monitors, and the whole of its statement (22_power_clocks_and_emc.md, Mains loss and hold-up;
Clocks).
-/
namespace Sys2Proof.Machine

-- One proof after another: side by side, the threads of so long a text want more memory than the check grants.
set_option Elab.async false

section
variable {s t u : State}

/-! ### Last-gasp frames (R689) -/

theorem causeSet_setCause_self (s : State) (page b : Nat) (hb : b < 32) : causeSet (setCause s page b) page b = true := by
  rw [causeSet_setCause s page b b hb, beq_self_eq_true, Bool.or_true]

/-- What the end of the window leaves of the power unit. -/
theorem lgSettle_pow : ∃ b, (lgSettle s).pow = { s.pow with lgOpen := b } := by
  unfold lgSettle
  split
  · exact ⟨false, setCause_pow _ _ _⟩
  · exact ⟨s.pow.lgOpen, rfl⟩

theorem lgSettle_out : ∃ rest, (lgSettle s).out = s.out ++ rest := by
  obtain ⟨rest, h⟩ := (lgSettle_keep (b := false) (Keep.refl s)).out
  exact ⟨rest, h.symm⟩

/-- A window with no frame left closes. -/
theorem lgSettle_closes (ho : s.pow.lgOpen = true) (hd : s.pow.lgDue = []) : (lgSettle s).pow = { s.pow with lgOpen := false } ∧
    causeSet (lgSettle s) 0x00 4 = true ∧ lastEvent (lgSettle s) 0x00 0x1604 := by
  have hcond : (s.pow.lgOpen && s.pow.lgDue.isEmpty) = true := by
    rw [ho, hd]
    rfl
  unfold lgSettle
  rw [if_pos hcond]
  exact ⟨setCause_pow _ _ _, causeSet_setCause_self _ 0x00 4 (by decide), lastEvent_setCause 0x00 4 (lastEvent_of_log rfl (lastEvent_event 0x00 0 0x1604 2 _))⟩

theorem lgTimeout_spec (hs : s.ready = true) (ho : s.pow.lgOpen = true) : ∃ t, exec .lgTimeoutExpiry s = .next t ∧ t.pow.lgOpen = false ∧
    t.pow.lgDue = [] ∧ t.pow.lgDropped = s.pow.lgDropped + s.pow.lgDue.length ∧ causeSet t 0x00 4 = true ∧ lastEvent t 0x00 0x1604 := by
  have hcond : (s.ready && s.pow.lgOpen) = true := by rw [hs, ho]; rfl
  obtain ⟨hpow, hcause, hlast⟩ := lgSettle_closes
    (s := s.setPow { s.pow with lgDue := [], lgDropped := s.pow.lgDropped + s.pow.lgDue.length }) ho rfl
  exact ⟨_, congrArg Host.Outcome.next (if_pos hcond), by rw [hpow], by rw [hpow]; rfl, by rw [hpow]; rfl, hcause, hlast⟩

theorem txFrames_page : ∀ x : EthPort, A.EM_TX_FRAMES x / 0x1000 ≠ 0x00 := by decide

section
variable {x : EthPort} {d : Nat × Nat}

theorem leaveLpi_waking (h : s.flag (F.EM_STATUS_LPI_TX x) = true) : ((leaveLpi s x).port x).waking = true := by
  unfold leaveLpi
  rw [if_pos h]
  exact congrArg Port.waking (State.port_setPort_self _ _ _)

theorem lastGasp_wakes (hs : s.ready = true) (hd : s.pow.lgDue.find? (fun e => e.1 == x.val) = some d) (hup : portUp s x = true)
    (hmid : midFrame s x = false) (hprot : s.flag (F.EM_MACSEC_CFG_TX_PROTECT x) = false) (hlpi : s.flag (F.EM_STATUS_LPI_TX x) = true) :
    ∃ t, exec (.lastGaspTx x) s = .next t ∧ (t.port x).waking = true ∧ t.pow = s.pow ∧ t.out = s.out := by
  have hform : lastGaspTx s x = leaveLpi s x := by
    unfold lastGaspTx
    simp only [hd, hup, hmid, hprot, hlpi, Bool.not_true, Bool.false_or, Bool.false_and, Bool.false_eq_true, Bool.true_or, if_true, if_false]
  have htouch := touches_leaveLpi (s := s) x.isLt
  exact ⟨_, (congrArg Host.Outcome.next (if_pos hs)).trans (congrArg Host.Outcome.next hform), leaveLpi_waking hlpi, htouch.part .pow (by decide),
    htouch.part .out (by decide)⟩

theorem lastGasp_sends (hs : s.ready = true) (hd : s.pow.lgDue.find? (fun e => e.1 == x.val) = some d) (hup : portUp s x = true)
    (hmid : midFrame s x = false) (hprot : s.flag (F.EM_MACSEC_CFG_TX_PROTECT x) = false) (hlpi : s.flag (F.EM_STATUS_LPI_TX x) = false)
    (hwake : (s.port x).waking = false) :
    ∃ t rest, exec (.lastGaspTx x) s = .next t ∧
      t.out = s.out ++ [.eth x (withFcs (padFrame (lgFrame s d.2)))] ++ rest ∧ t.pow.lgDue = s.pow.lgDue.filter (fun e => e != d) ∧
      t.pow.lgSent = s.pow.lgSent + 1 ∧ t.fld (F.EM_TX_FRAMES_COUNT x) = satAdd 32 (s.fld (F.EM_TX_FRAMES_COUNT x)) 1 := by
  have hform : lastGaspTx s x = lgSettle (((s.send (.eth x (withFcs (padFrame (lgFrame s d.2))))).count (F.EM_TX_FRAMES_COUNT x) 1).setPow
      { s.pow with lgDue := s.pow.lgDue.filter (fun e => e != d), lgSent := s.pow.lgSent + 1 }) := by
    unfold lastGaspTx
    simp only [hd, hup, hmid, hprot, hlpi, hwake, Bool.not_true, Bool.false_or, Bool.false_and, Bool.false_eq_true, if_false]
    rw [State.count_pow]
    rfl
  rw [show exec (.lastGaspTx x) s = .next (lastGaspTx s x) from congrArg Host.Outcome.next (if_pos hs), hform]
  have hcount : ((s.send (.eth x (withFcs (padFrame (lgFrame s d.2))))).count (F.EM_TX_FRAMES_COUNT x) 1).fld (F.EM_TX_FRAMES_COUNT x) =
      satAdd 32 (s.fld (F.EM_TX_FRAMES_COUNT x)) 1 := State.fld_count_self _ _ _ (by simp)
  have hout : ((s.send (.eth x (withFcs (padFrame (lgFrame s d.2))))).count (F.EM_TX_FRAMES_COUNT x) 1).out =
      s.out ++ [.eth x (withFcs (padFrame (lgFrame s d.2)))] := State.count_out _ _ _
  generalize (s.send (.eth x (withFcs (padFrame (lgFrame s d.2))))).count (F.EM_TX_FRAMES_COUNT x) 1 = a at *
  obtain ⟨rest, hrest⟩ := lgSettle_out (s := a.setPow { s.pow with lgDue := s.pow.lgDue.filter (fun e => e != d), lgSent := s.pow.lgSent + 1 })
  obtain ⟨b, hpow⟩ := lgSettle_pow (s := a.setPow { s.pow with lgDue := s.pow.lgDue.filter (fun e => e != d), lgSent := s.pow.lgSent + 1 })
  refine ⟨_, rest, rfl, ?_, by rw [hpow]; rfl, by rw [hpow]; rfl, ?_⟩
  · rw [← hout]
    exact hrest
  · refine (touches_lgSettle.fld ?_).trans hcount
    have hpage := txFrames_page x
    simpa using hpage

end

/-! ### The clock monitors (R698, R699) -/

/-- Registers answer as before. -/
theorem answers_congr (hdev : t.dev = s.dev) (hstate : t.devState = s.devState) (hpow : t.pow.stopped = s.pow.stopped) : t.answers = s.answers := by
  rw [State.answers, hdev, hstate, hpow, State.answers]

theorem clockChange_kept (monitor what : Nat) : OnlyRegs s (clockChange s monitor what) [0x00010] ∧
    (clockChange s monitor what).pow.stopped = s.pow.stopped := by
  unfold clockChange
  split
  · exact ⟨fun a ha => onlyRegs_setCause _ 0x00 3 a ha, by rw [setCause_pow]; rfl⟩
  · exact ⟨fun _ _ => rfl, rfl⟩

/-- A change of a monitor reported. -/
theorem clockChange_spec (ha : s.answers = true) (monitor what : Nat) : causeSet (clockChange s monitor what) 0x00 3 = true ∧
    lastEvent (clockChange s monitor what) 0x00 0x1603 ∧ (clockChange s monitor what).pow = s.pow := by
  unfold clockChange
  rw [if_pos ha]
  exact ⟨causeSet_setCause_self _ 0x00 3 (by decide), lastEvent_setCause 0x00 3 (lastEvent_event 0x00 0 0x1603 _ _), setCause_pow _ _ _⟩

/-- A change reported shows in the causes of SYS alone; the flags of the registers keep what they show. -/
theorem clockChange_flag (monitor what : Nat) {f : Fld} (hf : f.addr ≠ 0x00010) : (clockChange s monitor what).flag f = s.flag f :=
  (clockChange_kept monitor what).1.flag (by simpa using hf)

theorem refLoss_40 (h : s.pow.stopped = false) : ∃ t, exec (.clockRefLoss 0) s = .next t ∧ t.pow.stopped = true ∧ t.flag F.AON_STATUS_REF40_OK = false := by
  have hoff : (s.setFld F.AON_STATUS_REF40_OK 0).flag F.AON_STATUS_REF40_OK = false := State.flag_setFld_zero s (by decide)
  have hform : clockLoss s 0 = clockChange ((watchNote (s.setFld F.AON_STATUS_REF40_OK 0) 7 0 0 0).setPow
      { (watchNote (s.setFld F.AON_STATUS_REF40_OK 0) 7 0 0 0).pow with stopped := true }) 0 1 := if_neg (by rw [h]; decide)
  refine ⟨_, congrArg Host.Outcome.next hform, (clockChange_kept 0 1).2, (clockChange_flag 0 1 (by decide)).trans ?_⟩
  exact ((touches_setPow (gs := []) _).flag (by simp)).trans (((touches_watchNote 7 0 0 0).flag (gs := []) (by simp)).trans hoff)

theorem refRestore_40 (h : s.pow.stopped = true) : ∃ t, exec (.clockRefRestore 0) s = .next t ∧ t.pow.stopped = false ∧ t.flag F.AON_STATUS_REF40_OK = true := by
  have hform : clockRestore s 0 = (clockChange (s.setFld F.AON_STATUS_REF40_OK 1) 0 2).setPow
      { (clockChange (s.setFld F.AON_STATUS_REF40_OK 1) 0 2).pow with stopped := false } := if_neg (by rw [h]; decide)
  refine ⟨_, congrArg Host.Outcome.next hform, rfl, ((touches_setPow (gs := []) _).flag (by simp)).trans ?_⟩
  exact (clockChange_flag 0 2 (by decide)).trans (State.flag_setFld_one s rfl (by decide))

/-- The state once the loss of the 125 MHz reference shows. -/
def serdesLost (s : State) : State :=
  ((s.setPow { s.pow with refLost := s.pow.refLost ++ [1] }).setFld F.SYS_CLK_STATUS_REF125_OK 0).setFld F.SYS_CLK_STATUS_SERDES_PLL 0

/-- The ports' links lost with it. -/
def portsLost (s : State) : State := if s.operating then setRate (setRate s 0 0 false) 1 0 false else s

/-- The mirror link lost with it. -/
def mirrorLost (s : State) : State := if s.ready && s.red.en then setLink s 0 1 else s

theorem portsLost_rate (ho : s.operating = true) : (portsLost s).fld (F.EM_STATUS_RATE 0) = 0 ∧ (portsLost s).fld (F.EM_STATUS_RATE 1) = 0 := by
  rw [portsLost, if_pos ho]
  exact ⟨setRate_other (by decide) (by decide) (by decide) false (setRate_down (x := 0) false), setRate_down (x := 1) false⟩

theorem touches_portsLost : Touches linkParts linkPages s (portsLost s) :=
  Touches.ite (fun _ => (touches_setRate (by decide) 0 false).trans (touches_setRate (by decide) 0 false)) (fun _ => Touches.refl s)

theorem moves_mirrorLost : Moves false (.red :: airParts) (0x31 :: airPages) s (mirrorLost s) :=
  Moves.ite (fun _ => moves_setLink 0 1) (fun _ => Moves.refl s)

theorem refLoss_125 (ha : s.answers = true) (h : s.pow.refLost.contains 1 = false) : ∃ t, exec (.clockRefLoss 1) s = .next t ∧
    t.pow.refLost = s.pow.refLost ++ [1] ∧ t.flag F.SYS_CLK_STATUS_REF125_OK = false ∧ t.flag F.SYS_CLK_STATUS_SERDES_PLL = false ∧
    (s.operating = true → t.fld (F.EM_STATUS_RATE 0) = 0 ∧ t.fld (F.EM_STATUS_RATE 1) = 0) ∧ causeSet t 0x00 3 = true ∧ lastEvent t 0x00 0x1603 := by
  have hform : clockLoss s 1 = clockChange (mirrorLost (portsLost (serdesLost s))) 1 1 := if_neg (by rw [h]; decide)
  have h125 : (serdesLost s).flag F.SYS_CLK_STATUS_REF125_OK = false :=
    (State.flag_setFld_apart _ _ (by decide) (by decide)).trans (State.flag_setFld_zero _ (by decide))
  have hpll : (serdesLost s).flag F.SYS_CLK_STATUS_SERDES_PLL = false := State.flag_setFld_zero _ (by decide)
  have hpow : (serdesLost s).pow = { s.pow with refLost := s.pow.refLost ++ [1] } := rfl
  have htouch : Touches [.pow, .regs] [0x00] s (serdesLost s) :=
    ((touches_setPow (gs := []) _).mono.then (touches_setFld F.SYS_CLK_STATUS_REF125_OK 0)).then (touches_setFld F.SYS_CLK_STATUS_SERDES_PLL 0)
  have htouch : Touches [.pow, .regs] [0x00] s (serdesLost s) :=
    (Touches.then (touches_setPow (gs := []) _).mono (touches_setFld F.SYS_CLK_STATUS_REF125_OK 0)).then (touches_setFld F.SYS_CLK_STATUS_SERDES_PLL 0)
  have hstate : (serdesLost s).devState = s.devState := State.fld_congr
    (((onlyRegs_setFld _ F.SYS_CLK_STATUS_SERDES_PLL 0) _ (by decide)).trans ((onlyRegs_setFld _ F.SYS_CLK_STATUS_REF125_OK 0) _ (by decide)))
  have hdev : (serdesLost s).dev = s.dev := htouch.part .dev (by decide)
  have hans : (serdesLost s).answers = s.answers := answers_congr hdev hstate rfl
  have hop : (serdesLost s).operating = s.operating := by
    rw [State.operating, State.inOperation, hans, hstate, hdev, State.operating, State.inOperation]
  rw [show exec (.clockRefLoss 1) s = .next (clockLoss s 1) from rfl, hform]
  generalize serdesLost s = a at *
  have hrate := portsLost_rate (s := a)
  have hports := touches_portsLost (s := a)
  generalize portsLost a = b at *
  have hmoves := moves_mirrorLost (s := b)
  have hkept := hmoves.portsKept
  have hmirror := hmoves.touches
  generalize mirrorLost b = c at *
  have hcpow : c.pow = a.pow := (hmirror.part .pow (by decide)).trans (hports.part .pow (by decide))
  have hcflag : ∀ f : Fld, f.addr / 0x1000 = 0x00 → c.flag f = a.flag f := fun f hf =>
    (hmirror.flag (by rw [hf]; decide)).trans (hports.flag (by rw [hf]; decide))
  have hcans : c.answers = true := (answers_congr ((hmirror.part .dev (by decide)).trans (hports.part .dev (by decide)))
    ((hmirror.fld (f := F.SYS_STATUS_DEV_STATE) (by decide)).trans (hports.fld (f := F.SYS_STATUS_DEV_STATE) (by decide)))
    (by rw [hcpow])).trans (hans.trans ha)
  obtain ⟨hcause, hlast, htpow⟩ := clockChange_spec hcans 1 1
  have hrates : ∀ x, x < 2 → b.fld (F.EM_STATUS_RATE x) = 0 → (clockChange c 1 1).fld (F.EM_STATUS_RATE x) = 0 := fun x hx hb =>
    ((clockChange_kept 1 1).1.fld (by
      simp only [List.mem_cons, List.not_mem_nil, or_false]
      exact fun e => by
        have hpage := (emPage_of hx).1
        rw [show A.EM_STATUS x = 0x00010 from e] at hpage
        omega)).trans ((hkept.status x hx _ rfl (by simp)).trans hb)
  exact ⟨_, rfl, by rw [htpow, hcpow, hpow], (clockChange_flag 1 1 (by decide)).trans ((hcflag _ (by decide)).trans h125),
    (clockChange_flag 1 1 (by decide)).trans ((hcflag _ (by decide)).trans hpll),
    fun ho => ⟨hrates 0 (by decide) (hrate (hop.trans ho)).1, hrates 1 (by decide) (hrate (hop.trans ho)).2⟩, hcause, hlast⟩

theorem OnlyRegs.cause {l : List Nat} (h : OnlyRegs s t l) {page : Nat} (hp : page * 0x1000 + 0x010 ∉ l) (b : Nat) : causeSet t page b = causeSet s page b :=
  congrArg (fun w : Word => bit w.toNat b) (h _ hp)

/-- The state once the loss of the 100 MHz reference shows. -/
def pcieLost (s : State) : State :=
  ((s.setPow { s.pow with refLost := s.pow.refLost ++ [2] }).setFld F.SYS_CLK_STATUS_REF100_OK 0).setFld F.SYS_CLK_STATUS_PCIE_PLL 0

theorem refLoss_100 (ha : s.answers = true) (h : s.pow.refLost.contains 2 = false) : ∃ t, exec (.clockRefLoss 2) s = .next t ∧
    t.pow.refLost = s.pow.refLost ++ [2] ∧ t.flag F.SYS_CLK_STATUS_REF100_OK = false ∧ t.flag F.SYS_CLK_STATUS_PCIE_PLL = false ∧
    t.flag F.HIF_STATUS_LINK_UP = false ∧ causeSet t 0x00 3 = true ∧ lastEvent t 0x00 0x1603 := by
  have hform : clockLoss s 2 = clockChange (if (pcieLost s).answers then linkChange (pcieLost s) false 0 0 else pcieLost s) 2 1 :=
    if_neg (by rw [h]; decide)
  have h100 : (pcieLost s).flag F.SYS_CLK_STATUS_REF100_OK = false :=
    (State.flag_setFld_apart _ _ (by decide) (by decide)).trans (State.flag_setFld_zero _ (by decide))
  have hpll : (pcieLost s).flag F.SYS_CLK_STATUS_PCIE_PLL = false := State.flag_setFld_zero _ (by decide)
  have hpow : (pcieLost s).pow = { s.pow with refLost := s.pow.refLost ++ [2] } := rfl
  have hstate : (pcieLost s).devState = s.devState := State.fld_congr
    (((onlyRegs_setFld _ F.SYS_CLK_STATUS_PCIE_PLL 0) _ (by decide)).trans ((onlyRegs_setFld _ F.SYS_CLK_STATUS_REF100_OK 0) _ (by decide)))
  have hans : (pcieLost s).answers = true := (answers_congr (t := pcieLost s) (s := s) rfl hstate rfl).trans ha
  rw [show exec (.clockRefLoss 2) s = .next (clockLoss s 2) from rfl, hform, if_pos hans]
  generalize pcieLost s = a at *
  obtain ⟨hup, -, -, -, hregs⟩ : (linkChange a false 0 0).flag F.HIF_STATUS_LINK_UP = false ∧ _ ∧ _ ∧ _ ∧
      OnlyRegs a (linkChange a false 0 0) [A.HIF_STATUS, 0x04010] := linkChange_spec a false (0 : Fin 8) (0 : Fin 4)
  have htouch := touches_linkChange (s := a) false 0 0
  generalize linkChange a false 0 0 = c at *
  have hcans : c.answers = true := (answers_congr (htouch.part .dev (by decide)) (hregs.fld (f := F.SYS_STATUS_DEV_STATE) (by decide))
    (by rw [show c.pow = a.pow from htouch.part .pow (by decide)])).trans hans
  obtain ⟨hcause, hlast, htpow⟩ := clockChange_spec hcans 2 1
  exact ⟨_, rfl, by rw [htpow, show c.pow = a.pow from htouch.part .pow (by decide), hpow],
    (clockChange_flag 2 1 (by decide)).trans ((hregs.flag (by decide)).trans h100),
    (clockChange_flag 2 1 (by decide)).trans ((hregs.flag (by decide)).trans hpll), (clockChange_flag 2 1 (by decide)).trans hup, hcause, hlast⟩

/-- The state once the loss of the crystal is noted. -/
def crystalLost (s : State) : State :=
  (watchNote (setCause ((s.setPow { s.pow with xtalBack := false }).setFld F.AON_STATUS_RC_CLK 1) 0x02 1) 8 0 0 0).setFld F.SYS_CLK_STATUS_XTAL_OK 0

theorem touches_crystalLost : Touches [.pow, .regs, .host, .out] [0x00, 0x02] s (crystalLost s) := by
  refine Touches.then ?_ (touches_setFld F.SYS_CLK_STATUS_XTAL_OK 0)
  refine Touches.then ?_ (touches_watchNote (gs := []) 8 0 0 0)
  exact (Touches.then (touches_setPow (gs := []) _).mono (touches_setFld F.AON_STATUS_RC_CLK 1)).then (touches_setCause 0x02 1)

theorem refLoss_crystal (ha : s.answers = true) (h : s.flag F.AON_STATUS_RC_CLK = false) : ∃ t, exec (.clockRefLoss 3) s = .next t ∧
    t.flag F.AON_STATUS_RC_CLK = true ∧ t.flag F.SYS_CLK_STATUS_XTAL_OK = false ∧ causeSet t 0x02 1 = true ∧ causeSet t 0x00 3 = true ∧
    lastEvent t 0x00 0x1603 := by
  have hform : clockLoss s 3 = clockChange (crystalLost s) 3 1 := if_neg (by
    rw [(touches_setPow (s := s) (gs := []) _).flag (by simp), h]
    decide)
  have hrc : ((s.setPow { s.pow with xtalBack := false }).setFld F.AON_STATUS_RC_CLK 1).flag F.AON_STATUS_RC_CLK = true :=
    State.flag_setFld_one _ rfl (by decide)
  have hxtal : (crystalLost s).flag F.SYS_CLK_STATUS_XTAL_OK = false := State.flag_setFld_zero _ (by decide)
  have hkept : OnlyRegs (setCause ((s.setPow { s.pow with xtalBack := false }).setFld F.AON_STATUS_RC_CLK 1) 0x02 1) (crystalLost s) [A.SYS_CLK_STATUS] :=
    fun r hr => (onlyRegs_setFld _ F.SYS_CLK_STATUS_XTAL_OK 0 r hr).trans ((touches_watchNote (gs := []) 8 0 0 0).reg r (by simp))
  have hclk : (crystalLost s).flag F.AON_STATUS_RC_CLK = true :=
    (hkept.flag (by decide)).trans (((onlyRegs_setCause _ 0x02 1).flag (by decide)).trans hrc)
  have hcause : causeSet (crystalLost s) 0x02 1 = true :=
    (hkept.cause (by decide) 1).trans (causeSet_setCause_self _ 0x02 1 (by decide))
  have htouch := touches_crystalLost (s := s)
  have hans : (crystalLost s).answers = true := by
    refine (answers_congr (htouch.part .dev (by decide)) ?_ ?_).trans ha
    · exact (hkept.fld (f := F.SYS_STATUS_DEV_STATE) (by decide)).trans (((onlyRegs_setCause _ 0x02 1).fld (by decide)).trans
        ((onlyRegs_setFld _ F.AON_STATUS_RC_CLK 1).fld (by decide)))
    · show (watchNote _ 8 0 0 0).pow.stopped = _
      rw [watchNote, State.setPow, setCause_pow]
      rfl
  rw [show exec (.clockRefLoss 3) s = .next (clockLoss s 3) from rfl, hform]
  generalize crystalLost s = a at *
  obtain ⟨hshown, hlast, -⟩ := clockChange_spec hans 3 1
  exact ⟨_, rfl, (clockChange_flag 3 1 (by decide)).trans hclk, (clockChange_flag 3 1 (by decide)).trans hxtal,
    ((clockChange_kept 3 1).1.cause (by decide) 1).trans hcause, hshown, hlast⟩

/-- The state once the return of the 125 MHz reference shows. -/
def serdesBack (s : State) : State :=
  ((s.setPow { s.pow with refLost := s.pow.refLost.filter (· != 1) }).setFld F.SYS_CLK_STATUS_REF125_OK 1).setFld F.SYS_CLK_STATUS_SERDES_PLL 1

/-- Two flags of the clocks' status set leave the other registers; a change is reported in SYS. -/
theorem clockShown_regs {v : State} {f g : Fld} {a b : Nat} (hv : ∀ r, v.reg r = s.reg r) (hf : f.addr = A.SYS_CLK_STATUS) (hg : g.addr = A.SYS_CLK_STATUS)
    (monitor what : Nat) : OnlyRegs s (clockChange ((v.setFld f a).setFld g b) monitor what) [A.SYS_CLK_STATUS, 0x00010] := fun r hr => by
  simp only [List.mem_cons, List.not_mem_nil, or_false, not_or] at hr
  exact ((clockChange_kept monitor what).1 r (by simpa using hr.2)).trans ((onlyRegs_setFld _ g b r (by simpa [hg] using hr.1)).trans
    ((onlyRegs_setFld _ f a r (by simpa [hf] using hr.1)).trans (hv r)))

theorem refRestore_125 (ha : s.answers = true) (h : s.pow.refLost.contains 1 = true) : ∃ t, exec (.clockRefRestore 1) s = .next t ∧
    t.pow = { s.pow with refLost := s.pow.refLost.filter (· != 1) } ∧ t.flag F.SYS_CLK_STATUS_REF125_OK = true ∧
    t.flag F.SYS_CLK_STATUS_SERDES_PLL = true ∧ OnlyRegs s t [A.SYS_CLK_STATUS, 0x00010] ∧ lastEvent t 0x00 0x1603 := by
  have hform : clockRestore s 1 = clockChange (serdesBack s) 1 2 := if_neg (by rw [h]; decide)
  have hregs : OnlyRegs s (clockChange (serdesBack s) 1 2) [A.SYS_CLK_STATUS, 0x00010] := clockShown_regs (fun _ => rfl) rfl rfl 1 2
  have h125 : (serdesBack s).flag F.SYS_CLK_STATUS_REF125_OK = true :=
    (State.flag_setFld_apart _ _ (by decide) (by decide)).trans (State.flag_setFld_one _ rfl (by decide))
  have hpll : (serdesBack s).flag F.SYS_CLK_STATUS_SERDES_PLL = true := State.flag_setFld_one _ rfl (by decide)
  have hpow : (serdesBack s).pow = { s.pow with refLost := s.pow.refLost.filter (· != 1) } := rfl
  have hstate : (serdesBack s).devState = s.devState := State.fld_congr
    (((onlyRegs_setFld _ F.SYS_CLK_STATUS_SERDES_PLL 1) _ (by decide)).trans ((onlyRegs_setFld _ F.SYS_CLK_STATUS_REF125_OK 1) _ (by decide)))
  have hans : (serdesBack s).answers = true := (answers_congr (t := serdesBack s) (s := s) rfl hstate rfl).trans ha
  rw [show exec (.clockRefRestore 1) s = .next (clockRestore s 1) from rfl, hform]
  generalize serdesBack s = a at *
  obtain ⟨-, hlast, htpow⟩ := clockChange_spec hans 1 2
  exact ⟨_, rfl, htpow.trans hpow, (clockChange_flag 1 2 (by decide)).trans h125, (clockChange_flag 1 2 (by decide)).trans hpll, hregs, hlast⟩

/-- The state once the return of the 100 MHz reference shows. -/
def pcieBack (s : State) : State :=
  ((s.setPow { s.pow with refLost := s.pow.refLost.filter (· != 2) }).setFld F.SYS_CLK_STATUS_REF100_OK 1).setFld F.SYS_CLK_STATUS_PCIE_PLL
    (b01 (!s.host.perstLow))

theorem refRestore_100 (ha : s.answers = true) (h : s.pow.refLost.contains 2 = true) : ∃ t, exec (.clockRefRestore 2) s = .next t ∧
    t.flag F.SYS_CLK_STATUS_REF100_OK = true ∧ t.flag F.SYS_CLK_STATUS_PCIE_PLL = (!s.host.perstLow) ∧
    OnlyRegs s t [A.SYS_CLK_STATUS, 0x00010] ∧ lastEvent t 0x00 0x1603 := by
  have hform : clockRestore s 2 = clockChange (pcieBack s) 2 2 := if_neg (by rw [h]; decide)
  have hregs : OnlyRegs s (clockChange (pcieBack s) 2 2) [A.SYS_CLK_STATUS, 0x00010] := clockShown_regs (fun _ => rfl) rfl rfl 2 2
  have h100 : (pcieBack s).flag F.SYS_CLK_STATUS_REF100_OK = true :=
    (State.flag_setFld_apart _ _ (by decide) (by decide)).trans (State.flag_setFld_one _ rfl (by decide))
  have hpll : (pcieBack s).flag F.SYS_CLK_STATUS_PCIE_PLL = (!s.host.perstLow) := by
    unfold pcieBack
    cases s.host.perstLow
    · exact State.flag_setFld_one _ rfl (by decide)
    · exact State.flag_setFld_zero _ (by decide)
  have hstate : (pcieBack s).devState = s.devState := State.fld_congr
    (((onlyRegs_setFld _ F.SYS_CLK_STATUS_PCIE_PLL _) _ (by decide)).trans ((onlyRegs_setFld _ F.SYS_CLK_STATUS_REF100_OK 1) _ (by decide)))
  have hans : (pcieBack s).answers = true := (answers_congr (t := pcieBack s) (s := s) rfl hstate rfl).trans ha
  rw [show exec (.clockRefRestore 2) s = .next (clockRestore s 2) from rfl, hform]
  generalize pcieBack s = a at *
  obtain ⟨-, hlast, -⟩ := clockChange_spec hans 2 2
  exact ⟨_, rfl, (clockChange_flag 2 2 (by decide)).trans h100, (clockChange_flag 2 2 (by decide)).trans hpll, hregs, hlast⟩

/-- The state once the crystal is used again. -/
def crystalBack (s : State) : State :=
  ((s.setPow { s.pow with xtalBack := false }).setFld F.AON_STATUS_RC_CLK 0).setFld F.SYS_CLK_STATUS_XTAL_OK 1

theorem xtalStable_spec (ha : s.answers = true) (h : s.pow.xtalBack = true) : ∃ t, exec .xtalStableExpiry s = .next t ∧
    t.flag F.AON_STATUS_RC_CLK = false ∧ t.flag F.SYS_CLK_STATUS_XTAL_OK = true ∧ t.pow = { s.pow with xtalBack := false } ∧ lastEvent t 0x00 0x1603 := by
  have hform : exec .xtalStableExpiry s = .next (clockChange (crystalBack s) 3 2) := congrArg Host.Outcome.next (if_pos h)
  have hrc : (crystalBack s).flag F.AON_STATUS_RC_CLK = false :=
    ((onlyRegs_setFld _ F.SYS_CLK_STATUS_XTAL_OK 1).flag (by decide)).trans (State.flag_setFld_zero _ (by decide))
  have hxtal : (crystalBack s).flag F.SYS_CLK_STATUS_XTAL_OK = true := State.flag_setFld_one _ rfl (by decide)
  have hpow : (crystalBack s).pow = { s.pow with xtalBack := false } := rfl
  have hstate : (crystalBack s).devState = s.devState := State.fld_congr
    (((onlyRegs_setFld _ F.SYS_CLK_STATUS_XTAL_OK 1) _ (by decide)).trans ((onlyRegs_setFld _ F.AON_STATUS_RC_CLK 0) _ (by decide)))
  have hans : (crystalBack s).answers = true := (answers_congr (t := crystalBack s) (s := s) rfl hstate rfl).trans ha
  rw [hform]
  generalize crystalBack s = a at *
  obtain ⟨-, hlast, htpow⟩ := clockChange_spec hans 3 2
  exact ⟨_, rfl, (clockChange_flag 3 2 (by decide)).trans hrc, (clockChange_flag 3 2 (by decide)).trans hxtal, htpow.trans hpow, hlast⟩

end

/-- Settles O60: each command of the power unit by what it shows and keeps; the links of the ports stay down while the mirror link lost
with the same reference ends transmissions. -/
theorem powerIsLostWatchedAndRestored : Obligations.PowerIsLostWatchedAndRestored := by
  unfold Obligations.PowerIsLostWatchedAndRestored
  refine ⟨fun s src data hs => ⟨(sysCtrlWrite_spec hs src data).1, (sysCtrlWrite_spec hs src data).2, lgDataWrite_spec hs src data,
      fun addr hp hi hsrc => ⟨aonShadowWrite_room hs data hp hi hsrc, aonShadowWrite_full hs data hp hi hsrc⟩⟩,
    fun s w rest ha hq hw hm => aonApply_spec ha hq hw hm,
    fun s => ⟨fun hm => ⟨mainsFall_watch hm, mainsFall_grace hm⟩, fun hm => ⟨mainsRise_quiet hm, mainsRise_glitch hm⟩,
      fun hg => ⟨graceExpiry_holdUp hg, graceExpiry_maintenance hg⟩, fun elapsed hw hm hc => mainsRestore_spec elapsed hw hm hc⟩,
    fun s x d hs hd hup hmid hprot => ⟨lastGasp_wakes hs hd hup hmid hprot, lastGasp_sends hs hd hup hmid hprot⟩,
    fun s hs => ⟨lgTimeout_spec hs, fun e he hc hg hl => watchCommit_spec hs he hc hg hl, fun e he hc hd => watchEntryDone_spec hs he hc hd⟩,
    fun s addr cmd rssi elapsed => ⟨wurCommand_spec addr cmd rssi elapsed, fun u hu hw hl hm => wurWatch_spec addr cmd rssi elapsed hu hw hl hm⟩,
    fun s => ⟨refLoss_40, refLoss_125, refLoss_100, refLoss_crystal, refRestore_40, refRestore_125, refRestore_100, fun h => ?_, xtalStable_spec⟩⟩
  exact congrArg Host.Outcome.next (if_pos h)

end Sys2Proof.Machine
end

section
/-!
PROOFS. Items that leave and enter queues: what freeing cells leaves of the fabric, and the head item delivered (13_frame_fabric_and_queues.md,
Queues; Order inside a queue).
-/
namespace Sys2Proof.Machine

-- One proof after another: side by side, the threads of so long a text want more memory than the check grants.
set_option Elab.async false

section
variable {s t u : State} {q : Nat}

/-! ### Cells and descriptors freed -/

/-- What the cells freed or taken leave: the queues, the popped item, and the registers of FAB but its causes. -/
structure FreeKept (s t : State) : Prop where
  queues : SameQueues s t
  pop : t.fab.popBytes = s.fab.popBytes
  regs : ∀ r, r / 0x1000 = 0x20 → r ≠ 0x20010 → t.reg r = s.reg r

theorem FreeKept.refl (s : State) : FreeKept s s := ⟨SameQueues.refl s, rfl, fun _ _ _ => rfl⟩

theorem FreeKept.trans (h : FreeKept s t) (h' : FreeKept t u) : FreeKept s u :=
  ⟨h.queues.trans h'.queues, h'.pop.trans h.pop, fun r hr hc => (h'.regs r hr hc).trans (h.regs r hr hc)⟩

theorem FreeKept.fld (h : FreeKept s t) {f : Fld} (hf : f.addr / 0x1000 = 0x20) (hc : f.addr ≠ 0x20010) : t.fld f = s.fld f :=
  State.fld_congr (h.regs _ hf hc)

theorem FreeKept.of {ps : List Area} {gs : List Nat} (h : Touches ps gs s t) (hf : .fab ∉ ps := by decide) (hg : 0x20 ∉ gs := by decide) : FreeKept s t :=
  ⟨SameQueues.of h hf, by rw [h.part .fab hf], fun r hr _ => h.reg r (by rw [hr]; exact hg)⟩

theorem freeKept_cause (b : Nat) : FreeKept s (setCause s 0x20 b) :=
  ⟨SameQueues.of (touches_setCause 0x20 b), congrArg Fabric.popBytes ((touches_setCause (x := s) 0x20 b).part .fab (by decide)), fun r _ hc => onlyRegs_setCause s 0x20 b r (by simpa using hc)⟩

theorem freeKept_fab (v : Fabric) (hv : v.queues = s.fab.queues) (hp : v.popBytes = s.fab.popBytes) :
    FreeKept s { s with fab := v } := ⟨hv, hp, fun _ _ _ => rfl⟩

theorem freeKept_bufLowCheck : FreeKept s (bufLowCheck s) := by
  have hpause : ∀ (u : State) low, FreeKept u (pauseAll u low) := fun u low => .of (touches_pauseAll low)
  unfold bufLowCheck
  simp only
  split
  · exact (((freeKept_fab { s.fab with lowArmed := false } rfl rfl).trans (freeKept_cause 4)).trans (.of (touches_event (gs := []) _ _ _ _ _))).trans (hpause _ true)
  · split
    · exact (freeKept_fab { s.fab with lowArmed := true } rfl rfl).trans (hpause _ false)
    · exact .refl s

theorem freeKept_freeCells (hs : List Nat) : FreeKept s (freeCells s hs) := by
  unfold freeCells
  exact FreeKept.trans (by exact freeKept_fab _ rfl rfl) freeKept_bufLowCheck

theorem freeKept_freeDesc (i : Item) : FreeKept s (freeDesc s i) := by
  unfold freeDesc
  split
  · exact .refl s
  · split
    · exact freeKept_fab _ rfl rfl
    · exact freeKept_fab _ rfl rfl

theorem freeKept_freeItem (i : Item) : FreeKept s (freeItem s i) := (freeKept_freeCells i.cells).trans (freeKept_freeDesc i)

theorem freeKept_takeDesc {b : Bool} (h : takeDesc s = some (b, t)) : FreeKept s t := by
  unfold takeDesc at h
  split at h
  · cases h
    exact freeKept_fab _ rfl rfl
  · split at h
    · cases h
      exact freeKept_fab _ rfl rfl
    · cases h

theorem freeKept_takeCell {engine : Bool} {h : Nat} (e : takeCell s engine = some (h, t)) : FreeKept s t := by
  unfold takeCell at e
  split at e
  · cases e
    have hdraw : FreeKept s (drawNat s (sramFree s)).2 := .of (touches_drawNat s _)
    exact FreeKept.trans (by exact hdraw.trans (freeKept_fab _ rfl rfl)) freeKept_bufLowCheck
  · split at e
    · cases e
      exact FreeKept.trans (.of (touches_drawNat s _)) (freeKept_fab _ rfl rfl)
    · cases e

theorem freeKept_takeCells (engine : Bool) (n : Nat) : FreeKept s (takeCells s engine n).2 := by
  induction n generalizing s with
  | zero => exact .refl s
  | succ n ih =>
    unfold takeCells
    split
    · exact .refl s
    · next e => exact (freeKept_takeCell e).trans ih

/-! ### Other items in a queue -/

/-- What a queue keeps when its items change. -/
structure QueueKept (a b : Queue) : Prop where
  seqNext : b.seqNext = a.seqNext
  state : b.state = a.state
  dest : b.dest = a.dest
  stopping : b.stopping = a.stopping
  breakPending : b.breakPending = a.breakPending
  waiting : b.waiting = a.waiting
  cfg : b.cfg = a.cfg
  ptrs : a.ptrA = a.ptrB → b.ptrA = b.ptrB

theorem Queue.put_kept (a : Queue) (now : Nat) (items producing : List Item) : QueueKept a (a.put now items producing) := by
  have hmoved : QueueKept a (a.moved items producing) := ⟨rfl, rfl, rfl, rfl, rfl, rfl, rfl, fun h => by
    show (if _ then _ else _) = (if _ then _ else _)
    rw [h]⟩
  rw [Queue.put_eq]
  split
  · exact hmoved
  · exact ⟨hmoved.seqNext, hmoved.state, hmoved.dest, hmoved.stopping, hmoved.breakPending, hmoved.waiting, hmoved.cfg, hmoved.ptrs⟩

/-- What a change of a queue's items leaves. -/
theorem putItems_spec (items producing : List Item) : ((s.putItems q items producing).queue q).items = items ∧
    ((s.putItems q items producing).queue q).producing = producing ∧ QueueKept (s.queue q) ((s.putItems q items producing).queue q) ∧
    (∀ r, (s.putItems q items producing).reg r = s.reg r) := by
  rw [State.queue_putItems_self]
  exact ⟨Queue.put_items _ _ _ _, Queue.put_producing _ _ _ _, Queue.put_kept _ _ _ _, fun r => (touches_putItems q items producing).reg r (by simp)⟩

theorem pop_putItems (items producing : List Item) : (s.putItems q items producing).fab.popBytes = s.fab.popBytes := by
  have hsettle : ∀ (u : State) e c, (classSettle u e c).fab = u.fab := fun u e c => (touches_classSettle e c).part .fab (by decide)
  unfold State.putItems
  simp only
  split
  · split
    · rw [hsettle]
      rfl
    · rfl
  · rfl

/-! ### The head item delivered -/

/-- The head item off its queue and its cells freed. -/
theorem dropHead_spec {i : Item} {rest : List Item} (hi : (s.queue q).items = i :: rest) : ((dropHead s q).queue q).items = rest ∧
    ((dropHead s q).queue q).producing = (s.queue q).producing ∧ QueueKept (s.queue q) ((dropHead s q).queue q) ∧
    (dropHead s q).fab.popBytes = s.fab.popBytes ∧ (∀ r, r / 0x1000 = 0x20 → r ≠ 0x20010 → (dropHead s q).reg r = s.reg r) := by
  have hform : dropHead s q = freeItem (s.putItems q rest (s.queue q).producing) i := by
    unfold dropHead
    rw [hi]
  obtain ⟨hitems, hprod, hkept, hregs⟩ := putItems_spec (s := s) (q := q) rest (s.queue q).producing
  have hpop := pop_putItems (s := s) (q := q) rest (s.queue q).producing
  rw [hform]
  generalize s.putItems q rest (s.queue q).producing = a at *
  have hfree := freeKept_freeItem (s := a) i
  rw [hfree.queues.queue]
  exact ⟨hitems, hprod, hkept, hfree.pop.trans hpop, fun r hr hc => (hfree.regs r hr hc).trans (hregs r)⟩

/-- A queue closed because nothing is left in it has its items as before. -/
theorem closeIfEmpty_spec : ((closeIfEmpty s q).queue q).items = (s.queue q).items ∧ ((closeIfEmpty s q).queue q).producing = (s.queue q).producing ∧
    ((closeIfEmpty s q).queue q).seqNext = (s.queue q).seqNext ∧ ((closeIfEmpty s q).queue q).ptrA = (s.queue q).ptrA ∧
    ((closeIfEmpty s q).queue q).ptrB = (s.queue q).ptrB ∧ ((closeIfEmpty s q).queue q).dest = (s.queue q).dest ∧
    (closeIfEmpty s q).fab.popBytes = s.fab.popBytes ∧ (∀ r, (closeIfEmpty s q).reg r = s.reg r) := by
  unfold closeIfEmpty
  simp only
  split
  · have hset := State.queue_setQueue_self (s := s) q { s.queue q with state := 0, stopping := false }
    rw [hset]
    exact ⟨rfl, rfl, rfl, rfl, rfl, rfl, rfl, fun _ => rfl⟩
  · exact ⟨rfl, rfl, rfl, rfl, rfl, rfl, rfl, fun _ => rfl⟩

/-- A head that is no marker settles as it is. -/
theorem settleHead_plain (h : ∀ i rest, (s.queue q).items = i :: rest → i.isBreak = false ∨ i.begun = true) : settleHead s q = s := by
  unfold settleHead
  simp only
  split
  · split
    · next i rest hi =>
      rw [if_neg]
      rcases h i rest hi with hb | hb <;> rw [hb] <;> simp
    · rfl
  · rfl

/-- A queue of another destination settles as it is. -/
theorem settleHead_other (h : (s.queue q).dest < 2 ∨ 4 < (s.queue q).dest) : settleHead s q = s := by
  refine if_neg ?_
  simp only [Bool.and_eq_true, Bool.or_eq_true, beq_iff_eq, not_and]
  omega

theorem comparePtrs_same (h : (s.queue q).ptrA = (s.queue q).ptrB) : comparePtrs s q = s := if_pos h

/-- What the delivery of the head item leaves, where no marker follows or the queue feeds a consumer that takes it, and the pointers agree. -/
structure Delivered (s t : State) (q : Nat) (rest : List Item) : Prop where
  items : (t.queue q).items = rest
  producing : (t.queue q).producing = (s.queue q).producing
  seqNext : (t.queue q).seqNext = (s.queue q).seqNext
  pop : t.fab.popBytes = s.fab.popBytes
  count : t.fld F.FAB_DEQUEUED_COUNT = satAdd 32 (s.fld F.FAB_DEQUEUED_COUNT) 1
  regs : ∀ r, r / 0x1000 = 0x20 → r ≠ 0x20010 → r ≠ A.FAB_DEQUEUED → t.reg r = s.reg r

theorem delivered_spec {i : Item} {rest : List Item} (hi : (s.queue q).items = i :: rest) 
    (hrest : rest.any (fun x => x.isBreak) = false ∨ (s.queue q).dest < 2) (hptr : (s.queue q).ptrA = (s.queue q).ptrB) : Delivered s (delivered s q) q rest := by
  obtain ⟨hitems, hprod, hkept, hpop, hregs⟩ := dropHead_spec hi
  unfold delivered
  generalize dropHead s q = a at *
  have hsame : SameQueues a (a.count F.FAB_DEQUEUED_COUNT 1) := SameQueues.of (touches_count F.FAB_DEQUEUED_COUNT 1)
  have hcount : (a.count F.FAB_DEQUEUED_COUNT 1).fld F.FAB_DEQUEUED_COUNT = satAdd 32 (s.fld F.FAB_DEQUEUED_COUNT) 1 := by
    rw [State.fld_count_self a F.FAB_DEQUEUED_COUNT 1 (by decide), State.fld_congr (hregs _ (by decide) (by decide))]
  have hbpop : (a.count F.FAB_DEQUEUED_COUNT 1).fab.popBytes = a.fab.popBytes := by rw [State.count_fab]
  have hcregs := onlyRegs_count a F.FAB_DEQUEUED_COUNT 1
  generalize a.count F.FAB_DEQUEUED_COUNT 1 = b at *
  have hb := hsame.queue q
  obtain ⟨hci, hcp, hcs, hca, hcb, hcd, hcpop, hcr⟩ := closeIfEmpty_spec (s := b) (q := q)
  generalize closeIfEmpty b q = c at *
  have hcitems : (c.queue q).items = rest := by rw [hci, hb, hitems]
  have hsettle : settleHead c q = c := by
    rcases hrest with hrest | hdest
    · refine settleHead_plain (fun j more hj => .inl ?_)
      rw [hcitems] at hj
      rw [hj, List.any_cons, Bool.or_eq_false_iff] at hrest
      exact hrest.1
    · exact settleHead_other (.inl (by rw [hcd, hb, hkept.dest]; exact hdest))
  have hcptr : (c.queue q).ptrA = (c.queue q).ptrB := by rw [hca, hcb, hb]; exact hkept.ptrs hptr
  rw [hsettle, comparePtrs_same hcptr]
  exact ⟨hcitems, by rw [hcp, hb, hprod], by rw [hcs, hb, hkept.seqNext], hcpop.trans (hbpop.trans hpop), (State.fld_congr (hcr _)).trans hcount,
    fun r hr h1 h2 => (hcr r).trans ((hcregs r (by simpa using h2)).trans (hregs r hr h1))⟩

end

end Sys2Proof.Machine
end

section
/-!
PROOFS. Frames received and sent by the Ethernet ports (15_ethernet_ports.md, Frame sizes; Receive classification; PAUSE).
-/
namespace Sys2Proof.Machine

-- One proof after another: side by side, the threads of so long a text want more memory than the check grants.
set_option Elab.async false

section
variable {s t u : State} {x : EthPort} {frame bs : List Byte}

/-! ### Frames that are counted alone (R504, R507) -/

theorem ethRx_runs (hs : s.operating = true) (hen : s.flag (F.EM_CTRL_RX_EN x) = true) (hup : portMbps s x ≠ 0) (frame : List Byte) :
    exec (.ethRxFrame x frame) s = .next (ethRx s x frame) := by
  refine congrArg Host.Outcome.next (if_pos ?_)
  rw [hs, hen, bne_iff_ne.mpr hup]
  rfl

/-- A counter and no more. -/
theorem count_alone (f : Fld) (hf : f.lsb + f.width ≤ 32) (hw : f.width = 32) : (s.count f 1).fld f = satAdd 32 (s.fld f) 1 ∧
    OnlyRegs s (s.count f 1) [f.addr] ∧ s.count f 1 = { s with regs := (s.count f 1).regs } :=
  ⟨by rw [State.fld_count_self s f 1 hf, hw], onlyRegs_count s f 1, rfl⟩

/-- What the sizes and the FCS make of a frame that is not taken. -/
theorem ethRx_oversize (h : s.fld (F.EM_FRAME_CFG_MAX_FRAME x) < frame.length) : ethRx s x frame = s.count (F.EM_RX_OVERSIZE_COUNT x) 1 := if_pos h

theorem ethRx_badFcs (h : frame.length ≤ s.fld (F.EM_FRAME_CFG_MAX_FRAME x))
    (hf : leNat (frame.drop (frame.length - 4)) ≠ crc32 (frame.take (frame.length - 4))) : ethRx s x frame = s.count (F.EM_RX_FCS_ERR_COUNT x) 1 :=
  (if_neg (by omega)).trans (if_pos (bne_iff_ne.mpr hf))

theorem ethRx_runt (h : frame.length ≤ s.fld (F.EM_FRAME_CFG_MAX_FRAME x))
    (hf : leNat (frame.drop (frame.length - 4)) = crc32 (frame.take (frame.length - 4))) (hr : frame.length < 64) :
    ethRx s x frame = s.count (F.EM_RX_RUNT_COUNT x) 1 :=
  (if_neg (by omega)).trans ((if_neg (by rw [hf, bne_self_eq_false]; decide)).trans (if_pos hr))

/-- A good frame is counted and goes on. -/
theorem ethRx_good (h : frame.length ≤ s.fld (F.EM_FRAME_CFG_MAX_FRAME x))
    (hf : leNat (frame.drop (frame.length - 4)) = crc32 (frame.take (frame.length - 4))) (hr : 64 ≤ frame.length)
    (hm : be16 (frame.take (frame.length - 4)) 12 ≠ 0x8808) (hsec : s.flag (F.EM_MACSEC_CFG_RX_EN x) = false) :
    ethRx s x frame = rxEnqueue (s.count (F.EM_RX_FRAMES_COUNT x) 1) x (frame.take (frame.length - 4)) false := by
  have hsec' : (s.count (F.EM_RX_FRAMES_COUNT x) 1).flag (F.EM_MACSEC_CFG_RX_EN x) = false :=
    ((onlyRegs_count s (F.EM_RX_FRAMES_COUNT x) 1).flag (by simp [A.EM_MACSEC_CFG, A.EM_RX_FRAMES])).trans hsec
  refine (if_neg (by omega)).trans ((if_neg (by rw [hf, bne_self_eq_false]; decide)).trans ((if_neg (by omega)).trans ?_))
  exact (if_neg hm).trans (if_pos (by rw [hsec']; rfl))

/-! ### What a count of frames leaves of the classification (R507, R508, R516) -/

/-- The configuration and the time that the classification of a frame reads. -/
structure SameRx (x : EthPort) (s t : State) : Prop where
  fld : ∀ f : Fld, f.addr ≠ A.EM_RX_FRAMES x → t.fld f = s.fld f
  qmap : t.reg (A.EM_RX_QMAP x) = s.reg (A.EM_RX_QMAP x)
  now : t.now = s.now

theorem SameRx.flag (h : SameRx x s t) (f : Fld) (hf : f.addr ≠ A.EM_RX_FRAMES x) : t.flag f = s.flag f := by rw [State.flag, h.fld f hf, State.flag]

theorem sameRx_count : SameRx x s (s.count (F.EM_RX_FRAMES_COUNT x) 1) := by
  have hregs := onlyRegs_count s (F.EM_RX_FRAMES_COUNT x) 1
  exact ⟨fun f hf => hregs.fld (by simpa using hf), hregs _ (by simp [A.EM_RX_QMAP, A.EM_RX_FRAMES]), State.count_now _ _ _⟩

theorem SameRx.outerTag (h : SameRx x s t) (bs : List Byte) : outerTag t x bs = outerTag s x bs := by
  rw [Machine.outerTag, h.fld _ (by simp [A.EM_VLAN_CFG, A.EM_RX_FRAMES]), Machine.outerTag]

theorem SameRx.ptpAt (h : SameRx x s t) (bs : List Byte) : ptpAt t x bs = ptpAt s x bs := by
  rw [Machine.ptpAt, typeAt, h.outerTag, Machine.ptpAt, typeAt]

theorem SameRx.ptpEvent (h : SameRx x s t) (bs : List Byte) : ptpEvent t x bs = ptpEvent s x bs := by
  rw [Machine.ptpEvent, h.ptpAt, Machine.ptpEvent]

theorem SameRx.rxStamp (h : SameRx x s t) : rxStamp t x = rxStamp s x := by
  rw [Machine.rxStamp, stampShift, h.now, h.fld F.DTM_STATUS_STEP_GEN (by simp only [A.DTM_STATUS, A.EM_RX_FRAMES]; omega), 
    h.fld (F.DTM_PORT_DELAY_RX_NS x) (by simp only [A.DTM_PORT_DELAY, A.EM_RX_FRAMES]; omega),
    Machine.rxStamp, stampShift]

theorem SameRx.rxQueue (h : SameRx x s t) (bs : List Byte) : rxQueue t x bs = rxQueue s x bs := by
  have htunnel : isTunnel t x bs = isTunnel s x bs := by
    rw [isTunnel, h.flag _ (by simp [A.EM_TUN_CFG, A.EM_RX_FRAMES]), h.fld _ (by simp [A.EM_TUN_CFG, A.EM_RX_FRAMES]), isTunnel]
  have hqmap : ∀ pcp, Machine.qmap t x pcp = Machine.qmap s x pcp := fun pcp => by rw [Machine.qmap, h.qmap, Machine.qmap]
  unfold Machine.rxQueue
  simp only [htunnel, h.ptpAt, h.outerTag, hqmap, h.fld (F.EM_TUN_QS_RX_Q x) (by simp [A.EM_TUN_QS, A.EM_RX_FRAMES]),
    h.fld (F.EM_PTP_Q_QUEUE x) (by simp [A.EM_PTP_Q, A.EM_RX_FRAMES]), h.fld (F.EM_RX_QCFG_CTL_Q x) (by simp [A.EM_RX_QCFG, A.EM_RX_FRAMES]),
    h.fld (F.EM_RX_QCFG_DEF_PCP x) (by simp [A.EM_RX_QCFG, A.EM_RX_FRAMES]), h.fld (F.EM_RX_QCFG_RX_QBASE x) (by simp [A.EM_RX_QCFG, A.EM_RX_FRAMES])]

/-- A good plain frame offered to the queue that its classification names. -/
theorem rxEnqueue_plain (h : SameRx x s t) (hq : rxQueue s x bs ≤ 4095) (htag : s.flag (F.EM_VLAN_CFG_RX_STRIP x) = false ∨ outerTag s x bs = none) :
    rxEnqueue t x bs false = (enqueue t (rxQueue s x bs) { Item.blank with
      bytes := bs, aux := 2 ^ 19 * b01 (ptpEvent s x bs).isSome, ts := rxStamp s x, src := 16 + x,
      ptpOneStep := (ptpEvent s x bs).isSome && s.flag (F.EM_FRAME_CFG_TC_EN x) } false).2 := by
  unfold rxEnqueue
  simp only [h.rxQueue, h.outerTag, h.ptpEvent, h.rxStamp, h.flag (F.EM_VLAN_CFG_RX_STRIP x) (by simp [A.EM_VLAN_CFG, A.EM_RX_FRAMES]),
    h.flag (F.EM_FRAME_CFG_TC_EN x) (by simp [A.EM_FRAME_CFG, A.EM_RX_FRAMES])]
  rw [if_neg (by omega)]
  rcases htag with hstrip | hnone
  · simp only [hstrip, Bool.false_and, Bool.false_eq_true, if_false]
    cases outerTag s x bs <;> simp [b01]
  · simp [hnone, b01]

theorem ethRx_offered (hs : s.operating = true) (hen : s.flag (F.EM_CTRL_RX_EN x) = true) (hup : portMbps s x ≠ 0) (hbs : bs = frame.take (frame.length - 4))
    (h : frame.length ≤ s.fld (F.EM_FRAME_CFG_MAX_FRAME x)) (hf : leNat (frame.drop (frame.length - 4)) = crc32 bs) (hr : 64 ≤ frame.length)
    (hm : be16 bs 12 ≠ 0x8808) (hsec : s.flag (F.EM_MACSEC_CFG_RX_EN x) = false) (hq : rxQueue s x bs ≤ 4095)
    (htag : s.flag (F.EM_VLAN_CFG_RX_STRIP x) = false ∨ outerTag s x bs = none) : ∃ t, exec (.ethRxFrame x frame) s = .next t ∧
      t = (enqueue (s.count (F.EM_RX_FRAMES_COUNT x) 1) (rxQueue s x bs) { Item.blank with
        bytes := bs, aux := 2 ^ 19 * b01 (ptpEvent s x bs).isSome, ts := rxStamp s x, src := 16 + x,
        ptpOneStep := (ptpEvent s x bs).isSome && s.flag (F.EM_FRAME_CFG_TC_EN x) } false).2 := by
  subst hbs
  exact ⟨_, (ethRx_runs hs hen hup frame).trans (congrArg Host.Outcome.next (ethRx_good h hf hr hm hsec)), rxEnqueue_plain sameRx_count hq htag⟩

/-! ### PAUSE frames received (R511) -/

theorem ethRx_pause (hs : s.operating = true) (hen : s.flag (F.EM_CTRL_RX_EN x) = true) (hup : portMbps s x ≠ 0) (hbs : bs = frame.take (frame.length - 4))
    (h : frame.length ≤ s.fld (F.EM_FRAME_CFG_MAX_FRAME x)) (hf : leNat (frame.drop (frame.length - 4)) = crc32 bs) (hr : 64 ≤ frame.length)
    (hm : be16 bs 12 = 0x8808) (hop : be16 bs 14 = 1) (hhold : s.flag (F.EM_STATUS_HOLD x) = false)
    (hcfg : s.flag (F.EM_PAUSE_CFG_RX_PAUSE x) = true) (han : s.flag (F.EM_MODE_CFG_AN_EN x) = false) : ∃ t, exec (.ethRxFrame x frame) s = .next t ∧
      t.fld (F.EM_RX_FRAMES_COUNT x) = satAdd 32 (s.fld (F.EM_RX_FRAMES_COUNT x)) 1 ∧
      t.fld (F.EM_RX_PAUSE_COUNT x) = satAdd 32 (s.fld (F.EM_RX_PAUSE_COUNT x)) 1 ∧
      t.flag (F.EM_STATUS_PAUSED x) = (be16 bs 16 != 0) ∧ OnlyRegs s t [A.EM_RX_FRAMES x, A.EM_RX_PAUSE x, A.EM_STATUS x] ∧
      t = { s with regs := t.regs } := by
  subst hbs
  obtain ⟨hfc, hfr, -⟩ := count_alone (s := s) (F.EM_RX_FRAMES_COUNT x) (by simp) rfl
  obtain ⟨hpc, hpr, -⟩ := count_alone (s := s.count (F.EM_RX_FRAMES_COUNT x) 1) (F.EM_RX_PAUSE_COUNT x) (by simp) rfl
  have hflag : ∀ f : Fld, f.addr ≠ A.EM_RX_FRAMES x → f.addr ≠ A.EM_RX_PAUSE x →
      ((s.count (F.EM_RX_FRAMES_COUNT x) 1).count (F.EM_RX_PAUSE_COUNT x) 1).flag f = s.flag f := fun f h1 h2 =>
    (hpr.flag (by simpa using h2)).trans (hfr.flag (by simpa using h1))
  have hform : ethRx s x frame = obeyPause ((s.count (F.EM_RX_FRAMES_COUNT x) 1).count (F.EM_RX_PAUSE_COUNT x) 1) x (be16 (frame.take (frame.length - 4)) 16) := by
    refine (if_neg (by omega)).trans ((if_neg (by rw [hf, bne_self_eq_false]; decide)).trans ((if_neg (by omega)).trans ((if_pos hm).trans ?_)))
    unfold macControl
    rw [if_neg (by rw [hop]; decide)]
    simp only
    rw [hflag (F.EM_STATUS_HOLD x) (by simp [A.EM_STATUS, A.EM_RX_FRAMES]) (by simp [A.EM_STATUS, A.EM_RX_PAUSE]), hhold, if_neg Bool.false_ne_true,
      hflag (F.EM_PAUSE_CFG_RX_PAUSE x) (by simp [A.EM_PAUSE_CFG, A.EM_RX_FRAMES]) (by simp [A.EM_PAUSE_CFG, A.EM_RX_PAUSE]), hcfg,
      hflag (F.EM_MODE_CFG_AN_EN x) (by simp [A.EM_MODE_CFG, A.EM_RX_FRAMES]) (by simp [A.EM_MODE_CFG, A.EM_RX_PAUSE]), han]
    simp
  have hpaused : (obeyPause ((s.count (F.EM_RX_FRAMES_COUNT x) 1).count (F.EM_RX_PAUSE_COUNT x) 1) x (be16 (frame.take (frame.length - 4)) 16)).flag
      (F.EM_STATUS_PAUSED x) = (be16 (frame.take (frame.length - 4)) 16 != 0) := by
    unfold obeyPause
    cases be16 (frame.take (frame.length - 4)) 16 != 0
    · exact State.flag_setFld_zero _ (by simp)
    · exact State.flag_setFld_one _ rfl (by simp)
  have hor : OnlyRegs ((s.count (F.EM_RX_FRAMES_COUNT x) 1).count (F.EM_RX_PAUSE_COUNT x) 1)
      (obeyPause ((s.count (F.EM_RX_FRAMES_COUNT x) 1).count (F.EM_RX_PAUSE_COUNT x) 1) x (be16 (frame.take (frame.length - 4)) 16)) [A.EM_STATUS x] :=
    onlyRegs_setFld _ (F.EM_STATUS_PAUSED x) _
  refine ⟨_, (ethRx_runs hs hen hup frame).trans (congrArg Host.Outcome.next hform), ?_, ?_, hpaused, fun r hr => ?_, rfl⟩
  · exact (hor.fld (by simp [A.EM_RX_FRAMES, A.EM_STATUS])).trans ((hpr.fld (by simp [A.EM_RX_FRAMES, A.EM_RX_PAUSE])).trans hfc)
  · exact (hor.fld (by simp [A.EM_RX_PAUSE, A.EM_STATUS])).trans (hpc.trans (by rw [hfr.fld (by simp [A.EM_RX_PAUSE, A.EM_RX_FRAMES])]))
  · simp only [List.mem_cons, List.not_mem_nil, or_false, not_or] at hr
    exact (hor r (by simpa using hr.2.2)).trans ((hpr r (by simpa using hr.2.1)).trans (hfr r (by simpa using hr.1)))

end

end Sys2Proof.Machine
end

section
/-!
PROOFS. Frames sent by the Ethernet ports (15_ethernet_ports.md, Frame sizes; PTP time stamps).
-/
namespace Sys2Proof.Machine

-- One proof after another: side by side, the threads of so long a text want more memory than the check grants.
set_option Elab.async false

section
variable {s t u : State} {x : EthPort}

/-! ### The stamp of a frame sent (R519) -/

/-- Of port `x`: its registers but the status, the counts of PAUSE frames and of stamps lost, and the causes, and what it serves are as before. -/
structure SendKept (x : Nat) (s t : State) : Prop where
  regs : ∀ r, r / 0x1000 = 0x24 + x → r ≠ A.EM_STATUS x → r ≠ A.EM_TX_PAUSE x → r ≠ A.EM_TXTS_LOST x → r ≠ (0x24 + x) * 0x1000 + 0x010 → t.reg r = s.reg r
  egresses : t.tss.egresses = s.tss.egresses

theorem SendKept.refl (x : Nat) (s : State) : SendKept x s s := ⟨fun _ _ _ _ _ _ => rfl, rfl⟩

theorem SendKept.trans {x : Nat} (h : SendKept x s t) (h' : SendKept x t u) : SendKept x s u :=
  ⟨fun r h0 h1 h2 h3 h4 => (h'.regs r h0 h1 h2 h3 h4).trans (h.regs r h0 h1 h2 h3 h4), h'.egresses.trans h.egresses⟩

theorem PortsKept.send (h : PortsKept s t) : SendKept x s t := ⟨fun r h0 h1 h2 _ _ => h.regs x x.isLt r h0 h1 h2, h.egresses⟩

theorem Moves.send {wake : Bool} {ps : List Area} {gs : List Nat} (h : Moves wake ps gs s t) : SendKept x s t := h.portsKept.send

theorem moves_sendPtp (y : Nat) (peer oneStep : Bool) (ts msg : List Byte) : Moves true admitParts admitPages s (sendPtp s y peer oneStep ts msg) := by
  have hframe : Moves true admitParts admitPages s (ptpFrame s y peer msg).2 := by
    unfold ptpFrame
    split
    · exact .of (touches_drawBytes s 34)
    · exact Moves.refl s
  unfold sendPtp
  generalize (if y = 0 then s.fld F.DTM_PTP_TXQ_TXQ_A else s.fld F.DTM_PTP_TXQ_TXQ_B) = q
  exact Moves.ite (fun _ => Moves.refl s) (fun _ => hframe.trans (moves_enqueue q _ true))

theorem sendKept_pdelayFollowUp (resp ts : List Byte) : SendKept x s (pdelayFollowUp s x resp ts) := by
  unfold pdelayFollowUp
  simp only
  split
  · exact .refl _ s
  · exact (Moves.send (wake := true) (ps := [.dtm]) (gs := []) (.of (touches_setDtm _))).trans (moves_sendPtp _ _ _ _ _).send

theorem sendKept_putTxts (e : TxStamp) : SendKept x s (putTxts s x e) := by
  have hcause : ∀ (v : State) b, SendKept x v (setCause v (emPage x) b) := fun v b =>
    ⟨fun r _ _ _ _ h4 => onlyRegs_setCause v (emPage x) b r (by simpa [emPage] using h4), by rw [setCause_tss]⟩
  unfold putTxts
  simp only
  split
  · have hcount : SendKept x s (s.count (F.EM_TXTS_LOST_COUNT x) 1) :=
      ⟨fun r _ _ _ h3 _ => onlyRegs_count s (F.EM_TXTS_LOST_COUNT x) 1 r (by simpa using h3), by rw [State.count_tss]⟩
    exact hcount.trans (hcause _ 4)
  · exact SendKept.trans ⟨fun r _ _ _ _ _ => (touches_setPort _).reg r (by simp), rfl⟩ (hcause _ 3)

theorem sendKept_stampTx (i : Item) (bs : List Byte) : SendKept x s (stampTx s x i bs) := by
  unfold stampTx
  split
  · split
    · split
      · exact sendKept_pdelayFollowUp _ _
      · exact .refl _ s
    · split
      · exact sendKept_putTxts _
      · exact .refl _ s
  · exact .refl _ s

/-- The stamp of a frame that PE15 did not send leaves every queue. -/
theorem sameQueues_stampTx {i : Item} (hi : i.src ≠ 0x3F) (bs : List Byte) : SameQueues s (stampTx s x i bs) := by
  have hcause : ∀ (v : State) b, SameQueues v (setCause v (emPage x) b) := fun v b => .of (touches_setCause (emPage x) b)
  unfold stampTx
  split
  · rw [if_neg hi]
    split
    · unfold putTxts
      simp only
      split
      · exact (SameQueues.of (touches_count (F.EM_TXTS_LOST_COUNT x) 1)).trans (hcause _ 4)
      · exact (SameQueues.of (touches_setPort _)).trans (hcause _ 3)
    · exact .refl s
  · exact .refl s

/-! ### The item served sent (R505, R506, R510) -/

/-- The item sent leaves its queue, and PAUSE frames that waited go out. -/
def sentOff (v : State) (x q : Nat) : State := flushPause (delivered (v.setEgress x { v.egress x with serving := none }) q) x

theorem sentOff_spec (v : State) (q : Nat) : ((sentOff v x q).egress x).serving = none ∧
    (∀ r, r / 0x1000 = 0x24 + x.val → r ≠ A.EM_STATUS x → r ≠ A.EM_TX_PAUSE x → (sentOff v x q).reg r = v.reg r) ∧
    (∃ more, (sentOff v x q).out = v.out ++ more) ∧
    (∀ i rest, (v.queue q).items = i :: rest → rest.any (fun y => y.isBreak) = false → (v.queue q).ptrA = (v.queue q).ptrB →
      ((sentOff v x q).queue q).items = rest) := by
  have hserve : ((v.setEgress x { v.egress x with serving := none }).egress x).serving = none := congrArg Egress.serving (Tbl.get_put_self _ _ _ _)
  have hset := touches_setEgress (s := v) x { v.egress x with serving := none }
  unfold sentOff
  generalize v.setEgress x { v.egress x with serving := none } = a at *
  have hdelivered := (moves_delivered (wake := false) (s := a) q).portsKept
  have hflush := portsKept_flushPause (s := delivered a q) x.isLt
  have hkept := hdelivered.trans hflush
  refine ⟨(hkept.serving x).trans hserve, fun r h0 h1 h2 => (hkept.regs x x.isLt r h0 h1 h2).trans (hset.reg r (by simp)), ?_, fun i rest hi hb hp => ?_⟩
  · obtain ⟨more, h⟩ := (flushPause_keep (b := false) (x1 := x.val) (delivered_keep (b := false) (x1 := q) (Keep.refl a))).out
    exact ⟨more, by rw [← h, show a.out = v.out from hset.part .out (by decide)]⟩
  · have hqueue : a.queue q = v.queue q := (SameQueues.of hset).queue q
    have hd := delivered_spec (s := a) (q := q) (by rw [hqueue]; exact hi) (.inl hb) (by rw [hqueue]; exact hp)
    have hf : SameQueues (delivered a q) (flushPause (delivered a q) x) := .of (touches_flushPause x.isLt)
    rw [hf.queue]
    exact hd.items

section
variable {q : Nat} {i : Item} {rest : List Item} {bs : List Byte}

theorem ethTxBegin_eq (hs : s.operating = true) (hq : (s.egress x).serving = some q) (hi : (s.queue q).items = i :: rest) (hb : i.isBreak = false)
    (hc : i.committed = true) (hg : i.begun = true ∨ s.pow.lgDue = []) (hup : portUp s x = true) :
    exec (.ethTxBegin x) s = .next (sentOff (transmit s x (s.queue q).cls i) x q) := by
  have hfirst : ¬(!i.begun && s.pow.lgDue.any (fun d => d.1 == x.val)) = true := by
    rcases hg with h | h <;> rw [h] <;> simp
  have hform : ethTxBegin s x = sentOff (transmit s x (s.queue q).cls i) x q := by
    unfold ethTxBegin
    simp only [hq, hi]
    rw [if_neg hfirst, if_neg (by rw [hb]; exact Bool.false_ne_true), if_neg (by rw [hc, hup]; decide)]
    rfl
  exact (congrArg Host.Outcome.next (if_pos hs)).trans (congrArg Host.Outcome.next hform)

variable (hm : i.hasMeta = false) (ho : i.src / 16 ≠ 2 ∨ i.appendFcs = true) (hbs : bs = txTags s x (s.queue q).cls i i.bytes)
include hm ho hbs

theorem transmit_oversize (hlong : s.fld (F.EM_FRAME_CFG_MAX_FRAME x) < bs.length + 4) :
    transmit s x (s.queue q).cls i = s.count (F.EM_TX_OVERSIZE_COUNT x) 1 := by
  have hown : (i.src / 16 == 2 && !i.appendFcs) = false := by
    rcases ho with h | h
    · rw [beq_eq_false_iff_ne.mpr h, Bool.false_and]
    · rw [h, Bool.not_true, Bool.and_false]
  unfold transmit
  simp only [hm, hown, Bool.false_eq_true, if_false, List.drop_zero]
  rw [← hbs]
  exact if_pos hlong

theorem transmit_plain (hfit : bs.length + 4 ≤ s.fld (F.EM_FRAME_CFG_MAX_FRAME x)) (ht : i.trunc = false) (hp : i.ptpOneStep = false)
    (hprot : s.flag (F.EM_MACSEC_CFG_TX_PROTECT x) = false) :
    transmit s x (s.queue q).cls i = ((stampTx s x i bs).send (.eth x (withFcs (padFrame bs)))).count (F.EM_TX_FRAMES_COUNT x) 1 := by
  have hown : (i.src / 16 == 2 && !i.appendFcs) = false := by
    rcases ho with h | h
    · rw [beq_eq_false_iff_ne.mpr h, Bool.false_and]
    · rw [h, Bool.not_true, Bool.and_false]
  have hflag : isProtected (stampTx s x i bs) x i = false := by
    have hkept := (sendKept_stampTx (s := s) (x := x) i bs).regs (A.EM_MACSEC_CFG x) (by simp only [A.EM_MACSEC_CFG]; omega)
      (by simp [A.EM_MACSEC_CFG, A.EM_STATUS]) (by simp [A.EM_MACSEC_CFG, A.EM_TX_PAUSE]) (by simp [A.EM_MACSEC_CFG, A.EM_TXTS_LOST])
      (by simp only [A.EM_MACSEC_CFG]; omega)
    rw [isProtected, State.flag, State.fld_congr hkept, ← State.flag, hprot, Bool.and_false, Bool.false_and]
  unfold transmit
  simp only [hm, hown, ht, hp, Bool.false_eq_true, if_false, List.drop_zero]
  rw [← hbs, if_neg (by omega), if_neg (by rw [hflag]; exact Bool.false_ne_true)]
  rfl

end

/-- A frame too long for the port is counted and leaves its queue. -/
theorem ethTx_oversize {q : Nat} {i : Item} {rest : List Item} {bs : List Byte} (hs : s.operating = true) (hq : (s.egress x).serving = some q)
    (hi : (s.queue q).items = i :: rest) (hb : i.isBreak = false) (hc : i.committed = true) (hg : i.begun = true ∨ s.pow.lgDue = [])
    (hup : portUp s x = true) (hm : i.hasMeta = false) (ho : i.src / 16 ≠ 2 ∨ i.appendFcs = true) (hbs : bs = txTags s x (s.queue q).cls i i.bytes)
    (hlong : s.fld (F.EM_FRAME_CFG_MAX_FRAME x) < bs.length + 4) : ∃ t, exec (.ethTxBegin x) s = .next t ∧ (t.egress x).serving = none ∧
      t.fld (F.EM_TX_OVERSIZE_COUNT x) = satAdd 32 (s.fld (F.EM_TX_OVERSIZE_COUNT x)) 1 ∧
      t.fld (F.EM_TX_FRAMES_COUNT x) = s.fld (F.EM_TX_FRAMES_COUNT x) := by
  rw [ethTxBegin_eq hs hq hi hb hc hg hup, transmit_oversize hm ho hbs hlong]
  obtain ⟨hcount, hregs, -⟩ := count_alone (s := s) (F.EM_TX_OVERSIZE_COUNT x) (by simp) rfl
  generalize s.count (F.EM_TX_OVERSIZE_COUNT x) 1 = v at *
  obtain ⟨hserve, hkept, -, -⟩ := sentOff_spec (x := x) v q
  refine ⟨_, rfl, hserve, (State.fld_congr (hkept _ ?_ ?_ ?_)).trans hcount, (State.fld_congr (hkept _ ?_ ?_ ?_)).trans (hregs.fld ?_)⟩
  · simp only [A.EM_TX_OVERSIZE]; omega
  · simp [A.EM_TX_OVERSIZE, A.EM_STATUS]
  · simp [A.EM_TX_OVERSIZE, A.EM_TX_PAUSE]
  · simp only [A.EM_TX_FRAMES]; omega
  · simp [A.EM_TX_FRAMES, A.EM_STATUS]
  · simp [A.EM_TX_FRAMES, A.EM_TX_PAUSE]
  · simp [A.EM_TX_FRAMES, A.EM_TX_OVERSIZE]

/-- A frame sent tagged, padded and with its FCS is counted and leaves its queue. -/
theorem ethTx_sends {q : Nat} {i : Item} {rest : List Item} {bs : List Byte} (hs : s.operating = true) (hq : (s.egress x).serving = some q)
    (hi : (s.queue q).items = i :: rest) (hb : i.isBreak = false) (hc : i.committed = true) (hg : i.begun = true ∨ s.pow.lgDue = [])
    (hup : portUp s x = true) (hm : i.hasMeta = false) (ht : i.trunc = false) (hp : i.ptpOneStep = false)
    (ho : i.src / 16 ≠ 2 ∨ i.appendFcs = true) (hbs : bs = txTags s x (s.queue q).cls i i.bytes)
    (hfit : bs.length + 4 ≤ s.fld (F.EM_FRAME_CFG_MAX_FRAME x)) (hprot : s.flag (F.EM_MACSEC_CFG_TX_PROTECT x) = false) :
    ∃ t, exec (.ethTxBegin x) s = .next t ∧ .eth x (withFcs (padFrame bs)) ∈ t.out.drop s.out.length ∧ (t.egress x).serving = none ∧
      t.fld (F.EM_TX_FRAMES_COUNT x) = satAdd 32 (s.fld (F.EM_TX_FRAMES_COUNT x)) 1 ∧
      (rest.any (fun y => y.isBreak) = false → (s.queue q).ptrA = (s.queue q).ptrB → i.src ≠ 0x3F → (t.queue q).items = rest) := by
  have hstamp := (sendKept_stampTx (s := s) (x := x) i bs).regs (A.EM_TX_FRAMES x) (by simp only [A.EM_TX_FRAMES]; omega)
    (by simp [A.EM_TX_FRAMES, A.EM_STATUS]) (by simp [A.EM_TX_FRAMES, A.EM_TX_PAUSE]) (by simp [A.EM_TX_FRAMES, A.EM_TXTS_LOST])
    (by simp only [A.EM_TX_FRAMES]; omega)
  obtain ⟨more, hmore⟩ := (stampTx_keep (b := false) (x1 := x.val) (x2 := i) (x3 := bs) (Keep.refl s)).out
  have hqueues : i.src ≠ 0x3F → (stampTx s x i bs).queue q = s.queue q := fun h => (sameQueues_stampTx h bs).queue q
  rw [ethTxBegin_eq hs hq hi hb hc hg hup, transmit_plain hm ho hbs hfit ht hp hprot]
  generalize stampTx s x i bs = a at *
  obtain ⟨hcount, -, -⟩ := count_alone (s := a.send (.eth x (withFcs (padFrame bs)))) (F.EM_TX_FRAMES_COUNT x) (by simp) rfl
  have hout : ((a.send (.eth x (withFcs (padFrame bs)))).count (F.EM_TX_FRAMES_COUNT x) 1).out = a.out ++ [.eth x (withFcs (padFrame bs))] :=
    State.count_out _ _ _
  have hsame : SameQueues a ((a.send (.eth x (withFcs (padFrame bs)))).count (F.EM_TX_FRAMES_COUNT x) 1) := rfl
  have hcount' : ((a.send (.eth x (withFcs (padFrame bs)))).count (F.EM_TX_FRAMES_COUNT x) 1).fld (F.EM_TX_FRAMES_COUNT x) =
      satAdd 32 (s.fld (F.EM_TX_FRAMES_COUNT x)) 1 := by
    rw [hcount, show (a.send (.eth x (withFcs (padFrame bs)))).fld (F.EM_TX_FRAMES_COUNT x) = s.fld (F.EM_TX_FRAMES_COUNT x) from State.fld_congr hstamp]
  generalize (a.send (.eth x (withFcs (padFrame bs)))).count (F.EM_TX_FRAMES_COUNT x) 1 = v at *
  obtain ⟨hserve, hkept, ⟨tail, htail⟩, hitems⟩ := sentOff_spec (x := x) v q
  refine ⟨_, rfl, ?_, hserve, (State.fld_congr (hkept _ ?_ ?_ ?_)).trans hcount', fun hbrk hptr hsrc => ?_⟩
  · rw [htail, hout, ← hmore, List.append_assoc, List.append_assoc, List.drop_left]
    simp
  · simp only [A.EM_TX_FRAMES]; omega
  · simp [A.EM_TX_FRAMES, A.EM_STATUS]
  · simp [A.EM_TX_FRAMES, A.EM_TX_PAUSE]
  · have hvq : v.queue q = s.queue q := (hsame.queue q).trans (hqueues hsrc)
    exact hitems i rest (by rw [hvq]; exact hi) hbrk (by rw [hvq]; exact hptr)

end

end Sys2Proof.Machine
end

section
/-!
PROOFS. The window of the MACsec associations (15_ethernet_ports.md, MACsec).
-/
namespace Sys2Proof.Machine

-- One proof after another: side by side, the threads of so long a text want more memory than the check grants.
set_option Elab.async false

section
variable {s t u : State} {x : EthPort} {src : Requester} {data : Word}

/-! ### A write reaches its word (R521) -/

theorem saWindow_addr : ∀ (x : EthPort) (w : Fin 4), implemented (A.EM_SA_CFG x + 4 * w.val) = true ∧
    emPage x * 0x1000 + (0x050 + 4 * w.val) = A.EM_SA_CFG x + 4 * w.val := by decide +kernel

theorem saCfgWrite_runs (hs : s.inOperation = true) (w : Fin 4) :
    exec (.saCfgWrite src x w data) s = .next (saWrite s src x (0x050 + 4 * w.val) data) :=
  congrArg Host.Outcome.next (gateWrite_inOperation hs (saWindow_addr x w).1 src _)

theorem saWrite_config (hl : s.flag (F.EM_LOCK_LOCK1 x) = false) : saWrite s src x 0x050 data = saCfgWrite s src x data :=
  (if_neg (by rw [hl]; exact Bool.false_ne_true)).trans (if_pos rfl)

/-- While the association is enabled, its other words are refused. -/
theorem saWrite_enabled (hl : s.flag (F.EM_LOCK_LOCK1 x) = false) (hen : (saGet s x).en = true) {w : Fin 4} (hw : w.val ≠ 0) :
    saWrite s src x (0x050 + 4 * w.val) data = recordErr s (emPage x) 0x81 src.code (A.EM_SA_CFG x + 4 * w.val) := by
  rw [← (saWindow_addr x w).2]
  exact (if_neg (by rw [hl]; exact Bool.false_ne_true)).trans ((if_neg (by omega)).trans (if_pos hen))

theorem saWrite_number (hl : s.flag (F.EM_LOCK_LOCK1 x) = false) (hen : (saGet s x).en = false) :
    saWrite s src x 0x054 data = saPut s x { saGet s x with pn := data.toNat, next := data.toNat } :=
  (if_neg (by rw [hl]; exact Bool.false_ne_true)).trans ((if_neg (by decide)).trans
    ((if_neg (by rw [hen]; exact Bool.false_ne_true)).trans (if_pos rfl)))

/-! ### The association in the window -/

/-- Storing an association changes its port alone. -/
theorem saPut_frame (a : Assoc) : saPut s x a = { s with ports := (saPut s x a).ports } := by
  unfold saPut
  simp only
  split <;> rfl

theorem saPut_regs (a : Assoc) : (saPut s x a).regs = s.regs := by rw [saPut_frame]

theorem saPut_onlyRegs (a : Assoc) : OnlyRegs s (saPut s x a) [] := fun r _ => State.reg_congr (saPut_regs a) r

theorem saSel_congr (h : t.regs = s.regs) : saSel t x = saSel s x := by
  have hf : ∀ f : Fld, t.fld f = s.fld f := fun f => State.fld_congr (State.reg_congr h f.addr)
  rw [saSel, State.flag, hf, hf, hf, saSel, State.flag]

theorem saGet_saPut (a : Assoc) : saGet (saPut s x a) x = a := by
  unfold saGet
  simp only [saSel_congr (saPut_regs (s := s) (x := x) a)]
  unfold saPut
  simp only
  cases (saSel s x).1
  · exact (congrArg (fun p : Port => Tbl.get (fun _ => Assoc.init) p.txSa (saSel s x).2) (State.port_setPort_self s x _)).trans (Tbl.get_put_self _ _ _ _)
  · exact (congrArg (fun p : Port => Tbl.get (fun _ => Assoc.init) p.rxSa (saSel s x).2) (State.port_setPort_self s x _)).trans (Tbl.get_put_self _ _ _ _)

theorem refreshHalt_spec (v : State) : OnlyRegs v (refreshHalt v x) [A.EM_STATUS x] ∧ refreshHalt v x = { v with regs := (refreshHalt v x).regs } ∧
    saGet (refreshHalt v x) x = saGet v x := by
  have hregs : OnlyRegs v (refreshHalt v x) [A.EM_STATUS x] := by
    unfold refreshHalt
    simp only
    split
    · exact onlyRegs_setFld v (F.EM_STATUS_MACSEC_HALT x) 0
    · exact fun r _ => rfl
  have hframe : refreshHalt v x = { v with regs := (refreshHalt v x).regs } := by
    unfold refreshHalt
    simp only
    split <;> rfl
  have hports : (refreshHalt v x).ports = v.ports := by rw [hframe]
  have hsel : saSel (refreshHalt v x) x = saSel v x := by
    have hapart : ∀ f : Fld, f.addr = A.EM_SA_SEL x → (refreshHalt v x).fld f = v.fld f := fun f hf =>
      hregs.fld (by rw [hf]; simp [A.EM_SA_SEL, A.EM_STATUS])
    rw [saSel, State.flag, hapart _ rfl, hapart _ rfl, hapart _ rfl, saSel, State.flag]
  refine ⟨hregs, hframe, ?_⟩
  rw [saGet, hsel, saGet, txAssoc, txAssoc, State.port, hports, State.port]

/-! ### SA_CFG (R521) -/

theorem saCfgWrite_slot (hen : (saGet s x).en = false) (hbit : bit data.toNat 31 = false) :
    saCfgWrite s src x data = saPut s x { saGet s x with slot := bitsOf data.toNat 0 9 } :=
  (if_neg (by rw [hen]; exact Bool.false_ne_true)).trans (if_pos (by rw [hbit]; rfl))

theorem saCfgWrite_enable {key : List Byte} (hen : (saGet s x).en = false) (hbit : bit data.toNat 31 = true)
    (hkey : slotKeyUse s (bitsOf data.toNat 0 9) (some destGcm) (if (saSel s x).1 then 9 else 8) = some key) :
    saCfgWrite s src x data = refreshHalt (saPut s x { saGet s x with en := true, slot := bitsOf data.toNat 0 9, key := key }) x := by
  refine (if_neg (by rw [hen]; exact Bool.false_ne_true)).trans ((if_neg (by rw [hbit]; exact Bool.false_ne_true)).trans ?_)
  simp only [hkey]

theorem saCfgWrite_disable (hen : (saGet s x).en = true) (hbit : bit data.toNat 31 = false) (hslot : bitsOf data.toNat 0 9 = (saGet s x).slot) :
    saCfgWrite s src x data = saPut s x { saGet s x with en := false, key := [] } := by
  refine (if_pos hen).trans ?_
  rw [hslot, bne_self_eq_false, if_neg Bool.false_ne_true, hbit, if_neg Bool.false_ne_true]

/-! ### The SCI of a channel, committed whole (R62, R521) -/

theorem rxSci_addr : ∀ x : EthPort, wideOf (A.EM_RX_SCI x + 4) = some (A.EM_RX_SCI x, 2) ∧
    (specOf (A.EM_RX_SCI x + 4)).map RegSpec.fields = some [⟨0, 32, .rw, 32⟩] ∧
    emPage x * 0x1000 + 0x05C = A.EM_RX_SCI x + 4 ∧ A.EM_RX_SCI x % 0x1000 = 0x058 ∧ (A.EM_RX_SCI x + 4) % 0x1000 = 0x05C := by
  decide +kernel

/-- What a word of the SCI does to the channel that the window names. -/
def sciWord (x : Nat) (s : State) (a : Nat) (d : Word) : State :=
  let sc := s.fld (F.EM_SA_SEL_SC x)
  let old := Tbl.get (fun _ => 0) (s.port x).sci sc
  let v := if a % 0x1000 = 0x058 then old / 2 ^ 32 * 2 ^ 32 + d.toNat else old % 2 ^ 32 + d.toNat * 2 ^ 32
  s.setPort x { s.port x with sci := Tbl.put (fun _ => 0) (s.port x).sci sc v }

/-- The SCI of the channel that the window names. -/
def sciOf (s : State) (x : Nat) : Nat := Tbl.get (fun _ => 0) (s.port x).sci (s.fld (F.EM_SA_SEL_SC x))

theorem sciWord_regs (v : State) (a : Nat) (d : Word) : (sciWord x v a d).regs = v.regs := rfl

theorem sciOf_sciWord (v : State) (a : Nat) (d : Word) : sciOf (sciWord x v a d) x =
    if a % 0x1000 = 0x058 then sciOf v x / 2 ^ 32 * 2 ^ 32 + d.toNat else sciOf v x % 2 ^ 32 + d.toNat * 2 ^ 32 := by
  rw [sciOf, State.fld_congr (State.reg_congr (sciWord_regs v a d) _)]
  exact (congrArg (fun p : Port => Tbl.get (fun _ => 0) p.sci (v.fld (F.EM_SA_SEL_SC x))) (State.port_setPort_self v x _)).trans (Tbl.get_put_self _ _ _ _)

theorem saWrite_sci (hl : s.flag (F.EM_LOCK_LOCK1 x) = false) (hen : (saGet s x).en = false)
    (hheld : heldBy s src = { base := A.EM_RX_SCI x, words := [(A.EM_RX_SCI x, data)] }) (hi : Word) :
    saWrite s src x 0x05C hi = sciWord x (sciWord x (setHold s src (noHold 0)) (A.EM_RX_SCI x) data) (A.EM_RX_SCI x + 4) hi := by
  obtain ⟨hwide, hspec, haddr, -, -⟩ := rxSci_addr x
  have hopen : wordLocked s (A.EM_RX_SCI x + 4) = false := by
    rw [wordLocked]
    cases hr : specOf (A.EM_RX_SCI x + 4) with
    | none => rfl
    | some r =>
      rw [hr] at hspec
      rw [Option.any_some, Option.some.inj hspec]
      rfl
  refine (if_neg (by rw [hl]; exact Bool.false_ne_true)).trans ((if_neg (by decide)).trans
    ((if_neg (by rw [hen]; exact Bool.false_ne_true)).trans ((if_neg (by decide)).trans ?_)))
  rw [haddr, wideWrite, hwide]
  simp only [hopen, Bool.false_eq_true, if_false, if_true]
  change sciWord x (List.foldl (fun v w => sciWord x v w.1 w.2) (setHold s src (noHold 0))
    (if (heldBy s src).base = A.EM_RX_SCI x then (heldBy s src).words else [])) (A.EM_RX_SCI x + 4) hi = _
  rw [hheld, if_pos rfl]
  rfl

theorem saWrite_sci_spec (hl : s.flag (F.EM_LOCK_LOCK1 x) = false) (hen : (saGet s x).en = false)
    (hheld : heldBy s src = { base := A.EM_RX_SCI x, words := [(A.EM_RX_SCI x, data)] }) (hi : Word) :
    Tbl.get (fun _ => 0) ((saWrite s src x 0x05C hi).port x).sci (s.fld (F.EM_SA_SEL_SC x)) = data.toNat + 2 ^ 32 * hi.toNat ∧
    OnlyRegs s (saWrite s src x 0x05C hi) [] := by
  obtain ⟨-, -, -, hlow, hhigh⟩ := rxSci_addr x
  rw [saWrite_sci hl hen hheld hi]
  refine ⟨?_, fun r _ => rfl⟩
  have hfirst := (sciOf_sciWord (x := x) (setHold s src (noHold 0)) (A.EM_RX_SCI x) data).trans (if_pos hlow)
  have hself := (sciOf_sciWord (x := x) (sciWord x (setHold s src (noHold 0)) (A.EM_RX_SCI x) data) (A.EM_RX_SCI x + 4) hi).trans
    (if_neg (by rw [hhigh]; decide))
  rw [hfirst] at hself
  refine Eq.trans ?_ (hself.trans ?_)
  · rfl
  · have := data.isLt
    omega

end

/-! ### The writes of the window together -/

theorem saWindow_spec (s : State) (src : Requester) (x : EthPort) (data : Word) (a : Assoc) (usage : Nat) (hs : s.inOperation = true)
    (hl : s.flag (F.EM_LOCK_LOCK1 x) = false) (ha : a = saGet s x) (husage : usage = (if (saSel s x).1 then 9 else 8)) :
    (a.en = false → bit data.toNat 31 = false → ∃ t, exec (.saCfgWrite src x 0 data) s = .next t ∧
      saGet t x = { a with slot := data.toNat % 512 } ∧ OnlyRegs s t [] ∧ t = { s with ports := t.ports }) ∧
    (a.en = false → bit data.toNat 31 = true → ∀ key, slotKeyUse s (data.toNat % 512) (some destGcm) usage = some key →
      ∃ t, exec (.saCfgWrite src x 0 data) s = .next t ∧ saGet t x = { a with en := true, slot := data.toNat % 512, key := key } ∧
        OnlyRegs s t [A.EM_STATUS x] ∧ t = { s with regs := t.regs, ports := t.ports }) ∧
    (a.en = true → bit data.toNat 31 = false → data.toNat % 512 = a.slot → ∃ t, exec (.saCfgWrite src x 0 data) s = .next t ∧
      saGet t x = { a with en := false, key := [] } ∧ OnlyRegs s t [] ∧ t = { s with ports := t.ports }) ∧
    (a.en = false → ∃ t, exec (.saCfgWrite src x 1 data) s = .next t ∧ saGet t x = { a with pn := data.toNat, next := data.toNat } ∧
      OnlyRegs s t [] ∧ t = { s with ports := t.ports }) ∧
    (a.en = false → Tbl.get noHold s.bus.hold src.code = { base := A.EM_RX_SCI x, words := [(A.EM_RX_SCI x, data)] } →
      ∀ hi : Word, ∃ t, exec (.saCfgWrite src x 3 hi) s = .next t ∧
        Tbl.get (fun _ => 0) (t.port x).sci (s.fld (F.EM_SA_SEL_SC x)) = data.toNat + 2 ^ 32 * hi.toNat ∧ OnlyRegs s t []) ∧
    (a.en = true → ∀ w : Fin 4, w.val ≠ 0 → ∃ t, exec (.saCfgWrite src x w data) s = .next t ∧ causeSet t (0x24 + x) 31 = true ∧
      errCaptured s t (0x24 + x) 0x81 src.code (A.EM_SA_CFG x + 4 * w.val) ∧ t.ports = s.ports) := by
  subst ha husage
  have hslot : bitsOf data.toNat 0 9 = data.toNat % 512 := by
    rw [bitsOf, pow_zero, Nat.div_one]
    rfl
  have hruns : ∀ w : State, saCfgWrite s src x data = w → exec (.saCfgWrite src x 0 data) s = .next w := fun w hw =>
    (saCfgWrite_runs hs 0).trans (congrArg Host.Outcome.next ((saWrite_config hl).trans hw))
  refine ⟨fun hen hbit => ?_, fun hen hbit key hkey => ?_, fun hen hbit hs' => ?_, fun hen => ?_, fun hen hheld hi => ?_, fun hen w hw => ?_⟩
  · exact ⟨_, hruns _ (saCfgWrite_slot hen hbit), by rw [saGet_saPut, hslot], saPut_onlyRegs _, saPut_frame _⟩
  · rw [← hslot] at hkey
    obtain ⟨hregs, hframe, hget⟩ := refreshHalt_spec (x := x) (saPut s x { saGet s x with en := true, slot := bitsOf data.toNat 0 9, key := key })
    refine ⟨_, hruns _ (saCfgWrite_enable hen hbit hkey), by rw [hget, saGet_saPut, hslot], fun r hr => (hregs r hr).trans (saPut_onlyRegs _ r (by simp)), ?_⟩
    rw [hframe, saPut_frame]
  · exact ⟨_, hruns _ (saCfgWrite_disable hen hbit (hslot.trans hs')), saGet_saPut _, saPut_onlyRegs _, saPut_frame _⟩
  · exact ⟨_, (saCfgWrite_runs hs 1).trans (congrArg Host.Outcome.next (saWrite_number hl hen)), saGet_saPut _, saPut_onlyRegs _, saPut_frame _⟩
  · exact ⟨_, saCfgWrite_runs hs 3, saWrite_sci_spec hl hen hheld hi⟩
  · exact ⟨_, (saCfgWrite_runs hs w).trans (congrArg Host.Outcome.next (saWrite_enabled hl hen hw)), causeSet_recordErr _ _ _ _ _,
      errCaptured_recordErr s (0x24 + x) _ (by decide) (requester_code_lt src), by rw [recordErr_frame]⟩

end Sys2Proof.Machine
end

section
/-!
PROOFS. Tunnels, time stamps of transmitted frames and the verification of received ones (15_ethernet_ports.md, Tunnels, PTP time stamps;
17_keys_and_crypto.md, Protecting mesh frames), and what settles the ports' frames.
-/
namespace Sys2Proof.Machine

-- One proof after another: side by side, the threads of so long a text want more memory than the check grants.
set_option Elab.async false

section
variable {s t u : State} {x : EthPort} {q out : Nat} {i : Item} {rest : List Item}

/-! ### Encapsulation (R22, R523, R524) -/

theorem tunnelEncap_runs (hs : s.engaged = true) (he : engineOut s (8 + s.fld (F.EM_TUN_QS_TX_Q x) % 4) = false) :
    exec (.tunnelEncap x) s = .next (tunnelEncap s x) := congrArg Host.Outcome.next (if_pos (by rw [hs, he]; rfl))

theorem tunnelDecap_runs (hs : s.engaged = true) (he : engineOut s (8 + s.fld (F.EM_TUN_QS_RX_Q x) % 4) = false) :
    exec (.tunnelDecap x) s = .next (tunnelDecap s x) := congrArg Host.Outcome.next (if_pos (by rw [hs, he]; rfl))

/-- The item at the head of TX_Q stands ready for the tunnel of port `x`. -/
structure EncapReady (s : State) (x : Nat) (i : Item) : Prop where
  on : s.flag (F.EM_TUN_CFG_EN x) = true
  source : (s.queue (s.fld (F.EM_TUN_QS_TX_Q x))).dest = 4
  target : (s.queue (s.fld (F.EM_TUN_OUTQ_OUT_Q x))).dest = 2 ∨ (s.queue (s.fld (F.EM_TUN_OUTQ_OUT_Q x))).dest = 3
  fresh : (s.port x).tunDone = false
  head : ∃ rest, (s.queue (s.fld (F.EM_TUN_QS_TX_Q x))).items = i :: rest
  item : i.isBreak = false ∧ i.committed = true
  opened : (s.queue (s.fld (F.EM_TUN_QS_TX_Q x))).state = 1

/-- What the key and the requests that wait make of an item that stands ready. -/
theorem EncapReady.tunnelEncap_eq (h : EncapReady s x i) : tunnelEncap s x =
    if !gcmFree s then gcmHeld s
    else
      match slotKeyUse s (s.fld (F.EM_TUN_CFG_KEY_SLOT x)) (some destGcm) 8 with
      | none => denied s
      | some key =>
        let q := s.fld (F.EM_TUN_QS_TX_Q x)
        let aad := leBytes 4 (s.fld (F.EM_TUN_QS_ID x)) ++ leBytes 8 (s.nv.bootCount * 2 ^ 32 + (s.port x).tunNext) ++ leBytes 2 q ++ leBytes 2 i.bytes.length
        let payload := aad ++ Config.gcmSeal key (aad.take 12) aad i.bytes
        let u := gcmRequest (delivered s q) true
        let v := (enqueue u (s.fld (F.EM_TUN_OUTQ_OUT_Q x)) { Item.blank with
          bytes := fillHeader (tunHeader s x) (s.fld (F.EM_TUN_CFG_UDP_PORT x)) payload.length ++ payload,
          ts := stampNow u, src := 0x30 + (8 + q % 4), appendFcs := true } true).2
        if (s.port x).tunNext + 1 < 2 ^ 32 then v.setPort x { v.port x with tunNext := (s.port x).tunNext + 1 }
        else (v.setPort x { v.port x with tunDone := true }).event (emPage x) 0 0x0F03 3 (leBytes 2 (s.fld (F.EM_TUN_QS_ID x))) := by
  obtain ⟨hon, hsource, htarget, hfresh, ⟨rest, hitems⟩, ⟨hbreak, hcommitted⟩, hopen⟩ := h
  unfold tunnelEncap
  simp only [hon, hsource, hfresh, hitems, hbreak, hcommitted, hopen]
  rcases htarget with ht | ht <;> simp [ht] <;> rfl

end

theorem tunnelEncap_spec (s : State) (x : EthPort) (q out : Nat) (i : Item) (rest : List Item) (hs : s.engaged = true)
    (he : engineOut s (8 + q % 4) = false) (hon : s.flag (F.EM_TUN_CFG_EN x) = true) (hq : q = s.fld (F.EM_TUN_QS_TX_Q x))
    (hout : out = s.fld (F.EM_TUN_OUTQ_OUT_Q x)) (hsource : (s.queue q).dest = 4) (htarget : (s.queue out).dest = 2 ∨ (s.queue out).dest = 3)
    (hfresh : (s.port x).tunDone = false) (hitems : (s.queue q).items = i :: rest) (hbreak : i.isBreak = false) (hcommitted : i.committed = true)
    (hopen : (s.queue q).state = 1) :
    (gcmFree s = false → exec (.tunnelEncap x) s = .next (gcmHeld s)) ∧
    (gcmFree s = true → slotKeyUse s (s.fld (F.EM_TUN_CFG_KEY_SLOT x)) (some destGcm) 8 = none → exec (.tunnelEncap x) s = .next (denied s)) ∧
    ∀ key aad : List Byte, gcmFree s = true →
    slotKeyUse s (s.fld (F.EM_TUN_CFG_KEY_SLOT x)) (some destGcm) 8 = some key → (s.port x).tunNext + 1 < 2 ^ 32 →
    aad = leBytes 4 (s.fld (F.EM_TUN_QS_ID x)) ++ leBytes 8 (s.nv.bootCount * 2 ^ 32 + (s.port x).tunNext) ++ leBytes 2 q ++ leBytes 2 i.bytes.length →
    ∃ t v, exec (.tunnelEncap x) s = .next t ∧ t = v.setPort x { v.port x with tunNext := (s.port x).tunNext + 1 } ∧
      v = (enqueue (gcmRequest (delivered s q) true) out { Item.blank with
        bytes := fillHeader (tunHeader s x) (s.fld (F.EM_TUN_CFG_UDP_PORT x)) (aad ++ Config.gcmSeal key (aad.take 12) aad i.bytes).length ++
          (aad ++ Config.gcmSeal key (aad.take 12) aad i.bytes),
        ts := stampNow (gcmRequest (delivered s q) true), src := 0x30 + (8 + q % 4), appendFcs := true } true).2 := by
  subst hq hout
  have hruns := tunnelEncap_runs hs he
  rw [EncapReady.tunnelEncap_eq ⟨hon, hsource, htarget, hfresh, ⟨rest, hitems⟩, ⟨hbreak, hcommitted⟩, hopen⟩] at hruns
  refine ⟨fun hg => ?_, fun hg hkey => ?_, fun key aad hg hkey hnext haad => ?_⟩
  · rw [hruns, hg]
    rfl
  · rw [hruns, hg, hkey]
    rfl
  · subst haad
    refine ⟨_, _, hruns.trans (congrArg Host.Outcome.next ?_), rfl, rfl⟩
    simp only [hg, hkey, Bool.not_true, Bool.false_eq_true, if_false, if_pos hnext]

section
variable {s t u v : State} {x : EthPort} {rq : Nat} {i : Item} {rest : List Item}

/-! ### Decapsulation (R524) -/

/-- What the checks make of the frame taken off RX_Q. -/
def decapEnd (u : State) (x rq : Nat) (i : Item) : State :=
  let r := tunnelOpen u x (i.bytes.drop 42)
  let keyed := (slotKeyUse u (u.fld (F.EM_TUN_CFG_KEY_SLOT x)) (some destGcm) 9).isSome
  let v := if tunnelMine u x (i.bytes.drop 42) && !keyed then denied u else u
  let w := match r.1 with
    | some ok => gcmRequest v ok
    | none => v
  match r.2 with
  | none => w.count (F.EM_TUN_DROPS_COUNT x) 1
  | some (q, plain, seq) =>
    let z := w.setPort x { w.port x with tunLast := seq }
    (enqueue z q { Item.blank with bytes := plain, ts := stampNow z, src := 0x30 + (8 + rq % 4) } true).2

theorem tunnelDecap_eq (hon : s.flag (F.EM_TUN_CFG_EN x) = true) (hq : rq = s.fld (F.EM_TUN_QS_RX_Q x)) (hsource : (s.queue rq).dest = 4)
    (hitems : (s.queue rq).items = i :: rest) (hbreak : i.isBreak = false) (hcommitted : i.committed = true) (hopen : (s.queue rq).state = 1)
    (hg : gcmFree s = true) : tunnelDecap s x = decapEnd (delivered s rq) x rq i := by
  subst hq
  unfold tunnelDecap
  simp only [hon, hsource, hitems, hbreak, hcommitted, hopen, hg, Bool.not_true, Bool.false_or, bne_self_eq_false, Bool.false_eq_true, if_false]
  rfl

theorem denied_drops (u : State) : (denied u).fld (F.EM_TUN_DROPS_COUNT x) = u.fld (F.EM_TUN_DROPS_COUNT x) ∧ (denied u).fab = u.fab := by
  have ht : Touches [.regs, .host, .out] [0x28] u (denied u) := touches_denied u
  exact ⟨ht.fld (by simp only [A.EM_TUN_DROPS, List.mem_singleton]; omega), ht.part .fab (by decide)⟩

theorem decapEnd_dropped {g : Option Bool} (h : tunnelOpen u x (i.bytes.drop 42) = (g, none)) :
    (decapEnd u x rq i).fld (F.EM_TUN_DROPS_COUNT x) = satAdd 32 (u.fld (F.EM_TUN_DROPS_COUNT x)) 1 ∧ (decapEnd u x rq i).fab = u.fab := by
  unfold decapEnd
  simp only [h]
  generalize hv : (if tunnelMine u x (i.bytes.drop 42) && !(slotKeyUse u (u.fld (F.EM_TUN_CFG_KEY_SLOT x)) (some destGcm) 9).isSome then denied u else u) = v
  have hkept : v.fld (F.EM_TUN_DROPS_COUNT x) = u.fld (F.EM_TUN_DROPS_COUNT x) ∧ v.fab = u.fab := by
    rw [← hv]
    split
    · exact denied_drops u
    · exact ⟨rfl, rfl⟩
  have hcount : ∀ w : State, w.regs = v.regs → w.fab = v.fab → (w.count (F.EM_TUN_DROPS_COUNT x) 1).fld (F.EM_TUN_DROPS_COUNT x) =
      satAdd 32 (u.fld (F.EM_TUN_DROPS_COUNT x)) 1 ∧ (w.count (F.EM_TUN_DROPS_COUNT x) 1).fab = u.fab := fun w hw hf =>
    ⟨by rw [State.fld_count_self w _ 1 (by simp), State.fld_congr (State.reg_congr hw _), hkept.1], by rw [State.count_fab, hf, hkept.2]⟩
  cases g with
  | none => exact hcount v rfl rfl
  | some ok => exact hcount (gcmRequest v ok) rfl rfl

/-- A frame that passes every check is meant for this port, and its key serves. -/
theorem tunnelOpen_passed {payload plain : List Byte} {q seq : Nat} (h : tunnelOpen u x payload = (some true, some (q, plain, seq))) :
    (slotKeyUse u (u.fld (F.EM_TUN_CFG_KEY_SLOT x)) (some destGcm) 9).isSome = true := by
  unfold tunnelOpen at h
  simp only at h
  split at h
  · exact absurd h (by simp)
  · split at h
    · exact absurd h (by simp)
    · next key hkey => rw [hkey]; rfl

theorem decapEnd_passed {plain : List Byte} {q seq : Nat} (h : tunnelOpen u x (i.bytes.drop 42) = (some true, some (q, plain, seq)))
    (hv : v = (gcmRequest u true).setPort x { (gcmRequest u true).port x with tunLast := seq }) :
    decapEnd u x rq i = (enqueue v q { Item.blank with bytes := plain, ts := stampNow v, src := 0x30 + (8 + rq % 4) } true).2 := by
  unfold decapEnd
  simp only [h, tunnelOpen_passed h, Bool.not_true, Bool.and_false, Bool.false_eq_true, if_false, hv]

end

theorem tunnelDecap_spec (s : State) (x : EthPort) (rq : Nat) (i : Item) (rest : List Item) (hs : s.engaged = true)
    (he : engineOut s (8 + rq % 4) = false) (hon : s.flag (F.EM_TUN_CFG_EN x) = true)
    (hq : rq = s.fld (F.EM_TUN_QS_RX_Q x)) (hsource : (s.queue rq).dest = 4) (hitems : (s.queue rq).items = i :: rest) (hbreak : i.isBreak = false)
    (hcommitted : i.committed = true) (hopen : (s.queue rq).state = 1) (hg : gcmFree s = true) :
    (∀ v, tunnelOpen (delivered s rq) x (i.bytes.drop 42) = (v, none) → ∃ t, exec (.tunnelDecap x) s = .next t ∧
      t.fld (F.EM_TUN_DROPS_COUNT x) = satAdd 32 (s.fld (F.EM_TUN_DROPS_COUNT x)) 1 ∧ t.fab = (delivered s rq).fab) ∧
    (∀ u q plain seq, tunnelOpen (delivered s rq) x (i.bytes.drop 42) = (some true, some (q, plain, seq)) →
      u = (gcmRequest (delivered s rq) true).setPort x { (gcmRequest (delivered s rq) true).port x with tunLast := seq } →
      ∃ t, exec (.tunnelDecap x) s = .next t ∧
        t = (enqueue u q { Item.blank with bytes := plain, ts := stampNow u, src := 0x30 + (8 + rq % 4) } true).2) := by
  have hruns := (tunnelDecap_runs hs (by rw [← hq]; exact he)).trans
    (congrArg Host.Outcome.next (tunnelDecap_eq hon hq hsource hitems hbreak hcommitted hopen hg))
  refine ⟨fun v h => ?_, fun u q plain seq h hu => ⟨_, hruns, decapEnd_passed h hu⟩⟩
  obtain ⟨hdrops, hfab⟩ := decapEnd_dropped (rq := rq) h
  have hkept : (delivered s rq).fld (F.EM_TUN_DROPS_COUNT x) = s.fld (F.EM_TUN_DROPS_COUNT x) :=
    (moves_delivered (wake := false) rq).portsKept.fld x.isLt (by simp only [A.EM_TUN_DROPS]; omega)
      (by simp [A.EM_TUN_DROPS, A.EM_STATUS]) (by simp [A.EM_TUN_DROPS, A.EM_TX_PAUSE])
  exact ⟨_, hruns, by rw [hdrops, hkept], hfab⟩

section
variable {s t u : State} {x : EthPort} {src : Requester}

/-! ### Time stamps of transmitted frames (R63, R65, R519) -/

theorem txts_addr : ∀ x : EthPort, implemented (A.EM_TXTS x) = true := by decide +kernel

theorem txtsPop_runs (hs : s.inOperation = true) : exec (.txtsPop src x) s = .next (txtsPop s src x) :=
  congrArg Host.Outcome.next (gateRead_inOperation hs (txts_addr x) src _)

/-- The words of the record at the head. -/
def stampWords (e : TxStamp) : List Word :=
  [BitVec.ofNat 32 (2 ^ 31 + e.msgType * 2 ^ 20 + e.seqId), BitVec.ofNat 32 (fieldAt e.ts 0 4), BitVec.ofNat 32 (fieldAt e.ts 4 4),
    BitVec.ofNat 32 (fieldAt e.ts 8 4), BitVec.ofNat 32 e.qseq]

/-- The further words of a popped record, kept in its registers. -/
def keepWords (s : State) (x : Nat) (ws : List Word) : State := ws.zipIdx.foldl (fun s e => s.setReg (A.EM_TXTS1 x + 4 * e.2) e.1) s

theorem keepWords_four (v : State) (a b c d : Word) : OnlyRegs v (keepWords v x [a, b, c, d]) [A.EM_TXTS1 x, A.EM_TXTS2 x, A.EM_TXTS3 x, A.EM_TXTS4 x] ∧
    keepWords v x [a, b, c, d] = { v with regs := (keepWords v x [a, b, c, d]).regs } := by
  have haddr : A.EM_TXTS1 x + 4 * 0 = A.EM_TXTS1 x ∧ A.EM_TXTS1 x + 4 * 1 = A.EM_TXTS2 x ∧ A.EM_TXTS1 x + 4 * 2 = A.EM_TXTS3 x ∧
      A.EM_TXTS1 x + 4 * 3 = A.EM_TXTS4 x := by
    simp only [A.EM_TXTS1, A.EM_TXTS2, A.EM_TXTS3, A.EM_TXTS4]
    omega
  obtain ⟨h0, h1, h2, h3⟩ := haddr
  have hform : keepWords v x [a, b, c, d] =
      (((v.setReg (A.EM_TXTS1 x) a).setReg (A.EM_TXTS2 x) b).setReg (A.EM_TXTS3 x) c).setReg (A.EM_TXTS4 x) d := by
    rw [← h1, ← h2, ← h3]
    exact congrArg (fun r => (((v.setReg r a).setReg _ b).setReg _ c).setReg _ d) h0
  rw [hform]
  exact ⟨((((onlyRegs_setReg v (A.EM_TXTS1 x) a).trans (onlyRegs_setReg _ (A.EM_TXTS2 x) b)).trans (onlyRegs_setReg _ (A.EM_TXTS3 x) c)).trans
    (onlyRegs_setReg _ (A.EM_TXTS4 x) d)), rfl⟩

theorem txtsPop_taken {e : TxStamp} {rest : List TxStamp} (hsrc : src ≠ .jtag) (h : (s.port x).txts = e :: rest) :
    txtsPop s src x = keepWords (((readWide s src (A.EM_TXTS x) (stampWords e)).setPort x { s.port x with txts := rest }).setReg (A.EM_TXTS x)
      (((stampWords e).headD 0#32) &&& 0x7FFFFFFF#32)) x [BitVec.ofNat 32 (fieldAt e.ts 0 4), BitVec.ofNat 32 (fieldAt e.ts 4 4),
        BitVec.ofNat 32 (fieldAt e.ts 8 4), BitVec.ofNat 32 e.qseq] := by
  have hport : ∀ ws, (readWide s src (A.EM_TXTS x) ws).port x = s.port x := fun ws => rfl
  have hwords : txtsWords s x = stampWords e := by
    unfold txtsWords
    rw [h]
    rfl
  unfold txtsPop
  simp only [hwords, hport, h, List.isEmpty_cons, decide_eq_false hsrc, Bool.or_self, Bool.false_eq_true, if_false, List.drop_succ_cons, List.drop_zero]
  rfl

/-- A record at the head is read, and taken off the list of its port. -/
theorem txtsPop_effect {e : TxStamp} {rest : List TxStamp} (hsrc : src ≠ .jtag) (h : (s.port x).txts = e :: rest) :
    (txtsPop s src x).port x = { s.port x with txts := rest } ∧ (txtsPop s src x).out = (readWide s src (A.EM_TXTS x) (stampWords e)).out ∧
    (∀ j, shadowWord (txtsPop s src x) src j = shadowWord (readWide s src (A.EM_TXTS x) (stampWords e)) src j) ∧
    OnlyRegs s (txtsPop s src x) [A.EM_TXTS x, A.EM_TXTS1 x, A.EM_TXTS2 x, A.EM_TXTS3 x, A.EM_TXTS4 x] := by
  have hread : (readWide s src (A.EM_TXTS x) (stampWords e)).regs = s.regs := rfl
  rw [txtsPop_taken hsrc h]
  generalize readWide s src (A.EM_TXTS x) (stampWords e) = r at hread
  generalize ((stampWords e).headD 0#32) &&& 0x7FFFFFFF#32 = w
  generalize { s.port x with txts := rest } = p
  obtain ⟨hregs, hframe⟩ := keepWords_four (x := x) ((r.setPort x p).setReg (A.EM_TXTS x) w)
    (BitVec.ofNat 32 (fieldAt e.ts 0 4)) (BitVec.ofNat 32 (fieldAt e.ts 4 4)) (BitVec.ofNat 32 (fieldAt e.ts 8 4)) (BitVec.ofNat 32 e.qseq)
  generalize keepWords ((r.setPort x p).setReg (A.EM_TXTS x) w) x _ = v at hregs hframe
  have hv : OnlyRegs s ((r.setPort x p).setReg (A.EM_TXTS x) w) [A.EM_TXTS x] := fun a ha =>
    (onlyRegs_setReg _ (A.EM_TXTS x) w a ha).trans ((State.reg_congr (State.setPort_regs _ _ _) a).trans (State.reg_congr hread a))
  have hports : v.ports = (r.setPort x p).ports := by
    rw [hframe]
    exact State.setReg_ports (r.setPort x p) (A.EM_TXTS x) w
  have hbus : v.bus = r.bus := by
    rw [hframe]
    exact (State.setReg_bus (r.setPort x p) (A.EM_TXTS x) w).trans (State.setPort_bus r x p)
  have hout : v.out = r.out := by
    rw [hframe]
    exact (State.setReg_out (r.setPort x p) (A.EM_TXTS x) w).trans (State.setPort_out r x p)
  refine ⟨?_, hout, fun j => by rw [shadowWord, hbus, shadowWord], (hv.trans hregs).mono (by simp)⟩
  rw [State.port, hports, ← State.port, State.port_setPort_self]

theorem txtsPop_spec (hs : s.inOperation = true) (hsrc : src ≠ .jtag) :
    (∀ e rest, (s.port x).txts = e :: rest → ∃ t, exec (.txtsPop src x) s = .next t ∧ t.port x = { s.port x with txts := rest } ∧
      t.out = s.out ++ [.readData src (A.EM_TXTS x) (BitVec.ofNat 32 (2 ^ 31 + e.msgType * 2 ^ 20 + e.seqId))] ∧
      shadowWord t src 1 = BitVec.ofNat 32 (fieldAt e.ts 0 4) ∧ shadowWord t src 4 = BitVec.ofNat 32 e.qseq ∧
      OnlyRegs s t [A.EM_TXTS x, A.EM_TXTS1 x, A.EM_TXTS2 x, A.EM_TXTS3 x, A.EM_TXTS4 x]) ∧
    ((s.port x).txts = [] → ∃ t, exec (.txtsPop src x) s = .next t ∧ t.ports = s.ports ∧ OnlyRegs s t [] ∧
      t.out = s.out ++ [.readData src (A.EM_TXTS x) (s.reg (A.EM_TXTS x))]) := by
  refine ⟨fun e rest h => ?_, fun h => ?_⟩
  · obtain ⟨hout, hshadow, -⟩ := readWide_spec s src (A.EM_TXTS x) (stampWords e)
    obtain ⟨hport, hsame, hlatched, hregs⟩ := txtsPop_effect hsrc h
    exact ⟨_, txtsPop_runs hs, hport, hsame.trans hout, (hlatched 1).trans (hshadow 1 (by decide)), (hlatched 4).trans (hshadow 4 (by decide)), hregs⟩
  · obtain ⟨hout, -, hframe⟩ := readWide_spec s src (A.EM_TXTS x) (txtsWords s x)
    have hform : txtsPop s src x = readWide s src (A.EM_TXTS x) (txtsWords s x) := by
      have hempty : (s.port x).txts.isEmpty = true := by rw [h]; rfl
      have hport : (readWide s src (A.EM_TXTS x) (txtsWords s x)).port x = s.port x := rfl
      unfold txtsPop
      simp only [hport, hempty, Bool.or_true, if_true]
    rw [← hform] at hout hframe
    refine ⟨_, txtsPop_runs hs, by rw [hframe], fun r _ => by rw [hframe]; rfl, hout.trans ?_⟩
    unfold txtsWords
    rw [h]
    rfl

end

section
variable {s t u : State} {n : Lane} {f : RxFrame}

/-! ### The verification of received frames (R321, R366, R570) -/

theorem touches_ccmResult (s : State) (c : Checked) : Touches [.regs, .host, .out] [0x28, 0x29] s (ccmResult s c) := by
  have hcount : ∀ (v : State) (f : Fld), f.addr / 0x1000 = 0x29 → Touches [.regs, .host, .out] [0x28, 0x29] v (v.count f 1) := fun v f hf =>
    (touches_count_of f 1 (gs := [0x28, 0x29]) (by rw [hf]; decide)).mono (by decide) (by decide)
  have hdenied : ∀ v : State, Touches [.regs, .host, .out] [0x28, 0x29] v (denied v) := fun v =>
    (touches_denied v).mono (by decide) (by decide)
  unfold ccmResult
  cases c with
  | fail => exact (hcount s F.CRY_CCM_OPS_COUNT (by decide)).trans (hcount _ F.CRY_CCM_FAIL_COUNT (by decide))
  | keyDenied => exact (hcount s F.CRY_CCM_OPS_COUNT (by decide)).trans (hdenied _)
  | waiting => exact hcount s F.CRY_CCM_OPS_COUNT (by decide)
  | current => exact hcount s F.CRY_CCM_OPS_COUNT (by decide)
  | pending => exact hcount s F.CRY_CCM_OPS_COUNT (by decide)

/-- The frame taken up, with what its verification gave. -/
def verified (s : State) (f : RxFrame) : RxFrame :=
  { f with check := (verify s f.bytes).1.1, body := (verify s f.bytes).1.2,
           epoch := if (verify s f.bytes).1.1 == .pending then pendEpoch s (fParcel f.bytes) else sessEpoch s (fParcel f.bytes) }

theorem ccmRequest_spec (hs : s.engaged = true) (hf : (s.lane n).rx.find? (fun y => y.check == .waiting) = some f) :
    (f.bytes.length < 10 → ∃ t, exec (.ccmRequest n) s = .next t ∧ (t.lane n).rx = (s.lane n).rx.erase f ∧ OnlyRegs s t [] ∧ SameMemory s t) ∧
    (10 ≤ f.bytes.length → fVersion f.bytes ≠ 0 → ∃ t, exec (.ccmRequest n) s = .next t ∧ (t.lane n).rx = (s.lane n).rx.erase f ∧
      t.fld F.MAC_OUT_OF_WINDOW_COUNT = satAdd 32 (s.fld F.MAC_OUT_OF_WINDOW_COUNT) 1 ∧ SameMemory s t) ∧
    (10 ≤ f.bytes.length → fVersion f.bytes = 0 → fType f.bytes ≠ 0 → ∃ t g, exec (.ccmRequest n) s = .next t ∧
      (t.lane n).rx = (s.lane n).rx.map (fun y => if y == f then g else y) ∧ g.check = (verify s f.bytes).1.1 ∧
      g.body = (verify s f.bytes).1.2 ∧ g.bytes = f.bytes ∧ SameMemory s t) := by
  have hruns : exec (.ccmRequest n) s = .next (ccmRequest s n) := congrArg Host.Outcome.next (if_pos hs)
  have hrx : ∀ (v : State) (l : LaneSt), (v.setLane n l).lane n = l := fun v l => State.lane_setLane_self n l
  unfold ccmRequest at hruns
  simp only [hf] at hruns
  refine ⟨fun hshort => ?_, fun hlong hver => ?_, fun hlong hver htype => ?_⟩
  · rw [if_pos hshort] at hruns
    exact ⟨_, hruns, by rw [hrx], fun _ _ => rfl, fun _ => rfl⟩
  · rw [if_neg (by omega), if_pos (bne_iff_ne.mpr hver)] at hruns
    refine ⟨_, hruns, ?_, State.fld_count_self _ F.MAC_OUT_OF_WINDOW_COUNT 1 (by decide), sameMemory_of_dram (State.count_dram _ _ _)⟩
    rw [State.lane, State.count_lanes, ← State.lane, hrx]
  · rw [if_neg (by omega), if_neg (by rw [hver]; decide), if_neg (by simp [htype])] at hruns
    have hkept : Touches [.regs, .host, .out] [0x28, 0x29] s (if (verify s f.bytes).2 then ccmResult s (verify s f.bytes).1.1 else s) :=
      Touches.ite (fun _ => touches_ccmResult s _) (fun _ => .refl s)
    refine ⟨_, verified s f, hruns, by rw [hrx]; rfl, rfl, rfl, rfl, sameMemory_of_dram (hkept.part .dram (by decide))⟩

end

/-- Settles O57: each clause by the lemma of its command. -/
theorem framesPassThePortsTunnelsAndKeys : Obligations.FramesPassThePortsTunnelsAndKeys := by
  unfold Obligations.FramesPassThePortsTunnelsAndKeys
  refine ⟨fun s x frame bs hs hen hup hbs => ⟨fun hover => ?_, fun hsize => ⟨fun hfcs => ?_, fun hfcs => ⟨fun hrunt => ?_, ?_, ?_⟩⟩⟩,
    fun s x q i rest bs hs hserve hitems hbreak hcommitted hfirst hup hmeta htrunc hone hown hbs => ⟨?_, ?_⟩, saWindow_spec, tunnelEncap_spec,
    tunnelDecap_spec, fun s src x hs hsrc => txtsPop_spec hs hsrc, fun s n f hs hf => ccmRequest_spec hs hf⟩
  · exact ⟨_, (ethRx_runs hs hen hup frame).trans (congrArg Host.Outcome.next (ethRx_oversize hover)), count_alone _ (by simp) rfl⟩
  · exact ⟨_, (ethRx_runs hs hen hup frame).trans (congrArg Host.Outcome.next (ethRx_badFcs hsize (hbs ▸ hfcs))), count_alone _ (by simp) rfl⟩
  · exact ⟨_, (ethRx_runs hs hen hup frame).trans (congrArg Host.Outcome.next (ethRx_runt hsize (hbs ▸ hfcs) hrunt)), count_alone _ (by simp) rfl⟩
  · exact fun hr hm hsec hq htag => ethRx_offered hs hen hup hbs hsize hfcs hr hm hsec hq htag
  · exact fun hr hm hop hhold hcfg han => ethRx_pause hs hen hup hbs hsize hfcs hr hm hop hhold hcfg han
  · exact fun hlong => ethTx_oversize hs hserve hitems hbreak hcommitted hfirst hup hmeta hown hbs hlong
  · exact fun hfit hprot => ethTx_sends hs hserve hitems hbreak hcommitted hfirst hup hmeta htrunc hone hown hbs hfit hprot

end Sys2Proof.Machine
end

section
/-!
PROOFS. An underrun read of the queue window with its interrupt enabled (13_frame_fabric_and_queues.md, Queue window registers;
03_host_interface.md, Interrupts).
-/
namespace Sys2Proof.Machine

-- One proof after another: side by side, the threads of so long a text want more memory than the check grants.
set_option Elab.async false

/-- READY with MSI-X and Bus Master Enable on, the underrun cause of FAB enabled for vector 0, no vector masked, and no popped item. -/
def underrunState : State :=
  let s := State.reset.setFld F.SYS_STATUS_DEV_STATE 2
  let s := (s.setReg 0x20014 4#32).setReg (A.HIF_VEC_MAP 8) 0#32
  { s with host := { s.host with msixEnable := true, busMaster := true, vecMask := 0 } }

/-- The messages sent by a command. -/
def sentMessages (s : State) (r : Result) : Option (List Out) :=
  match r with
  | .next t => some (t.out.drop s.out.length)
  | _ => none

theorem underrun_sends : sentMessages underrunState (exec (.qwDataRead .pcie) underrunState) =
    some [.readData .pcie A.QW_DATA underrunState.fab.popLast, .msix 0] := by
  decide +kernel

theorem underrunState_meets : underrunState.inOperation = true ∧ underrunState.fab.popBytes = [] := by decide +kernel

/-- Refutes O54: a read of QW_DATA with no popped item sets the underrun cause of FAB, and where that cause has a vector that is armed its
message goes out after the data that answers the read. -/
theorem not_queuesTakeAndDeliverItems : ¬ Obligations.QueuesTakeAndDeliverItems := by
  unfold Obligations.QueuesTakeAndDeliverItems
  rintro ⟨-, -, -, -, -, -, -, hpop⟩
  obtain ⟨hop, hempty⟩ := underrunState_meets
  obtain ⟨-, -, -, hread⟩ := hpop underrunState .pcie hop (by decide)
  obtain ⟨t, ht, hout, -⟩ := hread hempty
  have hsent := underrun_sends
  rw [ht] at hsent
  have hmessages : t.out.drop underrunState.out.length =
      [.readData .pcie A.QW_DATA underrunState.fab.popLast, .msix 0] := Option.some.inj hsent
  rw [hout, List.drop_left] at hmessages
  exact absurd (congrArg List.length hmessages) (by decide)

end Sys2Proof.Machine
end

section
/-!
PROOFS. The tuning of a lane: what its next state is, and what finding it leaves (06_radio_lanes.md, Lane states).
-/
namespace Sys2Proof.Machine

-- One proof after another: side by side, the threads of so long a text want more memory than the check grants.
set_option Elab.async false

/-! ### What tuning leaves of a lane -/

/-- A lane without what the entry into a state sets: its pins, its bank, and the mark of its LANE_CAL. -/
def LaneSt.core (l : LaneSt) : LaneSt :=
  { l with pins := FemPins.off, bankAt := 0, gaps := [], gapAt := none, heard := 0, bankOn := 0, job := none }

/-- A lane without what its tuning sets too: its work, what it waits for, and what it receives. -/
def LaneSt.untuned (l : LaneSt) : LaneSt :=
  { l.core with
    work := .none, rxWant := none, waitCal := none, back := false, gapCal := [], offDue := false, queue := [], ctxs := [], ofdm := none, subWas := 0,
    subSeen := 0, tunedAt := 0, subSince := [] }

/-- The registers in which the tuning of lane `n` shows. -/
def tuneRegs (n : Nat) : List Nat :=
  [A.LRF_STATUS n, A.LRF_SYNTH n, A.LRF_CAL_PROGRESS n, A.LBB_CTX_PREEMPT n, A.LOF_PREEMPT n, (0x14 + n) * 0x1000 + 0x010,
    (0x18 + n) * 0x1000 + 0x010]

/-- Lane `n` has been tuned: its store, its transmissions, its occurrence and the like are as before, it has no LANE_CAL that it had not and ends no
command but its own, and of its registers those alone change in which tuning shows; of STATUS the state, LOCKED and CHANNEL alone. -/
structure Tuned (n : Nat) (s t : State) : Prop where
  lane : (t.lane n).untuned = (s.lane n).untuned
  job : (s.lane n).job = none → (t.lane n).job = none
  rings : (s.lane n).job = none → t.rings = s.rings
  regs : OnlyRegs s t (tuneRegs n)
  status : ∀ f : Fld, f.addr = A.LRF_STATUS n → 4 ≤ f.lsb ∧ f.lsb + f.width ≤ 16 ∨ 24 ≤ f.lsb → t.fld f = s.fld f

section
variable {s t u : State} {n : Nat}

theorem Tuned.refl (n : Nat) (s : State) : Tuned n s s := ⟨rfl, id, fun _ => rfl, fun _ _ => rfl, fun _ _ _ => rfl⟩

theorem Tuned.trans (h : Tuned n s t) (h' : Tuned n t u) : Tuned n s u :=
  ⟨h'.lane.trans h.lane, h'.job ∘ h.job, fun hj => (h'.rings (h.job hj)).trans (h.rings hj), fun a ha => (h'.regs a ha).trans (h.regs a ha), fun f hf hb => (h'.status f hf hb).trans (h.status f hf hb)⟩

theorem Tuned.ite {c : Prop} [Decidable c] (ht : c → Tuned n s t) (hu : ¬c → Tuned n s u) : Tuned n s (if c then t else u) := by
  split
  · exact ht ‹_›
  · exact hu ‹_›

theorem lane_of_lanes (h : t.lanes = s.lanes) (n : Nat) : t.lane n = s.lane n := by rw [State.lane, h, State.lane]

theorem Tuned.of_lanes (hl : t.lanes = s.lanes) (hc : t.rings = s.rings) (hr : OnlyRegs s t (tuneRegs n))
    (hs : ∀ f : Fld, f.addr = A.LRF_STATUS n → 4 ≤ f.lsb ∧ f.lsb + f.width ≤ 16 ∨ 24 ≤ f.lsb → t.fld f = s.fld f) : Tuned n s t := by
  have hlane := lane_of_lanes hl n
  exact ⟨by rw [hlane], fun h => by rw [hlane, h], fun _ => hc, hr, hs⟩

theorem tuned_setLane (l : LaneSt) (h : l.untuned = (s.lane n).untuned := by rfl) (hj : (s.lane n).job = none → l.job = none := by exact id) :
    Tuned n s (s.setLane n l) := by
  have hlane := State.lane_setLane_self (s := s) n l
  exact ⟨by rw [hlane, h], fun hs => by rw [hlane, hj hs], fun _ => rfl, fun _ _ => rfl, fun _ _ _ => rfl⟩

/-- A field of STATUS below bit 4 or in bits 16 to 23 is written. -/
theorem tuned_setStatus {f : Fld} (v : Nat) (ha : f.addr = A.LRF_STATUS n)
    (hb : f.lsb + f.width ≤ 4 ∨ 16 ≤ f.lsb ∧ f.lsb + f.width ≤ 24) : Tuned n s (s.setFld f v) := by
  refine Tuned.of_lanes rfl rfl ((onlyRegs_setFld s f v).mono (List.cons_subset.2 ⟨by simp [ha, tuneRegs], List.nil_subset _⟩)) (fun g _ hg => ?_)
  exact State.fld_setFld_apart _ _ _ _ (by omega) (Or.inr (by omega))

/-- Registers in which tuning shows, other than STATUS, are written. -/
theorem Tuned.of_regs {as : List Nat} (hl : t.lanes = s.lanes) (hc : t.rings = s.rings) (hr : OnlyRegs s t as) (has : as ⊆ tuneRegs n) (hs : A.LRF_STATUS n ∉ as) : Tuned n s t :=
  Tuned.of_lanes hl hc (hr.mono has) (fun _ hf _ => hr.fld (hf ▸ hs))

theorem tuned_setFld {f : Fld} (v : Nat) (ha : f.addr ∈ tuneRegs n) (hs : f.addr ≠ A.LRF_STATUS n) : Tuned n s (s.setFld f v) :=
  Tuned.of_regs rfl rfl (onlyRegs_setFld s f v) (List.cons_subset.2 ⟨ha, List.nil_subset _⟩) (by simpa using hs.symm)

theorem tuned_setReg (a : Nat) (w : Word) (ha : a ∈ tuneRegs n) (hs : a ≠ A.LRF_STATUS n) : Tuned n s (s.setReg a w) :=
  Tuned.of_regs rfl rfl (onlyRegs_setReg s a w) (List.cons_subset.2 ⟨ha, List.nil_subset _⟩) (by simpa using hs.symm)

theorem tuned_setCause (page b : Nat) (ha : page * 0x1000 + 0x010 ∈ tuneRegs n) (hs : page * 0x1000 + 0x010 ≠ A.LRF_STATUS n) :
    Tuned n s (setCause s page b) :=
  Tuned.of_regs (setCause_lanes s page b) (setCause_rings s page b) (onlyRegs_setCause s page b) (List.cons_subset.2 ⟨ha, List.nil_subset _⟩) (by simpa using hs.symm)

theorem tuned_setPins : Tuned n s (setPins s n) := tuned_setLane _

theorem tuned_setWork (w : Work) : Tuned n s (setWork s n w) := tuned_setLane _

theorem tuned_atRest : Tuned n s (atRest s n) := tuned_setLane _

theorem tuned_unblankJob : Tuned n s (unblankJob s n) := tuned_setLane _ rfl (fun h => by rw [h]; rfl)

/-! ### The entry into a state -/

/-- The entry into a state, but for STATUS: the lane is the same but for its pins, its bank and the mark of its LANE_CAL, and no register changes. -/
structure Entering (n : Nat) (s t : State) : Prop where
  core : (t.lane n).core = (s.lane n).core
  job : (s.lane n).job = none → (t.lane n).job = none
  regs : t.regs = s.regs
  rings : t.rings = s.rings

theorem Entering.refl (n : Nat) (s : State) : Entering n s s := ⟨rfl, id, rfl, rfl⟩

theorem Entering.trans (h : Entering n s t) (h' : Entering n t u) : Entering n s u := 
  ⟨h'.core.trans h.core, h'.job ∘ h.job, h'.regs.trans h.regs, h'.rings.trans h.rings⟩

theorem entering_setLane (l : LaneSt) (h : l.core = (s.lane n).core := by rfl) (hj : (s.lane n).job = none → l.job = none := by exact id) :
    Entering n s (s.setLane n l) := by
  have hlane := State.lane_setLane_self (s := s) n l
  exact ⟨by rw [hlane, h], fun hs => by rw [hlane, hj hs], rfl, rfl⟩

theorem entering_unblankJob : Entering n s (unblankJob s n) := entering_setLane _ rfl (fun h => by rw [h]; rfl)

theorem entering_noteGap (since : Nat) (blank : Bool) : Entering n s (noteGap s n since blank) := entering_setLane _

theorem entering_bankEnters (st : Nat) : Entering n s (bankEnters s n st) := by
  have hhalt : Entering n s (if bankState (laneState s n) && !bankState st && s.flag (F.LBB_CTRL_RX_EN n) then bankHalts s n else s) := by
    split
    · exact entering_setLane _
    · exact Entering.refl n s
  unfold bankEnters
  simp only
  generalize (if bankState (laneState s n) && !bankState st && s.flag (F.LBB_CTRL_RX_EN n) then bankHalts s n else s) = u at hhalt ⊢
  refine hhalt.trans ?_
  split
  · exact entering_setLane _
  · split
    · exact Entering.refl n u
    · split
      · exact (entering_setLane _).trans (entering_noteGap _ _)
      · exact entering_setLane _

/-- The bank of lane `n` as it enters a state. -/
def bankEntered (s : State) (n st : Nat) : State := bankEnters (if st = 6 then s else unblankJob s n) n st

theorem entering_bankEntered (st : Nat) : Entering n s (bankEntered s n st) := by
  have hjob : Entering n s (if st = 6 then s else unblankJob s n) := by
    split
    · exact Entering.refl n s
    · exact entering_unblankJob
  exact hjob.trans (entering_bankEnters st)

theorem enterState_eq (s : State) (n st : Nat) (locked : Bool) : enterState s n st locked =
    setPins (((bankEntered s n st).setFld (F.LRF_STATUS_STATE n) st).setFld (F.LRF_STATUS_LOCKED n) (b01 locked)) n := rfl

theorem setPins_fld (f : Fld) : (setPins s n).fld f = s.fld f := rfl

theorem setPins_flag (f : Fld) : (setPins s n).flag f = s.flag f := rfl

theorem core_setPins : ((setPins s n).lane n).core = (s.lane n).core := by
  rw [setPins, State.lane_setLane_self]
  rfl

theorem job_setPins : ((setPins s n).lane n).job = (s.lane n).job := by rw [setPins, State.lane_setLane_self]

theorem core_enterState (st : Nat) (locked : Bool) : ((enterState s n st locked).lane n).core = (s.lane n).core := by
  rw [enterState_eq, core_setPins, lane_of_lanes (State.setFld_lanes _ _ _), lane_of_lanes (State.setFld_lanes _ _ _)]
  exact (entering_bankEntered st).core

theorem laneState_enterState {st : Nat} (locked : Bool) (h : st < 8) : laneState (enterState s n st locked) n = st := by
  rw [laneState, enterState_eq, setPins_fld, State.fld_setFld_apart _ _ _ _ (by simp) (Or.inr (by simp)), State.fld_setFld_self _ _ _ (by simp)]
  exact Nat.mod_eq_of_lt h

theorem laneLocked_enterState (st : Nat) (locked : Bool) : laneLocked (enterState s n st locked) n = locked := by
  rw [laneLocked, enterState_eq, setPins_flag]
  cases locked
  · exact State.flag_setFld_zero _ (by simp)
  · exact State.flag_setFld_one _ rfl (by simp)

/-- A field of STATUS that the entry into a state does not write. -/
theorem enterState_fld (st : Nat) (locked : Bool) {f : Fld} (hf : f.addr ≠ A.LRF_STATUS n ∨ 4 ≤ f.lsb) : (enterState s n st locked).fld f = s.fld f := by
  have hapart : ∀ g : Fld, g.addr = A.LRF_STATUS n → g.lsb + g.width ≤ 4 → f.addr ≠ g.addr ∨ f.lsb + f.width ≤ g.lsb ∨ g.lsb + g.width ≤ f.lsb := by
    intro g hg hb
    rcases hf with h | h
    · exact Or.inl (hg ▸ h)
    · exact Or.inr (Or.inr (by omega))
  rw [enterState_eq, setPins_fld, State.fld_setFld_apart _ _ _ _ (by simp) (hapart (F.LRF_STATUS_LOCKED n) rfl (by simp)),
    State.fld_setFld_apart _ _ _ _ (by simp) (hapart (F.LRF_STATUS_STATE n) rfl (by simp))]
  exact State.fld_congr (State.reg_congr (entering_bankEntered st).regs _)

theorem untuned_of_core {l m : LaneSt} (h : l.core = m.core) : l.untuned = m.untuned := by
  rw [LaneSt.untuned, h, LaneSt.untuned]

theorem Entering.tuned (h : Entering n s t) : Tuned n s t :=
  ⟨untuned_of_core h.core, h.job, fun _ => h.rings, fun _ _ => State.reg_congr h.regs _, fun _ _ _ => State.fld_congr (State.reg_congr h.regs _)⟩

theorem tuned_enterState (st : Nat) (locked : Bool) : Tuned n s (enterState s n st locked) := by
  rw [enterState_eq]
  exact (((entering_bankEntered st).tuned.trans (tuned_setStatus _ rfl (by simp))).trans (tuned_setStatus _ rfl (by simp))).trans tuned_setPins

/-! ### Receptions released, channels set, jobs ended -/

/-- The registers of the releases are not STATUS. -/
theorem tuneCauses (n : Nat) : A.LOF_PREEMPT n ≠ A.LRF_STATUS n ∧ (0x18 + n) * 0x1000 + 0x010 ≠ A.LRF_STATUS n ∧
    A.LBB_CTX_PREEMPT n ≠ A.LRF_STATUS n ∧ (0x14 + n) * 0x1000 + 0x010 ≠ A.LRF_STATUS n := by
  simp only [A.LOF_PREEMPT, A.LRF_STATUS, A.LBB_CTX_PREEMPT]
  omega

theorem tuned_ofdmPreempt : Tuned n s (ofdmPreempt s n) := by
  unfold ofdmPreempt
  split
  · exact Tuned.refl n s
  · exact ((tuned_setLane _).trans (tuned_setFld (f := F.LOF_PREEMPT_COUNT n) _ (by simp [tuneRegs]) (tuneCauses n).1)).trans
      (tuned_setCause _ 0 (by simp [tuneRegs]) (tuneCauses n).2.1)

theorem tuned_ctxPreempt : Tuned n s (ctxPreempt s n) := by
  unfold ctxPreempt
  refine Tuned.ite (fun _ => tuned_ofdmPreempt) (fun _ => tuned_ofdmPreempt.trans ?_)
  exact ((tuned_setLane _).trans (tuned_setFld (f := F.LBB_CTX_PREEMPT_COUNT n) _ (by simp [tuneRegs]) (tuneCauses n).2.2.1)).trans
    (tuned_setCause _ 3 (by simp [tuneRegs]) (tuneCauses n).2.2.2)

theorem tuned_showJob : Tuned n s (showJob s n) := by
  unfold showJob
  split
  · exact tuned_setReg _ _ (by simp [tuneRegs]) (by simp)
  · exact tuned_setReg _ _ (by simp [tuneRegs]) (by simp)

theorem tuned_endJob' (status : Nat) : Tuned n s (endJob' s n status) := by
  unfold endJob'
  split
  · exact Tuned.refl n s
  · rename_i j hj
    have hset : Tuned n s (s.setLane n { s.lane n with job := none }) := tuned_setLane { s.lane n with job := none } rfl (fun _ => rfl)
    have hfin := touches_finish (s := s.setLane n { s.lane n with job := none }) j.id status (jobResult j)
    generalize finish (s.setLane n { s.lane n with job := none }) j.id status (jobResult j) = u at hfin ⊢
    have hlane := lane_of_lanes (hfin.part .lanes (by decide)) n
    have hregs : ∀ a, u.reg a = (s.setLane n { s.lane n with job := none }).reg a := fun a => hfin.reg a (by simp)
    have hshow : Tuned n u (showJob u n) := tuned_showJob
    exact ⟨(hshow.lane.trans (congrArg LaneSt.untuned hlane)).trans hset.lane, fun h => absurd h (by rw [hj]; simp),
      fun h => absurd h (by rw [hj]; simp), fun a ha => ((hshow.regs a ha).trans (hregs a)).trans (hset.regs a ha),
      fun f hf hb => ((hshow.status f hf hb).trans (State.fld_congr (hregs _))).trans (hset.status f hf hb)⟩

theorem tuned_toOff : Tuned n s (toOff s n) :=
  (((tuned_ctxPreempt.trans (tuned_endJob' 0x50)).trans (tuned_setLane _)).trans (tuned_setReg _ _ (by simp [tuneRegs]) (by simp))).trans
    (tuned_enterState 0 false)

theorem tuned_setChannel (c : Nat) : Tuned n s (setChannel s n c) :=
  ((tuned_setStatus _ rfl (by simp)).trans (tuned_setFld _ (by simp [tuneRegs]) (by simp))).trans (tuned_setFld _ (by simp [tuneRegs]) (by simp))

theorem tuned_enterRx : Tuned n s (enterRx s n) := tuned_atRest.trans (tuned_enterState _ true)

theorem tuned_hopTo (c : Nat) (failed : Bool) : Tuned n s (hopTo s n c failed) := by
  have htune : ∀ (w : Work) (st : Nat), Tuned n s
      (enterState (setChannel (setWork (ctxPreempt (s.setLane n { s.lane n with waitCal := none }) n) n w) n c) n st false) := fun w st =>
    ((((tuned_setLane _).trans tuned_ctxPreempt).trans (tuned_setWork w)).trans (tuned_setChannel c)).trans (tuned_enterState st false)
  unfold hopTo
  refine Tuned.ite (fun _ => htune _ _) (fun _ => Tuned.ite (fun _ => Tuned.ite (fun _ => ?_) (fun _ => ?_)) (fun _ => htune _ _))
  · exact ((tuned_setLane _).trans (tuned_setWork _)).trans (tuned_enterState _ _)
  · exact ((tuned_setLane _).trans (tuned_setWork _)).trans (tuned_enterState _ _)

theorem tuned_laneNext : Tuned n s (laneNext s n) := by
  unfold laneNext
  refine Tuned.ite (fun _ => tuned_toOff) (fun _ => ?_)
  split
  · exact Tuned.ite (fun _ => Tuned.ite (fun _ => tuned_enterRx) (fun _ => tuned_atRest.trans (tuned_enterState _ _))) (fun _ => tuned_hopTo _ _)
  · exact Tuned.ite (fun _ => tuned_enterRx) (fun _ => Tuned.ite (fun _ => tuned_hopTo _ _) (fun _ => tuned_atRest.trans (tuned_enterState _ _)))
  · exact tuned_atRest.trans (tuned_enterState _ _)

theorem tuned_beginGap (w : Work) : Tuned n s (beginGap s n w) :=
  ((tuned_ctxPreempt.trans (tuned_setWork w)).trans (tuned_enterState 5 false)).trans (tuned_setLane _)

theorem tuned_tryGap : Tuned n s (tryGap s n) := by
  unfold tryGap
  split
  · exact Tuned.ite (fun _ => Tuned.refl n s) (fun _ => tuned_setLane _)
  · exact Tuned.ite (fun _ => (tuned_setLane _).trans (tuned_beginGap _)) (fun _ => tuned_setLane _)

theorem tuned_settle : Tuned n s (settle s n) := tuned_laneNext.trans tuned_tryGap

theorem tuned_receiveOn (c : Nat) : Tuned n s (receiveOn s n c) := by
  unfold receiveOn
  exact Tuned.ite (fun _ => Tuned.refl n s) (fun _ => Tuned.ite (fun _ => tuned_setLane _) (fun _ => Tuned.ite (fun _ => (tuned_setLane _).trans tuned_settle)
    (fun _ => Tuned.ite (fun _ => (tuned_setLane _).trans tuned_settle) (fun _ => tuned_setLane _))))

theorem tuned_listen : Tuned n s (listen s n) := Tuned.ite (fun _ => tuned_receiveOn _) (fun _ => Tuned.refl n s)

theorem tuned_backFromGap : Tuned n s (backFromGap s n) := ((tuned_setWork _).trans (tuned_setStatus _ rfl (by simp))).trans tuned_settle

/-! ### What of a lane its tuning keeps -/

theorem fields_of_core {l m : LaneSt} (h : l.core = m.core) : l.work = m.work ∧ l.rxWant = m.rxWant ∧ l.gapCal = m.gapCal ∧ l.offDue = m.offDue ∧
    l.back = m.back ∧ l.ctxs = m.ctxs :=
  ⟨(congrArg LaneSt.work h :), (congrArg LaneSt.rxWant h :), (congrArg LaneSt.gapCal h :), (congrArg LaneSt.offDue h :), (congrArg LaneSt.back h :), (congrArg LaneSt.ctxs h :)⟩

theorem fields_of_untuned {l m : LaneSt} (h : l.untuned = m.untuned) : l.store = m.store ∧ l.txs = m.txs ∧ l.occ = m.occ ∧ l.refOk = m.refOk ∧
    l.calNext = m.calNext ∧ l.txMeas = m.txMeas :=
  ⟨(congrArg LaneSt.store h :), (congrArg LaneSt.txs h :), (congrArg LaneSt.occ h :), (congrArg LaneSt.refOk h :), (congrArg LaneSt.calNext h :), (congrArg LaneSt.txMeas h :)⟩

theorem analog_of_store (h : (t.lane n).store = (s.lane n).store) (w : Nat) : analog t n w = analog s n w := by rw [analog, h, analog]

theorem Tuned.analog (h : Tuned n s t) (w : Nat) : analog t n w = Machine.analog s n w := analog_of_store (fields_of_untuned h.lane).1 w

theorem Tuned.chDefined (h : Tuned n s t) (c : Nat) : chDefined t n c = Machine.chDefined s n c := by rw [Machine.chDefined, h.analog, Machine.chDefined]

theorem Tuned.chValid (h : Tuned n s t) (c : Nat) : chValid t n c = Machine.chValid s n c := by rw [Machine.chValid, h.analog, Machine.chValid]

theorem Tuned.chFail (h : Tuned n s t) (c : Nat) : chFail t n c = Machine.chFail s n c := by rw [Machine.chFail, h.analog, Machine.chFail]

theorem Tuned.heldTx (h : Tuned n s t) : heldTx t n = Machine.heldTx s n := by rw [Machine.heldTx, (fields_of_untuned h.lane).2.1, Machine.heldTx]

theorem Tuned.blankIn (h : Tuned n s t) : blankIn t n = Machine.blankIn s n :=
  congrArg (fun v => v == 1) (h.status (F.LRF_STATUS_BLANK_IN n) rfl (Or.inl (by simp)))

theorem causeReg_untuned (n : Nat) : (0x10 + n) * 0x1000 + 0x010 ∉ tuneRegs n := by
  simp only [tuneRegs, A.LRF_STATUS, A.LRF_SYNTH, A.LRF_CAL_PROGRESS, A.LBB_CTX_PREEMPT, A.LOF_PREEMPT, List.mem_cons, List.not_mem_nil, or_false]
  omega

/-- Tuning sets no cause of LRF. -/
theorem Tuned.cause (h : Tuned n s t) (b : Nat) : causeSet t (0x10 + n) b = causeSet s (0x10 + n) b := h.regs.cause (causeReg_untuned n) b

/-! ### What the release of receptions leaves -/

/-- A lane without what it receives. -/
def LaneSt.calm (l : LaneSt) : LaneSt := { l with queue := [], ctxs := [], ofdm := none }

theorem calm_ofdmPreempt : ((ofdmPreempt s n).lane n).calm = (s.lane n).calm := by
  unfold ofdmPreempt
  split
  · rfl
  · rw [lane_of_lanes (setCause_lanes _ _ _), lane_of_lanes (State.count_lanes _ _ _), State.lane_setLane_self]
    rfl

theorem calm_ctxPreempt : ((ctxPreempt s n).lane n).calm = (s.lane n).calm := by
  unfold ctxPreempt
  simp only
  split
  · exact calm_ofdmPreempt
  · rw [lane_of_lanes (setCause_lanes _ _ _), lane_of_lanes (State.count_lanes _ _ _), State.lane_setLane_self]
    exact calm_ofdmPreempt

theorem fields_of_calm {l m : LaneSt} (h : l.calm = m.calm) : l.work = m.work ∧ l.rxWant = m.rxWant ∧ l.gapCal = m.gapCal ∧ l.offDue = m.offDue ∧
    l.back = m.back ∧ l.waitCal = m.waitCal ∧ l.job = m.job :=
  ⟨(congrArg LaneSt.work h :), (congrArg LaneSt.rxWant h :), (congrArg LaneSt.gapCal h :), (congrArg LaneSt.offDue h :), (congrArg LaneSt.back h :),
    (congrArg LaneSt.waitCal h :), (congrArg LaneSt.job h :)⟩

theorem lane_setChannel (c : Nat) : (setChannel s n c).lane n = s.lane n := lane_of_lanes rfl n

theorem lane_setWork (w : Work) : (setWork s n w).lane n = { s.lane n with work := w } := State.lane_setLane_self n _

/-! ### The next state -/

theorem laneState_setLane (l : LaneSt) : laneState (s.setLane n l) n = laneState s n := rfl

theorem laneState_toOff : laneState (toOff s n) n = 0 := laneState_enterState false (by decide)

/-- A tune that begins: with its work, in its state, and with what was wanted before. -/
theorem tune_spec (w : Work) {st : Nat} (c : Nat) (h : st < 8) :
    let t := enterState (setChannel (setWork (ctxPreempt (s.setLane n { s.lane n with waitCal := none }) n) n w) n c) n st false
    laneState t n = st ∧ (t.lane n).work = w ∧ (t.lane n).rxWant = (s.lane n).rxWant ∧ (t.lane n).gapCal = (s.lane n).gapCal := by
  refine ⟨laneState_enterState false h, ?_⟩
  obtain ⟨hw, hr, hg, -⟩ := fields_of_core (core_enterState (n := n)
    (s := setChannel (setWork (ctxPreempt (s.setLane n { s.lane n with waitCal := none }) n) n w) n c) st false)
  obtain ⟨-, hr', hg', -⟩ := fields_of_calm (calm_ctxPreempt (s := s.setLane n { s.lane n with waitCal := none }) (n := n))
  rw [lane_setChannel, lane_setWork] at hw hr hg
  rw [State.lane_setLane_self] at hr' hg'
  exact ⟨hw, hr.trans hr', hg.trans hg'⟩

/-- A tune that waits for the end of a blank. -/
theorem wait_spec (w : Option (Nat × Bool)) {st : Nat} (locked : Bool) (h : st < 8) :
    let t := enterState (setWork (s.setLane n { s.lane n with waitCal := w }) n .none) n st locked
    laneState t n = st ∧ (t.lane n).rxWant = (s.lane n).rxWant := by
  refine ⟨laneState_enterState locked h, ?_⟩
  obtain ⟨-, hr, -⟩ := fields_of_core (core_enterState (n := n) (s := setWork (s.setLane n { s.lane n with waitCal := w }) n .none) st locked)
  rw [lane_setWork, State.lane_setLane_self] at hr
  exact hr

/-- A lane that has not gone OFF: its state, and the channel it is asked to receive on. -/
def StaysOn (n : Nat) (s t : State) : Prop := laneState t n ∈ [1, 2, 3, 5, 6] ∧ (t.lane n).rxWant = (s.lane n).rxWant

theorem staysOn_hopTo (c : Nat) (failed : Bool) : StaysOn n s (hopTo s n c failed) := by
  unfold hopTo
  simp only
  split
  · obtain ⟨hst, -, hr, -⟩ := tune_spec (s := s) (n := n) (.hop c) c (show 2 < 8 by decide)
    exact ⟨by rw [hst]; decide, hr⟩
  · split
    · split
      · obtain ⟨hst, hr⟩ := wait_spec (s := s) (n := n) (some (c, failed || (s.lane n).waitCal == some (c, true))) true (show 6 < 8 by decide)
        exact ⟨by rw [hst]; decide, hr⟩
      · obtain ⟨hst, hr⟩ := wait_spec (s := s) (n := n) (some (c, failed || (s.lane n).waitCal == some (c, true))) false (show 1 < 8 by decide)
        exact ⟨by rw [hst]; decide, hr⟩
    · obtain ⟨hst, -, hr, -⟩ := tune_spec (s := s) (n := n) (.cold c (failed || (s.lane n).waitCal == some (c, true))) c (show 5 < 8 by decide)
      exact ⟨by rw [hst]; decide, hr⟩

theorem rest_spec {st : Nat} (locked : Bool) (h : st < 8) :
    let t := enterState (atRest s n) n st locked
    laneState t n = st ∧ (t.lane n).work = .none ∧ (t.lane n).rxWant = (s.lane n).rxWant ∧ (t.lane n).gapCal = (s.lane n).gapCal := by
  refine ⟨laneState_enterState locked h, ?_⟩
  obtain ⟨hw, hr, hg, -⟩ := fields_of_core (core_enterState (n := n) (s := atRest s n) st locked)
  rw [atRest, State.lane_setLane_self] at hw hr hg
  exact ⟨hw, hr, hg⟩

theorem staysOn_rest {st : Nat} (locked : Bool) (h : st ∈ [1, 2, 3, 5, 6]) : StaysOn n s (enterState (atRest s n) n st locked) := by
  have hlt : st < 8 := by
    simp only [List.mem_cons, List.not_mem_nil, or_false] at h
    omega
  obtain ⟨hst, -, hr, -⟩ := rest_spec (s := s) (n := n) locked hlt
  exact ⟨by rw [hst]; exact h, hr⟩

theorem staysOn_enterRx : StaysOn n s (enterRx s n) := staysOn_rest true (by split <;> decide)

theorem staysOn_laneNext (h : (s.lane n).offDue = false) : StaysOn n s (laneNext s n) := by
  unfold laneNext
  simp only [h, Bool.false_eq_true, if_false]
  split
  · split
    · split
      · exact staysOn_enterRx
      · exact staysOn_rest true (by split <;> decide)
    · exact staysOn_hopTo _ _
  · split
    · exact staysOn_enterRx
    · split
      · exact staysOn_hopTo _ _
      · exact staysOn_rest false (by decide)
  · exact staysOn_rest false (by decide)

/-- A calibration in a gap that begins. -/
theorem beginGap_spec (w : Work) : laneState (beginGap s n w) n = 5 ∧ ((beginGap s n w).lane n).work = w ∧
    ((beginGap s n w).lane n).rxWant = (s.lane n).rxWant ∧ ((beginGap s n w).lane n).gapCal = (s.lane n).gapCal := by
  obtain ⟨hw, hr, hg, -⟩ := fields_of_core (core_enterState (n := n) (s := setWork (ctxPreempt s n) n w) 5 false)
  obtain ⟨-, hr', hg', -⟩ := fields_of_calm (calm_ctxPreempt (s := s) (n := n))
  rw [lane_setWork] at hw hr hg
  have hst := laneState_enterState (n := n) (s := setWork (ctxPreempt s n) n w) false (show 5 < 8 by decide)
  unfold beginGap
  simp only
  rw [laneState_setLane, State.lane_setLane_self]
  refine ⟨hst, ?_⟩
  exact ⟨hw, hr.trans hr', hg.trans hg'⟩

/-- What the search of a gap comes to: the lane as it was, or the calibration of the first channel that awaits one. -/
theorem tryGap_spec (s : State) (n : Nat) : ((tryGap s n).lane n).rxWant = (s.lane n).rxWant ∧
    (laneState (tryGap s n) n = laneState s n ∧ ((tryGap s n).lane n).work = (s.lane n).work ∨
      laneState (tryGap s n) n = 5 ∧ ∃ c, ((tryGap s n).lane n).work = .gap c) := by
  unfold tryGap
  split
  · split
    · exact ⟨rfl, Or.inl ⟨rfl, rfl⟩⟩
    · exact ⟨by rw [State.lane_setLane_self], Or.inl ⟨rfl, by rw [State.lane_setLane_self]⟩⟩
  · rename_i c cs _
    split
    · obtain ⟨hst, hw, hr, -⟩ := beginGap_spec (s := s.setLane n { s.lane n with gapCal := cs }) (n := n) (.gap c)
      rw [State.lane_setLane_self] at hr
      exact ⟨hr, Or.inr ⟨hst, c, hw⟩⟩
    · exact ⟨by rw [State.lane_setLane_self], Or.inl ⟨rfl, by rw [State.lane_setLane_self]⟩⟩

theorem tryGap_none (h : (s.lane n).gapCal = []) : tryGap s n = s := by
  have hneeds : gapNeeds s n = [] := by rw [gapNeeds, h]; rfl
  rw [tryGap, hneeds]
  simp only [h, List.isEmpty_nil, if_true]

theorem staysOn_settle (h : (s.lane n).offDue = false) : StaysOn n s (settle s n) := by
  obtain ⟨hst, hr⟩ := staysOn_laneNext h
  obtain ⟨hr', hw⟩ := tryGap_spec (laneNext s n) n
  refine ⟨?_, hr'.trans hr⟩
  rcases hw with ⟨hs', -⟩ | ⟨hs', -⟩
  · rw [settle, hs']
    exact hst
  · rw [settle, hs']
    decide

end

end Sys2Proof.Machine
end

section
/-!
PROOFS. Lanes are enabled, calibrated and tuned (06_radio_lanes.md, Lane states, Start-up calibration, Anchor channels and background calibration,
On-request calibration).
-/
namespace Sys2Proof.Machine

-- One proof after another: side by side, the threads of so long a text want more memory than the check grants.
set_option Elab.async false

/-! ### LANE_ENABLE_WRITE (R187, R199) -/

section
variable {s t u : State} {src : Requester} {data : Word}

theorem laneCtrl_spec (n : Lane) : implemented (A.LRF_CTRL n) = true ∧ basePage (A.LRF_CTRL n / 0x1000) = 0x10 ∧
    specOf (A.LRF_CTRL n) = some ⟨8, 1, 4, 1, [⟨0, 1, .rw, 32⟩, ⟨4, 2, .rw, 32⟩, ⟨8, 6, .rw, 32⟩]⟩ := by
  revert n
  decide +kernel

/-- The control word of a lane after a write: a reserved AGC_MODE is not stored. -/
def laneCtrlWord (s : State) (n : Nat) (data : Word) : Word :=
  let w := insBits (s.reg (A.LRF_CTRL n)) 0 1 (bitsOf data.toNat 0 1)
  insBits (if bitsOf data.toNat 4 2 == 3 then w else insBits w 4 2 (bitsOf data.toNat 4 2)) 8 6 (bitsOf data.toNat 8 6)

theorem writeFields_laneCtrl (n : Lane) : writeFields s src (A.LRF_CTRL n) data allBits =
    if bitsOf data.toNat 4 2 == 3 then recordErr (s.setReg (A.LRF_CTRL n) (laneCtrlWord s n data)) (A.LRF_CTRL n / 0x1000) 0x05 src.code (A.LRF_CTRL n)
    else s.setReg (A.LRF_CTRL n) (laneCtrlWord s n data) := by
  obtain ⟨-, hbase, hspec⟩ := laneCtrl_spec n
  refine writeFields_of_foldl s src _ data allBits hspec ?_
  rw [hbase, List.foldl_cons, List.foldl_cons, List.foldl_cons, List.foldl_nil, applyField_rw s _ _ _ data _ 32 (by decide) (by decide),
    applyField_rw s _ _ _ data _ 32 (by decide) (by decide), applyField_rw s _ _ _ data _ 32 (by decide) (by decide)]
  have henable : ∀ x v w, reservedEnc s x 0x10 8 0 v w = false := fun _ _ _ => rfl
  have hmode : ∀ x v w, reservedEnc s x 0x10 8 4 v w = (v == 3) := fun _ _ _ => rfl
  have hgain : ∀ x v w, reservedEnc s x 0x10 8 8 v w = false := fun _ _ _ => rfl
  simp only [henable, hmode, hgain, laneCtrlWord, Bool.false_eq_true, if_false]
  split <;> simp_all

theorem laneCtrl_enable (n : Lane) : (writeFields s src (A.LRF_CTRL n) data allBits).flag (F.LRF_CTRL_ENABLE n) = bit data.toNat 0 := by
  have hword : bitsOf (laneCtrlWord s n data).toNat 0 1 = bitsOf data.toNat 0 1 := by
    rw [laneCtrlWord, bitsOf_insBits_apart _ _ _ _ _ _ (by decide) (by decide)]
    have hfirst : bitsOf (insBits (s.reg (A.LRF_CTRL n)) 0 1 (bitsOf data.toNat 0 1)).toNat 0 1 = bitsOf data.toNat 0 1 := by
      rw [bitsOf_insBits _ _ _ _ (by decide), Nat.mod_eq_of_lt (bitsOf_lt _ _ _)]
    split
    · exact hfirst
    · rw [bitsOf_insBits_apart _ _ _ _ _ _ (by decide) (by decide), hfirst]
  have hreg : (writeFields s src (A.LRF_CTRL n) data allBits).reg (A.LRF_CTRL n) = laneCtrlWord s n data := by
    rw [writeFields_laneCtrl]
    split
    · rw [onlyRegs_recordErr _ _ _ _ _ _ (by simp [A.LRF_CTRL]; omega), State.reg_setReg_self]
    · exact State.reg_setReg_self _ _ _
  rw [State.flag, State.fld, hreg, hword, bit_eq_bitsOf]

/-- A write of the control word of a lane, up to what ENABLE does: the gain follows GAIN_FIX in the mode FIXED. -/
def laneCtrlStored (s : State) (src : Requester) (n : Nat) (data : Word) : State :=
  let u := writeFields s src (A.LRF_CTRL n) data allBits
  if u.fld (F.LRF_CTRL_AGC_MODE n) = 1 then setGain u n (u.fld (F.LRF_CTRL_GAIN_FIX n)) else u

theorem core_setGain (n g : Nat) : ((setGain s n g).lane n).core = (s.lane n).core := by
  rw [setGain, core_setPins, lane_of_lanes (State.setFld_lanes _ _ _)]

theorem setGain_fld (n g : Nat) {f : Fld} (hf : f.addr ≠ A.LRF_STATUS n ∨ f.lsb + f.width ≤ 8 ∨ 14 ≤ f.lsb) : (setGain s n g).fld f = s.fld f := by
  rw [setGain, setPins_fld, State.fld_setFld_apart _ _ _ _ (by simp) (by simpa using hf)]

theorem touches_setGain (n : Lane) (g : Nat) : Touches [.regs, .lanes] lanePages s (setGain s n g) :=
  (touches_setFld_of (F.LRF_STATUS_GAIN n) g (lane_pages n.isLt).1).mono.then (touches_setPins n)

theorem laneCtrl_page (n : Lane) : A.LRF_CTRL n / 0x1000 ∈ lanePages := by
  revert n
  decide

/-- What the write leaves: of the lane all but its pins, of STATUS all but GAIN, and the pages of other blocks. -/
theorem laneCtrlStored_kept (n : Lane) : ((laneCtrlStored s src n data).lane n).core = (s.lane n).core ∧
    (∀ f : Fld, f.addr = A.LRF_STATUS n → f.lsb + f.width ≤ 8 ∨ 14 ≤ f.lsb → (laneCtrlStored s src n data).fld f = s.fld f) ∧
    Touches [.regs, .bus, .host, .out, .lanes] lanePages s (laneCtrlStored s src n data) ∧
    (laneCtrlStored s src n data).flag (F.LRF_CTRL_ENABLE n) = bit data.toNat 0 := by
  have htouch : Touches [.regs, .bus, .host, .out, .lanes] lanePages s (writeFields s src (A.LRF_CTRL n) data allBits) :=
    (touches_writeFields src _ data allBits).mono (by decide) (List.cons_subset.2 ⟨laneCtrl_page n, List.nil_subset _⟩)
  have hlane : (writeFields s src (A.LRF_CTRL n) data allBits).lane n = s.lane n :=
    lane_of_lanes ((touches_writeFields src _ data allBits).part .lanes (by decide)) n
  have hstatus : A.LRF_STATUS n ∉ writtenRegs (A.LRF_CTRL n) := by
    simp only [writtenRegs, A.LRF_CTRL, A.LRF_STATUS, List.mem_cons, List.not_mem_nil, or_false]
    omega
  have hregs : (writeFields s src (A.LRF_CTRL n) data allBits).reg (A.LRF_STATUS n) = s.reg (A.LRF_STATUS n) := onlyRegs_writeFields s src _ data allBits _ hstatus
  have henable := laneCtrl_enable (s := s) (src := src) (data := data) n
  unfold laneCtrlStored
  simp only
  generalize writeFields s src (A.LRF_CTRL n) data allBits = u at htouch hlane hregs henable ⊢
  split
  · refine ⟨by rw [core_setGain, hlane], fun f hf hb => ?_, htouch.then (touches_setGain n _), ?_⟩
    · rw [setGain_fld _ _ (Or.inr hb)]
      exact State.fld_congr (hf ▸ hregs)
    · rw [State.flag, setGain_fld _ _ (Or.inl (by simp)), ← henable, State.flag]
  · exact ⟨by rw [hlane], fun f hf _ => State.fld_congr (hf ▸ hregs), htouch, henable⟩

/-- A lane that the device had given up is tried again. -/
def laneRevived (s : State) (n : Nat) : State := s.setLane n { s.lane n with calDead := false }

theorem laneRevived_calDead (n : Nat) : ((laneRevived s n).lane n).calDead = false := by rw [laneRevived, State.lane_setLane_self]

theorem laneCtrlWrite_eq (n : Nat) : laneCtrlWrite s src n data allBits =
    match s.flag (F.LRF_CTRL_ENABLE n), (laneCtrlStored s src n data).flag (F.LRF_CTRL_ENABLE n) with
    | true, false => laneOff (laneCtrlStored s src n data) n
    | false, true => laneOn (laneRevived (laneCtrlStored s src n data) n) n
    | _, _ => laneCtrlStored s src n data := rfl

theorem ctrl_untuned (n : Nat) : A.LRF_CTRL n ∉ tuneRegs n := by
  simp only [tuneRegs, A.LRF_CTRL, A.LRF_STATUS, A.LRF_SYNTH, A.LRF_CAL_PROGRESS, A.LBB_CTX_PREEMPT, A.LOF_PREEMPT, List.mem_cons, List.not_mem_nil,
    or_false]
  omega

theorem abortCal_regs (n : Nat) : OnlyRegs s (abortCal s n) [A.LRF_BG_ABORTS n] := by
  unfold abortCal
  split
  · exact fun _ ha => onlyRegs_count (setWork s n .none) (F.LRF_BG_ABORTS_COUNT n) 1 _ ha
  · exact fun _ ha => onlyRegs_count (setWork s n .none) (F.LRF_BG_ABORTS_COUNT n) 1 _ ha
  · exact fun _ _ => rfl
  · exact fun _ _ => rfl
  · exact fun _ _ => rfl

theorem laneOff_spec (n : Nat) (h : laneState s n ≠ 4) : laneState (laneOff s n) n = 0 := by
  unfold laneOff
  split
  · assumption
  · exact laneState_toOff

theorem laneOff_enable (n : Nat) : (laneOff s n).flag (F.LRF_CTRL_ENABLE n) = s.flag (F.LRF_CTRL_ENABLE n) := by
  unfold laneOff
  split
  · rfl
  · split
    · rfl
    · exact ((tuned_toOff (s := abortCal s n) (n := n)).regs.flag (ctrl_untuned n)).trans ((abortCal_regs n).flag (by simp))

theorem laneOn_enable (n : Nat) : (laneOn s n).flag (F.LRF_CTRL_ENABLE n) = s.flag (F.LRF_CTRL_ENABLE n) := by
  unfold laneOn
  split
  · exact congrArg (fun v => v == 1) (enterState_fld 5 false (Or.inl (by simp)))
  · rfl

theorem beginStartup_spec (n : Nat) : laneState (beginStartup s n) n = 5 ∧ ((beginStartup s n).lane n).work = .startup 1 := by
  have hcore := core_enterState (n := n) (s := s.setLane n { s.lane n with work := .startup 1, calFailed := 0, calUs := 0, calNext := 0, offDue := false }) 5 false
  rw [State.lane_setLane_self] at hcore
  exact ⟨laneState_enterState false (by decide), (fields_of_core hcore).1⟩

theorem laneEnableWrite_spec (n : Lane) (hs : s.operating = true) :
    let t := laneCtrlWrite s src n data allBits
    t.flag (F.LRF_CTRL_ENABLE n) = bit data.toNat 0 ∧
      (s.flag (F.LRF_CTRL_ENABLE n) = true → bit data.toNat 0 = false → laneState s n ≠ 4 → laneState t n = 0) ∧
      (s.flag (F.LRF_CTRL_ENABLE n) = false → bit data.toNat 0 = true → laneState s n = 0 → lanePowered s n = true →
        s.flag (F.LRF_STATUS_STARTUP_DONE n) = false → blankIn s n = false → laneState t n = 5 ∧ (t.lane n).work = .startup 1) := by
  obtain ⟨-, hstatus, htouch, henable⟩ := laneCtrlStored_kept (s := s) (src := src) (data := data) n
  have hstate : laneState (laneCtrlStored s src n data) n = laneState s n := hstatus _ rfl (Or.inl (by simp))
  have hdone : (laneCtrlStored s src n data).flag (F.LRF_STATUS_STARTUP_DONE n) = s.flag (F.LRF_STATUS_STARTUP_DONE n) :=
    congrArg (fun v => v == 1) (hstatus (F.LRF_STATUS_STARTUP_DONE n) rfl (Or.inl (by simp)))
  have hblank : blankIn (laneCtrlStored s src n data) n = blankIn s n :=
    congrArg (fun v => v == 1) (hstatus (F.LRF_STATUS_BLANK_IN n) rfl (Or.inl (by simp)))
  have hop : (laneCtrlStored s src n data).operating = true := (State.operating_of_touches htouch).trans hs
  have hpow : lanePowered (laneCtrlStored s src n data) n = lanePowered s n := by
    rw [lanePowered, htouch.part .pow (by decide), htouch.fld (f := F.SYS_STATUS_PWR_MODE) (by decide), lanePowered]
  rw [laneCtrlWrite_eq]
  generalize laneCtrlStored s src n data = u at *
  cases hwas : s.flag (F.LRF_CTRL_ENABLE n) <;> cases hbit : bit data.toNat 0 <;> rw [hbit] at henable <;> rw [henable] <;> simp only
  · exact ⟨henable, by simp, by simp⟩
  · refine ⟨(laneOn_enable n).trans henable, by simp, fun _ _ hst hp hd hb => ?_⟩
    have hrun : mayRun u n = true := by
      rw [mayRun, henable, hpow, hp, hop]
      rfl
    have hon : ∀ v : State, laneState v n = 0 → mayRun v n = true → v.flag (F.LRF_STATUS_STARTUP_DONE n) = false → (v.lane n).calDead = false →
        blankIn v n = false → laneOn v n = beginStartup v n := fun v h1 h2 h3 h4 h5 => if_pos (by simp [h1, h2, h3, h4, h5])
    rw [hon (laneRevived u n) (hstate.trans hst) hrun (hdone.trans hd) (laneRevived_calDead _) (hblank.trans hb)]
    exact beginStartup_spec n
  · exact ⟨(laneOff_enable n).trans henable, fun _ _ h => laneOff_spec n (by rw [hstate]; exact h), by simp⟩
  · exact ⟨henable, by simp, by simp⟩

theorem exec_laneEnableWrite (n : Lane) (hs : s.operating = true) : exec (.laneEnableWrite src n data) s = .next (laneCtrlWrite s src n data allBits) :=
  congrArg Host.Outcome.next (gateWrite_inOperation (State.inOperation_of_operating hs) (laneCtrl_spec n).1 src _)

end

/-! ### LANE_STANDBY_READY (R187) -/

section
variable {s t u : State} {n : Nat}

theorem Tuned.macChannel (h : Tuned n s t) (hm : t.mac = s.mac) : macChannel t n = Machine.macChannel s n := by
  rw [Machine.macChannel, (fields_of_untuned h.lane).2.2.1, bcnCfg, hm, Machine.macChannel, bcnCfg]

theorem staysOn_receiveOn {c : Nat} (hst : laneState s n = 1) (hoff : (s.lane n).offDue = false) (hc : chDefined s n c = true) :
    laneState (receiveOn s n c) n ≠ 0 ∧ ((receiveOn s n c).lane n).rxWant = some c := by
  have hwant := State.lane_setLane_self (s := s) n { s.lane n with rxWant := some c }
  have hstate := laneState_setLane (s := s) (n := n) { s.lane n with rxWant := some c }
  unfold receiveOn
  rw [if_neg (by rw [hc]; decide)]
  simp only
  generalize s.setLane n { s.lane n with rxWant := some c } = u at *
  have hu : (u.lane n).rxWant = some c := by rw [hwant]
  split
  · exact ⟨by rw [hstate, hst]; decide, hu⟩
  · rw [if_pos (hstate.trans hst)]
    obtain ⟨h1, h2⟩ := staysOn_settle (s := u) (n := n) (by rw [hwant]; exact hoff)
    refine ⟨fun h0 => ?_, h2.trans hu⟩
    rw [h0] at h1
    exact absurd h1 (by decide)

theorem laneStandbyReady_spec (hn : n < 4) (hoff : (s.lane n).offDue = false) :
    let t := listen (enterState s n 1 false) n
    laneState t n ≠ 0 ∧
      (s.operating = false ∨ chDefined s n (macChannel s n) = false → laneState t n = 1 ∧ laneLocked t n = false) ∧
      (s.operating = true → chDefined s n (macChannel s n) = true → (t.lane n).rxWant = some (macChannel s n)) := by
  have hst := laneState_enterState (s := s) (n := n) false (show 1 < 8 by decide)
  have hlock := laneLocked_enterState (s := s) (n := n) 1 false
  have htuned := tuned_enterState (s := s) (n := n) 1 false
  have htouch := touches_enterState (s := s) hn 1 false
  have hop : (enterState s n 1 false).operating = s.operating := State.operating_of_touches htouch
  have hdue := (fields_of_core (core_enterState (s := s) (n := n) 1 false)).2.2.2.1
  simp only
  generalize enterState s n 1 false = u at *
  have hchan := htuned.macChannel (htouch.part .mac (by decide))
  have hdef := htuned.chDefined (macChannel s n)
  rw [listen, hop, hchan]
  cases hs : s.operating
  · simp only [Bool.false_eq_true, if_false]
    exact ⟨by rw [hst]; decide, fun _ => ⟨hst, hlock⟩, by simp⟩
  · simp only [if_true]
    cases hc : chDefined s n (macChannel s n)
    · have hstay : receiveOn u n (macChannel s n) = u := if_pos (by rw [hdef, hc]; rfl)
      rw [hstay]
      exact ⟨by rw [hst]; decide, fun _ => ⟨hst, hlock⟩, by simp⟩
    · obtain ⟨h1, h2⟩ := staysOn_receiveOn hst (hdue.trans hoff) (hdef.trans hc)
      exact ⟨h1, by simp, fun _ _ => h2⟩

/-! ### The store (R191, R192) -/

theorem lane_setAnalog (w : Nat) (v : Word) : (setAnalog s n w v).lane n = { s.lane n with store := ((setAnalog s n w v).lane n).store } := by
  rw [setAnalog, State.lane_setLane_self]

theorem analog_setAnalog_self (w : Nat) (v : Word) : analog (setAnalog s n w v) n w = v := by
  rw [analog, setAnalog, State.lane_setLane_self]
  exact Tbl.get_put_self _ _ _ _

theorem analog_setAnalog_ne {w x : Nat} (v : Word) (h : x ≠ w) : analog (setAnalog s n w v) n x = analog s n x := by
  rw [analog, setAnalog, State.lane_setLane_self]
  exact Tbl.get_put_ne _ _ _ h

/-- A lane without its store. -/
def LaneSt.storeless (l : LaneSt) : LaneSt := { l with store := [] }

/-- The store of lane `n` has been written, and nothing else of the lane; no register but of its anchors, and nothing of other areas. -/
structure Stored (n : Nat) (s t : State) : Prop where
  lane : (t.lane n).storeless = (s.lane n).storeless
  regs : OnlyRegs s t [A.LRF_ANCHOR_STATUS n]
  touches : Touches [.lanes, .regs] lanePages s t

theorem Stored.refl (n : Nat) (s : State) : Stored n s s := ⟨rfl, fun _ _ => rfl, Touches.refl s⟩

theorem Stored.trans (h : Stored n s t) (h' : Stored n t u) : Stored n s u :=
  ⟨h'.lane.trans h.lane, fun a ha => (h'.regs a ha).trans (h.regs a ha), h.touches.trans h'.touches⟩

theorem stored_setAnalog (w : Nat) (v : Word) : Stored n s (setAnalog s n w v) :=
  ⟨by rw [lane_setAnalog]; rfl, fun _ _ => rfl, (touches_setAnalog s n w v).mono⟩

theorem anchorStatus_page (hn : n < 4) : A.LRF_ANCHOR_STATUS n / 0x1000 ∈ lanePages := by
  revert n
  decide

theorem stored_setAnchorBit (hn : n < 4) (k b : Nat) (v : Bool) : Stored n s (setAnchorBit s n k b v) :=
  ⟨rfl, onlyRegs_setReg s _ _, (touches_setReg_of (A.LRF_ANCHOR_STATUS n) _ (anchorStatus_page hn)).mono⟩

theorem Stored.foldl {α : Type} {g : State → α → State} {l : List α} (hg : ∀ t e, Stored n t (g t e)) (s : State) : Stored n s (l.foldl g s) := by
  induction l generalizing s with
  | nil => exact Stored.refl n s
  | cons e l ih => exact (hg s e).trans (ih _)

theorem stored_clearAnchors (hn : n < 4) (c : Nat) : Stored n s (clearAnchors s n c) :=
  Stored.foldl (fun _ k => (stored_setAnchorBit hn k 4 false).trans (stored_setAnchorBit hn k 6 false)) s

theorem stored_storeResult (c : Nat) (r : CalResult) : Stored n s (storeResult s n c r) :=
  ((stored_setAnalog _ _).trans (stored_setAnalog _ _)).trans (stored_setAnalog _ _)

theorem stored_stored (hn : n < 4) (c : Nat) (r : CalResult) : Stored n s (stored s n c r) := by
  unfold stored
  simp only
  split
  · exact stored_storeResult c r
  · exact (stored_storeResult c r).trans (stored_clearAnchors hn c)

theorem clearAnchors_lanes (c : Nat) : (clearAnchors s n c).lanes = s.lanes := by
  unfold clearAnchors
  generalize anchorsOf s n c = l
  induction l generalizing s with
  | nil => rfl
  | cons k l ih => exact ih

/-- Word 1 of an entry after a successful calibration: VALID, without FAIL. -/
theorem calWord (r : CalResult) : let w := BitVec.ofNat 32 (2 ^ 31 + r.vcoBand.toNat * 2 ^ 24 + r.capTrim.toNat * 2 ^ 16 + r.cpCurrent.toNat * 2 ^ 8 +
    r.loopFilter.toNat)
    bit w.toNat 31 = true ∧ bit w.toNat 30 = false := by
  have h1 := r.vcoBand.isLt
  have h2 := r.capTrim.isLt
  have h3 := r.cpCurrent.isLt
  have h4 := r.loopFilter.isLt
  simp only [bit, BitVec.toNat_ofNat, Nat.reducePow, beq_iff_eq, beq_eq_false_iff_ne] at *
  omega

theorem storeResult_spec (c : Nat) (r : CalResult) : chValid (storeResult s n c r) n c = true ∧ chFail (storeResult s n c r) n c = false := by
  obtain ⟨h31, h30⟩ := calWord r
  have hword : analog (storeResult s n c r) n (4 * c + 1) =
      BitVec.ofNat 32 (2 ^ 31 + r.vcoBand.toNat * 2 ^ 24 + r.capTrim.toNat * 2 ^ 16 + r.cpCurrent.toNat * 2 ^ 8 + r.loopFilter.toNat) := by
    unfold storeResult
    simp only
    rw [analog_setAnalog_ne _ (by omega), analog_setAnalog_ne _ (by omega), analog_setAnalog_self]
  rw [chValid, chFail, hword]
  exact ⟨h31, h30⟩

theorem stored_spec (c : Nat) (r : CalResult) : chValid (stored s n c r) n c = true ∧ chFail (stored s n c r) n c = false := by
  have hword : analog (stored s n c r) n (4 * c + 1) = analog (storeResult s n c r) n (4 * c + 1) := by
    unfold stored
    simp only
    split
    · rfl
    · exact analog_of_store (by rw [lane_of_lanes (clearAnchors_lanes c)]) _
  rw [chValid, chFail, hword]
  exact storeResult_spec c r

end

end Sys2Proof.Machine
end

section
/-!
PROOFS. Start-up calibration (06_radio_lanes.md, Start-up calibration).
-/
namespace Sys2Proof.Machine

-- One proof after another: side by side, the threads of so long a text want more memory than the check grants.
set_option Elab.async false

section
variable {s t u : State} {n k : Nat}

/-! ### A calibration that fails (R195) -/

/-- An entry marked as failed. -/
def markFail (s : State) (n c : Nat) : State := setAnalog s n (4 * c + 1) (analog s n (4 * c + 1) ||| 0x40000000#32)

theorem calFails_eq (c cause : Nat) : calFails s n c cause = setCause ((markFail s n c).event (0x10 + n) 0 0x0601 2
    (leBytes 1 c ++ leBytes 1 cause ++ leBytes 1 ((markFail s n c).fld (F.LRF_STATUS_TEMP n)))) (0x10 + n) 1 := rfl

theorem bit_or_fail (w : Word) : bit (w ||| 0x40000000#32).toNat 30 = true := by
  rw [bit_eq_testBit, BitVec.testBit_toNat, BitVec.getLsbD_or]
  simp

theorem calFails_spec (c cause : Nat) : let t := calFails s n c cause
    t.lane n = (markFail s n c).lane n ∧ chFail t n c = true ∧ causeSet t (0x10 + n) 1 = true ∧ lastEvent t (0x10 + n) 0x0601 ∧
      OnlyRegs s t [(0x10 + n) * 0x1000 + 0x010] := by
  have hlane : (calFails s n c cause).lane n = (markFail s n c).lane n := by
    rw [calFails_eq]
    exact lane_of_lanes (setCause_lanes _ _ _) n
  refine ⟨hlane, ?_, causeSet_setCause_self _ _ _ (by decide), lastEvent_setCause _ _ (lastEvent_event _ _ _ _ _), onlyRegs_setCause _ _ _⟩
  rw [chFail, analog_of_store (t := calFails s n c cause) (s := markFail s n c) (by rw [hlane]), markFail, analog_setAnalog_self]
  exact bit_or_fail _

theorem markFail_lane (c : Nat) : ((markFail s n c).lane n).storeless = (s.lane n).storeless := (stored_setAnalog _ _).lane

theorem touches_markFail (c : Nat) : Touches [.lanes] [] s (markFail s n c) := touches_setAnalog s n _ _

/-- A report of LRF with its cause. -/
theorem touches_reported (hn : n < 4) (h : Touches [.lanes] [] s u) (sub code sev b : Nat) (data : List Byte) :
    Touches [.lanes, .regs, .host, .out, .log] lanePages s (setCause (u.event (0x10 + n) sub code sev data) (0x10 + n) b) :=
  (h.mono.then (touches_event (gs := []) _ _ _ _ _)).then (touches_setCause_of b (lane_pages hn).2.2.2.2.2.1)

theorem touches_calFails (hn : n < 4) (c cause : Nat) : Touches [.lanes, .regs, .host, .out, .log] lanePages s (calFails s n c cause) := by
  rw [calFails_eq]
  exact touches_reported hn (touches_markFail c) _ _ _ _ _

/-! ### The kinds of start-up calibration (R197, R198) -/

theorem analog_timed (x us : Nat) (w : Word) :
    analog ((setAnalog s n x w).setLane n { (setAnalog s n x w).lane n with calUs := us }) n x = w := by
  rw [analog_of_store (t := State.setLane _ n _) (s := setAnalog s n x _) (by rw [State.lane_setLane_self]), analog_setAnalog_self]

theorem kindWord_analog (fail : Bool) (micros : Nat) :
    analog (kindWord s n k fail micros) n (0x4FF + k) = BitVec.ofNat 32 (2 ^ 31 + b01 fail * 2 ^ 30 + min micros 65535) := by
  rw [kindWord]
  exact analog_timed _ _ _

theorem setWork_regs (w : Work) : (setWork s n w).regs = s.regs := rfl

theorem setLane_regs (l : LaneSt) : (s.setLane n l).regs = s.regs := rfl

theorem timed_regs (x us : Nat) (w : Word) : ((setAnalog s n x w).setLane n { (setAnalog s n x w).lane n with calUs := us }).regs = s.regs :=
  (setLane_regs _).trans (setLane_regs _)

theorem kindWord_regs {fail : Bool} {micros : Nat} : (kindWord s n k fail micros).regs = s.regs := by
  rw [kindWord]
  exact timed_regs _ _ _

theorem kindDone_next {r : KindFacts} (h1 : 1 ≤ k) (h4 : k ≤ 4) (hok : r.ok = true) :
    kindDone s n k r = setWork (kindWord s n k false r.micros) n (.startup (k + 1)) := by
  have h6 : k ≠ 6 := by omega
  unfold kindDone
  simp only [if_neg h6, hok, Bool.not_true]
  generalize kindWord s n k false r.micros = u
  obtain rfl | rfl | rfl | rfl : k = 1 ∨ k = 2 ∨ k = 3 ∨ k = 4 := by omega
  all_goals rfl

/-- A kind that succeeds is followed by the next (R197). -/
theorem kindDone_next_spec {r : KindFacts} (h1 : 1 ≤ k) (h4 : k ≤ 4) (hok : r.ok = true) :
    ((kindDone s n k r).lane n).work = .startup (k + 1) ∧ analog (kindDone s n k r) n (0x4FF + k) = BitVec.ofNat 32 (2 ^ 31 + min r.micros 65535) ∧
      OnlyRegs s (kindDone s n k r) [] := by
  rw [kindDone_next h1 h4 hok]
  refine ⟨by rw [lane_setWork], ?_, fun a _ => (State.reg_congr (setWork_regs _) a).trans (State.reg_congr kindWord_regs a)⟩
  rw [analog_of_store (t := setWork _ n _) (s := kindWord s n k false r.micros) (by rw [lane_setWork]), kindWord_analog]
  rfl

/-- What a failed kind reports. -/
def kindFails (s : State) (n k : Nat) : State := setCause (startupEvent s n 1 k) (0x10 + n) 1

/-- The device goes on without the lane. -/
def laneDead (s : State) (n : Nat) : State := s.setLane n { s.lane n with calDead := true }

theorem kindDone_fails {r : KindFacts} (h5 : k ≤ 5) (hok : r.ok = false) :
    kindDone s n k r = laneDead (toOff (kindFails (kindWord s n k true r.micros) n k) n) n := by
  have h6 : k ≠ 6 := by omega
  unfold kindDone
  simp only [if_neg h6, hok, Bool.not_false]
  generalize kindWord s n k true r.micros = u
  have hfails : ∀ v : State, setCause (startupEvent v n 1 k) (0x10 + n) 1 = kindFails v n k := fun _ => rfl
  rw [hfails]
  generalize toOff (kindFails u n k) n = v
  obtain rfl | rfl | rfl | rfl | rfl | rfl : k = 0 ∨ k = 1 ∨ k = 2 ∨ k = 3 ∨ k = 4 ∨ k = 5 := by omega
  all_goals rfl

theorem kindFails_spec (k : Nat) : causeSet (kindFails s n k) (0x10 + n) 1 = true ∧ lastEvent (kindFails s n k) (0x10 + n) 0x0600 :=
  ⟨causeSet_setCause_self _ _ _ (by decide), lastEvent_setCause _ _ (lastEvent_event _ _ _ _ _)⟩

theorem laneDead_spec : laneState (laneDead s n) n = laneState s n ∧ (laneDead s n).regs = s.regs ∧ (laneDead s n).log = s.log := ⟨rfl, rfl, rfl⟩

/-- A kind of 1 to 5 that fails turns the lane OFF (R198). -/
theorem kindDone_fails_spec {r : KindFacts} (hn : n < 4) (h5 : k ≤ 5) (hok : r.ok = false) : laneState (kindDone s n k r) n = 0 ∧
    causeSet (kindDone s n k r) (0x10 + n) 1 = true ∧ lastEvent (kindDone s n k r) (0x10 + n) 0x0600 := by
  rw [kindDone_fails h5 hok]
  obtain ⟨hcause, hlast⟩ := kindFails_spec (s := kindWord s n k true r.micros) (n := n) k
  generalize kindFails (kindWord s n k true r.micros) n k = u at *
  have hst := laneState_toOff (s := u) (n := n)
  have hkept := (tuned_toOff (s := u) (n := n)).cause 1
  have hlog := (touches_toOff (s := u) hn).part .log (by decide)
  generalize toOff u n = v at *
  obtain ⟨hstate, hregs, hlog'⟩ := laneDead_spec (s := v) (n := n)
  exact ⟨hstate.trans hst, (causeSet_of_regs hregs _ _).trans (hkept.trans hcause), lastEvent_of_log (t := u) (hlog'.trans hlog) hlast⟩

/-- The reference of the loop-back stored (R198, R224). -/
def referenceStored (s : State) (n : Nat) (r : KindFacts) : State :=
  setAnalog (setAnalog (kindWord s n 7 false r.micros) n 0x510 (BitVec.ofNat 32 r.refGain.toNat)) n 0x511 (BitVec.ofNat 32 r.refPhase.toNat)

/-- The same, and known to exist. -/
def referenceKnown (s : State) (n : Nat) (r : KindFacts) : State :=
  (referenceStored s n r).setLane n { (referenceStored s n r).lane n with refOk := true }

theorem kindDone_last {r : KindFacts} (hok : r.ok = true) : kindDone s n 7 r = startupDone (referenceKnown s n r) n := by
  unfold kindDone
  simp only [hok]
  rfl

/-- Start-up calibration is reported complete. -/
def startupShown (s : State) (n : Nat) : State :=
  setCause (startupEvent (s.setFld (F.LRF_STATUS_STARTUP_DONE n) 1) n 0 0) (0x10 + n) 0

theorem startupDone_eq : startupDone s n = listen (enterState (setWork (startupShown s n) n .none) n 1 false) n := rfl

theorem tuned_startupDone : Tuned n (startupShown s n) (startupDone s n) := by
  rw [startupDone_eq]
  exact ((tuned_setWork _).trans (tuned_enterState 1 false)).trans tuned_listen

theorem startupShown_lane : (startupShown s n).lane n = s.lane n := lane_of_lanes (setCause_lanes _ _ _) n

theorem startupShown_done : (startupShown s n).flag (F.LRF_STATUS_STARTUP_DONE n) = true := by
  have hset : (s.setFld (F.LRF_STATUS_STARTUP_DONE n) 1).flag (F.LRF_STATUS_STARTUP_DONE n) = true := State.flag_setFld_one _ rfl (by simp)
  refine ((onlyRegs_setCause _ (0x10 + n) 0).flag ?_).trans hset
  simp only [A.LRF_STATUS, List.mem_singleton]
  omega

/-- Kind 7 that succeeds completes start-up calibration (R199). -/
theorem kindDone_last_spec {r : KindFacts} (hok : r.ok = true) : (kindDone s n 7 r).flag (F.LRF_STATUS_STARTUP_DONE n) = true ∧
    ((kindDone s n 7 r).lane n).refOk = true ∧ causeSet (kindDone s n 7 r) (0x10 + n) 0 = true ∧
    analog (kindDone s n 7 r) n 0x510 = BitVec.ofNat 32 r.refGain.toNat := by
  have hgain : analog (referenceStored s n r) n 0x510 = BitVec.ofNat 32 r.refGain.toNat := by
    rw [referenceStored, analog_setAnalog_ne _ (by decide), analog_setAnalog_self]
  have hknown : ((referenceKnown s n r).lane n).refOk = true ∧ analog (referenceKnown s n r) n 0x510 = BitVec.ofNat 32 r.refGain.toNat := by
    refine ⟨by rw [referenceKnown, State.lane_setLane_self], ?_⟩
    rw [analog_of_store (t := referenceKnown s n r) (s := referenceStored s n r) (by rw [referenceKnown, State.lane_setLane_self]), hgain]
  rw [kindDone_last hok]
  generalize referenceKnown s n r = u at *
  have hlane := startupShown_lane (s := u) (n := n)
  have hdone := startupShown_done (s := u) (n := n)
  have hcause : causeSet (startupShown u n) (0x10 + n) 0 = true := causeSet_setCause_self _ _ _ (by decide)
  have htuned := tuned_startupDone (s := u) (n := n)
  refine ⟨?_, ?_, (htuned.cause 0).trans hcause, ?_⟩
  · rw [State.flag, htuned.status (F.LRF_STATUS_STARTUP_DONE n) rfl (Or.inl (by simp)), ← State.flag]
    exact hdone
  · rw [(fields_of_untuned htuned.lane).2.2.2.1, hlane, hknown.1]
  · rw [htuned.analog, analog_of_store (t := startupShown u n) (s := u) (by rw [hlane]), hknown.2]

/-! ### A channel that a blank cuts short (R198, R223) -/

theorem startupFails_eq (c : Nat) : startupFails s n c =
    (calFails s n c 1).setLane n { (calFails s n c 1).lane n with calFailed := ((calFails s n c 1).lane n).calFailed + 1 } := rfl

/-- The time used counted, and the next channel noted. -/
def blankNoted (s : State) (n c micros : Nat) : State :=
  let s := s.setLane n { s.lane n with calUs := (s.lane n).calUs + micros }
  s.setLane n { s.lane n with calNext := c + 1 }

theorem kindAbandoned_channel {r : KindFacts} {c : Nat} {rest : List Nat} (hr : r.channels = []) (hc : startupChannels s n = c :: rest) :
    kindAbandoned s n 6 r = startupFails (blankNoted s n c r.micros) n c := by
  unfold kindAbandoned
  rw [if_pos rfl]
  simp only [hr, hc, List.length_nil, List.take_zero, List.drop_zero]
  rfl

theorem kindAbandoned_channel_spec {r : KindFacts} {c : Nat} {rest : List Nat} (hn : n < 4) (hr : r.channels = [])
    (hc : startupChannels s n = c :: rest) : let t := kindAbandoned s n 6 r
    (t.lane n).calNext = c + 1 ∧ (t.lane n).work = (s.lane n).work ∧ chFail t n c = true ∧ lastEvent t (0x10 + n) 0x0601 ∧ SameMemory s t := by
  have hnoted : ((blankNoted s n c r.micros).lane n).calNext = c + 1 ∧ ((blankNoted s n c r.micros).lane n).work = (s.lane n).work := by
    unfold blankNoted
    simp only [State.lane_setLane_self, and_self]
  have hram : (blankNoted s n c r.micros).dram = s.dram := rfl
  simp only
  rw [kindAbandoned_channel hr hc]
  generalize blankNoted s n c r.micros = u at *
  obtain ⟨hlane, hfail, -, hlast, -⟩ := calFails_spec (s := u) (n := n) c 1
  have hmark := markFail_lane (s := u) (n := n) c
  rw [← hlane] at hmark
  have hdram := (touches_calFails (s := u) hn c 1).part .dram (by decide)
  rw [startupFails_eq]
  generalize calFails u n c 1 = v at *
  have hself := State.lane_setLane_self (s := v) n { v.lane n with calFailed := (v.lane n).calFailed + 1 }
  have hkept : (v.setLane n { v.lane n with calFailed := (v.lane n).calFailed + 1 }).dram = v.dram ∧
    (v.setLane n { v.lane n with calFailed := (v.lane n).calFailed + 1 }).log = v.log := ⟨rfl, rfl⟩
  generalize v.setLane n { v.lane n with calFailed := (v.lane n).calFailed + 1 } = w at *
  have hnext : (w.lane n).calNext = (u.lane n).calNext := by
    rw [hself]
    exact (congrArg LaneSt.calNext hmark :)
  have hwork : (w.lane n).work = (u.lane n).work := by
    rw [hself]
    exact (congrArg LaneSt.work hmark :)
  refine ⟨hnext.trans hnoted.1, hwork.trans hnoted.2, ?_, lastEvent_of_log hkept.2 hlast, sameMemory_of_dram ((hkept.1.trans hdram).trans hram)⟩
  rw [chFail, analog_of_store (t := w) (s := v) (by rw [hself]), ← chFail, hfail]

end

end Sys2Proof.Machine
end

section
/-!
PROOFS. Locks, cold calibrations, anchors and calibrations in gaps (06_radio_lanes.md, Lane states, Anchor channels and background calibration, On-request
calibration).
-/
namespace Sys2Proof.Machine

-- One proof after another: side by side, the threads of so long a text want more memory than the check grants.
set_option Elab.async false

section
variable {s t u : State} {n : Nat}

/-! ### SYNTH_LOCK_DONE (R187, R245) -/

/-- The events of the sub-channels that a tune leaves inactive. -/
def subsNoted (s : State) (n : Nat) (l : LaneSt) : State :=
  (List.range 8).foldl (fun (t : State) k =>
    if subEnabled t n k && subMisfit t n k != 0 && (bit l.subWas k || !bit l.subSeen k) then
      t.event (0x14 + n) 0 0x0701 1 (leBytes 1 k ++ leBytes 1 (laneChannel t n) ++ leBytes 1 (subMisfit t n k))
    else t) s

theorem touches_subsNoted (l : LaneSt) : Touches [.log] [] s (subsNoted s n l) :=
  Touches.foldl (fun _ _ _ => Touches.ite (fun _ => touches_event (gs := []) _ _ _ _ _) (fun _ => Touches.refl _)) s

/-- The lane as a tune leaves it. -/
def tuneMarked (s : State) (n now : Nat) : State :=
  s.setLane n { s.lane n with subWas := now, subSeen := 255, tunedAt := s.dev.upCycles, heard := 0, subSince := [] }

theorem tuneSub_eq (s : State) (n : Nat) : ∃ now, tuneSub s n = tuneMarked (subsNoted s n (s.lane n)) n now := ⟨_, rfl⟩

theorem tuneMarked_spec (now : Nat) : ((tuneMarked s n now).lane n).calm.untuned = (s.lane n).calm.untuned ∧
    ((tuneMarked s n now).lane n).rxWant = (s.lane n).rxWant ∧ ((tuneMarked s n now).lane n).gapCal = (s.lane n).gapCal ∧
    ((tuneMarked s n now).lane n).offDue = (s.lane n).offDue ∧ ((tuneMarked s n now).lane n).txs = (s.lane n).txs := by
  rw [tuneMarked, State.lane_setLane_self]
  exact ⟨rfl, rfl, rfl, rfl, rfl⟩

theorem tuned_tuneSub : Tuned n s (tuneSub s n) := by
  obtain ⟨now, h⟩ := tuneSub_eq s n
  have htouch := touches_subsNoted (s := s) (n := n) (s.lane n)
  rw [h]
  generalize subsNoted s n (s.lane n) = u at htouch ⊢
  have hu : Tuned n s u := Tuned.of_regs (htouch.part .lanes (by decide)) (htouch.part .rings (by decide)) (as := [])
    (fun a _ => htouch.reg a (by simp)) (List.nil_subset _) (by simp)
  exact hu.trans (tuned_setLane _)

theorem tuneSub_spec : ((tuneSub s n).lane n).rxWant = (s.lane n).rxWant ∧ ((tuneSub s n).lane n).gapCal = (s.lane n).gapCal ∧
    ((tuneSub s n).lane n).offDue = (s.lane n).offDue ∧ (tuneSub s n).regs = s.regs := by
  obtain ⟨now, h⟩ := tuneSub_eq s n
  have htouch := touches_subsNoted (s := s) (n := n) (s.lane n)
  rw [h]
  generalize subsNoted s n (s.lane n) = u at htouch ⊢
  have hlane := lane_of_lanes (htouch.part .lanes (by decide)) n
  obtain ⟨-, h1, h2, h3, -⟩ := tuneMarked_spec (s := u) (n := n) now
  exact ⟨h1.trans (by rw [hlane]), h2.trans (by rw [hlane]), h3.trans (by rw [hlane]), (setLane_regs _).trans (htouch.part .regs (by decide))⟩

/-- The synthesiser shown as locked, with nothing in progress. -/
def lockShown (s : State) (n : Nat) : State := (setWork s n .none).setFld (F.LRF_STATUS_LOCKED n) 1

theorem lockedOn_eq : lockedOn s n = settle (tuneSub (lockShown s n) n) n := rfl

theorem tuned_lockShown : Tuned n s (lockShown s n) := (tuned_setWork _).trans (tuned_setStatus _ rfl (by simp))

theorem tuned_lockedOn : Tuned n s (lockedOn s n) := by
  rw [lockedOn_eq]
  exact (tuned_lockShown.trans tuned_tuneSub).trans tuned_settle

/-- The lane with its synthesiser just locked, before it settles. -/
theorem lockShown_spec : let x := tuneSub (lockShown s n) n
    (x.lane n).rxWant = (s.lane n).rxWant ∧ (x.lane n).gapCal = (s.lane n).gapCal ∧ (x.lane n).offDue = (s.lane n).offDue ∧
      laneLocked x n = true ∧ laneChannel x n = laneChannel s n ∧ heldTx x n = heldTx s n ∧ blankIn x n = blankIn s n := by
  have hlane : (lockShown s n).lane n = { s.lane n with work := .none } := (lane_of_lanes (State.setFld_lanes _ _ _) n).trans (lane_setWork _)
  have hlock : laneLocked (lockShown s n) n = true := State.flag_setFld_one _ rfl (by simp)
  have hchan : laneChannel (lockShown s n) n = laneChannel s n := State.fld_setFld_apart _ _ _ _ (by simp) (Or.inr (by simp))
  have htuned := tuned_lockShown (s := s) (n := n)
  generalize lockShown s n = u at *
  obtain ⟨h1, h2, h3, hregs⟩ := tuneSub_spec (s := u) (n := n)
  have htuned' := htuned.trans (tuned_tuneSub (s := u) (n := n))
  refine ⟨h1.trans (by rw [hlane]), h2.trans (by rw [hlane]), h3.trans (by rw [hlane]), (State.flag_of_regs hregs _).trans hlock,
    (State.fld_congr (State.reg_congr hregs _)).trans hchan, htuned'.heldTx, htuned'.blankIn⟩

/-- On the channel on which receive is requested, and with nothing else to do, the lane enters RX, or BLANKED (R187). -/
theorem settle_enterRx (hheld : heldTx s n = none) (hoff : (s.lane n).offDue = false) (hgap : (s.lane n).gapCal = [])
    (hwant : (s.lane n).rxWant = some (laneChannel s n)) (hlock : laneLocked s n = true) : settle s n = enterRx s n := by
  have hnext : laneNext s n = enterRx s n := by
    unfold laneNext
    simp only [hoff, hheld, hwant, hlock, Bool.false_eq_true, if_false, Bool.true_and, decide_true, if_true]
  have hrest := (rest_spec (s := s) (n := n) (st := if blankIn s n then 6 else 3) true (by split <;> decide)).2.2.2
  have htry : tryGap (enterRx s n) n = enterRx s n := tryGap_none (hrest.trans hgap)
  rw [settle, hnext, htry]

theorem lockedOn_spec (hheld : heldTx s n = none) (hoff : (s.lane n).offDue = false) (hgap : (s.lane n).gapCal = [])
    (hwant : (s.lane n).rxWant = some (laneChannel s n)) : laneState (lockedOn s n) n = (if blankIn s n then 6 else 3) ∧
      laneLocked (lockedOn s n) n = true ∧ ((lockedOn s n).lane n).work = .none := by
  obtain ⟨h1, h2, h3, hlock, hchan, hheld', hblank⟩ := lockShown_spec (s := s) (n := n)
  rw [lockedOn_eq]
  generalize tuneSub (lockShown s n) n = x at *
  rw [settle_enterRx (hheld'.trans hheld) (h3.trans hoff) (h2.trans hgap) (h1.trans (hwant.trans (by rw [hchan]))) hlock, ← hblank]
  obtain ⟨hst, hw, -⟩ := rest_spec (s := x) (n := n) (st := if blankIn x n then 6 else 3) true (by split <;> decide)
  exact ⟨hst, laneLocked_enterState _ _, hw⟩

/-! ### LOCK_FAIL (R194) -/

/-- The entry is no longer VALID. -/
def markInvalid (s : State) (n c : Nat) : State := setAnalog s n (4 * c + 1) (analog s n (4 * c + 1) &&& 0x7FFFFFFF#32)

/-- A lock failure counted and reported. -/
def lockLost (s : State) (n c : Nat) : State := setCause ((markInvalid s n c).count (F.LRF_LOCK_FAILS_COUNT n) 1) (0x10 + n) 2

theorem lockFail_eq (c : Nat) : lockFail s n c = hopTo (lockLost s n c) n c true := rfl

theorem bit_and_valid (w : Word) : bit (w &&& 0x7FFFFFFF#32).toNat 31 = false := by
  rw [bit_eq_testBit, BitVec.testBit_toNat, BitVec.getLsbD_and]
  simp

theorem markInvalid_spec (c : Nat) : chValid (markInvalid s n c) n c = false := by
  rw [chValid, markInvalid, analog_setAnalog_self]
  exact bit_and_valid _

theorem lrf_cause_apart (n : Nat) {a : Nat} (h : (0x10 + n) * 0x1000 + 0x010 ≠ a) : a ∉ [(0x10 + n) * 0x1000 + 0x010] := by
  simpa using fun e : a = _ => h e.symm

theorem lockLost_spec (c : Nat) : chValid (lockLost s n c) n c = false ∧ causeSet (lockLost s n c) (0x10 + n) 2 = true ∧
    (lockLost s n c).fld (F.LRF_LOCK_FAILS_COUNT n) = satAdd 32 (s.fld (F.LRF_LOCK_FAILS_COUNT n)) 1 ∧ blankIn (lockLost s n c) n = blankIn s n := by
  have hvalid := markInvalid_spec (s := s) (n := n) c
  have hregs : (markInvalid s n c).regs = s.regs := setLane_regs _
  unfold lockLost
  generalize markInvalid s n c = u at *
  have hlane := lane_of_lanes ((setCause_lanes (u.count (F.LRF_LOCK_FAILS_COUNT n) 1) (0x10 + n) 2).trans (State.count_lanes _ _ _)) n
  have hcount := State.fld_count_self u (F.LRF_LOCK_FAILS_COUNT n) 1 (by simp)
  have hfield : ∀ f : Fld, f.addr ≠ (0x10 + n) * 0x1000 + 0x010 →
      (setCause (u.count (F.LRF_LOCK_FAILS_COUNT n) 1) (0x10 + n) 2).fld f = (u.count (F.LRF_LOCK_FAILS_COUNT n) 1).fld f := fun f hf =>
    (onlyRegs_setCause _ _ _).fld (lrf_cause_apart n hf.symm)
  refine ⟨?_, causeSet_setCause_self _ _ _ (by decide), ?_, ?_⟩
  · rw [chValid, analog_of_store (s := u) (by rw [hlane]), ← chValid, hvalid]
  · rw [hfield _ (by simp only [A.LRF_LOCK_FAILS]; omega), hcount]
    exact congrArg (fun v => satAdd 32 v 1) (State.fld_congr (State.reg_congr hregs _))
  · refine congrArg (fun v => v == 1) ?_
    rw [hfield _ (by simp only [A.LRF_STATUS]; omega), State.fld_count_apart _ _ _ _ (by simp) (Or.inl (by simp))]
    exact State.fld_congr (State.reg_congr hregs _)

theorem lockFails_untuned (n : Nat) : A.LRF_LOCK_FAILS n ∉ tuneRegs n := by
  simp only [tuneRegs, A.LRF_LOCK_FAILS, A.LRF_STATUS, A.LRF_SYNTH, A.LRF_CAL_PROGRESS, A.LBB_CTX_PREEMPT, A.LOF_PREEMPT, List.mem_cons,
    List.not_mem_nil, or_false]
  omega

/-- After a lock failure the tune is a cold calibration. -/
theorem hopTo_cold {c : Nat} (hb : blankIn s n = false) : laneState (hopTo s n c true) n = 5 ∧ ((hopTo s n c true).lane n).work = .cold c true := by
  unfold hopTo
  simp only [Bool.true_or, Bool.not_true, Bool.and_false, hb, Bool.false_eq_true, if_false]
  obtain ⟨hst, hw, -⟩ := tune_spec (s := s) (n := n) (.cold c true) c (show 5 < 8 by decide)
  exact ⟨hst, hw⟩

theorem lockFail_spec {c : Nat} (hb : blankIn s n = false) : chValid (lockFail s n c) n c = false ∧ laneState (lockFail s n c) n = 5 ∧
    ((lockFail s n c).lane n).work = .cold c true ∧ causeSet (lockFail s n c) (0x10 + n) 2 = true ∧
    (lockFail s n c).fld (F.LRF_LOCK_FAILS_COUNT n) = satAdd 32 (s.fld (F.LRF_LOCK_FAILS_COUNT n)) 1 := by
  obtain ⟨hvalid, hcause, hcount, hblank⟩ := lockLost_spec (s := s) (n := n) c
  rw [lockFail_eq]
  generalize lockLost s n c = u at *
  have htuned := tuned_hopTo (s := u) (n := n) c true
  obtain ⟨hst, hw⟩ := hopTo_cold (s := u) (n := n) (c := c) (hblank.trans hb)
  exact ⟨(htuned.chValid c).trans hvalid, hst, hw, (htuned.cause 2).trans hcause, (htuned.regs.fld (lockFails_untuned n)).trans hcount⟩

/-! ### COLD_CAL_DONE (R192, R195) -/

theorem coldStored_spec (c : Nat) (r : CalResult) : (∀ t, Tuned n (stored s n c r) t → chValid t n c = true ∧ chFail t n c = false) := by
  intro t h
  obtain ⟨h1, h2⟩ := stored_spec (s := s) (n := n) c r
  exact ⟨(h.chValid c).trans h1, (h.chFail c).trans h2⟩

/-- A transmission that waited for channel `c` is abandoned (R209). -/
def txAbandoned (c : Nat) (t : Tx) : Tx := if (t.stage == 2 || t.stage == 3) && t.channel == c then { t with stage := 5 } else t

/-- The lane once a cold calibration has failed. -/
def coldLost (s : State) (n c : Nat) : State :=
  s.setLane n { s.lane n with work := .none, rxWant := none, txs := (s.lane n).txs.map (txAbandoned c) }

theorem coldFailed_eq (c : Nat) (f : Bool) :
    coldFailed s n c f = tryGap (enterState (coldLost (calFails s n c (if f then 2 else 1)) n c) n 1 false) n := rfl

theorem coldLost_spec (c : Nat) : ((coldLost s n c).lane n).work = .none ∧ ((coldLost s n c).lane n).rxWant = none ∧
    ((coldLost s n c).lane n).store = (s.lane n).store ∧ ((coldLost s n c).lane n).gapCal = (s.lane n).gapCal ∧ (coldLost s n c).regs = s.regs ∧
    (coldLost s n c).log = s.log := by
  have hlane := State.lane_setLane_self (s := s) n { s.lane n with work := .none, rxWant := none, txs := (s.lane n).txs.map (txAbandoned c) }
  rw [coldLost, hlane]
  exact ⟨rfl, rfl, rfl, rfl, rfl, rfl⟩

theorem coldFailed_spec (hn : n < 4) (c : Nat) (f : Bool) : let t := coldFailed s n c f
    chFail t n c = true ∧ (t.lane n).rxWant = none ∧ causeSet t (0x10 + n) 1 = true ∧ lastEvent t (0x10 + n) 0x0601 ∧
      (laneState t n = 1 ∨ laneState t n = 5 ∧ ∃ g, (t.lane n).work = .gap g) ∧ ((s.lane n).gapCal = [] → laneState t n = 1) := by
  obtain ⟨hlane, hfail, hcause, hlast, -⟩ := calFails_spec (s := s) (n := n) c (if f then 2 else 1)
  have hmark := markFail_lane (s := s) (n := n) c
  rw [← hlane] at hmark
  simp only
  rw [coldFailed_eq]
  generalize calFails s n c (if f then 2 else 1) = u at *
  obtain ⟨hw, hwant, hstore, hgap, hregs, hlog⟩ := coldLost_spec (s := u) (n := n) c
  have hgap' : ((coldLost u n c).lane n).gapCal = (s.lane n).gapCal := hgap.trans (congrArg LaneSt.gapCal hmark :)
  generalize coldLost u n c = v at *
  have hst := laneState_enterState (s := v) (n := n) false (show 1 < 8 by decide)
  obtain ⟨hw1, hwant1, hgap1, -⟩ := fields_of_core (core_enterState (s := v) (n := n) 1 false)
  have htuned := tuned_enterState (s := v) (n := n) 1 false
  have hlog1 := (touches_enterState (s := v) hn 1 false).part .log (by decide)
  generalize enterState v n 1 false = w at *
  obtain ⟨hwant2, hend⟩ := tryGap_spec w n
  have htuned2 := htuned.trans (tuned_tryGap (s := w) (n := n))
  have hlog2 := (touches_tryGap (s := w) hn).part .log (by decide)
  refine ⟨?_, hwant2.trans (hwant1.trans hwant), ?_, ?_, ?_, fun h => ?_⟩
  · rw [chFail, htuned2.analog, analog_of_store (t := v) (s := u) hstore, ← chFail, hfail]
  · exact (htuned2.cause 1).trans ((causeSet_of_regs hregs _ _).trans hcause)
  · exact lastEvent_of_log (hlog2.trans (hlog1.trans hlog)) hlast
  · rcases hend with ⟨h1, -⟩ | h5
    · exact Or.inl (h1.trans hst)
    · exact Or.inr h5
  · rw [tryGap_none (hgap1.trans (hgap'.trans h)), hst]

/-! ### Anchors (R201, R204) -/

theorem anchorBit_setAnchorBit {k b j d : Nat} (v : Bool) (hk : 8 * k + b < 32) (hb : b < 8) (hd : d < 8) :
    anchorBit (setAnchorBit s n k b v) n j d = if j = k ∧ d = b then v else anchorBit s n j d := by
  rw [anchorBit, setAnchorBit, State.reg_setReg_self, bit_eq_bitsOf]
  split
  · rename_i h
    obtain ⟨rfl, rfl⟩ := h
    rw [bitsOf_insBits _ _ _ _ (by omega)]
    cases v <;> rfl
  · rw [bitsOf_insBits_apart _ _ _ _ _ _ (by omega) (by omega), ← bit_eq_bitsOf, anchorBit]

/-- Bit `b` set for the anchors `l`. -/
def markAnchors (s : State) (n b : Nat) (l : List Nat) : State := l.foldl (fun (t : State) k => setAnchorBit t n k b true) s

theorem anchorBit_markAnchors {b j d : Nat} {l : List Nat} (hl : ∀ k ∈ l, k < 4) (hb : b < 8) (hd : d < 8) :
    anchorBit (markAnchors s n b l) n j d = (anchorBit s n j d || (decide (j ∈ l) && decide (d = b))) := by
  induction l generalizing s with
  | nil => simp [markAnchors]
  | cons k l ih =>
    have hk : k < 4 := hl k (List.mem_cons_self ..)
    rw [show markAnchors s n b (k :: l) = markAnchors (setAnchorBit s n k b true) n b l from rfl, ih (fun i hi => hl i (List.mem_cons_of_mem _ hi)),
      anchorBit_setAnchorBit true (by omega) hb hd]
    by_cases hj : j = k <;> by_cases hdb : d = b <;> simp [hj, hdb]

theorem markAnchors_regs (b : Nat) (l : List Nat) : OnlyRegs s (markAnchors s n b l) [A.LRF_ANCHOR_STATUS n] :=
  OnlyRegs.foldl (fun t _ _ => onlyRegs_setReg t _ _) s

theorem mem_anchorsOf {c k : Nat} : k ∈ anchorsOf s n c ↔ k < 4 ∧ anchorCh s n k = c := by
  simp [anchorsOf, List.mem_filter, List.mem_range]

/-- ANCHOR_DUE marks the anchors that name the channel, and no other (R201). -/
theorem anchorDue_spec {c : Nat} : let t := markAnchors s n 4 (anchorsOf s n c)
    (∀ a, a < 4 → anchorCh s n a = c → anchorBit t n a 4 = true) ∧ (∀ k, k < 4 → anchorCh s n k ≠ c → anchorBit t n k 4 = anchorBit s n k 4) ∧
      OnlyRegs s t [A.LRF_ANCHOR_STATUS n] := by
  have hbit : ∀ j, anchorBit (markAnchors s n 4 (anchorsOf s n c)) n j 4 = (anchorBit s n j 4 || decide (j ∈ anchorsOf s n c)) := fun j => by
    rw [anchorBit_markAnchors (fun k hk => (mem_anchorsOf.1 hk).1) (by decide) (by decide)]
    simp
  refine ⟨fun a ha hc => ?_, fun k _ hc => ?_, markAnchors_regs 4 _⟩
  · rw [hbit, decide_eq_true (mem_anchorsOf.2 ⟨ha, hc⟩), Bool.or_true]
  · rw [hbit, decide_eq_false (fun hm => hc (mem_anchorsOf.1 hm).2), Bool.or_false]

/-- What ANCHOR_OVERDUE reports of anchor `a`. -/
def overdueShown (s : State) (n a c : Nat) : State :=
  let s := setCause (markAnchors s n 6 (anchorsOf s n c)) (0x10 + n) 3
  s.event (0x10 + n) 0 0x0602 2 (leBytes 1 a ++ leBytes 1 c ++ leBytes 4 (chAge s n c))

theorem overdueShown_spec {a c : Nat} (ha : a < 4) (hc : anchorCh s n a = c) : anchorBit (overdueShown s n a c) n a 6 = true ∧
    causeSet (overdueShown s n a c) (0x10 + n) 3 = true ∧ lastEvent (overdueShown s n a c) (0x10 + n) 0x0602 := by
  have hbit : anchorBit (markAnchors s n 6 (anchorsOf s n c)) n a 6 = true := by
    rw [anchorBit_markAnchors (fun k hk => (mem_anchorsOf.1 hk).1) (by decide) (by decide), decide_eq_true (mem_anchorsOf.2 ⟨ha, hc⟩)]
    simp
  unfold overdueShown
  generalize markAnchors s n 6 (anchorsOf s n c) = u at *
  have hreg : (setCause u (0x10 + n) 3).reg (A.LRF_ANCHOR_STATUS n) = u.reg (A.LRF_ANCHOR_STATUS n) :=
    onlyRegs_setCause u _ _ _ (lrf_cause_apart n (by simp only [A.LRF_ANCHOR_STATUS]; omega))
  have hcause : causeSet (setCause u (0x10 + n) 3) (0x10 + n) 3 = true := causeSet_setCause_self _ _ _ (by decide)
  generalize setCause u (0x10 + n) 3 = v at *
  refine ⟨?_, hcause, lastEvent_event _ _ _ _ _⟩
  rw [anchorBit] at hbit ⊢
  exact (congrArg (fun w : Word => bit w.toNat (8 * a + 6)) hreg).trans hbit

/-! ### Calibrations in gaps (R200, R202, R205) -/

theorem bgSliceStart_spec {c : Nat} (hop : s.operating = true) (hneeds : gapNeeds s n = []) (hjob : (s.lane n).job = none)
    (hgap : gapOpen s n 218000 = true) (hcox : coxMayStart s 19 = true) (hc : dueChannel s n = some c) :
    laneState (bgSliceStart s n) n = 5 ∧ ((bgSliceStart s n).lane n).work = .slice c := by
  have hbegin : bgSliceStart s n = beginGap (coxCharge s 19 200) n (.slice c) := by
    unfold bgSliceStart
    simp only [hc, hop, hneeds, hjob, hgap, hcox, List.isEmpty_nil, Option.isNone_none, Bool.and_self, if_true]
  rw [hbegin]
  obtain ⟨hst, hw, -⟩ := beginGap_spec (s := coxCharge s 19 200) (n := n) (.slice c)
  exact ⟨hst, hw⟩

theorem bgSlices_untuned (n : Nat) : A.LRF_BG_SLICES n ∉ tuneRegs n := by
  simp only [tuneRegs, A.LRF_BG_SLICES, A.LRF_STATUS, A.LRF_SYNTH, A.LRF_CAL_PROGRESS, A.LBB_CTX_PREEMPT, A.LOF_PREEMPT, List.mem_cons,
    List.not_mem_nil, or_false]
  omega

theorem sliceDone_spec (hn : n < 4) (c : Nat) (r : CalResult) : let t := sliceDone s n c (some r)
    chValid t n c = true ∧ chFail t n c = false ∧ t.fld (F.LRF_BG_SLICES_COUNT n) = satAdd 32 (s.fld (F.LRF_BG_SLICES_COUNT n)) 1 := by
  have hform : sliceDone s n c (some r) = backFromGap ((stored s n c r).count (F.LRF_BG_SLICES_COUNT n) 1) n := rfl
  obtain ⟨h1, h2⟩ := stored_spec (s := s) (n := n) c r
  have hkept : (stored s n c r).fld (F.LRF_BG_SLICES_COUNT n) = s.fld (F.LRF_BG_SLICES_COUNT n) := (stored_stored hn c r).regs.fld (by simp)
  simp only
  rw [hform]
  generalize stored s n c r = u at *
  have hcount := State.fld_count_self u (F.LRF_BG_SLICES_COUNT n) 1 (by simp)
  have hlane := lane_of_lanes (State.count_lanes u (F.LRF_BG_SLICES_COUNT n) 1) n
  generalize u.count (F.LRF_BG_SLICES_COUNT n) 1 = v at *
  have htuned := tuned_backFromGap (s := v) (n := n)
  refine ⟨?_, ?_, ?_⟩
  · rw [htuned.chValid, chValid, analog_of_store (t := v) (s := u) (by rw [hlane]), ← chValid, h1]
  · rw [htuned.chFail, chFail, analog_of_store (t := v) (s := u) (by rw [hlane]), ← chFail, h2]
  · rw [htuned.regs.fld (bgSlices_untuned n), hcount, hkept]

/-! ### Steps of a LANE_CAL (R144, R205) -/

theorem calStepStart_gap {j : CalJob} (hop : s.operating = true) (hj : (s.lane n).job = some j) (hneeds : gapNeeds s n = []) (hr : 0 < j.remaining)
    (hw : (s.lane n).work = .none) (hc : chDefined s n j.next = true) (hgap : gapOpen s n 176000 = true) :
    laneState (calStepStart s n) n = 5 ∧ ((calStepStart s n).lane n).work = .step j.next := by
  have hr' : j.remaining ≠ 0 := by omega
  have hbegin : calStepStart s n = beginGap (coxCharge s 19 158) n (.step j.next) := by
    unfold calStepStart
    simp [hj, hop, hneeds, hr', hw, hc, hgap]
  rw [hbegin]
  obtain ⟨hst, hw, -⟩ := beginGap_spec (s := coxCharge s 19 158) (n := n) (.step j.next)
  exact ⟨hst, hw⟩

/-- A LANE_CAL after one more channel. -/
def CalJob.stepped (j : CalJob) (ok : Bool) : CalJob :=
  { j with
    next := j.next + 1, remaining := j.remaining - 1, done := j.done + b01 ok, failed := j.failed + b01 (!ok),
    firstFailed := if ok || j.firstFailed.isSome then j.firstFailed else some j.next }

/-- Lane `n` with the LANE_CAL `j`. -/
def withJob (s : State) (n : Nat) (j : Option CalJob) : State := s.setLane n { s.lane n with job := j }

theorem withJob_job (j : Option CalJob) : ((withJob s n j).lane n).job = j := by rw [withJob, State.lane_setLane_self]

theorem withJob_kept (j : Option CalJob) : ((withJob s n j).lane n).store = (s.lane n).store ∧ (withJob s n j).rings = s.rings := by
  rw [withJob, State.lane_setLane_self]
  exact ⟨rfl, rfl⟩

theorem jobStep_eq {j : CalJob} (ok : Bool) (hj : (s.lane n).job = some j) : jobStep s n ok =
    if (j.stepped ok).remaining = 0 then endJob' (withJob s n (some (j.stepped ok))) n 0x00 else showJob (withJob s n (some (j.stepped ok))) n := by
  unfold jobStep
  simp only [hj]
  rfl

theorem showJob_kept : (showJob s n).lanes = s.lanes ∧ (showJob s n).rings = s.rings := by
  unfold showJob
  split <;> exact ⟨rfl, rfl⟩

theorem calStepStart_undefined {j : CalJob} (hop : s.operating = true) (hj : (s.lane n).job = some j) (hneeds : gapNeeds s n = []) (hr : 1 < j.remaining)
    (hw : (s.lane n).work = .none) (hc : chDefined s n j.next = false) :
    ((calStepStart s n).lane n).job.map (fun x => (x.next, x.remaining, x.failed)) = some (j.next + 1, j.remaining - 1, j.failed + 1) := by
  have hr' : j.remaining ≠ 0 := by omega
  have hr1 : (j.stepped false).remaining ≠ 0 := Nat.sub_ne_zero_of_lt hr
  have hform : calStepStart s n = showJob (withJob s n (some (j.stepped false))) n := by
    rw [← (if_neg hr1 : (if (j.stepped false).remaining = 0 then endJob' (withJob s n (some (j.stepped false))) n 0x00
      else showJob (withJob s n (some (j.stepped false))) n) = _), ← jobStep_eq false hj]
    unfold calStepStart
    simp [hj, hop, hneeds, hr', hw, hc]
  rw [hform, lane_of_lanes showJob_kept.1, withJob_job]
  rfl

theorem endJob'_eq {j : CalJob} (status : Nat) (hj : (s.lane n).job = some j) :
    endJob' s n status = showJob (finish (withJob s n none) j.id status (jobResult j)) n := by
  unfold endJob'
  simp only [hj]
  rfl

theorem jobResult_stepped (j : CalJob) : jobResult (j.stepped true) = jobResult { j with done := j.done + 1 } := by
  simp [jobResult, CalJob.stepped, b01]

/-- A LANE_CAL ends with its status and result. -/
theorem endJob'_spec {j : CalJob} (status : Nat) (hj : (s.lane n).job = some j) (hp : Pending s j.id) :
    outcome (endJob' s n status) j.id = some (onePart status 0 (jobResult j)) ∧ ((endJob' s n status).lane n).job = none ∧
      ((endJob' s n status).lane n).store = (s.lane n).store := by
  rw [endJob'_eq status hj]
  obtain ⟨hstore, hrings⟩ := withJob_kept (s := s) (n := n) none
  have hjob := withJob_job (s := s) (n := n) none
  generalize withJob s n none = v at *
  have hout := (hp.of_rings hrings).finish status (jobResult j)
  have hlanes := (touches_finish (s := v) j.id status (jobResult j)).part .lanes (by decide)
  generalize finish v j.id status (jobResult j) = w at *
  obtain ⟨hshow, hshow'⟩ := showJob_kept (s := w) (n := n)
  have hlane := lane_of_lanes (hshow.trans hlanes) n
  refine ⟨?_, by rw [hlane, hjob], by rw [hlane, hstore]⟩
  rw [outcome, findCmd_of_rings hshow', ← outcome, hout]

/-- The last channel of a LANE_CAL completes the command (R144). -/
theorem jobStep_last {j : CalJob} (hj : (s.lane n).job = some j) (hr : j.remaining = 1) (hp : Pending s j.id) :
    outcome (jobStep s n true) j.id = some (onePart 0x00 0 (jobResult { j with done := j.done + 1 })) ∧ ((jobStep s n true).lane n).job = none ∧
      ((jobStep s n true).lane n).store = (s.lane n).store := by
  have hr0 : (j.stepped true).remaining = 0 := congrArg (fun k => k - 1) hr
  obtain ⟨hstore, hrings⟩ := withJob_kept (s := s) (n := n) (some (j.stepped true))
  have hjob := withJob_job (s := s) (n := n) (some (j.stepped true))
  rw [jobStep_eq true hj, if_pos hr0, ← jobResult_stepped]
  generalize withJob s n (some (j.stepped true)) = u at *
  obtain ⟨h1, h2, h3⟩ := endJob'_spec 0x00 hjob (hp.of_rings hrings)
  exact ⟨h1, h2, h3.trans hstore⟩

theorem job_of_storeless {l m : LaneSt} (h : l.storeless = m.storeless) : l.job = m.job := (congrArg LaneSt.job h :)

theorem laneCalStepDone_spec {j : CalJob} {cmd : Cmd} {c : Nat} (hn : n < 4) (r : CalResult) (hj : (s.lane n).job = some j) (hr : j.remaining = 1)
    (hf : findCmd s j.id = some cmd) (hd : cmd.done = false) (hl : cmd.lost = false) : let t := backFromGap (jobStep (stored s n c r) n true) n
    chValid t n c = true ∧ (t.lane n).job = none ∧ outcome t j.id = some (onePart 0x00 0 (jobResult { j with done := j.done + 1 })) := by
  obtain ⟨hvalid, -⟩ := stored_spec (s := s) (n := n) c r
  have hstored := stored_stored (s := s) hn c r
  have hrings := hstored.touches.part .rings (by decide)
  have hjob : ((stored s n c r).lane n).job = some j := (job_of_storeless hstored.lane).trans hj
  simp only
  generalize stored s n c r = u at *
  obtain ⟨hout, hnone, hstore⟩ := jobStep_last hjob hr ⟨cmd, (findCmd_of_rings hrings _).trans hf, hd, hl⟩
  generalize jobStep u n true = v at *
  have htuned := tuned_backFromGap (s := v) (n := n)
  refine ⟨?_, htuned.job hnone, ?_⟩
  · rw [htuned.chValid, chValid, analog_of_store (t := v) (s := u) hstore, ← chValid, hvalid]
  · rw [outcome, findCmd_of_rings (htuned.rings hnone), ← outcome, hout]

end

/-! ### The commands of a lane -/

section
variable {s : State} {n : Lane}

theorem touches_lockedOn : Touches (.log :: laneParts) lanePages s (lockedOn s n) := by
  have hshown : Touches [.lanes, .regs] lanePages s (lockShown s n) := (touches_setLane n _).mono.then (touches_setFld_of _ _ (lane_pages n.isLt).1)
  obtain ⟨now, h⟩ := tuneSub_eq (lockShown s n) n
  rw [lockedOn_eq]
  generalize lockShown s n = u at hshown h ⊢
  have htune : Touches [.log, .lanes] [] u (tuneSub u n) := by
    rw [h]
    exact (touches_subsNoted _).mono.then (touches_setLane n _)
  exact (hshown.mono.then htune).then (touches_settle n.isLt)

theorem touches_backFromGap : Touches laneParts lanePages s (backFromGap s n) :=
  ((touches_setLane n _).mono.then (touches_setFld_of _ _ (lane_pages n.isLt).1)).then (touches_settle n.isLt)

/-- A calibration for a tune or for a transmission that succeeds is stored, and no byte of the memory changes (R192, R207). -/
theorem coldStored {c : Nat} (hw : (s.lane n).work = .gap c ∨ ∃ f, (s.lane n).work = .cold c f) (r : CalResult) :
    ∃ t, (match (s.lane n).work, some r with
      | .cold c _, some r => lockedOn (stored s n c r) n
      | .cold c f, none => coldFailed s n c f
      | .gap c, some r => backFromGap (stored s n c r) n
      | .gap c, none => backFromGap (calFails s n c 1) n
      | _, _ => s) = t ∧ chValid t n c = true ∧ chFail t n c = false ∧ SameMemory s t := by
  have hdram : (stored s n c r).dram = s.dram := (stored_stored n.isLt c r).touches.part .dram (by decide)
  have hspec := coldStored_spec (s := s) (n := n) c r
  rcases hw with hw | ⟨f, hw⟩
  · refine ⟨backFromGap (stored s n c r) n, by rw [hw], ?_⟩
    obtain ⟨h1, h2⟩ := hspec _ tuned_backFromGap
    exact ⟨h1, h2, sameMemory_of_dram ((touches_backFromGap.part .dram (by decide)).trans hdram)⟩
  · refine ⟨lockedOn (stored s n c r) n, by rw [hw], ?_⟩
    obtain ⟨h1, h2⟩ := hspec _ tuned_lockedOn
    exact ⟨h1, h2, sameMemory_of_dram ((touches_lockedOn.part .dram (by decide)).trans hdram)⟩

theorem loopSlice_kept (k c : Nat) (gain phase : Int) : (loopSlice s k c gain phase).lanes = s.lanes ∧
    OnlyRegs s (loopSlice s k c gain phase) [A.MGM_LOOPBACK k] := by
  unfold loopSlice
  split
  · exact ⟨rfl, fun _ _ => rfl⟩
  · exact ⟨rfl, onlyRegs_setReg s _ _⟩

/-- A slice that succeeds is stored and counted (R200). -/
theorem bgSliceDone_spec (c : Nat) (r : CalResult) (gain phase : Int) : let t := loopSlice (sliceDone s n c (some r)) n c gain phase
    chValid t n c = true ∧ chFail t n c = false ∧ t.fld (F.LRF_BG_SLICES_COUNT n) = satAdd 32 (s.fld (F.LRF_BG_SLICES_COUNT n)) 1 := by
  obtain ⟨h1, h2, h3⟩ := sliceDone_spec (s := s) n.isLt c r
  simp only
  generalize sliceDone s n c (some r) = u at *
  obtain ⟨hlanes, hregs⟩ := loopSlice_kept (s := u) n c gain phase
  have hlane := lane_of_lanes hlanes n
  have hother : A.LRF_BG_SLICES n ∉ [A.MGM_LOOPBACK n] := by
    simp only [A.LRF_BG_SLICES, A.MGM_LOOPBACK, List.mem_singleton]
    have := n.isLt
    omega
  refine ⟨?_, ?_, (hregs.fld hother).trans h3⟩
  · rw [chValid, analog_of_store (s := u) (by rw [hlane]), ← chValid, h1]
  · rw [chFail, analog_of_store (s := u) (by rw [hlane]), ← chFail, h2]

theorem exec_startup {k : Nat} (r : KindFacts) (hw : (s.lane n).work = .startup k) (ha : s.answers = true) (hst : laneState s n = 5)
    (hb : blankIn s n = false) : exec (.startupCalKindDone n r) s = .next (kindDone s n k r) := by
  refine congrArg Host.Outcome.next ?_
  simp only [hw, ha, hst, hb, decide_true, Bool.not_false, Bool.and_self, if_true]

theorem exec_abandon {k : Nat} (r : KindFacts) (hw : (s.lane n).work = .startup k) (ha : s.answers = true) (hst : laneState s n = 5)
    (hb : blankIn s n = true) : exec (.startupCalAbandon n r) s = .next (kindAbandoned s n k r) := by
  refine congrArg Host.Outcome.next ?_
  simp only [hw, ha, hst, hb, decide_true, Bool.and_self, if_true]

theorem exec_startup_fails {k : Nat} {r : KindFacts} {c : Instr} (hw : (s.lane n).work = .startup k) (ha : s.answers = true) (hst : laneState s n = 5)
    (hk : k ≤ 5) (hc : (c = .startupCalKindDone n r ∧ r.ok = false ∧ blankIn s n = false) ∨ (∃ r', c = .startupCalAbandon n r' ∧ blankIn s n = true)) :
    ∃ r', r'.ok = false ∧ exec c s = .next (kindDone s n k r') := by
  rcases hc with ⟨rfl, hok, hb⟩ | ⟨r', rfl, hb⟩
  · exact ⟨r, hok, exec_startup r hw ha hst hb⟩
  · refine ⟨{ r' with ok := false }, rfl, (exec_abandon r' hw ha hst hb).trans (congrArg Host.Outcome.next ?_)⟩
    exact if_neg (by omega)

theorem exec_hop {c : Nat} (hw : (s.lane n).work = .hop c) (ha : s.answers = true) (hst : laneState s n = 2) :
    exec (.synthLockDone n) s = .next (lockedOn s n) ∧ exec (.lockFail n) s = .next (lockFail s n c) := by
  constructor
  · refine congrArg Host.Outcome.next ?_
    simp only [hw, ha, hst, decide_true, Bool.and_self, if_true]
  · refine congrArg Host.Outcome.next ?_
    simp only [hw, ha, hst, decide_true, Bool.and_self, if_true]

theorem exec_coldCalDone (r : Option CalResult) (ha : s.answers = true) (hst : laneState s n = 5) : exec (.coldCalDone n r) s =
    .next (match (s.lane n).work, r with
      | .cold c _, some r => lockedOn (stored s n c r) n
      | .cold c f, none => coldFailed s n c f
      | .gap c, some r => backFromGap (stored s n c r) n
      | .gap c, none => backFromGap (calFails s n c 1) n
      | _, _ => s) := by
  refine congrArg Host.Outcome.next ((if_pos ?_).trans ?_)
  · simp only [ha, hst, decide_true, Bool.and_self]
  · rfl

end

/-- Settles O47: the writes and events of a lane act by its tuning, which leaves its store, its transmissions and its counts; calibrations write the
store alone. -/
theorem lanesCalibrateAndTune : Obligations.LanesCalibrateAndTune := by
  unfold Obligations.LanesCalibrateAndTune
  intro s n
  have hn := n.isLt
  refine ⟨fun src data hs => ?_, fun ha hst hrun hdone hoff => ?_, fun k r hw ha hst => ⟨fun hb h1 h4 hok => ?_, fun hb hk hok => ?_, fun hk c hc => ?_,
    fun hb hk hr c rest hc => ?_⟩, fun c hw ha hst => ⟨fun hheld hoff hgap hwant => ?_, fun hb => ?_⟩, fun c ha hst hw r => ?_, fun c f ha hst hw => ?_,
    fun a ha => ⟨fun hdue => ?_, fun hdef hbit hover => ?_⟩, fun c hop hneeds hjob hgap hcox hc => ?_, fun c r g p ha hst hw => ?_,
    fun j hop hj hneeds hr hw => ⟨fun hc hgap => ?_, fun hc h1 => ?_⟩, fun j c cmd r ha hst hw hj hr hf hd hl => ?_⟩
  · obtain ⟨h1, h2, h3⟩ := laneEnableWrite_spec (src := src) (data := data) n hs
    exact ⟨_, exec_laneEnableWrite n hs, h1, h2, h3⟩
  · obtain ⟨h1, h2, h3⟩ := laneStandbyReady_spec (s := s) hn hoff
    refine ⟨_, congrArg Host.Outcome.next (if_pos ?_), h1, h2, h3⟩
    simp only [ha, hst, hrun, hdone, decide_true, Bool.and_self]
  · obtain ⟨h1', h2, h3⟩ := kindDone_next_spec (s := s) (n := n) h1 h4 hok
    exact ⟨_, exec_startup r hw ha hst hb, h1', h2, h3⟩
  · subst hk
    obtain ⟨h1, h2, h3, h4⟩ := kindDone_last_spec (s := s) (n := n) hok
    exact ⟨_, exec_startup r hw ha hst hb, h1, h2, h3, h4⟩
  · obtain ⟨r', hok, he⟩ := exec_startup_fails hw ha hst hk hc
    obtain ⟨h1, h2, h3⟩ := kindDone_fails_spec (s := s) hn hk hok
    exact ⟨_, he, h1, h2, h3⟩
  · subst hk
    obtain ⟨h1, h2, h3, h4, h5⟩ := kindAbandoned_channel_spec hn hr hc
    exact ⟨_, exec_abandon r hw ha hst hb, h1, h2.trans hw, h3, h4, h5⟩
  · obtain ⟨h1, h2, h3⟩ := lockedOn_spec hheld hoff hgap hwant
    exact ⟨_, (exec_hop hw ha hst).1, h1, h2, h3⟩
  · obtain ⟨h1, h2, h3, h4, h5⟩ := lockFail_spec (s := s) (n := n) (c := c) hb
    exact ⟨_, (exec_hop hw ha hst).2, h1, h2, h3, h4, h5⟩
  · obtain ⟨t, ht, h⟩ := coldStored hw r
    exact ⟨t, (exec_coldCalDone (some r) ha hst).trans (congrArg Host.Outcome.next ht), h⟩
  · obtain ⟨h1, h2, h3, h4, h5, h6⟩ := coldFailed_spec (s := s) hn c f
    refine ⟨_, (exec_coldCalDone none ha hst).trans ?_, h1, h2, h3, h4, h5, h6⟩
    rw [hw]
  · obtain ⟨h1, h2, h3⟩ := anchorDue_spec (s := s) (n := n) (c := anchorCh s n a)
    refine ⟨_, congrArg Host.Outcome.next (if_pos ?_), h1 a a.isLt rfl, h2, h3⟩
    simp only [ha, hdue, Bool.and_self]
  · obtain ⟨h1, h2, h3⟩ := overdueShown_spec (s := s) (n := n) (a := a) a.isLt rfl
    refine ⟨_, congrArg Host.Outcome.next (if_pos ?_), h1, h2, h3⟩
    simp only [ha, hdef, hbit, hover, Bool.not_false, Bool.and_self]
  · obtain ⟨h1, h2⟩ := bgSliceStart_spec hop hneeds hjob hgap hcox hc
    exact ⟨_, rfl, h1, h2⟩
  · obtain ⟨h1, h2, h3⟩ := bgSliceDone_spec (s := s) (n := n) c r g.toInt p.toInt
    refine ⟨_, congrArg Host.Outcome.next ((if_pos ?_).trans ?_), h1, h2, h3⟩
    · simp only [ha, hst, decide_true, Bool.and_self]
    · rw [hw]
  · obtain ⟨h1, h2⟩ := calStepStart_gap hop hj hneeds hr hw hc hgap
    exact ⟨_, rfl, h1, h2⟩
  · exact ⟨_, rfl, calStepStart_undefined hop hj hneeds h1 hw hc⟩
  · obtain ⟨h1, h2, h3⟩ := laneCalStepDone_spec hn r hj hr hf hd hl
    refine ⟨_, congrArg Host.Outcome.next ((if_pos ?_).trans ?_), h1, h2, h3⟩
    · simp only [ha, hst, decide_true, Bool.and_self]
    · rw [hw]

end Sys2Proof.Machine
end
